-- ==== Sys2Proof/Word.lean ====
section
/-!
DEFINITION. The plain arithmetic of the model: natural numbers cut to a width, saturating counters, and the signed
reading of a field. Registers hold natural numbers below 2^width; a signed field is read through `sx` and written
through `ux`. Numbers that the spec computes exactly before narrowing are `Int` or `Nat` until the narrowing.
-/
namespace Sys2Proof

/-- The low `w` bits of `v`. -/
def low (w v : Nat) : Nat := v % 2 ^ w

/-- Bit `b` of `v`. -/
def bit (v b : Nat) : Bool := v / 2 ^ b % 2 == 1

/-- Bits `[hi:lo]` of `v`. -/
def bits (v hi lo : Nat) : Nat := v / 2 ^ lo % 2 ^ (hi + 1 - lo)

/-- `v` with bit `b` set. -/
def setBit (v b : Nat) : Nat := v ||| 2 ^ b

/-- `v` with bit `b` clear. -/
def clrBit (v b : Nat) : Nat := if bit v b then v - 2 ^ b else v

/-- 1 for true, 0 for false. -/
def b2n (b : Bool) : Nat := if b then 1 else 0

/-- The two's complement reading of a `w`-bit field. -/
def sx (w v : Nat) : Int := if v < 2 ^ (w - 1) then (v : Int) else (v : Int) - 2 ^ w

/-- The `w`-bit two's complement encoding of an integer, wrapping. -/
def ux (w : Nat) (x : Int) : Nat := (x % (2 ^ w : Int)).toNat

/-- `x` limited to the closed interval from `lo` to `hi`. -/
def clampI (lo hi x : Int) : Int := if x < lo then lo else if hi < x then hi else x

/-- `x` limited to the closed interval from `lo` to `hi`. -/
def clampN (lo hi x : Nat) : Nat := if x < lo then lo else if hi < x then hi else x

/-- A count that stops at the largest value of `w` bits. -/
def satAdd (w a n : Nat) : Nat := min (a + n) (2 ^ w - 1)

/-- `x` limited to the range of a signed field of `w` bits. -/
def satS (w : Nat) (x : Int) : Int := clampI (-(2 ^ (w - 1))) (2 ^ (w - 1) - 1) x

/-- A setting whose value 0 acts as 1. -/
def orOne (n : Nat) : Nat := if n = 0 then 1 else n

/-- The quotient rounded up. A divisor of 0 gives 0. -/
def ceilDiv (a b : Nat) : Nat := (a + b - 1) / b

/-- The element at index `i` of a table, changed by `f`. -/
def upd {α : Type} {n : Nat} (v : Vector α n) (i : Fin n) (f : α → α) : Vector α n :=
  v.set i.val (f v[i]) i.isLt

/-- Every element of a table changed by `f`. -/
def updAll {α : Type} {n : Nat} (v : Vector α n) (f : α → α) : Vector α n :=
  (List.finRange n).foldl (fun v i => upd v i f) v

end Sys2Proof
end

