-- ==== Sys2Proof/Syntax.lean ====
section
/-!
DEFINITION. The commands of the block: one constructor of `Instr` for each row of the spec's opcode table, in the
table's order, and the plain types of their operands. An operand is what the outside world decides: which lane, which
instance, a written value, a measured value, the verdict of a medium or of a signature check.
-/
namespace Sys2Proof

/-- The two processor lanes (R13). -/
inductive Lane | a | b
deriving DecidableEq, Repr

/-- The other lane. -/
def Lane.other : Lane → Lane
  | .a => .b
  | .b => .a

/-- 0 for lane A, 1 for lane B, as the spec's registers number them. -/
def Lane.idx : Lane → Fin 2
  | .a => 0
  | .b => 1

/-- The initiators of a lane, with the codes of `TAL_OUT_W0.INITIATOR` (R114). -/
inductive Initiator | ap | cp | ce | asy | lnk | hw | trc | debug
deriving DecidableEq, Repr

/-- The initiator's code (R114). -/
def Initiator.code : Initiator → Nat
  | .ap => 0 | .cp => 1 | .ce => 2 | .asy => 3 | .lnk => 4 | .hw => 5 | .trc => 6 | .debug => 7

/-- The outcomes of tally-tracked work that are posted to the ring (R109). -/
inductive OutcomeCode | done | failedNoack | failedMedia | superseded | cancelled | failedOff
deriving DecidableEq, Repr

/-- The outcome's code (R109). -/
def OutcomeCode.code : OutcomeCode → Nat
  | .done => 0 | .failedNoack => 3 | .failedMedia => 4 | .superseded => 5 | .cancelled => 6 | .failedOff => 7

/-- The seven fault classes (R27), in the order of their codes (R352). -/
inductive FaultClass | la | lb | ds | na | nb | sa | sb
deriving DecidableEq, Repr

/-- The fault class's code (R352). -/
def FaultClass.code : FaultClass → Nat
  | .la => 0 | .lb => 1 | .ds => 2 | .na => 3 | .nb => 4 | .sa => 5 | .sb => 6

/-- A configuration triple (R71). -/
structure Triple where
  addr : Nat
  mask : Nat
  value : Nat
deriving DecidableEq, Repr

/-- A configuration patch (R71). -/
structure Patch where
  addr : Nat
  words : List Nat
deriving DecidableEq, Repr

/-- A base image or an overlay (R71): its triples and patches, and the header before them with its magic, its mode code (0xFF
for the base), whether its reserved bytes are zero, and its three counts. -/
structure Image where
  triples : List Triple
  patches : List Patch
  mode : Nat := 0xFF
  magic : Nat := 0x4F564C59
  zero : Bool := true
  nTriples : Nat := triples.length
  nPatches : Nat := patches.length
  nWords : Nat := (patches.map fun p => p.words.length).sum
deriving DecidableEq, Repr

/-- An image that writes nothing. -/
def Image.empty : Image := { triples := [], patches := [] }

/-- The bytes that an image takes (R71). -/
def Image.size (im : Image) : Nat := 16 + 12 * im.triples.length + (im.patches.map fun p => 8 + 4 * p.words.length).sum

/-- What the check of a signed object comes to (R66): the SHA-512 of the modulus and exponent that it carries, the exponent,
whether the signature verifies, and whether every hash that it lists matches. The empty list stands for the hash of the
development key (R2), which the spec does not spell out. -/
structure Signed where
  keyHash : List Nat := []
  exponent : Nat := 65537
  sigOk : Bool := true
  hashesOk : Bool := true
deriving DecidableEq, Repr

/-- What happens to a downlink frame on its way to a drive head (R223): the bits that turn over, byte by byte from the start
field on (a byte without an entry arrives as sent), and whether a cell arrives with a code violation. -/
structure Noise where
  flips : List (BitVec 8) := []
  violation : Bool := false
deriving DecidableEq, Repr

/-- An uplink frame as it arrives at the Deputy (R232): its bytes from the start field to the CRC, and whether a cell has a code
violation. -/
structure UplinkFrame where
  bytes : List (BitVec 8)
  violation : Bool := false
deriving DecidableEq, Repr

/-- A headframe as its bytes spell it (R65); `zero` says that its reserved bytes are zero. -/
structure Headframe where
  magic : Nat := 0x48444652
  format : Nat := 1
  keySlot : Nat := 0
  lamp : Nat × Nat := (0x00010000, 0x00010000)
  slots : Nat × Nat := (0x01000000, 0x02000000)
  copy1 : Nat × Nat := (0x00020000, 0x00020000)
  copy2 : Nat × Nat := (0x00040000, 0x00020000)
  emmcBase : Nat := 0
  emmcMhz : Nat := 200
  xspiMhz : Nat := 200
  xspiDummy : Nat := 20
  zero : Bool := true
deriving DecidableEq, Repr

/-- A boot image as its header spells it (R68), with its payload: load address, length and payload offset of each segment. -/
structure BootImage where
  magic : Nat := 0x424F4F54
  format : Nat := 1
  keySlot : Nat := 0
  version : Nat := 0
  length : Nat
  entry : Nat
  segments : List (Nat × Nat × Nat)
  zero : Bool := true
  payload : List Nat
deriving DecidableEq, Repr

/-- A configuration container as its header and images spell it (R70). `overlays` lists the overlays of mode codes 0 to 7,
`places` the offset and length of the base image and of each overlay; `flagsZero` says that the other bits of the flags are
zero, `zero` that the reserved bytes are; the hashes, the key and the signature stand as bytes. -/
structure Container where
  keySlot : Nat
  application : Nat
  arrangement : Nat
  reducedOk : Bool
  partnerWait : Nat
  timeWait : Nat
  version : Nat
  base : Image
  overlays : List Image
  magic : Nat := 0x43464743
  format : Nat := 1
  places : List (Nat × Nat) :=
    (overlays.foldl (fun (a : List (Nat × Nat) × Nat) im => (a.1 ++ [(a.2, im.size)], a.2 + im.size))
      ([(2048, base.size)], 2048 + base.size)).1
  total : Nat := (places.map fun p => p.1 + p.2).foldl max 2048
  flagsZero : Bool := true
  zero : Bool := true
  hashes : List (List Nat) := []
  key : List Nat := []
  signature : List Nat := []
deriving DecidableEq, Repr

/-- What the outside world answers to one start step: it passes, it fails with a code of R78, or it has not ended. -/
inductive StepIn | pass | fail (code : Nat) | wait
deriving DecidableEq, Repr

/-- One calibration record of the calibration partition (R138, R146): its channel (0 to 63 converter channels, 64 to 75
sigma-delta filters; higher numbers are out of range), its sequence, its lane, whether its CRC-32C holds, its
coefficients as `ADC_CHc_CORR` holds them, its bound e0, and its three bands (signal format, 0.1 degree, 0.1 V). -/
structure CalRecord where
  chan : Nat
  seq : Nat
  lane : Lane
  crcOk : Bool
  gain : Nat
  offset : Nat
  e0 : Nat
  cur : Int × Int
  temp : Int × Int
  vdc : Int × Int
deriving DecidableEq, Repr

/-- A bank of the calibration partition (R139): its position, whether its header is valid (magic and header CRC), its bank
sequence, whether the CRC over its record slots holds, its records. -/
structure CalBank where
  pos : Nat
  headerOk : Bool := true
  seq : Nat
  crcOk : Bool := true
  records : List CalRecord
deriving DecidableEq, Repr

/-- A supply of a lane island that its power-and-analog die monitors (R372, R454). -/
inductive IslandSupply
  | vbat | vint | vddc | vddm | vdda
  | vddio (bank : Fin 5)
deriving DecidableEq, Repr

/-- What cuts a safe-output test short (R348): nothing; an open request, a Safe stop or the loss of a closing condition; or
a close request, which waits. -/
inductive SoCut | none | open | close
deriving DecidableEq, Repr

/-- The readback of one safe output's test (R347): `SO_FB_k` and the `SO_LS_k` sense in the first pulse, `SO_FB_k` in the
second, and what cut the test short. -/
structure SoRead where
  out : Fin 12
  fb1 : Bool
  ls1 : Bool
  fb2 : Bool
  cut : SoCut
deriving DecidableEq, Repr

/-- What `ST13` measures of one half-bridge (R245), in 0.1 V: its gates as it begins, its bootstrap 1.5 ms after the pump starts, GL
in the pulse and after it, with the 10 ns counts that each took. -/
structure HbCheck where
  gh : Nat := 0
  gl : Nat := 0
  bst : Nat := 100
  glOn : Nat := 120
  onAfter : Nat := 0
  glOff : Nat := 0
  offAfter : Nat := 0
deriving DecidableEq, Repr

/-- What the media, tests and partners of a start hold ready for its steps (R75). `steps` gives the answer of `ST00` to
`ST19` in order; a step with no entry passes. `boot`, `hf` and `container` are the objects in the slot, the headframe and the
copy that the start tries, as they were programmed from outside, each with the check of its signature; `overlaysOk` says that
the hashes of the overlays match. `canary` says of each event of R359 whether it yielded its expected response
alone, `unexpected` whether any other response came; `selfTest` lists the averages of `ST11` that do not lie on their factory
values (12 g + 3 k + the reference of slice k of group g, and the deviation of the sum of 64 results), `sdfSeen` what each
modulator shows within 100 us: a clock edge, a 0 and a 1 (R147); `life` is the life estimate of the eMMC as `NVM_STATUS` lays
it out from bit 8 on; `banks` are the banks of the calibration partition as they were written from outside (R139); `unstable`
lists the pulse-train channels with an input level that does not stand still at `ST16` (R168); `vgd` is `VGD_x` in 0.1 V and
`hbs` what `ST13` measures of each half-bridge (R245). -/
structure StartInputs where
  steps : List StepIn
  boot : BootImage
  bootSig : Signed := {}
  hf : Headframe := {}
  hfSig : Signed := {}
  norLog2 : Nat
  life : Nat
  container : Container
  contSig : Signed := {}
  overlaysOk : Bool := true
  banks : List CalBank := []
  canary : List Bool
  unexpected : Bool
  selfTest : List (Nat × Int) := []
  sdfSeen : List (Bool × Bool × Bool) := []
  unstable : List (Fin 6) := []
  vgd : Nat := 120
  hbs : List HbCheck := []
deriving DecidableEq, Repr

/-- What the loader's checks and medium answer to a block (R82): the check of the header's signature (R66), whether programming
and read-back succeeded, and whether the whole payload's hash matches. -/
structure LoaderMedia where
  sig : Signed := {}
  programmed : Bool
  imageOk : Bool
deriving DecidableEq, Repr

/-- The kind of a conversion (R128, R129): a list entry, an urgent conversion (which aborts the entry of its phase or
meets an idle phase), or the restart of an aborted entry. -/
inductive ConvKind | normal | urgent (aborts : Bool) | restarted
deriving DecidableEq, Repr

/-- What the flux observer of a machine computes at an update, by equations that the spec does not give (R260): its angle
in 2^-32 turn, its speed and torque estimate (signal format), the distance in mA between the measured current vector and
its prediction, its stator flux on the two fixed axes (signal format, per `PSI_NOM`), and the rotation rate of the
short-circuit current vector (signal format). -/
structure ObsOut where
  theta : BitVec 32
  omega : Int
  torque : Int
  resid : Nat
  psiA : Int
  psiB : Int
  scOmega : Int
deriving DecidableEq, Repr


/-- A CAN frame as the bus carries it (R413, R414): `format` 0 classical, 1 FD, 2 XL. -/
structure CanFrame where
  format : Fin 3
  ide : Bool
  ident : BitVec 29
  brs : Bool
  esi : Bool
  remote : Bool
  sdt : BitVec 8
  vcid : BitVec 8
  sec : Bool
  acc : BitVec 32
  len : Nat
  data : List Nat
deriving DecidableEq, Repr

/-- How a CAN attempt ends (R410): without error, with an arbitration loss, or with an error of a kind that
`CANn_ERR.LAST` codes, in a data phase or not. -/
inductive CanEnd
  | done
  | lost
  | error (kind : Fin 7) (dataPhase : Bool)
deriving DecidableEq, Repr

/-- An Ethernet frame as the MAC receives it, without check sequence and tag (R421, R422): its bytes, its tag (PCP and
VID), and whether it is in error. -/
structure EthFrame where
  bytes : List Nat
  tag : Option (Fin 8 × BitVec 12)
  bad : Bool
deriving DecidableEq, Repr

/-- An 802.1AS message (R423): a Pdelay_Req with its sequence number, a Pdelay_Resp from which the station measures the
mean neighbour delay in ns, or an Announce. -/
inductive AsMsg
  | pdelayReq (seq : BitVec 16)
  | pdelayResp (delay : BitVec 32)
  | announce (present : Bool)
deriving DecidableEq, Repr

/-- One checker fault (R356): the pair (true for CP), the kind as `LCK_FAULT.KIND` codes it (1 mismatch, 2 input delay
parity, 3 output delay parity, 4 rail code, 5 collector disagreement), the compare group and the delay stage. -/
structure CheckFault where
  cp : Bool
  kind : Fin 6
  group : Fin 16
  stage : Bool
deriving DecidableEq, Repr

/-- What a rail controller senses at an update (R370, R374): the rail in 0.625 mV, the phase currents in 0.1 A, and the highest
current of each phase period that has ended since the last update, in 0.1 A. -/
structure RailSample where
  vddc : Nat
  phases : List Int
  peaks : List Int
deriving DecidableEq, Repr

/-- One sample of the `THM` block (R393): the lane die's and the power-and-analog die's sensors in 0.1 degree, the Deputy's
in degrees, and the input ratios of the NTC inputs in 2^-16. -/
structure ThmSample where
  die : List Int
  pap : List Int
  dep : List Int
  ntc : List Nat
deriving DecidableEq, Repr

/-- A sensor that a comparator of R401 watches: 0 to 7 of a lane die and 8 to 11 of its power-and-analog die, or one of the
Deputy's two. -/
inductive HotSensor | island (l : Lane) (i : Fin 12) | deputy (i : Fin 2)
deriving DecidableEq, Repr

/-- How the entry to PRODUCE ends (R444, R451): done, a media failure in step 2, or a supply loss after the key-store bank
has been begun. Every other lifecycle transition programs OTP alone. -/
inductive LcEnd | done | media | supplyLost
deriving DecidableEq, Repr

/-- The commands of the opcode table. -/
inductive Instr
  /-- `REGISTER_WRITE` (R4). An initiator of lane `l` writes `value`, `width` bits wide, at the lane address `addr` (R4, R7–R9, R41–R43). -/
  | registerWrite (l : Lane) (who : Initiator) (width addr value : Nat)
  /-- `READ_LOW_WORD_LATCH` (R10). An initiator of lane `l` reads `width` bits at `addr`; the low word of a 64-bit count latches its high word (R10). -/
  | readLowWordLatch (l : Lane) (who : Initiator) (width addr : Nat)
  /-- `ISLAND_SUPPLY_RISE` (R454). The supplies of the island of lane `l` reach their rising thresholds (R454). -/
  | islandSupplyRise (l : Lane)
  /-- `ISLAND_SUPPLY_FAULT` (R454). The supply `sup` of the island of lane `l` stays below its falling threshold for 20 us (R454). -/
  | islandSupplyFault (l : Lane) (sup : IslandSupply)
  /-- `ISLAND_S_QUALIFY` (R330). The Deputy regulator has held its range for 1 ms (R330); `wake0` and `wake1` say which wake input has been high for 1 ms; the supplies stand at the given mV. -/
  | islandSQualify (wake0 wake1 : Bool) (vbatA vbatB vso : Nat)
  /-- `ISLAND_S_LOST` (R330). The Deputy regulator leaves its range (R330). -/
  | islandSLost
  /-- `VKEEP_RISE` (R300). `VKEEP` rises (R300). -/
  | vkeepRise
  /-- `VKEEP_LOSS` (R454). `VKEEP` falls below 5.0 V (R454). -/
  | vkeepLoss
  /-- `NRESET_LOW` (R55). `nRESET_x` stays low for `ns` nanoseconds (R55). -/
  | nresetLow (l : Lane) (ns : Nat)
  /-- `LANE_START` (R468). The lane runs its start steps with what its media, tests and partners answer (R468, R75). -/
  | laneStart (l : Lane) (inp : StartInputs)
  /-- `START_STEP_TIMEOUT` (R75). The step that the start of lane `l` waits in does not end within its bound (R75). -/
  | startStepTimeout (l : Lane) (inp : StartInputs)
  /-- `PARTNER_WAIT_EXPIRY` (R77). The partner wait of `ST15` ends without an answer (R77). -/
  | partnerWaitExpiry (l : Lane) (inp : StartInputs)
  /-- `BOOT_NEXT` (R90). A write of `CFG_BOOT_NEXT.SLOT` (R90). -/
  | bootNext (l : Lane) (slot : Fin 4)
  /-- `KEY_REVOKE` (R67). A write of `CFG_KEY_REVOKE` (R67). -/
  | keyRevoke (l : Lane) (slot : Fin 4) (key : Nat)
  /-- `LOADER_BLOCK_START` (R82). A block start frame reaches the loader of lane `l` (R82). -/
  | loaderBlockStart (l : Lane) (block crc : Nat)
  /-- `LOADER_DATA` (R82). A data frame reaches the loader of lane `l` (R82). -/
  | loaderData (l : Lane) (frame : Nat) (bytes : List Nat) (media : LoaderMedia)
  /-- `WAKE_INPUT` (R84). `WAKE0` or `WAKE1` has been active for its filter time (R84). -/
  | wakeInput (pin : Fin 2)
  /-- `MODE_REQUEST` (R86). A write of `CFG_MODE_REQ.TARGET` on lane `l` (R86); `nvmBusy` says that an xSPI or eMMC operation is in progress there (R387). -/
  | modeRequest (l : Lane) (target : Fin 8) (nvmBusy : Bool)
  /-- `MODE_PARTNER_TIMEOUT` (R88). The partner has not answered the mode request within step 2 (R88). -/
  | modePartnerTimeout
  /-- `MODE_CHANGE_APPLY` (R86). The traction-cycle boundary of step 3 is reached, and steps 4 to 6 run (R86): `holdA` and `holdB` are what step 4 takes on the lanes in 10 ns, `freq` the frequency in mHz at which the master has measured the Deputy's watchdog oscillator (R101). -/
  | modeChangeApply (holdA holdB freq : Nat)
  /-- `NVM_REQ_GO` (R89). A write of `NVM_REQ_GO.GO` (R89). -/
  | nvmReqGo (l : Lane) (who : Initiator)
  /-- `TALLY_OUTCOME` (R103). The operation of entry `id` completes with `code` (R103). -/
  | tallyOutcome (l : Lane) (id : Fin 64) (code : OutcomeCode)
  /-- `TALLY_ABORT_LEAD` (R107). Lane time reaches the entry's deadline less `ABORT_LEAD` (R107). -/
  | tallyAbortLead (l : Lane) (id : Fin 64)
  /-- `TALLY_MISS` (R110). Lane time passes the entry's deadline without an outcome (R110). -/
  | tallyMiss (l : Lane) (id : Fin 64)
  /-- `TAL_CANCEL` (R111). A write of `TAL_CANCEL` (R111). -/
  | talCancel (l : Lane) (id : Fin 64)
  /-- `TAL_OUT_POP` (R114). A read of `TAL_OUT_W0` (R114). -/
  | talOutPop (l : Lane)
  /-- `TARGET_OFF_FAIL` (R112). The target block of entry `id` loses its clock or power (R112). -/
  | targetOffFail (l : Lane) (id : Fin 64)
  /-- `TIM_EXPIRY` (R115). Timer `n` counts down to its expiry (R115). -/
  | timExpiry (l : Lane) (n : Fin 8)
  /-- `TRACTION_CYCLE_BOUNDARY` (R100). The next traction-cycle boundary of lane time (R100). -/
  | tractionCycleBoundary (l : Lane)
  /-- `TIME_FRAME` (R100): `transit` is the time in 10 ns from the end of the frame at its sender to its stamp at lane `l`. `flips` are the bits that turn over on the way, byte by byte. -/
  | timeFrame (l : Lane) (flips : List (BitVec 8)) (transit : Nat)
  /-- `AS_SYNC` (R423). A two-step Sync and Follow_Up on ETH`m`: the precise origin time and the correction in ns, how long ago the Sync arrived in 10 ns, the sync interval as the message gives it, and the uncertainty of the synchronisation in us, rounded up (R99, R423). -/
  | asSync (l : Lane) (m : Fin 2) (origin corr ago : Nat) (logSync : BitVec 8) (unc : Fin 2)
  /-- `AS_PDELAY_REQ` (R423). The 802.1AS station sends Pdelay_Req (R423). -/
  | asPdelayReq (l : Lane) (m : Fin 2)
  /-- `AS_SYNC_LAPSE` (R99). No sync has arrived for 3 intervals (R99). -/
  | asSyncLapse (l : Lane) (m : Fin 2)
  /-- `DEPUTY_OSC_CORRECTION` (R101). In Parked, the once-a-second correction gives the estimate `freq` in mHz (R101). -/
  | deputyOscCorrection (freq : Nat)
  /-- `DEPUTY_OSC_SOURCE_CHANGE` (R101). In Parked, the two oscillators disagree by more than 2 % (R101). -/
  | deputyOscSourceChange
  /-- `DEPUTY_OSC_REMOVAL` (R329). The oscillators disagree by more than 2 % for 1 ms while a lane is powered (R329). -/
  | deputyOscRemoval
  /-- `ADC_TRIGGER` (R120). A trigger event crosses to group `g` (R120). -/
  | adcTrigger (l : Lane) (g : Fin 12)
  /-- `ADC_RESULT` (R123). A conversion of `kind` on slice `slice` ends with the raw code `raw`; `before` and `after` are the stream's neighbouring codes (R123, R130). -/
  | adcResult (l : Lane) (g : Fin 12) (slice : Fin 4) (raw before after : BitVec 14) (kind : ConvKind)
  /-- `ADC_URGENT` (R127). A write of `ADC_URGENT` (R127). -/
  | adcUrgent (l : Lane) (g : Fin 16) (c : Fin 64)
  /-- `ADC_QUEUE_POP` (R126). A read of `ADC_Q11_DATA`, or of `ADC_Q12_DATA` when `urgent` (R126). -/
  | adcQueuePop (l : Lane) (urgent : Bool)
  /-- `ADC_EST_STEP` (R132). The 2^16-th eligible sample: `est` gives each slice's estimates of offset, gain and skew, `quiet` says that the RMS stays below 164 LSB (R132). -/
  | adcEstStep (l : Lane) (g : Fin 12) (est : List (Int × Int × Int)) (quiet : Bool)
  /-- `ADC_CORR_WRITE` (R136). A write of `ADC_CHc_CORR` (R136). -/
  | adcCorrWrite (l : Lane) (c : Fin 64) (gain offset : BitVec 16)
  /-- `SYSCAL_MEASURE` (R140). A write of `ADC_SYSCAL_GO.MEASURE` (R140). -/
  | syscalMeasure (l : Lane)
  /-- `SYSCAL_COLLECT_DONE` (R140). The collection has its 2^`LOG2N` results (R140). -/
  | syscalCollectDone (l : Lane)
  /-- `SYSCAL_APPLY` (R141). A write of `ADC_SYSCAL_GO.APPLY` (R141). -/
  | syscalApply (l : Lane)
  /-- `SYSCAL_ABORT` (R148). A write of `ADC_SYSCAL_GO.ABORT` (R148). -/
  | syscalAbort (l : Lane)
  /-- `SDF_RESULT` (R143). Filter `n` produces a main result; `rising` and `falling` are the data bits at the two clock edges, oldest first, up to the present clock (R142, R143). -/
  | sdfResult (l : Lane) (n : Fin 12) (rising falling : List Bool)
  /-- `SDF_TRIP_COMPARE` (R144). The fast filter of input `n` is evaluated over the bits up to the present clock (R144). -/
  | sdfTripCompare (l : Lane) (n : Fin 12) (rising falling : List Bool)
  /-- `SDF_STUCK` (R145). The data line shows one bit for 256 clocks (R145). -/
  | sdfStuck (l : Lane) (n : Fin 12)
  /-- `SDF_CLK_FAULT` (R145). The external modulator clock shows no edge for 1 us (R145). -/
  | sdfClkFault (l : Lane) (n : Fin 12)
  /-- `SDF_REFILLED` (R145). The main filter has refilled after the fault ended (R145). -/
  | sdfRefilled (l : Lane) (n : Fin 12)
  /-- `RESOLVER_UPDATE` (R154). An output of resolver channel `n` from its samples; `est` holds the estimates of both offsets, the ratio and the phase, which act where a full electrical turn ends (R154, R155). -/
  | resolverUpdate (l : Lane) (n : Fin 2) (est : Int × Int × Int × Int)
  /-- `RESOLVER_CAR_STEP` (R155). 1,024 carrier periods have passed since the last step of `CAR` (R155). -/
  | resolverCarStep (l : Lane) (n : Fin 2)
  /-- `PT_COUNTING_EDGE` (R157). The lines A (bit 0) and B (bit 1) take new levels, `dt` times 2.5 ns after the last change of either; the levels have stood for `stable` times 2.5 ns (R157 to R159). -/
  | ptCountingEdge (l : Lane) (p : Fin 6) (dt stable : Nat) (levels : BitVec 2)
  /-- `PT_GLITCH` (R158). Two edges of line A, B or Z lie `gap` times 2.5 ns apart (R158). -/
  | ptGlitch (l : Lane) (p : Fin 6) (line : Fin 3) (gap : Nat)
  /-- `PT_REFERENCE_EDGE` (R160). The line Z takes a new level that has stood for `stable` times 2.5 ns (R157, R160). -/
  | ptReferenceEdge (l : Lane) (p : Fin 6) (stable : Nat) (level : Bool)
  /-- `PT_EXTRAPOLATE` (R161). The 6.25 us update, `dt` x 2.5 ns after the last counting edge (R161). -/
  | ptExtrapolate (l : Lane) (p : Fin 6) (dt : Nat)
  /-- `PT_ZERO_SPEED` (R161). `ZERO_TIME` passes without a counting edge (R161). -/
  | ptZeroSpeed (l : Lane) (p : Fin 6)
  /-- `SENT_FRAME` (R166). A frame ends; `levels` are the durations of the line's levels in 2.5 ns from the falling edge that begins the sync pulse, low before high (R166). -/
  | sentFrame (l : Lane) (n : Fin 4) (levels : List Nat)
  /-- `SENT_STALE` (R167). The last accepted frame becomes older than `STALE_TIME` (R167). -/
  | sentStale (l : Lane) (n : Fin 4)
  /-- `BAND_ENABLE` (R179). A write that sets `CE_Bn_CFG.EN` (R179). -/
  | bandEnable (l : Lane) (n : Fin 32)
  /-- `BAND_EVALUATE` (R181). The oldest sample or update on its way to band slot `n` is evaluated; its instant lies `age` delay-line steps back (R178 to R181). -/
  | bandEvaluate (l : Lane) (n : Fin 32) (age : Nat)
  /-- `BAND_EDGE_REPORT` (R183). The PWM's report on the edge that slot `n` committed reaches the slot (R183). -/
  | bandEdgeReport (l : Lane) (n : Fin 32)
  /-- `BAND_STALL` (R179). A sample-mode slot has had no sample for 100 ns (R179). -/
  | bandStall (l : Lane) (n : Fin 32)
  /-- `ARITH_TRIGGER` (R175). The trigger that `CE_Ai_CFG.TRIG` names reaches slot `i` (R175, R176). -/
  | arithTrigger (l : Lane) (i : Fin 24)
  /-- `ARITH_EXECUTE` (R176). The pipeline executes slot `i` (R176, R186 to R190). -/
  | arithExecute (l : Lane) (i : Fin 24)
  /-- `CE_INT_PRESET` (R188). A write of `CE_Ai_INT_HI`, after one of `CE_Ai_INT_LO` where `lo` gives it (R188). -/
  | ceIntPreset (l : Lane) (i : Fin 24) (lo : Option (BitVec 32)) (hi : BitVec 16)
  /-- `TRC_ARM` (R193). A write of `TRC_Bb_CMD.ARM` (R193). -/
  | trcArm (l : Lane) (b : Fin 8)
  /-- `TRC_DUMP` (R194). A write of `TRC_Bb_CMD.DUMP` (R194). -/
  | trcDump (l : Lane) (b : Fin 8)
  /-- `TRC_ABORT` (R193). A write of `TRC_Bb_CMD.ABORT` (R193). -/
  | trcAbort (l : Lane) (b : Fin 8)
  /-- `TRC_TRIGGER` (R193). A write of `TRC_Bb_CMD.TRIGGER` (R192). -/
  | trcTrigger (l : Lane) (b : Fin 8)
  /-- `TRACE_TRIGGER_EVENT` (R192). The level or event that `TRC_Bb_TRIG` selects occurs (R192). -/
  | traceTriggerEvent (l : Lane) (b : Fin 8)
  /-- `TRACE_POST_DONE` (R193). R - P records have been stored since the trigger (R193). -/
  | tracePostDone (l : Lane) (b : Fin 8)
  /-- `PWM_TRANSFER_POINT` (R204). Timebase `t` reaches its next transfer point (R198, R204). -/
  | pwmTransferPoint (l : Lane) (t : Fin 8)
  /-- `PWM_COMMIT` (R204). A write of `PWM_TBt_COMMIT.COMMIT` (R204). -/
  | pwmCommit (l : Lane) (t : Fin 8)
  /-- `PWM_DISCARD` (R205). A write of `PWM_TBt_COMMIT.DISCARD` (R205). -/
  | pwmDiscard (l : Lane) (t : Fin 8)
  /-- `PWM_SYNC_LOAD` (R199). The sync event that `PWM_TBt_CFG.SYNC` names (R199). -/
  | pwmSyncLoad (l : Lane) (t : Fin 8)
  /-- `PWM_COMPARE_EVENT` (R203). The counter reaches the `ON` compare of channel `c`, or the `OFF` compare when `on` is false (R203). -/
  | pwmCompareEvent (l : Lane) (c : Fin 64) (on : Bool)
  /-- `PWM_ENGINE_EDGE` (R210). An engine-driven channel reaches the instant of its committed edge (R210). -/
  | pwmEngineEdge (l : Lane) (c : Fin 64)
  /-- `PWM_CHANNEL_ENABLE` (R202). A write of `PWM_CHc_CFG.EN` (R202). -/
  | pwmChannelEnable (l : Lane) (c : Fin 64) (en : Bool)
  /-- `TRIP_SOURCE_ACTIVE` (R212). Trip source `src` becomes active (R211, R212). -/
  | tripSourceActive (l : Lane) (src : Fin 64)
  /-- `PWM_TG_FORCE` (R211). A write of `PWM_TG_FORCE` (R211). -/
  | pwmTgForce (l : Lane) (groups : BitVec 16)
  /-- `PWM_TG_CLEAR` (R213). A write of `PWM_TG_CLEAR` (R213). -/
  | pwmTgClear (l : Lane) (groups : BitVec 16)
  /-- `BLANK_WINDOW_CLOSE` (R215). The window of blanking timer `b` ends (R215). -/
  | blankWindowClose (l : Lane) (b : Fin 16)
  /-- `PWM_GRANT_ALIGN` (R218). The lane aligns its shared timebases after it has received the grant (R218). -/
  | pwmGrantAlign (l : Lane)
  /-- `PWM_TAKEOVER` (R219). Compare channel `c` meets both conditions of R219. -/
  | pwmTakeover (l : Lane) (c : Fin 64)
  /-- `PWM_LATE_TAKEOVER` (R219). 22 us after the grant, channel `c` is not taken over (R219). -/
  | pwmLateTakeover (l : Lane) (c : Fin 64)
  /-- `AUTH_REQ_RAISE` (R25). `AUTH_REQ_x` of lane `l` rises at the Deputy (R25). -/
  | authReqRaise (l : Lane)
  /-- `AUTH_REQ_DROP` (R22). `AUTH_REQ_x` of lane `l` falls at the Deputy (R22, R25). -/
  | authReqDrop (l : Lane)
  /-- `HOLD_GRANT` (R25). At least 20 ns after the removal the Deputy looks for an eligible requesting lane (R25). -/
  | holdGrant
  /-- `HOLD_EXPIRY` (R23). The hold reaches 50 us (R23). -/
  | holdExpiry
  /-- `CHECKER_FAULT` (R356). The checker faults of one CPU cycle (R356, R358). -/
  | checkerFault (l : Lane) (faults : List CheckFault)
  /-- `LOCKSTEP_SELF_RESET` (R357). 100 us after a checker fault (R357). -/
  | lockstepSelfReset (l : Lane)
  /-- `DEBUG_SPLIT` (R361). A halt, single step or breakpoint stops the main core of the AP pair, or of the CP pair (R361). -/
  | debugSplit (l : Lane) (cp : Bool)
  /-- `HEARTBEAT_WRITE` (R333). Firmware of lane `l` writes `DSP_Lx_HB.SEQ` of lane `x` (R333). -/
  | heartbeatWrite (l x : Lane) (seq : BitVec 8)
  /-- `HEARTBEAT_MISS` (R333). The heartbeat window of lane `l` closes without an accepted write (R333, R334). -/
  | heartbeatMiss (l : Lane)
  /-- `DEPUTY_ALIVE_TICK` (R332). The 5 us tick of `DSP_ALIVE` (R332). -/
  | deputyAliveTick
  /-- `DEPUTY_PORT_SILENT` (R28). Lane `l` has seen `DSP_ALIVE` unchanged for 20 us (R28). -/
  | deputyPortSilent (l : Lane)
  /-- `DS_PARTNER_JUDGEMENT` (R28). 10 us after its own `STATE`, lane `l` acts on the partner's view (R28). -/
  | dsPartnerJudgement (l : Lane)
  /-- `PORT_FAULT_RESET` (R28). 100 us after lane `l` has judged its own port faulty (R28). -/
  | portFaultReset (l : Lane)
  /-- `DSP_DECLARE` (R337). A write of `DSP_DECLARE.CLASS` through the port of lane `l` (R337). -/
  | dspDeclare (l : Lane) (cls : Fin 8)
  /-- `NETWORK_LOSS_COUNT` (R327). The run of cycles without a valid node frame, or with misses, stands at `NET_CNT` (R27, R324, R327). -/
  | networkLossCount (l : Lane)
  /-- `SENSOR_LOSS_COUNT` (R322). The run of implausible cycles stands at `SENS_CNT` (R27, R322). -/
  | sensorLossCount (l : Lane)
  /-- `DISAGREE_COUNT` (R323). The run of disagreeing cycles stands at `DIS_CNT` (R323). -/
  | disagreeCount (l : Lane)
  /-- `CAN_BUS_OFF` (R412). The transmit error counter of `CANn` passes 255 and the controller enters bus-off (R412). -/
  | canBusOff (l : Lane) (n : Fin 4)
  /-- `DEGRADED_EXPIRY` (R339). The Deputy's Degraded-timed timer expires (R339). -/
  | degradedExpiry
  /-- `LANE_DEGRADED_EXPIRY` (R340). `TIM7` of lane `l` expires as its Degraded-timed timer (R340). -/
  | laneDegradedExpiry (l : Lane)
  /-- `DEG_REMAIN_SAMPLE` (R340). The port of lane `l` samples `DSP_DEG_REMAIN` and `DSP_STATUS` (R340). -/
  | degRemainSample (l : Lane)
  /-- `RAMP_DONE` (R341). A write of `DSP_SS_CMD.RAMP_DONE` through the port of lane `l` (R341). -/
  | rampDone (l : Lane)
  /-- `RAMP_WINDOW_EXPIRY` (R341). The ramp window ends (R341). -/
  | rampWindowExpiry
  /-- `BRAKE_APPLIED` (R341). A write of `DSP_SS_CMD.BRAKE_APPLIED` through the port of lane `l` (R341). -/
  | brakeApplied (l : Lane)
  /-- `BRAKE_WINDOW_EXPIRY` (R341). The brake window ends (R341). -/
  | brakeWindowExpiry
  /-- `CLAMP_COMMAND` (R343). The die of lane `l` recognises its clamp line (R343). -/
  | clampCommand (l : Lane)
  /-- `CLAMP_APPLY_END` (R343). `T_APPLY` of the clamp sequence ends (R343). -/
  | clampApplyEnd (l : Lane)
  /-- `CLAMP_DEFAULT_STEP` (R343). A die without a valid frame has clamped for 1 s (R343). -/
  | clampDefaultStep (l : Lane)
  /-- `CLAMP_CONFIG_FRAME` (R343). The Deputy sends the configuration frame to the die of lane `l`. `flips` are the bits that turn over on the way, byte by byte. -/
  | clampConfigFrame (l : Lane) (flips : List (BitVec 8))
  /-- `CLAMP_DUTY_RECOMPUTE` (R343). The die of lane `l` measures `VACT_x` (0.1 V) and recomputes its duty (R343). -/
  | clampDutyRecompute (l : Lane) (vact : Nat)
  /-- `BRK_APPLY` (R344). A write of `PAP_BRK_CMD.APPLY` (R344). -/
  | brkApply (l : Lane)
  /-- `BRK_RELEASE` (R344). A write of `PAP_BRK_CMD.RELEASE` (R344). -/
  | brkRelease (l : Lane)
  /-- `BRK_AT_FORCE` (R344). Every winding has stayed within 10 % of its target for 1 ms (R344). -/
  | brkAtForce (l : Lane)
  /-- `BRK_LOOP_UPDATE` (R344). The 10 us update of the brake current loop, with the measured current of each winding in mA (R344). -/
  | brkLoopUpdate (l : Lane) (currents : List Nat)
  /-- `DSP_SO_CMD` (R345). Lane `l` writes `DSP_SOk_CMD` of output `k` (R345). -/
  | dspSoCmd (l : Lane) (k : Fin 12) (value : BitVec 22)
  /-- `SO_FB_MISMATCH` (R346). The readback levels of output `k` have differed from its state for 1 ms (R346). -/
  | soFbMismatch (k : Fin 12) (fb ls : Bool)
  /-- `SO_TEST_ROUND` (R347). A test round falls due; an output without a readback in `reads` reads as R346 gives (R347). -/
  | soTestRound (reads : List SoRead)
  /-- `SO_TEST_GO` (R347). A write of `DSP_SO_TEST_CMD` with `GO` through the port of lane `l` (R347). -/
  | soTestGo (l : Lane) (out : Fin 16) (read : SoRead)
  /-- `CONTACTOR_PULL_END` (R278). `T_PULL` of the contactor on output `k` elapses (R278). -/
  | contactorPullEnd (k : Fin 12)
  /-- `CONTACTOR_DROP_END` (R278). `T_DROP` of contactor `c` elapses at the `NRG` block of lane `l` (R278). -/
  | contactorDropEnd (l : Lane) (c : Fin 6)
  /-- `CLOSE_MAIN` (R280). Lane `l` writes `NRG_CTR_CMD` with `CLOSE_MAIN` (R280). -/
  | closeMain (l : Lane)
  /-- `PRECHARGE_REACHED` (R280). The link has reached `PCT` % of the pack voltage (R280). -/
  | prechargeReached (l : Lane)
  /-- `PRECHARGE_TIMEOUT` (R280). `T_MAX` has passed without it (R280). -/
  | prechargeTimeout (l : Lane)
  /-- `OPEN_MAIN` (R281). Lane `l` writes `NRG_CTR_CMD` with `OPEN_MAIN` (R281). -/
  | openMain (l : Lane)
  /-- `OPEN_CURRENT_WAIT_END` (R281). The pack current has fallen to `I_OPEN`, or `T_WAIT` has passed (R281). -/
  | openCurrentWaitEnd (l : Lane)
  /-- `WELD_CHECK_END` (R281). The voltage change of the present weld check has come, or its time has passed (R281). -/
  | weldCheckEnd (l : Lane)
  /-- `CLOSE_DC` (R283). Lane `l` writes `NRG_CTR_CMD` with `CLOSE_DC` (R283). -/
  | closeDc (l : Lane)
  /-- `OPEN_DC` (R279). Lane `l` writes `NRG_CTR_CMD` with `OPEN_DC` (R279). -/
  | openDc (l : Lane)
  /-- `CLOSE_AC` (R283). Lane `l` writes `NRG_CTR_CMD` with `CLOSE_AC` (R283). -/
  | closeAc (l : Lane)
  /-- `OPEN_AC` (R279). Lane `l` writes `NRG_CTR_CMD` with `OPEN_AC` (R279). -/
  | openAc (l : Lane)
  /-- `WELD_TEST` (R281). Lane `l` writes `NRG_CTR_CMD` with `WELD_TEST` (R281). -/
  | weldTest (l : Lane)
  /-- `CLEAR_WELD` (R282). Lane `l` writes `NRG_CTR_CMD` with `CLEAR_WELD` (R282). -/
  | clearWeld (l : Lane)
  /-- `DC_OVERCURRENT` (R283). The pack current has exceeded `I_DC_MAX` for 100 ms (R283). -/
  | dcOvercurrent (l : Lane)
  /-- `OV1_CROSS` (R272). The OV1 comparator of lane `l` turns on or off (R272). -/
  | ov1Cross (l : Lane) (on : Bool)
  /-- `OV2_CROSS` (R273). The OV2 comparator of lane `l` turns on (R273). -/
  | ov2Cross (l : Lane)
  /-- `OV2_RELEASE` (R273). The OV2 comparator of lane `l` turns off; with the last of them the Deputy releases (R273). -/
  | ov2Release (l : Lane)
  /-- `OV3_CROSS` (R274). The OV3 comparator of lane `l` turns on (R274). -/
  | ov3Cross (l : Lane)
  /-- `OV3_HOLD_EXPIRY` (R274). `HOLD` ms have passed since both OV3 lines went inactive (R274). -/
  | ov3HoldExpiry
  /-- `OV3_CONTACTOR_OPEN` (R274). With OV3 on, the pack current has stayed below `ACC_MIN` for 1 ms (R274). -/
  | ov3ContactorOpen (l : Lane)
  /-- `HVC_SET_WRITE` (R285). A write of `NRG_HVC_SET` (R285). -/
  | hvcSetWrite (l : Lane) (vset iset : BitVec 16)
  /-- `HVC_SOFT_DONE` (R286). The converter's setpoint has reached `VSET` (R286). -/
  | hvcSoftDone (l : Lane)
  /-- `OBC_SYNC_DONE` (R288). The loop has been locked with the grid at amplitude `v` and frequency `f` for 1 s (R288). -/
  | obcSyncDone (l : Lane) (v f : BitVec 16)
  /-- `OBC_BUS_REACHED` (R288). The intermediate bus has reached its precharge level (R288). -/
  | obcBusReached (l : Lane)
  /-- `OBC_GRID_TRIP` (R288). The grid has been outside a window, at amplitude `v` and frequency `f`, for `T_V` or `T_F` (R288). -/
  | obcGridTrip (l : Lane) (v f : BitVec 16)
  /-- `OBC_GRID_RETURN` (R288). The grid has been at amplitude `v` and frequency `f` within both windows for 60 s (R288). -/
  | obcGridReturn (l : Lane) (v f : BitVec 16)
  /-- `MOT_OBSERVER_UPDATE` (R250). The next observer update of machine `m`, with what the flux observer computes at it (R250, R260). -/
  | motObserverUpdate (l : Lane) (m : Fin 2) (o : ObsOut)
  /-- `MOT_TSAT_EXPIRY` (R256). A phase of machine `m` has had its error beyond h for `TSAT` us (R256). -/
  | motTsatExpiry (l : Lane) (m : Fin 2)
  /-- `MOT_XCHK_TIMEOUT` (R265). The cross-check fault of machine `m` has persisted for `XCHK.TIME` ms (R261, R265). -/
  | motXchkTimeout (l : Lane) (m : Fin 2)
  /-- `MOT_RECTIFY_TIMEOUT` (R261). A phase current of machine `m` has been at or above `I_ZERO` for 2 ms (R261). -/
  | motRectifyTimeout (l : Lane) (m : Fin 2)
  /-- `MOT_PREF_TIMEOUT` (R261). The preferred angle source of machine `m` has been usable or confident for 1 ms (R261). -/
  | motPrefTimeout (l : Lane) (m : Fin 2)
  /-- `CATCH_PULSE_START` (R263). A catching pulse of machine `m` starts (R263). -/
  | catchPulseStart (l : Lane) (m : Fin 2)
  /-- `CATCH_PULSE_END` (R263). `T_PULSE` has passed (R263). -/
  | catchPulseEnd (l : Lane) (m : Fin 2)
  /-- `MOT_INJECTION_STEP` (R264). The present timed part of the pulse injection ends (R264). -/
  | motInjectionStep (l : Lane) (m : Fin 2)
  /-- `MOT_RECATCH` (R261). A write of `MOT_Mm_CMD.RECATCH` (R261). -/
  | motRecatch (l : Lane) (m : Fin 2)
  /-- `KE_WINDOW_END` (R266). The back-EMF window of machine `m` ends (R266). -/
  | keWindowEnd (l : Lane) (m : Fin 2)
  /-- `LVP_SAMPLE` (R293): VBAT and VBUS in 10 mV, and I_P in 0.1 A as the results of channel `IBAT_CH` show it (the spec gives no scale between the two). -/
  | lvpSample (l : Lane) (vbat vbus : Nat) (ip : Int)
  /-- `LVP_HANDOVER` (R294). The converter has left `SOFT` and `RUN` with the path in `CONV` (R293, R294). -/
  | lvpHandover (l : Lane)
  /-- `LVP_HANDOVER_END` (R294). The bus has been supplied from the battery for 100 us, or 2 ms have passed (R294). -/
  | lvpHandoverEnd (l : Lane)
  /-- `LVP_REQUAL_END` (R295). The 50 ms requalification hold ends (R295). -/
  | lvpRequalEnd (l : Lane)
  /-- `LVP_CUTOFF` (R293). VBAT has stayed below `V_CUTOFF` for 10 s (R293). -/
  | lvpCutoff (l : Lane)
  /-- `LVP_RECONNECT` (R293). A write of `LVP_CMD.RECONNECT` (R293). -/
  | lvpReconnect (l : Lane)
  /-- `LVP_PROFILE_STEP` (R296). The profile step of each 10 ms; `limiting` says whether I* limits the converter (R296). -/
  | lvpProfileStep (l : Lane) (limiting : Bool)
  /-- `ACT_UNDERVOLTAGE` (R299). `VACT_x` has stood at `vact` (0.1 V) for 1 ms (R299). -/
  | actUndervoltage (l : Lane) (vact : Nat)
  /-- `BTN_PRESS` (R300). `BTN` has been low for 50 ms at the keeper of lane `l` (R300). -/
  | btnPress (l : Lane)
  /-- `BTN_RELEASE` (R300). `BTN` is released; the keeper of lane `l` judges that the press lasted `ms` (R300). -/
  | btnRelease (l : Lane) (ms : Nat)
  /-- `BTN_HELD_MARK` (R300). The press reaches the 20 s mark, or the 1 s mark in Storage, at the keeper of lane `l` (R300). -/
  | btnHeldMark (l : Lane)
  /-- `KEEPER_DECISION_RECEIVED` (R300). The keeper of lane `l` receives the other keeper's decision (R300). -/
  | keeperDecisionReceived (l : Lane)
  /-- `KEEPER_ACTION_STEP` (R301). The next timed step of the action of the keeper of lane `l` (R301). -/
  | keeperActionStep (l : Lane)
  /-- `LINK_FRAME_MODE` (R86): `nvmBusy` whether a medium of the receiving lane is busy. `flips` are the bits that turn over on the way, byte by byte. -/
  | linkFrameMode (l : Lane) (flips : List (BitVec 8)) (nvmBusy : Bool)
  /-- `LINK_FRAME_CMP` (R321): `l` is the lane that receives. `flips` are the bits that turn over on the way, byte by byte. -/
  | linkFrameCmp (l : Lane) (flips : List (BitVec 8))
  /-- `LINK_FRAME_IN` (R321): `l` is the lane that receives. `flips` are the bits that turn over on the way, byte by byte. -/
  | linkFrameIn (l : Lane) (flips : List (BitVec 8))
  /-- `LINK_FRAME_ACK` (R310): `l` is the lane that receives. `flips` are the bits that turn over on the way, byte by byte. -/
  | linkFrameAck (l : Lane) (flips : List (BitVec 8))
  /-- `LINK_FRAME_STATE` (R306): `l` is the lane that receives. `flips` are the bits that turn over on the way, byte by byte. -/
  | linkFrameState (l : Lane) (flips : List (BitVec 8))
  /-- `LINK_FRAME_COPY` (R311): `l` is the lane that receives. `flips` are the bits that turn over on the way, byte by byte. -/
  | linkFrameCopy (l : Lane) (flips : List (BitVec 8))
  /-- `LINK_FRAME_COPY_END` (R311): `wrong` is how the signature that the frame names differs from the sender's own (0 where it does not). `flips` are the bits that turn over on the way, byte by byte. -/
  | linkFrameCopyEnd (l : Lane) (flips : List (BitVec 8)) (wrong : BitVec 32)
  /-- `LINK_FRAME_IDLE` (R306): `l` is the lane that receives. `flips` are the bits that turn over on the way, byte by byte. -/
  | linkFrameIdle (l : Lane) (flips : List (BitVec 8))
  /-- `LANE_LINK_LOST` (R307). Lane `l` has received no valid frame for 5 us (R307). -/
  | laneLinkLost (l : Lane)
  /-- `COPY_ACK_TIMEOUT` (R310). No answer has reached lane `l` within 5 us of its `COPY_END` (R310). -/
  | copyAckTimeout (l : Lane)
  /-- `SNAPSHOT_PERIOD` (R313). `LNK_SNAP_CFG.PERIOD` ms have passed since the last snapshot (R313). -/
  | snapshotPeriod (l : Lane)
  /-- `SNAP_NOW` (R313). A write of `LNK_CMD.SNAP_NOW` (R313). -/
  | snapNow (l : Lane)
  /-- `SNAPSHOT_SEARCH_END` (R315): the bits of the newest slot that turn over in the medium, byte by byte. -/
  | snapshotSearchEnd (l : Lane) (flips : List (BitVec 8))
  /-- `HANDOVER` (R318). A write of `LNK_CMD.HANDOVER` (R318). -/
  | handover (l : Lane)
  /-- `CHASSIS_BOUNDARY` (R321). The next chassis boundary (R320, R321). -/
  | chassisBoundary (l : Lane)
  /-- `CHASSIS_SEAL` (R324). A write of `LNK_CHS_SEAL.SEAL` (R324). -/
  | chassisSeal (l : Lane)
  /-- `CHASSIS_CMD_DEADLINE` (R324). b + `CMD_DL` passes (R324). -/
  | chassisCmdDeadline (l : Lane)
  /-- `CHASSIS_COMPARE` (R323). Step 5 of R321 ends: the partner's `CMP` has arrived, or b + `CMD_DL` + `CMP_WAIT` passes. -/
  | chassisCompare (l : Lane)
  /-- `CHASSIS_NODE_FRAME` (R327). The lane takes the next frame that the controller of the chassis network has handed over, by the receive template that selected it (R327, R413, R424). -/
  | chassisNodeFrame (l : Lane)
  /-- `HOIST_SET_SC` (R228). The Deputy sends `SET_SC` on link `n`; `nz` is what happens to the frame (R228, R240). -/
  | hoistSetSc (n : Fin 40) (nz : Noise)
  /-- `HOIST_SET_GATE` (R228). The Deputy sends `SET_GATE` on link `n` (R228, R240). -/
  | hoistSetGate (n : Fin 40) (nz : Noise)
  /-- `HOIST_SET_LOSS` (R228). The Deputy sends `SET_LOSS` on link `n` (R228, R240). -/
  | hoistSetLoss (n : Fin 40) (nz : Noise)
  /-- `HOIST_READ` (R228). The Deputy sends `READ` on link `n` (R228, R240). -/
  | hoistRead (n : Fin 40) (nz : Noise)
  /-- `HOIST_HLG_TEST` (R228). The Deputy sends `HLG_TEST` on link `n`; `seen` lists the codes that it then decodes on `HLG_nn` with the ns each lasts (R231, R240). -/
  | hoistHlgTest (n : Fin 40) (nz : Noise) (seen : List (Fin 3 × Nat))
  /-- `HOIST_RUN` (R228). The Deputy sends `RUN` on link `n` (R228, R240). -/
  | hoistRun (n : Fin 40) (nz : Noise)
  /-- `HOIST_ANSWER_TIMEOUT` (R229). No answer arrives within 8.0 us of the frame on link `n`; `nz` is what happens to the frame that is resent (R229). -/
  | hoistAnswerTimeout (n : Fin 40) (nz : Noise)
  /-- `HOIST_ACK` (R232). A frame that arrives on `HLS_nn` as an `ACK` (R232). -/
  | hoistAck (n : Fin 40) (f : UplinkFrame)
  /-- `HOIST_ECHO` (R240). A frame that arrives on `HLS_nn` as an `ECHO`; `statusOk` says that its `STATUS` agrees (R232, R240). -/
  | hoistEcho (n : Fin 40) (f : UplinkFrame) (statusOk : Bool)
  /-- `HOIST_STATUS` (R234). A frame that arrives on `HLS_nn` as a `STATUS` (R231, R232). -/
  | hoistStatus (n : Fin 40) (f : UplinkFrame)
  /-- `HOIST_FAULT` (R234). A frame that arrives on `HLS_nn` as a `FAULT` (R232, R234). -/
  | hoistFault (n : Fin 40) (f : UplinkFrame)
  /-- `HOIST_STAT_LOSS` (R234). No valid `STATUS` has arrived for 10 us (R234). -/
  | hoistStatLoss (n : Fin 40)
  /-- `HOIST_TICK` (R225). The Deputy sends a tick on each downlink in run state (R225). -/
  | hoistTick
  /-- `HEAD_LINK_LOSS` (R224). The head of link `n` sees no activity for 2 us (R224). -/
  | headLinkLoss (n : Fin 40)
  /-- `HEAD_SHORT_CIRCUIT` (R235). The voltage between the Kelvin and the power source of link `n`'s switch has stood at `mv` mV for `ns` ns (R235). -/
  | headShortCircuit (n : Fin 40) (mv ns : Nat)
  /-- `HLG_CODE_CHANGE` (R231). `HLG_nn` stands `high` or low since `held` ns, and `gap` ns lie between its last two edges (R231). -/
  | hlgCodeChange (n : Fin 40) (high : Bool) (held gap : Nat)
  /-- `LEG_TURN_ON_RELEASE` (R237). The partner's confirmation completes for the pending turn-on of link `n` (R237). -/
  | legTurnOnRelease (n : Fin 40)
  /-- `LEG_TURN_ON_WITHHOLD` (R237). `T_WAIT` passes without the confirmation for link `n` (R237). -/
  | legTurnOnWithhold (n : Fin 40)
  /-- `HEN_LOW` (R236). `HENn` has been low for `ns` ns (R236). -/
  | henLow (g : Fin 8) (ns : Nat)
  /-- `HEN_RELEASE` (R236). `HENn` rises after `ns` ns low; the heads of `persist` still have their fault condition (R236). -/
  | henRelease (g : Fin 8) (ns : Nat) (persist : List (Fin 40))
  /-- `HLK_TRAIN_START` (R239). A write of `HLK_TRAIN_CMD.START` (R239). -/
  | hlkTrainStart (l : Lane)
  /-- `HLK_TRAIN_ABORT` (R240). A write of `HLK_TRAIN_CMD.ABORT` (R240). -/
  | hlkTrainAbort (l : Lane)
  /-- `PD_GATE_ERROR` (R241). GH (or GL) of half-bridge `n` stands at `v` x 0.1 V at the end of `T_WAIT` (R241). -/
  | pdGateError (l : Lane) (n : Fin 16) (hi : Bool) (v : BitVec 8)
  /-- `PD_TURN_ON_WITHHOLD` (R241). The turn-on of GH (or GL) is not confirmed within `T_WAIT` (R241, R243). -/
  | pdTurnOnWithhold (l : Lane) (n : Fin 16) (hi : Bool)
  /-- `BST_UNDERVOLTAGE` (R243). The bootstrap of half-bridge `n` reads `bst` x 0.1 V, below 7.0 V (R243). -/
  | bstUndervoltage (l : Lane) (n : Fin 16) (bst : BitVec 8)
  /-- `PD_FAULT_CLEAR` (R244). A write of 1 to `SHORT` or `BST_UV` of `PAP_HBn_STATUS` (R244). -/
  | pdFaultClear (l : Lane) (n : Fin 16) (short uv : Bool)
  /-- `VDD_GO` (R380). A write of `SYS_VDD_GO` (R380). -/
  | vddGo (l : Lane) (who : Initiator)
  /-- `RLK_SET` (R381). The next `SET` frame in its lane slot (R381). `flip` are the bits of the frame that turn over on the way (R378). -/
  | rlkSet (l : Lane) (flip : BitVec 32)
  /-- `RLK_NAP` (R385). A `NAP` frame (R378, R385). `flip` are the bits of the frame that turn over on the way (R378). -/
  | rlkNap (l : Lane) (flip : BitVec 32)
  /-- `RLK_WAKE` (R386). A `WAKE` frame (R378, R386). `flip` are the bits of the frame that turn over on the way (R378). -/
  | rlkWake (l : Lane) (flip : BitVec 32)
  /-- `RLK_STATUS` (R378). A `STATUS` frame (R378). `flip` are the bits of the frame that turn over on the way (R378). -/
  | rlkStatus (l : Lane) (flip : BitVec 32)
  /-- `RLK_ACK` (R382). An `ACK` frame (R382). `flip` are the bits of the frame that turn over on the way (R378). -/
  | rlkAck (l : Lane) (flip : BitVec 32)
  /-- `RLK_SUPERSEDED` (R381). A `SUPERSEDED` frame (R381). `flip` are the bits of the frame that turn over on the way (R378). -/
  | rlkSuperseded (l : Lane) (flip : BitVec 32)
  /-- `RLK_NAP_DONE` (R385). A `NAP_DONE` frame (R385). `flip` are the bits of the frame that turn over on the way (R378). -/
  | rlkNapDone (l : Lane) (flip : BitVec 32)
  /-- `VRC_SETTLED` (R382). The rail has stayed within 5 mV of the target for 2 us (R382). -/
  | vrcSettled (l : Lane)
  /-- `RLK_LOSS` (R379). 10 us without a valid frame at the lane, or at its rail controller (R379). -/
  | rlkLoss (l : Lane) (controller : Bool)
  /-- `VRC_UPDATE` (R373). The update every 250 ns with what the controller senses (R370, R373, R374). -/
  | vrcUpdate (l : Lane) (m : RailSample)
  /-- `VRC_SHED` (R375). The total current has stayed below the shed threshold for `DWELL` us (R375). -/
  | vrcShed (l : Lane)
  /-- `VRC_SHED_RAMP_END` (R375). 8 periods after a shed began (R375). -/
  | vrcShedRampEnd (l : Lane)
  /-- `VRC_RESTORE` (R375). The controller judges the restore condition on the total current and its slope (R375). -/
  | vrcRestore (l : Lane)
  /-- `PWR_IDLE` (R384). `SYS_PWR_REQ.TARGET` = Idle with both pairs waiting for an interrupt (R384). -/
  | pwrIdle (l : Lane)
  /-- `IDLE_INTERRUPT` (R384). An interrupt in Idle (R384). -/
  | idleInterrupt (l : Lane)
  /-- `PWR_NAP` (R385). `SYS_PWR_REQ.TARGET` = Nap; `nvmBusy` says that an xSPI or eMMC operation runs, `abort` names the condition of R387 that arises during steps 2 to 5 (0 none). -/
  | pwrNap (l : Lane) (nvmBusy : Bool) (abort : Fin 9)
  /-- `NAP_WAKE` (R386). A wake source fires: the expiry of a timer, or a Deputy wake request (R386). -/
  | napWake (l : Lane) (tim : Option (Fin 8))
  /-- `THM_SAMPLE` (R396). A sample of every source (R393, R396). -/
  | thmSample (l : Lane) (m : ThmSample)
  /-- `THERMAL_SHUTDOWN` (R401). A die sensor reaches 158 degrees (R401). -/
  | thermalShutdown (sensor : HotSensor)
  /-- `THERMAL_RELEASE` (R401). Every sensor of a lane's island, or of island S, has stayed below 135 degrees for 2 s (R401). -/
  | thermalRelease (isl : Option Lane)
  /-- `CAN_TX_GO` (R409). A write of `CANn_TX_GO.GO` (R409). -/
  | canTxGo (l : Lane) (who : Initiator) (n : Fin 4)
  /-- `CAN_ATTEMPT_START` (R410). `CANn` samples the start-of-frame bit of an attempt (R410, R416). -/
  | canAttemptStart (l : Lane) (n : Fin 4)
  /-- `CAN_ATTEMPT_END` (R410). The attempt under way ends (R410). -/
  | canAttemptEnd (l : Lane) (n : Fin 4) (e : CanEnd)
  /-- `CAN_RX_FRAME` (R413). A valid frame has been received; its start-of-frame sample lies `ago` x 10 ns back (R413, R414). -/
  | canRxFrame (l : Lane) (n : Fin 4) (f : CanFrame) (ago : Nat)
  /-- `CAN_RX_POP` (R414). A write of `CANn_RX_POP.POP` (R414). -/
  | canRxPop (l : Lane) (n : Fin 4)
  /-- `CAN_HP_POP` (R414). A write of `CANn_HP_POP.POP` (R414). -/
  | canHpPop (l : Lane) (n : Fin 4)
  /-- `CAN_RECOVER` (R412). A write of `CANn_CMD.RECOVER` (R412). -/
  | canRecover (l : Lane) (n : Fin 4)
  /-- `CAN_RECOVERY_DONE` (R412). 128 occurrences of 11 recessive bits have passed (R412). -/
  | canRecoveryDone (l : Lane) (n : Fin 4)
  /-- `CAN_ENABLE` (R406). The controller takes `CANn_CTRL.EN` as it stands (R406). -/
  | canEnable (l : Lane) (n : Fin 4)
  /-- `CAN_INTEGRATED` (R406). 11 consecutive recessive bits complete the integration (R406). -/
  | canIntegrated (l : Lane) (n : Fin 4)
  /-- `CAN_CELL_START` (R416). The window of column `c` opens at its next instant in a base cycle (R415, R416). -/
  | canCellStart (l : Lane) (n : Fin 4) (c : Fin 32)
  /-- `CAN_WINDOW_CLOSE` (R416). The open schedule window closes (R416). -/
  | canWindowClose (l : Lane) (n : Fin 4)
  /-- `ETH_TX_GO` (R420). A write of `ETHm_TX_GO.GO` (R420). -/
  | ethTxGo (l : Lane) (who : Initiator) (m : Fin 3)
  /-- `ETH_RX_FRAME` (R421). A frame has been received; its start-frame delimiter lies `ago` x 10 ns back (R421, R422). -/
  | ethRxFrame (l : Lane) (m : Fin 3) (f : EthFrame) (ago : Nat)
  /-- `ETH_RX_RELEASE` (R421). A write of `ETHm_RX_RELEASE.COUNT` (R421). -/
  | ethRxRelease (l : Lane) (m : Fin 3) (count : Nat)
  /-- `ETH_MDIO` (R419). A write of `ETHm_MDIO` (R419). -/
  | ethMdio (l : Lane) (m : Fin 3) (value : BitVec 32)
  /-- `ETH_LINK_CHANGE` (R420). The link goes up or down with what it negotiated (R419, R420). -/
  | ethLinkChange (l : Lane) (m : Fin 3) (up : Bool) (speed : Fin 4) (full : Bool) (anDone : Bool)
  /-- `T1S_COLLISION` (R425). A collision on the mixing segment (R425). -/
  | t1sCollision (l : Lane)
  /-- `ASY_REQ_COMMIT` (R431). A write of `ASY_REQ.COMMIT` (R431). -/
  | asyReqCommit (l : Lane)
  /-- `ASY_XIN_SUBMIT` (R437). A write of `ASY_XIN5` (R437, R438). -/
  | asyXinSubmit (l : Lane) (crc : BitVec 32)
  /-- `HOLDUP` (R440). `VBAT_x` stands below 8.5 V for 20 us; `written` says that the slot reads back equal, `tagOk` that its tag will verify (R440). -/
  | holdup (l : Lane) (written tagOk : Bool)
  /-- `COUNTERSIGN` (R441). The sealed record is taken up for its signature (R441). -/
  | countersign (l : Lane)
  /-- `SEC_LC_REQ` (R443). A write of `SEC_LC_REQ` (R443, R444). -/
  | secLcReq (l : Lane) (who : Initiator) (target : BitVec 3) (key : BitVec 16) (e : LcEnd)
  /-- `SEC_KEY_PROG` (R443). A write of `SEC_KEY_PROG` with `GO` set (R443). -/
  | secKeyProg (l : Lane) (who : Initiator) (slot : Fin 4)
  /-- `DBG_CHALLENGE` (R445). A write of `SEC_DBG_CMD.CHALLENGE` (R445). -/
  | dbgChallenge (l : Lane) (who : Initiator)
  /-- `CHALLENGE_LAPSE` (R445). 60 s after a challenge (R445). -/
  | challengeLapse (l : Lane)
  /-- `DBG_OPEN` (R446). A write of `SEC_DBG_CMD.OPEN`; `obj` says what the cryptography finds in the object at `SEC_DBG_SRC`: its key and whether its signature over the challenge verifies (R66, R446). -/
  | dbgOpen (l : Lane) (who : Initiator) (obj : Signed)
  /-- `SEC_JOB_GO` (R447). A write of `SEC_JOB_GO` (R447). -/
  | secJobGo (l : Lane) (who : Initiator)
  /-- `ENTROPY_HEALTH_FAIL` (R449). A continuous health test of the entropy source fails (R449). -/
  | entropyHealthFail (l : Lane)
  /-- `CVU_START` (R364). A write of `CVU_Un_CMD.START` (R364). -/
  | cvuStart (l : Lane) (who : Initiator) (n : Fin 4)
  /-- `CVU_DATA32` (R364). A write of `CVU_Un_DATA32`; `differ` says that the unit's two copies disagree (R364). -/
  | cvuData32 (l : Lane) (who : Initiator) (n : Fin 4) (value : BitVec 32) (differ : Bool)
  /-- `CVU_DATA16` (R364). A write of `CVU_Un_DATA16` (R364). -/
  | cvuData16 (l : Lane) (who : Initiator) (n : Fin 4) (value : BitVec 32) (differ : Bool)
  /-- `CVU_DATA8` (R364). A write of `CVU_Un_DATA8` (R364). -/
  | cvuData8 (l : Lane) (who : Initiator) (n : Fin 4) (value : BitVec 32) (differ : Bool)
  /-- `CVU_END` (R365). A write of `CVU_Un_CMD.END` (R364 to R366). -/
  | cvuEnd (l : Lane) (who : Initiator) (n : Fin 4)
  /-- `CVU_ABORT` (R367). A write of `CVU_Un_CMD.ABORT` (R367). -/
  | cvuAbort (l : Lane) (who : Initiator) (n : Fin 4)
  /-- `CVU_RESYNC` (R366). A write of `CVU_Un_CMD.RESYNC` (R366). -/
  | cvuResync (l : Lane) (who : Initiator) (n : Fin 4)
  /-- `TIME_WAIT_EXPIRY` (R75). The time wait of `ST18` ends without a source (R75). -/
  | timeWaitExpiry (l : Lane) (inp : StartInputs)
  /-- `PRECHARGE_OVERLAP_END` (R280). `T_OVL` ms have passed since MP closed (R280). -/
  | prechargeOverlapEnd (l : Lane)
  /-- `PD_TURN_ON_RELEASE` (R241). The gate opposite to GH (or GL) stands at `v` x 0.1 V and has stood below `VOFF` for `held` x 10 ns (R241, R243). -/
  | pdTurnOnRelease (l : Lane) (n : Fin 16) (hi : Bool) (v : BitVec 8) (held : Nat)
  /-- `BOOTSTRAP_LOW` (R243). The bootstrap of half-bridge `n` reads `bst` x 0.1 V (R243). -/
  | bootstrapLow (l : Lane) (n : Fin 16) (bst : BitVec 8)
  /-- `TRIP_SOURCE_INACTIVE` (R211). Trip source `src` becomes inactive (R211). -/
  | tripSourceInactive (l : Lane) (src : Fin 64)
  /-- `OV3_LINES_INACTIVE` (R274). The OV3 comparator of lane `l` turns off; with the last of them the `HOLD` timer starts (R274). -/
  | ov3LinesInactive (l : Lane)
  /-- `HOLD_REPLAY_EDGE` (R349). The multiplexer's replay reaches the next held edge of channel `c` (R349). -/
  | holdReplayEdge (c : Fin 64)
  /-- `SO_CURRENT_LIMIT` (R458). Output `k` has stood in its current limit for 100 us (R458). -/
  | soCurrentLimit (k : Fin 12)
  /-- `ETH_MDIO_DONE` (R419). The management access ends; `data` is what a read returns (R419). -/
  | ethMdioDone (l : Lane) (m : Fin 3) (data : BitVec 16)
  /-- `PLCA_BEACON_CHANGE` (R425). BEACONs start or stop (R425). -/
  | plcaBeaconChange (l : Lane) (seen : Bool)
  /-- `AS_PDELAY_ANNOUNCE_RX` (R423). An 802.1AS message arrives (R423). -/
  | asPdelayAnnounceRx (l : Lane) (m : Fin 2) (msg : AsMsg)
  /-- `BTN_HELD_8S` (R302). The press reaches the 8 s mark at the keeper of lane `l` (R302). -/
  | btnHeld8s (l : Lane)
  /-- `LAMP_SLOT` (R302). The next of the eight slots of 250 ms (R302). -/
  | lampSlot
  /-- `VBAT_9V_CROSSING` (R299). `VBAT_x` rises above 9 V, or falls below it (R299, R454). -/
  | vbat9vCrossing (l : Lane) (up : Bool)
  /-- `HEAD_GATE_SUPPLY_LOSS` (R224). The head of link `n` loses its gate supply (R224). -/
  | headGateSupplyLoss (n : Fin 40)
deriving DecidableEq, Repr

end Sys2Proof
end

