-- ==== Sys2Proof/Config.lean ====
section
/-!
DEFINITION. The free values: constants without a body, which nothing in Lean can evaluate. A step that needs a value
the spec leaves open applies one of them to the state's counter of free values taken, or to the operands the value
depends on.
-/
namespace Sys2Proof

/-- The n-th free value taken (each use is named in the assumption log). DESIGN CHOICE, log entry 2. Safe. -/
opaque Config.freeValue : Nat → Nat

/-- Whether a low pulse of `nRESET_x` or `HENn` in the band the spec leaves open acts (R55, R236), for the n-th such
pulse. DESIGN CHOICE, log entry 2. Safe. -/
opaque Config.freeChoice : Nat → Bool

/-- The factory values in a lane's OTP (R11, R132, R136), by lane and item number. DESIGN CHOICE, log entry 8: the spec
gives no value. Safe. -/
opaque Config.otp : Nat → Nat → Nat

/-- The cosine and sine of an angle of 2^-32 turns, in 2^-30, as the implementation rounds them (R154, R186). DESIGN
CHOICE, log entry 10: the spec states no rounding. Safe. -/
opaque Config.cosine : Nat → Int
/-- The sine; see `Config.cosine`. -/
opaque Config.sine : Nat → Int
/-- 2 pi in 2^-40, as the implementation rounds it (R154). DESIGN CHOICE, log entry 10. Safe. -/
opaque Config.twoPi : Nat

/-- Whether an exact quotient with numerator and denominator as given is rounded up where the spec states no rounding; the
first argument tells the computation. DESIGN CHOICE, log entry 7. Safe. -/
opaque Config.roundUp : Nat → Int → Int → Bool

/-- The result of a computation for an operand for which the spec states none (a zero divisor, a value outside a format);
the first argument tells the computation. DESIGN CHOICE, log entry 12. Safe. -/
opaque Config.unstated : Nat → Int → Int

/-- The angle, in 2^-32 turn, whose tangent is y / x, as the implementation rounds it (R259, R264). DESIGN CHOICE, log
entry 10. Safe. -/
opaque Config.atan2 : Int → Int → Nat

/-- The angle, in 2^-32 turn, of the vector of three phase currents, as the implementation rounds it (R263). DESIGN
CHOICE, log entry 10. Safe. -/
opaque Config.vecAngle : Int → Int → Int → Nat

/-- The temperature in 0.1 degree of an NTC input, by the input ratio in 2^-16, the pull-up and `R25` in 100 ohm, and
`BETA`, as the implementation rounds the expression of R394. DESIGN CHOICE, log entry 10. Safe. -/
opaque Config.ntcTemp : Nat → Nat → Nat → Nat → Int

/-- The step of a trim (0 low-frequency oscillator, 1 die oscillator, 2 reference, 3 the Deputy's oscillators) that the
OTP coefficients of a lane give at the die readings in 0.1 degree (R403). DESIGN CHOICE, log entry 8. Safe. -/
opaque Config.trim : Nat → Nat → List Int → Int

/-- Byte `i` of the output of a crypto operation of R447 (0 SHA-512, 1 to 5 the job's operation, 6 the identity modulus, 7 the
digest of the running boot image's header, 8 a signature with the identity key, 9 the wrapped identity key of a bank) over a
source, an aux block and a number that tells the lane and the key; see `Config.cryptoOk`. -/
opaque Config.crypto : Nat → Nat → List Nat → List Nat → Nat → Nat
/-- Whether a signature or a tag verifies (R447). The algorithms are those of the standards the spec names; the model
computes none of them. DESIGN CHOICE, log entry 21. Safe. -/
opaque Config.cryptoOk : Nat → Nat → List Nat → List Nat → Bool

/-- Which of two equal currents counts as the larger (R264), by the two. DESIGN CHOICE, log entry 12. Safe. -/
opaque Config.tie : Int → Int → Bool

end Sys2Proof
end

