-- ==== Sys2Proof/Machine/State.lean ====
section
/-!
DEFINITION. The state of the BV9440 as plain data. The software-visible registers of the five register banks are one
sparse file of fields (`RegFile`); everything else the spec gives the machine (queues, timers that run, sequences in
progress, what a non-volatile medium holds) stands in the structures below, one per block of the spec.
-/
namespace Sys2Proof.Machine

/-! ## Registers -/

/-- The five banks of registers (R4, R11): the two lanes, the Deputy and the two power-and-analog dies. -/
inductive Die | la | lb | ds | pa | pb
deriving DecidableEq, Repr

/-- The lane die of a lane. -/
def laneDie : Lane → Die
  | .a => .la
  | .b => .lb

/-- The power-and-analog die of a lane. -/
def papDie : Lane → Die
  | .a => .pa
  | .b => .pb

/-- A position in the register file. -/
def Die.code : Die → Nat
  | .la => 0 | .lb => 1 | .ds => 2 | .pa => 3 | .pb => 4

/-- Which register table a field belongs to. -/
inductive Bank | lane | deputy | pap
deriving DecidableEq, Repr

/-- The bank of a die. -/
def Die.bank : Die → Bank
  | .la => .lane | .lb => .lane | .ds => .deputy | .pa => .pap | .pb => .pap

/-- The field access codes of R4. -/
inductive Acc | rw | ro | w1c | rc | wo | wt | rws
deriving DecidableEq, Repr

/-- One row of a field table: the lane address of its register, the strides and counts of its instances, its bits, its
access code and its Reset entry (R11; an entry `cfg` or `Factory` reads zero until it is loaded). `kept` marks a Reset
entry `Kept`. -/
structure Fld where
  bank : Bank
  addr : Nat
  s1 : Nat := 0
  n1 : Nat := 1
  s2 : Nat := 0
  n2 : Nat := 1
  lo : Nat
  w : Nat
  acc : Acc
  rst : Nat := 0
  rstB : Nat := rst
  kept : Bool := false
deriving DecidableEq, Repr

/-- The reset value of a field on a die; it differs between the two power-and-analog dies for `PAP_STATUS.LANE` alone. -/
def Fld.rstOn (f : Fld) (d : Die) : Nat := if d = .pb then f.rstB else f.rst

/-- The lane address of an instance of a field's register. -/
def Fld.addrOf (f : Fld) (i j : Nat) : Nat := f.addr + f.s1 * i + f.s2 * j

/-- A field's own number: the lane address of its first instance and its lowest bit. -/
def Fld.base (f : Fld) : Nat := f.addr * 32 + f.lo

/-- The place of a field in the register file: its die, its own number, and its instance (no register has as many as 4096
instances in one direction). -/
def Fld.key (f : Fld) (d : Die) (i j : Nat) : Nat := (d.code * 2 ^ 37 + f.base) * 2 ^ 24 + (i % 4096) * 4096 + j % 4096

/-- The register file: each entry is a field's key and the exclusive-or of its content with its reset value. An
unlisted field holds its reset value, so the file of a machine right after reset is empty. -/
abbrev RegFile := List (Nat × Nat)

/-! ## What every lane keeps through resets and supply losses -/

/-- The hardware part of a copy set (R309): what the active lane captured at a traction-cycle boundary. -/
structure HwCopy where
  cycle : Nat
  laneTime : Nat
  hvc : Nat
  slots : List (Nat × Nat)
  motor : List Int
  energy : List Int
  lvp : List Int
deriving DecidableEq, Repr

/-- A copy set: the hardware state and the bytes of the firmware window (R309). -/
structure CopySet where
  hw : HwCopy
  window : List Nat
deriving DecidableEq, Repr

/-- One lamp board record (R78): its magic, the start's sequence number with its complement, what it tried, the outcomes
entered so far in step order (0xFF not reached), the step it entered last, and the boot-next bytes programmed. -/
structure LampRecord where
  magic : Nat := 0x4C414D50
  seq : Nat
  comp : Nat := 2 ^ 32 - 1 - seq % 2 ^ 32
  slotB : Bool
  copy2 : Bool
  mirror : Bool
  reduced : Bool
  outcomes : List Nat
  entered : Nat
  bootNext : List Nat
deriving DecidableEq, Repr

/-- One ledger record slot of the ledger partition (R433, R434), with the link to the slot before, the signature, and the
nonce and the tag of a sealed record. `into` is the mode that a `MODE` record's change enters: the record's layout does not
show it, and R436 needs it. -/
structure LedgerRec where
  seq : Nat
  slot : Nat
  triggers : Nat
  mode : Nat
  into : Option Nat
  flags : Nat
  laneTime : Nat
  netTime : Nat
  unc : Nat
  version : Nat
  lifecycle : Nat
  imp : Nat
  exp : Nat
  modeImp : Nat
  modeExp : Nat
  env : Nat
  packV : Nat
  packI : Int
  faultMs : Nat
  prevSlot : Nat
  tagOk : Bool
  signed : Bool
  isSealed : Bool
  link : List Nat := []
  signature : List Nat := []
  nonce : List Nat := []
  tag : List Nat := []
deriving DecidableEq, Repr

/-- A snapshot slot of the snapshot partition (R314), as far as the model reads it back. -/
structure Snapshot where
  seq : Nat
  slot : Nat
  role : Nat
  version : Nat
  cycle : Nat
  partnerLamp : Nat
  partnerTime : Nat
  netTime : Option Nat
  unc : Nat
  shared : Option CopySet
  own : List Nat
deriving DecidableEq, Repr

/-- What a lane's OTP and its NOR and eMMC hold: root keys with the hashes programmed (R66, R67, R443), lifecycle and
key-store banks (R442, R444; 0 unprogrammed, 1 keys, 2 all ones, 3 partly programmed) with the bank in use (3 none), the
lamp board (R78), the ledger (R434), the snapshots (R314), the events that `Q09` has written, newest last, and what the
device itself has programmed into the NOR, by 4 KiB block, and into the eMMC window, by 512-byte sector (R62, R64, R89): a block
or sector that it has not programmed is not listed. -/
structure LaneNv where
  keyProg : Nat
  keyHash : List (Nat × List Nat)
  keyRevoked : Nat
  lifecycle : Nat
  banks : Vector Nat 2
  bankIn : Nat
  keygenLost : Bool
  dbgRecorded : Bool
  lamp : List LampRecord
  lampSeq : Nat
  ledger : List LedgerRec
  snaps : List Snapshot
  sealNonce : Nat
  events : List (Nat × Nat) := []
  nor : List (Nat × List Nat) := []
  emmc : List (Nat × List Nat) := []
deriving DecidableEq, Repr

/-! ## The tally (R103) -/

/-- The state of a tally entry. A free entry is not listed. -/
inductive EntState | waiting | active | ending
deriving DecidableEq, Repr

/-- The code of `TAL_Ee_INFO.STATE`. -/
def EntState.code : EntState → Nat
  | .waiting => 1 | .active => 2 | .ending => 3

/-- What a tally entry is for, as its submitting block named it. -/
inductive Job
  | plain
  | can (template : Nat)
  | chassis (template : Nat) (bytes : List Nat)
  | eth (m addr len : Nat)
  | nvm (area offset len src : Nat)
  | ledger (rec : LedgerRec)
  | event (code : Nat)
  | dump (b : Nat)
  | copy (cycle : Nat)
  | snapshot (snap : Snapshot)
  | vdd (target : Nat)
  | crypto (desc : List Nat)
deriving DecidableEq, Repr

/-- One tally entry that is not free (R103). Times are lane time, costs are in sixteenths of a count; `started` says that its
queue has taken it up (R107). -/
structure TalEntry where
  id : Nat
  queue : Nat
  size : Nat
  who : Nat
  deadline : Nat
  cost16 : Nat
  bound : Nat
  st : EntState
  measured : Bool
  since : Nat
  missed : Bool
  job : Job
  started : Bool := decide (st = .active)
deriving DecidableEq, Repr

/-- One outcome record of the ring (R103, R114). -/
structure OutRec where
  id : Nat
  queue : Nat
  code : Nat
  late : Bool
  who : Nat
  time : Nat
deriving DecidableEq, Repr

/-- The tally of a lane: its entries that are not free, in the order of admission; the outcome ring, oldest first; the
`DONE` count of each queue since the lane reset (R106), with that of the snapshots and their measured fixed cost, since each
target of `Q13` counts as a queue of its own. -/
structure Tally where
  entries : List TalEntry
  ring : List OutRec
  doneCnt : Vector Nat 16
  snapCnt : Nat := 0
  snapMeas : Nat := 0
deriving DecidableEq, Repr

/-- A timer (R115): the lane time its count started at, none while it does not count; the count it started from and its unit
in counts of lane time; whether it waits for a traction-cycle boundary. -/
structure Timer where
  start : Option Nat
  load : Nat
  unit : Nat
  sync : Bool
deriving DecidableEq, Repr

/-- Time keeping of a lane (R98 to R100): the instant lane time started; the number of the last traction-cycle boundary;
the arrival stamp of the partner's last `TIME` frame with that frame's transmit stamp; the lane time of the last network
synchronisation with its uncertainty, and whether the source has stayed at network after a lapse; the epoch and the
uncertainty of source 1 (R99, R102), if it is available. -/
structure LaneClock where
  t0 : Option Nat
  cycle : Nat
  heard : Option (Nat × Nat)
  lastSync : Nat
  syncUnc : Nat
  lapsed : Bool
  elapsed : Option (Nat × Nat)
deriving DecidableEq, Repr

/-! ## Starting and modes (chapter 03) -/

/-- What a lane die is doing. `off`: no core supply, or its island is unqualified. `held`: held in reset. `starting n`:
in start step n, waiting for its end. `loader`: in the boot ROM's loader (R82). `running`. `stopped`: a checker fault
has stopped the clocks of both pairs (R357). `portFault`: the lane has judged its Deputy port faulty and resets itself
100 us later (R28). -/
inductive LanePhase
  | off | held | starting (step : Nat) | loader | running | stopped | portFault
deriving DecidableEq, Repr

/-- The loader of the boot ROM (R82): the block it expects, the open block with its CRC and its six-byte pieces, and
the payload length that block 0 named. -/
structure LoaderSt where
  expected : Nat
  opened : Option (Nat × Nat)
  pieces : List (Nat × List Nat)
  payload : Nat
  lastStatus : Nat
  answered : Nat
deriving DecidableEq, Repr

/-- Where the device-wide mode engine stands (R86): idle; waiting for the partner's answer; waiting for the boundary. -/
inductive ModeStep | idle | partner | boundary
deriving DecidableEq, Repr

/-- The mode engine (R86): its step, the target, the lane that is master of the change, whether the partner takes part, the
instant of the request, and the instant at which the last step 4 ended (R87). -/
structure ModeEngine where
  step : ModeStep
  target : Nat
  master : Lane
  joint : Bool
  since : Nat
  holdEnd : Nat
deriving DecidableEq, Repr

/-- A `MODE` frame (R306): a request with its target, an acceptance or a refusal. -/
inductive ModeMsg | request (target : Nat) | accept | refuse
deriving DecidableEq, Repr

/-- The starting side of a lane: the configuration RAM (R70) and whether it holds the overlays (`ST09`), the loader, the
root-key slot that verified the running image, the addresses at which its pairs began (R69), the offsets and lengths of the
configuration copies that the headframe gives (R65), the instant at which the present start step began and that at which the
partner answered in `ST15` (R75). -/
structure StartSt where
  container : Option Container
  loader : LoaderSt
  imageKeySlot : Nat
  copyLen : Nat × Nat
  stepAt : Nat
  copyOff : Nat × Nat := (0, 0)
  full : Bool := false
  apEntry : Nat := 0
  cpEntry : Nat := 0
  answerAt : Option Nat := none
deriving DecidableEq, Repr

/-- A loader that has taken nothing. -/
def LoaderSt.init : LoaderSt :=
  { expected := 0, opened := none, pieces := [], payload := 0, lastStatus := 0, answered := 0 }

/-- The starting side of a lane after a lane reset. -/
def StartSt.init : StartSt :=
  { container := none, loader := LoaderSt.init, imageKeySlot := 0, copyLen := (0, 0), stepAt := 0 }

/-- A tally in which every entry is free. -/
def Tally.init : Tally := { entries := [], ring := [], doneCnt := Vector.replicate 16 0 }

/-- Time keeping of a lane after a lane reset. -/
def LaneClock.init : LaneClock :=
  { t0 := none, cycle := 0, heard := none, lastSync := 0, syncUnc := 0, lapsed := false, elapsed := none }

/-! ## Converters and sigma-delta filters (chapter 05) -/

/-- A coefficient move in 64 steps (R135): where it starts, where it ends, and the steps taken. -/
structure CoefMove where
  fromG : Int
  fromO : Int
  toG : Int
  toO : Int
  k : Nat
  oldBound : Nat
  newBound : Nat
deriving DecidableEq, Repr

/-- The correction of one converter channel or sigma-delta filter (R135, R136): its record and its move. -/
structure Corr where
  record : Option CalRecord
  move : Option CoefMove
deriving DecidableEq, Repr

/-- One converter group (R118 to R133): the pass in progress with the settings taken at its start, the trigger stamp,
an urgent request waiting, the aborted entries waiting for their restart (channel, stamp, destination), the decimation count,
the slice estimates, the count of the last coefficient step; whether the pass is a triggered one, the triggers on their
way to the group, the eligible samples, and the phases of a group that serves a resolver (R153). -/
structure AdcGroup where
  busy : Bool
  pos : Nat
  chans : List Nat
  dest : Nat
  stamp : Nat
  urgent : Option (Nat × Nat)
  aborted : List (Nat × Nat × Nat)
  decim : Nat
  est : Vector (Int × Int × Int) 4
  stepAt : Nat
  triggered : Bool := false
  sent : Nat := 0
  elig : Nat := 0
  resPhase : Nat := 0
deriving DecidableEq, Repr

/-- The converters of a lane: groups, channel corrections, the two result queues (entry and stamp, oldest first), their
sequence numbers, and a system calibration in progress. -/
structure AdcSt where
  groups : Vector AdcGroup 12
  chans : Vector Corr 64
  q11 : List (Nat × Nat)
  q12 : List (Nat × Nat)
  seq11 : Nat
  seq12 : Nat
  calSum : Int
  calCount : Nat
  calTarget : Nat
deriving DecidableEq, Repr

/-- One sigma-delta filter: its correction. -/
structure SdfSt where
  corr : Corr
deriving DecidableEq, Repr

/-- A group after a lane reset. -/
def AdcGroup.init : AdcGroup :=
  { busy := false, pos := 0, chans := [], dest := 0, stamp := 0, urgent := none, aborted := [], decim := 0,
    est := Vector.replicate 4 (0, 0, 0), stepAt := 0 }

/-- No record and no move. -/
def Corr.init : Corr := { record := none, move := none }

/-- The converters of a lane after a lane reset. -/
def AdcSt.init : AdcSt :=
  { groups := Vector.replicate 12 AdcGroup.init, chans := Vector.replicate 64 Corr.init, q11 := [], q12 := [],
    seq11 := 0, seq12 := 0, calSum := 0, calCount := 0, calTarget := 0 }

/-- A filter after a lane reset. -/
def SdfSt.init : SdfSt := { corr := Corr.init }

/-! ## Position inputs (chapter 06) -/

/-- A resolver channel's tracker (R154 to R156): the speed in 2^-48 turns per 6.25 us, the consecutive outputs for which each
fault condition has held, the declared faults, and the consecutive good outputs; the demodulator's samples of one carrier
period with their place in it, newest first, and the place of the next; whether a raw code has clipped since the last output;
the demodulated sine and cosine and the quadrature residual of that output in 2^-20 LSB; the angle travelled since the last
full turn; the instant of the last step of `CAR`. -/
structure ResSt where
  w : Int
  los : Nat
  dos : Nat
  lot : Nat
  losD : Bool
  dosD : Bool
  lotD : Bool
  good : Nat
  sin : List (Nat × Int) := []
  cos : List (Nat × Int) := []
  tick : Nat := 0
  clip : Bool := false
  lastS : Int := 0
  lastC : Int := 0
  lastQ : Int := 0
  turn : Int := 0
  carAt : Nat := 0
deriving DecidableEq, Repr

/-- A pulse-train channel (R157 to R164): its count, the count at the last reference, the last periods in 2.5 ns (newest
first), the consecutive counts in the present direction, whether the next edge has no predecessor, the pitch index, the
angle at the last counting edge, the last period of R161 and the counts it spans, the instant of that edge; the accepted levels
of A, B and Z before inversion, the time since the last counting edge and since B's last edge in 2.5 ns. -/
structure PtSt where
  count : Int
  ref : Option Int
  hist : List Nat
  run : Nat
  fresh : Bool
  idx : Nat
  angle : Nat
  period : Nat
  span : Nat
  lastAt : Nat
  lv : Nat := 0
  since : Nat := 0
  bAge : Option Nat := none
deriving DecidableEq, Repr

/-- A SENT channel (R165 to R167): the last sync interval, the status nibbles of the slow message in progress (newest
first), the instant of the last accepted frame, whether there has been one. -/
structure SentSt where
  sync : Option Nat
  slow : List Nat
  lastAt : Nat
  got : Bool := false
deriving DecidableEq, Repr

/-- The position block of a lane. -/
structure PosSt where
  res : Vector ResSt 2
  pt : Vector PtSt 6
  sent : Vector SentSt 4
deriving DecidableEq, Repr

/-- The position block after a lane reset. -/
def PosSt.init : PosSt :=
  { res := Vector.replicate 2 { w := 0, los := 0, dos := 0, lot := 0, losD := false, dosD := false, lotD := false,
                                good := 0 },
    pt := Vector.replicate 6 { count := 0, ref := none, hist := [], run := 0, fresh := true, idx := 0, angle := 0,
                               period := 0, span := 1, lastAt := 0 },
    sent := Vector.replicate 4 { sync := none, slow := [], lastAt := 0 } }

/-! ## The control engine and the traces (chapter 07) -/

/-- A band slot (R178 to R185): its window of instants (in delay-line steps) and errors, newest first; the samples since
it entered `SETTLE`; its last error; an h that waits for the next issued edge; the edge that it has committed, with the
state it left; whether its prediction is valid and its last commit was late; the samples since its last edge; and the
turn-on edges of the frequency-lock window with the instants of the first and last, and the cycles of the window so far; the
samples or updates on their way to the slot, oldest first: the value and the skew of its slice in 0.01 ps. -/
structure BandSt where
  win : List (Int × Int)
  since : Nat
  e : Int
  pendH : Option Nat
  edge : Option (Int × Bool)
  before : Nat
  predOk : Bool
  lateLast : Bool
  sinceEdge : Nat
  onCnt : Nat
  tFirst : Int
  tLast : Int
  cycles : Nat
  ovr : Option (Nat × Bool)
  forced : Bool
  due : List (Int × Int) := []
  beyondAt : Option Nat := none
deriving DecidableEq, Repr

/-- An arithmetic slot (R175 to R190): a trigger that waits or executes with its stamp, a further one pending, the
trigger divider, the 48-bit integrator, the angle accumulator, a preset that waits and its low word, the stamp from
which the following-error timer runs, the triggers on their way to the slot. -/
structure ArithSt where
  ready : Option Nat
  pend : Option Nat
  div : Nat
  integ : Int
  theta : Nat
  preset : Option Int
  lo : Option Nat
  fe : Option Nat
  sent : Nat := 0
deriving DecidableEq, Repr

/-- A trace buffer (R191 to R193): its state's code, the next record's index, the records kept and those stored since the
trigger, the probe's updates since the last stored one, whether a trigger is on its way, the last value of the source that
its level trigger watches; the position and the header of its last dump. -/
structure TrcBuf where
  phase : Nat
  next : Nat
  kept : Nat
  post : Nat
  div : Nat
  sent : Bool := false
  last : Option Int := none
  pos : Nat := 0
  head : List Nat := []
deriving DecidableEq, Repr

/-- The control engine of a lane: its slots, the last valid value of each source that is not zero, the pipeline cycles
used in the present traction cycle, the trace buffers. -/
structure CeSt where
  bands : Vector BandSt 32
  ariths : Vector ArithSt 24
  src : List (Nat × Int)
  busy : Nat
  trc : Vector TrcBuf 8
deriving DecidableEq, Repr

/-- A band slot after a lane reset. -/
def BandSt.init : BandSt :=
  { win := [], since := 0, e := 0, pendH := none, edge := none, before := 0, predOk := false, lateLast := false,
    sinceEdge := 0, onCnt := 0, tFirst := 0, tLast := 0, cycles := 0, ovr := none, forced := false }

/-- An arithmetic slot after a lane reset. -/
def ArithSt.init : ArithSt :=
  { ready := none, pend := none, div := 0, integ := 0, theta := 0, preset := none, lo := none, fe := none }

/-- The control engine after a lane reset. -/
def CeSt.init : CeSt :=
  { bands := Vector.replicate 32 BandSt.init, ariths := Vector.replicate 24 ArithSt.init, src := [], busy := 0,
    trc := Vector.replicate 8 { phase := 0, next := 0, kept := 0, post := 0, div := 0 } }

/-! ## The PWM of a lane and the Hoist multiplexer (chapter 08, R349) -/

/-- What an engine-driven channel reports of an edge to its band slot (R183, R210). -/
inductive EdgeReport | issued | dropped | withheld
deriving DecidableEq, Repr

/-- A timebase (R197 to R206). Instants are in delay-line steps of 9.765625 ps of the model's clock. `p` and `phase` are
the active set; `start` is the instant of count 0 of the present period, `top` the count its falling slope starts from;
`next` is the next transfer point and `nextPeak` says that it is a peak; none while the timebase stands. `updown` is the
counting in force, `used` the phase in force, which a slot or an alignment may have given (R199, R218), `sent` the sync
events on their way. -/
structure PwmTb where
  p : Nat
  phase : Nat
  start : Int
  top : Nat
  next : Option Int
  nextPeak : Bool
  updown : Bool := false
  used : Nat := 0
  sent : Nat := 0
deriving DecidableEq, Repr

/-- A channel (R200 to R219): its active compares as the registers hold them; the instants at which they act up to the next
transfer point, none where a compare makes no edge; an engine edge that is committed; whether the channel has started; its
level; the instant of its last issued edge; whether it keeps its destinations off until its next event after a release;
whether its stage is held off (R284); a turn-on that waits for the partner's turn-off (R209); the last turn-on and the time at
level 1 of the present period, and the mirror compares of the last; the instants of its overlap events; the report owed to its
band slot; the minimum pulse and the compares in force since the last transfer point (R203, R208); the events that were
carried past it; the instants from which `DST_H` and `DST_L` are commanded on, none while off (R207). -/
structure PwmCh where
  on : Nat
  off : Nat
  onAt : Option Int
  offAt : Option Int
  eng : Option (Int × Bool)
  started : Bool
  level : Bool
  lastEdge : Option Int
  released : Bool
  held : Bool
  waits : Bool
  lastOn : Int
  highFor : Int
  mirrorOn : Option Nat
  mirrorOff : Option Nat
  overlaps : List Nat
  report : Option (EdgeReport × Int)
  minp : Nat := 0
  useOn : Nat := 0
  useOff : Nat := 0
  late : List (Int × Bool) := []
  hi : Option Int := none
  lo : Option Int := none
deriving DecidableEq, Repr

/-- The PWM of a lane: timebases, channels, the end of each open blanking window in steps, the `PWMX` pins driven high, the
instants at which each event output is due (R216). -/
structure PwmSt where
  tbs : Vector PwmTb 8
  chs : Vector PwmCh 64
  windows : Vector (Option Int) 16
  pwmx : Nat
  evs : Vector (List Int) 8 := Vector.replicate 8 []
deriving DecidableEq, Repr

/-- A timebase after a lane reset. -/
def PwmTb.init : PwmTb := { p := 2, phase := 0, start := 0, top := 2, next := none, nextPeak := false }

/-- A channel after a lane reset. -/
def PwmCh.init : PwmCh :=
  { on := 0, off := 0, onAt := none, offAt := none, eng := none, started := false, level := false, lastEdge := none,
    released := false, held := false, waits := false, lastOn := 0, highFor := 0, mirrorOn := none, mirrorOff := none, overlaps := [],
    report := none }

/-- The PWM of a lane after a lane reset. -/
def PwmSt.init : PwmSt :=
  { tbs := Vector.replicate 8 PwmTb.init, chs := Vector.replicate 64 PwmCh.init, windows := Vector.replicate 16 none,
    pwmx := 0 }

/-- What the multiplexer holds of one shared timebase (R217, R349): whether it counts up and down, its period, its
phase and the instant of count 0. -/
structure MuxTb where
  updown : Bool
  period : Nat
  phase : Nat
  start : Int
deriving DecidableEq, Repr

/-- What the multiplexer holds of one channel of a shared timebase (R217, R349): its timebase and destinations, its
compares (an engine-driven channel's mirror compares), its mode, dead times and minimum pulse, its level and the
instant of its last edge. `driving` says that the multiplexer still drives it, in a hold or before its take-over. -/
structure MuxCh where
  tb : Nat
  compl : Bool
  dstH : Nat
  dstL : Nat
  on : Option Nat
  off : Option Nat
  dtRise : Nat
  dtFall : Nat
  level : Bool
  lastEdge : Option Int
  driving : Bool
deriving DecidableEq, Repr

/-- The multiplexer: one entry for each shared timebase and each shared channel that a granted lane has reported. -/
structure MuxSt where
  tbs : Vector (Option MuxTb) 8
  chs : Vector (Option MuxCh) 64
deriving DecidableEq, Repr

/-- A multiplexer that has no report. -/
def MuxSt.init : MuxSt := { tbs := Vector.replicate 8 none, chs := Vector.replicate 64 none }

/-! ## The Hoist links and drive heads (chapter 09) -/

/-- The Deputy's side of a Hoist link: static, in a step of the training of R240 (with whether that step's frame has
been sent), or in run state. -/
inductive HoistPhase | static | training (step : Nat) (sent : Bool) | run
deriving DecidableEq, Repr

/-- The states of a drive head (R224). -/
inductive HeadPhase | untrained | training | run | loss
deriving DecidableEq, Repr

/-- A drive head (R224 to R235): its state and latch, the settings it was trained with, whether it has taken `RUN`, and
whether its gate is on. -/
structure Head where
  phase : HeadPhase
  latched : Bool
  sc : Option Nat
  gate : Option Nat
  loss : Option (Bool × Bool)
  armed : Option Nat
  on : Bool
deriving DecidableEq, Repr

/-- What the Deputy holds of a link's configuration from the last training (R239): in use, group, role (true for low
side), link-loss action, the `SET_SC` and `SET_GATE` words. -/
structure HoistCfg where
  en : Bool
  group : Nat
  low : Bool
  lossAct : Bool
  sc : Nat
  gate : Nat
deriving DecidableEq, Repr

/-- One Hoist link at the Deputy (R222 to R240): its state; the level the granted lane commands, the level the Deputy
means to drive and since when, the level it drives; a withheld turn-on; the decoded gate-state code and since when;
`HLG_OK`; latched causes; consecutive status mismatches; attempts of the present training frame; what the last `STATUS`
said and when it came. -/
structure HoistLink where
  cfg : HoistCfg
  phase : HoistPhase
  trained : Bool
  lane : Bool
  want : Bool
  wantAt : Int
  on : Bool
  withheld : Bool
  code : Nat
  codeAt : Nat
  hlgOk : Bool
  causes : Nat
  mism : Nat
  attempts : Nat
  lastStat : Nat
  seq : Option Nat
  stTrained : Bool
  ot : Bool
  vccOk : Bool
  veeOk : Bool
  tj : Int
  head : Head
  edgeAt : Int := -4096
  tickAt : Int := -4096
  stepAt : Nat := 0
  codes : List (Nat × Nat) := []
deriving DecidableEq, Repr

/-- The Hoist side of the Deputy: links, the safe action of each group, the leg map (high link, low link, `T_CONF`, `T_WAIT`),
the `HEN` groups held at their safe action, the groups whose input reads high, the groups that the overvoltage lines drive
all-off or short-circuited and the chopper links that the Deputy overrides on (R273, R274), the training lock, and the record
of the last training with the lane that trained. -/
structure HoistSt where
  links : Vector HoistLink 40
  safe : Vector Bool 8
  legs : Vector (Option (Nat × Nat × Nat × Nat)) 20
  henActs : Vector Bool 8
  henHigh : Vector Bool 8
  ovOff : Nat
  ovAsc : Nat
  chopOn : Nat
  lock : Option Lane
  recordValid : Bool
  owner : Lane
deriving DecidableEq, Repr

/-- An untrained head. -/
def Head.init : Head :=
  { phase := .untrained, latched := false, sc := none, gate := none, loss := none, armed := none, on := false }

/-- A link as island S qualifies. -/
def HoistLink.init : HoistLink :=
  { cfg := { en := false, group := 0, low := false, lossAct := false, sc := 0, gate := 0 }, phase := .static,
    trained := false, lane := false, want := false, wantAt := 0, on := false, withheld := false, code := 0, codeAt := 0,
    hlgOk := false, causes := 0, mism := 0, attempts := 0, lastStat := 0, seq := none, stTrained := false, ot := false,
    vccOk := false, veeOk := false, tj := 0, head := Head.init }

/-- The Hoist side as island S qualifies. -/
def HoistSt.init : HoistSt :=
  { links := Vector.replicate 40 HoistLink.init, safe := Vector.replicate 8 false, legs := Vector.replicate 20 none,
    henActs := Vector.replicate 8 false, henHigh := Vector.replicate 8 false, ovOff := 0, ovAsc := 0, chopOn := 0,
    lock := none, recordValid := false,
    owner := .a }

/-! ## The power-and-analog dies (chapters 09, 12, 14, 16) -/

/-- One pre-driver half-bridge (R241 to R244): what the high and low gate are commanded to and since when, whether they
are driven on, whether a gate's turn-on is withheld until its next command, whether the monitor has confirmed a gate
off, the instant of the last gate edge, shunt results with their sample instants (newest first), the instants of `SHORT`
clears, a refresh pulse in progress. -/
structure HalfBridge where
  wantHi : Bool
  wantLo : Bool
  hiAt : Int
  loAt : Int
  gateHi : Bool
  gateLo : Bool
  withHi : Bool
  withLo : Bool
  offHi : Bool
  offLo : Bool
  edgeAt : Option Nat
  shunts : List (Nat × Int)
  clears : List Nat
  refresh : Nat
deriving DecidableEq, Repr

/-- The clamp sequence of a die (R343). -/
inductive ClampPhase | off | apply | hold | default25 | default10
deriving DecidableEq, Repr

/-- The clamp and the brake application of a die, in logic that no lane reset clears (R343, R344): the clamp line; the
sequence and since when its part runs; the last valid frame (I, R, T, HOLD); the duty in use as numerator and denominator;
the half-bridges in use; the brake's target in mA; since when every winding has stood within 10 % of it. -/
structure ClampSt where
  line : Bool
  phase : ClampPhase
  at_ : Nat
  frame : Option (Nat × Nat × Nat × Nat)
  duty : Nat × Nat
  mask : Nat
  brakeMa : Nat
  brakeOk : Option Nat
deriving DecidableEq, Repr

/-- The answers that a rail controller owes its lane, with the tally entry and the setpoint code they carry (R378). -/
inductive RailFrame | ack (tag code : Nat) | superseded (tag code : Nat) | napDone (code : Nat)
deriving DecidableEq, Repr

/-- The core rail controller of a die (R370 to R382): whether it runs; its discrete loop (u, both poles and the duty in
2^-16, the last two errors); the setpoint at `slewAt` and the target it slews to from there; the entry of the open
command; the instant at which a shed ramp or a restore began; whether `NAP` or `WAKE` is in progress; the answers it owes,
oldest first; whether valid frames arrive and when the last one did, whether the lane frame of the present link cycle was
valid, and whether `OC` has ended a period since the last `STATUS`; the instant of the last update, since when the rail has
stood within 5 mV of the target and the total current below the shed threshold; the last four phase sums, newest first, and
the total current now and one update before, in 0.1 A. -/
structure VrcSt where
  running : Bool
  u : Int
  y1 : Int
  y2 : Int
  duty : Int
  e1 : Int
  e2 : Int
  code : Nat
  target : Nat
  slewAt : Nat
  tag : Option Nat
  shedAt : Nat
  nap : Bool
  wake : Bool
  owed : List RailFrame
  seen : Bool
  heardAt : Nat := 0
  rxOk : Bool := true
  oc : Bool := false
  updAt : Nat := 0
  okAt : Option Nat := none
  lowAt : Option Nat := none
  sums : List Int := []
  iNow : Int := 0
  iPrev : Int := 0
deriving DecidableEq, Repr

/-- The power-path controller and the charge profile of a die (R293 to R298): the last sample; since when I_P has stood at
-1 A or below, at +1 A or above, at -`I_MAX` or below and VBAT below `V_CUTOFF`, and whether Drive has noted that cut-off;
the entries to `HANDOVER` and `ISOLATE` and the end of the requalification hold; whether the converter's input has been
seen gone during them; the profile's last step, the entry to its stage and since when the stage's leaving condition has
held; VBAT at the entry to `INHIBIT`; the sum and number of the I_P samples of the present 10 ms; the setpoints computed
last. -/
structure LvpSt where
  sampleAt : Nat
  revAt : Option Nat
  fwdAt : Option Nat
  overAt : Option Nat
  cutAt : Option Nat
  cutNoted : Bool
  handAt : Nat
  isoAt : Nat
  requalAt : Option Nat
  gone : Bool
  profAt : Nat
  stageAt : Nat
  condAt : Option Nat
  vInh : Int
  ipSum : Int
  ipCnt : Nat
  vset : Nat
  iset : Nat
  tbatAt : Option Nat := none
deriving DecidableEq, Repr

/-- What a keeper is doing (R300, R301). -/
inductive KeepAction | none | reset | storageEntry | storageExit | wake
deriving DecidableEq, Repr

/-- A keeper (R300, R301): the instant at which the press it times began; the action it runs, the steps done and when it
was decided; the pulses on its battery-switch pins; a decision of the other keeper that has not reached it yet, with its
instant. -/
structure KeeperSt where
  pressAt : Option Nat
  action : KeepAction
  step : Nat
  stepAt : Nat
  swOpen : Bool
  swClose : Bool
  decided : Option (KeepAction × Nat)
deriving DecidableEq, Repr

/-- A power-and-analog die: whether it runs (its island's `VBAT` stands), whether it holds its lane in reset, its
half-bridges, the owned windings held off (R18), the clamp, the rail controller, the power path, the keeper. -/
structure PapSt where
  powered : Bool
  shutdown : Bool
  coolAt : Nat
  ownedOff : Bool
  hbs : Vector HalfBridge 16
  clamp : ClampSt
  vrc : VrcSt
  lvp : LvpSt
  keeper : KeeperSt
  boostStop : Bool
deriving DecidableEq, Repr

/-- A half-bridge with both gates off. -/
def HalfBridge.init : HalfBridge :=
  { wantHi := false, wantLo := false, hiAt := 0, loAt := 0, gateHi := false, gateLo := false, withHi := false,
    withLo := false, offHi := true, offLo := true, edgeAt := none, shunts := [], clears := [], refresh := 0 }

/-- No clamp. -/
def ClampSt.init : ClampSt :=
  { line := false, phase := .off, at_ := 0, frame := none, duty := (0, 1), mask := 0, brakeMa := 0, brakeOk := none }

/-- A rail controller that does not run. -/
def VrcSt.init : VrcSt :=
  { running := false, u := 0, y1 := 0, y2 := 0, duty := 0, e1 := 0, e2 := 0, code := 0, target := 0, slewAt := 0, tag := none,
    shedAt := 0, nap := false, wake := false, owed := [], seen := false }

/-- A power path that has taken nothing. -/
def LvpSt.init : LvpSt :=
  { sampleAt := 0, revAt := none, fwdAt := none, overAt := none, cutAt := none, cutNoted := false, handAt := 0, isoAt := 0,
    requalAt := none, gone := false, profAt := 0, stageAt := 0, condAt := none, vInh := 0, ipSum := 0, ipCnt := 0,
    vset := 0, iset := 0 }

/-- A keeper that does nothing. -/
def KeeperSt.init : KeeperSt :=
  { pressAt := none, action := .none, step := 0, stepAt := 0, swOpen := false, swClose := false, decided := none }

/-- An unpowered power-and-analog die. -/
def PapSt.init : PapSt :=
  { powered := false, shutdown := false, coolAt := 0, ownedOff := false, hbs := Vector.replicate 16 HalfBridge.init,
    clamp := ClampSt.init, vrc := VrcSt.init, lvp := LvpSt.init, keeper := KeeperSt.init,
    boostStop := false }
/-! ## The traction machines (chapter 10) -/

/-- The results of one supervisory cycle of a machine (R254, R255, R259): the current references in 2^-16 A, the flux
references and their magnitude in 2^-16 of 0.1 uWb, the modulation index in 2^-30, the load angle in 2^-32 turn, and the
region that the cycle moves to, if it moves. -/
structure MotRefs where
  id : Int
  iq : Int
  psiD : Int
  psiQ : Int
  psiAbs : Int
  m : Int
  delta : Int
  region : Option Nat
deriving DecidableEq, Repr

/-- A machine (R248 to R266): the lane time of its last observer update; the last 16 residuals in mA, newest first; when
catching or injection preset the observer; the references in force, those of the second set of R273 and whether the machine
generates, whether R274 holds its phase signals, and what waits for its update; the
field-weakening term in 2^-16 A; a t_sat entry that waits for the next update, and the cycles for which the return to
`CURRENT` is barred; consecutive cycles at m >= 0.995; the cycle of the torque ramp; the half-widths that `VECTOR` has
saved; the trip group it holds; consecutive updates at which the angles differ and agree; the angles of the catching
pulses, newest first, the pulses below `I_MIN`, whether a pulse runs; the instant at which the pulse or the present part of
the injection began, and that at which `XCHK` was set; the step of the injection, its recorded magnitudes
in 2^-16 A, newest first, and its d-axis; the sum of the ratio over the present window and its cycles; the observer's
last outputs. -/
structure MotMach where
  upAt : Nat
  resid : List Nat
  presetAt : Option Nat
  refs : MotRefs
  zero : MotRefs
  gen : Bool
  asc : Bool
  due : Option (Nat × MotRefs × MotRefs × Bool)
  idFw : Int
  tsat : Bool
  bar : Nat
  sixCnt : Nat
  ramp : Nat
  savedH : Option (Nat × Nat × Nat)
  own : Option Nat
  differ : Nat
  agree : Nat
  phis : List Nat
  lowPulses : Nat
  inPulse : Bool
  stepAt : Nat
  xchkAt : Nat
  injStep : Nat
  injMags : List Int
  injAxis : Nat
  keSum : Int
  keCnt : Nat
  obs : ObsOut
  hotAt : Option Nat := none
  prefAt : Option Nat := none
  pulseAt : Option Nat := none
deriving DecidableEq, Repr

/-- A supervisory cycle that has asked for nothing. -/
def MotRefs.init : MotRefs :=
  { id := 0, iq := 0, psiD := 0, psiQ := 0, psiAbs := 0, m := 0, delta := 0, region := none }

/-- A machine after a lane reset. -/
def MotMach.init : MotMach :=
  { upAt := 0, resid := [], presetAt := none, refs := MotRefs.init, zero := MotRefs.init, gen := false, asc := false,
    due := none, idFw := 0, tsat := false, bar := 0,
    sixCnt := 0, ramp := 0, savedH := none, own := none, differ := 0, agree := 0, phis := [], lowPulses := 0,
    inPulse := false, stepAt := 0, xchkAt := 0, injStep := 0, injMags := [], injAxis := 0, keSum := 0, keCnt := 0,
    obs := { theta := 0, omega := 0, torque := 0, resid := 0, psiA := 0, psiB := 0, scOmega := 0 } }

/-! ## The DC link and its contactors (chapter 11) -/

/-- The part of a contactor sequence that runs (R280, R281, R283): a coil pulling in, the precharge, its overlap with MP,
the current wait, a coil dropping out, the weld checks, the wait for the safe voltage. -/
inductive SeqPhase
  | closeMn | precharge | closeMp | overlap
  | curWait | openMp | posCheck | openMn | negWait | mnCheck
  | dcN | dcP | dcOpen | acClose | acOpen
deriving DecidableEq, Repr

/-- A contactor sequence of a lane: its command code, its part and since when, the link voltage at the start of a check,
whether it has found a weld, and whether it is a weld test. -/
structure NrgSeq where
  cmd : Nat
  phase : SeqPhase
  since : Nat
  v0 : Int
  welded : Bool
deriving DecidableEq, Repr

/-- The `NRG` block of a lane (R272, R279 to R288): the sequence that runs; the regeneration limit in 2^-20 kW with its
target in kW and the instant it was last moved to; whether an OV2 event holds the target at zero; the converter's
slewing voltage setpoint (2^-16 per unit); the charger's slewed powers (2^-15 per unit, tenths); the levels at which the
`PWMX` discharge output is driven. -/
structure NrgSt where
  seq : Option NrgSeq
  plim : Int
  plimAt : Nat
  target : Nat
  zeroHold : Bool
  vNow : Nat
  pNow : Int
  qNow : Int
  accLow : Option Nat := none
  dcHigh : Option Nat := none
  obcAt : Nat := 0
  pll : Nat := 0
deriving DecidableEq, Repr

/-- The `NRG` block after a lane reset. -/
def NrgSt.init : NrgSt :=
  { seq := none, plim := 0, plimAt := 0, target := 0, zeroHold := false, vNow := 0, pNow := 0, qNow := 0 }


/-! ## The lane link, the standby lane and the chassis function (chapter 13) -/

/-- The receiving side's view of the copy in transit (R311): fragments taken in order, their bytes, whether one is
missing. -/
structure RxCopy where
  frags : Nat
  bytes : List Nat
  broken : Bool
deriving DecidableEq, Repr

/-- One direction of the lane link and the copy on it (R304 to R312): the next frame number of the sender, the number
the receiver expects, when the receiver last took a valid frame, and the copy being sent. -/
structure LinkSt where
  next : Nat
  expect : Option Nat
  lastRx : Nat
  stateSeen : Bool
  partnerRole : Nat
  partnerDeputySeen : Bool
  partnerLamp : Nat
  partnerVersion : Nat
  lastState : Option Nat
  modeOut : Option ModeMsg
  cmpOut : Option (Nat × List Nat)
  inOut : Option (Nat × List Nat)
  ackOut : Option (Nat × Nat)
  copyOut : Option CopySet
  copyFrag : Nat
  copyEnd : Bool
  resent : Bool
  rx : Option RxCopy
  acked : Option CopySet
  ownAtB : HwCopy
  byReplacement : Bool
  lastApplied : Option CopySet
  handover : Bool
  switchFrom : Option Lane
  planned : Bool
  grantAt : Nat
  snapAt : Nat
  due : Bool
  endAt : Nat := 0
deriving DecidableEq, Repr

/-- The chassis pipeline of a lane (R320 to R327): the cycle's boundary, its seal, what the partner sent, the frame counter,
which inputs have had a plausible value and that value; the node frames with a good frame in this cycle, and those handed over
that wait, each with its receive template, oldest first. -/
structure ChassisSt where
  open_ : Bool
  at_ : Nat
  isSealed : Option (List Nat)
  partnerCmp : Option (List Nat)
  partnerIn : Bool
  done : Bool
  counter : Nat
  had : Vector Bool 4
  last : Vector Nat 4
  validNow : Nat
  handed : List (Nat × List Nat) := []
deriving DecidableEq, Repr

/-- A hardware copy of nothing. -/
def HwCopy.init : HwCopy := { cycle := 0, laneTime := 0, hvc := 0, slots := [], motor := [], energy := [], lvp := [] }

/-- A lane's link side after a lane reset. -/
def LinkSt.init : LinkSt :=
  { next := 0, expect := none, lastRx := 0, stateSeen := false, partnerRole := 0, partnerDeputySeen := false,
    partnerLamp := 0, partnerVersion := 0, lastState := none, modeOut := none, cmpOut := none, inOut := none,
    ackOut := none, copyOut := none, copyFrag := 0, copyEnd := false, resent := false, rx := none, acked := none,
    ownAtB := HwCopy.init, byReplacement := false, lastApplied := none, handover := false, switchFrom := none,
    planned := false, grantAt := 0, snapAt := 0, due := false }

/-- A lane's chassis pipeline after a lane reset. -/
def ChassisSt.init : ChassisSt :=
  { open_ := false, at_ := 0, isSealed := none, partnerCmp := none, partnerIn := false, done := false, counter := 0,
    had := Vector.replicate 4 false, last := Vector.replicate 4 0, validNow := 0 }

/-! ## The Deputy (chapters 01 and 14) -/

/-- Whether the Deputy runs (R329, R330): unpowered, removed from its own outputs, or on. -/
inductive DepPhase | unpowered | removed | on
deriving DecidableEq, Repr

/-- The state of a contactor at its safe output (R278). -/
inductive CtrState | isOpen | pull | hold | drop
deriving DecidableEq, Repr

/-- Heartbeat monitor of one lane (R333, R334): whether the next write is the first after arming, and the instant the
present window runs from. -/
structure HbMon where
  first : Bool
  since : Nat
deriving DecidableEq, Repr

/-- A safe-output test in progress or waiting (R347): its output, and whether it belongs to a periodic round. -/
structure SoTest where
  out : Nat
  periodic : Bool
deriving DecidableEq, Repr

/-- The Deputy's view of one lane. -/
structure DepLane where
  hb : HbMon
  hasHeld : Bool
  verified : Bool
  sigs : Option (Nat × Nat)
  st19 : Bool
  missAt : List Nat
  split : Bool
  service : Bool
deriving DecidableEq, Repr

/-- The Deputy's internal state: its phase; the instant Deputy time started; the grant's hold (R22, R23); the Degraded timer's
end (R339); the Safe stop's cause and outputs-open instants (R341); contactor states and pending closes of the safe outputs;
the safe-output test, the next periodic round and the round at the first handshake (R347); oscillator bookkeeping (R101); the
start command (R468); the Deputy time of the last declarations, the records made of them and whether they started the timer
(R34); the Deputy time at which lane B set the device's mode (R81), the instant of the last reading of the oscillator (R101).
-/
structure DepSt where
  phase : DepPhase
  t0 : Nat
  firstHandshake : Bool
  lanes : Vector DepLane 2
  holdFrom : Option Lane
  holdAt : Nat
  against : Option (Lane × Nat)
  degEnd : Nat
  ssAt : Nat
  openedAt : Nat
  ctr : Vector CtrState 12
  ctrAt : Vector Nat 12
  pendingClose : Vector Bool 12
  failAtOpen : Vector Bool 12
  test : Option SoTest
  roundDue : Option Nat
  startTest : Bool
  startCmd : Bool
  oscFrom : Nat
  oscD1 : Nat
  oscF1 : Nat
  oscOn : Bool
  oscElapsed : Nat
  frameSeq : Nat
  lampSlot : Nat
  btnMark : Nat
  stat0 : Bool
  stat1 : Bool
  asc3 : Option Nat
  weldTested : Bool
  coolAt : Option Nat
  trim : Int
  declAt : Option Nat := none
  declRecs : Nat := 0
  declTimer : Bool := false
  modeAt : Option Nat := none
  oscAt : Nat := 0
  soAt : Vector Nat 12 := Vector.replicate 12 0
deriving DecidableEq, Repr

/-- The Deputy's view of a lane at the qualification of island S. -/
def DepLane.init : DepLane :=
  { hb := { first := false, since := 0 }, hasHeld := false, verified := false, sigs := none, st19 := false,
    missAt := [], split := false, service := false }

/-- The Deputy at the qualification of island S, apart from its phase. -/
def DepSt.init : DepSt :=
  { phase := .unpowered, t0 := 0, firstHandshake := false, lanes := Vector.replicate 2 DepLane.init,
    holdFrom := none, holdAt := 0, against := none, degEnd := 0, ssAt := 0,
    openedAt := 0, ctr := Vector.replicate 12 .isOpen, ctrAt := Vector.replicate 12 0,
    pendingClose := Vector.replicate 12 false, failAtOpen := Vector.replicate 12 false, test := none, roundDue := none, startTest := false,
    startCmd := false, oscFrom := 0, oscD1 := 0, oscF1 := 0, oscOn := false, oscElapsed := 0, frameSeq := 0, lampSlot := 0,
    btnMark := 0, stat0 := false, stat1 := false, asc3 := none, weldTested := false, coolAt := none, trim := 0 }

/-! ## Lockstep and check-value units (chapter 15) -/

/-- A check-value unit (R364 to R367): the bytes of the open block, newest first, and whether the next matching block is
accepted whatever its alive counter. -/
structure CvuSt where
  bytes : List Nat
  fresh : Bool
deriving DecidableEq, Repr

/-- A unit after a lane reset. -/
def CvuSt.init : CvuSt := { bytes := [], fresh := true }

/-! ## The lane's side of the rail link and its power states (chapter 16) -/

/-- Where a lane stands between Run and Nap (R385, R386). -/
inductive NapPhase | run | entering | nap | waking
deriving DecidableEq, Repr

/-- The lane's side of the rail link (R377 to R386): the entries whose `SET` has been sent without `RX_OK`, oldest first;
the phase of Nap, the code held before it, the instant of the wake event and whether one
is held during entry, with its sources (timer, Deputy). -/
structure PwrSt where
  unsure : List Nat
  nap : NapPhase
  runCode : Nat
  wakeAt : Nat
  heldWake : Option (Bool × Bool)
  sent : Option Nat := none
  heardAt : Nat := 0
  lost : Bool := false
deriving DecidableEq, Repr

/-- A lane in Run. -/
def PwrSt.init : PwrSt := { unsure := [], nap := .run, runCode := 0, wakeAt := 0, heldWake := none }

/-! ## Temperatures (chapter 17) -/

/-- The `THM` block (R396 to R403): the rounds of the last 100 ms, newest first, each with its instant and the readings of
its valid sources in 0.1 degree; the instant of the first round and of the last one; since when every reading has stayed
12 degrees below its limits; each model's dT in 2^-16 of 0.1 degree; the steps of the low-frequency, the die and the
reference trim, with the step that the reference moves towards. -/
structure ThmSt where
  rounds : List (Nat × List (Nat × Int))
  started : Option Nat
  lastAt : Nat
  calmAt : Option Nat
  dT : Vector Int 4
  trimLf : Int
  trimPap : Int
  trimRef : Int
  refGoal : Int
deriving DecidableEq, Repr

/-- The `THM` block after a lane reset. -/
def ThmSt.init : ThmSt :=
  { rounds := [], started := none, lastAt := 0, calmAt := none, dT := Vector.replicate 4 0, trimLf := 0, trimPap := 0,
    trimRef := 0, refGoal := 0 }

/-! ## Networks (chapter 18) -/

/-- A CAN controller (R406 to R416): whether it is on the bus; the entry whose attempt is under way, with its start-of-frame
sample; the schedule window that is open (its template, and the instant at which it closes); the FIFO's records (message RAM
offset and size, oldest first) and where the next one goes; whether a recovery from bus-off has been asked for. -/
structure CanSt where
  onBus : Bool
  attempt : Option (Nat × Nat)
  window : Option Nat
  fifo : List (Nat × Nat)
  place : Nat
  recovering : Bool
  closeAt : Nat := 0
deriving DecidableEq, Repr

/-- An Ethernet MAC (R419 to R425): the management access that runs (true for a write) with its PHY, register and data; the
attempts of the present frame under CSMA/CD; the sequence numbers of the last Pdelay_Req sent and of the last one
answered; the instant of the last sync; whether BEACONs are seen; the instant of the last Pdelay_Req. -/
structure EthSt where
  mdio : Option (Bool × Nat × Nat × Nat)
  tries : Nat
  pdelaySeq : Nat
  answered : Option Nat
  syncAt : Nat
  beacons : Bool
  pdelayAt : Nat := 0
deriving DecidableEq, Repr

/-- A controller after a lane reset. -/
def CanSt.init : CanSt :=
  { onBus := false, attempt := none, window := none, fifo := [], place := 0x4000, recovering := false }

/-- A MAC after a lane reset. -/
def EthSt.init : EthSt :=
  { mdio := none, tries := 0, pdelaySeq := 0, answered := none, syncAt := 0, beacons := false }

/-! ## The Assay and the crypto block (chapter 19) -/

/-- The comparison window of R438: own and partner's totals at its start, import then export, and its blocks. -/
structure XWindow where
  ownImp : Nat
  ownExp : Nat
  parImp : Nat
  parExp : Nat
  blocks : Nat
deriving DecidableEq, Repr

/-- The Assay of a lane (R427 to R440): the residue in 2^-32 uWh, the totals and the mode counters in uWh; the newest
results of the voltage and current filters; whether both filters have stayed valid since the last valid current result,
and its stamp; since when a filter has been invalid, with the part of a millisecond left over and the meter fault time of
the record's period (10 ns); triggers that wait for their capture, with the modes left and entered of a change; the flags
of the period since the last record; the captures held and the failures of the present commit; whether the first capture
after `ST19` has been made, whether the lane was the committing one at the last boundary, whether the hold-up machine has
stopped integration; the exchange captures of its own (k / 1,024 and totals), newest first, ending with the totals at the
start; the open comparison window. -/
structure AsySt where
  residue : Int
  imp : Nat
  exp : Nat
  modes : Vector (Nat × Nat) 8
  volt : Int
  amp : Int
  good : Bool
  stamp : Option Nat
  faultFrom : Option Nat
  faultMore : Nat
  faultTime : Nat
  triggers : Nat
  modeLeft : Option (Nat × Nat)
  flags : Nat
  held : List LedgerRec
  tries : Nat
  restarted : Bool
  committing : Bool
  stopped : Bool
  caps : List (Nat × Nat × Nat)
  window : Option XWindow
deriving DecidableEq, Repr

/-- The Assay after a lane reset. -/
def AsySt.init : AsySt :=
  { residue := 0, imp := 0, exp := 0, modes := Vector.replicate 8 (0, 0), volt := 0, amp := 0, good := false,
    stamp := none, faultFrom := none, faultMore := 0, faultTime := 0, triggers := 0, modeLeft := none, flags := 0,
    held := [], tries := 0, restarted := false, committing := false, stopped := false, caps := [], window := none }

/-- The crypto block (R442 to R449): the instant of the challenge that is live; whether an opening waits for its record;
whether a health test of the entropy source has failed since the lane reset; the opener's signature. -/
structure SecSt where
  chalAt : Option Nat
  opening : Bool
  entropyBad : Bool
  opener : List Nat := []
deriving DecidableEq, Repr

/-- The crypto block after a lane reset. -/
def SecSt.init : SecSt := { chalAt := none, opening := false, entropyBad := false }

/-! ## The whole machine -/

/-- What a lane holds of the Deputy's role (R28, R37, R340): when it last saw `DSP_ALIVE` change, when it began to miss
`DSP_ALIVE`, its own record of lost classes, the last sample of the Deputy's timer, whether its port has claimed `TIM7`, and
whether it is in the lane form of Safe stop. -/
structure SupSt where
  seenAt : Nat
  suspectAt : Option Nat
  lost : Nat
  sampleRemain : Nat
  sampleSafe : Bool
  sampleRun : Bool
  sampleAt : Nat
  tim7 : Bool
  laneStop : Bool
  rampAt : Option Nat
  master : Bool
deriving DecidableEq, Repr

/-- What a lane holds of the Deputy's role after a lane reset. -/
def SupSt.init : SupSt :=
  { seenAt := 0, suspectAt := none, lost := 0, sampleRemain := 0xFFFFFFFF, sampleSafe := false,
    sampleRun := false, sampleAt := 0, tim7 := false, laneStop := false, rampAt := none, master := false }


/-- Everything of a lane that a lane reset clears. `mem` holds the tightly coupled memories and the system SRAM by lane
address (R41), `tables` the table windows of its blocks (R71), `latched` the high words that reads of low words have
latched (R10), `irqs` the interrupts that are asserted (by the key of their enable field), `readData` the word that the
last read returned. -/
structure LaneRun where
  phase : LanePhase
  start : StartSt
  tal : Tally
  tims : Vector Timer 8
  clk : LaneClock
  sup : SupSt
  link : LinkSt
  chs : ChassisSt
  adc : AdcSt
  sdf : Vector SdfSt 12
  pos : PosSt
  ce : CeSt
  pwm : PwmSt
  mot : Vector MotMach 2
  nrg : NrgSt
  lckAt : Option Nat
  cvu : Vector CvuSt 4
  pwr : PwrSt
  thm : ThmSt
  can : Vector CanSt 4
  eth : Vector EthSt 3
  asy : AsySt
  sec : SecSt
  mem : List Host.Cell
  tables : List (Nat × Nat)
  latched : List (Nat × Nat)
  irqs : List Nat
  readData : Nat
deriving DecidableEq, Repr

/-- One lane: what its media keep, and what a lane reset clears. -/
structure LaneSt where
  nv : LaneNv
  run : LaneRun
deriving DecidableEq, Repr

/-- A lane right after a lane reset: every memory reads zero (R75, `ST01`). -/
def LaneRun.init : LaneRun :=
  { phase := .off, start := StartSt.init, tal := Tally.init,
    tims := Vector.replicate 8 { start := none, load := 0, unit := 1, sync := false }, clk := LaneClock.init, sup := SupSt.init,
    link := LinkSt.init, chs := ChassisSt.init,
    adc := AdcSt.init, sdf := Vector.replicate 12 SdfSt.init,
    pos := PosSt.init,
    ce := CeSt.init,
    pwm := PwmSt.init,
    mot := Vector.replicate 2 MotMach.init,
    nrg := NrgSt.init,
    lckAt := none, cvu := Vector.replicate 4 CvuSt.init,
    pwr := PwrSt.init,
    thm := ThmSt.init,
    can := Vector.replicate 4 CanSt.init, eth := Vector.replicate 3 EthSt.init,
    asy := AsySt.init, sec := SecSt.init,
    mem := [], tables := [], latched := [], irqs := [], readData := 0 }

/-- A lane's media as the part ships (R2, R3): a DEVELOP part with the development key in slot 0, no identity keys, an
empty ledger, an empty lamp board. -/
def LaneNv.shipped : LaneNv :=
  { keyProg := 1, keyHash := [], keyRevoked := 0, lifecycle := 1, banks := Vector.replicate 2 0, bankIn := 3,
    keygenLost := false, dbgRecorded := false, lamp := [], lampSeq := 0, ledger := [], snaps := [], sealNonce := 0 }

/-- The supplies of the package (R13, R14, R49, R59): which islands have qualified, whether `VKEEP` stands, the supplies of
each lane island that stand (bits 0 to 4 `VBAT`, `VINT`, `VDDC`, `VDDM`, `VDDA`, bits 5 to 9 the `VDDIO` banks), and whether the
device stood in Parked when the Deputy was last present (R52). -/
structure Supplies where
  islA : Bool
  islB : Bool
  vkeep : Bool
  hasA : Nat := if islA then 0x3FF else 0
  hasB : Nat := if islB then 0x3FF else 0
  parked : Bool := false
deriving DecidableEq, Repr

/-- The whole machine. `now` is the model's own clock in counts of 10 ns; `freeIdx` is the model's own counter of free
values taken (it selects the next one); `pending` is the queue of commands that are waiting, first in, first out. -/
structure State where
  now : Nat
  fine : Nat := 0
  freeIdx : Nat
  regs : RegFile
  sup : Supplies
  laneA : LaneSt
  laneB : LaneSt
  dep : DepSt
  modeEng : ModeEngine
  hoist : HoistSt
  mux : MuxSt
  papA : PapSt
  papB : PapSt
  storage : Bool
  pending : List Instr
deriving DecidableEq, Repr

/-- Why a command stops the block with a fault. The spec describes an effect for every command of the table, an error
response included, so the model has no fault. -/
inductive Fault
deriving DecidableEq, Repr

/-- Why a command is turned away by the model. -/
inductive Refusal
  /-- Raised by an arm of `exec` whose command has no meaning yet. Safe: the model stops where the hardware goes on. -/
  | notModelled (mnemonic : String)
deriving DecidableEq, Repr

/-- The machine right after reset: no supply has risen, every register holds the Reset entry of its table, nothing is
stored, no command waits. -/
def State.reset : State :=
  { now := 0, freeIdx := 0, regs := [], sup := { islA := false, islB := false, vkeep := false },
    laneA := { nv := LaneNv.shipped, run := LaneRun.init }, laneB := { nv := LaneNv.shipped, run := LaneRun.init },
    dep := DepSt.init, modeEng := { step := .idle, target := 0, master := .a, joint := false, since := 0, holdEnd := 0 },
    hoist := HoistSt.init, mux := MuxSt.init,
    papA := PapSt.init, papB := PapSt.init, storage := false,
    pending := [] }

end Sys2Proof.Machine
end

