-- ==== Sys2Proof/Machine/Registers.lean ====
section
/-!
DEFINITION. The register fields of the three register banks (a lane's own blocks, the Deputy, a power-and-analog die),
one descriptor per field of the spec's field tables, under the spec's own names. Each docstring gives the rule whose
table holds the field, its bits, its access code of R4 and its Reset entry of R11.
-/
namespace Sys2Proof.Machine

/-- R90 [4:0] RO, 0. Step in progress, or 19 once released -/
def R.CFG_START_STATUS.STEP : Fld := { bank := .lane, addr := 0x40010000, lo := 0, w := 5, acc := .ro }
/-- R90 [5] RO, 0. 1 after ST19 -/
def R.CFG_START_STATUS.DONE : Fld := { bank := .lane, addr := 0x40010000, lo := 5, w := 1, acc := .ro }
/-- R90 [6] RO, 0. Running slot: 0 A, 1 B -/
def R.CFG_START_STATUS.SLOT : Fld := { bank := .lane, addr := 0x40010000, lo := 6, w := 1, acc := .ro }
/-- R90 [7] RO, 0. Configuration copy in use: 0 copy 1, 1 copy 2 -/
def R.CFG_START_STATUS.COPY : Fld := { bank := .lane, addr := 0x40010000, lo := 7, w := 1, acc := .ro }
/-- R90 [8] RO, 0. Headframe mirror in use -/
def R.CFG_START_STATUS.HF_MIRROR : Fld := { bank := .lane, addr := 0x40010000, lo := 8, w := 1, acc := .ro }
/-- R90 [9] RO, 0. Factory calibration in use under R80 -/
def R.CFG_START_STATUS.CAL_FACTORY : Fld := { bank := .lane, addr := 0x40010000, lo := 9, w := 1, acc := .ro }
/-- R90 [10] RO, 0. Reduced PLL setting -/
def R.CFG_START_STATUS.REDUCED : Fld := { bank := .lane, addr := 0x40010000, lo := 10, w := 1, acc := .ro }
/-- R90 [11] RO, 0. Under R81 -/
def R.CFG_START_STATUS.SERVICE_ONLY : Fld := { bank := .lane, addr := 0x40010000, lo := 11, w := 1, acc := .ro }
/-- R90 [12] RO, 0. ST18 skipped -/
def R.CFG_START_STATUS.TIME_UNKNOWN : Fld := { bank := .lane, addr := 0x40010000, lo := 12, w := 1, acc := .ro }
/-- R90 [13] RO, 0. Under R77 -/
def R.CFG_START_STATUS.PARTNER_ABSENT : Fld := { bank := .lane, addr := 0x40010000, lo := 13, w := 1, acc := .ro }
/-- R90 [4:0] RO, 0. Step that failed on the previous start -/
def R.CFG_START_FAIL.STEP : Fld := { bank := .lane, addr := 0x40010004, lo := 0, w := 5, acc := .ro }
/-- R90 [7:5] RO, 0. Consecutive failures of that step, 0 to 3 -/
def R.CFG_START_FAIL.COUNT : Fld := { bank := .lane, addr := 0x40010004, lo := 5, w := 3, acc := .ro }
/-- R90 [15:8] RO, 0. Outcome code under R78 -/
def R.CFG_START_FAIL.CODE : Fld := { bank := .lane, addr := 0x40010004, lo := 8, w := 8, acc := .ro }
/-- R90 [1:0] RW, 0. Boot-next request. Each write programs the next erased byte of 0x38 to 0x3F of this start's lamp board record within 10 ms (R78): 0b01 slot A, 0b10 slot B, 0b00 none, which withdraws an earlier request. 0b11 acts as 0b00. At most eight writes per start are recorded, and a later write is discarded. The field reads the last recorded request. The next start's ST02 acts on it once (R80), so the request survives every reset and supply loss -/
def R.CFG_BOOT_NEXT.SLOT : Fld := { bank := .lane, addr := 0x40010008, lo := 0, w := 2, acc := .rw }
/-- R90 [0] RO, cfg. 0 vehicle, 1 stationary -/
def R.CFG_CONTAINER.APPLICATION : Fld := { bank := .lane, addr := 0x4001000C, lo := 0, w := 1, acc := .ro }
/-- R90 [1] RO, cfg. 0 three-lane, 1 single-lane -/
def R.CFG_CONTAINER.ARRANGEMENT : Fld := { bank := .lane, addr := 0x4001000C, lo := 1, w := 1, acc := .ro }
/-- R90 [2] RO, cfg. From the container flags -/
def R.CFG_CONTAINER.REDUCED_OK : Fld := { bank := .lane, addr := 0x4001000C, lo := 2, w := 1, acc := .ro }
/-- R90 [31:0] RO, cfg. Configuration version -/
def R.CFG_VERSION.VERSION : Fld := { bank := .lane, addr := 0x40010010, lo := 0, w := 32, acc := .ro }
/-- R90 [31:0] RO, 0. Boot image version, loaded at ST06 -/
def R.CFG_IMAGE_VERSION.VERSION : Fld := { bank := .lane, addr := 0x40010014, lo := 0, w := 32, acc := .ro }
/-- R90 [0] RO, 0. Under R76 -/
def R.CFG_SEAL.SEALED : Fld := { bank := .lane, addr := 0x40010018, lo := 0, w := 1, acc := .ro }
/-- R90 [1] RO, 0. Under R76 -/
def R.CFG_SEAL.DEPUTY_SEALED : Fld := { bank := .lane, addr := 0x40010018, lo := 1, w := 1, acc := .ro }
/-- R90 [3:0] RO, 0. One bit per slot, from OTP at ST02 -/
def R.CFG_KEY_STATUS.PROGRAMMED : Fld := { bank := .lane, addr := 0x4001001C, lo := 0, w := 4, acc := .ro }
/-- R90 [7:4] RO, 0. One bit per slot, from OTP at ST02 -/
def R.CFG_KEY_STATUS.REVOKED : Fld := { bank := .lane, addr := 0x4001001C, lo := 4, w := 4, acc := .ro }
/-- R90 [9:8] RO, 0. Slot that verified the boot image -/
def R.CFG_KEY_STATUS.IMG_SLOT : Fld := { bank := .lane, addr := 0x4001001C, lo := 8, w := 2, acc := .ro }
/-- R90 [11:10] RO, 0. Slot that verified the headframe -/
def R.CFG_KEY_STATUS.HF_SLOT : Fld := { bank := .lane, addr := 0x4001001C, lo := 10, w := 2, acc := .ro }
/-- R90 [13:12] RO, 0. Slot that verified the container -/
def R.CFG_KEY_STATUS.CFG_SLOT : Fld := { bank := .lane, addr := 0x4001001C, lo := 12, w := 2, acc := .ro }
/-- R90 [16] W1C, 0. Revocation refused under R67 -/
def R.CFG_KEY_STATUS.REVOKE_ERR : Fld := { bank := .lane, addr := 0x4001001C, lo := 16, w := 1, acc := .w1c }
/-- R90 [17] W1C, 0. Revocation programmed -/
def R.CFG_KEY_STATUS.REVOKE_DONE : Fld := { bank := .lane, addr := 0x4001001C, lo := 17, w := 1, acc := .w1c }
/-- R90 [1:0] WT, 0. Slot to revoke -/
def R.CFG_KEY_REVOKE.SLOT : Fld := { bank := .lane, addr := 0x40010020, lo := 0, w := 2, acc := .wt }
/-- R90 [31:16] WT, 0. Must be 0x5EA1 -/
def R.CFG_KEY_REVOKE.KEY : Fld := { bank := .lane, addr := 0x40010020, lo := 16, w := 16, acc := .wt }
/-- R90 [2:0] RO, 0. Present mode code -/
def R.CFG_MODE.MODE : Fld := { bank := .lane, addr := 0x40010024, lo := 0, w := 3, acc := .ro }
/-- R90 [6:4] RO, 0. Mode before the last change -/
def R.CFG_MODE.PREVIOUS : Fld := { bank := .lane, addr := 0x40010024, lo := 4, w := 3, acc := .ro }
/-- R90 [8] RO, 0. This lane is the master under R85 -/
def R.CFG_MODE.MASTER : Fld := { bank := .lane, addr := 0x40010024, lo := 8, w := 1, acc := .ro }
/-- R90 [9] RO, 0. Safe stop imposed, by the Deputy or by the lane itself (R1, R31) -/
def R.CFG_MODE.SAFE_STOP : Fld := { bank := .lane, addr := 0x40010024, lo := 9, w := 1, acc := .ro }
/-- R90 [10] RO, 0. Degraded-timed timer running -/
def R.CFG_MODE.DEGRADED : Fld := { bank := .lane, addr := 0x40010024, lo := 10, w := 1, acc := .ro }
/-- R90 [2:0] WT, 0. Starts R86 towards this mode -/
def R.CFG_MODE_REQ.TARGET : Fld := { bank := .lane, addr := 0x40010028, lo := 0, w := 3, acc := .wt }
/-- R90 [0] RO, 0. Steps 1 to 6 in progress -/
def R.CFG_MODE_STATUS.BUSY : Fld := { bank := .lane, addr := 0x4001002C, lo := 0, w := 1, acc := .ro }
/-- R90 [1] W1C, 0. The last request has ended, with RESULT valid -/
def R.CFG_MODE_STATUS.DONE : Fld := { bank := .lane, addr := 0x4001002C, lo := 1, w := 1, acc := .w1c }
/-- R90 [6:4] RO, 0. Code under R88 -/
def R.CFG_MODE_STATUS.RESULT : Fld := { bank := .lane, addr := 0x4001002C, lo := 4, w := 3, acc := .ro }
/-- R90 [10:8] RO, 0. Target of the last request -/
def R.CFG_MODE_STATUS.LAST_TARGET : Fld := { bank := .lane, addr := 0x4001002C, lo := 8, w := 3, acc := .ro }
/-- R90 [15:0] RO, 0. Duration of step 4, in 10 ns units -/
def R.CFG_MODE_TIME.HOLD : Fld := { bank := .lane, addr := 0x40010030, lo := 0, w := 16, acc := .ro }
/-- R90 [31:0] RO, 0. Sequence number of this start's record -/
def R.CFG_LAMP_SEQ.SEQ : Fld := { bank := .lane, addr := 0x40010034, lo := 0, w := 32, acc := .ro }
/-- R90 [12:0] RO, cfg. Triple count, 0 to 4,096 -/
def R.CFG_OVLm_INFO.TRIPLES : Fld := { bank := .lane, addr := 0x40010040, s1 := 0x4, n1 := 8, lo := 0, w := 13, acc := .ro }
/-- R90 [27:13] RO, cfg. Total patch words, 0 to 19,800 under R73 -/
def R.CFG_OVLm_INFO.PATCH_WORDS : Fld := { bank := .lane, addr := 0x40010040, s1 := 0x4, n1 := 8, lo := 13, w := 15, acc := .ro }
/-- R91 [7:0] RO, 0. xSPI clock in use -/
def R.NVM_XSPI_CFG.FREQ_MHZ : Fld := { bank := .lane, addr := 0x40110000, lo := 0, w := 8, acc := .ro }
/-- R91 [12:8] RO, 0. Read dummy cycles -/
def R.NVM_XSPI_CFG.DUMMY : Fld := { bank := .lane, addr := 0x40110000, lo := 8, w := 5, acc := .ro }
/-- R91 [20:16] RO, 0. log2 of NOR size in bytes, from SFDP, 26 to 28 -/
def R.NVM_XSPI_CFG.SIZE_LOG2 : Fld := { bank := .lane, addr := 0x40110000, lo := 16, w := 5, acc := .ro }
/-- R91 [7:0] RO, 0. eMMC clock in use -/
def R.NVM_EMMC_CFG.CLK_MHZ : Fld := { bank := .lane, addr := 0x40110004, lo := 0, w := 8, acc := .ro }
/-- R91 [8] RO, 0. HS200 on 8 lines established -/
def R.NVM_EMMC_CFG.HS200 : Fld := { bank := .lane, addr := 0x40110004, lo := 8, w := 1, acc := .ro }
/-- R91 [31:0] RO, 0. Window base in 512-byte sectors -/
def R.NVM_EMMC_BASE.SECTOR : Fld := { bank := .lane, addr := 0x40110008, lo := 0, w := 32, acc := .ro }
/-- R91 [0] RO, 0. NOR usable -/
def R.NVM_STATUS.XSPI_READY : Fld := { bank := .lane, addr := 0x4011000C, lo := 0, w := 1, acc := .ro }
/-- R91 [1] RO, 0. eMMC usable -/
def R.NVM_STATUS.EMMC_READY : Fld := { bank := .lane, addr := 0x4011000C, lo := 1, w := 1, acc := .ro }
/-- R91 [11:8] RO, 0. eMMC life estimate type A -/
def R.NVM_STATUS.LIFE_A : Fld := { bank := .lane, addr := 0x4011000C, lo := 8, w := 4, acc := .ro }
/-- R91 [15:12] RO, 0. eMMC life estimate type B -/
def R.NVM_STATUS.LIFE_B : Fld := { bank := .lane, addr := 0x4011000C, lo := 12, w := 4, acc := .ro }
/-- R91 [17:16] RO, 0. eMMC pre-end-of-life information -/
def R.NVM_STATUS.PRE_EOL : Fld := { bank := .lane, addr := 0x4011000C, lo := 16, w := 2, acc := .ro }
/-- R91 [3:0] RW, 0. Area code: 0 to 5 eMMC under R64; 8 headframe pair; 9 copy 1; 10 copy 2; 11 slot A; 12 slot B; 13 free NOR area -/
def R.NVM_REQ_AREA.AREA : Fld := { bank := .lane, addr := 0x40110010, lo := 0, w := 4, acc := .rw }
/-- R91 [31:0] RW, 0. Byte offset within the area -/
def R.NVM_REQ_OFFSET.OFFSET : Fld := { bank := .lane, addr := 0x40110014, lo := 0, w := 32, acc := .rw }
/-- R91 [16:0] RW, 0. Bytes, from 512 to 65,536 -/
def R.NVM_REQ_LEN.LEN : Fld := { bank := .lane, addr := 0x40110018, lo := 0, w := 17, acc := .rw }
/-- R91 [31:0] RW, 0. Source in system SRAM, 4-byte aligned -/
def R.NVM_REQ_SRC.ADDR : Fld := { bank := .lane, addr := 0x4011001C, lo := 0, w := 32, acc := .rw }
/-- R91 [31:0] RW, 0. Deadline bits [31:0] -/
def R.NVM_REQ_DEADLINE_LO.DL : Fld := { bank := .lane, addr := 0x40110020, lo := 0, w := 32, acc := .rw }
/-- R91 [7:0] RW, 0. Deadline bits [39:32] -/
def R.NVM_REQ_DEADLINE_HI.DL : Fld := { bank := .lane, addr := 0x40110024, lo := 0, w := 8, acc := .rw }
/-- R91 [0] WT, 0. Submits the request to Q07 -/
def R.NVM_REQ_GO.GO : Fld := { bank := .lane, addr := 0x40110028, lo := 0, w := 1, acc := .wt }
/-- R91 [5:0] RO, 0. Tally entry of the admitted request -/
def R.NVM_REQ_RESULT.ID : Fld := { bank := .lane, addr := 0x4011002C, lo := 0, w := 6, acc := .ro }
/-- R91 [8] RO, 0. The last request was admitted -/
def R.NVM_REQ_RESULT.ADMITTED : Fld := { bank := .lane, addr := 0x4011002C, lo := 8, w := 1, acc := .ro }
/-- R91 [11:9] RO, 0. 0 admitted, 1 REFUSED_LATE, 2 REFUSED_FULL, 3 protected area, 4 range or alignment -/
def R.NVM_REQ_RESULT.CODE : Fld := { bank := .lane, addr := 0x4011002C, lo := 9, w := 3, acc := .ro }
/-- R91 [15:0] RC, 0. Requests ended with FAILED_MEDIA -/
def R.NVM_MEDIA_ERR.COUNT : Fld := { bank := .lane, addr := 0x40110030, lo := 0, w := 16, acc := .rc }
/-- R114 [0] RW, 0. Interrupt when the ring level reaches OUT_IRQ_LEVEL -/
def R.TAL_CTRL.OUT_IRQ_EN : Fld := { bank := .lane, addr := 0x40020000, lo := 0, w := 1, acc := .rw }
/-- R114 [1] RW, 0. Interrupt on MISS -/
def R.TAL_CTRL.MISS_IRQ_EN : Fld := { bank := .lane, addr := 0x40020000, lo := 1, w := 1, acc := .rw }
/-- R114 [15:8] RW, 0. From 1 to 128. 0 acts as 1 -/
def R.TAL_CTRL.OUT_IRQ_LEVEL : Fld := { bank := .lane, addr := 0x40020000, lo := 8, w := 8, acc := .rw }
/-- R114 [0] W1C, 0. A deadline passed without an outcome, under R110 -/
def R.TAL_STATUS.MISS : Fld := { bank := .lane, addr := 0x40020004, lo := 0, w := 1, acc := .w1c }
/-- R114 [1] W1C, 0. The ring overwrote a record -/
def R.TAL_STATUS.OUT_OVF : Fld := { bank := .lane, addr := 0x40020004, lo := 1, w := 1, acc := .w1c }
/-- R114 [2] RO, 1. Every entry is FREE -/
def R.TAL_STATUS.EMPTY : Fld := { bank := .lane, addr := 0x40020004, lo := 2, w := 1, acc := .ro, rst := 1 }
/-- R114 [13:8] RO, 0. Entry of the last miss -/
def R.TAL_STATUS.LAST_MISS_ID : Fld := { bank := .lane, addr := 0x40020004, lo := 8, w := 6, acc := .ro }
/-- R114 [19:16] RO, 0. Queue of the last miss -/
def R.TAL_STATUS.LAST_MISS_Q : Fld := { bank := .lane, addr := 0x40020004, lo := 16, w := 4, acc := .ro }
/-- R114 [6:0] RO, 64. Free entries -/
def R.TAL_FREE.FREE : Fld := { bank := .lane, addr := 0x40020008, lo := 0, w := 7, acc := .ro, rst := 64 }
/-- R114 [15:0] RC, 0. Misses, saturating -/
def R.TAL_MISS_CNT.COUNT : Fld := { bank := .lane, addr := 0x4002000C, lo := 0, w := 16, acc := .rc }
/-- R114 [15:0] RC, 0. REFUSED_LATE results, saturating -/
def R.TAL_REFUSE_CNT.LATE : Fld := { bank := .lane, addr := 0x40020010, lo := 0, w := 16, acc := .rc }
/-- R114 [31:16] RC, 0. REFUSED_FULL results, saturating -/
def R.TAL_REFUSE_CNT.FULL : Fld := { bank := .lane, addr := 0x40020010, lo := 16, w := 16, acc := .rc }
/-- R114 [5:0] WT, 0. Entry to cancel under R111 -/
def R.TAL_CANCEL.ID : Fld := { bank := .lane, addr := 0x40020014, lo := 0, w := 6, acc := .wt }
/-- R114 [5:0] RC, 0. Entry. A read pops the record and latches its W1 -/
def R.TAL_OUT_W0.ID : Fld := { bank := .lane, addr := 0x40020018, lo := 0, w := 6, acc := .rc }
/-- R114 [11:8] RC, 0. Queue -/
def R.TAL_OUT_W0.QUEUE : Fld := { bank := .lane, addr := 0x40020018, lo := 8, w := 4, acc := .rc }
/-- R114 [14:12] RC, 0. Code under R109 -/
def R.TAL_OUT_W0.OUTCOME : Fld := { bank := .lane, addr := 0x40020018, lo := 12, w := 3, acc := .rc }
/-- R114 [15] RC, 0. Posted after the deadline -/
def R.TAL_OUT_W0.LATE : Fld := { bank := .lane, addr := 0x40020018, lo := 15, w := 1, acc := .rc }
/-- R114 [18:16] RC, 0. 0 AP, 1 CP, 2 CE, 3 ASY, 4 LNK, 5 other hardware block, 6 TRC, 7 debug port -/
def R.TAL_OUT_W0.INITIATOR : Fld := { bank := .lane, addr := 0x40020018, lo := 16, w := 3, acc := .rc }
/-- R114 [31] RC, 0. 0 when the ring was empty -/
def R.TAL_OUT_W0.VALID : Fld := { bank := .lane, addr := 0x40020018, lo := 31, w := 1, acc := .rc }
/-- R114 [31:0] RO, 0. Lane time bits [31:0] at the outcome -/
def R.TAL_OUT_W1.TIME : Fld := { bank := .lane, addr := 0x4002001C, lo := 0, w := 32, acc := .ro }
/-- R114 [7:0] RO, 0. Records in the ring, from 0 to 128 -/
def R.TAL_OUT_LEVEL.LEVEL : Fld := { bank := .lane, addr := 0x40020020, lo := 0, w := 8, acc := .ro }
/-- R114 [31:0] RWS, cfg. Configured fixed cost, in counts -/
def R.TAL_Qq_WC_FIX.COUNTS : Fld := { bank := .lane, addr := 0x40020400, s1 := 0x20, n1 := 16, lo := 0, w := 32, acc := .rws }
/-- R114 [23:0] RWS, cfg. Cost per size unit, in 1/16 count -/
def R.TAL_Qq_WC_UNIT.COST : Fld := { bank := .lane, addr := 0x40020404, s1 := 0x20, n1 := 16, lo := 0, w := 24, acc := .rws }
/-- R114 [11:0] RWS, cfg. Completions before R106 uses measurements. 0 never -/
def R.TAL_Qq_MODEL.LEARN : Fld := { bank := .lane, addr := 0x40020408, s1 := 0x20, n1 := 16, lo := 0, w := 12, acc := .rws }
/-- R114 [19:16] RWS, cfg. Margin 1 + MARGIN/16 -/
def R.TAL_Qq_MODEL.MARGIN : Fld := { bank := .lane, addr := 0x40020408, s1 := 0x20, n1 := 16, lo := 16, w := 4, acc := .rws }
/-- R114 [6:0] RW, cfg. Entries in flight on the queue, from 1 to 64. 0 acts as 1, and above 64 as 64 -/
def R.TAL_Qq_LIMIT.QUOTA : Fld := { bank := .lane, addr := 0x4002040C, s1 := 0x20, n1 := 16, lo := 0, w := 7, acc := .rw }
/-- R114 [31:16] RW, cfg. Under R107, in µs -/
def R.TAL_Qq_LIMIT.ABORT_LEAD : Fld := { bank := .lane, addr := 0x4002040C, s1 := 0x20, n1 := 16, lo := 16, w := 16, acc := .rw }
/-- R114 [31:0] RO, 0. Largest measured fixed cost, in counts -/
def R.TAL_Qq_MEAS.FIX_MAX : Fld := { bank := .lane, addr := 0x40020410, s1 := 0x20, n1 := 16, lo := 0, w := 32, acc := .ro }
/-- R114 [31:0] RO, 0. backlog(q) of R105, saturating -/
def R.TAL_Qq_BACKLOG.COUNTS : Fld := { bank := .lane, addr := 0x40020414, s1 := 0x20, n1 := 16, lo := 0, w := 32, acc := .ro }
/-- R114 [10:0] RO, 0. Descriptors or results in the queue -/
def R.TAL_Qq_LEVEL.DESC : Fld := { bank := .lane, addr := 0x40020418, s1 := 0x20, n1 := 16, lo := 0, w := 11, acc := .ro }
/-- R114 [22:16] RO, 0. Entries not FREE -/
def R.TAL_Qq_LEVEL.INFLIGHT : Fld := { bank := .lane, addr := 0x40020418, s1 := 0x20, n1 := 16, lo := 16, w := 7, acc := .ro }
/-- R114 [15:0] RC, 0. DONE outcomes, saturating -/
def R.TAL_Qq_STAT.DONE : Fld := { bank := .lane, addr := 0x4002041C, s1 := 0x20, n1 := 16, lo := 0, w := 16, acc := .rc }
/-- R114 [31:16] RC, 0. Other outcomes, or discarded results on Q11 and Q12 -/
def R.TAL_Qq_STAT.FAIL_DROP : Fld := { bank := .lane, addr := 0x4002041C, s1 := 0x20, n1 := 16, lo := 16, w := 16, acc := .rc }
/-- R114 [2:0] RO, 0. As TAL_OUT_W0.INITIATOR -/
def R.TAL_Ee_INFO.INITIATOR : Fld := { bank := .lane, addr := 0x40020800, s1 := 0x10, n1 := 64, lo := 0, w := 3, acc := .ro }
/-- R114 [7:4] RO, 0. Queue -/
def R.TAL_Ee_INFO.QUEUE : Fld := { bank := .lane, addr := 0x40020800, s1 := 0x10, n1 := 64, lo := 4, w := 4, acc := .ro }
/-- R114 [9:8] RO, 0. 0 FREE, 1 WAITING, 2 ACTIVE, 3 ENDING -/
def R.TAL_Ee_INFO.STATE : Fld := { bank := .lane, addr := 0x40020800, s1 := 0x10, n1 := 64, lo := 8, w := 2, acc := .ro }
/-- R114 [10] RO, 0. Admitted on a measured fix -/
def R.TAL_Ee_INFO.MEASURED : Fld := { bank := .lane, addr := 0x40020800, s1 := 0x10, n1 := 64, lo := 10, w := 1, acc := .ro }
/-- R114 [31:16] RO, 0. Size in queue units -/
def R.TAL_Ee_INFO.SIZE : Fld := { bank := .lane, addr := 0x40020800, s1 := 0x10, n1 := 64, lo := 16, w := 16, acc := .ro }
/-- R114 [31:0] RO, 0. Deadline bits [31:0] -/
def R.TAL_Ee_DEADLINE_LO.DL : Fld := { bank := .lane, addr := 0x40020804, s1 := 0x10, n1 := 64, lo := 0, w := 32, acc := .ro }
/-- R114 [7:0] RO, 0. Deadline bits [39:32] -/
def R.TAL_Ee_DEADLINE_HI.DL : Fld := { bank := .lane, addr := 0x40020808, s1 := 0x10, n1 := 64, lo := 0, w := 8, acc := .ro }
/-- R114 [31:0] RO, 0. Admission bound, lane time bits [31:0] -/
def R.TAL_Ee_BOUND_LO.BOUND : Fld := { bank := .lane, addr := 0x4002080C, s1 := 0x10, n1 := 64, lo := 0, w := 32, acc := .ro }
/-- R115 [31:0] RO, 0. Lane time bits [31:0]. A read latches the high word under R10 -/
def R.TIM_NOW_LO.TIME : Fld := { bank := .lane, addr := 0x40170000, lo := 0, w := 32, acc := .ro }
/-- R115 [31:0] RO, 0. Lane time bits [63:32], as latched -/
def R.TIM_NOW_HI.TIME : Fld := { bank := .lane, addr := 0x40170004, lo := 0, w := 32, acc := .ro }
/-- R115 [1:0] RO, 0. Under R99 -/
def R.TIM_QUAL.SOURCE : Fld := { bank := .lane, addr := 0x40170008, lo := 0, w := 2, acc := .ro }
/-- R115 [2] RO, 0. 802.1AS synchronised within the last 3 sync intervals -/
def R.TIM_QUAL.NET_LOCK : Fld := { bank := .lane, addr := 0x40170008, lo := 2, w := 1, acc := .ro }
/-- R115 [31:0] RO, 0. Network time minus lane time, bits [31:0], in counts -/
def R.TIM_EPOCH_LO.EPOCH : Fld := { bank := .lane, addr := 0x4017000C, lo := 0, w := 32, acc := .ro }
/-- R115 [31:0] RO, 0. Bits [63:32]. Read under R10 -/
def R.TIM_EPOCH_HI.EPOCH : Fld := { bank := .lane, addr := 0x40170010, lo := 0, w := 32, acc := .ro }
/-- R115 [31:0] RO, 0xFFFF_FFFF. Network-time uncertainty in µs, rounded up -/
def R.TIM_UNC.US : Fld := { bank := .lane, addr := 0x40170014, lo := 0, w := 32, acc := .ro, rst := 4294967295 }
/-- R115 [31:0] RO, 0. Signed offset under R100, bits [31:0] -/
def R.TIM_PARTNER_OFS_LO.OFS : Fld := { bank := .lane, addr := 0x40170018, lo := 0, w := 32, acc := .ro }
/-- R115 [31:0] RO, 0. Bits [63:32]. Read under R10 -/
def R.TIM_PARTNER_OFS_HI.OFS : Fld := { bank := .lane, addr := 0x4017001C, lo := 0, w := 32, acc := .ro }
/-- R115 [0] RO, 0. Offset at most 10 traction cycles old -/
def R.TIM_PARTNER_STAT.VALID : Fld := { bank := .lane, addr := 0x40170020, lo := 0, w := 1, acc := .ro }
/-- R115 [15:4] RO, 0. Last lane-link round trip, in counts -/
def R.TIM_PARTNER_STAT.RTT : Fld := { bank := .lane, addr := 0x40170020, lo := 4, w := 12, acc := .ro }
/-- R115 [31:16] RO, 0. Traction cycles since the last offset, saturating -/
def R.TIM_PARTNER_STAT.AGE : Fld := { bank := .lane, addr := 0x40170020, lo := 16, w := 16, acc := .ro }
/-- R115 [31:0] RO, 0. Elapsed time across the last Parked, bits [31:0], in counts -/
def R.TIM_ELAPSED_LO.TIME : Fld := { bank := .lane, addr := 0x40170024, lo := 0, w := 32, acc := .ro }
/-- R115 [31:0] RO, 0. Bits [63:32]. Read under R10 -/
def R.TIM_ELAPSED_HI.TIME : Fld := { bank := .lane, addr := 0x40170028, lo := 0, w := 32, acc := .ro }
/-- R115 [31:0] RO, 0xFFFF_FFFF. Bound under R101, in µs -/
def R.TIM_ELAPSED_UNC.US : Fld := { bank := .lane, addr := 0x4017002C, lo := 0, w := 32, acc := .ro, rst := 4294967295 }
/-- R115 [0] RO, 0. Elapsed time available under R102 -/
def R.TIM_ELAPSED_INFO.VALID : Fld := { bank := .lane, addr := 0x40170030, lo := 0, w := 1, acc := .ro }
/-- R115 [1] RO, 0. The source changed during the interval -/
def R.TIM_ELAPSED_INFO.SRC_CHANGE : Fld := { bank := .lane, addr := 0x40170030, lo := 1, w := 1, acc := .ro }
/-- R115 [2] RO, 0. Source at the end: 0 watchdog oscillator, 1 RC oscillator -/
def R.TIM_ELAPSED_INFO.SOURCE : Fld := { bank := .lane, addr := 0x40170030, lo := 2, w := 1, acc := .ro }
/-- R115 [31:0] RO, 0. Watchdog oscillator estimate used, in mHz -/
def R.TIM_LFO_EST.MHZ : Fld := { bank := .lane, addr := 0x40170034, lo := 0, w := 32, acc := .ro }
/-- R115 [0] RW, 0. Run -/
def R.TIM_Tn_CFG.EN : Fld := { bank := .lane, addr := 0x40170040, s1 := 0x10, n1 := 8, lo := 0, w := 1, acc := .rw }
/-- R115 [1] RW, 0. 1 periodic, 0 one-shot -/
def R.TIM_Tn_CFG.PERIODIC : Fld := { bank := .lane, addr := 0x40170040, s1 := 0x10, n1 := 8, lo := 1, w := 1, acc := .rw }
/-- R115 [2] RW, 0. Start at a traction-cycle boundary -/
def R.TIM_Tn_CFG.SYNC : Fld := { bank := .lane, addr := 0x40170040, s1 := 0x10, n1 := 8, lo := 2, w := 1, acc := .rw }
/-- R115 [4] RW, 0. Interrupt on expiry -/
def R.TIM_Tn_CFG.IRQ_EN : Fld := { bank := .lane, addr := 0x40170040, s1 := 0x10, n1 := 8, lo := 4, w := 1, acc := .rw }
/-- R115 [5] RW, 0. Event TIMn to the PWM and converter trigger networks -/
def R.TIM_Tn_CFG.TRIG_EN : Fld := { bank := .lane, addr := 0x40170040, s1 := 0x10, n1 := 8, lo := 5, w := 1, acc := .rw }
/-- R115 [7:6] RW, 0. 0 10 ns, 1 1 µs, 2 1 ms. 3 acts as 2 -/
def R.TIM_Tn_CFG.UNIT : Fld := { bank := .lane, addr := 0x40170040, s1 := 0x10, n1 := 8, lo := 6, w := 2, acc := .rw }
/-- R115 [31:0] RW, 0. Interval in units of UNIT. 0 acts as 1. With 1, the timer expires at its first decrement, at most one unit after its start -/
def R.TIM_Tn_LOAD.COUNTS : Fld := { bank := .lane, addr := 0x40170044, s1 := 0x10, n1 := 8, lo := 0, w := 32, acc := .rw }
/-- R115 [31:0] RO, 0. Present count -/
def R.TIM_Tn_COUNT.COUNTS : Fld := { bank := .lane, addr := 0x40170048, s1 := 0x10, n1 := 8, lo := 0, w := 32, acc := .ro }
/-- R115 [0] W1C, 0. Expired -/
def R.TIM_Tn_STATUS.EXPIRED : Fld := { bank := .lane, addr := 0x4017004C, s1 := 0x10, n1 := 8, lo := 0, w := 1, acc := .w1c }
/-- R115 [1] W1C, 0. Expired again while EXPIRED was set -/
def R.TIM_Tn_STATUS.OVERRUN : Fld := { bank := .lane, addr := 0x4017004C, s1 := 0x10, n1 := 8, lo := 1, w := 1, acc := .w1c }
/-- R148 [0] RW, cfg. Enables every slice estimator -/
def R.ADC_CTRL.EST_EN : Fld := { bank := .lane, addr := 0x40030000, lo := 0, w := 1, acc := .rw }
/-- R148 [1] RW, cfg. Enables the evaluation of R137. With 0, every channel with a record stays INSIDE -/
def R.ADC_CTRL.ENV_EN : Fld := { bank := .lane, addr := 0x40030000, lo := 1, w := 1, acc := .rw }
/-- R148 [8] RW, cfg. Interrupt when an urgent result enters Q12 -/
def R.ADC_CTRL.URG_IRQ_EN : Fld := { bank := .lane, addr := 0x40030000, lo := 8, w := 1, acc := .rw }
/-- R148 [9] RW, cfg. Interrupt on FALLBACK entry -/
def R.ADC_CTRL.ENV_IRQ_EN : Fld := { bank := .lane, addr := 0x40030000, lo := 9, w := 1, acc := .rw }
/-- R148 [11:0] RO, 0. One bit per group not Idle -/
def R.ADC_STATUS.GROUP_ACTIVE : Fld := { bank := .lane, addr := 0x40030004, lo := 0, w := 12, acc := .ro }
/-- R148 [16] W1C, 0. A channel or filter entered FALLBACK -/
def R.ADC_STATUS.FALLBACK : Fld := { bank := .lane, addr := 0x40030004, lo := 16, w := 1, acc := .w1c }
/-- R148 [17] W1C, 0. Q11 discarded a result -/
def R.ADC_STATUS.Q11_DROP : Fld := { bank := .lane, addr := 0x40030004, lo := 17, w := 1, acc := .w1c }
/-- R148 [18] W1C, 0. Q12 discarded a result -/
def R.ADC_STATUS.Q12_DROP : Fld := { bank := .lane, addr := 0x40030004, lo := 18, w := 1, acc := .w1c }
/-- R148 [3:0] WT, 0. Group -/
def R.ADC_URGENT.GROUP : Fld := { bank := .lane, addr := 0x40030008, lo := 0, w := 4, acc := .wt }
/-- R148 [13:8] WT, 0. Channel code. A write starts R127 -/
def R.ADC_URGENT.CHANNEL : Fld := { bank := .lane, addr := 0x40030008, lo := 8, w := 6, acc := .wt }
/-- R148 [11:0] RO, 0. One bit per group -/
def R.ADC_URGENT_STATUS.PENDING : Fld := { bank := .lane, addr := 0x4003000C, lo := 0, w := 12, acc := .ro }
/-- R148 [18:16] RO, 0. Under R127 -/
def R.ADC_URGENT_STATUS.RESULT : Fld := { bank := .lane, addr := 0x4003000C, lo := 16, w := 3, acc := .ro }
/-- R148 [23:20] RO, 0. Group of the last request -/
def R.ADC_URGENT_STATUS.LAST_GROUP : Fld := { bank := .lane, addr := 0x4003000C, lo := 20, w := 4, acc := .ro }
/-- R148 [15:0] RC, 0. Saturating -/
def R.ADC_URGENT_CNT.ACCEPTED : Fld := { bank := .lane, addr := 0x40030010, lo := 0, w := 16, acc := .rc }
/-- R148 [31:16] RC, 0. Saturating -/
def R.ADC_URGENT_CNT.REFUSED : Fld := { bank := .lane, addr := 0x40030010, lo := 16, w := 16, acc := .rc }
/-- R148 [4:0] RW, cfg. Arithmetic slot 0 to 23 for the current -/
def R.ADC_ENV_SRC.CUR_SLOT : Fld := { bank := .lane, addr := 0x40030014, lo := 0, w := 5, acc := .rw }
/-- R148 [12:8] RW, cfg. Arithmetic slot 0 to 23 for the DC-link voltage -/
def R.ADC_ENV_SRC.VDC_SLOT : Fld := { bank := .lane, addr := 0x40030014, lo := 8, w := 5, acc := .rw }
/-- R148 [31:16] RW, cfg. Volts at 1.0 per unit -/
def R.ADC_ENV_SRC.VBASE : Fld := { bank := .lane, addr := 0x40030014, lo := 16, w := 16, acc := .rw }
/-- R148 [15:0] RO, 0. Temperature used, signed, 0.1 °C -/
def R.ADC_ENV_NOW.TEMP : Fld := { bank := .lane, addr := 0x40030018, lo := 0, w := 16, acc := .ro }
/-- R148 [31:16] RO, 0. DC-link voltage used, 0.1 V -/
def R.ADC_ENV_NOW.VDC : Fld := { bank := .lane, addr := 0x40030018, lo := 16, w := 16, acc := .ro }
/-- R148 [31:0] RO, 0. Current used, signal format -/
def R.ADC_ENV_CUR.CUR : Fld := { bank := .lane, addr := 0x4003001C, lo := 0, w := 32, acc := .ro }
/-- R148 [5:0] RW, 0. Channel code -/
def R.ADC_SYSCAL_CTRL.CHANNEL : Fld := { bank := .lane, addr := 0x40030020, lo := 0, w := 6, acc := .rw }
/-- R148 [8] RW, 0. 0 zero, 1 full scale -/
def R.ADC_SYSCAL_CTRL.POINT : Fld := { bank := .lane, addr := 0x40030020, lo := 8, w := 1, acc := .rw }
/-- R148 [15:12] RW, 0. From 8 to 16. Below 8 acts as 8, above 16 as 16 -/
def R.ADC_SYSCAL_CTRL.LOG2N : Fld := { bank := .lane, addr := 0x40030020, lo := 12, w := 4, acc := .rw }
/-- R148 [0] WT, 0. Starts collection under R140 -/
def R.ADC_SYSCAL_GO.MEASURE : Fld := { bank := .lane, addr := 0x40030024, lo := 0, w := 1, acc := .wt }
/-- R148 [1] WT, 0. Computes and writes under R141 -/
def R.ADC_SYSCAL_GO.APPLY : Fld := { bank := .lane, addr := 0x40030024, lo := 1, w := 1, acc := .wt }
/-- R148 [2] WT, 0. Ends collection with result 3 -/
def R.ADC_SYSCAL_GO.ABORT : Fld := { bank := .lane, addr := 0x40030024, lo := 2, w := 1, acc := .wt }
/-- R148 [0] RO, 0. Collecting -/
def R.ADC_SYSCAL_STATUS.BUSY : Fld := { bank := .lane, addr := 0x40030028, lo := 0, w := 1, acc := .ro }
/-- R148 [1] RO, 0. Zero point measured -/
def R.ADC_SYSCAL_STATUS.ZERO_VALID : Fld := { bank := .lane, addr := 0x40030028, lo := 1, w := 1, acc := .ro }
/-- R148 [2] RO, 0. Full-scale point measured -/
def R.ADC_SYSCAL_STATUS.FULL_VALID : Fld := { bank := .lane, addr := 0x40030028, lo := 2, w := 1, acc := .ro }
/-- R148 [6:4] RO, 0. 0 done, 1 not in Service, 2 out of range, 3 aborted, 4 a point missing, 5 mode change -/
def R.ADC_SYSCAL_STATUS.RESULT : Fld := { bank := .lane, addr := 0x40030028, lo := 4, w := 3, acc := .ro }
/-- R148 [13:0] RW, 0. Tz -/
def R.ADC_SYSCAL_TARGET.ZERO : Fld := { bank := .lane, addr := 0x4003002C, lo := 0, w := 14, acc := .rw }
/-- R148 [29:16] RW, 0. Tf -/
def R.ADC_SYSCAL_TARGET.FULL : Fld := { bank := .lane, addr := 0x4003002C, lo := 16, w := 14, acc := .rw }
/-- R148 [17:0] RO, 0. Mz, 1/16 LSB -/
def R.ADC_SYSCAL_MEAS_ZERO.MEAS : Fld := { bank := .lane, addr := 0x40030030, lo := 0, w := 18, acc := .ro }
/-- R148 [17:0] RO, 0. Mf, 1/16 LSB -/
def R.ADC_SYSCAL_MEAS_FULL.MEAS : Fld := { bank := .lane, addr := 0x40030034, lo := 0, w := 18, acc := .ro }
/-- R148 [11:0] RO, 0. One bit per group -/
def R.ADC_SELFTEST.GROUP_PASS : Fld := { bank := .lane, addr := 0x40030038, lo := 0, w := 12, acc := .ro }
/-- R148 [27:16] RO, 0. One bit per filter, 1 also for disabled filters -/
def R.ADC_SELFTEST.SDF_PASS : Fld := { bank := .lane, addr := 0x40030038, lo := 16, w := 12, acc := .ro }
/-- R148 [31] RO, 0. ST11 ran -/
def R.ADC_SELFTEST.DONE : Fld := { bank := .lane, addr := 0x40030038, lo := 31, w := 1, acc := .ro }
/-- R148 [15:0] RC, 0. FALLBACK entries, saturating -/
def R.ADC_ENV_EVT_CNT.COUNT : Fld := { bank := .lane, addr := 0x4003003C, lo := 0, w := 16, acc := .rc }
/-- R148 [31:0] RC, 0xFFFF_FFFF. Under R124 and R126 -/
def R.ADC_Q11_DATA.ENTRY : Fld := { bank := .lane, addr := 0x40030040, lo := 0, w := 32, acc := .rc, rst := 4294967295 }
/-- R148 [31:0] RO, 0. Stamp of the last entry read -/
def R.ADC_Q11_STAMP.STAMP : Fld := { bank := .lane, addr := 0x40030044, lo := 0, w := 32, acc := .ro }
/-- R148 [31:0] RC, 0xFFFF_FFFF. As Q11 -/
def R.ADC_Q12_DATA.ENTRY : Fld := { bank := .lane, addr := 0x40030048, lo := 0, w := 32, acc := .rc, rst := 4294967295 }
/-- R148 [31:0] RO, 0. As Q11 -/
def R.ADC_Q12_STAMP.STAMP : Fld := { bank := .lane, addr := 0x4003004C, lo := 0, w := 32, acc := .ro }
/-- R148 [3:0] RO, 0. Active bank -/
def R.ADC_CAL_INFO.BANK : Fld := { bank := .lane, addr := 0x40030050, lo := 0, w := 4, acc := .ro }
/-- R148 [4] RO, 0. No valid bank found -/
def R.ADC_CAL_INFO.NO_BANK : Fld := { bank := .lane, addr := 0x40030050, lo := 4, w := 1, acc := .ro }
/-- R148 [23:8] RO, 0. Records loaded -/
def R.ADC_CAL_INFO.RECORDS : Fld := { bank := .lane, addr := 0x40030050, lo := 8, w := 16, acc := .ro }
/-- R148 [31:24] RO, 0. Records rejected, saturating -/
def R.ADC_CAL_INFO.REJECTED : Fld := { bank := .lane, addr := 0x40030050, lo := 24, w := 8, acc := .ro }
/-- R148 [1:0] RW, cfg. Under R118 -/
def R.ADC_Gg_CFG.MODE : Fld := { bank := .lane, addr := 0x40030100, s1 := 0x80, n1 := 12, lo := 0, w := 2, acc := .rw }
/-- R148 [3:2] RW, cfg. Under R122 -/
def R.ADC_Gg_CFG.DEST : Fld := { bank := .lane, addr := 0x40030100, s1 := 0x80, n1 := 12, lo := 2, w := 2, acc := .rw }
/-- R148 [8:4] RW, cfg. 1 to 16. 0 acts as 1, above 16 as 16 -/
def R.ADC_Gg_CFG.LEN : Fld := { bank := .lane, addr := 0x40030100, s1 := 0x80, n1 := 12, lo := 4, w := 5, acc := .rw }
/-- R148 [16] RW, cfg. Under R133 -/
def R.ADC_Gg_CFG.EST_FREEZE : Fld := { bank := .lane, addr := 0x40030100, s1 := 0x80, n1 := 12, lo := 16, w := 1, acc := .rw }
/-- R148 [5:0] RW, cfg. Under R120 -/
def R.ADC_Gg_TRIG.SRC : Fld := { bank := .lane, addr := 0x40030104, s1 := 0x80, n1 := 12, lo := 0, w := 6, acc := .rw }
/-- R148 [31:16] RW, cfg. Steps of 6.25 ns -/
def R.ADC_Gg_TRIG.DELAY : Fld := { bank := .lane, addr := 0x40030104, s1 := 0x80, n1 := 12, lo := 16, w := 16, acc := .rw }
/-- R148 [15:0] RW, cfg. Unused phases between round-robin passes -/
def R.ADC_Gg_PACE.IDLE : Fld := { bank := .lane, addr := 0x40030108, s1 := 0x80, n1 := 12, lo := 0, w := 16, acc := .rw }
/-- R148 [31:16] RW, cfg. Queue decimation in streaming mode -/
def R.ADC_Gg_PACE.DECIM : Fld := { bank := .lane, addr := 0x40030108, s1 := 0x80, n1 := 12, lo := 16, w := 16, acc := .rw }
/-- R148 [5:0] RW, cfg. Channel codes of entries 4j to 4j + 3 -/
def R.ADC_Gg_LISTj.CH0 : Fld := { bank := .lane, addr := 0x4003010C, s1 := 0x80, n1 := 12, s2 := 0x4, n2 := 4, lo := 0, w := 6, acc := .rw }
/-- R148 [13:8] RW, cfg. Channel codes of entries 4j to 4j + 3 -/
def R.ADC_Gg_LISTj.CH1 : Fld := { bank := .lane, addr := 0x4003010C, s1 := 0x80, n1 := 12, s2 := 0x4, n2 := 4, lo := 8, w := 6, acc := .rw }
/-- R148 [21:16] RW, cfg. Channel codes of entries 4j to 4j + 3 -/
def R.ADC_Gg_LISTj.CH2 : Fld := { bank := .lane, addr := 0x4003010C, s1 := 0x80, n1 := 12, s2 := 0x4, n2 := 4, lo := 16, w := 6, acc := .rw }
/-- R148 [29:24] RW, cfg. Channel codes of entries 4j to 4j + 3 -/
def R.ADC_Gg_LISTj.CH3 : Fld := { bank := .lane, addr := 0x4003010C, s1 := 0x80, n1 := 12, s2 := 0x4, n2 := 4, lo := 24, w := 6, acc := .rw }
/-- R148 [0] RO, 0. A pass is in progress, or streaming -/
def R.ADC_Gg_STATUS.RUNNING : Fld := { bank := .lane, addr := 0x4003011C, s1 := 0x80, n1 := 12, lo := 0, w := 1, acc := .ro }
/-- R148 [1] RO, 0. Triggered and armed -/
def R.ADC_Gg_STATUS.WAITING : Fld := { bank := .lane, addr := 0x4003011C, s1 := 0x80, n1 := 12, lo := 1, w := 1, acc := .ro }
/-- R148 [2] W1C, 0. Under R121 -/
def R.ADC_Gg_STATUS.TRIG_OVR : Fld := { bank := .lane, addr := 0x4003011C, s1 := 0x80, n1 := 12, lo := 2, w := 1, acc := .w1c }
/-- R148 [3] W1C, 0. Under R130 -/
def R.ADC_Gg_STATUS.CLIP : Fld := { bank := .lane, addr := 0x4003011C, s1 := 0x80, n1 := 12, lo := 3, w := 1, acc := .w1c }
/-- R148 [5:4] RO, 0. 0 FACTORY, 1 MOVING, 2 SETTLED, 3 FROZEN -/
def R.ADC_Gg_STATUS.EST_STATE : Fld := { bank := .lane, addr := 0x4003011C, s1 := 0x80, n1 := 12, lo := 4, w := 2, acc := .ro }
/-- R148 [6] RO, 0. Under R131 -/
def R.ADC_Gg_STATUS.ELIGIBLE : Fld := { bank := .lane, addr := 0x4003011C, s1 := 0x80, n1 := 12, lo := 6, w := 1, acc := .ro }
/-- R148 [7] RO, 0. Under R132 -/
def R.ADC_Gg_STATUS.LOW_SIGNAL : Fld := { bank := .lane, addr := 0x4003011C, s1 := 0x80, n1 := 12, lo := 7, w := 1, acc := .ro }
/-- R148 [31:0] RO, 0. Eligible samples, saturating -/
def R.ADC_Gg_EST_CNT.COUNT : Fld := { bank := .lane, addr := 0x40030120, s1 := 0x80, n1 := 12, lo := 0, w := 32, acc := .ro }
/-- R148 [15:0] RC, 0. Accepted triggers, saturating -/
def R.ADC_Gg_TRIG_CNT.TRIGGERS : Fld := { bank := .lane, addr := 0x40030124, s1 := 0x80, n1 := 12, lo := 0, w := 16, acc := .rc }
/-- R148 [31:16] RC, 0. Under R121, saturating -/
def R.ADC_Gg_TRIG_CNT.OVERRUNS : Fld := { bank := .lane, addr := 0x40030124, s1 := 0x80, n1 := 12, lo := 16, w := 16, acc := .rc }
/-- R148 [15:0] RC, 0. Clipped raw codes, saturating -/
def R.ADC_Gg_CLIP_CNT.COUNT : Fld := { bank := .lane, addr := 0x40030128, s1 := 0x80, n1 := 12, lo := 0, w := 16, acc := .rc }
/-- R148 [15:0] RO, Factory. Applied ofs_k, signed, 1/16 LSB -/
def R.ADC_Gg_Sk_OG.OFFSET : Fld := { bank := .lane, addr := 0x40030140, s1 := 0x80, n1 := 12, s2 := 0x8, n2 := 4, lo := 0, w := 16, acc := .ro }
/-- R148 [31:16] RO, Factory. Applied gain_k, signed, 2^−18 -/
def R.ADC_Gg_Sk_OG.GAIN : Fld := { bank := .lane, addr := 0x40030140, s1 := 0x80, n1 := 12, s2 := 0x8, n2 := 4, lo := 16, w := 16, acc := .ro }
/-- R148 [15:0] RO, Factory. Applied skew_k, signed, 0.01 ps. Zero for slice 0 -/
def R.ADC_Gg_Sk_SKEW.SKEW : Fld := { bank := .lane, addr := 0x40030144, s1 := 0x80, n1 := 12, s2 := 0x8, n2 := 4, lo := 0, w := 16, acc := .ro }
/-- R148 [31:0] RO, 0xFFFF_FFFF. Under R122 and R124 -/
def R.ADC_CHc_LAST.ENTRY : Fld := { bank := .lane, addr := 0x40030800, s1 := 0x10, n1 := 64, lo := 0, w := 32, acc := .ro, rst := 4294967295 }
/-- R148 [15:0] RW, 0. Target gain 1 + GAIN/2^16, signed -/
def R.ADC_CHc_CORR.GAIN : Fld := { bank := .lane, addr := 0x40030804, s1 := 0x10, n1 := 64, lo := 0, w := 16, acc := .rw }
/-- R148 [31:16] RW, 0. Target offset, signed, 1/4 LSB -/
def R.ADC_CHc_CORR.OFFSET : Fld := { bank := .lane, addr := 0x40030804, s1 := 0x10, n1 := 64, lo := 16, w := 16, acc := .rw }
/-- R148 [15:0] RO, 0. Applied gain -/
def R.ADC_CHc_APPLIED.GAIN : Fld := { bank := .lane, addr := 0x40030808, s1 := 0x10, n1 := 64, lo := 0, w := 16, acc := .ro }
/-- R148 [31:16] RO, 0. Applied offset -/
def R.ADC_CHc_APPLIED.OFFSET : Fld := { bank := .lane, addr := 0x40030808, s1 := 0x10, n1 := 64, lo := 16, w := 16, acc := .ro }
/-- R148 [1:0] RO, 0. Under R136 -/
def R.ADC_CHc_ENV.STATE : Fld := { bank := .lane, addr := 0x4003080C, s1 := 0x10, n1 := 64, lo := 0, w := 2, acc := .ro }
/-- R148 [2] RO, 0. Under R135 -/
def R.ADC_CHc_ENV.MOVING : Fld := { bank := .lane, addr := 0x4003080C, s1 := 0x10, n1 := 64, lo := 2, w := 1, acc := .ro }
/-- R148 [31:16] RO, 0. Error bound in 1/16 LSB, saturating -/
def R.ADC_CHc_ENV.BOUND : Fld := { bank := .lane, addr := 0x4003080C, s1 := 0x10, n1 := 64, lo := 16, w := 16, acc := .ro }
/-- R149 [5:0] RW, cfg. 10 to 40. Below 10 acts as 10, above 40 as 40 -/
def R.SDF_CLK.DIV : Fld := { bank := .lane, addr := 0x40040000, lo := 0, w := 6, acc := .rw }
/-- R149 [11:0] RO, 0. One bit per filter with STUCK or CLK_FAULT -/
def R.SDF_STATUS.FAULT : Fld := { bank := .lane, addr := 0x40040004, lo := 0, w := 12, acc := .ro }
/-- R149 [27:16] RO, 0. One bit per filter with SDF_HIn or SDF_LOn active -/
def R.SDF_STATUS.TRIP : Fld := { bank := .lane, addr := 0x40040004, lo := 16, w := 12, acc := .ro }
/-- R149 [0] RW, cfg. Enables the filter and its clock output -/
def R.SDF_Fn_CFG.EN : Fld := { bank := .lane, addr := 0x40040100, s1 := 0x40, n1 := 12, lo := 0, w := 1, acc := .rw }
/-- R149 [1] RW, cfg. Under R142 -/
def R.SDF_Fn_CFG.CLK_EXT : Fld := { bank := .lane, addr := 0x40040100, s1 := 0x40, n1 := 12, lo := 1, w := 1, acc := .rw }
/-- R149 [2] RW, cfg. 0 rising, 1 falling -/
def R.SDF_Fn_CFG.EDGE : Fld := { bank := .lane, addr := 0x40040100, s1 := 0x40, n1 := 12, lo := 2, w := 1, acc := .rw }
/-- R149 [6:4] RW, cfg. 1 to 5. 0 acts as 1, above 5 as 5 -/
def R.SDF_Fn_CFG.ORDER : Fld := { bank := .lane, addr := 0x40040100, s1 := 0x40, n1 := 12, lo := 4, w := 3, acc := .rw }
/-- R149 [18:8] RW, cfg. 4 to 1,024. Below 4 acts as 4 -/
def R.SDF_Fn_CFG.OSR : Fld := { bank := .lane, addr := 0x40040100, s1 := 0x40, n1 := 12, lo := 8, w := 11, acc := .rw }
/-- R149 [28:24] RW, cfg. Right shift, 0 to 31 -/
def R.SDF_Fn_CFG.SHIFT : Fld := { bank := .lane, addr := 0x40040100, s1 := 0x40, n1 := 12, lo := 24, w := 5, acc := .rw }
/-- R149 [8:0] RW, cfg. 1 to 256. 0 acts as 1 -/
def R.SDF_Fn_OUT.IAVG : Fld := { bank := .lane, addr := 0x40040104, s1 := 0x40, n1 := 12, lo := 0, w := 9, acc := .rw }
/-- R149 [16] RW, cfg. Results to the control engine -/
def R.SDF_Fn_OUT.DEST_CE : Fld := { bank := .lane, addr := 0x40040104, s1 := 0x40, n1 := 12, lo := 16, w := 1, acc := .rw }
/-- R149 [17] RW, cfg. Results to the Assay -/
def R.SDF_Fn_OUT.DEST_ASY : Fld := { bank := .lane, addr := 0x40040104, s1 := 0x40, n1 := 12, lo := 17, w := 1, acc := .rw }
/-- R149 [18] RW, cfg. Interrupt on NEW -/
def R.SDF_Fn_OUT.IRQ_EN : Fld := { bank := .lane, addr := 0x40040104, s1 := 0x40, n1 := 12, lo := 18, w := 1, acc := .rw }
/-- R149 [0] RW, cfg. Enables the fast filter -/
def R.SDF_Fn_TRIP.EN : Fld := { bank := .lane, addr := 0x40040108, s1 := 0x40, n1 := 12, lo := 0, w := 1, acc := .rw }
/-- R149 [2:1] RW, cfg. 1 to 3. 0 acts as 1 -/
def R.SDF_Fn_TRIP.ORDER : Fld := { bank := .lane, addr := 0x40040108, s1 := 0x40, n1 := 12, lo := 1, w := 2, acc := .rw }
/-- R149 [14:8] RW, cfg. 4 to 64. Below 4 acts as 4 -/
def R.SDF_Fn_TRIP.OSR : Fld := { bank := .lane, addr := 0x40040108, s1 := 0x40, n1 := 12, lo := 8, w := 7, acc := .rw }
/-- R149 [20:16] RW, cfg. Right shift, 0 to 31 -/
def R.SDF_Fn_TRIP.TSHIFT : Fld := { bank := .lane, addr := 0x40040108, s1 := 0x40, n1 := 12, lo := 16, w := 5, acc := .rw }
/-- R149 [15:0] RW, cfg. Signed upper threshold -/
def R.SDF_Fn_THR.HI : Fld := { bank := .lane, addr := 0x4004010C, s1 := 0x40, n1 := 12, lo := 0, w := 16, acc := .rw }
/-- R149 [31:16] RW, cfg. Signed lower threshold -/
def R.SDF_Fn_THR.LO : Fld := { bank := .lane, addr := 0x4004010C, s1 := 0x40, n1 := 12, lo := 16, w := 16, acc := .rw }
/-- R149 [31:0] RO, 0. Corrected main result, signed -/
def R.SDF_Fn_DATA.DATA : Fld := { bank := .lane, addr := 0x40040110, s1 := 0x40, n1 := 12, lo := 0, w := 32, acc := .ro }
/-- R149 [15:0] RO, 0. Fast value, signed -/
def R.SDF_Fn_TRIP_DATA.DATA : Fld := { bank := .lane, addr := 0x40040114, s1 := 0x40, n1 := 12, lo := 0, w := 16, acc := .ro }
/-- R149 [0] W1C, 0. New main result -/
def R.SDF_Fn_STATUS.NEW : Fld := { bank := .lane, addr := 0x40040118, s1 := 0x40, n1 := 12, lo := 0, w := 1, acc := .w1c }
/-- R149 [1] RO, 0. SDF_HIn active -/
def R.SDF_Fn_STATUS.HI : Fld := { bank := .lane, addr := 0x40040118, s1 := 0x40, n1 := 12, lo := 1, w := 1, acc := .ro }
/-- R149 [2] RO, 0. SDF_LOn active -/
def R.SDF_Fn_STATUS.LO : Fld := { bank := .lane, addr := 0x40040118, s1 := 0x40, n1 := 12, lo := 2, w := 1, acc := .ro }
/-- R149 [3] W1C, 0. Under R145 -/
def R.SDF_Fn_STATUS.CLK_FAULT : Fld := { bank := .lane, addr := 0x40040118, s1 := 0x40, n1 := 12, lo := 3, w := 1, acc := .w1c }
/-- R149 [4] W1C, 0. Under R145 -/
def R.SDF_Fn_STATUS.STUCK : Fld := { bank := .lane, addr := 0x40040118, s1 := 0x40, n1 := 12, lo := 4, w := 1, acc := .w1c }
/-- R149 [5] W1C, 0. Under R143 -/
def R.SDF_Fn_STATUS.SAT : Fld := { bank := .lane, addr := 0x40040118, s1 := 0x40, n1 := 12, lo := 5, w := 1, acc := .w1c }
/-- R149 [6] RO, 0. Modulator healthy and filter filled -/
def R.SDF_Fn_STATUS.VALID : Fld := { bank := .lane, addr := 0x40040118, s1 := 0x40, n1 := 12, lo := 6, w := 1, acc := .ro }
/-- R149 [31:0] RO, 0. Lane time bits [31:0] of the last result -/
def R.SDF_Fn_STAMP.STAMP : Fld := { bank := .lane, addr := 0x4004011C, s1 := 0x40, n1 := 12, lo := 0, w := 32, acc := .ro }
/-- R149 [15:0] RW, 0. Target gain 1 + GAIN/2^16 -/
def R.SDF_Fn_CORR.GAIN : Fld := { bank := .lane, addr := 0x40040120, s1 := 0x40, n1 := 12, lo := 0, w := 16, acc := .rw }
/-- R149 [31:16] RW, 0. Target offset, signed, 2^14 counts -/
def R.SDF_Fn_CORR.OFFSET : Fld := { bank := .lane, addr := 0x40040120, s1 := 0x40, n1 := 12, lo := 16, w := 16, acc := .rw }
/-- R149 [15:0] RO, 0. Applied gain -/
def R.SDF_Fn_APPLIED.GAIN : Fld := { bank := .lane, addr := 0x40040124, s1 := 0x40, n1 := 12, lo := 0, w := 16, acc := .ro }
/-- R149 [31:16] RO, 0. Applied offset -/
def R.SDF_Fn_APPLIED.OFFSET : Fld := { bank := .lane, addr := 0x40040124, s1 := 0x40, n1 := 12, lo := 16, w := 16, acc := .ro }
/-- R149 [1:0] RO, 0. As ADC_CHc_ENV.STATE -/
def R.SDF_Fn_ENV.STATE : Fld := { bank := .lane, addr := 0x40040128, s1 := 0x40, n1 := 12, lo := 0, w := 2, acc := .ro }
/-- R149 [2] RO, 0. As ADC_CHc_ENV.MOVING -/
def R.SDF_Fn_ENV.MOVING : Fld := { bank := .lane, addr := 0x40040128, s1 := 0x40, n1 := 12, lo := 2, w := 1, acc := .ro }
/-- R149 [31:16] RO, 0. Error bound in 2^14 counts, saturating -/
def R.SDF_Fn_ENV.BOUND : Fld := { bank := .lane, addr := 0x40040128, s1 := 0x40, n1 := 12, lo := 16, w := 16, acc := .ro }
/-- R170 [1:0] RO, 0. VALID of each resolver channel -/
def R.POS_STATUS.RES_VALID : Fld := { bank := .lane, addr := 0x40050000, lo := 0, w := 2, acc := .ro }
/-- R170 [13:8] RO, 0. VALID of each pulse-train channel -/
def R.POS_STATUS.PT_VALID : Fld := { bank := .lane, addr := 0x40050000, lo := 8, w := 6, acc := .ro }
/-- R170 [19:16] RO, 0. VALID of each SENT channel -/
def R.POS_STATUS.SENT_VALID : Fld := { bank := .lane, addr := 0x40050000, lo := 16, w := 4, acc := .ro }
/-- R170 [0] RW, cfg. Enables the channel -/
def R.POS_RESn_CFG.EN : Fld := { bank := .lane, addr := 0x40050100, s1 := 0x40, n1 := 2, lo := 0, w := 1, acc := .rw }
/-- R170 [7:4] RW, cfg. Converter group under R153 -/
def R.POS_RESn_CFG.GROUP : Fld := { bank := .lane, addr := 0x40050100, s1 := 0x40, n1 := 2, lo := 4, w := 4, acc := .rw }
/-- R170 [8] RW, cfg. Online correction under R155 -/
def R.POS_RESn_CFG.CORR_EN : Fld := { bank := .lane, addr := 0x40050100, s1 := 0x40, n1 := 2, lo := 8, w := 1, acc := .rw }
/-- R170 [9] RW, cfg. Holds the applied values -/
def R.POS_RESn_CFG.CORR_FREEZE : Fld := { bank := .lane, addr := 0x40050100, s1 := 0x40, n1 := 2, lo := 9, w := 1, acc := .rw }
/-- R170 [10] RW, cfg. Interrupt when VALID clears -/
def R.POS_RESn_CFG.IRQ_EN : Fld := { bank := .lane, addr := 0x40050100, s1 := 0x40, n1 := 2, lo := 10, w := 1, acc := .rw }
/-- R170 [23:16] RW, cfg. Excitation amplitude, 0.8 V / 255 per step -/
def R.POS_RESn_CFG.AMP : Fld := { bank := .lane, addr := 0x40050100, s1 := 0x40, n1 := 2, lo := 16, w := 8, acc := .rw }
/-- R170 [15:0] RW, cfg. 4,000 to 40,000, clamped -/
def R.POS_RESn_EXC.DIV : Fld := { bank := .lane, addr := 0x40050104, s1 := 0x40, n1 := 2, lo := 0, w := 16, acc := .rw }
/-- R170 [31:16] RW, cfg. Initial carrier delay, 2^−16 period -/
def R.POS_RESn_EXC.CAR_INIT : Fld := { bank := .lane, addr := 0x40050104, s1 := 0x40, n1 := 2, lo := 16, w := 16, acc := .rw }
/-- R170 [12:0] RW, cfg. Loop bandwidth, 100 Hz to 5,000 Hz, clamped -/
def R.POS_RESn_LOOP.BW : Fld := { bank := .lane, addr := 0x40050108, s1 := 0x40, n1 := 2, lo := 0, w := 13, acc := .rw }
/-- R170 [31:16] RW, cfg. Turns per second at 1.0 per unit. 0 acts as 1 -/
def R.POS_RESn_LOOP.SPD_BASE : Fld := { bank := .lane, addr := 0x40050108, s1 := 0x40, n1 := 2, lo := 16, w := 16, acc := .rw }
/-- R170 [7:0] RW, cfg. 64 LSB per step -/
def R.POS_RESn_LIMIT.LOS : Fld := { bank := .lane, addr := 0x4005010C, s1 := 0x40, n1 := 2, lo := 0, w := 8, acc := .rw }
/-- R170 [15:8] RW, cfg. 64 LSB per step -/
def R.POS_RESn_LIMIT.DOS_HI : Fld := { bank := .lane, addr := 0x4005010C, s1 := 0x40, n1 := 2, lo := 8, w := 8, acc := .rw }
/-- R170 [23:16] RW, cfg. 1/256 turn per step -/
def R.POS_RESn_LIMIT.LOT : Fld := { bank := .lane, addr := 0x4005010C, s1 := 0x40, n1 := 2, lo := 16, w := 8, acc := .rw }
/-- R170 [27:24] RW, cfg. 1 to 15. 0 acts as 1 -/
def R.POS_RESn_LIMIT.COUNT : Fld := { bank := .lane, addr := 0x4005010C, s1 := 0x40, n1 := 2, lo := 24, w := 4, acc := .rw }
/-- R170 [31:0] RO, 0. phi -/
def R.POS_RESn_ANGLE.ANGLE : Fld := { bank := .lane, addr := 0x40050110, s1 := 0x40, n1 := 2, lo := 0, w := 32, acc := .ro }
/-- R170 [31:0] RO, 0. w, signal format -/
def R.POS_RESn_SPEED.SPEED : Fld := { bank := .lane, addr := 0x40050114, s1 := 0x40, n1 := 2, lo := 0, w := 32, acc := .ro }
/-- R170 [15:0] RO, 0. a, LSB -/
def R.POS_RESn_AMP.AMP : Fld := { bank := .lane, addr := 0x40050118, s1 := 0x40, n1 := 2, lo := 0, w := 16, acc := .ro }
/-- R170 [31:16] RO, 0. q, signed LSB -/
def R.POS_RESn_AMP.QUAD : Fld := { bank := .lane, addr := 0x40050118, s1 := 0x40, n1 := 2, lo := 16, w := 16, acc := .ro }
/-- R170 [15:0] RO, 0. Applied carrier delay -/
def R.POS_RESn_CAR.CAR : Fld := { bank := .lane, addr := 0x4005011C, s1 := 0x40, n1 := 2, lo := 0, w := 16, acc := .ro }
/-- R170 [15:0] RO, 0. Signed, 1/16 LSB -/
def R.POS_RESn_CORR_OFS.OFS_SIN : Fld := { bank := .lane, addr := 0x40050120, s1 := 0x40, n1 := 2, lo := 0, w := 16, acc := .ro }
/-- R170 [31:16] RO, 0. Signed, 1/16 LSB -/
def R.POS_RESn_CORR_OFS.OFS_COS : Fld := { bank := .lane, addr := 0x40050120, s1 := 0x40, n1 := 2, lo := 16, w := 16, acc := .ro }
/-- R170 [15:0] RO, 0. Signed, 2^−16 -/
def R.POS_RESn_CORR_GP.RATIO : Fld := { bank := .lane, addr := 0x40050124, s1 := 0x40, n1 := 2, lo := 0, w := 16, acc := .ro }
/-- R170 [31:16] RO, 0. Signed, 2^−16 rad -/
def R.POS_RESn_CORR_GP.PHASE : Fld := { bank := .lane, addr := 0x40050124, s1 := 0x40, n1 := 2, lo := 16, w := 16, acc := .ro }
/-- R170 [0] RO, 0. Under R156 -/
def R.POS_RESn_STATUS.VALID : Fld := { bank := .lane, addr := 0x40050128, s1 := 0x40, n1 := 2, lo := 0, w := 1, acc := .ro }
/-- R170 [1] RO, 0. Under R156 -/
def R.POS_RESn_STATUS.LOCK : Fld := { bank := .lane, addr := 0x40050128, s1 := 0x40, n1 := 2, lo := 1, w := 1, acc := .ro }
/-- R170 [2] W1C, 0. Declared since cleared -/
def R.POS_RESn_STATUS.LOS : Fld := { bank := .lane, addr := 0x40050128, s1 := 0x40, n1 := 2, lo := 2, w := 1, acc := .w1c }
/-- R170 [3] W1C, 0. Declared since cleared -/
def R.POS_RESn_STATUS.DOS : Fld := { bank := .lane, addr := 0x40050128, s1 := 0x40, n1 := 2, lo := 3, w := 1, acc := .w1c }
/-- R170 [4] W1C, 0. Declared since cleared -/
def R.POS_RESn_STATUS.LOT : Fld := { bank := .lane, addr := 0x40050128, s1 := 0x40, n1 := 2, lo := 4, w := 1, acc := .w1c }
/-- R170 [5] RO, 0. Under R153 -/
def R.POS_RESn_STATUS.CFG_ERR : Fld := { bank := .lane, addr := 0x40050128, s1 := 0x40, n1 := 2, lo := 5, w := 1, acc := .ro }
/-- R170 [6] RO, 0. Under R155 -/
def R.POS_RESn_STATUS.SETTLED : Fld := { bank := .lane, addr := 0x40050128, s1 := 0x40, n1 := 2, lo := 6, w := 1, acc := .ro }
/-- R170 [7:0] RC, 0. Declarations, saturating -/
def R.POS_RESn_FLT.LOS_CNT : Fld := { bank := .lane, addr := 0x4005012C, s1 := 0x40, n1 := 2, lo := 0, w := 8, acc := .rc }
/-- R170 [15:8] RC, 0. Declarations, saturating -/
def R.POS_RESn_FLT.DOS_CNT : Fld := { bank := .lane, addr := 0x4005012C, s1 := 0x40, n1 := 2, lo := 8, w := 8, acc := .rc }
/-- R170 [23:16] RC, 0. Declarations, saturating -/
def R.POS_RESn_FLT.LOT_CNT : Fld := { bank := .lane, addr := 0x4005012C, s1 := 0x40, n1 := 2, lo := 16, w := 8, acc := .rc }
/-- R170 [0] RW, cfg. Enables the channel -/
def R.POS_PTp_CFG.EN : Fld := { bank := .lane, addr := 0x40050200, s1 := 0x40, n1 := 6, lo := 0, w := 1, acc := .rw }
/-- R170 [2:1] RW, cfg. Under R157. 3 acts as disabled -/
def R.POS_PTp_CFG.MODE : Fld := { bank := .lane, addr := 0x40050200, s1 := 0x40, n1 := 6, lo := 1, w := 2, acc := .rw }
/-- R170 [3] RW, cfg. 0 rising, 1 falling -/
def R.POS_PTp_CFG.TW_EDGE : Fld := { bank := .lane, addr := 0x40050200, s1 := 0x40, n1 := 6, lo := 3, w := 1, acc := .rw }
/-- R170 [4] RW, cfg. Invert A -/
def R.POS_PTp_CFG.INV_A : Fld := { bank := .lane, addr := 0x40050200, s1 := 0x40, n1 := 6, lo := 4, w := 1, acc := .rw }
/-- R170 [5] RW, cfg. Invert B -/
def R.POS_PTp_CFG.INV_B : Fld := { bank := .lane, addr := 0x40050200, s1 := 0x40, n1 := 6, lo := 5, w := 1, acc := .rw }
/-- R170 [6] RW, cfg. Invert Z -/
def R.POS_PTp_CFG.INV_Z : Fld := { bank := .lane, addr := 0x40050200, s1 := 0x40, n1 := 6, lo := 6, w := 1, acc := .rw }
/-- R170 [7] RW, cfg. Under R160 -/
def R.POS_PTp_CFG.Z_EN : Fld := { bank := .lane, addr := 0x40050200, s1 := 0x40, n1 := 6, lo := 7, w := 1, acc := .rw }
/-- R170 [8] RW, cfg. Under R160 -/
def R.POS_PTp_CFG.Z_RESET : Fld := { bank := .lane, addr := 0x40050200, s1 := 0x40, n1 := 6, lo := 8, w := 1, acc := .rw }
/-- R170 [10:9] RW, cfg. Bit 0 A level, bit 1 B level -/
def R.POS_PTp_CFG.Z_QUAL : Fld := { bank := .lane, addr := 0x40050200, s1 := 0x40, n1 := 6, lo := 9, w := 2, acc := .rw }
/-- R170 [11] RW, cfg. Under R158 -/
def R.POS_PTp_CFG.GLITCH_ERR : Fld := { bank := .lane, addr := 0x40050200, s1 := 0x40, n1 := 6, lo := 11, w := 1, acc := .rw }
/-- R170 [12] RW, cfg. Interrupt when VALID or ANGLE_OK clears -/
def R.POS_PTp_CFG.IRQ_EN : Fld := { bank := .lane, addr := 0x40050200, s1 := 0x40, n1 := 6, lo := 12, w := 1, acc := .rw }
/-- R170 [7:0] RW, cfg. 2.5 ns steps. 0 acts as 1 -/
def R.POS_PTp_FILT.MIN_EDGE : Fld := { bank := .lane, addr := 0x40050204, s1 := 0x40, n1 := 6, lo := 0, w := 8, acc := .rw }
/-- R170 [15:8] RW, cfg. 2.5 ns steps -/
def R.POS_PTp_FILT.DIR_SETUP : Fld := { bank := .lane, addr := 0x40050204, s1 := 0x40, n1 := 6, lo := 8, w := 8, acc := .rw }
/-- R170 [23:16] RW, cfg. 8 to 255. Below 8 acts as 8 -/
def R.POS_PTp_FILT.ERR_LIMIT : Fld := { bank := .lane, addr := 0x40050204, s1 := 0x40, n1 := 6, lo := 16, w := 8, acc := .rw }
/-- R170 [23:0] RW, cfg. Counts or pitches per turn. 0 acts as 1 -/
def R.POS_PTp_SCALE.COUNTS : Fld := { bank := .lane, addr := 0x40050208, s1 := 0x40, n1 := 6, lo := 0, w := 24, acc := .rw }
/-- R170 [1:0] RW, cfg. 0 to 3 -/
def R.POS_PTp_TW.MISSING : Fld := { bank := .lane, addr := 0x4005020C, s1 := 0x40, n1 := 6, lo := 0, w := 2, acc := .rw }
/-- R170 [2] RW, cfg. Extra-tooth wheel -/
def R.POS_PTp_TW.EXTRA : Fld := { bank := .lane, addr := 0x4005020C, s1 := 0x40, n1 := 6, lo := 2, w := 1, acc := .rw }
/-- R170 [10:4] RW, cfg. 24 to 80, clamped -/
def R.POS_PTp_TW.GAP_THR : Fld := { bank := .lane, addr := 0x4005020C, s1 := 0x40, n1 := 6, lo := 4, w := 7, acc := .rw }
/-- R170 [15:12] RW, cfg. 8 to 15. Below 8 acts as 8 -/
def R.POS_PTp_TW.EXTRA_THR : Fld := { bank := .lane, addr := 0x4005020C, s1 := 0x40, n1 := 6, lo := 12, w := 4, acc := .rw }
/-- R170 [31:0] RW, cfg. Angle at the reference -/
def R.POS_PTp_REF.REF_ANGLE : Fld := { bank := .lane, addr := 0x40050210, s1 := 0x40, n1 := 6, lo := 0, w := 32, acc := .rw }
/-- R170 [15:0] RW, cfg. µs. 0 acts as 1 -/
def R.POS_PTp_SPD.ZERO_TIME : Fld := { bank := .lane, addr := 0x40050214, s1 := 0x40, n1 := 6, lo := 0, w := 16, acc := .rw }
/-- R170 [31:16] RW, cfg. Turns per second at 1.0 per unit. 0 acts as 1 -/
def R.POS_PTp_SPD.SPD_BASE : Fld := { bank := .lane, addr := 0x40050214, s1 := 0x40, n1 := 6, lo := 16, w := 16, acc := .rw }
/-- R170 [31:0] RO, 0. Signed count -/
def R.POS_PTp_COUNT.COUNT : Fld := { bank := .lane, addr := 0x40050218, s1 := 0x40, n1 := 6, lo := 0, w := 32, acc := .ro }
/-- R170 [31:0] RO, 0. Under R161 -/
def R.POS_PTp_ANGLE.ANGLE : Fld := { bank := .lane, addr := 0x4005021C, s1 := 0x40, n1 := 6, lo := 0, w := 32, acc := .ro }
/-- R170 [31:0] RO, 0. Signal format -/
def R.POS_PTp_SPEED.SPEED : Fld := { bank := .lane, addr := 0x40050220, s1 := 0x40, n1 := 6, lo := 0, w := 32, acc := .ro }
/-- R170 [31:0] RO, 0. Last period of R161, 2.5 ns, saturating -/
def R.POS_PTp_PERIOD.PERIOD : Fld := { bank := .lane, addr := 0x40050224, s1 := 0x40, n1 := 6, lo := 0, w := 32, acc := .ro }
/-- R170 [31:0] RO, 0. Count at the last reference, or the pitch index in the tooth-wheel mode -/
def R.POS_PTp_INDEX.VALUE : Fld := { bank := .lane, addr := 0x40050228, s1 := 0x40, n1 := 6, lo := 0, w := 32, acc := .ro }
/-- R170 [0] RO, 0. Under R164 -/
def R.POS_PTp_STATUS.VALID : Fld := { bank := .lane, addr := 0x4005022C, s1 := 0x40, n1 := 6, lo := 0, w := 1, acc := .ro }
/-- R170 [1] RO, 0. Under R160 and R163 -/
def R.POS_PTp_STATUS.ANGLE_OK : Fld := { bank := .lane, addr := 0x4005022C, s1 := 0x40, n1 := 6, lo := 1, w := 1, acc := .ro }
/-- R170 [3:2] RO, 0. 0 UNSYNC, 1 CANDIDATE, 2 SYNC -/
def R.POS_PTp_STATUS.SYNC : Fld := { bank := .lane, addr := 0x4005022C, s1 := 0x40, n1 := 6, lo := 2, w := 2, acc := .ro }
/-- R170 [4] RO, 0. Under R161 -/
def R.POS_PTp_STATUS.ZERO_SPEED : Fld := { bank := .lane, addr := 0x4005022C, s1 := 0x40, n1 := 6, lo := 4, w := 1, acc := .ro }
/-- R170 [5] RO, 0. 1 counting up -/
def R.POS_PTp_STATUS.DIR : Fld := { bank := .lane, addr := 0x4005022C, s1 := 0x40, n1 := 6, lo := 5, w := 1, acc := .ro }
/-- R170 [6] W1C, 0. Under R159 -/
def R.POS_PTp_STATUS.ILLEGAL : Fld := { bank := .lane, addr := 0x4005022C, s1 := 0x40, n1 := 6, lo := 6, w := 1, acc := .w1c }
/-- R170 [7] W1C, 0. Under R163 -/
def R.POS_PTp_STATUS.SYNC_ERR : Fld := { bank := .lane, addr := 0x4005022C, s1 := 0x40, n1 := 6, lo := 7, w := 1, acc := .w1c }
/-- R170 [8] W1C, 0. Under R160 -/
def R.POS_PTp_STATUS.INDEX_ERR : Fld := { bank := .lane, addr := 0x4005022C, s1 := 0x40, n1 := 6, lo := 8, w := 1, acc := .w1c }
/-- R170 [9] RO, 0. Under R164 -/
def R.POS_PTp_STATUS.ERR_FAULT : Fld := { bank := .lane, addr := 0x4005022C, s1 := 0x40, n1 := 6, lo := 9, w := 1, acc := .ro }
/-- R170 [10] W1C, 0. Under R158 -/
def R.POS_PTp_STATUS.GLITCH : Fld := { bank := .lane, addr := 0x4005022C, s1 := 0x40, n1 := 6, lo := 10, w := 1, acc := .w1c }
/-- R170 [23:16] RO, 0. Under R164 -/
def R.POS_PTp_STATUS.ERR_LEVEL : Fld := { bank := .lane, addr := 0x4005022C, s1 := 0x40, n1 := 6, lo := 16, w := 8, acc := .ro }
/-- R170 [24] RO, 0. Filtered A -/
def R.POS_PTp_STATUS.LEVEL_A : Fld := { bank := .lane, addr := 0x4005022C, s1 := 0x40, n1 := 6, lo := 24, w := 1, acc := .ro }
/-- R170 [25] RO, 0. Filtered B -/
def R.POS_PTp_STATUS.LEVEL_B : Fld := { bank := .lane, addr := 0x4005022C, s1 := 0x40, n1 := 6, lo := 25, w := 1, acc := .ro }
/-- R170 [26] RO, 0. Filtered Z -/
def R.POS_PTp_STATUS.LEVEL_Z : Fld := { bank := .lane, addr := 0x4005022C, s1 := 0x40, n1 := 6, lo := 26, w := 1, acc := .ro }
/-- R170 [7:0] RC, 0. Saturating -/
def R.POS_PTp_GLITCH.A : Fld := { bank := .lane, addr := 0x40050230, s1 := 0x40, n1 := 6, lo := 0, w := 8, acc := .rc }
/-- R170 [15:8] RC, 0. Saturating -/
def R.POS_PTp_GLITCH.B : Fld := { bank := .lane, addr := 0x40050230, s1 := 0x40, n1 := 6, lo := 8, w := 8, acc := .rc }
/-- R170 [23:16] RC, 0. Saturating -/
def R.POS_PTp_GLITCH.Z : Fld := { bank := .lane, addr := 0x40050230, s1 := 0x40, n1 := 6, lo := 16, w := 8, acc := .rc }
/-- R170 [15:0] RC, 0. Saturating -/
def R.POS_PTp_ERR.ILLEGAL : Fld := { bank := .lane, addr := 0x40050234, s1 := 0x40, n1 := 6, lo := 0, w := 16, acc := .rc }
/-- R170 [23:16] RC, 0. Saturating -/
def R.POS_PTp_ERR.SYNC_ERR : Fld := { bank := .lane, addr := 0x40050234, s1 := 0x40, n1 := 6, lo := 16, w := 8, acc := .rc }
/-- R170 [31:24] RC, 0. Saturating -/
def R.POS_PTp_ERR.INDEX_ERR : Fld := { bank := .lane, addr := 0x40050234, s1 := 0x40, n1 := 6, lo := 24, w := 8, acc := .rc }
/-- R170 [31:0] RO, 0. Lane time bits [31:0] of the last counting edge -/
def R.POS_PTp_STAMP.STAMP : Fld := { bank := .lane, addr := 0x40050238, s1 := 0x40, n1 := 6, lo := 0, w := 32, acc := .ro }
/-- R170 [0] RW, cfg. Enables the channel -/
def R.POS_SENTs_CFG.EN : Fld := { bank := .lane, addr := 0x40050400, s1 := 0x20, n1 := 4, lo := 0, w := 1, acc := .rw }
/-- R170 [10:1] RW, cfg. 30 to 900, in 0.1 µs, clamped -/
def R.POS_SENTs_CFG.TICK : Fld := { bank := .lane, addr := 0x40050400, s1 := 0x20, n1 := 4, lo := 1, w := 10, acc := .rw }
/-- R170 [13:11] RW, cfg. Data nibbles, 1 to 6. 0 acts as 1, 7 as 6 -/
def R.POS_SENTs_CFG.NIBBLES : Fld := { bank := .lane, addr := 0x40050400, s1 := 0x20, n1 := 4, lo := 11, w := 3, acc := .rw }
/-- R170 [14] RW, cfg. Pause pulse present -/
def R.POS_SENTs_CFG.PAUSE : Fld := { bank := .lane, addr := 0x40050400, s1 := 0x20, n1 := 4, lo := 14, w := 1, acc := .rw }
/-- R170 [15] RW, cfg. Under R165 -/
def R.POS_SENTs_CFG.CRC_LEGACY : Fld := { bank := .lane, addr := 0x40050400, s1 := 0x20, n1 := 4, lo := 15, w := 1, acc := .rw }
/-- R170 [16] RW, cfg. Decodes the slow channel -/
def R.POS_SENTs_CFG.SLOW_EN : Fld := { bank := .lane, addr := 0x40050400, s1 := 0x20, n1 := 4, lo := 16, w := 1, acc := .rw }
/-- R170 [17] RW, cfg. Under R168 -/
def R.POS_SENTs_CFG.REQUIRED : Fld := { bank := .lane, addr := 0x40050400, s1 := 0x20, n1 := 4, lo := 17, w := 1, acc := .rw }
/-- R170 [18] RW, cfg. Interrupt on NEW_FAST -/
def R.POS_SENTs_CFG.IRQ_EN : Fld := { bank := .lane, addr := 0x40050400, s1 := 0x20, n1 := 4, lo := 18, w := 1, acc := .rw }
/-- R170 [15:0] RW, cfg. µs. 0 acts as 1 -/
def R.POS_SENTs_LIMIT.STALE_TIME : Fld := { bank := .lane, addr := 0x40050404, s1 := 0x20, n1 := 4, lo := 0, w := 16, acc := .rw }
/-- R170 [23:0] RO, 0. Data nibbles, right-aligned, first received most significant -/
def R.POS_SENTs_FAST.DATA : Fld := { bank := .lane, addr := 0x40050408, s1 := 0x20, n1 := 4, lo := 0, w := 24, acc := .ro }
/-- R170 [27:24] RO, 0. Status nibble -/
def R.POS_SENTs_FAST.STATUS : Fld := { bank := .lane, addr := 0x40050408, s1 := 0x20, n1 := 4, lo := 24, w := 4, acc := .ro }
/-- R170 [31:28] RO, 0. Accepted frames, modulo 16 -/
def R.POS_SENTs_FAST.SEQ : Fld := { bank := .lane, addr := 0x40050408, s1 := 0x20, n1 := 4, lo := 28, w := 4, acc := .ro }
/-- R170 [31:0] RO, 0. Under R167 -/
def R.POS_SENTs_FAST_STAMP.STAMP : Fld := { bank := .lane, addr := 0x4005040C, s1 := 0x20, n1 := 4, lo := 0, w := 32, acc := .ro }
/-- R170 [15:0] RO, 0. Message data -/
def R.POS_SENTs_SLOW.DATA : Fld := { bank := .lane, addr := 0x40050410, s1 := 0x20, n1 := 4, lo := 0, w := 16, acc := .ro }
/-- R170 [23:16] RO, 0. Message identifier -/
def R.POS_SENTs_SLOW.ID : Fld := { bank := .lane, addr := 0x40050410, s1 := 0x20, n1 := 4, lo := 16, w := 8, acc := .ro }
/-- R170 [24] RO, 0. 0: 12-bit data, 8-bit identifier. 1: 16-bit data, 4-bit identifier -/
def R.POS_SENTs_SLOW.FMT : Fld := { bank := .lane, addr := 0x40050410, s1 := 0x20, n1 := 4, lo := 24, w := 1, acc := .ro }
/-- R170 [0] RO, 0. Under R167 -/
def R.POS_SENTs_STATUS.VALID : Fld := { bank := .lane, addr := 0x40050414, s1 := 0x20, n1 := 4, lo := 0, w := 1, acc := .ro }
/-- R170 [1] W1C, 0. Frame accepted -/
def R.POS_SENTs_STATUS.NEW_FAST : Fld := { bank := .lane, addr := 0x40050414, s1 := 0x20, n1 := 4, lo := 1, w := 1, acc := .w1c }
/-- R170 [2] W1C, 0. Message accepted -/
def R.POS_SENTs_STATUS.NEW_SLOW : Fld := { bank := .lane, addr := 0x40050414, s1 := 0x20, n1 := 4, lo := 2, w := 1, acc := .w1c }
/-- R170 [15:0] RO, 0. Measured tick, 2.5 ns -/
def R.POS_SENTs_TICK.TICK : Fld := { bank := .lane, addr := 0x40050418, s1 := 0x20, n1 := 4, lo := 0, w := 16, acc := .ro }
/-- R170 [7:0] RC, 0. Sync rejections, saturating -/
def R.POS_SENTs_ERR.CAL : Fld := { bank := .lane, addr := 0x4005041C, s1 := 0x20, n1 := 4, lo := 0, w := 8, acc := .rc }
/-- R170 [15:8] RC, 0. Nibble or pause rejections, saturating -/
def R.POS_SENTs_ERR.NIBBLE : Fld := { bank := .lane, addr := 0x4005041C, s1 := 0x20, n1 := 4, lo := 8, w := 8, acc := .rc }
/-- R170 [23:16] RC, 0. Fast CRC failures, saturating -/
def R.POS_SENTs_ERR.CRC : Fld := { bank := .lane, addr := 0x4005041C, s1 := 0x20, n1 := 4, lo := 16, w := 8, acc := .rc }
/-- R170 [31:24] RC, 0. Slow CRC failures, saturating -/
def R.POS_SENTs_ERR.SLOW_CRC : Fld := { bank := .lane, addr := 0x4005041C, s1 := 0x20, n1 := 4, lo := 24, w := 8, acc := .rc }
/-- R195 [0] RW, cfg. Interrupt on any CE_WRAP bit -/
def R.CE_CTRL.WRAP_IRQ_EN : Fld := { bank := .lane, addr := 0x40060000, lo := 0, w := 1, acc := .rw }
/-- R195 [1] RW, cfg. Interrupt on any CE_FE bit -/
def R.CE_CTRL.FE_IRQ_EN : Fld := { bank := .lane, addr := 0x40060000, lo := 1, w := 1, acc := .rw }
/-- R195 [2] RW, cfg. Interrupt on any OVR -/
def R.CE_CTRL.OVR_IRQ_EN : Fld := { bank := .lane, addr := 0x40060000, lo := 2, w := 1, acc := .rw }
/-- R195 [3] RW, cfg. Interrupt when a band slot enters ERR -/
def R.CE_CTRL.BAND_IRQ_EN : Fld := { bank := .lane, addr := 0x40060000, lo := 3, w := 1, acc := .rw }
/-- R195 [0] RO, 0. Any CE_WRAP bit set -/
def R.CE_STATUS.WRAP : Fld := { bank := .lane, addr := 0x40060004, lo := 0, w := 1, acc := .ro }
/-- R195 [1] RO, 0. Any CE_FE bit set -/
def R.CE_STATUS.FE : Fld := { bank := .lane, addr := 0x40060004, lo := 1, w := 1, acc := .ro }
/-- R195 [2] RO, 0. Any arithmetic slot with OVR set -/
def R.CE_STATUS.OVR : Fld := { bank := .lane, addr := 0x40060004, lo := 2, w := 1, acc := .ro }
/-- R195 [3] RO, 0. Any band slot in ERR -/
def R.CE_STATUS.BAND_ERR : Fld := { bank := .lane, addr := 0x40060004, lo := 3, w := 1, acc := .ro }
/-- R195 [4] RO, 0. Any band slot with LATE set -/
def R.CE_STATUS.LATE : Fld := { bank := .lane, addr := 0x40060004, lo := 4, w := 1, acc := .ro }
/-- R195 [23:0] W1C, 0. Integrator wrap, one bit per arithmetic slot, under R187 -/
def R.CE_WRAP.SLOT : Fld := { bank := .lane, addr := 0x40060008, lo := 0, w := 24, acc := .w1c }
/-- R195 [23:0] W1C, 0. Following-error trip, one bit per slot, under R190 -/
def R.CE_FE.SLOT : Fld := { bank := .lane, addr := 0x4006000C, lo := 0, w := 24, acc := .w1c }
/-- R195 [15:0] RC, 0. Longest trigger-to-completion time since the last read, in CE cycles -/
def R.CE_LOAD.PEAK : Fld := { bank := .lane, addr := 0x40060010, lo := 0, w := 16, acc := .rc }
/-- R195 [31:16] RC, 0. Pipeline occupancy in the last traction cycle, in 0.01 % -/
def R.CE_LOAD.BUSY : Fld := { bank := .lane, addr := 0x40060010, lo := 16, w := 16, acc := .rc }
/-- R195 [0] RW, cfg. Enables the slot -/
def R.CE_Bn_CFG.EN : Fld := { bank := .lane, addr := 0x40060100, s1 := 0x40, n1 := 32, lo := 0, w := 1, acc := .rw }
/-- R195 [1] RW, cfg. Inverts L onto the channel -/
def R.CE_Bn_CFG.POL : Fld := { bank := .lane, addr := 0x40060100, s1 := 0x40, n1 := 32, lo := 1, w := 1, acc := .rw }
/-- R195 [2] RW, cfg. Frequency lock under R185 -/
def R.CE_Bn_CFG.FLL_EN : Fld := { bank := .lane, addr := 0x40060100, s1 := 0x40, n1 := 32, lo := 2, w := 1, acc := .rw }
/-- R195 [3] RW, cfg. 0 sample mode, 1 signal mode -/
def R.CE_Bn_CFG.SIG : Fld := { bank := .lane, addr := 0x40060100, s1 := 0x40, n1 := 32, lo := 3, w := 1, acc := .rw }
/-- R195 [7:4] RW, cfg. Streaming group in sample mode -/
def R.CE_Bn_CFG.GROUP : Fld := { bank := .lane, addr := 0x40060100, s1 := 0x40, n1 := 32, lo := 4, w := 4, acc := .rw }
/-- R195 [13:8] RW, cfg. PWM channel, 0 to 63 -/
def R.CE_Bn_CFG.PWM_CH : Fld := { bank := .lane, addr := 0x40060100, s1 := 0x40, n1 := 32, lo := 8, w := 6, acc := .rw }
/-- R195 [14] RW, cfg. e taken modulo 2^32 -/
def R.CE_Bn_CFG.ANGLE : Fld := { bank := .lane, addr := 0x40060100, s1 := 0x40, n1 := 32, lo := 14, w := 1, acc := .rw }
/-- R195 [18:16] RW, cfg. N = 2^(SPAN + 1) -/
def R.CE_Bn_CFG.SPAN : Fld := { bank := .lane, addr := 0x40060100, s1 := 0x40, n1 := 32, lo := 16, w := 3, acc := .rw }
/-- R195 [27:20] RW, cfg. Samples or updates ignored after each edge -/
def R.CE_Bn_CFG.SETTLE : Fld := { bank := .lane, addr := 0x40060100, s1 := 0x40, n1 := 32, lo := 20, w := 8, acc := .rw }
/-- R195 [31:28] RW, cfg. Trip group raised on ERR -/
def R.CE_Bn_CFG.TG : Fld := { bank := .lane, addr := 0x40060100, s1 := 0x40, n1 := 32, lo := 28, w := 4, acc := .rw }
/-- R195 [7:0] RW, cfg. Reference source under R173 -/
def R.CE_Bn_SRC.REF : Fld := { bank := .lane, addr := 0x40060104, s1 := 0x40, n1 := 32, lo := 0, w := 8, acc := .rw }
/-- R195 [15:8] RW, cfg. Measured source in signal mode -/
def R.CE_Bn_SRC.MEAS : Fld := { bank := .lane, addr := 0x40060104, s1 := 0x40, n1 := 32, lo := 8, w := 8, acc := .rw }
/-- R195 [31:0] RW, cfg. Initial h, unsigned, signal format -/
def R.CE_Bn_HINIT.H : Fld := { bank := .lane, addr := 0x40060108, s1 := 0x40, n1 := 32, lo := 0, w := 32, acc := .rw }
/-- R195 [31:0] RW, cfg. Lower limit of h -/
def R.CE_Bn_HMIN.H : Fld := { bank := .lane, addr := 0x4006010C, s1 := 0x40, n1 := 32, lo := 0, w := 32, acc := .rw }
/-- R195 [31:0] RW, cfg. Upper limit of h -/
def R.CE_Bn_HMAX.H : Fld := { bank := .lane, addr := 0x40060110, s1 := 0x40, n1 := 32, lo := 0, w := 32, acc := .rw }
/-- R195 [16:0] RW, cfg. Hz, from 10,000 to 100,000, clamped -/
def R.CE_Bn_FLL.FTARGET : Fld := { bank := .lane, addr := 0x40060114, s1 := 0x40, n1 := 32, lo := 0, w := 17, acc := .rw }
/-- R195 [24:17] RW, cfg. g = (GAIN + 1) / 256 -/
def R.CE_Bn_FLL.GAIN : Fld := { bank := .lane, addr := 0x40060114, s1 := 0x40, n1 := 32, lo := 17, w := 8, acc := .rw }
/-- R195 [28:25] RW, cfg. Traction cycles, 1 to 15. 0 acts as 1 -/
def R.CE_Bn_FLL.WIN : Fld := { bank := .lane, addr := 0x40060114, s1 := 0x40, n1 := 32, lo := 25, w := 4, acc := .rw }
/-- R195 [31:0] RW, cfg. Least change per 6.25 ns for a valid prediction -/
def R.CE_Bn_SLOPE_MIN.SLOPE : Fld := { bank := .lane, addr := 0x40060118, s1 := 0x40, n1 := 32, lo := 0, w := 32, acc := .rw }
/-- R195 [31:0] RO, 0. h in use -/
def R.CE_Bn_H.H : Fld := { bank := .lane, addr := 0x4006011C, s1 := 0x40, n1 := 32, lo := 0, w := 32, acc := .ro }
/-- R195 [16:0] RO, 0. Last f of R185 -/
def R.CE_Bn_FMEAS.HZ : Fld := { bank := .lane, addr := 0x40060120, s1 := 0x40, n1 := 32, lo := 0, w := 17, acc := .ro }
/-- R195 [2:0] RO, 0. 0 OFF, 1 SETTLE, 2 TRACK, 3 PENDING, 4 ERR -/
def R.CE_Bn_STATUS.STATE : Fld := { bank := .lane, addr := 0x40060124, s1 := 0x40, n1 := 32, lo := 0, w := 3, acc := .ro }
/-- R195 [3] RO, 0. L -/
def R.CE_Bn_STATUS.LEVEL : Fld := { bank := .lane, addr := 0x40060124, s1 := 0x40, n1 := 32, lo := 3, w := 1, acc := .ro }
/-- R195 [4] RO, 0. Last window end limited h -/
def R.CE_Bn_STATUS.FLL_CLAMP : Fld := { bank := .lane, addr := 0x40060124, s1 := 0x40, n1 := 32, lo := 4, w := 1, acc := .ro }
/-- R195 [5] RO, 0. Last window had fewer than 2 turn-on edges -/
def R.CE_Bn_STATUS.FLL_STARVED : Fld := { bank := .lane, addr := 0x40060124, s1 := 0x40, n1 := 32, lo := 5, w := 1, acc := .ro }
/-- R195 [6] W1C, 0. A commit was late under R181 -/
def R.CE_Bn_STATUS.LATE : Fld := { bank := .lane, addr := 0x40060124, s1 := 0x40, n1 := 32, lo := 6, w := 1, acc := .w1c }
/-- R195 [7] W1C, 0. An edge was dropped or withheld -/
def R.CE_Bn_STATUS.DROPPED : Fld := { bank := .lane, addr := 0x40060124, s1 := 0x40, n1 := 32, lo := 7, w := 1, acc := .w1c }
/-- R195 [8] RO, 0. Configuration error under R179 -/
def R.CE_Bn_STATUS.CFG_ERR : Fld := { bank := .lane, addr := 0x40060124, s1 := 0x40, n1 := 32, lo := 8, w := 1, acc := .ro }
/-- R195 [9] W1C, 0. No sample for 100 ns -/
def R.CE_Bn_STATUS.STALL : Fld := { bank := .lane, addr := 0x40060124, s1 := 0x40, n1 := 32, lo := 9, w := 1, acc := .w1c }
/-- R195 [15:0] RC, 0. Issued edges, saturating -/
def R.CE_Bn_CNT.EDGES : Fld := { bank := .lane, addr := 0x40060128, s1 := 0x40, n1 := 32, lo := 0, w := 16, acc := .rc }
/-- R195 [31:16] RC, 0. Late commits, saturating -/
def R.CE_Bn_CNT.LATE : Fld := { bank := .lane, addr := 0x40060128, s1 := 0x40, n1 := 32, lo := 16, w := 16, acc := .rc }
/-- R195 [15:0] RC, 0. Dropped edges, saturating -/
def R.CE_Bn_DROP.DROPPED : Fld := { bank := .lane, addr := 0x4006012C, s1 := 0x40, n1 := 32, lo := 0, w := 16, acc := .rc }
/-- R195 [31:16] RC, 0. Turn-ons withheld by the Hoist link, saturating -/
def R.CE_Bn_DROP.WITHHELD : Fld := { bank := .lane, addr := 0x4006012C, s1 := 0x40, n1 := 32, lo := 16, w := 16, acc := .rc }
/-- R195 [2:0] RW, cfg. Under R186 -/
def R.CE_Ai_CFG.OP : Fld := { bank := .lane, addr := 0x40060900, s1 := 0x40, n1 := 24, lo := 0, w := 3, acc := .rw }
/-- R195 [9:3] RW, cfg. Under R175 -/
def R.CE_Ai_CFG.TRIG : Fld := { bank := .lane, addr := 0x40060900, s1 := 0x40, n1 := 24, lo := 3, w := 7, acc := .rw }
/-- R195 [17:10] RW, cfg. 1 to 255. 0 acts as 1 -/
def R.CE_Ai_CFG.DIV : Fld := { bank := .lane, addr := 0x40060900, s1 := 0x40, n1 := 24, lo := 10, w := 8, acc := .rw }
/-- R195 [21:18] RW, cfg. Trip group of R190 -/
def R.CE_Ai_CFG.FE_TG : Fld := { bank := .lane, addr := 0x40060900, s1 := 0x40, n1 := 24, lo := 18, w := 4, acc := .rw }
/-- R195 [22] RW, cfg. Following-error supervision -/
def R.CE_Ai_CFG.FE_EN : Fld := { bank := .lane, addr := 0x40060900, s1 := 0x40, n1 := 24, lo := 22, w := 1, acc := .rw }
/-- R195 [23] RW, cfg. Converter trigger under R189 -/
def R.CE_Ai_CFG.TRIG_EN : Fld := { bank := .lane, addr := 0x40060900, s1 := 0x40, n1 := 24, lo := 23, w := 1, acc := .rw }
/-- R195 [24] RW, cfg. Urgent request under R189 -/
def R.CE_Ai_CFG.URG_EN : Fld := { bank := .lane, addr := 0x40060900, s1 := 0x40, n1 := 24, lo := 24, w := 1, acc := .rw }
/-- R195 [7:0] RW, cfg. Source of A -/
def R.CE_Ai_IN.A : Fld := { bank := .lane, addr := 0x40060904, s1 := 0x40, n1 := 24, lo := 0, w := 8, acc := .rw }
/-- R195 [15:8] RW, cfg. Source of B -/
def R.CE_Ai_IN.B : Fld := { bank := .lane, addr := 0x40060904, s1 := 0x40, n1 := 24, lo := 8, w := 8, acc := .rw }
/-- R195 [23:16] RW, cfg. Source of C -/
def R.CE_Ai_IN.C : Fld := { bank := .lane, addr := 0x40060904, s1 := 0x40, n1 := 24, lo := 16, w := 8, acc := .rw }
/-- R195 [31:0] RW, cfg. Coefficient, signed, scaled under R186 -/
def R.CE_Ai_Kj.K : Fld := { bank := .lane, addr := 0x40060908, s1 := 0x40, n1 := 24, s2 := 0x4, n2 := 4, lo := 0, w := 32, acc := .rw }
/-- R195 [15:0] RW, cfg. OUT_MAX = MAX × 2^16 + 65,535, signed -/
def R.CE_Ai_OUTLIM.MAX : Fld := { bank := .lane, addr := 0x40060918, s1 := 0x40, n1 := 24, lo := 0, w := 16, acc := .rw }
/-- R195 [31:16] RW, cfg. OUT_MIN = MIN × 2^16, signed -/
def R.CE_Ai_OUTLIM.MIN : Fld := { bank := .lane, addr := 0x40060918, s1 := 0x40, n1 := 24, lo := 16, w := 16, acc := .rw }
/-- R195 [31:0] RW, cfg. Unsigned, signal format -/
def R.CE_Ai_FE_LIMIT.LIMIT : Fld := { bank := .lane, addr := 0x4006091C, s1 := 0x40, n1 := 24, lo := 0, w := 32, acc := .rw }
/-- R195 [15:0] RW, cfg. µs. 0 acts as 1 -/
def R.CE_Ai_AUX.FE_TIME : Fld := { bank := .lane, addr := 0x40060920, s1 := 0x40, n1 := 24, lo := 0, w := 16, acc := .rw }
/-- R195 [21:16] RW, cfg. Channel code -/
def R.CE_Ai_AUX.URG_CH : Fld := { bank := .lane, addr := 0x40060920, s1 := 0x40, n1 := 24, lo := 16, w := 6, acc := .rw }
/-- R195 [27:24] RW, cfg. Group -/
def R.CE_Ai_AUX.URG_GROUP : Fld := { bank := .lane, addr := 0x40060920, s1 := 0x40, n1 := 24, lo := 24, w := 4, acc := .rw }
/-- R195 [31:0] RO, 0. y -/
def R.CE_Ai_OUT.Y : Fld := { bank := .lane, addr := 0x40060924, s1 := 0x40, n1 := 24, lo := 0, w := 32, acc := .ro }
/-- R195 [31:0] RW, 0. I bits [31:0]. Read and preset under R188 -/
def R.CE_Ai_INT_LO.I : Fld := { bank := .lane, addr := 0x40060928, s1 := 0x40, n1 := 24, lo := 0, w := 32, acc := .rw }
/-- R195 [15:0] RW, 0. I bits [47:32] -/
def R.CE_Ai_INT_HI.I : Fld := { bank := .lane, addr := 0x4006092C, s1 := 0x40, n1 := 24, lo := 0, w := 16, acc := .rw }
/-- R195 [0] RO, 0. Last output limited -/
def R.CE_Ai_STATUS.SAT : Fld := { bank := .lane, addr := 0x40060930, s1 := 0x40, n1 := 24, lo := 0, w := 1, acc := .ro }
/-- R195 [1] RO, 0. Following-error timer running -/
def R.CE_Ai_STATUS.FE_RUN : Fld := { bank := .lane, addr := 0x40060930, s1 := 0x40, n1 := 24, lo := 1, w := 1, acc := .ro }
/-- R195 [2] W1C, 0. Under R174 -/
def R.CE_Ai_STATUS.IN_INVALID : Fld := { bank := .lane, addr := 0x40060930, s1 := 0x40, n1 := 24, lo := 2, w := 1, acc := .w1c }
/-- R195 [3] W1C, 0. Under R176 -/
def R.CE_Ai_STATUS.OVR : Fld := { bank := .lane, addr := 0x40060930, s1 := 0x40, n1 := 24, lo := 3, w := 1, acc := .w1c }
/-- R195 [4] RO, 0. Under R188 -/
def R.CE_Ai_STATUS.PRESET_PEND : Fld := { bank := .lane, addr := 0x40060930, s1 := 0x40, n1 := 24, lo := 4, w := 1, acc := .ro }
/-- R195 [5] RO, 0. Reserved source or trigger, or self-trigger -/
def R.CE_Ai_STATUS.SRC_ERR : Fld := { bank := .lane, addr := 0x40060930, s1 := 0x40, n1 := 24, lo := 5, w := 1, acc := .ro }
/-- R195 [15:0] RC, 0. Longest trigger-to-completion time, CE cycles -/
def R.CE_Ai_TIME.MAX_LAT : Fld := { bank := .lane, addr := 0x40060934, s1 := 0x40, n1 := 24, lo := 0, w := 16, acc := .rc }
/-- R195 [31:16] RC, 0. Saturating -/
def R.CE_Ai_TIME.OVERRUNS : Fld := { bank := .lane, addr := 0x40060934, s1 := 0x40, n1 := 24, lo := 16, w := 16, acc := .rc }
/-- R196 [7:0] RW, cfg. One bit per buffer, under R193 -/
def R.TRC_CTRL.AUTO_DUMP : Fld := { bank := .lane, addr := 0x40140000, lo := 0, w := 8, acc := .rw }
/-- R196 [8] RW, cfg. Interrupt on entry to DONE -/
def R.TRC_CTRL.IRQ_EN : Fld := { bank := .lane, addr := 0x40140000, lo := 8, w := 1, acc := .rw }
/-- R196 [23:0] RO, 0. Buffer b in bits [3b + 2:3b]: 0 IDLE, 1 FILL, 2 READY, 3 POST, 4 DONE, 5 DUMPING -/
def R.TRC_STATUS.STATE : Fld := { bank := .lane, addr := 0x40140004, lo := 0, w := 24, acc := .ro }
/-- R196 [13:0] RO, 0. Next dump position -/
def R.TRC_DUMP_POS.POS : Fld := { bank := .lane, addr := 0x40140008, lo := 0, w := 14, acc := .ro }
/-- R196 [31:16] RO, 0. Next dump sequence number, modulo 2^16 -/
def R.TRC_DUMP_POS.SEQ : Fld := { bank := .lane, addr := 0x40140008, lo := 16, w := 16, acc := .ro }
/-- R196 [8:0] RW, cfg. Under R191 -/
def R.TRC_Bb_CFG.PROBE : Fld := { bank := .lane, addr := 0x40140100, s1 := 0x40, n1 := 8, lo := 0, w := 9, acc := .rw }
/-- R196 [9] RW, cfg. Value and stamp pairs -/
def R.TRC_Bb_CFG.STAMP : Fld := { bank := .lane, addr := 0x40140100, s1 := 0x40, n1 := 8, lo := 9, w := 1, acc := .rw }
/-- R196 [10] RW, cfg. Triggered with buffer 0. Ignored for buffer 0 -/
def R.TRC_Bb_CFG.LINK : Fld := { bank := .lane, addr := 0x40140100, s1 := 0x40, n1 := 8, lo := 10, w := 1, acc := .rw }
/-- R196 [23:12] RW, cfg. 1 to 4,095. 0 acts as 1 -/
def R.TRC_Bb_CFG.DIV : Fld := { bank := .lane, addr := 0x40140100, s1 := 0x40, n1 := 8, lo := 12, w := 12, acc := .rw }
/-- R196 [30:24] RW, cfg. Per cent, 0 to 100. Above 100 acts as 100 -/
def R.TRC_Bb_CFG.PRE : Fld := { bank := .lane, addr := 0x40140100, s1 := 0x40, n1 := 8, lo := 24, w := 7, acc := .rw }
/-- R196 [2:0] RW, cfg. Under R192 -/
def R.TRC_Bb_TRIG.KIND : Fld := { bank := .lane, addr := 0x40140104, s1 := 0x40, n1 := 8, lo := 0, w := 3, acc := .rw }
/-- R196 [17:8] RW, cfg. Source code or event code -/
def R.TRC_Bb_TRIG.TSRC : Fld := { bank := .lane, addr := 0x40140104, s1 := 0x40, n1 := 8, lo := 8, w := 10, acc := .rw }
/-- R196 [31:0] RW, cfg. Signed threshold -/
def R.TRC_Bb_LEVEL.LEVEL : Fld := { bank := .lane, addr := 0x40140108, s1 := 0x40, n1 := 8, lo := 0, w := 32, acc := .rw }
/-- R196 [15:0] RW, cfg. Dump deadline in ms. 0 acts as 1 -/
def R.TRC_Bb_DL.MS : Fld := { bank := .lane, addr := 0x4014010C, s1 := 0x40, n1 := 8, lo := 0, w := 16, acc := .rw }
/-- R196 [0] WT, 0. Arms the buffer -/
def R.TRC_Bb_CMD.ARM : Fld := { bank := .lane, addr := 0x40140110, s1 := 0x40, n1 := 8, lo := 0, w := 1, acc := .wt }
/-- R196 [1] WT, 0. Submits a dump under R194. Refused with CODE 3 outside DONE -/
def R.TRC_Bb_CMD.DUMP : Fld := { bank := .lane, addr := 0x40140110, s1 := 0x40, n1 := 8, lo := 1, w := 1, acc := .wt }
/-- R196 [2] WT, 0. Returns the buffer to IDLE -/
def R.TRC_Bb_CMD.ABORT : Fld := { bank := .lane, addr := 0x40140110, s1 := 0x40, n1 := 8, lo := 2, w := 1, acc := .wt }
/-- R196 [3] WT, 0. Software trigger -/
def R.TRC_Bb_CMD.TRIGGER : Fld := { bank := .lane, addr := 0x40140110, s1 := 0x40, n1 := 8, lo := 3, w := 1, acc := .wt }
/-- R196 [12:0] RO, 0. Index of the oldest record kept -/
def R.TRC_Bb_INFO.FIRST : Fld := { bank := .lane, addr := 0x40140114, s1 := 0x40, n1 := 8, lo := 0, w := 13, acc := .ro }
/-- R196 [26:13] RO, 0. Records kept, 0 to 8,192 -/
def R.TRC_Bb_INFO.ENTRIES : Fld := { bank := .lane, addr := 0x40140114, s1 := 0x40, n1 := 8, lo := 13, w := 14, acc := .ro }
/-- R196 [27] RO, 0. Triggered in FILL -/
def R.TRC_Bb_INFO.PRE_SHORT : Fld := { bank := .lane, addr := 0x40140114, s1 := 0x40, n1 := 8, lo := 27, w := 1, acc := .ro }
/-- R196 [28] RO, 0. ARM discarded in DUMPING -/
def R.TRC_Bb_INFO.ARM_REFUSED : Fld := { bank := .lane, addr := 0x40140114, s1 := 0x40, n1 := 8, lo := 28, w := 1, acc := .ro }
/-- R196 [31:0] RO, 0. Trigger stamp bits [31:0]. Read under R10 -/
def R.TRC_Bb_STAMP_LO.TIME : Fld := { bank := .lane, addr := 0x40140118, s1 := 0x40, n1 := 8, lo := 0, w := 32, acc := .ro }
/-- R196 [31:0] RO, 0. Trigger stamp bits [63:32] -/
def R.TRC_Bb_STAMP_HI.TIME : Fld := { bank := .lane, addr := 0x4014011C, s1 := 0x40, n1 := 8, lo := 0, w := 32, acc := .ro }
/-- R196 [5:0] RO, 0. Tally entry of the last dump -/
def R.TRC_Bb_DUMP.ID : Fld := { bank := .lane, addr := 0x40140120, s1 := 0x40, n1 := 8, lo := 0, w := 6, acc := .ro }
/-- R196 [8] RO, 0. The last dump was admitted -/
def R.TRC_Bb_DUMP.ADMITTED : Fld := { bank := .lane, addr := 0x40140120, s1 := 0x40, n1 := 8, lo := 8, w := 1, acc := .ro }
/-- R196 [10:9] RO, 0. 0 admitted, 1 REFUSED_LATE, 2 REFUSED_FULL, 3 not in DONE -/
def R.TRC_Bb_DUMP.CODE : Fld := { bank := .lane, addr := 0x40140120, s1 := 0x40, n1 := 8, lo := 9, w := 2, acc := .ro }
/-- R196 [14:12] RO, 0. Outcome code under R109 -/
def R.TRC_Bb_DUMP.OUTCOME : Fld := { bank := .lane, addr := 0x40140120, s1 := 0x40, n1 := 8, lo := 12, w := 3, acc := .ro }
/-- R196 [15] RO, 0. OUTCOME posted for the last admitted dump -/
def R.TRC_Bb_DUMP.OUTCOME_VALID : Fld := { bank := .lane, addr := 0x40140120, s1 := 0x40, n1 := 8, lo := 15, w := 1, acc := .ro }
/-- R221 [0] RW, cfg. Interrupt on any TORN -/
def R.PWM_CTRL.TORN_IRQ_EN : Fld := { bank := .lane, addr := 0x40070000, lo := 0, w := 1, acc := .rw }
/-- R221 [1] RW, cfg. Interrupt when a group with IRQ_EN becomes active -/
def R.PWM_CTRL.TRIP_IRQ_EN : Fld := { bank := .lane, addr := 0x40070000, lo := 1, w := 1, acc := .rw }
/-- R221 [2] RW, cfg. Interrupt on any OVERLAP -/
def R.PWM_CTRL.OVL_IRQ_EN : Fld := { bank := .lane, addr := 0x40070000, lo := 2, w := 1, acc := .rw }
/-- R221 [3] RW, cfg. Interrupt on any CLAMPED -/
def R.PWM_CTRL.CLAMP_IRQ_EN : Fld := { bank := .lane, addr := 0x40070000, lo := 3, w := 1, acc := .rw }
/-- R221 [4] RW, cfg. Interrupt when every shared channel is taken over -/
def R.PWM_CTRL.TAKE_IRQ_EN : Fld := { bank := .lane, addr := 0x40070000, lo := 4, w := 1, acc := .rw }
/-- R221 [15:0] RO, 0. One bit per active trip group -/
def R.PWM_STATUS.TG_ACTIVE : Fld := { bank := .lane, addr := 0x40070004, lo := 0, w := 16, acc := .ro }
/-- R221 [16] RO, 0. Any timebase with TORN set -/
def R.PWM_STATUS.TORN : Fld := { bank := .lane, addr := 0x40070004, lo := 16, w := 1, acc := .ro }
/-- R221 [17] W1C, 0. A clear was refused under R213 -/
def R.PWM_STATUS.CLR_REFUSED : Fld := { bank := .lane, addr := 0x40070004, lo := 17, w := 1, acc := .w1c }
/-- R221 [18] RO, 0. Any channel with CFG_ERR -/
def R.PWM_STATUS.CFG_ERR : Fld := { bank := .lane, addr := 0x40070004, lo := 18, w := 1, acc := .ro }
/-- R221 [15:0] WT, 0. Forces the groups active -/
def R.PWM_TG_FORCE.GROUPS : Fld := { bank := .lane, addr := 0x40070008, lo := 0, w := 16, acc := .wt }
/-- R221 [15:0] WT, 0. Clears latched groups under R213 -/
def R.PWM_TG_CLEAR.GROUPS : Fld := { bank := .lane, addr := 0x4007000C, lo := 0, w := 16, acc := .wt }
/-- R221 [15:0] RO, 0. Groups latched -/
def R.PWM_TG_LATCHED.LATCHED : Fld := { bank := .lane, addr := 0x40070010, lo := 0, w := 16, acc := .ro }
/-- R221 [31:16] RO, 0. Groups latched by force -/
def R.PWM_TG_LATCHED.FORCED : Fld := { bank := .lane, addr := 0x40070010, lo := 16, w := 16, acc := .ro }
/-- R221 [7:0] RWS, cfg. Timebases of shared stages, under R201 -/
def R.PWM_SHARED.TB : Fld := { bank := .lane, addr := 0x40070014, lo := 0, w := 8, acc := .rws }
/-- R221 [0] RO, 0. This lane holds the grant -/
def R.PWM_GRANT.GRANTED : Fld := { bank := .lane, addr := 0x40070018, lo := 0, w := 1, acc := .ro }
/-- R221 [15:8] RO, 0. Shared timebases aligned under R218 -/
def R.PWM_GRANT.ALIGNED : Fld := { bank := .lane, addr := 0x40070018, lo := 8, w := 8, acc := .ro }
/-- R221 [23:16] RO, 0. Shared timebases with every channel taken over -/
def R.PWM_GRANT.TAKEN : Fld := { bank := .lane, addr := 0x40070018, lo := 16, w := 8, acc := .ro }
/-- R221 [15:0] RO, 0. Grant to last take-over, 5 ns units, saturating -/
def R.PWM_TAKEOVER.TIME : Fld := { bank := .lane, addr := 0x4007001C, lo := 0, w := 16, acc := .ro }
/-- R221 [16] RO, 0. The last rule of R219 was used -/
def R.PWM_TAKEOVER.LATE_TAKE : Fld := { bank := .lane, addr := 0x4007001C, lo := 16, w := 1, acc := .ro }
/-- R221 [31:0] RO, 0. Raw state of sources 0 to 31 -/
def R.PWM_TSRC_ACTIVE_LO.SRC : Fld := { bank := .lane, addr := 0x40070020, lo := 0, w := 32, acc := .ro }
/-- R221 [31:0] RO, 0. Raw state of sources 32 to 63 -/
def R.PWM_TSRC_ACTIVE_HI.SRC : Fld := { bank := .lane, addr := 0x40070024, lo := 0, w := 32, acc := .ro }
/-- R221 [31:0] W1C, 0. Sources 0 to 31 that reached a group -/
def R.PWM_TSRC_HIT_LO.SRC : Fld := { bank := .lane, addr := 0x40070028, lo := 0, w := 32, acc := .w1c }
/-- R221 [31:0] W1C, 0. Sources 32 to 63 that reached a group -/
def R.PWM_TSRC_HIT_HI.SRC : Fld := { bank := .lane, addr := 0x4007002C, lo := 0, w := 32, acc := .w1c }
/-- R221 [0] RW, cfg. Runs the timebase -/
def R.PWM_TBt_CFG.EN : Fld := { bank := .lane, addr := 0x40070100, s1 := 0x20, n1 := 8, lo := 0, w := 1, acc := .rw }
/-- R221 [1] RW, cfg. Under R198 -/
def R.PWM_TBt_CFG.UPDOWN : Fld := { bank := .lane, addr := 0x40070100, s1 := 0x20, n1 := 8, lo := 1, w := 1, acc := .rw }
/-- R221 [3:2] RW, cfg. 0 zero, 1 peak, 2 both, 3 acts as 0 -/
def R.PWM_TBt_CFG.RELOAD : Fld := { bank := .lane, addr := 0x40070100, s1 := 0x20, n1 := 8, lo := 2, w := 2, acc := .rw }
/-- R221 [8:4] RW, cfg. Under R199 -/
def R.PWM_TBt_CFG.SYNC : Fld := { bank := .lane, addr := 0x40070100, s1 := 0x20, n1 := 8, lo := 4, w := 5, acc := .rw }
/-- R221 [9] RW, cfg. Phase from a slot under R199 -/
def R.PWM_TBt_CFG.PHASE_SLOT_EN : Fld := { bank := .lane, addr := 0x40070100, s1 := 0x20, n1 := 8, lo := 9, w := 1, acc := .rw }
/-- R221 [14:10] RW, cfg. Arithmetic slot 0 to 23 -/
def R.PWM_TBt_CFG.PHASE_SLOT : Fld := { bank := .lane, addr := 0x40070100, s1 := 0x20, n1 := 8, lo := 10, w := 5, acc := .rw }
/-- R221 [15] RW, cfg. Interrupt at each transfer point -/
def R.PWM_TBt_CFG.IRQ_EN : Fld := { bank := .lane, addr := 0x40070100, s1 := 0x20, n1 := 8, lo := 15, w := 1, acc := .rw }
/-- R221 [15:0] RW, cfg. Shadow period, 2 to 65,535. Below 2 acts as 2 -/
def R.PWM_TBt_PERIOD.P : Fld := { bank := .lane, addr := 0x40070104, s1 := 0x20, n1 := 8, lo := 0, w := 16, acc := .rw }
/-- R221 [24:0] RW, cfg. Shadow phase, time code -/
def R.PWM_TBt_PHASE.PHASE : Fld := { bank := .lane, addr := 0x40070108, s1 := 0x20, n1 := 8, lo := 0, w := 25, acc := .rw }
/-- R221 [0] WT, 0. Sets COMMIT_PEND -/
def R.PWM_TBt_COMMIT.COMMIT : Fld := { bank := .lane, addr := 0x4007010C, s1 := 0x20, n1 := 8, lo := 0, w := 1, acc := .wt }
/-- R221 [1] WT, 0. Under R205 -/
def R.PWM_TBt_COMMIT.DISCARD : Fld := { bank := .lane, addr := 0x4007010C, s1 := 0x20, n1 := 8, lo := 1, w := 1, acc := .wt }
/-- R221 [0] RO, 0. Counting -/
def R.PWM_TBt_STATUS.RUN : Fld := { bank := .lane, addr := 0x40070110, s1 := 0x20, n1 := 8, lo := 0, w := 1, acc := .ro }
/-- R221 [1] RO, 0. Shadow written since the last transfer or discard -/
def R.PWM_TBt_STATUS.DIRTY : Fld := { bank := .lane, addr := 0x40070110, s1 := 0x20, n1 := 8, lo := 1, w := 1, acc := .ro }
/-- R221 [2] RO, 0. Commit awaiting a transfer point -/
def R.PWM_TBt_STATUS.COMMIT_PEND : Fld := { bank := .lane, addr := 0x40070110, s1 := 0x20, n1 := 8, lo := 2, w := 1, acc := .ro }
/-- R221 [3] RO, 0. Falling slope -/
def R.PWM_TBt_STATUS.DOWN : Fld := { bank := .lane, addr := 0x40070110, s1 := 0x20, n1 := 8, lo := 3, w := 1, acc := .ro }
/-- R221 [4] RO, 0. Held under R87 -/
def R.PWM_TBt_STATUS.MODE_HOLD : Fld := { bank := .lane, addr := 0x40070110, s1 := 0x20, n1 := 8, lo := 4, w := 1, acc := .ro }
/-- R221 [8] W1C, 0. Under R204 -/
def R.PWM_TBt_STATUS.TORN : Fld := { bank := .lane, addr := 0x40070110, s1 := 0x20, n1 := 8, lo := 8, w := 1, acc := .w1c }
/-- R221 [9] W1C, 0. Under R199 -/
def R.PWM_TBt_STATUS.SYNC_JUMP : Fld := { bank := .lane, addr := 0x40070110, s1 := 0x20, n1 := 8, lo := 9, w := 1, acc := .w1c }
/-- R221 [10] W1C, 0. Under R218 -/
def R.PWM_TBt_STATUS.ALIGN_JUMP : Fld := { bank := .lane, addr := 0x40070110, s1 := 0x20, n1 := 8, lo := 10, w := 1, acc := .w1c }
/-- R221 [15:0] RO, 0. Counter position -/
def R.PWM_TBt_COUNT.COUNT : Fld := { bank := .lane, addr := 0x40070114, s1 := 0x20, n1 := 8, lo := 0, w := 16, acc := .ro }
/-- R221 [15:0] RO, 0. Active period -/
def R.PWM_TBt_ACTIVE.P : Fld := { bank := .lane, addr := 0x40070118, s1 := 0x20, n1 := 8, lo := 0, w := 16, acc := .ro }
/-- R221 [15:0] RC, 0. Set transfers, saturating -/
def R.PWM_TBt_CNT.TRANSFERS : Fld := { bank := .lane, addr := 0x4007011C, s1 := 0x20, n1 := 8, lo := 0, w := 16, acc := .rc }
/-- R221 [31:16] RC, 0. Torn transfer points, saturating -/
def R.PWM_TBt_CNT.TORN : Fld := { bank := .lane, addr := 0x4007011C, s1 := 0x20, n1 := 8, lo := 16, w := 16, acc := .rc }
/-- R221 [0] RW, cfg. Enables EVk -/
def R.PWM_EVk_CFG.EN : Fld := { bank := .lane, addr := 0x40070200, s1 := 0x4, n1 := 8, lo := 0, w := 1, acc := .rw }
/-- R221 [3:1] RW, cfg. Timebase -/
def R.PWM_EVk_CFG.TB : Fld := { bank := .lane, addr := 0x40070200, s1 := 0x4, n1 := 8, lo := 1, w := 3, acc := .rw }
/-- R221 [19:4] RW, cfg. Counter position -/
def R.PWM_EVk_CFG.POINT : Fld := { bank := .lane, addr := 0x40070200, s1 := 0x4, n1 := 8, lo := 4, w := 16, acc := .rw }
/-- R221 [21:20] RW, cfg. Under R216 -/
def R.PWM_EVk_CFG.SLOPE : Fld := { bank := .lane, addr := 0x40070200, s1 := 0x4, n1 := 8, lo := 20, w := 2, acc := .rw }
/-- R221 [0] RW, cfg. Under R212 -/
def R.PWM_TGg_CFG.ACTION : Fld := { bank := .lane, addr := 0x40070240, s1 := 0x4, n1 := 16, lo := 0, w := 1, acc := .rw }
/-- R221 [1] RW, cfg. 0 latch, 1 cycle by cycle -/
def R.PWM_TGg_CFG.RELEASE : Fld := { bank := .lane, addr := 0x40070240, s1 := 0x4, n1 := 16, lo := 1, w := 1, acc := .rw }
/-- R221 [2] RW, cfg. Interrupt on activation -/
def R.PWM_TGg_CFG.IRQ_EN : Fld := { bank := .lane, addr := 0x40070240, s1 := 0x4, n1 := 16, lo := 2, w := 1, acc := .rw }
/-- R221 [3] RW, cfg. Event on Q09 on activation -/
def R.PWM_TGg_CFG.LOG_EN : Fld := { bank := .lane, addr := 0x40070240, s1 := 0x4, n1 := 16, lo := 3, w := 1, acc := .rw }
/-- R221 [0] RW, cfg. Enables the timer -/
def R.PWM_BTb_CFG.EN : Fld := { bank := .lane, addr := 0x40070280, s1 := 0x4, n1 := 16, lo := 0, w := 1, acc := .rw }
/-- R221 [6:1] RW, cfg. Channel whose edges open the window -/
def R.PWM_BTb_CFG.CH : Fld := { bank := .lane, addr := 0x40070280, s1 := 0x4, n1 := 16, lo := 1, w := 6, acc := .rw }
/-- R221 [8:7] RW, cfg. Under R215 -/
def R.PWM_BTb_CFG.EDGE : Fld := { bank := .lane, addr := 0x40070280, s1 := 0x4, n1 := 16, lo := 7, w := 2, acc := .rw }
/-- R221 [20:9] RW, cfg. Window in 5 ns, 0 to 4,095 -/
def R.PWM_BTb_CFG.LEN : Fld := { bank := .lane, addr := 0x40070280, s1 := 0x4, n1 := 16, lo := 9, w := 12, acc := .rw }
/-- R221 [15:0] RW, cfg. Trip groups raised by source s -/
def R.PWM_TSRCs_CFG.MASK : Fld := { bank := .lane, addr := 0x40070300, s1 := 0x4, n1 := 64, lo := 0, w := 16, acc := .rw }
/-- R221 [19:16] RW, cfg. Blanking timer -/
def R.PWM_TSRCs_CFG.BT : Fld := { bank := .lane, addr := 0x40070300, s1 := 0x4, n1 := 64, lo := 16, w := 4, acc := .rw }
/-- R221 [20] RW, cfg. Source subject to BT -/
def R.PWM_TSRCs_CFG.BLANK_EN : Fld := { bank := .lane, addr := 0x40070300, s1 := 0x4, n1 := 64, lo := 20, w := 1, acc := .rw }
/-- R221 [0] RW, cfg. Enables the channel under R202 -/
def R.PWM_CHc_CFG.EN : Fld := { bank := .lane, addr := 0x40070800, s1 := 0x20, n1 := 64, lo := 0, w := 1, acc := .rw }
/-- R221 [1] RW, cfg. 0 compare, 1 engine-driven -/
def R.PWM_CHc_CFG.ENGINE : Fld := { bank := .lane, addr := 0x40070800, s1 := 0x20, n1 := 64, lo := 1, w := 1, acc := .rw }
/-- R221 [2] RW, cfg. 1 complementary, 0 single -/
def R.PWM_CHc_CFG.COMPL : Fld := { bank := .lane, addr := 0x40070800, s1 := 0x20, n1 := 64, lo := 2, w := 1, acc := .rw }
/-- R221 [3] RW, cfg. Single channel drives a low side, under R212 -/
def R.PWM_CHc_CFG.LOWSIDE : Fld := { bank := .lane, addr := 0x40070800, s1 := 0x20, n1 := 64, lo := 3, w := 1, acc := .rw }
/-- R221 [6:4] RW, cfg. Timebase -/
def R.PWM_CHc_CFG.TB : Fld := { bank := .lane, addr := 0x40070800, s1 := 0x20, n1 := 64, lo := 4, w := 3, acc := .rw }
/-- R221 [10:7] RW, cfg. Trip group -/
def R.PWM_CHc_CFG.TG : Fld := { bank := .lane, addr := 0x40070800, s1 := 0x20, n1 := 64, lo := 7, w := 4, acc := .rw }
/-- R221 [6:0] RW, cfg. Destination code under R200 -/
def R.PWM_CHc_DST.DST_H : Fld := { bank := .lane, addr := 0x40070804, s1 := 0x20, n1 := 64, lo := 0, w := 7, acc := .rw }
/-- R221 [14:8] RW, cfg. Destination code, complementary only -/
def R.PWM_CHc_DST.DST_L : Fld := { bank := .lane, addr := 0x40070804, s1 := 0x20, n1 := 64, lo := 8, w := 7, acc := .rw }
/-- R221 [24:0] RW, cfg. Shadow on compare, time code -/
def R.PWM_CHc_ON.ON : Fld := { bank := .lane, addr := 0x40070808, s1 := 0x20, n1 := 64, lo := 0, w := 25, acc := .rw }
/-- R221 [24:0] RW, cfg. Shadow off compare, time code -/
def R.PWM_CHc_OFF.OFF : Fld := { bank := .lane, addr := 0x4007080C, s1 := 0x20, n1 := 64, lo := 0, w := 25, acc := .rw }
/-- R221 [15:0] RW, cfg. Dead time before turn-on for level 1, 78.125 ps -/
def R.PWM_CHc_DT.DT_RISE : Fld := { bank := .lane, addr := 0x40070810, s1 := 0x20, n1 := 64, lo := 0, w := 16, acc := .rw }
/-- R221 [31:16] RW, cfg. Dead time before turn-on for level 0, 78.125 ps -/
def R.PWM_CHc_DT.DT_FALL : Fld := { bank := .lane, addr := 0x40070810, s1 := 0x20, n1 := 64, lo := 16, w := 16, acc := .rw }
/-- R221 [7:0] RW, cfg. Minimum pulse, 5 ns units. Acts from the next transfer point -/
def R.PWM_CHc_FILT.MINP : Fld := { bank := .lane, addr := 0x40070814, s1 := 0x20, n1 := 64, lo := 0, w := 8, acc := .rw }
/-- R221 [8] RW, cfg. 0 drop, 1 stretch, under R208 -/
def R.PWM_CHc_FILT.STRETCH : Fld := { bank := .lane, addr := 0x40070814, s1 := 0x20, n1 := 64, lo := 8, w := 1, acc := .rw }
/-- R221 [9] RW, cfg. Under R206 -/
def R.PWM_CHc_FILT.CLAMP_LIMIT : Fld := { bank := .lane, addr := 0x40070814, s1 := 0x20, n1 := 64, lo := 9, w := 1, acc := .rw }
/-- R221 [10] RW, cfg. Duty from a slot under R203 -/
def R.PWM_CHc_FILT.SLOT_EN : Fld := { bank := .lane, addr := 0x40070814, s1 := 0x20, n1 := 64, lo := 10, w := 1, acc := .rw }
/-- R221 [15:11] RW, cfg. Arithmetic slot 0 to 23 -/
def R.PWM_CHc_FILT.SLOT : Fld := { bank := .lane, addr := 0x40070814, s1 := 0x20, n1 := 64, lo := 11, w := 5, acc := .rw }
/-- R221 [0] RO, 0. Channel level -/
def R.PWM_CHc_STATUS.LEVEL : Fld := { bank := .lane, addr := 0x40070818, s1 := 0x20, n1 := 64, lo := 0, w := 1, acc := .ro }
/-- R221 [1] RO, 0. DST_H commanded on -/
def R.PWM_CHc_STATUS.HIGH : Fld := { bank := .lane, addr := 0x40070818, s1 := 0x20, n1 := 64, lo := 1, w := 1, acc := .ro }
/-- R221 [2] RO, 0. DST_L commanded on -/
def R.PWM_CHc_STATUS.LOW : Fld := { bank := .lane, addr := 0x40070818, s1 := 0x20, n1 := 64, lo := 2, w := 1, acc := .ro }
/-- R221 [3] RO, 0. Its trip group is acting on it -/
def R.PWM_CHc_STATUS.TRIPPED : Fld := { bank := .lane, addr := 0x40070818, s1 := 0x20, n1 := 64, lo := 3, w := 1, acc := .ro }
/-- R221 [4] RO, 0. Under R201 -/
def R.PWM_CHc_STATUS.CFG_ERR : Fld := { bank := .lane, addr := 0x40070818, s1 := 0x20, n1 := 64, lo := 4, w := 1, acc := .ro }
/-- R221 [5] W1C, 0. Under R202 -/
def R.PWM_CHc_STATUS.CFG_REJ : Fld := { bank := .lane, addr := 0x40070818, s1 := 0x20, n1 := 64, lo := 5, w := 1, acc := .w1c }
/-- R221 [6] W1C, 0. Under R206 -/
def R.PWM_CHc_STATUS.CLAMPED : Fld := { bank := .lane, addr := 0x40070818, s1 := 0x20, n1 := 64, lo := 6, w := 1, acc := .w1c }
/-- R221 [7] W1C, 0. Under R208 -/
def R.PWM_CHc_STATUS.FILTERED : Fld := { bank := .lane, addr := 0x40070818, s1 := 0x20, n1 := 64, lo := 7, w := 1, acc := .w1c }
/-- R221 [8] W1C, 0. Under R209 -/
def R.PWM_CHc_STATUS.OVERLAP : Fld := { bank := .lane, addr := 0x40070818, s1 := 0x20, n1 := 64, lo := 8, w := 1, acc := .w1c }
/-- R221 [9] W1C, 0. A turn-on withheld by the Hoist link -/
def R.PWM_CHc_STATUS.WITHHELD : Fld := { bank := .lane, addr := 0x40070818, s1 := 0x20, n1 := 64, lo := 9, w := 1, acc := .w1c }
/-- R221 [10] RO, 0. Taken over under R219. Cleared when the grant is removed -/
def R.PWM_CHc_STATUS.TAKEN : Fld := { bank := .lane, addr := 0x40070818, s1 := 0x20, n1 := 64, lo := 10, w := 1, acc := .ro }
/-- R221 [7:0] RC, 0. Overlap events, saturating -/
def R.PWM_CHc_CNT.OVERLAP : Fld := { bank := .lane, addr := 0x4007081C, s1 := 0x20, n1 := 64, lo := 0, w := 8, acc := .rc }
/-- R221 [15:8] RC, 0. Clamped values, saturating -/
def R.PWM_CHc_CNT.CLAMPED : Fld := { bank := .lane, addr := 0x4007081C, s1 := 0x20, n1 := 64, lo := 8, w := 8, acc := .rc }
/-- R221 [31:16] RC, 0. Filter actions, saturating -/
def R.PWM_CHc_CNT.FILTERED : Fld := { bank := .lane, addr := 0x4007081C, s1 := 0x20, n1 := 64, lo := 16, w := 16, acc := .rc }
/-- R246 [0] RW, cfg. Interrupt when a stage fault latches -/
def R.HLK_CTRL.FAULT_IRQ_EN : Fld := { bank := .lane, addr := 0x40080000, lo := 0, w := 1, acc := .rw }
/-- R246 [1] RW, cfg. Interrupt when any HLG_OK clears -/
def R.HLK_CTRL.HLG_IRQ_EN : Fld := { bank := .lane, addr := 0x40080000, lo := 1, w := 1, acc := .rw }
/-- R246 [2] RW, cfg. Interrupt when a training ends -/
def R.HLK_CTRL.TRAIN_IRQ_EN : Fld := { bank := .lane, addr := 0x40080000, lo := 2, w := 1, acc := .rw }
/-- R246 [7:0] RO, 0. Groups holding a latched stage fault -/
def R.HLK_STATUS.GROUP_LATCHED : Fld := { bank := .lane, addr := 0x40080004, lo := 0, w := 8, acc := .ro }
/-- R246 [15:8] RO, 0. Present level of HEN0–HEN7 -/
def R.HLK_STATUS.HEN_LEVEL : Fld := { bank := .lane, addr := 0x40080004, lo := 8, w := 8, acc := .ro }
/-- R246 [16] RO, 0. Every enabled link in run -/
def R.HLK_STATUS.LINKS_RUN : Fld := { bank := .lane, addr := 0x40080004, lo := 16, w := 1, acc := .ro }
/-- R246 [17] RO, 0. Lane that trained: 0 A, 1 B -/
def R.HLK_STATUS.OWNER : Fld := { bank := .lane, addr := 0x40080004, lo := 17, w := 1, acc := .ro }
/-- R246 [18] RO, 0. Deputy record valid under R239 -/
def R.HLK_STATUS.RECORD_VALID : Fld := { bank := .lane, addr := 0x40080004, lo := 18, w := 1, acc := .ro }
/-- R246 [0] WT, 0. Starts a training under R239 -/
def R.HLK_TRAIN_CMD.START : Fld := { bank := .lane, addr := 0x40080008, lo := 0, w := 1, acc := .wt }
/-- R246 [1] WT, 0. Ends the training under R240 -/
def R.HLK_TRAIN_CMD.ABORT : Fld := { bank := .lane, addr := 0x40080008, lo := 1, w := 1, acc := .wt }
/-- R246 [0] RO, 0. Training in progress -/
def R.HLK_TRAIN_STATUS.BUSY : Fld := { bank := .lane, addr := 0x4008000C, lo := 0, w := 1, acc := .ro }
/-- R246 [3:1] RO, 0. 0 pass, 1 refused, 2 no answer, 3 echo differs, 4 pattern not seen, 5 compare mismatch, 6 aborted -/
def R.HLK_TRAIN_STATUS.RESULT : Fld := { bank := .lane, addr := 0x4008000C, lo := 1, w := 3, acc := .ro }
/-- R246 [13:8] RO, 0. First failing link -/
def R.HLK_TRAIN_STATUS.LINK : Fld := { bank := .lane, addr := 0x4008000C, lo := 8, w := 6, acc := .ro }
/-- R246 [31:24] RO, 0. Frames resent in the last training, excluding start-up repeats of SET_SC, saturating -/
def R.HLK_TRAIN_STATUS.RESENDS : Fld := { bank := .lane, addr := 0x4008000C, lo := 24, w := 8, acc := .ro }
/-- R246 [5:0] RO, 0. Link of the last latched fault -/
def R.HLK_LAST_FAULT.LINK : Fld := { bank := .lane, addr := 0x40080010, lo := 0, w := 6, acc := .ro }
/-- R246 [10:8] RO, 0. 1 SC, 2 GATE, 3 STAT_LOSS, 4 HLG, 5 SUPPLY, 6 LOSS -/
def R.HLK_LAST_FAULT.CAUSE : Fld := { bank := .lane, addr := 0x40080010, lo := 8, w := 3, acc := .ro }
/-- R246 [31:0] RO, 0. Lane time bits [31:0] of the latch -/
def R.HLK_LAST_FAULT_TIME.TIME : Fld := { bank := .lane, addr := 0x40080014, lo := 0, w := 32, acc := .ro }
/-- R246 [15:0] RC, 0. Latched faults, saturating -/
def R.HLK_FAULT_CNT.LATCHED : Fld := { bank := .lane, addr := 0x40080018, lo := 0, w := 16, acc := .rc }
/-- R246 [31:16] RC, 0. Clears under R236, saturating -/
def R.HLK_FAULT_CNT.CLEARS : Fld := { bank := .lane, addr := 0x40080018, lo := 16, w := 16, acc := .rc }
/-- R246 [0] RWS, cfg. Safe action: 0 all-off, 1 low-side active short circuit -/
def R.HLK_GRPg_CFG.SAFE : Fld := { bank := .lane, addr := 0x40080040, s1 := 0x4, n1 := 8, lo := 0, w := 1, acc := .rws }
/-- R246 [1] RWS, cfg. Event on Q09 when the group latches -/
def R.HLK_GRPg_CFG.LOG_EN : Fld := { bank := .lane, addr := 0x40080040, s1 := 0x4, n1 := 8, lo := 1, w := 1, acc := .rws }
/-- R246 [0] RWS, cfg. Leg in use -/
def R.HLK_LEGm_CFG.EN : Fld := { bank := .lane, addr := 0x40080080, s1 := 0x4, n1 := 20, lo := 0, w := 1, acc := .rws }
/-- R246 [6:1] RWS, cfg. High-side link, 0 to 39 -/
def R.HLK_LEGm_CFG.HI : Fld := { bank := .lane, addr := 0x40080080, s1 := 0x4, n1 := 20, lo := 1, w := 6, acc := .rws }
/-- R246 [12:7] RWS, cfg. Low-side link, 0 to 39 -/
def R.HLK_LEGm_CFG.LO : Fld := { bank := .lane, addr := 0x40080080, s1 := 0x4, n1 := 20, lo := 7, w := 6, acc := .rws }
/-- R246 [18:13] RWS, cfg. Confirmation, 20 ns units -/
def R.HLK_LEGm_CFG.T_CONF : Fld := { bank := .lane, addr := 0x40080080, s1 := 0x4, n1 := 20, lo := 13, w := 6, acc := .rws }
/-- R246 [28:19] RWS, cfg. Maximum wait, 20 ns units. 0 acts as 1 -/
def R.HLK_LEGm_CFG.T_WAIT : Fld := { bank := .lane, addr := 0x40080080, s1 := 0x4, n1 := 20, lo := 19, w := 10, acc := .rws }
/-- R246 [0] RWS, cfg. Link in use -/
def R.HLK_LINKnn_CFG.EN : Fld := { bank := .lane, addr := 0x40080200, s1 := 0x20, n1 := 40, lo := 0, w := 1, acc := .rws }
/-- R246 [3:1] RWS, cfg. HEN group -/
def R.HLK_LINKnn_CFG.GROUP : Fld := { bank := .lane, addr := 0x40080200, s1 := 0x20, n1 := 40, lo := 1, w := 3, acc := .rws }
/-- R246 [4] RWS, cfg. 0 high side, 1 low side -/
def R.HLK_LINKnn_CFG.ROLE : Fld := { bank := .lane, addr := 0x40080200, s1 := 0x20, n1 := 40, lo := 4, w := 1, acc := .rws }
/-- R246 [5] RWS, cfg. 0 all-off, 1 low-side active short circuit -/
def R.HLK_LINKnn_CFG.LOSS_ACT : Fld := { bank := .lane, addr := 0x40080200, s1 := 0x20, n1 := 40, lo := 5, w := 1, acc := .rws }
/-- R246 [15:0] RWS, cfg. Short-circuit threshold, mV -/
def R.HLK_LINKnn_SC.VTH : Fld := { bank := .lane, addr := 0x40080204, s1 := 0x20, n1 := 40, lo := 0, w := 16, acc := .rws }
/-- R246 [23:16] RWS, cfg. Filter time, 10 ns -/
def R.HLK_LINKnn_SC.FILT : Fld := { bank := .lane, addr := 0x40080204, s1 := 0x20, n1 := 40, lo := 16, w := 8, acc := .rws }
/-- R246 [31:24] RWS, cfg. Soft turn-off time, 10 ns -/
def R.HLK_LINKnn_SC.SOFT : Fld := { bank := .lane, addr := 0x40080204, s1 := 0x20, n1 := 40, lo := 24, w := 8, acc := .rws }
/-- R246 [15:0] RWS, cfg. On-threshold, signed, 10 mV -/
def R.HLK_LINKnn_GATE.VON : Fld := { bank := .lane, addr := 0x40080208, s1 := 0x20, n1 := 40, lo := 0, w := 16, acc := .rws }
/-- R246 [31:16] RWS, cfg. Off-threshold, signed, 10 mV -/
def R.HLK_LINKnn_GATE.VOFF : Fld := { bank := .lane, addr := 0x40080208, s1 := 0x20, n1 := 40, lo := 16, w := 16, acc := .rws }
/-- R246 [1:0] RO, 0. Decoded code: 0 OFF, 1 BETWEEN, 2 ON -/
def R.HLK_LINKnn_STATE.GATE : Fld := { bank := .lane, addr := 0x4008020C, s1 := 0x20, n1 := 40, lo := 0, w := 2, acc := .ro }
/-- R246 [4:2] RO, 0. 0 absent, 1 UNTRAINED, 2 TRAINING, 3 RUN, 4 LOSS -/
def R.HLK_LINKnn_STATE.HEAD : Fld := { bank := .lane, addr := 0x4008020C, s1 := 0x20, n1 := 40, lo := 2, w := 3, acc := .ro }
/-- R246 [5] RO, 0. Under R231 -/
def R.HLK_LINKnn_STATE.HLG_OK : Fld := { bank := .lane, addr := 0x4008020C, s1 := 0x20, n1 := 40, lo := 5, w := 1, acc := .ro }
/-- R246 [6] RO, 0. From STATUS -/
def R.HLK_LINKnn_STATE.TRAINED : Fld := { bank := .lane, addr := 0x4008020C, s1 := 0x20, n1 := 40, lo := 6, w := 1, acc := .ro }
/-- R246 [7] RO, 0. Stage fault latched -/
def R.HLK_LINKnn_STATE.LATCHED : Fld := { bank := .lane, addr := 0x4008020C, s1 := 0x20, n1 := 40, lo := 7, w := 1, acc := .ro }
/-- R246 [13:8] RO, 0. One bit per cause, in the order of HLK_LAST_FAULT.CAUSE -/
def R.HLK_LINKnn_STATE.CAUSE : Fld := { bank := .lane, addr := 0x4008020C, s1 := 0x20, n1 := 40, lo := 8, w := 6, acc := .ro }
/-- R246 [14] RO, 0. Head temperature warning -/
def R.HLK_LINKnn_STATE.OT : Fld := { bank := .lane, addr := 0x4008020C, s1 := 0x20, n1 := 40, lo := 14, w := 1, acc := .ro }
/-- R246 [15] RO, 0. From STATUS -/
def R.HLK_LINKnn_STATE.VCC_OK : Fld := { bank := .lane, addr := 0x4008020C, s1 := 0x20, n1 := 40, lo := 15, w := 1, acc := .ro }
/-- R246 [16] RO, 0. From STATUS -/
def R.HLK_LINKnn_STATE.VEE_OK : Fld := { bank := .lane, addr := 0x4008020C, s1 := 0x20, n1 := 40, lo := 16, w := 1, acc := .ro }
/-- R246 [23:20] RO, 0. Last STATUS sequence number -/
def R.HLK_LINKnn_STATE.SEQ : Fld := { bank := .lane, addr := 0x4008020C, s1 := 0x20, n1 := 40, lo := 20, w := 4, acc := .ro }
/-- R246 [8:0] RO, 0. Junction temperature, signed, °C -/
def R.HLK_LINKnn_TEMP.TJ : Fld := { bank := .lane, addr := 0x40080210, s1 := 0x20, n1 := 40, lo := 0, w := 9, acc := .ro }
/-- R246 [31:16] RO, 0. µs since the last valid STATUS, saturating -/
def R.HLK_LINKnn_TEMP.AGE : Fld := { bank := .lane, addr := 0x40080210, s1 := 0x20, n1 := 40, lo := 16, w := 16, acc := .ro }
/-- R246 [7:0] RC, 0. Invalid uplink frames, saturating -/
def R.HLK_LINKnn_CNT.CRC_ERR : Fld := { bank := .lane, addr := 0x40080214, s1 := 0x20, n1 := 40, lo := 0, w := 8, acc := .rc }
/-- R246 [15:8] RC, 0. Sequence gaps, saturating -/
def R.HLK_LINKnn_CNT.LOST : Fld := { bank := .lane, addr := 0x40080214, s1 := 0x20, n1 := 40, lo := 8, w := 8, acc := .rc }
/-- R246 [31:16] RC, 0. Turn-ons withheld under R237 and R238, saturating -/
def R.HLK_LINKnn_CNT.WITHHELD : Fld := { bank := .lane, addr := 0x40080214, s1 := 0x20, n1 := 40, lo := 16, w := 16, acc := .rc }
/-- R247 [0] RW, cfg. Interrupt on SHORT or BST_UV -/
def R.PAP_PD_CTRL.FAULT_IRQ_EN : Fld := { bank := .pap, addr := 0x40160400, lo := 0, w := 1, acc := .rw }
/-- R247 [1] RW, cfg. Interrupt on BST_WARN or GATE_ERR -/
def R.PAP_PD_CTRL.WARN_IRQ_EN : Fld := { bank := .pap, addr := 0x40160400, lo := 1, w := 1, acc := .rw }
/-- R247 [15:0] RO, 0. One bit per half-bridge with a latched fault -/
def R.PAP_PD_STATUS.FAULT : Fld := { bank := .pap, addr := 0x40160404, lo := 0, w := 16, acc := .ro }
/-- R247 [16] RO, 0. VGD_x from 10 V to 15 V -/
def R.PAP_PD_STATUS.VGD_OK : Fld := { bank := .pap, addr := 0x40160404, lo := 16, w := 1, acc := .ro }
/-- R247 [17] RO, 0. Under R245 -/
def R.PAP_PD_STATUS.ST13_PASS : Fld := { bank := .pap, addr := 0x40160404, lo := 17, w := 1, acc := .ro }
/-- R247 [0] RW, cfg. Half-bridge in use -/
def R.PAP_HBn_CFG.EN : Fld := { bank := .pap, addr := 0x40160440, s1 := 0x4, n1 := 16, lo := 0, w := 1, acc := .rw }
/-- R247 [1] RW, cfg. 0 hold, 1 refresh -/
def R.PAP_HBn_CFG.MODE : Fld := { bank := .pap, addr := 0x40160440, s1 := 0x4, n1 := 16, lo := 1, w := 1, acc := .rw }
/-- R247 [2] RW, cfg. Trickle pump -/
def R.PAP_HBn_CFG.PUMP_EN : Fld := { bank := .pap, addr := 0x40160440, s1 := 0x4, n1 := 16, lo := 2, w := 1, acc := .rw }
/-- R247 [3] RW, cfg. Under R242 -/
def R.PAP_HBn_CFG.SHORT_EN : Fld := { bank := .pap, addr := 0x40160440, s1 := 0x4, n1 := 16, lo := 3, w := 1, acc := .rw }
/-- R247 [7:4] RW, cfg. On-threshold 4.0 V + 0.5 V × VON -/
def R.PAP_HBn_CFG.VON : Fld := { bank := .pap, addr := 0x40160440, s1 := 0x4, n1 := 16, lo := 4, w := 4, acc := .rw }
/-- R247 [11:8] RW, cfg. Off-threshold 0.5 V + 0.25 V × VOFF -/
def R.PAP_HBn_CFG.VOFF : Fld := { bank := .pap, addr := 0x40160440, s1 := 0x4, n1 := 16, lo := 8, w := 4, acc := .rw }
/-- R247 [17:12] RW, cfg. 10 ns units -/
def R.PAP_HBn_CFG.T_CONF : Fld := { bank := .pap, addr := 0x40160440, s1 := 0x4, n1 := 16, lo := 12, w := 6, acc := .rw }
/-- R247 [27:18] RW, cfg. 10 ns units. 0 acts as 1 -/
def R.PAP_HBn_CFG.T_WAIT : Fld := { bank := .pap, addr := 0x40160440, s1 := 0x4, n1 := 16, lo := 18, w := 10, acc := .rw }
/-- R247 [13:0] RW, cfg. Slope threshold, LSB over K results -/
def R.PAP_HBn_SHORT.THR : Fld := { bank := .pap, addr := 0x40160480, s1 := 0x4, n1 := 16, lo := 0, w := 14, acc := .rw }
/-- R247 [15:14] RW, cfg. K = 1, 2, 4 or 8 -/
def R.PAP_HBn_SHORT.KSEL : Fld := { bank := .pap, addr := 0x40160480, s1 := 0x4, n1 := 16, lo := 14, w := 2, acc := .rw }
/-- R247 [16] RW, cfg. 1 either direction, 0 rising only -/
def R.PAP_HBn_SHORT.ABS : Fld := { bank := .pap, addr := 0x40160480, s1 := 0x4, n1 := 16, lo := 16, w := 1, acc := .rw }
/-- R247 [22:17] RW, cfg. Channel code -/
def R.PAP_HBn_SHORT.SHUNT_CH : Fld := { bank := .pap, addr := 0x40160480, s1 := 0x4, n1 := 16, lo := 17, w := 6, acc := .rw }
/-- R247 [31:24] RW, cfg. 10 ns units -/
def R.PAP_HBn_SHORT.BLANK : Fld := { bank := .pap, addr := 0x40160480, s1 := 0x4, n1 := 16, lo := 24, w := 8, acc := .rw }
/-- R247 [0] RO, 0. GH above VON -/
def R.PAP_HBn_STATUS.GH_ON : Fld := { bank := .pap, addr := 0x401604C0, s1 := 0x4, n1 := 16, lo := 0, w := 1, acc := .ro }
/-- R247 [1] RO, 0. GL above VON -/
def R.PAP_HBn_STATUS.GL_ON : Fld := { bank := .pap, addr := 0x401604C0, s1 := 0x4, n1 := 16, lo := 1, w := 1, acc := .ro }
/-- R247 [2] RO, 0. Bootstrap below 8.0 V -/
def R.PAP_HBn_STATUS.BST_LOW : Fld := { bank := .pap, addr := 0x401604C0, s1 := 0x4, n1 := 16, lo := 2, w := 1, acc := .ro }
/-- R247 [3] W1C, 0. Under R243 and R244 -/
def R.PAP_HBn_STATUS.BST_UV : Fld := { bank := .pap, addr := 0x401604C0, s1 := 0x4, n1 := 16, lo := 3, w := 1, acc := .w1c }
/-- R247 [4] W1C, 0. Under R242 and R244 -/
def R.PAP_HBn_STATUS.SHORT : Fld := { bank := .pap, addr := 0x401604C0, s1 := 0x4, n1 := 16, lo := 4, w := 1, acc := .w1c }
/-- R247 [5] W1C, 0. Under R241 -/
def R.PAP_HBn_STATUS.GATE_ERR : Fld := { bank := .pap, addr := 0x401604C0, s1 := 0x4, n1 := 16, lo := 5, w := 1, acc := .w1c }
/-- R247 [6] W1C, 0. Under R243 -/
def R.PAP_HBn_STATUS.BST_WARN : Fld := { bank := .pap, addr := 0x401604C0, s1 := 0x4, n1 := 16, lo := 6, w := 1, acc := .w1c }
/-- R247 [7] W1C, 0. Under R244 -/
def R.PAP_HBn_STATUS.CLR_REFUSED : Fld := { bank := .pap, addr := 0x401604C0, s1 := 0x4, n1 := 16, lo := 7, w := 1, acc := .w1c }
/-- R247 [7:0] RO, 0. Bootstrap, 0.1 V, every 10 µs -/
def R.PAP_HBn_MEAS.BST : Fld := { bank := .pap, addr := 0x40160500, s1 := 0x4, n1 := 16, lo := 0, w := 8, acc := .ro }
/-- R247 [15:8] RO, 0. GH_xnn − SH_xnn, 0.1 V -/
def R.PAP_HBn_MEAS.VGH : Fld := { bank := .pap, addr := 0x40160500, s1 := 0x4, n1 := 16, lo := 8, w := 8, acc := .ro }
/-- R247 [23:16] RO, 0. GL_xnn − VSS, 0.1 V -/
def R.PAP_HBn_MEAS.VGL : Fld := { bank := .pap, addr := 0x40160500, s1 := 0x4, n1 := 16, lo := 16, w := 8, acc := .ro }
/-- R247 [7:0] RC, 0. Refresh pulses, saturating -/
def R.PAP_HBn_CNT.REFRESH : Fld := { bank := .pap, addr := 0x40160540, s1 := 0x4, n1 := 16, lo := 0, w := 8, acc := .rc }
/-- R247 [15:8] RC, 0. Refresh pulses ended early, saturating -/
def R.PAP_HBn_CNT.REFRESH_SKIP : Fld := { bank := .pap, addr := 0x40160540, s1 := 0x4, n1 := 16, lo := 8, w := 8, acc := .rc }
/-- R247 [23:16] RC, 0. Withheld turn-ons, saturating -/
def R.PAP_HBn_CNT.WITHHELD : Fld := { bank := .pap, addr := 0x40160540, s1 := 0x4, n1 := 16, lo := 16, w := 8, acc := .rc }
/-- R247 [31:24] RC, 0. Gate errors, saturating -/
def R.PAP_HBn_CNT.GATE_ERR : Fld := { bank := .pap, addr := 0x40160540, s1 := 0x4, n1 := 16, lo := 24, w := 8, acc := .rc }
/-- R268 [0] RW, cfg. Interrupt on entry to ASC, OFF or NONE -/
def R.MOT_CTRL.LOSS_IRQ_EN : Fld := { bank := .lane, addr := 0x40090000, lo := 0, w := 1, acc := .rw }
/-- R268 [1] RW, cfg. Interrupt on a region change -/
def R.MOT_CTRL.REGION_IRQ_EN : Fld := { bank := .lane, addr := 0x40090000, lo := 1, w := 1, acc := .rw }
/-- R268 [2] RW, cfg. Interrupt on a back-EMF state change -/
def R.MOT_CTRL.KE_IRQ_EN : Fld := { bank := .lane, addr := 0x40090000, lo := 2, w := 1, acc := .rw }
/-- R268 [3] RW, cfg. Interrupt when XCHK sets -/
def R.MOT_CTRL.XCHK_IRQ_EN : Fld := { bank := .lane, addr := 0x40090000, lo := 3, w := 1, acc := .rw }
/-- R268 [4] RW, cfg. Region changes queued on Q09 -/
def R.MOT_CTRL.LOG_EN : Fld := { bank := .lane, addr := 0x40090000, lo := 4, w := 1, acc := .rw }
/-- R268 [1:0] RO, 0. One bit per machine accepting torque -/
def R.MOT_STATUS.TORQUE_OK : Fld := { bank := .lane, addr := 0x40090004, lo := 0, w := 2, acc := .ro }
/-- R268 [3:2] RO, 0. One bit per machine in SIX -/
def R.MOT_STATUS.SIX : Fld := { bank := .lane, addr := 0x40090004, lo := 2, w := 2, acc := .ro }
/-- R268 [11:8] RO, 0. One bit per curve that is on -/
def R.MOT_STATUS.CURVE_ON : Fld := { bank := .lane, addr := 0x40090004, lo := 8, w := 4, acc := .ro }
/-- R268 [15:0] RC, 0. Events queued on Q09, saturating -/
def R.MOT_EVT_CNT.COUNT : Fld := { bank := .lane, addr := 0x40090008, lo := 0, w := 16, acc := .rc }
/-- R268 [31:16] RC, 0. Events refused by the tally, saturating -/
def R.MOT_EVT_CNT.DROPPED : Fld := { bank := .lane, addr := 0x40090008, lo := 16, w := 16, acc := .rc }
/-- R268 [0] RW, cfg. Enables the machine -/
def R.MOT_Mm_CFG.EN : Fld := { bank := .lane, addr := 0x40090100, s1 := 0x100, n1 := 2, lo := 0, w := 1, acc := .rw }
/-- R268 [1] RW, cfg. 0 resolver preferred, 1 observer preferred -/
def R.MOT_Mm_CFG.PREF : Fld := { bank := .lane, addr := 0x40090100, s1 := 0x100, n1 := 2, lo := 1, w := 1, acc := .rw }
/-- R268 [2] RW, cfg. Resolver fitted -/
def R.MOT_Mm_CFG.RES_EN : Fld := { bank := .lane, addr := 0x40090100, s1 := 0x100, n1 := 2, lo := 2, w := 1, acc := .rw }
/-- R268 [3] RW, cfg. Resolver channel -/
def R.MOT_Mm_CFG.RES_CH : Fld := { bank := .lane, addr := 0x40090100, s1 := 0x100, n1 := 2, lo := 3, w := 1, acc := .rw }
/-- R268 [4] RW, cfg. Pulse injection permitted -/
def R.MOT_Mm_CFG.INJ_EN : Fld := { bank := .lane, addr := 0x40090100, s1 := 0x100, n1 := 2, lo := 4, w := 1, acc := .rw }
/-- R268 [8:5] RW, cfg. Pole pairs, 1 to 15. 0 sets CFG_ERR -/
def R.MOT_Mm_CFG.PP : Fld := { bank := .lane, addr := 0x40090100, s1 := 0x100, n1 := 2, lo := 5, w := 4, acc := .rw }
/-- R268 [11:9] RW, cfg. Machine to resolver pole-pair ratio, 1 to 7. 0 acts as 1 -/
def R.MOT_Mm_CFG.RES_RATIO : Fld := { bank := .lane, addr := 0x40090100, s1 := 0x100, n1 := 2, lo := 9, w := 3, acc := .rw }
/-- R268 [15:12] RW, cfg. All-off trip group under R262 -/
def R.MOT_Mm_CFG.TG : Fld := { bank := .lane, addr := 0x40090100, s1 := 0x100, n1 := 2, lo := 12, w := 4, acc := .rw }
/-- R268 [4:0] RW, cfg. Band slot of phase U -/
def R.MOT_Mm_SLOTS.BU : Fld := { bank := .lane, addr := 0x40090104, s1 := 0x100, n1 := 2, lo := 0, w := 5, acc := .rw }
/-- R268 [12:8] RW, cfg. Band slot of phase V -/
def R.MOT_Mm_SLOTS.BV : Fld := { bank := .lane, addr := 0x40090104, s1 := 0x100, n1 := 2, lo := 8, w := 5, acc := .rw }
/-- R268 [20:16] RW, cfg. Band slot of phase W. Slots not distinct set CFG_ERR -/
def R.MOT_Mm_SLOTS.BW : Fld := { bank := .lane, addr := 0x40090104, s1 := 0x100, n1 := 2, lo := 16, w := 5, acc := .rw }
/-- R268 [5:0] RW, cfg. Current channel of phase U -/
def R.MOT_Mm_CHAN.CHU : Fld := { bank := .lane, addr := 0x40090108, s1 := 0x100, n1 := 2, lo := 0, w := 6, acc := .rw }
/-- R268 [13:8] RW, cfg. Current channel of phase V -/
def R.MOT_Mm_CHAN.CHV : Fld := { bank := .lane, addr := 0x40090108, s1 := 0x100, n1 := 2, lo := 8, w := 6, acc := .rw }
/-- R268 [21:16] RW, cfg. Current channel of phase W -/
def R.MOT_Mm_CHAN.CHW : Fld := { bank := .lane, addr := 0x40090108, s1 := 0x100, n1 := 2, lo := 16, w := 6, acc := .rw }
/-- R268 [31:24] RW, cfg. DC-link voltage source under R173 -/
def R.MOT_Mm_CHAN.VDC_SRC : Fld := { bank := .lane, addr := 0x40090108, s1 := 0x100, n1 := 2, lo := 24, w := 8, acc := .rw }
/-- R268 [31:0] RW, cfg. Angle offset -/
def R.MOT_Mm_RES_OFS.OFS : Fld := { bank := .lane, addr := 0x4009010C, s1 := 0x100, n1 := 2, lo := 0, w := 32, acc := .rw }
/-- R268 [15:0] RW, cfg. A at 1.0 per unit -/
def R.MOT_Mm_BASE.I_BASE : Fld := { bank := .lane, addr := 0x40090110, s1 := 0x100, n1 := 2, lo := 0, w := 16, acc := .rw }
/-- R268 [31:16] RW, cfg. V at 1.0 per unit -/
def R.MOT_Mm_BASE.V_BASE : Fld := { bank := .lane, addr := 0x40090110, s1 := 0x100, n1 := 2, lo := 16, w := 16, acc := .rw }
/-- R268 [15:0] RW, cfg. Electrical Hz at 1.0 per unit. 0 acts as 1 -/
def R.MOT_Mm_SPD.FE_BASE : Fld := { bank := .lane, addr := 0x40090114, s1 := 0x100, n1 := 2, lo := 0, w := 16, acc := .rw }
/-- R268 [31:16] RW, cfg. Crossover speed, electrical Hz -/
def R.MOT_Mm_SPD.XOVER : Fld := { bank := .lane, addr := 0x40090114, s1 := 0x100, n1 := 2, lo := 16, w := 16, acc := .rw }
/-- R268 [15:0] RW, cfg. Nominal magnet flux, 10 µWb. 0 sets CFG_ERR -/
def R.MOT_Mm_PSI.PSI_NOM : Fld := { bank := .lane, addr := 0x40090118, s1 := 0x100, n1 := 2, lo := 0, w := 16, acc := .rw }
/-- R268 [31:16] RW, cfg. Phase resistance, 10 µΩ -/
def R.MOT_Mm_PSI.RS : Fld := { bank := .lane, addr := 0x40090118, s1 := 0x100, n1 := 2, lo := 16, w := 16, acc := .rw }
/-- R268 [15:0] RW, cfg. d inductance, 0.1 µH. 0 sets CFG_ERR -/
def R.MOT_Mm_IND.LD : Fld := { bank := .lane, addr := 0x4009011C, s1 := 0x100, n1 := 2, lo := 0, w := 16, acc := .rw }
/-- R268 [31:16] RW, cfg. q inductance, 0.1 µH. 0 sets CFG_ERR -/
def R.MOT_Mm_IND.LQ : Fld := { bank := .lane, addr := 0x4009011C, s1 := 0x100, n1 := 2, lo := 16, w := 16, acc := .rw }
/-- R268 [15:0] RW, cfg. Current limit, A -/
def R.MOT_Mm_LIMIT.I_LIM : Fld := { bank := .lane, addr := 0x40090120, s1 := 0x100, n1 := 2, lo := 0, w := 16, acc := .rw }
/-- R268 [31:16] RW, cfg. Field-weakening current limit, A -/
def R.MOT_Mm_LIMIT.ID_MAX : Fld := { bank := .lane, addr := 0x40090120, s1 := 0x100, n1 := 2, lo := 16, w := 16, acc := .rw }
/-- R268 [15:0] RW, cfg. N·m at 1.0 per unit -/
def R.MOT_Mm_TRQ.T_BASE : Fld := { bank := .lane, addr := 0x40090124, s1 := 0x100, n1 := 2, lo := 0, w := 16, acc := .rw }
/-- R268 [23:16] RW, cfg. Request source. 0x00 is MOT_Mm_TREQ -/
def R.MOT_Mm_TRQ.TSRC : Fld := { bank := .lane, addr := 0x40090124, s1 := 0x100, n1 := 2, lo := 16, w := 8, acc := .rw }
/-- R268 [31:0] RW, 0. Torque request, signal format -/
def R.MOT_Mm_TREQ.T : Fld := { bank := .lane, addr := 0x40090128, s1 := 0x100, n1 := 2, lo := 0, w := 32, acc := .rw }
/-- R268 [7:0] RW, cfg. t_sat in µs. 0 acts as 1 -/
def R.MOT_Mm_REGION.TSAT : Fld := { bank := .lane, addr := 0x4009012C, s1 := 0x100, n1 := 2, lo := 0, w := 8, acc := .rw }
/-- R268 [31:16] RW, cfg. Flux band half-width, 2^−16 per unit -/
def R.MOT_Mm_REGION.H_FLUX : Fld := { bank := .lane, addr := 0x4009012C, s1 := 0x100, n1 := 2, lo := 16, w := 16, acc := .rw }
/-- R268 [15:0] RW, cfg. A per unit of m per cycle -/
def R.MOT_Mm_FW.KFW : Fld := { bank := .lane, addr := 0x40090130, s1 := 0x100, n1 := 2, lo := 0, w := 16, acc := .rw }
/-- R268 [25:16] RW, cfg. Field-weakening target, 1/1,000. From 800 to 930, clamped -/
def R.MOT_Mm_FW.M_FW : Fld := { bank := .lane, addr := 0x40090130, s1 := 0x100, n1 := 2, lo := 16, w := 10, acc := .rw }
/-- R268 [15:0] RW, cfg. Load-angle gain under R259 -/
def R.MOT_Mm_SIX.KI : Fld := { bank := .lane, addr := 0x40090134, s1 := 0x100, n1 := 2, lo := 0, w := 16, acc := .rw }
/-- R268 [23:16] RW, cfg. 1/256 turn, from 1 to 64, clamped -/
def R.MOT_Mm_SIX.DMAX : Fld := { bank := .lane, addr := 0x40090134, s1 := 0x100, n1 := 2, lo := 16, w := 8, acc := .rw }
/-- R268 [15:0] RW, cfg. Electrical Hz -/
def R.MOT_Mm_OBS.MIN_SPEED : Fld := { bank := .lane, addr := 0x40090138, s1 := 0x100, n1 := 2, lo := 0, w := 16, acc := .rw }
/-- R268 [23:16] RW, cfg. 1/256 -/
def R.MOT_Mm_OBS.CONF_MIN : Fld := { bank := .lane, addr := 0x40090138, s1 := 0x100, n1 := 2, lo := 16, w := 8, acc := .rw }
/-- R268 [31:24] RW, cfg. Residual scale, 4 A. 0 acts as 1 -/
def R.MOT_Mm_OBS.IRES : Fld := { bank := .lane, addr := 0x40090138, s1 := 0x100, n1 := 2, lo := 24, w := 8, acc := .rw }
/-- R268 [7:0] RW, cfg. 1/256 turn -/
def R.MOT_Mm_XCHK.ANG : Fld := { bank := .lane, addr := 0x4009013C, s1 := 0x100, n1 := 2, lo := 0, w := 8, acc := .rw }
/-- R268 [15:8] RW, cfg. Updates. 0 acts as 1 -/
def R.MOT_Mm_XCHK.CNT : Fld := { bank := .lane, addr := 0x4009013C, s1 := 0x100, n1 := 2, lo := 8, w := 8, acc := .rw }
/-- R268 [23:16] RW, cfg. ms. 0 acts as 1 -/
def R.MOT_Mm_XCHK.TIME : Fld := { bank := .lane, addr := 0x4009013C, s1 := 0x100, n1 := 2, lo := 16, w := 8, acc := .rw }
/-- R268 [31:24] RW, cfg. k_xchk, 1/256 -/
def R.MOT_Mm_XCHK.LIM : Fld := { bank := .lane, addr := 0x4009013C, s1 := 0x100, n1 := 2, lo := 24, w := 8, acc := .rw }
/-- R268 [7:0] RW, cfg. A -/
def R.MOT_Mm_CATCH.I_ZERO : Fld := { bank := .lane, addr := 0x40090140, s1 := 0x100, n1 := 2, lo := 0, w := 8, acc := .rw }
/-- R268 [15:8] RW, cfg. 0.1 A -/
def R.MOT_Mm_CATCH.I_MIN : Fld := { bank := .lane, addr := 0x40090140, s1 := 0x100, n1 := 2, lo := 8, w := 8, acc := .rw }
/-- R268 [23:16] RW, cfg. 0.1 µs, from 5 to 200, clamped -/
def R.MOT_Mm_CATCH.T_PULSE : Fld := { bank := .lane, addr := 0x40090140, s1 := 0x100, n1 := 2, lo := 16, w := 8, acc := .rw }
/-- R268 [31:24] RW, cfg. 10 µs. 0 acts as 1 -/
def R.MOT_Mm_CATCH.T_PP : Fld := { bank := .lane, addr := 0x40090140, s1 := 0x100, n1 := 2, lo := 24, w := 8, acc := .rw }
/-- R268 [7:0] RW, cfg. µs, from 5 to 100, clamped -/
def R.MOT_Mm_INJ.T_INJ : Fld := { bank := .lane, addr := 0x40090144, s1 := 0x100, n1 := 2, lo := 0, w := 8, acc := .rw }
/-- R268 [15:8] RW, cfg. A -/
def R.MOT_Mm_INJ.SAL_MIN : Fld := { bank := .lane, addr := 0x40090144, s1 := 0x100, n1 := 2, lo := 8, w := 8, acc := .rw }
/-- R268 [15:0] RW, cfg. Electrical Hz -/
def R.MOT_Mm_KE.MIN_SPEED : Fld := { bank := .lane, addr := 0x40090148, s1 := 0x100, n1 := 2, lo := 0, w := 16, acc := .rw }
/-- R268 [23:16] RW, cfg. k_ke in DERATE, 1/256 -/
def R.MOT_Mm_KE.DERATE : Fld := { bank := .lane, addr := 0x40090148, s1 := 0x100, n1 := 2, lo := 16, w := 8, acc := .rw }
/-- R268 [31:24] RW, cfg. k_ke in RESTRICT, 1/256 -/
def R.MOT_Mm_KE.RESTRICT : Fld := { bank := .lane, addr := 0x40090148, s1 := 0x100, n1 := 2, lo := 24, w := 8, acc := .rw }
/-- R268 [0] WT, 0. Leaves NONE under R261 -/
def R.MOT_Mm_CMD.RECATCH : Fld := { bank := .lane, addr := 0x4009014C, s1 := 0x100, n1 := 2, lo := 0, w := 1, acc := .wt }
/-- R268 [1:0] RO, 0. 0 CURRENT, 1 VECTOR, 2 SIX -/
def R.MOT_Mm_STATUS.REGION : Fld := { bank := .lane, addr := 0x40090160, s1 := 0x100, n1 := 2, lo := 0, w := 2, acc := .ro }
/-- R268 [4:2] RO, 0. 0 disabled, 1 RESOLVER, 2 OBSERVER, 3 ASC, 4 OFF, 5 CATCH, 6 INJECT, 7 NONE -/
def R.MOT_Mm_STATUS.ANGLE_STATE : Fld := { bank := .lane, addr := 0x40090160, s1 := 0x100, n1 := 2, lo := 2, w := 3, acc := .ro }
/-- R268 [6:5] RO, 0. 0 NORMAL, 1 DERATE, 2 RESTRICT, 3 WRONG -/
def R.MOT_Mm_STATUS.KE_STATE : Fld := { bank := .lane, addr := 0x40090160, s1 := 0x100, n1 := 2, lo := 5, w := 2, acc := .ro }
/-- R268 [7] RO, 0. Torque accepted -/
def R.MOT_Mm_STATUS.TORQUE_OK : Fld := { bank := .lane, addr := 0x40090160, s1 := 0x100, n1 := 2, lo := 7, w := 1, acc := .ro }
/-- R268 [8] RO, 0. Step 5 of R254 acted in the last cycle -/
def R.MOT_Mm_STATUS.I_LIMITED : Fld := { bank := .lane, addr := 0x40090160, s1 := 0x100, n1 := 2, lo := 8, w := 1, acc := .ro }
/-- R268 [9] RO, 0. Under R258 -/
def R.MOT_Mm_STATUS.FW_SAT : Fld := { bank := .lane, addr := 0x40090160, s1 := 0x100, n1 := 2, lo := 9, w := 1, acc := .ro }
/-- R268 [10] RO, 0. Under R259 -/
def R.MOT_Mm_STATUS.DELTA_SAT : Fld := { bank := .lane, addr := 0x40090160, s1 := 0x100, n1 := 2, lo := 10, w := 1, acc := .ro }
/-- R268 [11] RO, 0. Under R263 -/
def R.MOT_Mm_STATUS.RES_DISTRUST : Fld := { bank := .lane, addr := 0x40090160, s1 := 0x100, n1 := 2, lo := 11, w := 1, acc := .ro }
/-- R268 [12] RO, 0. Configuration error -/
def R.MOT_Mm_STATUS.CFG_ERR : Fld := { bank := .lane, addr := 0x40090160, s1 := 0x100, n1 := 2, lo := 12, w := 1, acc := .ro }
/-- R268 [13] RO, 0. Cross-check fault active -/
def R.MOT_Mm_STATUS.XCHK : Fld := { bank := .lane, addr := 0x40090160, s1 := 0x100, n1 := 2, lo := 13, w := 1, acc := .ro }
/-- R268 [16] W1C, 0. Entry to VECTOR on t_sat -/
def R.MOT_Mm_STATUS.TSAT_ENTRY : Fld := { bank := .lane, addr := 0x40090160, s1 := 0x100, n1 := 2, lo := 16, w := 1, acc := .w1c }
/-- R268 [17] W1C, 0. Loss caused by the cross-check -/
def R.MOT_Mm_STATUS.XCHK_EVT : Fld := { bank := .lane, addr := 0x40090160, s1 := 0x100, n1 := 2, lo := 17, w := 1, acc := .w1c }
/-- R268 [18] W1C, 0. Angle lost under R261 -/
def R.MOT_Mm_STATUS.LOSS : Fld := { bank := .lane, addr := 0x40090160, s1 := 0x100, n1 := 2, lo := 18, w := 1, acc := .w1c }
/-- R268 [19] W1C, 0. Under R264 -/
def R.MOT_Mm_STATUS.INJ_FAIL : Fld := { bank := .lane, addr := 0x40090160, s1 := 0x100, n1 := 2, lo := 19, w := 1, acc := .w1c }
/-- R268 [31:0] RO, 0. θ_e -/
def R.MOT_Mm_ANGLE.ANGLE : Fld := { bank := .lane, addr := 0x40090164, s1 := 0x100, n1 := 2, lo := 0, w := 32, acc := .ro }
/-- R268 [31:0] RO, 0. ω_e, signal format -/
def R.MOT_Mm_SPEED.SPEED : Fld := { bank := .lane, addr := 0x40090168, s1 := 0x100, n1 := 2, lo := 0, w := 32, acc := .ro }
/-- R268 [15:0] RO, 0. m, 2^−14, saturating -/
def R.MOT_Mm_MOD.M : Fld := { bank := .lane, addr := 0x4009016C, s1 := 0x100, n1 := 2, lo := 0, w := 16, acc := .ro }
/-- R268 [23:16] RO, 0. Observer confidence, 1/256 -/
def R.MOT_Mm_MOD.CONF : Fld := { bank := .lane, addr := 0x4009016C, s1 := 0x100, n1 := 2, lo := 16, w := 8, acc := .ro }
/-- R268 [15:0] RO, 0. i_d*, signed A -/
def R.MOT_Mm_IDQ_REF.ID : Fld := { bank := .lane, addr := 0x40090170, s1 := 0x100, n1 := 2, lo := 0, w := 16, acc := .ro }
/-- R268 [31:16] RO, 0. i_q*, signed A -/
def R.MOT_Mm_IDQ_REF.IQ : Fld := { bank := .lane, addr := 0x40090170, s1 := 0x100, n1 := 2, lo := 16, w := 16, acc := .ro }
/-- R268 [15:0] RO, 0. Measured i_d, signed A -/
def R.MOT_Mm_IDQ_MEAS.ID : Fld := { bank := .lane, addr := 0x40090174, s1 := 0x100, n1 := 2, lo := 0, w := 16, acc := .ro }
/-- R268 [31:16] RO, 0. Measured i_q, signed A -/
def R.MOT_Mm_IDQ_MEAS.IQ : Fld := { bank := .lane, addr := 0x40090174, s1 := 0x100, n1 := 2, lo := 16, w := 16, acc := .ro }
/-- R268 [15:0] RO, 0. T_est, signed N·m -/
def R.MOT_Mm_TORQUE.T_EST : Fld := { bank := .lane, addr := 0x40090178, s1 := 0x100, n1 := 2, lo := 0, w := 16, acc := .ro }
/-- R268 [31:16] RO, 0. Torque at I_eff, N·m -/
def R.MOT_Mm_TORQUE.T_LIM : Fld := { bank := .lane, addr := 0x40090178, s1 := 0x100, n1 := 2, lo := 16, w := 16, acc := .ro }
/-- R268 [15:0] RO, 0. I_eff, A -/
def R.MOT_Mm_ILIM.I_EFF : Fld := { bank := .lane, addr := 0x4009017C, s1 := 0x100, n1 := 2, lo := 0, w := 16, acc := .ro }
/-- R268 [31:16] RO, 0. I_bound, 0.1 A -/
def R.MOT_Mm_ILIM.BOUND : Fld := { bank := .lane, addr := 0x4009017C, s1 := 0x100, n1 := 2, lo := 16, w := 16, acc := .ro }
/-- R268 [15:0] RO, 0. Last ρ, 2^−15 -/
def R.MOT_Mm_KE_MEAS.RATIO : Fld := { bank := .lane, addr := 0x40090180, s1 := 0x100, n1 := 2, lo := 0, w := 16, acc := .ro }
/-- R268 [31:16] RO, 0. Complete windows, saturating -/
def R.MOT_Mm_KE_MEAS.WINDOWS : Fld := { bank := .lane, addr := 0x40090180, s1 := 0x100, n1 := 2, lo := 16, w := 16, acc := .ro }
/-- R268 [31:0] RO, 0. δ, angle -/
def R.MOT_Mm_DELTA.DELTA : Fld := { bank := .lane, addr := 0x40090184, s1 := 0x100, n1 := 2, lo := 0, w := 32, acc := .ro }
/-- R268 [7:0] RC, 0. Saturating -/
def R.MOT_Mm_CNT.LOSS : Fld := { bank := .lane, addr := 0x40090188, s1 := 0x100, n1 := 2, lo := 0, w := 8, acc := .rc }
/-- R268 [15:8] RC, 0. Saturating -/
def R.MOT_Mm_CNT.CATCH : Fld := { bank := .lane, addr := 0x40090188, s1 := 0x100, n1 := 2, lo := 8, w := 8, acc := .rc }
/-- R268 [23:16] RC, 0. Saturating -/
def R.MOT_Mm_CNT.XCHK : Fld := { bank := .lane, addr := 0x40090188, s1 := 0x100, n1 := 2, lo := 16, w := 8, acc := .rc }
/-- R268 [31:24] RC, 0. Saturating -/
def R.MOT_Mm_CNT.REGION : Fld := { bank := .lane, addr := 0x40090188, s1 := 0x100, n1 := 2, lo := 24, w := 8, acc := .rc }
/-- R268 [15:0] RW, cfg. i_d*, i_q in A -/
def R.MOT_Mm_MTPAj.IQ : Fld := { bank := .lane, addr := 0x40090300, s1 := 0x80, n1 := 2, s2 := 0x4, n2 := 16, lo := 0, w := 16, acc := .rw }
/-- R268 [31:16] RW, cfg. i_d in A, signed -/
def R.MOT_Mm_MTPAj.ID : Fld := { bank := .lane, addr := 0x40090300, s1 := 0x80, n1 := 2, s2 := 0x4, n2 := 16, lo := 16, w := 16, acc := .rw }
/-- R268 [0] RW, cfg. Enables the curve -/
def R.MOT_CCk_CFG.EN : Fld := { bank := .lane, addr := 0x40090400, s1 := 0x20, n1 := 4, lo := 0, w := 1, acc := .rw }
/-- R268 [5:1] RW, cfg. Index of the last point, from 1 to 31 -/
def R.MOT_CCk_CFG.LAST : Fld := { bank := .lane, addr := 0x40090400, s1 := 0x20, n1 := 4, lo := 1, w := 5, acc := .rw }
/-- R268 [15:8] RW, cfg. Input source. 0x00 is MOT_CCk_IN -/
def R.MOT_CCk_CFG.SRC : Fld := { bank := .lane, addr := 0x40090400, s1 := 0x20, n1 := 4, lo := 8, w := 8, acc := .rw }
/-- R268 [31:0] RW, cfg. Turn-on input, signed -/
def R.MOT_CCk_ON.X_ON : Fld := { bank := .lane, addr := 0x40090404, s1 := 0x20, n1 := 4, lo := 0, w := 32, acc := .rw }
/-- R268 [31:0] RW, cfg. Turn-off input, signed -/
def R.MOT_CCk_OFF.X_OFF : Fld := { bank := .lane, addr := 0x40090408, s1 := 0x20, n1 := 4, lo := 0, w := 32, acc := .rw }
/-- R268 [31:0] RW, 0. Firmware input -/
def R.MOT_CCk_IN.IN : Fld := { bank := .lane, addr := 0x4009040C, s1 := 0x20, n1 := 4, lo := 0, w := 32, acc := .rw }
/-- R268 [31:0] RO, 0. Curve output -/
def R.MOT_CCk_OUT.OUT : Fld := { bank := .lane, addr := 0x40090410, s1 := 0x20, n1 := 4, lo := 0, w := 32, acc := .ro }
/-- R268 [0] RO, 0. Curve on -/
def R.MOT_CCk_STATUS.ON : Fld := { bank := .lane, addr := 0x40090414, s1 := 0x20, n1 := 4, lo := 0, w := 1, acc := .ro }
/-- R268 [1] RO, 0. Under R267 -/
def R.MOT_CCk_STATUS.CFG_ERR : Fld := { bank := .lane, addr := 0x40090414, s1 := 0x20, n1 := 4, lo := 1, w := 1, acc := .ro }
/-- R268 [31:0] RW, cfg. Input of point i, signed -/
def R.MOT_CCk_Xi.X : Fld := { bank := .lane, addr := 0x40090800, s1 := 0x100, n1 := 4, s2 := 0x8, n2 := 32, lo := 0, w := 32, acc := .rw }
/-- R268 [31:0] RW, cfg. Output of point i, signed -/
def R.MOT_CCk_Yi.Y : Fld := { bank := .lane, addr := 0x40090804, s1 := 0x100, n1 := 4, s2 := 0x8, n2 := 32, lo := 0, w := 32, acc := .rw }
/-- R289 [0] RW, cfg. Interrupt on any OV event -/
def R.NRG_CTRL.OV_IRQ_EN : Fld := { bank := .lane, addr := 0x400A0000, lo := 0, w := 1, acc := .rw }
/-- R289 [1] RW, cfg. Interrupt when a sequence ends -/
def R.NRG_CTRL.CTR_IRQ_EN : Fld := { bank := .lane, addr := 0x400A0000, lo := 1, w := 1, acc := .rw }
/-- R289 [2] RW, cfg. Interrupt on WELD -/
def R.NRG_CTRL.WELD_IRQ_EN : Fld := { bank := .lane, addr := 0x400A0000, lo := 2, w := 1, acc := .rw }
/-- R289 [3] RW, cfg. Interrupt on GRID_TRIP -/
def R.NRG_CTRL.GRID_IRQ_EN : Fld := { bank := .lane, addr := 0x400A0000, lo := 3, w := 1, acc := .rw }
/-- R289 [4] RW, cfg. OV events and sequence ends queued on Q09 -/
def R.NRG_CTRL.LOG_EN : Fld := { bank := .lane, addr := 0x400A0000, lo := 4, w := 1, acc := .rw }
/-- R289 [0] RO, 0. OV1 comparator on -/
def R.NRG_STATUS.OV1 : Fld := { bank := .lane, addr := 0x400A0004, lo := 0, w := 1, acc := .ro }
/-- R289 [1] RO, 0. OV2 comparator on -/
def R.NRG_STATUS.OV2 : Fld := { bank := .lane, addr := 0x400A0004, lo := 1, w := 1, acc := .ro }
/-- R289 [2] RO, 0. OV3 comparator on -/
def R.NRG_STATUS.OV3 : Fld := { bank := .lane, addr := 0x400A0004, lo := 2, w := 1, acc := .ro }
/-- R289 [3] RO, 0. Regeneration clamp line asserted -/
def R.NRG_STATUS.CLAMP : Fld := { bank := .lane, addr := 0x400A0004, lo := 3, w := 1, acc := .ro }
/-- R289 [4] RO, 0. Under R271 -/
def R.NRG_STATUS.OV_SLOW : Fld := { bank := .lane, addr := 0x400A0004, lo := 4, w := 1, acc := .ro }
/-- R289 [5] RO, 0. MN not tested at the last opening -/
def R.NRG_STATUS.NEG_UNTESTED : Fld := { bank := .lane, addr := 0x400A0004, lo := 5, w := 1, acc := .ro }
/-- R289 [8] W1C, 0. OV1 came on -/
def R.NRG_STATUS.OV1_EVT : Fld := { bank := .lane, addr := 0x400A0004, lo := 8, w := 1, acc := .w1c }
/-- R289 [9] W1C, 0. OV2 came on -/
def R.NRG_STATUS.OV2_EVT : Fld := { bank := .lane, addr := 0x400A0004, lo := 9, w := 1, acc := .w1c }
/-- R289 [10] W1C, 0. OV3 came on -/
def R.NRG_STATUS.OV3_EVT : Fld := { bank := .lane, addr := 0x400A0004, lo := 10, w := 1, acc := .w1c }
/-- R289 [11] W1C, 0. Weld found under R281 -/
def R.NRG_STATUS.WELD : Fld := { bank := .lane, addr := 0x400A0004, lo := 11, w := 1, acc := .w1c }
/-- R289 [12] W1C, 0. Opened above I_OPEN -/
def R.NRG_STATUS.HOT_OPEN : Fld := { bank := .lane, addr := 0x400A0004, lo := 12, w := 1, acc := .w1c }
/-- R289 [13] W1C, 0. Under R288 -/
def R.NRG_STATUS.GRID_TRIP : Fld := { bank := .lane, addr := 0x400A0004, lo := 13, w := 1, acc := .w1c }
/-- R289 [14] RO, 0. Under R270 -/
def R.NRG_STATUS.CFG_ERR : Fld := { bank := .lane, addr := 0x400A0004, lo := 14, w := 1, acc := .ro }
/-- R289 [3:0] RW, cfg. Sigma-delta filter of the fast path -/
def R.NRG_VSRC.LINK_SDF : Fld := { bank := .lane, addr := 0x400A0008, lo := 0, w := 4, acc := .rw }
/-- R289 [12:8] RW, cfg. Slot of the control-path link voltage -/
def R.NRG_VSRC.LINK_SLOT : Fld := { bank := .lane, addr := 0x400A0008, lo := 8, w := 5, acc := .rw }
/-- R289 [20:16] RW, cfg. Slot of the pack voltage -/
def R.NRG_VSRC.PACK_SLOT : Fld := { bank := .lane, addr := 0x400A0008, lo := 16, w := 5, acc := .rw }
/-- R289 [28:24] RW, cfg. Slot of the pack current, charging positive -/
def R.NRG_VSRC.IPACK_SLOT : Fld := { bank := .lane, addr := 0x400A0008, lo := 24, w := 5, acc := .rw }
/-- R289 [15:0] RW, cfg. V at 1.0 per unit -/
def R.NRG_SCALE.V_BASE : Fld := { bank := .lane, addr := 0x400A000C, lo := 0, w := 16, acc := .rw }
/-- R289 [31:16] RW, cfg. V at fast value 32,767 -/
def R.NRG_SCALE.TRIP_FS : Fld := { bank := .lane, addr := 0x400A000C, lo := 16, w := 16, acc := .rw }
/-- R289 [15:0] RW, cfg. V_OV1, 0.1 V -/
def R.NRG_OV1.V : Fld := { bank := .lane, addr := 0x400A0010, lo := 0, w := 16, acc := .rw }
/-- R289 [23:16] RW, cfg. V -/
def R.NRG_OV1.HYST : Fld := { bank := .lane, addr := 0x400A0010, lo := 16, w := 8, acc := .rw }
/-- R289 [31:24] RW, cfg. ms from P_MAX to zero. 0 acts as 1 -/
def R.NRG_OV1.RAMP : Fld := { bank := .lane, addr := 0x400A0010, lo := 24, w := 8, acc := .rw }
/-- R289 [15:0] RWS, cfg. V_OV2, 0.1 V -/
def R.NRG_OV2.V : Fld := { bank := .lane, addr := 0x400A0014, lo := 0, w := 16, acc := .rws }
/-- R289 [23:16] RWS, cfg. V -/
def R.NRG_OV2.HYST : Fld := { bank := .lane, addr := 0x400A0014, lo := 16, w := 8, acc := .rws }
/-- R289 [31:24] RWS, cfg. Hoist groups driven all-off under R273 -/
def R.NRG_OV2.IMPORT_GRP : Fld := { bank := .lane, addr := 0x400A0014, lo := 24, w := 8, acc := .rws }
/-- R289 [15:0] RWS, cfg. V_OV3, 0.1 V -/
def R.NRG_OV3.V : Fld := { bank := .lane, addr := 0x400A0018, lo := 0, w := 16, acc := .rws }
/-- R289 [23:16] RWS, cfg. ms. 0 acts as 1 -/
def R.NRG_OV3.HOLD : Fld := { bank := .lane, addr := 0x400A0018, lo := 16, w := 8, acc := .rws }
/-- R289 [31:24] RWS, cfg. Hoist groups short-circuited under R274 -/
def R.NRG_OV3.ASC_GRP : Fld := { bank := .lane, addr := 0x400A0018, lo := 24, w := 8, acc := .rws }
/-- R289 [7:0] RC, 0. Saturating -/
def R.NRG_OV_CNT.OV1 : Fld := { bank := .lane, addr := 0x400A001C, lo := 0, w := 8, acc := .rc }
/-- R289 [15:8] RC, 0. Saturating -/
def R.NRG_OV_CNT.OV2 : Fld := { bank := .lane, addr := 0x400A001C, lo := 8, w := 8, acc := .rc }
/-- R289 [23:16] RC, 0. Saturating -/
def R.NRG_OV_CNT.OV3 : Fld := { bank := .lane, addr := 0x400A001C, lo := 16, w := 8, acc := .rc }
/-- R289 [31:24] RC, 0. Openings under R274, saturating -/
def R.NRG_OV_CNT.OV3_OPEN : Fld := { bank := .lane, addr := 0x400A001C, lo := 24, w := 8, acc := .rc }
/-- R289 [0] RWS, cfg. Chopper present -/
def R.NRG_CHOP.EN : Fld := { bank := .lane, addr := 0x400A0020, lo := 0, w := 1, acc := .rws }
/-- R289 [6:1] RWS, cfg. Link of leg 0 -/
def R.NRG_CHOP.LEG0 : Fld := { bank := .lane, addr := 0x400A0020, lo := 1, w := 6, acc := .rws }
/-- R289 [12:7] RWS, cfg. Link of leg 1 -/
def R.NRG_CHOP.LEG1 : Fld := { bank := .lane, addr := 0x400A0020, lo := 7, w := 6, acc := .rws }
/-- R289 [13] RWS, cfg. Leg 1 present -/
def R.NRG_CHOP.LEG1_EN : Fld := { bank := .lane, addr := 0x400A0020, lo := 13, w := 1, acc := .rws }
/-- R289 [23:16] RWS, cfg. kW per healthy leg -/
def R.NRG_CHOP.P_LEG : Fld := { bank := .lane, addr := 0x400A0020, lo := 16, w := 8, acc := .rws }
/-- R289 [1:0] RO, 0. One bit per leg -/
def R.NRG_CHOP_STAT.HEALTHY : Fld := { bank := .lane, addr := 0x400A0024, lo := 0, w := 2, acc := .ro }
/-- R289 [3:2] RO, 0. Legs on by Deputy override -/
def R.NRG_CHOP_STAT.FIRED : Fld := { bank := .lane, addr := 0x400A0024, lo := 2, w := 2, acc := .ro }
/-- R289 [4] RO, 0. No healthy leg -/
def R.NRG_CHOP_STAT.FAIL : Fld := { bank := .lane, addr := 0x400A0024, lo := 4, w := 1, acc := .ro }
/-- R289 [15:0] RW, cfg. kW -/
def R.NRG_REGEN.P_MAX : Fld := { bank := .lane, addr := 0x400A0028, lo := 0, w := 16, acc := .rw }
/-- R289 [31:16] RW, cfg. A, under R274 -/
def R.NRG_REGEN.ACC_MIN : Fld := { bank := .lane, addr := 0x400A0028, lo := 16, w := 16, acc := .rw }
/-- R289 [15:0] RW, 0. Battery acceptance in kW, written by firmware -/
def R.NRG_ACCEPT.P_ACC : Fld := { bank := .lane, addr := 0x400A002C, lo := 0, w := 16, acc := .rw }
/-- R289 [15:0] RO, 0. P_lim, kW -/
def R.NRG_REGEN_LIM.P : Fld := { bank := .lane, addr := 0x400A0030, lo := 0, w := 16, acc := .ro }
/-- R289 [16] RO, 0. P_lim differs from its target -/
def R.NRG_REGEN_LIM.RAMPING : Fld := { bank := .lane, addr := 0x400A0030, lo := 16, w := 1, acc := .ro }
/-- R289 [15:0] RW, cfg. Pack current, A at 1.0 per unit -/
def R.NRG_IBASE.I_BASE : Fld := { bank := .lane, addr := 0x400A0034, lo := 0, w := 16, acc := .rw }
/-- R289 [3:0] WT, 0. 1 CLOSE_MAIN, 2 OPEN_MAIN, 3 CLOSE_DC, 4 OPEN_DC, 5 CLOSE_AC, 6 OPEN_AC, 7 WELD_TEST, 8 CLEAR_WELD. Others act as none -/
def R.NRG_CTR_CMD.CMD : Fld := { bank := .lane, addr := 0x400A0040, lo := 0, w := 4, acc := .wt }
/-- R289 [3:0] RO, 0. Last command -/
def R.NRG_CTR_RESULT.LAST_CMD : Fld := { bank := .lane, addr := 0x400A0044, lo := 0, w := 4, acc := .ro }
/-- R289 [4] RO, 0. Sequence running -/
def R.NRG_CTR_RESULT.BUSY : Fld := { bank := .lane, addr := 0x400A0044, lo := 4, w := 1, acc := .ro }
/-- R289 [11:8] RO, 0. 0 DONE, 1 REFUSED_MODE, 2 REFUSED_WELD, 3 NOT_MASTER, 4 PRE_SLOW, 5 PRE_FAST, 6 ABORTED, 7 SAFE_STOP, 8 MISMATCH, 9 WELD_FOUND, 10 DEPUTY, 11 BUSY, 12 CFG_ERR -/
def R.NRG_CTR_RESULT.RESULT : Fld := { bank := .lane, addr := 0x400A0044, lo := 8, w := 4, acc := .ro }
/-- R289 [18:16] RO, 0. Step reached -/
def R.NRG_CTR_RESULT.STEP : Fld := { bank := .lane, addr := 0x400A0044, lo := 16, w := 3, acc := .ro }
/-- R289 [7:0] RW, cfg. %, 80 to 99, clamped -/
def R.NRG_PRE.PCT : Fld := { bank := .lane, addr := 0x400A0048, lo := 0, w := 8, acc := .rw }
/-- R289 [15:8] RW, cfg. ms -/
def R.NRG_PRE.T_MIN : Fld := { bank := .lane, addr := 0x400A0048, lo := 8, w := 8, acc := .rw }
/-- R289 [23:16] RW, cfg. 10 ms. 0 acts as 1 -/
def R.NRG_PRE.T_MAX : Fld := { bank := .lane, addr := 0x400A0048, lo := 16, w := 8, acc := .rw }
/-- R289 [31:24] RW, cfg. ms -/
def R.NRG_PRE.T_OVL : Fld := { bank := .lane, addr := 0x400A0048, lo := 24, w := 8, acc := .rw }
/-- R289 [7:0] RW, cfg. V -/
def R.NRG_WELD.DV : Fld := { bank := .lane, addr := 0x400A004C, lo := 0, w := 8, acc := .rw }
/-- R289 [15:8] RW, cfg. 10 ms. 0 acts as 1 -/
def R.NRG_WELD.T_CHK : Fld := { bank := .lane, addr := 0x400A004C, lo := 8, w := 8, acc := .rw }
/-- R289 [19:16] RW, cfg. PWMX_x 0 to 7, 15 none -/
def R.NRG_WELD.DIS_OUT : Fld := { bank := .lane, addr := 0x400A004C, lo := 16, w := 4, acc := .rw }
/-- R289 [31:24] RW, cfg. V -/
def R.NRG_WELD.V_SAFE : Fld := { bank := .lane, addr := 0x400A004C, lo := 24, w := 8, acc := .rw }
/-- R289 [15:0] RW, cfg. A -/
def R.NRG_OPEN.I_OPEN : Fld := { bank := .lane, addr := 0x400A0050, lo := 0, w := 16, acc := .rw }
/-- R289 [23:16] RW, cfg. ms -/
def R.NRG_OPEN.T_WAIT : Fld := { bank := .lane, addr := 0x400A0050, lo := 16, w := 8, acc := .rw }
/-- R289 [4:0] RW, cfg. Slot of the inlet voltage -/
def R.NRG_DC.INLET_SLOT : Fld := { bank := .lane, addr := 0x400A0054, lo := 0, w := 5, acc := .rw }
/-- R289 [15:8] RW, cfg. V -/
def R.NRG_DC.DV_MATCH : Fld := { bank := .lane, addr := 0x400A0054, lo := 8, w := 8, acc := .rw }
/-- R289 [31:16] RW, cfg. A -/
def R.NRG_DC.I_DC_MAX : Fld := { bank := .lane, addr := 0x400A0054, lo := 16, w := 16, acc := .rw }
/-- R289 [3:0] RWS, cfg. Safe output 0 to 11. Above 11 sets CFG_ERR -/
def R.NRG_CTRc_CFG.SO : Fld := { bank := .lane, addr := 0x400A0100, s1 := 0x10, n1 := 6, lo := 0, w := 4, acc := .rws }
/-- R289 [4] RWS, cfg. Contactor fitted -/
def R.NRG_CTRc_CFG.EN : Fld := { bank := .lane, addr := 0x400A0100, s1 := 0x10, n1 := 6, lo := 4, w := 1, acc := .rws }
/-- R289 [15:8] RWS, cfg. ms -/
def R.NRG_CTRc_CFG.T_PULL : Fld := { bank := .lane, addr := 0x400A0100, s1 := 0x10, n1 := 6, lo := 8, w := 8, acc := .rws }
/-- R289 [23:16] RWS, cfg. ms -/
def R.NRG_CTRc_CFG.T_DROP : Fld := { bank := .lane, addr := 0x400A0100, s1 := 0x10, n1 := 6, lo := 16, w := 8, acc := .rws }
/-- R289 [0] RW, cfg. Economiser -/
def R.NRG_CTRc_ECO.ECO_EN : Fld := { bank := .lane, addr := 0x400A0104, s1 := 0x10, n1 := 6, lo := 0, w := 1, acc := .rw }
/-- R289 [14:8] RW, cfg. %, 10 to 100, clamped -/
def R.NRG_CTRc_ECO.DUTY : Fld := { bank := .lane, addr := 0x400A0104, s1 := 0x10, n1 := 6, lo := 8, w := 7, acc := .rw }
/-- R289 [20:16] RW, cfg. kHz, 1 to 25, clamped -/
def R.NRG_CTRc_ECO.FREQ : Fld := { bank := .lane, addr := 0x400A0104, s1 := 0x10, n1 := 6, lo := 16, w := 5, acc := .rw }
/-- R289 [1:0] RO, 0. 0 OPEN, 1 PULL, 2 HOLD, 3 DROP -/
def R.NRG_CTRc_STATUS.STATE : Fld := { bank := .lane, addr := 0x400A0108, s1 := 0x10, n1 := 6, lo := 0, w := 2, acc := .ro }
/-- R289 [2] RO, 0. SO_FB_k level -/
def R.NRG_CTRc_STATUS.FB : Fld := { bank := .lane, addr := 0x400A0108, s1 := 0x10, n1 := 6, lo := 2, w := 1, acc := .ro }
/-- R289 [3] RO, 0. Deputy weld record -/
def R.NRG_CTRc_STATUS.WELDED : Fld := { bank := .lane, addr := 0x400A0108, s1 := 0x10, n1 := 6, lo := 3, w := 1, acc := .ro }
/-- R289 [4] W1C, 0. Readback disagreed with the command -/
def R.NRG_CTRc_STATUS.FB_ERR : Fld := { bank := .lane, addr := 0x400A0108, s1 := 0x10, n1 := 6, lo := 4, w := 1, acc := .w1c }
/-- R289 [15:0] RC, 0. Saturating -/
def R.NRG_CTRc_CNT.CLOSES : Fld := { bank := .lane, addr := 0x400A010C, s1 := 0x10, n1 := 6, lo := 0, w := 16, acc := .rc }
/-- R289 [31:16] RC, 0. Saturating -/
def R.NRG_CTRc_CNT.HOT_OPENS : Fld := { bank := .lane, addr := 0x400A010C, s1 := 0x10, n1 := 6, lo := 16, w := 16, acc := .rc }
/-- R289 [0] RW, cfg. Converter enabled -/
def R.NRG_HVC_CFG.EN : Fld := { bank := .lane, addr := 0x400A0200, lo := 0, w := 1, acc := .rw }
/-- R289 [3:1] RW, cfg. Timebase -/
def R.NRG_HVC_CFG.TB_LEAD : Fld := { bank := .lane, addr := 0x400A0200, lo := 1, w := 3, acc := .rw }
/-- R289 [6:4] RW, cfg. Timebase -/
def R.NRG_HVC_CFG.TB_LAG : Fld := { bank := .lane, addr := 0x400A0200, lo := 4, w := 3, acc := .rw }
/-- R289 [11:7] RW, cfg. Voltage PI -/
def R.NRG_HVC_CFG.VSLOT : Fld := { bank := .lane, addr := 0x400A0200, lo := 7, w := 5, acc := .rw }
/-- R289 [16:12] RW, cfg. Current PI -/
def R.NRG_HVC_CFG.ISLOT : Fld := { bank := .lane, addr := 0x400A0200, lo := 12, w := 5, acc := .rw }
/-- R289 [21:17] RW, cfg. Setpoint MAC -/
def R.NRG_HVC_CFG.VSET_SLOT : Fld := { bank := .lane, addr := 0x400A0200, lo := 17, w := 5, acc := .rw }
/-- R289 [26:22] RW, cfg. Setpoint MAC -/
def R.NRG_HVC_CFG.ISET_SLOT : Fld := { bank := .lane, addr := 0x400A0200, lo := 22, w := 5, acc := .rw }
/-- R289 [27] RW, cfg. Synchronous rectification permitted -/
def R.NRG_HVC_CFG.SR_EN : Fld := { bank := .lane, addr := 0x400A0200, lo := 27, w := 1, acc := .rw }
/-- R289 [15:0] RW, 0. 2^−16 per unit -/
def R.NRG_HVC_SET.VSET : Fld := { bank := .lane, addr := 0x400A0204, lo := 0, w := 16, acc := .rw }
/-- R289 [31:16] RW, 0. 2^−16 per unit -/
def R.NRG_HVC_SET.ISET : Fld := { bank := .lane, addr := 0x400A0204, lo := 16, w := 16, acc := .rw }
/-- R289 [15:0] RW, cfg. 2^−16 per unit -/
def R.NRG_HVC_SR.SR_ON : Fld := { bank := .lane, addr := 0x400A0208, lo := 0, w := 16, acc := .rw }
/-- R289 [31:16] RW, cfg. 2^−16 per unit, below SR_ON -/
def R.NRG_HVC_SR.SR_OFF : Fld := { bank := .lane, addr := 0x400A0208, lo := 16, w := 16, acc := .rw }
/-- R289 [15:0] RW, cfg. mV/ms. 0 acts as 1 -/
def R.NRG_HVC_SS.SLEW : Fld := { bank := .lane, addr := 0x400A020C, lo := 0, w := 16, acc := .rw }
/-- R289 [1:0] RO, 0. 0 OFF, 1 SOFT, 2 RUN, 3 FAULT -/
def R.NRG_HVC_STATUS.STATE : Fld := { bank := .lane, addr := 0x400A0210, lo := 0, w := 2, acc := .ro }
/-- R289 [2] RO, 0. Rectifiers switching -/
def R.NRG_HVC_STATUS.SR_ON : Fld := { bank := .lane, addr := 0x400A0210, lo := 2, w := 1, acc := .ro }
/-- R289 [3] RO, 0. Slot or timebase invalid -/
def R.NRG_HVC_STATUS.CFG_ERR : Fld := { bank := .lane, addr := 0x400A0210, lo := 3, w := 1, acc := .ro }
/-- R289 [0] RW, cfg. Charger enabled -/
def R.NRG_OBC_CFG.EN : Fld := { bank := .lane, addr := 0x400A0300, lo := 0, w := 1, acc := .rw }
/-- R289 [3:1] RW, cfg. 0 off, 1 import AC, 2 export AC, 3 grid, 4 import DC, 5 export DC -/
def R.NRG_OBC_CFG.FUNC : Fld := { bank := .lane, addr := 0x400A0300, lo := 1, w := 3, acc := .rw }
/-- R289 [6:4] RW, cfg. Timebase -/
def R.NRG_OBC_CFG.TB_DAB_P : Fld := { bank := .lane, addr := 0x400A0300, lo := 4, w := 3, acc := .rw }
/-- R289 [9:7] RW, cfg. Timebase -/
def R.NRG_OBC_CFG.TB_DAB_S : Fld := { bank := .lane, addr := 0x400A0300, lo := 7, w := 3, acc := .rw }
/-- R289 [4:0] RW, cfg. Dual-active-bridge slot -/
def R.NRG_OBC_SLOTS.PSLOT : Fld := { bank := .lane, addr := 0x400A0304, lo := 0, w := 5, acc := .rw }
/-- R289 [12:8] RW, cfg. First of three reference MAC slots -/
def R.NRG_OBC_SLOTS.REF_SLOT0 : Fld := { bank := .lane, addr := 0x400A0304, lo := 8, w := 5, acc := .rw }
/-- R289 [20:16] RW, cfg. Bus or output voltage PI -/
def R.NRG_OBC_SLOTS.BUS_SLOT : Fld := { bank := .lane, addr := 0x400A0304, lo := 16, w := 5, acc := .rw }
/-- R289 [29:24] RW, cfg. First of three grid voltage channels -/
def R.NRG_OBC_SLOTS.VG_CH0 : Fld := { bank := .lane, addr := 0x400A0304, lo := 24, w := 6, acc := .rw }
/-- R289 [15:0] RW, 0. Signed, 2^−15 per unit, positive towards the link -/
def R.NRG_OBC_PQ.P : Fld := { bank := .lane, addr := 0x400A0308, lo := 0, w := 16, acc := .rw }
/-- R289 [31:16] RW, 0. Signed, 2^−15 per unit -/
def R.NRG_OBC_PQ.Q : Fld := { bank := .lane, addr := 0x400A0308, lo := 16, w := 16, acc := .rw }
/-- R289 [15:0] RW, cfg. 2^−15 per unit per ms -/
def R.NRG_OBC_RAMP.RAMP : Fld := { bank := .lane, addr := 0x400A030C, lo := 0, w := 16, acc := .rw }
/-- R289 [15:0] RW, cfg. 2^−15 per unit of amplitude -/
def R.NRG_OBC_VWIN.LO : Fld := { bank := .lane, addr := 0x400A0310, lo := 0, w := 16, acc := .rw }
/-- R289 [31:16] RW, cfg. 2^−15 per unit of amplitude -/
def R.NRG_OBC_VWIN.HI : Fld := { bank := .lane, addr := 0x400A0310, lo := 16, w := 16, acc := .rw }
/-- R289 [15:0] RW, cfg. 0.01 Hz -/
def R.NRG_OBC_FWIN.LO : Fld := { bank := .lane, addr := 0x400A0314, lo := 0, w := 16, acc := .rw }
/-- R289 [31:16] RW, cfg. 0.01 Hz -/
def R.NRG_OBC_FWIN.HI : Fld := { bank := .lane, addr := 0x400A0314, lo := 16, w := 16, acc := .rw }
/-- R289 [15:0] RW, cfg. ms -/
def R.NRG_OBC_TRIPT.T_V : Fld := { bank := .lane, addr := 0x400A0318, lo := 0, w := 16, acc := .rw }
/-- R289 [31:16] RW, cfg. ms -/
def R.NRG_OBC_TRIPT.T_F : Fld := { bank := .lane, addr := 0x400A0318, lo := 16, w := 16, acc := .rw }
/-- R289 [15:0] RW, cfg. 2^−15 per unit of amplitude -/
def R.NRG_OBC_EXPORT.V : Fld := { bank := .lane, addr := 0x400A031C, lo := 0, w := 16, acc := .rw }
/-- R289 [31:16] RW, cfg. 0.01 Hz -/
def R.NRG_OBC_EXPORT.F : Fld := { bank := .lane, addr := 0x400A031C, lo := 16, w := 16, acc := .rw }
/-- R289 [15:0] RO, 0. Measured amplitude, 2^−15 per unit -/
def R.NRG_OBC_GRID.V : Fld := { bank := .lane, addr := 0x400A0320, lo := 0, w := 16, acc := .ro }
/-- R289 [31:16] RO, 0. Measured frequency, 0.01 Hz -/
def R.NRG_OBC_GRID.F : Fld := { bank := .lane, addr := 0x400A0320, lo := 16, w := 16, acc := .ro }
/-- R289 [2:0] RO, 0. 0 OFF, 1 SYNC, 2 PRECHARGE, 3 RUN, 4 TRIPPED -/
def R.NRG_OBC_STATUS.STATE : Fld := { bank := .lane, addr := 0x400A0324, lo := 0, w := 3, acc := .ro }
/-- R289 [3] RO, 0. Loop locked -/
def R.NRG_OBC_STATUS.PLL_LOCK : Fld := { bank := .lane, addr := 0x400A0324, lo := 3, w := 1, acc := .ro }
/-- R289 [4] W1C, 0. Under R288 -/
def R.NRG_OBC_STATUS.GRID_TRIP : Fld := { bank := .lane, addr := 0x400A0324, lo := 4, w := 1, acc := .w1c }
/-- R289 [5] RO, 0. Slot, channel or timebase invalid -/
def R.NRG_OBC_STATUS.CFG_ERR : Fld := { bank := .lane, addr := 0x400A0324, lo := 5, w := 1, acc := .ro }
/-- R303 [0] RW, cfg. Power path in use -/
def R.LVP_CTRL.EN : Fld := { bank := .pap, addr := 0x40160600, lo := 0, w := 1, acc := .rw }
/-- R303 [1] RW, cfg. Charging permitted -/
def R.LVP_CTRL.CHG_EN : Fld := { bank := .pap, addr := 0x40160600, lo := 1, w := 1, acc := .rw }
/-- R303 [2] RW, cfg. Interrupt on entry to ISOLATE -/
def R.LVP_CTRL.FAULT_IRQ_EN : Fld := { bank := .pap, addr := 0x40160600, lo := 2, w := 1, acc := .rw }
/-- R303 [3] RW, cfg. Interrupt on any path change -/
def R.LVP_CTRL.PATH_IRQ_EN : Fld := { bank := .pap, addr := 0x40160600, lo := 3, w := 1, acc := .rw }
/-- R303 [4] RW, cfg. ISOLATE entries queued on Q09 -/
def R.LVP_CTRL.LOG_EN : Fld := { bank := .pap, addr := 0x40160600, lo := 4, w := 1, acc := .rw }
/-- R303 [2:0] RO, 0. 0 OFF, 1 BATT, 2 CONV, 3 HANDOVER, 4 ISOLATE -/
def R.LVP_STATUS.PATH : Fld := { bank := .pap, addr := 0x40160604, lo := 0, w := 3, acc := .ro }
/-- R303 [5:3] RO, 0. 0 INHIBIT, 1 CC, 2 CV, 3 FLOAT, 4 REST -/
def R.LVP_STATUS.STAGE : Fld := { bank := .pap, addr := 0x40160604, lo := 3, w := 3, acc := .ro }
/-- R303 [7:6] RO, 0. 0 OFF, 1 DISCHARGE, 2 BOTH -/
def R.LVP_STATUS.PAIR : Fld := { bank := .pap, addr := 0x40160604, lo := 6, w := 2, acc := .ro }
/-- R303 [8] RO, 0. Requalification hold running -/
def R.LVP_STATUS.REQUAL : Fld := { bank := .pap, addr := 0x40160604, lo := 8, w := 1, acc := .ro }
/-- R303 [9] RO, 0. Under R297 -/
def R.LVP_STATUS.NTC_FAULT : Fld := { bank := .pap, addr := 0x40160604, lo := 9, w := 1, acc := .ro }
/-- R303 [16] W1C, 0. Under R294 -/
def R.LVP_STATUS.HANDOVER_EVT : Fld := { bank := .pap, addr := 0x40160604, lo := 16, w := 1, acc := .w1c }
/-- R303 [17] W1C, 0. Under R295 -/
def R.LVP_STATUS.REPLUG_IGN : Fld := { bank := .pap, addr := 0x40160604, lo := 17, w := 1, acc := .w1c }
/-- R303 [18] W1C, 0. Under R293 -/
def R.LVP_STATUS.REVERSE : Fld := { bank := .pap, addr := 0x40160604, lo := 18, w := 1, acc := .w1c }
/-- R303 [19] W1C, 0. Under R293 -/
def R.LVP_STATUS.OVERCURRENT : Fld := { bank := .pap, addr := 0x40160604, lo := 19, w := 1, acc := .w1c }
/-- R303 [20] W1C, 0. Under R293 -/
def R.LVP_STATUS.CUTOFF : Fld := { bank := .pap, addr := 0x40160604, lo := 20, w := 1, acc := .w1c }
/-- R303 [21] W1C, 0. Under R296 -/
def R.LVP_STATUS.T_ABS_END : Fld := { bank := .pap, addr := 0x40160604, lo := 21, w := 1, acc := .w1c }
/-- R303 [22] W1C, 0. Under R298 -/
def R.LVP_STATUS.SET_SAT : Fld := { bank := .pap, addr := 0x40160604, lo := 22, w := 1, acc := .w1c }
/-- R303 [0] WT, 0. Under R293 -/
def R.LVP_CMD.RECONNECT : Fld := { bank := .pap, addr := 0x40160608, lo := 0, w := 1, acc := .wt }
/-- R303 [0] RW, cfg. 0 lead-acid, 1 LiFePO4 -/
def R.LVP_CHG_CFG.PROFILE : Fld := { bank := .pap, addr := 0x4016060C, lo := 0, w := 1, acc := .rw }
/-- R303 [1] RW, cfg. Lead-acid compensation -/
def R.LVP_CHG_CFG.TEMP_COMP : Fld := { bank := .pap, addr := 0x4016060C, lo := 1, w := 1, acc := .rw }
/-- R303 [6:4] RW, cfg. NTC_x0–NTC_x7 -/
def R.LVP_CHG_CFG.NTC_SEL : Fld := { bank := .pap, addr := 0x4016060C, lo := 4, w := 3, acc := .rw }
/-- R303 [13:8] RW, cfg. Channel code -/
def R.LVP_CHG_CFG.IBAT_CH : Fld := { bank := .pap, addr := 0x4016060C, lo := 8, w := 6, acc := .rw }
/-- R303 [15:0] RW, cfg. 10 mV, at 25 °C for lead-acid -/
def R.LVP_CHG_V.V_CV : Fld := { bank := .pap, addr := 0x40160610, lo := 0, w := 16, acc := .rw }
/-- R303 [31:16] RW, cfg. Float or rest voltage, 10 mV -/
def R.LVP_CHG_V.V_HOLD : Fld := { bank := .pap, addr := 0x40160610, lo := 16, w := 16, acc := .rw }
/-- R303 [15:0] RW, cfg. 0.1 A -/
def R.LVP_CHG_I.I_CHG : Fld := { bank := .pap, addr := 0x40160614, lo := 0, w := 16, acc := .rw }
/-- R303 [31:16] RW, cfg. 0.1 A -/
def R.LVP_CHG_I.I_TAIL : Fld := { bank := .pap, addr := 0x40160614, lo := 16, w := 16, acc := .rw }
/-- R303 [7:0] RW, cfg. Signed, mV/°C -/
def R.LVP_CHG_T.TC : Fld := { bank := .pap, addr := 0x40160618, lo := 0, w := 8, acc := .rw }
/-- R303 [15:8] RW, cfg. min. 0 acts as 1 -/
def R.LVP_CHG_T.T_ABS : Fld := { bank := .pap, addr := 0x40160618, lo := 8, w := 8, acc := .rw }
/-- R303 [23:16] RW, cfg. Signed, °C -/
def R.LVP_CHG_T.T_LO : Fld := { bank := .pap, addr := 0x40160618, lo := 16, w := 8, acc := .rw }
/-- R303 [31:24] RW, cfg. Signed, °C -/
def R.LVP_CHG_T.T_HI : Fld := { bank := .pap, addr := 0x40160618, lo := 24, w := 8, acc := .rw }
/-- R303 [15:0] RW, cfg. Converter output, 10 mV at 1.0 per unit -/
def R.LVP_BASE.V_BASE : Fld := { bank := .pap, addr := 0x4016061C, lo := 0, w := 16, acc := .rw }
/-- R303 [31:16] RW, cfg. 0.1 A at 1.0 per unit -/
def R.LVP_BASE.I_BASE : Fld := { bank := .pap, addr := 0x4016061C, lo := 16, w := 16, acc := .rw }
/-- R303 [15:0] RW, cfg. 10 mV -/
def R.LVP_PROT.V_CUTOFF : Fld := { bank := .pap, addr := 0x40160620, lo := 0, w := 16, acc := .rw }
/-- R303 [31:16] RW, cfg. 0.1 A -/
def R.LVP_PROT.I_MAX : Fld := { bank := .pap, addr := 0x40160620, lo := 16, w := 16, acc := .rw }
/-- R303 [15:0] RO, 0. 10 mV -/
def R.LVP_MEAS_V.VBAT : Fld := { bank := .pap, addr := 0x40160624, lo := 0, w := 16, acc := .ro }
/-- R303 [31:16] RO, 0. 10 mV -/
def R.LVP_MEAS_V.VBUS : Fld := { bank := .pap, addr := 0x40160624, lo := 16, w := 16, acc := .ro }
/-- R303 [15:0] RO, 0. Signed, 0.1 A, into the battery positive -/
def R.LVP_MEAS_I.IP : Fld := { bank := .pap, addr := 0x40160628, lo := 0, w := 16, acc := .ro }
/-- R303 [31:16] RO, 0. Signed, 0.1 °C -/
def R.LVP_MEAS_I.TBAT : Fld := { bank := .pap, addr := 0x40160628, lo := 16, w := 16, acc := .ro }
/-- R303 [0] RW, cfg. Boost enabled -/
def R.LVP_ACT_CFG.ACT_EN : Fld := { bank := .pap, addr := 0x4016062C, lo := 0, w := 1, acc := .rw }
/-- R303 [10:1] RW, cfg. 0.1 V, from 400 to 520, clamped -/
def R.LVP_ACT_CFG.ACT_VSET : Fld := { bank := .pap, addr := 0x4016062C, lo := 1, w := 10, acc := .rw }
/-- R303 [21:16] RW, cfg. A per phase, from 1 to 40, clamped -/
def R.LVP_ACT_CFG.ACT_ILIM : Fld := { bank := .pap, addr := 0x4016062C, lo := 16, w := 6, acc := .rw }
/-- R303 [0] RO, 0. Boost switching -/
def R.LVP_ACT_STATUS.RUN : Fld := { bank := .pap, addr := 0x40160630, lo := 0, w := 1, acc := .ro }
/-- R303 [1] RO, 0. Current limit acting -/
def R.LVP_ACT_STATUS.ILIMIT : Fld := { bank := .pap, addr := 0x40160630, lo := 1, w := 1, acc := .ro }
/-- R303 [2] W1C, 0. Under R299 -/
def R.LVP_ACT_STATUS.ACT_UV : Fld := { bank := .pap, addr := 0x40160630, lo := 2, w := 1, acc := .w1c }
/-- R303 [3] W1C, 0. Under R299 -/
def R.LVP_ACT_STATUS.IN_UV : Fld := { bank := .pap, addr := 0x40160630, lo := 3, w := 1, acc := .w1c }
/-- R303 [31:16] RO, 0. 0.1 V -/
def R.LVP_ACT_STATUS.VACT : Fld := { bank := .pap, addr := 0x40160630, lo := 16, w := 16, acc := .ro }
/-- R303 [0] RW, Kept, 1. Under R300 -/
def R.LVP_KEEP_CTRL.ARM : Fld := { bank := .pap, addr := 0x40160634, lo := 0, w := 1, acc := .rw, rst := 1, kept := true }
/-- R303 [1] WT, 0. Starts Storage entry under R301. Written only by the master's CFG block at step 6 of a change to Storage. A firmware write is refused -/
def R.LVP_KEEP_CTRL.STORE : Fld := { bank := .pap, addr := 0x40160634, lo := 1, w := 1, acc := .wt }
/-- R303 [0] RO, Kept, 0. 1 while BTN is pressed -/
def R.LVP_KEEP_STATUS.BTN : Fld := { bank := .pap, addr := 0x40160638, lo := 0, w := 1, acc := .ro, kept := true }
/-- R303 [1] W1C, Kept, 0. Under R300 -/
def R.LVP_KEEP_STATUS.PRESS_SHORT : Fld := { bank := .pap, addr := 0x40160638, lo := 1, w := 1, acc := .w1c, kept := true }
/-- R303 [2] W1C, Kept, 0. Under R300 -/
def R.LVP_KEEP_STATUS.PRESS_8S : Fld := { bank := .pap, addr := 0x40160638, lo := 2, w := 1, acc := .w1c, kept := true }
/-- R303 [3] W1C, Kept, 0. Under R300 -/
def R.LVP_KEEP_STATUS.PRESS_20S : Fld := { bank := .pap, addr := 0x40160638, lo := 3, w := 1, acc := .w1c, kept := true }
/-- R303 [4] W1C, Kept, 0. Under R300 -/
def R.LVP_KEEP_STATUS.STORAGE_EXIT : Fld := { bank := .pap, addr := 0x40160638, lo := 4, w := 1, acc := .w1c, kept := true }
/-- R303 [5] W1C, Kept, 0. Under R300 -/
def R.LVP_KEEP_STATUS.REFUSED : Fld := { bank := .pap, addr := 0x40160638, lo := 5, w := 1, acc := .w1c, kept := true }
/-- R303 [15:8] RO, Kept, 0. Last press, 0.1 s, saturating -/
def R.LVP_KEEP_STATUS.LAST_PRESS : Fld := { bank := .pap, addr := 0x40160638, lo := 8, w := 8, acc := .ro, kept := true }
/-- R303 [7:0] RC, 0. Saturating -/
def R.LVP_CNT.HANDOVERS : Fld := { bank := .pap, addr := 0x4016063C, lo := 0, w := 8, acc := .rc }
/-- R303 [15:8] RC, 0. Saturating -/
def R.LVP_CNT.REPLUG_IGN : Fld := { bank := .pap, addr := 0x4016063C, lo := 8, w := 8, acc := .rc }
/-- R303 [23:16] RC, 0. Saturating -/
def R.LVP_CNT.REVERSE : Fld := { bank := .pap, addr := 0x4016063C, lo := 16, w := 8, acc := .rc }
/-- R303 [31:24] RC, 0. Saturating -/
def R.LVP_CNT.ISOLATE : Fld := { bank := .pap, addr := 0x4016063C, lo := 24, w := 8, acc := .rc }
/-- R328 [0] RW, cfg. Copies under R310 -/
def R.LNK_CTRL.COPY_EN : Fld := { bank := .lane, addr := 0x400C0000, lo := 0, w := 1, acc := .rw }
/-- R328 [1] RW, cfg. Snapshots under R313 -/
def R.LNK_CTRL.SNAP_EN : Fld := { bank := .lane, addr := 0x400C0000, lo := 1, w := 1, acc := .rw }
/-- R328 [2] RW, cfg. Chassis pipeline -/
def R.LNK_CTRL.CHS_EN : Fld := { bank := .lane, addr := 0x400C0000, lo := 2, w := 1, acc := .rw }
/-- R328 [3] RW, cfg. Interrupt on SWITCH -/
def R.LNK_CTRL.SWITCH_IRQ_EN : Fld := { bank := .lane, addr := 0x400C0000, lo := 3, w := 1, acc := .rw }
/-- R328 [4] RW, cfg. Interrupt on DISAGREE_EVT or MISS_EVT -/
def R.LNK_CTRL.CHS_IRQ_EN : Fld := { bank := .lane, addr := 0x400C0000, lo := 4, w := 1, acc := .rw }
/-- R328 [5] RW, cfg. Interrupt on LINK_LOST -/
def R.LNK_CTRL.LINK_IRQ_EN : Fld := { bank := .lane, addr := 0x400C0000, lo := 5, w := 1, acc := .rw }
/-- R328 [6] RW, cfg. Disagreements and misses queued on Q09 -/
def R.LNK_CTRL.LOG_EN : Fld := { bank := .lane, addr := 0x400C0000, lo := 6, w := 1, acc := .rw }
/-- R328 [15:8] RW, cfg. Verified copies for HOT, 1 to 255. 0 acts as 1 -/
def R.LNK_CTRL.WARM_CNT : Fld := { bank := .lane, addr := 0x400C0000, lo := 8, w := 8, acc := .rw }
/-- R328 [0] RO, 0. Link established -/
def R.LNK_STATUS.LINK_UP : Fld := { bank := .lane, addr := 0x400C0004, lo := 0, w := 1, acc := .ro }
/-- R328 [1] RO, 0. Partner's STATE received within the last traction cycle -/
def R.LNK_STATUS.PARTNER : Fld := { bank := .lane, addr := 0x400C0004, lo := 1, w := 1, acc := .ro }
/-- R328 [4:2] RO, 0. 0 NONE, 1 START, 2 COLD, 3 WARM, 4 HOT, 5 ACTIVE -/
def R.LNK_STATUS.ROLE : Fld := { bank := .lane, addr := 0x400C0004, lo := 2, w := 3, acc := .ro }
/-- R328 [5] RO, 0. AUTH_REQ_x raised -/
def R.LNK_STATUS.AUTH_REQ : Fld := { bank := .lane, addr := 0x400C0004, lo := 5, w := 1, acc := .ro }
/-- R328 [6] RO, 0. This lane holds the grant -/
def R.LNK_STATUS.GRANTED : Fld := { bank := .lane, addr := 0x400C0004, lo := 6, w := 1, acc := .ro }
/-- R328 [7] RO, 0. Partner declared lost -/
def R.LNK_STATUS.PARTNER_LOST : Fld := { bank := .lane, addr := 0x400C0004, lo := 7, w := 1, acc := .ro }
/-- R328 [16] W1C, 0. Under R307 -/
def R.LNK_STATUS.LINK_LOST : Fld := { bank := .lane, addr := 0x400C0004, lo := 16, w := 1, acc := .w1c }
/-- R328 [17] W1C, 0. Under R316 -/
def R.LNK_STATUS.SWITCH : Fld := { bank := .lane, addr := 0x400C0004, lo := 17, w := 1, acc := .w1c }
/-- R328 [18] W1C, 0. A copy was judged unverified -/
def R.LNK_STATUS.UNVERIFIED : Fld := { bank := .lane, addr := 0x400C0004, lo := 18, w := 1, acc := .w1c }
/-- R328 [0] WT, 0. Under R318 -/
def R.LNK_CMD.HANDOVER : Fld := { bank := .lane, addr := 0x400C0008, lo := 0, w := 1, acc := .wt }
/-- R328 [1] WT, 0. Under R313 -/
def R.LNK_CMD.SNAP_NOW : Fld := { bank := .lane, addr := 0x400C0008, lo := 1, w := 1, acc := .wt }
/-- R328 [2:0] RO, 0. 0 done, or a refusal code of R318 -/
def R.LNK_CMD_RESULT.RESULT : Fld := { bank := .lane, addr := 0x400C000C, lo := 0, w := 3, acc := .ro }
/-- R328 [3] RO, 0. Hand-over awaiting its boundary -/
def R.LNK_CMD_RESULT.BUSY : Fld := { bank := .lane, addr := 0x400C000C, lo := 3, w := 1, acc := .ro }
/-- R328 [7:0] RC, 0. Saturating -/
def R.LNK_ERR_CNT.CRC_ERR : Fld := { bank := .lane, addr := 0x400C0010, lo := 0, w := 8, acc := .rc }
/-- R328 [15:8] RC, 0. Saturating -/
def R.LNK_ERR_CNT.LOST : Fld := { bank := .lane, addr := 0x400C0010, lo := 8, w := 8, acc := .rc }
/-- R328 [23:16] RC, 0. Saturating -/
def R.LNK_ERR_CNT.LINK_LOSS : Fld := { bank := .lane, addr := 0x400C0010, lo := 16, w := 8, acc := .rc }
/-- R328 [31:24] RC, 0. Copies resent, saturating -/
def R.LNK_ERR_CNT.RESEND : Fld := { bank := .lane, addr := 0x400C0010, lo := 24, w := 8, acc := .rc }
/-- R328 [6:0] RW, cfg. Copy deadline in µs, 50 to 95, clamped -/
def R.LNK_COPY_CFG.DL : Fld := { bank := .lane, addr := 0x400C0020, lo := 0, w := 7, acc := .rw }
/-- R328 [23:0] RWS, cfg. Arithmetic slots copied -/
def R.LNK_COPY_SLOTS.SLOTS : Fld := { bank := .lane, addr := 0x400C0024, lo := 0, w := 24, acc := .rws }
/-- R328 [31:0] RWS, cfg. Window in system SRAM, 4-byte aligned -/
def R.LNK_FW_WIN.ADDR : Fld := { bank := .lane, addr := 0x400C0028, lo := 0, w := 32, acc := .rws }
/-- R328 [13:0] RWS, cfg. Bytes, a multiple of 4, 0 to 15,360. Above acts as 15,360 -/
def R.LNK_FW_LEN.LEN : Fld := { bank := .lane, addr := 0x400C002C, lo := 0, w := 14, acc := .rws }
/-- R328 [0] RO, 0. Copy of this cycle sent -/
def R.LNK_COPY_STATUS.SENT : Fld := { bank := .lane, addr := 0x400C0030, lo := 0, w := 1, acc := .ro }
/-- R328 [1] RO, 0. Acknowledged with result 0 -/
def R.LNK_COPY_STATUS.ACKED : Fld := { bank := .lane, addr := 0x400C0030, lo := 1, w := 1, acc := .ro }
/-- R328 [2] RO, 0. Last verdict of R312 -/
def R.LNK_COPY_STATUS.VERIFIED : Fld := { bank := .lane, addr := 0x400C0030, lo := 2, w := 1, acc := .ro }
/-- R328 [3] W1C, 0. Window replaced under R311 -/
def R.LNK_COPY_STATUS.FW_NEW : Fld := { bank := .lane, addr := 0x400C0030, lo := 3, w := 1, acc := .w1c }
/-- R328 [7:4] RO, 0. Consecutive unverified copies, saturating -/
def R.LNK_COPY_STATUS.UNVER_RUN : Fld := { bank := .lane, addr := 0x400C0030, lo := 4, w := 4, acc := .ro }
/-- R328 [15:8] RO, 0. Consecutive verified copies, saturating -/
def R.LNK_COPY_STATUS.WARM : Fld := { bank := .lane, addr := 0x400C0030, lo := 8, w := 8, acc := .ro }
/-- R328 [31:16] RO, 0. Bits [15:0] of the last copy's cycle number -/
def R.LNK_COPY_STATUS.CYCLE : Fld := { bank := .lane, addr := 0x400C0030, lo := 16, w := 16, acc := .ro }
/-- R328 [31:0] RO, 0. Signature of the last copy sent or received -/
def R.LNK_COPY_SIG.SIG : Fld := { bank := .lane, addr := 0x400C0034, lo := 0, w := 32, acc := .ro }
/-- R328 [15:0] RC, 0. Saturating -/
def R.LNK_COPY_CNT.VERIFIED : Fld := { bank := .lane, addr := 0x400C0038, lo := 0, w := 16, acc := .rc }
/-- R328 [31:16] RC, 0. Saturating -/
def R.LNK_COPY_CNT.UNVERIFIED : Fld := { bank := .lane, addr := 0x400C0038, lo := 16, w := 16, acc := .rc }
/-- R328 [9:0] RW, cfg. ms, 100 to 1,000, clamped -/
def R.LNK_SNAP_CFG.PERIOD : Fld := { bank := .lane, addr := 0x400C0040, lo := 0, w := 10, acc := .rw }
/-- R328 [31:0] RWS, cfg. Own window, 4-byte aligned -/
def R.LNK_OWN_WIN.ADDR : Fld := { bank := .lane, addr := 0x400C0044, lo := 0, w := 32, acc := .rws }
/-- R328 [14:0] RWS, cfg. Bytes, a multiple of 4, 0 to 16,384 -/
def R.LNK_OWN_LEN.LEN : Fld := { bank := .lane, addr := 0x400C0048, lo := 0, w := 15, acc := .rws }
/-- R328 [31:0] RWS, cfg. Snapshot fixed cost for R310 -/
def R.LNK_SNAP_WC.COUNTS : Fld := { bank := .lane, addr := 0x400C004C, lo := 0, w := 32, acc := .rws }
/-- R328 [9:0] RO, 0. Next slot -/
def R.LNK_SNAP_STATUS.POS : Fld := { bank := .lane, addr := 0x400C0050, lo := 0, w := 10, acc := .ro }
/-- R328 [10] RO, 0. Own part loaded under R315 -/
def R.LNK_SNAP_STATUS.LOADED : Fld := { bank := .lane, addr := 0x400C0050, lo := 10, w := 1, acc := .ro }
/-- R328 [11] RO, 0. Shared part seeded the shadow -/
def R.LNK_SNAP_STATUS.SHARED_USED : Fld := { bank := .lane, addr := 0x400C0050, lo := 11, w := 1, acc := .ro }
/-- R328 [12] RO, 0. No usable snapshot -/
def R.LNK_SNAP_STATUS.NONE : Fld := { bank := .lane, addr := 0x400C0050, lo := 12, w := 1, acc := .ro }
/-- R328 [13] RO, 0. Last snapshot not DONE -/
def R.LNK_SNAP_STATUS.FAIL : Fld := { bank := .lane, addr := 0x400C0050, lo := 13, w := 1, acc := .ro }
/-- R328 [31:16] RO, 0. Age of the loaded snapshot, ms -/
def R.LNK_SNAP_STATUS.AGE : Fld := { bank := .lane, addr := 0x400C0050, lo := 16, w := 16, acc := .ro }
/-- R328 [0] RO, 0. Last switch-over planned -/
def R.LNK_SWITCH.PLANNED : Fld := { bank := .lane, addr := 0x400C0060, lo := 0, w := 1, acc := .ro }
/-- R328 [1] RO, 0. Lane that lost the grant -/
def R.LNK_SWITCH.FROM : Fld := { bank := .lane, addr := 0x400C0060, lo := 1, w := 1, acc := .ro }
/-- R328 [2] RO, 0. PWM_TAKEOVER.LATE_TAKE at the last switch-over -/
def R.LNK_SWITCH.LATE_TAKE : Fld := { bank := .lane, addr := 0x400C0060, lo := 2, w := 1, acc := .ro }
/-- R328 [15:8] RO, 0. Switch-overs, saturating -/
def R.LNK_SWITCH.COUNT : Fld := { bank := .lane, addr := 0x400C0060, lo := 8, w := 8, acc := .ro }
/-- R328 [15:0] RO, 0. Declaration to last take-over, 5 ns, saturating -/
def R.LNK_SWITCH_TIME.GAP : Fld := { bank := .lane, addr := 0x400C0064, lo := 0, w := 16, acc := .ro }
/-- R328 [31:16] RO, 0. Grant to alignment, 5 ns, saturating -/
def R.LNK_SWITCH_TIME.ALIGN : Fld := { bank := .lane, addr := 0x400C0064, lo := 16, w := 16, acc := .ro }
/-- R328 [0] RW, cfg. 0 1 kHz, 1 2 kHz -/
def R.LNK_CHS_CFG.RATE : Fld := { bank := .lane, addr := 0x400C0100, lo := 0, w := 1, acc := .rw }
/-- R328 [3:1] RW, cfg. W − 1 -/
def R.LNK_CHS_CFG.WORDS : Fld := { bank := .lane, addr := 0x400C0100, lo := 1, w := 3, acc := .rw }
/-- R328 [7:4] RW, cfg. 1 to 15. 0 acts as 1 -/
def R.LNK_CHS_CFG.DIS_CNT : Fld := { bank := .lane, addr := 0x400C0100, lo := 4, w := 4, acc := .rw }
/-- R328 [11:8] RW, cfg. Chassis cycles for the network loss of R27 and R324, 2 to 10, clamped. 0 acts as 3 -/
def R.LNK_CHS_CFG.NET_CNT : Fld := { bank := .lane, addr := 0x400C0100, lo := 8, w := 4, acc := .rw }
/-- R328 [15:12] RW, cfg. Chassis cycles for the sensor-set loss of R27 and R322, 2 to 10, clamped. 0 acts as 3 -/
def R.LNK_CHS_CFG.SENS_CNT : Fld := { bank := .lane, addr := 0x400C0100, lo := 12, w := 4, acc := .rw }
/-- R328 [31:16] RW, cfg. Frame identifier under R325 -/
def R.LNK_CHS_CFG.DATA_ID : Fld := { bank := .lane, addr := 0x400C0100, lo := 16, w := 16, acc := .rw }
/-- R328 [9:0] RW, cfg. µs, 100 to 900, clamped to 400 at 2 kHz -/
def R.LNK_CHS_TIME.CMD_DL : Fld := { bank := .lane, addr := 0x400C0104, lo := 0, w := 10, acc := .rw }
/-- R328 [19:10] RW, cfg. µs, 5 to 100, clamped -/
def R.LNK_CHS_TIME.CMP_WAIT : Fld := { bank := .lane, addr := 0x400C0104, lo := 10, w := 10, acc := .rw }
/-- R328 [29:20] RW, cfg. µs, up to the cycle length -/
def R.LNK_CHS_TIME.TX_DL : Fld := { bank := .lane, addr := 0x400C0104, lo := 20, w := 10, acc := .rw }
/-- R328 [2:0] RW, cfg. 0–3 CAN0–CAN3, 4 ETH0, 5 ETH1. 6–7 none: the pipeline runs, exchanges and compares under R321, but step 6 builds and submits no frame, and nothing counts in TX_FAIL -/
def R.LNK_CHS_NET.CTRL : Fld := { bank := .lane, addr := 0x400C0108, lo := 0, w := 3, acc := .rw }
/-- R328 [15:8] RW, cfg. Transmit template of that controller -/
def R.LNK_CHS_NET.TEMPLATE : Fld := { bank := .lane, addr := 0x400C0108, lo := 8, w := 8, acc := .rw }
/-- R328 [0] RO, 0. Pipeline running -/
def R.LNK_CHS_STATUS.RUN : Fld := { bank := .lane, addr := 0x400C010C, lo := 0, w := 1, acc := .ro }
/-- R328 [1] RO, 0. Last cycle agreed -/
def R.LNK_CHS_STATUS.AGREE : Fld := { bank := .lane, addr := 0x400C010C, lo := 1, w := 1, acc := .ro }
/-- R328 [2] RO, 0. Last cycle compared nothing -/
def R.LNK_CHS_STATUS.ALONE : Fld := { bank := .lane, addr := 0x400C010C, lo := 2, w := 1, acc := .ro }
/-- R328 [3] RO, 0. Frames passive -/
def R.LNK_CHS_STATUS.PASSIVE : Fld := { bank := .lane, addr := 0x400C010C, lo := 3, w := 1, acc := .ro }
/-- R328 [7:4] RO, 0. Consecutive disagreements -/
def R.LNK_CHS_STATUS.DIS_RUN : Fld := { bank := .lane, addr := 0x400C010C, lo := 4, w := 4, acc := .ro }
/-- R328 [11:8] RO, 0. Consecutive implausible cycles -/
def R.LNK_CHS_STATUS.SENS_RUN : Fld := { bank := .lane, addr := 0x400C010C, lo := 8, w := 4, acc := .ro }
/-- R328 [15:12] RO, 0. Consecutive misses -/
def R.LNK_CHS_STATUS.MISS_RUN : Fld := { bank := .lane, addr := 0x400C010C, lo := 12, w := 4, acc := .ro }
/-- R328 [19:16] RO, 0. Consecutive cycles without a node frame -/
def R.LNK_CHS_STATUS.NET_RUN : Fld := { bank := .lane, addr := 0x400C010C, lo := 16, w := 4, acc := .ro }
/-- R328 [24] W1C, 0. A cycle disagreed -/
def R.LNK_CHS_STATUS.DISAGREE_EVT : Fld := { bank := .lane, addr := 0x400C010C, lo := 24, w := 1, acc := .w1c }
/-- R328 [25] W1C, 0. Under R324 -/
def R.LNK_CHS_STATUS.MISS_EVT : Fld := { bank := .lane, addr := 0x400C010C, lo := 25, w := 1, acc := .w1c }
/-- R328 [26] W1C, 0. This lane declared a fault class -/
def R.LNK_CHS_STATUS.DECLARED : Fld := { bank := .lane, addr := 0x400C010C, lo := 26, w := 1, acc := .w1c }
/-- R328 [7:0] RC, 0. Saturating -/
def R.LNK_CHS_CNT.DISAGREE : Fld := { bank := .lane, addr := 0x400C0110, lo := 0, w := 8, acc := .rc }
/-- R328 [15:8] RC, 0. Saturating -/
def R.LNK_CHS_CNT.MISS : Fld := { bank := .lane, addr := 0x400C0110, lo := 8, w := 8, acc := .rc }
/-- R328 [23:16] RC, 0. Saturating -/
def R.LNK_CHS_CNT.ALONE : Fld := { bank := .lane, addr := 0x400C0110, lo := 16, w := 8, acc := .rc }
/-- R328 [31:24] RC, 0. Frames not DONE, saturating -/
def R.LNK_CHS_CNT.TX_FAIL : Fld := { bank := .lane, addr := 0x400C0110, lo := 24, w := 8, acc := .rc }
/-- R328 [0] WT, 0. Seals the commands -/
def R.LNK_CHS_SEAL.SEAL : Fld := { bank := .lane, addr := 0x400C0114, lo := 0, w := 1, acc := .wt }
/-- R328 [31:0] RO, 0. Chassis cycle number -/
def R.LNK_CHS_CYCLE.N : Fld := { bank := .lane, addr := 0x400C0118, lo := 0, w := 32, acc := .ro }
/-- R328 [0] RW, cfg. Input in use -/
def R.LNK_CHS_INk_CFG.EN : Fld := { bank := .lane, addr := 0x400C0140, s1 := 0x10, n1 := 4, lo := 0, w := 1, acc := .rw }
/-- R328 [1] RW, cfg. Counts under R322 -/
def R.LNK_CHS_INk_CFG.REQUIRED : Fld := { bank := .lane, addr := 0x400C0140, s1 := 0x10, n1 := 4, lo := 1, w := 1, acc := .rw }
/-- R328 [3:2] RW, cfg. SENT channel -/
def R.LNK_CHS_INk_CFG.SENT : Fld := { bank := .lane, addr := 0x400C0140, s1 := 0x10, n1 := 4, lo := 2, w := 2, acc := .rw }
/-- R328 [19:4] RW, cfg. µs. 0 acts as 1 -/
def R.LNK_CHS_INk_CFG.MAX_AGE : Fld := { bank := .lane, addr := 0x400C0140, s1 := 0x10, n1 := 4, lo := 4, w := 16, acc := .rw }
/-- R328 [23:0] RW, cfg. Lowest plausible value -/
def R.LNK_CHS_INk_LO.LO : Fld := { bank := .lane, addr := 0x400C0144, s1 := 0x10, n1 := 4, lo := 0, w := 24, acc := .rw }
/-- R328 [23:0] RW, cfg. Highest plausible value -/
def R.LNK_CHS_INk_HI.HI : Fld := { bank := .lane, addr := 0x400C0148, s1 := 0x10, n1 := 4, lo := 0, w := 24, acc := .rw }
/-- R328 [15:0] RW, cfg. Largest change per cycle -/
def R.LNK_CHS_INk_TOL.RATE : Fld := { bank := .lane, addr := 0x400C014C, s1 := 0x10, n1 := 4, lo := 0, w := 16, acc := .rw }
/-- R328 [31:16] RW, cfg. Cross-lane tolerance -/
def R.LNK_CHS_INk_TOL.XTOL : Fld := { bank := .lane, addr := 0x400C014C, s1 := 0x10, n1 := 4, lo := 16, w := 16, acc := .rw }
/-- R328 [23:0] RO, 0. Value used -/
def R.LNK_CHS_INk_VAL.VALUE : Fld := { bank := .lane, addr := 0x400C0180, s1 := 0x4, n1 := 4, lo := 0, w := 24, acc := .ro }
/-- R328 [24] RO, 0. Under R322 -/
def R.LNK_CHS_INk_VAL.PLAUSIBLE : Fld := { bank := .lane, addr := 0x400C0180, s1 := 0x4, n1 := 4, lo := 24, w := 1, acc := .ro }
/-- R328 [23:0] RO, 0. Partner's value -/
def R.LNK_CHS_PINk.VALUE : Fld := { bank := .lane, addr := 0x400C0190, s1 := 0x4, n1 := 4, lo := 0, w := 24, acc := .ro }
/-- R328 [24] RO, 0. Partner's judgement -/
def R.LNK_CHS_PINk.PLAUSIBLE : Fld := { bank := .lane, addr := 0x400C0190, s1 := 0x4, n1 := 4, lo := 24, w := 1, acc := .ro }
/-- R328 [25] RO, 0. Arrived in this cycle -/
def R.LNK_CHS_PINk.FRESH : Fld := { bank := .lane, addr := 0x400C0190, s1 := 0x4, n1 := 4, lo := 25, w := 1, acc := .ro }
/-- R328 [31:0] RW, 0. Command word, signed -/
def R.LNK_CHS_CMDw.CMD : Fld := { bank := .lane, addr := 0x400C0200, s1 := 0x4, n1 := 8, lo := 0, w := 32, acc := .rw }
/-- R328 [31:0] RW, cfg. Tolerance, unsigned -/
def R.LNK_CHS_TOLw.TOL : Fld := { bank := .lane, addr := 0x400C0220, s1 := 0x4, n1 := 8, lo := 0, w := 32, acc := .rw }
/-- R328 [31:0] RO, 0. Partner's sealed word -/
def R.LNK_CHS_PCMDw.CMD : Fld := { bank := .lane, addr := 0x400C0240, s1 := 0x4, n1 := 8, lo := 0, w := 32, acc := .ro }
/-- R328 [0] RW, cfg. Node frame supervised -/
def R.LNK_CHS_RXj_CFG.EN : Fld := { bank := .lane, addr := 0x400C0280, s1 := 0x4, n1 := 8, lo := 0, w := 1, acc := .rw }
/-- R328 [15:8] RW, cfg. Receive template of the controller -/
def R.LNK_CHS_RXj_CFG.TEMPLATE : Fld := { bank := .lane, addr := 0x400C0280, s1 := 0x4, n1 := 8, lo := 8, w := 8, acc := .rw }
/-- R328 [31:16] RW, cfg. Node's identifier -/
def R.LNK_CHS_RXj_CFG.DATA_ID : Fld := { bank := .lane, addr := 0x400C0280, s1 := 0x4, n1 := 8, lo := 16, w := 16, acc := .rw }
/-- R328 [7:0] RO, 0. Nodes valid in the last cycle -/
def R.LNK_CHS_RX_STATUS.VALID : Fld := { bank := .lane, addr := 0x400C02A0, lo := 0, w := 8, acc := .ro }
/-- R328 [15:8] RO, 0. Nodes valid at least once since ST19 -/
def R.LNK_CHS_RX_STATUS.SEEN : Fld := { bank := .lane, addr := 0x400C02A0, lo := 8, w := 8, acc := .ro }
/-- R352 [7:0] RO, 1. Deputy revision -/
def R.DSP_ID.REV : Fld := { bank := .deputy, addr := 0x40150000, lo := 0, w := 8, acc := .ro, rst := 1 }
/-- R352 [0] RO, 0. Lane A completed ST14 -/
def R.DSP_STATUS.HANDSHAKE_A : Fld := { bank := .deputy, addr := 0x40150004, lo := 0, w := 1, acc := .ro }
/-- R352 [1] RO, 0. Lane B completed ST14 -/
def R.DSP_STATUS.HANDSHAKE_B : Fld := { bank := .deputy, addr := 0x40150004, lo := 1, w := 1, acc := .ro }
/-- R352 [2] RO, 0. Safe stop imposed -/
def R.DSP_STATUS.SAFE_STOP : Fld := { bank := .deputy, addr := 0x40150004, lo := 2, w := 1, acc := .ro }
/-- R352 [3] RO, 0. Timer running -/
def R.DSP_STATUS.DEGRADED : Fld := { bank := .deputy, addr := 0x40150004, lo := 3, w := 1, acc := .ro }
/-- R352 [4] RO, 0. Under R329 -/
def R.DSP_STATUS.OSC_OK : Fld := { bank := .deputy, addr := 0x40150004, lo := 4, w := 1, acc := .ro }
/-- R352 [0] RWS, cfg. 0 three-lane, 1 single-lane (R38) -/
def R.DSP_CTRL.ARRANGEMENT : Fld := { bank := .deputy, addr := 0x40150008, lo := 0, w := 1, acc := .rws }
/-- R352 [1] RWS, cfg. Preferred lane of R21: 0 A, 1 B -/
def R.DSP_CTRL.PREF : Fld := { bank := .deputy, addr := 0x40150008, lo := 1, w := 1, acc := .rws }
/-- R352 [2] RWS, cfg. Records with class none forwarded to Q09 on each lane not lost. Declarations are forwarded whatever this bit holds (R37) -/
def R.DSP_CTRL.LOG_EN : Fld := { bank := .deputy, addr := 0x40150008, lo := 2, w := 1, acc := .rws }
/-- R352 [0] RO, 0. Under R76 -/
def R.DSP_SEAL.SEALED : Fld := { bank := .deputy, addr := 0x4015000C, lo := 0, w := 1, acc := .ro }
/-- R352 [1] RO, 0. Lane whose ST19 sealed -/
def R.DSP_SEAL.SEALER : Fld := { bank := .deputy, addr := 0x4015000C, lo := 1, w := 1, acc := .ro }
/-- R352 [15:0] RO, 0. Under R332 -/
def R.DSP_ALIVE.COUNT : Fld := { bank := .deputy, addr := 0x40150010, lo := 0, w := 16, acc := .ro }
/-- R352 [31:0] RO, 0. Deputy time bits [31:0], 20 ns -/
def R.DSP_TIME_LO.TIME : Fld := { bank := .deputy, addr := 0x40150014, lo := 0, w := 32, acc := .ro }
/-- R352 [31:0] RO, 0. Bits [63:32], under R10 -/
def R.DSP_TIME_HI.TIME : Fld := { bank := .deputy, addr := 0x40150018, lo := 0, w := 32, acc := .ro }
/-- R352 [6:0] RO, 0. One bit per fault class -/
def R.DSP_OUTCOME.LOST : Fld := { bank := .deputy, addr := 0x4015001C, lo := 0, w := 7, acc := .ro }
/-- R352 [8] RO, 0. Single-lane -/
def R.DSP_OUTCOME.SINGLE : Fld := { bank := .deputy, addr := 0x4015001C, lo := 8, w := 1, acc := .ro }
/-- R352 [9] RO, 0. Degraded-timed -/
def R.DSP_OUTCOME.DEGRADED : Fld := { bank := .deputy, addr := 0x4015001C, lo := 9, w := 1, acc := .ro }
/-- R352 [10] RO, 0. Controlled form -/
def R.DSP_OUTCOME.SS_CONTROLLED : Fld := { bank := .deputy, addr := 0x4015001C, lo := 10, w := 1, acc := .ro }
/-- R352 [11] RO, 0. Immediate form -/
def R.DSP_OUTCOME.SS_IMMEDIATE : Fld := { bank := .deputy, addr := 0x4015001C, lo := 11, w := 1, acc := .ro }
/-- R352 [2:0] WT, 0. Under R337 -/
def R.DSP_DECLARE.CLASS : Fld := { bank := .deputy, addr := 0x40150020, lo := 0, w := 3, acc := .wt }
/-- R352 [1:0] RO, 0. 0 NONE, 1 GRANT_A, 2 GRANT_B, 3 HOLD -/
def R.DSP_GRANT.STATE : Fld := { bank := .deputy, addr := 0x40150024, lo := 0, w := 2, acc := .ro }
/-- R352 [2] RO, 0. AUTH_REQ_A -/
def R.DSP_GRANT.REQ_A : Fld := { bank := .deputy, addr := 0x40150024, lo := 2, w := 1, acc := .ro }
/-- R352 [3] RO, 0. AUTH_REQ_B -/
def R.DSP_GRANT.REQ_B : Fld := { bank := .deputy, addr := 0x40150024, lo := 3, w := 1, acc := .ro }
/-- R352 [4] RO, 0. Lane A eligible (R20) -/
def R.DSP_GRANT.ELIG_A : Fld := { bank := .deputy, addr := 0x40150024, lo := 4, w := 1, acc := .ro }
/-- R352 [5] RO, 0. Lane B eligible -/
def R.DSP_GRANT.ELIG_B : Fld := { bank := .deputy, addr := 0x40150024, lo := 5, w := 1, acc := .ro }
/-- R352 [31:16] RO, 0. Last hold, 20 ns, saturating -/
def R.DSP_GRANT.HOLD_TIME : Fld := { bank := .deputy, addr := 0x40150024, lo := 16, w := 16, acc := .ro }
/-- R352 [7:0] RC, 0. Saturating -/
def R.DSP_GRANT_CNT.GRANTS : Fld := { bank := .deputy, addr := 0x40150028, lo := 0, w := 8, acc := .rc }
/-- R352 [15:8] RC, 0. Saturating -/
def R.DSP_GRANT_CNT.HOLDS : Fld := { bank := .deputy, addr := 0x40150028, lo := 8, w := 8, acc := .rc }
/-- R352 [23:16] RC, 0. Holds ended under R23, saturating -/
def R.DSP_GRANT_CNT.EXPIRED : Fld := { bank := .deputy, addr := 0x40150028, lo := 16, w := 8, acc := .rc }
/-- R352 [10:0] RWS, cfg. s, 30 to 1,800, clamped. 0 acts as 600 -/
def R.DSP_DEG_CFG.DURATION : Fld := { bank := .deputy, addr := 0x4015002C, lo := 0, w := 11, acc := .rws }
/-- R352 [31:0] RO, All ones. ms remaining. All ones while not running -/
def R.DSP_DEG_REMAIN.MS : Fld := { bank := .deputy, addr := 0x40150030, lo := 0, w := 32, acc := .ro, rst := 4294967295 }
/-- R352 [0] RO, 0. Timer counting -/
def R.DSP_DEG_STATUS.RUNNING : Fld := { bank := .deputy, addr := 0x40150034, lo := 0, w := 1, acc := .ro }
/-- R352 [1] RO, 0. Timer expired -/
def R.DSP_DEG_STATUS.EXPIRED : Fld := { bank := .deputy, addr := 0x40150034, lo := 1, w := 1, acc := .ro }
/-- R352 [4:2] RO, 0. Class that started it -/
def R.DSP_DEG_STATUS.CLASS : Fld := { bank := .deputy, addr := 0x40150034, lo := 2, w := 3, acc := .ro }
/-- R352 [7:0] RWS, cfg. 10 ms, full scale to zero. 0 acts as 1 -/
def R.DSP_SS_CFG.RAMP : Fld := { bank := .deputy, addr := 0x40150038, lo := 0, w := 8, acc := .rws }
/-- R352 [15:8] RWS, cfg. 10 ms -/
def R.DSP_SS_CFG.RAMP_MARGIN : Fld := { bank := .deputy, addr := 0x40150038, lo := 8, w := 8, acc := .rws }
/-- R352 [23:16] RWS, cfg. Safe-stop force, % of PAP_BRK_CFG.I_LIM of each lane, under R344 -/
def R.DSP_SS_CFG.FORCE : Fld := { bank := .deputy, addr := 0x40150038, lo := 16, w := 8, acc := .rws }
/-- R352 [31:24] RWS, cfg. ms. 0 acts as 1 -/
def R.DSP_SS_CFG.BRAKE_WIN : Fld := { bank := .deputy, addr := 0x40150038, lo := 24, w := 8, acc := .rws }
/-- R352 [0] WT, 0. Under R341. Accepted from the granted lane's port only. A write from the other port is discarded with the error response and the capture of R7, and changes nothing -/
def R.DSP_SS_CMD.RAMP_DONE : Fld := { bank := .deputy, addr := 0x4015003C, lo := 0, w := 1, acc := .wt }
/-- R352 [1] WT, 0. Under R341, for the writing lane -/
def R.DSP_SS_CMD.BRAKE_APPLIED : Fld := { bank := .deputy, addr := 0x4015003C, lo := 1, w := 1, acc := .wt }
/-- R352 [1:0] RO, 0. 0 none, 1 controlled, 2 immediate -/
def R.DSP_SS_STATUS.FORM : Fld := { bank := .deputy, addr := 0x40150040, lo := 0, w := 2, acc := .ro }
/-- R352 [2] RO, 0. Ramp window running -/
def R.DSP_SS_STATUS.RAMP_RUN : Fld := { bank := .deputy, addr := 0x40150040, lo := 2, w := 1, acc := .ro }
/-- R352 [3] RO, 0. Under R341 -/
def R.DSP_SS_STATUS.RAMP_EXPIRED : Fld := { bank := .deputy, addr := 0x40150040, lo := 3, w := 1, acc := .ro }
/-- R352 [4] RO, 0. Step 2 of R341, or step 1 of R342, done -/
def R.DSP_SS_STATUS.OUTPUTS_OPEN : Fld := { bank := .deputy, addr := 0x40150040, lo := 4, w := 1, acc := .ro }
/-- R352 [5] RO, 0. Lane A reported -/
def R.DSP_SS_STATUS.BRAKE_A : Fld := { bank := .deputy, addr := 0x40150040, lo := 5, w := 1, acc := .ro }
/-- R352 [6] RO, 0. Lane B reported -/
def R.DSP_SS_STATUS.BRAKE_B : Fld := { bank := .deputy, addr := 0x40150040, lo := 6, w := 1, acc := .ro }
/-- R352 [7] RO, 0. Under R341 -/
def R.DSP_SS_STATUS.BRAKE_WIN_EXP : Fld := { bank := .deputy, addr := 0x40150040, lo := 7, w := 1, acc := .ro }
/-- R352 [7:0] RWS, cfg. A -/
def R.DSP_CLAMP_CFG.I_CLAMP : Fld := { bank := .deputy, addr := 0x40150044, lo := 0, w := 8, acc := .rws }
/-- R352 [15:8] RWS, cfg. 10 mΩ. 0 acts as 1 -/
def R.DSP_CLAMP_CFG.R_WIND : Fld := { bank := .deputy, addr := 0x40150044, lo := 8, w := 8, acc := .rws }
/-- R352 [23:16] RWS, cfg. 10 ms -/
def R.DSP_CLAMP_CFG.T_APPLY : Fld := { bank := .deputy, addr := 0x40150044, lo := 16, w := 8, acc := .rws }
/-- R352 [31:24] RWS, cfg. %, 10 to 100, clamped -/
def R.DSP_CLAMP_CFG.HOLD : Fld := { bank := .deputy, addr := 0x40150044, lo := 24, w := 8, acc := .rws }
/-- R352 [0] RO, 0. Clamp commanded on PA -/
def R.DSP_CLAMP_STATUS.CMD_A : Fld := { bank := .deputy, addr := 0x40150048, lo := 0, w := 1, acc := .ro }
/-- R352 [1] RO, 0. Clamp commanded on PB -/
def R.DSP_CLAMP_STATUS.CMD_B : Fld := { bank := .deputy, addr := 0x40150048, lo := 1, w := 1, acc := .ro }
/-- R352 [2] RO, 0. PA holds a valid frame -/
def R.DSP_CLAMP_STATUS.FRAME_OK_A : Fld := { bank := .deputy, addr := 0x40150048, lo := 2, w := 1, acc := .ro }
/-- R352 [3] RO, 0. PB holds a valid frame -/
def R.DSP_CLAMP_STATUS.FRAME_OK_B : Fld := { bank := .deputy, addr := 0x40150048, lo := 3, w := 1, acc := .ro }
/-- R352 [0] RWS, cfg. Under R336 -/
def R.DSP_RESP_CFG.MISS_LOSS : Fld := { bank := .deputy, addr := 0x4015004C, lo := 0, w := 1, acc := .rws }
/-- R352 [7:4] RWS, cfg. 1 to 15. 0 acts as 1 -/
def R.DSP_RESP_CFG.MISS_LIMIT : Fld := { bank := .deputy, addr := 0x4015004C, lo := 4, w := 4, acc := .rws }
/-- R352 [8] RWS, cfg. Under R336 -/
def R.DSP_RESP_CFG.FE_LOSS : Fld := { bank := .deputy, addr := 0x4015004C, lo := 8, w := 1, acc := .rws }
/-- R352 [9] RWS, cfg. Standby events count under FE_LOSS -/
def R.DSP_RESP_CFG.FE_STBY : Fld := { bank := .deputy, addr := 0x4015004C, lo := 9, w := 1, acc := .rws }
/-- R352 [0] RO, 1. CHS_FAIL_A driven high -/
def R.DSP_CHS.FAIL_A : Fld := { bank := .deputy, addr := 0x40150050, lo := 0, w := 1, acc := .ro, rst := 1 }
/-- R352 [1] RO, 1. CHS_FAIL_B driven high -/
def R.DSP_CHS.FAIL_B : Fld := { bank := .deputy, addr := 0x40150050, lo := 1, w := 1, acc := .ro, rst := 1 }
/-- R352 [0] RO, 0. At or above 9 V -/
def R.DSP_SUPPLY.VBAT_A_OK : Fld := { bank := .deputy, addr := 0x40150054, lo := 0, w := 1, acc := .ro }
/-- R352 [1] RO, 0. At or above 9 V -/
def R.DSP_SUPPLY.VBAT_B_OK : Fld := { bank := .deputy, addr := 0x40150054, lo := 1, w := 1, acc := .ro }
/-- R352 [2] RO, 0. At or above 9 V -/
def R.DSP_SUPPLY.VSO_OK : Fld := { bank := .deputy, addr := 0x40150054, lo := 2, w := 1, acc := .ro }
/-- R352 [15:8] RO, 0. 0.25 V, saturating -/
def R.DSP_SUPPLY.VBAT_A : Fld := { bank := .deputy, addr := 0x40150054, lo := 8, w := 8, acc := .ro }
/-- R352 [23:16] RO, 0. 0.25 V, saturating -/
def R.DSP_SUPPLY.VBAT_B : Fld := { bank := .deputy, addr := 0x40150054, lo := 16, w := 8, acc := .ro }
/-- R352 [0] RO, 0. Oscillators agree within 2 % -/
def R.DSP_OSC.OK : Fld := { bank := .deputy, addr := 0x40150058, lo := 0, w := 1, acc := .ro }
/-- R352 [15:8] RO, 0. Signed RC deviation from the watchdog oscillator, 0.1 % -/
def R.DSP_OSC.DEV : Fld := { bank := .deputy, addr := 0x40150058, lo := 8, w := 8, acc := .ro }
/-- R352 [8:0] RO, 0. Sensor 0, signed, °C -/
def R.DSP_TEMP.T0 : Fld := { bank := .deputy, addr := 0x4015005C, lo := 0, w := 9, acc := .ro }
/-- R352 [24:16] RO, 0. Sensor 1, signed, °C -/
def R.DSP_TEMP.T1 : Fld := { bank := .deputy, addr := 0x4015005C, lo := 16, w := 9, acc := .ro }
/-- R352 [7:0] RO, 0. Pattern of R302 -/
def R.DSP_LAMP.STAT0 : Fld := { bank := .deputy, addr := 0x40150060, lo := 0, w := 8, acc := .ro }
/-- R352 [15:8] RO, 0. Pattern of R302 -/
def R.DSP_LAMP.STAT1 : Fld := { bank := .deputy, addr := 0x40150060, lo := 8, w := 8, acc := .ro }
/-- R352 [19:16] RO, 0. Row of R302 in force, 0 first -/
def R.DSP_LAMP.ROW : Fld := { bank := .deputy, addr := 0x40150060, lo := 16, w := 4, acc := .ro }
/-- R352 [0] RWS, 1. Wake on WAKE0. The reset values of this register apply from island S qualification until ST14 loads the configured value (R84) -/
def R.DSP_WAKE_CFG.WAKE0_EN : Fld := { bank := .deputy, addr := 0x40150064, lo := 0, w := 1, acc := .rws, rst := 1 }
/-- R352 [1] RWS, 1. Wake on WAKE1 -/
def R.DSP_WAKE_CFG.WAKE1_EN : Fld := { bank := .deputy, addr := 0x40150064, lo := 1, w := 1, acc := .rws, rst := 1 }
/-- R352 [2] RWS, 0. 0 active high, 1 active low -/
def R.DSP_WAKE_CFG.WAKE0_POL : Fld := { bank := .deputy, addr := 0x40150064, lo := 2, w := 1, acc := .rws }
/-- R352 [3] RWS, 0. As WAKE0_POL -/
def R.DSP_WAKE_CFG.WAKE1_POL : Fld := { bank := .deputy, addr := 0x40150064, lo := 3, w := 1, acc := .rws }
/-- R352 [15:8] RWS, 1. Active for at least this, ms. 0 acts as 1 -/
def R.DSP_WAKE_CFG.FILT : Fld := { bank := .deputy, addr := 0x40150064, lo := 8, w := 8, acc := .rws, rst := 1 }
/-- R352 [0] RO, 0. Filtered level -/
def R.DSP_WAKE_STATUS.WAKE0 : Fld := { bank := .deputy, addr := 0x40150068, lo := 0, w := 1, acc := .ro }
/-- R352 [1] RO, 0. Filtered level -/
def R.DSP_WAKE_STATUS.WAKE1 : Fld := { bank := .deputy, addr := 0x40150068, lo := 1, w := 1, acc := .ro }
/-- R352 [8] W1C, 0. Last wake by WAKE0 -/
def R.DSP_WAKE_STATUS.WOKE0 : Fld := { bank := .deputy, addr := 0x40150068, lo := 8, w := 1, acc := .w1c }
/-- R352 [9] W1C, 0. Last wake by WAKE1 -/
def R.DSP_WAKE_STATUS.WOKE1 : Fld := { bank := .deputy, addr := 0x40150068, lo := 9, w := 1, acc := .w1c }
/-- R352 [10] W1C, 0. Last wake by a short press (R300) -/
def R.DSP_WAKE_STATUS.WOKE_BTN : Fld := { bank := .deputy, addr := 0x40150068, lo := 10, w := 1, acc := .w1c }
/-- R352 [2:0] RO, 1. Mode code, from step 6 of R86 -/
def R.DSP_MODE.MODE : Fld := { bank := .deputy, addr := 0x4015006C, lo := 0, w := 3, acc := .ro, rst := 1 }
/-- R352 [7:0] RO, 0. Shared timebases in replay -/
def R.DSP_HOLD.TB : Fld := { bank := .deputy, addr := 0x40150070, lo := 0, w := 8, acc := .ro }
/-- R352 [8] RO, 0. Last hold ended under R23 -/
def R.DSP_HOLD.EXPIRED : Fld := { bank := .deputy, addr := 0x40150070, lo := 8, w := 1, acc := .ro }
/-- R352 [1:0] RO, 0. OV2 line of lane A, lane B -/
def R.DSP_OV_STATUS.OV2 : Fld := { bank := .deputy, addr := 0x40150074, lo := 0, w := 2, acc := .ro }
/-- R352 [3:2] RO, 0. OV3 line of lane A, lane B -/
def R.DSP_OV_STATUS.OV3 : Fld := { bank := .deputy, addr := 0x40150074, lo := 2, w := 2, acc := .ro }
/-- R352 [4] RO, 0. Regeneration clamp asserted -/
def R.DSP_OV_STATUS.CLAMP : Fld := { bank := .deputy, addr := 0x40150074, lo := 4, w := 1, acc := .ro }
/-- R352 [5] RO, 0. Chopper override on -/
def R.DSP_OV_STATUS.CHOP_OVR : Fld := { bank := .deputy, addr := 0x40150074, lo := 5, w := 1, acc := .ro }
/-- R352 [6] RO, 0. R274 short circuit applied -/
def R.DSP_OV_STATUS.ASC_HOLD : Fld := { bank := .deputy, addr := 0x40150074, lo := 6, w := 1, acc := .ro }
/-- R352 [7:0] RC, 0. Saturating -/
def R.DSP_OV_CNT.OV2 : Fld := { bank := .deputy, addr := 0x40150078, lo := 0, w := 8, acc := .rc }
/-- R352 [15:8] RC, 0. Saturating -/
def R.DSP_OV_CNT.OV3 : Fld := { bank := .deputy, addr := 0x40150078, lo := 8, w := 8, acc := .rc }
/-- R352 [7:0] RO, 0. HEN0–HEN7 levels -/
def R.DSP_HEN.LEVEL : Fld := { bank := .deputy, addr := 0x4015007C, lo := 0, w := 8, acc := .ro }
/-- R352 [15:8] RO, 0. Groups held at their safe action under R236 -/
def R.DSP_HEN.HELD : Fld := { bank := .deputy, addr := 0x4015007C, lo := 8, w := 8, acc := .ro }
/-- R352 [0] RO, 0. Training lock taken (R239) -/
def R.DSP_TRAIN.LOCK : Fld := { bank := .deputy, addr := 0x40150080, lo := 0, w := 1, acc := .ro }
/-- R352 [1] RO, 0. 0 lane A, 1 lane B -/
def R.DSP_TRAIN.OWNER : Fld := { bank := .deputy, addr := 0x40150080, lo := 1, w := 1, acc := .ro }
/-- R352 [2] RO, 0. Under R239 -/
def R.DSP_TRAIN.RECORD_VALID : Fld := { bank := .deputy, addr := 0x40150080, lo := 2, w := 1, acc := .ro }
/-- R352 [7:0] RC, 0. Saturating -/
def R.DSP_FAULT_CNT.DECLARATIONS : Fld := { bank := .deputy, addr := 0x40150084, lo := 0, w := 8, acc := .rc }
/-- R352 [15:8] RC, 0. Records with class none, saturating -/
def R.DSP_FAULT_CNT.EVENTS : Fld := { bank := .deputy, addr := 0x40150084, lo := 8, w := 8, acc := .rc }
/-- R352 [23:16] RC, 0. Tally misses, saturating -/
def R.DSP_FAULT_CNT.MISSES : Fld := { bank := .deputy, addr := 0x40150084, lo := 16, w := 8, acc := .rc }
/-- R352 [31:24] RC, 0. Following-error events, saturating -/
def R.DSP_FAULT_CNT.FE : Fld := { bank := .deputy, addr := 0x40150084, lo := 24, w := 8, acc := .rc }
/-- R352 [4:0] RO, 0. Next record r -/
def R.DSP_FR_HEAD.NEXT : Fld := { bank := .deputy, addr := 0x40150088, lo := 0, w := 5, acc := .ro }
/-- R352 [15:8] RO, 0. Records written, saturating -/
def R.DSP_FR_HEAD.COUNT : Fld := { bank := .deputy, addr := 0x40150088, lo := 8, w := 8, acc := .ro }
/-- R352 [16] RO, 0. A record was overwritten -/
def R.DSP_FR_HEAD.WRAPPED : Fld := { bank := .deputy, addr := 0x40150088, lo := 16, w := 1, acc := .ro }
/-- R352 [15:0] RWS, cfg. Half-bridges of PA under R343 -/
def R.DSP_CLAMP_MASK.MASK_A : Fld := { bank := .deputy, addr := 0x4015008C, lo := 0, w := 16, acc := .rws }
/-- R352 [31:16] RWS, cfg. Half-bridges of PB -/
def R.DSP_CLAMP_MASK.MASK_B : Fld := { bank := .deputy, addr := 0x4015008C, lo := 16, w := 16, acc := .rws }
/-- R352 [31:0] RWS, cfg. Copy of NRG_OV2, same fields (R276) -/
def R.DSP_OV2.VALUE : Fld := { bank := .deputy, addr := 0x40150090, lo := 0, w := 32, acc := .rws }
/-- R352 [31:0] RWS, cfg. Copy of NRG_OV3 -/
def R.DSP_OV3.VALUE : Fld := { bank := .deputy, addr := 0x40150094, lo := 0, w := 32, acc := .rws }
/-- R352 [31:0] RWS, cfg. Copy of NRG_CHOP -/
def R.DSP_CHOP.VALUE : Fld := { bank := .deputy, addr := 0x40150098, lo := 0, w := 32, acc := .rws }
/-- R352 [31:0] RW, 0. Network time at Parked entry, bits [31:0], 10 ns -/
def R.DSP_PK_NET_LO.TIME : Fld := { bank := .deputy, addr := 0x401500A0, lo := 0, w := 32, acc := .rw }
/-- R352 [31:0] RW, 0. Bits [63:32] -/
def R.DSP_PK_NET_HI.TIME : Fld := { bank := .deputy, addr := 0x401500A4, lo := 0, w := 32, acc := .rw }
/-- R352 [31:0] RW, All ones. Its uncertainty, µs -/
def R.DSP_PK_NET_UNC.US : Fld := { bank := .deputy, addr := 0x401500A8, lo := 0, w := 32, acc := .rw, rst := 4294967295 }
/-- R352 [31:0] RW, 0. Watchdog oscillator estimate, mHz (R101) -/
def R.DSP_PK_FREQ.MHZ : Fld := { bank := .deputy, addr := 0x401500AC, lo := 0, w := 32, acc := .rw }
/-- R352 [31:0] RO, 0. Count at Parked entry -/
def R.DSP_PK_START.COUNT : Fld := { bank := .deputy, addr := 0x401500B0, lo := 0, w := 32, acc := .ro }
/-- R352 [31:0] RO, 0. Count at the source change (R101) -/
def R.DSP_PK_CHANGE.COUNT : Fld := { bank := .deputy, addr := 0x401500B4, lo := 0, w := 32, acc := .ro }
/-- R352 [31:0] RO, 0. Count at Parked exit -/
def R.DSP_PK_STOP.COUNT : Fld := { bank := .deputy, addr := 0x401500B8, lo := 0, w := 32, acc := .ro }
/-- R352 [31:0] RO, 0. Elapsed time, bits [31:0], 10 ns -/
def R.DSP_PK_ELAPSED_LO.TIME : Fld := { bank := .deputy, addr := 0x401500BC, lo := 0, w := 32, acc := .ro }
/-- R352 [31:0] RO, 0. Bits [63:32] -/
def R.DSP_PK_ELAPSED_HI.TIME : Fld := { bank := .deputy, addr := 0x401500C0, lo := 0, w := 32, acc := .ro }
/-- R352 [31:0] RO, All ones. Bound of R101, µs -/
def R.DSP_PK_UNC.US : Fld := { bank := .deputy, addr := 0x401500C4, lo := 0, w := 32, acc := .ro, rst := 4294967295 }
/-- R352 [0] RO, 0. Elapsed time published -/
def R.DSP_PK_INFO.VALID : Fld := { bank := .deputy, addr := 0x401500C8, lo := 0, w := 1, acc := .ro }
/-- R352 [1] RO, 0. Source changed -/
def R.DSP_PK_INFO.SRC_CHANGE : Fld := { bank := .deputy, addr := 0x401500C8, lo := 1, w := 1, acc := .ro }
/-- R352 [2] RO, 0. 0 watchdog oscillator, 1 RC oscillator -/
def R.DSP_PK_INFO.SOURCE : Fld := { bank := .deputy, addr := 0x401500C8, lo := 2, w := 1, acc := .ro }
/-- R352 [7:0] RWS, cfg. s. 0 disables periodic tests -/
def R.DSP_SO_TEST.PERIOD : Fld := { bank := .deputy, addr := 0x401500D0, lo := 0, w := 8, acc := .rws }
/-- R352 [15:8] RWS, cfg. 10 µs, 5 to 50, clamped -/
def R.DSP_SO_TEST.PULSE : Fld := { bank := .deputy, addr := 0x401500D0, lo := 8, w := 8, acc := .rws }
/-- R352 [16] RWS, cfg. Under R347 -/
def R.DSP_SO_TEST.AT_START : Fld := { bank := .deputy, addr := 0x401500D0, lo := 16, w := 1, acc := .rws }
/-- R352 [3:0] RO, 0. Output last tested -/
def R.DSP_SO_TEST_STATUS.LAST_OUT : Fld := { bank := .deputy, addr := 0x401500D4, lo := 0, w := 4, acc := .ro }
/-- R352 [6:4] RO, 0. Code under R347 -/
def R.DSP_SO_TEST_STATUS.LAST_RESULT : Fld := { bank := .deputy, addr := 0x401500D4, lo := 4, w := 3, acc := .ro }
/-- R352 [7] RO, 0. Test running -/
def R.DSP_SO_TEST_STATUS.BUSY : Fld := { bank := .deputy, addr := 0x401500D4, lo := 7, w := 1, acc := .ro }
/-- R352 [27:16] RO, 0. Outputs with FAIL -/
def R.DSP_SO_TEST_STATUS.FAILED : Fld := { bank := .deputy, addr := 0x401500D4, lo := 16, w := 12, acc := .ro }
/-- R352 [11:0] RO, 0. SO_FB_k levels -/
def R.DSP_SO_FB.LEVEL : Fld := { bank := .deputy, addr := 0x401500D8, lo := 0, w := 12, acc := .ro }
/-- R352 [11:0] RO, 0. SO_LS_k sense levels -/
def R.DSP_SO_LS.LEVEL : Fld := { bank := .deputy, addr := 0x401500DC, lo := 0, w := 12, acc := .ro }
/-- R352 [5:0] RO, 0. Weld record, one bit per contactor c -/
def R.DSP_WELD.WELDED : Fld := { bank := .deputy, addr := 0x401500E0, lo := 0, w := 6, acc := .ro }
/-- R352 [3:0] WT, 0. Output to test -/
def R.DSP_SO_TEST_CMD.OUT : Fld := { bank := .deputy, addr := 0x401500E4, lo := 0, w := 4, acc := .wt }
/-- R352 [4] WT, 0. Starts the test, in Service only -/
def R.DSP_SO_TEST_CMD.GO : Fld := { bank := .deputy, addr := 0x401500E4, lo := 4, w := 1, acc := .wt }
/-- R352 [7:0] WT, 0. Under R333 -/
def R.DSP_Lx_HB.SEQ : Fld := { bank := .deputy, addr := 0x40150100, s1 := 0x40, n1 := 2, lo := 0, w := 8, acc := .wt }
/-- R352 [15:0] RWS, cfg. µs -/
def R.DSP_Lx_HB_CFG.OPEN : Fld := { bank := .deputy, addr := 0x40150104, s1 := 0x40, n1 := 2, lo := 0, w := 16, acc := .rws }
/-- R352 [31:16] RWS, cfg. µs -/
def R.DSP_Lx_HB_CFG.CLOSE : Fld := { bank := .deputy, addr := 0x40150104, s1 := 0x40, n1 := 2, lo := 16, w := 16, acc := .rws }
/-- R352 [12:0] RWS, cfg. 10 to 5,000, clamped -/
def R.DSP_Lx_HB_START.MS : Fld := { bank := .deputy, addr := 0x40150108, s1 := 0x40, n1 := 2, lo := 0, w := 13, acc := .rws }
/-- R352 [0] RO, 0. Under R334 -/
def R.DSP_Lx_STATUS.ARMED : Fld := { bank := .deputy, addr := 0x4015010C, s1 := 0x40, n1 := 2, lo := 0, w := 1, acc := .ro }
/-- R352 [1] RO, 0. Lane declared lost -/
def R.DSP_Lx_STATUS.LOST : Fld := { bank := .deputy, addr := 0x4015010C, s1 := 0x40, n1 := 2, lo := 1, w := 1, acc := .ro }
/-- R352 [2] RO, 0. Under R20 -/
def R.DSP_Lx_STATUS.ELIGIBLE : Fld := { bank := .deputy, addr := 0x4015010C, s1 := 0x40, n1 := 2, lo := 2, w := 1, acc := .ro }
/-- R352 [3] RO, 0. Lane completed ST19 -/
def R.DSP_Lx_STATUS.DONE : Fld := { bank := .deputy, addr := 0x4015010C, s1 := 0x40, n1 := 2, lo := 3, w := 1, acc := .ro }
/-- R352 [15:8] RO, 0. Last accepted SEQ -/
def R.DSP_Lx_STATUS.LAST_SEQ : Fld := { bank := .deputy, addr := 0x4015010C, s1 := 0x40, n1 := 2, lo := 8, w := 8, acc := .ro }
/-- R352 [31:16] RO, 0. Last accepted interval, µs, saturating -/
def R.DSP_Lx_STATUS.INTERVAL : Fld := { bank := .deputy, addr := 0x4015010C, s1 := 0x40, n1 := 2, lo := 16, w := 16, acc := .ro }
/-- R352 [31:0] RO, 0. Last reported signature -/
def R.DSP_Lx_SIG.SIG : Fld := { bank := .deputy, addr := 0x40150110, s1 := 0x40, n1 := 2, lo := 0, w := 32, acc := .ro }
/-- R352 [0] RO, 0. Last MATCH report -/
def R.DSP_Lx_COPY.MATCH : Fld := { bank := .deputy, addr := 0x40150114, s1 := 0x40, n1 := 2, lo := 0, w := 1, acc := .ro }
/-- R352 [3:1] RO, 0. 0 verified, then the rows of R312 in order from 1 -/
def R.DSP_Lx_COPY.VERDICT : Fld := { bank := .deputy, addr := 0x40150114, s1 := 0x40, n1 := 2, lo := 1, w := 3, acc := .ro }
/-- R352 [31:16] RO, 0. Bits [15:0] of the judged cycle -/
def R.DSP_Lx_COPY.CYCLE : Fld := { bank := .deputy, addr := 0x40150114, s1 := 0x40, n1 := 2, lo := 16, w := 16, acc := .ro }
/-- R352 [7:0] RC, 0. Saturating -/
def R.DSP_Lx_CNT.HB_MISS : Fld := { bank := .deputy, addr := 0x40150118, s1 := 0x40, n1 := 2, lo := 0, w := 8, acc := .rc }
/-- R352 [15:8] RC, 0. Saturating -/
def R.DSP_Lx_CNT.WINDOW_MISS : Fld := { bank := .deputy, addr := 0x40150118, s1 := 0x40, n1 := 2, lo := 8, w := 8, acc := .rc }
/-- R352 [23:16] RC, 0. Saturating -/
def R.DSP_Lx_CNT.COPY_AGAINST : Fld := { bank := .deputy, addr := 0x40150118, s1 := 0x40, n1 := 2, lo := 16, w := 8, acc := .rc }
/-- R352 [31:24] RC, 0. Saturating -/
def R.DSP_Lx_CNT.FE_EVENTS : Fld := { bank := .deputy, addr := 0x40150118, s1 := 0x40, n1 := 2, lo := 24, w := 8, acc := .rc }
/-- R352 [15:0] RC, 0. Tally misses, saturating -/
def R.DSP_Lx_MISS_CNT.MISSES : Fld := { bank := .deputy, addr := 0x4015011C, s1 := 0x40, n1 := 2, lo := 0, w := 16, acc := .rc }
/-- R352 [12:0] W1C, 0. Bit c − 1 for each cause code c that concerned the lane -/
def R.DSP_Lx_FAULT.CAUSE : Fld := { bank := .deputy, addr := 0x40150120, s1 := 0x40, n1 := 2, lo := 0, w := 13, acc := .w1c }
/-- R352 [4:0] RO, 0. Slot of the last following-error event -/
def R.DSP_Lx_EVT.FE_SLOT : Fld := { bank := .deputy, addr := 0x40150124, s1 := 0x40, n1 := 2, lo := 0, w := 5, acc := .ro }
/-- R352 [11:8] RO, 0. Queue of the last tally miss -/
def R.DSP_Lx_EVT.MISS_Q : Fld := { bank := .deputy, addr := 0x40150124, s1 := 0x40, n1 := 2, lo := 8, w := 4, acc := .ro }
/-- R352 [12] RO, 0. Last event reported from standby -/
def R.DSP_Lx_EVT.STANDBY : Fld := { bank := .deputy, addr := 0x40150124, s1 := 0x40, n1 := 2, lo := 12, w := 1, acc := .ro }
/-- R352 [2:0] RO, 0. Fault-class code -/
def R.DSP_FRr_INFO.CLASS : Fld := { bank := .deputy, addr := 0x40150200, s1 := 0x8, n1 := 32, lo := 0, w := 3, acc := .ro }
/-- R352 [6:3] RO, 0. Cause code -/
def R.DSP_FRr_INFO.CAUSE : Fld := { bank := .deputy, addr := 0x40150200, s1 := 0x8, n1 := 32, lo := 3, w := 4, acc := .ro }
/-- R352 [7] RO, 0. Reported by the standby lane -/
def R.DSP_FRr_INFO.STANDBY : Fld := { bank := .deputy, addr := 0x40150200, s1 := 0x8, n1 := 32, lo := 7, w := 1, acc := .ro }
/-- R352 [12:8] RO, 0. Slot, queue or output -/
def R.DSP_FRr_INFO.DETAIL : Fld := { bank := .deputy, addr := 0x40150200, s1 := 0x8, n1 := 32, lo := 8, w := 5, acc := .ro }
/-- R352 [19:16] RO, 0. Bits [11:8] of DSP_OUTCOME after the record -/
def R.DSP_FRr_INFO.OUTCOME : Fld := { bank := .deputy, addr := 0x40150200, s1 := 0x8, n1 := 32, lo := 16, w := 4, acc := .ro }
/-- R352 [31] RO, 0. Record written -/
def R.DSP_FRr_INFO.VALID : Fld := { bank := .deputy, addr := 0x40150200, s1 := 0x8, n1 := 32, lo := 31, w := 1, acc := .ro }
/-- R352 [31:0] RO, 0. Deputy time bits [31:0] -/
def R.DSP_FRr_TIME.TIME : Fld := { bank := .deputy, addr := 0x40150204, s1 := 0x8, n1 := 32, lo := 0, w := 32, acc := .ro }
/-- R352 [1:0] RWS, cfg. Under R345 -/
def R.DSP_SOk_CFG.FUNC : Fld := { bank := .deputy, addr := 0x40150400, s1 := 0x10, n1 := 12, lo := 0, w := 2, acc := .rws }
/-- R352 [2] RWS, cfg. Under R347 -/
def R.DSP_SOk_CFG.TEST_EN : Fld := { bank := .deputy, addr := 0x40150400, s1 := 0x10, n1 := 12, lo := 2, w := 1, acc := .rws }
/-- R352 [0] RW, 0. Close request, from the mode master -/
def R.DSP_SOk_CMD.CLOSE : Fld := { bank := .deputy, addr := 0x40150404, s1 := 0x10, n1 := 12, lo := 0, w := 1, acc := .rw }
/-- R352 [1] RW, 0. As NRG_CTRc_ECO.ECO_EN -/
def R.DSP_SOk_CMD.ECO_EN : Fld := { bank := .deputy, addr := 0x40150404, s1 := 0x10, n1 := 12, lo := 1, w := 1, acc := .rw }
/-- R352 [8:2] RW, 0. As NRG_CTRc_ECO.DUTY -/
def R.DSP_SOk_CMD.DUTY : Fld := { bank := .deputy, addr := 0x40150404, s1 := 0x10, n1 := 12, lo := 2, w := 7, acc := .rw }
/-- R352 [13:9] RW, 0. As NRG_CTRc_ECO.FREQ -/
def R.DSP_SOk_CMD.FREQ : Fld := { bank := .deputy, addr := 0x40150404, s1 := 0x10, n1 := 12, lo := 9, w := 5, acc := .rw }
/-- R352 [21:14] RW, 0. As NRG_CTRc_CFG.T_PULL, ms. Written by the mode master with each close request. The Deputy times PULL from it (R278) -/
def R.DSP_SOk_CMD.T_PULL : Fld := { bank := .deputy, addr := 0x40150404, s1 := 0x10, n1 := 12, lo := 14, w := 8, acc := .rw }
/-- R352 [0] RO, 0. High side closed -/
def R.DSP_SOk_STATUS.HS : Fld := { bank := .deputy, addr := 0x40150408, s1 := 0x10, n1 := 12, lo := 0, w := 1, acc := .ro }
/-- R352 [1] RO, 0. Low side closed -/
def R.DSP_SOk_STATUS.LS : Fld := { bank := .deputy, addr := 0x40150408, s1 := 0x10, n1 := 12, lo := 1, w := 1, acc := .ro }
/-- R352 [2] RO, 0. SO_FB_k level -/
def R.DSP_SOk_STATUS.FB : Fld := { bank := .deputy, addr := 0x40150408, s1 := 0x10, n1 := 12, lo := 2, w := 1, acc := .ro }
/-- R352 [3] RO, 0. SO_LS_k sense level -/
def R.DSP_SOk_STATUS.LS_SENSE : Fld := { bank := .deputy, addr := 0x40150408, s1 := 0x10, n1 := 12, lo := 3, w := 1, acc := .ro }
/-- R352 [4] W1C, 0. Close refused under R348 -/
def R.DSP_SOk_STATUS.REFUSED : Fld := { bank := .deputy, addr := 0x40150408, s1 := 0x10, n1 := 12, lo := 4, w := 1, acc := .w1c }
/-- R352 [5] RO, 0. Under R348. Cleared at Parked entry -/
def R.DSP_SOk_STATUS.FAIL : Fld := { bank := .deputy, addr := 0x40150408, s1 := 0x10, n1 := 12, lo := 5, w := 1, acc := .ro }
/-- R352 [6] W1C, 0. Under R346 -/
def R.DSP_SOk_STATUS.FB_ERR : Fld := { bank := .deputy, addr := 0x40150408, s1 := 0x10, n1 := 12, lo := 6, w := 1, acc := .w1c }
/-- R352 [10:8] RO, 0. Code under R347 -/
def R.DSP_SOk_STATUS.FAIL_CAUSE : Fld := { bank := .deputy, addr := 0x40150408, s1 := 0x10, n1 := 12, lo := 8, w := 3, acc := .ro }
/-- R352 [15:0] RC, 0. Saturating -/
def R.DSP_SOk_CNT.TESTS : Fld := { bank := .deputy, addr := 0x4015040C, s1 := 0x10, n1 := 12, lo := 0, w := 16, acc := .rc }
/-- R352 [31:16] RC, 0. Saturating -/
def R.DSP_SOk_CNT.FB_ERRS : Fld := { bank := .deputy, addr := 0x4015040C, s1 := 0x10, n1 := 12, lo := 16, w := 16, acc := .rc }
/-- R352 [1:0] RO, 0. As HLK_GRPg_CFG -/
def R.DSP_GRPg.VALUE : Fld := { bank := .deputy, addr := 0x40150500, s1 := 0x4, n1 := 8, lo := 0, w := 2, acc := .ro }
/-- R352 [28:0] RO, 0. As HLK_LEGm_CFG -/
def R.DSP_LEGm.VALUE : Fld := { bank := .deputy, addr := 0x40150540, s1 := 0x4, n1 := 20, lo := 0, w := 29, acc := .ro }
/-- R352 [5:0] RO, 0. As HLK_LINKnn_CFG -/
def R.DSP_LINKnn.VALUE : Fld := { bank := .deputy, addr := 0x40150600, s1 := 0x4, n1 := 40, lo := 0, w := 6, acc := .ro }
/-- R368 [0] RWS, cfg. Under R357 -/
def R.LCK_CFG.HALT : Fld := { bank := .lane, addr := 0x400D0000, lo := 0, w := 1, acc := .rws }
/-- R368 [0] RO, 1. AP compared, not split -/
def R.LCK_STATUS.LOCKED_AP : Fld := { bank := .lane, addr := 0x400D0004, lo := 0, w := 1, acc := .ro, rst := 1 }
/-- R368 [1] RO, 1. CP compared, not split -/
def R.LCK_STATUS.LOCKED_CP : Fld := { bank := .lane, addr := 0x400D0004, lo := 1, w := 1, acc := .ro, rst := 1 }
/-- R368 [3:2] RO, 0. Bit 2 AP, bit 3 CP, under R361 -/
def R.LCK_STATUS.DEBUG_SPLIT : Fld := { bank := .lane, addr := 0x400D0004, lo := 2, w := 2, acc := .ro }
/-- R368 [4] RO, 0. ST04 passed -/
def R.LCK_STATUS.CANARY_PASS : Fld := { bank := .lane, addr := 0x400D0004, lo := 4, w := 1, acc := .ro }
/-- R368 [5] RO, 0. Checker fault, readable through the debug port under HALT -/
def R.LCK_STATUS.FAULT : Fld := { bank := .lane, addr := 0x400D0004, lo := 5, w := 1, acc := .ro }
/-- R368 [0] RO, 0. 0 AP, 1 CP -/
def R.LCK_FAULT.PAIR : Fld := { bank := .lane, addr := 0x400D0008, lo := 0, w := 1, acc := .ro }
/-- R368 [1] RO, 0. Both pairs faulted in the same cycle -/
def R.LCK_FAULT.BOTH : Fld := { bank := .lane, addr := 0x400D0008, lo := 1, w := 1, acc := .ro }
/-- R368 [4:2] RO, 0. 0 none, 1 mismatch, 2 input delay parity, 3 output delay parity, 4 rail code, 5 collector disagreement -/
def R.LCK_FAULT.KIND : Fld := { bank := .lane, addr := 0x400D0008, lo := 2, w := 3, acc := .ro }
/-- R368 [11:8] RO, 0. Compare group of R353 -/
def R.LCK_FAULT.GROUP : Fld := { bank := .lane, addr := 0x400D0008, lo := 8, w := 4, acc := .ro }
/-- R368 [12] RO, 0. Delay stage for kinds 2 and 3: 0 first, 1 second -/
def R.LCK_FAULT.STAGE : Fld := { bank := .lane, addr := 0x400D0008, lo := 12, w := 1, acc := .ro }
/-- R368 [31] RO, 0. Record written -/
def R.LCK_FAULT.VALID : Fld := { bank := .lane, addr := 0x400D0008, lo := 31, w := 1, acc := .ro }
/-- R368 [31:0] RO, 0. Lane time bits [31:0] of the fault -/
def R.LCK_FAULT_TIME.TIME : Fld := { bank := .lane, addr := 0x400D000C, lo := 0, w := 32, acc := .ro }
/-- R368 [31:0] RO, Kept, 0. LCK_FAULT before the last self-reset -/
def R.LCK_PREV_FAULT.VALUE : Fld := { bank := .lane, addr := 0x400D0010, lo := 0, w := 32, acc := .ro, kept := true }
/-- R368 [31:0] RO, Kept, 0. LCK_FAULT_TIME before the last self-reset -/
def R.LCK_PREV_TIME.TIME : Fld := { bank := .lane, addr := 0x400D0014, lo := 0, w := 32, acc := .ro, kept := true }
/-- R368 [0] RO, 0. Injection ended -/
def R.LCK_CANARY_STATUS.DONE : Fld := { bank := .lane, addr := 0x400D0018, lo := 0, w := 1, acc := .ro }
/-- R368 [1] RO, 0. Every event passed -/
def R.LCK_CANARY_STATUS.PASS : Fld := { bank := .lane, addr := 0x400D0018, lo := 1, w := 1, acc := .ro }
/-- R368 [2] RO, 0. Under R360 -/
def R.LCK_CANARY_STATUS.UNEXPECTED : Fld := { bank := .lane, addr := 0x400D0018, lo := 2, w := 1, acc := .ro }
/-- R368 [7:4] RO, 0. Events 96 to 99 passed, one bit each -/
def R.LCK_CANARY_STATUS.COLLECTOR : Fld := { bank := .lane, addr := 0x400D0018, lo := 4, w := 4, acc := .ro }
/-- R368 [14:8] RO, 0. First failing index. 127 when none failed -/
def R.LCK_CANARY_STATUS.FIRST_FAIL : Fld := { bank := .lane, addr := 0x400D0018, lo := 8, w := 7, acc := .ro }
/-- R368 [31:16] RO, 0. Injection duration, CPU cycles -/
def R.LCK_CANARY_STATUS.CYCLES : Fld := { bank := .lane, addr := 0x400D0018, lo := 16, w := 16, acc := .ro }
/-- R368 [15:0] RO, 0. Groups whose three events passed -/
def R.LCK_CANARY_Pp.GROUPS : Fld := { bank := .lane, addr := 0x400D0020, s1 := 0x4, n1 := 2, lo := 0, w := 16, acc := .ro }
/-- R368 [0] RO, 0. Debug port open -/
def R.LCK_DBG.OPEN : Fld := { bank := .lane, addr := 0x400D0028, lo := 0, w := 1, acc := .ro }
/-- R368 [1] RO, 0. AP main core stopped by debug -/
def R.LCK_DBG.HALT_AP : Fld := { bank := .lane, addr := 0x400D0028, lo := 1, w := 1, acc := .ro }
/-- R368 [2] RO, 0. CP main core stopped by debug -/
def R.LCK_DBG.HALT_CP : Fld := { bank := .lane, addr := 0x400D0028, lo := 2, w := 1, acc := .ro }
/-- R369 [3:0] RO, 0. One bit per unit with a block open -/
def R.CVU_STATUS.BUSY : Fld := { bank := .lane, addr := 0x400D8000, lo := 0, w := 4, acc := .ro }
/-- R369 [7:4] RO, 0. One bit per unit with its interrupt pending -/
def R.CVU_STATUS.IRQ : Fld := { bank := .lane, addr := 0x400D8000, lo := 4, w := 4, acc := .ro }
/-- R369 [2:0] RW, cfg. Under R363 -/
def R.CVU_Un_CFG.POLY : Fld := { bank := .lane, addr := 0x400D8100, s1 := 0x40, n1 := 4, lo := 0, w := 3, acc := .rw }
/-- R369 [4] RW, cfg. 0 compute, 1 check -/
def R.CVU_Un_CFG.MODE : Fld := { bank := .lane, addr := 0x400D8100, s1 := 0x40, n1 := 4, lo := 4, w := 1, acc := .rw }
/-- R369 [5] RW, cfg. Under R366 -/
def R.CVU_Un_CFG.ALIVE_EN : Fld := { bank := .lane, addr := 0x400D8100, s1 := 0x40, n1 := 4, lo := 5, w := 1, acc := .rw }
/-- R369 [7:6] RW, cfg. 0 4 bits, 1 8 bits, 2 16 bits, 3 acts as 2 -/
def R.CVU_Un_CFG.ALIVE_W : Fld := { bank := .lane, addr := 0x400D8100, s1 := 0x40, n1 := 4, lo := 6, w := 2, acc := .rw }
/-- R369 [15:8] RW, cfg. 0 acts as 1 -/
def R.CVU_Un_CFG.MAX_DELTA : Fld := { bank := .lane, addr := 0x400D8100, s1 := 0x40, n1 := 4, lo := 8, w := 8, acc := .rw }
/-- R369 [16] RW, cfg. Interrupt on MISMATCH, REPEAT, JUMP or UNIT_ERR -/
def R.CVU_Un_CFG.IRQ_EN : Fld := { bank := .lane, addr := 0x400D8100, s1 := 0x40, n1 := 4, lo := 16, w := 1, acc := .rw }
/-- R369 [0] WT, 0. Under R364 -/
def R.CVU_Un_CMD.START : Fld := { bank := .lane, addr := 0x400D8104, s1 := 0x40, n1 := 4, lo := 0, w := 1, acc := .wt }
/-- R369 [1] WT, 0. Under R364 and R365 -/
def R.CVU_Un_CMD.END : Fld := { bank := .lane, addr := 0x400D8104, s1 := 0x40, n1 := 4, lo := 1, w := 1, acc := .wt }
/-- R369 [2] WT, 0. Under R367 -/
def R.CVU_Un_CMD.ABORT : Fld := { bank := .lane, addr := 0x400D8104, s1 := 0x40, n1 := 4, lo := 2, w := 1, acc := .wt }
/-- R369 [3] WT, 0. Under R366 -/
def R.CVU_Un_CMD.RESYNC : Fld := { bank := .lane, addr := 0x400D8104, s1 := 0x40, n1 := 4, lo := 3, w := 1, acc := .wt }
/-- R369 [31:0] WO, 0. Four bytes, byte 0 first -/
def R.CVU_Un_DATA32.DATA : Fld := { bank := .lane, addr := 0x400D8108, s1 := 0x40, n1 := 4, lo := 0, w := 32, acc := .wo }
/-- R369 [15:0] WO, 0. Two bytes, byte 0 first -/
def R.CVU_Un_DATA16.DATA : Fld := { bank := .lane, addr := 0x400D810C, s1 := 0x40, n1 := 4, lo := 0, w := 16, acc := .wo }
/-- R369 [7:0] WO, 0. One byte -/
def R.CVU_Un_DATA8.DATA : Fld := { bank := .lane, addr := 0x400D8110, s1 := 0x40, n1 := 4, lo := 0, w := 8, acc := .wo }
/-- R369 [31:0] RW, 0. Expected code, right-aligned -/
def R.CVU_Un_EXPECT.VALUE : Fld := { bank := .lane, addr := 0x400D8114, s1 := 0x40, n1 := 4, lo := 0, w := 32, acc := .rw }
/-- R369 [15:0] RW, 0. Alive counter of the block, right-aligned -/
def R.CVU_Un_ALIVE.COUNTER : Fld := { bank := .lane, addr := 0x400D8118, s1 := 0x40, n1 := 4, lo := 0, w := 16, acc := .rw }
/-- R369 [31:0] RO, 0. Code so far, or final after END, right-aligned -/
def R.CVU_Un_RESULT.VALUE : Fld := { bank := .lane, addr := 0x400D811C, s1 := 0x40, n1 := 4, lo := 0, w := 32, acc := .ro }
/-- R369 [23:0] RO, 0. Bytes in the block, saturating -/
def R.CVU_Un_BYTES.COUNT : Fld := { bank := .lane, addr := 0x400D8120, s1 := 0x40, n1 := 4, lo := 0, w := 24, acc := .ro }
/-- R369 [0] RO, 0. Block open -/
def R.CVU_Un_STATUS.BUSY : Fld := { bank := .lane, addr := 0x400D8124, s1 := 0x40, n1 := 4, lo := 0, w := 1, acc := .ro }
/-- R369 [3:1] RO, 0. Initiator code as TAL_OUT_W0.INITIATOR -/
def R.CVU_Un_STATUS.OWNER : Fld := { bank := .lane, addr := 0x400D8124, s1 := 0x40, n1 := 4, lo := 1, w := 3, acc := .ro }
/-- R369 [4] W1C, 0. Under R365 -/
def R.CVU_Un_STATUS.MISMATCH : Fld := { bank := .lane, addr := 0x400D8124, s1 := 0x40, n1 := 4, lo := 4, w := 1, acc := .w1c }
/-- R369 [5] W1C, 0. Under R366 -/
def R.CVU_Un_STATUS.REPEAT : Fld := { bank := .lane, addr := 0x400D8124, s1 := 0x40, n1 := 4, lo := 5, w := 1, acc := .w1c }
/-- R369 [6] W1C, 0. Under R366 -/
def R.CVU_Un_STATUS.JUMP : Fld := { bank := .lane, addr := 0x400D8124, s1 := 0x40, n1 := 4, lo := 6, w := 1, acc := .w1c }
/-- R369 [7] W1C, 0. Under R367 -/
def R.CVU_Un_STATUS.PROTO_ERR : Fld := { bank := .lane, addr := 0x400D8124, s1 := 0x40, n1 := 4, lo := 7, w := 1, acc := .w1c }
/-- R369 [8] W1C, 0. Under R364 -/
def R.CVU_Un_STATUS.UNIT_ERR : Fld := { bank := .lane, addr := 0x400D8124, s1 := 0x40, n1 := 4, lo := 8, w := 1, acc := .w1c }
/-- R369 [31:16] RO, 0. Last accepted counter -/
def R.CVU_Un_STATUS.LAST_ALIVE : Fld := { bank := .lane, addr := 0x400D8124, s1 := 0x40, n1 := 4, lo := 16, w := 16, acc := .ro }
/-- R369 [15:0] RC, 0. Blocks ended by END, saturating -/
def R.CVU_Un_CNT.BLOCKS : Fld := { bank := .lane, addr := 0x400D8128, s1 := 0x40, n1 := 4, lo := 0, w := 16, acc := .rc }
/-- R369 [23:16] RC, 0. Saturating -/
def R.CVU_Un_CNT.MISMATCH : Fld := { bank := .lane, addr := 0x400D8128, s1 := 0x40, n1 := 4, lo := 16, w := 8, acc := .rc }
/-- R369 [27:24] RC, 0. REPEAT and JUMP, saturating -/
def R.CVU_Un_CNT.ALIVE_ERR : Fld := { bank := .lane, addr := 0x400D8128, s1 := 0x40, n1 := 4, lo := 24, w := 4, acc := .rc }
/-- R369 [31:28] RC, 0. Under R367, saturating -/
def R.CVU_Un_CNT.ABANDONED : Fld := { bank := .lane, addr := 0x400D8128, s1 := 0x40, n1 := 4, lo := 28, w := 4, acc := .rc }
/-- R390 [7:0] RO, 0x01. Lane die revision -/
def R.SYS_ID.REV : Fld := { bank := .lane, addr := 0x40000000, lo := 0, w := 8, acc := .ro, rst := 1 }
/-- R390 [31:16] RO, 0x9440. Part -/
def R.SYS_ID.PART : Fld := { bank := .lane, addr := 0x40000000, lo := 16, w := 16, acc := .ro, rst := 37952 }
/-- R390 [0] RO, 0. Island supply qualified after a loss, copied from PAP_RESET_CAUSE at ST02 (R392) -/
def R.SYS_RESET_CAUSE.SUPPLY : Fld := { bank := .lane, addr := 0x40000004, lo := 0, w := 1, acc := .ro }
/-- R390 [1] RO, 0. nRESET_x low (R55) -/
def R.SYS_RESET_CAUSE.NRESET : Fld := { bank := .lane, addr := 0x40000004, lo := 1, w := 1, acc := .ro }
/-- R390 [2] RO, 0. Self-reset under R357 -/
def R.SYS_RESET_CAUSE.LOCKSTEP : Fld := { bank := .lane, addr := 0x40000004, lo := 2, w := 1, acc := .ro }
/-- R390 [3] RO, 0. Exit from Off -/
def R.SYS_RESET_CAUSE.OFF : Fld := { bank := .lane, addr := 0x40000004, lo := 3, w := 1, acc := .ro }
/-- R390 [31:0] RO, 0. Address of the latest faulting access -/
def R.SYS_ACCESS_FAULT.ADDR : Fld := { bank := .lane, addr := 0x40000008, lo := 0, w := 32, acc := .ro }
/-- R390 [2:0] RC, 0. As TAL_OUT_W0.INITIATOR -/
def R.SYS_ACCESS_INFO.INITIATOR : Fld := { bank := .lane, addr := 0x4000000C, lo := 0, w := 3, acc := .rc }
/-- R390 [3] RC, 0. 1 write, 0 read -/
def R.SYS_ACCESS_INFO.WRITE : Fld := { bank := .lane, addr := 0x4000000C, lo := 3, w := 1, acc := .rc }
/-- R390 [7:4] RC, 0. 1 clock off, 2 power off, 3 unmapped, 4 sealed RWS, 5 width or alignment, 6 not owner or wrong port -/
def R.SYS_ACCESS_INFO.REASON : Fld := { bank := .lane, addr := 0x4000000C, lo := 4, w := 4, acc := .rc }
/-- R390 [31:16] RC, 0. Faulting accesses, saturating -/
def R.SYS_ACCESS_INFO.COUNT : Fld := { bank := .lane, addr := 0x4000000C, lo := 16, w := 16, acc := .rc }
/-- R390 [0] RW, cfg. Interrupt when LOGIC_READY sets after Nap -/
def R.SYS_PWR_CTRL.WAKE_IRQ_EN : Fld := { bank := .lane, addr := 0x40000010, lo := 0, w := 1, acc := .rw }
/-- R390 [1] RW, cfg. Interrupt on a refusal or abort -/
def R.SYS_PWR_CTRL.REFUSE_IRQ_EN : Fld := { bank := .lane, addr := 0x40000010, lo := 1, w := 1, acc := .rw }
/-- R390 [1:0] WT, 0. 0 Run, 1 Idle, 2 Nap. 3 acts as 0 -/
def R.SYS_PWR_REQ.TARGET : Fld := { bank := .lane, addr := 0x40000014, lo := 0, w := 2, acc := .wt }
/-- R390 [1:0] RO, 0. 0 Run, 1 Idle, 2 Nap -/
def R.SYS_PWR_STATUS.STATE : Fld := { bank := .lane, addr := 0x40000018, lo := 0, w := 2, acc := .ro }
/-- R390 [2] RO, 0. Entry or restore in progress -/
def R.SYS_PWR_STATUS.BUSY : Fld := { bank := .lane, addr := 0x40000018, lo := 2, w := 1, acc := .ro }
/-- R390 [6:4] RO, 0. Step of R385 reached -/
def R.SYS_PWR_STATUS.STEP : Fld := { bank := .lane, addr := 0x40000018, lo := 4, w := 3, acc := .ro }
/-- R390 [7:0] RW, 0. Expiry of TIM0–TIM7 wakes -/
def R.SYS_WAKE_CFG.TIM : Fld := { bank := .lane, addr := 0x4000001C, lo := 0, w := 8, acc := .rw }
/-- R390 [8] RW, 0. A Deputy wake request wakes: WAKE0, WAKE1, a short press, or a partner mode request -/
def R.SYS_WAKE_CFG.DEPUTY : Fld := { bank := .lane, addr := 0x4000001C, lo := 8, w := 1, acc := .rw }
/-- R390 [0] RO, 1. Under R386 -/
def R.SYS_WAKE_STATUS.REG_READY : Fld := { bank := .lane, addr := 0x40000020, lo := 0, w := 1, acc := .ro, rst := 1 }
/-- R390 [1] RO, 1. Under R386 -/
def R.SYS_WAKE_STATUS.OSC_READY : Fld := { bank := .lane, addr := 0x40000020, lo := 1, w := 1, acc := .ro, rst := 1 }
/-- R390 [2] RO, 1. Under R386 -/
def R.SYS_WAKE_STATUS.MEM_READY : Fld := { bank := .lane, addr := 0x40000020, lo := 2, w := 1, acc := .ro, rst := 1 }
/-- R390 [3] RO, 1. Under R386 -/
def R.SYS_WAKE_STATUS.LOGIC_READY : Fld := { bank := .lane, addr := 0x40000020, lo := 3, w := 1, acc := .ro, rst := 1 }
/-- R390 [8] W1C, 0. Last wake by a timer -/
def R.SYS_WAKE_STATUS.WOKE_TIM : Fld := { bank := .lane, addr := 0x40000020, lo := 8, w := 1, acc := .w1c }
/-- R390 [9] W1C, 0. Last wake by the Deputy -/
def R.SYS_WAKE_STATUS.WOKE_DEPUTY : Fld := { bank := .lane, addr := 0x40000020, lo := 9, w := 1, acc := .w1c }
/-- R390 [31:0] RO, 0. Last restore duration, 10 ns, saturating -/
def R.SYS_WAKE_TIME.TIME : Fld := { bank := .lane, addr := 0x40000024, lo := 0, w := 32, acc := .ro }
/-- R390 [15:0] RC, 0. Refusals and aborts, saturating -/
def R.SYS_REFUSE_CNT.COUNT : Fld := { bank := .lane, addr := 0x40000028, lo := 0, w := 16, acc := .rc }
/-- R390 [19:16] RC, 0. Code of R387 -/
def R.SYS_REFUSE_CNT.LAST_CODE : Fld := { bank := .lane, addr := 0x40000028, lo := 16, w := 4, acc := .rc }
/-- R390 [20] RC, 0. The last was an abort -/
def R.SYS_REFUSE_CNT.ABORTED : Fld := { bank := .lane, addr := 0x40000028, lo := 20, w := 1, acc := .rc }
/-- R390 [7:0] RW, 0. Target code -/
def R.SYS_VDD_REQ.CODE : Fld := { bank := .lane, addr := 0x4000002C, lo := 0, w := 8, acc := .rw }
/-- R390 [31:0] RW, 0. Deadline bits [31:0] -/
def R.SYS_VDD_DL_LO.DL : Fld := { bank := .lane, addr := 0x40000030, lo := 0, w := 32, acc := .rw }
/-- R390 [7:0] RW, 0. Deadline bits [39:32] -/
def R.SYS_VDD_DL_HI.DL : Fld := { bank := .lane, addr := 0x40000034, lo := 0, w := 8, acc := .rw }
/-- R390 [0] WT, 0. Submits to Q14 under R380 -/
def R.SYS_VDD_GO.GO : Fld := { bank := .lane, addr := 0x40000038, lo := 0, w := 1, acc := .wt }
/-- R390 [5:0] RO, 0. Tally entry -/
def R.SYS_VDD_RESULT.ID : Fld := { bank := .lane, addr := 0x4000003C, lo := 0, w := 6, acc := .ro }
/-- R390 [8] RO, 0. The last request was admitted -/
def R.SYS_VDD_RESULT.ADMITTED : Fld := { bank := .lane, addr := 0x4000003C, lo := 8, w := 1, acc := .ro }
/-- R390 [11:9] RO, 0. 0 admitted, 1 REFUSED_LATE, 2 REFUSED_FULL, 3 to 5 under R380 -/
def R.SYS_VDD_RESULT.CODE : Fld := { bank := .lane, addr := 0x4000003C, lo := 9, w := 3, acc := .ro }
/-- R390 [7:0] RO, 0. Controller setpoint code, from STATUS and answers -/
def R.SYS_VDD_STATUS.SETPOINT : Fld := { bank := .lane, addr := 0x40000040, lo := 0, w := 8, acc := .ro }
/-- R390 [15:8] RO, 0. Target of the open command -/
def R.SYS_VDD_STATUS.TARGET : Fld := { bank := .lane, addr := 0x40000040, lo := 8, w := 8, acc := .ro }
/-- R390 [27:16] RO, 0. Measured VDDC, 0.625 mV -/
def R.SYS_VDD_STATUS.MEAS : Fld := { bank := .lane, addr := 0x40000040, lo := 16, w := 12, acc := .ro }
/-- R390 [30:28] RO, 0. Shed state, as the STATUS tag -/
def R.SYS_VDD_STATUS.SHED : Fld := { bank := .lane, addr := 0x40000040, lo := 28, w := 3, acc := .ro }
/-- R390 [7:0] RO, Factory. Lowest code at 800 MHz, from 20 to 40 (R372) -/
def R.SYS_VDD_FLOOR.FLOOR_800 : Fld := { bank := .lane, addr := 0x40000044, lo := 0, w := 8, acc := .ro }
/-- R390 [15:8] RO, Factory. Lowest code with the reduced setting, from 0 to 20 (R372) -/
def R.SYS_VDD_FLOOR.FLOOR_400 : Fld := { bank := .lane, addr := 0x40000044, lo := 8, w := 8, acc := .ro }
/-- R390 [23:16] RO, Factory. Boot code of R372, from 80 to 100 -/
def R.SYS_VDD_FLOOR.BOOT : Fld := { bank := .lane, addr := 0x40000044, lo := 16, w := 8, acc := .ro }
/-- R390 [0] RO, 0. Valid frames within 10 µs -/
def R.SYS_RLK_STATUS.UP : Fld := { bank := .lane, addr := 0x40000048, lo := 0, w := 1, acc := .ro }
/-- R390 [1] W1C, 0. Under R379 -/
def R.SYS_RLK_STATUS.DOWN : Fld := { bank := .lane, addr := 0x40000048, lo := 1, w := 1, acc := .w1c }
/-- R390 [7:0] RC, 0. Saturating -/
def R.SYS_RLK_CNT.CRC_ERR : Fld := { bank := .lane, addr := 0x4000004C, lo := 0, w := 8, acc := .rc }
/-- R390 [15:8] RC, 0. Saturating -/
def R.SYS_RLK_CNT.SUPERSEDED : Fld := { bank := .lane, addr := 0x4000004C, lo := 8, w := 8, acc := .rc }
/-- R390 [23:16] RC, 0. Saturating -/
def R.SYS_RLK_CNT.DOWN : Fld := { bank := .lane, addr := 0x4000004C, lo := 16, w := 8, acc := .rc }
/-- R391 [4:0] RWS, cfg. mV/µs, 1 to 20, clamped. 0 acts as 5 -/
def R.VRC_CORE_CFG.SLEW : Fld := { bank := .pap, addr := 0x40160000, lo := 0, w := 5, acc := .rws }
/-- R391 [5] RWS, cfg. Under R375 -/
def R.VRC_CORE_CFG.SHED_EN : Fld := { bank := .pap, addr := 0x40160000, lo := 5, w := 1, acc := .rws }
/-- R391 [15:8] RWS, cfg. Phase dead time, 78.125 ps -/
def R.VRC_CORE_CFG.DT : Fld := { bank := .pap, addr := 0x40160000, lo := 8, w := 8, acc := .rws }
/-- R391 [7:0] RO, 0. Setpoint code -/
def R.VRC_CORE_STATUS.SETPOINT : Fld := { bank := .pap, addr := 0x40160004, lo := 0, w := 8, acc := .ro }
/-- R391 [15:8] RO, 0. Target code -/
def R.VRC_CORE_STATUS.TARGET : Fld := { bank := .pap, addr := 0x40160004, lo := 8, w := 8, acc := .ro }
/-- R391 [18:16] RO, 0. 0 P4, 1 SHED42, 2 P2, 3 SHED21, 4 P1, 5 RESTORE -/
def R.VRC_CORE_STATUS.SHED : Fld := { bank := .pap, addr := 0x40160004, lo := 16, w := 3, acc := .ro }
/-- R391 [20:19] RO, 0. s in use -/
def R.VRC_CORE_STATUS.GAIN_SET : Fld := { bank := .pap, addr := 0x40160004, lo := 19, w := 2, acc := .ro }
/-- R391 [21] RO, 0. Setpoint moving -/
def R.VRC_CORE_STATUS.SLEWING : Fld := { bank := .pap, addr := 0x40160004, lo := 21, w := 1, acc := .ro }
/-- R391 [22] RO, 0. Nap setpoint and bias applied -/
def R.VRC_CORE_STATUS.NAP : Fld := { bank := .pap, addr := 0x40160004, lo := 22, w := 1, acc := .ro }
/-- R391 [24] W1C, 0. Under R379 -/
def R.VRC_CORE_STATUS.RLK_LOSS : Fld := { bank := .pap, addr := 0x40160004, lo := 24, w := 1, acc := .w1c }
/-- R391 [25] W1C, 0. Supply monitor tripped under R372 -/
def R.VRC_CORE_STATUS.MON_TRIP : Fld := { bank := .pap, addr := 0x40160004, lo := 25, w := 1, acc := .w1c }
/-- R391 [11:0] RO, 0. 0.625 mV -/
def R.VRC_CORE_MEAS.VDDC : Fld := { bank := .pap, addr := 0x40160008, lo := 0, w := 12, acc := .ro }
/-- R391 [27:16] RO, 0. Total current, 0.1 A -/
def R.VRC_CORE_MEAS.I_TOTAL : Fld := { bank := .pap, addr := 0x40160008, lo := 16, w := 12, acc := .ro }
/-- R391 [15:0] RC, 0. Periods ended by OC, saturating -/
def R.VRC_CORE_CNT.OC : Fld := { bank := .pap, addr := 0x4016000C, lo := 0, w := 16, acc := .rc }
/-- R391 [23:16] RC, 0. Completed sheds, saturating -/
def R.VRC_CORE_CNT.SHEDS : Fld := { bank := .pap, addr := 0x4016000C, lo := 16, w := 8, acc := .rc }
/-- R391 [31:24] RC, 0. Sheds aborted, saturating -/
def R.VRC_CORE_CNT.ABORTS : Fld := { bank := .pap, addr := 0x4016000C, lo := 24, w := 8, acc := .rc }
/-- R391 [7:0] RWS, cfg. A -/
def R.VRC_SHED_CFG.SHED2 : Fld := { bank := .pap, addr := 0x40160010, lo := 0, w := 8, acc := .rws }
/-- R391 [15:8] RWS, cfg. A, below SHED2 -/
def R.VRC_SHED_CFG.SHED1 : Fld := { bank := .pap, addr := 0x40160010, lo := 8, w := 8, acc := .rws }
/-- R391 [23:16] RWS, cfg. A -/
def R.VRC_SHED_CFG.HYST : Fld := { bank := .pap, addr := 0x40160010, lo := 16, w := 8, acc := .rws }
/-- R391 [31:24] RWS, cfg. Slope, 0.5 A/µs -/
def R.VRC_SHED_CFG.RESTORE : Fld := { bank := .pap, addr := 0x40160010, lo := 24, w := 8, acc := .rws }
/-- R391 [15:0] RWS, cfg. µs. 0 acts as 1 -/
def R.VRC_SHED_CFG2.DWELL : Fld := { bank := .pap, addr := 0x40160014, lo := 0, w := 16, acc := .rws }
/-- R391 [7:0] RWS, cfg. Phase current limit, A -/
def R.VRC_LIMIT.OC : Fld := { bank := .pap, addr := 0x40160018, lo := 0, w := 8, acc := .rws }
/-- R391 [15:0] RO, 0. Signed, 0.1 A -/
def R.VRC_PHp_MEAS.I : Fld := { bank := .pap, addr := 0x40160020, s1 := 0x4, n1 := 4, lo := 0, w := 16, acc := .ro }
/-- R391 [16] RO, 0. Phase switching -/
def R.VRC_PHp_MEAS.ACTIVE : Fld := { bank := .pap, addr := 0x40160020, s1 := 0x4, n1 := 4, lo := 16, w := 1, acc := .ro }
/-- R391 [15:0] RWS, cfg. Signed, 2^12 = 1.0 -/
def R.VRC_GSs_PID.KP : Fld := { bank := .pap, addr := 0x40160040, s1 := 0x10, n1 := 3, lo := 0, w := 16, acc := .rws }
/-- R391 [31:16] RWS, cfg. Signed, 2^12 = 1.0 -/
def R.VRC_GSs_PID.KI : Fld := { bank := .pap, addr := 0x40160040, s1 := 0x10, n1 := 3, lo := 16, w := 16, acc := .rws }
/-- R391 [15:0] RWS, cfg. Signed, 2^12 = 1.0 -/
def R.VRC_GSs_KD.KD : Fld := { bank := .pap, addr := 0x40160044, s1 := 0x10, n1 := 3, lo := 0, w := 16, acc := .rws }
/-- R391 [15:0] RWS, cfg. 2^16 = 1.0 -/
def R.VRC_GSs_POLE.A1 : Fld := { bank := .pap, addr := 0x40160048, s1 := 0x10, n1 := 3, lo := 0, w := 16, acc := .rws }
/-- R391 [31:16] RWS, cfg. 2^16 = 1.0 -/
def R.VRC_GSs_POLE.A2 : Fld := { bank := .pap, addr := 0x40160048, s1 := 0x10, n1 := 3, lo := 16, w := 16, acc := .rws }
/-- R391 [15:0] RWS, cfg. 2^−16 -/
def R.VRC_GSs_DUTY.DMIN : Fld := { bank := .pap, addr := 0x4016004C, s1 := 0x10, n1 := 3, lo := 0, w := 16, acc := .rws }
/-- R391 [31:16] RWS, cfg. 2^−16 -/
def R.VRC_GSs_DUTY.DMAX : Fld := { bank := .pap, addr := 0x4016004C, s1 := 0x10, n1 := 3, lo := 16, w := 16, acc := .rws }
/-- R392 [7:0] RO, 0x01. Die revision -/
def R.PAP_ID.REV : Fld := { bank := .pap, addr := 0x40160700, lo := 0, w := 8, acc := .ro, rst := 1 }
/-- R392 [31:16] RO, 0x944A. Power-and-analog die -/
def R.PAP_ID.PART : Fld := { bank := .pap, addr := 0x40160700, lo := 16, w := 16, acc := .ro, rst := 37962 }
/-- R392 [0] RO, 0 on PA, 1 on PB. 0 PA, 1 PB -/
def R.PAP_STATUS.LANE : Fld := { bank := .pap, addr := 0x40160704, lo := 0, w := 1, acc := .ro, rstB := 1 }
/-- R392 [1] RO, 0. Every island supply within its operating range of R454 -/
def R.PAP_STATUS.SUP_OK : Fld := { bank := .pap, addr := 0x40160704, lo := 1, w := 1, acc := .ro }
/-- R392 [2] RO, 0. Clamp sequence of R343 running -/
def R.PAP_STATUS.CLAMP : Fld := { bank := .pap, addr := 0x40160704, lo := 2, w := 1, acc := .ro }
/-- R392 [3] RO, 0. Safe-stop brake application of R344 running -/
def R.PAP_STATUS.BRAKE : Fld := { bank := .pap, addr := 0x40160704, lo := 3, w := 1, acc := .ro }
/-- R392 [4] RO, 0. VRC_ACT running for a clamp under R299 -/
def R.PAP_STATUS.ACT_CLAMP : Fld := { bank := .pap, addr := 0x40160704, lo := 4, w := 1, acc := .ro }
/-- R392 [0] RO, Kept, 0. Island supply qualified after a loss. SYS_RESET_CAUSE.SUPPLY is loaded from this bit at ST02 -/
def R.PAP_RESET_CAUSE.SUPPLY : Fld := { bank := .pap, addr := 0x40160708, lo := 0, w := 1, acc := .ro, kept := true }
/-- R392 [1] RO, Kept, 0. nRESET_x low (R55) -/
def R.PAP_RESET_CAUSE.NRESET : Fld := { bank := .pap, addr := 0x40160708, lo := 1, w := 1, acc := .ro, kept := true }
/-- R392 [2] RO, Kept, 0. Island released after a hardware shutdown (R401) -/
def R.PAP_RESET_CAUSE.THERMAL : Fld := { bank := .pap, addr := 0x40160708, lo := 2, w := 1, acc := .ro, kept := true }
/-- R392 [3] RO, Kept, 0. Exit from Off -/
def R.PAP_RESET_CAUSE.OFF : Fld := { bank := .pap, addr := 0x40160708, lo := 3, w := 1, acc := .ro, kept := true }
/-- R392 [7:0] RO, 0. One bit per supply s of PAP_SUPs_MEAS within its operating range -/
def R.PAP_SUP_STATUS.OK : Fld := { bank := .pap, addr := 0x4016070C, lo := 0, w := 8, acc := .ro }
/-- R392 [15:8] W1C, 0. One bit per supply s that has passed its falling threshold of R454 since the bit was cleared -/
def R.PAP_SUP_STATUS.FALL : Fld := { bank := .pap, addr := 0x4016070C, lo := 8, w := 8, acc := .w1c }
/-- R392 [20:16] RO, 0. One bit per VDDIO bank within range -/
def R.PAP_SUP_STATUS.IO_OK : Fld := { bank := .pap, addr := 0x4016070C, lo := 16, w := 5, acc := .ro }
/-- R392 [15:0] RO, 0. s: 0 VBAT_x, 1 VINT_x, 2 VDDC_x, 3 VDDM_x, 4 VDDA_x, 5 VGD_x, 6 VACT_x, 7 VKEEP. mV, measured every 10 µs, saturating -/
def R.PAP_SUPs_MEAS.MV : Fld := { bank := .pap, addr := 0x40160710, s1 := 0x4, n1 := 8, lo := 0, w := 16, acc := .ro }
/-- R392 [15:0] RO, 0. Bank VDDIO_xv, mV, every 10 µs -/
def R.PAP_VDDIOv_MEAS.MV : Fld := { bank := .pap, addr := 0x40160730, s1 := 0x4, n1 := 5, lo := 0, w := 16, acc := .ro }
/-- R392 [16] RO, 0. 0 bank at 1.8 V, 1 bank at 3.3 V -/
def R.PAP_VDDIOv_MEAS.LEVEL : Fld := { bank := .pap, addr := 0x40160730, s1 := 0x4, n1 := 5, lo := 16, w := 1, acc := .ro }
/-- R392 [0] RO, 0. 100 MHz oscillator within ±1 % of twice RLK_CLK -/
def R.PAP_OSC.OK : Fld := { bank := .pap, addr := 0x40160744, lo := 0, w := 1, acc := .ro }
/-- R392 [15:8] RO, 0. Signed deviation, 0.1 % -/
def R.PAP_OSC.DEV : Fld := { bank := .pap, addr := 0x40160744, lo := 8, w := 8, acc := .ro }
/-- R392 [16] RO, 0. Temperature trim of R403 applied -/
def R.PAP_OSC.TRIMMED : Fld := { bank := .pap, addr := 0x40160744, lo := 16, w := 1, acc := .ro }
/-- R392 [15:0] RO, Kept, 0. Island shutdowns of R401, saturating. THM_SHUT reads the same record -/
def R.PAP_SHUT.COUNT : Fld := { bank := .pap, addr := 0x40160748, lo := 0, w := 16, acc := .ro, kept := true }
/-- R392 [19:16] RO, Kept, 0. Sensor 0 to 7 of the lane die, 8 to 11 of this die -/
def R.PAP_SHUT.LAST : Fld := { bank := .pap, addr := 0x40160748, lo := 16, w := 4, acc := .ro, kept := true }
/-- R392 [15:0] RO, 0. Hot-spot sensor i, signed, 0.1 °C -/
def R.PAP_TEMPi.TEMP : Fld := { bank := .pap, addr := 0x40160750, s1 := 0x4, n1 := 4, lo := 0, w := 16, acc := .ro }
/-- R392 [31] RO, 0. Read in the last round -/
def R.PAP_TEMPi.VALID : Fld := { bank := .pap, addr := 0x40160750, s1 := 0x4, n1 := 4, lo := 31, w := 1, acc := .ro }
/-- R392 [0] RO, Kept, 0. Clamp command present -/
def R.PAP_CLAMP_STATUS.CMD : Fld := { bank := .pap, addr := 0x40160760, lo := 0, w := 1, acc := .ro, kept := true }
/-- R392 [1] RO, Kept, 0. A valid configuration frame held -/
def R.PAP_CLAMP_STATUS.FRAME_OK : Fld := { bank := .pap, addr := 0x40160760, lo := 1, w := 1, acc := .ro, kept := true }
/-- R392 [3:2] RO, Kept, 0. 0 idle, 1 applying, 2 holding, 3 running without a valid frame -/
def R.PAP_CLAMP_STATUS.STAGE : Fld := { bank := .pap, addr := 0x40160760, lo := 2, w := 2, acc := .ro, kept := true }
/-- R392 [15:8] RO, Kept, 0. Duty in use, % -/
def R.PAP_CLAMP_STATUS.DUTY : Fld := { bank := .pap, addr := 0x40160760, lo := 8, w := 8, acc := .ro, kept := true }
/-- R392 [31:16] RO, Kept, 0. Frames received with a good CRC since the island qualified, saturating -/
def R.PAP_CLAMP_STATUS.FRAMES : Fld := { bank := .pap, addr := 0x40160760, lo := 16, w := 16, acc := .ro, kept := true }
/-- R392 [15:0] RWS, cfg. Half-bridges of the brake windings, pairs 2i and 2i + 1 -/
def R.PAP_BRK_CFG.MASK : Fld := { bank := .pap, addr := 0x40160770, lo := 0, w := 16, acc := .rws }
/-- R392 [23:16] RWS, cfg. Brake winding current limit, A -/
def R.PAP_BRK_CFG.I_LIM : Fld := { bank := .pap, addr := 0x40160770, lo := 16, w := 8, acc := .rws }
/-- R392 [31:24] RWS, cfg. Safe-stop force, % of I_LIM. Must equal DSP_SS_CFG.FORCE (R344) -/
def R.PAP_BRK_CFG.FORCE : Fld := { bank := .pap, addr := 0x40160770, lo := 24, w := 8, acc := .rws }
/-- R392 [0] WT, 0. Starts the application of R344 -/
def R.PAP_BRK_CMD.APPLY : Fld := { bank := .pap, addr := 0x40160774, lo := 0, w := 1, acc := .wt }
/-- R392 [1] WT, 0. Ends it, while no Safe stop is imposed -/
def R.PAP_BRK_CMD.RELEASE : Fld := { bank := .pap, addr := 0x40160774, lo := 1, w := 1, acc := .wt }
/-- R392 [0] RO, Kept, 0. Application running -/
def R.PAP_BRK_STATUS.ACTIVE : Fld := { bank := .pap, addr := 0x40160778, lo := 0, w := 1, acc := .ro, kept := true }
/-- R392 [1] RO, Kept, 0. Under R344 -/
def R.PAP_BRK_STATUS.AT_FORCE : Fld := { bank := .pap, addr := 0x40160778, lo := 1, w := 1, acc := .ro, kept := true }
/-- R392 [2] W1C, Kept, 0. A winding short of its target at d = 0.95 -/
def R.PAP_BRK_STATUS.LOW : Fld := { bank := .pap, addr := 0x40160778, lo := 2, w := 1, acc := .w1c, kept := true }
/-- R392 [3] W1C, Kept, 0. A release refused during a Safe stop -/
def R.PAP_BRK_STATUS.REFUSED : Fld := { bank := .pap, addr := 0x40160778, lo := 3, w := 1, acc := .w1c, kept := true }
/-- R392 [15:8] RO, Kept, 0. Lowest winding current, A -/
def R.PAP_BRK_STATUS.MIN_I : Fld := { bank := .pap, addr := 0x40160778, lo := 8, w := 8, acc := .ro, kept := true }
/-- R392 [7:0] RC, 0. Clamp sequences started, saturating -/
def R.PAP_CNT.CLAMPS : Fld := { bank := .pap, addr := 0x4016077C, lo := 0, w := 8, acc := .rc }
/-- R392 [15:8] RC, 0. Brake applications started, saturating -/
def R.PAP_CNT.BRAKES : Fld := { bank := .pap, addr := 0x4016077C, lo := 8, w := 8, acc := .rc }
/-- R392 [23:16] RC, 0. Supply falls recorded in FALL, saturating -/
def R.PAP_CNT.SUP_FALL : Fld := { bank := .pap, addr := 0x4016077C, lo := 16, w := 8, acc := .rc }
/-- R392 [31:24] RC, 0. Frames of the real-time lines dropped by their check, saturating -/
def R.PAP_CNT.RT_ERR : Fld := { bank := .pap, addr := 0x4016077C, lo := 24, w := 8, acc := .rc }
/-- R404 [0] RW, cfg. Interrupt on WARN_EVT -/
def R.THM_CTRL.WARN_IRQ_EN : Fld := { bank := .lane, addr := 0x400E0000, lo := 0, w := 1, acc := .rw }
/-- R404 [1] RW, cfg. Interrupt on THR_EVT or RATE_EVT -/
def R.THM_CTRL.THR_IRQ_EN : Fld := { bank := .lane, addr := 0x400E0000, lo := 1, w := 1, acc := .rw }
/-- R404 [2] RW, cfg. Events queued on Q09 -/
def R.THM_CTRL.LOG_EN : Fld := { bank := .lane, addr := 0x400E0000, lo := 2, w := 1, acc := .rw }
/-- R404 [15:8] RW, cfg. Look-ahead of R397, 0.1 s -/
def R.THM_CTRL.LOOK : Fld := { bank := .lane, addr := 0x400E0000, lo := 8, w := 8, acc := .rw }
/-- R404 [0] RO, 0. 20 kHz sampling -/
def R.THM_STATUS.FAST : Fld := { bank := .lane, addr := 0x400E0004, lo := 0, w := 1, acc := .ro }
/-- R404 [1] RO, 0. k_thm < 1 -/
def R.THM_STATUS.THROTTLE : Fld := { bank := .lane, addr := 0x400E0004, lo := 1, w := 1, acc := .ro }
/-- R404 [2] RO, 0. A reading at or above its WARN -/
def R.THM_STATUS.WARN : Fld := { bank := .lane, addr := 0x400E0004, lo := 2, w := 1, acc := .ro }
/-- R404 [3] RO, 0. Under R397 -/
def R.THM_STATUS.RATE_WARN : Fld := { bank := .lane, addr := 0x400E0004, lo := 3, w := 1, acc := .ro }
/-- R404 [4] RO, 0. Under R398 -/
def R.THM_STATUS.SEEDED : Fld := { bank := .lane, addr := 0x400E0004, lo := 4, w := 1, acc := .ro }
/-- R404 [8] W1C, 0. Under R399 -/
def R.THM_STATUS.WARN_EVT : Fld := { bank := .lane, addr := 0x400E0004, lo := 8, w := 1, acc := .w1c }
/-- R404 [9] W1C, 0. Under R399 -/
def R.THM_STATUS.THR_EVT : Fld := { bank := .lane, addr := 0x400E0004, lo := 9, w := 1, acc := .w1c }
/-- R404 [10] W1C, 0. A rate reached RATE.THR -/
def R.THM_STATUS.RATE_EVT : Fld := { bank := .lane, addr := 0x400E0004, lo := 10, w := 1, acc := .w1c }
/-- R404 [11] W1C, 0. Under R394 -/
def R.THM_STATUS.NTC_FAULT_EVT : Fld := { bank := .lane, addr := 0x400E0004, lo := 11, w := 1, acc := .w1c }
/-- R404 [15:0] RO, 0. Highest reading, signed, 0.1 °C -/
def R.THM_MAX.TEMP : Fld := { bank := .lane, addr := 0x400E0008, lo := 0, w := 16, acc := .ro }
/-- R404 [22:16] RO, 0. Source code of R393 -/
def R.THM_MAX.SRC : Fld := { bank := .lane, addr := 0x400E0008, lo := 16, w := 7, acc := .ro }
/-- R404 [16:0] RO, 0x10000. k_thm, 2^16 = 1.0 -/
def R.THM_KTHM.K : Fld := { bank := .lane, addr := 0x400E000C, lo := 0, w := 17, acc := .ro, rst := 65536 }
/-- R404 [23:20] RO, 0. Limiting class -/
def R.THM_KTHM.CLASS : Fld := { bank := .lane, addr := 0x400E000C, lo := 20, w := 4, acc := .ro }
/-- R404 [15:0] RO, Kept, 0. Island shutdowns, saturating -/
def R.THM_SHUT.COUNT : Fld := { bank := .lane, addr := 0x400E0010, lo := 0, w := 16, acc := .ro, kept := true }
/-- R404 [19:16] RO, Kept, 0. Sensor 0 to 11 of the island, 12 and 13 the Deputy's -/
def R.THM_SHUT.LAST : Fld := { bank := .lane, addr := 0x400E0010, lo := 16, w := 4, acc := .ro, kept := true }
/-- R404 [15:0] RW, cfg. Pull-up, 100 Ω. 0 acts as 1 -/
def R.THM_NTC_PU.R_PU : Fld := { bank := .lane, addr := 0x400E0014, lo := 0, w := 16, acc := .rw }
/-- R404 [15:0] RC, 0. Entries into 20 kHz, saturating -/
def R.THM_CNT.FAST : Fld := { bank := .lane, addr := 0x400E0018, lo := 0, w := 16, acc := .rc }
/-- R404 [31:16] RC, 0. Entries into throttling, saturating -/
def R.THM_CNT.THROTTLE : Fld := { bank := .lane, addr := 0x400E0018, lo := 16, w := 16, acc := .rc }
/-- R404 [15:0] RO, 0. Hottest head, signed, 0.1 °C -/
def R.THM_HEAD_MAX.TEMP : Fld := { bank := .lane, addr := 0x400E001C, lo := 0, w := 16, acc := .ro }
/-- R404 [21:16] RO, 0. Its link -/
def R.THM_HEAD_MAX.LINK : Fld := { bank := .lane, addr := 0x400E001C, lo := 16, w := 6, acc := .ro }
/-- R404 [15:0] RO, 0. Signed, 0.1 °C -/
def R.THM_SENSi.TEMP : Fld := { bank := .lane, addr := 0x400E0100, s1 := 0x4, n1 := 14, lo := 0, w := 16, acc := .ro }
/-- R404 [31] RO, 0. Read in the last round -/
def R.THM_SENSi.VALID : Fld := { bank := .lane, addr := 0x400E0100, s1 := 0x4, n1 := 14, lo := 31, w := 1, acc := .ro }
/-- R404 [0] RW, cfg. Input in use -/
def R.THM_NTCn_CFG.EN : Fld := { bank := .lane, addr := 0x400E0140, s1 := 0x4, n1 := 8, lo := 0, w := 1, acc := .rw }
/-- R404 [16:1] RW, cfg. Resistance at 25 °C, 100 Ω. 0 acts as 1 -/
def R.THM_NTCn_CFG.R25 : Fld := { bank := .lane, addr := 0x400E0140, s1 := 0x4, n1 := 8, lo := 1, w := 16, acc := .rw }
/-- R404 [29:17] RW, cfg. K. 0 acts as 1 -/
def R.THM_NTCn_CFG.BETA : Fld := { bank := .lane, addr := 0x400E0140, s1 := 0x4, n1 := 8, lo := 17, w := 13, acc := .rw }
/-- R404 [15:0] RO, 0. Signed, 0.1 °C -/
def R.THM_NTCn_TEMP.TEMP : Fld := { bank := .lane, addr := 0x400E0160, s1 := 0x4, n1 := 8, lo := 0, w := 16, acc := .ro }
/-- R404 [16] RO, 0. Under R394 -/
def R.THM_NTCn_TEMP.VALID : Fld := { bank := .lane, addr := 0x400E0160, s1 := 0x4, n1 := 8, lo := 16, w := 1, acc := .ro }
/-- R404 [17] RO, 0. Under R394 -/
def R.THM_NTCn_TEMP.OPEN : Fld := { bank := .lane, addr := 0x400E0160, s1 := 0x4, n1 := 8, lo := 17, w := 1, acc := .ro }
/-- R404 [18] RO, 0. Under R394 -/
def R.THM_NTCn_TEMP.SHORT : Fld := { bank := .lane, addr := 0x400E0160, s1 := 0x4, n1 := 8, lo := 18, w := 1, acc := .ro }
/-- R404 [7:0] RW, cfg. °C -/
def R.THM_CLc_LIM.WARN : Fld := { bank := .lane, addr := 0x400E0200, s1 := 0x8, n1 := 16, lo := 0, w := 8, acc := .rw }
/-- R404 [15:8] RW, cfg. Derate start, °C -/
def R.THM_CLc_LIM.DS : Fld := { bank := .lane, addr := 0x400E0200, s1 := 0x8, n1 := 16, lo := 8, w := 8, acc := .rw }
/-- R404 [23:16] RW, cfg. Derate end, °C -/
def R.THM_CLc_LIM.DE : Fld := { bank := .lane, addr := 0x400E0200, s1 := 0x8, n1 := 16, lo := 16, w := 8, acc := .rw }
/-- R404 [24] RW, cfg. Class counts in R395 and R399 -/
def R.THM_CLc_LIM.EN : Fld := { bank := .lane, addr := 0x400E0200, s1 := 0x8, n1 := 16, lo := 24, w := 1, acc := .rw }
/-- R404 [15:0] RW, cfg. 0.1 °C/s. 0 disables -/
def R.THM_CLc_RATE.WARN : Fld := { bank := .lane, addr := 0x400E0204, s1 := 0x8, n1 := 16, lo := 0, w := 16, acc := .rw }
/-- R404 [31:16] RW, cfg. 0.1 °C/s. 0 disables -/
def R.THM_CLc_RATE.THR : Fld := { bank := .lane, addr := 0x400E0204, s1 := 0x8, n1 := 16, lo := 16, w := 16, acc := .rw }
/-- R404 [0] RW, cfg. Model in use -/
def R.THM_MODm_CFG.EN : Fld := { bank := .lane, addr := 0x400E0280, s1 := 0x10, n1 := 4, lo := 0, w := 1, acc := .rw }
/-- R404 [5:1] RW, cfg. Arithmetic slot 0 to 23 -/
def R.THM_MODm_CFG.P_SLOT : Fld := { bank := .lane, addr := 0x400E0280, s1 := 0x10, n1 := 4, lo := 1, w := 5, acc := .rw }
/-- R404 [22:16] RW, cfg. Reference source code, not a model -/
def R.THM_MODm_CFG.REF : Fld := { bank := .lane, addr := 0x400E0280, s1 := 0x10, n1 := 4, lo := 16, w := 7, acc := .rw }
/-- R404 [15:0] RW, cfg. 0.001 K/W -/
def R.THM_MODm_PAR.RTH : Fld := { bank := .lane, addr := 0x400E0284, s1 := 0x10, n1 := 4, lo := 0, w := 16, acc := .rw }
/-- R404 [31:16] RW, cfg. 0.1 s. 0 acts as 1 -/
def R.THM_MODm_PAR.TAU : Fld := { bank := .lane, addr := 0x400E0284, s1 := 0x10, n1 := 4, lo := 16, w := 16, acc := .rw }
/-- R404 [15:0] RW, cfg. W at 1.0 per unit -/
def R.THM_MODm_PBASE.PBASE : Fld := { bank := .lane, addr := 0x400E0288, s1 := 0x10, n1 := 4, lo := 0, w := 16, acc := .rw }
/-- R404 [15:0] RO, 0. T_model, signed, 0.1 °C -/
def R.THM_MODm_TEMP.TEMP : Fld := { bank := .lane, addr := 0x400E028C, s1 := 0x10, n1 := 4, lo := 0, w := 16, acc := .ro }
/-- R418 [0] RW, cfg. Controller on the bus, under R406 -/
def R.CANn_CTRL.EN : Fld := { bank := .lane, addr := 0x400F0000, s1 := 0x4000, n1 := 4, lo := 0, w := 1, acc := .rw }
/-- R418 [1] RW, cfg. FD frames permitted -/
def R.CANn_CTRL.FD_EN : Fld := { bank := .lane, addr := 0x400F0000, s1 := 0x4000, n1 := 4, lo := 1, w := 1, acc := .rw }
/-- R418 [2] RW, cfg. XL frames permitted -/
def R.CANn_CTRL.XL_EN : Fld := { bank := .lane, addr := 0x400F0000, s1 := 0x4000, n1 := 4, lo := 2, w := 1, acc := .rw }
/-- R418 [4:3] RW, cfg. 0 normal, 1 restricted operation, 2 bus monitoring, 3 acts as 0 -/
def R.CANn_CTRL.OPMODE : Fld := { bank := .lane, addr := 0x400F0000, s1 := 0x4000, n1 := 4, lo := 3, w := 2, acc := .rw }
/-- R418 [5] RW, cfg. Under R412 -/
def R.CANn_CTRL.AUTO_RECOVER : Fld := { bank := .lane, addr := 0x400F0000, s1 := 0x4000, n1 := 4, lo := 5, w := 1, acc := .rw }
/-- R418 [6] RW, cfg. Unmatched frames to the FIFO -/
def R.CANn_CTRL.NOMATCH : Fld := { bank := .lane, addr := 0x400F0000, s1 := 0x4000, n1 := 4, lo := 6, w := 1, acc := .rw }
/-- R418 [8] RW, cfg. Interrupt when the FIFO is not empty -/
def R.CANn_CTRL.RX_IRQ_EN : Fld := { bank := .lane, addr := 0x400F0000, s1 := 0x4000, n1 := 4, lo := 8, w := 1, acc := .rw }
/-- R418 [9] RW, cfg. Interrupt on HP_NEW -/
def R.CANn_CTRL.HP_IRQ_EN : Fld := { bank := .lane, addr := 0x400F0000, s1 := 0x4000, n1 := 4, lo := 9, w := 1, acc := .rw }
/-- R418 [10] RW, cfg. Interrupt on BUS_OFF_EVT or a change to error passive -/
def R.CANn_CTRL.ERR_IRQ_EN : Fld := { bank := .lane, addr := 0x400F0000, s1 := 0x4000, n1 := 4, lo := 10, w := 1, acc := .rw }
/-- R418 [11] RW, cfg. Bus-off events queued on Q09 -/
def R.CANn_CTRL.LOG_EN : Fld := { bank := .lane, addr := 0x400F0000, s1 := 0x4000, n1 := 4, lo := 11, w := 1, acc := .rw }
/-- R418 [0] RO, 0. Integrated on the bus -/
def R.CANn_STATUS.SYNC : Fld := { bank := .lane, addr := 0x400F0004, s1 := 0x4000, n1 := 4, lo := 0, w := 1, acc := .ro }
/-- R418 [1] RO, 0. Bus-off -/
def R.CANn_STATUS.BUS_OFF : Fld := { bank := .lane, addr := 0x400F0004, s1 := 0x4000, n1 := 4, lo := 1, w := 1, acc := .ro }
/-- R418 [2] RO, 0. Error passive -/
def R.CANn_STATUS.PASSIVE : Fld := { bank := .lane, addr := 0x400F0004, s1 := 0x4000, n1 := 4, lo := 2, w := 1, acc := .ro }
/-- R418 [3] RO, 0. Under R406 -/
def R.CANn_STATUS.CFG_ERR : Fld := { bank := .lane, addr := 0x400F0004, s1 := 0x4000, n1 := 4, lo := 3, w := 1, acc := .ro }
/-- R418 [8] W1C, 0. Entered bus-off -/
def R.CANn_STATUS.BUS_OFF_EVT : Fld := { bank := .lane, addr := 0x400F0004, s1 := 0x4000, n1 := 4, lo := 8, w := 1, acc := .w1c }
/-- R418 [9] W1C, 0. Under R411 -/
def R.CANn_STATUS.CANCEL_LATE : Fld := { bank := .lane, addr := 0x400F0004, s1 := 0x4000, n1 := 4, lo := 9, w := 1, acc := .w1c }
/-- R418 [10] W1C, 0. Under R414 -/
def R.CANn_STATUS.FIFO_OVR : Fld := { bank := .lane, addr := 0x400F0004, s1 := 0x4000, n1 := 4, lo := 10, w := 1, acc := .w1c }
/-- R418 [11] W1C, 0. Under R414 -/
def R.CANn_STATUS.HP_OVR : Fld := { bank := .lane, addr := 0x400F0004, s1 := 0x4000, n1 := 4, lo := 11, w := 1, acc := .w1c }
/-- R418 [12] W1C, 0. Protocol exception event of ISO 11898-1 -/
def R.CANn_STATUS.PROTO_EXC : Fld := { bank := .lane, addr := 0x400F0004, s1 := 0x4000, n1 := 4, lo := 12, w := 1, acc := .w1c }
/-- R418 [7:0] RW, cfg. Prescaler, 1 to 256. 0 acts as 256 -/
def R.CANn_NBT.BRP : Fld := { bank := .lane, addr := 0x400F0008, s1 := 0x4000, n1 := 4, lo := 0, w := 8, acc := .rw }
/-- R418 [15:8] RW, cfg. Time quanta from the end of the synchronisation segment to the sample point, at least 1. The bit time is 1 + SEG1 + SEG2 quanta (R406) -/
def R.CANn_NBT.SEG1 : Fld := { bank := .lane, addr := 0x400F0008, s1 := 0x4000, n1 := 4, lo := 8, w := 8, acc := .rw }
/-- R418 [22:16] RW, cfg. Time quanta after the sample point -/
def R.CANn_NBT.SEG2 : Fld := { bank := .lane, addr := 0x400F0008, s1 := 0x4000, n1 := 4, lo := 16, w := 7, acc := .rw }
/-- R418 [30:24] RW, cfg. Resynchronisation jump width -/
def R.CANn_NBT.SJW : Fld := { bank := .lane, addr := 0x400F0008, s1 := 0x4000, n1 := 4, lo := 24, w := 7, acc := .rw }
/-- R418 [4:0] RW, cfg. FD data phase, 1 to 32. 0 acts as 32 -/
def R.CANn_DBT.BRP : Fld := { bank := .lane, addr := 0x400F000C, s1 := 0x4000, n1 := 4, lo := 0, w := 5, acc := .rw }
/-- R418 [12:8] RW, cfg. As in NBT -/
def R.CANn_DBT.SEG1 : Fld := { bank := .lane, addr := 0x400F000C, s1 := 0x4000, n1 := 4, lo := 8, w := 5, acc := .rw }
/-- R418 [19:16] RW, cfg. As in NBT -/
def R.CANn_DBT.SEG2 : Fld := { bank := .lane, addr := 0x400F000C, s1 := 0x4000, n1 := 4, lo := 16, w := 4, acc := .rw }
/-- R418 [27:24] RW, cfg. As in NBT -/
def R.CANn_DBT.SJW : Fld := { bank := .lane, addr := 0x400F000C, s1 := 0x4000, n1 := 4, lo := 24, w := 4, acc := .rw }
/-- R418 [4:0] RW, cfg. XL data phase, 1 to 32. 0 acts as 32 -/
def R.CANn_XBT.BRP : Fld := { bank := .lane, addr := 0x400F0010, s1 := 0x4000, n1 := 4, lo := 0, w := 5, acc := .rw }
/-- R418 [12:8] RW, cfg. As in NBT -/
def R.CANn_XBT.SEG1 : Fld := { bank := .lane, addr := 0x400F0010, s1 := 0x4000, n1 := 4, lo := 8, w := 5, acc := .rw }
/-- R418 [19:16] RW, cfg. As in NBT -/
def R.CANn_XBT.SEG2 : Fld := { bank := .lane, addr := 0x400F0010, s1 := 0x4000, n1 := 4, lo := 16, w := 4, acc := .rw }
/-- R418 [27:24] RW, cfg. As in NBT -/
def R.CANn_XBT.SJW : Fld := { bank := .lane, addr := 0x400F0010, s1 := 0x4000, n1 := 4, lo := 24, w := 4, acc := .rw }
/-- R418 [0] RW, cfg. Transmitter delay compensation -/
def R.CANn_TDC.EN : Fld := { bank := .lane, addr := 0x400F0014, s1 := 0x4000, n1 := 4, lo := 0, w := 1, acc := .rw }
/-- R418 [14:8] RW, cfg. Secondary sample point after the measured delay, CAN clock periods -/
def R.CANn_TDC.OFFSET : Fld := { bank := .lane, addr := 0x400F0014, s1 := 0x4000, n1 := 4, lo := 8, w := 7, acc := .rw }
/-- R418 [5:0] RW, cfg. Short phase, CAN clock periods -/
def R.CANn_XPWM.PWMS : Fld := { bank := .lane, addr := 0x400F0018, s1 := 0x4000, n1 := 4, lo := 0, w := 6, acc := .rw }
/-- R418 [13:8] RW, cfg. Long phase, CAN clock periods -/
def R.CANn_XPWM.PWML : Fld := { bank := .lane, addr := 0x400F0018, s1 := 0x4000, n1 := 4, lo := 8, w := 6, acc := .rw }
/-- R418 [21:16] RW, cfg. Offset, CAN clock periods -/
def R.CANn_XPWM.PWMO : Fld := { bank := .lane, addr := 0x400F0018, s1 := 0x4000, n1 := 4, lo := 16, w := 6, acc := .rw }
/-- R418 [24] RW, cfg. PWM coding for FAST mode -/
def R.CANn_XPWM.EN : Fld := { bank := .lane, addr := 0x400F0018, s1 := 0x4000, n1 := 4, lo := 24, w := 1, acc := .rw }
/-- R418 [8:0] RO, 0. Transmit error counter -/
def R.CANn_ERR.TEC : Fld := { bank := .lane, addr := 0x400F001C, s1 := 0x4000, n1 := 4, lo := 0, w := 9, acc := .ro }
/-- R418 [16:9] RO, 0. Receive error counter -/
def R.CANn_ERR.REC : Fld := { bank := .lane, addr := 0x400F001C, s1 := 0x4000, n1 := 4, lo := 9, w := 8, acc := .ro }
/-- R418 [19:17] RO, 0. 0 none, 1 stuff, 2 form, 3 acknowledgement, 4 bit 1, 5 bit 0, 6 CRC -/
def R.CANn_ERR.LAST : Fld := { bank := .lane, addr := 0x400F001C, s1 := 0x4000, n1 := 4, lo := 17, w := 3, acc := .ro }
/-- R418 [20] RO, 0. LAST arose in a data phase -/
def R.CANn_ERR.DATA_PHASE : Fld := { bank := .lane, addr := 0x400F001C, s1 := 0x4000, n1 := 4, lo := 20, w := 1, acc := .ro }
/-- R418 [7:0] RC, 0. Acknowledgement errors, saturating -/
def R.CANn_ERR_CNT.ACK : Fld := { bank := .lane, addr := 0x400F0020, s1 := 0x4000, n1 := 4, lo := 0, w := 8, acc := .rc }
/-- R418 [15:8] RC, 0. Other errors, saturating -/
def R.CANn_ERR_CNT.OTHER : Fld := { bank := .lane, addr := 0x400F0020, s1 := 0x4000, n1 := 4, lo := 8, w := 8, acc := .rc }
/-- R418 [23:16] RC, 0. Saturating -/
def R.CANn_ERR_CNT.BUS_OFF : Fld := { bank := .lane, addr := 0x400F0020, s1 := 0x4000, n1 := 4, lo := 16, w := 8, acc := .rc }
/-- R418 [31:24] RC, 0. Saturating -/
def R.CANn_ERR_CNT.CANCEL_LATE : Fld := { bank := .lane, addr := 0x400F0020, s1 := 0x4000, n1 := 4, lo := 24, w := 8, acc := .rc }
/-- R418 [5:0] RW, 0. Template of the next submission -/
def R.CANn_TX_REQ.TEMPLATE : Fld := { bank := .lane, addr := 0x400F0024, s1 := 0x4000, n1 := 4, lo := 0, w := 6, acc := .rw }
/-- R418 [31:0] RW, 0. Deadline bits [31:0] -/
def R.CANn_TX_DL_LO.DL : Fld := { bank := .lane, addr := 0x400F0028, s1 := 0x4000, n1 := 4, lo := 0, w := 32, acc := .rw }
/-- R418 [7:0] RW, 0. Deadline bits [39:32] -/
def R.CANn_TX_DL_HI.DL : Fld := { bank := .lane, addr := 0x400F002C, s1 := 0x4000, n1 := 4, lo := 0, w := 8, acc := .rw }
/-- R418 [0] WT, 0. Submits to Q0n under R409 -/
def R.CANn_TX_GO.GO : Fld := { bank := .lane, addr := 0x400F0030, s1 := 0x4000, n1 := 4, lo := 0, w := 1, acc := .wt }
/-- R418 [5:0] RO, 0. Tally entry -/
def R.CANn_TX_RESULT.ID : Fld := { bank := .lane, addr := 0x400F0034, s1 := 0x4000, n1 := 4, lo := 0, w := 6, acc := .ro }
/-- R418 [8] RO, 0. The last submission was admitted -/
def R.CANn_TX_RESULT.ADMITTED : Fld := { bank := .lane, addr := 0x400F0034, s1 := 0x4000, n1 := 4, lo := 8, w := 1, acc := .ro }
/-- R418 [11:9] RO, 0. 0 admitted, 1 REFUSED_LATE, 2 REFUSED_FULL, 3 template busy, 4 template invalid -/
def R.CANn_TX_RESULT.CODE : Fld := { bank := .lane, addr := 0x400F0034, s1 := 0x4000, n1 := 4, lo := 9, w := 3, acc := .ro }
/-- R418 [9:0] RO, 0. Records in the FIFO -/
def R.CANn_RX_STATUS.LEVEL : Fld := { bank := .lane, addr := 0x400F0038, s1 := 0x4000, n1 := 4, lo := 0, w := 10, acc := .ro }
/-- R418 [30:16] RO, 0. Message RAM offset of the oldest record -/
def R.CANn_RX_STATUS.READ : Fld := { bank := .lane, addr := 0x400F0038, s1 := 0x4000, n1 := 4, lo := 16, w := 15, acc := .ro }
/-- R418 [0] WT, 0. Releases the oldest record -/
def R.CANn_RX_POP.POP : Fld := { bank := .lane, addr := 0x400F003C, s1 := 0x4000, n1 := 4, lo := 0, w := 1, acc := .wt }
/-- R418 [3:0] RO, 0. Entries held, 0 to 8 -/
def R.CANn_HP_STATUS.LEVEL : Fld := { bank := .lane, addr := 0x400F0040, s1 := 0x4000, n1 := 4, lo := 0, w := 4, acc := .ro }
/-- R418 [6:4] RO, 0. Oldest entry -/
def R.CANn_HP_STATUS.NEXT : Fld := { bank := .lane, addr := 0x400F0040, s1 := 0x4000, n1 := 4, lo := 4, w := 3, acc := .ro }
/-- R418 [8] W1C, 0. An entry was stored -/
def R.CANn_HP_STATUS.HP_NEW : Fld := { bank := .lane, addr := 0x400F0040, s1 := 0x4000, n1 := 4, lo := 8, w := 1, acc := .w1c }
/-- R418 [0] WT, 0. Releases the oldest entry -/
def R.CANn_HP_POP.POP : Fld := { bank := .lane, addr := 0x400F0044, s1 := 0x4000, n1 := 4, lo := 0, w := 1, acc := .wt }
/-- R418 [1:0] RW, 0. Message RAM page at 0x2000 -/
def R.CANn_RAM_PAGE.PAGE : Fld := { bank := .lane, addr := 0x400F0048, s1 := 0x4000, n1 := 4, lo := 0, w := 2, acc := .rw }
/-- R418 [0] RW, cfg. Matrix runs under R415 -/
def R.CANn_SCHED.EN : Fld := { bank := .lane, addr := 0x400F004C, s1 := 0x4000, n1 := 4, lo := 0, w := 1, acc := .rw }
/-- R418 [10:1] RW, cfg. Base cycle, 100 µs, 1 to 1,000, clamped -/
def R.CANn_SCHED.BC : Fld := { bank := .lane, addr := 0x400F004C, s1 := 0x4000, n1 := 4, lo := 1, w := 10, acc := .rw }
/-- R418 [3:0] RO, 0. Present base cycle -/
def R.CANn_SCHED_STATUS.BASE : Fld := { bank := .lane, addr := 0x400F0050, s1 := 0x4000, n1 := 4, lo := 0, w := 4, acc := .ro }
/-- R418 [4] RO, 0. Matrix aligned and running -/
def R.CANn_SCHED_STATUS.RUNNING : Fld := { bank := .lane, addr := 0x400F0050, s1 := 0x4000, n1 := 4, lo := 4, w := 1, acc := .ro }
/-- R418 [8] W1C, 0. Under R415 -/
def R.CANn_SCHED_STATUS.SCHED_ERR : Fld := { bank := .lane, addr := 0x400F0050, s1 := 0x4000, n1 := 4, lo := 8, w := 1, acc := .w1c }
/-- R418 [9] W1C, 0. Under R416 -/
def R.CANn_SCHED_STATUS.TT_SKIP : Fld := { bank := .lane, addr := 0x400F0050, s1 := 0x4000, n1 := 4, lo := 9, w := 1, acc := .w1c }
/-- R418 [0] WT, 0. Starts bus-off recovery -/
def R.CANn_CMD.RECOVER : Fld := { bank := .lane, addr := 0x400F0054, s1 := 0x4000, n1 := 4, lo := 0, w := 1, acc := .wt }
/-- R418 [15:0] RC, 0. Frames accepted, saturating -/
def R.CANn_CNT.RX : Fld := { bank := .lane, addr := 0x400F0058, s1 := 0x4000, n1 := 4, lo := 0, w := 16, acc := .rc }
/-- R418 [31:16] RC, 0. Frames ended DONE, saturating -/
def R.CANn_CNT.TX : Fld := { bank := .lane, addr := 0x400F0058, s1 := 0x4000, n1 := 4, lo := 16, w := 16, acc := .rc }
/-- R418 [15:0] RC, 0. Cells that started a frame, saturating -/
def R.CANn_TT_CNT.CELLS_USED : Fld := { bank := .lane, addr := 0x400F005C, s1 := 0x4000, n1 := 4, lo := 0, w := 16, acc := .rc }
/-- R418 [31:16] RC, 0. Enabled cells with no waiting entry, saturating -/
def R.CANn_TT_CNT.CELLS_EMPTY : Fld := { bank := .lane, addr := 0x400F005C, s1 := 0x4000, n1 := 4, lo := 16, w := 16, acc := .rc }
/-- R426 [0] RW, cfg. Interrupt on a link change -/
def R.ETH_CTRL.LINK_IRQ_EN : Fld := { bank := .lane, addr := 0x40100000, lo := 0, w := 1, acc := .rw }
/-- R426 [1] RW, cfg. Interrupt when a descriptor is filled -/
def R.ETH_CTRL.RX_IRQ_EN : Fld := { bank := .lane, addr := 0x40100000, lo := 1, w := 1, acc := .rw }
/-- R426 [2] RW, cfg. Link changes queued on Q09 -/
def R.ETH_CTRL.LOG_EN : Fld := { bank := .lane, addr := 0x40100000, lo := 2, w := 1, acc := .rw }
/-- R426 [2:0] RO, 0. Link up, one bit per MAC -/
def R.ETH_STATUS.UP : Fld := { bank := .lane, addr := 0x40100004, lo := 0, w := 3, acc := .ro }
/-- R426 [10:8] W1C, 0. Link changed, one bit per MAC -/
def R.ETH_STATUS.LINK_EVT : Fld := { bank := .lane, addr := 0x40100004, lo := 8, w := 3, acc := .w1c }
/-- R426 [7:0] RW, cfg. Under R425 -/
def R.ETH_T1S_PLCA.NODE_ID : Fld := { bank := .lane, addr := 0x40100008, lo := 0, w := 8, acc := .rw }
/-- R426 [15:8] RW, cfg. 1 to 32, clamped -/
def R.ETH_T1S_PLCA.NODE_CNT : Fld := { bank := .lane, addr := 0x40100008, lo := 8, w := 8, acc := .rw }
/-- R426 [23:16] RW, cfg. Transmit opportunity timer, bit times. 0 acts as 32 -/
def R.ETH_T1S_PLCA.TO_TMR : Fld := { bank := .lane, addr := 0x40100008, lo := 16, w := 8, acc := .rw }
/-- R426 [31:24] RW, cfg. Burst count -/
def R.ETH_T1S_PLCA.MAX_BC : Fld := { bank := .lane, addr := 0x40100008, lo := 24, w := 8, acc := .rw }
/-- R426 [0] RO, 0. Beacons seen -/
def R.ETH_T1S_STATUS.PLCA_ACTIVE : Fld := { bank := .lane, addr := 0x4010000C, lo := 0, w := 1, acc := .ro }
/-- R426 [1] RO, 0. This node is coordinator -/
def R.ETH_T1S_STATUS.COORD : Fld := { bank := .lane, addr := 0x4010000C, lo := 1, w := 1, acc := .ro }
/-- R426 [8] W1C, 0. A collision occurred -/
def R.ETH_T1S_STATUS.COLL_EVT : Fld := { bank := .lane, addr := 0x4010000C, lo := 8, w := 1, acc := .w1c }
/-- R426 [9] W1C, 0. Beacons stopped -/
def R.ETH_T1S_STATUS.PLCA_LOST : Fld := { bank := .lane, addr := 0x4010000C, lo := 9, w := 1, acc := .w1c }
/-- R426 [0] RW, cfg. MAC in use, taken at ST17 -/
def R.ETHm_CFG.EN : Fld := { bank := .lane, addr := 0x40100100, s1 := 0x100, n1 := 3, lo := 0, w := 1, acc := .rw }
/-- R426 [1] RW, cfg. 0 RGMII, 1 SGMII -/
def R.ETHm_CFG.IF : Fld := { bank := .lane, addr := 0x40100100, s1 := 0x100, n1 := 3, lo := 1, w := 1, acc := .rw }
/-- R426 [3:2] RW, cfg. RGMII: 0 10, 1 100, 2 1000 Mbit/s. 3 acts as 2 -/
def R.ETHm_CFG.SPEED : Fld := { bank := .lane, addr := 0x40100100, s1 := 0x100, n1 := 3, lo := 2, w := 2, acc := .rw }
/-- R426 [4] RW, cfg. RGMII transmit clock delayed 2 ns -/
def R.ETHm_CFG.TXDLY : Fld := { bank := .lane, addr := 0x40100100, s1 := 0x100, n1 := 3, lo := 4, w := 1, acc := .rw }
/-- R426 [5] RW, cfg. RGMII receive clock delayed 2 ns -/
def R.ETHm_CFG.RXDLY : Fld := { bank := .lane, addr := 0x40100100, s1 := 0x100, n1 := 3, lo := 5, w := 1, acc := .rw }
/-- R426 [6] RW, cfg. Under R421 -/
def R.ETHm_CFG.PROMISC : Fld := { bank := .lane, addr := 0x40100100, s1 := 0x100, n1 := 3, lo := 6, w := 1, acc := .rw }
/-- R426 [7] RW, cfg. Under R421 -/
def R.ETHm_CFG.MCAST_ALL : Fld := { bank := .lane, addr := 0x40100100, s1 := 0x100, n1 := 3, lo := 7, w := 1, acc := .rw }
/-- R426 [8] RW, cfg. Under R419 -/
def R.ETHm_CFG.PAUSE_RX : Fld := { bank := .lane, addr := 0x40100100, s1 := 0x100, n1 := 3, lo := 8, w := 1, acc := .rw }
/-- R426 [9] RW, cfg. Under R422 -/
def R.ETHm_CFG.ACCEPT_UNTAGGED : Fld := { bank := .lane, addr := 0x40100100, s1 := 0x100, n1 := 3, lo := 9, w := 1, acc := .rw }
/-- R426 [31:0] RWS, cfg. Own address [31:0] -/
def R.ETHm_MAC_LO.ADDR : Fld := { bank := .lane, addr := 0x40100104, s1 := 0x100, n1 := 3, lo := 0, w := 32, acc := .rws }
/-- R426 [15:0] RWS, cfg. Own address [47:32] -/
def R.ETHm_MAC_HI.ADDR : Fld := { bank := .lane, addr := 0x40100108, s1 := 0x100, n1 := 3, lo := 0, w := 16, acc := .rws }
/-- R426 [0] RO, 0. Link up -/
def R.ETHm_LINK.UP : Fld := { bank := .lane, addr := 0x4010010C, s1 := 0x100, n1 := 3, lo := 0, w := 1, acc := .ro }
/-- R426 [2:1] RO, 0. Speed in use -/
def R.ETHm_LINK.SPEED : Fld := { bank := .lane, addr := 0x4010010C, s1 := 0x100, n1 := 3, lo := 1, w := 2, acc := .ro }
/-- R426 [3] RO, 0. Under R419 -/
def R.ETHm_LINK.FULL_DUPLEX : Fld := { bank := .lane, addr := 0x4010010C, s1 := 0x100, n1 := 3, lo := 3, w := 1, acc := .ro }
/-- R426 [4] RO, 0. SGMII auto-negotiation complete -/
def R.ETHm_LINK.AN_DONE : Fld := { bank := .lane, addr := 0x4010010C, s1 := 0x100, n1 := 3, lo := 4, w := 1, acc := .ro }
/-- R426 [4:0] WT, 0. PHY register -/
def R.ETHm_MDIO.REG : Fld := { bank := .lane, addr := 0x40100110, s1 := 0x100, n1 := 3, lo := 0, w := 5, acc := .wt }
/-- R426 [9:5] WT, 0. PHY address -/
def R.ETHm_MDIO.PHY : Fld := { bank := .lane, addr := 0x40100110, s1 := 0x100, n1 := 3, lo := 5, w := 5, acc := .wt }
/-- R426 [10] WT, 0. 1 write, 0 read. The write starts the access -/
def R.ETHm_MDIO.WRITE : Fld := { bank := .lane, addr := 0x40100110, s1 := 0x100, n1 := 3, lo := 10, w := 1, acc := .wt }
/-- R426 [31:16] WT, 0. Data to write -/
def R.ETHm_MDIO.DATA : Fld := { bank := .lane, addr := 0x40100110, s1 := 0x100, n1 := 3, lo := 16, w := 16, acc := .wt }
/-- R426 [0] RO, 0. Access in progress -/
def R.ETHm_MDIO_STATUS.BUSY : Fld := { bank := .lane, addr := 0x40100114, s1 := 0x100, n1 := 3, lo := 0, w := 1, acc := .ro }
/-- R426 [31:16] RO, 0. Data read -/
def R.ETHm_MDIO_STATUS.DATA : Fld := { bank := .lane, addr := 0x40100114, s1 := 0x100, n1 := 3, lo := 16, w := 16, acc := .ro }
/-- R426 [31:0] RW, 0. Frame in system SRAM, 4-byte aligned -/
def R.ETHm_TX_ADDR.ADDR : Fld := { bank := .lane, addr := 0x40100118, s1 := 0x100, n1 := 3, lo := 0, w := 32, acc := .rw }
/-- R426 [10:0] RW, 0. Bytes, 14 to 1,518 -/
def R.ETHm_TX_LEN.LEN : Fld := { bank := .lane, addr := 0x4010011C, s1 := 0x100, n1 := 3, lo := 0, w := 11, acc := .rw }
/-- R426 [11] RW, 0. Insert a tag under R422 -/
def R.ETHm_TX_LEN.TAG : Fld := { bank := .lane, addr := 0x4010011C, s1 := 0x100, n1 := 3, lo := 11, w := 1, acc := .rw }
/-- R426 [14:12] RW, 0. Priority code point -/
def R.ETHm_TX_LEN.PCP : Fld := { bank := .lane, addr := 0x4010011C, s1 := 0x100, n1 := 3, lo := 12, w := 3, acc := .rw }
/-- R426 [27:16] RW, 0. VLAN identifier -/
def R.ETHm_TX_LEN.VID : Fld := { bank := .lane, addr := 0x4010011C, s1 := 0x100, n1 := 3, lo := 16, w := 12, acc := .rw }
/-- R426 [31:0] RW, 0. Deadline bits [31:0] -/
def R.ETHm_TX_DL_LO.DL : Fld := { bank := .lane, addr := 0x40100120, s1 := 0x100, n1 := 3, lo := 0, w := 32, acc := .rw }
/-- R426 [7:0] RW, 0. Deadline bits [39:32] -/
def R.ETHm_TX_DL_HI.DL : Fld := { bank := .lane, addr := 0x40100124, s1 := 0x100, n1 := 3, lo := 0, w := 8, acc := .rw }
/-- R426 [0] WT, 0. Submits under R420 -/
def R.ETHm_TX_GO.GO : Fld := { bank := .lane, addr := 0x40100128, s1 := 0x100, n1 := 3, lo := 0, w := 1, acc := .wt }
/-- R426 [5:0] RO, 0. Tally entry -/
def R.ETHm_TX_RESULT.ID : Fld := { bank := .lane, addr := 0x4010012C, s1 := 0x100, n1 := 3, lo := 0, w := 6, acc := .ro }
/-- R426 [8] RO, 0. The last submission was admitted -/
def R.ETHm_TX_RESULT.ADMITTED : Fld := { bank := .lane, addr := 0x4010012C, s1 := 0x100, n1 := 3, lo := 8, w := 1, acc := .ro }
/-- R426 [11:9] RO, 0. 0 admitted, 1 REFUSED_LATE, 2 REFUSED_FULL, 3 length or alignment -/
def R.ETHm_TX_RESULT.CODE : Fld := { bank := .lane, addr := 0x4010012C, s1 := 0x100, n1 := 3, lo := 9, w := 3, acc := .ro }
/-- R426 [31:0] RW, cfg. First descriptor, 16-byte aligned -/
def R.ETHm_RX_BASE.ADDR : Fld := { bank := .lane, addr := 0x40100130, s1 := 0x100, n1 := 3, lo := 0, w := 32, acc := .rw }
/-- R426 [8:0] RW, cfg. Descriptors, 2 to 256, clamped -/
def R.ETHm_RX_RING.RING : Fld := { bank := .lane, addr := 0x40100134, s1 := 0x100, n1 := 3, lo := 0, w := 9, acc := .rw }
/-- R426 [7:0] RO, 0. Under R421 -/
def R.ETHm_RX_STATUS.HEAD : Fld := { bank := .lane, addr := 0x40100138, s1 := 0x100, n1 := 3, lo := 0, w := 8, acc := .ro }
/-- R426 [24:16] RO, 0. Under R421, 0 to 256 -/
def R.ETHm_RX_STATUS.FREE : Fld := { bank := .lane, addr := 0x40100138, s1 := 0x100, n1 := 3, lo := 16, w := 9, acc := .ro }
/-- R426 [8:0] WT, 0. Descriptors returned, 0 to 256 -/
def R.ETHm_RX_RELEASE.COUNT : Fld := { bank := .lane, addr := 0x4010013C, s1 := 0x100, n1 := 3, lo := 0, w := 9, acc := .wt }
/-- R426 [0] RW, cfg. Under R423 -/
def R.ETHm_AS_CFG.AS_EN : Fld := { bank := .lane, addr := 0x40100140, s1 := 0x100, n1 := 3, lo := 0, w := 1, acc := .rw }
/-- R426 [11:8] RW, cfg. Signed, −3 to 3, clamped -/
def R.ETHm_AS_CFG.LOG_PDELAY : Fld := { bank := .lane, addr := 0x40100140, s1 := 0x100, n1 := 3, lo := 8, w := 4, acc := .rw }
/-- R426 [31:16] RW, cfg. ns -/
def R.ETHm_AS_CFG.NEIGHBOR_THR : Fld := { bank := .lane, addr := 0x40100140, s1 := 0x100, n1 := 3, lo := 16, w := 16, acc := .rw }
/-- R426 [0] RO, 0. Under R423 -/
def R.ETHm_AS_STATUS.AS_CAPABLE : Fld := { bank := .lane, addr := 0x40100144, s1 := 0x100, n1 := 3, lo := 0, w := 1, acc := .ro }
/-- R426 [1] RO, 0. Synchronised within 3 sync intervals -/
def R.ETHm_AS_STATUS.SYNCED : Fld := { bank := .lane, addr := 0x40100144, s1 := 0x100, n1 := 3, lo := 1, w := 1, acc := .ro }
/-- R426 [2] RO, 0. Grandmaster announced -/
def R.ETHm_AS_STATUS.GM_PRESENT : Fld := { bank := .lane, addr := 0x40100144, s1 := 0x100, n1 := 3, lo := 2, w := 1, acc := .ro }
/-- R426 [15:8] RO, 0. Signed sync interval of the grandmaster -/
def R.ETHm_AS_STATUS.LOG_SYNC : Fld := { bank := .lane, addr := 0x40100144, s1 := 0x100, n1 := 3, lo := 8, w := 8, acc := .ro }
/-- R426 [31:0] RO, 0. Mean neighbour delay, ns -/
def R.ETHm_AS_PDELAY.NS : Fld := { bank := .lane, addr := 0x40100148, s1 := 0x100, n1 := 3, lo := 0, w := 32, acc := .ro }
/-- R426 [15:0] RC, 0. Frames received, saturating -/
def R.ETHm_CNT.RX : Fld := { bank := .lane, addr := 0x4010014C, s1 := 0x100, n1 := 3, lo := 0, w := 16, acc := .rc }
/-- R426 [23:16] RC, 0. No free descriptor, saturating -/
def R.ETHm_CNT.DROP : Fld := { bank := .lane, addr := 0x4010014C, s1 := 0x100, n1 := 3, lo := 16, w := 8, acc := .rc }
/-- R426 [31:24] RC, 0. Frames in error, saturating -/
def R.ETHm_CNT.ERR : Fld := { bank := .lane, addr := 0x4010014C, s1 := 0x100, n1 := 3, lo := 24, w := 8, acc := .rc }
/-- R426 [0] RW, cfg. Entry in use -/
def R.ETHm_VIDv.EN : Fld := { bank := .lane, addr := 0x40100180, s1 := 0x100, n1 := 3, s2 := 0x4, n2 := 16, lo := 0, w := 1, acc := .rw }
/-- R426 [12:1] RW, cfg. Accepted VID -/
def R.ETHm_VIDv.VID : Fld := { bank := .lane, addr := 0x40100180, s1 := 0x100, n1 := 3, s2 := 0x4, n2 := 16, lo := 1, w := 12, acc := .rw }
/-- R450 [0] RW, cfg. Assay in use -/
def R.ASY_CTRL.EN : Fld := { bank := .lane, addr := 0x40130000, lo := 0, w := 1, acc := .rw }
/-- R450 [4:1] RW, cfg. Voltage filter -/
def R.ASY_CTRL.V_SDF : Fld := { bank := .lane, addr := 0x40130000, lo := 1, w := 4, acc := .rw }
/-- R450 [8:5] RW, cfg. Current filter -/
def R.ASY_CTRL.I_SDF : Fld := { bank := .lane, addr := 0x40130000, lo := 5, w := 4, acc := .rw }
/-- R450 [9] RW, cfg. Interrupt at each commit outcome -/
def R.ASY_CTRL.COMMIT_IRQ_EN : Fld := { bank := .lane, addr := 0x40130000, lo := 9, w := 1, acc := .rw }
/-- R450 [10] RW, cfg. Interrupt on XCHK_DIS -/
def R.ASY_CTRL.XCHK_IRQ_EN : Fld := { bank := .lane, addr := 0x40130000, lo := 10, w := 1, acc := .rw }
/-- R450 [15:0] RW, cfg. V at 2^30 -/
def R.ASY_SCALE.V_FS : Fld := { bank := .lane, addr := 0x40130004, lo := 0, w := 16, acc := .rw }
/-- R450 [31:16] RW, cfg. A at 2^30 -/
def R.ASY_SCALE.I_FS : Fld := { bank := .lane, addr := 0x40130004, lo := 16, w := 16, acc := .rw }
/-- R450 [15:0] RW, cfg. A -/
def R.ASY_COMMIT.I_RATED : Fld := { bank := .lane, addr := 0x40130008, lo := 0, w := 16, acc := .rw }
/-- R450 [31:16] RW, cfg. ms. 0 acts as 1 -/
def R.ASY_COMMIT.COMMIT_DL : Fld := { bank := .lane, addr := 0x40130008, lo := 16, w := 16, acc := .rw }
/-- R450 [0] RO, 0. Integrating -/
def R.ASY_STATUS.RUN : Fld := { bank := .lane, addr := 0x4013000C, lo := 0, w := 1, acc := .ro }
/-- R450 [1] RO, 0. Committing lane under R431 -/
def R.ASY_STATUS.COMMITTER : Fld := { bank := .lane, addr := 0x4013000C, lo := 1, w := 1, acc := .ro }
/-- R450 [2] RO, 0. No usable identity key -/
def R.ASY_STATUS.NO_KEY : Fld := { bank := .lane, addr := 0x4013000C, lo := 2, w := 1, acc := .ro }
/-- R450 [3] RO, 0. Under R437 -/
def R.ASY_STATUS.ADOPTED : Fld := { bank := .lane, addr := 0x4013000C, lo := 3, w := 1, acc := .ro }
/-- R450 [4] W1C, 0. Under R428 -/
def R.ASY_STATUS.METER_FAULT : Fld := { bank := .lane, addr := 0x4013000C, lo := 4, w := 1, acc := .w1c }
/-- R450 [5] W1C, 0. Under R438 -/
def R.ASY_STATUS.XCHK_DIS : Fld := { bank := .lane, addr := 0x4013000C, lo := 5, w := 1, acc := .w1c }
/-- R450 [6] W1C, 0. Under R432 -/
def R.ASY_STATUS.PEND_OVR : Fld := { bank := .lane, addr := 0x4013000C, lo := 6, w := 1, acc := .w1c }
/-- R450 [7] W1C, 0. Under R435 -/
def R.ASY_STATUS.LEDGER_OVR : Fld := { bank := .lane, addr := 0x4013000C, lo := 7, w := 1, acc := .w1c }
/-- R450 [8] W1C, 0. Under R432 -/
def R.ASY_STATUS.LEDGER_FAULT : Fld := { bank := .lane, addr := 0x4013000C, lo := 8, w := 1, acc := .w1c }
/-- R450 [9] W1C, 0. A hold-up record was written -/
def R.ASY_STATUS.HOLDUP : Fld := { bank := .lane, addr := 0x4013000C, lo := 9, w := 1, acc := .w1c }
/-- R450 [10] W1C, 0. Under R437 -/
def R.ASY_STATUS.ADOPT_HIGH : Fld := { bank := .lane, addr := 0x4013000C, lo := 10, w := 1, acc := .w1c }
/-- R450 [31:0] RO, 0. Import total [31:0]. Read under R10 -/
def R.ASY_IMP_LO.UWH : Fld := { bank := .lane, addr := 0x40130010, lo := 0, w := 32, acc := .ro }
/-- R450 [31:0] RO, 0. Import total [63:32] -/
def R.ASY_IMP_HI.UWH : Fld := { bank := .lane, addr := 0x40130014, lo := 0, w := 32, acc := .ro }
/-- R450 [31:0] RO, 0. Export total [31:0]. Read under R10 -/
def R.ASY_EXP_LO.UWH : Fld := { bank := .lane, addr := 0x40130018, lo := 0, w := 32, acc := .ro }
/-- R450 [31:0] RO, 0. Export total [63:32] -/
def R.ASY_EXP_HI.UWH : Fld := { bank := .lane, addr := 0x4013001C, lo := 0, w := 32, acc := .ro }
/-- R450 [31:0] RO, 0. Signed power of the last result, W -/
def R.ASY_POWER.W : Fld := { bank := .lane, addr := 0x40130020, lo := 0, w := 32, acc := .ro }
/-- R450 [0] WT, 0. REQUEST trigger -/
def R.ASY_REQ.COMMIT : Fld := { bank := .lane, addr := 0x40130024, lo := 0, w := 1, acc := .wt }
/-- R450 [31:0] RO, 0. Sequence of the newest record -/
def R.ASY_SEQ.SEQ : Fld := { bank := .lane, addr := 0x40130028, lo := 0, w := 32, acc := .ro }
/-- R450 [15:0] RO, 0. Slot of the newest record -/
def R.ASY_SLOT.SLOT : Fld := { bank := .lane, addr := 0x4013002C, lo := 0, w := 16, acc := .ro }
/-- R450 [31:0] RW, 0. Under R435 -/
def R.ASY_READ_MARK.SEQ : Fld := { bank := .lane, addr := 0x40130030, lo := 0, w := 32, acc := .rw }
/-- R450 [2:0] RO, 0. Captures held, 0 to 4 -/
def R.ASY_PEND.HELD : Fld := { bank := .lane, addr := 0x40130034, lo := 0, w := 3, acc := .ro }
/-- R450 [6:4] RO, 0. Outcome code of the last commit (R109) -/
def R.ASY_PEND.LAST : Fld := { bank := .lane, addr := 0x40130034, lo := 4, w := 3, acc := .ro }
/-- R450 [15:0] RO, 0. Last window deviation, signed, 0.01 % -/
def R.ASY_XCHK.DEV : Fld := { bank := .lane, addr := 0x40130038, lo := 0, w := 16, acc := .ro }
/-- R450 [25:16] RO, 0. Blocks in the open window -/
def R.ASY_XCHK.BLOCKS : Fld := { bank := .lane, addr := 0x40130038, lo := 16, w := 10, acc := .ro }
/-- R450 [7:0] RC, 0. Saturating -/
def R.ASY_CNT.COMMITS : Fld := { bank := .lane, addr := 0x4013003C, lo := 0, w := 8, acc := .rc }
/-- R450 [15:8] RC, 0. Q08 refusals, saturating -/
def R.ASY_CNT.REFUSED : Fld := { bank := .lane, addr := 0x4013003C, lo := 8, w := 8, acc := .rc }
/-- R450 [23:16] RC, 0. Saturating -/
def R.ASY_CNT.XCHK_DIS : Fld := { bank := .lane, addr := 0x4013003C, lo := 16, w := 8, acc := .rc }
/-- R450 [31:24] RC, 0. Blocks discarded, saturating -/
def R.ASY_CNT.XIN_CRC : Fld := { bank := .lane, addr := 0x4013003C, lo := 24, w := 8, acc := .rc }
/-- R450 [31:0] RC, 0. Saturating -/
def R.ASY_FAULT_TIME.MS : Fld := { bank := .lane, addr := 0x40130040, lo := 0, w := 32, acc := .rc }
/-- R450 [31:0] RO, 0. Exchange block of R437 -/
def R.ASY_XOUTw.WORD : Fld := { bank := .lane, addr := 0x40130060, s1 := 0x4, n1 := 6, lo := 0, w := 32, acc := .ro }
/-- R450 [31:0] WO, 0. Partner block. A write of word 5 submits it -/
def R.ASY_XINw.WORD : Fld := { bank := .lane, addr := 0x40130080, s1 := 0x4, n1 := 6, lo := 0, w := 32, acc := .wo }
/-- R450 [31:0] RO, 0. Mode m counter halves, read under R10 -/
def R.ASY_Mm_IMP_LO.UWH : Fld := { bank := .lane, addr := 0x40130100, s1 := 0x10, n1 := 8, lo := 0, w := 32, acc := .ro }
/-- R450 [31:0] RO, 0. Mode m counter halves, read under R10 -/
def R.ASY_Mm_IMP_HI.UWH : Fld := { bank := .lane, addr := 0x40130104, s1 := 0x10, n1 := 8, lo := 0, w := 32, acc := .ro }
/-- R450 [31:0] RO, 0. Mode m counter halves, read under R10 -/
def R.ASY_Mm_EXP_LO.UWH : Fld := { bank := .lane, addr := 0x40130108, s1 := 0x10, n1 := 8, lo := 0, w := 32, acc := .ro }
/-- R450 [31:0] RO, 0. Mode m counter halves, read under R10 -/
def R.ASY_Mm_EXP_HI.UWH : Fld := { bank := .lane, addr := 0x4013010C, s1 := 0x10, n1 := 8, lo := 0, w := 32, acc := .ro }
/-- R451 [2:0] RO, 0. Lifecycle code of R442, from OTP at ST02 -/
def R.SEC_LC.STATE : Fld := { bank := .lane, addr := 0x40120000, lo := 0, w := 3, acc := .ro }
/-- R451 [3] RO, 0. Identity key usable -/
def R.SEC_LC.KEYS : Fld := { bank := .lane, addr := 0x40120000, lo := 3, w := 1, acc := .ro }
/-- R451 [5:4] RO, 0. Key-store bank in use. 3 when none -/
def R.SEC_LC.BANK : Fld := { bank := .lane, addr := 0x40120000, lo := 4, w := 2, acc := .ro }
/-- R451 [7:6] RO, 0. 0 closed, 1 boundary scan, 2 open -/
def R.SEC_LC.DEBUG : Fld := { bank := .lane, addr := 0x40120000, lo := 6, w := 2, acc := .ro }
/-- R451 [8] RO, 0. Under R444 -/
def R.SEC_LC.KEYGEN_LOST : Fld := { bank := .lane, addr := 0x40120000, lo := 8, w := 1, acc := .ro }
/-- R451 [9] RO, 0. OTP marker of R446, step 6 -/
def R.SEC_LC.DBG_RECORDED : Fld := { bank := .lane, addr := 0x40120000, lo := 9, w := 1, acc := .ro }
/-- R451 [2:0] WT, 0. Lifecycle code -/
def R.SEC_LC_REQ.TARGET : Fld := { bank := .lane, addr := 0x40120004, lo := 0, w := 3, acc := .wt }
/-- R451 [31:16] WT, 0. Must be 0x4C43 -/
def R.SEC_LC_REQ.KEY : Fld := { bank := .lane, addr := 0x40120004, lo := 16, w := 16, acc := .wt }
/-- R451 [0] RO, 0. Transition running -/
def R.SEC_LC_STATUS.BUSY : Fld := { bank := .lane, addr := 0x40120008, lo := 0, w := 1, acc := .ro }
/-- R451 [3:1] RO, 0. Step of R444 reached -/
def R.SEC_LC_STATUS.STEP : Fld := { bank := .lane, addr := 0x40120008, lo := 1, w := 3, acc := .ro }
/-- R451 [7:4] RO, 0. 0 done, 1 refused, 2 media, 3 no bank, 4 entropy -/
def R.SEC_LC_STATUS.RESULT : Fld := { bank := .lane, addr := 0x40120008, lo := 4, w := 4, acc := .ro }
/-- R451 [31:0] RW, 0. Hash in system SRAM, 4-byte aligned -/
def R.SEC_KEY_SRC.ADDR : Fld := { bank := .lane, addr := 0x4012000C, lo := 0, w := 32, acc := .rw }
/-- R451 [1:0] WT, 0. Root-key slot -/
def R.SEC_KEY_PROG.SLOT : Fld := { bank := .lane, addr := 0x40120010, lo := 0, w := 2, acc := .wt }
/-- R451 [4] WT, 0. Programs under R443 -/
def R.SEC_KEY_PROG.GO : Fld := { bank := .lane, addr := 0x40120010, lo := 4, w := 1, acc := .wt }
/-- R451 [31:0] RW, 0. Opener object, 4-byte aligned -/
def R.SEC_DBG_SRC.ADDR : Fld := { bank := .lane, addr := 0x40120014, lo := 0, w := 32, acc := .rw }
/-- R451 [0] WT, 0. Under R445 -/
def R.SEC_DBG_CMD.CHALLENGE : Fld := { bank := .lane, addr := 0x40120018, lo := 0, w := 1, acc := .wt }
/-- R451 [1] WT, 0. Under R446 -/
def R.SEC_DBG_CMD.OPEN : Fld := { bank := .lane, addr := 0x40120018, lo := 1, w := 1, acc := .wt }
/-- R451 [0] RO, 0. Challenge live -/
def R.SEC_DBG_STATUS.LIVE : Fld := { bank := .lane, addr := 0x4012001C, lo := 0, w := 1, acc := .ro }
/-- R451 [3:1] RO, 0. Step of R446 reached -/
def R.SEC_DBG_STATUS.STEP : Fld := { bank := .lane, addr := 0x4012001C, lo := 1, w := 3, acc := .ro }
/-- R451 [7:4] RO, 0. 0 opened, 1 refused, 2 verification failed, 3 record failed -/
def R.SEC_DBG_STATUS.RESULT : Fld := { bank := .lane, addr := 0x4012001C, lo := 4, w := 4, acc := .ro }
/-- R451 [31:0] RW, 0. Descriptor, 32-byte aligned -/
def R.SEC_JOB_ADDR.ADDR : Fld := { bank := .lane, addr := 0x40120020, lo := 0, w := 32, acc := .rw }
/-- R451 [31:0] RW, 0. Deadline bits [31:0] -/
def R.SEC_JOB_DL_LO.DL : Fld := { bank := .lane, addr := 0x40120024, lo := 0, w := 32, acc := .rw }
/-- R451 [7:0] RW, 0. Deadline bits [39:32] -/
def R.SEC_JOB_DL_HI.DL : Fld := { bank := .lane, addr := 0x40120028, lo := 0, w := 8, acc := .rw }
/-- R451 [0] WT, 0. Submits to Q15 -/
def R.SEC_JOB_GO.GO : Fld := { bank := .lane, addr := 0x4012002C, lo := 0, w := 1, acc := .wt }
/-- R451 [5:0] RO, 0. Tally entry -/
def R.SEC_JOB_RESULT.ID : Fld := { bank := .lane, addr := 0x40120030, lo := 0, w := 6, acc := .ro }
/-- R451 [8] RO, 0. The last job was admitted -/
def R.SEC_JOB_RESULT.ADMITTED : Fld := { bank := .lane, addr := 0x40120030, lo := 8, w := 1, acc := .ro }
/-- R451 [11:9] RO, 0. 0 admitted, 1 REFUSED_LATE, 2 REFUSED_FULL, 3 descriptor alignment -/
def R.SEC_JOB_RESULT.CODE : Fld := { bank := .lane, addr := 0x40120030, lo := 9, w := 3, acc := .ro }
/-- R451 [31:0] RC, 0. Conditioned entropy. Zero under R449 -/
def R.SEC_TRNG.DATA : Fld := { bank := .lane, addr := 0x40120034, lo := 0, w := 32, acc := .rc }
/-- R451 [0] RO, 0. Start-up tests passed -/
def R.SEC_TRNG_STATUS.READY : Fld := { bank := .lane, addr := 0x40120038, lo := 0, w := 1, acc := .ro }
/-- R451 [1] W1C, 0. Under R449 -/
def R.SEC_TRNG_STATUS.HEALTH_ERR : Fld := { bank := .lane, addr := 0x40120038, lo := 1, w := 1, acc := .w1c }
/-- R451 [15:0] RC, 0. Jobs ended DONE, saturating -/
def R.SEC_CNT.JOBS : Fld := { bank := .lane, addr := 0x4012003C, lo := 0, w := 16, acc := .rc }
/-- R451 [23:16] RC, 0. Failed opens, saturating -/
def R.SEC_CNT.OPEN_FAIL : Fld := { bank := .lane, addr := 0x4012003C, lo := 16, w := 8, acc := .rc }
/-- R451 [31:0] RO, 0. Challenge of R445 -/
def R.SEC_CHALw.WORD : Fld := { bank := .lane, addr := 0x40120100, s1 := 0x4, n1 := 32, lo := 0, w := 32, acc := .ro }
/-- R451 [31:0] RO, 0. Identity modulus, least significant word first. Zero without keys -/
def R.SEC_PUBw.WORD : Fld := { bank := .lane, addr := 0x40120200, s1 := 0x4, n1 := 128, lo := 0, w := 32, acc := .ro }
/-- R392 [7:0] RO, Kept, 0. As DSP_CLAMP_CFG.I_CLAMP -/
def R.PAP_CLAMP_FRAME0.I_CLAMP : Fld := { bank := .pap, addr := 0x40160764, lo := 0, w := 8, acc := .ro, kept := true }
/-- R392 [15:8] RO, Kept, 0. As DSP_CLAMP_CFG.R_WIND -/
def R.PAP_CLAMP_FRAME0.R_WIND : Fld := { bank := .pap, addr := 0x40160764, lo := 8, w := 8, acc := .ro, kept := true }
/-- R392 [23:16] RO, Kept, 0. As DSP_CLAMP_CFG.T_APPLY -/
def R.PAP_CLAMP_FRAME0.T_APPLY : Fld := { bank := .pap, addr := 0x40160764, lo := 16, w := 8, acc := .ro, kept := true }
/-- R392 [31:24] RO, Kept, 0. As DSP_CLAMP_CFG.HOLD -/
def R.PAP_CLAMP_FRAME0.HOLD : Fld := { bank := .pap, addr := 0x40160764, lo := 24, w := 8, acc := .ro, kept := true }
/-- R392 [15:0] RO, Kept, 0. This die's half of DSP_CLAMP_MASK -/
def R.PAP_CLAMP_FRAME1.MASK : Fld := { bank := .pap, addr := 0x40160768, lo := 0, w := 16, acc := .ro, kept := true }
/-- R392 [15:0] RO, Kept, 0. Frame sequence number -/
def R.PAP_CLAMP_FRAME2.SEQ : Fld := { bank := .pap, addr := 0x4016076C, lo := 0, w := 16, acc := .ro, kept := true }
/-- R392 [23:16] RO, Kept, 0. CRC-8 of the frame, with the parameters of R223 -/
def R.PAP_CLAMP_FRAME2.CRC : Fld := { bank := .pap, addr := 0x4016076C, lo := 16, w := 8, acc := .ro, kept := true }

/-- Part 0 of `allFlds`. -/
def allFlds0 : List Fld :=
  [R.CFG_START_STATUS.STEP, R.CFG_START_STATUS.DONE, R.CFG_START_STATUS.SLOT, R.CFG_START_STATUS.COPY,
   R.CFG_START_STATUS.HF_MIRROR, R.CFG_START_STATUS.CAL_FACTORY, R.CFG_START_STATUS.REDUCED, R.CFG_START_STATUS.SERVICE_ONLY,
   R.CFG_START_STATUS.TIME_UNKNOWN, R.CFG_START_STATUS.PARTNER_ABSENT, R.CFG_START_FAIL.STEP, R.CFG_START_FAIL.COUNT,
   R.CFG_START_FAIL.CODE, R.CFG_BOOT_NEXT.SLOT, R.CFG_CONTAINER.APPLICATION, R.CFG_CONTAINER.ARRANGEMENT,
   R.CFG_CONTAINER.REDUCED_OK, R.CFG_VERSION.VERSION, R.CFG_IMAGE_VERSION.VERSION, R.CFG_SEAL.SEALED,
   R.CFG_SEAL.DEPUTY_SEALED, R.CFG_KEY_STATUS.PROGRAMMED, R.CFG_KEY_STATUS.REVOKED, R.CFG_KEY_STATUS.IMG_SLOT,
   R.CFG_KEY_STATUS.HF_SLOT, R.CFG_KEY_STATUS.CFG_SLOT, R.CFG_KEY_STATUS.REVOKE_ERR, R.CFG_KEY_STATUS.REVOKE_DONE,
   R.CFG_KEY_REVOKE.SLOT, R.CFG_KEY_REVOKE.KEY, R.CFG_MODE.MODE, R.CFG_MODE.PREVIOUS,
   R.CFG_MODE.MASTER, R.CFG_MODE.SAFE_STOP, R.CFG_MODE.DEGRADED, R.CFG_MODE_REQ.TARGET,
   R.CFG_MODE_STATUS.BUSY, R.CFG_MODE_STATUS.DONE, R.CFG_MODE_STATUS.RESULT, R.CFG_MODE_STATUS.LAST_TARGET,
   R.CFG_MODE_TIME.HOLD, R.CFG_LAMP_SEQ.SEQ, R.CFG_OVLm_INFO.TRIPLES, R.CFG_OVLm_INFO.PATCH_WORDS,
   R.NVM_XSPI_CFG.FREQ_MHZ, R.NVM_XSPI_CFG.DUMMY, R.NVM_XSPI_CFG.SIZE_LOG2, R.NVM_EMMC_CFG.CLK_MHZ,
   R.NVM_EMMC_CFG.HS200, R.NVM_EMMC_BASE.SECTOR, R.NVM_STATUS.XSPI_READY, R.NVM_STATUS.EMMC_READY,
   R.NVM_STATUS.LIFE_A, R.NVM_STATUS.LIFE_B, R.NVM_STATUS.PRE_EOL, R.NVM_REQ_AREA.AREA,
   R.NVM_REQ_OFFSET.OFFSET, R.NVM_REQ_LEN.LEN, R.NVM_REQ_SRC.ADDR, R.NVM_REQ_DEADLINE_LO.DL]
/-- Part 1 of `allFlds`. -/
def allFlds1 : List Fld :=
  [R.NVM_REQ_DEADLINE_HI.DL, R.NVM_REQ_GO.GO, R.NVM_REQ_RESULT.ID, R.NVM_REQ_RESULT.ADMITTED,
   R.NVM_REQ_RESULT.CODE, R.NVM_MEDIA_ERR.COUNT, R.TAL_CTRL.OUT_IRQ_EN, R.TAL_CTRL.MISS_IRQ_EN,
   R.TAL_CTRL.OUT_IRQ_LEVEL, R.TAL_STATUS.MISS, R.TAL_STATUS.OUT_OVF, R.TAL_STATUS.EMPTY,
   R.TAL_STATUS.LAST_MISS_ID, R.TAL_STATUS.LAST_MISS_Q, R.TAL_FREE.FREE, R.TAL_MISS_CNT.COUNT,
   R.TAL_REFUSE_CNT.LATE, R.TAL_REFUSE_CNT.FULL, R.TAL_CANCEL.ID, R.TAL_OUT_W0.ID,
   R.TAL_OUT_W0.QUEUE, R.TAL_OUT_W0.OUTCOME, R.TAL_OUT_W0.LATE, R.TAL_OUT_W0.INITIATOR,
   R.TAL_OUT_W0.VALID, R.TAL_OUT_W1.TIME, R.TAL_OUT_LEVEL.LEVEL, R.TAL_Qq_WC_FIX.COUNTS,
   R.TAL_Qq_WC_UNIT.COST, R.TAL_Qq_MODEL.LEARN, R.TAL_Qq_MODEL.MARGIN, R.TAL_Qq_LIMIT.QUOTA,
   R.TAL_Qq_LIMIT.ABORT_LEAD, R.TAL_Qq_MEAS.FIX_MAX, R.TAL_Qq_BACKLOG.COUNTS, R.TAL_Qq_LEVEL.DESC,
   R.TAL_Qq_LEVEL.INFLIGHT, R.TAL_Qq_STAT.DONE, R.TAL_Qq_STAT.FAIL_DROP, R.TAL_Ee_INFO.INITIATOR,
   R.TAL_Ee_INFO.QUEUE, R.TAL_Ee_INFO.STATE, R.TAL_Ee_INFO.MEASURED, R.TAL_Ee_INFO.SIZE,
   R.TAL_Ee_DEADLINE_LO.DL, R.TAL_Ee_DEADLINE_HI.DL, R.TAL_Ee_BOUND_LO.BOUND, R.TIM_NOW_LO.TIME,
   R.TIM_NOW_HI.TIME, R.TIM_QUAL.SOURCE, R.TIM_QUAL.NET_LOCK, R.TIM_EPOCH_LO.EPOCH,
   R.TIM_EPOCH_HI.EPOCH, R.TIM_UNC.US, R.TIM_PARTNER_OFS_LO.OFS, R.TIM_PARTNER_OFS_HI.OFS,
   R.TIM_PARTNER_STAT.VALID, R.TIM_PARTNER_STAT.RTT, R.TIM_PARTNER_STAT.AGE, R.TIM_ELAPSED_LO.TIME]
/-- Part 2 of `allFlds`. -/
def allFlds2 : List Fld :=
  [R.TIM_ELAPSED_HI.TIME, R.TIM_ELAPSED_UNC.US, R.TIM_ELAPSED_INFO.VALID, R.TIM_ELAPSED_INFO.SRC_CHANGE,
   R.TIM_ELAPSED_INFO.SOURCE, R.TIM_LFO_EST.MHZ, R.TIM_Tn_CFG.EN, R.TIM_Tn_CFG.PERIODIC,
   R.TIM_Tn_CFG.SYNC, R.TIM_Tn_CFG.IRQ_EN, R.TIM_Tn_CFG.TRIG_EN, R.TIM_Tn_CFG.UNIT,
   R.TIM_Tn_LOAD.COUNTS, R.TIM_Tn_COUNT.COUNTS, R.TIM_Tn_STATUS.EXPIRED, R.TIM_Tn_STATUS.OVERRUN,
   R.ADC_CTRL.EST_EN, R.ADC_CTRL.ENV_EN, R.ADC_CTRL.URG_IRQ_EN, R.ADC_CTRL.ENV_IRQ_EN,
   R.ADC_STATUS.GROUP_ACTIVE, R.ADC_STATUS.FALLBACK, R.ADC_STATUS.Q11_DROP, R.ADC_STATUS.Q12_DROP,
   R.ADC_URGENT.GROUP, R.ADC_URGENT.CHANNEL, R.ADC_URGENT_STATUS.PENDING, R.ADC_URGENT_STATUS.RESULT,
   R.ADC_URGENT_STATUS.LAST_GROUP, R.ADC_URGENT_CNT.ACCEPTED, R.ADC_URGENT_CNT.REFUSED, R.ADC_ENV_SRC.CUR_SLOT,
   R.ADC_ENV_SRC.VDC_SLOT, R.ADC_ENV_SRC.VBASE, R.ADC_ENV_NOW.TEMP, R.ADC_ENV_NOW.VDC,
   R.ADC_ENV_CUR.CUR, R.ADC_SYSCAL_CTRL.CHANNEL, R.ADC_SYSCAL_CTRL.POINT, R.ADC_SYSCAL_CTRL.LOG2N,
   R.ADC_SYSCAL_GO.MEASURE, R.ADC_SYSCAL_GO.APPLY, R.ADC_SYSCAL_GO.ABORT, R.ADC_SYSCAL_STATUS.BUSY,
   R.ADC_SYSCAL_STATUS.ZERO_VALID, R.ADC_SYSCAL_STATUS.FULL_VALID, R.ADC_SYSCAL_STATUS.RESULT, R.ADC_SYSCAL_TARGET.ZERO,
   R.ADC_SYSCAL_TARGET.FULL, R.ADC_SYSCAL_MEAS_ZERO.MEAS, R.ADC_SYSCAL_MEAS_FULL.MEAS, R.ADC_SELFTEST.GROUP_PASS,
   R.ADC_SELFTEST.SDF_PASS, R.ADC_SELFTEST.DONE, R.ADC_ENV_EVT_CNT.COUNT, R.ADC_Q11_DATA.ENTRY,
   R.ADC_Q11_STAMP.STAMP, R.ADC_Q12_DATA.ENTRY, R.ADC_Q12_STAMP.STAMP, R.ADC_CAL_INFO.BANK]
/-- Part 3 of `allFlds`. -/
def allFlds3 : List Fld :=
  [R.ADC_CAL_INFO.NO_BANK, R.ADC_CAL_INFO.RECORDS, R.ADC_CAL_INFO.REJECTED, R.ADC_Gg_CFG.MODE,
   R.ADC_Gg_CFG.DEST, R.ADC_Gg_CFG.LEN, R.ADC_Gg_CFG.EST_FREEZE, R.ADC_Gg_TRIG.SRC,
   R.ADC_Gg_TRIG.DELAY, R.ADC_Gg_PACE.IDLE, R.ADC_Gg_PACE.DECIM, R.ADC_Gg_LISTj.CH0,
   R.ADC_Gg_LISTj.CH1, R.ADC_Gg_LISTj.CH2, R.ADC_Gg_LISTj.CH3, R.ADC_Gg_STATUS.RUNNING,
   R.ADC_Gg_STATUS.WAITING, R.ADC_Gg_STATUS.TRIG_OVR, R.ADC_Gg_STATUS.CLIP, R.ADC_Gg_STATUS.EST_STATE,
   R.ADC_Gg_STATUS.ELIGIBLE, R.ADC_Gg_STATUS.LOW_SIGNAL, R.ADC_Gg_EST_CNT.COUNT, R.ADC_Gg_TRIG_CNT.TRIGGERS,
   R.ADC_Gg_TRIG_CNT.OVERRUNS, R.ADC_Gg_CLIP_CNT.COUNT, R.ADC_Gg_Sk_OG.OFFSET, R.ADC_Gg_Sk_OG.GAIN,
   R.ADC_Gg_Sk_SKEW.SKEW, R.ADC_CHc_LAST.ENTRY, R.ADC_CHc_CORR.GAIN, R.ADC_CHc_CORR.OFFSET,
   R.ADC_CHc_APPLIED.GAIN, R.ADC_CHc_APPLIED.OFFSET, R.ADC_CHc_ENV.STATE, R.ADC_CHc_ENV.MOVING,
   R.ADC_CHc_ENV.BOUND, R.SDF_CLK.DIV, R.SDF_STATUS.FAULT, R.SDF_STATUS.TRIP,
   R.SDF_Fn_CFG.EN, R.SDF_Fn_CFG.CLK_EXT, R.SDF_Fn_CFG.EDGE, R.SDF_Fn_CFG.ORDER,
   R.SDF_Fn_CFG.OSR, R.SDF_Fn_CFG.SHIFT, R.SDF_Fn_OUT.IAVG, R.SDF_Fn_OUT.DEST_CE,
   R.SDF_Fn_OUT.DEST_ASY, R.SDF_Fn_OUT.IRQ_EN, R.SDF_Fn_TRIP.EN, R.SDF_Fn_TRIP.ORDER,
   R.SDF_Fn_TRIP.OSR, R.SDF_Fn_TRIP.TSHIFT, R.SDF_Fn_THR.HI, R.SDF_Fn_THR.LO,
   R.SDF_Fn_DATA.DATA, R.SDF_Fn_TRIP_DATA.DATA, R.SDF_Fn_STATUS.NEW, R.SDF_Fn_STATUS.HI]
/-- Part 4 of `allFlds`. -/
def allFlds4 : List Fld :=
  [R.SDF_Fn_STATUS.LO, R.SDF_Fn_STATUS.CLK_FAULT, R.SDF_Fn_STATUS.STUCK, R.SDF_Fn_STATUS.SAT,
   R.SDF_Fn_STATUS.VALID, R.SDF_Fn_STAMP.STAMP, R.SDF_Fn_CORR.GAIN, R.SDF_Fn_CORR.OFFSET,
   R.SDF_Fn_APPLIED.GAIN, R.SDF_Fn_APPLIED.OFFSET, R.SDF_Fn_ENV.STATE, R.SDF_Fn_ENV.MOVING,
   R.SDF_Fn_ENV.BOUND, R.POS_STATUS.RES_VALID, R.POS_STATUS.PT_VALID, R.POS_STATUS.SENT_VALID,
   R.POS_RESn_CFG.EN, R.POS_RESn_CFG.GROUP, R.POS_RESn_CFG.CORR_EN, R.POS_RESn_CFG.CORR_FREEZE,
   R.POS_RESn_CFG.IRQ_EN, R.POS_RESn_CFG.AMP, R.POS_RESn_EXC.DIV, R.POS_RESn_EXC.CAR_INIT,
   R.POS_RESn_LOOP.BW, R.POS_RESn_LOOP.SPD_BASE, R.POS_RESn_LIMIT.LOS, R.POS_RESn_LIMIT.DOS_HI,
   R.POS_RESn_LIMIT.LOT, R.POS_RESn_LIMIT.COUNT, R.POS_RESn_ANGLE.ANGLE, R.POS_RESn_SPEED.SPEED,
   R.POS_RESn_AMP.AMP, R.POS_RESn_AMP.QUAD, R.POS_RESn_CAR.CAR, R.POS_RESn_CORR_OFS.OFS_SIN,
   R.POS_RESn_CORR_OFS.OFS_COS, R.POS_RESn_CORR_GP.RATIO, R.POS_RESn_CORR_GP.PHASE, R.POS_RESn_STATUS.VALID,
   R.POS_RESn_STATUS.LOCK, R.POS_RESn_STATUS.LOS, R.POS_RESn_STATUS.DOS, R.POS_RESn_STATUS.LOT,
   R.POS_RESn_STATUS.CFG_ERR, R.POS_RESn_STATUS.SETTLED, R.POS_RESn_FLT.LOS_CNT, R.POS_RESn_FLT.DOS_CNT,
   R.POS_RESn_FLT.LOT_CNT, R.POS_PTp_CFG.EN, R.POS_PTp_CFG.MODE, R.POS_PTp_CFG.TW_EDGE,
   R.POS_PTp_CFG.INV_A, R.POS_PTp_CFG.INV_B, R.POS_PTp_CFG.INV_Z, R.POS_PTp_CFG.Z_EN,
   R.POS_PTp_CFG.Z_RESET, R.POS_PTp_CFG.Z_QUAL, R.POS_PTp_CFG.GLITCH_ERR, R.POS_PTp_CFG.IRQ_EN]
/-- Part 5 of `allFlds`. -/
def allFlds5 : List Fld :=
  [R.POS_PTp_FILT.MIN_EDGE, R.POS_PTp_FILT.DIR_SETUP, R.POS_PTp_FILT.ERR_LIMIT, R.POS_PTp_SCALE.COUNTS,
   R.POS_PTp_TW.MISSING, R.POS_PTp_TW.EXTRA, R.POS_PTp_TW.GAP_THR, R.POS_PTp_TW.EXTRA_THR,
   R.POS_PTp_REF.REF_ANGLE, R.POS_PTp_SPD.ZERO_TIME, R.POS_PTp_SPD.SPD_BASE, R.POS_PTp_COUNT.COUNT,
   R.POS_PTp_ANGLE.ANGLE, R.POS_PTp_SPEED.SPEED, R.POS_PTp_PERIOD.PERIOD, R.POS_PTp_INDEX.VALUE,
   R.POS_PTp_STATUS.VALID, R.POS_PTp_STATUS.ANGLE_OK, R.POS_PTp_STATUS.SYNC, R.POS_PTp_STATUS.ZERO_SPEED,
   R.POS_PTp_STATUS.DIR, R.POS_PTp_STATUS.ILLEGAL, R.POS_PTp_STATUS.SYNC_ERR, R.POS_PTp_STATUS.INDEX_ERR,
   R.POS_PTp_STATUS.ERR_FAULT, R.POS_PTp_STATUS.GLITCH, R.POS_PTp_STATUS.ERR_LEVEL, R.POS_PTp_STATUS.LEVEL_A,
   R.POS_PTp_STATUS.LEVEL_B, R.POS_PTp_STATUS.LEVEL_Z, R.POS_PTp_GLITCH.A, R.POS_PTp_GLITCH.B,
   R.POS_PTp_GLITCH.Z, R.POS_PTp_ERR.ILLEGAL, R.POS_PTp_ERR.SYNC_ERR, R.POS_PTp_ERR.INDEX_ERR,
   R.POS_PTp_STAMP.STAMP, R.POS_SENTs_CFG.EN, R.POS_SENTs_CFG.TICK, R.POS_SENTs_CFG.NIBBLES,
   R.POS_SENTs_CFG.PAUSE, R.POS_SENTs_CFG.CRC_LEGACY, R.POS_SENTs_CFG.SLOW_EN, R.POS_SENTs_CFG.REQUIRED,
   R.POS_SENTs_CFG.IRQ_EN, R.POS_SENTs_LIMIT.STALE_TIME, R.POS_SENTs_FAST.DATA, R.POS_SENTs_FAST.STATUS,
   R.POS_SENTs_FAST.SEQ, R.POS_SENTs_FAST_STAMP.STAMP, R.POS_SENTs_SLOW.DATA, R.POS_SENTs_SLOW.ID,
   R.POS_SENTs_SLOW.FMT, R.POS_SENTs_STATUS.VALID, R.POS_SENTs_STATUS.NEW_FAST, R.POS_SENTs_STATUS.NEW_SLOW,
   R.POS_SENTs_TICK.TICK, R.POS_SENTs_ERR.CAL, R.POS_SENTs_ERR.NIBBLE, R.POS_SENTs_ERR.CRC]
/-- Part 6 of `allFlds`. -/
def allFlds6 : List Fld :=
  [R.POS_SENTs_ERR.SLOW_CRC, R.CE_CTRL.WRAP_IRQ_EN, R.CE_CTRL.FE_IRQ_EN, R.CE_CTRL.OVR_IRQ_EN,
   R.CE_CTRL.BAND_IRQ_EN, R.CE_STATUS.WRAP, R.CE_STATUS.FE, R.CE_STATUS.OVR,
   R.CE_STATUS.BAND_ERR, R.CE_STATUS.LATE, R.CE_WRAP.SLOT, R.CE_FE.SLOT,
   R.CE_LOAD.PEAK, R.CE_LOAD.BUSY, R.CE_Bn_CFG.EN, R.CE_Bn_CFG.POL,
   R.CE_Bn_CFG.FLL_EN, R.CE_Bn_CFG.SIG, R.CE_Bn_CFG.GROUP, R.CE_Bn_CFG.PWM_CH,
   R.CE_Bn_CFG.ANGLE, R.CE_Bn_CFG.SPAN, R.CE_Bn_CFG.SETTLE, R.CE_Bn_CFG.TG,
   R.CE_Bn_SRC.REF, R.CE_Bn_SRC.MEAS, R.CE_Bn_HINIT.H, R.CE_Bn_HMIN.H,
   R.CE_Bn_HMAX.H, R.CE_Bn_FLL.FTARGET, R.CE_Bn_FLL.GAIN, R.CE_Bn_FLL.WIN,
   R.CE_Bn_SLOPE_MIN.SLOPE, R.CE_Bn_H.H, R.CE_Bn_FMEAS.HZ, R.CE_Bn_STATUS.STATE,
   R.CE_Bn_STATUS.LEVEL, R.CE_Bn_STATUS.FLL_CLAMP, R.CE_Bn_STATUS.FLL_STARVED, R.CE_Bn_STATUS.LATE,
   R.CE_Bn_STATUS.DROPPED, R.CE_Bn_STATUS.CFG_ERR, R.CE_Bn_STATUS.STALL, R.CE_Bn_CNT.EDGES,
   R.CE_Bn_CNT.LATE, R.CE_Bn_DROP.DROPPED, R.CE_Bn_DROP.WITHHELD, R.CE_Ai_CFG.OP,
   R.CE_Ai_CFG.TRIG, R.CE_Ai_CFG.DIV, R.CE_Ai_CFG.FE_TG, R.CE_Ai_CFG.FE_EN,
   R.CE_Ai_CFG.TRIG_EN, R.CE_Ai_CFG.URG_EN, R.CE_Ai_IN.A, R.CE_Ai_IN.B,
   R.CE_Ai_IN.C, R.CE_Ai_Kj.K, R.CE_Ai_OUTLIM.MAX, R.CE_Ai_OUTLIM.MIN]
/-- Part 7 of `allFlds`. -/
def allFlds7 : List Fld :=
  [R.CE_Ai_FE_LIMIT.LIMIT, R.CE_Ai_AUX.FE_TIME, R.CE_Ai_AUX.URG_CH, R.CE_Ai_AUX.URG_GROUP,
   R.CE_Ai_OUT.Y, R.CE_Ai_INT_LO.I, R.CE_Ai_INT_HI.I, R.CE_Ai_STATUS.SAT,
   R.CE_Ai_STATUS.FE_RUN, R.CE_Ai_STATUS.IN_INVALID, R.CE_Ai_STATUS.OVR, R.CE_Ai_STATUS.PRESET_PEND,
   R.CE_Ai_STATUS.SRC_ERR, R.CE_Ai_TIME.MAX_LAT, R.CE_Ai_TIME.OVERRUNS, R.TRC_CTRL.AUTO_DUMP,
   R.TRC_CTRL.IRQ_EN, R.TRC_STATUS.STATE, R.TRC_DUMP_POS.POS, R.TRC_DUMP_POS.SEQ,
   R.TRC_Bb_CFG.PROBE, R.TRC_Bb_CFG.STAMP, R.TRC_Bb_CFG.LINK, R.TRC_Bb_CFG.DIV,
   R.TRC_Bb_CFG.PRE, R.TRC_Bb_TRIG.KIND, R.TRC_Bb_TRIG.TSRC, R.TRC_Bb_LEVEL.LEVEL,
   R.TRC_Bb_DL.MS, R.TRC_Bb_CMD.ARM, R.TRC_Bb_CMD.DUMP, R.TRC_Bb_CMD.ABORT,
   R.TRC_Bb_CMD.TRIGGER, R.TRC_Bb_INFO.FIRST, R.TRC_Bb_INFO.ENTRIES, R.TRC_Bb_INFO.PRE_SHORT,
   R.TRC_Bb_INFO.ARM_REFUSED, R.TRC_Bb_STAMP_LO.TIME, R.TRC_Bb_STAMP_HI.TIME, R.TRC_Bb_DUMP.ID,
   R.TRC_Bb_DUMP.ADMITTED, R.TRC_Bb_DUMP.CODE, R.TRC_Bb_DUMP.OUTCOME, R.TRC_Bb_DUMP.OUTCOME_VALID,
   R.PWM_CTRL.TORN_IRQ_EN, R.PWM_CTRL.TRIP_IRQ_EN, R.PWM_CTRL.OVL_IRQ_EN, R.PWM_CTRL.CLAMP_IRQ_EN,
   R.PWM_CTRL.TAKE_IRQ_EN, R.PWM_STATUS.TG_ACTIVE, R.PWM_STATUS.TORN, R.PWM_STATUS.CLR_REFUSED,
   R.PWM_STATUS.CFG_ERR, R.PWM_TG_FORCE.GROUPS, R.PWM_TG_CLEAR.GROUPS, R.PWM_TG_LATCHED.LATCHED,
   R.PWM_TG_LATCHED.FORCED, R.PWM_SHARED.TB, R.PWM_GRANT.GRANTED, R.PWM_GRANT.ALIGNED]
/-- Part 8 of `allFlds`. -/
def allFlds8 : List Fld :=
  [R.PWM_GRANT.TAKEN, R.PWM_TAKEOVER.TIME, R.PWM_TAKEOVER.LATE_TAKE, R.PWM_TSRC_ACTIVE_LO.SRC,
   R.PWM_TSRC_ACTIVE_HI.SRC, R.PWM_TSRC_HIT_LO.SRC, R.PWM_TSRC_HIT_HI.SRC, R.PWM_TBt_CFG.EN,
   R.PWM_TBt_CFG.UPDOWN, R.PWM_TBt_CFG.RELOAD, R.PWM_TBt_CFG.SYNC, R.PWM_TBt_CFG.PHASE_SLOT_EN,
   R.PWM_TBt_CFG.PHASE_SLOT, R.PWM_TBt_CFG.IRQ_EN, R.PWM_TBt_PERIOD.P, R.PWM_TBt_PHASE.PHASE,
   R.PWM_TBt_COMMIT.COMMIT, R.PWM_TBt_COMMIT.DISCARD, R.PWM_TBt_STATUS.RUN, R.PWM_TBt_STATUS.DIRTY,
   R.PWM_TBt_STATUS.COMMIT_PEND, R.PWM_TBt_STATUS.DOWN, R.PWM_TBt_STATUS.MODE_HOLD, R.PWM_TBt_STATUS.TORN,
   R.PWM_TBt_STATUS.SYNC_JUMP, R.PWM_TBt_STATUS.ALIGN_JUMP, R.PWM_TBt_COUNT.COUNT, R.PWM_TBt_ACTIVE.P,
   R.PWM_TBt_CNT.TRANSFERS, R.PWM_TBt_CNT.TORN, R.PWM_EVk_CFG.EN, R.PWM_EVk_CFG.TB,
   R.PWM_EVk_CFG.POINT, R.PWM_EVk_CFG.SLOPE, R.PWM_TGg_CFG.ACTION, R.PWM_TGg_CFG.RELEASE,
   R.PWM_TGg_CFG.IRQ_EN, R.PWM_TGg_CFG.LOG_EN, R.PWM_BTb_CFG.EN, R.PWM_BTb_CFG.CH,
   R.PWM_BTb_CFG.EDGE, R.PWM_BTb_CFG.LEN, R.PWM_TSRCs_CFG.MASK, R.PWM_TSRCs_CFG.BT,
   R.PWM_TSRCs_CFG.BLANK_EN, R.PWM_CHc_CFG.EN, R.PWM_CHc_CFG.ENGINE, R.PWM_CHc_CFG.COMPL,
   R.PWM_CHc_CFG.LOWSIDE, R.PWM_CHc_CFG.TB, R.PWM_CHc_CFG.TG, R.PWM_CHc_DST.DST_H,
   R.PWM_CHc_DST.DST_L, R.PWM_CHc_ON.ON, R.PWM_CHc_OFF.OFF, R.PWM_CHc_DT.DT_RISE,
   R.PWM_CHc_DT.DT_FALL, R.PWM_CHc_FILT.MINP, R.PWM_CHc_FILT.STRETCH, R.PWM_CHc_FILT.CLAMP_LIMIT]
/-- Part 9 of `allFlds`. -/
def allFlds9 : List Fld :=
  [R.PWM_CHc_FILT.SLOT_EN, R.PWM_CHc_FILT.SLOT, R.PWM_CHc_STATUS.LEVEL, R.PWM_CHc_STATUS.HIGH,
   R.PWM_CHc_STATUS.LOW, R.PWM_CHc_STATUS.TRIPPED, R.PWM_CHc_STATUS.CFG_ERR, R.PWM_CHc_STATUS.CFG_REJ,
   R.PWM_CHc_STATUS.CLAMPED, R.PWM_CHc_STATUS.FILTERED, R.PWM_CHc_STATUS.OVERLAP, R.PWM_CHc_STATUS.WITHHELD,
   R.PWM_CHc_STATUS.TAKEN, R.PWM_CHc_CNT.OVERLAP, R.PWM_CHc_CNT.CLAMPED, R.PWM_CHc_CNT.FILTERED,
   R.HLK_CTRL.FAULT_IRQ_EN, R.HLK_CTRL.HLG_IRQ_EN, R.HLK_CTRL.TRAIN_IRQ_EN, R.HLK_STATUS.GROUP_LATCHED,
   R.HLK_STATUS.HEN_LEVEL, R.HLK_STATUS.LINKS_RUN, R.HLK_STATUS.OWNER, R.HLK_STATUS.RECORD_VALID,
   R.HLK_TRAIN_CMD.START, R.HLK_TRAIN_CMD.ABORT, R.HLK_TRAIN_STATUS.BUSY, R.HLK_TRAIN_STATUS.RESULT,
   R.HLK_TRAIN_STATUS.LINK, R.HLK_TRAIN_STATUS.RESENDS, R.HLK_LAST_FAULT.LINK, R.HLK_LAST_FAULT.CAUSE,
   R.HLK_LAST_FAULT_TIME.TIME, R.HLK_FAULT_CNT.LATCHED, R.HLK_FAULT_CNT.CLEARS, R.HLK_GRPg_CFG.SAFE,
   R.HLK_GRPg_CFG.LOG_EN, R.HLK_LEGm_CFG.EN, R.HLK_LEGm_CFG.HI, R.HLK_LEGm_CFG.LO,
   R.HLK_LEGm_CFG.T_CONF, R.HLK_LEGm_CFG.T_WAIT, R.HLK_LINKnn_CFG.EN, R.HLK_LINKnn_CFG.GROUP,
   R.HLK_LINKnn_CFG.ROLE, R.HLK_LINKnn_CFG.LOSS_ACT, R.HLK_LINKnn_SC.VTH, R.HLK_LINKnn_SC.FILT,
   R.HLK_LINKnn_SC.SOFT, R.HLK_LINKnn_GATE.VON, R.HLK_LINKnn_GATE.VOFF, R.HLK_LINKnn_STATE.GATE,
   R.HLK_LINKnn_STATE.HEAD, R.HLK_LINKnn_STATE.HLG_OK, R.HLK_LINKnn_STATE.TRAINED, R.HLK_LINKnn_STATE.LATCHED,
   R.HLK_LINKnn_STATE.CAUSE, R.HLK_LINKnn_STATE.OT, R.HLK_LINKnn_STATE.VCC_OK, R.HLK_LINKnn_STATE.VEE_OK]
/-- Part 10 of `allFlds`. -/
def allFlds10 : List Fld :=
  [R.HLK_LINKnn_STATE.SEQ, R.HLK_LINKnn_TEMP.TJ, R.HLK_LINKnn_TEMP.AGE, R.HLK_LINKnn_CNT.CRC_ERR,
   R.HLK_LINKnn_CNT.LOST, R.HLK_LINKnn_CNT.WITHHELD, R.PAP_PD_CTRL.FAULT_IRQ_EN, R.PAP_PD_CTRL.WARN_IRQ_EN,
   R.PAP_PD_STATUS.FAULT, R.PAP_PD_STATUS.VGD_OK, R.PAP_PD_STATUS.ST13_PASS, R.PAP_HBn_CFG.EN,
   R.PAP_HBn_CFG.MODE, R.PAP_HBn_CFG.PUMP_EN, R.PAP_HBn_CFG.SHORT_EN, R.PAP_HBn_CFG.VON,
   R.PAP_HBn_CFG.VOFF, R.PAP_HBn_CFG.T_CONF, R.PAP_HBn_CFG.T_WAIT, R.PAP_HBn_SHORT.THR,
   R.PAP_HBn_SHORT.KSEL, R.PAP_HBn_SHORT.ABS, R.PAP_HBn_SHORT.SHUNT_CH, R.PAP_HBn_SHORT.BLANK,
   R.PAP_HBn_STATUS.GH_ON, R.PAP_HBn_STATUS.GL_ON, R.PAP_HBn_STATUS.BST_LOW, R.PAP_HBn_STATUS.BST_UV,
   R.PAP_HBn_STATUS.SHORT, R.PAP_HBn_STATUS.GATE_ERR, R.PAP_HBn_STATUS.BST_WARN, R.PAP_HBn_STATUS.CLR_REFUSED,
   R.PAP_HBn_MEAS.BST, R.PAP_HBn_MEAS.VGH, R.PAP_HBn_MEAS.VGL, R.PAP_HBn_CNT.REFRESH,
   R.PAP_HBn_CNT.REFRESH_SKIP, R.PAP_HBn_CNT.WITHHELD, R.PAP_HBn_CNT.GATE_ERR, R.MOT_CTRL.LOSS_IRQ_EN,
   R.MOT_CTRL.REGION_IRQ_EN, R.MOT_CTRL.KE_IRQ_EN, R.MOT_CTRL.XCHK_IRQ_EN, R.MOT_CTRL.LOG_EN,
   R.MOT_STATUS.TORQUE_OK, R.MOT_STATUS.SIX, R.MOT_STATUS.CURVE_ON, R.MOT_EVT_CNT.COUNT,
   R.MOT_EVT_CNT.DROPPED, R.MOT_Mm_CFG.EN, R.MOT_Mm_CFG.PREF, R.MOT_Mm_CFG.RES_EN,
   R.MOT_Mm_CFG.RES_CH, R.MOT_Mm_CFG.INJ_EN, R.MOT_Mm_CFG.PP, R.MOT_Mm_CFG.RES_RATIO,
   R.MOT_Mm_CFG.TG, R.MOT_Mm_SLOTS.BU, R.MOT_Mm_SLOTS.BV, R.MOT_Mm_SLOTS.BW]
/-- Part 11 of `allFlds`. -/
def allFlds11 : List Fld :=
  [R.MOT_Mm_CHAN.CHU, R.MOT_Mm_CHAN.CHV, R.MOT_Mm_CHAN.CHW, R.MOT_Mm_CHAN.VDC_SRC,
   R.MOT_Mm_RES_OFS.OFS, R.MOT_Mm_BASE.I_BASE, R.MOT_Mm_BASE.V_BASE, R.MOT_Mm_SPD.FE_BASE,
   R.MOT_Mm_SPD.XOVER, R.MOT_Mm_PSI.PSI_NOM, R.MOT_Mm_PSI.RS, R.MOT_Mm_IND.LD,
   R.MOT_Mm_IND.LQ, R.MOT_Mm_LIMIT.I_LIM, R.MOT_Mm_LIMIT.ID_MAX, R.MOT_Mm_TRQ.T_BASE,
   R.MOT_Mm_TRQ.TSRC, R.MOT_Mm_TREQ.T, R.MOT_Mm_REGION.TSAT, R.MOT_Mm_REGION.H_FLUX,
   R.MOT_Mm_FW.KFW, R.MOT_Mm_FW.M_FW, R.MOT_Mm_SIX.KI, R.MOT_Mm_SIX.DMAX,
   R.MOT_Mm_OBS.MIN_SPEED, R.MOT_Mm_OBS.CONF_MIN, R.MOT_Mm_OBS.IRES, R.MOT_Mm_XCHK.ANG,
   R.MOT_Mm_XCHK.CNT, R.MOT_Mm_XCHK.TIME, R.MOT_Mm_XCHK.LIM, R.MOT_Mm_CATCH.I_ZERO,
   R.MOT_Mm_CATCH.I_MIN, R.MOT_Mm_CATCH.T_PULSE, R.MOT_Mm_CATCH.T_PP, R.MOT_Mm_INJ.T_INJ,
   R.MOT_Mm_INJ.SAL_MIN, R.MOT_Mm_KE.MIN_SPEED, R.MOT_Mm_KE.DERATE, R.MOT_Mm_KE.RESTRICT,
   R.MOT_Mm_CMD.RECATCH, R.MOT_Mm_STATUS.REGION, R.MOT_Mm_STATUS.ANGLE_STATE, R.MOT_Mm_STATUS.KE_STATE,
   R.MOT_Mm_STATUS.TORQUE_OK, R.MOT_Mm_STATUS.I_LIMITED, R.MOT_Mm_STATUS.FW_SAT, R.MOT_Mm_STATUS.DELTA_SAT,
   R.MOT_Mm_STATUS.RES_DISTRUST, R.MOT_Mm_STATUS.CFG_ERR, R.MOT_Mm_STATUS.XCHK, R.MOT_Mm_STATUS.TSAT_ENTRY,
   R.MOT_Mm_STATUS.XCHK_EVT, R.MOT_Mm_STATUS.LOSS, R.MOT_Mm_STATUS.INJ_FAIL, R.MOT_Mm_ANGLE.ANGLE,
   R.MOT_Mm_SPEED.SPEED, R.MOT_Mm_MOD.M, R.MOT_Mm_MOD.CONF, R.MOT_Mm_IDQ_REF.ID]
/-- Part 12 of `allFlds`. -/
def allFlds12 : List Fld :=
  [R.MOT_Mm_IDQ_REF.IQ, R.MOT_Mm_IDQ_MEAS.ID, R.MOT_Mm_IDQ_MEAS.IQ, R.MOT_Mm_TORQUE.T_EST,
   R.MOT_Mm_TORQUE.T_LIM, R.MOT_Mm_ILIM.I_EFF, R.MOT_Mm_ILIM.BOUND, R.MOT_Mm_KE_MEAS.RATIO,
   R.MOT_Mm_KE_MEAS.WINDOWS, R.MOT_Mm_DELTA.DELTA, R.MOT_Mm_CNT.LOSS, R.MOT_Mm_CNT.CATCH,
   R.MOT_Mm_CNT.XCHK, R.MOT_Mm_CNT.REGION, R.MOT_Mm_MTPAj.IQ, R.MOT_Mm_MTPAj.ID,
   R.MOT_CCk_CFG.EN, R.MOT_CCk_CFG.LAST, R.MOT_CCk_CFG.SRC, R.MOT_CCk_ON.X_ON,
   R.MOT_CCk_OFF.X_OFF, R.MOT_CCk_IN.IN, R.MOT_CCk_OUT.OUT, R.MOT_CCk_STATUS.ON,
   R.MOT_CCk_STATUS.CFG_ERR, R.MOT_CCk_Xi.X, R.MOT_CCk_Yi.Y, R.NRG_CTRL.OV_IRQ_EN,
   R.NRG_CTRL.CTR_IRQ_EN, R.NRG_CTRL.WELD_IRQ_EN, R.NRG_CTRL.GRID_IRQ_EN, R.NRG_CTRL.LOG_EN,
   R.NRG_STATUS.OV1, R.NRG_STATUS.OV2, R.NRG_STATUS.OV3, R.NRG_STATUS.CLAMP,
   R.NRG_STATUS.OV_SLOW, R.NRG_STATUS.NEG_UNTESTED, R.NRG_STATUS.OV1_EVT, R.NRG_STATUS.OV2_EVT,
   R.NRG_STATUS.OV3_EVT, R.NRG_STATUS.WELD, R.NRG_STATUS.HOT_OPEN, R.NRG_STATUS.GRID_TRIP,
   R.NRG_STATUS.CFG_ERR, R.NRG_VSRC.LINK_SDF, R.NRG_VSRC.LINK_SLOT, R.NRG_VSRC.PACK_SLOT,
   R.NRG_VSRC.IPACK_SLOT, R.NRG_SCALE.V_BASE, R.NRG_SCALE.TRIP_FS, R.NRG_OV1.V,
   R.NRG_OV1.HYST, R.NRG_OV1.RAMP, R.NRG_OV2.V, R.NRG_OV2.HYST,
   R.NRG_OV2.IMPORT_GRP, R.NRG_OV3.V, R.NRG_OV3.HOLD, R.NRG_OV3.ASC_GRP]
/-- Part 13 of `allFlds`. -/
def allFlds13 : List Fld :=
  [R.NRG_OV_CNT.OV1, R.NRG_OV_CNT.OV2, R.NRG_OV_CNT.OV3, R.NRG_OV_CNT.OV3_OPEN,
   R.NRG_CHOP.EN, R.NRG_CHOP.LEG0, R.NRG_CHOP.LEG1, R.NRG_CHOP.LEG1_EN,
   R.NRG_CHOP.P_LEG, R.NRG_CHOP_STAT.HEALTHY, R.NRG_CHOP_STAT.FIRED, R.NRG_CHOP_STAT.FAIL,
   R.NRG_REGEN.P_MAX, R.NRG_REGEN.ACC_MIN, R.NRG_ACCEPT.P_ACC, R.NRG_REGEN_LIM.P,
   R.NRG_REGEN_LIM.RAMPING, R.NRG_IBASE.I_BASE, R.NRG_CTR_CMD.CMD, R.NRG_CTR_RESULT.LAST_CMD,
   R.NRG_CTR_RESULT.BUSY, R.NRG_CTR_RESULT.RESULT, R.NRG_CTR_RESULT.STEP, R.NRG_PRE.PCT,
   R.NRG_PRE.T_MIN, R.NRG_PRE.T_MAX, R.NRG_PRE.T_OVL, R.NRG_WELD.DV,
   R.NRG_WELD.T_CHK, R.NRG_WELD.DIS_OUT, R.NRG_WELD.V_SAFE, R.NRG_OPEN.I_OPEN,
   R.NRG_OPEN.T_WAIT, R.NRG_DC.INLET_SLOT, R.NRG_DC.DV_MATCH, R.NRG_DC.I_DC_MAX,
   R.NRG_CTRc_CFG.SO, R.NRG_CTRc_CFG.EN, R.NRG_CTRc_CFG.T_PULL, R.NRG_CTRc_CFG.T_DROP,
   R.NRG_CTRc_ECO.ECO_EN, R.NRG_CTRc_ECO.DUTY, R.NRG_CTRc_ECO.FREQ, R.NRG_CTRc_STATUS.STATE,
   R.NRG_CTRc_STATUS.FB, R.NRG_CTRc_STATUS.WELDED, R.NRG_CTRc_STATUS.FB_ERR, R.NRG_CTRc_CNT.CLOSES,
   R.NRG_CTRc_CNT.HOT_OPENS, R.NRG_HVC_CFG.EN, R.NRG_HVC_CFG.TB_LEAD, R.NRG_HVC_CFG.TB_LAG,
   R.NRG_HVC_CFG.VSLOT, R.NRG_HVC_CFG.ISLOT, R.NRG_HVC_CFG.VSET_SLOT, R.NRG_HVC_CFG.ISET_SLOT,
   R.NRG_HVC_CFG.SR_EN, R.NRG_HVC_SET.VSET, R.NRG_HVC_SET.ISET, R.NRG_HVC_SR.SR_ON]
/-- Part 14 of `allFlds`. -/
def allFlds14 : List Fld :=
  [R.NRG_HVC_SR.SR_OFF, R.NRG_HVC_SS.SLEW, R.NRG_HVC_STATUS.STATE, R.NRG_HVC_STATUS.SR_ON,
   R.NRG_HVC_STATUS.CFG_ERR, R.NRG_OBC_CFG.EN, R.NRG_OBC_CFG.FUNC, R.NRG_OBC_CFG.TB_DAB_P,
   R.NRG_OBC_CFG.TB_DAB_S, R.NRG_OBC_SLOTS.PSLOT, R.NRG_OBC_SLOTS.REF_SLOT0, R.NRG_OBC_SLOTS.BUS_SLOT,
   R.NRG_OBC_SLOTS.VG_CH0, R.NRG_OBC_PQ.P, R.NRG_OBC_PQ.Q, R.NRG_OBC_RAMP.RAMP,
   R.NRG_OBC_VWIN.LO, R.NRG_OBC_VWIN.HI, R.NRG_OBC_FWIN.LO, R.NRG_OBC_FWIN.HI,
   R.NRG_OBC_TRIPT.T_V, R.NRG_OBC_TRIPT.T_F, R.NRG_OBC_EXPORT.V, R.NRG_OBC_EXPORT.F,
   R.NRG_OBC_GRID.V, R.NRG_OBC_GRID.F, R.NRG_OBC_STATUS.STATE, R.NRG_OBC_STATUS.PLL_LOCK,
   R.NRG_OBC_STATUS.GRID_TRIP, R.NRG_OBC_STATUS.CFG_ERR, R.LVP_CTRL.EN, R.LVP_CTRL.CHG_EN,
   R.LVP_CTRL.FAULT_IRQ_EN, R.LVP_CTRL.PATH_IRQ_EN, R.LVP_CTRL.LOG_EN, R.LVP_STATUS.PATH,
   R.LVP_STATUS.STAGE, R.LVP_STATUS.PAIR, R.LVP_STATUS.REQUAL, R.LVP_STATUS.NTC_FAULT,
   R.LVP_STATUS.HANDOVER_EVT, R.LVP_STATUS.REPLUG_IGN, R.LVP_STATUS.REVERSE, R.LVP_STATUS.OVERCURRENT,
   R.LVP_STATUS.CUTOFF, R.LVP_STATUS.T_ABS_END, R.LVP_STATUS.SET_SAT, R.LVP_CMD.RECONNECT,
   R.LVP_CHG_CFG.PROFILE, R.LVP_CHG_CFG.TEMP_COMP, R.LVP_CHG_CFG.NTC_SEL, R.LVP_CHG_CFG.IBAT_CH,
   R.LVP_CHG_V.V_CV, R.LVP_CHG_V.V_HOLD, R.LVP_CHG_I.I_CHG, R.LVP_CHG_I.I_TAIL,
   R.LVP_CHG_T.TC, R.LVP_CHG_T.T_ABS, R.LVP_CHG_T.T_LO, R.LVP_CHG_T.T_HI]
/-- Part 15 of `allFlds`. -/
def allFlds15 : List Fld :=
  [R.LVP_BASE.V_BASE, R.LVP_BASE.I_BASE, R.LVP_PROT.V_CUTOFF, R.LVP_PROT.I_MAX,
   R.LVP_MEAS_V.VBAT, R.LVP_MEAS_V.VBUS, R.LVP_MEAS_I.IP, R.LVP_MEAS_I.TBAT,
   R.LVP_ACT_CFG.ACT_EN, R.LVP_ACT_CFG.ACT_VSET, R.LVP_ACT_CFG.ACT_ILIM, R.LVP_ACT_STATUS.RUN,
   R.LVP_ACT_STATUS.ILIMIT, R.LVP_ACT_STATUS.ACT_UV, R.LVP_ACT_STATUS.IN_UV, R.LVP_ACT_STATUS.VACT,
   R.LVP_KEEP_CTRL.ARM, R.LVP_KEEP_CTRL.STORE, R.LVP_KEEP_STATUS.BTN, R.LVP_KEEP_STATUS.PRESS_SHORT,
   R.LVP_KEEP_STATUS.PRESS_8S, R.LVP_KEEP_STATUS.PRESS_20S, R.LVP_KEEP_STATUS.STORAGE_EXIT, R.LVP_KEEP_STATUS.REFUSED,
   R.LVP_KEEP_STATUS.LAST_PRESS, R.LVP_CNT.HANDOVERS, R.LVP_CNT.REPLUG_IGN, R.LVP_CNT.REVERSE,
   R.LVP_CNT.ISOLATE, R.LNK_CTRL.COPY_EN, R.LNK_CTRL.SNAP_EN, R.LNK_CTRL.CHS_EN,
   R.LNK_CTRL.SWITCH_IRQ_EN, R.LNK_CTRL.CHS_IRQ_EN, R.LNK_CTRL.LINK_IRQ_EN, R.LNK_CTRL.LOG_EN,
   R.LNK_CTRL.WARM_CNT, R.LNK_STATUS.LINK_UP, R.LNK_STATUS.PARTNER, R.LNK_STATUS.ROLE,
   R.LNK_STATUS.AUTH_REQ, R.LNK_STATUS.GRANTED, R.LNK_STATUS.PARTNER_LOST, R.LNK_STATUS.LINK_LOST,
   R.LNK_STATUS.SWITCH, R.LNK_STATUS.UNVERIFIED, R.LNK_CMD.HANDOVER, R.LNK_CMD.SNAP_NOW,
   R.LNK_CMD_RESULT.RESULT, R.LNK_CMD_RESULT.BUSY, R.LNK_ERR_CNT.CRC_ERR, R.LNK_ERR_CNT.LOST,
   R.LNK_ERR_CNT.LINK_LOSS, R.LNK_ERR_CNT.RESEND, R.LNK_COPY_CFG.DL, R.LNK_COPY_SLOTS.SLOTS,
   R.LNK_FW_WIN.ADDR, R.LNK_FW_LEN.LEN, R.LNK_COPY_STATUS.SENT, R.LNK_COPY_STATUS.ACKED]
/-- Part 16 of `allFlds`. -/
def allFlds16 : List Fld :=
  [R.LNK_COPY_STATUS.VERIFIED, R.LNK_COPY_STATUS.FW_NEW, R.LNK_COPY_STATUS.UNVER_RUN, R.LNK_COPY_STATUS.WARM,
   R.LNK_COPY_STATUS.CYCLE, R.LNK_COPY_SIG.SIG, R.LNK_COPY_CNT.VERIFIED, R.LNK_COPY_CNT.UNVERIFIED,
   R.LNK_SNAP_CFG.PERIOD, R.LNK_OWN_WIN.ADDR, R.LNK_OWN_LEN.LEN, R.LNK_SNAP_WC.COUNTS,
   R.LNK_SNAP_STATUS.POS, R.LNK_SNAP_STATUS.LOADED, R.LNK_SNAP_STATUS.SHARED_USED, R.LNK_SNAP_STATUS.NONE,
   R.LNK_SNAP_STATUS.FAIL, R.LNK_SNAP_STATUS.AGE, R.LNK_SWITCH.PLANNED, R.LNK_SWITCH.FROM,
   R.LNK_SWITCH.LATE_TAKE, R.LNK_SWITCH.COUNT, R.LNK_SWITCH_TIME.GAP, R.LNK_SWITCH_TIME.ALIGN,
   R.LNK_CHS_CFG.RATE, R.LNK_CHS_CFG.WORDS, R.LNK_CHS_CFG.DIS_CNT, R.LNK_CHS_CFG.NET_CNT,
   R.LNK_CHS_CFG.SENS_CNT, R.LNK_CHS_CFG.DATA_ID, R.LNK_CHS_TIME.CMD_DL, R.LNK_CHS_TIME.CMP_WAIT,
   R.LNK_CHS_TIME.TX_DL, R.LNK_CHS_NET.CTRL, R.LNK_CHS_NET.TEMPLATE, R.LNK_CHS_STATUS.RUN,
   R.LNK_CHS_STATUS.AGREE, R.LNK_CHS_STATUS.ALONE, R.LNK_CHS_STATUS.PASSIVE, R.LNK_CHS_STATUS.DIS_RUN,
   R.LNK_CHS_STATUS.SENS_RUN, R.LNK_CHS_STATUS.MISS_RUN, R.LNK_CHS_STATUS.NET_RUN, R.LNK_CHS_STATUS.DISAGREE_EVT,
   R.LNK_CHS_STATUS.MISS_EVT, R.LNK_CHS_STATUS.DECLARED, R.LNK_CHS_CNT.DISAGREE, R.LNK_CHS_CNT.MISS,
   R.LNK_CHS_CNT.ALONE, R.LNK_CHS_CNT.TX_FAIL, R.LNK_CHS_SEAL.SEAL, R.LNK_CHS_CYCLE.N,
   R.LNK_CHS_INk_CFG.EN, R.LNK_CHS_INk_CFG.REQUIRED, R.LNK_CHS_INk_CFG.SENT, R.LNK_CHS_INk_CFG.MAX_AGE,
   R.LNK_CHS_INk_LO.LO, R.LNK_CHS_INk_HI.HI, R.LNK_CHS_INk_TOL.RATE, R.LNK_CHS_INk_TOL.XTOL]
/-- Part 17 of `allFlds`. -/
def allFlds17 : List Fld :=
  [R.LNK_CHS_INk_VAL.VALUE, R.LNK_CHS_INk_VAL.PLAUSIBLE, R.LNK_CHS_PINk.VALUE, R.LNK_CHS_PINk.PLAUSIBLE,
   R.LNK_CHS_PINk.FRESH, R.LNK_CHS_CMDw.CMD, R.LNK_CHS_TOLw.TOL, R.LNK_CHS_PCMDw.CMD,
   R.LNK_CHS_RXj_CFG.EN, R.LNK_CHS_RXj_CFG.TEMPLATE, R.LNK_CHS_RXj_CFG.DATA_ID, R.LNK_CHS_RX_STATUS.VALID,
   R.LNK_CHS_RX_STATUS.SEEN, R.DSP_ID.REV, R.DSP_STATUS.HANDSHAKE_A, R.DSP_STATUS.HANDSHAKE_B,
   R.DSP_STATUS.SAFE_STOP, R.DSP_STATUS.DEGRADED, R.DSP_STATUS.OSC_OK, R.DSP_CTRL.ARRANGEMENT,
   R.DSP_CTRL.PREF, R.DSP_CTRL.LOG_EN, R.DSP_SEAL.SEALED, R.DSP_SEAL.SEALER,
   R.DSP_ALIVE.COUNT, R.DSP_TIME_LO.TIME, R.DSP_TIME_HI.TIME, R.DSP_OUTCOME.LOST,
   R.DSP_OUTCOME.SINGLE, R.DSP_OUTCOME.DEGRADED, R.DSP_OUTCOME.SS_CONTROLLED, R.DSP_OUTCOME.SS_IMMEDIATE,
   R.DSP_DECLARE.CLASS, R.DSP_GRANT.STATE, R.DSP_GRANT.REQ_A, R.DSP_GRANT.REQ_B,
   R.DSP_GRANT.ELIG_A, R.DSP_GRANT.ELIG_B, R.DSP_GRANT.HOLD_TIME, R.DSP_GRANT_CNT.GRANTS,
   R.DSP_GRANT_CNT.HOLDS, R.DSP_GRANT_CNT.EXPIRED, R.DSP_DEG_CFG.DURATION, R.DSP_DEG_REMAIN.MS,
   R.DSP_DEG_STATUS.RUNNING, R.DSP_DEG_STATUS.EXPIRED, R.DSP_DEG_STATUS.CLASS, R.DSP_SS_CFG.RAMP,
   R.DSP_SS_CFG.RAMP_MARGIN, R.DSP_SS_CFG.FORCE, R.DSP_SS_CFG.BRAKE_WIN, R.DSP_SS_CMD.RAMP_DONE,
   R.DSP_SS_CMD.BRAKE_APPLIED, R.DSP_SS_STATUS.FORM, R.DSP_SS_STATUS.RAMP_RUN, R.DSP_SS_STATUS.RAMP_EXPIRED,
   R.DSP_SS_STATUS.OUTPUTS_OPEN, R.DSP_SS_STATUS.BRAKE_A, R.DSP_SS_STATUS.BRAKE_B, R.DSP_SS_STATUS.BRAKE_WIN_EXP]
/-- Part 18 of `allFlds`. -/
def allFlds18 : List Fld :=
  [R.DSP_CLAMP_CFG.I_CLAMP, R.DSP_CLAMP_CFG.R_WIND, R.DSP_CLAMP_CFG.T_APPLY, R.DSP_CLAMP_CFG.HOLD,
   R.DSP_CLAMP_STATUS.CMD_A, R.DSP_CLAMP_STATUS.CMD_B, R.DSP_CLAMP_STATUS.FRAME_OK_A, R.DSP_CLAMP_STATUS.FRAME_OK_B,
   R.DSP_RESP_CFG.MISS_LOSS, R.DSP_RESP_CFG.MISS_LIMIT, R.DSP_RESP_CFG.FE_LOSS, R.DSP_RESP_CFG.FE_STBY,
   R.DSP_CHS.FAIL_A, R.DSP_CHS.FAIL_B, R.DSP_SUPPLY.VBAT_A_OK, R.DSP_SUPPLY.VBAT_B_OK,
   R.DSP_SUPPLY.VSO_OK, R.DSP_SUPPLY.VBAT_A, R.DSP_SUPPLY.VBAT_B, R.DSP_OSC.OK,
   R.DSP_OSC.DEV, R.DSP_TEMP.T0, R.DSP_TEMP.T1, R.DSP_LAMP.STAT0,
   R.DSP_LAMP.STAT1, R.DSP_LAMP.ROW, R.DSP_WAKE_CFG.WAKE0_EN, R.DSP_WAKE_CFG.WAKE1_EN,
   R.DSP_WAKE_CFG.WAKE0_POL, R.DSP_WAKE_CFG.WAKE1_POL, R.DSP_WAKE_CFG.FILT, R.DSP_WAKE_STATUS.WAKE0,
   R.DSP_WAKE_STATUS.WAKE1, R.DSP_WAKE_STATUS.WOKE0, R.DSP_WAKE_STATUS.WOKE1, R.DSP_WAKE_STATUS.WOKE_BTN,
   R.DSP_MODE.MODE, R.DSP_HOLD.TB, R.DSP_HOLD.EXPIRED, R.DSP_OV_STATUS.OV2,
   R.DSP_OV_STATUS.OV3, R.DSP_OV_STATUS.CLAMP, R.DSP_OV_STATUS.CHOP_OVR, R.DSP_OV_STATUS.ASC_HOLD,
   R.DSP_OV_CNT.OV2, R.DSP_OV_CNT.OV3, R.DSP_HEN.LEVEL, R.DSP_HEN.HELD,
   R.DSP_TRAIN.LOCK, R.DSP_TRAIN.OWNER, R.DSP_TRAIN.RECORD_VALID, R.DSP_FAULT_CNT.DECLARATIONS,
   R.DSP_FAULT_CNT.EVENTS, R.DSP_FAULT_CNT.MISSES, R.DSP_FAULT_CNT.FE, R.DSP_FR_HEAD.NEXT,
   R.DSP_FR_HEAD.COUNT, R.DSP_FR_HEAD.WRAPPED, R.DSP_CLAMP_MASK.MASK_A, R.DSP_CLAMP_MASK.MASK_B]
/-- Part 19 of `allFlds`. -/
def allFlds19 : List Fld :=
  [R.DSP_OV2.VALUE, R.DSP_OV3.VALUE, R.DSP_CHOP.VALUE, R.DSP_PK_NET_LO.TIME,
   R.DSP_PK_NET_HI.TIME, R.DSP_PK_NET_UNC.US, R.DSP_PK_FREQ.MHZ, R.DSP_PK_START.COUNT,
   R.DSP_PK_CHANGE.COUNT, R.DSP_PK_STOP.COUNT, R.DSP_PK_ELAPSED_LO.TIME, R.DSP_PK_ELAPSED_HI.TIME,
   R.DSP_PK_UNC.US, R.DSP_PK_INFO.VALID, R.DSP_PK_INFO.SRC_CHANGE, R.DSP_PK_INFO.SOURCE,
   R.DSP_SO_TEST.PERIOD, R.DSP_SO_TEST.PULSE, R.DSP_SO_TEST.AT_START, R.DSP_SO_TEST_STATUS.LAST_OUT,
   R.DSP_SO_TEST_STATUS.LAST_RESULT, R.DSP_SO_TEST_STATUS.BUSY, R.DSP_SO_TEST_STATUS.FAILED, R.DSP_SO_FB.LEVEL,
   R.DSP_SO_LS.LEVEL, R.DSP_WELD.WELDED, R.DSP_SO_TEST_CMD.OUT, R.DSP_SO_TEST_CMD.GO,
   R.DSP_Lx_HB.SEQ, R.DSP_Lx_HB_CFG.OPEN, R.DSP_Lx_HB_CFG.CLOSE, R.DSP_Lx_HB_START.MS,
   R.DSP_Lx_STATUS.ARMED, R.DSP_Lx_STATUS.LOST, R.DSP_Lx_STATUS.ELIGIBLE, R.DSP_Lx_STATUS.DONE,
   R.DSP_Lx_STATUS.LAST_SEQ, R.DSP_Lx_STATUS.INTERVAL, R.DSP_Lx_SIG.SIG, R.DSP_Lx_COPY.MATCH,
   R.DSP_Lx_COPY.VERDICT, R.DSP_Lx_COPY.CYCLE, R.DSP_Lx_CNT.HB_MISS, R.DSP_Lx_CNT.WINDOW_MISS,
   R.DSP_Lx_CNT.COPY_AGAINST, R.DSP_Lx_CNT.FE_EVENTS, R.DSP_Lx_MISS_CNT.MISSES, R.DSP_Lx_FAULT.CAUSE,
   R.DSP_Lx_EVT.FE_SLOT, R.DSP_Lx_EVT.MISS_Q, R.DSP_Lx_EVT.STANDBY, R.DSP_FRr_INFO.CLASS,
   R.DSP_FRr_INFO.CAUSE, R.DSP_FRr_INFO.STANDBY, R.DSP_FRr_INFO.DETAIL, R.DSP_FRr_INFO.OUTCOME,
   R.DSP_FRr_INFO.VALID, R.DSP_FRr_TIME.TIME, R.DSP_SOk_CFG.FUNC, R.DSP_SOk_CFG.TEST_EN]
/-- Part 20 of `allFlds`. -/
def allFlds20 : List Fld :=
  [R.DSP_SOk_CMD.CLOSE, R.DSP_SOk_CMD.ECO_EN, R.DSP_SOk_CMD.DUTY, R.DSP_SOk_CMD.FREQ,
   R.DSP_SOk_CMD.T_PULL, R.DSP_SOk_STATUS.HS, R.DSP_SOk_STATUS.LS, R.DSP_SOk_STATUS.FB,
   R.DSP_SOk_STATUS.LS_SENSE, R.DSP_SOk_STATUS.REFUSED, R.DSP_SOk_STATUS.FAIL, R.DSP_SOk_STATUS.FB_ERR,
   R.DSP_SOk_STATUS.FAIL_CAUSE, R.DSP_SOk_CNT.TESTS, R.DSP_SOk_CNT.FB_ERRS, R.DSP_GRPg.VALUE,
   R.DSP_LEGm.VALUE, R.DSP_LINKnn.VALUE, R.LCK_CFG.HALT, R.LCK_STATUS.LOCKED_AP,
   R.LCK_STATUS.LOCKED_CP, R.LCK_STATUS.DEBUG_SPLIT, R.LCK_STATUS.CANARY_PASS, R.LCK_STATUS.FAULT,
   R.LCK_FAULT.PAIR, R.LCK_FAULT.BOTH, R.LCK_FAULT.KIND, R.LCK_FAULT.GROUP,
   R.LCK_FAULT.STAGE, R.LCK_FAULT.VALID, R.LCK_FAULT_TIME.TIME, R.LCK_PREV_FAULT.VALUE,
   R.LCK_PREV_TIME.TIME, R.LCK_CANARY_STATUS.DONE, R.LCK_CANARY_STATUS.PASS, R.LCK_CANARY_STATUS.UNEXPECTED,
   R.LCK_CANARY_STATUS.COLLECTOR, R.LCK_CANARY_STATUS.FIRST_FAIL, R.LCK_CANARY_STATUS.CYCLES, R.LCK_CANARY_Pp.GROUPS,
   R.LCK_DBG.OPEN, R.LCK_DBG.HALT_AP, R.LCK_DBG.HALT_CP, R.CVU_STATUS.BUSY,
   R.CVU_STATUS.IRQ, R.CVU_Un_CFG.POLY, R.CVU_Un_CFG.MODE, R.CVU_Un_CFG.ALIVE_EN,
   R.CVU_Un_CFG.ALIVE_W, R.CVU_Un_CFG.MAX_DELTA, R.CVU_Un_CFG.IRQ_EN, R.CVU_Un_CMD.START,
   R.CVU_Un_CMD.END, R.CVU_Un_CMD.ABORT, R.CVU_Un_CMD.RESYNC, R.CVU_Un_DATA32.DATA,
   R.CVU_Un_DATA16.DATA, R.CVU_Un_DATA8.DATA, R.CVU_Un_EXPECT.VALUE, R.CVU_Un_ALIVE.COUNTER]
/-- Part 21 of `allFlds`. -/
def allFlds21 : List Fld :=
  [R.CVU_Un_RESULT.VALUE, R.CVU_Un_BYTES.COUNT, R.CVU_Un_STATUS.BUSY, R.CVU_Un_STATUS.OWNER,
   R.CVU_Un_STATUS.MISMATCH, R.CVU_Un_STATUS.REPEAT, R.CVU_Un_STATUS.JUMP, R.CVU_Un_STATUS.PROTO_ERR,
   R.CVU_Un_STATUS.UNIT_ERR, R.CVU_Un_STATUS.LAST_ALIVE, R.CVU_Un_CNT.BLOCKS, R.CVU_Un_CNT.MISMATCH,
   R.CVU_Un_CNT.ALIVE_ERR, R.CVU_Un_CNT.ABANDONED, R.SYS_ID.REV, R.SYS_ID.PART,
   R.SYS_RESET_CAUSE.SUPPLY, R.SYS_RESET_CAUSE.NRESET, R.SYS_RESET_CAUSE.LOCKSTEP, R.SYS_RESET_CAUSE.OFF,
   R.SYS_ACCESS_FAULT.ADDR, R.SYS_ACCESS_INFO.INITIATOR, R.SYS_ACCESS_INFO.WRITE, R.SYS_ACCESS_INFO.REASON,
   R.SYS_ACCESS_INFO.COUNT, R.SYS_PWR_CTRL.WAKE_IRQ_EN, R.SYS_PWR_CTRL.REFUSE_IRQ_EN, R.SYS_PWR_REQ.TARGET,
   R.SYS_PWR_STATUS.STATE, R.SYS_PWR_STATUS.BUSY, R.SYS_PWR_STATUS.STEP, R.SYS_WAKE_CFG.TIM,
   R.SYS_WAKE_CFG.DEPUTY, R.SYS_WAKE_STATUS.REG_READY, R.SYS_WAKE_STATUS.OSC_READY, R.SYS_WAKE_STATUS.MEM_READY,
   R.SYS_WAKE_STATUS.LOGIC_READY, R.SYS_WAKE_STATUS.WOKE_TIM, R.SYS_WAKE_STATUS.WOKE_DEPUTY, R.SYS_WAKE_TIME.TIME,
   R.SYS_REFUSE_CNT.COUNT, R.SYS_REFUSE_CNT.LAST_CODE, R.SYS_REFUSE_CNT.ABORTED, R.SYS_VDD_REQ.CODE,
   R.SYS_VDD_DL_LO.DL, R.SYS_VDD_DL_HI.DL, R.SYS_VDD_GO.GO, R.SYS_VDD_RESULT.ID,
   R.SYS_VDD_RESULT.ADMITTED, R.SYS_VDD_RESULT.CODE, R.SYS_VDD_STATUS.SETPOINT, R.SYS_VDD_STATUS.TARGET,
   R.SYS_VDD_STATUS.MEAS, R.SYS_VDD_STATUS.SHED, R.SYS_VDD_FLOOR.FLOOR_800, R.SYS_VDD_FLOOR.FLOOR_400,
   R.SYS_VDD_FLOOR.BOOT, R.SYS_RLK_STATUS.UP, R.SYS_RLK_STATUS.DOWN, R.SYS_RLK_CNT.CRC_ERR]
/-- Part 22 of `allFlds`. -/
def allFlds22 : List Fld :=
  [R.SYS_RLK_CNT.SUPERSEDED, R.SYS_RLK_CNT.DOWN, R.VRC_CORE_CFG.SLEW, R.VRC_CORE_CFG.SHED_EN,
   R.VRC_CORE_CFG.DT, R.VRC_CORE_STATUS.SETPOINT, R.VRC_CORE_STATUS.TARGET, R.VRC_CORE_STATUS.SHED,
   R.VRC_CORE_STATUS.GAIN_SET, R.VRC_CORE_STATUS.SLEWING, R.VRC_CORE_STATUS.NAP, R.VRC_CORE_STATUS.RLK_LOSS,
   R.VRC_CORE_STATUS.MON_TRIP, R.VRC_CORE_MEAS.VDDC, R.VRC_CORE_MEAS.I_TOTAL, R.VRC_CORE_CNT.OC,
   R.VRC_CORE_CNT.SHEDS, R.VRC_CORE_CNT.ABORTS, R.VRC_SHED_CFG.SHED2, R.VRC_SHED_CFG.SHED1,
   R.VRC_SHED_CFG.HYST, R.VRC_SHED_CFG.RESTORE, R.VRC_SHED_CFG2.DWELL, R.VRC_LIMIT.OC,
   R.VRC_PHp_MEAS.I, R.VRC_PHp_MEAS.ACTIVE, R.VRC_GSs_PID.KP, R.VRC_GSs_PID.KI,
   R.VRC_GSs_KD.KD, R.VRC_GSs_POLE.A1, R.VRC_GSs_POLE.A2, R.VRC_GSs_DUTY.DMIN,
   R.VRC_GSs_DUTY.DMAX, R.PAP_ID.REV, R.PAP_ID.PART, R.PAP_STATUS.LANE,
   R.PAP_STATUS.SUP_OK, R.PAP_STATUS.CLAMP, R.PAP_STATUS.BRAKE, R.PAP_STATUS.ACT_CLAMP,
   R.PAP_RESET_CAUSE.SUPPLY, R.PAP_RESET_CAUSE.NRESET, R.PAP_RESET_CAUSE.THERMAL, R.PAP_RESET_CAUSE.OFF,
   R.PAP_SUP_STATUS.OK, R.PAP_SUP_STATUS.FALL, R.PAP_SUP_STATUS.IO_OK, R.PAP_SUPs_MEAS.MV,
   R.PAP_VDDIOv_MEAS.MV, R.PAP_VDDIOv_MEAS.LEVEL, R.PAP_OSC.OK, R.PAP_OSC.DEV,
   R.PAP_OSC.TRIMMED, R.PAP_SHUT.COUNT, R.PAP_SHUT.LAST, R.PAP_TEMPi.TEMP,
   R.PAP_TEMPi.VALID, R.PAP_CLAMP_STATUS.CMD, R.PAP_CLAMP_STATUS.FRAME_OK, R.PAP_CLAMP_STATUS.STAGE]
/-- Part 23 of `allFlds`. -/
def allFlds23 : List Fld :=
  [R.PAP_CLAMP_STATUS.DUTY, R.PAP_CLAMP_STATUS.FRAMES, R.PAP_BRK_CFG.MASK, R.PAP_BRK_CFG.I_LIM,
   R.PAP_BRK_CFG.FORCE, R.PAP_BRK_CMD.APPLY, R.PAP_BRK_CMD.RELEASE, R.PAP_BRK_STATUS.ACTIVE,
   R.PAP_BRK_STATUS.AT_FORCE, R.PAP_BRK_STATUS.LOW, R.PAP_BRK_STATUS.REFUSED, R.PAP_BRK_STATUS.MIN_I,
   R.PAP_CNT.CLAMPS, R.PAP_CNT.BRAKES, R.PAP_CNT.SUP_FALL, R.PAP_CNT.RT_ERR,
   R.THM_CTRL.WARN_IRQ_EN, R.THM_CTRL.THR_IRQ_EN, R.THM_CTRL.LOG_EN, R.THM_CTRL.LOOK,
   R.THM_STATUS.FAST, R.THM_STATUS.THROTTLE, R.THM_STATUS.WARN, R.THM_STATUS.RATE_WARN,
   R.THM_STATUS.SEEDED, R.THM_STATUS.WARN_EVT, R.THM_STATUS.THR_EVT, R.THM_STATUS.RATE_EVT,
   R.THM_STATUS.NTC_FAULT_EVT, R.THM_MAX.TEMP, R.THM_MAX.SRC, R.THM_KTHM.K,
   R.THM_KTHM.CLASS, R.THM_SHUT.COUNT, R.THM_SHUT.LAST, R.THM_NTC_PU.R_PU,
   R.THM_CNT.FAST, R.THM_CNT.THROTTLE, R.THM_HEAD_MAX.TEMP, R.THM_HEAD_MAX.LINK,
   R.THM_SENSi.TEMP, R.THM_SENSi.VALID, R.THM_NTCn_CFG.EN, R.THM_NTCn_CFG.R25,
   R.THM_NTCn_CFG.BETA, R.THM_NTCn_TEMP.TEMP, R.THM_NTCn_TEMP.VALID, R.THM_NTCn_TEMP.OPEN,
   R.THM_NTCn_TEMP.SHORT, R.THM_CLc_LIM.WARN, R.THM_CLc_LIM.DS, R.THM_CLc_LIM.DE,
   R.THM_CLc_LIM.EN, R.THM_CLc_RATE.WARN, R.THM_CLc_RATE.THR, R.THM_MODm_CFG.EN,
   R.THM_MODm_CFG.P_SLOT, R.THM_MODm_CFG.REF, R.THM_MODm_PAR.RTH, R.THM_MODm_PAR.TAU]
/-- Part 24 of `allFlds`. -/
def allFlds24 : List Fld :=
  [R.THM_MODm_PBASE.PBASE, R.THM_MODm_TEMP.TEMP, R.CANn_CTRL.EN, R.CANn_CTRL.FD_EN,
   R.CANn_CTRL.XL_EN, R.CANn_CTRL.OPMODE, R.CANn_CTRL.AUTO_RECOVER, R.CANn_CTRL.NOMATCH,
   R.CANn_CTRL.RX_IRQ_EN, R.CANn_CTRL.HP_IRQ_EN, R.CANn_CTRL.ERR_IRQ_EN, R.CANn_CTRL.LOG_EN,
   R.CANn_STATUS.SYNC, R.CANn_STATUS.BUS_OFF, R.CANn_STATUS.PASSIVE, R.CANn_STATUS.CFG_ERR,
   R.CANn_STATUS.BUS_OFF_EVT, R.CANn_STATUS.CANCEL_LATE, R.CANn_STATUS.FIFO_OVR, R.CANn_STATUS.HP_OVR,
   R.CANn_STATUS.PROTO_EXC, R.CANn_NBT.BRP, R.CANn_NBT.SEG1, R.CANn_NBT.SEG2,
   R.CANn_NBT.SJW, R.CANn_DBT.BRP, R.CANn_DBT.SEG1, R.CANn_DBT.SEG2,
   R.CANn_DBT.SJW, R.CANn_XBT.BRP, R.CANn_XBT.SEG1, R.CANn_XBT.SEG2,
   R.CANn_XBT.SJW, R.CANn_TDC.EN, R.CANn_TDC.OFFSET, R.CANn_XPWM.PWMS,
   R.CANn_XPWM.PWML, R.CANn_XPWM.PWMO, R.CANn_XPWM.EN, R.CANn_ERR.TEC,
   R.CANn_ERR.REC, R.CANn_ERR.LAST, R.CANn_ERR.DATA_PHASE, R.CANn_ERR_CNT.ACK,
   R.CANn_ERR_CNT.OTHER, R.CANn_ERR_CNT.BUS_OFF, R.CANn_ERR_CNT.CANCEL_LATE, R.CANn_TX_REQ.TEMPLATE,
   R.CANn_TX_DL_LO.DL, R.CANn_TX_DL_HI.DL, R.CANn_TX_GO.GO, R.CANn_TX_RESULT.ID,
   R.CANn_TX_RESULT.ADMITTED, R.CANn_TX_RESULT.CODE, R.CANn_RX_STATUS.LEVEL, R.CANn_RX_STATUS.READ,
   R.CANn_RX_POP.POP, R.CANn_HP_STATUS.LEVEL, R.CANn_HP_STATUS.NEXT, R.CANn_HP_STATUS.HP_NEW]
/-- Part 25 of `allFlds`. -/
def allFlds25 : List Fld :=
  [R.CANn_HP_POP.POP, R.CANn_RAM_PAGE.PAGE, R.CANn_SCHED.EN, R.CANn_SCHED.BC,
   R.CANn_SCHED_STATUS.BASE, R.CANn_SCHED_STATUS.RUNNING, R.CANn_SCHED_STATUS.SCHED_ERR, R.CANn_SCHED_STATUS.TT_SKIP,
   R.CANn_CMD.RECOVER, R.CANn_CNT.RX, R.CANn_CNT.TX, R.CANn_TT_CNT.CELLS_USED,
   R.CANn_TT_CNT.CELLS_EMPTY, R.ETH_CTRL.LINK_IRQ_EN, R.ETH_CTRL.RX_IRQ_EN, R.ETH_CTRL.LOG_EN,
   R.ETH_STATUS.UP, R.ETH_STATUS.LINK_EVT, R.ETH_T1S_PLCA.NODE_ID, R.ETH_T1S_PLCA.NODE_CNT,
   R.ETH_T1S_PLCA.TO_TMR, R.ETH_T1S_PLCA.MAX_BC, R.ETH_T1S_STATUS.PLCA_ACTIVE, R.ETH_T1S_STATUS.COORD,
   R.ETH_T1S_STATUS.COLL_EVT, R.ETH_T1S_STATUS.PLCA_LOST, R.ETHm_CFG.EN, R.ETHm_CFG.IF,
   R.ETHm_CFG.SPEED, R.ETHm_CFG.TXDLY, R.ETHm_CFG.RXDLY, R.ETHm_CFG.PROMISC,
   R.ETHm_CFG.MCAST_ALL, R.ETHm_CFG.PAUSE_RX, R.ETHm_CFG.ACCEPT_UNTAGGED, R.ETHm_MAC_LO.ADDR,
   R.ETHm_MAC_HI.ADDR, R.ETHm_LINK.UP, R.ETHm_LINK.SPEED, R.ETHm_LINK.FULL_DUPLEX,
   R.ETHm_LINK.AN_DONE, R.ETHm_MDIO.REG, R.ETHm_MDIO.PHY, R.ETHm_MDIO.WRITE,
   R.ETHm_MDIO.DATA, R.ETHm_MDIO_STATUS.BUSY, R.ETHm_MDIO_STATUS.DATA, R.ETHm_TX_ADDR.ADDR,
   R.ETHm_TX_LEN.LEN, R.ETHm_TX_LEN.TAG, R.ETHm_TX_LEN.PCP, R.ETHm_TX_LEN.VID,
   R.ETHm_TX_DL_LO.DL, R.ETHm_TX_DL_HI.DL, R.ETHm_TX_GO.GO, R.ETHm_TX_RESULT.ID,
   R.ETHm_TX_RESULT.ADMITTED, R.ETHm_TX_RESULT.CODE, R.ETHm_RX_BASE.ADDR, R.ETHm_RX_RING.RING]
/-- Part 26 of `allFlds`. -/
def allFlds26 : List Fld :=
  [R.ETHm_RX_STATUS.HEAD, R.ETHm_RX_STATUS.FREE, R.ETHm_RX_RELEASE.COUNT, R.ETHm_AS_CFG.AS_EN,
   R.ETHm_AS_CFG.LOG_PDELAY, R.ETHm_AS_CFG.NEIGHBOR_THR, R.ETHm_AS_STATUS.AS_CAPABLE, R.ETHm_AS_STATUS.SYNCED,
   R.ETHm_AS_STATUS.GM_PRESENT, R.ETHm_AS_STATUS.LOG_SYNC, R.ETHm_AS_PDELAY.NS, R.ETHm_CNT.RX,
   R.ETHm_CNT.DROP, R.ETHm_CNT.ERR, R.ETHm_VIDv.EN, R.ETHm_VIDv.VID,
   R.ASY_CTRL.EN, R.ASY_CTRL.V_SDF, R.ASY_CTRL.I_SDF, R.ASY_CTRL.COMMIT_IRQ_EN,
   R.ASY_CTRL.XCHK_IRQ_EN, R.ASY_SCALE.V_FS, R.ASY_SCALE.I_FS, R.ASY_COMMIT.I_RATED,
   R.ASY_COMMIT.COMMIT_DL, R.ASY_STATUS.RUN, R.ASY_STATUS.COMMITTER, R.ASY_STATUS.NO_KEY,
   R.ASY_STATUS.ADOPTED, R.ASY_STATUS.METER_FAULT, R.ASY_STATUS.XCHK_DIS, R.ASY_STATUS.PEND_OVR,
   R.ASY_STATUS.LEDGER_OVR, R.ASY_STATUS.LEDGER_FAULT, R.ASY_STATUS.HOLDUP, R.ASY_STATUS.ADOPT_HIGH,
   R.ASY_IMP_LO.UWH, R.ASY_IMP_HI.UWH, R.ASY_EXP_LO.UWH, R.ASY_EXP_HI.UWH,
   R.ASY_POWER.W, R.ASY_REQ.COMMIT, R.ASY_SEQ.SEQ, R.ASY_SLOT.SLOT,
   R.ASY_READ_MARK.SEQ, R.ASY_PEND.HELD, R.ASY_PEND.LAST, R.ASY_XCHK.DEV,
   R.ASY_XCHK.BLOCKS, R.ASY_CNT.COMMITS, R.ASY_CNT.REFUSED, R.ASY_CNT.XCHK_DIS,
   R.ASY_CNT.XIN_CRC, R.ASY_FAULT_TIME.MS, R.ASY_XOUTw.WORD, R.ASY_XINw.WORD,
   R.ASY_Mm_IMP_LO.UWH, R.ASY_Mm_IMP_HI.UWH, R.ASY_Mm_EXP_LO.UWH, R.ASY_Mm_EXP_HI.UWH]
/-- Part 27 of `allFlds`. -/
def allFlds27 : List Fld :=
  [R.SEC_LC.STATE, R.SEC_LC.KEYS, R.SEC_LC.BANK, R.SEC_LC.DEBUG,
   R.SEC_LC.KEYGEN_LOST, R.SEC_LC.DBG_RECORDED, R.SEC_LC_REQ.TARGET, R.SEC_LC_REQ.KEY,
   R.SEC_LC_STATUS.BUSY, R.SEC_LC_STATUS.STEP, R.SEC_LC_STATUS.RESULT, R.SEC_KEY_SRC.ADDR,
   R.SEC_KEY_PROG.SLOT, R.SEC_KEY_PROG.GO, R.SEC_DBG_SRC.ADDR, R.SEC_DBG_CMD.CHALLENGE,
   R.SEC_DBG_CMD.OPEN, R.SEC_DBG_STATUS.LIVE, R.SEC_DBG_STATUS.STEP, R.SEC_DBG_STATUS.RESULT,
   R.SEC_JOB_ADDR.ADDR, R.SEC_JOB_DL_LO.DL, R.SEC_JOB_DL_HI.DL, R.SEC_JOB_GO.GO,
   R.SEC_JOB_RESULT.ID, R.SEC_JOB_RESULT.ADMITTED, R.SEC_JOB_RESULT.CODE, R.SEC_TRNG.DATA,
   R.SEC_TRNG_STATUS.READY, R.SEC_TRNG_STATUS.HEALTH_ERR, R.SEC_CNT.JOBS, R.SEC_CNT.OPEN_FAIL,
   R.SEC_CHALw.WORD, R.SEC_PUBw.WORD, R.PAP_CLAMP_FRAME0.I_CLAMP, R.PAP_CLAMP_FRAME0.R_WIND,
   R.PAP_CLAMP_FRAME0.T_APPLY, R.PAP_CLAMP_FRAME0.HOLD, R.PAP_CLAMP_FRAME1.MASK, R.PAP_CLAMP_FRAME2.SEQ,
   R.PAP_CLAMP_FRAME2.CRC]
/-- Every field of every register table of the spec, in the order of its chapters. -/
def allFlds : List Fld :=
  allFlds0 ++
  allFlds1 ++
  allFlds2 ++
  allFlds3 ++
  allFlds4 ++
  allFlds5 ++
  allFlds6 ++
  allFlds7 ++
  allFlds8 ++
  allFlds9 ++
  allFlds10 ++
  allFlds11 ++
  allFlds12 ++
  allFlds13 ++
  allFlds14 ++
  allFlds15 ++
  allFlds16 ++
  allFlds17 ++
  allFlds18 ++
  allFlds19 ++
  allFlds20 ++
  allFlds21 ++
  allFlds22 ++
  allFlds23 ++
  allFlds24 ++
  allFlds25 ++
  allFlds26 ++
  allFlds27

/-- The fields whose Reset entry is `Kept` (R11), each of one instance, in the order of their chapters. -/
def keptFlds : List Fld :=
  [R.LVP_KEEP_CTRL.ARM, R.LVP_KEEP_STATUS.BTN, R.LVP_KEEP_STATUS.PRESS_SHORT, R.LVP_KEEP_STATUS.PRESS_8S,
   R.LVP_KEEP_STATUS.PRESS_20S, R.LVP_KEEP_STATUS.STORAGE_EXIT, R.LVP_KEEP_STATUS.REFUSED, R.LVP_KEEP_STATUS.LAST_PRESS,
   R.LCK_PREV_FAULT.VALUE, R.LCK_PREV_TIME.TIME, R.PAP_RESET_CAUSE.SUPPLY, R.PAP_RESET_CAUSE.NRESET,
   R.PAP_RESET_CAUSE.THERMAL, R.PAP_RESET_CAUSE.OFF, R.PAP_SHUT.COUNT, R.PAP_SHUT.LAST,
   R.PAP_CLAMP_STATUS.CMD, R.PAP_CLAMP_STATUS.FRAME_OK, R.PAP_CLAMP_STATUS.STAGE, R.PAP_CLAMP_STATUS.DUTY,
   R.PAP_CLAMP_STATUS.FRAMES, R.PAP_BRK_STATUS.ACTIVE, R.PAP_BRK_STATUS.AT_FORCE, R.PAP_BRK_STATUS.LOW,
   R.PAP_BRK_STATUS.REFUSED, R.PAP_BRK_STATUS.MIN_I, R.THM_SHUT.COUNT, R.THM_SHUT.LAST,
   R.PAP_CLAMP_FRAME0.I_CLAMP, R.PAP_CLAMP_FRAME0.R_WIND, R.PAP_CLAMP_FRAME0.T_APPLY, R.PAP_CLAMP_FRAME0.HOLD,
   R.PAP_CLAMP_FRAME1.MASK, R.PAP_CLAMP_FRAME2.SEQ, R.PAP_CLAMP_FRAME2.CRC]

end Sys2Proof.Machine
end

