-- ==== Sys2Proof/Machine/Ops.lean ====
section
/-!
DEFINITION. The named operations over the register file, lane memory and time that every meaning uses. A register is
read and written through these alone, so its reset value, its width and its home are decided here once.
-/
namespace Sys2Proof.Machine

/-- The result type of a meaning. -/
abbrev Out := Host.Outcome State Fault Refusal

/-! ## Sorted lists of entries that differ from a default -/

/-- The entry of `k`, or the default `d` where none is listed. -/
def sget {α : Type} (d : α) (k : Nat) : List (Nat × α) → α
  | [] => d
  | (k', v) :: r => if k = k' then v else if k < k' then d else sget d k r

/-- `k` set to `v`: the list stays sorted, and an entry equal to the default is not listed. -/
def sput {α : Type} [DecidableEq α] (d : α) (k : Nat) (v : α) : List (Nat × α) → List (Nat × α)
  | [] => if v = d then [] else [(k, v)]
  | (k', v') :: r =>
    if k = k' then (if v = d then r else (k, v) :: r)
    else if k < k' then (if v = d then (k', v') :: r else (k, v) :: (k', v') :: r)
    else (k', v') :: sput d k v r

/-- The canonical form: keys strictly rising from `lo`, and no entry equal to the default. -/
def swf {α : Type} [DecidableEq α] (d : α) : Nat → List (Nat × α) → Bool
  | _, [] => true
  | lo, (k, v) :: r => decide (lo ≤ k) && decide (v ≠ d) && swf d (k + 1) r

/-! ## Register fields -/

/-- The content of a field (instance `i`, second index `j`). -/
def State.rd (s : State) (d : Die) (f : Fld) (i : Nat := 0) (j : Nat := 0) : Nat :=
  sget 0 (f.key d i j) s.regs ^^^ f.rstOn d

/-- A field set to the low bits of `v` that its width holds. -/
def State.wr (s : State) (d : Die) (f : Fld) (v : Nat) (i : Nat := 0) (j : Nat := 0) : State :=
  { s with regs := sput 0 (f.key d i j) (low f.w v ^^^ f.rstOn d) s.regs }

/-- A field read as a flag. -/
def State.on (s : State) (d : Die) (f : Fld) (i : Nat := 0) (j : Nat := 0) : Bool := s.rd d f i j != 0

/-- A field set to 1. -/
def State.set (s : State) (d : Die) (f : Fld) (i : Nat := 0) (j : Nat := 0) : State := s.wr d f 1 i j

/-- A field set to 0. -/
def State.clr (s : State) (d : Die) (f : Fld) (i : Nat := 0) (j : Nat := 0) : State := s.wr d f 0 i j

/-- A flag set to `b`. -/
def State.put (s : State) (d : Die) (f : Fld) (b : Bool) (i : Nat := 0) (j : Nat := 0) : State := s.wr d f (b2n b) i j

/-- A counting field advanced by `n`; it saturates (every counting field of the spec does). -/
def State.inc (s : State) (d : Die) (f : Fld) (i : Nat := 0) (j : Nat := 0) (n : Nat := 1) : State :=
  s.wr d f (satAdd f.w (s.rd d f i j) n) i j

/-- A signed field. -/
def State.rdS (s : State) (d : Die) (f : Fld) (i : Nat := 0) (j : Nat := 0) : Int := sx f.w (s.rd d f i j)

/-- A signed field set to `x`, limited to its range. -/
def State.wrS (s : State) (d : Die) (f : Fld) (x : Int) (i : Nat := 0) (j : Nat := 0) : State :=
  s.wr d f (ux f.w (satS f.w x)) i j

/-- An unsigned field set to `n`, limited to its largest value. -/
def State.wrSat (s : State) (d : Die) (f : Fld) (n : Nat) (i : Nat := 0) (j : Nat := 0) : State :=
  s.wr d f (min n (2 ^ f.w - 1)) i j

/-- Bit `b` of a field. -/
def State.rdBit (s : State) (d : Die) (f : Fld) (b : Nat) (i : Nat := 0) : Bool := bit (s.rd d f i) b

/-- Bit `b` of a field set to `v`. -/
def State.wrBit (s : State) (d : Die) (f : Fld) (b : Nat) (v : Bool) (i : Nat := 0) : State :=
  s.wr d f (if v then setBit (s.rd d f i) b else clrBit (s.rd d f i) b) i

/-- `f` when `c` holds. -/
def State.when (s : State) (c : Bool) (f : State → State) : State := if c then f s else s

/-- `f` for each element of a list, in order. -/
def State.each {α : Type} (s : State) (l : List α) (f : State → α → State) : State := l.foldl f s

/-- The instance of a field that the register at a lane address belongs to, if any. -/
def Fld.instAt (f : Fld) (a : Nat) : Option (Nat × Nat) :=
  if a < f.addr then none
  else
    let o := a - f.addr
    let i := if f.s1 = 0 then 0 else o / f.s1
    let r := o - f.s1 * i
    let j := if f.s2 = 0 then 0 else r / f.s2
    if i < f.n1 ∧ j < f.n2 ∧ f.addrOf i j = a then some (i, j) else none

/-- The fields of the register at a lane address, with their instance. `ETH2_CFG` lacks its bits [5:1] (R426). -/
def fieldsAt (b : Bank) (a : Nat) : List (Fld × Nat × Nat) :=
  allFlds.filterMap fun f =>
    if f.bank = b ∧ ¬ (a = 0x40100300 ∧ 1 ≤ f.lo ∧ f.lo ≤ 5) then (f.instAt a).map fun ij => (f, ij.1, ij.2) else none

/-! ## Lanes -/

/-- A lane's state. -/
def State.lane (s : State) : Lane → LaneSt
  | .a => s.laneA
  | .b => s.laneB

/-- A lane's state, replaced. -/
def State.setLane (s : State) (l : Lane) (x : LaneSt) : State :=
  match l with
  | .a => { s with laneA := x }
  | .b => { s with laneB := x }

/-- What a lane reset clears. -/
def State.run (s : State) (l : Lane) : LaneRun := (s.lane l).run

/-- What a lane's media keep. -/
def State.nv (s : State) (l : Lane) : LaneNv := (s.lane l).nv

/-- A lane's volatile state changed by `f`. -/
def State.modRun (s : State) (l : Lane) (f : LaneRun → LaneRun) : State :=
  s.setLane l { s.lane l with run := f (s.run l) }

/-- A lane's media changed by `f`. -/
def State.modNv (s : State) (l : Lane) (f : LaneNv → LaneNv) : State :=
  s.setLane l { s.lane l with nv := f (s.nv l) }

/-- The Deputy's internal state changed by `f`. -/
def State.modDep (s : State) (f : DepSt → DepSt) : State := { s with dep := f s.dep }

/-- The Deputy's view of lane `l`. -/
def State.depLane (s : State) (l : Lane) : DepLane := s.dep.lanes[l.idx]

/-- The Deputy's view of lane `l` changed by `f`. -/
def State.modDepLane (s : State) (l : Lane) (f : DepLane → DepLane) : State :=
  s.modDep fun d => { d with lanes := upd d.lanes l.idx f }

/-- The lane's island has qualified. -/
def State.island (s : State) : Lane → Bool
  | .a => s.sup.islA
  | .b => s.sup.islB

/-- The lane executes commands of its own blocks: it runs, or its clocks run while its pairs are stopped (R357). -/
def State.alive (s : State) (l : Lane) : Bool :=
  match (s.run l).phase with
  | .running => true
  | .stopped => true
  | .portFault => true
  | .starting n => 3 < n
  | _ => false

/-- The lane's pairs run firmware: from the end of `ST06` on, while the CPU domain is not gated (R383). -/
def State.firmware (s : State) (l : Lane) : Bool :=
  s.rd (laneDie l) R.SYS_PWR_STATUS.STATE == 0 &&
    match (s.run l).phase with
    | .running => true
    | .portFault => true
    | .starting n => 6 < n
    | _ => false

/-- The lifecycle leaves the debug port of a lane open (R442, R446), as `ST02` has read it. -/
def State.debugOpen (s : State) (l : Lane) : Bool := s.rd (laneDie l) R.SEC_LC.DEBUG == 2

/-- The debug port of a lane reaches its registers and memories: it is open, and the lane die is out of reset (R4). -/
def State.debugPort (s : State) (l : Lane) : Bool :=
  s.debugOpen l &&
    match (s.run l).phase with
    | .running => true
    | .portFault => true
    | .stopped => true
    | .loader => true
    | .starting n => 2 < n
    | _ => false

/-- An initiator of the lane can make an access: a core pair that runs firmware, the debug port where it is open, a hardware
block of a lane that executes (R4, R41, R442). -/
def State.canAccess (s : State) (l : Lane) : Initiator → Bool
  | .ap => s.firmware l
  | .cp => s.firmware l
  | .debug => s.debugPort l
  | _ => s.alive l

/-- One bit of the CRC-8 with polynomial 0x2F, most significant bit first (R223). -/
def crc8Bit (c : Nat) : Nat := if 128 ≤ c then (2 * c % 256) ^^^ 0x2F else 2 * c

/-- One byte of the CRC-8. -/
def crc8Byte (c b : Nat) : Nat :=
  crc8Bit (crc8Bit (crc8Bit (crc8Bit (crc8Bit (crc8Bit (crc8Bit (crc8Bit (c ^^^ (b % 256)))))))))

/-- The CRC-8 of a frame: initial value and final XOR 0xFF (R223). -/
def crc8 (bs : List Nat) : Nat := bs.foldl crc8Byte 0xFF ^^^ 0xFF

/-- What arrives of a list of bytes, of which some bits turn over. -/
def flipped (flips : List (BitVec 8)) (bs : List Nat) : List Nat := bs.zipIdx.map fun x => x.1 ^^^ (flips.getD x.2 0).toNat

/-- Some initiator can write the lane's registers: its firmware, or the debug port where it is open (R4). -/
def State.writable (s : State) (l : Lane) : Bool := s.firmware l || s.debugPort l

/-- The clock domains of a lane have started (R75, `ST03`), and Nap has not stopped them (R383, R385). -/
def State.clocked (s : State) (l : Lane) : Bool :=
  (s.run l).pwr.nap == .run &&
    match (s.run l).phase with
    | .starting n => 3 < n
    | .off => false
    | .held => false
    | _ => true

/-- The engines and networks of a lane have their clocks: it is alive and not in Nap (R383, R385). -/
def State.domains (s : State) (l : Lane) : Bool := s.alive l && (s.run l).pwr.nap == .run

/-- The lane has completed start step `n` and runs. -/
def State.past (s : State) (l : Lane) (n : Nat) : Bool :=
  match (s.run l).phase with
  | .running => true
  | .portFault => true
  | .stopped => true
  | .starting m => n < m
  | _ => false

/-- The lane has been released at the end of `ST19`. -/
def State.running (s : State) (l : Lane) : Bool :=
  match (s.run l).phase with
  | .running => true
  | .portFault => true
  | .stopped => true
  | _ => false

/-- The Deputy is present: island S qualified and not removed (R329, R330). -/
def State.depOn (s : State) : Bool := s.dep.phase == .on

/-! ## Time -/

/-- Lane time in counts of 10 ns; zero while the lane has no clock (R98). -/
def State.laneTime (s : State) (l : Lane) : Nat :=
  match (s.run l).clk.t0 with
  | none => 0
  | some t => s.now - t

/-- The instant of the model's clock at which lane time reads `t`. -/
def State.instantOf (s : State) (l : Lane) (t : Nat) : Nat :=
  match (s.run l).clk.t0 with
  | none => s.now
  | some t0 => t0 + t

/-- Deputy time in counts of 20 ns (R330). -/
def State.depTime (s : State) : Nat := if s.depOn then (s.now - s.dep.t0) / 2 else 0

/-- The model's clock moved on to instant `t`; it never runs back. -/
def State.advTo (s : State) (t : Nat) : State :=
  { s with now := max s.now t, fine := if s.now < t then 0 else s.fine }

/-- The present instant in delay-line steps of 9.765625 ps: 1,024 steps in 10 ns (R197). -/
def State.steps (s : State) : Int := (s.now : Int) * 1024 + s.fine

/-- The model's clock moved on to an instant in steps; it never runs back. -/
def State.advSteps (s : State) (x : Int) : State :=
  if s.steps < x then { s with now := (x / 1024).toNat, fine := (x % 1024).toNat } else s

/-- Counts of 10 ns in a microsecond. -/
def us : Nat := 100

/-- Counts of 10 ns in a millisecond. -/
def ms : Nat := 100000

/-- Counts of 10 ns in a second. -/
def sec : Nat := 100000000

/-- The absolute value. -/
def absI (x : Int) : Int := if x < 0 then -x else x

/-- The instant since which a condition has held at every look without a break, given the earlier answer and the condition
now. -/
def heldSince (old : Option Nat) (holds : Bool) (now : Nat) : Option Nat := if holds then some (old.getD now) else none

/-! ## Free values and interrupts -/

/-- The next free value of the model: `w` bits that nothing constrains, and the counter moved on. -/
def State.free (s : State) (w : Nat) : Nat × State :=
  (low w (Config.freeValue s.freeIdx), { s with freeIdx := s.freeIdx + 1 })

/-- An exact quotient narrowed to an integer where the spec states no rounding: the whole quotient where it is one, else
one of its two neighbours, as a free value decides (log entry 7). -/
def State.quot (s : State) (num den : Int) : Int × State :=
  if num % den = 0 then (num / den, s)
  else
    let r := s.free 1
    (num / den + r.1, r.2)

/-- `round(num / den)` as the spec writes it: the nearest integer; a tie goes as a free value decides (log entry 7). -/
def State.roundQ (s : State) (num den : Int) : Int × State :=
  if 2 * (num % den) = den then
    let r := s.free 1
    (num / den + r.1, r.2)
  else ((2 * num + den) / (2 * den), s)

/-- `x` where the number format of `w` bits holds it; where it does not and the spec states no result, a free value. -/
def State.fit (s : State) (w : Nat) (x : Int) : Int × State :=
  if satS w x = x then (x, s)
  else
    let r := s.free w
    (sx w r.1, r.2)

/-- The interrupt behind the enable field `en` of a die asserted at a lane, when the field is set. -/
def State.irqOf (s : State) (l : Lane) (d : Die) (en : Fld) (i : Nat := 0) : State :=
  if s.on d en i then
    s.modRun l fun r =>
      { r with irqs := if r.irqs.contains (en.key d i 0) then r.irqs else r.irqs ++ [en.key d i 0] }
  else s

/-- The interrupt behind the enable field `en` of a lane's own registers asserted, when the field is set. -/
def State.irq (s : State) (l : Lane) (en : Fld) (i : Nat := 0) : State := s.irqOf l (laneDie l) en i

/-! ## Error responses (R7) -/

/-- The reasons of `SYS_ACCESS_INFO.REASON`. -/
inductive Reason | clockOff | powerOff | unmapped | sealedRws | width | owner
deriving DecidableEq, Repr

/-- The code of a reason. -/
def Reason.code : Reason → Nat
  | .clockOff => 1 | .powerOff => 2 | .unmapped => 3 | .sealedRws => 4 | .width => 5 | .owner => 6

/-- The error response of R7 and its capture in `SYS_ACCESS_FAULT`. -/
def State.accessError (s : State) (l : Lane) (who : Initiator) (addr : Nat) (write : Bool) (r : Reason) : State :=
  let d := laneDie l
  ((((s.wr d R.SYS_ACCESS_FAULT.ADDR addr).wr d R.SYS_ACCESS_INFO.INITIATOR who.code).put d
    R.SYS_ACCESS_INFO.WRITE write).wr d R.SYS_ACCESS_INFO.REASON r.code).inc d R.SYS_ACCESS_INFO.COUNT

/-! ## Lane memory (R41): the tightly coupled memories and the system SRAM, unlisted bytes zero (R75, `ST01`) -/

/-- The canonical form of a lane's memory. -/
def Memory.wf (m : List Host.Cell) : Bool := swf (0#8) 0 m

/-- One byte. -/
def State.byte (s : State) (l : Lane) (a : Nat) : BitVec 8 := sget 0#8 a (s.run l).mem

/-- One byte stored. -/
def State.setByte (s : State) (l : Lane) (a : Nat) (v : BitVec 8) : State :=
  s.modRun l fun r => { r with mem := sput 0#8 a v r.mem }

/-- `n` bytes from `a` on, as numbers. -/
def State.bytes (s : State) (l : Lane) (a : Nat) : Nat → List Nat
  | 0 => []
  | n + 1 => (s.byte l a).toNat :: s.bytes l (a + 1) n

/-- A list of bytes stored from `a` on. -/
def State.setBytes (s : State) (l : Lane) (a : Nat) : List Nat → State
  | [] => s
  | v :: r => (s.setByte l a (BitVec.ofNat 8 v)).setBytes l (a + 1) r

/-- A little-endian number from its bytes. -/
def leNat : List Nat → Nat
  | [] => 0
  | b :: r => b % 256 + 256 * leNat r

/-- The `n` bytes of a number, little-endian. -/
def leBytes (v : Nat) : Nat → List Nat
  | 0 => []
  | n + 1 => v % 256 :: leBytes (v / 256) n

/-- `n` bytes of lane memory as a little-endian number. -/
def State.word (s : State) (l : Lane) (a : Nat) (n : Nat := 4) : Nat := leNat (s.bytes l a n)

/-- The place of a message RAM word in a lane's tables: controller `n`, byte offset `o` (R407). -/
def ramKey (n o : Nat) : Nat := 0x50000000 + n * 0x2000 + o / 4

/-- The place of a table window word in a lane's tables. -/
def tableKey (a : Nat) : Nat := a / 4

/-- A word of a table window. -/
def State.tableWord (s : State) (l : Lane) (key : Nat) : Nat := sget 0 key (s.run l).tables

/-- A word of a table window stored. -/
def State.setTable (s : State) (l : Lane) (key v : Nat) : State :=
  s.modRun l fun r => { r with tables := sput 0 key (low 32 v) r.tables }

/-- The address lies in system SRAM (R41). -/
def inSram (a : Nat) : Bool := decide (0x20000000 ≤ a) && decide (a ≤ 0x205FFFFF)

/-- A range of `n` bytes lies in system SRAM. -/
def rangeInSram (a n : Nat) : Bool := decide (0x20000000 ≤ a) && decide (a + n ≤ 0x20600000)

/-! ## Check sums the spec names by their standard -/

/-- One bit of a reflected CRC-32C (polynomial 0x82F63B78). -/
def crc32cBit (c : Nat) : Nat := if c % 2 = 1 then (c / 2) ^^^ 0x82F63B78 else c / 2

/-- One byte of a CRC-32C. -/
def crc32cByte (c b : Nat) : Nat :=
  crc32cBit (crc32cBit (crc32cBit (crc32cBit (crc32cBit (crc32cBit (crc32cBit (crc32cBit (c ^^^ (b % 256)))))))))

/-- CRC-32C over a list of bytes (R82, R305, R309, R434). -/
def crc32c (bs : List Nat) : Nat := (bs.foldl crc32cByte 0xFFFFFFFF) ^^^ 0xFFFFFFFF

end Sys2Proof.Machine
end

