-- ==== Sys2Proof/Machine/Events.lean ====
section
/-!
DEFINITION. The trigger network of a lane: what an event of the timebases, timers, engine and Deputy starts elsewhere. An
event that a converter group, an arithmetic slot or a trace buffer has selected is held there until the command that
delivers it (R120, R175, R192); R93 bounds the time between the two.
-/
namespace Sys2Proof.Machine

/-- The converters of a lane changed by `f`. -/
def State.modAdc (s : State) (l : Lane) (f : AdcSt → AdcSt) : State := s.modRun l fun r => { r with adc := f r.adc }

/-- A converter group. -/
def State.grp (s : State) (l : Lane) (g : Fin 12) : AdcGroup := (s.run l).adc.groups[g]

/-- A converter group changed by `f`. -/
def State.modGrp (s : State) (l : Lane) (g : Fin 12) (f : AdcGroup → AdcGroup) : State :=
  s.modAdc l fun a => { a with groups := upd a.groups g f }

/-- The control engine of a lane changed by `f`. -/
def State.modCe (s : State) (l : Lane) (f : CeSt → CeSt) : State := s.modRun l fun r => { r with ce := f r.ce }

/-- An arithmetic slot. -/
def State.arith (s : State) (l : Lane) (i : Fin 24) : ArithSt := (s.run l).ce.ariths[i]

/-- An arithmetic slot changed by `f`. -/
def State.modArith (s : State) (l : Lane) (i : Fin 24) (f : ArithSt → ArithSt) : State :=
  s.modCe l fun c => { c with ariths := upd c.ariths i f }

/-- The PWM of a lane changed by `f`. -/
def State.modPwm (s : State) (l : Lane) (f : PwmSt → PwmSt) : State := s.modRun l fun r => { r with pwm := f r.pwm }

/-- A timebase. -/
def State.tb (s : State) (l : Lane) (t : Fin 8) : PwmTb := (s.run l).pwm.tbs[t]

/-- A timebase changed by `f`. -/
def State.modTb (s : State) (l : Lane) (t : Fin 8) (f : PwmTb → PwmTb) : State :=
  s.modPwm l fun p => { p with tbs := upd p.tbs t f }

/-- The events that start something elsewhere in a lane (R120, R175, R192). -/
inductive Event
  | reload (t : Nat) | evOut (k : Nat) | timer (n : Nat) | timerTrig (n : Nat) | convTrig (i : Nat) | result (g : Nat)
  | sdf (n : Nat) | traction | chassis | completion (i : Nat) | bandEdge (n : Nat) | tripGroup (g : Nat) | follow (i : Nat)
  | grant | modeStep4
deriving DecidableEq, Repr

/-- The code of an event as a converter trigger (R120); 0 where it is none. -/
def Event.converter : Event → Nat
  | .reload t => 1 + t | .evOut k => 9 + k | .timerTrig n => 17 + n | .convTrig i => 25 + i | _ => 0

/-- The code of an event as the trigger of an arithmetic slot (R175); 0 where it is none. -/
def Event.slot : Event → Nat
  | .result g => 1 + g | .sdf n => 13 + n | .timer n => 25 + n | .reload t => 33 + t | .traction => 41 | .chassis => 42
  | .completion i => 43 + i | .bandEdge n => 67 + n | _ => 0

/-- The code of an event as the sync event of a timebase (R199); 0 where it is none. -/
def Event.sync : Event → Nat
  | .traction => 1 | .reload t => 2 + t | .timer n => 10 + n | _ => 0

/-- The code of an event as the trigger of a trace buffer (R192). -/
def Event.trace : Event → Option Nat
  | .bandEdge n => some n | .tripGroup g => some (0x20 + g) | .follow i => some (0x30 + i) | .timer n => some (0x48 + n)
  | .reload t => some (0x50 + t) | .grant => some 0x58 | .traction => some 0x59 | .modeStep4 => some 0x5A | _ => none

/-- The codes of `TRC_STATUS.STATE`. -/
def trcIdle : Nat := 0
/-- `FILL`. -/
def trcFill : Nat := 1
/-- `READY`. -/
def trcReady : Nat := 2
/-- `POST`. -/
def trcPost : Nat := 3
/-- `DONE`. -/
def trcDone : Nat := 4
/-- `DUMPING`. -/
def trcDumping : Nat := 5

/-- A trace buffer. -/
def State.trc (s : State) (l : Lane) (b : Fin 8) : TrcBuf := (s.run l).ce.trc[b]

/-- A buffer ignores its own trigger (R192): it is linked to buffer 0. -/
def State.trcLinked (s : State) (l : Lane) (b : Fin 8) : Bool := b.val != 0 && s.on (laneDie l) R.TRC_Bb_CFG.LINK b

/-- A trigger on its way to a trace buffer that is armed and not linked (R192, R193). -/
def State.trcSend (s : State) (l : Lane) (b : Fin 8) : State :=
  let p := (s.trc l b).phase
  if (p = trcFill ∨ p = trcReady) ∧ s.trcLinked l b = false then
    s.modCe l fun c => { c with trc := upd c.trc b fun x => { x with sent := true } }
  else s

/-- An event reaches whatever has selected it, once the converters and the engine run (R147, R172). -/
def State.event (s : State) (l : Lane) (e : Event) : State :=
  let d := laneDie l
  if s.past l 11 then
    let s1 := s.each (List.finRange 12) fun s g =>
      s.when (e.converter != 0 && s.rd d R.ADC_Gg_TRIG.SRC g == e.converter) fun s =>
        s.modGrp l g fun x => { x with sent := x.sent + 1 }
    let s2 := s1.each (List.finRange 24) fun s i =>
      s.when (e.slot != 0 && s.rd d R.CE_Ai_CFG.TRIG i == e.slot) fun s => s.modArith l i fun x => { x with sent := x.sent + 1 }
    let s3 := s2.each (List.finRange 8) fun s t =>
      s.when (e.sync != 0 && e.sync != 2 + t.val && s.rd d R.PWM_TBt_CFG.SYNC t == e.sync && s.on d R.PWM_TBt_STATUS.RUN t) fun s =>
        s.modTb l t fun x => { x with sent := x.sent + 1 }
    s3.each (List.finRange 8) fun s b =>
      s.when (e.trace.isSome && s.rd d R.TRC_Bb_TRIG.KIND b == 4 && e.trace == some (s.rd d R.TRC_Bb_TRIG.TSRC b)) fun s =>
        s.trcSend l b
  else s

end Sys2Proof.Machine
end

