-- ==== Sys2Proof/Machine/TallyOps.lean ====
section
/-!
DEFINITION. The tally's own operations (chapter 04): admission, the posting of an outcome, and the events that blocks
queue on `Q09`.
-/
namespace Sys2Proof.Machine

/-- The depth of each queue (R108). -/
def queueDepth : Nat → Nat
  | 0 => 32 | 1 => 32 | 2 => 32 | 3 => 32 | 4 => 32 | 5 => 32 | 6 => 16 | 7 => 8 | 8 => 8 | 9 => 64 | 10 => 4
  | 11 => 1024 | 12 => 1024 | 13 => 2 | 14 => 4 | 15 => 16 | _ => 0

/-- The outcomes each queue can have (R108). -/
def queueAllows (q : Nat) (c : OutcomeCode) : Bool :=
  match c with
  | .done => true
  | .failedOff => true
  | .failedNoack => decide (q ≤ 6) || q == 13
  | .cancelled => decide (q ≤ 7) || q == 10 || q == 15
  | .failedMedia => decide (7 ≤ q) && decide (q ≤ 10)
  | .superseded => q == 13 || q == 14

/-- The target of a `Q13` entry (R310): snapshots are one target, copies the other. -/
def Job.isSnapshot : Job → Bool
  | .snapshot _ => true
  | _ => false

/-- Two entries share a queue under R105 and R107: the same queue and, on `Q13`, the same target. -/
def sameQueue (q : Nat) (snap : Bool) (e : TalEntry) : Bool :=
  e.queue == q && (q != 13 || e.job.isSnapshot == snap)

/-- The entries of a queue, in the order of admission. -/
def Tally.ofQueue (t : Tally) (q : Nat) (snap : Bool := false) : List TalEntry := t.entries.filter (sameQueue q snap)

/-- The entry with an identifier. -/
def Tally.find (t : Tally) (id : Nat) : Option TalEntry := t.entries.find? fun e => e.id == id

/-- The tally of a lane. -/
def State.tal (s : State) (l : Lane) : Tally := (s.run l).tal

/-- The tally of a lane changed by `f`. -/
def State.modTal (s : State) (l : Lane) (f : Tally → Tally) : State :=
  s.modRun l fun r => { r with tal := f r.tal }

/-- The lowest identifier that no entry holds. DESIGN CHOICE, log entry 5: the spec does not say which is taken. -/
def freeId (es : List TalEntry) : Option Nat :=
  (List.range 64).find? fun i => !(es.any fun e => e.id == i)

/-- `backlog(q)` in sixteenths of a count (R105). -/
def backlog16 (es : List TalEntry) : Nat := (es.map TalEntry.cost16).sum

/-- The `DONE` outcomes and the measured fixed cost of a queue (R106); `TAL_Q13_MEAS` shows those of the copies (DEDUCED, log
entry 45). -/
def State.learned (s : State) (l : Lane) (q : Nat) (snap : Bool) : Nat × Nat :=
  if snap then ((s.tal l).snapCnt, (s.tal l).snapMeas)
  else ((s.tal l).doneCnt.toList.getD q 0, s.rd (laneDie l) R.TAL_Qq_MEAS.FIX_MAX q)

/-- `fix(q)` of R106 in sixteenths of a count, and whether it is the measured one. -/
def State.fix16 (s : State) (l : Lane) (q : Nat) (snap : Bool) : Nat × Bool :=
  let d := laneDie l
  let wc := 16 * (if snap then s.rd d R.LNK_SNAP_WC.COUNTS else s.rd d R.TAL_Qq_WC_FIX.COUNTS q)
  let learn := s.rd d R.TAL_Qq_MODEL.LEARN q
  let x := s.learned l q snap
  let meas := x.2 * (16 + s.rd d R.TAL_Qq_MODEL.MARGIN q)
  if learn ≠ 0 ∧ learn ≤ x.1 ∧ meas < wc then (meas, true) else (wc, false)

/-- `unit(q)`: sixteenths of a count for each size unit; zero for snapshots (R310). -/
def State.unit16 (s : State) (l : Lane) (q : Nat) (snap : Bool) : Nat :=
  if snap then 0 else s.rd (laneDie l) R.TAL_Qq_WC_UNIT.COST q

/-- The first lane time at or after `now` whose low 40 bits are `dl` (R104). -/
def deadlineOf (now dl : Nat) : Nat := now + (dl % 2 ^ 40 + (2 ^ 40 - now % 2 ^ 40)) % 2 ^ 40

/-- The quota of a queue: 0 acts as 1, above 64 as 64 (R114). -/
def State.quota (s : State) (l : Lane) (q : Nat) : Nat :=
  min 64 (orOne (s.rd (laneDie l) R.TAL_Qq_LIMIT.QUOTA q))

/-- The result of an admission (R105). -/
inductive Admission
  | admitted (id : Nat)
  | late
  | full
deriving DecidableEq, Repr

/-- The code of an admission in a block's result register: 0 admitted, 1 `REFUSED_LATE`, 2 `REFUSED_FULL`. -/
def Admission.code : Admission → Nat
  | .admitted _ => 0 | .late => 1 | .full => 2

/-- The identifier of an admission, zero when refused. -/
def Admission.id : Admission → Nat
  | .admitted i => i | _ => 0

/-- The decision of R105 on a submission; `extra16` is what R416 adds to the cost of a scheduled template. -/
def State.admission (s : State) (l : Lane) (q size dl : Nat) (job : Job) (extra16 : Nat := 0) : Admission :=
  let snap := job.isSnapshot
  let es := (s.tal l).ofQueue q snap
  let cost := (s.fix16 l q snap).1 + s.unit16 l q snap * size + extra16
  let now := s.laneTime l
  let depth := if q = 13 then 1 else queueDepth q
  match freeId (s.tal l).entries with
  | none => .full
  | some id =>
    if depth ≤ es.length ∨ s.quota l q ≤ es.length then .full
    else if 16 * deadlineOf now dl < 16 * now + backlog16 es + cost then .late
    else .admitted id

/-- The `Q00`–`Q03` entries start at their start-of-frame (R410) and the `Q14` entries with their `SET` frame (R381); every
other queue takes up its oldest entry at once. -/
def startsAtOnce (q : Nat) : Bool := 4 ≤ q && q != 14

/-- A submission to the tally: the decision of R105, its counters, and the entry when admitted. -/
def State.submit (s : State) (l : Lane) (who : Initiator) (q size dl : Nat) (job : Job) (extra16 : Nat := 0) :
    Admission × State :=
  let d := laneDie l
  match s.admission l q size dl job extra16 with
  | .late => (.late, s.inc d R.TAL_REFUSE_CNT.LATE)
  | .full => (.full, s.inc d R.TAL_REFUSE_CNT.FULL)
  | .admitted id =>
    let snap := job.isSnapshot
    let es := (s.tal l).ofQueue q snap
    let fix := s.fix16 l q snap
    let cost := fix.1 + s.unit16 l q snap * size + extra16
    let now := s.laneTime l
    let e : TalEntry :=
      { id := id, queue := q, size := size, who := who.code, deadline := deadlineOf now dl, cost16 := cost,
        bound := (16 * now + backlog16 es + cost) / 16,
        st := if es.isEmpty && startsAtOnce q then .active else .waiting,
        measured := fix.2, since := now, missed := false, job := job }
    (.admitted id, s.modTal l fun t => { t with entries := t.entries ++ [e] })

/-- The entries after the removal of `e`: the next oldest of the same queue is taken up now (R106, R107). -/
def takeUpNext (now : Nat) (e : TalEntry) : List TalEntry → List TalEntry
  | [] => []
  | x :: r =>
    if sameQueue e.queue e.job.isSnapshot x then
      { x with since := now, st := if x.st = .waiting ∧ startsAtOnce x.queue then .active else x.st
               started := x.started || (x.st == .waiting && startsAtOnce x.queue) } :: r
    else x :: takeUpNext now e r

/-- An outcome posted for entry `e` (R103, R106, R109, R110): the record goes to the ring, the entry is freed, the
service time enters `TAL_Qq_MEAS`, the counters move, and the queue takes up its next entry. The rounding of the measured fixed
cost to whole counts the spec leaves open: it is truncated (DESIGN CHOICE, log entry 45). -/
def State.post (s : State) (l : Lane) (e : TalEntry) (code : OutcomeCode) : State :=
  let d := laneDie l
  let now := s.laneTime l
  let q := e.queue
  let t := s.tal l
  let snap := e.job.isSnapshot
  let oldest := (t.ofQueue q snap).head?.map TalEntry.id == some e.id
  let since := if oldest then e.since else now
  let service := min ((16 * (now - since) - s.unit16 l q snap * e.size) / 16) 0xFFFFFFFF
  let late := decide (e.deadline < now)
  let rec1 : OutRec := { id := e.id, queue := q, code := code.code, late := late, who := e.who, time := low 32 now }
  let overflow := decide (128 ≤ t.ring.length)
  let rest := t.entries.filter fun x => x.id != e.id
  let s1 := s.modTal l fun t =>
    { entries := if oldest then takeUpNext now e rest else rest,
      ring := (if overflow then t.ring.drop 1 else t.ring) ++ [rec1],
      doneCnt := if code = .done ∧ snap = false then
          (if h : q < 16 then upd t.doneCnt ⟨q, h⟩ (· + 1) else t.doneCnt)
        else t.doneCnt
      snapCnt := t.snapCnt + b2n (decide (code = .done) && snap)
      snapMeas := if snap then max t.snapMeas service else t.snapMeas }
  let s2 := s1.when (!snap) fun s => s.wr d R.TAL_Qq_MEAS.FIX_MAX (max (s.rd d R.TAL_Qq_MEAS.FIX_MAX q) service) q
  let s3 := if code = .done then s2.inc d R.TAL_Qq_STAT.DONE q else s2.inc d R.TAL_Qq_STAT.FAIL_DROP q
  let s4 := s3.when overflow fun s => s.set d R.TAL_STATUS.OUT_OVF
  s4.when (orOne (s4.rd d R.TAL_CTRL.OUT_IRQ_LEVEL) ≤ (s4.tal l).ring.length) fun s =>
    s.irq l R.TAL_CTRL.OUT_IRQ_EN

/-- An entry's state changed. -/
def State.setEnt (s : State) (l : Lane) (id : Nat) (f : TalEntry → TalEntry) : State :=
  s.modTal l fun t => { t with entries := t.entries.map fun e => if e.id == id then f e else e }

/-- An event queued on `Q09`. `rule` names the rule that queues it and `detail` its subject: the spec gives the event
records no layout. The event carries the latest deadline there is. DESIGN CHOICE, log entry 6. -/
def State.log (s : State) (l : Lane) (rule detail : Nat) : State :=
  if s.alive l then
    (s.submit l .hw 9 1 (s.laneTime l + (2 ^ 40 - 1)) (.event (rule * 4096 + detail))).2
  else s

/-- An event queued on `Q09` when an enable field is set. -/
def State.logIf (s : State) (l : Lane) (en : Fld) (rule detail : Nat) (i : Nat := 0) : State :=
  s.when (s.on (laneDie l) en i) fun s => s.log l rule detail

/-! ## The outcome ring (R114) -/

/-- The first word of an outcome record. -/
def OutRec.word (r : OutRec) : Nat :=
  r.id + r.queue * 2 ^ 8 + r.code * 2 ^ 12 + b2n r.late * 2 ^ 15 + r.who * 2 ^ 16 + 2 ^ 31

/-- A read of `TAL_OUT_W0`: it returns the oldest record's first word and latches its second, or zero from an empty
ring. -/
def State.talPop (s : State) (l : Lane) : State :=
  match (s.tal l).ring with
  | [] => s.modRun l fun r => { r with readData := 0 }
  | x :: rest =>
    ((s.modTal l fun t => { t with ring := rest }).wr (laneDie l) R.TAL_OUT_W1.TIME x.time).modRun l fun r =>
      { r with readData := x.word }

/-! ## Timers (R115) -/

/-- The length of a timer's unit in counts of lane time. -/
def timUnit (u : Nat) : Nat := if u = 0 then 1 else if u = 1 then us else ms

/-- The lane time at which a running timer expires. Its first decrement falls exactly one unit after the start (R115: at most
one; DESIGN CHOICE, log entry 45). -/
def State.timEnd (s : State) (l : Lane) (n : Fin 8) : Option Nat :=
  let x := (s.run l).tims[n]
  x.start.map fun t => t + x.load * x.unit

/-- A timer changed by `f`. -/
def State.modTim (s : State) (l : Lane) (n : Fin 8) (f : Timer → Timer) : State :=
  s.modRun l fun r => { r with tims := upd r.tims n f }

/-- A timer starts from its `LOAD`, in its `UNIT`, at lane time `t` (R115). -/
def State.timLoad (s : State) (l : Lane) (n : Fin 8) (t : Nat) : State :=
  s.modTim l n fun _ =>
    { start := some t, load := orOne (s.rd (laneDie l) R.TIM_Tn_LOAD.COUNTS n)
      unit := timUnit (s.rd (laneDie l) R.TIM_Tn_CFG.UNIT n), sync := false }

/-- The present count of a timer (R115). -/
def State.timCount (s : State) (l : Lane) (n : Fin 8) : Nat :=
  let x := (s.run l).tims[n]
  match x.start with
  | none => s.rd (laneDie l) R.TIM_Tn_COUNT.COUNTS n
  | some t => x.load - (s.laneTime l - t) / x.unit

/-- `EN` of a timer set or cleared (R115): it starts now or, with `SYNC`, at the next traction-cycle boundary; cleared, it
stands. -/
def State.timEnable (s : State) (l : Lane) (n : Fin 8) : State :=
  let d := laneDie l
  if s.on d R.TIM_Tn_CFG.EN n then
    if s.on d R.TIM_Tn_CFG.SYNC n then s.modTim l n fun x => { x with start := none, sync := true }
    else s.timLoad l n (s.laneTime l)
  else (s.wr d R.TIM_Tn_COUNT.COUNTS (s.timCount l n) n).modTim l n fun x => { x with start := none, sync := false }

/-- The timers that wait for a traction-cycle boundary start at it (R115). -/
def State.timBoundary (s : State) (l : Lane) : State :=
  s.each (List.finRange 8) fun s n => s.when ((s.run l).tims[n].sync) fun s => s.timLoad l n (s.laneTime l)

/-- A running timer expires (R115): its flags and interrupt, its event, with `TRIG_EN` its converter trigger; a periodic timer
reloads in the same cycle. -/
def State.timExpire (s : State) (l : Lane) (n : Fin 8) : State :=
  let d := laneDie l
  match s.timEnd l n with
  | none => s
  | some e =>
    let s1 := s.advTo (s.instantOf l e)
    let s2 := (s1.when (s1.on d R.TIM_Tn_STATUS.EXPIRED n) fun s => s.set d R.TIM_Tn_STATUS.OVERRUN n).set d
      R.TIM_Tn_STATUS.EXPIRED n
    let s3 := ((s2.irq l R.TIM_Tn_CFG.IRQ_EN n).event l (.timer n)).when (s2.on d R.TIM_Tn_CFG.TRIG_EN n) fun s =>
      s.event l (.timerTrig n)
    if s3.on d R.TIM_Tn_CFG.PERIODIC n then s3.timLoad l n e
    else (s3.modTim l n fun t => { t with start := none }).wr d R.TIM_Tn_COUNT.COUNTS 0 n

end Sys2Proof.Machine
end

