-- ==== Sys2Proof/Machine/LinkOps.lean ====
section
/-!
DEFINITION. The Hoist links at the Deputy: what each is commanded to, the leg confirmation of R237, the group actions of
R238 and what governs a link.
-/
namespace Sys2Proof.Machine

/-- A link at the Deputy. -/
def State.link (s : State) (n : Fin 40) : HoistLink := s.hoist.links[n]

/-- A link changed by `f`. -/
def State.modLink (s : State) (n : Fin 40) (f : HoistLink → HoistLink) : State :=
  { s with hoist := { s.hoist with links := upd s.hoist.links n f } }

/-- The gate of a head in `RUN` follows the downlink level unless the head is latched (R224). -/
def HoistLink.follow (k : HoistLink) : HoistLink :=
  if k.head.phase = .run then { k with head := { k.head with on := k.on && !k.head.latched } } else k

/-- A leg that a link belongs to, seen from the link: its partner, `T_CONF` and `T_WAIT` in 20 ns. -/
structure LegView where
  partner : Fin 40
  tConf : Nat
  tWait : Nat
deriving DecidableEq, Repr

/-- A number of a link as an index. -/
def linkIdx (n : Nat) : Option (Fin 40) := if h : n < 40 then some ⟨n, h⟩ else none

/-- The leg of a link in the Deputy's leg map (R237). -/
def State.legOf (s : State) (n : Fin 40) : Option LegView :=
  s.hoist.legs.toList.findSome? fun
    | none => none
    | some (hi, lo, c, w) =>
      if hi = n.val then (linkIdx lo).map fun p => { partner := p, tConf := c, tWait := orOne w }
      else if lo = n.val then (linkIdx hi).map fun p => { partner := p, tConf := c, tWait := orOne w }
      else none

/-- The instant in steps at which the partner's `OFF` has lasted `T_CONF` x 20 ns (R237). -/
def State.confirmAt (s : State) (g : LegView) : Int := ((s.link g.partner).codeAt + 2 * g.tConf : Nat) * 1024

/-- The partner's code has been `OFF` with `HLG_OK` set for `T_CONF` without a break at instant `t` (R237). -/
def State.confirmed (s : State) (g : LegView) (t : Int) : Bool :=
  let p := s.link g.partner
  p.code == 0 && p.hlgOk && decide (s.confirmAt g ≤ t)

/-- The level the Deputy drives on a link, and its head: `edgeAt` is the instant of the edge, which is delayed to 20 ns after
the one before (R225). -/
def State.setDown (s : State) (n : Fin 40) (on : Bool) : State :=
  s.modLink n fun k =>
    let up := on && k.phase = .run
    HoistLink.follow { k with on := up, edgeAt := if up = k.on then k.edgeAt else max s.steps (k.edgeAt + 2048) }

/-- The level on a link's downlink pair at instant `x` (R225). -/
def HoistLink.levelAt (k : HoistLink) (x : Int) : Bool := if x < k.edgeAt then !k.on else k.on

/-- The Deputy's own command for a link at instant `t` in steps: an off command acts at once; an on command acts once the
partner is confirmed off, and waits otherwise (R237), as does one that lies ahead by its dead time (R207). A link in no leg
turns on without confirmation. -/
def State.hoistWant (s : State) (n : Fin 40) (on : Bool) (t : Int) : State :=
  if on then
    if (s.link n).want then s
    else
      let s1 := s.modLink n fun k => { k with want := true, wantAt := max t s.steps, withheld := false }
      if s.steps < t then s1
      else
        match s.legOf n with
        | none => s1.setDown n true
        | some g => if s1.confirmed g s.steps then s1.setDown n true else s1
  else (s.modLink n fun k => { k with want := false, withheld := false }).setDown n false

/-- The granted lane's commands govern a link: its group is held neither at its safe action (R236) nor by an overvoltage
line, and no chopper override acts on it (R273, R274). -/
def State.linkFree (s : State) (n : Fin 40) : Bool :=
  let g := (s.link n).cfg.group
  !s.hoist.henActs.toList.getD g false && !bit s.hoist.ovOff g && !bit s.hoist.ovAsc g && !bit s.hoist.chopOn n

/-- The granted lane's command for a link (R16, R236): it acts unless something else governs the link. -/
def State.hoistCmd (s : State) (n : Fin 40) (on : Bool) (t : Int) : State :=
  let s1 := s.modLink n fun k => { k with lane := on }
  if s.linkFree n then s1.hoistWant n on t else s1

/-- A group driven all-off, or short-circuited low-side: high-role links off and then low-role links on under R237 (R238). -/
def State.groupDrive (s : State) (g : Nat) (asc : Bool) : State :=
  let ns := (List.finRange 40).filter fun n => (s.link n).cfg.en && (s.link n).cfg.group == g
  let s1 := s.each (ns.filter fun n => !(asc && (s.link n).cfg.low)) fun s n => s.hoistWant n false s.steps
  s1.each (ns.filter fun n => asc && (s.link n).cfg.low) fun s n => s.hoistWant n true s.steps

/-- The safe action of a group at the Deputy (R56, R238). -/
def State.groupSafe (s : State) (g : Nat) : State := s.groupDrive g (s.hoist.safe.toList.getD g false)

/-- The safe action of a group as the command that stands without a granted lane (R23). -/
def State.groupRest (s : State) (g : Nat) : State :=
  let asc := s.hoist.safe.toList.getD g false
  let s1 := s.each (List.finRange 40) fun s n =>
    if (s.link n).cfg.en && (s.link n).cfg.group == g then s.modLink n fun k => { k with lane := asc && k.cfg.low } else s
  s1.groupSafe g

/-- A group driven as what governs it asks, after a change: a low `HEN` input first, then the short circuit of R274, the
all-off of R273, the chopper override, and otherwise the granted lane's commands (DESIGN CHOICE, log entry 14: the spec
gives no order among the first four). -/
def State.groupApply (s : State) (g : Nat) : State :=
  if s.hoist.henActs.toList.getD g false then s.groupSafe g
  else if bit s.hoist.ovAsc g then s.groupDrive g true
  else if bit s.hoist.ovOff g then s.groupDrive g false
  else
    s.each (List.finRange 40) fun s n =>
      if (s.link n).cfg.en && (s.link n).cfg.group == g then
        s.hoistWant n (bit s.hoist.chopOn n || (s.link n).lane) s.steps
      else s

end Sys2Proof.Machine
end

