-- ==== Sys2Proof/Machine/DeputyOps.lean ====
section
/-!
DEFINITION. The Deputy's shared operations (chapters 01 and 14): the grant and its removal, the declaration of a fault
class and its outcome, the Degraded timer, the Safe stop, the chassis-failure lines, the fault record; and the lane
reset.
-/
namespace Sys2Proof.Machine

/-- The mode codes of R83. -/
def modeStorage : Nat := 0
/-- Parked. -/
def modeParked : Nat := 1
/-- Ready. -/
def modeReady : Nat := 2
/-- Drive. -/
def modeDrive : Nat := 3
/-- Charge. -/
def modeCharge : Nat := 4
/-- Export. -/
def modeExport : Nat := 5
/-- Service. -/
def modeService : Nat := 6
/-- Stationary. -/
def modeStationary : Nat := 7

/-- The operating mode that a lane's `CFG_MODE.MODE` reads. -/
def State.modeOf (s : State) (l : Lane) : Nat := s.rd (laneDie l) R.CFG_MODE.MODE

/-- Both lanes. -/
def lanes : List Lane := [.a, .b]

/-- The power-and-analog die of a lane. -/
def State.pap (s : State) : Lane → PapSt
  | .a => s.papA
  | .b => s.papB

/-- The power-and-analog die of a lane changed by `f`. -/
def State.modPap (s : State) (l : Lane) (f : PapSt → PapSt) : State :=
  match l with
  | .a => { s with papA := f s.papA }
  | .b => { s with papB := f s.papB }

/-- The fault class of the loss of a lane (R27). -/
def lossOf : Lane → FaultClass
  | .a => .la
  | .b => .lb

/-- The side a fault class belongs to; the Deputy's own class has none. -/
def classSide : FaultClass → Option Lane
  | .la => some .a | .na => some .a | .sa => some .a
  | .lb => some .b | .nb => some .b | .sb => some .b
  | .ds => none

/-- The fault classes of one lane: the lane, its network, its sensor set. -/
def classesOf : Lane → List FaultClass
  | .a => [.la, .na, .sa]
  | .b => [.lb, .nb, .sb]

/-- The network class and the sensor class of a lane. -/
def netOf : Lane → FaultClass
  | .a => .na
  | .b => .nb

/-- The sensor class of a lane. -/
def sensOf : Lane → FaultClass
  | .a => .sa
  | .b => .sb

/-- The Deputy counts a class as lost (`DSP_OUTCOME.LOST`). -/
def State.isLost (s : State) (c : FaultClass) : Bool := s.rdBit .ds R.DSP_OUTCOME.LOST c.code

/-- Some class of a lane's side is lost. -/
def State.sideLost (s : State) (l : Lane) : Bool := (classesOf l).any fun c => s.isLost c

/-- The single-lane arrangement is in force at the Deputy (R38). -/
def State.single (s : State) : Bool := s.on .ds R.DSP_CTRL.ARRANGEMENT

/-- The preferred lane (R21). -/
def State.preferred (s : State) : Lane := if s.on .ds R.DSP_CTRL.PREF then .b else .a

/-- The codes of `DSP_GRANT.STATE` (R25, R352). -/
def grantNone : Nat := 0
/-- The Deputy holds the last compares of the removed lane. -/
def grantHold : Nat := 3
/-- The grant code of a lane. -/
def grantCode : Lane → Nat
  | .a => 1
  | .b => 2

/-- The lane holds the grant: `AUTH_GNT_x` is asserted (R19, R25). -/
def State.granted (s : State) (l : Lane) : Bool := s.depOn && s.rd .ds R.DSP_GRANT.STATE == grantCode l

/-- The lane that holds the grant. -/
def State.holder (s : State) : Option Lane :=
  if s.granted .a then some .a else if s.granted .b then some .b else none

/-- The request field of a lane in `DSP_GRANT`. -/
def reqFld : Lane → Fld
  | .a => R.DSP_GRANT.REQ_A
  | .b => R.DSP_GRANT.REQ_B

/-- The eligibility field of a lane in `DSP_GRANT`. -/
def eligFld : Lane → Fld
  | .a => R.DSP_GRANT.ELIG_A
  | .b => R.DSP_GRANT.ELIG_B

/-- The chassis-failure field of a lane in `DSP_CHS`. -/
def chsFld : Lane → Fld
  | .a => R.DSP_CHS.FAIL_A
  | .b => R.DSP_CHS.FAIL_B

/-- The handshake field of a lane in `DSP_STATUS`. -/
def handFld : Lane → Fld
  | .a => R.DSP_STATUS.HANDSHAKE_A
  | .b => R.DSP_STATUS.HANDSHAKE_B

/-! ## Roles (R308) -/

/-- The role codes of `LNK_STATUS.ROLE`. -/
def roleNone : Nat := 0
/-- Role `START`. -/
def roleStart : Nat := 1
/-- Role `COLD`. -/
def roleCold : Nat := 2
/-- Role `WARM`. -/
def roleWarm : Nat := 3
/-- Role `HOT`. -/
def roleHot : Nat := 4
/-- Role `ACTIVE`. -/
def roleActive : Nat := 5

/-- The role of a lane. -/
def State.role (s : State) (l : Lane) : Nat := s.rd (laneDie l) R.LNK_STATUS.ROLE

/-- A role taken: the lane's request line is up in `START`, `HOT` and `ACTIVE` and down otherwise (R308), and the
Deputy sees it. -/
def State.setRole (s : State) (l : Lane) (r : Nat) : State :=
  let up := r == roleStart || r == roleHot || r == roleActive
  let s1 := (s.wr (laneDie l) R.LNK_STATUS.ROLE r).put (laneDie l) R.LNK_STATUS.AUTH_REQ up
  s1.when s1.depOn fun s => s.put .ds (reqFld l) up

/-! ## The lanes' own records (R37) -/

/-- A lane's view of the Deputy changed by `f`. -/
def State.modSup (s : State) (l : Lane) (f : SupSt → SupSt) : State := s.modRun l fun r => { r with sup := f r.sup }

/-- A lane has declared the Deputy lost (R27). -/
def State.dsLost (s : State) (l : Lane) : Bool := bit (s.run l).sup.lost FaultClass.ds.code

/-- The lanes go by the Deputy: it is present, and no lane that runs has declared it lost (R27, R28). -/
def State.depRules (s : State) : Bool := s.depOn && !((s.alive .a && s.dsLost .a) || (s.alive .b && s.dsLost .b))

/-! ## The mode master (R85) -/

/-- The mode master of R85. After a DS declaration the lane that was master stays master; when it is lost, the other lane
becomes master and stays so. -/
def State.master (s : State) : Lane :=
  if s.depRules then
    match s.holder with
    | some l => l
    | none =>
      if s.single then .a
      else if (s.depLane s.preferred).st19 && !s.isLost (lossOf s.preferred) then s.preferred
      else s.preferred.other
  else
    let a := (s.run .a).sup
    let b := (s.run .b).sup
    if s.running .a && !s.running .b then .a
    else if s.running .b && !s.running .a then .b
    else if b.master && !a.master then .b else .a

/-- `CFG_MODE.MASTER` brought up to date on both lanes. -/
def State.syncMaster (s : State) : State :=
  s.each lanes fun s l =>
    let m := decide (s.master = l)
    (s.put (laneDie l) R.CFG_MODE.MASTER (m && s.alive l)).when (s.depRules || s.alive l) fun s =>
      s.modSup l fun x => { x with master := m }

/-! ## Eligibility and the grant (R20 to R25) -/

/-- A lane is eligible for the grant (R20). -/
def State.eligible (s : State) (l : Lane) : Bool :=
  s.depOn && s.on .ds R.DSP_Lx_STATUS.DONE l.idx && s.on .ds R.DSP_Lx_STATUS.ARMED l.idx
    && !(s.depLane l).split && !(s.single && l == .b)
    && (!(s.depLane l.other).hasHeld || (s.depLane l).verified)

/-- The eligibility fields brought up to date. -/
def State.syncElig (s : State) : State :=
  s.each lanes fun s l =>
    (s.put .ds (eligFld l) (s.eligible l)).put .ds R.DSP_Lx_STATUS.ELIGIBLE (s.eligible l) l.idx

/-- The shared timebases that the multiplexer holds, one bit each. -/
def State.heldMask (s : State) : Nat :=
  ((List.finRange 8).map fun t => if (s.mux.tbs[t]).isSome then 2 ^ t.val else 0).sum

/-- A lane's PWM without the grant: nothing is granted, aligned or taken over (R219, R221). -/
def State.pwmUngrant (s : State) (l : Lane) : State :=
  (((s.clr (laneDie l) R.PWM_GRANT.GRANTED).clr (laneDie l) R.PWM_GRANT.ALIGNED).clr (laneDie l) R.PWM_GRANT.TAKEN).each
    (List.range 64) fun s c => s.clr (laneDie l) R.PWM_CHc_STATUS.TAKEN c

/-- The multiplexer drives every channel it holds (R22, R349). -/
def State.muxDrives (s : State) : State :=
  { s with mux := { s.mux with chs := updAll s.mux.chs fun c => c.map fun m => { m with driving := true } } }

/-- The grant removed from a lane (R22, R25): the hold begins, and a holder that is not lost turns `WARM` (R308). -/
def State.removeGrant (s : State) (l : Lane) : State :=
  if s.granted l then
    let s1 := (s.wr .ds R.DSP_GRANT.STATE grantHold).inc .ds R.DSP_GRANT_CNT.HOLDS
    let s2 := (s1.wr .ds R.DSP_HOLD.TB s1.heldMask).clr .ds R.DSP_HOLD.EXPIRED
    let s3 := s2.modDep fun d => { d with holdFrom := some l, holdAt := s.now }
    let s4 := (((s3.clr (laneDie l) R.LNK_STATUS.GRANTED).clr (laneDie l) R.LNK_CMD_RESULT.BUSY).pwmUngrant l).muxDrives.modRun
      l fun r => { r with link := { r.link with handover := false, planned := false } }
    let s4 := s4.event l .grant
    let s5 := if s4.role l == roleActive && !s4.isLost (lossOf l) then s4.setRole l roleWarm else s4
    s5.syncMaster
  else s

/-- The grant given to a lane (R25, R308, R316): `AUTH_GNT_x` rises, the lane turns `ACTIVE` and drops any copy in
transit, and a partner still in `START` turns `WARM`. -/
def State.giveGrant (s : State) (l : Lane) : State :=
  let from_ := s.dep.holdFrom
  let wasHold := s.rd .ds R.DSP_GRANT.STATE == grantHold
  let planned := match from_ with
    | some x => wasHold && (s.run x).link.planned
    | none => false
  let s0 := s.each lanes fun s x => s.modRun x fun r => { r with link := { r.link with planned := false } }
  let s1 := (s0.wr .ds R.DSP_GRANT.STATE (grantCode l)).inc .ds R.DSP_GRANT_CNT.GRANTS
  let s2 := if wasHold then
      ((s1.wrSat .ds R.DSP_GRANT.HOLD_TIME ((s.now - s.dep.holdAt) / 2)).wr .ds R.DSP_HOLD.TB 0).modDep fun d =>
        { d with holdFrom := none }
    else s1
  let s3 := (s2.modDepLane l fun x => { x with hasHeld := true })
  let s4 := ((s3.set (laneDie l) R.LNK_STATUS.GRANTED).set (laneDie l) R.PWM_GRANT.GRANTED).setRole l roleActive
  let s5 := s4.modRun l fun r =>
    { r with link := { r.link with rx := none, acked := none, grantAt := s.now, handover := false,
                                   switchFrom := if wasHold then from_ else none, planned := planned } }
  let s6 := if s5.role l.other == roleStart then
      (s5.setRole l.other roleWarm).modRun l.other fun r => { r with link := { r.link with byReplacement := true } }
    else s5
  (s6.event l .grant).syncMaster

/-! ## The fault record (R37, R352) -/

/-- The class code of a record without a class. -/
def classNone : Nat := 7

/-- The outcome bits as a record holds them. -/
def State.outcomeBits (s : State) : Nat :=
  s.rd .ds R.DSP_OUTCOME.SINGLE + 2 * s.rd .ds R.DSP_OUTCOME.DEGRADED + 4 * s.rd .ds R.DSP_OUTCOME.SS_CONTROLLED
    + 8 * s.rd .ds R.DSP_OUTCOME.SS_IMMEDIATE

/-- A record written to the fault record: class code, cause code, whether the standby lane reported it, and its detail
(R352). A record with a class is forwarded to `Q09` of each lane that is not lost; one without, only with `LOG_EN`. -/
def State.record (s : State) (cls cause : Nat) (standby : Bool) (detail : Nat) : State :=
  let r := s.rd .ds R.DSP_FR_HEAD.NEXT
  let s1 := s.when (s.on .ds R.DSP_FRr_INFO.VALID r) fun s => s.set .ds R.DSP_FR_HEAD.WRAPPED
  let s2 := ((((((s1.wr .ds R.DSP_FRr_INFO.CLASS cls r).wr .ds R.DSP_FRr_INFO.CAUSE cause r).put .ds
    R.DSP_FRr_INFO.STANDBY standby r).wr .ds R.DSP_FRr_INFO.DETAIL detail r).wr .ds R.DSP_FRr_INFO.OUTCOME s.outcomeBits r).set .ds
    R.DSP_FRr_INFO.VALID r).wr .ds R.DSP_FRr_TIME.TIME s.depTime r
  let s3 := (s2.wr .ds R.DSP_FR_HEAD.NEXT ((r + 1) % 32)).inc .ds R.DSP_FR_HEAD.COUNT
  let s4 := if cls = classNone then s3.inc .ds R.DSP_FAULT_CNT.EVENTS else s3.inc .ds R.DSP_FAULT_CNT.DECLARATIONS
  s4.each lanes fun s l =>
    s.when (!s.isLost (lossOf l) && (cls != classNone || s.on .ds R.DSP_CTRL.LOG_EN)) fun s =>
      s.log l 37 (cls * 32 + cause)

/-- A cause that concerned a lane (`DSP_Lx_FAULT.CAUSE`, bit c − 1). -/
def State.causeOf (s : State) (l : Lane) (cause : Nat) : State := s.wrBit .ds R.DSP_Lx_FAULT.CAUSE (cause - 1) true l.idx

/-! ## The chassis-failure lines (R338) -/

/-- The conditions under which the Deputy drives `CHS_FAIL_x` low (R338). -/
def State.chsOk (s : State) (l : Lane) : Bool :=
  s.dep.firstHandshake && !s.single && s.on .ds R.DSP_Lx_STATUS.DONE l.idx && s.on .ds R.DSP_Lx_STATUS.ARMED l.idx
    && !s.sideLost l && !s.on .ds R.DSP_STATUS.SAFE_STOP && s.rd .ds R.DSP_MODE.MODE != modeParked

/-- The `CHS_FAIL` lines brought up to date. -/
def State.syncChs (s : State) : State :=
  s.each lanes fun s l => s.put .ds (chsFld l) (!s.chsOk l)

/-! ## The return of a lost class (R469) -/

/-- Each lane's own record of the lost classes follows the Deputy's while it is present (R37, R325). -/
def State.syncLost (s : State) : State :=
  s.each lanes fun s l =>
    s.when (s.alive l && !s.dsLost l) fun s => s.modSup l fun x => { x with lost := s.rd .ds R.DSP_OUTCOME.LOST }

/-- The outcome bits once classes have returned (R469): with no class lost the single-lane outcome ends, and Degraded-timed
with its timer, which a return does not touch (R35; DEDUCED, log entry 34). -/
def State.returnClass (s : State) (c : FaultClass) : State :=
  let s1 := s.wrBit .ds R.DSP_OUTCOME.LOST c.code false
  let s2 := match classSide c with
    | some l => if c = lossOf l then
        (s1.clr .ds R.DSP_Lx_STATUS.LOST l.idx).clr (laneDie l.other) R.LNK_STATUS.PARTNER_LOST
      else s1
    | none => s1
  let s3 := if s2.rd .ds R.DSP_OUTCOME.LOST == 0 then
      (s2.clr .ds R.DSP_OUTCOME.SINGLE).when (!s2.on .ds R.DSP_STATUS.DEGRADED) fun s =>
        s.clr .ds R.DSP_OUTCOME.DEGRADED
    else s2
  s3.syncLost.syncChs

/-- A lost lane returns when it has completed `ST19`, its monitor is armed and its role is `HOT` or `ACTIVE` (R469). -/
def State.laneReturn (s : State) (l : Lane) : State :=
  if s.isLost (lossOf l) && s.on .ds R.DSP_Lx_STATUS.DONE l.idx && s.on .ds R.DSP_Lx_STATUS.ARMED l.idx
      && (s.role l == roleHot || s.role l == roleActive) then s.returnClass (lossOf l)
  else s

/-- The lanes whose loss has returned (R469). -/
def State.returns (s : State) : State := s.each lanes fun s l => s.laneReturn l

/-! ## The grant logic (R21, R25) -/

/-- The Deputy's grant logic outside a hold (R21, R25): a holder that is no longer eligible loses the grant, and the fault is
recorded with cause 1 (DEDUCED, log entry 43); with no holder, an eligible requesting lane receives it, the preferred one
when both ask; a lost lane that turns `ACTIVE` returns (R469). -/
def State.grantLogic (s : State) : State :=
  let s := s.syncElig
  if s.depOn then
    match s.holder with
    | some l => if s.eligible l then s else (((s.removeGrant l).causeOf l 1).record classNone 1 false 0).syncElig
    | none =>
      if s.rd .ds R.DSP_GRANT.STATE == grantNone then
        let wants := fun l => s.eligible l && s.on .ds (reqFld l)
        let p := s.preferred
        if wants p then ((s.giveGrant p).returns).syncElig
        else if wants p.other then ((s.giveGrant p.other).returns).syncElig
        else s
      else s
  else s

/-! ## Contactor sequences (R279, R281) -/

/-- The results of `NRG_CTR_RESULT.RESULT` that the Deputy side needs: `SAFE_STOP`. -/
def resSafeStop : Nat := 7

/-- The discharge output of a lane driven high or low (R281). -/
def State.discharge (s : State) (l : Lane) (on : Bool) : State :=
  let o := s.rd (laneDie l) R.NRG_WELD.DIS_OUT
  if o < 8 then
    s.modRun l fun r => { r with pwm := { r.pwm with pwmx := if on then setBit r.pwm.pwmx o else clrBit r.pwm.pwmx o } }
  else s

/-- The running sequence of a lane ends with a result (R279, R289): `BUSY` clears, the end interrupts and is logged. -/
def State.seqEnd (s : State) (l : Lane) (result : Nat) : State :=
  let d := laneDie l
  match (s.run l).nrg.seq with
  | none => s
  | some _ =>
    let s1 := ((s.modRun l fun r => { r with nrg := { r.nrg with seq := none } }).discharge l false).clr d
      R.NRG_CTR_RESULT.BUSY
    ((s1.wr d R.NRG_CTR_RESULT.RESULT result).irq l R.NRG_CTRL.CTR_IRQ_EN).logIf l R.NRG_CTRL.LOG_EN 279 result

/-! ## Safe outputs (R345, R346, R348) -/

/-- The functions of a safe output (R345). -/
def soSto : Nat := 1
/-- A contactor coil. -/
def soContactor : Nat := 2
/-- A general output. -/
def soGeneral : Nat := 3

/-- The switches of an output, the instant of their change, and the levels that its two senses then read (R346). -/
def State.soSet (s : State) (k : Fin 12) (hs ls : Bool) : State :=
  let same := s.on .ds R.DSP_SOk_STATUS.HS k == hs && s.on .ds R.DSP_SOk_STATUS.LS k == ls
  let s0 := if same then s else s.modDep fun d => { d with soAt := upd d.soAt k fun _ => s.now }
  let s1 := (s0.put .ds R.DSP_SOk_STATUS.HS hs k).put .ds R.DSP_SOk_STATUS.LS ls k
  let s2 := (s1.put .ds R.DSP_SOk_STATUS.FB hs k).put .ds R.DSP_SOk_STATUS.LS_SENSE (hs && !ls) k
  (s2.wrBit .ds R.DSP_SO_FB.LEVEL k hs).wrBit .ds R.DSP_SO_LS.LEVEL k (hs && !ls)

/-- The test that runs ends with a code (R347). -/
def State.testEnd (s : State) (out code : Nat) : State :=
  (((s.wr .ds R.DSP_SO_TEST_STATUS.LAST_OUT out).wr .ds R.DSP_SO_TEST_STATUS.LAST_RESULT code).clr .ds
    R.DSP_SO_TEST_STATUS.BUSY).modDep fun d => { d with test := none }

/-- Both switches of a safe output opened; a contactor begins to drop, and a test of the output ends with code 4
(R345, R347, R348, R278). -/
def State.openSo (s : State) (k : Fin 12) : State :=
  let s1 := s.soSet k false false
  let s2 := s1.modDep fun d =>
    { d with
      ctr := upd d.ctr k fun c => if c = .pull ∨ c = .hold then .drop else c
      ctrAt := upd d.ctrAt k fun t => if d.ctr[k] = .pull ∨ d.ctr[k] = .hold then s.now else t
      pendingClose := upd d.pendingClose k fun _ => false
      failAtOpen := upd d.failAtOpen k fun _ => s.on .ds R.DSP_SOk_STATUS.FAIL k }
  match s2.dep.test with
  | some t => if t.out = k.val then s2.testEnd k 4 else s2
  | none => s2

/-- The outputs of the given functions opened. -/
def State.openFuncs (s : State) (fs : List Nat) : State :=
  s.each (List.finRange 12) fun s k =>
    s.when (fs.contains (s.rd .ds R.DSP_SOk_CFG.FUNC k)) fun s => s.openSo k

/-! ## The actuator boost and the power path of a die (R293, R295, R299) -/

/-- The clamp sequence of a die runs (R343). -/
def State.clampRuns (s : State) (l : Lane) : Bool := (s.pap l).clamp.phase != .off

/-- The actuator boost brought up to date (R299): it runs from the end of `ST13` with `ACT_EN` set and the owned windings
not held off, and during a clamp whatever they hold; below 9 V it stops. -/
def State.actSync (s : State) (l : Lane) : State :=
  let d := papDie l
  let p := s.pap l
  let want := s.clampRuns l || (s.on d R.LVP_ACT_CFG.ACT_EN && s.past l 13 && !p.ownedOff)
  let run := p.powered && !p.shutdown && !p.boostStop && want
  (s.put d R.LVP_ACT_STATUS.RUN run).put d R.PAP_STATUS.ACT_CLAMP (run && s.clampRuns l)

/-- The power path in `OFF` (R293). -/
def State.lvpOff (s : State) (l : Lane) : State :=
  let d := papDie l
  ((((s.wr d R.LVP_STATUS.PATH 0).wr d R.LVP_STATUS.PAIR 0).wr d R.LVP_STATUS.STAGE 0).clr d R.LVP_STATUS.REQUAL).modPap l
    fun p => { p with lvp := LvpSt.init }

/-- The codes of `LVP_STATUS.PATH`. -/
def pathBatt : Nat := 1
/-- `CONV`. -/
def pathConv : Nat := 2
/-- `HANDOVER`. -/
def pathHand : Nat := 3
/-- `ISOLATE`. -/
def pathIso : Nat := 4

/-- Some power path is in `HANDOVER` or in its requalification hold: the converter stays `OFF` (R295). -/
def State.lvpHolds (s : State) : Bool :=
  lanes.any fun l => s.rd (papDie l) R.LVP_STATUS.PATH == pathHand || s.on (papDie l) R.LVP_STATUS.REQUAL

/-- While the converter is held, an input that has gone and returns counts as a re-plug and is ignored (R295). -/
def State.replug (s : State) (l : Lane) (gone : Bool) : State :=
  let d := papDie l
  if s.rd d R.LVP_STATUS.PATH == pathHand || s.on d R.LVP_STATUS.REQUAL then
    let back := (s.pap l).lvp.gone && !gone
    let s1 := s.modPap l fun p => { p with lvp := { p.lvp with gone := gone } }
    s1.when back fun s => (s.set d R.LVP_STATUS.REPLUG_IGN).inc d R.LVP_CNT.REPLUG_IGN
  else s

/-! ## Owned windings (R18) -/

/-- The owned winding sets of a lane switched off by its power-and-analog die, if it is powered; a brake application ends, and
the lane's power path and its boost stop (R18, R344, R293, R299). A clamp sequence keeps the gates it drives (R343). -/
def State.windingsOff (s : State) (l : Lane) : State :=
  if (s.pap l).powered then
    let clamped := (s.pap l).clamp.phase != .off
    let s1 := s.modPap l fun p =>
      { p with
        ownedOff := true
        hbs := if clamped then p.hbs else updAll p.hbs fun h =>
          { h with wantHi := false, wantLo := false, gateHi := false, gateLo := false, refresh := 0 } }
    (((s1.clr (papDie l) R.PAP_BRK_STATUS.ACTIVE).clr (papDie l) R.PAP_STATUS.BRAKE).lvpOff l).actSync l
  else s

/-! ## Safe stop and Degraded-timed (R31, R339, R341, R342) -/

/-- `CFG_MODE.SAFE_STOP` and `CFG_MODE.DEGRADED` of both lanes as the Deputy imposes them (R1). -/
def State.syncImposed (s : State) : State :=
  s.each lanes fun s l =>
    (s.put (laneDie l) R.CFG_MODE.SAFE_STOP (s.on .ds R.DSP_STATUS.SAFE_STOP)).put (laneDie l) R.CFG_MODE.DEGRADED
      (s.on .ds R.DSP_STATUS.DEGRADED)

/-- The Degraded-timed duration in seconds: 30 to 1,800, and 600 where the field is 0 (R339). -/
def degDuration (n : Nat) : Nat := if n = 0 then 600 else clampN 30 1800 n

/-- The Deputy starts its Degraded-timed timer, once (R35, R339). -/
def State.startDegraded (s : State) (c : FaultClass) : State :=
  if s.on .ds R.DSP_DEG_STATUS.RUNNING || s.on .ds R.DSP_DEG_STATUS.EXPIRED then s
  else
    let n := degDuration (s.rd .ds R.DSP_DEG_CFG.DURATION)
    let s1 := ((s.set .ds R.DSP_DEG_STATUS.RUNNING).wr .ds R.DSP_DEG_STATUS.CLASS c.code).wr .ds R.DSP_DEG_REMAIN.MS
      (n * 1000)
    ((s1.set .ds R.DSP_STATUS.DEGRADED).modDep fun d => { d with degEnd := s.now + n * sec }).syncImposed

/-- A controlled Safe stop imposed (R31, R341 step 1): both `CHS_FAIL` lines, general outputs open, the ramp signalled. -/
def State.stopControlled (s : State) : State :=
  if s.rd .ds R.DSP_SS_STATUS.FORM == 0 then
    let s1 := ((s.set .ds R.DSP_STATUS.SAFE_STOP).wr .ds R.DSP_SS_STATUS.FORM 1).set .ds R.DSP_SS_STATUS.RAMP_RUN
    let s2 := (s1.modDep fun d => { d with ssAt := s.now }).each lanes fun s l =>
      s.modRun l fun r => { r with sup := { r.sup with rampAt := some s.now } }
    (((s2.each lanes fun s l => s.seqEnd l resSafeStop).openFuncs [soGeneral]).syncChs).syncImposed
  else s

/-- The clamp command field of a lane's die. -/
def clampFld : Lane → Fld
  | .a => R.DSP_CLAMP_STATUS.CMD_A
  | .b => R.DSP_CLAMP_STATUS.CMD_B

/-- The Deputy raises the clamp line of a die that is powered (R342, R343). -/
def State.clampCmd (s : State) (l : Lane) : State :=
  if (s.pap l).powered then
    (s.set .ds (clampFld l)).modPap l fun p => { p with clamp := { p.clamp with line := true } }
  else s

/-- An immediate Safe stop imposed (R342): every STO, contactor and general output opens, both `CHS_FAIL` lines, the
clamp command to each powered die. -/
def State.stopImmediate (s : State) : State :=
  if s.rd .ds R.DSP_SS_STATUS.FORM == 2 then s
  else
    let s1 := (((s.set .ds R.DSP_STATUS.SAFE_STOP).wr .ds R.DSP_SS_STATUS.FORM 2).clr .ds
      R.DSP_SS_STATUS.RAMP_RUN).set .ds R.DSP_SS_STATUS.OUTPUTS_OPEN
    let s2 := s1.modDep fun d => { d with ssAt := s.now, openedAt := s.now }
    let s3 := (s2.each lanes fun s l => s.seqEnd l resSafeStop).openFuncs [soSto, soContactor, soGeneral]
    let s4 := s3.each (if s.single then [.a] else lanes) fun s l => s.clampCmd l
    s4.syncChs.syncImposed

/-! ## The overvoltage lines (R273 to R275) -/

/-- The chopper links that the Deputy's copy of `NRG_CHOP` names, leg by leg. -/
def State.chopLegs (s : State) : List Nat :=
  let v := s.rd .ds R.DSP_CHOP.VALUE
  if bit v 0 then bits v 6 1 :: (if bit v 13 then [bits v 12 7] else []) else []

/-- A chopper leg is healthy (R275): its link is enabled, holds no latched stage fault and has `HLG_OK`. -/
def State.legHealthy (s : State) (n : Nat) : Bool :=
  match linkIdx n with
  | none => false
  | some k => (s.link k).cfg.en && (s.link k).causes == 0 && (s.link k).hlgOk

/-- What the overvoltage lines impose at the Deputy brought up to date with the lines (R273, R274): the clamp, the chopper
override and the group overrides act together. -/
def State.ovApply (s : State) : State :=
  let clamp := s.rd .ds R.DSP_OV_STATUS.OV2 != 0
  let on := s.chopLegs.filter fun n => clamp && s.legHealthy n
  let s1 := (s.put .ds R.DSP_OV_STATUS.CLAMP clamp).put .ds R.DSP_OV_STATUS.CHOP_OVR (!on.isEmpty)
  let s2 := { s1 with hoist := { s1.hoist with
    ovOff := if clamp then bits (s1.rd .ds R.DSP_OV2.VALUE) 31 24 else 0
    ovAsc := if s1.on .ds R.DSP_OV_STATUS.ASC_HOLD then bits (s1.rd .ds R.DSP_OV3.VALUE) 31 24 else 0
    chopOn := on.foldl setBit 0 } }
  let s3 := s2.each lanes fun s l =>
    if s.alive l then
      (s.put (laneDie l) R.NRG_STATUS.CLAMP clamp).wr (laneDie l) R.NRG_CHOP_STAT.FIRED
        ((s.chopLegs.zipIdx.filter fun x => on.contains x.1).foldl (fun a x => setBit a x.2) 0)
    else s
  s3.each (List.range 8) fun s g => s.groupApply g

/-- The OV2 line of a lane (R273). -/
def State.ov2Line (s : State) (l : Lane) (on : Bool) : State :=
  if s.depOn then
    let s1 := if on && !s.rdBit .ds R.DSP_OV_STATUS.OV2 l.idx.val then s.inc .ds R.DSP_OV_CNT.OV2 else s
    (s1.wrBit .ds R.DSP_OV_STATUS.OV2 l.idx.val on).ovApply
  else s

/-- The OV3 line of a lane (R274): the short circuit begins with the first line, and its `HOLD` timer with the last. -/
def State.ov3Line (s : State) (l : Lane) (on : Bool) : State :=
  if s.depOn then
    let was := s.rdBit .ds R.DSP_OV_STATUS.OV3 l.idx.val
    let s1 := s.wrBit .ds R.DSP_OV_STATUS.OV3 l.idx.val on
    if on then
      (((s1.when (!was) fun s => s.inc .ds R.DSP_OV_CNT.OV3).set .ds R.DSP_OV_STATUS.ASC_HOLD).modDep fun d =>
        { d with asc3 := none }).ovApply
    else if was && s1.rd .ds R.DSP_OV_STATUS.OV3 == 0 then s1.modDep fun d => { d with asc3 := some s.now }
    else s1
  else s

/-! ## Declarations and outcomes (R27, R32 to R36, R40) -/

/-- The outcome of the classes that are lost now (R32, R33, R36; R40 in the single-lane arrangement): both sides lost
means Safe stop, immediate when both are lanes; one side lost means Single-lane and Degraded-timed. -/
def State.outcome (s : State) (starter : FaultClass) : State :=
  if s.single then
    if s.isLost .la then (s.set .ds R.DSP_OUTCOME.SS_IMMEDIATE).stopImmediate else s
  else if s.sideLost .a && s.sideLost .b then
    let s1 := (s.clr .ds R.DSP_OUTCOME.SINGLE).clr .ds R.DSP_OUTCOME.DEGRADED
    if s.isLost .la && s.isLost .lb then
      ((s1.clr .ds R.DSP_OUTCOME.SS_CONTROLLED).set .ds R.DSP_OUTCOME.SS_IMMEDIATE).stopImmediate
    else (s1.set .ds R.DSP_OUTCOME.SS_CONTROLLED).stopControlled
  else if s.sideLost .a || s.sideLost .b then
    (if s.on .ds R.DSP_STATUS.SAFE_STOP then s
     else (s.set .ds R.DSP_OUTCOME.SINGLE).set .ds R.DSP_OUTCOME.DEGRADED).startDegraded starter
  else s

/-- What the declaration of a lane's loss does besides its outcome (R18, R22, R308, R334): the grant is removed, the
monitor disarmed, the owned windings switched off; a `WARM` partner turns `HOT`. -/
def State.laneLost (s : State) (l : Lane) : State :=
  let s1 := (s.set .ds R.DSP_Lx_STATUS.LOST l.idx).clr .ds R.DSP_Lx_STATUS.ARMED l.idx
  let s2 := (((s1.removeGrant l).windingsOff l).ov2Line l false).ov3Line l false
  let s3 := s2.set (laneDie l.other) R.LNK_STATUS.PARTNER_LOST
  if s3.role l.other == roleWarm then s3.setRole l.other roleHot else s3

/-- The lane form of Safe stop (R31): imposed by the lane on itself until it is reset or loses its supply. -/
def State.laneForm (s : State) (l : Lane) : State :=
  ((s.modSup l fun x => { x with laneStop := true }).set (laneDie l) R.CFG_MODE.SAFE_STOP).clr (laneDie l)
    R.CFG_MODE.DEGRADED

/-- After the Deputy's loss, a pair of R33 that leads to Safe stop: classes of both sides are lost, as the lane knows it
(R36; the lane form at once is DEDUCED from R31, log entry 16). -/
def State.laneOutcome (s : State) (l : Lane) : State :=
  let lost := (s.run l).sup.lost
  let side := fun (x : Lane) => (classesOf x).any fun c => bit lost c.code
  if s.dsLost l && side .a && side .b && !(s.run l).sup.laneStop then s.laneForm l else s

/-- A class enters the own record of lane `k` after a DS declaration, with an event on its `Q09` (R36, R37). -/
def State.ownRecord (s : State) (k : Lane) (c : FaultClass) (cause : Nat) : State :=
  if s.alive k && s.dsLost k && !bit (s.run k).sup.lost c.code then
    ((s.modSup k fun x => { x with lost := setBit x.lost c.code }).log k 37 (c.code * 32 + cause)).laneOutcome k
  else s

/-- After a DS declaration the loss of a lane reaches the other lane, which records it (R33, R36, R37; that it learns of it
is DEDUCED, log entry 43): the lost lane's owned windings go off (R18), and a `WARM` partner turns `HOT` (R308). -/
def State.ownLaneLoss (s : State) (l : Lane) (cause : Nat) : State :=
  if s.alive l.other && s.dsLost l.other then
    let s1 := ((s.windingsOff l).set (laneDie l.other) R.LNK_STATUS.PARTNER_LOST).ownRecord l.other (lossOf l) cause
    if s1.role l.other == roleWarm then s1.setRole l.other roleHot else s1
  else s

/-- Classes declared after a DS declaration, each with its cause code, in the lanes' own records (R37). -/
def State.ownRecords (s : State) (cs : List (FaultClass × Nat)) : State :=
  s.each cs fun s c =>
    match classSide c.1 with
    | some l => if c.1 = lossOf l then s.ownLaneLoss l c.2 else s
    | none => s

/-- The Degraded-timed timer taken back, as the pair of two declarations of one Deputy cycle never passes through a
single-fault row (R34). -/
def State.undoDegraded (s : State) : State :=
  let s1 := ((s.clr .ds R.DSP_DEG_STATUS.RUNNING).wr .ds R.DSP_DEG_STATUS.CLASS 0).wr .ds R.DSP_DEG_REMAIN.MS 0xFFFFFFFF
  (s1.clr .ds R.DSP_STATUS.DEGRADED).syncImposed

/-- Declarations of one Deputy clock cycle taken together (R34): `n` of them have been recorded in this cycle before; where
the pair leads to Safe stop, a timer that this cycle started is taken back, and the earlier records show the pair's
outcome. -/
def State.pairDirect (s : State) (n : Nat) : State :=
  let s1 := if s.on .ds R.DSP_STATUS.SAFE_STOP && s.dep.declTimer then s.undoDegraded else s
  s1.each (List.range n) fun s i => s.wr .ds R.DSP_FRr_INFO.OUTCOME s.outcomeBits ((s.rd .ds R.DSP_FR_HEAD.NEXT + 31 - i) % 32)

/-- Fault classes declared lost, each with its cause code (R27, R34). A class that is lost already is not declared again;
declarations of one Deputy clock cycle act as one. Without the Deputy the lanes keep their own records (R37). -/
def State.declareAll (s : State) (cs : List (FaultClass × Nat)) : State :=
  if s.depOn then
    let fresh := cs.filter fun c => !s.isLost c.1
    match fresh with
    | [] => s
    | c0 :: _ =>
      let same := s.dep.declAt == some s.depTime
      let ran := s.on .ds R.DSP_DEG_STATUS.RUNNING
      let s1 := s.each fresh fun s c => s.wrBit .ds R.DSP_OUTCOME.LOST c.1.code true
      let s2 := s1.each fresh fun s c =>
        match classSide c.1 with
        | none => s
        | some l => (if c.1 = lossOf l then s.laneLost l else s).causeOf l c.2
      let s3 := (s2.outcome c0.1).modDep fun d =>
        { d with declAt := some s.depTime, declRecs := (if same then d.declRecs else 0) + fresh.length }
      let s3 := s3.modDep fun d =>
        { d with declTimer := (same && d.declTimer) || (!ran && s3.on .ds R.DSP_DEG_STATUS.RUNNING) }
      let s4 := if same then s3.pairDirect s.dep.declRecs else s3
      let s5 := s4.each fresh fun s c => s.record c.1.code c.2 false 0
      (s5.ownRecords fresh).returns.syncLost.syncChs.grantLogic.syncMaster
  else (s.ownRecords cs).syncMaster

/-- One fault class declared lost with its cause code. -/
def State.declare (s : State) (c : FaultClass) (cause : Nat) : State := s.declareAll [(c, cause)]

/-- A window miss of a lane (R333, R336): its count and the declaration of its loss. -/
def State.windowMiss (s : State) (l : Lane) : State :=
  if s.depOn then (s.inc .ds R.DSP_Lx_CNT.WINDOW_MISS l.idx).declare (lossOf l) 4 else s

/-- A following-error event of a lane at the Deputy (R190, R336): recorded, and a window miss with `FE_LOSS`; a standby
lane's event only with `FE_STBY`. -/
def State.feEvent (s : State) (l : Lane) (slot : Nat) : State :=
  if s.depOn then
    let stby := !s.granted l
    let s1 := ((((s.inc .ds R.DSP_Lx_CNT.FE_EVENTS l.idx).wr .ds R.DSP_Lx_EVT.FE_SLOT slot l.idx).put .ds
      R.DSP_Lx_EVT.STANDBY stby l.idx).inc .ds R.DSP_FAULT_CNT.FE).causeOf l 7
    let s2 := s1.record classNone 7 stby slot
    if s2.on .ds R.DSP_RESP_CFG.FE_LOSS && (!stby || s2.on .ds R.DSP_RESP_CFG.FE_STBY) then s2.windowMiss l else s2
  else s

/-- A tally miss of a lane at the Deputy (R110, R336): recorded; with `MISS_LOSS` the `MISS_LIMIT`-th report within any
1 s is a window miss. -/
def State.tallyMiss (s : State) (l : Lane) (q : Nat) : State :=
  if s.depOn then
    let stby := !s.granted l
    let recent := (s.depLane l).missAt.filter fun t => s.now < t + sec
    let s1 := ((((s.inc .ds R.DSP_Lx_MISS_CNT.MISSES l.idx).wr .ds R.DSP_Lx_EVT.MISS_Q q l.idx).put .ds
      R.DSP_Lx_EVT.STANDBY stby l.idx).inc .ds R.DSP_FAULT_CNT.MISSES).causeOf l 6
    let s2 := (s1.modDepLane l fun x => { x with missAt := s.now :: recent }).record classNone 6 stby q
    if s2.on .ds R.DSP_RESP_CFG.MISS_LOSS && decide (orOne (s2.rd .ds R.DSP_RESP_CFG.MISS_LIMIT) ≤ recent.length + 1) then
      s2.windowMiss l
    else s2
  else s

/-! ## The lane reset (R11, R55, R308, R357) -/

/-- The entries of the register file of one die dropped, but for the kept fields where `keep` says so. -/
def dropDie (d : Die) (keep : Bool) (r : RegFile) : RegFile :=
  r.filter fun e => e.1 / 2 ^ 61 != d.code || (keep && (keptFlds.map fun f => f.key d 0 0).contains e.1)

/-- A die's registers take their reset values; kept fields keep theirs where `keep` says so (R11). -/
def State.resetRegs (s : State) (d : Die) (keep : Bool) : State := { s with regs := dropDie d keep s.regs }

/-- The non-keeper logic of a power-and-analog die reset (R55): gates off, controllers stopped; the clamp, the brake
application and the keeper stay (R343, R344, R300). -/
def State.resetPap (s : State) (l : Lane) : State :=
  let keep := fun n => ((s.pap l).clamp.phase != .off || s.on (papDie l) R.PAP_BRK_STATUS.ACTIVE)
    && bit (s.pap l).clamp.mask n
  let s1 := s.modPap l fun p =>
    { p with
      hbs := (List.finRange 16).foldl (fun v (n : Fin 16) => upd v n fun h => if keep n.val then h else HalfBridge.init) p.hbs
      vrc := VrcSt.init, lvp := LvpSt.init }
  (s1.resetRegs (papDie l) true).actSync l

/-- A reset of lane `l` (R11, R55, R113): its volatile state and its registers take their reset values, every tally
entry is discarded, its request falls, and the Deputy removes a grant that it held. The lane then waits in `phase`. -/
def State.resetLane (s : State) (l : Lane) (phase : LanePhase) : State :=
  let s1 := (s.removeGrant l).when s.depOn fun s => (s.clr .ds (reqFld l)).clr .ds R.DSP_Lx_STATUS.DONE l.idx
  let s2 := (s1.modRun l fun _ => { LaneRun.init with phase := phase }).resetRegs (laneDie l) true
  let s3 := ((s2.modDepLane l fun x => { x with split := false, verified := false }).ov2Line l false).ov3Line l false
  s3.syncChs.grantLogic.syncMaster

/-- A lane reset together with the non-keeper logic of its power-and-analog die, as `nRESET_x` does (R55). -/
def State.resetIsland (s : State) (l : Lane) (phase : LanePhase) : State := (s.resetPap l).resetLane l phase

end Sys2Proof.Machine
end

