-- ==== Sys2Proof/Machine/DriveOps.lean ====
section
/-!
DEFINITION. The pre-drivers of a power-and-analog die with the confirmation of R241.
-/
namespace Sys2Proof.Machine

/-! ## Pre-drivers -/

/-- A half-bridge. -/
def State.hb (s : State) (l : Lane) (n : Fin 16) : HalfBridge := (s.pap l).hbs[n]

/-- A half-bridge changed by `f`. -/
def State.modHb (s : State) (l : Lane) (n : Fin 16) (f : HalfBridge → HalfBridge) : State :=
  s.modPap l fun p => { p with hbs := upd p.hbs n f }

/-- A gate of a half-bridge turned off at once; it counts as confirmed off only when the monitor says so. -/
def State.pdOff (s : State) (l : Lane) (n : Fin 16) (hi : Bool) : State :=
  if hi then
    (s.modHb l n fun h =>
      { h with gateHi := false, offHi := h.offHi && !h.gateHi, edgeAt := if h.gateHi then some s.now else h.edgeAt }).clr
      (papDie l) R.PAP_HBn_STATUS.GH_ON n
  else
    (s.modHb l n fun h =>
      { h with gateLo := false, offLo := h.offLo && !h.gateLo, edgeAt := if h.gateLo then some s.now else h.edgeAt }).clr
      (papDie l) R.PAP_HBn_STATUS.GL_ON n

/-- A gate of a half-bridge turned on. The monitor's `GH_ON` or `GL_ON` follows (R241). -/
def State.pdOn (s : State) (l : Lane) (n : Fin 16) (hi : Bool) : State :=
  if hi then
    (s.modHb l n fun h => { h with gateHi := true, offHi := false, edgeAt := some s.now }).set (papDie l)
      R.PAP_HBn_STATUS.GH_ON n
  else
    (s.modHb l n fun h => { h with gateLo := true, offLo := false, edgeAt := some s.now }).set (papDie l)
      R.PAP_HBn_STATUS.GL_ON n

/-- The die takes gate commands from its lane: it is powered and not shut down, its owned windings are not held off
(R18), no clamp drives its gates (R343), and the lane has completed `ST19` (R220). -/
def State.pdOpen (s : State) (l : Lane) : Bool :=
  (s.pap l).powered && !(s.pap l).shutdown && !(s.pap l).ownedOff && (s.pap l).clamp.phase == .off && s.running l

/-- The brake application of the die drives a half-bridge (R344). -/
def State.brakeOwns (s : State) (l : Lane) (n : Nat) : Bool :=
  s.on (papDie l) R.PAP_BRK_STATUS.ACTIVE && bit (s.pap l).clamp.mask n

/-- A gate command from the PWM to a half-bridge at instant `t` in steps (R241): off acts at once, on after the other gate's
confirmation; one that lies ahead by its dead time waits for `PD_TURN_ON_RELEASE` (R207). During a refresh pulse an on command
only changes what is commanded, and GH's turn-off abandons the pulse (R243). -/
def State.pdCmd (s : State) (l : Lane) (n : Fin 16) (hi on : Bool) (t : Int) : State :=
  if s.brakeOwns l n then s
  else if on then
    if s.pdOpen l && s.on (papDie l) R.PAP_HBn_CFG.EN n then
      let h := s.hb l n
      if (if hi then h.wantHi else h.wantLo) then s
      else
        let s1 := s.modHb l n fun h =>
          if hi then { h with wantHi := true, hiAt := max t s.steps, withHi := false }
          else { h with wantLo := true, loAt := max t s.steps, withLo := false }
        if t ≤ s.steps ∧ h.refresh = 0 ∧ (if hi then h.offLo && !h.gateLo else h.offHi && !h.gateHi) then s1.pdOn l n hi
        else s1
    else s
  else
    let s1 := s.modHb l n fun h =>
      if hi then { h with wantHi := false, withHi := false, refresh := 0 } else { h with wantLo := false, withLo := false }
    let s2 := if hi && (s.hb l n).refresh ≠ 0 then s1.pdOff l n false else s1
    s2.pdOff l n hi

end Sys2Proof.Machine
end

