-- ==== Sys2Proof/Machine/PwmOps.lean ====
section
/-!
DEFINITION. The PWM of a lane (chapter 08): how a channel drives its destinations, the edges of a channel, trips, and
what a transfer point computes. Instants of edges are in steps of 9.765625 ps (`State.steps`).
-/
namespace Sys2Proof.Machine

/-- A channel. -/
def State.ch (s : State) (l : Lane) (c : Fin 64) : PwmCh := (s.run l).pwm.chs[c]

/-- A channel changed by `f`. -/
def State.modCh (s : State) (l : Lane) (c : Fin 64) (f : PwmCh → PwmCh) : State :=
  s.modPwm l fun p => { p with chs := upd p.chs c f }

/-- A timebase number as an index. -/
def tbIdx (n : Nat) : Fin 8 := ⟨n % 8, Nat.mod_lt _ (by decide)⟩

/-- A channel number as an index. -/
def chIdx (n : Nat) : Fin 64 := ⟨n % 64, Nat.mod_lt _ (by decide)⟩

/-- A half-bridge number as an index. -/
def hbIdx (n : Nat) : Fin 16 := ⟨n % 16, Nat.mod_lt _ (by decide)⟩

/-- The timebase of a channel. -/
def State.tbOf (s : State) (l : Lane) (c : Fin 64) : Fin 8 := tbIdx (s.rd (laneDie l) R.PWM_CHc_CFG.TB c)

/-- A timebase of a shared stage (R201). -/
def State.shared (s : State) (l : Lane) (t : Nat) : Bool := s.rdBit (laneDie l) R.PWM_SHARED.TB t

/-! ## Destinations (R200) -/

/-- The partner destination of a destination within its leg: the other gate of a half-bridge, or the other Hoist link of
a leg in the lane's leg map (R201). -/
def State.partnerDst (s : State) (l : Lane) (code : Nat) : Option Nat :=
  if 0x40 ≤ code ∧ code ≤ 0x4F then some (code + 0x10)
  else if 0x50 ≤ code ∧ code ≤ 0x5F then some (code - 0x10)
  else if 1 ≤ code ∧ code ≤ 0x28 then
    (List.range 20).findSome? fun m =>
      if s.on (laneDie l) R.HLK_LEGm_CFG.EN m then
        let hi := s.rd (laneDie l) R.HLK_LEGm_CFG.HI m
        let lo := s.rd (laneDie l) R.HLK_LEGm_CFG.LO m
        if hi + 1 = code then some (lo + 1) else if lo + 1 = code then some (hi + 1) else none
      else none
  else none

/-- The channels of a lane. -/
def allCh : List (Fin 64) := List.finRange 64

/-- The single-mode channel that drives the partner of a single-mode channel's destination (R209). -/
def State.partnerCh (s : State) (l : Lane) (c : Fin 64) : Option (Fin 64) :=
  let d := laneDie l
  if s.on d R.PWM_CHc_CFG.COMPL c then none
  else
    match s.partnerDst l (s.rd d R.PWM_CHc_DST.DST_H c) with
    | none => none
    | some x => allCh.find? fun k =>
        s.on d R.PWM_CHc_CFG.EN k && !s.on d R.PWM_CHc_CFG.COMPL k && s.rd d R.PWM_CHc_DST.DST_H k == x

/-- A destination code commanded on or off at an instant in steps (R16, R200, R219, R220): a Hoist link only from the granted
lane and once the channel is taken over, a pre-driver or `PWMX` pin only once the lane has completed `ST19`. -/
def State.driveDst (s : State) (l : Lane) (c : Fin 64) (code : Nat) (on : Bool) (t : Int) : State :=
  if 1 ≤ code ∧ code ≤ 0x28 then
    if s.granted l && s.on (laneDie l) R.PWM_CHc_STATUS.TAKEN c then
      match linkIdx (code - 1) with
      | some n => s.hoistCmd n on t
      | none => s
    else s
  else if 0x40 ≤ code ∧ code ≤ 0x4F then s.pdCmd l (hbIdx code) true on t
  else if 0x50 ≤ code ∧ code ≤ 0x5F then s.pdCmd l (hbIdx code) false on t
  else if 0x60 ≤ code ∧ code ≤ 0x67 then
    let up := on && s.running l
    s.modPwm l fun p => { p with pwmx := if up then setBit p.pwmx (code - 0x60) else clrBit p.pwmx (code - 0x60) }
  else s

/-- What a destination is commanded to: a turn-on acts at its instant unless the channel's stage is held off (R284) or its
configuration is in error (R201); one that stands keeps its instant. -/
def PwmCh.command (k : PwmCh) (err on : Bool) (was : Option Int) (t : Int) : Option Int :=
  if on && !err && !k.held then (match was with
    | some y => some y
    | none => some t) else none

/-- `DST_H` of a channel commanded on or off at an instant. -/
def State.driveH (s : State) (l : Lane) (c : Fin 64) (on : Bool) (t : Int) : State :=
  let want := (s.ch l c).command (s.on (laneDie l) R.PWM_CHc_STATUS.CFG_ERR c) on (s.ch l c).hi t
  (s.modCh l c fun k => { k with hi := want }).driveDst l c (s.rd (laneDie l) R.PWM_CHc_DST.DST_H c) want.isSome t

/-- `DST_L` of a channel commanded on or off at an instant; a single channel has none. -/
def State.driveL (s : State) (l : Lane) (c : Fin 64) (on : Bool) (t : Int) : State :=
  if s.on (laneDie l) R.PWM_CHc_CFG.COMPL c then
    let want := (s.ch l c).command (s.on (laneDie l) R.PWM_CHc_STATUS.CFG_ERR c) on (s.ch l c).lo t
    (s.modCh l c fun k => { k with lo := want }).driveDst l c (s.rd (laneDie l) R.PWM_CHc_DST.DST_L c) want.isSome t
  else s.modCh l c fun k => { k with lo := none }

/-- The dead time of a turn-on in steps: 78.125 ps are 8 steps (R207). -/
def deadTime (v : Nat) : Int := ((v * 8 : Nat) : Int)

/-- The partner of a single channel that is off now: a turn-on of its own that waits acts after its dead time (R209). -/
def State.freePartner (s : State) (l : Lane) (c : Fin 64) : State :=
  match s.partnerCh l c with
  | none => s
  | some k =>
    if (s.ch l k).waits then
      (s.modCh l k fun x => { x with waits := false }).driveH l k true
        (s.steps + deadTime (s.rd (laneDie l) R.PWM_CHc_DT.DT_RISE k))
    else s

/-- Both destinations of a channel off. -/
def State.chOff (s : State) (l : Lane) (c : Fin 64) : State :=
  ((s.driveH l c false s.steps).driveL l c false s.steps).freePartner l c

/-- The destinations of a channel commanded again as they stand, off before on: for outputs that have just opened to the lane
(R219, R220). -/
def State.redrive (s : State) (l : Lane) (c : Fin 64) : State :=
  let d := laneDie l
  let k := s.ch l c
  let h := s.rd d R.PWM_CHc_DST.DST_H c
  let lo := s.rd d R.PWM_CHc_DST.DST_L c
  let two := s.on d R.PWM_CHc_CFG.COMPL c
  let s1 := if k.hi.isNone then s.driveDst l c h false s.steps else s
  let s2 := if two && k.lo.isNone then s1.driveDst l c lo false s.steps else s1
  let s3 := match k.hi with
    | some t => s2.driveDst l c h true t
    | none => s2
  match k.lo with
  | some t => if two then s3.driveDst l c lo true t else s3
  | none => s3

/-- Every enabled channel commanded again (R220). -/
def State.redriveAll (s : State) (l : Lane) : State :=
  s.each allCh fun s c => s.when (s.on (laneDie l) R.PWM_CHc_CFG.EN c) fun s => s.redrive l c

/-- A destination code that R200 reserves. -/
def dstReserved (code : Nat) : Bool :=
  !(code == 0 || (decide (1 ≤ code) && decide (code ≤ 0x28)) || (decide (0x40 ≤ code) && decide (code ≤ 0x5F))
    || (decide (0x60 ≤ code) && decide (code ≤ 0x67)))

/-- The destinations a channel uses. -/
def State.dsts (s : State) (l : Lane) (c : Nat) : List Nat :=
  let h := s.rd (laneDie l) R.PWM_CHc_DST.DST_H c
  if s.on (laneDie l) R.PWM_CHc_CFG.COMPL c then [h, s.rd (laneDie l) R.PWM_CHc_DST.DST_L c] else [h]

/-- The enabled band slot that names a channel. -/
def State.bandOf (s : State) (l : Lane) (c : Nat) : Option Nat :=
  (List.range 32).find? fun n =>
    s.on (laneDie l) R.CE_Bn_CFG.EN n && s.rd (laneDie l) R.CE_Bn_CFG.PWM_CH n == c

/-- The configuration error of a channel (R201). -/
def State.cfgErr (s : State) (l : Lane) (c : Fin 64) : Bool :=
  let d := laneDie l
  let ds := s.dsts l c
  let shared := s.shared l (s.tbOf l c)
  s.on d R.PWM_CHc_CFG.EN c &&
    (ds.any dstReserved
      || (List.range 64).any (fun k =>
          k != c.val && s.on d R.PWM_CHc_CFG.EN k && (s.dsts l k).any fun x => x != 0 && ds.contains x)
      || ds.any (fun x => decide (1 ≤ x) && decide (x ≤ 0x28) && !shared)
      || ds.any (fun x => decide (0x40 ≤ x) && shared)
      || (s.on d R.PWM_CHc_CFG.COMPL c && s.partnerDst l (ds.getD 0 0) != some (ds.getD 1 0))
      || (s.on d R.PWM_CHc_CFG.ENGINE c && (s.bandOf l c).isNone))

/-- The channel is engine-driven: its slot has left `OFF`; otherwise its compares place its edges (R179, R200). -/
def State.engineDriven (s : State) (l : Lane) (c : Fin 64) : Bool :=
  s.on (laneDie l) R.PWM_CHc_CFG.ENGINE c && (List.range 32).any fun n =>
    s.rd (laneDie l) R.CE_Bn_CFG.PWM_CH n == c.val && s.rd (laneDie l) R.CE_Bn_STATUS.STATE n != 0

/-! ## Edges (R207 to R209, R215) -/

/-- Blanking windows that an edge of a channel at instant `x` opens (R215). -/
def State.openWindows (s : State) (l : Lane) (c : Fin 64) (level : Bool) (x : Int) : State :=
  s.each (List.finRange 16) fun s b =>
    let d := laneDie l
    let e := s.rd d R.PWM_BTb_CFG.EDGE b
    let len := s.rd d R.PWM_BTb_CFG.LEN b
    if s.on d R.PWM_BTb_CFG.EN b && s.rd d R.PWM_BTb_CFG.CH b == c.val && len != 0
        && (e == 0 || e == 3 || (e == 1 && level) || (e == 2 && !level)) then
      s.modPwm l fun p => { p with windows := upd p.windows b fun _ => some (x + 512 * (len : Int)) }
    else s

/-- The destinations of a channel follow a level at the edge instant (R200, R207, R209): the outgoing one goes off at
once, the incoming one on after the dead time; a single channel whose partner is commanded on, or is about to be after its dead
time, waits for it. -/
def State.follow (s : State) (l : Lane) (c : Fin 64) (level : Bool) : State :=
  let d := laneDie l
  if s.on d R.PWM_CHc_CFG.COMPL c then
    if level then (s.driveL l c false s.steps).driveH l c true (s.steps + deadTime (s.rd d R.PWM_CHc_DT.DT_RISE c))
    else (s.driveH l c false s.steps).driveL l c true (s.steps + deadTime (s.rd d R.PWM_CHc_DT.DT_FALL c))
  else if level then
    match s.partnerCh l c with
    | none => s.driveH l c true s.steps
    | some k =>
      if (s.ch l k).hi.isSome then s.modCh l c fun x => { x with waits := true }
      else s.driveH l c true s.steps
  else (s.modCh l c fun x => { x with waits := false }).chOff l c

/-- The level of a channel at instant `x`, with its last turn-on and the time at level 1 for the mirror compares (R217). -/
def State.setLevel (s : State) (l : Lane) (c : Fin 64) (level : Bool) (x : Int) : State :=
  (s.put (laneDie l) R.PWM_CHc_STATUS.LEVEL level c).modCh l c fun k =>
    { k with
      level := level
      lastOn := if level && !k.level then x else k.lastOn
      highFor := if !level && k.level then k.highFor + (x - k.lastOn) else k.highFor }

/-- An issued edge of a channel at instant `x`: its level, its blanking windows and its destinations. -/
def State.issue (s : State) (l : Lane) (c : Fin 64) (level : Bool) (x : Int) : State :=
  let s1 := ((s.advSteps x).setLevel l c level x).modCh l c fun k => { k with lastEdge := some x, released := false }
  (s1.openWindows l c level x).follow l c level

/-- `CFG_ERR` of a channel brought up to date (R201): with an error it drives its destinations off, and once the error is gone
they follow its level, unless a trip holds them or its next event is awaited. -/
def State.syncCfgErr (s : State) (l : Lane) (c : Fin 64) : State :=
  let d := laneDie l
  let e := s.cfgErr l c
  let was := s.on d R.PWM_CHc_STATUS.CFG_ERR c
  let s1 := s.put d R.PWM_CHc_STATUS.CFG_ERR e c
  let k := s1.ch l c
  if e then (if was then s1 else s1.chOff l c)
  else if was && s1.on d R.PWM_CHc_CFG.EN c && k.lastEdge.isSome && !k.released && !s1.on d R.PWM_CHc_STATUS.TRIPPED c then
    s1.follow l c k.level
  else s1

/-- `CFG_ERR` of every channel brought up to date. -/
def State.syncCfgErrs (s : State) (l : Lane) : State := s.each allCh fun s c => s.syncCfgErr l c

/-- A filter action of R208: `FILTERED` and its count. -/
def State.filtered (s : State) (l : Lane) (c : Fin 64) : State :=
  (s.set (laneDie l) R.PWM_CHc_STATUS.FILTERED c).inc (laneDie l) R.PWM_CHc_CNT.FILTERED c

/-- The minimum pulse of a channel in steps, as its last transfer point took it (R208, R221). -/
def State.minp (s : State) (l : Lane) (c : Fin 64) : Int := ((s.ch l c).minp : Int) * 512

/-- A report to the band slot of an engine-driven channel (R210). -/
def State.report (s : State) (l : Lane) (c : Fin 64) (r : EdgeReport) (x : Int) : State :=
  s.modCh l c fun k => { k with report := some (r, x) }

/-! ## Trips (R211 to R214) -/

/-- The trip group of a channel. -/
def State.tgOf (s : State) (l : Lane) (c : Fin 64) : Nat := s.rd (laneDie l) R.PWM_CHc_CFG.TG c

/-- A committed engine edge that will not come is reported dropped (R210, R212). -/
def State.dropEng (s : State) (l : Lane) (c : Fin 64) : State :=
  match (s.ch l c).eng with
  | some (x, _) => (s.modCh l c fun k => { k with eng := none }).report l c .dropped x
  | none => s

/-- A trip group takes a channel (R212): its turn-on no longer waits, its committed edge is dropped. -/
def State.tripMark (s : State) (l : Lane) (c : Fin 64) : State :=
  ((s.set (laneDie l) R.PWM_CHc_STATUS.TRIPPED c).modCh l c fun k => { k with waits := false }).dropEng l c

/-- The response of a trip group on a channel that it has taken (R212). -/
def State.tripAct (s : State) (l : Lane) (g : Nat) (c : Fin 64) : State :=
  let d := laneDie l
  if s.rd d R.PWM_TGg_CFG.ACTION g = 0 then s.chOff l c
  else if s.on d R.PWM_CHc_CFG.COMPL c then (s.setLevel l c false s.steps).follow l c false
  else if s.on d R.PWM_CHc_CFG.LOWSIDE c then s.follow l c true
  else s.chOff l c

/-- A trip group acts on one channel. -/
def State.tripCh (s : State) (l : Lane) (g : Nat) (c : Fin 64) : State := (s.tripMark l c).tripAct l g c

/-- The motor block holds a trip group off (R262). -/
def State.motHolds (s : State) (l : Lane) (g : Nat) : Bool := (s.run l).mot.toList.any fun x => x.own == some g

/-- A trip group becomes active (R211 to R213): it latches when it does not release cycle by cycle or is forced, acts on
every enabled channel that names it, and may interrupt and log. A hold of the motor block latches nothing (R262). -/
def State.raiseTg (s : State) (l : Lane) (g : Nat) (force : Bool := false) (hold : Bool := false) : State :=
  let d := laneDie l
  let newly := !s.rdBit d R.PWM_STATUS.TG_ACTIVE g
  let s1 := s.wrBit d R.PWM_STATUS.TG_ACTIVE g true
  let s2 := if force || (!hold && !s.on d R.PWM_TGg_CFG.RELEASE g) then s1.wrBit d R.PWM_TG_LATCHED.LATCHED g true else s1
  let s3 := if force then s2.wrBit d R.PWM_TG_LATCHED.FORCED g true else s2
  let cs := allCh.filter fun (c : Fin 64) => s.on d R.PWM_CHc_CFG.EN c && s.tgOf l c == g && !s.on d R.PWM_CHc_STATUS.TRIPPED c
  let s4 := (s3.each cs fun s c => s.tripMark l c).each cs fun s c => s.tripAct l g c
  if newly then
    ((s4.event l (.tripGroup g)).when (s4.on d R.PWM_TGg_CFG.IRQ_EN g) fun s =>
      s.irq l R.PWM_CTRL.TRIP_IRQ_EN).logIf l R.PWM_TGg_CFG.LOG_EN 212 g g
  else s4

/-- The register that shows a source's raw state. -/
def srcFld (src : Nat) : Fld := if src < 32 then R.PWM_TSRC_ACTIVE_LO.SRC else R.PWM_TSRC_ACTIVE_HI.SRC

/-- The register that latches a source that reached a group. -/
def hitFld (src : Nat) : Fld := if src < 32 then R.PWM_TSRC_HIT_LO.SRC else R.PWM_TSRC_HIT_HI.SRC

/-- A source is active. -/
def State.srcOn (s : State) (l : Lane) (src : Nat) : Bool := s.rdBit (laneDie l) (srcFld src) (src % 32)

/-- A blanking window masks a source (R215). -/
def State.masked (s : State) (l : Lane) (src : Nat) : Bool :=
  s.on (laneDie l) R.PWM_TSRCs_CFG.BLANK_EN src
    && ((s.run l).pwm.windows.toList.getD (s.rd (laneDie l) R.PWM_TSRCs_CFG.BT src) none).isSome

/-- An active source reaches its groups (R211). -/
def State.reach (s : State) (l : Lane) (src : Nat) : State :=
  let m := s.rd (laneDie l) R.PWM_TSRCs_CFG.MASK src
  if m = 0 then s
  else
    (s.wrBit (laneDie l) (hitFld src) (src % 32) true).each (List.range 16) fun s g =>
      s.when (bit m g) fun s => s.raiseTg l g

/-- A source of a group is active. -/
def State.groupSourced (s : State) (l : Lane) (g : Nat) : Bool :=
  (List.range 64).any fun k => s.srcOn l k && s.rdBit (laneDie l) R.PWM_TSRCs_CFG.MASK g k

/-- A group that releases cycle by cycle goes inactive once no source of it is active and no channel is held by it
(R213). -/
def State.settleTg (s : State) (l : Lane) (g : Nat) : State :=
  let d := laneDie l
  if s.rdBit d R.PWM_STATUS.TG_ACTIVE g && !s.rdBit d R.PWM_TG_LATCHED.LATCHED g && !s.groupSourced l g && !s.motHolds l g
      && !(allCh.any fun c => s.on d R.PWM_CHc_STATUS.TRIPPED c && s.tgOf l c == g) then
    s.wrBit d R.PWM_STATUS.TG_ACTIVE g false
  else s

/-- A trip source becomes active or inactive (R211, R215). Its raw state shows at once; it reaches groups from the end of
`ST11` on (R220). -/
def State.tripSource (s : State) (l : Lane) (src : Nat) (active : Bool) : State :=
  if s.alive l then
    let was := s.srcOn l src
    let s1 := s.wrBit (laneDie l) (srcFld src) (src % 32) active
    if !s.past l 11 then s1
    else if active then (if was || s1.masked l src then s1 else s1.reach l src)
    else if was then s1.each (List.range 16) fun s g => s.settleTg l g
    else s1
  else s

/-- Trips act from the end of `ST11` on (R220): a source that is active then reaches its groups, and the latched faults of the
heads and the half-bridges show (R211). -/
def State.tripsStart (s : State) (l : Lane) : State :=
  let s1 := s.each (List.range 8) fun s g => s.when ((List.finRange 40).any fun n =>
    (s.link n).cfg.en && (s.link n).cfg.group == g && (s.link n).causes != 0) fun s =>
      s.wrBit (laneDie l) (srcFld (40 + g)) ((40 + g) % 32) true
  let s2 := s1.each (List.range 16) fun s n => s.when (s.on (papDie l) R.PAP_HBn_STATUS.SHORT n || s.on (papDie l)
    R.PAP_HBn_STATUS.BST_UV n) fun s => s.wrBit (laneDie l) (srcFld (48 + n)) ((48 + n) % 32) true
  s2.each (List.range 64) fun s k => s.when (s.srcOn l k && !s.masked l k) fun s => s.reach l k

/-- The trip releases a channel (R214): a compare channel keeps its destinations off until its next event, an
engine-driven one returns to the level of its band slot. -/
def State.releaseCh (s : State) (l : Lane) (c : Fin 64) : State :=
  let d := laneDie l
  let s1 := s.clr d R.PWM_CHc_STATUS.TRIPPED c
  if s1.engineDriven l c then
    match s1.bandOf l c with
    | none => s1
    | some n =>
      let lv := s1.on d R.CE_Bn_STATUS.LEVEL n != s1.on d R.CE_Bn_CFG.POL n
      (s1.setLevel l c lv s1.steps).follow l c lv
  else (s1.chOff l c).modCh l c fun k => { k with released := true }

/-- The trip group of an enabled channel as its `TG` now names it (R212): an active one takes the channel, and a channel that
no active group names is released. -/
def State.retrip (s : State) (l : Lane) (c : Fin 64) : State :=
  let d := laneDie l
  let act := s.rdBit d R.PWM_STATUS.TG_ACTIVE (s.tgOf l c)
  if !s.on d R.PWM_CHc_CFG.EN c then s
  else if act then (if s.on d R.PWM_CHc_STATUS.TRIPPED c then s.tripAct l (s.tgOf l c) c else s.tripCh l (s.tgOf l c) c)
  else if s.on d R.PWM_CHc_STATUS.TRIPPED c then s.releaseCh l c
  else s

/-- A latched group cleared: every channel of it is released, unless the motor block holds it (R213, R214, R262). -/
def State.clearTg (s : State) (l : Lane) (g : Nat) : State :=
  let d := laneDie l
  let s0 := (s.wrBit d R.PWM_TG_LATCHED.LATCHED g false).wrBit d R.PWM_TG_LATCHED.FORCED g false
  let s1 := s0.wrBit d R.PWM_STATUS.TG_ACTIVE g false
  if s.motHolds l g then s0
  else s1.each allCh fun s c =>
    s.when (s.on d R.PWM_CHc_STATUS.TRIPPED c && s.tgOf l c == g) fun s => s.releaseCh l c

/-! ## Overlap events (R209) -/

/-- An overlap event on a channel and its partner: neither edge is issued; the third event of the leg within 1 ms raises
the trip groups of both. -/
def State.overlap (s : State) (l : Lane) (c k : Fin 64) : State :=
  let d := laneDie l
  let s1 := s.each [c, k] fun s x =>
    let s' := ((s.set d R.PWM_CHc_STATUS.OVERLAP x).inc d R.PWM_CHc_CNT.OVERLAP x).modCh l x fun h =>
      { h with overlaps := s.now :: (h.overlaps.filter fun t => s.now < t + ms) }
    if s.engineDriven l x then (s'.modCh l x fun h => { h with eng := none }).report l x .dropped s.steps
    else s'.modCh l x fun h => { h with onAt := none, late := h.late.filter fun e => !e.2 }
  let s2 := s1.irq l R.PWM_CTRL.OVL_IRQ_EN
  if 3 ≤ (s2.ch l c).overlaps.length then (s2.raiseTg l (s2.tgOf l c)).raiseTg l (s2.tgOf l k) else s2

/-- The turn-on that a channel is about to request: its committed engine edge, or its next on compare (R203, R210). -/
def State.request (s : State) (l : Lane) (k : Fin 64) : Option Int :=
  let h := s.ch l k
  if s.engineDriven l k then
    match h.eng with
    | some (y, true) => some y
    | _ => none
  else
    match h.late.find? fun e => e.2 with
    | some e => some e.1
    | none => h.onAt

/-- The partner of a single channel requests a turn-on in the same 5 ns cycle as the instant `x` while both are off (R209). A
tripped partner's event is suppressed and requests nothing (R212). -/
def State.simultaneous (s : State) (l : Lane) (c : Fin 64) (x : Int) : Option (Fin 64) :=
  match s.partnerCh l c with
  | none => none
  | some k =>
    let h := s.ch l k
    let same := match s.request l k with
      | some y => y / 512 == x / 512
      | none => false
    if same && h.started && !s.on (laneDie l) R.PWM_CHc_STATUS.TRIPPED k && !h.level && h.hi.isNone && (s.ch l c).hi.isNone then
      some k
    else none

/-! ## Transfer points (R198, R199, R203 to R206) -/

/-- The counts since count 0 of the present period, across a valley that is no transfer point. -/
def PwmTb.since (t : PwmTb) (x : Int) : Int := (x - t.start) / 512

/-- The counter position of a timebase at an instant (R198): up-down, the rising slope to `top`, the falling slope back, and
the rising slope after it. -/
def PwmTb.pos (t : PwmTb) (x : Int) : Nat :=
  let d := t.since x
  if t.updown then
    if d < t.top then d.toNat
    else if d < 2 * (t.top : Int) then (2 * (t.top : Int) - d).toNat
    else (d - 2 * (t.top : Int)).toNat
  else (d % max 1 (t.p : Int)).toNat

/-- An up-down timebase is on its falling slope at an instant (R198). -/
def PwmTb.falling (t : PwmTb) (x : Int) : Bool :=
  t.updown && decide ((t.top : Int) < t.since x) && decide (t.since x < 2 * (t.top : Int))

/-- The period of a timebase in steps (R198). -/
def PwmTb.period (t : PwmTb) : Int := if t.updown then 1024 * (t.p : Int) else 512 * (t.p : Int)

/-- Where a timebase transfers: at zero, at the peak (R198); counting up always at zero. -/
def State.reloadAt (s : State) (l : Lane) (t : Fin 8) : Bool × Bool :=
  if s.on (laneDie l) R.PWM_TBt_CFG.UPDOWN t then
    match s.rd (laneDie l) R.PWM_TBt_CFG.RELOAD t with
    | 1 => (false, true)
    | 2 => (true, true)
    | _ => (true, false)
  else (true, false)

/-- The next transfer point of a timebase on its rising slope, or on its falling one (R198). -/
def State.planPoint (s : State) (l : Lane) (t : Fin 8) (falling : Bool) (p : PwmTb) : PwmTb :=
  let r := s.reloadAt l t
  let valley := p.start + 1024 * (p.top : Int)
  if !p.updown then { p with next := some (p.start + 512 * (p.p : Int)), nextPeak := false }
  else if falling then
    if r.1 then { p with next := some valley, nextPeak := false }
    else { p with next := some (valley + 512 * (p.p : Int)), nextPeak := true }
  else if r.2 then { p with next := some (p.start + 512 * (p.top : Int)), nextPeak := true }
  else { p with next := some valley, nextPeak := false }

/-- A timebase that reaches a peak across a valley without a transfer point: its period began at that valley (R198). -/
def PwmTb.arrive (p : PwmTb) (x : Int) : PwmTb :=
  if p.nextPeak && x != p.start + 512 * (p.top : Int) then { p with start := x - 512 * (p.p : Int), top := p.p } else p

/-- The timebase moved on from its transfer point at instant `x`, with its active period as it now is (R198). A change of
`UPDOWN` acts from the next zero on (DESIGN CHOICE, log entry 47). -/
def State.nextPoint (s : State) (l : Lane) (t : Fin 8) (x : Int) : State :=
  let ud := s.on (laneDie l) R.PWM_TBt_CFG.UPDOWN t
  s.modTb l t fun p =>
    if p.nextPeak then s.planPoint l t true p
    else s.planPoint l t false { p with start := x, top := p.p, updown := ud }

/-- A compare beyond its period (R206). -/
def beyond (updown : Bool) (p v : Nat) : Bool := if updown then decide (p * 512 < v) else decide (p * 512 ≤ v)

/-- A compare as R206 lets it act: none for a value without an edge, the last step of the period with `CLAMP_LIMIT`. -/
def clampCmp (updown lim : Bool) (p v : Nat) : Option Nat :=
  if beyond updown p v then (if lim then some (if updown then p * 512 else p * 512 - 1) else none) else some v

/-- The compares of a channel at a transfer point: its active set, or those that its slot supplies (R203). -/
def State.compares (s : State) (l : Lane) (t : Fin 8) (c : Fin 64) : (Nat × Nat) × State :=
  let d := laneDie l
  let k := s.ch l c
  if s.on d R.PWM_CHc_FILT.SLOT_EN c then
    let y := clampI 0 (2 ^ 30) (s.rdS d R.CE_Ai_OUT.Y (s.rd d R.PWM_CHc_FILT.SLOT c))
    let span : Int := ((s.tb l t).p : Int) * 512
    if (s.tb l t).updown then
      let pr1 := s.roundQ ((2 ^ 30 - y) * span) (2 ^ 30)
      let v := pr1.1
      let s1 := pr1.2
      ((v.toNat, v.toNat), s1)
    else
      let pr2 := s.roundQ (y * span) (2 ^ 30)
      let v := pr2.1
      let s1 := pr2.2
      ((k.on, k.on + v.toNat), s1)
  else ((k.on, k.off), s)

/-- `CLAMPED` and its count for one value beyond the period (R206). -/
def State.clamped (s : State) (l : Lane) (c : Fin 64) : State :=
  ((s.set (laneDie l) R.PWM_CHc_STATUS.CLAMPED c).inc (laneDie l) R.PWM_CHc_CNT.CLAMPED c).irq l R.PWM_CTRL.CLAMP_IRQ_EN

/-- Some compare values of a channel checked against the period of its timebase (R206). -/
def State.checkCmps (s : State) (l : Lane) (t : Fin 8) (c : Fin 64) (vs : List Nat) : State :=
  s.each vs fun s v => s.when (beyond (s.tb l t).updown (s.tb l t).p v) fun s => s.clamped l c

/-- The instants at which a channel's compares act up to the next transfer point, from a zero or (`peak`) from the peak; `one`
says that the next transfer point ends the slope. The fine part of the phase delays every edge (R199, R203). Of two events at
one instant the one to level 0 prevails; a value above the falling slope's peak makes no edge on it. -/
def PwmTb.edges (p : PwmTb) (peak one : Bool) (on off : Option Nat) : Option Int × Option Int :=
  let fine : Int := (p.used % 512 : Nat)
  let top : Int := 512 * (p.top : Int)
  let e : Option Int × Option Int :=
    if p.updown then
      let rise := fun (z : Int) => on.map fun v => z + v + fine
      let fall := (off.filter fun v => decide (v ≤ 512 * p.top)).map fun v => p.start + 2 * top - v + fine
      if peak then (if one then none else rise (p.start + 2 * top), fall)
      else (rise p.start, if one then none else fall)
    else (on.map fun v => p.start + v + fine, off.map fun v => p.start + v + fine)
  if e.1.isSome ∧ e.1 = e.2 then (none, e.2) else e

/-- The pulse inside a period that is shorter than the minimum (R208): both edges omitted, or the ending edge moved; and
whether there is one. `lv` is the level before. -/
def shapePulse (m : Int) (stretch lv : Bool) (e : Option Int × Option Int) : (Option Int × Option Int) × Bool :=
  match e with
  | (some a, some b) =>
    if lv then
      if b < a ∧ a - b < m then ((if stretch then (some (b + m), some b) else (none, none)), true) else (e, false)
    else
      if a < b ∧ b - a < m then ((if stretch then (some a, some (a + m)) else (none, none)), true) else (e, false)
  | _ => (e, false)

/-- The events of a channel that its fine phase or its minimum pulse carries past a transfer point at instant `x` (R197,
R208). -/
def PwmCh.carried (k : PwmCh) (x : Int) : List (Int × Bool) :=
  (k.late ++ (k.onAt.toList.map fun y => (y, true)) ++ (k.offAt.toList.map fun y => (y, false))).filter fun e => decide (x ≤ e.1)

/-- The events of a channel placed from its compares in force, for the slope on which the timebase stands (R203, R208); and
whether the minimum pulse acted. An event to level 0 that ends a falling slope at the instant of the next on event makes no
edge. -/
def State.placeEvents (s : State) (l : Lane) (t : Fin 8) (peak : Bool) (c : Fin 64) : State × Bool :=
  let d := laneDie l
  let p := s.tb l t
  let k := s.ch l c
  let lim := s.on d R.PWM_CHc_FILT.CLAMP_LIMIT c
  let r := s.reloadAt l t
  let one := if peak then r.1 else r.2
  let e := p.edges peak one (clampCmp p.updown lim p.p k.useOn) (clampCmp p.updown lim p.p k.useOff)
  let lv := match k.late.getLast? with
    | some x => x.2
    | none => k.level && !k.released
  let q := shapePulse (s.minp l c) (s.on d R.PWM_CHc_FILT.STRETCH c) lv e
  (s.modCh l c fun k =>
    { k with onAt := q.1.1, offAt := q.1.2, late := k.late.filter fun e => e.2 || q.1.1 != some e.1 }, q.2)

/-- A channel at a transfer point of its timebase (R202, R203, R206, R208): it starts when enabled, takes its minimum pulse, and
under compare control places its events. -/
def State.placeCh (s : State) (l : Lane) (t : Fin 8) (peak : Bool) (x : Int) (c : Fin 64) : State :=
  let d := laneDie l
  if s.on d R.PWM_CHc_CFG.EN c && s.tbOf l c == t then
    let eng := s.engineDriven l c
    let s0 := s.modCh l c fun k =>
      { k with started := true, minp := s.rd d R.PWM_CHc_FILT.MINP c, late := if eng then [] else k.carried x,
               onAt := none, offAt := none }
    if eng then s0
    else
      let pr3 := s0.compares l t c
      let on := pr3.1.1
      let off := pr3.1.2
      let s1 := pr3.2.modCh l c fun k => { k with useOn := on, useOff := off }
      let s2 := s1.when (s.on d R.PWM_CHc_FILT.SLOT_EN c) fun s =>
        s.checkCmps l t c (if (s.tb l t).updown then [on, off] else [off])
      let r := s2.placeEvents l t peak c
      if r.2 then r.1.filtered l c else r.1
  else s

/-- The mirror compares of an engine-driven channel at the end of a period (R217): the position of its last turn-on, and `ON`
+ d x P x 512, modulo the period, d being the time at level 1 divided by the period; none where it held one level throughout.
-/
def State.mirrorCh (s : State) (l : Lane) (t : Fin 8) (x : Int) (c : Fin 64) : State :=
  if s.on (laneDie l) R.PWM_CHc_CFG.EN c && s.engineDriven l c && s.tbOf l c == t then
    let p := s.tb l t
    let per := max 1 p.period
    let k := s.ch l c
    let high := k.highFor + (if k.level then x - max k.lastOn (x - per) else 0)
    let pr := s.roundQ (high * (p.p : Int) * 512) per
    let on := ((k.lastOn - p.start - (p.used % 512 : Nat)) % per).toNat
    let flat := decide (high ≤ 0) || decide (per ≤ high)
    (if flat then s else pr.2).modCh l c fun k =>
      { k with
        mirrorOn := if flat then none else some on
        mirrorOff := if flat then none else some (((on : Int) + pr.1) % per).toNat
        highFor := if k.level then -(x - max k.lastOn (x - per)) else 0 }
  else s

/-- The report of R217 to the multiplexer from the granted lane at a transfer point of a shared timebase: the compares in
force of a compare channel, the mirror compares of an engine-driven one. Count 0 is reported so that the falling slope of the
active period ends where the present one does. -/
def State.muxReport (s : State) (l : Lane) (t : Fin 8) : State :=
  let d := laneDie l
  if s.granted l && s.shared l t then
    let p := s.tb l t
    let start := if p.updown then p.start + 1024 * ((p.top : Int) - p.p) else p.start
    let chs := allCh.foldl (fun v (c : Fin 64) =>
      if s.on d R.PWM_CHc_CFG.EN c && s.tbOf l c == t then
        let k := s.ch l c
        let eng := s.engineDriven l c
        upd v c fun old => some
          { tb := t.val, compl := s.on d R.PWM_CHc_CFG.COMPL c, dstH := s.rd d R.PWM_CHc_DST.DST_H c,
            dstL := s.rd d R.PWM_CHc_DST.DST_L c, on := if eng then k.mirrorOn else some k.useOn,
            off := if eng then k.mirrorOff else some k.useOff, dtRise := s.rd d R.PWM_CHc_DT.DT_RISE c,
            dtFall := s.rd d R.PWM_CHc_DT.DT_FALL c, level := k.level, lastEdge := k.lastEdge,
            driving := match old with
              | some m => m.driving
              | none => false }
      else v) s.mux.chs
    { s with mux :=
      { tbs := upd s.mux.tbs t fun _ => some { updown := p.updown, period := p.p, phase := p.used, start := start },
        chs := chs } }
  else s

/-! ## Event outputs (R216) -/

/-- The instants from `x` to the next transfer point at which a timebase's counter equals `point` on the slopes that `slope`
selects. The turning points belong to both slopes (DEDUCED, log entry 47). -/
def PwmTb.crossings (p : PwmTb) (slope point : Nat) (x : Int) : List Int :=
  let v : Int := 512 * (point : Int)
  let top : Int := 512 * (p.top : Int)
  let stop := p.next.getD x
  let rise := fun (z lim : Int) => if v ≤ lim ∧ x ≤ z + v ∧ z + v < stop then [z + v] else []
  if p.updown then
    let fall := if v ≤ top ∧ x < p.start + 2 * top - v ∧ p.start + 2 * top - v ≤ stop then [p.start + 2 * top - v] else []
    let up := slope != 1
    let down := slope == 1 || (slope != 0 && point != 0)
    ((if up then rise p.start top else []) ++ (if down then fall else [])
      ++ (if up then rise (p.start + 2 * top) (512 * (p.p : Int)) else [])).eraseDups
  else if slope = 1 ∨ p.p ≤ point then [] else rise p.start (512 * (p.p : Int))

/-- The event outputs of a timebase planned from instant `x` up to its next transfer point; `keep` says that those still due
stay. -/
def State.planEvents (s : State) (l : Lane) (t : Fin 8) (x : Int) (keep : Bool) : State :=
  let d := laneDie l
  s.each (List.finRange 8) fun s k =>
    if s.rd d R.PWM_EVk_CFG.TB k == t.val then
      let new := if s.on d R.PWM_EVk_CFG.EN k && s.on d R.PWM_TBt_STATUS.RUN t then
          (s.tb l t).crossings (s.rd d R.PWM_EVk_CFG.SLOPE k) (s.rd d R.PWM_EVk_CFG.POINT k) x
        else []
      s.modPwm l fun p => { p with evs := upd p.evs k fun old => ((if keep then old else []) ++ new).eraseDups }
    else s

/-- The next due instant of an event output comes: the event reaches the converter triggers (R216). -/
def State.fireEv (s : State) (l : Lane) (k : Fin 8) : State :=
  match (s.run l).pwm.evs[k] with
  | y :: rest => ((s.advSteps y).modPwm l fun p => { p with evs := upd p.evs k fun _ => rest }).event l (.evOut k.val)
  | [] => s

/-- The event outputs of a timebase that are due before instant `x` (R216). -/
def State.fireDue (s : State) (l : Lane) (t : Fin 8) (x : Int) : State :=
  s.each (List.finRange 8) fun s k =>
    if s.rd (laneDie l) R.PWM_EVk_CFG.TB k == t.val then
      s.each ((s.run l).pwm.evs[k].filter fun y => decide (y < x)) fun s _ => s.fireEv l k
    else s

/-! ## The set, the start and the loads of a timebase -/

/-- The shadow set of a timebase becomes active (R204), and every compare value of it is checked (R206). A period below 2 acts
as 2. The phase of a timebase that takes its phase from a slot stays the slot's (R199). -/
def State.transferSet (s : State) (l : Lane) (t : Fin 8) : State :=
  let d := laneDie l
  let p := max 2 (s.rd d R.PWM_TBt_PERIOD.P t)
  let ph := s.rd d R.PWM_TBt_PHASE.PHASE t
  let slot := s.on d R.PWM_TBt_CFG.PHASE_SLOT_EN t
  let s1 := (s.modTb l t fun b => { b with p := p, phase := ph, used := if slot then b.used else ph }).wr d R.PWM_TBt_ACTIVE.P p t
  let s2 := s1.each allCh fun s c =>
    if s.tbOf l c == t then
      let on := s.rd d R.PWM_CHc_ON.ON c
      let off := s.rd d R.PWM_CHc_OFF.OFF c
      (s.modCh l c fun k => { k with on := on, off := off }).checkCmps l t c [on, off]
    else s
  ((s2.clr d R.PWM_TBt_STATUS.DIRTY t).clr d R.PWM_TBt_STATUS.COMMIT_PEND t).inc d R.PWM_TBt_CNT.TRANSFERS t

/-- A timebase starts counting from 0 (R199, R220); its channels start at its next transfer point (R202). -/
def State.startTb (s : State) (l : Lane) (t : Fin 8) : State :=
  let d := laneDie l
  let ud := s.on d R.PWM_TBt_CFG.UPDOWN t
  let s0 := s.modTb l t fun p => { p with updown := ud, sent := 0 }
  let s1 := (s0.transferSet l t).modTb l t fun p => s.planPoint l t false { p with start := s.steps, top := p.p }
  ((s1.set d R.PWM_TBt_STATUS.RUN t).wr d R.PWM_TBt_CNT.TRANSFERS (s.rd d R.PWM_TBt_CNT.TRANSFERS t) t).planEvents l t s.steps false

/-- A timebase stopped: its counter stands and its channels get no transfer point. -/
def State.stopTb (s : State) (l : Lane) (t : Fin 8) : State :=
  ((s.modTb l t fun p => { p with next := none }).clr (laneDie l) R.PWM_TBt_STATUS.RUN t).planEvents l t s.steps false

/-- A channel of a shared timebase that its granted lane enables after the alignment, and which the multiplexer does not drive,
is the lane's own at once (DEDUCED, R219, log entry 47). -/
def State.takenAtOnce (s : State) (l : Lane) (c : Fin 64) : Bool :=
  s.granted l && s.shared l (s.tbOf l c) && s.rdBit (laneDie l) R.PWM_GRANT.ALIGNED (s.tbOf l c)
    && (match s.mux.chs[c] with
      | some m => !m.driving
      | none => true)

/-- A channel enabled or disabled (R202): it starts at the next transfer point with both destinations off until its
first edge; disabled, both go off. -/
def State.enableCh (s : State) (l : Lane) (c : Fin 64) (en : Bool) : State :=
  let d := laneDie l
  let s0 := (s.dropEng l c).chOff l c
  let s1 := ((s0.put d R.PWM_CHc_CFG.EN en c).modCh l c fun k =>
    { k with started := false, onAt := none, offAt := none, late := [], waits := false, level := false,
             released := false }).clr d R.PWM_CHc_STATUS.LEVEL c
  let s2 := s1.clr d R.PWM_CHc_STATUS.TRIPPED c
  let s3 := s2.when (en && s2.rdBit d R.PWM_STATUS.TG_ACTIVE (s2.tgOf l c)) fun s => s.tripCh l (s.tgOf l c) c
  let s4 := s3.when (en && s3.takenAtOnce l c) fun s => s.set d R.PWM_CHc_STATUS.TAKEN c
  s4.syncCfgErrs l

/-- The events of a timebase's channels placed again for its present slope: those that now lie ahead act, those behind do not.
-/
def State.replaceTb (s : State) (l : Lane) (t : Fin 8) : State :=
  let falling := (s.tb l t).falling s.steps
  let ahead := fun (e : Option Int) => e.filter fun y => decide (s.steps ≤ y)
  s.each allCh fun s c =>
    if s.tbOf l c == t && (s.ch l c).started && !s.engineDriven l c then
      ((s.placeEvents l t falling c).1).modCh l c fun k => { k with onAt := ahead k.onAt, offAt := ahead k.offAt }
    else s

/-- A counter of a timebase moved to `pos` counts at the present instant, on its falling slope where `falling` says so (R199,
R218): no reload and no event for the points that it skips; the events of the active set that now lie ahead act, those behind do
not. -/
def State.loadTb (s : State) (l : Lane) (t : Fin 8) (pos : Nat) (falling : Bool) : State :=
  let counts : Int := if falling then 2 * ((s.tb l t).p : Int) - pos else pos
  let s1 := s.modTb l t fun p => s.planPoint l t falling { p with start := s.steps - 512 * counts, top := p.p }
  (s1.replaceTb l t).planEvents l t s.steps false

end Sys2Proof.Machine
end

