-- ==== Sys2Proof/Machine/CeOps.lean ====
section
/-!
DEFINITION. The control engine's sources and the trace buffers (R173, R174, R191 to R194), which every producer of a
value reaches.
-/
namespace Sys2Proof.Machine

/-! ## Band slots -/

/-- A band slot. -/
def State.band (s : State) (l : Lane) (n : Fin 32) : BandSt := (s.run l).ce.bands[n]

/-- A band slot changed by `f`. -/
def State.modBand (s : State) (l : Lane) (n : Fin 32) (f : BandSt → BandSt) : State :=
  s.modCe l fun c => { c with bands := upd c.bands n f }

/-- The states of `CE_Bn_STATUS.STATE`. -/
def bandOff : Nat := 0
/-- `SETTLE`. -/
def bandSettle : Nat := 1
/-- `TRACK`. -/
def bandTrack : Nat := 2
/-- `PENDING`. -/
def bandPending : Nat := 3
/-- `ERR`. -/
def bandErr : Nat := 4

/-- A slot enters `SETTLE` with its estimator emptied (R179). -/
def State.toSettle (s : State) (l : Lane) (n : Fin 32) : State :=
  (s.modBand l n fun b => { b with win := [], since := 0, edge := none, predOk := false }).wr (laneDie l)
    R.CE_Bn_STATUS.STATE bandSettle n

/-- A number of a band slot as an index. -/
def bandIdx (n : Nat) : Fin 32 := ⟨n % 32, Nat.mod_lt _ (by decide)⟩

/-- A channel's level as its slot's L (R178). -/
def State.bandL (s : State) (l : Lane) (n : Fin 32) (level : Bool) : Bool :=
  level != s.on (laneDie l) R.CE_Bn_CFG.POL n

/-- The held level that a slot takes over with the grant: a different L moves it to `SETTLE` (R184, R219). -/
def State.bandTake (s : State) (l : Lane) (n : Fin 32) (level : Bool) : State :=
  let lv := s.bandL l n level
  if s.on (laneDie l) R.CE_Bn_STATUS.LEVEL n == lv then s
  else
    let s1 := s.put (laneDie l) R.CE_Bn_STATUS.LEVEL lv n
    if s1.rd (laneDie l) R.CE_Bn_STATUS.STATE n = bandOff then s1 else s1.toSettle l n

/-- A slot works in signal mode: as configured, or as the motor block holds it (R178, R257). -/
def State.bandSig (s : State) (l : Lane) (n : Fin 32) : Bool :=
  (s.band l n).ovr.isSome || s.on (laneDie l) R.CE_Bn_CFG.SIG n

/-- The source a slot measures in signal mode (R178, R257). -/
def State.bandMeas (s : State) (l : Lane) (n : Fin 32) : Nat :=
  match (s.band l n).ovr with
  | some (c, _) => c
  | none => s.rd (laneDie l) R.CE_Bn_SRC.MEAS n

/-- The reference source of a slot (R178, R257). -/
def State.bandRef (s : State) (l : Lane) (n : Fin 32) : Nat :=
  if (s.band l n).ovr.isSome then 0 else s.rd (laneDie l) R.CE_Bn_SRC.REF n

/-- Whether a slot's error wraps as an angle (R178, R257). -/
def State.bandAngle (s : State) (l : Lane) (n : Fin 32) : Bool :=
  match (s.band l n).ovr with
  | some (_, a) => a
  | none => s.on (laneDie l) R.CE_Bn_CFG.ANGLE n

/-! ## Traces -/

/-- A trace buffer changed by `f`; its state, oldest record and count show in its registers (R193, R196). -/
def State.modTrc (s : State) (l : Lane) (b : Fin 8) (f : TrcBuf → TrcBuf) : State :=
  let d := laneDie l
  let s1 := s.modCe l fun c => { c with trc := upd c.trc b f }
  let x := s1.trc l b
  let cap := if s1.on d R.TRC_Bb_CFG.STAMP b then 4096 else 8192
  let old := s1.rd d R.TRC_STATUS.STATE
  let w := old - bits old (3 * b.val + 2) (3 * b.val) * 2 ^ (3 * b.val) + x.phase % 8 * 2 ^ (3 * b.val)
  ((s1.wr d R.TRC_STATUS.STATE w).wr d R.TRC_Bb_INFO.FIRST ((x.next + cap - x.kept) % cap) b).wr d
    R.TRC_Bb_INFO.ENTRIES x.kept b

/-- The capacity R of a buffer in records (R191). -/
def State.trcCap (s : State) (l : Lane) (b : Nat) : Nat := if s.on (laneDie l) R.TRC_Bb_CFG.STAMP b then 4096 else 8192

/-- P: round(R `PRE` / 100) (R193); `PRE` above 100 acts as 100. -/
def State.trcPre (s : State) (l : Lane) (b : Nat) : Nat :=
  (2 * s.trcCap l b * min 100 (s.rd (laneDie l) R.TRC_Bb_CFG.PRE b) + 100) / 200

/-- The place of a word of trace memory in a lane's tables (R191). -/
def trcKey (b i : Nat) : Nat := 0x31000000 / 4 + b * 8192 + i

/-- A table window word stored. -/
def State.putWord (s : State) (l : Lane) (key v : Nat) : State :=
  s.modRun l fun r => { r with tables := sput 0 key (low 32 v) r.tables }

/-- A record stored in a buffer. -/
def State.trcStore (s : State) (l : Lane) (b : Fin 8) (v : Nat) : State :=
  let x := s.trc l b
  let cap := s.trcCap l b
  let s1 := if s.on (laneDie l) R.TRC_Bb_CFG.STAMP b then
      (s.putWord l (trcKey b (2 * x.next)) v).putWord l (trcKey b (2 * x.next + 1)) (s.laneTime l)
    else s.putWord l (trcKey b x.next) v
  let kept := min cap (x.kept + 1)
  s1.modTrc l b fun y =>
    { y with next := (x.next + 1) % cap, kept := kept, post := if x.phase = trcPost then x.post + 1 else x.post,
             phase := if x.phase = trcFill ∧ s.trcPre l b ≤ kept then trcReady else x.phase }

/-- A level trigger of R192: `KIND` 1 takes a rise to `LEVEL` or above, 2 the reverse, 3 either. -/
def levelCrossed (kind : Nat) (level old new : Int) : Bool :=
  let rise := decide (old < level) && decide (level ≤ new)
  let fall := decide (level ≤ old) && decide (new < level)
  match kind with
  | 1 => rise | 2 => fall | 3 => rise || fall | _ => false

/-- An update of a source at the buffers whose level trigger watches it (R192). -/
def State.traceLevel (s : State) (l : Lane) (code : Nat) (v : Int) : State :=
  s.each (List.finRange 8) fun s b =>
    let d := laneDie l
    let k := s.rd d R.TRC_Bb_TRIG.KIND b
    s.when (decide (1 ≤ k) && decide (k ≤ 3) && s.rd d R.TRC_Bb_TRIG.TSRC b == code) fun s =>
      let hit := match (s.trc l b).last with
        | some old => levelCrossed k (s.rdS d R.TRC_Bb_LEVEL.LEVEL b) old v
        | none => false
      (s.modCe l fun c => { c with trc := upd c.trc b fun x => { x with last := some v } }).when hit fun s => s.trcSend l b

/-- An update of a probe with a 32-bit value: every buffer that records it stores each `DIV`-th update, up to R - P
records after its trigger (R191, R193). -/
def State.traceUpdate (s : State) (l : Lane) (probe v : Nat) : State :=
  s.each (List.finRange 8) fun s b =>
    let d := laneDie l
    let x := s.trc l b
    if s.rd d R.TRC_Bb_CFG.PROBE b == probe
        && (x.phase == trcFill || x.phase == trcReady
          || (x.phase == trcPost && decide (x.post < s.trcCap l b - s.trcPre l b))) then
      if orOne (s.rd d R.TRC_Bb_CFG.DIV b) ≤ x.div + 1 then
        (s.modTrc l b fun y => { y with div := 0 }).trcStore l b v
      else s.modTrc l b fun y => { y with div := x.div + 1 }
    else s

/-! ## Sources (R173, R174) -/

/-- An update of a source at the band slots that measure it in signal mode (R178). -/
def State.bandUpdate (s : State) (l : Lane) (code : Nat) : State :=
  s.each (List.finRange 32) fun s n =>
    s.when (s.rd (laneDie l) R.CE_Bn_STATUS.STATE n != bandOff && s.bandSig l n && s.bandMeas l n == code) fun s =>
      s.modBand l n fun b => { b with due := b.due ++ [(0, 0)] }

/-- A source's new value reaches the engine, the traces with their level triggers, and the band slots that measure it; a value
that its producer marks invalid leaves the last valid one to the engine (R174). -/
def State.ceSource (s : State) (l : Lane) (code : Nat) (v : Int) (valid : Bool := true) : State :=
  ((((s.when valid fun s => s.modCe l fun c => { c with src := sput 0 code v c.src }).traceUpdate l code (ux 32 v)).traceLevel
    l code v).bandUpdate l code)

/-- A source code that R173 assigns. -/
def srcAssigned (c : Nat) : Bool :=
  decide (c ≤ 0x18) || (decide (0x20 ≤ c) && decide (c ≤ 0x8B)) || (decide (0x90 ≤ c) && decide (c ≤ 0x9F))
    || (decide (0xB0 ≤ c) && decide (c ≤ 0xBF))

/-- The producer of a source marks it valid (R174). -/
def State.srcValid (s : State) (l : Lane) (c : Nat) : Bool :=
  let d := laneDie l
  if 0x80 ≤ c ∧ c ≤ 0x8B then s.on d R.SDF_Fn_STATUS.VALID (c - 0x80)
  else if c = 0x90 ∨ c = 0x92 then s.on d R.POS_RESn_STATUS.VALID 0
  else if c = 0x91 ∨ c = 0x93 then s.on d R.POS_RESn_STATUS.VALID 1
  else if 0x94 ≤ c ∧ c ≤ 0x99 then s.on d R.POS_PTp_STATUS.VALID (c - 0x94)
  else if 0x9A ≤ c ∧ c ≤ 0x9F then s.on d R.POS_PTp_STATUS.VALID (c - 0x9A)
  else srcAssigned c

/-- The value a slot reads from a source: its last valid value; a reserved code reads zero (R173, R174). -/
def State.srcVal (s : State) (l : Lane) (c : Nat) : Int := if srcAssigned c then sget 0 c (s.run l).ce.src else 0

end Sys2Proof.Machine
end

