-- ==== Sys2Proof/Machine/AdcOps.lean ====
section
/-!
DEFINITION. The converters and sigma-delta filters of a lane (chapter 05): channel corrections with their moves and
envelopes, the correction chain, the result queues, the short detectors that take converter results (R242).
-/
namespace Sys2Proof.Machine

/-- A sigma-delta filter changed by `f`. -/
def State.modSdf (s : State) (l : Lane) (n : Fin 12) (f : SdfSt → SdfSt) : State :=
  s.modRun l fun r => { r with sdf := upd r.sdf n f }

/-! ## Channel corrections: 0 to 63 converter channels, 64 to 75 sigma-delta filters (R135, R136, R146) -/

/-- The correction registers of a channel or filter, and its instance. -/
structure CorrRegs where
  gain : Fld
  offset : Fld
  aGain : Fld
  aOffset : Fld
  state : Fld
  moving : Fld
  bound : Fld
  i : Nat
deriving DecidableEq, Repr

/-- The correction registers of channel or filter `k`. -/
def corrRegs (k : Nat) : CorrRegs :=
  if k < 64 then
    { gain := R.ADC_CHc_CORR.GAIN, offset := R.ADC_CHc_CORR.OFFSET, aGain := R.ADC_CHc_APPLIED.GAIN,
      aOffset := R.ADC_CHc_APPLIED.OFFSET, state := R.ADC_CHc_ENV.STATE, moving := R.ADC_CHc_ENV.MOVING,
      bound := R.ADC_CHc_ENV.BOUND, i := k }
  else
    { gain := R.SDF_Fn_CORR.GAIN, offset := R.SDF_Fn_CORR.OFFSET, aGain := R.SDF_Fn_APPLIED.GAIN,
      aOffset := R.SDF_Fn_APPLIED.OFFSET, state := R.SDF_Fn_ENV.STATE, moving := R.SDF_Fn_ENV.MOVING,
      bound := R.SDF_Fn_ENV.BOUND, i := k - 64 }

/-- A filter number as an index. -/
def sdfIdx (n : Nat) : Fin 12 := ⟨n % 12, Nat.mod_lt _ (by decide)⟩

/-- The correction of a channel or filter. -/
def State.corr (s : State) (l : Lane) (k : Nat) : Corr :=
  if k < 64 then (s.run l).adc.chans[chIdx k] else (s.run l).sdf[sdfIdx (k - 64)].corr

/-- The correction of a channel or filter changed by `f`. -/
def State.modCorr (s : State) (l : Lane) (k : Nat) (f : Corr → Corr) : State :=
  if k < 64 then s.modAdc l fun a => { a with chans := upd a.chans (chIdx k) f }
  else s.modSdf l (sdfIdx (k - 64)) fun x => { x with corr := f x.corr }

/-- The codes of `ADC_CHc_ENV.STATE`. -/
def envNone : Nat := 0
/-- `INSIDE`. -/
def envInside : Nat := 1
/-- `OUTSIDE`. -/
def envOutside : Nat := 2
/-- `FALLBACK`. -/
def envFallback : Nat := 3

/-- A 16-bit factory value of a lane: kind 0 channel gain, 1 channel offset, 2 channel bound, 3 slice offset, 4 slice
gain, 5 slice skew (R132, R136). -/
def factory (l : Lane) (kind k : Nat) : Nat := low 16 (Config.otp l.idx (kind * 256 + k))

/-- The target coefficients of a channel in a state (R136). -/
def State.targetOf (s : State) (l : Lane) (k env : Nat) : Int × Int :=
  let r := corrRegs k
  let d := laneDie l
  if env = envNone then (s.rdS d r.gain r.i, s.rdS d r.offset r.i)
  else if env = envFallback then (sx 16 (factory l 0 k), sx 16 (factory l 1 k))
  else match (s.corr l k).record with
    | some x => (sx 16 x.gain, sx 16 x.offset)
    | none => (sx 16 (factory l 0 k), sx 16 (factory l 1 k))

/-- A correction target changes (R135): 64 steps from the values now applied; the bound is the larger of the old state's
and the new state's. -/
def State.startMove (s : State) (l : Lane) (k env newBound : Nat) : State :=
  let r := corrRegs k
  let d := laneDie l
  let t := s.targetOf l k env
  let old := s.rd d r.bound r.i
  let mv : CoefMove :=
    { fromG := s.rdS d r.aGain r.i, fromO := s.rdS d r.aOffset r.i, toG := t.1, toO := t.2, k := 0,
      oldBound := old, newBound := newBound }
  (((s.modCorr l k fun c => { c with move := some mv }).wr d r.state env r.i).set d r.moving r.i).wrSat d r.bound
    (max old newBound) r.i

/-- One of the 64 steps of a move (R135). The spec states no rounding of a step: log entry 7. -/
def State.moveStep (s : State) (l : Lane) (k : Nat) : State :=
  let r := corrRegs k
  let d := laneDie l
  match (s.corr l k).move with
  | none => s
  | some m =>
    let j := m.k + 1
    let pr1 := s.quot (64 * m.fromG + (m.toG - m.fromG) * j) 64
    let g := pr1.1
    let s1 := pr1.2
    let pr2 := s1.quot (64 * m.fromO + (m.toO - m.fromO) * j) 64
    let o := pr2.1
    let s2 := pr2.2
    let s3 := (s2.wrS d r.aGain g r.i).wrS d r.aOffset o r.i
    if 64 ≤ j then
      ((s3.modCorr l k fun c => { c with move := none }).clr d r.moving r.i).wrSat d r.bound m.newBound r.i
    else s3.modCorr l k fun c => { c with move := some { m with k := j } }

/-- A firmware write of a correction (R136): it detaches the channel from its record, sets `NONE` and starts the move. -/
def State.corrWrite (s : State) (l : Lane) (k gain offset : Nat) : State :=
  let r := corrRegs k
  let d := laneDie l
  let s1 := (s.wr d r.gain gain r.i).wr d r.offset offset r.i
  (s1.modCorr l k fun c => { c with record := none }).startMove l k envNone (factory l 2 k)

/-! ## Envelopes (R137) -/

/-- The distance and the width of a quantity against its band. -/
def bandDist (v : Int) (b : Int × Int) : Int × Int := (max 0 (max (b.1 - v) (v - b.2)), b.2 - b.1)

/-- The quantity lies at least 0.02 of the band's width inside its band. -/
def wellInside (v : Int) (b : Int × Int) : Bool :=
  decide (b.2 - b.1 ≤ 50 * (v - b.1)) && decide (b.2 - b.1 ≤ 50 * (b.2 - v))

/-- The larger of two ratios of a distance to a width. -/
def maxRatio (a b : Int × Int) : Int × Int := if a.1 * b.2 < b.1 * a.2 then b else a

/-- The three present values of R137: current, temperature, and the DC-link voltage in 0.1 V times 2^30. -/
def State.envValues (s : State) (l : Lane) : Int × Int × Int :=
  let d := laneDie l
  let y := s.rdS d R.CE_Ai_OUT.Y (s.rd d R.ADC_ENV_SRC.CUR_SLOT)
  let v := s.rdS d R.CE_Ai_OUT.Y (s.rd d R.ADC_ENV_SRC.VDC_SLOT) * (s.rd d R.ADC_ENV_SRC.VBASE : Int) * 10
  let temp := (List.range 8).foldl (fun m i => max m (s.rdS d R.THM_SENSi.TEMP i)) (s.rdS d R.THM_SENSi.TEMP 0)
  (if y < 0 then -y else y, temp, v)

/-- The bound of `OUTSIDE`: e0 (1 + 2 r), r the largest ratio (R136). -/
def State.outsideBound (s : State) (e0 : Nat) (r : Int × Int) : Nat × State :=
  let pr3 := s.quot ((e0 : Int) * (r.2 + 2 * r.1)) (max 1 r.2)
  let v := pr3.1
  let s1 := pr3.2
  (v.toNat, s1)

/-- The bound of the present state changes (R136): during a move the larger of the old state's and the new one's shows. -/
def State.setBound (s : State) (l : Lane) (k b : Nat) : State :=
  let r := corrRegs k
  match (s.corr l k).move with
  | none => s.wrSat (laneDie l) r.bound b r.i
  | some m =>
    (s.modCorr l k fun c => { c with move := some { m with newBound := b } }).wrSat (laneDie l) r.bound (max m.oldBound b) r.i

/-- The evaluation of one channel that has a record (R137). -/
def State.evalEnv (s : State) (l : Lane) (k : Nat) : State :=
  let r := corrRegs k
  let d := laneDie l
  match (s.corr l k).record with
  | none => s
  | some x =>
    let pr4 := s.envValues l
    let cur := pr4.1
    let temp := pr4.2.1
    let vdc := pr4.2.2
    let vb := (x.vdc.1 * 2 ^ 30, x.vdc.2 * 2 ^ 30)
    let ds := [bandDist cur x.cur, bandDist temp x.temp, bandDist vdc vb]
    let top := ds.foldl maxRatio (0, 1)
    let env := s.rd d r.state r.i
    if env = envInside then
      if ds.any (fun q => decide (0 < q.1)) then
        let pr5 := s.outsideBound x.e0 top
        let b := pr5.1
        let s1 := pr5.2
        (s1.wr d r.state envOutside r.i).setBound l k b
      else s
    else if env = envOutside then
      if wellInside cur x.cur && wellInside temp x.temp && wellInside vdc vb then
        (s.wr d r.state envInside r.i).setBound l k x.e0
      else if ds.any (fun q => decide (q.2 < 2 * q.1)) then
        let s1 := s.startMove l k envFallback (factory l 2 k)
        (((s1.log l 137 k).inc d R.ADC_ENV_EVT_CNT.COUNT).set d R.ADC_STATUS.FALLBACK).irq l R.ADC_CTRL.ENV_IRQ_EN
      else
        let pr6 := s.outsideBound x.e0 top
        let b := pr6.1
        let s1 := pr6.2
        s1.setBound l k b
    else if env = envFallback then
      if ds.all (fun q => decide (20 * q.1 ≤ 9 * q.2)) then
        let pr7 := s.outsideBound x.e0 top
        let b := pr7.1
        let s1 := pr7.2
        (s1.startMove l k envOutside b).log l 137 k
      else s
    else s

/-- What a traction-cycle boundary does to the corrections of a lane (R135, R137): each move makes one step, then every
channel with a record is evaluated while `ENV_EN` is set. Clearing `ENV_EN` leaves a channel in the state that it has
reached (DESIGN CHOICE, log entry 45). -/
def State.adcBoundary (s : State) (l : Lane) : State :=
  let d := laneDie l
  let s1 := s.each (List.range 76) fun s k => s.moveStep l k
  if s1.on d R.ADC_CTRL.ENV_EN then
    let pr8 := s1.envValues l
    let cur := pr8.1
    let temp := pr8.2.1
    let vdc := pr8.2.2
    let pr9 := s1.quot vdc (2 ^ 30)
    let v := pr9.1
    let s2 := pr9.2
    let s3 := ((s2.wr d R.ADC_ENV_NOW.TEMP (ux 16 temp)).wrSat d R.ADC_ENV_NOW.VDC v.toNat).wr d R.ADC_ENV_CUR.CUR
      (ux 32 cur)
    s3.each (List.range 76) fun s k => s.evalEnv l k
  else s1

/-- A record loaded as the target of its channel at `ST10` (R139). `ADC_CHc_CORR` keeps the factory values that `NONE` would
take (DESIGN CHOICE, log entry 45). -/
def State.loadRecord (s : State) (l : Lane) (x : CalRecord) : State :=
  (s.modCorr l x.chan fun c => { c with record := some x }).startMove l x.chan envInside x.e0

/-- A channel without a record at `ST10`: `NONE` with its factory values (R136, R139). -/
def State.loadFactory (s : State) (l : Lane) (k : Nat) : State :=
  let r := corrRegs k
  let d := laneDie l
  let s1 := (s.wr d r.gain (factory l 0 k) r.i).wr d r.offset (factory l 1 k) r.i
  let s2 := (s1.wr d r.aGain (factory l 0 k) r.i).wr d r.aOffset (factory l 1 k) r.i
  ((s2.modCorr l k fun _ => Corr.init).wr d r.state envNone r.i).wr d r.bound (factory l 2 k) r.i

/-- A record that R138 lets through on lane `l`. -/
def CalRecord.ok (x : CalRecord) (l : Lane) : Bool :=
  x.crcOk && x.lane == l && decide (x.chan < 76) && decide (x.cur.1 < x.cur.2) && decide (x.temp.1 < x.temp.2)
    && decide (x.vdc.1 < x.vdc.2)

/-- The records that win: for one kind and index the one with the highest record sequence, the first in the bank of two that
are equal (R138; the tie is a DESIGN CHOICE, log entry 45). -/
def winners (xs : List CalRecord) : List CalRecord :=
  xs.foldl (fun acc x =>
    match acc.find? fun y => y.chan == x.chan with
    | none => acc ++ [x]
    | some y => if y.seq < x.seq then (acc.filter fun z => z.chan != x.chan) ++ [x] else acc) []

/-- The active bank: the one with a valid header and the highest bank sequence, the lowest position of two that are equal
(R139; the tie is a DESIGN CHOICE, log entry 45). -/
def activeBank (bs : List CalBank) : Option CalBank :=
  (bs.filter fun b => b.headerOk && decide (b.pos < 16)).foldl (fun acc b =>
    match acc with
    | none => some b
    | some a => if a.seq < b.seq ∨ (a.seq = b.seq ∧ b.pos < a.pos) then some b else some a) none

/-! ## Results (R122 to R130) -/

/-- The channel code of list entry `i` of a group (R118). -/
def State.listEntry (s : State) (l : Lane) (g i : Nat) : Nat :=
  let f := match i % 4 with
    | 0 => R.ADC_Gg_LISTj.CH0 | 1 => R.ADC_Gg_LISTj.CH1 | 2 => R.ADC_Gg_LISTj.CH2 | _ => R.ADC_Gg_LISTj.CH3
  s.rd (laneDie l) f g (i / 4)

/-- The length of a group's list: 0 acts as 1, above 16 as 16 (R148). -/
def State.listLen (s : State) (l : Lane) (g : Nat) : Nat := min 16 (orOne (s.rd (laneDie l) R.ADC_Gg_CFG.LEN g))

/-- The list of a group as a pass takes it (R119). -/
def State.listOf (s : State) (l : Lane) (g : Nat) : List Nat :=
  (List.range (s.listLen l g)).map fun i => s.listEntry l g i

/-- The numerator of the slice-corrected code y over 2^22 · 10^7 (R130). -/
def State.sliceNum (s : State) (l : Lane) (g slice : Nat) (raw before after : Int) (streaming : Bool) : Int :=
  let d := laneDie l
  let ofs := s.rdS d R.ADC_Gg_Sk_OG.OFFSET g slice
  let gain := s.rdS d R.ADC_Gg_Sk_OG.GAIN g slice
  let skew := s.rdS d R.ADC_Gg_Sk_SKEW.SKEW g slice
  (16 * raw - ofs) * (2 ^ 18 + gain) * 10 ^ 7 - (if streaming then skew * (after - before) * 8 * 2 ^ 22 else 0)

/-- The corrected result z of R130, limited to 0 to 16,383. The spec states no rounding: log entry 7. -/
def State.correct (s : State) (l : Lane) (c : Nat) (y : Int) : Nat × State :=
  let d := laneDie l
  let pr10 := s.quot (y * (2 ^ 16 + s.rdS d R.ADC_CHc_APPLIED.GAIN c)
    + s.rdS d R.ADC_CHc_APPLIED.OFFSET c * 2 ^ 36 * 10 ^ 7) (2 ^ 38 * 10 ^ 7)
  let z := pr10.1
  let s1 := pr10.2
  ((clampI 0 16383 z).toNat, s1)

/-- The period of a resolver's carrier in cycles of 80 MHz: `DIV`, from 4,000 to 40,000 (R152). -/
def State.resDiv (s : State) (l : Lane) (n : Nat) : Nat := clampN 4000 40000 (s.rd (laneDie l) R.POS_RESn_EXC.DIV n)

/-- A resolver channel. -/
def State.res (s : State) (l : Lane) (n : Fin 2) : ResSt := (s.run l).pos.res[n]

/-- A resolver channel changed by `f`. -/
def State.modRes (s : State) (l : Lane) (n : Fin 2) (f : ResSt → ResSt) : State :=
  s.modRun l fun r => { r with pos := { r.pos with res := upd r.pos.res n f } }

/-- A sample of a group that serves a resolver (R153, R154): SIN and COS alternate, their order swaps every four phases, and
the channel keeps one carrier period of samples of each, newest first, in 2^-22 LSB after slice correction. Each sample
carries its place in the carrier, counted in phases of 6.25 ns from the restart of the demodulation. That SIN comes first is
a DESIGN CHOICE (log entry 46). -/
def State.resSample (s : State) (l : Lane) (g : Fin 12) (slice raw : Nat) : State :=
  let d := laneDie l
  let ph := (s.grp l g).resPhase
  let isSin := (ph % 4 + ph / 4) % 2 == 0
  let y := (16 * (raw : Int) - s.rdS d R.ADC_Gg_Sk_OG.OFFSET g slice) * (2 ^ 18 + s.rdS d R.ADC_Gg_Sk_OG.GAIN g slice)
  let s1 := s.modGrp l g fun x => { x with resPhase := (ph + 1) % 8 }
  s1.each (List.finRange 2) fun s n =>
    s.when (s.on d R.POS_RESn_CFG.EN n && s.rd d R.POS_RESn_CFG.GROUP n == g.val) fun s =>
      let div := s.resDiv l n
      s.modRes l n fun x =>
        { x with
          tick := (x.tick + 1) % (2 * div), clip := x.clip || raw == 0 || raw == 16383
          sin := if isSin then ((x.tick, y) :: x.sin).take div else x.sin
          cos := if isSin then x.cos else ((x.tick, y) :: x.cos).take div }

/-- Bits [26:0] of an entry (R124). -/
def State.entry (s : State) (l : Lane) (g c z : Nat) (urgent restarted : Bool) : Nat :=
  let env := s.rd (laneDie l) R.ADC_CHc_ENV.STATE c
  z + c * 2 ^ 14 + g * 2 ^ 20 + b2n urgent * 2 ^ 24 + b2n restarted * 2 ^ 25
    + b2n (env == envOutside || env == envFallback) * 2 ^ 26

/-- An entry offered to `Q11` (R108, R124): the sequence number advances even for a discarded result. -/
def State.pushQ11 (s : State) (l : Lane) (e stamp : Nat) : State :=
  let a := (s.run l).adc
  if 1024 ≤ a.q11.length then
    ((s.modAdc l fun a => { a with seq11 := (a.seq11 + 1) % 32 }).set (laneDie l) R.ADC_STATUS.Q11_DROP).inc (laneDie l)
      R.TAL_Qq_STAT.FAIL_DROP 11
  else
    s.modAdc l fun a =>
      { a with q11 := a.q11 ++ [(e + a.seq11 * 2 ^ 27, stamp)], seq11 := (a.seq11 + 1) % 32 }

/-- An entry offered to `Q12` (R108, R124, R128). -/
def State.pushQ12 (s : State) (l : Lane) (e stamp : Nat) : State :=
  let a := (s.run l).adc
  if 1024 ≤ a.q12.length then
    ((s.modAdc l fun a => { a with seq12 := (a.seq12 + 1) % 32 }).set (laneDie l) R.ADC_STATUS.Q12_DROP).inc (laneDie l)
      R.TAL_Qq_STAT.FAIL_DROP 12
  else
    (s.modAdc l fun a =>
      { a with q12 := a.q12 ++ [(e + a.seq12 * 2 ^ 27, stamp)], seq12 := (a.seq12 + 1) % 32 }).irq l
      R.ADC_CTRL.URG_IRQ_EN

/-! ## The short detectors of the pre-drivers (R242) -/

/-- K of `PAP_HBn_SHORT.KSEL`. -/
def shortK (sel : Nat) : Nat := 2 ^ (sel % 4)

/-- A half-bridge fault latched (R242 to R244): `PAP_PD_STATUS.FAULT`, the interrupt, trip source 48 + n. -/
def State.pdFault (s : State) (l : Lane) (n : Fin 16) : State :=
  ((s.wrBit (papDie l) R.PAP_PD_STATUS.FAULT n true).irqOf l (papDie l) R.PAP_PD_CTRL.FAULT_IRQ_EN).tripSource l
    (48 + n.val) true

/-- The instant of a lane time's low word (R98). -/
def State.stampAt (s : State) (l : Lane) (stamp : Nat) : Nat := s.now - (low 32 (s.laneTime l) + 2 ^ 32 - stamp) % 2 ^ 32

/-- One converter result at a half-bridge's short detector (R242); `stamp` is the lane time of its sample. -/
def State.shortDetect (s : State) (l : Lane) (n : Fin 16) (c : Nat) (z : Int) (stamp : Nat) : State :=
  let d := papDie l
  let at_ := s.stampAt l stamp
  if (s.pap l).powered && s.on d R.PAP_HBn_CFG.SHORT_EN n && s.rd d R.PAP_HBn_SHORT.SHUNT_CH n == c then
    let h := s.hb l n
    let k := shortK (s.rd d R.PAP_HBn_SHORT.KSEL n)
    let s1 := s.modHb l n fun h => { h with shunts := (at_, z) :: h.shunts.take 7 }
    match h.shunts.getD (k - 1) (0, 0), decide (k ≤ h.shunts.length) with
    | (t0, z0), true =>
      let diff := z - z0
      let thr : Int := s.rd d R.PAP_HBn_SHORT.THR n
      let steep := if s.on d R.PAP_HBn_SHORT.ABS n then decide (thr < diff) || decide (thr < -diff) else decide (thr < diff)
      let blank := match h.edgeAt with
        | none => true
        | some e => decide (e + s.rd d R.PAP_HBn_SHORT.BLANK n < at_) || decide (at_ < e)
      if steep && (h.wantHi || h.wantLo) && blank && decide (at_ - t0 ≤ 2 * us) then
        let s2 := (s1.pdOff l n true).pdOff l n false
        ((s2.modHb l n fun h => { h with refresh := 0 }).set d R.PAP_HBn_STATUS.SHORT n).pdFault l n
      else s1
    | _, false => s1
  else s

/-! ## Sigma-delta filters (R143 to R145) -/

/-- The comparators of a fast filter follow its value (R144). -/
def State.sdfTrip (s : State) (l : Lane) (n : Fin 12) (hi lo : Bool) : State :=
  let d := laneDie l
  let s1 := (s.put d R.SDF_Fn_STATUS.HI hi n).put d R.SDF_Fn_STATUS.LO lo n
  ((s1.wrBit d R.SDF_STATUS.TRIP n (hi || lo)).tripSource l (4 + n.val) hi).tripSource l (16 + n.val) lo

/-- A modulator fault (R145): `VALID` clears, the control engine sees the filter invalid, the comparators hold inactive,
trip source `SDF_FLTn` is active. -/
def State.sdfFault (s : State) (l : Lane) (n : Fin 12) (flag : Fld) : State :=
  let d := laneDie l
  let s1 := ((s.set d flag n).clr d R.SDF_Fn_STATUS.VALID n).wrBit d R.SDF_STATUS.FAULT n true
  (s1.sdfTrip l n false false).tripSource l (28 + n.val) true

/-- A filter's fault flags have been cleared by a write of 1: `SDF_FLTn` goes inactive (R145). -/
def State.sdfCleared (s : State) (l : Lane) (n : Fin 12) : State :=
  let d := laneDie l
  if s.on d R.SDF_Fn_STATUS.STUCK n || s.on d R.SDF_Fn_STATUS.CLK_FAULT n then s
  else (s.wrBit d R.SDF_STATUS.FAULT n false).tripSource l (28 + n.val) false

end Sys2Proof.Machine
end

