-- ==== Sys2Proof/Machine/Media.lean ====
section
/-!
DEFINITION. What the device programs into its NOR and its eMMC window (R62, R64, R89), and the signed objects and images that
it reads back from the bytes it has programmed (R65, R68, R70, R71).
-/
namespace Sys2Proof.Machine

/-! ## Blocks and sectors -/

/-- The units of `n` bytes of a list of bytes, numbered from `k`; the last one is filled with erased bytes. -/
def cutUnits (n : Nat) (k : Nat) (bs : List Nat) : List (Nat × List Nat) :=
  (List.range (ceilDiv bs.length n)).map fun i => (k + i, ((bs.drop (n * i)).take n ++ List.replicate n 0xFF).take n)

/-- Bytes programmed into the NOR from an offset that begins a block: every block is erased first (R89). -/
def State.norProgram (s : State) (l : Lane) (off : Nat) (bs : List Nat) : State :=
  s.modNv l fun n => { n with nor := (cutUnits 4096 (off / 4096) bs).foldl (fun m x => sput [] x.1 x.2 m) n.nor }

/-- Bytes written into the eMMC window from an offset that begins a sector. -/
def State.emmcProgram (s : State) (l : Lane) (off : Nat) (bs : List Nat) : State :=
  s.modNv l fun n => { n with emmc := (cutUnits 512 (off / 512) bs).foldl (fun m x => sput [] x.1 x.2 m) n.emmc }

/-- The NOR between two offsets erased: what the device had programmed there is gone (R82). -/
def State.norErase (s : State) (l : Lane) (from_ to_ : Nat) : State :=
  s.modNv l fun n => { n with nor := n.nor.filter fun x => !(decide (from_ / 4096 ≤ x.1) && decide (x.1 < to_ / 4096)) }

/-- The device has programmed the block that begins at an offset. -/
def State.norOwn (s : State) (l : Lane) (off : Nat) : Bool := !(sget [] (off / 4096) (s.nv l).nor).isEmpty

/-- `n` bytes of the NOR from the start of a block, a block that the device has not programmed read as erased. -/
def State.norBytes (s : State) (l : Lane) (off n : Nat) : List Nat :=
  ((List.range (ceilDiv n 4096)).flatMap fun i =>
    (sget [] (off / 4096 + i) (s.nv l).nor ++ List.replicate 4096 0xFF).take 4096).take n

/-- `n` bytes of the eMMC window from the start of a sector. -/
def State.emmcBytes (s : State) (l : Lane) (off n : Nat) : List Nat :=
  ((List.range (ceilDiv n 512)).flatMap fun i =>
    (sget [] (off / 512 + i) (s.nv l).emmc ++ List.replicate 512 0).take 512).take n

/-- The wrapped identity key of a key-store bank, as slots 0 to 3 of the ledger partition hold it (R434, R444; its bytes are those
of the cryptography, log entry 21). -/
def keyBlob (l : Lane) (b : Fin 2) : List Nat := (List.range 4096).map fun i => low 8 (Config.crypto 9 l.idx [b.val] [] i)

/-- The wrapped identity key written to slots 0 to 3 (step 2 of R444). -/
def State.keyWrap (s : State) (l : Lane) (b : Fin 2) : State := s.emmcProgram l 0x50000000 (keyBlob l b)

/-- Slots 0 to 3 hold a blob that unwraps under a bank (R444). -/
def State.blobOk (s : State) (l : Lane) (b : Fin 2) : Bool := s.emmcBytes l 0x50000000 4096 == keyBlob l b

/-! ## Objects read back -/

/-- `n` bytes of a list from an offset, as a little-endian number. -/
def leAt (bs : List Nat) (off n : Nat) : Nat := leNat ((bs.drop off).take n)

/-- `n` bytes of a list from an offset are zero. -/
def zeroAt (bs : List Nat) (off n : Nat) : Bool := ((bs.drop off).take n).all fun b => b == 0

/-- A headframe from its bytes (R65). -/
def parseHeadframe (b : List Nat) : Headframe :=
  { magic := leAt b 0 4, format := leAt b 4 4, keySlot := leAt b 8 4, lamp := (leAt b 0x10 4, leAt b 0x14 4)
    slots := (leAt b 0x18 4, leAt b 0x1C 4), copy1 := (leAt b 0x20 4, leAt b 0x24 4), copy2 := (leAt b 0x28 4, leAt b 0x2C 4)
    emmcBase := leAt b 0x30 4, emmcMhz := leAt b 0x34 4, xspiMhz := leAt b 0x38 4, xspiDummy := leAt b 0x3C 4
    zero := zeroAt b 0x40 64 && zeroAt b 0x284 2940 }

/-- A calibration record from its 128 bytes (R138). -/
def parseRecord (b : List Nat) : CalRecord :=
  let idx := leAt b 9 1
  let s := fun (w off : Nat) => sx (8 * w) (leAt b off w)
  { chan := if leAt b 8 1 = 0 ∧ idx < 64 then idx else if leAt b 8 1 = 1 ∧ idx < 12 then 64 + idx else 76
    seq := leAt b 4 4, lane := if leAt b 0xA 1 = 0 then .a else .b
    crcOk := leAt b 0xA 1 ≤ 1 && crc32c (b.take 0x7C) == leAt b 0x7C 4
    gain := leAt b 0xC 2, offset := leAt b 0xE 2, e0 := leAt b 0x10 2
    cur := (s 4 0x14, s 4 0x18), temp := (s 2 0x1C, s 2 0x1E), vdc := (leAt b 0x20 2, leAt b 0x22 2) }

/-- A bank of the calibration partition as the device has written it (R64, R139); none where it has not written its header. -/
def State.ownBank (s : State) (l : Lane) (pos : Nat) : Option CalBank :=
  let base := 0x54000000 + pos * 0x100000
  if (sget [] (base / 512) (s.nv l).emmc).isEmpty then none
  else
    let h := s.emmcBytes l base 512
    let n := leAt h 8 4
    let body := s.emmcBytes l (base + 512) (128 * min n 8188)
    some
      { pos := pos
        headerOk := leAt h 0 4 == 0x43414C42 && zeroAt h 0x10 0x1EC && crc32c (h.take 0x1FC) == leAt h 0x1FC 4 && decide (n ≤ 8188)
        seq := leAt h 4 4, crcOk := crc32c body == leAt h 0xC 4
        records := (List.range (min n 8188)).map fun i => parseRecord ((body.drop (128 * i)).take 128) }

/-- The banks that a start finds: those that the device has written, and elsewhere those from outside. -/
def State.calBanks (s : State) (l : Lane) (out : List CalBank) : List CalBank :=
  (List.range 16).filterMap fun p =>
    match s.ownBank l p with
    | some b => some b
    | none => out.find? fun b => b.pos == p

/-- A boot image from the bytes of its header and its payload (R68). -/
def parseBoot (b payload : List Nat) : BootImage :=
  { magic := leAt b 0 4, format := leAt b 4 4, keySlot := leAt b 8 4, version := leAt b 0xC 4, length := leAt b 0x10 4
    entry := leAt b 0x14 4
    segments := (List.range 8).map fun i => (leAt b (0x18 + 12 * i) 4, leAt b (0x1C + 12 * i) 4, leAt b (0x20 + 12 * i) 4)
    zero := zeroAt b 0x2BC 2884, payload := payload }

/-- The patches of an image from its bytes, at most `n` of them (R71). -/
def parsePatches : Nat → List Nat → List Patch
  | 0, _ => []
  | n + 1, b =>
    let k := leAt b 4 2
    { addr := leAt b 0 4, words := (List.range k).map fun i => leAt b (8 + 4 * i) 4 } :: parsePatches n (b.drop (8 + 4 * k))

/-- An image from its bytes (R71). -/
def parseImage (b : List Nat) : Image :=
  let t := min (leAt b 8 4) (b.length / 12)
  { magic := leAt b 0 4, mode := leAt b 4 1, zero := zeroAt b 5 3, nTriples := leAt b 8 4, nPatches := leAt b 12 2
    nWords := leAt b 14 2
    triples := (List.range t).map fun i =>
      { addr := leAt b (16 + 12 * i) 4, mask := leAt b (20 + 12 * i) 4, value := leAt b (24 + 12 * i) 4 }
    patches := parsePatches (min (leAt b 12 2) (b.length / 8)) (b.drop (16 + 12 * t)) }

/-- A container from its bytes (R70). -/
def parseContainer (b : List Nat) : Container :=
  let f := leAt b 0x18 4
  let places := (List.range 9).map fun i => (leAt b (0x20 + 72 * i) 4, leAt b (0x24 + 72 * i) 4)
  let image := fun (i : Nat) => parseImage ((b.drop (places.getD i (0, 0)).1).take (places.getD i (0, 0)).2)
  { magic := leAt b 0 4, format := leAt b 4 4, keySlot := leAt b 8 4, total := leAt b 0xC 4, application := leAt b 0x10 4
    arrangement := leAt b 0x14 4, reducedOk := bit f 0, partnerWait := bits f 15 8, timeWait := bits f 23 16
    flagsZero := bits f 7 1 == 0 && bits f 31 24 == 0, version := leAt b 0x1C 4, base := image 0
    overlays := (List.range 8).map fun m => image (m + 1), places := places
    hashes := (List.range 9).map fun i => (b.drop (0x28 + 72 * i)).take 64, key := (b.drop 0x2A8).take 516
    zero := zeroAt b 0x4AC 340, signature := (b.drop 0x600).take 512 }

/-! ## The bytes of a container (R70, R71) -/

/-- A list of bytes filled up to `n` with zeros. -/
def fill (n : Nat) (bs : List Nat) : List Nat := (bs ++ List.replicate n 0).take n

/-- The bytes of an image. -/
def imageBytes (im : Image) : List Nat :=
  leBytes im.magic 4 ++ leBytes im.mode 1 ++ [0, 0, 0] ++ leBytes im.nTriples 4 ++ leBytes im.nPatches 2 ++ leBytes im.nWords 2
    ++ (im.triples.flatMap fun t => leBytes t.addr 4 ++ leBytes t.mask 4 ++ leBytes t.value 4)
    ++ im.patches.flatMap fun p =>
      leBytes p.addr 4 ++ leBytes p.words.length 2 ++ [0, 0] ++ p.words.flatMap fun w => leBytes w 4

/-- The 2 KiB of a container's header. -/
def containerHeader (c : Container) : List Nat :=
  let place := fun (i : Nat) => let p := c.places.getD i (0, 0); leBytes p.1 4 ++ leBytes p.2 4 ++ fill 64 (c.hashes.getD i [])
  leBytes c.magic 4 ++ leBytes c.format 4 ++ leBytes c.keySlot 4 ++ leBytes c.total 4 ++ leBytes c.application 4
    ++ leBytes c.arrangement 4 ++ leBytes (b2n c.reducedOk + c.partnerWait * 2 ^ 8 + c.timeWait * 2 ^ 16) 4 ++ leBytes c.version 4
    ++ ((List.range 9).flatMap place) ++ fill 516 c.key ++ List.replicate 340 0 ++ fill 512 c.signature

/-- Byte `a` of a container: of its header, or of the first image that covers the offset; `full` says that the overlays stand in
the configuration RAM too. -/
def containerByte (c : Container) (full : Bool) (a : Nat) : Nat :=
  if a < 2048 then (containerHeader c).getD a 0
  else
    match ((c.base :: (if full then c.overlays else [])).zip c.places).find? fun x => x.2.1 ≤ a && decide (a < x.2.1 + x.2.2) with
    | some x => (imageBytes x.1).getD (a - x.2.1) 0
    | none => 0

/-- A word of `n` bytes of a lane's configuration RAM, once `ST08` has loaded it (R70). -/
def State.configWord (s : State) (l : Lane) (a n : Nat) : Option Nat :=
  (s.run l).start.container.map fun c => leNat ((List.range n).map fun i => containerByte c (s.run l).start.full (a + i))

end Sys2Proof.Machine
end

