-- ==== Sys2Proof/Machine/NrgOps.lean ====
section
/-!
DEFINITION. The DC link as a lane measures and limits it (R269 to R275): voltages and currents from slots, the
configuration error, the chopper's health, and the regeneration limit.
-/
namespace Sys2Proof.Machine

/-- The output of an arithmetic slot as a source (R173). -/
def State.slotOut (s : State) (l : Lane) (i : Nat) : Int := s.srcVal l (i + 1)

/-- The `NRG` block of a lane changed by `f`. -/
def State.modNrg (s : State) (l : Lane) (f : NrgSt → NrgSt) : State := s.modRun l fun r => { r with nrg := f r.nrg }

/-- The control-path link voltage in V x 2^30 (R269). -/
def State.vLink (s : State) (l : Lane) : Int :=
  s.slotOut l (s.rd (laneDie l) R.NRG_VSRC.LINK_SLOT) * s.rd (laneDie l) R.NRG_SCALE.V_BASE

/-- The pack voltage in V x 2^30 (R280). -/
def State.vPack (s : State) (l : Lane) : Int :=
  s.slotOut l (s.rd (laneDie l) R.NRG_VSRC.PACK_SLOT) * s.rd (laneDie l) R.NRG_SCALE.V_BASE

/-- The inlet voltage in V x 2^30 (R283). -/
def State.vInlet (s : State) (l : Lane) : Int :=
  s.slotOut l (s.rd (laneDie l) R.NRG_DC.INLET_SLOT) * s.rd (laneDie l) R.NRG_SCALE.V_BASE

/-- The pack current in A x 2^30, charging positive (R274). -/
def State.iPack (s : State) (l : Lane) : Int :=
  s.slotOut l (s.rd (laneDie l) R.NRG_VSRC.IPACK_SLOT) * s.rd (laneDie l) R.NRG_IBASE.I_BASE

/-- A voltage of 0.1 V units in the fast path's format, round(V x 32,767 / `TRIP_FS`) (R269); a full scale of 0 gives none. -/
def State.ovCode (s : State) (l : Lane) (v : Nat) : Int :=
  let den : Nat := 10 * s.rd (laneDie l) R.NRG_SCALE.TRIP_FS
  let num := v * 32767
  if den = 0 then Config.unstated 70 v
  else if 2 * (num % den) = den then (num / den : Nat) + (if Config.roundUp 70 num den then 1 else 0)
  else ((2 * num + den) / (2 * den) : Nat)

/-- What the comparator of the level `i` (1 to 3) gives on the fast value, given what it gave before (R269): on at its
threshold, off at the threshold less `HYST`. `NRG_OV3` has no `HYST` field: OV3 goes off below its threshold (DEDUCED, log
entry 48). -/
def State.ovOut (s : State) (l : Lane) (i : Nat) (was : Bool) : Bool :=
  let d := laneDie l
  let v := if i = 1 then s.rd d R.NRG_OV1.V else if i = 2 then s.rd d R.NRG_OV2.V else s.rd d R.NRG_OV3.V
  let hyst := if i = 1 then s.rd d R.NRG_OV1.HYST else if i = 2 then s.rd d R.NRG_OV2.HYST else 0
  let x := s.rdS d R.SDF_Fn_TRIP_DATA.DATA (s.rd d R.NRG_VSRC.LINK_SDF)
  let on := s.ovCode l v
  if was then decide (on ≤ x) || decide (s.ovCode l (v - 10 * hyst) < x) else decide (on ≤ x)

/-- The states of the charger's AC functions (R288). -/
def obcOff : Nat := 0
/-- `SYNC`. -/
def obcSync : Nat := 1
/-- `PRECHARGE`. -/
def obcPre : Nat := 2
/-- `RUN`. -/
def obcRun : Nat := 3
/-- `TRIPPED`. -/
def obcTripped : Nat := 4

/-- A setpoint slot's `K3` written (R285, R287). -/
def State.setK3 (s : State) (l : Lane) (slot : Nat) (v : Nat) : State := s.wr (laneDie l) R.CE_Ai_Kj.K v slot 3

/-- A charger state taken, with the instant. -/
def State.obcGo (s : State) (l : Lane) (st : Nat) : State :=
  (s.wr (laneDie l) R.NRG_OBC_STATUS.STATE st).modNrg l fun n => { n with obcAt := s.now }

/-- The configuration error of the `NRG` block (R270, R289). -/
def State.nrgCfgErr (s : State) (l : Lane) : Bool :=
  let d := laneDie l
  let v1 := s.rd d R.NRG_OV1.V
  let v2 := s.rd d R.NRG_OV2.V
  let v3 := s.rd d R.NRG_OV3.V
  let fs := s.rd d R.NRG_SCALE.TRIP_FS
  let slot := fun f => decide (24 ≤ s.rd d f)
  decide (v2 < v1 + 100) || decide (v3 < v2 + 100) || decide (10000 < v3) || decide (10 * fs < v3)
    || decide (v2 ≤ v1 + 10 * s.rd d R.NRG_OV2.HYST)
    || decide (12 ≤ s.rd d R.NRG_VSRC.LINK_SDF) || slot R.NRG_VSRC.LINK_SLOT || slot R.NRG_VSRC.PACK_SLOT
    || slot R.NRG_VSRC.IPACK_SLOT || slot R.NRG_DC.INLET_SLOT
    || (List.range 6).any fun c => s.on d R.NRG_CTRc_CFG.EN c && decide (12 ≤ s.rd d R.NRG_CTRc_CFG.SO c)

/-- `OV_SLOW` (R271): ORDER x OSR + 3 clocks of the named fast filter against 1.75 us. The period of an external modulator
clock is not known to the model (log entry 12). -/
def State.ovSlow (s : State) (l : Lane) : Bool :=
  let d := laneDie l
  let f := s.rd d R.NRG_VSRC.LINK_SDF
  let clocks := clampN 1 3 (s.rd d R.SDF_Fn_TRIP.ORDER f) * clampN 4 64 (s.rd d R.SDF_Fn_TRIP.OSR f) + 3
  if s.on d R.SDF_Fn_CFG.CLK_EXT f then Config.roundUp 60 clocks f
  else decide (350 < clocks * clampN 10 40 (s.rd d R.SDF_CLK.DIV))

/-- The chopper legs of a lane's `NRG_CHOP`. -/
def State.laneLegs (s : State) (l : Lane) : List Nat :=
  let d := laneDie l
  if s.on d R.NRG_CHOP.EN then
    s.rd d R.NRG_CHOP.LEG0 :: (if s.on d R.NRG_CHOP.LEG1_EN then [s.rd d R.NRG_CHOP.LEG1] else [])
  else []

/-- The number of healthy chopper legs (R272, R275). -/
def State.healthyLegs (s : State) (l : Lane) : Nat := ((s.laneLegs l).filter fun n => s.depOn && s.legHealthy n).length

/-- `OPEN_MAIN` runs: P_lim and the charger's and the converter's power limits are zero (R281 step 1). -/
def State.opening (s : State) (l : Lane) : Bool :=
  match (s.run l).nrg.seq with
  | some q => q.cmd == 2
  | none => false

/-- The target of P_lim in kW (R272); `OPEN_MAIN` sets the limit to zero while it runs (R281). -/
def State.plimTarget (s : State) (l : Lane) : Nat :=
  let d := laneDie l
  if s.on d R.NRG_STATUS.OV1 || (s.run l).nrg.zeroHold || s.opening l then 0
  else min (s.rd d R.NRG_REGEN.P_MAX) (s.rd d R.NRG_ACCEPT.P_ACC + s.healthyLegs l * s.rd d R.NRG_CHOP.P_LEG)

/-- P_lim moved towards its target at `P_MAX` / `RAMP` per ms up to now, and the target taken anew (R272, R275). -/
def State.plimStep (s : State) (l : Lane) : State :=
  let d := laneDie l
  let n := (s.run l).nrg
  let goal : Int := n.target * 2 ^ 20
  let move : Int := (s.rd d R.NRG_REGEN.P_MAX * 2 ^ 20 * (s.now - n.plimAt) / (orOne (s.rd d R.NRG_OV1.RAMP) * ms) : Nat)
  let p := if n.plim < goal then min goal (n.plim + move) else max goal (n.plim - move)
  let t := s.plimTarget l
  let legs := s.laneLegs l
  let mask := (legs.zipIdx.filter fun x => s.depOn && s.legHealthy x.1).foldl (fun a x => setBit a x.2) 0
  let s1 := s.modNrg l fun x => { x with plim := p, plimAt := s.now, target := t }
  let s2 := (s1.wrSat d R.NRG_REGEN_LIM.P (p / 2 ^ 20).toNat).put d R.NRG_REGEN_LIM.RAMPING (p != (t : Int) * 2 ^ 20)
  (((s2.wr d R.NRG_CHOP_STAT.HEALTHY mask).put d R.NRG_CHOP_STAT.FAIL (mask == 0)).put d R.NRG_STATUS.CFG_ERR
    (s2.nrgCfgErr l)).put d R.NRG_STATUS.OV_SLOW (s2.ovSlow l)

/-- P_lim set to zero at once (R272, R281). -/
def State.plimZero (s : State) (l : Lane) : State :=
  (s.modNrg l fun x => { x with plim := 0, target := 0, plimAt := s.now }).plimStep l

end Sys2Proof.Machine
end

