-- ==== Sys2Proof/Machine/SoOps.lean ====
section
/-!
DEFINITION. Closing the Deputy's safe outputs (R278, R345, R348) and the contactors that hang on them.
-/
namespace Sys2Proof.Machine

/-- A safe output as an index. -/
def soIdx (k : Nat) : Fin 12 := ⟨k % 12, Nat.mod_lt _ (by decide)⟩

/-- The contactors of R277. -/
def ctrMP : Nat := 0
/-- Main negative. -/
def ctrMN : Nat := 1
/-- Precharge. -/
def ctrPRE : Nat := 2
/-- DC-charge positive. -/
def ctrDCP : Nat := 3
/-- DC-charge negative. -/
def ctrDCN : Nat := 4
/-- AC input relay. -/
def ctrACR : Nat := 5

/-- The output of a contactor in a lane's configuration. -/
def State.ctrOut (s : State) (l : Lane) (c : Nat) : Fin 12 := soIdx (s.rd (laneDie l) R.NRG_CTRc_CFG.SO c)

/-- The state of a contactor (R278). -/
def State.ctr (s : State) (l : Lane) (c : Nat) : CtrState := s.dep.ctr[s.ctrOut l c]

/-- The code of `NRG_CTRc_STATUS.STATE`. -/
def CtrState.code : CtrState → Nat
  | .isOpen => 0 | .pull => 1 | .hold => 2 | .drop => 3

/-- MP and MN are in `HOLD`. -/
def State.mainHold (s : State) (l : Lane) : Bool := s.depOn && s.ctr l ctrMP == .hold && s.ctr l ctrMN == .hold

/-- The contactor that an output carries in the mode master's configuration. -/
def State.ctrOn (s : State) (k : Fin 12) : Option Nat :=
  (List.range 6).find? fun c => s.on (laneDie s.master) R.NRG_CTRc_CFG.EN c && s.ctrOut s.master c == k

/-- The weld record refuses a close of MP, MN or PRE (R278). -/
def State.weldRefuses (s : State) (k : Fin 12) : Bool :=
  match s.ctrOn k with
  | some c => decide (c ≤ 2) && s.rdBit .ds R.DSP_WELD.WELDED c
  | none => false

/-- The Deputy is in Parked or Storage. -/
def State.depParked (s : State) : Bool := s.rd .ds R.DSP_MODE.MODE == modeParked || s.rd .ds R.DSP_MODE.MODE == modeStorage

/-- The conditions under which the Deputy closes an output of its function, `FAIL` apart (R278, R345). -/
def State.soMay (s : State) (k : Fin 12) : Bool :=
  let f := s.rd .ds R.DSP_SOk_CFG.FUNC k
  let stop := s.on .ds R.DSP_STATUS.SAFE_STOP
  if f = soSto then !stop && !s.depParked
  else if f = soContactor then !stop && !s.depParked && !s.weldRefuses k
  else if f = soGeneral then !stop && s.on .ds R.DSP_SOk_CMD.CLOSE k
  else false

/-- An output closes under the conditions of its function (R345, R348): one with `FAIL` is refused, and a request during a
test of the output waits for its end. Answers whether the request is accepted. -/
def State.closeSo (s : State) (k : Fin 12) : Bool × State :=
  if !s.depOn || !s.soMay k then (false, s)
  else if s.on .ds R.DSP_SOk_STATUS.FAIL k && !(s.on .ds R.DSP_SOk_STATUS.HS k && s.on .ds R.DSP_SOk_STATUS.LS k) then
    (false, s.set .ds R.DSP_SOk_STATUS.REFUSED k)
  else if s.dep.test.map SoTest.out = some k.val then
    (true, s.modDep fun d => { d with pendingClose := upd d.pendingClose k fun _ => true })
  else
    let contactor := s.rd .ds R.DSP_SOk_CFG.FUNC k == soContactor
    let s1 := s.soSet k true true
    (true, s1.modDep fun d =>
      { d with
        ctr := upd d.ctr k fun c => if contactor then (if c = .hold then .hold else .pull) else c
        ctrAt := upd d.ctrAt k fun t => if contactor && d.ctr[k] != .hold then s.now else t })

/-- The `STO` outputs closed while their condition holds (R345): one whose `FAIL` was set when it last opened stays open. -/
def State.syncSto (s : State) : State :=
  s.each (List.finRange 12) fun s k =>
    if s.rd .ds R.DSP_SOk_CFG.FUNC k = soSto then
      if s.soMay k then
        if s.dep.failAtOpen[k] || (s.on .ds R.DSP_SOk_STATUS.HS k && s.on .ds R.DSP_SOk_STATUS.LS k) then s
        else (s.closeSo k).2
      else s
    else s

/-- The outputs that the entry to Parked or Storage opens (R278, R345), and the `FAIL` latches that Parked clears (R348). -/
def State.parkOutputs (s : State) (parked : Bool) : State :=
  let s1 := s.openFuncs [soSto, soContactor]
  if parked then
    ((s1.each (List.finRange 12) fun s k =>
      (s.clr .ds R.DSP_SOk_STATUS.FAIL k).wr .ds R.DSP_SOk_STATUS.FAIL_CAUSE 0 k).wr .ds R.DSP_SO_TEST_STATUS.FAILED 0).modDep
      fun d => { d with failAtOpen := updAll d.failAtOpen fun _ => false }
  else s1

/-- An output chops (R278): a contactor in `HOLD` with `ECO_EN` set. -/
def State.chopping (s : State) (k : Fin 12) : Bool := s.dep.ctr[k] == .hold && s.on .ds R.DSP_SOk_CMD.ECO_EN k

/-- A close request of the mode master's `NRG` block for a contactor, with its `PULL` and economiser settings (R278). -/
def State.ctrClose (s : State) (l : Lane) (c : Nat) : Bool × State :=
  let d := laneDie l
  let k := s.ctrOut l c
  if s.depOn && s.on d R.NRG_CTRc_CFG.EN c then
    let s1 := ((((s.set .ds R.DSP_SOk_CMD.CLOSE k).wr .ds R.DSP_SOk_CMD.ECO_EN (s.rd d R.NRG_CTRc_ECO.ECO_EN c) k).wr .ds
      R.DSP_SOk_CMD.DUTY (clampN 10 100 (s.rd d R.NRG_CTRc_ECO.DUTY c)) k).wr .ds R.DSP_SOk_CMD.FREQ
      (clampN 1 25 (s.rd d R.NRG_CTRc_ECO.FREQ c)) k).wr .ds R.DSP_SOk_CMD.T_PULL (s.rd d R.NRG_CTRc_CFG.T_PULL c) k
    let r := s1.closeSo k
    (r.1, if r.1 then r.2.inc d R.NRG_CTRc_CNT.CLOSES c else r.2)
  else (false, s)

/-- A contactor is pulling in or held. -/
def State.ctrClosed (s : State) (l : Lane) (c : Nat) : Bool := s.ctr l c == .pull || s.ctr l c == .hold

/-- An open request for one contactor (R278). -/
def State.ctrOpen1 (s : State) (l : Lane) (c : Nat) : State :=
  if s.depOn && s.on (laneDie l) R.NRG_CTRc_CFG.EN c then
    (s.clr .ds R.DSP_SOk_CMD.CLOSE (s.ctrOut l c)).openSo (s.ctrOut l c)
  else s

/-- An open request of the mode master's `NRG` block for a contactor (R278). DCP and DCN are closed only while MP and MN hold:
an opening of MP or MN opens them first (R279). -/
def State.ctrOpen (s : State) (l : Lane) (c : Nat) : State :=
  let s1 := if c = ctrMP ∨ c = ctrMN then
      s.each [ctrDCP, ctrDCN] fun s x => if s.ctrClosed l x then s.ctrOpen1 l x else s
    else s
  s1.ctrOpen1 l c

/-- A write of `DSP_SOk_CMD` (R277, R345): from the mode master's port alone. -/
def State.soCmd (s : State) (l : Lane) (who : Initiator) (k : Fin 12) (v : Nat) : State :=
  if s.master ≠ l then s.accessError l who (0x40150404 + 0x10 * k.val) true .owner
  else
    let s1 := (((((s.wr .ds R.DSP_SOk_CMD.CLOSE (bits v 0 0) k).wr .ds R.DSP_SOk_CMD.ECO_EN (bits v 1 1) k).wr .ds
      R.DSP_SOk_CMD.DUTY (bits v 8 2) k).wr .ds R.DSP_SOk_CMD.FREQ (bits v 13 9) k).wr .ds R.DSP_SOk_CMD.T_PULL
      (bits v 21 14) k)
    let f := s.rd .ds R.DSP_SOk_CFG.FUNC k
    if f = soContactor ∨ f = soGeneral then (if bit v 0 then (s1.closeSo k).2 else s1.openSo k) else s1

/-- `DSP_SO_CMD` (R345, R352): from the mode master's port only; a contactor or general output follows `CLOSE`. -/
def execDspSoCmd (l : Lane) (k : Fin 12) (value : BitVec 22) (s : State) : Out :=
  .next (if s.writable l && s.depOn then s.soCmd l .ap k value.toNat else s)

end Sys2Proof.Machine
end

