-- ==== Sys2Proof/Machine/SupplyOps.lean ====
section
/-!
DEFINITION. Supplies and what rises and falls with them (chapters 02 and 16, R329, R330, R468): the loss of an island, the
Deputy's own removal, the start command of a wake, and the counting of elapsed time while Parked (R101).
-/
namespace Sys2Proof.Machine

/-! ## The islands of the lanes (R454, R372) -/

/-- An island marked qualified or not. -/
def State.setIsland (s : State) (l : Lane) (on : Bool) : State :=
  match l with
  | .a => { s with sup := { s.sup with islA := on } }
  | .b => { s with sup := { s.sup with islB := on } }

/-- The place of a supply among those of its island. -/
def supplyPlace : IslandSupply → Nat
  | .vbat => 0 | .vint => 1 | .vddc => 2 | .vddm => 3 | .vdda => 4 | .vddio b => 5 + b.val

/-- The supplies of an island that stand. -/
def State.supplies (s : State) : Lane → Nat
  | .a => s.sup.hasA
  | .b => s.sup.hasB

/-- The supplies of an island set. -/
def State.setSupplies (s : State) (l : Lane) (m : Nat) : State :=
  match l with
  | .a => { s with sup := { s.sup with hasA := m } }
  | .b => { s with sup := { s.sup with hasB := m } }

/-- A supply of an island stands. -/
def State.supplyOn (s : State) (l : Lane) (p : IslandSupply) : Bool := bit (s.supplies l) (supplyPlace p)

/-- The entries of a die that has lost `VBAT_x` dropped: the keeper's fields stay on `VKEEP` (R303, R392). -/
def dropUnpowered (d : Die) (r : RegFile) : RegFile :=
  r.filter fun e => e.1 / 2 ^ 61 != d.code || e.1 / 2 ^ 29 % 2 ^ 32 == 0x40160634 || e.1 / 2 ^ 29 % 2 ^ 32 == 0x40160638

/-- A power-and-analog die without `VBAT_x`: everything but its keeper is lost (R392, R454). -/
def State.papUnpower (s : State) (l : Lane) : State :=
  let s1 := s.modPap l fun p => { PapSt.init with keeper := p.keeper }
  { s1 with regs := dropUnpowered (papDie l) s1.regs }

/-- A lane whose island loses its supply: the lane die loses every register, the kept ones included (R357), and the lane
waits for the start command (R468). -/
def State.laneUnpower (s : State) (l : Lane) : State :=
  let s1 := s.resetIsland l .off
  s1.resetRegs (laneDie l) false

/-- The number of a supply in `PAP_SUPs_MEAS` (R392); the `VDDIO` banks have none. -/
def supplyIdx : IslandSupply → Nat
  | .vbat => 0 | .vint => 1 | .vddc => 2 | .vddm => 3 | .vdda => 4 | .vddio _ => 8

/-- What a die that stays powered shows of a supply of its island that has fallen (R372, R392). -/
def State.supplyFell (s : State) (l : Lane) (sup : IslandSupply) : State :=
  let d := papDie l
  match sup with
  | .vddio b => (s.wrBit d R.PAP_SUP_STATUS.IO_OK b false).clr d R.PAP_STATUS.SUP_OK
  | _ => (((s.wrBit d R.PAP_SUP_STATUS.OK (supplyIdx sup) false).wrBit d R.PAP_SUP_STATUS.FALL (supplyIdx sup) true).clr d
      R.PAP_STATUS.SUP_OK).inc d R.PAP_CNT.SUP_FALL

/-- A supply of an island falls (R49, R454, R372, R468): with the first the die holds the lane in reset; without `VBAT_x` the
die is unpowered itself, whatever fell before. The Deputy declares the lane lost when it had started, or when the device
is out of Parked (R59). -/
def State.islandFault (s : State) (l : Lane) (sup : IslandSupply) : State :=
  if s.island l || s.supplyOn l sup then
    let started := (s.run l).phase != .off || lanes.any fun x => (s.depLane x).st19
    let s0 := s.setSupplies l (clrBit (s.supplies l) (supplyPlace sup))
    let s1 := if s.island l then (s0.setIsland l false).laneUnpower l else s0
    let s2 := if sup = .vbat then s1.papUnpower l else s1.when (s1.pap l).powered fun s => s.supplyFell l sup
    let s4 := s2.when (sup == .vddc && (s2.pap l).powered) fun s => s.set (papDie l) R.VRC_CORE_STATUS.MON_TRIP
    if s.island l && started then s4.declare (lossOf l) 2 else s4
  else s

/-- A lane whose island has no supply as the first lane ends `ST19` is lost, but for lane B of the single-lane arrangement
(R59; when the Deputy looks is DEDUCED, log entry 43). -/
def State.checkIslands (s : State) : State :=
  s.each (if s.single then [.a] else lanes) fun s x => s.when (!s.island x) fun s => s.declare (lossOf x) 2

/-! ## Elapsed time while Parked (R101) -/

/-- The frequency of the oscillator that the Deputy counts, in mHz: the estimate for the watchdog oscillator, 32.765 kHz
for the divided RC oscillator. -/
def State.oscFreq (s : State) : Nat :=
  if s.on .ds R.DSP_PK_INFO.SOURCE then 32765000 else s.rd .ds R.DSP_PK_FREQ.MHZ

/-- The count with which the Deputy begins on an oscillator while Parked: the spec gives none, a free value (log entry 2). -/
def State.oscStart (s : State) : Nat × State :=
  let c := s.free 32
  (c.1, c.2.modDep fun d => { d with oscFrom := c.1, oscAt := s.now })

/-- A reading of the count that the Deputy keeps while Parked, since its last reading (R101): the divided RC oscillator counts
the Deputy's own 50 MHz, the watchdog oscillator what its estimate gives, within 300 ppm and two periods as a free value says
(DEDUCED from the bound, log entry 45). -/
def State.oscCount (s : State) : Nat × State :=
  let t := s.now - s.dep.oscAt
  let f := s.oscFreq
  let n : Nat := t * f / 10 ^ 11
  if s.on .ds R.DSP_PK_INFO.SOURCE then (low 32 (s.dep.oscFrom + n), s)
  else
    let k : Nat := ceilDiv (t * f * 300) (10 ^ 17) + 2
    let r := s.free 32
    (low 32 (s.dep.oscFrom + ((n : Int) + (r.1 % (2 * k + 1) : Nat) - (k : Nat)).toNat), r.2)

/-- The count up to now turned into elapsed time at the present estimate, and counting goes on from here (R101). -/
def State.oscPiece (s : State) (count : Nat) : State :=
  let n : Int := ((count + 2 ^ 32 - s.dep.oscFrom) % 2 ^ 32 * 10 ^ 11 : Nat)
  let f := s.oscFreq
  let r := if f = 0 then ((Config.unstated 101 n).natAbs, s) else
    let q := s.quot n f
    (q.1.toNat, q.2)
  r.2.modDep fun d => { d with oscElapsed := low 64 (d.oscElapsed + r.1), oscFrom := count, oscAt := s.now }

/-- Parked is entered with the lanes going Off: a counting segment begins (R101). -/
def State.parkCount (s : State) : State :=
  let c := s.oscStart
  let s1 := (((c.2.wr .ds R.DSP_PK_START.COUNT c.1).clr .ds R.DSP_PK_INFO.VALID).clr .ds R.DSP_PK_INFO.SRC_CHANGE).clr .ds
    R.DSP_PK_INFO.SOURCE
  s1.modDep fun d => { d with oscOn := true, oscElapsed := 0, oscD1 := 0, oscF1 := 0 }

/-- The bound in microseconds of a stay with at most two segments (R101): 300 ppm of the first segment's duration `d1`
(10 ns) and two periods of `f1` (mHz); after a source change 0.5 % of `d2` and two periods of 32.765 kHz. -/
def oscBound (d1 f1 : Nat) (d2 : Option Nat) : Nat :=
  match d2 with
  | none => ceilDiv (d1 * 300 * f1 + 2 * 10 ^ 17) (10 ^ 8 * f1)
  | some x => ceilDiv ((d1 * 300 + x * 5000) * f1 * 32765000 + 2 * 10 ^ 17 * (32765000 + f1)) (10 ^ 8 * f1 * 32765000)

/-- Parked is left by a wake: the segment ends and the Deputy publishes the elapsed time and its bound (R101). -/
def State.parkPublish (s : State) : State :=
  if s.dep.oscOn then
    let c := s.oscCount
    let s1 := (c.2.oscPiece c.1).wr .ds R.DSP_PK_STOP.COUNT c.1
    let e := s1.dep.oscElapsed
    let change := s1.on .ds R.DSP_PK_INFO.SRC_CHANGE
    let u := if change then oscBound s1.dep.oscD1 (orOne s1.dep.oscF1) (some (e - s1.dep.oscD1))
      else oscBound e (orOne (s1.rd .ds R.DSP_PK_FREQ.MHZ)) none
    let s2 := ((s1.wr .ds R.DSP_PK_ELAPSED_LO.TIME (e % 2 ^ 32)).wr .ds R.DSP_PK_ELAPSED_HI.TIME (e / 2 ^ 32)).wr .ds
      R.DSP_PK_UNC.US (if 0xFFFFFFFE < u then 0xFFFFFFFF else u)
    (s2.set .ds R.DSP_PK_INFO.VALID).modDep fun d => { d with oscOn := false }
  else s

/-! ## The wake (R84, R300, R468) -/

/-- A wake in Parked: the start command reaches both dies, and the wake's source shows. -/
def State.wake (s : State) (w0 w1 btn : Bool) : State :=
  if s.depOn && s.rd .ds R.DSP_MODE.MODE == modeParked && !s.dep.startCmd then
    let s1 := s.parkPublish
    let s2 := ((s1.put .ds R.DSP_WAKE_STATUS.WOKE0 w0).put .ds R.DSP_WAKE_STATUS.WOKE1 w1).put .ds
      R.DSP_WAKE_STATUS.WOKE_BTN btn
    s2.modDep fun d => { d with startCmd := true }
  else s

/-! ## The Deputy's own supply (R329, R330, R59) -/

/-- The Deputy without its function: its registers are lost, no downlink ticks, every safe output is open, no line is
driven. The heads keep their state and react on their own (R224). The lanes' request lines stay; no lane is granted. -/
def State.depGone (s : State) (phase : DepPhase) : State :=
  let s1 := (s.resetRegs .ds false).modDep fun _ => { DepSt.init with phase := phase }
  let links := updAll s1.hoist.links fun k => { HoistLink.init with head := k.head }
  let s2 := { s1 with hoist := { HoistSt.init with links := links, henHigh := s1.hoist.henHigh }, mux := MuxSt.init
                      sup := { s1.sup with parked := if s.depOn then s.rd .ds R.DSP_MODE.MODE == modeParked else s1.sup.parked } }
  let s3 := s2.each lanes fun s l =>
    (((s.clr (laneDie l) R.LNK_STATUS.GRANTED).pwmUngrant l).clr (laneDie l) R.NRG_STATUS.CLAMP).modPap l fun p =>
      { p with clamp := { p.clamp with line := false } }
  s3.syncMaster

/-- A supply voltage in the 0.25 V steps of `DSP_SUPPLY`. -/
def quarterVolts (mv : Nat) : Nat := min 255 (mv / 250)

/-- Island S qualifies (R330, R84, R469): the registers take their reset values, Deputy time starts, the device is Parked,
an active wake level starts both lanes, and a `HEN` input that stands low holds its group (R236, R53). -/
def State.depQualify (s : State) (wake0 wake1 : Bool) (vbatA vbatB vso : Nat) : State :=
  let s0 := s.depGone .on
  let s1 := { s0 with hoist := { s0.hoist with henActs := updAll s0.hoist.henHigh fun b => !b } }
  let s2 := (s1.modDep fun d => { d with t0 := s.now }).modDep fun d => { d with phase := .on }
  let s3 := (((s2.put .ds R.DSP_SUPPLY.VBAT_A_OK (decide (9000 ≤ vbatA))).put .ds R.DSP_SUPPLY.VBAT_B_OK
    (decide (9000 ≤ vbatB))).put .ds R.DSP_SUPPLY.VSO_OK (decide (9000 ≤ vso))).wr .ds R.DSP_SUPPLY.VBAT_A
    (quarterVolts vbatA)
  let s4 := ((s3.wr .ds R.DSP_SUPPLY.VBAT_B (quarterVolts vbatB)).set .ds R.DSP_OSC.OK).set .ds R.DSP_STATUS.OSC_OK
  let s5 := (s4.put .ds R.DSP_WAKE_STATUS.WAKE0 wake0).put .ds R.DSP_WAKE_STATUS.WAKE1 wake1
  let s6 := s5.each lanes fun s l => s.when (s.on (laneDie l) R.LNK_STATUS.AUTH_REQ) fun s => s.set .ds (reqFld l)
  if wake0 || wake1 then s6.wake wake0 wake1 false else s6

end Sys2Proof.Machine
end

