-- ==== Sys2Proof/Machine/DsOps.lean ====
section
/-!
DEFINITION. What a lane does about the Deputy: what it sees of it, the declaration of its loss and the lane's own timer and
Safe stop (R28, R31, R340), and the declarations of a lane's own network and sensor classes (R27, R337).
-/
namespace Sys2Proof.Machine

/-- A lane's link side changed by `f`. -/
def State.modLnk (s : State) (l : Lane) (f : LinkSt → LinkSt) : State := s.modRun l fun r => { r with link := f r.link }

/-- `DEPUTY_SEEN` of a lane (R28, R306): it has seen `DSP_ALIVE` change within the last 10 us. -/
def State.deputySeen (s : State) (l : Lane) : Bool :=
  s.past l 14 && (s.run l).phase != .portFault && decide (s.now ≤ (s.run l).sup.seenAt + 10 * us)

/-- The lane's configuration selects the single-lane arrangement (R38). -/
def State.singleCfg (s : State) (l : Lane) : Bool := s.on (laneDie l) R.CFG_CONTAINER.ARRANGEMENT

/-- `DURATION` of the `DSP_DEG_CFG` triple of a lane's base image, in seconds (R340). -/
def State.baseDuration (s : State) (l : Lane) : Nat :=
  match (s.run l).start.container with
  | none => 600
  | some c => match (c.base.triples.filter fun t => t.addr == 0x4015002C).getLast? with
    | none => 600
    | some t => degDuration (bits (t.value &&& t.mask) 10 0)

/-- The lane's port claims `TIM7` (R340): a one-shot of `n` ms. -/
def State.claimTim7 (s : State) (l : Lane) (n : Nat) : State :=
  let d := laneDie l
  let s1 := ((((s.set d R.TIM_Tn_CFG.EN 7).clr d R.TIM_Tn_CFG.PERIODIC 7).clr d R.TIM_Tn_CFG.SYNC 7).wr d
    R.TIM_Tn_CFG.UNIT 2 7).wr d R.TIM_Tn_LOAD.COUNTS n 7
  let s2 := s1.modTim l 7 fun _ => { start := some (s1.laneTime l), load := orOne (low 32 n), unit := ms, sync := false }
  (s2.modSup l fun x => { x with tim7 := true }).set d R.CFG_MODE.DEGRADED

/-- What the lane's port does as the lane declares DS (R340): on the last sample it enters the lane form, takes over the
running time less 1 and less the whole milliseconds since the sample, or starts the configured duration. The single-lane
arrangement has no timer (R40). -/
def State.portTimer (s : State) (l : Lane) : State :=
  let x := (s.run l).sup
  if s.singleCfg l then s
  else if x.sampleSafe then s.laneForm l
  else if x.sampleRun then
    let gone := ceilDiv (s.now - x.sampleAt) ms + 1
    if x.sampleRemain ≤ gone then s.laneForm l else s.claimTim7 l (x.sampleRemain - gone)
  else s.claimTim7 l (s.baseDuration l * 1000)

/-- A lane declares DS (R27, R28, R340); a partner whose island is unpowered is lost with it (R59). -/
def State.declareDs (s : State) (l : Lane) : State :=
  if s.dsLost l then s
  else
    let s1 := s.modSup l fun x => { x with lost := setBit x.lost FaultClass.ds.code, suspectAt := none }
    let s2 := ((s1.log l 37 (FaultClass.ds.code * 32)).portTimer l).laneOutcome l
    (if s2.island l.other || s2.singleCfg l then s2 else s2.ownRecord l (lossOf l.other) 2).syncMaster

/-- A lane declares one of its own classes, its network or its sensor set (R27, R337): at the Deputy; after a DS declaration
in its own record and its partner's, with an event on the `Q09` of each lane that is not lost (R37). -/
def State.laneDeclare (s : State) (l : Lane) (c : FaultClass) : State :=
  let s1 := s.set (laneDie l) R.LNK_CHS_STATUS.DECLARED
  if s1.depOn && !s1.dsLost l && (s1.run l).phase != .portFault then
    (s1.modSup l fun x => { x with lost := setBit x.lost c.code }).declare c 8
  else
    let s2 := if s1.dsLost l then s1.ownRecord l c 8
      else (s1.modSup l fun x => { x with lost := setBit x.lost c.code }).log l 37 (c.code * 32 + 8)
    if s2.on (laneDie l) R.LNK_STATUS.LINK_UP then s2.ownRecord l.other c 8 else s2

/-- A lane judges its own Deputy port faulty (R28): it lowers its request, its owned windings go off, it resets itself
100 us later. -/
def State.portFault (s : State) (l : Lane) : State :=
  let s1 := s.modRun l fun r => { r with phase := .portFault, sup := { r.sup with suspectAt := some s.now } }
  let s2 := (s1.clr (laneDie l) R.LNK_STATUS.AUTH_REQ).when s1.depOn fun s => s.clr .ds (reqFld l)
  ((s2.removeGrant l).windingsOff l).grantLogic

end Sys2Proof.Machine
end

