-- ==== Sys2Proof/Machine/NetOps.lean ====
section
/-!
DEFINITION. Network time (R99, R100, R320) and the shared operations of the CAN controllers and Ethernet MACs (chapter 18):
their tables, the schedule matrix, submissions, and how a network entry ends.
-/
namespace Sys2Proof.Machine

/-! ## Time across the lanes -/

/-- A 64-bit count from its two register words. -/
def State.rd64 (s : State) (l : Lane) (lo hi : Fld) : Nat := s.rd (laneDie l) lo + s.rd (laneDie l) hi * 2 ^ 32

/-- A 64-bit count stored in its two register words. -/
def State.wr64 (s : State) (l : Lane) (lo hi : Fld) (v : Nat) : State :=
  (s.wr (laneDie l) lo (v % 2 ^ 32)).wr (laneDie l) hi (v / 2 ^ 32)

/-- Partner time less own time (R100). -/
def State.partnerOfs (s : State) (l : Lane) : Int := sx 64 (s.rd64 l R.TIM_PARTNER_OFS_LO.OFS R.TIM_PARTNER_OFS_HI.OFS)

/-- The mode master's lane time as a lane computes it (R100, R320). -/
def State.masterTime (s : State) (l : Lane) : Nat :=
  if s.master = l then s.laneTime l else ((s.laneTime l : Int) + s.partnerOfs l).toNat

/-- The instant at which the master's lane time reads `t`, as a lane computes it. -/
def State.instantOfMaster (s : State) (l : Lane) (t : Nat) : Nat := s.now + (t - s.masterTime l)

/-- The number of the next multiple of `per` at or after `t` that is not number `last`: the boundary that falls now, unless it
has been taken already. -/
def nextMultiple (t per last : Nat) : Nat := if t % per = 0 ∧ t / per ≠ last then t / per else t / per + 1

/-- Network time of a lane, none with source 0 (R99). -/
def State.netTime (s : State) (l : Lane) : Option Nat :=
  if s.rd (laneDie l) R.TIM_QUAL.SOURCE = 0 then none
  else some (low 64 (s.laneTime l + s.rd64 l R.TIM_EPOCH_LO.EPOCH R.TIM_EPOCH_HI.EPOCH))

/-- The uncertainty of network time in us (R99): after a lapse that leaves the source at network it grows by 100 ppm of the
time since the last synchronisation. -/
def State.netUnc (s : State) (l : Lane) : Nat :=
  let c := (s.run l).clk
  if c.lapsed then min 0xFFFFFFFF (c.syncUnc + ceilDiv (s.laneTime l - c.lastSync) 1000000)
  else s.rd (laneDie l) R.TIM_UNC.US

/-! ## Bytes and words -/

/-- The little-endian 32-bit words of a list of bytes, padded with zeros. -/
def wordsOf (bs : List Nat) : Nat → List Nat
  | 0 => []
  | n + 1 => leNat (bs.take 4) :: wordsOf (bs.drop 4) n

/-- A 40-bit deadline from its two words. -/
def dl40 (lo hi : Nat) : Nat := lo + hi * 2 ^ 32

/-! ## CAN controllers (R406 to R416) -/

/-- A CAN controller of a lane. -/
def State.canSt (s : State) (l : Lane) (n : Fin 4) : CanSt := (s.run l).can[n]

/-- A CAN controller changed by `f`. -/
def State.modCan (s : State) (l : Lane) (n : Fin 4) (f : CanSt → CanSt) : State :=
  s.modRun l fun r => { r with can := upd r.can n f }

/-- A word of a controller's tables (R407). -/
def State.canWord (s : State) (l : Lane) (n : Fin 4) (o : Nat) : Nat :=
  s.tableWord l (tableKey (0x400F0000 + 0x4000 * n.val + o))

/-- Word `w` of template `t` (R408). -/
def State.tmpl (s : State) (l : Lane) (n : Fin 4) (t w : Nat) : Nat := s.canWord l n (0x400 + 16 * t + 4 * w)

/-- The format of a template: 0 classical, 1 FD, 2 XL, 3 invalid. -/
def State.tmplFormat (s : State) (l : Lane) (n : Fin 4) (t : Nat) : Nat := bits (s.tmpl l n t 0) 31 30

/-- The data length of a template. -/
def State.tmplLen (s : State) (l : Lane) (n : Fin 4) (t : Nat) : Nat := bits (s.tmpl l n t 1) 11 0

/-- A template that is sent in schedule cells only. -/
def State.tmplSched (s : State) (l : Lane) (n : Fin 4) (t : Nat) : Bool := bit (s.tmpl l n t 1) 13

/-- The pool offset of a template's data. -/
def State.tmplData (s : State) (l : Lane) (n : Fin 4) (t : Nat) : Nat := bits (s.tmpl l n t 3) 13 2 * 4

/-- A length that a format admits (R408). -/
def lenOk (format len : Nat) : Bool :=
  match format with
  | 0 => decide (len ≤ 8)
  | 1 => decide (len ≤ 8) || [12, 16, 20, 24, 32, 48, 64].contains len
  | 2 => decide (1 ≤ len) && decide (len ≤ 2048)
  | _ => false

/-- A format that the controller is enabled for. -/
def State.formatOn (s : State) (l : Lane) (n : Fin 4) (format : Nat) : Bool :=
  match format with
  | 0 => true
  | 1 => s.on (laneDie l) R.CANn_CTRL.FD_EN n
  | 2 => s.on (laneDie l) R.CANn_CTRL.XL_EN n
  | _ => false

/-- A template that R409 accepts. -/
def State.tmplOk (s : State) (l : Lane) (n : Fin 4) (t : Nat) : Bool :=
  s.formatOn l n (s.tmplFormat l n t) && lenOk (s.tmplFormat l n t) (s.tmplLen l n t)
    && decide (s.tmplData l n t + s.tmplLen l n t ≤ 0x4000)

/-- The template of an entry's frame. -/
def Job.template : Job → Nat
  | .can t => t
  | .chassis t _ => t
  | _ => 64

/-- The base cycle length in counts of lane time (R415). -/
def State.baseCycle (s : State) (l : Lane) (n : Fin 4) : Nat := clampN 1 1000 (s.rd (laneDie l) R.CANn_SCHED.BC n) * 10000

/-- The start and end of a column's window within its base cycle, in counts (R415). -/
def State.column (s : State) (l : Lane) (n : Fin 4) (c : Nat) : Nat × Nat :=
  let w := s.canWord l n (0x1000 + 4 * c)
  (bits w 19 0 * us, bits w 19 0 * us + bits w 31 20 * 10 * us)

/-- A column that is used: its window ends within the base cycle and overlaps no other (R415). -/
def State.columnOk (s : State) (l : Lane) (n : Fin 4) (c : Nat) : Bool :=
  let pr1 := s.column l n c
  let a := pr1.1
  let b := pr1.2
  decide (b ≤ s.baseCycle l n) && (List.range 32).all fun k =>
    let pr2 := s.column l n k
    let x := pr2.1
    let y := pr2.2
    k == c || decide (b ≤ x) || decide (y ≤ a) || decide (y ≤ x)

/-- A matrix cell (R407): enabled, and its template. -/
def State.cell (s : State) (l : Lane) (n : Fin 4) (b c : Nat) : Bool × Nat :=
  let w := s.canWord l n (0x800 + 4 * (32 * b + c))
  (bit w 0, bits w 6 1)

/-- Where the matrix stands, in counts since its last restart (R415). -/
def State.matrixPos (s : State) (l : Lane) (n : Fin 4) : Nat := s.masterTime l % (16 * s.baseCycle l n)

/-- Counts until the next start of an enabled cell whose template meets `p`, none if there is no such cell (R416). -/
def State.nextCellOf (s : State) (l : Lane) (n : Fin 4) (p : Nat → Bool) : Option Nat :=
  let bc := s.baseCycle l n
  let x := s.matrixPos l n
  if s.on (laneDie l) R.CANn_SCHED_STATUS.RUNNING n then
    let ds := (List.range 512).filterMap fun k =>
      let e := s.cell l n (k / 32) (k % 32)
      if e.1 && p e.2 && s.columnOk l n (k % 32) then
        some ((k / 32 * bc + (s.column l n (k % 32)).1 + 16 * bc - x - 1) % (16 * bc) + 1)
      else none
    ds.min?
  else none

/-- Counts until the next start of a cell that names template `t` (R416). -/
def State.nextCell (s : State) (l : Lane) (n : Fin 4) (t : Nat) : Option Nat := s.nextCellOf l n (· == t)

/-- Counts until the next enabled window opens (R416). -/
def State.nextWindow (s : State) (l : Lane) (n : Fin 4) : Option Nat := s.nextCellOf l n fun _ => true

/-! ### The length of a frame (R406, R410, R416) -/

/-- The periods of the 80 MHz CAN clock in one bit (R406). -/
def bitClocks (brp seg1 seg2 : Nat) : Nat := brp * (1 + seg1 + seg2)

/-- A prescaler, of which 0 acts as the largest (R418). -/
def prescaler (v most : Nat) : Nat := if v = 0 then most else v

/-- The periods of the CAN clock in a nominal bit, in a bit of the FD data phase and in one of the XL data phase. -/
def State.canBits (s : State) (l : Lane) (n : Fin 4) : Nat × Nat × Nat :=
  let d := laneDie l
  (bitClocks (prescaler (s.rd d R.CANn_NBT.BRP n) 256) (s.rd d R.CANn_NBT.SEG1 n) (s.rd d R.CANn_NBT.SEG2 n),
   bitClocks (prescaler (s.rd d R.CANn_DBT.BRP n) 32) (s.rd d R.CANn_DBT.SEG1 n) (s.rd d R.CANn_DBT.SEG2 n),
   bitClocks (prescaler (s.rd d R.CANn_XBT.BRP n) 32) (s.rd d R.CANn_XBT.SEG1 n) (s.rd d R.CANn_XBT.SEG2 n))

/-- The bits of a frame with worst-case stuffing, to the end of intermission, at the nominal rate and in the data phase, by
format, 29-bit identifier and length: those of FD follow the worked example of chapter 18, the others are those of
ISO 11898-1 as generally known (PRESUMED, log entry 19). -/
def frameBits (format : Nat) (ide : Bool) (len : Nat) : Nat × Nat :=
  match format with
  | 0 =>
    let n := (if ide then 54 else 34) + 8 * len
    (n + (n - 1) / 4 + 13, 0)
  | 1 =>
    let n := if ide then 36 else 17
    let m := 5 + 8 * len
    (n + (n - 1) / 4 + 13, m + ceilDiv m 4 + (if len ≤ 16 then 27 else 32))
  | _ =>
    let m := 113 + 8 * len
    (36, m + ceilDiv m 10 + 5)

/-- The worst-case frame time of a template in counts (R410, R416). -/
def State.frameTime (s : State) (l : Lane) (n : Fin 4) (t : Nat) : Nat :=
  let fm := s.tmplFormat l n t
  let b := frameBits fm (bit (s.tmpl l n t 0) 29) (s.tmplLen l n t)
  let c := s.canBits l n
  let data := if fm = 2 then c.2.2 else if bit (s.tmpl l n t 1) 12 then c.2.1 else c.1
  ceilDiv ((b.1 * c.1 + b.2 * data) * 5) 4

/-- An event entry of template `t` ends before the next enabled window opens (R416). -/
def State.canFits (s : State) (l : Lane) (n : Fin 4) (t : Nat) : Bool :=
  match s.nextWindow l n with
  | none => true
  | some d => decide (s.frameTime l n t ≤ d)

/-- A frame handed over to the chassis supervision by receive template `t` (R327, R413, R424). -/
def State.handNode (s : State) (l : Lane) (t : Nat) (bytes : List Nat) : State :=
  s.modRun l fun r => { r with chs := { r.chs with handed := r.chs.handed ++ [(t, bytes)] } }

/-- What R416 adds to the cost of a template, in sixteenths of a count. A scheduled template that no running cell names has
no next cell: its wait has no end (DEDUCED, log entry 18). -/
def State.schedCost (s : State) (l : Lane) (n : Fin 4) (t : Nat) : Nat :=
  if s.tmplSched l n t then
    match s.nextCell l n t with
    | some d => 16 * d
    | none => 2 ^ 80
  else 0

/-- An outcome posted for an entry of a network queue; a chassis frame that is not `DONE` counts in `TX_FAIL` (R328). -/
def State.postNet (s : State) (l : Lane) (e : TalEntry) (code : OutcomeCode) : State :=
  let s1 := s.post l e code
  match e.job with
  | .chassis _ _ => if code = .done then s1 else s1.inc (laneDie l) R.LNK_CHS_CNT.TX_FAIL
  | _ => s1

/-- An entry that was just admitted ends `FAILED_OFF` where its block is off (R112), and `FAILED_NOACK` where its link is
down (R420). -/
def State.endNew (s : State) (l : Lane) (a : Admission) (code : Option OutcomeCode) : State :=
  match a, code with
  | .admitted id, some c => match (s.tal l).find id with
    | some e => s.postNet l e c
    | none => s
  | _, _ => s

/-- A frame submitted to a CAN controller (R409, R416): the code of `CANn_TX_RESULT` and the identifier. -/
def State.canSubmit (s : State) (l : Lane) (who : Initiator) (n : Fin 4) (t dl : Nat) (job : Job) : Nat × Nat × State :=
  if ((s.tal l).ofQueue n).any fun e => e.job.template == t then (3, 0, s)
  else if !s.tmplOk l n t then (4, 0, s)
  else
    let r := s.submit l who n (s.tmplLen l n t) dl job (s.schedCost l n t)
    (r.1.code, r.1.id, r.2.endNew l r.1 (if s.on (laneDie l) R.CANn_CTRL.EN n then none else some .failedOff))

/-- Message RAM words written from byte offset `o` on. -/
def State.setRam (s : State) (l : Lane) (n : Fin 4) (o : Nat) (ws : List Nat) : State :=
  s.each ws.zipIdx fun s x => s.setTable l (ramKey n (o + 4 * x.2)) x.1

/-! ## Ethernet MACs (R419 to R425) -/

/-- A MAC of a lane. -/
def State.ethSt (s : State) (l : Lane) (m : Fin 3) : EthSt := (s.run l).eth[m]

/-- A MAC changed by `f`. -/
def State.modEth (s : State) (l : Lane) (m : Fin 3) (f : EthSt → EthSt) : State :=
  s.modRun l fun r => { r with eth := upd r.eth m f }

/-- The link of a MAC is up; the link of the 10BASE-T1S port reads up while `EN` is set (R426). -/
def State.ethUp (s : State) (l : Lane) (m : Fin 3) : Bool :=
  if m = 2 then s.on (laneDie l) R.ETHm_CFG.EN m else s.on (laneDie l) R.ETHm_LINK.UP m

/-- How an entry admitted to a MAC ends at once, if it does (R112, R420). -/
def State.ethEnds (s : State) (l : Lane) (m : Fin 3) : Option OutcomeCode :=
  if !s.on (laneDie l) R.ETHm_CFG.EN m then some .failedOff
  else if s.ethUp l m then none
  else some .failedNoack

/-- A frame submitted to a MAC (R420). -/
def State.ethSubmit (s : State) (l : Lane) (who : Initiator) (m : Fin 3) (size dl : Nat) (job : Job) : Nat × Nat × State :=
  let r := s.submit l who (4 + m.val) size dl job
  (r.1.code, r.1.id, r.2.endNew l r.1 (s.ethEnds l m))

/-- Word `w` of header template `t` of a MAC (R424). -/
def State.ethTmpl (s : State) (l : Lane) (m t w : Nat) : Nat :=
  s.tableWord l (tableKey (0x40100800 + 0x100 * m + 16 * t + 4 * w))

/-! ## The chassis frame on its network (R321, R424) -/

/-- The chassis frame submitted on the controller that `LNK_CHS_NET` names: a CAN template takes its data in the pool, an
Ethernet frame gets its header and is padded to the minimum. A submission that is not admitted counts in `TX_FAIL`. -/
def State.chassisSend (s : State) (l : Lane) (dl : Nat) (bytes : List Nat) : State :=
  let d := laneDie l
  let c := s.rd d R.LNK_CHS_NET.CTRL
  let t := s.rd d R.LNK_CHS_NET.TEMPLATE
  if h : c < 4 then
    let n : Fin 4 := ⟨c, h⟩
    let t := t % 64
    let busy := ((s.tal l).ofQueue n).any fun e => e.job.template == t
    let s1 := if busy then s else s.setRam l n (s.tmplData l n t) (wordsOf bytes (ceilDiv bytes.length 4))
    let r := s1.canSubmit l .lnk n t dl (.chassis t bytes)
    r.2.2.when (r.1 != 0) fun s => s.inc d R.LNK_CHS_CNT.TX_FAIL
  else if h : c < 6 then
    let m : Fin 3 := ⟨c - 4, by omega⟩
    let t := t % 16
    let tag := if bit (s.ethTmpl l m t 2) 0 then 4 else 0
    let r := s.ethSubmit l .lnk m (max 60 (14 + tag + bytes.length)) dl (.chassis t bytes)
    r.2.2.when (r.1 != 0) fun s => s.inc d R.LNK_CHS_CNT.TX_FAIL
  else s

end Sys2Proof.Machine
end

