-- ==== Sys2Proof/Machine/AsyOps.lean ====
section
/-!
DEFINITION. The Assay's shared operations (R427 to R441): integration, captures, commits and the ledger.
-/
namespace Sys2Proof.Machine

/-- `n` free words. -/
def State.freeWords (s : State) : Nat → List Nat × State
  | 0 => ([], s)
  | n + 1 =>
    let pr1 := s.free 32
    let w := pr1.1
    let s1 := pr1.2
    let pr2 := s1.freeWords n
    let r := pr2.1
    let s2 := pr2.2
    (w :: r, s2)

/-- The Assay of a lane. -/
def State.asy (s : State) (l : Lane) : AsySt := (s.run l).asy

/-- The Assay of a lane changed by `f`. -/
def State.modAsy (s : State) (l : Lane) (f : AsySt → AsySt) : State := s.modRun l fun r => { r with asy := f r.asy }

/-- The Assay is in use: enabled, from the end of `ST10` on (R427). -/
def State.asyOn (s : State) (l : Lane) : Bool := s.on (laneDie l) R.ASY_CTRL.EN && s.past l 10

/-! ## Metering (R427 to R429) -/

/-- Both filters of the Assay have `VALID` set (R428). -/
def State.asyValid (s : State) (l : Lane) : Bool :=
  let d := laneDie l
  let ok := fun n => decide (n < 12) && s.on d R.SDF_Fn_STATUS.VALID n
  ok (s.rd d R.ASY_CTRL.V_SDF) && ok (s.rd d R.ASY_CTRL.I_SDF)

/-- Meter fault time up to now added to `ASY_FAULT_TIME` and to the record's period (R428). -/
def State.asyFaultUpTo (s : State) (l : Lane) (since : Nat) : State :=
  let dt := s.now - since
  let total := (s.asy l).faultMore + dt
  (s.inc (laneDie l) R.ASY_FAULT_TIME.MS 0 0 (total / ms)).modAsy l fun a =>
    { a with faultMore := total % ms, faultTime := a.faultTime + dt }

/-- The flags of R433 that the model sets. -/
def flGap : Nat := 0
/-- `ADOPTED`. -/
def flAdopted : Nat := 1
/-- `ENV`. -/
def flEnv : Nat := 2
/-- `METER_FAULT`. -/
def flMeter : Nat := 3
/-- `TIME_UNKNOWN`. -/
def flTime : Nat := 4
/-- `LEDGER_OVR`. -/
def flOvr : Nat := 5
/-- `SEALED`. -/
def flSealed : Nat := 6
/-- `COUNTERSIGNED`. -/
def flCounter : Nat := 7
/-- `OPENER_SIGNED`. -/
def flOpener : Nat := 8
/-- `PEND_OVR`. -/
def flPend : Nat := 9
/-- `ADOPT_HIGH`. -/
def flHigh : Nat := 10

/-- A flag set for the next record. -/
def State.asyFlag (s : State) (l : Lane) (b : Nat) : State := s.modAsy l fun a => { a with flags := setBit a.flags b }

/-- Integration brought up to date with the validity of the filters (R428). -/
def State.asySync (s : State) (l : Lane) : State :=
  let d := laneDie l
  if s.asyOn l && !(s.asy l).stopped then
    if s.asyValid l then
      let s1 := match (s.asy l).faultFrom with
        | some t => (s.asyFaultUpTo l t).modAsy l fun a => { a with faultFrom := none }
        | none => s
      s1.set d R.ASY_STATUS.RUN
    else
      let s1 := match (s.asy l).faultFrom with
        | some t => s.asyFaultUpTo l t
        | none => s
      ((((s1.clr d R.ASY_STATUS.RUN).set d R.ASY_STATUS.METER_FAULT).asyFlag l flMeter).modAsy l fun a =>
        { a with faultFrom := some s.now, good := false })
  else s

/-- The triggers of R431, by their bits. -/
def trgOrigin : Nat := 0
/-- `KWH_IMPORT`. -/
def trgImport : Nat := 1
/-- `KWH_EXPORT`. -/
def trgExport : Nat := 2
/-- `MODE`. -/
def trgMode : Nat := 3
/-- `REQUEST`. -/
def trgRequest : Nat := 4
/-- `AUTHORITY`. -/
def trgAuthority : Nat := 5
/-- `KEEPER`. -/
def trgKeeper : Nat := 6
/-- `HOLDUP`. -/
def trgHoldup : Nat := 7
/-- `DEBUG_OPEN`. -/
def trgDebug : Nat := 8
/-- `LIFECYCLE`. -/
def trgLifecycle : Nat := 9
/-- `RESTART`. -/
def trgRestart : Nat := 10

/-- A trigger arises (R431). -/
def State.asyTrigger (s : State) (l : Lane) (b : Nat) : State :=
  if s.asyOn l then s.modAsy l fun a => { a with triggers := setBit a.triggers b } else s

/-- uWh in a kWh. -/
def kWh : Nat := 1000000000

/-- Energy in 2^-32 uWh added (R428, R429): whole uWh leave the residue for the import or the export counters. -/
def State.asyAdd (s : State) (l : Lane) (e : Int) : State :=
  let a := s.asy l
  let r := a.residue + e
  let whole := Int.tdiv r (2 ^ 32)
  let imp := if 0 < whole then whole.toNat else 0
  let exp := if whole < 0 then (-whole).toNat else 0
  let m : Fin 8 := ⟨s.modeOf l % 8, Nat.mod_lt _ (by decide)⟩
  let s1 := s.modAsy l fun a =>
    { a with residue := r - whole * 2 ^ 32, imp := a.imp + imp, exp := a.exp + exp,
             modes := upd a.modes m fun x => (x.1 + imp, x.2 + exp) }
  let s2 := if a.imp / kWh < (a.imp + imp) / kWh then s1.asyTrigger l trgImport else s1
  if a.exp / kWh < (a.exp + exp) / kWh then s2.asyTrigger l trgExport else s2

/-- The product of the full scales. -/
def State.asyScale (s : State) (l : Lane) : Int :=
  (s.rd (laneDie l) R.ASY_SCALE.V_FS * s.rd (laneDie l) R.ASY_SCALE.I_FS : Nat)

/-- A main result of the current filter (R428): e = v i dt in 2^-32 uWh, with v and i in 2^-30 of their full scales and dt
in 10 ns. After a fault the interval counts only where it is at most 100 us. -/
def State.asyCurrent (s : State) (l : Lane) (i : Int) (t : Nat) : State :=
  let d := laneDie l
  let s0 := s.asySync l
  let a := s0.asy l
  if s0.asyValid l then
    let p := a.volt * i * s0.asyScale l
    let s1 := match a.stamp with
      | some t0 =>
        if a.good || decide (t ≤ t0 + 100 * us) then
          let pr1 := s0.quot (p * (t - t0)) (2 ^ 28 * 360000)
          let e := pr1.1
          let s1 := pr1.2
          s1.asyAdd l e
        else s0
      | none => s0
    let pr2 := s1.quot p (2 ^ 60)
    let w := pr2.1
    let s2 := pr2.2
    let out := fun (f : Nat) => decide (f < 12) && (s2.rd d R.SDF_Fn_ENV.STATE f == envOutside
      || s2.rd d R.SDF_Fn_ENV.STATE f == envFallback)
    let s3 := if out (s2.rd d R.ASY_CTRL.V_SDF) || out (s2.rd d R.ASY_CTRL.I_SDF) then s2.asyFlag l flEnv else s2
    (s3.wrS d R.ASY_POWER.W w).modAsy l fun a => { a with amp := i, good := true, stamp := some t }
  else s0.modAsy l fun a => { a with amp := i }

/-- A main result of a filter with `DEST_ASY` (R143, R427, R428). -/
def State.asyResult (s : State) (l : Lane) (n : Nat) (v : Int) (t : Nat) : State :=
  let d := laneDie l
  if s.asyOn l && !(s.asy l).stopped then
    let s1 := if s.rd d R.ASY_CTRL.V_SDF = n then s.modAsy l fun a => { a with volt := v } else s
    if s.rd d R.ASY_CTRL.I_SDF = n then s1.asyCurrent l v t else s1
  else s

/-! ## The ledger (R433 to R435) -/

/-- The newest record of a list by sequence. -/
def newestRec (rs : List LedgerRec) : Option LedgerRec :=
  rs.foldl (fun m x => match m with
    | none => some x
    | some y => if y.seq < x.seq then some x else some y) none

/-- The slot after a slot in the record ring (R435). -/
def nextSlot (n : Nat) : Nat := if n < 4 ∨ 65535 ≤ n then 4 else n + 1

/-- The slot `k` steps on. -/
def slotAfter (n : Nat) : Nat → Nat
  | 0 => n
  | k + 1 => nextSlot (slotAfter n k)

/-- The 128 bytes of a record of lane `l` (R433). -/
def LedgerRec.bytes (r : LedgerRec) (l : Lane) : List Nat :=
  leBytes 0x41535952 4 ++ [1, l.idx.val] ++ leBytes r.triggers 2 ++ leBytes r.seq 4 ++ [r.mode, r.lifecycle] ++ leBytes r.flags 2
    ++ leBytes r.laneTime 8 ++ leBytes r.netTime 8 ++ leBytes r.unc 4 ++ leBytes r.version 4 ++ leBytes r.imp 8
    ++ leBytes r.exp 8 ++ leBytes r.modeImp 8 ++ leBytes r.modeExp 8 ++ leBytes r.env 4 ++ leBytes r.packV 2
    ++ leBytes (ux 16 r.packI) 2 ++ leBytes r.faultMs 4 ++ leBytes r.prevSlot 4 ++ leBytes 0 8 ++ fill 32 r.link

/-- The record and its signature, which the link of the next record covers (R433, R434). -/
def LedgerRec.linked (r : LedgerRec) (l : Lane) : List Nat := r.bytes l ++ fill 512 r.signature

/-- The 1 KiB of a slot (R434). -/
def LedgerRec.slotBytes (r : LedgerRec) (l : Lane) : List Nat :=
  let b := r.linked l ++ fill 12 r.nonce ++ fill 16 r.tag ++ List.replicate 352 0
  b ++ leBytes (crc32c b) 4

/-- A record as its slot holds it: signed with the identity key of its lane unless it carries its opener's signature, or sealed
under the ledger seal (R434, R440; the values are those of the cryptography, log entry 21). -/
def LedgerRec.finish (r : LedgerRec) (l : Lane) : LedgerRec :=
  let b := r.bytes l
  let r1 := if r.signed ∧ r.signature = [] then
      { r with signature := (List.range 512).map fun i => low 8 (Config.crypto 8 l.idx b [] i) } else r
  if r.isSealed ∧ r.tag = [] then
    { r1 with tag := (List.range 16).map fun i => low 8 (Config.crypto 3 l.idx b r.nonce (128 + i)) } else r1

/-- A slot written into the ledger partition of the eMMC window (R64, R434). -/
def State.slotWrite (s : State) (l : Lane) (r : LedgerRec) : State :=
  (s.modNv l fun n => { n with ledger := (n.ledger.filter fun x => x.slot != r.slot) ++ [r] }).emmcProgram l
    (0x50000000 + 1024 * r.slot) (r.slotBytes l)

/-- A record written to the ring after the newest one (R433, R435), `skip` slots further for each failed write before. -/
def State.ledgerWrite (s : State) (l : Lane) (r : LedgerRec) (skip : Nat) : State :=
  let d := laneDie l
  let old := newestRec (s.nv l).ledger
  let seq := match old with
    | some x => x.seq + 1
    | none => 0
  let slot := slotAfter (match old with
    | some x => x.slot
    | none => 3) (skip + 1)
  let ovr := (s.nv l).ledger.any fun x => x.slot == slot && decide (s.rd d R.ASY_READ_MARK.SEQ < x.seq)
  let rec1 := LedgerRec.finish (l := l) { r with
    seq := seq, slot := slot, flags := if ovr then setBit r.flags flOvr else r.flags
    prevSlot := match old with
      | some x => x.slot
      | none => 0
    link := match old with
      | some x => (List.range 32).map fun i => low 8 (Config.crypto 1 2 (x.linked l) [] i)
      | none => [] }
  let s1 := s.slotWrite l rec1
  let s2 := (s1.wr d R.ASY_SEQ.SEQ seq).wr d R.ASY_SLOT.SLOT slot
  s2.when ovr fun s => s.set d R.ASY_STATUS.LEDGER_OVR

/-! ## Captures and commits (R431, R432) -/

/-- The lane is the committing lane (R431). -/
def State.committer (s : State) (l : Lane) : Bool :=
  s.running l && (match s.holder with
    | some x => x == l
    | none => s.master == l)

/-- The lane may commit records of its own: a usable identity key, in PRODUCE or FIELD (R431, R442). -/
def State.mayCommit (s : State) (l : Lane) : Bool :=
  s.on (laneDie l) R.SEC_LC.KEYS && ((s.nv l).lifecycle == 2 || (s.nv l).lifecycle == 3)

/-- A record captured now (R431, R433), with its triggers and with flags of its own added to those of the period. -/
def State.capture (s : State) (l : Lane) (triggers more : Nat) : LedgerRec × State :=
  let d := laneDie l
  let a := s.asy l
  let m := match a.modeLeft with
    | some x => if bit triggers trgMode then x.1 else s.modeOf l
    | none => s.modeOf l
  let c := (a.modes.toList.getD m (0, 0))
  let s0 := match a.faultFrom with
    | some t => (s.asyFaultUpTo l t).modAsy l fun a => { a with faultFrom := some s.now }
    | none => s
  let pr3 := s0.quot (a.volt * s.rd d R.ASY_SCALE.V_FS * 10) (2 ^ 30)
  let v := pr3.1
  let s1 := pr3.2
  let pr4 := s1.quot (a.amp * s.rd d R.ASY_SCALE.I_FS * 10) (2 ^ 30)
  let i := pr4.1
  let s2 := pr4.2
  let env := fun n => if n < 12 then s.rd d R.SDF_Fn_ENV.STATE n else 0
  let time := match s.netTime l with
    | some _ => 0
    | none => 2 ^ flTime
  let fault := if a.faultFrom.isSome then 2 ^ flMeter else 0
  (LedgerRec.mk 0 0 triggers m (if bit triggers trgMode then a.modeLeft.map Prod.snd else none)
      ((s2.asy l).flags ||| more ||| time ||| fault) (s.laneTime l) ((s.netTime l).getD (2 ^ 64 - 1))
      (s.netUnc l) (s.rd d R.CFG_VERSION.VERSION) (s.nv l).lifecycle a.imp a.exp c.1 c.2
      (env (s.rd d R.ASY_CTRL.V_SDF) + 4 * env (s.rd d R.ASY_CTRL.I_SDF)) (clampI 0 65535 v).toNat (satS 16 i)
      (min ((s2.asy l).faultTime / ms) 0xFFFFFFFF) 0 true false (bit more flSealed) [] [] [] [],
    s2.modAsy l fun a => { a with triggers := 0, modeLeft := none, flags := 0, faultTime := 0, restarted := true })

/-- The deadline of a record's commit (R432, R446). -/
def State.commitDl (s : State) (l : Lane) (r : LedgerRec) : Nat :=
  let n := if bit r.triggers trgKeeper then 80 else if bit r.triggers trgDebug then 100
    else orOne (s.rd (laneDie l) R.ASY_COMMIT.COMMIT_DL)
  r.laneTime + n * ms

/-- A capture submitted to `Q08` (R432); answers whether it was admitted. -/
def State.commitSubmit (s : State) (l : Lane) (r : LedgerRec) : Bool × State :=
  let x := s.submit l .asy 8 1 (s.commitDl l r) (.ledger r)
  if x.1.code = 0 then (true, x.2) else (false, x.2.inc (laneDie l) R.ASY_CNT.REFUSED)

/-- The number of held captures shown. -/
def State.showHeld (s : State) (l : Lane) : State := s.wr (laneDie l) R.ASY_PEND.HELD (s.asy l).held.length

/-- A capture that `Q08` has refused is held; a fifth one replaces the newest held capture and takes its triggers (R432). -/
def State.hold (s : State) (l : Lane) (r : LedgerRec) : State :=
  let h := (s.asy l).held
  if h.length < 4 then (s.modAsy l fun a => { a with held := h ++ [r] }).showHeld l
  else
    let old := match h.getLast? with
      | some x => x.triggers
      | none => 0
    (s.set (laneDie l) R.ASY_STATUS.PEND_OVR).modAsy l fun a =>
      { a with held := h.dropLast ++ [{ r with triggers := r.triggers ||| old, flags := setBit r.flags flPend }] }

/-- A capture submitted, or held where it is refused. -/
def State.commit (s : State) (l : Lane) (r : LedgerRec) : State :=
  let x := s.commitSubmit l r
  if x.1 then x.2 else x.2.hold l r

/-- The oldest held capture resubmitted (R432). -/
def State.resubmit (s : State) (l : Lane) : State :=
  match (s.asy l).held with
  | [] => s
  | r :: rest =>
    let x := s.commitSubmit l r
    if x.1 then (x.2.modAsy l fun a => { a with held := rest }).showHeld l else x.2

/-- The record of a debug opening has been written (step 6 of R446): the OTP marker, then the lane reset. -/
def State.debugOpened (s : State) (l : Lane) : State :=
  ((s.modNv l fun n => { n with dbgRecorded := true }).wr (laneDie l) R.SEC_DBG_STATUS.RESULT 0).resetIsland l .held

/-- The outcome of a commit (R432, R446): written, or tried again in the next slot until the third failure. -/
def State.commitOutcome (s : State) (l : Lane) (r : LedgerRec) (code : OutcomeCode) : State :=
  let d := laneDie l
  let dbg := bit r.triggers trgDebug && (s.run l).sec.opening
  let s1 := (s.wr d R.ASY_PEND.LAST code.code).irq l R.ASY_CTRL.COMMIT_IRQ_EN
  match code with
  | .done =>
    let s2 := ((s1.ledgerWrite l r (s1.asy l).tries).inc d R.ASY_CNT.COMMITS).modAsy l fun a => { a with tries := 0 }
    if dbg then s2.debugOpened l else s2.resubmit l
  | .failedMedia =>
    let n := (s1.asy l).tries + 1
    if n < 3 then ((s1.modAsy l fun a => { a with tries := n }).commit l r).resubmit l
    else
      let s2 := ((s1.modAsy l fun a => { a with tries := 0 }).set d R.ASY_STATUS.LEDGER_FAULT).log l 432 0
      let s3 := if dbg then
          ((s2.wr d R.SEC_DBG_STATUS.RESULT 3).inc d R.SEC_CNT.OPEN_FAIL).modRun l fun x =>
            { x with sec := { x.sec with opening := false } }
        else s2
      s3.resubmit l
  | _ => s1.resubmit l

/-! ## The boundary (R431, R437) -/

/-- The words of an exchange block (R437). -/
def xWords (k imp exp : Nat) : List Nat :=
  let ws := [k % 2 ^ 32, imp % 2 ^ 32, imp / 2 ^ 32, exp % 2 ^ 32, exp / 2 ^ 32]
  ws ++ [crc32c (ws.flatMap fun w => leBytes w 4)]

/-- The exchange capture at a boundary whose number is a multiple of 1,024 (R437); none in the single-lane arrangement. -/
def State.asyExchange (s : State) (l : Lane) (k : Nat) : State :=
  if k % 1024 = 0 ∧ !s.singleCfg l then
    let a := s.asy l
    let s1 := s.each (xWords (k / 1024) a.imp a.exp).zipIdx fun s x => s.wr (laneDie l) R.ASY_XOUTw.WORD x.1 x.2
    s1.modAsy l fun a =>
      { a with caps := (k / 1024, a.imp, a.exp) ::
        (a.caps.take 63 ++ (if a.caps.length < 64 then [] else a.caps.drop (a.caps.length - 1))) }
  else s

/-- The Assay at a traction-cycle boundary `k` (R431, R437): the exchange, then the capture. A lane that is not committing
keeps only the triggers of its own life: `ORIGIN`, `DEBUG_OPEN` and `LIFECYCLE`. -/
def State.asyBoundary (s : State) (l : Lane) (k : Nat) : State :=
  if s.asyOn l && !(s.asy l).stopped then
    let s1 := s.asyExchange l k
    let c := s1.committer l
    let s2 := if c && !(s1.asy l).committing then s1.asyTrigger l trgAuthority else s1
    let s3 := s2.modAsy l fun a => { a with committing := c }
    let t := (s3.asy l).triggers
    let dbg := bit t trgDebug && (s3.run l).sec.opening
    if t ≠ 0 ∧ (dbg || (c && s3.mayCommit l)) then
      let bits := if (s3.asy l).restarted then t else setBit t trgRestart
      let r := s3.capture l bits (if dbg then 2 ^ flOpener else 0)
      (r.2.when dbg fun s => s.wr (laneDie l) R.SEC_DBG_STATUS.STEP 5).commit l { r.1 with signed := true, signature := if dbg then (s3.run l).sec.opener else [] }
    else if c && s3.mayCommit l then s3
    else s3.modAsy l fun a => { a with triggers := t &&& (2 ^ trgOrigin + 2 ^ trgDebug + 2 ^ trgLifecycle), modeLeft := none }
  else s

/-! ## The start (R436) -/

/-- A record whose signature or tag stands. -/
def LedgerRec.usable (r : LedgerRec) : Bool := r.signed || (r.isSealed && r.tagOk)

/-- The counters of a mode: those of the newest record of the list that names it. -/
def modeCounters (rs : List LedgerRec) (m : Nat) : Nat × Nat :=
  match newestRec (rs.filter fun x => x.mode == m) with
  | some x => (x.modeImp, x.modeExp)
  | none => (0, 0)

/-- The newest record vouches that no energy flowed unmetered since (R436). -/
def LedgerRec.closes (r : LedgerRec) : Bool :=
  bit r.triggers trgKeeper || bit r.triggers trgHoldup
    || (bit r.triggers trgMode && (r.into == some modeParked || r.into == some modeStorage))

/-- The Assay at `ST10` (R436, R441): the totals of the newest record, or of the newest signed one before a sealed record
whose tag fails; `GAP` unless the newest record closes the account. -/
def State.asyLoad (s : State) (l : Lane) : State :=
  let d := laneDie l
  let all := (s.nv l).ledger
  let good := all.filter LedgerRec.usable
  match newestRec all with
  | none =>
    let s1 := s.modAsy l fun a => { a with caps := [(0, 0, 0)] }
    if (s.nv l).lifecycle = 2 ∨ (s.nv l).lifecycle = 3 then
      s1.modAsy l fun a => { a with triggers := setBit a.triggers trgOrigin }
    else s1
  | some top =>
    let r := (newestRec good).getD top
    let gap := !(top.usable && top.closes)
    let s1 := (s.wr d R.ASY_SEQ.SEQ top.seq).wr d R.ASY_SLOT.SLOT top.slot
    s1.modAsy l fun a =>
      { a with
        imp := r.imp, exp := r.exp, caps := [(0, r.imp, r.exp)]
        modes := (List.finRange 8).foldl (fun v (m : Fin 8) => upd v m fun _ => modeCounters good m.val) a.modes
        flags := if gap then setBit a.flags flGap else a.flags
        triggers := if top.lifecycle ≠ (s.nv l).lifecycle then setBit a.triggers trgLifecycle else a.triggers }

end Sys2Proof.Machine
end

