-- ==== Sys2Proof/Machine/Adc.lean ====
section
/-!
DEFINITION. The meanings of the converter and sigma-delta commands (chapter 05).
-/
namespace Sys2Proof.Machine

/-- A group serves a resolver: it has that destination and is not Idle (R153). -/
def State.forResolver (s : State) (l : Lane) (g : Nat) : Bool :=
  s.rd (laneDie l) R.ADC_Gg_CFG.DEST g == 3 && s.rd (laneDie l) R.ADC_Gg_CFG.MODE g != 0

/-- A pass starts with the settings that the group takes now (R119). -/
def State.startPass (s : State) (l : Lane) (g : Fin 12) (triggered : Bool) : State :=
  s.modGrp l g fun x =>
    { x with busy := true, pos := 0, chans := s.listOf l g, dest := s.rd (laneDie l) R.ADC_Gg_CFG.DEST g,
             triggered := triggered, stamp := low 32 (s.laneTime l) }

/-- The trigger network has a trigger on its way to a group (R120): an event that `SRC` has selected. -/
def State.takeTrigger (s : State) (l : Lane) (g : Fin 12) : State := s.modGrp l g fun x => { x with sent := x.sent - 1 }

/-- A group whose trigger is an event output takes its next due instant where no trigger is on its way yet (R216). -/
def State.triggerDue (s : State) (l : Lane) (g : Fin 12) : State :=
  let src := s.rd (laneDie l) R.ADC_Gg_TRIG.SRC g
  if 9 ≤ src ∧ src ≤ 16 ∧ (s.grp l g).sent = 0 then s.fireEv l (tbIdx (src - 9)) else s

/-- `ADC_TRIGGER` (R120, R121): a trigger on its way reaches its group. A triggered group starts its pass with the settings it
takes now; a busy one counts an overrun; any other group ignores the trigger. A group that serves a resolver converts without
triggers (R153). -/
def execAdcTrigger (l : Lane) (g : Fin 12) (s : State) : Out :=
  let d := laneDie l
  let s := s.triggerDue l g
  .next (if s.past l 11 && decide (0 < (s.grp l g).sent) then
    let s0 := s.takeTrigger l g
    if s0.rd d R.ADC_Gg_CFG.MODE g == 3 && !s0.forResolver l g then
      if (s0.grp l g).busy || !(s0.grp l g).aborted.isEmpty then
        (s0.set d R.ADC_Gg_STATUS.TRIG_OVR g).inc d R.ADC_Gg_TRIG_CNT.OVERRUNS g
      else (s0.startPass l g true).inc d R.ADC_Gg_TRIG_CNT.TRIGGERS g
    else s0
  else s)

/-- The group converts a sample that its estimator may use (R131); a group that serves a resolver counts as a round-robin one
with an odd list (R153). -/
def State.eligibleGroup (s : State) (l : Lane) (g : Nat) : Bool :=
  let d := laneDie l
  let m := s.rd d R.ADC_Gg_CFG.MODE g
  s.forResolver l g || m == 1 || (m == 2 && s.listLen l g % 2 == 1)

/-- A raw code at either end of the range (R130). -/
def clipped (raw : Nat) : Bool := raw == 0 || raw == 16383

/-- The clip and the estimator's count of one conversion (R130 to R132). -/
def State.countSample (s : State) (l : Lane) (g : Fin 12) (raw : Nat) (normal : Bool) : State :=
  let d := laneDie l
  let s1 := s.when (clipped raw) fun s => (s.set d R.ADC_Gg_STATUS.CLIP g).inc d R.ADC_Gg_CLIP_CNT.COUNT g
  s1.when (normal && !clipped raw && s.eligibleGroup l g && s.on d R.ADC_CTRL.EST_EN) fun s =>
    (s.inc d R.ADC_Gg_EST_CNT.COUNT g).modGrp l g fun x => { x with elig := x.elig + 1 }

/-- A sample of the system calibration (R140): its slice-corrected code is added up. -/
def State.calSample (s : State) (l : Lane) (c : Nat) (y : Int) (normal : Bool) : State :=
  let d := laneDie l
  let a := (s.run l).adc
  if s.on d R.ADC_SYSCAL_STATUS.BUSY && normal && s.rd d R.ADC_SYSCAL_CTRL.CHANNEL == c
      && decide (a.calCount < a.calTarget) then
    s.modAdc l fun a => { a with calSum := a.calSum + y, calCount := a.calCount + 1 }
  else s

/-- A normal or restarted result goes where the group's destination sends it (R122). -/
def State.toDest (s : State) (l : Lane) (g : Fin 12) (c z dest e stamp : Nat) (streaming : Bool) : State :=
  let s1 := if dest ≤ 1 then (s.ceSource l (0x40 + c) (((z : Int) - 8192) * 2 ^ 17)).event l (.result g.val) else s
  if dest = 1 ∨ dest = 2 then
    if streaming then
      let n := (s1.grp l g).decim + 1
      if orOne (s1.rd (laneDie l) R.ADC_Gg_PACE.DECIM g) ≤ n then
        (s1.modGrp l g fun x => { x with decim := 0 }).pushQ11 l e stamp
      else s1.modGrp l g fun x => { x with decim := n }
    else s1.pushQ11 l e stamp
  else s1

/-- The band tap of a streaming group (R178): the sample after slice offset, slice gain and channel correction, without the
skew term, reaches every band slot that takes the group in sample mode, with the applied skew of its slice (R180). -/
def State.bandTap (s : State) (l : Lane) (g : Fin 12) (c slice raw : Nat) : State :=
  let d := laneDie l
  let pr := s.correct l c (s.sliceNum l g slice raw raw raw false)
  let x := ((pr.1 : Int) - 8192) * 2 ^ 17
  let skew := pr.2.rdS d R.ADC_Gg_Sk_SKEW.SKEW g slice
  pr.2.each (List.finRange 32) fun s n =>
    s.when (s.rd d R.CE_Bn_STATUS.STATE n != bandOff && !s.bandSig l n && s.rd d R.CE_Bn_CFG.GROUP n == g.val) fun s =>
      s.modBand l n fun b => { b with due := b.due ++ [(x, skew)] }

/-- The result of one conversion of channel `c` (R122 to R130, R140, R242). -/
def State.result (s : State) (l : Lane) (g : Fin 12) (slice : Nat) (raw before after : Nat) (c dest stamp : Nat)
    (streaming urgent restarted : Bool) : State :=
  let normal := !urgent && !restarted
  let s1 := s.countSample l g raw normal
  let y := s1.sliceNum l g slice raw before after streaming
  let pr1 := s1.correct l c y
  let z := pr1.1
  let s2 := pr1.2
  let e := s2.entry l g c z urgent restarted
  let s3 := (s2.calSample l c y normal).wr (laneDie l) R.ADC_CHc_LAST.ENTRY e c
  let s4 := if urgent then s3.pushQ12 l e stamp
    else (s3.when (streaming && decide (dest ≤ 1)) fun s => s.bandTap l g c slice raw).toDest l g c z dest e stamp streaming
  s4.when normal fun s => s.each (List.finRange 16) fun s n => s.shortDetect l n c z stamp

/-- The next entry of the pass in progress (R118, R125): it completes with the settings that the pass took. -/
def State.passResult (s : State) (l : Lane) (g : Fin 12) (slice raw before after : Nat) : State :=
  let x := s.grp l g
  (s.modGrp l g fun x => { x with pos := x.pos + 1, busy := decide (x.pos + 1 < x.chans.length) }).result l g slice raw
    before after (x.chans.getD x.pos 0) x.dest (if x.triggered then x.stamp else low 32 (s.laneTime l)) false false false

/-- One conversion (R118, R119, R125): an entry of the pass in progress; else what the mode gives: nothing in Idle, a resolver
sample, a sample of the stream, the first entry of a round-robin pass, nothing before a trigger. -/
def State.normalResult (s : State) (l : Lane) (g : Fin 12) (slice raw before after : Nat) : State :=
  let d := laneDie l
  if (s.grp l g).busy then s.passResult l g slice raw before after
  else if s.forResolver l g then (s.countSample l g raw true).resSample l g slice raw
  else
    match s.rd d R.ADC_Gg_CFG.MODE g with
    | 1 => s.result l g slice raw before after (s.listEntry l g 0) (s.rd d R.ADC_Gg_CFG.DEST g) (low 32 (s.laneTime l)) true
        false false
    | 2 => (s.startPass l g false).passResult l g slice raw before after
    | _ => s

/-- The entry that begins at this phase is aborted (R128): it waits for its restart. A round-robin group between two passes
begins its next one. -/
def State.abortEntry (s : State) (l : Lane) (g : Fin 12) : State :=
  let s0 := if !(s.grp l g).busy && s.rd (laneDie l) R.ADC_Gg_CFG.MODE g == 2 && !s.forResolver l g then s.startPass l g false
    else s
  let x := s0.grp l g
  if x.busy then
    s0.modGrp l g fun y =>
      { y with
        aborted := y.aborted ++ [(x.chans.getD x.pos 0, if x.triggered then x.stamp else low 32 (s.laneTime l), x.dest)]
        pos := y.pos + 1, busy := decide (y.pos + 1 < y.chans.length) }
  else s0

/-- An urgent conversion (R128): with `aborts` it takes the place of the entry that begins at its phase. -/
def State.urgentResult (s : State) (l : Lane) (g : Fin 12) (slice raw : Nat) (aborts : Bool) : State :=
  match (s.grp l g).urgent with
  | none => s
  | some (c, stamp) =>
    let s1 := s.when aborts fun s => s.abortEntry l g
    let s2 := (s1.modGrp l g fun x => { x with urgent := none }).wrBit (laneDie l) R.ADC_URGENT_STATUS.PENDING g false
    s2.result l g slice raw raw raw c 0 stamp false true false

/-- The restart of an aborted entry (R129): it goes to the group's normal destination with bit [25] set. -/
def State.restartedResult (s : State) (l : Lane) (g : Fin 12) (slice raw : Nat) : State :=
  match (s.grp l g).aborted with
  | [] => s
  | (c, stamp, dest) :: rest =>
    (s.modGrp l g fun x => { x with aborted := rest }).result l g slice raw raw raw c dest stamp false false true

/-- `ADC_RESULT` (R118 to R130). -/
def execAdcResult (l : Lane) (g : Fin 12) (slice : Fin 4) (raw before after : BitVec 14) (kind : ConvKind) (s : State) :
    Out :=
  .next (if s.past l 11 then
    match kind with
    | .normal => s.normalResult l g slice raw.toNat before.toNat after.toNat
    | .urgent aborts => s.urgentResult l g slice raw.toNat aborts
    | .restarted => s.restartedResult l g slice raw.toNat
  else s)

/-- The result of an urgent request (R127): 0 `ACCEPTED`, 1 `BUSY`, 2 `STREAMING`, 3 `RESOLVER`, 4 `GROUP`. Where several causes
hold, `GROUP` comes before `BUSY`, `STREAMING` and `RESOLVER` in this order (DESIGN CHOICE, log entry 45). -/
def State.urgentCode (s : State) (l : Lane) (g : Nat) : Nat :=
  let d := laneDie l
  if 11 < g then 4
  else if s.rdBit d R.ADC_URGENT_STATUS.PENDING g then 1
  else if s.rd d R.ADC_Gg_CFG.MODE g = 1 then 2
  else if s.rd d R.ADC_Gg_CFG.DEST g = 3 then 3
  else 0

/-- An urgent request from a write of `ADC_URGENT` or from an arithmetic slot (R127). -/
def State.urgentRequest (s : State) (l : Lane) (g c : Nat) : State :=
  let d := laneDie l
  let r := s.urgentCode l g
  let s1 := (s.wr d R.ADC_URGENT_STATUS.RESULT r).wr d R.ADC_URGENT_STATUS.LAST_GROUP g
  if h : r = 0 ∧ g < 12 then
    ((s1.wrBit d R.ADC_URGENT_STATUS.PENDING g true).modGrp l ⟨g, h.2⟩ fun x =>
      { x with urgent := some (c, low 32 (s.laneTime l)) }).inc d R.ADC_URGENT_CNT.ACCEPTED
  else s1.inc d R.ADC_URGENT_CNT.REFUSED

/-- `ADC_URGENT` (R127). -/
def execAdcUrgent (l : Lane) (g : Fin 16) (c : Fin 64) (s : State) : Out :=
  .next (if s.past l 11 then s.urgentRequest l g c else s)

/-- A read of `ADC_Q11_DATA` or `ADC_Q12_DATA` (R126): the oldest entry is returned and removed, its stamp latched; an empty
queue returns 0xFFFF_FFFF and leaves the stamp register. -/
def State.adcPop (s : State) (l : Lane) (urgent : Bool) : State :=
  let d := laneDie l
  let a := (s.run l).adc
  match (if urgent then a.q12 else a.q11) with
  | [] => s.modRun l fun r => { r with readData := 0xFFFFFFFF }
  | (e, stamp) :: rest =>
    let s1 := s.modRun l fun r => { r with readData := low 32 e }
    if urgent then (s1.modAdc l fun a => { a with q12 := rest }).wr d R.ADC_Q12_STAMP.STAMP stamp
    else (s1.modAdc l fun a => { a with q11 := rest }).wr d R.ADC_Q11_STAMP.STAMP stamp

/-- `ADC_QUEUE_POP` (R126). -/
def execAdcQueuePop (l : Lane) (urgent : Bool) (s : State) : Out := .next (if s.alive l then s.adcPop l urgent else s)

/-! ## The slice estimators (R131 to R134) -/

/-- One step of a coefficient towards its estimate. -/
def stepTo (x target : Int) : Int := if x < target then x + 1 else if target < x then x - 1 else x

/-- The estimates of a slice taken over (R132): gain and skew hold while the signal is low; slice 0 has no skew, and only
a streaming group estimates one. -/
def newEst (streaming quiet first : Bool) (old new : Int × Int × Int) : Int × Int × Int :=
  (new.1, if quiet then old.2.1 else new.2.1,
    if first then 0 else if quiet || !streaming then old.2.2 else new.2.2)

/-- One slice's applied coefficients moved one step towards its estimate. -/
def State.stepSlice (s : State) (l : Lane) (g : Nat) (k : Nat) (e : Int × Int × Int) : State :=
  let d := laneDie l
  ((s.wrS d R.ADC_Gg_Sk_OG.OFFSET (stepTo (s.rdS d R.ADC_Gg_Sk_OG.OFFSET g k) e.1) g k).wrS d R.ADC_Gg_Sk_OG.GAIN
    (stepTo (s.rdS d R.ADC_Gg_Sk_OG.GAIN g k) e.2.1) g k).wrS d R.ADC_Gg_Sk_SKEW.SKEW
    (stepTo (s.rdS d R.ADC_Gg_Sk_SKEW.SKEW g k) e.2.2) g k

/-- An applied coefficient lies within one step of its estimate (R134). -/
def near (x e : Int) : Bool := decide (x - e ≤ 1) && decide (e - x ≤ 1)

/-- Every applied coefficient of a group lies within one step of its estimate. -/
def State.settled (s : State) (l : Lane) (g : Fin 12) : Bool :=
  let d := laneDie l
  (List.finRange 4).all fun k =>
    let e := (s.grp l g).est[k]
    near (s.rdS d R.ADC_Gg_Sk_OG.OFFSET g k) e.1 && near (s.rdS d R.ADC_Gg_Sk_OG.GAIN g k) e.2.1
      && near (s.rdS d R.ADC_Gg_Sk_SKEW.SKEW g k) e.2.2

/-- `ADC_EST_STEP` (R132, R133): at every 2^16-th eligible sample the estimates are taken over; from 2^20 on, unless frozen,
each applied coefficient moves one step. -/
def execAdcEstStep (l : Lane) (g : Fin 12) (est : List (Int × Int × Int)) (quiet : Bool) (s : State) : Out :=
  let d := laneDie l
  let n := (s.grp l g).elig
  .next (if s.past l 11 && s.on d R.ADC_CTRL.EST_EN && decide (0 < n) && n % 2 ^ 16 == 0 && (s.grp l g).stepAt != n then
    let streaming := s.rd d R.ADC_Gg_CFG.MODE g == 1 && !s.forResolver l g
    let s1 := s.modGrp l g fun x =>
      { x with
        stepAt := n
        est := (List.finRange 4).foldl (fun v k =>
          upd v k fun old => newEst streaming quiet (k.val == 0) old (est.getD k.val (0, 0, 0))) x.est }
    let s2 := s1.put d R.ADC_Gg_STATUS.LOW_SIGNAL quiet g
    if s.on d R.ADC_Gg_CFG.EST_FREEZE g || decide (n < 2 ^ 20) then s2
    else
      let s3 := s2.each (List.finRange 4) fun s k => s.stepSlice l g k ((s.grp l g).est[k])
      s3.wr d R.ADC_Gg_STATUS.EST_STATE (if s3.settled l g then 2 else 1) g
  else s)

/-- `ADC_CORR_WRITE` (R135, R136). -/
def execAdcCorrWrite (l : Lane) (c : Fin 64) (gain offset : BitVec 16) (s : State) : Out :=
  .next (if s.alive l then s.corrWrite l c gain.toNat offset.toNat else s)

/-! ## System calibration (R140, R141) -/

/-- `SYSCAL_MEASURE` (R140): in Service the collection starts; otherwise result 1. -/
def execSyscalMeasure (l : Lane) (s : State) : Out :=
  let d := laneDie l
  .next (if s.alive l then
    if s.modeOf l = modeService then
      (s.set d R.ADC_SYSCAL_STATUS.BUSY).modAdc l fun a =>
        { a with calSum := 0, calCount := 0, calTarget := 2 ^ clampN 8 16 (s.rd d R.ADC_SYSCAL_CTRL.LOG2N) }
    else s.wr d R.ADC_SYSCAL_STATUS.RESULT 1
  else s)

/-- `SYSCAL_COLLECT_DONE` (R140): the average in 1/16 LSB goes to the point's register, limited to its 18-bit field (DESIGN
CHOICE, log entry 45). -/
def execSyscalCollectDone (l : Lane) (s : State) : Out :=
  let d := laneDie l
  let a := (s.run l).adc
  .next (if s.on d R.ADC_SYSCAL_STATUS.BUSY && decide (a.calTarget ≤ a.calCount) then
    let pr2 := s.quot (16 * a.calSum) ((max 1 a.calCount : Nat) * (2 ^ 22 * 10 ^ 7))
    let m := pr2.1
    let s1 := pr2.2
    let v := (clampI 0 (2 ^ 18 - 1) m).toNat
    let s2 := (s1.clr d R.ADC_SYSCAL_STATUS.BUSY).wr d R.ADC_SYSCAL_STATUS.RESULT 0
    if s.on d R.ADC_SYSCAL_CTRL.POINT then
      (s2.wr d R.ADC_SYSCAL_MEAS_FULL.MEAS v).set d R.ADC_SYSCAL_STATUS.FULL_VALID
    else (s2.wr d R.ADC_SYSCAL_MEAS_ZERO.MEAS v).set d R.ADC_SYSCAL_STATUS.ZERO_VALID
  else s)

/-- `SYSCAL_APPLY` (R141): both points give `GAIN` and `OFFSET`, which are written unless one lies outside its field or
the points coincide. -/
def execSyscalApply (l : Lane) (s : State) : Out :=
  let d := laneDie l
  .next (if s.alive l then
    if s.modeOf l ≠ modeService then s.wr d R.ADC_SYSCAL_STATUS.RESULT 1
    else if !(s.on d R.ADC_SYSCAL_STATUS.ZERO_VALID && s.on d R.ADC_SYSCAL_STATUS.FULL_VALID) then
      s.wr d R.ADC_SYSCAL_STATUS.RESULT 4
    else
      let mz : Int := s.rd d R.ADC_SYSCAL_MEAS_ZERO.MEAS
      let mf : Int := s.rd d R.ADC_SYSCAL_MEAS_FULL.MEAS
      let tz : Int := s.rd d R.ADC_SYSCAL_TARGET.ZERO
      let tf : Int := s.rd d R.ADC_SYSCAL_TARGET.FULL
      let sgn : Int := if mf < mz then -1 else 1
      if mf = mz then s.wr d R.ADC_SYSCAL_STATUS.RESULT 2
      else
        let pr3 := s.roundQ (sgn * (16 * (tf - tz) - (mf - mz)) * 2 ^ 16) (sgn * (mf - mz))
        let gain := pr3.1
        let s1 := pr3.2
        let pr4 := s1.roundQ (4 * (16 * 2 ^ 16 * tz - (2 ^ 16 + gain) * mz)) (16 * 2 ^ 16)
        let ofs := pr4.1
        let s2 := pr4.2
        if satS 16 gain = gain ∧ satS 16 ofs = ofs then
          (s2.corrWrite l (s.rd d R.ADC_SYSCAL_CTRL.CHANNEL) (ux 16 gain) (ux 16 ofs)).wr d R.ADC_SYSCAL_STATUS.RESULT 0
        else s2.wr d R.ADC_SYSCAL_STATUS.RESULT 2
  else s)

/-- `SYSCAL_ABORT` (R148): a collection ends with result 3. -/
def execSyscalAbort (l : Lane) (s : State) : Out :=
  let d := laneDie l
  .next (if s.on d R.ADC_SYSCAL_STATUS.BUSY then
    (s.clr d R.ADC_SYSCAL_STATUS.BUSY).wr d R.ADC_SYSCAL_STATUS.RESULT 3
  else s)

/-! ## Sigma-delta filters -/

/-- The moving sums of the last `r` values of a stream, oldest first; before its begin it counts as zero. -/
def boxcar (r : Nat) (xs : List Int) : List Int :=
  let p := xs.foldl (fun (acc : List Int × Int) x => ((acc.2 + x) :: acc.1, acc.2 + x)) ([], 0)
  let sums := p.1.reverse
  List.zipWith (fun a b => a - b) sums (List.replicate r 0 ++ sums)

/-- The sum of the newest `avg` outputs, one every `osr` clocks, of a sinc filter of the order given over a bit stream, oldest
first: a bit of 1 counts +1, a bit of 0 counts -1 (R143, R144). -/
def sincSum (order osr avg : Nat) (bits : List Bool) : Int :=
  let outs := ((List.range order).foldl (fun xs _ => boxcar osr xs) (bits.map fun b => if b then (1 : Int) else -1)).reverse
  ((List.range avg).map fun i => outs.getD (i * osr) 0).sum

/-- The corrected main result of a filter over the newest bits at both clock edges (R142, R143), and whether the shifted sum
saturated. The average over `IAVG` outputs is rounded as log entry 7 says. A corrected value that signed 32-bit does not hold
is a free value: the spec states no result there (log entry 9). -/
def State.sdfValue (s : State) (l : Lane) (n : Fin 12) (rising falling : List Bool) : Int × Bool × State :=
  let d := laneDie l
  let bits := if s.on d R.SDF_Fn_CFG.EDGE n then falling else rising
  let avg := clampN 1 256 (s.rd d R.SDF_Fn_OUT.IAVG n)
  let pr4 := s.quot (sincSum (clampN 1 5 (s.rd d R.SDF_Fn_CFG.ORDER n)) (clampN 4 1024 (s.rd d R.SDF_Fn_CFG.OSR n)) avg bits)
    (avg : Int)
  let y := pr4.1 / 2 ^ (s.rd d R.SDF_Fn_CFG.SHIFT n)
  let ys := satS 32 y
  let pr5 := pr4.2.quot (ys * (2 ^ 16 + s.rdS d R.SDF_Fn_APPLIED.GAIN n)
    + s.rdS d R.SDF_Fn_APPLIED.OFFSET n * 2 ^ 30) (2 ^ 16)
  let v := pr5.1
  let s1 := pr5.2
  let pr6 := s1.fit 32 v
  let w := pr6.1
  let s2 := pr6.2
  (w, ys != y, s2)

/-- `SDF_TRIP_COMPARE` (R144): the fast value over the newest bits against both thresholds; a faulty filter's comparators hold
inactive. -/
def execSdfTripCompare (l : Lane) (n : Fin 12) (rising falling : List Bool) (s : State) : Out :=
  let d := laneDie l
  .next (if s.past l 11 && s.on d R.SDF_Fn_TRIP.EN n then
    let bits := if s.on d R.SDF_Fn_CFG.EDGE n then falling else rising
    let sum := sincSum (clampN 1 3 (s.rd d R.SDF_Fn_TRIP.ORDER n)) (clampN 4 64 (s.rd d R.SDF_Fn_TRIP.OSR n)) 1 bits
    let v := satS 16 (sum / 2 ^ (s.rd d R.SDF_Fn_TRIP.TSHIFT n))
    let s1 := s.wr d R.SDF_Fn_TRIP_DATA.DATA (ux 16 v) n
    if s.on d R.SDF_Fn_STATUS.STUCK n || s.on d R.SDF_Fn_STATUS.CLK_FAULT n then s1
    else s1.sdfTrip l n (decide (s.rdS d R.SDF_Fn_THR.HI n ≤ v)) (decide (v ≤ s.rdS d R.SDF_Fn_THR.LO n))
  else s)

/-- `SDF_STUCK` (R145). -/
def execSdfStuck (l : Lane) (n : Fin 12) (s : State) : Out :=
  .next (if s.past l 11 && s.on (laneDie l) R.SDF_Fn_CFG.EN n then
    (s.sdfFault l n R.SDF_Fn_STATUS.STUCK).asySync l
  else s)

/-- `SDF_CLK_FAULT` (R145): only a filter with an external clock has it. -/
def execSdfClkFault (l : Lane) (n : Fin 12) (s : State) : Out :=
  .next (if s.past l 11 && s.on (laneDie l) R.SDF_Fn_CFG.EN n && s.on (laneDie l) R.SDF_Fn_CFG.CLK_EXT n then
    (s.sdfFault l n R.SDF_Fn_STATUS.CLK_FAULT).asySync l
  else s)

/-- `SDF_REFILLED` (R145): with neither fault flag set, `VALID` returns. -/
def execSdfRefilled (l : Lane) (n : Fin 12) (s : State) : Out :=
  let d := laneDie l
  .next (if s.past l 11 && s.on d R.SDF_Fn_CFG.EN n && !s.on d R.SDF_Fn_STATUS.STUCK n
      && !s.on d R.SDF_Fn_STATUS.CLK_FAULT n then
    ((s.set d R.SDF_Fn_STATUS.VALID n).sdfCleared l n).asySync l
  else s)

end Sys2Proof.Machine
end

