-- ==== Sys2Proof/Machine/Assay.lean ====
section
/-!
DEFINITION. The commands of the Assay (R431, R437 to R441) and the main results of the sigma-delta filters (R143).
-/
namespace Sys2Proof.Machine

/-- `SDF_RESULT` (R143, R427): the corrected result with its stamp goes where `DEST_CE` and `DEST_ASY` say. -/
def execSdfResult (l : Lane) (n : Fin 12) (rising falling : List Bool) (s : State) : Out :=
  let d := laneDie l
  .next (if s.past l 10 && s.on d R.SDF_Fn_CFG.EN n then
    let pr1 := s.sdfValue l n rising falling
    let v := pr1.1
    let sat := pr1.2.1
    let s1 := pr1.2.2
    let s2 := ((s1.wrS d R.SDF_Fn_DATA.DATA v n).wr d R.SDF_Fn_STAMP.STAMP (s1.laneTime l) n).set d R.SDF_Fn_STATUS.NEW n
    let s3 := (s2.when sat fun s => s.set d R.SDF_Fn_STATUS.SAT n).irq l R.SDF_Fn_OUT.IRQ_EN n
    let s4 := s3.when (s3.on d R.SDF_Fn_OUT.DEST_CE n) fun s =>
      s.ceSource l (0x80 + n.val) v (s.on d R.SDF_Fn_STATUS.VALID n)
    let s5 := s4.event l (.sdf n.val)
    s5.when (s5.on d R.SDF_Fn_OUT.DEST_ASY n) fun s => s.asyResult l n.val v (s.laneTime l)
  else s)

/-- `ASY_REQ_COMMIT` (R431). -/
def execAsyReqCommit (l : Lane) (s : State) : Out := .next (if s.writable l then s.asyTrigger l trgRequest else s)

/-! ## Adoption and cross-check (R437, R438) -/

/-- The lane's own totals at the boundary of a block: the newest capture that is not newer. -/
def capAt (caps : List (Nat × Nat × Nat)) (k : Nat) : Option (Nat × Nat) :=
  (caps.find? fun c => decide (c.1 ≤ k)).map Prod.snd

/-- The first valid block adopted (R437): for each direction the larger of the own total and the block's total plus the own
integration since its boundary. -/
def State.adopt (s : State) (l : Lane) (k imp exp : Nat) : State :=
  let d := laneDie l
  let a := s.asy l
  let own := (capAt a.caps k).getD (a.imp, a.exp)
  let i := imp + (a.imp - own.1)
  let e := exp + (a.exp - own.2)
  let high := decide (i < a.imp) || decide (e < a.exp)
  let s1 := ((s.modAsy l fun a => { a with imp := max a.imp i, exp := max a.exp e, window := none }).set d
    R.ASY_STATUS.ADOPTED).asyFlag l flAdopted
  s1.when high fun s => (s.set d R.ASY_STATUS.ADOPT_HIGH).asyFlag l flHigh

/-- The two increments of a direction disagree (R438); below 10 Wh it is not compared. -/
def dirDisagrees (own par : Nat) : Bool :=
  let m := max own par
  decide (10000000 ≤ m) && decide (2 * m < 1000 * (m - min own par))

/-- The deviation of a direction in 0.01 %, own less partner's, where it is compared. -/
def State.deviation (s : State) (own par : Nat) : Int × State :=
  let m := max own par
  if 10000000 ≤ m then s.quot (((own : Int) - par) * 10000) m else (0, s)

/-- A window that ends (R438): the larger deviation shows, and a disagreement is counted and logged. -/
def State.xClose (s : State) (l : Lane) (di de pi pe : Nat) : State :=
  let d := laneDie l
  let pr2 := s.deviation di pi
  let a := pr2.1
  let s1 := pr2.2
  let pr3 := s1.deviation de pe
  let b := pr3.1
  let s2 := pr3.2
  let s3 := s2.wrS d R.ASY_XCHK.DEV (if a.natAbs < b.natAbs then b else a)
  if dirDisagrees di pi || dirDisagrees de pe then
    (((s3.set d R.ASY_STATUS.XCHK_DIS).inc d R.ASY_CNT.XCHK_DIS).irq l R.ASY_CTRL.XCHK_IRQ_EN).log l 438 0
  else s3

/-- A valid block after adoption (R438): it opens a window, or moves the open one on; at 1 kWh or 600 blocks that ends, and
the block opens the next. The block counts from the totals captured at its own boundary. -/
def State.crossCheck (s : State) (l : Lane) (k imp exp : Nat) : State :=
  let d := laneDie l
  let a := s.asy l
  match a.caps.find? fun c => c.1 == k with
  | none => s
  | some own =>
    let fresh : XWindow := { ownImp := own.2.1, ownExp := own.2.2, parImp := imp, parExp := exp, blocks := 0 }
    match a.window with
    | none => (s.modAsy l fun a => { a with window := some fresh }).wr d R.ASY_XCHK.BLOCKS 0
    | some w =>
      let n := w.blocks + 1
      let ends := decide (kWh ≤ imp - w.parImp) || decide (kWh ≤ exp - w.parExp) || decide (600 ≤ n)
      if ends then
        ((s.xClose l (own.2.1 - w.ownImp) (own.2.2 - w.ownExp) (imp - w.parImp) (exp - w.parExp)).modAsy l fun a =>
          { a with window := some fresh }).wr d R.ASY_XCHK.BLOCKS 0
      else (s.modAsy l fun a => { a with window := some { w with blocks := n } }).wr d R.ASY_XCHK.BLOCKS n

/-- `ASY_XIN_SUBMIT` (R437, R438): on the standby lane of a three-lane arrangement. -/
def execAsyXinSubmit (l : Lane) (crc : BitVec 32) (s : State) : Out :=
  let d := laneDie l
  .next (if s.writable l && s.asyOn l then
    let s1 := s.wr d R.ASY_XINw.WORD crc.toNat 5
    let w := fun i => s1.rd d R.ASY_XINw.WORD i
    if crc32c ((List.range 5).flatMap fun i => leBytes (w i) 4) ≠ crc.toNat then s1.inc d R.ASY_CNT.XIN_CRC
    else if s1.committer l || s1.singleCfg l then s1
    else
      let imp := w 1 + w 2 * 2 ^ 32
      let exp := w 3 + w 4 * 2 ^ 32
      if s1.on d R.ASY_STATUS.ADOPTED then s1.crossCheck l (w 0) imp exp else s1.adopt l (w 0) imp exp
  else s)

/-! ## The hold-up and the countersignature (R440, R441) -/

/-- `HOLDUP` (R440): integration stops, the held captures are dropped, and the sealed record is written to the next slot.
With the entropy source failed the nonce is a counter of the key store (R449). -/
def execHoldup (l : Lane) (written tagOk : Bool) (s : State) : Out :=
  let d := laneDie l
  .next (if s.asyOn l && s.committer l && s.mayCommit l && !(s.asy l).stopped then
    let bits := setBit (s.asy l).triggers trgHoldup
    let bits := if (s.asy l).restarted then bits else setBit bits trgRestart
    let r := s.capture l bits (2 ^ flSealed)
    let s1 := ((r.2.modAsy l fun a => { a with stopped := true, held := [] }).showHeld l).clr d R.ASY_STATUS.RUN
    let n : List Nat × State := if (s1.run l).sec.entropyBad then
        (leBytes (s1.nv l).sealNonce 12, s1.modNv l fun n => { n with sealNonce := n.sealNonce + 1 })
      else
        let w := s1.freeWords 3
        (w.1.flatMap fun x => leBytes x 4, w.2)
    let s2 := n.2
    if written then (s2.ledgerWrite l { r.1 with tagOk := tagOk, nonce := n.1 } 0).set d R.ASY_STATUS.HOLDUP else s2
  else s)

/-- `COUNTERSIGN` (R441): the newest sealed record whose tag verifies takes its signature; after a supply that has recovered
metering goes on. -/
def execCountersign (l : Lane) (s : State) : Out :=
  .next (if s.running l && s.asyOn l && s.mayCommit l then
    match newestRec ((s.nv l).ledger.filter fun r => r.isSealed && !r.signed && r.tagOk) with
    | some x =>
      let s1 := s.slotWrite l (LedgerRec.finish (l := l) { x with signed := true, flags := setBit x.flags flCounter })
      (s1.modAsy l fun a => { a with stopped := false, good := false }).asySync l
    | none => s
  else s)

end Sys2Proof.Machine
end

