-- ==== Sys2Proof/Machine/Ce.lean ====
section
/-!
DEFINITION. The meanings of the control-engine commands (chapter 07): the band law, the frequency lock, the arithmetic
slots and their following-error supervision.
-/
namespace Sys2Proof.Machine

/-! ## Band slots (R178 to R185) -/

/-- The configuration error of a band slot (R179). -/
def State.bandCfgErr (s : State) (l : Lane) (n : Fin 32) : Bool :=
  let d := laneDie l
  let g := s.rd d R.CE_Bn_CFG.GROUP n
  let sample := !s.bandSig l n
  (sample && (decide (12 ≤ g) || s.rd d R.ADC_Gg_CFG.MODE g != 1 || decide (1 < s.rd d R.ADC_Gg_CFG.DEST g)))
    || !s.on d R.PWM_CHc_CFG.ENGINE (s.rd d R.CE_Bn_CFG.PWM_CH n)
    || !srcAssigned (s.bandRef l n)
    || (!sample && !srcAssigned (s.bandMeas l n))
    || decide (s.rd d R.CE_Bn_HMAX.H n < s.rd d R.CE_Bn_HMIN.H n)

/-- The channel of a band slot. -/
def State.bandCh (s : State) (l : Lane) (n : Fin 32) : Fin 64 := chIdx (s.rd (laneDie l) R.CE_Bn_CFG.PWM_CH n)

/-- L takes the channel's issued level (R179). -/
def State.bandSyncL (s : State) (l : Lane) (n : Fin 32) : State :=
  s.put (laneDie l) R.CE_Bn_STATUS.LEVEL (s.bandL l n (s.ch l (s.bandCh l n)).level) n

/-- A slot enters `ERR` (R179): no edges, its trip group raised. -/
def State.bandFail (s : State) (l : Lane) (n : Fin 32) (flag : Fld) : State :=
  let d := laneDie l
  let s1 := s.set d flag n
  if s1.rd d R.CE_Bn_STATUS.STATE n = bandErr then s1
  else
    (((s1.wr d R.CE_Bn_STATUS.STATE bandErr n).modCh l (s1.bandCh l n) fun k => { k with eng := none }).raiseTg l
      (s1.rd d R.CE_Bn_CFG.TG n)).irq l R.CE_CTRL.BAND_IRQ_EN

/-- An enabled slot leaves `OFF` when its configuration is valid (R179); its frequency-lock window stays (R177). -/
def State.bandStart (s : State) (l : Lane) (n : Fin 32) : State :=
  let d := laneDie l
  if s.bandCfgErr l n then s.set d R.CE_Bn_STATUS.CFG_ERR n
  else
    let h := clampN (s.rd d R.CE_Bn_HMIN.H n) (s.rd d R.CE_Bn_HMAX.H n) (s.rd d R.CE_Bn_HINIT.H n)
    (((((s.clr d R.CE_Bn_STATUS.CFG_ERR n).bandSyncL l n).wr d R.CE_Bn_H.H h n).modBand l n fun b =>
      { b with pendH := none, due := [] }).toSettle l n)

/-- An `ERR` slot whose condition has ended (R179): L takes the issued level, h is kept. -/
def State.bandRecover (s : State) (l : Lane) (n : Fin 32) : State :=
  ((s.clr (laneDie l) R.CE_Bn_STATUS.CFG_ERR n).bandSyncL l n).toSettle l n

/-- The configuration of a slot judged after a write (R179): an enabled slot in `OFF` starts once it is valid, any other enters
`ERR` when it is not, and leaves an `ERR` that a configuration error caused once it is valid again. -/
def State.bandJudge (s : State) (l : Lane) (n : Fin 32) : State :=
  let d := laneDie l
  if s.on d R.CE_Bn_CFG.EN n then
    if s.rd d R.CE_Bn_STATUS.STATE n = bandOff then s.bandStart l n
    else if s.bandCfgErr l n then s.bandFail l n R.CE_Bn_STATUS.CFG_ERR
    else if s.rd d R.CE_Bn_STATUS.STATE n = bandErr ∧ s.on d R.CE_Bn_STATUS.CFG_ERR n then s.bandRecover l n
    else s
  else s.clr d R.CE_Bn_STATUS.CFG_ERR n

/-- Every slot judged, once the engine runs (R172, R179). -/
def State.bandJudgeAll (s : State) (l : Lane) : State :=
  s.when (s.past l 11) fun s => s.each (List.finRange 32) fun s n => s.bandJudge l n

/-- `BAND_ENABLE` (R179). -/
def execBandEnable (l : Lane) (n : Fin 32) (s : State) : Out :=
  let d := laneDie l
  .next (if s.past l 11 && s.rd d R.CE_Bn_STATUS.STATE n == bandOff then
    (s.set d R.CE_Bn_CFG.EN n).bandStart l n
  else s)

/-- A slot whose `EN` is cleared (R179): its channel returns to compare control (`State.engineDriven`). -/
def State.bandStop (s : State) (l : Lane) (n : Fin 32) : State :=
  ((s.wr (laneDie l) R.CE_Bn_STATUS.STATE bandOff n).modBand l n fun b => { b with edge := none, due := [] }).modCh l
    (s.bandCh l n) fun k => { k with eng := none }

/-- An edge committed at an instant (R181): the PWM channel gets it, the slot waits for its report. -/
def State.bandCommit (s : State) (l : Lane) (n : Fin 32) (x : Int) (late : Bool) : State :=
  let d := laneDie l
  let st := s.rd d R.CE_Bn_STATUS.STATE n
  let lv := !s.on d R.CE_Bn_STATUS.LEVEL n
  let s1 := (s.modBand l n fun b => { b with edge := some (x, lv), before := st, lateLast := late }).wr d
    R.CE_Bn_STATUS.STATE bandPending n
  let s2 := s1.modCh l (s1.bandCh l n) fun k => { k with eng := some (x, s1.bandL l n lv) }
  if late then (s2.set d R.CE_Bn_STATUS.LATE n).inc d R.CE_Bn_CNT.LATE n else s2

/-- The error e of a slot from its measured value (R178). -/
def State.bandError (s : State) (l : Lane) (n : Fin 32) (x : Int) : Int :=
  let m := if s.bandSig l n then s.srcVal l (s.bandMeas l n) else x
  let e := m - s.srcVal l (s.bandRef l n)
  if s.bandAngle l n then sx 32 (ux 32 e) else e

/-- The active boundary b of a slot (R178). -/
def State.bandB (s : State) (l : Lane) (n : Fin 32) : Int :=
  let h : Int := s.rd (laneDie l) R.CE_Bn_H.H n
  if s.on (laneDie l) R.CE_Bn_STATUS.LEVEL n then h else -h

/-- e lies at or beyond the active boundary. -/
def State.bandBeyond (s : State) (l : Lane) (n : Fin 32) (e : Int) : Bool :=
  if s.on (laneDie l) R.CE_Bn_STATUS.LEVEL n then decide (s.bandB l n ≤ e) else decide (e ≤ s.bandB l n)

/-- The slope estimator's window as a slope (R180): the newer half's sum less the older half's, and the divisor
(N/2)^2 Delta as a ratio, Delta being 640 steps or the mean interval of the updates. -/
structure Slope where
  diff : Int
  num : Int
  den : Int
deriving DecidableEq, Repr

/-- The slope from a full window of N entries, newest first. -/
def slopeOf (sig : Bool) (n : Nat) (w : List (Int × Int)) : Slope :=
  let newer := ((w.take (n / 2)).map Prod.snd).sum
  let older := ((w.drop (n / 2)).map Prod.snd).sum
  let half : Int := (n / 2 : Nat)
  let span := (w.headD (0, 0)).1 - (w.getLastD (0, 0)).1
  if sig then { diff := newer - older, num := half * half * span, den := ((n : Int) - 1) }
  else { diff := newer - older, num := half * half * 640, den := 1 }

/-- The distance to the active boundary of a slot whose error is `e`, and its slope estimate (R180). -/
def State.bandSlope (s : State) (l : Lane) (n : Fin 32) (e : Int) : Int × Slope :=
  (s.bandB l n - e, slopeOf (s.bandSig l n) (2 ^ (s.rd (laneDie l) R.CE_Bn_CFG.SPAN n + 1)) (s.band l n).win)

/-- A prediction is valid (R180): the window is full, the slope points towards the boundary and is at least `SLOPE_MIN`. -/
def State.bandPredicts (s : State) (l : Lane) (n : Fin 32) (e : Int) : Bool :=
  let x := s.bandSlope l n e
  let mag := if x.2.diff < 0 then -x.2.diff else x.2.diff
  decide (2 ^ (s.rd (laneDie l) R.CE_Bn_CFG.SPAN n + 1) ≤ (s.band l n).win.length) && decide (0 < x.2.diff * x.1)
    && decide (0 < x.2.num)
    && decide ((s.rd (laneDie l) R.CE_Bn_SLOPE_MIN.SLOPE n : Int) * x.2.num ≤ mag * 640 * x.2.den)

/-- The commit rule of R181 for a slot in `TRACK`: the instant is `t` steps, later by the skew of the slice in 0.01 ps, of
which 125,000 make 128 steps (R180). An instant between two steps of the delay line is quantised by `State.quot`. -/
def State.bandTrackRule (s : State) (l : Lane) (n : Fin 32) (t skew e : Int) : State :=
  let sig := s.bandSig l n
  let h : Int := if sig then 1920 else 4608
  if s.bandBeyond l n e then
    let r := s.quot (skew * 128) 125000
    r.2.bandCommit l n (t + r.1 + h) true
  else if s.bandPredicts l n e then
    let x := s.bandSlope l n e
    let mag := if x.2.diff < 0 then -x.2.diff else x.2.diff
    let gap := (if x.1 < 0 then -x.1 else x.1) * x.2.num
    let den := mag * x.2.den
    let w := if sig then (match (s.band l n).win with
        | (t1, _) :: (t0, _) :: _ => t1 - t0
        | _ => 0) else 640
    if gap ≤ (h + w) * den then
      let late := decide (gap < h * den)
      let r := s.quot (skew * 128 * den + 125000 * (if late then h * den else gap)) (125000 * den)
      r.2.bandCommit l n (t + r.1) late
    else s
  else s

/-- The trace probes of a slot: h, and its state word (R191). -/
def State.bandProbes (s : State) (l : Lane) (n : Fin 32) : State :=
  let b := s.band l n
  let w := b2n (s.on (laneDie l) R.CE_Bn_STATUS.LEVEL n) + 2 * b2n b.edge.isSome + 4 * b2n b.predOk
    + 8 * b2n b.lateLast + min b.sinceEdge 65535 * 2 ^ 16
  (s.traceUpdate l (0x100 + n.val) (s.rd (laneDie l) R.CE_Bn_H.H n)).traceUpdate l (0x120 + n.val) w

/-- A sample or update at a slot (R178 to R181). A slot whose channel still holds an earlier edge commits none. -/
def State.bandEval (s : State) (l : Lane) (n : Fin 32) (x skew t : Int) : State :=
  let d := laneDie l
  if s.bandCfgErr l n then s.bandFail l n R.CE_Bn_STATUS.CFG_ERR
  else if s.rd d R.CE_Bn_STATUS.STATE n = bandErr then s.bandRecover l n
  else
    let e := s.bandError l n x
    let settle := s.rd d R.CE_Bn_CFG.SETTLE n
    let cnt := 2 ^ (s.rd d R.CE_Bn_CFG.SPAN n + 1)
    let s1 := s.modBand l n fun b =>
      { b with e := e, since := b.since + 1, sinceEdge := b.sinceEdge + 1,
               beyondAt := heldSince b.beyondAt (decide ((s.rd d R.CE_Bn_H.H n : Int) < absI e)) s.now,
               win := if settle ≤ b.since then ((t, e) :: b.win).take cnt else b.win }
    let pr2 := s1.fit 32 e
    let pub := pr2.1
    let s2 := pr2.2
    let s3 := (s2.ceSource l (0x20 + n.val) pub).modBand l n fun b => { b with predOk := s2.bandPredicts l n e }
    let st := s3.rd d R.CE_Bn_STATUS.STATE n
    let s4 :=
      if (s3.ch l (s3.bandCh l n)).eng.isSome then s3
      else if st = bandSettle then
        if s3.bandBeyond l n e then
          let r := s3.quot (skew * 128) 125000
          r.2.bandCommit l n (t + r.1 + 4608) true
        else if settle + cnt ≤ (s3.band l n).since then s3.wr d R.CE_Bn_STATUS.STATE bandTrack n
        else s3
      else if st = bandTrack then s3.bandTrackRule l n t skew e
      else s3
    s4.bandProbes l n

/-- `BAND_EVALUATE` (R178 to R181): the oldest sample or update on its way to the slot. -/
def execBandEvaluate (l : Lane) (n : Fin 32) (age : Nat) (s : State) : Out :=
  .next (if s.past l 11 && s.rd (laneDie l) R.CE_Bn_STATUS.STATE n != bandOff then
    match (s.band l n).due with
    | [] => s
    | (x, skew) :: rest =>
      let s1 := s.modBand l n fun b => { b with due := rest }
      if (s.band l n).forced then s1 else s1.bandEval l n x skew (s.steps - age)
    else s)

/-- The report of an issued edge (R179, R183, R185): L follows the level issued; with `FLL_EN` a pending h is applied and an
edge to L = 1 counts for the frequency lock; the slot enters `SETTLE`, but for one that has entered `ERR` meanwhile. -/
def State.bandIssued (s : State) (l : Lane) (n : Fin 32) (x : Int) : State :=
  let d := laneDie l
  let lv := s.bandL l n (s.ch l (s.bandCh l n)).level
  let fll := s.on d R.CE_Bn_CFG.FLL_EN n
  let s1 := (s.put d R.CE_Bn_STATUS.LEVEL lv n).inc d R.CE_Bn_CNT.EDGES n
  let s2 := match (s1.band l n).pendH with
    | some h => if fll then s1.wr d R.CE_Bn_H.H h n else s1
    | none => s1
  let s3 := (s2.modBand l n fun b =>
    { b with
      pendH := none, sinceEdge := 0
      onCnt := if lv && fll then b.onCnt + 1 else b.onCnt
      tFirst := if lv && fll && b.onCnt == 0 then x else b.tFirst
      tLast := if lv && fll then x else b.tLast }).event l (.bandEdge n.val)
  if s3.rd d R.CE_Bn_STATUS.STATE n = bandErr then s3 else s3.toSettle l n

/-- The report of a dropped or withheld edge (R179, R183): the state held before `PENDING` returns, L stays. -/
def State.bandDropped (s : State) (l : Lane) (n : Fin 32) (cnt : Fld) : State :=
  let d := laneDie l
  let s1 := (s.set d R.CE_Bn_STATUS.DROPPED n).inc d cnt n
  if s1.rd d R.CE_Bn_STATUS.STATE n = bandPending then
    (s1.wr d R.CE_Bn_STATUS.STATE (s1.band l n).before n).modBand l n fun b => { b with edge := none }
  else s1

/-- `BAND_EDGE_REPORT` (R179, R183). -/
def execBandEdgeReport (l : Lane) (n : Fin 32) (s : State) : Out :=
  .next (if s.rd (laneDie l) R.CE_Bn_STATUS.STATE n != bandOff then
    let c := s.bandCh l n
    match (s.ch l c).report with
    | none => s
    | some (r, x) =>
      let s1 := s.modCh l c fun k => { k with report := none }
      match r with
      | .issued => s1.bandIssued l n x
      | .dropped => s1.bandDropped l n R.CE_Bn_DROP.DROPPED
      | .withheld => s1.bandDropped l n R.CE_Bn_DROP.WITHHELD
  else s)

/-- `BAND_STALL` (R179): only a slot in sample mode stalls. -/
def execBandStall (l : Lane) (n : Fin 32) (s : State) : Out :=
  let d := laneDie l
  .next (if s.past l 11 && s.rd d R.CE_Bn_STATUS.STATE n != bandOff && !s.bandSig l n then
    s.bandFail l n R.CE_Bn_STATUS.STALL
  else s)

/-- The end of a frequency-lock window (R185). Instants are in steps, of which 102,400,000,000 make a second. -/
def State.fllWindow (s : State) (l : Lane) (n : Fin 32) : State :=
  let d := laneDie l
  let b := s.band l n
  let s1 := s.modBand l n fun b => { b with onCnt := 0, cycles := 0 }
  let dt := b.tLast - b.tFirst
  if 2 ≤ b.onCnt ∧ 0 < dt then
    let edges : Int := (b.onCnt - 1 : Nat)
    let per : Int := 102400000000
    let ft : Int := clampN 10000 100000 (s.rd d R.CE_Bn_FLL.FTARGET n)
    let g : Int := s.rd d R.CE_Bn_FLL.GAIN n + 1
    let pr3 := s1.roundQ (edges * per) dt
    let f := pr3.1
    let s2 := pr3.2
    let den := 256 * ft * dt
    let num := clampI (den / 2) (2 * den) (den + g * (edges * per - ft * dt))
    let h : Int := s.rd d R.CE_Bn_H.H n
    let pr4 := s2.roundQ (h * num) den
    let hk := pr4.1
    let s3 := pr4.2
    let lo : Int := s.rd d R.CE_Bn_HMIN.H n
    let hi : Int := s.rd d R.CE_Bn_HMAX.H n
    let hp := clampI lo hi hk
    (((s3.modBand l n fun b => { b with pendH := some hp.toNat }).put d R.CE_Bn_STATUS.FLL_CLAMP (hp != hk) n).clr d
      R.CE_Bn_STATUS.FLL_STARVED n).wrSat d R.CE_Bn_FMEAS.HZ f.toNat n
  else s1.set d R.CE_Bn_STATUS.FLL_STARVED n

/-- What a traction-cycle boundary does to the engine of a lane (R185, R195): each window that ends computes its h, and
the pipeline's occupancy of the cycle shows. -/
def State.ceBoundary (s : State) (l : Lane) : State :=
  let d := laneDie l
  let s1 := s.each (List.finRange 32) fun s n =>
    if s.on d R.CE_Bn_CFG.FLL_EN n && (s.band l n).ovr.isNone && s.rd d R.CE_Bn_STATUS.STATE n != bandOff then
      let s' := s.modBand l n fun b => { b with cycles := b.cycles + 1 }
      if orOne (s.rd d R.CE_Bn_FLL.WIN n) ≤ (s'.band l n).cycles then s'.fllWindow l n else s'
    else s
  let pr5 := s1.quot ((s1.run l).ce.busy) 4
  let busy := pr5.1
  let s2 := pr5.2
  (s2.wrSat d R.CE_LOAD.BUSY busy.toNat).modCe l fun c => { c with busy := 0 }

/-! ## Arithmetic slots (R175, R176, R186 to R190) -/

/-- A trigger of an arithmetic slot (R175, R176): every `DIV`-th makes it ready, or pending, or overruns. -/
def State.arithTrigger (s : State) (l : Lane) (i : Fin 24) : State :=
  let d := laneDie l
  let a := s.arith l i
  if orOne (s.rd d R.CE_Ai_CFG.DIV i) ≤ a.div + 1 then
    let t := s.now
    let s1 := s.modArith l i fun a => { a with div := 0 }
    match a.ready, a.pend with
    | none, _ => s1.modArith l i fun a => { a with ready := some t }
    | some _, none => s1.modArith l i fun a => { a with pend := some t }
    | some _, some _ =>
      ((s1.set d R.CE_Ai_STATUS.OVR i).inc d R.CE_Ai_TIME.OVERRUNS i).irq l R.CE_CTRL.OVR_IRQ_EN
  else s.modArith l i fun a => { a with div := a.div + 1 }

/-- The trigger code of a slot is reserved or its own completion (R175). -/
def State.trigErr (s : State) (l : Lane) (i : Nat) : Bool :=
  let t := s.rd (laneDie l) R.CE_Ai_CFG.TRIG i
  decide (99 ≤ t) || t == 43 + i

/-- `SRC_ERR` of a slot after a write of its selectors (R173, R175). -/
def State.srcErr (s : State) (l : Lane) (i : Nat) : State :=
  let d := laneDie l
  s.put d R.CE_Ai_STATUS.SRC_ERR (s.trigErr l i || !srcAssigned (s.rd d R.CE_Ai_IN.A i) || !srcAssigned (s.rd d R.CE_Ai_IN.B i)
    || !srcAssigned (s.rd d R.CE_Ai_IN.C i)) i

/-- `ARITH_TRIGGER` (R175, R176): a trigger on its way reaches its slot. A slot whose trigger code is reserved or its own
completion sets `SRC_ERR` and takes none; an `OFF` slot ignores its trigger. -/
def execArithTrigger (l : Lane) (i : Fin 24) (s : State) : Out :=
  let d := laneDie l
  .next (if s.past l 11 then
    let s1 := s.modArith l i fun a => { a with sent := a.sent - 1 }
    if s.trigErr l i then s1.set d R.CE_Ai_STATUS.SRC_ERR i
    else if (s.arith l i).sent = 0 ∨ s.rd d R.CE_Ai_CFG.OP i = 0 then s1
    else s1.arithTrigger l i
  else s)

/-- An arithmetic shift right: a division by a power of two (R186). -/
def asr (x : Int) (k : Nat) : Int := x / 2 ^ k

/-- The cycles of each operation (R186). -/
def opCycles : Nat → Nat
  | 1 => 6 | 2 => 4 | 3 => 5 | 4 => 4 | 5 => 3 | 6 => 3 | 7 => 3 | _ => 0

/-- What one execution computes (R186): u, y, the integrator before its wrap, the angle accumulator. -/
structure ArithRes where
  u : Int
  y : Int
  integ : Int
  theta : Nat
deriving DecidableEq, Repr

/-- The output limits applied to u (R186). -/
def limitY (lo hi u : Int) : Int := satS 32 (min (max u lo) hi)

/-- One execution (R186). `c` is the C input, none where C names the slot itself. -/
def arithOp (op : Nat) (a b : Int) (c : Option Int) (k : Nat → Int) (lo hi integ : Int) (theta : Nat) (y0 : Int) :
    ArithRes :=
  match op with
  | 1 =>
    let e := a - b
    let u := asr (k 0 * e) 24 + asr integ 16
    let y := limitY lo hi u
    { u := u, y := y, integ := integ + asr (k 1 * e + k 2 * (c.getD y - u)) 14, theta := theta }
  | 2 =>
    let i := integ + asr (k 0 * (a - asr integ 16)) 14
    { u := asr (sx 48 (ux 48 i)) 16, y := limitY lo hi (asr (sx 48 (ux 48 i)) 16), integ := i, theta := theta }
  | 3 =>
    let i := integ + asr (k 0 * a + k 1 * b + k 2 * c.getD y0) 14
    { u := asr (sx 48 (ux 48 i)) 16, y := limitY lo hi (asr (sx 48 (ux 48 i)) 16), integ := i, theta := theta }
  | 4 =>
    let u := asr (k 0 * a + k 1 * b + k 2 * c.getD y0) 24 + k 3
    { u := u, y := limitY lo hi u, integ := integ, theta := theta }
  | 5 =>
    let th := ux 32 ((theta : Int) + asr (k 0 * a) 24)
    let y := sx 32 (ux 32 ((th : Int) + k 1))
    { u := y, y := y, integ := integ, theta := th }
  | 6 => { u := a, y := satS 32 (min (max a (c.getD y0)) b), integ := integ, theta := theta }
  | 7 => { u := a - b, y := limitY lo hi (a - b), integ := integ, theta := theta }
  | _ => { u := y0, y := y0, integ := integ, theta := theta }

/-- Following-error supervision at an execution with trigger instant `st` (R190). -/
def State.feSupervise (s : State) (l : Lane) (i : Fin 24) (dv : Int) (st : Nat) : State :=
  let d := laneDie l
  let mag := (if dv < 0 then -dv else dv).toNat
  if mag ≤ s.rd d R.CE_Ai_FE_LIMIT.LIMIT i then
    (s.modArith l i fun a => { a with fe := none }).clr d R.CE_Ai_STATUS.FE_RUN i
  else
    match (s.arith l i).fe with
    | none => (s.modArith l i fun a => { a with fe := some st }).set d R.CE_Ai_STATUS.FE_RUN i
    | some t0 =>
      if t0 + orOne (s.rd d R.CE_Ai_AUX.FE_TIME i) * us ≤ st then
        let s1 := (s.modArith l i fun a => { a with fe := none }).clr d R.CE_Ai_STATUS.FE_RUN i
        let s2 := ((s1.wrBit d R.CE_FE.SLOT i true).irq l R.CE_CTRL.FE_IRQ_EN).raiseTg l (s1.rd d R.CE_Ai_CFG.FE_TG i)
        ((s2.feEvent l i).log l 190 i).event l (.follow i.val)
      else s

/-- A source read by a slot (R173, R174): an invalid one sets `IN_INVALID`, a reserved one `SRC_ERR` as well. -/
def State.arithRead (s : State) (l : Lane) (i : Fin 24) (code : Nat) : State :=
  let d := laneDie l
  (s.when (!s.srcValid l code) fun s => s.set d R.CE_Ai_STATUS.IN_INVALID i).when (!srcAssigned code) fun s =>
    s.set d R.CE_Ai_STATUS.SRC_ERR i

/-- One execution of a ready slot (R176, R186 to R190): in its last cycle it publishes y, fires its completion and, with
`TRIG_EN`, its converter trigger. -/
def State.arithExecute (s : State) (l : Lane) (i : Fin 24) (st : Nat) : State :=
  let d := laneDie l
  let op := s.rd d R.CE_Ai_CFG.OP i
  let ca := s.rd d R.CE_Ai_IN.A i
  let cb := s.rd d R.CE_Ai_IN.B i
  let cc := s.rd d R.CE_Ai_IN.C i
  let a := s.srcVal l ca
  let b := s.srcVal l cb
  let self := cc == i.val + 1
  let s1 := ((s.arithRead l i ca).arithRead l i cb).arithRead l i cc
  let x := s1.arith l i
  let base := x.preset.getD x.integ
  let lo := s.rdS d R.CE_Ai_OUTLIM.MIN i * 2 ^ 16
  let hi := s.rdS d R.CE_Ai_OUTLIM.MAX i * 2 ^ 16 + 65535
  let r := arithOp op a b (if self then none else some (s.srcVal l cc)) (fun j => s.rdS d R.CE_Ai_Kj.K i j) lo hi base
    x.theta (s.rdS d R.CE_Ai_OUT.Y i)
  let i48 := sx 48 (ux 48 r.integ)
  let s2 := s1.modArith l i fun a =>
    { a with integ := i48, theta := r.theta, preset := none, ready := a.pend, pend := none }
  let s3 := ((s2.clr d R.CE_Ai_STATUS.PRESET_PEND i).put d R.CE_Ai_STATUS.SAT (r.y != r.u) i).wr d R.CE_Ai_OUT.Y
    (ux 32 r.y) i
  let s4 := if i48 = r.integ then s3 else (s3.wrBit d R.CE_WRAP.SLOT i true).irq l R.CE_CTRL.WRAP_IRQ_EN
  let lat := 4 * (s.now - st) + opCycles op
  let s5 := ((s4.wr d R.CE_Ai_TIME.MAX_LAT (max (s4.rd d R.CE_Ai_TIME.MAX_LAT i) (min lat 65535)) i).wr d R.CE_LOAD.PEAK
    (max (s4.rd d R.CE_LOAD.PEAK) (min lat 65535))).modCe l fun c => { c with busy := c.busy + opCycles op }
  let s6 := (s5.ceSource l (i.val + 1) r.y).traceUpdate l (0x140 + i.val) (ux 32 (asr i48 16))
  let dv := if op = 1 ∨ op = 7 then a - b else r.u - r.y
  let s7 := if s6.on d R.CE_Ai_CFG.FE_EN i then s6.feSupervise l i dv st else s6
  let s8 := (s7.event l (.completion i.val)).when (s7.on d R.CE_Ai_CFG.TRIG_EN i) fun s => s.event l (.convTrig i.val)
  if s8.on d R.CE_Ai_CFG.URG_EN i then
    s8.urgentRequest l (s8.rd d R.CE_Ai_AUX.URG_GROUP i) (s8.rd d R.CE_Ai_AUX.URG_CH i)
  else s8

/-- `ARITH_EXECUTE` (R176): the pipeline takes the ready slot with the lowest number; an `OFF` slot does nothing. -/
def execArithExecute (l : Lane) (i : Fin 24) (s : State) : Out :=
  .next (if s.past l 11 then
    match (s.arith l i).ready with
    | none => s
    | some st =>
      if (List.finRange 24).any fun j => decide (j < i) && (s.arith l j).ready.isSome then s
      else if s.rd (laneDie l) R.CE_Ai_CFG.OP i = 0 then
        s.modArith l i fun a => { a with ready := none, pend := none }
      else s.arithExecute l i st
  else s)

/-- `CE_INT_PRESET` (R188): the 48-bit value loads at the slot's next execution. -/
def execCeIntPreset (l : Lane) (i : Fin 24) (lo : Option (BitVec 32)) (hi : BitVec 16) (s : State) : Out :=
  let d := laneDie l
  .next (if s.alive l then
    let low32 := match lo with
      | some v => v.toNat
      | none => (s.arith l i).lo.getD 0
    (s.modArith l i fun a => { a with preset := some (sx 48 (hi.toNat * 2 ^ 32 + low32)), lo := none }).set d
      R.CE_Ai_STATUS.PRESET_PEND i
  else s)

/-- The engine starts at the end of `ST11` (R172). -/
def State.ceStart (s0 : State) (l : Lane) : State :=
  let s := s0.each (List.range 24) fun s i => s.srcErr l i
  s.each (List.finRange 32) fun s n => s.when (s.on (laneDie l) R.CE_Bn_CFG.EN n) fun s => s.bandStart l n

end Sys2Proof.Machine
end

