-- ==== Sys2Proof/Machine/Pos.lean ====
section
/-!
DEFINITION. Resolvers, pulse trains and SENT (chapter 06): the operations and the meanings of their commands.
-/
namespace Sys2Proof.Machine

/-- The position block of a lane changed by `f`. -/
def State.modPos (s : State) (l : Lane) (f : PosSt → PosSt) : State := s.modRun l fun r => { r with pos := f r.pos }

/-- A pulse-train channel. -/
def State.pt (s : State) (l : Lane) (p : Fin 6) : PtSt := (s.run l).pos.pt[p]

/-- A pulse-train channel changed by `f`. -/
def State.modPt (s : State) (l : Lane) (p : Fin 6) (f : PtSt → PtSt) : State :=
  s.modPos l fun x => { x with pt := upd x.pt p f }

/-- The integer square root, from its bit `b - 1` down. -/
def isqrtBits (n : Nat) : Nat → Nat → Nat
  | 0, r => r
  | b + 1, r => isqrtBits n b (if (r + 2 ^ b) * (r + 2 ^ b) ≤ n then r + 2 ^ b else r)

/-- The square root of a number below 2^256, rounded down. -/
def isqrt (n : Nat) : Nat := isqrtBits n 128 0

/-! ## Resolvers (R152 to R156) -/

/-- The configuration error of a resolver channel (R153): its group has no resolver destination or is Idle, or both
channels name one group. -/
def State.resCfgErr (s : State) (l : Lane) (n : Nat) : Bool :=
  let d := laneDie l
  let g := s.rd d R.POS_RESn_CFG.GROUP n
  s.rd d R.ADC_Gg_CFG.DEST g != 3 || s.rd d R.ADC_Gg_CFG.MODE g == 0 || decide (12 ≤ g)
    || s.rd d R.POS_RESn_CFG.GROUP 0 == s.rd d R.POS_RESn_CFG.GROUP 1

/-- The loop bandwidth: 100 Hz to 5,000 Hz. -/
def State.resBw (s : State) (l : Lane) (n : Nat) : Nat := clampN 100 5000 (s.rd (laneDie l) R.POS_RESn_LOOP.BW n)

/-- The tracking loop of R154 with the angle error `e` in 2^-30 rad: the speed and the angle. -/
def State.resTrack (s : State) (l : Lane) (n : Fin 2) (e : Int) : State :=
  let d := laneDie l
  let bw : Int := s.resBw l n
  let pr1 := s.quot (e * (Config.twoPi : Int) * bw * bw * 2 ^ 8) (160000 * 160000 * 2 ^ 30)
  let dw := pr1.1
  let s1 := pr1.2
  let w := (s1.res l n).w + dw
  let pr2 := s1.quot (w * 2 ^ 14 * 80000 + e * bw * 2 ^ 32) (2 ^ 30 * 80000)
  let dp := pr2.1
  let s2 := pr2.2
  let pr3 := s2.quot (w * 160000) (2 ^ 18 * (orOne (s2.rd d R.POS_RESn_LOOP.SPD_BASE n) : Int))
  let sp := pr3.1
  let s3 := pr3.2
  ((s3.modRes l n fun x => { x with w := w }).wr d R.POS_RESn_ANGLE.ANGLE
    (ux 32 ((s3.rd d R.POS_RESn_ANGLE.ANGLE n : Int) + dp)) n).wrS d R.POS_RESn_SPEED.SPEED sp n

/-- One fault condition of R156 judged: its consecutive count, and the declaration when the count is reached. -/
def State.resFault (s : State) (l : Lane) (n : Fin 2) (cond : Bool) (cnt : Nat) (dec : Bool) (flag tally : Fld)
    (put : Nat → Bool → ResSt → ResSt) : State :=
  let d := laneDie l
  let c := if cond then cnt + 1 else 0
  let now := cond && (dec || decide (orOne (s.rd d R.POS_RESn_LIMIT.COUNT n) ≤ c))
  let s1 := s.modRes l n (put c now)
  if now && !dec then (s1.set d flag n).inc d tally n else s1

/-- The corrections of a full electrical turn (R155): each applied value moves one step towards its estimate. -/
def State.resCorrect (s : State) (l : Lane) (n : Fin 2) (t : Int × Int × Int × Int) : State :=
  let d := laneDie l
  let a := s.rdS d R.POS_RESn_CORR_OFS.OFS_SIN n
  let b := s.rdS d R.POS_RESn_CORR_OFS.OFS_COS n
  let c := s.rdS d R.POS_RESn_CORR_GP.RATIO n
  let p := s.rdS d R.POS_RESn_CORR_GP.PHASE n
  let st := fun (x y : Int) => if x < y then x + 1 else if y < x then x - 1 else x
  let close := fun (x y : Int) => decide (x - y ≤ 1) && decide (y - x ≤ 1)
  let frozen := s.on d R.POS_RESn_CFG.CORR_FREEZE n
  let s1 := if frozen then s else
    (((s.wrS d R.POS_RESn_CORR_OFS.OFS_SIN (st a t.1) n).wrS d R.POS_RESn_CORR_OFS.OFS_COS (st b t.2.1) n).wrS d
      R.POS_RESn_CORR_GP.RATIO (st c t.2.2.1) n).wrS d R.POS_RESn_CORR_GP.PHASE (st p t.2.2.2) n
  s1.put d R.POS_RESn_STATUS.SETTLED
    (close (s1.rdS d R.POS_RESn_CORR_OFS.OFS_SIN n) t.1 && close (s1.rdS d R.POS_RESn_CORR_OFS.OFS_COS n) t.2.1
      && close (s1.rdS d R.POS_RESn_CORR_GP.RATIO n) t.2.2.1 && close (s1.rdS d R.POS_RESn_CORR_GP.PHASE n) t.2.2.2) n

/-- `VALID` of a resolver channel set or cleared, with `POS_STATUS` and the interrupt on its fall. -/
def State.resValid (s : State) (l : Lane) (n : Fin 2) (v : Bool) : State :=
  let d := laneDie l
  let was := s.on d R.POS_RESn_STATUS.VALID n
  let s1 := (s.put d R.POS_RESn_STATUS.VALID v n).wrBit d R.POS_STATUS.RES_VALID n v
  s1.when (was && !v) fun s => s.irq l R.POS_RESn_CFG.IRQ_EN n

/-- The speed is at least 2 turns per second (R155). -/
def State.resFast (s : State) (l : Lane) (n : Fin 2) : Bool :=
  let v := (s.res l n).w * 160000
  decide (2 * 2 ^ 48 ≤ v) || decide (v ≤ -(2 * 2 ^ 48))

/-- The place of a sample in the carrier as an angle of 2^-32 turn, less the carrier delay `CAR` (R154). -/
def State.resRef (s : State) (l : Lane) (n : Fin 2) (k : Nat) : Nat :=
  (k * 2 ^ 32 / (2 * s.resDiv l n) + 2 ^ 32 - s.rd (laneDie l) R.POS_RESn_CAR.CAR n * 2 ^ 16) % 2 ^ 32

/-- The sums of R154 over the window: each sample times the reference, and times the reference a quarter period ahead. -/
def State.resSum (s : State) (l : Lane) (n : Fin 2) (w : List (Nat × Int)) : Int × Int :=
  ((w.map fun x => x.2 * Config.sine (s.resRef l n x.1)).sum, (w.map fun x => x.2 * Config.cosine (s.resRef l n x.1)).sum)

/-- The demodulated sine, cosine and quadrature residual in 2^-20 LSB (R154), normalised to the amplitude of the samples: twice
the sum over the samples of a period (DEDUCED from the units of R156, log entry 46). -/
def State.demod (s : State) (l : Lane) (n : Fin 2) : State :=
  let x := s.res l n
  let a := s.resSum l n x.sin
  let b := s.resSum l n x.cos
  let den : Int := (s.resDiv l n : Int) * 2 ^ 31
  let p1 := s.quot a.1 den
  let p2 := p1.2.quot b.1 den
  let p3 := p2.2.quot (a.2 + b.2) den
  p3.2.modRes l n fun x => { x with lastS := p1.1, lastC := p2.1, lastQ := p3.1 }

/-- The full electrical turns (R155): while `CORR_EN` is set and `LOCK` holds at 2 turns per second or more, each full turn
moves the applied values towards the estimates `est`. -/
def State.resTurn (s : State) (l : Lane) (n : Fin 2) (phi0 : Nat) (lock : Bool) (est : Int × Int × Int × Int) : State :=
  let d := laneDie l
  if s.on d R.POS_RESn_CFG.CORR_EN n && lock && s.resFast l n then
    let acc := (s.res l n).turn + sx 32 (ux 32 ((s.rd d R.POS_RESn_ANGLE.ANGLE n : Int) - phi0))
    if 2 ^ 32 ≤ acc ∨ acc ≤ -(2 ^ 32) then (s.modRes l n fun x => { x with turn := 0 }).resCorrect l n est
    else s.modRes l n fun x => { x with turn := acc }
  else s.modRes l n fun x => { x with turn := 0 }

/-- One output of a resolver channel (R154 to R156). The corrected sine and cosine are held times 2^36. -/
def State.resUpdate (s0 : State) (l : Lane) (n : Fin 2) (est : Int × Int × Int × Int) : State :=
  let d := laneDie l
  let s := s0.demod l n
  let si := (s.res l n).lastS - s.rdS d R.POS_RESn_CORR_OFS.OFS_SIN n * 2 ^ 16
  let ci := (s.res l n).lastC - s.rdS d R.POS_RESn_CORR_OFS.OFS_COS n * 2 ^ 16
  let sv := si * 2 ^ 16
  let cv := ci * (2 ^ 16 + s.rdS d R.POS_RESn_CORR_GP.RATIO n) - si * s.rdS d R.POS_RESn_CORR_GP.PHASE n
  let a2 := (sv * sv + cv * cv).toNat
  let a := isqrt a2
  let phi := s.rd d R.POS_RESn_ANGLE.ANGLE n
  let pr4 := s.quot (sv * Config.cosine phi - cv * Config.sine phi) (max 1 a : Nat)
  let e := pr4.1
  let s1 := pr4.2
  let s2 := s1.resTrack l n e
  let pr5 := s2.quot a (2 ^ 36)
  let amp := pr5.1
  let pr6 := pr5.2.quot (s.res l n).lastQ (2 ^ 20)
  let s3 := pr6.2
  let s4 := (s3.wrSat d R.POS_RESn_AMP.AMP amp.toNat n).wr d R.POS_RESn_AMP.QUAD (ux 16 (satS 16 pr6.1)) n
  let lim := fun (f : Fld) => (s4.rd d f n * 64 * 2 ^ 36) * (s4.rd d f n * 64 * 2 ^ 36)
  let los := decide (a2 < lim R.POS_RESn_LIMIT.LOS)
  let dos := decide (lim R.POS_RESn_LIMIT.DOS_HI < a2) || (s.res l n).clip
  let mag := (if e < 0 then -e else e) * 2 ^ 18
  let lotLim : Int := (s4.rd d R.POS_RESn_LIMIT.LOT n : Int) * (Config.twoPi : Int)
  let lot := decide (lotLim < mag)
  let r := s4.res l n
  let s5 := s4.resFault l n los r.los r.losD R.POS_RESn_STATUS.LOS R.POS_RESn_FLT.LOS_CNT fun c b x =>
    { x with los := c, losD := b }
  let s6 := s5.resFault l n dos r.dos r.dosD R.POS_RESn_STATUS.DOS R.POS_RESn_FLT.DOS_CNT fun c b x =>
    { x with dos := c, dosD := b, clip := false }
  let s7 := s6.resFault l n lot r.lot r.lotD R.POS_RESn_STATUS.LOT R.POS_RESn_FLT.LOT_CNT fun c b x =>
    { x with lot := c, lotD := b }
  let lock := decide (mag < lotLim)
  let good := if los || dos || lot || !decide (2 * mag < lotLim) then 0 else r.good + 1
  let s8 := (s7.modRes l n fun x => { x with good := good }).put d R.POS_RESn_STATUS.LOCK lock n
  let err := s8.resCfgErr l n
  let s9 := s8.put d R.POS_RESn_STATUS.CFG_ERR err n
  let q := s9.res l n
  let bad := q.losD || q.dosD || q.lotD || err
  let sv := if bad then s9.resValid l n false else if 160 ≤ good then s9.resValid l n true else s9
  let ok := sv.on d R.POS_RESn_STATUS.VALID n
  let s10 := (sv.ceSource l (0x90 + n.val) (sv.rdS d R.POS_RESn_ANGLE.ANGLE n) ok).ceSource l (0x92 + n.val)
    (sv.rdS d R.POS_RESn_SPEED.SPEED n) ok
  s10.resTurn l n phi lock est

/-- `RESOLVER_UPDATE` (R153 to R156). -/
def execResolverUpdate (l : Lane) (n : Fin 2) (est : Int × Int × Int × Int) (s : State) : Out :=
  .next (if s.past l 11 && s.on (laneDie l) R.POS_RESn_CFG.EN n then s.resUpdate l n est else s)

/-- The step of `CAR` that takes the quadrature residual towards zero (R155): with the reference lagging the carrier of the
samples by too much, the residual has the sign of the demodulated sum. -/
def carStep (sum q : Int) : Int := if 0 < sum * q then -1 else if sum * q < 0 then 1 else 0

/-- `RESOLVER_CAR_STEP` (R155): 1,024 carrier periods after the last step, at any speed, `CAR` moves by at most one code, unless
frozen. -/
def execResolverCarStep (l : Lane) (n : Fin 2) (s : State) : Out :=
  let d := laneDie l
  .next (if s.past l 11 && s.on d R.POS_RESn_CFG.EN n then
    let at_ := (s.res l n).carAt + 1280 * s.resDiv l n
    let s1 := (s.advTo at_).modRes l n fun x => { x with carAt := at_ }
    if s1.on d R.POS_RESn_CFG.CORR_FREEZE n then s1
    else
      let x := s1.res l n
      s1.wr d R.POS_RESn_CAR.CAR (ux 16 ((s1.rd d R.POS_RESn_CAR.CAR n : Int) + carStep (x.lastS + x.lastC) x.lastQ)) n
  else s)

/-- A write that changes `DIV` (R169): the demodulation restarts, `VALID` clears until R156 is met again. -/
def State.resRestart (s : State) (l : Lane) (n : Fin 2) : State :=
  (s.modRes l n fun x => { x with good := 0, sin := [], cos := [], tick := 0, clip := false, turn := 0 }).resValid l n false

/-! ## Pulse trains (R157 to R164) -/

/-- The mode of an enabled pulse-train channel; mode 3 acts as disabled. -/
def State.ptMode (s : State) (l : Lane) (p : Nat) : Option Nat :=
  let m := s.rd (laneDie l) R.POS_PTp_CFG.MODE p
  if s.on (laneDie l) R.POS_PTp_CFG.EN p && m != 3 then some m else none

/-- `VALID` and `ANGLE_OK` of a pulse-train channel, with `POS_STATUS` and the interrupt when one clears. -/
def State.ptFlags (s : State) (l : Lane) (p : Fin 6) (valid ok : Bool) : State :=
  let d := laneDie l
  let fell := (s.on d R.POS_PTp_STATUS.VALID p && !valid) || (s.on d R.POS_PTp_STATUS.ANGLE_OK p && !ok)
  let s1 := ((s.put d R.POS_PTp_STATUS.VALID valid p).put d R.POS_PTp_STATUS.ANGLE_OK ok p).wrBit d
    R.POS_STATUS.PT_VALID p valid
  s1.when fell fun s => s.irq l R.POS_PTp_CFG.IRQ_EN p

/-- `ANGLE_OK` of a pulse-train channel set or cleared. -/
def State.ptOk (s : State) (l : Lane) (p : Fin 6) (ok : Bool) : State :=
  s.ptFlags l p (s.on (laneDie l) R.POS_PTp_STATUS.VALID p) ok

/-- The tooth-wheel states of `POS_PTp_STATUS.SYNC`. -/
def twUnsync : Nat := 0
/-- `CANDIDATE`. -/
def twCandidate : Nat := 1
/-- `SYNC`. -/
def twSync : Nat := 2

/-- An error event adds 8 to the error level; at the limit `ERR_FAULT` sets, `VALID` and `ANGLE_OK` clear, a tooth wheel
returns to UNSYNC (R164). -/
def State.ptError (s : State) (l : Lane) (p : Fin 6) : State :=
  let d := laneDie l
  let v := min 255 (s.rd d R.POS_PTp_STATUS.ERR_LEVEL p + 8)
  let s1 := s.wr d R.POS_PTp_STATUS.ERR_LEVEL v p
  if max 8 (s1.rd d R.POS_PTp_FILT.ERR_LIMIT p) ≤ v then
    ((s1.set d R.POS_PTp_STATUS.ERR_FAULT p).wr d R.POS_PTp_STATUS.SYNC twUnsync p).ptFlags l p false false
  else s1

/-- A legal counting edge takes 1 from the error level; at 0 `ERR_FAULT` and `VALID` recover (R164). -/
def State.ptLegal (s : State) (l : Lane) (p : Fin 6) : State :=
  let d := laneDie l
  let v := s.rd d R.POS_PTp_STATUS.ERR_LEVEL p - 1
  let s1 := s.wr d R.POS_PTp_STATUS.ERR_LEVEL v p
  if v = 0 then
    (s1.clr d R.POS_PTp_STATUS.ERR_FAULT p).ptFlags l p true (s1.on d R.POS_PTp_STATUS.ANGLE_OK p)
  else s1

/-- The counts per turn; 0 acts as 1. -/
def State.ptCounts (s : State) (l : Lane) (p : Nat) : Nat := orOne (s.rd (laneDie l) R.POS_PTp_SCALE.COUNTS p)

/-- The index E at which a pattern's reference edge must stand (R162). -/
def State.ptE (s : State) (l : Lane) (p : Nat) : Nat := s.ptCounts l p - s.rd (laneDie l) R.POS_PTp_TW.MISSING p

/-- The position since the reference, modulo `COUNTS` (R161). -/
def State.ptPos (s : State) (l : Lane) (p : Fin 6) : Nat :=
  let x := s.pt l p
  let n : Int := s.ptCounts l p
  if s.rd (laneDie l) R.POS_PTp_CFG.MODE p = 2 then (x.idx : Int).toNat % n.toNat
  else ((x.count - x.ref.getD 0) % n).toNat

/-- `ANGLE` at a counting edge: `REF_ANGLE` + i 2^32 / `COUNTS`, rounded (R161). -/
def State.ptAngle (s : State) (l : Lane) (p : Fin 6) : State :=
  let d := laneDie l
  let pr6 := s.roundQ ((s.ptPos l p : Int) * 2 ^ 32) (s.ptCounts l p : Int)
  let v := pr6.1
  let s1 := pr6.2
  let a := ux 32 ((s1.rd d R.POS_PTp_REF.REF_ANGLE p : Int) + v)
  (s1.modPt l p fun x => { x with angle := a }).wr d R.POS_PTp_ANGLE.ANGLE a p

/-- `SPEED` from a step of `n` counts in a period (R161): turns per second against `SPD_BASE`, saturating (R12). -/
def State.ptSpeed (s : State) (l : Lane) (p : Fin 6) (n : Int) (period : Nat) : State :=
  let d := laneDie l
  let pr7 := s.quot (n * 400000000 * 2 ^ 30)
    ((s.ptCounts l p * orOne period * orOne (s.rd d R.POS_PTp_SPD.SPD_BASE p) : Nat) : Int)
  let v := pr7.1
  let s1 := pr7.2
  s1.wrS d R.POS_PTp_SPEED.SPEED v p

/-- A gap of a tooth wheel (R162): T_n at least G times both neighbours. The periods are newest first. -/
def isGap (g : Nat) : List Nat → Bool
  | t1 :: t :: t0 :: _ => decide (g * t0 ≤ 16 * t) && decide (g * t1 ≤ 16 * t)
  | _ => false

/-- An extra tooth (R162): T_n and T_(n+1) at most X times T_(n-1). -/
def isExtra (x : Nat) : List Nat → Bool
  | t1 :: t :: t0 :: _ => decide (16 * t ≤ x * t0) && decide (16 * t1 ≤ x * t0)
  | _ => false

/-- The periods show the wheel's reference pattern (R162). -/
def State.twFound (s : State) (l : Lane) (p : Fin 6) (hist : List Nat) : Bool :=
  let d := laneDie l
  if s.on d R.POS_PTp_TW.EXTRA p then isExtra (max 8 (s.rd d R.POS_PTp_TW.EXTRA_THR p)) hist
  else s.rd d R.POS_PTp_TW.MISSING p != 0 && isGap (clampN 24 80 (s.rd d R.POS_PTp_TW.GAP_THR p)) hist

/-- `SYNC_ERR`: synchronisation is lost at this edge (R163, R164). -/
def State.twLost (s : State) (l : Lane) (p : Fin 6) (sync : Nat) : State :=
  let d := laneDie l
  ((((s.wr d R.POS_PTp_STATUS.SYNC sync p).set d R.POS_PTp_STATUS.SYNC_ERR p).inc d R.POS_PTp_ERR.SYNC_ERR p).ptOk l p
    false).ptError l p

/-- The synchronisation of a tooth wheel at a counting edge whose index is already advanced (R162, R163); whether the edge
counts a `SYNC_ERR`. `ANGLE_OK` waits while `ERR_FAULT` stands (R164). -/
def State.twEdge (s : State) (l : Lane) (p : Fin 6) (found : Bool) : Bool × State :=
  let d := laneDie l
  let x := s.pt l p
  let e := s.ptE l p
  let extra := s.on d R.POS_PTp_TW.EXTRA p
  let st := s.rd d R.POS_PTp_STATUS.SYNC p
  if found then
    let ref := x.idx - 1
    let s1 := s.modPt l p fun x =>
      { x with idx := if extra then 0 else 1, count := if extra then x.count - 1 else x.count }
    if st = twUnsync then (false, s1.wr d R.POS_PTp_STATUS.SYNC twCandidate p)
    else if ref = e then
      (false, (s1.wr d R.POS_PTp_STATUS.SYNC twSync p).when (!s1.on d R.POS_PTp_STATUS.ERR_FAULT p) fun s => s.ptOk l p true)
    else if st = twSync then (true, s1.twLost l p twCandidate)
    else (false, s1)
  else if e + 2 ≤ x.idx then
    if st = twSync then (true, s.twLost l p twUnsync) else (false, s.wr d R.POS_PTp_STATUS.SYNC twUnsync p)
  else (false, s)

/-- A pulse-train channel's angle and speed published to the engine (R150, R173). -/
def State.ptPublish (s : State) (l : Lane) (p : Fin 6) : State :=
  let d := laneDie l
  let ok := s.on d R.POS_PTp_STATUS.VALID p
  (s.ceSource l (0x94 + p.val) (s.rdS d R.POS_PTp_ANGLE.ANGLE p) ok).ceSource l (0x9A + p.val)
    (s.rdS d R.POS_PTp_SPEED.SPEED p) ok

/-- The last period of R161 at a counting edge in a direction, `none` where the edge ends no period: in quadrature the last four
counts in one direction; a pulse period; a pitch period, where a gap is divided by `MISSING` + 1 and truncated (DESIGN CHOICE,
log entry 46), and the two halves at an extra tooth count as one pitch. The extra tooth itself ends none in SYNC (DEDUCED from
R162, log entry 46). -/
def State.ptPeriod (s : State) (l : Lane) (p : Fin 6) (mode run : Nat) (hist : List Nat) (found : Bool) : Option Nat :=
  let d := laneDie l
  let x := s.pt l p
  let ending := s.rd d R.POS_PTp_STATUS.SYNC p == twSync && x.idx + 1 == s.ptE l p
  let extra := s.on d R.POS_PTp_TW.EXTRA p
  let dt := hist.headD 0
  if x.fresh then none
  else
    match mode with
    | 0 => if run = 4 ∧ hist.length = 4 then some hist.sum else none
    | 1 => some dt
    | _ =>
      if extra && found then some (dt + hist.getD 1 0)
      else if extra && ending then none
      else some (if ending then dt / (s.rd d R.POS_PTp_TW.MISSING p + 1) else dt)

/-- A counting edge's count, history and speed (R157, R161, R162), `stable` 2.5 ns before its acceptance; whether it counts a
`SYNC_ERR`. -/
def State.ptCount (s : State) (l : Lane) (p : Fin 6) (mode dt stable : Nat) (up : Bool) : Bool × State :=
  let d := laneDie l
  let x := s.pt l p
  let same := s.on d R.POS_PTp_STATUS.DIR p == up
  let step : Int := if up then 1 else -1
  let hist := if x.fresh then [] else (dt :: (if same || mode != 0 then x.hist else [])).take 4
  let run := if same then min 4 (x.run + 1) else 1
  let found := mode == 2 && s.twFound l p hist
  let per := s.ptPeriod l p mode run hist found
  let s1 := s.modPt l p fun x =>
    { x with count := x.count + step, hist := hist, run := run, fresh := false, idx := x.idx + 1,
             period := per.getD x.period, span := if mode = 0 then 4 else 1, lastAt := s.now - stable / 4, since := 0 }
  let s2 := ((s1.put d R.POS_PTp_STATUS.DIR up p).clr d R.POS_PTp_STATUS.ZERO_SPEED p).wr d R.POS_PTp_STAMP.STAMP
    (low 32 (s1.laneTime l - stable / 4)) p
  let r := if mode = 2 then s2.twEdge l p found else (false, s2)
  let s3 := r.2
  let s4 := s3.wr d R.POS_PTp_COUNT.COUNT (ux 32 (s3.pt l p).count) p
  let s5 := if mode = 2 then s4.wr d R.POS_PTp_INDEX.VALUE (s4.pt l p).idx p else s4
  let s6 := match per with
    | some t => (s5.ptSpeed l p (if mode = 0 then 4 * step else step) t).wrSat d R.POS_PTp_PERIOD.PERIOD t p
    | none => if mode = 0 && !same then s5.wr d R.POS_PTp_SPEED.SPEED 0 p else s5
  (r.1, s6.ptAngle l p)

/-- A level of a pulse-train input after inversion (R157): bit `k` of the accepted levels. -/
def State.ptLevel (s : State) (l : Lane) (p : Fin 6) (lv k : Nat) : Bool :=
  let d := laneDie l
  let inv := match k with
    | 0 => s.on d R.POS_PTp_CFG.INV_A p | 1 => s.on d R.POS_PTp_CFG.INV_B p | _ => s.on d R.POS_PTp_CFG.INV_Z p
  bit lv k != inv

/-- The minimum-edge-interval filter lets a level through that has stood for `stable` times 2.5 ns (R158). -/
def State.ptAccepts (s : State) (l : Lane) (p : Fin 6) (stable : Nat) : Bool :=
  decide (orOne (s.rd (laneDie l) R.POS_PTp_FILT.MIN_EDGE p) ≤ stable)

/-- An accepted edge that counts up or down; whether it is illegal (R157, R159). -/
inductive PtEdge | none | counts (up illegal : Bool) | refused
deriving DecidableEq, Repr

/-- What an accepted change of A and B is (R157, R159): `a0` and `b0` before it, `a1` and `b1` after it; `bAge` is the time
since B's last change, this one included. -/
def ptEdge (mode : Nat) (falling a0 b0 a1 b1 : Bool) (bAge : Option Nat) (setup : Nat) : PtEdge :=
  match mode with
  | 0 =>
    if a0 != a1 && b0 != b1 then .refused
    else if a0 != a1 then .counts (a1 != b1) false
    else if b0 != b1 then .counts (a1 == b1) false
    else .none
  | 1 =>
    if !a0 && a1 then
      match bAge with
      | some t => if t ≤ setup then .counts (!b1) true else .counts b1 false
      | none => .counts b1 false
    else .none
  | _ => if a0 != a1 && a1 != falling then .counts true false else .none

/-- An `ILLEGAL` event (R159, R164). -/
def State.ptIllegal (s : State) (l : Lane) (p : Fin 6) : State :=
  ((s.set (laneDie l) R.POS_PTp_STATUS.ILLEGAL p).inc (laneDie l) R.POS_PTp_ERR.ILLEGAL p).ptError l p

/-- `PT_COUNTING_EDGE` (R157 to R159, R161 to R164): new levels of A and B, `dt` after the previous change of either, that have
stood for `stable`. Only an edge without an error event takes 1 from the error level. -/
def execPtCountingEdge (l : Lane) (p : Fin 6) (dt stable : Nat) (levels : BitVec 2) (s : State) : Out :=
  let d := laneDie l
  .next (if s.past l 11 && s.ptAccepts l p stable then
    match s.ptMode l p with
    | none => s
    | some mode =>
      let x := s.pt l p
      let lv := x.lv / 4 % 2 * 4 + levels.toNat
      let b0 := s.ptLevel l p x.lv 1
      let b1 := s.ptLevel l p lv 1
      let age := if b0 != b1 then some 0 else x.bAge.map (· + dt)
      let e := ptEdge mode (s.on d R.POS_PTp_CFG.TW_EDGE p) (s.ptLevel l p x.lv 0) b0 (s.ptLevel l p lv 0) b1 age
        (s.rd d R.POS_PTp_FILT.DIR_SETUP p)
      let s1 := ((s.modPt l p fun x => { x with lv := lv, since := x.since + dt, bAge := age }).put d R.POS_PTp_STATUS.LEVEL_A
        (bit lv 0) p).put d R.POS_PTp_STATUS.LEVEL_B (bit lv 1) p
      match e with
      | .none => s1
      | .refused => s1.ptIllegal l p
      | .counts up illegal =>
        let r := s1.ptCount l p mode (x.since + dt) stable up
        if illegal then r.2.ptIllegal l p else if r.1 then r.2 else r.2.ptLegal l p
  else s)

/-- `PT_GLITCH` (R158, R164): two edges on one line closer than `MIN_EDGE` are both discarded. -/
def execPtGlitch (l : Lane) (p : Fin 6) (line : Fin 3) (gap : Nat) (s : State) : Out :=
  let d := laneDie l
  let f := match line.val with
    | 0 => R.POS_PTp_GLITCH.A | 1 => R.POS_PTp_GLITCH.B | _ => R.POS_PTp_GLITCH.Z
  .next (if s.past l 11 && (s.ptMode l p).isSome && !s.ptAccepts l p gap then
    let s1 := (s.inc d f p).set d R.POS_PTp_STATUS.GLITCH p
    if s1.on d R.POS_PTp_CFG.GLITCH_ERR p then s1.ptError l p else s1
  else s)

/-- A rising edge of Z is a reference of the channel (R157): in quadrature while A and B equal `Z_QUAL`, in pulse and direction
always. -/
def State.ptIsReference (s : State) (l : Lane) (p : Fin 6) : Bool :=
  let q := s.rd (laneDie l) R.POS_PTp_CFG.Z_QUAL p
  let lv := (s.pt l p).lv
  s.on (laneDie l) R.POS_PTp_CFG.Z_EN p
    && (s.ptMode l p == some 1
      || (s.ptMode l p == some 0 && s.ptLevel l p lv 0 == bit q 0 && s.ptLevel l p lv 1 == bit q 1))

/-- An accepted reference edge (R160): the count is latched, and zeroed with `Z_RESET`; a later reference checks `COUNTS`. -/
def State.ptReference (s : State) (l : Lane) (p : Fin 6) : State :=
  let d := laneDie l
  let x := s.pt l p
  let n : Int := s.ptCounts l p
  let turn := x.count - x.ref.getD 0
  let wrong := x.ref.isSome && turn != n && turn != -n
  let s1 := s.wr d R.POS_PTp_INDEX.VALUE (ux 32 x.count) p
  let c : Int := if s.on d R.POS_PTp_CFG.Z_RESET p then 0 else x.count
  let s2 := (s1.modPt l p fun x => { x with count := c, ref := some c }).wr d R.POS_PTp_COUNT.COUNT (ux 32 c) p
  let s3 := if wrong then
      ((s2.set d R.POS_PTp_STATUS.INDEX_ERR p).inc d R.POS_PTp_ERR.INDEX_ERR p).ptError l p
    else s2
  (s3.when (!s3.on d R.POS_PTp_STATUS.ERR_FAULT p) fun s => s.ptOk l p true).ptAngle l p

/-- `PT_REFERENCE_EDGE` (R157, R158, R160): Z takes a new level that has stood for `stable`. -/
def execPtReferenceEdge (l : Lane) (p : Fin 6) (stable : Nat) (level : Bool) (s : State) : Out :=
  let d := laneDie l
  .next (if s.past l 11 && (s.ptMode l p).isSome && s.ptAccepts l p stable then
    let lv := (s.pt l p).lv
    let new := lv % 4 + 4 * b2n level
    let s1 := (s.modPt l p fun x => { x with lv := new }).put d R.POS_PTp_STATUS.LEVEL_Z level p
    if !s.ptLevel l p lv 2 && s.ptLevel l p new 2 && s1.ptIsReference l p then s1.ptReference l p else s1
  else s)

/-- `PT_EXTRAPOLATE` (R161): the angle moves on from the last counting edge by the speed, at most one count less one; in
SYNC before a gap at most `MISSING` + 1 pitches less one. Past the last period the speed falls with the elapsed time. The
limit's quotient is truncated (DESIGN CHOICE, log entry 46). -/
def execPtExtrapolate (l : Lane) (p : Fin 6) (dt : Nat) (s : State) : Out :=
  let d := laneDie l
  .next (if s.past l 11 && (s.ptMode l p).isSome && !s.on d R.POS_PTp_STATUS.ZERO_SPEED p
      && s.rd d R.POS_PTp_SPEED.SPEED p != 0 then
    let x := s.pt l p
    let up := s.on d R.POS_PTp_STATUS.DIR p
    let gap := s.rd d R.POS_PTp_STATUS.SYNC p == twSync && x.idx + 1 == s.ptE l p
    let pitches := if gap then s.rd d R.POS_PTp_TW.MISSING p + 1 else 1
    let slow := decide (x.period < dt)
    let sgn : Int := if up then 1 else -1
    let s1 := if slow then s.ptSpeed l p (sgn * x.span) dt else s
    let n : Int := s1.ptCounts l p
    let pr8 := s1.quot ((x.span : Int) * 2 ^ 32 * dt) (n * (orOne (max x.period dt) : Nat))
    let move := pr8.1
    let s2 := pr8.2
    let lim := (pitches : Int) * 2 ^ 32 / n - 1
    (s2.wr d R.POS_PTp_ANGLE.ANGLE (ux 32 ((x.angle : Int) + sgn * max 0 (min move lim))) p).ptPublish l p
  else if s.past l 11 && (s.ptMode l p).isSome then s.ptPublish l p else s)

/-- `PT_ZERO_SPEED` (R161, R163): `ZERO_TIME` after the last counting edge the speed is zero; a tooth wheel returns to UNSYNC
with its history cleared. -/
def execPtZeroSpeed (l : Lane) (p : Fin 6) (s : State) : Out :=
  let d := laneDie l
  .next (if s.past l 11 then
    match s.ptMode l p with
    | none => s
    | some mode =>
      let s0 := s.advTo ((s.pt l p).lastAt + orOne (s.rd d R.POS_PTp_SPD.ZERO_TIME p) * us)
      let s1 := ((s0.wr d R.POS_PTp_SPEED.SPEED 0 p).set d R.POS_PTp_STATUS.ZERO_SPEED p).modPt l p fun x =>
        { x with fresh := true, hist := [], run := 0 }
      if mode = 2 then (s1.wr d R.POS_PTp_STATUS.SYNC twUnsync p).ptOk l p false else s1
  else s)

/-- A write that changes `MODE`, `COUNTS`, `MISSING`, `EXTRA` or `REF_ANGLE` (R169). -/
def State.ptReconfigured (s : State) (l : Lane) (p : Fin 6) : State :=
  (s.wr (laneDie l) R.POS_PTp_STATUS.SYNC twUnsync p).ptOk l p false

/-- A channel is enabled (R160 to R162): its count, reference, index and periods begin anew, the angle at `REF_ANGLE`; it is
valid unless `ERR_FAULT` stands (DEDUCED from R164 and R168, log entry 46). -/
def State.ptEnable (s : State) (l : Lane) (p : Fin 6) : State :=
  let d := laneDie l
  let s1 := s.modPt l p fun x =>
    { x with count := 0, ref := none, hist := [], run := 0, fresh := true, idx := 0, since := 0, bAge := none, lastAt := s.now }
  let s2 := ((s1.wr d R.POS_PTp_COUNT.COUNT 0 p).wr d R.POS_PTp_SPEED.SPEED 0 p).wr d R.POS_PTp_STATUS.SYNC twUnsync p
  (s2.ptFlags l p (!s2.on d R.POS_PTp_STATUS.ERR_FAULT p) false).ptAngle l p

/-- A write of `EN` or `MODE` has enabled or disabled a channel. -/
def State.ptSwitch (s : State) (l : Lane) (p : Fin 6) : State :=
  if (s.ptMode l p).isSome then s.ptEnable l p else s.ptFlags l p false false

/-- The position block begins at the end of `ST11` with the converters (R152, R155): `CAR` starts at `CAR_INIT`. -/
def State.posStart (s : State) (l : Lane) : State :=
  let d := laneDie l
  let s1 := s.each (List.finRange 2) fun s n =>
    (s.wr d R.POS_RESn_CAR.CAR (s.rd d R.POS_RESn_EXC.CAR_INIT n) n).modRes l n fun x => { x with carAt := s.now }
  s1.each (List.finRange 6) fun s p => s.when ((s.ptMode l p).isSome) fun s => s.ptEnable l p

/-! ## SENT (R165 to R167) -/

/-- One step of the SENT CRC of R165: a nibble times x^4 modulo x^4 + x^3 + x^2 + 1. -/
def sentCrcStep (c : Nat) : Nat :=
  let f := fun (x : Nat) => if 8 ≤ x then (2 * x % 16) ^^^ 13 else 2 * x
  f (f (f (f c)))

/-- The 4-bit CRC of R165 over the data nibbles, seed 5; the augmentation is one zero nibble. -/
def sentCrc (legacy : Bool) (ns : List Nat) : Nat :=
  let c := ns.foldl (fun c n => sentCrcStep c ^^^ (n % 16)) 5
  if legacy then c else sentCrcStep c

/-- One bit of the 6-bit CRC of the enhanced serial message (x^6 + x^4 + x^3 + 1). PRESUMED, log entry 11. -/
def slowCrcBit (c b : Nat) : Nat := let x := 2 * c + b; if 64 ≤ x then (x % 64) ^^^ 25 else x

/-- Bit `k` of the status nibbles, the first frame's first. -/
def slowBits (k : Nat) (h : List Nat) : List Nat := (h.reverse).map fun n => b2n (bit n k)

/-- The number that a list of bits spells, most significant first. -/
def ofBits (bs : List Nat) : Nat := bs.foldl (fun a b => 2 * a + b) 0

/-- Eighteen status nibbles make a message: bit 3 reads 1111110 in frames 1 to 7 and 0 in frames 13 and 18. PRESUMED, log
entry 11. -/
def slowStart (h : List Nat) : Bool :=
  let b := slowBits 3 h
  h.length == 18 && b.take 7 == [1, 1, 1, 1, 1, 1, 0] && b.getD 12 1 == 0 && b.getD 17 1 == 0

/-- The CRC of the message over frames 7 to 18, bit 2 before bit 3, with six zero bits. PRESUMED, log entry 11. -/
def slowCrc (h : List Nat) : Nat :=
  let bs := (((slowBits 2 h).drop 6).zip ((slowBits 3 h).drop 6)).flatMap fun x => [x.1, x.2]
  (bs ++ [0, 0, 0, 0, 0, 0]).foldl slowCrcBit 21

/-- The slow channel after an accepted frame's status nibble (R165). -/
def State.sentSlow (s : State) (l : Lane) (n : Fin 4) (status : Nat) : State :=
  let d := laneDie l
  let h := (status :: ((s.run l).pos.sent[n]).slow).take 18
  let keep := fun (x : List Nat) (s : State) => s.modPos l fun p => { p with sent := upd p.sent n fun c => { c with slow := x } }
  if slowStart h then
    let b2 := slowBits 2 h
    let b3 := slowBits 3 h
    if ofBits (b2.take 6) = slowCrc h then
      let fmt := b3.getD 7 0
      let data12 := ofBits (b2.drop 6)
      let hi := ofBits ((b3.drop 8).take 4)
      let lo := ofBits ((b3.drop 13).take 4)
      let data := if fmt = 1 then lo * 4096 + data12 else data12
      let id := if fmt = 1 then hi else hi * 16 + lo
      (((((keep [] s).wr d R.POS_SENTs_SLOW.DATA data n).wr d R.POS_SENTs_SLOW.ID id n).wr d R.POS_SENTs_SLOW.FMT fmt n).set
        d R.POS_SENTs_STATUS.NEW_SLOW n)
    else (keep [] s).inc d R.POS_SENTs_ERR.SLOW_CRC n
  else keep h s

/-- The slow message in progress is discarded (R166). -/
def State.sentDrop (s : State) (l : Lane) (n : Fin 4) : State :=
  s.modPos l fun p => { p with sent := upd p.sent n fun c => { c with slow := [] } }

/-- A rejected frame: the slow message in progress is discarded, and the error counts (R166). -/
def State.sentReject (s : State) (l : Lane) (n : Fin 4) (f : Fld) : State := (s.sentDrop l n).inc (laneDie l) f n

/-- An interval in ticks, rounded (R166): the tick is the sync interval / 56. -/
def State.ticks (s : State) (sync v : Nat) : Nat × State :=
  let pr9 := s.roundQ ((v : Int) * 56) (max 1 sync : Nat)
  let t := pr9.1
  let s1 := pr9.2
  (t.toNat, s1)

/-- A list of intervals in ticks. -/
def State.tickList (s : State) (sync : Nat) : List Nat → List Nat × State
  | [] => ([], s)
  | v :: r =>
    let pr10 := s.ticks sync v
    let t := pr10.1
    let s1 := pr10.2
    let pr11 := s1.tickList sync r
    let ts := pr11.1
    let s2 := pr11.2
    (t :: ts, s2)

/-- One level of a line at the edge filter (R166): `acc` holds the levels so far, newest first, and whether the next one joins
the newest. A level shorter than `q` is discarded with both its edges. -/
def edgeFilterStep (q : Nat) (acc : List Nat × Bool) (v : Nat) : List Nat × Bool :=
  match acc with
  | (a :: r, true) => ((a + v) :: r, false)
  | (a :: r, false) => if v < q then ((a + v) :: r, true) else (v :: a :: r, false)
  | ([], _) => ([v], false)

/-- The falling-edge intervals of a line's levels, low before high. -/
def fallIntervals : List Nat → List Nat
  | a :: b :: r => (a + b) :: fallIntervals r
  | _ => []

/-- A SENT frame judged (R165 to R167). `levels` are the durations of the line's levels in 2.5 ns, from the falling edge that
begins the sync pulse. -/
def State.sentFrame (s : State) (l : Lane) (n : Fin 4) (levels : List Nat) : State :=
  let d := laneDie l
  let tick := 40 * clampN 30 900 (s.rd d R.POS_SENTs_CFG.TICK n)
  let nominal := 56 * tick
  let iv := fallIntervals (levels.foldl (edgeFilterStep (tick / 4)) ([], false)).1.reverse
  let sync := iv.headD 0
  let want := clampN 1 6 (s.rd d R.POS_SENTs_CFG.NIBBLES n) + 2
  let nibbles := (iv.drop 1).take want
  let pause := iv.getD (want + 1) 0
  let paused := s.on d R.POS_SENTs_CFG.PAUSE n
  let prev := ((s.run l).pos.sent[n]).sync
  let inTol := decide (8 * nominal ≤ 10 * sync) && decide (10 * sync ≤ 12 * nominal)
  let s0 := s.modPos l fun p => { p with sent := upd p.sent n fun c => { c with sync := if inTol then some sync else none } }
  match prev with
  | none => if inTol then s0.sentDrop l n else s0.sentReject l n R.POS_SENTs_ERR.CAL
  | some q =>
    let agree := decide (64 * sync ≤ 65 * q) && decide (63 * q ≤ 64 * sync)
    if !inTol || !agree then s0.sentReject l n R.POS_SENTs_ERR.CAL
    else
      let pr12 := s0.tickList sync nibbles
      let ts := pr12.1
      let s1 := pr12.2
      let pOk := !paused || (decide (12 * sync ≤ 56 * pause) && decide (56 * pause ≤ 768 * sync))
      if iv.length != 1 + want + b2n paused || !(ts.all fun t => decide (12 ≤ t) && decide (t ≤ 27)) || !pOk then
        s1.sentReject l n R.POS_SENTs_ERR.NIBBLE
      else
        let ns := ts.map (· - 12)
        let data := (ns.drop 1).take (want - 2)
        if ns.getD (want - 1) 0 ≠ sentCrc (s.on d R.POS_SENTs_CFG.CRC_LEGACY n) data then
          s1.sentReject l n R.POS_SENTs_ERR.CRC
        else
          let pr13 := s1.quot sync 56
          let tk := pr13.1
          let s2 := pr13.2
          let s3 := (((s2.wr d R.POS_SENTs_FAST.DATA (data.foldl (fun a x => 16 * a + x) 0) n).wr d
            R.POS_SENTs_FAST.STATUS (ns.getD 0 0) n).wr d R.POS_SENTs_FAST.SEQ (s2.rd d R.POS_SENTs_FAST.SEQ n + 1) n).wr d
            R.POS_SENTs_FAST_STAMP.STAMP (low 32 (s2.laneTime l - (iv.drop 1).sum / 4)) n
          let s4 := (((s3.wr d R.POS_SENTs_TICK.TICK tk.toNat n).set d R.POS_SENTs_STATUS.VALID n).set d
            R.POS_SENTs_STATUS.NEW_FAST n).wrBit d R.POS_STATUS.SENT_VALID n true
          let s5 := s4.modPos l fun p => { p with sent := upd p.sent n fun c => { c with lastAt := s.now, got := true } }
          let s6 := s5.irq l R.POS_SENTs_CFG.IRQ_EN n
          if s6.on d R.POS_SENTs_CFG.SLOW_EN n then s6.sentSlow l n (ns.getD 0 0) else s6

/-- `SENT_FRAME` (R165 to R167). -/
def execSentFrame (l : Lane) (n : Fin 4) (levels : List Nat) (s : State) : Out :=
  .next (if s.past l 11 && s.on (laneDie l) R.POS_SENTs_CFG.EN n then s.sentFrame l n levels else s)

/-- `SENT_STALE` (R167). -/
def execSentStale (l : Lane) (n : Fin 4) (s : State) : Out :=
  let d := laneDie l
  .next (if s.on d R.POS_SENTs_STATUS.VALID n then
    ((s.advTo (((s.run l).pos.sent[n]).lastAt + orOne (s.rd d R.POS_SENTs_LIMIT.STALE_TIME n) * us)).clr d
      R.POS_SENTs_STATUS.VALID n).wrBit d R.POS_STATUS.SENT_VALID n false
  else s)

/-- A write that changes `TICK` or `NIBBLES` restarts the sync search (R169). -/
def State.sentRestart (s : State) (l : Lane) (n : Fin 4) : State :=
  s.modPos l fun p => { p with sent := upd p.sent n fun c => { c with sync := none, slow := [] } }

end Sys2Proof.Machine
end

