-- ==== Sys2Proof/Machine/MotOps.lean ====
section
/-!
DEFINITION. The arithmetic of the motor block (R249 to R255): sines from the table, quotients whose rounding the spec
leaves open, references, limits, the modulation index; and its holds on band slots and trip groups (R257, R262).
-/
namespace Sys2Proof.Machine

/-! ## Numbers -/

/-- An exact quotient narrowed where the spec states no rounding: one of its two neighbours, as a free value of the
operands decides; for a divisor of zero the spec states no result (log entries 7 and 12). `tag` tells the computation. -/
def rnd (tag : Nat) (num den : Int) : Int :=
  if den = 0 then Config.unstated tag num
  else
    let n := if den < 0 then -num else num
    let d := if den < 0 then -den else den
    if n % d = 0 then n / d else n / d + (if Config.roundUp tag n d then 1 else 0)

/-- A value outside a signed format of `w` bits, for which the spec states no result, is a free value (log entry 12). -/
def fitP (tag w : Nat) (x : Int) : Int := if satS w x = x then x else sx w (ux w (Config.unstated tag x))

/-- The square root of an exact number, narrowed; negative numbers have none that the spec states. -/
def sqrtP (tag : Nat) (x : Int) : Int :=
  if x < 0 then Config.unstated tag x
  else
    let r := isqrt x.toNat
    if r * r = x.toNat then r else r + (if Config.roundUp tag x 0 then 1 else 0)

/-- One third of a turn (R253). -/
def tau : Nat := 1431655765

/-! ## The sine table (R252) -/

/-- 2 pi in 2^-80. -/
def twoPi80 : Int := 7595904947272677161575987

/-- The terms of the sine series of `x` in 2^-80 from the term `t` with index `k` on. -/
def sinSeries (x2 : Int) : Nat → Int → Int → Int → Int
  | 0, _, _, acc => acc
  | n + 1, k, t, acc => sinSeries x2 n (k + 2) (-(t * x2 / 2 ^ 80) / ((k + 1) * (k + 2))) (acc + t)

/-- T[j] = round(131,071 sin(2 pi j / 4,096)), from the sine series within a quarter turn (R252). -/
def sineTable (j : Nat) : Int :=
  let q := j % 2048
  let k : Int := if q ≤ 1024 then q else 2048 - q
  let x := k * twoPi80 / 4096
  let v := sinSeries (x * x / 2 ^ 80) 16 1 x 0
  let r := (131071 * v + 2 ^ 79) / 2 ^ 80
  if j % 4096 < 2048 then r else -r

/-- The sine of an angle of 2^-32 turn, signal format (R252). A tie of its rounding is free (log entry 7). -/
def sinM (theta : Nat) : Int :=
  let j := theta % 2 ^ 32 / 2 ^ 20
  let f : Int := (theta % 2 ^ 20 : Nat)
  let num := (sineTable (j + 1) - sineTable j) * f
  let r := if 2 * (num % 2 ^ 20) = 2 ^ 20 then num / 2 ^ 20 + (if Config.roundUp 1 num (2 ^ 20) then 1 else 0)
    else (2 * num + 2 ^ 20) / 2 ^ 21
  (sineTable j + r) * 2 ^ 13

/-- The cosine of an angle (R252). -/
def cosM (theta : Nat) : Int := sinM (theta + 2 ^ 30)

/-! ## The machine's registers -/

/-- A machine's state. -/
def State.mach (s : State) (l : Lane) (m : Fin 2) : MotMach := (s.run l).mot[m]

/-- A machine's state changed by `f`. -/
def State.modMach (s : State) (l : Lane) (m : Fin 2) (f : MotMach → MotMach) : State :=
  s.modRun l fun r => { r with mot := upd r.mot m f }

/-- The angle states of R261. -/
def angDisabled : Nat := 0
/-- `RESOLVER`. -/
def angResolver : Nat := 1
/-- `OBSERVER`. -/
def angObserver : Nat := 2
/-- `ASC`. -/
def angAsc : Nat := 3
/-- `OFF`. -/
def angOff : Nat := 4
/-- `CATCH`. -/
def angCatch : Nat := 5
/-- `INJECT`. -/
def angInject : Nat := 6
/-- `NONE`. -/
def angNone : Nat := 7

/-- The angle state of a machine. -/
def State.ang (s : State) (l : Lane) (m : Fin 2) : Nat := s.rd (laneDie l) R.MOT_Mm_STATUS.ANGLE_STATE m

/-- Torque is accepted in `RESOLVER` and `OBSERVER` alone (R261). -/
def torqueOk (a : Nat) : Bool := a == angResolver || a == angObserver

/-- The regions of R256. -/
def regCurrent : Nat := 0
/-- `VECTOR`. -/
def regVector : Nat := 1
/-- `SIX`. -/
def regSix : Nat := 2

/-- The region of a machine. -/
def State.region (s : State) (l : Lane) (m : Fin 2) : Nat := s.rd (laneDie l) R.MOT_Mm_STATUS.REGION m

/-- The band slots of phases U, V and W. -/
def State.motSlots (s : State) (l : Lane) (m : Fin 2) : List (Fin 32) :=
  [bandIdx (s.rd (laneDie l) R.MOT_Mm_SLOTS.BU m), bandIdx (s.rd (laneDie l) R.MOT_Mm_SLOTS.BV m),
   bandIdx (s.rd (laneDie l) R.MOT_Mm_SLOTS.BW m)]

/-- The phase currents as channel sources (R249), in 2^-30 of `I_BASE`. -/
def State.motI (s : State) (l : Lane) (m : Fin 2) : Int × Int × Int :=
  let c := fun f => s.srcVal l (0x40 + s.rd (laneDie l) f m)
  (c R.MOT_Mm_CHAN.CHU, c R.MOT_Mm_CHAN.CHV, c R.MOT_Mm_CHAN.CHW)

/-- `FE_BASE`; 0 acts as 1. -/
def State.feBase (s : State) (l : Lane) (m : Fin 2) : Int := orOne (s.rd (laneDie l) R.MOT_Mm_SPD.FE_BASE m)

/-- A speed in signal format lies above `num / den` Hz (electrical). -/
def State.faster (s : State) (l : Lane) (m : Fin 2) (w : Int) (num den : Int) : Bool :=
  decide (num * 2 ^ 30 < absI w * s.feBase l m * den)

/-- The electrical speed of a machine, signal format. -/
def State.omegaE (s : State) (l : Lane) (m : Fin 2) : Int := s.rdS (laneDie l) R.MOT_Mm_SPEED.SPEED m

/-- The electrical angle of a machine. -/
def State.thetaE (s : State) (l : Lane) (m : Fin 2) : Nat := s.rd (laneDie l) R.MOT_Mm_ANGLE.ANGLE m

/-- Three times four thirds of the squared current vector: 9/4 |i|^2 in 2^-60 of `I_BASE`^2 (amplitude-invariant). -/
def vec9 (i : Int × Int × Int) : Int :=
  i.1 * i.1 + i.2.1 * i.2.1 + i.2.2 * i.2.2 - i.1 * i.2.1 - i.2.1 * i.2.2 - i.1 * i.2.2

/-- The magnitude of the current vector lies below `tenths` x 0.1 A. -/
def State.motWeaker (s : State) (l : Lane) (m : Fin 2) (tenths : Nat) : Bool :=
  let base : Int := s.rd (laneDie l) R.MOT_Mm_BASE.I_BASE m
  decide (vec9 (s.motI l m) * 400 * base * base < 9 * (tenths : Int) * tenths * 2 ^ 60)

/-- Some phase current is at or above `amps` A. -/
def State.motAnyAbove (s : State) (l : Lane) (m : Fin 2) (amps : Nat) : Bool :=
  let base : Int := s.rd (laneDie l) R.MOT_Mm_BASE.I_BASE m
  let i := s.motI l m
  [i.1, i.2.1, i.2.2].any fun x => decide ((amps : Int) * 2 ^ 30 ≤ absI x * base)

/-- The points of the MTPA table ascend strictly. -/
def State.mtpaOk (s : State) (l : Lane) (m : Fin 2) : Bool :=
  (List.range 15).all fun j =>
    decide (s.rd (laneDie l) R.MOT_Mm_MTPAj.IQ m j < s.rd (laneDie l) R.MOT_Mm_MTPAj.IQ m (j + 1))

/-- The channels of the machine: those its slots name. -/
def State.motChs (s : State) (l : Lane) (m : Fin 2) : List (Fin 64) := (s.motSlots l m).map fun n => s.bandCh l n

/-- The configuration error of a machine (R262, R268). -/
def State.motCfgErr (s : State) (l : Lane) (m : Fin 2) : Bool :=
  let d := laneDie l
  let tg := s.rd d R.MOT_Mm_CFG.TG m
  s.rd d R.MOT_Mm_CFG.PP m == 0 || !decide (s.motSlots l m).Nodup || s.rd d R.MOT_Mm_PSI.PSI_NOM m == 0
    || s.rd d R.MOT_Mm_IND.LD m == 0 || s.rd d R.MOT_Mm_IND.LQ m == 0 || !s.mtpaOk l m
    || s.rd d R.PWM_TGg_CFG.ACTION tg != 0 || (s.motChs l m).any fun c => s.tgOf l c != tg

/-! ## Events -/

/-- An event of the motor block queued on `Q09`, counted, or counted as dropped when the tally refuses it (R268). -/
def State.motLog (s : State) (l : Lane) (rule : Nat) (m : Fin 2) : State :=
  let r := s.submit l .hw 9 1 (s.laneTime l + (2 ^ 40 - 1)) (.event (rule * 4096 + m.val))
  match r.1 with
  | .admitted _ => r.2.inc (laneDie l) R.MOT_EVT_CNT.COUNT
  | _ => r.2.inc (laneDie l) R.MOT_EVT_CNT.DROPPED

/-! ## Holds (R257, R262 to R264) -/

/-- The code of a phase signal (R248). -/
def phaseCode (m : Fin 2) (k : Nat) : Nat := 0xB0 + 6 * m.val + k

/-- The three slots of a machine in signal mode on their phase signals, or as configured. -/
def State.motOverride (s : State) (l : Lane) (m : Fin 2) (o : Option Bool) : State :=
  s.each ((s.motSlots l m).zipIdx) fun s x =>
    let s1 := s.modBand l x.1 fun b => { b with ovr := o.map fun a => (phaseCode m x.2, a) }
    if s1.rd (laneDie l) R.CE_Bn_STATUS.STATE x.1 = bandOff then s1 else s1.toSettle l x.1

/-- The half-widths in use of the three slots. -/
def State.motSetH (s : State) (l : Lane) (m : Fin 2) (hs : List Nat) : State :=
  s.each ((s.motSlots l m).zip hs) fun s x => s.wr (laneDie l) R.CE_Bn_H.H x.2 x.1

/-- The half-widths of the three slots. -/
def State.motH (s : State) (l : Lane) (m : Fin 2) : List Nat := (s.motSlots l m).map fun n => s.rd (laneDie l) R.CE_Bn_H.H n

/-- The slots of a machine held as its region asks (R257): entering `VECTOR` saves h, the return to `CURRENT` restores
it and starts the frequency-lock windows empty. -/
def State.motHold (s : State) (l : Lane) (m : Fin 2) (r : Nat) : State :=
  let s1 := match (s.mach l m).savedH, s.motH l m with
    | none, [a, b, c] => if r = regCurrent then s else s.modMach l m fun x => { x with savedH := some (a, b, c) }
    | _, _ => s
  if r = regCurrent then
    let s2 := match (s1.mach l m).savedH with
      | some (a, b, c) => (s1.motSetH l m [a, b, c]).modMach l m fun x => { x with savedH := none }
      | none => s1
    (s2.motOverride l m none).each (s2.motSlots l m) fun s n =>
      s.modBand l n fun b => { b with onCnt := 0, cycles := 0 }
  else if r = regVector then
    let h := s.rd (laneDie l) R.MOT_Mm_REGION.H_FLUX m * 2 ^ 14
    (s1.motOverride l m (some false)).motSetH l m [h, h, h]
  else (s1.motOverride l m (some true)).motSetH l m [2 ^ 30, 2 ^ 30, 2 ^ 30]

/-- `MOT_STATUS` of the machine brought up to date with its own status. -/
def State.motSync (s : State) (l : Lane) (m : Fin 2) : State :=
  let d := laneDie l
  let ok := torqueOk (s.ang l m)
  ((s.put d R.MOT_Mm_STATUS.TORQUE_OK ok m).wrBit d R.MOT_STATUS.TORQUE_OK m ok).wrBit d R.MOT_STATUS.SIX m
    (s.region l m == regSix)

/-- A change of region (R256, R257), counted, logged and reported; the slots are held as the region asks. -/
def State.motRegion (s : State) (l : Lane) (m : Fin 2) (r : Nat) : State :=
  let d := laneDie l
  if s.region l m = r then s
  else
    let s1 := ((s.wr d R.MOT_Mm_STATUS.REGION r m).inc d R.MOT_Mm_CNT.REGION m).irq l R.MOT_CTRL.REGION_IRQ_EN
    ((s1.when (s1.on d R.MOT_CTRL.LOG_EN) fun s => s.motLog l 256 m).motHold l m r).motSync l m

/-- The motor block forces its trip group (R262). -/
def State.motForce (s : State) (l : Lane) (m : Fin 2) : State :=
  let g := s.rd (laneDie l) R.MOT_Mm_CFG.TG m
  (s.modMach l m fun x => { x with own := some g }).raiseTg l g false true

/-- The motor block withdraws its own hold (R262): a group that is latched, or whose source is active, stays active. -/
def State.motWithdraw (s : State) (l : Lane) (m : Fin 2) : State :=
  match (s.mach l m).own with
  | none => s
  | some g =>
    let s1 := s.modMach l m fun x => { x with own := none }
    if s1.rdBit (laneDie l) R.PWM_TG_LATCHED.LATCHED g || s1.groupSourced l g || s1.motHolds l g then s1 else s1.clearTg l g

/-- The level of one phase forced (R263, R264): the slot's level, the channel's level, and its destinations unless a trip
holds them. -/
def State.motLevel (s : State) (l : Lane) (n : Fin 32) (level : Bool) : State :=
  let c := s.bandCh l n
  let d := laneDie l
  let s1 := (s.modBand l n fun b => { b with forced := true, edge := none }).put d R.CE_Bn_STATUS.LEVEL (s.bandL l n level) n
  let s2 := (s1.dropEng l c).setLevel l c level s1.steps
  if s2.on d R.PWM_CHc_STATUS.TRIPPED c then s2 else s2.follow l c level

/-- A voltage vector applied: the levels forced and the own hold withdrawn (R263, R264). -/
def State.motApply (s : State) (l : Lane) (m : Fin 2) (levels : List Bool) : State :=
  (s.each ((s.motSlots l m).zip levels) fun s x => s.motLevel l x.1 x.2).motWithdraw l m

/-- The slots of the machine act on their own again. -/
def State.motUnforce (s : State) (l : Lane) (m : Fin 2) : State :=
  s.each (s.motSlots l m) fun s n => s.modBand l n fun b => { b with forced := false }

/-- The phase signals of a machine published (R248). -/
def State.motSignals (s : State) (l : Lane) (m : Fin 2) (v : List Int) : State :=
  s.each v.zipIdx fun s x => s.ceSource l (phaseCode m x.2) x.1

/-! ## References and limits (R254, R255) -/

/-- psi_PM in 0.1 uWb: the nominal magnet flux. -/
def State.psiPm (s : State) (l : Lane) (m : Fin 2) : Int := s.rd (laneDie l) R.MOT_Mm_PSI.PSI_NOM m * 100

/-- MTPA of |i_q| in 2^-16 A: linear between its points, the end value beyond the last (R254). Below the first point the
spec states no value (log entry 12). -/
def State.mtpa (s : State) (l : Lane) (m : Fin 2) (iq : Int) : Int :=
  let d := laneDie l
  let x := fun j => (s.rd d R.MOT_Mm_MTPAj.IQ m j : Int) * 2 ^ 16
  let y := fun j => s.rdS d R.MOT_Mm_MTPAj.ID m j * 2 ^ 16
  if x 15 ≤ iq then y 15
  else if iq < x 0 then Config.unstated 2 iq
  else
    match (List.range 15).find? fun j => decide (iq < x (j + 1)) with
    | none => y 15
    | some j => y j + rnd 3 ((y (j + 1) - y j) * (iq - x j)) (x (j + 1) - x j)

/-- T_ramp of R254: the safe-stop ramp while a controlled Safe stop runs, and full scale otherwise (DEDUCED, log entry 13:
the largest signal value). -/
def State.tRamp (s : State) (l : Lane) : Int :=
  let full : Int := 2 ^ 31 - 1
  match (s.run l).sup.rampAt with
  | none => full
  | some t =>
    let len : Int := orOne (s.rd .ds R.DSP_SS_CFG.RAMP) * 10 * ms
    let left := len - ((s.now - t : Nat) : Int)
    if left ≤ 0 then 0 else rnd 4 (full * left) len

/-- The torque request of a machine before any limit (R254). -/
def State.tAsk (s : State) (l : Lane) (m : Fin 2) : Int :=
  let src := s.rd (laneDie l) R.MOT_Mm_TRQ.TSRC m
  if src = 0 then s.rdS (laneDie l) R.MOT_Mm_TREQ.T m else s.srcVal l src

/-- The generating torque that a machine asks for, in N m x 2^30 (R272). -/
def State.tGen (s : State) (l : Lane) (m : Fin 2) : Int :=
  let t := s.tAsk l m
  if t * s.omegaE l m < 0 then absI t * s.rd (laneDie l) R.MOT_Mm_TRQ.T_BASE m else 0

/-- The torque request with the regeneration bound of R272: a generating request stays within the machine's share of P_lim,
unless the mechanical speed is below 1 rad/s. The bound holds in either direction of rotation (DEDUCED, log entry 13). -/
def State.tReq (s : State) (l : Lane) (m : Fin 2) : Int :=
  let t := s.tAsk l m
  let pp : Int := s.rd (laneDie l) R.MOT_Mm_CFG.PP m
  let w : Int := Config.twoPi * absI (s.omegaE l m) * s.feBase l m
  let g := s.tGen l m
  if g = 0 ∨ w < pp * 2 ^ 70 then t
  else
    let sum := s.tGen l 0 + s.tGen l 1
    let lim := rnd 50 ((s.run l).nrg.plim * 1000 * pp * g * 2 ^ 80) (w * s.rd (laneDie l) R.MOT_Mm_TRQ.T_BASE m * sum)
    if absI t ≤ lim then t else if t < 0 then -lim else lim

/-- T* of R254 step 1 in signal format, with the ramp of R261 over ten cycles. -/
def State.tStar (s : State) (l : Lane) (m : Fin 2) : Int :=
  let d := laneDie l
  if s.modeOf l == modeDrive && torqueOk (s.ang l m) && s.rd d R.MOT_Mm_STATUS.KE_STATE m != 3 then
    let req := s.tReq l m
    let mag := if absI req < s.tRamp l then absI req else s.tRamp l
    rnd 5 ((if req < 0 then -mag else mag) * (s.mach l m).ramp) 10
  else 0

/-- k_ke in 1/256 (R254, R266): 1 in the states for which R266 gives no other. -/
def State.kKe (s : State) (l : Lane) (m : Fin 2) : Int :=
  let k := s.rd (laneDie l) R.MOT_Mm_STATUS.KE_STATE m
  if k = 1 then s.rd (laneDie l) R.MOT_Mm_KE.DERATE m
  else if k = 2 then s.rd (laneDie l) R.MOT_Mm_KE.RESTRICT m
  else 256

/-- k_xchk in 1/256 (R265). -/
def State.kXchk (s : State) (l : Lane) (m : Fin 2) : Int :=
  if s.on (laneDie l) R.MOT_Mm_STATUS.XCHK m then s.rd (laneDie l) R.MOT_Mm_XCHK.LIM m else 256

/-- The largest `BOUND` of the three phase channels (R254). -/
def State.motBound (s : State) (l : Lane) (m : Fin 2) : Int :=
  let d := laneDie l
  let b := fun f => s.rd d R.ADC_CHc_ENV.BOUND (s.rd d f m)
  (max (b R.MOT_Mm_CHAN.CHU) (max (b R.MOT_Mm_CHAN.CHV) (b R.MOT_Mm_CHAN.CHW)) : Nat)

/-- I_bound in 2^-16 A: BOUND / 16 / 8,192 of `I_BASE`. -/
def State.iBound (s : State) (l : Lane) (m : Fin 2) : Int :=
  rnd 6 (s.motBound l m * s.rd (laneDie l) R.MOT_Mm_BASE.I_BASE m) 2

/-- I_eff in 2^-16 A (R254 step 4). -/
def State.iEff (s : State) (l : Lane) (m : Fin 2) : Int :=
  let lim : Int := s.rd (laneDie l) R.MOT_Mm_LIMIT.I_LIM m
  let a := lim * s.kKe l m * s.kXchk l m
  let b := lim * s.rd (laneDie l) R.THM_KTHM.K
  let x := (if a < b then a else b) - s.iBound l m
  if x < 0 then 0 else x

/-- The stator flux that two current references call for, and its magnitude, in 2^-16 of 0.1 uWb (R255). -/
def State.fluxOf (s : State) (l : Lane) (m : Fin 2) (id iq : Int) : Int × Int × Int :=
  let pd := s.psiPm l m * 2 ^ 16 + s.rd (laneDie l) R.MOT_Mm_IND.LD m * id
  let pq := s.rd (laneDie l) R.MOT_Mm_IND.LQ m * iq
  (pd, pq, sqrtP 7 (pd * pd + pq * pq))

/-- The DC-link voltage, signal format of `V_BASE` (R249). -/
def State.motVdc (s : State) (l : Lane) (m : Fin 2) : Int := s.srcVal l (s.rd (laneDie l) R.MOT_Mm_CHAN.VDC_SRC m)

/-- The modulation index in 2^-30 of a flux magnitude at the present speed (R255); with no positive DC-link voltage the
spec states none. -/
def State.modIndex (s : State) (l : Lane) (m : Fin 2) (psi : Int) : Int :=
  let v := s.motVdc l m * s.rd (laneDie l) R.MOT_Mm_BASE.V_BASE m
  let num := (Config.twoPi : Int) * Config.twoPi * absI (s.omegaE l m) * s.feBase l m * psi * 2 ^ 14
  rnd 8 num (if v ≤ 0 then 0 else v * 10000000 * 2 ^ 82)

/-- i_d,fw that gives m = `M_FW` / 1,000 at zero torque, from -`ID_MAX` to 0 (R261). -/
def State.presetFw (s : State) (l : Lane) (m : Fin 2) : Int :=
  let d := laneDie l
  let w := absI (s.omegaE l m) * s.feBase l m
  let mfw : Int := clampN 800 930 (s.rd d R.MOT_Mm_FW.M_FW m)
  let lim : Int := s.rd d R.MOT_Mm_LIMIT.ID_MAX m * 2 ^ 16
  if w = 0 then 0
  else
    let psi := rnd 9 (mfw * s.motVdc l m * s.rd d R.MOT_Mm_BASE.V_BASE m * 10000000 * 2 ^ 98)
      (1000 * Config.twoPi * Config.twoPi * w)
    clampI (-lim) 0 (rnd 10 (psi - s.psiPm l m * 2 ^ 16) (s.rd d R.MOT_Mm_IND.LD m) - s.mtpa l m 0)

/-- 1.5 PP (psi_PM + (LD - LQ) i_d) as a factor of 2^-16 of 0.1 uWb: twice-thirds left to its users. -/
def State.torqueFlux (s : State) (l : Lane) (m : Fin 2) (id : Int) : Int :=
  s.psiPm l m * 2 ^ 16 + ((s.rd (laneDie l) R.MOT_Mm_IND.LD m : Int) - s.rd (laneDie l) R.MOT_Mm_IND.LQ m) * id

/-- The current references of a supervisory cycle from its torque (R254 steps 2 to 5), and whether step 5 acted. -/
def State.refsOf (s : State) (l : Lane) (m : Fin 2) (t : Int) : Int × Int × Bool :=
  let d := laneDie l
  let x := s.mach l m
  let prev := match x.due with
    | some (_, r, _) => r.id
    | none => x.refs.id
  let pp : Int := s.rd d R.MOT_Mm_CFG.PP m
  let iq := rnd 11 (t * s.rd d R.MOT_Mm_TRQ.T_BASE m * 80000000) (3 * pp * s.torqueFlux l m prev)
  let low : Int := -(s.rd d R.MOT_Mm_LIMIT.ID_MAX m * 2 ^ 16)
  let want := s.mtpa l m (absI iq) + x.idFw
  let id := if want < low then low else want
  let lim := s.iEff l m
  if lim * lim < id * id + iq * iq then
    let id1 := if id < -lim then -lim else id
    let q := sqrtP 12 (lim * lim - id1 * id1)
    (id1, if iq < 0 then -q else q, true)
  else (id, iq, false)

end Sys2Proof.Machine
end

