-- ==== Sys2Proof/Machine/Mot.lean ====
section
/-!
DEFINITION. The meanings of the motor block's commands and its supervisory cycle (R250 to R267).
-/
namespace Sys2Proof.Machine

/-! ## The angle state (R260 to R262) -/

/-- The resolver of a machine is usable (R260). -/
def State.resUsable (s : State) (l : Lane) (m : Fin 2) : Bool :=
  let d := laneDie l
  s.on d R.MOT_Mm_CFG.RES_EN m && s.on d R.POS_RESn_STATUS.VALID (s.rd d R.MOT_Mm_CFG.RES_CH m)
    && !s.on d R.MOT_Mm_STATUS.RES_DISTRUST m

/-- The resolver's electrical angle (R260). -/
def State.resTheta (s : State) (l : Lane) (m : Fin 2) : Nat :=
  let d := laneDie l
  (orOne (s.rd d R.MOT_Mm_CFG.RES_RATIO m) * s.rd d R.POS_RESn_ANGLE.ANGLE (s.rd d R.MOT_Mm_CFG.RES_CH m)
    + s.rd d R.MOT_Mm_RES_OFS.OFS m) % 2 ^ 32

/-- The resolver's electrical speed: the ratio times its speed, per `FE_BASE` (DEDUCED from the angle, log entry 13). -/
def State.resOmega (s : State) (l : Lane) (m : Fin 2) : Int :=
  let d := laneDie l
  let c := s.rd d R.MOT_Mm_CFG.RES_CH m
  fitP 20 32 (rnd 20 (orOne (s.rd d R.MOT_Mm_CFG.RES_RATIO m) * s.rdS d R.POS_RESn_SPEED.SPEED c
    * s.rd d R.POS_RESn_LOOP.SPD_BASE c) (s.feBase l m))

/-- The observer's confidence as a ratio to 64,000 `IRES` (R260): the mean residual of 16 updates against 4 x `IRES` A.
Below `OBS_MIN_SPEED` it is zero, unless a preset lies less than 2 s back. -/
def State.confNum (s : State) (l : Lane) (m : Fin 2) : Int :=
  let x := s.mach l m
  let full : Int := 64000 * orOne (s.rd (laneDie l) R.MOT_Mm_OBS.IRES m)
  let slow := !s.faster l m x.obs.omega (s.rd (laneDie l) R.MOT_Mm_OBS.MIN_SPEED m) 1
    && absI x.obs.omega * s.feBase l m != (s.rd (laneDie l) R.MOT_Mm_OBS.MIN_SPEED m : Int) * 2 ^ 30
  let fresh := match x.presetAt with
    | some t => decide (s.now < t + 2 * sec)
    | none => false
  if slow && !fresh then 0
  else
    let c := full - ((x.resid.sum : Nat) : Int)
    if c < 0 then 0 else c

/-- The observer is confident (R260). -/
def State.confident (s : State) (l : Lane) (m : Fin 2) : Bool :=
  let full : Int := 64000 * orOne (s.rd (laneDie l) R.MOT_Mm_OBS.IRES m)
  decide ((s.rd (laneDie l) R.MOT_Mm_OBS.CONF_MIN m : Int) * full ≤ 256 * s.confNum l m)

/-- An angle state taken, with what leaving and entering it do (R261, R262): a transition out of `RESOLVER` and `OBSERVER`
sets `LOSS`; an entry to one of them presets i_d,fw, sets the region and starts the torque ramp. -/
def State.motGo (s : State) (l : Lane) (m : Fin 2) (a : Nat) : State :=
  let d := laneDie l
  let old := s.ang l m
  if old = a then s
  else
    let lost := torqueOk old && !torqueOk a
    let s1 := (s.wr d R.MOT_Mm_STATUS.ANGLE_STATE a m).modMach l m fun x =>
      { x with due := none, phis := [], lowPulses := 0, inPulse := false, injStep := 0, injMags := [], sixCnt := 0,
               hotAt := none, prefAt := none, pulseAt := none }
    let s2 := if lost then (s1.set d R.MOT_Mm_STATUS.LOSS m).inc d R.MOT_Mm_CNT.LOSS m else s1
    let s3 := if a = angAsc ∨ a = angOff ∨ a = angNone then s2.irq l R.MOT_CTRL.LOSS_IRQ_EN else s2
    let s4 := if old = angCatch ∨ old = angInject then s3.motUnforce l m else s3
    let s5 :=
      if a = angDisabled then
        ((s4.motHold l m regCurrent).wr d R.MOT_Mm_STATUS.REGION regCurrent m).motWithdraw l m
      else if a = angAsc then
        let v : Int := 2 ^ 31 - 1
        ((s4.motOverride l m (some false)).motSignals l m [v, v, v]).motWithdraw l m
      else if torqueOk a then
        let t := s4.modMach l m fun x => { x with idFw := s.presetFw l m, ramp := 0 }
        let fl := t.fluxOf l m (s.presetFw l m + s.mtpa l m 0) 0
        let r := if 93 * 2 ^ 30 ≤ 100 * t.modIndex l m fl.2.2 then regVector else regCurrent
        let t2 := if t.region l m = r then t.motHold l m r else t.motRegion l m r
        t2.motWithdraw l m
      else if a = angOff ∨ a = angNone then (if (s4.mach l m).own.isSome then s4 else s4.motForce l m)
      else s4
    s5.motSync l m

/-- The angle is lost (R261): `ASC` above `XOVER`, otherwise `OFF`. -/
def State.motLose (s : State) (l : Lane) (m : Fin 2) : State :=
  s.motGo l m (if s.faster l m (s.omegaE l m) (s.rd (laneDie l) R.MOT_Mm_SPD.XOVER m) 1 then angAsc else angOff)

/-- The observer preset with an angle and a speed (R263, R264), from which it takes over. -/
def State.motPreset (s : State) (l : Lane) (m : Fin 2) (theta : Nat) (omega : Int) : State :=
  let s1 := s.modMach l m fun x =>
    { x with presetAt := some s.now, resid := [], obs := { x.obs with theta := BitVec.ofNat 32 theta, omega := omega } }
  (s1.wr (laneDie l) R.MOT_Mm_ANGLE.ANGLE theta m).wrS (laneDie l) R.MOT_Mm_SPEED.SPEED omega m

/-- The angle transitions that an observer update decides (R261), in the table's order. -/
def State.angleStep (s : State) (l : Lane) (m : Fin 2) : State :=
  let d := laneDie l
  let a := s.ang l m
  let err := s.motCfgErr l m
  let s := s.put d R.MOT_Mm_STATUS.CFG_ERR err m
  if !s.on d R.MOT_Mm_CFG.EN m || err then s.motGo l m angDisabled
  else if a = angDisabled then s.motGo l m angOff
  else if a = angOff then
    if s.resUsable l m then s.motGo l m angResolver
    else if !s.motAnyAbove l m (s.rd d R.MOT_Mm_CATCH.I_ZERO m) then s.motGo l m angCatch
    else s.modMach l m fun x => { x with hotAt := heldSince x.hotAt true s.now }
  else if a = angResolver then
    if s.resUsable l m then
      s.modMach l m fun x =>
        { x with prefAt := heldSince x.prefAt (s.on d R.MOT_Mm_CFG.PREF m && s.confident l m) s.now }
    else if s.confident l m then s.motGo l m angObserver
    else s.motLose l m
  else if a = angObserver then
    if s.confident l m then
      s.modMach l m fun x =>
        { x with prefAt := heldSince x.prefAt (!s.on d R.MOT_Mm_CFG.PREF m && s.resUsable l m) s.now }
    else if s.resUsable l m then s.motGo l m angResolver
    else s.motLose l m
  else if a = angAsc then
    if s.resUsable l m then s.motGo l m angResolver
    else if !s.faster l m (s.omegaE l m) (15 * s.rd d R.MOT_Mm_SPD.XOVER m) 16 then s.motGo l m angOff
    else s
  else if a = angNone then (if s.resUsable l m then s.motGo l m angResolver else s)
  else s

/-- The cross-check of R265 at an update. -/
def State.xchkStep (s : State) (l : Lane) (m : Fin 2) : State :=
  let d := laneDie l
  let x := s.mach l m
  let minSpeed : Int := s.rd d R.MOT_Mm_OBS.MIN_SPEED m
  if s.resUsable l m && s.confident l m && decide (minSpeed * 2 ^ 30 ≤ absI (s.omegaE l m) * s.feBase l m) then
    let diff := absI (sx 32 (ux 32 ((s.resTheta l m : Int) - x.obs.theta.toNat)))
    let lim : Int := s.rd d R.MOT_Mm_XCHK.ANG m * 2 ^ 24
    let n := orOne (s.rd d R.MOT_Mm_XCHK.CNT m)
    let differ := if lim < diff then x.differ + 1 else 0
    let agree := if 2 * diff ≤ lim then x.agree + 1 else 0
    let s1 := s.modMach l m fun x => { x with differ := differ, agree := agree }
    if n ≤ differ ∧ !s.on d R.MOT_Mm_STATUS.XCHK m then
      (((s1.modMach l m fun x => { x with xchkAt := s.now }).set d R.MOT_Mm_STATUS.XCHK m).inc d R.MOT_Mm_CNT.XCHK m).irq l
        R.MOT_CTRL.XCHK_IRQ_EN
    else if n ≤ agree then s1.clr d R.MOT_Mm_STATUS.XCHK m
    else s1
  else s.modMach l m fun x => { x with differ := 0, agree := 0 }

/-! ## Phase signals (R253, R257) -/

/-- The clip factor c of `VECTOR` in 2^-30 (R257). -/
def clipFactor (m : Int) : Int :=
  if 100 * m ≤ 93 * 2 ^ 30 then 2 ^ 30
  else if 2 ^ 30 ≤ m then rnd 21 (866 * 2 ^ 30) 1000
  else 2 ^ 30 - rnd 22 (134 * (100 * m - 93 * 2 ^ 30)) 7000

/-- The phase signal k of a machine in `RESOLVER` and `OBSERVER` (R253, R257): while the clamp line is asserted, the second
set for a machine that generates (R273). -/
def State.phaseSignal (s : State) (l : Lane) (m : Fin 2) (k : Nat) : Int :=
  let d := laneDie l
  let x := s.mach l m
  let refs := if s.on d R.NRG_STATUS.CLAMP && x.gen then x.zero else x.refs
  let theta := s.thetaE l m
  let w := s.omegaE l m
  let back : Int := k * tau
  let at_ := ux 32 (theta + rnd 23 (w * s.feBase l m) 80000 - back)
  let r := s.region l m
  if r = regCurrent then
    fitP 24 32 (rnd 24 (refs.id * cosM at_ - refs.iq * sinM at_) (2 ^ 16 * s.rd d R.MOT_Mm_BASE.I_BASE m))
  else if r = regVector then
    let kt := ux 32 back
    let est := rnd 25 (x.obs.psiA * cosM kt + x.obs.psiB * sinM kt) (2 ^ 30)
    let lim := rnd 26 (clipFactor refs.m * refs.psiAbs) (2 ^ 30)
    let ref := clampI (-lim) lim (rnd 27 (refs.psiD * cosM at_ - refs.psiQ * sinM at_) (2 ^ 30))
    fitP 28 32 (est - rnd 28 (ref * 2 ^ 30) (s.psiPm l m * 2 ^ 16))
  else
    let v := sx 32 (ux 32 (theta + refs.delta + 2 ^ 30 - back))
    if w < 0 then sx 32 (ux 32 (-v)) else v

/-- The measured currents i_d and i_q in A (R253 inverted, amplitude-invariant; DEDUCED, log entry 13). -/
def State.measDq (s : State) (l : Lane) (m : Fin 2) : Int × Int :=
  let i := s.motI l m
  let th : Int := s.thetaE l m
  let a := fun k : Nat => ux 32 (th - (k * tau : Nat))
  let base : Int := s.rd (laneDie l) R.MOT_Mm_BASE.I_BASE m
  (rnd 29 (2 * base * (i.1 * cosM (a 0) + i.2.1 * cosM (a 1) + i.2.2 * cosM (a 2))) (3 * 2 ^ 60),
   rnd 30 (-(2 * base * (i.1 * sinM (a 0) + i.2.1 * sinM (a 1) + i.2.2 * sinM (a 2)))) (3 * 2 ^ 60))

/-- The outputs of an update (R248): angle, speed, torque estimate, phase signals, measured currents, confidence. -/
def State.motOutputs (s : State) (l : Lane) (m : Fin 2) : State :=
  let d := laneDie l
  let a := s.ang l m
  let x := s.mach l m
  let caught := a = angCatch ∨ a = angInject
  let theta := if a = angResolver then s.resTheta l m else x.obs.theta.toNat
  let w := if a = angResolver then s.resOmega l m else if a = angAsc then x.obs.scOmega else x.obs.omega
  let s1 := if caught then s else (s.wr d R.MOT_Mm_ANGLE.ANGLE theta m).wrS d R.MOT_Mm_SPEED.SPEED w m
  let s2 := ((s1.ceSource l (phaseCode m 3) (sx 32 (s1.thetaE l m))).ceSource l (phaseCode m 4) (s1.omegaE l m)).ceSource l
    (phaseCode m 5) x.obs.torque
  let dq := s2.measDq l m
  let s3 := ((s2.wrS d R.MOT_Mm_IDQ_MEAS.ID dq.1 m).wrS d R.MOT_Mm_IDQ_MEAS.IQ dq.2 m).wrS d R.MOT_Mm_TORQUE.T_EST
    (rnd 31 (x.obs.torque * s2.rd d R.MOT_Mm_TRQ.T_BASE m) (2 ^ 30)) m
  let s4 := s3.wrSat d R.MOT_Mm_MOD.CONF
    (rnd 32 (256 * s3.confNum l m) (64000 * orOne (s3.rd d R.MOT_Mm_OBS.IRES m))).toNat m
  if x.asc then
    let v : Int := 2 ^ 31 - 1
    s4.motSignals l m [v, v, v]
  else if torqueOk a then s4.motSignals l m ((List.range 3).map fun k => s4.phaseSignal l m k)
  else if a = angAsc then
    let v : Int := 2 ^ 31 - 1
    s4.motSignals l m [v, v, v]
  else s4

/-- The results of a supervisory cycle put in force at the update that follows it (R250, R256). -/
def State.motTake (s : State) (l : Lane) (m : Fin 2) : State :=
  let d := laneDie l
  match (s.mach l m).due with
  | some (t, r, z, g) =>
    if s.now < t then s
    else
      let s1 := s.modMach l m fun x => { x with refs := r, zero := z, gen := g, due := none }
      let s2 := ((s1.wrS d R.MOT_Mm_IDQ_REF.ID (rnd 33 r.id (2 ^ 16)) m).wrS d R.MOT_Mm_IDQ_REF.IQ (rnd 34 r.iq (2 ^ 16))
        m).wr d R.MOT_Mm_DELTA.DELTA (ux 32 r.delta) m
      match r.region with
      | some g => s2.motRegion l m g
      | none => s2
  | none => s

/-- An entry to `VECTOR` on t_sat (R256). -/
def State.motTsat (s : State) (l : Lane) (m : Fin 2) : State :=
  let x := s.mach l m
  if x.tsat then
    let s1 := s.modMach l m fun x => { x with tsat := false }
    if torqueOk (s1.ang l m) && s1.region l m == regCurrent then
      ((s1.set (laneDie l) R.MOT_Mm_STATUS.TSAT_ENTRY m).modMach l m fun x => { x with bar := 10 }).motRegion l m regVector
    else s1
  else s

/-- A phase of the machine drives a Hoist link of a group in a mask. -/
def State.motInGroups (s : State) (l : Lane) (m : Fin 2) (mask : Nat) : Bool :=
  (s.motChs l m).any fun c =>
    match linkIdx (s.rd (laneDie l) R.PWM_CHc_DST.DST_H c - 1) with
    | some n => s.rd (laneDie l) R.PWM_CHc_DST.DST_H c != 0 && bit mask (s.link n).cfg.group
    | none => false

/-- The hold of R274 on a machine's phase signals: it begins with the short circuit at the granted lane, and after the
release the slots act as before and T* ramps from zero. -/
def State.motAscHold (s : State) (l : Lane) (m : Fin 2) : State :=
  let want := s.granted l && s.on .ds R.DSP_OV_STATUS.ASC_HOLD && s.motInGroups l m (bits (s.rd .ds R.DSP_OV3.VALUE) 31 24)
  if want == (s.mach l m).asc then s
  else if want then (s.modMach l m fun x => { x with asc := true }).motOverride l m (some false)
  else
    let s1 := s.modMach l m fun x => { x with asc := false, ramp := 0 }
    if torqueOk (s1.ang l m) then s1.motHold l m (s1.region l m) else s1

/-! ## The charger's references (R287) -/

/-- The angle of the front end's references (R287): free running at `EXPORT.F` from the entry to `RUN` in Export AC; else the
locked angle, whose loop's law is not given, a free value (log entry 2). -/
def State.obcAngle (s : State) (l : Lane) : Nat × State :=
  if s.rd (laneDie l) R.NRG_OBC_CFG.FUNC = 2 then
    (s.rd (laneDie l) R.NRG_OBC_EXPORT.F * (s.now - (s.run l).nrg.obcAt) * 2 ^ 32 / (100 * sec) % 2 ^ 32, s)
  else s.free 32

/-- The three references of the front end at an observer update while the charger runs (R287): the active part is a sine of
the angle with the amplitude of `BUS_SLOT`'s output; how the Q setpoint scales the reactive part is not given (log entry 12).
-/
def State.obcRefs (s0 : State) (l : Lane) : State :=
  let d := laneDie l
  if s0.rd d R.NRG_OBC_STATUS.STATE = obcRun then
    let r := s0.obcAngle l
    let s := r.2.modNrg l fun n => { n with pll := r.1 }
    let q := (s.run l).nrg.qNow
    let amp : Int := if q = 0 then 0 else Config.unstated 62 q
    s.each (List.range 3) fun s k =>
      let th := ux 32 ((r.1 : Int) - (k * 1431655765 : Nat))
      let v := (s.slotOut l (s.rd d R.NRG_OBC_SLOTS.BUS_SLOT) * sinM th + amp * cosM th) / 2 ^ 30
      s.setK3 l (s.rd d R.NRG_OBC_SLOTS.REF_SLOT0 + k) (ux 32 v)
  else s0

/-- `MOT_OBSERVER_UPDATE` (R250): the next update lies on the next multiple of 6.25 us of lane time. -/
def execMotObserverUpdate (l : Lane) (m : Fin 2) (o : ObsOut) (s : State) : Out :=
  .next (if s.past l 11 then
    let t := max (((s.mach l m).upAt / 625 + 1) * 625) (ceilDiv (s.laneTime l) 625 * 625)
    let s1 := (s.advTo (s.instantOf l t)).modMach l m fun x =>
      { x with upAt := t, obs := o, resid := (o.resid :: x.resid).take 16 }
    let s2 := (((s1.motTake l m).motTsat l m).angleStep l m).motAscHold l m
    (((s2.motOutputs l m).xchkStep l m).plimStep l).when (m == 0) fun s => s.obcRefs l
  else s)

/-- The instants since which phases of the machine have stood beyond h (R256). -/
def State.tsatFrom (s : State) (l : Lane) (m : Fin 2) : List Nat :=
  ((s.motSlots l m).filter fun (n : Fin 32) =>
      decide ((s.rd (laneDie l) R.CE_Bn_H.H n : Int) < absI (s.band l n).e)).map fun (n : Fin 32) =>
    (s.band l n).beyondAt.getD s.now

/-- `MOT_TSAT_EXPIRY` (R256): in `CURRENT`, `TSAT` after the first of the phases that stand beyond h went there. -/
def execMotTsatExpiry (l : Lane) (m : Fin 2) (s : State) : Out :=
  .next (if torqueOk (s.ang l m) && s.region l m == regCurrent then
    match s.tsatFrom l m with
    | [] => s
    | t :: ts =>
      (s.advTo (ts.foldl min t + orOne (s.rd (laneDie l) R.MOT_Mm_REGION.TSAT m) * us)).modMach l m fun x =>
        { x with tsat := true }
    else s)

/-- `MOT_XCHK_TIMEOUT` (R261, R265): `XCHK.TIME` after the fault. -/
def execMotXchkTimeout (l : Lane) (m : Fin 2) (s : State) : Out :=
  .next (if torqueOk (s.ang l m) && s.on (laneDie l) R.MOT_Mm_STATUS.XCHK m then
    let s1 := s.advTo ((s.mach l m).xchkAt + orOne (s.rd (laneDie l) R.MOT_Mm_XCHK.TIME m) * ms)
    (s1.set (laneDie l) R.MOT_Mm_STATUS.XCHK_EVT m).motLose l m
  else s)

/-- `MOT_RECTIFY_TIMEOUT` (R261): 2 ms after a current at or above `I_ZERO` was first seen in `OFF`. -/
def execMotRectifyTimeout (l : Lane) (m : Fin 2) (s : State) : Out :=
  .next (if s.ang l m == angOff && s.motAnyAbove l m (s.rd (laneDie l) R.MOT_Mm_CATCH.I_ZERO m) then
    (s.advTo ((s.mach l m).hotAt.getD s.now + 2 * ms)).motGo l m angAsc
    else s)

/-- `MOT_PREF_TIMEOUT` (R261): 1 ms after the preferred source was first seen confident or usable. -/
def execMotPrefTimeout (l : Lane) (m : Fin 2) (s : State) : Out :=
  let p := s.on (laneDie l) R.MOT_Mm_CFG.PREF m
  let s1 := s.advTo ((s.mach l m).prefAt.getD s.now + ms)
  .next (if s.ang l m == angResolver && p && s.confident l m then s1.motGo l m angObserver
    else if s.ang l m == angObserver && !p && s.resUsable l m then s1.motGo l m angResolver
    else s)

/-- `MOT_RECATCH` (R261). -/
def execMotRecatch (l : Lane) (m : Fin 2) (s : State) : Out :=
  .next (if s.alive l && s.ang l m == angNone then s.motGo l m angOff else s)

/-! ## Catching (R263) -/

/-- `CATCH_PULSE_START` (R263): the zero vector through the low sides, `T_PP` after the last pulse. -/
def execCatchPulseStart (l : Lane) (m : Fin 2) (s0 : State) : Out :=
  .next (if s0.ang l m == angCatch && !(s0.mach l m).inPulse then
    let s := match (s0.mach l m).pulseAt with
      | some t => s0.advTo (t + orOne (s0.rd (laneDie l) R.MOT_Mm_CATCH.T_PP m) * 10 * us)
      | none => s0
    (s.modMach l m fun x => { x with inPulse := true, stepAt := s.now, pulseAt := some s.now }).motApply l m
      [false, false, false]
  else s0)

/-- A valid resolver is judged against a caught angle (R263). -/
def State.judgeResolver (s : State) (l : Lane) (m : Fin 2) (theta : Nat) : State :=
  let d := laneDie l
  let diff := absI (sx 32 (ux 32 ((s.resTheta l m : Int) - theta)))
  if s.on d R.MOT_Mm_CFG.RES_EN m && s.on d R.POS_RESn_STATUS.VALID (s.rd d R.MOT_Mm_CFG.RES_CH m)
      && decide ((s.rd d R.MOT_Mm_XCHK.ANG m : Int) * 2 ^ 24 < diff) then
    s.set d R.MOT_Mm_STATUS.RES_DISTRUST m
  else s

/-- The six voltage vectors of R264. -/
def vectorOf (j : Nat) : List Bool :=
  match j % 6 with
  | 0 => [true, false, false]
  | 1 => [true, true, false]
  | 2 => [false, true, false]
  | 3 => [false, true, true]
  | 4 => [false, false, true]
  | _ => [true, false, true]

/-- The injection begins with V_0 (R264 step 1). -/
def State.injectStart (s : State) (l : Lane) (m : Fin 2) : State :=
  ((s.motGo l m angInject).modMach l m fun x => { x with stepAt := s.now }).motApply l m (vectorOf 0)

/-- `CATCH_PULSE_END` (R263): `T_PULSE` after its start the trip group is forced again, and the pulse gives its angle. -/
def execCatchPulseEnd (l : Lane) (m : Fin 2) (s0 : State) : Out :=
  let d := laneDie l
  let x := s0.mach l m
  .next (if s0.ang l m == angCatch && x.inPulse then
    let s := s0.advTo (x.stepAt + 10 * clampN 5 200 (s0.rd d R.MOT_Mm_CATCH.T_PULSE m))
    let weak := s.motWeaker l m (s.rd d R.MOT_Mm_CATCH.I_MIN m)
    let i := s.motI l m
    let s1 := (s.modMach l m fun x => { x with inPulse := false }).motForce l m
    if weak then
      let s2 := s1.modMach l m fun x => { x with phis := [], lowPulses := x.lowPulses + 1 }
      if 3 ≤ x.lowPulses + 1 ∧ s.on d R.MOT_Mm_CFG.INJ_EN m then s2.injectStart l m else s2
    else
      let phi := Config.vecAngle (-i.1) (-i.2.1) (-i.2.2) % 2 ^ 32
      let s2 := (s1.inc d R.MOT_Mm_CNT.CATCH m).modMach l m fun x =>
        { x with phis := (phi :: x.phis).take 3, lowPulses := 0 }
      match x.phis with
      | [] => s2
      | p1 :: r =>
        let delta := sx 32 (ux 32 ((phi : Int) - p1))
        let w := fitP 35 32 (rnd 35 (delta * 100000) (4 * orOne (s.rd d R.MOT_Mm_CATCH.T_PP m) * s.feBase l m))
        let quarter : Int := if 0 < delta then 2 ^ 30 else if delta < 0 then -2 ^ 30 else 0
        let theta := ux 32 ((phi : Int) - quarter)
        let ok := match r with
          | p2 :: _ =>
            let before := sx 32 (ux 32 ((p1 : Int) - p2))
            decide (absI (sx 32 (ux 32 ((phi : Int) - p1 - before))) ≤ s.rd d R.MOT_Mm_XCHK.ANG m * 2 ^ 24)
          | [] => false
        if ok then ((s2.judgeResolver l m theta).motPreset l m theta w).motGo l m angObserver
        else if s2.faster l m w (s.rd d R.MOT_Mm_SPD.XOVER m) 1 then
          ((s2.judgeResolver l m theta).motPreset l m theta w).motGo l m angAsc
        else s2
  else s0)

/-! ## Pulse injection (R264) -/

/-- The present current magnitude in 2^-16 A. -/
def State.motMag (s : State) (l : Lane) (m : Fin 2) : Int :=
  rnd 36 (2 * s.rd (laneDie l) R.MOT_Mm_BASE.I_BASE m * sqrtP 36 (vec9 (s.motI l m))) (3 * 2 ^ 14)

/-- The vector nearest an angle; halfway between two the spec names neither (log entry 7). -/
def nearestVector (theta : Nat) : Nat :=
  let x : Nat := theta * 6 + 2 ^ 31
  if x % 2 ^ 32 = 0 ∧ Config.roundUp 37 x (2 ^ 32) = false then (x / 2 ^ 32 + 5) % 6 else x / 2 ^ 32 % 6

/-- The saliency judgement of step 2 from the six magnitudes I_0 to I_5 (R264): the real and imaginary part of 6 I2, the
latter over the root of 3. -/
def saliency (i : List Int) : Int × Int :=
  let g := fun k => i.getD k 0
  (2 * g 0 - g 1 - g 2 + 2 * g 3 - g 4 - g 5, -(g 1) + g 2 - g 4 + g 5)

/-- How long a part of the injection lasts in 10 ns, with T in microseconds (R264): T for a vector of step 1, 2T in step 3,
50 us for an all-off, 6.25 us for a judgement. -/
def injDur (n t : Nat) : Nat :=
  if n = 18 ∨ 25 ≤ n then 625
  else if n < 18 then (if n % 3 = 2 then 50 * us else t * us)
  else if n % 3 = 0 then 50 * us
  else 2 * t * us

/-- `MOT_INJECTION_STEP` (R264): the present part ends. Parts 0 to 17 are step 1 (vector, opposite, all-off, six times), part
18 is step 2, parts 19 to 24 are step 3, part 25 is step 4. -/
def execMotInjectionStep (l : Lane) (m : Fin 2) (s0 : State) : Out :=
  let d := laneDie l
  let x := s0.mach l m
  let n := x.injStep
  .next (if s0.ang l m == angInject then
    let s := s0.advTo (x.stepAt + injDur n (clampN 5 100 (s0.rd d R.MOT_Mm_INJ.T_INJ m)))
    let go := fun (s : State) => s.modMach l m fun x => { x with injStep := n + 1, stepAt := s.now }
    if n < 18 then
      let j := n / 3
      if n % 3 = 0 then
        ((go s).modMach l m fun x => { x with injMags := s.motMag l m :: x.injMags }).motApply l m (vectorOf (j + 3))
      else if n % 3 = 1 then (go s).motForce l m
      else if n = 17 then go s
      else (go s).motApply l m (vectorOf (j + 1))
    else if n = 18 then
      let i := x.injMags.reverse
      let z := saliency i
      let min : Int := s.rd d R.MOT_Mm_INJ.SAL_MIN m * 2 ^ 16
      if z.1 * z.1 + 3 * z.2 * z.2 < 36 * min * min then (s.set d R.MOT_Mm_STATUS.INJ_FAIL m).motGo l m angNone
      else
        let arg : Int := Config.atan2 (rnd 38 (z.2 * sqrtP 38 (3 * 2 ^ 60)) (2 ^ 30)) z.1
        let axis := ux 31 (rnd 39 (-arg) 2)
        ((go s).modMach l m fun x => { x with injMags := [], injAxis := axis }).motApply l m (vectorOf (nearestVector axis))
    else if n < 25 then
      let v := nearestVector x.injAxis
      match n with
      | 19 => ((go s).modMach l m fun x => { x with injMags := [s.motMag l m] }).motApply l m (vectorOf (v + 3))
      | 20 => (go s).motForce l m
      | 21 => (go s).motApply l m (vectorOf (v + 3))
      | 22 => ((go s).modMach l m fun x => { x with injMags := s.motMag l m :: x.injMags }).motApply l m (vectorOf v)
      | 23 => (go s).motForce l m
      | _ => go s
    else
      let second := x.injMags.getD 0 0
      let first := x.injMags.getD 1 0
      let north := decide (second < first) || (first == second && Config.tie first second)
      let theta := if north then x.injAxis else ux 32 ((x.injAxis : Int) + 2 ^ 31)
      (s.motPreset l m theta 0).motGo l m angObserver
  else s0)

/-! ## The back-EMF check (R266) -/

/-- The state that a window's sum of 1,024 ratios in 2^-30 gives (R266). -/
def keState (sum : Int) : Nat :=
  let full : Int := 1024 * 2 ^ 30
  if 125 * full < 100 * sum ∨ 100 * sum < 75 * full then 3
  else if 100 * sum < 80 * full then 2
  else if 100 * sum < 90 * full then 1
  else 0

/-- `KE_WINDOW_END` (R266). -/
def execKeWindowEnd (l : Lane) (m : Fin 2) (s : State) : Out :=
  let d := laneDie l
  let x := s.mach l m
  .next (if 1024 ≤ x.keCnt then
    let old := s.rd d R.MOT_Mm_STATUS.KE_STATE m
    let k := max old (keState x.keSum)
    let s1 := ((s.modMach l m fun x => { x with keSum := 0, keCnt := 0 }).inc d R.MOT_Mm_KE_MEAS.WINDOWS m).wrSat d
      R.MOT_Mm_KE_MEAS.RATIO (rnd 40 x.keSum (2 ^ 25)).toNat m
    if k = old then s1
    else ((s1.wr d R.MOT_Mm_STATUS.KE_STATE k m).irq l R.MOT_CTRL.KE_IRQ_EN).motLog l 266 m
  else s)

/-- The ratio of the present cycle enters the window (R266): the d part of the stator flux less `LD` i_d, over the nominal
flux; a cycle outside the conditions discards the window. -/
def State.keCycle (s : State) (l : Lane) (m : Fin 2) : State :=
  let d := laneDie l
  let x := s.mach l m
  let minSpeed : Int := s.rd d R.MOT_Mm_KE.MIN_SPEED m
  if torqueOk (s.ang l m) && decide (minSpeed * 2 ^ 30 ≤ absI (s.omegaE l m) * s.feBase l m) then
    let th := s.thetaE l m
    let psiD := rnd 41 (x.obs.psiA * cosM th + x.obs.psiB * sinM th) (2 ^ 30)
    let ind := rnd 42 ((s.rd d R.MOT_Mm_IND.LD m : Int) * s.rdS d R.MOT_Mm_IDQ_MEAS.ID m * 2 ^ 30) (s.psiPm l m)
    s.modMach l m fun x => { x with keSum := if x.keCnt < 1024 then x.keSum + psiD - ind else x.keSum,
                                    keCnt := min 1024 (x.keCnt + 1) }
  else s.modMach l m fun x => { x with keSum := 0, keCnt := 0 }

/-! ## The supervisory cycle (R250, R254 to R259, R267) -/

/-- The region that a supervisory cycle judges from m (R256, R266), the count of cycles at m >= 0.995, and the bar. -/
def State.judgeRegion (s : State) (l : Lane) (m : Fin 2) (mi : Int) : Nat × Nat :=
  let r := s.region l m
  let ke := s.rd (laneDie l) R.MOT_Mm_STATUS.KE_STATE m
  let full : Int := 2 ^ 30
  let n := if 995 * full ≤ 1000 * mi then (s.mach l m).sixCnt + 1 else 0
  if !torqueOk (s.ang l m) then (r, 0)
  else if r = regCurrent then (if 93 * full ≤ 100 * mi then regVector else regCurrent, 0)
  else if r = regVector then
    if 100 * mi < 90 * full ∧ (s.mach l m).bar = 0 then (regCurrent, 0)
    else if 10 ≤ n ∧ ke < 2 then (regSix, 0)
    else (regVector, n)
  else if 100 * mi < 97 * full ∨ 2 ≤ ke then (regVector, 0)
  else (regSix, 0)

/-- The load angle of a cycle (R259): preset on the entry to `SIX`, moved by the regulator and clamped within it; and
whether it is clamped. -/
def State.loadAngle (s : State) (l : Lane) (m : Fin 2) (next : Nat) (t : Int) (fl : Int × Int × Int) : Int × Bool :=
  let d := laneDie l
  let x := s.mach l m
  if next = regSix then
    if s.region l m = regSix then
      let dmax : Int := clampN 1 64 (s.rd d R.MOT_Mm_SIX.DMAX m) * 2 ^ 24
      let raw := x.refs.delta + rnd 44 (s.rd d R.MOT_Mm_SIX.KI m * (t - x.obs.torque)) (2 ^ 14)
      (clampI (-dmax) dmax raw, clampI (-dmax) dmax raw != raw)
    else (sx 32 (Config.atan2 fl.2.1 fl.1 % 2 ^ 32), false)
  else (x.refs.delta, false)

/-- The references that a torque calls for, with their flux, modulation index and load angle (R254, R255, R259). -/
def State.refsFor (s : State) (l : Lane) (m : Fin 2) (t : Int) (next : Option Nat) : MotRefs :=
  let r := s.refsOf l m t
  let fl := s.fluxOf l m r.1 r.2.1
  { id := r.1, iq := r.2.1, psiD := fl.1, psiQ := fl.2.1, psiAbs := fl.2.2, m := s.modIndex l m fl.2.2,
    delta := (s.loadAngle l m (next.getD (s.region l m)) t fl).1, region := next }

/-- The supervisory cycle of one machine (R250, R254 to R259), in every state of an enabled machine: where it accepts no
torque, T* is zero and the region is frozen (R261). Its results take effect at the update 12.5 us after the boundary. -/
def State.motCycle (s : State) (l : Lane) (m : Fin 2) : State :=
  let d := laneDie l
  let s := s.keCycle l m
  if s.ang l m ≠ angDisabled then
    let t := s.tStar l m
    let r0 := s.refsFor l m t none
    let j := s.judgeRegion l m r0.m
    let next := if j.1 = s.region l m then none else some j.1
    let r := s.refsFor l m t next
    let z := s.refsFor l m 0 next
    let lim : Int := s.rd d R.MOT_Mm_LIMIT.ID_MAX m * 2 ^ 16
    let mfw : Int := clampN 800 930 (s.rd d R.MOT_Mm_FW.M_FW m)
    let x := s.mach l m
    let fw := if j.1 = regSix then x.idFw
      else clampI (-lim) 0 (x.idFw - rnd 43 (s.rd d R.MOT_Mm_FW.KFW m * (1000 * r.m - mfw * 2 ^ 30)) (1000 * 2 ^ 14))
    let s1 := s.modMach l m fun x =>
      { x with
        idFw := fw, sixCnt := j.2, bar := x.bar - 1, ramp := if torqueOk (s.ang l m) then min 10 (x.ramp + 1) else 0
        due := some (s.now + 1250, r, z, decide (t * s.omegaE l m < 0)) }
    let s2 := ((s1.put d R.MOT_Mm_STATUS.I_LIMITED (s.refsOf l m t).2.2 m).put d R.MOT_Mm_STATUS.FW_SAT (fw == -lim)
      m).put d R.MOT_Mm_STATUS.DELTA_SAT (s.loadAngle l m j.1 t (r.psiD, r.psiQ, r.psiAbs)).2 m
    let ie := s.iEff l m
    let s3 := ((s2.wrSat d R.MOT_Mm_MOD.M (rnd 45 r.m (2 ^ 16)).toNat m).wrSat d R.MOT_Mm_ILIM.I_EFF
      (rnd 46 ie (2 ^ 16)).toNat m).wrSat d R.MOT_Mm_ILIM.BOUND (rnd 47 (s.iBound l m * 10) (2 ^ 16)).toNat m
    s3.wrSat d R.MOT_Mm_TORQUE.T_LIM (rnd 48 (3 * s.rd d R.MOT_Mm_CFG.PP m * s.torqueFlux l m r.id
      * sqrtP 48 (ie * ie - r.id * r.id)) (20000000 * 2 ^ 32)).toNat m
  else s.modMach l m fun x => { x with bar := x.bar - 1 }

/-- The configuration error of a curve (R267). -/
def State.curveErr (s : State) (l : Lane) (k : Nat) : Bool :=
  let d := laneDie l
  let last := s.rd d R.MOT_CCk_CFG.LAST k
  last == 0 || !((List.range last).all fun i => decide (s.rdS d R.MOT_CCk_Xi.X k i < s.rdS d R.MOT_CCk_Xi.X k (i + 1)))
    || decide (s.rdS d R.MOT_CCk_ON.X_ON k < s.rdS d R.MOT_CCk_OFF.X_OFF k)

/-- The interpolation of a curve (R267). -/
def State.curveOut (s : State) (l : Lane) (k : Nat) (v : Int) : Int :=
  let d := laneDie l
  let last := s.rd d R.MOT_CCk_CFG.LAST k
  let x := fun i => s.rdS d R.MOT_CCk_Xi.X k i
  let y := fun i => s.rdS d R.MOT_CCk_Yi.Y k i
  if v < x 0 then y 0
  else if x last ≤ v then y last
  else
    match (List.range last).find? fun i => decide (v < x (i + 1)) with
    | none => y last
    | some i => y i + rnd 49 ((y (i + 1) - y i) * (v - x i)) (x (i + 1) - x i)

/-- A command curve at a supervisory cycle (R267). A curve that is not enabled publishes nothing. -/
def State.curveCycle (s : State) (l : Lane) (k : Nat) : State :=
  let d := laneDie l
  if s.on d R.MOT_CCk_CFG.EN k then
    let err := s.curveErr l k
    let src := s.rd d R.MOT_CCk_CFG.SRC k
    let v := if src = 0 then s.rdS d R.MOT_CCk_IN.IN k else s.srcVal l src
    let on := if err then false
      else if s.on d R.MOT_CCk_STATUS.ON k then !decide (v < s.rdS d R.MOT_CCk_OFF.X_OFF k)
      else decide (s.rdS d R.MOT_CCk_ON.X_ON k ≤ v)
    let out := if on then s.curveOut l k v else 0
    (((s.put d R.MOT_CCk_STATUS.CFG_ERR err k).put d R.MOT_CCk_STATUS.ON on k).wrBit d R.MOT_STATUS.CURVE_ON k on).wrS d
      R.MOT_CCk_OUT.OUT out k |>.ceSource l (0xBC + k) out
  else s

/-- The motor block at a traction-cycle boundary (R250, R267). -/
def State.motBoundary (s : State) (l : Lane) : State :=
  (s.each (List.finRange 2) fun s m => s.motCycle l m).each (List.range 4) fun s k => s.curveCycle l k

end Sys2Proof.Machine
end

