-- ==== Sys2Proof/Machine/Nrg.lean ====
section
/-!
DEFINITION. The meanings of the DC-link commands (chapter 11): contactor sequences, overvoltage levels, the high-voltage
converter and the charger.
-/
namespace Sys2Proof.Machine

/-! ## Results and stages (R284, R289) -/

/-- The results of `NRG_CTR_RESULT.RESULT`: `DONE`. -/
def resDone : Nat := 0
/-- `REFUSED_MODE`. -/
def resMode : Nat := 1
/-- `REFUSED_WELD`. -/
def resWeld : Nat := 2
/-- `NOT_MASTER`. -/
def resNotMaster : Nat := 3
/-- `PRE_SLOW`. -/
def resPreSlow : Nat := 4
/-- `PRE_FAST`. -/
def resPreFast : Nat := 5
/-- `ABORTED`. -/
def resAborted : Nat := 6
/-- `MISMATCH`. -/
def resMismatch : Nat := 8
/-- `WELD_FOUND`. -/
def resWeldFound : Nat := 9
/-- `DEPUTY`. -/
def resDeputy : Nat := 10
/-- `BUSY`. -/
def resBusy : Nat := 11
/-- `CFG_ERR`. -/
def resCfg : Nat := 12

/-- The main contactors, the chopper and the converter run in Ready to Stationary (R284). -/
def mainMode (m : Nat) : Bool := decide (2 ≤ m) && decide (m ≤ 7)

/-- The charger's AC functions and ACR in a mode (R284): the function must be the one that the mode is marked with. -/
def State.acMode (s : State) (l : Lane) : Bool :=
  let f := s.rd (laneDie l) R.NRG_OBC_CFG.FUNC
  match s.modeOf l with
  | 4 => f == 1
  | 5 => f == 2
  | 6 => true
  | 7 => f == 3
  | _ => false

/-- DCP and DCN in a mode (R284). -/
def State.dcMode (s : State) (l : Lane) : Bool :=
  let f := s.rd (laneDie l) R.NRG_OBC_CFG.FUNC
  match s.modeOf l with
  | 4 => f == 4
  | 5 => f == 5
  | 6 => true
  | _ => false

/-! ## Stages held off (R284, R286, R288) -/

/-- Channels of a stage held off or let go. -/
def State.holdStage (s : State) (l : Lane) (cs : List (Fin 64)) (held : Bool) : State :=
  s.each cs fun s c =>
    if (s.ch l c).held == held then s
    else if held then (s.chOff l c).modCh l c fun k => { k with held := true }
    else s.modCh l c fun k => { k with held := false, released := true }

/-- The enabled channels of some timebases. -/
def State.tbChs (s : State) (l : Lane) (ts : List Nat) : List (Fin 64) :=
  allCh.filter fun c => s.on (laneDie l) R.PWM_CHc_CFG.EN c && ts.contains (s.rd (laneDie l) R.PWM_CHc_CFG.TB c)

/-- The channels of the high-voltage converter (R285). -/
def State.hvcChs (s : State) (l : Lane) : List (Fin 64) :=
  s.tbChs l [s.rd (laneDie l) R.NRG_HVC_CFG.TB_LEAD, s.rd (laneDie l) R.NRG_HVC_CFG.TB_LAG]

/-- The band slots of the charger's front end: those that refer to one of its three reference slots (R287). -/
def State.afeChs (s : State) (l : Lane) : List (Fin 64) :=
  let r := s.rd (laneDie l) R.NRG_OBC_SLOTS.REF_SLOT0
  ((List.finRange 32).filter fun n : Fin 32 =>
    s.on (laneDie l) R.CE_Bn_CFG.EN n && (List.range 3).any fun i => s.rd (laneDie l) R.CE_Bn_SRC.REF n == r + i + 1).map
    fun n => s.bandCh l n

/-- The channels of the charger's dual active bridge (R287). -/
def State.dabChs (s : State) (l : Lane) : List (Fin 64) :=
  s.tbChs l [s.rd (laneDie l) R.NRG_OBC_CFG.TB_DAB_P, s.rd (laneDie l) R.NRG_OBC_CFG.TB_DAB_S]

/-- The states of the converter (R286). -/
def hvcOff : Nat := 0
/-- `SOFT`. -/
def hvcSoft : Nat := 1
/-- `RUN`. -/
def hvcRun : Nat := 2
/-- `FAULT`. -/
def hvcFault : Nat := 3

/-- The configuration error of the converter: a slot out of range, or one timebase for both legs. -/
def State.hvcErr (s : State) (l : Lane) : Bool :=
  let d := laneDie l
  [R.NRG_HVC_CFG.VSLOT, R.NRG_HVC_CFG.ISLOT, R.NRG_HVC_CFG.VSET_SLOT, R.NRG_HVC_CFG.ISET_SLOT].any
    (fun f => decide (24 ≤ s.rd d f)) || s.rd d R.NRG_HVC_CFG.TB_LEAD == s.rd d R.NRG_HVC_CFG.TB_LAG

/-- The measured output voltage of the converter in 2^-16 per unit: input A of its voltage slot (R285, R286). -/
def State.hvcVout (s : State) (l : Lane) : Nat :=
  let v := s.srcVal l (s.rd (laneDie l) R.CE_Ai_IN.A (s.rd (laneDie l) R.NRG_HVC_CFG.VSLOT))
  (clampI 0 65535 (v / 2 ^ 14)).toNat

/-- The soft start begins at the measured output voltage (R286). -/
def State.hvcSoftStart (s : State) (l : Lane) : State :=
  let v := s.hvcVout l
  (((s.wr (laneDie l) R.NRG_HVC_STATUS.STATE hvcSoft).modNrg l fun x => { x with vNow := v }).holdStage l (s.hvcChs l)
    false).setK3 l (s.rd (laneDie l) R.NRG_HVC_CFG.VSET_SLOT) (v * 2 ^ 14)

/-- The trip group of some channel is active. -/
def State.tripped (s : State) (l : Lane) (cs : List (Fin 64)) : Bool :=
  cs.any fun c => s.rdBit (laneDie l) R.PWM_STATUS.TG_ACTIVE (s.tgOf l c)

/-- The converter's transitions on its conditions (R286). -/
def State.hvcStep (s : State) (l : Lane) : State :=
  let d := laneDie l
  let st := s.rd d R.NRG_HVC_STATUS.STATE
  let s := s.put d R.NRG_HVC_STATUS.CFG_ERR (s.hvcErr l)
  let may := s.on d R.NRG_HVC_CFG.EN && mainMode (s.modeOf l) && !s.nrgCfgErr l && !s.hvcErr l
  let bad := s.tripped l (s.hvcChs l) || !s.mainHold l
  let s := if may && s.lvpHolds then s.replug l bad else s
  if !may || s.lvpHolds then
    if st = hvcOff then s
    else (((s.wr d R.NRG_HVC_STATUS.STATE hvcOff).clr d R.NRG_HVC_STATUS.SR_ON).holdStage l (s.hvcChs l) true)
  else if st = hvcOff then (if s.mainHold l then s.hvcSoftStart l else s.holdStage l (s.hvcChs l) true)
  else if st = hvcFault then (if bad then s else s.hvcSoftStart l)
  else if bad then
    ((s.wr d R.NRG_HVC_STATUS.STATE hvcFault).clr d R.NRG_HVC_STATUS.SR_ON).holdStage l (s.hvcChs l) true
  else s

/-- The current setpoint of the converter put into its slot (R285): zero, as its power limit, while `OPEN_MAIN` runs
(R281, DEDUCED, log entry 13). -/
def State.hvcIset (s : State) (l : Lane) : State :=
  s.setK3 l (s.rd (laneDie l) R.NRG_HVC_CFG.ISET_SLOT)
    (if s.opening l then 0 else s.rd (laneDie l) R.NRG_HVC_SET.ISET * 2 ^ 14)

/-- The slewing setpoint and the rectifiers at a boundary (R285, R286). The conversion of mV into the slot's per unit is
not given: the step of a cycle is a free value (log entry 12). -/
def State.hvcCycle (s : State) (l : Lane) : State :=
  let d := laneDie l
  let s := s.hvcStep l
  let st := s.rd d R.NRG_HVC_STATUS.STATE
  if st = hvcSoft ∨ st = hvcRun then
    let goal := s.rd d R.NRG_HVC_SET.VSET
    let step := (Config.unstated 61 (orOne (s.rd d R.NRG_HVC_SS.SLEW))).toNat
    let now := (s.run l).nrg.vNow
    let v := if now < goal then min goal (now + step) else max goal (now - step)
    let s1 := if st = hvcSoft then
        ((s.modNrg l fun x => { x with vNow := v }).setK3 l (s.rd d R.NRG_HVC_CFG.VSET_SLOT) (v * 2 ^ 14)).hvcIset l
      else s.hvcIset l
    let i := s1.srcVal l (s1.rd d R.CE_Ai_IN.A (s1.rd d R.NRG_HVC_CFG.ISLOT))
    let on := (s1.rd d R.NRG_HVC_SR.SR_ON : Int) * 2 ^ 14
    let off := (s1.rd d R.NRG_HVC_SR.SR_OFF : Int) * 2 ^ 14
    s1.put d R.NRG_HVC_STATUS.SR_ON (s1.on d R.NRG_HVC_CFG.SR_EN
      && (if s1.on d R.NRG_HVC_STATUS.SR_ON then !decide (i < off) else decide (on ≤ i)))
  else s

/-- The configuration error of the charger. -/
def State.obcErr (s : State) (l : Lane) : Bool :=
  let d := laneDie l
  decide (24 ≤ s.rd d R.NRG_OBC_SLOTS.PSLOT) || decide (24 < s.rd d R.NRG_OBC_SLOTS.REF_SLOT0 + 3)
    || decide (24 ≤ s.rd d R.NRG_OBC_SLOTS.BUS_SLOT) || decide (64 < s.rd d R.NRG_OBC_SLOTS.VG_CH0 + 3)
    || s.rd d R.NRG_OBC_CFG.TB_DAB_P == s.rd d R.NRG_OBC_CFG.TB_DAB_S

/-- The charger's stage off: front end and bridge all-off. -/
def State.obcHold (s : State) (l : Lane) (held : Bool) : State :=
  (s.holdStage l (s.afeChs l) held).holdStage l (s.dabChs l) held

/-! ## Sequences (R277 to R283) -/

/-- A sequence takes its next part. -/
def State.seqGo (s : State) (l : Lane) (p : SeqPhase) (step : Nat) : State :=
  (s.modNrg l fun n => { n with seq := n.seq.map fun q => { q with phase := p, since := s.now } }).wr (laneDie l)
    R.NRG_CTR_RESULT.STEP step

/-- A sequence begins. -/
def State.seqBegin (s : State) (l : Lane) (cmd : Nat) (p : SeqPhase) (step : Nat) : State :=
  ((s.modNrg l fun n => { n with seq := some { cmd := cmd, phase := p, since := s.now, v0 := 0, welded := false } }).set
    (laneDie l) R.NRG_CTR_RESULT.BUSY).seqGo l p step

/-- What a refused close makes of a sequence (R278, R279): a Safe stop, the weld record, or the Deputy. -/
def State.refusal (s : State) (l : Lane) (c : Nat) : Nat :=
  if s.depOn && s.on .ds R.DSP_STATUS.SAFE_STOP then resSafeStop
  else if s.depOn && s.weldRefuses (s.ctrOut l c) then resWeld
  else resDeputy

/-- A sequence closes a contactor and waits for its `T_PULL`, or ends with the refusal. -/
def State.seqClose (s : State) (l : Lane) (c : Nat) (p : SeqPhase) (step : Nat) : State :=
  let s1 := s.seqGo l p step
  let r := s1.ctrClose l c
  if r.1 then r.2 else r.2.seqEnd l (s.refusal l c)

/-- Every main contactor opened. -/
def State.openAll (s : State) (l : Lane) : State := ((s.ctrOpen l ctrMP).ctrOpen l ctrPRE).ctrOpen l ctrMN

/-- A weld found (R281, R282): the Deputy's record, `WELD`, its interrupt, an event on each lane. -/
def State.weldFound (s : State) (l : Lane) (c : Nat) : State :=
  let s1 := (s.modNrg l fun n => { n with seq := n.seq.map fun q => { q with welded := true } }).wrBit .ds
    R.DSP_WELD.WELDED c true
  let s2 := (s1.set (laneDie l) R.NRG_STATUS.WELD).irq l R.NRG_CTRL.WELD_IRQ_EN
  s2.each lanes fun s x => s.log x 282 c

/-- The result of an opening or a weld test (R281 step 6): a test that ends `DONE` counts for `CLEAR_WELD` (R282). -/
def State.weldEnd (s : State) (l : Lane) : State :=
  match (s.run l).nrg.seq with
  | none => s
  | some q =>
    if q.welded then s.seqEnd l resWeldFound
    else (s.when (q.cmd == 7) fun s => s.modDep fun d => { d with weldTested := true }).seqEnd l resDone

/-- Step 5 of R281: the discharge stops and PRE closes alone. -/
def State.startMnCheck (s : State) (l : Lane) : State :=
  let v := s.vLink l
  let s1 := (s.discharge l false).modNrg l fun n => { n with seq := n.seq.map fun q => { q with v0 := v } }
  s1.seqClose l ctrPRE .mnCheck 5

/-- Step 4 of R281 once MN is open: the link must reach `V_SAFE`. -/
def State.afterMn (s : State) (l : Lane) : State :=
  if s.vLink l ≤ s.rd (laneDie l) R.NRG_WELD.V_SAFE * 2 ^ 30 then s.startMnCheck l else s.seqGo l .negWait 4

/-- Step 4 of R281: MN opens. -/
def State.startMn (s : State) (l : Lane) : State :=
  if s.ctrClosed l ctrMN then (s.ctrOpen l ctrMN).seqGo l .openMn 4 else s.afterMn l

/-- Step 3 of R281: the discharge runs and the link must fall. -/
def State.startPosCheck (s : State) (l : Lane) : State :=
  let v := s.vLink l
  ((s.discharge l true).modNrg l fun n => { n with seq := n.seq.map fun q => { q with v0 := v } }).seqGo l .posCheck 3

/-- Step 2 of R281: MP opens. -/
def State.startMp (s : State) (l : Lane) : State :=
  let s1 := s.ctrOpen l ctrPRE
  if s1.ctrClosed l ctrMP then (s1.ctrOpen l ctrMP).seqGo l .openMp 2 else s1.startPosCheck l

/-- The pack current lies within `I_OPEN` (R281). -/
def State.lowCurrent (s : State) (l : Lane) : Bool :=
  decide (absI (s.iPack l) ≤ s.rd (laneDie l) R.NRG_OPEN.I_OPEN * 2 ^ 30)

/-- A contactor of a running closing sequence has left `PULL` and `HOLD` (R279). -/
def State.seqBroken (s : State) (l : Lane) : Bool :=
  match (s.run l).nrg.seq with
  | none => false
  | some q =>
    let has := fun cs : List Nat => cs.any fun c => !s.ctrClosed l c
    match q.phase with
    | .closeMn => has [ctrMN]
    | .precharge => has [ctrMN, ctrPRE]
    | .closeMp => has [ctrMN, ctrPRE, ctrMP]
    | .overlap => has [ctrMN, ctrMP]
    | .dcN => has [ctrDCN]
    | .dcP => has [ctrDCN, ctrDCP]
    | .acClose => has [ctrACR]
    | _ => false

/-- What a change of contactors outside a sequence does to it and to the stages (R279, R286, R288). -/
def State.ctrWatch (s : State) (l : Lane) : State :=
  let s1 := if s.seqBroken l then s.seqEnd l resDeputy else s
  s1.hvcStep l

/-- The charger switched off (R288): all-off and ACR opened. -/
def State.obcStop (s : State) (l : Lane) : State :=
  let d := laneDie l
  let s1 := ((s.wr d R.NRG_OBC_STATUS.STATE obcOff).clr d R.NRG_OBC_STATUS.PLL_LOCK).obcHold l true
  if s1.ctrClosed l ctrACR then s1.ctrOpen l ctrACR else s1

/-- The charger's transitions on its conditions (R288). -/
def State.obcStep (s : State) (l : Lane) : State :=
  let d := laneDie l
  let st := s.rd d R.NRG_OBC_STATUS.STATE
  let s := s.put d R.NRG_OBC_STATUS.CFG_ERR (s.obcErr l)
  let f := s.rd d R.NRG_OBC_CFG.FUNC
  let may := s.on d R.NRG_OBC_CFG.EN && decide (1 ≤ f) && decide (f ≤ 3) && s.acMode l && !s.nrgCfgErr l && !s.obcErr l
    && s.mainHold l
  if !may then (if st = obcOff then s else s.obcStop l)
  else if st = obcOff then s.obcGo l (if f = 2 then obcPre else obcSync)
  else s

/-- P_lim in the unit of the charger's power setpoint. The spec gives that unit no base, so but for zero the conversion is a free
value (log entry 12). -/
def State.plimPu (s : State) (l : Lane) : Int :=
  let p := (s.run l).nrg.plim
  if p ≤ 0 then 0 else (Config.unstated 63 p).natAbs

/-- The charger at a boundary (R288): its powers slew at `RAMP` per ms, and in Charge P_lim bounds the power that it delivers into
the link (R272). -/
def State.obcCycle (s : State) (l : Lane) : State :=
  let d := laneDie l
  let s := s.obcStep l
  if s.rd d R.NRG_OBC_STATUS.STATE = obcRun then
    let r : Int := s.rd d R.NRG_OBC_RAMP.RAMP
    let move := fun (now goal : Int) => if now < goal then min goal (now + r) else max goal (now - r)
    s.modNrg l fun n =>
      if s.opening l then { n with pNow := 0, qNow := 0 }
      else
        let p := move n.pNow (10 * s.rdS d R.NRG_OBC_PQ.P)
        { n with pNow := if s.rd d R.CFG_MODE.MODE = modeCharge then min p (s.plimPu l) else p, qNow := move n.qNow (10 * s.rdS d R.NRG_OBC_PQ.Q) }
  else s

/-- A contactor command refused with a result. -/
def State.cmdRefuse (s : State) (l : Lane) (r : Nat) : State := s.wr (laneDie l) R.NRG_CTR_RESULT.RESULT r

/-- A contactor command at its `NRG` block (R277, R279, R280, R284): the mode master alone, no sequence running unless the
command aborts it, a mode that marks the contactor, no configuration error. -/
def State.ctrCommand (s : State) (l : Lane) (cmd : Nat) (aborts mode : Bool) (go : State → State) : State :=
  if s.writable l then
    let d := laneDie l
    let s0 := s.wr d R.NRG_CTR_RESULT.LAST_CMD cmd
    if s.master ≠ l then s0.cmdRefuse l resNotMaster
    else if (s.run l).nrg.seq.isSome && !aborts then s0.cmdRefuse l resBusy
    else if !mode then s0.cmdRefuse l resMode
    else if s.nrgCfgErr l then s0.cmdRefuse l resCfg
    else go (s0.seqEnd l resAborted)
  else s

/-- `CLOSE_MAIN` (R280 steps 1 and 2). -/
def execCloseMain (l : Lane) (s : State) : Out :=
  .next (s.ctrCommand l 1 false (mainMode (s.modeOf l)) fun s =>
    if [ctrMP, ctrMN, ctrPRE].any fun c => s.depOn && s.rdBit .ds R.DSP_WELD.WELDED c then s.cmdRefuse l resWeld
    else (s.seqBegin l 1 .closeMn 2).seqClose l ctrMN .closeMn 2)

/-- `PRECHARGE_REACHED` (R280 step 3): before `T_MIN` the precharge was too fast and everything opens; otherwise MP
closes. -/
def execPrechargeReached (l : Lane) (s : State) : Out :=
  let d := laneDie l
  .next (match (s.run l).nrg.seq with
    | none => s
    | some q =>
      if q.phase = .precharge ∧ clampN 80 99 (s.rd d R.NRG_PRE.PCT) * s.vPack l ≤ 100 * s.vLink l then
        if s.now < q.since + s.rd d R.NRG_PRE.T_MIN * ms then (s.openAll l).seqEnd l resPreFast
        else s.seqClose l ctrMP .closeMp 4
      else s)

/-- `PRECHARGE_TIMEOUT` (R280 step 3). -/
def execPrechargeTimeout (l : Lane) (s : State) : Out :=
  .next (match (s.run l).nrg.seq with
    | none => s
    | some q =>
      if q.phase = .precharge then
        let t := q.since + orOne (s.rd (laneDie l) R.NRG_PRE.T_MAX) * 10 * ms
        ((s.advTo t).openAll l).seqEnd l resPreSlow
      else s)

/-- `PRECHARGE_OVERLAP_END` (R280 step 5). -/
def execPrechargeOverlapEnd (l : Lane) (s : State) : Out :=
  .next (match (s.run l).nrg.seq with
    | none => s
    | some q =>
      if q.phase = .overlap then
        ((s.advTo (q.since + s.rd (laneDie l) R.NRG_PRE.T_OVL * ms)).ctrOpen l ctrPRE).seqEnd l resDone
      else s)

/-- What a running sequence does once a coil has pulled in (R280, R283). -/
def State.seqPulled (s : State) (l : Lane) (k : Fin 12) : State :=
  match (s.run l).nrg.seq with
  | none => s
  | some q =>
    let mine := fun c => s.ctrOut l c == k
    match q.phase with
    | .closeMn => if mine ctrMN then s.seqClose l ctrPRE .precharge 3 else s
    | .closeMp => if mine ctrMP then s.seqGo l .overlap 5 else s
    | .dcN => if mine ctrDCN then s.seqClose l ctrDCP .dcP 2 else s
    | .dcP => if mine ctrDCP then s.seqEnd l resDone else s
    | .acClose => if mine ctrACR then s.seqEnd l resDone else s
    | _ => s

/-- `CONTACTOR_PULL_END` (R278): `PULL` ends in `HOLD`, chopped when `ECO_EN` is set; a sequence that waits goes on. -/
def execContactorPullEnd (k : Fin 12) (s : State) : Out :=
  .next (if s.depOn && s.dep.ctr[k] == .pull then
    let s1 := s.advTo (s.dep.ctrAt[k] + s.rd .ds R.DSP_SOk_CMD.T_PULL k * ms)
    let s2 := s1.modDep fun d => { d with ctr := upd d.ctr k fun _ => .hold }
    s2.each lanes fun s l => ((s.seqPulled l k).hvcStep l).obcStep l
  else s)

/-- What a running sequence does once a contact has opened (R281). -/
def State.seqDropped (s : State) (l : Lane) (c : Nat) : State :=
  match (s.run l).nrg.seq with
  | none => s
  | some q =>
    match q.phase with
    | .openMp => if c = ctrMP then s.startPosCheck l else s
    | .openMn => if c = ctrMN then s.afterMn l else s
    | .dcOpen => if s.ctr l ctrDCP = .isOpen ∧ s.ctr l ctrDCN = .isOpen then s.seqEnd l resDone else s
    | .acOpen => if c = ctrACR then s.seqEnd l resDone else s
    | _ => s

/-- `CONTACTOR_DROP_END` (R278): the `NRG` block times `DROP`; the contact counts as open. -/
def execContactorDropEnd (l : Lane) (c : Fin 6) (s : State) : Out :=
  let k := s.ctrOut l c
  .next (if s.alive l && s.on (laneDie l) R.NRG_CTRc_CFG.EN c && s.dep.ctr[k] == .drop then
    let s1 := s.advTo (s.dep.ctrAt[k] + s.rd (laneDie l) R.NRG_CTRc_CFG.T_DROP c * ms)
    (s1.modDep fun d => { d with ctr := upd d.ctr k fun _ => .isOpen }).seqDropped l c
  else s)

/-- `OPEN_MAIN` (R281 step 1): the power limits go to zero at once, and the opening waits for a low current. -/
def State.openMain (s : State) (l : Lane) : State :=
  let st := s.rd (laneDie l) R.NRG_HVC_STATUS.STATE
  let s1 := (s.seqBegin l 2 .curWait 1).modNrg l fun n => { n with pNow := 0, qNow := 0 }
  (if st = hvcSoft ∨ st = hvcRun then s1.hvcIset l else s1).plimZero l

/-- `OPEN_MAIN` (R279, R281). -/
def execOpenMain (l : Lane) (s : State) : Out :=
  .next (s.ctrCommand l 2 true (mainMode (s.modeOf l)) fun s => (s.clr (laneDie l) R.NRG_STATUS.NEG_UNTESTED).openMain l)

/-- `OPEN_CURRENT_WAIT_END` (R281 step 1): a current still above `I_OPEN` at the end of `T_WAIT` makes a hot opening. -/
def execOpenCurrentWaitEnd (l : Lane) (s : State) : Out :=
  let d := laneDie l
  .next (match (s.run l).nrg.seq with
    | none => s
    | some q =>
      if q.phase = .curWait then
        if s.lowCurrent l then s.startMp l
        else
          (((s.advTo (q.since + s.rd d R.NRG_OPEN.T_WAIT * ms)).inc d R.NRG_CTRc_CNT.HOT_OPENS ctrMP).set d
            R.NRG_STATUS.HOT_OPEN).startMp l
      else s)

/-- `WELD_CHECK_END` (R281 steps 3 to 6). A positive weld lies in MP or PRE, which a free value decides (log entry 2). -/
def execWeldCheckEnd (l : Lane) (s : State) : Out :=
  let d := laneDie l
  let dv : Int := s.rd d R.NRG_WELD.DV * 2 ^ 30
  .next (match (s.run l).nrg.seq with
    | none => s
    | some q =>
      let timed := q.since + orOne (s.rd d R.NRG_WELD.T_CHK) * 10 * ms
      match q.phase with
      | .posCheck =>
        if dv ≤ q.v0 - s.vLink l then s.startMn l
        else
          let r := (s.advTo timed).free 1
          (r.2.weldFound l (if r.1 = 0 then ctrMP else ctrPRE)).startMn l
      | .negWait =>
        if s.vLink l ≤ s.rd d R.NRG_WELD.V_SAFE * 2 ^ 30 then s.startMnCheck l
        else ((s.advTo timed).set d R.NRG_STATUS.NEG_UNTESTED).weldEnd l
      | .mnCheck =>
        let s1 := if dv < s.vLink l - q.v0 then s.weldFound l ctrMN else s.advTo timed
        (s1.ctrOpen l ctrPRE).weldEnd l
      | _ => s)

/-- `WELD_TEST` (R281): steps 3 to 6 from a state in which the main contactors are open. -/
def execWeldTest (l : Lane) (s : State) : Out :=
  .next (s.ctrCommand l 7 false (mainMode (s.modeOf l)) fun s =>
    if s.ctrClosed l ctrMP || s.ctrClosed l ctrMN || s.ctrClosed l ctrPRE then s.cmdRefuse l resMode
    else ((s.clr (laneDie l) R.NRG_STATUS.NEG_UNTESTED).seqBegin l 7 .posCheck 3).startPosCheck l)

/-- `CLEAR_WELD` (R282): only in Service, after a `WELD_TEST` of this power cycle has ended `DONE`. -/
def execClearWeld (l : Lane) (s : State) : Out :=
  .next (s.ctrCommand l 8 false true fun s =>
    if s.modeOf l == modeService && s.depOn && s.dep.weldTested then
      (s.wr .ds R.DSP_WELD.WELDED 0).cmdRefuse l resDone
    else s.cmdRefuse l resWeld)

/-- `CLOSE_DC` (R283): DCN and then DCP, with the main contactors held and the inlet matched. -/
def execCloseDc (l : Lane) (s : State) : Out :=
  .next (s.ctrCommand l 3 false (s.dcMode l) fun s =>
    if s.mainHold l && decide (absI (s.vInlet l - s.vLink l) ≤ s.rd (laneDie l) R.NRG_DC.DV_MATCH * 2 ^ 30) then
      (s.seqBegin l 3 .dcN 1).seqClose l ctrDCN .dcN 1
    else s.cmdRefuse l resMismatch)

/-- The DC-charge contactors open (R279). -/
def State.openDc (s : State) (l : Lane) : State :=
  let s1 := ((s.seqBegin l 4 .dcOpen 1).ctrOpen l ctrDCP).ctrOpen l ctrDCN
  if s1.ctr l ctrDCP = .drop ∨ s1.ctr l ctrDCN = .drop then s1 else s1.seqEnd l resDone

/-- `OPEN_DC` (R279). -/
def execOpenDc (l : Lane) (s : State) : Out := .next (s.ctrCommand l 4 true (s.dcMode l) fun s => s.openDc l)

/-- `DC_OVERCURRENT` (R283): 100 ms after the current was first seen above `I_DC_MAX`, the mode master's block runs `OPEN_DC`.
-/
def execDcOvercurrent (l : Lane) (s : State) : Out :=
  .next (if s.alive l && s.master == l && s.ctrClosed l ctrDCP
      && decide (s.rd (laneDie l) R.NRG_DC.I_DC_MAX * 2 ^ 30 < absI (s.iPack l)) then
    let s1 := s.advTo ((s.run l).nrg.dcHigh.getD s.now + 100 * ms)
    ((s1.seqEnd l resAborted).wr (laneDie l) R.NRG_CTR_RESULT.LAST_CMD 4).openDc l
  else s)

/-- `CLOSE_AC` (R283): ACR closes only while the charger is in `PRECHARGE`. -/
def execCloseAc (l : Lane) (s : State) : Out :=
  .next (s.ctrCommand l 5 false (s.acMode l) fun s =>
    if s.rd (laneDie l) R.NRG_OBC_STATUS.STATE = obcPre then (s.seqBegin l 5 .acClose 1).seqClose l ctrACR .acClose 1
    else s.cmdRefuse l resMode)

/-- ACR opens (R279, R288). -/
def State.openAc (s : State) (l : Lane) : State :=
  let s1 := (s.seqBegin l 6 .acOpen 1).ctrOpen l ctrACR
  if s1.ctr l ctrACR = .drop then s1 else s1.seqEnd l resDone

/-- `OPEN_AC` (R279). -/
def execOpenAc (l : Lane) (s : State) : Out := .next (s.ctrCommand l 6 true (s.acMode l) fun s => s.openAc l)

/-! ## Overvoltage (R272 to R274) -/

/-- The events of an overvoltage level coming on (R289). -/
def State.ovEvent (s : State) (l : Lane) (evt cnt : Fld) (level : Nat) : State :=
  let d := laneDie l
  (((s.set d evt).inc d cnt).irq l R.NRG_CTRL.OV_IRQ_EN).logIf l R.NRG_CTRL.LOG_EN 272 level

/-- `OV1_CROSS` (R269, R272): the comparator turns as the fast value asks; the target goes to zero while OV1 is on; with it
off, the hold of an OV2 event ends. -/
def execOv1Cross (l : Lane) (on : Bool) (s : State) : Out :=
  let d := laneDie l
  .next (if s.past l 11 && s.on d R.NRG_STATUS.OV1 != on && s.ovOut l 1 (!on) == on then
    let s0 := s.plimStep l
    let s1 := s0.put d R.NRG_STATUS.OV1 on
    if on then (s1.ovEvent l R.NRG_STATUS.OV1_EVT R.NRG_OV_CNT.OV1 1).plimStep l
    else (s1.modNrg l fun n => { n with zeroHold := false }).plimStep l
  else s)

/-- `OV2_CROSS` (R272, R273): P_lim steps to zero and stays there; the Deputy asserts the clamp and its overrides. -/
def execOv2Cross (l : Lane) (s : State) : Out :=
  let d := laneDie l
  .next (if s.past l 11 && !s.on d R.NRG_STATUS.OV2 && s.ovOut l 2 false then
    let s1 := (s.set d R.NRG_STATUS.OV2).ovEvent l R.NRG_STATUS.OV2_EVT R.NRG_OV_CNT.OV2 2
    ((s1.modNrg l fun n => { n with zeroHold := true }).plimZero l).ov2Line l true
  else s)

/-- `OV2_RELEASE` (R273). -/
def execOv2Release (l : Lane) (s : State) : Out :=
  let d := laneDie l
  .next (if s.past l 11 && s.on d R.NRG_STATUS.OV2 && !s.ovOut l 2 true then (s.clr d R.NRG_STATUS.OV2).ov2Line l false else s)

/-- `OV3_CROSS` (R274). -/
def execOv3Cross (l : Lane) (s : State) : Out :=
  let d := laneDie l
  .next (if s.past l 11 && !s.on d R.NRG_STATUS.OV3 && s.ovOut l 3 false then
    ((s.set d R.NRG_STATUS.OV3).ovEvent l R.NRG_STATUS.OV3_EVT R.NRG_OV_CNT.OV3 3).ov3Line l true
  else s)

/-- `OV3_LINES_INACTIVE` (R274). -/
def execOv3LinesInactive (l : Lane) (s : State) : Out :=
  let d := laneDie l
  .next (if s.past l 11 && s.on d R.NRG_STATUS.OV3 && !s.ovOut l 3 true then (s.clr d R.NRG_STATUS.OV3).ov3Line l false else s)

/-- `OV3_HOLD_EXPIRY` (R274): the Deputy releases the short circuit. -/
def execOv3HoldExpiry (s : State) : Out :=
  .next (match s.dep.asc3 with
    | none => s
    | some t =>
      if s.depOn then
        let s1 := s.advTo (t + orOne (bits (s.rd .ds R.DSP_OV3.VALUE) 23 16) * ms)
        ((s1.modDep fun d => { d with asc3 := none }).clr .ds R.DSP_OV_STATUS.ASC_HOLD).ovApply
      else s)

/-- `OV3_CONTACTOR_OPEN` (R274): 1 ms after the current was first seen below `ACC_MIN` with OV3 on, the mode master opens MP
at once. -/
def execOv3ContactorOpen (l : Lane) (s : State) : Out :=
  let d := laneDie l
  .next (if s.alive l && s.master == l && s.on d R.NRG_STATUS.OV3 && s.ctrClosed l ctrMP
      && decide (s.iPack l < s.rd d R.NRG_REGEN.ACC_MIN * 2 ^ 30) then
    let s1 := s.advTo ((s.run l).nrg.accLow.getD s.now + ms)
    (((s1.ctrOpen l ctrMP).inc d R.NRG_OV_CNT.OV3_OPEN).ctrWatch l).obcStep l
  else s)

/-! ## Converter and charger (R285 to R288) -/

/-- The converter's setpoints written (R285): the setpoint slots take the values; the voltage slews in `SOFT`. -/
def State.hvcSet (s : State) (l : Lane) (vset iset : Nat) : State :=
  let d := laneDie l
  let s1 := (s.wr d R.NRG_HVC_SET.VSET vset).wr d R.NRG_HVC_SET.ISET iset
  let s2 := s1.hvcIset l
  if s2.rd d R.NRG_HVC_STATUS.STATE = hvcSoft then s2
  else s2.setK3 l (s2.rd d R.NRG_HVC_CFG.VSET_SLOT) (vset * 2 ^ 14)

/-- `HVC_SET_WRITE` (R285). -/
def execHvcSetWrite (l : Lane) (vset iset : BitVec 16) (s : State) : Out :=
  .next (if s.writable l then s.hvcSet l vset.toNat iset.toNat else s)

/-- `HVC_SOFT_DONE` (R286). -/
def execHvcSoftDone (l : Lane) (s : State) : Out :=
  let d := laneDie l
  .next (if s.alive l && s.rd d R.NRG_HVC_STATUS.STATE == hvcSoft then
    let v := s.rd d R.NRG_HVC_SET.VSET
    ((s.wr d R.NRG_HVC_STATUS.STATE hvcRun).modNrg l fun n => { n with vNow := v }).setK3 l
      (s.rd d R.NRG_HVC_CFG.VSET_SLOT) (v * 2 ^ 14)
  else s)

/-- The grid as the loop measures it (R288). -/
def State.gridSeen (s : State) (l : Lane) (v f : BitVec 16) : State :=
  (s.wr (laneDie l) R.NRG_OBC_GRID.V v.toNat).wr (laneDie l) R.NRG_OBC_GRID.F f.toNat

/-- The amplitude lies within its window. -/
def State.gridV (s : State) (l : Lane) (v : BitVec 16) : Bool :=
  decide (s.rd (laneDie l) R.NRG_OBC_VWIN.LO ≤ v.toNat) && decide (v.toNat ≤ s.rd (laneDie l) R.NRG_OBC_VWIN.HI)

/-- The frequency lies within its window. -/
def State.gridF (s : State) (l : Lane) (f : BitVec 16) : Bool :=
  decide (s.rd (laneDie l) R.NRG_OBC_FWIN.LO ≤ f.toNat) && decide (f.toNat ≤ s.rd (laneDie l) R.NRG_OBC_FWIN.HI)

/-- `OBC_SYNC_DONE` (R288): at the earliest 1 s after the entry to `SYNC`. -/
def execObcSyncDone (l : Lane) (v f : BitVec 16) (s : State) : Out :=
  let d := laneDie l
  .next (if s.alive l && s.rd d R.NRG_OBC_STATUS.STATE == obcSync then
    let s1 := (s.gridSeen l v f).set d R.NRG_OBC_STATUS.PLL_LOCK
    if s.gridV l v && s.gridF l f then
      let s2 := (s1.advTo ((s.run l).nrg.obcAt + sec)).obcGo l obcPre
      s2.holdStage l (s2.dabChs l) false
    else s1
  else s)

/-- `OBC_BUS_REACHED` (R288): the charger closes ACR and runs. -/
def execObcBusReached (l : Lane) (s : State) : Out :=
  let d := laneDie l
  .next (if s.alive l && s.rd d R.NRG_OBC_STATUS.STATE == obcPre then
    let s1 := if s.master == l && (s.run l).nrg.seq.isNone then
        ((s.wr d R.NRG_CTR_RESULT.LAST_CMD 5).seqBegin l 5 .acClose 1).seqClose l ctrACR .acClose 1
      else s
    ((s1.obcGo l obcRun).obcHold l false).modNrg l fun n => { n with pNow := 0, qNow := 0 }
  else s)

/-- `OBC_GRID_TRIP` (R288): at the earliest `T_V` or `T_F` after the entry to `RUN`, the front end goes all-off and ACR opens.
-/
def execObcGridTrip (l : Lane) (v f : BitVec 16) (s : State) : Out :=
  let d := laneDie l
  .next (if s.alive l && s.rd d R.NRG_OBC_STATUS.STATE == obcRun && !(s.gridV l v && s.gridF l f) then
    let tv := s.rd d R.NRG_OBC_TRIPT.T_V * ms
    let tf := s.rd d R.NRG_OBC_TRIPT.T_F * ms
    let wait := if s.gridF l f then tv else if s.gridV l v then tf else min tv tf
    let s0 := s.advTo ((s.run l).nrg.obcAt + wait)
    let s1 := ((((s0.gridSeen l v f).obcGo l obcTripped).set d R.NRG_OBC_STATUS.GRID_TRIP).set d
      R.NRG_STATUS.GRID_TRIP).irq l R.NRG_CTRL.GRID_IRQ_EN
    let s2 := s1.holdStage l (s1.afeChs l) true
    if s2.ctrClosed l ctrACR then s2.ctrOpen l ctrACR else s2
  else s)

/-- `OBC_GRID_RETURN` (R288): at the earliest 60 s after the trip. -/
def execObcGridReturn (l : Lane) (v f : BitVec 16) (s : State) : Out :=
  let d := laneDie l
  .next (if s.alive l && s.rd d R.NRG_OBC_STATUS.STATE == obcTripped && s.gridV l v && s.gridF l f then
    ((s.advTo ((s.run l).nrg.obcAt + 60 * sec)).gridSeen l v f).obcGo l obcSync
  else s)

/-! ## Boundaries and mode changes -/

/-- The pack current as the `NRG` block watches it (R274, R283): since when it lies below `ACC_MIN` with OV3 on, and above
`I_DC_MAX` with DCP closed. -/
def State.packWatch (s : State) (l : Lane) : State :=
  let d := laneDie l
  let low := s.on d R.NRG_STATUS.OV3 && decide (s.iPack l < s.rd d R.NRG_REGEN.ACC_MIN * 2 ^ 30)
  let high := s.ctrClosed l ctrDCP && decide (s.rd d R.NRG_DC.I_DC_MAX * 2 ^ 30 < absI (s.iPack l))
  s.modNrg l fun n => { n with accLow := heldSince n.accLow low s.now, dcHigh := heldSince n.dcHigh high s.now }

/-- The `NRG` block at a traction-cycle boundary. -/
def State.nrgBoundary (s : State) (l : Lane) : State := (((s.packWatch l).plimStep l).hvcCycle l).obcCycle l

/-- Step 4 of a mode change at a lane (R284): a stage that the new mode does not mark stops, and its contactors open
without the current wait. -/
def State.nrgMode (s : State) (l : Lane) : State :=
  let s1 := (s.hvcStep l).obcStep l
  let s2 := if s1.master == l && !s1.dcMode l && (s1.ctrClosed l ctrDCP || s1.ctrClosed l ctrDCN) then
      (s1.ctrOpen l ctrDCP).ctrOpen l ctrDCN
    else s1
  s2.ctrWatch l

end Sys2Proof.Machine
end

