-- ==== Sys2Proof/Machine/Lvp.lean ====
section
/-!
DEFINITION. The commands of the power path, the charge profiles and the actuator boost (R290 to R299). Voltages of the
profile are in 0.1 mV, its current setpoint in 25 mA.
-/
namespace Sys2Proof.Machine

/-- The power path of a die changed by `f`. -/
def State.modLvp (s : State) (l : Lane) (f : LvpSt → LvpSt) : State := s.modPap l fun p => { p with lvp := f p.lvp }

/-- The path of a lane's controller. -/
def State.path (s : State) (l : Lane) : Nat := s.rd (papDie l) R.LVP_STATUS.PATH

/-- The power path of a lane works: its die runs and the lane has ended `ST13`. -/
def State.lvpOn (s : State) (l : Lane) : Bool := (s.pap l).powered && s.past l 13

/-- The converter's state as a controller takes it (R292): the granted lane's own, for the other lane the state that came
with the last copy it acknowledged. -/
def State.hvcSeen (s : State) (l : Lane) : Nat :=
  if s.granted l then s.rd (laneDie l) R.NRG_HVC_STATUS.STATE
  else match (s.run l).link.acked, (s.run l).link.lastApplied with
    | some c, _ => c.hw.hvc
    | none, some c => c.hw.hvc
    | none, none => s.rd (laneDie l) R.NRG_HVC_STATUS.STATE

/-- "Converter up": in `SOFT` or `RUN` (R293). -/
def State.hvcUp (s : State) (l : Lane) : Bool := s.hvcSeen l == hvcSoft || s.hvcSeen l == hvcRun

/-- The codes of `LVP_STATUS.PAIR`: `OFF`, `DISCHARGE`, `BOTH` (R291). -/
def pairDischarge : Nat := 1
/-- `BOTH`. -/
def pairBoth : Nat := 2

/-- A path taken, with the mode of its pair and the interrupt of a path change (R293, R303). -/
def State.goPath (s : State) (l : Lane) (path pair : Nat) : State :=
  ((s.wr (papDie l) R.LVP_STATUS.PATH path).wr (papDie l) R.LVP_STATUS.PAIR pair).irqOf l (papDie l)
    R.LVP_CTRL.PATH_IRQ_EN

/-- The entry to `ISOLATE` (R293). -/
def State.isolate (s : State) (l : Lane) (flag : Fld) : State :=
  let d := papDie l
  let s1 := (((s.goPath l pathIso 0).wr d R.LVP_STATUS.STAGE 0).set d flag).inc d R.LVP_CNT.ISOLATE
  let s2 := (s1.modLvp l fun x => { x with isoAt := s.now, cutAt := none }).irqOf l d R.LVP_CTRL.FAULT_IRQ_EN
  s2.when (s2.on d R.LVP_CTRL.LOG_EN) fun s => s.log l 293 pathIso

/-! ## The profile (R296 to R298) -/

/-- The stages of `LVP_STATUS.STAGE`. -/
def stInhibit : Nat := 0
/-- `CC`. -/
def stCc : Nat := 1
/-- `CV`. -/
def stCv : Nat := 2
/-- `FLOAT`. -/
def stFloat : Nat := 3
/-- `REST`. -/
def stRest : Nat := 4

/-- The profile is LiFePO4. -/
def State.lifepo (s : State) (l : Lane) : Bool := s.on (papDie l) R.LVP_CHG_CFG.PROFILE

/-- The battery temperature in 0.1 C. -/
def State.tBat (s : State) (l : Lane) : Int := s.rdS (papDie l) R.LVP_MEAS_I.TBAT

/-- The battery voltage in 0.1 mV. -/
def State.vBat (s : State) (l : Lane) : Int := s.rd (papDie l) R.LVP_MEAS_V.VBAT * 100

/-- A profile voltage in 0.1 mV at the present temperature (R296): lead-acid is compensated by `TC` from 25 C, with the
temperature limited to -20 C to +50 C. -/
def State.vAtT (s : State) (l : Lane) (f : Fld) : Int :=
  let d := papDie l
  let tc := if s.lifepo l || !s.on d R.LVP_CHG_CFG.TEMP_COMP then 0 else s.rdS d R.LVP_CHG_T.TC
  s.rd d f * 100 + tc * (clampI (-200) 500 (s.tBat l) - 250)

/-- The temperature reading is out of range (R297); an open or shorted input (R394) reads outside it. -/
def State.ntcFault (s : State) (l : Lane) : Bool :=
  let n := s.rd (papDie l) R.LVP_CHG_CFG.NTC_SEL
  decide (s.tBat l < -400) || decide (1250 < s.tBat l)
    || s.on (laneDie l) R.THM_NTCn_TEMP.OPEN n || s.on (laneDie l) R.THM_NTCn_TEMP.SHORT n

/-- The battery temperature taken every 10 ms from the input that `NTC_SEL` names (R292, R394). -/
def State.tBatTake (s : State) (l : Lane) : State :=
  let d := papDie l
  let due := match (s.pap l).lvp.tbatAt with
    | none => true
    | some t => decide (t + 10 * ms ≤ s.now)
  if due then
    (s.wrS d R.LVP_MEAS_I.TBAT (s.rdS (laneDie l) R.THM_NTCn_TEMP.TEMP (s.rd d R.LVP_CHG_CFG.NTC_SEL))).modLvp l fun x =>
      { x with tbatAt := some s.now }
  else s

/-- The cases in which the stage is `INHIBIT` (R297). -/
def State.inhibited (s : State) (l : Lane) : Bool :=
  let d := papDie l
  !s.on d R.LVP_CTRL.CHG_EN || s.ntcFault l
    || (s.lifepo l && (decide (s.tBat l < s.rdS d R.LVP_CHG_T.T_LO * 10) || decide (s.rdS d R.LVP_CHG_T.T_HI * 10 < s.tBat l)))

/-- The start stage (R297). -/
def State.startStage (s : State) (l : Lane) : Nat :=
  if s.lifepo l then (if s.vBat l < s.vAtT l R.LVP_CHG_V.V_HOLD then stCc else stRest)
  else if s.vBat l < s.vAtT l R.LVP_CHG_V.V_HOLD - 2000 then stCc else stFloat

/-- A stage taken. -/
def State.goStage (s : State) (l : Lane) (st : Nat) : State :=
  (s.wr (papDie l) R.LVP_STATUS.STAGE st).modLvp l fun x =>
    { x with stageAt := s.now, condAt := none, vInh := if st = stInhibit then s.vBat l else x.vInh }

/-- The profile starts on entry to `CONV` (R297). -/
def State.profStart (s : State) (l : Lane) : State :=
  s.goStage l (if s.inhibited l then stInhibit else s.startStage l)

/-- A condition that must hold for `t` without a break: its start is kept, and the answer says whether it has lasted. -/
def State.lasting (s : State) (l : Lane) (c : Bool) (t : Nat) : Bool × State :=
  if c then
    match (s.pap l).lvp.condAt with
    | none => (false, s.modLvp l fun x => { x with condAt := some s.now })
    | some t0 => (decide (t0 + t ≤ s.now), s)
  else (false, s.modLvp l fun x => { x with condAt := none })

/-- The mean of I_P over the 10 ms is at most `I_TAIL` (R296). -/
def State.atTail (s : State) (l : Lane) : Bool :=
  let x := (s.pap l).lvp
  let tail : Int := s.rd (papDie l) R.LVP_CHG_I.I_TAIL
  if x.ipCnt = 0 then decide (s.rdS (papDie l) R.LVP_MEAS_I.IP ≤ tail) else decide (x.ipSum ≤ tail * x.ipCnt)

/-- The stage moves on (R296, R297). -/
def State.stageMove (s : State) (l : Lane) (limiting : Bool) : State :=
  let d := papDie l
  let st := s.rd d R.LVP_STATUS.STAGE
  let x := (s.pap l).lvp
  if s.inhibited l then (if st = stInhibit then s else s.goStage l stInhibit)
  else if st = stInhibit then s.goStage l (s.startStage l)
  else if st = stCc then
    if s.vAtT l R.LVP_CHG_V.V_CV - 500 ≤ s.vBat l then s.goStage l stCv else s
  else if st = stCv then
    let r := s.lasting l (s.atTail l) (60 * sec)
    let next := if s.lifepo l then stRest else stFloat
    if r.1 then r.2.goStage l next
    else if !s.lifepo l && decide (x.stageAt + orOne (s.rd d R.LVP_CHG_T.T_ABS) * 60 * sec ≤ s.now) then
      (r.2.set d R.LVP_STATUS.T_ABS_END).goStage l next
    else r.2
  else if st = stFloat then
    let r := s.lasting l limiting (30 * sec)
    if r.1 then r.2.goStage l stCc else r.2
  else
    let r := s.lasting l (decide (s.vBat l < s.vAtT l R.LVP_CHG_V.V_HOLD - 4000)) (60 * sec)
    if r.1 then r.2.goStage l stCc else r.2

/-- V* in 0.1 mV (R296). -/
def State.vStar (s : State) (l : Lane) : Int :=
  let st := s.rd (papDie l) R.LVP_STATUS.STAGE
  if st = stInhibit then (s.pap l).lvp.vInh
  else if st = stCc ∨ st = stCv then s.vAtT l R.LVP_CHG_V.V_CV
  else s.vAtT l R.LVP_CHG_V.V_HOLD

/-- I* in 25 mA (R296): LiFePO4 charges with a quarter within 10 C above `T_LO`. -/
def State.iStar (s : State) (l : Lane) : Int :=
  let d := papDie l
  let st := s.rd d R.LVP_STATUS.STAGE
  let cold := s.lifepo l && (st == stCc || st == stCv) && decide (s.tBat l ≤ s.rdS d R.LVP_CHG_T.T_LO * 10 + 100)
  s.rd d R.LVP_CHG_I.I_CHG * (if cold then 1 else 4)

/-- A setpoint as a share of its base in 2^-16, and whether it saturates (R298). A base of 0 or a negative setpoint has no
stated result (log entry 12). -/
def State.setpoint (s : State) (num base : Int) : Nat × Bool × State :=
  if base = 0 ∨ num < 0 then (low 16 (Config.unstated 298 num).natAbs, false, s)
  else
    let r := s.roundQ (num * 2 ^ 16) base
    if 2 ^ 16 ≤ r.1 then (0xFFFF, true, r.2) else (r.1.toNat, false, r.2)

/-- The setpoints after a profile step (R298): the granted lane writes them, the other computes them in shadow. -/
def State.profWrite (s : State) (l : Lane) : State :=
  let d := papDie l
  let v := s.setpoint (s.vStar l) (s.rd d R.LVP_BASE.V_BASE * 100)
  let i := v.2.2.setpoint (s.iStar l) (s.rd d R.LVP_BASE.I_BASE * 4)
  let s1 := (i.2.2.when (v.2.1 || i.2.1) fun s => s.set d R.LVP_STATUS.SET_SAT).modLvp l fun x =>
    { x with vset := v.1, iset := i.1 }
  if s1.granted l then s1.hvcSet l v.1 i.1 else s1

/-! ## The commands -/

/-- Since when a condition has held. -/
def since (c : Bool) (old : Option Nat) (now : Nat) : Option Nat :=
  if c then (match old with | some t => some t | none => some now) else none

/-- A condition has held for `t` at `now`. -/
def held (x : Option Nat) (t now : Nat) : Bool :=
  match x with
  | some t0 => decide (t0 + t ≤ now)
  | none => false

/-- The Deputy shows a measurement of `VBAT_x`, in 10 mV, in `DSP_SUPPLY` (R352, R454). -/
def State.supplyShow (s : State) (l : Lane) (vbat : Nat) : State :=
  let ok := if l = .a then R.DSP_SUPPLY.VBAT_A_OK else R.DSP_SUPPLY.VBAT_B_OK
  let v := if l = .a then R.DSP_SUPPLY.VBAT_A else R.DSP_SUPPLY.VBAT_B
  if s.depOn then (s.put .ds ok (decide (900 ≤ vbat))).wrSat .ds v (vbat / 25) else s

/-- `LVP_SAMPLE` (R292, R293): every 10 us the quantities are measured, and the first row of R293 whose event has happened is
taken (table order, log entry 15). -/
def execLvpSample (l : Lane) (vbat vbus : Nat) (ip : Int) (s : State) : Out :=
  let d := papDie l
  .next (if s.lvpOn l then
    let s0 := s.advTo ((s.pap l).lvp.sampleAt + 10 * us)
    let s1 := (((s0.wrSat d R.LVP_MEAS_V.VBAT vbat).wrSat d R.LVP_MEAS_V.VBUS vbus).wrS d
      R.LVP_MEAS_I.IP ip).tBatTake l |>.supplyShow l vbat
    let s2 := s1.put d R.LVP_STATUS.NTC_FAULT (s1.ntcFault l)
    let s3 := s2.modLvp l fun x =>
      let low_ := decide (vbat < s.rd d R.LVP_PROT.V_CUTOFF)
      { x with
        sampleAt := s0.now, revAt := since (decide (ip ≤ -10)) x.revAt s0.now, fwdAt := since (decide (10 ≤ ip)) x.fwdAt s0.now
        overAt := since (decide (ip ≤ -(s.rd d R.LVP_PROT.I_MAX : Int))) x.overAt s0.now
        cutAt := since (low_ && s.path l == pathBatt) x.cutAt s0.now, cutNoted := x.cutNoted && low_
        ipSum := x.ipSum + ip, ipCnt := x.ipCnt + 1 }
    let p := s3.path l
    let x := (s3.pap l).lvp
    let diff := absI ((vbus : Int) - vbat)
    if (p = pathBatt ∨ p = pathIso) ∧ s3.hvcUp l ∧ diff ≤ 30 ∧ !s3.on d R.LVP_STATUS.REQUAL then
      (s3.goPath l pathConv pairBoth).profStart l
    else if (p = pathBatt ∨ p = pathHand) ∧ held x.fwdAt (10 * us) s3.now then
      (s3.isolate l R.LVP_STATUS.REVERSE).inc d R.LVP_CNT.REVERSE
    else if (p = pathBatt ∨ p = pathConv ∨ p = pathHand) ∧ held x.overAt ms s3.now then
      s3.isolate l R.LVP_STATUS.OVERCURRENT
    else s3
  else s)

/-- `LVP_HANDOVER` (R294): the pair discharges only, the profile is inhibited, the converter is held off. -/
def execLvpHandover (l : Lane) (s : State) : Out :=
  let d := papDie l
  .next (if s.lvpOn l && s.path l == pathConv && !s.hvcUp l then
    let gone := (s.run l).phase != .off && (s.tripped l (s.hvcChs l) || !s.mainHold l)
    let s1 := ((s.goPath l pathHand pairDischarge).goStage l stInhibit).set d R.LVP_STATUS.HANDOVER_EVT
    let s2 := (s1.inc d R.LVP_CNT.HANDOVERS).modLvp l fun x => { x with handAt := s.now, revAt := none, gone := gone }
    s2.each lanes fun s k => if s.alive k then s.hvcStep k else s
  else s)

/-- `LVP_HANDOVER_END` (R293, R294): at the battery's 100 us, or 2 ms after the entry, whichever comes first. -/
def execLvpHandoverEnd (l : Lane) (s : State) : Out :=
  .next (if s.lvpOn l && s.path l == pathHand then
    let x := (s.pap l).lvp
    let end_ := match x.revAt with
      | some t => min (t + 100 * us) (x.handAt + 2 * ms)
      | none => x.handAt + 2 * ms
    let s1 := (s.advTo end_).goPath l pathBatt pairDischarge
    (s1.set (papDie l) R.LVP_STATUS.REQUAL).modLvp l fun x => { x with requalAt := some (s1.now + 50 * ms), cutAt := none }
  else s)

/-- `LVP_REQUAL_END` (R295): the converter may restart. -/
def execLvpRequalEnd (l : Lane) (s : State) : Out :=
  .next (match (s.pap l).lvp.requalAt with
    | some t =>
      if s.lvpOn l then
        let s1 := ((s.advTo t).clr (papDie l) R.LVP_STATUS.REQUAL).modLvp l fun x =>
          { x with requalAt := none, gone := false }
        s1.each lanes fun s k => if s.alive k then s.hvcStep k else s
      else s
    | none => s)

/-- `LVP_CUTOFF` (R293): outside Drive the pair opens; in Drive the cut-off shows and is queued, once for each fall. -/
def execLvpCutoff (l : Lane) (s : State) : Out :=
  .next (match (s.pap l).lvp.cutAt with
    | some t =>
      if s.lvpOn l && s.path l == pathBatt then
        let s1 := s.advTo (t + 10 * sec)
        if s.modeOf l == modeDrive then
          if (s.pap l).lvp.cutNoted then s1
          else
            let s2 := (s1.set (papDie l) R.LVP_STATUS.CUTOFF).modLvp l fun x => { x with cutNoted := true }
            s2.when (s2.on (papDie l) R.LVP_CTRL.LOG_EN) fun s => s.log l 293 0
        else s1.isolate l R.LVP_STATUS.CUTOFF
      else s
    | none => s)

/-- `LVP_RECONNECT` (R293): at least 1 s after the entry to `ISOLATE`, outside Drive. -/
def execLvpReconnect (l : Lane) (s : State) : Out :=
  .next (if s.writable l && s.lvpOn l && s.path l == pathIso && s.modeOf l != modeDrive
      && decide ((s.pap l).lvp.isoAt + sec ≤ s.now) then s.goPath l pathBatt pairDischarge
    else s)

/-- `LVP_PROFILE_STEP` (R296 to R298). -/
def execLvpProfileStep (l : Lane) (limiting : Bool) (s : State) : Out :=
  .next (if s.lvpOn l && s.path l == pathConv then
    let s1 := ((s.advTo ((s.pap l).lvp.profAt + 10 * ms)).stageMove l limiting).profWrite l
    s1.modLvp l fun x => { x with profAt := s1.now, ipSum := 0, ipCnt := 0 }
  else s)

/-- `ACT_UNDERVOLTAGE` (R299): the rail has stood below 0.9 of its setpoint for 1 ms. -/
def execActUndervoltage (l : Lane) (vact : Nat) (s : State) : Out :=
  let d := papDie l
  .next (if (s.pap l).powered then
    let s1 := s.wrSat d R.LVP_ACT_STATUS.VACT vact
    let vset := if s.clampRuns l then 480 else clampN 400 520 (s.rd d R.LVP_ACT_CFG.ACT_VSET)
    s1.when ((s.on d R.LVP_ACT_CFG.ACT_EN || s.clampRuns l) && decide (10 * vact < 9 * vset)) fun s =>
      s.set d R.LVP_ACT_STATUS.ACT_UV
  else s)

/-- `VBAT_9V_CROSSING` (R299, R454). -/
def execVbat9vCrossing (l : Lane) (up : Bool) (s : State) : Out :=
  let d := papDie l
  let ok := match l with
    | .a => R.DSP_SUPPLY.VBAT_A_OK
    | .b => R.DSP_SUPPLY.VBAT_B_OK
  .next (if (s.pap l).powered then
    let s1 := (s.modPap l fun p => { p with boostStop := !up }).when (!up) fun s => s.set d R.LVP_ACT_STATUS.IN_UV
    (s1.when s1.depOn fun s => s.put .ds ok up).actSync l
  else s)

end Sys2Proof.Machine
end

