-- ==== Sys2Proof/Machine/Deputy.lean ====
section
/-!
DEFINITION. The commands of the Deputy: the grant and its hold, heartbeats, its alive count and what the lanes make of its
silence, the Degraded timers and the Safe stop (R19 to R28, R332 to R342, R349).
-/
namespace Sys2Proof.Machine

/-! ## The grant (R19 to R25) -/

/-- `AUTH_REQ_RAISE` (R25): a lane whose request line is up gets the grant if it is eligible and no lane holds it; the
preferred lane when both ask. -/
def execAuthReqRaise (l : Lane) (s : State) : Out :=
  .next (if s.depOn && s.alive l && s.on (laneDie l) R.LNK_STATUS.AUTH_REQ then (s.set .ds (reqFld l)).grantLogic else s)

/-- `AUTH_REQ_DROP` (R22, R25): the request falls; a holder loses the grant without a fault. -/
def execAuthReqDrop (l : Lane) (s : State) : Out :=
  .next (if s.depOn && s.on .ds (reqFld l) then
    let s1 := (s.clr (laneDie l) R.LNK_STATUS.AUTH_REQ).clr .ds (reqFld l)
    (s1.removeGrant l).grantLogic
  else s)

/-- The lane that a hold may grant: the other one than that which lost the grant, eligible and requesting (R25). -/
def State.holdTaker (s : State) : Option Lane :=
  match s.dep.holdFrom with
  | none => none
  | some x => if s.eligible x.other && s.on .ds (reqFld x.other) then some x.other else none

/-- The new lane's power path writes its setpoints from its own state (R316, step 5). -/
def State.switchSetpoints (s : State) (l : Lane) : State :=
  if s.lvpOn l && s.path l == pathConv then s.hvcSet l (s.pap l).lvp.vset (s.pap l).lvp.iset else s

/-- `HOLD_GRANT` (R19, R25, R316): at least 20 ns after the removal; a lost lane that turns `ACTIVE` returns (R469). -/
def execHoldGrant (s : State) : Out :=
  .next (if s.depOn && s.rd .ds R.DSP_GRANT.STATE == grantHold then
    let s1 := (s.advTo (s.dep.holdAt + 2)).syncElig
    match s1.holdTaker with
    | some y => ((s1.giveGrant y).returns.syncElig).switchSetpoints y
    | none => s1
  else s)

/-- `HOLD_EXPIRY` (R23): the multiplexer ends its replay and every group takes its safe action, ticks kept. -/
def execHoldExpiry (s : State) : Out :=
  .next (if s.depOn && s.rd .ds R.DSP_GRANT.STATE == grantHold then
    let s1 := s.advTo (s.dep.holdAt + 50 * us)
    let s2 := (((s1.wr .ds R.DSP_GRANT.STATE grantNone).set .ds R.DSP_HOLD.EXPIRED).wr .ds R.DSP_HOLD.TB 0).inc .ds
      R.DSP_GRANT_CNT.EXPIRED
    let s3 := (s2.wrSat .ds R.DSP_GRANT.HOLD_TIME ((s1.now - s.dep.holdAt) / 2)).modDep fun d =>
      { d with holdFrom := none }
    let s4 := { s3 with mux := { s3.mux with chs := (updAll s3.mux.chs fun (c : Option MuxCh) =>
      c.map fun (m : MuxCh) => { m with driving := false }) } }
    (s4.each (List.range 8) fun s g => s.groupRest g).grantLogic
  else s)

/-- The first instant after `now` at which a held compare at position `v` comes round (R349). -/
def replayAt (now base v per : Int) : Int := base + v + ((now - base - v) / max 1 per + 1) * max 1 per

/-- The next held edge of a channel: its instant and level. -/
def State.replayEdge (s : State) (m : MuxCh) : Option (Int × Bool) :=
  match m.on, m.off, s.mux.tbs[tbIdx m.tb] with
  | some on, some off, some t =>
    let fine : Int := (t.phase % 512 : Nat)
    let per : Int := if t.updown then 1024 * (t.period : Int) else 512 * (t.period : Int)
    let offV : Int := if t.updown then per - off else off
    let a := replayAt s.steps t.start (on + fine) per
    let b := replayAt s.steps t.start (offV + fine) per
    if a < b then some (a, true) else some (b, false)
  | _, _, _ => none

/-- A destination of a held channel commanded by the replay (R237 confirms a turn-on). -/
def State.replayDst (s : State) (code : Nat) (on : Bool) (t : Int) : State :=
  if 1 ≤ code ∧ code ≤ 0x28 then
    match linkIdx (code - 1) with
    | some n => s.hoistCmd n on t
    | none => s
  else s

/-- `HOLD_REPLAY_EDGE` (R349): the multiplexer issues the next held edge of a channel with the reported dead times, until the
channel is taken over. The period replays at its nominal length (R349 bounds it within 0.5 %, log entry 17). -/
def execHoldReplayEdge (c : Fin 64) (s : State) : Out :=
  .next (match s.mux.chs[c] with
    | none => s
    | some m =>
      if !s.depOn || !m.driving then s
      else match s.replayEdge m with
        | none => s
        | some (x, level) =>
          let s1 := s.advSteps x
          let s2 := { s1 with mux := { s1.mux with chs := (upd s1.mux.chs c fun _ =>
            some { m with level := level, lastEdge := some x }) } }
          if level then
            (if m.compl then s2.replayDst m.dstL false s2.steps else s2).replayDst m.dstH true
              (s2.steps + (if m.compl then deadTime m.dtRise else 0))
          else
            let s3 := s2.replayDst m.dstH false s2.steps
            if m.compl then s3.replayDst m.dstL true (s3.steps + deadTime m.dtFall) else s3)

/-! ## Heartbeats (R331, R333, R334) -/

/-- A heartbeat of lane `l` taken as accepted. -/
def State.hbAccept (s : State) (l : Lane) (seq : Nat) (interval : Option Nat) : State :=
  let s1 := s.wr .ds R.DSP_Lx_STATUS.LAST_SEQ seq l.idx
  let s2 := match interval with
    | some t => s1.wrSat .ds R.DSP_Lx_STATUS.INTERVAL (t / us) l.idx
    | none => s1
  s2.modDepLane l fun x => { x with hb := { first := false, since := s2.now } }

/-- A heartbeat miss (R333): its count and the declaration. -/
def State.hbMiss (s : State) (l : Lane) : State := (s.inc .ds R.DSP_Lx_CNT.HB_MISS l.idx).declare (lossOf l) 3

/-- `HEARTBEAT_WRITE` (R331, R333, R334): a Service-only lane's firmware does not write outside Service, Parked and Storage
by R81, which the command's sender observes. -/
def execHeartbeatWrite (l x : Lane) (seq : BitVec 8) (s : State) : Out :=
  let a := 0x40150100 + 0x40 * x.idx.val
  .next (if !s.writable l || (s.run l).phase == .portFault then s
    else if !s.depOn then s.accessError l .ap a true .powerOff
    else if x ≠ l then s.accessError l .ap a true .owner
    else if !s.on .ds R.DSP_Lx_STATUS.ARMED l.idx then s
    else
      let h := (s.depLane l).hb
      let t := s.now - h.since
      if h.first then
        if clampN 10 5000 (s.rd .ds R.DSP_Lx_HB_START.MS l.idx) * ms < t then s.hbMiss l else s.hbAccept l seq.toNat none
      else if s.rd .ds R.DSP_Lx_HB_CFG.CLOSE l.idx * us < t then s.hbMiss l
      else if t < s.rd .ds R.DSP_Lx_HB_CFG.OPEN l.idx * us
          ∨ seq.toNat ≠ (s.rd .ds R.DSP_Lx_STATUS.LAST_SEQ l.idx + 1) % 256 then s.windowMiss l
      else s.hbAccept l seq.toNat (some t))

/-- `HEARTBEAT_MISS` (R333, R334): the start window or `CLOSE` passes. -/
def execHeartbeatMiss (l : Lane) (s : State) : Out :=
  let h := (s.depLane l).hb
  .next (if s.depOn && s.on .ds R.DSP_Lx_STATUS.ARMED l.idx then
    let len := if h.first then clampN 10 5000 (s.rd .ds R.DSP_Lx_HB_START.MS l.idx) * ms
      else s.rd .ds R.DSP_Lx_HB_CFG.CLOSE l.idx * us
    (s.advTo (h.since + len)).hbMiss l
  else s)

/-! ## The Deputy's own heartbeat (R28, R332) -/

/-- `DEPUTY_ALIVE_TICK` (R332): at the next 5 us of Deputy time each lane's port sees the count change. -/
def execDeputyAliveTick (s : State) : Out :=
  .next (if s.depOn then
    let s0 := s.advTo (s.dep.t0 + ((s.now - s.dep.t0) / (5 * us) + 1) * (5 * us))
    let s1 := s0.wr .ds R.DSP_ALIVE.COUNT (s0.rd .ds R.DSP_ALIVE.COUNT + 1)
    s1.each lanes fun s l => s.modSup l fun x => { x with seenAt := s.now }
  else s)

/-- `DEPUTY_PORT_SILENT` (R28): in the single-lane arrangement DS is declared at once; otherwise the lane sends `STATE` with
`DEPUTY_SEEN` clear and waits for its partner's view. -/
def execDeputyPortSilent (l : Lane) (s : State) : Out :=
  .next (if s.past l 14 && (s.run l).phase != .portFault && !s.dsLost l && (s.run l).sup.suspectAt.isNone
      && ((s.run l).pwr.nap == .run || (s.run l).pwr.nap == .entering) then
    let s1 := s.advTo ((s.run l).sup.seenAt + 20 * us)
    if s1.singleCfg l then s1.declareDs l
    else s1.modSup l fun x => { x with suspectAt := some s1.now }
  else s)

/-- The partner's view of the Deputy since a lane suspected its loss: a `STATE` with `DEPUTY_SEEN` set (R28). -/
def State.partnerSees (s : State) (l : Lane) (t : Nat) : Bool :=
  let k := (s.run l).link
  let fresh := match k.lastState with
    | some x => decide (t ≤ x)
    | none => false
  fresh && k.partnerDeputySeen && !s.on (laneDie l) R.LNK_STATUS.PARTNER_LOST && s.on (laneDie l) R.LNK_STATUS.LINK_UP

/-- `DS_PARTNER_JUDGEMENT` (R28). -/
def execDsPartnerJudgement (l : Lane) (s : State) : Out :=
  .next (match (s.run l).sup.suspectAt with
    | none => s
    | some t =>
      if s.past l 14 && (s.run l).phase != .portFault then
        let s1 := s.advTo (t + 10 * us)
        if s1.partnerSees l t then s1.portFault l else s1.declareDs l
      else s)

/-- `PORT_FAULT_RESET` (R28, R357): the lane resets as `nRESET_x` would. -/
def execPortFaultReset (l : Lane) (s : State) : Out :=
  .next (if (s.run l).phase == .portFault then
    let t := match (s.run l).sup.suspectAt with
      | some t => t
      | none => s.now
    (s.advTo (t + 100 * us)).resetIsland l .held
  else s)

/-- The class of a code (R352). -/
def classOf : Nat → Option FaultClass
  | 0 => some .la | 1 => some .lb | 2 => some .ds | 3 => some .na | 4 => some .nb | 5 => some .sa | 6 => some .sb
  | _ => none

/-- `DSP_DECLARE` (R337): a lane declares its own network or sensor class; any other class gets the error response. -/
def execDspDeclare (l : Lane) (cls : Fin 8) (s : State) : Out :=
  .next (if !s.alive l then s
    else if !s.depOn then s.accessError l .lnk 0x40150020 true .powerOff
    else match classOf cls with
      | some c =>
        if c = netOf l ∨ c = sensOf l then s.laneDeclare l c else s.accessError l .lnk 0x40150020 true .owner
      | none => s.accessError l .lnk 0x40150020 true .owner)

/-! ## Degraded-timed (R339, R340) -/

/-- The remaining time that the Deputy publishes every 1 ms (R339). -/
def State.degRemain (s : State) : Nat :=
  if s.on .ds R.DSP_DEG_STATUS.RUNNING then ceilDiv (s.dep.degEnd - s.now) ms else 0xFFFFFFFF

/-- `DEGRADED_EXPIRY` (R339): the Deputy imposes a controlled Safe stop. -/
def execDegradedExpiry (s : State) : Out :=
  .next (if s.depOn && s.on .ds R.DSP_DEG_STATUS.RUNNING then
    let s1 := ((s.advTo s.dep.degEnd).clr .ds R.DSP_DEG_STATUS.RUNNING).set .ds R.DSP_DEG_STATUS.EXPIRED
    let s2 := (s1.wr .ds R.DSP_DEG_REMAIN.MS 0xFFFFFFFF).clr .ds R.DSP_STATUS.DEGRADED
    let s3 := if s2.rd .ds R.DSP_SS_STATUS.FORM = 0 then
        (((s2.clr .ds R.DSP_OUTCOME.SINGLE).clr .ds R.DSP_OUTCOME.DEGRADED).set .ds R.DSP_OUTCOME.SS_CONTROLLED).stopControlled
      else s2.syncImposed
    s3.record classNone 10 false 0
  else s)

/-- `LANE_DEGRADED_EXPIRY` (R340): the lane enters the lane form of Safe stop. -/
def execLaneDegradedExpiry (l : Lane) (s : State) : Out :=
  .next (if s.alive l && (s.run l).sup.tim7 && (s.timEnd l 7).isSome then (s.timExpire l 7).laneForm l else s)

/-- `DEG_REMAIN_SAMPLE` (R340), 1 ms after the last: the port keeps the last sample that arrived without an error response. -/
def execDegRemainSample (l : Lane) (s : State) : Out :=
  .next (if s.depOn && s.past l 14 && (s.run l).phase != .portFault then
    let s := s.advTo ((s.run l).sup.sampleAt + ms)
    let s1 := s.wr .ds R.DSP_DEG_REMAIN.MS s.degRemain
    s1.modSup l fun x =>
      { x with
        sampleRemain := s.degRemain, sampleSafe := s.on .ds R.DSP_STATUS.SAFE_STOP
        sampleRun := s.on .ds R.DSP_DEG_STATUS.RUNNING, sampleAt := s.now }
  else s)

/-! ## The Safe stop (R341) -/

/-- Step 2 of R341: every `STO` and contactor output opens. -/
def State.rampOpen (s : State) : State :=
  let s1 := ((s.clr .ds R.DSP_SS_STATUS.RAMP_RUN).set .ds R.DSP_SS_STATUS.OUTPUTS_OPEN).modDep fun d =>
    { d with openedAt := s.now }
  s1.openFuncs [soSto, soContactor]

/-- A write of `DSP_SS_CMD` through a lane's port: with the Deputy absent the window answers with an error (R43). -/
def State.ssCmd (s : State) (l : Lane) (f : State → State) : State :=
  if !s.writable l || (s.run l).phase == .portFault then s
  else if !s.depOn then s.accessError l .hw 0x4015003C true .powerOff
  else f s

/-- `RAMP_DONE` (R341, R352): accepted from the granted lane's port only. -/
def execRampDone (l : Lane) (s : State) : Out :=
  .next (s.ssCmd l fun s =>
    if !s.granted l then s.accessError l .hw 0x4015003C true .owner
    else if s.on .ds R.DSP_SS_STATUS.RAMP_RUN then s.rampOpen else s)

/-- `RAMP_WINDOW_EXPIRY` (R341): `RAMP` + `RAMP_MARGIN` from the cause. -/
def execRampWindowExpiry (s : State) : Out :=
  .next (if s.depOn && s.on .ds R.DSP_SS_STATUS.RAMP_RUN then
    let n := orOne (s.rd .ds R.DSP_SS_CFG.RAMP) + s.rd .ds R.DSP_SS_CFG.RAMP_MARGIN
    let s1 := (s.advTo (s.dep.ssAt + n * 10 * ms)).set .ds R.DSP_SS_STATUS.RAMP_EXPIRED
    s1.rampOpen.record classNone 11 false 0
  else s)

/-- The brake report of a lane. -/
def brakeFld : Lane → Fld
  | .a => R.DSP_SS_STATUS.BRAKE_A
  | .b => R.DSP_SS_STATUS.BRAKE_B

/-- `BRAKE_APPLIED` (R341): a report counts at any time since the Safe stop was imposed. -/
def execBrakeApplied (l : Lane) (s : State) : Out :=
  .next (s.ssCmd l fun s => if s.on .ds R.DSP_STATUS.SAFE_STOP then s.set .ds (brakeFld l) else s)

/-- `BRAKE_WINDOW_EXPIRY` (R341): the clamp command to the die of each lane that is not lost and has not reported. -/
def execBrakeWindowExpiry (s : State) : Out :=
  .next (if s.depOn && s.rd .ds R.DSP_SS_STATUS.FORM == 1 && s.on .ds R.DSP_SS_STATUS.OUTPUTS_OPEN
      && !s.on .ds R.DSP_SS_STATUS.BRAKE_WIN_EXP then
    let s1 := s.advTo (s.dep.openedAt + orOne (s.rd .ds R.DSP_SS_CFG.BRAKE_WIN) * ms)
    let late := (if s1.single then [.a] else lanes).filter fun l => !s1.isLost (lossOf l) && !s1.on .ds (brakeFld l)
    if late.isEmpty then s1
    else
      let s2 := (s1.each late fun s l => (s.clampCmd l).causeOf l 12).set .ds R.DSP_SS_STATUS.BRAKE_WIN_EXP
      s2.each late fun s l => s.record classNone 12 false l.idx
  else s)

end Sys2Proof.Machine
end

