-- ==== Sys2Proof/Machine/HoistOps.lean ====
section
/-!
DEFINITION. Stage faults, training and `HEN` groups of the Hoist links (R234, R236, R239, R240), and the views of the
`HLK` status fields.
-/
namespace Sys2Proof.Machine

/-! ## Frames (R223, R227, R232) -/

/-- The code and the payload of a valid frame (R223): its start field, its length and its CRC are right and no cell has a
violation. `len` gives the length of each frame (R228, R232). -/
def frameBody (len : Nat → Option Nat) (bs : List Nat) (violation : Bool) : Option (Nat × List Nat) :=
  match bs with
  | start :: code :: n :: rest =>
    if !violation && start == 0x7E && len code == some n && rest.length == n + 1
        && crc8 (code :: n :: rest.take n) == rest.getD n 0 then some (code, rest.take n) else none
  | _ => none

/-- The length of a downlink frame's payload (R228). -/
def downLen : Nat → Option Nat
  | 1 => some 4 | 2 => some 4 | 3 => some 1 | 4 => some 0 | 5 => some 0 | 6 => some 0 | _ => none

/-- The length of an uplink frame's payload (R232). -/
def upLen : Nat → Option Nat
  | 0x10 => some 4 | 0x20 => some 2 | 0x30 => some 8 | 0x31 => some 1 | _ => none

/-- The number that bytes spell, least significant first (R223). -/
def bytesNat (bs : List Nat) : Nat := bs.foldr (fun b v => b + 256 * v) 0

/-- The command code of a training step, 2 to 7 of R240, and its payload from the link's registers (R228). -/
def HoistLink.command (k : HoistLink) (step : Nat) : Nat × List Nat :=
  match step with
  | 2 => (1, leBytes k.cfg.sc 4)
  | 3 => (2, leBytes k.cfg.gate 4)
  | 4 => (3, [b2n k.cfg.lossAct + 2 * b2n k.cfg.low])
  | 5 => (4, [])
  | 6 => (5, [])
  | _ => (6, [])

/-- The bytes of a downlink frame from its start field on (R227). -/
def HoistLink.sent (k : HoistLink) (step : Nat) : List Nat :=
  let c := k.command step
  let body := c.1 :: c.2.length :: c.2
  0x7E :: body ++ [crc8 body]

/-- The duration of a downlink frame in 10 ns counts (R227). -/
def HoistLink.sendTime (k : HoistLink) (step : Nat) : Nat := (48 + 8 * (k.command step).2.length) * 10

/-- What arrives of a frame's bytes. -/
def arriveBytes (nz : Noise) (bs : List Nat) : List Nat :=
  bs.zipIdx.map fun x => x.1 ^^^ (nz.flips.getD x.2 0).toNat

/-- A head without activity on its link (R224): its trained link-loss action. -/
def Head.linkLost (h : Head) : Head :=
  { h with
    phase := .loss, armed := none
    on := match h.loss with
      | some (act, lowSide) => act && lowSide && !h.latched
      | none => false }

/-- A valid training frame at a head (R224, R228): it enters `TRAINING` with its gate off and takes the setting. A head in `RUN`
takes the downlink as a gate command and hears no frame. `now` is the end of the frame. -/
def Head.hear (h : Head) (code : Nat) (p : List Nat) (now : Nat) : Head :=
  if h.phase = .run then h
  else
    let t : Head := { h with phase := .training, armed := none, on := false }
    match code with
    | 1 => { t with sc := some (bytesNat p) }
    | 2 => { t with gate := some (bytesNat p) }
    | 3 => { t with loss := some (bit (bytesNat p) 0, bit (bytesNat p) 1) }
    | 6 => { t with armed := some now }
    | _ => t

/-- A frame of training step `step` at the head of its link, when it arrives valid (R223, R228). -/
def HoistLink.deliver (k : HoistLink) (step : Nat) (nz : Noise) (now : Nat) : HoistLink :=
  match frameBody downLen (arriveBytes nz (k.sent step)) nz.violation with
  | some (code, p) => { k with head := k.head.hear code p now }
  | none => k

/-- A valid uplink frame's type and payload (R223, R232). -/
def uplinkBody (f : UplinkFrame) : Option (Nat × List Nat) := frameBody upLen (f.bytes.map BitVec.toNat) f.violation

/-- The links of a lane's view. -/
def allLinks : List (Fin 40) := List.finRange 40

/-- A group holds a latched stage fault. -/
def State.groupLatched (s : State) (g : Nat) : Bool :=
  allLinks.any fun n => (s.link n).cfg.en && (s.link n).cfg.group == g && (s.link n).causes != 0

/-- The causes of `HLK_LAST_FAULT.CAUSE`. -/
def causeSc : Nat := 1
/-- `GATE`. -/
def causeGate : Nat := 2
/-- `STAT_LOSS`. -/
def causeStatLoss : Nat := 3
/-- `HLG`. -/
def causeHlg : Nat := 4
/-- `SUPPLY`. -/
def causeSupply : Nat := 5
/-- `LOSS`. -/
def causeLoss : Nat := 6

/-- A stage fault latched for a link, whatever the grant (R234): both lanes see the link, the cause and its time, and the
group's trip source is active. A link with `EN` clear is not monitored. -/
def State.stageFault (s : State) (n : Fin 40) (cause : Nat) : State :=
  let k := s.link n
  let g := k.cfg.group
  if !k.cfg.en || bit k.causes (cause - 1) then s
  else
    let newGroup := !s.groupLatched g
    let s1 := s.modLink n fun k => { k with causes := setBit k.causes (cause - 1) }
    s1.each lanes fun s l =>
      let d := laneDie l
      if s.alive l then
        let s2 := (((s.wr d R.HLK_LAST_FAULT.LINK n).wr d R.HLK_LAST_FAULT.CAUSE cause).wr d R.HLK_LAST_FAULT_TIME.TIME
          (low 32 (s.laneTime l))).inc d R.HLK_FAULT_CNT.LATCHED
        let s3 := s2.irq l R.HLK_CTRL.FAULT_IRQ_EN
        let s4 := if newGroup then s3.logIf l R.HLK_GRPg_CFG.LOG_EN 234 n g else s3
        s4.tripSource l (40 + g) true
      else s

/-- `HLG_OK` of a link cleared (R231): in run state that is a stage fault. -/
def State.hlgLost (s : State) (n : Fin 40) : State :=
  if (s.link n).hlgOk then
    let s1 := s.modLink n fun k => { k with hlgOk := false, mism := 0 }
    let s2 := s1.each lanes fun s l => s.irq l R.HLK_CTRL.HLG_IRQ_EN
    if (s2.link n).phase = .run then s2.stageFault n causeHlg else s2
  else s

/-- The configuration that a lane's `HLK` registers give a link (R239). -/
def State.linkCfgOf (s : State) (l : Lane) (n : Nat) : HoistCfg :=
  let d := laneDie l
  { en := s.on d R.HLK_LINKnn_CFG.EN n, group := s.rd d R.HLK_LINKnn_CFG.GROUP n, low := s.on d R.HLK_LINKnn_CFG.ROLE n,
    lossAct := s.on d R.HLK_LINKnn_CFG.LOSS_ACT n,
    sc := s.rd d R.HLK_LINKnn_SC.VTH n + s.rd d R.HLK_LINKnn_SC.FILT n * 2 ^ 16 + s.rd d R.HLK_LINKnn_SC.SOFT n * 2 ^ 24,
    gate := s.rd d R.HLK_LINKnn_GATE.VON n + s.rd d R.HLK_LINKnn_GATE.VOFF n * 2 ^ 16 }

/-- The leg map that a lane's `HLK` registers give (R239). -/
def State.legCfgOf (s : State) (l : Lane) (m : Nat) : Option (Nat × Nat × Nat × Nat) :=
  let d := laneDie l
  if s.on d R.HLK_LEGm_CFG.EN m then
    some (s.rd d R.HLK_LEGm_CFG.HI m, s.rd d R.HLK_LEGm_CFG.LO m, s.rd d R.HLK_LEGm_CFG.T_CONF m,
      s.rd d R.HLK_LEGm_CFG.T_WAIT m)
  else none

/-- The lane's registers equal the record of the last training (R239). -/
def State.hlkMatches (s : State) (l : Lane) : Bool :=
  (allLinks.all fun n => decide (s.linkCfgOf l n = (s.link n).cfg))
    && ((List.finRange 20).all fun m => decide (s.legCfgOf l m = s.hoist.legs[m]))
    && ((List.finRange 8).all fun g => s.on (laneDie l) R.HLK_GRPg_CFG.SAFE g == s.hoist.safe[g])

/-- A training begins (R239, R240): the lock, the maps written into the Deputy, the record cleared, every enabled link at
the start of its sequence with its level off. -/
def State.trainBegin (s : State) (l : Lane) : State :=
  let d := laneDie l
  let h := s.hoist
  let links := (List.finRange 40).foldl (fun v (n : Fin 40) =>
    upd v n fun k =>
      let c := s.linkCfgOf l n
      HoistLink.follow { k with
        cfg := c, phase := if c.en then .training 2 false else .static, trained := false, want := false, on := false,
        edgeAt := if k.on then max s.steps (k.edgeAt + 2048) else k.edgeAt, hlgOk := k.hlgOk && c.en,
        withheld := false, attempts := 0, mism := 0, lastStat := s.now, stepAt := s.now }) h.links
  let legs := (List.finRange 20).foldl (fun v (m : Fin 20) => upd v m fun _ => s.legCfgOf l m) h.legs
  let safe := (List.finRange 8).foldl (fun v (g : Fin 8) => upd v g fun _ => s.on d R.HLK_GRPg_CFG.SAFE g) h.safe
  let s1 := { s with hoist := { h with links := links, legs := legs, safe := safe, lock := some l, recordValid := false } }
  (((s1.set d R.HLK_TRAIN_STATUS.BUSY).wr d R.HLK_TRAIN_STATUS.RESULT 0).wr d R.HLK_TRAIN_STATUS.LINK 0).wr d
    R.HLK_TRAIN_STATUS.RESENDS 0

/-- A link is in a step of its training. -/
def HoistLink.inTraining (k : HoistLink) : Bool :=
  match k.phase with
  | .training (_ + 1) _ => true
  | _ => false

/-- The training ends once no link is in a step of it (R240): the record is valid when every enabled link runs. -/
def State.trainEnd (s : State) : State :=
  match s.hoist.lock with
  | none => s
  | some l =>
    if allLinks.any fun n => (s.link n).inTraining then s
    else
      let ok := allLinks.all fun n => !(s.link n).cfg.en || (s.link n).phase == .run
      let s1 := { s with hoist := { s.hoist with lock := none, recordValid := ok, owner := l } }
      (s1.clr (laneDie l) R.HLK_TRAIN_STATUS.BUSY).irq l R.HLK_CTRL.TRAIN_IRQ_EN

/-- A link's training fails (R240): the first failing link and its result show. -/
def State.trainFail (s : State) (n : Fin 40) (result : Nat) : State :=
  let s1 := s.modLink n fun k => { k with phase := .static, hlgOk := false }
  match s1.hoist.lock with
  | none => s1
  | some l =>
    let d := laneDie l
    let s2 := if s1.rd d R.HLK_TRAIN_STATUS.RESULT = 0 then
        (s1.wr d R.HLK_TRAIN_STATUS.RESULT result).wr d R.HLK_TRAIN_STATUS.LINK n
      else s1
    s2.trainEnd

/-- The code of a head's state (`HLK_LINKnn_STATE.HEAD`). -/
def HoistLink.headCode (k : HoistLink) : Nat :=
  if k.cfg.en then
    match k.head.phase with
    | .untrained => 1 | .training => 2 | .run => 3 | .loss => 4
  else 0

/-- The `HLK` fields that show the Deputy's view of the links (R246); none for any other field. -/
def State.hlkView (s : State) (f : Fld) (i : Nat) : Option Nat :=
  if f = R.HLK_STATUS.GROUP_LATCHED then
    some ((List.range 8).map fun g => b2n (s.groupLatched g) * 2 ^ g).sum
  else if f = R.HLK_STATUS.HEN_LEVEL then
    some ((List.finRange 8).map fun g => b2n s.hoist.henHigh[g] * 2 ^ g.val).sum
  else if f = R.HLK_STATUS.LINKS_RUN then
    some (b2n (allLinks.all fun n => !(s.link n).cfg.en || (s.link n).phase == .run))
  else if f = R.HLK_STATUS.OWNER then some s.hoist.owner.idx
  else if f = R.HLK_STATUS.RECORD_VALID then some (b2n s.hoist.recordValid)
  else if f.addr < 0x4008020C ∨ 0x40080210 < f.addr then none
  else
    match linkIdx i with
    | none => none
    | some n =>
      let k := s.link n
      if f = R.HLK_LINKnn_STATE.GATE then some k.code
      else if f = R.HLK_LINKnn_STATE.HEAD then some k.headCode
      else if f = R.HLK_LINKnn_STATE.HLG_OK then some (b2n k.hlgOk)
      else if f = R.HLK_LINKnn_STATE.TRAINED then some (b2n k.stTrained)
      else if f = R.HLK_LINKnn_STATE.LATCHED then some (b2n (k.causes != 0))
      else if f = R.HLK_LINKnn_STATE.CAUSE then some k.causes
      else if f = R.HLK_LINKnn_STATE.OT then some (b2n k.ot)
      else if f = R.HLK_LINKnn_STATE.VCC_OK then some (b2n k.vccOk)
      else if f = R.HLK_LINKnn_STATE.VEE_OK then some (b2n k.veeOk)
      else if f = R.HLK_LINKnn_STATE.SEQ then some (k.seq.getD 0)
      else if f = R.HLK_LINKnn_TEMP.TJ then some (ux 9 k.tj)
      else if f = R.HLK_LINKnn_TEMP.AGE then some (min 65535 ((s.now - k.lastStat) / us))
      else none

end Sys2Proof.Machine
end

