-- ==== Sys2Proof/Machine/Hoist.lean ====
section
/-!
DEFINITION. The meanings of the Hoist-link and drive-head commands (R222 to R240).
-/
namespace Sys2Proof.Machine

/-! ## Training frames (R227 to R229, R240) -/

/-- The frame of a training step sent on a link that stands at that step (R229, R240): no earlier than 1.6 us after the answer
before; before the first one the downlink carries 4.0 us of idle bits, at which a head in `RUN` enters `LOSS`. -/
def State.sendStep (s : State) (n : Fin 40) (step : Nat) (nz : Noise) : State :=
  let k := s.link n
  if k.phase = .training step false then
    let s1 := s.advTo (k.stepAt + (if step = 2 then 4 * us else 160) + k.sendTime step)
    s1.modLink n fun k =>
      let k1 := if step = 2 ∧ k.head.phase = .run then { k with head := k.head.linkLost } else k
      ({ k1 with phase := .training step true, attempts := 1, stepAt := s1.now }).deliver step nz s1.now
  else s

/-- `HOIST_SET_SC` (R228, step 2 of R240). -/
def execHoistSetSc (n : Fin 40) (nz : Noise) (s : State) : Out := .next (s.sendStep n 2 nz)

/-- `HOIST_SET_GATE` (R228, step 3 of R240). -/
def execHoistSetGate (n : Fin 40) (nz : Noise) (s : State) : Out := .next (s.sendStep n 3 nz)

/-- `HOIST_SET_LOSS` (R228, step 4 of R240). -/
def execHoistSetLoss (n : Fin 40) (nz : Noise) (s : State) : Out := .next (s.sendStep n 4 nz)

/-- `HOIST_READ` (R228, step 5 of R240). -/
def execHoistRead (n : Fin 40) (nz : Noise) (s : State) : Out := .next (s.sendStep n 5 nz)

/-- The codes show `ON`, `BETWEEN` and `OFF` in that order, each for at least 800 ns (R231). -/
def patternSeen : List (Fin 3 × Nat) → Bool
  | [] => false
  | x :: xs =>
    (match xs with
      | y :: z :: _ => x.1 == 2 && y.1 == 1 && z.1 == 0 && decide (800 ≤ x.2) && decide (800 ≤ y.2) && decide (800 ≤ z.2)
      | _ => false) || patternSeen xs

/-- `HOIST_HLG_TEST` (R228, R231, step 6 of R240): the frame, then the codes on `HLG_nn`, at most 5.0 us of them; the pattern
sets `HLG_OK`; without it the training of the link ends with result 4. -/
def execHoistHlgTest (n : Fin 40) (nz : Noise) (seen : List (Fin 3 × Nat)) (s : State) : Out :=
  .next (if (s.link n).phase = .training 6 false then
    let s1 := s.sendStep n 6 nz
    let s2 := s1.advTo (s1.now + min (5 * us) ((seen.map fun x => x.2).sum / 10))
    if patternSeen seen then
      s2.modLink n fun k => { k with hlgOk := true, mism := 0, phase := .training 7 false, stepAt := s2.now }
    else s2.trainFail n 4
  else s)

/-- `HOIST_RUN` (R228, step 7 of R240). -/
def execHoistRun (n : Fin 40) (nz : Noise) (s : State) : Out := .next (s.sendStep n 7 nz)

/-- The attempts of a training frame (R229, R240): `SET_SC` every 100 us for 10 ms, the frames of steps 3 to 5 three
times, `RUN` once. -/
def maxAttempts : Nat → Nat
  | 2 => 100
  | 7 => 1
  | _ => 3

/-- `HOIST_ANSWER_TIMEOUT` (R229, R240): the frame is resent 8.0 us after its end, `SET_SC` every 100 us, or the training of the
link ends with result 2. -/
def execHoistAnswerTimeout (n : Fin 40) (nz : Noise) (s : State) : Out :=
  let k := s.link n
  .next (match k.phase with
    | .training step true =>
      if step = 0 ∨ step = 6 then s
      else if k.attempts < maxAttempts step then
        let s1 := s.advTo (k.stepAt + (if step = 2 then 100 * us else 8 * us + k.sendTime step))
        let s2 := s1.modLink n fun k =>
          ({ k with attempts := k.attempts + 1, stepAt := s1.now }).deliver step nz s1.now
        match s2.hoist.lock with
        | some l => if step = 2 then s2 else s2.inc (laneDie l) R.HLK_TRAIN_STATUS.RESENDS
        | none => s2
      else (s.advTo (k.stepAt + 8 * us)).trainFail n 2
    | _ => s)

/-- The training step that an `ACK` of a command code ends (R228, R240). -/
def ackStep : Nat → Option Nat
  | 1 => some 2 | 2 => some 3 | 3 => some 4 | 6 => some 7 | _ => none

/-- A counter of a link on both lanes. -/
def State.linkCount (s : State) (n : Fin 40) (f : Fld) : State := s.each lanes fun s l => s.inc (laneDie l) f n

/-- The Deputy monitors a link's uplink (R246): a link with `EN` clear is not monitored. -/
def State.monitors (s : State) (n : Fin 40) : Bool := s.depOn && (s.link n).cfg.en

/-- The type and the payload of a valid frame on a monitored uplink (R223, R246). -/
def State.uplink (s : State) (n : Fin 40) (f : UplinkFrame) : Option (Nat × List Nat) :=
  if s.monitors n then uplinkBody f else none

/-- A frame that is not valid only counts (R223, R246). -/
def State.uplinkBad (s : State) (n : Fin 40) : State :=
  s.when (s.monitors n) fun s => s.linkCount n R.HLK_LINKnn_CNT.CRC_ERR

/-- An `ACK` of a command code (R240): the step ends; after `RUN` the link is in run state with its level off, or at what holds
its group. -/
def State.acked (s : State) (n : Fin 40) (code : Nat) : State :=
  match ackStep code with
  | none => s
  | some step =>
    if (s.link n).phase = .training step true then
      if step = 7 then
        let s1 := s.modLink n fun k =>
          { k with phase := .run, trained := true, attempts := 0, lastStat := s.now, want := false, withheld := false }
        (if s1.linkFree n then s1 else s1.groupApply (s1.link n).cfg.group).trainEnd
      else s.modLink n fun k => { k with phase := .training (step + 1) false, attempts := 0, stepAt := s.now }
    else s

/-- `HOIST_ACK` (R232, R240). -/
def execHoistAck (n : Fin 40) (f : UplinkFrame) (s : State) : Out :=
  .next (match s.uplink n f with
    | some (ty, p) => if ty = 0x31 then s.acked n (p.getD 0 0) else s
    | none => s.uplinkBad n)

/-- `HOIST_ECHO` (R232, step 5 of R240): a difference from the link's registers ends the training of the link with result 3. The
spec gives `STATUS` no field that shows `SET_LOSS`, so whether it agrees is an operand (DESIGN CHOICE, log entry 48). -/
def execHoistEcho (n : Fin 40) (f : UplinkFrame) (statusOk : Bool) (s : State) : Out :=
  .next (match s.uplink n f with
    | some (ty, p) =>
      if ty = 0x30 ∧ (s.link n).phase = .training 5 true then
        if bytesNat (p.take 4) = (s.link n).cfg.sc ∧ bytesNat (p.drop 4) = (s.link n).cfg.gate ∧ statusOk then
          s.modLink n fun k => { k with phase := .training 6 false, attempts := 0, stepAt := s.now }
        else s.trainFail n 3
      else s
    | none => s.uplinkBad n)

/-- The Deputy holds a link in run state. -/
def HoistLink.inRun (k : HoistLink) : Bool := k.phase == .run

/-- The stage faults that a `STATUS` shows (R234). -/
def State.statusFaults (s : State) (n : Fin 40) (flags : Nat) : State :=
  let run := (s.link n).inRun
  let s1 := s.when (bit flags 5) fun s => s.stageFault n causeSc
  let s2 := s1.when (bit flags 6) fun s => s.stageFault n causeGate
  let s3 := s2.when (run && !(bit flags 0 && bit flags 1)) fun s => s.stageFault n causeSupply
  s3.when (run && (bit flags 4 || !bit flags 3)) fun s => s.stageFault n causeLoss

/-- The code that was decoded at an instant, and whether it was steady for 200 ns before and after it (R231). -/
def HoistLink.codeThen (k : HoistLink) (t : Nat) : Nat × Bool :=
  (match k.codes.find? fun x => decide (x.1 ≤ t) with
    | some x => x.2
    | none => 0,
   !(k.codes.any fun x => decide (t < x.1 + 20) && decide (x.1 < t + 20)))

/-- The comparison of a `STATUS` with the code decoded as its start field arrived, 56 bits before its end (R231, R232): two
consecutive differences clear `HLG_OK`. -/
def State.statusGate (s : State) (n : Fin 40) (gate : Nat) : State :=
  let c := (s.link n).codeThen (s.now - 224)
  if c.2 then
    if c.1 = gate then s.modLink n fun k => { k with mism := 0 }
    else if 1 ≤ (s.link n).mism then s.hlgLost n
    else s.modLink n fun k => { k with mism := 1 }
  else s

/-- A valid `STATUS` (R231 to R234): temperature, flags, gate state and sequence number. -/
def State.statusFrame (s : State) (n : Fin 40) (temp flags gs : Nat) : State :=
  let seq := gs / 16 % 16
  let gap := match (s.link n).seq with
    | some q => (q + 1) % 16 != seq
    | none => false
  let s1 := s.when gap fun s => s.linkCount n R.HLK_LINKnn_CNT.LOST
  let s2 := s1.modLink n fun k =>
    { k with seq := some seq, lastStat := s.now, tj := (temp : Int) - 55, vccOk := bit flags 0,
             veeOk := bit flags 1, stTrained := bit flags 2, ot := bit flags 7 }
  (s2.statusFaults n flags).statusGate n (gs % 4)

/-- `HOIST_STATUS` (R231 to R234). -/
def execHoistStatus (n : Fin 40) (f : UplinkFrame) (s : State) : Out :=
  .next (match s.uplink n f with
    | some (ty, p) => if ty = 0x10 then s.statusFrame n (p.getD 0 0) (p.getD 1 0) (p.getD 2 0) else s
    | none => s.uplinkBad n)

/-- `HOIST_FAULT` (R232, R234): code 1 is a short circuit, 2 and 3 gate faults. -/
def execHoistFault (n : Fin 40) (f : UplinkFrame) (s : State) : Out :=
  .next (match s.uplink n f with
    | some (ty, p) =>
      if ty = 0x20 then
        (match p.getD 0 0 with
          | 1 => s.stageFault n causeSc
          | 2 => s.stageFault n causeGate
          | 3 => s.stageFault n causeGate
          | _ => s)
      else s
    | none => s.uplinkBad n)

/-- `HOIST_STAT_LOSS` (R234): in run or training state. -/
def execHoistStatLoss (n : Fin 40) (s : State) : Out :=
  .next (if s.depOn && (s.link n).phase != .static then
    (s.advTo ((s.link n).lastStat + 10 * us)).stageFault n causeStatLoss
  else s)

/-- A tick on one link, put off to 40 ns after a gate edge (R225): a head that has taken `RUN` at most 2 us before enters `RUN`
(R224). -/
def HoistLink.tick (k : HoistLink) (x : Int) : HoistLink :=
  let y := max x (k.edgeAt + 4096)
  let k1 := { k with tickAt := y }
  match k.head.armed with
  | some t =>
    if k.head.phase = .training ∧ y ≤ ((t + 2 * us : Nat) : Int) * 1024 then
      HoistLink.follow { k1 with head := { k.head with phase := .run, armed := none } }
    else k1
  | none => k1

/-- `HOIST_TICK` (R224, R225). -/
def execHoistTick (s : State) : Out :=
  .next (if s.depOn then
    s.each allLinks fun s n =>
      let k := s.link n
      if k.phase == .run || k.phase == .training 7 true then s.modLink n fun k => k.tick s.steps else s
  else s)

/-- `HEAD_LINK_LOSS` (R224): the trained link-loss action, in `RUN` no earlier than 1.8 us after the last level change or
tick; a head in training that has no `SET_LOSS` returns to `UNTRAINED`. -/
def execHeadLinkLoss (n : Fin 40) (s : State) : Out :=
  let k := s.link n
  .next (match k.head.phase with
    | .run => (s.advSteps (max k.edgeAt k.tickAt + 184320)).modLink n fun k => { k with head := k.head.linkLost }
    | .training => s.modLink n fun k =>
      { k with head := if k.head.loss.isSome then k.head.linkLost
                       else { k.head with phase := .untrained, armed := none, on := false } }
    | _ => s)

/-- `HEAD_SHORT_CIRCUIT` (R224, R235): while its gate is on, a voltage above the trained `VTH` for the trained `FILT` x 10 ns
makes the head turn off softly and latch. -/
def execHeadShortCircuit (n : Fin 40) (mv ns : Nat) (s : State) : Out :=
  let h := (s.link n).head
  .next (match h.sc with
    | some w =>
      if h.phase = .run ∧ h.on ∧ bits w 15 0 < mv ∧ 10 * bits w 23 16 ≤ ns then
        s.modLink n fun k => { k with head := { k.head with latched := true, on := false } }
      else s
    | none => s)

/-- `HEAD_GATE_SUPPLY_LOSS` (R224): gate off, trained settings discarded, `UNTRAINED`. -/
def execHeadGateSupplyLoss (n : Fin 40) (s : State) : Out := .next (s.modLink n fun k => { k with head := Head.init })

/-- Whether an interval counts as 30 ns at the gate-state filter, which is accurate to 5 ns (R231): between 25 and 35 ns either
may hold (`Config.freeChoice`). -/
def State.thirty (s : State) (ns : Nat) : Bool × State :=
  if ns < 25 then (false, s)
  else if 35 ≤ ns then (true, s)
  else (Config.freeChoice s.freeIdx, { s with freeIdx := s.freeIdx + 1 })

/-- A newly decoded code (R231). -/
def State.newCode (s : State) (n : Fin 40) (code : Nat) : State :=
  if (s.link n).code = code then s
  else s.modLink n fun k => { k with code := code, codeAt := s.now, codes := (s.now, code) :: k.codes.take 15 }

/-- `HLG_CODE_CHANGE` (R231): `ON` or `OFF` once the pair has been high or low for 30 ns, `BETWEEN` at two edges less than 30 ns
apart. -/
def execHlgCodeChange (n : Fin 40) (high : Bool) (held gap : Nat) (s : State) : Out :=
  .next (if s.depOn then
    let a := s.thirty held
    if a.1 then a.2.newCode n (if high then 2 else 0)
    else
      let b := a.2.thirty gap
      if b.1 then b.2 else b.2.newCode n 1
  else s)

/-- A turn-on of a link that waits for its confirmation (R237). -/
def HoistLink.waiting (k : HoistLink) : Bool := k.want && !k.on && !k.withheld && k.inRun

/-- `LEG_TURN_ON_RELEASE` (R237): the edge passes once the lane's command has reached the turn-on and the partner has been
confirmed off for `T_CONF`, within `T_WAIT`; a link in no leg has only its dead time to wait for (R207). -/
def execLegTurnOnRelease (n : Fin 40) (s : State) : Out :=
  let k := s.link n
  .next (match s.legOf n with
    | none => if k.waiting then (s.advSteps k.wantAt).setDown n true else s
    | some g =>
      let p := s.link g.partner
      let t := max k.wantAt (s.confirmAt g)
      if k.waiting && p.code == 0 && p.hlgOk && decide (t ≤ k.wantAt + 2048 * (g.tWait : Int)) then
        (s.advSteps t).setDown n true
      else s)

/-- The withheld turn-on of a link reported to the granted lane's PWM (R210, R237). -/
def State.reportWithheld (s : State) (l : Lane) (code : Nat) : State :=
  s.each allCh fun s c =>
    if s.on (laneDie l) R.PWM_CHc_CFG.EN c && (s.dsts l c).contains code then
      let s1 := s.set (laneDie l) R.PWM_CHc_STATUS.WITHHELD c
      if s1.engineDriven l c then s1.report l c .withheld s.steps else s1
    else s

/-- `LEG_TURN_ON_WITHHOLD` (R237, R238): the link stays off until its command goes off and on again; the event is counted
and reported. -/
def execLegTurnOnWithhold (n : Fin 40) (s : State) : Out :=
  let k := s.link n
  .next (match s.legOf n with
    | none => s
    | some g =>
      let t := k.wantAt + 2048 * (g.tWait : Int)
      if k.waiting && !s.confirmed g t then
        let s1 := ((s.advSteps t).modLink n fun k => { k with withheld := true }).linkCount n R.HLK_LINKnn_CNT.WITHHELD
        match s1.holder with
        | some l => s1.reportWithheld l (n.val + 1)
        | none => s1
      else s)

/-! ## The HEN inputs (R236) -/

/-- `HEN_LOW` (R236): 200 ns act, less than 100 ns do not, between them either may hold (`Config.freeChoice`). -/
def execHenLow (g : Fin 8) (ns : Nat) (s : State) : Out :=
  let acts := decide (200 ≤ ns) || (decide (100 ≤ ns) && Config.freeChoice s.freeIdx)
  let s0 := if 100 ≤ ns ∧ ns < 200 then { s with freeIdx := s.freeIdx + 1 } else s
  .next (if s.depOn then
    let s1 := { s0 with hoist := { s0.hoist with henHigh := upd s0.hoist.henHigh g fun _ => false } }
    if acts then
      ({ s1 with hoist := { s1.hoist with henActs := upd s1.hoist.henActs g fun _ => true } }).groupSafe g
    else s1
  else { s with hoist := { s.hoist with henHigh := upd s.hoist.henHigh g fun _ => false } })

/-- Every latched stage fault of a group cleared, and the clear code at its heads (R236): a head whose condition persists
keeps its latch; a lost `HLG_OK` latches again. -/
def State.clearGroup (s : State) (g : Fin 8) (persist : List (Fin 40)) : State :=
  let ns := allLinks.filter fun n => (s.link n).cfg.en && (s.link n).cfg.group == g.val
  let s1 := s.each ns fun s n => s.modLink n fun k =>
    HoistLink.follow { k with causes := 0, head := { k.head with latched := k.head.latched && persist.contains n } }
  let s2 := s1.each lanes fun s l =>
    if s.alive l then (s.inc (laneDie l) R.HLK_FAULT_CNT.CLEARS).tripSource l (40 + g.val) false else s
  s2.each ns fun s n =>
    if (s.link n).inRun && !(s.link n).hlgOk then s.stageFault n causeHlg else s

/-- `HEN_RELEASE` (R236): the links follow the granted lane again; after 10 us low the group's latches are cleared. -/
def execHenRelease (g : Fin 8) (ns : Nat) (persist : List (Fin 40)) (s : State) : Out :=
  .next (if s.depOn then
    let s1 := { s with hoist := { s.hoist with
      henHigh := upd s.hoist.henHigh g fun _ => true, henActs := upd s.hoist.henActs g fun _ => false } }
    let s2 := if 10000 ≤ ns then s1.clearGroup g persist else s1
    if s.hoist.henActs[g] then s2.groupApply g else s2
  else { s with hoist := { s.hoist with henHigh := upd s.hoist.henHigh g fun _ => true } })

/-! ## Training (R239, R240) -/

/-- `HLK_TRAIN_START` (R239): only in Service, with no grant held and the lock not with the other lane; otherwise
result 1. -/
def execHlkTrainStart (l : Lane) (s : State) : Out :=
  .next (if s.alive l then
    if s.depOn && s.modeOf l == modeService && s.holder.isNone && s.hoist.lock != some l.other
        && s.rd .ds R.DSP_GRANT.STATE != grantHold then
      s.trainBegin l
    else s.wr (laneDie l) R.HLK_TRAIN_STATUS.RESULT 1
  else s)

/-- `HLK_TRAIN_ABORT` (R240): unfinished links stay in `TRAINING` with the gate off. -/
def execHlkTrainAbort (l : Lane) (s : State) : Out :=
  .next (if s.hoist.lock = some l then
    let s1 := s.each allLinks fun s n =>
      if (s.link n).inTraining then s.modLink n fun k => { k with phase := .training 0 false } else s
    (s1.wr (laneDie l) R.HLK_TRAIN_STATUS.RESULT 6).trainEnd
  else s)

end Sys2Proof.Machine
end

