-- ==== Sys2Proof/Machine/Pd.lean ====
section
/-!
DEFINITION. The meanings of the pre-driver commands (R241 to R244).
-/
namespace Sys2Proof.Machine

/-- The destination code of a pre-driver gate (R200). -/
def pdCode (n : Fin 16) (hi : Bool) : Nat := (if hi then 0x40 else 0x50) + n.val

/-- The on-threshold of a half-bridge in 0.1 V (R247). -/
def State.pdVon (s : State) (l : Lane) (n : Fin 16) : Nat := 40 + 5 * s.rd (papDie l) R.PAP_HBn_CFG.VON n

/-- A gate voltage in 0.1 V lies at or below the off-threshold of 0.5 V + 0.25 V x `VOFF` (R247). -/
def State.pdBelow (s : State) (l : Lane) (n : Fin 16) (v : Nat) : Bool :=
  decide (2 * v ≤ 10 + 5 * s.rd (papDie l) R.PAP_HBn_CFG.VOFF n)

/-- The register that shows the voltage of a gate (R247). -/
def vgFld (hi : Bool) : Fld := if hi then R.PAP_HBn_MEAS.VGH else R.PAP_HBn_MEAS.VGL

/-- `PD_GATE_ERROR` (R241): a gate commanded on that has not passed `VON` within `T_WAIT`; it stays commanded, nothing
latches. -/
def execPdGateError (l : Lane) (n : Fin 16) (hi : Bool) (v : BitVec 8) (s : State) : Out :=
  let d := papDie l
  let h := s.hb l n
  .next (if (s.pap l).powered && (if hi then h.gateHi else h.gateLo) && decide (v.toNat < s.pdVon l n) then
    let s := (s.advTo (h.edgeAt.getD s.now + orOne (s.rd d R.PAP_HBn_CFG.T_WAIT n))).wr d (vgFld hi) v.toNat n
    (((s.set d R.PAP_HBn_STATUS.GATE_ERR n).inc d R.PAP_HBn_CNT.GATE_ERR n).clr d
      (if hi then R.PAP_HBn_STATUS.GH_ON else R.PAP_HBn_STATUS.GL_ON) n).irqOf l d R.PAP_PD_CTRL.WARN_IRQ_EN
  else s)

/-- A turn-on of a gate that waits for its confirmation. -/
def HalfBridge.waits (h : HalfBridge) (hi : Bool) : Bool :=
  if hi then h.wantHi && !h.gateHi && !h.withHi else h.wantLo && !h.gateLo && !h.withLo

/-- `PD_TURN_ON_WITHHOLD` (R241, R243): the turn-on is withheld until the next command, counted and reported; a refresh
pulse whose confirmation fails ends with both gates off. -/
def execPdTurnOnWithhold (l : Lane) (n : Fin 16) (hi : Bool) (s : State) : Out :=
  let d := papDie l
  let h := s.hb l n
  .next (if (s.pap l).powered then
    if h.refresh ≠ 0 then
      (((s.pdOff l n true).pdOff l n false).modHb l n fun h =>
        { h with refresh := 0, withHi := h.wantHi, withLo := h.wantLo }).inc d R.PAP_HBn_CNT.REFRESH_SKIP n
    else if h.waits hi then
      let t := (if hi then h.hiAt else h.loAt) + 1024 * (orOne (s.rd d R.PAP_HBn_CFG.T_WAIT n) : Int)
      (((s.advSteps t).modHb l n fun h => if hi then { h with withHi := true } else { h with withLo := true }).inc d
        R.PAP_HBn_CNT.WITHHELD n).reportWithheld l (pdCode n hi)
    else s
  else s)

/-- The turn-on that waits for a confirmed gate (R241, R243). In a refresh pulse GL turns on for 250 ns after GH is confirmed
off, and GH returns after GL is. A turn-on acts once its dead time has passed, within `T_WAIT` (R207). -/
def State.pdRelease (s : State) (l : Lane) (n : Fin 16) (hi : Bool) : State :=
  let h := s.hb l n
  if h.refresh = 1 ∧ hi = false then
    (((s.pdOn l n false).advTo (s.now + 25)).pdOff l n false).modHb l n fun h => { h with refresh := 2, offHi := true }
  else if h.refresh = 2 ∧ hi = true then
    let s1 := s.modHb l n fun h => { h with refresh := 0, offLo := true }
    let s2 := if h.wantHi then s1.pdOn l n true else s1
    if h.wantLo && !h.wantHi then s2.pdOn l n false else s2
  else if h.refresh = 0 ∧ h.waits hi then
    let t := if hi then h.hiAt else h.loAt
    if (if hi then h.gateLo else h.gateHi) || decide (t + 1024 * (orOne (s.rd (papDie l) R.PAP_HBn_CFG.T_WAIT n) : Int) < s.steps)
    then s
    else ((s.modHb l n fun h => if hi then { h with offLo := true } else { h with offHi := true }).advSteps t).pdOn l n hi
  else s

/-- `PD_TURN_ON_RELEASE` (R241, R243): the measured voltage of the opposite gate has lain below `VOFF` for `T_CONF`, so the
pending gate turns on. -/
def execPdTurnOnRelease (l : Lane) (n : Fin 16) (hi : Bool) (v : BitVec 8) (held : Nat) (s : State) : Out :=
  let d := papDie l
  .next (if s.pdOpen l then
    let s1 := s.wr d (vgFld !hi) v.toNat n
    if s.pdBelow l n v.toNat && decide (s.rd d R.PAP_HBn_CFG.T_CONF n ≤ held) then s1.pdRelease l n hi else s1
  else s)

/-- `BST_UNDERVOLTAGE` (R243): GH off, `BST_UV` latched, in both modes. -/
def execBstUndervoltage (l : Lane) (n : Fin 16) (bst : BitVec 8) (s : State) : Out :=
  let d := papDie l
  .next (if (s.pap l).powered && s.on d R.PAP_HBn_CFG.EN n && decide (bst.toNat < 70) then
    let s1 := (s.wr d R.PAP_HBn_MEAS.BST bst.toNat n).set d R.PAP_HBn_STATUS.BST_LOW n
    let s2 := (s1.pdOff l n true).modHb l n fun h => { h with refresh := 0, withHi := h.wantHi }
    (s2.set d R.PAP_HBn_STATUS.BST_UV n).pdFault l n
  else s)

/-- `BOOTSTRAP_LOW` (R243): `BST_LOW` follows the 8.0 V level; in hold mode a low bootstrap sets `BST_WARN`. -/
def execBootstrapLow (l : Lane) (n : Fin 16) (bst : BitVec 8) (s : State) : Out :=
  let d := papDie l
  .next (if (s.pap l).powered && s.on d R.PAP_HBn_CFG.EN n then
    let isLow := decide (bst.toNat < 80)
    let s1 := (s.wr d R.PAP_HBn_MEAS.BST bst.toNat n).put d R.PAP_HBn_STATUS.BST_LOW isLow n
    if isLow && !s1.on d R.PAP_HBn_CFG.MODE n then
      (s1.set d R.PAP_HBn_STATUS.BST_WARN n).irqOf l d R.PAP_PD_CTRL.WARN_IRQ_EN
    else s1
  else s)

/-- The latches of a half-bridge are clear: its fault bit and trip source 48 + n clear (R244). -/
def State.pdCleared (s : State) (l : Lane) (n : Fin 16) : State :=
  let d := papDie l
  if s.on d R.PAP_HBn_STATUS.SHORT n || s.on d R.PAP_HBn_STATUS.BST_UV n then s
  else (s.wrBit d R.PAP_PD_STATUS.FAULT n false).tripSource l (48 + n.val) false

/-- A write of 1 to the latches of a half-bridge (R244): `BST_UV` stays while the bootstrap is below 8.0 V, `SHORT` at its
fourth clear within 1 s; each refusal sets `CLR_REFUSED`. -/
def State.pdClear (s : State) (l : Lane) (n : Fin 16) (short uv : Bool) : State :=
  let d := papDie l
  let recent := (s.hb l n).clears.filter fun t => s.now < t + sec
  let s1 := if short && s.on d R.PAP_HBn_STATUS.SHORT n then
      if 3 ≤ recent.length then s.set d R.PAP_HBn_STATUS.CLR_REFUSED n
      else (s.clr d R.PAP_HBn_STATUS.SHORT n).modHb l n fun h => { h with clears := s.now :: recent }
    else s
  let s2 := if uv && s1.on d R.PAP_HBn_STATUS.BST_UV n then
      if s1.on d R.PAP_HBn_STATUS.BST_LOW n then s1.set d R.PAP_HBn_STATUS.CLR_REFUSED n
      else s1.clr d R.PAP_HBn_STATUS.BST_UV n
    else s1
  s2.pdCleared l n

/-- `PD_FAULT_CLEAR` (R244). -/
def execPdFaultClear (l : Lane) (n : Fin 16) (short uv : Bool) (s : State) : Out :=
  .next (if (s.pap l).powered && s.alive l then s.pdClear l n short uv else s)

end Sys2Proof.Machine
end

