-- ==== Sys2Proof/Machine/Pwm.lean ====
section
/-!
DEFINITION. The meanings of the PWM commands (chapter 08).
-/
namespace Sys2Proof.Machine

/-- A refresh pulse begins on every half-bridge whose GH the channels of a timebase drive, when its bootstrap is low, it
is in refresh mode and GH is on (R243): GH goes off and GL waits for its confirmation. -/
def State.refreshPulses (s : State) (l : Lane) (t : Fin 8) : State :=
  s.each allCh fun s c =>
    let code := s.rd (laneDie l) R.PWM_CHc_DST.DST_H c
    let n := hbIdx code
    if s.on (laneDie l) R.PWM_CHc_CFG.EN c && s.tbOf l c == t && decide (0x40 ≤ code) && decide (code ≤ 0x4F)
        && s.on (papDie l) R.PAP_HBn_CFG.EN n && s.on (papDie l) R.PAP_HBn_CFG.MODE n
        && s.on (papDie l) R.PAP_HBn_STATUS.BST_LOW n && (s.hb l n).gateHi && (s.hb l n).refresh == 0 then
      ((s.pdOff l n true).modHb l n fun h => { h with refresh := 1 }).inc (papDie l) R.PAP_HBn_CNT.REFRESH n
    else s

/-- The releases of R213 at a transfer point: each channel of the timebase whose group releases cycle by cycle and has
no active source. -/
def State.releasePoint (s : State) (l : Lane) (t : Fin 8) : State :=
  let s1 := s.each allCh fun s c =>
    let g := s.tgOf l c
    s.when (s.on (laneDie l) R.PWM_CHc_STATUS.TRIPPED c && s.tbOf l c == t
      && !s.rdBit (laneDie l) R.PWM_TG_LATCHED.LATCHED g && !s.groupSourced l g) fun s => s.releaseCh l c
  s1.each (List.range 16) fun s g => s.settleTg l g

/-- The transfer point of a running timebase at instant `x`: the table of R204, where a timebase that a mode change holds
transfers nothing until the first point after step 4 (R86, R87), then the releases, the events of the
coming period, the report to the multiplexer and the refresh pulses. The point is the event "reload" (R198). -/
def State.transferPoint (s : State) (l : Lane) (t : Fin 8) (x : Int) : State :=
  let d := laneDie l
  let peak := (s.tb l t).nextPeak
  let both := (s.reloadAt l t).1 && (s.reloadAt l t).2
  let past := decide ((s.modeEng.holdEnd : Int) * 1024 ≤ x)
  let sa := (((s.fireDue l t x).advSteps x).modTb l t fun p => p.arrive x).event l (.reload t.val)
  let s0 := sa.when past fun s => s.clr d R.PWM_TBt_STATUS.MODE_HOLD t
  let held := s0.on d R.PWM_TBt_STATUS.MODE_HOLD t
  let commit := s0.on d R.PWM_TBt_STATUS.COMMIT_PEND t && !held
  let torn := s0.on d R.PWM_TBt_STATUS.DIRTY t && !commit && !held
  let s1 := s0.when (!(peak && both)) fun s => s.each allCh fun s c => s.mirrorCh l t x c
  let s2 := s1.when commit fun s => s.transferSet l t
  let s3 := s2.when torn fun s =>
    ((s.set d R.PWM_TBt_STATUS.TORN t).inc d R.PWM_TBt_CNT.TORN t).irq l R.PWM_CTRL.TORN_IRQ_EN
  let s4 := s3.releasePoint l t
  let s5 := (s4.nextPoint l t x).each allCh fun s c => s.placeCh l t peak x c
  let s6 := (s5.planEvents l t x true).irq l R.PWM_TBt_CFG.IRQ_EN t
  (s6.muxReport l t).refreshPulses l t

/-- `PWM_TRANSFER_POINT` (R198, R204, R206, R213, R217, R243). -/
def execPwmTransferPoint (l : Lane) (t : Fin 8) (s : State) : Out :=
  .next (match (s.tb l t).next with
    | some x => if s.on (laneDie l) R.PWM_TBt_STATUS.RUN t then s.transferPoint l t x else s
    | none => s)

/-- `PWM_COMMIT` (R204). -/
def execPwmCommit (l : Lane) (t : Fin 8) (s : State) : Out :=
  .next (if s.alive l then s.set (laneDie l) R.PWM_TBt_STATUS.COMMIT_PEND t else s)

/-- `PWM_DISCARD` (R205): the active set returns to the shadows. -/
def execPwmDiscard (l : Lane) (t : Fin 8) (s : State) : Out :=
  .next (if s.alive l then
    let d := laneDie l
    let s1 := (s.wr d R.PWM_TBt_PERIOD.P (s.tb l t).p t).wr d R.PWM_TBt_PHASE.PHASE (s.tb l t).phase t
    let s2 := s1.each allCh fun s c =>
      if s.tbOf l c == t then
        (s.wr d R.PWM_CHc_ON.ON (s.ch l c).on c).wr d R.PWM_CHc_OFF.OFF (s.ch l c).off c
      else s
    (s2.clr d R.PWM_TBt_STATUS.DIRTY t).clr d R.PWM_TBt_STATUS.COMMIT_PEND t
  else s)

/-- The timebase's `SYNC` names an event: codes 18 to 31 and its own reload act as none (R199). -/
def State.syncs (s : State) (l : Lane) (t : Fin 8) : Bool :=
  let v := s.rd (laneDie l) R.PWM_TBt_CFG.SYNC t
  v != 0 && decide (v < 18) && v != 2 + t.val

/-- The phase that a sync event loads: the transferred phase, or the slot's output under `PHASE_SLOT_EN` (R199). -/
def State.syncPhase (s : State) (l : Lane) (t : Fin 8) : Nat × State :=
  let d := laneDie l
  if s.on d R.PWM_TBt_CFG.PHASE_SLOT_EN t then
    let y := clampI 0 (2 ^ 30 - 1) (s.rdS d R.CE_Ai_OUT.Y (s.rd d R.PWM_TBt_CFG.PHASE_SLOT t))
    let pr1 := s.roundQ (y * ((s.tb l t).p : Int) * 512) (2 ^ 30)
    let v := pr1.1
    let s1 := pr1.2
    (v.toNat, s1)
  else ((s.tb l t).phase, s)

/-- The count that the coarse part of a phase loads (R199). The spec states none for a phase beyond the period: it is taken
modulo the period counting up and at most the peak up-down (DESIGN CHOICE, log entry 47). -/
def PwmTb.coarse (p : PwmTb) (ph : Nat) : Nat := if p.updown then min (ph / 512) p.p else ph / 512 % max 1 p.p

/-- A sync event loads the counter, on its rising slope, and the phase; `SYNC_JUMP` where the load moves the counter away from
its value (R199). The spec names no slope for an up-down counter: the load starts the rising one (DESIGN CHOICE, log entry
47). -/
def State.syncLoad (s : State) (l : Lane) (t : Fin 8) : State :=
  let pr2 := s.syncPhase l t
  let ph := pr2.1
  let s1 := pr2.2
  let b := s1.tb l t
  let was := b.pos s1.steps
  let want := b.coarse ph
  let s2 := s1.modTb l t fun p => { p with used := ph }
  if was = want ∧ b.falling s1.steps = false then
    (if b.used % 512 = ph % 512 then s2 else s2.replaceTb l t)
  else (s2.loadTb l t want false).when (was != want) fun s => s.set (laneDie l) R.PWM_TBt_STATUS.SYNC_JUMP t

/-- `PWM_SYNC_LOAD` (R199): a sync event on its way reaches its timebase. -/
def execPwmSyncLoad (l : Lane) (t : Fin 8) (s : State) : Out :=
  .next (if s.on (laneDie l) R.PWM_TBt_STATUS.RUN t && s.syncs l t && decide (0 < (s.tb l t).sent) then
    (s.modTb l t fun p => { p with sent := p.sent - 1 }).syncLoad l t
  else s)

/-- A compare event at its instant `x` (R203, R207 to R209, R212): suppressed while the channel's group is active; no
edge when the level is there already; delayed to the minimum pulse after the last edge. A suppressed turn-on's partner is left
alone. -/
def State.compareEvent (s : State) (l : Lane) (c : Fin 64) (lv : Bool) (x : Int) : State :=
  let s1 := s.advSteps x
  let k := s1.ch l c
  if s1.on (laneDie l) R.PWM_CHc_STATUS.TRIPPED c || (k.level == lv && !k.released) then s1
  else
    match (if lv then s1.simultaneous l c x else none) with
    | some p => s1.overlap l c p
    | none =>
      let m := s1.minp l c
      match k.lastEdge with
      | some y => if x - y < m then (s1.filtered l c).issue l c lv (y + m) else s1.issue l c lv x
      | none => s1.issue l c lv x

/-- `PWM_COMPARE_EVENT` (R203): the next event to the level, one carried past a transfer point first. -/
def execPwmCompareEvent (l : Lane) (c : Fin 64) (on : Bool) (s : State) : Out :=
  let k := s.ch l c
  .next (if s.on (laneDie l) R.PWM_CHc_CFG.EN c && !s.engineDriven l c && k.started then
    match k.late.find? fun e => e.2 == on with
    | some e => (s.modCh l c fun k => { k with late := k.late.erase e }).compareEvent l c on e.1
    | none =>
      match (if on then k.onAt else k.offAt) with
      | some x =>
        (s.modCh l c fun k => if on then { k with onAt := none } else { k with offAt := none }).compareEvent l c on x
      | none => s
  else s)

/-- A committed engine edge at its instant `x` (R208 to R210, R212): dropped while tripped or on an overlap; within the
minimum pulse dropped or stretched; issued otherwise. Each is reported to the band slot. -/
def State.engineEdge (s : State) (l : Lane) (c : Fin 64) (x : Int) (lv : Bool) : State :=
  let d := laneDie l
  let s1 := s.advSteps x
  if s1.on d R.PWM_CHc_STATUS.TRIPPED c || !(s1.ch l c).started then s1.report l c .dropped x
  else
    match (if lv then s1.simultaneous l c x else none) with
    | some p => s1.overlap l c p
    | none =>
      let m := s1.minp l c
      match (s1.ch l c).lastEdge with
      | some y =>
        if x - y < m then
          if s1.on d R.PWM_CHc_FILT.STRETCH c then
            ((s1.filtered l c).issue l c lv (y + m)).report l c .issued (y + m)
          else (s1.filtered l c).report l c .dropped x
        else (s1.issue l c lv x).report l c .issued x
      | none => (s1.issue l c lv x).report l c .issued x

/-- `PWM_ENGINE_EDGE` (R210). -/
def execPwmEngineEdge (l : Lane) (c : Fin 64) (s : State) : Out :=
  .next (if s.on (laneDie l) R.PWM_CHc_CFG.EN c && s.engineDriven l c then
    match (s.ch l c).eng with
    | some (x, lv) => (s.modCh l c fun k => { k with eng := none }).engineEdge l c x lv
    | none => s
  else s)

/-- `PWM_CHANNEL_ENABLE` (R202). -/
def execPwmChannelEnable (l : Lane) (c : Fin 64) (en : Bool) (s : State) : Out :=
  .next (if s.alive l && s.on (laneDie l) R.PWM_CHc_CFG.EN c != en then s.enableCh l c en else s)

/-- `TRIP_SOURCE_ACTIVE` (R211, R212, R215). -/
def execTripSourceActive (l : Lane) (src : Fin 64) (s : State) : Out := .next (s.tripSource l src true)

/-- `TRIP_SOURCE_INACTIVE` (R211). -/
def execTripSourceInactive (l : Lane) (src : Fin 64) (s : State) : Out := .next (s.tripSource l src false)

/-- `PWM_TG_FORCE` (R211, R213). -/
def execPwmTgForce (l : Lane) (groups : BitVec 16) (s : State) : Out :=
  .next (if s.past l 11 then
    s.each (List.range 16) fun s g => s.when (bit groups.toNat g) fun s => s.raiseTg l g true
  else s)

/-- `PWM_TG_CLEAR` (R213): a latched group whose sources are inactive is cleared, a clear that finds one active is
refused. -/
def execPwmTgClear (l : Lane) (groups : BitVec 16) (s : State) : Out :=
  .next (if s.past l 11 then
    s.each (List.range 16) fun s g =>
      if bit groups.toNat g && s.rdBit (laneDie l) R.PWM_TG_LATCHED.LATCHED g then
        if s.groupSourced l g then s.set (laneDie l) R.PWM_STATUS.CLR_REFUSED else s.clearTg l g
      else s
  else s)

/-- `BLANK_WINDOW_CLOSE` (R215): a source that is still active acts at that instant. -/
def execBlankWindowClose (l : Lane) (b : Fin 16) (s : State) : Out :=
  .next (match (s.run l).pwm.windows[b] with
    | none => s
    | some e =>
      let d := laneDie l
      let s1 := (s.advSteps e).modPwm l fun p => { p with windows := upd p.windows b fun _ => none }
      s1.each (List.range 64) fun s k =>
        s.when (s.srcOn l k && s.on d R.PWM_TSRCs_CFG.BLANK_EN k && s.rd d R.PWM_TSRCs_CFG.BT k == b.val) fun s =>
          s.reach l k)

/-! ## Take-over (R218, R219) -/

/-- A channel taken over: the lane's own events drive it from then on, and its destinations stand as the lane commands them,
off while a trip, an error or a channel that has not started holds them off (R212, R219). -/
def State.takeCh (s : State) (l : Lane) (c : Fin 64) : State :=
  let own := (s.ch l c).level
  let same : Bool := match s.mux.chs[c] with
    | some m => m.level == own
    | none => !own
  let lastEdge : Option Int := bif same then (s.ch l c).lastEdge else some s.steps
  let s1 := (s.set (laneDie l) R.PWM_CHc_STATUS.TAKEN c).modCh l c fun (k : PwmCh) => { k with lastEdge := lastEdge }
  let s2 := { s1 with mux := { s1.mux with chs := (upd s1.mux.chs c fun (m : Option MuxCh) =>
    m.map fun (h : MuxCh) => { h with driving := false }) } }
  s2.redrive l c

/-- The end of a switch-over (R316, step 6): its record, the flag, the interrupt and the event. -/
def State.switchEnd (s : State) (l : Lane) : State :=
  let d := laneDie l
  match (s.run l).link.switchFrom with
  | none => s
  | some from_ =>
    let s1 := (((s.put d R.LNK_SWITCH.PLANNED (s.run l).link.planned).put d R.LNK_SWITCH.FROM (from_ == .b)).put d
      R.LNK_SWITCH.LATE_TAKE (s.on d R.PWM_TAKEOVER.LATE_TAKE)).inc d R.LNK_SWITCH.COUNT
    let s2 := (s1.wrSat d R.LNK_SWITCH_TIME.GAP (2 * (s.now - s.dep.holdAt))).set d R.LNK_STATUS.SWITCH
    let s3 := (s2.irq l R.LNK_CTRL.SWITCH_IRQ_EN).log l 316 (laneDie from_).code
    s3.modRun l fun r => { r with link := { r.link with switchFrom := none, planned := false } }

/-- `PWM_GRANT.TAKEN` brought up to date; when the last shared timebase is taken over, the time and the interrupt, and the
end of a switch-over. -/
def State.takeDone (s : State) (l : Lane) : State :=
  let d := laneDie l
  let all := fun (s : State) => (List.range 8).all fun t => !s.shared l t || s.rdBit d R.PWM_GRANT.TAKEN t
  let was := all s
  let s1 := s.each (List.range 8) fun s t =>
    s.when (s.shared l t && s.rdBit d R.PWM_GRANT.ALIGNED t
      && allCh.all fun c =>
        !(s.on d R.PWM_CHc_CFG.EN c && (s.tbOf l c).val == t) || s.on d R.PWM_CHc_STATUS.TAKEN c) fun s =>
      s.wrBit d R.PWM_GRANT.TAKEN t true
  let s2 := if all s1 && !was then
      (s1.wrSat d R.PWM_TAKEOVER.TIME (2 * (s1.now - (s1.run l).link.grantAt))).irq l R.PWM_CTRL.TAKE_IRQ_EN
    else s1
  if all s2 then s2.switchEnd l else s2

/-- The counts since count 0 of a timebase that the multiplexer holds, in its period (R218, R349). -/
def MuxTb.since (m : MuxTb) (x : Int) : Nat :=
  ((x - m.start) / 512 % max 1 (if m.updown then 2 * (m.period : Int) else m.period)).toNat

/-- One shared timebase aligned to the multiplexer's held position, slope and fine phase (R218). A load of more than 16 counts
sets `ALIGN_JUMP`. -/
def State.alignTb (s : State) (l : Lane) (t : Fin 8) : State :=
  let d := laneDie l
  let s1 := match s.mux.tbs[t] with
    | none => s
    | some m =>
      let b := s.tb l t
      let n := if b.updown then 2 * b.p else b.p
      let held := m.since s.steps
      let falling := b.updown && decide (b.p < held)
      let want := if falling then 2 * b.p - held else held
      let own := (if b.falling s.steps then 2 * b.p - b.pos s.steps else b.pos s.steps) % max 1 n
      let gap := (held + n - own) % max 1 n
      let diff := min gap (n - gap)
      let s2 := s.modTb l t fun p => { p with used := p.used / 512 * 512 + m.phase % 512 }
      let s3 := if diff = 0 then (if b.used % 512 = m.phase % 512 then s2 else s2.replaceTb l t)
        else s2.loadTb l t want falling
      s3.when (16 < diff) fun s => s.set d R.PWM_TBt_STATUS.ALIGN_JUMP t
  s1.wrBit d R.PWM_GRANT.ALIGNED t true

/-- The channels that R219 takes over at alignment: every engine-driven one, with the held level, and those that the
multiplexer does not hold. -/
def State.alignCh (s : State) (l : Lane) (t : Fin 8) (c : Fin 64) : State :=
  let d := laneDie l
  if s.on d R.PWM_CHc_CFG.EN c && s.tbOf l c == t && !s.on d R.PWM_CHc_STATUS.TAKEN c then
    match s.mux.chs[c] with
    | none => s.takeCh l c
    | some m =>
      if s.engineDriven l c then
        let s1 := s.setLevel l c m.level s.steps
        let s2 := match s1.bandOf l c with
          | some n => s1.bandTake l (bandIdx n) m.level
          | none => s1
        (if s2.on d R.PWM_CHc_STATUS.TRIPPED c then s2 else s2.follow l c m.level).takeCh l c
      else s
  else s

/-- `PWM_GRANT_ALIGN` (R218, R219): every shared timebase is aligned, and the channels that need no condition are taken
over. -/
def execPwmGrantAlign (l : Lane) (s : State) : Out :=
  .next (if s.granted l && s.on (laneDie l) R.PWM_GRANT.GRANTED then
    let s1 := s.each (List.finRange 8) fun s t =>
      if s.shared l t && !s.rdBit (laneDie l) R.PWM_GRANT.ALIGNED t then
        (s.alignTb l t).each allCh fun s c => s.alignCh l t c
      else s
    let s2 := s1.when (s1.run l).link.switchFrom.isSome fun s =>
      s.wrSat (laneDie l) R.LNK_SWITCH_TIME.ALIGN (2 * (s.now - (s.run l).link.grantAt))
    s2.takeDone l
  else s)

/-- A compare channel of an aligned shared timebase that is not taken over yet. -/
def State.awaitsTake (s : State) (l : Lane) (c : Fin 64) : Bool :=
  let d := laneDie l
  s.granted l && s.on d R.PWM_CHc_CFG.EN c && !s.engineDriven l c && !s.on d R.PWM_CHc_STATUS.TAKEN c
    && s.shared l (s.tbOf l c) && s.rdBit d R.PWM_GRANT.ALIGNED (s.tbOf l c)

/-- The held output has made no edge within `MINP`, or within 5 ns when `MINP` is 0 (R219). -/
def State.heldQuiet (s : State) (l : Lane) (c : Fin 64) : Bool :=
  match s.mux.chs[c] with
  | some m => (match m.lastEdge with
    | some y => decide (max 512 (s.minp l c) ≤ s.steps - y)
    | none => true)
  | none => true

/-- `PWM_TAKEOVER` (R219). -/
def execPwmTakeover (l : Lane) (c : Fin 64) (s : State) : Out :=
  let same := match s.mux.chs[c] with
    | some m => m.level == (s.ch l c).level
    | none => true
  .next (if s.awaitsTake l c && same && s.heldQuiet l c then (s.takeCh l c).takeDone l else s)

/-- `PWM_LATE_TAKEOVER` (R219): the lane's own level applies. -/
def execPwmLateTakeover (l : Lane) (c : Fin 64) (s : State) : Out :=
  let s1 := s.advTo ((s.run l).link.grantAt + 22 * us)
  .next (if s1.awaitsTake l c && s1.heldQuiet l c then
    ((s1.set (laneDie l) R.PWM_TAKEOVER.LATE_TAKE).takeCh l c).takeDone l
  else s)

end Sys2Proof.Machine
end

