-- ==== Sys2Proof/Machine/StartOps.lean ====
section
/-!
DEFINITION. The lamp board (R78 to R80, R90): the records of the starts, the failure counts and the alternatives that the
next start takes from them.
-/
namespace Sys2Proof.Machine

/-! ## Outcome codes of a start step (R78) -/

/-- `PASS`. -/
def ocPass : Nat := 0x33
/-- `PASS_ALT`. -/
def ocPassAlt : Nat := 0x55
/-- `SKIPPED`. -/
def ocSkipped : Nat := 0x66
/-- `FAIL_CHECK`. -/
def ocCheck : Nat := 0x0F
/-- `FAIL_TIMEOUT`. -/
def ocTimeout : Nat := 0x3C
/-- `FAIL_HW`. -/
def ocHw : Nat := 0x5A
/-- `FAIL_AUTH`. -/
def ocAuth : Nat := 0x69
/-- `CORRUPT`: any other value. -/
def ocCorrupt : Nat := 0x00
/-- Not reached. -/
def ocNone : Nat := 0xFF

/-- The code says that the step failed. -/
def ocFails (c : Nat) : Bool := c == ocCheck || c == ocTimeout || c == ocHw || c == ocAuth

/-- The code says that the step passed. -/
def ocPasses (c : Nat) : Bool := c == ocPass || c == ocPassAlt

/-! ## Records -/

/-- A record is valid: its magic stands, and its complement belongs to its sequence number (R78). -/
def LampRecord.valid (r : LampRecord) : Bool := r.magic == 0x4C414D50 && r.comp == 2 ^ 32 - 1 - r.seq % 2 ^ 32

/-- The outcome of a step in a record: a byte that is no code of R78 reads as `CORRUPT`. -/
def LampRecord.outcome (r : LampRecord) (n : Nat) : Nat :=
  let c := r.outcomes.getD n ocNone
  if [ocPass, ocPassAlt, ocSkipped, ocCheck, ocTimeout, ocHw, ocAuth, ocNone].contains c then c else ocCorrupt

/-- The newest record: the valid one with the highest sequence number (R79). -/
def newestRecord (rs : List LampRecord) : Option LampRecord :=
  (rs.filter LampRecord.valid).foldl (fun m r => match m with
    | none => some r
    | some y => if y.seq < r.seq then some r else some y) none

/-- The record of this start: the newest one. -/
def State.lampNow (s : State) (l : Lane) : Option LampRecord := (s.nv l).lamp.getLast?

/-- The newest record changed by `f`. -/
def State.modLamp (s : State) (l : Lane) (f : LampRecord → LampRecord) : State :=
  s.modNv l fun n =>
    { n with lamp := match n.lamp.getLast? with
        | some r => n.lamp.dropLast ++ [f r]
        | none => [] }

/-- The outcome of a step entered in the record of this start. -/
def State.lampOutcome (s : State) (l : Lane) (n code : Nat) : State :=
  s.modLamp l fun r => { r with outcomes := r.outcomes.set n code }

/-- The consecutive failures of a step in a list of records, newest first: a pass ends the count, a record in which the step
was not reached or was skipped neither counts nor ends it (R80). -/
def failRun (n : Nat) : List LampRecord → Nat
  | [] => 0
  | r :: rest =>
    if ocPasses (r.outcome n) then 0 else if ocFails (r.outcome n) then 1 + failRun n rest else failRun n rest

/-- The consecutive failures of a step, up to 3 (R80, R90). -/
def State.failCount (s : State) (l : Lane) (n : Nat) : Nat := min 3 (failRun n (s.nv l).lamp.reverse)

/-- The steps whose failure ends the start however often it repeats (R80). -/
def stepExempt (n : Nat) : Bool := n ≤ 3 || (6 ≤ n && n ≤ 9) || n == 19

/-- The mandatory steps of R80. `ST15` is one when the partner answers. -/
def stepMandatory (n : Nat) : Bool := n != 18

/-- Some mandatory step has failed three times running: the lane starts only into Service (R80, R81). -/
def State.threeFailures (s : State) (l : Lane) : Bool :=
  (List.range 20).any fun n => stepMandatory n && s.failCount l n == 3

/-- The first step of a record that failed, with its code. -/
def LampRecord.failed (r : LampRecord) : Option (Nat × Nat) :=
  ((List.range 20).find? fun n => ocFails (r.outcome n)).map fun n => (n, r.outcome n)

/-- The step failed on the start of a record. -/
def LampRecord.failedAt (r : LampRecord) (n : Nat) : Bool := ocFails (r.outcome n)

/-- The slot in which `ST06` last passed, slot A when no record names one (R80): true for slot B. -/
def State.lastSlot (s : State) (l : Lane) : Bool :=
  match (s.nv l).lamp.reverse.find? fun r => ocPasses (r.outcome 6) with
  | some r => r.slotB
  | none => false

/-- The slot that a start tries (R80, R90), from the record of the previous start: a recorded boot-next request, the other
slot after a failed `ST06`, else the slot that passed last. -/
def State.slotToTry (s : State) (l : Lane) (prev : Option LampRecord) : Bool :=
  match prev with
  | none => false
  | some r => match r.bootNext.getLast? with
    | some 0x0F => false
    | some 0xF0 => true
    | _ => if r.failedAt 6 then !r.slotB else s.lastSlot l

/-- The record of the previous start judged at `ST02` (R79): a step with its entered marker and no outcome has timed out,
unless the island supply was lost since. -/
def LampRecord.judged (r : LampRecord) (supplyLost : Bool) : LampRecord :=
  if r.outcome r.entered = ocNone ∧ !supplyLost then { r with outcomes := r.outcomes.set r.entered ocTimeout } else r

/-- The records that stand after the ring moves on to number `seq`: a record that opens a sector of 64 erases the 64 oldest
ones there (R78, R79). At which position the first record of an erased board stands the spec leaves open: it is taken as
position 1, so that the numbers divisible by 64 open a sector and number 1 opens none (DESIGN CHOICE, log entry 44). -/
def lampErase (seq : Nat) (rs : List LampRecord) : List LampRecord :=
  rs.filter fun r => seq < r.seq + 1024 - (if seq % 64 = 0 then 63 else 0)

/-! ## Boot-next requests (R90) -/

/-- The lamp board byte of a boot-next request. -/
def bootNextByte (slot : Nat) : Nat := if slot = 1 then 0x0F else if slot = 2 then 0xF0 else 0x00

/-- A boot-next request: the next erased byte of this start's record, for the first eight requests; a later one is
discarded. -/
def State.bootNext (s : State) (l : Lane) (slot : Nat) : State :=
  match s.lampNow l with
  | none => s
  | some r =>
    if r.seq = s.rd (laneDie l) R.CFG_LAMP_SEQ.SEQ ∧ r.bootNext.length < 8 then
      (s.modLamp l fun r => { r with bootNext := r.bootNext ++ [bootNextByte slot] }).wr (laneDie l) R.CFG_BOOT_NEXT.SLOT
        (if slot = 3 then 0 else slot)
    else s

/-! ## Signatures (R66) -/

/-- A named root-key slot is programmed and not revoked (R66), as `ST02` has read the OTP. -/
def State.keyOk (s : State) (l : Lane) (k : Nat) : Bool :=
  decide (k < 4) && s.rdBit (laneDie l) R.CFG_KEY_STATUS.PROGRAMMED k && !s.rdBit (laneDie l) R.CFG_KEY_STATUS.REVOKED k

/-- The hash that a root-key slot holds in OTP; that of the development key is the empty list. -/
def State.keyHash (s : State) (l : Lane) (k : Nat) : List Nat :=
  (((s.nv l).keyHash.find? fun x => x.1 == k).map Prod.snd).getD []

/-- The check of a signed object (R65, R66, R68): `FAIL_AUTH` without a usable slot, `FAIL_CHECK` where the carried key is not
the slot's, its exponent is not 65,537, or the signature or a hash does not match. -/
def State.signedCheck (s : State) (l : Lane) (k : Nat) (x : Signed) : Nat :=
  if !s.keyOk l k then ocAuth
  else if x.keyHash = s.keyHash l k ∧ x.exponent = 65537 ∧ x.sigOk ∧ x.hashesOk then ocPass else ocCheck

end Sys2Proof.Machine
end

