-- ==== Sys2Proof/Machine/Therm.lean ====
section
/-!
DEFINITION. Temperatures (chapter 17): the sampling round with its rates, models, throttling and trims, and the hardware
shutdown of an island. Temperatures are in 0.1 degree.
-/
namespace Sys2Proof.Machine

/-- The `THM` block of a lane. -/
def State.thm (s : State) (l : Lane) : ThmSt := (s.run l).thm

/-- The `THM` block of a lane changed by `f`. -/
def State.modThm (s : State) (l : Lane) (f : ThmSt → ThmSt) : State := s.modRun l fun r => { r with thm := f r.thm }

/-- The class of a source code (R393). -/
def thmClass (src : Nat) : Nat :=
  if src < 8 then 0 else if src < 12 then 1 else if src < 14 then 2 else if src < 24 then 4 + (src - 16)
  else if src < 72 then 3 else 12 + (src - 80)

/-- The lowest limit that counts for a class, in 0.1 degree (R396). -/
def State.thmLimit (s : State) (l : Lane) (c : Nat) (die : Bool) : Int :=
  let d := laneDie l
  let m := min (s.rd d R.THM_CLc_LIM.WARN c) (min (s.rd d R.THM_CLc_LIM.DS c) (s.rd d R.THM_CLc_LIM.DE c))
  10 * ((if die then min m 158 else m : Nat) : Int)

/-! ## The sources (R393, R394) -/

/-- The readings of a list of sensors, from a source code on. -/
def sensors (base : Nat) (ts : List Int) : List (Nat × Int) := ts.zipIdx.map fun x => (base + x.2, x.1)

/-- An NTC input sampled (R394): open above 0.98, short below 0.02, either one a fault. -/
def State.ntcSample (s : State) (l : Lane) (n ratio : Nat) : State :=
  let d := laneDie l
  if s.on d R.THM_NTCn_CFG.EN n then
    let op := decide (98 * 65536 < 100 * ratio)
    let sh := decide (100 * ratio < 2 * 65536)
    let s1 := ((s.put d R.THM_NTCn_TEMP.OPEN op n).put d R.THM_NTCn_TEMP.SHORT sh n).put d R.THM_NTCn_TEMP.VALID
      (!op && !sh) n
    if op || sh then s1.set d R.THM_STATUS.NTC_FAULT_EVT
    else s1.wrS d R.THM_NTCn_TEMP.TEMP (Config.ntcTemp ratio (orOne (s.rd d R.THM_NTC_PU.R_PU))
      (orOne (s.rd d R.THM_NTCn_CFG.R25 n)) (orOne (s.rd d R.THM_NTCn_CFG.BETA n))) n
  else s.clr d R.THM_NTCn_TEMP.VALID n

/-- The drive-head readings: enabled links whose last `STATUS` is at most 10 us old (R393). -/
def State.heads (s : State) : List (Nat × Int) :=
  if s.depOn then
    (List.finRange 40).filterMap fun n =>
      let k := s.link n
      if k.cfg.en && k.seq.isSome && decide (s.now ≤ k.lastStat + 10 * us) then some (32 + n.val, 10 * k.tj) else none
  else []

/-- The registers of the sources written (R392, R393, R404), and the valid readings with their codes, the models apart. -/
def State.thmRead (s : State) (l : Lane) (m : ThmSample) : State × List (Nat × Int) :=
  let d := laneDie l
  let dep := if s.depOn then m.dep.take 2 else []
  let die := sensors 0 (m.die.take 8) ++ sensors 8 (m.pap.take 4) ++ sensors 12 (dep.map fun t => 10 * t)
  let s1 := s.each (List.range 14) fun s i =>
    match die.find? fun x => x.1 == i with
    | some x => (s.wrS d R.THM_SENSi.TEMP x.2 i).set d R.THM_SENSi.VALID i
    | none => s.clr d R.THM_SENSi.VALID i
  let s2 := s1.each (m.pap.take 4).zipIdx fun s x =>
    (s.wrS (papDie l) R.PAP_TEMPi.TEMP x.1 x.2).set (papDie l) R.PAP_TEMPi.VALID x.2
  let s3 := if s.depOn then
      (s2.wrS .ds R.DSP_TEMP.T0 (dep.getD 0 0)).wrS .ds R.DSP_TEMP.T1 (dep.getD 1 0)
    else s2
  let s4 := s3.each (List.range 8) fun s n => s.ntcSample l n (m.ntc.getD n 0)
  let ntc := (List.range 8).filterMap fun n =>
    if s4.on d R.THM_NTCn_CFG.EN n && s4.on d R.THM_NTCn_TEMP.VALID n then some (16 + n, s4.rdS d R.THM_NTCn_TEMP.TEMP n)
    else none
  (s4, die ++ ntc ++ s4.heads)

/-- The hottest reading of a list; of equal readings the lower code (R395). -/
def hottest : List (Nat × Int) → Option (Nat × Int)
  | [] => none
  | x :: r =>
    match hottest r with
    | none => some x
    | some y => if y.2 < x.2 ∨ (y.2 = x.2 ∧ x.1 < y.1) then some x else some y

/-! ## Thermal models (R398) -/

/-- The models' dT seeded at the first sample after a lane reset: each model then equals the highest valid reading plus 10
degrees. A model whose reference is not valid keeps dT = 0. -/
def State.thmSeed (s : State) (l : Lane) (rs : List (Nat × Int)) : State :=
  if s.on (laneDie l) R.THM_STATUS.SEEDED then s
  else
    match hottest rs with
    | none => s
    | some h =>
      (s.set (laneDie l) R.THM_STATUS.SEEDED).modThm l fun x =>
        { x with dT := (List.finRange 4).foldl (fun v (m : Fin 4) => upd v m fun old =>
            match rs.find? fun y => y.1 == s.rd (laneDie l) R.THM_MODm_CFG.REF m with
            | some y => 65536 * (h.2 + 100 - y.2)
            | none => old) x.dT }

/-- The power slot's value in 2^-30 per unit. -/
def State.modPower (s : State) (l : Lane) (m : Nat) : Int :=
  let i := s.rd (laneDie l) R.THM_MODm_CFG.P_SLOT m
  if i < 24 then s.rdS (laneDie l) R.CE_Ai_OUT.Y i else Config.unstated 398 i

/-- One model at one sample of period `ts` us (R398): its dT in 2^-16 of 0.1 degree, and its temperature. -/
def State.thmModel (s : State) (l : Lane) (rs : List (Nat × Int)) (ts : Nat) (m : Fin 4) : State × List (Nat × Int) :=
  let d := laneDie l
  match rs.find? fun y => y.1 == s.rd d R.THM_MODm_CFG.REF m with
  | some ref =>
    if s.on d R.THM_MODm_CFG.EN m then
      let dT := (s.thm l).dT[m]
      -- p * RTH in 2^-16 of 0.1 degree is y * PBASE * RTH * 655360 / (2^30 * 1000)
      let num := s.modPower l m * s.rd d R.THM_MODm_PBASE.PBASE m * s.rd d R.THM_MODm_PAR.RTH m * 655360
      let den : Int := 2 ^ 30 * 1000
      let tau : Int := orOne (s.rd d R.THM_MODm_PAR.TAU m) * 100000
      let pr1 := s.quot ((num - dT * den) * ts) (den * tau)
      let step := pr1.1
      let s1 := pr1.2
      let s2 := s1.modThm l fun x => { x with dT := upd x.dT m fun _ => dT + step }
      let pr2 := s2.quot (dT + step) 65536
      let t := pr2.1
      let s3 := pr2.2
      (s3.wrS d R.THM_MODm_TEMP.TEMP (ref.2 + t) m, [(80 + m.val, ref.2 + t)])
    else (s, [])
  | none => (s, [])

/-- The four models at one sample, in order. -/
def State.thmModels (s : State) (l : Lane) (rs : List (Nat × Int)) (ts : Nat) : State × List (Nat × Int) :=
  (List.finRange 4).foldl (fun (a : State × List (Nat × Int)) (k : Fin 4) =>
    let b := a.1.thmModel l rs ts k
    (b.1, a.2 ++ b.2)) (s, [])

/-! ## Rates and throttling (R397, R399) -/

/-- The rate of rise of a source in 0.1 degree per second (R397): zero until it has been valid for 100 ms. -/
def ThmSt.rate (x : ThmSt) (now : Nat) (src : Nat × Int) : Int :=
  let young := x.rounds.takeWhile fun r => decide (now < r.1 + 100 * ms)
  match x.rounds.drop young.length with
  | [] => 0
  | old :: _ =>
    if young.all fun r => r.2.any fun y => y.1 == src.1 then
      match old.2.find? fun y => y.1 == src.1 with
      | some y => 10 * (src.2 - y.2)
      | none => 0
    else 0

/-- T_eff of a source in 0.01 degree (R397). -/
def State.tEff (s : State) (l : Lane) (src : Nat × Int) : Int :=
  let d := laneDie l
  let r := (s.thm l).rate s.now src
  let thr := s.rd d R.THM_CLc_RATE.THR (thmClass src.1)
  10 * src.2 + (if thr ≠ 0 ∧ (thr : Int) ≤ r then r * s.rd d R.THM_CTRL.LOOK else 0)

/-- k of a class in 2^-16 from the highest T_eff of its sources (R399). -/
def State.classK (s : State) (l : Lane) (c : Nat) (t : Int) : Int × State :=
  let ds : Int := 100 * s.rd (laneDie l) R.THM_CLc_LIM.DS c
  let de : Int := 100 * s.rd (laneDie l) R.THM_CLc_LIM.DE c
  if t ≤ ds then (65536, s) else if de ≤ t ∨ de ≤ ds then (0, s) else s.quot (65536 * (de - t)) (de - ds)

/-- The largest of a list of integers. -/
def maxOf : List Int → Option Int
  | [] => none
  | x :: r => match maxOf r with
    | none => some x
    | some y => some (max x y)

/-- k_thm and the limiting class over the classes from `c` on; of equal classes the lower number. -/
def State.kThm (s : State) (l : Lane) (rs : List (Nat × Int)) : List Nat → (Int × Nat) → (Int × Nat) × State
  | [], best => (best, s)
  | c :: r, best =>
    if s.on (laneDie l) R.THM_CLc_LIM.EN c then
      match maxOf ((rs.filter fun x => thmClass x.1 == c).map (s.tEff l)) with
      | none => s.kThm l rs r best
      | some t =>
        let pr3 := s.classK l c t
        let k := pr3.1
        let s1 := pr3.2
        s1.kThm l rs r (if k < best.1 then (k, c) else best)
    else s.kThm l rs r best

/-- The throttling of R399 at a sample. -/
def State.throttle (s : State) (l : Lane) (rs : List (Nat × Int)) : State :=
  let d := laneDie l
  let r := s.kThm l rs (List.range 16) (65536, 0)
  let k := r.1.1
  let s1 := (r.2.wr d R.THM_KTHM.K k.toNat).wr d R.THM_KTHM.CLASS r.1.2
  let entry := decide (k < 65536) && !s.on d R.THM_STATUS.THROTTLE
  let s2 := s1.put d R.THM_STATUS.THROTTLE (decide (k < 65536))
  s2.when entry fun s =>
    (((s.set d R.THM_STATUS.THR_EVT).inc d R.THM_CNT.THROTTLE).irq l R.THM_CTRL.THR_IRQ_EN).logIf l R.THM_CTRL.LOG_EN 399
      r.1.2

/-- The warnings of R397 and R399: live flags and their events. -/
def State.thmWarn (s : State) (l : Lane) (rs : List (Nat × Int)) : State :=
  let d := laneDie l
  let warn := rs.any fun x => s.on d R.THM_CLc_LIM.EN (thmClass x.1)
    && decide (10 * (s.rd d R.THM_CLc_LIM.WARN (thmClass x.1) : Int) ≤ x.2)
  let reaches := fun f => rs.any fun x =>
    s.on d f (thmClass x.1) && decide ((s.rd d f (thmClass x.1) : Int) ≤ (s.thm l).rate s.now x)
  let s1 := (s.put d R.THM_STATUS.WARN warn).put d R.THM_STATUS.RATE_WARN (reaches R.THM_CLc_RATE.WARN)
  let s2 := s1.when warn fun s => (s.set d R.THM_STATUS.WARN_EVT).irq l R.THM_CTRL.WARN_IRQ_EN
  s2.when (reaches R.THM_CLc_RATE.THR) fun s => (s.set d R.THM_STATUS.RATE_EVT).irq l R.THM_CTRL.THR_IRQ_EN

/-! ## The sampling period and the trims (R396, R403) -/

/-- Fast sampling entered and left (R396). -/
def State.thmFast (s : State) (l : Lane) (rs : List (Nat × Int)) : State :=
  let d := laneDie l
  let lim := fun (x : Nat × Int) => s.thmLimit l (thmClass x.1) (decide (x.1 < 14))
  let hot := rs.any fun x => decide (lim x - 100 ≤ x.2)
  let calm := rs.all fun x => decide (x.2 ≤ lim x - 120)
  let since := if calm then some ((s.thm l).calmAt.getD s.now) else none
  let s1 := s.modThm l fun x => { x with calmAt := since }
  if hot then
    if s1.on d R.THM_STATUS.FAST then s1 else (s1.set d R.THM_STATUS.FAST).inc d R.THM_CNT.FAST
  else
    match since with
    | some t => if t + 100 * ms ≤ s.now then s1.clr d R.THM_STATUS.FAST else s1
    | none => s1

/-- A trim moved by at most one step towards its goal. -/
def oneStep (x goal : Int) : Int := if x < goal then x + 1 else if goal < x then x - 1 else x

/-- The trims at a sample (R403): the oscillators move, the reference takes a new goal. -/
def State.thmTrim (s : State) (l : Lane) (m : ThmSample) : State :=
  let s1 := s.modThm l fun x =>
    { x with
      trimLf := oneStep x.trimLf (Config.trim l.idx 0 m.die)
      trimPap := oneStep x.trimPap (Config.trim l.idx 1 m.pap)
      refGoal := Config.trim l.idx 2 m.die }
  let s2 := s1.set (papDie l) R.PAP_OSC.TRIMMED
  s2.when s2.depOn fun s => s.modDep fun x => { x with trim := oneStep x.trim (Config.trim 2 3 (m.dep.map fun t => 10 * t)) }

/-- The reference trim at a traction-cycle boundary (R403). -/
def State.refTrimStep (s : State) (l : Lane) : State :=
  s.modThm l fun x => { x with trimRef := oneStep x.trimRef x.refGoal }

/-- `THM_SAMPLE` (R393 to R399, R403). In Nap and Off the block stops. -/
def execThmSample (l : Lane) (m : ThmSample) (s : State) : Out :=
  let d := laneDie l
  .next (if !s.past l 3 || !((s.run l).pwr.nap == .run || (s.run l).pwr.nap == .entering) then s
    else
      let period := if s.on d R.THM_STATUS.FAST then 50 else 1000
      let s0 := match (s.thm l).started with
        | none => s.modThm l fun x => { x with started := some s.now }
        | some _ => s.advTo ((s.thm l).lastAt + period * us)
      let r := s0.thmRead l m
      let s1 := r.1.thmSeed l r.2
      let ms4 := s1.thmModels l r.2 period
      let rs := r.2 ++ ms4.2
      let s2 := ms4.1
      let s3 := match hottest (rs.filter fun x => s2.on d R.THM_CLc_LIM.EN (thmClass x.1)) with
        | some h => (s2.wrS d R.THM_MAX.TEMP h.2).wr d R.THM_MAX.SRC h.1
        | none => s2
      let s4 := match hottest (r.2.filter fun x => decide (32 ≤ x.1)) with
        | some h => (s3.wrS d R.THM_HEAD_MAX.TEMP h.2).wr d R.THM_HEAD_MAX.LINK (h.1 - 32)
        | none => s3
      let s5 := ((s4.thmWarn l rs).throttle l rs).thmFast l rs
      let s6 := s5.modThm l fun x =>
        let kept := x.rounds.takeWhile fun y => decide (s5.now < y.1 + 100 * ms)
        { x with lastAt := s5.now, rounds := (s5.now, rs) :: kept ++ (x.rounds.drop kept.length).take 1 }
      s6.thmTrim l m)

/-! ## The hardware shutdown (R401, R402) -/

/-- A shutdown recorded in a die that keeps it; `THM_SHUT` reads the same record (R392, R402). -/
def State.recordShut (s : State) (l : Lane) (sensor : Nat) : State :=
  if (s.pap l).powered then (s.inc (papDie l) R.PAP_SHUT.COUNT).wr (papDie l) R.PAP_SHUT.LAST sensor else s

/-- The shutdown of a lane's island (R401): every gate off, the rail controller and the boost stopped, the power path open,
the lane die in reset; the supply monitor trips, and the Deputy declares the lane. -/
def State.islandShut (s : State) (l : Lane) (sensor : Nat) : State :=
  if (s.pap l).shutdown then s.modPap l fun p => { p with coolAt := s.now }
  else if !(s.pap l).powered then s
  else
    let s1 := (s.recordShut l sensor).modPap l fun p =>
      { p with shutdown := true, coolAt := s.now, clamp := { p.clamp with phase := .off } }
    let s2 := ((((s1.clr (papDie l) R.PAP_STATUS.CLAMP).wr (papDie l) R.PAP_CLAMP_STATUS.STAGE 0).clr (papDie l)
      R.PAP_BRK_STATUS.ACTIVE).clr (papDie l) R.PAP_STATUS.BRAKE).windingsOff l
    s2.islandFault l .vddc

/-- `THERMAL_SHUTDOWN` (R401, R402). -/
def execThermalShutdown (sensor : HotSensor) (s : State) : Out :=
  .next (match sensor with
    | .island l i => s.islandShut l i.val
    | .deputy i =>
      if s.depOn then
        let s1 := s.each lanes fun s l => s.recordShut l (12 + i.val)
        (s1.depGone .removed).modDep fun d => { d with coolAt := some s.now }
      else s.modDep fun d => { d with coolAt := d.coolAt.map fun _ => s.now })

/-- `THERMAL_RELEASE` (R401): a lane island is released and its lane may start; island S may qualify again by R330. -/
def execThermalRelease (isl : Option Lane) (s : State) : Out :=
  .next (match isl with
    | some l =>
      if (s.pap l).shutdown then
        let s1 := (s.advTo ((s.pap l).coolAt + 2 * sec)).modPap l fun p => { p with shutdown := false }
        let s2 := (((s1.setIsland l true).setSupplies l 0x3FF).set (papDie l)
          R.PAP_RESET_CAUSE.THERMAL).wrBit (papDie l) R.PAP_SUP_STATUS.OK 2 true
        s2.set (papDie l) R.PAP_STATUS.SUP_OK
      else s
    | none =>
      match s.dep.coolAt with
      | some t => (s.advTo (t + 2 * sec)).modDep fun d => { d with coolAt := none }
      | none => s)

end Sys2Proof.Machine
end

