-- ==== Sys2Proof/Machine/Brake.lean ====
section
/-!
DEFINITION. The clamp sequence and the brake application of a power-and-analog die (R343, R344).
-/
namespace Sys2Proof.Machine

/-- The clamp and brake logic of a die changed by `f`. -/
def State.modClamp (s : State) (l : Lane) (f : ClampSt → ClampSt) : State := s.modPap l fun p => { p with clamp := f p.clamp }

/-- Every gate of a die off, and the low side of half-bridge 2i + 1 of each winding in `mask` on (R343, R344): half-bridge
2i switches at 20 kHz with the duty in use. -/
def State.windGates (s : State) (l : Lane) (mask : Nat) : State :=
  let d := papDie l
  let s1 := s.modPap l fun p =>
    { p with hbs := (List.finRange 16).foldl (fun v (n : Fin 16) =>
        upd v n fun h =>
          { HalfBridge.init with gateLo := n.val % 2 = 1 && bit mask n, offLo := !(n.val % 2 = 1 && bit mask n),
                                 offHi := !h.gateHi, edgeAt := some s.now }) p.hbs }
  s1.each (List.range 16) fun s n => (s.clr d R.PAP_HBn_STATUS.GH_ON n).put d R.PAP_HBn_STATUS.GL_ON (n % 2 == 1 && bit mask n) n

/-- The duty shown in per cent (log entry 7: the spec states no rounding). -/
def State.showDuty (s : State) (l : Lane) : State :=
  let q := (s.pap l).clamp.duty
  let r := s.quot (100 * q.1) (max 1 q.2)
  r.2.wr (papDie l) R.PAP_CLAMP_STATUS.DUTY r.1.toNat

/-- The applying duty `I_CLAMP` x `R_WIND` / V_ACT, limited to 0.95 (R343), as a fraction; V_ACT in 0.1 V. -/
def clampDuty (i r vact : Nat) : Nat × Nat :=
  if 95 * (10 * vact) ≤ 100 * (i * r) then (95, 100) else (i * r, 10 * vact)

/-- The gates of the windings of a mask off; the other half-bridges stay as they are. -/
def State.windOff (s : State) (l : Lane) (m : Nat) : State :=
  let d := papDie l
  let s1 := s.modPap l fun p =>
    { p with hbs := (List.finRange 16).foldl (fun v (n : Fin 16) =>
        upd v n fun h => if bit m n then
          { HalfBridge.init with offLo := !h.gateLo, offHi := !h.gateHi, edgeAt := some s.now } else h) p.hbs }
  s1.each (List.range 16) fun s n =>
    if bit m n then (s.clr d R.PAP_HBn_STATUS.GH_ON n).clr d R.PAP_HBn_STATUS.GL_ON n else s

/-- The brake application ends: its gates go off (R344). -/
def State.brakeEnd (s : State) (l : Lane) : State :=
  if s.on (papDie l) R.PAP_BRK_STATUS.ACTIVE then
    (((s.windOff l (s.pap l).clamp.mask).clr (papDie l) R.PAP_BRK_STATUS.ACTIVE).clr (papDie l) R.PAP_STATUS.BRAKE).modClamp l fun c =>
      { c with mask := 0, brakeOk := none }
  else s

/-- `CLAMP_COMMAND` (R343): the line has been high for 1 us, so every gate goes off and the windings are driven: with a valid
frame at the computed duty, without one every winding at 0.25. -/
def execClampCommand (l : Lane) (s : State) : Out :=
  let d := papDie l
  let c := (s.pap l).clamp
  .next (if (s.pap l).powered && c.line && c.phase == .off then
    let s1 := ((s.advTo (s.now + us)).brakeEnd l).inc d R.PAP_CNT.CLAMPS
    let vact := s1.rd d R.LVP_ACT_STATUS.VACT
    let s2 := match c.frame with
      | some (i, r, _, _) =>
        let m := s1.rd d R.PAP_CLAMP_FRAME1.MASK
        ((s1.modClamp l fun c => { c with phase := .apply, at_ := s1.now, duty := clampDuty i (orOne r) vact, mask := m }).wr
          d R.PAP_CLAMP_STATUS.STAGE 1).windGates l m
      | none =>
        ((s1.modClamp l fun c => { c with phase := .default25, at_ := s1.now, duty := (25, 100), mask := 0xFFFF }).wr d
          R.PAP_CLAMP_STATUS.STAGE 3).windGates l 0xFFFF
    (((s2.set d R.PAP_CLAMP_STATUS.CMD).set d R.PAP_STATUS.CLAMP).showDuty l).actSync l
  else s)

/-- The clamp command withdrawn with Parked (R343). -/
def State.clampWithdraw (s : State) (l : Lane) : State :=
  let d := papDie l
  let s1 := (s.clr .ds (clampFld l)).modClamp l fun c => { c with line := false }
  if s1.clampRuns l then
    let s2 := (s1.windGates l 0).modClamp l fun c => { c with phase := .off, duty := (0, 1), mask := 0 }
    ((((s2.clr d R.PAP_CLAMP_STATUS.CMD).wr d R.PAP_CLAMP_STATUS.STAGE 0).wr d R.PAP_CLAMP_STATUS.DUTY 0).clr d
      R.PAP_STATUS.CLAMP).actSync l
  else s1

/-- `CLAMP_APPLY_END` (R343): `HOLD` per cent of the applying value, which is then kept. -/
def execClampApplyEnd (l : Lane) (s : State) : Out :=
  .next (match (s.pap l).clamp.phase, (s.pap l).clamp.frame with
    | .apply, some (_, _, t, hold) =>
      let s1 := (s.advTo ((s.pap l).clamp.at_ + t * 10 * ms)).modClamp l fun c =>
        { c with phase := .hold, duty := (c.duty.1 * clampN 10 100 hold, c.duty.2 * 100) }
      (s1.wr (papDie l) R.PAP_CLAMP_STATUS.STAGE 2).showDuty l
    | _, _ => s)

/-- `CLAMP_DEFAULT_STEP` (R343). -/
def execClampDefaultStep (l : Lane) (s : State) : Out :=
  .next (if (s.pap l).clamp.phase == .default25 then
    ((s.advTo ((s.pap l).clamp.at_ + sec)).modClamp l fun c => { c with phase := .default10, duty := (10, 100) }).showDuty l
  else s)

/-- The acknowledgement of a frame in `DSP_CLAMP_STATUS`. -/
def frameOkFld : Lane → Fld
  | .a => R.DSP_CLAMP_STATUS.FRAME_OK_A
  | .b => R.DSP_CLAMP_STATUS.FRAME_OK_B

/-- The mask of a die's half in `DSP_CLAMP_MASK`. -/
def maskFld : Lane → Fld
  | .a => R.DSP_CLAMP_MASK.MASK_A
  | .b => R.DSP_CLAMP_MASK.MASK_B

/-- The bytes of a configuration frame, in the order in which `PAP_CLAMP_FRAME0` to `PAP_CLAMP_FRAME2` hold it, and its CRC
(R343, R392; the order is DEDUCED, log entry 49). -/
def State.clampFrame (s : State) (l : Lane) : List Nat :=
  let p := leBytes (s.rd .ds R.DSP_CLAMP_CFG.I_CLAMP) 1 ++ leBytes (s.rd .ds R.DSP_CLAMP_CFG.R_WIND) 1
    ++ leBytes (s.rd .ds R.DSP_CLAMP_CFG.T_APPLY) 1 ++ leBytes (s.rd .ds R.DSP_CLAMP_CFG.HOLD) 1
    ++ leBytes (s.rd .ds (maskFld l)) 2 ++ leBytes s.dep.frameSeq 2
  p ++ [crc8 p]

/-- A die takes a configuration frame whose CRC holds, and the Deputy sees its acknowledgement (R343, R392). -/
def State.takeClampFrame (s : State) (l : Lane) (b : List Nat) : State :=
  let d := papDie l
  let x := fun i => b.getD i 0
  if (s.pap l).powered && crc8 (b.take 8) == x 8 then
    let s2 := (((s.wr d R.PAP_CLAMP_FRAME0.I_CLAMP (x 0)).wr d R.PAP_CLAMP_FRAME0.R_WIND (x 1)).wr d
      R.PAP_CLAMP_FRAME0.T_APPLY (x 2)).wr d R.PAP_CLAMP_FRAME0.HOLD (x 3)
    let s3 := ((s2.wr d R.PAP_CLAMP_FRAME1.MASK (x 4 + 256 * x 5)).wr d R.PAP_CLAMP_FRAME2.SEQ (x 6 + 256 * x 7)).wr d
      R.PAP_CLAMP_FRAME2.CRC (x 8)
    (((s3.modClamp l fun c => { c with frame := some (x 0, x 1, x 2, x 3) }).set d R.PAP_CLAMP_STATUS.FRAME_OK).inc d
      R.PAP_CLAMP_STATUS.FRAMES).set .ds (frameOkFld l)
  else s

/-- `CLAMP_CONFIG_FRAME` (R343): from the Deputy's seal on. -/
def execClampConfigFrame (l : Lane) (flips : List (BitVec 8)) (s : State) : Out :=
  .next (if s.depOn && s.on .ds R.DSP_SEAL.SEALED then
    (s.modDep fun x => { x with frameSeq := (x.frameSeq + 1) % 2 ^ 16 }).takeClampFrame l (flipped flips (s.clampFrame l))
  else s)

/-- `CLAMP_DUTY_RECOMPUTE` (R343): while the sequence applies; the holding duty is kept (DEDUCED, log entry 16). -/
def execClampDutyRecompute (l : Lane) (vact : Nat) (s : State) : Out :=
  .next (if (s.pap l).powered && s.clampRuns l then
    let s1 := s.wrSat (papDie l) R.LVP_ACT_STATUS.VACT vact
    match (s.pap l).clamp.phase, (s.pap l).clamp.frame with
    | .apply, some (i, r, _, _) => (s1.modClamp l fun c => { c with duty := clampDuty i (orOne r) vact }).showDuty l
    | _, _ => s1
  else s)

/-- The windings of the mask taken over; the other half-bridges stay as they are. -/
def State.brakeGates (s : State) (l : Lane) (m : Nat) : State :=
  let d := papDie l
  let s1 := s.modPap l fun p =>
    { p with hbs := (List.finRange 16).foldl (fun v (n : Fin 16) =>
        upd v n fun h => if bit m n then
          { HalfBridge.init with gateLo := n.val % 2 = 1, offLo := !(n.val % 2 = 1), offHi := !h.gateHi,
                                 edgeAt := some s.now } else h) p.hbs }
  s1.each (List.range 16) fun s n =>
    if bit m n then (s.clr d R.PAP_HBn_STATUS.GH_ON n).put d R.PAP_HBn_STATUS.GL_ON (n % 2 == 1) n else s

/-- `BRK_APPLY` (R344): the die regulates the current of each winding of `MASK` towards `FORCE` per cent of `I_LIM`; a clamp
or a lost lane's die takes no application. -/
def execBrkApply (l : Lane) (s : State) : Out :=
  let d := papDie l
  .next (if !s.writable l then s
    else if !(s.pap l).powered then s.accessError l .ap 0x40160774 true .powerOff
    else if s.clampRuns l || (s.pap l).ownedOff then s
    else
      let m := s.rd d R.PAP_BRK_CFG.MASK
      let target := s.rd d R.PAP_BRK_CFG.FORCE * s.rd d R.PAP_BRK_CFG.I_LIM * 10
      let s1 := (((s.set d R.PAP_BRK_STATUS.ACTIVE).clr d R.PAP_BRK_STATUS.AT_FORCE).set d R.PAP_STATUS.BRAKE).inc d
        R.PAP_CNT.BRAKES
      (s1.modClamp l fun c => { c with mask := m, brakeMa := target, brakeOk := none }).brakeGates l m)

/-- `BRK_RELEASE` (R344): only while no Safe stop is imposed; the half-bridges follow the PWM again. -/
def execBrkRelease (l : Lane) (s : State) : Out :=
  let d := papDie l
  .next (if !s.writable l then s
    else if !(s.pap l).powered then s.accessError l .ap 0x40160774 true .powerOff
    else if s.on (laneDie l) R.CFG_MODE.SAFE_STOP then s.set d R.PAP_BRK_STATUS.REFUSED
    else (s.brakeEnd l).redriveAll l)

/-- `BRK_LOOP_UPDATE` (R344): the loop's gains are fixed but not given, so whether a duty stands at 0.95 is a free value (log
entry 2); a winding below 90 % of its target there sets `LOW`. -/
def execBrkLoopUpdate (l : Lane) (currents : List Nat) (s : State) : Out :=
  let d := papDie l
  .next (if s.on d R.PAP_BRK_STATUS.ACTIVE then
    let t := (s.pap l).clamp.brakeMa
    let within := currents.all fun c => decide (10 * (if c < t then t - c else c - t) ≤ t)
    let short := currents.any fun c => decide (10 * c < 9 * t)
    let f := s.free 1
    let low_ := short && f.1 == 1
    let minI := (currents.foldl min 1000000) / 1000
    let s1 := f.2.modClamp l fun c =>
      { c with brakeOk := if within && !currents.isEmpty then
          (match c.brakeOk with
           | some x => some x
           | none => some s.now) else none }
    (s1.when low_ fun s => s.set d R.PAP_BRK_STATUS.LOW).wrSat d R.PAP_BRK_STATUS.MIN_I (if currents.isEmpty then 0 else minI)
  else s)

/-- `BRK_AT_FORCE` (R344). -/
def execBrkAtForce (l : Lane) (s : State) : Out :=
  .next (match (s.pap l).clamp.brakeOk with
    | some t =>
      if s.on (papDie l) R.PAP_BRK_STATUS.ACTIVE then (s.advTo (t + ms)).set (papDie l) R.PAP_BRK_STATUS.AT_FORCE else s
    | none => s)

end Sys2Proof.Machine
end

