-- ==== Sys2Proof/Machine/VrcOps.lean ====
section
/-!
DEFINITION. The core rail controller of a power-and-analog die (R370 to R382): the setpoint, the phases, and the frames it
answers with.
-/
namespace Sys2Proof.Machine

/-- The rail controller of a lane's die. -/
def State.vrc (s : State) (l : Lane) : VrcSt := (s.pap l).vrc

/-- The rail controller of a lane's die changed by `f`. -/
def State.modVrc (s : State) (l : Lane) (f : VrcSt → VrcSt) : State := s.modPap l fun p => { p with vrc := f p.vrc }

/-- The slew rate in mV/us (R381, R391). -/
def State.slew (s : State) (l : Lane) : Nat :=
  let n := s.rd (papDie l) R.VRC_CORE_CFG.SLEW
  if n = 0 then 5 else clampN 1 20 n

/-- The setpoint after `t` counts of a slew at `rate` mV/us: one code of 2.5 mV at a time (R381). -/
def slewed (code target rate t : Nat) : Nat :=
  let k := t * rate / 250
  if code ≤ target then min target (code + k) else max target (code - k)

/-- The counts that a slew takes. -/
def slewTime (code target rate : Nat) : Nat := ceilDiv (250 * (max code target - min code target)) rate

/-- The setpoint code now (R372, R381). -/
def State.vddSet (s : State) (l : Lane) : Nat :=
  let v := s.vrc l
  slewed v.code v.target (s.slew l) (s.now - v.slewAt)

/-- The instant at which the setpoint reaches its target. -/
def State.slewEnd (s : State) (l : Lane) : Nat :=
  let v := s.vrc l
  v.slewAt + slewTime v.code v.target (s.slew l)

/-- The setpoint still moves. -/
def State.slewing (s : State) (l : Lane) : Bool := s.vddSet l != (s.vrc l).target

/-- The states of `VRC_CORE_STATUS.SHED` (R375, R391). -/
def shedP4 : Nat := 0
/-- Phases 1 and 3 ramp down. -/
def shed42 : Nat := 1
/-- Phases 0 and 2 switch. -/
def shedP2 : Nat := 2
/-- Phase 2 ramps down. -/
def shed21 : Nat := 3
/-- Phase 0 alone switches. -/
def shedP1 : Nat := 4
/-- The stopped phases start again. -/
def shedRestore : Nat := 5

/-- The shed state. -/
def State.shed (s : State) (l : Lane) : Nat := s.rd (papDie l) R.VRC_CORE_STATUS.SHED

/-- A shed state taken, with the phases that switch in it. -/
def State.setShed (s : State) (l : Lane) (st : Nat) : State :=
  let d := papDie l
  let n := if st = shedP2 ∨ st = shed21 then 2 else if st = shedP1 then 1 else 4
  ((s.wr d R.VRC_CORE_STATUS.SHED st).modVrc l fun v => { v with shedAt := s.now, lowAt := none }).each (List.range 4) fun s p =>
    s.put d R.VRC_PHp_MEAS.ACTIVE (n == 4 || (n == 2 && p % 2 == 0) || p == 0) p

/-- The gain set of a shed state: that of the higher count until a ramp ends (R373, R375). -/
def gainOf (shed : Nat) : Nat :=
  if shed = shedP2 ∨ shed = shed21 then 1 else if shed = shedP1 then 2 else 0

/-- The return to four phases (R375). -/
def State.vrcRestore (s : State) (l : Lane) : State :=
  let st := s.shed l
  if st = shed42 ∨ st = shed21 ∨ st = shedP2 ∨ st = shedP1 then
    let s1 := s.when (st == shed42 || st == shed21) fun s => s.inc (papDie l) R.VRC_CORE_CNT.ABORTS
    s1.setShed l shedRestore
  else s

/-- The controller owes an answer (R378). -/
def State.owe (s : State) (l : Lane) (f : RailFrame) : State := s.modVrc l fun v => { v with owed := v.owed ++ [f] }

/-- The rail in 0.625 mV stands within 5 mV of a code (R372, R382). -/
def railNear (vddc code : Nat) : Bool := decide (vddc ≤ 960 + 4 * code + 8 ∧ 960 + 4 * code ≤ vddc + 8)

/-- The controller starts or retargets towards a code from the present setpoint; the start of a slew restores the phases
(R375, R381). -/
def State.retarget (s : State) (l : Lane) (target : Nat) (tag : Option Nat) : State :=
  let c := s.vddSet l
  let ok := railNear (s.rd (papDie l) R.VRC_CORE_MEAS.VDDC) target
  let s1 := (s.modVrc l fun v =>
    { v with code := c, target := target, slewAt := s.now, tag := tag, lowAt := none
             okAt := if ok then some s.now else none }).wr (papDie l) R.VRC_CORE_STATUS.TARGET target
  if c ≠ target ∧ !(s.vrc l).nap then s1.vrcRestore l else s1

/-- The controller starts at `ST00` at the boot code with four phases (R372). -/
def State.vrcStart (s : State) (l : Lane) : State :=
  let boot := 80 + Config.otp l.idx 0x4000 % 21
  let s1 := s.modVrc l fun _ =>
    { VrcSt.init with running := true, code := boot, target := boot, slewAt := s.now, updAt := s.now }
  (s1.wr (papDie l) R.VRC_CORE_STATUS.TARGET boot).setShed l shedP4

/-- The lane takes an answer off the front of what its controller owes. -/
def State.popOwed (s : State) (l : Lane) : State := s.modVrc l fun v => { v with owed := v.owed.drop 1 }

/-! ## The frames of the rail link (R377, R378) -/

/-- The CRC of a rail frame, over its bytes [31:24], [23:16] and [15:8] (R378). -/
def railCrc (w : Nat) : Nat := crc8 [w / 2 ^ 24 % 256, w / 2 ^ 16 % 256, w / 2 ^ 8 % 256]

/-- A rail frame of 32 bits: type, tag, payload and CRC (R378). -/
def railWord (type tag payload : Nat) : Nat :=
  let w := type % 16 * 2 ^ 28 + tag % 256 * 2 ^ 20 + payload % 4096 * 2 ^ 8
  w + railCrc w

/-- The CRC of a frame holds at its receiver (R378). -/
def railOk (w : Nat) : Bool := railCrc w == w % 256

end Sys2Proof.Machine
end

