-- ==== Sys2Proof/Machine/Power.lean ====
section
/-!
DEFINITION. The lane's side of the rail link, voltage commands, and the lane's power states (R377 to R388).
-/
namespace Sys2Proof.Machine

/-- The lane's side of the rail link. -/
def State.pwr (s : State) (l : Lane) : PwrSt := (s.run l).pwr

/-- The lane's side of the rail link changed by `f`. -/
def State.modPwr (s : State) (l : Lane) (f : PwrSt → PwrSt) : State := s.modRun l fun r => { r with pwr := f r.pwr }

/-! ## Voltage commands (R380 to R382) -/

/-- The target of the last admitted `SET` that has not ended, or the present setpoint (R380). -/
def State.lastTarget (s : State) (l : Lane) : Nat :=
  match (((s.tal l).ofQueue 14).filterMap fun e => match e.job with
    | .vdd t => some t
    | _ => none).getLast? with
  | some t => t
  | none => s.vddSet l

/-- The lowest code at the present CPU frequency (R380, R390). -/
def State.vddFloor (s : State) (l : Lane) : Nat :=
  let d := laneDie l
  if s.on d R.CFG_START_STATUS.REDUCED then s.rd d R.SYS_VDD_FLOOR.FLOOR_400 else s.rd d R.SYS_VDD_FLOOR.FLOOR_800

/-- The result of a request in `SYS_VDD_RESULT`. -/
def State.vddResult (s : State) (l : Lane) (code id : Nat) : State :=
  let d := laneDie l
  ((s.wr d R.SYS_VDD_RESULT.CODE code).put d R.SYS_VDD_RESULT.ADMITTED (code == 0)).wr d R.SYS_VDD_RESULT.ID id

/-- `VDD_GO` (R380). -/
def execVddGo (l : Lane) (who : Initiator) (s : State) : Out :=
  let d := laneDie l
  let c := s.rd d R.SYS_VDD_REQ.CODE
  let t := s.lastTarget l
  .next (if !s.canAccess l who then s
    else if c < s.vddFloor l then s.vddResult l 3 0
    else if 140 < c then s.vddResult l 4 0
    else if s.on d R.SYS_PWR_STATUS.BUSY then s.vddResult l 5 0
    else
      let r := s.submit l who 14 (max c t - min c t) (dl40 (s.rd d R.SYS_VDD_DL_LO.DL) (s.rd d R.SYS_VDD_DL_HI.DL)) (.vdd c)
      r.2.vddResult l r.1.code r.1.id)

/-- The wake event takes effect (R386): the ready bits fall, and the restore begins with the regulator. -/
def State.beginWake (s : State) (l : Lane) (tim dep : Bool) : State :=
  let d := laneDie l
  let s1 := (((s.clr d R.SYS_WAKE_STATUS.REG_READY).clr d R.SYS_WAKE_STATUS.OSC_READY).clr d
    R.SYS_WAKE_STATUS.MEM_READY).clr d R.SYS_WAKE_STATUS.LOGIC_READY
  let s2 := (((s1.when tim fun s => s.set d R.SYS_WAKE_STATUS.WOKE_TIM).when dep fun s =>
    s.set d R.SYS_WAKE_STATUS.WOKE_DEPUTY).set d R.SYS_PWR_STATUS.BUSY).wr d R.SYS_PWR_STATUS.STEP 0
  s2.modPwr l fun p => { p with nap := .waking, wakeAt := s.now, heldWake := none }

/-- A valid lane frame has reached the controller (R379). -/
def State.railHeard (s : State) (l : Lane) : State := s.modVrc l fun v => { v with seen := true, heardAt := s.now }

/-- The controller takes a `SET`: a repeat of its open command changes nothing; a command that is open ends `SUPERSEDED` at
the present setpoint (R381). -/
def State.takeSet (s : State) (l : Lane) (id target : Nat) : State :=
  let v := s.vrc l
  if v.tag = some id ∧ v.target = target then s
  else
    let s1 := match v.tag with
      | some t => s.owe l (.superseded t (s.vddSet l))
      | none => s
    s1.retarget l target (some id)

/-- The controller takes a `NAP`: it sheds to one phase and slews to code 0; a repeat changes nothing (R375, R378, R381). -/
def State.takeNap (s : State) (l : Lane) : State :=
  if (s.vrc l).nap then s
  else
    let s2 := (s.modVrc l fun v => { v with nap := true }).retarget l 0 none
    let st := s2.shed l
    if st = shedP4 ∨ st = shedRestore then s2.setShed l shed42
    else if st = shedP2 then s2.setShed l shed21
    else s2

/-- The controller takes a `WAKE`: it restores four phases and slews to the run code; a repeat changes nothing (R381, R386). -/
def State.takeWake (s : State) (l : Lane) (code : Nat) : State :=
  if (s.vrc l).nap then
    let s2 := (s.modVrc l fun v => { v with nap := false, wake := true }).clr (papDie l) R.VRC_CORE_STATUS.NAP
    (s2.vrcRestore l).retarget l code none
  else s

/-- A lane frame reaches the controller as word `w`: one whose CRC fails is dropped (R378). -/
def State.ctrlTake (s : State) (l : Lane) (w : Nat) : State :=
  if railOk w then
    let s1 := (s.railHeard l).modVrc l fun v => { v with rxOk := true }
    let t := w / 2 ^ 28 % 16
    if t = 1 then s1.takeSet l (w / 2 ^ 20 % 256) (w / 2 ^ 8 % 256)
    else if t = 2 then s1.takeNap l
    else if t = 3 then s1.takeWake l (w / 2 ^ 8 % 256)
    else s1
  else s.modVrc l fun v => { v with rxOk := false }

/-- The entry of an answer ends, and its `SET` is not repeated any more (R381, R382). -/
def State.endSet (s : State) (l : Lane) (id : Nat) (code : OutcomeCode) : State :=
  let s1 := s.modPwr l fun p => { p with unsure := p.unsure.filter (· != id) }
  match ((s1.tal l).ofQueue 14).find? (fun e => e.id == id && e.st != .waiting) with
  | some e => s1.post l e code
  | none => s1

/-- The regulator has restored the rail (R386): the oscillator, the memories and the logic follow, each on the ready bit
before it, and the pairs resume. -/
def State.wakeEnd (s : State) (l : Lane) : State :=
  let d := laneDie l
  let s1 := (((s.set d R.SYS_WAKE_STATUS.REG_READY).set d R.SYS_WAKE_STATUS.OSC_READY).set d
    R.SYS_WAKE_STATUS.MEM_READY).set d R.SYS_WAKE_STATUS.LOGIC_READY
  let s2 := (((s1.wrSat d R.SYS_WAKE_TIME.TIME (s.now - (s.pwr l).wakeAt)).wr d R.SYS_PWR_STATUS.STATE 0).clr d
    R.SYS_PWR_STATUS.BUSY).wr d R.SYS_PWR_STATUS.STEP 0
  let s3 := (s2.modPwr l fun p => { PwrSt.init with heardAt := p.heardAt }).modRun l fun r =>
    { r with sup := { r.sup with seenAt := s.now, suspectAt := none } }
  s3.irq l R.SYS_PWR_CTRL.WAKE_IRQ_EN

/-- Step 6 of Nap entry ends with the rail at code 0 on one phase; a wake held during the entry begins at once (R385, R387). -/
def State.napEnd (s : State) (l : Lane) : State :=
  let d := laneDie l
  let s2 := (s.clr d R.SYS_PWR_STATUS.BUSY).modPwr l fun p => { p with nap := .nap }
  match (s.pwr l).heldWake with
  | some (t, p) => s2.beginWake l t p
  | none => s2

/-- A valid controller frame shows the link up to the lane, and `RX_OK` in it that the frame which the lane has sent in the same
link cycle has arrived (R378, R379, R381). -/
def State.laneHeard (s : State) (l : Lane) (rxOk : Bool) : State :=
  (s.set (laneDie l) R.SYS_RLK_STATUS.UP).modPwr l fun p =>
    { p with heardAt := s.now, lost := false, unsure := if rxOk then p.unsure.filter fun i => some i != p.sent else p.unsure }

/-- A controller frame reaches the lane as word `w`: one whose CRC fails is dropped and counted; an answer ends its entry, or
the Nap entry or exit it belongs to; a `STATUS` shows the rail (R378, R382, R385, R386, R390). -/
def State.laneTake (s : State) (l : Lane) (w : Nat) : State :=
  let d := laneDie l
  if !s.alive l then s
  else if !railOk w then (s.inc d R.SYS_RLK_CNT.CRC_ERR).modPwr l fun p => { p with sent := none }
  else
    let tag := w / 2 ^ 20 % 256
    let code := w / 2 ^ 8 % 256
    let s1 := (s.laneHeard l (bit tag 7)).modPwr l fun p => { p with sent := none }
    let t := w / 2 ^ 28 % 16
    if t = 9 then
      let s2 := s1.wr d R.SYS_VDD_STATUS.SETPOINT code
      if (s.pwr l).nap = .waking then s2.wakeEnd l else s2.endSet l (tag % 128) .done
    else if t = 10 then
      ((s1.wr d R.SYS_VDD_STATUS.SETPOINT code).inc d R.SYS_RLK_CNT.SUPERSEDED).endSet l (tag % 128) .superseded
    else if t = 11 then
      let s2 := s1.wr d R.SYS_VDD_STATUS.SETPOINT code
      if (s.pwr l).nap = .entering then s2.napEnd l else s2
    else if t = 8 then
      ((s1.wr d R.SYS_VDD_STATUS.SETPOINT (s.vddSet l)).wr d R.SYS_VDD_STATUS.MEAS (w / 2 ^ 8 % 4096)).wr d
        R.SYS_VDD_STATUS.SHED (tag % 8)
    else s1

/-- The controller sends a frame in its slot, `RX_OK` for the lane frame of the same link cycle (R378). A lane slot without a
`SET`, `NAP` or `WAKE` holds a valid `IDLE` (R377; log entry 50). -/
def State.ctrlSend (s : State) (l : Lane) (type tag payload : Nat) (flip : BitVec 32) : State :=
  let v := s.vrc l
  let s1 := (s.when v.rxOk fun s => s.railHeard l).modVrc l fun v => { v with rxOk := true }
  s1.laneTake l (railWord type (tag % 128 + 128 * b2n v.rxOk) payload ^^^ flip.toNat)

/-- The entry whose `SET` frame goes next (R381): one that is unsure before any later one, else the oldest that waits. -/
def State.nextSet (s : State) (l : Lane) : Option TalEntry :=
  let es := (s.tal l).ofQueue 14
  match es.find? fun e => (s.pwr l).unsure.contains e.id with
  | some e => some e
  | none => es.find? fun e => e.st = .waiting

/-- `RLK_SET` (R381). -/
def execRlkSet (l : Lane) (flip : BitVec 32) (s : State) : Out :=
  .next (match s.nextSet l with
    | none => s
    | some e =>
      match e.job with
      | .vdd target =>
        if !s.alive l || !(s.vrc l).running then s
        else
          let s1 := (s.setEnt l e.id fun x => { x with st := if x.st = .waiting then .active else x.st }).wr (laneDie l)
            R.SYS_VDD_STATUS.TARGET target
          let s2 := s1.modPwr l fun p =>
            { p with sent := some e.id, unsure := if p.unsure.contains e.id then p.unsure else p.unsure ++ [e.id] }
          s2.ctrlTake l (railWord 1 e.id target ^^^ flip.toNat)
      | _ => s)

/-- `RLK_ACK` (R382, R386). -/
def execRlkAck (l : Lane) (flip : BitVec 32) (s : State) : Out :=
  .next (match (s.vrc l).owed with
    | .ack tag code :: _ => (s.popOwed l).ctrlSend l 9 tag code flip
    | _ => s)

/-- `RLK_SUPERSEDED` (R381, R382). -/
def execRlkSuperseded (l : Lane) (flip : BitVec 32) (s : State) : Out :=
  .next (match (s.vrc l).owed with
    | .superseded tag code :: _ => (s.popOwed l).ctrlSend l 10 tag code flip
    | _ => s)

/-- The tag of a `STATUS` frame: the shed state, a slew, `NAP` or `WAKE` in progress, `OC` (R378). -/
def State.statusTag (s : State) (l : Lane) : Nat :=
  let v := s.vrc l
  s.shed l + 8 * b2n (s.slewing l) + 16 * b2n (v.nap || v.wake) + 32 * b2n v.oc

/-- `RLK_STATUS` (R378, R390): sent when the controller owes nothing else. -/
def execRlkStatus (l : Lane) (flip : BitVec 32) (s : State) : Out :=
  .next (if (s.vrc l).running && (s.vrc l).owed.isEmpty && s.alive l then
    (s.modVrc l fun v => { v with oc := false }).ctrlSend l 8 (s.statusTag l) (s.rd (papDie l) R.VRC_CORE_MEAS.VDDC) flip
  else s)

/-- `RLK_LOSS` (R379), 10 us after the last valid frame: the lane ends its voltage commands with `FAILED_OFF`; the controller
finishes the slew and holds. The controller judges the link from the first valid frame of each start on (R377). -/
def execRlkLoss (l : Lane) (controller : Bool) (s : State) : Out :=
  let d := laneDie l
  .next (if controller then
    if (s.vrc l).running && (s.vrc l).seen then
      ((s.advTo ((s.vrc l).heardAt + 10 * us)).set (papDie l) R.VRC_CORE_STATUS.RLK_LOSS).modVrc l fun v =>
        { v with seen := false }
    else s
  else if s.alive l && !(s.pwr l).lost then
    let s0 := s.advTo ((s.pwr l).heardAt + 10 * us)
    let s1 := ((s0.clr d R.SYS_RLK_STATUS.UP).set d R.SYS_RLK_STATUS.DOWN).inc d R.SYS_RLK_CNT.DOWN
    let s2 := s1.each ((s1.tal l).ofQueue 14) fun s e => s.post l e .failedOff
    s2.modPwr l fun p => { p with unsure := [], lost := true }
  else s)

/-! ## Idle (R384) -/

/-- `PWR_IDLE` (R384). -/
def execPwrIdle (l : Lane) (s : State) : Out :=
  .next (if s.firmware l then s.wr (laneDie l) R.SYS_PWR_STATUS.STATE 1 else s)

/-- `IDLE_INTERRUPT` (R384). -/
def execIdleInterrupt (l : Lane) (s : State) : Out :=
  .next (if s.alive l && s.rd (laneDie l) R.SYS_PWR_STATUS.STATE == 1 then s.wr (laneDie l) R.SYS_PWR_STATUS.STATE 0 else s)

/-! ## Nap (R385 to R387) -/

/-- The instant at which the Deputy's present window for a lane closes (R333, R334). -/
def State.windowClose (s : State) (l : Lane) : Nat :=
  let h := (s.depLane l).hb
  h.since + (if h.first then clampN 10 5000 (s.rd .ds R.DSP_Lx_HB_START.MS l.idx) * ms
    else s.rd .ds R.DSP_Lx_HB_CFG.CLOSE l.idx * us)

/-- The earliest expiry of a timer that wakes the lane, as an instant of the model's clock. -/
def State.wakeTimer (s : State) (l : Lane) : Option Nat :=
  ((List.finRange 8).filterMap fun n =>
    if bit (s.rd (laneDie l) R.SYS_WAKE_CFG.TIM) n.val then (s.timEnd l n).map (s.instantOf l) else none).min?

/-- A CAN controller transmits or runs its schedule (R387). -/
def State.canBusy (s : State) (l : Lane) : Bool :=
  (List.finRange 4).any fun n => (s.run l).can[n].attempt.isSome || s.on (laneDie l) R.CANn_SCHED_STATUS.RUNNING n

/-- Some timebase, converter group, band slot or arithmetic slot is enabled (R387). -/
def State.anyEngine (s : State) (l : Lane) : Bool :=
  let d := laneDie l
  (List.range 8).any (fun t => s.on d R.PWM_TBt_CFG.EN t) || (List.range 12).any (fun g => s.on d R.ADC_Gg_CFG.MODE g)
    || (List.range 32).any (fun n => s.on d R.CE_Bn_CFG.EN n) || (List.range 24).any (fun i => s.on d R.CE_Ai_CFG.OP i)

/-- A die sensor stands within 10 degrees of a limit (R387): of its class's `WARN`, `DS` and `DE`, or of 158 degrees. -/
def State.nearLimit (s : State) (l : Lane) : Bool :=
  (List.range 14).any fun i =>
    s.on (laneDie l) R.THM_SENSi.VALID i
      && decide (s.thmLimit l (if i < 8 then 0 else if i < 12 then 1 else 2) true - 100
        ≤ s.rdS (laneDie l) R.THM_SENSi.TEMP i)

/-- The refuser codes of R387 that also refuse Parked and Storage, and the whole table for Nap. -/
def State.napRefuser (s : State) (l : Lane) (nvmBusy : Bool) : Nat :=
  let d := laneDie l
  if !(s.tal l).entries.isEmpty then 1
  else if s.canBusy l then 2
  else if s.depOn && s.on .ds R.DSP_Lx_STATUS.ARMED l.idx && (match s.wakeTimer l with
      | some t => decide (s.windowClose l < t + 80 * us)
      | none => true) then 3
  else if nvmBusy then 4
  else if s.on d R.THM_STATUS.FAST || s.nearLimit l then 5
  else if s.on d R.LNK_STATUS.GRANTED || s.role l == roleWarm || s.role l == roleHot || s.on d R.LNK_CTRL.CHS_EN then 6
  else if s.modeEng.step != .idle || s.anyEngine l then 7
  else if s.on d R.SEC_LC_STATUS.BUSY || s.debugOpen l then 8
  else 0

/-- A refusal or an abort counted (R387, R390). -/
def State.refuseEntry (s : State) (l : Lane) (code : Nat) (aborted : Bool) : State :=
  let d := laneDie l
  (((s.inc d R.SYS_REFUSE_CNT.COUNT).wr d R.SYS_REFUSE_CNT.LAST_CODE code).put d R.SYS_REFUSE_CNT.ABORTED aborted).irq l
    R.SYS_PWR_CTRL.REFUSE_IRQ_EN

/-- `PWR_NAP` (R385, R387): only in Ready, Service and Stationary with a wake source named. An abort during steps 2 to 5
returns to Run; otherwise the lane has reached step 6 and waits for `NAP_DONE`. -/
def execPwrNap (l : Lane) (nvmBusy : Bool) (abort : Fin 9) (s : State) : Out :=
  let d := laneDie l
  let m := s.modeOf l
  .next (if s.writable l && !s.on d R.SYS_PWR_STATUS.BUSY && (m == modeReady || m == modeService || m == modeStationary)
      && (s.rd d R.SYS_WAKE_CFG.TIM != 0 || s.on d R.SYS_WAKE_CFG.DEPUTY) then
    let code := s.napRefuser l nvmBusy
    if code ≠ 0 then s.refuseEntry l code false
    else if abort.val ≠ 0 then s.refuseEntry l abort.val true
    else (((s.set d R.SYS_PWR_STATUS.BUSY).wr d R.SYS_PWR_STATUS.STEP 6).wr d R.SYS_PWR_STATUS.STATE 2).modPwr l fun p =>
      { p with nap := .entering, runCode := s.vddSet l, heldWake := none }
  else s)

/-- `RLK_NAP` (R378, R385). -/
def execRlkNap (l : Lane) (flip : BitVec 32) (s : State) : Out :=
  .next (if (s.pwr l).nap == .entering && (s.vrc l).running then s.ctrlTake l (railWord 2 0 0 ^^^ flip.toNat) else s)

/-- `RLK_NAP_DONE` (R385, R387): the rail stands at code 0 on one phase. -/
def execRlkNapDone (l : Lane) (flip : BitVec 32) (s : State) : Out :=
  .next (if (s.pwr l).nap == .entering && (s.vrc l).nap && s.shed l == shedP1 && (s.vrc l).owed.isEmpty then
    ((s.advTo (s.slewEnd l)).set (papDie l) R.VRC_CORE_STATUS.NAP).ctrlSend l 11 0 0 flip
  else s)

/-- `NAP_WAKE` (R386, R387): an enabled source wakes the lane; one that fires during the entry is held. -/
def execNapWake (l : Lane) (tim : Option (Fin 8)) (s : State) : Out :=
  let d := laneDie l
  let enabled := match tim with
    | some n => s.rdBit d R.SYS_WAKE_CFG.TIM n.val && s.on d R.TIM_Tn_STATUS.EXPIRED n
    | none => s.on d R.SYS_WAKE_CFG.DEPUTY
  .next (if !s.alive l || !enabled then s
    else match (s.pwr l).nap with
      | .nap => s.beginWake l tim.isSome tim.isNone
      | .entering => s.modPwr l fun p =>
          let h := p.heldWake.getD (false, false)
          { p with heldWake := some (h.1 || tim.isSome, h.2 || tim.isNone) }
      | _ => s)

/-- `RLK_WAKE` (R378, R386). -/
def execRlkWake (l : Lane) (flip : BitVec 32) (s : State) : Out :=
  .next (if (s.pwr l).nap == .waking && (s.vrc l).running then
    s.ctrlTake l (railWord 3 0 (s.pwr l).runCode ^^^ flip.toNat)
  else s)

end Sys2Proof.Machine
end

