-- ==== Sys2Proof/Machine/LaneLinkOps.lean ====
section
/-!
DEFINITION. The lane link and the state copy (R304 to R315): receiving a frame, the copy set's bytes, its capture and
application, the Deputy's judgement, snapshots.
-/
namespace Sys2Proof.Machine

/-! ## Frames (R305 to R307) -/

/-- The bytes of a frame: start, type, number, payload length, fragment index, payload, CRC-32C (R305). -/
def linkBytes (type num frag : Nat) (p : List Nat) : List Nat :=
  let body := [type, num] ++ leBytes p.length 2 ++ leBytes frag 2 ++ p
  leBytes 0xA55A 2 ++ body ++ leBytes (crc32c body) 4

/-- A receiver takes the bytes as a frame: the start field, a length of at most 512 and the CRC hold (R305). -/
def linkFrameOk (bs : List Nat) : Bool :=
  let n := leNat ((bs.drop 4).take 2)
  leNat (bs.take 2) == 0xA55A && decide (n ≤ 512) && decide (12 + n ≤ bs.length)
    && crc32c ((bs.drop 2).take (6 + n)) == leNat ((bs.drop (8 + n)).take 4)

/-- A frame passes its receiver's checks: one that arrives as it was sent does (R305). One that arrives changed and still passes
is taken as it was sent (DESIGN CHOICE, log entry 49). -/
def linkPasses (flips : List (BitVec 8)) (bs : List Nat) : Bool := flips.all (· == 0) || linkFrameOk (flipped flips bs)

/-- Nothing that ranks before rank `r` of R306 (0 `TIME` to 8 `IDLE`) waits to be sent. When `STATE` is due is not held (log
entry 49). -/
def LinkSt.next? (k : LinkSt) (r : Nat) : Bool :=
  (decide (r ≤ 1) || k.modeOut.isNone) && (decide (r ≤ 2) || k.cmpOut.isNone) && (decide (r ≤ 3) || k.inOut.isNone)
    && (decide (r ≤ 4) || k.ackOut.isNone) && (decide (r ≤ 7) || k.copyOut.isNone)

/-- A frame of the partner reaches lane `l`: `rank` is its place in R306, `sent` is what sending it does, `got` what taking it
does. A frame that fails its checks is dropped and counted, and each gap in the numbering is counted (R305). An unpowered lane
or one in reset presents no frames (R304). -/
def State.frame (s : State) (l : Lane) (flips : List (BitVec 8)) (rank type frag : Nat) (payload : List Nat) (ready : Bool)
    (sent got : State → State) : State :=
  let d := laneDie l
  if s.domains l && s.domains l.other && ready && (s.run l.other).link.next? rank then
    let n := (s.run l.other).link.next
    let s1 := sent (s.modLnk l.other fun k => { k with next := (n + 1) % 256 })
    if linkPasses flips (linkBytes type n frag payload) then
      let gap := match (s1.run l).link.expect with
        | some e => (n + 256 - e) % 256
        | none => 0
      got ((s1.inc d R.LNK_ERR_CNT.LOST 0 0 gap).modLnk l fun k => { k with expect := some ((n + 1) % 256), lastRx := s1.now })
    else s1.inc d R.LNK_ERR_CNT.CRC_ERR
  else s

/-- The link is up once each lane has received the other's `STATE` and the versions agree (R307). -/
def State.linkCheck (s : State) : State :=
  let v := fun l => s.rd (laneDie l) R.CFG_VERSION.VERSION
  if (s.run .a).link.stateSeen && (s.run .b).link.stateSeen && v .a == v .b then
    (s.set .la R.LNK_STATUS.LINK_UP).set .lb R.LNK_STATUS.LINK_UP
  else s

/-- The payload of a `STATE` frame: the role word, the lamp sequence and the configuration version of its sender (R306). -/
def State.statePayload (s : State) (x : Lane) : List Nat :=
  leBytes (s.role x + 2 ^ 8 * b2n (s.deputySeen x)) 4 ++ leBytes (s.rd (laneDie x) R.CFG_LAMP_SEQ.SEQ) 4
    ++ leBytes (s.rd (laneDie x) R.CFG_VERSION.VERSION) 4

/-- What a lane does on its partner's `STATE` (R306 to R308). Without the Deputy a lane in `START` learns from it that the
partner is `ACTIVE`. -/
def State.stateGot (s : State) (l : Lane) : State :=
  let x := l.other
  let s1 := s.modLnk l fun k =>
    { k with stateSeen := true, partnerRole := s.role x, partnerDeputySeen := s.deputySeen x,
             partnerLamp := s.rd (laneDie x) R.CFG_LAMP_SEQ.SEQ, partnerVersion := s.rd (laneDie x) R.CFG_VERSION.VERSION,
             lastState := some s.now }
  let s1 := s1.modRun l fun r => { r with start := { r.start with answerAt := some (r.start.answerAt.getD s.now) } }
  let s2 := (s1.set (laneDie l) R.LNK_STATUS.PARTNER).linkCheck
  if s2.role l == roleStart && s2.role x == roleActive && (!s2.depOn || s2.dsLost l) then
    (s2.setRole l roleWarm).modLnk l fun k => { k with byReplacement := true }
  else s2

/-- The partner holds the grant, as lane `l` learns it (R308). -/
def State.partnerGrant (s : State) (l : Lane) : Bool :=
  if s.depOn && !s.dsLost l then s.granted l.other else (s.run l).link.partnerRole == roleActive

/-! ## The copy set (R309 to R311) -/

/-- The window length in bytes: a multiple of 4, at most 15,360. -/
def State.fwLen (s : State) (l : Lane) : Nat := min 15360 (s.rd (laneDie l) R.LNK_FW_LEN.LEN) / 4 * 4

/-- The operation code of `ANGLE` (R186). -/
def opAngleCode : Nat := 5

/-- The arithmetic slots that the copy holds (R309). -/
def State.copySlots (s : State) (l : Lane) : List (Nat × Nat) :=
  (List.finRange 24).filterMap fun (i : Fin 24) =>
    if s.rdBit (laneDie l) R.LNK_COPY_SLOTS.SLOTS i then
      let a := s.arith l i
      some (i.val, if s.rd (laneDie l) R.CE_Ai_CFG.OP i = opAngleCode then a.theta else ux 48 a.integ)
    else none

/-- The hardware state of a lane at the boundary of cycle `k` (R309). -/
def State.hwCopy (s : State) (l : Lane) (k : Nat) : HwCopy :=
  let d := laneDie l
  let p := (s.pap l).lvp
  { cycle := k, laneTime := s.laneTime l, hvc := s.rd d R.NRG_HVC_STATUS.STATE, slots := s.copySlots l
    motor := (List.finRange 2).flatMap fun m =>
      [(s.region l m : Int), (s.ang l m : Int), (s.rd d R.MOT_Mm_STATUS.KE_STATE m : Int), (s.mach l m).idFw,
       (s.mach l m).refs.delta, ((s.mach l m).ramp : Int), (s.rd d R.MOT_Mm_STATUS.RES_DISTRUST m : Int)]
    energy := [(s.run l).nrg.plim, (s.rd d R.NRG_HVC_STATUS.STATE : Int), (s.rd d R.NRG_OBC_STATUS.STATE : Int),
      ((s.run l).nrg.vNow : Int), ((s.run l).nrg.pll : Int)]
    lvp := [(s.rd (papDie l) R.LVP_STATUS.PATH : Int), (s.rd (papDie l) R.LVP_STATUS.STAGE : Int),
      ((s.now - p.stageAt : Nat) : Int), (match p.requalAt with
        | some t => ((t - s.now : Nat) : Int)
        | none => -1)] }

/-- A list of 4-byte fields filled up to `n` bytes with zeros. -/
def fields4 (xs : List Int) (n : Nat) : List Nat :=
  ((xs.flatMap fun x => leBytes (ux 32 x) 4) ++ List.replicate n 0).take n

/-- The 1,024 bytes of the hardware state (R309). -/
def HwCopy.bytes (h : HwCopy) : List Nat :=
  leBytes h.cycle 8 ++ leBytes h.laneTime 8
    ++ ((List.range 24).flatMap fun i => leBytes (((h.slots.find? fun x => x.1 == i).map Prod.snd).getD 0) 8)
    ++ fields4 (h.motor.take 7) 64 ++ fields4 (h.motor.drop 7) 64 ++ fields4 h.energy 64 ++ fields4 h.lvp 64
    ++ List.replicate 560 0

/-- The bytes of a copy set. -/
def CopySet.bytes (c : CopySet) : List Nat := c.hw.bytes ++ c.window

/-- The signature of a copy set (R311). -/
def CopySet.sig (c : CopySet) : Nat := crc32c c.bytes

/-- The fragments of a copy set (R310). -/
def CopySet.frags (c : CopySet) : Nat := ceilDiv (1024 + c.window.length) 512

/-- The 512-byte fragment `i` of a copy set. -/
def CopySet.fragment (c : CopySet) (i : Nat) : List Nat := (c.bytes.drop (512 * i)).take 512

/-- The arithmetic slots of a copy applied: by replacement, or by the difference to the own value at the same boundary
(R311). -/
def State.applySlots (s : State) (l : Lane) (own new : List (Nat × Nat)) (replace : Bool) : State :=
  s.each (List.finRange 24) fun s i =>
    match new.find? fun x => x.1 == i.val with
    | none => s
    | some (_, v) =>
      let o := ((own.find? fun x => x.1 == i.val).map Prod.snd).getD 0
      let ang := decide (s.rd (laneDie l) R.CE_Ai_CFG.OP i = opAngleCode)
      s.modArith l i fun a =>
        if ang then { a with theta := if replace then low 32 v else ux 32 ((a.theta : Int) + v - o) }
        else { a with integ := if replace then sx 48 (low 48 v) else sx 48 (ux 48 (a.integ + v - o)) }

/-- The holds of a machine on its slots and its trip group as the angle state and the region that a copy has brought ask (R257,
R262). -/
def State.motFollow (s : State) (l : Lane) (m : Fin 2) : State :=
  let a := s.ang l m
  let s1 := if torqueOk a then (s.motHold l m (s.region l m)).motWithdraw l m
    else if a = angAsc then (s.motOverride l m (some false)).motWithdraw l m
    else if a = angOff ∨ a = angNone then (if (s.mach l m).own.isSome then s else s.motForce l m)
    else s
  s1.motSync l m

/-- Everything of a copy that is replaced: the motor, energy and power-path items and the window (R311). The power path of a
die that is off stays off (DEDUCED, log entry 20). -/
def State.applyRest (s : State) (l : Lane) (c : CopySet) : State :=
  let d := laneDie l
  let g := fun (xs : List Int) (i : Nat) => xs.getD i 0
  let n := fun (xs : List Int) (i : Nat) => (g xs i).toNat
  let s1 := s.each (List.finRange 2) fun s m =>
    let xs := c.hw.motor.drop (7 * m.val)
    let s1 := (((s.wr d R.MOT_Mm_STATUS.REGION (n xs 0) m).wr d R.MOT_Mm_STATUS.ANGLE_STATE (n xs 1) m).wr d
      R.MOT_Mm_STATUS.KE_STATE (n xs 2) m).wr d R.MOT_Mm_STATUS.RES_DISTRUST (n xs 6) m
    let s2 := s1.modMach l m fun x => { x with idFw := g xs 3, refs := { x.refs with delta := g xs 4 }, ramp := n xs 5 }
    if s.region l m = n xs 0 ∧ s.ang l m = n xs 1 then s2 else s2.motFollow l m
  let e := c.hw.energy
  let s2 := ((s1.wr d R.NRG_HVC_STATUS.STATE (n e 1)).wr d R.NRG_OBC_STATUS.STATE (n e 2)).modRun l fun r =>
    { r with nrg := { r.nrg with plim := g e 0, vNow := n e 3, pll := n e 4 } }
  let p := c.hw.lvp
  let s3 := if s2.rd (papDie l) R.LVP_STATUS.PATH = 0 then s2
    else (((s2.wr (papDie l) R.LVP_STATUS.PATH (n p 0)).wr (papDie l) R.LVP_STATUS.STAGE (n p 1)).put (papDie l)
      R.LVP_STATUS.REQUAL (decide (0 ≤ g p 3))).modPap l fun x =>
        { x with lvp := { x.lvp with stageAt := s2.now - n p 2, requalAt := if 0 ≤ g p 3 then some (s2.now + n p 3) else none } }
  s3.setBytes l (s3.rd d R.LNK_FW_WIN.ADDR / 4 * 4) c.window

/-- A copy applied at a boundary (R311): `FW_NEW` sets. -/
def State.applySet (s : State) (l : Lane) (c : CopySet) (replace : Bool) : State :=
  ((s.applySlots l (s.run l).link.ownAtB.slots c.hw.slots replace).applyRest l c).set (laneDie l) R.LNK_COPY_STATUS.FW_NEW

/-- At a boundary, a `WARM` or `HOT` lane applies the copy that it has acknowledged (R311). -/
def State.copyApply (s : State) (l : Lane) : State :=
  match (s.run l).link.acked with
  | none => s
  | some c =>
    if s.role l == roleWarm || s.role l == roleHot then
      (s.applySet l c (s.run l).link.byReplacement).modLnk l fun k =>
        { k with acked := none, lastApplied := some c, byReplacement := false }
    else s.modLnk l fun k => { k with acked := none }

/-- The entry of the copy that is on its way. -/
def State.copyEntry (s : State) (l : Lane) : Option TalEntry := ((s.tal l).ofQueue 13 false).head?

/-- At the boundary of cycle `k` the `ACTIVE` lane captures and submits a copy (R310); a copy of which nothing has been sent
is superseded (R108). A copy is due once the partner's latest `STATE` reports `WARM` or `HOT`. -/
def State.copyCapture (s : State) (l : Lane) (k : Nat) : State :=
  let d := laneDie l
  let x := (s.run l).link
  let due := s.role l == roleActive && !s.singleCfg l && (x.partnerRole == roleWarm || x.partnerRole == roleHot)
  let s := s.modLnk l fun y => { y with due := due }
  if due && s.on d R.LNK_CTRL.COPY_EN && s.on d R.LNK_STATUS.LINK_UP then
    let s0 := match s.copyEntry l with
      | some e => if x.copyFrag = 0 ∧ x.resent = false then s.post l e .superseded else s
      | none => s
    let set_ : CopySet :=
      { hw := s0.hwCopy l k, window := s0.bytes l (s.rd d R.LNK_FW_WIN.ADDR / 4 * 4) (s.fwLen l) }
    let dl := s.laneTime l + clampN 50 95 (s.rd d R.LNK_COPY_CFG.DL) * us
    let r := s0.submit l .lnk 13 (ceilDiv (1024 + s.fwLen l) 1024) dl (.copy k)
    match r.1 with
    | .admitted _ =>
      let s1 := r.2.modLnk l fun y => { y with copyOut := some set_, copyFrag := 0, copyEnd := false, resent := false }
      ((s1.clr d R.LNK_COPY_STATUS.SENT).clr d R.LNK_COPY_STATUS.ACKED).wr d R.LNK_COPY_STATUS.CYCLE k
    | _ => r.2
  else s

/-- The own values at a boundary, for the difference of R311. -/
def State.ownCapture (s : State) (l : Lane) (k : Nat) : State :=
  let h := s.hwCopy l k
  s.modLnk l fun x => { x with ownAtB := h }

/-- The copy goes out once more, while its entry is not `ENDING` (R310). -/
def State.copyResend (s : State) (l : Lane) : State :=
  let x := (s.run l).link
  match x.copyOut, s.copyEntry l with
  | some _, some e =>
    if x.resent || e.st == .ending then s
    else (s.modLnk l fun y => { y with copyFrag := 0, copyEnd := false, resent := true }).inc (laneDie l) R.LNK_ERR_CNT.RESEND
  | _, _ => s

/-! ## The Deputy's judgement (R312) -/

/-- The verdict on the copy of a cycle: its code (0 verified, then the rows of R312 from 1) and the lane it counts against. -/
def State.verdict (s : State) (x : Lane) : Nat × Option Lane :=
  let y := x.other
  match (s.depLane x).sigs, (s.depLane y).sigs with
  | some (ka, a), some (kb, b) =>
    if ka ≠ kb then (1, none)
    else
      let m := s.on .ds R.DSP_Lx_COPY.MATCH y.idx
      if a = b then (if m then (0, none) else (2, some x)) else if m then (3, some x) else (4, some y)
  | _, _ => (1, none)

/-- The standby's role after a verdict (R308). -/
def State.verdictRole (s : State) (y : Lane) (ok : Bool) : State :=
  let d := laneDie y
  if s.role y == roleWarm && ok && decide (orOne (s.rd d R.LNK_CTRL.WARM_CNT) ≤ s.rd d R.LNK_COPY_STATUS.WARM)
      && s.rd d R.LCK_STATUS.DEBUG_SPLIT == 0 then (s.setRole y roleHot).laneReturn y
  else if s.role y == roleHot && decide (3 ≤ s.rd d R.LNK_COPY_STATUS.UNVER_RUN) then s.setRole y roleWarm
  else s

/-- The verdict in a lane's own copy registers (R312, R328). -/
def State.verdictShow (s : State) (l : Lane) (ok : Bool) : State :=
  let d := laneDie l
  let s1 := s.put d R.LNK_COPY_STATUS.VERIFIED ok
  if ok then ((s1.wr d R.LNK_COPY_STATUS.UNVER_RUN 0).inc d R.LNK_COPY_STATUS.WARM).inc d R.LNK_COPY_CNT.VERIFIED
  else (((s1.inc d R.LNK_COPY_STATUS.UNVER_RUN).wr d R.LNK_COPY_STATUS.WARM 0).inc d R.LNK_COPY_CNT.UNVERIFIED).set d
    R.LNK_STATUS.UNVERIFIED

/-- A run of verdicts against one lane: two of them are its state-copy signature mismatch (R312, R27). -/
def State.verdictRun (s : State) (ok : Bool) (against : Option Lane) : State :=
  match against with
  | none => if ok then s.modDep fun d => { d with against := none } else s
  | some l =>
    let s1 := s.inc .ds R.DSP_Lx_CNT.COPY_AGAINST l.idx
    match s.dep.against with
    | some (k, _) =>
      if k = l then (s1.modDep fun d => { d with against := none }).declare (lossOf l) 5
      else s1.modDep fun d => { d with against := some (l, 1) }
    | none => s1.modDep fun d => { d with against := some (l, 1) }

/-- A planned hand-over at a verified copy (R318): the lane lowers its request, and the grant is removed without a fault. -/
def State.handOver (s : State) (x : Lane) : State :=
  if (s.run x).link.handover then
    let s1 := ((s.clr (laneDie x) R.LNK_STATUS.AUTH_REQ).clr .ds (reqFld x)).removeGrant x
    s1.modLnk x fun k => { k with planned := true }
  else s

/-- The Deputy's judgement at the boundary that ends a cycle of the granted lane (R312, R335, R20); a cycle in which no copy
was due (R310) is not judged. -/
def State.judge (s : State) (x : Lane) : State :=
  let y := x.other
  if s.granted x && !s.single then
    let s0 := fun (s : State) => s.each lanes fun s l => s.modDepLane l fun k => { k with sigs := none }
    if (s.role y == roleWarm || s.role y == roleHot) && (s.run x).link.due then
      let v := s.verdict x
      let ok := v.1 == 0
      let s1 := (s0 s).each lanes fun s l => (s.wr .ds R.DSP_Lx_COPY.VERDICT v.1 l.idx).verdictShow l ok
      let s2 := (s1.modDepLane y fun k => { k with verified := ok }).verdictRole y ok
      let s3 := (s2.verdictRun ok v.2).grantLogic
      if ok then s3.handOver x else s3
    else ((s0 s).modDepLane y fun k => { k with verified := false }).grantLogic
  else s

/-! ## Snapshots (R313 to R315) -/

/-- The latest deadline there is: the spec names none for this submission (log entry 6). -/
def State.lateDl (s : State) (l : Lane) : Nat := s.laneTime l + (2 ^ 40 - 1)

/-- The partner's `STATE` has arrived within the last traction cycle (R328). -/
def State.partnerNear (s : State) (l : Lane) : Bool :=
  match (s.run l).link.lastState with
  | some t => decide (s.now ≤ t + 100 * us)
  | none => false

/-- The snapshot that a lane saves now (R313, R314); its sequence and slot are given when it is written. -/
def State.snapshotNow (s : State) (l : Lane) : Snapshot :=
  let d := laneDie l
  let r := s.role l
  let own : CopySet :=
    { hw := s.hwCopy l (s.run l).clk.cycle, window := s.bytes l (s.rd d R.LNK_FW_WIN.ADDR / 4 * 4) (s.fwLen l) }
  let shared := if r = roleActive then some own else if r = roleWarm ∨ r = roleHot then (s.run l).link.lastApplied else none
  { seq := 0, slot := 0, role := r, version := s.rd d R.CFG_VERSION.VERSION
    cycle := match shared with
      | some c => c.hw.cycle
      | none => 0
    partnerLamp := if s.partnerNear l then (s.run l).link.partnerLamp else 0xFFFFFFFF
    partnerTime := ux 64 ((s.laneTime l : Int) + s.partnerOfs l), netTime := s.netTime l
    unc := s.netUnc l, shared := shared
    own := s.bytes l (s.rd d R.LNK_OWN_WIN.ADDR / 4 * 4) (min 16384 (s.rd d R.LNK_OWN_LEN.LEN) / 4 * 4) }

/-- A snapshot submitted to the snapshot target of `Q13` (R310, R313). -/
def State.snapSubmit (s : State) (l : Lane) : State :=
  if s.on (laneDie l) R.LNK_CTRL.SNAP_EN then
    let x := s.snapshotNow l
    let bytes := 64 + x.own.length + (match x.shared with
      | some c => 1024 + c.window.length
      | none => 0)
    (s.submit l .lnk 13 (ceilDiv bytes 1024) (s.lateDl l) (.snapshot x)).2.modLnk l fun k => { k with snapAt := s.now }
  else s

/-- The newest snapshot of a lane's ring. -/
def State.newestSnap (s : State) (l : Lane) : Option Snapshot :=
  (s.nv l).snaps.foldl (fun m x => match m with
    | none => some x
    | some y => if y.seq < x.seq then some x else some y) none

/-- The outcome of a snapshot: written in the next slot of the ring, or not (R310, R313). -/
def State.snapDone (s : State) (l : Lane) (x : Snapshot) (ok : Bool) : State :=
  let d := laneDie l
  if ok then
    let pos := s.rd d R.LNK_SNAP_STATUS.POS
    let seq := match s.newestSnap l with
      | some y => y.seq + 1
      | none => 1
    let s1 := s.modNv l fun n => { n with snaps := (n.snaps.filter fun y => y.slot != pos) ++ [{ x with seq := seq, slot := pos }] }
    (s1.wr d R.LNK_SNAP_STATUS.POS ((pos + 1) % 1024)).clr d R.LNK_SNAP_STATUS.FAIL
  else s.set d R.LNK_SNAP_STATUS.FAIL

/-- The 64-byte header of a snapshot slot that lane `l` has written (R314). -/
def Snapshot.header (x : Snapshot) (l : Lane) : List Nat :=
  let shared := (x.shared.map CopySet.bytes).getD []
  let h := leBytes 0x534E4150 4 ++ leBytes x.seq 4 ++ [b2n (l == .b), x.role, 0, 0] ++ leBytes x.version 4 ++ leBytes x.cycle 8
    ++ leBytes x.partnerLamp 4 ++ leBytes 0 4 ++ leBytes x.partnerTime 8 ++ leBytes (x.netTime.getD (2 ^ 64 - 1)) 8
    ++ leBytes x.unc 4 ++ leBytes shared.length 2 ++ leBytes x.own.length 2 ++ leBytes (crc32c (shared ++ x.own)) 4
  h ++ leBytes (crc32c h) 4

/-- The bytes of a snapshot slot: its header, the shared part and the own part (R314). -/
def Snapshot.bytes (x : Snapshot) (l : Lane) : List Nat := x.header l ++ (x.shared.map CopySet.bytes).getD [] ++ x.own

/-- A slot as it reads holds a valid snapshot: the magic and both CRCs (R314, R315). One that reads changed and still holds
them is taken as it was written (DESIGN CHOICE, log entry 49). -/
def Snapshot.intact (x : Snapshot) (l : Lane) (flips : List (BitVec 8)) : Bool :=
  flips.all (· == 0) ||
    (let b := flipped flips (x.bytes l)
     let n := leNat ((b.drop 0x34).take 2) + leNat ((b.drop 0x36).take 2)
     leNat (b.take 4) == 0x534E4150 && crc32c (b.take 0x3C) == leNat ((b.drop 0x3C).take 4)
       && crc32c ((b.drop 64).take n) == leNat ((b.drop 0x38).take 4))

/-- The age of a snapshot in counts by partner lane time or by network time, the smaller one that R315 admits. -/
def State.snapAge (s : State) (l : Lane) (x : Snapshot) : Option Nat :=
  let d := laneDie l
  let byPartner := if s.on d R.TIM_PARTNER_STAT.VALID && (s.run l).link.partnerLamp == x.partnerLamp && s.partnerNear l then
      some (ux 64 ((s.laneTime l : Int) + s.partnerOfs l - x.partnerTime)) else none
  let byNet := match s.netTime l, x.netTime with
    | some t, some t0 => some (ux 64 ((t : Int) - t0) + (s.netUnc l + x.unc) * us)
    | _, _ => none
  let ok := fun (a : Option Nat) => match a with
    | some v => decide (v ≤ sec)
    | none => false
  if ok byPartner then byPartner else if ok byNet then byNet else none

/-- The lane leaves `COLD` (R308). -/
def State.coldNext (s : State) (l : Lane) : State :=
  if s.partnerGrant l && !s.singleCfg l then (s.setRole l roleWarm).modLnk l fun k => { k with byReplacement := true }
  else s.setRole l roleStart

end Sys2Proof.Machine
end

