-- ==== Sys2Proof/Machine/Lock.lean ====
section
/-!
DEFINITION. The commands of the lockstep pairs (R353 to R362).
-/
namespace Sys2Proof.Machine

/-- The fault that is recorded of those of one CPU cycle (R358): the AP pair before the CP pair, a parity error before a
mismatch, then the lowest group. -/
def worseFault (x y : CheckFault) : Bool :=
  if x.cp != y.cp then !x.cp
  else
    let rank := fun (f : CheckFault) => if f.kind = 2 ∨ f.kind = 3 then 0 else if f.kind = 1 then 1 else 2
    if rank x ≠ rank y then decide (rank x < rank y) else decide (x.group.val < y.group.val)

/-- The first of a list of faults under R358. -/
def worstFault : List CheckFault → Option CheckFault
  | [] => none
  | x :: r => match worstFault r with
    | none => some x
    | some y => if worseFault y x then some y else some x

/-- The pair of a fault is compared: a pair that debugging has split is not (R361). -/
def State.compared (s : State) (l : Lane) (f : CheckFault) : Bool :=
  f.kind.val != 0 && (f.kind.val != 1 || !s.rdBit (laneDie l) R.LCK_STATUS.DEBUG_SPLIT (b2n f.cp))

/-- `CHECKER_FAULT` (R356 to R358): the fault is recorded, the clocks of both pairs stop, and the Deputy declares the lane
lost. A second fault changes no record. -/
def execCheckerFault (l : Lane) (faults : List CheckFault) (s : State) : Out :=
  let d := laneDie l
  let fs := faults.filter fun f => s.compared l f
  .next (match worstFault fs with
    | none => s
    | some f =>
      if !s.alive l || s.on d R.LCK_FAULT.VALID then s
      else
        let both := (fs.any fun x => x.cp) && fs.any fun x => !x.cp
        let s1 := ((((s.put d R.LCK_FAULT.PAIR f.cp).put d R.LCK_FAULT.BOTH both).wr d R.LCK_FAULT.KIND f.kind).wr d
          R.LCK_FAULT.GROUP f.group).put d R.LCK_FAULT.STAGE f.stage
        let s2 := ((s1.set d R.LCK_FAULT.VALID).set d R.LCK_STATUS.FAULT).wr d R.LCK_FAULT_TIME.TIME (s1.laneTime l)
        let s3 := s2.modRun l fun r => { r with phase := .stopped, lckAt := some s.now }
        s3.declare (lossOf l) 1)

/-- The word of `LCK_FAULT` (R368). -/
def State.lckWord (s : State) (l : Lane) : Nat :=
  let d := laneDie l
  s.rd d R.LCK_FAULT.PAIR + s.rd d R.LCK_FAULT.BOTH * 2 + s.rd d R.LCK_FAULT.KIND * 4 + s.rd d R.LCK_FAULT.GROUP * 256
    + s.rd d R.LCK_FAULT.STAGE * 4096 + s.rd d R.LCK_FAULT.VALID * 2 ^ 31

/-- The lifecycle code of DEVELOP (R442). -/
def lcDevelop : Nat := 1

/-- `LOCKSTEP_SELF_RESET` (R357): with `HALT` in DEVELOP the lane stays stopped. -/
def execLockstepSelfReset (l : Lane) (s : State) : Out :=
  let d := laneDie l
  .next (match (s.run l).lckAt with
    | none => s
    | some t =>
      if (s.run l).phase != .stopped || (s.on d R.LCK_CFG.HALT && s.rd d R.SEC_LC.STATE == lcDevelop) then s
      else
        let s1 := ((s.advTo (t + 100 * us)).wr d R.LCK_PREV_FAULT.VALUE (s.lckWord l)).wr d R.LCK_PREV_TIME.TIME
          (s.rd d R.LCK_FAULT_TIME.TIME)
        (s1.resetIsland l .held).set d R.SYS_RESET_CAUSE.LOCKSTEP)

/-- `DEBUG_SPLIT` (R361, R362): the pair is no longer compared; the lane loses its eligibility and lowers its request.
Outside Service, Parked and Storage the Deputy declares it lost with cause 1; in Service its monitor is disarmed. -/
def execDebugSplit (l : Lane) (cp : Bool) (s : State) : Out :=
  let d := laneDie l
  .next (if !(s.alive l && (s.run l).phase != .stopped && s.debugOpen l) then s
    else
      let s1 := (s.wrBit d R.LCK_STATUS.DEBUG_SPLIT (b2n cp) true).clr d (if cp then R.LCK_STATUS.LOCKED_CP else R.LCK_STATUS.LOCKED_AP)
      let s2 := (s1.set d (if cp then R.LCK_DBG.HALT_CP else R.LCK_DBG.HALT_AP)).modDepLane l fun x => { x with split := s.depOn }
      let s3 := if s2.role l == roleHot then s2.setRole l roleWarm
        else (s2.clr d R.LNK_STATUS.AUTH_REQ).when s2.depOn fun s => s.clr .ds (reqFld l)
      if !s3.depOn then s3
      else
        let m := s3.rd .ds R.DSP_MODE.MODE
        let s4 := if m == modeService then s3.clr .ds R.DSP_Lx_STATUS.ARMED l.idx
          else if m == modeParked || m == modeStorage then s3
          else s3.declare (lossOf l) 1
        s4.syncElig.grantLogic)

end Sys2Proof.Machine
end

