-- ==== Sys2Proof/Machine/Sec.lean ====
section
/-!
DEFINITION. The lifecycle, the debug opening, the crypto jobs and the entropy source (R442 to R449).
-/
namespace Sys2Proof.Machine

/-- The crypto block of a lane changed by `f`. -/
def State.modSec (s : State) (l : Lane) (f : SecSt → SecSt) : State := s.modRun l fun r => { r with sec := f r.sec }

/-- An initiator reaches the `SEC` block (R4, R442). -/
def State.secReach (s : State) (l : Lane) (who : Initiator) : Bool :=
  s.canAccess l who

/-- The lane's operating mode is Service. -/
def State.inService (s : State) (l : Lane) : Bool := s.modeOf l == modeService

/-! ## The lifecycle (R442 to R444) -/

/-- A lifecycle request ends with a result. -/
def State.lcResult (s : State) (l : Lane) (r : Nat) : State :=
  (s.wr (laneDie l) R.SEC_LC_STATUS.RESULT r).clr (laneDie l) R.SEC_LC_STATUS.BUSY

/-- The lifecycle programmed, and the lane reset that ends every transition (R443). -/
def State.lcAdvance (s : State) (l : Lane) (next : Nat) : State :=
  ((s.modNv l fun n => { n with lifecycle := next }).lcResult l 0).resetIsland l .held

/-- The first key-store bank whose words are all unprogrammed (R444). -/
def LaneNv.freeBank (n : LaneNv) : Option (Fin 2) := if n.banks[0] = 0 then some 0 else if n.banks[1] = 0 then some 1 else none

/-- The entry to PRODUCE (R444). -/
def State.lcProduce (s : State) (l : Lane) (e : LcEnd) : State :=
  if (s.run l).sec.entropyBad then s.lcResult l 4
  else
    match (s.nv l).freeBank with
    | none => s.lcResult l 3
    | some b =>
      match e with
      | .media => (s.wr (laneDie l) R.SEC_LC_STATUS.STEP 2).lcResult l 2
      | .supplyLost =>
        (((s.keyWrap l b).modNv l fun n => { n with banks := upd n.banks b fun _ => 3 }).set (laneDie l)
          R.SEC_LC_STATUS.BUSY).wr (laneDie l) R.SEC_LC_STATUS.STEP 3
      | .done =>
        ((s.keyWrap l b).modNv l fun n =>
          { n with banks := upd n.banks b fun _ => 1, bankIn := b.val, keygenLost := false }).lcAdvance l 2

/-- `SEC_LC_REQ` (R443). -/
def execSecLcReq (l : Lane) (who : Initiator) (target : BitVec 3) (key : BitVec 16) (e : LcEnd) (s : State) : Out :=
  let n := s.nv l
  let t := target.toNat
  let dbg := who == .debug
  .next (if !s.secReach l who || s.on (laneDie l) R.SEC_LC_STATUS.BUSY then s
    else if key.toNat ≠ 0x4C43 then s.lcResult l 1
    else if n.lifecycle = 0 ∧ t = 1 ∧ n.keyProg ≠ 0 ∧ dbg then s.lcAdvance l 1
    else if n.lifecycle = 1 ∧ t = 2 ∧ s.inService l then s.lcProduce l e
    else if n.lifecycle = 2 ∧ t = 3 ∧ s.inService l then s.lcAdvance l 3
    else if t = 5 ∧ n.lifecycle < 5 ∧ (s.inService l ∨ (dbg ∧ (n.lifecycle = 0 ∨ n.lifecycle = 1 ∨ n.lifecycle = 4))) then
      (s.modNv l fun n => { n with banks := updAll n.banks fun _ => 2, bankIn := 3 }).lcAdvance l 5
    else s.lcResult l 1)

/-- `SEC_KEY_PROG` (R443): 64 bytes into an unprogrammed slot, in BLANK and DEVELOP. -/
def execSecKeyProg (l : Lane) (who : Initiator) (slot : Fin 4) (s : State) : Out :=
  let n := s.nv l
  let a := s.rd (laneDie l) R.SEC_KEY_SRC.ADDR
  .next (if s.secReach l who && decide (n.lifecycle ≤ 1) && !bit n.keyProg slot.val && rangeInSram a 64 && a % 4 == 0 then
    s.modNv l fun n => { n with keyProg := setBit n.keyProg slot.val, keyHash := (slot.val, s.bytes l a 64) :: n.keyHash }
  else s)

/-! ## Opening debug (R445, R446) -/

/-- The first 32 bytes of the SHA-512 of the identity modulus, as eight words (R445). -/
def State.idHash (s : State) (l : Lane) : List Nat :=
  let key := if s.on (laneDie l) R.SEC_LC.KEYS then l.idx.val else 2
  wordsOf ((List.range 32).map fun i => low 8 (Config.crypto 6 key [] [] i)) 8

/-- `DBG_CHALLENGE` (R445, R449). -/
def execDbgChallenge (l : Lane) (who : Initiator) (s : State) : Out :=
  let d := laneDie l
  .next (if !s.secReach l who then s
    else if (s.run l).sec.entropyBad then s.wr d R.SEC_DBG_STATUS.RESULT 4
    else
      let nonce := s.freeWords 8
      let ws := [0x43484C47, l.idx.val + 256 * (s.nv l).lifecycle] ++ s.idHash l ++ nonce.1 ++ [s.rd d R.ASY_SEQ.SEQ]
      let s1 := nonce.2.each (List.range 32) fun s i => s.wr d R.SEC_CHALw.WORD (ws.getD i 0) i
      (s1.set d R.SEC_DBG_STATUS.LIVE).modSec l fun x => { x with chalAt := some s1.now })

/-- The challenge is no longer live. -/
def State.challengeGone (s : State) (l : Lane) : State :=
  (s.clr (laneDie l) R.SEC_DBG_STATUS.LIVE).modSec l fun x => { x with chalAt := none }

/-- `CHALLENGE_LAPSE` (R445). -/
def execChallengeLapse (l : Lane) (s : State) : Out :=
  .next (match (s.run l).sec.chalAt with
    | some t => (s.advTo (t + 60 * sec)).challengeGone l
    | none => s)

/-- An opening that fails with a result. -/
def State.openFail (s : State) (l : Lane) (r : Nat) : State :=
  (s.wr (laneDie l) R.SEC_DBG_STATUS.RESULT r).inc (laneDie l) R.SEC_CNT.OPEN_FAIL

/-- The object at `SEC_DBG_SRC` verifies: it stands in system SRAM, and R66 holds for its key against some slot (R446). -/
def State.openVerified (s : State) (l : Lane) (obj : Signed) : Bool :=
  rangeInSram (s.rd (laneDie l) R.SEC_DBG_SRC.ADDR) 1028 && (List.range 4).any fun k => s.signedCheck l k obj == ocPass

/-- `DBG_OPEN` (R446): verified, the keys of the active bank are erased and the lifecycle moves to RETURN, unless it stands
there already; the record follows at the next capture boundary. -/
def execDbgOpen (l : Lane) (who : Initiator) (obj : Signed) (s : State) : Out :=
  let d := laneDie l
  let n := s.nv l
  .next (if !s.secReach l who || (s.run l).sec.opening then s
    else if !s.inService l || !s.on d R.SEC_DBG_STATUS.LIVE || !(n.lifecycle == 2 || n.lifecycle == 3 || n.lifecycle == 4) then
      s.openFail l 1
    else
      let s1 := s.challengeGone l
      if !s.openVerified l obj then (s1.wr d R.SEC_DBG_STATUS.STEP 1).openFail l 2
      else
        let s2 := if n.lifecycle = 4 then s1
          else (s1.modNv l fun n =>
            { n with lifecycle := 4, bankIn := 3,
                     banks := if h : n.bankIn < 2 then upd n.banks ⟨n.bankIn, h⟩ fun _ => 2 else n.banks }).clr d R.SEC_LC.KEYS
        (((s2.wr d R.SEC_DBG_STATUS.STEP 4).modSec l fun x =>
          { x with opening := true, opener := s.bytes l (s.rd d R.SEC_DBG_SRC.ADDR + 516) 512 }).modAsy l fun a =>
          { a with triggers := setBit a.triggers trgDebug }))

/-! ## Crypto jobs (R447, R448) -/

/-- `SEC_JOB_GO` (R447): the descriptor at `SEC_JOB_ADDR` goes to `Q15` with its source length in KiB. -/
def execSecJobGo (l : Lane) (who : Initiator) (s : State) : Out :=
  let d := laneDie l
  let a := s.rd d R.SEC_JOB_ADDR.ADDR
  let done := fun (s : State) (code id : Nat) => ((s.wr d R.SEC_JOB_RESULT.CODE code).put d R.SEC_JOB_RESULT.ADMITTED
    (code == 0)).wr d R.SEC_JOB_RESULT.ID id
  .next (if !s.canAccess l who then s
    else if a % 32 ≠ 0 ∨ !rangeInSram a 32 then done s 3 0
    else
      let desc := wordsOf (s.bytes l a 32) 8
      let r := s.submit l who 15 (ceilDiv (desc.getD 2 0) 1024) (dl40 (s.rd d R.SEC_JOB_DL_LO.DL) (s.rd d R.SEC_JOB_DL_HI.DL))
        (.crypto desc)
      done r.2 r.1.code r.1.id)

/-- The attestation statement of R448 over a nonce. -/
def State.statement (s : State) (l : Lane) (nonce : List Nat) : List Nat :=
  let d := laneDie l
  let keys := s.rd d R.CFG_KEY_STATUS.PROGRAMMED + s.rd d R.CFG_KEY_STATUS.REVOKED * 16 + s.rd d R.CFG_KEY_STATUS.IMG_SLOT * 256
    + s.rd d R.CFG_KEY_STATUS.HF_SLOT * 1024 + s.rd d R.CFG_KEY_STATUS.CFG_SLOT * 4096
  let header := (List.range 32).map fun i => low 8 (Config.crypto 7 l.idx [s.rd d R.CFG_IMAGE_VERSION.VERSION] [] i)
  leBytes 0x41545354 4 ++ [l.idx.val, (s.nv l).lifecycle] ++ leBytes keys 2
    ++ leBytes (s.rd d R.CFG_IMAGE_VERSION.VERSION) 4 ++ leBytes (s.rd d R.CFG_VERSION.VERSION) 4 ++ header
    ++ leBytes (s.rd d R.ASY_SEQ.SEQ) 4 ++ leBytes (s.rd d R.ASY_SLOT.SLOT) 4
    ++ leBytes ((s.netTime l).getD (2 ^ 64 - 1)) 8 ++ nonce ++ (s.idHash l).flatMap fun w => leBytes w 4

/-- The status and the output of a job (R447): 0 pass, 1 signature or tag invalid, 2 descriptor error. -/
def State.cryptoRun (s : State) (l : Lane) (desc : List Nat) : Nat × List Nat :=
  let w := fun i => desc.getD i 0
  let op := bits (w 0) 7 0
  let sel := bits (w 0) 11 8
  let src := s.bytes l (w 1) (w 2)
  let aux := s.bytes l (w 4) (w 5)
  let keys := s.on (laneDie l) R.SEC_LC.KEYS
  let key := if sel = 1 then l.idx.val else 2
  let out := fun n => (List.range n).map fun i => low 8 (Config.crypto op key src aux i)
  if op = 0 ∨ 5 < op ∨ 1 < sel ∨ (sel = 1 ∧ !keys) ∨ w 6 ≠ 0 ∨ w 7 ≠ 0 ∨ !rangeInSram (w 1) (w 2) ∨ !rangeInSram (w 4) (w 5)
      ∨ !rangeInSram (w 3) 4 then (2, [])
  else if op = 1 then (0, out 64)
  else if op = 2 then (if Config.cryptoOk op key src aux then 0 else 1, [])
  else if op = 3 then (0, out (w 2 + 16))
  else if op = 4 then (if Config.cryptoOk op key src aux then (0, out (w 2 - 16)) else (1, []))
  else if !keys ∨ aux.length ≠ 32 then (2, [])
  else
    let st := s.statement l aux
    (0, st ++ (List.range 512).map fun i => low 8 (Config.crypto 5 l.idx st [] i))

/-- A job has ended `DONE` (R447, R451): its status word and its output stand at the destination. -/
def State.cryptoDone (s : State) (l : Lane) (desc : List Nat) : State :=
  let r := s.cryptoRun l desc
  let dst := desc.getD 3 0
  let s1 := s.inc (laneDie l) R.SEC_CNT.JOBS
  if rangeInSram dst (4 + r.2.length) then s1.setBytes l dst (leBytes r.1 4 ++ r.2)
  else if rangeInSram dst 4 then s1.setBytes l dst (leBytes 2 4)
  else s1

/-! ## The entropy source (R449) -/

/-- `ENTROPY_HEALTH_FAIL` (R449): until the next lane reset; `READY` goes on saying that the start-up tests of this start have
passed. -/
def execEntropyHealthFail (l : Lane) (s : State) : Out :=
  .next (if s.past l 2 then
    (s.set (laneDie l) R.SEC_TRNG_STATUS.HEALTH_ERR).modSec l fun x => { x with entropyBad := true }
  else s)

end Sys2Proof.Machine
end

