-- ==== Sys2Proof/Machine/Trc.lean ====
section
/-!
DEFINITION. The meanings of the trace commands (R191 to R194).
-/
namespace Sys2Proof.Machine

/-- A trigger of one buffer at the present instant (R193); it is ignored outside `FILL` and `READY`. -/
def State.trcFire (s : State) (l : Lane) (b : Fin 8) : State :=
  let d := laneDie l
  let x := s.trc l b
  if x.phase = trcFill ∨ x.phase = trcReady then
    let t := s.laneTime l
    (((s.modTrc l b fun y => { y with phase := trcPost, post := 0 }).put d R.TRC_Bb_INFO.PRE_SHORT
      (x.phase = trcFill) b).wr d R.TRC_Bb_STAMP_LO.TIME (low 32 t) b).wr d R.TRC_Bb_STAMP_HI.TIME (t / 2 ^ 32) b
  else s

/-- A buffer takes a trigger: it is in `FILL` or `READY` (R193). -/
def State.trcArmed (s : State) (l : Lane) (b : Fin 8) : Bool :=
  (s.trc l b).phase == trcFill || (s.trc l b).phase == trcReady

/-- A trigger of a buffer; the buffers linked to buffer 0 trigger at the instant that it does (R192). -/
def State.trcTrigger (s : State) (l : Lane) (b : Fin 8) : State :=
  let s1 := s.trcFire l b
  if b.val = 0 ∧ s.trcArmed l b then
    s1.each ((List.finRange 8).drop 1) fun s k => s.when (s.on (laneDie l) R.TRC_Bb_CFG.LINK k) fun s => s.trcFire l k
  else s1

/-- `TRC_ARM` (R193). -/
def execTrcArm (l : Lane) (b : Fin 8) (s : State) : Out :=
  let d := laneDie l
  .next (if s.past l 11 then
    if (s.trc l b).phase = trcDumping then s.set d R.TRC_Bb_INFO.ARM_REFUSED b
    else
      ((s.modTrc l b fun x =>
        { x with phase := if s.trcPre l b = 0 then trcReady else trcFill, next := 0, kept := 0, post := 0, div := 0,
                 sent := false }).clr d
        R.TRC_Bb_INFO.PRE_SHORT b).clr d R.TRC_Bb_INFO.ARM_REFUSED b
  else s)

/-- The header of a dump (R194). The trigger record is the first one stored after the trigger (DEDUCED, log entry 47). -/
def State.trcHeader (s : State) (l : Lane) (b : Fin 8) : List Nat :=
  let d := laneDie l
  let x := s.trc l b
  let h := leBytes 0x54524344 4 ++ leBytes 1 4
    ++ [l.idx.val, b.val, b2n (s.on d R.TRC_Bb_CFG.STAMP b) + 2 * b2n (s.on d R.TRC_Bb_INFO.PRE_SHORT b), 0]
    ++ leBytes (s.rd d R.TRC_Bb_CFG.PROBE b) 2 ++ leBytes (s.rd d R.TRC_Bb_CFG.DIV b) 2 ++ leBytes x.kept 4
    ++ leBytes (x.kept - x.post) 4 ++ leBytes (s.rd d R.TRC_Bb_STAMP_LO.TIME b) 4 ++ leBytes (s.rd d R.TRC_Bb_STAMP_HI.TIME b) 4
    ++ leBytes (s.rd d R.TIM_EPOCH_LO.EPOCH) 4 ++ leBytes (s.rd d R.TIM_EPOCH_HI.EPOCH) 4
    ++ leBytes (s.rd d R.TIM_QUAL.SOURCE) 4 ++ leBytes (s.rd d R.TIM_UNC.US) 4 ++ leBytes (s.rd d R.TRC_DUMP_POS.SEQ) 4
    ++ List.replicate 968 0
  h ++ leBytes (crc32c h) 4

/-- The 32 KiB of a buffer in time order, oldest record first, unused entries zero (R194). -/
def State.trcData (s : State) (l : Lane) (b : Fin 8) : List Nat :=
  let x := s.trc l b
  let cap := s.trcCap l b
  let n := if s.on (laneDie l) R.TRC_Bb_CFG.STAMP b then 2 else 1
  let first := x.next + cap - x.kept
  let words := (List.range x.kept).flatMap fun i => (List.range n).map fun j =>
    sget 0 (trcKey b (n * ((first + i) % cap) + j)) (s.run l).tables
  (words.flatMap fun w => leBytes w 4) ++ List.replicate (4 * (8192 - n * x.kept)) 0

/-- A dump submitted to `Q10` with initiator `TRC`, 33 KiB and the deadline `DL` (R194). -/
def State.trcSubmit (s : State) (l : Lane) (b : Fin 8) : State :=
  let d := laneDie l
  let dl := s.laneTime l + orOne (s.rd d R.TRC_Bb_DL.MS b) * ms
  let pr1 := s.submit l .trc 10 33 dl (.dump b)
  let a := pr1.1
  let s1 := pr1.2
  let s2 := (s1.wr d R.TRC_Bb_DUMP.CODE a.code b).put d R.TRC_Bb_DUMP.ADMITTED (a.code == 0) b
  if a.code = 0 then
    ((((s2.wr d R.TRC_Bb_DUMP.ID a.id b).clr d R.TRC_Bb_DUMP.OUTCOME_VALID b).modTrc l b fun y =>
      { y with phase := trcDumping, pos := s.rd d R.TRC_DUMP_POS.POS, head := s.trcHeader l b }).wr d
        R.TRC_DUMP_POS.POS (s2.rd d R.TRC_DUMP_POS.POS + 1)).wr d
      R.TRC_DUMP_POS.SEQ (s2.rd d R.TRC_DUMP_POS.SEQ + 1)
  else s2

/-- `TRC_DUMP` (R194): outside `DONE` it is refused with code 3. -/
def execTrcDump (l : Lane) (b : Fin 8) (s : State) : Out :=
  let d := laneDie l
  .next (if s.past l 11 then
    if (s.trc l b).phase = trcDone then s.trcSubmit l b
    else (s.wr d R.TRC_Bb_DUMP.CODE 3 b).clr d R.TRC_Bb_DUMP.ADMITTED b
  else s)

/-- The outcome of a buffer's dump (R193, R194): a dump that is done stands at its position of the partition; the buffer returns
to `DONE` with its content kept. -/
def State.trcOutcome (s0 : State) (l : Lane) (b : Fin 8) (c : OutcomeCode) : State :=
  let d := laneDie l
  let x := s0.trc l b
  let s := s0.when (c == .done && x.phase == trcDumping) fun s =>
    s.emmcProgram l (0x10000000 + x.pos * 0x10000) (x.head ++ s.trcData l b)
  ((s.wr d R.TRC_Bb_DUMP.OUTCOME c.code b).set d R.TRC_Bb_DUMP.OUTCOME_VALID b).modTrc l b fun y =>
    { y with phase := if y.phase = trcDumping then trcDone else y.phase }

/-- `TRC_ABORT` (R193): ignored in `DUMPING`. -/
def execTrcAbort (l : Lane) (b : Fin 8) (s : State) : Out :=
  .next (if s.past l 11 && (s.trc l b).phase != trcDumping then s.modTrc l b fun y => { y with phase := trcIdle } else s)

/-- `TRC_TRIGGER` (R192): a software trigger, in every kind; a linked buffer ignores it. -/
def execTrcTrigger (l : Lane) (b : Fin 8) (s : State) : Out :=
  .next (if s.past l 11 && !s.trcLinked l b then s.trcTrigger l b else s)

/-- `TRACE_TRIGGER_EVENT` (R192): the level crossing or the event that the buffer has selected reaches it. -/
def execTraceTriggerEvent (l : Lane) (b : Fin 8) (s : State) : Out :=
  .next (if s.past l 11 && (s.trc l b).sent then (s.modTrc l b fun x => { x with sent := false }).trcTrigger l b else s)

/-- `TRACE_POST_DONE` (R193): the buffer enters `DONE`, interrupts, and dumps itself with `AUTO_DUMP`. -/
def execTracePostDone (l : Lane) (b : Fin 8) (s : State) : Out :=
  let d := laneDie l
  .next (if (s.trc l b).phase = trcPost ∧ s.trcCap l b - s.trcPre l b ≤ (s.trc l b).post then
    let s1 := (s.modTrc l b fun y => { y with phase := trcDone }).irq l R.TRC_CTRL.IRQ_EN
    if s1.rdBit d R.TRC_CTRL.AUTO_DUMP b then s1.trcSubmit l b else s1
  else s)

end Sys2Proof.Machine
end

