-- ==== Sys2Proof/Machine/Tally.lean ====
section
/-!
DEFINITION. The meanings of the tally's rows and of the timers (chapter 04), and of `NVM_REQ_GO` (R89).
-/
namespace Sys2Proof.Machine

/-- An entry that has ended holds no attempt on its bus. -/
def State.dropAttempt (s : State) (l : Lane) (e : TalEntry) : State :=
  if h : e.queue < 4 then
    s.modCan l ⟨e.queue, h⟩ fun c =>
      { c with attempt := match c.attempt with
          | some a => if a.1 = e.id then none else some a
          | none => none }
  else s

/-- A write to an area of R91 that has been programmed and read back (R62, R64, R89): a headframe request writes the mirror
first and the primary second. A request that does not end `DONE` leaves the medium as it was (DESIGN CHOICE, log entry 44). -/
def State.nvmWrite (s : State) (l : Lane) (area off : Nat) (bs : List Nat) : State :=
  let x := (s.run l).start
  match area with
  | 3 => s.emmcProgram l (0x54000000 + off) bs
  | 5 => s.emmcProgram l (0x59000000 + off) bs
  | 8 => (s.norProgram l (0x1000 + off) bs).norProgram l off bs
  | 9 => s.norProgram l (x.copyOff.1 + off) bs
  | 10 => s.norProgram l (x.copyOff.2 + off) bs
  | 11 => s.norProgram l (0x01000000 + off) bs
  | 12 => s.norProgram l (0x02000000 + off) bs
  | 13 => s.norProgram l (0x03000000 + off) bs
  | _ => s

/-- An outcome posted with what it means to the block that submitted the entry: the network blocks (R321), `NVM` (R89, R91),
the event log (R64), the ledger (R432), the trace dumps (R193), the snapshots (R313), the crypto block (R447). -/
def State.postJob (s : State) (l : Lane) (e : TalEntry) (code : OutcomeCode) : State :=
  let s1 := s.postNet l e code
  match e.job with
  | .eth m _ _ => s1.when (m == 2) fun s => s.modEth l 2 fun x => { x with tries := 0 }
  | .nvm area off len src =>
    if code = .done then s1.nvmWrite l area off (s1.bytes l src len)
    else s1.when (code = .failedMedia) fun s => s.inc (laneDie l) R.NVM_MEDIA_ERR.COUNT
  | .event n => s1.when (code = .done) fun s => s.modNv l fun x => { x with events := x.events ++ [(n, s.laneTime l)] }
  | .ledger r => s1.commitOutcome l r code
  | .dump b => if h : b < 8 then s1.trcOutcome l ⟨b, h⟩ code else s1
  | .snapshot x => s1.snapDone l x (code = .done)
  | .crypto desc => if code = .done then s1.cryptoDone l desc else s1
  | .copy _ => s1.modLnk l fun k => { k with copyOut := none }
  | .vdd _ => s1.modPwr l fun p => { p with unsure := p.unsure.filter (· != e.id) }
  | .can _ => s1.dropAttempt l e
  | .chassis _ _ => s1.dropAttempt l e
  | _ => s1

/-- The queues whose entries end by their own commands: frames on a CAN bus (R410), copies on the lane link (R312), rail
voltages (R378). -/
def ownEnd (e : TalEntry) : Bool := e.queue ≤ 3 || e.queue == 14 || (e.queue == 13 && !e.job.isSnapshot)

/-- `TALLY_OUTCOME` (R103, R106 to R109): the operation of an entry that its queue has taken up completes with one of the
outcomes of R108; `CANCELLED` and `FAILED_OFF` have commands of their own. An entry that entered `ENDING` before its queue took
it up starts no attempt, so it never ends `DONE` (R107). -/
def execTallyOutcome (l : Lane) (id : Fin 64) (code : OutcomeCode) (s : State) : Out :=
  .next (match (s.tal l).find id with
    | some e =>
      if s.alive l && !ownEnd e && e.st != .waiting && queueAllows e.queue code
          && ((code = .done && e.started) || code = .failedNoack || code = .failedMedia) then s.postJob l e code
      else s
    | none => s)

/-- The entry has an attempt in progress, which R107 lets complete. -/
def State.inAttempt (s : State) (l : Lane) (e : TalEntry) : Bool :=
  if h : e.queue < 4 then ((s.canSt l ⟨e.queue, h⟩).attempt.map Prod.fst) == some e.id else e.st == .active

/-- `TALLY_ABORT_LEAD` (R107): lane time reaches the deadline less `ABORT_LEAD`. On the network queues an entry without an
attempt in progress ends `FAILED_NOACK`. -/
def execTallyAbortLead (l : Lane) (id : Fin 64) (s : State) : Out :=
  .next (match (s.tal l).find id with
    | some e =>
      if s.alive l && e.st != .ending then
        let lead := s.rd (laneDie l) R.TAL_Qq_LIMIT.ABORT_LEAD e.queue * us
        let s1 := s.advTo (s.instantOf l (e.deadline - lead))
        if e.queue ≤ 6 && !s.inAttempt l e then s1.postJob l e .failedNoack
        else s1.setEnt l id fun x => { x with st := .ending }
      else s
    | none => s)

/-- `TALLY_MISS` (R110): lane time passes the deadline of an entry that has no outcome. -/
def execTallyMiss (l : Lane) (id : Fin 64) (s : State) : Out :=
  .next (match (s.tal l).find id with
    | some e =>
      if s.alive l && !e.missed then
        let d := laneDie l
        let s1 := (s.advTo (s.instantOf l (e.deadline + 1))).setEnt l id fun x => { x with missed := true }
        let s2 := (((s1.set d R.TAL_STATUS.MISS).wr d R.TAL_STATUS.LAST_MISS_ID id).wr d R.TAL_STATUS.LAST_MISS_Q
          e.queue).inc d R.TAL_MISS_CNT.COUNT
        (s2.irq l R.TAL_CTRL.MISS_IRQ_EN).tallyMiss l e.queue
      else s
    | none => s)

/-- `TAL_CANCEL` (R111, R411): a waiting entry ends `CANCELLED` on a queue that has that outcome (R108). A cancel in the
cycle of the start-of-frame sample of a CAN frame is counted as late. -/
def execTalCancel (l : Lane) (id : Fin 64) (s : State) : Out :=
  .next (match (s.tal l).find id with
    | some e =>
      if !s.alive l then s
      else if e.st = .waiting then (if queueAllows e.queue .cancelled then s.postJob l e .cancelled else s)
      else if h : e.queue < 4 then
        let n : Fin 4 := ⟨e.queue, h⟩
        if (s.canSt l n).attempt = some (e.id, s.now) then
          (s.set (laneDie l) R.CANn_STATUS.CANCEL_LATE n).inc (laneDie l) R.CANn_ERR_CNT.CANCEL_LATE n
        else s
      else s
    | none => s)

/-- `TAL_OUT_POP` (R114): a read of `TAL_OUT_W0`. -/
def execTalOutPop (l : Lane) (s : State) : Out := .next (if s.alive l then s.talPop l else s)

/-- `TARGET_OFF_FAIL` (R112): the target block of an entry goes off while it waits or runs. -/
def execTargetOffFail (l : Lane) (id : Fin 64) (s : State) : Out :=
  .next (match (s.tal l).find id with
    | some e => if s.alive l && e.st != .ending then s.postJob l e .failedOff else s
    | none => s)

/-- `TIM_EXPIRY` (R115): a running timer expires. The expiry of `TIM7` under the claim of the lane's Deputy port is that of
R340. -/
def execTimExpiry (l : Lane) (n : Fin 8) (s : State) : Out :=
  .next (if s.alive l && (s.timEnd l n).isSome then
    (s.timExpire l n).when (n = 7 && (s.run l).sup.tim7) fun s => s.laneForm l
  else s)

/-! ## Requests to non-volatile memory (R89) -/

/-- The size of an area that requests may reach, in bytes (R62, R64, R65); none for a code that names no such area. -/
def State.areaSize (s : State) (l : Lane) (area : Nat) : Option Nat :=
  match area with
  | 3 => some (16 * 2 ^ 20)
  | 5 => some (2672 * 2 ^ 20)
  | 8 => some 4096
  | 9 => some (s.run l).start.copyLen.1
  | 10 => some (s.run l).start.copyLen.2
  | 11 => some (16 * 2 ^ 20)
  | 12 => some (16 * 2 ^ 20)
  | 13 => some (2 ^ s.rd (laneDie l) R.NVM_XSPI_CFG.SIZE_LOG2 - 0x3000000)
  | _ => none

/-- The area is protected from requests now: the partitions that have their own queues, the running slot, the headframe
pair outside Service. -/
def State.areaProtected (s : State) (l : Lane) (area : Nat) : Bool :=
  area == 0 || area == 1 || area == 2 || area == 4
    || area == (if s.on (laneDie l) R.CFG_START_STATUS.SLOT then 12 else 11)
    || (area == 8 && s.modeOf l != modeService)

/-- The range and the alignment of a request hold: 4 KiB on NOR, 512 bytes on the eMMC, the source 4-byte aligned in system
SRAM. -/
def State.nvmRange (s : State) (l : Lane) (area offset len src : Nat) : Bool :=
  match s.areaSize l area with
  | none => false
  | some size =>
    let unit := if area < 8 then 512 else 4096
    decide (offset % unit = 0) && decide (len % unit = 0) && decide (512 ≤ len) && decide (len ≤ 65536)
      && decide (offset + len ≤ size) && decide (src % 4 = 0) && rangeInSram src len

/-- `NVM_REQ_RESULT` after a request. -/
def State.nvmResult (s : State) (l : Lane) (id code : Nat) : State :=
  let d := laneDie l
  ((s.wr d R.NVM_REQ_RESULT.ID id).put d R.NVM_REQ_RESULT.ADMITTED (code == 0)).wr d R.NVM_REQ_RESULT.CODE code

/-- `NVM_REQ_GO` (R89, R105, R112): the checks of R89, then the admission to `Q07` in units of 512 bytes. A device that is
not ready ends the entry `FAILED_OFF`. -/
def execNvmReqGo (l : Lane) (who : Initiator) (s : State) : Out :=
  let d := laneDie l
  let area := s.rd d R.NVM_REQ_AREA.AREA
  let offset := s.rd d R.NVM_REQ_OFFSET.OFFSET
  let len := s.rd d R.NVM_REQ_LEN.LEN
  let src := s.rd d R.NVM_REQ_SRC.ADDR
  .next (if !s.canAccess l who then s
    else if s.areaProtected l area then s.nvmResult l 0 3
    else if !s.nvmRange l area offset len src then s.nvmResult l 0 4
    else
      let dl := dl40 (s.rd d R.NVM_REQ_DEADLINE_LO.DL) (s.rd d R.NVM_REQ_DEADLINE_HI.DL)
      let r := s.submit l who 7 (len / 512) dl (.nvm area offset len src)
      let ready := if area < 8 then s.on d R.NVM_STATUS.EMMC_READY else s.on d R.NVM_STATUS.XSPI_READY
      (r.2.nvmResult l r.1.id r.1.code).endNew l r.1 (if ready then none else some .failedOff))

end Sys2Proof.Machine
end

