-- ==== Sys2Proof/Machine/Hooks.lean ====
section
/-!
DEFINITION. What a write of a register starts beside setting its fields: the RW and W1C fields whose own rules give a
write an effect. Each function takes the state before the write, the state with the fields set, and the address.
-/
namespace Sys2Proof.Machine

/-- The index of the instance of a field's register at a lane address. -/
def Fld.hit (f : Fld) (a : Nat) : Option Nat :=
  if a < f.addr ∨ (if f.s1 = 0 then a ≠ f.addr else (a - f.addr) % f.s1 ≠ 0 ∨ f.n1 ≤ (a - f.addr) / f.s1) then none
  else some (if f.s1 = 0 then 0 else (a - f.addr) / f.s1)

/-- One of the fields differs between two states. -/
def changed (b s : State) (d : Die) (fs : List Fld) (i : Nat) : Bool := fs.any fun f => b.rd d f i != s.rd d f i

/-- Timers (R115): `EN` starts or stops one. -/
def State.hookTim (b s : State) (l : Lane) (a : Nat) : State :=
  match R.TIM_Tn_CFG.EN.hit a with
  | some n => if h : n < 8 then (if changed b s (laneDie l) [R.TIM_Tn_CFG.EN] n then s.timEnable l ⟨n, h⟩ else s) else s
  | none => s

/-- A register put back to what it held in an earlier state. -/
def State.restoreReg (s b : State) (d : Die) (a : Nat) : State :=
  s.each (fieldsAt d.bank a) fun s x => s.wr d x.1 (b.rd d x.1 x.2.1 x.2.2) x.2.1 x.2.2

/-- Converters and filters (R136, R145): a correction starts its move; a filter's fault flags make `SDF_FLTn` inactive. A
cleared `SDF_Fn_CFG.EN` or `SDF_Fn_TRIP.EN` leaves `VALID`, `HI`, `LO` and the trip sources as they stand (DESIGN CHOICE, log
entry 45). -/
def State.hookAdc (b s : State) (l : Lane) (a : Nat) : State :=
  let d := laneDie l
  match R.ADC_CHc_CORR.GAIN.hit a, R.SDF_Fn_CORR.GAIN.hit a, R.SDF_Fn_STATUS.STUCK.hit a with
  | none, none, none => s.when (R.ADC_Gg_CFG.MODE.hit a).isSome fun s => s.bandJudgeAll l
  | some c, _, _ => (s.restoreReg b d a).corrWrite l c (s.rd d R.ADC_CHc_CORR.GAIN c) (s.rd d R.ADC_CHc_CORR.OFFSET c)
  | _, some n, _ => (s.restoreReg b d a).corrWrite l (64 + n) (s.rd d R.SDF_Fn_CORR.GAIN n) (s.rd d R.SDF_Fn_CORR.OFFSET n)
  | _, _, some n => (s.sdfCleared l (sdfIdx n)).asySync l

/-- Position inputs (R160, R162, R169). -/
def State.hookPos (b s : State) (l : Lane) (a : Nat) : State :=
  let d := laneDie l
  let pt := fun (p : Nat) (f : List Fld) => if h : p < 6 then
    (if changed b s d f p then s.ptReconfigured l ⟨p, h⟩ else s) else s
  match R.POS_PTp_CFG.MODE.hit a, R.POS_PTp_SCALE.COUNTS.hit a, R.POS_PTp_TW.MISSING.hit a, R.POS_PTp_REF.REF_ANGLE.hit a with
  | some p, _, _, _ => if h : p < 6 then
      (if changed b s d [R.POS_PTp_CFG.EN, R.POS_PTp_CFG.MODE] p then
        (s.when (changed b s d [R.POS_PTp_CFG.MODE] p) fun s => s.ptReconfigured l ⟨p, h⟩).when
          (b.ptMode l p != s.ptMode l p && ((b.ptMode l p).isNone || (s.ptMode l p).isNone)) fun s => s.ptSwitch l ⟨p, h⟩
      else s) else s
  | _, some p, _, _ => pt p [R.POS_PTp_SCALE.COUNTS]
  | _, _, some p, _ => pt p [R.POS_PTp_TW.MISSING, R.POS_PTp_TW.EXTRA]
  | _, _, _, some p => pt p [R.POS_PTp_REF.REF_ANGLE]
  | _, _, _, _ => match R.POS_RESn_EXC.DIV.hit a, R.POS_SENTs_CFG.TICK.hit a with
    | some n, _ => if h : n < 2 then
        (if changed b s d [R.POS_RESn_EXC.DIV] n then s.resRestart l ⟨n, h⟩ else s) else s
    | _, some n => if h : n < 4 then
        (if changed b s d [R.POS_SENTs_CFG.TICK, R.POS_SENTs_CFG.NIBBLES] n then s.sentRestart l ⟨n, h⟩ else s) else s
    | _, _ => s

/-- The slots of the engine (R177, R179, R188): a cleared `EN` of a band slot, a change of what a running slot is bound to, and
the two words of a preset. -/
def State.hookSlot (b s : State) (l : Lane) (a : Nat) : State :=
  let d := laneDie l
  let settle := fun (n : Fin 32) =>
    if s.rd d R.CE_Bn_STATUS.STATE n = bandOff ∨ s.rd d R.CE_Bn_STATUS.STATE n = bandErr then s
    else (s.modBand l n fun x => { x with due := [] }).toSettle l n
  match R.CE_Bn_CFG.EN.hit a, R.CE_Bn_SRC.MEAS.hit a, R.CE_Ai_INT_LO.I.hit a, R.CE_Ai_INT_HI.I.hit a with
  | some n, _, _, _ =>
    let k := bandIdx n
    let s := s.when (changed b s d [R.CE_Bn_CFG.FLL_EN] n) fun s => s.modBand l k fun x => { x with pendH := none }
    if changed b s d [R.CE_Bn_CFG.EN] n then (if s.on d R.CE_Bn_CFG.EN n then s else s.bandStop l k)
    else if changed b s d [R.CE_Bn_CFG.SIG, R.CE_Bn_CFG.GROUP, R.CE_Bn_CFG.ANGLE, R.CE_Bn_CFG.SPAN, R.CE_Bn_CFG.PWM_CH] n then
      settle k
    else s
  | _, some n, _, _ => if changed b s d [R.CE_Bn_SRC.MEAS] n then settle (bandIdx n) else s
  | _, _, some i, _ => if h : i < 24 then
      s.modArith l ⟨i, h⟩ fun x => { x with lo := some (s.rd d R.CE_Ai_INT_LO.I i) } else s
  | _, _, _, some i => if h : i < 24 then
      (s.modArith l ⟨i, h⟩ fun x =>
        { x with preset := some (sx 48 (s.rd d R.CE_Ai_INT_HI.I i * 2 ^ 32 + x.lo.getD 0)), lo := none }).set d
        R.CE_Ai_STATUS.PRESET_PEND i else s
  | _, _, _, _ => s

/-- The engine (R173, R175, R177, R179, R188, R201): what a write does to its slot; then the selectors of the arithmetic slots,
the configurations of the band slots and those of the channels that they drive are judged again. -/
def State.hookCe (b s : State) (l : Lane) (a : Nat) : State :=
  let s1 := b.hookSlot s l a
  match R.CE_Ai_CFG.OP.hit a, R.CE_Ai_IN.A.hit a with
  | some i, _ => s1.srcErr l i
  | _, some i => s1.srcErr l i
  | _, _ => (s1.bandJudgeAll l).syncCfgErrs l

/-- The trace buffers (R192): a new trigger selection has seen no value yet. -/
def State.hookTrc (b s : State) (l : Lane) (a : Nat) : State :=
  match R.TRC_Bb_TRIG.KIND.hit a with
  | some n =>
    if h : n < 8 then
      (if changed b s (laneDie l) [R.TRC_Bb_TRIG.KIND, R.TRC_Bb_TRIG.TSRC] n then
        s.modCe l fun c => { c with trc := upd c.trc ⟨n, h⟩ fun x => { x with last := none, sent := false } }
      else s)
    else s
  | none => s

/-- A shadow write marks its timebase dirty (R204). -/
def State.dirty (s : State) (l : Lane) (t : Nat) : State := s.set (laneDie l) R.PWM_TBt_STATUS.DIRTY t

/-- The fields of a channel that a write cannot change while it is enabled (R202). -/
def chFixed : List Fld :=
  [R.PWM_CHc_CFG.TB, R.PWM_CHc_CFG.ENGINE, R.PWM_CHc_CFG.COMPL, R.PWM_CHc_CFG.LOWSIDE, R.PWM_CHc_DST.DST_H,
   R.PWM_CHc_DST.DST_L]

/-- A change of an enabled channel that R202 discards, before the PWM runs. -/
def State.hookFixed (b s : State) (l : Lane) (a : Nat) : State :=
  let d := laneDie l
  let fixed := fun (c : Nat) =>
    if b.on d R.PWM_CHc_CFG.EN c && changed b s d chFixed c then (s.restoreReg b d a).set d R.PWM_CHc_STATUS.CFG_REJ c else s
  match R.PWM_CHc_CFG.EN.hit a, R.PWM_CHc_DST.DST_H.hit a with
  | some c, _ => fixed c
  | _, some c => fixed c
  | _, _ => s

/-- PWM (R201, R202, R204, R211, R212, R215, R216): the enables, the shadows, a refused change of an enabled channel, its trip
group, a trip source's groups and window, an event output, a group's response. -/
def State.hookPwm (b s : State) (l : Lane) (a : Nat) : State :=
  let d := laneDie l
  let chCfg := fun (c : Nat) =>
    if b.on d R.PWM_CHc_CFG.EN c && changed b s d chFixed c then (s.restoreReg b d a).set d R.PWM_CHc_STATUS.CFG_REJ c
    else if changed b s d [R.PWM_CHc_CFG.EN] c then
      (s.enableCh l (chIdx c) (s.on d R.PWM_CHc_CFG.EN c))
    else (s.when (changed b s d [R.PWM_CHc_CFG.TG] c) fun s => s.retrip l (chIdx c)).syncCfgErrs l
  match R.PWM_CHc_CFG.EN.hit a, R.PWM_CHc_DST.DST_H.hit a, R.PWM_CHc_ON.ON.hit a, R.PWM_CHc_OFF.OFF.hit a with
  | some c, _, _, _ => chCfg c
  | _, some c, _, _ => chCfg c
  | _, _, some c, _ => s.dirty l (s.tbOf l (chIdx c))
  | _, _, _, some c => s.dirty l (s.tbOf l (chIdx c))
  | _, _, _, _ =>
    match R.PWM_TBt_CFG.EN.hit a, R.PWM_TBt_PERIOD.P.hit a, R.PWM_TBt_PHASE.PHASE.hit a, R.PWM_TSRCs_CFG.MASK.hit a with
    | some t, _, _, _ =>
      if changed b s d [R.PWM_TBt_CFG.EN] t then
        (if s.on d R.PWM_TBt_CFG.EN t then s.startTb l (tbIdx t) else s.stopTb l (tbIdx t))
      else s
    | _, some t, _, _ => s.dirty l t
    | _, _, some t, _ => s.dirty l t
    | _, _, _, some src =>
      if changed b s d [R.PWM_TSRCs_CFG.MASK, R.PWM_TSRCs_CFG.BT, R.PWM_TSRCs_CFG.BLANK_EN] src && s.srcOn l src
          && !s.masked l src then s.reach l src
      else s
    | _, _, _, _ =>
      match R.PWM_EVk_CFG.EN.hit a, R.PWM_TGg_CFG.ACTION.hit a with
      | some k, _ =>
        let s1 := if k < 8 then s.modPwm l fun p => { p with evs := upd p.evs (tbIdx k) fun _ => [] } else s
        s1.planEvents l (tbIdx (s.rd d R.PWM_EVk_CFG.TB k)) s.steps true
      | _, some g =>
        if changed b s d [R.PWM_TGg_CFG.ACTION] g && s.rdBit d R.PWM_STATUS.TG_ACTIVE g then
          s.each allCh fun s c =>
            s.when (s.on d R.PWM_CHc_STATUS.TRIPPED c && s.tgOf l c == g) fun s => s.tripAct l g c
        else s
      | _, _ => if a = R.PWM_SHARED.TB.addr then s.syncCfgErrs l else s

/-- The power-and-analog die (R244, R293, R299): latches that clear under conditions, the actuator boost, the path's
`EN`. -/
def State.hookPap (b s : State) (l : Lane) (a v : Nat) : State :=
  let d := papDie l
  match R.PAP_HBn_STATUS.SHORT.hit a, R.LVP_ACT_CFG.ACT_EN.hit a, R.LVP_CTRL.EN.hit a with
  | some n, _, _ =>
    let s1 := (s.wr d R.PAP_HBn_STATUS.SHORT (b.rd d R.PAP_HBn_STATUS.SHORT n) n).wr d R.PAP_HBn_STATUS.BST_UV
      (b.rd d R.PAP_HBn_STATUS.BST_UV n) n
    s1.pdClear l (hbIdx n) (bit v R.PAP_HBn_STATUS.SHORT.lo) (bit v R.PAP_HBn_STATUS.BST_UV.lo)
  | _, some _, _ => s.actSync l
  | _, _, some _ => if b.on d R.LVP_CTRL.EN && !s.on d R.LVP_CTRL.EN then s.lvpOff l else s
  | _, _, _ =>
    match R.PAP_HBn_CFG.EN.hit a with
    | some n =>
      if changed b s d [R.PAP_HBn_CFG.EN] n then
        (if s.on d R.PAP_HBn_CFG.EN n then s.redriveAll l
         else ((s.pdOff l (hbIdx n) true).pdOff l (hbIdx n) false).modHb l (hbIdx n) fun h =>
           { h with wantHi := false, wantLo := false, refresh := 0 })
      else s
    | none => s

/-- What a write of a register at lane address `a` with value `v` starts (see the functions above). Blocks whose clock has
not been started by `ST11` take their settings there. -/
def State.afterWrite (b s : State) (l : Lane) (d : Die) (a v : Nat) : State :=
  if d = papDie l then b.hookPap s l a v
  else if d = laneDie l then
    if a = R.CFG_BOOT_NEXT.SLOT.addr then b.bootNext l (v % 4)
    else if R.TIM_NOW_LO.TIME.addr ≤ a then b.hookTim s l a
    else if !s.past l 11 then (b.hookFixed s l a)
    else if R.TRC_CTRL.IRQ_EN.addr ≤ a ∧ a < R.TRC_CTRL.IRQ_EN.addr + 0x10000 then b.hookTrc s l a
    else if R.ADC_CTRL.EST_EN.addr ≤ a ∧ a < R.POS_RESn_CFG.EN.addr then b.hookAdc s l a
    else if R.POS_RESn_CFG.EN.addr ≤ a ∧ a < R.CE_CTRL.WRAP_IRQ_EN.addr then b.hookPos s l a
    else if R.CE_CTRL.WRAP_IRQ_EN.addr ≤ a ∧ a < R.PWM_CTRL.TORN_IRQ_EN.addr then b.hookCe s l a
    else if R.PWM_CTRL.TORN_IRQ_EN.addr ≤ a ∧ a < R.HLK_CTRL.FAULT_IRQ_EN.addr then b.hookPwm s l a
    else if R.HLK_LEGm_CFG.EN.hit a = none then s else s.syncCfgErrs l
  else s

end Sys2Proof.Machine
end

