-- ==== Sys2Proof/Machine/Keeper.lean ====
section
/-!
DEFINITION. The keepers, the service button and the lamps (R300 to R302).
-/
namespace Sys2Proof.Machine

/-- The keeper of a die changed by `f`. -/
def State.modKeep (s : State) (l : Lane) (f : KeeperSt → KeeperSt) : State :=
  s.modPap l fun p => { p with keeper := f p.keeper }

/-- The keeper of a die. -/
def State.keeper (s : State) (l : Lane) : KeeperSt := (s.pap l).keeper

/-- A keeper may decide (R300): its own `ARM`, and the other's unless the other's island is unpowered. -/
def State.armed (s : State) (l : Lane) : Bool :=
  s.on (papDie l) R.LVP_KEEP_CTRL.ARM && (s.on (papDie l.other) R.LVP_KEEP_CTRL.ARM || !(s.pap l.other).powered)

/-- The flag of an action in `LVP_KEEP_STATUS` (R300). -/
def keepFlag : KeepAction → Option Fld
  | .none => none
  | .reset => some R.LVP_KEEP_STATUS.PRESS_8S
  | .storageEntry => some R.LVP_KEEP_STATUS.PRESS_20S
  | .storageExit => some R.LVP_KEEP_STATUS.STORAGE_EXIT
  | .wake => some R.LVP_KEEP_STATUS.PRESS_SHORT

/-- A keeper takes a decision made at `t` (R300, R301): it stops timing, reports the action, and begins its steps. Storage
exit pulses `BSW_CLOSE` at once; a short press wakes the device; a reset cycle or a Storage entry is reported to the lane
(R431). -/
def State.keepTake (s : State) (l : Lane) (a : KeepAction) (t : Nat) : State :=
  let s1 := match keepFlag a with
    | some f => s.set (papDie l) f
    | none => s
  let s2 := s1.modKeep l fun k => { k with pressAt := none, decided := none }
  match a with
  | .none => s2
  | .wake => s2.wake false false true
  | .storageExit =>
    { s2.modKeep l fun k => { k with action := a, step := 0, stepAt := t, swClose := true } with storage := false }
  | _ => (s2.modKeep l fun k => { k with action := a, step := 0, stepAt := t }).asyTrigger l trgKeeper

/-- A keeper decides for both (R300): the other takes the decision when it reaches it. -/
def State.keepDecide (s : State) (l : Lane) (a : KeepAction) : State :=
  (s.keepTake l a s.now).modKeep l.other fun k => { k with decided := some (a, s.now) }

/-- The master lane's `CFG` block starts Storage entry at its own keeper (R301). -/
def State.keeperStore (s : State) (l : Lane) : State := if s.sup.vkeep then s.keepDecide l .storageEntry else s

/-- `BTN_PRESS` (R300): the press counts from its falling edge, 50 ms ago. -/
def execBtnPress (l : Lane) (s : State) : Out :=
  .next (if s.sup.vkeep && !s.on (papDie l) R.LVP_KEEP_STATUS.BTN then
    let s1 := s.set (papDie l) R.LVP_KEEP_STATUS.BTN
    if (s.keeper l).decided.isSome || (s.keeper l).action != .none then s1
    else s1.modKeep l fun k => { k with pressAt := some (s.now - 50 * ms) }
  else s)

/-- The device is in Parked, as a keeper sees it. -/
def State.keepParked (s : State) : Bool := s.depOn && s.rd .ds R.DSP_MODE.MODE == modeParked

/-- A press reaches its mark (R300): Storage exit, or Storage entry. -/
def State.keepMark (s : State) (l : Lane) : State :=
  let s1 := s.modKeep l fun k => { k with pressAt := none }
  if s.storage then (if s1.armed l then s1.keepDecide l .storageExit else s1)
  else
    let s2 := s1.when s1.depOn fun s => s.modDep fun x => { x with btnMark := 2 }
    if s2.armed l then s2.keepDecide l .storageEntry else s2.set (papDie l) R.LVP_KEEP_STATUS.REFUSED

/-- The mark that a press counts towards, in ms (R300). -/
def State.keepMarkMs (s : State) : Nat := if s.storage then 1000 else 20000

/-- `BTN_RELEASE` (R300): `ms_` is the length that the keeper's own oscillator gives, which places the release; a keeper that
still times the press decides by it, at the mark where the press has passed it. -/
def execBtnRelease (l : Lane) (ms_ : Nat) (s0 : State) : Out :=
  let d := papDie l
  let s := match (s0.keeper l).pressAt with
    | some t => s0.advTo (t + ms_ * ms)
    | none => s0
  .next (if s.sup.vkeep && s.on d R.LVP_KEEP_STATUS.BTN then
    let s1 := (s.clr d R.LVP_KEEP_STATUS.BTN).wrSat d R.LVP_KEEP_STATUS.LAST_PRESS (ms_ / 100)
    let s2 := s1.when s1.depOn fun s => s.modDep fun x =>
      { x with btnMark := if (s.keeper l).action = .storageEntry then x.btnMark else 0 }
    let k := s.keeper l
    let s3 := s2.modKeep l fun k => { k with pressAt := none }
    if k.pressAt.isNone || k.decided.isSome then s3
    else if s3.keepMarkMs ≤ ms_ then s3.keepMark l
    else if ms_ < 8000 then (if s3.armed l && s3.keepParked && !s3.storage then s3.keepDecide l .wake else s3)
    else if s3.storage then s3
    else if s3.armed l then s3.keepDecide l .reset
    else s3.set d R.LVP_KEEP_STATUS.REFUSED
  else s)

/-- `BTN_HELD_MARK` (R300): Storage entry at 20 s, or Storage exit at 1 s, after the falling edge. -/
def execBtnHeldMark (l : Lane) (s : State) : Out :=
  .next (match (s.keeper l).pressAt with
    | some t =>
      if s.sup.vkeep && (s.keeper l).decided.isNone then (s.advTo (t + s.keepMarkMs * ms)).keepMark l else s
    | none => s)

/-- `BTN_HELD_8S` (R302): 8 s after the falling edge. -/
def execBtnHeld8s (l : Lane) (s : State) : Out :=
  .next (match (s.keeper l).pressAt with
    | some t =>
      if s.sup.vkeep && s.depOn then (s.advTo (t + 8 * sec)).modDep fun x => { x with btnMark := max 1 x.btnMark } else s
    | none => s)

/-- `KEEPER_DECISION_RECEIVED` (R300). -/
def execKeeperDecisionReceived (l : Lane) (s : State) : Out :=
  .next (match (s.keeper l).decided with
    | some (a, t) => if s.sup.vkeep then s.keepTake l a t else s
    | none => s)

/-- `BSW_OPEN` takes the supply of every island (R301). -/
def State.batteryOpen (s : State) : State :=
  let s1 := if s.depOn then s.depGone .unpowered else s.modDep fun _ => DepSt.init
  s1.each lanes fun s l => ((s.islandFault l .vbat).papUnpower l).setSupplies l 0

/-- The instant of a keeper's next step after its decision, in ms (R301). -/
def keepDelay (a : KeepAction) (step : Nat) : Option Nat :=
  match a, step with
  | .storageExit, 0 => some 50
  | .reset, 0 => some 100 | .reset, 1 => some 150 | .reset, 2 => some 2100 | .reset, 3 => some 2150
  | .storageEntry, 0 => some 100 | .storageEntry, 1 => some 150
  | _, _ => none

/-- `KEEPER_ACTION_STEP` (R301): the pulses of 50 ms on `BSW_OPEN` and `BSW_CLOSE`; Storage begins when the islands fall. -/
def execKeeperActionStep (l : Lane) (s : State) : Out :=
  let k := s.keeper l
  .next (if !s.sup.vkeep then s
    else match keepDelay k.action k.step with
    | none => s
    | some t =>
      let s1 := (s.advTo (k.stepAt + t * ms)).modKeep l fun k => { k with step := k.step + 1 }
      match k.action, k.step with
      | .storageExit, _ => s1.modKeep l fun k => { k with swClose := false, action := .none, step := 0 }
      | a, 0 =>
        let s2 := (s1.modKeep l fun k => { k with swOpen := true }).batteryOpen
        if a = .storageEntry then { s2 with storage := true } else s2
      | a, 1 => s1.modKeep l fun k =>
          if a = .storageEntry then { k with swOpen := false, action := .none, step := 0 } else { k with swOpen := false }
      | _, 2 => s1.modKeep l fun k => { k with swClose := true }
      | _, _ => s1.modKeep l fun k => { k with swClose := false, action := .none, step := 0 })

/-! ## Lamps (R302) -/

/-- The patterns of `STAT0` for the mode rows of R302, with the row's number. -/
def State.lampMode (s : State) : Nat × Nat × Nat :=
  let m := s.rd .ds R.DSP_MODE.MODE
  if m = modeService then (6, 0xA0, 0x00)
  else if m = modeParked then (7, 0x80, 0x00)
  else if m = modeStorage then (8, 0x00, 0x00)
  else (8, 0xFF, 0x00)

/-- The row of R302 in force, with the patterns of `STAT0` and `STAT1`; both are off until the first handshake. -/
def State.lamp (s : State) : Nat × Nat × Nat :=
  if !s.depOn || !s.dep.firstHandshake then (0, 0, 0)
  else if s.dep.btnMark = 2 then (0, 0xFF, 0xFF)
  else if s.dep.btnMark = 1 then (1, 0xAA, 0xAA)
  else if s.on .ds R.DSP_STATUS.SAFE_STOP then (2, 0x00, 0xFF)
  else if s.on .ds R.DSP_DEG_STATUS.RUNNING then (3, 0xFF, 0xAA)
  else if lanes.any fun l => (s.depLane l).service then (4, 0x00, 0xF0)
  else if lanes.any fun l => s.rd (papDie l) R.LVP_STATUS.PATH == pathIso then (5, s.lampMode.2.1, 0xA0)
  else s.lampMode

/-- `LAMP_SLOT` (R302): slot 0 is the most significant bit, and a 1 pulls the lamp low. -/
def execLampSlot (s : State) : Out :=
  .next (if s.depOn then
    let k := (s.dep.lampSlot + 1) % 8
    s.modDep fun d => { d with lampSlot := k, stat0 := bit s.lamp.2.1 (7 - k), stat1 := bit s.lamp.2.2 (7 - k) }
  else s)

end Sys2Proof.Machine
end

