-- ==== Sys2Proof/Machine/Vrc.lean ====
section
/-!
DEFINITION. The commands of the core rail controller: its update, the phases it sheds and restores, and the end of a voltage
command (R373 to R375, R382).
-/
namespace Sys2Proof.Machine

/-- `VRC_SETTLED` (R382): the setpoint has reached the target of the open command and the rail has stood within 5 mV of it for
2 us; the controller owes `ACK`. -/
def execVrcSettled (l : Lane) (s : State) : Out :=
  let v := s.vrc l
  .next (match v.okAt with
    | none => s
    | some t =>
      if v.running && (v.tag.isSome || v.wake) then
        let s1 := s.advTo (max t (s.slewEnd l) + 2 * us)
        ((s1.owe l (.ack (v.tag.getD 0) v.target)).modVrc l fun v => { v with tag := none, wake := false })
      else s)

/-- The total current below the shed threshold of the present phase count, with nothing that keeps a shed from starting
(R375). A restore ends within 500 ns. -/
def State.shedLow (s : State) (l : Lane) : Bool :=
  let d := papDie l
  let i := (s.vrc l).iNow
  s.on d R.VRC_CORE_CFG.SHED_EN && !s.slewing l && !(s.vrc l).nap
    && ((s.shed l == shedP4 && decide (i < (10 * s.rd d R.VRC_SHED_CFG.SHED2 : Nat)))
      || (s.shed l == shedP2 && decide (i < (10 * s.rd d R.VRC_SHED_CFG.SHED1 : Nat))))

/-- What a sample shows of the currents and the rail (R373 to R375, R382): the total current is the sum of the phases averaged
over 1 us, four updates. -/
def State.railSense (s : State) (l : Lane) (m : RailSample) : State :=
  let d := papDie l
  let sums := (m.phases.foldl (· + ·) 0 :: (s.vrc l).sums).take 4
  let r := s.quot (sums.foldl (· + ·) 0) sums.length
  let oc := (m.peaks.filter fun (i : Int) => decide ((10 * s.rd d R.VRC_LIMIT.OC : Nat) < i)).length
  let s1 := r.2.modVrc l fun v =>
    { v with sums := sums, iPrev := v.iNow, iNow := r.1, oc := v.oc || oc != 0
             okAt := if railNear m.vddc v.target then some (v.okAt.getD s.now) else none }
  let s2 := (((s1.wrSat d R.VRC_CORE_MEAS.VDDC m.vddc).wrSat d R.VRC_CORE_MEAS.I_TOTAL r.1.toNat).inc d R.VRC_CORE_CNT.OC
    0 0 oc).each (List.range 4) fun s p => s.wrS d R.VRC_PHp_MEAS.I (m.phases.getD p 0) p
  s2.modVrc l fun v => { v with lowAt := if s2.shedLow l then some (v.lowAt.getD s.now) else none }

/-- `VRC_UPDATE` (R373), 250 ns after the last: e is the setpoint less the measured rail in 0.625 mV; a changed phase count uses
its gain set from this update on. -/
def execVrcUpdate (l : Lane) (m : RailSample) (s : State) : Out :=
  let d := papDie l
  .next (if !(s.vrc l).running then s
    else
      let sa := (s.advTo ((s.vrc l).updAt + 25)).modVrc l fun v => { v with updAt := v.updAt + 25 }
      let s0 := if sa.shed l = shedRestore ∧ (sa.vrc l).shedAt + 50 ≤ sa.now then sa.setShed l shedP4 else sa
      let v := s0.vrc l
      let g := gainOf (s0.shed l)
      let e : Int := 960 + 4 * (s0.vddSet l : Nat) - m.vddc
      let num := s0.rdS d R.VRC_GSs_PID.KP g * (e - v.e1) + s0.rdS d R.VRC_GSs_PID.KI g * e
        + s0.rdS d R.VRC_GSs_KD.KD g * (e - 2 * v.e1 + v.e2)
      let pr1 := s0.quot num 4096
      let u := v.u + pr1.1
      let pr2 := pr1.2.quot (s0.rd d R.VRC_GSs_POLE.A1 g * (u - v.y1)) 65536
      let y1 := v.y1 + pr2.1
      let pr3 := pr2.2.quot (s0.rd d R.VRC_GSs_POLE.A2 g * (y1 - v.y2)) 65536
      let y2 := v.y2 + pr3.1
      let duty := min (max y2 (s0.rd d R.VRC_GSs_DUTY.DMIN g)) (s0.rd d R.VRC_GSs_DUTY.DMAX g)
      let s4 := pr3.2.modVrc l fun v => { v with u := u, y1 := y1, y2 := y2, duty := duty, e1 := e, e2 := v.e1 }
      (s4.wr d R.VRC_CORE_STATUS.GAIN_SET g).railSense l m)

/-- `VRC_SHED` (R375): the load has stayed below the threshold for `DWELL`. -/
def execVrcShed (l : Lane) (s : State) : Out :=
  .next (match (s.vrc l).lowAt with
    | none => s
    | some t =>
      if (s.vrc l).running && s.shedLow l then
        let s1 := s.advTo (t + orOne (s.rd (papDie l) R.VRC_SHED_CFG2.DWELL) * us)
        s1.setShed l (if s.shed l = shedP2 then shed21 else shed42)
      else s)

/-- `VRC_SHED_RAMP_END` (R375): 4 us after the shed began the outgoing phases stop. A Nap entry goes on to one phase. -/
def execVrcShedRampEnd (l : Lane) (s : State) : Out :=
  let st := s.shed l
  .next (if (s.vrc l).running && (st == shed42 || st == shed21) then
    let s1 := s.advTo ((s.vrc l).shedAt + 4 * us)
    let s2 := (s1.setShed l (st + 1)).inc (papDie l) R.VRC_CORE_CNT.SHEDS
    if (s.vrc l).nap && st == shed42 then s2.setShed l shed21 else s2
  else s)

/-- The threshold whose crossing led to a shed state: `SHED2` down to two phases, `SHED1` below (R375). -/
def State.shedThreshold (s : State) (l : Lane) : Nat :=
  if s.shed l = shed42 ∨ s.shed l = shedP2 then s.rd (papDie l) R.VRC_SHED_CFG.SHED2
  else s.rd (papDie l) R.VRC_SHED_CFG.SHED1

/-- The restore condition on the total current and its slope over the last 250 ns (R375): a slope above `RESTORE`, which counts
0.5 A/us, or a current above the shed threshold plus `HYST`. -/
def State.restoreDue (s : State) (l : Lane) : Bool :=
  let d := papDie l
  let v := s.vrc l
  decide ((5 * s.rd d R.VRC_SHED_CFG.RESTORE : Nat) < 4 * (v.iNow - v.iPrev))
    || decide ((10 * (s.shedThreshold l + s.rd d R.VRC_SHED_CFG.HYST) : Nat) < v.iNow)

/-- `VRC_RESTORE` (R375). Nap ignores the thresholds. -/
def execVrcRestore (l : Lane) (s : State) : Out :=
  .next (if (s.vrc l).running && !(s.vrc l).nap && s.restoreDue l then s.vrcRestore l else s)

end Sys2Proof.Machine
end

