-- ==== Sys2Proof/Machine/Access.lean ====
section
/-!
DEFINITION. Accesses of a lane's initiators to its address map (R4 to R10, R41 to R43): the registers by their access
codes, the memories, the table windows, the error response; and the meanings of `REGISTER_WRITE` and
`READ_LOW_WORD_LATCH`.
-/
namespace Sys2Proof.Machine

/-- The fixed access errors of `TAL_Qq` for the converter queues: only `LEVEL` and `STAT` exist there (R114). -/
def talHole (a : Nat) : Bool :=
  (List.range 6).any fun k => a == 0x40020400 + 0x20 * 11 + 4 * k || a == 0x40020400 + 0x20 * 12 + 4 * k

/-- What a lane address is (R41, R407, R424). -/
inductive Target
  | rom | apTcm | cpTcm | sram | cfgRam | trace
  | reg (d : Die)
  | table_ (key : Nat)
  | nothing
deriving DecidableEq, Repr

/-- The decoding of a lane address (R41, R407, R424). -/
def State.target (s : State) (l : Lane) (a : Nat) : Target :=
  if a ≤ 0x1FFFF then .rom
  else if 0x10000000 ≤ a ∧ a ≤ 0x1007FFFF then .apTcm
  else if 0x10080000 ≤ a ∧ a ≤ 0x100FFFFF then .cpTcm
  else if inSram a then .sram
  else if 0x30000000 ≤ a ∧ a ≤ 0x3000FFFF then .cfgRam
  else if 0x31000000 ≤ a ∧ a ≤ 0x3103FFFF then .trace
  else if 0x40150000 ≤ a ∧ a ≤ 0x4015FFFF then .reg .ds
  else if 0x40160000 ≤ a ∧ a ≤ 0x4016FFFF then .reg (papDie l)
  else if 0x400F0000 ≤ a ∧ a ≤ 0x400FFFFF then
    let n := (a - 0x400F0000) / 0x4000
    let o := (a - 0x400F0000) % 0x4000
    if o < 0x100 then .reg (laneDie l)
    else if (0x400 ≤ o ∧ o < 0x1080) ∨ (0x1400 ≤ o ∧ o < 0x1C00) then .table_ (tableKey a)
    else if 0x2000 ≤ o then
      .table_ (ramKey n (s.rd (laneDie l) R.CANn_RAM_PAGE.PAGE n * 0x2000 + (o - 0x2000)))
    else .nothing
  else if 0x40100800 ≤ a ∧ a ≤ 0x401009FF then .table_ (tableKey a)
  else if 0x40000000 ≤ a ∧ a ≤ 0x4017FFFF ∧ ¬ (0x400B0000 ≤ a ∧ a ≤ 0x400BFFFF) then .reg (laneDie l)
  else .nothing

/-- The configuration seal that governs a bank's RWS fields (R7, R76). -/
def State.isSealed (s : State) (l : Lane) (d : Die) : Bool :=
  if d = .ds then s.on .ds R.DSP_SEAL.SEALED else s.on (laneDie l) R.CFG_SEAL.SEALED

/-- One field's part of a word write, by its access code (R4). WT, RC and RO parts do nothing here: an action that a WT
field starts is a command of its own. -/
def State.writeField (s : State) (l : Lane) (d : Die) (x : Fld × Nat × Nat) (v : Nat) : State :=
  let pr1 := x
  let f := pr1.1
  let i := pr1.2.1
  let j := pr1.2.2
  let part := bits v (f.lo + f.w - 1) f.lo
  match f.acc with
  | .rw => s.wr d f part i j
  | .wo => s.wr d f part i j
  | .rws => if s.isSealed l d then s else s.wr d f part i j
  | .w1c => s.wr d f (s.rd d f i j &&& (2 ^ f.w - 1 - part)) i j
  | .ro => s
  | .rc => s
  | .wt => s

/-- `TIM7` belongs to the lane's Deputy port once that has claimed it (R340). -/
def tim7Locked (s : State) (l : Lane) (a : Nat) : Bool :=
  (s.run l).sup.tim7 && (a == 0x401700B0 || a == 0x401700B4)

/-- The `ETHm` registers that `m` = 2 does not have (R426). -/
def ethHole (a : Nat) : Bool :=
  a == 0x4010030C || a == 0x40100310 || a == 0x40100314 || (decide (0x40100340 ≤ a) && decide (a ≤ 0x40100348))

/-- A write to a check-value unit's `ALIVE` register by an initiator other than the owner of its open block (R367). -/
def State.aliveForeign (s : State) (l : Lane) (who : Initiator) (a : Nat) : Bool :=
  match R.CVU_Un_ALIVE.COUNTER.hit a with
  | some k => s.on (laneDie l) R.CVU_Un_STATUS.BUSY k && s.rd (laneDie l) R.CVU_Un_STATUS.OWNER k != who.code
  | none => false

/-- A register word written by an initiator of lane `l`: the fields by their access codes, the error responses of the seal,
the ports and the masters, and what the write starts (R4, R7, R277, R331, R340, R367). -/
def State.writeReg (s : State) (l : Lane) (who : Initiator) (d : Die) (a v : Nat) : State :=
  let fs := fieldsAt d.bank a
  if fs.isEmpty || talHole a || ethHole a then s.accessError l who a true .unmapped
  else if d = .ds ∧ 0x40150100 ≤ a ∧ a < 0x40150180 ∧ (a - 0x40150100) / 0x40 ≠ l.idx.val then
    s.accessError l who a true .owner
  else if tim7Locked s l a then s
  else if s.aliveForeign l who a then s.accessError l who a true .owner
  else match (if d = .ds then R.DSP_SOk_CMD.CLOSE.hit a else none) with
    | some k => s.soCmd l who (soIdx k) v
    | none =>
      let s1 := s.each fs fun s x => s.writeField l d x v
      let s2 := s.afterWrite s1 l d a v
      if s.isSealed l d && fs.any (fun x => x.1.acc = .rws) then s2.accessError l who a true .sealedRws else s2

/-! ## Fields whose content is computed when they are read -/

/-- The sum of the bits `b i` over `n` instances. -/
def maskOf (n : Nat) (b : Nat → Bool) : Nat := ((List.range n).map fun i => b2n (b i) * 2 ^ i).sum

/-- The `TIM` fields that are computed (R98, R99, R115). -/
def State.viewTim (s : State) (l : Lane) (f : Fld) (i : Nat) : Option Nat :=
  if f = R.TIM_NOW_LO.TIME then some (low 32 (s.laneTime l))
  else if f = R.TIM_NOW_HI.TIME then some (low 32 (s.laneTime l / 2 ^ 32))
  else if f = R.TIM_UNC.US then some (s.netUnc l)
  else if f = R.TIM_Tn_COUNT.COUNTS then if h : i < 8 then some (s.timCount l ⟨i, h⟩) else none
  else none

/-- The `TAL` fields that show the tally (R103, R114). The fields of an entry that is free again read their reset value 0: the
spec states no other (DESIGN CHOICE, log entry 45). -/
def State.viewTal (s : State) (l : Lane) (f : Fld) (i : Nat) : Option Nat :=
  let es := (s.tal l).entries
  if f = R.TAL_STATUS.EMPTY then some (b2n es.isEmpty)
  else if f = R.TAL_FREE.FREE then some (64 - es.length)
  else if f = R.TAL_OUT_LEVEL.LEVEL then some (s.tal l).ring.length
  else if f = R.TAL_Qq_BACKLOG.COUNTS then some (min (backlog16 (es.filter fun e => e.queue == i) / 16) 0xFFFFFFFF)
  else if f = R.TAL_Qq_LEVEL.INFLIGHT then some (es.filter fun e => e.queue == i).length
  else if f = R.TAL_Qq_LEVEL.DESC then
    some (if i = 11 then (s.run l).adc.q11.length else if i = 12 then (s.run l).adc.q12.length
      else (es.filter fun e => e.queue == i).length)
  else match (s.tal l).find i with
    | none => none
    | some e =>
      if f = R.TAL_Ee_INFO.INITIATOR then some e.who
      else if f = R.TAL_Ee_INFO.QUEUE then some e.queue
      else if f = R.TAL_Ee_INFO.STATE then some e.st.code
      else if f = R.TAL_Ee_INFO.MEASURED then some (b2n e.measured)
      else if f = R.TAL_Ee_INFO.SIZE then some e.size
      else if f = R.TAL_Ee_DEADLINE_LO.DL then some (low 32 e.deadline)
      else if f = R.TAL_Ee_DEADLINE_HI.DL then some (bits e.deadline 39 32)
      else if f = R.TAL_Ee_BOUND_LO.BOUND then some (low 32 e.bound)
      else none

/-- The converter fields that show the groups (R149). -/
def State.viewAdc (s : State) (l : Lane) (f : Fld) (i : Nat) : Option Nat :=
  let g := fun (i : Nat) => (s.run l).adc.groups.toList.getD i AdcGroup.init
  if f = R.ADC_STATUS.GROUP_ACTIVE then some (maskOf 12 fun k => s.rd (laneDie l) R.ADC_Gg_CFG.MODE k != 0)
  else if f = R.ADC_Gg_STATUS.RUNNING then some (b2n ((g i).busy || !(g i).aborted.isEmpty
    || s.rd (laneDie l) R.ADC_Gg_CFG.MODE i == 1 || s.forResolver l i))
  else if f = R.ADC_Gg_STATUS.WAITING then some (b2n (s.rd (laneDie l) R.ADC_Gg_CFG.MODE i == 3 && !(g i).busy && (g i).aborted.isEmpty
      && !s.forResolver l i))
  else if f = R.ADC_Gg_STATUS.EST_STATE ∧ s.on (laneDie l) R.ADC_Gg_CFG.EST_FREEZE i then some 3
  else if f = R.ADC_Gg_STATUS.ELIGIBLE then some (b2n (s.eligibleGroup l i))
  else none

/-- The engine's summary bits and integrators (R188, R195). -/
def State.viewCe (s : State) (l : Lane) (f : Fld) (i : Nat) : Option Nat :=
  let d := laneDie l
  let any := fun (n : Nat) (p : Nat → Bool) => some (b2n ((List.range n).any p))
  if f = R.CE_STATUS.WRAP then some (b2n (s.rd d R.CE_WRAP.SLOT != 0))
  else if f = R.CE_STATUS.FE then some (b2n (s.rd d R.CE_FE.SLOT != 0))
  else if f = R.CE_STATUS.OVR then any 24 fun k => s.on d R.CE_Ai_STATUS.OVR k
  else if f = R.CE_STATUS.BAND_ERR then any 32 fun k => s.rd d R.CE_Bn_STATUS.STATE k == bandErr
  else if f = R.CE_STATUS.LATE then any 32 fun k => s.on d R.CE_Bn_STATUS.LATE k
  else if f = R.CE_Ai_INT_LO.I then
    if h : i < 24 then some (low 32 (ux 48 (s.arith l ⟨i, h⟩).integ)) else none
  else if f = R.CE_Ai_INT_HI.I then
    if h : i < 24 then some (ux 48 (s.arith l ⟨i, h⟩).integ / 2 ^ 32) else none
  else none

/-- The PWM summary bits and counters (R198, R221). -/
def State.viewPwm (s : State) (l : Lane) (f : Fld) (i : Nat) : Option Nat :=
  let d := laneDie l
  if f = R.PWM_STATUS.TORN then some (b2n ((List.range 8).any fun t => s.on d R.PWM_TBt_STATUS.TORN t))
  else if f = R.PWM_STATUS.CFG_ERR then some (b2n ((List.range 64).any fun c => s.on d R.PWM_CHc_STATUS.CFG_ERR c))
  else if f = R.PWM_TBt_STATUS.DOWN then
    some (b2n (s.on d R.PWM_TBt_STATUS.RUN i && (s.tb l (tbIdx i)).falling s.steps))
  else if f = R.PWM_CHc_STATUS.HIGH then some (b2n ((s.ch l (chIdx i)).hi.any fun y => decide (y ≤ s.steps)))
  else if f = R.PWM_CHc_STATUS.LOW then some (b2n ((s.ch l (chIdx i)).lo.any fun y => decide (y ≤ s.steps)))
  else if f = R.PWM_TBt_COUNT.COUNT then
    if s.on d R.PWM_TBt_STATUS.RUN i then
      some (low 16 ((s.tb l (tbIdx i)).pos s.steps))
    else none
  else none

/-- The contactor states as a lane reads them (R289). -/
def State.viewNrg (s : State) (l : Lane) (f : Fld) (i : Nat) : Option Nat :=
  if !s.depOn then none
  else if f = R.NRG_CTRc_STATUS.STATE then some (s.ctr l i).code
  else if f = R.NRG_CTRc_STATUS.FB then some (s.rd .ds R.DSP_SOk_STATUS.FB (s.ctrOut l i))
  else if f = R.NRG_CTRc_STATUS.WELDED then some (b2n (s.rdBit .ds R.DSP_WELD.WELDED i))
  else none

/-- The Assay's counters and states (R429, R440). -/
def State.viewAsy (s : State) (l : Lane) (f : Fld) (i : Nat) : Option Nat :=
  let a := s.asy l
  let m := a.modes.toList.getD i (0, 0)
  if f = R.ASY_IMP_LO.UWH then some (low 32 a.imp)
  else if f = R.ASY_IMP_HI.UWH then some (low 32 (a.imp / 2 ^ 32))
  else if f = R.ASY_EXP_LO.UWH then some (low 32 a.exp)
  else if f = R.ASY_EXP_HI.UWH then some (low 32 (a.exp / 2 ^ 32))
  else if f = R.ASY_Mm_IMP_LO.UWH then some (low 32 m.1)
  else if f = R.ASY_Mm_IMP_HI.UWH then some (low 32 (m.1 / 2 ^ 32))
  else if f = R.ASY_Mm_EXP_LO.UWH then some (low 32 m.2)
  else if f = R.ASY_Mm_EXP_HI.UWH then some (low 32 (m.2 / 2 ^ 32))
  else if f = R.ASY_STATUS.COMMITTER then some (b2n (s.committer l))
  else if f = R.ASY_STATUS.NO_KEY then some (b2n (!s.on (laneDie l) R.SEC_LC.KEYS))
  else none

/-- The remaining lane fields that show other state: `SEC_PUBw`, `LNK_STATUS.PARTNER`, `LCK_DBG.OPEN`, `CVU_STATUS.IRQ`,
`THM_SHUT`, `ETH_STATUS.UP`, and the Hoist links (R246, R328, R369, R392, R426, R451). -/
def State.viewMisc (s : State) (l : Lane) (f : Fld) (i : Nat) : Option Nat :=
  let d := laneDie l
  if f = R.SEC_PUBw.WORD then
    some (if s.on d R.SEC_LC.KEYS then leNat ((List.range 4).map fun k => Config.crypto 6 l.idx [] [] (4 * i + k)) else 0)
  else if f = R.LNK_STATUS.PARTNER then some (b2n (s.partnerNear l))
  else if f = R.LCK_DBG.OPEN then some (b2n (s.debugOpen l))
  else if f = R.CVU_STATUS.IRQ then some (maskOf 4 fun n => s.on d R.CVU_Un_CFG.IRQ_EN n
      && (s.on d R.CVU_Un_STATUS.MISMATCH n || s.on d R.CVU_Un_STATUS.REPEAT n || s.on d R.CVU_Un_STATUS.JUMP n
        || s.on d R.CVU_Un_STATUS.UNIT_ERR n))
  else if f = R.THM_SHUT.COUNT then some (s.rd (papDie l) R.PAP_SHUT.COUNT)
  else if f = R.THM_SHUT.LAST then some (s.rd (papDie l) R.PAP_SHUT.LAST)
  else if f = R.ETH_STATUS.UP then some (maskOf 3 fun m => if m = 2 then s.ethUp l 2 else s.on d R.ETHm_LINK.UP m)
  else s.hlkView f i

/-- A map of the training lock as the Deputy holds it (R239, R352). -/
def State.viewDs (s : State) (f : Fld) (i : Nat) : Option Nat :=
  if f = R.DSP_TIME_LO.TIME then some (low 32 s.depTime)
  else if f = R.DSP_TIME_HI.TIME then some (low 32 (s.depTime / 2 ^ 32))
  else if f = R.DSP_LAMP.ROW then some s.lamp.1
  else if f = R.DSP_LAMP.STAT0 then some s.lamp.2.1
  else if f = R.DSP_LAMP.STAT1 then some s.lamp.2.2
  else if f = R.DSP_DEG_REMAIN.MS then some s.degRemain
  else if f = R.DSP_HEN.LEVEL then some (maskOf 8 fun g => s.hoist.henHigh.toList.getD g false)
  else if f = R.DSP_HEN.HELD then some (maskOf 8 fun g => s.hoist.henActs.toList.getD g false)
  else if f = R.DSP_TRAIN.LOCK then some (b2n s.hoist.lock.isSome)
  else if f = R.DSP_TRAIN.OWNER then some s.hoist.owner.idx
  else if f = R.DSP_TRAIN.RECORD_VALID then some (b2n s.hoist.recordValid)
  else if f = R.DSP_GRPg.VALUE then some (b2n (s.hoist.safe.toList.getD i false)
    + 2 * s.rd (laneDie s.hoist.owner) R.HLK_GRPg_CFG.LOG_EN i)
  else if f = R.DSP_LEGm.VALUE then
    some (match s.hoist.legs.toList.getD i none with
      | none => 0
      | some (hi, lo, tc, tw) => 1 + 2 * hi + 2 ^ 7 * lo + 2 ^ 13 * tc + 2 ^ 19 * tw)
  else if f = R.DSP_LINKnn.VALUE then
    (linkIdx i).map fun n =>
      let c := (s.link n).cfg
      b2n c.en + 2 * c.group + 16 * b2n c.low + 32 * b2n c.lossAct
  else none

/-- A field as it reads now: the fields that show lane time, timers, queues or another block's state are computed, every
other field reads its content. -/
def State.view (s : State) (l : Lane) (d : Die) (f : Fld) (i : Nat) (j : Nat) : Nat :=
  let x : Option Nat :=
    if d = .ds then s.viewDs f i
    else if d = laneDie l then
      if 0x40020000 ≤ f.addr ∧ f.addr < 0x40030000 then s.viewTal l f i
      else if 0x40030000 ≤ f.addr ∧ f.addr < 0x40040000 then s.viewAdc l f i
      else if 0x40060000 ≤ f.addr ∧ f.addr < 0x40070000 then s.viewCe l f i
      else if 0x40070000 ≤ f.addr ∧ f.addr < 0x40080000 then s.viewPwm l f i
      else if 0x400A0000 ≤ f.addr ∧ f.addr < 0x400B0000 then s.viewNrg l f i
      else if 0x40130000 ≤ f.addr ∧ f.addr < 0x40140000 then s.viewAsy l f i
      else if 0x40170000 ≤ f.addr then s.viewTim l f i
      else s.viewMisc l f i
    else if f = R.VRC_CORE_STATUS.SETPOINT then some (s.vddSet l)
    else if f = R.VRC_CORE_STATUS.SLEWING then some (b2n (s.slewing l))
    else none
  x.getD (s.rd d f i j)

/-- The word of a register as a read returns it (R4): RW, RO, W1C, RC and RWS fields show, WO and WT fields read zero. -/
def State.regWord (s : State) (l : Lane) (d : Die) (a : Nat) : Nat :=
  ((fieldsAt d.bank a).map fun x =>
    match x.1.acc with
    | .wo => 0
    | .wt => 0
    | _ => s.view l d x.1 x.2.1 x.2.2 * 2 ^ x.1.lo).sum

/-- The RC fields of a register cleared by a read (R4). -/
def State.clearRc (s : State) (d : Die) (a : Nat) : State :=
  s.each (fieldsAt d.bank a) fun s x => if x.1.acc = .rc then s.wr d x.1 0 x.2.1 x.2.2 else s

/-- The 64-bit counts read as pairs (R10): the low word's address, the stride and number of its instances. The high word
stands 4 bytes above. -/
def pairs64 : List (Nat × Nat × Nat) :=
  [(0x40060928, 0x40, 24), (0x40170000, 0, 1), (0x4017000C, 0, 1), (0x40170018, 0, 1), (0x40170024, 0, 1), (0x40150014, 0, 1),
   (0x401500BC, 0, 1), (0x401500A0, 0, 1), (0x40140118, 0x40, 8), (0x40130010, 0, 1), (0x40130018, 0, 1), (0x40130100, 8, 16)]

/-- The address is the low word of a 64-bit count. -/
def isLow64 (a : Nat) : Bool := pairs64.any fun p => (List.range p.2.2).any fun i => a == p.1 + p.2.1 * i

/-- The fields that show what the dies measure of themselves and of their supplies, and that no command of the table brings
in: a read of one returns a free value (log entry 26). -/
def measuredFlds : List Fld :=
  [R.PAP_HBn_MEAS.VGH, R.PAP_HBn_MEAS.VGL, R.PAP_SUPs_MEAS.MV, R.PAP_VDDIOv_MEAS.MV, R.PAP_VDDIOv_MEAS.LEVEL, R.PAP_OSC.OK,
   R.PAP_OSC.DEV, R.LVP_ACT_STATUS.ILIMIT, R.DSP_OSC.DEV]

/-- The bits of a register that a read fills with free values. -/
def measuredMask (b : Bank) (a : Nat) : Nat :=
  ((fieldsAt b a).map fun x => if measuredFlds.contains x.1 then (2 ^ x.1.w - 1) * 2 ^ x.1.lo else 0).sum

/-- A register word read by an initiator (R4, R10): the value, and the state with RC fields cleared, the high word
latched by a read of a low word, and a latch used up by a read of the high word. -/
def State.readReg (s : State) (l : Lane) (d : Die) (a : Nat) : Nat × State :=
  let w := s.regWord l d a
  if a = R.SEC_TRNG.DATA.addr ∧ d = laneDie l then
    if s.on d R.SEC_TRNG_STATUS.READY && !(s.run l).sec.entropyBad then s.free 32 else (0, s)
  else if measuredMask d.bank a ≠ 0 then
    ((w &&& (2 ^ 32 - 1 - measuredMask d.bank a)) + ((s.free 32).1 &&& measuredMask d.bank a), (s.free 32).2)
  else if isLow64 a then
    (w, s.modRun l fun r => { r with latched := sput 0 (a + 4) (s.regWord l d (a + 4) + 1) r.latched })
  else
    let k := sget 0 a (s.run l).latched
    if k ≠ 0 then (k - 1, s.modRun l fun r => { r with latched := sput 0 a 0 r.latched })
    else (w, s.clearRc d a)

/-- The block behind a register address answers (R7, R43): the Deputy window while the Deputy is present, the `PAP`
window while that die is powered. -/
def State.answers (s : State) (l : Lane) (d : Die) : Bool :=
  match d with
  | .ds => s.depOn
  | .pa => (s.pap l).powered
  | .pb => (s.pap l).powered
  | _ => true

/-- An initiator may reach a tightly coupled memory: its own pair and the debug port (R42). -/
def tcmOwner (ap : Bool) : Initiator → Bool
  | .ap => ap
  | .cp => !ap
  | .debug => true
  | _ => false

/-- The number of bytes of an access width; 0 for a width no memory takes. -/
def accessBytes (width : Nat) : Nat :=
  if width = 8 then 1 else if width = 16 then 2 else if width = 32 then 4 else 0

/-- A memory write of 8, 16 or 32 aligned bits. -/
def State.writeMem (s : State) (l : Lane) (who : Initiator) (width a v : Nat) : State :=
  let n := accessBytes width
  if n = 0 ∨ a % n ≠ 0 then s.accessError l who a true .width else s.setBytes l a (leBytes v n)

/-- The effect of a write access on lane `l` (R4, R7–R9, R41–R43). -/
def State.writeAccess (s : State) (l : Lane) (who : Initiator) (width a v : Nat) : State :=
  match s.target l a with
  | .nothing => s.accessError l who a true .unmapped
  | .rom => s.accessError l who a true .owner
  | .cfgRam => s.accessError l who a true .owner
  | .trace => s.accessError l who a true .owner
  | .apTcm => if tcmOwner true who then s.writeMem l who width a v else s.accessError l who a true .owner
  | .cpTcm => if tcmOwner false who then s.writeMem l who width a v else s.accessError l who a true .owner
  | .sram => s.writeMem l who width a v
  | .table_ k => if width ≠ 32 ∨ a % 4 ≠ 0 then s.accessError l who a true .width else s.setTable l k v
  | .reg d =>
    if width ≠ 32 ∨ a % 4 ≠ 0 then s.accessError l who a true .width
    else if !s.clocked l then s.accessError l who a true .clockOff
    else if !s.answers l d then s.accessError l who a true .powerOff
    else s.writeReg l who d a v

/-- A word returned by a read. -/
def State.ret (s : State) (l : Lane) (v : Nat) : State := s.modRun l fun r => { r with readData := v }

/-- An error response to a read: it returns zero (R7, R41). -/
def State.readError (s : State) (l : Lane) (who : Initiator) (a : Nat) (r : Reason) : State :=
  (s.accessError l who a false r).ret l 0

/-- A memory read of 8, 16 or 32 aligned bits. -/
def State.readMem (s : State) (l : Lane) (who : Initiator) (width a : Nat) : State :=
  let n := accessBytes width
  if n = 0 ∨ a % n ≠ 0 then s.readError l who a .width else s.ret l (s.word l a n)

/-- A read of the configuration RAM: the container as `ST08` and `ST09` have loaded it (R70); before, a free value (log entry
3). -/
def State.readConfig (s : State) (l : Lane) (who : Initiator) (width a : Nat) : State :=
  let n := accessBytes width
  if n = 0 ∨ a % n ≠ 0 then s.readError l who a .width
  else
    match s.configWord l (a % 65536) n with
    | some v => s.ret l v
    | none => (s.free width).2.ret l (s.free width).1

/-- The effect of a read access on lane `l`. What the boot ROM returns is a free value: the spec does not give its contents
(log entry 3). -/
def State.readAccess (s : State) (l : Lane) (who : Initiator) (width a : Nat) : State :=
  match s.target l a with
  | .nothing => s.readError l who a .unmapped
  | .rom => (s.free width).2.ret l (s.free width).1
  | .cfgRam => s.readConfig l who width a
  | .trace => if width ≠ 32 ∨ a % 4 ≠ 0 then s.readError l who a .width else s.ret l (s.tableWord l (tableKey a))
  | .apTcm => if tcmOwner true who then s.readMem l who width a else s.readError l who a .owner
  | .cpTcm => if tcmOwner false who then s.readMem l who width a else s.readError l who a .owner
  | .sram => s.readMem l who width a
  | .table_ k => if width ≠ 32 ∨ a % 4 ≠ 0 then s.readError l who a .width else s.ret l (s.tableWord l k)
  | .reg d =>
    if width ≠ 32 ∨ a % 4 ≠ 0 then s.readError l who a .width
    else if !s.clocked l then s.readError l who a .clockOff
    else if !s.answers l d then s.readError l who a .powerOff
    else if (fieldsAt d.bank a).isEmpty || talHole a || ethHole a then s.readError l who a .unmapped
    else if a = R.TAL_OUT_W0.ID.addr then s.talPop l
    else if a = R.ADC_Q11_DATA.ENTRY.addr ∨ a = R.ADC_Q12_DATA.ENTRY.addr then
      s.adcPop l (a == R.ADC_Q12_DATA.ENTRY.addr)
    else (s.readReg l d a).2.ret l (s.readReg l d a).1

/-- `REGISTER_WRITE` (R4, R7–R9, R41–R43). -/
def execRegisterWrite (l : Lane) (who : Initiator) (width addr value : Nat) (s : State) : Out :=
  .next (if s.canAccess l who then s.writeAccess l who width addr value else s)

/-- `READ_LOW_WORD_LATCH` (R4, R10): a read access; a read of the low word of a 64-bit count latches its high word. -/
def execReadLowWordLatch (l : Lane) (who : Initiator) (width addr : Nat) (s : State) : Out :=
  .next (if s.canAccess l who then s.readAccess l who width addr else s)

end Sys2Proof.Machine
end

