-- ==== Sys2Proof/Machine/Link.lean ====
section
/-!
DEFINITION. The commands of the lane link, the state copy, the snapshots and the planned hand-over (R304 to R319).
-/
namespace Sys2Proof.Machine

/-- `LINK_FRAME_STATE` (R306, R307). -/
def execLinkFrameState (l : Lane) (flips : List (BitVec 8)) (s : State) : Out :=
  .next (s.frame l flips 5 0x09 0 (s.statePayload l.other) true id fun s => s.stateGot l)

/-- `LINK_FRAME_IDLE` (R306): it keeps the link alive. -/
def execLinkFrameIdle (l : Lane) (flips : List (BitVec 8)) (s : State) : Out :=
  .next (s.frame l flips 8 0x01 0 [] true id id)

/-- `LINK_FRAME_IN` (R321): the partner's inputs of the same chassis cycle. -/
def execLinkFrameIn (l : Lane) (flips : List (BitVec 8)) (s : State) : Out :=
  let d := laneDie l
  .next (match (s.run l.other).link.inOut with
    | none => s
    | some (n, vs) => s.frame l flips 3 0x04 0 (leBytes n 4 ++ vs.flatMap fun v => leBytes v 4) true
      (fun s => s.modLnk l.other fun k => { k with inOut := none }) fun s =>
        if s.rd d R.LNK_CHS_CYCLE.N = n ∧ (s.run l).chs.open_ then
          let s1 := s.each (vs.take 4).zipIdx fun s x =>
            ((s.wr d R.LNK_CHS_PINk.VALUE (x.1 % 2 ^ 24) x.2).wr d R.LNK_CHS_PINk.PLAUSIBLE (x.1 / 2 ^ 24) x.2).set d
              R.LNK_CHS_PINk.FRESH x.2
          s1.modRun l fun r => { r with chs := { r.chs with partnerIn := true } }
        else s)

/-- `LINK_FRAME_CMP` (R321): the partner's sealed words of the same chassis cycle. -/
def execLinkFrameCmp (l : Lane) (flips : List (BitVec 8)) (s : State) : Out :=
  let d := laneDie l
  .next (match (s.run l.other).link.cmpOut with
    | none => s
    | some (n, ws) => s.frame l flips 2 0x05 0 (leBytes n 4 ++ ws.flatMap fun w => leBytes w 4) true
      (fun s => s.modLnk l.other fun k => { k with cmpOut := none }) fun s =>
        if s.rd d R.LNK_CHS_CYCLE.N = n ∧ (s.run l).chs.open_ then
          (s.each (ws.take 8).zipIdx fun s x => s.wr d R.LNK_CHS_PCMDw.CMD x.1 x.2).modRun l fun r =>
            { r with chs := { r.chs with partnerCmp := some ws } }
        else s)

/-- A fragment taken by the receiving side (R311). -/
def RxCopy.take (r : Option RxCopy) (i : Nat) (bs : List Nat) : RxCopy :=
  if i = 0 then { frags := 1, bytes := bs, broken := false }
  else match r with
    | none => { frags := i + 1, bytes := [], broken := true }
    | some x => if x.frags = i then { x with frags := i + 1, bytes := x.bytes ++ bs } else { x with frags := i + 1, broken := true }

/-- `LINK_FRAME_COPY` (R310, R311): a lane takes copies while it is `WARM` or `HOT`. -/
def execLinkFrameCopy (l : Lane) (flips : List (BitVec 8)) (s : State) : Out :=
  let x := (s.run l.other).link
  .next (match x.copyOut with
    | none => s
    | some c => s.frame l flips 7 0x06 x.copyFrag (c.fragment x.copyFrag)
        (decide (x.copyFrag < c.frags) && s.on (laneDie l.other) R.LNK_STATUS.LINK_UP)
        (fun s => s.modLnk l.other fun k => { k with copyFrag := k.copyFrag + 1 }) fun s =>
          if s.role l == roleWarm || s.role l == roleHot then
            s.modLnk l fun k => { k with rx := some (RxCopy.take k.rx x.copyFrag (c.fragment x.copyFrag)) }
          else s)

/-- A lane's report of a signature to the Deputy (R312, R335). -/
def State.reportSig (s : State) (l : Lane) (cycle sig : Nat) (match_ : Bool) : State :=
  if s.depOn then
    (((s.wr .ds R.DSP_Lx_SIG.SIG sig l.idx).put .ds R.DSP_Lx_COPY.MATCH match_ l.idx).wr .ds R.DSP_Lx_COPY.CYCLE cycle
      l.idx).modDepLane l fun k => { k with sigs := some (cycle, sig) }
  else s

/-- `LINK_FRAME_COPY_END` (R310 to R312): the sender reports its signature; the receiver compares, reports a complete copy
and owes the `ACK`. -/
def execLinkFrameCopyEnd (l : Lane) (flips : List (BitVec 8)) (wrong : BitVec 32) (s : State) : Out :=
  let x := (s.run l.other).link
  let d := laneDie l
  .next (match x.copyOut with
    | none => s
    | some c =>
      let sa := c.sig
      let named := sa ^^^ wrong.toNat
      s.frame l flips 6 0x07 0 (leBytes c.hw.cycle 4 ++ leBytes c.bytes.length 4 ++ leBytes named 4 ++ leBytes 0 4)
        (decide (c.frags ≤ x.copyFrag) && !x.copyEnd && s.on (laneDie l.other) R.LNK_STATUS.LINK_UP)
        (fun s => (((s.modLnk l.other fun k => { k with copyEnd := true, endAt := s.now }).set
          (laneDie l.other) R.LNK_COPY_STATUS.SENT).wr
          (laneDie l.other) R.LNK_COPY_SIG.SIG sa).reportSig l.other c.hw.cycle sa true) fun s =>
          if s.role l == roleWarm || s.role l == roleHot then
            let k := c.hw.cycle
            let s0 := s.modLnk l fun y => { y with rx := none }
            match (s.run l).link.rx with
            | some r =>
              if !r.broken && r.frags == c.frags then
                let ss := crc32c r.bytes
                let ok := decide (ss = named)
                let s1 := ((s0.wr d R.LNK_COPY_SIG.SIG ss).wr d R.LNK_COPY_STATUS.CYCLE k).reportSig l k ss ok
                s1.modLnk l fun y =>
                  { y with ackOut := some (k, if ok then 0 else 1)
                           acked := if ok then some { c with window := r.bytes.drop 1024 } else y.acked }
              else s0.modLnk l fun y => { y with ackOut := some (k, 2) }
            | none => s0.modLnk l fun y => { y with ackOut := some (k, 2) }
          else s)

/-- `LINK_FRAME_ACK` (R310): a result of 0 ends the copy `DONE`; another one sends it once more. -/
def execLinkFrameAck (l : Lane) (flips : List (BitVec 8)) (s : State) : Out :=
  .next (match (s.run l.other).link.ackOut with
    | none => s
    | some (k, res) => s.frame l flips 4 0x08 0 (leBytes k 4 ++ [res, 0, 0, 0]) true
      (fun s => s.modLnk l.other fun y => { y with ackOut := none }) fun s =>
        match (s.run l).link.copyOut, s.copyEntry l with
        | some c, some e =>
          if c.hw.cycle ≠ k then s
          else if res = 0 then
            ((s.set (laneDie l) R.LNK_COPY_STATUS.ACKED).modLnk l fun y => { y with copyOut := none }).post l e .done
          else s.copyResend l
        | _, _ => s)

/-- `COPY_ACK_TIMEOUT` (R310): 5 us after `COPY_END`. -/
def execCopyAckTimeout (l : Lane) (s : State) : Out :=
  .next (if (s.run l).link.copyOut.isSome && (s.run l).link.copyEnd then
    (s.advTo ((s.run l).link.endAt + 5 * us)).copyResend l
  else s)

/-- `LANE_LINK_LOST` (R307): not a fault class; the copy stops and what was in transit is discarded. -/
def execLaneLinkLost (l : Lane) (s : State) : Out :=
  let d := laneDie l
  .next (if s.alive l && s.on d R.LNK_STATUS.LINK_UP then
    let s1 := s.advTo ((s.run l).link.lastRx + 5 * us)
    let s2 := ((s1.clr d R.LNK_STATUS.LINK_UP).set d R.LNK_STATUS.LINK_LOST).inc d R.LNK_ERR_CNT.LINK_LOSS
    let s3 := s2.modLnk l fun k => { k with rx := none, copyOut := none, stateSeen := false }
    (s3.irq l R.LNK_CTRL.LINK_IRQ_EN).log l 307 0
  else s)

/-- `SNAPSHOT_PERIOD` (R313). -/
def execSnapshotPeriod (l : Lane) (s : State) : Out :=
  let d := laneDie l
  .next (if s.running l && s.on d R.LNK_CTRL.SNAP_EN then
    (s.advTo ((s.run l).link.snapAt + clampN 100 1000 (s.rd d R.LNK_SNAP_CFG.PERIOD) * ms)).snapSubmit l
  else s)

/-- `SNAP_NOW` (R313). -/
def execSnapNow (l : Lane) (s : State) : Out := .next (if s.writable l then s.snapSubmit l else s)

/-- `SNAPSHOT_SEARCH_END` (R315, R308). -/
def execSnapshotSearchEnd (l : Lane) (flips : List (BitVec 8)) (s : State) : Out :=
  let d := laneDie l
  .next (if s.alive l && s.role l == roleCold then
    let s0 := match s.newestSnap l with
      | some x => s.wr d R.LNK_SNAP_STATUS.POS ((x.slot + 1) % 1024)
      | none => s
    let found := match s.newestSnap l with
      | some x =>
        if x.intact l flips && x.version == s.rd d R.CFG_VERSION.VERSION then (s.snapAge l x).map fun a => (x, a) else none
      | none => none
    match found with
    | none => (s0.set d R.LNK_SNAP_STATUS.NONE).coldNext l
    | some (x, age) =>
      let s1 := ((s0.setBytes l (s.rd d R.LNK_OWN_WIN.ADDR / 4 * 4) x.own).set d R.LNK_SNAP_STATUS.LOADED).wrSat d
        R.LNK_SNAP_STATUS.AGE (age / ms)
      let s2 := match x.shared with
        | some c => if s.partnerGrant l then (s1.applySet l c true).set d R.LNK_SNAP_STATUS.SHARED_USED else s1
        | none => s1
      s2.coldNext l
  else s)

/-- The refusal code of a planned hand-over, the first that holds in the order of R318, but the single-lane arrangement
first, since no partner is ever `HOT` in it (DEDUCED, log entry 20); 0 if none. -/
def State.handCode (s : State) (l : Lane) : Nat :=
  let d := laneDie l
  if s.singleCfg l then 6
  else if s.role l ≠ roleActive then 1
  else if (s.run l).link.partnerRole ≠ roleHot then 2
  else if s.on d R.CFG_MODE_STATUS.BUSY then 3
  else if s.on d R.CFG_MODE.SAFE_STOP then 4
  else if !s.on d R.LNK_COPY_STATUS.VERIFIED then 5
  else 0

/-- `HANDOVER` (R318). -/
def execHandover (l : Lane) (s : State) : Out :=
  let d := laneDie l
  .next (if s.writable l then
    let c := s.handCode l
    if c = 0 then ((s.wr d R.LNK_CMD_RESULT.RESULT 0).set d R.LNK_CMD_RESULT.BUSY).modLnk l fun k => { k with handover := true }
    else s.wr d R.LNK_CMD_RESULT.RESULT c
  else s)

end Sys2Proof.Machine
end

