-- ==== Sys2Proof/Machine/Chassis.lean ====
section
/-!
DEFINITION. The commands of the central chassis function (R320 to R327).
-/
namespace Sys2Proof.Machine

/-- A lane's chassis pipeline changed by `f`. -/
def State.modChs (s : State) (l : Lane) (f : ChassisSt → ChassisSt) : State := s.modRun l fun r => { r with chs := f r.chs }

/-- A run counter of 2 to 10 cycles where 0 acts as 3 (R328). -/
def lossCount (n : Nat) : Nat := if n = 0 then 3 else clampN 2 10 n

/-- The traction cycles of a chassis cycle: 10 at 1 kHz, 5 at 2 kHz (R320). -/
def State.chsCycles (s : State) (l : Lane) : Nat := if s.on (laneDie l) R.LNK_CHS_CFG.RATE then 5 else 10

/-- `CMD_DL` in counts (R328). -/
def State.cmdDl (s : State) (l : Lane) : Nat :=
  let d := laneDie l
  clampN 100 (if s.on d R.LNK_CHS_CFG.RATE then 400 else 900) (s.rd d R.LNK_CHS_TIME.CMD_DL) * us

/-- `CMP_WAIT` in counts (R328). -/
def State.cmpWait (s : State) (l : Lane) : Nat := clampN 5 100 (s.rd (laneDie l) R.LNK_CHS_TIME.CMP_WAIT) * us

/-- The pipeline runs: enabled, past `COLD`, and not in the single-lane arrangement, which does not offer it (R40, R315,
R320). -/
def State.chsRuns (s : State) (l : Lane) : Bool :=
  s.running l && s.on (laneDie l) R.LNK_CTRL.CHS_EN && !s.singleCfg l && s.role l != roleNone && s.role l != roleCold

/-- An input is plausible at the boundary (R322). -/
def State.inputOk (s : State) (l : Lane) (k : Fin 4) : Bool :=
  let d := laneDie l
  let c := s.rd d R.LNK_CHS_INk_CFG.SENT k
  let v := s.rd d R.POS_SENTs_FAST.DATA c
  let lastAt := ((s.run l).pos.sent.toList.map SentSt.lastAt).getD c 0
  let last := (s.run l).chs.last[k]
  s.on d R.POS_SENTs_STATUS.VALID c && decide (s.now ≤ lastAt + orOne (s.rd d R.LNK_CHS_INk_CFG.MAX_AGE k) * us)
    && decide (s.rd d R.LNK_CHS_INk_LO.LO k ≤ v) && decide (v ≤ s.rd d R.LNK_CHS_INk_HI.HI k)
    && (!(s.run l).chs.had[k] || decide ((if v < last then last - v else v - last) ≤ s.rd d R.LNK_CHS_INk_TOL.RATE k))

/-- One input judged at the boundary; an implausible one keeps its last plausible value (R322). -/
def State.takeInput (s : State) (l : Lane) (k : Fin 4) : State :=
  let d := laneDie l
  if !s.on d R.LNK_CHS_INk_CFG.EN k then s.clr d R.LNK_CHS_INk_VAL.PLAUSIBLE k
  else if s.inputOk l k then
    let v := s.rd d R.POS_SENTs_FAST.DATA (s.rd d R.LNK_CHS_INk_CFG.SENT k)
    ((s.wr d R.LNK_CHS_INk_VAL.VALUE v k).set d R.LNK_CHS_INk_VAL.PLAUSIBLE k).modChs l fun c =>
      { c with had := upd c.had k fun _ => true, last := upd c.last k fun _ => v }
  else (s.wr d R.LNK_CHS_INk_VAL.VALUE (s.run l).chs.last[k] k).clr d R.LNK_CHS_INk_VAL.PLAUSIBLE k

/-- The node frames of the cycle that ends (R327): their status, and the run of cycles without one. -/
def State.nodeCycle (s : State) (l : Lane) : State :=
  let d := laneDie l
  let valid := (s.run l).chs.validNow
  let s1 := (s.wr d R.LNK_CHS_RX_STATUS.VALID valid).wr d R.LNK_CHS_RX_STATUS.SEEN
    (s.rd d R.LNK_CHS_RX_STATUS.SEEN ||| valid)
  let any := (List.range 8).any fun j => s.on d R.LNK_CHS_RXj_CFG.EN j
  let s2 := if any && decide (s.rd d R.LNK_CHS_NET.CTRL < 6) then
      if valid = 0 then s1.inc d R.LNK_CHS_STATUS.NET_RUN else s1.wr d R.LNK_CHS_STATUS.NET_RUN 0
    else s1
  s2.modChs l fun c => { c with validNow := 0 }

/-- `CHASSIS_BOUNDARY` (R320 to R322, R327): step 1 of a cycle; the counter of R325 advances in every cycle. -/
def execChassisBoundary (l : Lane) (s : State) : Out :=
  let d := laneDie l
  .next (if s.chsRuns l then
    let per := s.chsCycles l * 10000
    let n := nextMultiple (s.masterTime l) per (s.rd d R.LNK_CHS_CYCLE.N)
    let t := s.instantOfMaster l (n * per)
    let s1 := ((s.advTo t).event l .chassis).when (s.on d R.LNK_CHS_STATUS.RUN) fun s => s.nodeCycle l
    let s2 := ((s1.set d R.LNK_CHS_STATUS.RUN).wr d R.LNK_CHS_CYCLE.N n).each (List.finRange 4) fun s k => s.takeInput l k
    let s3 := s2.each (List.range 4) fun s k => s.clr d R.LNK_CHS_PINk.FRESH k
    let bad := (List.range 4).any fun k => s3.on d R.LNK_CHS_INk_CFG.EN k && s3.on d R.LNK_CHS_INk_CFG.REQUIRED k
      && !s3.on d R.LNK_CHS_INk_VAL.PLAUSIBLE k
    let s4 := if bad then s3.inc d R.LNK_CHS_STATUS.SENS_RUN else s3.wr d R.LNK_CHS_STATUS.SENS_RUN 0
    let vals := (List.range 4).map fun k => s4.rd d R.LNK_CHS_INk_VAL.VALUE k
      + s4.rd d R.LNK_CHS_INk_VAL.PLAUSIBLE k * 2 ^ 24
    (s4.modChs l fun c =>
      { c with open_ := true, at_ := s4.now, isSealed := none, partnerCmp := none, partnerIn := false, done := false,
               counter := (c.counter + 1) % 256 }).modLnk l fun k =>
        { k with inOut := some (s4.rd d R.LNK_CHS_CYCLE.N, vals), cmpOut := none }
  else s.clr d R.LNK_CHS_STATUS.RUN)

/-- The words in use, W (R325). -/
def State.chsWords (s : State) (l : Lane) : Nat := s.rd (laneDie l) R.LNK_CHS_CFG.WORDS + 1

/-- `CHASSIS_SEAL` (R321, R324): a seal at or before b + `CMD_DL` counts; a later one is discarded. -/
def execChassisSeal (l : Lane) (s : State) : Out :=
  let d := laneDie l
  let c := (s.run l).chs
  .next (if s.writable l && c.open_ && !c.done && c.isSealed.isNone && decide (s.now ≤ c.at_ + s.cmdDl l) then
    let ws := (List.range (s.chsWords l)).map fun w => s.rd d R.LNK_CHS_CMDw.CMD w
    ((s.modChs l fun c => { c with isSealed := some ws }).modLnk l fun k =>
      { k with cmpOut := some (s.rd d R.LNK_CHS_CYCLE.N, ws) }).wr d R.LNK_CHS_STATUS.MISS_RUN 0
  else s)

/-- `CHASSIS_CMD_DEADLINE` (R324): without a seal the lane sends no `CMP` and no frame in this cycle. -/
def execChassisCmdDeadline (l : Lane) (s : State) : Out :=
  let d := laneDie l
  let c := (s.run l).chs
  .next (if c.open_ && !c.done && c.isSealed.isNone then
    let s1 := (s.advTo (c.at_ + s.cmdDl l)).modChs l fun c => { c with done := true }
    let s2 := ((s1.inc d R.LNK_CHS_CNT.MISS).inc d R.LNK_CHS_STATUS.MISS_RUN).set d R.LNK_CHS_STATUS.MISS_EVT
    (s2.irq l R.LNK_CTRL.CHS_IRQ_EN).logIf l R.LNK_CTRL.LOG_EN 324 0
  else s)

/-- A cycle disagrees (R323): an input that both lanes find plausible, or a command word. -/
def State.chsDiffers (s : State) (l : Lane) (own par : List Nat) : Bool :=
  let d := laneDie l
  let diff := fun (x y : Int) => if x < y then y - x else x - y
  ((List.range 4).any fun k =>
    s.on d R.LNK_CHS_INk_VAL.PLAUSIBLE k && s.on d R.LNK_CHS_PINk.PLAUSIBLE k
      && decide ((s.rd d R.LNK_CHS_INk_TOL.XTOL k : Int)
        < diff (s.rd d R.LNK_CHS_INk_VAL.VALUE k) (s.rd d R.LNK_CHS_PINk.VALUE k)))
  || (List.range (s.chsWords l)).any fun w =>
    decide ((s.rd d R.LNK_CHS_TOLw.TOL w : Int) < diff (sx 32 (own.getD w 0)) (sx 32 (par.getD w 0)))

/-- The frames of a lane are passive (R325, R31). -/
def State.chsPassive (s : State) (l : Lane) : Bool :=
  let own := (classesOf l).any fun c => bit (s.run l).sup.lost c.code || (s.depOn && s.isLost c)
  own || (s.run l).phase == .portFault || (s.run l).sup.laneStop

/-- The chassis frame (R325). -/
def chassisBytes (dataId counter flags : Nat) (words : List Nat) : List Nat :=
  let body := leBytes dataId 2 ++ [counter, flags] ++ words.flatMap fun w => leBytes w 4
  body ++ leBytes (crc32c body) 4

/-- `CHASSIS_COMPARE` (R321, R323, R325): step 6, once the partner's `CMP` has arrived or the wait has ended. -/
def execChassisCompare (l : Lane) (s : State) : Out :=
  let d := laneDie l
  let c := (s.run l).chs
  .next (match c.isSealed with
    | none => s
    | some own =>
      if !c.open_ || c.done then s
      else
        let alone := !c.partnerIn || c.partnerCmp.isNone
        let s0 := if alone then s.advTo (c.at_ + s.cmdDl l + s.cmpWait l) else s
        let differs := !alone && s.chsDiffers l own (c.partnerCmp.getD [])
        let agree := !alone && !differs
        let s1 := (s0.put d R.LNK_CHS_STATUS.AGREE agree).put d R.LNK_CHS_STATUS.ALONE alone
        let s2 := if alone then s1.inc d R.LNK_CHS_CNT.ALONE
          else if differs then
            ((((s1.inc d R.LNK_CHS_STATUS.DIS_RUN).inc d R.LNK_CHS_CNT.DISAGREE).set d
              R.LNK_CHS_STATUS.DISAGREE_EVT).irq l R.LNK_CTRL.CHS_IRQ_EN).logIf l R.LNK_CTRL.LOG_EN 323 0
          else s1.wr d R.LNK_CHS_STATUS.DIS_RUN 0
        let passive := s2.chsPassive l
        let words := if passive then own.map fun _ => 0 else own
        let flags := b2n (l == .b) + 2 * b2n agree + 4 * b2n alone + 8 * b2n passive
          + 16 * b2n (s2.on d R.CFG_MODE.DEGRADED)
        let frame := chassisBytes (s2.rd d R.LNK_CHS_CFG.DATA_ID) c.counter flags words
        let s3 := (s2.put d R.LNK_CHS_STATUS.PASSIVE passive).modChs l fun c => { c with done := true }
        let b := s3.laneTime l - (s3.now - c.at_)
        s3.chassisSend l (b + s3.rd d R.LNK_CHS_TIME.TX_DL * us) frame)

/-- The layout of R325 holds for a node frame: its length gives W from 1 to 8, and its CRC and `DATA_ID` fit. -/
def nodeFrameOk (dataId : Nat) (bs : List Nat) : Bool :=
  let w := (bs.length - 8) / 4
  bs.length == 8 + 4 * w && decide (1 ≤ w) && decide (w ≤ 8) && leNat (bs.take 2) == dataId
    && crc32c (bs.take (4 + 4 * w)) == leNat (bs.drop (4 + 4 * w))

/-- A node frame as it comes from its network: an Ethernet frame may carry padding after it (R325, R424; DEDUCED, log entry
50). -/
def nodeOk (eth : Bool) (dataId : Nat) (bs : List Nat) : Bool :=
  if eth then (List.range 9).any fun w => decide (8 + 4 * w ≤ bs.length) && nodeFrameOk dataId (bs.take (8 + 4 * w))
  else nodeFrameOk dataId bs

/-- `CHASSIS_NODE_FRAME` (R327): the node frames whose receive template selected it. -/
def execChassisNodeFrame (l : Lane) (s : State) : Out :=
  let d := laneDie l
  .next (match (s.run l).chs.handed with
    | [] => s
    | (t, bytes) :: r =>
      let s1 := s.modChs l fun x => { x with handed := r }
      if s1.running l then
        s1.each (List.range 8) fun s j =>
          s.when (s.on d R.LNK_CHS_RXj_CFG.EN j && s.rd d R.LNK_CHS_RXj_CFG.TEMPLATE j == t
            && nodeOk (4 ≤ s.rd d R.LNK_CHS_NET.CTRL) (s.rd d R.LNK_CHS_RXj_CFG.DATA_ID j) bytes) fun s =>
              s.modChs l fun x => { x with validNow := setBit x.validNow j }
      else s1)

/-- A class declared by its own lane sets `DECLARED` (R337). A class that is lost is not declared again. -/
def State.chsDeclare (s : State) (l : Lane) (c : FaultClass) : State :=
  if bit (s.run l).sup.lost c.code then s else s.laneDeclare l c

/-- `NETWORK_LOSS_COUNT` (R27, R324, R327). -/
def execNetworkLossCount (l : Lane) (s : State) : Out :=
  let d := laneDie l
  let n := lossCount (s.rd d R.LNK_CHS_CFG.NET_CNT)
  .next (if s.running l && (decide (n ≤ s.rd d R.LNK_CHS_STATUS.NET_RUN) || decide (n ≤ s.rd d R.LNK_CHS_STATUS.MISS_RUN)) then
    s.chsDeclare l (netOf l) else s)

/-- `SENSOR_LOSS_COUNT` (R27, R322). -/
def execSensorLossCount (l : Lane) (s : State) : Out :=
  let d := laneDie l
  .next (if s.running l && decide (lossCount (s.rd d R.LNK_CHS_CFG.SENS_CNT) ≤ s.rd d R.LNK_CHS_STATUS.SENS_RUN) then
    s.chsDeclare l (sensOf l) else s)

/-- `DISAGREE_COUNT` (R323). -/
def execDisagreeCount (l : Lane) (s : State) : Out :=
  let d := laneDie l
  .next (if s.running l && decide (orOne (s.rd d R.LNK_CHS_CFG.DIS_CNT) ≤ s.rd d R.LNK_CHS_STATUS.DIS_RUN) then
    s.chsDeclare l (sensOf l) else s)

end Sys2Proof.Machine
end

