-- ==== Sys2Proof/Machine/Cvu.lean ====
section
/-!
DEFINITION. The commands of the check-value units (R363 to R367).
-/
namespace Sys2Proof.Machine

/-- One of the fixed codes of R363: its width, its polynomial (reversed where it is reflected), its initial value, whether
it is reflected, its final XOR. -/
structure CrcCode where
  width : Nat
  poly : Nat
  init : Nat
  reflected : Bool
  xorOut : Nat
deriving DecidableEq, Repr

/-- The codes of R363; 5 to 7 act as 0. -/
def crcCode : Nat → CrcCode
  | 1 => { width := 32, poly := 0xEDB88320, init := 0xFFFFFFFF, reflected := true, xorOut := 0xFFFFFFFF }
  | 2 => { width := 16, poly := 0x1021, init := 0xFFFF, reflected := false, xorOut := 0 }
  | 3 => { width := 8, poly := 0x2F, init := 0xFF, reflected := false, xorOut := 0xFF }
  | 4 => { width := 8, poly := 0x1D, init := 0xFF, reflected := false, xorOut := 0xFF }
  | _ => { width := 32, poly := 0x82F63B78, init := 0xFFFFFFFF, reflected := true, xorOut := 0xFFFFFFFF }

/-- One bit of a code. -/
def CrcCode.bit (c : CrcCode) (v : Nat) : Nat :=
  if c.reflected then (if v % 2 = 1 then (v / 2) ^^^ c.poly else v / 2)
  else if v / 2 ^ (c.width - 1) % 2 = 1 then (v * 2 % 2 ^ c.width) ^^^ c.poly else v * 2 % 2 ^ c.width

/-- One byte of a code. -/
def CrcCode.byte (c : CrcCode) (v b : Nat) : Nat :=
  let x := v ^^^ (if c.reflected then b % 256 else (b % 256) * 2 ^ (c.width - 8))
  c.bit (c.bit (c.bit (c.bit (c.bit (c.bit (c.bit (c.bit x)))))))

/-- The value of a code over a list of bytes, final XOR applied. -/
def CrcCode.value (c : CrcCode) (bs : List Nat) : Nat := bs.foldl c.byte c.init ^^^ c.xorOut

/-- A unit. -/
def State.cvuSt (s : State) (l : Lane) (n : Fin 4) : CvuSt := (s.run l).cvu[n]

/-- A unit changed by `f`. -/
def State.modCvu (s : State) (l : Lane) (n : Fin 4) (f : CvuSt → CvuSt) : State :=
  s.modRun l fun r => { r with cvu := upd r.cvu n f }

/-- The value over the bytes so far (R364). -/
def State.cvuValue (s : State) (l : Lane) (n : Fin 4) : Nat :=
  (crcCode (s.rd (laneDie l) R.CVU_Un_CFG.POLY n)).value (s.cvuSt l n).bytes.reverse

/-- The lane address of a unit's register at an offset (R369). -/
def cvuAddr (n : Fin 4) (o : Nat) : Nat := 0x400D8100 + 0x40 * n.val + o

/-- A write by an initiator that does not own the open block is discarded with the error response (R367). -/
def State.cvuForeign (s : State) (l : Lane) (who : Initiator) (n : Fin 4) : Bool :=
  s.on (laneDie l) R.CVU_Un_STATUS.BUSY n && s.rd (laneDie l) R.CVU_Un_STATUS.OWNER n != who.code

/-- Bytes fed to a unit (R364, R367). -/
def State.cvuFeed (s : State) (l : Lane) (who : Initiator) (n : Fin 4) (o : Nat) (bs : List Nat) (differ : Bool) : State :=
  let d := laneDie l
  if !s.canAccess l who then s
  else if !s.on d R.CVU_Un_STATUS.BUSY n then s.set d R.CVU_Un_STATUS.PROTO_ERR n
  else if s.cvuForeign l who n then s.accessError l who (cvuAddr n o) true .owner
  else
    let s1 := s.modCvu l n fun c => { c with bytes := bs.reverse ++ c.bytes }
    let s2 := (s1.inc d R.CVU_Un_BYTES.COUNT n 0 bs.length).wr d R.CVU_Un_RESULT.VALUE (s1.cvuValue l n) n
    s2.when differ fun s => (s.set d R.CVU_Un_STATUS.UNIT_ERR n).irq l R.CVU_Un_CFG.IRQ_EN n

/-- The block of a unit closed. -/
def State.cvuClose (s : State) (l : Lane) (n : Fin 4) : State :=
  let d := laneDie l
  (s.clr d R.CVU_Un_STATUS.BUSY n).wrBit d R.CVU_STATUS.BUSY n false

/-- `CVU_START` (R364, R367): a block that is open is discarded and counted. -/
def execCvuStart (l : Lane) (who : Initiator) (n : Fin 4) (s : State) : Out :=
  let d := laneDie l
  .next (if s.canAccess l who then
    let s1 := s.when (s.on d R.CVU_Un_STATUS.BUSY n) fun s => s.inc d R.CVU_Un_CNT.ABANDONED n
    let s2 := (((s1.set d R.CVU_Un_STATUS.BUSY n).wrBit d R.CVU_STATUS.BUSY n true).wr d R.CVU_Un_STATUS.OWNER who.code n).wr d
      R.CVU_Un_BYTES.COUNT 0 n
    let s3 := s2.modCvu l n fun c => { c with bytes := [] }
    s3.wr d R.CVU_Un_RESULT.VALUE (s3.cvuValue l n) n
  else s)

/-- `CVU_DATA32` (R364): bits [7:0] first. -/
def execCvuData32 (l : Lane) (who : Initiator) (n : Fin 4) (value : BitVec 32) (differ : Bool) (s : State) : Out :=
  .next (s.cvuFeed l who n 0x08 (leBytes value.toNat 4) differ)

/-- `CVU_DATA16` (R364). -/
def execCvuData16 (l : Lane) (who : Initiator) (n : Fin 4) (value : BitVec 32) (differ : Bool) (s : State) : Out :=
  .next (s.cvuFeed l who n 0x0C (leBytes value.toNat 2) differ)

/-- `CVU_DATA8` (R364). -/
def execCvuData8 (l : Lane) (who : Initiator) (n : Fin 4) (value : BitVec 32) (differ : Bool) (s : State) : Out :=
  .next (s.cvuFeed l who n 0x10 (leBytes value.toNat 1) differ)

/-- The width of the alive counter (R369). -/
def aliveWidth (w : Nat) : Nat := if w = 0 then 4 else if w = 1 then 8 else 16

/-- The block's code does not match, or its unit has failed (R364, R365). -/
def State.cvuBad (s : State) (l : Lane) (n : Fin 4) : Bool :=
  let d := laneDie l
  s.on d R.CVU_Un_STATUS.UNIT_ERR n || s.rd d R.CVU_Un_EXPECT.VALUE n != s.cvuValue l n

/-- A mismatch of a block (R365). -/
def State.cvuMismatch (s : State) (l : Lane) (n : Fin 4) : State :=
  let d := laneDie l
  ((s.set d R.CVU_Un_STATUS.MISMATCH n).inc d R.CVU_Un_CNT.MISMATCH n).irq l R.CVU_Un_CFG.IRQ_EN n

/-- The counter of a block accepted (R366). -/
def State.cvuAccept (s : State) (l : Lane) (n : Fin 4) (v : Nat) : State :=
  (s.wr (laneDie l) R.CVU_Un_STATUS.LAST_ALIVE v n).modCvu l n fun c => { c with fresh := false }

/-- An alive error of a block (R366). -/
def State.cvuAlive (s : State) (l : Lane) (n : Fin 4) (f : Fld) : State :=
  let d := laneDie l
  ((s.set d f n).inc d R.CVU_Un_CNT.ALIVE_ERR n).irq l R.CVU_Un_CFG.IRQ_EN n

/-- What check mode decides at `END` (R365, R366). -/
def State.cvuCheck (s : State) (l : Lane) (n : Fin 4) : State :=
  let d := laneDie l
  let bad := s.cvuBad l n
  if !s.on d R.CVU_Un_CFG.ALIVE_EN n then (if bad then s.cvuMismatch l n else s)
  else
    let w := aliveWidth (s.rd d R.CVU_Un_CFG.ALIVE_W n)
    let v := low w (s.rd d R.CVU_Un_ALIVE.COUNTER n)
    let dlt := (v + 2 ^ w - low w (s.rd d R.CVU_Un_STATUS.LAST_ALIVE n)) % 2 ^ w
    if (s.cvuSt l n).fresh then (if bad then s.cvuMismatch l n else s.cvuAccept l n v)
    else if dlt = 0 then s.cvuAlive l n R.CVU_Un_STATUS.REPEAT
    else if orOne (s.rd d R.CVU_Un_CFG.MAX_DELTA n) < dlt then s.cvuAlive l n R.CVU_Un_STATUS.JUMP
    else if bad then s.cvuMismatch l n
    else s.cvuAccept l n v

/-- `CVU_END` (R364 to R367). -/
def execCvuEnd (l : Lane) (who : Initiator) (n : Fin 4) (s : State) : Out :=
  let d := laneDie l
  .next (if !s.canAccess l who then s
    else if !s.on d R.CVU_Un_STATUS.BUSY n then s.set d R.CVU_Un_STATUS.PROTO_ERR n
    else if s.cvuForeign l who n then s.accessError l who (cvuAddr n 0x04) true .owner
    else
      let s1 := (s.wr d R.CVU_Un_RESULT.VALUE (s.cvuValue l n) n).inc d R.CVU_Un_CNT.BLOCKS n
      (if s1.on d R.CVU_Un_CFG.MODE n then s1.cvuCheck l n else s1).cvuClose l n)

/-- `CVU_ABORT` (R367): no comparison and no count. -/
def execCvuAbort (l : Lane) (who : Initiator) (n : Fin 4) (s : State) : Out :=
  .next (if s.canAccess l who && s.on (laneDie l) R.CVU_Un_STATUS.BUSY n then s.cvuClose l n else s)

/-- `CVU_RESYNC` (R366). -/
def execCvuResync (l : Lane) (who : Initiator) (n : Fin 4) (s : State) : Out :=
  .next (if s.canAccess l who then s.modCvu l n fun c => { c with fresh := true } else s)

end Sys2Proof.Machine
end

