-- ==== Sys2Proof/Machine/Net.lean ====
section
/-!
DEFINITION. The commands of the networks (chapter 18): CAN submissions, attempts, reception and the schedule matrix; the
Ethernet MACs and the 10BASE-T1S port. The 802.1AS station stands with the time commands.
-/
namespace Sys2Proof.Machine

/-! ## CAN: fault confinement (R405, R412) -/

/-- The transmit counter set; `PASSIVE` follows the counters, and a change to error passive interrupts. The steps of the
counters and the limit of 128 are those of ISO 11898-1 as generally known (PRESUMED, log entry 19). -/
def State.canCount (s : State) (l : Lane) (n : Fin 4) (tec rec_ : Nat) : State :=
  let d := laneDie l
  let was := s.on d R.CANn_STATUS.PASSIVE n
  let now := decide (128 ≤ tec) || decide (128 ≤ rec_)
  let s1 := ((s.wrSat d R.CANn_ERR.TEC tec n).wrSat d R.CANn_ERR.REC rec_ n).put d R.CANn_STATUS.PASSIVE now n
  s1.when (now && !was) fun s => s.irq l R.CANn_CTRL.ERR_IRQ_EN n

/-- The controller may start an attempt (R412). -/
def State.canSends (s : State) (l : Lane) (n : Fin 4) : Bool :=
  let d := laneDie l
  (s.canSt l n).onBus && s.on d R.CANn_STATUS.SYNC n && !s.on d R.CANn_STATUS.BUS_OFF n
    && (s.rd d R.CANn_CTRL.OPMODE n == 0 || s.rd d R.CANn_CTRL.OPMODE n == 3)

/-- `CAN_BUS_OFF` (R412, R27): the named chassis controller's bus-off is the loss of the lane's network. -/
def execCanBusOff (l : Lane) (n : Fin 4) (s : State) : Out :=
  let d := laneDie l
  .next (if s.alive l && (s.canSt l n).onBus && !s.on d R.CANn_STATUS.BUS_OFF n && decide (255 < s.rd d R.CANn_ERR.TEC n)
    then
      let s1 := ((s.set d R.CANn_STATUS.BUS_OFF n).set d R.CANn_STATUS.BUS_OFF_EVT n).inc d R.CANn_ERR_CNT.BUS_OFF n
      let s2 := (s1.modCan l n fun c => { c with attempt := none, recovering := false }).irq l R.CANn_CTRL.ERR_IRQ_EN n
      let s3 := s2.logIf l R.CANn_CTRL.LOG_EN 412 n n
      if s.rd d R.LNK_CHS_NET.CTRL = n.val then s3.laneDeclare l (netOf l) else s3
    else s)

/-- `CAN_RECOVER` (R412). -/
def execCanRecover (l : Lane) (n : Fin 4) (s : State) : Out :=
  .next (if s.writable l && s.on (laneDie l) R.CANn_STATUS.BUS_OFF n then s.modCan l n fun c => { c with recovering := true }
    else s)

/-- `CAN_RECOVERY_DONE` (R412): both counters start again from zero (ISO 11898-1, PRESUMED, log entry 19). -/
def execCanRecoveryDone (l : Lane) (n : Fin 4) (s : State) : Out :=
  let d := laneDie l
  .next (if s.on d R.CANn_STATUS.BUS_OFF n && (s.on d R.CANn_CTRL.AUTO_RECOVER n || (s.canSt l n).recovering) then
    ((s.clr d R.CANn_STATUS.BUS_OFF n).modCan l n fun c => { c with recovering := false }).canCount l n 0 0
  else s)

/-! ## CAN: joining the bus (R406) -/

/-- A setting within the limits of R405 and R406: 125 kbit/s to 1 Mbit/s, FD up to 8 Mbit/s, XL up to 20 Mbit/s. -/
def State.canTimingOk (s : State) (l : Lane) (n : Fin 4) : Bool :=
  let d := laneDie l
  let c := s.canBits l n
  let nom := c.1
  let fd := c.2.1
  let xl := c.2.2
  decide (80 ≤ nom) && decide (nom ≤ 640) && decide (1 ≤ s.rd d R.CANn_NBT.SEG1 n)
    && (!s.on d R.CANn_CTRL.FD_EN n || (decide (10 ≤ fd) && decide (1 ≤ s.rd d R.CANn_DBT.SEG1 n)))
    && (!s.on d R.CANn_CTRL.XL_EN n || (decide (4 ≤ xl) && decide (1 ≤ s.rd d R.CANn_XBT.SEG1 n)))

/-- A controller off the bus (R406, R412): its entries end `FAILED_OFF` (R112). -/
def State.canOff (s : State) (l : Lane) (n : Fin 4) : State :=
  let s1 := (s.modCan l n fun c => { c with onBus := false, attempt := none, window := none }).clr (laneDie l)
    R.CANn_STATUS.SYNC n
  s1.each ((s1.tal l).ofQueue n) fun s e => s.postNet l e .failedOff

/-- `CAN_ENABLE` (R406): `EN` is taken from `ST17` on; a write that leaves it as it is changes nothing. -/
def execCanEnable (l : Lane) (n : Fin 4) (s : State) : Out :=
  let d := laneDie l
  .next (if s.past l 16 && !(s.canSt l n).onBus && s.on d R.CANn_CTRL.EN n then
    if s.canTimingOk l n then (s.clr d R.CANn_STATUS.CFG_ERR n).modCan l n fun c => { c with onBus := true }
    else s.set d R.CANn_STATUS.CFG_ERR n
  else if (s.canSt l n).onBus && !s.on d R.CANn_CTRL.EN n then s.canOff l n
  else s)

/-- `CAN_INTEGRATED` (R406). -/
def execCanIntegrated (l : Lane) (n : Fin 4) (s : State) : Out :=
  .next (if (s.canSt l n).onBus && s.alive l then s.set (laneDie l) R.CANn_STATUS.SYNC n else s)

/-! ## CAN: submissions and attempts (R409, R410, R416) -/

/-- `CAN_TX_GO` (R409). -/
def execCanTxGo (l : Lane) (who : Initiator) (n : Fin 4) (s : State) : Out :=
  let d := laneDie l
  .next (if s.canAccess l who then
    let t := s.rd d R.CANn_TX_REQ.TEMPLATE n
    let r := s.canSubmit l who n t (dl40 (s.rd d R.CANn_TX_DL_LO.DL n) (s.rd d R.CANn_TX_DL_HI.DL n)) (.can t)
    ((r.2.2.wr d R.CANn_TX_RESULT.ID r.2.1 n).put d R.CANn_TX_RESULT.ADMITTED (r.1 == 0) n).wr d R.CANn_TX_RESULT.CODE
      r.1 n
  else s)

/-- The entry that the controller starts next: in an open window the oldest one of its template, else the oldest event
entry where it fits before the next window (R410, R416). Entries in `ENDING` start no attempt (R107). -/
def State.canNext (s : State) (l : Lane) (n : Fin 4) : Option TalEntry :=
  let es := ((s.tal l).ofQueue n).filter fun e => e.st != .ending
  let cell := match (s.canSt l n).window with
    | some t => es.find? fun e => s.tmplSched l n e.job.template && e.job.template == t
    | none => none
  match cell with
  | some e => some e
  | none => match es.find? (fun (e : TalEntry) => !s.tmplSched l n e.job.template) with
    | some e => if s.canFits l n e.job.template then some e else none
    | none => none

/-- An attempt begun: at its start-of-frame sample the entry becomes `ACTIVE` (R410). -/
def State.canBegin (s : State) (l : Lane) (n : Fin 4) (e : TalEntry) : State :=
  (s.setEnt l e.id fun x => { x with st := .active }).modCan l n fun c => { c with attempt := some (e.id, s.now) }

/-- `CAN_ATTEMPT_START` (R410, R412, R416). -/
def execCanAttemptStart (l : Lane) (n : Fin 4) (s : State) : Out :=
  .next (if s.domains l && s.canSends l n && (s.canSt l n).attempt.isNone then
    match s.canNext l n with
    | some e => s.canBegin l n e
    | none => s
  else s)

/-- `CAN_ATTEMPT_END` (R107, R410, R412): a good attempt ends the entry `DONE`; an entry in `ENDING` ends with its last
attempt; otherwise the controller will retransmit. -/
def execCanAttemptEnd (l : Lane) (n : Fin 4) (e : CanEnd) (s : State) : Out :=
  let d := laneDie l
  .next (match (s.canSt l n).attempt with
    | none => s
    | some (id, _) =>
      let s1 := s.modCan l n fun c => { c with attempt := none }
      match (s1.tal l).find id with
      | none => s1
      | some x =>
        let tec := s.rd d R.CANn_ERR.TEC n
        let rec_ := s.rd d R.CANn_ERR.REC n
        let fails := fun (s : State) => if x.st = .ending then s.postNet l x .failedNoack else s
        match e with
        | .done => ((s1.inc d R.CANn_CNT.TX n).canCount l n (tec - 1) rec_).postNet l x .done
        | .lost => fails s1
        | .error kind dataPhase =>
          let s2 := (s1.wr d R.CANn_ERR.LAST kind n).put d R.CANn_ERR.DATA_PHASE dataPhase n
          let ack := kind.val == 3
          let s3 := if ack then s2.inc d R.CANn_ERR_CNT.ACK n else s2.inc d R.CANn_ERR_CNT.OTHER n
          fails (if ack && s.on d R.CANn_STATUS.PASSIVE n then s3 else s3.canCount l n (tec + 8) rec_))

/-! ## CAN: reception (R413, R414) -/

/-- A filter matches a frame (R413). -/
def State.filterHits (s : State) (l : Lane) (n : Fin 4) (f : CanFrame) (k : Nat) : Bool :=
  let w0 := s.canWord l n (0x1400 + 16 * k)
  let w1 := s.canWord l n (0x1400 + 16 * k + 4)
  let w2 := s.canWord l n (0x1400 + 16 * k + 8)
  let act := bits w1 31 29
  let fm := bits w0 31 30
  decide (1 ≤ act) && decide (act ≤ 4) && (fm == 0 || fm == f.format.val + 1) && bit w0 29 == f.ide
    && ((bits w0 28 0 ^^^ f.ident.toNat) &&& bits w1 28 0) == 0
    && (f.format.val != 2 || (((bits w2 7 0 ^^^ f.sdt.toNat) &&& bits w2 23 16) == 0
      && ((bits w2 15 8 ^^^ f.vcid.toNat) &&& bits w2 31 24) == 0))

/-- The record of a frame as words (R414); a frame that no filter matched carries filter 0 (DEDUCED, log entry 18). -/
def recordWords (f : CanFrame) (time filter : Nat) : List Nat :=
  [f.ident.toNat + b2n f.ide * 2 ^ 29 + f.format.val * 2 ^ 30,
   f.len % 4096 + b2n f.brs * 2 ^ 12 + b2n f.esi * 2 ^ 13 + b2n f.remote * 2 ^ 14 + f.sdt.toNat * 2 ^ 16
     + f.vcid.toNat * 2 ^ 24,
   f.acc.toNat, time % 2 ^ 32, filter] ++ wordsOf f.data (ceilDiv f.data.length 4)

/-- A record placed whole in the FIFO, from 0x4000 again where it would pass 0x6FFF; without room it is discarded (R414). -/
def State.fifoStore (s : State) (l : Lane) (n : Fin 4) (ws : List Nat) : State :=
  let d := laneDie l
  let c := s.canSt l n
  let size := 4 * ws.length
  let o := if 0x7000 < c.place + size then 0x4000 else c.place
  let room := decide (o + size ≤ 0x7000) && c.fifo.all fun r => decide (o + size ≤ r.1) || decide (r.1 + r.2 ≤ o)
  if room && decide (c.fifo.length < 1023) then
    let s1 := (s.setRam l n o ws).modCan l n fun c => { c with fifo := c.fifo ++ [(o, size)], place := o + size }
    let s2 := s1.wr d R.CANn_RX_STATUS.LEVEL (c.fifo.length + 1) n
    let s3 := if c.fifo.isEmpty then s2.wr d R.CANn_RX_STATUS.READ o n else s2
    (s3.inc d R.CANn_CNT.RX n).irq l R.CANn_CTRL.RX_IRQ_EN n
  else s.set d R.CANn_STATUS.FIFO_OVR n

/-- A record stored in the high-priority buffer; all eight entries full discards it (R414). -/
def State.hpStore (s : State) (l : Lane) (n : Fin 4) (ws : List Nat) : State :=
  let d := laneDie l
  let k := s.rd d R.CANn_HP_STATUS.LEVEL n
  if 8 ≤ k then s.set d R.CANn_STATUS.HP_OVR n
  else
    let i := (s.rd d R.CANn_HP_STATUS.NEXT n + k) % 8
    let s1 := ((s.setRam l n (0x7000 + 512 * i) ws).wr d R.CANn_HP_STATUS.LEVEL (k + 1) n).set d R.CANn_HP_STATUS.HP_NEW n
    (s1.inc d R.CANn_CNT.RX n).irq l R.CANn_CTRL.HP_IRQ_EN n

/-- `CAN_RX_FRAME` (R413, R414): a frame of a format that the controller is not enabled for is a protocol exception
(ISO 11898-1, PRESUMED, log entry 19). The frame of an action-4 filter also goes to the chassis supervision. -/
def execCanRxFrame (l : Lane) (n : Fin 4) (f : CanFrame) (ago : Nat) (s : State) : Out :=
  let d := laneDie l
  .next (if !(s.domains l && (s.canSt l n).onBus && s.on d R.CANn_STATUS.SYNC n && !s.on d R.CANn_STATUS.BUS_OFF n) then s
    else if !s.formatOn l n f.format then s.set d R.CANn_STATUS.PROTO_EXC n
    else
      let s1 := if s.rd d R.CANn_CTRL.OPMODE n = 1 then s
        else s.canCount l n (s.rd d R.CANn_ERR.TEC n) (s.rd d R.CANn_ERR.REC n - 1)
      let hit := (List.range 128).find? fun k => s1.filterHits l n f k
      let ws := fun k => recordWords f (s1.laneTime l - ago) k
      match hit with
      | none => if s1.on d R.CANn_CTRL.NOMATCH n then s1.fifoStore l n (ws 0) else s1
      | some k =>
        let act := bits (s1.canWord l n (0x1400 + 16 * k + 4)) 31 29
        if act = 3 then s1
        else if act = 2 ∧ f.data.length ≤ 492 then s1.hpStore l n (ws k)
        else (s1.fifoStore l n (ws k)).when (act == 4 && s.rd d R.LNK_CHS_NET.CTRL == n.val) fun s => s.handNode l k f.data)

/-- `CAN_RX_POP` (R414). -/
def execCanRxPop (l : Lane) (n : Fin 4) (s : State) : Out :=
  let d := laneDie l
  .next (match (s.canSt l n).fifo with
    | [] => s
    | _ :: r =>
      if s.writable l then
        let s1 := (s.modCan l n fun c => { c with fifo := r }).wr d R.CANn_RX_STATUS.LEVEL r.length n
        match r with
        | [] => s1
        | x :: _ => s1.wr d R.CANn_RX_STATUS.READ x.1 n
      else s)

/-- `CAN_HP_POP` (R414). -/
def execCanHpPop (l : Lane) (n : Fin 4) (s : State) : Out :=
  let d := laneDie l
  .next (if s.writable l && decide (0 < s.rd d R.CANn_HP_STATUS.LEVEL n) then
    (s.wr d R.CANn_HP_STATUS.LEVEL (s.rd d R.CANn_HP_STATUS.LEVEL n - 1) n).wr d R.CANn_HP_STATUS.NEXT
      (s.rd d R.CANn_HP_STATUS.NEXT n + 1) n
  else s)

/-! ## CAN: the schedule matrix (R415, R416) -/

/-- The matrix at a traction-cycle boundary with number `k` (R415): it restarts, or stands in its present base cycle. -/
def State.matrixBoundary (s : State) (l : Lane) (n : Fin 4) (k : Nat) : State :=
  let d := laneDie l
  let bc := s.baseCycle l n / 10000
  if !(s.on d R.CANn_SCHED.EN n && (s.canSt l n).onBus) then
    (s.clr d R.CANn_SCHED_STATUS.RUNNING n).wr d R.CANn_SCHED_STATUS.BASE 0 n
  else
    let s1 := if k % (16 * bc) = 0 then s.set d R.CANn_SCHED_STATUS.RUNNING n else s
    if s1.on d R.CANn_SCHED_STATUS.RUNNING n then s1.wr d R.CANn_SCHED_STATUS.BASE (k / bc) n else s1

/-- `CAN_CELL_START` (R416). -/
def execCanCellStart (l : Lane) (n : Fin 4) (c : Fin 32) (s : State) : Out :=
  let d := laneDie l
  .next (if s.domains l && s.on d R.CANn_SCHED_STATUS.RUNNING n then
    if !s.columnOk l n c then s.set d R.CANn_SCHED_STATUS.SCHED_ERR n
    else
      let bc := s.baseCycle l n
      let p := s.matrixPos l n
      let o := (s.column l n c).1
      let b := (if p % bc ≤ o then p / bc else p / bc + 1) % 16
      let s1 := (s.advTo (s.now + (b * bc + o + 16 * bc - p) % (16 * bc))).wr d R.CANn_SCHED_STATUS.BASE b n
      let e := s1.cell l n b c
      if !e.1 then s1
      else
        let s2 := s1.modCan l n fun x =>
          { x with window := some e.2, closeAt := s1.now + (s.column l n c).2 - o }
        let es := ((s2.tal l).ofQueue n).filter fun x => x.st == .waiting && x.job.template == e.2
        match es with
        | [] => s2.inc d R.CANn_TT_CNT.CELLS_EMPTY n
        | x :: _ =>
          if s2.canSends l n && (s2.canSt l n).attempt.isNone && s2.tmplSched l n e.2 then
            (s2.inc d R.CANn_TT_CNT.CELLS_USED n).canBegin l n x
          else s2
  else s)

/-- `CAN_WINDOW_CLOSE` (R416): an attempt under way completes. -/
def execCanWindowClose (l : Lane) (n : Fin 4) (s : State) : Out :=
  .next (if (s.canSt l n).window.isSome then
    (s.advTo (s.canSt l n).closeAt).modCan l n fun c => { c with window := none }
  else s)

/-! ## Ethernet (R419 to R422) -/

/-- `ETH_TX_GO` (R420, R422). -/
def execEthTxGo (l : Lane) (who : Initiator) (m : Fin 3) (s : State) : Out :=
  let d := laneDie l
  .next (if s.canAccess l who then
    let a := s.rd d R.ETHm_TX_ADDR.ADDR m
    let n := s.rd d R.ETHm_TX_LEN.LEN m
    let tag := if s.on d R.ETHm_TX_LEN.TAG m then 4 else 0
    let ok := decide (14 ≤ n) && decide (n + tag ≤ 1518) && a % 4 == 0 && rangeInSram a n
    let r := if ok then
        s.ethSubmit l who m n (dl40 (s.rd d R.ETHm_TX_DL_LO.DL m) (s.rd d R.ETHm_TX_DL_HI.DL m)) (.eth m a n)
      else (3, 0, s)
    ((r.2.2.wr d R.ETHm_TX_RESULT.ID r.2.1 m).put d R.ETHm_TX_RESULT.ADMITTED (r.1 == 0) m).wr d R.ETHm_TX_RESULT.CODE
      r.1 m
  else s)

/-- The destination address of a frame: its first six bytes, the first one most significant. -/
def ethDest (f : EthFrame) : Nat := (f.bytes.take 6).foldl (fun a b => a * 256 + b % 256) 0

/-- The EtherType of a frame. -/
def ethType (f : EthFrame) : Nat := ((f.bytes.drop 12).take 2).foldl (fun a b => a * 256 + b % 256) 0

/-- The address of the 802.1AS messages (R421). -/
def asAddress : Nat := 0x0180C200000E

/-- The MAC accepts a frame by its address and its tag (R421, R422). -/
def State.ethAccepts (s : State) (l : Lane) (m : Fin 3) (f : EthFrame) : Bool :=
  let d := laneDie l
  let own := s.rd d R.ETHm_MAC_LO.ADDR m + s.rd d R.ETHm_MAC_HI.ADDR m * 2 ^ 32
  let addr := s.on d R.ETHm_CFG.PROMISC m || ethDest f == own || ethDest f == 0xFFFFFFFFFFFF || ethDest f == asAddress
    || (s.on d R.ETHm_CFG.MCAST_ALL m && bit (ethDest f) 40)
  let vid := match f.tag with
    | some (_, v) => if v = 0 then s.on d R.ETHm_CFG.ACCEPT_UNTAGGED m
        else (List.range 16).any fun k => s.on d R.ETHm_VIDv.EN m k && s.rd d R.ETHm_VIDv.VID m k == v.toNat
    | none => s.on d R.ETHm_CFG.ACCEPT_UNTAGGED m
  addr && vid

/-- The number of descriptors of a ring (R426). -/
def State.ringLen (s : State) (l : Lane) (m : Fin 3) : Nat := clampN 2 256 (s.rd (laneDie l) R.ETHm_RX_RING.RING m)

/-- The source address of a frame. -/
def ethSource (f : EthFrame) : Nat := ((f.bytes.drop 6).take 6).foldl (fun a b => a * 256 + b % 256) 0

/-- A frame of the chassis network handed over by each receive template whose address sent it with its EtherType (R424). -/
def State.ethHand (s : State) (l : Lane) (m : Fin 3) (f : EthFrame) : State :=
  s.each (List.range 16) fun s t =>
    s.when (s.rd (laneDie l) R.LNK_CHS_NET.CTRL == 4 + m.val && m.val < 2
        && ethSource f == s.ethTmpl l m t 0 + bits (s.ethTmpl l m t 1) 15 0 * 2 ^ 32
        && ethType f == bits (s.ethTmpl l m t 1) 31 16) fun s => s.handNode l t (f.bytes.drop 14)

/-- `ETH_RX_FRAME` (R421 to R424): the messages of the 802.1AS station never reach the ring. -/
def execEthRxFrame (l : Lane) (m : Fin 3) (f : EthFrame) (ago : Nat) (s : State) : Out :=
  let d := laneDie l
  .next (if !(s.past l 16 && s.domains l && s.on d R.ETHm_CFG.EN m && s.ethUp l m) then s
    else
      let s1 := s.when f.bad fun s => s.inc d R.ETHm_CNT.ERR m
      if ethDest f == asAddress && ethType f == 0x88F7 && s.on d R.ETHm_AS_CFG.AS_EN m && m.val < 2 then s1
      else if !s.ethAccepts l m f then s1
      else
        let s1 := s1.when (!f.bad) fun s => s.ethHand l m f
        if s.rd d R.ETHm_RX_STATUS.FREE m = 0 then s1.inc d R.ETHm_CNT.DROP m
        else
        let h := s.rd d R.ETHm_RX_STATUS.HEAD m
        let a := s.rd d R.ETHm_RX_BASE.ADDR m / 16 * 16 + 16 * h
        let buf := s.word l a
        let w1 := f.bytes.length % 2048 + b2n f.tag.isSome * 2 ^ 11
          + (match f.tag with
             | some (p, v) => p.val * 2 ^ 12 + v.toNat * 2 ^ 16
             | none => 0) + b2n f.bad * 2 ^ 30
        let put := fun (s : State) (a : Nat) (bs : List Nat) => if rangeInSram a bs.length then s.setBytes l a bs else s
        let s2 := put s1 buf (f.bytes.take 1536)
        let s3 := put s2 (a + 4) (leBytes w1 4 ++ leBytes ((s.laneTime l - ago) % 2 ^ 32) 4 ++ leBytes 0 4)
        ((((s3.wr d R.ETHm_RX_STATUS.HEAD ((h + 1) % s.ringLen l m) m).wr d R.ETHm_RX_STATUS.FREE
          (s.rd d R.ETHm_RX_STATUS.FREE m - 1) m).inc d R.ETHm_CNT.RX m)).irq l R.ETH_CTRL.RX_IRQ_EN)

/-- `ETH_RX_RELEASE` (R421). -/
def execEthRxRelease (l : Lane) (m : Fin 3) (count : Nat) (s : State) : Out :=
  let d := laneDie l
  .next (if s.writable l then
    s.wr d R.ETHm_RX_STATUS.FREE (min (s.ringLen l m) (s.rd d R.ETHm_RX_STATUS.FREE m + min 256 (count % 512))) m
  else s)

/-- `ETH_MDIO` (R419): ETH2 has no management interface (R426); a write while an access runs starts none. -/
def execEthMdio (l : Lane) (m : Fin 3) (value : BitVec 32) (s : State) : Out :=
  let d := laneDie l
  let v := value.toNat
  .next (if s.writable l && m.val < 2 && !s.on d R.ETHm_MDIO_STATUS.BUSY m then
    (s.set d R.ETHm_MDIO_STATUS.BUSY m).modEth l m fun e => { e with mdio := some (bit v 10, bits v 9 5, bits v 4 0, v / 2 ^ 16) }
  else s)

/-- `ETH_MDIO_DONE` (R419). -/
def execEthMdioDone (l : Lane) (m : Fin 3) (data : BitVec 16) (s : State) : Out :=
  let d := laneDie l
  .next (match (s.ethSt l m).mdio with
    | none => s
    | some (write, _) =>
      let s1 := (s.clr d R.ETHm_MDIO_STATUS.BUSY m).modEth l m fun e => { e with mdio := none }
      if write then s1 else s1.wr d R.ETHm_MDIO_STATUS.DATA data.toNat m)

/-- `ETH_LINK_CHANGE` (R419, R420): RGMII takes its speed from `SPEED`, SGMII from auto-negotiation. A link that goes down
ends every waiting or active entry `FAILED_NOACK`. -/
def execEthLinkChange (l : Lane) (m : Fin 3) (up : Bool) (speed : Fin 4) (full : Bool) (anDone : Bool) (s : State) : Out :=
  let d := laneDie l
  .next (if s.past l 16 && m.val < 2 && s.on d R.ETHm_CFG.EN m then
    let sgmii := s.on d R.ETHm_CFG.IF m
    let sp := if sgmii then speed.val else min 2 (s.rd d R.ETHm_CFG.SPEED m)
    let s1 := (((s.put d R.ETHm_LINK.UP up m).wr d R.ETHm_LINK.SPEED sp m).put d R.ETHm_LINK.FULL_DUPLEX full m).put d
      R.ETHm_LINK.AN_DONE (sgmii && anDone) m
    let s2 := (s1.wrBit d R.ETH_STATUS.UP m up).wrBit d R.ETH_STATUS.LINK_EVT m true
    let s3 := (s2.irq l R.ETH_CTRL.LINK_IRQ_EN).logIf l R.ETH_CTRL.LOG_EN 420 m
    if up then s3
    else s3.each (((s3.tal l).ofQueue (4 + m.val)).filter fun e => e.st != .ending) fun s e => s.postNet l e .failedNoack
  else s)

/-! ## 10BASE-T1S (R425) -/

/-- The node number in use: 0 to 31 under PLCA; any other value acts as 255, CSMA/CD. -/
def State.nodeId (s : State) (l : Lane) : Nat :=
  let n := s.rd (laneDie l) R.ETH_T1S_PLCA.NODE_ID
  if n ≤ 31 then n else 255

/-- PLCA governs the port: it is the coordinator, or sees BEACONs. -/
def State.plca (s : State) (l : Lane) : Bool := s.nodeId l != 255 && s.on (laneDie l) R.ETH_T1S_STATUS.PLCA_ACTIVE

/-- `T1S_COLLISION` (R425): counted in the attempts of the frame; after 16 attempts under CSMA/CD it ends `FAILED_NOACK`. -/
def execT1sCollision (l : Lane) (s : State) : Out :=
  let d := laneDie l
  .next (if s.past l 16 && s.on d R.ETHm_CFG.EN 2 then
    let s1 := s.set d R.ETH_T1S_STATUS.COLL_EVT
    match (s1.tal l).ofQueue 6 with
    | [] => s1
    | e :: _ =>
      let k := (s.ethSt l 2).tries + 1
      if !s.plca l && decide (16 ≤ k) then
        (s1.modEth l 2 fun x => { x with tries := 0 }).postNet l e .failedNoack
      else s1.modEth l 2 fun x => { x with tries := k }
  else s)

/-- `PLCA_BEACON_CHANGE` (R425): node 0 is the coordinator and sends the BEACON itself. -/
def execPlcaBeaconChange (l : Lane) (seen : Bool) (s : State) : Out :=
  let d := laneDie l
  .next (if s.past l 16 && s.on d R.ETHm_CFG.EN 2 && s.nodeId l != 255 then
    let s1 := ((s.put d R.ETH_T1S_STATUS.PLCA_ACTIVE seen).put d R.ETH_T1S_STATUS.COORD (s.nodeId l == 0)).modEth l 2
      fun x => { x with beacons := seen }
    s1.when (s.on d R.ETH_T1S_STATUS.PLCA_ACTIVE && !seen) fun s => s.set d R.ETH_T1S_STATUS.PLCA_LOST
  else s)

end Sys2Proof.Machine
end

