-- ==== Sys2Proof/Machine/Time.lean ====
section
/-!
DEFINITION. Time across the lanes and the network (R98 to R100, R423), and the traction-cycle boundary.
-/
namespace Sys2Proof.Machine

/-- Time keeping of a lane changed by `f`. -/
def State.modClk (s : State) (l : Lane) (f : LaneClock → LaneClock) : State := s.modRun l fun r => { r with clk := f r.clk }

/-- A source taken with its epoch and uncertainty (R99). -/
def State.takeSource (s : State) (l : Lane) (src epoch unc : Nat) : State :=
  let d := laneDie l
  (((s.wr d R.TIM_QUAL.SOURCE src).wr64 l R.TIM_EPOCH_LO.EPOCH R.TIM_EPOCH_HI.EPOCH epoch).wrSat d R.TIM_UNC.US unc).modClk l
    fun c => { c with lapsed := false }

/-- A MAC is synchronised. -/
def State.netLock (s : State) (l : Lane) : Bool :=
  s.on (laneDie l) R.ETHm_AS_STATUS.SYNCED 0 || s.on (laneDie l) R.ETHm_AS_STATUS.SYNCED 1

/-- The partner's network time is available through the measured offset (R99). -/
def State.partnerTime (s : State) (l : Lane) : Bool :=
  s.on (laneDie l) R.TIM_PARTNER_STAT.VALID && s.alive l.other && !s.singleCfg l
    && s.rd (laneDie l.other) R.TIM_QUAL.SOURCE == 3

/-- The best source that is available (R99): while a MAC is synchronised its syncs set the epoch; then the partner's time,
then the elapsed time; without any of them, network stays with a growing uncertainty, and any other source ends. -/
def State.timeBest (s : State) (l : Lane) : State :=
  let d := laneDie l
  if s.netLock l then s
  else if s.partnerTime l then
    s.takeSource l 2 (ux 64 ((s.rd64 l.other R.TIM_EPOCH_LO.EPOCH R.TIM_EPOCH_HI.EPOCH : Int) + s.partnerOfs l))
      (s.netUnc l.other + 1)
  else match (s.run l).clk.elapsed with
    | some (epoch, unc) => s.takeSource l 1 epoch unc
    | none =>
      if s.rd d R.TIM_QUAL.SOURCE = 3 then s.modClk l fun c => { c with lapsed := true }
      else if s.rd d R.TIM_QUAL.SOURCE = 0 then s
      else (s.takeSource l 0 0 0xFFFFFFFF).set d R.CFG_START_STATUS.TIME_UNKNOWN

/-! ## IEEE 802.1AS (R423) -/

/-- The station of a MAC runs: `AS_EN`, the MAC in use since `ST17` and its link up. -/
def State.asRuns (s : State) (l : Lane) (m : Fin 2) : Bool :=
  s.past l 17 && s.on (laneDie l) R.ETHm_AS_CFG.AS_EN m && s.on (laneDie l) R.ETHm_CFG.EN m
    && s.on (laneDie l) R.ETHm_LINK.UP m

/-- Three sync intervals of the grandmaster, in counts; the interval is 2^`LOG_SYNC` s. -/
def threeSyncs (logSync : Nat) : Nat :=
  let k := sx 8 logSync
  if 0 ≤ k then 3 * sec * 2 ^ k.toNat else 3 * sec / 2 ^ k.natAbs

/-- `AS_SYNC` (R99, R423): network time at the arrival is origin plus correction plus the neighbour delay. While both MACs are
synchronised ETH0 governs. A station that is not asCapable, or that has taken no grandmaster, takes no sync (PRESUMED of
IEEE 802.1AS, log entry 22). -/
def execAsSync (l : Lane) (m : Fin 2) (origin corr ago : Nat) (logSync : BitVec 8) (unc : Fin 2) (s : State) : Out :=
  let d := laneDie l
  .next (if s.asRuns l m && s.on d R.ETHm_AS_STATUS.AS_CAPABLE m && s.on d R.ETHm_AS_STATUS.GM_PRESENT m then
    let s1 := ((s.set d R.ETHm_AS_STATUS.SYNCED m).wr d R.ETHm_AS_STATUS.LOG_SYNC logSync.toNat m).modEth l ⟨m, by omega⟩
      fun x => { x with syncAt := s.now }
    let s2 := s1.set d R.TIM_QUAL.NET_LOCK
    let stamp := s.laneTime l - ago
    if m = 1 ∧ s.on d R.ETHm_AS_STATUS.SYNCED 0 then s2
    else
      let r := s2.quot ((origin + corr + s.rd d R.ETHm_AS_PDELAY.NS m : Nat) : Int) 10
      (r.2.takeSource l 3 (ux 64 (r.1 - stamp)) unc).modClk l fun c => { c with lastSync := stamp, syncUnc := unc }
  else s)

/-- The interval of Pdelay_Req in counts: 2^`LOG_PDELAY` s, from -3 to 3, clamped (R423, R426). -/
def State.pdelayGap (s : State) (l : Lane) (m : Fin 2) : Nat :=
  let k := min 3 (max (-3) (s.rdS (laneDie l) R.ETHm_AS_CFG.LOG_PDELAY m))
  if 0 ≤ k then sec * 2 ^ k.toNat else sec / 2 ^ k.natAbs

/-- `AS_PDELAY_REQ` (R423): the next Pdelay_Req goes out, one interval after the last. -/
def execAsPdelayReq (l : Lane) (m : Fin 2) (s : State) : Out :=
  .next (if s.asRuns l m then
    let k : Fin 3 := ⟨m, by omega⟩
    let s1 := if (s.ethSt l k).pdelaySeq = 0 then s else s.advTo ((s.ethSt l k).pdelayAt + s.pdelayGap l m)
    s1.modEth l k fun x => { x with pdelaySeq := (x.pdelaySeq + 1) % 2 ^ 16, pdelayAt := s1.now }
  else s)

/-- `AS_SYNC_LAPSE` (R99, R423): no sync for three intervals. -/
def execAsSyncLapse (l : Lane) (m : Fin 2) (s : State) : Out :=
  let d := laneDie l
  .next (if s.past l 17 && s.on d R.ETHm_AS_STATUS.SYNCED m then
    let x := s.ethSt l ⟨m, by omega⟩
    let s1 := (s.advTo (x.syncAt + threeSyncs (s.rd d R.ETHm_AS_STATUS.LOG_SYNC m))).clr d R.ETHm_AS_STATUS.SYNCED m
    (s1.put d R.TIM_QUAL.NET_LOCK (s1.netLock l)).timeBest l
  else s)

/-- `AS_PDELAY_ANNOUNCE_RX` (R423): the station answers a Pdelay_Req, takes the neighbour delay from a response, and the
grandmaster from an Announce. -/
def execAsPdelayAnnounceRx (l : Lane) (m : Fin 2) (msg : AsMsg) (s : State) : Out :=
  let d := laneDie l
  .next (if s.asRuns l m then
    match msg with
    | .pdelayReq seq => s.modEth l ⟨m, by omega⟩ fun x => { x with answered := some seq.toNat }
    | .pdelayResp delay =>
      (s.wr d R.ETHm_AS_PDELAY.NS delay.toNat m).put d R.ETHm_AS_STATUS.AS_CAPABLE
        (decide (delay.toNat ≤ s.rd d R.ETHm_AS_CFG.NEIGHBOR_THR m)) m
    | .announce present => s.put d R.ETHm_AS_STATUS.GM_PRESENT present m
  else s)

/-! ## The lane link's time exchange (R100) -/

/-- `TIME_FRAME` (R100, R306): the frame of 90 ns carries the partner's transmit stamp and, for the lane's own last `TIME`
frame, its two stamps as the partner knows them; the lane stamps its arrival. -/
def execTimeFrame (l : Lane) (flips : List (BitVec 8)) (transit : Nat) (s : State) : Out :=
  let d := laneDie l
  let sent := s.laneTime l.other
  let last := ((s.run l.other).clk.heard).getD (0, 0)
  .next (s.frame l flips 0 0x02 0 (leBytes sent 8 ++ leBytes last.1 8 ++ leBytes last.2 8) true id fun s =>
    let s := s.advTo (s.now + 9 + transit)
    let arrived := s.laneTime l
    let s1 := s.modClk l fun c => { c with heard := some (arrived, sent) }
    match (s.run l.other).clk.heard with
    | none => s1
    | some (t2, t1) =>
      let r := s1.quot (((t2 : Int) - t1) - ((arrived : Int) - sent)) 2
      let rtt := (((arrived : Int) - t1) - ((sent : Int) - t2)).toNat
      let s2 := (((r.2.wr64 l R.TIM_PARTNER_OFS_LO.OFS R.TIM_PARTNER_OFS_HI.OFS (ux 64 r.1)).set d
        R.TIM_PARTNER_STAT.VALID).wr d R.TIM_PARTNER_STAT.AGE 0).wrSat d R.TIM_PARTNER_STAT.RTT rtt
      s2.when (s2.past l 17) fun s => s.timeBest l)

/-! ## The traction-cycle boundary (R15, R100) -/

/-- The age of the offset at a boundary (R100). -/
def State.offsetAge (s : State) (l : Lane) : State :=
  let d := laneDie l
  let s1 := s.inc d R.TIM_PARTNER_STAT.AGE
  s1.put d R.TIM_PARTNER_STAT.VALID (s.on d R.TIM_PARTNER_STAT.VALID && decide (s1.rd d R.TIM_PARTNER_STAT.AGE ≤ 10))

/-- What boundary `k` does in a lane whose converters, engine and timebases run (R137, R185, R250, R285, R310 to R312,
R415). -/
def State.cycleWork (s : State) (l : Lane) (k : Nat) : State :=
  let s1 := (((s.judge l).copyApply l).ownCapture l k).copyCapture l k
  let s2 := (((s1.adcBoundary l).ceBoundary l).motBoundary l).nrgBoundary l
  s2.each (List.finRange 4) fun s n => s.matrixBoundary l n k

/-- `TRACTION_CYCLE_BOUNDARY` (R100): the next multiple of 10,000 counts of the mode master's lane time. -/
def execTractionCycleBoundary (l : Lane) (s : State) : Out :=
  .next (if s.alive l && (s.run l).clk.t0.isSome then
    let k := nextMultiple (s.masterTime l) 10000 (s.run l).clk.cycle
    let s1 := ((s.advTo (s.instantOfMaster l (k * 10000))).modClk l fun c => { c with cycle := k }).offsetAge l
    let s2 := ((s1.when (s1.past l 11) fun s => s.cycleWork l k).timBoundary l).event l .traction
    let s3 := ((s2.asyBoundary l k).refTrimStep l)
    s3.when (s3.past l 17) fun s => s.timeBest l
  else s)

end Sys2Proof.Machine
end

