-- ==== Sys2Proof/Machine/ModeOps.lean ====
section
/-!
DEFINITION. Configuration images and what a change of the mode does (R70 to R74, R83 to R88): which words an image may
write, how its triples and patches act, the matrix, and the entry to a mode at a lane and at the Deputy.
-/
namespace Sys2Proof.Machine

/-! ## Images (R71 to R74) -/

/-- The patch words of an image. -/
def patchWords (im : Image) : Nat := (im.patches.map fun p => p.words.length).sum

/-- The cost of an image in 10 ns (R73): 2 us, 40 ns for each triple and 10 ns for each patch word. -/
def imageCost (im : Image) : Nat := 200 + 4 * im.triples.length + patchWords im

/-- A block of the address map that an image may write (R74), by the upper 16 bits of the address. -/
def imageBlock (base : Bool) (a : Nat) : Bool :=
  let overlays := [0x4002, 0x4003, 0x4004, 0x4005, 0x4006, 0x4007, 0x4008, 0x4009, 0x400A, 0x400C, 0x400E, 0x400F,
    0x4010, 0x4014, 0x4016, 0x4017]
  overlays.contains (a / 65536) || (base && [0x4000, 0x400D, 0x4013, 0x4015].contains (a / 65536))

/-- The access codes of the fields that an image writes (R74): RW, and RWS in a base image. -/
def imageAcc (base : Bool) (c : Acc) : Bool := c = .rw || (base && c = .rws)

/-- The fields that an image may write in the register at an address. -/
def State.imageFields (s : State) (l : Lane) (base : Bool) (a : Nat) : List (Die × Fld × Nat × Nat) :=
  match s.target l a with
  | .reg d => ((fieldsAt d.bank a).filter fun x => imageAcc base x.1.acc).map fun x => (d, x)
  | _ => []

/-- A triple sets mask bits on writable fields of a permitted block alone (R74). -/
def State.tripleFits (s : State) (l : Lane) (base : Bool) (t : Triple) : Bool :=
  let fs := s.imageFields l base t.addr
  let may := (fs.map fun x => (2 ^ x.2.1.w - 1) * 2 ^ x.2.1.lo).sum
  imageBlock base t.addr && !fs.isEmpty && decide (t.addr % 4 = 0) && decide (t.mask &&& may = t.mask)

/-- The table window of an address, by a number of its own (R71, R407, R424; the points of a curve, chapter 10). -/
def tableWindow (a : Nat) : Option Nat :=
  if 0x400F0000 ≤ a ∧ a ≤ 0x400FFFFF then
    let n := (a - 0x400F0000) / 0x4000 * 8
    let o := (a - 0x400F0000) % 0x4000
    if 0x400 ≤ o ∧ o < 0x800 then some n
    else if 0x800 ≤ o ∧ o < 0x1000 then some (n + 1)
    else if 0x1000 ≤ o ∧ o < 0x1080 then some (n + 2)
    else if 0x1400 ≤ o ∧ o < 0x1C00 then some (n + 3)
    else if 0x2000 ≤ o then some (n + 4)
    else none
  else if 0x40100800 ≤ a ∧ a < 0x40100A00 then some (64 + (a - 0x40100800) / 0x100)
  else if 0x40090800 ≤ a ∧ a < 0x40090C00 then some (128 + (a - 0x40090800) / 0x100)
  else none

/-- A patch lies wholly inside one table window of a permitted block (R71, R74). -/
def patchFits (base : Bool) (p : Patch) : Bool :=
  imageBlock base p.addr && decide (p.addr % 4 = 0) &&
    match tableWindow p.addr with
    | none => false
    | some w => (List.range p.words.length).all fun i => tableWindow (p.addr + 4 * i) == some w

/-- An image that R74 lets through; an overlay keeps the limits of R73 too. -/
def State.imageFits (s : State) (l : Lane) (base : Bool) (im : Image) : Bool :=
  (im.triples.all fun t => s.tripleFits l base t) && (im.patches.all fun p => patchFits base p)
    && (base || (decide (im.triples.length ≤ 4096) && decide (imageCost im ≤ 20000)))

/-- A field under a triple (R72): the masked bits take the value's, the others stay. -/
def State.maskField (s : State) (d : Die) (f : Fld) (mask value i j : Nat) : State :=
  let m := bits mask (f.lo + f.w - 1) f.lo
  let v := bits value (f.lo + f.w - 1) f.lo
  s.wr d f ((s.rd d f i j &&& (2 ^ f.w - 1 - m)) ||| (v &&& m)) i j

/-- A triple applied to the writable fields of its register (R72). -/
def State.applyTriple (s : State) (l : Lane) (base : Bool) (t : Triple) : State :=
  match s.imageFields l base t.addr with
  | [] => s
  | x :: rest =>
    if s.answers l x.1 then s.each (x :: rest) fun s y => s.maskField y.1 y.2.1 t.mask t.value y.2.2.1 y.2.2.2 else s

/-- A word of a patch: a table word, or a point of a curve. -/
def State.applyWord (s : State) (l : Lane) (base : Bool) (a v : Nat) : State :=
  match s.target l a with
  | .table_ k => s.setTable l k v
  | _ => s.applyTriple l base { addr := a, mask := 0xFFFFFFFF, value := v }

/-- A patch applied, word by word (R72). -/
def State.applyPatch (s : State) (l : Lane) (base : Bool) (p : Patch) : State :=
  s.each p.words.zipIdx fun s x => s.applyWord l base (p.addr + 4 * x.2) x.1

/-- An image applied: its triples in order, then its patches in order (R72). -/
def State.writeImage (s : State) (l : Lane) (base : Bool) (im : Image) : State :=
  (s.each im.triples fun s t => s.applyTriple l base t).each im.patches fun s p => s.applyPatch l base p

/-- What the write of a triple at an address starts, from the state `b` before the image (R87, R169, R177). -/
def State.tripleHook (b s : State) (l : Lane) (a : Nat) : State :=
  match b.target l a with
  | .reg d => if b.answers l d && a != R.CFG_BOOT_NEXT.SLOT.addr then b.afterWrite s l d a 0 else s
  | _ => s

/-- An image applied with what its writes start: the settings that it writes act together, at its end (R87, R169, R177; that
those of every other block do is DEDUCED, log entry 44). -/
def State.applyImage (s : State) (l : Lane) (im : Image) : State :=
  (s.writeImage l false im).each (im.triples.map fun t => t.addr).eraseDups fun x a => s.tripleHook x l a

/-- The overlay of a mode in a lane's configuration RAM; a lane without a container has none. -/
def State.overlayOf (s : State) (l : Lane) (m : Nat) : Image :=
  match (s.run l).start.container with
  | some c => c.overlays.getD m Image.empty
  | none => Image.empty

/-- A triple writes the set or the settings of a timebase (R87, R204). -/
def State.tripleTb (s : State) (l : Lane) (t : Fin 8) (x : Triple) : Bool :=
  let own := fun (f : Fld) => f.hit x.addr == some t.val
  let ofCh := fun (f : Fld) => match f.hit x.addr with
    | some c => s.tbOf l (chIdx c) == t
    | none => false
  own R.PWM_TBt_CFG.EN || own R.PWM_TBt_PERIOD.P || own R.PWM_TBt_PHASE.PHASE || ofCh R.PWM_CHc_ON.ON
    || ofCh R.PWM_CHc_OFF.OFF

/-- Step 4 at a lane (R72, R86, R87): the overlay, and every running timebase that it writes held with its new set waiting
for the first reload after the step. -/
def State.applyOverlay (s : State) (l : Lane) (m : Nat) : State :=
  let d := laneDie l
  let im := s.overlayOf l m
  (s.applyImage l im).each (List.finRange 8) fun s t =>
    s.when (s.on d R.PWM_TBt_STATUS.RUN t && im.triples.any fun x => s.tripleTb l t x) fun s =>
      (s.set d R.PWM_TBt_STATUS.MODE_HOLD t).set d R.PWM_TBt_STATUS.COMMIT_PEND t

/-! ## The matrix (R83) -/

/-- The mark of a transition: none, permitted, vehicle alone, stationary alone. The marks K and W belong to keepers and
wakes, not to a mode request. -/
inductive Mark | none | yes | vehicle | stationary
deriving DecidableEq, Repr

/-- The matrix of R83 for mode requests. -/
def modeMark (old new : Nat) : Mark :=
  if old = modeReady then
    if new = modeStorage ∨ new = modeParked ∨ new = modeService then .yes
    else if new = modeDrive ∨ new = modeCharge ∨ new = modeExport then .vehicle
    else if new = modeStationary then .stationary
    else .none
  else if old = modeDrive ∨ old = modeCharge ∨ old = modeExport then (if new = modeReady then .yes else .none)
  else if old = modeService ∨ old = modeStationary then
    (if new = modeStorage ∨ new = modeParked ∨ new = modeReady then .yes else .none)
  else .none

/-- The result codes of R88. -/
def mrDone : Nat := 0
/-- `MATRIX`. -/
def mrMatrix : Nat := 1
/-- `APPLICATION`. -/
def mrApplication : Nat := 2
/-- `SAFE_STOP`. -/
def mrSafeStop : Nat := 3
/-- `NOT_MASTER`. -/
def mrNotMaster : Nat := 4
/-- `BUSY`. -/
def mrBusy : Nat := 5
/-- `PARTNER`. -/
def mrPartner : Nat := 6
/-- `SERVICE_ONLY`. -/
def mrServiceOnly : Nat := 7

/-- Some lane of the device is Service-only (R81). -/
def State.serviceOnly (s : State) : Bool :=
  lanes.any fun l => s.running l && s.on (laneDie l) R.CFG_START_STATUS.SERVICE_ONLY

/-- A mode change runs (R88): the engine has one, and its master still runs. -/
def State.modeBusy (s : State) : Bool := s.modeEng.step != .idle && s.running s.modeEng.master

/-- The mode is entered from outside by Parked or Storage (R88). -/
def modeOffs (m : Nat) : Bool := m == modeParked || m == modeStorage

/-- The result of the checks of R83 and R85 on a request for mode `m` at lane `l`; `mrDone` lets it through. Under the
Deputy's Safe stop only Parked is permitted; under the lane form nothing is. Where several causes hold, the spec gives no
order: DESIGN CHOICE, log entry 23. -/
def State.modeCheck (s : State) (l : Lane) (m : Nat) : Nat :=
  let mark := modeMark (s.modeOf l) m
  let stop := s.depOn && s.on .ds R.DSP_STATUS.SAFE_STOP
  if s.master != l then mrNotMaster
  else if s.modeBusy then mrBusy
  else if (s.run l).sup.laneStop then mrSafeStop
  else if m = modeParked ∧ !s.depOn then mrMatrix
  else if stop then (if m = modeParked then mrDone else mrSafeStop)
  else match mark with
    | .none => mrMatrix
    | .yes => mrDone
    | .vehicle => if s.on (laneDie l) R.CFG_CONTAINER.APPLICATION then mrApplication
        else if s.serviceOnly then mrServiceOnly else mrDone
    | .stationary => if !s.on (laneDie l) R.CFG_CONTAINER.APPLICATION then mrApplication
        else if s.serviceOnly then mrServiceOnly else mrDone

/-- The refuser of R387 that keeps a lane out of Parked and Storage, 0 for none. A mode change that is busy and enabled
engines act as R88 gives. -/
def State.offRefuser (s : State) (l : Lane) (nvmBusy : Bool) : Nat :=
  if !(s.tal l).entries.isEmpty then 1
  else if nvmBusy then 4
  else if s.on (laneDie l) R.SEC_LC_STATUS.BUSY || s.debugOpen l
  then 8 else 0

/-- The partner of the mode master takes part in a change (R86): not in the single-lane arrangement, and not while it is
declared lost or its island stands without supply (R59). -/
def State.modeJoint (s : State) (l : Lane) : Bool :=
  let lost := if s.depOn && !s.dsLost l then s.isLost (lossOf l.other) else bit (s.run l).sup.lost (lossOf l.other).code
  !s.singleCfg l && !lost && s.island l.other

/-- A request ends at a lane with its result (R86, R88). -/
def State.modeEnd (s : State) (l : Lane) (code : Nat) : State :=
  ((s.clr (laneDie l) R.CFG_MODE_STATUS.BUSY).set (laneDie l) R.CFG_MODE_STATUS.DONE).wr (laneDie l)
    R.CFG_MODE_STATUS.RESULT code

/-- The engine idle again, and no lane busy. -/
def State.modeIdle (s : State) : State :=
  ({ s with modeEng := { s.modeEng with step := .idle } }).each lanes fun s l => s.clr (laneDie l) R.CFG_MODE_STATUS.BUSY

/-! ## The entry to a mode (R86 step 6, R300, R388, R468) -/

/-- Whether a keeper is armed in a mode (R300). -/
def modeArms (m : Nat) : Bool := m == modeParked || m == modeReady || m == modeService || m == modeStationary

/-- The new mode at a lane: `CFG_MODE`, the hold time, the stages that it does not mark, a system calibration aborted, the
keeper's `ARM`, and the Assay's trigger (R86, R140, R284, R300, R431). -/
def State.modeEnter (s : State) (l : Lane) (m hold : Nat) : State :=
  let d := laneDie l
  let old := s.modeOf l
  let s1 := ((s.wr d R.CFG_MODE.MODE m).wr d R.CFG_MODE.PREVIOUS old).wr d R.CFG_MODE_TIME.HOLD hold
  let s2 := if s1.on d R.ADC_SYSCAL_STATUS.BUSY then
      (s1.clr d R.ADC_SYSCAL_STATUS.BUSY).wr d R.ADC_SYSCAL_STATUS.RESULT 5
    else s1
  let s3 := s2.put (papDie l) R.LVP_KEEP_CTRL.ARM (modeArms m)
  ((s3.nrgMode l).modAsy l fun a => { a with modeLeft := some (old, m) }).asyTrigger l trgMode

/-- The `MODE` record of a change into Parked (R431, R436): the core supply goes at the end of step 6, so the committing
lane's record is written at once (DEDUCED, log entry 24). -/
def State.parkRecord (s : State) (l : Lane) : State :=
  if s.asyOn l && !(s.asy l).stopped && s.committer l && s.mayCommit l then
    let t := (s.asy l).triggers
    let r := s.capture l (if (s.asy l).restarted then t else setBit t trgRestart) 0
    (r.2.ledgerWrite l { r.1 with signed := true } 0).inc (laneDie l) R.ASY_CNT.COMMITS
  else s

/-- The Deputy's Safe stop, its timer and the lost classes end as Parked is entered (R35, R83, R339, R469). -/
def State.parkClears (s : State) : State :=
  let s1 := s.each [.la, .lb, .na, .nb, .sa, .sb] fun s (c : FaultClass) => s.returnClass c
  let s2 := [R.DSP_OUTCOME.SINGLE, R.DSP_OUTCOME.DEGRADED, R.DSP_OUTCOME.SS_CONTROLLED, R.DSP_OUTCOME.SS_IMMEDIATE,
    R.DSP_STATUS.SAFE_STOP, R.DSP_STATUS.DEGRADED, R.DSP_DEG_STATUS.RUNNING, R.DSP_DEG_STATUS.EXPIRED,
    R.DSP_DEG_STATUS.CLASS, R.DSP_SS_STATUS.FORM, R.DSP_SS_STATUS.RAMP_RUN, R.DSP_SS_STATUS.RAMP_EXPIRED,
    R.DSP_SS_STATUS.OUTPUTS_OPEN, R.DSP_SS_STATUS.BRAKE_A, R.DSP_SS_STATUS.BRAKE_B,
    R.DSP_SS_STATUS.BRAKE_WIN_EXP].foldl (fun s f => s.clr .ds f) s1
  let s3 := s2.wr .ds R.DSP_DEG_REMAIN.MS 0xFFFFFFFF
  s3.syncImposed

/-- No lane is granted and no hold runs, without a fault: a lane that goes Off drops its request (R25, R388). -/
def State.grantEnd (s : State) : State :=
  let s1 := s.each lanes fun s l => s.removeGrant l
  let s2 := ((s1.wr .ds R.DSP_GRANT.STATE grantNone).wr .ds R.DSP_HOLD.TB 0).modDep fun d => { d with holdFrom := none }
  { s2 with mux := { s2.mux with chs := updAll s2.mux.chs fun (c : Option MuxCh) => c.map fun m => { m with driving := false } } }

/-- The heartbeat monitors disarmed, the grant ended and the start command taken back, as a change into Parked or Storage ends
(R334, R388, R468). -/
def State.depStandDown (s : State) : State :=
  ((s.grantEnd.each lanes fun s l => s.clr .ds R.DSP_Lx_STATUS.ARMED l.idx).modDep fun d => { d with startCmd := false }).grantLogic

/-- Every Hoist link static off, without ticks (R53, R56): the heads see the off level and then no tick. -/
def State.linksStatic (s : State) : State :=
  { s with hoist := { s.hoist with
    recordValid := false
    links := updAll s.hoist.links fun k =>
      HoistLink.follow { k with phase := .static, lane := false, want := false, on := false, withheld := false, hlgOk := false } } }

/-- The mode master tells the Deputy the network time and its measurement of the watchdog oscillator (R101). -/
def State.parkTell (s : State) (l : Lane) (freq : Nat) : State :=
  let t := (s.netTime l).getD 0
  let s1 := ((s.wr .ds R.DSP_PK_NET_LO.TIME (t % 2 ^ 32)).wr .ds R.DSP_PK_NET_HI.TIME (t / 2 ^ 32)).wr .ds
    R.DSP_PK_NET_UNC.US (if (s.netTime l).isSome then s.netUnc l else 0xFFFFFFFF)
  s1.wr .ds R.DSP_PK_FREQ.MHZ freq

/-- Parked is entered (R56, R101, R239, R278, R343, R344, R345, R347, R348, R388): the outputs open, clamps and brakes end, the
records of the stay begin, and both lanes go Off. -/
def State.enterParked (s : State) (l : Lane) (freq : Nat) : State :=
  let s1 := (s.parkTell l freq).parkCount
  let s2 := s1.each lanes fun s x => ((s.parkRecord x).clampWithdraw x).brakeEnd x
  let s3 := (s2.parkClears.parkOutputs true).depStandDown
  let s4 := s3.modDep fun d => { d with roundDue := none, lanes := updAll d.lanes fun x => { x with st19 := false, hasHeld := false } }
  s4.linksStatic.each lanes fun s x => s.when ((s.run x).phase != .off) fun s => s.resetIsland x .off

/-- Storage is entered (R301, R345, R388): the outputs open and the master's keeper begins; the lanes run on until it takes
their supply. -/
def State.enterStorage (s : State) (l : Lane) : State :=
  let s1 := if s.depOn then (s.parkOutputs false).depStandDown else s
  s1.keeperStore l

/-- An image writes a register or a table window of CAN controller `n` (R87). -/
def imageCan (im : Image) (n : Fin 4) : Bool :=
  let at_ := fun (a : Nat) => a / 0x4000 == 0x400F0000 / 0x4000 + n.val
  (im.triples.any fun x => at_ x.addr) || im.patches.any fun p => at_ p.addr

/-- The cells of lane `l` whose start falls in step 4, of `t` counts, on a controller that the overlay writes, pass unused (R87,
R416). -/
def State.skipCells (s : State) (l : Lane) (im : Image) (t : Nat) : State :=
  s.each (List.finRange 4) fun s n =>
    let due := match s.nextWindow l n with
      | some d => decide (d ≤ t)
      | none => false
    s.when (due && imageCan im n) fun s => s.set (laneDie l) R.CANn_SCHED_STATUS.TT_SKIP n

/-- Steps 4 to 6 of a change to mode `m` led by lane `l` (R86), at the boundary: the lanes that take part apply their overlays,
each in its own hold time, then take the mode. -/
def State.modeApply (s : State) (l : Lane) (m : Nat) (hold : Lane → Nat) (freq : Nat) : State :=
  let who := lanes.filter fun x => x = l || (s.modeEng.joint && s.running x)
  let time := fun x => min (hold x) (imageCost (s.overlayOf x m))
  let sk := s.each who fun s x => s.skipCells x (s.overlayOf x m) (time x)
  let s1 := (sk.each who fun s x => (s.event x .modeStep4).applyOverlay x m).advTo (s.now + (who.map time).foldl max 0)
  let s2 := { s1 with modeEng := { s1.modeEng with holdEnd := s1.now } }
  let s3 := s2.when s2.depOn fun s => s.wr .ds R.DSP_MODE.MODE m
  let s4 := s3.each who fun s x => s.modeEnter x m (time x)
  let s5 := (s4.modeEnd l mrDone).modeIdle
  let s6 := if m = modeParked then s5.enterParked l freq else if m = modeStorage then s5.enterStorage l else s5
  s6.when (s6.depOn && m != modeParked) fun s => s.syncSto.syncChs

end Sys2Proof.Machine
end

