-- ==== Sys2Proof/Machine/Mode.lean ====
section
/-!
DEFINITION. The commands of a mode change (R83 to R88).
-/
namespace Sys2Proof.Machine

/-- A refused or aborted entry into Parked or Storage counts with a refuser code (R88, R113, R387); `CFG` is 7. -/
def State.modeRefused (s : State) (l : Lane) (m code : Nat) (aborted : Bool) : State :=
  if modeOffs m then s.refuseEntry l code aborted else s

/-- `MODE_REQUEST` (R85 to R88): step 1. A refusal by R113 or R387 has no code of R88: its result is a free value. -/
def execModeRequest (l : Lane) (target : Fin 8) (nvmBusy : Bool) (s : State) : Out :=
  let d := laneDie l
  let m := target.val
  .next (if !s.writable l || !s.running l then s
    else
      let s1 := s.wr d R.CFG_MODE_STATUS.LAST_TARGET m
      let c := s.modeCheck l m
      if c ≠ mrDone then
        let busy := s1.on d R.CFG_MODE_STATUS.BUSY
        ((s1.modeEnd l c).modeRefused l m 7 false).put d R.CFG_MODE_STATUS.BUSY busy
      else
        let r := if modeOffs m then s.offRefuser l nvmBusy else 0
        if r ≠ 0 then
          let f := s1.free 3
          (f.2.modeEnd l f.1).refuseEntry l r false
        else
          let joint := s.modeJoint l
          let s2 := (s1.set d R.CFG_MODE_STATUS.BUSY).clr d R.CFG_MODE_STATUS.DONE
          let s3 := { s2 with modeEng := { s2.modeEng with
            step := if joint then .partner else .boundary, target := m, master := l, joint := joint, since := s2.now } }
          if joint then s3.modLnk l fun k => { k with modeOut := some (.request m) } else s3)

/-- What the partner does with a mode request (R86 step 2, R113, R387): it refuses an entry that its own tally, media or
debug port refuses, and accepts otherwise. -/
def State.modeAnswer (s : State) (l : Lane) (m : Nat) (nvmBusy : Bool) : State :=
  if s.running l then
    let r := if modeOffs m then s.offRefuser l nvmBusy else 0
    if r ≠ 0 then (s.refuseEntry l r false).modLnk l fun k => { k with modeOut := some .refuse }
    else (s.set (laneDie l) R.CFG_MODE_STATUS.BUSY).modLnk l fun k => { k with modeOut := some .accept }
  else s

/-- The change ends without the partner (R88). -/
def State.modeNoPartner (s : State) : State :=
  let l := s.modeEng.master
  ((s.modeEnd l mrPartner).modeRefused l s.modeEng.target 7 false).modeIdle

/-- The payload of a `MODE` frame. R306 gives its length alone: its coding is the model's (DESIGN CHOICE, log entry 49). -/
def ModeMsg.payload : ModeMsg → List Nat
  | .request m => [0, m, 0, 0]
  | .accept => [1, 0, 0, 0]
  | .refuse => [2, 0, 0, 0]

/-- `LINK_FRAME_MODE` (R86, R306): a request at the partner; an acceptance or a refusal at the lane that asked. -/
def execLinkFrameMode (l : Lane) (flips : List (BitVec 8)) (nvmBusy : Bool) (s : State) : Out :=
  let waits := s.modeEng.step == .partner && s.modeEng.master == l
  .next (match (s.run l.other).link.modeOut with
    | none => s
    | some x => s.frame l flips 1 0x03 0 x.payload true (fun s => s.modLnk l.other fun k => { k with modeOut := none }) fun s =>
      match x with
      | .request m => s.modeAnswer l m nvmBusy
      | .accept => if waits then { s with modeEng := { s.modeEng with step := .boundary } } else s
      | .refuse => if waits then s.modeNoPartner else s)

/-- `MODE_PARTNER_TIMEOUT` (R86 step 2, R88): 10 us and 20 us after the request at the latest. -/
def execModePartnerTimeout (s : State) : Out :=
  .next (if s.modeEng.step == .partner && s.running s.modeEng.master then
    (s.advTo (s.modeEng.since + 30 * us)).modeNoPartner
  else s)

/-- A change that cannot go on at its boundary (R83, R88): the master no longer runs, or a Safe stop imposed meanwhile
forbids the target. -/
def State.modeBarred (s : State) : Option Nat :=
  let l := s.modeEng.master
  if !s.running l then some mrMatrix
  else if (s.run l).sup.laneStop then some mrSafeStop
  else if s.depOn && s.on .ds R.DSP_STATUS.SAFE_STOP && s.modeEng.target != modeParked then some mrSafeStop
  else if s.modeEng.target = modeParked ∧ !s.depOn then some mrMatrix
  else none

/-- The lane whose tally or key store keeps the device out of Parked or Storage at the boundary, with the refuser's code: an
entry admitted after the request bars the entry too (R113, R387). -/
def State.modeLate (s : State) : Option (Lane × Nat) :=
  let e := s.modeEng
  if modeOffs e.target then
    ((lanes.filter fun x => x = e.master || (e.joint && s.running x)).map fun x => (x, s.offRefuser x false)).find? fun x =>
      x.2 != 0
  else none

/-- The entry to Parked waits while the mode master opens the main contactors (R282; the wait is DEDUCED, log entry 48). -/
def State.parkOpens (s : State) : Bool :=
  let l := s.modeEng.master
  s.modeEng.target == modeParked && (s.opening l || s.ctrClosed l ctrMP || s.ctrClosed l ctrMN)

/-- `OPEN_MAIN` run by the mode master itself before Parked (R282), unless it runs already. -/
def State.parkOpen (s : State) (l : Lane) : State :=
  if s.opening l then s
  else (((s.seqEnd l resAborted).wr (laneDie l) R.NRG_CTR_RESULT.LAST_CMD 2).clr (laneDie l) R.NRG_STATUS.NEG_UNTESTED).openMain l

/-- `MODE_CHANGE_APPLY` (R86 steps 3 to 6): `holdA` and `holdB` are what step 4 takes on the lanes in 10 ns, at most the cost
of R73; `freq` is what the master has measured the Deputy's watchdog oscillator at, in mHz (R101). -/
def execModeChangeApply (holdA holdB freq : Nat) (s : State) : Out :=
  let e := s.modeEng
  let l := e.master
  .next (if e.step != .boundary then s
    else
      let s1 := s.advTo (s.instantOfMaster l (ceilDiv (s.masterTime l) 10000 * 10000))
      match s1.modeBarred with
      | some c => ((s1.when (s1.alive l) fun s => (s.modeEnd l c).modeRefused l e.target 7 true)).modeIdle
      | none =>
        match s1.modeLate with
        | some x =>
          let f := s1.free 3
          ((f.2.modeEnd l f.1).refuseEntry x.1 x.2 true).modeIdle
        | none => if s1.parkOpens then s1.parkOpen l else s1.modeApply l e.target (fun x => if x = .a then holdA else holdB) freq)

end Sys2Proof.Machine
end

