-- ==== Sys2Proof/Machine/SafeOut.lean ====
section
/-!
DEFINITION. Readback, tests and current limit of the Deputy's safe outputs (R346 to R348, R458).
-/
namespace Sys2Proof.Machine

/-- `SO_FB_MISMATCH` (R346): a readback that differs from the state for 1 ms, which is not judged for 200 us after a change of
either switch. The sense of a chopping output does not count. -/
def execSoFbMismatch (k : Fin 12) (fb ls : Bool) (s : State) : Out :=
  let hs := s.on .ds R.DSP_SOk_STATUS.HS k
  let lo := s.on .ds R.DSP_SOk_STATUS.LS k
  let bad := (fb != hs) || (!s.chopping k && ls != (hs && !lo))
  .next (if s.depOn && bad then
    let s1 := ((s.advTo (s.dep.soAt[k] + 200 * us + ms)).put .ds R.DSP_SOk_STATUS.FB fb k).put .ds R.DSP_SOk_STATUS.LS_SENSE ls k
    let s2 := (s1.wrBit .ds R.DSP_SO_FB.LEVEL k fb).wrBit .ds R.DSP_SO_LS.LEVEL k ls
    let s3 := (s2.set .ds R.DSP_SOk_STATUS.FB_ERR k).inc .ds R.DSP_SOk_CNT.FB_ERRS k
    match s3.ctrOn k with
    | some c => s3.each lanes fun s l => s.when (s.alive l) fun s => s.set (laneDie l) R.NRG_CTRc_STATUS.FB_ERR c
    | none => s3
  else s)

/-- The result code of a test by its readback (R347). -/
def testCode (closed fb1 ls1 fb2 : Bool) : Nat :=
  if !fb1 then 3 else if !ls1 then 1 else if closed && fb2 then 2 else 0

/-- One output tested (R347, R348): it begins, is cut short by an opening, or ends with its code; a close request that came
in acts at its end. -/
def State.soTest (s : State) (k : Fin 12) (r : SoRead) (periodic : Bool) : State :=
  let closed := s.on .ds R.DSP_SOk_STATUS.HS k && s.on .ds R.DSP_SOk_STATUS.LS k
  let pulse := clampN 5 50 (s.rd .ds R.DSP_SO_TEST.PULSE) * 10 * us
  let s1 := ((s.set .ds R.DSP_SO_TEST_STATUS.BUSY).inc .ds R.DSP_SOk_CNT.TESTS k).modDep fun d =>
    { d with test := some { out := k, periodic := periodic } }
  if r.cut = .open then s1.openSo k
  else
    let s2 := s1.advTo (s1.now + (if closed then 2 * pulse + ms else pulse))
    let s3 := if r.cut = .close then (s2.closeSo k).2 else s2
    let code := testCode closed r.fb1 r.ls1 r.fb2
    let s4 := if code = 0 then s3
      else (((s3.set .ds R.DSP_SOk_STATUS.FAIL k).wr .ds R.DSP_SOk_STATUS.FAIL_CAUSE code k).wrBit .ds
        R.DSP_SO_TEST_STATUS.FAILED k true).record classNone 9 false k
    let s5 := s4.testEnd k code
    if s5.dep.pendingClose[k] then
      ((s5.modDep fun d => { d with pendingClose := upd d.pendingClose k fun _ => false }).closeSo k).2
    else s5

/-- The readback of a healthy output (R346). -/
def SoRead.good (k : Fin 12) : SoRead := { out := k, fb1 := true, ls1 := true, fb2 := false, cut := .none }

/-- The outputs with `TEST_EN` tested in ascending order, without those that chop (R347). -/
def State.soRound (s : State) (reads : List SoRead) : State :=
  s.each (List.finRange 12) fun s k =>
    if s.on .ds R.DSP_SOk_CFG.TEST_EN k && !s.chopping k then
      s.soTest k ((reads.find? fun r => r.out == k).getD (SoRead.good k)) true
    else s

/-- `SO_TEST_ROUND` (R347): the round of the first handshake with `AT_START`, or the periodic round that is due. -/
def execSoTestRound (reads : List SoRead) (s : State) : Out :=
  .next (if s.depOn && s.dep.startTest then (s.soRound reads).modDep fun d => { d with startTest := false }
    else match s.dep.roundDue with
    | none => s
    | some t =>
      if s.depOn && !s.depParked then
        let s2 := (s.advTo t).soRound reads
        let p := s2.rd .ds R.DSP_SO_TEST.PERIOD
        s2.modDep fun d => { d with roundDue := if p = 0 then none else some (t + p * sec) }
      else s)

/-- `SO_TEST_GO` (R347): only in Service, and not while another test runs or the output chops. -/
def execSoTestGo (l : Lane) (out : Fin 16) (read : SoRead) (s : State) : Out :=
  .next (if !s.writable l then s
    else if !s.depOn then s.accessError l .ap 0x401500E4 true .powerOff
    else
      let refuse := (s.wr .ds R.DSP_SO_TEST_STATUS.LAST_OUT out).wr .ds R.DSP_SO_TEST_STATUS.LAST_RESULT 5
      if h : out.val < 12 then
        let k : Fin 12 := ⟨out, h⟩
        if s.on .ds R.DSP_SO_TEST_STATUS.BUSY || s.chopping k || s.rd .ds R.DSP_MODE.MODE != modeService then refuse
        else s.soTest k read false
      else refuse)

/-- `SO_CURRENT_LIMIT` (R458): the output is opened. -/
def execSoCurrentLimit (k : Fin 12) (s : State) : Out :=
  .next (if s.depOn && (s.on .ds R.DSP_SOk_STATUS.HS k || s.on .ds R.DSP_SOk_STATUS.LS k) then
    (s.advTo (s.now + 100 * us)).openSo k
  else s)

end Sys2Proof.Machine
end

