-- ==== Sys2Proof/Machine/Start.lean ====
section
/-!
DEFINITION. The start of a lane (R75 to R82): the steps `ST00` to `ST19` with their outcomes and alternatives, the loader of
the boot ROM, root-key revocation and boot-next requests.
-/
namespace Sys2Proof.Machine

/-- The starting side of a lane changed by `f`. -/
def State.modStart (s : State) (l : Lane) (f : StartSt → StartSt) : State :=
  s.modRun l fun r => { r with start := f r.start }

/-- The lane's phase set. -/
def State.setPhase (s : State) (l : Lane) (p : LanePhase) : State := s.modRun l fun r => { r with phase := p }

/-- The record of the previous start, once this start's record is open. -/
def State.lampPrev (s : State) (l : Lane) : Option LampRecord := (s.nv l).lamp.dropLast.getLast?

/-- The previous start failed at a step (R80). -/
def State.prevFailed (s : State) (l : Lane) (n : Nat) : Bool :=
  match s.lampPrev l with
  | some r => r.failedAt n
  | none => false

/-- The previous start recorded a boot-next request for a slot (R80, R90). -/
def State.prevRequest (s : State) (l : Lane) : Bool :=
  match s.lampPrev l with
  | some r => r.bootNext.getLast? == some 0x0F || r.bootNext.getLast? == some 0xF0
  | none => false

/-- `PASS_ALT` where an alternative was used, else `PASS` (R78). -/
def passOr (alt : Bool) : Nat := if alt then ocPassAlt else ocPass

/-! ## ST02: the lamp board and the OTP (R75, R79, R80, R392, R442, R444) -/

/-- The new lamp board record, opened at `ST02` (R79, R80): the previous one judged, the alternatives of this start, the
outcomes of `ST00` and `ST01`. Which configuration copy a start tries when the previous one failed neither `ST08` nor `ST09` the
spec leaves open: copy 1 (DESIGN CHOICE, log entry 44). -/
def State.openRecord (s : State) (l : Lane) : State :=
  let d := laneDie l
  let lost := s.on (papDie l) R.PAP_RESET_CAUSE.SUPPLY
  let s1 := s.modLamp l fun r => r.judged lost
  let prev := newestRecord (s1.nv l).lamp
  let failedAt := fun n => match prev with
    | some r => r.failedAt n
    | none => false
  let copy2 := match prev with
    | some r => (failedAt 8 || failedAt 9) && !r.copy2
    | none => false
  let seq := (s1.nv l).lampSeq + 1
  let rec1 : LampRecord :=
    { seq := seq, slotB := s1.slotToTry l prev, copy2 := copy2, mirror := failedAt 7, reduced := failedAt 3,
      outcomes := ocPass :: ocPass :: List.replicate 18 ocNone, entered := 2, bootNext := [] }
  let s2 := match prev.bind LampRecord.failed with
    | some x => ((s1.wr d R.CFG_START_FAIL.STEP x.1).wr d R.CFG_START_FAIL.COUNT (s1.failCount l x.1)).wr d
        R.CFG_START_FAIL.CODE x.2
    | none => s1
  let s3 := s2.put d R.CFG_START_STATUS.SERVICE_ONLY (s1.threeFailures l)
  (s3.modNv l fun n => { n with lamp := lampErase seq n.lamp ++ [rec1], lampSeq := seq }).wr d R.CFG_LAMP_SEQ.SEQ seq

/-- The causes of the reset copied from the die, which clears them (R392). -/
def State.copyCauses (s : State) (l : Lane) : State :=
  let p := papDie l
  let s1 := ((s.wr (laneDie l) R.SYS_RESET_CAUSE.SUPPLY (s.rd p R.PAP_RESET_CAUSE.SUPPLY)).wr (laneDie l)
    R.SYS_RESET_CAUSE.NRESET (s.rd p R.PAP_RESET_CAUSE.NRESET)).wr (laneDie l) R.SYS_RESET_CAUSE.OFF
    (s.rd p R.PAP_RESET_CAUSE.OFF)
  (((s1.clr p R.PAP_RESET_CAUSE.SUPPLY).clr p R.PAP_RESET_CAUSE.NRESET).clr p R.PAP_RESET_CAUSE.THERMAL).clr p
    R.PAP_RESET_CAUSE.OFF

/-- The debug port by the lifecycle (R442): 0 closed, 1 boundary scan, 2 open. -/
def debugOf (lifecycle : Nat) (recorded : Bool) : Nat :=
  if lifecycle = 0 ∨ lifecycle = 1 then 2
  else if lifecycle = 2 ∨ lifecycle = 5 then 1
  else if lifecycle = 4 ∧ recorded then 2
  else 0

/-- A key-store bank that is partly programmed, or programmed while the lifecycle still reads DEVELOP without a blob that unwraps
under it, is spent (R444). -/
def spendBanks (blob : Fin 2 → Bool) (n : LaneNv) : LaneNv :=
  let bad := fun (k : Fin 2) => n.banks[k] = 3 || (n.banks[k] = 1 && n.lifecycle = 1 && !blob k)
  if bad 0 || bad 1 then
    { n with banks := #v[if bad 0 then 2 else n.banks[0], if bad 1 then 2 else n.banks[1]], keygenLost := true }
  else n

/-- The lifecycle, the keys and the factory values read from the OTP (R11, R66, R132, R372, R442, R444). -/
def State.readOtp (s0 : State) (l : Lane) : State :=
  let d := laneDie l
  let s := s0.modNv l (spendBanks (s0.blobOk l))
  let n := s.nv l
  let s1 := ((s.wr d R.CFG_KEY_STATUS.PROGRAMMED n.keyProg).wr d R.CFG_KEY_STATUS.REVOKED n.keyRevoked).wr d R.SEC_LC.STATE
    n.lifecycle
  let s2 := ((s1.put d R.SEC_LC.KEYS (decide (n.bankIn < 2) && (n.lifecycle == 2 || n.lifecycle == 3))).wr d R.SEC_LC.BANK
    n.bankIn).wr d R.SEC_LC.DEBUG (debugOf n.lifecycle n.dbgRecorded)
  let s3 := ((s2.put d R.SEC_LC.KEYGEN_LOST n.keygenLost).put d R.SEC_LC.DBG_RECORDED n.dbgRecorded).set d
    R.SEC_TRNG_STATUS.READY
  let s4 := ((s3.wr d R.SYS_VDD_FLOOR.BOOT (80 + Config.otp l.idx 0x4000 % 21)).wr d R.SYS_VDD_FLOOR.FLOOR_800
    (20 + Config.otp l.idx 0x4001 % 21)).wr d R.SYS_VDD_FLOOR.FLOOR_400 (Config.otp l.idx 0x4002 % 21)
  s4.each (List.finRange 12) fun s g => s.each (List.finRange 4) fun s k =>
    let f := fun (kind : Nat) => factory l kind (4 * g + k)
    let skew := if k.val = 0 then 0 else f 18
    (((s.wr d R.ADC_Gg_Sk_OG.OFFSET (f 16) g k).wr d R.ADC_Gg_Sk_OG.GAIN (f 17) g k).wr d R.ADC_Gg_Sk_SKEW.SKEW skew g
      k).modGrp l g fun x => { x with est := upd x.est k fun _ => (sx 16 (f 16), sx 16 (f 17), sx 16 skew) }

/-- `ST02`: a part in RETURN starts only into Service (R442). -/
def State.st02 (s : State) (l : Lane) (inp : StartInputs) : Nat × State :=
  let s1 := ((s.copyCauses l).readOtp l).wr (laneDie l) R.NVM_XSPI_CFG.SIZE_LOG2 inp.norLog2
  (ocPass, ((s1.when ((s.nv l).lifecycle == 4) fun s => s.set (laneDie l) R.CFG_START_STATUS.SERVICE_ONLY).set (laneDie l)
    R.NVM_STATUS.XSPI_READY))

/-- How the boot ROM and the lane read the NOR (R63): 8D-8D-8D (else 1S-1S-1S), and the clock in MHz. -/
def State.norRead (s : State) (l : Lane) : Bool × Nat :=
  match (s.run l).phase with
  | .starting n => if n ≤ 3 then (false, 25) else if n ≤ 7 then (true, 100) else (true, s.rd (laneDie l) R.NVM_XSPI_CFG.FREQ_MHZ)
  | .loader => (true, 100)
  | _ => (true, s.rd (laneDie l) R.NVM_XSPI_CFG.FREQ_MHZ)

/-! ## ST03 to ST10 -/

/-- `ST03`: the PLL locks, with the reduced setting as the alternative (R80), and the rail link starts (R377). -/
def State.st03 (s : State) (l : Lane) : Nat × State :=
  let red := match s.lampNow l with
    | some r => r.reduced
    | none => false
  (passOr red, (s.put (laneDie l) R.CFG_START_STATUS.REDUCED red).modRun l fun r =>
    { r with pwr := { r.pwr with heardAt := s.now } })

/-- The three events of a group of a pair have passed (R359). -/
def groupPassed (canary : List Bool) (p g : Nat) : Bool :=
  (List.range 3).all fun k => canary.getD (48 * p + 3 * g + k) true

/-- `ST04`: the canary (R359, R360). -/
def State.st04 (s : State) (l : Lane) (inp : StartInputs) : Nat × State :=
  let d := laneDie l
  let ok := fun i => inp.canary.getD i true
  let bad := (List.range 100).find? fun i => !ok i
  let s1 := ((s.set d R.LCK_CANARY_STATUS.DONE).put d R.LCK_CANARY_STATUS.PASS bad.isNone).put d
    R.LCK_CANARY_STATUS.UNEXPECTED inp.unexpected
  let s2 := ((s1.wr d R.LCK_CANARY_STATUS.COLLECTOR (maskOf 4 fun k => ok (96 + k))).wr d R.LCK_CANARY_STATUS.FIRST_FAIL
    (bad.getD 127)).wr d R.LCK_CANARY_STATUS.CYCLES 1600
  let s3 := s2.each (List.range 2) fun s p =>
    s.wr d R.LCK_CANARY_Pp.GROUPS (maskOf 16 fun g => groupPassed inp.canary p g) p
  (if bad.isNone then ocPass else ocCheck, s3.put d R.LCK_STATUS.CANARY_PASS bad.isNone)

/-- Where a slot begins in the NOR (R62). -/
def slotBase (b : Bool) : Nat := if b then 0x02000000 else 0x01000000

/-- The boot image in a slot: the bytes that the device has programmed there, or the image programmed from outside. -/
def State.slotImage (s : State) (l : Lane) (b : Bool) (out : BootImage) : BootImage :=
  let o := slotBase b
  if s.norOwn l o then
    let h := s.norBytes l o 4096
    parseBoot h (s.norBytes l (o + 4096) (min (leAt h 0x10 4) (7 * 2 ^ 20)))
  else out

/-- A range of bytes lies wholly in one memory that segments load to (R69). -/
def segRegion (a n : Nat) : Bool :=
  (decide (0x10000000 ≤ a) && decide (a + n ≤ 0x10080000)) || (decide (0x10080000 ≤ a) && decide (a + n ≤ 0x10100000))
    || rangeInSram a n

/-- An address lies in CP tightly coupled memory. -/
def inCpTcm (a : Nat) : Bool := decide (0x10080000 ≤ a) && decide (a < 0x10100000)

/-- The segments in use: length 0 marks an unused entry (R68). -/
def usedSegs (b : BootImage) : List (Nat × Nat × Nat) := b.segments.filter fun x => x.2.1 != 0

/-- The bytes of a segment. -/
def segBytes (b : BootImage) (x : Nat × Nat × Nat) : List Nat := fill x.2.1 (b.payload.drop x.2.2)

/-- The CP pair's segment: the first entry that loads into CP tightly coupled memory (R69). -/
def cpSegment (b : BootImage) : Option (Nat × Nat × Nat) := (usedSegs b).find? fun x => inCpTcm x.1

/-- The fields of a boot image's header keep the limits of R68. A loaded segment of the AP pair is one outside CP tightly
coupled memory (DEDUCED, log entry 44). -/
def bootHeadOk (b : BootImage) : Bool :=
  b.magic == 0x424F4F54 && b.format == 1 && decide (b.length ≤ 7 * 2 ^ 20) && decide (b.length % 4 = 0) && b.zero
    && (usedSegs b).any fun x => !inCpTcm x.1 && decide (x.1 ≤ b.entry) && decide (b.entry < x.1 + x.2.1)

/-- The segments of a boot image keep the rules of R69: inside one memory and the payload, without overlap, with a CP segment
whose first word names an address in CP tightly coupled memory. -/
def segmentsOk (b : BootImage) : Bool :=
  ((usedSegs b).all fun x => segRegion x.1 x.2.1 && decide (x.2.2 + x.2.1 ≤ b.length))
    && ((usedSegs b).zipIdx.all fun x => (usedSegs b).zipIdx.all fun y =>
      x.2 == y.2 || decide (x.1.1 + x.1.2.1 ≤ y.1.1) || decide (y.1.1 + y.1.2.1 ≤ x.1.1))
    && match cpSegment b with
      | some x => inCpTcm (leAt (segBytes b x) 0 4)
      | none => false

/-- The segments of a verified image in their memories, and the addresses at which the pairs begin (R69). -/
def State.loadImage (s : State) (l : Lane) (b : BootImage) : State :=
  (s.each (usedSegs b) fun s x => s.setBytes l x.1 (segBytes b x)).modStart l fun y =>
    { y with apEntry := b.entry, cpEntry := ((cpSegment b).map fun x => leAt (segBytes b x) 0 4).getD 0 }

/-- `ST06`: the boot image (R66, R68, R69, R80); a BLANK or SCRAP part has no usable slot (R442). -/
def State.st06 (s : State) (l : Lane) (inp : StartInputs) : Nat × State :=
  let d := laneDie l
  let b := match s.lampNow l with
    | some r => r.slotB
    | none => false
  let s1 := s.put d R.CFG_START_STATUS.SLOT b
  let im := s.slotImage l b inp.boot
  let c := if (s.nv l).lifecycle = 0 ∨ (s.nv l).lifecycle = 5 then ocAuth else s.signedCheck l im.keySlot inp.bootSig
  if c ≠ ocPass then (c, s1)
  else if !bootHeadOk im || !segmentsOk im then (ocCheck, s1)
  else
    let s2 := ((s1.loadImage l im).wr d R.CFG_IMAGE_VERSION.VERSION im.version).wr d R.CFG_KEY_STATUS.IMG_SLOT im.keySlot
    (passOr (s.prevFailed l 6 || s.prevRequest l), s2.modStart l fun x => { x with imageKeySlot := im.keySlot })

/-- A configuration copy lies in its area (R62, R65). -/
def copyPlaceOk (c : Nat × Nat) : Bool :=
  decide (c.1 % 65536 = 0) && decide (c.2 ≤ 131072) && decide (0x00020000 ≤ c.1) && decide (c.1 + c.2 ≤ 0x01000000)

/-- The fields of a headframe keep the limits of R65. -/
def headframeOk (h : Headframe) : Bool :=
  h.magic == 0x48444652 && h.format == 1 && h.lamp == (0x00010000, 0x00010000) && h.slots == (0x01000000, 0x02000000)
    && copyPlaceOk h.copy1 && copyPlaceOk h.copy2
    && (decide (h.copy1.1 + h.copy1.2 ≤ h.copy2.1) || decide (h.copy2.1 + h.copy2.2 ≤ h.copy1.1))
    && decide (h.emmcBase % 8192 = 0) && decide (50 ≤ h.emmcMhz) && decide (h.emmcMhz ≤ 200) && decide (25 ≤ h.xspiMhz)
    && decide (h.xspiMhz ≤ 200) && decide (4 ≤ h.xspiDummy) && decide (h.xspiDummy ≤ 30) && h.zero

/-- The headframe or its mirror: the bytes that the device has programmed there, or what was programmed from outside. -/
def State.headframe (s : State) (l : Lane) (mirror : Bool) (out : Headframe) : Headframe :=
  let o := if mirror then 4096 else 0
  if s.norOwn l o then parseHeadframe (s.norBytes l o 4096) else out

/-- `ST07`: the headframe (R65, R66, R80, R91). -/
def State.st07 (s : State) (l : Lane) (inp : StartInputs) : Nat × State :=
  let d := laneDie l
  let m := match s.lampNow l with
    | some r => r.mirror
    | none => false
  let s1 := s.put d R.CFG_START_STATUS.HF_MIRROR m
  let h := s.headframe l m inp.hf
  let c := s.signedCheck l h.keySlot inp.hfSig
  if c ≠ ocPass then (c, s1)
  else if !headframeOk h then (ocCheck, s1)
  else
    let s2 := ((s1.wr d R.CFG_KEY_STATUS.HF_SLOT h.keySlot).wr d R.NVM_XSPI_CFG.FREQ_MHZ h.xspiMhz).wr d
      R.NVM_XSPI_CFG.DUMMY h.xspiDummy
    (passOr m, ((s2.wr d R.NVM_EMMC_CFG.CLK_MHZ h.emmcMhz).wr d R.NVM_EMMC_BASE.SECTOR h.emmcBase).modStart l
      fun x => { x with copyOff := (h.copy1.1, h.copy2.1), copyLen := (h.copy1.2, h.copy2.2) })

/-- The header of an image matches its contents and its place (R71). -/
def imageHeadOk (im : Image) (mode : Nat) (place : Nat × Nat) : Bool :=
  im.magic == 0x4F564C59 && im.mode == mode && im.zero && im.nTriples == im.triples.length && im.nPatches == im.patches.length
    && im.nWords == patchWords im && decide (im.size ≤ place.2)

/-- The header of a container keeps the limits of R70. -/
def containerOk (c : Container) : Bool :=
  c.magic == 0x43464743 && c.format == 1 && decide (c.total ≤ 65536) && decide (c.application ≤ 1) && decide (c.arrangement ≤ 1)
    && decide (1 ≤ c.partnerWait) && decide (c.partnerWait ≤ 200) && decide (c.timeWait ≤ 200) && c.flagsZero && c.zero
    && (c.places.all fun p => decide (2048 ≤ p.1) && decide (p.1 + p.2 ≤ c.total))

/-- The container in a configuration copy: the bytes that the device has programmed there, or what was programmed from
outside. -/
def State.copyContainer (s : State) (l : Lane) (two : Bool) (out : Container) : Container :=
  let o := if two then (s.run l).start.copyOff.2 else (s.run l).start.copyOff.1
  if s.norOwn l o then parseContainer (s.norBytes l o 65536) else out

/-- A triple of a base image that `ST14` writes (R75): it addresses a Deputy register. -/
def isHeld (t : Triple) : Bool := t.addr / 65536 == 0x4015

/-- `ST08`: the container header and the base image (R70 to R75, R81). -/
def State.st08 (s : State) (l : Lane) (inp : StartInputs) : Nat × State :=
  let d := laneDie l
  let two := match s.lampNow l with
    | some r => r.copy2
    | none => false
  let s1 := s.put d R.CFG_START_STATUS.COPY two
  let c := s.copyContainer l two inp.container
  let v := s.signedCheck l c.keySlot inp.contSig
  if v ≠ ocPass then (v, s1)
  else if !containerOk c || !imageHeadOk c.base 0xFF (c.places.getD 0 (0, 0)) || !s.imageFits l true c.base then (ocCheck, s1)
  else
    let s2 := (s1.modStart l fun x => { x with container := some c, full := false }).writeImage l true
      { c.base with triples := c.base.triples.filter fun t => !isHeld t }
    let s3 := ((s2.wr d R.CFG_CONTAINER.APPLICATION c.application).wr d R.CFG_CONTAINER.ARRANGEMENT c.arrangement).put d
      R.CFG_CONTAINER.REDUCED_OK c.reducedOk
    let s4 := (s3.wr d R.CFG_VERSION.VERSION c.version).wr d R.CFG_KEY_STATUS.CFG_SLOT c.keySlot
    (passOr (s.prevFailed l 8 || s.prevFailed l 9),
      s4.when (s4.on d R.CFG_START_STATUS.REDUCED && !c.reducedOk) fun s => s.set d R.CFG_START_STATUS.SERVICE_ONLY)

/-- `ST09`: the eight overlays (R71, R73 to R75). -/
def State.st09 (s : State) (l : Lane) (inp : StartInputs) : Nat × State :=
  match (s.run l).start.container with
  | none => (ocCheck, s)
  | some c =>
    if inp.overlaysOk ∧ c.overlays.length = 8
        ∧ c.overlays.zipIdx.all (fun x => imageHeadOk x.1 x.2 (c.places.getD (x.2 + 1) (0, 0)) && s.imageFits l false x.1) then
      (passOr (s.prevFailed l 8 || s.prevFailed l 9),
        (s.modStart l fun x => { x with full := true }).each c.overlays.zipIdx fun s x =>
          (s.wr (laneDie l) R.CFG_OVLm_INFO.TRIPLES x.1.triples.length x.2).wr (laneDie l) R.CFG_OVLm_INFO.PATCH_WORDS
            (patchWords x.1) x.2)
    else (ocCheck, s)

/-- `ST10`: the eMMC, the calibration records and the ledger (R139, R146, R436). -/
def State.st10 (s : State) (l : Lane) (inp : StartInputs) : Nat × State :=
  let d := laneDie l
  let plain := s.prevFailed l 10
  let s1 := (((s.set d R.NVM_STATUS.EMMC_READY).set d R.NVM_EMMC_CFG.HS200).wr d R.NVM_STATUS.LIFE_A (inp.life % 16)).wr d
    R.NVM_STATUS.LIFE_B (inp.life / 16)
  let s2 := (s1.wr d R.NVM_STATUS.PRE_EOL (inp.life / 256)).each (List.range 76) fun s k => s.loadFactory l k
  let done := fun (s : State) => s.asyLoad l
  match plain, activeBank (s.calBanks l inp.banks) with
  | true, _ => (ocPassAlt, done (s2.set d R.CFG_START_STATUS.CAL_FACTORY))
  | false, none => (ocPass, done (s2.set d R.ADC_CAL_INFO.NO_BANK))
  | false, some b =>
    if b.crcOk then
      let good := b.records.filter fun x => CalRecord.ok x l
      let win := winners good
      let s3 := ((s2.wr d R.ADC_CAL_INFO.BANK b.pos).wr d R.ADC_CAL_INFO.RECORDS win.length).wrSat d R.ADC_CAL_INFO.REJECTED
        (b.records.length - good.length)
      (ocPass, done (s3.each win fun s x => s.loadRecord l x))
    else (ocCheck, s2)

/-! ## ST11 to ST13 -/

/-- A group passes its self-test: the averages of 64 results at each of three references lie within 24 LSB of the factory
values in each of its four slices (R147). -/
def groupPasses (inp : StartInputs) (g : Nat) : Bool :=
  (List.range 12).all fun k => inp.selfTest.all fun x =>
    x.1 != 12 * g + k || (decide (-(24 * 64) ≤ x.2) && decide (x.2 ≤ 24 * 64))

/-- A filter passes its self-test: it is disabled, or its modulator shows a clock edge and both data levels (R147, R148). -/
def State.filterPasses (s : State) (l : Lane) (inp : StartInputs) (n : Nat) : Bool :=
  let x := inp.sdfSeen.getD n (true, true, true)
  !s.on (laneDie l) R.SDF_Fn_CFG.EN n || (x.1 && x.2.1 && x.2.2)

/-- `ST11`: the converter self-test (R147). -/
def State.st11 (s : State) (l : Lane) (inp : StartInputs) : Nat × State :=
  let d := laneDie l
  let groups := (List.range 12).map fun g => b2n (groupPasses inp g) * 2 ^ g
  let filters := (List.range 12).map fun n => b2n (s.filterPasses l inp n) * 2 ^ n
  let s1 := ((s.wr d R.ADC_SELFTEST.GROUP_PASS groups.sum).wr d R.ADC_SELFTEST.SDF_PASS filters.sum).set d
    R.ADC_SELFTEST.DONE
  (if groups.sum = 4095 ∧ filters.sum = 4095 then ocPass else ocCheck, s1)

/-- `ST16` (R168): every enabled position channel meets its condition; the step waits for them up to its bound. -/
def State.st16 (s : State) (l : Lane) (inp : StartInputs) : Nat × State :=
  let d := laneDie l
  let res := (List.range 2).all fun n => !s.on d R.POS_RESn_CFG.EN n || s.on d R.POS_RESn_STATUS.VALID n
  let pt := (List.finRange 6).all fun p =>
    (s.ptMode l p).isNone || (!s.on d R.POS_PTp_STATUS.ERR_FAULT p && !inp.unstable.contains p)
  let sent := (List.finRange 4).all fun n =>
    !s.on d R.POS_SENTs_CFG.EN n || !s.on d R.POS_SENTs_CFG.REQUIRED n || ((s.run l).pos.sent[n]).got
  (if res && pt && sent then ocPass else ocNone, s)

/-- `ST12`: compare with the record of the last training, or train every enabled link (R239, R240). -/
def State.st12 (s : State) (l : Lane) : Nat × State :=
  let d := laneDie l
  if !s.depOn then (ocHw, s)
  else if s.hoist.lock.isSome then (ocNone, s)
  else if s.hoist.recordValid then (if s.hlkMatches l then ocPass else ocCheck, s)
  else if s.rd d R.HLK_TRAIN_STATUS.RESULT = 2 then (ocHw, s)
  else if s.rd d R.HLK_TRAIN_STATUS.RESULT ≠ 0 then (ocCheck, s)
  else
    let s1 := (s.trainBegin l).trainEnd
    (if s1.hoist.lock.isSome then ocNone else ocPass, s1)

/-- A half-bridge passes `ST13` (R245): both gates read off, the bootstrap at 9.0 V or more, GL on and off again within
`T_WAIT`. -/
def State.hbPasses (s : State) (l : Lane) (n : Nat) (x : HbCheck) : Bool :=
  let d := papDie l
  let off := fun (v : Nat) => decide (2 * v ≤ 10 + 5 * s.rd d R.PAP_HBn_CFG.VOFF n)
  let wait := orOne (s.rd d R.PAP_HBn_CFG.T_WAIT n)
  off x.gh && off x.gl && decide (90 ≤ x.bst) && decide (40 + 5 * s.rd d R.PAP_HBn_CFG.VON n ≤ x.glOn) && off x.glOff
    && decide (x.onAfter ≤ wait) && decide (x.offAfter ≤ wait)

/-- `ST13`: the checks of the enabled half-bridges (R245), with what they measure (R247). -/
def State.st13 (s : State) (l : Lane) (inp : StartInputs) : Nat × State :=
  let d := papDie l
  let ns := (List.range 16).filter fun n => s.on d R.PAP_HBn_CFG.EN n
  let vgd := decide (100 ≤ inp.vgd) && decide (inp.vgd ≤ 150)
  let ok := ns.all fun n => s.hbPasses l n (inp.hbs.getD n {})
  let s1 := (s.put d R.PAP_PD_STATUS.VGD_OK vgd).each ns fun s n =>
    let x := inp.hbs.getD n {}
    ((s.wrSat d R.PAP_HBn_MEAS.BST x.bst n).wrSat d R.PAP_HBn_MEAS.VGH x.gh n).wrSat d R.PAP_HBn_MEAS.VGL x.glOff n
  if ns.isEmpty || (vgd && ok) then (ocPass, s1.set d R.PAP_PD_STATUS.ST13_PASS)
  else (if vgd then ocCheck else ocHw, s1.clr d R.PAP_PD_STATUS.ST13_PASS)

/-! ## ST14: the handshake (R38, R75, R276, R333, R334, R344, R347, R351) -/

/-- The Deputy triples of a lane's base image. -/
def State.heldTriples (s : State) (l : Lane) : List Triple :=
  match (s.run l).start.container with
  | some c => c.base.triples.filter isHeld
  | none => []

/-- A register of the other lane's window at the Deputy (R331). -/
def otherWindow (l : Lane) (a : Nat) : Bool :=
  decide (0x40150100 ≤ a) && decide (a < 0x40150180) && decide ((a - 0x40150100) / 0x40 ≠ l.idx.val)

/-- The Deputy's registers as the lane's configuration writes them (R38, R276, R351): the held triples, the copies of
`NRG_OV2`, `NRG_OV3` and `NRG_CHOP`, and the arrangement. -/
def State.writeHeld (s : State) (l : Lane) : State :=
  let d := laneDie l
  let s1 := s.each (s.heldTriples l) fun s t => if otherWindow l t.addr then s else s.applyTriple l true t
  (((s1.wr .ds R.DSP_OV2.VALUE (s.regWord l d 0x400A0014)).wr .ds R.DSP_OV3.VALUE (s.regWord l d 0x400A0018)).wr .ds
    R.DSP_CHOP.VALUE (s.regWord l d 0x400A0020)).wr .ds R.DSP_CTRL.ARRANGEMENT (s.rd d R.CFG_CONTAINER.ARRANGEMENT)

/-- The lane completes its handshake: its monitor is armed (not that of lane B in the single-lane arrangement), the lane
takes over what the Deputy has declared, the test rounds begin (R27, R334, R347). -/
def State.handshake (s : State) (l : Lane) : State :=
  let first := !s.dep.firstHandshake
  let s1 := (s.set .ds (handFld l)).put .ds R.DSP_Lx_STATUS.ARMED (!(s.single && l == .b)) l.idx
  let s2 := s1.modDepLane l fun x => { x with hb := { first := true, since := s.now } }
  let s3 := (s2.modSup l fun x =>
    { x with lost := s.rd .ds R.DSP_OUTCOME.LOST, seenAt := s.now, suspectAt := none }).put (laneDie l) R.CFG_SEAL.DEPUTY_SEALED
    (s.on .ds R.DSP_SEAL.SEALED)
  let p := s.rd .ds R.DSP_SO_TEST.PERIOD
  let s4 := s3.modDep fun d =>
    { d with
      firstHandshake := true, startTest := d.startTest || (first && s.on .ds R.DSP_SO_TEST.AT_START)
      roundDue := if s.on .ds R.DSP_SEAL.SEALED ∧ d.roundDue.isNone ∧ p ≠ 0 then some (s.now + p * sec) else d.roundDue }
  s4.syncImposed.syncSto.syncChs.syncMaster

/-- `ST14` (R351): before the Deputy is sealed the lane writes, afterwards it compares. -/
def State.st14 (s : State) (l : Lane) : Nat × State :=
  if !s.depOn then (ocHw, s)
  else
    let w := s.writeHeld l
    let s1 := if s.on .ds R.DSP_SEAL.SEALED then s else w
    let same := !s.on .ds R.DSP_SEAL.SEALED || decide (w.regs = s.regs)
    let window := decide (s1.rd .ds R.DSP_Lx_HB_CFG.OPEN l.idx + 10 ≤ s1.rd .ds R.DSP_Lx_HB_CFG.CLOSE l.idx)
    let force := decide (s1.rd (papDie l) R.PAP_BRK_CFG.FORCE = s1.rd .ds R.DSP_SS_CFG.FORCE)
    if same && window && force then (ocPass, s1.handshake l) else (ocCheck, s1)

/-! ## ST15, ST18 and ST19 -/

/-- `ST15` (R75, R77, R307): skipped in the single-lane arrangement; the configuration versions are compared once the
partner's `STATE` has come; the link is up once both have. -/
def State.st15 (s : State) (l : Lane) : Nat × State :=
  if s.singleCfg l then (ocSkipped, s)
  else if s.on (laneDie l) R.LNK_STATUS.LINK_UP then (ocPass, s)
  else if (s.run l).link.stateSeen && (s.run l).link.partnerVersion != s.rd (laneDie l) R.CFG_VERSION.VERSION then
    (ocCheck, s)
  else (ocNone, s)

/-- The elapsed time that the Deputy has published, copied (R102), with source 1 where it is available. Its epoch counts
from the end of Parked (DEDUCED, log entry 25). -/
def State.copyElapsed (s : State) (l : Lane) : State :=
  let d := laneDie l
  let e : Nat := s.rd .ds R.DSP_PK_ELAPSED_LO.TIME + s.rd .ds R.DSP_PK_ELAPSED_HI.TIME * 2 ^ 32
  let u := s.rd .ds R.DSP_PK_UNC.US
  let s1 := (((((s.wr d R.TIM_ELAPSED_LO.TIME (e % 2 ^ 32)).wr d R.TIM_ELAPSED_HI.TIME (e / 2 ^ 32)).wr d
    R.TIM_ELAPSED_UNC.US u).wr d R.TIM_ELAPSED_INFO.VALID (s.rd .ds R.DSP_PK_INFO.VALID)).wr d
    R.TIM_ELAPSED_INFO.SRC_CHANGE (s.rd .ds R.DSP_PK_INFO.SRC_CHANGE)).wr d R.TIM_ELAPSED_INFO.SOURCE
    (s.rd .ds R.DSP_PK_INFO.SOURCE)
  let s1 := s1.wr d R.TIM_LFO_EST.MHZ (s.rd .ds R.DSP_PK_FREQ.MHZ)
  let n : Nat := s.rd .ds R.DSP_PK_NET_LO.TIME + s.rd .ds R.DSP_PK_NET_HI.TIME * 2 ^ 32
  let sum := u + s.rd .ds R.DSP_PK_NET_UNC.US
  let src := if s.on .ds R.DSP_PK_INFO.VALID ∧ sum ≤ 0xFFFFFFFE then
    some (ux 64 ((n : Int) + (e : Int) - (s.laneTime l : Int)), sum) else none
  s1.modClk l fun c => { c with elapsed := src }

/-- The time wait of the container, in units of 10 ms. -/
def State.timeWait (s : State) (l : Lane) : Nat :=
  match (s.run l).start.container with
  | some c => c.timeWait
  | none => 0

/-- `ST18` without a source (R75). -/
def State.noTime (s : State) (l : Lane) : Nat × State := (ocSkipped, s.set (laneDie l) R.CFG_START_STATUS.TIME_UNKNOWN)

/-- `ST18` (R99, R102). -/
def State.st18 (s : State) (l : Lane) : Nat × State :=
  let s1 := (if s.depOn then s.copyElapsed l else s).timeBest l
  if s1.rd (laneDie l) R.TIM_QUAL.SOURCE ≠ 0 then (ocPass, s1)
  else if s1.timeWait l = 0 then s1.noTime l
  else (ocNone, s1)

/-- The Deputy seals its RWS registers as the first lane completes `ST19` (R76, R347). -/
def State.sealDeputy (s : State) (l : Lane) : State :=
  if s.depOn && !s.on .ds R.DSP_SEAL.SEALED then
    let p := s.rd .ds R.DSP_SO_TEST.PERIOD
    let s1 := ((s.set .ds R.DSP_SEAL.SEALED).wr .ds R.DSP_SEAL.SEALER l.idx).modDep fun d =>
      { d with roundDue := if p = 0 then none else some (s.now + p * sec) }
    s1.each lanes fun s x => s.when (s.alive x) fun s => s.set (laneDie x) R.CFG_SEAL.DEPUTY_SEALED
  else s

/-- Some lane has completed `ST19` since the last wake or since island S qualified; without the Deputy, a partner that
runs has (R81). -/
def State.someStarted (s : State) (l : Lane) : Bool :=
  if s.depOn then lanes.any fun x => (s.depLane x).st19 else s.running l.other

/-- Both lanes end `ST19` in the same Deputy cycle, lane B's command first: lane A sets the mode (R81). -/
def State.modeTie (s : State) (l : Lane) : Bool :=
  l == .a && s.depOn && s.dep.modeAt == some s.depTime && !(s.depLane .a).st19

/-- The mode that a lane takes up at the end of `ST19`, and whether it sets it (R81). -/
def State.startMode (s : State) (l : Lane) : Nat × Bool :=
  if s.someStarted l && !s.modeTie l then (if s.depOn then s.rd .ds R.DSP_MODE.MODE else s.modeOf l.other, false)
  else (if s.on (laneDie l) R.CFG_START_STATUS.SERVICE_ONLY then modeService else modeReady, true)

/-- A lane takes up a mode with its overlay (R81). -/
def State.takeUp (s : State) (l : Lane) (m : Nat) : State :=
  (s.applyImage l (s.overlayOf l m)).wr (laneDie l) R.CFG_MODE.MODE m

/-- The end of `ST19` (R18, R26, R76, R81, R300, R308, R469): the seal, the mode with its overlay, the role, and the lane's
return to the Deputy's grant logic. -/
def State.startDone (s : State) (l : Lane) : State :=
  let d := laneDie l
  let m := s.startMode l
  let s1 := ((s.set d R.CFG_SEAL.SEALED).set d R.CFG_START_STATUS.DONE).sealDeputy l
  let s2 := s1.when (m.2 && s1.depOn) fun s => (s.wr .ds R.DSP_MODE.MODE m.1).modDep fun x =>
    { x with modeAt := if l = .b then some s.depTime else none }
  let s3 := (s2.takeUp l m.1).wr d R.CFG_MODE.PREVIOUS (if m.2 then modeParked else 0)
  let s3 := s3.when (s.modeTie l && s3.modeOf .b != m.1) fun s => s.takeUp .b m.1
  let s4 := (s3.when (modeArms m.1) fun s => s.set (papDie l) R.LVP_KEEP_CTRL.ARM).modPap l fun p => { p with ownedOff := false }
  let s4 := s4.redriveAll l
  let s5 := s4.when s4.depOn fun s =>
    ((s.set .ds R.DSP_Lx_STATUS.DONE l.idx).modDepLane l fun x =>
      { x with st19 := true, service := s.on d R.CFG_START_STATUS.SERVICE_ONLY }).when
        (!(lanes.any fun x => (s4.depLane x).st19)) State.checkIslands
  (((s5.setRole l roleCold).nrgMode l).actSync l).when s5.depOn fun s => s.syncSto.syncChs.syncImposed.grantLogic.syncMaster

/-! ## The run through the steps -/

/-- `ST01` (R11, R75): the lane die leaves reset; its registers hold their Reset entries and its memories zero, whatever was
put into the die while it was held. -/
def State.st01 (s : State) (l : Lane) : State :=
  ((s.modRun l fun r => { LaneRun.init with phase := r.phase, start := { StartSt.init with stepAt := r.start.stepAt } }).resetRegs
    (laneDie l) true).wr (laneDie l) R.CFG_START_STATUS.STEP 1

/-- What a step does when its media and tests answer well; `ocNone` where it still waits. -/
def State.stepBody (s : State) (l : Lane) (inp : StartInputs) (n : Nat) : Nat × State :=
  match n with
  | 0 => (ocPass, s.vrcStart l)
  | 1 => (ocPass, s.st01 l)
  | 2 => s.st02 l inp
  | 3 => s.st03 l
  | 4 => s.st04 l inp
  | 6 => s.st06 l inp
  | 7 => s.st07 l inp
  | 8 => s.st08 l inp
  | 9 => s.st09 l inp
  | 10 => s.st10 l inp
  | 11 => s.st11 l inp
  | 12 => s.st12 l
  | 13 => s.st13 l inp
  | 14 => s.st14 l
  | 15 => s.st15 l
  | 16 => s.st16 l inp
  | 18 => s.st18 l
  | _ => (ocPass, s)

/-- A step's outcome (R75): `ocNone` while it waits. -/
def State.stepRun (s : State) (l : Lane) (inp : StartInputs) (n : Nat) : Nat × State :=
  match inp.steps.getD n .pass with
  | .wait => (ocNone, s)
  | .fail c => (if ocFails c then c else ocCheck, s)
  | .pass => s.stepBody l inp n

/-- What begins at the end of a step: lane time (R98), the Assay (R427), the engine, the timebases and the channels (R172,
R220), the power path and the actuator boost (R293, R299), and the mode (R81). -/
def State.stepAfter (s : State) (l : Lane) (n : Nat) : State :=
  let d := laneDie l
  match n with
  | 3 => s.modClk l fun c => { c with t0 := some s.now }
  | 8 => s.each (List.finRange 8) fun s n => s.when (s.on d R.TIM_Tn_CFG.EN n) fun s => s.timEnable l n
  | 10 => s.asySync l
  | 11 =>
    let s1 := (s.posStart l).ceStart l
    let s2 := s1.each (List.finRange 8) fun s t => s.when (s.on d R.PWM_TBt_CFG.EN t) fun s => s.startTb l t
    (s2.each allCh fun s c => s.when (s.on d R.PWM_CHc_CFG.EN c) fun s => s.enableCh l c true).tripsStart l
  | 13 => (s.when (s.on (papDie l) R.LVP_CTRL.EN) fun s => s.goPath l pathBatt pairDischarge).actSync l
  | 19 => s.startDone l
  | _ => s

/-- A step begins (R75, R78): the lane's phase, the step's number, the entered marker; `ST02` opens the record. -/
def State.stepEnter (s : State) (l : Lane) (n : Nat) : State :=
  let s1 := ((s.setPhase l (.starting n)).modStart l fun x => { x with stepAt := s.now }).wr (laneDie l) R.CFG_START_STATUS.STEP n
  if n < 2 then s1 else if n = 2 then s1.openRecord l else s1.modLamp l fun r => { r with entered := n }

/-- The start ends (R80): the lane is wiped and reset, and begins the next start. -/
def State.startFails (s : State) (l : Lane) : State := s.resetIsland l .held

/-- A step ends with an outcome (R78, R80, R82): whether the start goes on, and the state. A failed mandatory step ends it,
but for one that has failed three times before and that the lane can do without; after the third failure of `ST06` the
boot ROM stays in its loader. A failed `ST01` opens the record that counts it (DEDUCED, log entry 32); `ST00` leaves none. -/
def State.stepEnd (s : State) (l : Lane) (n code : Nat) : Bool × State :=
  let before := s.failCount l n
  let s1 :=
    if n = 0 then s
    else if n = 1 then (if ocFails code then ((s.openRecord l).modLamp l fun r => { r with entered := 1 }).lampOutcome l 1 code else s)
    else s.lampOutcome l n code
  if ocFails code ∧ stepMandatory n ∧ !(!stepExempt n ∧ before = 3) then
    (false, if n = 6 ∧ 2 ≤ before then s1.setPhase l .loader else s1.startFails l)
  else (true, (s1.setPhase l (if n = 19 then .running else .starting (n + 1))).stepAfter l n)

/-- The steps from `n` on, at most `k` of them, until one waits or ends the start. -/
def runSteps (l : Lane) (inp : StartInputs) : Nat → Nat → State → State
  | 0, _, s => s
  | k + 1, n, s =>
    let r := s.stepRun l inp n
    if r.1 = ocNone then r.2
    else
      let e := r.2.stepEnd l n r.1
      if e.1 ∧ n < 19 then runSteps l inp k (n + 1) (e.2.stepEnter l (n + 1)) else e.2

/-- Step `n` ends with an outcome given from outside, and the start goes on. -/
def State.stepForced (s : State) (l : Lane) (inp : StartInputs) (n code : Nat) : State :=
  let e := s.stepEnd l n code
  if e.1 ∧ n < 19 then runSteps l inp 20 (n + 1) (e.2.stepEnter l (n + 1)) else e.2

/-- The bound of a step in 10 ns (R75); that of `ST18` comes on top of the time wait. -/
def stepBound (erased : Bool) (n : Nat) : Nat :=
  match n with
  | 0 => 5 * ms | 1 => 120 * 1000 | 2 => if erased then 200 * ms else 50000 | 3 => 20000 | 4 => 20 * us | 5 => 8 * ms
  | 6 => 40 * ms | 7 => 3 * ms | 8 => 3 * ms | 9 => 2 * ms | 10 => 40 * ms | 11 => 5 * ms | 12 => 12 * ms | 13 => 2 * ms
  | 14 => ms | 15 => 5 * ms | 16 => 20 * ms | 17 => 5 * ms | 18 => 10000 | _ => 50000

/-- The instant at which step `n` has not ended within its bound (R75): `ST15` has 5 ms from the partner's answer, `ST18` the
time wait and 0.1 ms. -/
def State.stepLimit (s : State) (l : Lane) (n : Nat) : Nat :=
  let x := (s.run l).start
  let from_ := if n = 15 then max x.stepAt (x.answerAt.getD x.stepAt) else x.stepAt
  from_ + stepBound (s.rd (laneDie l) R.CFG_LAMP_SEQ.SEQ % 64 == 0) n + (if n = 18 then s.timeWait l * 10 * ms else 0)

/-- `LANE_START` (R75, R468): a lane that is Off starts on the Deputy's start command, one that is held in reset starts at
once, and a start that waits goes on with what has been answered since. -/
def execLaneStart (l : Lane) (inp : StartInputs) (s : State) : Out :=
  .next (match (s.run l).phase with
    | .off => if s.depOn && s.dep.startCmd && s.island l then
        runSteps l inp 20 0 ((s.set (papDie l) R.PAP_RESET_CAUSE.OFF).stepEnter l 0) else s
    | .held => if s.island l then runSteps l inp 20 0 (s.stepEnter l 0) else s
    | .starting n => runSteps l inp 20 n s
    | _ => s)

/-- `START_STEP_TIMEOUT` (R75): `FAIL_TIMEOUT` at the step's bound; an `ST15` without an answer waits for the end of the partner
wait (R77). An `ST16` whose channels have not met their conditions ends with `FAIL_CHECK` (R168). -/
def execStartStepTimeout (l : Lane) (inp : StartInputs) (s : State) : Out :=
  .next (match (s.run l).phase with
    | .starting n =>
      if n = 15 ∧ (s.run l).link.stateSeen = false then s else
        (s.advTo (s.stepLimit l n)).stepForced l inp n
          (if n = 16 ∧ inp.steps.getD n .pass = .pass ∧ (s.st16 l inp).1 = ocNone then ocCheck else ocTimeout)
    | _ => s)

/-- `PARTNER_WAIT_EXPIRY` (R75, R77): the partner has stayed silent. -/
def execPartnerWaitExpiry (l : Lane) (inp : StartInputs) (s : State) : Out :=
  .next (match (s.run l).phase with
    | .starting 15 =>
      if (s.run l).link.stateSeen then s else
      let w := match (s.run l).start.container with
        | some c => c.partnerWait
        | none => 1
      ((s.advTo ((s.run l).start.stepAt + w * 10 * ms)).set (laneDie l) R.CFG_START_STATUS.PARTNER_ABSENT).stepForced l inp 15
        ocSkipped
    | _ => s)

/-- `TIME_WAIT_EXPIRY` (R75). -/
def execTimeWaitExpiry (l : Lane) (inp : StartInputs) (s : State) : Out :=
  .next (match (s.run l).phase with
    | .starting 18 =>
      let r := (s.advTo ((s.run l).start.stepAt + s.timeWait l * 10 * ms)).noTime l
      r.2.stepForced l inp 18 r.1
    | _ => s)

/-! ## Requests of firmware (R67, R90) -/

/-- `BOOT_NEXT` (R90). -/
def execBootNext (l : Lane) (slot : Fin 4) (s : State) : Out :=
  .next (if s.writable l then s.bootNext l slot else s)

/-- `KEY_REVOKE` (R67): the OTP takes the revocation, which the next `ST02` reads. -/
def execKeyRevoke (l : Lane) (slot : Fin 4) (key : Nat) (s : State) : Out :=
  let d := laneDie l
  let n := s.nv l
  .next (if !s.writable l then s
    else if key = 0x5EA1 ∧ (s.run l).start.imageKeySlot ≠ slot.val
        ∧ (List.range 4).any fun k => k != slot.val && bit n.keyProg k && !bit n.keyRevoked k then
      (s.modNv l fun n => { n with keyRevoked := setBit n.keyRevoked slot.val }).set d R.CFG_KEY_STATUS.REVOKE_DONE
    else s.set d R.CFG_KEY_STATUS.REVOKE_ERR)

/-! ## The loader (R82) -/

/-- A lane's loader changed by `f`. -/
def State.modLoader (s : State) (l : Lane) (f : LoaderSt → LoaderSt) : State :=
  s.modStart l fun x => { x with loader := f x.loader }

/-- `LOADER_BLOCK_START` (R82): the block named opens, and a block still open is discarded. -/
def execLoaderBlockStart (l : Lane) (block crc : Nat) (s : State) : Out :=
  .next (if (s.run l).phase == .loader then
    s.modLoader l fun x => { x with opened := some (block % 65536, low 32 crc), pieces := [] }
  else s)

/-- The pieces of a block with one more: a repeated frame replaces the earlier one (R82). -/
def putPiece (f : Nat) (bs : List Nat) (ps : List (Nat × List Nat)) : List (Nat × List Nat) :=
  (f, bs) :: ps.filter fun p => p.1 != f

/-- The 4,096 bytes of a block from its pieces: six of each frame, four of the last (R82). -/
def blockBytes (ps : List (Nat × List Nat)) : List Nat :=
  (List.range 683).flatMap fun f =>
    match ps.find? fun p => p.1 == f with
    | some p => (p.2 ++ List.replicate 6 0).take (if f = 682 then 4 else 6)
    | none => List.replicate 6 0

/-- The ROM answers a block (R82). -/
def State.loaderAnswer (s : State) (l : Lane) (block status : Nat) (f : LoaderSt → LoaderSt) : State :=
  s.modLoader l fun x => f { x with opened := none, pieces := [], lastStatus := status, answered := block }

/-- The checks of block 0, a boot header (R68, R82): its signature and its fields; the hashes of the segments come later. -/
def State.loaderHeadOk (s : State) (l : Lane) (h : BootImage) (m : LoaderMedia) : Bool :=
  decide (s.signedCheck l h.keySlot { m.sig with hashesOk := true } = ocPass) && bootHeadOk h

/-- A block that stands: the first erases slot A, every block is programmed into it, and the last one ends the session
(R82). -/
def State.loaderStore (s : State) (l : Lane) (block : Nat) (bs : List Nat) (len : Nat) (m : LoaderMedia) : State :=
  let s0 := s.when (block == 0) fun s => s.norErase l (slotBase false) (slotBase true)
  if !m.programmed then s0.loaderAnswer l block 4 id
  else
    let s1 := s0.norProgram l (slotBase false + 4096 * block) bs
    if block < ceilDiv len 4096 then
      s1.loaderAnswer l block 0 fun y => { y with expected := block + 1, payload := len }
    else if m.imageOk then (s1.resetIsland l .held).loaderAnswer l block 5 id
    else s1.loaderAnswer l block 6 fun y => { y with expected := 0, payload := 0 }

/-- The ROM judges a block that has all its frames (R82): block 0 by its header (R66, R68), after which slot A is erased; a
block that it accepts is programmed into slot A (that block 0 is too is DEDUCED, log entry 44). -/
def State.loaderJudge (s : State) (l : Lane) (block crc : Nat) (m : LoaderMedia) : State :=
  let x := (s.run l).start.loader
  let bs := blockBytes x.pieces
  let h := parseBoot bs []
  if crc32c bs ≠ crc then s.loaderAnswer l block 1 id
  else if block ≠ x.expected then s.loaderAnswer l block 2 id
  else if block = 0 ∧ !s.loaderHeadOk l h m then
    s.loaderAnswer l block 3 id
  else s.loaderStore l block bs (if block = 0 then h.length else x.payload) m

/-- `LOADER_DATA` (R82): the ROM judges the block once all 683 frames have come. -/
def execLoaderData (l : Lane) (frame : Nat) (bytes : List Nat) (media : LoaderMedia) (s : State) : Out :=
  .next (match (s.run l).phase, (s.run l).start.loader.opened with
    | .loader, some (block, crc) =>
      if frame < 683 then
        let s1 := s.modLoader l fun x => { x with pieces := putPiece frame bytes x.pieces }
        if (s1.run l).start.loader.pieces.length = 683 then s1.loaderJudge l block crc media else s1
      else s
    | _, _ => s)

end Sys2Proof.Machine
end

