-- ==== Sys2Proof/Machine/Supplies.lean ====
section
/-!
DEFINITION. The commands of the supplies, `VKEEP`, `nRESET_x`, the wake inputs and the Deputy's oscillators (R55, R84, R101,
R300, R329, R330, R454).
-/
namespace Sys2Proof.Machine

/-- `ISLAND_SUPPLY_RISE` (R454): the die qualifies every supply of its island. It runs on `VBAT_x` from then on; a lane
whose start command stands, or that a supply fault has taken down, starts by a `LANE_START` of its own (R468). No island
has a supply in Storage (R301). -/
def execIslandSupplyRise (l : Lane) (s : State) : Out :=
  let d := papDie l
  .next (if s.island l || s.storage || (s.pap l).shutdown then s
    else
      let s1 := ((s.setIsland l true).setSupplies l 0x3FF).modPap l fun p => { p with powered := true }
      (((s1.set d R.PAP_RESET_CAUSE.SUPPLY).wr d R.PAP_SUP_STATUS.OK
        (0x1F + b2n s.sup.vkeep * 0x80)).wr d R.PAP_SUP_STATUS.IO_OK 0x1F).set d
        R.PAP_STATUS.SUP_OK)

/-- `ISLAND_SUPPLY_FAULT` (R454, R372). -/
def execIslandSupplyFault (l : Lane) (sup : IslandSupply) (s : State) : Out := .next (s.islandFault l sup)

/-- `ISLAND_S_QUALIFY` (R330): at 9.0 V on either feed; an island S that was removed with a lane island powered waits until
neither is. -/
def execIslandSQualify (wake0 wake1 : Bool) (vbatA vbatB vso : Nat) (s : State) : Out :=
  .next (if s.depOn || s.storage || s.dep.coolAt.isSome || (vbatA < 9000 && vbatB < 9000)
      || (s.dep.phase == .removed && ((s.pap .a).powered || (s.pap .b).powered)) then s
    else s.depQualify wake0 wake1 vbatA vbatB vso)

/-- `ISLAND_S_LOST` (R330): with both feeds gone the island may qualify again at their return; a loss with a lane island
powered is an internal fault, after which it holds itself removed. -/
def execIslandSLost (s : State) : Out :=
  .next (if s.depOn then
    s.depGone (if (s.pap .a).powered || (s.pap .b).powered then .removed else .unpowered)
  else s)

/-- The keeper fields of `LVP_KEEP_CTRL` and `LVP_KEEP_STATUS`. -/
def keeperFlds : List Fld :=
  [R.LVP_KEEP_CTRL.ARM, R.LVP_KEEP_STATUS.BTN, R.LVP_KEEP_STATUS.PRESS_SHORT, R.LVP_KEEP_STATUS.PRESS_8S,
   R.LVP_KEEP_STATUS.PRESS_20S, R.LVP_KEEP_STATUS.STORAGE_EXIT, R.LVP_KEEP_STATUS.REFUSED,
   R.LVP_KEEP_STATUS.LAST_PRESS]

/-- Both keepers with nothing under way and their kept fields as `VKEEP` leaves them when it rises (R300, R303). -/
def State.keepersReset (s : State) : State :=
  (s.each lanes fun s l =>
    (s.modPap l fun p => { p with keeper := KeeperSt.init }).each keeperFlds fun s f => s.wr (papDie l) f f.rst)

/-- `VKEEP` in the supply status of the powered dies (R392, R454). -/
def State.vkeepShow (s : State) (on : Bool) : State :=
  s.each lanes fun s l => s.when (s.pap l).powered fun s =>
    let s1 := s.wrBit (papDie l) R.PAP_SUP_STATUS.OK 7 on
    if on then s1 else (s1.wrBit (papDie l) R.PAP_SUP_STATUS.FALL 7 true).inc (papDie l) R.PAP_CNT.SUP_FALL

/-- `VKEEP_RISE` (R300, R301): the keepers set `ARM`; neither coil drive is pulsed. -/
def execVkeepRise (s : State) : Out :=
  .next (if s.sup.vkeep then s
    else { s.keepersReset.vkeepShow true with sup := { s.sup with vkeep := true }, storage := false })

/-- `VKEEP_LOSS` (R454): the keeper state is lost, Storage with it. -/
def execVkeepLoss (s : State) : Out :=
  .next (if s.sup.vkeep then { s.keepersReset.vkeepShow false with sup := { s.sup with vkeep := false }, storage := false } else s)

/-- A low pulse of `ns` on a reset input acts (R55): from 1 us on always, below 200 ns never, in between as a free value
decides. -/
def lowActs (ns k : Nat) : Bool := decide (1000 ≤ ns) || (decide (200 ≤ ns) && Config.freeChoice k)

/-- `NRESET_LOW` (R55, R392): the lane die and the non-keeper logic of its power-and-analog die are reset; a lane that was
not Off restarts from `ST00` at once (R468). -/
def execNresetLow (l : Lane) (ns : Nat) (s : State) : Out :=
  let s1 := if 200 ≤ ns ∧ ns < 1000 then { s with freeIdx := s.freeIdx + 1 } else s
  .next (if s.island l && lowActs ns s.freeIdx then
    (s1.set (papDie l) R.PAP_RESET_CAUSE.NRESET).resetIsland l (if (s.run l).phase = .off then .off else .held)
  else s1)

/-- `WAKE_INPUT` (R84): a wake input that is enabled and has been active for its filter time starts both lanes from Parked;
the filtered level shows in every mode. -/
def execWakeInput (pin : Fin 2) (s : State) : Out :=
  let en := if pin = 0 then R.DSP_WAKE_CFG.WAKE0_EN else R.DSP_WAKE_CFG.WAKE1_EN
  let lvl := if pin = 0 then R.DSP_WAKE_STATUS.WAKE0 else R.DSP_WAKE_STATUS.WAKE1
  .next (if s.depOn && s.on .ds en then (s.set .ds lvl).wake (pin == 0) (pin == 1) false else s)

/-- `DEPUTY_OSC_CORRECTION` (R101): once a second the count so far enters the elapsed time at the estimate in force, and the
corrected estimate takes its place. -/
def execDeputyOscCorrection (freq : Nat) (s : State) : Out :=
  .next (if s.depOn && s.dep.oscOn && !s.on .ds R.DSP_PK_INFO.SOURCE then
    let c := s.oscCount
    (c.2.oscPiece c.1).wr .ds R.DSP_PK_FREQ.MHZ freq
  else s)

/-- `DEPUTY_OSC_SOURCE_CHANGE` (R101): both counts are recorded, and counting goes on on the RC oscillator. -/
def execDeputyOscSourceChange (s : State) : Out :=
  .next (if s.depOn && s.dep.oscOn && !s.on .ds R.DSP_PK_INFO.SOURCE then
    let c := s.oscCount
    let s1 := (c.2.oscPiece c.1).wr .ds R.DSP_PK_CHANGE.COUNT c.1
    let s2 := s1.modDep fun d => { d with oscD1 := d.oscElapsed, oscF1 := s1.rd .ds R.DSP_PK_FREQ.MHZ }
    (((s2.oscStart.2).set .ds R.DSP_PK_INFO.SRC_CHANGE).set .ds
      R.DSP_PK_INFO.SOURCE).clr .ds R.DSP_OSC.OK
  else s)

/-- `DEPUTY_OSC_REMOVAL` (R329): the Deputy removes itself while either lane is powered. -/
def execDeputyOscRemoval (s : State) : Out :=
  .next (if s.depOn && ((s.run .a).phase != .off || (s.run .b).phase != .off) then s.depGone .removed else s)

end Sys2Proof.Machine
end

