-- ==== Sys2Proof/Machine/Dispatch.lean ====
section
/-!
DEFINITION. One arm per command: a direct call of its meaning. `exec c s` is the command's effect on everything but the
queue of waiting commands.
-/
namespace Sys2Proof.Machine

def exec (i : Instr) (s : State) : Host.Outcome State Fault Refusal :=
  match i with
  | .registerWrite l who width addr value => Sys2Proof.Machine.execRegisterWrite l who width addr value s
  | .readLowWordLatch l who width addr => Sys2Proof.Machine.execReadLowWordLatch l who width addr s
  | .islandSupplyRise l => Sys2Proof.Machine.execIslandSupplyRise l s
  | .islandSupplyFault l sup => Sys2Proof.Machine.execIslandSupplyFault l sup s
  | .islandSQualify wake0 wake1 vbatA vbatB vso => Sys2Proof.Machine.execIslandSQualify wake0 wake1 vbatA vbatB vso s
  | .islandSLost => Sys2Proof.Machine.execIslandSLost s
  | .vkeepRise => Sys2Proof.Machine.execVkeepRise s
  | .vkeepLoss => Sys2Proof.Machine.execVkeepLoss s
  | .nresetLow l ns => Sys2Proof.Machine.execNresetLow l ns s
  | .laneStart l inp => Sys2Proof.Machine.execLaneStart l inp s
  | .startStepTimeout l inp => Sys2Proof.Machine.execStartStepTimeout l inp s
  | .partnerWaitExpiry l inp => Sys2Proof.Machine.execPartnerWaitExpiry l inp s
  | .bootNext l slot => Sys2Proof.Machine.execBootNext l slot s
  | .keyRevoke l slot key => Sys2Proof.Machine.execKeyRevoke l slot key s
  | .loaderBlockStart l block crc => Sys2Proof.Machine.execLoaderBlockStart l block crc s
  | .loaderData l frame bytes media => Sys2Proof.Machine.execLoaderData l frame bytes media s
  | .wakeInput pin => Sys2Proof.Machine.execWakeInput pin s
  | .modeRequest l target nvmBusy => Sys2Proof.Machine.execModeRequest l target nvmBusy s
  | .modePartnerTimeout => Sys2Proof.Machine.execModePartnerTimeout s
  | .modeChangeApply holdA holdB freq => Sys2Proof.Machine.execModeChangeApply holdA holdB freq s
  | .nvmReqGo l who => Sys2Proof.Machine.execNvmReqGo l who s
  | .tallyOutcome l id code => Sys2Proof.Machine.execTallyOutcome l id code s
  | .tallyAbortLead l id => Sys2Proof.Machine.execTallyAbortLead l id s
  | .tallyMiss l id => Sys2Proof.Machine.execTallyMiss l id s
  | .talCancel l id => Sys2Proof.Machine.execTalCancel l id s
  | .talOutPop l => Sys2Proof.Machine.execTalOutPop l s
  | .targetOffFail l id => Sys2Proof.Machine.execTargetOffFail l id s
  | .timExpiry l n => Sys2Proof.Machine.execTimExpiry l n s
  | .tractionCycleBoundary l => Sys2Proof.Machine.execTractionCycleBoundary l s
  | .timeFrame l flips transit => Sys2Proof.Machine.execTimeFrame l flips transit s
  | .asSync l m origin corr ago logSync unc => Sys2Proof.Machine.execAsSync l m origin corr ago logSync unc s
  | .asPdelayReq l m => Sys2Proof.Machine.execAsPdelayReq l m s
  | .asSyncLapse l m => Sys2Proof.Machine.execAsSyncLapse l m s
  | .deputyOscCorrection freq => Sys2Proof.Machine.execDeputyOscCorrection freq s
  | .deputyOscSourceChange => Sys2Proof.Machine.execDeputyOscSourceChange s
  | .deputyOscRemoval => Sys2Proof.Machine.execDeputyOscRemoval s
  | .adcTrigger l g => Sys2Proof.Machine.execAdcTrigger l g s
  | .adcResult l g slice raw before after kind => Sys2Proof.Machine.execAdcResult l g slice raw before after kind s
  | .adcUrgent l g c => Sys2Proof.Machine.execAdcUrgent l g c s
  | .adcQueuePop l urgent => Sys2Proof.Machine.execAdcQueuePop l urgent s
  | .adcEstStep l g est quiet => Sys2Proof.Machine.execAdcEstStep l g est quiet s
  | .adcCorrWrite l c gain offset => Sys2Proof.Machine.execAdcCorrWrite l c gain offset s
  | .syscalMeasure l => Sys2Proof.Machine.execSyscalMeasure l s
  | .syscalCollectDone l => Sys2Proof.Machine.execSyscalCollectDone l s
  | .syscalApply l => Sys2Proof.Machine.execSyscalApply l s
  | .syscalAbort l => Sys2Proof.Machine.execSyscalAbort l s
  | .sdfResult l n rising falling => Sys2Proof.Machine.execSdfResult l n rising falling s
  | .sdfTripCompare l n rising falling => Sys2Proof.Machine.execSdfTripCompare l n rising falling s
  | .sdfStuck l n => Sys2Proof.Machine.execSdfStuck l n s
  | .sdfClkFault l n => Sys2Proof.Machine.execSdfClkFault l n s
  | .sdfRefilled l n => Sys2Proof.Machine.execSdfRefilled l n s
  | .resolverUpdate l n est => Sys2Proof.Machine.execResolverUpdate l n est s
  | .resolverCarStep l n => Sys2Proof.Machine.execResolverCarStep l n s
  | .ptCountingEdge l p dt stable levels => Sys2Proof.Machine.execPtCountingEdge l p dt stable levels s
  | .ptGlitch l p line gap => Sys2Proof.Machine.execPtGlitch l p line gap s
  | .ptReferenceEdge l p stable level => Sys2Proof.Machine.execPtReferenceEdge l p stable level s
  | .ptExtrapolate l p dt => Sys2Proof.Machine.execPtExtrapolate l p dt s
  | .ptZeroSpeed l p => Sys2Proof.Machine.execPtZeroSpeed l p s
  | .sentFrame l n levels => Sys2Proof.Machine.execSentFrame l n levels s
  | .sentStale l n => Sys2Proof.Machine.execSentStale l n s
  | .bandEnable l n => Sys2Proof.Machine.execBandEnable l n s
  | .bandEvaluate l n age => Sys2Proof.Machine.execBandEvaluate l n age s
  | .bandEdgeReport l n => Sys2Proof.Machine.execBandEdgeReport l n s
  | .bandStall l n => Sys2Proof.Machine.execBandStall l n s
  | .arithTrigger l i0 => Sys2Proof.Machine.execArithTrigger l i0 s
  | .arithExecute l i0 => Sys2Proof.Machine.execArithExecute l i0 s
  | .ceIntPreset l i0 lo hi => Sys2Proof.Machine.execCeIntPreset l i0 lo hi s
  | .trcArm l b => Sys2Proof.Machine.execTrcArm l b s
  | .trcDump l b => Sys2Proof.Machine.execTrcDump l b s
  | .trcAbort l b => Sys2Proof.Machine.execTrcAbort l b s
  | .trcTrigger l b => Sys2Proof.Machine.execTrcTrigger l b s
  | .traceTriggerEvent l b => Sys2Proof.Machine.execTraceTriggerEvent l b s
  | .tracePostDone l b => Sys2Proof.Machine.execTracePostDone l b s
  | .pwmTransferPoint l t => Sys2Proof.Machine.execPwmTransferPoint l t s
  | .pwmCommit l t => Sys2Proof.Machine.execPwmCommit l t s
  | .pwmDiscard l t => Sys2Proof.Machine.execPwmDiscard l t s
  | .pwmSyncLoad l t => Sys2Proof.Machine.execPwmSyncLoad l t s
  | .pwmCompareEvent l c on => Sys2Proof.Machine.execPwmCompareEvent l c on s
  | .pwmEngineEdge l c => Sys2Proof.Machine.execPwmEngineEdge l c s
  | .pwmChannelEnable l c en => Sys2Proof.Machine.execPwmChannelEnable l c en s
  | .tripSourceActive l src => Sys2Proof.Machine.execTripSourceActive l src s
  | .pwmTgForce l groups => Sys2Proof.Machine.execPwmTgForce l groups s
  | .pwmTgClear l groups => Sys2Proof.Machine.execPwmTgClear l groups s
  | .blankWindowClose l b => Sys2Proof.Machine.execBlankWindowClose l b s
  | .pwmGrantAlign l => Sys2Proof.Machine.execPwmGrantAlign l s
  | .pwmTakeover l c => Sys2Proof.Machine.execPwmTakeover l c s
  | .pwmLateTakeover l c => Sys2Proof.Machine.execPwmLateTakeover l c s
  | .authReqRaise l => Sys2Proof.Machine.execAuthReqRaise l s
  | .authReqDrop l => Sys2Proof.Machine.execAuthReqDrop l s
  | .holdGrant => Sys2Proof.Machine.execHoldGrant s
  | .holdExpiry => Sys2Proof.Machine.execHoldExpiry s
  | .checkerFault l faults => Sys2Proof.Machine.execCheckerFault l faults s
  | .lockstepSelfReset l => Sys2Proof.Machine.execLockstepSelfReset l s
  | .debugSplit l cp => Sys2Proof.Machine.execDebugSplit l cp s
  | .heartbeatWrite l x seq => Sys2Proof.Machine.execHeartbeatWrite l x seq s
  | .heartbeatMiss l => Sys2Proof.Machine.execHeartbeatMiss l s
  | .deputyAliveTick => Sys2Proof.Machine.execDeputyAliveTick s
  | .deputyPortSilent l => Sys2Proof.Machine.execDeputyPortSilent l s
  | .dsPartnerJudgement l => Sys2Proof.Machine.execDsPartnerJudgement l s
  | .portFaultReset l => Sys2Proof.Machine.execPortFaultReset l s
  | .dspDeclare l cls => Sys2Proof.Machine.execDspDeclare l cls s
  | .networkLossCount l => Sys2Proof.Machine.execNetworkLossCount l s
  | .sensorLossCount l => Sys2Proof.Machine.execSensorLossCount l s
  | .disagreeCount l => Sys2Proof.Machine.execDisagreeCount l s
  | .canBusOff l n => Sys2Proof.Machine.execCanBusOff l n s
  | .degradedExpiry => Sys2Proof.Machine.execDegradedExpiry s
  | .laneDegradedExpiry l => Sys2Proof.Machine.execLaneDegradedExpiry l s
  | .degRemainSample l => Sys2Proof.Machine.execDegRemainSample l s
  | .rampDone l => Sys2Proof.Machine.execRampDone l s
  | .rampWindowExpiry => Sys2Proof.Machine.execRampWindowExpiry s
  | .brakeApplied l => Sys2Proof.Machine.execBrakeApplied l s
  | .brakeWindowExpiry => Sys2Proof.Machine.execBrakeWindowExpiry s
  | .clampCommand l => Sys2Proof.Machine.execClampCommand l s
  | .clampApplyEnd l => Sys2Proof.Machine.execClampApplyEnd l s
  | .clampDefaultStep l => Sys2Proof.Machine.execClampDefaultStep l s
  | .clampConfigFrame l flips => Sys2Proof.Machine.execClampConfigFrame l flips s
  | .clampDutyRecompute l vact => Sys2Proof.Machine.execClampDutyRecompute l vact s
  | .brkApply l => Sys2Proof.Machine.execBrkApply l s
  | .brkRelease l => Sys2Proof.Machine.execBrkRelease l s
  | .brkAtForce l => Sys2Proof.Machine.execBrkAtForce l s
  | .brkLoopUpdate l currents => Sys2Proof.Machine.execBrkLoopUpdate l currents s
  | .dspSoCmd l k value => Sys2Proof.Machine.execDspSoCmd l k value s
  | .soFbMismatch k fb ls => Sys2Proof.Machine.execSoFbMismatch k fb ls s
  | .soTestRound reads => Sys2Proof.Machine.execSoTestRound reads s
  | .soTestGo l out read => Sys2Proof.Machine.execSoTestGo l out read s
  | .contactorPullEnd k => Sys2Proof.Machine.execContactorPullEnd k s
  | .contactorDropEnd l c => Sys2Proof.Machine.execContactorDropEnd l c s
  | .closeMain l => Sys2Proof.Machine.execCloseMain l s
  | .prechargeReached l => Sys2Proof.Machine.execPrechargeReached l s
  | .prechargeTimeout l => Sys2Proof.Machine.execPrechargeTimeout l s
  | .openMain l => Sys2Proof.Machine.execOpenMain l s
  | .openCurrentWaitEnd l => Sys2Proof.Machine.execOpenCurrentWaitEnd l s
  | .weldCheckEnd l => Sys2Proof.Machine.execWeldCheckEnd l s
  | .closeDc l => Sys2Proof.Machine.execCloseDc l s
  | .openDc l => Sys2Proof.Machine.execOpenDc l s
  | .closeAc l => Sys2Proof.Machine.execCloseAc l s
  | .openAc l => Sys2Proof.Machine.execOpenAc l s
  | .weldTest l => Sys2Proof.Machine.execWeldTest l s
  | .clearWeld l => Sys2Proof.Machine.execClearWeld l s
  | .dcOvercurrent l => Sys2Proof.Machine.execDcOvercurrent l s
  | .ov1Cross l on => Sys2Proof.Machine.execOv1Cross l on s
  | .ov2Cross l => Sys2Proof.Machine.execOv2Cross l s
  | .ov2Release l => Sys2Proof.Machine.execOv2Release l s
  | .ov3Cross l => Sys2Proof.Machine.execOv3Cross l s
  | .ov3HoldExpiry => Sys2Proof.Machine.execOv3HoldExpiry s
  | .ov3ContactorOpen l => Sys2Proof.Machine.execOv3ContactorOpen l s
  | .hvcSetWrite l vset iset => Sys2Proof.Machine.execHvcSetWrite l vset iset s
  | .hvcSoftDone l => Sys2Proof.Machine.execHvcSoftDone l s
  | .obcSyncDone l v f => Sys2Proof.Machine.execObcSyncDone l v f s
  | .obcBusReached l => Sys2Proof.Machine.execObcBusReached l s
  | .obcGridTrip l v f => Sys2Proof.Machine.execObcGridTrip l v f s
  | .obcGridReturn l v f => Sys2Proof.Machine.execObcGridReturn l v f s
  | .motObserverUpdate l m o => Sys2Proof.Machine.execMotObserverUpdate l m o s
  | .motTsatExpiry l m => Sys2Proof.Machine.execMotTsatExpiry l m s
  | .motXchkTimeout l m => Sys2Proof.Machine.execMotXchkTimeout l m s
  | .motRectifyTimeout l m => Sys2Proof.Machine.execMotRectifyTimeout l m s
  | .motPrefTimeout l m => Sys2Proof.Machine.execMotPrefTimeout l m s
  | .catchPulseStart l m => Sys2Proof.Machine.execCatchPulseStart l m s
  | .catchPulseEnd l m => Sys2Proof.Machine.execCatchPulseEnd l m s
  | .motInjectionStep l m => Sys2Proof.Machine.execMotInjectionStep l m s
  | .motRecatch l m => Sys2Proof.Machine.execMotRecatch l m s
  | .keWindowEnd l m => Sys2Proof.Machine.execKeWindowEnd l m s
  | .lvpSample l vbat vbus ip => Sys2Proof.Machine.execLvpSample l vbat vbus ip s
  | .lvpHandover l => Sys2Proof.Machine.execLvpHandover l s
  | .lvpHandoverEnd l => Sys2Proof.Machine.execLvpHandoverEnd l s
  | .lvpRequalEnd l => Sys2Proof.Machine.execLvpRequalEnd l s
  | .lvpCutoff l => Sys2Proof.Machine.execLvpCutoff l s
  | .lvpReconnect l => Sys2Proof.Machine.execLvpReconnect l s
  | .lvpProfileStep l limiting => Sys2Proof.Machine.execLvpProfileStep l limiting s
  | .actUndervoltage l vact => Sys2Proof.Machine.execActUndervoltage l vact s
  | .btnPress l => Sys2Proof.Machine.execBtnPress l s
  | .btnRelease l ms => Sys2Proof.Machine.execBtnRelease l ms s
  | .btnHeldMark l => Sys2Proof.Machine.execBtnHeldMark l s
  | .keeperDecisionReceived l => Sys2Proof.Machine.execKeeperDecisionReceived l s
  | .keeperActionStep l => Sys2Proof.Machine.execKeeperActionStep l s
  | .linkFrameMode l flips nvmBusy => Sys2Proof.Machine.execLinkFrameMode l flips nvmBusy s
  | .linkFrameCmp l flips => Sys2Proof.Machine.execLinkFrameCmp l flips s
  | .linkFrameIn l flips => Sys2Proof.Machine.execLinkFrameIn l flips s
  | .linkFrameAck l flips => Sys2Proof.Machine.execLinkFrameAck l flips s
  | .linkFrameState l flips => Sys2Proof.Machine.execLinkFrameState l flips s
  | .linkFrameCopy l flips => Sys2Proof.Machine.execLinkFrameCopy l flips s
  | .linkFrameCopyEnd l flips wrong => Sys2Proof.Machine.execLinkFrameCopyEnd l flips wrong s
  | .linkFrameIdle l flips => Sys2Proof.Machine.execLinkFrameIdle l flips s
  | .laneLinkLost l => Sys2Proof.Machine.execLaneLinkLost l s
  | .copyAckTimeout l => Sys2Proof.Machine.execCopyAckTimeout l s
  | .snapshotPeriod l => Sys2Proof.Machine.execSnapshotPeriod l s
  | .snapNow l => Sys2Proof.Machine.execSnapNow l s
  | .snapshotSearchEnd l flips => Sys2Proof.Machine.execSnapshotSearchEnd l flips s
  | .handover l => Sys2Proof.Machine.execHandover l s
  | .chassisBoundary l => Sys2Proof.Machine.execChassisBoundary l s
  | .chassisSeal l => Sys2Proof.Machine.execChassisSeal l s
  | .chassisCmdDeadline l => Sys2Proof.Machine.execChassisCmdDeadline l s
  | .chassisCompare l => Sys2Proof.Machine.execChassisCompare l s
  | .chassisNodeFrame l => Sys2Proof.Machine.execChassisNodeFrame l s
  | .hoistSetSc n nz => Sys2Proof.Machine.execHoistSetSc n nz s
  | .hoistSetGate n nz => Sys2Proof.Machine.execHoistSetGate n nz s
  | .hoistSetLoss n nz => Sys2Proof.Machine.execHoistSetLoss n nz s
  | .hoistRead n nz => Sys2Proof.Machine.execHoistRead n nz s
  | .hoistHlgTest n nz seen => Sys2Proof.Machine.execHoistHlgTest n nz seen s
  | .hoistRun n nz => Sys2Proof.Machine.execHoistRun n nz s
  | .hoistAnswerTimeout n nz => Sys2Proof.Machine.execHoistAnswerTimeout n nz s
  | .hoistAck n f => Sys2Proof.Machine.execHoistAck n f s
  | .hoistEcho n f statusOk => Sys2Proof.Machine.execHoistEcho n f statusOk s
  | .hoistStatus n f => Sys2Proof.Machine.execHoistStatus n f s
  | .hoistFault n f => Sys2Proof.Machine.execHoistFault n f s
  | .hoistStatLoss n => Sys2Proof.Machine.execHoistStatLoss n s
  | .hoistTick => Sys2Proof.Machine.execHoistTick s
  | .headLinkLoss n => Sys2Proof.Machine.execHeadLinkLoss n s
  | .headShortCircuit n mv ns => Sys2Proof.Machine.execHeadShortCircuit n mv ns s
  | .hlgCodeChange n high held gap => Sys2Proof.Machine.execHlgCodeChange n high held gap s
  | .legTurnOnRelease n => Sys2Proof.Machine.execLegTurnOnRelease n s
  | .legTurnOnWithhold n => Sys2Proof.Machine.execLegTurnOnWithhold n s
  | .henLow g ns => Sys2Proof.Machine.execHenLow g ns s
  | .henRelease g ns persist => Sys2Proof.Machine.execHenRelease g ns persist s
  | .hlkTrainStart l => Sys2Proof.Machine.execHlkTrainStart l s
  | .hlkTrainAbort l => Sys2Proof.Machine.execHlkTrainAbort l s
  | .pdGateError l n hi v => Sys2Proof.Machine.execPdGateError l n hi v s
  | .pdTurnOnWithhold l n hi => Sys2Proof.Machine.execPdTurnOnWithhold l n hi s
  | .bstUndervoltage l n bst => Sys2Proof.Machine.execBstUndervoltage l n bst s
  | .pdFaultClear l n short uv => Sys2Proof.Machine.execPdFaultClear l n short uv s
  | .vddGo l who => Sys2Proof.Machine.execVddGo l who s
  | .rlkSet l flip => Sys2Proof.Machine.execRlkSet l flip s
  | .rlkNap l flip => Sys2Proof.Machine.execRlkNap l flip s
  | .rlkWake l flip => Sys2Proof.Machine.execRlkWake l flip s
  | .rlkStatus l flip => Sys2Proof.Machine.execRlkStatus l flip s
  | .rlkAck l flip => Sys2Proof.Machine.execRlkAck l flip s
  | .rlkSuperseded l flip => Sys2Proof.Machine.execRlkSuperseded l flip s
  | .rlkNapDone l flip => Sys2Proof.Machine.execRlkNapDone l flip s
  | .vrcSettled l => Sys2Proof.Machine.execVrcSettled l s
  | .rlkLoss l controller => Sys2Proof.Machine.execRlkLoss l controller s
  | .vrcUpdate l m => Sys2Proof.Machine.execVrcUpdate l m s
  | .vrcShed l => Sys2Proof.Machine.execVrcShed l s
  | .vrcShedRampEnd l => Sys2Proof.Machine.execVrcShedRampEnd l s
  | .vrcRestore l => Sys2Proof.Machine.execVrcRestore l s
  | .pwrIdle l => Sys2Proof.Machine.execPwrIdle l s
  | .idleInterrupt l => Sys2Proof.Machine.execIdleInterrupt l s
  | .pwrNap l nvmBusy abort => Sys2Proof.Machine.execPwrNap l nvmBusy abort s
  | .napWake l tim => Sys2Proof.Machine.execNapWake l tim s
  | .thmSample l m => Sys2Proof.Machine.execThmSample l m s
  | .thermalShutdown sensor => Sys2Proof.Machine.execThermalShutdown sensor s
  | .thermalRelease isl => Sys2Proof.Machine.execThermalRelease isl s
  | .canTxGo l who n => Sys2Proof.Machine.execCanTxGo l who n s
  | .canAttemptStart l n => Sys2Proof.Machine.execCanAttemptStart l n s
  | .canAttemptEnd l n e => Sys2Proof.Machine.execCanAttemptEnd l n e s
  | .canRxFrame l n f ago => Sys2Proof.Machine.execCanRxFrame l n f ago s
  | .canRxPop l n => Sys2Proof.Machine.execCanRxPop l n s
  | .canHpPop l n => Sys2Proof.Machine.execCanHpPop l n s
  | .canRecover l n => Sys2Proof.Machine.execCanRecover l n s
  | .canRecoveryDone l n => Sys2Proof.Machine.execCanRecoveryDone l n s
  | .canEnable l n => Sys2Proof.Machine.execCanEnable l n s
  | .canIntegrated l n => Sys2Proof.Machine.execCanIntegrated l n s
  | .canCellStart l n c => Sys2Proof.Machine.execCanCellStart l n c s
  | .canWindowClose l n => Sys2Proof.Machine.execCanWindowClose l n s
  | .ethTxGo l who m => Sys2Proof.Machine.execEthTxGo l who m s
  | .ethRxFrame l m f ago => Sys2Proof.Machine.execEthRxFrame l m f ago s
  | .ethRxRelease l m count => Sys2Proof.Machine.execEthRxRelease l m count s
  | .ethMdio l m value => Sys2Proof.Machine.execEthMdio l m value s
  | .ethLinkChange l m up speed full anDone => Sys2Proof.Machine.execEthLinkChange l m up speed full anDone s
  | .t1sCollision l => Sys2Proof.Machine.execT1sCollision l s
  | .asyReqCommit l => Sys2Proof.Machine.execAsyReqCommit l s
  | .asyXinSubmit l crc => Sys2Proof.Machine.execAsyXinSubmit l crc s
  | .holdup l written tagOk => Sys2Proof.Machine.execHoldup l written tagOk s
  | .countersign l => Sys2Proof.Machine.execCountersign l s
  | .secLcReq l who target key e => Sys2Proof.Machine.execSecLcReq l who target key e s
  | .secKeyProg l who slot => Sys2Proof.Machine.execSecKeyProg l who slot s
  | .dbgChallenge l who => Sys2Proof.Machine.execDbgChallenge l who s
  | .challengeLapse l => Sys2Proof.Machine.execChallengeLapse l s
  | .dbgOpen l who obj => Sys2Proof.Machine.execDbgOpen l who obj s
  | .secJobGo l who => Sys2Proof.Machine.execSecJobGo l who s
  | .entropyHealthFail l => Sys2Proof.Machine.execEntropyHealthFail l s
  | .cvuStart l who n => Sys2Proof.Machine.execCvuStart l who n s
  | .cvuData32 l who n value differ => Sys2Proof.Machine.execCvuData32 l who n value differ s
  | .cvuData16 l who n value differ => Sys2Proof.Machine.execCvuData16 l who n value differ s
  | .cvuData8 l who n value differ => Sys2Proof.Machine.execCvuData8 l who n value differ s
  | .cvuEnd l who n => Sys2Proof.Machine.execCvuEnd l who n s
  | .cvuAbort l who n => Sys2Proof.Machine.execCvuAbort l who n s
  | .cvuResync l who n => Sys2Proof.Machine.execCvuResync l who n s
  | .timeWaitExpiry l inp => Sys2Proof.Machine.execTimeWaitExpiry l inp s
  | .prechargeOverlapEnd l => Sys2Proof.Machine.execPrechargeOverlapEnd l s
  | .pdTurnOnRelease l n hi v held => Sys2Proof.Machine.execPdTurnOnRelease l n hi v held s
  | .bootstrapLow l n bst => Sys2Proof.Machine.execBootstrapLow l n bst s
  | .tripSourceInactive l src => Sys2Proof.Machine.execTripSourceInactive l src s
  | .ov3LinesInactive l => Sys2Proof.Machine.execOv3LinesInactive l s
  | .holdReplayEdge c => Sys2Proof.Machine.execHoldReplayEdge c s
  | .soCurrentLimit k => Sys2Proof.Machine.execSoCurrentLimit k s
  | .ethMdioDone l m data => Sys2Proof.Machine.execEthMdioDone l m data s
  | .plcaBeaconChange l seen => Sys2Proof.Machine.execPlcaBeaconChange l seen s
  | .asPdelayAnnounceRx l m msg => Sys2Proof.Machine.execAsPdelayAnnounceRx l m msg s
  | .btnHeld8s l => Sys2Proof.Machine.execBtnHeld8s l s
  | .lampSlot => Sys2Proof.Machine.execLampSlot s
  | .vbat9vCrossing l up => Sys2Proof.Machine.execVbat9vCrossing l up s
  | .headGateSupplyLoss n => Sys2Proof.Machine.execHeadGateSupplyLoss n s

end Sys2Proof.Machine
end

