-- ==== Sys2Proof/Machine/Step.lean ====
section
/-!
DEFINITION. One step of the block: the command at the front of the queue acts on everything but the queue; on an empty
queue the block idles for one count of its clock (DESIGN CHOICE, log entry 1).
-/
namespace Sys2Proof.Machine

/-- The queue replaced. -/
def State.withPending (s : State) (q : List Instr) : State := { s with pending := q }

/-- The block with nothing to do: 10 ns pass (log entry 1). -/
def State.idle (s : State) : State := { s with now := s.now + 1 }

/-- One step: the front command with the queue's rest, or an idle count. -/
def step (s : State) : Host.Outcome State Fault Refusal :=
  match s.pending with
  | [] => .next s.idle
  | c :: rest => exec c (s.withPending rest)

/-- A command put at the front of the queue. -/
def State.withCommand (s : State) (c : Instr) : State := s.withPending (c :: s.pending)

/-- `s` with the command that a word spells at the front of its queue; unchanged where the word spells none. -/
def State.withFetchWord (s : State) (nbits w : Nat) : State :=
  match Sys2Proof.decodeTableWord nbits w with
  | some c => s.withCommand c
  | none => s

end Sys2Proof.Machine
end

