-- ==== Sys2Proof/Safety.lean ====
section
/-!
DEFINITION. What counts as a safe state and a safe run of the block, in the terms that statements use.
-/
namespace Sys2Proof.Machine

/-- The register file is in canonical form: keys strictly rising, no entry equal to its reset value (its XOR is not zero). -/
def State.regsOk (s : State) : Bool := swf 0 0 s.regs

/-- The NOR flash and the eMMC of a lane are in canonical form: blocks and sectors strictly rising, none listed empty. -/
def LaneNv.storesOk (n : LaneNv) : Bool := swf [] 0 n.nor && swf [] 0 n.emmc

/-- A lane's memory, tables, latched words and media are in canonical form. -/
def State.laneOk (s : State) (l : Lane) : Bool :=
  Memory.wf (s.run l).mem && swf 0 0 (s.run l).tables && swf 0 0 (s.run l).latched && (s.nv l).storesOk

/-- The register file, the memories, the table windows, the latched words and the media are in canonical form. -/
def State.canonical (s : State) : Bool := s.regsOk && s.laneOk .a && s.laneOk .b

/-- Both safe outputs of contactors and `STO` inputs are open: neither switch of the pair conducts (R345, R346). -/
def State.soOpen (s : State) (k : Fin 12) : Bool := !s.on .ds R.DSP_SOk_STATUS.HS k && !s.on .ds R.DSP_SOk_STATUS.LS k

/-- Not both lanes are granted (R25): the grant state names at most one. -/
def State.oneGrant (s : State) : Bool := !(s.granted .a && s.granted .b)

/-- A command leads from a state to a next state of which `P` holds. -/
def leads (c : Instr) (s : State) (P : State → Prop) : Prop := ∃ t, exec c s = .next t ∧ P t

/-- `P` holds of a quotient whose rounding the spec leaves open (log entry 7): of the whole quotient, else of either neighbour. -/
def nearly (num den : Int) (P : Int → Prop) : Prop := P (num / den) ∨ num % den ≠ 0 ∧ P (num / den + 1)

/-- A counting field of a die rose by one, up to its largest value. -/
def rose (s t : State) (d : Die) (f : Fld) (i : Nat := 0) (j : Nat := 0) : Prop :=
  t.rd d f i j = satAdd f.w (s.rd d f i j) 1

/-- The parts of the machine outside its registers that a frame names. -/
inductive Part | memory | tables | media | heads | pwmMap | dies | deputy | modeEngine | supplies | storage | clock
deriving DecidableEq, Repr

/-- A part is the same in two states: both lanes' memories byte by byte, both lanes' table windows and message RAMs word by
word, both lanes' media, the drive heads and their links, the map of PWM channels to legs, both power-and-analog dies
beside their registers, the Deputy beside its registers, the mode engine, the supplies, the storage switch, the clock. -/
def Part.same (p : Part) (s t : State) : Prop :=
  match p with
  | .memory => ∀ l a, t.byte l a = s.byte l a
  | .tables => ∀ l k, t.tableWord l k = s.tableWord l k
  | .media => ∀ l, t.nv l = s.nv l
  | .heads => t.hoist = s.hoist
  | .pwmMap => t.mux = s.mux
  | .dies => t.papA = s.papA ∧ t.papB = s.papB
  | .deputy => t.dep = s.dep
  | .modeEngine => t.modeEng = s.modeEng
  | .supplies => t.sup = s.sup
  | .storage => t.storage = s.storage
  | .clock => t.now = s.now ∧ t.fine = s.fine

/-- A field lies in the register map (R41, R43): the blocks 0x4000 to 0x4017 of 64 KiB. -/
def Fld.inMap (f : Fld) : Bool := decide (0x40000000 ≤ f.addr) && decide (f.addr < 0x40180000) && decide (f.lo < 32)

/-- The frame of a command: where it answers a next state, every register field outside the blocks `bs` (bits [31:16] of a
lane address) reads as before on every die, every part of the machine outside `ps` is the same, and the queue stands. -/
def Frame (bs : List Nat) (ps : List Part) (c : Instr) : Prop :=
  ∀ s t : State, s.canonical = true → exec c s = .next t →
    (∀ (d : Die) (f : Fld) (i j : Nat), f.inMap = true → f.addr / 65536 ∉ bs → t.rd d f i j = s.rd d f i j)
    ∧ (∀ p, p ∉ ps → p.same s t) ∧ t.pending = s.pending

/-- A step that goes on: neither a fault nor a refusal. -/
def goesOn (o : Out) : Bool :=
  match o with
  | .next _ => true
  | .fault _ => false
  | .refused _ => false

end Sys2Proof.Machine
end

