-- ==== Sys2Proof/Certificates/Slice0/Obligations.lean ====
section
/-!
DEFINITION. The statements about the model that are to be proved. A hypothesis names a state and operands alone; `leads c s P`
says that command `c` answers a next state from `s` and that `P` holds of it.
-/
open Sys2Proof Sys2Proof.Machine

/-- A step of a state with command `c` at the front of its queue is `exec c` on that state with the queue's rest; with an
empty queue 10 ns pass and nothing else changes (the model's choice, log entry 1). -/
def Obligations.StepRunsFrontCommand : Prop :=
  (∀ (s : State) (c : Instr) (rest : List Instr), step (s.withPending (c :: rest)) = exec c (s.withPending rest)) ∧
  (∀ s : State, s.pending = [] → step s = .next { s with now := s.now + 1 })

/-- No command of the table ends in a fault or a refusal. -/
def Obligations.EveryStepGoesOn : Prop := ∀ s : State, ∃ t, step s = .next t

/-- The invariant of `CanonicalKeptByEveryStep` holds at reset, where no command waits. -/
def Obligations.CanonicalAtReset : Prop := State.reset.canonical = true ∧ State.reset.pending = []

/-- Every step keeps the register file and both lanes' memories, tables and latches in canonical form, so that equal contents
are equal data and a read after a write gives what was written. -/
def Obligations.CanonicalKeptByEveryStep : Prop :=
  ∀ s t : State, s.canonical = true → step s = .next t → t.canonical = true

/-- The lifecycle held in OTP only ever advances (R442); what the OTP has taken of the root keys, it keeps (R67, R443). -/
def Obligations.OneTimeProgrammableOnlyAdvances : Prop :=
  ∀ s t : State, step s = .next t → ∀ l : Lane,
    (s.nv l).lifecycle ≤ (t.nv l).lifecycle ∧
    (∀ k, bit (s.nv l).keyProg k = true → bit (t.nv l).keyProg k = true) ∧
    (∀ k, bit (s.nv l).keyRevoked k = true → bit (t.nv l).keyRevoked k = true)

/-- Each step takes exactly the front command off the queue, and the clock never runs back. -/
def Obligations.QueueIsFirstInFirstOut : Prop :=
  ∀ s t : State, step s = .next t → t.pending = s.pending.tail ∧ s.now ≤ t.now

/-- At reset every field holds its Reset entry (R11), every memory reads zero, and nothing is powered. -/
def Obligations.ResetEntries : Prop :=
  (∀ (d : Die) (f : Fld) (i j : Nat), State.reset.rd d f i j = f.rstOn d) ∧
  (∀ (l : Lane) (a : Nat), State.reset.byte l a = 0#8) ∧
  (∀ l : Lane, State.reset.island l = false) ∧ State.reset.depOn = false

/-- R9: an access to a register block that is not 32 bits wide or not aligned gets the error response and the capture of R7
and does nothing else; a write and a read alike. -/
def Obligations.RegisterAccessWidthError : Prop :=
  ∀ (s : State) (l : Lane) (who : Initiator) (width a v : Nat) (d : Die),
    s.canonical = true → s.canAccess l who = true → s.target l a = .reg d → (width ≠ 32 ∨ a % 4 ≠ 0) →
    let captured := fun (write : Bool) (t : State) =>
      t.rd (laneDie l) R.SYS_ACCESS_FAULT.ADDR = low 32 a ∧ t.rd (laneDie l) R.SYS_ACCESS_INFO.INITIATOR = who.code ∧
      t.rd (laneDie l) R.SYS_ACCESS_INFO.WRITE = b2n write ∧ t.rd (laneDie l) R.SYS_ACCESS_INFO.REASON = Reason.width.code ∧
      t.rd (laneDie l) R.SYS_ACCESS_INFO.COUNT =
        satAdd R.SYS_ACCESS_INFO.COUNT.w (s.rd (laneDie l) R.SYS_ACCESS_INFO.COUNT) 1 ∧
      (∀ (e : Die) (f : Fld) (i j : Nat), f.inMap = true →
        f.addr ≠ R.SYS_ACCESS_FAULT.ADDR.addr → f.addr ≠ R.SYS_ACCESS_INFO.REASON.addr → t.rd e f i j = s.rd e f i j) ∧
      (∀ k b, t.byte k b = s.byte k b)
    leads (.registerWrite l who width a v) s (captured true) ∧
    leads (.readLowWordLatch l who width a) s fun t => captured false t ∧ (t.run l).readData = 0

/-- R4 and R7: what an aligned word write does to a field `f` (instance `i`, `j`) of a lane register, in every block but `ADC`
to `PWM`, `TIM` and `CFG_BOOT_NEXT`, where a write also starts something; and a byte stored in system SRAM (R41). -/
def Obligations.RegisterWriteByAccessCode : Prop :=
  (∀ (s : State) (l : Lane) (who : Initiator) (a v : Nat) (f : Fld) (i j : Nat) (pre post : List (Fld × Nat × Nat)),
    s.canonical = true → s.canAccess l who = true → s.target l a = .reg (laneDie l) → a % 4 = 0 →
    (a < 0x40030000 ∧ a ≠ R.CFG_BOOT_NEXT.SLOT.addr ∨ 0x40080000 ≤ a ∧ a < 0x40150000) →
    talHole a = false → ethHole a = false → fieldsAt .lane a = pre ++ (f, i, j) :: post →
    (∀ y ∈ pre ++ post, y.1.key (laneDie l) y.2.1 y.2.2 ≠ f.key (laneDie l) i j) →
    let part := bits v (f.lo + f.w - 1) f.lo
    (s.on (laneDie l) R.CFG_SEAL.SEALED = false ∨ (∀ y ∈ fieldsAt .lane a, y.1.acc ≠ .rws) →
      leads (.registerWrite l who 32 a v) s fun t =>
        (f.acc = .rw ∨ f.acc = .wo ∨ f.acc = .rws → t.rd (laneDie l) f i j = low f.w part) ∧
        (f.acc = .w1c → t.rd (laneDie l) f i j = low f.w (s.rd (laneDie l) f i j &&& (2 ^ f.w - 1 - part))) ∧
        (f.acc = .ro ∨ f.acc = .rc ∨ f.acc = .wt → t.rd (laneDie l) f i j = s.rd (laneDie l) f i j) ∧
        t = { s with regs := t.regs } ∧
        ∀ (e : Die) (g : Fld) (i' j' : Nat),
          (∀ y ∈ fieldsAt .lane a, y.1.key (laneDie l) y.2.1 y.2.2 ≠ g.key e i' j') → t.rd e g i' j' = s.rd e g i' j') ∧
    (s.on (laneDie l) R.CFG_SEAL.SEALED = true → f.acc = .rws → leads (.registerWrite l who 32 a v) s fun t =>
      ∃ u : State, t = u.accessError l who a true .sealedRws ∧ u.rd (laneDie l) f i j = s.rd (laneDie l) f i j)) ∧
  (∀ (s : State) (l : Lane) (who : Initiator) (a v : Nat),
    s.canonical = true → s.canAccess l who = true → inSram a = true →
    leads (.registerWrite l who 8 a v) s fun t =>
      (t.byte l a).toNat = v % 256 ∧ (∀ k c, (k ≠ l ∨ c ≠ a) → t.byte k c = s.byte k c) ∧ t.regs = s.regs)

/-- R10: the read of the low word of a 64-bit count latches the high word, and the next read of the high word returns the
latched value, whatever the count has become meanwhile. Lane time and the Assay counters are such counts. -/
def Obligations.CountsReadLowWordFirst : Prop :=
  (∀ (s : State) (l : Lane) (who : Initiator) (a : Nat) (d : Die),
    s.canonical = true → s.canAccess l who = true → s.target l a = .reg d → s.target l (a + 4) = .reg d →
    s.answers l d = true → isLow64 a = true →
    leads (.readLowWordLatch l who 32 a) s fun t =>
      (t.run l).readData = s.regWord l d a ∧ t.regs = s.regs ∧
      ∀ u : State, u.run l = t.run l → u.canAccess l who = true → u.target l (a + 4) = .reg d → u.answers l d = true →
        leads (.readLowWordLatch l who 32 (a + 4)) u fun w =>
          (w.run l).readData = s.regWord l d (a + 4) ∧ w.regs = u.regs) ∧
  isLow64 R.TIM_NOW_LO.TIME.addr = true ∧ (∀ n : Fin 16, isLow64 (0x40130100 + 8 * n.val) = true) ∧
  (∀ i : Fin 24, isLow64 (R.CE_Ai_INT_LO.I.addr + 0x40 * i.val) = true) ∧ isLow64 R.DSP_TIME_LO.TIME.addr = true

/-- R42: the memory of the AP pair is at 0x1000_0000, that of the CP pair at 0x1008_0000; whoever is neither that pair nor the
debug port gets the error response of R41, and the pair itself reaches its memory. -/
def Obligations.TightlyCoupledMemoryIsItsPairsOwn : Prop :=
  ∀ (s : State) (l : Lane) (who : Initiator) (width a v : Nat),
    s.canonical = true → s.firmware l = true → 0x10000000 ≤ a → a ≤ 0x100FFFFF → who ≠ .debug →
    let own : Initiator := if a < 0x10080000 then .ap else .cp
    let captured := fun (write : Bool) (t : State) =>
      t.rd (laneDie l) R.SYS_ACCESS_FAULT.ADDR = a ∧ t.rd (laneDie l) R.SYS_ACCESS_INFO.INITIATOR = who.code ∧
      t.rd (laneDie l) R.SYS_ACCESS_INFO.WRITE = b2n write ∧ t.rd (laneDie l) R.SYS_ACCESS_INFO.REASON = Reason.owner.code ∧
      t.rd (laneDie l) R.SYS_ACCESS_INFO.COUNT =
        satAdd R.SYS_ACCESS_INFO.COUNT.w (s.rd (laneDie l) R.SYS_ACCESS_INFO.COUNT) 1 ∧
      (∀ (e : Die) (f : Fld) (i j : Nat), f.inMap = true →
        f.addr ≠ R.SYS_ACCESS_FAULT.ADDR.addr → f.addr ≠ R.SYS_ACCESS_INFO.REASON.addr → t.rd e f i j = s.rd e f i j) ∧
      (∀ k b, t.byte k b = s.byte k b)
    (who ≠ own → leads (.registerWrite l who width a v) s (captured true) ∧
      leads (.readLowWordLatch l who width a) s fun t => captured false t ∧ (t.run l).readData = 0) ∧
    (who = own → leads (.registerWrite l who 8 a v) s fun t =>
      (t.byte l a).toNat = v % 256 ∧ (∀ k c, (k ≠ l ∨ c ≠ a) → t.byte k c = s.byte k c) ∧ t.regs = s.regs)

/-- R104: the deadline as the first lane time with the given low 40 bits, and the admitted entry that carries it. -/
def Obligations.DeadlineNamesFirstLaneTime : Prop :=
  (∀ now dl : Nat,
    let x := deadlineOf now dl
    now ≤ x ∧ x % 2 ^ 40 = dl % 2 ^ 40 ∧ x ≤ now + (2 ^ 40 - 1) ∧ ∀ y, now ≤ y → y % 2 ^ 40 = dl % 2 ^ 40 → x ≤ y) ∧
  (∀ (s : State) (l : Lane) (who : Initiator) (q size dl : Nat) (job : Job) (id : Nat),
    (s.submit l who q size dl job).1 = .admitted id →
      (((s.submit l who q size dl job).2.tal l).find id).map TalEntry.deadline = some (deadlineOf (s.laneTime l) dl))

/-- R118 to R121, R125, R127: `ADC_TRIGGER` and `ADC_URGENT`, from every state in which the group takes them.
R122 to R126, R130: `ADC_RESULT` in a triggered pass bound for `Q11`, and `ADC_QUEUE_POP`. -/
def Obligations.ConvertersTriggerReportAndAnswerReads : Prop :=
  (∀ (s : State) (l : Lane) (g : Fin 12),
    s.canonical = true → s.past l 11 = true → s.rd (laneDie l) R.ADC_Gg_CFG.MODE g = 3 →
    s.rd (laneDie l) R.ADC_Gg_CFG.DEST g ≠ 3 → 0 < (s.grp l g).sent → (s.grp l g).busy = false →
    (s.grp l g).aborted = [] →
    leads (.adcTrigger l g) s fun t =>
      t.grp l g = { s.grp l g with sent := (s.grp l g).sent - 1, busy := true, pos := 0, chans := s.listOf l g,
                                   dest := s.rd (laneDie l) R.ADC_Gg_CFG.DEST g, triggered := true,
                                   stamp := low 32 (s.laneTime l) } ∧
      rose s t (laneDie l) R.ADC_Gg_TRIG_CNT.TRIGGERS g) ∧
  (∀ (s : State) (l : Lane) (g : Fin 12),
    s.canonical = true → s.past l 11 = true → s.rd (laneDie l) R.ADC_Gg_CFG.MODE g = 3 →
    s.rd (laneDie l) R.ADC_Gg_CFG.DEST g ≠ 3 → 0 < (s.grp l g).sent → (s.grp l g).busy = true →
    leads (.adcTrigger l g) s fun t =>
      t.grp l g = { s.grp l g with sent := (s.grp l g).sent - 1 } ∧ t.rd (laneDie l) R.ADC_Gg_STATUS.TRIG_OVR g = 1 ∧
      rose s t (laneDie l) R.ADC_Gg_TRIG_CNT.OVERRUNS g) ∧
  (∀ (s : State) (l : Lane) (g : Fin 16) (c : Fin 64),
    s.canonical = true → s.past l 11 = true →
    leads (.adcUrgent l g c) s fun t =>
      let code := if 11 < g.val then 4 else if s.rdBit (laneDie l) R.ADC_URGENT_STATUS.PENDING g then 1
        else if s.rd (laneDie l) R.ADC_Gg_CFG.MODE g = 1 then 2
        else if s.rd (laneDie l) R.ADC_Gg_CFG.DEST g = 3 then 3 else 0
      t.rd (laneDie l) R.ADC_URGENT_STATUS.RESULT = code ∧ t.rd (laneDie l) R.ADC_URGENT_STATUS.LAST_GROUP = g ∧
      (code ≠ 0 → rose s t (laneDie l) R.ADC_URGENT_CNT.REFUSED ∧ (t.run l).adc = (s.run l).adc) ∧
      ∀ h : g.val < 12, code = 0 → rose s t (laneDie l) R.ADC_URGENT_CNT.ACCEPTED ∧
        t.rdBit (laneDie l) R.ADC_URGENT_STATUS.PENDING g = true ∧
        (t.grp l ⟨g, h⟩).urgent = some (c.val, low 32 (s.laneTime l))) ∧
  (∀ (s : State) (l : Lane) (g : Fin 12) (slice : Fin 4) (raw before after : BitVec 14) (c : Fin 64),
    s.canonical = true → s.past l 11 = true → s.rd (laneDie l) R.ADC_Gg_CFG.MODE g = 3 → (s.grp l g).busy = true →
    (s.grp l g).triggered = true → (s.grp l g).chans[(s.grp l g).pos]? = some c.val → (s.grp l g).dest = 2 →
    (s.run l).adc.q11.length < 1024 → s.on (laneDie l) R.ADC_SYSCAL_STATUS.BUSY = false →
    (∀ n : Fin 16, s.on (papDie l) R.PAP_HBn_CFG.SHORT_EN n = false) →
    leads (.adcResult l g slice raw before after .normal) s fun t =>
      let num := (16 * (raw.toNat : Int) - s.rdS (laneDie l) R.ADC_Gg_Sk_OG.OFFSET g slice) *
          (2 ^ 18 + s.rdS (laneDie l) R.ADC_Gg_Sk_OG.GAIN g slice) * 10 ^ 7 *
          (2 ^ 16 + s.rdS (laneDie l) R.ADC_CHc_APPLIED.GAIN c) +
        s.rdS (laneDie l) R.ADC_CHc_APPLIED.OFFSET c * 2 ^ 36 * 10 ^ 7
      let q := num / (2 ^ 38 * 10 ^ 7)
      let is := fun z : Int =>
        let e := s.entry l g c (clampI 0 16383 z).toNat false false
        t.rd (laneDie l) R.ADC_CHc_LAST.ENTRY c = e ∧
        (t.run l).adc.q11 = (s.run l).adc.q11 ++ [(e + (s.run l).adc.seq11 * 2 ^ 27, (s.grp l g).stamp)]
      (is q ∨ num % (2 ^ 38 * 10 ^ 7) ≠ 0 ∧ is (q + 1)) ∧ (t.run l).adc.seq11 = ((s.run l).adc.seq11 + 1) % 32) ∧
  (∀ (s : State) (l : Lane),
    s.canonical = true → s.alive l = true → (s.run l).adc.q11 = [] →
    leads (.adcQueuePop l false) s fun t => (t.run l).readData = 0xFFFFFFFF ∧ t.regs = s.regs) ∧
  (∀ (s : State) (l : Lane) (e stamp : Nat) (rest : List (Nat × Nat)),
    s.canonical = true → s.alive l = true → (s.run l).adc.q11 = (e, stamp) :: rest →
    leads (.adcQueuePop l false) s fun t =>
      (t.run l).readData = low 32 e ∧ (t.run l).adc.q11 = rest ∧ t.rd (laneDie l) R.ADC_Q11_STAMP.STAMP = low 32 stamp) ∧
  (∀ (s : State) (l : Lane),
    s.canonical = true → s.alive l = true → (s.run l).adc.q12 = [] →
    leads (.adcQueuePop l true) s fun t => (t.run l).readData = 0xFFFFFFFF ∧ t.regs = s.regs) ∧
  (∀ (s : State) (l : Lane) (e stamp : Nat) (rest : List (Nat × Nat)),
    s.canonical = true → s.alive l = true → (s.run l).adc.q12 = (e, stamp) :: rest →
    leads (.adcQueuePop l true) s fun t =>
      (t.run l).readData = low 32 e ∧ (t.run l).adc.q12 = rest ∧ t.rd (laneDie l) R.ADC_Q12_STAMP.STAMP = low 32 stamp)

/-- R132 to R141: `ADC_EST_STEP`, `ADC_CORR_WRITE`, `SYSCAL_MEASURE`, `SYSCAL_COLLECT_DONE`, `SYSCAL_APPLY`, `SYSCAL_ABORT`.
Where an average is no whole number its rounding is open, and so is a tie of R141's rounding (log entry 7). -/
def Obligations.ConverterCorrectionsMove : Prop :=
  (∀ (s : State) (l : Lane) (g : Fin 12) (k : Fin 4) (est : List (Int × Int × Int)) (quiet : Bool) (o g' k' : Int),
    s.canonical = true → s.past l 11 = true → s.on (laneDie l) R.ADC_CTRL.EST_EN = true → 0 < (s.grp l g).elig →
    (s.grp l g).elig % 2 ^ 16 = 0 → (s.grp l g).stepAt ≠ (s.grp l g).elig → est[k.val]? = some (o, g', k') →
    leads (.adcEstStep l g est quiet) s fun t =>
      let d := laneDie l
      let held := s.on d R.ADC_Gg_CFG.EST_FREEZE g || decide ((s.grp l g).elig < 2 ^ 20)
      let goal := if quiet then (s.grp l g).est[k].2.1 else g'
      (t.grp l g).est[k].1 = o ∧ (t.grp l g).est[k].2.1 = goal ∧
      t.rd d R.ADC_Gg_STATUS.LOW_SIGNAL g = b2n quiet ∧
      (held = true → t.rd d R.ADC_Gg_Sk_OG.OFFSET g k = s.rd d R.ADC_Gg_Sk_OG.OFFSET g k ∧
        t.rd d R.ADC_Gg_Sk_OG.GAIN g k = s.rd d R.ADC_Gg_Sk_OG.GAIN g k) ∧
      (held = false →
        t.rdS d R.ADC_Gg_Sk_OG.OFFSET g k =
          satS R.ADC_Gg_Sk_OG.OFFSET.w (stepTo (s.rdS d R.ADC_Gg_Sk_OG.OFFSET g k) o) ∧
        t.rdS d R.ADC_Gg_Sk_OG.GAIN g k =
          satS R.ADC_Gg_Sk_OG.GAIN.w (stepTo (s.rdS d R.ADC_Gg_Sk_OG.GAIN g k) goal))) ∧
  (∀ (s : State) (l : Lane) (c : Fin 64) (gain offset : BitVec 16),
    s.canonical = true → s.alive l = true →
    leads (.adcCorrWrite l c gain offset) s fun t =>
      let d := laneDie l
      t.rd d R.ADC_CHc_CORR.GAIN c = gain.toNat ∧ t.rd d R.ADC_CHc_CORR.OFFSET c = offset.toNat ∧
      t.rd d R.ADC_CHc_ENV.STATE c = envNone ∧ t.rd d R.ADC_CHc_ENV.MOVING c = 1 ∧ (t.corr l c).record = none ∧
      (t.corr l c).move.map (fun m => ((m.fromG, m.fromO), (m.toG, m.toO), m.k)) =
        some ((s.rdS d R.ADC_CHc_APPLIED.GAIN c, s.rdS d R.ADC_CHc_APPLIED.OFFSET c),
          (sx 16 gain.toNat, sx 16 offset.toNat), 0)) ∧
  (∀ (s : State) (l : Lane),
    s.canonical = true → s.alive l = true →
    leads (.syscalMeasure l) s fun t =>
      (s.modeOf l ≠ modeService → t = s.wr (laneDie l) R.ADC_SYSCAL_STATUS.RESULT 1) ∧
      (s.modeOf l = modeService → t.rd (laneDie l) R.ADC_SYSCAL_STATUS.BUSY = 1 ∧ (t.run l).adc.calSum = 0 ∧
        (t.run l).adc.calCount = 0 ∧
        (t.run l).adc.calTarget = 2 ^ (min 16 (max 8 (s.rd (laneDie l) R.ADC_SYSCAL_CTRL.LOG2N))))) ∧
  (∀ (s : State) (l : Lane),
    s.canonical = true → s.on (laneDie l) R.ADC_SYSCAL_STATUS.BUSY = true →
    (s.run l).adc.calTarget ≤ (s.run l).adc.calCount → 0 < (s.run l).adc.calCount →
    leads (.syscalCollectDone l) s fun t =>
      let d := laneDie l
      let num := 16 * (s.run l).adc.calSum
      let den := ((s.run l).adc.calCount : Int) * (2 ^ 22 * 10 ^ 7)
      let is := fun f : Fld => t.rd d f = (clampI 0 (2 ^ 18 - 1) (num / den)).toNat ∨
        num % den ≠ 0 ∧ t.rd d f = (clampI 0 (2 ^ 18 - 1) (num / den + 1)).toNat
      t.rd d R.ADC_SYSCAL_STATUS.BUSY = 0 ∧ t.rd d R.ADC_SYSCAL_STATUS.RESULT = 0 ∧
      (s.on d R.ADC_SYSCAL_CTRL.POINT = true →
        is R.ADC_SYSCAL_MEAS_FULL.MEAS ∧ t.rd d R.ADC_SYSCAL_STATUS.FULL_VALID = 1) ∧
      (s.on d R.ADC_SYSCAL_CTRL.POINT = false →
        is R.ADC_SYSCAL_MEAS_ZERO.MEAS ∧ t.rd d R.ADC_SYSCAL_STATUS.ZERO_VALID = 1)) ∧
  (∀ (s : State) (l : Lane) (mz mf tz tf : Nat) (gain ofs : Int),
    s.canonical = true → s.alive l = true → s.modeOf l = modeService →
    s.on (laneDie l) R.ADC_SYSCAL_STATUS.ZERO_VALID = true → s.on (laneDie l) R.ADC_SYSCAL_STATUS.FULL_VALID = true →
    s.rd (laneDie l) R.ADC_SYSCAL_MEAS_ZERO.MEAS = mz → s.rd (laneDie l) R.ADC_SYSCAL_MEAS_FULL.MEAS = mf →
    s.rd (laneDie l) R.ADC_SYSCAL_TARGET.ZERO = tz → s.rd (laneDie l) R.ADC_SYSCAL_TARGET.FULL = tf → mz < mf →
    ((mf : Int) - mz) * (2 * gain - 1) < 2 * ((16 * ((tf : Int) - tz) - ((mf : Int) - mz)) * 2 ^ 16) →
    2 * ((16 * ((tf : Int) - tz) - ((mf : Int) - mz)) * 2 ^ 16) < ((mf : Int) - mz) * (2 * gain + 1) →
    2 ^ 20 * (2 * ofs - 1) < 8 * (2 ^ 20 * (tz : Int) - (2 ^ 16 + gain) * mz) →
    8 * (2 ^ 20 * (tz : Int) - (2 ^ 16 + gain) * mz) < 2 ^ 20 * (2 * ofs + 1) →
    s.rd (laneDie l) R.ADC_SYSCAL_CTRL.CHANNEL < 64 →
    leads (.syscalApply l) s fun t =>
      let d := laneDie l
      let c := s.rd d R.ADC_SYSCAL_CTRL.CHANNEL
      if satS 16 gain = gain ∧ satS 16 ofs = ofs then
        t.rd d R.ADC_SYSCAL_STATUS.RESULT = 0 ∧ t.rdS d R.ADC_CHc_CORR.GAIN c = gain ∧
        t.rdS d R.ADC_CHc_CORR.OFFSET c = ofs ∧ t.rd d R.ADC_CHc_ENV.MOVING c = 1
      else t = s.wr d R.ADC_SYSCAL_STATUS.RESULT 2) ∧
  (∀ (s : State) (l : Lane),
    s.canonical = true → s.alive l = true → s.modeOf l = modeService →
    leads (.syscalApply l) s fun t =>
      let d := laneDie l
      (s.on d R.ADC_SYSCAL_STATUS.ZERO_VALID = false ∨ s.on d R.ADC_SYSCAL_STATUS.FULL_VALID = false →
        t = s.wr d R.ADC_SYSCAL_STATUS.RESULT 4) ∧
      (s.on d R.ADC_SYSCAL_STATUS.ZERO_VALID = true ∧ s.on d R.ADC_SYSCAL_STATUS.FULL_VALID = true ∧
          s.rd d R.ADC_SYSCAL_MEAS_ZERO.MEAS = s.rd d R.ADC_SYSCAL_MEAS_FULL.MEAS →
        t = s.wr d R.ADC_SYSCAL_STATUS.RESULT 2)) ∧
  (∀ (s : State) (l : Lane),
    s.canonical = true → s.on (laneDie l) R.ADC_SYSCAL_STATUS.BUSY = true →
    leads (.syscalAbort l) s fun t =>
      t.rd (laneDie l) R.ADC_SYSCAL_STATUS.BUSY = 0 ∧ t.rd (laneDie l) R.ADC_SYSCAL_STATUS.RESULT = 3)

/-- R143 to R145: `SDF_RESULT`, `SDF_TRIP_COMPARE`, `SDF_STUCK`, `SDF_CLK_FAULT`, `SDF_REFILLED`. -/
def Obligations.SigmaDeltaFiltersReportAndTrip : Prop :=
  (∀ (s : State) (l : Lane) (n : Fin 12) (rising falling : List Bool),
    s.canonical = true → s.past l 10 = true → s.on (laneDie l) R.SDF_Fn_CFG.EN n = true →
    s.rd (laneDie l) R.SDF_Fn_APPLIED.GAIN n = 0 → s.rd (laneDie l) R.SDF_Fn_APPLIED.OFFSET n = 0 →
    s.rd (laneDie l) R.SDF_Fn_OUT.IAVG n ≤ 1 → s.on (laneDie l) R.SDF_Fn_OUT.DEST_CE n = false →
    s.on (laneDie l) R.SDF_Fn_OUT.DEST_ASY n = false →
    leads (.sdfResult l n rising falling) s fun t =>
      let bits := if s.on (laneDie l) R.SDF_Fn_CFG.EDGE n then falling else rising
      let y := sincSum (clampN 1 5 (s.rd (laneDie l) R.SDF_Fn_CFG.ORDER n))
          (clampN 4 1024 (s.rd (laneDie l) R.SDF_Fn_CFG.OSR n)) 1 bits / 2 ^ s.rd (laneDie l) R.SDF_Fn_CFG.SHIFT n
      t.rdS (laneDie l) R.SDF_Fn_DATA.DATA n = satS 32 y ∧
      t.rd (laneDie l) R.SDF_Fn_STAMP.STAMP n = low 32 (s.laneTime l) ∧ t.rd (laneDie l) R.SDF_Fn_STATUS.NEW n = 1 ∧
      (satS 32 y ≠ y → t.rd (laneDie l) R.SDF_Fn_STATUS.SAT n = 1)) ∧
  (∀ (s : State) (l : Lane) (n : Fin 12) (rising falling : List Bool),
    s.canonical = true → s.past l 11 = true → s.on (laneDie l) R.SDF_Fn_TRIP.EN n = true →
    s.on (laneDie l) R.SDF_Fn_STATUS.STUCK n = false → s.on (laneDie l) R.SDF_Fn_STATUS.CLK_FAULT n = false →
    leads (.sdfTripCompare l n rising falling) s fun t =>
      let d := laneDie l
      let bits := if s.on d R.SDF_Fn_CFG.EDGE n then falling else rising
      let v := satS 16 (sincSum (clampN 1 3 (s.rd d R.SDF_Fn_TRIP.ORDER n)) (clampN 4 64 (s.rd d R.SDF_Fn_TRIP.OSR n)) 1 bits / 2 ^ s.rd d R.SDF_Fn_TRIP.TSHIFT n)
      let hi := decide (s.rdS d R.SDF_Fn_THR.HI n ≤ v)
      let lo := decide (v ≤ s.rdS d R.SDF_Fn_THR.LO n)
      t.rdS d R.SDF_Fn_TRIP_DATA.DATA n = v ∧ t.rd d R.SDF_Fn_STATUS.HI n = b2n hi ∧
      t.rd d R.SDF_Fn_STATUS.LO n = b2n lo ∧ t.rdBit d R.SDF_STATUS.TRIP n = (hi || lo)) ∧
  (∀ (s : State) (l : Lane) (n : Fin 12),
    s.canonical = true → s.past l 11 = true → s.on (laneDie l) R.SDF_Fn_CFG.EN n = true →
    leads (.sdfStuck l n) s fun t =>
      let d := laneDie l
      t.rd d R.SDF_Fn_STATUS.STUCK n = 1 ∧ t.rd d R.SDF_Fn_STATUS.VALID n = 0 ∧ t.rdBit d R.SDF_STATUS.FAULT n = true ∧
      t.rd d R.SDF_Fn_STATUS.HI n = 0 ∧ t.rd d R.SDF_Fn_STATUS.LO n = 0) ∧
  (∀ (s : State) (l : Lane) (n : Fin 12),
    s.canonical = true → s.past l 11 = true → s.on (laneDie l) R.SDF_Fn_CFG.EN n = true →
    s.on (laneDie l) R.SDF_Fn_CFG.CLK_EXT n = true →
    leads (.sdfClkFault l n) s fun t =>
      let d := laneDie l
      t.rd d R.SDF_Fn_STATUS.CLK_FAULT n = 1 ∧ t.rd d R.SDF_Fn_STATUS.VALID n = 0 ∧
      t.rdBit d R.SDF_STATUS.FAULT n = true ∧ t.rd d R.SDF_Fn_STATUS.HI n = 0 ∧ t.rd d R.SDF_Fn_STATUS.LO n = 0) ∧
  (∀ (s : State) (l : Lane) (n : Fin 12),
    s.canonical = true → s.past l 11 = true → s.on (laneDie l) R.SDF_Fn_CFG.EN n = true →
    s.on (laneDie l) R.SDF_Fn_STATUS.STUCK n = false → s.on (laneDie l) R.SDF_Fn_STATUS.CLK_FAULT n = false →
    leads (.sdfRefilled l n) s fun t =>
      t.rd (laneDie l) R.SDF_Fn_STATUS.VALID n = 1 ∧ t.rdBit (laneDie l) R.SDF_STATUS.FAULT n = false)

/-- R192 to R194: `TRC_ARM`, `TRC_DUMP`, `TRC_ABORT`, `TRC_TRIGGER`, `TRACE_TRIGGER_EVENT`, `TRACE_POST_DONE`. -/
def Obligations.TraceBuffersArmTriggerAndDump : Prop :=
  (∀ (s : State) (l : Lane) (b : Fin 8),
    s.canonical = true → s.past l 11 = true →
    leads (.trcArm l b) s fun t =>
      if (s.trc l b).phase = trcDumping then
        t.rd (laneDie l) R.TRC_Bb_INFO.ARM_REFUSED b = 1 ∧ t.trc l b = s.trc l b
      else
        (t.trc l b).phase = (if s.trcPre l b = 0 then trcReady else trcFill) ∧ (t.trc l b).kept = 0 ∧
        t.rd (laneDie l) R.TRC_Bb_INFO.PRE_SHORT b = 0 ∧ t.rd (laneDie l) R.TRC_Bb_INFO.ARM_REFUSED b = 0 ∧
        t.rd (laneDie l) R.TRC_Bb_INFO.ENTRIES b = 0) ∧
  (∀ (s : State) (l : Lane) (b : Fin 8),
    s.canonical = true → s.past l 11 = true → (s.trc l b).phase = trcDone →
    leads (.trcDump l b) s fun t =>
      let d := laneDie l
      let dl := s.laneTime l + orOne (s.rd d R.TRC_Bb_DL.MS b) * ms
      let a := s.admission l 10 33 dl (.dump b)
      t.rd d R.TRC_Bb_DUMP.CODE b = a.code ∧ t.rd d R.TRC_Bb_DUMP.ADMITTED b = b2n (a.code == 0) ∧
      (a.code = 0 → t.rd d R.TRC_Bb_DUMP.ID b = low 6 a.id ∧ (t.trc l b).phase = trcDumping ∧
        t.rd d R.TRC_Bb_DUMP.OUTCOME_VALID b = 0 ∧ (t.tal l).entries.length = (s.tal l).entries.length + 1)) ∧
  (∀ (s : State) (l : Lane) (b : Fin 8),
    s.canonical = true → s.past l 11 = true → (s.trc l b).phase ≠ trcDone →
    leads (.trcDump l b) s fun t =>
      t.rd (laneDie l) R.TRC_Bb_DUMP.CODE b = 3 ∧ t.rd (laneDie l) R.TRC_Bb_DUMP.ADMITTED b = 0) ∧
  (∀ (s : State) (l : Lane) (b : Fin 8),
    s.canonical = true → s.past l 11 = true → (s.trc l b).phase ≠ trcDumping →
    leads (.trcAbort l b) s fun t => (t.trc l b).phase = trcIdle) ∧
  (∀ (s : State) (l : Lane) (b : Fin 8),
    s.canonical = true → s.past l 11 = true → s.trcLinked l b = false →
    (s.trc l b).phase = trcFill ∨ (s.trc l b).phase = trcReady →
    (let fired := fun t : State => (t.trc l b).phase = trcPost ∧ (t.trc l b).post = 0 ∧
      t.rd (laneDie l) R.TRC_Bb_INFO.PRE_SHORT b = b2n ((s.trc l b).phase = trcFill) ∧
      t.rd (laneDie l) R.TRC_Bb_STAMP_LO.TIME b = low 32 (s.laneTime l)
    leads (.trcTrigger l b) s fired ∧
    ((s.trc l b).sent = true → leads (.traceTriggerEvent l b) s fired))) ∧
  (∀ (s : State) (l : Lane) (b : Fin 8),
    s.canonical = true → (s.trc l b).phase = trcPost → s.trcCap l b - s.trcPre l b ≤ (s.trc l b).post →
    s.rdBit (laneDie l) R.TRC_CTRL.AUTO_DUMP b = false →
    leads (.tracePostDone l b) s fun t => (t.trc l b).phase = trcDone ∧ (t.trc l b).kept = (s.trc l b).kept)

/-- R178 to R183: `BAND_ENABLE`, `BAND_EVALUATE`, `BAND_EDGE_REPORT`, `BAND_STALL`.
R175 to R188: `ARITH_TRIGGER`, `ARITH_EXECUTE`, `CE_INT_PRESET`. -/
def Obligations.BandAndArithmeticSlotsExecute : Prop :=
  (∀ (s : State) (l : Lane) (n : Fin 32),
    s.canonical = true → s.past l 11 = true → s.rd (laneDie l) R.CE_Bn_STATUS.STATE n = bandOff →
    leads (.bandEnable l n) s fun t =>
      let d := laneDie l
      t.rd d R.CE_Bn_CFG.EN n = 1 ∧
      (s.bandCfgErr l n = true → t.rd d R.CE_Bn_STATUS.CFG_ERR n = 1 ∧ t.rd d R.CE_Bn_STATUS.STATE n = bandOff) ∧
      (s.bandCfgErr l n = false → t.rd d R.CE_Bn_STATUS.CFG_ERR n = 0 ∧ t.rd d R.CE_Bn_STATUS.STATE n = bandSettle ∧
        t.rd d R.CE_Bn_H.H n = low R.CE_Bn_H.H.w
          (clampN (s.rd d R.CE_Bn_HMIN.H n) (s.rd d R.CE_Bn_HMAX.H n) (s.rd d R.CE_Bn_HINIT.H n)))) ∧
  (∀ (s : State) (l : Lane) (n : Fin 32) (x skew : Int) (rest : List (Int × Int)) (age : Nat),
    s.canonical = true → s.past l 11 = true → s.rd (laneDie l) R.CE_Bn_STATUS.STATE n = bandSettle →
    (s.band l n).due = (x, skew) :: rest → (s.ch l (s.bandCh l n)).eng = none → (s.band l n).forced = false →
    s.bandCfgErr l n = false → s.bandSig l n = false → s.bandBeyond l n (s.bandError l n x) = true →
    leads (.bandEvaluate l n age) s fun t =>
      let d := laneDie l
      let at_ := fun k : Int => (t.band l n).edge = some (s.steps - age + k + 4608, !s.on d R.CE_Bn_STATUS.LEVEL n)
      (t.band l n).due = rest ∧
      t.rd d R.CE_Bn_STATUS.STATE n = bandPending ∧ t.rd d R.CE_Bn_STATUS.LATE n = 1 ∧ rose s t d R.CE_Bn_CNT.LATE n ∧
      (at_ (skew * 128 / 125000) ∨ skew * 128 % 125000 ≠ 0 ∧ at_ (skew * 128 / 125000 + 1))) ∧
  (∀ (s : State) (l : Lane) (n : Fin 32) (x : Int),
    s.canonical = true → s.rd (laneDie l) R.CE_Bn_STATUS.STATE n ≠ bandOff →
    s.rd (laneDie l) R.CE_Bn_STATUS.STATE n ≠ bandErr → (s.ch l (s.bandCh l n)).report = some (.issued, x) →
    leads (.bandEdgeReport l n) s fun t =>
      let d := laneDie l
      t.rd d R.CE_Bn_STATUS.LEVEL n = b2n (s.bandL l n (s.ch l (s.bandCh l n)).level) ∧ rose s t d R.CE_Bn_CNT.EDGES n ∧
      t.rd d R.CE_Bn_STATUS.STATE n = bandSettle ∧ (t.band l n).win = [] ∧ (t.ch l (s.bandCh l n)).report = none) ∧
  (∀ (s : State) (l : Lane) (n : Fin 32) (x : Int),
    s.canonical = true → s.rd (laneDie l) R.CE_Bn_STATUS.STATE n = bandPending →
    (s.ch l (s.bandCh l n)).report = some (.dropped, x) →
    leads (.bandEdgeReport l n) s fun t =>
      let d := laneDie l
      t.rd d R.CE_Bn_STATUS.LEVEL n = s.rd d R.CE_Bn_STATUS.LEVEL n ∧ rose s t d R.CE_Bn_DROP.DROPPED n ∧
      t.rd d R.CE_Bn_STATUS.STATE n = low R.CE_Bn_STATUS.STATE.w (s.band l n).before ∧
      t.rd d R.CE_Bn_STATUS.DROPPED n = 1) ∧
  (∀ (s : State) (l : Lane) (n : Fin 32),
    s.canonical = true → s.past l 11 = true → s.rd (laneDie l) R.CE_Bn_STATUS.STATE n ≠ bandOff →
    s.bandSig l n = false →
    leads (.bandStall l n) s fun t =>
      t.rd (laneDie l) R.CE_Bn_STATUS.STALL n = 1 ∧ t.rd (laneDie l) R.CE_Bn_STATUS.STATE n = bandErr) ∧
  (∀ (s : State) (l : Lane) (i : Fin 24),
    s.canonical = true → s.past l 11 = true → s.rd (laneDie l) R.CE_Ai_CFG.TRIG i < 99 →
    s.rd (laneDie l) R.CE_Ai_CFG.TRIG i ≠ 43 + i.val → s.rd (laneDie l) R.CE_Ai_CFG.TRIG i ≠ 0 →
    s.rd (laneDie l) R.CE_Ai_CFG.OP i ≠ 0 → 0 < (s.arith l i).sent →
    leads (.arithTrigger l i) s fun t =>
      let a := { s.arith l i with sent := (s.arith l i).sent - 1 }
      let full := orOne (s.rd (laneDie l) R.CE_Ai_CFG.DIV i) ≤ a.div + 1
      (¬ full → t.arith l i = { a with div := a.div + 1 }) ∧
      (full ∧ a.ready = none → t.arith l i = { a with div := 0, ready := some s.now }) ∧
      (full ∧ a.ready ≠ none ∧ a.pend = none → t.arith l i = { a with div := 0, pend := some s.now }) ∧
      (full ∧ a.ready ≠ none ∧ a.pend ≠ none → t.arith l i = { a with div := 0 } ∧
        t.rd (laneDie l) R.CE_Ai_STATUS.OVR i = 1 ∧ rose s t (laneDie l) R.CE_Ai_TIME.OVERRUNS i)) ∧
  (∀ (s : State) (l : Lane) (i : Fin 24) (st : Nat),
    s.canonical = true → s.past l 11 = true → (s.arith l i).ready = some st →
    (∀ j : Fin 24, j < i → (s.arith l j).ready = none) →
    s.rd (laneDie l) R.CE_Ai_CFG.OP i = 4 ∨ s.rd (laneDie l) R.CE_Ai_CFG.OP i = 7 →
    s.rd (laneDie l) R.CE_Ai_IN.C i ≠ i.val + 1 → s.on (laneDie l) R.CE_Ai_CFG.FE_EN i = false →
    s.on (laneDie l) R.CE_Ai_CFG.URG_EN i = false →
    leads (.arithExecute l i) s fun t =>
      let d := laneDie l
      let a := s.srcVal l (s.rd d R.CE_Ai_IN.A i)
      let b := s.srcVal l (s.rd d R.CE_Ai_IN.B i)
      let c := s.srcVal l (s.rd d R.CE_Ai_IN.C i)
      let k := fun j : Nat => s.rdS d R.CE_Ai_Kj.K i j
      let u := if s.rd d R.CE_Ai_CFG.OP i = 7 then a - b else (k 0 * a + k 1 * b + k 2 * c) / 2 ^ 24 + k 3
      let lo := s.rdS d R.CE_Ai_OUTLIM.MIN i * 2 ^ 16
      let hi := s.rdS d R.CE_Ai_OUTLIM.MAX i * 2 ^ 16 + 65535
      let y := satS 32 (min (max u lo) hi)
      t.rdS d R.CE_Ai_OUT.Y i = y ∧ t.rd d R.CE_Ai_STATUS.SAT i = b2n (y != u) ∧
      (t.arith l i).ready = (s.arith l i).pend ∧ (t.arith l i).pend = none ∧ t.srcVal l (i.val + 1) = y) ∧
  (∀ (s : State) (l : Lane) (i : Fin 24) (lo : BitVec 32) (hi : BitVec 16),
    s.canonical = true → s.alive l = true →
    leads (.ceIntPreset l i (some lo) hi) s fun t =>
      (t.arith l i).preset = some (sx 48 (hi.toNat * 2 ^ 32 + lo.toNat)) ∧
      t.rd (laneDie l) R.CE_Ai_STATUS.PRESET_PEND i = 1)

/-- R103 to R114: `TALLY_OUTCOME`, `TALLY_ABORT_LEAD`, `TALLY_MISS`, `TAL_CANCEL`, `TAL_OUT_POP`, `TARGET_OFF_FAIL`, from every
state with an entry `e` that holds identifier `id`; the job's own consequences are stated with its block.
R89 and R115: `TIM_EXPIRY` and `NVM_REQ_GO`. -/
def Obligations.TallyTimersAndNvmRequestsAct : Prop :=
  (∀ (s : State) (l : Lane) (id : Fin 64) (e : TalEntry) (code : OutcomeCode),
    s.canonical = true → s.alive l = true → (s.tal l).find id = some e → e.job = .plain → ownEnd e = false →
    e.st ≠ .waiting → queueAllows e.queue code = true →
    code = .done ∧ e.started = true ∨ code = .failedNoack ∨ code = .failedMedia → (s.tal l).ring.length < 128 →
    e.queue < 16 →
    leads (.tallyOutcome l id code) s fun t =>
      (t.tal l).ring = (s.tal l).ring ++ [⟨e.id, e.queue, code.code, decide (e.deadline < s.laneTime l), e.who,
        low 32 (s.laneTime l)⟩] ∧ (t.tal l).find id = none ∧
      (code = .done → rose s t (laneDie l) R.TAL_Qq_STAT.DONE e.queue) ∧
      (code ≠ .done → rose s t (laneDie l) R.TAL_Qq_STAT.FAIL_DROP e.queue)) ∧
  (∀ (s : State) (l : Lane) (id : Fin 64) (e : TalEntry),
    s.canonical = true → s.alive l = true → (s.tal l).find id = some e → e.job = .plain →
    (s.tal l).ring.length < 128 → e.queue < 16 →
    (let posted := fun (code : OutcomeCode) (t : State) =>
      (t.tal l).ring.length = (s.tal l).ring.length + 1 ∧
      ((t.tal l).ring.getLast?.map fun r => (r.id, r.queue, r.code, r.who)) = some (e.id, e.queue, code.code, e.who) ∧
      (t.tal l).find id = none ∧ rose s t (laneDie l) R.TAL_Qq_STAT.FAIL_DROP e.queue
    (e.st = .waiting ∧ queueAllows e.queue .cancelled = true → leads (.talCancel l id) s (posted .cancelled)) ∧
    (e.st ≠ .ending → leads (.targetOffFail l id) s (posted .failedOff)) ∧
    (e.st ≠ .ending ∧ e.queue ≤ 6 ∧ s.inAttempt l e = false → leads (.tallyAbortLead l id) s (posted .failedNoack)) ∧
    (e.st ≠ .ending ∧ (6 < e.queue ∨ s.inAttempt l e = true) → leads (.tallyAbortLead l id) s fun t =>
      (t.tal l).find id = some { e with st := .ending } ∧ (t.tal l).ring = (s.tal l).ring))) ∧
  (∀ (s : State) (l : Lane) (id : Fin 64) (e : TalEntry),
    s.canonical = true → s.alive l = true → (s.tal l).find id = some e → e.missed = false →
    leads (.tallyMiss l id) s fun t =>
      t.rd (laneDie l) R.TAL_STATUS.MISS = 1 ∧ t.rd (laneDie l) R.TAL_STATUS.LAST_MISS_ID = id ∧
      t.rd (laneDie l) R.TAL_STATUS.LAST_MISS_Q = low R.TAL_STATUS.LAST_MISS_Q.w e.queue ∧
      rose s t (laneDie l) R.TAL_MISS_CNT.COUNT ∧ s.instantOf l (e.deadline + 1) ≤ t.now) ∧
  (∀ (s : State) (l : Lane) (r : OutRec) (rest : List OutRec),
    s.canonical = true → s.alive l = true → (s.tal l).ring = r :: rest →
    leads (.talOutPop l) s fun t =>
      (t.tal l).ring = rest ∧ t.rd (laneDie l) R.TAL_OUT_W1.TIME = low 32 r.time ∧
      (t.run l).readData = r.id + r.queue * 2 ^ 8 + r.code * 2 ^ 12 + b2n r.late * 2 ^ 15 + r.who * 2 ^ 16 + 2 ^ 31) ∧
  (∀ (s : State) (l : Lane),
    s.canonical = true → s.alive l = true → (s.tal l).ring = [] →
    leads (.talOutPop l) s fun t => (t.run l).readData = 0 ∧ t.regs = s.regs) ∧
  (∀ (s : State) (l : Lane) (n : Fin 8) (e : Nat),
    s.canonical = true → s.alive l = true → s.timEnd l n = some e → (n ≠ 7 ∨ (s.run l).sup.tim7 = false) →
    leads (.timExpiry l n) s fun t =>
      let d := laneDie l
      t.rd d R.TIM_Tn_STATUS.EXPIRED n = 1 ∧ t.now = max s.now (s.instantOf l e) ∧
      (s.on d R.TIM_Tn_STATUS.EXPIRED n = true → t.rd d R.TIM_Tn_STATUS.OVERRUN n = 1) ∧
      (s.on d R.TIM_Tn_CFG.PERIODIC n = true → (t.run l).tims[n].start = some e) ∧
      (s.on d R.TIM_Tn_CFG.PERIODIC n = false → (t.run l).tims[n].start = none ∧ t.rd d R.TIM_Tn_COUNT.COUNTS n = 0)) ∧
  (∀ (s : State) (l : Lane) (who : Initiator),
    s.canonical = true → s.canAccess l who = true →
    leads (.nvmReqGo l who) s fun t =>
      let d := laneDie l
      let area := s.rd d R.NVM_REQ_AREA.AREA
      let len := s.rd d R.NVM_REQ_LEN.LEN
      let src := s.rd d R.NVM_REQ_SRC.ADDR
      let offset := s.rd d R.NVM_REQ_OFFSET.OFFSET
      let a := s.admission l 7 (len / 512) (dl40 (s.rd d R.NVM_REQ_DEADLINE_LO.DL) (s.rd d R.NVM_REQ_DEADLINE_HI.DL))
        (.nvm area offset len src)
      let code := if s.areaProtected l area then 3 else if !s.nvmRange l area offset len src then 4 else a.code
      t.rd d R.NVM_REQ_RESULT.CODE = code ∧ t.rd d R.NVM_REQ_RESULT.ADMITTED = b2n (code == 0) ∧
      (code = 0 → s.on d R.NVM_STATUS.EMMC_READY = true ∧ area < 8 → (t.tal l).find a.id ≠ none))

/-- R15, R99, R100, R423: `TRACTION_CYCLE_BOUNDARY`, `TIME_FRAME`, `AS_SYNC`, `AS_SYNC_LAPSE`, `AS_PDELAY_REQ`,
`AS_PDELAY_ANNOUNCE_RX`. The rounding of a half count or of a tenth of a count is open (log entry 7). -/
def Obligations.TimeIsKeptAcrossLanesAndNetwork : Prop :=
  (∀ (s : State) (l : Lane) (n : Nat),
    s.canonical = true → (s.run l).phase = .starting n → 3 < n → n ≤ 11 → (s.run l).clk.t0.isSome = true →
    leads (.tractionCycleBoundary l) s fun t =>
      let k := nextMultiple (s.masterTime l) 10000 (s.run l).clk.cycle
      t.now = max s.now (s.instantOfMaster l (k * 10000)) ∧
      rose s t (laneDie l) R.TIM_PARTNER_STAT.AGE ∧
      t.rd (laneDie l) R.TIM_PARTNER_STAT.VALID = b2n (s.on (laneDie l) R.TIM_PARTNER_STAT.VALID &&
        decide (t.rd (laneDie l) R.TIM_PARTNER_STAT.AGE ≤ 10))) ∧
  (∀ (s : State) (l : Lane) (transit t1 t2 : Nat),
    s.canonical = true → s.domains l = true → s.domains l.other = true → s.past l 17 = false →
    (s.run l.other).clk.heard = some (t2, t1) →
    leads (.timeFrame l [] transit) s fun t =>
      let sent := s.laneTime l.other
      let arrived := (s.advTo (s.now + 9 + transit)).laneTime l
      let num := ((t2 : Int) - t1) - ((arrived : Int) - sent)
      let rtt := (((arrived : Int) - t1) - ((sent : Int) - t2)).toNat
      let ofs := fun x : Int => t.rd64 l R.TIM_PARTNER_OFS_LO.OFS R.TIM_PARTNER_OFS_HI.OFS = ux 64 x
      (ofs (num / 2) ∨ num % 2 ≠ 0 ∧ ofs (num / 2 + 1)) ∧ t.rd (laneDie l) R.TIM_PARTNER_STAT.VALID = 1 ∧
      t.rd (laneDie l) R.TIM_PARTNER_STAT.AGE = 0 ∧
      t.now = s.now + 9 + transit ∧ t.rd (laneDie l) R.TIM_PARTNER_STAT.RTT = min rtt (2 ^ R.TIM_PARTNER_STAT.RTT.w - 1)) ∧
  (∀ (s : State) (l : Lane) (m : Fin 2) (origin corr ago : Nat) (logSync : BitVec 8) (unc : Fin 2),
    s.canonical = true → s.asRuns l m = true → s.on (laneDie l) R.ETHm_AS_STATUS.AS_CAPABLE m = true →
    s.on (laneDie l) R.ETHm_AS_STATUS.GM_PRESENT m = true →
    m = 0 ∨ s.on (laneDie l) R.ETHm_AS_STATUS.SYNCED 0 = false →
    leads (.asSync l m origin corr ago logSync unc) s fun t =>
      let d := laneDie l
      let ns := origin + corr + s.rd d R.ETHm_AS_PDELAY.NS m
      let epoch := fun x : Int => t.rd64 l R.TIM_EPOCH_LO.EPOCH R.TIM_EPOCH_HI.EPOCH = ux 64 (x - (s.laneTime l - ago : Nat))
      t.rd d R.ETHm_AS_STATUS.SYNCED m = 1 ∧ t.rd d R.TIM_QUAL.NET_LOCK = 1 ∧ t.rd d R.TIM_QUAL.SOURCE = 3 ∧
      (epoch ((ns / 10 : Nat) : Int) ∨ ns % 10 ≠ 0 ∧ epoch ((ns / 10 : Nat) + 1 : Int))) ∧
  (∀ (s : State) (l : Lane) (m : Fin 2),
    s.canonical = true → s.past l 17 = true → s.on (laneDie l) R.ETHm_AS_STATUS.SYNCED m = true →
    leads (.asSyncLapse l m) s fun t =>
      t.rd (laneDie l) R.ETHm_AS_STATUS.SYNCED m = 0 ∧
      t.now = max s.now ((s.ethSt l ⟨m, by omega⟩).syncAt + threeSyncs (s.rd (laneDie l) R.ETHm_AS_STATUS.LOG_SYNC m))) ∧
  (∀ (s : State) (l : Lane) (m : Fin 2),
    s.canonical = true → s.asRuns l m = true →
    leads (.asPdelayReq l m) s fun t =>
      (t.ethSt l ⟨m, by omega⟩).pdelaySeq = ((s.ethSt l ⟨m, by omega⟩).pdelaySeq + 1) % 2 ^ 16 ∧
      ((s.ethSt l ⟨m, by omega⟩).pdelaySeq ≠ 0 →
        t.now = max s.now ((s.ethSt l ⟨m, by omega⟩).pdelayAt + s.pdelayGap l m))) ∧
  (∀ (s : State) (l : Lane) (m : Fin 2) (seq : BitVec 16) (delay : BitVec 32) (present : Bool),
    s.canonical = true → s.asRuns l m = true →
    (leads (.asPdelayAnnounceRx l m (AsMsg.pdelayReq seq)) s fun t =>
        (t.ethSt l ⟨m, by omega⟩).answered = some seq.toNat) ∧
      (leads (.asPdelayAnnounceRx l m (AsMsg.pdelayResp delay)) s fun t =>
        t.rd (laneDie l) R.ETHm_AS_PDELAY.NS m = delay.toNat ∧ t.rd (laneDie l) R.ETHm_AS_STATUS.AS_CAPABLE m =
          b2n (decide (delay.toNat ≤ s.rd (laneDie l) R.ETHm_AS_CFG.NEIGHBOR_THR m))) ∧
      (leads (.asPdelayAnnounceRx l m (AsMsg.announce present)) s fun t =>
        t.rd (laneDie l) R.ETHm_AS_STATUS.GM_PRESENT m = b2n present))

/-- R153 to R156 and R165 to R167: `RESOLVER_UPDATE`, `RESOLVER_CAR_STEP`, `SENT_FRAME`, `SENT_STALE`. -/
def Obligations.ResolversAndSentReport : Prop :=
  (∀ (s : State) (l : Lane) (n : Fin 2) (est : Int × Int × Int × Int),
    s.canonical = true → s.past l 11 = true → s.on (laneDie l) R.POS_RESn_CFG.EN n = true →
    leads (.resolverUpdate l n est) s fun t =>
      let d := laneDie l
      let x := s.res l n
      nearly ((s.resSum l n x.sin).2 + (s.resSum l n x.cos).2) ((s.resDiv l n : Int) * 2 ^ 31) (fun q : Int =>
        nearly q (2 ^ 20) fun z : Int => t.rd d R.POS_RESn_AMP.QUAD n = ux 16 (satS 16 z)) ∧
      t.rd d R.POS_RESn_STATUS.CFG_ERR n = b2n (s.resCfgErr l n) ∧
      (s.resCfgErr l n = true → t.rd d R.POS_RESn_STATUS.VALID n = 0 ∧ t.rdBit d R.POS_STATUS.RES_VALID n = false) ∧
      (x.clip = true ∧ x.dosD = false ∧ orOne (s.rd d R.POS_RESn_LIMIT.COUNT n) ≤ x.dos + 1 →
        t.rd d R.POS_RESn_STATUS.DOS n = 1 ∧ rose s t d R.POS_RESn_FLT.DOS_CNT n ∧ t.rd d R.POS_RESn_STATUS.VALID n = 0)) ∧
  (∀ (s : State) (l : Lane) (n : Fin 2),
    s.canonical = true → s.past l 11 = true → s.on (laneDie l) R.POS_RESn_CFG.EN n = true →
    leads (.resolverCarStep l n) s fun t =>
      let x := s.res l n
      t.now = max s.now (x.carAt + 1280 * s.resDiv l n) ∧ (t.res l n).carAt = x.carAt + 1280 * s.resDiv l n ∧
      t.rd (laneDie l) R.POS_RESn_CAR.CAR n = (if s.on (laneDie l) R.POS_RESn_CFG.CORR_FREEZE n
        then s.rd (laneDie l) R.POS_RESn_CAR.CAR n
        else low R.POS_RESn_CAR.CAR.w (ux 16 ((s.rd (laneDie l) R.POS_RESn_CAR.CAR n : Int) +
          carStep (x.lastS + x.lastC) x.lastQ)))) ∧
  (∀ (s : State) (l : Lane) (n : Fin 4) (T st crc pause q : Nat) (data : List Nat),
    s.canonical = true → s.past l 11 = true → s.on (laneDie l) R.POS_SENTs_CFG.EN n = true →
    ((s.run l).pos.sent[n]).sync = some q → 64 * (56 * T) ≤ 65 * q → 63 * q ≤ 64 * (56 * T) →
    8 * (56 * 40 * clampN 30 900 (s.rd (laneDie l) R.POS_SENTs_CFG.TICK n)) ≤ 10 * (56 * T) →
    10 * (56 * T) ≤ 12 * (56 * 40 * clampN 30 900 (s.rd (laneDie l) R.POS_SENTs_CFG.TICK n)) →
    data.length = clampN 1 6 (s.rd (laneDie l) R.POS_SENTs_CFG.NIBBLES n) → (∀ v ∈ st :: crc :: data, v < 16) →
    12 ≤ pause → pause ≤ 768 →
    leads (.sentFrame l n (((56 :: (st :: data ++ [crc]).map fun v => v + 12) ++
        (if s.on (laneDie l) R.POS_SENTs_CFG.PAUSE n then [pause] else [])).flatMap fun v => [5 * T, (v - 5) * T])) s fun t =>
      let d := laneDie l
      if crc = sentCrc (s.on d R.POS_SENTs_CFG.CRC_LEGACY n) data then
        t.rd d R.POS_SENTs_FAST.DATA n = low R.POS_SENTs_FAST.DATA.w (data.foldl (fun a x => 16 * a + x) 0) ∧
        t.rd d R.POS_SENTs_FAST.STATUS n = st ∧
        t.rd d R.POS_SENTs_FAST.SEQ n = low R.POS_SENTs_FAST.SEQ.w (s.rd d R.POS_SENTs_FAST.SEQ n + 1) ∧
        t.rd d R.POS_SENTs_TICK.TICK n = low R.POS_SENTs_TICK.TICK.w T ∧ t.rd d R.POS_SENTs_STATUS.VALID n = 1 ∧
        t.rd d R.POS_SENTs_STATUS.NEW_FAST n = 1
      else rose s t d R.POS_SENTs_ERR.CRC n ∧ t.rd d R.POS_SENTs_FAST.DATA n = s.rd d R.POS_SENTs_FAST.DATA n ∧
        t.rd d R.POS_SENTs_FAST.SEQ n = s.rd d R.POS_SENTs_FAST.SEQ n) ∧
  (∀ (s : State) (l : Lane) (n : Fin 4),
    s.canonical = true → s.on (laneDie l) R.POS_SENTs_STATUS.VALID n = true →
    leads (.sentStale l n) s fun t =>
      t.rd (laneDie l) R.POS_SENTs_STATUS.VALID n = 0 ∧ t.rdBit (laneDie l) R.POS_STATUS.SENT_VALID n = false ∧
      t.now = max s.now (((s.run l).pos.sent[n]).lastAt + orOne (s.rd (laneDie l) R.POS_SENTs_LIMIT.STALE_TIME n) * us))

/-- R157 to R164: `PT_COUNTING_EDGE`, `PT_GLITCH`, `PT_REFERENCE_EDGE`, `PT_EXTRAPOLATE`, `PT_ZERO_SPEED`. The rounding of an
extrapolated angle is open (log entry 7). -/
def Obligations.PulseTrainsCountAndReference : Prop :=
  (∀ (s : State) (l : Lane) (p : Fin 6) (mode dt stable : Nat) (levels : BitVec 2),
    s.canonical = true → s.past l 11 = true → s.ptMode l p = some mode → s.ptAccepts l p stable = true →
    leads (.ptCountingEdge l p dt stable levels) s fun t =>
      let d := laneDie l
      let x := s.pt l p
      let lv := x.lv / 4 % 2 * 4 + levels.toNat
      let b0 := s.ptLevel l p x.lv 1
      let b1 := s.ptLevel l p lv 1
      let age := if b0 != b1 then some 0 else x.bAge.map (· + dt)
      let e := ptEdge mode (s.on d R.POS_PTp_CFG.TW_EDGE p) (s.ptLevel l p x.lv 0) b0 (s.ptLevel l p lv 0) b1 age
        (s.rd d R.POS_PTp_FILT.DIR_SETUP p)
      let lower := low 8 (s.rd d R.POS_PTp_STATUS.ERR_LEVEL p - 1)
      let higher := min 255 (s.rd d R.POS_PTp_STATUS.ERR_LEVEL p + 8)
      t.rd d R.POS_PTp_STATUS.LEVEL_A p = b2n (bit lv 0) ∧ t.rd d R.POS_PTp_STATUS.LEVEL_B p = b2n (bit lv 1) ∧
      (e = .none → (t.pt l p).count = x.count ∧ t.rd d R.POS_PTp_COUNT.COUNT p = s.rd d R.POS_PTp_COUNT.COUNT p) ∧
      (e = .refused → (t.pt l p).count = x.count ∧ t.rd d R.POS_PTp_STATUS.ILLEGAL p = 1 ∧
        rose s t d R.POS_PTp_ERR.ILLEGAL p ∧ t.rd d R.POS_PTp_STATUS.ERR_LEVEL p = higher) ∧
      (∀ up illegal : Bool, e = .counts up illegal → t.rd d R.POS_PTp_STATUS.DIR p = b2n up ∧
        t.rd d R.POS_PTp_STATUS.ZERO_SPEED p = 0 ∧ t.rd d R.POS_PTp_STAMP.STAMP p = low 32 (s.laneTime l - stable / 4) ∧
        (mode ≠ 2 → (t.pt l p).count = x.count + (if up then 1 else -1) ∧
          t.rd d R.POS_PTp_COUNT.COUNT p = ux 32 (x.count + (if up then 1 else -1)) ∧
          t.rd d R.POS_PTp_STATUS.ERR_LEVEL p = (if illegal then higher else lower)) ∧
        (illegal = true → t.rd d R.POS_PTp_STATUS.ILLEGAL p = 1 ∧ rose s t d R.POS_PTp_ERR.ILLEGAL p))) ∧
  (∀ (s : State) (l : Lane) (p : Fin 6) (line : Fin 3) (gap : Nat),
    s.canonical = true → s.past l 11 = true → (s.ptMode l p).isSome = true → s.ptAccepts l p gap = false →
    leads (.ptGlitch l p line gap) s fun t =>
      let d := laneDie l
      t.rd d R.POS_PTp_STATUS.GLITCH p = 1 ∧ (line = 0 → rose s t d R.POS_PTp_GLITCH.A p) ∧
      (line = 1 → rose s t d R.POS_PTp_GLITCH.B p) ∧ (line = 2 → rose s t d R.POS_PTp_GLITCH.Z p) ∧
      t.rd d R.POS_PTp_STATUS.ERR_LEVEL p = (if s.on d R.POS_PTp_CFG.GLITCH_ERR p then
        min 255 (s.rd d R.POS_PTp_STATUS.ERR_LEVEL p + 8) else s.rd d R.POS_PTp_STATUS.ERR_LEVEL p)) ∧
  (∀ (s : State) (l : Lane) (p : Fin 6) (stable : Nat) (level : Bool),
    s.canonical = true → s.past l 11 = true → (s.ptMode l p).isSome = true → s.ptAccepts l p stable = true →
    leads (.ptReferenceEdge l p stable level) s fun t =>
      let d := laneDie l
      let x := s.pt l p
      let isRef := !s.ptLevel l p x.lv 2 && s.ptLevel l p (x.lv % 4 + 4 * b2n level) 2 && s.ptIsReference l p
      let c : Int := if s.on d R.POS_PTp_CFG.Z_RESET p then 0 else x.count
      let turn := x.count - x.ref.getD 0
      t.rd d R.POS_PTp_STATUS.LEVEL_Z p = b2n level ∧
      (isRef = false → (t.pt l p).count = x.count ∧ (t.pt l p).ref = x.ref) ∧
      (isRef = true → t.rd d R.POS_PTp_INDEX.VALUE p = ux 32 x.count ∧ t.rd d R.POS_PTp_COUNT.COUNT p = ux 32 c ∧
        (t.pt l p).count = c ∧ (t.pt l p).ref = some c ∧
        (x.ref ≠ none ∧ turn ≠ s.ptCounts l p ∧ turn ≠ -(s.ptCounts l p : Int) →
          t.rd d R.POS_PTp_STATUS.INDEX_ERR p = 1 ∧ rose s t d R.POS_PTp_ERR.INDEX_ERR p) ∧
        (x.ref = none ∧ s.on d R.POS_PTp_STATUS.ERR_FAULT p = false → t.rd d R.POS_PTp_STATUS.ANGLE_OK p = 1))) ∧
  (∀ (s : State) (l : Lane) (p : Fin 6) (dt : Nat),
    s.canonical = true → s.past l 11 = true → (s.ptMode l p).isSome = true →
    s.on (laneDie l) R.POS_PTp_STATUS.ZERO_SPEED p = false → s.rd (laneDie l) R.POS_PTp_SPEED.SPEED p ≠ 0 →
    leads (.ptExtrapolate l p dt) s fun t =>
      let d := laneDie l
      let x := s.pt l p
      let pitches := if s.rd d R.POS_PTp_STATUS.SYNC p = twSync ∧ x.idx + 1 = s.ptE l p
        then s.rd d R.POS_PTp_TW.MISSING p + 1 else 1
      let lim := (pitches : Int) * 2 ^ 32 / (s.ptCounts l p : Int) - 1
      let sgn : Int := if s.on d R.POS_PTp_STATUS.DIR p then 1 else -1
      nearly ((x.span : Int) * 2 ^ 32 * dt) ((s.ptCounts l p : Int) * (orOne (max x.period dt) : Nat)) fun m : Int =>
        t.rd d R.POS_PTp_ANGLE.ANGLE p = ux 32 (x.angle + sgn * max 0 (min m lim))) ∧
  (∀ (s : State) (l : Lane) (p : Fin 6) (mode : Nat),
    s.canonical = true → s.past l 11 = true → s.ptMode l p = some mode →
    leads (.ptZeroSpeed l p) s fun t =>
      let d := laneDie l
      t.rd d R.POS_PTp_SPEED.SPEED p = 0 ∧ t.rd d R.POS_PTp_STATUS.ZERO_SPEED p = 1 ∧ (t.pt l p).hist = [] ∧
      t.now = max s.now ((s.pt l p).lastAt + orOne (s.rd d R.POS_PTp_SPD.ZERO_TIME p) * us) ∧
      (mode = 2 → t.rd d R.POS_PTp_STATUS.SYNC p = twUnsync ∧ t.rd d R.POS_PTp_STATUS.ANGLE_OK p = 0))

/-- R241 to R244: `PD_GATE_ERROR`, `PD_TURN_ON_WITHHOLD`, `PD_TURN_ON_RELEASE`, `BST_UNDERVOLTAGE`, `BOOTSTRAP_LOW`,
`PD_FAULT_CLEAR`. -/
def Obligations.PreDriversConfirmAndProtect : Prop :=
  (∀ (s : State) (l : Lane) (n : Fin 16) (hi : Bool) (v : BitVec 8),
    s.canonical = true → (s.pap l).powered = true → (if hi then (s.hb l n).gateHi else (s.hb l n).gateLo) = true →
    v.toNat < 40 + 5 * s.rd (papDie l) R.PAP_HBn_CFG.VON n →
    leads (.pdGateError l n hi v) s fun t =>
      t.now = max s.now ((s.hb l n).edgeAt.getD s.now + orOne (s.rd (papDie l) R.PAP_HBn_CFG.T_WAIT n)) ∧
      t.rd (papDie l) (if hi then R.PAP_HBn_MEAS.VGH else R.PAP_HBn_MEAS.VGL) n = v.toNat ∧
      t.rd (papDie l) R.PAP_HBn_STATUS.GATE_ERR n = 1 ∧ rose s t (papDie l) R.PAP_HBn_CNT.GATE_ERR n ∧ t.hb l n = s.hb l n ∧
      t.rd (papDie l) (if hi then R.PAP_HBn_STATUS.GH_ON else R.PAP_HBn_STATUS.GL_ON) n = 0) ∧
  (∀ (s : State) (l : Lane) (n : Fin 16) (hi : Bool),
    s.canonical = true → (s.pap l).powered = true → (s.hb l n).refresh = 0 → (s.hb l n).waits hi = true →
    leads (.pdTurnOnWithhold l n hi) s fun t =>
      (if hi then (t.hb l n).withHi else (t.hb l n).withLo) = true ∧ (t.hb l n).gateHi = (s.hb l n).gateHi ∧
      (t.hb l n).gateLo = (s.hb l n).gateLo ∧ rose s t (papDie l) R.PAP_HBn_CNT.WITHHELD n ∧
      t.steps = max s.steps ((if hi then (s.hb l n).hiAt else (s.hb l n).loAt) +
        1024 * (orOne (s.rd (papDie l) R.PAP_HBn_CFG.T_WAIT n) : Int))) ∧
  (∀ (s : State) (l : Lane) (n : Fin 16) (hi : Bool) (v : BitVec 8) (held : Nat),
    s.canonical = true → s.pdOpen l = true → 2 * v.toNat ≤ 10 + 5 * s.rd (papDie l) R.PAP_HBn_CFG.VOFF n →
    s.rd (papDie l) R.PAP_HBn_CFG.T_CONF n ≤ held →
    s.steps ≤ (if hi then (s.hb l n).hiAt else (s.hb l n).loAt) + 1024 * (orOne (s.rd (papDie l) R.PAP_HBn_CFG.T_WAIT n) : Int) →
    (s.hb l n).refresh = 0 → (s.hb l n).waits hi = true →
    (if hi then (s.hb l n).gateLo else (s.hb l n).gateHi) = false →
    leads (.pdTurnOnRelease l n hi v held) s fun t =>
      t.steps = max s.steps (if hi then (s.hb l n).hiAt else (s.hb l n).loAt) ∧
      (if hi then (t.hb l n).gateHi else (t.hb l n).gateLo) = true ∧
      t.rd (papDie l) (if hi then R.PAP_HBn_STATUS.GH_ON else R.PAP_HBn_STATUS.GL_ON) n = 1) ∧
  (∀ (s : State) (l : Lane) (n : Fin 16) (bst : BitVec 8),
    s.canonical = true → (s.pap l).powered = true → s.on (papDie l) R.PAP_HBn_CFG.EN n = true → bst.toNat < 70 →
    leads (.bstUndervoltage l n bst) s fun t =>
      t.rd (papDie l) R.PAP_HBn_STATUS.BST_UV n = 1 ∧ t.rd (papDie l) R.PAP_HBn_MEAS.BST n = bst.toNat ∧
      (s.rd (laneDie l) R.PWM_TSRCs_CFG.MASK (48 + n) = 0 → t.rd (papDie l) R.PAP_HBn_STATUS.GH_ON n = 0) ∧ t.rdBit (papDie l) R.PAP_PD_STATUS.FAULT n = true) ∧
  (∀ (s : State) (l : Lane) (n : Fin 16) (bst : BitVec 8),
    s.canonical = true → (s.pap l).powered = true → s.on (papDie l) R.PAP_HBn_CFG.EN n = true →
    leads (.bootstrapLow l n bst) s fun t =>
      t.rd (papDie l) R.PAP_HBn_MEAS.BST n = bst.toNat ∧
      t.rd (papDie l) R.PAP_HBn_STATUS.BST_LOW n = b2n (decide (bst.toNat < 80)) ∧
      (bst.toNat < 80 ∧ s.on (papDie l) R.PAP_HBn_CFG.MODE n = false → t.rd (papDie l) R.PAP_HBn_STATUS.BST_WARN n = 1) ∧
      t.hb l n = s.hb l n) ∧
  (∀ (s : State) (l : Lane) (n : Fin 16) (short uv : Bool),
    s.canonical = true → (s.pap l).powered = true → s.alive l = true →
    s.on (papDie l) R.PAP_HBn_STATUS.SHORT n = true → s.on (papDie l) R.PAP_HBn_STATUS.BST_UV n = true →
    leads (.pdFaultClear l n short uv) s fun t =>
      let d := papDie l
      let recent := (s.hb l n).clears.filter fun t => s.now < t + sec
      t.rd d R.PAP_HBn_STATUS.SHORT n = (if short && decide (recent.length < 3) then 0
        else s.rd d R.PAP_HBn_STATUS.SHORT n) ∧
      t.rd d R.PAP_HBn_STATUS.BST_UV n = (if uv && !s.on d R.PAP_HBn_STATUS.BST_LOW n then 0
        else s.rd d R.PAP_HBn_STATUS.BST_UV n) ∧
      (short && decide (3 ≤ recent.length) || uv && s.on d R.PAP_HBn_STATUS.BST_LOW n →
        t.rd d R.PAP_HBn_STATUS.CLR_REFUSED n = 1))

/-- R198 to R206: `PWM_TRANSFER_POINT`, `PWM_COMMIT`, `PWM_DISCARD`, `PWM_SYNC_LOAD`, `PWM_CHANNEL_ENABLE`. R211 to R215,
R220: `TRIP_SOURCE_ACTIVE`, `TRIP_SOURCE_INACTIVE`, `PWM_TG_FORCE`, `PWM_TG_CLEAR`, `BLANK_WINDOW_CLOSE`. That a sync load
starts the rising slope is the model's choice (log entry 47). -/
def Obligations.TimebasesTransferAndTripsForce : Prop :=
  (∀ (s : State) (l : Lane) (t : Fin 8) (x : Int),
    s.canonical = true → (s.tb l t).next = some x → s.on (laneDie l) R.PWM_TBt_STATUS.RUN t = true →
    leads (.pwmTransferPoint l t) s fun u =>
      let d := laneDie l
      let held := s.on d R.PWM_TBt_STATUS.MODE_HOLD t && decide (x < (s.modeEng.holdEnd : Int) * 1024)
      let commit := s.on d R.PWM_TBt_STATUS.COMMIT_PEND t && !held
      u.steps = max s.steps x ∧ ((s.tb l t).nextPeak = false → (u.tb l t).start = x) ∧
      (commit = true → (u.tb l t).p = max 2 (s.rd d R.PWM_TBt_PERIOD.P t) ∧
        (u.tb l t).phase = s.rd d R.PWM_TBt_PHASE.PHASE t ∧ u.rd d R.PWM_TBt_STATUS.COMMIT_PEND t = 0 ∧
        u.rd d R.PWM_TBt_STATUS.DIRTY t = 0 ∧ rose s u d R.PWM_TBt_CNT.TRANSFERS t ∧
        ∀ c : Fin 64, s.tbOf l c = t → (u.ch l c).on = s.rd d R.PWM_CHc_ON.ON c ∧ (u.ch l c).off = s.rd d R.PWM_CHc_OFF.OFF c) ∧
      (commit = false → (u.tb l t).p = (s.tb l t).p ∧ (u.tb l t).phase = (s.tb l t).phase ∧
        u.rd d R.PWM_TBt_CNT.TRANSFERS t = s.rd d R.PWM_TBt_CNT.TRANSFERS t) ∧
      (commit = false ∧ held = false ∧ s.on d R.PWM_TBt_STATUS.DIRTY t = true →
        u.rd d R.PWM_TBt_STATUS.TORN t = 1 ∧ rose s u d R.PWM_TBt_CNT.TORN t)) ∧
  (∀ (s : State) (l : Lane) (t : Fin 8),
    s.canonical = true → s.alive l = true →
    (leads (.pwmCommit l t) s fun u => u = s.set (laneDie l) R.PWM_TBt_STATUS.COMMIT_PEND t) ∧
      (leads (.pwmDiscard l t) s fun u =>
        let d := laneDie l
        u.rd d R.PWM_TBt_STATUS.COMMIT_PEND t = 0 ∧ u.rd d R.PWM_TBt_STATUS.DIRTY t = 0 ∧
        u.rd d R.PWM_TBt_PERIOD.P t = low R.PWM_TBt_PERIOD.P.w (s.tb l t).p ∧
        u.rd d R.PWM_TBt_PHASE.PHASE t = low R.PWM_TBt_PHASE.PHASE.w (s.tb l t).phase ∧
        ∀ c : Fin 64, s.tbOf l c = t → u.rd d R.PWM_CHc_ON.ON c = low R.PWM_CHc_ON.ON.w (s.ch l c).on ∧
          u.rd d R.PWM_CHc_OFF.OFF c = low R.PWM_CHc_OFF.OFF.w (s.ch l c).off)) ∧
  (∀ (s : State) (l : Lane) (t : Fin 8) (ph : Nat),
    s.canonical = true → s.on (laneDie l) R.PWM_TBt_STATUS.RUN t = true → s.syncs l t = true → 0 < (s.tb l t).sent →
    (s.on (laneDie l) R.PWM_TBt_CFG.PHASE_SLOT_EN t = false → ph = (s.tb l t).phase) →
    (s.on (laneDie l) R.PWM_TBt_CFG.PHASE_SLOT_EN t = true →
      2 ^ 30 * (2 * (ph : Int) - 1) < 2 * (clampI 0 (2 ^ 30 - 1) (s.rdS (laneDie l) R.CE_Ai_OUT.Y
        (s.rd (laneDie l) R.PWM_TBt_CFG.PHASE_SLOT t)) * ((s.tb l t).p : Int) * 512) ∧
      2 * (clampI 0 (2 ^ 30 - 1) (s.rdS (laneDie l) R.CE_Ai_OUT.Y
        (s.rd (laneDie l) R.PWM_TBt_CFG.PHASE_SLOT t)) * ((s.tb l t).p : Int) * 512) < 2 ^ 30 * (2 * (ph : Int) + 1)) →
    leads (.pwmSyncLoad l t) s fun u =>
      let b := s.tb l t
      let was := b.pos s.steps
      let want := b.coarse ph
      (u.tb l t).used = ph ∧ (u.tb l t).sent = b.sent - 1 ∧ u.steps = s.steps ∧
      (was = want ∧ b.falling s.steps = false → (u.tb l t).start = b.start) ∧
      (¬(was = want ∧ b.falling s.steps = false) → (u.tb l t).start = s.steps - 512 * (want : Int)) ∧
      u.rd (laneDie l) R.PWM_TBt_STATUS.SYNC_JUMP t = (if was = want then s.rd (laneDie l) R.PWM_TBt_STATUS.SYNC_JUMP t else 1)) ∧
  (∀ (s : State) (l : Lane) (c : Fin 64) (en : Bool),
    s.canonical = true → s.alive l = true → s.on (laneDie l) R.PWM_CHc_CFG.EN c = !en →
    leads (.pwmChannelEnable l c en) s fun u =>
      u.rd (laneDie l) R.PWM_CHc_CFG.EN c = b2n en ∧ u.rd (laneDie l) R.PWM_CHc_STATUS.LEVEL c = 0 ∧
      (u.ch l c).started = false ∧ (u.ch l c).level = false ∧
      u.rd (laneDie l) R.PWM_CHc_STATUS.TRIPPED c = b2n (en && s.rdBit (laneDie l) R.PWM_STATUS.TG_ACTIVE (s.tgOf l c)) ∧
      (en = false → (u.ch l c).hi = none ∧ (u.ch l c).lo = none)) ∧
  (∀ (s : State) (l : Lane) (src : Fin 64),
    s.canonical = true → s.past l 11 = true →
    (let d := laneDie l
    let m := s.rd d R.PWM_TSRCs_CFG.MASK src
    (leads (.tripSourceActive l src) s fun u => u.srcOn l src = true ∧
      (s.srcOn l src = false ∧ s.masked l src = false ∧ m ≠ 0 →
        u.rdBit d (hitFld src) (src % 32) = true ∧
        (∀ g : Fin 16, bit m g = true → u.rdBit d R.PWM_STATUS.TG_ACTIVE g = true) ∧
        ∀ c : Fin 64, s.on d R.PWM_CHc_CFG.EN c = true → bit m (s.tgOf l c) = true →
          u.rd d R.PWM_CHc_STATUS.TRIPPED c = 1)) ∧
    (leads (.tripSourceInactive l src) s fun u => u.srcOn l src = false ∧
      (s.srcOn l src = true → ∀ g : Fin 16, s.rdBit d R.PWM_TG_LATCHED.LATCHED g = false → s.motHolds l g = false →
        (∀ k : Fin 64, k ≠ src → s.srcOn l k = true → bit (s.rd d R.PWM_TSRCs_CFG.MASK k) g = false) →
        (∀ c : Fin 64, s.on d R.PWM_CHc_STATUS.TRIPPED c = true → s.tgOf l c ≠ g) →
        u.rdBit d R.PWM_STATUS.TG_ACTIVE g = false)))) ∧
  (∀ (s : State) (l : Lane) (groups : BitVec 16) (g : Fin 16),
    s.canonical = true → s.past l 11 = true → bit groups.toNat g = true →
    leads (.pwmTgForce l groups) s fun u =>
      u.rdBit (laneDie l) R.PWM_TG_LATCHED.LATCHED g = true ∧ u.rdBit (laneDie l) R.PWM_TG_LATCHED.FORCED g = true ∧
      u.rdBit (laneDie l) R.PWM_STATUS.TG_ACTIVE g = true ∧
      ∀ c : Fin 64, s.on (laneDie l) R.PWM_CHc_CFG.EN c = true → s.tgOf l c = g →
        u.rd (laneDie l) R.PWM_CHc_STATUS.TRIPPED c = 1) ∧
  (∀ (s : State) (l : Lane) (groups : BitVec 16) (g : Fin 16),
    s.canonical = true → s.past l 11 = true → bit groups.toNat g = true →
    s.rdBit (laneDie l) R.PWM_TG_LATCHED.LATCHED g = true →
    leads (.pwmTgClear l groups) s fun u =>
      if s.groupSourced l g then
        u.rd (laneDie l) R.PWM_STATUS.CLR_REFUSED = 1 ∧ u.rdBit (laneDie l) R.PWM_TG_LATCHED.LATCHED g = true
      else u.rdBit (laneDie l) R.PWM_TG_LATCHED.LATCHED g = false ∧ u.rdBit (laneDie l) R.PWM_TG_LATCHED.FORCED g = false ∧
        (s.motHolds l g = false → u.rdBit (laneDie l) R.PWM_STATUS.TG_ACTIVE g = false ∧
          ∀ c : Fin 64, s.tgOf l c = g → u.rd (laneDie l) R.PWM_CHc_STATUS.TRIPPED c = 0)) ∧
  (∀ (s : State) (l : Lane) (b : Fin 16) (e : Int),
    s.canonical = true → (s.run l).pwm.windows[b] = some e →
    leads (.blankWindowClose l b) s fun u =>
      let d := laneDie l
      u.steps = max s.steps e ∧ (u.run l).pwm.windows[b] = none ∧
      ∀ k : Fin 64, s.srcOn l k = true → s.on d R.PWM_TSRCs_CFG.BLANK_EN k = true → s.rd d R.PWM_TSRCs_CFG.BT k = b →
        s.rd d R.PWM_TSRCs_CFG.MASK k ≠ 0 → u.rdBit d (hitFld k) (k % 32) = true ∧
        ∀ g : Fin 16, bit (s.rd d R.PWM_TSRCs_CFG.MASK k) g = true → u.rdBit d R.PWM_STATUS.TG_ACTIVE g = true)

/-- R203 to R219: `PWM_COMPARE_EVENT`, `PWM_ENGINE_EDGE`, `PWM_GRANT_ALIGN`, `PWM_TAKEOVER`, `PWM_LATE_TAKEOVER`. -/
def Obligations.ChannelsIssueEdgesAndAreTakenOver : Prop :=
  (∀ (s : State) (l : Lane) (c : Fin 64) (on : Bool) (x : Int),
    s.canonical = true → s.on (laneDie l) R.PWM_CHc_CFG.EN c = true → s.engineDriven l c = false →
    (s.ch l c).started = true →
    (match (s.ch l c).late.find? fun e => e.2 == on with
      | some e => some e.1
      | none => if on then (s.ch l c).onAt else (s.ch l c).offAt) = some x →
    s.on (laneDie l) R.PWM_CHc_STATUS.TRIPPED c = false → (s.ch l c).level = !on →
    s.on (laneDie l) R.PWM_CHc_CFG.COMPL c = true ∨ on = false ∨ s.partnerCh l c ≠ some c ∧ s.simultaneous l c x = none →
    leads (.pwmCompareEvent l c on) s fun u =>
      let d := laneDie l
      let m := ((s.ch l c).minp : Int) * 512
      let z := match (s.ch l c).lastEdge with
        | some y => if x - y < m then y + m else x
        | none => x
      let free := s.on d R.PWM_CHc_CFG.COMPL c && !s.on d R.PWM_CHc_STATUS.CFG_ERR c && !(s.ch l c).held
      u.rd d R.PWM_CHc_STATUS.LEVEL c = b2n on ∧ (u.ch l c).level = on ∧ (u.ch l c).lastEdge = some z ∧
      u.steps = max s.steps z ∧ (z ≠ x → u.rd d R.PWM_CHc_STATUS.FILTERED c = 1) ∧
      (free = true ∧ on = true → (u.ch l c).lo = none ∧
        ((s.ch l c).hi = none → (u.ch l c).hi = some (u.steps + ((s.rd d R.PWM_CHc_DT.DT_RISE c * 8 : Nat) : Int)))) ∧
      (free = true ∧ on = false → (u.ch l c).hi = none ∧
        ((s.ch l c).lo = none → (u.ch l c).lo = some (u.steps + ((s.rd d R.PWM_CHc_DT.DT_FALL c * 8 : Nat) : Int))))) ∧
  (∀ (s : State) (l : Lane) (c : Fin 64) (x : Int) (lv : Bool),
    s.canonical = true → s.on (laneDie l) R.PWM_CHc_CFG.EN c = true → s.engineDriven l c = true →
    (s.ch l c).started = true → (s.ch l c).eng = some (x, lv) →
    s.on (laneDie l) R.PWM_CHc_CFG.COMPL c = true ∨ lv = false ∨ s.partnerCh l c ≠ some c ∧ s.simultaneous l c x = none →
    leads (.pwmEngineEdge l c) s fun u =>
      let d := laneDie l
      let m := ((s.ch l c).minp : Int) * 512
      let near := match (s.ch l c).lastEdge with
        | some y => decide (x - y < m)
        | none => false
      let z := (s.ch l c).lastEdge.getD 0 + m
      let trip := s.on d R.PWM_CHc_STATUS.TRIPPED c
      let issued := fun y : Int => (u.ch l c).report = some (.issued, y) ∧ u.rd d R.PWM_CHc_STATUS.LEVEL c = b2n lv ∧
        (u.ch l c).level = lv ∧ (u.ch l c).lastEdge = some y ∧ u.steps = max s.steps y
      let dropped := (u.ch l c).report = some (.dropped, x) ∧ (u.ch l c).level = (s.ch l c).level
      (u.ch l c).eng = none ∧ (trip = true → dropped) ∧ (trip = false ∧ near = false → issued x) ∧
      (trip = false ∧ near = true → u.rd d R.PWM_CHc_STATUS.FILTERED c = 1 ∧
        (s.on d R.PWM_CHc_FILT.STRETCH c = true → issued z) ∧ (s.on d R.PWM_CHc_FILT.STRETCH c = false → dropped))) ∧
  (∀ (s : State) (l : Lane) (t : Fin 8),
    s.canonical = true → s.granted l = true → s.on (laneDie l) R.PWM_GRANT.GRANTED = true → s.shared l t = true →
    leads (.pwmGrantAlign l) s fun u =>
      u.rdBit (laneDie l) R.PWM_GRANT.ALIGNED t = true ∧
      ∀ m ∈ s.mux.tbs[t], s.rdBit (laneDie l) R.PWM_GRANT.ALIGNED t = false →
        (u.tb l t).used % 512 = m.phase % 512 ∧
        ((s.tb l t).updown = false ∧ m.updown = false ∧ m.period = (s.tb l t).p ∧ 0 < m.period →
          (u.tb l t).pos s.steps = m.since s.steps)) ∧
  (∀ (s : State) (l : Lane) (c : Fin 64),
    s.canonical = true → s.heldQuiet l c = true → s.awaitsTake l c = true →
    (∀ m ∈ s.mux.chs[c], m.level = (s.ch l c).level) →
    leads (.pwmTakeover l c) s fun u =>
      u.rd (laneDie l) R.PWM_CHc_STATUS.TAKEN c = 1 ∧ (∀ m ∈ u.mux.chs[c], m.driving = false) ∧
      (u.ch l c).level = (s.ch l c).level ∧ (u.ch l c).lastEdge = (s.ch l c).lastEdge) ∧
  (∀ (s : State) (l : Lane) (c : Fin 64),
    s.canonical = true → (s.advTo ((s.run l).link.grantAt + 22 * us)).heldQuiet l c = true → s.awaitsTake l c = true →
    leads (.pwmLateTakeover l c) s fun u =>
      u.now = max s.now ((s.run l).link.grantAt + 22 * us) ∧ u.rd (laneDie l) R.PWM_CHc_STATUS.TAKEN c = 1 ∧
      u.rd (laneDie l) R.PWM_TAKEOVER.LATE_TAKE = 1 ∧ (∀ m ∈ u.mux.chs[c], m.driving = false) ∧
      (u.ch l c).level = (s.ch l c).level)

/-- R223 to R246: `HOIST_SET_SC`, `HOIST_SET_GATE`, `HOIST_SET_LOSS`, `HOIST_READ`, `HOIST_RUN`, `HOIST_HLG_TEST`,
`HOIST_ACK`, `HOIST_ECHO`, `HOIST_ANSWER_TIMEOUT`, `HLK_TRAIN_START`, `HLK_TRAIN_ABORT`. The operand of `HOIST_ECHO` is the
model's choice (log entry 48). -/
def Obligations.HoistTrainingStepsProceedAndEnd : Prop :=
  (∀ (s : State) (n : Fin 40) (nz : Noise) (st : Fin 8),
    (s.link n).phase = .training st false →
    (let arrives := frameBody downLen (arriveBytes nz ((s.link n).sent st)) nz.violation
    let sends := fun (k : Nat) (P : State → Head → Prop) (t : State) =>
        (t.link n).phase = .training k true ∧ (t.link n).attempts = 1 ∧
        t.now = max s.now ((s.link n).stepAt + (if k = 2 then 4 * us else 160) + (s.link n).sendTime k) ∧
        (arriveBytes nz ((s.link n).sent k) = (s.link n).sent k ∧ nz.violation = false →
          k = 2 ∨ (s.link n).head.phase ≠ .run →
          (t.link n).head.phase = .training ∧ (t.link n).head.on = false ∧ P t (t.link n).head) ∧
        (arrives = none → k ≠ 2 ∨ (s.link n).head.phase ≠ .run → (t.link n).head = (s.link n).head)
    (st = 2 → leads (.hoistSetSc n nz) s (sends 2 fun _ h => h.sc = some (low 32 (s.link n).cfg.sc))) ∧
    (st = 3 → leads (.hoistSetGate n nz) s (sends 3 fun _ h => h.gate = some (low 32 (s.link n).cfg.gate))) ∧
    (st = 4 → leads (.hoistSetLoss n nz) s (sends 4 fun _ h => h.loss = some ((s.link n).cfg.lossAct, (s.link n).cfg.low))) ∧
    (st = 5 → leads (.hoistRead n nz) s (sends 5 fun _ h => h.armed = none)) ∧
    (st = 7 → leads (.hoistRun n nz) s (sends 7 fun t h => h.armed = some t.now)))) ∧
  (∀ (s : State) (n : Fin 40) (nz : Noise) (seen : List (Fin 3 × Nat)),
    s.canonical = true → (s.link n).phase = .training 6 false →
    leads (.hoistHlgTest n nz seen) s fun t =>
      (patternSeen seen = true → (t.link n).hlgOk = true ∧ (t.link n).phase = .training 7 false) ∧
      (patternSeen seen = false → (t.link n).phase = .static ∧ (t.link n).hlgOk = false ∧
        (∀ l, s.hoist.lock = some l → s.rd (laneDie l) R.HLK_TRAIN_STATUS.RESULT = 0 →
          t.rd (laneDie l) R.HLK_TRAIN_STATUS.RESULT = 4 ∧ t.rd (laneDie l) R.HLK_TRAIN_STATUS.LINK = n))) ∧
  (∀ (s : State) (n : Fin 40) (nz : Noise) (st : Fin 8),
    s.canonical = true → (s.link n).phase = .training st true → st ≠ 0 ∧ st ≠ 6 →
    leads (.hoistAnswerTimeout n nz) s fun t =>
      if (s.link n).attempts < (if st = 2 then 100 else if st = 7 then 1 else 3) then
        (t.link n).phase = .training st true ∧ (t.link n).attempts = (s.link n).attempts + 1 ∧
        t.now = max s.now ((s.link n).stepAt + (if st = 2 then 100 * us else 8 * us + (s.link n).sendTime st)) ∧
        (∀ l, s.hoist.lock = some l → st ≠ 2 → rose s t (laneDie l) R.HLK_TRAIN_STATUS.RESENDS)
      else t.now = max s.now ((s.link n).stepAt + 8 * us) ∧ (t.link n).phase = .static ∧
        (∀ l, s.hoist.lock = some l → s.rd (laneDie l) R.HLK_TRAIN_STATUS.RESULT = 0 →
          t.rd (laneDie l) R.HLK_TRAIN_STATUS.RESULT = 2 ∧ t.rd (laneDie l) R.HLK_TRAIN_STATUS.LINK = n)) ∧
  (∀ (s : State) (n : Fin 40) (st : Fin 8) (f : UplinkFrame) (p : List Nat),
    s.monitors n = true → uplinkBody f = some (0x31, p) → (s.link n).phase = .training st true →
    (st = 2 ∧ p.getD 0 0 = 1) ∨ (st = 3 ∧ p.getD 0 0 = 2) ∨ (st = 4 ∧ p.getD 0 0 = 3) ∨ (st = 7 ∧ p.getD 0 0 = 6) →
    leads (.hoistAck n f) s fun t =>
      (st = 7 → (t.link n).phase = .run ∧ (t.link n).trained = true ∧ (s.linkFree n = true → (t.link n).on = (s.link n).on) ∧
        ((∀ m : Fin 40, m ≠ n → (s.link m).inTraining = false) → t.hoist.lock = none)) ∧
      (st ≠ 7 → (t.link n).phase = .training (st + 1) false ∧ (t.link n).on = (s.link n).on)) ∧
  (∀ (s : State) (n : Fin 40) (f : UplinkFrame) (p : List Nat) (ok : Bool),
    s.canonical = true → s.monitors n = true → uplinkBody f = some (0x30, p) → (s.link n).phase = .training 5 true →
    leads (.hoistEcho n f ok) s fun t =>
      if bytesNat (p.take 4) = (s.link n).cfg.sc ∧ bytesNat (p.drop 4) = (s.link n).cfg.gate ∧ ok = true then
        (t.link n).phase = .training 6 false
      else (t.link n).phase = .static ∧ (∀ l, s.hoist.lock = some l → s.rd (laneDie l) R.HLK_TRAIN_STATUS.RESULT = 0 →
        t.rd (laneDie l) R.HLK_TRAIN_STATUS.RESULT = 3 ∧ t.rd (laneDie l) R.HLK_TRAIN_STATUS.LINK = n)) ∧
  (∀ (s : State) (n : Fin 40) (f : UplinkFrame) (ok : Bool) (l : Lane),
    s.canonical = true → s.monitors n = true → uplinkBody f = none →
    (let counted := fun t : State =>
      (s.monitors n = true → rose s t (laneDie l) R.HLK_LINKnn_CNT.CRC_ERR n) ∧ (s.monitors n = false → t = s) ∧ t.hoist = s.hoist
    leads (.hoistAck n f) s counted ∧ leads (.hoistEcho n f ok) s counted ∧ leads (.hoistStatus n f) s counted ∧
      leads (.hoistFault n f) s counted)) ∧
  (∀ (s : State) (l : Lane),
    s.canonical = true → s.alive l = true →
    leads (.hlkTrainStart l) s fun t =>
      if s.depOn = true ∧ s.modeOf l = modeService ∧ s.holder = none ∧ s.rd .ds R.DSP_GRANT.STATE ≠ grantHold ∧
          s.hoist.lock ≠ some l.other then
        t.hoist.lock = some l ∧ t.hoist.recordValid = false ∧ t.rd (laneDie l) R.HLK_TRAIN_STATUS.BUSY = 1 ∧
        t.rd (laneDie l) R.HLK_TRAIN_STATUS.RESULT = 0 ∧ t.rd (laneDie l) R.HLK_TRAIN_STATUS.RESENDS = 0 ∧
        (∀ n : Fin 40, (t.link n).on = false ∧ (t.link n).cfg = s.linkCfgOf l n ∧
          (t.link n).phase = (if s.on (laneDie l) R.HLK_LINKnn_CFG.EN n then .training 2 false else .static))
      else t.rd (laneDie l) R.HLK_TRAIN_STATUS.RESULT = 1 ∧ t.hoist = s.hoist) ∧
  (∀ (s : State) (l : Lane),
    s.canonical = true →
    leads (.hlkTrainAbort l) s fun t =>
      (s.hoist.lock ≠ some l → t = s) ∧
      (s.hoist.lock = some l →
        t.rd (laneDie l) R.HLK_TRAIN_STATUS.RESULT = 6 ∧ t.rd (laneDie l) R.HLK_TRAIN_STATUS.BUSY = 0 ∧ t.hoist.lock = none ∧
        (∀ n : Fin 40, (s.link n).inTraining = true → (t.link n).phase = .training 0 false)))

/-- R224 to R235: `HOIST_FAULT`, `HOIST_STAT_LOSS`, `HOIST_STATUS`, `HEAD_LINK_LOSS`, `HEAD_SHORT_CIRCUIT`,
`HEAD_GATE_SUPPLY_LOSS`, `HOIST_TICK`, `HLG_CODE_CHANGE`. -/
def Obligations.StageFaultsLatchAndHeadsProtect : Prop :=
  (∀ (s : State) (n : Fin 40) (l : Lane) (f : UplinkFrame) (p : List Nat),
    s.canonical = true → s.alive l = true → s.monitors n = true → uplinkBody f = some (0x20, p) →
    p.getD 0 0 = 1 ∨ p.getD 0 0 = 2 ∨ p.getD 0 0 = 3 →
    leads (.hoistFault n f) s fun t =>
      let cause := if p.getD 0 0 = 1 then 1 else 2
      bit (t.link n).causes (cause - 1) = true ∧
      (bit (s.link n).causes (cause - 1) = false →
        t.rd (laneDie l) R.HLK_LAST_FAULT.LINK = n ∧ t.rd (laneDie l) R.HLK_LAST_FAULT.CAUSE = cause ∧
        t.rd (laneDie l) R.HLK_LAST_FAULT_TIME.TIME = low 32 (s.laneTime l) ∧ rose s t (laneDie l) R.HLK_FAULT_CNT.LATCHED)) ∧
  (∀ (s : State) (n : Fin 40) (l : Lane),
    s.canonical = true → s.depOn = true → s.alive l = true → (s.link n).phase ≠ .static → (s.link n).cfg.en = true →
    leads (.hoistStatLoss n) s fun t =>
      t.now = max s.now ((s.link n).lastStat + 10 * us) ∧ bit (t.link n).causes 2 = true ∧
      (bit (s.link n).causes 2 = false → t.rd (laneDie l) R.HLK_LAST_FAULT.LINK = n ∧
        t.rd (laneDie l) R.HLK_LAST_FAULT.CAUSE = 3 ∧ rose s t (laneDie l) R.HLK_FAULT_CNT.LATCHED)) ∧
  (∀ (s : State) (n : Fin 40) (l : Lane) (f : UplinkFrame) (p : List Nat),
    s.canonical = true → s.monitors n = true → uplinkBody f = some (0x10, p) →
    leads (.hoistStatus n f) s fun t =>
      let fl := p.getD 1 0
      let q := p.getD 2 0 / 16 % 16
      (t.link n).seq = some q ∧ (t.link n).tj = (p.getD 0 0 : Int) - 55 ∧ (t.link n).lastStat = s.now ∧
      (t.link n).vccOk = bit fl 0 ∧ (t.link n).veeOk = bit fl 1 ∧ (t.link n).stTrained = bit fl 2 ∧ (t.link n).ot = bit fl 7 ∧
      (∀ q0, (s.link n).seq = some q0 → (q0 + 1) % 16 ≠ q → rose s t (laneDie l) R.HLK_LINKnn_CNT.LOST n) ∧
      (bit fl 5 = true → bit (t.link n).causes 0 = true) ∧ (bit fl 6 = true → bit (t.link n).causes 1 = true) ∧
      ((s.link n).phase = .run →
        ((bit fl 0 && bit fl 1) = false → bit (t.link n).causes 4 = true) ∧
        (bit fl 4 = true ∨ bit fl 3 = false → bit (t.link n).causes 5 = true))) ∧
  (∀ (s : State) (n : Fin 40) (l : Lane) (f : UplinkFrame) (p : List Nat),
    s.canonical = true → s.alive l = true → s.monitors n = true → uplinkBody f = some (0x10, p) →
    (s.link n).phase = .run → (p.getD 1 0) &&& 0x7B = 0x0B → (s.link n).hlgOk = true →
    ((s.link n).codeThen (s.now - 224)).2 = true →
    leads (.hoistStatus n f) s fun t =>
      if ((s.link n).codeThen (s.now - 224)).1 = p.getD 2 0 % 4 then
        (t.link n).mism = 0 ∧ (t.link n).hlgOk = true ∧ (t.link n).causes = (s.link n).causes
      else if (s.link n).mism = 0 then
        (t.link n).mism = 1 ∧ (t.link n).hlgOk = true ∧ (t.link n).causes = (s.link n).causes
      else (t.link n).hlgOk = false ∧ bit (t.link n).causes 3 = true ∧
        (bit (s.link n).causes 3 = false → t.rd (laneDie l) R.HLK_LAST_FAULT.LINK = n ∧
          t.rd (laneDie l) R.HLK_LAST_FAULT.CAUSE = 4 ∧ rose s t (laneDie l) R.HLK_FAULT_CNT.LATCHED)) ∧
  (∀ (s : State) (n : Fin 40) (mv ns : Nat),
    ((s.link n).head.phase = .run → leads (.headLinkLoss n) s fun t => (t.link n).head.phase = .loss ∧
        t.steps = max s.steps (max (s.link n).edgeAt (s.link n).tickAt + 184320) ∧
        (t.link n).head.on = (match (s.link n).head.loss with
          | some (act, lw) => act && lw && !(s.link n).head.latched
          | none => false)) ∧
      ((s.link n).head.phase = .training → leads (.headLinkLoss n) s fun t =>
        (t.link n).head.phase = (if (s.link n).head.loss.isSome then .loss else .untrained) ∧ (t.link n).head.armed = none) ∧
      (leads (.headShortCircuit n mv ns) s fun t =>
        ∀ w, (s.link n).head.sc = some w → (s.link n).head.phase = .run → (s.link n).head.on = true →
          if bits w 15 0 < mv ∧ 10 * bits w 23 16 ≤ ns then
            (t.link n).head.latched = true ∧ (t.link n).head.on = false ∧ (t.link n).head.phase = .run
          else t = s) ∧
      (leads (.headGateSupplyLoss n) s fun t => (t.link n).head = Head.init)) ∧
  (∀ (s : State) (n : Fin 40),
    s.depOn = true → (s.link n).phase = .run ∨ (s.link n).phase = .training 7 true →
    leads (.hoistTick) s fun t =>
      (t.link n).tickAt = max s.steps ((s.link n).edgeAt + 4096) ∧
      (∀ x, (s.link n).head.armed = some x → (s.link n).head.phase = .training →
        max s.steps ((s.link n).edgeAt + 4096) ≤ (((x + 2 * us) * 1024 : Nat) : Int) →
        (t.link n).head.phase = .run ∧ (t.link n).head.armed = none ∧
        (t.link n).head.on = ((s.link n).on && !(s.link n).head.latched))) ∧
  (∀ (s : State) (n : Fin 40) (high : Bool) (held gap : Nat),
    s.depOn = true →
    leads (.hlgCodeChange n high held gap) s fun t =>
      let steady := (t.link n).code = (if high then 2 else 0)
      let between := (t.link n).code = 1
      let stays := (t.link n).code = (s.link n).code
      (35 ≤ held → steady) ∧ (held < 25 ∧ gap < 25 → between) ∧ (held < 25 ∧ 35 ≤ gap → stays) ∧
      (25 ≤ held → steady ∨ between ∨ stays) ∧ ((t.link n).code ≠ (s.link n).code → (t.link n).codeAt = s.now))

/-- R207, R236 to R238: `LEG_TURN_ON_RELEASE`, `LEG_TURN_ON_WITHHOLD`, `HEN_LOW`, `HEN_RELEASE`. -/
def Obligations.LegsConfirmAndHenGroupsHold : Prop :=
  (∀ (s : State) (n : Fin 40),
    (s.link n).waiting = true →
    ∀ g, s.legOf n = some g → (s.link g.partner).code = 0 ∧ (s.link g.partner).hlgOk = true ∧
      max (s.link n).wantAt (s.confirmAt g) ≤ (s.link n).wantAt + 2048 * (g.tWait : Int) →
    leads (.legTurnOnRelease n) s fun t => (t.link n).on = true ∧
      t.steps = max s.steps (match s.legOf n with
        | some g => max (s.link n).wantAt (s.confirmAt g)
        | none => (s.link n).wantAt)) ∧
  (∀ (s : State) (n : Fin 40) (l : Lane) (g : LegView),
    s.canonical = true → s.legOf n = some g → (s.link n).waiting = true →
    s.confirmed g ((s.link n).wantAt + 2048 * (g.tWait : Int)) = false →
    leads (.legTurnOnWithhold n) s fun t =>
      rose s t (laneDie l) R.HLK_LINKnn_CNT.WITHHELD n ∧ (t.link n).withheld = true ∧ (t.link n).on = false ∧
      t.steps = max s.steps ((s.link n).wantAt + 2048 * (g.tWait : Int)) ∧
      (s.holder = some l → ∀ c : Fin 64, s.on (laneDie l) R.PWM_CHc_CFG.EN c = true → (s.dsts l c).contains (n.val + 1) = true →
        t.rd (laneDie l) R.PWM_CHc_STATUS.WITHHELD c = 1)) ∧
  (∀ (s : State) (g : Fin 8) (ns : Nat),
    leads (.henLow g ns) s fun t => t.hoist.henHigh[g] = false ∧
      (s.depOn = true →
        (200 ≤ ns → t.hoist.henActs[g] = true ∧
          (∀ n : Fin 40, (s.link n).cfg.en = true → (s.link n).cfg.group = g.val →
            (s.hoist.safe[g] && (s.link n).cfg.low) = false → (t.link n).on = false)) ∧
        (ns < 100 → t.hoist.henActs[g] = s.hoist.henActs[g]) ∧
        (t.hoist.henActs[g] = s.hoist.henActs[g] ∨ t.hoist.henActs[g] = true))) ∧
  (∀ (s : State) (g : Fin 8) (ns : Nat) (persist : List (Fin 40)) (l : Lane),
    s.canonical = true →
    leads (.henRelease g ns persist) s fun t => t.hoist.henHigh[g] = true ∧
      (s.depOn = true → t.hoist.henActs[g] = false ∧
        (10000 ≤ ns → (s.alive l = true → rose s t (laneDie l) R.HLK_FAULT_CNT.CLEARS) ∧
          ∀ n : Fin 40, (s.link n).cfg.en = true → (s.link n).cfg.group = g.val →
            ((t.link n).head.latched = ((s.link n).head.latched && persist.contains n)) ∧
            (t.link n).causes = (if (s.link n).phase = .run ∧ (s.link n).hlgOk = false then 8 else 0))))

/-- R250, R260 to R262, R265: `MOT_OBSERVER_UPDATE`, `MOT_XCHK_TIMEOUT`, `MOT_RECTIFY_TIMEOUT`, `MOT_PREF_TIMEOUT`,
`MOT_RECATCH`.
R256, R263 to R266: `MOT_TSAT_EXPIRY`, `CATCH_PULSE_START`, `CATCH_PULSE_END`, `MOT_INJECTION_STEP`, `KE_WINDOW_END`. -/
def Obligations.MotorAngleCatchingAndInjectionProceed : Prop :=
  (∀ (s : State) (l : Lane) (m : Fin 2) (o : ObsOut),
    s.canonical = true → s.past l 11 = true →
    leads (.motObserverUpdate l m o) s fun t =>
      let on := s.on (laneDie l) R.MOT_Mm_CFG.EN m && !s.motCfgErr l m
      let a := s.ang l m
      t.now = max s.now (s.instantOf l (max (((s.mach l m).upAt / 625 + 1) * 625) (ceilDiv (s.laneTime l) 625 * 625))) ∧
      t.rd (laneDie l) R.MOT_Mm_STATUS.CFG_ERR m = b2n (s.motCfgErr l m) ∧
      (on = false → t.ang l m = angDisabled) ∧
      (on = true ∧ a = angDisabled → t.ang l m = angOff) ∧
      (on = true ∧ s.resUsable l m = true ∧ (a = angOff ∨ a = angResolver ∨ a = angAsc ∨ a = angNone) →
        t.ang l m = angResolver ∧ t.thetaE l m = s.resTheta l m)) ∧
  (∀ (s : State) (l : Lane) (m : Fin 2),
    s.canonical = true → torqueOk (s.ang l m) = true → s.on (laneDie l) R.MOT_Mm_STATUS.XCHK m = true →
    leads (.motXchkTimeout l m) s fun t =>
      t.rd (laneDie l) R.MOT_Mm_STATUS.XCHK_EVT m = 1 ∧ t.rd (laneDie l) R.MOT_Mm_STATUS.LOSS m = 1 ∧
      rose s t (laneDie l) R.MOT_Mm_CNT.LOSS m ∧
      t.now = max s.now ((s.mach l m).xchkAt + orOne (s.rd (laneDie l) R.MOT_Mm_XCHK.TIME m) * ms) ∧
      t.ang l m = if s.faster l m (s.omegaE l m) (s.rd (laneDie l) R.MOT_Mm_SPD.XOVER m) 1 then angAsc else angOff) ∧
  (∀ (s : State) (l : Lane) (m : Fin 2),
    s.canonical = true → s.ang l m = angOff → s.motAnyAbove l m (s.rd (laneDie l) R.MOT_Mm_CATCH.I_ZERO m) = true →
    leads (.motRectifyTimeout l m) s fun t => t.ang l m = angAsc ∧
      t.now = max s.now ((s.mach l m).hotAt.getD s.now + 2 * ms)) ∧
  (∀ (s : State) (l : Lane) (m : Fin 2),
    s.canonical = true →
    (s.ang l m = angResolver ∧ s.on (laneDie l) R.MOT_Mm_CFG.PREF m = true ∧ s.confident l m = true) ∨ (s.ang l m = angObserver ∧ s.on (laneDie l) R.MOT_Mm_CFG.PREF m = false ∧ s.resUsable l m = true) →
    leads (.motPrefTimeout l m) s fun t =>
      t.ang l m = (if s.ang l m = angResolver then angObserver else angResolver) ∧
      t.rd (laneDie l) R.MOT_Mm_STATUS.LOSS m = s.rd (laneDie l) R.MOT_Mm_STATUS.LOSS m ∧
      t.now = max s.now ((s.mach l m).prefAt.getD s.now + ms)) ∧
  (∀ (s : State) (l : Lane) (m : Fin 2),
    s.canonical = true → s.alive l = true → s.ang l m = angNone →
    leads (.motRecatch l m) s fun t => t.ang l m = angOff ∧ t.now = s.now) ∧
  (∀ (s : State) (l : Lane) (m : Fin 2),
    torqueOk (s.ang l m) = true → s.region l m = regCurrent → s.tsatFrom l m ≠ [] →
    leads (.motTsatExpiry l m) s fun t => (t.mach l m).tsat = true ∧ t.regs = s.regs ∧
      ∃ x ∈ s.tsatFrom l m, (∀ y ∈ s.tsatFrom l m, x ≤ y) ∧
        t.now = max s.now (x + orOne (s.rd (laneDie l) R.MOT_Mm_REGION.TSAT m) * us)) ∧
  (∀ (s : State) (l : Lane) (m : Fin 2),
    s.canonical = true → s.ang l m = angCatch → (s.mach l m).inPulse = false →
    leads (.catchPulseStart l m) s fun t =>
      t.ang l m = angCatch ∧ (t.mach l m).inPulse = true ∧ (t.mach l m).stepAt = t.now ∧ (t.mach l m).own = none ∧
      t.now = (match (s.mach l m).pulseAt with
        | some x => max s.now (x + orOne (s.rd (laneDie l) R.MOT_Mm_CATCH.T_PP m) * 10 * us)
        | none => s.now)) ∧
  (∀ (s : State) (l : Lane) (m : Fin 2),
    s.canonical = true → s.ang l m = angCatch → (s.mach l m).inPulse = true →
    leads (.catchPulseEnd l m) s fun t =>
      let weak := s.motWeaker l m (s.rd (laneDie l) R.MOT_Mm_CATCH.I_MIN m)
      let x := s.mach l m
      t.now = max s.now (x.stepAt + 10 * clampN 5 200 (s.rd (laneDie l) R.MOT_Mm_CATCH.T_PULSE m)) ∧
      (weak = false → rose s t (laneDie l) R.MOT_Mm_CNT.CATCH m ∧
        (x.phis = [] → t.ang l m = angCatch ∧ (t.mach l m).own = some (s.rd (laneDie l) R.MOT_Mm_CFG.TG m) ∧
          (t.mach l m).inPulse = false)) ∧
      (weak = true → t.rd (laneDie l) R.MOT_Mm_CNT.CATCH m = s.rd (laneDie l) R.MOT_Mm_CNT.CATCH m ∧
        t.ang l m = (if 2 ≤ x.lowPulses ∧ s.on (laneDie l) R.MOT_Mm_CFG.INJ_EN m then angInject else angCatch))) ∧
  (∀ (s : State) (l : Lane) (m : Fin 2),
    s.canonical = true → s.ang l m = angInject →
    leads (.motInjectionStep l m) s fun t =>
      let k := (s.mach l m).injStep
      let z := saliency (s.mach l m).injMags.reverse
      let low : Int := s.rd (laneDie l) R.MOT_Mm_INJ.SAL_MIN m * 2 ^ 16
      let flat := z.1 * z.1 + 3 * z.2 * z.2 < 36 * low * low
      t.now = max s.now ((s.mach l m).stepAt + injDur k (clampN 5 100 (s.rd (laneDie l) R.MOT_Mm_INJ.T_INJ m))) ∧
      (k = 18 ∧ flat → t.rd (laneDie l) R.MOT_Mm_STATUS.INJ_FAIL m = 1 ∧ t.ang l m = angNone) ∧
      (k < 25 ∧ ¬(k = 18 ∧ flat) → t.ang l m = angInject ∧ (t.mach l m).injStep = k + 1 ∧ (t.mach l m).stepAt = t.now) ∧
      (25 ≤ k → t.ang l m = angObserver ∧ t.omegaE l m = 0 ∧
        (t.thetaE l m = (s.mach l m).injAxis % 2 ^ 32 ∨ t.thetaE l m = ux 32 (((s.mach l m).injAxis : Int) + 2 ^ 31)))) ∧
  (∀ (s : State) (l : Lane) (m : Fin 2),
    s.canonical = true →
    leads (.keWindowEnd l m) s fun t =>
      ((s.mach l m).keCnt < 1024 → t = s) ∧
      (1024 ≤ (s.mach l m).keCnt → rose s t (laneDie l) R.MOT_Mm_KE_MEAS.WINDOWS m ∧
        t.rd (laneDie l) R.MOT_Mm_STATUS.KE_STATE m =
          max (s.rd (laneDie l) R.MOT_Mm_STATUS.KE_STATE m) (keState (s.mach l m).keSum) ∧ (t.mach l m).keCnt = 0 ∧ t.now = s.now))

/-- R277 to R284: `CLOSE_MAIN`, `PRECHARGE_REACHED`, `PRECHARGE_TIMEOUT`, `PRECHARGE_OVERLAP_END`, `CONTACTOR_PULL_END`,
`CLOSE_DC`, `CLOSE_AC`. -/
def Obligations.ContactorSequencesClose : Prop :=
  (∀ (s : State) (l : Lane),
    s.canonical = true → s.writable l = true → s.master = l → (s.run l).nrg.seq = none →
    mainMode (s.modeOf l) = true → s.nrgCfgErr l = false → s.rd .ds R.DSP_WELD.WELDED = 0 →
    (s.ctrClose l ctrMN).1 = true →
    leads (.closeMain l) s fun t =>
      t.rd (laneDie l) R.NRG_CTR_RESULT.BUSY = 1 ∧ t.rd (laneDie l) R.NRG_CTR_RESULT.STEP = 2 ∧
      t.rd (laneDie l) R.NRG_CTR_RESULT.LAST_CMD = 1 ∧ rose s t (laneDie l) R.NRG_CTRc_CNT.CLOSES ctrMN ∧
      (t.run l).nrg.seq = some { cmd := 1, phase := .closeMn, since := s.now, v0 := 0, welded := false }) ∧
  (∀ (s : State) (l : Lane),
    s.canonical = true → s.writable l = true →
    (let busy := (s.run l).nrg.seq.isSome
    let refused := fun (aborts mode : Bool) (u : Prop) => s.master ≠ l ∨ (busy && !aborts) = true ∨ mode = false ∨ s.nrgCfgErr l = true → u
    let result := fun (aborts mode : Bool) (t : State) => t.dep = s.dep ∧ t.rd (laneDie l) R.NRG_CTR_RESULT.RESULT =
      (if s.master ≠ l then 3 else if (busy && !aborts) = true then 11 else if mode = false then 1 else 12)
    let m := mainMode (s.modeOf l)
    refused false m (leads (.closeMain l) s (result false m)) ∧ refused true m (leads (.openMain l) s (result true m)) ∧
    refused false m (leads (.weldTest l) s (result false m)) ∧ refused false true (leads (.clearWeld l) s (result false true)) ∧
    refused false (s.dcMode l) (leads (.closeDc l) s (result false (s.dcMode l))) ∧
    refused true (s.dcMode l) (leads (.openDc l) s (result true (s.dcMode l))) ∧
    refused false (s.acMode l) (leads (.closeAc l) s (result false (s.acMode l))) ∧
    refused true (s.acMode l) (leads (.openAc l) s (result true (s.acMode l))))) ∧
  (∀ (s : State) (l : Lane),
    s.canonical = true → s.writable l = true → s.master = l → (s.run l).nrg.seq = none →
    mainMode (s.modeOf l) = true → s.nrgCfgErr l = false → s.depOn = true →
    s.rdBit .ds R.DSP_WELD.WELDED ctrMP = true ∨ s.rdBit .ds R.DSP_WELD.WELDED ctrMN = true ∨ s.rdBit .ds R.DSP_WELD.WELDED ctrPRE = true →
    leads (.closeMain l) s fun t => t.rd (laneDie l) R.NRG_CTR_RESULT.RESULT = 2 ∧ t.dep = s.dep) ∧
  (∀ (s : State) (l : Lane) (q : NrgSeq),
    s.canonical = true → (s.run l).nrg.seq = some q → q.phase = .precharge →
    clampN 80 99 (s.rd (laneDie l) R.NRG_PRE.PCT) * s.vPack l ≤ 100 * s.vLink l → (s.ctrClose l ctrMP).1 = true →
    leads (.prechargeReached l) s fun t =>
      if s.now < q.since + s.rd (laneDie l) R.NRG_PRE.T_MIN * ms then
        t.rd (laneDie l) R.NRG_CTR_RESULT.RESULT = 5 ∧ t.rd (laneDie l) R.NRG_CTR_RESULT.BUSY = 0 ∧ (t.run l).nrg.seq = none
      else t.rd (laneDie l) R.NRG_CTR_RESULT.STEP = 4 ∧ rose s t (laneDie l) R.NRG_CTRc_CNT.CLOSES ctrMP ∧
        (t.run l).nrg.seq = some { q with phase := .closeMp, since := s.now }) ∧
  (∀ (s : State) (l : Lane) (q : NrgSeq),
    s.canonical = true → (s.run l).nrg.seq = some q → q.phase = .precharge ∨ q.phase = .overlap →
    (let d := laneDie l
    let done := fun (r : Nat) (x : Nat) (t : State) => t.rd d R.NRG_CTR_RESULT.RESULT = r ∧
      t.rd d R.NRG_CTR_RESULT.BUSY = 0 ∧ (t.run l).nrg.seq = none ∧ t.now = max s.now (q.since + x)
    (q.phase = .precharge → leads (.prechargeTimeout l) s (done 4 (orOne (s.rd d R.NRG_PRE.T_MAX) * 10 * ms))) ∧
    (q.phase = .overlap → leads (.prechargeOverlapEnd l) s (done 0 (s.rd d R.NRG_PRE.T_OVL * ms))))) ∧
  (∀ (s : State) (k : Fin 12),
    s.canonical = true → s.depOn = true → s.dep.ctr[k] = .pull →
    s.laneA.run.nrg.seq = none ∧ s.laneB.run.nrg.seq = none →
    s.rd .la R.NRG_OBC_STATUS.STATE = obcOff ∧ s.rd .lb R.NRG_OBC_STATUS.STATE = obcOff →
    leads (.contactorPullEnd k) s fun t => t.dep.ctr[k] = .hold ∧
      t.now = max s.now (s.dep.ctrAt[k] + s.rd .ds R.DSP_SOk_CMD.T_PULL k * ms)) ∧
  (∀ (s : State) (k : Fin 12) (l : Lane) (q : NrgSeq),
    s.canonical = true → s.depOn = true → s.dep.ctr[k] = .pull → (s.run l).nrg.seq = some q →
    (q.phase = .closeMp ∧ s.ctrOut l ctrMP = k) ∨ (q.phase = .dcP ∧ s.ctrOut l ctrDCP = k) ∨ (q.phase = .acClose ∧ s.ctrOut l ctrACR = k) →
    leads (.contactorPullEnd k) s fun t => t.now = max s.now (s.dep.ctrAt[k] + s.rd .ds R.DSP_SOk_CMD.T_PULL k * ms) ∧
      (if q.phase = .closeMp then
        t.rd (laneDie l) R.NRG_CTR_RESULT.STEP = 5 ∧ (t.run l).nrg.seq = some { q with phase := .overlap, since := t.now }
      else t.rd (laneDie l) R.NRG_CTR_RESULT.RESULT = 0 ∧ t.rd (laneDie l) R.NRG_CTR_RESULT.BUSY = 0 ∧ (t.run l).nrg.seq = none)) ∧
  (∀ (s : State) (l : Lane),
    s.canonical = true → s.writable l = true → s.master = l → (s.run l).nrg.seq = none → s.dcMode l = true →
    s.nrgCfgErr l = false → (s.ctrClose l ctrDCN).1 = true →
    leads (.closeDc l) s fun t =>
      if s.mainHold l = true ∧ absI (s.vInlet l - s.vLink l) ≤ s.rd (laneDie l) R.NRG_DC.DV_MATCH * 2 ^ 30 then
        t.rd (laneDie l) R.NRG_CTR_RESULT.BUSY = 1 ∧ t.rd (laneDie l) R.NRG_CTR_RESULT.STEP = 1 ∧
        (t.run l).nrg.seq = some { cmd := 3, phase := .dcN, since := s.now, v0 := 0, welded := false }
      else t.rd (laneDie l) R.NRG_CTR_RESULT.RESULT = 8 ∧ t.dep = s.dep) ∧
  (∀ (s : State) (l : Lane),
    s.canonical = true → s.writable l = true → s.master = l → (s.run l).nrg.seq = none → s.acMode l = true →
    s.nrgCfgErr l = false → (s.ctrClose l ctrACR).1 = true →
    leads (.closeAc l) s fun t =>
      if s.rd (laneDie l) R.NRG_OBC_STATUS.STATE = obcPre then
        t.rd (laneDie l) R.NRG_CTR_RESULT.BUSY = 1 ∧
        (t.run l).nrg.seq = some { cmd := 5, phase := .acClose, since := s.now, v0 := 0, welded := false }
      else t.rd (laneDie l) R.NRG_CTR_RESULT.RESULT = 1 ∧ t.dep = s.dep)

/-- R278 to R283: `OPEN_MAIN`, `OPEN_CURRENT_WAIT_END`, `WELD_CHECK_END`, `WELD_TEST`, `CLEAR_WELD`, `OPEN_DC`, `OPEN_AC`,
`DC_OVERCURRENT`, `CONTACTOR_DROP_END`. -/
def Obligations.ContactorSequencesOpenAndTestWelds : Prop :=
  (∀ (s : State) (l : Lane),
    s.canonical = true → s.writable l = true → s.master = l → mainMode (s.modeOf l) = true → s.nrgCfgErr l = false →
    leads (.openMain l) s fun t =>
      t.rd (laneDie l) R.NRG_CTR_RESULT.BUSY = 1 ∧ t.rd (laneDie l) R.NRG_CTR_RESULT.STEP = 1 ∧
      t.rd (laneDie l) R.NRG_REGEN_LIM.P = 0 ∧
      (t.run l).nrg.seq = some { cmd := 2, phase := .curWait, since := s.now, v0 := 0, welded := false }) ∧
  (∀ (s : State) (l : Lane) (q : NrgSeq),
    s.canonical = true → (s.run l).nrg.seq = some q → q.phase = .curWait → s.lowCurrent l = false →
    leads (.openCurrentWaitEnd l) s fun t =>
      t.rd (laneDie l) R.NRG_STATUS.HOT_OPEN = 1 ∧ rose s t (laneDie l) R.NRG_CTRc_CNT.HOT_OPENS ctrMP ∧
      t.now = max s.now (q.since + s.rd (laneDie l) R.NRG_OPEN.T_WAIT * ms)) ∧
  (∀ (s : State) (l : Lane) (q : NrgSeq),
    s.canonical = true → (s.run l).nrg.seq = some q → q.phase = .curWait → s.lowCurrent l = true →
    s.ctrClosed l ctrMP = true → s.ctrOut l ctrMP ≠ s.ctrOut l ctrPRE → s.depOn = true →
    s.on (laneDie l) R.NRG_CTRc_CFG.EN ctrMP = true →
    leads (.openCurrentWaitEnd l) s fun t =>
      t.rd (laneDie l) R.NRG_CTR_RESULT.STEP = 2 ∧ t.ctr l ctrMP = .drop ∧ t.now = s.now ∧
      (t.run l).nrg.seq = some { q with phase := .openMp, since := s.now }) ∧
  (∀ (s : State) (l : Lane) (q : NrgSeq),
    s.canonical = true → (s.run l).nrg.seq = some q → q.phase = .curWait → s.lowCurrent l = true →
    s.ctrClosed l ctrMP = false →
    leads (.openCurrentWaitEnd l) s fun t =>
      t.rd (laneDie l) R.NRG_CTR_RESULT.STEP = 3 ∧ t.now = s.now ∧
      (t.run l).nrg.seq = some { q with phase := .posCheck, since := s.now, v0 := s.vLink l }) ∧
  (∀ (s : State) (l : Lane) (q : NrgSeq),
    s.canonical = true → (s.run l).nrg.seq = some q → q.phase = .posCheck →
    q.v0 - s.vLink l < s.rd (laneDie l) R.NRG_WELD.DV * 2 ^ 30 →
    leads (.weldCheckEnd l) s fun t => t.rd (laneDie l) R.NRG_STATUS.WELD = 1 ∧
      (t.rdBit .ds R.DSP_WELD.WELDED ctrMP = true ∨ t.rdBit .ds R.DSP_WELD.WELDED ctrPRE = true) ∧
      t.now = max s.now (q.since + orOne (s.rd (laneDie l) R.NRG_WELD.T_CHK) * 10 * ms)) ∧
  (∀ (s : State) (l : Lane) (q : NrgSeq),
    s.canonical = true → (s.run l).nrg.seq = some q → q.phase = .posCheck →
    s.rd (laneDie l) R.NRG_WELD.DV * 2 ^ 30 ≤ q.v0 - s.vLink l → s.ctrClosed l ctrMN = true → s.depOn = true →
    s.on (laneDie l) R.NRG_CTRc_CFG.EN ctrMN = true →
    leads (.weldCheckEnd l) s fun t => t.rd (laneDie l) R.NRG_STATUS.WELD = s.rd (laneDie l) R.NRG_STATUS.WELD ∧
      t.rd .ds R.DSP_WELD.WELDED = s.rd .ds R.DSP_WELD.WELDED ∧ t.ctr l ctrMN = .drop ∧ t.now = s.now ∧
      t.rd (laneDie l) R.NRG_CTR_RESULT.STEP = 4 ∧ (t.run l).nrg.seq = some { q with phase := .openMn, since := s.now }) ∧
  (∀ (s : State) (l : Lane) (q : NrgSeq),
    s.canonical = true → (s.run l).nrg.seq = some q →
    (q.phase = .negWait ∧ s.rd (laneDie l) R.NRG_WELD.V_SAFE * 2 ^ 30 < s.vLink l) ∨ q.phase = .mnCheck →
    leads (.weldCheckEnd l) s fun t =>
      let rise := decide (q.phase = .mnCheck) && decide ((s.rd (laneDie l) R.NRG_WELD.DV * 2 ^ 30 : Int) < s.vLink l - q.v0)
      t.rd (laneDie l) R.NRG_CTR_RESULT.RESULT = (if q.welded || rise then 9 else 0) ∧
      t.rd (laneDie l) R.NRG_CTR_RESULT.BUSY = 0 ∧ (t.run l).nrg.seq = none ∧
      (q.phase = .negWait → t.rd (laneDie l) R.NRG_STATUS.NEG_UNTESTED = 1) ∧
      (rise = true → t.rdBit .ds R.DSP_WELD.WELDED ctrMN = true ∧ t.rd (laneDie l) R.NRG_STATUS.WELD = 1 ∧ t.now = s.now) ∧
      (rise = false → t.now = max s.now (q.since + orOne (s.rd (laneDie l) R.NRG_WELD.T_CHK) * 10 * ms) ∧
        (q.cmd = 7 ∧ q.welded = false → t.dep.weldTested = true))) ∧
  (∀ (s : State) (l : Lane),
    s.canonical = true → s.writable l = true → s.master = l → (s.run l).nrg.seq = none →
    mainMode (s.modeOf l) = true → s.nrgCfgErr l = false →
    leads (.weldTest l) s fun t =>
      if s.ctrClosed l ctrMP || s.ctrClosed l ctrMN || s.ctrClosed l ctrPRE then
        t.rd (laneDie l) R.NRG_CTR_RESULT.RESULT = 1 ∧ t.dep = s.dep
      else t.rd (laneDie l) R.NRG_CTR_RESULT.BUSY = 1 ∧ t.rd (laneDie l) R.NRG_CTR_RESULT.STEP = 3 ∧
        (t.run l).nrg.seq = some { cmd := 7, phase := .posCheck, since := s.now, v0 := s.vLink l, welded := false }) ∧
  (∀ (s : State) (l : Lane),
    s.canonical = true → s.writable l = true → s.master = l → (s.run l).nrg.seq = none → s.nrgCfgErr l = false →
    leads (.clearWeld l) s fun t =>
      if s.modeOf l = modeService ∧ s.depOn = true ∧ s.dep.weldTested = true then
        t.rd .ds R.DSP_WELD.WELDED = 0 ∧ t.rd (laneDie l) R.NRG_CTR_RESULT.RESULT = 0
      else t.rd .ds R.DSP_WELD.WELDED = s.rd .ds R.DSP_WELD.WELDED ∧ t.rd (laneDie l) R.NRG_CTR_RESULT.RESULT = 2) ∧
  (∀ (s : State) (l : Lane),
    s.canonical = true → s.writable l = true → s.master = l → s.dcMode l = true → s.nrgCfgErr l = false →
    s.depOn = true → s.on (laneDie l) R.NRG_CTRc_CFG.EN ctrDCP = true → s.ctrClosed l ctrDCP = true →
    leads (.openDc l) s fun t =>
      t.rd (laneDie l) R.NRG_CTR_RESULT.BUSY = 1 ∧ t.rd (laneDie l) R.NRG_CTR_RESULT.LAST_CMD = 4 ∧ t.ctr l ctrDCP = .drop ∧
      (t.run l).nrg.seq = some { cmd := 4, phase := .dcOpen, since := s.now, v0 := 0, welded := false }) ∧
  (∀ (s : State) (l : Lane),
    s.canonical = true → s.writable l = true → s.master = l → s.acMode l = true → s.nrgCfgErr l = false →
    s.depOn = true → s.on (laneDie l) R.NRG_CTRc_CFG.EN ctrACR = true → s.ctrClosed l ctrACR = true →
    leads (.openAc l) s fun t =>
      t.rd (laneDie l) R.NRG_CTR_RESULT.BUSY = 1 ∧ t.rd (laneDie l) R.NRG_CTR_RESULT.LAST_CMD = 6 ∧ t.ctr l ctrACR = .drop) ∧
  (∀ (s : State) (l : Lane),
    s.canonical = true → s.writable l = true → s.master = l → s.nrgCfgErr l = false →
    (let done := fun (cmd : Nat) (t : State) => t.rd (laneDie l) R.NRG_CTR_RESULT.RESULT = 0 ∧
      t.rd (laneDie l) R.NRG_CTR_RESULT.BUSY = 0 ∧ t.rd (laneDie l) R.NRG_CTR_RESULT.LAST_CMD = cmd ∧ (t.run l).nrg.seq = none
    (s.dcMode l = true ∧ s.ctr l ctrDCP = .isOpen ∧ s.ctr l ctrDCN = .isOpen → leads (.openDc l) s (done 4)) ∧
    (s.acMode l = true ∧ s.ctr l ctrACR = .isOpen → leads (.openAc l) s (done 6)))) ∧
  (∀ (s : State) (l : Lane),
    s.canonical = true → s.alive l = true → s.master = l → s.depOn = true →
    s.on (laneDie l) R.NRG_CTRc_CFG.EN ctrDCP = true → s.ctrClosed l ctrDCP = true →
    s.rd (laneDie l) R.NRG_DC.I_DC_MAX * 2 ^ 30 < absI (s.iPack l) →
    leads (.dcOvercurrent l) s fun t =>
      t.rd (laneDie l) R.NRG_CTR_RESULT.BUSY = 1 ∧ t.rd (laneDie l) R.NRG_CTR_RESULT.LAST_CMD = 4 ∧ t.ctr l ctrDCP = .drop ∧
      t.now = max s.now ((s.run l).nrg.dcHigh.getD s.now + 100 * ms)) ∧
  (∀ (s : State) (l : Lane) (c : Fin 6),
    s.canonical = true → s.alive l = true → s.on (laneDie l) R.NRG_CTRc_CFG.EN c = true → s.ctr l c = .drop →
    leads (.contactorDropEnd l c) s fun t =>
      t.now = max s.now (s.dep.ctrAt[s.ctrOut l c] + s.rd (laneDie l) R.NRG_CTRc_CFG.T_DROP c * ms) ∧
      ((s.run l).nrg.seq = none → t.ctr l c = .isOpen) ∧
      (∀ q, (s.run l).nrg.seq = some q →
        (q.phase = .openMp ∧ c = ctrMP → t.ctr l c = .isOpen ∧ t.rd (laneDie l) R.NRG_CTR_RESULT.STEP = 3 ∧
          (t.run l).nrg.seq = some { q with phase := .posCheck, since := t.now, v0 := s.vLink l }) ∧
        (q.phase = .acOpen ∧ c = ctrACR → t.ctr l c = .isOpen ∧ t.rd (laneDie l) R.NRG_CTR_RESULT.RESULT = 0 ∧
          t.rd (laneDie l) R.NRG_CTR_RESULT.BUSY = 0 ∧ (t.run l).nrg.seq = none)))

/-- R269, R272 to R274 (log entry 48 for the release of OV3): `OV1_CROSS`, `OV2_CROSS`, `OV2_RELEASE`, `OV3_CROSS`, `OV3_LINES_INACTIVE`, `OV3_HOLD_EXPIRY`,
`OV3_CONTACTOR_OPEN`. -/
def Obligations.OvervoltageLevelsActInOrder : Prop :=
  (∀ (s : State) (l : Lane) (on : Bool),
    s.canonical = true → s.past l 11 = true → s.on (laneDie l) R.NRG_STATUS.OV1 = !on →
    leads (.ov1Cross l on) s fun t =>
      (s.ovOut l 1 (!on) = !on → t = s) ∧
      (s.ovOut l 1 (!on) = on → t.rd (laneDie l) R.NRG_STATUS.OV1 = b2n on ∧
        (on = true → t.rd (laneDie l) R.NRG_STATUS.OV1_EVT = 1 ∧ rose s t (laneDie l) R.NRG_OV_CNT.OV1 ∧
          (t.run l).nrg.target = 0) ∧
        (on = false → (t.run l).nrg.zeroHold = false))) ∧
  (∀ (s : State) (l : Lane),
    s.canonical = true → s.past l 11 = true → s.on (laneDie l) R.NRG_STATUS.OV2 = false →
    leads (.ov2Cross l) s fun t =>
      (s.ovOut l 2 false = false → t = s) ∧
      (s.ovOut l 2 false = true →
        t.rd (laneDie l) R.NRG_STATUS.OV2 = 1 ∧ t.rd (laneDie l) R.NRG_STATUS.OV2_EVT = 1 ∧
        rose s t (laneDie l) R.NRG_OV_CNT.OV2 ∧ t.rd (laneDie l) R.NRG_REGEN_LIM.P = 0 ∧ (t.run l).nrg.zeroHold = true ∧
        (s.depOn = true → t.rdBit .ds R.DSP_OV_STATUS.OV2 l.idx.val = true ∧ t.rd .ds R.DSP_OV_STATUS.CLAMP = 1))) ∧
  (∀ (s : State) (l : Lane),
    s.canonical = true → s.past l 11 = true → s.on (laneDie l) R.NRG_STATUS.OV2 = true → s.ovOut l 2 true = false →
    leads (.ov2Release l) s fun t => t.rd (laneDie l) R.NRG_STATUS.OV2 = 0 ∧
      (s.depOn = true → t.rdBit .ds R.DSP_OV_STATUS.OV2 l.idx.val = false ∧
        t.rd .ds R.DSP_OV_STATUS.CLAMP = b2n (s.rdBit .ds R.DSP_OV_STATUS.OV2 l.other.idx.val))) ∧
  (∀ (s : State) (l : Lane),
    s.canonical = true → s.past l 11 = true → s.on (laneDie l) R.NRG_STATUS.OV3 = false →
    leads (.ov3Cross l) s fun t =>
      (s.ovOut l 3 false = false → t = s) ∧
      (s.ovOut l 3 false = true →
        t.rd (laneDie l) R.NRG_STATUS.OV3 = 1 ∧ t.rd (laneDie l) R.NRG_STATUS.OV3_EVT = 1 ∧
        rose s t (laneDie l) R.NRG_OV_CNT.OV3 ∧
        (s.depOn = true → t.rd .ds R.DSP_OV_STATUS.ASC_HOLD = 1 ∧ t.dep.asc3 = none))) ∧
  (∀ (s : State) (l : Lane),
    s.canonical = true → s.past l 11 = true → s.on (laneDie l) R.NRG_STATUS.OV3 = true → s.ovOut l 3 true = false →
    leads (.ov3LinesInactive l) s fun t =>
      t.rd (laneDie l) R.NRG_STATUS.OV3 = 0 ∧ t.rd .ds R.DSP_OV_STATUS.ASC_HOLD = s.rd .ds R.DSP_OV_STATUS.ASC_HOLD ∧
      (s.depOn = true ∧ s.rdBit .ds R.DSP_OV_STATUS.OV3 l.idx.val = true →
        t.dep.asc3 = if s.rdBit .ds R.DSP_OV_STATUS.OV3 l.other.idx.val then s.dep.asc3 else some s.now)) ∧
  (∀ (s : State) (x : Nat),
    s.canonical = true → s.depOn = true → s.dep.asc3 = some x →
    leads (.ov3HoldExpiry) s fun t => t.rd .ds R.DSP_OV_STATUS.ASC_HOLD = 0 ∧ t.dep.asc3 = none ∧
      t.now = max s.now (x + orOne (bits (s.rd .ds R.DSP_OV3.VALUE) 23 16) * ms)) ∧
  (∀ (s : State) (l : Lane),
    s.canonical = true → s.alive l = true → s.master = l → s.depOn = true → s.on (laneDie l) R.NRG_STATUS.OV3 = true →
    s.on (laneDie l) R.NRG_CTRc_CFG.EN ctrMP = true → s.ctrClosed l ctrMP = true →
    s.iPack l < s.rd (laneDie l) R.NRG_REGEN.ACC_MIN * 2 ^ 30 →
    leads (.ov3ContactorOpen l) s fun t => rose s t (laneDie l) R.NRG_OV_CNT.OV3_OPEN ∧
      t.rd .ds R.DSP_SOk_STATUS.HS (s.ctrOut l ctrMP) = 0 ∧ t.rd .ds R.DSP_SOk_STATUS.LS (s.ctrOut l ctrMP) = 0 ∧
      t.now = max s.now ((s.run l).nrg.accLow.getD s.now + ms))

/-- R285 to R288: `HVC_SET_WRITE`, `HVC_SOFT_DONE`, `OBC_SYNC_DONE`, `OBC_BUS_REACHED`, `OBC_GRID_TRIP`,
`OBC_GRID_RETURN`. -/
def Obligations.ConverterAndChargerChangeState : Prop :=
  (∀ (s : State) (l : Lane) (v i : BitVec 16),
    s.canonical = true → s.writable l = true →
    leads (.hvcSetWrite l v i) s fun t =>
      let vs := s.rd (laneDie l) R.NRG_HVC_CFG.VSET_SLOT
      let is := s.rd (laneDie l) R.NRG_HVC_CFG.ISET_SLOT
      let soft := s.rd (laneDie l) R.NRG_HVC_STATUS.STATE = hvcSoft
      t.rd (laneDie l) R.NRG_HVC_SET.VSET = v.toNat ∧ t.rd (laneDie l) R.NRG_HVC_SET.ISET = i.toNat ∧
      (¬soft → t.rd (laneDie l) R.CE_Ai_Kj.K vs 3 = v.toNat * 2 ^ 14) ∧
      (soft ∧ vs ≠ is → t.rd (laneDie l) R.CE_Ai_Kj.K vs 3 = s.rd (laneDie l) R.CE_Ai_Kj.K vs 3) ∧
      (soft ∨ vs ≠ is → t.rd (laneDie l) R.CE_Ai_Kj.K is 3 = if s.opening l then 0 else i.toNat * 2 ^ 14)) ∧
  (∀ (s : State) (l : Lane),
    s.canonical = true → s.alive l = true → s.rd (laneDie l) R.NRG_HVC_STATUS.STATE = hvcSoft →
    leads (.hvcSoftDone l) s fun t => t.rd (laneDie l) R.NRG_HVC_STATUS.STATE = hvcRun ∧
      t.rd (laneDie l) R.CE_Ai_Kj.K (s.rd (laneDie l) R.NRG_HVC_CFG.VSET_SLOT) 3 = s.rd (laneDie l) R.NRG_HVC_SET.VSET * 2 ^ 14) ∧
  (∀ (s : State) (l : Lane) (v f : BitVec 16),
    s.canonical = true → s.alive l = true → s.rd (laneDie l) R.NRG_OBC_STATUS.STATE = obcSync →
    leads (.obcSyncDone l v f) s fun t =>
      t.rd (laneDie l) R.NRG_OBC_STATUS.PLL_LOCK = 1 ∧ t.rd (laneDie l) R.NRG_OBC_GRID.V = v.toNat ∧
      t.rd (laneDie l) R.NRG_OBC_GRID.F = f.toNat ∧
      t.rd (laneDie l) R.NRG_OBC_STATUS.STATE = (if s.gridV l v && s.gridF l f then obcPre else obcSync) ∧
      t.now = (if s.gridV l v && s.gridF l f then max s.now ((s.run l).nrg.obcAt + sec) else s.now)) ∧
  (∀ (s : State) (l : Lane),
    s.canonical = true → s.alive l = true → s.rd (laneDie l) R.NRG_OBC_STATUS.STATE = obcPre →
    leads (.obcBusReached l) s fun t => t.rd (laneDie l) R.NRG_OBC_STATUS.STATE = obcRun ∧
      (s.master = l ∧ (s.run l).nrg.seq = none → t.rd (laneDie l) R.NRG_CTR_RESULT.LAST_CMD = 5)) ∧
  (∀ (s : State) (l : Lane) (v f : BitVec 16),
    s.canonical = true → s.alive l = true → s.rd (laneDie l) R.NRG_OBC_STATUS.STATE = obcRun →
    (s.gridV l v && s.gridF l f) = false →
    leads (.obcGridTrip l v f) s fun t =>
      t.rd (laneDie l) R.NRG_OBC_STATUS.STATE = obcTripped ∧ t.rd (laneDie l) R.NRG_OBC_STATUS.GRID_TRIP = 1 ∧
      t.rd (laneDie l) R.NRG_STATUS.GRID_TRIP = 1 ∧ t.rd (laneDie l) R.NRG_OBC_GRID.V = v.toNat ∧
      t.rd (laneDie l) R.NRG_OBC_GRID.F = f.toNat ∧
      (s.depOn = true ∧ s.on (laneDie l) R.NRG_CTRc_CFG.EN ctrACR = true ∧ s.ctrClosed l ctrACR = true → t.ctr l ctrACR = .drop) ∧
      t.now = (let tv := s.rd (laneDie l) R.NRG_OBC_TRIPT.T_V * ms
        let tf := s.rd (laneDie l) R.NRG_OBC_TRIPT.T_F * ms
        max s.now ((s.run l).nrg.obcAt + (if s.gridF l f then tv else if s.gridV l v then tf else min tv tf)))) ∧
  (∀ (s : State) (l : Lane) (v f : BitVec 16),
    s.canonical = true → s.alive l = true → s.rd (laneDie l) R.NRG_OBC_STATUS.STATE = obcTripped →
    s.gridV l v = true → s.gridF l f = true →
    leads (.obcGridReturn l v f) s fun t => t.rd (laneDie l) R.NRG_OBC_STATUS.STATE = obcSync ∧
      t.now = max s.now ((s.run l).nrg.obcAt + 60 * sec) ∧
      t.rd (laneDie l) R.NRG_OBC_GRID.V = v.toNat ∧ t.rd (laneDie l) R.NRG_OBC_GRID.F = f.toNat)

/-- R292 to R295: `LVP_SAMPLE`, `LVP_HANDOVER`, `LVP_HANDOVER_END`, `LVP_REQUAL_END`, `LVP_CUTOFF`, `LVP_RECONNECT`.
R296 to R299, R454: `LVP_PROFILE_STEP`, `ACT_UNDERVOLTAGE`, `VBAT_9V_CROSSING`. -/
def Obligations.PowerPathChargerAndActuatorBoostAct : Prop :=
  (∀ (s : State) (l : Lane) (vbat vbus : Nat) (ip : Int),
    s.canonical = true → s.lvpOn l = true →
    leads (.lvpSample l vbat vbus ip) s fun t =>
      let d := papDie l
      let now := max s.now ((s.pap l).lvp.sampleAt + 10 * us)
      t.rd d R.LVP_MEAS_V.VBAT = min vbat 65535 ∧ t.rd d R.LVP_MEAS_V.VBUS = min vbus 65535 ∧ t.now = now ∧
      ((s.path l = pathBatt ∨ s.path l = pathIso) ∧ s.hvcUp l = true ∧ absI ((vbus : Int) - vbat) ≤ 30 ∧
          s.on d R.LVP_STATUS.REQUAL = false →
        t.path l = pathConv ∧ t.rd d R.LVP_STATUS.PAIR = pairBoth) ∧
      (s.path l = pathHand ∧ 10 ≤ ip ∧ held (s.pap l).lvp.fwdAt (10 * us) now = true →
        t.path l = pathIso ∧ t.rd d R.LVP_STATUS.PAIR = 0 ∧ t.rd d R.LVP_STATUS.REVERSE = 1 ∧ rose s t d R.LVP_CNT.REVERSE) ∧
      (s.path l = pathConv ∧ ip ≤ -(s.rd d R.LVP_PROT.I_MAX : Int) ∧ held (s.pap l).lvp.overAt ms now = true →
        t.path l = pathIso ∧ t.rd d R.LVP_STATUS.PAIR = 0 ∧ t.rd d R.LVP_STATUS.OVERCURRENT = 1 ∧
        rose s t d R.LVP_CNT.ISOLATE)) ∧
  (∀ (s : State) (l : Lane),
    s.canonical = true → s.lvpOn l = true → s.path l = pathConv → s.hvcUp l = false →
    leads (.lvpHandover l) s fun t =>
      t.path l = pathHand ∧ t.rd (papDie l) R.LVP_STATUS.PAIR = pairDischarge ∧
      t.rd (papDie l) R.LVP_STATUS.STAGE = stInhibit ∧ t.rd (papDie l) R.LVP_STATUS.HANDOVER_EVT = 1 ∧ t.now = s.now ∧
      rose s t (papDie l) R.LVP_CNT.HANDOVERS ∧ (t.pap l).lvp.handAt = s.now ∧
      ∀ k ∈ lanes, s.alive k = true → t.rd (laneDie k) R.NRG_HVC_STATUS.STATE = hvcOff) ∧
  (∀ (s : State) (l : Lane),
    s.canonical = true → s.lvpOn l = true → s.path l = pathHand →
    leads (.lvpHandoverEnd l) s fun t =>
      t.path l = pathBatt ∧ t.rd (papDie l) R.LVP_STATUS.PAIR = pairDischarge ∧ t.rd (papDie l) R.LVP_STATUS.REQUAL = 1 ∧
      (t.pap l).lvp.requalAt = some (t.now + 50 * ms) ∧
      t.now = max s.now (match (s.pap l).lvp.revAt with
        | some x => min (x + 100 * us) ((s.pap l).lvp.handAt + 2 * ms)
        | none => (s.pap l).lvp.handAt + 2 * ms)) ∧
  (∀ (s : State) (l : Lane) (x : Nat),
    s.canonical = true → s.lvpOn l = true → (s.pap l).lvp.requalAt = some x →
    leads (.lvpRequalEnd l) s fun t => t.rd (papDie l) R.LVP_STATUS.REQUAL = 0 ∧ (t.pap l).lvp.requalAt = none ∧
      t.now = max s.now x) ∧
  (∀ (s : State) (l : Lane) (x : Nat),
    s.canonical = true → s.lvpOn l = true → s.path l = pathBatt → (s.pap l).lvp.cutAt = some x →
    leads (.lvpCutoff l) s fun t => t.now = max s.now (x + 10 * sec) ∧
      if s.modeOf l = modeDrive then
        t.path l = pathBatt ∧ ((s.pap l).lvp.cutNoted = false → t.rd (papDie l) R.LVP_STATUS.CUTOFF = 1)
      else t.path l = pathIso ∧ t.rd (papDie l) R.LVP_STATUS.CUTOFF = 1 ∧ rose s t (papDie l) R.LVP_CNT.ISOLATE) ∧
  (∀ (s : State) (l : Lane),
    s.canonical = true → s.writable l = true → s.lvpOn l = true → s.path l = pathIso →
    leads (.lvpReconnect l) s fun t =>
      if s.modeOf l ≠ modeDrive ∧ (s.pap l).lvp.isoAt + sec ≤ s.now then
        t.path l = pathBatt ∧ t.rd (papDie l) R.LVP_STATUS.PAIR = pairDischarge ∧ t.now = s.now
      else t = s) ∧
  (∀ (s : State) (l : Lane) (limiting : Bool),
    s.canonical = true → s.lvpOn l = true → s.path l = pathConv →
    leads (.lvpProfileStep l limiting) s fun t =>
      let st := s.rd (papDie l) R.LVP_STATUS.STAGE
      let next := t.rd (papDie l) R.LVP_STATUS.STAGE
      t.now = max s.now ((s.pap l).lvp.profAt + 10 * ms) ∧
      (s.inhibited l = true → next = stInhibit) ∧
      (s.inhibited l = false ∧ st = stInhibit → next = s.startStage l) ∧
      (s.inhibited l = false ∧ st = stCc → next = if s.vAtT l R.LVP_CHG_V.V_CV - 500 ≤ s.vBat l then stCv else stCc)) ∧
  (∀ (s : State) (l : Lane) (vact : Nat),
    s.canonical = true → (s.pap l).powered = true →
    leads (.actUndervoltage l vact) s fun t =>
      t.rd (papDie l) R.LVP_ACT_STATUS.VACT = min vact (2 ^ R.LVP_ACT_STATUS.VACT.w - 1) ∧
      t.rd (papDie l) R.LVP_ACT_STATUS.ACT_UV =
        (if (s.on (papDie l) R.LVP_ACT_CFG.ACT_EN || s.clampRuns l) &&
            decide (10 * vact < 9 * (if s.clampRuns l then 480 else clampN 400 520 (s.rd (papDie l) R.LVP_ACT_CFG.ACT_VSET))) then 1
          else s.rd (papDie l) R.LVP_ACT_STATUS.ACT_UV)) ∧
  (∀ (s : State) (l : Lane) (hi : Bool),
    s.canonical = true → (s.pap l).powered = true →
    leads (.vbat9vCrossing l hi) s fun t => (t.pap l).boostStop = !hi ∧
      (hi = false → t.rd (papDie l) R.LVP_ACT_STATUS.IN_UV = 1 ∧ t.rd (papDie l) R.LVP_ACT_STATUS.RUN = 0) ∧
      (s.depOn = true → t.rd .ds (match l with
        | .a => R.DSP_SUPPLY.VBAT_A_OK
        | .b => R.DSP_SUPPLY.VBAT_B_OK) = b2n hi))

/-- R305 to R312, R321 (log entry 49): `LINK_FRAME_STATE`, `LINK_FRAME_IDLE`, `LINK_FRAME_IN`, `LINK_FRAME_CMP`,
`LINK_FRAME_COPY`, `LINK_FRAME_COPY_END`, `LINK_FRAME_ACK`, `COPY_ACK_TIMEOUT`, `LANE_LINK_LOST`.
R308, R313 to R318: `SNAPSHOT_PERIOD`, `SNAP_NOW`, `SNAPSHOT_SEARCH_END`, `HANDOVER`. -/
def Obligations.LaneLinkFramesSnapshotsAndHandover : Prop :=
  (∀ (s : State) (l : Lane) (flips : List (BitVec 8)),
    s.canonical = true → s.domains l = true → s.domains l.other = true →
    (let k := (s.run l.other).link
    let took := fun (ok : Bool) (t : State) => (t.run l.other).link.next = (k.next + 1) % 256 ∧
      if ok then
        (t.run l).link.expect = some ((k.next + 1) % 256) ∧ (t.run l).link.lastRx = s.now ∧
        t.rd (laneDie l) R.LNK_ERR_CNT.CRC_ERR = s.rd (laneDie l) R.LNK_ERR_CNT.CRC_ERR ∧
        t.rd (laneDie l) R.LNK_ERR_CNT.LOST = satAdd R.LNK_ERR_CNT.LOST.w (s.rd (laneDie l) R.LNK_ERR_CNT.LOST)
          (match (s.run l).link.expect with
            | some e => (k.next + 256 - e) % 256
            | none => 0)
      else rose s t (laneDie l) R.LNK_ERR_CNT.CRC_ERR ∧ (t.run l).link = (s.run l).link
    let stOk := linkPasses flips (linkBytes 0x09 k.next 0 (s.statePayload l.other))
    (k.next? 5 = true → leads (.linkFrameState l flips) s fun t => took stOk t ∧
      (stOk = true → t.rd (laneDie l) R.LNK_STATUS.PARTNER = 1 ∧ (t.run l).link.partnerRole = s.role l.other ∧
        (t.run l).link.lastState = some s.now)) ∧
    (k.next? 5 = false → leads (.linkFrameState l flips) s fun t => t = s) ∧
    (k.next? 8 = true → leads (.linkFrameIdle l flips) s fun t => took (linkPasses flips (linkBytes 0x01 k.next 0 [])) t) ∧
    (k.next? 8 = false → leads (.linkFrameIdle l flips) s fun t => t = s))) ∧
  (∀ (s : State) (l : Lane) (flips : List (BitVec 8)) (n : Nat) (vs : List Nat) (v : Nat),
    s.canonical = true → s.domains l = true → s.domains l.other = true → flips.all (· == 0) = true →
    (s.run l.other).link.inOut = some (n, v :: vs) → (s.run l.other).link.next? 3 = true →
    leads (.linkFrameIn l flips) s fun t => (t.run l.other).link.inOut = none ∧
      if n = s.rd (laneDie l) R.LNK_CHS_CYCLE.N ∧ (s.run l).chs.open_ = true then
        (t.run l).chs.partnerIn = true ∧ t.rd (laneDie l) R.LNK_CHS_PINk.VALUE 0 = v % 2 ^ 24 ∧
        t.rd (laneDie l) R.LNK_CHS_PINk.PLAUSIBLE 0 = v / 2 ^ 24 % 2 ∧ t.rd (laneDie l) R.LNK_CHS_PINk.FRESH 0 = 1
      else (t.run l).chs = (s.run l).chs ∧ t.rd (laneDie l) R.LNK_CHS_PINk.FRESH 0 = s.rd (laneDie l) R.LNK_CHS_PINk.FRESH 0) ∧
  (∀ (s : State) (l : Lane) (flips : List (BitVec 8)) (n : Nat) (ws : List Nat) (w : Nat),
    s.canonical = true → s.domains l = true → s.domains l.other = true → flips.all (· == 0) = true →
    (s.run l.other).link.cmpOut = some (n, w :: ws) → (s.run l.other).link.next? 2 = true →
    leads (.linkFrameCmp l flips) s fun t => (t.run l.other).link.cmpOut = none ∧
      if n = s.rd (laneDie l) R.LNK_CHS_CYCLE.N ∧ (s.run l).chs.open_ = true then
        (t.run l).chs.partnerCmp = some (w :: ws) ∧ t.rd (laneDie l) R.LNK_CHS_PCMDw.CMD 0 = low 32 w
      else (t.run l).chs = (s.run l).chs ∧ t.rd (laneDie l) R.LNK_CHS_PCMDw.CMD 0 = s.rd (laneDie l) R.LNK_CHS_PCMDw.CMD 0) ∧
  (∀ (s : State) (l : Lane) (flips : List (BitVec 8)) (c : CopySet),
    s.canonical = true → s.domains l = true → s.domains l.other = true → flips.all (· == 0) = true →
    s.on (laneDie l.other) R.LNK_STATUS.LINK_UP = true → (s.run l.other).link.copyOut = some c →
    (s.run l.other).link.copyFrag < c.frags → (s.run l.other).link.next? 7 = true →
    (let i := (s.run l.other).link.copyFrag
    leads (.linkFrameCopy l flips) s fun t => (t.run l.other).link.copyFrag = i + 1 ∧
      (t.run l).link.rx = if s.role l = roleWarm ∨ s.role l = roleHot then
          some (RxCopy.take (s.run l).link.rx i (c.fragment i)) else (s.run l).link.rx)) ∧
  (∀ (s : State) (l : Lane) (flips : List (BitVec 8)) (wrong : BitVec 32) (c : CopySet),
    s.canonical = true → s.domains l = true → s.domains l.other = true → flips.all (· == 0) = true →
    s.on (laneDie l.other) R.LNK_STATUS.LINK_UP = true → (s.run l.other).link.copyOut = some c →
    (s.run l.other).link.copyEnd = false → c.frags ≤ (s.run l.other).link.copyFrag →
    (s.run l.other).link.next? 6 = true →
    leads (.linkFrameCopyEnd l flips wrong) s fun t =>
      let complete := match (s.run l).link.rx with
        | some r => !r.broken && r.frags == c.frags
        | none => false
      let same := match (s.run l).link.rx with
        | some r => decide (crc32c r.bytes = c.sig ^^^ wrong.toNat)
        | none => false
      (t.run l.other).link.copyEnd = true ∧ (t.run l.other).link.endAt = s.now ∧
      t.rd (laneDie l.other) R.LNK_COPY_STATUS.SENT = 1 ∧ t.rd (laneDie l.other) R.LNK_COPY_SIG.SIG = low 32 c.sig ∧
      (s.role l = roleWarm ∨ s.role l = roleHot → (t.run l).link.rx = none ∧
        (t.run l).link.ackOut = some (c.hw.cycle, if complete then (if same then 0 else 1) else 2) ∧
        (∀ r, (s.run l).link.rx = some r → complete = true → t.rd (laneDie l) R.LNK_COPY_SIG.SIG = low 32 (crc32c r.bytes)))) ∧
  (∀ (s : State) (l : Lane) (flips : List (BitVec 8)) (c : CopySet) (e : TalEntry) (r : Nat),
    s.canonical = true → s.domains l = true → s.domains l.other = true → flips.all (· == 0) = true →
    (s.run l).link.copyOut = some c → s.copyEntry l = some e → (s.run l.other).link.ackOut = some (c.hw.cycle, r) →
    (s.run l.other).link.next? 4 = true →
    leads (.linkFrameAck l flips) s fun t => (t.run l.other).link.ackOut = none ∧
      (r = 0 → t.rd (laneDie l) R.LNK_COPY_STATUS.ACKED = 1 ∧ (t.run l).link.copyOut = none ∧ t.now = s.now) ∧
      (r ≠ 0 ∧ (s.run l).link.resent = false ∧ e.st ≠ .ending → (t.run l).link.resent = true ∧ (t.run l).link.copyFrag = 0 ∧
        (t.run l).link.copyEnd = false ∧ rose s t (laneDie l) R.LNK_ERR_CNT.RESEND) ∧
      (r ≠ 0 ∧ (s.run l).link.resent = true → (t.run l).link.copyFrag = (s.run l).link.copyFrag ∧
        t.rd (laneDie l) R.LNK_ERR_CNT.RESEND = s.rd (laneDie l) R.LNK_ERR_CNT.RESEND)) ∧
  (∀ (s : State) (l : Lane) (e : TalEntry),
    s.canonical = true → (s.run l).link.copyOut.isSome = true → (s.run l).link.copyEnd = true →
    (s.run l).link.resent = false → s.copyEntry l = some e → e.st ≠ .ending →
    leads (.copyAckTimeout l) s fun t => t.now = max s.now ((s.run l).link.endAt + 5 * us) ∧
      (t.run l).link.resent = true ∧ (t.run l).link.copyFrag = 0 ∧ (t.run l).link.copyEnd = false ∧
      rose s t (laneDie l) R.LNK_ERR_CNT.RESEND) ∧
  (∀ (s : State) (l : Lane),
    s.canonical = true → s.alive l = true → s.on (laneDie l) R.LNK_STATUS.LINK_UP = true →
    leads (.laneLinkLost l) s fun t =>
      t.rd (laneDie l) R.LNK_STATUS.LINK_UP = 0 ∧ t.rd (laneDie l) R.LNK_STATUS.LINK_LOST = 1 ∧
      rose s t (laneDie l) R.LNK_ERR_CNT.LINK_LOSS ∧ t.now = max s.now ((s.run l).link.lastRx + 5 * us) ∧
      (t.run l).link.copyOut = none ∧ (t.run l).link.rx = none ∧ (t.run l).link.stateSeen = false) ∧
  (∀ (s : State) (l : Lane),
    s.canonical = true → s.on (laneDie l) R.LNK_CTRL.SNAP_EN = true →
    (s.running l = true → leads (.snapshotPeriod l) s fun t => (t.run l).link.snapAt = t.now ∧
        t.now = max s.now ((s.run l).link.snapAt + clampN 100 1000 (s.rd (laneDie l) R.LNK_SNAP_CFG.PERIOD) * ms)) ∧
      (s.writable l = true → leads (.snapNow l) s fun t => (t.run l).link.snapAt = s.now ∧ t.now = s.now)) ∧
  (∀ (s : State) (l : Lane) (flips : List (BitVec 8)),
    s.canonical = true → s.alive l = true → s.role l = roleCold →
    leads (.snapshotSearchEnd l flips) s fun t =>
      let good := fun x : Snapshot => x.intact l flips && x.version == s.rd (laneDie l) R.CFG_VERSION.VERSION
      t.now = s.now ∧ t.role l = (if s.partnerGrant l && !s.singleCfg l then roleWarm else roleStart) ∧
      (s.newestSnap l = none → t.rd (laneDie l) R.LNK_SNAP_STATUS.NONE = 1) ∧
      (∀ x, s.newestSnap l = some x →
        t.rd (laneDie l) R.LNK_SNAP_STATUS.POS = (x.slot + 1) % 1024 ∧
        (good x = false ∨ s.snapAge l x = none → t.rd (laneDie l) R.LNK_SNAP_STATUS.NONE = 1) ∧
        (∀ a, s.snapAge l x = some a → good x = true →
          t.rd (laneDie l) R.LNK_SNAP_STATUS.LOADED = 1 ∧
          t.rd (laneDie l) R.LNK_SNAP_STATUS.AGE = min (a / ms) (2 ^ R.LNK_SNAP_STATUS.AGE.w - 1) ∧
          (x.shared.isSome = true ∧ s.partnerGrant l = true → t.rd (laneDie l) R.LNK_SNAP_STATUS.SHARED_USED = 1)))) ∧
  (∀ (s : State) (l : Lane),
    s.canonical = true → s.writable l = true →
    leads (.handover l) s fun t =>
      t.rd (laneDie l) R.LNK_CMD_RESULT.RESULT = s.handCode l ∧
      (s.handCode l = 0 → t.rd (laneDie l) R.LNK_CMD_RESULT.BUSY = 1 ∧ (t.run l).link.handover = true) ∧
      (s.singleCfg l = true → s.handCode l = 6) ∧
      (s.singleCfg l = false ∧ s.role l ≠ roleActive → s.handCode l = 1))

/-- R320 to R327, R337: `CHASSIS_BOUNDARY`, `CHASSIS_SEAL`, `CHASSIS_CMD_DEADLINE`, `CHASSIS_COMPARE`,
`CHASSIS_NODE_FRAME`, `NETWORK_LOSS_COUNT`, `SENSOR_LOSS_COUNT`, `DISAGREE_COUNT`. -/
def Obligations.ChassisCyclesSealCompareAndDeclare : Prop :=
  (∀ (s : State) (l : Lane),
    s.canonical = true →
    (let per := s.chsCycles l * 10000
    let n := nextMultiple (s.masterTime l) per (s.rd (laneDie l) R.LNK_CHS_CYCLE.N)
    leads (.chassisBoundary l) s fun t =>
      if s.chsRuns l then
        t.rd (laneDie l) R.LNK_CHS_STATUS.RUN = 1 ∧ t.rd (laneDie l) R.LNK_CHS_CYCLE.N = low R.LNK_CHS_CYCLE.N.w n ∧
        t.now = max s.now (s.instantOfMaster l (n * per)) ∧ (t.run l).chs.open_ = true ∧ (t.run l).chs.at_ = t.now ∧
        (t.run l).chs.counter = ((s.run l).chs.counter + 1) % 256
      else t.rd (laneDie l) R.LNK_CHS_STATUS.RUN = 0)) ∧
  (∀ (s : State) (l : Lane),
    s.canonical = true → (s.run l).chs.open_ = true → (s.run l).chs.done = false → (s.run l).chs.isSealed = none →
    (let ws := (List.range (s.chsWords l)).map fun w => s.rd (laneDie l) R.LNK_CHS_CMDw.CMD w
    ((s.run l).chs.at_ + s.cmdDl l < s.now → leads (.chassisSeal l) s fun t => t = s) ∧
    (s.writable l = true ∧ s.now ≤ (s.run l).chs.at_ + s.cmdDl l → leads (.chassisSeal l) s fun t =>
      (t.run l).chs.isSealed = some ws ∧ (t.run l).link.cmpOut = some (s.rd (laneDie l) R.LNK_CHS_CYCLE.N, ws) ∧
      t.rd (laneDie l) R.LNK_CHS_STATUS.MISS_RUN = 0) ∧
    (leads (.chassisCmdDeadline l) s fun t => (t.run l).chs.done = true ∧ rose s t (laneDie l) R.LNK_CHS_CNT.MISS ∧
      rose s t (laneDie l) R.LNK_CHS_STATUS.MISS_RUN ∧ t.rd (laneDie l) R.LNK_CHS_STATUS.MISS_EVT = 1 ∧
      t.now = max s.now ((s.run l).chs.at_ + s.cmdDl l)))) ∧
  (∀ (s : State) (l : Lane) (own : List Nat),
    s.canonical = true → (s.run l).chs.open_ = true → (s.run l).chs.done = false → (s.run l).chs.isSealed = some own →
    leads (.chassisCompare l) s fun t =>
      let alone := !(s.run l).chs.partnerIn || (s.run l).chs.partnerCmp.isNone
      let agree := !alone && !s.chsDiffers l own ((s.run l).chs.partnerCmp.getD [])
      t.rd (laneDie l) R.LNK_CHS_STATUS.ALONE = b2n alone ∧ t.rd (laneDie l) R.LNK_CHS_STATUS.AGREE = b2n agree ∧
      (agree = true → t.rd (laneDie l) R.LNK_CHS_STATUS.DIS_RUN = 0) ∧
      (alone = true → rose s t (laneDie l) R.LNK_CHS_CNT.ALONE ∧
        t.now = max s.now ((s.run l).chs.at_ + s.cmdDl l + s.cmpWait l)) ∧
      (alone = false ∧ agree = false → rose s t (laneDie l) R.LNK_CHS_STATUS.DIS_RUN ∧
        t.rd (laneDie l) R.LNK_CHS_STATUS.DISAGREE_EVT = 1)) ∧
  (∀ (s : State) (l : Lane) (template : Nat) (bytes : List Nat) (rest : List (Nat × List Nat)) (j : Fin 8),
    s.running l = true → (s.run l).chs.handed = (template, bytes) :: rest →
    leads (.chassisNodeFrame l) s fun t => t.now = s.now ∧ (t.run l).chs.handed = rest ∧
      bit (t.run l).chs.validNow j = (bit (s.run l).chs.validNow j || (s.on (laneDie l) R.LNK_CHS_RXj_CFG.EN j &&
        s.rd (laneDie l) R.LNK_CHS_RXj_CFG.TEMPLATE j == template &&
        nodeOk (4 ≤ s.rd (laneDie l) R.LNK_CHS_NET.CTRL) (s.rd (laneDie l) R.LNK_CHS_RXj_CFG.DATA_ID j) bytes))) ∧
  (∀ (s : State) (l : Lane) (c : FaultClass),
    s.canonical = true → s.running l = true → s.depOn = true → c = netOf l ∨ c = sensOf l →
    bit (s.run l).sup.lost c.code = false →
    (let d := laneDie l
    let declared := fun t : State => t.rd d R.LNK_CHS_STATUS.DECLARED = 1 ∧ t.isLost c = true
    (c = netOf l ∧ (lossCount (s.rd d R.LNK_CHS_CFG.NET_CNT) ≤ s.rd d R.LNK_CHS_STATUS.NET_RUN ∨
        lossCount (s.rd d R.LNK_CHS_CFG.NET_CNT) ≤ s.rd d R.LNK_CHS_STATUS.MISS_RUN) →
      leads (.networkLossCount l) s declared) ∧
    (c = sensOf l ∧ lossCount (s.rd d R.LNK_CHS_CFG.SENS_CNT) ≤ s.rd d R.LNK_CHS_STATUS.SENS_RUN →
      leads (.sensorLossCount l) s declared) ∧
    (c = sensOf l ∧ orOne (s.rd d R.LNK_CHS_CFG.DIS_CNT) ≤ s.rd d R.LNK_CHS_STATUS.DIS_RUN →
      leads (.disagreeCount l) s declared)))

/-- R19 to R25, R349: `AUTH_REQ_RAISE`, `AUTH_REQ_DROP`, `HOLD_GRANT`, `HOLD_EXPIRY`, `HOLD_REPLAY_EDGE`. -/
def Obligations.GrantsPassThroughTheirHold : Prop :=
  (∀ (s : State) (l : Lane),
    s.canonical = true → s.alive l = true → s.on (laneDie l) R.LNK_STATUS.AUTH_REQ = true → s.eligible l = true →
    s.rd .ds R.DSP_GRANT.STATE = grantNone → s.preferred = l ∨ s.eligible l.other = false →
    leads (.authReqRaise l) s fun t =>
      t.rd .ds (reqFld l) = 1 ∧ t.rd .ds R.DSP_GRANT.STATE = grantCode l ∧ t.role l = roleActive ∧
      rose s t .ds R.DSP_GRANT_CNT.GRANTS ∧ t.rd (laneDie l) R.LNK_STATUS.GRANTED = 1) ∧
  (∀ (s : State) (l : Lane),
    s.canonical = true → s.alive l = true → s.on (laneDie l) R.LNK_STATUS.AUTH_REQ = true → s.holder = some l.other →
    s.eligible l.other = true →
    leads (.authReqRaise l) s fun t => t.rd .ds (reqFld l) = 1 ∧ t.rd .ds R.DSP_GRANT.STATE = grantCode l.other) ∧
  (∀ (s : State) (l : Lane),
    s.canonical = true → s.depOn = true → s.on .ds (reqFld l) = true →
    leads (.authReqDrop l) s fun t =>
      t.rd .ds (reqFld l) = 0 ∧ t.rd (laneDie l) R.LNK_STATUS.AUTH_REQ = 0 ∧
      (s.granted l = true → t.rd .ds R.DSP_GRANT.STATE = grantHold ∧ rose s t .ds R.DSP_GRANT_CNT.HOLDS ∧
        t.dep.holdFrom = some l ∧ t.dep.holdAt = s.now ∧ t.rd (laneDie l) R.LNK_STATUS.GRANTED = 0)) ∧
  (∀ (s : State) (y : Lane),
    s.canonical = true → s.depOn = true → s.rd .ds R.DSP_GRANT.STATE = grantHold →
    leads (.holdGrant) s fun t => t.now = max s.now (s.dep.holdAt + 2) ∧
      (s.holdTaker = some y → t.rd .ds R.DSP_GRANT.STATE = grantCode y ∧ t.role y = roleActive ∧ t.dep.holdFrom = none) ∧
      (s.holdTaker = none → t.rd .ds R.DSP_GRANT.STATE = grantHold ∧ t.dep.holdFrom = s.dep.holdFrom)) ∧
  (∀ (s : State),
    s.canonical = true → s.depOn = true → s.rd .ds R.DSP_GRANT.STATE = grantHold →
    leads (.holdExpiry) s fun t =>
      t.now = max s.now (s.dep.holdAt + 50 * us) ∧
      t.rd .ds R.DSP_HOLD.EXPIRED = 1 ∧ rose s t .ds R.DSP_GRANT_CNT.EXPIRED ∧
      (s.on .ds R.DSP_GRANT.REQ_A = false ∧ s.on .ds R.DSP_GRANT.REQ_B = false →
        t.rd .ds R.DSP_GRANT.STATE = grantNone ∧ t.dep.holdFrom = none ∧
        ∀ c : Fin 64, ∀ m, t.mux.chs[c] = some m → m.driving = false)) ∧
  (∀ (s : State) (c : Fin 64) (m : MuxCh) (x : Int) (lv : Bool),
    s.depOn = true → s.mux.chs[c] = some m → m.driving = true → s.replayEdge m = some (x, lv) →
    leads (.holdReplayEdge c) s fun t =>
      t.mux.chs[c] = some { m with level := lv, lastEdge := some x } ∧ t.steps = max s.steps x)

/-- R28, R331 to R337: `HEARTBEAT_WRITE`, `HEARTBEAT_MISS`, `DEPUTY_ALIVE_TICK`, `DEPUTY_PORT_SILENT`,
`DS_PARTNER_JUDGEMENT`, `PORT_FAULT_RESET`, `DSP_DECLARE`. -/
def Obligations.HeartbeatsAndPortsAreWatched : Prop :=
  (∀ (s : State) (l : Lane) (seq : BitVec 8),
    s.canonical = true → s.writable l = true → (s.run l).phase ≠ .portFault → s.depOn = true →
    s.on .ds R.DSP_Lx_STATUS.ARMED l.idx = true →
    leads (.heartbeatWrite l l seq) s fun t =>
      let x := s.now - (s.depLane l).hb.since
      let start := clampN 10 5000 (s.rd .ds R.DSP_Lx_HB_START.MS l.idx) * ms
      ((s.depLane l).hb.first = true ∧ x ≤ start → t.rd .ds R.DSP_Lx_STATUS.LAST_SEQ l.idx = seq.toNat ∧
        (t.depLane l).hb = { first := false, since := s.now } ∧ t.isLost (lossOf l) = s.isLost (lossOf l)) ∧
      ((s.depLane l).hb.first = true ∧ start < x → rose s t .ds R.DSP_Lx_CNT.HB_MISS l.idx ∧ t.isLost (lossOf l) = true) ∧
      ((s.depLane l).hb.first = false →
      let inside := s.rd .ds R.DSP_Lx_HB_CFG.OPEN l.idx * us ≤ x ∧ x ≤ s.rd .ds R.DSP_Lx_HB_CFG.CLOSE l.idx * us
      (inside ∧ seq.toNat = (s.rd .ds R.DSP_Lx_STATUS.LAST_SEQ l.idx + 1) % 256 →
        t.rd .ds R.DSP_Lx_STATUS.LAST_SEQ l.idx = seq.toNat ∧ (t.depLane l).hb = { first := false, since := s.now } ∧
        t.isLost (lossOf l) = s.isLost (lossOf l)) ∧
      (s.rd .ds R.DSP_Lx_HB_CFG.CLOSE l.idx * us < x →
        rose s t .ds R.DSP_Lx_CNT.HB_MISS l.idx ∧ t.isLost (lossOf l) = true) ∧
      (inside ∧ seq.toNat ≠ (s.rd .ds R.DSP_Lx_STATUS.LAST_SEQ l.idx + 1) % 256 →
        rose s t .ds R.DSP_Lx_CNT.WINDOW_MISS l.idx ∧ t.isLost (lossOf l) = true))) ∧
  (∀ (s : State) (l : Lane) (seq : BitVec 8),
    s.canonical = true → s.writable l = true → (s.run l).phase ≠ .portFault →
    leads (.heartbeatWrite l l.other seq) s fun t => t.dep = s.dep ∧
      t.rd .ds R.DSP_Lx_STATUS.LAST_SEQ l.other.idx = s.rd .ds R.DSP_Lx_STATUS.LAST_SEQ l.other.idx) ∧
  (∀ (s : State) (l : Lane),
    s.canonical = true → s.depOn = true → s.on .ds R.DSP_Lx_STATUS.ARMED l.idx = true →
    leads (.heartbeatMiss l) s fun t => rose s t .ds R.DSP_Lx_CNT.HB_MISS l.idx ∧ t.isLost (lossOf l) = true ∧
      t.now = max s.now ((s.depLane l).hb.since + if (s.depLane l).hb.first then
        clampN 10 5000 (s.rd .ds R.DSP_Lx_HB_START.MS l.idx) * ms else s.rd .ds R.DSP_Lx_HB_CFG.CLOSE l.idx * us)) ∧
  (∀ (s : State),
    s.canonical = true → s.depOn = true →
    leads (.deputyAliveTick) s fun t =>
      t.rd .ds R.DSP_ALIVE.COUNT = low R.DSP_ALIVE.COUNT.w (s.rd .ds R.DSP_ALIVE.COUNT + 1) ∧
      t.now = max s.now (s.dep.t0 + ((s.now - s.dep.t0) / (5 * us) + 1) * (5 * us)) ∧
      t.laneA.run.sup.seenAt = t.now ∧ t.laneB.run.sup.seenAt = t.now) ∧
  (∀ (s : State) (l : Lane),
    s.canonical = true → s.past l 14 = true → (s.run l).phase ≠ .portFault → s.dsLost l = false →
    (s.run l).sup.suspectAt = none → (s.run l).pwr.nap = .run ∨ (s.run l).pwr.nap = .entering →
    leads (.deputyPortSilent l) s fun t => t.now = max s.now ((s.run l).sup.seenAt + 20 * us) ∧
      (s.singleCfg l = true → t.dsLost l = true) ∧ (s.singleCfg l = false → (t.run l).sup.suspectAt = some t.now)) ∧
  (∀ (s : State) (l : Lane) (x : Nat),
    s.canonical = true → s.past l 14 = true → (s.run l).phase ≠ .portFault → (s.run l).sup.suspectAt = some x →
    leads (.dsPartnerJudgement l) s fun t => t.now = max s.now (x + 10 * us) ∧
      (if s.partnerSees l x then (t.run l).phase = .portFault ∧ t.rd (laneDie l) R.LNK_STATUS.AUTH_REQ = 0
       else t.dsLost l = true)) ∧
  (∀ (s : State) (l : Lane),
    s.canonical = true → (s.run l).phase = .portFault →
    leads (.portFaultReset l) s fun t => (t.run l).phase = .held ∧
      t.now = max s.now ((s.run l).sup.suspectAt.getD s.now + 100 * us)) ∧
  (∀ (s : State) (l : Lane) (cls : Fin 8) (c : FaultClass),
    s.canonical = true → s.alive l = true → s.depOn = true → classOf cls = some c →
    leads (.dspDeclare l cls) s fun t =>
      if (c = netOf l ∨ c = sensOf l) ∧ (s.run l).phase ≠ .portFault then
        t.isLost c = true ∧ t.rd (laneDie l) R.LNK_CHS_STATUS.DECLARED = 1
      else t.isLost c = s.isLost c)

/-- R339 to R341: `DEGRADED_EXPIRY`, `LANE_DEGRADED_EXPIRY`, `DEG_REMAIN_SAMPLE`, `RAMP_DONE`, `RAMP_WINDOW_EXPIRY`,
`BRAKE_APPLIED`, `BRAKE_WINDOW_EXPIRY`. -/
def Obligations.SafeStopsAndDegradedTimersAct : Prop :=
  (∀ (s : State),
    s.canonical = true → s.depOn = true → s.on .ds R.DSP_DEG_STATUS.RUNNING = true →
    leads (.degradedExpiry) s fun t =>
      t.rd .ds R.DSP_DEG_STATUS.RUNNING = 0 ∧ t.rd .ds R.DSP_DEG_STATUS.EXPIRED = 1 ∧ t.now = max s.now s.dep.degEnd ∧
      (s.rd .ds R.DSP_SS_STATUS.FORM = 0 → t.rd .ds R.DSP_STATUS.SAFE_STOP = 1 ∧
        t.rd .ds R.DSP_SS_STATUS.FORM = 1 ∧ t.rd .ds R.DSP_OUTCOME.SS_CONTROLLED = 1) ∧
      (s.rd .ds R.DSP_SS_STATUS.FORM ≠ 0 → t.rd .ds R.DSP_SS_STATUS.FORM = s.rd .ds R.DSP_SS_STATUS.FORM)) ∧
  (∀ (s : State) (l : Lane) (e : Nat),
    s.canonical = true → s.alive l = true → (s.run l).sup.tim7 = true → s.timEnd l 7 = some e →
    leads (.laneDegradedExpiry l) s fun t => t.rd (laneDie l) R.CFG_MODE.SAFE_STOP = 1 ∧
      t.rd (laneDie l) R.CFG_MODE.DEGRADED = 0 ∧ (t.run l).sup.laneStop = true ∧ t.now = max s.now (s.instantOf l e)) ∧
  (∀ (s : State) (l : Lane),
    s.canonical = true → s.depOn = true → s.past l 14 = true → (s.run l).phase ≠ .portFault →
    leads (.degRemainSample l) s fun t => t.now = max s.now ((s.run l).sup.sampleAt + ms) ∧
      t.rd .ds R.DSP_DEG_REMAIN.MS = low 32 (if s.on .ds R.DSP_DEG_STATUS.RUNNING then ceilDiv (s.dep.degEnd - t.now) ms
        else 0xFFFFFFFF) ∧
      (t.run l).sup.sampleRemain = t.degRemain ∧ (t.run l).sup.sampleAt = t.now) ∧
  (∀ (s : State) (l : Lane) (k : Fin 12),
    s.canonical = true → s.writable l = true → (s.run l).phase ≠ .portFault → s.granted l = true →
    s.on .ds R.DSP_SS_STATUS.RAMP_RUN = true →
    s.rd .ds R.DSP_SOk_CFG.FUNC k = soSto ∨ s.rd .ds R.DSP_SOk_CFG.FUNC k = soContactor →
    (let opened := fun t : State => t.rd .ds R.DSP_SS_STATUS.RAMP_RUN = 0 ∧ t.rd .ds R.DSP_SS_STATUS.OUTPUTS_OPEN = 1 ∧
      t.soOpen k = true
    (leads (.rampDone l) s fun t => opened t ∧ t.now = s.now) ∧
    ((s.run l.other).phase ≠ .portFault ∧ s.writable l.other = true → leads (.rampDone l.other) s fun t => t.dep = s.dep ∧
      t.rd .ds R.DSP_SS_STATUS.RAMP_RUN = 1) ∧
    (leads (.rampWindowExpiry) s fun t => opened t ∧ t.rd .ds R.DSP_SS_STATUS.RAMP_EXPIRED = 1 ∧
      t.now = max s.now (s.dep.ssAt + (orOne (s.rd .ds R.DSP_SS_CFG.RAMP) + s.rd .ds R.DSP_SS_CFG.RAMP_MARGIN) * 10 * ms)))) ∧
  (∀ (s : State) (l : Lane),
    s.canonical = true → s.writable l = true → (s.run l).phase ≠ .portFault → s.depOn = true →
    leads (.brakeApplied l) s fun t =>
      if s.on .ds R.DSP_STATUS.SAFE_STOP then t.rd .ds (brakeFld l) = 1 ∧ t.now = s.now else t = s) ∧
  (∀ (s : State) (l : Lane),
    s.canonical = true → s.depOn = true → s.rd .ds R.DSP_SS_STATUS.FORM = 1 →
    s.on .ds R.DSP_SS_STATUS.OUTPUTS_OPEN = true → s.on .ds R.DSP_SS_STATUS.BRAKE_WIN_EXP = false →
    s.isLost (lossOf l) = false → s.on .ds (brakeFld l) = false → s.single = false ∨ l = .a →
    (s.pap l).powered = true →
    leads (.brakeWindowExpiry) s fun t => t.rd .ds R.DSP_SS_STATUS.BRAKE_WIN_EXP = 1 ∧ t.rd .ds (clampFld l) = 1 ∧
      (t.pap l).clamp.line = true ∧ t.now = max s.now (s.dep.openedAt + orOne (s.rd .ds R.DSP_SS_CFG.BRAKE_WIN) * ms)) ∧
  (∀ (s : State),
    s.canonical = true → s.depOn = true → s.rd .ds R.DSP_SS_STATUS.FORM = 1 →
    s.on .ds R.DSP_SS_STATUS.OUTPUTS_OPEN = true → s.on .ds R.DSP_SS_STATUS.BRAKE_WIN_EXP = false →
    ∀ l ∈ lanes, s.isLost (lossOf l) = true ∨ s.on .ds (brakeFld l) = true →
    leads (.brakeWindowExpiry) s fun t => t.rd .ds R.DSP_SS_STATUS.BRAKE_WIN_EXP = 0 ∧ t.papA = s.papA ∧ t.papB = s.papB ∧
      t.now = max s.now (s.dep.openedAt + orOne (s.rd .ds R.DSP_SS_CFG.BRAKE_WIN) * ms))

/-- R345 to R348, R458: `DSP_SO_CMD`, `SO_FB_MISMATCH`, `SO_TEST_ROUND`, `SO_TEST_GO`, `SO_CURRENT_LIMIT`. -/
def Obligations.SafeOutputsAreCommandedTestedAndLimited : Prop :=
  (∀ (s : State) (l : Lane) (k : Fin 12) (v : BitVec 22),
    s.canonical = true → s.writable l = true → s.depOn = true → s.rd .ds R.DSP_SOk_CFG.FUNC k = soContactor →
    s.soMay k = true → s.on .ds R.DSP_SOk_STATUS.FAIL k = false → s.dep.test = none →
    leads (.dspSoCmd l k v) s fun t =>
      if s.master = l then
        t.rd .ds R.DSP_SOk_CMD.CLOSE k = bits v.toNat 0 0 ∧ t.rd .ds R.DSP_SOk_CMD.DUTY k = bits v.toNat 8 2 ∧
        t.rd .ds R.DSP_SOk_CMD.T_PULL k = bits v.toNat 21 14 ∧ t.rd .ds R.DSP_SOk_STATUS.HS k = bits v.toNat 0 0 ∧
        t.rd .ds R.DSP_SOk_STATUS.LS k = bits v.toNat 0 0 ∧
        (bit v.toNat 0 = true ∧ s.dep.ctr[k] ≠ .hold → t.dep.ctr[k] = .pull) ∧
        (bit v.toNat 0 = false ∧ (s.dep.ctr[k] = .pull ∨ s.dep.ctr[k] = .hold) → t.dep.ctr[k] = .drop)
      else t.dep = s.dep ∧ t.rd .ds R.DSP_SOk_STATUS.HS k = s.rd .ds R.DSP_SOk_STATUS.HS k) ∧
  (∀ (s : State) (l : Lane) (k : Fin 12) (v : BitVec 22),
    s.canonical = true → s.writable l = true → s.depOn = true → s.master = l → s.dep.test = none →
    leads (.dspSoCmd l k v) s fun t =>
      let f := s.rd .ds R.DSP_SOk_CFG.FUNC k
      let fail := s.on .ds R.DSP_SOk_STATUS.FAIL k
      let stop := s.on .ds R.DSP_STATUS.SAFE_STOP
      let both := fun x => t.rd .ds R.DSP_SOk_STATUS.HS k = x ∧ t.rd .ds R.DSP_SOk_STATUS.LS k = x
      t.rd .ds R.DSP_SOk_CMD.CLOSE k = bits v.toNat 0 0 ∧ t.rd .ds R.DSP_SOk_CMD.FREQ k = bits v.toNat 13 9 ∧
      ((f = soGeneral ∨ f = soContactor) ∧ bit v.toNat 0 = false → both 0) ∧
      (f = soGeneral ∧ bit v.toNat 0 = true ∧ stop = false ∧ fail = false → both 1) ∧
      (f = soGeneral ∧ bit v.toNat 0 = true ∧ stop = false ∧ fail = true ∧ s.on .ds R.DSP_SOk_STATUS.HS k = false →
        t.rd .ds R.DSP_SOk_STATUS.REFUSED k = 1 ∧ t.rd .ds R.DSP_SOk_STATUS.HS k = 0) ∧
      (f = soSto → t.rd .ds R.DSP_SOk_STATUS.HS k = s.rd .ds R.DSP_SOk_STATUS.HS k ∧
        t.rd .ds R.DSP_SOk_STATUS.LS k = s.rd .ds R.DSP_SOk_STATUS.LS k)) ∧
  (∀ (s : State) (k : Fin 12) (fb ls : Bool),
    s.canonical = true → s.depOn = true →
    fb ≠ s.on .ds R.DSP_SOk_STATUS.HS k ∨ (s.chopping k = false ∧ ls ≠ (s.on .ds R.DSP_SOk_STATUS.HS k && !s.on .ds R.DSP_SOk_STATUS.LS k)) →
    leads (.soFbMismatch k fb ls) s fun t => t.rd .ds R.DSP_SOk_STATUS.FB_ERR k = 1 ∧
      rose s t .ds R.DSP_SOk_CNT.FB_ERRS k ∧ t.rd .ds R.DSP_SOk_STATUS.FB k = b2n fb ∧ t.rdBit .ds R.DSP_SO_FB.LEVEL k = fb ∧
      t.rdBit .ds R.DSP_SO_LS.LEVEL k = ls ∧ t.now = max s.now (s.dep.soAt[k] + 200 * us + ms)) ∧
  (∀ (s : State) (reads : List SoRead) (x : Nat),
    s.canonical = true → s.depOn = true → s.dep.startTest = true ∨ (s.dep.roundDue = some x ∧ s.depParked = false) →
    leads (.soTestRound reads) s fun t => t.dep.startTest = false ∧
      (s.dep.startTest = false → max s.now x ≤ t.now ∧ t.dep.roundDue =
        if s.rd .ds R.DSP_SO_TEST.PERIOD = 0 then none else some (x + s.rd .ds R.DSP_SO_TEST.PERIOD * sec)) ∧
      (s.dep.startTest = true → s.now ≤ t.now ∧ t.dep.roundDue = s.dep.roundDue) ∧
      ∀ k : Fin 12, if s.on .ds R.DSP_SOk_CFG.TEST_EN k = true ∧ s.chopping k = false then rose s t .ds R.DSP_SOk_CNT.TESTS k
        else t.rd .ds R.DSP_SOk_CNT.TESTS k = s.rd .ds R.DSP_SOk_CNT.TESTS k) ∧
  (∀ (s : State) (l : Lane) (k : Fin 12) (out : Fin 16) (r : SoRead),
    s.canonical = true → s.writable l = true → s.depOn = true → out.val = k.val →
    leads (.soTestGo l out r) s fun t =>
      if s.on .ds R.DSP_SO_TEST_STATUS.BUSY || s.chopping k || s.rd .ds R.DSP_MODE.MODE != modeService then
        t.rd .ds R.DSP_SO_TEST_STATUS.LAST_RESULT = 5 ∧ t.dep = s.dep
      else
        let closed := s.on .ds R.DSP_SOk_STATUS.HS k && s.on .ds R.DSP_SOk_STATUS.LS k
        let pulse := clampN 5 50 (s.rd .ds R.DSP_SO_TEST.PULSE) * 10 * us
        let code := if r.cut = .open then 4 else if r.fb1 = false then 3 else if r.ls1 = false then 1
          else if closed = true ∧ r.fb2 = true then 2 else 0
        t.rd .ds R.DSP_SO_TEST_STATUS.LAST_RESULT = code ∧ t.rd .ds R.DSP_SO_TEST_STATUS.LAST_OUT = k ∧
        t.rd .ds R.DSP_SO_TEST_STATUS.BUSY = 0 ∧ rose s t .ds R.DSP_SOk_CNT.TESTS k ∧
        t.now = (if r.cut = .open then s.now else s.now + (if closed then 2 * pulse + ms else pulse)) ∧
        (code ≠ 0 ∧ code ≠ 4 → t.rd .ds R.DSP_SOk_STATUS.FAIL k = 1 ∧ t.rd .ds R.DSP_SOk_STATUS.FAIL_CAUSE k = code) ∧
        (code = 4 → t.soOpen k = true ∧ t.rd .ds R.DSP_SOk_STATUS.FAIL k = s.rd .ds R.DSP_SOk_STATUS.FAIL k)) ∧
  (∀ (s : State) (k : Fin 12),
    s.canonical = true → s.depOn = true → s.soOpen k = false →
    leads (.soCurrentLimit k) s fun t => t.soOpen k = true ∧ t.now = s.now + 100 * us)

/-- R343, R344, R392 (log entries 16 and 49): `CLAMP_COMMAND`, `CLAMP_APPLY_END`, `CLAMP_DEFAULT_STEP`, `CLAMP_CONFIG_FRAME`, `CLAMP_DUTY_RECOMPUTE`,
`BRK_APPLY`, `BRK_RELEASE`, `BRK_LOOP_UPDATE`, `BRK_AT_FORCE`. -/
def Obligations.ClampAndBrakeApplicationsProceed : Prop :=
  (∀ (s : State) (l : Lane),
    s.canonical = true → (s.pap l).powered = true → (s.pap l).clamp.line = true → (s.pap l).clamp.phase = .off →
    leads (.clampCommand l) s fun t =>
      rose s t (papDie l) R.PAP_CNT.CLAMPS ∧ t.rd (papDie l) R.PAP_CLAMP_STATUS.CMD = 1 ∧ t.rd (papDie l) R.PAP_STATUS.CLAMP = 1 ∧
      t.now = s.now + us ∧
      (if (s.pap l).clamp.frame.isSome then t.rd (papDie l) R.PAP_CLAMP_STATUS.STAGE = 1 ∧ (t.pap l).clamp.phase = .apply ∧
          (t.pap l).clamp.mask = s.rd (papDie l) R.PAP_CLAMP_FRAME1.MASK ∧ (t.pap l).clamp.at_ = t.now ∧
          (∀ x, (s.pap l).clamp.frame = some x →
            (t.pap l).clamp.duty = clampDuty x.1 (orOne x.2.1) (s.rd (papDie l) R.LVP_ACT_STATUS.VACT))
       else t.rd (papDie l) R.PAP_CLAMP_STATUS.STAGE = 3 ∧ (t.pap l).clamp.phase = .default25 ∧
          (t.pap l).clamp.duty = (25, 100) ∧ (t.pap l).clamp.mask = 0xFFFF)) ∧
  (∀ (s : State) (l : Lane) (i r x hold : Nat),
    s.canonical = true → (s.pap l).clamp.phase = .apply → (s.pap l).clamp.frame = some (i, r, x, hold) →
    leads (.clampApplyEnd l) s fun t => (t.pap l).clamp.phase = .hold ∧ t.rd (papDie l) R.PAP_CLAMP_STATUS.STAGE = 2 ∧
      (t.pap l).clamp.duty = ((s.pap l).clamp.duty.1 * clampN 10 100 hold, (s.pap l).clamp.duty.2 * 100) ∧
      t.now = max s.now ((s.pap l).clamp.at_ + x * 10 * ms)) ∧
  (∀ (s : State) (l : Lane),
    s.canonical = true → (s.pap l).clamp.phase = .default25 →
    leads (.clampDefaultStep l) s fun t => (t.pap l).clamp.phase = .default10 ∧ (t.pap l).clamp.duty = (10, 100) ∧
      t.now = max s.now ((s.pap l).clamp.at_ + sec)) ∧
  (∀ (s : State) (l : Lane) (flips : List (BitVec 8)),
    s.canonical = true → s.depOn = true → s.on .ds R.DSP_SEAL.SEALED = true →
    leads (.clampConfigFrame l flips) s fun t => t.dep.frameSeq = (s.dep.frameSeq + 1) % 2 ^ 16 ∧
      ((s.pap l).powered = true ∧ flips.all (· == 0) = true → t.rd (papDie l) R.PAP_CLAMP_STATUS.FRAME_OK = 1 ∧
        t.rd .ds (frameOkFld l) = 1 ∧ t.rd (papDie l) R.PAP_CLAMP_FRAME1.MASK = s.rd .ds (maskFld l) ∧
        t.rd (papDie l) R.PAP_CLAMP_FRAME0.I_CLAMP = s.rd .ds R.DSP_CLAMP_CFG.I_CLAMP ∧
        (t.pap l).clamp.frame = some (s.rd .ds R.DSP_CLAMP_CFG.I_CLAMP, s.rd .ds R.DSP_CLAMP_CFG.R_WIND,
          s.rd .ds R.DSP_CLAMP_CFG.T_APPLY, s.rd .ds R.DSP_CLAMP_CFG.HOLD)) ∧
      ((s.pap l).powered = false ∨ crc8 ((flipped flips (s.clampFrame l)).take 8) ≠ (flipped flips (s.clampFrame l)).getD 8 0 →
        (t.pap l).clamp = (s.pap l).clamp)) ∧
  (∀ (s : State) (l : Lane) (vact : Nat),
    s.canonical = true → (s.pap l).powered = true → s.clampRuns l = true →
    leads (.clampDutyRecompute l vact) s fun t =>
      t.rd (papDie l) R.LVP_ACT_STATUS.VACT = min vact (2 ^ R.LVP_ACT_STATUS.VACT.w - 1) ∧
      (∀ x, (s.pap l).clamp.frame = some x → (s.pap l).clamp.phase = .apply →
        (t.pap l).clamp.duty = (if 95 * (10 * vact) ≤ 100 * (x.1 * orOne x.2.1) then (95, 100) else (x.1 * orOne x.2.1, 10 * vact))) ∧
      ((s.pap l).clamp.phase ≠ .apply → (t.pap l).clamp = (s.pap l).clamp)) ∧
  (∀ (s : State) (l : Lane),
    s.canonical = true → s.writable l = true → (s.pap l).powered = true →
    leads (.brkApply l) s fun t => if s.clampRuns l || (s.pap l).ownedOff then t = s else
      t.rd (papDie l) R.PAP_BRK_STATUS.ACTIVE = 1 ∧ t.rd (papDie l) R.PAP_STATUS.BRAKE = 1 ∧
      t.rd (papDie l) R.PAP_BRK_STATUS.AT_FORCE = 0 ∧ rose s t (papDie l) R.PAP_CNT.BRAKES ∧
      (t.pap l).clamp.mask = s.rd (papDie l) R.PAP_BRK_CFG.MASK ∧
      (t.pap l).clamp.brakeMa = s.rd (papDie l) R.PAP_BRK_CFG.FORCE * s.rd (papDie l) R.PAP_BRK_CFG.I_LIM * 10) ∧
  (∀ (s : State) (l : Lane),
    s.canonical = true → s.writable l = true → (s.pap l).powered = true →
    s.on (papDie l) R.PAP_BRK_STATUS.ACTIVE = true →
    leads (.brkRelease l) s fun t =>
      if s.on (laneDie l) R.CFG_MODE.SAFE_STOP then
        t.rd (papDie l) R.PAP_BRK_STATUS.REFUSED = 1 ∧ t.rd (papDie l) R.PAP_BRK_STATUS.ACTIVE = 1
      else t.rd (papDie l) R.PAP_BRK_STATUS.ACTIVE = 0 ∧ t.rd (papDie l) R.PAP_STATUS.BRAKE = 0 ∧ (t.pap l).clamp.mask = 0) ∧
  (∀ (s : State) (l : Lane) (cs : List Nat),
    s.canonical = true → s.on (papDie l) R.PAP_BRK_STATUS.ACTIVE = true → cs ≠ [] →
    leads (.brkLoopUpdate l cs) s fun t =>
      let target := (s.pap l).clamp.brakeMa
      ((∀ c ∈ cs, 9 * target ≤ 10 * c ∧ 10 * c ≤ 11 * target) →
        (t.pap l).clamp.brakeOk = some ((s.pap l).clamp.brakeOk.getD s.now)) ∧
      ((∃ c ∈ cs, 10 * c < 9 * target ∨ 11 * target < 10 * c) → (t.pap l).clamp.brakeOk = none) ∧
      ((∀ c ∈ cs, 9 * target ≤ 10 * c) → t.rd (papDie l) R.PAP_BRK_STATUS.LOW = s.rd (papDie l) R.PAP_BRK_STATUS.LOW) ∧
      t.rd (papDie l) R.PAP_BRK_STATUS.MIN_I = min (cs.foldl min 1000000 / 1000) (2 ^ R.PAP_BRK_STATUS.MIN_I.w - 1)) ∧
  (∀ (s : State) (l : Lane) (x : Nat),
    s.canonical = true → s.on (papDie l) R.PAP_BRK_STATUS.ACTIVE = true → (s.pap l).clamp.brakeOk = some x →
    leads (.brkAtForce l) s fun t => t.rd (papDie l) R.PAP_BRK_STATUS.AT_FORCE = 1 ∧ t.now = max s.now (x + ms))

/-- R356 to R367: `CHECKER_FAULT`, `LOCKSTEP_SELF_RESET`, `DEBUG_SPLIT`, `CVU_START`, `CVU_DATA32`, `CVU_DATA16`, `CVU_DATA8`,
`CVU_END`, `CVU_ABORT`, `CVU_RESYNC`. -/
def Obligations.LockstepAndCheckValueUnitsJudge : Prop :=
  (∀ (s : State) (l : Lane) (fs : List CheckFault) (f : CheckFault),
    s.canonical = true → s.alive l = true → s.depOn = true → worstFault (fs.filter fun f => s.compared l f) = some f →
    s.on (laneDie l) R.LCK_FAULT.VALID = false →
    leads (.checkerFault l fs) s fun t =>
      let cs := fs.filter fun f => s.compared l f
      t.rd (laneDie l) R.LCK_FAULT.VALID = 1 ∧ t.rd (laneDie l) R.LCK_FAULT.KIND = f.kind ∧
      t.rd (laneDie l) R.LCK_FAULT.GROUP = f.group ∧ t.rd (laneDie l) R.LCK_FAULT.PAIR = b2n f.cp ∧
      t.rd (laneDie l) R.LCK_FAULT.STAGE = b2n f.stage ∧
      t.rd (laneDie l) R.LCK_FAULT.BOTH = b2n ((cs.any fun x => x.cp) && cs.any fun x => !x.cp) ∧
      t.rd (laneDie l) R.LCK_FAULT_TIME.TIME = low 32 (s.laneTime l) ∧
      t.rd (laneDie l) R.LCK_STATUS.FAULT = 1 ∧ (t.run l).phase = .stopped ∧
      t.isLost (lossOf l) = true ∧ t.now = s.now) ∧
  (∀ (s : State) (l : Lane) (fs : List CheckFault),
    s.on (laneDie l) R.LCK_FAULT.VALID = true ∨ (fs.filter fun f => s.compared l f) = [] →
    leads (.checkerFault l fs) s fun t => t = s) ∧
  (∀ (s : State) (l : Lane) (x : Nat),
    s.canonical = true → (s.run l).lckAt = some x → (s.run l).phase = .stopped →
    (s.on (laneDie l) R.LCK_CFG.HALT && s.rd (laneDie l) R.SEC_LC.STATE == lcDevelop) = false →
    leads (.lockstepSelfReset l) s fun t =>
      t.rd (laneDie l) R.LCK_PREV_FAULT.VALUE = low 32 (s.lckWord l) ∧ t.rd (laneDie l) R.SYS_RESET_CAUSE.LOCKSTEP = 1 ∧
      t.rd (laneDie l) R.LCK_FAULT.VALID = 0 ∧ (t.run l).phase = .held ∧ t.now = max s.now (x + 100 * us)) ∧
  (∀ (s : State) (l : Lane) (x : Nat),
    (s.run l).lckAt = some x → s.on (laneDie l) R.LCK_CFG.HALT = true → s.rd (laneDie l) R.SEC_LC.STATE = lcDevelop →
    leads (.lockstepSelfReset l) s fun t => t = s) ∧
  (∀ (s : State) (l : Lane) (cp : Bool),
    s.canonical = true → s.alive l = true → (s.run l).phase ≠ .stopped → s.debugOpen l = true → s.depOn = true →
    leads (.debugSplit l cp) s fun t =>
      let m := s.rd .ds R.DSP_MODE.MODE
      t.rdBit (laneDie l) R.LCK_STATUS.DEBUG_SPLIT (b2n cp) = true ∧
      t.rd (laneDie l) (if cp then R.LCK_STATUS.LOCKED_CP else R.LCK_STATUS.LOCKED_AP) = 0 ∧ (t.depLane l).split = true ∧
      t.rd .ds (eligFld l) = 0 ∧ t.rd (laneDie l) R.LNK_STATUS.AUTH_REQ = 0 ∧ t.now = s.now ∧
      (m = modeService → t.rd .ds R.DSP_Lx_STATUS.ARMED l.idx = 0) ∧
      (m ≠ modeService ∧ m ≠ modeParked ∧ m ≠ modeStorage → t.isLost (lossOf l) = true)) ∧
  (∀ (s : State) (l : Lane) (who : Initiator) (n : Fin 4),
    s.canonical = true → s.canAccess l who = true →
    leads (.cvuStart l who n) s fun t =>
      t.rd (laneDie l) R.CVU_Un_STATUS.BUSY n = 1 ∧ t.rd (laneDie l) R.CVU_Un_STATUS.OWNER n = who.code ∧
      t.rd (laneDie l) R.CVU_Un_BYTES.COUNT n = 0 ∧ (t.cvuSt l n).bytes = [] ∧ t.rdBit (laneDie l) R.CVU_STATUS.BUSY n = true ∧
      t.rd (laneDie l) R.CVU_Un_RESULT.VALUE n = low 32 (t.cvuValue l n) ∧
      t.rd (laneDie l) R.CVU_Un_CNT.BLOCKS n = s.rd (laneDie l) R.CVU_Un_CNT.BLOCKS n ∧
      (s.on (laneDie l) R.CVU_Un_STATUS.BUSY n = true → rose s t (laneDie l) R.CVU_Un_CNT.ABANDONED n)) ∧
  (∀ (s : State) (l : Lane) (who : Initiator) (n : Fin 4) (v : BitVec 32) (differ : Bool),
    s.canonical = true → s.canAccess l who = true → s.on (laneDie l) R.CVU_Un_STATUS.BUSY n = true →
    s.rd (laneDie l) R.CVU_Un_STATUS.OWNER n = who.code →
    (let fed := fun (bs : List Nat) (t : State) =>
        (t.cvuSt l n).bytes = bs ++ (s.cvuSt l n).bytes ∧
        t.rd (laneDie l) R.CVU_Un_BYTES.COUNT n = satAdd R.CVU_Un_BYTES.COUNT.w (s.rd (laneDie l) R.CVU_Un_BYTES.COUNT n) bs.length ∧
        t.rd (laneDie l) R.CVU_Un_RESULT.VALUE n = low 32 (t.cvuValue l n) ∧
        t.rd (laneDie l) R.CVU_Un_STATUS.UNIT_ERR n = max (b2n differ) (s.rd (laneDie l) R.CVU_Un_STATUS.UNIT_ERR n)
    let b := fun k => v.toNat / 256 ^ k % 256
    (leads (.cvuData32 l who n v differ) s (fed [b 3, b 2, b 1, b 0])) ∧
    (leads (.cvuData16 l who n v differ) s (fed [b 1, b 0])) ∧ (leads (.cvuData8 l who n v differ) s (fed [b 0])))) ∧
  (∀ (s : State) (l : Lane) (who : Initiator) (n : Fin 4) (v : BitVec 32) (differ : Bool),
    s.canonical = true → s.canAccess l who = true →
    (let turned := fun (t : State) =>
    (s.on (laneDie l) R.CVU_Un_STATUS.BUSY n = false →
      t.rd (laneDie l) R.CVU_Un_STATUS.PROTO_ERR n = 1 ∧ (t.cvuSt l n).bytes = (s.cvuSt l n).bytes) ∧
    (s.on (laneDie l) R.CVU_Un_STATUS.BUSY n = true ∧ s.rd (laneDie l) R.CVU_Un_STATUS.OWNER n ≠ who.code →
      (t.cvuSt l n).bytes = (s.cvuSt l n).bytes ∧ t.rd (laneDie l) R.CVU_Un_STATUS.BUSY n = 1 ∧
      rose s t (laneDie l) R.SYS_ACCESS_INFO.COUNT ∧ t.rd (laneDie l) R.SYS_ACCESS_INFO.REASON = Reason.owner.code ∧
      t.rd (laneDie l) R.SYS_ACCESS_INFO.INITIATOR = who.code)
    (leads (.cvuData32 l who n v differ) s turned) ∧ (leads (.cvuData16 l who n v differ) s turned) ∧
    (leads (.cvuData8 l who n v differ) s turned) ∧ (leads (.cvuEnd l who n) s turned))) ∧
  (∀ (s : State) (l : Lane) (who : Initiator) (n : Fin 4),
    s.canonical = true → s.canAccess l who = true → s.on (laneDie l) R.CVU_Un_STATUS.BUSY n = true →
    s.rd (laneDie l) R.CVU_Un_STATUS.OWNER n = who.code →
    leads (.cvuEnd l who n) s fun t =>
      let d := laneDie l
      let w := aliveWidth (s.rd d R.CVU_Un_CFG.ALIVE_W n)
      let v := low w (s.rd d R.CVU_Un_ALIVE.COUNTER n)
      let dlt := (v + 2 ^ w - low w (s.rd d R.CVU_Un_STATUS.LAST_ALIVE n)) % 2 ^ w
      let check := s.on d R.CVU_Un_CFG.MODE n
      let counted := check && s.on d R.CVU_Un_CFG.ALIVE_EN n && !(s.cvuSt l n).fresh
      let repeated := counted && decide (dlt = 0)
      let jumped := counted && decide (dlt ≠ 0 ∧ orOne (s.rd d R.CVU_Un_CFG.MAX_DELTA n) < dlt)
      t.rd d R.CVU_Un_STATUS.BUSY n = 0 ∧ t.rdBit d R.CVU_STATUS.BUSY n = false ∧ rose s t d R.CVU_Un_CNT.BLOCKS n ∧
      t.rd d R.CVU_Un_RESULT.VALUE n = low 32 (s.cvuValue l n) ∧
      (repeated = true → t.rd d R.CVU_Un_STATUS.REPEAT n = 1 ∧ rose s t d R.CVU_Un_CNT.ALIVE_ERR n) ∧
      (jumped = true → t.rd d R.CVU_Un_STATUS.JUMP n = 1 ∧ rose s t d R.CVU_Un_CNT.ALIVE_ERR n) ∧
      (check = true ∧ repeated = false ∧ jumped = false ∧ s.cvuBad l n = true →
        t.rd d R.CVU_Un_STATUS.MISMATCH n = 1 ∧ rose s t d R.CVU_Un_CNT.MISMATCH n) ∧
      t.rd d R.CVU_Un_STATUS.LAST_ALIVE n =
        (if check && s.on d R.CVU_Un_CFG.ALIVE_EN n && !repeated && !jumped && !s.cvuBad l n then v
         else s.rd d R.CVU_Un_STATUS.LAST_ALIVE n)) ∧
  (∀ (s : State) (l : Lane) (who : Initiator) (n : Fin 4),
    s.canonical = true → s.canAccess l who = true →
    (leads (.cvuAbort l who n) s fun t => t.rd (laneDie l) R.CVU_Un_STATUS.BUSY n = 0 ∧
        t.rd (laneDie l) R.CVU_Un_CNT.BLOCKS n = s.rd (laneDie l) R.CVU_Un_CNT.BLOCKS n ∧
        t.rd (laneDie l) R.CVU_Un_CNT.MISMATCH n = s.rd (laneDie l) R.CVU_Un_CNT.MISMATCH n ∧
        t.rd (laneDie l) R.CVU_Un_CNT.ABANDONED n = s.rd (laneDie l) R.CVU_Un_CNT.ABANDONED n) ∧
      (leads (.cvuResync l who n) s fun t => (t.cvuSt l n).fresh = true ∧ t.regs = s.regs))

/-- R55, R84, R101, R300, R329, R330, R454: `ISLAND_SUPPLY_RISE`, `ISLAND_SUPPLY_FAULT`, `ISLAND_S_QUALIFY`, `ISLAND_S_LOST`,
`VKEEP_RISE`, `VKEEP_LOSS`, `NRESET_LOW`, `WAKE_INPUT`, `DEPUTY_OSC_CORRECTION`, `DEPUTY_OSC_SOURCE_CHANGE`,
`DEPUTY_OSC_REMOVAL`. -/
def Obligations.SuppliesRiseFallAndReset : Prop :=
  (∀ (s : State) (l : Lane),
    s.canonical = true → s.island l = false → s.storage = false → (s.pap l).shutdown = false →
    leads (.islandSupplyRise l) s fun t => t.island l = true ∧ (t.pap l).powered = true ∧
      t.rd (papDie l) R.PAP_RESET_CAUSE.SUPPLY = 1 ∧ t.rd (papDie l) R.PAP_STATUS.SUP_OK = 1) ∧
  (∀ (s : State) (l : Lane) (sup : IslandSupply),
    s.canonical = true → s.island l = true → s.depOn = true →
    leads (.islandSupplyFault l sup) s fun t => t.island l = false ∧ (t.run l).phase = .off ∧
      t.supplyOn l sup = false ∧ t.now = s.now ∧
      ((s.run l).phase ≠ .off ∨ (s.depLane .a).st19 = true ∨ (s.depLane .b).st19 = true → t.isLost (lossOf l) = true) ∧
      (sup = .vbat → (t.pap l).powered = false) ∧ ((s.pap l).powered = true ∧ sup ≠ .vbat → (t.pap l).powered = true)) ∧
  (∀ (s : State) (l : Lane) (sup : IslandSupply),
    s.canonical = true → s.island l = false → s.supplyOn l sup = true →
    leads (.islandSupplyFault l sup) s fun t => t.island l = false ∧ t.supplyOn l sup = false ∧ t.now = s.now ∧
      (sup = .vbat → (t.pap l).powered = false) ∧
      ((s.pap l).powered = true ∧ sup = .vddc → t.rd (papDie l) R.VRC_CORE_STATUS.MON_TRIP = 1 ∧
        rose s t (papDie l) R.PAP_CNT.SUP_FALL)) ∧
  (∀ (s : State) (wake0 wake1 : Bool) (vbatA vbatB vso : Nat),
    s.canonical = true → s.depOn = false → s.storage = false → s.dep.coolAt = none → s.dep.phase = .unpowered →
    leads (.islandSQualify wake0 wake1 vbatA vbatB vso) s fun t =>
      if vbatA < 9000 ∧ vbatB < 9000 then t = s
      else t.depOn = true ∧ t.dep.t0 = s.now ∧ t.rd .ds R.DSP_SUPPLY.VBAT_A_OK = b2n (decide (9000 ≤ vbatA)) ∧
        t.rd .ds R.DSP_SUPPLY.VSO_OK = b2n (decide (9000 ≤ vso)) ∧ t.rd .ds R.DSP_GRANT.STATE = grantNone ∧
        t.dep.startCmd = (wake0 || wake1)) ∧
  (∀ (s : State),
    s.canonical = true → s.depOn = true → (s.run .a).phase ≠ .off ∨ (s.run .b).phase ≠ .off →
    (leads (.islandSLost) s fun t => t.depOn = false ∧ t.rd (laneDie .a) R.LNK_STATUS.GRANTED = 0 ∧
        t.dep.phase = (if (s.pap .a).powered || (s.pap .b).powered then .removed else .unpowered)) ∧
      (leads (.deputyOscRemoval) s fun t => t.depOn = false ∧ t.dep.phase = .removed ∧
        t.rd (laneDie .a) R.LNK_STATUS.GRANTED = 0 ∧ t.rd (laneDie .b) R.LNK_STATUS.GRANTED = 0)) ∧
  (∀ (s : State),
    (s.sup.vkeep = false → leads (.vkeepRise) s fun t => t.sup.vkeep = true ∧ t.storage = false ∧ t.now = s.now) ∧
      (s.sup.vkeep = true → leads (.vkeepLoss) s fun t => t.sup.vkeep = false ∧ t.storage = false ∧ t.now = s.now)) ∧
  (∀ (s : State) (l : Lane) (ns : Nat),
    s.canonical = true → s.island l = true → ns < 200 ∨ 1000 ≤ ns →
    leads (.nresetLow l ns) s fun t =>
      if 1000 ≤ ns then (t.run l).phase = (if (s.run l).phase = .off then .off else .held) ∧
        t.rd (papDie l) R.PAP_RESET_CAUSE.NRESET = 1 ∧ t.now = s.now
      else t = s) ∧
  (∀ (s : State) (pin : Fin 2),
    s.canonical = true → s.depOn = true →
    s.on .ds (if pin = 0 then R.DSP_WAKE_CFG.WAKE0_EN else R.DSP_WAKE_CFG.WAKE1_EN) = true →
    leads (.wakeInput pin) s fun t =>
      t.rd .ds (if pin = 0 then R.DSP_WAKE_STATUS.WAKE0 else R.DSP_WAKE_STATUS.WAKE1) = 1 ∧
      (s.rd .ds R.DSP_MODE.MODE = modeParked → t.dep.startCmd = true)) ∧
  (∀ (s : State) (freq : Nat),
    s.canonical = true → s.depOn = true → s.dep.oscOn = true → s.on .ds R.DSP_PK_INFO.SOURCE = false →
    (leads (.deputyOscCorrection freq) s fun t => t.rd .ds R.DSP_PK_FREQ.MHZ = low R.DSP_PK_FREQ.MHZ.w freq ∧
        t.dep.oscOn = true ∧ t.now = s.now) ∧
      (leads (.deputyOscSourceChange) s fun t => t.rd .ds R.DSP_PK_INFO.SRC_CHANGE = 1 ∧ t.rd .ds R.DSP_PK_INFO.SOURCE = 1 ∧
        t.rd .ds R.DSP_OSC.OK = 0))

/-- R378 to R382: `VDD_GO`, `RLK_SET`, `RLK_ACK`, `RLK_SUPERSEDED`, `RLK_STATUS`, `RLK_LOSS`. -/
def Obligations.RailLinkCommandsAndAnswers : Prop :=
  (∀ (s : State) (l : Lane) (who : Initiator),
    s.canonical = true → s.canAccess l who = true →
    leads (.vddGo l who) s fun t =>
      let c := s.rd (laneDie l) R.SYS_VDD_REQ.CODE
      let d := laneDie l
      if c < s.vddFloor l then t.rd d R.SYS_VDD_RESULT.CODE = 3 ∧ t.rd d R.SYS_VDD_RESULT.ADMITTED = 0
      else if 140 < c then t.rd d R.SYS_VDD_RESULT.CODE = 4 ∧ t.rd d R.SYS_VDD_RESULT.ADMITTED = 0
      else if s.on d R.SYS_PWR_STATUS.BUSY then t.rd d R.SYS_VDD_RESULT.CODE = 5 ∧ t.rd d R.SYS_VDD_RESULT.ADMITTED = 0
      else
        let r := s.submit l who 14 (max c (s.lastTarget l) - min c (s.lastTarget l))
          (dl40 (s.rd d R.SYS_VDD_DL_LO.DL) (s.rd d R.SYS_VDD_DL_HI.DL)) (.vdd c)
        t.rd d R.SYS_VDD_RESULT.ADMITTED = b2n (r.1.code == 0) ∧ t.tal l = r.2.tal l ∧ t.now = s.now) ∧
  (∀ (s : State) (l : Lane) (e : TalEntry) (target : Nat) (flip : BitVec 32),
    s.canonical = true → s.nextSet l = some e → e.job = .vdd target → s.alive l = true → (s.vrc l).running = true →
    e.id < 128 → target < 256 →
    leads (.rlkSet l flip) s fun t =>
      let heard := railOk (railWord 1 e.id target ^^^ flip.toNat)
      t.rd (laneDie l) R.SYS_VDD_STATUS.TARGET = target ∧ (t.pwr l).unsure.contains e.id = true ∧
      (t.pwr l).sent = some e.id ∧ t.now = s.now ∧
      (flip = 0 → (t.vrc l).tag = some e.id ∧ (t.vrc l).target = target ∧ (t.vrc l).seen = true) ∧
      (heard = false → (t.vrc l).target = (s.vrc l).target ∧ (t.vrc l).tag = (s.vrc l).tag ∧ (t.vrc l).rxOk = false)) ∧
  (∀ (s : State) (l : Lane) (tag code : Nat) (rest : List RailFrame) (flip : BitVec 32),
    s.canonical = true → (s.vrc l).owed = .ack tag code :: rest → s.alive l = true → tag < 128 → code < 256 →
    leads (.rlkAck l flip) s fun t => (t.vrc l).owed = rest ∧ (t.pwr l).sent = none ∧
      (railOk (railWord 9 (tag + 128 * b2n (s.vrc l).rxOk) code ^^^ flip.toNat) = false →
        rose s t (laneDie l) R.SYS_RLK_CNT.CRC_ERR ∧
        t.rd (laneDie l) R.SYS_VDD_STATUS.SETPOINT = s.rd (laneDie l) R.SYS_VDD_STATUS.SETPOINT) ∧
      (flip = 0 → t.rd (laneDie l) R.SYS_VDD_STATUS.SETPOINT = code ∧ t.rd (laneDie l) R.SYS_RLK_STATUS.UP = 1 ∧
        ((s.pwr l).nap = .waking → t.rd (laneDie l) R.SYS_PWR_STATUS.STATE = 0 ∧ t.rd (laneDie l) R.SYS_PWR_STATUS.BUSY = 0 ∧
          t.rd (laneDie l) R.SYS_WAKE_STATUS.LOGIC_READY = 1))) ∧
  (∀ (s : State) (l : Lane) (tag code : Nat) (rest : List RailFrame) (flip : BitVec 32),
    s.canonical = true → (s.vrc l).owed = .superseded tag code :: rest → s.alive l = true → tag < 128 → code < 256 →
    leads (.rlkSuperseded l flip) s fun t => (t.vrc l).owed = rest ∧
      (railOk (railWord 10 (tag + 128 * b2n (s.vrc l).rxOk) code ^^^ flip.toNat) = false →
        rose s t (laneDie l) R.SYS_RLK_CNT.CRC_ERR) ∧
      (flip = 0 → t.rd (laneDie l) R.SYS_VDD_STATUS.SETPOINT = code ∧ rose s t (laneDie l) R.SYS_RLK_CNT.SUPERSEDED)) ∧
  (∀ (s : State) (l : Lane) (flip : BitVec 32),
    s.canonical = true → s.alive l = true → (s.vrc l).running = true → (s.vrc l).owed = [] →
    leads (.rlkStatus l flip) s fun t =>
      (t.vrc l).oc = false ∧
      (railOk (railWord 8 (s.statusTag l % 128 + 128 * b2n (s.vrc l).rxOk) (s.rd (papDie l) R.VRC_CORE_MEAS.VDDC) ^^^ flip.toNat) = false →
        rose s t (laneDie l) R.SYS_RLK_CNT.CRC_ERR) ∧
      (flip = 0 → t.rd (laneDie l) R.SYS_VDD_STATUS.SETPOINT = low R.SYS_VDD_STATUS.SETPOINT.w (s.vddSet l) ∧
        t.rd (laneDie l) R.SYS_VDD_STATUS.MEAS = s.rd (papDie l) R.VRC_CORE_MEAS.VDDC ∧
        t.rd (laneDie l) R.SYS_VDD_STATUS.SHED = s.shed l ∧ t.rd (laneDie l) R.SYS_RLK_STATUS.UP = 1 ∧
        ((s.vrc l).rxOk = true → ∀ i, (s.pwr l).sent = some i → (t.pwr l).unsure.contains i = false))) ∧
  (∀ (s : State) (l : Lane),
    s.canonical = true →
    ((s.vrc l).running = true ∧ (s.vrc l).seen = true → leads (.rlkLoss l true) s fun t =>
        t.rd (papDie l) R.VRC_CORE_STATUS.RLK_LOSS = 1 ∧ (t.vrc l).seen = false ∧ (t.vrc l).target = (s.vrc l).target ∧
        t.now = max s.now ((s.vrc l).heardAt + 10 * us)) ∧
      (s.alive l = true ∧ (s.pwr l).lost = false → leads (.rlkLoss l false) s fun t =>
        t.rd (laneDie l) R.SYS_RLK_STATUS.UP = 0 ∧ t.rd (laneDie l) R.SYS_RLK_STATUS.DOWN = 1 ∧
        rose s t (laneDie l) R.SYS_RLK_CNT.DOWN ∧ (t.pwr l).unsure = [] ∧ (t.pwr l).lost = true ∧
        t.now = max s.now ((s.pwr l).heardAt + 10 * us)))

/-- R384 to R387: `PWR_IDLE`, `IDLE_INTERRUPT`, `PWR_NAP`, `RLK_NAP`, `RLK_NAP_DONE`, `NAP_WAKE`, `RLK_WAKE`.
R373, R375, R382: `VRC_SETTLED`, `VRC_UPDATE`, `VRC_SHED`, `VRC_SHED_RAMP_END`, `VRC_RESTORE`. -/
def Obligations.PowerStatesAndCoreRailController : Prop :=
  (∀ (s : State) (l : Lane),
    s.canonical = true →
    (s.firmware l = true → leads (.pwrIdle l) s fun t => t.rd (laneDie l) R.SYS_PWR_STATUS.STATE = 1 ∧ t.now = s.now) ∧
      (s.alive l = true ∧ s.rd (laneDie l) R.SYS_PWR_STATUS.STATE = 1 → leads (.idleInterrupt l) s fun t =>
        t.rd (laneDie l) R.SYS_PWR_STATUS.STATE = 0)) ∧
  (∀ (s : State) (l : Lane) (nvmBusy : Bool) (abort : Fin 9),
    s.canonical = true → s.writable l = true → s.on (laneDie l) R.SYS_PWR_STATUS.BUSY = false →
    s.modeOf l = modeReady ∨ s.modeOf l = modeService ∨ s.modeOf l = modeStationary →
    s.rd (laneDie l) R.SYS_WAKE_CFG.TIM ≠ 0 ∨ s.on (laneDie l) R.SYS_WAKE_CFG.DEPUTY = true →
    leads (.pwrNap l nvmBusy abort) s fun t =>
      let d := laneDie l
      let code := s.napRefuser l nvmBusy
      if code ≠ 0 ∨ abort.val ≠ 0 then
        rose s t d R.SYS_REFUSE_CNT.COUNT ∧ t.rd d R.SYS_REFUSE_CNT.LAST_CODE = (if code ≠ 0 then code else abort.val) ∧
        t.rd d R.SYS_REFUSE_CNT.ABORTED = b2n (code == 0) ∧ t.rd d R.SYS_PWR_STATUS.STATE = s.rd d R.SYS_PWR_STATUS.STATE
      else t.rd d R.SYS_PWR_STATUS.BUSY = 1 ∧ t.rd d R.SYS_PWR_STATUS.STEP = 6 ∧ t.rd d R.SYS_PWR_STATUS.STATE = 2 ∧
        (t.pwr l).nap = .entering ∧ (t.pwr l).runCode = s.vddSet l) ∧
  (∀ (s : State) (l : Lane) (flip : BitVec 32),
    s.canonical = true → (s.pwr l).nap = .entering → (s.vrc l).running = true →
    ((s.vrc l).nap = false → leads (.rlkNap l 0) s fun t => (t.vrc l).nap = true ∧ (t.vrc l).target = 0 ∧
        (t.vrc l).tag = none ∧ (t.vrc l).seen = true) ∧
      (railOk (railWord 2 0 0 ^^^ flip.toNat) = false → leads (.rlkNap l flip) s fun t =>
        (t.vrc l).nap = (s.vrc l).nap ∧ (t.vrc l).target = (s.vrc l).target ∧ (t.vrc l).rxOk = false) ∧
      (s.alive l = true ∧ (s.vrc l).owed = [] ∧
        (s.vrc l).nap = true ∧ s.shed l = shedP1 ∧ (s.pwr l).heldWake = none → leads (.rlkNapDone l 0) s fun t =>
        (t.pwr l).nap = .nap ∧ t.rd (laneDie l) R.SYS_VDD_STATUS.SETPOINT = 0 ∧ t.rd (laneDie l) R.SYS_PWR_STATUS.BUSY = 0 ∧
        t.rd (papDie l) R.VRC_CORE_STATUS.NAP = 1 ∧ t.now = max s.now (s.slewEnd l))) ∧
  (∀ (s : State) (l : Lane),
    s.canonical = true → s.alive l = true → s.on (laneDie l) R.SYS_WAKE_CFG.DEPUTY = true → (s.pwr l).nap = .nap →
    leads (.napWake l none) s fun t => (t.pwr l).nap = .waking ∧ (t.pwr l).wakeAt = s.now ∧
      t.rd (laneDie l) R.SYS_WAKE_STATUS.WOKE_DEPUTY = 1 ∧ t.rd (laneDie l) R.SYS_PWR_STATUS.BUSY = 1 ∧
      t.rd (laneDie l) R.SYS_WAKE_STATUS.LOGIC_READY = 0) ∧
  (∀ (s : State) (l : Lane) (n : Fin 8),
    s.canonical = true → s.alive l = true → s.rdBit (laneDie l) R.SYS_WAKE_CFG.TIM n = true →
    s.on (laneDie l) R.TIM_Tn_STATUS.EXPIRED n = true → (s.pwr l).nap = .nap →
    leads (.napWake l (some n)) s fun t => (t.pwr l).nap = .waking ∧ t.rd (laneDie l) R.SYS_WAKE_STATUS.WOKE_TIM = 1) ∧
  (∀ (s : State) (l : Lane),
    s.canonical = true → s.alive l = true → s.on (laneDie l) R.SYS_WAKE_CFG.DEPUTY = true →
    (s.pwr l).nap = .entering →
    leads (.napWake l none) s fun t => (t.pwr l).nap = .entering ∧
      (t.pwr l).heldWake = some (((s.pwr l).heldWake.getD (false, false)).1, true) ∧ t.now = s.now) ∧
  (∀ (s : State) (l : Lane),
    s.canonical = true → (s.pwr l).nap = .waking → (s.vrc l).running = true → (s.vrc l).nap = true →
    (s.pwr l).runCode < 256 →
    leads (.rlkWake l 0) s fun t => (t.vrc l).nap = false ∧ (t.vrc l).wake = true ∧ (t.vrc l).target = (s.pwr l).runCode ∧
      t.rd (papDie l) R.VRC_CORE_STATUS.NAP = 0) ∧
  (∀ (s : State) (l : Lane) (x : Nat),
    (s.vrc l).running = true → (s.vrc l).okAt = some x → (s.vrc l).tag ≠ none ∨ (s.vrc l).wake = true →
    leads (.vrcSettled l) s fun t => (t.vrc l).owed = (s.vrc l).owed ++ [.ack ((s.vrc l).tag.getD 0) (s.vrc l).target] ∧
      (t.vrc l).tag = none ∧ (t.vrc l).wake = false ∧ t.now = max s.now (max x (s.slewEnd l) + 2 * us)) ∧
  (∀ (s : State) (l : Lane) (m : RailSample),
    s.canonical = true → s.canonical = true → (s.vrc l).running = true → m.vddc < 2 ^ 11 →
    leads (.vrcUpdate l m) s fun t =>
      t.now = max s.now ((s.vrc l).updAt + 25) ∧
      t.shed l = (if s.shed l = shedRestore ∧ (s.vrc l).shedAt + 50 ≤ t.now then shedP4 else s.shed l) ∧
      t.rd (papDie l) R.VRC_CORE_STATUS.GAIN_SET = (if t.shed l = shedP2 ∨ t.shed l = shed21 then 1
        else if t.shed l = shedP1 then 2 else 0) ∧
      t.rd (papDie l) R.VRC_CORE_MEAS.VDDC = m.vddc ∧
      t.rd (papDie l) R.VRC_CORE_CNT.OC = satAdd R.VRC_CORE_CNT.OC.w (s.rd (papDie l) R.VRC_CORE_CNT.OC)
        (m.peaks.filter fun i => decide (10 * (s.rd (papDie l) R.VRC_LIMIT.OC : Int) < i)).length ∧
      (t.vrc l).e1 = 960 + 4 * (t.vddSet l : Nat) - m.vddc ∧ (t.vrc l).e2 = (s.vrc l).e1 ∧ (t.vrc l).iPrev = (s.vrc l).iNow) ∧
  (∀ (s : State) (l : Lane) (x : Nat),
    s.canonical = true → (s.vrc l).running = true → (s.vrc l).lowAt = some x →
    s.on (papDie l) R.VRC_CORE_CFG.SHED_EN = true → s.slewing l = false → (s.vrc l).nap = false →
    s.shed l = shedP4 ∧ (s.vrc l).iNow < 10 * (s.rd (papDie l) R.VRC_SHED_CFG.SHED2 : Nat) ∨ s.shed l = shedP2 ∧ (s.vrc l).iNow < 10 * (s.rd (papDie l) R.VRC_SHED_CFG.SHED1 : Nat) →
    leads (.vrcShed l) s fun t => t.shed l = (if s.shed l = shedP4 then shed42 else shed21) ∧
      t.now = max s.now (x + orOne (s.rd (papDie l) R.VRC_SHED_CFG2.DWELL) * us)) ∧
  (∀ (s : State) (l : Lane),
    s.canonical = true → (s.vrc l).running = true →
    (s.shed l = shed42 ∨ s.shed l = shed21 → leads (.vrcShedRampEnd l) s fun t => rose s t (papDie l) R.VRC_CORE_CNT.SHEDS ∧
        t.now = max s.now ((s.vrc l).shedAt + 4 * us) ∧
        t.shed l = (if (s.vrc l).nap = true ∧ s.shed l = shed42 then shed21 else s.shed l + 1)) ∧
      ((s.vrc l).nap = false ∧ (s.shed l = shed42 ∨ s.shed l = shedP2 ∨ s.shed l = shed21 ∨ s.shed l = shedP1) ∧
        (5 * (s.rd (papDie l) R.VRC_SHED_CFG.RESTORE : Nat) < 4 * ((s.vrc l).iNow - (s.vrc l).iPrev) ∨
          10 * ((if s.shed l = shed42 ∨ s.shed l = shedP2 then s.rd (papDie l) R.VRC_SHED_CFG.SHED2
            else s.rd (papDie l) R.VRC_SHED_CFG.SHED1) + s.rd (papDie l) R.VRC_SHED_CFG.HYST : Nat) < (s.vrc l).iNow) →
        leads (.vrcRestore l) s fun t => t.shed l = shedRestore ∧ t.now = s.now ∧
          (s.shed l = shed42 ∨ s.shed l = shed21 → rose s t (papDie l) R.VRC_CORE_CNT.ABORTS)))

/-- R393, R396, R401 to R403: `THM_SAMPLE`, `THERMAL_SHUTDOWN`, `THERMAL_RELEASE`.
R300 to R302: `BTN_PRESS`, `BTN_RELEASE`, `BTN_HELD_MARK`, `BTN_HELD_8S`, `KEEPER_DECISION_RECEIVED`,
`KEEPER_ACTION_STEP`, `LAMP_SLOT`. -/
def Obligations.TemperaturesKeepersAndLampsAct : Prop :=
  (∀ (s : State) (l : Lane) (m : ThmSample) (y : Int),
    s.canonical = true → s.past l 3 = true → (s.pwr l).nap = .run ∨ (s.pwr l).nap = .entering → m.die.head? = some y →
    leads (.thmSample l m) s fun t =>
      (t.thm l).lastAt = t.now ∧ t.rd (papDie l) R.PAP_OSC.TRIMMED = 1 ∧
      t.now = (if (s.thm l).started = none then s.now
        else max s.now ((s.thm l).lastAt + (if s.on (laneDie l) R.THM_STATUS.FAST then 50 else 1000) * us)) ∧ (t.thm l).started ≠ none ∧
      t.rd (laneDie l) R.THM_SENSi.VALID 0 = 1 ∧ t.rd (laneDie l) R.THM_SENSi.TEMP 0 = ux R.THM_SENSi.TEMP.w y) ∧
  (∀ (s : State) (l : Lane) (i : Fin 12),
    s.canonical = true → (s.pap l).shutdown = false → (s.pap l).powered = true → s.island l = true →
    leads (.thermalShutdown (.island l i)) s fun t =>
      (t.pap l).shutdown = true ∧ (t.pap l).coolAt = s.now ∧ t.island l = false ∧ (t.run l).phase = .off ∧
      rose s t (papDie l) R.PAP_SHUT.COUNT ∧ t.rd (papDie l) R.PAP_SHUT.LAST = i ∧ t.rd (papDie l) R.PAP_STATUS.SUP_OK = 0) ∧
  (∀ (s : State) (l : Lane) (i : Fin 12),
    (s.pap l).shutdown = true →
    leads (.thermalShutdown (.island l i)) s fun t => (t.pap l).shutdown = true ∧ (t.pap l).coolAt = s.now ∧ t.regs = s.regs) ∧
  (∀ (s : State) (i : Fin 2),
    s.canonical = true →
    leads (.thermalShutdown (.deputy i)) s fun t => t.depOn = false ∧
      (s.depOn = true → t.dep.coolAt = some s.now ∧
        ∀ l ∈ lanes, (s.pap l).powered = true → rose s t (papDie l) R.PAP_SHUT.COUNT ∧ t.rd (papDie l) R.PAP_SHUT.LAST = 12 + i.val) ∧
      (s.depOn = false → t.dep.coolAt = s.dep.coolAt.map fun _ => s.now)) ∧
  (∀ (s : State) (l : Lane),
    s.canonical = true → (s.pap l).shutdown = true →
    leads (.thermalRelease (some l)) s fun t => (t.pap l).shutdown = false ∧ t.island l = true ∧
      t.rd (papDie l) R.PAP_RESET_CAUSE.THERMAL = 1 ∧ t.rd (papDie l) R.PAP_STATUS.SUP_OK = 1 ∧
      t.now = max s.now ((s.pap l).coolAt + 2 * sec)) ∧
  (∀ (s : State) (x : Nat),
    s.dep.coolAt = some x →
    leads (.thermalRelease none) s fun t => t.dep.coolAt = none ∧ t.now = max s.now (x + 2 * sec)) ∧
  (∀ (s : State) (l : Lane),
    s.canonical = true → s.sup.vkeep = true → s.on (papDie l) R.LVP_KEEP_STATUS.BTN = false →
    (s.keeper l).decided = none → (s.keeper l).action = .none →
    leads (.btnPress l) s fun t => t.rd (papDie l) R.LVP_KEEP_STATUS.BTN = 1 ∧
      (t.keeper l).pressAt = some (s.now - 50 * ms)) ∧
  (∀ (s : State) (l : Lane) (x : Nat) (held_ : Nat),
    s.canonical = true → s.sup.vkeep = true → s.on (papDie l) R.LVP_KEEP_STATUS.BTN = true →
    (s.keeper l).pressAt = some x → (s.keeper l).decided = none →
    leads (.btnRelease l held_) s fun t =>
      let m := if s.storage then 1000 else 20000
      let parked := s.depOn && s.rd .ds R.DSP_MODE.MODE == modeParked
      let decides := fun (a : KeepAction) => (t.keeper l).action = a ∧ (t.keeper l).stepAt = t.now ∧ (t.keeper l).step = 0 ∧
        (t.keeper l.other).decided = some (a, t.now)
      t.rd (papDie l) R.LVP_KEEP_STATUS.BTN = 0 ∧ (t.keeper l).pressAt = none ∧ t.now = max s.now (x + held_ * ms) ∧
      (if m ≤ held_ then
        if s.armed l then
          if s.storage then t.rd (papDie l) R.LVP_KEEP_STATUS.STORAGE_EXIT = 1 ∧ t.storage = false ∧ decides .storageExit
          else t.rd (papDie l) R.LVP_KEEP_STATUS.PRESS_20S = 1 ∧ decides .storageEntry
        else (s.storage = false → t.rd (papDie l) R.LVP_KEEP_STATUS.REFUSED = 1) ∧ (t.keeper l).action = (s.keeper l).action
       else if held_ < 8000 then
        (s.armed l = true ∧ parked = true ∧ s.storage = false → t.rd (papDie l) R.LVP_KEEP_STATUS.PRESS_SHORT = 1 ∧
          t.dep.startCmd = true ∧ (t.keeper l.other).decided = some (.wake, t.now)) ∧ (t.keeper l).action = (s.keeper l).action
       else if s.armed l then t.rd (papDie l) R.LVP_KEEP_STATUS.PRESS_8S = 1 ∧ decides .reset
       else t.rd (papDie l) R.LVP_KEEP_STATUS.REFUSED = 1 ∧ (t.keeper l).action = (s.keeper l).action)) ∧
  (∀ (s : State) (l : Lane) (x : Nat),
    s.canonical = true → s.sup.vkeep = true → (s.keeper l).pressAt = some x → (s.keeper l).decided = none →
    s.armed l = true →
    (leads (.btnHeldMark l) s fun t => (t.keeper l).pressAt = none ∧
        (if s.storage then t.storage = false ∧ (t.keeper l).action = .storageExit ∧ (t.keeper l).swClose = true
         else t.rd (papDie l) R.LVP_KEEP_STATUS.PRESS_20S = 1 ∧ (t.keeper l).action = .storageEntry)) ∧
      (s.depOn = true → leads (.btnHeld8s l) s fun t => t.dep.btnMark = max 1 s.dep.btnMark ∧ t.now = max s.now (x + 8 * sec))) ∧
  (∀ (s : State) (l : Lane) (a : KeepAction) (x : Nat),
    s.canonical = true → s.sup.vkeep = true → (s.keeper l).decided = some (a, x) → a ≠ .none →
    leads (.keeperDecisionReceived l) s fun t => (t.keeper l).decided = none ∧ (t.keeper l).pressAt = none ∧ t.now = s.now ∧
      (∀ f, keepFlag a = some f → t.rd (papDie l) f = 1) ∧
      (a ≠ .wake → (t.keeper l).action = a ∧ (t.keeper l).stepAt = x ∧ (t.keeper l).step = 0) ∧
      (a = .storageExit → t.storage = false ∧ (t.keeper l).swClose = true) ∧
      (a = .wake ∧ s.depOn = true ∧ s.rd .ds R.DSP_MODE.MODE = modeParked → t.dep.startCmd = true)) ∧
  (∀ (s : State) (l : Lane) (d : Nat),
    s.canonical = true → s.sup.vkeep = true → keepDelay (s.keeper l).action (s.keeper l).step = some d →
    leads (.keeperActionStep l) s fun t => t.now = max s.now ((s.keeper l).stepAt + d * ms) ∧
      (let a := (s.keeper l).action
       if a = .storageExit then (t.keeper l).swClose = false ∧ (t.keeper l).action = .none
       else if (s.keeper l).step = 0 then (t.keeper l).swOpen = true ∧ (t.keeper l).step = 1 ∧ t.depOn = false ∧ t.island .a = false ∧ t.island .b = false ∧
          (a = .storageEntry → t.storage = true)
       else if (s.keeper l).step = 1 then (t.keeper l).swOpen = false ∧ (t.keeper l).action = (if a = .storageEntry then .none else a)
       else if (s.keeper l).step = 2 then (t.keeper l).swClose = true ∧ (t.keeper l).step = 3
       else (t.keeper l).swClose = false ∧ (t.keeper l).action = .none)) ∧
  (∀ (s : State),
    s.depOn = true →
    leads (.lampSlot) s fun t => t.dep.lampSlot = (s.dep.lampSlot + 1) % 8 ∧
      t.dep.stat0 = bit s.lamp.2.1 (7 - t.dep.lampSlot) ∧ t.dep.stat1 = bit s.lamp.2.2 (7 - t.dep.lampSlot) ∧
      (s.dep.firstHandshake = true ∧ s.dep.btnMark = 1 → s.lamp.2 = (0xAA, 0xAA)))

/-- R405 to R412: `CAN_ENABLE`, `CAN_INTEGRATED`, `CAN_TX_GO`, `CAN_ATTEMPT_START`, `CAN_ATTEMPT_END`, `CAN_BUS_OFF`,
`CAN_RECOVER`, `CAN_RECOVERY_DONE`. The counters' steps are those of log entry 19. -/
def Obligations.CanControllersJoinSendAndRecover : Prop :=
  (∀ (s : State) (l : Lane) (n : Fin 4),
    s.canonical = true → s.past l 16 = true → (s.canSt l n).onBus = false → s.on (laneDie l) R.CANn_CTRL.EN n = true →
    leads (.canEnable l n) s fun t => (t.canSt l n).onBus = s.canTimingOk l n ∧
      t.rd (laneDie l) R.CANn_STATUS.CFG_ERR n = b2n (!s.canTimingOk l n)) ∧
  (∀ (s : State) (l : Lane) (n : Fin 4),
    s.canonical = true → (s.canSt l n).onBus = true → s.on (laneDie l) R.CANn_CTRL.EN n = false →
    leads (.canEnable l n) s fun t => (t.canSt l n).onBus = false ∧ (t.canSt l n).attempt = none ∧
      (t.canSt l n).window = none ∧ t.rd (laneDie l) R.CANn_STATUS.SYNC n = 0 ∧ t.now = s.now) ∧
  (∀ (s : State) (l : Lane) (n : Fin 4),
    s.canonical = true → s.alive l = true → (s.canSt l n).onBus = true →
    leads (.canIntegrated l n) s fun t => t.rd (laneDie l) R.CANn_STATUS.SYNC n = 1) ∧
  (∀ (s : State) (l : Lane) (who : Initiator) (n : Fin 4),
    s.canonical = true → s.canAccess l who = true →
    leads (.canTxGo l who n) s fun t =>
      let tn := s.rd (laneDie l) R.CANn_TX_REQ.TEMPLATE n
      let r := s.canSubmit l who n tn (dl40 (s.rd (laneDie l) R.CANn_TX_DL_LO.DL n) (s.rd (laneDie l) R.CANn_TX_DL_HI.DL n)) (.can tn)
      t.rd (laneDie l) R.CANn_TX_RESULT.ADMITTED n = b2n (r.1 == 0) ∧
      t.rd (laneDie l) R.CANn_TX_RESULT.CODE n = low R.CANn_TX_RESULT.CODE.w r.1 ∧
      t.rd (laneDie l) R.CANn_TX_RESULT.ID n = low R.CANn_TX_RESULT.ID.w r.2.1 ∧ t.now = s.now) ∧
  (∀ (s : State) (l : Lane) (n : Fin 4) (e : TalEntry),
    s.domains l = true → s.canSends l n = true → (s.canSt l n).attempt = none → s.canNext l n = some e →
    leads (.canAttemptStart l n) s fun t => (t.canSt l n).attempt = some (e.id, s.now) ∧ t.now = s.now ∧ t.regs = s.regs) ∧
  (∀ (s : State) (l : Lane) (n : Fin 4) (id x : Nat) (e : TalEntry) (kind : Fin 7) (data : Bool),
    s.canonical = true → (s.canSt l n).attempt = some (id, x) → (s.tal l).find id = some e →
    (leads (.canAttemptEnd l n .done) s fun t => (t.canSt l n).attempt = none ∧ rose s t (laneDie l) R.CANn_CNT.TX n ∧
        t.rd (laneDie l) R.CANn_ERR.TEC n = s.rd (laneDie l) R.CANn_ERR.TEC n - 1) ∧
      (leads (.canAttemptEnd l n .lost) s fun t => (t.canSt l n).attempt = none ∧
        t.rd (laneDie l) R.CANn_ERR.TEC n = s.rd (laneDie l) R.CANn_ERR.TEC n ∧ (e.st ≠ .ending → t.regs = s.regs ∧ t.tal l = s.tal l)) ∧
      (leads (.canAttemptEnd l n (.error kind data)) s fun t => (t.canSt l n).attempt = none ∧
        t.rd (laneDie l) R.CANn_ERR.LAST n = kind ∧ t.rd (laneDie l) R.CANn_ERR.DATA_PHASE n = b2n data ∧
        rose s t (laneDie l) (if kind.val = 3 then R.CANn_ERR_CNT.ACK else R.CANn_ERR_CNT.OTHER) n ∧
        t.rd (laneDie l) R.CANn_ERR.TEC n =
          (if kind.val = 3 ∧ s.on (laneDie l) R.CANn_STATUS.PASSIVE n = true then s.rd (laneDie l) R.CANn_ERR.TEC n
           else min (s.rd (laneDie l) R.CANn_ERR.TEC n + 8) (2 ^ R.CANn_ERR.TEC.w - 1)))) ∧
  (∀ (s : State) (l : Lane) (n : Fin 4),
    s.canonical = true → s.alive l = true → (s.canSt l n).onBus = true →
    s.on (laneDie l) R.CANn_STATUS.BUS_OFF n = false → 255 < s.rd (laneDie l) R.CANn_ERR.TEC n →
    leads (.canBusOff l n) s fun t => t.rd (laneDie l) R.CANn_STATUS.BUS_OFF n = 1 ∧
      t.rd (laneDie l) R.CANn_STATUS.BUS_OFF_EVT n = 1 ∧ rose s t (laneDie l) R.CANn_ERR_CNT.BUS_OFF n ∧
      (s.rd (laneDie l) R.LNK_CHS_NET.CTRL = n.val ∧ s.depOn = true ∧ (s.run l).phase ≠ .portFault →
        t.isLost (netOf l) = true)) ∧
  (∀ (s : State) (l : Lane) (n : Fin 4),
    s.canonical = true → s.writable l = true → s.on (laneDie l) R.CANn_STATUS.BUS_OFF n = true →
    (leads (.canRecover l n) s fun t => (t.canSt l n).recovering = true ∧ t.regs = s.regs) ∧
      ((s.canSt l n).recovering = true → leads (.canRecoveryDone l n) s fun t =>
        t.rd (laneDie l) R.CANn_STATUS.BUS_OFF n = 0 ∧ t.rd (laneDie l) R.CANn_ERR.TEC n = 0 ∧
        t.rd (laneDie l) R.CANn_ERR.REC n = 0 ∧ t.rd (laneDie l) R.CANn_STATUS.PASSIVE n = 0))

/-- R413 to R416: `CAN_RX_FRAME`, `CAN_RX_POP`, `CAN_HP_POP`, `CAN_CELL_START`, `CAN_WINDOW_CLOSE`. -/
def Obligations.CanFramesAreFilteredStoredAndScheduled : Prop :=
  (∀ (s : State) (l : Lane) (n : Fin 4) (f : CanFrame) (ago : Nat),
    s.canonical = true → s.domains l = true → (s.canSt l n).onBus = true →
    s.on (laneDie l) R.CANn_STATUS.SYNC n = true → s.on (laneDie l) R.CANn_STATUS.BUS_OFF n = false →
    leads (.canRxFrame l n f ago) s fun t =>
      let d := laneDie l
      let c := s.canSt l n
      let hit := (List.range 128).find? fun k => s.filterHits l n f k
      let act := fun (k : Nat) => bits (s.canWord l n (0x1400 + 16 * k + 4)) 31 29
      let size := 4 * (5 + ceilDiv f.data.length 4)
      let o := if 0x7000 < c.place + size then 0x4000 else c.place
      let room := o + size ≤ 0x7000 ∧ (c.fifo.all fun r => decide (o + size ≤ r.1) || decide (r.1 + r.2 ≤ o)) = true ∧
        c.fifo.length < 1023
      let stored := if room then (t.canSt l n).fifo = c.fifo ++ [(o, size)] ∧ (t.canSt l n).place = o + size ∧
          t.rd d R.CANn_RX_STATUS.LEVEL n = c.fifo.length + 1 ∧ rose s t d R.CANn_CNT.RX n
        else t.rd d R.CANn_STATUS.FIFO_OVR n = 1 ∧ (t.canSt l n).fifo = c.fifo
      let kept := (t.canSt l n).fifo = c.fifo ∧ t.rd d R.CANn_CNT.RX n = s.rd d R.CANn_CNT.RX n ∧
        t.rd d R.CANn_HP_STATUS.LEVEL n = s.rd d R.CANn_HP_STATUS.LEVEL n
      if s.formatOn l n f.format then
        (hit = none → if s.on d R.CANn_CTRL.NOMATCH n then stored else kept) ∧
        ∀ k, hit = some k →
          if act k = 3 then kept
          else if act k = 2 ∧ f.data.length ≤ 492 then
            (if 8 ≤ s.rd d R.CANn_HP_STATUS.LEVEL n then t.rd d R.CANn_STATUS.HP_OVR n = 1 ∧ kept
             else t.rd d R.CANn_HP_STATUS.LEVEL n = s.rd d R.CANn_HP_STATUS.LEVEL n + 1 ∧ rose s t d R.CANn_CNT.RX n ∧
              t.rd d R.CANn_HP_STATUS.HP_NEW n = 1 ∧ (t.canSt l n).fifo = c.fifo)
          else stored ∧ (act k = 4 ∧ s.rd d R.LNK_CHS_NET.CTRL = n.val →
            (t.run l).chs.handed = (s.run l).chs.handed ++ [(k, f.data)])
      else t = s.set d R.CANn_STATUS.PROTO_EXC n) ∧
  (∀ (s : State) (l : Lane) (n : Fin 4) (x : Nat × Nat) (r : List (Nat × Nat)),
    s.canonical = true → s.writable l = true → (s.canSt l n).fifo = x :: r → r.length < 1024 →
    leads (.canRxPop l n) s fun t => (t.canSt l n).fifo = r ∧ t.rd (laneDie l) R.CANn_RX_STATUS.LEVEL n = r.length ∧
      (∀ y, r.head? = some y → t.rd (laneDie l) R.CANn_RX_STATUS.READ n = low R.CANn_RX_STATUS.READ.w y.1)) ∧
  (∀ (s : State) (l : Lane) (n : Fin 4),
    s.canonical = true → s.writable l = true → 0 < s.rd (laneDie l) R.CANn_HP_STATUS.LEVEL n →
    leads (.canHpPop l n) s fun t =>
      t.rd (laneDie l) R.CANn_HP_STATUS.LEVEL n = s.rd (laneDie l) R.CANn_HP_STATUS.LEVEL n - 1 ∧
      t.rd (laneDie l) R.CANn_HP_STATUS.NEXT n = low R.CANn_HP_STATUS.NEXT.w (s.rd (laneDie l) R.CANn_HP_STATUS.NEXT n + 1)) ∧
  (∀ (s : State) (l : Lane) (n : Fin 4) (c : Fin 32),
    s.canonical = true → s.domains l = true → s.on (laneDie l) R.CANn_SCHED_STATUS.RUNNING n = true →
    leads (.canCellStart l n c) s fun t =>
      if s.columnOk l n c then
        let bc := s.baseCycle l n
        let p := s.matrixPos l n
        let o := (s.column l n c).1
        let b := (if p % bc ≤ o then p / bc else p / bc + 1) % 16
        let e := s.cell l n b c
        let es := ((s.tal l).ofQueue n).filter fun x => x.st == .waiting && x.job.template == e.2
        t.now = s.now + (b * bc + o + 16 * bc - p) % (16 * bc) ∧ t.rd (laneDie l) R.CANn_SCHED_STATUS.BASE n = b ∧
        (e.1 = false → (t.canSt l n).window = (s.canSt l n).window) ∧
        (e.1 = true → (t.canSt l n).window = some e.2 ∧ (t.canSt l n).closeAt = t.now + (s.column l n c).2 - o ∧
          (es = [] → rose s t (laneDie l) R.CANn_TT_CNT.CELLS_EMPTY n) ∧
          (es ≠ [] ∧ s.canSends l n = true ∧ (s.canSt l n).attempt = none ∧ s.tmplSched l n e.2 = true →
            rose s t (laneDie l) R.CANn_TT_CNT.CELLS_USED n ∧ (t.canSt l n).attempt = es.head?.map fun x => (x.id, t.now)))
      else t = s.set (laneDie l) R.CANn_SCHED_STATUS.SCHED_ERR n) ∧
  (∀ (s : State) (l : Lane) (n : Fin 4),
    leads (.canWindowClose l n) s fun t => (t.canSt l n).window = none ∧ (t.canSt l n).attempt = (s.canSt l n).attempt ∧
      t.regs = s.regs ∧ t.now = (if (s.canSt l n).window = none then s.now else max s.now (s.canSt l n).closeAt))

/-- R419 to R425: `ETH_TX_GO`, `ETH_RX_FRAME`, `ETH_RX_RELEASE`, `ETH_MDIO`, `ETH_MDIO_DONE`, `ETH_LINK_CHANGE`,
`T1S_COLLISION`, `PLCA_BEACON_CHANGE`. -/
def Obligations.EthernetMacsSendReceiveAndManage : Prop :=
  (∀ (s : State) (l : Lane) (who : Initiator) (m : Fin 3),
    s.canonical = true → s.canAccess l who = true →
    leads (.ethTxGo l who m) s fun t =>
      let d := laneDie l
      let a := s.rd d R.ETHm_TX_ADDR.ADDR m
      let n := s.rd d R.ETHm_TX_LEN.LEN m
      let ok := 14 ≤ n ∧ n + (if s.on d R.ETHm_TX_LEN.TAG m then 4 else 0) ≤ 1518 ∧ a % 4 = 0 ∧ rangeInSram a n = true
      let r := s.ethSubmit l who m n (dl40 (s.rd d R.ETHm_TX_DL_LO.DL m) (s.rd d R.ETHm_TX_DL_HI.DL m)) (.eth m a n)
      (¬ ok → t.rd d R.ETHm_TX_RESULT.CODE m = 3 ∧ t.rd d R.ETHm_TX_RESULT.ADMITTED m = 0 ∧ t.tal l = s.tal l) ∧
      (ok → t.rd d R.ETHm_TX_RESULT.CODE m = low R.ETHm_TX_RESULT.CODE.w r.1 ∧
        t.rd d R.ETHm_TX_RESULT.ADMITTED m = b2n (r.1 == 0) ∧ t.tal l = r.2.2.tal l)) ∧
  (∀ (s : State) (l : Lane) (m : Fin 3) (f : EthFrame) (ago : Nat),
    s.canonical = true → s.past l 16 = true → s.domains l = true → s.on (laneDie l) R.ETHm_CFG.EN m = true →
    s.ethUp l m = true →
    leads (.ethRxFrame l m f ago) s fun t =>
      let d := laneDie l
      let asMsg := ethDest f == asAddress && ethType f == 0x88F7 && s.on d R.ETHm_AS_CFG.AS_EN m && m.val < 2
      t.now = s.now ∧ (f.bad = true → rose s t d R.ETHm_CNT.ERR m) ∧
      (if asMsg || !s.ethAccepts l m f then
        t.rd d R.ETHm_RX_STATUS.FREE m = s.rd d R.ETHm_RX_STATUS.FREE m ∧ t.rd d R.ETHm_CNT.RX m = s.rd d R.ETHm_CNT.RX m
       else if s.rd d R.ETHm_RX_STATUS.FREE m = 0 then rose s t d R.ETHm_CNT.DROP m ∧
        t.rd d R.ETHm_CNT.RX m = s.rd d R.ETHm_CNT.RX m
       else
        t.rd d R.ETHm_RX_STATUS.FREE m = s.rd d R.ETHm_RX_STATUS.FREE m - 1 ∧
        t.rd d R.ETHm_RX_STATUS.HEAD m = (s.rd d R.ETHm_RX_STATUS.HEAD m + 1) % s.ringLen l m ∧
        rose s t d R.ETHm_CNT.RX m)) ∧
  (∀ (s : State) (l : Lane) (m : Fin 3) (count : Nat),
    s.canonical = true → s.writable l = true →
    leads (.ethRxRelease l m count) s fun t => t.rd (laneDie l) R.ETHm_RX_STATUS.FREE m =
      min (s.ringLen l m) (s.rd (laneDie l) R.ETHm_RX_STATUS.FREE m + min 256 (count % 512))) ∧
  (∀ (s : State) (l : Lane) (m : Fin 3) (v : BitVec 32),
    s.canonical = true → s.writable l = true → m.val < 2 → s.on (laneDie l) R.ETHm_MDIO_STATUS.BUSY m = false →
    leads (.ethMdio l m v) s fun t => t.rd (laneDie l) R.ETHm_MDIO_STATUS.BUSY m = 1 ∧
      (t.ethSt l m).mdio = some (bit v.toNat 10, bits v.toNat 9 5, bits v.toNat 4 0, v.toNat / 2 ^ 16)) ∧
  (∀ (s : State) (l : Lane) (m : Fin 3) (data : BitVec 16) (x : Bool × Nat × Nat × Nat),
    s.canonical = true → (s.ethSt l m).mdio = some x →
    leads (.ethMdioDone l m data) s fun t => t.rd (laneDie l) R.ETHm_MDIO_STATUS.BUSY m = 0 ∧ (t.ethSt l m).mdio = none ∧
      (x.1 = false → t.rd (laneDie l) R.ETHm_MDIO_STATUS.DATA m = data.toNat)) ∧
  (∀ (s : State) (l : Lane) (m : Fin 3) (up_ : Bool) (speed : Fin 4) (full an : Bool),
    s.canonical = true → s.past l 16 = true → m.val < 2 → s.on (laneDie l) R.ETHm_CFG.EN m = true →
    leads (.ethLinkChange l m up_ speed full an) s fun t =>
      t.rd (laneDie l) R.ETHm_LINK.UP m = b2n up_ ∧ t.rd (laneDie l) R.ETHm_LINK.FULL_DUPLEX m = b2n full ∧
      t.rdBit (laneDie l) R.ETH_STATUS.UP m = up_ ∧ t.rdBit (laneDie l) R.ETH_STATUS.LINK_EVT m = true ∧
      (s.on (laneDie l) R.ETHm_CFG.IF m = true → t.rd (laneDie l) R.ETHm_LINK.SPEED m = low R.ETHm_LINK.SPEED.w speed)) ∧
  (∀ (s : State) (l : Lane),
    s.canonical = true → s.past l 16 = true → s.on (laneDie l) R.ETHm_CFG.EN 2 = true →
    leads (.t1sCollision l) s fun t => t.rd (laneDie l) R.ETH_T1S_STATUS.COLL_EVT = 1 ∧
      ((s.tal l).ofQueue 6 ≠ [] → (t.ethSt l 2).tries =
        (if s.plca l = false ∧ 15 ≤ (s.ethSt l 2).tries then 0 else (s.ethSt l 2).tries + 1))) ∧
  (∀ (s : State) (l : Lane) (seen : Bool),
    s.canonical = true → s.past l 16 = true → s.on (laneDie l) R.ETHm_CFG.EN 2 = true →
    s.rd (laneDie l) R.ETH_T1S_PLCA.NODE_ID ≤ 31 →
    leads (.plcaBeaconChange l seen) s fun t => t.rd (laneDie l) R.ETH_T1S_STATUS.PLCA_ACTIVE = b2n seen ∧
      t.rd (laneDie l) R.ETH_T1S_STATUS.COORD = b2n (s.rd (laneDie l) R.ETH_T1S_PLCA.NODE_ID == 0) ∧
      (s.on (laneDie l) R.ETH_T1S_STATUS.PLCA_ACTIVE = true ∧ seen = false → t.rd (laneDie l) R.ETH_T1S_STATUS.PLCA_LOST = 1))

/-- R431, R437, R440, R441: `ASY_REQ_COMMIT`, `ASY_XIN_SUBMIT`, `HOLDUP`, `COUNTERSIGN`. -/
def Obligations.AssayHoldsUpAndSealsItsLedger : Prop :=
  (∀ (s : State) (l : Lane),
    s.writable l = true → s.asyOn l = true →
    leads (.asyReqCommit l) s fun t => bit (t.asy l).triggers trgRequest = true ∧ (t.asy l).imp = (s.asy l).imp ∧
      t.regs = s.regs ∧ t.now = s.now) ∧
  (∀ (s : State) (l : Lane) (crc : BitVec 32),
    s.canonical = true → s.writable l = true → s.asyOn l = true →
    leads (.asyXinSubmit l crc) s fun t =>
      let w := fun i => s.rd (laneDie l) R.ASY_XINw.WORD i
      let sum := crc32c ([w 0, w 1, w 2, w 3, w 4].flatMap fun x => leBytes x 4)
      (sum ≠ crc.toNat → rose s t (laneDie l) R.ASY_CNT.XIN_CRC ∧ t.asy l = s.asy l) ∧
      (sum = crc.toNat → s.committer l = true ∨ s.singleCfg l = true → t.asy l = s.asy l) ∧
      (sum = crc.toNat → s.committer l = false → s.singleCfg l = false → s.on (laneDie l) R.ASY_STATUS.ADOPTED = false →
        t.rd (laneDie l) R.ASY_STATUS.ADOPTED = 1 ∧ (s.asy l).imp ≤ (t.asy l).imp ∧ w 1 + w 2 * 2 ^ 32 ≤ (t.asy l).imp ∧
        (s.asy l).exp ≤ (t.asy l).exp ∧ w 3 + w 4 * 2 ^ 32 ≤ (t.asy l).exp) ∧
      (s.on (laneDie l) R.ASY_STATUS.ADOPTED = true → (t.asy l).imp = (s.asy l).imp ∧ (t.asy l).exp = (s.asy l).exp) ∧
      t.rd (laneDie l) R.ASY_XINw.WORD 5 = crc.toNat) ∧
  (∀ (s : State) (l : Lane) (written tagOk : Bool),
    s.canonical = true → s.asyOn l = true → s.committer l = true → s.mayCommit l = true → (s.asy l).stopped = false →
    leads (.holdup l written tagOk) s fun t => (t.asy l).stopped = true ∧ (t.asy l).held = [] ∧
      t.rd (laneDie l) R.ASY_STATUS.RUN = 0 ∧ t.rd (laneDie l) R.ASY_PEND.HELD = 0 ∧ t.now = s.now ∧
      (written = true → t.rd (laneDie l) R.ASY_STATUS.HOLDUP = 1 ∧
        ((t.nv l).ledger.any fun r => r.isSealed && !r.signed && r.tagOk == tagOk) = true)) ∧
  (∀ (s : State) (l : Lane) (x : LedgerRec),
    s.running l = true → s.asyOn l = true → s.mayCommit l = true →
    newestRec ((s.nv l).ledger.filter fun r => r.isSealed && !r.signed && r.tagOk) = some x →
    ((s.nv l).ledger.filter fun r => r.slot == x.slot).length = 1 →
    leads (.countersign l) s fun t => ((t.nv l).ledger.all fun r => r.slot != x.slot || r.signed) = true ∧
      ((t.nv l).ledger.any fun r => r.slot == x.slot && r.seq == x.seq && r.signed && bit r.flags flCounter) = true ∧
      (t.nv l).ledger.length = (s.nv l).ledger.length ∧ (t.asy l).stopped = false ∧ t.now = s.now)

/-- R443 to R449: `SEC_LC_REQ`, `SEC_KEY_PROG`, `DBG_CHALLENGE`, `CHALLENGE_LAPSE`, `DBG_OPEN`, `SEC_JOB_GO`,
`ENTROPY_HEALTH_FAIL`. -/
def Obligations.LifecycleKeysAndCryptoFollowTheirChecks : Prop :=
  (∀ (s : State) (l : Lane) (who : Initiator) (target : BitVec 3) (key : BitVec 16) (e : LcEnd),
    s.canonical = true → s.secReach l who = true → s.on (laneDie l) R.SEC_LC_STATUS.BUSY = false →
    leads (.secLcReq l who target key e) s fun t =>
      let n := s.nv l
      let to3 := target.toNat
      let keyed := key.toNat = 0x4C43
      let develop := n.lifecycle = 0 ∧ to3 = 1 ∧ n.keyProg ≠ 0 ∧ who = .debug
      let produce := n.lifecycle = 1 ∧ to3 = 2 ∧ s.inService l = true
      let field := n.lifecycle = 2 ∧ to3 = 3 ∧ s.inService l = true
      let retire := to3 = 5 ∧ n.lifecycle < 5 ∧ (s.inService l = true ∨ who = .debug ∧ (n.lifecycle = 0 ∨ n.lifecycle = 1 ∨ n.lifecycle = 4))
      let refused := fun (r : Nat) => t.rd (laneDie l) R.SEC_LC_STATUS.RESULT = r ∧ t.nv l = n ∧ (t.run l).phase = (s.run l).phase
      if keyed ∧ (develop ∨ field) then (t.nv l).lifecycle = to3 ∧ (t.run l).phase = .held
      else if keyed ∧ retire then
        (t.nv l).lifecycle = 5 ∧ (t.nv l).banks[0] = 2 ∧ (t.nv l).banks[1] = 2 ∧ (t.run l).phase = .held
      else if keyed ∧ produce then
        if (s.run l).sec.entropyBad then refused 4
        else if n.freeBank = none then refused 3
        else if e = .done then (t.nv l).lifecycle = 2 ∧ (t.nv l).bankIn < 2 ∧ (t.run l).phase = .held
        else if e = .media then refused 2
        else t.rd (laneDie l) R.SEC_LC_STATUS.BUSY = 1 ∧ t.rd (laneDie l) R.SEC_LC_STATUS.STEP = 3 ∧ (t.nv l).lifecycle = 1
      else refused 1) ∧
  (∀ (s : State) (l : Lane) (who : Initiator) (slot : Fin 4),
    s.secReach l who = true → (s.nv l).lifecycle ≤ 1 → bit (s.nv l).keyProg slot.val = false →
    rangeInSram (s.rd (laneDie l) R.SEC_KEY_SRC.ADDR) 64 = true → s.rd (laneDie l) R.SEC_KEY_SRC.ADDR % 4 = 0 →
    leads (.secKeyProg l who slot) s fun t => bit (t.nv l).keyProg slot.val = true ∧
      (t.nv l).keyHash.head? = some (slot.val, s.bytes l (s.rd (laneDie l) R.SEC_KEY_SRC.ADDR) 64) ∧ t.regs = s.regs) ∧
  (∀ (s : State) (l : Lane) (who : Initiator),
    s.canonical = true → s.secReach l who = true →
    leads (.dbgChallenge l who) s fun t => t.now = s.now ∧
      if (s.run l).sec.entropyBad then t.rd (laneDie l) R.SEC_DBG_STATUS.RESULT = 4
      else t.rd (laneDie l) R.SEC_DBG_STATUS.LIVE = 1 ∧ (t.run l).sec.chalAt = some s.now ∧
        t.rd (laneDie l) R.SEC_CHALw.WORD 0 = 0x43484C47) ∧
  (∀ (s : State) (l : Lane) (x : Nat),
    s.canonical = true → (s.run l).sec.chalAt = some x →
    leads (.challengeLapse l) s fun t => t.rd (laneDie l) R.SEC_DBG_STATUS.LIVE = 0 ∧ (t.run l).sec.chalAt = none ∧
      t.now = max s.now (x + 60 * sec)) ∧
  (∀ (s : State) (l : Lane) (who : Initiator) (obj : Signed),
    s.canonical = true → s.secReach l who = true → (s.run l).sec.opening = false →
    leads (.dbgOpen l who obj) s fun t =>
      let may := s.inService l && s.on (laneDie l) R.SEC_DBG_STATUS.LIVE && decide (2 ≤ (s.nv l).lifecycle ∧ (s.nv l).lifecycle ≤ 4)
      (may = false → t.rd (laneDie l) R.SEC_DBG_STATUS.RESULT = 1 ∧ rose s t (laneDie l) R.SEC_CNT.OPEN_FAIL ∧ t.nv l = s.nv l) ∧
      (may = true → t.rd (laneDie l) R.SEC_DBG_STATUS.LIVE = 0 ∧
        (s.openVerified l obj = false → t.rd (laneDie l) R.SEC_DBG_STATUS.RESULT = 2 ∧ t.rd (laneDie l) R.SEC_DBG_STATUS.STEP = 1 ∧
          rose s t (laneDie l) R.SEC_CNT.OPEN_FAIL ∧ t.nv l = s.nv l) ∧
        (s.openVerified l obj = true → (t.nv l).lifecycle = 4 ∧ ((s.nv l).lifecycle ≠ 4 → (t.nv l).bankIn = 3 ∧ t.rd (laneDie l) R.SEC_LC.KEYS = 0) ∧ t.rd (laneDie l) R.SEC_DBG_STATUS.STEP = 4 ∧ (t.run l).sec.opening = true ∧
          bit (t.asy l).triggers trgDebug = true))) ∧
  (∀ (s : State) (l : Lane) (who : Initiator),
    s.canonical = true → s.canAccess l who = true →
    leads (.secJobGo l who) s fun t =>
      let d := laneDie l
      let a := s.rd d R.SEC_JOB_ADDR.ADDR
      let desc := wordsOf (s.bytes l a 32) 8
      let r := s.submit l who 15 (ceilDiv (desc.getD 2 0) 1024) (dl40 (s.rd d R.SEC_JOB_DL_LO.DL) (s.rd d R.SEC_JOB_DL_HI.DL)) (.crypto desc)
      (a % 32 ≠ 0 ∨ rangeInSram a 32 = false →
        t.rd d R.SEC_JOB_RESULT.CODE = 3 ∧ t.rd d R.SEC_JOB_RESULT.ADMITTED = 0 ∧ t.tal l = s.tal l) ∧
      (a % 32 = 0 → rangeInSram a 32 = true →
        t.rd d R.SEC_JOB_RESULT.CODE = low R.SEC_JOB_RESULT.CODE.w r.1.code ∧
        t.rd d R.SEC_JOB_RESULT.ADMITTED = b2n (r.1.code == 0) ∧ t.tal l = r.2.tal l)) ∧
  (∀ (s : State) (l : Lane),
    s.canonical = true → s.past l 2 = true →
    leads (.entropyHealthFail l) s fun t => t.rd (laneDie l) R.SEC_TRNG_STATUS.HEALTH_ERR = 1 ∧
      t.rd (laneDie l) R.SEC_TRNG_STATUS.READY = s.rd (laneDie l) R.SEC_TRNG_STATUS.READY ∧ (t.run l).sec.entropyBad = true ∧ t.now = s.now)

/-- R67, R75 to R82, R90: `LANE_START`, `START_STEP_TIMEOUT`, `PARTNER_WAIT_EXPIRY`, `TIME_WAIT_EXPIRY`, `BOOT_NEXT`,
`KEY_REVOKE`, `LOADER_BLOCK_START`, `LOADER_DATA`. -/
def Obligations.LanesStartStepByStepAndLoad : Prop :=
  (∀ (s : State) (l : Lane) (inp : StartInputs),
    s.canonical = true → s.island l = true →
    (s.run l).phase = .held ∨ ((s.run l).phase = .off ∧ s.depOn = true ∧ s.dep.startCmd = true) →
    inp.steps.getD 0 .pass = .pass → inp.steps.getD 1 .pass = .wait →
    leads (.laneStart l inp) s fun t => (t.run l).phase = .starting 1 ∧ t.rd (laneDie l) R.CFG_START_STATUS.STEP = 1 ∧
      (t.run l).start.stepAt = s.now ∧ t.now = s.now ∧
      ((s.run l).phase = .off → t.rd (papDie l) R.PAP_RESET_CAUSE.OFF = 1)) ∧
  (∀ (s : State) (l : Lane) (inp : StartInputs),
    s.canonical = true → (s.run l).phase = .starting 3 → inp.steps.getD 3 .pass = .pass →
    inp.steps.getD 4 .pass = .wait →
    leads (.laneStart l inp) s fun t => (t.run l).phase = .starting 4 ∧ (t.run l).clk.t0 = some s.now ∧
      t.rd (laneDie l) R.CFG_START_STATUS.STEP = 4 ∧ t.now = s.now) ∧
  (∀ (s : State) (l : Lane) (inp : StartInputs) (n : Nat),
    (s.run l).phase = .starting n → stepMandatory n = true → stepExempt n = true ∨ s.failCount l n ≠ 3 →
    n ≠ 15 ∨ (s.run l).link.stateSeen = true →
    leads (.startStepTimeout l inp) s fun t => (t.run l).phase = (if n = 6 ∧ 2 ≤ s.failCount l n then .loader else .held) ∧
      t.now = max s.now (s.stepLimit l n)) ∧
  (∀ (s : State) (l : Lane) (inp : StartInputs) (n : Nat),
    s.canonical = true → (s.run l).phase = .starting n → n < 19 →
    stepMandatory n = false ∨ stepExempt n = false ∧ s.failCount l n = 3 → n ≠ 15 ∨ (s.run l).link.stateSeen = true →
    inp.steps.getD (n + 1) .pass = .wait →
    leads (.startStepTimeout l inp) s fun t => (t.run l).phase = .starting (n + 1) ∧
      t.rd (laneDie l) R.CFG_START_STATUS.STEP = n + 1 ∧ t.now = max s.now (s.stepLimit l n)) ∧
  (∀ (s : State) (l : Lane) (inp : StartInputs),
    (s.run l).phase = .starting 15 → (s.run l).link.stateSeen = false →
    leads (.startStepTimeout l inp) s fun t => t = s) ∧
  (∀ (s : State) (l : Lane) (inp : StartInputs),
    s.canonical = true → (s.run l).phase = .starting 15 → (s.run l).link.stateSeen = false →
    inp.steps.getD 16 .pass = .wait →
    leads (.partnerWaitExpiry l inp) s fun t => (t.run l).phase = .starting 16 ∧
      t.rd (laneDie l) R.CFG_START_STATUS.PARTNER_ABSENT = 1 ∧ t.rd (laneDie l) R.CFG_START_STATUS.STEP = 16 ∧
      t.now = max s.now ((s.run l).start.stepAt + (match (s.run l).start.container with
        | some c => c.partnerWait
        | none => 1) * 10 * ms)) ∧
  (∀ (s : State) (l : Lane) (inp : StartInputs),
    s.canonical = true → (s.run l).phase = .starting 18 → inp.steps.getD 19 .pass = .wait →
    leads (.timeWaitExpiry l inp) s fun t => (t.run l).phase = .starting 19 ∧
      t.rd (laneDie l) R.CFG_START_STATUS.TIME_UNKNOWN = 1 ∧ t.now = max s.now ((s.run l).start.stepAt + s.timeWait l * 10 * ms)) ∧
  (∀ (s : State) (l : Lane) (slot : Fin 4) (r : LampRecord),
    s.canonical = true → s.writable l = true → s.lampNow l = some r → r.seq = s.rd (laneDie l) R.CFG_LAMP_SEQ.SEQ →
    r.bootNext.length < 8 →
    leads (.bootNext l slot) s fun t => (t.lampNow l).map LampRecord.bootNext = some (r.bootNext ++ [bootNextByte slot]) ∧
      t.rd (laneDie l) R.CFG_BOOT_NEXT.SLOT = (if slot = 3 then 0 else slot.val) ∧ t.now = s.now) ∧
  (∀ (s : State) (l : Lane) (slot : Fin 4) (key : Nat),
    s.canonical = true → s.writable l = true →
    leads (.keyRevoke l slot key) s fun t =>
      let n := s.nv l
      let may := key = 0x5EA1 ∧ (s.run l).start.imageKeySlot ≠ slot.val ∧
        ((List.range 4).any fun k => k != slot.val && bit n.keyProg k && !bit n.keyRevoked k) = true
      (may → bit (t.nv l).keyRevoked slot.val = true ∧ t.rd (laneDie l) R.CFG_KEY_STATUS.REVOKE_DONE = 1) ∧
      (¬ may → t.nv l = n ∧ t.rd (laneDie l) R.CFG_KEY_STATUS.REVOKE_ERR = 1)) ∧
  (∀ (s : State) (l : Lane) (block crc : Nat),
    (s.run l).phase = .loader →
    leads (.loaderBlockStart l block crc) s fun t => (t.run l).start.loader.opened = some (block % 65536, low 32 crc) ∧
      (t.run l).start.loader.pieces = [] ∧ (t.run l).start.loader.expected = (s.run l).start.loader.expected) ∧
  (∀ (s : State) (l : Lane) (frame block crc : Nat) (bytes : List Nat) (media : LoaderMedia),
    (s.run l).phase = .loader → (s.run l).start.loader.opened = some (block, crc) → frame < 683 →
    leads (.loaderData l frame bytes media) s fun t =>
      let ps := putPiece frame bytes (s.run l).start.loader.pieces
      (ps.length ≠ 683 → (t.run l).start.loader.pieces = ps ∧ (t.run l).start.loader.opened = some (block, crc)) ∧
      (ps.length = 683 → (t.run l).start.loader.answered = block ∧ (t.run l).start.loader.opened = none ∧
        (crc32c (blockBytes ps) ≠ crc → (t.run l).start.loader.lastStatus = 1) ∧
        (crc32c (blockBytes ps) = crc → block ≠ (s.run l).start.loader.expected → (t.run l).start.loader.lastStatus = 2) ∧
        (crc32c (blockBytes ps) = crc → block = (s.run l).start.loader.expected →
          let h := parseBoot (blockBytes ps) []
          let len := if block = 0 then h.length else (s.run l).start.loader.payload
          if block = 0 ∧ s.loaderHeadOk l h media = false then (t.run l).start.loader.lastStatus = 3
          else if media.programmed = false then (t.run l).start.loader.lastStatus = 4
          else if block < ceilDiv len 4096 then
            (t.run l).start.loader.lastStatus = 0 ∧ (t.run l).start.loader.expected = block + 1 ∧ (t.run l).start.loader.payload = len
          else if media.imageOk then (t.run l).start.loader.lastStatus = 5 ∧ (t.run l).phase = .held
          else (t.run l).start.loader.lastStatus = 6 ∧ (t.run l).start.loader.expected = 0)))

/-- R83 to R88: `MODE_REQUEST`, `LINK_FRAME_MODE`, `MODE_PARTNER_TIMEOUT`, `MODE_CHANGE_APPLY`. -/
def Obligations.ModeChangesAreAskedAnsweredAndApplied : Prop :=
  (∀ (s : State) (l : Lane) (target : Fin 8) (nvmBusy : Bool),
    s.canonical = true → s.writable l = true → s.running l = true →
    leads (.modeRequest l target nvmBusy) s fun t => t.now = s.now ∧
      t.rd (laneDie l) R.CFG_MODE_STATUS.LAST_TARGET = target.val ∧
      t.rd (laneDie l) R.CFG_MODE.MODE = s.rd (laneDie l) R.CFG_MODE.MODE ∧
      (s.modeCheck l target ≠ mrDone → t.rd (laneDie l) R.CFG_MODE_STATUS.RESULT = s.modeCheck l target ∧
        t.rd (laneDie l) R.CFG_MODE_STATUS.DONE = 1 ∧ t.modeEng = s.modeEng) ∧
      (s.modeCheck l target = mrDone → modeOffs target = true → s.offRefuser l nvmBusy ≠ 0 →
        t.rd (laneDie l) R.CFG_MODE_STATUS.DONE = 1 ∧ t.modeEng = s.modeEng) ∧
      (s.modeCheck l target = mrDone → modeOffs target = false ∨ s.offRefuser l nvmBusy = 0 →
        t.rd (laneDie l) R.CFG_MODE_STATUS.BUSY = 1 ∧ t.rd (laneDie l) R.CFG_MODE_STATUS.DONE = 0 ∧
        t.modeEng.target = target.val ∧ t.modeEng.master = l ∧ t.modeEng.joint = s.modeJoint l ∧
        t.modeEng.step = if s.modeJoint l then .partner else .boundary)) ∧
  (∀ (s : State) (l : Lane) (flips : List (BitVec 8)) (nvmBusy : Bool) (x : ModeMsg),
    s.canonical = true → s.domains l = true → s.domains l.other = true → (s.run l.other).link.modeOut = some x →
    leads (.linkFrameMode l flips nvmBusy) s fun t =>
      let k := (s.run l.other).link
      let ok := linkPasses flips (linkBytes 0x03 k.next 0 x.payload)
      let waits := s.modeEng.step = .partner ∧ s.modeEng.master = l
      (t.run l.other).link.modeOut = none ∧ (t.run l.other).link.next = (k.next + 1) % 256 ∧ t.now = s.now ∧
      (ok = false → rose s t (laneDie l) R.LNK_ERR_CNT.CRC_ERR ∧ t.modeEng = s.modeEng) ∧
      (ok = true ∧ waits ∧ x = .accept → t.modeEng.step = .boundary) ∧
      (ok = true ∧ waits ∧ x = .refuse → t.modeEng.step = .idle ∧
        t.rd (laneDie l) R.CFG_MODE_STATUS.RESULT = mrPartner ∧ t.rd (laneDie l) R.CFG_MODE_STATUS.BUSY = 0) ∧
      (¬ waits → t.modeEng = s.modeEng)) ∧
  (∀ (s : State) (l : Lane) (flips : List (BitVec 8)) (nvmBusy : Bool) (m : Nat),
    s.canonical = true → s.domains l.other = true → s.running l = true → flips.all (· == 0) = true →
    (s.run l.other).link.modeOut = some (.request m) →
    leads (.linkFrameMode l flips nvmBusy) s fun t =>
      if modeOffs m = true ∧ s.offRefuser l nvmBusy ≠ 0 then
        (t.run l).link.modeOut = some .refuse ∧ rose s t (laneDie l) R.SYS_REFUSE_CNT.COUNT ∧
        t.rd (laneDie l) R.SYS_REFUSE_CNT.LAST_CODE = s.offRefuser l nvmBusy ∧ t.modeEng = s.modeEng
      else (t.run l).link.modeOut = some .accept ∧ t.rd (laneDie l) R.CFG_MODE_STATUS.BUSY = 1 ∧ t.modeEng = s.modeEng) ∧
  (∀ (s : State),
    s.canonical = true → s.modeEng.step = .partner → s.running s.modeEng.master = true →
    leads (.modePartnerTimeout) s fun t => t.modeEng.step = .idle ∧ t.now = max s.now (s.modeEng.since + 30 * us) ∧
      t.rd (laneDie s.modeEng.master) R.CFG_MODE_STATUS.RESULT = mrPartner ∧
      t.rd (laneDie s.modeEng.master) R.CFG_MODE_STATUS.BUSY = 0 ∧ t.rd (laneDie s.modeEng.master) R.CFG_MODE_STATUS.DONE = 1) ∧
  (∀ (s : State) (l : Lane) (holdA holdB freq c : Nat),
    s.canonical = true → s.modeEng.step = .boundary → s.modeEng.master = l → s.alive l = true →
    (s.advTo (s.instantOfMaster l (ceilDiv (s.masterTime l) 10000 * 10000))).modeBarred = some c →
    leads (.modeChangeApply holdA holdB freq) s fun t => t.modeEng.step = .idle ∧
      t.rd (laneDie l) R.CFG_MODE_STATUS.RESULT = c ∧ t.rd (laneDie l) R.CFG_MODE_STATUS.DONE = 1 ∧
      t.rd (laneDie l) R.CFG_MODE.MODE = s.rd (laneDie l) R.CFG_MODE.MODE) ∧
  (∀ (s : State) (l : Lane) (holdA holdB freq : Nat),
    s.canonical = true → s.modeEng.step = .boundary → s.modeEng.master = l → s.modeEng.target < 8 →
    modeOffs s.modeEng.target = false →
    (s.advTo (s.instantOfMaster l (ceilDiv (s.masterTime l) 10000 * 10000))).modeBarred = none →
    leads (.modeChangeApply holdA holdB freq) s fun t => t.modeEng.step = .idle ∧
      t.rd (laneDie l) R.CFG_MODE.MODE = s.modeEng.target ∧ t.rd (laneDie l) R.CFG_MODE_STATUS.RESULT = mrDone ∧
      t.rd (laneDie l) R.CFG_MODE_STATUS.DONE = 1 ∧ (s.depOn = true → t.rd .ds R.DSP_MODE.MODE = s.modeEng.target) ∧
      max s.now (s.instantOfMaster l (ceilDiv (s.masterTime l) 10000 * 10000)) ≤ t.now) ∧
  (∀ (s : State) (l : Lane) (holdA holdB freq : Nat),
    s.canonical = true → s.modeEng.step = .boundary → s.modeEng.master = l → modeOffs s.modeEng.target = true →
    (s.advTo (s.instantOfMaster l (ceilDiv (s.masterTime l) 10000 * 10000))).modeBarred = none →
    leads (.modeChangeApply holdA holdB freq) s fun t =>
      let late := (s.advTo (s.instantOfMaster l (ceilDiv (s.masterTime l) 10000 * 10000))).modeLate
      (∀ x, late = some x → t.modeEng.step = .idle ∧ t.rd (laneDie l) R.CFG_MODE_STATUS.DONE = 1 ∧
        rose s t (laneDie x.1) R.SYS_REFUSE_CNT.COUNT ∧ t.rd (laneDie x.1) R.SYS_REFUSE_CNT.ABORTED = 1 ∧
        t.rd (laneDie l) R.CFG_MODE.MODE = s.rd (laneDie l) R.CFG_MODE.MODE) ∧
      (late = none → s.parkOpens = true → t.modeEng = s.modeEng) ∧
      (late = none → s.parkOpens = false → t.modeEng.step = .idle ∧
        (s.depOn = true → t.rd .ds R.DSP_MODE.MODE = s.modeEng.target ∧ t.rd .ds R.DSP_GRANT.STATE = grantNone ∧
          t.dep.startCmd = false) ∧
        (s.modeEng.target = modeParked → (t.run .a).phase = .off ∧ (t.run .b).phase = .off) ∧
        (s.modeEng.target = modeStorage → t.rd (laneDie l) R.CFG_MODE.MODE = modeStorage ∧
          (s.sup.vkeep = true → (t.keeper l).action = .storageEntry))))

/-- What the commands of the converters, filters and position inputs leave unchanged: registers of every block but the ones named, every part of the machine
but the ones named, and the queue. The blocks and parts named are those that the rules of the cited files have them write. -/
def Obligations.FramesSensing : Prop :=
  (∀ (l : Lane) (g : Fin 12), Frame [0x4003] [.clock] (.adcTrigger l g)) ∧
  (∀ (l : Lane) (g : Fin 12) (slice : Fin 4) (raw before after : BitVec 14) (kind : ConvKind), Frame [0x4002, 0x4003, 0x4007, 0x4014, 0x4016] [.memory, .tables, .heads, .dies] (.adcResult l g slice raw before after kind)) ∧
  (∀ (l : Lane) (g : Fin 16) (c : Fin 64), Frame [0x4003] [] (.adcUrgent l g c)) ∧
  (∀ (l : Lane) (urgent : Bool), Frame [0x4003] [] (.adcQueuePop l urgent)) ∧
  (∀ (l : Lane) (g : Fin 12) (est : List (Int × Int × Int)) (quiet : Bool), Frame [0x4003] [] (.adcEstStep l g est quiet)) ∧
  (∀ (l : Lane) (c : Fin 64) (gain offset : BitVec 16), Frame [0x4003, 0x4004] [] (.adcCorrWrite l c gain offset)) ∧
  (∀ (l : Lane), Frame [0x4003] [] (.syscalMeasure l)) ∧
  (∀ (l : Lane), Frame [0x4003] [] (.syscalCollectDone l)) ∧
  (∀ (l : Lane), Frame [0x4003, 0x4004] [] (.syscalApply l)) ∧
  (∀ (l : Lane), Frame [0x4003] [] (.syscalAbort l)) ∧
  (∀ (l : Lane) (n : Fin 12) (rising falling : List Bool), Frame [0x4002, 0x4004, 0x4007, 0x4016] [.heads, .dies] (.sdfTripCompare l n rising falling)) ∧
  (∀ (l : Lane) (n : Fin 12), Frame [0x4002, 0x4004, 0x4007, 0x4013, 0x4016] [.heads, .dies] (.sdfStuck l n)) ∧
  (∀ (l : Lane) (n : Fin 12), Frame [0x4002, 0x4004, 0x4007, 0x4013, 0x4016] [.heads, .dies] (.sdfClkFault l n)) ∧
  (∀ (l : Lane) (n : Fin 12), Frame [0x4002, 0x4004, 0x4007, 0x4013, 0x4016] [.heads, .dies] (.sdfRefilled l n)) ∧
  (∀ (l : Lane) (n : Fin 2) (est : Int × Int × Int × Int), Frame [0x4005, 0x4014] [.memory, .tables] (.resolverUpdate l n est)) ∧
  (∀ (l : Lane) (n : Fin 2), Frame [0x4005] [.clock] (.resolverCarStep l n)) ∧
  (∀ (l : Lane) (p : Fin 6) (dt stable : Nat) (levels : BitVec 2), Frame [0x4005] [] (.ptCountingEdge l p dt stable levels)) ∧
  (∀ (l : Lane) (p : Fin 6) (line : Fin 3) (gap : Nat), Frame [0x4005] [] (.ptGlitch l p line gap)) ∧
  (∀ (l : Lane) (p : Fin 6) (stable : Nat) (level : Bool), Frame [0x4005] [] (.ptReferenceEdge l p stable level)) ∧
  (∀ (l : Lane) (p : Fin 6) (dt : Nat), Frame [0x4005, 0x4014] [.memory, .tables] (.ptExtrapolate l p dt)) ∧
  (∀ (l : Lane) (p : Fin 6), Frame [0x4005] [.clock] (.ptZeroSpeed l p)) ∧
  (∀ (l : Lane) (n : Fin 4) (levels : List Nat), Frame [0x4005] [] (.sentFrame l n levels)) ∧
  (∀ (l : Lane) (n : Fin 4), Frame [0x4005] [.clock] (.sentStale l n))

/-- What the commands of the control engine, the traces and the traction machines leave unchanged: registers of every block but the ones named, every part of the machine
but the ones named, and the queue. The blocks and parts named are those that the rules of the cited files have them write. -/
def Obligations.FramesEngineTraceMachines : Prop :=
  (∀ (l : Lane) (n : Fin 32), Frame [0x4006] [] (.bandEnable l n)) ∧
  (∀ (l : Lane) (n : Fin 32) (age : Nat), Frame [0x4002, 0x4006, 0x4007, 0x4014, 0x4016] [.memory, .tables, .heads, .dies] (.bandEvaluate l n age)) ∧
  (∀ (l : Lane) (n : Fin 32), Frame [0x4006] [] (.bandEdgeReport l n)) ∧
  (∀ (l : Lane) (n : Fin 32), Frame [0x4002, 0x4006, 0x4007, 0x4016] [.heads, .dies] (.bandStall l n)) ∧
  (∀ (l : Lane) (i : Fin 24), Frame [0x4006] [] (.arithTrigger l i)) ∧
  (∀ (l : Lane) (i : Fin 24), Frame [0x4001, 0x4002, 0x4003, 0x4006, 0x4007, 0x400A, 0x400C, 0x4014, 0x4015, 0x4016] [.memory, .tables, .heads, .pwmMap, .dies, .deputy] (.arithExecute l i)) ∧
  (∀ (l : Lane) (i : Fin 24) (lo : Option (BitVec 32)) (hi : BitVec 16), Frame [0x4006] [] (.ceIntPreset l i lo hi)) ∧
  (∀ (l : Lane) (b : Fin 8), Frame [0x4014] [] (.trcArm l b)) ∧
  (∀ (l : Lane) (b : Fin 8), Frame [0x4002, 0x4014] [] (.trcDump l b)) ∧
  (∀ (l : Lane) (b : Fin 8), Frame [0x4014] [] (.trcAbort l b)) ∧
  (∀ (l : Lane) (b : Fin 8), Frame [0x4014] [] (.trcTrigger l b)) ∧
  (∀ (l : Lane) (b : Fin 8), Frame [0x4014] [] (.traceTriggerEvent l b)) ∧
  (∀ (l : Lane) (b : Fin 8), Frame [0x4002, 0x4014] [] (.tracePostDone l b)) ∧
  (∀ (l : Lane) (m : Fin 2) (o : ObsOut), Frame [0x4002, 0x4006, 0x4007, 0x4009, 0x400A, 0x4014, 0x4016] [.memory, .tables, .heads, .dies, .clock] (.motObserverUpdate l m o)) ∧
  (∀ (l : Lane) (m : Fin 2), Frame [] [.clock] (.motTsatExpiry l m)) ∧
  (∀ (l : Lane) (m : Fin 2), Frame [0x4002, 0x4006, 0x4007, 0x4009, 0x4014, 0x4016] [.memory, .tables, .heads, .dies, .clock] (.motXchkTimeout l m)) ∧
  (∀ (l : Lane) (m : Fin 2), Frame [0x4002, 0x4006, 0x4007, 0x4009, 0x4014, 0x4016] [.memory, .tables, .heads, .dies, .clock] (.motRectifyTimeout l m)) ∧
  (∀ (l : Lane) (m : Fin 2), Frame [0x4002, 0x4006, 0x4007, 0x4009, 0x4014, 0x4016] [.memory, .tables, .heads, .dies, .clock] (.motPrefTimeout l m)) ∧
  (∀ (l : Lane) (m : Fin 2), Frame [0x4006, 0x4007, 0x4016] [.heads, .dies, .clock] (.catchPulseStart l m)) ∧
  (∀ (l : Lane) (m : Fin 2), Frame [0x4002, 0x4006, 0x4007, 0x4009, 0x4014, 0x4016] [.memory, .tables, .heads, .dies, .clock] (.catchPulseEnd l m)) ∧
  (∀ (l : Lane) (m : Fin 2), Frame [0x4002, 0x4006, 0x4007, 0x4009, 0x4014, 0x4016] [.memory, .tables, .heads, .dies, .clock] (.motInjectionStep l m)) ∧
  (∀ (l : Lane) (m : Fin 2), Frame [0x4002, 0x4006, 0x4007, 0x4009, 0x4014, 0x4016] [.memory, .tables, .heads, .dies] (.motRecatch l m)) ∧
  (∀ (l : Lane) (m : Fin 2), Frame [0x4002, 0x4009] [] (.keWindowEnd l m))

/-- What the commands of PWM, the trips and the pre-drivers leave unchanged: registers of every block but the ones named, every part of the machine
but the ones named, and the queue. The blocks and parts named are those that the rules of the cited files have them write. -/
def Obligations.FramesPwmAndTrips : Prop :=
  (∀ (l : Lane) (t : Fin 8), Frame [0x4007, 0x4016] [.heads, .pwmMap, .dies, .clock] (.pwmTransferPoint l t)) ∧
  (∀ (l : Lane) (t : Fin 8), Frame [0x4007] [] (.pwmCommit l t)) ∧
  (∀ (l : Lane) (t : Fin 8), Frame [0x4007] [] (.pwmDiscard l t)) ∧
  (∀ (l : Lane) (t : Fin 8), Frame [0x4007] [] (.pwmSyncLoad l t)) ∧
  (∀ (l : Lane) (c : Fin 64) (on : Bool), Frame [0x4002, 0x4007, 0x4016] [.heads, .dies, .clock] (.pwmCompareEvent l c on)) ∧
  (∀ (l : Lane) (c : Fin 64), Frame [0x4002, 0x4007, 0x4016] [.heads, .dies, .clock] (.pwmEngineEdge l c)) ∧
  (∀ (l : Lane) (c : Fin 64) (en : Bool), Frame [0x4007, 0x4016] [.heads, .dies] (.pwmChannelEnable l c en)) ∧
  (∀ (l : Lane) (src : Fin 64), Frame [0x4002, 0x4007, 0x4016] [.heads, .dies] (.tripSourceActive l src)) ∧
  (∀ (l : Lane) (groups : BitVec 16), Frame [0x4002, 0x4007, 0x4016] [.heads, .dies] (.pwmTgForce l groups)) ∧
  (∀ (l : Lane) (groups : BitVec 16), Frame [0x4007, 0x4016] [.heads, .dies] (.pwmTgClear l groups)) ∧
  (∀ (l : Lane) (b : Fin 16), Frame [0x4002, 0x4007, 0x4016] [.heads, .dies, .clock] (.blankWindowClose l b)) ∧
  (∀ (l : Lane), Frame [0x4002, 0x4006, 0x4007, 0x400C, 0x4016] [.heads, .pwmMap, .dies] (.pwmGrantAlign l)) ∧
  (∀ (l : Lane) (c : Fin 64), Frame [0x4002, 0x4007, 0x400C, 0x4016] [.heads, .pwmMap, .dies] (.pwmTakeover l c)) ∧
  (∀ (l : Lane) (c : Fin 64), Frame [0x4002, 0x4007, 0x400C, 0x4016] [.heads, .pwmMap, .dies, .clock] (.pwmLateTakeover l c)) ∧
  (∀ (l : Lane) (n : Fin 16) (hi : Bool) (v : BitVec 8), Frame [0x4016] [.clock] (.pdGateError l n hi v)) ∧
  (∀ (l : Lane) (n : Fin 16) (hi : Bool), Frame [0x4007, 0x4016] [.dies, .clock] (.pdTurnOnWithhold l n hi)) ∧
  (∀ (l : Lane) (n : Fin 16) (bst : BitVec 8), Frame [0x4002, 0x4007, 0x4016] [.heads, .dies] (.bstUndervoltage l n bst)) ∧
  (∀ (l : Lane) (n : Fin 16) (short uv : Bool), Frame [0x4002, 0x4007, 0x4016] [.heads, .dies] (.pdFaultClear l n short uv)) ∧
  (∀ (l : Lane) (n : Fin 16) (hi : Bool) (v : BitVec 8) (held : Nat), Frame [0x4016] [.dies, .clock] (.pdTurnOnRelease l n hi v held)) ∧
  (∀ (l : Lane) (n : Fin 16) (bst : BitVec 8), Frame [0x4016] [] (.bootstrapLow l n bst)) ∧
  (∀ (l : Lane) (src : Fin 64), Frame [0x4002, 0x4007, 0x4016] [.heads, .dies] (.tripSourceInactive l src))

/-- What the commands of the Hoist link, the drive heads, the clamp and the brake leave unchanged: registers of every block but the ones named, every part of the machine
but the ones named, and the queue. The blocks and parts named are those that the rules of the cited files have them write. -/
def Obligations.FramesHoistLink : Prop :=
  (∀ (l : Lane), Frame [0x4016] [.dies, .clock] (.clampCommand l)) ∧
  (∀ (l : Lane), Frame [0x4016] [.dies, .clock] (.clampApplyEnd l)) ∧
  (∀ (l : Lane), Frame [0x4016] [.dies, .clock] (.clampDefaultStep l)) ∧
  (∀ (l : Lane) (flips : List (BitVec 8)), Frame [0x4015, 0x4016] [.dies, .deputy] (.clampConfigFrame l flips)) ∧
  (∀ (l : Lane) (vact : Nat), Frame [0x4016] [.dies] (.clampDutyRecompute l vact)) ∧
  (∀ (l : Lane), Frame [0x4000, 0x4016] [.dies] (.brkApply l)) ∧
  (∀ (l : Lane), Frame [0x4000, 0x4016] [.heads, .dies] (.brkRelease l)) ∧
  (∀ (l : Lane), Frame [0x4016] [.clock] (.brkAtForce l)) ∧
  (∀ (l : Lane) (currents : List Nat), Frame [0x4016] [.dies] (.brkLoopUpdate l currents)) ∧
  (∀ (n : Fin 40) (nz : Noise), Frame [] [.heads, .clock] (.hoistSetSc n nz)) ∧
  (∀ (n : Fin 40) (nz : Noise), Frame [] [.heads, .clock] (.hoistSetGate n nz)) ∧
  (∀ (n : Fin 40) (nz : Noise), Frame [] [.heads, .clock] (.hoistSetLoss n nz)) ∧
  (∀ (n : Fin 40) (nz : Noise), Frame [] [.heads, .clock] (.hoistRead n nz)) ∧
  (∀ (n : Fin 40) (nz : Noise) (seen : List (Fin 3 × Nat)), Frame [0x4008] [.heads, .clock] (.hoistHlgTest n nz seen)) ∧
  (∀ (n : Fin 40) (nz : Noise), Frame [] [.heads, .clock] (.hoistRun n nz)) ∧
  (∀ (n : Fin 40) (nz : Noise), Frame [0x4008] [.heads, .clock] (.hoistAnswerTimeout n nz)) ∧
  (∀ (n : Fin 40) (f : UplinkFrame), Frame [0x4008] [.heads] (.hoistAck n f)) ∧
  (∀ (n : Fin 40) (f : UplinkFrame) (statusOk : Bool), Frame [0x4008] [.heads] (.hoistEcho n f statusOk)) ∧
  (∀ (n : Fin 40) (f : UplinkFrame), Frame [0x4002, 0x4007, 0x4008, 0x4016] [.heads, .dies] (.hoistStatus n f)) ∧
  (∀ (n : Fin 40) (f : UplinkFrame), Frame [0x4002, 0x4007, 0x4008, 0x4016] [.heads, .dies] (.hoistFault n f)) ∧
  (∀ (n : Fin 40), Frame [0x4002, 0x4007, 0x4008, 0x4016] [.heads, .dies, .clock] (.hoistStatLoss n)) ∧
  (Frame [] [.heads] (.hoistTick)) ∧
  (∀ (n : Fin 40), Frame [] [.heads, .clock] (.headLinkLoss n)) ∧
  (∀ (n : Fin 40) (mv ns : Nat), Frame [] [.heads] (.headShortCircuit n mv ns)) ∧
  (∀ (n : Fin 40) (high : Bool) (held gap : Nat), Frame [] [.heads] (.hlgCodeChange n high held gap)) ∧
  (∀ (n : Fin 40), Frame [] [.heads, .clock] (.legTurnOnRelease n)) ∧
  (∀ (n : Fin 40), Frame [0x4007, 0x4008] [.heads, .clock] (.legTurnOnWithhold n)) ∧
  (∀ (g : Fin 8) (ns : Nat), Frame [] [.heads] (.henLow g ns)) ∧
  (∀ (g : Fin 8) (ns : Nat) (persist : List (Fin 40)), Frame [0x4002, 0x4007, 0x4008, 0x4016] [.heads, .dies] (.henRelease g ns persist)) ∧
  (∀ (l : Lane), Frame [0x4008] [.heads] (.hlkTrainStart l)) ∧
  (∀ (l : Lane), Frame [0x4008] [.heads] (.hlkTrainAbort l)) ∧
  (∀ (n : Fin 40), Frame [] [.heads] (.headGateSupplyLoss n))

/-- What the commands of the energy stages, the core rails and the low-voltage path leave unchanged: registers of every block but the ones named, every part of the machine
but the ones named, and the queue. The blocks and parts named are those that the rules of the cited files have them write. -/
def Obligations.FramesEnergy : Prop :=
  (∀ (k : Fin 12), Frame [0x4002, 0x4006, 0x400A, 0x4015, 0x4016] [.heads, .dies, .deputy, .clock] (.contactorPullEnd k)) ∧
  (∀ (l : Lane) (c : Fin 6), Frame [0x4002, 0x400A, 0x4015] [.deputy, .clock] (.contactorDropEnd l c)) ∧
  (∀ (l : Lane), Frame [0x4002, 0x400A, 0x4015] [.deputy] (.closeMain l)) ∧
  (∀ (l : Lane), Frame [0x4002, 0x400A, 0x4015] [.deputy] (.prechargeReached l)) ∧
  (∀ (l : Lane), Frame [0x4002, 0x400A, 0x4015] [.deputy, .clock] (.prechargeTimeout l)) ∧
  (∀ (l : Lane), Frame [0x4002, 0x4006, 0x400A] [] (.openMain l)) ∧
  (∀ (l : Lane), Frame [0x400A, 0x4015] [.deputy, .clock] (.openCurrentWaitEnd l)) ∧
  (∀ (l : Lane), Frame [0x4002, 0x400A, 0x4015] [.deputy, .clock] (.weldCheckEnd l)) ∧
  (∀ (l : Lane), Frame [0x4002, 0x400A, 0x4015] [.deputy] (.closeDc l)) ∧
  (∀ (l : Lane), Frame [0x4002, 0x400A, 0x4015] [.deputy] (.openDc l)) ∧
  (∀ (l : Lane), Frame [0x4002, 0x400A, 0x4015] [.deputy] (.closeAc l)) ∧
  (∀ (l : Lane), Frame [0x4002, 0x400A, 0x4015] [.deputy] (.openAc l)) ∧
  (∀ (l : Lane), Frame [0x4002, 0x400A] [] (.weldTest l)) ∧
  (∀ (l : Lane), Frame [0x4002, 0x400A, 0x4015] [] (.clearWeld l)) ∧
  (∀ (l : Lane), Frame [0x4002, 0x400A, 0x4015] [.deputy, .clock] (.dcOvercurrent l)) ∧
  (∀ (l : Lane) (on : Bool), Frame [0x4002, 0x400A] [] (.ov1Cross l on)) ∧
  (∀ (l : Lane), Frame [0x4002, 0x400A, 0x4015] [.heads] (.ov2Cross l)) ∧
  (∀ (l : Lane), Frame [0x400A, 0x4015] [.heads] (.ov2Release l)) ∧
  (∀ (l : Lane), Frame [0x4002, 0x400A, 0x4015] [.heads, .deputy] (.ov3Cross l)) ∧
  (Frame [0x400A, 0x4015] [.heads, .deputy, .clock] (.ov3HoldExpiry)) ∧
  (∀ (l : Lane), Frame [0x4002, 0x4006, 0x400A, 0x4015, 0x4016] [.heads, .dies, .deputy, .clock] (.ov3ContactorOpen l)) ∧
  (∀ (l : Lane) (vset iset : BitVec 16), Frame [0x4006, 0x400A] [] (.hvcSetWrite l vset iset)) ∧
  (∀ (l : Lane), Frame [0x4006, 0x400A] [] (.hvcSoftDone l)) ∧
  (∀ (l : Lane) (v f : BitVec 16), Frame [0x400A, 0x4016] [.heads, .dies, .clock] (.obcSyncDone l v f)) ∧
  (∀ (l : Lane), Frame [0x4002, 0x400A, 0x4015, 0x4016] [.heads, .dies, .deputy] (.obcBusReached l)) ∧
  (∀ (l : Lane) (v f : BitVec 16), Frame [0x400A, 0x4015, 0x4016] [.heads, .dies, .deputy, .clock] (.obcGridTrip l v f)) ∧
  (∀ (l : Lane) (v f : BitVec 16), Frame [0x400A] [.clock] (.obcGridReturn l v f)) ∧
  (∀ (l : Lane) (vbat vbus : Nat) (ip : Int), Frame [0x4002, 0x4015, 0x4016] [.dies, .clock] (.lvpSample l vbat vbus ip)) ∧
  (∀ (l : Lane), Frame [0x4006, 0x400A, 0x4016] [.heads, .dies] (.lvpHandover l)) ∧
  (∀ (l : Lane), Frame [0x4016] [.dies, .clock] (.lvpHandoverEnd l)) ∧
  (∀ (l : Lane), Frame [0x4006, 0x400A, 0x4016] [.heads, .dies, .clock] (.lvpRequalEnd l)) ∧
  (∀ (l : Lane), Frame [0x4002, 0x4016] [.dies, .clock] (.lvpCutoff l)) ∧
  (∀ (l : Lane), Frame [0x4016] [] (.lvpReconnect l)) ∧
  (∀ (l : Lane) (limiting : Bool), Frame [0x4006, 0x400A, 0x4016] [.dies, .clock] (.lvpProfileStep l limiting)) ∧
  (∀ (l : Lane) (vact : Nat), Frame [0x4016] [] (.actUndervoltage l vact)) ∧
  (∀ (l : Lane), Frame [] [.dies, .clock] (.vrcSettled l)) ∧
  (∀ (l : Lane) (m : RailSample), Frame [0x4016] [.dies, .clock] (.vrcUpdate l m)) ∧
  (∀ (l : Lane), Frame [0x4016] [.dies, .clock] (.vrcShed l)) ∧
  (∀ (l : Lane), Frame [0x4016] [.dies, .clock] (.vrcShedRampEnd l)) ∧
  (∀ (l : Lane), Frame [0x4016] [.dies] (.vrcRestore l)) ∧
  (∀ (l : Lane), Frame [0x4002, 0x400A, 0x4015] [.deputy, .clock] (.prechargeOverlapEnd l)) ∧
  (∀ (l : Lane), Frame [0x400A, 0x4015] [.heads, .deputy] (.ov3LinesInactive l)) ∧
  (∀ (l : Lane) (up : Bool), Frame [0x4015, 0x4016] [.dies] (.vbat9vCrossing l up))

/-- What the commands of the lane link, the chassis function, the check values, lockstep, the tally and time leave unchanged: registers of every block but the ones named, every part of the machine
but the ones named, and the queue. The blocks and parts named are those that the rules of the cited files have them write. -/
def Obligations.FramesLanesAndChassis : Prop :=
  (∀ (l : Lane) (who : Initiator), Frame [0x4002, 0x400C, 0x4011] [] (.nvmReqGo l who)) ∧
  (∀ (l : Lane) (id : Fin 64), Frame [0x4001, 0x4002, 0x4007, 0x400A, 0x400C, 0x4015, 0x4016] [.heads, .pwmMap, .dies, .deputy, .clock] (.tallyMiss l id)) ∧
  (∀ (l : Lane), Frame [0x4002] [] (.talOutPop l)) ∧
  (∀ (l : Lane) (n : Fin 8), Frame [0x4001, 0x4017] [.clock] (.timExpiry l n)) ∧
  (∀ (l : Lane), Frame [0x4001, 0x4002, 0x4003, 0x4004, 0x4006, 0x4007, 0x4009, 0x400A, 0x400C, 0x400F, 0x4012, 0x4013, 0x4014, 0x4015, 0x4016, 0x4017] [.memory, .tables, .heads, .pwmMap, .dies, .deputy, .clock] (.tractionCycleBoundary l)) ∧
  (∀ (l : Lane) (flips : List (BitVec 8)) (transit : Nat), Frame [0x4001, 0x400C, 0x4017] [.clock] (.timeFrame l flips transit)) ∧
  (∀ (l : Lane) (m : Fin 2) (origin corr ago : Nat) (logSync : BitVec 8) (unc : Fin 2), Frame [0x4010, 0x4017] [] (.asSync l m origin corr ago logSync unc)) ∧
  (∀ (l : Lane) (m : Fin 2), Frame [] [.clock] (.asPdelayReq l m)) ∧
  (∀ (l : Lane) (m : Fin 2), Frame [0x4001, 0x4010, 0x4017] [.clock] (.asSyncLapse l m)) ∧
  (∀ (l : Lane) (faults : List CheckFault), Frame [0x4001, 0x4002, 0x4007, 0x400A, 0x400C, 0x400D, 0x4015, 0x4016] [.heads, .pwmMap, .dies, .deputy] (.checkerFault l faults)) ∧
  (∀ (l : Lane) (cp : Bool), Frame [0x4001, 0x4002, 0x4007, 0x400A, 0x400C, 0x400D, 0x4015, 0x4016] [.heads, .pwmMap, .dies, .deputy] (.debugSplit l cp)) ∧
  (∀ (l : Lane), Frame [0x4001, 0x4002, 0x4007, 0x400A, 0x400C, 0x4015, 0x4016] [.heads, .pwmMap, .dies, .deputy] (.networkLossCount l)) ∧
  (∀ (l : Lane), Frame [0x4001, 0x4002, 0x4007, 0x400A, 0x400C, 0x4015, 0x4016] [.heads, .pwmMap, .dies, .deputy] (.sensorLossCount l)) ∧
  (∀ (l : Lane), Frame [0x4001, 0x4002, 0x4007, 0x400A, 0x400C, 0x4015, 0x4016] [.heads, .pwmMap, .dies, .deputy] (.disagreeCount l)) ∧
  (∀ (l : Lane) (flips : List (BitVec 8)), Frame [0x400C] [] (.linkFrameCmp l flips)) ∧
  (∀ (l : Lane) (flips : List (BitVec 8)), Frame [0x400C] [] (.linkFrameIn l flips)) ∧
  (∀ (l : Lane) (flips : List (BitVec 8)), Frame [0x4002, 0x400C] [] (.linkFrameAck l flips)) ∧
  (∀ (l : Lane) (flips : List (BitVec 8)), Frame [0x400C, 0x4015] [] (.linkFrameState l flips)) ∧
  (∀ (l : Lane) (flips : List (BitVec 8)), Frame [0x400C] [] (.linkFrameCopy l flips)) ∧
  (∀ (l : Lane) (flips : List (BitVec 8)) (wrong : BitVec 32), Frame [0x400C, 0x4015] [.deputy] (.linkFrameCopyEnd l flips wrong)) ∧
  (∀ (l : Lane) (flips : List (BitVec 8)), Frame [0x400C] [] (.linkFrameIdle l flips)) ∧
  (∀ (l : Lane), Frame [0x4002, 0x400C] [.clock] (.laneLinkLost l)) ∧
  (∀ (l : Lane), Frame [0x400C] [.clock] (.copyAckTimeout l)) ∧
  (∀ (l : Lane), Frame [0x4002] [.clock] (.snapshotPeriod l)) ∧
  (∀ (l : Lane), Frame [0x4002] [] (.snapNow l)) ∧
  (∀ (l : Lane) (flips : List (BitVec 8)), Frame [0x4002, 0x4006, 0x4007, 0x4009, 0x400A, 0x400C, 0x4015, 0x4016] [.memory, .heads, .dies] (.snapshotSearchEnd l flips)) ∧
  (∀ (l : Lane), Frame [0x400C] [] (.handover l)) ∧
  (∀ (l : Lane), Frame [0x400C] [.clock] (.chassisBoundary l)) ∧
  (∀ (l : Lane), Frame [0x400C] [] (.chassisSeal l)) ∧
  (∀ (l : Lane), Frame [0x4002, 0x400C] [.clock] (.chassisCmdDeadline l)) ∧
  (∀ (l : Lane), Frame [0x4002, 0x400C] [.tables, .clock] (.chassisCompare l)) ∧
  (∀ (l : Lane), Frame [] [] (.chassisNodeFrame l)) ∧
  (∀ (l : Lane) (who : Initiator) (n : Fin 4), Frame [0x400D] [] (.cvuStart l who n)) ∧
  (∀ (l : Lane) (who : Initiator) (n : Fin 4) (value : BitVec 32) (differ : Bool), Frame [0x4000, 0x400D] [] (.cvuData32 l who n value differ)) ∧
  (∀ (l : Lane) (who : Initiator) (n : Fin 4) (value : BitVec 32) (differ : Bool), Frame [0x4000, 0x400D] [] (.cvuData16 l who n value differ)) ∧
  (∀ (l : Lane) (who : Initiator) (n : Fin 4) (value : BitVec 32) (differ : Bool), Frame [0x4000, 0x400D] [] (.cvuData8 l who n value differ)) ∧
  (∀ (l : Lane) (who : Initiator) (n : Fin 4), Frame [0x4000, 0x400D] [] (.cvuEnd l who n)) ∧
  (∀ (l : Lane) (who : Initiator) (n : Fin 4), Frame [0x400D] [] (.cvuAbort l who n)) ∧
  (∀ (l : Lane) (who : Initiator) (n : Fin 4), Frame [] [] (.cvuResync l who n)) ∧
  (∀ (l : Lane) (m : Fin 2) (msg : AsMsg), Frame [0x4010] [] (.asPdelayAnnounceRx l m msg))

/-- What the commands of the Deputy, the safe outputs, the supplies, the rail link, the modes and the service button leave unchanged: registers of every block but the ones named, every part of the machine
but the ones named, and the queue. The blocks and parts named are those that the rules of the cited files have them write. -/
def Obligations.FramesDeputyAndPower : Prop :=
  (∀ (l : Lane), Frame [0x4016] [.dies, .supplies] (.islandSupplyRise l)) ∧
  (∀ (pin : Fin 2), Frame [0x4015] [.deputy] (.wakeInput pin)) ∧
  (∀ (l : Lane) (target : Fin 8) (nvmBusy : Bool), Frame [0x4000, 0x4001] [.modeEngine] (.modeRequest l target nvmBusy)) ∧
  (Frame [0x4000, 0x4001] [.modeEngine, .clock] (.modePartnerTimeout)) ∧
  (∀ (freq : Nat), Frame [0x4015] [.deputy] (.deputyOscCorrection freq)) ∧
  (Frame [0x4015] [.deputy] (.deputyOscSourceChange)) ∧
  (∀ (l : Lane), Frame [0x4001, 0x4002, 0x4007, 0x400C, 0x4015] [.pwmMap, .deputy] (.authReqRaise l)) ∧
  (∀ (l : Lane), Frame [0x4001, 0x4002, 0x4007, 0x400C, 0x4015] [.pwmMap, .deputy] (.authReqDrop l)) ∧
  (Frame [0x4001, 0x4006, 0x4007, 0x400A, 0x400C, 0x4015] [.deputy, .clock] (.holdGrant)) ∧
  (Frame [0x4001, 0x4002, 0x4007, 0x400C, 0x4015] [.heads, .pwmMap, .deputy, .clock] (.holdExpiry)) ∧
  (∀ (l x : Lane) (seq : BitVec 8), Frame [0x4000, 0x4001, 0x4002, 0x4007, 0x400A, 0x400C, 0x4015, 0x4016] [.heads, .pwmMap, .dies, .deputy] (.heartbeatWrite l x seq)) ∧
  (∀ (l : Lane), Frame [0x4001, 0x4002, 0x4007, 0x400A, 0x400C, 0x4015, 0x4016] [.heads, .pwmMap, .dies, .deputy, .clock] (.heartbeatMiss l)) ∧
  (Frame [0x4015] [.clock] (.deputyAliveTick)) ∧
  (∀ (l : Lane), Frame [0x4001, 0x4002, 0x4017] [.clock] (.deputyPortSilent l)) ∧
  (∀ (l : Lane), Frame [0x4001, 0x4002, 0x4007, 0x400C, 0x4015, 0x4016, 0x4017] [.pwmMap, .dies, .deputy, .clock] (.dsPartnerJudgement l)) ∧
  (∀ (l : Lane) (cls : Fin 8), Frame [0x4000, 0x4001, 0x4002, 0x4007, 0x400A, 0x400C, 0x4015, 0x4016] [.heads, .pwmMap, .dies, .deputy] (.dspDeclare l cls)) ∧
  (Frame [0x4001, 0x4002, 0x400A, 0x4015] [.deputy, .clock] (.degradedExpiry)) ∧
  (∀ (l : Lane), Frame [0x4001, 0x4017] [.clock] (.laneDegradedExpiry l)) ∧
  (∀ (l : Lane), Frame [0x4015] [.clock] (.degRemainSample l)) ∧
  (∀ (l : Lane), Frame [0x4000, 0x4015] [.deputy] (.rampDone l)) ∧
  (Frame [0x4002, 0x4015] [.deputy, .clock] (.rampWindowExpiry)) ∧
  (∀ (l : Lane), Frame [0x4000, 0x4015] [] (.brakeApplied l)) ∧
  (Frame [0x4002, 0x4015] [.dies, .clock] (.brakeWindowExpiry)) ∧
  (∀ (l : Lane) (k : Fin 12) (value : BitVec 22), Frame [0x4000, 0x4015] [.deputy] (.dspSoCmd l k value)) ∧
  (∀ (k : Fin 12) (fb ls : Bool), Frame [0x400A, 0x4015] [.clock] (.soFbMismatch k fb ls)) ∧
  (∀ (reads : List SoRead), Frame [0x4002, 0x4015] [.deputy, .clock] (.soTestRound reads)) ∧
  (∀ (l : Lane) (out : Fin 16) (read : SoRead), Frame [0x4000, 0x4002, 0x4015] [.deputy, .clock] (.soTestGo l out read)) ∧
  (∀ (l : Lane), Frame [0x4016] [.dies] (.btnPress l)) ∧
  (∀ (l : Lane) (flips : List (BitVec 8)) (nvmBusy : Bool), Frame [0x4000, 0x4001, 0x400C] [.modeEngine] (.linkFrameMode l flips nvmBusy)) ∧
  (∀ (l : Lane) (who : Initiator), Frame [0x4000, 0x4002] [] (.vddGo l who)) ∧
  (∀ (l : Lane) (flip : BitVec 32), Frame [0x4000, 0x4016] [.dies] (.rlkSet l flip)) ∧
  (∀ (l : Lane) (flip : BitVec 32), Frame [0x4016] [.dies] (.rlkNap l flip)) ∧
  (∀ (l : Lane) (flip : BitVec 32), Frame [0x4016] [.dies] (.rlkWake l flip)) ∧
  (∀ (l : Lane) (flip : BitVec 32), Frame [0x4000, 0x4002] [.dies] (.rlkStatus l flip)) ∧
  (∀ (l : Lane) (flip : BitVec 32), Frame [0x4000, 0x4002] [.dies] (.rlkAck l flip)) ∧
  (∀ (l : Lane) (flip : BitVec 32), Frame [0x4000, 0x4002] [.dies] (.rlkSuperseded l flip)) ∧
  (∀ (l : Lane) (flip : BitVec 32), Frame [0x4000, 0x4002, 0x4016] [.dies, .clock] (.rlkNapDone l flip)) ∧
  (∀ (l : Lane) (controller : Bool), Frame [0x4000, 0x4002, 0x4016] [.dies, .clock] (.rlkLoss l controller)) ∧
  (∀ (l : Lane), Frame [0x4000] [] (.pwrIdle l)) ∧
  (∀ (l : Lane), Frame [0x4000] [] (.idleInterrupt l)) ∧
  (∀ (l : Lane) (nvmBusy : Bool) (abort : Fin 9), Frame [0x4000] [] (.pwrNap l nvmBusy abort)) ∧
  (∀ (l : Lane) (tim : Option (Fin 8)), Frame [0x4000] [] (.napWake l tim)) ∧
  (∀ (c : Fin 64), Frame [] [.heads, .pwmMap, .clock] (.holdReplayEdge c)) ∧
  (∀ (k : Fin 12), Frame [0x4015] [.deputy, .clock] (.soCurrentLimit k)) ∧
  (∀ (l : Lane), Frame [] [.deputy, .clock] (.btnHeld8s l)) ∧
  (Frame [] [.deputy] (.lampSlot))

/-- What the commands of the networks, the ledger, keys and lifecycle, temperatures and the start leave unchanged: registers of every block but the ones named, every part of the machine
but the ones named, and the queue. The blocks and parts named are those that the rules of the cited files have them write. -/
def Obligations.FramesNetworksAndRecords : Prop :=
  (∀ (l : Lane) (slot : Fin 4), Frame [0x4001] [.media] (.bootNext l slot)) ∧
  (∀ (l : Lane) (slot : Fin 4) (key : Nat), Frame [0x4001] [.media] (.keyRevoke l slot key)) ∧
  (∀ (l : Lane) (block crc : Nat), Frame [] [] (.loaderBlockStart l block crc)) ∧
  (∀ (l : Lane) (n : Fin 12) (rising falling : List Bool), Frame [0x4004, 0x4013, 0x4014] [.memory, .tables] (.sdfResult l n rising falling)) ∧
  (∀ (l : Lane) (n : Fin 4), Frame [0x4001, 0x4002, 0x4007, 0x400A, 0x400C, 0x400F, 0x4015, 0x4016] [.heads, .pwmMap, .dies, .deputy] (.canBusOff l n)) ∧
  (∀ (l : Lane) (m : ThmSample), Frame [0x4002, 0x400E, 0x4015, 0x4016] [.deputy, .clock] (.thmSample l m)) ∧
  (∀ (isl : Option Lane), Frame [0x4016] [.dies, .deputy, .supplies, .clock] (.thermalRelease isl)) ∧
  (∀ (l : Lane) (who : Initiator) (n : Fin 4), Frame [0x4002, 0x400C, 0x400F] [] (.canTxGo l who n)) ∧
  (∀ (l : Lane) (n : Fin 4), Frame [] [] (.canAttemptStart l n)) ∧
  (∀ (l : Lane) (n : Fin 4) (e : CanEnd), Frame [0x4002, 0x400C, 0x400F] [] (.canAttemptEnd l n e)) ∧
  (∀ (l : Lane) (n : Fin 4) (f : CanFrame) (ago : Nat), Frame [0x400F] [.tables] (.canRxFrame l n f ago)) ∧
  (∀ (l : Lane) (n : Fin 4), Frame [0x400F] [] (.canRxPop l n)) ∧
  (∀ (l : Lane) (n : Fin 4), Frame [0x400F] [] (.canHpPop l n)) ∧
  (∀ (l : Lane) (n : Fin 4), Frame [] [] (.canRecover l n)) ∧
  (∀ (l : Lane) (n : Fin 4), Frame [0x400F] [] (.canRecoveryDone l n)) ∧
  (∀ (l : Lane) (n : Fin 4), Frame [0x4002, 0x400C, 0x400F] [] (.canEnable l n)) ∧
  (∀ (l : Lane) (n : Fin 4), Frame [0x400F] [] (.canIntegrated l n)) ∧
  (∀ (l : Lane) (n : Fin 4) (c : Fin 32), Frame [0x400F] [.clock] (.canCellStart l n c)) ∧
  (∀ (l : Lane) (n : Fin 4), Frame [] [.clock] (.canWindowClose l n)) ∧
  (∀ (l : Lane) (who : Initiator) (m : Fin 3), Frame [0x4002, 0x400C, 0x4010] [] (.ethTxGo l who m)) ∧
  (∀ (l : Lane) (m : Fin 3) (f : EthFrame) (ago : Nat), Frame [0x4010] [.memory] (.ethRxFrame l m f ago)) ∧
  (∀ (l : Lane) (m : Fin 3) (count : Nat), Frame [0x4010] [] (.ethRxRelease l m count)) ∧
  (∀ (l : Lane) (m : Fin 3) (value : BitVec 32), Frame [0x4010] [] (.ethMdio l m value)) ∧
  (∀ (l : Lane) (m : Fin 3) (up : Bool) (speed : Fin 4) (full : Bool) (anDone : Bool), Frame [0x4002, 0x400C, 0x4010] [] (.ethLinkChange l m up speed full anDone)) ∧
  (∀ (l : Lane), Frame [0x4002, 0x400C, 0x4010] [] (.t1sCollision l)) ∧
  (∀ (l : Lane), Frame [] [] (.asyReqCommit l)) ∧
  (∀ (l : Lane) (crc : BitVec 32), Frame [0x4002, 0x4013] [] (.asyXinSubmit l crc)) ∧
  (∀ (l : Lane) (written tagOk : Bool), Frame [0x4013] [.media] (.holdup l written tagOk)) ∧
  (∀ (l : Lane), Frame [0x4013] [.media] (.countersign l)) ∧
  (∀ (l : Lane) (who : Initiator) (slot : Fin 4), Frame [] [.media] (.secKeyProg l who slot)) ∧
  (∀ (l : Lane) (who : Initiator), Frame [0x4012] [] (.dbgChallenge l who)) ∧
  (∀ (l : Lane), Frame [0x4012] [.clock] (.challengeLapse l)) ∧
  (∀ (l : Lane) (who : Initiator) (obj : Signed), Frame [0x4012] [.media] (.dbgOpen l who obj)) ∧
  (∀ (l : Lane) (who : Initiator), Frame [0x4002, 0x4012] [] (.secJobGo l who)) ∧
  (∀ (l : Lane), Frame [0x4012] [] (.entropyHealthFail l)) ∧
  (∀ (l : Lane) (m : Fin 3) (data : BitVec 16), Frame [0x4010] [] (.ethMdioDone l m data)) ∧
  (∀ (l : Lane) (seen : Bool), Frame [0x4010] [] (.plcaBeaconChange l seen))
end

