-- ==== Sys2Proof/Laws/Sorted.lean ====
section
/-!
SUPPORT. The laws of a sorted list of entries that differ from a default: a read after a write, and the canonical form
that every write keeps.
-/
namespace Sys2Proof.Machine

variable {α : Type}

/-- A key below every listed one reads as the default. -/
theorem sget_below [DecidableEq α] (d : α) (k : Nat) :
    ∀ (l : List (Nat × α)) (lo : Nat), swf d lo l = true → k < lo → sget d k l = d
  | [], _, _, _ => rfl
  | (k', v) :: r, lo, h, hk => by
    simp only [swf, Bool.and_eq_true, decide_eq_true_eq] at h
    have h1 : k ≠ k' := by omega
    have h2 : k < k' := by omega
    simp [sget, h1, h2]

/-- A canonical list is canonical from every lower bound on. -/
theorem swf_lower [DecidableEq α] (d : α) :
    ∀ (l : List (Nat × α)) (lo lo' : Nat), swf d lo l = true → lo' ≤ lo → swf d lo' l = true
  | [], _, _, _, _ => rfl
  | (k, v) :: r, lo, lo', h, hl => by
    simp only [swf, Bool.and_eq_true, decide_eq_true_eq] at h ⊢
    exact ⟨⟨by omega, h.1.2⟩, h.2⟩

/-- A write keeps the canonical form. -/
theorem swf_sput [DecidableEq α] (d : α) (k : Nat) (v : α) :
    ∀ (l : List (Nat × α)) (lo : Nat), swf d lo l = true → lo ≤ k → swf d lo (sput d k v l) = true
  | [], lo, _, hk => by
    unfold sput
    split
    · rfl
    · simp [swf, *]
  | (k', v') :: r, lo, h, hk => by
    simp only [swf, Bool.and_eq_true, decide_eq_true_eq] at h
    unfold sput
    split
    · next he =>
      subst he
      split
      · exact swf_lower d r _ _ h.2 (by omega)
      · next hv => simp [swf, hv, h.2, hk]
    · split
      · next hne hlt =>
        split
        · simp [swf, h.1.1, h.1.2, h.2]
        · next hv => simp [swf, hv, h.1.2, h.2, hk]; omega
      · next hne hlt =>
        simp only [swf, Bool.and_eq_true, decide_eq_true_eq]
        exact ⟨h.1, swf_sput d k v r (k' + 1) h.2 (by omega)⟩

/-- Writes one after the other keep the canonical form. -/
theorem swf_sputAll [DecidableEq α] (d : α) : ∀ (ws m : List (Nat × α)), swf d 0 m = true →
    swf d 0 (ws.foldl (fun m x => sput d x.1 x.2 m) m) = true
  | [], _, h => h
  | w :: r, m, h => swf_sputAll d r _ (swf_sput d w.1 w.2 m 0 h (Nat.zero_le _))

/-- A read of the key just written gives the value written. -/
theorem sget_sput_same [DecidableEq α] (d : α) (k : Nat) (v : α) :
    ∀ (l : List (Nat × α)) (lo : Nat), swf d lo l = true → sget d k (sput d k v l) = v
  | [], _, _ => by
    unfold sput
    split <;> simp [sget, *]
  | (k', v') :: r, lo, h => by
    simp only [swf, Bool.and_eq_true, decide_eq_true_eq] at h
    unfold sput
    split
    · next he =>
      subst he
      split
      · next hv => rw [hv]; exact sget_below d k r (k + 1) h.2 (by omega)
      · simp [sget]
    · split
      · next hne hlt =>
        split
        · next hv => simp [sget, hne, hlt, hv]
        · simp [sget]
      · next hne hlt =>
        simp only [sget, hne, hlt, if_false]
        exact sget_sput_same d k v r (k' + 1) h.2

/-- A write leaves every other key as it was. -/
theorem sget_sput_other [DecidableEq α] (d : α) (k k2 : Nat) (v : α) (hk : k2 ≠ k) :
    ∀ (l : List (Nat × α)) (lo : Nat), swf d lo l = true → sget d k2 (sput d k v l) = sget d k2 l
  | [], _, _ => by
    unfold sput
    split <;> simp [sget, hk]
  | (k', v') :: r, lo, h => by
    simp only [swf, Bool.and_eq_true, decide_eq_true_eq] at h
    unfold sput
    split
    · next he =>
      subst he
      split
      · by_cases h2 : k2 < k
        · simp [sget, hk, h2, sget_below d k2 r (k + 1) h.2 (by omega)]
        · simp [sget, hk, h2]
      · simp [sget, hk]
    · split
      · next hne hlt =>
        split
        · rfl
        · by_cases h2 : k2 < k
          · have h3 : k2 ≠ k' := by omega
            have h4 : k2 < k' := by omega
            simp [sget, hk, h2, h3, h4]
          · simp [sget, hk, h2]
      · simp only [sget, sget_sput_other d k k2 v hk r (k' + 1) h.2]

end Sys2Proof.Machine
end

