-- ==== Sys2Proof/Laws/State.lean ====
section
/-!
SUPPORT. One lemma per field per update of the state, so that no proof unfolds a record update.
-/
namespace Sys2Proof.Machine

/-! ## A register field written: everything but the register file stands -/

@[simp] theorem State.wr_now (s : State) (d : Die) (f : Fld) (v i j : Nat) : (s.wr d f v i j).now = s.now := rfl
@[simp] theorem State.wr_fine (s : State) (d : Die) (f : Fld) (v i j : Nat) : (s.wr d f v i j).fine = s.fine := rfl
@[simp] theorem State.wr_freeIdx (s : State) (d : Die) (f : Fld) (v i j : Nat) : (s.wr d f v i j).freeIdx = s.freeIdx := rfl
@[simp] theorem State.wr_sup (s : State) (d : Die) (f : Fld) (v i j : Nat) : (s.wr d f v i j).sup = s.sup := rfl
@[simp] theorem State.wr_laneA (s : State) (d : Die) (f : Fld) (v i j : Nat) : (s.wr d f v i j).laneA = s.laneA := rfl
@[simp] theorem State.wr_laneB (s : State) (d : Die) (f : Fld) (v i j : Nat) : (s.wr d f v i j).laneB = s.laneB := rfl
@[simp] theorem State.wr_dep (s : State) (d : Die) (f : Fld) (v i j : Nat) : (s.wr d f v i j).dep = s.dep := rfl
@[simp] theorem State.wr_modeEng (s : State) (d : Die) (f : Fld) (v i j : Nat) : (s.wr d f v i j).modeEng = s.modeEng := rfl
@[simp] theorem State.wr_hoist (s : State) (d : Die) (f : Fld) (v i j : Nat) : (s.wr d f v i j).hoist = s.hoist := rfl
@[simp] theorem State.wr_mux (s : State) (d : Die) (f : Fld) (v i j : Nat) : (s.wr d f v i j).mux = s.mux := rfl
@[simp] theorem State.wr_papA (s : State) (d : Die) (f : Fld) (v i j : Nat) : (s.wr d f v i j).papA = s.papA := rfl
@[simp] theorem State.wr_papB (s : State) (d : Die) (f : Fld) (v i j : Nat) : (s.wr d f v i j).papB = s.papB := rfl
@[simp] theorem State.wr_storage (s : State) (d : Die) (f : Fld) (v i j : Nat) : (s.wr d f v i j).storage = s.storage := rfl
@[simp] theorem State.wr_pending (s : State) (d : Die) (f : Fld) (v i j : Nat) : (s.wr d f v i j).pending = s.pending := rfl

@[simp] theorem State.wr_lane (s : State) (d : Die) (f : Fld) (v i j : Nat) (l : Lane) :
    (s.wr d f v i j).lane l = s.lane l := by cases l <;> rfl
@[simp] theorem State.wr_run (s : State) (d : Die) (f : Fld) (v i j : Nat) (l : Lane) :
    (s.wr d f v i j).run l = s.run l := by cases l <;> rfl
@[simp] theorem State.wr_nv (s : State) (d : Die) (f : Fld) (v i j : Nat) (l : Lane) :
    (s.wr d f v i j).nv l = s.nv l := by cases l <;> rfl
@[simp] theorem State.wr_depLane (s : State) (d : Die) (f : Fld) (v i j : Nat) (l : Lane) :
    (s.wr d f v i j).depLane l = s.depLane l := rfl

/-! ## The derived register writes in terms of `wr` -/

theorem State.set_eq (s : State) (d : Die) (f : Fld) (i j : Nat) : s.set d f i j = s.wr d f 1 i j := rfl
theorem State.clr_eq (s : State) (d : Die) (f : Fld) (i j : Nat) : s.clr d f i j = s.wr d f 0 i j := rfl
theorem State.put_eq (s : State) (d : Die) (f : Fld) (b : Bool) (i j : Nat) : s.put d f b i j = s.wr d f (b2n b) i j := rfl
theorem State.inc_eq (s : State) (d : Die) (f : Fld) (i j n : Nat) :
    s.inc d f i j n = s.wr d f (satAdd f.w (s.rd d f i j) n) i j := rfl

/-! ## A lane's state replaced -/

@[simp] theorem State.setLane_now (s : State) (l : Lane) (x : LaneSt) : (s.setLane l x).now = s.now := by
  cases l <;> rfl
@[simp] theorem State.setLane_fine (s : State) (l : Lane) (x : LaneSt) : (s.setLane l x).fine = s.fine := by
  cases l <;> rfl
@[simp] theorem State.setLane_freeIdx (s : State) (l : Lane) (x : LaneSt) : (s.setLane l x).freeIdx = s.freeIdx := by
  cases l <;> rfl
@[simp] theorem State.setLane_regs (s : State) (l : Lane) (x : LaneSt) : (s.setLane l x).regs = s.regs := by
  cases l <;> rfl
@[simp] theorem State.setLane_sup (s : State) (l : Lane) (x : LaneSt) : (s.setLane l x).sup = s.sup := by
  cases l <;> rfl
@[simp] theorem State.setLane_dep (s : State) (l : Lane) (x : LaneSt) : (s.setLane l x).dep = s.dep := by
  cases l <;> rfl
@[simp] theorem State.setLane_modeEng (s : State) (l : Lane) (x : LaneSt) : (s.setLane l x).modeEng = s.modeEng := by
  cases l <;> rfl
@[simp] theorem State.setLane_hoist (s : State) (l : Lane) (x : LaneSt) : (s.setLane l x).hoist = s.hoist := by
  cases l <;> rfl
@[simp] theorem State.setLane_mux (s : State) (l : Lane) (x : LaneSt) : (s.setLane l x).mux = s.mux := by
  cases l <;> rfl
@[simp] theorem State.setLane_papA (s : State) (l : Lane) (x : LaneSt) : (s.setLane l x).papA = s.papA := by
  cases l <;> rfl
@[simp] theorem State.setLane_papB (s : State) (l : Lane) (x : LaneSt) : (s.setLane l x).papB = s.papB := by
  cases l <;> rfl
@[simp] theorem State.setLane_storage (s : State) (l : Lane) (x : LaneSt) : (s.setLane l x).storage = s.storage := by
  cases l <;> rfl
@[simp] theorem State.setLane_pending (s : State) (l : Lane) (x : LaneSt) : (s.setLane l x).pending = s.pending := by
  cases l <;> rfl
@[simp] theorem State.setLane_lane (s : State) (l : Lane) (x : LaneSt) : (s.setLane l x).lane l = x := by cases l <;> rfl
theorem State.setLane_lane_other (s : State) (l m : Lane) (x : LaneSt) (h : m ≠ l) : (s.setLane l x).lane m = s.lane m := by
  cases l <;> cases m <;> first | rfl | exact absurd rfl h

/-! ## `modRun` -/

@[simp] theorem State.modRun_now (s : State) (l : Lane) (f : LaneRun → LaneRun) : (s.modRun l f).now = s.now := by
  cases l <;> rfl
@[simp] theorem State.modRun_fine (s : State) (l : Lane) (f : LaneRun → LaneRun) : (s.modRun l f).fine = s.fine := by
  cases l <;> rfl
@[simp] theorem State.modRun_freeIdx (s : State) (l : Lane) (f : LaneRun → LaneRun) : (s.modRun l f).freeIdx = s.freeIdx := by
  cases l <;> rfl
@[simp] theorem State.modRun_regs (s : State) (l : Lane) (f : LaneRun → LaneRun) : (s.modRun l f).regs = s.regs := by
  cases l <;> rfl
@[simp] theorem State.modRun_sup (s : State) (l : Lane) (f : LaneRun → LaneRun) : (s.modRun l f).sup = s.sup := by
  cases l <;> rfl
@[simp] theorem State.modRun_dep (s : State) (l : Lane) (f : LaneRun → LaneRun) : (s.modRun l f).dep = s.dep := by
  cases l <;> rfl
@[simp] theorem State.modRun_modeEng (s : State) (l : Lane) (f : LaneRun → LaneRun) : (s.modRun l f).modeEng = s.modeEng := by
  cases l <;> rfl
@[simp] theorem State.modRun_hoist (s : State) (l : Lane) (f : LaneRun → LaneRun) : (s.modRun l f).hoist = s.hoist := by
  cases l <;> rfl
@[simp] theorem State.modRun_mux (s : State) (l : Lane) (f : LaneRun → LaneRun) : (s.modRun l f).mux = s.mux := by
  cases l <;> rfl
@[simp] theorem State.modRun_papA (s : State) (l : Lane) (f : LaneRun → LaneRun) : (s.modRun l f).papA = s.papA := by
  cases l <;> rfl
@[simp] theorem State.modRun_papB (s : State) (l : Lane) (f : LaneRun → LaneRun) : (s.modRun l f).papB = s.papB := by
  cases l <;> rfl
@[simp] theorem State.modRun_storage (s : State) (l : Lane) (f : LaneRun → LaneRun) : (s.modRun l f).storage = s.storage := by
  cases l <;> rfl
@[simp] theorem State.modRun_pending (s : State) (l : Lane) (f : LaneRun → LaneRun) : (s.modRun l f).pending = s.pending := by
  cases l <;> rfl
/-! ## `modNv` -/

@[simp] theorem State.modNv_now (s : State) (l : Lane) (f : LaneNv → LaneNv) : (s.modNv l f).now = s.now := by
  cases l <;> rfl
@[simp] theorem State.modNv_fine (s : State) (l : Lane) (f : LaneNv → LaneNv) : (s.modNv l f).fine = s.fine := by
  cases l <;> rfl
@[simp] theorem State.modNv_freeIdx (s : State) (l : Lane) (f : LaneNv → LaneNv) : (s.modNv l f).freeIdx = s.freeIdx := by
  cases l <;> rfl
@[simp] theorem State.modNv_regs (s : State) (l : Lane) (f : LaneNv → LaneNv) : (s.modNv l f).regs = s.regs := by
  cases l <;> rfl
@[simp] theorem State.modNv_sup (s : State) (l : Lane) (f : LaneNv → LaneNv) : (s.modNv l f).sup = s.sup := by
  cases l <;> rfl
@[simp] theorem State.modNv_dep (s : State) (l : Lane) (f : LaneNv → LaneNv) : (s.modNv l f).dep = s.dep := by
  cases l <;> rfl
@[simp] theorem State.modNv_modeEng (s : State) (l : Lane) (f : LaneNv → LaneNv) : (s.modNv l f).modeEng = s.modeEng := by
  cases l <;> rfl
@[simp] theorem State.modNv_hoist (s : State) (l : Lane) (f : LaneNv → LaneNv) : (s.modNv l f).hoist = s.hoist := by
  cases l <;> rfl
@[simp] theorem State.modNv_mux (s : State) (l : Lane) (f : LaneNv → LaneNv) : (s.modNv l f).mux = s.mux := by
  cases l <;> rfl
@[simp] theorem State.modNv_papA (s : State) (l : Lane) (f : LaneNv → LaneNv) : (s.modNv l f).papA = s.papA := by
  cases l <;> rfl
@[simp] theorem State.modNv_papB (s : State) (l : Lane) (f : LaneNv → LaneNv) : (s.modNv l f).papB = s.papB := by
  cases l <;> rfl
@[simp] theorem State.modNv_storage (s : State) (l : Lane) (f : LaneNv → LaneNv) : (s.modNv l f).storage = s.storage := by
  cases l <;> rfl
@[simp] theorem State.modNv_pending (s : State) (l : Lane) (f : LaneNv → LaneNv) : (s.modNv l f).pending = s.pending := by
  cases l <;> rfl
@[simp] theorem State.modRun_run (s : State) (l : Lane) (f : LaneRun → LaneRun) : (s.modRun l f).run l = f (s.run l) := by
  cases l <;> rfl
@[simp] theorem State.modNv_nv (s : State) (l : Lane) (f : LaneNv → LaneNv) : (s.modNv l f).nv l = f (s.nv l) := by
  cases l <;> rfl
@[simp] theorem State.modRun_nv (s : State) (l m : Lane) (f : LaneRun → LaneRun) : (s.modRun l f).nv m = s.nv m := by
  cases l <;> cases m <;> rfl
@[simp] theorem State.modNv_run (s : State) (l m : Lane) (f : LaneNv → LaneNv) : (s.modNv l f).run m = s.run m := by
  cases l <;> cases m <;> rfl
theorem State.modRun_run_other (s : State) (l m : Lane) (f : LaneRun → LaneRun) (h : m ≠ l) :
    (s.modRun l f).run m = s.run m := by
  cases l <;> cases m <;> first | rfl | exact absurd rfl h
theorem State.modNv_nv_other (s : State) (l m : Lane) (f : LaneNv → LaneNv) (h : m ≠ l) :
    (s.modNv l f).nv m = s.nv m := by
  cases l <;> cases m <;> first | rfl | exact absurd rfl h
@[simp] theorem State.modRun_depLane (s : State) (l m : Lane) (f : LaneRun → LaneRun) :
    (s.modRun l f).depLane m = s.depLane m := by cases l <;> rfl
@[simp] theorem State.modNv_depLane (s : State) (l m : Lane) (f : LaneNv → LaneNv) :
    (s.modNv l f).depLane m = s.depLane m := by cases l <;> rfl

/-! ## The Deputy, the clock and the counter of free values -/

@[simp] theorem State.modDep_now (s : State) (f : DepSt → DepSt) : (s.modDep f).now = s.now := rfl
@[simp] theorem State.modDep_fine (s : State) (f : DepSt → DepSt) : (s.modDep f).fine = s.fine := rfl
@[simp] theorem State.modDep_freeIdx (s : State) (f : DepSt → DepSt) : (s.modDep f).freeIdx = s.freeIdx := rfl
@[simp] theorem State.modDep_regs (s : State) (f : DepSt → DepSt) : (s.modDep f).regs = s.regs := rfl
@[simp] theorem State.modDep_sup (s : State) (f : DepSt → DepSt) : (s.modDep f).sup = s.sup := rfl
@[simp] theorem State.modDep_laneA (s : State) (f : DepSt → DepSt) : (s.modDep f).laneA = s.laneA := rfl
@[simp] theorem State.modDep_laneB (s : State) (f : DepSt → DepSt) : (s.modDep f).laneB = s.laneB := rfl
@[simp] theorem State.modDep_dep (s : State) (f : DepSt → DepSt) : (s.modDep f).dep = f s.dep := rfl
@[simp] theorem State.modDep_modeEng (s : State) (f : DepSt → DepSt) : (s.modDep f).modeEng = s.modeEng := rfl
@[simp] theorem State.modDep_hoist (s : State) (f : DepSt → DepSt) : (s.modDep f).hoist = s.hoist := rfl
@[simp] theorem State.modDep_mux (s : State) (f : DepSt → DepSt) : (s.modDep f).mux = s.mux := rfl
@[simp] theorem State.modDep_papA (s : State) (f : DepSt → DepSt) : (s.modDep f).papA = s.papA := rfl
@[simp] theorem State.modDep_papB (s : State) (f : DepSt → DepSt) : (s.modDep f).papB = s.papB := rfl
@[simp] theorem State.modDep_storage (s : State) (f : DepSt → DepSt) : (s.modDep f).storage = s.storage := rfl
@[simp] theorem State.modDep_pending (s : State) (f : DepSt → DepSt) : (s.modDep f).pending = s.pending := rfl
@[simp] theorem State.modDepLane_now (s : State) (l : Lane) (f : DepLane → DepLane) : (s.modDepLane l f).now = s.now := rfl
@[simp] theorem State.modDepLane_fine (s : State) (l : Lane) (f : DepLane → DepLane) : (s.modDepLane l f).fine = s.fine := rfl
@[simp] theorem State.modDepLane_freeIdx (s : State) (l : Lane) (f : DepLane → DepLane) : (s.modDepLane l f).freeIdx = s.freeIdx := rfl
@[simp] theorem State.modDepLane_regs (s : State) (l : Lane) (f : DepLane → DepLane) : (s.modDepLane l f).regs = s.regs := rfl
@[simp] theorem State.modDepLane_sup (s : State) (l : Lane) (f : DepLane → DepLane) : (s.modDepLane l f).sup = s.sup := rfl
@[simp] theorem State.modDepLane_laneA (s : State) (l : Lane) (f : DepLane → DepLane) : (s.modDepLane l f).laneA = s.laneA := rfl
@[simp] theorem State.modDepLane_laneB (s : State) (l : Lane) (f : DepLane → DepLane) : (s.modDepLane l f).laneB = s.laneB := rfl
@[simp] theorem State.modDepLane_modeEng (s : State) (l : Lane) (f : DepLane → DepLane) : (s.modDepLane l f).modeEng = s.modeEng := rfl
@[simp] theorem State.modDepLane_hoist (s : State) (l : Lane) (f : DepLane → DepLane) : (s.modDepLane l f).hoist = s.hoist := rfl
@[simp] theorem State.modDepLane_mux (s : State) (l : Lane) (f : DepLane → DepLane) : (s.modDepLane l f).mux = s.mux := rfl
@[simp] theorem State.modDepLane_papA (s : State) (l : Lane) (f : DepLane → DepLane) : (s.modDepLane l f).papA = s.papA := rfl
@[simp] theorem State.modDepLane_papB (s : State) (l : Lane) (f : DepLane → DepLane) : (s.modDepLane l f).papB = s.papB := rfl
@[simp] theorem State.modDepLane_storage (s : State) (l : Lane) (f : DepLane → DepLane) : (s.modDepLane l f).storage = s.storage := rfl
@[simp] theorem State.modDepLane_pending (s : State) (l : Lane) (f : DepLane → DepLane) : (s.modDepLane l f).pending = s.pending := rfl
@[simp] theorem State.advTo_now (s : State) (t : Nat) : (s.advTo t).now = max s.now t := rfl
@[simp] theorem State.advTo_fine (s : State) (t : Nat) : (s.advTo t).fine = if s.now < t then 0 else s.fine := rfl
@[simp] theorem State.advTo_freeIdx (s : State) (t : Nat) : (s.advTo t).freeIdx = s.freeIdx := rfl
@[simp] theorem State.advTo_regs (s : State) (t : Nat) : (s.advTo t).regs = s.regs := rfl
@[simp] theorem State.advTo_sup (s : State) (t : Nat) : (s.advTo t).sup = s.sup := rfl
@[simp] theorem State.advTo_laneA (s : State) (t : Nat) : (s.advTo t).laneA = s.laneA := rfl
@[simp] theorem State.advTo_laneB (s : State) (t : Nat) : (s.advTo t).laneB = s.laneB := rfl
@[simp] theorem State.advTo_dep (s : State) (t : Nat) : (s.advTo t).dep = s.dep := rfl
@[simp] theorem State.advTo_modeEng (s : State) (t : Nat) : (s.advTo t).modeEng = s.modeEng := rfl
@[simp] theorem State.advTo_hoist (s : State) (t : Nat) : (s.advTo t).hoist = s.hoist := rfl
@[simp] theorem State.advTo_mux (s : State) (t : Nat) : (s.advTo t).mux = s.mux := rfl
@[simp] theorem State.advTo_papA (s : State) (t : Nat) : (s.advTo t).papA = s.papA := rfl
@[simp] theorem State.advTo_papB (s : State) (t : Nat) : (s.advTo t).papB = s.papB := rfl
@[simp] theorem State.advTo_storage (s : State) (t : Nat) : (s.advTo t).storage = s.storage := rfl
@[simp] theorem State.advTo_pending (s : State) (t : Nat) : (s.advTo t).pending = s.pending := rfl
@[simp] theorem State.free_now (s : State) (w : Nat) : (s.free w).2.now = s.now := rfl
@[simp] theorem State.free_fine (s : State) (w : Nat) : (s.free w).2.fine = s.fine := rfl
@[simp] theorem State.free_freeIdx (s : State) (w : Nat) : (s.free w).2.freeIdx = s.freeIdx + 1 := rfl
@[simp] theorem State.free_regs (s : State) (w : Nat) : (s.free w).2.regs = s.regs := rfl
@[simp] theorem State.free_sup (s : State) (w : Nat) : (s.free w).2.sup = s.sup := rfl
@[simp] theorem State.free_laneA (s : State) (w : Nat) : (s.free w).2.laneA = s.laneA := rfl
@[simp] theorem State.free_laneB (s : State) (w : Nat) : (s.free w).2.laneB = s.laneB := rfl
@[simp] theorem State.free_dep (s : State) (w : Nat) : (s.free w).2.dep = s.dep := rfl
@[simp] theorem State.free_modeEng (s : State) (w : Nat) : (s.free w).2.modeEng = s.modeEng := rfl
@[simp] theorem State.free_hoist (s : State) (w : Nat) : (s.free w).2.hoist = s.hoist := rfl
@[simp] theorem State.free_mux (s : State) (w : Nat) : (s.free w).2.mux = s.mux := rfl
@[simp] theorem State.free_papA (s : State) (w : Nat) : (s.free w).2.papA = s.papA := rfl
@[simp] theorem State.free_papB (s : State) (w : Nat) : (s.free w).2.papB = s.papB := rfl
@[simp] theorem State.free_storage (s : State) (w : Nat) : (s.free w).2.storage = s.storage := rfl
@[simp] theorem State.free_pending (s : State) (w : Nat) : (s.free w).2.pending = s.pending := rfl
@[simp] theorem State.modDep_run (s : State) (l : Lane) (f : DepSt → DepSt) : (s.modDep f).run l = s.run l := by
  cases l <;> rfl
@[simp] theorem State.modDep_nv (s : State) (l : Lane) (f : DepSt → DepSt) : (s.modDep f).nv l = s.nv l := by
  cases l <;> rfl
@[simp] theorem State.modDep_lane (s : State) (l : Lane) (f : DepSt → DepSt) : (s.modDep f).lane l = s.lane l := by
  cases l <;> rfl
@[simp] theorem State.modDepLane_run (s : State) (l : Lane) (m : Lane) (f : DepLane → DepLane) : (s.modDepLane m f).run l = s.run l := by
  cases l <;> rfl
@[simp] theorem State.modDepLane_nv (s : State) (l : Lane) (m : Lane) (f : DepLane → DepLane) : (s.modDepLane m f).nv l = s.nv l := by
  cases l <;> rfl
@[simp] theorem State.modDepLane_lane (s : State) (l : Lane) (m : Lane) (f : DepLane → DepLane) : (s.modDepLane m f).lane l = s.lane l := by
  cases l <;> rfl
@[simp] theorem State.advTo_run (s : State) (l : Lane) (t : Nat) : (s.advTo t).run l = s.run l := by
  cases l <;> rfl
@[simp] theorem State.advTo_nv (s : State) (l : Lane) (t : Nat) : (s.advTo t).nv l = s.nv l := by
  cases l <;> rfl
@[simp] theorem State.advTo_lane (s : State) (l : Lane) (t : Nat) : (s.advTo t).lane l = s.lane l := by
  cases l <;> rfl
@[simp] theorem State.when_true (s : State) (f : State → State) : s.when true f = f s := rfl
@[simp] theorem State.when_false (s : State) (f : State → State) : s.when false f = s := rfl
@[simp] theorem State.each_nil {α : Type} (s : State) (f : State → α → State) : s.each [] f = s := rfl
@[simp] theorem State.each_cons {α : Type} (s : State) (x : α) (r : List α) (f : State → α → State) :
    s.each (x :: r) f = (f s x).each r f := rfl

end Sys2Proof.Machine
end

