-- ==== Sys2Proof/Laws/Registers.lean ====
section
/-!
SUPPORT. What reading and writing a register field can do: the field just written reads back its low bits, every other
field stands, and a field never written reads its reset value. The same for lane memory and the table windows.
-/
namespace Sys2Proof.Machine

/-- A number below `2 ^ w` is its own low bits. -/
theorem low_of_lt {w v : Nat} (h : v < 2 ^ w) : low w v = v := Nat.mod_eq_of_lt h

/-- What a field holds after it is written: the low bits of the value. -/
theorem State.rd_wr_same (s : State) (d : Die) (f : Fld) (v i j : Nat) (h : s.regsOk = true) :
    (s.wr d f v i j).rd d f i j = low f.w v := by
  unfold State.rd State.wr
  rw [sget_sput_same 0 _ _ _ 0 h, Nat.xor_assoc, Nat.xor_self, Nat.xor_zero]

/-- A field with another key is as it was. -/
theorem State.rd_wr_other (s : State) (d e : Die) (f g : Fld) (v i j i' j' : Nat) (h : s.regsOk = true)
    (hk : g.key e i' j' ≠ f.key d i j) : (s.wr d f v i j).rd e g i' j' = s.rd e g i' j' := by
  unfold State.rd State.wr
  rw [sget_sput_other 0 _ _ _ hk _ 0 h]

/-- A flag just set reads true, or false where it was cleared. -/
theorem State.on_wr_same (s : State) (d : Die) (f : Fld) (v i j : Nat) (h : s.regsOk = true) :
    (s.wr d f v i j).on d f i j = (low f.w v != 0) := by
  unfold State.on
  rw [State.rd_wr_same s d f v i j h]

/-- A flag with another key is as it was. -/
theorem State.on_wr_other (s : State) (d e : Die) (f g : Fld) (v i j i' j' : Nat) (h : s.regsOk = true)
    (hk : g.key e i' j' ≠ f.key d i j) : (s.wr d f v i j).on e g i' j' = s.on e g i' j' := by
  unfold State.on
  rw [State.rd_wr_other s d e f g v i j i' j' h hk]

/-- A write keeps the register file in canonical form. -/
@[simp] theorem State.wr_regsOk (s : State) (d : Die) (f : Fld) (v i j : Nat) (h : s.regsOk = true) :
    (s.wr d f v i j).regsOk = true := swf_sput 0 _ _ _ 0 h (Nat.zero_le _)

/-- At reset every field reads its reset value. -/
theorem State.rd_reset (d : Die) (f : Fld) (i j : Nat) : State.reset.rd d f i j = f.rstOn d := by
  unfold State.rd
  exact Nat.zero_xor _

/-- A byte just stored reads back. -/
theorem State.byte_setByte_same (s : State) (l : Lane) (a : Nat) (v : BitVec 8) (h : s.laneOk l = true) :
    (s.setByte l a v).byte l a = v := by
  unfold State.laneOk at h
  simp only [Bool.and_eq_true] at h
  unfold State.byte State.setByte
  rw [State.modRun_run]
  exact sget_sput_same _ _ _ _ 0 h.1.1.1

/-- A store leaves every other byte as it was. -/
theorem State.byte_setByte_other (s : State) (l : Lane) (a b : Nat) (v : BitVec 8) (h : s.laneOk l = true) (hb : b ≠ a) :
    (s.setByte l a v).byte l b = s.byte l b := by
  unfold State.laneOk at h
  simp only [Bool.and_eq_true] at h
  unfold State.byte State.setByte
  rw [State.modRun_run]
  exact sget_sput_other _ _ _ _ hb _ 0 h.1.1.1

/-- A store to one lane leaves the other lane's memory as it was. -/
theorem State.byte_setByte_lane (s : State) (l m : Lane) (a b : Nat) (v : BitVec 8) (h : m ≠ l) :
    (s.setByte l a v).byte m b = s.byte m b := by
  unfold State.byte State.setByte
  rw [State.modRun_run_other _ _ _ _ h]

/-- A store keeps the memory in canonical form. -/
theorem State.setByte_wf (s : State) (l : Lane) (a : Nat) (v : BitVec 8) (h : Memory.wf (s.run l).mem = true) :
    Memory.wf ((s.setByte l a v).run l).mem = true := by
  unfold State.setByte
  rw [State.modRun_run]
  exact swf_sput _ _ _ _ 0 h (Nat.zero_le _)

/-- A table word just stored reads back its low 32 bits. -/
theorem State.tableWord_setTable_same (s : State) (l : Lane) (k v : Nat) (h : s.laneOk l = true) :
    (s.setTable l k v).tableWord l k = low 32 v := by
  unfold State.laneOk at h
  simp only [Bool.and_eq_true] at h
  unfold State.tableWord State.setTable
  rw [State.modRun_run]
  exact sget_sput_same _ _ _ _ 0 h.1.1.2

/-! ## Fields of different registers -/

/-- Two fields are different ones: their numbers differ. -/
def Fld.apart (f g : Fld) : Bool := (f.base != g.base) && decide (f.base < 2 ^ 37) && decide (g.base < 2 ^ 37)

theorem Fld.key_ne {f g : Fld} (h : f.apart g = true) (d e : Die) (i j i' j' : Nat) : g.key e i' j' ≠ f.key d i j := by
  simp only [Fld.apart, Bool.and_eq_true, bne_iff_ne, ne_eq, decide_eq_true_eq] at h
  have h1 : i % 4096 < 4096 := Nat.mod_lt _ (by decide)
  have h2 : j % 4096 < 4096 := Nat.mod_lt _ (by decide)
  have h3 : i' % 4096 < 4096 := Nat.mod_lt _ (by decide)
  have h4 : j' % 4096 < 4096 := Nat.mod_lt _ (by decide)
  unfold Fld.key
  omega

/-- A field of another register, or other bits of the same one, is as it was. -/
theorem State.rd_wr_apart (s : State) (d e : Die) (f g : Fld) (v i j i' j' : Nat) (h : s.regsOk = true)
    (hk : f.apart g = true) : (s.wr d f v i j).rd e g i' j' = s.rd e g i' j' :=
  s.rd_wr_other d e f g v i j i' j' h (Fld.key_ne hk d e i j i' j')

/-- The same field of another die is as it was. -/
theorem State.rd_wr_die (s : State) (d e : Die) (f g : Fld) (v i j i' j' : Nat) (h : s.regsOk = true) (hd : d ≠ e)
    (hf : f.base < 2 ^ 37) (hg : g.base < 2 ^ 37) : (s.wr d f v i j).rd e g i' j' = s.rd e g i' j' := by
  refine s.rd_wr_other d e f g v i j i' j' h ?_
  have h1 : i % 4096 < 4096 := Nat.mod_lt _ (by decide)
  have h2 : j % 4096 < 4096 := Nat.mod_lt _ (by decide)
  have h3 : i' % 4096 < 4096 := Nat.mod_lt _ (by decide)
  have h4 : j' % 4096 < 4096 := Nat.mod_lt _ (by decide)
  have hc : d.code ≠ e.code := fun x => hd (by cases d <;> cases e <;> first | rfl | exact absurd x (by decide))
  unfold Fld.key
  omega

/-- Another instance of the same register is as it was. -/
theorem State.rd_wr_inst (s : State) (d e : Die) (f g : Fld) (v i j i' j' : Nat) (h : s.regsOk = true)
    (hi : i % 4096 ≠ i' % 4096) : (s.wr d f v i j).rd e g i' j' = s.rd e g i' j' := by
  refine s.rd_wr_other d e f g v i j i' j' h ?_
  have h2 : j % 4096 < 4096 := Nat.mod_lt _ (by decide)
  have h4 : j' % 4096 < 4096 := Nat.mod_lt _ (by decide)
  have h1 : i % 4096 < 4096 := Nat.mod_lt _ (by decide)
  have h3 : i' % 4096 < 4096 := Nat.mod_lt _ (by decide)
  unfold Fld.key
  omega

/-! ## Operations that leave the register file alone -/

theorem State.modRun_regs' (s : State) (l : Lane) (h : LaneRun → LaneRun) : (s.modRun l h).regs = s.regs := State.modRun_regs ..
@[simp] theorem State.rd_modRun (s : State) (l : Lane) (h : LaneRun → LaneRun) (d : Die) (f : Fld) (i j : Nat) :
    (s.modRun l h).rd d f i j = s.rd d f i j := by unfold State.rd; rw [State.modRun_regs']
@[simp] theorem State.on_modRun (s : State) (l : Lane) (h : LaneRun → LaneRun) (d : Die) (f : Fld) (i j : Nat) :
    (s.modRun l h).on d f i j = s.on d f i j := by unfold State.on; rw [State.rd_modRun]
@[simp] theorem State.regsOk_modRun (s : State) (l : Lane) (h : LaneRun → LaneRun) : (s.modRun l h).regsOk = s.regsOk := by
  unfold State.regsOk; rw [State.modRun_regs']
theorem State.modNv_regs' (s : State) (l : Lane) (h : LaneNv → LaneNv) : (s.modNv l h).regs = s.regs := State.modNv_regs ..
@[simp] theorem State.rd_modNv (s : State) (l : Lane) (h : LaneNv → LaneNv) (d : Die) (f : Fld) (i j : Nat) :
    (s.modNv l h).rd d f i j = s.rd d f i j := by unfold State.rd; rw [State.modNv_regs']
@[simp] theorem State.on_modNv (s : State) (l : Lane) (h : LaneNv → LaneNv) (d : Die) (f : Fld) (i j : Nat) :
    (s.modNv l h).on d f i j = s.on d f i j := by unfold State.on; rw [State.rd_modNv]
@[simp] theorem State.regsOk_modNv (s : State) (l : Lane) (h : LaneNv → LaneNv) : (s.modNv l h).regsOk = s.regsOk := by
  unfold State.regsOk; rw [State.modNv_regs']
theorem State.modDep_regs' (s : State) (h : DepSt → DepSt) : (s.modDep h).regs = s.regs := State.modDep_regs ..
@[simp] theorem State.rd_modDep (s : State) (h : DepSt → DepSt) (d : Die) (f : Fld) (i j : Nat) :
    (s.modDep h).rd d f i j = s.rd d f i j := by unfold State.rd; rw [State.modDep_regs']
@[simp] theorem State.on_modDep (s : State) (h : DepSt → DepSt) (d : Die) (f : Fld) (i j : Nat) :
    (s.modDep h).on d f i j = s.on d f i j := by unfold State.on; rw [State.rd_modDep]
@[simp] theorem State.regsOk_modDep (s : State) (h : DepSt → DepSt) : (s.modDep h).regsOk = s.regsOk := by
  unfold State.regsOk; rw [State.modDep_regs']
theorem State.modDepLane_regs' (s : State) (l : Lane) (h : DepLane → DepLane) : (s.modDepLane l h).regs = s.regs := State.modDepLane_regs ..
@[simp] theorem State.rd_modDepLane (s : State) (l : Lane) (h : DepLane → DepLane) (d : Die) (f : Fld) (i j : Nat) :
    (s.modDepLane l h).rd d f i j = s.rd d f i j := by unfold State.rd; rw [State.modDepLane_regs']
@[simp] theorem State.on_modDepLane (s : State) (l : Lane) (h : DepLane → DepLane) (d : Die) (f : Fld) (i j : Nat) :
    (s.modDepLane l h).on d f i j = s.on d f i j := by unfold State.on; rw [State.rd_modDepLane]
@[simp] theorem State.regsOk_modDepLane (s : State) (l : Lane) (h : DepLane → DepLane) : (s.modDepLane l h).regsOk = s.regsOk := by
  unfold State.regsOk; rw [State.modDepLane_regs']
theorem State.advTo_regs' (s : State) (n : Nat) : (s.advTo n).regs = s.regs := State.advTo_regs ..
@[simp] theorem State.rd_advTo (s : State) (n : Nat) (d : Die) (f : Fld) (i j : Nat) :
    (s.advTo n).rd d f i j = s.rd d f i j := by unfold State.rd; rw [State.advTo_regs']
@[simp] theorem State.on_advTo (s : State) (n : Nat) (d : Die) (f : Fld) (i j : Nat) :
    (s.advTo n).on d f i j = s.on d f i j := by unfold State.on; rw [State.rd_advTo]
@[simp] theorem State.regsOk_advTo (s : State) (n : Nat) : (s.advTo n).regsOk = s.regsOk := by
  unfold State.regsOk; rw [State.advTo_regs']
theorem State.setByte_regs' (s : State) (l : Lane) (a : Nat) (b : BitVec 8) : (s.setByte l a b).regs = s.regs := by unfold State.setByte; rw [State.modRun_regs]
@[simp] theorem State.rd_setByte (s : State) (l : Lane) (a : Nat) (b : BitVec 8) (d : Die) (f : Fld) (i j : Nat) :
    (s.setByte l a b).rd d f i j = s.rd d f i j := by unfold State.rd; rw [State.setByte_regs']
@[simp] theorem State.on_setByte (s : State) (l : Lane) (a : Nat) (b : BitVec 8) (d : Die) (f : Fld) (i j : Nat) :
    (s.setByte l a b).on d f i j = s.on d f i j := by unfold State.on; rw [State.rd_setByte]
@[simp] theorem State.regsOk_setByte (s : State) (l : Lane) (a : Nat) (b : BitVec 8) : (s.setByte l a b).regsOk = s.regsOk := by
  unfold State.regsOk; rw [State.setByte_regs']
theorem State.setTable_regs' (s : State) (l : Lane) (a b : Nat) : (s.setTable l a b).regs = s.regs := by unfold State.setTable; rw [State.modRun_regs]
@[simp] theorem State.rd_setTable (s : State) (l : Lane) (a b : Nat) (d : Die) (f : Fld) (i j : Nat) :
    (s.setTable l a b).rd d f i j = s.rd d f i j := by unfold State.rd; rw [State.setTable_regs']
@[simp] theorem State.on_setTable (s : State) (l : Lane) (a b : Nat) (d : Die) (f : Fld) (i j : Nat) :
    (s.setTable l a b).on d f i j = s.on d f i j := by unfold State.on; rw [State.rd_setTable]
@[simp] theorem State.regsOk_setTable (s : State) (l : Lane) (a b : Nat) : (s.setTable l a b).regsOk = s.regsOk := by
  unfold State.regsOk; rw [State.setTable_regs']

end Sys2Proof.Machine
end

