-- ==== Sys2Proof/Laws/Effects.lean ====
section
/-!
SUPPORT. Reading after the operations that every meaning is built of: an interrupt line touches no register, a field holds
the value just written where that fits its width, and the conditional and repeated updates unfold. In a `simp` call these
want a discharger that can evaluate closed facts, such as `first | assumption | with_unfolding_all decide | apply …`.
-/
namespace Sys2Proof.Machine

/-- The canonical register file of a canonical state. -/
theorem canonical_regs {s : State} (h : s.canonical = true) : s.regsOk = true := by
  simp only [State.canonical, Bool.and_eq_true] at h; exact h.1.1

/-- The canonical stores of a lane of a canonical state. -/
theorem canonical_lane {s : State} (h : s.canonical = true) (l : Lane) : s.laneOk l = true := by
  simp only [State.canonical, Bool.and_eq_true] at h
  cases l
  · exact h.1.2
  · exact h.2

/-- A value below 2^w fits `w` bits. -/
theorem low_eq {w v : Nat} (h : v < 2 ^ w) : low w v = v := low_of_lt h

/-- A flag fits a field of one bit or more. -/
theorem low_b2n {w : Nat} (h : 0 < w) (b : Bool) : low w (b2n b) = b2n b := by
  apply low_of_lt
  have : 2 ^ 1 ≤ 2 ^ w := Nat.pow_le_pow_right (by omega) h
  cases b <;> simp [b2n] <;> omega

/-- A saturating count fits its field. -/
theorem low_satAdd (w a n : Nat) : low w (satAdd w a n) = satAdd w a n := by
  apply low_of_lt; unfold satAdd; have := Nat.two_pow_pos w; omega

/-- A value limited to a field's largest fits the field. -/
theorem low_min (w n : Nat) : low w (min n (2 ^ w - 1)) = min n (2 ^ w - 1) := by
  apply low_of_lt; have := Nat.two_pow_pos w; omega

/-- Cutting twice is cutting once. -/
theorem low_low (w v : Nat) : low w (low w v) = low w v := by unfold low; exact Nat.mod_mod _ _

theorem b2n_ne_zero (b : Bool) : (b2n b != 0) = b := by cases b <;> rfl

theorem State.on_def (s : State) (d : Die) (f : Fld) (i j : Nat) : s.on d f i j = (s.rd d f i j != 0) := rfl

/-- An interrupt line touches no register. -/
theorem State.irqOf_regs (s : State) (l : Lane) (d : Die) (en : Fld) (i : Nat) : (s.irqOf l d en i).regs = s.regs := by
  unfold State.irqOf; split
  · exact State.modRun_regs ..
  · rfl
@[simp] theorem State.rd_irqOf (s : State) (l : Lane) (d e : Die) (en f : Fld) (i j k : Nat) :
    (s.irqOf l d en i).rd e f j k = s.rd e f j k := by unfold State.rd; rw [State.irqOf_regs]
@[simp] theorem State.rd_irq (s : State) (l : Lane) (e : Die) (en f : Fld) (i j k : Nat) :
    (s.irq l en i).rd e f j k = s.rd e f j k := State.rd_irqOf ..
@[simp] theorem State.on_irqOf (s : State) (l : Lane) (d e : Die) (en f : Fld) (i j k : Nat) :
    (s.irqOf l d en i).on e f j k = s.on e f j k := by unfold State.on; rw [State.rd_irqOf]
@[simp] theorem State.on_irq (s : State) (l : Lane) (e : Die) (en f : Fld) (i j k : Nat) :
    (s.irq l en i).on e f j k = s.on e f j k := State.on_irqOf ..
@[simp] theorem State.regsOk_irqOf (s : State) (l : Lane) (d : Die) (en : Fld) (i : Nat) :
    (s.irqOf l d en i).regsOk = s.regsOk := by unfold State.regsOk; rw [State.irqOf_regs]
@[simp] theorem State.regsOk_irq (s : State) (l : Lane) (en : Fld) (i : Nat) : (s.irq l en i).regsOk = s.regsOk :=
  State.regsOk_irqOf ..

/-- A free value touches no register. -/
@[simp] theorem State.rd_free (s : State) (w : Nat) (d : Die) (f : Fld) (i j : Nat) : (s.free w).2.rd d f i j = s.rd d f i j := rfl

/-- What a lane runs after a change of what it runs. -/
theorem State.run_modRun (s : State) (l m : Lane) (f : LaneRun → LaneRun) :
    (s.modRun l f).run m = if m = l then f (s.run l) else s.run m := by
  cases l <;> cases m <;> rfl

/-- What a lane's media hold after a change of them. -/
theorem State.nv_modNv (s : State) (l m : Lane) (f : LaneNv → LaneNv) :
    (s.modNv l f).nv m = if m = l then f (s.nv l) else s.nv m := by
  cases l <;> cases m <;> rfl

/-- An element of a table after a change of one. -/
theorem upd_get {α : Type} {n : Nat} (v : Vector α n) (i j : Fin n) (f : α → α) :
    (upd v i f)[j] = if j = i then f v[i] else v[j] := by
  unfold upd
  by_cases h : j = i
  · subst h; simp
  · have : i.val ≠ j.val := fun e => h (Fin.ext e.symm)
    simp [h, this]

/-- The same with a number as the index. -/
theorem upd_getElem {α : Type} {n : Nat} (v : Vector α n) (i : Fin n) (f : α → α) (j : Nat) (h : j < n) :
    (upd v i f)[j] = if j = i.val then f v[i.val] else v[j] := by
  have := upd_get v i ⟨j, h⟩ f
  simpa [Fin.ext_iff] using this

theorem bit_eq (v b : Nat) : bit v b = v.testBit b := by
  unfold bit; rw [Nat.testBit_eq_decide_div_mod_eq]; by_cases h : v / 2 ^ b % 2 = 1 <;> simp [h]

theorem bit_set_eq (v b c : Nat) : bit (setBit v b) c = (bit v c || b == c) := by
  rw [bit_eq, bit_eq, setBit, Nat.testBit_or, Nat.testBit_two_pow]
  congr 1
theorem bit_low {w v b : Nat} (h : b < w) : bit (low w v) b = bit v b := by
  rw [bit_eq, bit_eq, low, Nat.testBit_mod_two_pow]; simp [h]
theorem bit_clrBit_self (v b : Nat) : bit (clrBit v b) b = false := by
  unfold clrBit
  split
  · rename_i h
    rw [bit_eq] at h ⊢
    have h1 : 2 ^ b ≤ v := Nat.ge_two_pow_of_testBit h
    rw [Nat.testBit_eq_decide_div_mod_eq] at h ⊢
    have h2 : (v - 2 ^ b) / 2 ^ b = v / 2 ^ b - 1 := by
      have := Nat.sub_mul_div v (2 ^ b) 1
      simpa using this
    rw [h2]
    simp only [decide_eq_true_eq, decide_eq_false_iff_not] at *
    have : 1 ≤ v / 2 ^ b := (Nat.one_le_div_iff (Nat.two_pow_pos b)).mpr h1
    omega
  · rename_i h; simpa using h

/-- A bit just written reads back. -/
theorem State.rdBit_wrBit_same (s : State) (d : Die) (f : Fld) (b : Nat) (v : Bool) (i : Nat) (h : s.regsOk = true)
    (hb : b < f.w) : (s.wrBit d f b v i).rdBit d f b i = v := by
  unfold State.rdBit State.wrBit
  rw [State.rd_wr_same _ _ _ _ _ _ h, bit_low hb]
  cases v
  · exact bit_clrBit_self _ _
  · simp [bit_set_eq]

/-- A bit of a field depends on that field alone. -/
theorem State.rdBit_def (s : State) (d : Die) (f : Fld) (b i : Nat) : s.rdBit d f b i = bit (s.rd d f i) b := rfl

end Sys2Proof.Machine
end

