-- ==== Sys2Proof/Laws/Keeps.lean ====
section
/-!
SUPPORT. What no operation of the machine does, whatever it does: it never breaks the canonical form of a store, never
touches the queue of waiting commands, never runs the clock back, never moves a life cycle back and never takes back the
revocation of a key. `Keeps s t` says so of two states; each operation has one lemma.
-/
namespace Sys2Proof.Machine

/-- A bit that is set stays set when another is set. -/
theorem bit_setBit (v b k : Nat) (h : bit v k = true) : bit (setBit v b) k = true := by
  have e : ∀ x, bit x k = Nat.testBit x k := fun x => by
    simp only [bit, Nat.testBit_eq_decide_div_mod_eq]
    rfl
  rw [e] at h ⊢
  simp [setBit, Nat.testBit_or, h]

/-- What no change of a lane's media does: a life cycle never moves back, a revoked key stays revoked and a programmed key
stays programmed. -/
structure NvKeeps (n m : LaneNv) : Prop where
  lifecycle : n.lifecycle ≤ m.lifecycle
  revoked : ∀ k, bit n.keyRevoked k = true → bit m.keyRevoked k = true
  programmed : ∀ k, bit n.keyProg k = true → bit m.keyProg k = true
  stores : n.storesOk = true → m.storesOk = true

theorem NvKeeps.refl (n : LaneNv) : NvKeeps n n := ⟨Nat.le_refl _, fun _ h => h, fun _ h => h, id⟩

theorem NvKeeps.trans {n m k : LaneNv} (h : NvKeeps n m) (g : NvKeeps m k) : NvKeeps n k :=
  ⟨Nat.le_trans h.lifecycle g.lifecycle, fun x hx => g.revoked x (h.revoked x hx),
    fun x hx => g.programmed x (h.programmed x hx), fun x => g.stores (h.stores x)⟩

/-- Media that leave all of it alone. -/
theorem NvKeeps.of_eq {n m : LaneNv} (h1 : m.lifecycle = n.lifecycle) (h2 : m.keyRevoked = n.keyRevoked)
    (h3 : m.keyProg = n.keyProg) (h4 : m.nor = n.nor := by rfl) (h5 : m.emmc = n.emmc := by rfl) : NvKeeps n m :=
  ⟨Nat.le_of_eq h1.symm, fun k hk => by rw [h2]; exact hk, fun k hk => by rw [h3]; exact hk,
    fun h => by unfold LaneNv.storesOk at *; rw [h4, h5]; exact h⟩

/-- The stores of a lane are in canonical form. -/
def LaneRun.ok (r : LaneRun) : Prop := Memory.wf r.mem = true ∧ swf 0 0 r.tables = true ∧ swf 0 0 r.latched = true

/-- What every operation keeps. -/
structure Keeps (s t : State) : Prop where
  regs : s.regsOk = true → t.regsOk = true
  runs : ∀ l, (s.run l).ok → (t.run l).ok
  pending : t.pending = s.pending
  now : s.now ≤ t.now
  nv : ∀ l, NvKeeps (s.nv l) (t.nv l)

theorem Keeps.refl (s : State) : Keeps s s :=
  ⟨id, fun _ => id, rfl, Nat.le_refl _, fun _ => NvKeeps.refl _⟩

theorem Keeps.trans {s t u : State} (h : Keeps s t) (g : Keeps t u) : Keeps s u :=
  ⟨fun x => g.regs (h.regs x), fun l x => g.runs l (h.runs l x), g.pending.trans h.pending,
    Nat.le_trans h.now g.now, fun l => (h.nv l).trans (g.nv l)⟩

theorem Keeps.fst {α : Type} {s t : State} {a : α} (h : Keeps s t) : Keeps s (t, a).1 := h
theorem Keeps.snd {α : Type} {s t : State} {a : α} (h : Keeps s t) : Keeps s (a, t).2 := h

theorem keeps_trans {s t u : State} (h : Keeps s t) (g : Keeps t u) : Keeps s u := h.trans g

/-- `Keeps` of the state that an operation answers together with a value. -/
structure Keeps0 {α : Type} (s : State) (p : State × α) : Prop where
  h : Keeps s p.1

theorem keeps0_trans {α : Type} {s t : State} {p : State × α} (h : Keeps s t) (g : Keeps0 t p) : Keeps0 s p := ⟨h.trans g.h⟩
theorem keeps0_dite {α : Type} {s : State} {c : Prop} [Decidable c] {p : c → State × α} {q : ¬c → State × α}
    (h : ∀ x, Keeps0 s (p x)) (g : ∀ x, Keeps0 s (q x)) : Keeps0 s (if x : c then p x else q x) := by
  split
  · exact h _
  · exact g _
theorem keeps0_ite {α : Type} {s : State} {p q : State × α} {c : Prop} [Decidable c] (h : c → Keeps0 s p) (g : ¬c → Keeps0 s q) :
    Keeps0 s (if c then p else q) := by
  split
  · exact h ‹_›
  · exact g ‹_›

/-- `Keeps` of the state that an operation answers together with a value. -/
structure Keeps1 {α : Type} (s : State) (p : α × State) : Prop where
  h : Keeps s p.2

theorem keeps1_trans {α : Type} {s t : State} {p : α × State} (h : Keeps s t) (g : Keeps1 t p) : Keeps1 s p := ⟨h.trans g.h⟩
theorem keeps1_dite {α : Type} {s : State} {c : Prop} [Decidable c] {p : c → α × State} {q : ¬c → α × State}
    (h : ∀ x, Keeps1 s (p x)) (g : ∀ x, Keeps1 s (q x)) : Keeps1 s (if x : c then p x else q x) := by
  split
  · exact h _
  · exact g _
theorem keeps1_ite {α : Type} {s : State} {p q : α × State} {c : Prop} [Decidable c] (h : c → Keeps1 s p) (g : ¬c → Keeps1 s q) :
    Keeps1 s (if c then p else q) := by
  split
  · exact h ‹_›
  · exact g ‹_›

/-- `Keeps` of the state that an operation answers together with a value. -/
structure Keeps11 {α β : Type} (s : State) (p : α × β × State) : Prop where
  h : Keeps s p.2.2

theorem keeps11_trans {α β : Type} {s t : State} {p : α × β × State} (h : Keeps s t) (g : Keeps11 t p) : Keeps11 s p := ⟨h.trans g.h⟩
theorem keeps11_dite {α β : Type} {s : State} {c : Prop} [Decidable c] {p : c → α × β × State} {q : ¬c → α × β × State}
    (h : ∀ x, Keeps11 s (p x)) (g : ∀ x, Keeps11 s (q x)) : Keeps11 s (if x : c then p x else q x) := by
  split
  · exact h _
  · exact g _
theorem keeps11_ite {α β : Type} {s : State} {p q : α × β × State} {c : Prop} [Decidable c] (h : c → Keeps11 s p) (g : ¬c → Keeps11 s q) :
    Keeps11 s (if c then p else q) := by
  split
  · exact h ‹_›
  · exact g ‹_›

/-- A change that touches neither the registers nor a lane nor the clock nor the queue. -/
theorem Keeps.of_frame {s0 s t : State} (h : Keeps s0 s) (h1 : t.regs = s.regs) (h2 : t.laneA = s.laneA)
    (h3 : t.laneB = s.laneB) (h4 : t.pending = s.pending) (h5 : t.now = s.now) : Keeps s0 t := by
  apply h.trans
  refine ⟨fun x => ?_, fun l x => ?_, h4, Nat.le_of_eq h5.symm, fun l => ?_⟩
  · unfold State.regsOk at *; rw [h1]; exact x
  · cases l
    · show t.laneA.run.ok; rw [h2]; exact x
    · show t.laneB.run.ok; rw [h3]; exact x
  · cases l
    · show NvKeeps s.laneA.nv t.laneA.nv; rw [h2]; exact NvKeeps.refl _
    · show NvKeeps s.laneB.nv t.laneB.nv; rw [h3]; exact NvKeeps.refl _

theorem Keeps.canonical {s t : State} (h : Keeps s t) (hs : s.canonical = true) : t.canonical = true := by
  simp only [State.canonical, State.laneOk, Bool.and_eq_true] at hs ⊢
  obtain ⟨⟨hr, ⟨⟨a1, a2⟩, a3⟩, a4⟩, ⟨⟨b1, b2⟩, b3⟩, b4⟩ := hs
  obtain ⟨c1, c2, c3⟩ := h.runs .a ⟨a1, a2, a3⟩
  obtain ⟨d1, d2, d3⟩ := h.runs .b ⟨b1, b2, b3⟩
  exact ⟨⟨h.regs hr, ⟨⟨c1, c2⟩, c3⟩, (h.nv .a).stores a4⟩, ⟨⟨d1, d2⟩, d3⟩, (h.nv .b).stores b4⟩

theorem keeps_wr {s0 s : State} (d : Die) (f : Fld) (v i j : Nat) (h : Keeps s0 s) : Keeps s0 (s.wr d f v i j) :=
  h.trans ⟨fun x => State.wr_regsOk s d f v i j x, fun l x => by rw [State.wr_run]; exact x, rfl, Nat.le_refl _,
    fun l => by rw [State.wr_nv]; exact NvKeeps.refl _⟩
theorem keeps_set {s0 s : State} (d : Die) (f : Fld) (i j : Nat) (h : Keeps s0 s) : Keeps s0 (s.set d f i j) := keeps_wr d f 1 i j h
theorem keeps_clr {s0 s : State} (d : Die) (f : Fld) (i j : Nat) (h : Keeps s0 s) : Keeps s0 (s.clr d f i j) := keeps_wr d f 0 i j h
theorem keeps_put {s0 s : State} (d : Die) (f : Fld) (b : Bool) (i j : Nat) (h : Keeps s0 s) : Keeps s0 (s.put d f b i j) :=
  keeps_wr d f _ i j h
theorem keeps_inc {s0 s : State} (d : Die) (f : Fld) (i j n : Nat) (h : Keeps s0 s) : Keeps s0 (s.inc d f i j n) :=
  keeps_wr d f _ i j h
theorem keeps_wrS {s0 s : State} (d : Die) (f : Fld) (x : Int) (i j : Nat) (h : Keeps s0 s) : Keeps s0 (s.wrS d f x i j) :=
  keeps_wr d f _ i j h
theorem keeps_wrSat {s0 s : State} (d : Die) (f : Fld) (n i j : Nat) (h : Keeps s0 s) : Keeps s0 (s.wrSat d f n i j) :=
  keeps_wr d f _ i j h
theorem keeps_wrBit {s0 s : State} (d : Die) (f : Fld) (b : Nat) (v : Bool) (i : Nat) (h : Keeps s0 s) :
    Keeps s0 (s.wrBit d f b v i) := keeps_wr d f _ i 0 h

theorem keeps_when {s0 s : State} (c : Bool) (f : State → State) (h : Keeps s0 s) (hf : ∀ t, Keeps t (f t)) :
    Keeps s0 (s.when c f) := by
  unfold State.when
  split
  · exact h.trans (hf s)
  · exact h

theorem keeps_each {α : Type} {s0 s : State} (l : List α) (f : State → α → State) (h : Keeps s0 s)
    (hf : ∀ t x, Keeps t (f t x)) : Keeps s0 (s.each l f) := by
  unfold State.each
  induction l generalizing s with
  | nil => exact h
  | cons x r ih => exact ih (h.trans (hf s x))

theorem keeps_foldl {α : Type} {s0 s : State} (l : List α) (f : State → α → State) (h : Keeps s0 s)
    (hf : ∀ t x, Keeps t (f t x)) : Keeps s0 (l.foldl f s) := keeps_each l f h hf

theorem keeps_ite {s0 s t : State} {c : Prop} [Decidable c] (h : c → Keeps s0 s) (g : ¬c → Keeps s0 t) :
    Keeps s0 (if c then s else t) := by
  split
  · exact h ‹_›
  · exact g ‹_›

theorem keeps_dite {s : State} {c : Prop} [Decidable c] {p : c → State} {q : ¬c → State}
    (h : ∀ x, Keeps s (p x)) (g : ∀ x, Keeps s (q x)) : Keeps s (if x : c then p x else q x) := by
  split
  · exact h _
  · exact g _

theorem keeps_modRun {s0 s : State} (l : Lane) (f : LaneRun → LaneRun) (h : Keeps s0 s) (hf : ∀ r, r.ok → (f r).ok) :
    Keeps s0 (s.modRun l f) := by
  refine h.trans ⟨fun x => ?_, fun m x => ?_, State.modRun_pending .., Nat.le_of_eq (State.modRun_now ..).symm, fun m => ?_⟩
  · unfold State.regsOk at *; rw [State.modRun_regs]; exact x
  · cases l <;> cases m <;> first | exact hf _ x | exact x
  · rw [State.modRun_nv]; exact NvKeeps.refl _

theorem keeps_modNv {s0 s : State} (l : Lane) (f : LaneNv → LaneNv) (h : Keeps s0 s) (hf : NvKeeps (s.nv l) (f (s.nv l))) :
    Keeps s0 (s.modNv l f) := by
  refine h.trans ⟨fun x => ?_, fun m x => ?_, State.modNv_pending .., Nat.le_of_eq (State.modNv_now ..).symm, fun m => ?_⟩
  · unfold State.regsOk at *; rw [State.modNv_regs]; exact x
  · rw [State.modNv_run]; exact x
  · cases l <;> cases m <;> first | exact hf | exact NvKeeps.refl _

theorem keeps_modDep {s0 s : State} (f : DepSt → DepSt) (h : Keeps s0 s) : Keeps s0 (s.modDep f) :=
  h.of_frame rfl rfl rfl rfl rfl
theorem keeps_modDepLane {s0 s : State} (l : Lane) (f : DepLane → DepLane) (h : Keeps s0 s) : Keeps s0 (s.modDepLane l f) :=
  h.of_frame rfl rfl rfl rfl rfl
theorem keeps_advTo {s0 s : State} (t : Nat) (h : Keeps s0 s) : Keeps s0 (s.advTo t) :=
  h.trans ⟨id, fun l x => by rw [State.advTo_run]; exact x, rfl, Nat.le_max_left .., fun l => by
    rw [State.advTo_nv]; exact NvKeeps.refl _⟩
theorem keeps1_free {s0 s : State} (w : Nat) (h : Keeps s0 s) : Keeps1 s0 (s.free w) :=
  ⟨h.of_frame rfl rfl rfl rfl rfl⟩
theorem keeps_latch {s0 s : State} (l : Lane) (a v : Nat) (h : Keeps s0 s) :
    Keeps s0 (s.modRun l fun r => { r with latched := sput 0 a v r.latched }) :=
  keeps_modRun l _ h fun _ hr => ⟨hr.1, hr.2.1, swf_sput _ _ _ _ 0 hr.2.2 (Nat.zero_le _)⟩

/-- Dropping entries keeps the canonical form. -/
theorem swf_filter {α : Type} [DecidableEq α] (d : α) (p : Nat × α → Bool) :
    ∀ (l : List (Nat × α)) (lo : Nat), swf d lo l = true → swf d lo (l.filter p) = true
  | [], _, _ => rfl
  | (k, v) :: r, lo, h => by
    simp only [swf, Bool.and_eq_true, decide_eq_true_eq] at h
    have ih := swf_filter d p r (k + 1) h.2
    unfold List.filter
    split
    · simp only [swf, Bool.and_eq_true, decide_eq_true_eq]
      exact ⟨h.1, ih⟩
    · exact swf_lower d _ _ _ ih (by omega)

theorem keeps_filter {s0 s : State} (p : Nat × Nat → Bool) (h : Keeps s0 s) :
    Keeps s0 { s with regs := s.regs.filter p } :=
  h.trans ⟨fun x => swf_filter 0 p _ 0 x, fun l x => by cases l <;> exact x, rfl, Nat.le_refl _, fun l => by
    cases l <;> exact NvKeeps.refl _⟩

theorem keeps_setByte {s0 s : State} (l : Lane) (a : Nat) (v : BitVec 8) (h : Keeps s0 s) : Keeps s0 (s.setByte l a v) :=
  keeps_modRun l _ h fun r hr => ⟨swf_sput _ _ _ _ 0 hr.1 (Nat.zero_le _), hr.2.1, hr.2.2⟩
theorem keeps_setTable {s0 s : State} (l : Lane) (k v : Nat) (h : Keeps s0 s) : Keeps s0 (s.setTable l k v) :=
  keeps_modRun l _ h fun r hr => ⟨hr.1, swf_sput _ _ _ _ 0 hr.2.1 (Nat.zero_le _), hr.2.2⟩
theorem keeps_setBytes {s0 : State} (l : Lane) : ∀ (b : List Nat) (a : Nat) (s : State) (_ : Keeps s0 s), Keeps s0 (s.setBytes l a b)
  | [], _, _, h => h
  | v :: r, a, _, h => keeps_setBytes l r (a + 1) _ (keeps_setByte l a (BitVec.ofNat 8 v) h)

/-- What a meaning keeps: every next state it answers is one that the state before keeps. -/
def KeepsOut (s : State) (o : Out) : Prop := ∀ t, o = .next t → Keeps s t

theorem keepsOut_next {s t : State} (h : Keeps s t) : KeepsOut s (.next t) := fun u hu => by
  cases hu
  exact h
theorem keepsOut_ite {s : State} {a b : Out} {c : Prop} [Decidable c] (h : c → KeepsOut s a) (g : ¬c → KeepsOut s b) :
    KeepsOut s (if c then a else b) := by
  split
  · exact h ‹_›
  · exact g ‹_›

end Sys2Proof.Machine
end

