-- ==== Sys2Proof/Laws/Within.lean ====
section
/-!
SUPPORT. What an operation can change. Blocks of registers and parts of the machine are numbered by the bits of a mask:
bits 0 to 31 are the register blocks (bits [20:16] of a lane address), bit 32 the lane memories, 33 the lane tables, 34
the lanes' media, 35 the hoist heads, 36 the PWM map, 37 the power-and-analog dies, 38 the Deputy, 39 the mode engine, 40
the supplies, 41 the storage switch, 42 the counter of free values, 43 the clock. `Within m s t` says that from `s` to `t`
nothing changed outside `m`; each operation has one lemma that names its mask.
-/
namespace Sys2Proof.Machine

/-- The register block of a key. -/
def blkOf (k : Nat) : Nat := k / 2 ^ 45 % 32

/-- The field lies in a block of the mask. -/
def Fld.inM (f : Fld) (m : Nat) : Bool := Nat.testBit m (f.addr / 65536 % 32) && decide (f.lo < 32)

/-- Nothing changed outside the mask. -/
structure Within (m : Nat) (s t : State) : Prop where
  ok : s.regsOk = true → t.regsOk = true
  regs : s.regsOk = true → ∀ k, Nat.testBit m (blkOf k) = false → sget 0 k t.regs = sget 0 k s.regs
  mem : Nat.testBit m 32 = false → ∀ l, (t.run l).mem = (s.run l).mem
  tables : Nat.testBit m 33 = false → ∀ l, (t.run l).tables = (s.run l).tables
  nv : Nat.testBit m 34 = false → ∀ l, t.nv l = s.nv l
  hoist : Nat.testBit m 35 = false → t.hoist = s.hoist
  mux : Nat.testBit m 36 = false → t.mux = s.mux
  pap : Nat.testBit m 37 = false → t.papA = s.papA ∧ t.papB = s.papB
  dep : Nat.testBit m 38 = false → t.dep = s.dep
  modeEng : Nat.testBit m 39 = false → t.modeEng = s.modeEng
  sup : Nat.testBit m 40 = false → t.sup = s.sup
  storage : Nat.testBit m 41 = false → t.storage = s.storage
  freeIdx : Nat.testBit m 42 = false → t.freeIdx = s.freeIdx
  now : Nat.testBit m 43 = false → t.now = s.now ∧ t.fine = s.fine

variable {m : Nat}

theorem Within.refl (s : State) : Within m s s :=
  ⟨id, fun _ _ _ => rfl, fun _ _ => rfl, fun _ _ => rfl, fun _ _ => rfl, fun _ => rfl, fun _ => rfl, fun _ => ⟨rfl, rfl⟩,
    fun _ => rfl, fun _ => rfl, fun _ => rfl, fun _ => rfl, fun _ => rfl, fun _ => ⟨rfl, rfl⟩⟩

theorem Within.trans {s t u : State} (h : Within m s t) (g : Within m t u) : Within m s u where
  ok x := g.ok (h.ok x)
  regs x k hk := (g.regs (h.ok x) k hk).trans (h.regs x k hk)
  mem b l := (g.mem b l).trans (h.mem b l)
  tables b l := (g.tables b l).trans (h.tables b l)
  nv b l := (g.nv b l).trans (h.nv b l)
  hoist b := (g.hoist b).trans (h.hoist b)
  mux b := (g.mux b).trans (h.mux b)
  pap b := ⟨(g.pap b).1.trans (h.pap b).1, (g.pap b).2.trans (h.pap b).2⟩
  dep b := (g.dep b).trans (h.dep b)
  modeEng b := (g.modeEng b).trans (h.modeEng b)
  sup b := (g.sup b).trans (h.sup b)
  storage b := (g.storage b).trans (h.storage b)
  freeIdx b := (g.freeIdx b).trans (h.freeIdx b)
  now b := ⟨(g.now b).1.trans (h.now b).1, (g.now b).2.trans (h.now b).2⟩

theorem within_trans {s t u : State} (h : Within m s t) (g : Within m t u) : Within m s u := h.trans g

/-! ## Masks -/

theorem bsub {c b : Nat} (h : Nat.testBit c b = true) (hm : c &&& m = c) : Nat.testBit m b = true := by
  have : Nat.testBit (c &&& m) b = true := by rw [hm]; exact h
  rw [Nat.testBit_and] at this
  simp_all

theorem msub {a c : Nat} (h : a &&& c = a) (hm : c &&& m = c) : a &&& m = a := by
  rw [← h, Nat.and_assoc, hm]

theorem fsub {f : Fld} {c : Nat} (h : f.inM c = true) (hm : c &&& m = c) : f.inM m = true := by
  simp only [Fld.inM, Bool.and_eq_true] at h ⊢
  exact ⟨bsub h.1 hm, h.2⟩

/-- A key of a field lies in the field's block. -/
theorem blkOf_key (f : Fld) (d : Die) (i j : Nat) (h : f.inM m = true) : Nat.testBit m (blkOf (f.key d i j)) = true := by
  simp only [Fld.inM, Bool.and_eq_true, decide_eq_true_eq] at h
  have e : blkOf (f.key d i j) = f.addr / 65536 % 32 := by
    have h1 : i % 4096 < 4096 := Nat.mod_lt _ (by decide)
    have h2 : j % 4096 < 4096 := Nat.mod_lt _ (by decide)
    unfold blkOf Fld.key Fld.base
    omega
  rw [e]
  exact h.1

/-! ## The register writes -/

theorem within_wr {s0 s : State} (d : Die) (f : Fld) (v i j : Nat) (hf : f.inM m = true) (h : Within m s0 s) :
    Within m s0 (s.wr d f v i j) :=
  h.trans
    { ok := fun x => State.wr_regsOk s d f v i j x
      regs := fun x k hk => by
        have hne : k ≠ f.key d i j := fun e => by
          rw [e, blkOf_key f d i j hf] at hk
          exact Bool.noConfusion hk
        exact sget_sput_other 0 _ _ _ hne _ 0 x
      mem := fun _ l => by rw [State.wr_run]
      tables := fun _ l => by rw [State.wr_run]
      nv := fun _ l => by rw [State.wr_nv]
      hoist := fun _ => rfl, mux := fun _ => rfl, pap := fun _ => ⟨rfl, rfl⟩, dep := fun _ => rfl
      modeEng := fun _ => rfl, sup := fun _ => rfl, storage := fun _ => rfl, freeIdx := fun _ => rfl, now := fun _ => ⟨rfl, rfl⟩ }
theorem within_set {s0 s : State} (d : Die) (f : Fld) (i j : Nat) (hf : f.inM m = true) (h : Within m s0 s) :
    Within m s0 (s.set d f i j) := within_wr d f 1 i j hf h
theorem within_clr {s0 s : State} (d : Die) (f : Fld) (i j : Nat) (hf : f.inM m = true) (h : Within m s0 s) :
    Within m s0 (s.clr d f i j) := within_wr d f 0 i j hf h
theorem within_put {s0 s : State} (d : Die) (f : Fld) (b : Bool) (i j : Nat) (hf : f.inM m = true) (h : Within m s0 s) :
    Within m s0 (s.put d f b i j) := within_wr d f _ i j hf h
theorem within_inc {s0 s : State} (d : Die) (f : Fld) (i j n : Nat) (hf : f.inM m = true) (h : Within m s0 s) :
    Within m s0 (s.inc d f i j n) := within_wr d f _ i j hf h
theorem within_wrS {s0 s : State} (d : Die) (f : Fld) (x : Int) (i j : Nat) (hf : f.inM m = true) (h : Within m s0 s) :
    Within m s0 (s.wrS d f x i j) := within_wr d f _ i j hf h
theorem within_wrSat {s0 s : State} (d : Die) (f : Fld) (n i j : Nat) (hf : f.inM m = true) (h : Within m s0 s) :
    Within m s0 (s.wrSat d f n i j) := within_wr d f _ i j hf h
theorem within_wrBit {s0 s : State} (d : Die) (f : Fld) (b : Nat) (v : Bool) (i : Nat) (hf : f.inM m = true)
    (h : Within m s0 s) : Within m s0 (s.wrBit d f b v i) := within_wr d f _ i 0 hf h

theorem reg_bits (hm : 4294967295 &&& m = 4294967295) (k : Nat) : Nat.testBit m (blkOf k) = true := by
  have hlt : blkOf k < 32 := Nat.mod_lt _ (by decide)
  generalize blkOf k = b at hlt ⊢
  refine bsub (c := 4294967295) ?_ hm
  interval_cases b <;> rfl

/-- A register write in a mask that has every block. -/
theorem within_wrAny {s0 s : State} (d : Die) (f : Fld) (v i j : Nat) (hm : 4294967295 &&& m = 4294967295)
    (h : Within m s0 s) : Within m s0 (s.wr d f v i j) :=
  h.trans
    { ok := fun x => State.wr_regsOk s d f v i j x
      regs := fun _ k hk => by
        rw [reg_bits hm k] at hk
        exact Bool.noConfusion hk
      mem := fun _ l => by rw [State.wr_run]
      tables := fun _ l => by rw [State.wr_run]
      nv := fun _ l => by rw [State.wr_nv]
      hoist := fun _ => rfl, mux := fun _ => rfl, pap := fun _ => ⟨rfl, rfl⟩, dep := fun _ => rfl
      modeEng := fun _ => rfl, sup := fun _ => rfl, storage := fun _ => rfl, freeIdx := fun _ => rfl, now := fun _ => ⟨rfl, rfl⟩ }

/-- Register entries dropped, in a mask that has every block. -/
theorem within_filter {s0 s : State} (p : Nat × Nat → Bool) (hm : 4294967295 &&& m = 4294967295) (h : Within m s0 s) :
    Within m s0 { s with regs := s.regs.filter p } :=
  h.trans
    { ok := fun x => swf_filter 0 p _ 0 x
      regs := fun _ k hk => by
        rw [reg_bits hm k] at hk
        exact Bool.noConfusion hk
      mem := fun _ l => by cases l <;> rfl
      tables := fun _ l => by cases l <;> rfl
      nv := fun _ l => by cases l <;> rfl
      hoist := fun _ => rfl, mux := fun _ => rfl, pap := fun _ => ⟨rfl, rfl⟩, dep := fun _ => rfl
      modeEng := fun _ => rfl, sup := fun _ => rfl, storage := fun _ => rfl, freeIdx := fun _ => rfl, now := fun _ => ⟨rfl, rfl⟩ }

/-! ## Control -/

theorem within_when {s0 s : State} (c : Bool) (f : State → State) (h : Within m s0 s) (hf : ∀ t, Within m t (f t)) :
    Within m s0 (s.when c f) := by
  unfold State.when
  split
  · exact h.trans (hf s)
  · exact h

theorem within_each {α : Type} {s0 s : State} (l : List α) (f : State → α → State) (h : Within m s0 s)
    (hf : ∀ t x, Within m t (f t x)) : Within m s0 (s.each l f) := by
  unfold State.each
  induction l generalizing s with
  | nil => exact h
  | cons x r ih => exact ih (h.trans (hf s x))

theorem within_foldl {α : Type} {s0 s : State} (l : List α) (f : State → α → State) (h : Within m s0 s)
    (hf : ∀ t x, Within m t (f t x)) : Within m s0 (l.foldl f s) := within_each l f h hf

theorem within_ite {s0 s t : State} {c : Prop} [Decidable c] (h : c → Within m s0 s) (g : ¬c → Within m s0 t) :
    Within m s0 (if c then s else t) := by
  split
  · exact h ‹_›
  · exact g ‹_›

theorem within_dite {s : State} {c : Prop} [Decidable c] {p : c → State} {q : ¬c → State}
    (h : ∀ x, Within m s (p x)) (g : ∀ x, Within m s (q x)) : Within m s (if x : c then p x else q x) := by
  split
  · exact h _
  · exact g _

/-! ## Operations that answer a value as well -/

theorem Within.fst {α : Type} {s t : State} {a : α} (h : Within m s t) : Within m s (t, a).1 := h
theorem Within.snd {α : Type} {s t : State} {a : α} (h : Within m s t) : Within m s (a, t).2 := h

/-- `Within` of the state that an operation answers together with a value. -/
structure Within0 {α : Type} (m : Nat) (s : State) (p : State × α) : Prop where
  h : Within m s p.1

/-- `Within` of the state that an operation answers together with a value. -/
structure Within1 {α : Type} (m : Nat) (s : State) (p : α × State) : Prop where
  h : Within m s p.2

/-- `Within` of the state that an operation answers together with two values. -/
structure Within11 {α β : Type} (m : Nat) (s : State) (p : α × β × State) : Prop where
  h : Within m s p.2.2

theorem within0_trans {α : Type} {s t : State} {p : State × α} (h : Within m s t) (g : Within0 m t p) : Within0 m s p :=
  ⟨h.trans g.h⟩
theorem within1_trans {α : Type} {s t : State} {p : α × State} (h : Within m s t) (g : Within1 m t p) : Within1 m s p :=
  ⟨h.trans g.h⟩
theorem within11_trans {α β : Type} {s t : State} {p : α × β × State} (h : Within m s t) (g : Within11 m t p) :
    Within11 m s p := ⟨h.trans g.h⟩

theorem within0_ite {α : Type} {s : State} {p q : State × α} {c : Prop} [Decidable c] (h : c → Within0 m s p)
    (g : ¬c → Within0 m s q) : Within0 m s (if c then p else q) := by
  split
  · exact h ‹_›
  · exact g ‹_›
theorem within1_ite {α : Type} {s : State} {p q : α × State} {c : Prop} [Decidable c] (h : c → Within1 m s p)
    (g : ¬c → Within1 m s q) : Within1 m s (if c then p else q) := by
  split
  · exact h ‹_›
  · exact g ‹_›
theorem within11_ite {α β : Type} {s : State} {p q : α × β × State} {c : Prop} [Decidable c] (h : c → Within11 m s p)
    (g : ¬c → Within11 m s q) : Within11 m s (if c then p else q) := by
  split
  · exact h ‹_›
  · exact g ‹_›
theorem within1_dite {α : Type} {s : State} {c : Prop} [Decidable c] {p : c → α × State} {q : ¬c → α × State}
    (h : ∀ x, Within1 m s (p x)) (g : ∀ x, Within1 m s (q x)) : Within1 m s (if x : c then p x else q x) := by
  split
  · exact h _
  · exact g _
theorem within11_dite {α β : Type} {s : State} {c : Prop} [Decidable c] {p : c → α × β × State} {q : ¬c → α × β × State}
    (h : ∀ x, Within11 m s (p x)) (g : ∀ x, Within11 m s (q x)) : Within11 m s (if x : c then p x else q x) := by
  split
  · exact h _
  · exact g _

/-! ## The parts of the machine -/

/-- Parts of the machine replaced, the registers and the lanes standing. -/
theorem Within.of_frame {s0 s t : State} (h : Within m s0 s) (h1 : t.regs = s.regs) (h2 : t.laneA = s.laneA)
    (h3 : t.laneB = s.laneB) (a1 : Nat.testBit m 35 = true ∨ t.hoist = s.hoist) (a2 : Nat.testBit m 36 = true ∨ t.mux = s.mux)
    (a3 : Nat.testBit m 37 = true ∨ (t.papA = s.papA ∧ t.papB = s.papB)) (a4 : Nat.testBit m 38 = true ∨ t.dep = s.dep)
    (a5 : Nat.testBit m 39 = true ∨ t.modeEng = s.modeEng) (a6 : Nat.testBit m 40 = true ∨ t.sup = s.sup)
    (a7 : Nat.testBit m 41 = true ∨ t.storage = s.storage) (a8 : Nat.testBit m 42 = true ∨ t.freeIdx = s.freeIdx)
    (a9 : Nat.testBit m 43 = true ∨ (t.now = s.now ∧ t.fine = s.fine)) : Within m s0 t := by
  have hl : ∀ l, t.lane l = s.lane l := fun l => by
    cases l
    · exact h2
    · exact h3
  have go : ∀ {b : Nat} {p : Prop}, (Nat.testBit m b = true ∨ p) → Nat.testBit m b = false → p := fun a b => by
    rcases a with a | a
    · rw [a] at b; exact Bool.noConfusion b
    · exact a
  exact h.trans
    { ok := fun x => by unfold State.regsOk at *; rw [h1]; exact x
      regs := fun _ k _ => by rw [h1]
      mem := fun _ l => by unfold State.run; rw [hl]
      tables := fun _ l => by unfold State.run; rw [hl]
      nv := fun _ l => by unfold State.nv; rw [hl]
      hoist := go a1, mux := go a2, pap := go a3, dep := go a4, modeEng := go a5, sup := go a6, storage := go a7
      freeIdx := go a8, now := go a9 }

theorem within_modRun {s0 s : State} (l : Lane) (f : LaneRun → LaneRun) (h : Within m s0 s)
    (hf : ∀ r, (f r).mem = r.mem ∧ (f r).tables = r.tables) : Within m s0 (s.modRun l f) :=
  h.trans
    { ok := fun x => by unfold State.regsOk at *; rw [State.modRun_regs]; exact x
      regs := fun _ k _ => by rw [State.modRun_regs]
      mem := fun _ k => by cases l <;> cases k <;> first | exact (hf _).1 | rfl
      tables := fun _ k => by cases l <;> cases k <;> first | exact (hf _).2 | rfl
      nv := fun _ k => by rw [State.modRun_nv]
      hoist := fun _ => State.modRun_hoist .., mux := fun _ => State.modRun_mux ..
      pap := fun _ => ⟨State.modRun_papA .., State.modRun_papB ..⟩, dep := fun _ => State.modRun_dep ..
      modeEng := fun _ => State.modRun_modeEng .., sup := fun _ => State.modRun_sup ..
      storage := fun _ => State.modRun_storage .., freeIdx := fun _ => State.modRun_freeIdx ..
      now := fun _ => ⟨State.modRun_now .., State.modRun_fine ..⟩ }

/-- A change of a lane that may touch its memory and its tables. -/
theorem within_modRunMem {s0 s : State} (l : Lane) (f : LaneRun → LaneRun) (hm : 12884901888 &&& m = 12884901888)
    (h : Within m s0 s) : Within m s0 (s.modRun l f) := by
  have b32 : Nat.testBit m 32 = true := bsub (c := 12884901888) rfl hm
  have b33 : Nat.testBit m 33 = true := bsub (c := 12884901888) rfl hm
  exact h.trans
    { ok := fun x => by unfold State.regsOk at *; rw [State.modRun_regs]; exact x
      regs := fun _ k _ => by rw [State.modRun_regs]
      mem := fun b => by rw [b32] at b; exact Bool.noConfusion b
      tables := fun b => by rw [b33] at b; exact Bool.noConfusion b
      nv := fun _ k => by rw [State.modRun_nv]
      hoist := fun _ => State.modRun_hoist .., mux := fun _ => State.modRun_mux ..
      pap := fun _ => ⟨State.modRun_papA .., State.modRun_papB ..⟩, dep := fun _ => State.modRun_dep ..
      modeEng := fun _ => State.modRun_modeEng .., sup := fun _ => State.modRun_sup ..
      storage := fun _ => State.modRun_storage .., freeIdx := fun _ => State.modRun_freeIdx ..
      now := fun _ => ⟨State.modRun_now .., State.modRun_fine ..⟩ }

theorem within_setTable {s0 s : State} (l : Lane) (k v : Nat) (hm : 8589934592 &&& m = 8589934592) (h : Within m s0 s) :
    Within m s0 (s.setTable l k v) := by
  have b33 : Nat.testBit m 33 = true := bsub (c := 8589934592) rfl hm
  exact h.trans
    { ok := fun x => by unfold State.setTable State.regsOk at *; rw [State.modRun_regs]; exact x
      regs := fun _ k _ => by unfold State.setTable; rw [State.modRun_regs]
      mem := fun _ j => by cases l <;> cases j <;> rfl
      tables := fun b => by rw [b33] at b; exact Bool.noConfusion b
      nv := fun _ k => by unfold State.setTable; rw [State.modRun_nv]
      hoist := fun _ => State.modRun_hoist .., mux := fun _ => State.modRun_mux ..
      pap := fun _ => ⟨State.modRun_papA .., State.modRun_papB ..⟩, dep := fun _ => State.modRun_dep ..
      modeEng := fun _ => State.modRun_modeEng .., sup := fun _ => State.modRun_sup ..
      storage := fun _ => State.modRun_storage .., freeIdx := fun _ => State.modRun_freeIdx ..
      now := fun _ => ⟨State.modRun_now .., State.modRun_fine ..⟩ }

theorem within_setByte {s0 s : State} (l : Lane) (a : Nat) (v : BitVec 8) (hm : 4294967296 &&& m = 4294967296)
    (h : Within m s0 s) : Within m s0 (s.setByte l a v) := by
  have b32 : Nat.testBit m 32 = true := bsub (c := 4294967296) rfl hm
  exact h.trans
    { ok := fun x => by unfold State.setByte State.regsOk at *; rw [State.modRun_regs]; exact x
      regs := fun _ k _ => by unfold State.setByte; rw [State.modRun_regs]
      mem := fun b => by rw [b32] at b; exact Bool.noConfusion b
      tables := fun _ j => by cases l <;> cases j <;> rfl
      nv := fun _ k => by unfold State.setByte; rw [State.modRun_nv]
      hoist := fun _ => State.modRun_hoist .., mux := fun _ => State.modRun_mux ..
      pap := fun _ => ⟨State.modRun_papA .., State.modRun_papB ..⟩, dep := fun _ => State.modRun_dep ..
      modeEng := fun _ => State.modRun_modeEng .., sup := fun _ => State.modRun_sup ..
      storage := fun _ => State.modRun_storage .., freeIdx := fun _ => State.modRun_freeIdx ..
      now := fun _ => ⟨State.modRun_now .., State.modRun_fine ..⟩ }

theorem within_setBytes {s0 s : State} (l : Lane) (a : Nat) (b : List Nat) (hm : 4294967296 &&& m = 4294967296)
    (h : Within m s0 s) : Within m s0 (s.setBytes l a b) := by
  induction b generalizing s a with
  | nil => exact h
  | cons v r ih => exact ih _ (within_setByte _ _ _ hm h)

theorem within_modNv {s0 s : State} (l : Lane) (f : LaneNv → LaneNv) (hm : 17179869184 &&& m = 17179869184)
    (h : Within m s0 s) : Within m s0 (s.modNv l f) := by
  have b34 : Nat.testBit m 34 = true := bsub (c := 17179869184) rfl hm
  exact h.trans
    { ok := fun x => by unfold State.regsOk at *; rw [State.modNv_regs]; exact x
      regs := fun _ k _ => by rw [State.modNv_regs]
      mem := fun _ k => by rw [State.modNv_run]
      tables := fun _ k => by rw [State.modNv_run]
      nv := fun b => by rw [b34] at b; exact Bool.noConfusion b
      hoist := fun _ => State.modNv_hoist .., mux := fun _ => State.modNv_mux ..
      pap := fun _ => ⟨State.modNv_papA .., State.modNv_papB ..⟩, dep := fun _ => State.modNv_dep ..
      modeEng := fun _ => State.modNv_modeEng .., sup := fun _ => State.modNv_sup ..
      storage := fun _ => State.modNv_storage .., freeIdx := fun _ => State.modNv_freeIdx ..
      now := fun _ => ⟨State.modNv_now .., State.modNv_fine ..⟩ }

theorem within_modDep {s0 s : State} (f : DepSt → DepSt) (hm : 274877906944 &&& m = 274877906944) (h : Within m s0 s) :
    Within m s0 (s.modDep f) :=
  h.of_frame rfl rfl rfl (.inr rfl) (.inr rfl) (.inr ⟨rfl, rfl⟩) (.inl (bsub rfl hm)) (.inr rfl) (.inr rfl) (.inr rfl)
    (.inr rfl) (.inr ⟨rfl, rfl⟩)
theorem within_modDepLane {s0 s : State} (l : Lane) (f : DepLane → DepLane) (hm : 274877906944 &&& m = 274877906944)
    (h : Within m s0 s) : Within m s0 (s.modDepLane l f) := within_modDep _ hm h
theorem within_advTo {s0 s : State} (t : Nat) (hm : 8796093022208 &&& m = 8796093022208) (h : Within m s0 s) :
    Within m s0 (s.advTo t) :=
  h.of_frame rfl rfl rfl (.inr rfl) (.inr rfl) (.inr ⟨rfl, rfl⟩) (.inr rfl) (.inr rfl) (.inr rfl) (.inr rfl) (.inr rfl)
    (.inl (bsub rfl hm))
theorem within1_free {s0 s : State} (w : Nat) (hm : 4398046511104 &&& m = 4398046511104) (h : Within m s0 s) :
    Within1 m s0 (s.free w) :=
  ⟨h.of_frame rfl rfl rfl (.inr rfl) (.inr rfl) (.inr ⟨rfl, rfl⟩) (.inr rfl) (.inr rfl) (.inr rfl) (.inr rfl)
    (.inl (bsub rfl hm)) (.inr ⟨rfl, rfl⟩)⟩

/-- The mask of everything. -/
theorem within_full {s t : State} (hm : 17592186044415 &&& m = 17592186044415) (h : s.regsOk = true → t.regsOk = true) :
    Within m s t := by
  have go : ∀ b, b < 44 → Nat.testBit m b = true := fun b hb => by
    refine bsub (c := 17592186044415) ?_ hm
    interval_cases b <;> rfl
  have no : ∀ b, b < 44 → ∀ {p : Prop}, Nat.testBit m b = false → p := fun b hb {p} h => by
    rw [go b hb] at h
    exact Bool.noConfusion h
  exact
    { ok := h
      regs := fun _ k hk => no _ (Nat.lt_of_lt_of_le (Nat.mod_lt _ (by decide)) (by decide)) hk
      mem := no _ (by decide), tables := no _ (by decide), nv := no _ (by decide), hoist := no _ (by decide)
      mux := no _ (by decide), pap := no _ (by decide), dep := no _ (by decide), modeEng := no _ (by decide)
      sup := no _ (by decide), storage := no _ (by decide), freeIdx := no _ (by decide), now := no _ (by decide) }

/-- What a meaning can change. -/
def WithinOut (m : Nat) (s : State) (o : Out) : Prop := ∀ t, o = .next t → Within m s t

theorem withinOut_next {s t : State} (h : Within m s t) : WithinOut m s (.next t) := fun u hu => by
  cases hu
  exact h
theorem withinOut_ite {s : State} {a b : Out} {c : Prop} [Decidable c] (h : c → WithinOut m s a) (g : ¬c → WithinOut m s b) :
    WithinOut m s (if c then a else b) := by
  split
  · exact h ‹_›
  · exact g ‹_›

/-- A register field outside the mask reads as before. -/
theorem Within.rd {s t : State} (h : Within m s t) (hs : s.regsOk = true) (d : Die) (f : Fld) (i j : Nat)
    (hf : f.inM (4294967295 - m % 4294967296) = true) : t.rd d f i j = s.rd d f i j := by
  have hk : Nat.testBit m (blkOf (f.key d i j)) = false := by
    have h1 := blkOf_key f d i j hf
    have hlt : blkOf (f.key d i j) < 32 := Nat.mod_lt _ (by decide)
    generalize blkOf (f.key d i j) = b at h1 hlt ⊢
    have e : (4294967295 - m % 4294967296) = 2 ^ 32 - (m % 2 ^ 32 + 1) := by omega
    rw [e, Nat.testBit_two_pow_sub_succ (Nat.mod_lt _ (by decide)), Nat.testBit_mod_two_pow] at h1
    simp only [hlt, decide_true, Bool.true_and, Bool.not_eq_true'] at h1
    exact h1
  unfold State.rd
  rw [h.regs hs _ hk]

end Sys2Proof.Machine
end

