-- ==== Sys2Proof/Laws/Frames.lean ====
section
/-!
SUPPORT. The frame of a command from the mask of its meaning.
-/
namespace Sys2Proof.Machine

/-- Every block that a list does not name is outside the mask. -/
def coversBlocks (m : Nat) (bs : List Nat) : Bool :=
  (List.range 24).all fun b => !Nat.testBit m b || bs.contains (0x4000 + b)

/-- The bit of a part in a mask. -/
def Part.maskBit : Part → Nat
  | .memory => 32 | .tables => 33 | .media => 34 | .heads => 35 | .pwmMap => 36 | .dies => 37 | .deputy => 38
  | .modeEngine => 39 | .supplies => 40 | .storage => 41 | .clock => 43

/-- Every part that a list does not name is outside the mask. -/
def coversParts (m : Nat) (ps : List Part) : Bool :=
  [Part.memory, .tables, .media, .heads, .pwmMap, .dies, .deputy, .modeEngine, .supplies, .storage, .clock].all fun p =>
    !Nat.testBit m p.maskBit || ps.contains p

/-- The frame of a command whose meaning keeps what `Keeps` says and stays within a mask. -/
theorem frame_of (m : Nat) (bs : List Nat) (ps : List Part) (c : Instr) (hk : ∀ s, KeepsOut s (exec c s))
    (hw : ∀ s, WithinOut m s (exec c s)) (hb : coversBlocks m bs = true) (hp : coversParts m ps = true) :
    Frame bs ps c := by
  intro s t hs ht
  have hr : s.regsOk = true := by
    simp only [State.canonical, Bool.and_eq_true] at hs
    exact hs.1.1
  have w := hw s t ht
  refine ⟨fun d f i j hf hn => ?_, fun p hn => ?_, (hk s t ht).pending⟩
  · simp only [Fld.inMap, Bool.and_eq_true, decide_eq_true_eq] at hf
    simp only [coversBlocks, List.all_eq_true, List.mem_range, Bool.or_eq_true, Bool.not_eq_true', List.contains_eq_mem,
      decide_eq_true_eq] at hb
    have e : blkOf (f.key d i j) = f.addr / 65536 - 0x4000 := by
      have h1 : i % 4096 < 4096 := Nat.mod_lt _ (by decide)
      have h2 : j % 4096 < 4096 := Nat.mod_lt _ (by decide)
      unfold blkOf Fld.key Fld.base
      omega
    have hlt : f.addr / 65536 - 0x4000 < 24 := by omega
    have hm : Nat.testBit m (f.addr / 65536 - 0x4000) = false := by
      rcases hb _ hlt with h | h
      · exact h
      · have e2 : 0x4000 + (f.addr / 65536 - 0x4000) = f.addr / 65536 := by omega
        rw [e2] at h
        exact absurd h hn
    unfold State.rd
    rw [w.regs hr _ (by rw [e]; exact hm)]
  · have hm : Nat.testBit m p.maskBit = false := by
      simp only [coversParts, List.all_cons, List.all_nil, Bool.and_eq_true, Bool.and_true, Bool.or_eq_true,
        Bool.not_eq_true', List.contains_eq_mem, decide_eq_true_eq] at hp
      obtain ⟨h1, h2, h3, h4, h5, h6, h7, h8, h9, h10, h11⟩ := hp
      cases p <;> first
        | exact h1.resolve_right hn | exact h2.resolve_right hn | exact h3.resolve_right hn | exact h4.resolve_right hn
        | exact h5.resolve_right hn | exact h6.resolve_right hn | exact h7.resolve_right hn | exact h8.resolve_right hn
        | exact h9.resolve_right hn | exact h10.resolve_right hn | exact h11.resolve_right hn
    cases p
    · exact fun l a => by unfold State.byte; rw [w.mem hm l]
    · exact fun l k => by unfold State.tableWord; rw [w.tables hm l]
    · exact w.nv hm
    · exact w.hoist hm
    · exact w.mux hm
    · exact w.pap hm
    · exact w.dep hm
    · exact w.modeEng hm
    · exact w.sup hm
    · exact w.storage hm
    · exact w.now hm

end Sys2Proof.Machine
end

