-- ==== Sys2Proof/Laws/KeepsOps.lean ====
section
/-!
SUPPORT. The operations of Machine/Ops.lean keep what `Keeps` says (Laws/Keeps.lean).
-/
namespace Sys2Proof.Machine

theorem State.advSteps_keeps {s00 : State} (s : State) (x : Int) (h0 : Keeps s00 s) : Keeps s00 (s.advSteps x) := by
  unfold State.advSteps
  split
  · rename_i h
    refine h0.trans ⟨id, fun l hl => by cases l <;> exact hl, rfl, ?_, fun l => by cases l <;> exact NvKeeps.refl _⟩
    unfold State.steps at h
    show s.now ≤ (x / 1024).toNat
    omega
  · exact h0

theorem State.quot_keeps {s00 : State} (s : State) (num den : Int) (h0 : Keeps s00 s) :
    Keeps1 s00 (State.quot s num den) := by
  refine keeps1_trans h0 ?_
  unfold State.quot
  lift_lets -useContext -merge -underBinder
  intro x0
  have hx0 : Keeps1 s x0 := (keeps1_free _ (Keeps.refl _))
  clear_value x0
  refine keeps1_ite (fun _ => ?_) (fun _ => ?_)
  · exact ⟨Keeps.snd (Keeps.refl _)⟩
  · exact ⟨Keeps.snd hx0.h⟩

theorem State.roundQ_keeps {s00 : State} (s : State) (num den : Int) (h0 : Keeps s00 s) :
    Keeps1 s00 (State.roundQ s num den) := by
  refine keeps1_trans h0 ?_
  unfold State.roundQ
  lift_lets -useContext -merge -underBinder
  intro x0
  have hx0 : Keeps1 s x0 := (keeps1_free _ (Keeps.refl _))
  clear_value x0
  refine keeps1_ite (fun _ => ?_) (fun _ => ?_)
  · exact ⟨Keeps.snd hx0.h⟩
  · exact ⟨Keeps.snd (Keeps.refl _)⟩

theorem State.fit_keeps {s00 : State} (s : State) (w : Nat) (x : Int) (h0 : Keeps s00 s) :
    Keeps1 s00 (State.fit s w x) := by
  refine keeps1_trans h0 ?_
  unfold State.fit
  lift_lets -useContext -merge -underBinder
  intro x0
  have hx0 : Keeps1 s x0 := (keeps1_free _ (Keeps.refl _))
  clear_value x0
  refine keeps1_ite (fun _ => ?_) (fun _ => ?_)
  · exact ⟨Keeps.snd (Keeps.refl _)⟩
  · exact ⟨Keeps.snd hx0.h⟩

theorem State.irqOf_keeps {s00 : State} (s : State) (l : Lane) (d : Die) (en : Fld) (i : Nat) (h0 : Keeps s00 s) :
    Keeps s00 (State.irqOf s l d en i) := by
  refine keeps_trans h0 ?_
  unfold State.irqOf
  refine keeps_ite (fun _ => ?_) (fun _ => ?_)
  · exact (keeps_modRun _ _ (Keeps.refl _) fun _ hr => hr)
  · exact (Keeps.refl _)

theorem State.irq_keeps {s00 : State} (s : State) (l : Lane) (en : Fld) (i : Nat) (h0 : Keeps s00 s) :
    Keeps s00 (State.irq s l en i) := by
  refine keeps_trans h0 ?_
  unfold State.irq
  exact (State.irqOf_keeps _ _ _ _ _ (Keeps.refl _))

theorem State.accessError_keeps {s00 : State} (s : State) (l : Lane) (who : Initiator) (addr : Nat) (write : Bool) (r : Reason) (h0 : Keeps s00 s) :
    Keeps s00 (State.accessError s l who addr write r) := by
  refine keeps_trans h0 ?_
  unfold State.accessError
  lift_lets -useContext -merge -underBinder
  intro x0
  exact (keeps_inc _ _ _ _ _ (keeps_wr _ _ _ _ _ (keeps_put _ _ _ _ _ (keeps_wr _ _ _ _ _ (keeps_wr _ _ _ _ _ (Keeps.refl _))))))

theorem State.setBytes_keeps {s00 : State} (s : State) (l : Lane) (a : Nat) (b : List Nat) (h0 : Keeps s00 s) :
    Keeps s00 (s.setBytes l a b) := keeps_setBytes l b a s h0


end Sys2Proof.Machine
end

