-- ==== Sys2Proof/Laws/KeepsEvents.lean ====
section
/-!
SUPPORT. The operations of Machine/Events.lean keep what `Keeps` says (Laws/Keeps.lean).
-/
namespace Sys2Proof.Machine

theorem State.modAdc_keeps {s00 : State} (s : State) (l : Lane) (f : AdcSt → AdcSt) (h0 : Keeps s00 s) :
    Keeps s00 (State.modAdc s l f) := by
  refine keeps_trans h0 ?_
  unfold State.modAdc
  exact (keeps_modRun _ _ (Keeps.refl _) fun _ hr => hr)

theorem State.modGrp_keeps {s00 : State} (s : State) (l : Lane) (g : Fin 12) (f : AdcGroup → AdcGroup) (h0 : Keeps s00 s) :
    Keeps s00 (State.modGrp s l g f) := by
  refine keeps_trans h0 ?_
  unfold State.modGrp
  exact (State.modAdc_keeps _ _ _ (Keeps.refl _))

theorem State.modCe_keeps {s00 : State} (s : State) (l : Lane) (f : CeSt → CeSt) (h0 : Keeps s00 s) :
    Keeps s00 (State.modCe s l f) := by
  refine keeps_trans h0 ?_
  unfold State.modCe
  exact (keeps_modRun _ _ (Keeps.refl _) fun _ hr => hr)

theorem State.modArith_keeps {s00 : State} (s : State) (l : Lane) (i : Fin 24) (f : ArithSt → ArithSt) (h0 : Keeps s00 s) :
    Keeps s00 (State.modArith s l i f) := by
  refine keeps_trans h0 ?_
  unfold State.modArith
  exact (State.modCe_keeps _ _ _ (Keeps.refl _))

theorem State.modPwm_keeps {s00 : State} (s : State) (l : Lane) (f : PwmSt → PwmSt) (h0 : Keeps s00 s) :
    Keeps s00 (State.modPwm s l f) := by
  refine keeps_trans h0 ?_
  unfold State.modPwm
  exact (keeps_modRun _ _ (Keeps.refl _) fun _ hr => hr)

theorem State.modTb_keeps {s00 : State} (s : State) (l : Lane) (t : Fin 8) (f : PwmTb → PwmTb) (h0 : Keeps s00 s) :
    Keeps s00 (State.modTb s l t f) := by
  refine keeps_trans h0 ?_
  unfold State.modTb
  exact (State.modPwm_keeps _ _ _ (Keeps.refl _))

theorem State.trcSend_keeps {s00 : State} (s : State) (l : Lane) (b : Fin 8) (h0 : Keeps s00 s) :
    Keeps s00 (State.trcSend s l b) := by
  refine keeps_trans h0 ?_
  unfold State.trcSend
  lift_lets -useContext -merge -underBinder
  intro x0
  try clear_value x0
  refine keeps_ite (fun _ => ?_) (fun _ => ?_)
  · exact (State.modCe_keeps _ _ _ (Keeps.refl _))
  · exact (Keeps.refl _)

theorem State.event_keeps {s00 : State} (s : State) (l : Lane) (e : Event) (h0 : Keeps s00 s) :
    Keeps s00 (State.event s l e) := by
  refine keeps_trans h0 ?_
  unfold State.event
  lift_lets -useContext -merge -underBinder
  intro x0 x1
  have hx1 : Keeps s x1 := (keeps_each _ _ (Keeps.refl _) (fun _ _ => (keeps_when _ _ (Keeps.refl _) (fun _ => (State.modGrp_keeps _ _ _ _ (Keeps.refl _))))))
  clear_value x1
  intro x5
  have hx5 : Keeps s x5 := (keeps_each _ _ hx1 (fun _ _ => (keeps_when _ _ (Keeps.refl _) (fun _ => (State.modArith_keeps _ _ _ _ (Keeps.refl _))))))
  clear_value x5
  intro x9
  have hx9 : Keeps s x9 := (keeps_each _ _ hx5 (fun _ _ => (keeps_when _ _ (Keeps.refl _) (fun _ => (State.modTb_keeps _ _ _ _ (Keeps.refl _))))))
  clear_value x9
  refine keeps_ite (fun _ => ?_) (fun _ => ?_)
  · exact (keeps_each _ _ hx9 (fun _ _ => (keeps_when _ _ (Keeps.refl _) (fun _ => (State.trcSend_keeps _ _ _ (Keeps.refl _))))))
  · exact (Keeps.refl _)


end Sys2Proof.Machine
end

