-- ==== Sys2Proof/Laws/KeepsTallyOps.lean ====
section
/-!
SUPPORT. The operations of Machine/TallyOps.lean keep what `Keeps` says (Laws/Keeps.lean).
-/
namespace Sys2Proof.Machine

theorem State.modTal_keeps {s00 : State} (s : State) (l : Lane) (f : Tally → Tally) (h0 : Keeps s00 s) :
    Keeps s00 (State.modTal s l f) := by
  refine keeps_trans h0 ?_
  unfold State.modTal
  exact (keeps_modRun _ _ (Keeps.refl _) fun _ hr => hr)

theorem State.submit_keeps {s00 : State} (s : State) (l : Lane) (who : Initiator) (q size dl : Nat) (job : Job) (extra16 : Nat) (h0 : Keeps s00 s) :
    Keeps1 s00 (State.submit s l who q size dl job extra16) := by
  refine keeps1_trans h0 ?_
  unfold State.submit
  lift_lets -useContext -merge -underBinder
  intro x0
  split
  · exact ⟨Keeps.snd (keeps_inc _ _ _ _ _ (Keeps.refl _))⟩
  · exact ⟨Keeps.snd (keeps_inc _ _ _ _ _ (Keeps.refl _))⟩
  · lift_lets -useContext -merge -underBinder
    intro x1
    try clear_value x1
    intro x2
    try clear_value x2
    intro x3
    try clear_value x3
    intro x4
    try clear_value x4
    intro x5
    try clear_value x5
    intro x6
    try clear_value x6
    exact ⟨Keeps.snd (State.modTal_keeps _ _ _ (Keeps.refl _))⟩

theorem State.post_keeps {s00 : State} (s : State) (l : Lane) (e : TalEntry) (code : OutcomeCode) (h0 : Keeps s00 s) :
    Keeps s00 (State.post s l e code) := by
  refine keeps_trans h0 ?_
  unfold State.post
  lift_lets -useContext -merge -underBinder
  intro x0 x1
  try clear_value x1
  intro x2
  try clear_value x2
  intro x3
  try clear_value x3
  intro x4
  try clear_value x4
  intro x5
  try clear_value x5
  intro x6
  try clear_value x6
  intro x7
  try clear_value x7
  intro x8
  try clear_value x8
  intro x9
  try clear_value x9
  intro x10
  try clear_value x10
  intro x11
  try clear_value x11
  intro x12
  have hx12 : Keeps s x12 := (State.modTal_keeps _ _ _ (Keeps.refl _))
  clear_value x12
  intro x13
  have hx13 : Keeps s x13 := (keeps_when _ _ hx12 (fun _ => (keeps_wr _ _ _ _ _ (Keeps.refl _))))
  clear_value x13
  intro x15
  have hx15 : Keeps s x15 := (keeps_ite (fun _ => (keeps_inc _ _ _ _ _ hx13)) (fun _ => (keeps_inc _ _ _ _ _ hx13)))
  clear_value x15
  intro x16
  have hx16 : Keeps s x16 := (keeps_when _ _ hx15 (fun _ => (keeps_set _ _ _ _ (Keeps.refl _))))
  clear_value x16
  exact (keeps_when _ _ hx16 (fun _ => (State.irq_keeps _ _ _ _ (Keeps.refl _))))

theorem State.setEnt_keeps {s00 : State} (s : State) (l : Lane) (id : Nat) (f : TalEntry → TalEntry) (h0 : Keeps s00 s) :
    Keeps s00 (State.setEnt s l id f) := by
  refine keeps_trans h0 ?_
  unfold State.setEnt
  exact (State.modTal_keeps _ _ _ (Keeps.refl _))

theorem State.log_keeps {s00 : State} (s : State) (l : Lane) (rule detail : Nat) (h0 : Keeps s00 s) :
    Keeps s00 (State.log s l rule detail) := by
  refine keeps_trans h0 ?_
  unfold State.log
  refine keeps_ite (fun _ => ?_) (fun _ => ?_)
  · exact (State.submit_keeps _ _ _ _ _ _ _ _ (Keeps.refl _)).h
  · exact (Keeps.refl _)

theorem State.logIf_keeps {s00 : State} (s : State) (l : Lane) (en : Fld) (rule detail : Nat) (i : Nat) (h0 : Keeps s00 s) :
    Keeps s00 (State.logIf s l en rule detail i) := by
  refine keeps_trans h0 ?_
  unfold State.logIf
  exact (keeps_when _ _ (Keeps.refl _) (fun _ => (State.log_keeps _ _ _ _ (Keeps.refl _))))

theorem State.talPop_keeps {s00 : State} (s : State) (l : Lane) (h0 : Keeps s00 s) :
    Keeps s00 (State.talPop s l) := by
  refine keeps_trans h0 ?_
  unfold State.talPop
  split
  · exact (keeps_modRun _ _ (Keeps.refl _) fun _ hr => hr)
  · exact (keeps_modRun _ _ (keeps_wr _ _ _ _ _ (State.modTal_keeps _ _ _ (Keeps.refl _))) fun _ hr => hr)

theorem State.modTim_keeps {s00 : State} (s : State) (l : Lane) (n : Fin 8) (f : Timer → Timer) (h0 : Keeps s00 s) :
    Keeps s00 (State.modTim s l n f) := by
  refine keeps_trans h0 ?_
  unfold State.modTim
  exact (keeps_modRun _ _ (Keeps.refl _) fun _ hr => hr)

theorem State.timLoad_keeps {s00 : State} (s : State) (l : Lane) (n : Fin 8) (t : Nat) (h0 : Keeps s00 s) :
    Keeps s00 (State.timLoad s l n t) := by
  refine keeps_trans h0 ?_
  unfold State.timLoad
  exact (State.modTim_keeps _ _ _ _ (Keeps.refl _))

theorem State.timEnable_keeps {s00 : State} (s : State) (l : Lane) (n : Fin 8) (h0 : Keeps s00 s) :
    Keeps s00 (State.timEnable s l n) := by
  refine keeps_trans h0 ?_
  unfold State.timEnable
  lift_lets -useContext -merge -underBinder
  intro x0
  refine keeps_ite (fun _ => ?_) (fun _ => ?_)
  · refine keeps_ite (fun _ => ?_) (fun _ => ?_)
    · exact (State.modTim_keeps _ _ _ _ (Keeps.refl _))
    · exact (State.timLoad_keeps _ _ _ _ (Keeps.refl _))
  · exact (State.modTim_keeps _ _ _ _ (keeps_wr _ _ _ _ _ (Keeps.refl _)))

theorem State.timBoundary_keeps {s00 : State} (s : State) (l : Lane) (h0 : Keeps s00 s) :
    Keeps s00 (State.timBoundary s l) := by
  refine keeps_trans h0 ?_
  unfold State.timBoundary
  exact (keeps_each _ _ (Keeps.refl _) (fun _ _ => (keeps_when _ _ (Keeps.refl _) (fun _ => (State.timLoad_keeps _ _ _ _ (Keeps.refl _))))))

theorem State.timExpire_keeps {s00 : State} (s : State) (l : Lane) (n : Fin 8) (h0 : Keeps s00 s) :
    Keeps s00 (State.timExpire s l n) := by
  refine keeps_trans h0 ?_
  unfold State.timExpire
  lift_lets -useContext -merge -underBinder
  intro x0
  split
  · exact (Keeps.refl _)
  · lift_lets -useContext -merge -underBinder
    intro x1
    have hx1 : Keeps s x1 := (keeps_advTo _ (Keeps.refl _))
    clear_value x1
    intro x2
    have hx2 : Keeps s x2 := (keeps_set _ _ _ _ (keeps_when _ _ hx1 (fun _ => (keeps_set _ _ _ _ (Keeps.refl _)))))
    clear_value x2
    intro x4
    have hx4 : Keeps s x4 := (keeps_when _ _ (State.event_keeps _ _ _ (State.irq_keeps _ _ _ _ hx2)) (fun _ => (State.event_keeps _ _ _ (Keeps.refl _))))
    clear_value x4
    refine keeps_ite (fun _ => ?_) (fun _ => ?_)
    · exact (State.timLoad_keeps _ _ _ _ hx4)
    · exact (keeps_wr _ _ _ _ _ (State.modTim_keeps _ _ _ _ hx4))


end Sys2Proof.Machine
end

