-- ==== Sys2Proof/Laws/KeepsLinkOps.lean ====
section
/-!
SUPPORT. The operations of Machine/LinkOps.lean keep what `Keeps` says (Laws/Keeps.lean).
-/
namespace Sys2Proof.Machine

theorem State.modLink_keeps {s00 : State} (s : State) (n : Fin 40) (f : HoistLink → HoistLink) (h0 : Keeps s00 s) :
    Keeps s00 (State.modLink s n f) := by
  refine keeps_trans h0 ?_
  unfold State.modLink
  lift_lets -useContext -merge -underBinder
  intro x0
  try clear_value x0
  exact (Keeps.of_frame (Keeps.refl _) rfl rfl rfl rfl rfl)

theorem State.setDown_keeps {s00 : State} (s : State) (n : Fin 40) (on : Bool) (h0 : Keeps s00 s) :
    Keeps s00 (State.setDown s n on) := by
  refine keeps_trans h0 ?_
  unfold State.setDown
  exact (State.modLink_keeps _ _ _ (Keeps.refl _))

theorem State.hoistWant_keeps {s00 : State} (s : State) (n : Fin 40) (on : Bool) (t : Int) (h0 : Keeps s00 s) :
    Keeps s00 (State.hoistWant s n on t) := by
  refine keeps_trans h0 ?_
  unfold State.hoistWant
  lift_lets -useContext -merge -underBinder
  intro x0
  have hx0 : Keeps s x0 := (State.modLink_keeps _ _ _ (Keeps.refl _))
  clear_value x0
  refine keeps_ite (fun _ => ?_) (fun _ => ?_)
  · refine keeps_ite (fun _ => ?_) (fun _ => ?_)
    · exact (Keeps.refl _)
    · refine keeps_ite (fun _ => ?_) (fun _ => ?_)
      · exact hx0
      · split
        · exact (State.setDown_keeps _ _ _ hx0)
        · refine keeps_ite (fun _ => ?_) (fun _ => ?_)
          · exact (State.setDown_keeps _ _ _ hx0)
          · exact hx0
  · exact (State.setDown_keeps _ _ _ (State.modLink_keeps _ _ _ (Keeps.refl _)))

theorem State.hoistCmd_keeps {s00 : State} (s : State) (n : Fin 40) (on : Bool) (t : Int) (h0 : Keeps s00 s) :
    Keeps s00 (State.hoistCmd s n on t) := by
  refine keeps_trans h0 ?_
  unfold State.hoistCmd
  lift_lets -useContext -merge -underBinder
  intro x0
  have hx0 : Keeps s x0 := (State.modLink_keeps _ _ _ (Keeps.refl _))
  clear_value x0
  refine keeps_ite (fun _ => ?_) (fun _ => ?_)
  · exact (State.hoistWant_keeps _ _ _ _ hx0)
  · exact hx0

theorem State.groupDrive_keeps {s00 : State} (s : State) (g : Nat) (asc : Bool) (h0 : Keeps s00 s) :
    Keeps s00 (State.groupDrive s g asc) := by
  refine keeps_trans h0 ?_
  unfold State.groupDrive
  lift_lets -useContext -merge -underBinder
  intro x0
  try clear_value x0
  intro x1
  have hx1 : Keeps s x1 := (keeps_each _ _ (Keeps.refl _) (fun _ _ => (State.hoistWant_keeps _ _ _ _ (Keeps.refl _))))
  clear_value x1
  exact (keeps_each _ _ hx1 (fun _ _ => (State.hoistWant_keeps _ _ _ _ (Keeps.refl _))))

theorem State.groupSafe_keeps {s00 : State} (s : State) (g : Nat) (h0 : Keeps s00 s) :
    Keeps s00 (State.groupSafe s g) := by
  refine keeps_trans h0 ?_
  unfold State.groupSafe
  exact (State.groupDrive_keeps _ _ _ (Keeps.refl _))

theorem State.groupRest_keeps {s00 : State} (s : State) (g : Nat) (h0 : Keeps s00 s) :
    Keeps s00 (State.groupRest s g) := by
  refine keeps_trans h0 ?_
  unfold State.groupRest
  lift_lets -useContext -merge -underBinder
  intro x0
  try clear_value x0
  intro x1
  have hx1 : Keeps s x1 := (keeps_each _ _ (Keeps.refl _) (fun _ _ => (keeps_ite (fun _ => (State.modLink_keeps _ _ _ (Keeps.refl _))) (fun _ => (Keeps.refl _)))))
  clear_value x1
  exact (State.groupSafe_keeps _ _ hx1)

theorem State.groupApply_keeps {s00 : State} (s : State) (g : Nat) (h0 : Keeps s00 s) :
    Keeps s00 (State.groupApply s g) := by
  refine keeps_trans h0 ?_
  unfold State.groupApply
  refine keeps_ite (fun _ => ?_) (fun _ => ?_)
  · exact (State.groupSafe_keeps _ _ (Keeps.refl _))
  · refine keeps_ite (fun _ => ?_) (fun _ => ?_)
    · exact (State.groupDrive_keeps _ _ _ (Keeps.refl _))
    · refine keeps_ite (fun _ => ?_) (fun _ => ?_)
      · exact (State.groupDrive_keeps _ _ _ (Keeps.refl _))
      · exact (keeps_each _ _ (Keeps.refl _) (fun _ _ => (keeps_ite (fun _ => (State.hoistWant_keeps _ _ _ _ (Keeps.refl _))) (fun _ => (Keeps.refl _)))))


end Sys2Proof.Machine
end

