-- ==== Sys2Proof/Laws/KeepsDeputyOps.lean ====
section
/-!
SUPPORT. The operations of Machine/DeputyOps.lean keep what `Keeps` says (Laws/Keeps.lean).
-/
namespace Sys2Proof.Machine

theorem State.modPap_keeps {s00 : State} (s : State) (l : Lane) (f : PapSt → PapSt) (h0 : Keeps s00 s) :
    Keeps s00 (State.modPap s l f) := by
  refine keeps_trans h0 ?_
  unfold State.modPap
  split
  · exact (Keeps.of_frame (Keeps.refl _) rfl rfl rfl rfl rfl)
  · exact (Keeps.of_frame (Keeps.refl _) rfl rfl rfl rfl rfl)

theorem State.setRole_keeps {s00 : State} (s : State) (l : Lane) (r : Nat) (h0 : Keeps s00 s) :
    Keeps s00 (State.setRole s l r) := by
  refine keeps_trans h0 ?_
  unfold State.setRole
  lift_lets -useContext -merge -underBinder
  intro x0
  try clear_value x0
  intro x1
  have hx1 : Keeps s x1 := (keeps_put _ _ _ _ _ (keeps_wr _ _ _ _ _ (Keeps.refl _)))
  clear_value x1
  exact (keeps_when _ _ hx1 (fun _ => (keeps_put _ _ _ _ _ (Keeps.refl _))))

theorem State.modSup_keeps {s00 : State} (s : State) (l : Lane) (f : SupSt → SupSt) (h0 : Keeps s00 s) :
    Keeps s00 (State.modSup s l f) := by
  refine keeps_trans h0 ?_
  unfold State.modSup
  exact (keeps_modRun _ _ (Keeps.refl _) fun _ hr => hr)

theorem State.syncMaster_keeps {s00 : State} (s : State) (h0 : Keeps s00 s) :
    Keeps s00 (State.syncMaster s) := by
  refine keeps_trans h0 ?_
  unfold State.syncMaster
  exact (keeps_each _ _ (Keeps.refl _) (fun y0 y1 => (by
    lift_lets -useContext -merge -underBinder
    intro x2
    try clear_value x2
    exact (keeps_when _ _ (keeps_put _ _ _ _ _ (Keeps.refl _)) (fun _ => (State.modSup_keeps _ _ _ (Keeps.refl _))))
)))

theorem State.syncElig_keeps {s00 : State} (s : State) (h0 : Keeps s00 s) :
    Keeps s00 (State.syncElig s) := by
  refine keeps_trans h0 ?_
  unfold State.syncElig
  exact (keeps_each _ _ (Keeps.refl _) (fun _ _ => (keeps_put _ _ _ _ _ (keeps_put _ _ _ _ _ (Keeps.refl _)))))

theorem State.pwmUngrant_keeps {s00 : State} (s : State) (l : Lane) (h0 : Keeps s00 s) :
    Keeps s00 (State.pwmUngrant s l) := by
  refine keeps_trans h0 ?_
  unfold State.pwmUngrant
  exact (keeps_each _ _ (keeps_clr _ _ _ _ (keeps_clr _ _ _ _ (keeps_clr _ _ _ _ (Keeps.refl _)))) (fun _ _ => (keeps_clr _ _ _ _ (Keeps.refl _))))

theorem State.muxDrives_keeps {s00 : State} (s : State) (h0 : Keeps s00 s) :
    Keeps s00 (State.muxDrives s) := by
  refine keeps_trans h0 ?_
  unfold State.muxDrives
  lift_lets -useContext -merge -underBinder
  intro x0
  try clear_value x0
  exact (Keeps.of_frame (Keeps.refl _) rfl rfl rfl rfl rfl)

theorem State.removeGrant_keeps {s00 : State} (s : State) (l : Lane) (h0 : Keeps s00 s) :
    Keeps s00 (State.removeGrant s l) := by
  refine keeps_trans h0 ?_
  unfold State.removeGrant
  lift_lets -useContext -merge -underBinder
  intro x0
  have hx0 : Keeps s x0 := (keeps_inc _ _ _ _ _ (keeps_wr _ _ _ _ _ (Keeps.refl _)))
  clear_value x0
  intro x1
  have hx1 : Keeps s x1 := (keeps_clr _ _ _ _ (keeps_wr _ _ _ _ _ hx0))
  clear_value x1
  intro x2
  have hx2 : Keeps s x2 := (keeps_modDep _ hx1)
  clear_value x2
  intro x3
  have hx3 : Keeps s x3 := (keeps_modRun _ _ (State.muxDrives_keeps _ (State.pwmUngrant_keeps _ _ (keeps_clr _ _ _ _ (keeps_clr _ _ _ _ hx2)))) fun _ hr => hr)
  clear_value x3
  intro x4
  have hx4 : Keeps s x4 := (State.event_keeps _ _ _ hx3)
  clear_value x4
  intro x5
  have hx5 : Keeps s x5 := (keeps_ite (fun _ => (State.setRole_keeps _ _ _ hx4)) (fun _ => hx4))
  clear_value x5
  refine keeps_ite (fun _ => ?_) (fun _ => ?_)
  · exact (State.syncMaster_keeps _ hx5)
  · exact (Keeps.refl _)

theorem State.giveGrant_keeps {s00 : State} (s : State) (l : Lane) (h0 : Keeps s00 s) :
    Keeps s00 (State.giveGrant s l) := by
  refine keeps_trans h0 ?_
  unfold State.giveGrant
  lift_lets -useContext -merge -underBinder
  intro x0
  try clear_value x0
  intro x1
  try clear_value x1
  intro x2
  try clear_value x2
  intro x3
  have hx3 : Keeps s x3 := (keeps_each _ _ (Keeps.refl _) (fun _ _ => (keeps_modRun _ _ (Keeps.refl _) fun _ hr => hr)))
  clear_value x3
  intro x6
  have hx6 : Keeps s x6 := (keeps_inc _ _ _ _ _ (keeps_wr _ _ _ _ _ hx3))
  clear_value x6
  intro x7
  have hx7 : Keeps s x7 := (keeps_ite (fun _ => (keeps_modDep _ (keeps_wr _ _ _ _ _ (keeps_wrSat _ _ _ _ _ hx6)))) (fun _ => hx6))
  clear_value x7
  intro x8
  have hx8 : Keeps s x8 := (keeps_modDepLane _ _ hx7)
  clear_value x8
  intro x9
  have hx9 : Keeps s x9 := (State.setRole_keeps _ _ _ (keeps_set _ _ _ _ (keeps_set _ _ _ _ hx8)))
  clear_value x9
  intro x10
  have hx10 : Keeps s x10 := (keeps_modRun _ _ hx9 fun _ hr => hr)
  clear_value x10
  intro x11
  have hx11 : Keeps s x11 := (keeps_ite (fun _ => (keeps_modRun _ _ (State.setRole_keeps _ _ _ hx10) fun _ hr => hr)) (fun _ => hx10))
  clear_value x11
  exact (State.syncMaster_keeps _ (State.event_keeps _ _ _ hx11))

theorem State.record_keeps {s00 : State} (s : State) (cls cause : Nat) (standby : Bool) (detail : Nat) (h0 : Keeps s00 s) :
    Keeps s00 (State.record s cls cause standby detail) := by
  refine keeps_trans h0 ?_
  unfold State.record
  lift_lets -useContext -merge -underBinder
  intro x0
  try clear_value x0
  intro x1
  have hx1 : Keeps s x1 := (keeps_when _ _ (Keeps.refl _) (fun _ => (keeps_set _ _ _ _ (Keeps.refl _))))
  clear_value x1
  intro x3
  have hx3 : Keeps s x3 := (keeps_wr _ _ _ _ _ (keeps_set _ _ _ _ (keeps_wr _ _ _ _ _ (keeps_wr _ _ _ _ _ (keeps_put _ _ _ _ _ (keeps_wr _ _ _ _ _ (keeps_wr _ _ _ _ _ hx1)))))))
  clear_value x3
  intro x4
  have hx4 : Keeps s x4 := (keeps_inc _ _ _ _ _ (keeps_wr _ _ _ _ _ hx3))
  clear_value x4
  intro x5
  have hx5 : Keeps s x5 := (keeps_ite (fun _ => (keeps_inc _ _ _ _ _ hx4)) (fun _ => (keeps_inc _ _ _ _ _ hx4)))
  clear_value x5
  exact (keeps_each _ _ hx5 (fun _ _ => (keeps_when _ _ (Keeps.refl _) (fun _ => (State.log_keeps _ _ _ _ (Keeps.refl _))))))

theorem State.causeOf_keeps {s00 : State} (s : State) (l : Lane) (cause : Nat) (h0 : Keeps s00 s) :
    Keeps s00 (State.causeOf s l cause) := by
  refine keeps_trans h0 ?_
  unfold State.causeOf
  exact (keeps_wrBit _ _ _ _ _ (Keeps.refl _))

theorem State.syncChs_keeps {s00 : State} (s : State) (h0 : Keeps s00 s) :
    Keeps s00 (State.syncChs s) := by
  refine keeps_trans h0 ?_
  unfold State.syncChs
  exact (keeps_each _ _ (Keeps.refl _) (fun _ _ => (keeps_put _ _ _ _ _ (Keeps.refl _))))

theorem State.syncLost_keeps {s00 : State} (s : State) (h0 : Keeps s00 s) :
    Keeps s00 (State.syncLost s) := by
  refine keeps_trans h0 ?_
  unfold State.syncLost
  exact (keeps_each _ _ (Keeps.refl _) (fun _ _ => (keeps_when _ _ (Keeps.refl _) (fun _ => (State.modSup_keeps _ _ _ (Keeps.refl _))))))

theorem State.returnClass_keeps {s00 : State} (s : State) (c : FaultClass) (h0 : Keeps s00 s) :
    Keeps s00 (State.returnClass s c) := by
  refine keeps_trans h0 ?_
  unfold State.returnClass
  lift_lets -useContext -merge -underBinder
  intro x0
  have hx0 : Keeps s x0 := (keeps_wrBit _ _ _ _ _ (Keeps.refl _))
  clear_value x0
  intro x1
  have hx1 : Keeps s x1 := by
    unfold x1
    split
    · refine keeps_ite (fun _ => ?_) (fun _ => ?_)
      · exact (keeps_clr _ _ _ _ (keeps_clr _ _ _ _ hx0))
      · exact hx0
    · exact hx0
  clear_value x1
  intro x2
  have hx2 : Keeps s x2 := (keeps_ite (fun _ => (keeps_when _ _ (keeps_clr _ _ _ _ hx1) (fun _ => (keeps_clr _ _ _ _ (Keeps.refl _))))) (fun _ => hx1))
  clear_value x2
  exact (State.syncChs_keeps _ (State.syncLost_keeps _ hx2))

theorem State.laneReturn_keeps {s00 : State} (s : State) (l : Lane) (h0 : Keeps s00 s) :
    Keeps s00 (State.laneReturn s l) := by
  refine keeps_trans h0 ?_
  unfold State.laneReturn
  refine keeps_ite (fun _ => ?_) (fun _ => ?_)
  · exact (State.returnClass_keeps _ _ (Keeps.refl _))
  · exact (Keeps.refl _)

theorem State.returns_keeps {s00 : State} (s : State) (h0 : Keeps s00 s) :
    Keeps s00 (State.returns s) := by
  refine keeps_trans h0 ?_
  unfold State.returns
  exact (keeps_each _ _ (Keeps.refl _) (fun _ _ => (State.laneReturn_keeps _ _ (Keeps.refl _))))

theorem State.grantLogic_keeps {s00 : State} (s : State) (h0 : Keeps s00 s) :
    Keeps s00 (State.grantLogic s) := by
  refine keeps_trans h0 ?_
  unfold State.grantLogic
  lift_lets -useContext -merge -underBinder
  intro x0
  have hx0 : Keeps s x0 := (State.syncElig_keeps _ (Keeps.refl _))
  clear_value x0
  refine keeps_ite (fun _ => ?_) (fun _ => ?_)
  · split
    · refine keeps_ite (fun _ => ?_) (fun _ => ?_)
      · exact hx0
      · exact (State.syncElig_keeps _ (State.record_keeps _ _ _ _ _ (State.causeOf_keeps _ _ _ (State.removeGrant_keeps _ _ hx0))))
    · lift_lets -useContext -merge -underBinder
      intro x1 x2
      try clear_value x2
      refine keeps_ite (fun _ => ?_) (fun _ => ?_)
      · refine keeps_ite (fun _ => ?_) (fun _ => ?_)
        · exact (State.syncElig_keeps _ (State.returns_keeps _ (State.giveGrant_keeps _ _ hx0)))
        · refine keeps_ite (fun _ => ?_) (fun _ => ?_)
          · exact (State.syncElig_keeps _ (State.returns_keeps _ (State.giveGrant_keeps _ _ hx0)))
          · exact hx0
      · exact hx0
  · exact hx0

theorem State.discharge_keeps {s00 : State} (s : State) (l : Lane) (on : Bool) (h0 : Keeps s00 s) :
    Keeps s00 (State.discharge s l on) := by
  refine keeps_trans h0 ?_
  unfold State.discharge
  lift_lets -useContext -merge -underBinder
  intro x0
  try clear_value x0
  refine keeps_ite (fun _ => ?_) (fun _ => ?_)
  · exact (keeps_modRun _ _ (Keeps.refl _) fun _ hr => hr)
  · exact (Keeps.refl _)

theorem State.seqEnd_keeps {s00 : State} (s : State) (l : Lane) (result : Nat) (h0 : Keeps s00 s) :
    Keeps s00 (State.seqEnd s l result) := by
  refine keeps_trans h0 ?_
  unfold State.seqEnd
  lift_lets -useContext -merge -underBinder
  intro x0
  split
  · exact (Keeps.refl _)
  · lift_lets -useContext -merge -underBinder
    intro x1
    have hx1 : Keeps s x1 := (keeps_clr _ _ _ _ (State.discharge_keeps _ _ _ (keeps_modRun _ _ (Keeps.refl _) fun _ hr => hr)))
    clear_value x1
    exact (State.logIf_keeps _ _ _ _ _ _ (State.irq_keeps _ _ _ _ (keeps_wr _ _ _ _ _ hx1)))

theorem State.soSet_keeps {s00 : State} (s : State) (k : Fin 12) (hs ls : Bool) (h0 : Keeps s00 s) :
    Keeps s00 (State.soSet s k hs ls) := by
  refine keeps_trans h0 ?_
  unfold State.soSet
  lift_lets -useContext -merge -underBinder
  intro x0
  try clear_value x0
  intro x1
  have hx1 : Keeps s x1 := (keeps_ite (fun _ => (Keeps.refl _)) (fun _ => (keeps_modDep _ (Keeps.refl _))))
  clear_value x1
  intro x2
  have hx2 : Keeps s x2 := (keeps_put _ _ _ _ _ (keeps_put _ _ _ _ _ hx1))
  clear_value x2
  intro x3
  have hx3 : Keeps s x3 := (keeps_put _ _ _ _ _ (keeps_put _ _ _ _ _ hx2))
  clear_value x3
  exact (keeps_wrBit _ _ _ _ _ (keeps_wrBit _ _ _ _ _ hx3))

theorem State.testEnd_keeps {s00 : State} (s : State) (out code : Nat) (h0 : Keeps s00 s) :
    Keeps s00 (State.testEnd s out code) := by
  refine keeps_trans h0 ?_
  unfold State.testEnd
  exact (keeps_modDep _ (keeps_clr _ _ _ _ (keeps_wr _ _ _ _ _ (keeps_wr _ _ _ _ _ (Keeps.refl _)))))

theorem State.openSo_keeps {s00 : State} (s : State) (k : Fin 12) (h0 : Keeps s00 s) :
    Keeps s00 (State.openSo s k) := by
  refine keeps_trans h0 ?_
  unfold State.openSo
  lift_lets -useContext -merge -underBinder
  intro x0
  have hx0 : Keeps s x0 := (State.soSet_keeps _ _ _ _ (Keeps.refl _))
  clear_value x0
  intro x1
  have hx1 : Keeps s x1 := (keeps_modDep _ hx0)
  clear_value x1
  split
  · refine keeps_ite (fun _ => ?_) (fun _ => ?_)
    · exact (State.testEnd_keeps _ _ _ hx1)
    · exact hx1
  · exact hx1

theorem State.openFuncs_keeps {s00 : State} (s : State) (fs : List Nat) (h0 : Keeps s00 s) :
    Keeps s00 (State.openFuncs s fs) := by
  refine keeps_trans h0 ?_
  unfold State.openFuncs
  exact (keeps_each _ _ (Keeps.refl _) (fun _ _ => (keeps_when _ _ (Keeps.refl _) (fun _ => (State.openSo_keeps _ _ (Keeps.refl _))))))

theorem State.actSync_keeps {s00 : State} (s : State) (l : Lane) (h0 : Keeps s00 s) :
    Keeps s00 (State.actSync s l) := by
  refine keeps_trans h0 ?_
  unfold State.actSync
  lift_lets -useContext -merge -underBinder
  intro x0 x1
  try clear_value x1
  intro x2
  try clear_value x2
  intro x3
  try clear_value x3
  exact (keeps_put _ _ _ _ _ (keeps_put _ _ _ _ _ (Keeps.refl _)))

theorem State.lvpOff_keeps {s00 : State} (s : State) (l : Lane) (h0 : Keeps s00 s) :
    Keeps s00 (State.lvpOff s l) := by
  refine keeps_trans h0 ?_
  unfold State.lvpOff
  lift_lets -useContext -merge -underBinder
  intro x0
  exact (State.modPap_keeps _ _ _ (keeps_clr _ _ _ _ (keeps_wr _ _ _ _ _ (keeps_wr _ _ _ _ _ (keeps_wr _ _ _ _ _ (Keeps.refl _))))))

theorem State.replug_keeps {s00 : State} (s : State) (l : Lane) (gone : Bool) (h0 : Keeps s00 s) :
    Keeps s00 (State.replug s l gone) := by
  refine keeps_trans h0 ?_
  unfold State.replug
  lift_lets -useContext -merge -underBinder
  intro x0 x1
  try clear_value x1
  intro x2
  have hx2 : Keeps s x2 := (State.modPap_keeps _ _ _ (Keeps.refl _))
  clear_value x2
  refine keeps_ite (fun _ => ?_) (fun _ => ?_)
  · exact (keeps_when _ _ hx2 (fun _ => (keeps_inc _ _ _ _ _ (keeps_set _ _ _ _ (Keeps.refl _)))))
  · exact (Keeps.refl _)

theorem State.windingsOff_keeps {s00 : State} (s : State) (l : Lane) (h0 : Keeps s00 s) :
    Keeps s00 (State.windingsOff s l) := by
  refine keeps_trans h0 ?_
  unfold State.windingsOff
  lift_lets -useContext -merge -underBinder
  intro x0
  try clear_value x0
  intro x1
  have hx1 : Keeps s x1 := (State.modPap_keeps _ _ _ (Keeps.refl _))
  clear_value x1
  refine keeps_ite (fun _ => ?_) (fun _ => ?_)
  · exact (State.actSync_keeps _ _ (State.lvpOff_keeps _ _ (keeps_clr _ _ _ _ (keeps_clr _ _ _ _ hx1))))
  · exact (Keeps.refl _)

theorem State.syncImposed_keeps {s00 : State} (s : State) (h0 : Keeps s00 s) :
    Keeps s00 (State.syncImposed s) := by
  refine keeps_trans h0 ?_
  unfold State.syncImposed
  exact (keeps_each _ _ (Keeps.refl _) (fun _ _ => (keeps_put _ _ _ _ _ (keeps_put _ _ _ _ _ (Keeps.refl _)))))

theorem State.startDegraded_keeps {s00 : State} (s : State) (c : FaultClass) (h0 : Keeps s00 s) :
    Keeps s00 (State.startDegraded s c) := by
  refine keeps_trans h0 ?_
  unfold State.startDegraded
  lift_lets -useContext -merge -underBinder
  intro x0
  try clear_value x0
  intro x1
  have hx1 : Keeps s x1 := (keeps_wr _ _ _ _ _ (keeps_wr _ _ _ _ _ (keeps_set _ _ _ _ (Keeps.refl _))))
  clear_value x1
  refine keeps_ite (fun _ => ?_) (fun _ => ?_)
  · exact (Keeps.refl _)
  · exact (State.syncImposed_keeps _ (keeps_modDep _ (keeps_set _ _ _ _ hx1)))

theorem State.stopControlled_keeps {s00 : State} (s : State) (h0 : Keeps s00 s) :
    Keeps s00 (State.stopControlled s) := by
  refine keeps_trans h0 ?_
  unfold State.stopControlled
  lift_lets -useContext -merge -underBinder
  intro x0
  have hx0 : Keeps s x0 := (keeps_set _ _ _ _ (keeps_wr _ _ _ _ _ (keeps_set _ _ _ _ (Keeps.refl _))))
  clear_value x0
  intro x1
  have hx1 : Keeps s x1 := (keeps_each _ _ (keeps_modDep _ hx0) (fun _ _ => (keeps_modRun _ _ (Keeps.refl _) fun _ hr => hr)))
  clear_value x1
  refine keeps_ite (fun _ => ?_) (fun _ => ?_)
  · exact (State.syncImposed_keeps _ (State.syncChs_keeps _ (State.openFuncs_keeps _ _ (keeps_each _ _ hx1 (fun _ _ => (State.seqEnd_keeps _ _ _ (Keeps.refl _)))))))
  · exact (Keeps.refl _)

theorem State.clampCmd_keeps {s00 : State} (s : State) (l : Lane) (h0 : Keeps s00 s) :
    Keeps s00 (State.clampCmd s l) := by
  refine keeps_trans h0 ?_
  unfold State.clampCmd
  refine keeps_ite (fun _ => ?_) (fun _ => ?_)
  · exact (State.modPap_keeps _ _ _ (keeps_set _ _ _ _ (Keeps.refl _)))
  · exact (Keeps.refl _)

theorem State.stopImmediate_keeps {s00 : State} (s : State) (h0 : Keeps s00 s) :
    Keeps s00 (State.stopImmediate s) := by
  refine keeps_trans h0 ?_
  unfold State.stopImmediate
  lift_lets -useContext -merge -underBinder
  intro x0
  have hx0 : Keeps s x0 := (keeps_set _ _ _ _ (keeps_clr _ _ _ _ (keeps_wr _ _ _ _ _ (keeps_set _ _ _ _ (Keeps.refl _)))))
  clear_value x0
  intro x1
  have hx1 : Keeps s x1 := (keeps_modDep _ hx0)
  clear_value x1
  intro x2
  have hx2 : Keeps s x2 := (State.openFuncs_keeps _ _ (keeps_each _ _ hx1 (fun _ _ => (State.seqEnd_keeps _ _ _ (Keeps.refl _)))))
  clear_value x2
  intro x5
  have hx5 : Keeps s x5 := (keeps_each _ _ hx2 (fun _ _ => (State.clampCmd_keeps _ _ (Keeps.refl _))))
  clear_value x5
  refine keeps_ite (fun _ => ?_) (fun _ => ?_)
  · exact (Keeps.refl _)
  · exact (State.syncImposed_keeps _ (State.syncChs_keeps _ hx5))

theorem State.ovApply_keeps {s00 : State} (s : State) (h0 : Keeps s00 s) :
    Keeps s00 (State.ovApply s) := by
  refine keeps_trans h0 ?_
  unfold State.ovApply
  lift_lets -useContext -merge -underBinder
  intro x0
  try clear_value x0
  intro x1
  try clear_value x1
  intro x2
  have hx2 : Keeps s x2 := (keeps_put _ _ _ _ _ (keeps_put _ _ _ _ _ (Keeps.refl _)))
  clear_value x2
  intro x3
  try clear_value x3
  intro x4
  have hx4 : Keeps s x4 := (Keeps.of_frame hx2 rfl rfl rfl rfl rfl)
  clear_value x4
  intro x5
  have hx5 : Keeps s x5 := (keeps_each _ _ hx4 (fun _ _ => (keeps_ite (fun _ => (keeps_wr _ _ _ _ _ (keeps_put _ _ _ _ _ (Keeps.refl _)))) (fun _ => (Keeps.refl _)))))
  clear_value x5
  exact (keeps_each _ _ hx5 (fun _ _ => (State.groupApply_keeps _ _ (Keeps.refl _))))

theorem State.ov2Line_keeps {s00 : State} (s : State) (l : Lane) (on : Bool) (h0 : Keeps s00 s) :
    Keeps s00 (State.ov2Line s l on) := by
  refine keeps_trans h0 ?_
  unfold State.ov2Line
  lift_lets -useContext -merge -underBinder
  intro x0
  have hx0 : Keeps s x0 := (keeps_ite (fun _ => (keeps_inc _ _ _ _ _ (Keeps.refl _))) (fun _ => (Keeps.refl _)))
  clear_value x0
  refine keeps_ite (fun _ => ?_) (fun _ => ?_)
  · exact (State.ovApply_keeps _ (keeps_wrBit _ _ _ _ _ hx0))
  · exact (Keeps.refl _)

theorem State.ov3Line_keeps {s00 : State} (s : State) (l : Lane) (on : Bool) (h0 : Keeps s00 s) :
    Keeps s00 (State.ov3Line s l on) := by
  refine keeps_trans h0 ?_
  unfold State.ov3Line
  lift_lets -useContext -merge -underBinder
  intro x0
  try clear_value x0
  intro x1
  have hx1 : Keeps s x1 := (keeps_wrBit _ _ _ _ _ (Keeps.refl _))
  clear_value x1
  refine keeps_ite (fun _ => ?_) (fun _ => ?_)
  · refine keeps_ite (fun _ => ?_) (fun _ => ?_)
    · exact (State.ovApply_keeps _ (keeps_modDep _ (keeps_set _ _ _ _ (keeps_when _ _ hx1 (fun _ => (keeps_inc _ _ _ _ _ (Keeps.refl _)))))))
    · refine keeps_ite (fun _ => ?_) (fun _ => ?_)
      · exact (keeps_modDep _ hx1)
      · exact hx1
  · exact (Keeps.refl _)

theorem State.outcome_keeps {s00 : State} (s : State) (starter : FaultClass) (h0 : Keeps s00 s) :
    Keeps s00 (State.outcome s starter) := by
  refine keeps_trans h0 ?_
  unfold State.outcome
  lift_lets -useContext -merge -underBinder
  intro x0
  have hx0 : Keeps s x0 := (keeps_clr _ _ _ _ (keeps_clr _ _ _ _ (Keeps.refl _)))
  clear_value x0
  refine keeps_ite (fun _ => ?_) (fun _ => ?_)
  · refine keeps_ite (fun _ => ?_) (fun _ => ?_)
    · exact (State.stopImmediate_keeps _ (keeps_set _ _ _ _ (Keeps.refl _)))
    · exact (Keeps.refl _)
  · refine keeps_ite (fun _ => ?_) (fun _ => ?_)
    · refine keeps_ite (fun _ => ?_) (fun _ => ?_)
      · exact (State.stopImmediate_keeps _ (keeps_set _ _ _ _ (keeps_clr _ _ _ _ hx0)))
      · exact (State.stopControlled_keeps _ (keeps_set _ _ _ _ hx0))
    · refine keeps_ite (fun _ => ?_) (fun _ => ?_)
      · exact (State.startDegraded_keeps _ _ (keeps_ite (fun _ => (Keeps.refl _)) (fun _ => (keeps_set _ _ _ _ (keeps_set _ _ _ _ (Keeps.refl _))))))
      · exact (Keeps.refl _)

theorem State.laneLost_keeps {s00 : State} (s : State) (l : Lane) (h0 : Keeps s00 s) :
    Keeps s00 (State.laneLost s l) := by
  refine keeps_trans h0 ?_
  unfold State.laneLost
  lift_lets -useContext -merge -underBinder
  intro x0
  have hx0 : Keeps s x0 := (keeps_clr _ _ _ _ (keeps_set _ _ _ _ (Keeps.refl _)))
  clear_value x0
  intro x1
  have hx1 : Keeps s x1 := (State.ov3Line_keeps _ _ _ (State.ov2Line_keeps _ _ _ (State.windingsOff_keeps _ _ (State.removeGrant_keeps _ _ hx0))))
  clear_value x1
  intro x2
  have hx2 : Keeps s x2 := (keeps_set _ _ _ _ hx1)
  clear_value x2
  refine keeps_ite (fun _ => ?_) (fun _ => ?_)
  · exact (State.setRole_keeps _ _ _ hx2)
  · exact hx2

theorem State.laneForm_keeps {s00 : State} (s : State) (l : Lane) (h0 : Keeps s00 s) :
    Keeps s00 (State.laneForm s l) := by
  refine keeps_trans h0 ?_
  unfold State.laneForm
  exact (keeps_clr _ _ _ _ (keeps_set _ _ _ _ (State.modSup_keeps _ _ _ (Keeps.refl _))))

theorem State.laneOutcome_keeps {s00 : State} (s : State) (l : Lane) (h0 : Keeps s00 s) :
    Keeps s00 (State.laneOutcome s l) := by
  refine keeps_trans h0 ?_
  unfold State.laneOutcome
  lift_lets -useContext -merge -underBinder
  intro x0
  try clear_value x0
  intro x1
  refine keeps_ite (fun _ => ?_) (fun _ => ?_)
  · exact (State.laneForm_keeps _ _ (Keeps.refl _))
  · exact (Keeps.refl _)

theorem State.ownRecord_keeps {s00 : State} (s : State) (k : Lane) (c : FaultClass) (cause : Nat) (h0 : Keeps s00 s) :
    Keeps s00 (State.ownRecord s k c cause) := by
  refine keeps_trans h0 ?_
  unfold State.ownRecord
  refine keeps_ite (fun _ => ?_) (fun _ => ?_)
  · exact (State.laneOutcome_keeps _ _ (State.log_keeps _ _ _ _ (State.modSup_keeps _ _ _ (Keeps.refl _))))
  · exact (Keeps.refl _)

theorem State.ownLaneLoss_keeps {s00 : State} (s : State) (l : Lane) (cause : Nat) (h0 : Keeps s00 s) :
    Keeps s00 (State.ownLaneLoss s l cause) := by
  refine keeps_trans h0 ?_
  unfold State.ownLaneLoss
  lift_lets -useContext -merge -underBinder
  intro x0
  have hx0 : Keeps s x0 := (State.ownRecord_keeps _ _ _ _ (keeps_set _ _ _ _ (State.windingsOff_keeps _ _ (Keeps.refl _))))
  clear_value x0
  refine keeps_ite (fun _ => ?_) (fun _ => ?_)
  · refine keeps_ite (fun _ => ?_) (fun _ => ?_)
    · exact (State.setRole_keeps _ _ _ hx0)
    · exact hx0
  · exact (Keeps.refl _)

theorem State.ownRecords_keeps {s00 : State} (s : State) (cs : List (FaultClass × Nat)) (h0 : Keeps s00 s) :
    Keeps s00 (State.ownRecords s cs) := by
  refine keeps_trans h0 ?_
  unfold State.ownRecords
  exact (keeps_each _ _ (Keeps.refl _) (fun y0 y1 => (by
    split
    · refine keeps_ite (fun _ => ?_) (fun _ => ?_)
      · exact (State.ownLaneLoss_keeps _ _ _ (Keeps.refl _))
      · exact (Keeps.refl _)
    · exact (Keeps.refl _)
)))

theorem State.undoDegraded_keeps {s00 : State} (s : State) (h0 : Keeps s00 s) :
    Keeps s00 (State.undoDegraded s) := by
  refine keeps_trans h0 ?_
  unfold State.undoDegraded
  lift_lets -useContext -merge -underBinder
  intro x0
  have hx0 : Keeps s x0 := (keeps_wr _ _ _ _ _ (keeps_wr _ _ _ _ _ (keeps_clr _ _ _ _ (Keeps.refl _))))
  clear_value x0
  exact (State.syncImposed_keeps _ (keeps_clr _ _ _ _ hx0))

theorem State.pairDirect_keeps {s00 : State} (s : State) (n : Nat) (h0 : Keeps s00 s) :
    Keeps s00 (State.pairDirect s n) := by
  refine keeps_trans h0 ?_
  unfold State.pairDirect
  lift_lets -useContext -merge -underBinder
  intro x0
  have hx0 : Keeps s x0 := (keeps_ite (fun _ => (State.undoDegraded_keeps _ (Keeps.refl _))) (fun _ => (Keeps.refl _)))
  clear_value x0
  exact (keeps_each _ _ hx0 (fun _ _ => (keeps_wr _ _ _ _ _ (Keeps.refl _))))

theorem State.declareAll_keeps {s00 : State} (s : State) (cs : List (FaultClass × Nat)) (h0 : Keeps s00 s) :
    Keeps s00 (State.declareAll s cs) := by
  refine keeps_trans h0 ?_
  unfold State.declareAll
  lift_lets -useContext -merge -underBinder
  intro x0
  try clear_value x0
  refine keeps_ite (fun _ => ?_) (fun _ => ?_)
  · split
    · exact (Keeps.refl _)
    · lift_lets -useContext -merge -underBinder
      intro x1
      try clear_value x1
      intro x2
      try clear_value x2
      intro x3
      have hx3 : Keeps s x3 := (keeps_each _ _ (Keeps.refl _) (fun _ _ => (keeps_wrBit _ _ _ _ _ (Keeps.refl _))))
      clear_value x3
      intro x6
      have hx6 : Keeps s x6 := (keeps_each _ _ hx3 (fun y7 y8 => (by
        split
        · exact (Keeps.refl _)
        · exact (State.causeOf_keeps _ _ _ (keeps_ite (fun _ => (State.laneLost_keeps _ _ (Keeps.refl _))) (fun _ => (Keeps.refl _))))
)))
      clear_value x6
      intro x9
      have hx9 : Keeps s x9 := (keeps_modDep _ (State.outcome_keeps _ _ hx6))
      clear_value x9
      intro x10
      have hx10 : Keeps s x10 := (keeps_modDep _ hx9)
      clear_value x10
      intro x11
      have hx11 : Keeps s x11 := (keeps_ite (fun _ => (State.pairDirect_keeps _ _ hx10)) (fun _ => hx10))
      clear_value x11
      intro x12
      have hx12 : Keeps s x12 := (keeps_each _ _ hx11 (fun _ _ => (State.record_keeps _ _ _ _ _ (Keeps.refl _))))
      clear_value x12
      exact (State.syncMaster_keeps _ (State.grantLogic_keeps _ (State.syncChs_keeps _ (State.syncLost_keeps _ (State.returns_keeps _ (State.ownRecords_keeps _ _ hx12))))))
  · exact (State.syncMaster_keeps _ (State.ownRecords_keeps _ _ (Keeps.refl _)))

theorem State.declare_keeps {s00 : State} (s : State) (c : FaultClass) (cause : Nat) (h0 : Keeps s00 s) :
    Keeps s00 (State.declare s c cause) := by
  refine keeps_trans h0 ?_
  unfold State.declare
  exact (State.declareAll_keeps _ _ (Keeps.refl _))

theorem State.windowMiss_keeps {s00 : State} (s : State) (l : Lane) (h0 : Keeps s00 s) :
    Keeps s00 (State.windowMiss s l) := by
  refine keeps_trans h0 ?_
  unfold State.windowMiss
  refine keeps_ite (fun _ => ?_) (fun _ => ?_)
  · exact (State.declare_keeps _ _ _ (keeps_inc _ _ _ _ _ (Keeps.refl _)))
  · exact (Keeps.refl _)

theorem State.feEvent_keeps {s00 : State} (s : State) (l : Lane) (slot : Nat) (h0 : Keeps s00 s) :
    Keeps s00 (State.feEvent s l slot) := by
  refine keeps_trans h0 ?_
  unfold State.feEvent
  lift_lets -useContext -merge -underBinder
  intro x0
  try clear_value x0
  intro x1
  have hx1 : Keeps s x1 := (State.causeOf_keeps _ _ _ (keeps_inc _ _ _ _ _ (keeps_put _ _ _ _ _ (keeps_wr _ _ _ _ _ (keeps_inc _ _ _ _ _ (Keeps.refl _))))))
  clear_value x1
  intro x2
  have hx2 : Keeps s x2 := (State.record_keeps _ _ _ _ _ hx1)
  clear_value x2
  refine keeps_ite (fun _ => ?_) (fun _ => ?_)
  · refine keeps_ite (fun _ => ?_) (fun _ => ?_)
    · exact (State.windowMiss_keeps _ _ hx2)
    · exact hx2
  · exact (Keeps.refl _)

theorem State.tallyMiss_keeps {s00 : State} (s : State) (l : Lane) (q : Nat) (h0 : Keeps s00 s) :
    Keeps s00 (State.tallyMiss s l q) := by
  refine keeps_trans h0 ?_
  unfold State.tallyMiss
  lift_lets -useContext -merge -underBinder
  intro x0
  try clear_value x0
  intro x1
  try clear_value x1
  intro x2
  have hx2 : Keeps s x2 := (State.causeOf_keeps _ _ _ (keeps_inc _ _ _ _ _ (keeps_put _ _ _ _ _ (keeps_wr _ _ _ _ _ (keeps_inc _ _ _ _ _ (Keeps.refl _))))))
  clear_value x2
  intro x3
  have hx3 : Keeps s x3 := (State.record_keeps _ _ _ _ _ (keeps_modDepLane _ _ hx2))
  clear_value x3
  refine keeps_ite (fun _ => ?_) (fun _ => ?_)
  · refine keeps_ite (fun _ => ?_) (fun _ => ?_)
    · exact (State.windowMiss_keeps _ _ hx3)
    · exact hx3
  · exact (Keeps.refl _)

theorem State.resetRegs_keeps {s00 : State} (s : State) (d : Die) (keep : Bool) (h0 : Keeps s00 s) :
    Keeps s00 (s.resetRegs d keep) := keeps_filter _ h0

theorem State.resetPap_keeps {s00 : State} (s : State) (l : Lane) (h0 : Keeps s00 s) :
    Keeps s00 (State.resetPap s l) := by
  refine keeps_trans h0 ?_
  unfold State.resetPap
  lift_lets -useContext -merge -underBinder
  intro x0 x1
  have hx1 : Keeps s x1 := (State.modPap_keeps _ _ _ (Keeps.refl _))
  clear_value x1
  exact (State.actSync_keeps _ _ (State.resetRegs_keeps _ _ _ hx1))

theorem State.resetLane_keeps {s00 : State} (s : State) (l : Lane) (phase : LanePhase) (h0 : Keeps s00 s) :
    Keeps s00 (s.resetLane l phase) := by
  unfold State.resetLane
  exact State.syncMaster_keeps _ (State.grantLogic_keeps _ (State.syncChs_keeps _ (State.ov3Line_keeps _ _ _
    (State.ov2Line_keeps _ _ _ (keeps_modDepLane _ _ (State.resetRegs_keeps _ _ _ (keeps_modRun _ _ (keeps_when _ _
    (State.removeGrant_keeps _ _ h0) fun _ => keeps_clr _ _ _ _ (keeps_clr _ _ _ _ (Keeps.refl _)))
    fun _ _ => ⟨rfl, rfl, rfl⟩)))))))

theorem State.resetIsland_keeps {s00 : State} (s : State) (l : Lane) (phase : LanePhase) (h0 : Keeps s00 s) :
    Keeps s00 (State.resetIsland s l phase) := by
  refine keeps_trans h0 ?_
  unfold State.resetIsland
  exact (State.resetLane_keeps _ _ _ (State.resetPap_keeps _ _ (Keeps.refl _)))


end Sys2Proof.Machine
end

