-- ==== Sys2Proof/Laws/KeepsDriveOps.lean ====
section
/-!
SUPPORT. The operations of Machine/DriveOps.lean keep what `Keeps` says (Laws/Keeps.lean).
-/
namespace Sys2Proof.Machine

theorem State.modHb_keeps {s00 : State} (s : State) (l : Lane) (n : Fin 16) (f : HalfBridge → HalfBridge) (h0 : Keeps s00 s) :
    Keeps s00 (State.modHb s l n f) := by
  refine keeps_trans h0 ?_
  unfold State.modHb
  exact (State.modPap_keeps _ _ _ (Keeps.refl _))

theorem State.pdOff_keeps {s00 : State} (s : State) (l : Lane) (n : Fin 16) (hi : Bool) (h0 : Keeps s00 s) :
    Keeps s00 (State.pdOff s l n hi) := by
  refine keeps_trans h0 ?_
  unfold State.pdOff
  refine keeps_ite (fun _ => ?_) (fun _ => ?_)
  · exact (keeps_clr _ _ _ _ (State.modHb_keeps _ _ _ _ (Keeps.refl _)))
  · exact (keeps_clr _ _ _ _ (State.modHb_keeps _ _ _ _ (Keeps.refl _)))

theorem State.pdOn_keeps {s00 : State} (s : State) (l : Lane) (n : Fin 16) (hi : Bool) (h0 : Keeps s00 s) :
    Keeps s00 (State.pdOn s l n hi) := by
  refine keeps_trans h0 ?_
  unfold State.pdOn
  refine keeps_ite (fun _ => ?_) (fun _ => ?_)
  · exact (keeps_set _ _ _ _ (State.modHb_keeps _ _ _ _ (Keeps.refl _)))
  · exact (keeps_set _ _ _ _ (State.modHb_keeps _ _ _ _ (Keeps.refl _)))

theorem State.pdCmd_keeps {s00 : State} (s : State) (l : Lane) (n : Fin 16) (hi on : Bool) (t : Int) (h0 : Keeps s00 s) :
    Keeps s00 (State.pdCmd s l n hi on t) := by
  refine keeps_trans h0 ?_
  unfold State.pdCmd
  lift_lets -useContext -merge -underBinder
  intro x0
  try clear_value x0
  intro x1
  have hx1 : Keeps s x1 := (State.modHb_keeps _ _ _ _ (Keeps.refl _))
  clear_value x1
  intro x2
  have hx2 : Keeps s x2 := (State.modHb_keeps _ _ _ _ (Keeps.refl _))
  clear_value x2
  intro x3
  have hx3 : Keeps s x3 := (keeps_ite (fun _ => (State.pdOff_keeps _ _ _ _ hx2)) (fun _ => hx2))
  clear_value x3
  refine keeps_ite (fun _ => ?_) (fun _ => ?_)
  · exact (Keeps.refl _)
  · refine keeps_ite (fun _ => ?_) (fun _ => ?_)
    · refine keeps_ite (fun _ => ?_) (fun _ => ?_)
      · refine keeps_ite (fun _ => ?_) (fun _ => ?_)
        · exact (Keeps.refl _)
        · refine keeps_ite (fun _ => ?_) (fun _ => ?_)
          · exact (State.pdOn_keeps _ _ _ _ hx1)
          · exact hx1
      · exact (Keeps.refl _)
    · exact (State.pdOff_keeps _ _ _ _ hx3)


end Sys2Proof.Machine
end

