-- ==== Sys2Proof/Laws/KeepsPwmOps.lean ====
section
/-!
SUPPORT. The operations of Machine/PwmOps.lean keep what `Keeps` says (Laws/Keeps.lean).
-/
namespace Sys2Proof.Machine

theorem State.modCh_keeps {s00 : State} (s : State) (l : Lane) (c : Fin 64) (f : PwmCh → PwmCh) (h0 : Keeps s00 s) :
    Keeps s00 (State.modCh s l c f) := by
  refine keeps_trans h0 ?_
  unfold State.modCh
  exact (State.modPwm_keeps _ _ _ (Keeps.refl _))

theorem State.driveDst_keeps {s00 : State} (s : State) (l : Lane) (c : Fin 64) (code : Nat) (on : Bool) (t : Int) (h0 : Keeps s00 s) :
    Keeps s00 (State.driveDst s l c code on t) := by
  refine keeps_trans h0 ?_
  unfold State.driveDst
  lift_lets -useContext -merge -underBinder
  intro x0
  try clear_value x0
  refine keeps_ite (fun _ => ?_) (fun _ => ?_)
  · refine keeps_ite (fun _ => ?_) (fun _ => ?_)
    · split
      · exact (State.hoistCmd_keeps _ _ _ _ (Keeps.refl _))
      · exact (Keeps.refl _)
    · exact (Keeps.refl _)
  · refine keeps_ite (fun _ => ?_) (fun _ => ?_)
    · exact (State.pdCmd_keeps _ _ _ _ _ _ (Keeps.refl _))
    · refine keeps_ite (fun _ => ?_) (fun _ => ?_)
      · exact (State.pdCmd_keeps _ _ _ _ _ _ (Keeps.refl _))
      · refine keeps_ite (fun _ => ?_) (fun _ => ?_)
        · exact (State.modPwm_keeps _ _ _ (Keeps.refl _))
        · exact (Keeps.refl _)

theorem State.driveH_keeps {s00 : State} (s : State) (l : Lane) (c : Fin 64) (on : Bool) (t : Int) (h0 : Keeps s00 s) :
    Keeps s00 (State.driveH s l c on t) := by
  refine keeps_trans h0 ?_
  unfold State.driveH
  lift_lets -useContext -merge -underBinder
  intro x0
  try clear_value x0
  exact (State.driveDst_keeps _ _ _ _ _ _ (State.modCh_keeps _ _ _ _ (Keeps.refl _)))

theorem State.driveL_keeps {s00 : State} (s : State) (l : Lane) (c : Fin 64) (on : Bool) (t : Int) (h0 : Keeps s00 s) :
    Keeps s00 (State.driveL s l c on t) := by
  refine keeps_trans h0 ?_
  unfold State.driveL
  lift_lets -useContext -merge -underBinder
  intro x0
  try clear_value x0
  refine keeps_ite (fun _ => ?_) (fun _ => ?_)
  · exact (State.driveDst_keeps _ _ _ _ _ _ (State.modCh_keeps _ _ _ _ (Keeps.refl _)))
  · exact (State.modCh_keeps _ _ _ _ (Keeps.refl _))

theorem State.freePartner_keeps {s00 : State} (s : State) (l : Lane) (c : Fin 64) (h0 : Keeps s00 s) :
    Keeps s00 (State.freePartner s l c) := by
  refine keeps_trans h0 ?_
  unfold State.freePartner
  split
  · exact (Keeps.refl _)
  · refine keeps_ite (fun _ => ?_) (fun _ => ?_)
    · exact (State.driveH_keeps _ _ _ _ _ (State.modCh_keeps _ _ _ _ (Keeps.refl _)))
    · exact (Keeps.refl _)

theorem State.chOff_keeps {s00 : State} (s : State) (l : Lane) (c : Fin 64) (h0 : Keeps s00 s) :
    Keeps s00 (State.chOff s l c) := by
  refine keeps_trans h0 ?_
  unfold State.chOff
  exact (State.freePartner_keeps _ _ _ (State.driveL_keeps _ _ _ _ _ (State.driveH_keeps _ _ _ _ _ (Keeps.refl _))))

theorem State.redrive_keeps {s00 : State} (s : State) (l : Lane) (c : Fin 64) (h0 : Keeps s00 s) :
    Keeps s00 (State.redrive s l c) := by
  refine keeps_trans h0 ?_
  unfold State.redrive
  lift_lets -useContext -merge -underBinder
  intro x0 x1
  try clear_value x1
  intro x2
  try clear_value x2
  intro x3
  try clear_value x3
  intro x4
  try clear_value x4
  intro x5
  have hx5 : Keeps s x5 := (keeps_ite (fun _ => (State.driveDst_keeps _ _ _ _ _ _ (Keeps.refl _))) (fun _ => (Keeps.refl _)))
  clear_value x5
  intro x6
  have hx6 : Keeps s x6 := (keeps_ite (fun _ => (State.driveDst_keeps _ _ _ _ _ _ hx5)) (fun _ => hx5))
  clear_value x6
  intro x7
  have hx7 : Keeps s x7 := by
    unfold x7
    split
    · exact (State.driveDst_keeps _ _ _ _ _ _ hx6)
    · exact hx6
  clear_value x7
  split
  · refine keeps_ite (fun _ => ?_) (fun _ => ?_)
    · exact (State.driveDst_keeps _ _ _ _ _ _ hx7)
    · exact hx7
  · exact hx7

theorem State.redriveAll_keeps {s00 : State} (s : State) (l : Lane) (h0 : Keeps s00 s) :
    Keeps s00 (State.redriveAll s l) := by
  refine keeps_trans h0 ?_
  unfold State.redriveAll
  exact (keeps_each _ _ (Keeps.refl _) (fun _ _ => (keeps_when _ _ (Keeps.refl _) (fun _ => (State.redrive_keeps _ _ _ (Keeps.refl _))))))

theorem State.openWindows_keeps {s00 : State} (s : State) (l : Lane) (c : Fin 64) (level : Bool) (x : Int) (h0 : Keeps s00 s) :
    Keeps s00 (State.openWindows s l c level x) := by
  refine keeps_trans h0 ?_
  unfold State.openWindows
  exact (keeps_each _ _ (Keeps.refl _) (fun y0 y1 => (by
    lift_lets -useContext -merge -underBinder
    intro x2 x3
    try clear_value x3
    intro x4
    try clear_value x4
    refine keeps_ite (fun _ => ?_) (fun _ => ?_)
    · exact (State.modPwm_keeps _ _ _ (Keeps.refl _))
    · exact (Keeps.refl _)
)))

theorem State.follow_keeps {s00 : State} (s : State) (l : Lane) (c : Fin 64) (level : Bool) (h0 : Keeps s00 s) :
    Keeps s00 (State.follow s l c level) := by
  refine keeps_trans h0 ?_
  unfold State.follow
  lift_lets -useContext -merge -underBinder
  intro x0
  refine keeps_ite (fun _ => ?_) (fun _ => ?_)
  · refine keeps_ite (fun _ => ?_) (fun _ => ?_)
    · exact (State.driveH_keeps _ _ _ _ _ (State.driveL_keeps _ _ _ _ _ (Keeps.refl _)))
    · exact (State.driveL_keeps _ _ _ _ _ (State.driveH_keeps _ _ _ _ _ (Keeps.refl _)))
  · refine keeps_ite (fun _ => ?_) (fun _ => ?_)
    · split
      · exact (State.driveH_keeps _ _ _ _ _ (Keeps.refl _))
      · refine keeps_ite (fun _ => ?_) (fun _ => ?_)
        · exact (State.modCh_keeps _ _ _ _ (Keeps.refl _))
        · exact (State.driveH_keeps _ _ _ _ _ (Keeps.refl _))
    · exact (State.chOff_keeps _ _ _ (State.modCh_keeps _ _ _ _ (Keeps.refl _)))

theorem State.setLevel_keeps {s00 : State} (s : State) (l : Lane) (c : Fin 64) (level : Bool) (x : Int) (h0 : Keeps s00 s) :
    Keeps s00 (State.setLevel s l c level x) := by
  refine keeps_trans h0 ?_
  unfold State.setLevel
  exact (State.modCh_keeps _ _ _ _ (keeps_put _ _ _ _ _ (Keeps.refl _)))

theorem State.issue_keeps {s00 : State} (s : State) (l : Lane) (c : Fin 64) (level : Bool) (x : Int) (h0 : Keeps s00 s) :
    Keeps s00 (State.issue s l c level x) := by
  refine keeps_trans h0 ?_
  unfold State.issue
  lift_lets -useContext -merge -underBinder
  intro x0
  have hx0 : Keeps s x0 := (State.modCh_keeps _ _ _ _ (State.setLevel_keeps _ _ _ _ _ (State.advSteps_keeps _ _ (Keeps.refl _))))
  clear_value x0
  exact (State.follow_keeps _ _ _ _ (State.openWindows_keeps _ _ _ _ _ hx0))

theorem State.syncCfgErr_keeps {s00 : State} (s : State) (l : Lane) (c : Fin 64) (h0 : Keeps s00 s) :
    Keeps s00 (State.syncCfgErr s l c) := by
  refine keeps_trans h0 ?_
  unfold State.syncCfgErr
  lift_lets -useContext -merge -underBinder
  intro x0 x1
  try clear_value x1
  intro x2
  try clear_value x2
  intro x3
  have hx3 : Keeps s x3 := (keeps_put _ _ _ _ _ (Keeps.refl _))
  clear_value x3
  intro x4
  try clear_value x4
  refine keeps_ite (fun _ => ?_) (fun _ => ?_)
  · refine keeps_ite (fun _ => ?_) (fun _ => ?_)
    · exact hx3
    · exact (State.chOff_keeps _ _ _ hx3)
  · refine keeps_ite (fun _ => ?_) (fun _ => ?_)
    · exact (State.follow_keeps _ _ _ _ hx3)
    · exact hx3

theorem State.syncCfgErrs_keeps {s00 : State} (s : State) (l : Lane) (h0 : Keeps s00 s) :
    Keeps s00 (State.syncCfgErrs s l) := by
  refine keeps_trans h0 ?_
  unfold State.syncCfgErrs
  exact (keeps_each _ _ (Keeps.refl _) (fun _ _ => (State.syncCfgErr_keeps _ _ _ (Keeps.refl _))))

theorem State.filtered_keeps {s00 : State} (s : State) (l : Lane) (c : Fin 64) (h0 : Keeps s00 s) :
    Keeps s00 (State.filtered s l c) := by
  refine keeps_trans h0 ?_
  unfold State.filtered
  exact (keeps_inc _ _ _ _ _ (keeps_set _ _ _ _ (Keeps.refl _)))

theorem State.report_keeps {s00 : State} (s : State) (l : Lane) (c : Fin 64) (r : EdgeReport) (x : Int) (h0 : Keeps s00 s) :
    Keeps s00 (State.report s l c r x) := by
  refine keeps_trans h0 ?_
  unfold State.report
  exact (State.modCh_keeps _ _ _ _ (Keeps.refl _))

theorem State.dropEng_keeps {s00 : State} (s : State) (l : Lane) (c : Fin 64) (h0 : Keeps s00 s) :
    Keeps s00 (State.dropEng s l c) := by
  refine keeps_trans h0 ?_
  unfold State.dropEng
  split
  · exact (State.report_keeps _ _ _ _ _ (State.modCh_keeps _ _ _ _ (Keeps.refl _)))
  · exact (Keeps.refl _)

theorem State.tripMark_keeps {s00 : State} (s : State) (l : Lane) (c : Fin 64) (h0 : Keeps s00 s) :
    Keeps s00 (State.tripMark s l c) := by
  refine keeps_trans h0 ?_
  unfold State.tripMark
  exact (State.dropEng_keeps _ _ _ (State.modCh_keeps _ _ _ _ (keeps_set _ _ _ _ (Keeps.refl _))))

theorem State.tripAct_keeps {s00 : State} (s : State) (l : Lane) (g : Nat) (c : Fin 64) (h0 : Keeps s00 s) :
    Keeps s00 (State.tripAct s l g c) := by
  refine keeps_trans h0 ?_
  unfold State.tripAct
  lift_lets -useContext -merge -underBinder
  intro x0
  refine keeps_ite (fun _ => ?_) (fun _ => ?_)
  · exact (State.chOff_keeps _ _ _ (Keeps.refl _))
  · refine keeps_ite (fun _ => ?_) (fun _ => ?_)
    · exact (State.follow_keeps _ _ _ _ (State.setLevel_keeps _ _ _ _ _ (Keeps.refl _)))
    · refine keeps_ite (fun _ => ?_) (fun _ => ?_)
      · exact (State.follow_keeps _ _ _ _ (Keeps.refl _))
      · exact (State.chOff_keeps _ _ _ (Keeps.refl _))

theorem State.tripCh_keeps {s00 : State} (s : State) (l : Lane) (g : Nat) (c : Fin 64) (h0 : Keeps s00 s) :
    Keeps s00 (State.tripCh s l g c) := by
  refine keeps_trans h0 ?_
  unfold State.tripCh
  exact (State.tripAct_keeps _ _ _ _ (State.tripMark_keeps _ _ _ (Keeps.refl _)))

theorem State.raiseTg_keeps {s00 : State} (s : State) (l : Lane) (g : Nat) (force : Bool) (hold : Bool) (h0 : Keeps s00 s) :
    Keeps s00 (State.raiseTg s l g force hold) := by
  refine keeps_trans h0 ?_
  unfold State.raiseTg
  lift_lets -useContext -merge -underBinder
  intro x0 x1
  try clear_value x1
  intro x2
  have hx2 : Keeps s x2 := (keeps_wrBit _ _ _ _ _ (Keeps.refl _))
  clear_value x2
  intro x3
  have hx3 : Keeps s x3 := (keeps_ite (fun _ => (keeps_wrBit _ _ _ _ _ hx2)) (fun _ => hx2))
  clear_value x3
  intro x4
  have hx4 : Keeps s x4 := (keeps_ite (fun _ => (keeps_wrBit _ _ _ _ _ hx3)) (fun _ => hx3))
  clear_value x4
  intro x5
  try clear_value x5
  intro x6
  have hx6 : Keeps s x6 := (keeps_each _ _ (keeps_each _ _ hx4 (fun _ _ => (State.tripMark_keeps _ _ _ (Keeps.refl _)))) (fun _ _ => (State.tripAct_keeps _ _ _ _ (Keeps.refl _))))
  clear_value x6
  refine keeps_ite (fun _ => ?_) (fun _ => ?_)
  · exact (State.logIf_keeps _ _ _ _ _ _ (keeps_when _ _ (State.event_keeps _ _ _ hx6) (fun _ => (State.irq_keeps _ _ _ _ (Keeps.refl _)))))
  · exact hx6

theorem State.reach_keeps {s00 : State} (s : State) (l : Lane) (src : Nat) (h0 : Keeps s00 s) :
    Keeps s00 (State.reach s l src) := by
  refine keeps_trans h0 ?_
  unfold State.reach
  lift_lets -useContext -merge -underBinder
  intro x0
  try clear_value x0
  refine keeps_ite (fun _ => ?_) (fun _ => ?_)
  · exact (Keeps.refl _)
  · exact (keeps_each _ _ (keeps_wrBit _ _ _ _ _ (Keeps.refl _)) (fun _ _ => (keeps_when _ _ (Keeps.refl _) (fun _ => (State.raiseTg_keeps _ _ _ _ _ (Keeps.refl _))))))

theorem State.settleTg_keeps {s00 : State} (s : State) (l : Lane) (g : Nat) (h0 : Keeps s00 s) :
    Keeps s00 (State.settleTg s l g) := by
  refine keeps_trans h0 ?_
  unfold State.settleTg
  lift_lets -useContext -merge -underBinder
  intro x0
  refine keeps_ite (fun _ => ?_) (fun _ => ?_)
  · exact (keeps_wrBit _ _ _ _ _ (Keeps.refl _))
  · exact (Keeps.refl _)

theorem State.tripSource_keeps {s00 : State} (s : State) (l : Lane) (src : Nat) (active : Bool) (h0 : Keeps s00 s) :
    Keeps s00 (State.tripSource s l src active) := by
  refine keeps_trans h0 ?_
  unfold State.tripSource
  lift_lets -useContext -merge -underBinder
  intro x0
  try clear_value x0
  intro x1
  have hx1 : Keeps s x1 := (keeps_wrBit _ _ _ _ _ (Keeps.refl _))
  clear_value x1
  refine keeps_ite (fun _ => ?_) (fun _ => ?_)
  · refine keeps_ite (fun _ => ?_) (fun _ => ?_)
    · exact hx1
    · refine keeps_ite (fun _ => ?_) (fun _ => ?_)
      · refine keeps_ite (fun _ => ?_) (fun _ => ?_)
        · exact hx1
        · exact (State.reach_keeps _ _ _ hx1)
      · refine keeps_ite (fun _ => ?_) (fun _ => ?_)
        · exact (keeps_each _ _ hx1 (fun _ _ => (State.settleTg_keeps _ _ _ (Keeps.refl _))))
        · exact hx1
  · exact (Keeps.refl _)

theorem State.tripsStart_keeps {s00 : State} (s : State) (l : Lane) (h0 : Keeps s00 s) :
    Keeps s00 (State.tripsStart s l) := by
  refine keeps_trans h0 ?_
  unfold State.tripsStart
  lift_lets -useContext -merge -underBinder
  intro x0
  have hx0 : Keeps s x0 := (keeps_each _ _ (Keeps.refl _) (fun _ _ => (keeps_when _ _ (Keeps.refl _) (fun _ => (keeps_wrBit _ _ _ _ _ (Keeps.refl _))))))
  clear_value x0
  intro x4
  have hx4 : Keeps s x4 := (keeps_each _ _ hx0 (fun _ _ => (keeps_when _ _ (Keeps.refl _) (fun _ => (keeps_wrBit _ _ _ _ _ (Keeps.refl _))))))
  clear_value x4
  exact (keeps_each _ _ hx4 (fun _ _ => (keeps_when _ _ (Keeps.refl _) (fun _ => (State.reach_keeps _ _ _ (Keeps.refl _))))))

theorem State.releaseCh_keeps {s00 : State} (s : State) (l : Lane) (c : Fin 64) (h0 : Keeps s00 s) :
    Keeps s00 (State.releaseCh s l c) := by
  refine keeps_trans h0 ?_
  unfold State.releaseCh
  lift_lets -useContext -merge -underBinder
  intro x0 x1
  have hx1 : Keeps s x1 := (keeps_clr _ _ _ _ (Keeps.refl _))
  clear_value x1
  refine keeps_ite (fun _ => ?_) (fun _ => ?_)
  · split
    · exact hx1
    · lift_lets -useContext -merge -underBinder
      intro x2
      try clear_value x2
      exact (State.follow_keeps _ _ _ _ (State.setLevel_keeps _ _ _ _ _ hx1))
  · exact (State.modCh_keeps _ _ _ _ (State.chOff_keeps _ _ _ hx1))

theorem State.retrip_keeps {s00 : State} (s : State) (l : Lane) (c : Fin 64) (h0 : Keeps s00 s) :
    Keeps s00 (State.retrip s l c) := by
  refine keeps_trans h0 ?_
  unfold State.retrip
  lift_lets -useContext -merge -underBinder
  intro x0 x1
  try clear_value x1
  refine keeps_ite (fun _ => ?_) (fun _ => ?_)
  · exact (Keeps.refl _)
  · refine keeps_ite (fun _ => ?_) (fun _ => ?_)
    · refine keeps_ite (fun _ => ?_) (fun _ => ?_)
      · exact (State.tripAct_keeps _ _ _ _ (Keeps.refl _))
      · exact (State.tripCh_keeps _ _ _ _ (Keeps.refl _))
    · refine keeps_ite (fun _ => ?_) (fun _ => ?_)
      · exact (State.releaseCh_keeps _ _ _ (Keeps.refl _))
      · exact (Keeps.refl _)

theorem State.clearTg_keeps {s00 : State} (s : State) (l : Lane) (g : Nat) (h0 : Keeps s00 s) :
    Keeps s00 (State.clearTg s l g) := by
  refine keeps_trans h0 ?_
  unfold State.clearTg
  lift_lets -useContext -merge -underBinder
  intro x0 x1
  have hx1 : Keeps s x1 := (keeps_wrBit _ _ _ _ _ (keeps_wrBit _ _ _ _ _ (Keeps.refl _)))
  clear_value x1
  intro x2
  have hx2 : Keeps s x2 := (keeps_wrBit _ _ _ _ _ hx1)
  clear_value x2
  refine keeps_ite (fun _ => ?_) (fun _ => ?_)
  · exact hx1
  · exact (keeps_each _ _ hx2 (fun _ _ => (keeps_when _ _ (Keeps.refl _) (fun _ => (State.releaseCh_keeps _ _ _ (Keeps.refl _))))))

theorem State.overlap_keeps {s00 : State} (s : State) (l : Lane) (c k : Fin 64) (h0 : Keeps s00 s) :
    Keeps s00 (State.overlap s l c k) := by
  refine keeps_trans h0 ?_
  unfold State.overlap
  lift_lets -useContext -merge -underBinder
  intro x0 x1
  have hx1 : Keeps s x1 := (keeps_each _ _ (Keeps.refl _) (fun y2 y3 => (by
    lift_lets -useContext -merge -underBinder
    intro x4
    have hx4 : Keeps y2 x4 := (State.modCh_keeps _ _ _ _ (keeps_inc _ _ _ _ _ (keeps_set _ _ _ _ (Keeps.refl _))))
    clear_value x4
    refine keeps_ite (fun _ => ?_) (fun _ => ?_)
    · exact (State.report_keeps _ _ _ _ _ (State.modCh_keeps _ _ _ _ hx4))
    · exact (State.modCh_keeps _ _ _ _ hx4)
)))
  clear_value x1
  intro x5
  have hx5 : Keeps s x5 := (State.irq_keeps _ _ _ _ hx1)
  clear_value x5
  refine keeps_ite (fun _ => ?_) (fun _ => ?_)
  · exact (State.raiseTg_keeps _ _ _ _ _ (State.raiseTg_keeps _ _ _ _ _ hx5))
  · exact hx5

theorem State.nextPoint_keeps {s00 : State} (s : State) (l : Lane) (t : Fin 8) (x : Int) (h0 : Keeps s00 s) :
    Keeps s00 (State.nextPoint s l t x) := by
  refine keeps_trans h0 ?_
  unfold State.nextPoint
  lift_lets -useContext -merge -underBinder
  intro x0
  try clear_value x0
  exact (State.modTb_keeps _ _ _ _ (Keeps.refl _))

theorem State.compares_keeps {s00 : State} (s : State) (l : Lane) (t : Fin 8) (c : Fin 64) (h0 : Keeps s00 s) :
    Keeps1 s00 (State.compares s l t c) := by
  refine keeps1_trans h0 ?_
  unfold State.compares
  lift_lets -useContext -merge -underBinder
  intro x0 x1
  try clear_value x1
  intro x2
  try clear_value x2
  intro x3
  try clear_value x3
  intro x4
  have hx4 : Keeps1 s x4 := (State.roundQ_keeps _ _ _ (Keeps.refl _))
  clear_value x4
  intro x5
  try clear_value x5
  intro x6
  have hx6 : Keeps s x6 := hx4.h
  clear_value x6
  intro x7
  have hx7 : Keeps1 s x7 := (State.roundQ_keeps _ _ _ (Keeps.refl _))
  clear_value x7
  intro x8
  try clear_value x8
  intro x9
  have hx9 : Keeps s x9 := hx7.h
  clear_value x9
  refine keeps1_ite (fun _ => ?_) (fun _ => ?_)
  · refine keeps1_ite (fun _ => ?_) (fun _ => ?_)
    · exact ⟨Keeps.snd hx6⟩
    · exact ⟨Keeps.snd hx9⟩
  · exact ⟨Keeps.snd (Keeps.refl _)⟩

theorem State.clamped_keeps {s00 : State} (s : State) (l : Lane) (c : Fin 64) (h0 : Keeps s00 s) :
    Keeps s00 (State.clamped s l c) := by
  refine keeps_trans h0 ?_
  unfold State.clamped
  exact (State.irq_keeps _ _ _ _ (keeps_inc _ _ _ _ _ (keeps_set _ _ _ _ (Keeps.refl _))))

theorem State.checkCmps_keeps {s00 : State} (s : State) (l : Lane) (t : Fin 8) (c : Fin 64) (vs : List Nat) (h0 : Keeps s00 s) :
    Keeps s00 (State.checkCmps s l t c vs) := by
  refine keeps_trans h0 ?_
  unfold State.checkCmps
  exact (keeps_each _ _ (Keeps.refl _) (fun _ _ => (keeps_when _ _ (Keeps.refl _) (fun _ => (State.clamped_keeps _ _ _ (Keeps.refl _))))))

theorem State.placeEvents_keeps {s00 : State} (s : State) (l : Lane) (t : Fin 8) (peak : Bool) (c : Fin 64) (h0 : Keeps s00 s) :
    Keeps0 s00 (State.placeEvents s l t peak c) := by
  refine keeps0_trans h0 ?_
  unfold State.placeEvents
  lift_lets -useContext -merge -underBinder
  intro x0 x1
  try clear_value x1
  intro x2
  try clear_value x2
  intro x3
  try clear_value x3
  intro x4
  try clear_value x4
  intro x5
  try clear_value x5
  intro x6
  try clear_value x6
  intro x7
  try clear_value x7
  intro x8
  try clear_value x8
  exact ⟨Keeps.fst (State.modCh_keeps _ _ _ _ (Keeps.refl _))⟩

theorem State.placeCh_keeps {s00 : State} (s : State) (l : Lane) (t : Fin 8) (peak : Bool) (x : Int) (c : Fin 64) (h0 : Keeps s00 s) :
    Keeps s00 (State.placeCh s l t peak x c) := by
  refine keeps_trans h0 ?_
  unfold State.placeCh
  lift_lets -useContext -merge -underBinder
  intro x0 x1
  try clear_value x1
  intro x2
  have hx2 : Keeps s x2 := (State.modCh_keeps _ _ _ _ (Keeps.refl _))
  clear_value x2
  intro x3
  have hx3 : Keeps1 s x3 := (State.compares_keeps _ _ _ _ hx2)
  clear_value x3
  intro x4
  try clear_value x4
  intro x5
  try clear_value x5
  intro x6
  have hx6 : Keeps s x6 := (State.modCh_keeps _ _ _ _ hx3.h)
  clear_value x6
  intro x7
  have hx7 : Keeps s x7 := (keeps_when _ _ hx6 (fun _ => (State.checkCmps_keeps _ _ _ _ _ (Keeps.refl _))))
  clear_value x7
  intro x9
  have hx9 : Keeps0 s x9 := (State.placeEvents_keeps _ _ _ _ _ hx7)
  clear_value x9
  refine keeps_ite (fun _ => ?_) (fun _ => ?_)
  · refine keeps_ite (fun _ => ?_) (fun _ => ?_)
    · exact hx2
    · refine keeps_ite (fun _ => ?_) (fun _ => ?_)
      · exact (State.filtered_keeps _ _ _ hx9.h)
      · exact hx9.h
  · exact (Keeps.refl _)

theorem State.mirrorCh_keeps {s00 : State} (s : State) (l : Lane) (t : Fin 8) (x : Int) (c : Fin 64) (h0 : Keeps s00 s) :
    Keeps s00 (State.mirrorCh s l t x c) := by
  refine keeps_trans h0 ?_
  unfold State.mirrorCh
  lift_lets -useContext -merge -underBinder
  intro x0
  try clear_value x0
  intro x1
  try clear_value x1
  intro x2
  try clear_value x2
  intro x3
  try clear_value x3
  intro x4
  have hx4 : Keeps1 s x4 := (State.roundQ_keeps _ _ _ (Keeps.refl _))
  clear_value x4
  intro x5
  try clear_value x5
  intro x6
  try clear_value x6
  refine keeps_ite (fun _ => ?_) (fun _ => ?_)
  · exact (State.modCh_keeps _ _ _ _ (keeps_ite (fun _ => (Keeps.refl _)) (fun _ => hx4.h)))
  · exact (Keeps.refl _)

theorem State.muxReport_keeps {s00 : State} (s : State) (l : Lane) (t : Fin 8) (h0 : Keeps s00 s) :
    Keeps s00 (State.muxReport s l t) := by
  refine keeps_trans h0 ?_
  unfold State.muxReport
  lift_lets -useContext -merge -underBinder
  intro x0 x1
  try clear_value x1
  intro x2
  try clear_value x2
  intro x3
  try clear_value x3
  refine keeps_ite (fun _ => ?_) (fun _ => ?_)
  · exact (Keeps.of_frame (Keeps.refl _) rfl rfl rfl rfl rfl)
  · exact (Keeps.refl _)

theorem State.planEvents_keeps {s00 : State} (s : State) (l : Lane) (t : Fin 8) (x : Int) (keep : Bool) (h0 : Keeps s00 s) :
    Keeps s00 (State.planEvents s l t x keep) := by
  refine keeps_trans h0 ?_
  unfold State.planEvents
  lift_lets -useContext -merge -underBinder
  intro x0
  exact (keeps_each _ _ (Keeps.refl _) (fun y1 y2 => (keeps_ite (fun _ => (by
    lift_lets -useContext -merge -underBinder
    intro x3
    try clear_value x3
    exact (State.modPwm_keeps _ _ _ (Keeps.refl _))
)) (fun _ => (Keeps.refl _)))))

theorem State.fireEv_keeps {s00 : State} (s : State) (l : Lane) (k : Fin 8) (h0 : Keeps s00 s) :
    Keeps s00 (State.fireEv s l k) := by
  refine keeps_trans h0 ?_
  unfold State.fireEv
  split
  · exact (State.event_keeps _ _ _ (State.modPwm_keeps _ _ _ (State.advSteps_keeps _ _ (Keeps.refl _))))
  · exact (Keeps.refl _)

theorem State.fireDue_keeps {s00 : State} (s : State) (l : Lane) (t : Fin 8) (x : Int) (h0 : Keeps s00 s) :
    Keeps s00 (State.fireDue s l t x) := by
  refine keeps_trans h0 ?_
  unfold State.fireDue
  exact (keeps_each _ _ (Keeps.refl _) (fun _ _ => (keeps_ite (fun _ => (keeps_each _ _ (Keeps.refl _) (fun _ _ => (State.fireEv_keeps _ _ _ (Keeps.refl _))))) (fun _ => (Keeps.refl _)))))

theorem State.transferSet_keeps {s00 : State} (s : State) (l : Lane) (t : Fin 8) (h0 : Keeps s00 s) :
    Keeps s00 (State.transferSet s l t) := by
  refine keeps_trans h0 ?_
  unfold State.transferSet
  lift_lets -useContext -merge -underBinder
  intro x0 x1
  try clear_value x1
  intro x2
  try clear_value x2
  intro x3
  try clear_value x3
  intro x4
  have hx4 : Keeps s x4 := (keeps_wr _ _ _ _ _ (State.modTb_keeps _ _ _ _ (Keeps.refl _)))
  clear_value x4
  intro x5
  have hx5 : Keeps s x5 := (keeps_each _ _ hx4 (fun y6 y7 => (keeps_ite (fun _ => (by
    lift_lets -useContext -merge -underBinder
    intro x8
    try clear_value x8
    intro x9
    try clear_value x9
    exact (State.checkCmps_keeps _ _ _ _ _ (State.modCh_keeps _ _ _ _ (Keeps.refl _)))
)) (fun _ => (Keeps.refl _)))))
  clear_value x5
  exact (keeps_inc _ _ _ _ _ (keeps_clr _ _ _ _ (keeps_clr _ _ _ _ hx5)))

theorem State.startTb_keeps {s00 : State} (s : State) (l : Lane) (t : Fin 8) (h0 : Keeps s00 s) :
    Keeps s00 (State.startTb s l t) := by
  refine keeps_trans h0 ?_
  unfold State.startTb
  lift_lets -useContext -merge -underBinder
  intro x0 x1
  try clear_value x1
  intro x2
  have hx2 : Keeps s x2 := (State.modTb_keeps _ _ _ _ (Keeps.refl _))
  clear_value x2
  intro x3
  have hx3 : Keeps s x3 := (State.modTb_keeps _ _ _ _ (State.transferSet_keeps _ _ _ hx2))
  clear_value x3
  exact (State.planEvents_keeps _ _ _ _ _ (keeps_wr _ _ _ _ _ (keeps_set _ _ _ _ hx3)))

theorem State.stopTb_keeps {s00 : State} (s : State) (l : Lane) (t : Fin 8) (h0 : Keeps s00 s) :
    Keeps s00 (State.stopTb s l t) := by
  refine keeps_trans h0 ?_
  unfold State.stopTb
  exact (State.planEvents_keeps _ _ _ _ _ (keeps_clr _ _ _ _ (State.modTb_keeps _ _ _ _ (Keeps.refl _))))

theorem State.enableCh_keeps {s00 : State} (s : State) (l : Lane) (c : Fin 64) (en : Bool) (h0 : Keeps s00 s) :
    Keeps s00 (State.enableCh s l c en) := by
  refine keeps_trans h0 ?_
  unfold State.enableCh
  lift_lets -useContext -merge -underBinder
  intro x0 x1
  have hx1 : Keeps s x1 := (State.chOff_keeps _ _ _ (State.dropEng_keeps _ _ _ (Keeps.refl _)))
  clear_value x1
  intro x2
  have hx2 : Keeps s x2 := (keeps_clr _ _ _ _ (State.modCh_keeps _ _ _ _ (keeps_put _ _ _ _ _ hx1)))
  clear_value x2
  intro x3
  have hx3 : Keeps s x3 := (keeps_clr _ _ _ _ hx2)
  clear_value x3
  intro x4
  have hx4 : Keeps s x4 := (keeps_when _ _ hx3 (fun _ => (State.tripCh_keeps _ _ _ _ (Keeps.refl _))))
  clear_value x4
  intro x6
  have hx6 : Keeps s x6 := (keeps_when _ _ hx4 (fun _ => (keeps_set _ _ _ _ (Keeps.refl _))))
  clear_value x6
  exact (State.syncCfgErrs_keeps _ _ hx6)

theorem State.replaceTb_keeps {s00 : State} (s : State) (l : Lane) (t : Fin 8) (h0 : Keeps s00 s) :
    Keeps s00 (State.replaceTb s l t) := by
  refine keeps_trans h0 ?_
  unfold State.replaceTb
  lift_lets -useContext -merge -underBinder
  intro x0
  try clear_value x0
  intro x1
  exact (keeps_each _ _ (Keeps.refl _) (fun _ _ => (keeps_ite (fun _ => (State.modCh_keeps _ _ _ _ (State.placeEvents_keeps _ _ _ _ _ (Keeps.refl _)).h)) (fun _ => (Keeps.refl _)))))

theorem State.loadTb_keeps {s00 : State} (s : State) (l : Lane) (t : Fin 8) (pos : Nat) (falling : Bool) (h0 : Keeps s00 s) :
    Keeps s00 (State.loadTb s l t pos falling) := by
  refine keeps_trans h0 ?_
  unfold State.loadTb
  lift_lets -useContext -merge -underBinder
  intro x0
  try clear_value x0
  intro x1
  have hx1 : Keeps s x1 := (State.modTb_keeps _ _ _ _ (Keeps.refl _))
  clear_value x1
  exact (State.planEvents_keeps _ _ _ _ _ (State.replaceTb_keeps _ _ _ hx1))


end Sys2Proof.Machine
end

