-- ==== Sys2Proof/Laws/KeepsCeOps.lean ====
section
/-!
SUPPORT. The operations of Machine/CeOps.lean keep what `Keeps` says (Laws/Keeps.lean).
-/
namespace Sys2Proof.Machine

theorem State.modBand_keeps {s00 : State} (s : State) (l : Lane) (n : Fin 32) (f : BandSt → BandSt) (h0 : Keeps s00 s) :
    Keeps s00 (State.modBand s l n f) := by
  refine keeps_trans h0 ?_
  unfold State.modBand
  exact (State.modCe_keeps _ _ _ (Keeps.refl _))

theorem State.toSettle_keeps {s00 : State} (s : State) (l : Lane) (n : Fin 32) (h0 : Keeps s00 s) :
    Keeps s00 (State.toSettle s l n) := by
  refine keeps_trans h0 ?_
  unfold State.toSettle
  exact (keeps_wr _ _ _ _ _ (State.modBand_keeps _ _ _ _ (Keeps.refl _)))

theorem State.bandTake_keeps {s00 : State} (s : State) (l : Lane) (n : Fin 32) (level : Bool) (h0 : Keeps s00 s) :
    Keeps s00 (State.bandTake s l n level) := by
  refine keeps_trans h0 ?_
  unfold State.bandTake
  lift_lets -useContext -merge -underBinder
  intro x0
  try clear_value x0
  intro x1
  have hx1 : Keeps s x1 := (keeps_put _ _ _ _ _ (Keeps.refl _))
  clear_value x1
  refine keeps_ite (fun _ => ?_) (fun _ => ?_)
  · exact (Keeps.refl _)
  · refine keeps_ite (fun _ => ?_) (fun _ => ?_)
    · exact hx1
    · exact (State.toSettle_keeps _ _ _ hx1)

theorem State.modTrc_keeps {s00 : State} (s : State) (l : Lane) (b : Fin 8) (f : TrcBuf → TrcBuf) (h0 : Keeps s00 s) :
    Keeps s00 (State.modTrc s l b f) := by
  refine keeps_trans h0 ?_
  unfold State.modTrc
  lift_lets -useContext -merge -underBinder
  intro x0 x1
  have hx1 : Keeps s x1 := (State.modCe_keeps _ _ _ (Keeps.refl _))
  clear_value x1
  intro x2
  try clear_value x2
  intro x3
  try clear_value x3
  intro x4
  try clear_value x4
  intro x5
  try clear_value x5
  exact (keeps_wr _ _ _ _ _ (keeps_wr _ _ _ _ _ (keeps_wr _ _ _ _ _ hx1)))

theorem State.putWord_keeps {s00 : State} (s : State) (l : Lane) (key v : Nat) (h0 : Keeps s00 s) :
    Keeps s00 (s.putWord l key v) := keeps_setTable l key v h0

theorem State.trcStore_keeps {s00 : State} (s : State) (l : Lane) (b : Fin 8) (v : Nat) (h0 : Keeps s00 s) :
    Keeps s00 (State.trcStore s l b v) := by
  refine keeps_trans h0 ?_
  unfold State.trcStore
  lift_lets -useContext -merge -underBinder
  intro x0
  try clear_value x0
  intro x1
  try clear_value x1
  intro x2
  have hx2 : Keeps s x2 := (keeps_ite (fun _ => (State.putWord_keeps _ _ _ _ (State.putWord_keeps _ _ _ _ (Keeps.refl _)))) (fun _ => (State.putWord_keeps _ _ _ _ (Keeps.refl _))))
  clear_value x2
  intro x3
  try clear_value x3
  exact (State.modTrc_keeps _ _ _ _ hx2)

theorem State.traceLevel_keeps {s00 : State} (s : State) (l : Lane) (code : Nat) (v : Int) (h0 : Keeps s00 s) :
    Keeps s00 (State.traceLevel s l code v) := by
  refine keeps_trans h0 ?_
  unfold State.traceLevel
  exact (keeps_each _ _ (Keeps.refl _) (fun y0 y1 => (by
    lift_lets -useContext -merge -underBinder
    intro x2 x3
    try clear_value x3
    exact (keeps_when _ _ (Keeps.refl _) (fun y4 => (by
      lift_lets -useContext -merge -underBinder
      intro x5
      try clear_value x5
      exact (keeps_when _ _ (State.modCe_keeps _ _ _ (Keeps.refl _)) (fun _ => (State.trcSend_keeps _ _ _ (Keeps.refl _))))
)))
)))

theorem State.traceUpdate_keeps {s00 : State} (s : State) (l : Lane) (probe v : Nat) (h0 : Keeps s00 s) :
    Keeps s00 (State.traceUpdate s l probe v) := by
  refine keeps_trans h0 ?_
  unfold State.traceUpdate
  exact (keeps_each _ _ (Keeps.refl _) (fun y0 y1 => (by
    lift_lets -useContext -merge -underBinder
    intro x2 x3
    try clear_value x3
    refine keeps_ite (fun _ => ?_) (fun _ => ?_)
    · refine keeps_ite (fun _ => ?_) (fun _ => ?_)
      · exact (State.trcStore_keeps _ _ _ _ (State.modTrc_keeps _ _ _ _ (Keeps.refl _)))
      · exact (State.modTrc_keeps _ _ _ _ (Keeps.refl _))
    · exact (Keeps.refl _)
)))

theorem State.bandUpdate_keeps {s00 : State} (s : State) (l : Lane) (code : Nat) (h0 : Keeps s00 s) :
    Keeps s00 (State.bandUpdate s l code) := by
  refine keeps_trans h0 ?_
  unfold State.bandUpdate
  exact (keeps_each _ _ (Keeps.refl _) (fun _ _ => (keeps_when _ _ (Keeps.refl _) (fun _ => (State.modBand_keeps _ _ _ _ (Keeps.refl _))))))

theorem State.ceSource_keeps {s00 : State} (s : State) (l : Lane) (code : Nat) (v : Int) (valid : Bool) (h0 : Keeps s00 s) :
    Keeps s00 (State.ceSource s l code v valid) := by
  refine keeps_trans h0 ?_
  unfold State.ceSource
  exact (State.bandUpdate_keeps _ _ _ (State.traceLevel_keeps _ _ _ _ (State.traceUpdate_keeps _ _ _ _ (keeps_when _ _ (Keeps.refl _) (fun _ => (State.modCe_keeps _ _ _ (Keeps.refl _)))))))


end Sys2Proof.Machine
end

