-- ==== Sys2Proof/Laws/KeepsAdcOps.lean ====
section
/-!
SUPPORT. The operations of Machine/AdcOps.lean keep what `Keeps` says (Laws/Keeps.lean).
-/
namespace Sys2Proof.Machine

theorem State.modSdf_keeps {s00 : State} (s : State) (l : Lane) (n : Fin 12) (f : SdfSt → SdfSt) (h0 : Keeps s00 s) :
    Keeps s00 (State.modSdf s l n f) := by
  refine keeps_trans h0 ?_
  unfold State.modSdf
  exact (keeps_modRun _ _ (Keeps.refl _) fun _ hr => hr)

theorem State.modCorr_keeps {s00 : State} (s : State) (l : Lane) (k : Nat) (f : Corr → Corr) (h0 : Keeps s00 s) :
    Keeps s00 (State.modCorr s l k f) := by
  refine keeps_trans h0 ?_
  unfold State.modCorr
  refine keeps_ite (fun _ => ?_) (fun _ => ?_)
  · exact (State.modAdc_keeps _ _ _ (Keeps.refl _))
  · exact (State.modSdf_keeps _ _ _ _ (Keeps.refl _))

theorem State.startMove_keeps {s00 : State} (s : State) (l : Lane) (k env newBound : Nat) (h0 : Keeps s00 s) :
    Keeps s00 (State.startMove s l k env newBound) := by
  refine keeps_trans h0 ?_
  unfold State.startMove
  lift_lets -useContext -merge -underBinder
  intro x0
  try clear_value x0
  intro x1 x2
  try clear_value x2
  intro x3
  try clear_value x3
  intro x4
  try clear_value x4
  exact (keeps_wrSat _ _ _ _ _ (keeps_set _ _ _ _ (keeps_wr _ _ _ _ _ (State.modCorr_keeps _ _ _ _ (Keeps.refl _)))))

theorem State.moveStep_keeps {s00 : State} (s : State) (l : Lane) (k : Nat) (h0 : Keeps s00 s) :
    Keeps s00 (State.moveStep s l k) := by
  refine keeps_trans h0 ?_
  unfold State.moveStep
  lift_lets -useContext -merge -underBinder
  intro x0
  try clear_value x0
  intro x1
  split
  · exact (Keeps.refl _)
  · lift_lets -useContext -merge -underBinder
    intro x2
    try clear_value x2
    intro x3
    have hx3 : Keeps1 s x3 := (State.quot_keeps _ _ _ (Keeps.refl _))
    clear_value x3
    intro x4
    try clear_value x4
    intro x5
    have hx5 : Keeps s x5 := hx3.h
    clear_value x5
    intro x6
    have hx6 : Keeps1 s x6 := (State.quot_keeps _ _ _ hx5)
    clear_value x6
    intro x7
    try clear_value x7
    intro x8
    have hx8 : Keeps s x8 := hx6.h
    clear_value x8
    intro x9
    have hx9 : Keeps s x9 := (keeps_wrS _ _ _ _ _ (keeps_wrS _ _ _ _ _ hx8))
    clear_value x9
    refine keeps_ite (fun _ => ?_) (fun _ => ?_)
    · exact (keeps_wrSat _ _ _ _ _ (keeps_clr _ _ _ _ (State.modCorr_keeps _ _ _ _ hx9)))
    · exact (State.modCorr_keeps _ _ _ _ hx9)

theorem State.corrWrite_keeps {s00 : State} (s : State) (l : Lane) (k gain offset : Nat) (h0 : Keeps s00 s) :
    Keeps s00 (State.corrWrite s l k gain offset) := by
  refine keeps_trans h0 ?_
  unfold State.corrWrite
  lift_lets -useContext -merge -underBinder
  intro x0
  try clear_value x0
  intro x1 x2
  have hx2 : Keeps s x2 := (keeps_wr _ _ _ _ _ (keeps_wr _ _ _ _ _ (Keeps.refl _)))
  clear_value x2
  exact (State.startMove_keeps _ _ _ _ _ (State.modCorr_keeps _ _ _ _ hx2))

theorem State.outsideBound_keeps {s00 : State} (s : State) (e0 : Nat) (r : Int × Int) (h0 : Keeps s00 s) :
    Keeps1 s00 (State.outsideBound s e0 r) := by
  refine keeps1_trans h0 ?_
  unfold State.outsideBound
  lift_lets -useContext -merge -underBinder
  intro x0
  have hx0 : Keeps1 s x0 := (State.quot_keeps _ _ _ (Keeps.refl _))
  clear_value x0
  intro x1
  try clear_value x1
  intro x2
  have hx2 : Keeps s x2 := hx0.h
  clear_value x2
  exact ⟨Keeps.snd hx2⟩

theorem State.setBound_keeps {s00 : State} (s : State) (l : Lane) (k b : Nat) (h0 : Keeps s00 s) :
    Keeps s00 (State.setBound s l k b) := by
  refine keeps_trans h0 ?_
  unfold State.setBound
  lift_lets -useContext -merge -underBinder
  intro x0
  try clear_value x0
  split
  · exact (keeps_wrSat _ _ _ _ _ (Keeps.refl _))
  · exact (keeps_wrSat _ _ _ _ _ (State.modCorr_keeps _ _ _ _ (Keeps.refl _)))

theorem State.evalEnv_keeps {s00 : State} (s : State) (l : Lane) (k : Nat) (h0 : Keeps s00 s) :
    Keeps s00 (State.evalEnv s l k) := by
  refine keeps_trans h0 ?_
  unfold State.evalEnv
  lift_lets -useContext -merge -underBinder
  intro x0
  try clear_value x0
  intro x1
  split
  · exact (Keeps.refl _)
  · lift_lets -useContext -merge -underBinder
    intro x2
    try clear_value x2
    intro x3
    try clear_value x3
    intro x4
    try clear_value x4
    intro x5
    try clear_value x5
    intro x6
    try clear_value x6
    intro x7
    try clear_value x7
    intro x8
    try clear_value x8
    intro x9
    try clear_value x9
    intro x10
    have hx10 : Keeps1 s x10 := (State.outsideBound_keeps _ _ _ (Keeps.refl _))
    clear_value x10
    intro x11
    try clear_value x11
    intro x12
    have hx12 : Keeps s x12 := hx10.h
    clear_value x12
    intro x13
    have hx13 : Keeps s x13 := (State.startMove_keeps _ _ _ _ _ (Keeps.refl _))
    clear_value x13
    intro x14
    have hx14 : Keeps1 s x14 := (State.outsideBound_keeps _ _ _ (Keeps.refl _))
    clear_value x14
    intro x15
    try clear_value x15
    intro x16
    have hx16 : Keeps s x16 := hx14.h
    clear_value x16
    intro x17
    have hx17 : Keeps1 s x17 := (State.outsideBound_keeps _ _ _ (Keeps.refl _))
    clear_value x17
    intro x18
    try clear_value x18
    intro x19
    have hx19 : Keeps s x19 := hx17.h
    clear_value x19
    refine keeps_ite (fun _ => ?_) (fun _ => ?_)
    · refine keeps_ite (fun _ => ?_) (fun _ => ?_)
      · exact (State.setBound_keeps _ _ _ _ (keeps_wr _ _ _ _ _ hx12))
      · exact (Keeps.refl _)
    · refine keeps_ite (fun _ => ?_) (fun _ => ?_)
      · refine keeps_ite (fun _ => ?_) (fun _ => ?_)
        · exact (State.setBound_keeps _ _ _ _ (keeps_wr _ _ _ _ _ (Keeps.refl _)))
        · refine keeps_ite (fun _ => ?_) (fun _ => ?_)
          · exact (State.irq_keeps _ _ _ _ (keeps_set _ _ _ _ (keeps_inc _ _ _ _ _ (State.log_keeps _ _ _ _ hx13))))
          · exact (State.setBound_keeps _ _ _ _ hx16)
      · refine keeps_ite (fun _ => ?_) (fun _ => ?_)
        · refine keeps_ite (fun _ => ?_) (fun _ => ?_)
          · exact (State.log_keeps _ _ _ _ (State.startMove_keeps _ _ _ _ _ hx19))
          · exact (Keeps.refl _)
        · exact (Keeps.refl _)

theorem State.adcBoundary_keeps {s00 : State} (s : State) (l : Lane) (h0 : Keeps s00 s) :
    Keeps s00 (State.adcBoundary s l) := by
  refine keeps_trans h0 ?_
  unfold State.adcBoundary
  lift_lets -useContext -merge -underBinder
  intro x0 x1
  have hx1 : Keeps s x1 := (keeps_each _ _ (Keeps.refl _) (fun _ _ => (State.moveStep_keeps _ _ _ (Keeps.refl _))))
  clear_value x1
  intro x4
  try clear_value x4
  intro x5
  try clear_value x5
  intro x6
  try clear_value x6
  intro x7
  try clear_value x7
  intro x8
  have hx8 : Keeps1 s x8 := (State.quot_keeps _ _ _ hx1)
  clear_value x8
  intro x9
  try clear_value x9
  intro x10
  have hx10 : Keeps s x10 := hx8.h
  clear_value x10
  intro x11
  have hx11 : Keeps s x11 := (keeps_wr _ _ _ _ _ (keeps_wrSat _ _ _ _ _ (keeps_wr _ _ _ _ _ hx10)))
  clear_value x11
  refine keeps_ite (fun _ => ?_) (fun _ => ?_)
  · exact (keeps_each _ _ hx11 (fun _ _ => (State.evalEnv_keeps _ _ _ (Keeps.refl _))))
  · exact hx1

theorem State.loadRecord_keeps {s00 : State} (s : State) (l : Lane) (x : CalRecord) (h0 : Keeps s00 s) :
    Keeps s00 (State.loadRecord s l x) := by
  refine keeps_trans h0 ?_
  unfold State.loadRecord
  exact (State.startMove_keeps _ _ _ _ _ (State.modCorr_keeps _ _ _ _ (Keeps.refl _)))

theorem State.loadFactory_keeps {s00 : State} (s : State) (l : Lane) (k : Nat) (h0 : Keeps s00 s) :
    Keeps s00 (State.loadFactory s l k) := by
  refine keeps_trans h0 ?_
  unfold State.loadFactory
  lift_lets -useContext -merge -underBinder
  intro x0
  try clear_value x0
  intro x1 x2
  have hx2 : Keeps s x2 := (keeps_wr _ _ _ _ _ (keeps_wr _ _ _ _ _ (Keeps.refl _)))
  clear_value x2
  intro x3
  have hx3 : Keeps s x3 := (keeps_wr _ _ _ _ _ (keeps_wr _ _ _ _ _ hx2))
  clear_value x3
  exact (keeps_wr _ _ _ _ _ (keeps_wr _ _ _ _ _ (State.modCorr_keeps _ _ _ _ hx3)))

theorem State.correct_keeps {s00 : State} (s : State) (l : Lane) (c : Nat) (y : Int) (h0 : Keeps s00 s) :
    Keeps1 s00 (State.correct s l c y) := by
  refine keeps1_trans h0 ?_
  unfold State.correct
  lift_lets -useContext -merge -underBinder
  intro x0 x1
  have hx1 : Keeps1 s x1 := (State.quot_keeps _ _ _ (Keeps.refl _))
  clear_value x1
  intro x2
  try clear_value x2
  intro x3
  have hx3 : Keeps s x3 := hx1.h
  clear_value x3
  exact ⟨Keeps.snd hx3⟩

theorem State.modRes_keeps {s00 : State} (s : State) (l : Lane) (n : Fin 2) (f : ResSt → ResSt) (h0 : Keeps s00 s) :
    Keeps s00 (State.modRes s l n f) := by
  refine keeps_trans h0 ?_
  unfold State.modRes
  exact (keeps_modRun _ _ (Keeps.refl _) fun _ hr => hr)

theorem State.resSample_keeps {s00 : State} (s : State) (l : Lane) (g : Fin 12) (slice raw : Nat) (h0 : Keeps s00 s) :
    Keeps s00 (State.resSample s l g slice raw) := by
  refine keeps_trans h0 ?_
  unfold State.resSample
  lift_lets -useContext -merge -underBinder
  intro x0 x1
  try clear_value x1
  intro x2
  try clear_value x2
  intro x3
  try clear_value x3
  intro x4
  have hx4 : Keeps s x4 := (State.modGrp_keeps _ _ _ _ (Keeps.refl _))
  clear_value x4
  exact (keeps_each _ _ hx4 (fun y5 y6 => (keeps_when _ _ (Keeps.refl _) (fun y7 => (by
    lift_lets -useContext -merge -underBinder
    intro x8
    try clear_value x8
    exact (State.modRes_keeps _ _ _ _ (Keeps.refl _))
)))))

theorem State.pushQ11_keeps {s00 : State} (s : State) (l : Lane) (e stamp : Nat) (h0 : Keeps s00 s) :
    Keeps s00 (State.pushQ11 s l e stamp) := by
  refine keeps_trans h0 ?_
  unfold State.pushQ11
  lift_lets -useContext -merge -underBinder
  intro x0
  try clear_value x0
  refine keeps_ite (fun _ => ?_) (fun _ => ?_)
  · exact (keeps_inc _ _ _ _ _ (keeps_set _ _ _ _ (State.modAdc_keeps _ _ _ (Keeps.refl _))))
  · exact (State.modAdc_keeps _ _ _ (Keeps.refl _))

theorem State.pushQ12_keeps {s00 : State} (s : State) (l : Lane) (e stamp : Nat) (h0 : Keeps s00 s) :
    Keeps s00 (State.pushQ12 s l e stamp) := by
  refine keeps_trans h0 ?_
  unfold State.pushQ12
  lift_lets -useContext -merge -underBinder
  intro x0
  try clear_value x0
  refine keeps_ite (fun _ => ?_) (fun _ => ?_)
  · exact (keeps_inc _ _ _ _ _ (keeps_set _ _ _ _ (State.modAdc_keeps _ _ _ (Keeps.refl _))))
  · exact (State.irq_keeps _ _ _ _ (State.modAdc_keeps _ _ _ (Keeps.refl _)))

theorem State.pdFault_keeps {s00 : State} (s : State) (l : Lane) (n : Fin 16) (h0 : Keeps s00 s) :
    Keeps s00 (State.pdFault s l n) := by
  refine keeps_trans h0 ?_
  unfold State.pdFault
  exact (State.tripSource_keeps _ _ _ _ (State.irqOf_keeps _ _ _ _ _ (keeps_wrBit _ _ _ _ _ (Keeps.refl _))))

theorem State.shortDetect_keeps {s00 : State} (s : State) (l : Lane) (n : Fin 16) (c : Nat) (z : Int) (stamp : Nat) (h0 : Keeps s00 s) :
    Keeps s00 (State.shortDetect s l n c z stamp) := by
  refine keeps_trans h0 ?_
  unfold State.shortDetect
  lift_lets -useContext -merge -underBinder
  intro x0 x1
  try clear_value x1
  intro x2
  try clear_value x2
  intro x3
  try clear_value x3
  intro x4
  have hx4 : Keeps s x4 := (State.modHb_keeps _ _ _ _ (Keeps.refl _))
  clear_value x4
  refine keeps_ite (fun _ => ?_) (fun _ => ?_)
  · split
    · lift_lets -useContext -merge -underBinder
      intro x5
      try clear_value x5
      intro x6
      try clear_value x6
      intro x7
      try clear_value x7
      intro x8
      try clear_value x8
      intro x9
      have hx9 : Keeps s x9 := (State.pdOff_keeps _ _ _ _ (State.pdOff_keeps _ _ _ _ hx4))
      clear_value x9
      refine keeps_ite (fun _ => ?_) (fun _ => ?_)
      · exact (State.pdFault_keeps _ _ _ (keeps_set _ _ _ _ (State.modHb_keeps _ _ _ _ hx9)))
      · exact hx4
    · exact hx4
  · exact (Keeps.refl _)

theorem State.sdfTrip_keeps {s00 : State} (s : State) (l : Lane) (n : Fin 12) (hi lo : Bool) (h0 : Keeps s00 s) :
    Keeps s00 (State.sdfTrip s l n hi lo) := by
  refine keeps_trans h0 ?_
  unfold State.sdfTrip
  lift_lets -useContext -merge -underBinder
  intro x0 x1
  have hx1 : Keeps s x1 := (keeps_put _ _ _ _ _ (keeps_put _ _ _ _ _ (Keeps.refl _)))
  clear_value x1
  exact (State.tripSource_keeps _ _ _ _ (State.tripSource_keeps _ _ _ _ (keeps_wrBit _ _ _ _ _ hx1)))

theorem State.sdfFault_keeps {s00 : State} (s : State) (l : Lane) (n : Fin 12) (flag : Fld) (h0 : Keeps s00 s) :
    Keeps s00 (State.sdfFault s l n flag) := by
  refine keeps_trans h0 ?_
  unfold State.sdfFault
  lift_lets -useContext -merge -underBinder
  intro x0 x1
  have hx1 : Keeps s x1 := (keeps_wrBit _ _ _ _ _ (keeps_clr _ _ _ _ (keeps_set _ _ _ _ (Keeps.refl _))))
  clear_value x1
  exact (State.tripSource_keeps _ _ _ _ (State.sdfTrip_keeps _ _ _ _ _ hx1))

theorem State.sdfCleared_keeps {s00 : State} (s : State) (l : Lane) (n : Fin 12) (h0 : Keeps s00 s) :
    Keeps s00 (State.sdfCleared s l n) := by
  refine keeps_trans h0 ?_
  unfold State.sdfCleared
  lift_lets -useContext -merge -underBinder
  intro x0
  refine keeps_ite (fun _ => ?_) (fun _ => ?_)
  · exact (Keeps.refl _)
  · exact (State.tripSource_keeps _ _ _ _ (keeps_wrBit _ _ _ _ _ (Keeps.refl _)))


end Sys2Proof.Machine
end

