-- ==== Sys2Proof/Laws/KeepsMedia.lean ====
section
/-!
SUPPORT. The operations of Machine/Media.lean keep what `Keeps` says (Laws/Keeps.lean).
-/
namespace Sys2Proof.Machine

theorem State.norProgram_keeps {s00 : State} (s : State) (l : Lane) (off : Nat) (bs : List Nat) (h0 : Keeps s00 s) :
    Keeps s00 (s.norProgram l off bs) := by
  refine keeps_modNv _ _ h0 ⟨Nat.le_refl _, fun _ h => h, fun _ h => h, fun h => ?_⟩
  simp only [LaneNv.storesOk, Bool.and_eq_true] at h ⊢
  exact ⟨swf_sputAll _ _ _ h.1, h.2⟩

theorem State.emmcProgram_keeps {s00 : State} (s : State) (l : Lane) (off : Nat) (bs : List Nat) (h0 : Keeps s00 s) :
    Keeps s00 (s.emmcProgram l off bs) := by
  refine keeps_modNv _ _ h0 ⟨Nat.le_refl _, fun _ h => h, fun _ h => h, fun h => ?_⟩
  simp only [LaneNv.storesOk, Bool.and_eq_true] at h ⊢
  exact ⟨h.1, swf_sputAll _ _ _ h.2⟩

theorem State.norErase_keeps {s00 : State} (s : State) (l : Lane) (from_ to_ : Nat) (h0 : Keeps s00 s) :
    Keeps s00 (s.norErase l from_ to_) := by
  refine keeps_modNv _ _ h0 ⟨Nat.le_refl _, fun _ h => h, fun _ h => h, fun h => ?_⟩
  simp only [LaneNv.storesOk, Bool.and_eq_true] at h ⊢
  exact ⟨swf_filter _ _ _ _ h.1, h.2⟩

theorem State.keyWrap_keeps {s00 : State} (s : State) (l : Lane) (b : Fin 2) (h0 : Keeps s00 s) :
    Keeps s00 (State.keyWrap s l b) := by
  refine keeps_trans h0 ?_
  unfold State.keyWrap
  exact (State.emmcProgram_keeps _ _ _ _ (Keeps.refl _))


end Sys2Proof.Machine
end

