-- ==== Sys2Proof/Laws/KeepsNrgOps.lean ====
section
/-!
SUPPORT. The operations of Machine/NrgOps.lean keep what `Keeps` says (Laws/Keeps.lean).
-/
namespace Sys2Proof.Machine

theorem State.modNrg_keeps {s00 : State} (s : State) (l : Lane) (f : NrgSt → NrgSt) (h0 : Keeps s00 s) :
    Keeps s00 (State.modNrg s l f) := by
  refine keeps_trans h0 ?_
  unfold State.modNrg
  exact (keeps_modRun _ _ (Keeps.refl _) fun _ hr => hr)

theorem State.setK3_keeps {s00 : State} (s : State) (l : Lane) (slot : Nat) (v : Nat) (h0 : Keeps s00 s) :
    Keeps s00 (State.setK3 s l slot v) := by
  refine keeps_trans h0 ?_
  unfold State.setK3
  exact (keeps_wr _ _ _ _ _ (Keeps.refl _))

theorem State.obcGo_keeps {s00 : State} (s : State) (l : Lane) (st : Nat) (h0 : Keeps s00 s) :
    Keeps s00 (State.obcGo s l st) := by
  refine keeps_trans h0 ?_
  unfold State.obcGo
  exact (State.modNrg_keeps _ _ _ (keeps_wr _ _ _ _ _ (Keeps.refl _)))

theorem State.plimStep_keeps {s00 : State} (s : State) (l : Lane) (h0 : Keeps s00 s) :
    Keeps s00 (State.plimStep s l) := by
  refine keeps_trans h0 ?_
  unfold State.plimStep
  lift_lets -useContext -merge -underBinder
  intro x0 x1
  try clear_value x1
  intro x2
  try clear_value x2
  intro x3
  try clear_value x3
  intro x4
  try clear_value x4
  intro x5
  try clear_value x5
  intro x6
  try clear_value x6
  intro x7
  try clear_value x7
  intro x8
  have hx8 : Keeps s x8 := (State.modNrg_keeps _ _ _ (Keeps.refl _))
  clear_value x8
  intro x9
  have hx9 : Keeps s x9 := (keeps_put _ _ _ _ _ (keeps_wrSat _ _ _ _ _ hx8))
  clear_value x9
  exact (keeps_put _ _ _ _ _ (keeps_put _ _ _ _ _ (keeps_put _ _ _ _ _ (keeps_wr _ _ _ _ _ hx9))))

theorem State.plimZero_keeps {s00 : State} (s : State) (l : Lane) (h0 : Keeps s00 s) :
    Keeps s00 (State.plimZero s l) := by
  refine keeps_trans h0 ?_
  unfold State.plimZero
  exact (State.plimStep_keeps _ _ (State.modNrg_keeps _ _ _ (Keeps.refl _)))


end Sys2Proof.Machine
end

