-- ==== Sys2Proof/Laws/KeepsSoOps.lean ====
section
/-!
SUPPORT. The operations of Machine/SoOps.lean keep what `Keeps` says (Laws/Keeps.lean).
-/
namespace Sys2Proof.Machine

theorem State.closeSo_keeps {s00 : State} (s : State) (k : Fin 12) (h0 : Keeps s00 s) :
    Keeps1 s00 (State.closeSo s k) := by
  refine keeps1_trans h0 ?_
  unfold State.closeSo
  lift_lets -useContext -merge -underBinder
  intro x0
  try clear_value x0
  intro x1
  have hx1 : Keeps s x1 := (State.soSet_keeps _ _ _ _ (Keeps.refl _))
  clear_value x1
  refine keeps1_ite (fun _ => ?_) (fun _ => ?_)
  · exact ⟨Keeps.snd (Keeps.refl _)⟩
  · refine keeps1_ite (fun _ => ?_) (fun _ => ?_)
    · exact ⟨Keeps.snd (keeps_set _ _ _ _ (Keeps.refl _))⟩
    · refine keeps1_ite (fun _ => ?_) (fun _ => ?_)
      · exact ⟨Keeps.snd (keeps_modDep _ (Keeps.refl _))⟩
      · exact ⟨Keeps.snd (keeps_modDep _ hx1)⟩

theorem State.syncSto_keeps {s00 : State} (s : State) (h0 : Keeps s00 s) :
    Keeps s00 (State.syncSto s) := by
  refine keeps_trans h0 ?_
  unfold State.syncSto
  exact (keeps_each _ _ (Keeps.refl _) (fun _ _ => (keeps_ite (fun _ => (keeps_ite (fun _ => (keeps_ite (fun _ => (Keeps.refl _)) (fun _ => (State.closeSo_keeps _ _ (Keeps.refl _)).h))) (fun _ => (Keeps.refl _)))) (fun _ => (Keeps.refl _)))))

theorem State.parkOutputs_keeps {s00 : State} (s : State) (parked : Bool) (h0 : Keeps s00 s) :
    Keeps s00 (State.parkOutputs s parked) := by
  refine keeps_trans h0 ?_
  unfold State.parkOutputs
  lift_lets -useContext -merge -underBinder
  intro x0
  have hx0 : Keeps s x0 := (State.openFuncs_keeps _ _ (Keeps.refl _))
  clear_value x0
  refine keeps_ite (fun _ => ?_) (fun _ => ?_)
  · exact (keeps_modDep _ (keeps_wr _ _ _ _ _ (keeps_each _ _ hx0 (fun _ _ => (keeps_wr _ _ _ _ _ (keeps_clr _ _ _ _ (Keeps.refl _)))))))
  · exact hx0

theorem State.ctrClose_keeps {s00 : State} (s : State) (l : Lane) (c : Nat) (h0 : Keeps s00 s) :
    Keeps1 s00 (State.ctrClose s l c) := by
  refine keeps1_trans h0 ?_
  unfold State.ctrClose
  lift_lets -useContext -merge -underBinder
  intro x0 x1
  try clear_value x1
  intro x2
  have hx2 : Keeps s x2 := (keeps_wr _ _ _ _ _ (keeps_wr _ _ _ _ _ (keeps_wr _ _ _ _ _ (keeps_wr _ _ _ _ _ (keeps_set _ _ _ _ (Keeps.refl _))))))
  clear_value x2
  intro x3
  have hx3 : Keeps1 s x3 := (State.closeSo_keeps _ _ hx2)
  clear_value x3
  refine keeps1_ite (fun _ => ?_) (fun _ => ?_)
  · exact ⟨Keeps.snd (keeps_ite (fun _ => (keeps_inc _ _ _ _ _ hx3.h)) (fun _ => hx3.h))⟩
  · exact ⟨Keeps.snd (Keeps.refl _)⟩

theorem State.ctrOpen1_keeps {s00 : State} (s : State) (l : Lane) (c : Nat) (h0 : Keeps s00 s) :
    Keeps s00 (State.ctrOpen1 s l c) := by
  refine keeps_trans h0 ?_
  unfold State.ctrOpen1
  refine keeps_ite (fun _ => ?_) (fun _ => ?_)
  · exact (State.openSo_keeps _ _ (keeps_clr _ _ _ _ (Keeps.refl _)))
  · exact (Keeps.refl _)

theorem State.ctrOpen_keeps {s00 : State} (s : State) (l : Lane) (c : Nat) (h0 : Keeps s00 s) :
    Keeps s00 (State.ctrOpen s l c) := by
  refine keeps_trans h0 ?_
  unfold State.ctrOpen
  lift_lets -useContext -merge -underBinder
  intro x0
  have hx0 : Keeps s x0 := (keeps_ite (fun _ => (keeps_each _ _ (Keeps.refl _) (fun _ _ => (keeps_ite (fun _ => (State.ctrOpen1_keeps _ _ _ (Keeps.refl _))) (fun _ => (Keeps.refl _)))))) (fun _ => (Keeps.refl _)))
  clear_value x0
  exact (State.ctrOpen1_keeps _ _ _ hx0)

theorem State.soCmd_keeps {s00 : State} (s : State) (l : Lane) (who : Initiator) (k : Fin 12) (v : Nat) (h0 : Keeps s00 s) :
    Keeps s00 (State.soCmd s l who k v) := by
  refine keeps_trans h0 ?_
  unfold State.soCmd
  lift_lets -useContext -merge -underBinder
  intro x0
  have hx0 : Keeps s x0 := (keeps_wr _ _ _ _ _ (keeps_wr _ _ _ _ _ (keeps_wr _ _ _ _ _ (keeps_wr _ _ _ _ _ (keeps_wr _ _ _ _ _ (Keeps.refl _))))))
  clear_value x0
  intro x1
  try clear_value x1
  refine keeps_ite (fun _ => ?_) (fun _ => ?_)
  · exact (State.accessError_keeps _ _ _ _ _ _ (Keeps.refl _))
  · refine keeps_ite (fun _ => ?_) (fun _ => ?_)
    · refine keeps_ite (fun _ => ?_) (fun _ => ?_)
      · exact (State.closeSo_keeps _ _ hx0).h
      · exact (State.openSo_keeps _ _ hx0)
    · exact hx0

theorem execDspSoCmd_keeps (l : Lane) (k : Fin 12) (value : BitVec 22) (s : State) : KeepsOut s (execDspSoCmd l k value s) := by
  unfold execDspSoCmd
  exact keepsOut_next (keeps_ite (fun _ => (State.soCmd_keeps _ _ _ _ _ (Keeps.refl _))) (fun _ => (Keeps.refl _)))


end Sys2Proof.Machine
end

