-- ==== Sys2Proof/Laws/KeepsSupplyOps.lean ====
section
/-!
SUPPORT. The operations of Machine/SupplyOps.lean keep what `Keeps` says (Laws/Keeps.lean).
-/
namespace Sys2Proof.Machine

theorem State.setIsland_keeps {s00 : State} (s : State) (l : Lane) (on : Bool) (h0 : Keeps s00 s) :
    Keeps s00 (State.setIsland s l on) := by
  refine keeps_trans h0 ?_
  unfold State.setIsland
  split
  · lift_lets -useContext -merge -underBinder
    intro x0
    try clear_value x0
    exact (Keeps.of_frame (Keeps.refl _) rfl rfl rfl rfl rfl)
  · lift_lets -useContext -merge -underBinder
    intro x1
    try clear_value x1
    exact (Keeps.of_frame (Keeps.refl _) rfl rfl rfl rfl rfl)

theorem State.setSupplies_keeps {s00 : State} (s : State) (l : Lane) (m : Nat) (h0 : Keeps s00 s) :
    Keeps s00 (State.setSupplies s l m) := by
  refine keeps_trans h0 ?_
  unfold State.setSupplies
  split
  · lift_lets -useContext -merge -underBinder
    intro x0
    try clear_value x0
    exact (Keeps.of_frame (Keeps.refl _) rfl rfl rfl rfl rfl)
  · lift_lets -useContext -merge -underBinder
    intro x1
    try clear_value x1
    exact (Keeps.of_frame (Keeps.refl _) rfl rfl rfl rfl rfl)

theorem State.papUnpower_keeps {s00 : State} (s : State) (l : Lane) (h0 : Keeps s00 s) : Keeps s00 (s.papUnpower l) :=
  keeps_filter (s := s.modPap l fun p => { PapSt.init with keeper := p.keeper }) _ (State.modPap_keeps _ _ _ h0)

theorem State.laneUnpower_keeps {s00 : State} (s : State) (l : Lane) (h0 : Keeps s00 s) :
    Keeps s00 (State.laneUnpower s l) := by
  refine keeps_trans h0 ?_
  unfold State.laneUnpower
  lift_lets -useContext -merge -underBinder
  intro x0
  have hx0 : Keeps s x0 := (State.resetIsland_keeps _ _ _ (Keeps.refl _))
  clear_value x0
  exact (State.resetRegs_keeps _ _ _ hx0)

theorem State.supplyFell_keeps {s00 : State} (s : State) (l : Lane) (sup : IslandSupply) (h0 : Keeps s00 s) :
    Keeps s00 (State.supplyFell s l sup) := by
  refine keeps_trans h0 ?_
  unfold State.supplyFell
  lift_lets -useContext -merge -underBinder
  intro x0
  split
  · exact (keeps_clr _ _ _ _ (keeps_wrBit _ _ _ _ _ (Keeps.refl _)))
  · exact (keeps_inc _ _ _ _ _ (keeps_clr _ _ _ _ (keeps_wrBit _ _ _ _ _ (keeps_wrBit _ _ _ _ _ (Keeps.refl _)))))

theorem State.islandFault_keeps {s00 : State} (s : State) (l : Lane) (sup : IslandSupply) (h0 : Keeps s00 s) :
    Keeps s00 (State.islandFault s l sup) := by
  refine keeps_trans h0 ?_
  unfold State.islandFault
  lift_lets -useContext -merge -underBinder
  intro x0
  try clear_value x0
  intro x1
  have hx1 : Keeps s x1 := (State.setSupplies_keeps _ _ _ (Keeps.refl _))
  clear_value x1
  intro x2
  have hx2 : Keeps s x2 := (keeps_ite (fun _ => (State.laneUnpower_keeps _ _ (State.setIsland_keeps _ _ _ hx1))) (fun _ => hx1))
  clear_value x2
  intro x3
  have hx3 : Keeps s x3 := (keeps_ite (fun _ => (State.papUnpower_keeps _ _ hx2)) (fun _ => (keeps_when _ _ hx2 (fun _ => (State.supplyFell_keeps _ _ _ (Keeps.refl _))))))
  clear_value x3
  intro x5
  have hx5 : Keeps s x5 := (keeps_when _ _ hx3 (fun _ => (keeps_set _ _ _ _ (Keeps.refl _))))
  clear_value x5
  refine keeps_ite (fun _ => ?_) (fun _ => ?_)
  · refine keeps_ite (fun _ => ?_) (fun _ => ?_)
    · exact (State.declare_keeps _ _ _ hx5)
    · exact hx5
  · exact (Keeps.refl _)

theorem State.checkIslands_keeps {s00 : State} (s : State) (h0 : Keeps s00 s) :
    Keeps s00 (State.checkIslands s) := by
  refine keeps_trans h0 ?_
  unfold State.checkIslands
  exact (keeps_each _ _ (Keeps.refl _) (fun _ _ => (keeps_when _ _ (Keeps.refl _) (fun _ => (State.declare_keeps _ _ _ (Keeps.refl _))))))

theorem State.oscStart_keeps {s00 : State} (s : State) (h0 : Keeps s00 s) :
    Keeps1 s00 (State.oscStart s) := by
  refine keeps1_trans h0 ?_
  unfold State.oscStart
  lift_lets -useContext -merge -underBinder
  intro x0
  have hx0 : Keeps1 s x0 := (keeps1_free _ (Keeps.refl _))
  clear_value x0
  exact ⟨Keeps.snd (keeps_modDep _ hx0.h)⟩

theorem State.oscCount_keeps {s00 : State} (s : State) (h0 : Keeps s00 s) :
    Keeps1 s00 (State.oscCount s) := by
  refine keeps1_trans h0 ?_
  unfold State.oscCount
  lift_lets -useContext -merge -underBinder
  intro x0
  try clear_value x0
  intro x1
  try clear_value x1
  intro x2
  try clear_value x2
  intro x3
  try clear_value x3
  intro x4
  have hx4 : Keeps1 s x4 := (keeps1_free _ (Keeps.refl _))
  clear_value x4
  refine keeps1_ite (fun _ => ?_) (fun _ => ?_)
  · exact ⟨Keeps.snd (Keeps.refl _)⟩
  · exact ⟨Keeps.snd hx4.h⟩

theorem State.oscPiece_keeps {s00 : State} (s : State) (count : Nat) (h0 : Keeps s00 s) :
    Keeps s00 (State.oscPiece s count) := by
  refine keeps_trans h0 ?_
  unfold State.oscPiece
  lift_lets -useContext -merge -underBinder
  intro x0
  try clear_value x0
  intro x1
  try clear_value x1
  intro x2
  have hx2 : Keeps1 s x2 := (State.quot_keeps _ _ _ (Keeps.refl _))
  clear_value x2
  intro x3
  have hx3 : Keeps1 s x3 := (keeps1_ite (fun _ => ⟨Keeps.snd (Keeps.refl _)⟩) (fun _ => ⟨Keeps.snd hx2.h⟩))
  clear_value x3
  exact (keeps_modDep _ hx3.h)

theorem State.parkCount_keeps {s00 : State} (s : State) (h0 : Keeps s00 s) :
    Keeps s00 (State.parkCount s) := by
  refine keeps_trans h0 ?_
  unfold State.parkCount
  lift_lets -useContext -merge -underBinder
  intro x0
  have hx0 : Keeps1 s x0 := (State.oscStart_keeps _ (Keeps.refl _))
  clear_value x0
  intro x1
  have hx1 : Keeps s x1 := (keeps_clr _ _ _ _ (keeps_clr _ _ _ _ (keeps_clr _ _ _ _ (keeps_wr _ _ _ _ _ hx0.h))))
  clear_value x1
  exact (keeps_modDep _ hx1)

theorem State.parkPublish_keeps {s00 : State} (s : State) (h0 : Keeps s00 s) :
    Keeps s00 (State.parkPublish s) := by
  refine keeps_trans h0 ?_
  unfold State.parkPublish
  lift_lets -useContext -merge -underBinder
  intro x0
  have hx0 : Keeps1 s x0 := (State.oscCount_keeps _ (Keeps.refl _))
  clear_value x0
  intro x1
  have hx1 : Keeps s x1 := (keeps_wr _ _ _ _ _ (State.oscPiece_keeps _ _ hx0.h))
  clear_value x1
  intro x2
  try clear_value x2
  intro x3
  try clear_value x3
  intro x4
  try clear_value x4
  intro x5
  have hx5 : Keeps s x5 := (keeps_wr _ _ _ _ _ (keeps_wr _ _ _ _ _ (keeps_wr _ _ _ _ _ hx1)))
  clear_value x5
  refine keeps_ite (fun _ => ?_) (fun _ => ?_)
  · exact (keeps_modDep _ (keeps_set _ _ _ _ hx5))
  · exact (Keeps.refl _)

theorem State.wake_keeps {s00 : State} (s : State) (w0 w1 btn : Bool) (h0 : Keeps s00 s) :
    Keeps s00 (State.wake s w0 w1 btn) := by
  refine keeps_trans h0 ?_
  unfold State.wake
  lift_lets -useContext -merge -underBinder
  intro x0
  have hx0 : Keeps s x0 := (State.parkPublish_keeps _ (Keeps.refl _))
  clear_value x0
  intro x1
  have hx1 : Keeps s x1 := (keeps_put _ _ _ _ _ (keeps_put _ _ _ _ _ (keeps_put _ _ _ _ _ hx0)))
  clear_value x1
  refine keeps_ite (fun _ => ?_) (fun _ => ?_)
  · exact (keeps_modDep _ hx1)
  · exact (Keeps.refl _)

theorem State.depGone_keeps {s00 : State} (s : State) (phase : DepPhase) (h0 : Keeps s00 s) :
    Keeps s00 (State.depGone s phase) := by
  refine keeps_trans h0 ?_
  unfold State.depGone
  lift_lets -useContext -merge -underBinder
  intro x0
  have hx0 : Keeps s x0 := (keeps_modDep _ (State.resetRegs_keeps _ _ _ (Keeps.refl _)))
  clear_value x0
  intro x1
  try clear_value x1
  intro x2
  try clear_value x2
  intro x3
  try clear_value x3
  intro x4
  have hx4 : Keeps s x4 := (Keeps.of_frame hx0 rfl rfl rfl rfl rfl)
  clear_value x4
  intro x5
  have hx5 : Keeps s x5 := (keeps_each _ _ hx4 (fun _ _ => (State.modPap_keeps _ _ _ (keeps_clr _ _ _ _ (State.pwmUngrant_keeps _ _ (keeps_clr _ _ _ _ (Keeps.refl _)))))))
  clear_value x5
  exact (State.syncMaster_keeps _ hx5)

theorem State.depQualify_keeps {s00 : State} (s : State) (wake0 wake1 : Bool) (vbatA vbatB vso : Nat) (h0 : Keeps s00 s) :
    Keeps s00 (State.depQualify s wake0 wake1 vbatA vbatB vso) := by
  refine keeps_trans h0 ?_
  unfold State.depQualify
  lift_lets -useContext -merge -underBinder
  intro x0
  have hx0 : Keeps s x0 := (State.depGone_keeps _ _ (Keeps.refl _))
  clear_value x0
  intro x1
  try clear_value x1
  intro x2
  have hx2 : Keeps s x2 := (Keeps.of_frame hx0 rfl rfl rfl rfl rfl)
  clear_value x2
  intro x3
  have hx3 : Keeps s x3 := (keeps_modDep _ (keeps_modDep _ hx2))
  clear_value x3
  intro x4
  have hx4 : Keeps s x4 := (keeps_wr _ _ _ _ _ (keeps_put _ _ _ _ _ (keeps_put _ _ _ _ _ (keeps_put _ _ _ _ _ hx3))))
  clear_value x4
  intro x5
  have hx5 : Keeps s x5 := (keeps_set _ _ _ _ (keeps_set _ _ _ _ (keeps_wr _ _ _ _ _ hx4)))
  clear_value x5
  intro x6
  have hx6 : Keeps s x6 := (keeps_put _ _ _ _ _ (keeps_put _ _ _ _ _ hx5))
  clear_value x6
  intro x7
  have hx7 : Keeps s x7 := (keeps_each _ _ hx6 (fun _ _ => (keeps_when _ _ (Keeps.refl _) (fun _ => (keeps_set _ _ _ _ (Keeps.refl _))))))
  clear_value x7
  refine keeps_ite (fun _ => ?_) (fun _ => ?_)
  · exact (State.wake_keeps _ _ _ _ hx7)
  · exact hx7


end Sys2Proof.Machine
end

