-- ==== Sys2Proof/Laws/KeepsDsOps.lean ====
section
/-!
SUPPORT. The operations of Machine/DsOps.lean keep what `Keeps` says (Laws/Keeps.lean).
-/
namespace Sys2Proof.Machine

theorem State.modLnk_keeps {s00 : State} (s : State) (l : Lane) (f : LinkSt → LinkSt) (h0 : Keeps s00 s) :
    Keeps s00 (State.modLnk s l f) := by
  refine keeps_trans h0 ?_
  unfold State.modLnk
  exact (keeps_modRun _ _ (Keeps.refl _) fun _ hr => hr)

theorem State.claimTim7_keeps {s00 : State} (s : State) (l : Lane) (n : Nat) (h0 : Keeps s00 s) :
    Keeps s00 (State.claimTim7 s l n) := by
  refine keeps_trans h0 ?_
  unfold State.claimTim7
  lift_lets -useContext -merge -underBinder
  intro x0 x1
  have hx1 : Keeps s x1 := (keeps_wr _ _ _ _ _ (keeps_wr _ _ _ _ _ (keeps_clr _ _ _ _ (keeps_clr _ _ _ _ (keeps_set _ _ _ _ (Keeps.refl _))))))
  clear_value x1
  intro x2
  have hx2 : Keeps s x2 := (State.modTim_keeps _ _ _ _ hx1)
  clear_value x2
  exact (keeps_set _ _ _ _ (State.modSup_keeps _ _ _ hx2))

theorem State.portTimer_keeps {s00 : State} (s : State) (l : Lane) (h0 : Keeps s00 s) :
    Keeps s00 (State.portTimer s l) := by
  refine keeps_trans h0 ?_
  unfold State.portTimer
  lift_lets -useContext -merge -underBinder
  intro x0
  try clear_value x0
  intro x1
  try clear_value x1
  refine keeps_ite (fun _ => ?_) (fun _ => ?_)
  · exact (Keeps.refl _)
  · refine keeps_ite (fun _ => ?_) (fun _ => ?_)
    · exact (State.laneForm_keeps _ _ (Keeps.refl _))
    · refine keeps_ite (fun _ => ?_) (fun _ => ?_)
      · refine keeps_ite (fun _ => ?_) (fun _ => ?_)
        · exact (State.laneForm_keeps _ _ (Keeps.refl _))
        · exact (State.claimTim7_keeps _ _ _ (Keeps.refl _))
      · exact (State.claimTim7_keeps _ _ _ (Keeps.refl _))

theorem State.declareDs_keeps {s00 : State} (s : State) (l : Lane) (h0 : Keeps s00 s) :
    Keeps s00 (State.declareDs s l) := by
  refine keeps_trans h0 ?_
  unfold State.declareDs
  lift_lets -useContext -merge -underBinder
  intro x0
  have hx0 : Keeps s x0 := (State.modSup_keeps _ _ _ (Keeps.refl _))
  clear_value x0
  intro x1
  have hx1 : Keeps s x1 := (State.laneOutcome_keeps _ _ (State.portTimer_keeps _ _ (State.log_keeps _ _ _ _ hx0)))
  clear_value x1
  refine keeps_ite (fun _ => ?_) (fun _ => ?_)
  · exact (Keeps.refl _)
  · exact (State.syncMaster_keeps _ (keeps_ite (fun _ => hx1) (fun _ => (State.ownRecord_keeps _ _ _ _ hx1))))

theorem State.laneDeclare_keeps {s00 : State} (s : State) (l : Lane) (c : FaultClass) (h0 : Keeps s00 s) :
    Keeps s00 (State.laneDeclare s l c) := by
  refine keeps_trans h0 ?_
  unfold State.laneDeclare
  lift_lets -useContext -merge -underBinder
  intro x0
  have hx0 : Keeps s x0 := (keeps_set _ _ _ _ (Keeps.refl _))
  clear_value x0
  intro x1
  have hx1 : Keeps s x1 := (keeps_ite (fun _ => (State.ownRecord_keeps _ _ _ _ hx0)) (fun _ => (State.log_keeps _ _ _ _ (State.modSup_keeps _ _ _ hx0))))
  clear_value x1
  refine keeps_ite (fun _ => ?_) (fun _ => ?_)
  · exact (State.declare_keeps _ _ _ (State.modSup_keeps _ _ _ hx0))
  · refine keeps_ite (fun _ => ?_) (fun _ => ?_)
    · exact (State.ownRecord_keeps _ _ _ _ hx1)
    · exact hx1

theorem State.portFault_keeps {s00 : State} (s : State) (l : Lane) (h0 : Keeps s00 s) :
    Keeps s00 (State.portFault s l) := by
  refine keeps_trans h0 ?_
  unfold State.portFault
  lift_lets -useContext -merge -underBinder
  intro x0
  have hx0 : Keeps s x0 := (keeps_modRun _ _ (Keeps.refl _) fun _ hr => hr)
  clear_value x0
  intro x1
  have hx1 : Keeps s x1 := (keeps_when _ _ (keeps_clr _ _ _ _ hx0) (fun _ => (keeps_clr _ _ _ _ (Keeps.refl _))))
  clear_value x1
  exact (State.grantLogic_keeps _ (State.windingsOff_keeps _ _ (State.removeGrant_keeps _ _ hx1)))


end Sys2Proof.Machine
end

