-- ==== Sys2Proof/Laws/KeepsNetOps.lean ====
section
/-!
SUPPORT. The operations of Machine/NetOps.lean keep what `Keeps` says (Laws/Keeps.lean).
-/
namespace Sys2Proof.Machine

theorem State.wr64_keeps {s00 : State} (s : State) (l : Lane) (lo hi : Fld) (v : Nat) (h0 : Keeps s00 s) :
    Keeps s00 (State.wr64 s l lo hi v) := by
  refine keeps_trans h0 ?_
  unfold State.wr64
  exact (keeps_wr _ _ _ _ _ (keeps_wr _ _ _ _ _ (Keeps.refl _)))

theorem State.modCan_keeps {s00 : State} (s : State) (l : Lane) (n : Fin 4) (f : CanSt → CanSt) (h0 : Keeps s00 s) :
    Keeps s00 (State.modCan s l n f) := by
  refine keeps_trans h0 ?_
  unfold State.modCan
  exact (keeps_modRun _ _ (Keeps.refl _) fun _ hr => hr)

theorem State.handNode_keeps {s00 : State} (s : State) (l : Lane) (t : Nat) (bytes : List Nat) (h0 : Keeps s00 s) :
    Keeps s00 (State.handNode s l t bytes) := by
  refine keeps_trans h0 ?_
  unfold State.handNode
  exact (keeps_modRun _ _ (Keeps.refl _) fun _ hr => hr)

theorem State.postNet_keeps {s00 : State} (s : State) (l : Lane) (e : TalEntry) (code : OutcomeCode) (h0 : Keeps s00 s) :
    Keeps s00 (State.postNet s l e code) := by
  refine keeps_trans h0 ?_
  unfold State.postNet
  lift_lets -useContext -merge -underBinder
  intro x0
  have hx0 : Keeps s x0 := (State.post_keeps _ _ _ _ (Keeps.refl _))
  clear_value x0
  split
  · refine keeps_ite (fun _ => ?_) (fun _ => ?_)
    · exact hx0
    · exact (keeps_inc _ _ _ _ _ hx0)
  · exact hx0

theorem State.endNew_keeps {s00 : State} (s : State) (l : Lane) (a : Admission) (code : Option OutcomeCode) (h0 : Keeps s00 s) :
    Keeps s00 (State.endNew s l a code) := by
  refine keeps_trans h0 ?_
  unfold State.endNew
  split
  · split
    · exact (State.postNet_keeps _ _ _ _ (Keeps.refl _))
    · exact (Keeps.refl _)
  · exact (Keeps.refl _)

theorem State.canSubmit_keeps {s00 : State} (s : State) (l : Lane) (who : Initiator) (n : Fin 4) (t dl : Nat) (job : Job) (h0 : Keeps s00 s) :
    Keeps11 s00 (State.canSubmit s l who n t dl job) := by
  refine keeps11_trans h0 ?_
  unfold State.canSubmit
  lift_lets -useContext -merge -underBinder
  intro x0
  have hx0 : Keeps1 s x0 := (State.submit_keeps _ _ _ _ _ _ _ _ (Keeps.refl _))
  clear_value x0
  refine keeps11_ite (fun _ => ?_) (fun _ => ?_)
  · exact ⟨Keeps.snd (Keeps.refl _)⟩
  · refine keeps11_ite (fun _ => ?_) (fun _ => ?_)
    · exact ⟨Keeps.snd (Keeps.refl _)⟩
    · exact ⟨Keeps.snd (State.endNew_keeps _ _ _ _ hx0.h)⟩

theorem State.setRam_keeps {s00 : State} (s : State) (l : Lane) (n : Fin 4) (o : Nat) (ws : List Nat) (h0 : Keeps s00 s) :
    Keeps s00 (State.setRam s l n o ws) := by
  refine keeps_trans h0 ?_
  unfold State.setRam
  exact (keeps_each _ _ (Keeps.refl _) (fun _ _ => (keeps_setTable _ _ _ (Keeps.refl _))))

theorem State.modEth_keeps {s00 : State} (s : State) (l : Lane) (m : Fin 3) (f : EthSt → EthSt) (h0 : Keeps s00 s) :
    Keeps s00 (State.modEth s l m f) := by
  refine keeps_trans h0 ?_
  unfold State.modEth
  exact (keeps_modRun _ _ (Keeps.refl _) fun _ hr => hr)

theorem State.ethSubmit_keeps {s00 : State} (s : State) (l : Lane) (who : Initiator) (m : Fin 3) (size dl : Nat) (job : Job) (h0 : Keeps s00 s) :
    Keeps11 s00 (State.ethSubmit s l who m size dl job) := by
  refine keeps11_trans h0 ?_
  unfold State.ethSubmit
  lift_lets -useContext -merge -underBinder
  intro x0
  have hx0 : Keeps1 s x0 := (State.submit_keeps _ _ _ _ _ _ _ _ (Keeps.refl _))
  clear_value x0
  exact ⟨Keeps.snd (State.endNew_keeps _ _ _ _ hx0.h)⟩

theorem State.chassisSend_keeps {s00 : State} (s : State) (l : Lane) (dl : Nat) (bytes : List Nat) (h0 : Keeps s00 s) :
    Keeps s00 (State.chassisSend s l dl bytes) := by
  refine keeps_trans h0 ?_
  unfold State.chassisSend
  lift_lets -useContext -merge -underBinder
  intro x0 x1
  try clear_value x1
  intro x2
  try clear_value x2
  refine keeps_dite (fun _ => ?_) (fun _ => ?_)
  · lift_lets -useContext -merge -underBinder
    intro x3
    try clear_value x3
    intro x4
    try clear_value x4
    intro x5
    try clear_value x5
    intro x6
    have hx6 : Keeps s x6 := (keeps_ite (fun _ => (Keeps.refl _)) (fun _ => (State.setRam_keeps _ _ _ _ _ (Keeps.refl _))))
    clear_value x6
    intro x7
    have hx7 : Keeps11 s x7 := (State.canSubmit_keeps _ _ _ _ _ _ _ hx6)
    clear_value x7
    exact (keeps_when _ _ hx7.h (fun _ => (keeps_inc _ _ _ _ _ (Keeps.refl _))))
  · refine keeps_dite (fun _ => ?_) (fun _ => ?_)
    · lift_lets -useContext -merge -underBinder
      intro x9
      try clear_value x9
      intro x10
      try clear_value x10
      intro x11
      try clear_value x11
      intro x12
      have hx12 : Keeps11 s x12 := (State.ethSubmit_keeps _ _ _ _ _ _ _ (Keeps.refl _))
      clear_value x12
      exact (keeps_when _ _ hx12.h (fun _ => (keeps_inc _ _ _ _ _ (Keeps.refl _))))
    · exact (Keeps.refl _)


end Sys2Proof.Machine
end

