-- ==== Sys2Proof/Laws/KeepsAsyOps.lean ====
section
/-!
SUPPORT. The operations of Machine/AsyOps.lean keep what `Keeps` says (Laws/Keeps.lean).
-/
namespace Sys2Proof.Machine

theorem State.freeWords_keeps {s00 : State} : ∀ (s : State) (n : Nat) (_ : Keeps s00 s), Keeps1 s00 (s.freeWords n)
  | _, 0, h => ⟨h⟩
  | s, n + 1, h => ⟨(State.freeWords_keeps (s.free 32).2 n (keeps1_free 32 h).h).h⟩

theorem State.modAsy_keeps {s00 : State} (s : State) (l : Lane) (f : AsySt → AsySt) (h0 : Keeps s00 s) :
    Keeps s00 (State.modAsy s l f) := by
  refine keeps_trans h0 ?_
  unfold State.modAsy
  exact (keeps_modRun _ _ (Keeps.refl _) fun _ hr => hr)

theorem State.asyFaultUpTo_keeps {s00 : State} (s : State) (l : Lane) (since : Nat) (h0 : Keeps s00 s) :
    Keeps s00 (State.asyFaultUpTo s l since) := by
  refine keeps_trans h0 ?_
  unfold State.asyFaultUpTo
  lift_lets -useContext -merge -underBinder
  intro x0
  try clear_value x0
  intro x1
  try clear_value x1
  exact (State.modAsy_keeps _ _ _ (keeps_inc _ _ _ _ _ (Keeps.refl _)))

theorem State.asyFlag_keeps {s00 : State} (s : State) (l : Lane) (b : Nat) (h0 : Keeps s00 s) :
    Keeps s00 (State.asyFlag s l b) := by
  refine keeps_trans h0 ?_
  unfold State.asyFlag
  exact (State.modAsy_keeps _ _ _ (Keeps.refl _))

theorem State.asySync_keeps {s00 : State} (s : State) (l : Lane) (h0 : Keeps s00 s) :
    Keeps s00 (State.asySync s l) := by
  refine keeps_trans h0 ?_
  unfold State.asySync
  lift_lets -useContext -merge -underBinder
  intro x0 x1
  have hx1 : Keeps s x1 := by
    unfold x1
    split
    · exact (State.modAsy_keeps _ _ _ (State.asyFaultUpTo_keeps _ _ _ (Keeps.refl _)))
    · exact (Keeps.refl _)
  clear_value x1
  intro x2
  have hx2 : Keeps s x2 := by
    unfold x2
    split
    · exact (State.asyFaultUpTo_keeps _ _ _ (Keeps.refl _))
    · exact (Keeps.refl _)
  clear_value x2
  refine keeps_ite (fun _ => ?_) (fun _ => ?_)
  · refine keeps_ite (fun _ => ?_) (fun _ => ?_)
    · exact (keeps_set _ _ _ _ hx1)
    · exact (State.modAsy_keeps _ _ _ (State.asyFlag_keeps _ _ _ (keeps_set _ _ _ _ (keeps_clr _ _ _ _ hx2))))
  · exact (Keeps.refl _)

theorem State.asyTrigger_keeps {s00 : State} (s : State) (l : Lane) (b : Nat) (h0 : Keeps s00 s) :
    Keeps s00 (State.asyTrigger s l b) := by
  refine keeps_trans h0 ?_
  unfold State.asyTrigger
  refine keeps_ite (fun _ => ?_) (fun _ => ?_)
  · exact (State.modAsy_keeps _ _ _ (Keeps.refl _))
  · exact (Keeps.refl _)

theorem State.asyAdd_keeps {s00 : State} (s : State) (l : Lane) (e : Int) (h0 : Keeps s00 s) :
    Keeps s00 (State.asyAdd s l e) := by
  refine keeps_trans h0 ?_
  unfold State.asyAdd
  lift_lets -useContext -merge -underBinder
  intro x0
  try clear_value x0
  intro x1
  try clear_value x1
  intro x2
  try clear_value x2
  intro x3
  try clear_value x3
  intro x4
  try clear_value x4
  intro x5
  try clear_value x5
  intro x6
  have hx6 : Keeps s x6 := (State.modAsy_keeps _ _ _ (Keeps.refl _))
  clear_value x6
  intro x7
  have hx7 : Keeps s x7 := (keeps_ite (fun _ => (State.asyTrigger_keeps _ _ _ hx6)) (fun _ => hx6))
  clear_value x7
  refine keeps_ite (fun _ => ?_) (fun _ => ?_)
  · exact (State.asyTrigger_keeps _ _ _ hx7)
  · exact hx7

theorem State.asyCurrent_keeps {s00 : State} (s : State) (l : Lane) (i : Int) (t : Nat) (h0 : Keeps s00 s) :
    Keeps s00 (State.asyCurrent s l i t) := by
  refine keeps_trans h0 ?_
  unfold State.asyCurrent
  lift_lets -useContext -merge -underBinder
  intro x0 x1
  have hx1 : Keeps s x1 := (State.asySync_keeps _ _ (Keeps.refl _))
  clear_value x1
  intro x2
  try clear_value x2
  intro x3
  try clear_value x3
  intro x4
  have hx4 : Keeps s x4 := by
    unfold x4
    split
    · lift_lets -useContext -merge -underBinder
      intro x8
      have hx8 : Keeps1 s x8 := (State.quot_keeps _ _ _ hx1)
      clear_value x8
      intro x9
      try clear_value x9
      intro x10
      have hx10 : Keeps s x10 := hx8.h
      clear_value x10
      refine keeps_ite (fun _ => ?_) (fun _ => ?_)
      · exact (State.asyAdd_keeps _ _ _ hx10)
      · exact hx1
    · exact hx1
  clear_value x4
  intro x11
  have hx11 : Keeps1 s x11 := (State.quot_keeps _ _ _ hx4)
  clear_value x11
  intro x12
  try clear_value x12
  intro x13
  have hx13 : Keeps s x13 := hx11.h
  clear_value x13
  intro x14 x15
  have hx15 : Keeps s x15 := (keeps_ite (fun _ => (State.asyFlag_keeps _ _ _ hx13)) (fun _ => hx13))
  clear_value x15
  refine keeps_ite (fun _ => ?_) (fun _ => ?_)
  · exact (State.modAsy_keeps _ _ _ (keeps_wrS _ _ _ _ _ hx15))
  · exact (State.modAsy_keeps _ _ _ hx1)

theorem State.asyResult_keeps {s00 : State} (s : State) (l : Lane) (n : Nat) (v : Int) (t : Nat) (h0 : Keeps s00 s) :
    Keeps s00 (State.asyResult s l n v t) := by
  refine keeps_trans h0 ?_
  unfold State.asyResult
  lift_lets -useContext -merge -underBinder
  intro x0 x1
  have hx1 : Keeps s x1 := (keeps_ite (fun _ => (State.modAsy_keeps _ _ _ (Keeps.refl _))) (fun _ => (Keeps.refl _)))
  clear_value x1
  refine keeps_ite (fun _ => ?_) (fun _ => ?_)
  · refine keeps_ite (fun _ => ?_) (fun _ => ?_)
    · exact (State.asyCurrent_keeps _ _ _ _ hx1)
    · exact hx1
  · exact (Keeps.refl _)

theorem State.slotWrite_keeps {s00 : State} (s : State) (l : Lane) (r : LedgerRec) (h0 : Keeps s00 s) :
    Keeps s00 (State.slotWrite s l r) := by
  refine keeps_trans h0 ?_
  unfold State.slotWrite
  exact (State.emmcProgram_keeps _ _ _ _ (keeps_modNv _ _ (Keeps.refl _) (NvKeeps.of_eq rfl rfl rfl)))

theorem State.ledgerWrite_keeps {s00 : State} (s : State) (l : Lane) (r : LedgerRec) (skip : Nat) (h0 : Keeps s00 s) :
    Keeps s00 (State.ledgerWrite s l r skip) := by
  refine keeps_trans h0 ?_
  unfold State.ledgerWrite
  lift_lets -useContext -merge -underBinder
  intro x0 x1
  try clear_value x1
  intro x2
  try clear_value x2
  intro x3
  try clear_value x3
  intro x4
  try clear_value x4
  intro x5
  try clear_value x5
  intro x6
  have hx6 : Keeps s x6 := (State.slotWrite_keeps _ _ _ (Keeps.refl _))
  clear_value x6
  intro x7
  have hx7 : Keeps s x7 := (keeps_wr _ _ _ _ _ (keeps_wr _ _ _ _ _ hx6))
  clear_value x7
  exact (keeps_when _ _ hx7 (fun _ => (keeps_set _ _ _ _ (Keeps.refl _))))

theorem State.capture_keeps {s00 : State} (s : State) (l : Lane) (triggers more : Nat) (h0 : Keeps s00 s) :
    Keeps1 s00 (State.capture s l triggers more) := by
  refine keeps1_trans h0 ?_
  unfold State.capture
  lift_lets -useContext -merge -underBinder
  intro x0 x1
  try clear_value x1
  intro x2
  try clear_value x2
  intro x3
  try clear_value x3
  intro x4
  have hx4 : Keeps s x4 := by
    unfold x4
    split
    · exact (State.modAsy_keeps _ _ _ (State.asyFaultUpTo_keeps _ _ _ (Keeps.refl _)))
    · exact (Keeps.refl _)
  clear_value x4
  intro x5
  have hx5 : Keeps1 s x5 := (State.quot_keeps _ _ _ hx4)
  clear_value x5
  intro x6
  try clear_value x6
  intro x7
  have hx7 : Keeps s x7 := hx5.h
  clear_value x7
  intro x8
  have hx8 : Keeps1 s x8 := (State.quot_keeps _ _ _ hx7)
  clear_value x8
  intro x9
  try clear_value x9
  intro x10
  have hx10 : Keeps s x10 := hx8.h
  clear_value x10
  intro x11 x12
  try clear_value x12
  intro x13
  try clear_value x13
  exact ⟨Keeps.snd (State.modAsy_keeps _ _ _ hx10)⟩

theorem State.commitSubmit_keeps {s00 : State} (s : State) (l : Lane) (r : LedgerRec) (h0 : Keeps s00 s) :
    Keeps1 s00 (State.commitSubmit s l r) := by
  refine keeps1_trans h0 ?_
  unfold State.commitSubmit
  lift_lets -useContext -merge -underBinder
  intro x0
  have hx0 : Keeps1 s x0 := (State.submit_keeps _ _ _ _ _ _ _ _ (Keeps.refl _))
  clear_value x0
  refine keeps1_ite (fun _ => ?_) (fun _ => ?_)
  · exact ⟨Keeps.snd hx0.h⟩
  · exact ⟨Keeps.snd (keeps_inc _ _ _ _ _ hx0.h)⟩

theorem State.showHeld_keeps {s00 : State} (s : State) (l : Lane) (h0 : Keeps s00 s) :
    Keeps s00 (State.showHeld s l) := by
  refine keeps_trans h0 ?_
  unfold State.showHeld
  exact (keeps_wr _ _ _ _ _ (Keeps.refl _))

theorem State.hold_keeps {s00 : State} (s : State) (l : Lane) (r : LedgerRec) (h0 : Keeps s00 s) :
    Keeps s00 (State.hold s l r) := by
  refine keeps_trans h0 ?_
  unfold State.hold
  lift_lets -useContext -merge -underBinder
  intro x0
  try clear_value x0
  intro x1
  try clear_value x1
  refine keeps_ite (fun _ => ?_) (fun _ => ?_)
  · exact (State.showHeld_keeps _ _ (State.modAsy_keeps _ _ _ (Keeps.refl _)))
  · exact (State.modAsy_keeps _ _ _ (keeps_set _ _ _ _ (Keeps.refl _)))

theorem State.commit_keeps {s00 : State} (s : State) (l : Lane) (r : LedgerRec) (h0 : Keeps s00 s) :
    Keeps s00 (State.commit s l r) := by
  refine keeps_trans h0 ?_
  unfold State.commit
  lift_lets -useContext -merge -underBinder
  intro x0
  have hx0 : Keeps1 s x0 := (State.commitSubmit_keeps _ _ _ (Keeps.refl _))
  clear_value x0
  refine keeps_ite (fun _ => ?_) (fun _ => ?_)
  · exact hx0.h
  · exact (State.hold_keeps _ _ _ hx0.h)

theorem State.resubmit_keeps {s00 : State} (s : State) (l : Lane) (h0 : Keeps s00 s) :
    Keeps s00 (State.resubmit s l) := by
  refine keeps_trans h0 ?_
  unfold State.resubmit
  split
  · exact (Keeps.refl _)
  · lift_lets -useContext -merge -underBinder
    intro x0
    have hx0 : Keeps1 s x0 := (State.commitSubmit_keeps _ _ _ (Keeps.refl _))
    clear_value x0
    refine keeps_ite (fun _ => ?_) (fun _ => ?_)
    · exact (State.showHeld_keeps _ _ (State.modAsy_keeps _ _ _ hx0.h))
    · exact hx0.h

theorem State.debugOpened_keeps {s00 : State} (s : State) (l : Lane) (h0 : Keeps s00 s) :
    Keeps s00 (State.debugOpened s l) := by
  refine keeps_trans h0 ?_
  unfold State.debugOpened
  exact (State.resetIsland_keeps _ _ _ (keeps_wr _ _ _ _ _ (keeps_modNv _ _ (Keeps.refl _) (NvKeeps.of_eq rfl rfl rfl))))

theorem State.commitOutcome_keeps {s00 : State} (s : State) (l : Lane) (r : LedgerRec) (code : OutcomeCode) (h0 : Keeps s00 s) :
    Keeps s00 (State.commitOutcome s l r code) := by
  refine keeps_trans h0 ?_
  unfold State.commitOutcome
  lift_lets -useContext -merge -underBinder
  intro x0 x1
  try clear_value x1
  intro x2
  have hx2 : Keeps s x2 := (State.irq_keeps _ _ _ _ (keeps_wr _ _ _ _ _ (Keeps.refl _)))
  clear_value x2
  split
  · lift_lets -useContext -merge -underBinder
    intro x3
    have hx3 : Keeps s x3 := (State.modAsy_keeps _ _ _ (keeps_inc _ _ _ _ _ (State.ledgerWrite_keeps _ _ _ _ hx2)))
    clear_value x3
    refine keeps_ite (fun _ => ?_) (fun _ => ?_)
    · exact (State.debugOpened_keeps _ _ hx3)
    · exact (State.resubmit_keeps _ _ hx3)
  · lift_lets -useContext -merge -underBinder
    intro x4
    try clear_value x4
    intro x5
    have hx5 : Keeps s x5 := (State.log_keeps _ _ _ _ (keeps_set _ _ _ _ (State.modAsy_keeps _ _ _ hx2)))
    clear_value x5
    intro x6
    have hx6 : Keeps s x6 := (keeps_ite (fun _ => (keeps_modRun _ _ (keeps_inc _ _ _ _ _ (keeps_wr _ _ _ _ _ hx5)) fun _ hr => hr)) (fun _ => hx5))
    clear_value x6
    refine keeps_ite (fun _ => ?_) (fun _ => ?_)
    · exact (State.resubmit_keeps _ _ (State.commit_keeps _ _ _ (State.modAsy_keeps _ _ _ hx2)))
    · exact (State.resubmit_keeps _ _ hx6)
  · exact (State.resubmit_keeps _ _ hx2)

theorem State.asyExchange_keeps {s00 : State} (s : State) (l : Lane) (k : Nat) (h0 : Keeps s00 s) :
    Keeps s00 (State.asyExchange s l k) := by
  refine keeps_trans h0 ?_
  unfold State.asyExchange
  lift_lets -useContext -merge -underBinder
  intro x0
  try clear_value x0
  intro x1
  have hx1 : Keeps s x1 := (keeps_each _ _ (Keeps.refl _) (fun _ _ => (keeps_wr _ _ _ _ _ (Keeps.refl _))))
  clear_value x1
  refine keeps_ite (fun _ => ?_) (fun _ => ?_)
  · exact (State.modAsy_keeps _ _ _ hx1)
  · exact (Keeps.refl _)

theorem State.asyBoundary_keeps {s00 : State} (s : State) (l : Lane) (k : Nat) (h0 : Keeps s00 s) :
    Keeps s00 (State.asyBoundary s l k) := by
  refine keeps_trans h0 ?_
  unfold State.asyBoundary
  lift_lets -useContext -merge -underBinder
  intro x0
  have hx0 : Keeps s x0 := (State.asyExchange_keeps _ _ _ (Keeps.refl _))
  clear_value x0
  intro x1
  try clear_value x1
  intro x2
  have hx2 : Keeps s x2 := (keeps_ite (fun _ => (State.asyTrigger_keeps _ _ _ hx0)) (fun _ => hx0))
  clear_value x2
  intro x3
  have hx3 : Keeps s x3 := (State.modAsy_keeps _ _ _ hx2)
  clear_value x3
  intro x4
  try clear_value x4
  intro x5
  try clear_value x5
  intro x6
  try clear_value x6
  intro x7
  have hx7 : Keeps1 s x7 := (State.capture_keeps _ _ _ _ hx3)
  clear_value x7
  intro x8
  try clear_value x8
  refine keeps_ite (fun _ => ?_) (fun _ => ?_)
  · refine keeps_ite (fun _ => ?_) (fun _ => ?_)
    · exact (State.commit_keeps _ _ _ (keeps_when _ _ hx7.h (fun _ => (keeps_wr _ _ _ _ _ (Keeps.refl _)))))
    · refine keeps_ite (fun _ => ?_) (fun _ => ?_)
      · exact hx3
      · exact (State.modAsy_keeps _ _ _ hx3)
  · exact (Keeps.refl _)

theorem State.asyLoad_keeps {s00 : State} (s : State) (l : Lane) (h0 : Keeps s00 s) :
    Keeps s00 (State.asyLoad s l) := by
  refine keeps_trans h0 ?_
  unfold State.asyLoad
  lift_lets -useContext -merge -underBinder
  intro x0 x1
  try clear_value x1
  intro x2
  try clear_value x2
  split
  · lift_lets -useContext -merge -underBinder
    intro x3
    have hx3 : Keeps s x3 := (State.modAsy_keeps _ _ _ (Keeps.refl _))
    clear_value x3
    refine keeps_ite (fun _ => ?_) (fun _ => ?_)
    · exact (State.modAsy_keeps _ _ _ hx3)
    · exact hx3
  · lift_lets -useContext -merge -underBinder
    intro x4
    try clear_value x4
    intro x5
    try clear_value x5
    intro x6
    have hx6 : Keeps s x6 := (keeps_wr _ _ _ _ _ (keeps_wr _ _ _ _ _ (Keeps.refl _)))
    clear_value x6
    exact (State.modAsy_keeps _ _ _ hx6)


end Sys2Proof.Machine
end

