-- ==== Sys2Proof/Laws/KeepsAdc.lean ====
section
/-!
SUPPORT. The operations of Machine/Adc.lean keep what `Keeps` says (Laws/Keeps.lean).
-/
namespace Sys2Proof.Machine

theorem State.startPass_keeps {s00 : State} (s : State) (l : Lane) (g : Fin 12) (triggered : Bool) (h0 : Keeps s00 s) :
    Keeps s00 (State.startPass s l g triggered) := by
  refine keeps_trans h0 ?_
  unfold State.startPass
  exact (State.modGrp_keeps _ _ _ _ (Keeps.refl _))

theorem State.takeTrigger_keeps {s00 : State} (s : State) (l : Lane) (g : Fin 12) (h0 : Keeps s00 s) :
    Keeps s00 (State.takeTrigger s l g) := by
  refine keeps_trans h0 ?_
  unfold State.takeTrigger
  exact (State.modGrp_keeps _ _ _ _ (Keeps.refl _))

theorem State.triggerDue_keeps {s00 : State} (s : State) (l : Lane) (g : Fin 12) (h0 : Keeps s00 s) :
    Keeps s00 (State.triggerDue s l g) := by
  refine keeps_trans h0 ?_
  unfold State.triggerDue
  lift_lets -useContext -merge -underBinder
  intro x0
  try clear_value x0
  refine keeps_ite (fun _ => ?_) (fun _ => ?_)
  · exact (State.fireEv_keeps _ _ _ (Keeps.refl _))
  · exact (Keeps.refl _)

theorem execAdcTrigger_keeps (l : Lane) (g : Fin 12) (s : State) : KeepsOut s (execAdcTrigger l g s) := by
  unfold execAdcTrigger
  lift_lets -useContext -merge -underBinder
  intro x0 x1
  have hx1 : Keeps s x1 := (State.triggerDue_keeps _ _ _ (Keeps.refl _))
  clear_value x1
  intro x2
  have hx2 : Keeps s x2 := (State.takeTrigger_keeps _ _ _ hx1)
  clear_value x2
  exact keepsOut_next (keeps_ite (fun _ => (keeps_ite (fun _ => (keeps_ite (fun _ => (keeps_inc _ _ _ _ _ (keeps_set _ _ _ _ hx2))) (fun _ => (keeps_inc _ _ _ _ _ (State.startPass_keeps _ _ _ _ hx2))))) (fun _ => hx2))) (fun _ => hx1))

theorem State.countSample_keeps {s00 : State} (s : State) (l : Lane) (g : Fin 12) (raw : Nat) (normal : Bool) (h0 : Keeps s00 s) :
    Keeps s00 (State.countSample s l g raw normal) := by
  refine keeps_trans h0 ?_
  unfold State.countSample
  lift_lets -useContext -merge -underBinder
  intro x0 x1
  have hx1 : Keeps s x1 := (keeps_when _ _ (Keeps.refl _) (fun _ => (keeps_inc _ _ _ _ _ (keeps_set _ _ _ _ (Keeps.refl _)))))
  clear_value x1
  exact (keeps_when _ _ hx1 (fun _ => (State.modGrp_keeps _ _ _ _ (keeps_inc _ _ _ _ _ (Keeps.refl _)))))

theorem State.calSample_keeps {s00 : State} (s : State) (l : Lane) (c : Nat) (y : Int) (normal : Bool) (h0 : Keeps s00 s) :
    Keeps s00 (State.calSample s l c y normal) := by
  refine keeps_trans h0 ?_
  unfold State.calSample
  lift_lets -useContext -merge -underBinder
  intro x0 x1
  try clear_value x1
  refine keeps_ite (fun _ => ?_) (fun _ => ?_)
  · exact (State.modAdc_keeps _ _ _ (Keeps.refl _))
  · exact (Keeps.refl _)

theorem State.toDest_keeps {s00 : State} (s : State) (l : Lane) (g : Fin 12) (c z dest e stamp : Nat) (streaming : Bool) (h0 : Keeps s00 s) :
    Keeps s00 (State.toDest s l g c z dest e stamp streaming) := by
  refine keeps_trans h0 ?_
  unfold State.toDest
  lift_lets -useContext -merge -underBinder
  intro x0
  have hx0 : Keeps s x0 := (keeps_ite (fun _ => (State.event_keeps _ _ _ (State.ceSource_keeps _ _ _ _ _ (Keeps.refl _)))) (fun _ => (Keeps.refl _)))
  clear_value x0
  intro x1
  try clear_value x1
  refine keeps_ite (fun _ => ?_) (fun _ => ?_)
  · refine keeps_ite (fun _ => ?_) (fun _ => ?_)
    · refine keeps_ite (fun _ => ?_) (fun _ => ?_)
      · exact (State.pushQ11_keeps _ _ _ _ (State.modGrp_keeps _ _ _ _ hx0))
      · exact (State.modGrp_keeps _ _ _ _ hx0)
    · exact (State.pushQ11_keeps _ _ _ _ hx0)
  · exact hx0

theorem State.bandTap_keeps {s00 : State} (s : State) (l : Lane) (g : Fin 12) (c slice raw : Nat) (h0 : Keeps s00 s) :
    Keeps s00 (State.bandTap s l g c slice raw) := by
  refine keeps_trans h0 ?_
  unfold State.bandTap
  lift_lets -useContext -merge -underBinder
  intro x0 x1
  have hx1 : Keeps1 s x1 := (State.correct_keeps _ _ _ _ (Keeps.refl _))
  clear_value x1
  intro x2
  try clear_value x2
  intro x3
  try clear_value x3
  exact (keeps_each _ _ hx1.h (fun _ _ => (keeps_when _ _ (Keeps.refl _) (fun _ => (State.modBand_keeps _ _ _ _ (Keeps.refl _))))))

theorem State.result_keeps {s00 : State} (s : State) (l : Lane) (g : Fin 12) (slice : Nat) (raw before after : Nat) (c dest stamp : Nat) (streaming urgent restarted : Bool) (h0 : Keeps s00 s) :
    Keeps s00 (State.result s l g slice raw before after c dest stamp streaming urgent restarted) := by
  refine keeps_trans h0 ?_
  unfold State.result
  lift_lets -useContext -merge -underBinder
  intro x0
  try clear_value x0
  intro x1
  have hx1 : Keeps s x1 := (State.countSample_keeps _ _ _ _ _ (Keeps.refl _))
  clear_value x1
  intro x2
  try clear_value x2
  intro x3
  have hx3 : Keeps1 s x3 := (State.correct_keeps _ _ _ _ hx1)
  clear_value x3
  intro x4
  try clear_value x4
  intro x5
  have hx5 : Keeps s x5 := hx3.h
  clear_value x5
  intro x6
  try clear_value x6
  intro x7
  have hx7 : Keeps s x7 := (keeps_wr _ _ _ _ _ (State.calSample_keeps _ _ _ _ _ hx5))
  clear_value x7
  intro x8
  have hx8 : Keeps s x8 := (keeps_ite (fun _ => (State.pushQ12_keeps _ _ _ _ hx7)) (fun _ => (State.toDest_keeps _ _ _ _ _ _ _ _ _ (keeps_when _ _ hx7 (fun _ => (State.bandTap_keeps _ _ _ _ _ _ (Keeps.refl _)))))))
  clear_value x8
  exact (keeps_when _ _ hx8 (fun _ => (keeps_each _ _ (Keeps.refl _) (fun _ _ => (State.shortDetect_keeps _ _ _ _ _ _ (Keeps.refl _))))))

theorem State.passResult_keeps {s00 : State} (s : State) (l : Lane) (g : Fin 12) (slice raw before after : Nat) (h0 : Keeps s00 s) :
    Keeps s00 (State.passResult s l g slice raw before after) := by
  refine keeps_trans h0 ?_
  unfold State.passResult
  lift_lets -useContext -merge -underBinder
  intro x0
  try clear_value x0
  exact (State.result_keeps _ _ _ _ _ _ _ _ _ _ _ _ _ (State.modGrp_keeps _ _ _ _ (Keeps.refl _)))

theorem State.normalResult_keeps {s00 : State} (s : State) (l : Lane) (g : Fin 12) (slice raw before after : Nat) (h0 : Keeps s00 s) :
    Keeps s00 (State.normalResult s l g slice raw before after) := by
  refine keeps_trans h0 ?_
  unfold State.normalResult
  lift_lets -useContext -merge -underBinder
  intro x0
  refine keeps_ite (fun _ => ?_) (fun _ => ?_)
  · exact (State.passResult_keeps _ _ _ _ _ _ _ (Keeps.refl _))
  · refine keeps_ite (fun _ => ?_) (fun _ => ?_)
    · exact (State.resSample_keeps _ _ _ _ _ (State.countSample_keeps _ _ _ _ _ (Keeps.refl _)))
    · split
      · exact (State.result_keeps _ _ _ _ _ _ _ _ _ _ _ _ _ (Keeps.refl _))
      · exact (State.passResult_keeps _ _ _ _ _ _ _ (State.startPass_keeps _ _ _ _ (Keeps.refl _)))
      · exact (Keeps.refl _)

theorem State.abortEntry_keeps {s00 : State} (s : State) (l : Lane) (g : Fin 12) (h0 : Keeps s00 s) :
    Keeps s00 (State.abortEntry s l g) := by
  refine keeps_trans h0 ?_
  unfold State.abortEntry
  lift_lets -useContext -merge -underBinder
  intro x0
  have hx0 : Keeps s x0 := (keeps_ite (fun _ => (State.startPass_keeps _ _ _ _ (Keeps.refl _))) (fun _ => (Keeps.refl _)))
  clear_value x0
  intro x1
  try clear_value x1
  refine keeps_ite (fun _ => ?_) (fun _ => ?_)
  · exact (State.modGrp_keeps _ _ _ _ hx0)
  · exact hx0

theorem State.urgentResult_keeps {s00 : State} (s : State) (l : Lane) (g : Fin 12) (slice raw : Nat) (aborts : Bool) (h0 : Keeps s00 s) :
    Keeps s00 (State.urgentResult s l g slice raw aborts) := by
  refine keeps_trans h0 ?_
  unfold State.urgentResult
  split
  · exact (Keeps.refl _)
  · lift_lets -useContext -merge -underBinder
    intro x0
    have hx0 : Keeps s x0 := (keeps_when _ _ (Keeps.refl _) (fun _ => (State.abortEntry_keeps _ _ _ (Keeps.refl _))))
    clear_value x0
    intro x2
    have hx2 : Keeps s x2 := (keeps_wrBit _ _ _ _ _ (State.modGrp_keeps _ _ _ _ hx0))
    clear_value x2
    exact (State.result_keeps _ _ _ _ _ _ _ _ _ _ _ _ _ hx2)

theorem State.restartedResult_keeps {s00 : State} (s : State) (l : Lane) (g : Fin 12) (slice raw : Nat) (h0 : Keeps s00 s) :
    Keeps s00 (State.restartedResult s l g slice raw) := by
  refine keeps_trans h0 ?_
  unfold State.restartedResult
  split
  · exact (Keeps.refl _)
  · exact (State.result_keeps _ _ _ _ _ _ _ _ _ _ _ _ _ (State.modGrp_keeps _ _ _ _ (Keeps.refl _)))

theorem execAdcResult_keeps (l : Lane) (g : Fin 12) (slice : Fin 4) (raw before after : BitVec 14) (kind : ConvKind) (s : State) : KeepsOut s (execAdcResult l g slice raw before after kind s) := by
  unfold execAdcResult
  exact keepsOut_next (keeps_ite (fun _ => (by
    split
    · exact (State.normalResult_keeps _ _ _ _ _ _ _ (Keeps.refl _))
    · exact (State.urgentResult_keeps _ _ _ _ _ _ (Keeps.refl _))
    · exact (State.restartedResult_keeps _ _ _ _ _ (Keeps.refl _))
)) (fun _ => (Keeps.refl _)))

theorem State.urgentRequest_keeps {s00 : State} (s : State) (l : Lane) (g c : Nat) (h0 : Keeps s00 s) :
    Keeps s00 (State.urgentRequest s l g c) := by
  refine keeps_trans h0 ?_
  unfold State.urgentRequest
  lift_lets -useContext -merge -underBinder
  intro x0 x1
  try clear_value x1
  intro x2
  have hx2 : Keeps s x2 := (keeps_wr _ _ _ _ _ (keeps_wr _ _ _ _ _ (Keeps.refl _)))
  clear_value x2
  refine keeps_dite (fun _ => ?_) (fun _ => ?_)
  · exact (keeps_inc _ _ _ _ _ (State.modGrp_keeps _ _ _ _ (keeps_wrBit _ _ _ _ _ hx2)))
  · exact (keeps_inc _ _ _ _ _ hx2)

theorem execAdcUrgent_keeps (l : Lane) (g : Fin 16) (c : Fin 64) (s : State) : KeepsOut s (execAdcUrgent l g c s) := by
  unfold execAdcUrgent
  exact keepsOut_next (keeps_ite (fun _ => (State.urgentRequest_keeps _ _ _ _ (Keeps.refl _))) (fun _ => (Keeps.refl _)))

theorem State.adcPop_keeps {s00 : State} (s : State) (l : Lane) (urgent : Bool) (h0 : Keeps s00 s) :
    Keeps s00 (State.adcPop s l urgent) := by
  refine keeps_trans h0 ?_
  unfold State.adcPop
  lift_lets -useContext -merge -underBinder
  intro x0 x1
  try clear_value x1
  split
  · exact (keeps_modRun _ _ (Keeps.refl _) fun _ hr => hr)
  · lift_lets -useContext -merge -underBinder
    intro x2
    have hx2 : Keeps s x2 := (keeps_modRun _ _ (Keeps.refl _) fun _ hr => hr)
    clear_value x2
    refine keeps_ite (fun _ => ?_) (fun _ => ?_)
    · exact (keeps_wr _ _ _ _ _ (State.modAdc_keeps _ _ _ hx2))
    · exact (keeps_wr _ _ _ _ _ (State.modAdc_keeps _ _ _ hx2))

theorem execAdcQueuePop_keeps (l : Lane) (urgent : Bool) (s : State) : KeepsOut s (execAdcQueuePop l urgent s) := by
  unfold execAdcQueuePop
  exact keepsOut_next (keeps_ite (fun _ => (State.adcPop_keeps _ _ _ (Keeps.refl _))) (fun _ => (Keeps.refl _)))

theorem State.stepSlice_keeps {s00 : State} (s : State) (l : Lane) (g : Nat) (k : Nat) (e : Int × Int × Int) (h0 : Keeps s00 s) :
    Keeps s00 (State.stepSlice s l g k e) := by
  refine keeps_trans h0 ?_
  unfold State.stepSlice
  lift_lets -useContext -merge -underBinder
  intro x0
  exact (keeps_wrS _ _ _ _ _ (keeps_wrS _ _ _ _ _ (keeps_wrS _ _ _ _ _ (Keeps.refl _))))

theorem execAdcEstStep_keeps (l : Lane) (g : Fin 12) (est : List (Int × Int × Int)) (quiet : Bool) (s : State) : KeepsOut s (execAdcEstStep l g est quiet s) := by
  unfold execAdcEstStep
  lift_lets -useContext -merge -underBinder
  intro x0 x1
  try clear_value x1
  intro x2
  try clear_value x2
  intro x3
  have hx3 : Keeps s x3 := (State.modGrp_keeps _ _ _ _ (Keeps.refl _))
  clear_value x3
  intro x4
  have hx4 : Keeps s x4 := (keeps_put _ _ _ _ _ hx3)
  clear_value x4
  intro x5
  have hx5 : Keeps s x5 := (keeps_each _ _ hx4 (fun _ _ => (State.stepSlice_keeps _ _ _ _ _ (Keeps.refl _))))
  clear_value x5
  exact keepsOut_next (keeps_ite (fun _ => (keeps_ite (fun _ => hx4) (fun _ => (keeps_wr _ _ _ _ _ hx5)))) (fun _ => (Keeps.refl _)))

theorem execAdcCorrWrite_keeps (l : Lane) (c : Fin 64) (gain offset : BitVec 16) (s : State) : KeepsOut s (execAdcCorrWrite l c gain offset s) := by
  unfold execAdcCorrWrite
  exact keepsOut_next (keeps_ite (fun _ => (State.corrWrite_keeps _ _ _ _ _ (Keeps.refl _))) (fun _ => (Keeps.refl _)))

theorem execSyscalMeasure_keeps (l : Lane) (s : State) : KeepsOut s (execSyscalMeasure l s) := by
  unfold execSyscalMeasure
  lift_lets -useContext -merge -underBinder
  intro x0
  exact keepsOut_next (keeps_ite (fun _ => (keeps_ite (fun _ => (State.modAdc_keeps _ _ _ (keeps_set _ _ _ _ (Keeps.refl _)))) (fun _ => (keeps_wr _ _ _ _ _ (Keeps.refl _))))) (fun _ => (Keeps.refl _)))

theorem execSyscalCollectDone_keeps (l : Lane) (s : State) : KeepsOut s (execSyscalCollectDone l s) := by
  unfold execSyscalCollectDone
  lift_lets -useContext -merge -underBinder
  intro x0 x1
  try clear_value x1
  intro x2
  have hx2 : Keeps1 s x2 := (State.quot_keeps _ _ _ (Keeps.refl _))
  clear_value x2
  intro x3
  try clear_value x3
  intro x4
  have hx4 : Keeps s x4 := hx2.h
  clear_value x4
  intro x5
  try clear_value x5
  intro x6
  have hx6 : Keeps s x6 := (keeps_wr _ _ _ _ _ (keeps_clr _ _ _ _ hx4))
  clear_value x6
  exact keepsOut_next (keeps_ite (fun _ => (keeps_ite (fun _ => (keeps_set _ _ _ _ (keeps_wr _ _ _ _ _ hx6))) (fun _ => (keeps_set _ _ _ _ (keeps_wr _ _ _ _ _ hx6))))) (fun _ => (Keeps.refl _)))

theorem execSyscalApply_keeps (l : Lane) (s : State) : KeepsOut s (execSyscalApply l s) := by
  unfold execSyscalApply
  lift_lets -useContext -merge -underBinder
  intro x0 x1
  try clear_value x1
  intro x2
  try clear_value x2
  intro x3
  try clear_value x3
  intro x4
  try clear_value x4
  intro x5
  try clear_value x5
  intro x6
  have hx6 : Keeps1 s x6 := (State.roundQ_keeps _ _ _ (Keeps.refl _))
  clear_value x6
  intro x7
  try clear_value x7
  intro x8
  have hx8 : Keeps s x8 := hx6.h
  clear_value x8
  intro x9
  have hx9 : Keeps1 s x9 := (State.roundQ_keeps _ _ _ hx8)
  clear_value x9
  intro x10
  try clear_value x10
  intro x11
  have hx11 : Keeps s x11 := hx9.h
  clear_value x11
  exact keepsOut_next (keeps_ite (fun _ => (keeps_ite (fun _ => (keeps_wr _ _ _ _ _ (Keeps.refl _))) (fun _ => (keeps_ite (fun _ => (keeps_wr _ _ _ _ _ (Keeps.refl _))) (fun _ => (keeps_ite (fun _ => (keeps_wr _ _ _ _ _ (Keeps.refl _))) (fun _ => (keeps_ite (fun _ => (keeps_wr _ _ _ _ _ (State.corrWrite_keeps _ _ _ _ _ hx11))) (fun _ => (keeps_wr _ _ _ _ _ hx11)))))))))) (fun _ => (Keeps.refl _)))

theorem execSyscalAbort_keeps (l : Lane) (s : State) : KeepsOut s (execSyscalAbort l s) := by
  unfold execSyscalAbort
  lift_lets -useContext -merge -underBinder
  intro x0
  exact keepsOut_next (keeps_ite (fun _ => (keeps_wr _ _ _ _ _ (keeps_clr _ _ _ _ (Keeps.refl _)))) (fun _ => (Keeps.refl _)))

theorem State.sdfValue_keeps {s00 : State} (s : State) (l : Lane) (n : Fin 12) (rising falling : List Bool) (h0 : Keeps s00 s) :
    Keeps11 s00 (State.sdfValue s l n rising falling) := by
  refine keeps11_trans h0 ?_
  unfold State.sdfValue
  lift_lets -useContext -merge -underBinder
  intro x0 x1
  try clear_value x1
  intro x2
  try clear_value x2
  intro x3
  have hx3 : Keeps1 s x3 := (State.quot_keeps _ _ _ (Keeps.refl _))
  clear_value x3
  intro x4
  try clear_value x4
  intro x5
  try clear_value x5
  intro x6
  have hx6 : Keeps1 s x6 := (State.quot_keeps _ _ _ hx3.h)
  clear_value x6
  intro x7
  try clear_value x7
  intro x8
  have hx8 : Keeps s x8 := hx6.h
  clear_value x8
  intro x9
  have hx9 : Keeps1 s x9 := (State.fit_keeps _ _ _ hx8)
  clear_value x9
  intro x10
  try clear_value x10
  intro x11
  have hx11 : Keeps s x11 := hx9.h
  clear_value x11
  exact ⟨Keeps.snd hx11⟩

theorem execSdfTripCompare_keeps (l : Lane) (n : Fin 12) (rising falling : List Bool) (s : State) : KeepsOut s (execSdfTripCompare l n rising falling s) := by
  unfold execSdfTripCompare
  lift_lets -useContext -merge -underBinder
  intro x0 x1
  try clear_value x1
  intro x2
  try clear_value x2
  intro x3
  try clear_value x3
  intro x4
  have hx4 : Keeps s x4 := (keeps_wr _ _ _ _ _ (Keeps.refl _))
  clear_value x4
  exact keepsOut_next (keeps_ite (fun _ => (keeps_ite (fun _ => hx4) (fun _ => (State.sdfTrip_keeps _ _ _ _ _ hx4)))) (fun _ => (Keeps.refl _)))

theorem execSdfStuck_keeps (l : Lane) (n : Fin 12) (s : State) : KeepsOut s (execSdfStuck l n s) := by
  unfold execSdfStuck
  exact keepsOut_next (keeps_ite (fun _ => (State.asySync_keeps _ _ (State.sdfFault_keeps _ _ _ _ (Keeps.refl _)))) (fun _ => (Keeps.refl _)))

theorem execSdfClkFault_keeps (l : Lane) (n : Fin 12) (s : State) : KeepsOut s (execSdfClkFault l n s) := by
  unfold execSdfClkFault
  exact keepsOut_next (keeps_ite (fun _ => (State.asySync_keeps _ _ (State.sdfFault_keeps _ _ _ _ (Keeps.refl _)))) (fun _ => (Keeps.refl _)))

theorem execSdfRefilled_keeps (l : Lane) (n : Fin 12) (s : State) : KeepsOut s (execSdfRefilled l n s) := by
  unfold execSdfRefilled
  lift_lets -useContext -merge -underBinder
  intro x0
  exact keepsOut_next (keeps_ite (fun _ => (State.asySync_keeps _ _ (State.sdfCleared_keeps _ _ _ (keeps_set _ _ _ _ (Keeps.refl _))))) (fun _ => (Keeps.refl _)))


end Sys2Proof.Machine
end

