-- ==== Sys2Proof/Laws/KeepsAssay.lean ====
section
/-!
SUPPORT. The operations of Machine/Assay.lean keep what `Keeps` says (Laws/Keeps.lean).
-/
namespace Sys2Proof.Machine

theorem execSdfResult_keeps (l : Lane) (n : Fin 12) (rising falling : List Bool) (s : State) : KeepsOut s (execSdfResult l n rising falling s) := by
  unfold execSdfResult
  lift_lets -useContext -merge -underBinder
  intro x0 x1
  have hx1 : Keeps11 s x1 := (State.sdfValue_keeps _ _ _ _ _ (Keeps.refl _))
  clear_value x1
  intro x2
  try clear_value x2
  intro x3
  try clear_value x3
  intro x4
  have hx4 : Keeps s x4 := hx1.h
  clear_value x4
  intro x5
  have hx5 : Keeps s x5 := (keeps_set _ _ _ _ (keeps_wr _ _ _ _ _ (keeps_wrS _ _ _ _ _ hx4)))
  clear_value x5
  intro x6
  have hx6 : Keeps s x6 := (State.irq_keeps _ _ _ _ (keeps_when _ _ hx5 (fun _ => (keeps_set _ _ _ _ (Keeps.refl _)))))
  clear_value x6
  intro x8
  have hx8 : Keeps s x8 := (keeps_when _ _ hx6 (fun _ => (State.ceSource_keeps _ _ _ _ _ (Keeps.refl _))))
  clear_value x8
  intro x10
  have hx10 : Keeps s x10 := (State.event_keeps _ _ _ hx8)
  clear_value x10
  exact keepsOut_next (keeps_ite (fun _ => (keeps_when _ _ hx10 (fun _ => (State.asyResult_keeps _ _ _ _ _ (Keeps.refl _))))) (fun _ => (Keeps.refl _)))

theorem execAsyReqCommit_keeps (l : Lane) (s : State) : KeepsOut s (execAsyReqCommit l s) := by
  unfold execAsyReqCommit
  exact keepsOut_next (keeps_ite (fun _ => (State.asyTrigger_keeps _ _ _ (Keeps.refl _))) (fun _ => (Keeps.refl _)))

theorem State.adopt_keeps {s00 : State} (s : State) (l : Lane) (k imp exp : Nat) (h0 : Keeps s00 s) :
    Keeps s00 (State.adopt s l k imp exp) := by
  refine keeps_trans h0 ?_
  unfold State.adopt
  lift_lets -useContext -merge -underBinder
  intro x0 x1
  try clear_value x1
  intro x2
  try clear_value x2
  intro x3
  try clear_value x3
  intro x4
  try clear_value x4
  intro x5
  try clear_value x5
  intro x6
  have hx6 : Keeps s x6 := (State.asyFlag_keeps _ _ _ (keeps_set _ _ _ _ (State.modAsy_keeps _ _ _ (Keeps.refl _))))
  clear_value x6
  exact (keeps_when _ _ hx6 (fun _ => (State.asyFlag_keeps _ _ _ (keeps_set _ _ _ _ (Keeps.refl _)))))

theorem State.deviation_keeps {s00 : State} (s : State) (own par : Nat) (h0 : Keeps s00 s) :
    Keeps1 s00 (State.deviation s own par) := by
  refine keeps1_trans h0 ?_
  unfold State.deviation
  lift_lets -useContext -merge -underBinder
  intro x0
  try clear_value x0
  refine keeps1_ite (fun _ => ?_) (fun _ => ?_)
  · exact (State.quot_keeps _ _ _ (Keeps.refl _))
  · exact ⟨Keeps.snd (Keeps.refl _)⟩

theorem State.xClose_keeps {s00 : State} (s : State) (l : Lane) (di de pi pe : Nat) (h0 : Keeps s00 s) :
    Keeps s00 (State.xClose s l di de pi pe) := by
  refine keeps_trans h0 ?_
  unfold State.xClose
  lift_lets -useContext -merge -underBinder
  intro x0 x1
  have hx1 : Keeps1 s x1 := (State.deviation_keeps _ _ _ (Keeps.refl _))
  clear_value x1
  intro x2
  try clear_value x2
  intro x3
  have hx3 : Keeps s x3 := hx1.h
  clear_value x3
  intro x4
  have hx4 : Keeps1 s x4 := (State.deviation_keeps _ _ _ hx3)
  clear_value x4
  intro x5
  try clear_value x5
  intro x6
  have hx6 : Keeps s x6 := hx4.h
  clear_value x6
  intro x7
  have hx7 : Keeps s x7 := (keeps_wrS _ _ _ _ _ hx6)
  clear_value x7
  refine keeps_ite (fun _ => ?_) (fun _ => ?_)
  · exact (State.log_keeps _ _ _ _ (State.irq_keeps _ _ _ _ (keeps_inc _ _ _ _ _ (keeps_set _ _ _ _ hx7))))
  · exact hx7

theorem State.crossCheck_keeps {s00 : State} (s : State) (l : Lane) (k imp exp : Nat) (h0 : Keeps s00 s) :
    Keeps s00 (State.crossCheck s l k imp exp) := by
  refine keeps_trans h0 ?_
  unfold State.crossCheck
  lift_lets -useContext -merge -underBinder
  intro x0 x1
  try clear_value x1
  split
  · exact (Keeps.refl _)
  · lift_lets -useContext -merge -underBinder
    intro x2
    try clear_value x2
    split
    · exact (keeps_wr _ _ _ _ _ (State.modAsy_keeps _ _ _ (Keeps.refl _)))
    · lift_lets -useContext -merge -underBinder
      intro x3
      try clear_value x3
      intro x4
      try clear_value x4
      refine keeps_ite (fun _ => ?_) (fun _ => ?_)
      · exact (keeps_wr _ _ _ _ _ (State.modAsy_keeps _ _ _ (State.xClose_keeps _ _ _ _ _ _ (Keeps.refl _))))
      · exact (keeps_wr _ _ _ _ _ (State.modAsy_keeps _ _ _ (Keeps.refl _)))

theorem execAsyXinSubmit_keeps (l : Lane) (crc : BitVec 32) (s : State) : KeepsOut s (execAsyXinSubmit l crc s) := by
  unfold execAsyXinSubmit
  lift_lets -useContext -merge -underBinder
  intro x0 x1
  have hx1 : Keeps s x1 := (keeps_wr _ _ _ _ _ (Keeps.refl _))
  clear_value x1
  intro x2 x3
  try clear_value x3
  intro x4
  try clear_value x4
  exact keepsOut_next (keeps_ite (fun _ => (keeps_ite (fun _ => (keeps_inc _ _ _ _ _ hx1)) (fun _ => (keeps_ite (fun _ => hx1) (fun _ => (keeps_ite (fun _ => (State.crossCheck_keeps _ _ _ _ _ hx1)) (fun _ => (State.adopt_keeps _ _ _ _ _ hx1)))))))) (fun _ => (Keeps.refl _)))

theorem execHoldup_keeps (l : Lane) (written tagOk : Bool) (s : State) : KeepsOut s (execHoldup l written tagOk s) := by
  unfold execHoldup
  lift_lets -useContext -merge -underBinder
  intro x0 x1
  try clear_value x1
  intro x2
  try clear_value x2
  intro x3
  have hx3 : Keeps1 s x3 := (State.capture_keeps _ _ _ _ (Keeps.refl _))
  clear_value x3
  intro x4
  have hx4 : Keeps s x4 := (keeps_clr _ _ _ _ (State.showHeld_keeps _ _ (State.modAsy_keeps _ _ _ hx3.h)))
  clear_value x4
  intro x5
  have hx5 : Keeps1 s x5 := (State.freeWords_keeps _ _ hx4)
  clear_value x5
  intro x6
  have hx6 : Keeps1 s x6 := (keeps1_ite (fun _ => ⟨Keeps.snd (keeps_modNv _ _ hx4 (NvKeeps.of_eq rfl rfl rfl))⟩) (fun _ => ⟨Keeps.snd hx5.h⟩))
  clear_value x6
  intro x7
  have hx7 : Keeps s x7 := hx6.h
  clear_value x7
  intro x8
  try clear_value x8
  exact keepsOut_next (keeps_ite (fun _ => (keeps_ite (fun _ => (keeps_set _ _ _ _ (State.ledgerWrite_keeps _ _ _ _ hx7))) (fun _ => hx7))) (fun _ => (Keeps.refl _)))

theorem execCountersign_keeps (l : Lane) (s : State) : KeepsOut s (execCountersign l s) := by
  unfold execCountersign
  exact keepsOut_next (keeps_ite (fun _ => (by
    split
    · lift_lets -useContext -merge -underBinder
      intro x0
      have hx0 : Keeps s x0 := (State.slotWrite_keeps _ _ _ (Keeps.refl _))
      clear_value x0
      exact (State.asySync_keeps _ _ (State.modAsy_keeps _ _ _ hx0))
    · exact (Keeps.refl _)
)) (fun _ => (Keeps.refl _)))


end Sys2Proof.Machine
end

