-- ==== Sys2Proof/Laws/KeepsCe.lean ====
section
/-!
SUPPORT. The operations of Machine/Ce.lean keep what `Keeps` says (Laws/Keeps.lean).
-/
namespace Sys2Proof.Machine

theorem State.bandSyncL_keeps {s00 : State} (s : State) (l : Lane) (n : Fin 32) (h0 : Keeps s00 s) :
    Keeps s00 (State.bandSyncL s l n) := by
  refine keeps_trans h0 ?_
  unfold State.bandSyncL
  exact (keeps_put _ _ _ _ _ (Keeps.refl _))

theorem State.bandFail_keeps {s00 : State} (s : State) (l : Lane) (n : Fin 32) (flag : Fld) (h0 : Keeps s00 s) :
    Keeps s00 (State.bandFail s l n flag) := by
  refine keeps_trans h0 ?_
  unfold State.bandFail
  lift_lets -useContext -merge -underBinder
  intro x0 x1
  have hx1 : Keeps s x1 := (keeps_set _ _ _ _ (Keeps.refl _))
  clear_value x1
  refine keeps_ite (fun _ => ?_) (fun _ => ?_)
  · exact hx1
  · exact (State.irq_keeps _ _ _ _ (State.raiseTg_keeps _ _ _ _ _ (State.modCh_keeps _ _ _ _ (keeps_wr _ _ _ _ _ hx1))))

theorem State.bandStart_keeps {s00 : State} (s : State) (l : Lane) (n : Fin 32) (h0 : Keeps s00 s) :
    Keeps s00 (State.bandStart s l n) := by
  refine keeps_trans h0 ?_
  unfold State.bandStart
  lift_lets -useContext -merge -underBinder
  intro x0 x1
  try clear_value x1
  refine keeps_ite (fun _ => ?_) (fun _ => ?_)
  · exact (keeps_set _ _ _ _ (Keeps.refl _))
  · exact (State.toSettle_keeps _ _ _ (State.modBand_keeps _ _ _ _ (keeps_wr _ _ _ _ _ (State.bandSyncL_keeps _ _ _ (keeps_clr _ _ _ _ (Keeps.refl _))))))

theorem State.bandRecover_keeps {s00 : State} (s : State) (l : Lane) (n : Fin 32) (h0 : Keeps s00 s) :
    Keeps s00 (State.bandRecover s l n) := by
  refine keeps_trans h0 ?_
  unfold State.bandRecover
  exact (State.toSettle_keeps _ _ _ (State.bandSyncL_keeps _ _ _ (keeps_clr _ _ _ _ (Keeps.refl _))))

theorem State.bandJudge_keeps {s00 : State} (s : State) (l : Lane) (n : Fin 32) (h0 : Keeps s00 s) :
    Keeps s00 (State.bandJudge s l n) := by
  refine keeps_trans h0 ?_
  unfold State.bandJudge
  lift_lets -useContext -merge -underBinder
  intro x0
  refine keeps_ite (fun _ => ?_) (fun _ => ?_)
  · refine keeps_ite (fun _ => ?_) (fun _ => ?_)
    · exact (State.bandStart_keeps _ _ _ (Keeps.refl _))
    · refine keeps_ite (fun _ => ?_) (fun _ => ?_)
      · exact (State.bandFail_keeps _ _ _ _ (Keeps.refl _))
      · refine keeps_ite (fun _ => ?_) (fun _ => ?_)
        · exact (State.bandRecover_keeps _ _ _ (Keeps.refl _))
        · exact (Keeps.refl _)
  · exact (keeps_clr _ _ _ _ (Keeps.refl _))

theorem State.bandJudgeAll_keeps {s00 : State} (s : State) (l : Lane) (h0 : Keeps s00 s) :
    Keeps s00 (State.bandJudgeAll s l) := by
  refine keeps_trans h0 ?_
  unfold State.bandJudgeAll
  exact (keeps_when _ _ (Keeps.refl _) (fun _ => (keeps_each _ _ (Keeps.refl _) (fun _ _ => (State.bandJudge_keeps _ _ _ (Keeps.refl _))))))

theorem execBandEnable_keeps (l : Lane) (n : Fin 32) (s : State) : KeepsOut s (execBandEnable l n s) := by
  unfold execBandEnable
  lift_lets -useContext -merge -underBinder
  intro x0
  exact keepsOut_next (keeps_ite (fun _ => (State.bandStart_keeps _ _ _ (keeps_set _ _ _ _ (Keeps.refl _)))) (fun _ => (Keeps.refl _)))

theorem State.bandStop_keeps {s00 : State} (s : State) (l : Lane) (n : Fin 32) (h0 : Keeps s00 s) :
    Keeps s00 (State.bandStop s l n) := by
  refine keeps_trans h0 ?_
  unfold State.bandStop
  exact (State.modCh_keeps _ _ _ _ (State.modBand_keeps _ _ _ _ (keeps_wr _ _ _ _ _ (Keeps.refl _))))

theorem State.bandCommit_keeps {s00 : State} (s : State) (l : Lane) (n : Fin 32) (x : Int) (late : Bool) (h0 : Keeps s00 s) :
    Keeps s00 (State.bandCommit s l n x late) := by
  refine keeps_trans h0 ?_
  unfold State.bandCommit
  lift_lets -useContext -merge -underBinder
  intro x0 x1
  try clear_value x1
  intro x2
  try clear_value x2
  intro x3
  have hx3 : Keeps s x3 := (keeps_wr _ _ _ _ _ (State.modBand_keeps _ _ _ _ (Keeps.refl _)))
  clear_value x3
  intro x4
  have hx4 : Keeps s x4 := (State.modCh_keeps _ _ _ _ hx3)
  clear_value x4
  refine keeps_ite (fun _ => ?_) (fun _ => ?_)
  · exact (keeps_inc _ _ _ _ _ (keeps_set _ _ _ _ hx4))
  · exact hx4

theorem State.bandTrackRule_keeps {s00 : State} (s : State) (l : Lane) (n : Fin 32) (t skew e : Int) (h0 : Keeps s00 s) :
    Keeps s00 (State.bandTrackRule s l n t skew e) := by
  refine keeps_trans h0 ?_
  unfold State.bandTrackRule
  lift_lets -useContext -merge -underBinder
  intro x0
  try clear_value x0
  intro x1
  try clear_value x1
  intro x2
  have hx2 : Keeps1 s x2 := (State.quot_keeps _ _ _ (Keeps.refl _))
  clear_value x2
  intro x3
  try clear_value x3
  intro x4
  try clear_value x4
  intro x5
  try clear_value x5
  intro x6
  try clear_value x6
  intro x7
  try clear_value x7
  intro x8
  try clear_value x8
  intro x9
  have hx9 : Keeps1 s x9 := (State.quot_keeps _ _ _ (Keeps.refl _))
  clear_value x9
  refine keeps_ite (fun _ => ?_) (fun _ => ?_)
  · exact (State.bandCommit_keeps _ _ _ _ _ hx2.h)
  · refine keeps_ite (fun _ => ?_) (fun _ => ?_)
    · refine keeps_ite (fun _ => ?_) (fun _ => ?_)
      · exact (State.bandCommit_keeps _ _ _ _ _ hx9.h)
      · exact (Keeps.refl _)
    · exact (Keeps.refl _)

theorem State.bandProbes_keeps {s00 : State} (s : State) (l : Lane) (n : Fin 32) (h0 : Keeps s00 s) :
    Keeps s00 (State.bandProbes s l n) := by
  refine keeps_trans h0 ?_
  unfold State.bandProbes
  lift_lets -useContext -merge -underBinder
  intro x0
  try clear_value x0
  intro x1
  try clear_value x1
  exact (State.traceUpdate_keeps _ _ _ _ (State.traceUpdate_keeps _ _ _ _ (Keeps.refl _)))

theorem State.bandEval_keeps {s00 : State} (s : State) (l : Lane) (n : Fin 32) (x skew t : Int) (h0 : Keeps s00 s) :
    Keeps s00 (State.bandEval s l n x skew t) := by
  refine keeps_trans h0 ?_
  unfold State.bandEval
  lift_lets -useContext -merge -underBinder
  intro x0 x1
  try clear_value x1
  intro x2
  try clear_value x2
  intro x3
  try clear_value x3
  intro x4
  have hx4 : Keeps s x4 := (State.modBand_keeps _ _ _ _ (Keeps.refl _))
  clear_value x4
  intro x5
  have hx5 : Keeps1 s x5 := (State.fit_keeps _ _ _ hx4)
  clear_value x5
  intro x6
  try clear_value x6
  intro x7
  have hx7 : Keeps s x7 := hx5.h
  clear_value x7
  intro x8
  have hx8 : Keeps s x8 := (State.modBand_keeps _ _ _ _ (State.ceSource_keeps _ _ _ _ _ hx7))
  clear_value x8
  intro x9
  try clear_value x9
  intro x10
  have hx10 : Keeps1 s x10 := (State.quot_keeps _ _ _ hx8)
  clear_value x10
  intro x11
  have hx11 : Keeps s x11 := (keeps_ite (fun _ => hx8) (fun _ => (keeps_ite (fun _ => (keeps_ite (fun _ => (State.bandCommit_keeps _ _ _ _ _ hx10.h)) (fun _ => (keeps_ite (fun _ => (keeps_wr _ _ _ _ _ hx8)) (fun _ => hx8))))) (fun _ => (keeps_ite (fun _ => (State.bandTrackRule_keeps _ _ _ _ _ _ hx8)) (fun _ => hx8))))))
  clear_value x11
  refine keeps_ite (fun _ => ?_) (fun _ => ?_)
  · exact (State.bandFail_keeps _ _ _ _ (Keeps.refl _))
  · refine keeps_ite (fun _ => ?_) (fun _ => ?_)
    · exact (State.bandRecover_keeps _ _ _ (Keeps.refl _))
    · exact (State.bandProbes_keeps _ _ _ hx11)

theorem execBandEvaluate_keeps (l : Lane) (n : Fin 32) (age : Nat) (s : State) : KeepsOut s (execBandEvaluate l n age s) := by
  unfold execBandEvaluate
  exact keepsOut_next (keeps_ite (fun _ => (by
    split
    · exact (Keeps.refl _)
    · lift_lets -useContext -merge -underBinder
      intro x0
      have hx0 : Keeps s x0 := (State.modBand_keeps _ _ _ _ (Keeps.refl _))
      clear_value x0
      refine keeps_ite (fun _ => ?_) (fun _ => ?_)
      · exact hx0
      · exact (State.bandEval_keeps _ _ _ _ _ _ hx0)
)) (fun _ => (Keeps.refl _)))

theorem State.bandIssued_keeps {s00 : State} (s : State) (l : Lane) (n : Fin 32) (x : Int) (h0 : Keeps s00 s) :
    Keeps s00 (State.bandIssued s l n x) := by
  refine keeps_trans h0 ?_
  unfold State.bandIssued
  lift_lets -useContext -merge -underBinder
  intro x0 x1
  try clear_value x1
  intro x2
  try clear_value x2
  intro x3
  have hx3 : Keeps s x3 := (keeps_inc _ _ _ _ _ (keeps_put _ _ _ _ _ (Keeps.refl _)))
  clear_value x3
  intro x4
  have hx4 : Keeps s x4 := by
    unfold x4
    split
    · refine keeps_ite (fun _ => ?_) (fun _ => ?_)
      · exact (keeps_wr _ _ _ _ _ hx3)
      · exact hx3
    · exact hx3
  clear_value x4
  intro x5
  have hx5 : Keeps s x5 := (State.event_keeps _ _ _ (State.modBand_keeps _ _ _ _ hx4))
  clear_value x5
  refine keeps_ite (fun _ => ?_) (fun _ => ?_)
  · exact hx5
  · exact (State.toSettle_keeps _ _ _ hx5)

theorem State.bandDropped_keeps {s00 : State} (s : State) (l : Lane) (n : Fin 32) (cnt : Fld) (h0 : Keeps s00 s) :
    Keeps s00 (State.bandDropped s l n cnt) := by
  refine keeps_trans h0 ?_
  unfold State.bandDropped
  lift_lets -useContext -merge -underBinder
  intro x0 x1
  have hx1 : Keeps s x1 := (keeps_inc _ _ _ _ _ (keeps_set _ _ _ _ (Keeps.refl _)))
  clear_value x1
  refine keeps_ite (fun _ => ?_) (fun _ => ?_)
  · exact (State.modBand_keeps _ _ _ _ (keeps_wr _ _ _ _ _ hx1))
  · exact hx1

theorem execBandEdgeReport_keeps (l : Lane) (n : Fin 32) (s : State) : KeepsOut s (execBandEdgeReport l n s) := by
  unfold execBandEdgeReport
  lift_lets -useContext -merge -underBinder
  intro x0
  try clear_value x0
  exact keepsOut_next (keeps_ite (fun _ => (by
    split
    · exact (Keeps.refl _)
    · lift_lets -useContext -merge -underBinder
      intro x1
      have hx1 : Keeps s x1 := (State.modCh_keeps _ _ _ _ (Keeps.refl _))
      clear_value x1
      split
      · exact (State.bandIssued_keeps _ _ _ _ hx1)
      · exact (State.bandDropped_keeps _ _ _ _ hx1)
      · exact (State.bandDropped_keeps _ _ _ _ hx1)
)) (fun _ => (Keeps.refl _)))

theorem execBandStall_keeps (l : Lane) (n : Fin 32) (s : State) : KeepsOut s (execBandStall l n s) := by
  unfold execBandStall
  lift_lets -useContext -merge -underBinder
  intro x0
  exact keepsOut_next (keeps_ite (fun _ => (State.bandFail_keeps _ _ _ _ (Keeps.refl _))) (fun _ => (Keeps.refl _)))

theorem State.fllWindow_keeps {s00 : State} (s : State) (l : Lane) (n : Fin 32) (h0 : Keeps s00 s) :
    Keeps s00 (State.fllWindow s l n) := by
  refine keeps_trans h0 ?_
  unfold State.fllWindow
  lift_lets -useContext -merge -underBinder
  intro x0 x1
  try clear_value x1
  intro x2
  have hx2 : Keeps s x2 := (State.modBand_keeps _ _ _ _ (Keeps.refl _))
  clear_value x2
  intro x3
  try clear_value x3
  intro x4
  try clear_value x4
  intro x5
  try clear_value x5
  intro x6
  try clear_value x6
  intro x7
  try clear_value x7
  intro x8
  have hx8 : Keeps1 s x8 := (State.roundQ_keeps _ _ _ hx2)
  clear_value x8
  intro x9
  try clear_value x9
  intro x10
  have hx10 : Keeps s x10 := hx8.h
  clear_value x10
  intro x11
  try clear_value x11
  intro x12
  try clear_value x12
  intro x13
  try clear_value x13
  intro x14
  have hx14 : Keeps1 s x14 := (State.roundQ_keeps _ _ _ hx10)
  clear_value x14
  intro x15
  try clear_value x15
  intro x16
  have hx16 : Keeps s x16 := hx14.h
  clear_value x16
  intro x17
  try clear_value x17
  intro x18
  try clear_value x18
  intro x19
  try clear_value x19
  refine keeps_ite (fun _ => ?_) (fun _ => ?_)
  · exact (keeps_wrSat _ _ _ _ _ (keeps_clr _ _ _ _ (keeps_put _ _ _ _ _ (State.modBand_keeps _ _ _ _ hx16))))
  · exact (keeps_set _ _ _ _ hx2)

theorem State.ceBoundary_keeps {s00 : State} (s : State) (l : Lane) (h0 : Keeps s00 s) :
    Keeps s00 (State.ceBoundary s l) := by
  refine keeps_trans h0 ?_
  unfold State.ceBoundary
  lift_lets -useContext -merge -underBinder
  intro x0 x1
  have hx1 : Keeps s x1 := (keeps_each _ _ (Keeps.refl _) (fun y2 y3 => (keeps_ite (fun _ => (by
    lift_lets -useContext -merge -underBinder
    intro x4
    have hx4 : Keeps y2 x4 := (State.modBand_keeps _ _ _ _ (Keeps.refl _))
    clear_value x4
    refine keeps_ite (fun _ => ?_) (fun _ => ?_)
    · exact (State.fllWindow_keeps _ _ _ hx4)
    · exact hx4
)) (fun _ => (Keeps.refl _)))))
  clear_value x1
  intro x5
  have hx5 : Keeps1 s x5 := (State.quot_keeps _ _ _ hx1)
  clear_value x5
  intro x6
  try clear_value x6
  intro x7
  have hx7 : Keeps s x7 := hx5.h
  clear_value x7
  exact (State.modCe_keeps _ _ _ (keeps_wrSat _ _ _ _ _ hx7))

theorem State.arithTrigger_keeps {s00 : State} (s : State) (l : Lane) (i : Fin 24) (h0 : Keeps s00 s) :
    Keeps s00 (State.arithTrigger s l i) := by
  refine keeps_trans h0 ?_
  unfold State.arithTrigger
  lift_lets -useContext -merge -underBinder
  intro x0 x1
  try clear_value x1
  intro x2
  try clear_value x2
  intro x3
  have hx3 : Keeps s x3 := (State.modArith_keeps _ _ _ _ (Keeps.refl _))
  clear_value x3
  refine keeps_ite (fun _ => ?_) (fun _ => ?_)
  · split
    · exact (State.modArith_keeps _ _ _ _ hx3)
    · exact (State.modArith_keeps _ _ _ _ hx3)
    · exact (State.irq_keeps _ _ _ _ (keeps_inc _ _ _ _ _ (keeps_set _ _ _ _ hx3)))
  · exact (State.modArith_keeps _ _ _ _ (Keeps.refl _))

theorem State.srcErr_keeps {s00 : State} (s : State) (l : Lane) (i : Nat) (h0 : Keeps s00 s) :
    Keeps s00 (State.srcErr s l i) := by
  refine keeps_trans h0 ?_
  unfold State.srcErr
  lift_lets -useContext -merge -underBinder
  intro x0
  exact (keeps_put _ _ _ _ _ (Keeps.refl _))

theorem execArithTrigger_keeps (l : Lane) (i : Fin 24) (s : State) : KeepsOut s (execArithTrigger l i s) := by
  unfold execArithTrigger
  lift_lets -useContext -merge -underBinder
  intro x0 x1
  have hx1 : Keeps s x1 := (State.modArith_keeps _ _ _ _ (Keeps.refl _))
  clear_value x1
  exact keepsOut_next (keeps_ite (fun _ => (keeps_ite (fun _ => (keeps_set _ _ _ _ hx1)) (fun _ => (keeps_ite (fun _ => hx1) (fun _ => (State.arithTrigger_keeps _ _ _ hx1)))))) (fun _ => (Keeps.refl _)))

theorem State.feSupervise_keeps {s00 : State} (s : State) (l : Lane) (i : Fin 24) (dv : Int) (st : Nat) (h0 : Keeps s00 s) :
    Keeps s00 (State.feSupervise s l i dv st) := by
  refine keeps_trans h0 ?_
  unfold State.feSupervise
  lift_lets -useContext -merge -underBinder
  intro x0 x1
  try clear_value x1
  refine keeps_ite (fun _ => ?_) (fun _ => ?_)
  · exact (keeps_clr _ _ _ _ (State.modArith_keeps _ _ _ _ (Keeps.refl _)))
  · split
    · exact (keeps_set _ _ _ _ (State.modArith_keeps _ _ _ _ (Keeps.refl _)))
    · lift_lets -useContext -merge -underBinder
      intro x2
      have hx2 : Keeps s x2 := (keeps_clr _ _ _ _ (State.modArith_keeps _ _ _ _ (Keeps.refl _)))
      clear_value x2
      intro x3
      have hx3 : Keeps s x3 := (State.raiseTg_keeps _ _ _ _ _ (State.irq_keeps _ _ _ _ (keeps_wrBit _ _ _ _ _ hx2)))
      clear_value x3
      refine keeps_ite (fun _ => ?_) (fun _ => ?_)
      · exact (State.event_keeps _ _ _ (State.log_keeps _ _ _ _ (State.feEvent_keeps _ _ _ hx3)))
      · exact (Keeps.refl _)

theorem State.arithRead_keeps {s00 : State} (s : State) (l : Lane) (i : Fin 24) (code : Nat) (h0 : Keeps s00 s) :
    Keeps s00 (State.arithRead s l i code) := by
  refine keeps_trans h0 ?_
  unfold State.arithRead
  lift_lets -useContext -merge -underBinder
  intro x0
  exact (keeps_when _ _ (keeps_when _ _ (Keeps.refl _) (fun _ => (keeps_set _ _ _ _ (Keeps.refl _)))) (fun _ => (keeps_set _ _ _ _ (Keeps.refl _))))

theorem State.arithExecute_keeps {s00 : State} (s : State) (l : Lane) (i : Fin 24) (st : Nat) (h0 : Keeps s00 s) :
    Keeps s00 (State.arithExecute s l i st) := by
  refine keeps_trans h0 ?_
  unfold State.arithExecute
  lift_lets -useContext -merge -underBinder
  intro x0 x1
  try clear_value x1
  intro x2
  try clear_value x2
  intro x3
  try clear_value x3
  intro x4
  try clear_value x4
  intro x5
  try clear_value x5
  intro x6
  try clear_value x6
  intro x7
  try clear_value x7
  intro x8
  have hx8 : Keeps s x8 := (State.arithRead_keeps _ _ _ _ (State.arithRead_keeps _ _ _ _ (State.arithRead_keeps _ _ _ _ (Keeps.refl _))))
  clear_value x8
  intro x9
  try clear_value x9
  intro x10
  try clear_value x10
  intro x11
  try clear_value x11
  intro x12
  try clear_value x12
  intro x13
  try clear_value x13
  intro x14
  try clear_value x14
  intro x15
  have hx15 : Keeps s x15 := (State.modArith_keeps _ _ _ _ hx8)
  clear_value x15
  intro x16
  have hx16 : Keeps s x16 := (keeps_wr _ _ _ _ _ (keeps_put _ _ _ _ _ (keeps_clr _ _ _ _ hx15)))
  clear_value x16
  intro x17
  have hx17 : Keeps s x17 := (keeps_ite (fun _ => hx16) (fun _ => (State.irq_keeps _ _ _ _ (keeps_wrBit _ _ _ _ _ hx16))))
  clear_value x17
  intro x18
  try clear_value x18
  intro x19
  have hx19 : Keeps s x19 := (State.modCe_keeps _ _ _ (keeps_wr _ _ _ _ _ (keeps_wr _ _ _ _ _ hx17)))
  clear_value x19
  intro x20
  have hx20 : Keeps s x20 := (State.traceUpdate_keeps _ _ _ _ (State.ceSource_keeps _ _ _ _ _ hx19))
  clear_value x20
  intro x21
  try clear_value x21
  intro x22
  have hx22 : Keeps s x22 := (keeps_ite (fun _ => (State.feSupervise_keeps _ _ _ _ _ hx20)) (fun _ => hx20))
  clear_value x22
  intro x23
  have hx23 : Keeps s x23 := (keeps_when _ _ (State.event_keeps _ _ _ hx22) (fun _ => (State.event_keeps _ _ _ (Keeps.refl _))))
  clear_value x23
  refine keeps_ite (fun _ => ?_) (fun _ => ?_)
  · exact (State.urgentRequest_keeps _ _ _ _ hx23)
  · exact hx23

theorem execArithExecute_keeps (l : Lane) (i : Fin 24) (s : State) : KeepsOut s (execArithExecute l i s) := by
  unfold execArithExecute
  exact keepsOut_next (keeps_ite (fun _ => (by
    split
    · exact (Keeps.refl _)
    · refine keeps_ite (fun _ => ?_) (fun _ => ?_)
      · exact (Keeps.refl _)
      · refine keeps_ite (fun _ => ?_) (fun _ => ?_)
        · exact (State.modArith_keeps _ _ _ _ (Keeps.refl _))
        · exact (State.arithExecute_keeps _ _ _ _ (Keeps.refl _))
)) (fun _ => (Keeps.refl _)))

theorem execCeIntPreset_keeps (l : Lane) (i : Fin 24) (lo : Option (BitVec 32)) (hi : BitVec 16) (s : State) : KeepsOut s (execCeIntPreset l i lo hi s) := by
  unfold execCeIntPreset
  lift_lets -useContext -merge -underBinder
  intro x0 x1
  try clear_value x1
  exact keepsOut_next (keeps_ite (fun _ => (keeps_set _ _ _ _ (State.modArith_keeps _ _ _ _ (Keeps.refl _)))) (fun _ => (Keeps.refl _)))

theorem State.ceStart_keeps {s00 : State} (s0 : State) (l : Lane) (h0 : Keeps s00 s0) :
    Keeps s00 (State.ceStart s0 l) := by
  refine keeps_trans h0 ?_
  unfold State.ceStart
  lift_lets -useContext -merge -underBinder
  intro x0
  have hx0 : Keeps s0 x0 := (keeps_each _ _ (Keeps.refl _) (fun _ _ => (State.srcErr_keeps _ _ _ (Keeps.refl _))))
  clear_value x0
  exact (keeps_each _ _ hx0 (fun _ _ => (keeps_when _ _ (Keeps.refl _) (fun _ => (State.bandStart_keeps _ _ _ (Keeps.refl _))))))


end Sys2Proof.Machine
end

