-- ==== Sys2Proof/Laws/KeepsPos.lean ====
section
/-!
SUPPORT. The operations of Machine/Pos.lean keep what `Keeps` says (Laws/Keeps.lean).
-/
namespace Sys2Proof.Machine

theorem State.modPos_keeps {s00 : State} (s : State) (l : Lane) (f : PosSt → PosSt) (h0 : Keeps s00 s) :
    Keeps s00 (State.modPos s l f) := by
  refine keeps_trans h0 ?_
  unfold State.modPos
  exact (keeps_modRun _ _ (Keeps.refl _) fun _ hr => hr)

theorem State.modPt_keeps {s00 : State} (s : State) (l : Lane) (p : Fin 6) (f : PtSt → PtSt) (h0 : Keeps s00 s) :
    Keeps s00 (State.modPt s l p f) := by
  refine keeps_trans h0 ?_
  unfold State.modPt
  exact (State.modPos_keeps _ _ _ (Keeps.refl _))

theorem State.resTrack_keeps {s00 : State} (s : State) (l : Lane) (n : Fin 2) (e : Int) (h0 : Keeps s00 s) :
    Keeps s00 (State.resTrack s l n e) := by
  refine keeps_trans h0 ?_
  unfold State.resTrack
  lift_lets -useContext -merge -underBinder
  intro x0 x1
  try clear_value x1
  intro x2
  have hx2 : Keeps1 s x2 := (State.quot_keeps _ _ _ (Keeps.refl _))
  clear_value x2
  intro x3
  try clear_value x3
  intro x4
  have hx4 : Keeps s x4 := hx2.h
  clear_value x4
  intro x5
  try clear_value x5
  intro x6
  have hx6 : Keeps1 s x6 := (State.quot_keeps _ _ _ hx4)
  clear_value x6
  intro x7
  try clear_value x7
  intro x8
  have hx8 : Keeps s x8 := hx6.h
  clear_value x8
  intro x9
  have hx9 : Keeps1 s x9 := (State.quot_keeps _ _ _ hx8)
  clear_value x9
  intro x10
  try clear_value x10
  intro x11
  have hx11 : Keeps s x11 := hx9.h
  clear_value x11
  exact (keeps_wrS _ _ _ _ _ (keeps_wr _ _ _ _ _ (State.modRes_keeps _ _ _ _ hx11)))

theorem State.resFault_keeps {s00 : State} (s : State) (l : Lane) (n : Fin 2) (cond : Bool) (cnt : Nat) (dec : Bool) (flag tally : Fld) (put : Nat → Bool → ResSt → ResSt) (h0 : Keeps s00 s) :
    Keeps s00 (State.resFault s l n cond cnt dec flag tally put) := by
  refine keeps_trans h0 ?_
  unfold State.resFault
  lift_lets -useContext -merge -underBinder
  intro x0 x1
  try clear_value x1
  intro x2
  try clear_value x2
  intro x3
  have hx3 : Keeps s x3 := (State.modRes_keeps _ _ _ _ (Keeps.refl _))
  clear_value x3
  refine keeps_ite (fun _ => ?_) (fun _ => ?_)
  · exact (keeps_inc _ _ _ _ _ (keeps_set _ _ _ _ hx3))
  · exact hx3

theorem State.resCorrect_keeps {s00 : State} (s : State) (l : Lane) (n : Fin 2) (t : Int × Int × Int × Int) (h0 : Keeps s00 s) :
    Keeps s00 (State.resCorrect s l n t) := by
  refine keeps_trans h0 ?_
  unfold State.resCorrect
  lift_lets -useContext -merge -underBinder
  intro x0 x1
  try clear_value x1
  intro x2
  try clear_value x2
  intro x3
  try clear_value x3
  intro x4
  try clear_value x4
  intro x5 x6 x7
  try clear_value x7
  intro x8
  have hx8 : Keeps s x8 := (keeps_ite (fun _ => (Keeps.refl _)) (fun _ => (keeps_wrS _ _ _ _ _ (keeps_wrS _ _ _ _ _ (keeps_wrS _ _ _ _ _ (keeps_wrS _ _ _ _ _ (Keeps.refl _)))))))
  clear_value x8
  exact (keeps_put _ _ _ _ _ hx8)

theorem State.resValid_keeps {s00 : State} (s : State) (l : Lane) (n : Fin 2) (v : Bool) (h0 : Keeps s00 s) :
    Keeps s00 (State.resValid s l n v) := by
  refine keeps_trans h0 ?_
  unfold State.resValid
  lift_lets -useContext -merge -underBinder
  intro x0 x1
  try clear_value x1
  intro x2
  have hx2 : Keeps s x2 := (keeps_wrBit _ _ _ _ _ (keeps_put _ _ _ _ _ (Keeps.refl _)))
  clear_value x2
  exact (keeps_when _ _ hx2 (fun _ => (State.irq_keeps _ _ _ _ (Keeps.refl _))))

theorem State.demod_keeps {s00 : State} (s : State) (l : Lane) (n : Fin 2) (h0 : Keeps s00 s) :
    Keeps s00 (State.demod s l n) := by
  refine keeps_trans h0 ?_
  unfold State.demod
  lift_lets -useContext -merge -underBinder
  intro x0
  try clear_value x0
  intro x1
  try clear_value x1
  intro x2
  try clear_value x2
  intro x3
  try clear_value x3
  intro x4
  have hx4 : Keeps1 s x4 := (State.quot_keeps _ _ _ (Keeps.refl _))
  clear_value x4
  intro x5
  have hx5 : Keeps1 s x5 := (State.quot_keeps _ _ _ hx4.h)
  clear_value x5
  intro x6
  have hx6 : Keeps1 s x6 := (State.quot_keeps _ _ _ hx5.h)
  clear_value x6
  exact (State.modRes_keeps _ _ _ _ hx6.h)

theorem State.resTurn_keeps {s00 : State} (s : State) (l : Lane) (n : Fin 2) (phi0 : Nat) (lock : Bool) (est : Int × Int × Int × Int) (h0 : Keeps s00 s) :
    Keeps s00 (State.resTurn s l n phi0 lock est) := by
  refine keeps_trans h0 ?_
  unfold State.resTurn
  lift_lets -useContext -merge -underBinder
  intro x0 x1
  try clear_value x1
  refine keeps_ite (fun _ => ?_) (fun _ => ?_)
  · refine keeps_ite (fun _ => ?_) (fun _ => ?_)
    · exact (State.resCorrect_keeps _ _ _ _ (State.modRes_keeps _ _ _ _ (Keeps.refl _)))
    · exact (State.modRes_keeps _ _ _ _ (Keeps.refl _))
  · exact (State.modRes_keeps _ _ _ _ (Keeps.refl _))

theorem State.resUpdate_keeps {s00 : State} (s0 : State) (l : Lane) (n : Fin 2) (est : Int × Int × Int × Int) (h0 : Keeps s00 s0) :
    Keeps s00 (State.resUpdate s0 l n est) := by
  refine keeps_trans h0 ?_
  unfold State.resUpdate
  lift_lets -useContext -merge -underBinder
  intro x0 x1
  have hx1 : Keeps s0 x1 := (State.demod_keeps _ _ _ (Keeps.refl _))
  clear_value x1
  intro x2
  try clear_value x2
  intro x3
  try clear_value x3
  intro x4
  try clear_value x4
  intro x5
  try clear_value x5
  intro x6
  try clear_value x6
  intro x7
  try clear_value x7
  intro x8
  try clear_value x8
  intro x9
  have hx9 : Keeps1 s0 x9 := (State.quot_keeps _ _ _ hx1)
  clear_value x9
  intro x10
  try clear_value x10
  intro x11
  have hx11 : Keeps s0 x11 := hx9.h
  clear_value x11
  intro x12
  have hx12 : Keeps s0 x12 := (State.resTrack_keeps _ _ _ _ hx11)
  clear_value x12
  intro x13
  have hx13 : Keeps1 s0 x13 := (State.quot_keeps _ _ _ hx12)
  clear_value x13
  intro x14
  try clear_value x14
  intro x15
  have hx15 : Keeps1 s0 x15 := (State.quot_keeps _ _ _ hx13.h)
  clear_value x15
  intro x16
  have hx16 : Keeps s0 x16 := hx15.h
  clear_value x16
  intro x17
  have hx17 : Keeps s0 x17 := (keeps_wr _ _ _ _ _ (keeps_wrSat _ _ _ _ _ hx16))
  clear_value x17
  intro x18 x19
  try clear_value x19
  intro x20
  try clear_value x20
  intro x21
  try clear_value x21
  intro x22
  try clear_value x22
  intro x23
  try clear_value x23
  intro x24
  try clear_value x24
  intro x25
  have hx25 : Keeps s0 x25 := (State.resFault_keeps _ _ _ _ _ _ _ _ _ hx17)
  clear_value x25
  intro x26
  have hx26 : Keeps s0 x26 := (State.resFault_keeps _ _ _ _ _ _ _ _ _ hx25)
  clear_value x26
  intro x27
  have hx27 : Keeps s0 x27 := (State.resFault_keeps _ _ _ _ _ _ _ _ _ hx26)
  clear_value x27
  intro x28
  try clear_value x28
  intro x29
  try clear_value x29
  intro x30
  have hx30 : Keeps s0 x30 := (keeps_put _ _ _ _ _ (State.modRes_keeps _ _ _ _ hx27))
  clear_value x30
  intro x31
  try clear_value x31
  intro x32
  have hx32 : Keeps s0 x32 := (keeps_put _ _ _ _ _ hx30)
  clear_value x32
  intro x33
  try clear_value x33
  intro x34
  try clear_value x34
  intro x35
  have hx35 : Keeps s0 x35 := (keeps_ite (fun _ => (State.resValid_keeps _ _ _ _ hx32)) (fun _ => (keeps_ite (fun _ => (State.resValid_keeps _ _ _ _ hx32)) (fun _ => hx32))))
  clear_value x35
  intro x36
  try clear_value x36
  intro x37
  have hx37 : Keeps s0 x37 := (State.ceSource_keeps _ _ _ _ _ (State.ceSource_keeps _ _ _ _ _ hx35))
  clear_value x37
  exact (State.resTurn_keeps _ _ _ _ _ _ hx37)

theorem execResolverUpdate_keeps (l : Lane) (n : Fin 2) (est : Int × Int × Int × Int) (s : State) : KeepsOut s (execResolverUpdate l n est s) := by
  unfold execResolverUpdate
  exact keepsOut_next (keeps_ite (fun _ => (State.resUpdate_keeps _ _ _ _ (Keeps.refl _))) (fun _ => (Keeps.refl _)))

theorem execResolverCarStep_keeps (l : Lane) (n : Fin 2) (s : State) : KeepsOut s (execResolverCarStep l n s) := by
  unfold execResolverCarStep
  lift_lets -useContext -merge -underBinder
  intro x0 x1
  try clear_value x1
  intro x2
  have hx2 : Keeps s x2 := (State.modRes_keeps _ _ _ _ (keeps_advTo _ (Keeps.refl _)))
  clear_value x2
  intro x3
  try clear_value x3
  exact keepsOut_next (keeps_ite (fun _ => (keeps_ite (fun _ => hx2) (fun _ => (keeps_wr _ _ _ _ _ hx2)))) (fun _ => (Keeps.refl _)))

theorem State.resRestart_keeps {s00 : State} (s : State) (l : Lane) (n : Fin 2) (h0 : Keeps s00 s) :
    Keeps s00 (State.resRestart s l n) := by
  refine keeps_trans h0 ?_
  unfold State.resRestart
  exact (State.resValid_keeps _ _ _ _ (State.modRes_keeps _ _ _ _ (Keeps.refl _)))

theorem State.ptFlags_keeps {s00 : State} (s : State) (l : Lane) (p : Fin 6) (valid ok : Bool) (h0 : Keeps s00 s) :
    Keeps s00 (State.ptFlags s l p valid ok) := by
  refine keeps_trans h0 ?_
  unfold State.ptFlags
  lift_lets -useContext -merge -underBinder
  intro x0 x1
  try clear_value x1
  intro x2
  have hx2 : Keeps s x2 := (keeps_wrBit _ _ _ _ _ (keeps_put _ _ _ _ _ (keeps_put _ _ _ _ _ (Keeps.refl _))))
  clear_value x2
  exact (keeps_when _ _ hx2 (fun _ => (State.irq_keeps _ _ _ _ (Keeps.refl _))))

theorem State.ptOk_keeps {s00 : State} (s : State) (l : Lane) (p : Fin 6) (ok : Bool) (h0 : Keeps s00 s) :
    Keeps s00 (State.ptOk s l p ok) := by
  refine keeps_trans h0 ?_
  unfold State.ptOk
  exact (State.ptFlags_keeps _ _ _ _ _ (Keeps.refl _))

theorem State.ptError_keeps {s00 : State} (s : State) (l : Lane) (p : Fin 6) (h0 : Keeps s00 s) :
    Keeps s00 (State.ptError s l p) := by
  refine keeps_trans h0 ?_
  unfold State.ptError
  lift_lets -useContext -merge -underBinder
  intro x0 x1
  try clear_value x1
  intro x2
  have hx2 : Keeps s x2 := (keeps_wr _ _ _ _ _ (Keeps.refl _))
  clear_value x2
  refine keeps_ite (fun _ => ?_) (fun _ => ?_)
  · exact (State.ptFlags_keeps _ _ _ _ _ (keeps_wr _ _ _ _ _ (keeps_set _ _ _ _ hx2)))
  · exact hx2

theorem State.ptLegal_keeps {s00 : State} (s : State) (l : Lane) (p : Fin 6) (h0 : Keeps s00 s) :
    Keeps s00 (State.ptLegal s l p) := by
  refine keeps_trans h0 ?_
  unfold State.ptLegal
  lift_lets -useContext -merge -underBinder
  intro x0 x1
  try clear_value x1
  intro x2
  have hx2 : Keeps s x2 := (keeps_wr _ _ _ _ _ (Keeps.refl _))
  clear_value x2
  refine keeps_ite (fun _ => ?_) (fun _ => ?_)
  · exact (State.ptFlags_keeps _ _ _ _ _ (keeps_clr _ _ _ _ hx2))
  · exact hx2

theorem State.ptAngle_keeps {s00 : State} (s : State) (l : Lane) (p : Fin 6) (h0 : Keeps s00 s) :
    Keeps s00 (State.ptAngle s l p) := by
  refine keeps_trans h0 ?_
  unfold State.ptAngle
  lift_lets -useContext -merge -underBinder
  intro x0 x1
  have hx1 : Keeps1 s x1 := (State.roundQ_keeps _ _ _ (Keeps.refl _))
  clear_value x1
  intro x2
  try clear_value x2
  intro x3
  have hx3 : Keeps s x3 := hx1.h
  clear_value x3
  intro x4
  try clear_value x4
  exact (keeps_wr _ _ _ _ _ (State.modPt_keeps _ _ _ _ hx3))

theorem State.ptSpeed_keeps {s00 : State} (s : State) (l : Lane) (p : Fin 6) (n : Int) (period : Nat) (h0 : Keeps s00 s) :
    Keeps s00 (State.ptSpeed s l p n period) := by
  refine keeps_trans h0 ?_
  unfold State.ptSpeed
  lift_lets -useContext -merge -underBinder
  intro x0 x1
  have hx1 : Keeps1 s x1 := (State.quot_keeps _ _ _ (Keeps.refl _))
  clear_value x1
  intro x2
  try clear_value x2
  intro x3
  have hx3 : Keeps s x3 := hx1.h
  clear_value x3
  exact (keeps_wrS _ _ _ _ _ hx3)

theorem State.twLost_keeps {s00 : State} (s : State) (l : Lane) (p : Fin 6) (sync : Nat) (h0 : Keeps s00 s) :
    Keeps s00 (State.twLost s l p sync) := by
  refine keeps_trans h0 ?_
  unfold State.twLost
  lift_lets -useContext -merge -underBinder
  intro x0
  exact (State.ptError_keeps _ _ _ (State.ptOk_keeps _ _ _ _ (keeps_inc _ _ _ _ _ (keeps_set _ _ _ _ (keeps_wr _ _ _ _ _ (Keeps.refl _))))))

theorem State.twEdge_keeps {s00 : State} (s : State) (l : Lane) (p : Fin 6) (found : Bool) (h0 : Keeps s00 s) :
    Keeps1 s00 (State.twEdge s l p found) := by
  refine keeps1_trans h0 ?_
  unfold State.twEdge
  lift_lets -useContext -merge -underBinder
  intro x0 x1
  try clear_value x1
  intro x2
  try clear_value x2
  intro x3
  try clear_value x3
  intro x4
  try clear_value x4
  intro x5
  try clear_value x5
  intro x6
  have hx6 : Keeps s x6 := (State.modPt_keeps _ _ _ _ (Keeps.refl _))
  clear_value x6
  refine keeps1_ite (fun _ => ?_) (fun _ => ?_)
  · refine keeps1_ite (fun _ => ?_) (fun _ => ?_)
    · exact ⟨Keeps.snd (keeps_wr _ _ _ _ _ hx6)⟩
    · refine keeps1_ite (fun _ => ?_) (fun _ => ?_)
      · exact ⟨Keeps.snd (keeps_when _ _ (keeps_wr _ _ _ _ _ hx6) (fun _ => (State.ptOk_keeps _ _ _ _ (Keeps.refl _))))⟩
      · refine keeps1_ite (fun _ => ?_) (fun _ => ?_)
        · exact ⟨Keeps.snd (State.twLost_keeps _ _ _ _ hx6)⟩
        · exact ⟨Keeps.snd hx6⟩
  · refine keeps1_ite (fun _ => ?_) (fun _ => ?_)
    · refine keeps1_ite (fun _ => ?_) (fun _ => ?_)
      · exact ⟨Keeps.snd (State.twLost_keeps _ _ _ _ (Keeps.refl _))⟩
      · exact ⟨Keeps.snd (keeps_wr _ _ _ _ _ (Keeps.refl _))⟩
    · exact ⟨Keeps.snd (Keeps.refl _)⟩

theorem State.ptPublish_keeps {s00 : State} (s : State) (l : Lane) (p : Fin 6) (h0 : Keeps s00 s) :
    Keeps s00 (State.ptPublish s l p) := by
  refine keeps_trans h0 ?_
  unfold State.ptPublish
  lift_lets -useContext -merge -underBinder
  intro x0 x1
  try clear_value x1
  exact (State.ceSource_keeps _ _ _ _ _ (State.ceSource_keeps _ _ _ _ _ (Keeps.refl _)))

theorem State.ptCount_keeps {s00 : State} (s : State) (l : Lane) (p : Fin 6) (mode dt stable : Nat) (up : Bool) (h0 : Keeps s00 s) :
    Keeps1 s00 (State.ptCount s l p mode dt stable up) := by
  refine keeps1_trans h0 ?_
  unfold State.ptCount
  lift_lets -useContext -merge -underBinder
  intro x0 x1
  try clear_value x1
  intro x2
  try clear_value x2
  intro x3
  try clear_value x3
  intro x4
  try clear_value x4
  intro x5
  try clear_value x5
  intro x6
  try clear_value x6
  intro x7
  try clear_value x7
  intro x8
  have hx8 : Keeps s x8 := (State.modPt_keeps _ _ _ _ (Keeps.refl _))
  clear_value x8
  intro x9
  have hx9 : Keeps s x9 := (keeps_wr _ _ _ _ _ (keeps_clr _ _ _ _ (keeps_put _ _ _ _ _ hx8)))
  clear_value x9
  intro x10
  have hx10 : Keeps1 s x10 := (keeps1_ite (fun _ => (State.twEdge_keeps _ _ _ _ hx9)) (fun _ => ⟨Keeps.snd hx9⟩))
  clear_value x10
  intro x11
  have hx11 : Keeps s x11 := hx10.h
  clear_value x11
  intro x12
  have hx12 : Keeps s x12 := (keeps_wr _ _ _ _ _ hx11)
  clear_value x12
  intro x13
  have hx13 : Keeps s x13 := (keeps_ite (fun _ => (keeps_wr _ _ _ _ _ hx12)) (fun _ => hx12))
  clear_value x13
  intro x14
  have hx14 : Keeps s x14 := by
    unfold x14
    split
    · exact (keeps_wrSat _ _ _ _ _ (State.ptSpeed_keeps _ _ _ _ _ hx13))
    · refine keeps_ite (fun _ => ?_) (fun _ => ?_)
      · exact (keeps_wr _ _ _ _ _ hx13)
      · exact hx13
  clear_value x14
  exact ⟨Keeps.snd (State.ptAngle_keeps _ _ _ hx14)⟩

theorem State.ptIllegal_keeps {s00 : State} (s : State) (l : Lane) (p : Fin 6) (h0 : Keeps s00 s) :
    Keeps s00 (State.ptIllegal s l p) := by
  refine keeps_trans h0 ?_
  unfold State.ptIllegal
  exact (State.ptError_keeps _ _ _ (keeps_inc _ _ _ _ _ (keeps_set _ _ _ _ (Keeps.refl _))))

theorem execPtCountingEdge_keeps (l : Lane) (p : Fin 6) (dt stable : Nat) (levels : BitVec 2) (s : State) : KeepsOut s (execPtCountingEdge l p dt stable levels s) := by
  unfold execPtCountingEdge
  lift_lets -useContext -merge -underBinder
  intro x0
  exact keepsOut_next (keeps_ite (fun _ => (by
    split
    · exact (Keeps.refl _)
    · lift_lets -useContext -merge -underBinder
      intro x1
      try clear_value x1
      intro x2
      try clear_value x2
      intro x3
      try clear_value x3
      intro x4
      try clear_value x4
      intro x5
      try clear_value x5
      intro x6
      try clear_value x6
      intro x7
      have hx7 : Keeps s x7 := (keeps_put _ _ _ _ _ (keeps_put _ _ _ _ _ (State.modPt_keeps _ _ _ _ (Keeps.refl _))))
      clear_value x7
      split
      · exact hx7
      · exact (State.ptIllegal_keeps _ _ _ hx7)
      · lift_lets -useContext -merge -underBinder
        intro x8
        have hx8 : Keeps1 s x8 := (State.ptCount_keeps _ _ _ _ _ _ _ hx7)
        clear_value x8
        refine keeps_ite (fun _ => ?_) (fun _ => ?_)
        · exact (State.ptIllegal_keeps _ _ _ hx8.h)
        · refine keeps_ite (fun _ => ?_) (fun _ => ?_)
          · exact hx8.h
          · exact (State.ptLegal_keeps _ _ _ hx8.h)
)) (fun _ => (Keeps.refl _)))

theorem execPtGlitch_keeps (l : Lane) (p : Fin 6) (line : Fin 3) (gap : Nat) (s : State) : KeepsOut s (execPtGlitch l p line gap s) := by
  unfold execPtGlitch
  lift_lets -useContext -merge -underBinder
  intro x0 x1
  try clear_value x1
  intro x2
  have hx2 : Keeps s x2 := (keeps_set _ _ _ _ (keeps_inc _ _ _ _ _ (Keeps.refl _)))
  clear_value x2
  exact keepsOut_next (keeps_ite (fun _ => (keeps_ite (fun _ => (State.ptError_keeps _ _ _ hx2)) (fun _ => hx2))) (fun _ => (Keeps.refl _)))

theorem State.ptReference_keeps {s00 : State} (s : State) (l : Lane) (p : Fin 6) (h0 : Keeps s00 s) :
    Keeps s00 (State.ptReference s l p) := by
  refine keeps_trans h0 ?_
  unfold State.ptReference
  lift_lets -useContext -merge -underBinder
  intro x0 x1
  try clear_value x1
  intro x2
  try clear_value x2
  intro x3
  try clear_value x3
  intro x4
  try clear_value x4
  intro x5
  have hx5 : Keeps s x5 := (keeps_wr _ _ _ _ _ (Keeps.refl _))
  clear_value x5
  intro x6
  try clear_value x6
  intro x7
  have hx7 : Keeps s x7 := (keeps_wr _ _ _ _ _ (State.modPt_keeps _ _ _ _ hx5))
  clear_value x7
  intro x8
  have hx8 : Keeps s x8 := (keeps_ite (fun _ => (State.ptError_keeps _ _ _ (keeps_inc _ _ _ _ _ (keeps_set _ _ _ _ hx7)))) (fun _ => hx7))
  clear_value x8
  exact (State.ptAngle_keeps _ _ _ (keeps_when _ _ hx8 (fun _ => (State.ptOk_keeps _ _ _ _ (Keeps.refl _)))))

theorem execPtReferenceEdge_keeps (l : Lane) (p : Fin 6) (stable : Nat) (level : Bool) (s : State) : KeepsOut s (execPtReferenceEdge l p stable level s) := by
  unfold execPtReferenceEdge
  lift_lets -useContext -merge -underBinder
  intro x0 x1
  try clear_value x1
  intro x2
  try clear_value x2
  intro x3
  have hx3 : Keeps s x3 := (keeps_put _ _ _ _ _ (State.modPt_keeps _ _ _ _ (Keeps.refl _)))
  clear_value x3
  exact keepsOut_next (keeps_ite (fun _ => (keeps_ite (fun _ => (State.ptReference_keeps _ _ _ hx3)) (fun _ => hx3))) (fun _ => (Keeps.refl _)))

theorem execPtExtrapolate_keeps (l : Lane) (p : Fin 6) (dt : Nat) (s : State) : KeepsOut s (execPtExtrapolate l p dt s) := by
  unfold execPtExtrapolate
  lift_lets -useContext -merge -underBinder
  intro x0 x1
  try clear_value x1
  intro x2
  try clear_value x2
  intro x3
  try clear_value x3
  intro x4
  try clear_value x4
  intro x5
  try clear_value x5
  intro x6
  try clear_value x6
  intro x7
  have hx7 : Keeps s x7 := (keeps_ite (fun _ => (State.ptSpeed_keeps _ _ _ _ _ (Keeps.refl _))) (fun _ => (Keeps.refl _)))
  clear_value x7
  intro x8
  try clear_value x8
  intro x9
  have hx9 : Keeps1 s x9 := (State.quot_keeps _ _ _ hx7)
  clear_value x9
  intro x10
  try clear_value x10
  intro x11
  have hx11 : Keeps s x11 := hx9.h
  clear_value x11
  intro x12
  try clear_value x12
  exact keepsOut_next (keeps_ite (fun _ => (State.ptPublish_keeps _ _ _ (keeps_wr _ _ _ _ _ hx11))) (fun _ => (keeps_ite (fun _ => (State.ptPublish_keeps _ _ _ (Keeps.refl _))) (fun _ => (Keeps.refl _)))))

theorem execPtZeroSpeed_keeps (l : Lane) (p : Fin 6) (s : State) : KeepsOut s (execPtZeroSpeed l p s) := by
  unfold execPtZeroSpeed
  lift_lets -useContext -merge -underBinder
  intro x0
  exact keepsOut_next (keeps_ite (fun _ => (by
    split
    · exact (Keeps.refl _)
    · lift_lets -useContext -merge -underBinder
      intro x1
      have hx1 : Keeps s x1 := (keeps_advTo _ (Keeps.refl _))
      clear_value x1
      intro x2
      have hx2 : Keeps s x2 := (State.modPt_keeps _ _ _ _ (keeps_set _ _ _ _ (keeps_wr _ _ _ _ _ hx1)))
      clear_value x2
      refine keeps_ite (fun _ => ?_) (fun _ => ?_)
      · exact (State.ptOk_keeps _ _ _ _ (keeps_wr _ _ _ _ _ hx2))
      · exact hx2
)) (fun _ => (Keeps.refl _)))

theorem State.ptReconfigured_keeps {s00 : State} (s : State) (l : Lane) (p : Fin 6) (h0 : Keeps s00 s) :
    Keeps s00 (State.ptReconfigured s l p) := by
  refine keeps_trans h0 ?_
  unfold State.ptReconfigured
  exact (State.ptOk_keeps _ _ _ _ (keeps_wr _ _ _ _ _ (Keeps.refl _)))

theorem State.ptEnable_keeps {s00 : State} (s : State) (l : Lane) (p : Fin 6) (h0 : Keeps s00 s) :
    Keeps s00 (State.ptEnable s l p) := by
  refine keeps_trans h0 ?_
  unfold State.ptEnable
  lift_lets -useContext -merge -underBinder
  intro x0 x1
  have hx1 : Keeps s x1 := (State.modPt_keeps _ _ _ _ (Keeps.refl _))
  clear_value x1
  intro x2
  have hx2 : Keeps s x2 := (keeps_wr _ _ _ _ _ (keeps_wr _ _ _ _ _ (keeps_wr _ _ _ _ _ hx1)))
  clear_value x2
  exact (State.ptAngle_keeps _ _ _ (State.ptFlags_keeps _ _ _ _ _ hx2))

theorem State.ptSwitch_keeps {s00 : State} (s : State) (l : Lane) (p : Fin 6) (h0 : Keeps s00 s) :
    Keeps s00 (State.ptSwitch s l p) := by
  refine keeps_trans h0 ?_
  unfold State.ptSwitch
  refine keeps_ite (fun _ => ?_) (fun _ => ?_)
  · exact (State.ptEnable_keeps _ _ _ (Keeps.refl _))
  · exact (State.ptFlags_keeps _ _ _ _ _ (Keeps.refl _))

theorem State.posStart_keeps {s00 : State} (s : State) (l : Lane) (h0 : Keeps s00 s) :
    Keeps s00 (State.posStart s l) := by
  refine keeps_trans h0 ?_
  unfold State.posStart
  lift_lets -useContext -merge -underBinder
  intro x0 x1
  have hx1 : Keeps s x1 := (keeps_each _ _ (Keeps.refl _) (fun _ _ => (State.modRes_keeps _ _ _ _ (keeps_wr _ _ _ _ _ (Keeps.refl _)))))
  clear_value x1
  exact (keeps_each _ _ hx1 (fun _ _ => (keeps_when _ _ (Keeps.refl _) (fun _ => (State.ptEnable_keeps _ _ _ (Keeps.refl _))))))

theorem State.sentSlow_keeps {s00 : State} (s : State) (l : Lane) (n : Fin 4) (status : Nat) (h0 : Keeps s00 s) :
    Keeps s00 (State.sentSlow s l n status) := by
  refine keeps_trans h0 ?_
  unfold State.sentSlow
  lift_lets -useContext -merge -underBinder
  intro x0 x1
  try clear_value x1
  intro x2 x3
  try clear_value x3
  intro x4
  try clear_value x4
  intro x5
  try clear_value x5
  intro x6
  try clear_value x6
  intro x7
  try clear_value x7
  intro x8
  try clear_value x8
  intro x9
  try clear_value x9
  intro x10
  try clear_value x10
  refine keeps_ite (fun _ => ?_) (fun _ => ?_)
  · refine keeps_ite (fun _ => ?_) (fun _ => ?_)
    · exact (keeps_set _ _ _ _ (keeps_wr _ _ _ _ _ (keeps_wr _ _ _ _ _ (keeps_wr _ _ _ _ _ (State.modPos_keeps _ _ _ (Keeps.refl _))))))
    · exact (keeps_inc _ _ _ _ _ (State.modPos_keeps _ _ _ (Keeps.refl _)))
  · exact (State.modPos_keeps _ _ _ (Keeps.refl _))

theorem State.sentDrop_keeps {s00 : State} (s : State) (l : Lane) (n : Fin 4) (h0 : Keeps s00 s) :
    Keeps s00 (State.sentDrop s l n) := by
  refine keeps_trans h0 ?_
  unfold State.sentDrop
  exact (State.modPos_keeps _ _ _ (Keeps.refl _))

theorem State.sentReject_keeps {s00 : State} (s : State) (l : Lane) (n : Fin 4) (f : Fld) (h0 : Keeps s00 s) :
    Keeps s00 (State.sentReject s l n f) := by
  refine keeps_trans h0 ?_
  unfold State.sentReject
  exact (keeps_inc _ _ _ _ _ (State.sentDrop_keeps _ _ _ (Keeps.refl _)))

theorem State.ticks_keeps {s00 : State} (s : State) (sync v : Nat) (h0 : Keeps s00 s) :
    Keeps1 s00 (State.ticks s sync v) := by
  refine keeps1_trans h0 ?_
  unfold State.ticks
  lift_lets -useContext -merge -underBinder
  intro x0
  have hx0 : Keeps1 s x0 := (State.roundQ_keeps _ _ _ (Keeps.refl _))
  clear_value x0
  intro x1
  try clear_value x1
  intro x2
  have hx2 : Keeps s x2 := hx0.h
  clear_value x2
  exact ⟨Keeps.snd hx2⟩

theorem State.tickList_keeps {s00 : State} (sync : Nat) : ∀ (vs : List Nat) (s : State) (_ : Keeps s00 s),
    Keeps1 s00 (s.tickList sync vs)
  | [], _, h => ⟨h⟩
  | v :: r, s, h => ⟨(State.tickList_keeps sync r _ (State.ticks_keeps s sync v h).h).h⟩

theorem State.sentFrame_keeps {s00 : State} (s : State) (l : Lane) (n : Fin 4) (levels : List Nat) (h0 : Keeps s00 s) :
    Keeps s00 (State.sentFrame s l n levels) := by
  refine keeps_trans h0 ?_
  unfold State.sentFrame
  lift_lets -useContext -merge -underBinder
  intro x0 x1
  try clear_value x1
  intro x2
  try clear_value x2
  intro x3
  try clear_value x3
  intro x4
  try clear_value x4
  intro x5
  try clear_value x5
  intro x6
  try clear_value x6
  intro x7
  try clear_value x7
  intro x8
  try clear_value x8
  intro x9
  try clear_value x9
  intro x10
  try clear_value x10
  intro x11
  have hx11 : Keeps s x11 := (State.modPos_keeps _ _ _ (Keeps.refl _))
  clear_value x11
  split
  · refine keeps_ite (fun _ => ?_) (fun _ => ?_)
    · exact (State.sentDrop_keeps _ _ _ hx11)
    · exact (State.sentReject_keeps _ _ _ _ hx11)
  · lift_lets -useContext -merge -underBinder
    intro x12
    try clear_value x12
    intro x13
    have hx13 : Keeps1 s x13 := (State.tickList_keeps _ _ _ hx11)
    clear_value x13
    intro x14
    try clear_value x14
    intro x15
    have hx15 : Keeps s x15 := hx13.h
    clear_value x15
    intro x16
    try clear_value x16
    intro x17
    try clear_value x17
    intro x18
    try clear_value x18
    intro x19
    have hx19 : Keeps1 s x19 := (State.quot_keeps _ _ _ hx15)
    clear_value x19
    intro x20
    try clear_value x20
    intro x21
    have hx21 : Keeps s x21 := hx19.h
    clear_value x21
    intro x22
    have hx22 : Keeps s x22 := (keeps_wr _ _ _ _ _ (keeps_wr _ _ _ _ _ (keeps_wr _ _ _ _ _ (keeps_wr _ _ _ _ _ hx21))))
    clear_value x22
    intro x23
    have hx23 : Keeps s x23 := (keeps_wrBit _ _ _ _ _ (keeps_set _ _ _ _ (keeps_set _ _ _ _ (keeps_wr _ _ _ _ _ hx22))))
    clear_value x23
    intro x24
    have hx24 : Keeps s x24 := (State.modPos_keeps _ _ _ hx23)
    clear_value x24
    intro x25
    have hx25 : Keeps s x25 := (State.irq_keeps _ _ _ _ hx24)
    clear_value x25
    refine keeps_ite (fun _ => ?_) (fun _ => ?_)
    · exact (State.sentReject_keeps _ _ _ _ hx11)
    · refine keeps_ite (fun _ => ?_) (fun _ => ?_)
      · exact (State.sentReject_keeps _ _ _ _ hx15)
      · refine keeps_ite (fun _ => ?_) (fun _ => ?_)
        · exact (State.sentReject_keeps _ _ _ _ hx15)
        · refine keeps_ite (fun _ => ?_) (fun _ => ?_)
          · exact (State.sentSlow_keeps _ _ _ _ hx25)
          · exact hx25

theorem execSentFrame_keeps (l : Lane) (n : Fin 4) (levels : List Nat) (s : State) : KeepsOut s (execSentFrame l n levels s) := by
  unfold execSentFrame
  exact keepsOut_next (keeps_ite (fun _ => (State.sentFrame_keeps _ _ _ _ (Keeps.refl _))) (fun _ => (Keeps.refl _)))

theorem execSentStale_keeps (l : Lane) (n : Fin 4) (s : State) : KeepsOut s (execSentStale l n s) := by
  unfold execSentStale
  lift_lets -useContext -merge -underBinder
  intro x0
  exact keepsOut_next (keeps_ite (fun _ => (keeps_wrBit _ _ _ _ _ (keeps_clr _ _ _ _ (keeps_advTo _ (Keeps.refl _))))) (fun _ => (Keeps.refl _)))

theorem State.sentRestart_keeps {s00 : State} (s : State) (l : Lane) (n : Fin 4) (h0 : Keeps s00 s) :
    Keeps s00 (State.sentRestart s l n) := by
  refine keeps_trans h0 ?_
  unfold State.sentRestart
  exact (State.modPos_keeps _ _ _ (Keeps.refl _))


end Sys2Proof.Machine
end

