-- ==== Sys2Proof/Laws/KeepsMotOps.lean ====
section
/-!
SUPPORT. The operations of Machine/MotOps.lean keep what `Keeps` says (Laws/Keeps.lean).
-/
namespace Sys2Proof.Machine

theorem State.modMach_keeps {s00 : State} (s : State) (l : Lane) (m : Fin 2) (f : MotMach → MotMach) (h0 : Keeps s00 s) :
    Keeps s00 (State.modMach s l m f) := by
  refine keeps_trans h0 ?_
  unfold State.modMach
  exact (keeps_modRun _ _ (Keeps.refl _) fun _ hr => hr)

theorem State.motLog_keeps {s00 : State} (s : State) (l : Lane) (rule : Nat) (m : Fin 2) (h0 : Keeps s00 s) :
    Keeps s00 (State.motLog s l rule m) := by
  refine keeps_trans h0 ?_
  unfold State.motLog
  lift_lets -useContext -merge -underBinder
  intro x0
  have hx0 : Keeps1 s x0 := (State.submit_keeps _ _ _ _ _ _ _ _ (Keeps.refl _))
  clear_value x0
  split
  · exact (keeps_inc _ _ _ _ _ hx0.h)
  · exact (keeps_inc _ _ _ _ _ hx0.h)

theorem State.motOverride_keeps {s00 : State} (s : State) (l : Lane) (m : Fin 2) (o : Option Bool) (h0 : Keeps s00 s) :
    Keeps s00 (State.motOverride s l m o) := by
  refine keeps_trans h0 ?_
  unfold State.motOverride
  exact (keeps_each _ _ (Keeps.refl _) (fun y0 y1 => (by
    lift_lets -useContext -merge -underBinder
    intro x2
    have hx2 : Keeps y0 x2 := (State.modBand_keeps _ _ _ _ (Keeps.refl _))
    clear_value x2
    refine keeps_ite (fun _ => ?_) (fun _ => ?_)
    · exact hx2
    · exact (State.toSettle_keeps _ _ _ hx2)
)))

theorem State.motSetH_keeps {s00 : State} (s : State) (l : Lane) (m : Fin 2) (hs : List Nat) (h0 : Keeps s00 s) :
    Keeps s00 (State.motSetH s l m hs) := by
  refine keeps_trans h0 ?_
  unfold State.motSetH
  exact (keeps_each _ _ (Keeps.refl _) (fun _ _ => (keeps_wr _ _ _ _ _ (Keeps.refl _))))

theorem State.motHold_keeps {s00 : State} (s : State) (l : Lane) (m : Fin 2) (r : Nat) (h0 : Keeps s00 s) :
    Keeps s00 (State.motHold s l m r) := by
  refine keeps_trans h0 ?_
  unfold State.motHold
  lift_lets -useContext -merge -underBinder
  intro x0
  have hx0 : Keeps s x0 := by
    unfold x0
    split
    · refine keeps_ite (fun _ => ?_) (fun _ => ?_)
      · exact (Keeps.refl _)
      · exact (State.modMach_keeps _ _ _ _ (Keeps.refl _))
    · exact (Keeps.refl _)
  clear_value x0
  intro x1
  have hx1 : Keeps s x1 := by
    unfold x1
    split
    · exact (State.modMach_keeps _ _ _ _ (State.motSetH_keeps _ _ _ _ hx0))
    · exact hx0
  clear_value x1
  intro x2
  try clear_value x2
  refine keeps_ite (fun _ => ?_) (fun _ => ?_)
  · exact (keeps_each _ _ (State.motOverride_keeps _ _ _ _ hx1) (fun _ _ => (State.modBand_keeps _ _ _ _ (Keeps.refl _))))
  · refine keeps_ite (fun _ => ?_) (fun _ => ?_)
    · exact (State.motSetH_keeps _ _ _ _ (State.motOverride_keeps _ _ _ _ hx0))
    · exact (State.motSetH_keeps _ _ _ _ (State.motOverride_keeps _ _ _ _ hx0))

theorem State.motSync_keeps {s00 : State} (s : State) (l : Lane) (m : Fin 2) (h0 : Keeps s00 s) :
    Keeps s00 (State.motSync s l m) := by
  refine keeps_trans h0 ?_
  unfold State.motSync
  lift_lets -useContext -merge -underBinder
  intro x0 x1
  try clear_value x1
  exact (keeps_wrBit _ _ _ _ _ (keeps_wrBit _ _ _ _ _ (keeps_put _ _ _ _ _ (Keeps.refl _))))

theorem State.motRegion_keeps {s00 : State} (s : State) (l : Lane) (m : Fin 2) (r : Nat) (h0 : Keeps s00 s) :
    Keeps s00 (State.motRegion s l m r) := by
  refine keeps_trans h0 ?_
  unfold State.motRegion
  lift_lets -useContext -merge -underBinder
  intro x0 x1
  have hx1 : Keeps s x1 := (State.irq_keeps _ _ _ _ (keeps_inc _ _ _ _ _ (keeps_wr _ _ _ _ _ (Keeps.refl _))))
  clear_value x1
  refine keeps_ite (fun _ => ?_) (fun _ => ?_)
  · exact (Keeps.refl _)
  · exact (State.motSync_keeps _ _ _ (State.motHold_keeps _ _ _ _ (keeps_when _ _ hx1 (fun _ => (State.motLog_keeps _ _ _ _ (Keeps.refl _))))))

theorem State.motForce_keeps {s00 : State} (s : State) (l : Lane) (m : Fin 2) (h0 : Keeps s00 s) :
    Keeps s00 (State.motForce s l m) := by
  refine keeps_trans h0 ?_
  unfold State.motForce
  lift_lets -useContext -merge -underBinder
  intro x0
  try clear_value x0
  exact (State.raiseTg_keeps _ _ _ _ _ (State.modMach_keeps _ _ _ _ (Keeps.refl _)))

theorem State.motWithdraw_keeps {s00 : State} (s : State) (l : Lane) (m : Fin 2) (h0 : Keeps s00 s) :
    Keeps s00 (State.motWithdraw s l m) := by
  refine keeps_trans h0 ?_
  unfold State.motWithdraw
  split
  · exact (Keeps.refl _)
  · lift_lets -useContext -merge -underBinder
    intro x0
    have hx0 : Keeps s x0 := (State.modMach_keeps _ _ _ _ (Keeps.refl _))
    clear_value x0
    refine keeps_ite (fun _ => ?_) (fun _ => ?_)
    · exact hx0
    · exact (State.clearTg_keeps _ _ _ hx0)

theorem State.motLevel_keeps {s00 : State} (s : State) (l : Lane) (n : Fin 32) (level : Bool) (h0 : Keeps s00 s) :
    Keeps s00 (State.motLevel s l n level) := by
  refine keeps_trans h0 ?_
  unfold State.motLevel
  lift_lets -useContext -merge -underBinder
  intro x0
  try clear_value x0
  intro x1 x2
  have hx2 : Keeps s x2 := (keeps_put _ _ _ _ _ (State.modBand_keeps _ _ _ _ (Keeps.refl _)))
  clear_value x2
  intro x3
  have hx3 : Keeps s x3 := (State.setLevel_keeps _ _ _ _ _ (State.dropEng_keeps _ _ _ hx2))
  clear_value x3
  refine keeps_ite (fun _ => ?_) (fun _ => ?_)
  · exact hx3
  · exact (State.follow_keeps _ _ _ _ hx3)

theorem State.motApply_keeps {s00 : State} (s : State) (l : Lane) (m : Fin 2) (levels : List Bool) (h0 : Keeps s00 s) :
    Keeps s00 (State.motApply s l m levels) := by
  refine keeps_trans h0 ?_
  unfold State.motApply
  exact (State.motWithdraw_keeps _ _ _ (keeps_each _ _ (Keeps.refl _) (fun _ _ => (State.motLevel_keeps _ _ _ _ (Keeps.refl _)))))

theorem State.motUnforce_keeps {s00 : State} (s : State) (l : Lane) (m : Fin 2) (h0 : Keeps s00 s) :
    Keeps s00 (State.motUnforce s l m) := by
  refine keeps_trans h0 ?_
  unfold State.motUnforce
  exact (keeps_each _ _ (Keeps.refl _) (fun _ _ => (State.modBand_keeps _ _ _ _ (Keeps.refl _))))

theorem State.motSignals_keeps {s00 : State} (s : State) (l : Lane) (m : Fin 2) (v : List Int) (h0 : Keeps s00 s) :
    Keeps s00 (State.motSignals s l m v) := by
  refine keeps_trans h0 ?_
  unfold State.motSignals
  exact (keeps_each _ _ (Keeps.refl _) (fun _ _ => (State.ceSource_keeps _ _ _ _ _ (Keeps.refl _))))


end Sys2Proof.Machine
end

