-- ==== Sys2Proof/Laws/KeepsMot.lean ====
section
/-!
SUPPORT. The operations of Machine/Mot.lean keep what `Keeps` says (Laws/Keeps.lean).
-/
namespace Sys2Proof.Machine

theorem State.motGo_keeps {s00 : State} (s : State) (l : Lane) (m : Fin 2) (a : Nat) (h0 : Keeps s00 s) :
    Keeps s00 (State.motGo s l m a) := by
  refine keeps_trans h0 ?_
  unfold State.motGo
  lift_lets -useContext -merge -underBinder
  intro x0 x1
  try clear_value x1
  intro x2
  try clear_value x2
  intro x3
  have hx3 : Keeps s x3 := (State.modMach_keeps _ _ _ _ (keeps_wr _ _ _ _ _ (Keeps.refl _)))
  clear_value x3
  intro x4
  have hx4 : Keeps s x4 := (keeps_ite (fun _ => (keeps_inc _ _ _ _ _ (keeps_set _ _ _ _ hx3))) (fun _ => hx3))
  clear_value x4
  intro x5
  have hx5 : Keeps s x5 := (keeps_ite (fun _ => (State.irq_keeps _ _ _ _ hx4)) (fun _ => hx4))
  clear_value x5
  intro x6
  have hx6 : Keeps s x6 := (keeps_ite (fun _ => (State.motUnforce_keeps _ _ _ hx5)) (fun _ => hx5))
  clear_value x6
  intro x7
  try clear_value x7
  intro x8
  have hx8 : Keeps s x8 := (State.modMach_keeps _ _ _ _ hx6)
  clear_value x8
  intro x9
  try clear_value x9
  intro x10
  try clear_value x10
  intro x11
  have hx11 : Keeps s x11 := (keeps_ite (fun _ => (State.motHold_keeps _ _ _ _ hx8)) (fun _ => (State.motRegion_keeps _ _ _ _ hx8)))
  clear_value x11
  intro x12
  have hx12 : Keeps s x12 := (keeps_ite (fun _ => (State.motWithdraw_keeps _ _ _ (keeps_wr _ _ _ _ _ (State.motHold_keeps _ _ _ _ hx6)))) (fun _ => (keeps_ite (fun _ => (State.motWithdraw_keeps _ _ _ (State.motSignals_keeps _ _ _ _ (State.motOverride_keeps _ _ _ _ hx6)))) (fun _ => (keeps_ite (fun _ => (State.motWithdraw_keeps _ _ _ hx11)) (fun _ => (keeps_ite (fun _ => (keeps_ite (fun _ => hx6) (fun _ => (State.motForce_keeps _ _ _ hx6)))) (fun _ => hx6))))))))
  clear_value x12
  refine keeps_ite (fun _ => ?_) (fun _ => ?_)
  · exact (Keeps.refl _)
  · exact (State.motSync_keeps _ _ _ hx12)

theorem State.motLose_keeps {s00 : State} (s : State) (l : Lane) (m : Fin 2) (h0 : Keeps s00 s) :
    Keeps s00 (State.motLose s l m) := by
  refine keeps_trans h0 ?_
  unfold State.motLose
  exact (State.motGo_keeps _ _ _ _ (Keeps.refl _))

theorem State.motPreset_keeps {s00 : State} (s : State) (l : Lane) (m : Fin 2) (theta : Nat) (omega : Int) (h0 : Keeps s00 s) :
    Keeps s00 (State.motPreset s l m theta omega) := by
  refine keeps_trans h0 ?_
  unfold State.motPreset
  lift_lets -useContext -merge -underBinder
  intro x0
  have hx0 : Keeps s x0 := (State.modMach_keeps _ _ _ _ (Keeps.refl _))
  clear_value x0
  exact (keeps_wrS _ _ _ _ _ (keeps_wr _ _ _ _ _ hx0))

theorem State.angleStep_keeps {s00 : State} (s : State) (l : Lane) (m : Fin 2) (h0 : Keeps s00 s) :
    Keeps s00 (State.angleStep s l m) := by
  refine keeps_trans h0 ?_
  unfold State.angleStep
  lift_lets -useContext -merge -underBinder
  intro x0 x1
  try clear_value x1
  intro x2
  try clear_value x2
  intro x3
  have hx3 : Keeps s x3 := (keeps_put _ _ _ _ _ (Keeps.refl _))
  clear_value x3
  refine keeps_ite (fun _ => ?_) (fun _ => ?_)
  · exact (State.motGo_keeps _ _ _ _ hx3)
  · refine keeps_ite (fun _ => ?_) (fun _ => ?_)
    · exact (State.motGo_keeps _ _ _ _ hx3)
    · refine keeps_ite (fun _ => ?_) (fun _ => ?_)
      · refine keeps_ite (fun _ => ?_) (fun _ => ?_)
        · exact (State.motGo_keeps _ _ _ _ hx3)
        · refine keeps_ite (fun _ => ?_) (fun _ => ?_)
          · exact (State.motGo_keeps _ _ _ _ hx3)
          · exact (State.modMach_keeps _ _ _ _ hx3)
      · refine keeps_ite (fun _ => ?_) (fun _ => ?_)
        · refine keeps_ite (fun _ => ?_) (fun _ => ?_)
          · exact (State.modMach_keeps _ _ _ _ hx3)
          · refine keeps_ite (fun _ => ?_) (fun _ => ?_)
            · exact (State.motGo_keeps _ _ _ _ hx3)
            · exact (State.motLose_keeps _ _ _ hx3)
        · refine keeps_ite (fun _ => ?_) (fun _ => ?_)
          · refine keeps_ite (fun _ => ?_) (fun _ => ?_)
            · exact (State.modMach_keeps _ _ _ _ hx3)
            · refine keeps_ite (fun _ => ?_) (fun _ => ?_)
              · exact (State.motGo_keeps _ _ _ _ hx3)
              · exact (State.motLose_keeps _ _ _ hx3)
          · refine keeps_ite (fun _ => ?_) (fun _ => ?_)
            · refine keeps_ite (fun _ => ?_) (fun _ => ?_)
              · exact (State.motGo_keeps _ _ _ _ hx3)
              · refine keeps_ite (fun _ => ?_) (fun _ => ?_)
                · exact (State.motGo_keeps _ _ _ _ hx3)
                · exact hx3
            · refine keeps_ite (fun _ => ?_) (fun _ => ?_)
              · refine keeps_ite (fun _ => ?_) (fun _ => ?_)
                · exact (State.motGo_keeps _ _ _ _ hx3)
                · exact hx3
              · exact hx3

theorem State.xchkStep_keeps {s00 : State} (s : State) (l : Lane) (m : Fin 2) (h0 : Keeps s00 s) :
    Keeps s00 (State.xchkStep s l m) := by
  refine keeps_trans h0 ?_
  unfold State.xchkStep
  lift_lets -useContext -merge -underBinder
  intro x0 x1
  try clear_value x1
  intro x2
  try clear_value x2
  intro x3
  try clear_value x3
  intro x4
  try clear_value x4
  intro x5
  try clear_value x5
  intro x6
  try clear_value x6
  intro x7
  try clear_value x7
  intro x8
  have hx8 : Keeps s x8 := (State.modMach_keeps _ _ _ _ (Keeps.refl _))
  clear_value x8
  refine keeps_ite (fun _ => ?_) (fun _ => ?_)
  · refine keeps_ite (fun _ => ?_) (fun _ => ?_)
    · exact (State.irq_keeps _ _ _ _ (keeps_inc _ _ _ _ _ (keeps_set _ _ _ _ (State.modMach_keeps _ _ _ _ hx8))))
    · refine keeps_ite (fun _ => ?_) (fun _ => ?_)
      · exact (keeps_clr _ _ _ _ hx8)
      · exact hx8
  · exact (State.modMach_keeps _ _ _ _ (Keeps.refl _))

theorem State.motOutputs_keeps {s00 : State} (s : State) (l : Lane) (m : Fin 2) (h0 : Keeps s00 s) :
    Keeps s00 (State.motOutputs s l m) := by
  refine keeps_trans h0 ?_
  unfold State.motOutputs
  lift_lets -useContext -merge -underBinder
  intro x0 x1
  try clear_value x1
  intro x2
  try clear_value x2
  intro x3
  try clear_value x3
  intro x4
  try clear_value x4
  intro x5
  try clear_value x5
  intro x6
  have hx6 : Keeps s x6 := (keeps_ite (fun _ => (Keeps.refl _)) (fun _ => (keeps_wrS _ _ _ _ _ (keeps_wr _ _ _ _ _ (Keeps.refl _)))))
  clear_value x6
  intro x7
  have hx7 : Keeps s x7 := (State.ceSource_keeps _ _ _ _ _ (State.ceSource_keeps _ _ _ _ _ (State.ceSource_keeps _ _ _ _ _ hx6)))
  clear_value x7
  intro x8
  try clear_value x8
  intro x9
  have hx9 : Keeps s x9 := (keeps_wrS _ _ _ _ _ (keeps_wrS _ _ _ _ _ (keeps_wrS _ _ _ _ _ hx7)))
  clear_value x9
  intro x10
  have hx10 : Keeps s x10 := (keeps_wrSat _ _ _ _ _ hx9)
  clear_value x10
  intro x11
  try clear_value x11
  refine keeps_ite (fun _ => ?_) (fun _ => ?_)
  · exact (State.motSignals_keeps _ _ _ _ hx10)
  · refine keeps_ite (fun _ => ?_) (fun _ => ?_)
    · exact (State.motSignals_keeps _ _ _ _ hx10)
    · refine keeps_ite (fun _ => ?_) (fun _ => ?_)
      · exact (State.motSignals_keeps _ _ _ _ hx10)
      · exact hx10

theorem State.motTake_keeps {s00 : State} (s : State) (l : Lane) (m : Fin 2) (h0 : Keeps s00 s) :
    Keeps s00 (State.motTake s l m) := by
  refine keeps_trans h0 ?_
  unfold State.motTake
  lift_lets -useContext -merge -underBinder
  intro x0
  split
  · lift_lets -useContext -merge -underBinder
    intro x1
    have hx1 : Keeps s x1 := (State.modMach_keeps _ _ _ _ (Keeps.refl _))
    clear_value x1
    intro x2
    have hx2 : Keeps s x2 := (keeps_wr _ _ _ _ _ (keeps_wrS _ _ _ _ _ (keeps_wrS _ _ _ _ _ hx1)))
    clear_value x2
    refine keeps_ite (fun _ => ?_) (fun _ => ?_)
    · exact (Keeps.refl _)
    · split
      · exact (State.motRegion_keeps _ _ _ _ hx2)
      · exact hx2
  · exact (Keeps.refl _)

theorem State.motTsat_keeps {s00 : State} (s : State) (l : Lane) (m : Fin 2) (h0 : Keeps s00 s) :
    Keeps s00 (State.motTsat s l m) := by
  refine keeps_trans h0 ?_
  unfold State.motTsat
  lift_lets -useContext -merge -underBinder
  intro x0
  try clear_value x0
  intro x1
  have hx1 : Keeps s x1 := (State.modMach_keeps _ _ _ _ (Keeps.refl _))
  clear_value x1
  refine keeps_ite (fun _ => ?_) (fun _ => ?_)
  · refine keeps_ite (fun _ => ?_) (fun _ => ?_)
    · exact (State.motRegion_keeps _ _ _ _ (State.modMach_keeps _ _ _ _ (keeps_set _ _ _ _ hx1)))
    · exact hx1
  · exact (Keeps.refl _)

theorem State.motAscHold_keeps {s00 : State} (s : State) (l : Lane) (m : Fin 2) (h0 : Keeps s00 s) :
    Keeps s00 (State.motAscHold s l m) := by
  refine keeps_trans h0 ?_
  unfold State.motAscHold
  lift_lets -useContext -merge -underBinder
  intro x0
  try clear_value x0
  intro x1
  have hx1 : Keeps s x1 := (State.modMach_keeps _ _ _ _ (Keeps.refl _))
  clear_value x1
  refine keeps_ite (fun _ => ?_) (fun _ => ?_)
  · exact (Keeps.refl _)
  · refine keeps_ite (fun _ => ?_) (fun _ => ?_)
    · exact (State.motOverride_keeps _ _ _ _ (State.modMach_keeps _ _ _ _ (Keeps.refl _)))
    · refine keeps_ite (fun _ => ?_) (fun _ => ?_)
      · exact (State.motHold_keeps _ _ _ _ hx1)
      · exact hx1

theorem State.obcAngle_keeps {s00 : State} (s : State) (l : Lane) (h0 : Keeps s00 s) :
    Keeps1 s00 (State.obcAngle s l) := by
  refine keeps1_trans h0 ?_
  unfold State.obcAngle
  refine keeps1_ite (fun _ => ?_) (fun _ => ?_)
  · exact ⟨Keeps.snd (Keeps.refl _)⟩
  · exact (keeps1_free _ (Keeps.refl _))

theorem State.obcRefs_keeps {s00 : State} (s0 : State) (l : Lane) (h0 : Keeps s00 s0) :
    Keeps s00 (State.obcRefs s0 l) := by
  refine keeps_trans h0 ?_
  unfold State.obcRefs
  lift_lets -useContext -merge -underBinder
  intro x0 x1
  have hx1 : Keeps1 s0 x1 := (State.obcAngle_keeps _ _ (Keeps.refl _))
  clear_value x1
  intro x2
  have hx2 : Keeps s0 x2 := (State.modNrg_keeps _ _ _ hx1.h)
  clear_value x2
  intro x3
  try clear_value x3
  intro x4
  try clear_value x4
  refine keeps_ite (fun _ => ?_) (fun _ => ?_)
  · exact (keeps_each _ _ hx2 (fun y5 y6 => (by
      lift_lets -useContext -merge -underBinder
      intro x7
      try clear_value x7
      intro x8
      try clear_value x8
      exact (State.setK3_keeps _ _ _ _ (Keeps.refl _))
)))
  · exact (Keeps.refl _)

theorem execMotObserverUpdate_keeps (l : Lane) (m : Fin 2) (o : ObsOut) (s : State) : KeepsOut s (execMotObserverUpdate l m o s) := by
  unfold execMotObserverUpdate
  lift_lets -useContext -merge -underBinder
  intro x0
  try clear_value x0
  intro x1
  have hx1 : Keeps s x1 := (State.modMach_keeps _ _ _ _ (keeps_advTo _ (Keeps.refl _)))
  clear_value x1
  intro x2
  have hx2 : Keeps s x2 := (State.motAscHold_keeps _ _ _ (State.angleStep_keeps _ _ _ (State.motTsat_keeps _ _ _ (State.motTake_keeps _ _ _ hx1))))
  clear_value x2
  exact keepsOut_next (keeps_ite (fun _ => (keeps_when _ _ (State.plimStep_keeps _ _ (State.xchkStep_keeps _ _ _ (State.motOutputs_keeps _ _ _ hx2))) (fun _ => (State.obcRefs_keeps _ _ (Keeps.refl _))))) (fun _ => (Keeps.refl _)))

theorem execMotTsatExpiry_keeps (l : Lane) (m : Fin 2) (s : State) : KeepsOut s (execMotTsatExpiry l m s) := by
  unfold execMotTsatExpiry
  exact keepsOut_next (keeps_ite (fun _ => (by
    split
    · exact (Keeps.refl _)
    · exact (State.modMach_keeps _ _ _ _ (keeps_advTo _ (Keeps.refl _)))
)) (fun _ => (Keeps.refl _)))

theorem execMotXchkTimeout_keeps (l : Lane) (m : Fin 2) (s : State) : KeepsOut s (execMotXchkTimeout l m s) := by
  unfold execMotXchkTimeout
  lift_lets -useContext -merge -underBinder
  intro x0
  have hx0 : Keeps s x0 := (keeps_advTo _ (Keeps.refl _))
  clear_value x0
  exact keepsOut_next (keeps_ite (fun _ => (State.motLose_keeps _ _ _ (keeps_set _ _ _ _ hx0))) (fun _ => (Keeps.refl _)))

theorem execMotRectifyTimeout_keeps (l : Lane) (m : Fin 2) (s : State) : KeepsOut s (execMotRectifyTimeout l m s) := by
  unfold execMotRectifyTimeout
  exact keepsOut_next (keeps_ite (fun _ => (State.motGo_keeps _ _ _ _ (keeps_advTo _ (Keeps.refl _)))) (fun _ => (Keeps.refl _)))

theorem execMotPrefTimeout_keeps (l : Lane) (m : Fin 2) (s : State) : KeepsOut s (execMotPrefTimeout l m s) := by
  unfold execMotPrefTimeout
  lift_lets -useContext -merge -underBinder
  intro x0
  try clear_value x0
  intro x1
  have hx1 : Keeps s x1 := (keeps_advTo _ (Keeps.refl _))
  clear_value x1
  exact keepsOut_next (keeps_ite (fun _ => (State.motGo_keeps _ _ _ _ hx1)) (fun _ => (keeps_ite (fun _ => (State.motGo_keeps _ _ _ _ hx1)) (fun _ => (Keeps.refl _)))))

theorem execMotRecatch_keeps (l : Lane) (m : Fin 2) (s : State) : KeepsOut s (execMotRecatch l m s) := by
  unfold execMotRecatch
  exact keepsOut_next (keeps_ite (fun _ => (State.motGo_keeps _ _ _ _ (Keeps.refl _))) (fun _ => (Keeps.refl _)))

theorem execCatchPulseStart_keeps (l : Lane) (m : Fin 2) (s0 : State) : KeepsOut s0 (execCatchPulseStart l m s0) := by
  unfold execCatchPulseStart
  lift_lets -useContext -merge -underBinder
  intro x0
  have hx0 : Keeps s0 x0 := by
    unfold x0
    split
    · exact (keeps_advTo _ (Keeps.refl _))
    · exact (Keeps.refl _)
  clear_value x0
  exact keepsOut_next (keeps_ite (fun _ => (State.motApply_keeps _ _ _ _ (State.modMach_keeps _ _ _ _ hx0))) (fun _ => (Keeps.refl _)))

theorem State.judgeResolver_keeps {s00 : State} (s : State) (l : Lane) (m : Fin 2) (theta : Nat) (h0 : Keeps s00 s) :
    Keeps s00 (State.judgeResolver s l m theta) := by
  refine keeps_trans h0 ?_
  unfold State.judgeResolver
  lift_lets -useContext -merge -underBinder
  intro x0 x1
  try clear_value x1
  refine keeps_ite (fun _ => ?_) (fun _ => ?_)
  · exact (keeps_set _ _ _ _ (Keeps.refl _))
  · exact (Keeps.refl _)

theorem State.injectStart_keeps {s00 : State} (s : State) (l : Lane) (m : Fin 2) (h0 : Keeps s00 s) :
    Keeps s00 (State.injectStart s l m) := by
  refine keeps_trans h0 ?_
  unfold State.injectStart
  exact (State.motApply_keeps _ _ _ _ (State.modMach_keeps _ _ _ _ (State.motGo_keeps _ _ _ _ (Keeps.refl _))))

theorem execCatchPulseEnd_keeps (l : Lane) (m : Fin 2) (s0 : State) : KeepsOut s0 (execCatchPulseEnd l m s0) := by
  unfold execCatchPulseEnd
  lift_lets -useContext -merge -underBinder
  intro x0 x1
  try clear_value x1
  intro x2
  have hx2 : Keeps s0 x2 := (keeps_advTo _ (Keeps.refl _))
  clear_value x2
  intro x3
  try clear_value x3
  intro x4
  try clear_value x4
  intro x5
  have hx5 : Keeps s0 x5 := (State.motForce_keeps _ _ _ (State.modMach_keeps _ _ _ _ hx2))
  clear_value x5
  intro x6
  have hx6 : Keeps s0 x6 := (State.modMach_keeps _ _ _ _ hx5)
  clear_value x6
  intro x7
  try clear_value x7
  intro x8
  have hx8 : Keeps s0 x8 := (State.modMach_keeps _ _ _ _ (keeps_inc _ _ _ _ _ hx5))
  clear_value x8
  exact keepsOut_next (keeps_ite (fun _ => (keeps_ite (fun _ => (keeps_ite (fun _ => (State.injectStart_keeps _ _ _ hx6)) (fun _ => hx6))) (fun _ => (by
    split
    · exact hx8
    · lift_lets -useContext -merge -underBinder
      intro x9
      try clear_value x9
      intro x10
      try clear_value x10
      intro x11
      try clear_value x11
      intro x12
      try clear_value x12
      intro x13
      try clear_value x13
      refine keeps_ite (fun _ => ?_) (fun _ => ?_)
      · exact (State.motGo_keeps _ _ _ _ (State.motPreset_keeps _ _ _ _ _ (State.judgeResolver_keeps _ _ _ _ hx8)))
      · refine keeps_ite (fun _ => ?_) (fun _ => ?_)
        · exact (State.motGo_keeps _ _ _ _ (State.motPreset_keeps _ _ _ _ _ (State.judgeResolver_keeps _ _ _ _ hx8)))
        · exact hx8
)))) (fun _ => (Keeps.refl _)))

theorem execMotInjectionStep_keeps (l : Lane) (m : Fin 2) (s0 : State) : KeepsOut s0 (execMotInjectionStep l m s0) := by
  unfold execMotInjectionStep
  lift_lets -useContext -merge -underBinder
  intro x0 x1
  try clear_value x1
  intro x2
  try clear_value x2
  intro x3
  have hx3 : Keeps s0 x3 := (keeps_advTo _ (Keeps.refl _))
  clear_value x3
  intro x4 x5
  try clear_value x5
  intro x6
  try clear_value x6
  intro x7
  try clear_value x7
  intro x8
  try clear_value x8
  intro x9
  try clear_value x9
  intro x10
  try clear_value x10
  intro x11
  try clear_value x11
  intro x12
  try clear_value x12
  intro x13
  try clear_value x13
  intro x14
  try clear_value x14
  intro x15
  try clear_value x15
  exact keepsOut_next (keeps_ite (fun _ => (keeps_ite (fun _ => (keeps_ite (fun _ => (State.motApply_keeps _ _ _ _ (State.modMach_keeps _ _ _ _ (State.modMach_keeps _ _ _ _ hx3)))) (fun _ => (keeps_ite (fun _ => (State.motForce_keeps _ _ _ (State.modMach_keeps _ _ _ _ hx3))) (fun _ => (keeps_ite (fun _ => (State.modMach_keeps _ _ _ _ hx3)) (fun _ => (State.motApply_keeps _ _ _ _ (State.modMach_keeps _ _ _ _ hx3))))))))) (fun _ => (keeps_ite (fun _ => (keeps_ite (fun _ => (State.motGo_keeps _ _ _ _ (keeps_set _ _ _ _ hx3))) (fun _ => (State.motApply_keeps _ _ _ _ (State.modMach_keeps _ _ _ _ (State.modMach_keeps _ _ _ _ hx3)))))) (fun _ => (keeps_ite (fun _ => (by
    split
    · exact (State.motApply_keeps _ _ _ _ (State.modMach_keeps _ _ _ _ (State.modMach_keeps _ _ _ _ hx3)))
    · exact (State.motForce_keeps _ _ _ (State.modMach_keeps _ _ _ _ hx3))
    · exact (State.motApply_keeps _ _ _ _ (State.modMach_keeps _ _ _ _ hx3))
    · exact (State.motApply_keeps _ _ _ _ (State.modMach_keeps _ _ _ _ (State.modMach_keeps _ _ _ _ hx3)))
    · exact (State.motForce_keeps _ _ _ (State.modMach_keeps _ _ _ _ hx3))
    · exact (State.modMach_keeps _ _ _ _ hx3)
)) (fun _ => (State.motGo_keeps _ _ _ _ (State.motPreset_keeps _ _ _ _ _ hx3))))))))) (fun _ => (Keeps.refl _)))

theorem execKeWindowEnd_keeps (l : Lane) (m : Fin 2) (s : State) : KeepsOut s (execKeWindowEnd l m s) := by
  unfold execKeWindowEnd
  lift_lets -useContext -merge -underBinder
  intro x0 x1
  try clear_value x1
  intro x2
  try clear_value x2
  intro x3
  try clear_value x3
  intro x4
  have hx4 : Keeps s x4 := (keeps_wrSat _ _ _ _ _ (keeps_inc _ _ _ _ _ (State.modMach_keeps _ _ _ _ (Keeps.refl _))))
  clear_value x4
  exact keepsOut_next (keeps_ite (fun _ => (keeps_ite (fun _ => hx4) (fun _ => (State.motLog_keeps _ _ _ _ (State.irq_keeps _ _ _ _ (keeps_wr _ _ _ _ _ hx4)))))) (fun _ => (Keeps.refl _)))

theorem State.keCycle_keeps {s00 : State} (s : State) (l : Lane) (m : Fin 2) (h0 : Keeps s00 s) :
    Keeps s00 (State.keCycle s l m) := by
  refine keeps_trans h0 ?_
  unfold State.keCycle
  lift_lets -useContext -merge -underBinder
  intro x0 x1
  try clear_value x1
  intro x2
  try clear_value x2
  intro x3
  try clear_value x3
  intro x4
  try clear_value x4
  intro x5
  try clear_value x5
  refine keeps_ite (fun _ => ?_) (fun _ => ?_)
  · exact (State.modMach_keeps _ _ _ _ (Keeps.refl _))
  · exact (State.modMach_keeps _ _ _ _ (Keeps.refl _))

theorem State.motCycle_keeps {s00 : State} (s : State) (l : Lane) (m : Fin 2) (h0 : Keeps s00 s) :
    Keeps s00 (State.motCycle s l m) := by
  refine keeps_trans h0 ?_
  unfold State.motCycle
  lift_lets -useContext -merge -underBinder
  intro x0 x1
  have hx1 : Keeps s x1 := (State.keCycle_keeps _ _ _ (Keeps.refl _))
  clear_value x1
  intro x2
  try clear_value x2
  intro x3
  try clear_value x3
  intro x4
  try clear_value x4
  intro x5
  try clear_value x5
  intro x6
  try clear_value x6
  intro x7
  try clear_value x7
  intro x8
  try clear_value x8
  intro x9
  try clear_value x9
  intro x10
  try clear_value x10
  intro x11
  try clear_value x11
  intro x12
  have hx12 : Keeps s x12 := (State.modMach_keeps _ _ _ _ hx1)
  clear_value x12
  intro x13
  have hx13 : Keeps s x13 := (keeps_put _ _ _ _ _ (keeps_put _ _ _ _ _ (keeps_put _ _ _ _ _ hx12)))
  clear_value x13
  intro x14
  try clear_value x14
  intro x15
  have hx15 : Keeps s x15 := (keeps_wrSat _ _ _ _ _ (keeps_wrSat _ _ _ _ _ (keeps_wrSat _ _ _ _ _ hx13)))
  clear_value x15
  refine keeps_ite (fun _ => ?_) (fun _ => ?_)
  · exact (keeps_wrSat _ _ _ _ _ hx15)
  · exact (State.modMach_keeps _ _ _ _ hx1)

theorem State.curveCycle_keeps {s00 : State} (s : State) (l : Lane) (k : Nat) (h0 : Keeps s00 s) :
    Keeps s00 (State.curveCycle s l k) := by
  refine keeps_trans h0 ?_
  unfold State.curveCycle
  lift_lets -useContext -merge -underBinder
  intro x0 x1
  try clear_value x1
  intro x2
  try clear_value x2
  intro x3
  try clear_value x3
  intro x4
  try clear_value x4
  intro x5
  try clear_value x5
  refine keeps_ite (fun _ => ?_) (fun _ => ?_)
  · exact (State.ceSource_keeps _ _ _ _ _ (keeps_wrS _ _ _ _ _ (keeps_wrBit _ _ _ _ _ (keeps_put _ _ _ _ _ (keeps_put _ _ _ _ _ (Keeps.refl _))))))
  · exact (Keeps.refl _)

theorem State.motBoundary_keeps {s00 : State} (s : State) (l : Lane) (h0 : Keeps s00 s) :
    Keeps s00 (State.motBoundary s l) := by
  refine keeps_trans h0 ?_
  unfold State.motBoundary
  exact (keeps_each _ _ (keeps_each _ _ (Keeps.refl _) (fun _ _ => (State.motCycle_keeps _ _ _ (Keeps.refl _)))) (fun _ _ => (State.curveCycle_keeps _ _ _ (Keeps.refl _))))


end Sys2Proof.Machine
end

