-- ==== Sys2Proof/Laws/KeepsNrg.lean ====
section
/-!
SUPPORT. The operations of Machine/Nrg.lean keep what `Keeps` says (Laws/Keeps.lean).
-/
namespace Sys2Proof.Machine

theorem State.holdStage_keeps {s00 : State} (s : State) (l : Lane) (cs : List (Fin 64)) (held : Bool) (h0 : Keeps s00 s) :
    Keeps s00 (State.holdStage s l cs held) := by
  refine keeps_trans h0 ?_
  unfold State.holdStage
  exact (keeps_each _ _ (Keeps.refl _) (fun _ _ => (keeps_ite (fun _ => (Keeps.refl _)) (fun _ => (keeps_ite (fun _ => (State.modCh_keeps _ _ _ _ (State.chOff_keeps _ _ _ (Keeps.refl _)))) (fun _ => (State.modCh_keeps _ _ _ _ (Keeps.refl _))))))))

theorem State.hvcSoftStart_keeps {s00 : State} (s : State) (l : Lane) (h0 : Keeps s00 s) :
    Keeps s00 (State.hvcSoftStart s l) := by
  refine keeps_trans h0 ?_
  unfold State.hvcSoftStart
  lift_lets -useContext -merge -underBinder
  intro x0
  try clear_value x0
  exact (State.setK3_keeps _ _ _ _ (State.holdStage_keeps _ _ _ _ (State.modNrg_keeps _ _ _ (keeps_wr _ _ _ _ _ (Keeps.refl _)))))

theorem State.hvcStep_keeps {s00 : State} (s : State) (l : Lane) (h0 : Keeps s00 s) :
    Keeps s00 (State.hvcStep s l) := by
  refine keeps_trans h0 ?_
  unfold State.hvcStep
  lift_lets -useContext -merge -underBinder
  intro x0 x1
  try clear_value x1
  intro x2
  have hx2 : Keeps s x2 := (keeps_put _ _ _ _ _ (Keeps.refl _))
  clear_value x2
  intro x3
  try clear_value x3
  intro x4
  try clear_value x4
  intro x5
  have hx5 : Keeps s x5 := (keeps_ite (fun _ => (State.replug_keeps _ _ _ hx2)) (fun _ => hx2))
  clear_value x5
  refine keeps_ite (fun _ => ?_) (fun _ => ?_)
  · refine keeps_ite (fun _ => ?_) (fun _ => ?_)
    · exact hx5
    · exact (State.holdStage_keeps _ _ _ _ (keeps_clr _ _ _ _ (keeps_wr _ _ _ _ _ hx5)))
  · refine keeps_ite (fun _ => ?_) (fun _ => ?_)
    · refine keeps_ite (fun _ => ?_) (fun _ => ?_)
      · exact (State.hvcSoftStart_keeps _ _ hx5)
      · exact (State.holdStage_keeps _ _ _ _ hx5)
    · refine keeps_ite (fun _ => ?_) (fun _ => ?_)
      · refine keeps_ite (fun _ => ?_) (fun _ => ?_)
        · exact hx5
        · exact (State.hvcSoftStart_keeps _ _ hx5)
      · refine keeps_ite (fun _ => ?_) (fun _ => ?_)
        · exact (State.holdStage_keeps _ _ _ _ (keeps_clr _ _ _ _ (keeps_wr _ _ _ _ _ hx5)))
        · exact hx5

theorem State.hvcIset_keeps {s00 : State} (s : State) (l : Lane) (h0 : Keeps s00 s) :
    Keeps s00 (State.hvcIset s l) := by
  refine keeps_trans h0 ?_
  unfold State.hvcIset
  exact (State.setK3_keeps _ _ _ _ (Keeps.refl _))

theorem State.hvcCycle_keeps {s00 : State} (s : State) (l : Lane) (h0 : Keeps s00 s) :
    Keeps s00 (State.hvcCycle s l) := by
  refine keeps_trans h0 ?_
  unfold State.hvcCycle
  lift_lets -useContext -merge -underBinder
  intro x0 x1
  have hx1 : Keeps s x1 := (State.hvcStep_keeps _ _ (Keeps.refl _))
  clear_value x1
  intro x2
  try clear_value x2
  intro x3
  try clear_value x3
  intro x4
  try clear_value x4
  intro x5
  try clear_value x5
  intro x6
  try clear_value x6
  intro x7
  have hx7 : Keeps s x7 := (keeps_ite (fun _ => (State.hvcIset_keeps _ _ (State.setK3_keeps _ _ _ _ (State.modNrg_keeps _ _ _ hx1)))) (fun _ => (State.hvcIset_keeps _ _ hx1)))
  clear_value x7
  intro x8
  try clear_value x8
  intro x9
  try clear_value x9
  intro x10
  try clear_value x10
  refine keeps_ite (fun _ => ?_) (fun _ => ?_)
  · exact (keeps_put _ _ _ _ _ hx7)
  · exact hx1

theorem State.obcHold_keeps {s00 : State} (s : State) (l : Lane) (held : Bool) (h0 : Keeps s00 s) :
    Keeps s00 (State.obcHold s l held) := by
  refine keeps_trans h0 ?_
  unfold State.obcHold
  exact (State.holdStage_keeps _ _ _ _ (State.holdStage_keeps _ _ _ _ (Keeps.refl _)))

theorem State.seqGo_keeps {s00 : State} (s : State) (l : Lane) (p : SeqPhase) (step : Nat) (h0 : Keeps s00 s) :
    Keeps s00 (State.seqGo s l p step) := by
  refine keeps_trans h0 ?_
  unfold State.seqGo
  exact (keeps_wr _ _ _ _ _ (State.modNrg_keeps _ _ _ (Keeps.refl _)))

theorem State.seqBegin_keeps {s00 : State} (s : State) (l : Lane) (cmd : Nat) (p : SeqPhase) (step : Nat) (h0 : Keeps s00 s) :
    Keeps s00 (State.seqBegin s l cmd p step) := by
  refine keeps_trans h0 ?_
  unfold State.seqBegin
  exact (State.seqGo_keeps _ _ _ _ (keeps_set _ _ _ _ (State.modNrg_keeps _ _ _ (Keeps.refl _))))

theorem State.seqClose_keeps {s00 : State} (s : State) (l : Lane) (c : Nat) (p : SeqPhase) (step : Nat) (h0 : Keeps s00 s) :
    Keeps s00 (State.seqClose s l c p step) := by
  refine keeps_trans h0 ?_
  unfold State.seqClose
  lift_lets -useContext -merge -underBinder
  intro x0
  have hx0 : Keeps s x0 := (State.seqGo_keeps _ _ _ _ (Keeps.refl _))
  clear_value x0
  intro x1
  have hx1 : Keeps1 s x1 := (State.ctrClose_keeps _ _ _ hx0)
  clear_value x1
  refine keeps_ite (fun _ => ?_) (fun _ => ?_)
  · exact hx1.h
  · exact (State.seqEnd_keeps _ _ _ hx1.h)

theorem State.openAll_keeps {s00 : State} (s : State) (l : Lane) (h0 : Keeps s00 s) :
    Keeps s00 (State.openAll s l) := by
  refine keeps_trans h0 ?_
  unfold State.openAll
  exact (State.ctrOpen_keeps _ _ _ (State.ctrOpen_keeps _ _ _ (State.ctrOpen_keeps _ _ _ (Keeps.refl _))))

theorem State.weldFound_keeps {s00 : State} (s : State) (l : Lane) (c : Nat) (h0 : Keeps s00 s) :
    Keeps s00 (State.weldFound s l c) := by
  refine keeps_trans h0 ?_
  unfold State.weldFound
  lift_lets -useContext -merge -underBinder
  intro x0
  have hx0 : Keeps s x0 := (keeps_wrBit _ _ _ _ _ (State.modNrg_keeps _ _ _ (Keeps.refl _)))
  clear_value x0
  intro x1
  have hx1 : Keeps s x1 := (State.irq_keeps _ _ _ _ (keeps_set _ _ _ _ hx0))
  clear_value x1
  exact (keeps_each _ _ hx1 (fun _ _ => (State.log_keeps _ _ _ _ (Keeps.refl _))))

theorem State.weldEnd_keeps {s00 : State} (s : State) (l : Lane) (h0 : Keeps s00 s) :
    Keeps s00 (State.weldEnd s l) := by
  refine keeps_trans h0 ?_
  unfold State.weldEnd
  split
  · exact (Keeps.refl _)
  · refine keeps_ite (fun _ => ?_) (fun _ => ?_)
    · exact (State.seqEnd_keeps _ _ _ (Keeps.refl _))
    · exact (State.seqEnd_keeps _ _ _ (keeps_when _ _ (Keeps.refl _) (fun _ => (keeps_modDep _ (Keeps.refl _)))))

theorem State.startMnCheck_keeps {s00 : State} (s : State) (l : Lane) (h0 : Keeps s00 s) :
    Keeps s00 (State.startMnCheck s l) := by
  refine keeps_trans h0 ?_
  unfold State.startMnCheck
  lift_lets -useContext -merge -underBinder
  intro x0
  try clear_value x0
  intro x1
  have hx1 : Keeps s x1 := (State.modNrg_keeps _ _ _ (State.discharge_keeps _ _ _ (Keeps.refl _)))
  clear_value x1
  exact (State.seqClose_keeps _ _ _ _ _ hx1)

theorem State.afterMn_keeps {s00 : State} (s : State) (l : Lane) (h0 : Keeps s00 s) :
    Keeps s00 (State.afterMn s l) := by
  refine keeps_trans h0 ?_
  unfold State.afterMn
  refine keeps_ite (fun _ => ?_) (fun _ => ?_)
  · exact (State.startMnCheck_keeps _ _ (Keeps.refl _))
  · exact (State.seqGo_keeps _ _ _ _ (Keeps.refl _))

theorem State.startMn_keeps {s00 : State} (s : State) (l : Lane) (h0 : Keeps s00 s) :
    Keeps s00 (State.startMn s l) := by
  refine keeps_trans h0 ?_
  unfold State.startMn
  refine keeps_ite (fun _ => ?_) (fun _ => ?_)
  · exact (State.seqGo_keeps _ _ _ _ (State.ctrOpen_keeps _ _ _ (Keeps.refl _)))
  · exact (State.afterMn_keeps _ _ (Keeps.refl _))

theorem State.startPosCheck_keeps {s00 : State} (s : State) (l : Lane) (h0 : Keeps s00 s) :
    Keeps s00 (State.startPosCheck s l) := by
  refine keeps_trans h0 ?_
  unfold State.startPosCheck
  lift_lets -useContext -merge -underBinder
  intro x0
  try clear_value x0
  exact (State.seqGo_keeps _ _ _ _ (State.modNrg_keeps _ _ _ (State.discharge_keeps _ _ _ (Keeps.refl _))))

theorem State.startMp_keeps {s00 : State} (s : State) (l : Lane) (h0 : Keeps s00 s) :
    Keeps s00 (State.startMp s l) := by
  refine keeps_trans h0 ?_
  unfold State.startMp
  lift_lets -useContext -merge -underBinder
  intro x0
  have hx0 : Keeps s x0 := (State.ctrOpen_keeps _ _ _ (Keeps.refl _))
  clear_value x0
  refine keeps_ite (fun _ => ?_) (fun _ => ?_)
  · exact (State.seqGo_keeps _ _ _ _ (State.ctrOpen_keeps _ _ _ hx0))
  · exact (State.startPosCheck_keeps _ _ hx0)

theorem State.ctrWatch_keeps {s00 : State} (s : State) (l : Lane) (h0 : Keeps s00 s) :
    Keeps s00 (State.ctrWatch s l) := by
  refine keeps_trans h0 ?_
  unfold State.ctrWatch
  lift_lets -useContext -merge -underBinder
  intro x0
  have hx0 : Keeps s x0 := (keeps_ite (fun _ => (State.seqEnd_keeps _ _ _ (Keeps.refl _))) (fun _ => (Keeps.refl _)))
  clear_value x0
  exact (State.hvcStep_keeps _ _ hx0)

theorem State.obcStop_keeps {s00 : State} (s : State) (l : Lane) (h0 : Keeps s00 s) :
    Keeps s00 (State.obcStop s l) := by
  refine keeps_trans h0 ?_
  unfold State.obcStop
  lift_lets -useContext -merge -underBinder
  intro x0 x1
  have hx1 : Keeps s x1 := (State.obcHold_keeps _ _ _ (keeps_clr _ _ _ _ (keeps_wr _ _ _ _ _ (Keeps.refl _))))
  clear_value x1
  refine keeps_ite (fun _ => ?_) (fun _ => ?_)
  · exact (State.ctrOpen_keeps _ _ _ hx1)
  · exact hx1

theorem State.obcStep_keeps {s00 : State} (s : State) (l : Lane) (h0 : Keeps s00 s) :
    Keeps s00 (State.obcStep s l) := by
  refine keeps_trans h0 ?_
  unfold State.obcStep
  lift_lets -useContext -merge -underBinder
  intro x0 x1
  try clear_value x1
  intro x2
  have hx2 : Keeps s x2 := (keeps_put _ _ _ _ _ (Keeps.refl _))
  clear_value x2
  intro x3
  try clear_value x3
  intro x4
  try clear_value x4
  refine keeps_ite (fun _ => ?_) (fun _ => ?_)
  · refine keeps_ite (fun _ => ?_) (fun _ => ?_)
    · exact hx2
    · exact (State.obcStop_keeps _ _ hx2)
  · refine keeps_ite (fun _ => ?_) (fun _ => ?_)
    · exact (State.obcGo_keeps _ _ _ hx2)
    · exact hx2

theorem State.obcCycle_keeps {s00 : State} (s : State) (l : Lane) (h0 : Keeps s00 s) :
    Keeps s00 (State.obcCycle s l) := by
  refine keeps_trans h0 ?_
  unfold State.obcCycle
  lift_lets -useContext -merge -underBinder
  intro x0 x1
  have hx1 : Keeps s x1 := (State.obcStep_keeps _ _ (Keeps.refl _))
  clear_value x1
  intro x2
  try clear_value x2
  intro x3
  refine keeps_ite (fun _ => ?_) (fun _ => ?_)
  · exact (State.modNrg_keeps _ _ _ hx1)
  · exact hx1

theorem State.cmdRefuse_keeps {s00 : State} (s : State) (l : Lane) (r : Nat) (h0 : Keeps s00 s) :
    Keeps s00 (State.cmdRefuse s l r) := by
  refine keeps_trans h0 ?_
  unfold State.cmdRefuse
  exact (keeps_wr _ _ _ _ _ (Keeps.refl _))

theorem State.ctrCommand_keeps {s00 : State} (s : State) (l : Lane) (cmd : Nat) (aborts mode : Bool) (go : State → State) (h0 : Keeps s00 s)
    (hf5 : ∀ y0, Keeps y0 (go y0)) :
    Keeps s00 (State.ctrCommand s l cmd aborts mode go) := by
  refine keeps_trans h0 ?_
  unfold State.ctrCommand
  lift_lets -useContext -merge -underBinder
  intro x0 x1
  have hx1 : Keeps s x1 := (keeps_wr _ _ _ _ _ (Keeps.refl _))
  clear_value x1
  refine keeps_ite (fun _ => ?_) (fun _ => ?_)
  · refine keeps_ite (fun _ => ?_) (fun _ => ?_)
    · exact (State.cmdRefuse_keeps _ _ _ hx1)
    · refine keeps_ite (fun _ => ?_) (fun _ => ?_)
      · exact (State.cmdRefuse_keeps _ _ _ hx1)
      · refine keeps_ite (fun _ => ?_) (fun _ => ?_)
        · exact (State.cmdRefuse_keeps _ _ _ hx1)
        · refine keeps_ite (fun _ => ?_) (fun _ => ?_)
          · exact (State.cmdRefuse_keeps _ _ _ hx1)
          · exact (Keeps.trans (State.seqEnd_keeps _ _ _ hx1) (hf5 _))
  · exact (Keeps.refl _)

theorem execCloseMain_keeps (l : Lane) (s : State) : KeepsOut s (execCloseMain l s) := by
  unfold execCloseMain
  exact keepsOut_next (State.ctrCommand_keeps _ _ _ _ _ _ (Keeps.refl _) (fun _ => (keeps_ite (fun _ => (State.cmdRefuse_keeps _ _ _ (Keeps.refl _))) (fun _ => (State.seqClose_keeps _ _ _ _ _ (State.seqBegin_keeps _ _ _ _ _ (Keeps.refl _)))))))

theorem execPrechargeReached_keeps (l : Lane) (s : State) : KeepsOut s (execPrechargeReached l s) := by
  unfold execPrechargeReached
  lift_lets -useContext -merge -underBinder
  intro x0
  exact keepsOut_next (by
    split
    · exact (Keeps.refl _)
    · refine keeps_ite (fun _ => ?_) (fun _ => ?_)
      · refine keeps_ite (fun _ => ?_) (fun _ => ?_)
        · exact (State.seqEnd_keeps _ _ _ (State.openAll_keeps _ _ (Keeps.refl _)))
        · exact (State.seqClose_keeps _ _ _ _ _ (Keeps.refl _))
      · exact (Keeps.refl _)
)

theorem execPrechargeTimeout_keeps (l : Lane) (s : State) : KeepsOut s (execPrechargeTimeout l s) := by
  unfold execPrechargeTimeout
  exact keepsOut_next (by
    split
    · exact (Keeps.refl _)
    · lift_lets -useContext -merge -underBinder
      intro x0
      try clear_value x0
      refine keeps_ite (fun _ => ?_) (fun _ => ?_)
      · exact (State.seqEnd_keeps _ _ _ (State.openAll_keeps _ _ (keeps_advTo _ (Keeps.refl _))))
      · exact (Keeps.refl _)
)

theorem execPrechargeOverlapEnd_keeps (l : Lane) (s : State) : KeepsOut s (execPrechargeOverlapEnd l s) := by
  unfold execPrechargeOverlapEnd
  exact keepsOut_next (by
    split
    · exact (Keeps.refl _)
    · refine keeps_ite (fun _ => ?_) (fun _ => ?_)
      · exact (State.seqEnd_keeps _ _ _ (State.ctrOpen_keeps _ _ _ (keeps_advTo _ (Keeps.refl _))))
      · exact (Keeps.refl _)
)

theorem State.seqPulled_keeps {s00 : State} (s : State) (l : Lane) (k : Fin 12) (h0 : Keeps s00 s) :
    Keeps s00 (State.seqPulled s l k) := by
  refine keeps_trans h0 ?_
  unfold State.seqPulled
  split
  · exact (Keeps.refl _)
  · lift_lets -useContext -merge -underBinder
    intro x0
    split
    · refine keeps_ite (fun _ => ?_) (fun _ => ?_)
      · exact (State.seqClose_keeps _ _ _ _ _ (Keeps.refl _))
      · exact (Keeps.refl _)
    · refine keeps_ite (fun _ => ?_) (fun _ => ?_)
      · exact (State.seqGo_keeps _ _ _ _ (Keeps.refl _))
      · exact (Keeps.refl _)
    · refine keeps_ite (fun _ => ?_) (fun _ => ?_)
      · exact (State.seqClose_keeps _ _ _ _ _ (Keeps.refl _))
      · exact (Keeps.refl _)
    · refine keeps_ite (fun _ => ?_) (fun _ => ?_)
      · exact (State.seqEnd_keeps _ _ _ (Keeps.refl _))
      · exact (Keeps.refl _)
    · refine keeps_ite (fun _ => ?_) (fun _ => ?_)
      · exact (State.seqEnd_keeps _ _ _ (Keeps.refl _))
      · exact (Keeps.refl _)
    · exact (Keeps.refl _)

theorem execContactorPullEnd_keeps (k : Fin 12) (s : State) : KeepsOut s (execContactorPullEnd k s) := by
  unfold execContactorPullEnd
  lift_lets -useContext -merge -underBinder
  intro x0
  have hx0 : Keeps s x0 := (keeps_advTo _ (Keeps.refl _))
  clear_value x0
  intro x1
  have hx1 : Keeps s x1 := (keeps_modDep _ hx0)
  clear_value x1
  exact keepsOut_next (keeps_ite (fun _ => (keeps_each _ _ hx1 (fun _ _ => (State.obcStep_keeps _ _ (State.hvcStep_keeps _ _ (State.seqPulled_keeps _ _ _ (Keeps.refl _))))))) (fun _ => (Keeps.refl _)))

theorem State.seqDropped_keeps {s00 : State} (s : State) (l : Lane) (c : Nat) (h0 : Keeps s00 s) :
    Keeps s00 (State.seqDropped s l c) := by
  refine keeps_trans h0 ?_
  unfold State.seqDropped
  split
  · exact (Keeps.refl _)
  · split
    · refine keeps_ite (fun _ => ?_) (fun _ => ?_)
      · exact (State.startPosCheck_keeps _ _ (Keeps.refl _))
      · exact (Keeps.refl _)
    · refine keeps_ite (fun _ => ?_) (fun _ => ?_)
      · exact (State.afterMn_keeps _ _ (Keeps.refl _))
      · exact (Keeps.refl _)
    · refine keeps_ite (fun _ => ?_) (fun _ => ?_)
      · exact (State.seqEnd_keeps _ _ _ (Keeps.refl _))
      · exact (Keeps.refl _)
    · refine keeps_ite (fun _ => ?_) (fun _ => ?_)
      · exact (State.seqEnd_keeps _ _ _ (Keeps.refl _))
      · exact (Keeps.refl _)
    · exact (Keeps.refl _)

theorem execContactorDropEnd_keeps (l : Lane) (c : Fin 6) (s : State) : KeepsOut s (execContactorDropEnd l c s) := by
  unfold execContactorDropEnd
  lift_lets -useContext -merge -underBinder
  intro x0
  try clear_value x0
  intro x1
  have hx1 : Keeps s x1 := (keeps_advTo _ (Keeps.refl _))
  clear_value x1
  exact keepsOut_next (keeps_ite (fun _ => (State.seqDropped_keeps _ _ _ (keeps_modDep _ hx1))) (fun _ => (Keeps.refl _)))

theorem State.openMain_keeps {s00 : State} (s : State) (l : Lane) (h0 : Keeps s00 s) :
    Keeps s00 (State.openMain s l) := by
  refine keeps_trans h0 ?_
  unfold State.openMain
  lift_lets -useContext -merge -underBinder
  intro x0
  try clear_value x0
  intro x1
  have hx1 : Keeps s x1 := (State.modNrg_keeps _ _ _ (State.seqBegin_keeps _ _ _ _ _ (Keeps.refl _)))
  clear_value x1
  exact (State.plimZero_keeps _ _ (keeps_ite (fun _ => (State.hvcIset_keeps _ _ hx1)) (fun _ => hx1)))

theorem execOpenMain_keeps (l : Lane) (s : State) : KeepsOut s (execOpenMain l s) := by
  unfold execOpenMain
  exact keepsOut_next (State.ctrCommand_keeps _ _ _ _ _ _ (Keeps.refl _) (fun _ => (State.openMain_keeps _ _ (keeps_clr _ _ _ _ (Keeps.refl _)))))

theorem execOpenCurrentWaitEnd_keeps (l : Lane) (s : State) : KeepsOut s (execOpenCurrentWaitEnd l s) := by
  unfold execOpenCurrentWaitEnd
  lift_lets -useContext -merge -underBinder
  intro x0
  exact keepsOut_next (by
    split
    · exact (Keeps.refl _)
    · refine keeps_ite (fun _ => ?_) (fun _ => ?_)
      · refine keeps_ite (fun _ => ?_) (fun _ => ?_)
        · exact (State.startMp_keeps _ _ (Keeps.refl _))
        · exact (State.startMp_keeps _ _ (keeps_set _ _ _ _ (keeps_inc _ _ _ _ _ (keeps_advTo _ (Keeps.refl _)))))
      · exact (Keeps.refl _)
)

theorem execWeldCheckEnd_keeps (l : Lane) (s : State) : KeepsOut s (execWeldCheckEnd l s) := by
  unfold execWeldCheckEnd
  lift_lets -useContext -merge -underBinder
  intro x0 x1
  try clear_value x1
  exact keepsOut_next (by
    split
    · exact (Keeps.refl _)
    · lift_lets -useContext -merge -underBinder
      intro x2
      try clear_value x2
      split
      · lift_lets -useContext -merge -underBinder
        intro x3
        have hx3 : Keeps1 s x3 := (keeps1_free _ (keeps_advTo _ (Keeps.refl _)))
        clear_value x3
        refine keeps_ite (fun _ => ?_) (fun _ => ?_)
        · exact (State.startMn_keeps _ _ (Keeps.refl _))
        · exact (State.startMn_keeps _ _ (State.weldFound_keeps _ _ _ hx3.h))
      · refine keeps_ite (fun _ => ?_) (fun _ => ?_)
        · exact (State.startMnCheck_keeps _ _ (Keeps.refl _))
        · exact (State.weldEnd_keeps _ _ (keeps_set _ _ _ _ (keeps_advTo _ (Keeps.refl _))))
      · lift_lets -useContext -merge -underBinder
        intro x4
        have hx4 : Keeps s x4 := (keeps_ite (fun _ => (State.weldFound_keeps _ _ _ (Keeps.refl _))) (fun _ => (keeps_advTo _ (Keeps.refl _))))
        clear_value x4
        exact (State.weldEnd_keeps _ _ (State.ctrOpen_keeps _ _ _ hx4))
      · exact (Keeps.refl _)
)

theorem execWeldTest_keeps (l : Lane) (s : State) : KeepsOut s (execWeldTest l s) := by
  unfold execWeldTest
  exact keepsOut_next (State.ctrCommand_keeps _ _ _ _ _ _ (Keeps.refl _) (fun _ => (keeps_ite (fun _ => (State.cmdRefuse_keeps _ _ _ (Keeps.refl _))) (fun _ => (State.startPosCheck_keeps _ _ (State.seqBegin_keeps _ _ _ _ _ (keeps_clr _ _ _ _ (Keeps.refl _))))))))

theorem execClearWeld_keeps (l : Lane) (s : State) : KeepsOut s (execClearWeld l s) := by
  unfold execClearWeld
  exact keepsOut_next (State.ctrCommand_keeps _ _ _ _ _ _ (Keeps.refl _) (fun _ => (keeps_ite (fun _ => (State.cmdRefuse_keeps _ _ _ (keeps_wr _ _ _ _ _ (Keeps.refl _)))) (fun _ => (State.cmdRefuse_keeps _ _ _ (Keeps.refl _))))))

theorem execCloseDc_keeps (l : Lane) (s : State) : KeepsOut s (execCloseDc l s) := by
  unfold execCloseDc
  exact keepsOut_next (State.ctrCommand_keeps _ _ _ _ _ _ (Keeps.refl _) (fun _ => (keeps_ite (fun _ => (State.seqClose_keeps _ _ _ _ _ (State.seqBegin_keeps _ _ _ _ _ (Keeps.refl _)))) (fun _ => (State.cmdRefuse_keeps _ _ _ (Keeps.refl _))))))

theorem State.openDc_keeps {s00 : State} (s : State) (l : Lane) (h0 : Keeps s00 s) :
    Keeps s00 (State.openDc s l) := by
  refine keeps_trans h0 ?_
  unfold State.openDc
  lift_lets -useContext -merge -underBinder
  intro x0
  have hx0 : Keeps s x0 := (State.ctrOpen_keeps _ _ _ (State.ctrOpen_keeps _ _ _ (State.seqBegin_keeps _ _ _ _ _ (Keeps.refl _))))
  clear_value x0
  refine keeps_ite (fun _ => ?_) (fun _ => ?_)
  · exact hx0
  · exact (State.seqEnd_keeps _ _ _ hx0)

theorem execOpenDc_keeps (l : Lane) (s : State) : KeepsOut s (execOpenDc l s) := by
  unfold execOpenDc
  exact keepsOut_next (State.ctrCommand_keeps _ _ _ _ _ _ (Keeps.refl _) (fun _ => (State.openDc_keeps _ _ (Keeps.refl _))))

theorem execDcOvercurrent_keeps (l : Lane) (s : State) : KeepsOut s (execDcOvercurrent l s) := by
  unfold execDcOvercurrent
  lift_lets -useContext -merge -underBinder
  intro x0
  have hx0 : Keeps s x0 := (keeps_advTo _ (Keeps.refl _))
  clear_value x0
  exact keepsOut_next (keeps_ite (fun _ => (State.openDc_keeps _ _ (keeps_wr _ _ _ _ _ (State.seqEnd_keeps _ _ _ hx0)))) (fun _ => (Keeps.refl _)))

theorem execCloseAc_keeps (l : Lane) (s : State) : KeepsOut s (execCloseAc l s) := by
  unfold execCloseAc
  exact keepsOut_next (State.ctrCommand_keeps _ _ _ _ _ _ (Keeps.refl _) (fun _ => (keeps_ite (fun _ => (State.seqClose_keeps _ _ _ _ _ (State.seqBegin_keeps _ _ _ _ _ (Keeps.refl _)))) (fun _ => (State.cmdRefuse_keeps _ _ _ (Keeps.refl _))))))

theorem State.openAc_keeps {s00 : State} (s : State) (l : Lane) (h0 : Keeps s00 s) :
    Keeps s00 (State.openAc s l) := by
  refine keeps_trans h0 ?_
  unfold State.openAc
  lift_lets -useContext -merge -underBinder
  intro x0
  have hx0 : Keeps s x0 := (State.ctrOpen_keeps _ _ _ (State.seqBegin_keeps _ _ _ _ _ (Keeps.refl _)))
  clear_value x0
  refine keeps_ite (fun _ => ?_) (fun _ => ?_)
  · exact hx0
  · exact (State.seqEnd_keeps _ _ _ hx0)

theorem execOpenAc_keeps (l : Lane) (s : State) : KeepsOut s (execOpenAc l s) := by
  unfold execOpenAc
  exact keepsOut_next (State.ctrCommand_keeps _ _ _ _ _ _ (Keeps.refl _) (fun _ => (State.openAc_keeps _ _ (Keeps.refl _))))

theorem State.ovEvent_keeps {s00 : State} (s : State) (l : Lane) (evt cnt : Fld) (level : Nat) (h0 : Keeps s00 s) :
    Keeps s00 (State.ovEvent s l evt cnt level) := by
  refine keeps_trans h0 ?_
  unfold State.ovEvent
  lift_lets -useContext -merge -underBinder
  intro x0
  exact (State.logIf_keeps _ _ _ _ _ _ (State.irq_keeps _ _ _ _ (keeps_inc _ _ _ _ _ (keeps_set _ _ _ _ (Keeps.refl _)))))

theorem execOv1Cross_keeps (l : Lane) (on : Bool) (s : State) : KeepsOut s (execOv1Cross l on s) := by
  unfold execOv1Cross
  lift_lets -useContext -merge -underBinder
  intro x0 x1
  have hx1 : Keeps s x1 := (State.plimStep_keeps _ _ (Keeps.refl _))
  clear_value x1
  intro x2
  have hx2 : Keeps s x2 := (keeps_put _ _ _ _ _ hx1)
  clear_value x2
  exact keepsOut_next (keeps_ite (fun _ => (keeps_ite (fun _ => (State.plimStep_keeps _ _ (State.ovEvent_keeps _ _ _ _ _ hx2))) (fun _ => (State.plimStep_keeps _ _ (State.modNrg_keeps _ _ _ hx2))))) (fun _ => (Keeps.refl _)))

theorem execOv2Cross_keeps (l : Lane) (s : State) : KeepsOut s (execOv2Cross l s) := by
  unfold execOv2Cross
  lift_lets -useContext -merge -underBinder
  intro x0 x1
  have hx1 : Keeps s x1 := (State.ovEvent_keeps _ _ _ _ _ (keeps_set _ _ _ _ (Keeps.refl _)))
  clear_value x1
  exact keepsOut_next (keeps_ite (fun _ => (State.ov2Line_keeps _ _ _ (State.plimZero_keeps _ _ (State.modNrg_keeps _ _ _ hx1)))) (fun _ => (Keeps.refl _)))

theorem execOv2Release_keeps (l : Lane) (s : State) : KeepsOut s (execOv2Release l s) := by
  unfold execOv2Release
  lift_lets -useContext -merge -underBinder
  intro x0
  exact keepsOut_next (keeps_ite (fun _ => (State.ov2Line_keeps _ _ _ (keeps_clr _ _ _ _ (Keeps.refl _)))) (fun _ => (Keeps.refl _)))

theorem execOv3Cross_keeps (l : Lane) (s : State) : KeepsOut s (execOv3Cross l s) := by
  unfold execOv3Cross
  lift_lets -useContext -merge -underBinder
  intro x0
  exact keepsOut_next (keeps_ite (fun _ => (State.ov3Line_keeps _ _ _ (State.ovEvent_keeps _ _ _ _ _ (keeps_set _ _ _ _ (Keeps.refl _))))) (fun _ => (Keeps.refl _)))

theorem execOv3LinesInactive_keeps (l : Lane) (s : State) : KeepsOut s (execOv3LinesInactive l s) := by
  unfold execOv3LinesInactive
  lift_lets -useContext -merge -underBinder
  intro x0
  exact keepsOut_next (keeps_ite (fun _ => (State.ov3Line_keeps _ _ _ (keeps_clr _ _ _ _ (Keeps.refl _)))) (fun _ => (Keeps.refl _)))

theorem execOv3HoldExpiry_keeps (s : State) : KeepsOut s (execOv3HoldExpiry s) := by
  unfold execOv3HoldExpiry
  exact keepsOut_next (by
    split
    · exact (Keeps.refl _)
    · lift_lets -useContext -merge -underBinder
      intro x0
      have hx0 : Keeps s x0 := (keeps_advTo _ (Keeps.refl _))
      clear_value x0
      refine keeps_ite (fun _ => ?_) (fun _ => ?_)
      · exact (State.ovApply_keeps _ (keeps_clr _ _ _ _ (keeps_modDep _ hx0)))
      · exact (Keeps.refl _)
)

theorem execOv3ContactorOpen_keeps (l : Lane) (s : State) : KeepsOut s (execOv3ContactorOpen l s) := by
  unfold execOv3ContactorOpen
  lift_lets -useContext -merge -underBinder
  intro x0 x1
  have hx1 : Keeps s x1 := (keeps_advTo _ (Keeps.refl _))
  clear_value x1
  exact keepsOut_next (keeps_ite (fun _ => (State.obcStep_keeps _ _ (State.ctrWatch_keeps _ _ (keeps_inc _ _ _ _ _ (State.ctrOpen_keeps _ _ _ hx1))))) (fun _ => (Keeps.refl _)))

theorem State.hvcSet_keeps {s00 : State} (s : State) (l : Lane) (vset iset : Nat) (h0 : Keeps s00 s) :
    Keeps s00 (State.hvcSet s l vset iset) := by
  refine keeps_trans h0 ?_
  unfold State.hvcSet
  lift_lets -useContext -merge -underBinder
  intro x0 x1
  have hx1 : Keeps s x1 := (keeps_wr _ _ _ _ _ (keeps_wr _ _ _ _ _ (Keeps.refl _)))
  clear_value x1
  intro x2
  have hx2 : Keeps s x2 := (State.hvcIset_keeps _ _ hx1)
  clear_value x2
  refine keeps_ite (fun _ => ?_) (fun _ => ?_)
  · exact hx2
  · exact (State.setK3_keeps _ _ _ _ hx2)

theorem execHvcSetWrite_keeps (l : Lane) (vset iset : BitVec 16) (s : State) : KeepsOut s (execHvcSetWrite l vset iset s) := by
  unfold execHvcSetWrite
  exact keepsOut_next (keeps_ite (fun _ => (State.hvcSet_keeps _ _ _ _ (Keeps.refl _))) (fun _ => (Keeps.refl _)))

theorem execHvcSoftDone_keeps (l : Lane) (s : State) : KeepsOut s (execHvcSoftDone l s) := by
  unfold execHvcSoftDone
  lift_lets -useContext -merge -underBinder
  intro x0 x1
  try clear_value x1
  exact keepsOut_next (keeps_ite (fun _ => (State.setK3_keeps _ _ _ _ (State.modNrg_keeps _ _ _ (keeps_wr _ _ _ _ _ (Keeps.refl _))))) (fun _ => (Keeps.refl _)))

theorem State.gridSeen_keeps {s00 : State} (s : State) (l : Lane) (v f : BitVec 16) (h0 : Keeps s00 s) :
    Keeps s00 (State.gridSeen s l v f) := by
  refine keeps_trans h0 ?_
  unfold State.gridSeen
  exact (keeps_wr _ _ _ _ _ (keeps_wr _ _ _ _ _ (Keeps.refl _)))

theorem execObcSyncDone_keeps (l : Lane) (v f : BitVec 16) (s : State) : KeepsOut s (execObcSyncDone l v f s) := by
  unfold execObcSyncDone
  lift_lets -useContext -merge -underBinder
  intro x0 x1
  have hx1 : Keeps s x1 := (keeps_set _ _ _ _ (State.gridSeen_keeps _ _ _ _ (Keeps.refl _)))
  clear_value x1
  intro x2
  have hx2 : Keeps s x2 := (State.obcGo_keeps _ _ _ (keeps_advTo _ hx1))
  clear_value x2
  exact keepsOut_next (keeps_ite (fun _ => (keeps_ite (fun _ => (State.holdStage_keeps _ _ _ _ hx2)) (fun _ => hx1))) (fun _ => (Keeps.refl _)))

theorem execObcBusReached_keeps (l : Lane) (s : State) : KeepsOut s (execObcBusReached l s) := by
  unfold execObcBusReached
  lift_lets -useContext -merge -underBinder
  intro x0 x1
  have hx1 : Keeps s x1 := (keeps_ite (fun _ => (State.seqClose_keeps _ _ _ _ _ (State.seqBegin_keeps _ _ _ _ _ (keeps_wr _ _ _ _ _ (Keeps.refl _))))) (fun _ => (Keeps.refl _)))
  clear_value x1
  exact keepsOut_next (keeps_ite (fun _ => (State.modNrg_keeps _ _ _ (State.obcHold_keeps _ _ _ (State.obcGo_keeps _ _ _ hx1)))) (fun _ => (Keeps.refl _)))

theorem execObcGridTrip_keeps (l : Lane) (v f : BitVec 16) (s : State) : KeepsOut s (execObcGridTrip l v f s) := by
  unfold execObcGridTrip
  lift_lets -useContext -merge -underBinder
  intro x0 x1
  try clear_value x1
  intro x2
  try clear_value x2
  intro x3
  try clear_value x3
  intro x4
  have hx4 : Keeps s x4 := (keeps_advTo _ (Keeps.refl _))
  clear_value x4
  intro x5
  have hx5 : Keeps s x5 := (State.irq_keeps _ _ _ _ (keeps_set _ _ _ _ (keeps_set _ _ _ _ (State.obcGo_keeps _ _ _ (State.gridSeen_keeps _ _ _ _ hx4)))))
  clear_value x5
  intro x6
  have hx6 : Keeps s x6 := (State.holdStage_keeps _ _ _ _ hx5)
  clear_value x6
  exact keepsOut_next (keeps_ite (fun _ => (keeps_ite (fun _ => (State.ctrOpen_keeps _ _ _ hx6)) (fun _ => hx6))) (fun _ => (Keeps.refl _)))

theorem execObcGridReturn_keeps (l : Lane) (v f : BitVec 16) (s : State) : KeepsOut s (execObcGridReturn l v f s) := by
  unfold execObcGridReturn
  lift_lets -useContext -merge -underBinder
  intro x0
  exact keepsOut_next (keeps_ite (fun _ => (State.obcGo_keeps _ _ _ (State.gridSeen_keeps _ _ _ _ (keeps_advTo _ (Keeps.refl _))))) (fun _ => (Keeps.refl _)))

theorem State.packWatch_keeps {s00 : State} (s : State) (l : Lane) (h0 : Keeps s00 s) :
    Keeps s00 (State.packWatch s l) := by
  refine keeps_trans h0 ?_
  unfold State.packWatch
  lift_lets -useContext -merge -underBinder
  intro x0 x1
  try clear_value x1
  intro x2
  try clear_value x2
  exact (State.modNrg_keeps _ _ _ (Keeps.refl _))

theorem State.nrgBoundary_keeps {s00 : State} (s : State) (l : Lane) (h0 : Keeps s00 s) :
    Keeps s00 (State.nrgBoundary s l) := by
  refine keeps_trans h0 ?_
  unfold State.nrgBoundary
  exact (State.obcCycle_keeps _ _ (State.hvcCycle_keeps _ _ (State.plimStep_keeps _ _ (State.packWatch_keeps _ _ (Keeps.refl _)))))

theorem State.nrgMode_keeps {s00 : State} (s : State) (l : Lane) (h0 : Keeps s00 s) :
    Keeps s00 (State.nrgMode s l) := by
  refine keeps_trans h0 ?_
  unfold State.nrgMode
  lift_lets -useContext -merge -underBinder
  intro x0
  have hx0 : Keeps s x0 := (State.obcStep_keeps _ _ (State.hvcStep_keeps _ _ (Keeps.refl _)))
  clear_value x0
  intro x1
  have hx1 : Keeps s x1 := (keeps_ite (fun _ => (State.ctrOpen_keeps _ _ _ (State.ctrOpen_keeps _ _ _ hx0))) (fun _ => hx0))
  clear_value x1
  exact (State.ctrWatch_keeps _ _ hx1)


end Sys2Proof.Machine
end

