-- ==== Sys2Proof/Laws/KeepsLvp.lean ====
section
/-!
SUPPORT. The operations of Machine/Lvp.lean keep what `Keeps` says (Laws/Keeps.lean).
-/
namespace Sys2Proof.Machine

theorem State.modLvp_keeps {s00 : State} (s : State) (l : Lane) (f : LvpSt → LvpSt) (h0 : Keeps s00 s) :
    Keeps s00 (State.modLvp s l f) := by
  refine keeps_trans h0 ?_
  unfold State.modLvp
  exact (State.modPap_keeps _ _ _ (Keeps.refl _))

theorem State.goPath_keeps {s00 : State} (s : State) (l : Lane) (path pair : Nat) (h0 : Keeps s00 s) :
    Keeps s00 (State.goPath s l path pair) := by
  refine keeps_trans h0 ?_
  unfold State.goPath
  exact (State.irqOf_keeps _ _ _ _ _ (keeps_wr _ _ _ _ _ (keeps_wr _ _ _ _ _ (Keeps.refl _))))

theorem State.isolate_keeps {s00 : State} (s : State) (l : Lane) (flag : Fld) (h0 : Keeps s00 s) :
    Keeps s00 (State.isolate s l flag) := by
  refine keeps_trans h0 ?_
  unfold State.isolate
  lift_lets -useContext -merge -underBinder
  intro x0 x1
  have hx1 : Keeps s x1 := (keeps_inc _ _ _ _ _ (keeps_set _ _ _ _ (keeps_wr _ _ _ _ _ (State.goPath_keeps _ _ _ _ (Keeps.refl _)))))
  clear_value x1
  intro x2
  have hx2 : Keeps s x2 := (State.irqOf_keeps _ _ _ _ _ (State.modLvp_keeps _ _ _ hx1))
  clear_value x2
  exact (keeps_when _ _ hx2 (fun _ => (State.log_keeps _ _ _ _ (Keeps.refl _))))

theorem State.tBatTake_keeps {s00 : State} (s : State) (l : Lane) (h0 : Keeps s00 s) :
    Keeps s00 (State.tBatTake s l) := by
  refine keeps_trans h0 ?_
  unfold State.tBatTake
  lift_lets -useContext -merge -underBinder
  intro x0 x1
  try clear_value x1
  refine keeps_ite (fun _ => ?_) (fun _ => ?_)
  · exact (State.modLvp_keeps _ _ _ (keeps_wrS _ _ _ _ _ (Keeps.refl _)))
  · exact (Keeps.refl _)

theorem State.goStage_keeps {s00 : State} (s : State) (l : Lane) (st : Nat) (h0 : Keeps s00 s) :
    Keeps s00 (State.goStage s l st) := by
  refine keeps_trans h0 ?_
  unfold State.goStage
  exact (State.modLvp_keeps _ _ _ (keeps_wr _ _ _ _ _ (Keeps.refl _)))

theorem State.profStart_keeps {s00 : State} (s : State) (l : Lane) (h0 : Keeps s00 s) :
    Keeps s00 (State.profStart s l) := by
  refine keeps_trans h0 ?_
  unfold State.profStart
  exact (State.goStage_keeps _ _ _ (Keeps.refl _))

theorem State.lasting_keeps {s00 : State} (s : State) (l : Lane) (c : Bool) (t : Nat) (h0 : Keeps s00 s) :
    Keeps1 s00 (State.lasting s l c t) := by
  refine keeps1_trans h0 ?_
  unfold State.lasting
  refine keeps1_ite (fun _ => ?_) (fun _ => ?_)
  · split
    · exact ⟨Keeps.snd (State.modLvp_keeps _ _ _ (Keeps.refl _))⟩
    · exact ⟨Keeps.snd (Keeps.refl _)⟩
  · exact ⟨Keeps.snd (State.modLvp_keeps _ _ _ (Keeps.refl _))⟩

theorem State.stageMove_keeps {s00 : State} (s : State) (l : Lane) (limiting : Bool) (h0 : Keeps s00 s) :
    Keeps s00 (State.stageMove s l limiting) := by
  refine keeps_trans h0 ?_
  unfold State.stageMove
  lift_lets -useContext -merge -underBinder
  intro x0 x1
  try clear_value x1
  intro x2
  try clear_value x2
  intro x3
  have hx3 : Keeps1 s x3 := (State.lasting_keeps _ _ _ _ (Keeps.refl _))
  clear_value x3
  intro x4
  try clear_value x4
  intro x5
  have hx5 : Keeps1 s x5 := (State.lasting_keeps _ _ _ _ (Keeps.refl _))
  clear_value x5
  intro x6
  have hx6 : Keeps1 s x6 := (State.lasting_keeps _ _ _ _ (Keeps.refl _))
  clear_value x6
  refine keeps_ite (fun _ => ?_) (fun _ => ?_)
  · refine keeps_ite (fun _ => ?_) (fun _ => ?_)
    · exact (Keeps.refl _)
    · exact (State.goStage_keeps _ _ _ (Keeps.refl _))
  · refine keeps_ite (fun _ => ?_) (fun _ => ?_)
    · exact (State.goStage_keeps _ _ _ (Keeps.refl _))
    · refine keeps_ite (fun _ => ?_) (fun _ => ?_)
      · refine keeps_ite (fun _ => ?_) (fun _ => ?_)
        · exact (State.goStage_keeps _ _ _ (Keeps.refl _))
        · exact (Keeps.refl _)
      · refine keeps_ite (fun _ => ?_) (fun _ => ?_)
        · refine keeps_ite (fun _ => ?_) (fun _ => ?_)
          · exact (State.goStage_keeps _ _ _ hx3.h)
          · refine keeps_ite (fun _ => ?_) (fun _ => ?_)
            · exact (State.goStage_keeps _ _ _ (keeps_set _ _ _ _ hx3.h))
            · exact hx3.h
        · refine keeps_ite (fun _ => ?_) (fun _ => ?_)
          · refine keeps_ite (fun _ => ?_) (fun _ => ?_)
            · exact (State.goStage_keeps _ _ _ hx5.h)
            · exact hx5.h
          · refine keeps_ite (fun _ => ?_) (fun _ => ?_)
            · exact (State.goStage_keeps _ _ _ hx6.h)
            · exact hx6.h

theorem State.setpoint_keeps {s00 : State} (s : State) (num base : Int) (h0 : Keeps s00 s) :
    Keeps11 s00 (State.setpoint s num base) := by
  refine keeps11_trans h0 ?_
  unfold State.setpoint
  lift_lets -useContext -merge -underBinder
  intro x0
  have hx0 : Keeps1 s x0 := (State.roundQ_keeps _ _ _ (Keeps.refl _))
  clear_value x0
  refine keeps11_ite (fun _ => ?_) (fun _ => ?_)
  · exact ⟨Keeps.snd (Keeps.refl _)⟩
  · refine keeps11_ite (fun _ => ?_) (fun _ => ?_)
    · exact ⟨Keeps.snd hx0.h⟩
    · exact ⟨Keeps.snd hx0.h⟩

theorem State.profWrite_keeps {s00 : State} (s : State) (l : Lane) (h0 : Keeps s00 s) :
    Keeps s00 (State.profWrite s l) := by
  refine keeps_trans h0 ?_
  unfold State.profWrite
  lift_lets -useContext -merge -underBinder
  intro x0 x1
  have hx1 : Keeps11 s x1 := (State.setpoint_keeps _ _ _ (Keeps.refl _))
  clear_value x1
  intro x2
  have hx2 : Keeps11 s x2 := (State.setpoint_keeps _ _ _ hx1.h)
  clear_value x2
  intro x3
  have hx3 : Keeps s x3 := (State.modLvp_keeps _ _ _ (keeps_when _ _ hx2.h (fun _ => (keeps_set _ _ _ _ (Keeps.refl _)))))
  clear_value x3
  refine keeps_ite (fun _ => ?_) (fun _ => ?_)
  · exact (State.hvcSet_keeps _ _ _ _ hx3)
  · exact hx3

theorem State.supplyShow_keeps {s00 : State} (s : State) (l : Lane) (vbat : Nat) (h0 : Keeps s00 s) :
    Keeps s00 (State.supplyShow s l vbat) := by
  refine keeps_trans h0 ?_
  unfold State.supplyShow
  lift_lets -useContext -merge -underBinder
  intro x0
  try clear_value x0
  intro x1
  try clear_value x1
  refine keeps_ite (fun _ => ?_) (fun _ => ?_)
  · exact (keeps_wrSat _ _ _ _ _ (keeps_put _ _ _ _ _ (Keeps.refl _)))
  · exact (Keeps.refl _)

theorem execLvpSample_keeps (l : Lane) (vbat vbus : Nat) (ip : Int) (s : State) : KeepsOut s (execLvpSample l vbat vbus ip s) := by
  unfold execLvpSample
  lift_lets -useContext -merge -underBinder
  intro x0 x1
  have hx1 : Keeps s x1 := (keeps_advTo _ (Keeps.refl _))
  clear_value x1
  intro x2
  have hx2 : Keeps s x2 := (State.supplyShow_keeps _ _ _ (State.tBatTake_keeps _ _ (keeps_wrS _ _ _ _ _ (keeps_wrSat _ _ _ _ _ (keeps_wrSat _ _ _ _ _ hx1)))))
  clear_value x2
  intro x3
  have hx3 : Keeps s x3 := (keeps_put _ _ _ _ _ hx2)
  clear_value x3
  intro x4
  have hx4 : Keeps s x4 := (State.modLvp_keeps _ _ _ hx3)
  clear_value x4
  intro x5
  try clear_value x5
  intro x6
  try clear_value x6
  intro x7
  try clear_value x7
  exact keepsOut_next (keeps_ite (fun _ => (keeps_ite (fun _ => (State.profStart_keeps _ _ (State.goPath_keeps _ _ _ _ hx4))) (fun _ => (keeps_ite (fun _ => (keeps_inc _ _ _ _ _ (State.isolate_keeps _ _ _ hx4))) (fun _ => (keeps_ite (fun _ => (State.isolate_keeps _ _ _ hx4)) (fun _ => hx4))))))) (fun _ => (Keeps.refl _)))

theorem execLvpHandover_keeps (l : Lane) (s : State) : KeepsOut s (execLvpHandover l s) := by
  unfold execLvpHandover
  lift_lets -useContext -merge -underBinder
  intro x0 x1
  try clear_value x1
  intro x2
  have hx2 : Keeps s x2 := (keeps_set _ _ _ _ (State.goStage_keeps _ _ _ (State.goPath_keeps _ _ _ _ (Keeps.refl _))))
  clear_value x2
  intro x3
  have hx3 : Keeps s x3 := (State.modLvp_keeps _ _ _ (keeps_inc _ _ _ _ _ hx2))
  clear_value x3
  exact keepsOut_next (keeps_ite (fun _ => (keeps_each _ _ hx3 (fun _ _ => (keeps_ite (fun _ => (State.hvcStep_keeps _ _ (Keeps.refl _))) (fun _ => (Keeps.refl _)))))) (fun _ => (Keeps.refl _)))

theorem execLvpHandoverEnd_keeps (l : Lane) (s : State) : KeepsOut s (execLvpHandoverEnd l s) := by
  unfold execLvpHandoverEnd
  lift_lets -useContext -merge -underBinder
  intro x0
  try clear_value x0
  intro x1
  try clear_value x1
  intro x2
  have hx2 : Keeps s x2 := (State.goPath_keeps _ _ _ _ (keeps_advTo _ (Keeps.refl _)))
  clear_value x2
  exact keepsOut_next (keeps_ite (fun _ => (State.modLvp_keeps _ _ _ (keeps_set _ _ _ _ hx2))) (fun _ => (Keeps.refl _)))

theorem execLvpRequalEnd_keeps (l : Lane) (s : State) : KeepsOut s (execLvpRequalEnd l s) := by
  unfold execLvpRequalEnd
  exact keepsOut_next (by
    split
    · lift_lets -useContext -merge -underBinder
      intro x0
      have hx0 : Keeps s x0 := (State.modLvp_keeps _ _ _ (keeps_clr _ _ _ _ (keeps_advTo _ (Keeps.refl _))))
      clear_value x0
      refine keeps_ite (fun _ => ?_) (fun _ => ?_)
      · exact (keeps_each _ _ hx0 (fun _ _ => (keeps_ite (fun _ => (State.hvcStep_keeps _ _ (Keeps.refl _))) (fun _ => (Keeps.refl _)))))
      · exact (Keeps.refl _)
    · exact (Keeps.refl _)
)

theorem execLvpCutoff_keeps (l : Lane) (s : State) : KeepsOut s (execLvpCutoff l s) := by
  unfold execLvpCutoff
  exact keepsOut_next (by
    split
    · lift_lets -useContext -merge -underBinder
      intro x0
      have hx0 : Keeps s x0 := (keeps_advTo _ (Keeps.refl _))
      clear_value x0
      intro x1
      have hx1 : Keeps s x1 := (State.modLvp_keeps _ _ _ (keeps_set _ _ _ _ hx0))
      clear_value x1
      refine keeps_ite (fun _ => ?_) (fun _ => ?_)
      · refine keeps_ite (fun _ => ?_) (fun _ => ?_)
        · refine keeps_ite (fun _ => ?_) (fun _ => ?_)
          · exact hx0
          · exact (keeps_when _ _ hx1 (fun _ => (State.log_keeps _ _ _ _ (Keeps.refl _))))
        · exact (State.isolate_keeps _ _ _ hx0)
      · exact (Keeps.refl _)
    · exact (Keeps.refl _)
)

theorem execLvpReconnect_keeps (l : Lane) (s : State) : KeepsOut s (execLvpReconnect l s) := by
  unfold execLvpReconnect
  exact keepsOut_next (keeps_ite (fun _ => (State.goPath_keeps _ _ _ _ (Keeps.refl _))) (fun _ => (Keeps.refl _)))

theorem execLvpProfileStep_keeps (l : Lane) (limiting : Bool) (s : State) : KeepsOut s (execLvpProfileStep l limiting s) := by
  unfold execLvpProfileStep
  lift_lets -useContext -merge -underBinder
  intro x0
  have hx0 : Keeps s x0 := (State.profWrite_keeps _ _ (State.stageMove_keeps _ _ _ (keeps_advTo _ (Keeps.refl _))))
  clear_value x0
  exact keepsOut_next (keeps_ite (fun _ => (State.modLvp_keeps _ _ _ hx0)) (fun _ => (Keeps.refl _)))

theorem execActUndervoltage_keeps (l : Lane) (vact : Nat) (s : State) : KeepsOut s (execActUndervoltage l vact s) := by
  unfold execActUndervoltage
  lift_lets -useContext -merge -underBinder
  intro x0 x1
  have hx1 : Keeps s x1 := (keeps_wrSat _ _ _ _ _ (Keeps.refl _))
  clear_value x1
  intro x2
  try clear_value x2
  exact keepsOut_next (keeps_ite (fun _ => (keeps_when _ _ hx1 (fun _ => (keeps_set _ _ _ _ (Keeps.refl _))))) (fun _ => (Keeps.refl _)))

theorem execVbat9vCrossing_keeps (l : Lane) (up : Bool) (s : State) : KeepsOut s (execVbat9vCrossing l up s) := by
  unfold execVbat9vCrossing
  lift_lets -useContext -merge -underBinder
  intro x0 x1
  try clear_value x1
  intro x2
  have hx2 : Keeps s x2 := (keeps_when _ _ (State.modPap_keeps _ _ _ (Keeps.refl _)) (fun _ => (keeps_set _ _ _ _ (Keeps.refl _))))
  clear_value x2
  exact keepsOut_next (keeps_ite (fun _ => (State.actSync_keeps _ _ (keeps_when _ _ hx2 (fun _ => (keeps_put _ _ _ _ _ (Keeps.refl _)))))) (fun _ => (Keeps.refl _)))


end Sys2Proof.Machine
end

