-- ==== Sys2Proof/Laws/KeepsDeputy.lean ====
section
/-!
SUPPORT. The operations of Machine/Deputy.lean keep what `Keeps` says (Laws/Keeps.lean).
-/
namespace Sys2Proof.Machine

theorem execAuthReqRaise_keeps (l : Lane) (s : State) : KeepsOut s (execAuthReqRaise l s) := by
  unfold execAuthReqRaise
  exact keepsOut_next (keeps_ite (fun _ => (State.grantLogic_keeps _ (keeps_set _ _ _ _ (Keeps.refl _)))) (fun _ => (Keeps.refl _)))

theorem execAuthReqDrop_keeps (l : Lane) (s : State) : KeepsOut s (execAuthReqDrop l s) := by
  unfold execAuthReqDrop
  lift_lets -useContext -merge -underBinder
  intro x0
  have hx0 : Keeps s x0 := (keeps_clr _ _ _ _ (keeps_clr _ _ _ _ (Keeps.refl _)))
  clear_value x0
  exact keepsOut_next (keeps_ite (fun _ => (State.grantLogic_keeps _ (State.removeGrant_keeps _ _ hx0))) (fun _ => (Keeps.refl _)))

theorem State.switchSetpoints_keeps {s00 : State} (s : State) (l : Lane) (h0 : Keeps s00 s) :
    Keeps s00 (State.switchSetpoints s l) := by
  refine keeps_trans h0 ?_
  unfold State.switchSetpoints
  refine keeps_ite (fun _ => ?_) (fun _ => ?_)
  · exact (State.hvcSet_keeps _ _ _ _ (Keeps.refl _))
  · exact (Keeps.refl _)

theorem execHoldGrant_keeps (s : State) : KeepsOut s (execHoldGrant s) := by
  unfold execHoldGrant
  lift_lets -useContext -merge -underBinder
  intro x0
  have hx0 : Keeps s x0 := (State.syncElig_keeps _ (keeps_advTo _ (Keeps.refl _)))
  clear_value x0
  exact keepsOut_next (keeps_ite (fun _ => (by
    split
    · exact (State.switchSetpoints_keeps _ _ (State.syncElig_keeps _ (State.returns_keeps _ (State.giveGrant_keeps _ _ hx0))))
    · exact hx0
)) (fun _ => (Keeps.refl _)))

theorem execHoldExpiry_keeps (s : State) : KeepsOut s (execHoldExpiry s) := by
  unfold execHoldExpiry
  lift_lets -useContext -merge -underBinder
  intro x0
  have hx0 : Keeps s x0 := (keeps_advTo _ (Keeps.refl _))
  clear_value x0
  intro x1
  have hx1 : Keeps s x1 := (keeps_inc _ _ _ _ _ (keeps_wr _ _ _ _ _ (keeps_set _ _ _ _ (keeps_wr _ _ _ _ _ hx0))))
  clear_value x1
  intro x2
  have hx2 : Keeps s x2 := (keeps_modDep _ (keeps_wrSat _ _ _ _ _ hx1))
  clear_value x2
  intro x3
  try clear_value x3
  intro x4
  have hx4 : Keeps s x4 := (Keeps.of_frame hx2 rfl rfl rfl rfl rfl)
  clear_value x4
  exact keepsOut_next (keeps_ite (fun _ => (State.grantLogic_keeps _ (keeps_each _ _ hx4 (fun _ _ => (State.groupRest_keeps _ _ (Keeps.refl _)))))) (fun _ => (Keeps.refl _)))

theorem State.replayDst_keeps {s00 : State} (s : State) (code : Nat) (on : Bool) (t : Int) (h0 : Keeps s00 s) :
    Keeps s00 (State.replayDst s code on t) := by
  refine keeps_trans h0 ?_
  unfold State.replayDst
  refine keeps_ite (fun _ => ?_) (fun _ => ?_)
  · split
    · exact (State.hoistCmd_keeps _ _ _ _ (Keeps.refl _))
    · exact (Keeps.refl _)
  · exact (Keeps.refl _)

theorem execHoldReplayEdge_keeps (c : Fin 64) (s : State) : KeepsOut s (execHoldReplayEdge c s) := by
  unfold execHoldReplayEdge
  exact keepsOut_next (by
    split
    · exact (Keeps.refl _)
    · refine keeps_ite (fun _ => ?_) (fun _ => ?_)
      · exact (Keeps.refl _)
      · split
        · exact (Keeps.refl _)
        · lift_lets -useContext -merge -underBinder
          intro x0
          have hx0 : Keeps s x0 := (State.advSteps_keeps _ _ (Keeps.refl _))
          clear_value x0
          intro x1
          try clear_value x1
          intro x2
          have hx2 : Keeps s x2 := (Keeps.of_frame hx0 rfl rfl rfl rfl rfl)
          clear_value x2
          intro x3
          have hx3 : Keeps s x3 := (State.replayDst_keeps _ _ _ _ hx2)
          clear_value x3
          refine keeps_ite (fun _ => ?_) (fun _ => ?_)
          · exact (State.replayDst_keeps _ _ _ _ (keeps_ite (fun _ => (State.replayDst_keeps _ _ _ _ hx2)) (fun _ => hx2)))
          · refine keeps_ite (fun _ => ?_) (fun _ => ?_)
            · exact (State.replayDst_keeps _ _ _ _ hx3)
            · exact hx3
)

theorem State.hbAccept_keeps {s00 : State} (s : State) (l : Lane) (seq : Nat) (interval : Option Nat) (h0 : Keeps s00 s) :
    Keeps s00 (State.hbAccept s l seq interval) := by
  refine keeps_trans h0 ?_
  unfold State.hbAccept
  lift_lets -useContext -merge -underBinder
  intro x0
  have hx0 : Keeps s x0 := (keeps_wr _ _ _ _ _ (Keeps.refl _))
  clear_value x0
  intro x1
  have hx1 : Keeps s x1 := by
    unfold x1
    split
    · exact (keeps_wrSat _ _ _ _ _ hx0)
    · exact hx0
  clear_value x1
  exact (keeps_modDepLane _ _ hx1)

theorem State.hbMiss_keeps {s00 : State} (s : State) (l : Lane) (h0 : Keeps s00 s) :
    Keeps s00 (State.hbMiss s l) := by
  refine keeps_trans h0 ?_
  unfold State.hbMiss
  exact (State.declare_keeps _ _ _ (keeps_inc _ _ _ _ _ (Keeps.refl _)))

theorem execHeartbeatWrite_keeps (l x : Lane) (seq : BitVec 8) (s : State) : KeepsOut s (execHeartbeatWrite l x seq s) := by
  unfold execHeartbeatWrite
  lift_lets -useContext -merge -underBinder
  intro x0
  try clear_value x0
  intro x1
  try clear_value x1
  intro x2
  try clear_value x2
  exact keepsOut_next (keeps_ite (fun _ => (Keeps.refl _)) (fun _ => (keeps_ite (fun _ => (State.accessError_keeps _ _ _ _ _ _ (Keeps.refl _))) (fun _ => (keeps_ite (fun _ => (State.accessError_keeps _ _ _ _ _ _ (Keeps.refl _))) (fun _ => (keeps_ite (fun _ => (Keeps.refl _)) (fun _ => (keeps_ite (fun _ => (keeps_ite (fun _ => (State.hbMiss_keeps _ _ (Keeps.refl _))) (fun _ => (State.hbAccept_keeps _ _ _ _ (Keeps.refl _))))) (fun _ => (keeps_ite (fun _ => (State.hbMiss_keeps _ _ (Keeps.refl _))) (fun _ => (keeps_ite (fun _ => (State.windowMiss_keeps _ _ (Keeps.refl _))) (fun _ => (State.hbAccept_keeps _ _ _ _ (Keeps.refl _))))))))))))))))

theorem execHeartbeatMiss_keeps (l : Lane) (s : State) : KeepsOut s (execHeartbeatMiss l s) := by
  unfold execHeartbeatMiss
  lift_lets -useContext -merge -underBinder
  intro x0
  try clear_value x0
  intro x1
  try clear_value x1
  exact keepsOut_next (keeps_ite (fun _ => (State.hbMiss_keeps _ _ (keeps_advTo _ (Keeps.refl _)))) (fun _ => (Keeps.refl _)))

theorem execDeputyAliveTick_keeps (s : State) : KeepsOut s (execDeputyAliveTick s) := by
  unfold execDeputyAliveTick
  lift_lets -useContext -merge -underBinder
  intro x0
  have hx0 : Keeps s x0 := (keeps_advTo _ (Keeps.refl _))
  clear_value x0
  intro x1
  have hx1 : Keeps s x1 := (keeps_wr _ _ _ _ _ hx0)
  clear_value x1
  exact keepsOut_next (keeps_ite (fun _ => (keeps_each _ _ hx1 (fun _ _ => (State.modSup_keeps _ _ _ (Keeps.refl _))))) (fun _ => (Keeps.refl _)))

theorem execDeputyPortSilent_keeps (l : Lane) (s : State) : KeepsOut s (execDeputyPortSilent l s) := by
  unfold execDeputyPortSilent
  lift_lets -useContext -merge -underBinder
  intro x0
  have hx0 : Keeps s x0 := (keeps_advTo _ (Keeps.refl _))
  clear_value x0
  exact keepsOut_next (keeps_ite (fun _ => (keeps_ite (fun _ => (State.declareDs_keeps _ _ hx0)) (fun _ => (State.modSup_keeps _ _ _ hx0)))) (fun _ => (Keeps.refl _)))

theorem execDsPartnerJudgement_keeps (l : Lane) (s : State) : KeepsOut s (execDsPartnerJudgement l s) := by
  unfold execDsPartnerJudgement
  exact keepsOut_next (by
    split
    · exact (Keeps.refl _)
    · lift_lets -useContext -merge -underBinder
      intro x0
      have hx0 : Keeps s x0 := (keeps_advTo _ (Keeps.refl _))
      clear_value x0
      refine keeps_ite (fun _ => ?_) (fun _ => ?_)
      · refine keeps_ite (fun _ => ?_) (fun _ => ?_)
        · exact (State.portFault_keeps _ _ hx0)
        · exact (State.declareDs_keeps _ _ hx0)
      · exact (Keeps.refl _)
)

theorem execPortFaultReset_keeps (l : Lane) (s : State) : KeepsOut s (execPortFaultReset l s) := by
  unfold execPortFaultReset
  lift_lets -useContext -merge -underBinder
  intro x0
  try clear_value x0
  exact keepsOut_next (keeps_ite (fun _ => (State.resetIsland_keeps _ _ _ (keeps_advTo _ (Keeps.refl _)))) (fun _ => (Keeps.refl _)))

theorem execDspDeclare_keeps (l : Lane) (cls : Fin 8) (s : State) : KeepsOut s (execDspDeclare l cls s) := by
  unfold execDspDeclare
  exact keepsOut_next (keeps_ite (fun _ => (Keeps.refl _)) (fun _ => (keeps_ite (fun _ => (State.accessError_keeps _ _ _ _ _ _ (Keeps.refl _))) (fun _ => (by
    split
    · refine keeps_ite (fun _ => ?_) (fun _ => ?_)
      · exact (State.laneDeclare_keeps _ _ _ (Keeps.refl _))
      · exact (State.accessError_keeps _ _ _ _ _ _ (Keeps.refl _))
    · exact (State.accessError_keeps _ _ _ _ _ _ (Keeps.refl _))
)))))

theorem execDegradedExpiry_keeps (s : State) : KeepsOut s (execDegradedExpiry s) := by
  unfold execDegradedExpiry
  lift_lets -useContext -merge -underBinder
  intro x0
  have hx0 : Keeps s x0 := (keeps_set _ _ _ _ (keeps_clr _ _ _ _ (keeps_advTo _ (Keeps.refl _))))
  clear_value x0
  intro x1
  have hx1 : Keeps s x1 := (keeps_clr _ _ _ _ (keeps_wr _ _ _ _ _ hx0))
  clear_value x1
  intro x2
  have hx2 : Keeps s x2 := (keeps_ite (fun _ => (State.stopControlled_keeps _ (keeps_set _ _ _ _ (keeps_clr _ _ _ _ (keeps_clr _ _ _ _ hx1))))) (fun _ => (State.syncImposed_keeps _ hx1)))
  clear_value x2
  exact keepsOut_next (keeps_ite (fun _ => (State.record_keeps _ _ _ _ _ hx2)) (fun _ => (Keeps.refl _)))

theorem execLaneDegradedExpiry_keeps (l : Lane) (s : State) : KeepsOut s (execLaneDegradedExpiry l s) := by
  unfold execLaneDegradedExpiry
  exact keepsOut_next (keeps_ite (fun _ => (State.laneForm_keeps _ _ (State.timExpire_keeps _ _ _ (Keeps.refl _)))) (fun _ => (Keeps.refl _)))

theorem execDegRemainSample_keeps (l : Lane) (s : State) : KeepsOut s (execDegRemainSample l s) := by
  unfold execDegRemainSample
  lift_lets -useContext -merge -underBinder
  intro x0
  have hx0 : Keeps s x0 := (keeps_advTo _ (Keeps.refl _))
  clear_value x0
  intro x1
  have hx1 : Keeps s x1 := (keeps_wr _ _ _ _ _ hx0)
  clear_value x1
  exact keepsOut_next (keeps_ite (fun _ => (State.modSup_keeps _ _ _ hx1)) (fun _ => (Keeps.refl _)))

theorem State.rampOpen_keeps {s00 : State} (s : State) (h0 : Keeps s00 s) :
    Keeps s00 (State.rampOpen s) := by
  refine keeps_trans h0 ?_
  unfold State.rampOpen
  lift_lets -useContext -merge -underBinder
  intro x0
  have hx0 : Keeps s x0 := (keeps_modDep _ (keeps_set _ _ _ _ (keeps_clr _ _ _ _ (Keeps.refl _))))
  clear_value x0
  exact (State.openFuncs_keeps _ _ hx0)

theorem State.ssCmd_keeps {s00 : State} (s : State) (l : Lane) (f : State → State) (h0 : Keeps s00 s)
    (hf2 : ∀ y0, Keeps y0 (f y0)) :
    Keeps s00 (State.ssCmd s l f) := by
  refine keeps_trans h0 ?_
  unfold State.ssCmd
  refine keeps_ite (fun _ => ?_) (fun _ => ?_)
  · exact (Keeps.refl _)
  · refine keeps_ite (fun _ => ?_) (fun _ => ?_)
    · exact (State.accessError_keeps _ _ _ _ _ _ (Keeps.refl _))
    · exact (Keeps.trans (Keeps.refl _) (hf2 _))

theorem execRampDone_keeps (l : Lane) (s : State) : KeepsOut s (execRampDone l s) := by
  unfold execRampDone
  exact keepsOut_next (State.ssCmd_keeps _ _ _ (Keeps.refl _) (fun _ => (keeps_ite (fun _ => (State.accessError_keeps _ _ _ _ _ _ (Keeps.refl _))) (fun _ => (keeps_ite (fun _ => (State.rampOpen_keeps _ (Keeps.refl _))) (fun _ => (Keeps.refl _)))))))

theorem execRampWindowExpiry_keeps (s : State) : KeepsOut s (execRampWindowExpiry s) := by
  unfold execRampWindowExpiry
  lift_lets -useContext -merge -underBinder
  intro x0
  try clear_value x0
  intro x1
  have hx1 : Keeps s x1 := (keeps_set _ _ _ _ (keeps_advTo _ (Keeps.refl _)))
  clear_value x1
  exact keepsOut_next (keeps_ite (fun _ => (State.record_keeps _ _ _ _ _ (State.rampOpen_keeps _ hx1))) (fun _ => (Keeps.refl _)))

theorem execBrakeApplied_keeps (l : Lane) (s : State) : KeepsOut s (execBrakeApplied l s) := by
  unfold execBrakeApplied
  exact keepsOut_next (State.ssCmd_keeps _ _ _ (Keeps.refl _) (fun _ => (keeps_ite (fun _ => (keeps_set _ _ _ _ (Keeps.refl _))) (fun _ => (Keeps.refl _)))))

theorem execBrakeWindowExpiry_keeps (s : State) : KeepsOut s (execBrakeWindowExpiry s) := by
  unfold execBrakeWindowExpiry
  lift_lets -useContext -merge -underBinder
  intro x0
  have hx0 : Keeps s x0 := (keeps_advTo _ (Keeps.refl _))
  clear_value x0
  intro x1
  try clear_value x1
  intro x2
  have hx2 : Keeps s x2 := (keeps_set _ _ _ _ (keeps_each _ _ hx0 (fun _ _ => (State.causeOf_keeps _ _ _ (State.clampCmd_keeps _ _ (Keeps.refl _))))))
  clear_value x2
  exact keepsOut_next (keeps_ite (fun _ => (keeps_ite (fun _ => hx0) (fun _ => (keeps_each _ _ hx2 (fun _ _ => (State.record_keeps _ _ _ _ _ (Keeps.refl _))))))) (fun _ => (Keeps.refl _)))


end Sys2Proof.Machine
end

