-- ==== Sys2Proof/Laws/KeepsHoistOps.lean ====
section
/-!
SUPPORT. The operations of Machine/HoistOps.lean keep what `Keeps` says (Laws/Keeps.lean).
-/
namespace Sys2Proof.Machine

theorem State.stageFault_keeps {s00 : State} (s : State) (n : Fin 40) (cause : Nat) (h0 : Keeps s00 s) :
    Keeps s00 (State.stageFault s n cause) := by
  refine keeps_trans h0 ?_
  unfold State.stageFault
  lift_lets -useContext -merge -underBinder
  intro x0
  try clear_value x0
  intro x1
  try clear_value x1
  intro x2
  try clear_value x2
  intro x3
  have hx3 : Keeps s x3 := (State.modLink_keeps _ _ _ (Keeps.refl _))
  clear_value x3
  refine keeps_ite (fun _ => ?_) (fun _ => ?_)
  · exact (Keeps.refl _)
  · exact (keeps_each _ _ hx3 (fun y4 y5 => (by
      lift_lets -useContext -merge -underBinder
      intro x6 x7
      have hx7 : Keeps y4 x7 := (keeps_inc _ _ _ _ _ (keeps_wr _ _ _ _ _ (keeps_wr _ _ _ _ _ (keeps_wr _ _ _ _ _ (Keeps.refl _)))))
      clear_value x7
      intro x8
      have hx8 : Keeps y4 x8 := (State.irq_keeps _ _ _ _ hx7)
      clear_value x8
      intro x9
      have hx9 : Keeps y4 x9 := (keeps_ite (fun _ => (State.logIf_keeps _ _ _ _ _ _ hx8)) (fun _ => hx8))
      clear_value x9
      refine keeps_ite (fun _ => ?_) (fun _ => ?_)
      · exact (State.tripSource_keeps _ _ _ _ hx9)
      · exact (Keeps.refl _)
)))

theorem State.hlgLost_keeps {s00 : State} (s : State) (n : Fin 40) (h0 : Keeps s00 s) :
    Keeps s00 (State.hlgLost s n) := by
  refine keeps_trans h0 ?_
  unfold State.hlgLost
  lift_lets -useContext -merge -underBinder
  intro x0
  have hx0 : Keeps s x0 := (State.modLink_keeps _ _ _ (Keeps.refl _))
  clear_value x0
  intro x1
  have hx1 : Keeps s x1 := (keeps_each _ _ hx0 (fun _ _ => (State.irq_keeps _ _ _ _ (Keeps.refl _))))
  clear_value x1
  refine keeps_ite (fun _ => ?_) (fun _ => ?_)
  · refine keeps_ite (fun _ => ?_) (fun _ => ?_)
    · exact (State.stageFault_keeps _ _ _ hx1)
    · exact hx1
  · exact (Keeps.refl _)

theorem State.trainBegin_keeps {s00 : State} (s : State) (l : Lane) (h0 : Keeps s00 s) :
    Keeps s00 (State.trainBegin s l) := by
  refine keeps_trans h0 ?_
  unfold State.trainBegin
  lift_lets -useContext -merge -underBinder
  intro x0 x1
  try clear_value x1
  intro x2
  try clear_value x2
  intro x3
  try clear_value x3
  intro x4
  try clear_value x4
  intro x5
  have hx5 : Keeps s x5 := (Keeps.of_frame (Keeps.refl _) rfl rfl rfl rfl rfl)
  clear_value x5
  exact (keeps_wr _ _ _ _ _ (keeps_wr _ _ _ _ _ (keeps_wr _ _ _ _ _ (keeps_set _ _ _ _ hx5))))

theorem State.trainEnd_keeps {s00 : State} (s : State) (h0 : Keeps s00 s) :
    Keeps s00 (State.trainEnd s) := by
  refine keeps_trans h0 ?_
  unfold State.trainEnd
  split
  · exact (Keeps.refl _)
  · lift_lets -useContext -merge -underBinder
    intro x0
    try clear_value x0
    intro x1
    try clear_value x1
    intro x2
    have hx2 : Keeps s x2 := (Keeps.of_frame (Keeps.refl _) rfl rfl rfl rfl rfl)
    clear_value x2
    refine keeps_ite (fun _ => ?_) (fun _ => ?_)
    · exact (Keeps.refl _)
    · exact (State.irq_keeps _ _ _ _ (keeps_clr _ _ _ _ hx2))

theorem State.trainFail_keeps {s00 : State} (s : State) (n : Fin 40) (result : Nat) (h0 : Keeps s00 s) :
    Keeps s00 (State.trainFail s n result) := by
  refine keeps_trans h0 ?_
  unfold State.trainFail
  lift_lets -useContext -merge -underBinder
  intro x0
  have hx0 : Keeps s x0 := (State.modLink_keeps _ _ _ (Keeps.refl _))
  clear_value x0
  split
  · exact hx0
  · lift_lets -useContext -merge -underBinder
    intro x1 x2
    have hx2 : Keeps s x2 := (keeps_ite (fun _ => (keeps_wr _ _ _ _ _ (keeps_wr _ _ _ _ _ hx0))) (fun _ => hx0))
    clear_value x2
    exact (State.trainEnd_keeps _ hx2)


end Sys2Proof.Machine
end

