-- ==== Sys2Proof/Laws/KeepsHoist.lean ====
section
/-!
SUPPORT. The operations of Machine/Hoist.lean keep what `Keeps` says (Laws/Keeps.lean).
-/
namespace Sys2Proof.Machine

theorem State.sendStep_keeps {s00 : State} (s : State) (n : Fin 40) (step : Nat) (nz : Noise) (h0 : Keeps s00 s) :
    Keeps s00 (State.sendStep s n step nz) := by
  refine keeps_trans h0 ?_
  unfold State.sendStep
  lift_lets -useContext -merge -underBinder
  intro x0
  try clear_value x0
  intro x1
  have hx1 : Keeps s x1 := (keeps_advTo _ (Keeps.refl _))
  clear_value x1
  refine keeps_ite (fun _ => ?_) (fun _ => ?_)
  · exact (State.modLink_keeps _ _ _ hx1)
  · exact (Keeps.refl _)

theorem execHoistSetSc_keeps (n : Fin 40) (nz : Noise) (s : State) : KeepsOut s (execHoistSetSc n nz s) := by
  unfold execHoistSetSc
  exact keepsOut_next (State.sendStep_keeps _ _ _ _ (Keeps.refl _))

theorem execHoistSetGate_keeps (n : Fin 40) (nz : Noise) (s : State) : KeepsOut s (execHoistSetGate n nz s) := by
  unfold execHoistSetGate
  exact keepsOut_next (State.sendStep_keeps _ _ _ _ (Keeps.refl _))

theorem execHoistSetLoss_keeps (n : Fin 40) (nz : Noise) (s : State) : KeepsOut s (execHoistSetLoss n nz s) := by
  unfold execHoistSetLoss
  exact keepsOut_next (State.sendStep_keeps _ _ _ _ (Keeps.refl _))

theorem execHoistRead_keeps (n : Fin 40) (nz : Noise) (s : State) : KeepsOut s (execHoistRead n nz s) := by
  unfold execHoistRead
  exact keepsOut_next (State.sendStep_keeps _ _ _ _ (Keeps.refl _))

theorem execHoistHlgTest_keeps (n : Fin 40) (nz : Noise) (seen : List (Fin 3 × Nat)) (s : State) : KeepsOut s (execHoistHlgTest n nz seen s) := by
  unfold execHoistHlgTest
  lift_lets -useContext -merge -underBinder
  intro x0
  have hx0 : Keeps s x0 := (State.sendStep_keeps _ _ _ _ (Keeps.refl _))
  clear_value x0
  intro x1
  have hx1 : Keeps s x1 := (keeps_advTo _ hx0)
  clear_value x1
  exact keepsOut_next (keeps_ite (fun _ => (keeps_ite (fun _ => (State.modLink_keeps _ _ _ hx1)) (fun _ => (State.trainFail_keeps _ _ _ hx1)))) (fun _ => (Keeps.refl _)))

theorem execHoistRun_keeps (n : Fin 40) (nz : Noise) (s : State) : KeepsOut s (execHoistRun n nz s) := by
  unfold execHoistRun
  exact keepsOut_next (State.sendStep_keeps _ _ _ _ (Keeps.refl _))

theorem execHoistAnswerTimeout_keeps (n : Fin 40) (nz : Noise) (s : State) : KeepsOut s (execHoistAnswerTimeout n nz s) := by
  unfold execHoistAnswerTimeout
  lift_lets -useContext -merge -underBinder
  intro x0
  try clear_value x0
  exact keepsOut_next (by
    split
    · lift_lets -useContext -merge -underBinder
      intro x1
      have hx1 : Keeps s x1 := (keeps_advTo _ (Keeps.refl _))
      clear_value x1
      intro x2
      have hx2 : Keeps s x2 := (State.modLink_keeps _ _ _ hx1)
      clear_value x2
      refine keeps_ite (fun _ => ?_) (fun _ => ?_)
      · exact (Keeps.refl _)
      · refine keeps_ite (fun _ => ?_) (fun _ => ?_)
        · split
          · refine keeps_ite (fun _ => ?_) (fun _ => ?_)
            · exact hx2
            · exact (keeps_inc _ _ _ _ _ hx2)
          · exact hx2
        · exact (State.trainFail_keeps _ _ _ (keeps_advTo _ (Keeps.refl _)))
    · exact (Keeps.refl _)
)

theorem State.linkCount_keeps {s00 : State} (s : State) (n : Fin 40) (f : Fld) (h0 : Keeps s00 s) :
    Keeps s00 (State.linkCount s n f) := by
  refine keeps_trans h0 ?_
  unfold State.linkCount
  exact (keeps_each _ _ (Keeps.refl _) (fun _ _ => (keeps_inc _ _ _ _ _ (Keeps.refl _))))

theorem State.uplinkBad_keeps {s00 : State} (s : State) (n : Fin 40) (h0 : Keeps s00 s) :
    Keeps s00 (State.uplinkBad s n) := by
  refine keeps_trans h0 ?_
  unfold State.uplinkBad
  exact (keeps_when _ _ (Keeps.refl _) (fun _ => (State.linkCount_keeps _ _ _ (Keeps.refl _))))

theorem State.acked_keeps {s00 : State} (s : State) (n : Fin 40) (code : Nat) (h0 : Keeps s00 s) :
    Keeps s00 (State.acked s n code) := by
  refine keeps_trans h0 ?_
  unfold State.acked
  split
  · exact (Keeps.refl _)
  · lift_lets -useContext -merge -underBinder
    intro x0
    have hx0 : Keeps s x0 := (State.modLink_keeps _ _ _ (Keeps.refl _))
    clear_value x0
    refine keeps_ite (fun _ => ?_) (fun _ => ?_)
    · refine keeps_ite (fun _ => ?_) (fun _ => ?_)
      · exact (State.trainEnd_keeps _ (keeps_ite (fun _ => hx0) (fun _ => (State.groupApply_keeps _ _ hx0))))
      · exact (State.modLink_keeps _ _ _ (Keeps.refl _))
    · exact (Keeps.refl _)

theorem execHoistAck_keeps (n : Fin 40) (f : UplinkFrame) (s : State) : KeepsOut s (execHoistAck n f s) := by
  unfold execHoistAck
  exact keepsOut_next (by
    split
    · refine keeps_ite (fun _ => ?_) (fun _ => ?_)
      · exact (State.acked_keeps _ _ _ (Keeps.refl _))
      · exact (Keeps.refl _)
    · exact (State.uplinkBad_keeps _ _ (Keeps.refl _))
)

theorem execHoistEcho_keeps (n : Fin 40) (f : UplinkFrame) (statusOk : Bool) (s : State) : KeepsOut s (execHoistEcho n f statusOk s) := by
  unfold execHoistEcho
  exact keepsOut_next (by
    split
    · refine keeps_ite (fun _ => ?_) (fun _ => ?_)
      · refine keeps_ite (fun _ => ?_) (fun _ => ?_)
        · exact (State.modLink_keeps _ _ _ (Keeps.refl _))
        · exact (State.trainFail_keeps _ _ _ (Keeps.refl _))
      · exact (Keeps.refl _)
    · exact (State.uplinkBad_keeps _ _ (Keeps.refl _))
)

theorem State.statusFaults_keeps {s00 : State} (s : State) (n : Fin 40) (flags : Nat) (h0 : Keeps s00 s) :
    Keeps s00 (State.statusFaults s n flags) := by
  refine keeps_trans h0 ?_
  unfold State.statusFaults
  lift_lets -useContext -merge -underBinder
  intro x0
  try clear_value x0
  intro x1
  have hx1 : Keeps s x1 := (keeps_when _ _ (Keeps.refl _) (fun _ => (State.stageFault_keeps _ _ _ (Keeps.refl _))))
  clear_value x1
  intro x3
  have hx3 : Keeps s x3 := (keeps_when _ _ hx1 (fun _ => (State.stageFault_keeps _ _ _ (Keeps.refl _))))
  clear_value x3
  intro x5
  have hx5 : Keeps s x5 := (keeps_when _ _ hx3 (fun _ => (State.stageFault_keeps _ _ _ (Keeps.refl _))))
  clear_value x5
  exact (keeps_when _ _ hx5 (fun _ => (State.stageFault_keeps _ _ _ (Keeps.refl _))))

theorem State.statusGate_keeps {s00 : State} (s : State) (n : Fin 40) (gate : Nat) (h0 : Keeps s00 s) :
    Keeps s00 (State.statusGate s n gate) := by
  refine keeps_trans h0 ?_
  unfold State.statusGate
  lift_lets -useContext -merge -underBinder
  intro x0
  try clear_value x0
  refine keeps_ite (fun _ => ?_) (fun _ => ?_)
  · refine keeps_ite (fun _ => ?_) (fun _ => ?_)
    · exact (State.modLink_keeps _ _ _ (Keeps.refl _))
    · refine keeps_ite (fun _ => ?_) (fun _ => ?_)
      · exact (State.hlgLost_keeps _ _ (Keeps.refl _))
      · exact (State.modLink_keeps _ _ _ (Keeps.refl _))
  · exact (Keeps.refl _)

theorem State.statusFrame_keeps {s00 : State} (s : State) (n : Fin 40) (temp flags gs : Nat) (h0 : Keeps s00 s) :
    Keeps s00 (State.statusFrame s n temp flags gs) := by
  refine keeps_trans h0 ?_
  unfold State.statusFrame
  lift_lets -useContext -merge -underBinder
  intro x0
  try clear_value x0
  intro x1
  try clear_value x1
  intro x2
  have hx2 : Keeps s x2 := (keeps_when _ _ (Keeps.refl _) (fun _ => (State.linkCount_keeps _ _ _ (Keeps.refl _))))
  clear_value x2
  intro x4
  have hx4 : Keeps s x4 := (State.modLink_keeps _ _ _ hx2)
  clear_value x4
  exact (State.statusGate_keeps _ _ _ (State.statusFaults_keeps _ _ _ hx4))

theorem execHoistStatus_keeps (n : Fin 40) (f : UplinkFrame) (s : State) : KeepsOut s (execHoistStatus n f s) := by
  unfold execHoistStatus
  exact keepsOut_next (by
    split
    · refine keeps_ite (fun _ => ?_) (fun _ => ?_)
      · exact (State.statusFrame_keeps _ _ _ _ _ (Keeps.refl _))
      · exact (Keeps.refl _)
    · exact (State.uplinkBad_keeps _ _ (Keeps.refl _))
)

theorem execHoistFault_keeps (n : Fin 40) (f : UplinkFrame) (s : State) : KeepsOut s (execHoistFault n f s) := by
  unfold execHoistFault
  exact keepsOut_next (by
    split
    · refine keeps_ite (fun _ => ?_) (fun _ => ?_)
      · split
        · exact (State.stageFault_keeps _ _ _ (Keeps.refl _))
        · exact (State.stageFault_keeps _ _ _ (Keeps.refl _))
        · exact (State.stageFault_keeps _ _ _ (Keeps.refl _))
        · exact (Keeps.refl _)
      · exact (Keeps.refl _)
    · exact (State.uplinkBad_keeps _ _ (Keeps.refl _))
)

theorem execHoistStatLoss_keeps (n : Fin 40) (s : State) : KeepsOut s (execHoistStatLoss n s) := by
  unfold execHoistStatLoss
  exact keepsOut_next (keeps_ite (fun _ => (State.stageFault_keeps _ _ _ (keeps_advTo _ (Keeps.refl _)))) (fun _ => (Keeps.refl _)))

theorem execHoistTick_keeps (s : State) : KeepsOut s (execHoistTick s) := by
  unfold execHoistTick
  exact keepsOut_next (keeps_ite (fun _ => (keeps_each _ _ (Keeps.refl _) (fun y0 y1 => (by
    lift_lets -useContext -merge -underBinder
    intro x2
    try clear_value x2
    refine keeps_ite (fun _ => ?_) (fun _ => ?_)
    · exact (State.modLink_keeps _ _ _ (Keeps.refl _))
    · exact (Keeps.refl _)
)))) (fun _ => (Keeps.refl _)))

theorem execHeadLinkLoss_keeps (n : Fin 40) (s : State) : KeepsOut s (execHeadLinkLoss n s) := by
  unfold execHeadLinkLoss
  lift_lets -useContext -merge -underBinder
  intro x0
  try clear_value x0
  exact keepsOut_next (by
    split
    · exact (State.modLink_keeps _ _ _ (State.advSteps_keeps _ _ (Keeps.refl _)))
    · exact (State.modLink_keeps _ _ _ (Keeps.refl _))
    · exact (Keeps.refl _)
)

theorem execHeadShortCircuit_keeps (n : Fin 40) (mv ns : Nat) (s : State) : KeepsOut s (execHeadShortCircuit n mv ns s) := by
  unfold execHeadShortCircuit
  lift_lets -useContext -merge -underBinder
  intro x0
  try clear_value x0
  exact keepsOut_next (by
    split
    · refine keeps_ite (fun _ => ?_) (fun _ => ?_)
      · exact (State.modLink_keeps _ _ _ (Keeps.refl _))
      · exact (Keeps.refl _)
    · exact (Keeps.refl _)
)

theorem execHeadGateSupplyLoss_keeps (n : Fin 40) (s : State) : KeepsOut s (execHeadGateSupplyLoss n s) := by
  unfold execHeadGateSupplyLoss
  exact keepsOut_next (State.modLink_keeps _ _ _ (Keeps.refl _))

theorem State.thirty_keeps {s00 : State} (s : State) (ns : Nat) (h0 : Keeps s00 s) :
    Keeps1 s00 (State.thirty s ns) := by
  refine keeps1_trans h0 ?_
  unfold State.thirty
  refine keeps1_ite (fun _ => ?_) (fun _ => ?_)
  · exact ⟨Keeps.snd (Keeps.refl _)⟩
  · refine keeps1_ite (fun _ => ?_) (fun _ => ?_)
    · exact ⟨Keeps.snd (Keeps.refl _)⟩
    · exact ⟨Keeps.snd (Keeps.of_frame (Keeps.refl _) rfl rfl rfl rfl rfl)⟩

theorem State.newCode_keeps {s00 : State} (s : State) (n : Fin 40) (code : Nat) (h0 : Keeps s00 s) :
    Keeps s00 (State.newCode s n code) := by
  refine keeps_trans h0 ?_
  unfold State.newCode
  refine keeps_ite (fun _ => ?_) (fun _ => ?_)
  · exact (Keeps.refl _)
  · exact (State.modLink_keeps _ _ _ (Keeps.refl _))

theorem execHlgCodeChange_keeps (n : Fin 40) (high : Bool) (held gap : Nat) (s : State) : KeepsOut s (execHlgCodeChange n high held gap s) := by
  unfold execHlgCodeChange
  lift_lets -useContext -merge -underBinder
  intro x0
  have hx0 : Keeps1 s x0 := (State.thirty_keeps _ _ (Keeps.refl _))
  clear_value x0
  intro x1
  have hx1 : Keeps1 s x1 := (State.thirty_keeps _ _ hx0.h)
  clear_value x1
  exact keepsOut_next (keeps_ite (fun _ => (keeps_ite (fun _ => (State.newCode_keeps _ _ _ hx0.h)) (fun _ => (keeps_ite (fun _ => hx1.h) (fun _ => (State.newCode_keeps _ _ _ hx1.h)))))) (fun _ => (Keeps.refl _)))

theorem execLegTurnOnRelease_keeps (n : Fin 40) (s : State) : KeepsOut s (execLegTurnOnRelease n s) := by
  unfold execLegTurnOnRelease
  lift_lets -useContext -merge -underBinder
  intro x0
  try clear_value x0
  exact keepsOut_next (by
    split
    · refine keeps_ite (fun _ => ?_) (fun _ => ?_)
      · exact (State.setDown_keeps _ _ _ (State.advSteps_keeps _ _ (Keeps.refl _)))
      · exact (Keeps.refl _)
    · lift_lets -useContext -merge -underBinder
      intro x1
      try clear_value x1
      intro x2
      try clear_value x2
      refine keeps_ite (fun _ => ?_) (fun _ => ?_)
      · exact (State.setDown_keeps _ _ _ (State.advSteps_keeps _ _ (Keeps.refl _)))
      · exact (Keeps.refl _)
)

theorem State.reportWithheld_keeps {s00 : State} (s : State) (l : Lane) (code : Nat) (h0 : Keeps s00 s) :
    Keeps s00 (State.reportWithheld s l code) := by
  refine keeps_trans h0 ?_
  unfold State.reportWithheld
  exact (keeps_each _ _ (Keeps.refl _) (fun y0 y1 => (keeps_ite (fun _ => (by
    lift_lets -useContext -merge -underBinder
    intro x2
    have hx2 : Keeps y0 x2 := (keeps_set _ _ _ _ (Keeps.refl _))
    clear_value x2
    refine keeps_ite (fun _ => ?_) (fun _ => ?_)
    · exact (State.report_keeps _ _ _ _ _ hx2)
    · exact hx2
)) (fun _ => (Keeps.refl _)))))

theorem execLegTurnOnWithhold_keeps (n : Fin 40) (s : State) : KeepsOut s (execLegTurnOnWithhold n s) := by
  unfold execLegTurnOnWithhold
  lift_lets -useContext -merge -underBinder
  intro x0
  try clear_value x0
  exact keepsOut_next (by
    split
    · exact (Keeps.refl _)
    · lift_lets -useContext -merge -underBinder
      intro x1
      try clear_value x1
      intro x2
      have hx2 : Keeps s x2 := (State.linkCount_keeps _ _ _ (State.modLink_keeps _ _ _ (State.advSteps_keeps _ _ (Keeps.refl _))))
      clear_value x2
      refine keeps_ite (fun _ => ?_) (fun _ => ?_)
      · split
        · exact (State.reportWithheld_keeps _ _ _ hx2)
        · exact hx2
      · exact (Keeps.refl _)
)

theorem execHenLow_keeps (g : Fin 8) (ns : Nat) (s : State) : KeepsOut s (execHenLow g ns s) := by
  unfold execHenLow
  lift_lets -useContext -merge -underBinder
  intro x0
  try clear_value x0
  intro x1
  have hx1 : Keeps s x1 := (keeps_ite (fun _ => (Keeps.of_frame (Keeps.refl _) rfl rfl rfl rfl rfl)) (fun _ => (Keeps.refl _)))
  clear_value x1
  intro x2
  try clear_value x2
  intro x3
  have hx3 : Keeps s x3 := (Keeps.of_frame hx1 rfl rfl rfl rfl rfl)
  clear_value x3
  intro x4
  try clear_value x4
  intro x5
  try clear_value x5
  exact keepsOut_next (keeps_ite (fun _ => (keeps_ite (fun _ => (State.groupSafe_keeps _ _ (Keeps.of_frame hx3 rfl rfl rfl rfl rfl))) (fun _ => hx3))) (fun _ => (Keeps.of_frame (Keeps.refl _) rfl rfl rfl rfl rfl)))

theorem State.clearGroup_keeps {s00 : State} (s : State) (g : Fin 8) (persist : List (Fin 40)) (h0 : Keeps s00 s) :
    Keeps s00 (State.clearGroup s g persist) := by
  refine keeps_trans h0 ?_
  unfold State.clearGroup
  lift_lets -useContext -merge -underBinder
  intro x0
  try clear_value x0
  intro x1
  have hx1 : Keeps s x1 := (keeps_each _ _ (Keeps.refl _) (fun _ _ => (State.modLink_keeps _ _ _ (Keeps.refl _))))
  clear_value x1
  intro x4
  have hx4 : Keeps s x4 := (keeps_each _ _ hx1 (fun _ _ => (keeps_ite (fun _ => (State.tripSource_keeps _ _ _ _ (keeps_inc _ _ _ _ _ (Keeps.refl _)))) (fun _ => (Keeps.refl _)))))
  clear_value x4
  exact (keeps_each _ _ hx4 (fun _ _ => (keeps_ite (fun _ => (State.stageFault_keeps _ _ _ (Keeps.refl _))) (fun _ => (Keeps.refl _)))))

theorem execHenRelease_keeps (g : Fin 8) (ns : Nat) (persist : List (Fin 40)) (s : State) : KeepsOut s (execHenRelease g ns persist s) := by
  unfold execHenRelease
  lift_lets -useContext -merge -underBinder
  intro x0
  try clear_value x0
  intro x1
  have hx1 : Keeps s x1 := (Keeps.of_frame (Keeps.refl _) rfl rfl rfl rfl rfl)
  clear_value x1
  intro x2
  have hx2 : Keeps s x2 := (keeps_ite (fun _ => (State.clearGroup_keeps _ _ _ hx1)) (fun _ => hx1))
  clear_value x2
  intro x3
  try clear_value x3
  exact keepsOut_next (keeps_ite (fun _ => (keeps_ite (fun _ => (State.groupApply_keeps _ _ hx2)) (fun _ => hx2))) (fun _ => (Keeps.of_frame (Keeps.refl _) rfl rfl rfl rfl rfl)))

theorem execHlkTrainStart_keeps (l : Lane) (s : State) : KeepsOut s (execHlkTrainStart l s) := by
  unfold execHlkTrainStart
  exact keepsOut_next (keeps_ite (fun _ => (keeps_ite (fun _ => (State.trainBegin_keeps _ _ (Keeps.refl _))) (fun _ => (keeps_wr _ _ _ _ _ (Keeps.refl _))))) (fun _ => (Keeps.refl _)))

theorem execHlkTrainAbort_keeps (l : Lane) (s : State) : KeepsOut s (execHlkTrainAbort l s) := by
  unfold execHlkTrainAbort
  lift_lets -useContext -merge -underBinder
  intro x0
  have hx0 : Keeps s x0 := (keeps_each _ _ (Keeps.refl _) (fun _ _ => (keeps_ite (fun _ => (State.modLink_keeps _ _ _ (Keeps.refl _))) (fun _ => (Keeps.refl _)))))
  clear_value x0
  exact keepsOut_next (keeps_ite (fun _ => (State.trainEnd_keeps _ (keeps_wr _ _ _ _ _ hx0))) (fun _ => (Keeps.refl _)))


end Sys2Proof.Machine
end

