-- ==== Sys2Proof/Laws/KeepsPd.lean ====
section
/-!
SUPPORT. The operations of Machine/Pd.lean keep what `Keeps` says (Laws/Keeps.lean).
-/
namespace Sys2Proof.Machine

theorem execPdGateError_keeps (l : Lane) (n : Fin 16) (hi : Bool) (v : BitVec 8) (s : State) : KeepsOut s (execPdGateError l n hi v s) := by
  unfold execPdGateError
  lift_lets -useContext -merge -underBinder
  intro x0 x1
  try clear_value x1
  intro x2
  have hx2 : Keeps s x2 := (keeps_wr _ _ _ _ _ (keeps_advTo _ (Keeps.refl _)))
  clear_value x2
  exact keepsOut_next (keeps_ite (fun _ => (State.irqOf_keeps _ _ _ _ _ (keeps_clr _ _ _ _ (keeps_inc _ _ _ _ _ (keeps_set _ _ _ _ hx2))))) (fun _ => (Keeps.refl _)))

theorem execPdTurnOnWithhold_keeps (l : Lane) (n : Fin 16) (hi : Bool) (s : State) : KeepsOut s (execPdTurnOnWithhold l n hi s) := by
  unfold execPdTurnOnWithhold
  lift_lets -useContext -merge -underBinder
  intro x0 x1
  try clear_value x1
  intro x2
  try clear_value x2
  exact keepsOut_next (keeps_ite (fun _ => (keeps_ite (fun _ => (keeps_inc _ _ _ _ _ (State.modHb_keeps _ _ _ _ (State.pdOff_keeps _ _ _ _ (State.pdOff_keeps _ _ _ _ (Keeps.refl _)))))) (fun _ => (keeps_ite (fun _ => (State.reportWithheld_keeps _ _ _ (keeps_inc _ _ _ _ _ (State.modHb_keeps _ _ _ _ (State.advSteps_keeps _ _ (Keeps.refl _)))))) (fun _ => (Keeps.refl _)))))) (fun _ => (Keeps.refl _)))

theorem State.pdRelease_keeps {s00 : State} (s : State) (l : Lane) (n : Fin 16) (hi : Bool) (h0 : Keeps s00 s) :
    Keeps s00 (State.pdRelease s l n hi) := by
  refine keeps_trans h0 ?_
  unfold State.pdRelease
  lift_lets -useContext -merge -underBinder
  intro x0
  try clear_value x0
  intro x1
  have hx1 : Keeps s x1 := (State.modHb_keeps _ _ _ _ (Keeps.refl _))
  clear_value x1
  intro x2
  have hx2 : Keeps s x2 := (keeps_ite (fun _ => (State.pdOn_keeps _ _ _ _ hx1)) (fun _ => hx1))
  clear_value x2
  intro x3
  try clear_value x3
  refine keeps_ite (fun _ => ?_) (fun _ => ?_)
  · exact (State.modHb_keeps _ _ _ _ (State.pdOff_keeps _ _ _ _ (keeps_advTo _ (State.pdOn_keeps _ _ _ _ (Keeps.refl _)))))
  · refine keeps_ite (fun _ => ?_) (fun _ => ?_)
    · refine keeps_ite (fun _ => ?_) (fun _ => ?_)
      · exact (State.pdOn_keeps _ _ _ _ hx2)
      · exact hx2
    · refine keeps_ite (fun _ => ?_) (fun _ => ?_)
      · refine keeps_ite (fun _ => ?_) (fun _ => ?_)
        · exact (Keeps.refl _)
        · exact (State.pdOn_keeps _ _ _ _ (State.advSteps_keeps _ _ (State.modHb_keeps _ _ _ _ (Keeps.refl _))))
      · exact (Keeps.refl _)

theorem execPdTurnOnRelease_keeps (l : Lane) (n : Fin 16) (hi : Bool) (v : BitVec 8) (held : Nat) (s : State) : KeepsOut s (execPdTurnOnRelease l n hi v held s) := by
  unfold execPdTurnOnRelease
  lift_lets -useContext -merge -underBinder
  intro x0 x1
  have hx1 : Keeps s x1 := (keeps_wr _ _ _ _ _ (Keeps.refl _))
  clear_value x1
  exact keepsOut_next (keeps_ite (fun _ => (keeps_ite (fun _ => (State.pdRelease_keeps _ _ _ _ hx1)) (fun _ => hx1))) (fun _ => (Keeps.refl _)))

theorem execBstUndervoltage_keeps (l : Lane) (n : Fin 16) (bst : BitVec 8) (s : State) : KeepsOut s (execBstUndervoltage l n bst s) := by
  unfold execBstUndervoltage
  lift_lets -useContext -merge -underBinder
  intro x0 x1
  have hx1 : Keeps s x1 := (keeps_set _ _ _ _ (keeps_wr _ _ _ _ _ (Keeps.refl _)))
  clear_value x1
  intro x2
  have hx2 : Keeps s x2 := (State.modHb_keeps _ _ _ _ (State.pdOff_keeps _ _ _ _ hx1))
  clear_value x2
  exact keepsOut_next (keeps_ite (fun _ => (State.pdFault_keeps _ _ _ (keeps_set _ _ _ _ hx2))) (fun _ => (Keeps.refl _)))

theorem execBootstrapLow_keeps (l : Lane) (n : Fin 16) (bst : BitVec 8) (s : State) : KeepsOut s (execBootstrapLow l n bst s) := by
  unfold execBootstrapLow
  lift_lets -useContext -merge -underBinder
  intro x0 x1
  try clear_value x1
  intro x2
  have hx2 : Keeps s x2 := (keeps_put _ _ _ _ _ (keeps_wr _ _ _ _ _ (Keeps.refl _)))
  clear_value x2
  exact keepsOut_next (keeps_ite (fun _ => (keeps_ite (fun _ => (State.irqOf_keeps _ _ _ _ _ (keeps_set _ _ _ _ hx2))) (fun _ => hx2))) (fun _ => (Keeps.refl _)))

theorem State.pdCleared_keeps {s00 : State} (s : State) (l : Lane) (n : Fin 16) (h0 : Keeps s00 s) :
    Keeps s00 (State.pdCleared s l n) := by
  refine keeps_trans h0 ?_
  unfold State.pdCleared
  lift_lets -useContext -merge -underBinder
  intro x0
  refine keeps_ite (fun _ => ?_) (fun _ => ?_)
  · exact (Keeps.refl _)
  · exact (State.tripSource_keeps _ _ _ _ (keeps_wrBit _ _ _ _ _ (Keeps.refl _)))

theorem State.pdClear_keeps {s00 : State} (s : State) (l : Lane) (n : Fin 16) (short uv : Bool) (h0 : Keeps s00 s) :
    Keeps s00 (State.pdClear s l n short uv) := by
  refine keeps_trans h0 ?_
  unfold State.pdClear
  lift_lets -useContext -merge -underBinder
  intro x0 x1
  try clear_value x1
  intro x2
  have hx2 : Keeps s x2 := (keeps_ite (fun _ => (keeps_ite (fun _ => (keeps_set _ _ _ _ (Keeps.refl _))) (fun _ => (State.modHb_keeps _ _ _ _ (keeps_clr _ _ _ _ (Keeps.refl _)))))) (fun _ => (Keeps.refl _)))
  clear_value x2
  intro x3
  have hx3 : Keeps s x3 := (keeps_ite (fun _ => (keeps_ite (fun _ => (keeps_set _ _ _ _ hx2)) (fun _ => (keeps_clr _ _ _ _ hx2)))) (fun _ => hx2))
  clear_value x3
  exact (State.pdCleared_keeps _ _ _ hx3)

theorem execPdFaultClear_keeps (l : Lane) (n : Fin 16) (short uv : Bool) (s : State) : KeepsOut s (execPdFaultClear l n short uv s) := by
  unfold execPdFaultClear
  exact keepsOut_next (keeps_ite (fun _ => (State.pdClear_keeps _ _ _ _ _ (Keeps.refl _))) (fun _ => (Keeps.refl _)))


end Sys2Proof.Machine
end

