-- ==== Sys2Proof/Laws/KeepsPwm.lean ====
section
/-!
SUPPORT. The operations of Machine/Pwm.lean keep what `Keeps` says (Laws/Keeps.lean).
-/
namespace Sys2Proof.Machine

theorem State.refreshPulses_keeps {s00 : State} (s : State) (l : Lane) (t : Fin 8) (h0 : Keeps s00 s) :
    Keeps s00 (State.refreshPulses s l t) := by
  refine keeps_trans h0 ?_
  unfold State.refreshPulses
  exact (keeps_each _ _ (Keeps.refl _) (fun y0 y1 => (by
    lift_lets -useContext -merge -underBinder
    intro x2
    try clear_value x2
    intro x3
    try clear_value x3
    refine keeps_ite (fun _ => ?_) (fun _ => ?_)
    · exact (keeps_inc _ _ _ _ _ (State.modHb_keeps _ _ _ _ (State.pdOff_keeps _ _ _ _ (Keeps.refl _))))
    · exact (Keeps.refl _)
)))

theorem State.releasePoint_keeps {s00 : State} (s : State) (l : Lane) (t : Fin 8) (h0 : Keeps s00 s) :
    Keeps s00 (State.releasePoint s l t) := by
  refine keeps_trans h0 ?_
  unfold State.releasePoint
  lift_lets -useContext -merge -underBinder
  intro x0
  have hx0 : Keeps s x0 := (keeps_each _ _ (Keeps.refl _) (fun y1 y2 => (by
    lift_lets -useContext -merge -underBinder
    intro x3
    try clear_value x3
    exact (keeps_when _ _ (Keeps.refl _) (fun _ => (State.releaseCh_keeps _ _ _ (Keeps.refl _))))
)))
  clear_value x0
  exact (keeps_each _ _ hx0 (fun _ _ => (State.settleTg_keeps _ _ _ (Keeps.refl _))))

theorem State.transferPoint_keeps {s00 : State} (s : State) (l : Lane) (t : Fin 8) (x : Int) (h0 : Keeps s00 s) :
    Keeps s00 (State.transferPoint s l t x) := by
  refine keeps_trans h0 ?_
  unfold State.transferPoint
  lift_lets -useContext -merge -underBinder
  intro x0 x1
  try clear_value x1
  intro x2
  try clear_value x2
  intro x3
  try clear_value x3
  intro x4
  have hx4 : Keeps s x4 := (State.event_keeps _ _ _ (State.modTb_keeps _ _ _ _ (State.advSteps_keeps _ _ (State.fireDue_keeps _ _ _ _ (Keeps.refl _)))))
  clear_value x4
  intro x5
  have hx5 : Keeps s x5 := (keeps_when _ _ hx4 (fun _ => (keeps_clr _ _ _ _ (Keeps.refl _))))
  clear_value x5
  intro x7
  try clear_value x7
  intro x8
  try clear_value x8
  intro x9
  try clear_value x9
  intro x10
  have hx10 : Keeps s x10 := (keeps_when _ _ hx5 (fun _ => (keeps_each _ _ (Keeps.refl _) (fun _ _ => (State.mirrorCh_keeps _ _ _ _ _ (Keeps.refl _))))))
  clear_value x10
  intro x14
  have hx14 : Keeps s x14 := (keeps_when _ _ hx10 (fun _ => (State.transferSet_keeps _ _ _ (Keeps.refl _))))
  clear_value x14
  intro x16
  have hx16 : Keeps s x16 := (keeps_when _ _ hx14 (fun _ => (State.irq_keeps _ _ _ _ (keeps_inc _ _ _ _ _ (keeps_set _ _ _ _ (Keeps.refl _))))))
  clear_value x16
  intro x18
  have hx18 : Keeps s x18 := (State.releasePoint_keeps _ _ _ hx16)
  clear_value x18
  intro x19
  have hx19 : Keeps s x19 := (keeps_each _ _ (State.nextPoint_keeps _ _ _ _ hx18) (fun _ _ => (State.placeCh_keeps _ _ _ _ _ _ (Keeps.refl _))))
  clear_value x19
  intro x22
  have hx22 : Keeps s x22 := (State.irq_keeps _ _ _ _ (State.planEvents_keeps _ _ _ _ _ hx19))
  clear_value x22
  exact (State.refreshPulses_keeps _ _ _ (State.muxReport_keeps _ _ _ hx22))

theorem execPwmTransferPoint_keeps (l : Lane) (t : Fin 8) (s : State) : KeepsOut s (execPwmTransferPoint l t s) := by
  unfold execPwmTransferPoint
  exact keepsOut_next (by
    split
    · refine keeps_ite (fun _ => ?_) (fun _ => ?_)
      · exact (State.transferPoint_keeps _ _ _ _ (Keeps.refl _))
      · exact (Keeps.refl _)
    · exact (Keeps.refl _)
)

theorem execPwmCommit_keeps (l : Lane) (t : Fin 8) (s : State) : KeepsOut s (execPwmCommit l t s) := by
  unfold execPwmCommit
  exact keepsOut_next (keeps_ite (fun _ => (keeps_set _ _ _ _ (Keeps.refl _))) (fun _ => (Keeps.refl _)))

theorem execPwmDiscard_keeps (l : Lane) (t : Fin 8) (s : State) : KeepsOut s (execPwmDiscard l t s) := by
  unfold execPwmDiscard
  lift_lets -useContext -merge -underBinder
  intro x0 x1
  have hx1 : Keeps s x1 := (keeps_wr _ _ _ _ _ (keeps_wr _ _ _ _ _ (Keeps.refl _)))
  clear_value x1
  intro x2
  have hx2 : Keeps s x2 := (keeps_each _ _ hx1 (fun _ _ => (keeps_ite (fun _ => (keeps_wr _ _ _ _ _ (keeps_wr _ _ _ _ _ (Keeps.refl _)))) (fun _ => (Keeps.refl _)))))
  clear_value x2
  exact keepsOut_next (keeps_ite (fun _ => (keeps_clr _ _ _ _ (keeps_clr _ _ _ _ hx2))) (fun _ => (Keeps.refl _)))

theorem State.syncPhase_keeps {s00 : State} (s : State) (l : Lane) (t : Fin 8) (h0 : Keeps s00 s) :
    Keeps1 s00 (State.syncPhase s l t) := by
  refine keeps1_trans h0 ?_
  unfold State.syncPhase
  lift_lets -useContext -merge -underBinder
  intro x0 x1
  try clear_value x1
  intro x2
  have hx2 : Keeps1 s x2 := (State.roundQ_keeps _ _ _ (Keeps.refl _))
  clear_value x2
  intro x3
  try clear_value x3
  intro x4
  have hx4 : Keeps s x4 := hx2.h
  clear_value x4
  refine keeps1_ite (fun _ => ?_) (fun _ => ?_)
  · exact ⟨Keeps.snd hx4⟩
  · exact ⟨Keeps.snd (Keeps.refl _)⟩

theorem State.syncLoad_keeps {s00 : State} (s : State) (l : Lane) (t : Fin 8) (h0 : Keeps s00 s) :
    Keeps s00 (State.syncLoad s l t) := by
  refine keeps_trans h0 ?_
  unfold State.syncLoad
  lift_lets -useContext -merge -underBinder
  intro x0
  have hx0 : Keeps1 s x0 := (State.syncPhase_keeps _ _ _ (Keeps.refl _))
  clear_value x0
  intro x1
  try clear_value x1
  intro x2
  have hx2 : Keeps s x2 := hx0.h
  clear_value x2
  intro x3
  try clear_value x3
  intro x4
  try clear_value x4
  intro x5
  try clear_value x5
  intro x6
  have hx6 : Keeps s x6 := (State.modTb_keeps _ _ _ _ hx2)
  clear_value x6
  refine keeps_ite (fun _ => ?_) (fun _ => ?_)
  · refine keeps_ite (fun _ => ?_) (fun _ => ?_)
    · exact hx6
    · exact (State.replaceTb_keeps _ _ _ hx6)
  · exact (keeps_when _ _ (State.loadTb_keeps _ _ _ _ _ hx6) (fun _ => (keeps_set _ _ _ _ (Keeps.refl _))))

theorem execPwmSyncLoad_keeps (l : Lane) (t : Fin 8) (s : State) : KeepsOut s (execPwmSyncLoad l t s) := by
  unfold execPwmSyncLoad
  exact keepsOut_next (keeps_ite (fun _ => (State.syncLoad_keeps _ _ _ (State.modTb_keeps _ _ _ _ (Keeps.refl _)))) (fun _ => (Keeps.refl _)))

theorem State.compareEvent_keeps {s00 : State} (s : State) (l : Lane) (c : Fin 64) (lv : Bool) (x : Int) (h0 : Keeps s00 s) :
    Keeps s00 (State.compareEvent s l c lv x) := by
  refine keeps_trans h0 ?_
  unfold State.compareEvent
  lift_lets -useContext -merge -underBinder
  intro x0
  have hx0 : Keeps s x0 := (State.advSteps_keeps _ _ (Keeps.refl _))
  clear_value x0
  intro x1
  try clear_value x1
  refine keeps_ite (fun _ => ?_) (fun _ => ?_)
  · exact hx0
  · split
    · exact (State.overlap_keeps _ _ _ _ hx0)
    · lift_lets -useContext -merge -underBinder
      intro x2
      try clear_value x2
      split
      · refine keeps_ite (fun _ => ?_) (fun _ => ?_)
        · exact (State.issue_keeps _ _ _ _ _ (State.filtered_keeps _ _ _ hx0))
        · exact (State.issue_keeps _ _ _ _ _ hx0)
      · exact (State.issue_keeps _ _ _ _ _ hx0)

theorem execPwmCompareEvent_keeps (l : Lane) (c : Fin 64) (on : Bool) (s : State) : KeepsOut s (execPwmCompareEvent l c on s) := by
  unfold execPwmCompareEvent
  lift_lets -useContext -merge -underBinder
  intro x0
  try clear_value x0
  exact keepsOut_next (keeps_ite (fun _ => (by
    split
    · exact (State.compareEvent_keeps _ _ _ _ _ (State.modCh_keeps _ _ _ _ (Keeps.refl _)))
    · split
      · exact (State.compareEvent_keeps _ _ _ _ _ (State.modCh_keeps _ _ _ _ (Keeps.refl _)))
      · exact (Keeps.refl _)
)) (fun _ => (Keeps.refl _)))

theorem State.engineEdge_keeps {s00 : State} (s : State) (l : Lane) (c : Fin 64) (x : Int) (lv : Bool) (h0 : Keeps s00 s) :
    Keeps s00 (State.engineEdge s l c x lv) := by
  refine keeps_trans h0 ?_
  unfold State.engineEdge
  lift_lets -useContext -merge -underBinder
  intro x0 x1
  have hx1 : Keeps s x1 := (State.advSteps_keeps _ _ (Keeps.refl _))
  clear_value x1
  refine keeps_ite (fun _ => ?_) (fun _ => ?_)
  · exact (State.report_keeps _ _ _ _ _ hx1)
  · split
    · exact (State.overlap_keeps _ _ _ _ hx1)
    · lift_lets -useContext -merge -underBinder
      intro x2
      try clear_value x2
      split
      · refine keeps_ite (fun _ => ?_) (fun _ => ?_)
        · refine keeps_ite (fun _ => ?_) (fun _ => ?_)
          · exact (State.report_keeps _ _ _ _ _ (State.issue_keeps _ _ _ _ _ (State.filtered_keeps _ _ _ hx1)))
          · exact (State.report_keeps _ _ _ _ _ (State.filtered_keeps _ _ _ hx1))
        · exact (State.report_keeps _ _ _ _ _ (State.issue_keeps _ _ _ _ _ hx1))
      · exact (State.report_keeps _ _ _ _ _ (State.issue_keeps _ _ _ _ _ hx1))

theorem execPwmEngineEdge_keeps (l : Lane) (c : Fin 64) (s : State) : KeepsOut s (execPwmEngineEdge l c s) := by
  unfold execPwmEngineEdge
  exact keepsOut_next (keeps_ite (fun _ => (by
    split
    · exact (State.engineEdge_keeps _ _ _ _ _ (State.modCh_keeps _ _ _ _ (Keeps.refl _)))
    · exact (Keeps.refl _)
)) (fun _ => (Keeps.refl _)))

theorem execPwmChannelEnable_keeps (l : Lane) (c : Fin 64) (en : Bool) (s : State) : KeepsOut s (execPwmChannelEnable l c en s) := by
  unfold execPwmChannelEnable
  exact keepsOut_next (keeps_ite (fun _ => (State.enableCh_keeps _ _ _ _ (Keeps.refl _))) (fun _ => (Keeps.refl _)))

theorem execTripSourceActive_keeps (l : Lane) (src : Fin 64) (s : State) : KeepsOut s (execTripSourceActive l src s) := by
  unfold execTripSourceActive
  exact keepsOut_next (State.tripSource_keeps _ _ _ _ (Keeps.refl _))

theorem execTripSourceInactive_keeps (l : Lane) (src : Fin 64) (s : State) : KeepsOut s (execTripSourceInactive l src s) := by
  unfold execTripSourceInactive
  exact keepsOut_next (State.tripSource_keeps _ _ _ _ (Keeps.refl _))

theorem execPwmTgForce_keeps (l : Lane) (groups : BitVec 16) (s : State) : KeepsOut s (execPwmTgForce l groups s) := by
  unfold execPwmTgForce
  exact keepsOut_next (keeps_ite (fun _ => (keeps_each _ _ (Keeps.refl _) (fun _ _ => (keeps_when _ _ (Keeps.refl _) (fun _ => (State.raiseTg_keeps _ _ _ _ _ (Keeps.refl _))))))) (fun _ => (Keeps.refl _)))

theorem execPwmTgClear_keeps (l : Lane) (groups : BitVec 16) (s : State) : KeepsOut s (execPwmTgClear l groups s) := by
  unfold execPwmTgClear
  exact keepsOut_next (keeps_ite (fun _ => (keeps_each _ _ (Keeps.refl _) (fun _ _ => (keeps_ite (fun _ => (keeps_ite (fun _ => (keeps_set _ _ _ _ (Keeps.refl _))) (fun _ => (State.clearTg_keeps _ _ _ (Keeps.refl _))))) (fun _ => (Keeps.refl _)))))) (fun _ => (Keeps.refl _)))

theorem execBlankWindowClose_keeps (l : Lane) (b : Fin 16) (s : State) : KeepsOut s (execBlankWindowClose l b s) := by
  unfold execBlankWindowClose
  exact keepsOut_next (by
    split
    · exact (Keeps.refl _)
    · lift_lets -useContext -merge -underBinder
      intro x0 x1
      have hx1 : Keeps s x1 := (State.modPwm_keeps _ _ _ (State.advSteps_keeps _ _ (Keeps.refl _)))
      clear_value x1
      exact (keeps_each _ _ hx1 (fun _ _ => (keeps_when _ _ (Keeps.refl _) (fun _ => (State.reach_keeps _ _ _ (Keeps.refl _))))))
)

theorem State.takeCh_keeps {s00 : State} (s : State) (l : Lane) (c : Fin 64) (h0 : Keeps s00 s) :
    Keeps s00 (State.takeCh s l c) := by
  refine keeps_trans h0 ?_
  unfold State.takeCh
  lift_lets -useContext -merge -underBinder
  intro x0
  try clear_value x0
  intro x1
  try clear_value x1
  intro x2
  try clear_value x2
  intro x3
  have hx3 : Keeps s x3 := (State.modCh_keeps _ _ _ _ (keeps_set _ _ _ _ (Keeps.refl _)))
  clear_value x3
  intro x4
  try clear_value x4
  intro x5
  have hx5 : Keeps s x5 := (Keeps.of_frame hx3 rfl rfl rfl rfl rfl)
  clear_value x5
  exact (State.redrive_keeps _ _ _ hx5)

theorem State.switchEnd_keeps {s00 : State} (s : State) (l : Lane) (h0 : Keeps s00 s) :
    Keeps s00 (State.switchEnd s l) := by
  refine keeps_trans h0 ?_
  unfold State.switchEnd
  lift_lets -useContext -merge -underBinder
  intro x0
  split
  · exact (Keeps.refl _)
  · lift_lets -useContext -merge -underBinder
    intro x1
    have hx1 : Keeps s x1 := (keeps_inc _ _ _ _ _ (keeps_put _ _ _ _ _ (keeps_put _ _ _ _ _ (keeps_put _ _ _ _ _ (Keeps.refl _)))))
    clear_value x1
    intro x2
    have hx2 : Keeps s x2 := (keeps_set _ _ _ _ (keeps_wrSat _ _ _ _ _ hx1))
    clear_value x2
    intro x3
    have hx3 : Keeps s x3 := (State.log_keeps _ _ _ _ (State.irq_keeps _ _ _ _ hx2))
    clear_value x3
    exact (keeps_modRun _ _ hx3 fun _ hr => hr)

theorem State.takeDone_keeps {s00 : State} (s : State) (l : Lane) (h0 : Keeps s00 s) :
    Keeps s00 (State.takeDone s l) := by
  refine keeps_trans h0 ?_
  unfold State.takeDone
  lift_lets -useContext -merge -underBinder
  intro x0 x1 x2
  try clear_value x2
  intro x3
  have hx3 : Keeps s x3 := (keeps_each _ _ (Keeps.refl _) (fun _ _ => (keeps_when _ _ (Keeps.refl _) (fun _ => (keeps_wrBit _ _ _ _ _ (Keeps.refl _))))))
  clear_value x3
  intro x7
  have hx7 : Keeps s x7 := (keeps_ite (fun _ => (State.irq_keeps _ _ _ _ (keeps_wrSat _ _ _ _ _ hx3))) (fun _ => hx3))
  clear_value x7
  refine keeps_ite (fun _ => ?_) (fun _ => ?_)
  · exact (State.switchEnd_keeps _ _ hx7)
  · exact hx7

theorem State.alignTb_keeps {s00 : State} (s : State) (l : Lane) (t : Fin 8) (h0 : Keeps s00 s) :
    Keeps s00 (State.alignTb s l t) := by
  refine keeps_trans h0 ?_
  unfold State.alignTb
  lift_lets -useContext -merge -underBinder
  intro x0 x1
  have hx1 : Keeps s x1 := by
    unfold x1
    split
    · exact (Keeps.refl _)
    · lift_lets -useContext -merge -underBinder
      intro x13
      try clear_value x13
      intro x14
      try clear_value x14
      intro x15
      try clear_value x15
      intro x16
      try clear_value x16
      intro x17
      try clear_value x17
      intro x18
      try clear_value x18
      intro x19
      try clear_value x19
      intro x20
      try clear_value x20
      intro x21
      have hx21 : Keeps s x21 := (State.modTb_keeps _ _ _ _ (Keeps.refl _))
      clear_value x21
      intro x22
      have hx22 : Keeps s x22 := (keeps_ite (fun _ => (keeps_ite (fun _ => hx21) (fun _ => (State.replaceTb_keeps _ _ _ hx21)))) (fun _ => (State.loadTb_keeps _ _ _ _ _ hx21)))
      clear_value x22
      exact (keeps_when _ _ hx22 (fun _ => (keeps_set _ _ _ _ (Keeps.refl _))))
  clear_value x1
  exact (keeps_wrBit _ _ _ _ _ hx1)

theorem State.alignCh_keeps {s00 : State} (s : State) (l : Lane) (t : Fin 8) (c : Fin 64) (h0 : Keeps s00 s) :
    Keeps s00 (State.alignCh s l t c) := by
  refine keeps_trans h0 ?_
  unfold State.alignCh
  lift_lets -useContext -merge -underBinder
  intro x0
  refine keeps_ite (fun _ => ?_) (fun _ => ?_)
  · split
    · exact (State.takeCh_keeps _ _ _ (Keeps.refl _))
    · lift_lets -useContext -merge -underBinder
      intro x1
      have hx1 : Keeps s x1 := (State.setLevel_keeps _ _ _ _ _ (Keeps.refl _))
      clear_value x1
      intro x2
      have hx2 : Keeps s x2 := by
        unfold x2
        split
        · exact (State.bandTake_keeps _ _ _ _ hx1)
        · exact hx1
      clear_value x2
      refine keeps_ite (fun _ => ?_) (fun _ => ?_)
      · exact (State.takeCh_keeps _ _ _ (keeps_ite (fun _ => hx2) (fun _ => (State.follow_keeps _ _ _ _ hx2))))
      · exact (Keeps.refl _)
  · exact (Keeps.refl _)

theorem execPwmGrantAlign_keeps (l : Lane) (s : State) : KeepsOut s (execPwmGrantAlign l s) := by
  unfold execPwmGrantAlign
  lift_lets -useContext -merge -underBinder
  intro x0
  have hx0 : Keeps s x0 := (keeps_each _ _ (Keeps.refl _) (fun _ _ => (keeps_ite (fun _ => (keeps_each _ _ (State.alignTb_keeps _ _ _ (Keeps.refl _)) (fun _ _ => (State.alignCh_keeps _ _ _ _ (Keeps.refl _))))) (fun _ => (Keeps.refl _)))))
  clear_value x0
  intro x5
  have hx5 : Keeps s x5 := (keeps_when _ _ hx0 (fun _ => (keeps_wrSat _ _ _ _ _ (Keeps.refl _))))
  clear_value x5
  exact keepsOut_next (keeps_ite (fun _ => (State.takeDone_keeps _ _ hx5)) (fun _ => (Keeps.refl _)))

theorem execPwmTakeover_keeps (l : Lane) (c : Fin 64) (s : State) : KeepsOut s (execPwmTakeover l c s) := by
  unfold execPwmTakeover
  lift_lets -useContext -merge -underBinder
  intro x0
  try clear_value x0
  exact keepsOut_next (keeps_ite (fun _ => (State.takeDone_keeps _ _ (State.takeCh_keeps _ _ _ (Keeps.refl _)))) (fun _ => (Keeps.refl _)))

theorem execPwmLateTakeover_keeps (l : Lane) (c : Fin 64) (s : State) : KeepsOut s (execPwmLateTakeover l c s) := by
  unfold execPwmLateTakeover
  lift_lets -useContext -merge -underBinder
  intro x0
  have hx0 : Keeps s x0 := (keeps_advTo _ (Keeps.refl _))
  clear_value x0
  exact keepsOut_next (keeps_ite (fun _ => (State.takeDone_keeps _ _ (State.takeCh_keeps _ _ _ (keeps_set _ _ _ _ hx0)))) (fun _ => (Keeps.refl _)))


end Sys2Proof.Machine
end

