-- ==== Sys2Proof/Laws/KeepsStartOps.lean ====
section
/-!
SUPPORT. The operations of Machine/StartOps.lean keep what `Keeps` says (Laws/Keeps.lean).
-/
namespace Sys2Proof.Machine

theorem State.modLamp_keeps {s00 : State} (s : State) (l : Lane) (f : LampRecord → LampRecord) (h0 : Keeps s00 s) :
    Keeps s00 (State.modLamp s l f) := by
  refine keeps_trans h0 ?_
  unfold State.modLamp
  exact (keeps_modNv _ _ (Keeps.refl _) (NvKeeps.of_eq rfl rfl rfl))

theorem State.lampOutcome_keeps {s00 : State} (s : State) (l : Lane) (n code : Nat) (h0 : Keeps s00 s) :
    Keeps s00 (State.lampOutcome s l n code) := by
  refine keeps_trans h0 ?_
  unfold State.lampOutcome
  exact (State.modLamp_keeps _ _ _ (Keeps.refl _))

theorem State.bootNext_keeps {s00 : State} (s : State) (l : Lane) (slot : Nat) (h0 : Keeps s00 s) :
    Keeps s00 (State.bootNext s l slot) := by
  refine keeps_trans h0 ?_
  unfold State.bootNext
  split
  · exact (Keeps.refl _)
  · refine keeps_ite (fun _ => ?_) (fun _ => ?_)
    · exact (keeps_wr _ _ _ _ _ (State.modLamp_keeps _ _ _ (Keeps.refl _)))
    · exact (Keeps.refl _)


end Sys2Proof.Machine
end

