-- ==== Sys2Proof/Laws/KeepsTherm.lean ====
section
/-!
SUPPORT. The operations of Machine/Therm.lean keep what `Keeps` says (Laws/Keeps.lean).
-/
namespace Sys2Proof.Machine

theorem State.modThm_keeps {s00 : State} (s : State) (l : Lane) (f : ThmSt → ThmSt) (h0 : Keeps s00 s) :
    Keeps s00 (State.modThm s l f) := by
  refine keeps_trans h0 ?_
  unfold State.modThm
  exact (keeps_modRun _ _ (Keeps.refl _) fun _ hr => hr)

theorem State.ntcSample_keeps {s00 : State} (s : State) (l : Lane) (n ratio : Nat) (h0 : Keeps s00 s) :
    Keeps s00 (State.ntcSample s l n ratio) := by
  refine keeps_trans h0 ?_
  unfold State.ntcSample
  lift_lets -useContext -merge -underBinder
  intro x0 x1
  try clear_value x1
  intro x2
  try clear_value x2
  intro x3
  have hx3 : Keeps s x3 := (keeps_put _ _ _ _ _ (keeps_put _ _ _ _ _ (keeps_put _ _ _ _ _ (Keeps.refl _))))
  clear_value x3
  refine keeps_ite (fun _ => ?_) (fun _ => ?_)
  · refine keeps_ite (fun _ => ?_) (fun _ => ?_)
    · exact (keeps_set _ _ _ _ hx3)
    · exact (keeps_wrS _ _ _ _ _ hx3)
  · exact (keeps_clr _ _ _ _ (Keeps.refl _))

theorem State.thmRead_keeps {s00 : State} (s : State) (l : Lane) (m : ThmSample) (h0 : Keeps s00 s) :
    Keeps0 s00 (State.thmRead s l m) := by
  refine keeps0_trans h0 ?_
  unfold State.thmRead
  lift_lets -useContext -merge -underBinder
  intro x0 x1
  try clear_value x1
  intro x2
  try clear_value x2
  intro x3
  have hx3 : Keeps s x3 := (keeps_each _ _ (Keeps.refl _) (fun y4 y5 => (by
    split
    · exact (keeps_set _ _ _ _ (keeps_wrS _ _ _ _ _ (Keeps.refl _)))
    · exact (keeps_clr _ _ _ _ (Keeps.refl _))
)))
  clear_value x3
  intro x6
  have hx6 : Keeps s x6 := (keeps_each _ _ hx3 (fun _ _ => (keeps_set _ _ _ _ (keeps_wrS _ _ _ _ _ (Keeps.refl _)))))
  clear_value x6
  intro x9
  have hx9 : Keeps s x9 := (keeps_ite (fun _ => (keeps_wrS _ _ _ _ _ (keeps_wrS _ _ _ _ _ hx6))) (fun _ => hx6))
  clear_value x9
  intro x10
  have hx10 : Keeps s x10 := (keeps_each _ _ hx9 (fun _ _ => (State.ntcSample_keeps _ _ _ _ (Keeps.refl _))))
  clear_value x10
  intro x13
  try clear_value x13
  exact ⟨Keeps.fst hx10⟩

theorem State.thmSeed_keeps {s00 : State} (s : State) (l : Lane) (rs : List (Nat × Int)) (h0 : Keeps s00 s) :
    Keeps s00 (State.thmSeed s l rs) := by
  refine keeps_trans h0 ?_
  unfold State.thmSeed
  refine keeps_ite (fun _ => ?_) (fun _ => ?_)
  · exact (Keeps.refl _)
  · split
    · exact (Keeps.refl _)
    · exact (State.modThm_keeps _ _ _ (keeps_set _ _ _ _ (Keeps.refl _)))

theorem State.thmModel_keeps {s00 : State} (s : State) (l : Lane) (rs : List (Nat × Int)) (ts : Nat) (m : Fin 4) (h0 : Keeps s00 s) :
    Keeps0 s00 (State.thmModel s l rs ts m) := by
  refine keeps0_trans h0 ?_
  unfold State.thmModel
  lift_lets -useContext -merge -underBinder
  intro x0
  split
  · lift_lets -useContext -merge -underBinder
    intro x1
    try clear_value x1
    intro x2
    try clear_value x2
    intro x3
    try clear_value x3
    intro x4
    try clear_value x4
    intro x5
    have hx5 : Keeps1 s x5 := (State.quot_keeps _ _ _ (Keeps.refl _))
    clear_value x5
    intro x6
    try clear_value x6
    intro x7
    have hx7 : Keeps s x7 := hx5.h
    clear_value x7
    intro x8
    have hx8 : Keeps s x8 := (State.modThm_keeps _ _ _ hx7)
    clear_value x8
    intro x9
    have hx9 : Keeps1 s x9 := (State.quot_keeps _ _ _ hx8)
    clear_value x9
    intro x10
    try clear_value x10
    intro x11
    have hx11 : Keeps s x11 := hx9.h
    clear_value x11
    refine keeps0_ite (fun _ => ?_) (fun _ => ?_)
    · exact ⟨Keeps.fst (keeps_wrS _ _ _ _ _ hx11)⟩
    · exact ⟨Keeps.fst (Keeps.refl _)⟩
  · exact ⟨Keeps.fst (Keeps.refl _)⟩

theorem State.thmModels_keeps {s00 : State} (s : State) (l : Lane) (rs : List (Nat × Int)) (ts : Nat) (h0 : Keeps s00 s) :
    Keeps0 s00 (s.thmModels l rs ts) := by
  unfold State.thmModels
  suffices h : ∀ (ks : List (Fin 4)) (a : State × List (Nat × Int)), Keeps s00 a.1 →
      Keeps0 s00 (ks.foldl (fun (a : State × List (Nat × Int)) (k : Fin 4) =>
        let b := a.1.thmModel l rs ts k
        (b.1, a.2 ++ b.2)) a) from h _ _ h0
  intro ks
  induction ks with
  | nil => exact fun a h => ⟨h⟩
  | cons k r ih => exact fun a h => ih _ (State.thmModel_keeps a.1 l rs ts k h).h

theorem State.classK_keeps {s00 : State} (s : State) (l : Lane) (c : Nat) (t : Int) (h0 : Keeps s00 s) :
    Keeps1 s00 (State.classK s l c t) := by
  refine keeps1_trans h0 ?_
  unfold State.classK
  lift_lets -useContext -merge -underBinder
  intro x0
  try clear_value x0
  intro x1
  try clear_value x1
  refine keeps1_ite (fun _ => ?_) (fun _ => ?_)
  · exact ⟨Keeps.snd (Keeps.refl _)⟩
  · refine keeps1_ite (fun _ => ?_) (fun _ => ?_)
    · exact ⟨Keeps.snd (Keeps.refl _)⟩
    · exact (State.quot_keeps _ _ _ (Keeps.refl _))

theorem State.kThm_keeps {s00 : State} (l : Lane) (rs : List (Nat × Int)) : ∀ (cs : List Nat) (best : Int × Nat) (s : State)
    (_ : Keeps s00 s), Keeps1 s00 (s.kThm l rs cs best)
  | [], _, _, h => ⟨h⟩
  | c :: r, best, s, h => by
    unfold State.kThm
    split
    · split
      · exact State.kThm_keeps l rs r best s h
      · exact State.kThm_keeps l rs r _ _ (State.classK_keeps s l c _ h).h
    · exact State.kThm_keeps l rs r best s h

theorem State.throttle_keeps {s00 : State} (s : State) (l : Lane) (rs : List (Nat × Int)) (h0 : Keeps s00 s) :
    Keeps s00 (State.throttle s l rs) := by
  refine keeps_trans h0 ?_
  unfold State.throttle
  lift_lets -useContext -merge -underBinder
  intro x0 x1
  have hx1 : Keeps1 s x1 := (State.kThm_keeps _ _ _ _ _ (Keeps.refl _))
  clear_value x1
  intro x2
  try clear_value x2
  intro x3
  have hx3 : Keeps s x3 := (keeps_wr _ _ _ _ _ (keeps_wr _ _ _ _ _ hx1.h))
  clear_value x3
  intro x4
  try clear_value x4
  intro x5
  have hx5 : Keeps s x5 := (keeps_put _ _ _ _ _ hx3)
  clear_value x5
  exact (keeps_when _ _ hx5 (fun _ => (State.logIf_keeps _ _ _ _ _ _ (State.irq_keeps _ _ _ _ (keeps_inc _ _ _ _ _ (keeps_set _ _ _ _ (Keeps.refl _)))))))

theorem State.thmWarn_keeps {s00 : State} (s : State) (l : Lane) (rs : List (Nat × Int)) (h0 : Keeps s00 s) :
    Keeps s00 (State.thmWarn s l rs) := by
  refine keeps_trans h0 ?_
  unfold State.thmWarn
  lift_lets -useContext -merge -underBinder
  intro x0 x1
  try clear_value x1
  intro x2 x3
  have hx3 : Keeps s x3 := (keeps_put _ _ _ _ _ (keeps_put _ _ _ _ _ (Keeps.refl _)))
  clear_value x3
  intro x4
  have hx4 : Keeps s x4 := (keeps_when _ _ hx3 (fun _ => (State.irq_keeps _ _ _ _ (keeps_set _ _ _ _ (Keeps.refl _)))))
  clear_value x4
  exact (keeps_when _ _ hx4 (fun _ => (State.irq_keeps _ _ _ _ (keeps_set _ _ _ _ (Keeps.refl _)))))

theorem State.thmFast_keeps {s00 : State} (s : State) (l : Lane) (rs : List (Nat × Int)) (h0 : Keeps s00 s) :
    Keeps s00 (State.thmFast s l rs) := by
  refine keeps_trans h0 ?_
  unfold State.thmFast
  lift_lets -useContext -merge -underBinder
  intro x0 x1 x2
  try clear_value x2
  intro x3
  try clear_value x3
  intro x4
  try clear_value x4
  intro x5
  have hx5 : Keeps s x5 := (State.modThm_keeps _ _ _ (Keeps.refl _))
  clear_value x5
  refine keeps_ite (fun _ => ?_) (fun _ => ?_)
  · refine keeps_ite (fun _ => ?_) (fun _ => ?_)
    · exact hx5
    · exact (keeps_inc _ _ _ _ _ (keeps_set _ _ _ _ hx5))
  · split
    · refine keeps_ite (fun _ => ?_) (fun _ => ?_)
      · exact (keeps_clr _ _ _ _ hx5)
      · exact hx5
    · exact hx5

theorem State.thmTrim_keeps {s00 : State} (s : State) (l : Lane) (m : ThmSample) (h0 : Keeps s00 s) :
    Keeps s00 (State.thmTrim s l m) := by
  refine keeps_trans h0 ?_
  unfold State.thmTrim
  lift_lets -useContext -merge -underBinder
  intro x0
  have hx0 : Keeps s x0 := (State.modThm_keeps _ _ _ (Keeps.refl _))
  clear_value x0
  intro x1
  have hx1 : Keeps s x1 := (keeps_set _ _ _ _ hx0)
  clear_value x1
  exact (keeps_when _ _ hx1 (fun _ => (keeps_modDep _ (Keeps.refl _))))

theorem State.refTrimStep_keeps {s00 : State} (s : State) (l : Lane) (h0 : Keeps s00 s) :
    Keeps s00 (State.refTrimStep s l) := by
  refine keeps_trans h0 ?_
  unfold State.refTrimStep
  exact (State.modThm_keeps _ _ _ (Keeps.refl _))

theorem execThmSample_keeps (l : Lane) (m : ThmSample) (s : State) : KeepsOut s (execThmSample l m s) := by
  unfold execThmSample
  lift_lets -useContext -merge -underBinder
  intro x0 x1
  try clear_value x1
  intro x2
  have hx2 : Keeps s x2 := by
    unfold x2
    split
    · exact (State.modThm_keeps _ _ _ (Keeps.refl _))
    · exact (keeps_advTo _ (Keeps.refl _))
  clear_value x2
  intro x3
  have hx3 : Keeps0 s x3 := (State.thmRead_keeps _ _ _ hx2)
  clear_value x3
  intro x4
  have hx4 : Keeps s x4 := (State.thmSeed_keeps _ _ _ hx3.h)
  clear_value x4
  intro x5
  have hx5 : Keeps0 s x5 := (State.thmModels_keeps _ _ _ _ hx4)
  clear_value x5
  intro x6
  try clear_value x6
  intro x7
  have hx7 : Keeps s x7 := hx5.h
  clear_value x7
  intro x8
  have hx8 : Keeps s x8 := by
    unfold x8
    split
    · exact (keeps_wr _ _ _ _ _ (keeps_wrS _ _ _ _ _ hx7))
    · exact hx7
  clear_value x8
  intro x9
  have hx9 : Keeps s x9 := by
    unfold x9
    split
    · exact (keeps_wr _ _ _ _ _ (keeps_wrS _ _ _ _ _ hx8))
    · exact hx8
  clear_value x9
  intro x10
  have hx10 : Keeps s x10 := (State.thmFast_keeps _ _ _ (State.throttle_keeps _ _ _ (State.thmWarn_keeps _ _ _ hx9)))
  clear_value x10
  intro x11
  have hx11 : Keeps s x11 := (State.modThm_keeps _ _ _ hx10)
  clear_value x11
  exact keepsOut_next (keeps_ite (fun _ => (Keeps.refl _)) (fun _ => (State.thmTrim_keeps _ _ _ hx11)))

theorem State.recordShut_keeps {s00 : State} (s : State) (l : Lane) (sensor : Nat) (h0 : Keeps s00 s) :
    Keeps s00 (State.recordShut s l sensor) := by
  refine keeps_trans h0 ?_
  unfold State.recordShut
  refine keeps_ite (fun _ => ?_) (fun _ => ?_)
  · exact (keeps_wr _ _ _ _ _ (keeps_inc _ _ _ _ _ (Keeps.refl _)))
  · exact (Keeps.refl _)

theorem State.islandShut_keeps {s00 : State} (s : State) (l : Lane) (sensor : Nat) (h0 : Keeps s00 s) :
    Keeps s00 (State.islandShut s l sensor) := by
  refine keeps_trans h0 ?_
  unfold State.islandShut
  lift_lets -useContext -merge -underBinder
  intro x0
  have hx0 : Keeps s x0 := (State.modPap_keeps _ _ _ (State.recordShut_keeps _ _ _ (Keeps.refl _)))
  clear_value x0
  intro x1
  have hx1 : Keeps s x1 := (State.windingsOff_keeps _ _ (keeps_clr _ _ _ _ (keeps_clr _ _ _ _ (keeps_wr _ _ _ _ _ (keeps_clr _ _ _ _ hx0)))))
  clear_value x1
  refine keeps_ite (fun _ => ?_) (fun _ => ?_)
  · exact (State.modPap_keeps _ _ _ (Keeps.refl _))
  · refine keeps_ite (fun _ => ?_) (fun _ => ?_)
    · exact (Keeps.refl _)
    · exact (State.islandFault_keeps _ _ _ hx1)

theorem execThermalShutdown_keeps (sensor : HotSensor) (s : State) : KeepsOut s (execThermalShutdown sensor s) := by
  unfold execThermalShutdown
  exact keepsOut_next (by
    split
    · exact (State.islandShut_keeps _ _ _ (Keeps.refl _))
    · lift_lets -useContext -merge -underBinder
      intro x0
      have hx0 : Keeps s x0 := (keeps_each _ _ (Keeps.refl _) (fun _ _ => (State.recordShut_keeps _ _ _ (Keeps.refl _))))
      clear_value x0
      refine keeps_ite (fun _ => ?_) (fun _ => ?_)
      · exact (keeps_modDep _ (State.depGone_keeps _ _ hx0))
      · exact (keeps_modDep _ (Keeps.refl _))
)

theorem execThermalRelease_keeps (isl : Option Lane) (s : State) : KeepsOut s (execThermalRelease isl s) := by
  unfold execThermalRelease
  exact keepsOut_next (by
    split
    · lift_lets -useContext -merge -underBinder
      intro x0
      have hx0 : Keeps s x0 := (State.modPap_keeps _ _ _ (keeps_advTo _ (Keeps.refl _)))
      clear_value x0
      intro x1
      have hx1 : Keeps s x1 := (keeps_wrBit _ _ _ _ _ (keeps_set _ _ _ _ (State.setSupplies_keeps _ _ _ (State.setIsland_keeps _ _ _ hx0))))
      clear_value x1
      refine keeps_ite (fun _ => ?_) (fun _ => ?_)
      · exact (keeps_set _ _ _ _ hx1)
      · exact (Keeps.refl _)
    · split
      · exact (keeps_modDep _ (keeps_advTo _ (Keeps.refl _)))
      · exact (Keeps.refl _)
)


end Sys2Proof.Machine
end

