-- ==== Sys2Proof/Laws/KeepsBrake.lean ====
section
/-!
SUPPORT. The operations of Machine/Brake.lean keep what `Keeps` says (Laws/Keeps.lean).
-/
namespace Sys2Proof.Machine

theorem State.modClamp_keeps {s00 : State} (s : State) (l : Lane) (f : ClampSt → ClampSt) (h0 : Keeps s00 s) :
    Keeps s00 (State.modClamp s l f) := by
  refine keeps_trans h0 ?_
  unfold State.modClamp
  exact (State.modPap_keeps _ _ _ (Keeps.refl _))

theorem State.windGates_keeps {s00 : State} (s : State) (l : Lane) (mask : Nat) (h0 : Keeps s00 s) :
    Keeps s00 (State.windGates s l mask) := by
  refine keeps_trans h0 ?_
  unfold State.windGates
  lift_lets -useContext -merge -underBinder
  intro x0 x1
  have hx1 : Keeps s x1 := (State.modPap_keeps _ _ _ (Keeps.refl _))
  clear_value x1
  exact (keeps_each _ _ hx1 (fun _ _ => (keeps_put _ _ _ _ _ (keeps_clr _ _ _ _ (Keeps.refl _)))))

theorem State.showDuty_keeps {s00 : State} (s : State) (l : Lane) (h0 : Keeps s00 s) :
    Keeps s00 (State.showDuty s l) := by
  refine keeps_trans h0 ?_
  unfold State.showDuty
  lift_lets -useContext -merge -underBinder
  intro x0
  try clear_value x0
  intro x1
  have hx1 : Keeps1 s x1 := (State.quot_keeps _ _ _ (Keeps.refl _))
  clear_value x1
  exact (keeps_wr _ _ _ _ _ hx1.h)

theorem State.windOff_keeps {s00 : State} (s : State) (l : Lane) (m : Nat) (h0 : Keeps s00 s) :
    Keeps s00 (State.windOff s l m) := by
  refine keeps_trans h0 ?_
  unfold State.windOff
  lift_lets -useContext -merge -underBinder
  intro x0 x1
  have hx1 : Keeps s x1 := (State.modPap_keeps _ _ _ (Keeps.refl _))
  clear_value x1
  exact (keeps_each _ _ hx1 (fun _ _ => (keeps_ite (fun _ => (keeps_clr _ _ _ _ (keeps_clr _ _ _ _ (Keeps.refl _)))) (fun _ => (Keeps.refl _)))))

theorem State.brakeEnd_keeps {s00 : State} (s : State) (l : Lane) (h0 : Keeps s00 s) :
    Keeps s00 (State.brakeEnd s l) := by
  refine keeps_trans h0 ?_
  unfold State.brakeEnd
  refine keeps_ite (fun _ => ?_) (fun _ => ?_)
  · exact (State.modClamp_keeps _ _ _ (keeps_clr _ _ _ _ (keeps_clr _ _ _ _ (State.windOff_keeps _ _ _ (Keeps.refl _)))))
  · exact (Keeps.refl _)

theorem execClampCommand_keeps (l : Lane) (s : State) : KeepsOut s (execClampCommand l s) := by
  unfold execClampCommand
  lift_lets -useContext -merge -underBinder
  intro x0 x1
  try clear_value x1
  intro x2
  have hx2 : Keeps s x2 := (keeps_inc _ _ _ _ _ (State.brakeEnd_keeps _ _ (keeps_advTo _ (Keeps.refl _))))
  clear_value x2
  intro x3
  try clear_value x3
  intro x4
  have hx4 : Keeps s x4 := by
    unfold x4
    split
    · lift_lets -useContext -merge -underBinder
      intro x6
      try clear_value x6
      exact (State.windGates_keeps _ _ _ (keeps_wr _ _ _ _ _ (State.modClamp_keeps _ _ _ hx2)))
    · exact (State.windGates_keeps _ _ _ (keeps_wr _ _ _ _ _ (State.modClamp_keeps _ _ _ hx2)))
  clear_value x4
  exact keepsOut_next (keeps_ite (fun _ => (State.actSync_keeps _ _ (State.showDuty_keeps _ _ (keeps_set _ _ _ _ (keeps_set _ _ _ _ hx4))))) (fun _ => (Keeps.refl _)))

theorem State.clampWithdraw_keeps {s00 : State} (s : State) (l : Lane) (h0 : Keeps s00 s) :
    Keeps s00 (State.clampWithdraw s l) := by
  refine keeps_trans h0 ?_
  unfold State.clampWithdraw
  lift_lets -useContext -merge -underBinder
  intro x0 x1
  have hx1 : Keeps s x1 := (State.modClamp_keeps _ _ _ (keeps_clr _ _ _ _ (Keeps.refl _)))
  clear_value x1
  intro x2
  have hx2 : Keeps s x2 := (State.modClamp_keeps _ _ _ (State.windGates_keeps _ _ _ hx1))
  clear_value x2
  refine keeps_ite (fun _ => ?_) (fun _ => ?_)
  · exact (State.actSync_keeps _ _ (keeps_clr _ _ _ _ (keeps_wr _ _ _ _ _ (keeps_wr _ _ _ _ _ (keeps_clr _ _ _ _ hx2)))))
  · exact hx1

theorem execClampApplyEnd_keeps (l : Lane) (s : State) : KeepsOut s (execClampApplyEnd l s) := by
  unfold execClampApplyEnd
  exact keepsOut_next (by
    split
    · lift_lets -useContext -merge -underBinder
      intro x0
      have hx0 : Keeps s x0 := (State.modClamp_keeps _ _ _ (keeps_advTo _ (Keeps.refl _)))
      clear_value x0
      exact (State.showDuty_keeps _ _ (keeps_wr _ _ _ _ _ hx0))
    · exact (Keeps.refl _)
)

theorem execClampDefaultStep_keeps (l : Lane) (s : State) : KeepsOut s (execClampDefaultStep l s) := by
  unfold execClampDefaultStep
  exact keepsOut_next (keeps_ite (fun _ => (State.showDuty_keeps _ _ (State.modClamp_keeps _ _ _ (keeps_advTo _ (Keeps.refl _))))) (fun _ => (Keeps.refl _)))

theorem State.takeClampFrame_keeps {s00 : State} (s : State) (l : Lane) (b : List Nat) (h0 : Keeps s00 s) :
    Keeps s00 (State.takeClampFrame s l b) := by
  refine keeps_trans h0 ?_
  unfold State.takeClampFrame
  lift_lets -useContext -merge -underBinder
  intro x0 x1 x2
  have hx2 : Keeps s x2 := (keeps_wr _ _ _ _ _ (keeps_wr _ _ _ _ _ (keeps_wr _ _ _ _ _ (keeps_wr _ _ _ _ _ (Keeps.refl _)))))
  clear_value x2
  intro x3
  have hx3 : Keeps s x3 := (keeps_wr _ _ _ _ _ (keeps_wr _ _ _ _ _ (keeps_wr _ _ _ _ _ hx2)))
  clear_value x3
  refine keeps_ite (fun _ => ?_) (fun _ => ?_)
  · exact (keeps_set _ _ _ _ (keeps_inc _ _ _ _ _ (keeps_set _ _ _ _ (State.modClamp_keeps _ _ _ hx3))))
  · exact (Keeps.refl _)

theorem execClampConfigFrame_keeps (l : Lane) (flips : List (BitVec 8)) (s : State) : KeepsOut s (execClampConfigFrame l flips s) := by
  unfold execClampConfigFrame
  exact keepsOut_next (keeps_ite (fun _ => (State.takeClampFrame_keeps _ _ _ (keeps_modDep _ (Keeps.refl _)))) (fun _ => (Keeps.refl _)))

theorem execClampDutyRecompute_keeps (l : Lane) (vact : Nat) (s : State) : KeepsOut s (execClampDutyRecompute l vact s) := by
  unfold execClampDutyRecompute
  lift_lets -useContext -merge -underBinder
  intro x0
  have hx0 : Keeps s x0 := (keeps_wrSat _ _ _ _ _ (Keeps.refl _))
  clear_value x0
  exact keepsOut_next (keeps_ite (fun _ => (by
    split
    · exact (State.showDuty_keeps _ _ (State.modClamp_keeps _ _ _ hx0))
    · exact hx0
)) (fun _ => (Keeps.refl _)))

theorem State.brakeGates_keeps {s00 : State} (s : State) (l : Lane) (m : Nat) (h0 : Keeps s00 s) :
    Keeps s00 (State.brakeGates s l m) := by
  refine keeps_trans h0 ?_
  unfold State.brakeGates
  lift_lets -useContext -merge -underBinder
  intro x0 x1
  have hx1 : Keeps s x1 := (State.modPap_keeps _ _ _ (Keeps.refl _))
  clear_value x1
  exact (keeps_each _ _ hx1 (fun _ _ => (keeps_ite (fun _ => (keeps_put _ _ _ _ _ (keeps_clr _ _ _ _ (Keeps.refl _)))) (fun _ => (Keeps.refl _)))))

theorem execBrkApply_keeps (l : Lane) (s : State) : KeepsOut s (execBrkApply l s) := by
  unfold execBrkApply
  lift_lets -useContext -merge -underBinder
  intro x0 x1
  try clear_value x1
  intro x2
  try clear_value x2
  intro x3
  have hx3 : Keeps s x3 := (keeps_inc _ _ _ _ _ (keeps_set _ _ _ _ (keeps_clr _ _ _ _ (keeps_set _ _ _ _ (Keeps.refl _)))))
  clear_value x3
  exact keepsOut_next (keeps_ite (fun _ => (Keeps.refl _)) (fun _ => (keeps_ite (fun _ => (State.accessError_keeps _ _ _ _ _ _ (Keeps.refl _))) (fun _ => (keeps_ite (fun _ => (Keeps.refl _)) (fun _ => (State.brakeGates_keeps _ _ _ (State.modClamp_keeps _ _ _ hx3))))))))

theorem execBrkRelease_keeps (l : Lane) (s : State) : KeepsOut s (execBrkRelease l s) := by
  unfold execBrkRelease
  lift_lets -useContext -merge -underBinder
  intro x0
  exact keepsOut_next (keeps_ite (fun _ => (Keeps.refl _)) (fun _ => (keeps_ite (fun _ => (State.accessError_keeps _ _ _ _ _ _ (Keeps.refl _))) (fun _ => (keeps_ite (fun _ => (keeps_set _ _ _ _ (Keeps.refl _))) (fun _ => (State.redriveAll_keeps _ _ (State.brakeEnd_keeps _ _ (Keeps.refl _)))))))))

theorem execBrkLoopUpdate_keeps (l : Lane) (currents : List Nat) (s : State) : KeepsOut s (execBrkLoopUpdate l currents s) := by
  unfold execBrkLoopUpdate
  lift_lets -useContext -merge -underBinder
  intro x0 x1
  try clear_value x1
  intro x2
  try clear_value x2
  intro x3
  try clear_value x3
  intro x4
  have hx4 : Keeps1 s x4 := (keeps1_free _ (Keeps.refl _))
  clear_value x4
  intro x5
  try clear_value x5
  intro x6
  try clear_value x6
  intro x7
  have hx7 : Keeps s x7 := (State.modClamp_keeps _ _ _ hx4.h)
  clear_value x7
  exact keepsOut_next (keeps_ite (fun _ => (keeps_wrSat _ _ _ _ _ (keeps_when _ _ hx7 (fun _ => (keeps_set _ _ _ _ (Keeps.refl _)))))) (fun _ => (Keeps.refl _)))

theorem execBrkAtForce_keeps (l : Lane) (s : State) : KeepsOut s (execBrkAtForce l s) := by
  unfold execBrkAtForce
  exact keepsOut_next (by
    split
    · refine keeps_ite (fun _ => ?_) (fun _ => ?_)
      · exact (keeps_set _ _ _ _ (keeps_advTo _ (Keeps.refl _)))
      · exact (Keeps.refl _)
    · exact (Keeps.refl _)
)


end Sys2Proof.Machine
end

