-- ==== Sys2Proof/Laws/KeepsVrcOps.lean ====
section
/-!
SUPPORT. The operations of Machine/VrcOps.lean keep what `Keeps` says (Laws/Keeps.lean).
-/
namespace Sys2Proof.Machine

theorem State.modVrc_keeps {s00 : State} (s : State) (l : Lane) (f : VrcSt → VrcSt) (h0 : Keeps s00 s) :
    Keeps s00 (State.modVrc s l f) := by
  refine keeps_trans h0 ?_
  unfold State.modVrc
  exact (State.modPap_keeps _ _ _ (Keeps.refl _))

theorem State.setShed_keeps {s00 : State} (s : State) (l : Lane) (st : Nat) (h0 : Keeps s00 s) :
    Keeps s00 (State.setShed s l st) := by
  refine keeps_trans h0 ?_
  unfold State.setShed
  lift_lets -useContext -merge -underBinder
  intro x0 x1
  try clear_value x1
  exact (keeps_each _ _ (State.modVrc_keeps _ _ _ (keeps_wr _ _ _ _ _ (Keeps.refl _))) (fun _ _ => (keeps_put _ _ _ _ _ (Keeps.refl _))))

theorem State.vrcRestore_keeps {s00 : State} (s : State) (l : Lane) (h0 : Keeps s00 s) :
    Keeps s00 (State.vrcRestore s l) := by
  refine keeps_trans h0 ?_
  unfold State.vrcRestore
  lift_lets -useContext -merge -underBinder
  intro x0
  try clear_value x0
  intro x1
  have hx1 : Keeps s x1 := (keeps_when _ _ (Keeps.refl _) (fun _ => (keeps_inc _ _ _ _ _ (Keeps.refl _))))
  clear_value x1
  refine keeps_ite (fun _ => ?_) (fun _ => ?_)
  · exact (State.setShed_keeps _ _ _ hx1)
  · exact (Keeps.refl _)

theorem State.owe_keeps {s00 : State} (s : State) (l : Lane) (f : RailFrame) (h0 : Keeps s00 s) :
    Keeps s00 (State.owe s l f) := by
  refine keeps_trans h0 ?_
  unfold State.owe
  exact (State.modVrc_keeps _ _ _ (Keeps.refl _))

theorem State.retarget_keeps {s00 : State} (s : State) (l : Lane) (target : Nat) (tag : Option Nat) (h0 : Keeps s00 s) :
    Keeps s00 (State.retarget s l target tag) := by
  refine keeps_trans h0 ?_
  unfold State.retarget
  lift_lets -useContext -merge -underBinder
  intro x0
  try clear_value x0
  intro x1
  try clear_value x1
  intro x2
  have hx2 : Keeps s x2 := (keeps_wr _ _ _ _ _ (State.modVrc_keeps _ _ _ (Keeps.refl _)))
  clear_value x2
  refine keeps_ite (fun _ => ?_) (fun _ => ?_)
  · exact (State.vrcRestore_keeps _ _ hx2)
  · exact hx2

theorem State.vrcStart_keeps {s00 : State} (s : State) (l : Lane) (h0 : Keeps s00 s) :
    Keeps s00 (State.vrcStart s l) := by
  refine keeps_trans h0 ?_
  unfold State.vrcStart
  lift_lets -useContext -merge -underBinder
  intro x0
  try clear_value x0
  intro x1
  have hx1 : Keeps s x1 := (State.modVrc_keeps _ _ _ (Keeps.refl _))
  clear_value x1
  exact (State.setShed_keeps _ _ _ (keeps_wr _ _ _ _ _ hx1))

theorem State.popOwed_keeps {s00 : State} (s : State) (l : Lane) (h0 : Keeps s00 s) :
    Keeps s00 (State.popOwed s l) := by
  refine keeps_trans h0 ?_
  unfold State.popOwed
  exact (State.modVrc_keeps _ _ _ (Keeps.refl _))


end Sys2Proof.Machine
end

