-- ==== Sys2Proof/Laws/KeepsPower.lean ====
section
/-!
SUPPORT. The operations of Machine/Power.lean keep what `Keeps` says (Laws/Keeps.lean).
-/
namespace Sys2Proof.Machine

theorem State.modPwr_keeps {s00 : State} (s : State) (l : Lane) (f : PwrSt → PwrSt) (h0 : Keeps s00 s) :
    Keeps s00 (State.modPwr s l f) := by
  refine keeps_trans h0 ?_
  unfold State.modPwr
  exact (keeps_modRun _ _ (Keeps.refl _) fun _ hr => hr)

theorem State.vddResult_keeps {s00 : State} (s : State) (l : Lane) (code id : Nat) (h0 : Keeps s00 s) :
    Keeps s00 (State.vddResult s l code id) := by
  refine keeps_trans h0 ?_
  unfold State.vddResult
  lift_lets -useContext -merge -underBinder
  intro x0
  exact (keeps_wr _ _ _ _ _ (keeps_put _ _ _ _ _ (keeps_wr _ _ _ _ _ (Keeps.refl _))))

theorem execVddGo_keeps (l : Lane) (who : Initiator) (s : State) : KeepsOut s (execVddGo l who s) := by
  unfold execVddGo
  lift_lets -useContext -merge -underBinder
  intro x0 x1
  try clear_value x1
  intro x2
  try clear_value x2
  intro x3
  have hx3 : Keeps1 s x3 := (State.submit_keeps _ _ _ _ _ _ _ _ (Keeps.refl _))
  clear_value x3
  exact keepsOut_next (keeps_ite (fun _ => (Keeps.refl _)) (fun _ => (keeps_ite (fun _ => (State.vddResult_keeps _ _ _ _ (Keeps.refl _))) (fun _ => (keeps_ite (fun _ => (State.vddResult_keeps _ _ _ _ (Keeps.refl _))) (fun _ => (keeps_ite (fun _ => (State.vddResult_keeps _ _ _ _ (Keeps.refl _))) (fun _ => (State.vddResult_keeps _ _ _ _ hx3.h)))))))))

theorem State.beginWake_keeps {s00 : State} (s : State) (l : Lane) (tim dep : Bool) (h0 : Keeps s00 s) :
    Keeps s00 (State.beginWake s l tim dep) := by
  refine keeps_trans h0 ?_
  unfold State.beginWake
  lift_lets -useContext -merge -underBinder
  intro x0 x1
  have hx1 : Keeps s x1 := (keeps_clr _ _ _ _ (keeps_clr _ _ _ _ (keeps_clr _ _ _ _ (keeps_clr _ _ _ _ (Keeps.refl _)))))
  clear_value x1
  intro x2
  have hx2 : Keeps s x2 := (keeps_wr _ _ _ _ _ (keeps_set _ _ _ _ (keeps_when _ _ (keeps_when _ _ hx1 (fun _ => (keeps_set _ _ _ _ (Keeps.refl _)))) (fun _ => (keeps_set _ _ _ _ (Keeps.refl _))))))
  clear_value x2
  exact (State.modPwr_keeps _ _ _ hx2)

theorem State.railHeard_keeps {s00 : State} (s : State) (l : Lane) (h0 : Keeps s00 s) :
    Keeps s00 (State.railHeard s l) := by
  refine keeps_trans h0 ?_
  unfold State.railHeard
  exact (State.modVrc_keeps _ _ _ (Keeps.refl _))

theorem State.takeSet_keeps {s00 : State} (s : State) (l : Lane) (id target : Nat) (h0 : Keeps s00 s) :
    Keeps s00 (State.takeSet s l id target) := by
  refine keeps_trans h0 ?_
  unfold State.takeSet
  lift_lets -useContext -merge -underBinder
  intro x0
  try clear_value x0
  intro x1
  have hx1 : Keeps s x1 := by
    unfold x1
    split
    · exact (State.owe_keeps _ _ _ (Keeps.refl _))
    · exact (Keeps.refl _)
  clear_value x1
  refine keeps_ite (fun _ => ?_) (fun _ => ?_)
  · exact (Keeps.refl _)
  · exact (State.retarget_keeps _ _ _ _ hx1)

theorem State.takeNap_keeps {s00 : State} (s : State) (l : Lane) (h0 : Keeps s00 s) :
    Keeps s00 (State.takeNap s l) := by
  refine keeps_trans h0 ?_
  unfold State.takeNap
  lift_lets -useContext -merge -underBinder
  intro x0
  have hx0 : Keeps s x0 := (State.retarget_keeps _ _ _ _ (State.modVrc_keeps _ _ _ (Keeps.refl _)))
  clear_value x0
  intro x1
  try clear_value x1
  refine keeps_ite (fun _ => ?_) (fun _ => ?_)
  · exact (Keeps.refl _)
  · refine keeps_ite (fun _ => ?_) (fun _ => ?_)
    · exact (State.setShed_keeps _ _ _ hx0)
    · refine keeps_ite (fun _ => ?_) (fun _ => ?_)
      · exact (State.setShed_keeps _ _ _ hx0)
      · exact hx0

theorem State.takeWake_keeps {s00 : State} (s : State) (l : Lane) (code : Nat) (h0 : Keeps s00 s) :
    Keeps s00 (State.takeWake s l code) := by
  refine keeps_trans h0 ?_
  unfold State.takeWake
  lift_lets -useContext -merge -underBinder
  intro x0
  have hx0 : Keeps s x0 := (keeps_clr _ _ _ _ (State.modVrc_keeps _ _ _ (Keeps.refl _)))
  clear_value x0
  refine keeps_ite (fun _ => ?_) (fun _ => ?_)
  · exact (State.retarget_keeps _ _ _ _ (State.vrcRestore_keeps _ _ hx0))
  · exact (Keeps.refl _)

theorem State.ctrlTake_keeps {s00 : State} (s : State) (l : Lane) (w : Nat) (h0 : Keeps s00 s) :
    Keeps s00 (State.ctrlTake s l w) := by
  refine keeps_trans h0 ?_
  unfold State.ctrlTake
  lift_lets -useContext -merge -underBinder
  intro x0
  have hx0 : Keeps s x0 := (State.modVrc_keeps _ _ _ (State.railHeard_keeps _ _ (Keeps.refl _)))
  clear_value x0
  intro x1
  try clear_value x1
  refine keeps_ite (fun _ => ?_) (fun _ => ?_)
  · refine keeps_ite (fun _ => ?_) (fun _ => ?_)
    · exact (State.takeSet_keeps _ _ _ _ hx0)
    · refine keeps_ite (fun _ => ?_) (fun _ => ?_)
      · exact (State.takeNap_keeps _ _ hx0)
      · refine keeps_ite (fun _ => ?_) (fun _ => ?_)
        · exact (State.takeWake_keeps _ _ _ hx0)
        · exact hx0
  · exact (State.modVrc_keeps _ _ _ (Keeps.refl _))

theorem State.endSet_keeps {s00 : State} (s : State) (l : Lane) (id : Nat) (code : OutcomeCode) (h0 : Keeps s00 s) :
    Keeps s00 (State.endSet s l id code) := by
  refine keeps_trans h0 ?_
  unfold State.endSet
  lift_lets -useContext -merge -underBinder
  intro x0
  have hx0 : Keeps s x0 := (State.modPwr_keeps _ _ _ (Keeps.refl _))
  clear_value x0
  split
  · exact (State.post_keeps _ _ _ _ hx0)
  · exact hx0

theorem State.wakeEnd_keeps {s00 : State} (s : State) (l : Lane) (h0 : Keeps s00 s) :
    Keeps s00 (State.wakeEnd s l) := by
  refine keeps_trans h0 ?_
  unfold State.wakeEnd
  lift_lets -useContext -merge -underBinder
  intro x0 x1
  have hx1 : Keeps s x1 := (keeps_set _ _ _ _ (keeps_set _ _ _ _ (keeps_set _ _ _ _ (keeps_set _ _ _ _ (Keeps.refl _)))))
  clear_value x1
  intro x2
  have hx2 : Keeps s x2 := (keeps_wr _ _ _ _ _ (keeps_clr _ _ _ _ (keeps_wr _ _ _ _ _ (keeps_wrSat _ _ _ _ _ hx1))))
  clear_value x2
  intro x3
  have hx3 : Keeps s x3 := (keeps_modRun _ _ (State.modPwr_keeps _ _ _ hx2) fun _ hr => hr)
  clear_value x3
  exact (State.irq_keeps _ _ _ _ hx3)

theorem State.napEnd_keeps {s00 : State} (s : State) (l : Lane) (h0 : Keeps s00 s) :
    Keeps s00 (State.napEnd s l) := by
  refine keeps_trans h0 ?_
  unfold State.napEnd
  lift_lets -useContext -merge -underBinder
  intro x0 x1
  have hx1 : Keeps s x1 := (State.modPwr_keeps _ _ _ (keeps_clr _ _ _ _ (Keeps.refl _)))
  clear_value x1
  split
  · exact (State.beginWake_keeps _ _ _ _ hx1)
  · exact hx1

theorem State.laneHeard_keeps {s00 : State} (s : State) (l : Lane) (rxOk : Bool) (h0 : Keeps s00 s) :
    Keeps s00 (State.laneHeard s l rxOk) := by
  refine keeps_trans h0 ?_
  unfold State.laneHeard
  exact (State.modPwr_keeps _ _ _ (keeps_set _ _ _ _ (Keeps.refl _)))

theorem State.laneTake_keeps {s00 : State} (s : State) (l : Lane) (w : Nat) (h0 : Keeps s00 s) :
    Keeps s00 (State.laneTake s l w) := by
  refine keeps_trans h0 ?_
  unfold State.laneTake
  lift_lets -useContext -merge -underBinder
  intro x0 x1
  try clear_value x1
  intro x2
  try clear_value x2
  intro x3
  have hx3 : Keeps s x3 := (State.modPwr_keeps _ _ _ (State.laneHeard_keeps _ _ _ (Keeps.refl _)))
  clear_value x3
  intro x4
  try clear_value x4
  intro x5
  have hx5 : Keeps s x5 := (keeps_wr _ _ _ _ _ hx3)
  clear_value x5
  intro x6
  have hx6 : Keeps s x6 := (keeps_wr _ _ _ _ _ hx3)
  clear_value x6
  refine keeps_ite (fun _ => ?_) (fun _ => ?_)
  · exact (Keeps.refl _)
  · refine keeps_ite (fun _ => ?_) (fun _ => ?_)
    · exact (State.modPwr_keeps _ _ _ (keeps_inc _ _ _ _ _ (Keeps.refl _)))
    · refine keeps_ite (fun _ => ?_) (fun _ => ?_)
      · refine keeps_ite (fun _ => ?_) (fun _ => ?_)
        · exact (State.wakeEnd_keeps _ _ hx5)
        · exact (State.endSet_keeps _ _ _ _ hx5)
      · refine keeps_ite (fun _ => ?_) (fun _ => ?_)
        · exact (State.endSet_keeps _ _ _ _ (keeps_inc _ _ _ _ _ (keeps_wr _ _ _ _ _ hx3)))
        · refine keeps_ite (fun _ => ?_) (fun _ => ?_)
          · refine keeps_ite (fun _ => ?_) (fun _ => ?_)
            · exact (State.napEnd_keeps _ _ hx6)
            · exact hx6
          · refine keeps_ite (fun _ => ?_) (fun _ => ?_)
            · exact (keeps_wr _ _ _ _ _ (keeps_wr _ _ _ _ _ (keeps_wr _ _ _ _ _ hx3)))
            · exact hx3

theorem State.ctrlSend_keeps {s00 : State} (s : State) (l : Lane) (type tag payload : Nat) (flip : BitVec 32) (h0 : Keeps s00 s) :
    Keeps s00 (State.ctrlSend s l type tag payload flip) := by
  refine keeps_trans h0 ?_
  unfold State.ctrlSend
  lift_lets -useContext -merge -underBinder
  intro x0
  try clear_value x0
  intro x1
  have hx1 : Keeps s x1 := (State.modVrc_keeps _ _ _ (keeps_when _ _ (Keeps.refl _) (fun _ => (State.railHeard_keeps _ _ (Keeps.refl _)))))
  clear_value x1
  exact (State.laneTake_keeps _ _ _ hx1)

theorem execRlkSet_keeps (l : Lane) (flip : BitVec 32) (s : State) : KeepsOut s (execRlkSet l flip s) := by
  unfold execRlkSet
  exact keepsOut_next (by
    split
    · exact (Keeps.refl _)
    · split
      · lift_lets -useContext -merge -underBinder
        intro x0
        have hx0 : Keeps s x0 := (keeps_wr _ _ _ _ _ (State.setEnt_keeps _ _ _ _ (Keeps.refl _)))
        clear_value x0
        intro x1
        have hx1 : Keeps s x1 := (State.modPwr_keeps _ _ _ hx0)
        clear_value x1
        refine keeps_ite (fun _ => ?_) (fun _ => ?_)
        · exact (Keeps.refl _)
        · exact (State.ctrlTake_keeps _ _ _ hx1)
      · exact (Keeps.refl _)
)

theorem execRlkAck_keeps (l : Lane) (flip : BitVec 32) (s : State) : KeepsOut s (execRlkAck l flip s) := by
  unfold execRlkAck
  exact keepsOut_next (by
    split
    · exact (State.ctrlSend_keeps _ _ _ _ _ _ (State.popOwed_keeps _ _ (Keeps.refl _)))
    · exact (Keeps.refl _)
)

theorem execRlkSuperseded_keeps (l : Lane) (flip : BitVec 32) (s : State) : KeepsOut s (execRlkSuperseded l flip s) := by
  unfold execRlkSuperseded
  exact keepsOut_next (by
    split
    · exact (State.ctrlSend_keeps _ _ _ _ _ _ (State.popOwed_keeps _ _ (Keeps.refl _)))
    · exact (Keeps.refl _)
)

theorem execRlkStatus_keeps (l : Lane) (flip : BitVec 32) (s : State) : KeepsOut s (execRlkStatus l flip s) := by
  unfold execRlkStatus
  exact keepsOut_next (keeps_ite (fun _ => (State.ctrlSend_keeps _ _ _ _ _ _ (State.modVrc_keeps _ _ _ (Keeps.refl _)))) (fun _ => (Keeps.refl _)))

theorem execRlkLoss_keeps (l : Lane) (controller : Bool) (s : State) : KeepsOut s (execRlkLoss l controller s) := by
  unfold execRlkLoss
  lift_lets -useContext -merge -underBinder
  intro x0 x1
  have hx1 : Keeps s x1 := (keeps_advTo _ (Keeps.refl _))
  clear_value x1
  intro x2
  have hx2 : Keeps s x2 := (keeps_inc _ _ _ _ _ (keeps_set _ _ _ _ (keeps_clr _ _ _ _ hx1)))
  clear_value x2
  intro x3
  have hx3 : Keeps s x3 := (keeps_each _ _ hx2 (fun _ _ => (State.post_keeps _ _ _ _ (Keeps.refl _))))
  clear_value x3
  exact keepsOut_next (keeps_ite (fun _ => (keeps_ite (fun _ => (State.modVrc_keeps _ _ _ (keeps_set _ _ _ _ (keeps_advTo _ (Keeps.refl _))))) (fun _ => (Keeps.refl _)))) (fun _ => (keeps_ite (fun _ => (State.modPwr_keeps _ _ _ hx3)) (fun _ => (Keeps.refl _)))))

theorem execPwrIdle_keeps (l : Lane) (s : State) : KeepsOut s (execPwrIdle l s) := by
  unfold execPwrIdle
  exact keepsOut_next (keeps_ite (fun _ => (keeps_wr _ _ _ _ _ (Keeps.refl _))) (fun _ => (Keeps.refl _)))

theorem execIdleInterrupt_keeps (l : Lane) (s : State) : KeepsOut s (execIdleInterrupt l s) := by
  unfold execIdleInterrupt
  exact keepsOut_next (keeps_ite (fun _ => (keeps_wr _ _ _ _ _ (Keeps.refl _))) (fun _ => (Keeps.refl _)))

theorem State.refuseEntry_keeps {s00 : State} (s : State) (l : Lane) (code : Nat) (aborted : Bool) (h0 : Keeps s00 s) :
    Keeps s00 (State.refuseEntry s l code aborted) := by
  refine keeps_trans h0 ?_
  unfold State.refuseEntry
  lift_lets -useContext -merge -underBinder
  intro x0
  exact (State.irq_keeps _ _ _ _ (keeps_put _ _ _ _ _ (keeps_wr _ _ _ _ _ (keeps_inc _ _ _ _ _ (Keeps.refl _)))))

theorem execPwrNap_keeps (l : Lane) (nvmBusy : Bool) (abort : Fin 9) (s : State) : KeepsOut s (execPwrNap l nvmBusy abort s) := by
  unfold execPwrNap
  lift_lets -useContext -merge -underBinder
  intro x0 x1
  try clear_value x1
  intro x2
  try clear_value x2
  exact keepsOut_next (keeps_ite (fun _ => (keeps_ite (fun _ => (State.refuseEntry_keeps _ _ _ _ (Keeps.refl _))) (fun _ => (keeps_ite (fun _ => (State.refuseEntry_keeps _ _ _ _ (Keeps.refl _))) (fun _ => (State.modPwr_keeps _ _ _ (keeps_wr _ _ _ _ _ (keeps_wr _ _ _ _ _ (keeps_set _ _ _ _ (Keeps.refl _)))))))))) (fun _ => (Keeps.refl _)))

theorem execRlkNap_keeps (l : Lane) (flip : BitVec 32) (s : State) : KeepsOut s (execRlkNap l flip s) := by
  unfold execRlkNap
  exact keepsOut_next (keeps_ite (fun _ => (State.ctrlTake_keeps _ _ _ (Keeps.refl _))) (fun _ => (Keeps.refl _)))

theorem execRlkNapDone_keeps (l : Lane) (flip : BitVec 32) (s : State) : KeepsOut s (execRlkNapDone l flip s) := by
  unfold execRlkNapDone
  exact keepsOut_next (keeps_ite (fun _ => (State.ctrlSend_keeps _ _ _ _ _ _ (keeps_set _ _ _ _ (keeps_advTo _ (Keeps.refl _))))) (fun _ => (Keeps.refl _)))

theorem execNapWake_keeps (l : Lane) (tim : Option (Fin 8)) (s : State) : KeepsOut s (execNapWake l tim s) := by
  unfold execNapWake
  lift_lets -useContext -merge -underBinder
  intro x0 x1
  try clear_value x1
  exact keepsOut_next (keeps_ite (fun _ => (Keeps.refl _)) (fun _ => (by
    split
    · exact (State.beginWake_keeps _ _ _ _ (Keeps.refl _))
    · exact (State.modPwr_keeps _ _ _ (Keeps.refl _))
    · exact (Keeps.refl _)
)))

theorem execRlkWake_keeps (l : Lane) (flip : BitVec 32) (s : State) : KeepsOut s (execRlkWake l flip s) := by
  unfold execRlkWake
  exact keepsOut_next (keeps_ite (fun _ => (State.ctrlTake_keeps _ _ _ (Keeps.refl _))) (fun _ => (Keeps.refl _)))


end Sys2Proof.Machine
end

