-- ==== Sys2Proof/Laws/KeepsLaneLinkOps.lean ====
section
/-!
SUPPORT. The operations of Machine/LaneLinkOps.lean keep what `Keeps` says (Laws/Keeps.lean).
-/
namespace Sys2Proof.Machine

theorem State.frame_keeps {s00 : State} (s : State) (l : Lane) (flips : List (BitVec 8)) (rank type frag : Nat) (payload : List Nat) (ready : Bool) (sent got : State → State) (h0 : Keeps s00 s)
    (hf8 : ∀ y0, Keeps y0 (sent y0))
    (hf9 : ∀ y0, Keeps y0 (got y0)) :
    Keeps s00 (State.frame s l flips rank type frag payload ready sent got) := by
  refine keeps_trans h0 ?_
  unfold State.frame
  lift_lets -useContext -merge -underBinder
  intro x0 x1
  try clear_value x1
  intro x2
  have hx2 : Keeps s x2 := (Keeps.trans (State.modLnk_keeps _ _ _ (Keeps.refl _)) (hf8 _))
  clear_value x2
  intro x3
  try clear_value x3
  refine keeps_ite (fun _ => ?_) (fun _ => ?_)
  · refine keeps_ite (fun _ => ?_) (fun _ => ?_)
    · exact (Keeps.trans (State.modLnk_keeps _ _ _ (keeps_inc _ _ _ _ _ hx2)) (hf9 _))
    · exact (keeps_inc _ _ _ _ _ hx2)
  · exact (Keeps.refl _)

theorem State.linkCheck_keeps {s00 : State} (s : State) (h0 : Keeps s00 s) :
    Keeps s00 (State.linkCheck s) := by
  refine keeps_trans h0 ?_
  unfold State.linkCheck
  lift_lets -useContext -merge -underBinder
  intro x0
  refine keeps_ite (fun _ => ?_) (fun _ => ?_)
  · exact (keeps_set _ _ _ _ (keeps_set _ _ _ _ (Keeps.refl _)))
  · exact (Keeps.refl _)

theorem State.stateGot_keeps {s00 : State} (s : State) (l : Lane) (h0 : Keeps s00 s) :
    Keeps s00 (State.stateGot s l) := by
  refine keeps_trans h0 ?_
  unfold State.stateGot
  lift_lets -useContext -merge -underBinder
  intro x0
  try clear_value x0
  intro x1
  have hx1 : Keeps s x1 := (State.modLnk_keeps _ _ _ (Keeps.refl _))
  clear_value x1
  intro x2
  have hx2 : Keeps s x2 := (keeps_modRun _ _ hx1 fun _ hr => hr)
  clear_value x2
  intro x3
  have hx3 : Keeps s x3 := (State.linkCheck_keeps _ (keeps_set _ _ _ _ hx2))
  clear_value x3
  refine keeps_ite (fun _ => ?_) (fun _ => ?_)
  · exact (State.modLnk_keeps _ _ _ (State.setRole_keeps _ _ _ hx3))
  · exact hx3

theorem State.applySlots_keeps {s00 : State} (s : State) (l : Lane) (own new : List (Nat × Nat)) (replace : Bool) (h0 : Keeps s00 s) :
    Keeps s00 (State.applySlots s l own new replace) := by
  refine keeps_trans h0 ?_
  unfold State.applySlots
  exact (keeps_each _ _ (Keeps.refl _) (fun y0 y1 => (by
    split
    · exact (Keeps.refl _)
    · lift_lets -useContext -merge -underBinder
      intro x2
      try clear_value x2
      intro x3
      try clear_value x3
      exact (State.modArith_keeps _ _ _ _ (Keeps.refl _))
)))

theorem State.motFollow_keeps {s00 : State} (s : State) (l : Lane) (m : Fin 2) (h0 : Keeps s00 s) :
    Keeps s00 (State.motFollow s l m) := by
  refine keeps_trans h0 ?_
  unfold State.motFollow
  lift_lets -useContext -merge -underBinder
  intro x0
  try clear_value x0
  intro x1
  have hx1 : Keeps s x1 := (keeps_ite (fun _ => (State.motWithdraw_keeps _ _ _ (State.motHold_keeps _ _ _ _ (Keeps.refl _)))) (fun _ => (keeps_ite (fun _ => (State.motWithdraw_keeps _ _ _ (State.motOverride_keeps _ _ _ _ (Keeps.refl _)))) (fun _ => (keeps_ite (fun _ => (keeps_ite (fun _ => (Keeps.refl _)) (fun _ => (State.motForce_keeps _ _ _ (Keeps.refl _))))) (fun _ => (Keeps.refl _)))))))
  clear_value x1
  exact (State.motSync_keeps _ _ _ hx1)

theorem State.applyRest_keeps {s00 : State} (s : State) (l : Lane) (c : CopySet) (h0 : Keeps s00 s) :
    Keeps s00 (State.applyRest s l c) := by
  refine keeps_trans h0 ?_
  unfold State.applyRest
  lift_lets -useContext -merge -underBinder
  intro x0 x1
  intro x2 x3
  have hx3 : Keeps s x3 := (keeps_each _ _ (Keeps.refl _) (fun y4 y5 => (by
    lift_lets -useContext -merge -underBinder
    intro x6
    try clear_value x6
    intro x7
    have hx7 : Keeps y4 x7 := (keeps_wr _ _ _ _ _ (keeps_wr _ _ _ _ _ (keeps_wr _ _ _ _ _ (keeps_wr _ _ _ _ _ (Keeps.refl _)))))
    clear_value x7
    intro x8
    have hx8 : Keeps y4 x8 := (State.modMach_keeps _ _ _ _ hx7)
    clear_value x8
    refine keeps_ite (fun _ => ?_) (fun _ => ?_)
    · exact hx8
    · exact (State.motFollow_keeps _ _ _ hx8)
)))
  clear_value x3
  intro x9
  try clear_value x9
  intro x10
  have hx10 : Keeps s x10 := (keeps_modRun _ _ (keeps_wr _ _ _ _ _ (keeps_wr _ _ _ _ _ hx3)) fun _ hr => hr)
  clear_value x10
  intro x11
  try clear_value x11
  intro x12
  have hx12 : Keeps s x12 := (keeps_ite (fun _ => hx10) (fun _ => (State.modPap_keeps _ _ _ (keeps_put _ _ _ _ _ (keeps_wr _ _ _ _ _ (keeps_wr _ _ _ _ _ hx10))))))
  clear_value x12
  exact (State.setBytes_keeps _ _ _ _ hx12)

theorem State.applySet_keeps {s00 : State} (s : State) (l : Lane) (c : CopySet) (replace : Bool) (h0 : Keeps s00 s) :
    Keeps s00 (State.applySet s l c replace) := by
  refine keeps_trans h0 ?_
  unfold State.applySet
  exact (keeps_set _ _ _ _ (State.applyRest_keeps _ _ _ (State.applySlots_keeps _ _ _ _ _ (Keeps.refl _))))

theorem State.copyApply_keeps {s00 : State} (s : State) (l : Lane) (h0 : Keeps s00 s) :
    Keeps s00 (State.copyApply s l) := by
  refine keeps_trans h0 ?_
  unfold State.copyApply
  split
  · exact (Keeps.refl _)
  · refine keeps_ite (fun _ => ?_) (fun _ => ?_)
    · exact (State.modLnk_keeps _ _ _ (State.applySet_keeps _ _ _ _ (Keeps.refl _)))
    · exact (State.modLnk_keeps _ _ _ (Keeps.refl _))

theorem State.copyCapture_keeps {s00 : State} (s : State) (l : Lane) (k : Nat) (h0 : Keeps s00 s) :
    Keeps s00 (State.copyCapture s l k) := by
  refine keeps_trans h0 ?_
  unfold State.copyCapture
  lift_lets -useContext -merge -underBinder
  intro x0 x1
  try clear_value x1
  intro x2
  try clear_value x2
  intro x3
  have hx3 : Keeps s x3 := (State.modLnk_keeps _ _ _ (Keeps.refl _))
  clear_value x3
  intro x4
  have hx4 : Keeps s x4 := by
    unfold x4
    split
    · refine keeps_ite (fun _ => ?_) (fun _ => ?_)
      · exact (State.post_keeps _ _ _ _ hx3)
      · exact hx3
    · exact hx3
  clear_value x4
  intro x5
  try clear_value x5
  intro x6
  try clear_value x6
  intro x7
  have hx7 : Keeps1 s x7 := (State.submit_keeps _ _ _ _ _ _ _ _ hx4)
  clear_value x7
  refine keeps_ite (fun _ => ?_) (fun _ => ?_)
  · split
    · lift_lets -useContext -merge -underBinder
      intro x8
      have hx8 : Keeps s x8 := (State.modLnk_keeps _ _ _ hx7.h)
      clear_value x8
      exact (keeps_wr _ _ _ _ _ (keeps_clr _ _ _ _ (keeps_clr _ _ _ _ hx8)))
    · exact hx7.h
  · exact hx3

theorem State.ownCapture_keeps {s00 : State} (s : State) (l : Lane) (k : Nat) (h0 : Keeps s00 s) :
    Keeps s00 (State.ownCapture s l k) := by
  refine keeps_trans h0 ?_
  unfold State.ownCapture
  lift_lets -useContext -merge -underBinder
  intro x0
  try clear_value x0
  exact (State.modLnk_keeps _ _ _ (Keeps.refl _))

theorem State.copyResend_keeps {s00 : State} (s : State) (l : Lane) (h0 : Keeps s00 s) :
    Keeps s00 (State.copyResend s l) := by
  refine keeps_trans h0 ?_
  unfold State.copyResend
  lift_lets -useContext -merge -underBinder
  intro x0
  try clear_value x0
  split
  · refine keeps_ite (fun _ => ?_) (fun _ => ?_)
    · exact (Keeps.refl _)
    · exact (keeps_inc _ _ _ _ _ (State.modLnk_keeps _ _ _ (Keeps.refl _)))
  · exact (Keeps.refl _)

theorem State.verdictRole_keeps {s00 : State} (s : State) (y : Lane) (ok : Bool) (h0 : Keeps s00 s) :
    Keeps s00 (State.verdictRole s y ok) := by
  refine keeps_trans h0 ?_
  unfold State.verdictRole
  lift_lets -useContext -merge -underBinder
  intro x0
  refine keeps_ite (fun _ => ?_) (fun _ => ?_)
  · exact (State.laneReturn_keeps _ _ (State.setRole_keeps _ _ _ (Keeps.refl _)))
  · refine keeps_ite (fun _ => ?_) (fun _ => ?_)
    · exact (State.setRole_keeps _ _ _ (Keeps.refl _))
    · exact (Keeps.refl _)

theorem State.verdictShow_keeps {s00 : State} (s : State) (l : Lane) (ok : Bool) (h0 : Keeps s00 s) :
    Keeps s00 (State.verdictShow s l ok) := by
  refine keeps_trans h0 ?_
  unfold State.verdictShow
  lift_lets -useContext -merge -underBinder
  intro x0 x1
  have hx1 : Keeps s x1 := (keeps_put _ _ _ _ _ (Keeps.refl _))
  clear_value x1
  refine keeps_ite (fun _ => ?_) (fun _ => ?_)
  · exact (keeps_inc _ _ _ _ _ (keeps_inc _ _ _ _ _ (keeps_wr _ _ _ _ _ hx1)))
  · exact (keeps_set _ _ _ _ (keeps_inc _ _ _ _ _ (keeps_wr _ _ _ _ _ (keeps_inc _ _ _ _ _ hx1))))

theorem State.verdictRun_keeps {s00 : State} (s : State) (ok : Bool) (against : Option Lane) (h0 : Keeps s00 s) :
    Keeps s00 (State.verdictRun s ok against) := by
  refine keeps_trans h0 ?_
  unfold State.verdictRun
  split
  · refine keeps_ite (fun _ => ?_) (fun _ => ?_)
    · exact (keeps_modDep _ (Keeps.refl _))
    · exact (Keeps.refl _)
  · lift_lets -useContext -merge -underBinder
    intro x0
    have hx0 : Keeps s x0 := (keeps_inc _ _ _ _ _ (Keeps.refl _))
    clear_value x0
    split
    · refine keeps_ite (fun _ => ?_) (fun _ => ?_)
      · exact (State.declare_keeps _ _ _ (keeps_modDep _ hx0))
      · exact (keeps_modDep _ hx0)
    · exact (keeps_modDep _ hx0)

theorem State.handOver_keeps {s00 : State} (s : State) (x : Lane) (h0 : Keeps s00 s) :
    Keeps s00 (State.handOver s x) := by
  refine keeps_trans h0 ?_
  unfold State.handOver
  lift_lets -useContext -merge -underBinder
  intro x0
  have hx0 : Keeps s x0 := (State.removeGrant_keeps _ _ (keeps_clr _ _ _ _ (keeps_clr _ _ _ _ (Keeps.refl _))))
  clear_value x0
  refine keeps_ite (fun _ => ?_) (fun _ => ?_)
  · exact (State.modLnk_keeps _ _ _ hx0)
  · exact (Keeps.refl _)

theorem State.judge_keeps {s00 : State} (s : State) (x : Lane) (h0 : Keeps s00 s) :
    Keeps s00 (State.judge s x) := by
  refine keeps_trans h0 ?_
  unfold State.judge
  lift_lets -useContext -merge -underBinder
  intro x0
  try clear_value x0
  intro x1 x2
  try clear_value x2
  intro x3
  try clear_value x3
  intro x4
  have hx4 : Keeps s x4 := (keeps_each _ _ (keeps_each _ _ (Keeps.refl _) (fun _ _ => (keeps_modDepLane _ _ (Keeps.refl _)))) (fun _ _ => (State.verdictShow_keeps _ _ _ (keeps_wr _ _ _ _ _ (Keeps.refl _)))))
  clear_value x4
  intro x9
  have hx9 : Keeps s x9 := (State.verdictRole_keeps _ _ _ (keeps_modDepLane _ _ hx4))
  clear_value x9
  intro x10
  have hx10 : Keeps s x10 := (State.grantLogic_keeps _ (State.verdictRun_keeps _ _ _ hx9))
  clear_value x10
  refine keeps_ite (fun _ => ?_) (fun _ => ?_)
  · refine keeps_ite (fun _ => ?_) (fun _ => ?_)
    · refine keeps_ite (fun _ => ?_) (fun _ => ?_)
      · exact (State.handOver_keeps _ _ hx10)
      · exact hx10
    · exact (State.grantLogic_keeps _ (keeps_modDepLane _ _ (keeps_each _ _ (Keeps.refl _) (fun _ _ => (keeps_modDepLane _ _ (Keeps.refl _))))))
  · exact (Keeps.refl _)

theorem State.snapSubmit_keeps {s00 : State} (s : State) (l : Lane) (h0 : Keeps s00 s) :
    Keeps s00 (State.snapSubmit s l) := by
  refine keeps_trans h0 ?_
  unfold State.snapSubmit
  lift_lets -useContext -merge -underBinder
  intro x0
  try clear_value x0
  intro x1
  try clear_value x1
  refine keeps_ite (fun _ => ?_) (fun _ => ?_)
  · exact (State.modLnk_keeps _ _ _ (State.submit_keeps _ _ _ _ _ _ _ _ (Keeps.refl _)).h)
  · exact (Keeps.refl _)

theorem State.snapDone_keeps {s00 : State} (s : State) (l : Lane) (x : Snapshot) (ok : Bool) (h0 : Keeps s00 s) :
    Keeps s00 (State.snapDone s l x ok) := by
  refine keeps_trans h0 ?_
  unfold State.snapDone
  lift_lets -useContext -merge -underBinder
  intro x0 x1
  try clear_value x1
  intro x2
  try clear_value x2
  intro x3
  have hx3 : Keeps s x3 := (keeps_modNv _ _ (Keeps.refl _) (NvKeeps.of_eq rfl rfl rfl))
  clear_value x3
  refine keeps_ite (fun _ => ?_) (fun _ => ?_)
  · exact (keeps_clr _ _ _ _ (keeps_wr _ _ _ _ _ hx3))
  · exact (keeps_set _ _ _ _ (Keeps.refl _))

theorem State.coldNext_keeps {s00 : State} (s : State) (l : Lane) (h0 : Keeps s00 s) :
    Keeps s00 (State.coldNext s l) := by
  refine keeps_trans h0 ?_
  unfold State.coldNext
  refine keeps_ite (fun _ => ?_) (fun _ => ?_)
  · exact (State.modLnk_keeps _ _ _ (State.setRole_keeps _ _ _ (Keeps.refl _)))
  · exact (State.setRole_keeps _ _ _ (Keeps.refl _))


end Sys2Proof.Machine
end

