-- ==== Sys2Proof/Laws/KeepsLock.lean ====
section
/-!
SUPPORT. The operations of Machine/Lock.lean keep what `Keeps` says (Laws/Keeps.lean).
-/
namespace Sys2Proof.Machine

theorem execCheckerFault_keeps (l : Lane) (faults : List CheckFault) (s : State) : KeepsOut s (execCheckerFault l faults s) := by
  unfold execCheckerFault
  lift_lets -useContext -merge -underBinder
  intro x0 x1
  try clear_value x1
  exact keepsOut_next (by
    split
    · exact (Keeps.refl _)
    · lift_lets -useContext -merge -underBinder
      intro x2
      try clear_value x2
      intro x3
      have hx3 : Keeps s x3 := (keeps_put _ _ _ _ _ (keeps_wr _ _ _ _ _ (keeps_wr _ _ _ _ _ (keeps_put _ _ _ _ _ (keeps_put _ _ _ _ _ (Keeps.refl _))))))
      clear_value x3
      intro x4
      have hx4 : Keeps s x4 := (keeps_wr _ _ _ _ _ (keeps_set _ _ _ _ (keeps_set _ _ _ _ hx3)))
      clear_value x4
      intro x5
      have hx5 : Keeps s x5 := (keeps_modRun _ _ hx4 fun _ hr => hr)
      clear_value x5
      refine keeps_ite (fun _ => ?_) (fun _ => ?_)
      · exact (Keeps.refl _)
      · exact (State.declare_keeps _ _ _ hx5)
)

theorem execLockstepSelfReset_keeps (l : Lane) (s : State) : KeepsOut s (execLockstepSelfReset l s) := by
  unfold execLockstepSelfReset
  lift_lets -useContext -merge -underBinder
  intro x0
  exact keepsOut_next (by
    split
    · exact (Keeps.refl _)
    · lift_lets -useContext -merge -underBinder
      intro x1
      have hx1 : Keeps s x1 := (keeps_wr _ _ _ _ _ (keeps_wr _ _ _ _ _ (keeps_advTo _ (Keeps.refl _))))
      clear_value x1
      refine keeps_ite (fun _ => ?_) (fun _ => ?_)
      · exact (Keeps.refl _)
      · exact (keeps_set _ _ _ _ (State.resetIsland_keeps _ _ _ hx1))
)

theorem execDebugSplit_keeps (l : Lane) (cp : Bool) (s : State) : KeepsOut s (execDebugSplit l cp s) := by
  unfold execDebugSplit
  lift_lets -useContext -merge -underBinder
  intro x0 x1
  have hx1 : Keeps s x1 := (keeps_clr _ _ _ _ (keeps_wrBit _ _ _ _ _ (Keeps.refl _)))
  clear_value x1
  intro x2
  have hx2 : Keeps s x2 := (keeps_modDepLane _ _ (keeps_set _ _ _ _ hx1))
  clear_value x2
  intro x3
  have hx3 : Keeps s x3 := (keeps_ite (fun _ => (State.setRole_keeps _ _ _ hx2)) (fun _ => (keeps_when _ _ (keeps_clr _ _ _ _ hx2) (fun _ => (keeps_clr _ _ _ _ (Keeps.refl _))))))
  clear_value x3
  intro x5
  try clear_value x5
  intro x6
  have hx6 : Keeps s x6 := (keeps_ite (fun _ => (keeps_clr _ _ _ _ hx3)) (fun _ => (keeps_ite (fun _ => hx3) (fun _ => (State.declare_keeps _ _ _ hx3)))))
  clear_value x6
  exact keepsOut_next (keeps_ite (fun _ => (Keeps.refl _)) (fun _ => (keeps_ite (fun _ => hx3) (fun _ => (State.grantLogic_keeps _ (State.syncElig_keeps _ hx6))))))


end Sys2Proof.Machine
end

