-- ==== Sys2Proof/Laws/KeepsSec.lean ====
section
/-!
SUPPORT. The operations of Machine/Sec.lean keep what `Keeps` says (Laws/Keeps.lean).
-/
namespace Sys2Proof.Machine

theorem State.modSec_keeps {s00 : State} (s : State) (l : Lane) (f : SecSt → SecSt) (h0 : Keeps s00 s) :
    Keeps s00 (State.modSec s l f) := by
  refine keeps_trans h0 ?_
  unfold State.modSec
  exact (keeps_modRun _ _ (Keeps.refl _) fun _ hr => hr)

theorem State.lcResult_keeps {s00 : State} (s : State) (l : Lane) (r : Nat) (h0 : Keeps s00 s) :
    Keeps s00 (State.lcResult s l r) := by
  refine keeps_trans h0 ?_
  unfold State.lcResult
  exact (keeps_clr _ _ _ _ (keeps_wr _ _ _ _ _ (Keeps.refl _)))

theorem State.lcAdvance_keeps {s00 : State} (s : State) (l : Lane) (next : Nat) (h0 : Keeps s00 s)
    (hn : (s.nv l).lifecycle ≤ next) : Keeps s00 (s.lcAdvance l next) :=
  State.resetIsland_keeps _ _ _ (State.lcResult_keeps _ _ _ (keeps_modNv _ _ h0 ⟨hn, fun _ h => h, fun _ h => h, id⟩))

theorem State.lcProduce_keeps {s00 : State} (s : State) (l : Lane) (e : LcEnd) (h0 : Keeps s00 s)
    (hn : (s.nv l).lifecycle ≤ 2) : Keeps s00 (s.lcProduce l e) := by
  unfold State.lcProduce
  refine keeps_ite (fun _ => State.lcResult_keeps _ _ _ h0) fun _ => ?_
  split
  · exact State.lcResult_keeps _ _ _ h0
  · split
    · exact State.lcResult_keeps _ _ _ (keeps_wr _ _ _ _ _ h0)
    · exact keeps_wr _ _ _ _ _ (keeps_set _ _ _ _ (keeps_modNv _ _ (State.keyWrap_keeps _ _ _ h0) (NvKeeps.of_eq rfl rfl rfl)))
    · refine State.lcAdvance_keeps _ _ _ (keeps_modNv _ _ (State.keyWrap_keeps _ _ _ h0) (NvKeeps.of_eq rfl rfl rfl)) ?_
      rw [State.modNv_nv, State.keyWrap, State.emmcProgram, State.modNv_nv]
      exact hn


theorem execSecLcReq_keeps (l : Lane) (who : Initiator) (target : BitVec 3) (key : BitVec 16) (e : LcEnd) (s : State) :
    KeepsOut s (execSecLcReq l who target key e s) := by
  unfold execSecLcReq
  refine keepsOut_next (keeps_ite (fun _ => Keeps.refl _) fun _ => keeps_ite (fun _ => State.lcResult_keeps _ _ _ (Keeps.refl _))
    fun _ => keeps_ite (fun h => State.lcAdvance_keeps _ _ _ (Keeps.refl _) (by omega)) fun _ =>
    keeps_ite (fun h => State.lcProduce_keeps _ _ _ (Keeps.refl _) (by omega)) fun _ =>
    keeps_ite (fun h => State.lcAdvance_keeps _ _ _ (Keeps.refl _) (by omega)) fun _ =>
    keeps_ite (fun h => ?_) fun _ => State.lcResult_keeps _ _ _ (Keeps.refl _))
  refine State.lcAdvance_keeps _ _ _ (keeps_modNv _ _ (Keeps.refl _) (NvKeeps.of_eq rfl rfl rfl)) ?_
  rw [State.modNv_nv]
  exact Nat.le_of_lt h.2.1

theorem execSecKeyProg_keeps (l : Lane) (who : Initiator) (slot : Fin 4) (s : State) :
    KeepsOut s (execSecKeyProg l who slot s) := by
  unfold execSecKeyProg
  exact keepsOut_next (keeps_ite (fun _ => keeps_modNv _ _ (Keeps.refl _) ⟨Nat.le_refl _, fun _ h => h, fun _ h => bit_setBit _ _ _ h, id⟩)
    fun _ => Keeps.refl _)

theorem execDbgChallenge_keeps (l : Lane) (who : Initiator) (s : State) : KeepsOut s (execDbgChallenge l who s) := by
  unfold execDbgChallenge
  lift_lets -useContext -merge -underBinder
  intro x0 x1
  have hx1 : Keeps1 s x1 := (State.freeWords_keeps _ _ (Keeps.refl _))
  clear_value x1
  intro x2
  try clear_value x2
  intro x3
  have hx3 : Keeps s x3 := (keeps_each _ _ hx1.h (fun _ _ => (keeps_wr _ _ _ _ _ (Keeps.refl _))))
  clear_value x3
  exact keepsOut_next (keeps_ite (fun _ => (Keeps.refl _)) (fun _ => (keeps_ite (fun _ => (keeps_wr _ _ _ _ _ (Keeps.refl _))) (fun _ => (State.modSec_keeps _ _ _ (keeps_set _ _ _ _ hx3))))))

theorem State.challengeGone_keeps {s00 : State} (s : State) (l : Lane) (h0 : Keeps s00 s) :
    Keeps s00 (State.challengeGone s l) := by
  refine keeps_trans h0 ?_
  unfold State.challengeGone
  exact (State.modSec_keeps _ _ _ (keeps_clr _ _ _ _ (Keeps.refl _)))

theorem execChallengeLapse_keeps (l : Lane) (s : State) : KeepsOut s (execChallengeLapse l s) := by
  unfold execChallengeLapse
  exact keepsOut_next (by
    split
    · exact (State.challengeGone_keeps _ _ (keeps_advTo _ (Keeps.refl _)))
    · exact (Keeps.refl _)
)

theorem State.openFail_keeps {s00 : State} (s : State) (l : Lane) (r : Nat) (h0 : Keeps s00 s) :
    Keeps s00 (State.openFail s l r) := by
  refine keeps_trans h0 ?_
  unfold State.openFail
  exact (keeps_inc _ _ _ _ _ (keeps_wr _ _ _ _ _ (Keeps.refl _)))

theorem execDbgOpen_keeps (l : Lane) (who : Initiator) (obj : Signed) (s : State) :
    KeepsOut s (execDbgOpen l who obj s) := by
  have hc : Keeps s (s.challengeGone l) := State.challengeGone_keeps _ _ (Keeps.refl _)
  have hn : (s.challengeGone l).nv l = s.nv l := by simp [State.challengeGone, State.modSec, State.clr_eq]
  unfold execDbgOpen
  dsimp only
  refine keepsOut_next (keeps_ite (fun _ => Keeps.refl _) fun _ => keeps_ite (fun _ => State.openFail_keeps _ _ _ (Keeps.refl _))
    fun h2 => keeps_ite (fun _ => State.openFail_keeps _ _ _ (keeps_wr _ _ _ _ _ hc)) fun _ => State.modAsy_keeps _ _ _
    (State.modSec_keeps _ _ _ (keeps_wr _ _ _ _ _ (keeps_ite (fun _ => hc) fun _ => keeps_clr _ _ _ _ (keeps_modNv _ _ hc
    ⟨?_, fun _ h => h, fun _ h => h, id⟩)))))
  rw [hn]
  simp only [Bool.or_eq_true, Bool.not_eq_true', Bool.or_eq_false_iff, beq_eq_false_iff_ne, not_or, not_and] at h2
  show (s.nv l).lifecycle ≤ 4
  omega

theorem execSecJobGo_keeps (l : Lane) (who : Initiator) (s : State) : KeepsOut s (execSecJobGo l who s) := by
  unfold execSecJobGo
  lift_lets -useContext -merge -underBinder
  intro x0 x1
  try clear_value x1
  intro x2 x3
  try clear_value x3
  intro x4
  have hx4 : Keeps1 s x4 := (State.submit_keeps _ _ _ _ _ _ _ _ (Keeps.refl _))
  clear_value x4
  exact keepsOut_next (keeps_ite (fun _ => (Keeps.refl _)) (fun _ => (keeps_ite (fun _ => (keeps_wr _ _ _ _ _ (keeps_put _ _ _ _ _ (keeps_wr _ _ _ _ _ (Keeps.refl _))))) (fun _ => (keeps_wr _ _ _ _ _ (keeps_put _ _ _ _ _ (keeps_wr _ _ _ _ _ hx4.h)))))))

theorem State.cryptoDone_keeps {s00 : State} (s : State) (l : Lane) (desc : List Nat) (h0 : Keeps s00 s) :
    Keeps s00 (State.cryptoDone s l desc) := by
  refine keeps_trans h0 ?_
  unfold State.cryptoDone
  lift_lets -useContext -merge -underBinder
  intro x0
  try clear_value x0
  intro x1
  try clear_value x1
  intro x2
  have hx2 : Keeps s x2 := (keeps_inc _ _ _ _ _ (Keeps.refl _))
  clear_value x2
  refine keeps_ite (fun _ => ?_) (fun _ => ?_)
  · exact (State.setBytes_keeps _ _ _ _ hx2)
  · refine keeps_ite (fun _ => ?_) (fun _ => ?_)
    · exact (State.setBytes_keeps _ _ _ _ hx2)
    · exact hx2

theorem execEntropyHealthFail_keeps (l : Lane) (s : State) : KeepsOut s (execEntropyHealthFail l s) := by
  unfold execEntropyHealthFail
  exact keepsOut_next (keeps_ite (fun _ => (State.modSec_keeps _ _ _ (keeps_set _ _ _ _ (Keeps.refl _)))) (fun _ => (Keeps.refl _)))


end Sys2Proof.Machine
end

