-- ==== Sys2Proof/Laws/KeepsTrc.lean ====
section
/-!
SUPPORT. The operations of Machine/Trc.lean keep what `Keeps` says (Laws/Keeps.lean).
-/
namespace Sys2Proof.Machine

theorem State.trcFire_keeps {s00 : State} (s : State) (l : Lane) (b : Fin 8) (h0 : Keeps s00 s) :
    Keeps s00 (State.trcFire s l b) := by
  refine keeps_trans h0 ?_
  unfold State.trcFire
  lift_lets -useContext -merge -underBinder
  intro x0 x1
  try clear_value x1
  intro x2
  try clear_value x2
  refine keeps_ite (fun _ => ?_) (fun _ => ?_)
  · exact (keeps_wr _ _ _ _ _ (keeps_wr _ _ _ _ _ (keeps_put _ _ _ _ _ (State.modTrc_keeps _ _ _ _ (Keeps.refl _)))))
  · exact (Keeps.refl _)

theorem State.trcTrigger_keeps {s00 : State} (s : State) (l : Lane) (b : Fin 8) (h0 : Keeps s00 s) :
    Keeps s00 (State.trcTrigger s l b) := by
  refine keeps_trans h0 ?_
  unfold State.trcTrigger
  lift_lets -useContext -merge -underBinder
  intro x0
  have hx0 : Keeps s x0 := (State.trcFire_keeps _ _ _ (Keeps.refl _))
  clear_value x0
  refine keeps_ite (fun _ => ?_) (fun _ => ?_)
  · exact (keeps_each _ _ hx0 (fun _ _ => (keeps_when _ _ (Keeps.refl _) (fun _ => (State.trcFire_keeps _ _ _ (Keeps.refl _))))))
  · exact hx0

theorem execTrcArm_keeps (l : Lane) (b : Fin 8) (s : State) : KeepsOut s (execTrcArm l b s) := by
  unfold execTrcArm
  lift_lets -useContext -merge -underBinder
  intro x0
  exact keepsOut_next (keeps_ite (fun _ => (keeps_ite (fun _ => (keeps_set _ _ _ _ (Keeps.refl _))) (fun _ => (keeps_clr _ _ _ _ (keeps_clr _ _ _ _ (State.modTrc_keeps _ _ _ _ (Keeps.refl _))))))) (fun _ => (Keeps.refl _)))

theorem State.trcSubmit_keeps {s00 : State} (s : State) (l : Lane) (b : Fin 8) (h0 : Keeps s00 s) :
    Keeps s00 (State.trcSubmit s l b) := by
  refine keeps_trans h0 ?_
  unfold State.trcSubmit
  lift_lets -useContext -merge -underBinder
  intro x0 x1
  try clear_value x1
  intro x2
  have hx2 : Keeps1 s x2 := (State.submit_keeps _ _ _ _ _ _ _ _ (Keeps.refl _))
  clear_value x2
  intro x3
  try clear_value x3
  intro x4
  have hx4 : Keeps s x4 := hx2.h
  clear_value x4
  intro x5
  have hx5 : Keeps s x5 := (keeps_put _ _ _ _ _ (keeps_wr _ _ _ _ _ hx4))
  clear_value x5
  refine keeps_ite (fun _ => ?_) (fun _ => ?_)
  · exact (keeps_wr _ _ _ _ _ (keeps_wr _ _ _ _ _ (State.modTrc_keeps _ _ _ _ (keeps_clr _ _ _ _ (keeps_wr _ _ _ _ _ hx5)))))
  · exact hx5

theorem execTrcDump_keeps (l : Lane) (b : Fin 8) (s : State) : KeepsOut s (execTrcDump l b s) := by
  unfold execTrcDump
  lift_lets -useContext -merge -underBinder
  intro x0
  exact keepsOut_next (keeps_ite (fun _ => (keeps_ite (fun _ => (State.trcSubmit_keeps _ _ _ (Keeps.refl _))) (fun _ => (keeps_clr _ _ _ _ (keeps_wr _ _ _ _ _ (Keeps.refl _)))))) (fun _ => (Keeps.refl _)))

theorem State.trcOutcome_keeps {s00 : State} (s0 : State) (l : Lane) (b : Fin 8) (c : OutcomeCode) (h0 : Keeps s00 s0) :
    Keeps s00 (State.trcOutcome s0 l b c) := by
  refine keeps_trans h0 ?_
  unfold State.trcOutcome
  lift_lets -useContext -merge -underBinder
  intro x0 x1
  try clear_value x1
  intro x2
  have hx2 : Keeps s0 x2 := (keeps_when _ _ (Keeps.refl _) (fun _ => (State.emmcProgram_keeps _ _ _ _ (Keeps.refl _))))
  clear_value x2
  exact (State.modTrc_keeps _ _ _ _ (keeps_set _ _ _ _ (keeps_wr _ _ _ _ _ hx2)))

theorem execTrcAbort_keeps (l : Lane) (b : Fin 8) (s : State) : KeepsOut s (execTrcAbort l b s) := by
  unfold execTrcAbort
  exact keepsOut_next (keeps_ite (fun _ => (State.modTrc_keeps _ _ _ _ (Keeps.refl _))) (fun _ => (Keeps.refl _)))

theorem execTrcTrigger_keeps (l : Lane) (b : Fin 8) (s : State) : KeepsOut s (execTrcTrigger l b s) := by
  unfold execTrcTrigger
  exact keepsOut_next (keeps_ite (fun _ => (State.trcTrigger_keeps _ _ _ (Keeps.refl _))) (fun _ => (Keeps.refl _)))

theorem execTraceTriggerEvent_keeps (l : Lane) (b : Fin 8) (s : State) : KeepsOut s (execTraceTriggerEvent l b s) := by
  unfold execTraceTriggerEvent
  exact keepsOut_next (keeps_ite (fun _ => (State.trcTrigger_keeps _ _ _ (State.modTrc_keeps _ _ _ _ (Keeps.refl _)))) (fun _ => (Keeps.refl _)))

theorem execTracePostDone_keeps (l : Lane) (b : Fin 8) (s : State) : KeepsOut s (execTracePostDone l b s) := by
  unfold execTracePostDone
  lift_lets -useContext -merge -underBinder
  intro x0 x1
  have hx1 : Keeps s x1 := (State.irq_keeps _ _ _ _ (State.modTrc_keeps _ _ _ _ (Keeps.refl _)))
  clear_value x1
  exact keepsOut_next (keeps_ite (fun _ => (keeps_ite (fun _ => (State.trcSubmit_keeps _ _ _ hx1)) (fun _ => hx1))) (fun _ => (Keeps.refl _)))


end Sys2Proof.Machine
end

