-- ==== Sys2Proof/Laws/KeepsTally.lean ====
section
/-!
SUPPORT. The operations of Machine/Tally.lean keep what `Keeps` says (Laws/Keeps.lean).
-/
namespace Sys2Proof.Machine

theorem State.dropAttempt_keeps {s00 : State} (s : State) (l : Lane) (e : TalEntry) (h0 : Keeps s00 s) :
    Keeps s00 (State.dropAttempt s l e) := by
  refine keeps_trans h0 ?_
  unfold State.dropAttempt
  refine keeps_dite (fun _ => ?_) (fun _ => ?_)
  · exact (State.modCan_keeps _ _ _ _ (Keeps.refl _))
  · exact (Keeps.refl _)

theorem State.nvmWrite_keeps {s00 : State} (s : State) (l : Lane) (area off : Nat) (bs : List Nat) (h0 : Keeps s00 s) :
    Keeps s00 (State.nvmWrite s l area off bs) := by
  refine keeps_trans h0 ?_
  unfold State.nvmWrite
  lift_lets -useContext -merge -underBinder
  intro x0
  try clear_value x0
  split
  · exact (State.emmcProgram_keeps _ _ _ _ (Keeps.refl _))
  · exact (State.emmcProgram_keeps _ _ _ _ (Keeps.refl _))
  · exact (State.norProgram_keeps _ _ _ _ (State.norProgram_keeps _ _ _ _ (Keeps.refl _)))
  · exact (State.norProgram_keeps _ _ _ _ (Keeps.refl _))
  · exact (State.norProgram_keeps _ _ _ _ (Keeps.refl _))
  · exact (State.norProgram_keeps _ _ _ _ (Keeps.refl _))
  · exact (State.norProgram_keeps _ _ _ _ (Keeps.refl _))
  · exact (State.norProgram_keeps _ _ _ _ (Keeps.refl _))
  · exact (Keeps.refl _)

theorem State.postJob_keeps {s00 : State} (s : State) (l : Lane) (e : TalEntry) (code : OutcomeCode) (h0 : Keeps s00 s) :
    Keeps s00 (State.postJob s l e code) := by
  refine keeps_trans h0 ?_
  unfold State.postJob
  lift_lets -useContext -merge -underBinder
  intro x0
  have hx0 : Keeps s x0 := (State.postNet_keeps _ _ _ _ (Keeps.refl _))
  clear_value x0
  split
  · exact (keeps_when _ _ hx0 (fun _ => (State.modEth_keeps _ _ _ _ (Keeps.refl _))))
  · refine keeps_ite (fun _ => ?_) (fun _ => ?_)
    · exact (State.nvmWrite_keeps _ _ _ _ _ hx0)
    · exact (keeps_when _ _ hx0 (fun _ => (keeps_inc _ _ _ _ _ (Keeps.refl _))))
  · exact (keeps_when _ _ hx0 (fun _ => (keeps_modNv _ _ (Keeps.refl _) (NvKeeps.of_eq rfl rfl rfl))))
  · exact (State.commitOutcome_keeps _ _ _ _ hx0)
  · refine keeps_dite (fun _ => ?_) (fun _ => ?_)
    · exact (State.trcOutcome_keeps _ _ _ _ hx0)
    · exact hx0
  · exact (State.snapDone_keeps _ _ _ _ hx0)
  · refine keeps_ite (fun _ => ?_) (fun _ => ?_)
    · exact (State.cryptoDone_keeps _ _ _ hx0)
    · exact hx0
  · exact (State.modLnk_keeps _ _ _ hx0)
  · exact (State.modPwr_keeps _ _ _ hx0)
  · exact (State.dropAttempt_keeps _ _ _ hx0)
  · exact (State.dropAttempt_keeps _ _ _ hx0)
  · exact hx0

theorem execTallyOutcome_keeps (l : Lane) (id : Fin 64) (code : OutcomeCode) (s : State) : KeepsOut s (execTallyOutcome l id code s) := by
  unfold execTallyOutcome
  exact keepsOut_next (by
    split
    · refine keeps_ite (fun _ => ?_) (fun _ => ?_)
      · exact (State.postJob_keeps _ _ _ _ (Keeps.refl _))
      · exact (Keeps.refl _)
    · exact (Keeps.refl _)
)

theorem execTallyAbortLead_keeps (l : Lane) (id : Fin 64) (s : State) : KeepsOut s (execTallyAbortLead l id s) := by
  unfold execTallyAbortLead
  exact keepsOut_next (by
    split
    · lift_lets -useContext -merge -underBinder
      intro x0
      try clear_value x0
      intro x1
      have hx1 : Keeps s x1 := (keeps_advTo _ (Keeps.refl _))
      clear_value x1
      refine keeps_ite (fun _ => ?_) (fun _ => ?_)
      · refine keeps_ite (fun _ => ?_) (fun _ => ?_)
        · exact (State.postJob_keeps _ _ _ _ hx1)
        · exact (State.setEnt_keeps _ _ _ _ hx1)
      · exact (Keeps.refl _)
    · exact (Keeps.refl _)
)

theorem execTallyMiss_keeps (l : Lane) (id : Fin 64) (s : State) : KeepsOut s (execTallyMiss l id s) := by
  unfold execTallyMiss
  exact keepsOut_next (by
    split
    · lift_lets -useContext -merge -underBinder
      intro x0 x1
      have hx1 : Keeps s x1 := (State.setEnt_keeps _ _ _ _ (keeps_advTo _ (Keeps.refl _)))
      clear_value x1
      intro x2
      have hx2 : Keeps s x2 := (keeps_inc _ _ _ _ _ (keeps_wr _ _ _ _ _ (keeps_wr _ _ _ _ _ (keeps_set _ _ _ _ hx1))))
      clear_value x2
      refine keeps_ite (fun _ => ?_) (fun _ => ?_)
      · exact (State.tallyMiss_keeps _ _ _ (State.irq_keeps _ _ _ _ hx2))
      · exact (Keeps.refl _)
    · exact (Keeps.refl _)
)

theorem execTalCancel_keeps (l : Lane) (id : Fin 64) (s : State) : KeepsOut s (execTalCancel l id s) := by
  unfold execTalCancel
  exact keepsOut_next (by
    split
    · refine keeps_ite (fun _ => ?_) (fun _ => ?_)
      · exact (Keeps.refl _)
      · refine keeps_ite (fun _ => ?_) (fun _ => ?_)
        · refine keeps_ite (fun _ => ?_) (fun _ => ?_)
          · exact (State.postJob_keeps _ _ _ _ (Keeps.refl _))
          · exact (Keeps.refl _)
        · refine keeps_dite (fun _ => ?_) (fun _ => ?_)
          · lift_lets -useContext -merge -underBinder
            intro x0
            try clear_value x0
            refine keeps_ite (fun _ => ?_) (fun _ => ?_)
            · exact (keeps_inc _ _ _ _ _ (keeps_set _ _ _ _ (Keeps.refl _)))
            · exact (Keeps.refl _)
          · exact (Keeps.refl _)
    · exact (Keeps.refl _)
)

theorem execTalOutPop_keeps (l : Lane) (s : State) : KeepsOut s (execTalOutPop l s) := by
  unfold execTalOutPop
  exact keepsOut_next (keeps_ite (fun _ => (State.talPop_keeps _ _ (Keeps.refl _))) (fun _ => (Keeps.refl _)))

theorem execTargetOffFail_keeps (l : Lane) (id : Fin 64) (s : State) : KeepsOut s (execTargetOffFail l id s) := by
  unfold execTargetOffFail
  exact keepsOut_next (by
    split
    · refine keeps_ite (fun _ => ?_) (fun _ => ?_)
      · exact (State.postJob_keeps _ _ _ _ (Keeps.refl _))
      · exact (Keeps.refl _)
    · exact (Keeps.refl _)
)

theorem execTimExpiry_keeps (l : Lane) (n : Fin 8) (s : State) : KeepsOut s (execTimExpiry l n s) := by
  unfold execTimExpiry
  exact keepsOut_next (keeps_ite (fun _ => (keeps_when _ _ (State.timExpire_keeps _ _ _ (Keeps.refl _)) (fun _ => (State.laneForm_keeps _ _ (Keeps.refl _))))) (fun _ => (Keeps.refl _)))

theorem State.nvmResult_keeps {s00 : State} (s : State) (l : Lane) (id code : Nat) (h0 : Keeps s00 s) :
    Keeps s00 (State.nvmResult s l id code) := by
  refine keeps_trans h0 ?_
  unfold State.nvmResult
  lift_lets -useContext -merge -underBinder
  intro x0
  exact (keeps_wr _ _ _ _ _ (keeps_put _ _ _ _ _ (keeps_wr _ _ _ _ _ (Keeps.refl _))))

theorem execNvmReqGo_keeps (l : Lane) (who : Initiator) (s : State) : KeepsOut s (execNvmReqGo l who s) := by
  unfold execNvmReqGo
  lift_lets -useContext -merge -underBinder
  intro x0 x1
  try clear_value x1
  intro x2
  try clear_value x2
  intro x3
  try clear_value x3
  intro x4
  try clear_value x4
  intro x5
  try clear_value x5
  intro x6
  have hx6 : Keeps1 s x6 := (State.submit_keeps _ _ _ _ _ _ _ _ (Keeps.refl _))
  clear_value x6
  intro x7
  try clear_value x7
  exact keepsOut_next (keeps_ite (fun _ => (Keeps.refl _)) (fun _ => (keeps_ite (fun _ => (State.nvmResult_keeps _ _ _ _ (Keeps.refl _))) (fun _ => (keeps_ite (fun _ => (State.nvmResult_keeps _ _ _ _ (Keeps.refl _))) (fun _ => (State.endNew_keeps _ _ _ _ (State.nvmResult_keeps _ _ _ _ hx6.h))))))))


end Sys2Proof.Machine
end

