-- ==== Sys2Proof/Laws/KeepsHooks.lean ====
section
/-!
SUPPORT. The operations of Machine/Hooks.lean keep what `Keeps` says (Laws/Keeps.lean).
-/
namespace Sys2Proof.Machine

theorem State.hookTim_keeps {s00 : State} (b s : State) (l : Lane) (a : Nat) (h0 : Keeps s00 b) (h1 : Keeps s00 s) :
    Keeps s00 (State.hookTim b s l a) := by
  unfold State.hookTim
  split
  · refine keeps_dite (fun _ => ?_) (fun _ => ?_)
    · refine keeps_ite (fun _ => ?_) (fun _ => ?_)
      · exact (State.timEnable_keeps _ _ _ h1)
      · exact h1
    · exact h1
  · exact h1

theorem State.restoreReg_keeps {s00 : State} (s b : State) (d : Die) (a : Nat) (h0 : Keeps s00 s) (h1 : Keeps s00 b) :
    Keeps s00 (State.restoreReg s b d a) := by
  unfold State.restoreReg
  exact (keeps_each _ _ h0 (fun _ _ => (keeps_wr _ _ _ _ _ (Keeps.refl _))))

theorem State.hookAdc_keeps {s00 : State} (b s : State) (l : Lane) (a : Nat) (h0 : Keeps s00 b) (h1 : Keeps s00 s) :
    Keeps s00 (State.hookAdc b s l a) := by
  unfold State.hookAdc
  lift_lets -useContext -merge -underBinder
  intro x0
  split
  · exact (keeps_when _ _ h1 (fun _ => (State.bandJudgeAll_keeps _ _ (Keeps.refl _))))
  · exact (State.corrWrite_keeps _ _ _ _ _ (State.restoreReg_keeps _ _ _ _ h1 h0))
  · exact (State.corrWrite_keeps _ _ _ _ _ (State.restoreReg_keeps _ _ _ _ h1 h0))
  · exact (State.asySync_keeps _ _ (State.sdfCleared_keeps _ _ _ h1))

theorem State.hookPos_keeps {s00 : State} (b s : State) (l : Lane) (a : Nat) (h0 : Keeps s00 b) (h1 : Keeps s00 s) :
    Keeps s00 (State.hookPos b s l a) := by
  unfold State.hookPos
  lift_lets -useContext -merge -underBinder
  intro x0 x1
  split
  · refine keeps_dite (fun _ => ?_) (fun _ => ?_)
    · refine keeps_ite (fun _ => ?_) (fun _ => ?_)
      · exact (keeps_when _ _ (keeps_when _ _ h1 (fun _ => (State.ptReconfigured_keeps _ _ _ (Keeps.refl _)))) (fun _ => (State.ptSwitch_keeps _ _ _ (Keeps.refl _))))
      · exact h1
    · exact h1
  · exact (by
      refine keeps_dite (fun _ => ?_) (fun _ => ?_)
      · refine keeps_ite (fun _ => ?_) (fun _ => ?_)
        · exact (State.ptReconfigured_keeps _ _ _ h1)
        · exact h1
      · exact h1
)
  · exact (by
      refine keeps_dite (fun _ => ?_) (fun _ => ?_)
      · refine keeps_ite (fun _ => ?_) (fun _ => ?_)
        · exact (State.ptReconfigured_keeps _ _ _ h1)
        · exact h1
      · exact h1
)
  · exact (by
      refine keeps_dite (fun _ => ?_) (fun _ => ?_)
      · refine keeps_ite (fun _ => ?_) (fun _ => ?_)
        · exact (State.ptReconfigured_keeps _ _ _ h1)
        · exact h1
      · exact h1
)
  · split
    · refine keeps_dite (fun _ => ?_) (fun _ => ?_)
      · refine keeps_ite (fun _ => ?_) (fun _ => ?_)
        · exact (State.resRestart_keeps _ _ _ h1)
        · exact h1
      · exact h1
    · refine keeps_dite (fun _ => ?_) (fun _ => ?_)
      · refine keeps_ite (fun _ => ?_) (fun _ => ?_)
        · exact (State.sentRestart_keeps _ _ _ h1)
        · exact h1
      · exact h1
    · exact h1

theorem State.hookSlot_keeps {s00 : State} (b s : State) (l : Lane) (a : Nat) (h0 : Keeps s00 b) (h1 : Keeps s00 s) :
    Keeps s00 (State.hookSlot b s l a) := by
  unfold State.hookSlot
  lift_lets -useContext -merge -underBinder
  intro x0 x1
  split
  · lift_lets -useContext -merge -underBinder
    intro x2
    try clear_value x2
    intro x3
    have hx3 : Keeps s00 x3 := (keeps_when _ _ h1 (fun _ => (State.modBand_keeps _ _ _ _ (Keeps.refl _))))
    clear_value x3
    refine keeps_ite (fun _ => ?_) (fun _ => ?_)
    · refine keeps_ite (fun _ => ?_) (fun _ => ?_)
      · exact hx3
      · exact (State.bandStop_keeps _ _ _ hx3)
    · refine keeps_ite (fun _ => ?_) (fun _ => ?_)
      · exact (keeps_ite (fun _ => h1) (fun _ => (State.toSettle_keeps _ _ _ (State.modBand_keeps _ _ _ _ h1))))
      · exact hx3
  · refine keeps_ite (fun _ => ?_) (fun _ => ?_)
    · exact (keeps_ite (fun _ => h1) (fun _ => (State.toSettle_keeps _ _ _ (State.modBand_keeps _ _ _ _ h1))))
    · exact h1
  · refine keeps_dite (fun _ => ?_) (fun _ => ?_)
    · exact (State.modArith_keeps _ _ _ _ h1)
    · exact h1
  · refine keeps_dite (fun _ => ?_) (fun _ => ?_)
    · exact (keeps_set _ _ _ _ (State.modArith_keeps _ _ _ _ h1))
    · exact h1
  · exact h1

theorem State.hookCe_keeps {s00 : State} (b s : State) (l : Lane) (a : Nat) (h0 : Keeps s00 b) (h1 : Keeps s00 s) :
    Keeps s00 (State.hookCe b s l a) := by
  unfold State.hookCe
  lift_lets -useContext -merge -underBinder
  intro x0
  have hx0 : Keeps s00 x0 := (State.hookSlot_keeps _ _ _ _ h0 h1)
  clear_value x0
  split
  · exact (State.srcErr_keeps _ _ _ hx0)
  · exact (State.srcErr_keeps _ _ _ hx0)
  · exact (State.syncCfgErrs_keeps _ _ (State.bandJudgeAll_keeps _ _ hx0))

theorem State.hookTrc_keeps {s00 : State} (b s : State) (l : Lane) (a : Nat) (h0 : Keeps s00 b) (h1 : Keeps s00 s) :
    Keeps s00 (State.hookTrc b s l a) := by
  unfold State.hookTrc
  split
  · refine keeps_dite (fun _ => ?_) (fun _ => ?_)
    · refine keeps_ite (fun _ => ?_) (fun _ => ?_)
      · exact (State.modCe_keeps _ _ _ h1)
      · exact h1
    · exact h1
  · exact h1

theorem State.dirty_keeps {s00 : State} (s : State) (l : Lane) (t : Nat) (h0 : Keeps s00 s) :
    Keeps s00 (State.dirty s l t) := by
  refine keeps_trans h0 ?_
  unfold State.dirty
  exact (keeps_set _ _ _ _ (Keeps.refl _))

theorem State.hookFixed_keeps {s00 : State} (b s : State) (l : Lane) (a : Nat) (h0 : Keeps s00 b) (h1 : Keeps s00 s) :
    Keeps s00 (State.hookFixed b s l a) := by
  unfold State.hookFixed
  lift_lets -useContext -merge -underBinder
  intro x0 x1
  split
  · exact (keeps_ite (fun _ => (keeps_set _ _ _ _ (State.restoreReg_keeps _ _ _ _ h1 h0))) (fun _ => h1))
  · exact (keeps_ite (fun _ => (keeps_set _ _ _ _ (State.restoreReg_keeps _ _ _ _ h1 h0))) (fun _ => h1))
  · exact h1

theorem State.hookPwm_keeps {s00 : State} (b s : State) (l : Lane) (a : Nat) (h0 : Keeps s00 b) (h1 : Keeps s00 s) :
    Keeps s00 (State.hookPwm b s l a) := by
  unfold State.hookPwm
  lift_lets -useContext -merge -underBinder
  intro x0 x1
  split
  · exact (keeps_ite (fun _ => (keeps_set _ _ _ _ (State.restoreReg_keeps _ _ _ _ h1 h0))) (fun _ => (keeps_ite (fun _ => (State.enableCh_keeps _ _ _ _ h1)) (fun _ => (State.syncCfgErrs_keeps _ _ (keeps_when _ _ h1 (fun _ => (State.retrip_keeps _ _ _ (Keeps.refl _)))))))))
  · exact (keeps_ite (fun _ => (keeps_set _ _ _ _ (State.restoreReg_keeps _ _ _ _ h1 h0))) (fun _ => (keeps_ite (fun _ => (State.enableCh_keeps _ _ _ _ h1)) (fun _ => (State.syncCfgErrs_keeps _ _ (keeps_when _ _ h1 (fun _ => (State.retrip_keeps _ _ _ (Keeps.refl _)))))))))
  · exact (State.dirty_keeps _ _ _ h1)
  · exact (State.dirty_keeps _ _ _ h1)
  · split
    · refine keeps_ite (fun _ => ?_) (fun _ => ?_)
      · refine keeps_ite (fun _ => ?_) (fun _ => ?_)
        · exact (State.startTb_keeps _ _ _ h1)
        · exact (State.stopTb_keeps _ _ _ h1)
      · exact h1
    · exact (State.dirty_keeps _ _ _ h1)
    · exact (State.dirty_keeps _ _ _ h1)
    · refine keeps_ite (fun _ => ?_) (fun _ => ?_)
      · exact (State.reach_keeps _ _ _ h1)
      · exact h1
    · split
      · lift_lets -useContext -merge -underBinder
        intro x4
        have hx4 : Keeps s00 x4 := (keeps_ite (fun _ => (State.modPwm_keeps _ _ _ h1)) (fun _ => h1))
        clear_value x4
        exact (State.planEvents_keeps _ _ _ _ _ hx4)
      · refine keeps_ite (fun _ => ?_) (fun _ => ?_)
        · exact (keeps_each _ _ h1 (fun _ _ => (keeps_when _ _ (Keeps.refl _) (fun _ => (State.tripAct_keeps _ _ _ _ (Keeps.refl _))))))
        · exact h1
      · refine keeps_ite (fun _ => ?_) (fun _ => ?_)
        · exact (State.syncCfgErrs_keeps _ _ h1)
        · exact h1

theorem State.hookPap_keeps {s00 : State} (b s : State) (l : Lane) (a v : Nat) (h0 : Keeps s00 b) (h1 : Keeps s00 s) :
    Keeps s00 (State.hookPap b s l a v) := by
  unfold State.hookPap
  lift_lets -useContext -merge -underBinder
  intro x0
  split
  · lift_lets -useContext -merge -underBinder
    intro x1
    have hx1 : Keeps s00 x1 := (keeps_wr _ _ _ _ _ (keeps_wr _ _ _ _ _ h1))
    clear_value x1
    exact (State.pdClear_keeps _ _ _ _ _ hx1)
  · exact (State.actSync_keeps _ _ h1)
  · refine keeps_ite (fun _ => ?_) (fun _ => ?_)
    · exact (State.lvpOff_keeps _ _ h1)
    · exact h1
  · split
    · refine keeps_ite (fun _ => ?_) (fun _ => ?_)
      · refine keeps_ite (fun _ => ?_) (fun _ => ?_)
        · exact (State.redriveAll_keeps _ _ h1)
        · exact (State.modHb_keeps _ _ _ _ (State.pdOff_keeps _ _ _ _ (State.pdOff_keeps _ _ _ _ h1)))
      · exact h1
    · exact h1

theorem State.afterWrite_keeps {s00 : State} (b s : State) (l : Lane) (d : Die) (a v : Nat) (h0 : Keeps s00 b) (h1 : Keeps s00 s) :
    Keeps s00 (State.afterWrite b s l d a v) := by
  unfold State.afterWrite
  refine keeps_ite (fun _ => ?_) (fun _ => ?_)
  · exact (State.hookPap_keeps _ _ _ _ _ h0 h1)
  · refine keeps_ite (fun _ => ?_) (fun _ => ?_)
    · refine keeps_ite (fun _ => ?_) (fun _ => ?_)
      · exact (State.bootNext_keeps _ _ _ h0)
      · refine keeps_ite (fun _ => ?_) (fun _ => ?_)
        · exact (State.hookTim_keeps _ _ _ _ h0 h1)
        · refine keeps_ite (fun _ => ?_) (fun _ => ?_)
          · exact (State.hookFixed_keeps _ _ _ _ h0 h1)
          · refine keeps_ite (fun _ => ?_) (fun _ => ?_)
            · exact (State.hookTrc_keeps _ _ _ _ h0 h1)
            · refine keeps_ite (fun _ => ?_) (fun _ => ?_)
              · exact (State.hookAdc_keeps _ _ _ _ h0 h1)
              · refine keeps_ite (fun _ => ?_) (fun _ => ?_)
                · exact (State.hookPos_keeps _ _ _ _ h0 h1)
                · refine keeps_ite (fun _ => ?_) (fun _ => ?_)
                  · exact (State.hookCe_keeps _ _ _ _ h0 h1)
                  · refine keeps_ite (fun _ => ?_) (fun _ => ?_)
                    · exact (State.hookPwm_keeps _ _ _ _ h0 h1)
                    · refine keeps_ite (fun _ => ?_) (fun _ => ?_)
                      · exact h1
                      · exact (State.syncCfgErrs_keeps _ _ h1)
    · exact h1


end Sys2Proof.Machine
end

