-- ==== Sys2Proof/Laws/KeepsKeeper.lean ====
section
/-!
SUPPORT. The operations of Machine/Keeper.lean keep what `Keeps` says (Laws/Keeps.lean).
-/
namespace Sys2Proof.Machine

theorem State.modKeep_keeps {s00 : State} (s : State) (l : Lane) (f : KeeperSt → KeeperSt) (h0 : Keeps s00 s) :
    Keeps s00 (State.modKeep s l f) := by
  refine keeps_trans h0 ?_
  unfold State.modKeep
  exact (State.modPap_keeps _ _ _ (Keeps.refl _))

theorem State.keepTake_keeps {s00 : State} (s : State) (l : Lane) (a : KeepAction) (t : Nat) (h0 : Keeps s00 s) :
    Keeps s00 (State.keepTake s l a t) := by
  refine keeps_trans h0 ?_
  unfold State.keepTake
  lift_lets -useContext -merge -underBinder
  intro x0
  have hx0 : Keeps s x0 := by
    unfold x0
    split
    · exact (keeps_set _ _ _ _ (Keeps.refl _))
    · exact (Keeps.refl _)
  clear_value x0
  intro x1
  have hx1 : Keeps s x1 := (State.modKeep_keeps _ _ _ hx0)
  clear_value x1
  split
  · exact hx1
  · exact (State.wake_keeps _ _ _ _ hx1)
  · lift_lets -useContext -merge -underBinder
    intro x2
    have hx2 : Keeps s x2 := (State.modKeep_keeps _ _ _ hx1)
    clear_value x2
    exact (Keeps.of_frame hx2 rfl rfl rfl rfl rfl)
  · exact (State.asyTrigger_keeps _ _ _ (State.modKeep_keeps _ _ _ hx1))

theorem State.keepDecide_keeps {s00 : State} (s : State) (l : Lane) (a : KeepAction) (h0 : Keeps s00 s) :
    Keeps s00 (State.keepDecide s l a) := by
  refine keeps_trans h0 ?_
  unfold State.keepDecide
  exact (State.modKeep_keeps _ _ _ (State.keepTake_keeps _ _ _ _ (Keeps.refl _)))

theorem State.keeperStore_keeps {s00 : State} (s : State) (l : Lane) (h0 : Keeps s00 s) :
    Keeps s00 (State.keeperStore s l) := by
  refine keeps_trans h0 ?_
  unfold State.keeperStore
  refine keeps_ite (fun _ => ?_) (fun _ => ?_)
  · exact (State.keepDecide_keeps _ _ _ (Keeps.refl _))
  · exact (Keeps.refl _)

theorem execBtnPress_keeps (l : Lane) (s : State) : KeepsOut s (execBtnPress l s) := by
  unfold execBtnPress
  lift_lets -useContext -merge -underBinder
  intro x0
  have hx0 : Keeps s x0 := (keeps_set _ _ _ _ (Keeps.refl _))
  clear_value x0
  exact keepsOut_next (keeps_ite (fun _ => (keeps_ite (fun _ => hx0) (fun _ => (State.modKeep_keeps _ _ _ hx0)))) (fun _ => (Keeps.refl _)))

theorem State.keepMark_keeps {s00 : State} (s : State) (l : Lane) (h0 : Keeps s00 s) :
    Keeps s00 (State.keepMark s l) := by
  refine keeps_trans h0 ?_
  unfold State.keepMark
  lift_lets -useContext -merge -underBinder
  intro x0
  have hx0 : Keeps s x0 := (State.modKeep_keeps _ _ _ (Keeps.refl _))
  clear_value x0
  intro x1
  have hx1 : Keeps s x1 := (keeps_when _ _ hx0 (fun _ => (keeps_modDep _ (Keeps.refl _))))
  clear_value x1
  refine keeps_ite (fun _ => ?_) (fun _ => ?_)
  · refine keeps_ite (fun _ => ?_) (fun _ => ?_)
    · exact (State.keepDecide_keeps _ _ _ hx0)
    · exact hx0
  · refine keeps_ite (fun _ => ?_) (fun _ => ?_)
    · exact (State.keepDecide_keeps _ _ _ hx1)
    · exact (keeps_set _ _ _ _ hx1)

theorem execBtnRelease_keeps (l : Lane) (ms_ : Nat) (s0 : State) : KeepsOut s0 (execBtnRelease l ms_ s0) := by
  unfold execBtnRelease
  lift_lets -useContext -merge -underBinder
  intro x0 x1
  have hx1 : Keeps s0 x1 := by
    unfold x1
    split
    · exact (keeps_advTo _ (Keeps.refl _))
    · exact (Keeps.refl _)
  clear_value x1
  intro x2
  have hx2 : Keeps s0 x2 := (keeps_wrSat _ _ _ _ _ (keeps_clr _ _ _ _ hx1))
  clear_value x2
  intro x3
  have hx3 : Keeps s0 x3 := (keeps_when _ _ hx2 (fun _ => (keeps_modDep _ (Keeps.refl _))))
  clear_value x3
  intro x5
  try clear_value x5
  intro x6
  have hx6 : Keeps s0 x6 := (State.modKeep_keeps _ _ _ hx3)
  clear_value x6
  exact keepsOut_next (keeps_ite (fun _ => (keeps_ite (fun _ => hx6) (fun _ => (keeps_ite (fun _ => (State.keepMark_keeps _ _ hx6)) (fun _ => (keeps_ite (fun _ => (keeps_ite (fun _ => (State.keepDecide_keeps _ _ _ hx6)) (fun _ => hx6))) (fun _ => (keeps_ite (fun _ => hx6) (fun _ => (keeps_ite (fun _ => (State.keepDecide_keeps _ _ _ hx6)) (fun _ => (keeps_set _ _ _ _ hx6)))))))))))) (fun _ => hx1))

theorem execBtnHeldMark_keeps (l : Lane) (s : State) : KeepsOut s (execBtnHeldMark l s) := by
  unfold execBtnHeldMark
  exact keepsOut_next (by
    split
    · refine keeps_ite (fun _ => ?_) (fun _ => ?_)
      · exact (State.keepMark_keeps _ _ (keeps_advTo _ (Keeps.refl _)))
      · exact (Keeps.refl _)
    · exact (Keeps.refl _)
)

theorem execBtnHeld8s_keeps (l : Lane) (s : State) : KeepsOut s (execBtnHeld8s l s) := by
  unfold execBtnHeld8s
  exact keepsOut_next (by
    split
    · refine keeps_ite (fun _ => ?_) (fun _ => ?_)
      · exact (keeps_modDep _ (keeps_advTo _ (Keeps.refl _)))
      · exact (Keeps.refl _)
    · exact (Keeps.refl _)
)

theorem execKeeperDecisionReceived_keeps (l : Lane) (s : State) : KeepsOut s (execKeeperDecisionReceived l s) := by
  unfold execKeeperDecisionReceived
  exact keepsOut_next (by
    split
    · refine keeps_ite (fun _ => ?_) (fun _ => ?_)
      · exact (State.keepTake_keeps _ _ _ _ (Keeps.refl _))
      · exact (Keeps.refl _)
    · exact (Keeps.refl _)
)

theorem State.batteryOpen_keeps {s00 : State} (s : State) (h0 : Keeps s00 s) :
    Keeps s00 (State.batteryOpen s) := by
  refine keeps_trans h0 ?_
  unfold State.batteryOpen
  lift_lets -useContext -merge -underBinder
  intro x0
  have hx0 : Keeps s x0 := (keeps_ite (fun _ => (State.depGone_keeps _ _ (Keeps.refl _))) (fun _ => (keeps_modDep _ (Keeps.refl _))))
  clear_value x0
  exact (keeps_each _ _ hx0 (fun _ _ => (State.setSupplies_keeps _ _ _ (State.papUnpower_keeps _ _ (State.islandFault_keeps _ _ _ (Keeps.refl _))))))

theorem execKeeperActionStep_keeps (l : Lane) (s : State) : KeepsOut s (execKeeperActionStep l s) := by
  unfold execKeeperActionStep
  lift_lets -useContext -merge -underBinder
  intro x0
  try clear_value x0
  exact keepsOut_next (keeps_ite (fun _ => (Keeps.refl _)) (fun _ => (by
    split
    · exact (Keeps.refl _)
    · lift_lets -useContext -merge -underBinder
      intro x1
      have hx1 : Keeps s x1 := (State.modKeep_keeps _ _ _ (keeps_advTo _ (Keeps.refl _)))
      clear_value x1
      split
      · exact (State.modKeep_keeps _ _ _ hx1)
      · lift_lets -useContext -merge -underBinder
        intro x2
        have hx2 : Keeps s x2 := (State.batteryOpen_keeps _ (State.modKeep_keeps _ _ _ hx1))
        clear_value x2
        refine keeps_ite (fun _ => ?_) (fun _ => ?_)
        · exact (Keeps.of_frame hx2 rfl rfl rfl rfl rfl)
        · exact hx2
      · exact (State.modKeep_keeps _ _ _ hx1)
      · exact (State.modKeep_keeps _ _ _ hx1)
      · exact (State.modKeep_keeps _ _ _ hx1)
)))

theorem execLampSlot_keeps (s : State) : KeepsOut s (execLampSlot s) := by
  unfold execLampSlot
  lift_lets -useContext -merge -underBinder
  intro x0
  try clear_value x0
  exact keepsOut_next (keeps_ite (fun _ => (keeps_modDep _ (Keeps.refl _))) (fun _ => (Keeps.refl _)))


end Sys2Proof.Machine
end

