-- ==== Sys2Proof/Laws/KeepsVrc.lean ====
section
/-!
SUPPORT. The operations of Machine/Vrc.lean keep what `Keeps` says (Laws/Keeps.lean).
-/
namespace Sys2Proof.Machine

theorem execVrcSettled_keeps (l : Lane) (s : State) : KeepsOut s (execVrcSettled l s) := by
  unfold execVrcSettled
  lift_lets -useContext -merge -underBinder
  intro x0
  try clear_value x0
  exact keepsOut_next (by
    split
    · exact (Keeps.refl _)
    · lift_lets -useContext -merge -underBinder
      intro x1
      have hx1 : Keeps s x1 := (keeps_advTo _ (Keeps.refl _))
      clear_value x1
      refine keeps_ite (fun _ => ?_) (fun _ => ?_)
      · exact (State.modVrc_keeps _ _ _ (State.owe_keeps _ _ _ hx1))
      · exact (Keeps.refl _)
)

theorem State.railSense_keeps {s00 : State} (s : State) (l : Lane) (m : RailSample) (h0 : Keeps s00 s) :
    Keeps s00 (State.railSense s l m) := by
  refine keeps_trans h0 ?_
  unfold State.railSense
  lift_lets -useContext -merge -underBinder
  intro x0 x1
  try clear_value x1
  intro x2
  have hx2 : Keeps1 s x2 := (State.quot_keeps _ _ _ (Keeps.refl _))
  clear_value x2
  intro x3
  try clear_value x3
  intro x4
  have hx4 : Keeps s x4 := (State.modVrc_keeps _ _ _ hx2.h)
  clear_value x4
  intro x5
  have hx5 : Keeps s x5 := (keeps_each _ _ (keeps_inc _ _ _ _ _ (keeps_wrSat _ _ _ _ _ (keeps_wrSat _ _ _ _ _ hx4))) (fun _ _ => (keeps_wrS _ _ _ _ _ (Keeps.refl _))))
  clear_value x5
  exact (State.modVrc_keeps _ _ _ hx5)

theorem execVrcUpdate_keeps (l : Lane) (m : RailSample) (s : State) : KeepsOut s (execVrcUpdate l m s) := by
  unfold execVrcUpdate
  lift_lets -useContext -merge -underBinder
  intro x0 x1
  have hx1 : Keeps s x1 := (State.modVrc_keeps _ _ _ (keeps_advTo _ (Keeps.refl _)))
  clear_value x1
  intro x2
  have hx2 : Keeps s x2 := (keeps_ite (fun _ => (State.setShed_keeps _ _ _ hx1)) (fun _ => hx1))
  clear_value x2
  intro x3
  try clear_value x3
  intro x4
  try clear_value x4
  intro x5
  try clear_value x5
  intro x6
  try clear_value x6
  intro x7
  have hx7 : Keeps1 s x7 := (State.quot_keeps _ _ _ hx2)
  clear_value x7
  intro x8
  try clear_value x8
  intro x9
  have hx9 : Keeps1 s x9 := (State.quot_keeps _ _ _ hx7.h)
  clear_value x9
  intro x10
  try clear_value x10
  intro x11
  have hx11 : Keeps1 s x11 := (State.quot_keeps _ _ _ hx9.h)
  clear_value x11
  intro x12
  try clear_value x12
  intro x13
  try clear_value x13
  intro x14
  have hx14 : Keeps s x14 := (State.modVrc_keeps _ _ _ hx11.h)
  clear_value x14
  exact keepsOut_next (keeps_ite (fun _ => (Keeps.refl _)) (fun _ => (State.railSense_keeps _ _ _ (keeps_wr _ _ _ _ _ hx14))))

theorem execVrcShed_keeps (l : Lane) (s : State) : KeepsOut s (execVrcShed l s) := by
  unfold execVrcShed
  exact keepsOut_next (by
    split
    · exact (Keeps.refl _)
    · lift_lets -useContext -merge -underBinder
      intro x0
      have hx0 : Keeps s x0 := (keeps_advTo _ (Keeps.refl _))
      clear_value x0
      refine keeps_ite (fun _ => ?_) (fun _ => ?_)
      · exact (State.setShed_keeps _ _ _ hx0)
      · exact (Keeps.refl _)
)

theorem execVrcShedRampEnd_keeps (l : Lane) (s : State) : KeepsOut s (execVrcShedRampEnd l s) := by
  unfold execVrcShedRampEnd
  lift_lets -useContext -merge -underBinder
  intro x0
  try clear_value x0
  intro x1
  have hx1 : Keeps s x1 := (keeps_advTo _ (Keeps.refl _))
  clear_value x1
  intro x2
  have hx2 : Keeps s x2 := (keeps_inc _ _ _ _ _ (State.setShed_keeps _ _ _ hx1))
  clear_value x2
  exact keepsOut_next (keeps_ite (fun _ => (keeps_ite (fun _ => (State.setShed_keeps _ _ _ hx2)) (fun _ => hx2))) (fun _ => (Keeps.refl _)))

theorem execVrcRestore_keeps (l : Lane) (s : State) : KeepsOut s (execVrcRestore l s) := by
  unfold execVrcRestore
  exact keepsOut_next (keeps_ite (fun _ => (State.vrcRestore_keeps _ _ (Keeps.refl _))) (fun _ => (Keeps.refl _)))


end Sys2Proof.Machine
end

