-- ==== Sys2Proof/Laws/KeepsAccess.lean ====
section
/-!
SUPPORT. The operations of Machine/Access.lean keep what `Keeps` says (Laws/Keeps.lean).
-/
namespace Sys2Proof.Machine

theorem State.writeField_keeps {s00 : State} (s : State) (l : Lane) (d : Die) (x : Fld × Nat × Nat) (v : Nat) (h0 : Keeps s00 s) :
    Keeps s00 (State.writeField s l d x v) := by
  refine keeps_trans h0 ?_
  unfold State.writeField
  lift_lets -useContext -merge -underBinder
  intro x0
  try clear_value x0
  intro x1
  try clear_value x1
  intro x2
  try clear_value x2
  intro x3
  try clear_value x3
  intro x4
  try clear_value x4
  split
  · exact (keeps_wr _ _ _ _ _ (Keeps.refl _))
  · exact (keeps_wr _ _ _ _ _ (Keeps.refl _))
  · refine keeps_ite (fun _ => ?_) (fun _ => ?_)
    · exact (Keeps.refl _)
    · exact (keeps_wr _ _ _ _ _ (Keeps.refl _))
  · exact (keeps_wr _ _ _ _ _ (Keeps.refl _))
  · exact (Keeps.refl _)
  · exact (Keeps.refl _)
  · exact (Keeps.refl _)

theorem State.writeReg_keeps {s00 : State} (s : State) (l : Lane) (who : Initiator) (d : Die) (a v : Nat) (h0 : Keeps s00 s) :
    Keeps s00 (State.writeReg s l who d a v) := by
  refine keeps_trans h0 ?_
  unfold State.writeReg
  lift_lets -useContext -merge -underBinder
  intro x0
  try clear_value x0
  refine keeps_ite (fun _ => ?_) (fun _ => ?_)
  · exact (State.accessError_keeps _ _ _ _ _ _ (Keeps.refl _))
  · refine keeps_ite (fun _ => ?_) (fun _ => ?_)
    · exact (State.accessError_keeps _ _ _ _ _ _ (Keeps.refl _))
    · refine keeps_ite (fun _ => ?_) (fun _ => ?_)
      · exact (Keeps.refl _)
      · refine keeps_ite (fun _ => ?_) (fun _ => ?_)
        · exact (State.accessError_keeps _ _ _ _ _ _ (Keeps.refl _))
        · split
          · exact (State.soCmd_keeps _ _ _ _ _ (Keeps.refl _))
          · lift_lets -useContext -merge -underBinder
            intro x1
            have hx1 : Keeps s x1 := (keeps_each _ _ (Keeps.refl _) (fun _ _ => (State.writeField_keeps _ _ _ _ _ (Keeps.refl _))))
            clear_value x1
            intro x4
            have hx4 : Keeps s x4 := (State.afterWrite_keeps _ _ _ _ _ _ (Keeps.refl _) hx1)
            clear_value x4
            refine keeps_ite (fun _ => ?_) (fun _ => ?_)
            · exact (State.accessError_keeps _ _ _ _ _ _ hx4)
            · exact hx4

theorem State.clearRc_keeps {s00 : State} (s : State) (d : Die) (a : Nat) (h0 : Keeps s00 s) :
    Keeps s00 (State.clearRc s d a) := by
  refine keeps_trans h0 ?_
  unfold State.clearRc
  exact (keeps_each _ _ (Keeps.refl _) (fun _ _ => (keeps_ite (fun _ => (keeps_wr _ _ _ _ _ (Keeps.refl _))) (fun _ => (Keeps.refl _)))))

theorem State.readReg_keeps {s00 : State} (s : State) (l : Lane) (d : Die) (a : Nat) (h0 : Keeps s00 s) :
    Keeps1 s00 (s.readReg l d a) := by
  unfold State.readReg
  lift_lets -useContext -merge -underBinder
  intro w k
  clear_value w
  refine keeps1_ite (fun _ => keeps1_ite (fun _ => keeps1_free _ h0) fun _ => ⟨h0⟩) fun _ =>
    keeps1_ite (fun _ => ⟨(keeps1_free 32 h0).h⟩) fun _ => keeps1_ite (fun _ => ⟨?_⟩) fun _ =>
    keeps1_ite (fun _ => ⟨?_⟩) fun _ => ⟨State.clearRc_keeps _ _ _ h0⟩
  · exact keeps_latch _ _ _ h0
  · exact keeps_latch _ _ _ h0

theorem State.writeMem_keeps {s00 : State} (s : State) (l : Lane) (who : Initiator) (width a v : Nat) (h0 : Keeps s00 s) :
    Keeps s00 (State.writeMem s l who width a v) := by
  refine keeps_trans h0 ?_
  unfold State.writeMem
  lift_lets -useContext -merge -underBinder
  intro x0
  try clear_value x0
  refine keeps_ite (fun _ => ?_) (fun _ => ?_)
  · exact (State.accessError_keeps _ _ _ _ _ _ (Keeps.refl _))
  · exact (State.setBytes_keeps _ _ _ _ (Keeps.refl _))

theorem State.writeAccess_keeps {s00 : State} (s : State) (l : Lane) (who : Initiator) (width a v : Nat) (h0 : Keeps s00 s) :
    Keeps s00 (State.writeAccess s l who width a v) := by
  refine keeps_trans h0 ?_
  unfold State.writeAccess
  split
  · exact (State.accessError_keeps _ _ _ _ _ _ (Keeps.refl _))
  · exact (State.accessError_keeps _ _ _ _ _ _ (Keeps.refl _))
  · exact (State.accessError_keeps _ _ _ _ _ _ (Keeps.refl _))
  · exact (State.accessError_keeps _ _ _ _ _ _ (Keeps.refl _))
  · refine keeps_ite (fun _ => ?_) (fun _ => ?_)
    · exact (State.writeMem_keeps _ _ _ _ _ _ (Keeps.refl _))
    · exact (State.accessError_keeps _ _ _ _ _ _ (Keeps.refl _))
  · refine keeps_ite (fun _ => ?_) (fun _ => ?_)
    · exact (State.writeMem_keeps _ _ _ _ _ _ (Keeps.refl _))
    · exact (State.accessError_keeps _ _ _ _ _ _ (Keeps.refl _))
  · exact (State.writeMem_keeps _ _ _ _ _ _ (Keeps.refl _))
  · refine keeps_ite (fun _ => ?_) (fun _ => ?_)
    · exact (State.accessError_keeps _ _ _ _ _ _ (Keeps.refl _))
    · exact (keeps_setTable _ _ _ (Keeps.refl _))
  · refine keeps_ite (fun _ => ?_) (fun _ => ?_)
    · exact (State.accessError_keeps _ _ _ _ _ _ (Keeps.refl _))
    · refine keeps_ite (fun _ => ?_) (fun _ => ?_)
      · exact (State.accessError_keeps _ _ _ _ _ _ (Keeps.refl _))
      · refine keeps_ite (fun _ => ?_) (fun _ => ?_)
        · exact (State.accessError_keeps _ _ _ _ _ _ (Keeps.refl _))
        · exact (State.writeReg_keeps _ _ _ _ _ _ (Keeps.refl _))

theorem State.ret_keeps {s00 : State} (s : State) (l : Lane) (v : Nat) (h0 : Keeps s00 s) :
    Keeps s00 (State.ret s l v) := by
  refine keeps_trans h0 ?_
  unfold State.ret
  exact (keeps_modRun _ _ (Keeps.refl _) fun _ hr => hr)

theorem State.readError_keeps {s00 : State} (s : State) (l : Lane) (who : Initiator) (a : Nat) (r : Reason) (h0 : Keeps s00 s) :
    Keeps s00 (State.readError s l who a r) := by
  refine keeps_trans h0 ?_
  unfold State.readError
  exact (State.ret_keeps _ _ _ (State.accessError_keeps _ _ _ _ _ _ (Keeps.refl _)))

theorem State.readMem_keeps {s00 : State} (s : State) (l : Lane) (who : Initiator) (width a : Nat) (h0 : Keeps s00 s) :
    Keeps s00 (State.readMem s l who width a) := by
  refine keeps_trans h0 ?_
  unfold State.readMem
  lift_lets -useContext -merge -underBinder
  intro x0
  try clear_value x0
  refine keeps_ite (fun _ => ?_) (fun _ => ?_)
  · exact (State.readError_keeps _ _ _ _ _ (Keeps.refl _))
  · exact (State.ret_keeps _ _ _ (Keeps.refl _))

theorem State.readConfig_keeps {s00 : State} (s : State) (l : Lane) (who : Initiator) (width a : Nat) (h0 : Keeps s00 s) :
    Keeps s00 (State.readConfig s l who width a) := by
  refine keeps_trans h0 ?_
  unfold State.readConfig
  lift_lets -useContext -merge -underBinder
  intro x0
  try clear_value x0
  refine keeps_ite (fun _ => ?_) (fun _ => ?_)
  · exact (State.readError_keeps _ _ _ _ _ (Keeps.refl _))
  · split
    · exact (State.ret_keeps _ _ _ (Keeps.refl _))
    · exact (State.ret_keeps _ _ _ (keeps1_free _ (Keeps.refl _)).h)

theorem State.readAccess_keeps {s00 : State} (s : State) (l : Lane) (who : Initiator) (width a : Nat) (h0 : Keeps s00 s) :
    Keeps s00 (State.readAccess s l who width a) := by
  refine keeps_trans h0 ?_
  unfold State.readAccess
  split
  · exact (State.readError_keeps _ _ _ _ _ (Keeps.refl _))
  · exact (State.ret_keeps _ _ _ (keeps1_free _ (Keeps.refl _)).h)
  · exact (State.readConfig_keeps _ _ _ _ _ (Keeps.refl _))
  · refine keeps_ite (fun _ => ?_) (fun _ => ?_)
    · exact (State.readError_keeps _ _ _ _ _ (Keeps.refl _))
    · exact (State.ret_keeps _ _ _ (Keeps.refl _))
  · refine keeps_ite (fun _ => ?_) (fun _ => ?_)
    · exact (State.readMem_keeps _ _ _ _ _ (Keeps.refl _))
    · exact (State.readError_keeps _ _ _ _ _ (Keeps.refl _))
  · refine keeps_ite (fun _ => ?_) (fun _ => ?_)
    · exact (State.readMem_keeps _ _ _ _ _ (Keeps.refl _))
    · exact (State.readError_keeps _ _ _ _ _ (Keeps.refl _))
  · exact (State.readMem_keeps _ _ _ _ _ (Keeps.refl _))
  · refine keeps_ite (fun _ => ?_) (fun _ => ?_)
    · exact (State.readError_keeps _ _ _ _ _ (Keeps.refl _))
    · exact (State.ret_keeps _ _ _ (Keeps.refl _))
  · refine keeps_ite (fun _ => ?_) (fun _ => ?_)
    · exact (State.readError_keeps _ _ _ _ _ (Keeps.refl _))
    · refine keeps_ite (fun _ => ?_) (fun _ => ?_)
      · exact (State.readError_keeps _ _ _ _ _ (Keeps.refl _))
      · refine keeps_ite (fun _ => ?_) (fun _ => ?_)
        · exact (State.readError_keeps _ _ _ _ _ (Keeps.refl _))
        · refine keeps_ite (fun _ => ?_) (fun _ => ?_)
          · exact (State.readError_keeps _ _ _ _ _ (Keeps.refl _))
          · refine keeps_ite (fun _ => ?_) (fun _ => ?_)
            · exact (State.talPop_keeps _ _ (Keeps.refl _))
            · refine keeps_ite (fun _ => ?_) (fun _ => ?_)
              · exact (State.adcPop_keeps _ _ _ (Keeps.refl _))
              · exact (State.ret_keeps _ _ _ (State.readReg_keeps _ _ _ _ (Keeps.refl _)).h)

theorem execRegisterWrite_keeps (l : Lane) (who : Initiator) (width addr value : Nat) (s : State) : KeepsOut s (execRegisterWrite l who width addr value s) := by
  unfold execRegisterWrite
  exact keepsOut_next (keeps_ite (fun _ => (State.writeAccess_keeps _ _ _ _ _ _ (Keeps.refl _))) (fun _ => (Keeps.refl _)))

theorem execReadLowWordLatch_keeps (l : Lane) (who : Initiator) (width addr : Nat) (s : State) : KeepsOut s (execReadLowWordLatch l who width addr s) := by
  unfold execReadLowWordLatch
  exact keepsOut_next (keeps_ite (fun _ => (State.readAccess_keeps _ _ _ _ _ (Keeps.refl _))) (fun _ => (Keeps.refl _)))


end Sys2Proof.Machine
end

