-- ==== Sys2Proof/Laws/KeepsLink.lean ====
section
/-!
SUPPORT. The operations of Machine/Link.lean keep what `Keeps` says (Laws/Keeps.lean).
-/
namespace Sys2Proof.Machine

theorem execLinkFrameState_keeps (l : Lane) (flips : List (BitVec 8)) (s : State) : KeepsOut s (execLinkFrameState l flips s) := by
  unfold execLinkFrameState
  exact keepsOut_next (State.frame_keeps _ _ _ _ _ _ _ _ _ _ (Keeps.refl _) (fun _ => (Keeps.refl _)) (fun _ => (State.stateGot_keeps _ _ (Keeps.refl _))))

theorem execLinkFrameIdle_keeps (l : Lane) (flips : List (BitVec 8)) (s : State) : KeepsOut s (execLinkFrameIdle l flips s) := by
  unfold execLinkFrameIdle
  exact keepsOut_next (State.frame_keeps _ _ _ _ _ _ _ _ _ _ (Keeps.refl _) (fun _ => (Keeps.refl _)) (fun _ => (Keeps.refl _)))

theorem execLinkFrameIn_keeps (l : Lane) (flips : List (BitVec 8)) (s : State) : KeepsOut s (execLinkFrameIn l flips s) := by
  unfold execLinkFrameIn
  lift_lets -useContext -merge -underBinder
  intro x0
  exact keepsOut_next (by
    split
    · exact (Keeps.refl _)
    · exact (State.frame_keeps _ _ _ _ _ _ _ _ _ _ (Keeps.refl _) (fun _ => (State.modLnk_keeps _ _ _ (Keeps.refl _))) (fun y2 => (keeps_ite (fun _ => (by
        lift_lets -useContext -merge -underBinder
        intro x3
        have hx3 : Keeps y2 x3 := (keeps_each _ _ (Keeps.refl _) (fun _ _ => (keeps_set _ _ _ _ (keeps_wr _ _ _ _ _ (keeps_wr _ _ _ _ _ (Keeps.refl _))))))
        clear_value x3
        exact (keeps_modRun _ _ hx3 fun _ hr => hr)
)) (fun _ => (Keeps.refl _)))))
)

theorem execLinkFrameCmp_keeps (l : Lane) (flips : List (BitVec 8)) (s : State) : KeepsOut s (execLinkFrameCmp l flips s) := by
  unfold execLinkFrameCmp
  lift_lets -useContext -merge -underBinder
  intro x0
  exact keepsOut_next (by
    split
    · exact (Keeps.refl _)
    · exact (State.frame_keeps _ _ _ _ _ _ _ _ _ _ (Keeps.refl _) (fun _ => (State.modLnk_keeps _ _ _ (Keeps.refl _))) (fun _ => (keeps_ite (fun _ => (keeps_modRun _ _ (keeps_each _ _ (Keeps.refl _) (fun _ _ => (keeps_wr _ _ _ _ _ (Keeps.refl _)))) fun _ hr => hr)) (fun _ => (Keeps.refl _)))))
)

theorem execLinkFrameCopy_keeps (l : Lane) (flips : List (BitVec 8)) (s : State) : KeepsOut s (execLinkFrameCopy l flips s) := by
  unfold execLinkFrameCopy
  lift_lets -useContext -merge -underBinder
  intro x0
  try clear_value x0
  exact keepsOut_next (by
    split
    · exact (Keeps.refl _)
    · exact (State.frame_keeps _ _ _ _ _ _ _ _ _ _ (Keeps.refl _) (fun _ => (State.modLnk_keeps _ _ _ (Keeps.refl _))) (fun _ => (keeps_ite (fun _ => (State.modLnk_keeps _ _ _ (Keeps.refl _))) (fun _ => (Keeps.refl _)))))
)

theorem State.reportSig_keeps {s00 : State} (s : State) (l : Lane) (cycle sig : Nat) (match_ : Bool) (h0 : Keeps s00 s) :
    Keeps s00 (State.reportSig s l cycle sig match_) := by
  refine keeps_trans h0 ?_
  unfold State.reportSig
  refine keeps_ite (fun _ => ?_) (fun _ => ?_)
  · exact (keeps_modDepLane _ _ (keeps_wr _ _ _ _ _ (keeps_put _ _ _ _ _ (keeps_wr _ _ _ _ _ (Keeps.refl _)))))
  · exact (Keeps.refl _)

theorem execLinkFrameCopyEnd_keeps (l : Lane) (flips : List (BitVec 8)) (wrong : BitVec 32) (s : State) : KeepsOut s (execLinkFrameCopyEnd l flips wrong s) := by
  unfold execLinkFrameCopyEnd
  lift_lets -useContext -merge -underBinder
  intro x0
  try clear_value x0
  intro x1
  exact keepsOut_next (by
    split
    · exact (Keeps.refl _)
    · lift_lets -useContext -merge -underBinder
      intro x2
      try clear_value x2
      intro x3
      try clear_value x3
      exact (State.frame_keeps _ _ _ _ _ _ _ _ _ _ (Keeps.refl _) (fun _ => (State.reportSig_keeps _ _ _ _ _ (keeps_wr _ _ _ _ _ (keeps_set _ _ _ _ (State.modLnk_keeps _ _ _ (Keeps.refl _)))))) (fun y5 => (keeps_ite (fun _ => (by
        lift_lets -useContext -merge -underBinder
        intro x6
        try clear_value x6
        intro x7
        have hx7 : Keeps y5 x7 := (State.modLnk_keeps _ _ _ (Keeps.refl _))
        clear_value x7
        split
        · lift_lets -useContext -merge -underBinder
          intro x8
          try clear_value x8
          intro x9
          try clear_value x9
          intro x10
          have hx10 : Keeps y5 x10 := (State.reportSig_keeps _ _ _ _ _ (keeps_wr _ _ _ _ _ (keeps_wr _ _ _ _ _ hx7)))
          clear_value x10
          refine keeps_ite (fun _ => ?_) (fun _ => ?_)
          · exact (State.modLnk_keeps _ _ _ hx10)
          · exact (State.modLnk_keeps _ _ _ hx7)
        · exact (State.modLnk_keeps _ _ _ hx7)
)) (fun _ => (Keeps.refl _)))))
)

theorem execLinkFrameAck_keeps (l : Lane) (flips : List (BitVec 8)) (s : State) : KeepsOut s (execLinkFrameAck l flips s) := by
  unfold execLinkFrameAck
  exact keepsOut_next (by
    split
    · exact (Keeps.refl _)
    · exact (State.frame_keeps _ _ _ _ _ _ _ _ _ _ (Keeps.refl _) (fun _ => (State.modLnk_keeps _ _ _ (Keeps.refl _))) (fun y1 => (by
        split
        · refine keeps_ite (fun _ => ?_) (fun _ => ?_)
          · exact (Keeps.refl _)
          · refine keeps_ite (fun _ => ?_) (fun _ => ?_)
            · exact (State.post_keeps _ _ _ _ (State.modLnk_keeps _ _ _ (keeps_set _ _ _ _ (Keeps.refl _))))
            · exact (State.copyResend_keeps _ _ (Keeps.refl _))
        · exact (Keeps.refl _)
)))
)

theorem execCopyAckTimeout_keeps (l : Lane) (s : State) : KeepsOut s (execCopyAckTimeout l s) := by
  unfold execCopyAckTimeout
  exact keepsOut_next (keeps_ite (fun _ => (State.copyResend_keeps _ _ (keeps_advTo _ (Keeps.refl _)))) (fun _ => (Keeps.refl _)))

theorem execLaneLinkLost_keeps (l : Lane) (s : State) : KeepsOut s (execLaneLinkLost l s) := by
  unfold execLaneLinkLost
  lift_lets -useContext -merge -underBinder
  intro x0 x1
  have hx1 : Keeps s x1 := (keeps_advTo _ (Keeps.refl _))
  clear_value x1
  intro x2
  have hx2 : Keeps s x2 := (keeps_inc _ _ _ _ _ (keeps_set _ _ _ _ (keeps_clr _ _ _ _ hx1)))
  clear_value x2
  intro x3
  have hx3 : Keeps s x3 := (State.modLnk_keeps _ _ _ hx2)
  clear_value x3
  exact keepsOut_next (keeps_ite (fun _ => (State.log_keeps _ _ _ _ (State.irq_keeps _ _ _ _ hx3))) (fun _ => (Keeps.refl _)))

theorem execSnapshotPeriod_keeps (l : Lane) (s : State) : KeepsOut s (execSnapshotPeriod l s) := by
  unfold execSnapshotPeriod
  lift_lets -useContext -merge -underBinder
  intro x0
  exact keepsOut_next (keeps_ite (fun _ => (State.snapSubmit_keeps _ _ (keeps_advTo _ (Keeps.refl _)))) (fun _ => (Keeps.refl _)))

theorem execSnapNow_keeps (l : Lane) (s : State) : KeepsOut s (execSnapNow l s) := by
  unfold execSnapNow
  exact keepsOut_next (keeps_ite (fun _ => (State.snapSubmit_keeps _ _ (Keeps.refl _))) (fun _ => (Keeps.refl _)))

theorem execSnapshotSearchEnd_keeps (l : Lane) (flips : List (BitVec 8)) (s : State) : KeepsOut s (execSnapshotSearchEnd l flips s) := by
  unfold execSnapshotSearchEnd
  lift_lets -useContext -merge -underBinder
  intro x0 x1
  have hx1 : Keeps s x1 := by
    unfold x1
    split
    · exact (keeps_wr _ _ _ _ _ (Keeps.refl _))
    · exact (Keeps.refl _)
  clear_value x1
  intro x2
  try clear_value x2
  exact keepsOut_next (keeps_ite (fun _ => (by
    split
    · exact (State.coldNext_keeps _ _ (keeps_set _ _ _ _ hx1))
    · lift_lets -useContext -merge -underBinder
      intro x3
      have hx3 : Keeps s x3 := (keeps_wrSat _ _ _ _ _ (keeps_set _ _ _ _ (State.setBytes_keeps _ _ _ _ hx1)))
      clear_value x3
      intro x4
      have hx4 : Keeps s x4 := by
        unfold x4
        split
        · refine keeps_ite (fun _ => ?_) (fun _ => ?_)
          · exact (keeps_set _ _ _ _ (State.applySet_keeps _ _ _ _ hx3))
          · exact hx3
        · exact hx3
      clear_value x4
      exact (State.coldNext_keeps _ _ hx4)
)) (fun _ => (Keeps.refl _)))

theorem execHandover_keeps (l : Lane) (s : State) : KeepsOut s (execHandover l s) := by
  unfold execHandover
  lift_lets -useContext -merge -underBinder
  intro x0 x1
  try clear_value x1
  exact keepsOut_next (keeps_ite (fun _ => (keeps_ite (fun _ => (State.modLnk_keeps _ _ _ (keeps_set _ _ _ _ (keeps_wr _ _ _ _ _ (Keeps.refl _))))) (fun _ => (keeps_wr _ _ _ _ _ (Keeps.refl _))))) (fun _ => (Keeps.refl _)))


end Sys2Proof.Machine
end

