-- ==== Sys2Proof/Laws/KeepsChassis.lean ====
section
/-!
SUPPORT. The operations of Machine/Chassis.lean keep what `Keeps` says (Laws/Keeps.lean).
-/
namespace Sys2Proof.Machine

theorem State.modChs_keeps {s00 : State} (s : State) (l : Lane) (f : ChassisSt → ChassisSt) (h0 : Keeps s00 s) :
    Keeps s00 (State.modChs s l f) := by
  refine keeps_trans h0 ?_
  unfold State.modChs
  exact (keeps_modRun _ _ (Keeps.refl _) fun _ hr => hr)

theorem State.takeInput_keeps {s00 : State} (s : State) (l : Lane) (k : Fin 4) (h0 : Keeps s00 s) :
    Keeps s00 (State.takeInput s l k) := by
  refine keeps_trans h0 ?_
  unfold State.takeInput
  lift_lets -useContext -merge -underBinder
  intro x0 x1
  try clear_value x1
  refine keeps_ite (fun _ => ?_) (fun _ => ?_)
  · exact (keeps_clr _ _ _ _ (Keeps.refl _))
  · refine keeps_ite (fun _ => ?_) (fun _ => ?_)
    · exact (State.modChs_keeps _ _ _ (keeps_set _ _ _ _ (keeps_wr _ _ _ _ _ (Keeps.refl _))))
    · exact (keeps_clr _ _ _ _ (keeps_wr _ _ _ _ _ (Keeps.refl _)))

theorem State.nodeCycle_keeps {s00 : State} (s : State) (l : Lane) (h0 : Keeps s00 s) :
    Keeps s00 (State.nodeCycle s l) := by
  refine keeps_trans h0 ?_
  unfold State.nodeCycle
  lift_lets -useContext -merge -underBinder
  intro x0 x1
  try clear_value x1
  intro x2
  have hx2 : Keeps s x2 := (keeps_wr _ _ _ _ _ (keeps_wr _ _ _ _ _ (Keeps.refl _)))
  clear_value x2
  intro x3
  try clear_value x3
  intro x4
  have hx4 : Keeps s x4 := (keeps_ite (fun _ => (keeps_ite (fun _ => (keeps_inc _ _ _ _ _ hx2)) (fun _ => (keeps_wr _ _ _ _ _ hx2)))) (fun _ => hx2))
  clear_value x4
  exact (State.modChs_keeps _ _ _ hx4)

theorem execChassisBoundary_keeps (l : Lane) (s : State) : KeepsOut s (execChassisBoundary l s) := by
  unfold execChassisBoundary
  lift_lets -useContext -merge -underBinder
  intro x0 x1
  try clear_value x1
  intro x2
  try clear_value x2
  intro x3
  try clear_value x3
  intro x4
  have hx4 : Keeps s x4 := (keeps_when _ _ (State.event_keeps _ _ _ (keeps_advTo _ (Keeps.refl _))) (fun _ => (State.nodeCycle_keeps _ _ (Keeps.refl _))))
  clear_value x4
  intro x6
  have hx6 : Keeps s x6 := (keeps_each _ _ (keeps_wr _ _ _ _ _ (keeps_set _ _ _ _ hx4)) (fun _ _ => (State.takeInput_keeps _ _ _ (Keeps.refl _))))
  clear_value x6
  intro x9
  have hx9 : Keeps s x9 := (keeps_each _ _ hx6 (fun _ _ => (keeps_clr _ _ _ _ (Keeps.refl _))))
  clear_value x9
  intro x12
  try clear_value x12
  intro x13
  have hx13 : Keeps s x13 := (keeps_ite (fun _ => (keeps_inc _ _ _ _ _ hx9)) (fun _ => (keeps_wr _ _ _ _ _ hx9)))
  clear_value x13
  intro x14
  try clear_value x14
  exact keepsOut_next (keeps_ite (fun _ => (State.modLnk_keeps _ _ _ (State.modChs_keeps _ _ _ hx13))) (fun _ => (keeps_clr _ _ _ _ (Keeps.refl _))))

theorem execChassisSeal_keeps (l : Lane) (s : State) : KeepsOut s (execChassisSeal l s) := by
  unfold execChassisSeal
  lift_lets -useContext -merge -underBinder
  intro x0 x1
  try clear_value x1
  intro x2
  try clear_value x2
  exact keepsOut_next (keeps_ite (fun _ => (keeps_wr _ _ _ _ _ (State.modLnk_keeps _ _ _ (State.modChs_keeps _ _ _ (Keeps.refl _))))) (fun _ => (Keeps.refl _)))

theorem execChassisCmdDeadline_keeps (l : Lane) (s : State) : KeepsOut s (execChassisCmdDeadline l s) := by
  unfold execChassisCmdDeadline
  lift_lets -useContext -merge -underBinder
  intro x0 x1
  try clear_value x1
  intro x2
  have hx2 : Keeps s x2 := (State.modChs_keeps _ _ _ (keeps_advTo _ (Keeps.refl _)))
  clear_value x2
  intro x3
  have hx3 : Keeps s x3 := (keeps_set _ _ _ _ (keeps_inc _ _ _ _ _ (keeps_inc _ _ _ _ _ hx2)))
  clear_value x3
  exact keepsOut_next (keeps_ite (fun _ => (State.logIf_keeps _ _ _ _ _ _ (State.irq_keeps _ _ _ _ hx3))) (fun _ => (Keeps.refl _)))

theorem execChassisCompare_keeps (l : Lane) (s : State) : KeepsOut s (execChassisCompare l s) := by
  unfold execChassisCompare
  lift_lets -useContext -merge -underBinder
  intro x0 x1
  try clear_value x1
  exact keepsOut_next (by
    split
    · exact (Keeps.refl _)
    · lift_lets -useContext -merge -underBinder
      intro x2
      try clear_value x2
      intro x3
      have hx3 : Keeps s x3 := (keeps_ite (fun _ => (keeps_advTo _ (Keeps.refl _))) (fun _ => (Keeps.refl _)))
      clear_value x3
      intro x4
      try clear_value x4
      intro x5
      try clear_value x5
      intro x6
      have hx6 : Keeps s x6 := (keeps_put _ _ _ _ _ (keeps_put _ _ _ _ _ hx3))
      clear_value x6
      intro x7
      have hx7 : Keeps s x7 := (keeps_ite (fun _ => (keeps_inc _ _ _ _ _ hx6)) (fun _ => (keeps_ite (fun _ => (State.logIf_keeps _ _ _ _ _ _ (State.irq_keeps _ _ _ _ (keeps_set _ _ _ _ (keeps_inc _ _ _ _ _ (keeps_inc _ _ _ _ _ hx6)))))) (fun _ => (keeps_wr _ _ _ _ _ hx6)))))
      clear_value x7
      intro x8
      try clear_value x8
      intro x9
      try clear_value x9
      intro x10
      try clear_value x10
      intro x11
      try clear_value x11
      intro x12
      have hx12 : Keeps s x12 := (State.modChs_keeps _ _ _ (keeps_put _ _ _ _ _ hx7))
      clear_value x12
      intro x13
      try clear_value x13
      refine keeps_ite (fun _ => ?_) (fun _ => ?_)
      · exact (Keeps.refl _)
      · exact (State.chassisSend_keeps _ _ _ _ hx12)
)

theorem execChassisNodeFrame_keeps (l : Lane) (s : State) : KeepsOut s (execChassisNodeFrame l s) := by
  unfold execChassisNodeFrame
  lift_lets -useContext -merge -underBinder
  intro x0
  exact keepsOut_next (by
    split
    · exact (Keeps.refl _)
    · lift_lets -useContext -merge -underBinder
      intro x1
      have hx1 : Keeps s x1 := (State.modChs_keeps _ _ _ (Keeps.refl _))
      clear_value x1
      refine keeps_ite (fun _ => ?_) (fun _ => ?_)
      · exact (keeps_each _ _ hx1 (fun _ _ => (keeps_when _ _ (Keeps.refl _) (fun _ => (State.modChs_keeps _ _ _ (Keeps.refl _))))))
      · exact hx1
)

theorem State.chsDeclare_keeps {s00 : State} (s : State) (l : Lane) (c : FaultClass) (h0 : Keeps s00 s) :
    Keeps s00 (State.chsDeclare s l c) := by
  refine keeps_trans h0 ?_
  unfold State.chsDeclare
  refine keeps_ite (fun _ => ?_) (fun _ => ?_)
  · exact (Keeps.refl _)
  · exact (State.laneDeclare_keeps _ _ _ (Keeps.refl _))

theorem execNetworkLossCount_keeps (l : Lane) (s : State) : KeepsOut s (execNetworkLossCount l s) := by
  unfold execNetworkLossCount
  lift_lets -useContext -merge -underBinder
  intro x0 x1
  try clear_value x1
  exact keepsOut_next (keeps_ite (fun _ => (State.chsDeclare_keeps _ _ _ (Keeps.refl _))) (fun _ => (Keeps.refl _)))

theorem execSensorLossCount_keeps (l : Lane) (s : State) : KeepsOut s (execSensorLossCount l s) := by
  unfold execSensorLossCount
  lift_lets -useContext -merge -underBinder
  intro x0
  exact keepsOut_next (keeps_ite (fun _ => (State.chsDeclare_keeps _ _ _ (Keeps.refl _))) (fun _ => (Keeps.refl _)))

theorem execDisagreeCount_keeps (l : Lane) (s : State) : KeepsOut s (execDisagreeCount l s) := by
  unfold execDisagreeCount
  lift_lets -useContext -merge -underBinder
  intro x0
  exact keepsOut_next (keeps_ite (fun _ => (State.chsDeclare_keeps _ _ _ (Keeps.refl _))) (fun _ => (Keeps.refl _)))


end Sys2Proof.Machine
end

