-- ==== Sys2Proof/Laws/KeepsCvu.lean ====
section
/-!
SUPPORT. The operations of Machine/Cvu.lean keep what `Keeps` says (Laws/Keeps.lean).
-/
namespace Sys2Proof.Machine

theorem State.modCvu_keeps {s00 : State} (s : State) (l : Lane) (n : Fin 4) (f : CvuSt → CvuSt) (h0 : Keeps s00 s) :
    Keeps s00 (State.modCvu s l n f) := by
  refine keeps_trans h0 ?_
  unfold State.modCvu
  exact (keeps_modRun _ _ (Keeps.refl _) fun _ hr => hr)

theorem State.cvuFeed_keeps {s00 : State} (s : State) (l : Lane) (who : Initiator) (n : Fin 4) (o : Nat) (bs : List Nat) (differ : Bool) (h0 : Keeps s00 s) :
    Keeps s00 (State.cvuFeed s l who n o bs differ) := by
  refine keeps_trans h0 ?_
  unfold State.cvuFeed
  lift_lets -useContext -merge -underBinder
  intro x0 x1
  have hx1 : Keeps s x1 := (State.modCvu_keeps _ _ _ _ (Keeps.refl _))
  clear_value x1
  intro x2
  have hx2 : Keeps s x2 := (keeps_wr _ _ _ _ _ (keeps_inc _ _ _ _ _ hx1))
  clear_value x2
  refine keeps_ite (fun _ => ?_) (fun _ => ?_)
  · exact (Keeps.refl _)
  · refine keeps_ite (fun _ => ?_) (fun _ => ?_)
    · exact (keeps_set _ _ _ _ (Keeps.refl _))
    · refine keeps_ite (fun _ => ?_) (fun _ => ?_)
      · exact (State.accessError_keeps _ _ _ _ _ _ (Keeps.refl _))
      · exact (keeps_when _ _ hx2 (fun _ => (State.irq_keeps _ _ _ _ (keeps_set _ _ _ _ (Keeps.refl _)))))

theorem State.cvuClose_keeps {s00 : State} (s : State) (l : Lane) (n : Fin 4) (h0 : Keeps s00 s) :
    Keeps s00 (State.cvuClose s l n) := by
  refine keeps_trans h0 ?_
  unfold State.cvuClose
  lift_lets -useContext -merge -underBinder
  intro x0
  exact (keeps_wrBit _ _ _ _ _ (keeps_clr _ _ _ _ (Keeps.refl _)))

theorem execCvuStart_keeps (l : Lane) (who : Initiator) (n : Fin 4) (s : State) : KeepsOut s (execCvuStart l who n s) := by
  unfold execCvuStart
  lift_lets -useContext -merge -underBinder
  intro x0 x1
  have hx1 : Keeps s x1 := (keeps_when _ _ (Keeps.refl _) (fun _ => (keeps_inc _ _ _ _ _ (Keeps.refl _))))
  clear_value x1
  intro x3
  have hx3 : Keeps s x3 := (keeps_wr _ _ _ _ _ (keeps_wr _ _ _ _ _ (keeps_wrBit _ _ _ _ _ (keeps_set _ _ _ _ hx1))))
  clear_value x3
  intro x4
  have hx4 : Keeps s x4 := (State.modCvu_keeps _ _ _ _ hx3)
  clear_value x4
  exact keepsOut_next (keeps_ite (fun _ => (keeps_wr _ _ _ _ _ hx4)) (fun _ => (Keeps.refl _)))

theorem execCvuData32_keeps (l : Lane) (who : Initiator) (n : Fin 4) (value : BitVec 32) (differ : Bool) (s : State) : KeepsOut s (execCvuData32 l who n value differ s) := by
  unfold execCvuData32
  exact keepsOut_next (State.cvuFeed_keeps _ _ _ _ _ _ _ (Keeps.refl _))

theorem execCvuData16_keeps (l : Lane) (who : Initiator) (n : Fin 4) (value : BitVec 32) (differ : Bool) (s : State) : KeepsOut s (execCvuData16 l who n value differ s) := by
  unfold execCvuData16
  exact keepsOut_next (State.cvuFeed_keeps _ _ _ _ _ _ _ (Keeps.refl _))

theorem execCvuData8_keeps (l : Lane) (who : Initiator) (n : Fin 4) (value : BitVec 32) (differ : Bool) (s : State) : KeepsOut s (execCvuData8 l who n value differ s) := by
  unfold execCvuData8
  exact keepsOut_next (State.cvuFeed_keeps _ _ _ _ _ _ _ (Keeps.refl _))

theorem State.cvuMismatch_keeps {s00 : State} (s : State) (l : Lane) (n : Fin 4) (h0 : Keeps s00 s) :
    Keeps s00 (State.cvuMismatch s l n) := by
  refine keeps_trans h0 ?_
  unfold State.cvuMismatch
  lift_lets -useContext -merge -underBinder
  intro x0
  exact (State.irq_keeps _ _ _ _ (keeps_inc _ _ _ _ _ (keeps_set _ _ _ _ (Keeps.refl _))))

theorem State.cvuAccept_keeps {s00 : State} (s : State) (l : Lane) (n : Fin 4) (v : Nat) (h0 : Keeps s00 s) :
    Keeps s00 (State.cvuAccept s l n v) := by
  refine keeps_trans h0 ?_
  unfold State.cvuAccept
  exact (State.modCvu_keeps _ _ _ _ (keeps_wr _ _ _ _ _ (Keeps.refl _)))

theorem State.cvuAlive_keeps {s00 : State} (s : State) (l : Lane) (n : Fin 4) (f : Fld) (h0 : Keeps s00 s) :
    Keeps s00 (State.cvuAlive s l n f) := by
  refine keeps_trans h0 ?_
  unfold State.cvuAlive
  lift_lets -useContext -merge -underBinder
  intro x0
  exact (State.irq_keeps _ _ _ _ (keeps_inc _ _ _ _ _ (keeps_set _ _ _ _ (Keeps.refl _))))

theorem State.cvuCheck_keeps {s00 : State} (s : State) (l : Lane) (n : Fin 4) (h0 : Keeps s00 s) :
    Keeps s00 (State.cvuCheck s l n) := by
  refine keeps_trans h0 ?_
  unfold State.cvuCheck
  lift_lets -useContext -merge -underBinder
  intro x0 x1
  try clear_value x1
  intro x2
  try clear_value x2
  intro x3
  try clear_value x3
  intro x4
  try clear_value x4
  refine keeps_ite (fun _ => ?_) (fun _ => ?_)
  · refine keeps_ite (fun _ => ?_) (fun _ => ?_)
    · exact (State.cvuMismatch_keeps _ _ _ (Keeps.refl _))
    · exact (Keeps.refl _)
  · refine keeps_ite (fun _ => ?_) (fun _ => ?_)
    · refine keeps_ite (fun _ => ?_) (fun _ => ?_)
      · exact (State.cvuMismatch_keeps _ _ _ (Keeps.refl _))
      · exact (State.cvuAccept_keeps _ _ _ _ (Keeps.refl _))
    · refine keeps_ite (fun _ => ?_) (fun _ => ?_)
      · exact (State.cvuAlive_keeps _ _ _ _ (Keeps.refl _))
      · refine keeps_ite (fun _ => ?_) (fun _ => ?_)
        · exact (State.cvuAlive_keeps _ _ _ _ (Keeps.refl _))
        · refine keeps_ite (fun _ => ?_) (fun _ => ?_)
          · exact (State.cvuMismatch_keeps _ _ _ (Keeps.refl _))
          · exact (State.cvuAccept_keeps _ _ _ _ (Keeps.refl _))

theorem execCvuEnd_keeps (l : Lane) (who : Initiator) (n : Fin 4) (s : State) : KeepsOut s (execCvuEnd l who n s) := by
  unfold execCvuEnd
  lift_lets -useContext -merge -underBinder
  intro x0 x1
  have hx1 : Keeps s x1 := (keeps_inc _ _ _ _ _ (keeps_wr _ _ _ _ _ (Keeps.refl _)))
  clear_value x1
  exact keepsOut_next (keeps_ite (fun _ => (Keeps.refl _)) (fun _ => (keeps_ite (fun _ => (keeps_set _ _ _ _ (Keeps.refl _))) (fun _ => (keeps_ite (fun _ => (State.accessError_keeps _ _ _ _ _ _ (Keeps.refl _))) (fun _ => (State.cvuClose_keeps _ _ _ (keeps_ite (fun _ => (State.cvuCheck_keeps _ _ _ hx1)) (fun _ => hx1)))))))))

theorem execCvuAbort_keeps (l : Lane) (who : Initiator) (n : Fin 4) (s : State) : KeepsOut s (execCvuAbort l who n s) := by
  unfold execCvuAbort
  exact keepsOut_next (keeps_ite (fun _ => (State.cvuClose_keeps _ _ _ (Keeps.refl _))) (fun _ => (Keeps.refl _)))

theorem execCvuResync_keeps (l : Lane) (who : Initiator) (n : Fin 4) (s : State) : KeepsOut s (execCvuResync l who n s) := by
  unfold execCvuResync
  exact keepsOut_next (keeps_ite (fun _ => (State.modCvu_keeps _ _ _ _ (Keeps.refl _))) (fun _ => (Keeps.refl _)))


end Sys2Proof.Machine
end

