-- ==== Sys2Proof/Laws/KeepsNet.lean ====
section
/-!
SUPPORT. The operations of Machine/Net.lean keep what `Keeps` says (Laws/Keeps.lean).
-/
namespace Sys2Proof.Machine

theorem State.canCount_keeps {s00 : State} (s : State) (l : Lane) (n : Fin 4) (tec rec_ : Nat) (h0 : Keeps s00 s) :
    Keeps s00 (State.canCount s l n tec rec_) := by
  refine keeps_trans h0 ?_
  unfold State.canCount
  lift_lets -useContext -merge -underBinder
  intro x0 x1
  try clear_value x1
  intro x2
  try clear_value x2
  intro x3
  have hx3 : Keeps s x3 := (keeps_put _ _ _ _ _ (keeps_wrSat _ _ _ _ _ (keeps_wrSat _ _ _ _ _ (Keeps.refl _))))
  clear_value x3
  exact (keeps_when _ _ hx3 (fun _ => (State.irq_keeps _ _ _ _ (Keeps.refl _))))

theorem execCanBusOff_keeps (l : Lane) (n : Fin 4) (s : State) : KeepsOut s (execCanBusOff l n s) := by
  unfold execCanBusOff
  lift_lets -useContext -merge -underBinder
  intro x0 x1
  have hx1 : Keeps s x1 := (keeps_inc _ _ _ _ _ (keeps_set _ _ _ _ (keeps_set _ _ _ _ (Keeps.refl _))))
  clear_value x1
  intro x2
  have hx2 : Keeps s x2 := (State.irq_keeps _ _ _ _ (State.modCan_keeps _ _ _ _ hx1))
  clear_value x2
  intro x3
  have hx3 : Keeps s x3 := (State.logIf_keeps _ _ _ _ _ _ hx2)
  clear_value x3
  exact keepsOut_next (keeps_ite (fun _ => (keeps_ite (fun _ => (State.laneDeclare_keeps _ _ _ hx3)) (fun _ => hx3))) (fun _ => (Keeps.refl _)))

theorem execCanRecover_keeps (l : Lane) (n : Fin 4) (s : State) : KeepsOut s (execCanRecover l n s) := by
  unfold execCanRecover
  exact keepsOut_next (keeps_ite (fun _ => (State.modCan_keeps _ _ _ _ (Keeps.refl _))) (fun _ => (Keeps.refl _)))

theorem execCanRecoveryDone_keeps (l : Lane) (n : Fin 4) (s : State) : KeepsOut s (execCanRecoveryDone l n s) := by
  unfold execCanRecoveryDone
  lift_lets -useContext -merge -underBinder
  intro x0
  exact keepsOut_next (keeps_ite (fun _ => (State.canCount_keeps _ _ _ _ _ (State.modCan_keeps _ _ _ _ (keeps_clr _ _ _ _ (Keeps.refl _))))) (fun _ => (Keeps.refl _)))

theorem State.canOff_keeps {s00 : State} (s : State) (l : Lane) (n : Fin 4) (h0 : Keeps s00 s) :
    Keeps s00 (State.canOff s l n) := by
  refine keeps_trans h0 ?_
  unfold State.canOff
  lift_lets -useContext -merge -underBinder
  intro x0
  have hx0 : Keeps s x0 := (keeps_clr _ _ _ _ (State.modCan_keeps _ _ _ _ (Keeps.refl _)))
  clear_value x0
  exact (keeps_each _ _ hx0 (fun _ _ => (State.postNet_keeps _ _ _ _ (Keeps.refl _))))

theorem execCanEnable_keeps (l : Lane) (n : Fin 4) (s : State) : KeepsOut s (execCanEnable l n s) := by
  unfold execCanEnable
  lift_lets -useContext -merge -underBinder
  intro x0
  exact keepsOut_next (keeps_ite (fun _ => (keeps_ite (fun _ => (State.modCan_keeps _ _ _ _ (keeps_clr _ _ _ _ (Keeps.refl _)))) (fun _ => (keeps_set _ _ _ _ (Keeps.refl _))))) (fun _ => (keeps_ite (fun _ => (State.canOff_keeps _ _ _ (Keeps.refl _))) (fun _ => (Keeps.refl _)))))

theorem execCanIntegrated_keeps (l : Lane) (n : Fin 4) (s : State) : KeepsOut s (execCanIntegrated l n s) := by
  unfold execCanIntegrated
  exact keepsOut_next (keeps_ite (fun _ => (keeps_set _ _ _ _ (Keeps.refl _))) (fun _ => (Keeps.refl _)))

theorem execCanTxGo_keeps (l : Lane) (who : Initiator) (n : Fin 4) (s : State) : KeepsOut s (execCanTxGo l who n s) := by
  unfold execCanTxGo
  lift_lets -useContext -merge -underBinder
  intro x0 x1
  try clear_value x1
  intro x2
  have hx2 : Keeps11 s x2 := (State.canSubmit_keeps _ _ _ _ _ _ _ (Keeps.refl _))
  clear_value x2
  exact keepsOut_next (keeps_ite (fun _ => (keeps_wr _ _ _ _ _ (keeps_put _ _ _ _ _ (keeps_wr _ _ _ _ _ hx2.h)))) (fun _ => (Keeps.refl _)))

theorem State.canBegin_keeps {s00 : State} (s : State) (l : Lane) (n : Fin 4) (e : TalEntry) (h0 : Keeps s00 s) :
    Keeps s00 (State.canBegin s l n e) := by
  refine keeps_trans h0 ?_
  unfold State.canBegin
  exact (State.modCan_keeps _ _ _ _ (State.setEnt_keeps _ _ _ _ (Keeps.refl _)))

theorem execCanAttemptStart_keeps (l : Lane) (n : Fin 4) (s : State) : KeepsOut s (execCanAttemptStart l n s) := by
  unfold execCanAttemptStart
  exact keepsOut_next (keeps_ite (fun _ => (by
    split
    · exact (State.canBegin_keeps _ _ _ _ (Keeps.refl _))
    · exact (Keeps.refl _)
)) (fun _ => (Keeps.refl _)))

theorem execCanAttemptEnd_keeps (l : Lane) (n : Fin 4) (e : CanEnd) (s : State) : KeepsOut s (execCanAttemptEnd l n e s) := by
  unfold execCanAttemptEnd
  lift_lets -useContext -merge -underBinder
  intro x0
  exact keepsOut_next (by
    split
    · exact (Keeps.refl _)
    · lift_lets -useContext -merge -underBinder
      intro x1
      have hx1 : Keeps s x1 := (State.modCan_keeps _ _ _ _ (Keeps.refl _))
      clear_value x1
      split
      · exact hx1
      · lift_lets -useContext -merge -underBinder
        intro x2
        try clear_value x2
        intro x3
        try clear_value x3
        intro x4
        split
        · exact (State.postNet_keeps _ _ _ _ (State.canCount_keeps _ _ _ _ _ (keeps_inc _ _ _ _ _ hx1)))
        · exact (keeps_ite (fun _ => (State.postNet_keeps _ _ _ _ hx1)) (fun _ => hx1))
        · lift_lets -useContext -merge -underBinder
          intro x5
          have hx5 : Keeps s x5 := (keeps_put _ _ _ _ _ (keeps_wr _ _ _ _ _ hx1))
          clear_value x5
          intro x6
          try clear_value x6
          intro x7
          have hx7 : Keeps s x7 := (keeps_ite (fun _ => (keeps_inc _ _ _ _ _ hx5)) (fun _ => (keeps_inc _ _ _ _ _ hx5)))
          clear_value x7
          exact (keeps_ite (fun _ => (State.postNet_keeps _ _ _ _ (keeps_ite (fun _ => hx7) (fun _ => (State.canCount_keeps _ _ _ _ _ hx7))))) (fun _ => (keeps_ite (fun _ => hx7) (fun _ => (State.canCount_keeps _ _ _ _ _ hx7)))))
)

theorem State.fifoStore_keeps {s00 : State} (s : State) (l : Lane) (n : Fin 4) (ws : List Nat) (h0 : Keeps s00 s) :
    Keeps s00 (State.fifoStore s l n ws) := by
  refine keeps_trans h0 ?_
  unfold State.fifoStore
  lift_lets -useContext -merge -underBinder
  intro x0 x1
  try clear_value x1
  intro x2
  try clear_value x2
  intro x3
  try clear_value x3
  intro x4
  try clear_value x4
  intro x5
  have hx5 : Keeps s x5 := (State.modCan_keeps _ _ _ _ (State.setRam_keeps _ _ _ _ _ (Keeps.refl _)))
  clear_value x5
  intro x6
  have hx6 : Keeps s x6 := (keeps_wr _ _ _ _ _ hx5)
  clear_value x6
  intro x7
  have hx7 : Keeps s x7 := (keeps_ite (fun _ => (keeps_wr _ _ _ _ _ hx6)) (fun _ => hx6))
  clear_value x7
  refine keeps_ite (fun _ => ?_) (fun _ => ?_)
  · exact (State.irq_keeps _ _ _ _ (keeps_inc _ _ _ _ _ hx7))
  · exact (keeps_set _ _ _ _ (Keeps.refl _))

theorem State.hpStore_keeps {s00 : State} (s : State) (l : Lane) (n : Fin 4) (ws : List Nat) (h0 : Keeps s00 s) :
    Keeps s00 (State.hpStore s l n ws) := by
  refine keeps_trans h0 ?_
  unfold State.hpStore
  lift_lets -useContext -merge -underBinder
  intro x0 x1
  try clear_value x1
  intro x2
  try clear_value x2
  intro x3
  have hx3 : Keeps s x3 := (keeps_set _ _ _ _ (keeps_wr _ _ _ _ _ (State.setRam_keeps _ _ _ _ _ (Keeps.refl _))))
  clear_value x3
  refine keeps_ite (fun _ => ?_) (fun _ => ?_)
  · exact (keeps_set _ _ _ _ (Keeps.refl _))
  · exact (State.irq_keeps _ _ _ _ (keeps_inc _ _ _ _ _ hx3))

theorem execCanRxFrame_keeps (l : Lane) (n : Fin 4) (f : CanFrame) (ago : Nat) (s : State) : KeepsOut s (execCanRxFrame l n f ago s) := by
  unfold execCanRxFrame
  lift_lets -useContext -merge -underBinder
  intro x0 x1
  have hx1 : Keeps s x1 := (keeps_ite (fun _ => (Keeps.refl _)) (fun _ => (State.canCount_keeps _ _ _ _ _ (Keeps.refl _))))
  clear_value x1
  intro x2
  try clear_value x2
  intro x3
  exact keepsOut_next (keeps_ite (fun _ => (Keeps.refl _)) (fun _ => (keeps_ite (fun _ => (keeps_set _ _ _ _ (Keeps.refl _))) (fun _ => (by
    split
    · refine keeps_ite (fun _ => ?_) (fun _ => ?_)
      · exact (State.fifoStore_keeps _ _ _ _ hx1)
      · exact hx1
    · lift_lets -useContext -merge -underBinder
      intro x4
      try clear_value x4
      refine keeps_ite (fun _ => ?_) (fun _ => ?_)
      · exact hx1
      · refine keeps_ite (fun _ => ?_) (fun _ => ?_)
        · exact (State.hpStore_keeps _ _ _ _ hx1)
        · exact (keeps_when _ _ (State.fifoStore_keeps _ _ _ _ hx1) (fun _ => (State.handNode_keeps _ _ _ _ (Keeps.refl _))))
)))))

theorem execCanRxPop_keeps (l : Lane) (n : Fin 4) (s : State) : KeepsOut s (execCanRxPop l n s) := by
  unfold execCanRxPop
  lift_lets -useContext -merge -underBinder
  intro x0
  exact keepsOut_next (by
    split
    · exact (Keeps.refl _)
    · lift_lets -useContext -merge -underBinder
      intro x1
      have hx1 : Keeps s x1 := (keeps_wr _ _ _ _ _ (State.modCan_keeps _ _ _ _ (Keeps.refl _)))
      clear_value x1
      refine keeps_ite (fun _ => ?_) (fun _ => ?_)
      · split
        · exact hx1
        · exact (keeps_wr _ _ _ _ _ hx1)
      · exact (Keeps.refl _)
)

theorem execCanHpPop_keeps (l : Lane) (n : Fin 4) (s : State) : KeepsOut s (execCanHpPop l n s) := by
  unfold execCanHpPop
  lift_lets -useContext -merge -underBinder
  intro x0
  exact keepsOut_next (keeps_ite (fun _ => (keeps_wr _ _ _ _ _ (keeps_wr _ _ _ _ _ (Keeps.refl _)))) (fun _ => (Keeps.refl _)))

theorem State.matrixBoundary_keeps {s00 : State} (s : State) (l : Lane) (n : Fin 4) (k : Nat) (h0 : Keeps s00 s) :
    Keeps s00 (State.matrixBoundary s l n k) := by
  refine keeps_trans h0 ?_
  unfold State.matrixBoundary
  lift_lets -useContext -merge -underBinder
  intro x0 x1
  try clear_value x1
  intro x2
  have hx2 : Keeps s x2 := (keeps_ite (fun _ => (keeps_set _ _ _ _ (Keeps.refl _))) (fun _ => (Keeps.refl _)))
  clear_value x2
  refine keeps_ite (fun _ => ?_) (fun _ => ?_)
  · exact (keeps_wr _ _ _ _ _ (keeps_clr _ _ _ _ (Keeps.refl _)))
  · refine keeps_ite (fun _ => ?_) (fun _ => ?_)
    · exact (keeps_wr _ _ _ _ _ hx2)
    · exact hx2

theorem execCanCellStart_keeps (l : Lane) (n : Fin 4) (c : Fin 32) (s : State) : KeepsOut s (execCanCellStart l n c s) := by
  unfold execCanCellStart
  lift_lets -useContext -merge -underBinder
  intro x0 x1
  try clear_value x1
  intro x2
  try clear_value x2
  intro x3
  try clear_value x3
  intro x4
  try clear_value x4
  intro x5
  have hx5 : Keeps s x5 := (keeps_wr _ _ _ _ _ (keeps_advTo _ (Keeps.refl _)))
  clear_value x5
  intro x6
  try clear_value x6
  intro x7
  have hx7 : Keeps s x7 := (State.modCan_keeps _ _ _ _ hx5)
  clear_value x7
  intro x8
  try clear_value x8
  exact keepsOut_next (keeps_ite (fun _ => (keeps_ite (fun _ => (keeps_set _ _ _ _ (Keeps.refl _))) (fun _ => (keeps_ite (fun _ => hx5) (fun _ => (by
    split
    · exact (keeps_inc _ _ _ _ _ hx7)
    · refine keeps_ite (fun _ => ?_) (fun _ => ?_)
      · exact (State.canBegin_keeps _ _ _ _ (keeps_inc _ _ _ _ _ hx7))
      · exact hx7
)))))) (fun _ => (Keeps.refl _)))

theorem execCanWindowClose_keeps (l : Lane) (n : Fin 4) (s : State) : KeepsOut s (execCanWindowClose l n s) := by
  unfold execCanWindowClose
  exact keepsOut_next (keeps_ite (fun _ => (State.modCan_keeps _ _ _ _ (keeps_advTo _ (Keeps.refl _)))) (fun _ => (Keeps.refl _)))

theorem execEthTxGo_keeps (l : Lane) (who : Initiator) (m : Fin 3) (s : State) : KeepsOut s (execEthTxGo l who m s) := by
  unfold execEthTxGo
  lift_lets -useContext -merge -underBinder
  intro x0 x1
  try clear_value x1
  intro x2
  try clear_value x2
  intro x3
  try clear_value x3
  intro x4
  try clear_value x4
  intro x5
  have hx5 : Keeps11 s x5 := (keeps11_ite (fun _ => (State.ethSubmit_keeps _ _ _ _ _ _ _ (Keeps.refl _))) (fun _ => ⟨Keeps.snd (Keeps.refl _)⟩))
  clear_value x5
  exact keepsOut_next (keeps_ite (fun _ => (keeps_wr _ _ _ _ _ (keeps_put _ _ _ _ _ (keeps_wr _ _ _ _ _ hx5.h)))) (fun _ => (Keeps.refl _)))

theorem State.ethHand_keeps {s00 : State} (s : State) (l : Lane) (m : Fin 3) (f : EthFrame) (h0 : Keeps s00 s) :
    Keeps s00 (State.ethHand s l m f) := by
  refine keeps_trans h0 ?_
  unfold State.ethHand
  exact (keeps_each _ _ (Keeps.refl _) (fun _ _ => (keeps_when _ _ (Keeps.refl _) (fun _ => (State.handNode_keeps _ _ _ _ (Keeps.refl _))))))

theorem execEthRxFrame_keeps (l : Lane) (m : Fin 3) (f : EthFrame) (ago : Nat) (s : State) : KeepsOut s (execEthRxFrame l m f ago s) := by
  unfold execEthRxFrame
  lift_lets -useContext -merge -underBinder
  intro x0 x1
  have hx1 : Keeps s x1 := (keeps_when _ _ (Keeps.refl _) (fun _ => (keeps_inc _ _ _ _ _ (Keeps.refl _))))
  clear_value x1
  intro x3
  have hx3 : Keeps s x3 := (keeps_when _ _ hx1 (fun _ => (State.ethHand_keeps _ _ _ _ (Keeps.refl _))))
  clear_value x3
  intro x5
  try clear_value x5
  intro x6
  try clear_value x6
  intro x7
  try clear_value x7
  intro x8
  try clear_value x8
  intro x9 x10
  have hx10 : Keeps s x10 := (keeps_ite (fun _ => (State.setBytes_keeps _ _ _ _ hx3)) (fun _ => hx3))
  clear_value x10
  intro x11
  have hx11 : Keeps s x11 := (keeps_ite (fun _ => (State.setBytes_keeps _ _ _ _ hx10)) (fun _ => hx10))
  clear_value x11
  exact keepsOut_next (keeps_ite (fun _ => (Keeps.refl _)) (fun _ => (keeps_ite (fun _ => hx1) (fun _ => (keeps_ite (fun _ => hx1) (fun _ => (keeps_ite (fun _ => (keeps_inc _ _ _ _ _ hx3)) (fun _ => (State.irq_keeps _ _ _ _ (keeps_inc _ _ _ _ _ (keeps_wr _ _ _ _ _ (keeps_wr _ _ _ _ _ hx11))))))))))))

theorem execEthRxRelease_keeps (l : Lane) (m : Fin 3) (count : Nat) (s : State) : KeepsOut s (execEthRxRelease l m count s) := by
  unfold execEthRxRelease
  lift_lets -useContext -merge -underBinder
  intro x0
  exact keepsOut_next (keeps_ite (fun _ => (keeps_wr _ _ _ _ _ (Keeps.refl _))) (fun _ => (Keeps.refl _)))

theorem execEthMdio_keeps (l : Lane) (m : Fin 3) (value : BitVec 32) (s : State) : KeepsOut s (execEthMdio l m value s) := by
  unfold execEthMdio
  lift_lets -useContext -merge -underBinder
  intro x0 x1
  try clear_value x1
  exact keepsOut_next (keeps_ite (fun _ => (State.modEth_keeps _ _ _ _ (keeps_set _ _ _ _ (Keeps.refl _)))) (fun _ => (Keeps.refl _)))

theorem execEthMdioDone_keeps (l : Lane) (m : Fin 3) (data : BitVec 16) (s : State) : KeepsOut s (execEthMdioDone l m data s) := by
  unfold execEthMdioDone
  lift_lets -useContext -merge -underBinder
  intro x0
  exact keepsOut_next (by
    split
    · exact (Keeps.refl _)
    · lift_lets -useContext -merge -underBinder
      intro x1
      have hx1 : Keeps s x1 := (State.modEth_keeps _ _ _ _ (keeps_clr _ _ _ _ (Keeps.refl _)))
      clear_value x1
      refine keeps_ite (fun _ => ?_) (fun _ => ?_)
      · exact hx1
      · exact (keeps_wr _ _ _ _ _ hx1)
)

theorem execEthLinkChange_keeps (l : Lane) (m : Fin 3) (up : Bool) (speed : Fin 4) (full : Bool) (anDone : Bool) (s : State) : KeepsOut s (execEthLinkChange l m up speed full anDone s) := by
  unfold execEthLinkChange
  lift_lets -useContext -merge -underBinder
  intro x0 x1
  try clear_value x1
  intro x2
  try clear_value x2
  intro x3
  have hx3 : Keeps s x3 := (keeps_put _ _ _ _ _ (keeps_put _ _ _ _ _ (keeps_wr _ _ _ _ _ (keeps_put _ _ _ _ _ (Keeps.refl _)))))
  clear_value x3
  intro x4
  have hx4 : Keeps s x4 := (keeps_wrBit _ _ _ _ _ (keeps_wrBit _ _ _ _ _ hx3))
  clear_value x4
  intro x5
  have hx5 : Keeps s x5 := (State.logIf_keeps _ _ _ _ _ _ (State.irq_keeps _ _ _ _ hx4))
  clear_value x5
  exact keepsOut_next (keeps_ite (fun _ => (keeps_ite (fun _ => hx5) (fun _ => (keeps_each _ _ hx5 (fun _ _ => (State.postNet_keeps _ _ _ _ (Keeps.refl _))))))) (fun _ => (Keeps.refl _)))

theorem execT1sCollision_keeps (l : Lane) (s : State) : KeepsOut s (execT1sCollision l s) := by
  unfold execT1sCollision
  lift_lets -useContext -merge -underBinder
  intro x0 x1
  have hx1 : Keeps s x1 := (keeps_set _ _ _ _ (Keeps.refl _))
  clear_value x1
  exact keepsOut_next (keeps_ite (fun _ => (by
    split
    · exact hx1
    · lift_lets -useContext -merge -underBinder
      intro x2
      try clear_value x2
      refine keeps_ite (fun _ => ?_) (fun _ => ?_)
      · exact (State.postNet_keeps _ _ _ _ (State.modEth_keeps _ _ _ _ hx1))
      · exact (State.modEth_keeps _ _ _ _ hx1)
)) (fun _ => (Keeps.refl _)))

theorem execPlcaBeaconChange_keeps (l : Lane) (seen : Bool) (s : State) : KeepsOut s (execPlcaBeaconChange l seen s) := by
  unfold execPlcaBeaconChange
  lift_lets -useContext -merge -underBinder
  intro x0 x1
  have hx1 : Keeps s x1 := (State.modEth_keeps _ _ _ _ (keeps_put _ _ _ _ _ (keeps_put _ _ _ _ _ (Keeps.refl _))))
  clear_value x1
  exact keepsOut_next (keeps_ite (fun _ => (keeps_when _ _ hx1 (fun _ => (keeps_set _ _ _ _ (Keeps.refl _))))) (fun _ => (Keeps.refl _)))


end Sys2Proof.Machine
end

