-- ==== Sys2Proof/Laws/KeepsTime.lean ====
section
/-!
SUPPORT. The operations of Machine/Time.lean keep what `Keeps` says (Laws/Keeps.lean).
-/
namespace Sys2Proof.Machine

theorem State.modClk_keeps {s00 : State} (s : State) (l : Lane) (f : LaneClock → LaneClock) (h0 : Keeps s00 s) :
    Keeps s00 (State.modClk s l f) := by
  refine keeps_trans h0 ?_
  unfold State.modClk
  exact (keeps_modRun _ _ (Keeps.refl _) fun _ hr => hr)

theorem State.takeSource_keeps {s00 : State} (s : State) (l : Lane) (src epoch unc : Nat) (h0 : Keeps s00 s) :
    Keeps s00 (State.takeSource s l src epoch unc) := by
  refine keeps_trans h0 ?_
  unfold State.takeSource
  lift_lets -useContext -merge -underBinder
  intro x0
  exact (State.modClk_keeps _ _ _ (keeps_wrSat _ _ _ _ _ (State.wr64_keeps _ _ _ _ _ (keeps_wr _ _ _ _ _ (Keeps.refl _)))))

theorem State.timeBest_keeps {s00 : State} (s : State) (l : Lane) (h0 : Keeps s00 s) :
    Keeps s00 (State.timeBest s l) := by
  refine keeps_trans h0 ?_
  unfold State.timeBest
  lift_lets -useContext -merge -underBinder
  intro x0
  refine keeps_ite (fun _ => ?_) (fun _ => ?_)
  · exact (Keeps.refl _)
  · refine keeps_ite (fun _ => ?_) (fun _ => ?_)
    · exact (State.takeSource_keeps _ _ _ _ _ (Keeps.refl _))
    · split
      · exact (State.takeSource_keeps _ _ _ _ _ (Keeps.refl _))
      · refine keeps_ite (fun _ => ?_) (fun _ => ?_)
        · exact (State.modClk_keeps _ _ _ (Keeps.refl _))
        · refine keeps_ite (fun _ => ?_) (fun _ => ?_)
          · exact (Keeps.refl _)
          · exact (keeps_set _ _ _ _ (State.takeSource_keeps _ _ _ _ _ (Keeps.refl _)))

theorem execAsSync_keeps (l : Lane) (m : Fin 2) (origin corr ago : Nat) (logSync : BitVec 8) (unc : Fin 2) (s : State) : KeepsOut s (execAsSync l m origin corr ago logSync unc s) := by
  unfold execAsSync
  lift_lets -useContext -merge -underBinder
  intro x0 x1
  have hx1 : Keeps s x1 := (State.modEth_keeps _ _ _ _ (keeps_wr _ _ _ _ _ (keeps_set _ _ _ _ (Keeps.refl _))))
  clear_value x1
  intro x2
  have hx2 : Keeps s x2 := (keeps_set _ _ _ _ hx1)
  clear_value x2
  intro x3
  try clear_value x3
  intro x4
  have hx4 : Keeps1 s x4 := (State.quot_keeps _ _ _ hx2)
  clear_value x4
  exact keepsOut_next (keeps_ite (fun _ => (keeps_ite (fun _ => hx2) (fun _ => (State.modClk_keeps _ _ _ (State.takeSource_keeps _ _ _ _ _ hx4.h))))) (fun _ => (Keeps.refl _)))

theorem execAsPdelayReq_keeps (l : Lane) (m : Fin 2) (s : State) : KeepsOut s (execAsPdelayReq l m s) := by
  unfold execAsPdelayReq
  lift_lets -useContext -merge -underBinder
  intro x0
  try clear_value x0
  intro x1
  have hx1 : Keeps s x1 := (keeps_ite (fun _ => (Keeps.refl _)) (fun _ => (keeps_advTo _ (Keeps.refl _))))
  clear_value x1
  exact keepsOut_next (keeps_ite (fun _ => (State.modEth_keeps _ _ _ _ hx1)) (fun _ => (Keeps.refl _)))

theorem execAsSyncLapse_keeps (l : Lane) (m : Fin 2) (s : State) : KeepsOut s (execAsSyncLapse l m s) := by
  unfold execAsSyncLapse
  lift_lets -useContext -merge -underBinder
  intro x0 x1
  try clear_value x1
  intro x2
  have hx2 : Keeps s x2 := (keeps_clr _ _ _ _ (keeps_advTo _ (Keeps.refl _)))
  clear_value x2
  exact keepsOut_next (keeps_ite (fun _ => (State.timeBest_keeps _ _ (keeps_put _ _ _ _ _ hx2))) (fun _ => (Keeps.refl _)))

theorem execAsPdelayAnnounceRx_keeps (l : Lane) (m : Fin 2) (msg : AsMsg) (s : State) : KeepsOut s (execAsPdelayAnnounceRx l m msg s) := by
  unfold execAsPdelayAnnounceRx
  lift_lets -useContext -merge -underBinder
  intro x0
  exact keepsOut_next (keeps_ite (fun _ => (by
    split
    · exact (State.modEth_keeps _ _ _ _ (Keeps.refl _))
    · exact (keeps_put _ _ _ _ _ (keeps_wr _ _ _ _ _ (Keeps.refl _)))
    · exact (keeps_put _ _ _ _ _ (Keeps.refl _))
)) (fun _ => (Keeps.refl _)))

theorem execTimeFrame_keeps (l : Lane) (flips : List (BitVec 8)) (transit : Nat) (s : State) : KeepsOut s (execTimeFrame l flips transit s) := by
  unfold execTimeFrame
  lift_lets -useContext -merge -underBinder
  intro x0 x1
  try clear_value x1
  intro x2
  try clear_value x2
  exact keepsOut_next (State.frame_keeps _ _ _ _ _ _ _ _ _ _ (Keeps.refl _) (fun _ => (Keeps.refl _)) (fun y4 => (by
    lift_lets -useContext -merge -underBinder
    intro x5
    have hx5 : Keeps y4 x5 := (keeps_advTo _ (Keeps.refl _))
    clear_value x5
    intro x6
    try clear_value x6
    intro x7
    have hx7 : Keeps y4 x7 := (State.modClk_keeps _ _ _ hx5)
    clear_value x7
    split
    · exact hx7
    · lift_lets -useContext -merge -underBinder
      intro x8
      have hx8 : Keeps1 y4 x8 := (State.quot_keeps _ _ _ hx7)
      clear_value x8
      intro x9
      try clear_value x9
      intro x10
      have hx10 : Keeps y4 x10 := (keeps_wrSat _ _ _ _ _ (keeps_wr _ _ _ _ _ (keeps_set _ _ _ _ (State.wr64_keeps _ _ _ _ _ hx8.h))))
      clear_value x10
      exact (keeps_when _ _ hx10 (fun _ => (State.timeBest_keeps _ _ (Keeps.refl _))))
)))

theorem State.offsetAge_keeps {s00 : State} (s : State) (l : Lane) (h0 : Keeps s00 s) :
    Keeps s00 (State.offsetAge s l) := by
  refine keeps_trans h0 ?_
  unfold State.offsetAge
  lift_lets -useContext -merge -underBinder
  intro x0 x1
  have hx1 : Keeps s x1 := (keeps_inc _ _ _ _ _ (Keeps.refl _))
  clear_value x1
  exact (keeps_put _ _ _ _ _ hx1)

theorem State.cycleWork_keeps {s00 : State} (s : State) (l : Lane) (k : Nat) (h0 : Keeps s00 s) :
    Keeps s00 (State.cycleWork s l k) := by
  refine keeps_trans h0 ?_
  unfold State.cycleWork
  lift_lets -useContext -merge -underBinder
  intro x0
  have hx0 : Keeps s x0 := (State.copyCapture_keeps _ _ _ (State.ownCapture_keeps _ _ _ (State.copyApply_keeps _ _ (State.judge_keeps _ _ (Keeps.refl _)))))
  clear_value x0
  intro x1
  have hx1 : Keeps s x1 := (State.nrgBoundary_keeps _ _ (State.motBoundary_keeps _ _ (State.ceBoundary_keeps _ _ (State.adcBoundary_keeps _ _ hx0))))
  clear_value x1
  exact (keeps_each _ _ hx1 (fun _ _ => (State.matrixBoundary_keeps _ _ _ _ (Keeps.refl _))))

theorem execTractionCycleBoundary_keeps (l : Lane) (s : State) : KeepsOut s (execTractionCycleBoundary l s) := by
  unfold execTractionCycleBoundary
  lift_lets -useContext -merge -underBinder
  intro x0
  try clear_value x0
  intro x1
  have hx1 : Keeps s x1 := (State.offsetAge_keeps _ _ (State.modClk_keeps _ _ _ (keeps_advTo _ (Keeps.refl _))))
  clear_value x1
  intro x2
  have hx2 : Keeps s x2 := (State.event_keeps _ _ _ (State.timBoundary_keeps _ _ (keeps_when _ _ hx1 (fun _ => (State.cycleWork_keeps _ _ _ (Keeps.refl _))))))
  clear_value x2
  intro x4
  have hx4 : Keeps s x4 := (State.refTrimStep_keeps _ _ (State.asyBoundary_keeps _ _ _ hx2))
  clear_value x4
  exact keepsOut_next (keeps_ite (fun _ => (keeps_when _ _ hx4 (fun _ => (State.timeBest_keeps _ _ (Keeps.refl _))))) (fun _ => (Keeps.refl _)))


end Sys2Proof.Machine
end

