-- ==== Sys2Proof/Laws/KeepsModeOps.lean ====
section
/-!
SUPPORT. The operations of Machine/ModeOps.lean keep what `Keeps` says (Laws/Keeps.lean).
-/
namespace Sys2Proof.Machine

theorem State.maskField_keeps {s00 : State} (s : State) (d : Die) (f : Fld) (mask value i j : Nat) (h0 : Keeps s00 s) :
    Keeps s00 (State.maskField s d f mask value i j) := by
  refine keeps_trans h0 ?_
  unfold State.maskField
  lift_lets -useContext -merge -underBinder
  intro x0
  try clear_value x0
  intro x1
  try clear_value x1
  exact (keeps_wr _ _ _ _ _ (Keeps.refl _))

theorem State.applyTriple_keeps {s00 : State} (s : State) (l : Lane) (base : Bool) (t : Triple) (h0 : Keeps s00 s) :
    Keeps s00 (State.applyTriple s l base t) := by
  refine keeps_trans h0 ?_
  unfold State.applyTriple
  split
  · exact (Keeps.refl _)
  · refine keeps_ite (fun _ => ?_) (fun _ => ?_)
    · exact (keeps_each _ _ (Keeps.refl _) (fun _ _ => (State.maskField_keeps _ _ _ _ _ _ _ (Keeps.refl _))))
    · exact (Keeps.refl _)

theorem State.applyWord_keeps {s00 : State} (s : State) (l : Lane) (base : Bool) (a v : Nat) (h0 : Keeps s00 s) :
    Keeps s00 (State.applyWord s l base a v) := by
  refine keeps_trans h0 ?_
  unfold State.applyWord
  split
  · exact (keeps_setTable _ _ _ (Keeps.refl _))
  · exact (State.applyTriple_keeps _ _ _ _ (Keeps.refl _))

theorem State.applyPatch_keeps {s00 : State} (s : State) (l : Lane) (base : Bool) (p : Patch) (h0 : Keeps s00 s) :
    Keeps s00 (State.applyPatch s l base p) := by
  refine keeps_trans h0 ?_
  unfold State.applyPatch
  exact (keeps_each _ _ (Keeps.refl _) (fun _ _ => (State.applyWord_keeps _ _ _ _ _ (Keeps.refl _))))

theorem State.writeImage_keeps {s00 : State} (s : State) (l : Lane) (base : Bool) (im : Image) (h0 : Keeps s00 s) :
    Keeps s00 (State.writeImage s l base im) := by
  refine keeps_trans h0 ?_
  unfold State.writeImage
  exact (keeps_each _ _ (keeps_each _ _ (Keeps.refl _) (fun _ _ => (State.applyTriple_keeps _ _ _ _ (Keeps.refl _)))) (fun _ _ => (State.applyPatch_keeps _ _ _ _ (Keeps.refl _))))

theorem State.tripleHook_keeps {s00 : State} (b s : State) (l : Lane) (a : Nat) (h0 : Keeps s00 b) (h1 : Keeps s00 s) :
    Keeps s00 (State.tripleHook b s l a) := by
  unfold State.tripleHook
  split
  · refine keeps_ite (fun _ => ?_) (fun _ => ?_)
    · exact (State.afterWrite_keeps _ _ _ _ _ _ h0 h1)
    · exact h1
  · exact h1

theorem State.applyImage_keeps {s00 : State} (s : State) (l : Lane) (im : Image) (h0 : Keeps s00 s) :
    Keeps s00 (s.applyImage l im) := by
  unfold State.applyImage
  have h1 := State.writeImage_keeps s l false im h0
  generalize s.writeImage l false im = t at h1
  generalize ((im.triples.map fun t => t.addr).eraseDups) = as
  induction as generalizing t with
  | nil => exact h1
  | cons a r ih => exact ih _ (State.tripleHook_keeps s t l a h0 h1)

theorem State.applyOverlay_keeps {s00 : State} (s : State) (l : Lane) (m : Nat) (h0 : Keeps s00 s) :
    Keeps s00 (State.applyOverlay s l m) := by
  refine keeps_trans h0 ?_
  unfold State.applyOverlay
  lift_lets -useContext -merge -underBinder
  intro x0 x1
  try clear_value x1
  exact (keeps_each _ _ (State.applyImage_keeps _ _ _ (Keeps.refl _)) (fun _ _ => (keeps_when _ _ (Keeps.refl _) (fun _ => (keeps_set _ _ _ _ (keeps_set _ _ _ _ (Keeps.refl _)))))))

theorem State.modeEnd_keeps {s00 : State} (s : State) (l : Lane) (code : Nat) (h0 : Keeps s00 s) :
    Keeps s00 (State.modeEnd s l code) := by
  refine keeps_trans h0 ?_
  unfold State.modeEnd
  exact (keeps_wr _ _ _ _ _ (keeps_set _ _ _ _ (keeps_clr _ _ _ _ (Keeps.refl _))))

theorem State.modeIdle_keeps {s00 : State} (s : State) (h0 : Keeps s00 s) :
    Keeps s00 (State.modeIdle s) := by
  refine keeps_trans h0 ?_
  unfold State.modeIdle
  lift_lets -useContext -merge -underBinder
  intro x0
  try clear_value x0
  exact (keeps_each _ _ (Keeps.of_frame (Keeps.refl _) rfl rfl rfl rfl rfl) (fun _ _ => (keeps_clr _ _ _ _ (Keeps.refl _))))

theorem State.modeEnter_keeps {s00 : State} (s : State) (l : Lane) (m hold : Nat) (h0 : Keeps s00 s) :
    Keeps s00 (State.modeEnter s l m hold) := by
  refine keeps_trans h0 ?_
  unfold State.modeEnter
  lift_lets -useContext -merge -underBinder
  intro x0 x1
  try clear_value x1
  intro x2
  have hx2 : Keeps s x2 := (keeps_wr _ _ _ _ _ (keeps_wr _ _ _ _ _ (keeps_wr _ _ _ _ _ (Keeps.refl _))))
  clear_value x2
  intro x3
  have hx3 : Keeps s x3 := (keeps_ite (fun _ => (keeps_wr _ _ _ _ _ (keeps_clr _ _ _ _ hx2))) (fun _ => hx2))
  clear_value x3
  intro x4
  have hx4 : Keeps s x4 := (keeps_put _ _ _ _ _ hx3)
  clear_value x4
  exact (State.asyTrigger_keeps _ _ _ (State.modAsy_keeps _ _ _ (State.nrgMode_keeps _ _ hx4)))

theorem State.parkRecord_keeps {s00 : State} (s : State) (l : Lane) (h0 : Keeps s00 s) :
    Keeps s00 (State.parkRecord s l) := by
  refine keeps_trans h0 ?_
  unfold State.parkRecord
  lift_lets -useContext -merge -underBinder
  intro x0
  try clear_value x0
  intro x1
  have hx1 : Keeps1 s x1 := (State.capture_keeps _ _ _ _ (Keeps.refl _))
  clear_value x1
  intro x2
  try clear_value x2
  refine keeps_ite (fun _ => ?_) (fun _ => ?_)
  · exact (keeps_inc _ _ _ _ _ (State.ledgerWrite_keeps _ _ _ _ hx1.h))
  · exact (Keeps.refl _)

theorem State.parkClears_keeps {s00 : State} (s : State) (h0 : Keeps s00 s) :
    Keeps s00 (State.parkClears s) := by
  refine keeps_trans h0 ?_
  unfold State.parkClears
  lift_lets -useContext -merge -underBinder
  intro x0
  have hx0 : Keeps s x0 := (keeps_each _ _ (Keeps.refl _) (fun _ _ => (State.returnClass_keeps _ _ (Keeps.refl _))))
  clear_value x0
  intro x3
  have hx3 : Keeps s x3 := (keeps_foldl _ _ hx0 (fun _ _ => (keeps_clr _ _ _ _ (Keeps.refl _))))
  clear_value x3
  intro x6
  have hx6 : Keeps s x6 := (keeps_wr _ _ _ _ _ hx3)
  clear_value x6
  exact (State.syncImposed_keeps _ hx6)

theorem State.grantEnd_keeps {s00 : State} (s : State) (h0 : Keeps s00 s) :
    Keeps s00 (State.grantEnd s) := by
  refine keeps_trans h0 ?_
  unfold State.grantEnd
  lift_lets -useContext -merge -underBinder
  intro x0
  have hx0 : Keeps s x0 := (keeps_each _ _ (Keeps.refl _) (fun _ _ => (State.removeGrant_keeps _ _ (Keeps.refl _))))
  clear_value x0
  intro x3
  have hx3 : Keeps s x3 := (keeps_modDep _ (keeps_wr _ _ _ _ _ (keeps_wr _ _ _ _ _ hx0)))
  clear_value x3
  intro x4
  try clear_value x4
  exact (Keeps.of_frame hx3 rfl rfl rfl rfl rfl)

theorem State.depStandDown_keeps {s00 : State} (s : State) (h0 : Keeps s00 s) :
    Keeps s00 (State.depStandDown s) := by
  refine keeps_trans h0 ?_
  unfold State.depStandDown
  exact (State.grantLogic_keeps _ (keeps_modDep _ (keeps_each _ _ (State.grantEnd_keeps _ (Keeps.refl _)) (fun _ _ => (keeps_clr _ _ _ _ (Keeps.refl _))))))

theorem State.linksStatic_keeps {s00 : State} (s : State) (h0 : Keeps s00 s) :
    Keeps s00 (State.linksStatic s) := by
  refine keeps_trans h0 ?_
  unfold State.linksStatic
  lift_lets -useContext -merge -underBinder
  intro x0
  try clear_value x0
  exact (Keeps.of_frame (Keeps.refl _) rfl rfl rfl rfl rfl)

theorem State.parkTell_keeps {s00 : State} (s : State) (l : Lane) (freq : Nat) (h0 : Keeps s00 s) :
    Keeps s00 (State.parkTell s l freq) := by
  refine keeps_trans h0 ?_
  unfold State.parkTell
  lift_lets -useContext -merge -underBinder
  intro x0
  try clear_value x0
  intro x1
  have hx1 : Keeps s x1 := (keeps_wr _ _ _ _ _ (keeps_wr _ _ _ _ _ (keeps_wr _ _ _ _ _ (Keeps.refl _))))
  clear_value x1
  exact (keeps_wr _ _ _ _ _ hx1)

theorem State.enterParked_keeps {s00 : State} (s : State) (l : Lane) (freq : Nat) (h0 : Keeps s00 s) :
    Keeps s00 (State.enterParked s l freq) := by
  refine keeps_trans h0 ?_
  unfold State.enterParked
  lift_lets -useContext -merge -underBinder
  intro x0
  have hx0 : Keeps s x0 := (State.parkCount_keeps _ (State.parkTell_keeps _ _ _ (Keeps.refl _)))
  clear_value x0
  intro x1
  have hx1 : Keeps s x1 := (keeps_each _ _ hx0 (fun _ _ => (State.brakeEnd_keeps _ _ (State.clampWithdraw_keeps _ _ (State.parkRecord_keeps _ _ (Keeps.refl _))))))
  clear_value x1
  intro x4
  have hx4 : Keeps s x4 := (State.depStandDown_keeps _ (State.parkOutputs_keeps _ _ (State.parkClears_keeps _ hx1)))
  clear_value x4
  intro x5
  have hx5 : Keeps s x5 := (keeps_modDep _ hx4)
  clear_value x5
  exact (keeps_each _ _ (State.linksStatic_keeps _ hx5) (fun _ _ => (keeps_when _ _ (Keeps.refl _) (fun _ => (State.resetIsland_keeps _ _ _ (Keeps.refl _))))))

theorem State.enterStorage_keeps {s00 : State} (s : State) (l : Lane) (h0 : Keeps s00 s) :
    Keeps s00 (State.enterStorage s l) := by
  refine keeps_trans h0 ?_
  unfold State.enterStorage
  lift_lets -useContext -merge -underBinder
  intro x0
  have hx0 : Keeps s x0 := (keeps_ite (fun _ => (State.depStandDown_keeps _ (State.parkOutputs_keeps _ _ (Keeps.refl _)))) (fun _ => (Keeps.refl _)))
  clear_value x0
  exact (State.keeperStore_keeps _ _ hx0)

theorem State.skipCells_keeps {s00 : State} (s : State) (l : Lane) (im : Image) (t : Nat) (h0 : Keeps s00 s) :
    Keeps s00 (State.skipCells s l im t) := by
  refine keeps_trans h0 ?_
  unfold State.skipCells
  exact (keeps_each _ _ (Keeps.refl _) (fun y0 y1 => (by
    lift_lets -useContext -merge -underBinder
    intro x2
    try clear_value x2
    exact (keeps_when _ _ (Keeps.refl _) (fun _ => (keeps_set _ _ _ _ (Keeps.refl _))))
)))

theorem State.modeApply_keeps {s00 : State} (s : State) (l : Lane) (m : Nat) (hold : Lane → Nat) (freq : Nat) (h0 : Keeps s00 s) :
    Keeps s00 (State.modeApply s l m hold freq) := by
  refine keeps_trans h0 ?_
  unfold State.modeApply
  lift_lets -useContext -merge -underBinder
  intro x0
  try clear_value x0
  intro x1 x2
  have hx2 : Keeps s x2 := (keeps_each _ _ (Keeps.refl _) (fun _ _ => (State.skipCells_keeps _ _ _ _ (Keeps.refl _))))
  clear_value x2
  intro x5
  have hx5 : Keeps s x5 := (keeps_advTo _ (keeps_each _ _ hx2 (fun _ _ => (State.applyOverlay_keeps _ _ _ (State.event_keeps _ _ _ (Keeps.refl _))))))
  clear_value x5
  intro x8
  try clear_value x8
  intro x9
  have hx9 : Keeps s x9 := (Keeps.of_frame hx5 rfl rfl rfl rfl rfl)
  clear_value x9
  intro x10
  have hx10 : Keeps s x10 := (keeps_when _ _ hx9 (fun _ => (keeps_wr _ _ _ _ _ (Keeps.refl _))))
  clear_value x10
  intro x12
  have hx12 : Keeps s x12 := (keeps_each _ _ hx10 (fun _ _ => (State.modeEnter_keeps _ _ _ _ (Keeps.refl _))))
  clear_value x12
  intro x15
  have hx15 : Keeps s x15 := (State.modeIdle_keeps _ (State.modeEnd_keeps _ _ _ hx12))
  clear_value x15
  intro x16
  have hx16 : Keeps s x16 := (keeps_ite (fun _ => (State.enterParked_keeps _ _ _ hx15)) (fun _ => (keeps_ite (fun _ => (State.enterStorage_keeps _ _ hx15)) (fun _ => hx15))))
  clear_value x16
  exact (keeps_when _ _ hx16 (fun _ => (State.syncChs_keeps _ (State.syncSto_keeps _ (Keeps.refl _)))))


end Sys2Proof.Machine
end

