-- ==== Sys2Proof/Laws/KeepsMode.lean ====
section
/-!
SUPPORT. The operations of Machine/Mode.lean keep what `Keeps` says (Laws/Keeps.lean).
-/
namespace Sys2Proof.Machine

theorem State.modeRefused_keeps {s00 : State} (s : State) (l : Lane) (m code : Nat) (aborted : Bool) (h0 : Keeps s00 s) :
    Keeps s00 (State.modeRefused s l m code aborted) := by
  refine keeps_trans h0 ?_
  unfold State.modeRefused
  refine keeps_ite (fun _ => ?_) (fun _ => ?_)
  · exact (State.refuseEntry_keeps _ _ _ _ (Keeps.refl _))
  · exact (Keeps.refl _)

theorem execModeRequest_keeps (l : Lane) (target : Fin 8) (nvmBusy : Bool) (s : State) : KeepsOut s (execModeRequest l target nvmBusy s) := by
  unfold execModeRequest
  lift_lets -useContext -merge -underBinder
  intro x0 x1
  try clear_value x1
  intro x2
  have hx2 : Keeps s x2 := (keeps_wr _ _ _ _ _ (Keeps.refl _))
  clear_value x2
  intro x3
  try clear_value x3
  intro x4
  try clear_value x4
  intro x5
  try clear_value x5
  intro x6
  have hx6 : Keeps1 s x6 := (keeps1_free _ hx2)
  clear_value x6
  intro x7
  try clear_value x7
  intro x8
  have hx8 : Keeps s x8 := (keeps_clr _ _ _ _ (keeps_set _ _ _ _ hx2))
  clear_value x8
  intro x9
  try clear_value x9
  intro x10
  have hx10 : Keeps s x10 := (Keeps.of_frame hx8 rfl rfl rfl rfl rfl)
  clear_value x10
  exact keepsOut_next (keeps_ite (fun _ => (Keeps.refl _)) (fun _ => (keeps_ite (fun _ => (keeps_put _ _ _ _ _ (State.modeRefused_keeps _ _ _ _ _ (State.modeEnd_keeps _ _ _ hx2)))) (fun _ => (keeps_ite (fun _ => (State.refuseEntry_keeps _ _ _ _ (State.modeEnd_keeps _ _ _ hx6.h))) (fun _ => (keeps_ite (fun _ => (State.modLnk_keeps _ _ _ hx10)) (fun _ => hx10))))))))

theorem State.modeAnswer_keeps {s00 : State} (s : State) (l : Lane) (m : Nat) (nvmBusy : Bool) (h0 : Keeps s00 s) :
    Keeps s00 (State.modeAnswer s l m nvmBusy) := by
  refine keeps_trans h0 ?_
  unfold State.modeAnswer
  lift_lets -useContext -merge -underBinder
  intro x0
  try clear_value x0
  refine keeps_ite (fun _ => ?_) (fun _ => ?_)
  · refine keeps_ite (fun _ => ?_) (fun _ => ?_)
    · exact (State.modLnk_keeps _ _ _ (State.refuseEntry_keeps _ _ _ _ (Keeps.refl _)))
    · exact (State.modLnk_keeps _ _ _ (keeps_set _ _ _ _ (Keeps.refl _)))
  · exact (Keeps.refl _)

theorem State.modeNoPartner_keeps {s00 : State} (s : State) (h0 : Keeps s00 s) :
    Keeps s00 (State.modeNoPartner s) := by
  refine keeps_trans h0 ?_
  unfold State.modeNoPartner
  lift_lets -useContext -merge -underBinder
  intro x0
  try clear_value x0
  exact (State.modeIdle_keeps _ (State.modeRefused_keeps _ _ _ _ _ (State.modeEnd_keeps _ _ _ (Keeps.refl _))))

theorem execLinkFrameMode_keeps (l : Lane) (flips : List (BitVec 8)) (nvmBusy : Bool) (s : State) : KeepsOut s (execLinkFrameMode l flips nvmBusy s) := by
  unfold execLinkFrameMode
  lift_lets -useContext -merge -underBinder
  intro x0
  try clear_value x0
  exact keepsOut_next (by
    split
    · exact (Keeps.refl _)
    · exact (State.frame_keeps _ _ _ _ _ _ _ _ _ _ (Keeps.refl _) (fun _ => (State.modLnk_keeps _ _ _ (Keeps.refl _))) (fun y2 => (by
        split
        · exact (State.modeAnswer_keeps _ _ _ _ (Keeps.refl _))
        · lift_lets -useContext -merge -underBinder
          intro x3
          try clear_value x3
          refine keeps_ite (fun _ => ?_) (fun _ => ?_)
          · exact (Keeps.of_frame (Keeps.refl _) rfl rfl rfl rfl rfl)
          · exact (Keeps.refl _)
        · refine keeps_ite (fun _ => ?_) (fun _ => ?_)
          · exact (State.modeNoPartner_keeps _ (Keeps.refl _))
          · exact (Keeps.refl _)
)))
)

theorem execModePartnerTimeout_keeps (s : State) : KeepsOut s (execModePartnerTimeout s) := by
  unfold execModePartnerTimeout
  exact keepsOut_next (keeps_ite (fun _ => (State.modeNoPartner_keeps _ (keeps_advTo _ (Keeps.refl _)))) (fun _ => (Keeps.refl _)))

theorem State.parkOpen_keeps {s00 : State} (s : State) (l : Lane) (h0 : Keeps s00 s) :
    Keeps s00 (State.parkOpen s l) := by
  refine keeps_trans h0 ?_
  unfold State.parkOpen
  refine keeps_ite (fun _ => ?_) (fun _ => ?_)
  · exact (Keeps.refl _)
  · exact (State.openMain_keeps _ _ (keeps_clr _ _ _ _ (keeps_wr _ _ _ _ _ (State.seqEnd_keeps _ _ _ (Keeps.refl _)))))

theorem execModeChangeApply_keeps (holdA holdB freq : Nat) (s : State) : KeepsOut s (execModeChangeApply holdA holdB freq s) := by
  unfold execModeChangeApply
  lift_lets -useContext -merge -underBinder
  intro x0
  try clear_value x0
  intro x1
  try clear_value x1
  intro x2
  have hx2 : Keeps s x2 := (keeps_advTo _ (Keeps.refl _))
  clear_value x2
  exact keepsOut_next (keeps_ite (fun _ => (Keeps.refl _)) (fun _ => (by
    split
    · exact (State.modeIdle_keeps _ (keeps_when _ _ hx2 (fun _ => (State.modeRefused_keeps _ _ _ _ _ (State.modeEnd_keeps _ _ _ (Keeps.refl _))))))
    · split
      · lift_lets -useContext -merge -underBinder
        intro x4
        have hx4 : Keeps1 s x4 := (keeps1_free _ hx2)
        clear_value x4
        exact (State.modeIdle_keeps _ (State.refuseEntry_keeps _ _ _ _ (State.modeEnd_keeps _ _ _ hx4.h)))
      · refine keeps_ite (fun _ => ?_) (fun _ => ?_)
        · exact (State.parkOpen_keeps _ _ hx2)
        · exact (State.modeApply_keeps _ _ _ _ _ hx2)
)))


end Sys2Proof.Machine
end

