-- ==== Sys2Proof/Laws/KeepsSafeOut.lean ====
section
/-!
SUPPORT. The operations of Machine/SafeOut.lean keep what `Keeps` says (Laws/Keeps.lean).
-/
namespace Sys2Proof.Machine

theorem execSoFbMismatch_keeps (k : Fin 12) (fb ls : Bool) (s : State) : KeepsOut s (execSoFbMismatch k fb ls s) := by
  unfold execSoFbMismatch
  lift_lets -useContext -merge -underBinder
  intro x0
  try clear_value x0
  intro x1
  try clear_value x1
  intro x2
  try clear_value x2
  intro x3
  have hx3 : Keeps s x3 := (keeps_put _ _ _ _ _ (keeps_put _ _ _ _ _ (keeps_advTo _ (Keeps.refl _))))
  clear_value x3
  intro x4
  have hx4 : Keeps s x4 := (keeps_wrBit _ _ _ _ _ (keeps_wrBit _ _ _ _ _ hx3))
  clear_value x4
  intro x5
  have hx5 : Keeps s x5 := (keeps_inc _ _ _ _ _ (keeps_set _ _ _ _ hx4))
  clear_value x5
  exact keepsOut_next (keeps_ite (fun _ => (by
    split
    · exact (keeps_each _ _ hx5 (fun _ _ => (keeps_when _ _ (Keeps.refl _) (fun _ => (keeps_set _ _ _ _ (Keeps.refl _))))))
    · exact hx5
)) (fun _ => (Keeps.refl _)))

theorem State.soTest_keeps {s00 : State} (s : State) (k : Fin 12) (r : SoRead) (periodic : Bool) (h0 : Keeps s00 s) :
    Keeps s00 (State.soTest s k r periodic) := by
  refine keeps_trans h0 ?_
  unfold State.soTest
  lift_lets -useContext -merge -underBinder
  intro x0
  try clear_value x0
  intro x1
  try clear_value x1
  intro x2
  have hx2 : Keeps s x2 := (keeps_modDep _ (keeps_inc _ _ _ _ _ (keeps_set _ _ _ _ (Keeps.refl _))))
  clear_value x2
  intro x3
  have hx3 : Keeps s x3 := (keeps_advTo _ hx2)
  clear_value x3
  intro x4
  have hx4 : Keeps s x4 := (keeps_ite (fun _ => (State.closeSo_keeps _ _ hx3).h) (fun _ => hx3))
  clear_value x4
  intro x5
  try clear_value x5
  intro x6
  have hx6 : Keeps s x6 := (keeps_ite (fun _ => hx4) (fun _ => (State.record_keeps _ _ _ _ _ (keeps_wrBit _ _ _ _ _ (keeps_wr _ _ _ _ _ (keeps_set _ _ _ _ hx4))))))
  clear_value x6
  intro x7
  have hx7 : Keeps s x7 := (State.testEnd_keeps _ _ _ hx6)
  clear_value x7
  refine keeps_ite (fun _ => ?_) (fun _ => ?_)
  · exact (State.openSo_keeps _ _ hx2)
  · refine keeps_ite (fun _ => ?_) (fun _ => ?_)
    · exact (State.closeSo_keeps _ _ (keeps_modDep _ hx7)).h
    · exact hx7

theorem State.soRound_keeps {s00 : State} (s : State) (reads : List SoRead) (h0 : Keeps s00 s) :
    Keeps s00 (State.soRound s reads) := by
  refine keeps_trans h0 ?_
  unfold State.soRound
  exact (keeps_each _ _ (Keeps.refl _) (fun _ _ => (keeps_ite (fun _ => (State.soTest_keeps _ _ _ _ (Keeps.refl _))) (fun _ => (Keeps.refl _)))))

theorem execSoTestRound_keeps (reads : List SoRead) (s : State) : KeepsOut s (execSoTestRound reads s) := by
  unfold execSoTestRound
  exact keepsOut_next (keeps_ite (fun _ => (keeps_modDep _ (State.soRound_keeps _ _ (Keeps.refl _)))) (fun _ => (by
    split
    · exact (Keeps.refl _)
    · lift_lets -useContext -merge -underBinder
      intro x0
      have hx0 : Keeps s x0 := (State.soRound_keeps _ _ (keeps_advTo _ (Keeps.refl _)))
      clear_value x0
      intro x1
      try clear_value x1
      refine keeps_ite (fun _ => ?_) (fun _ => ?_)
      · exact (keeps_modDep _ hx0)
      · exact (Keeps.refl _)
)))

theorem execSoTestGo_keeps (l : Lane) (out : Fin 16) (read : SoRead) (s : State) : KeepsOut s (execSoTestGo l out read s) := by
  unfold execSoTestGo
  lift_lets -useContext -merge -underBinder
  intro x0
  have hx0 : Keeps s x0 := (keeps_wr _ _ _ _ _ (keeps_wr _ _ _ _ _ (Keeps.refl _)))
  clear_value x0
  exact keepsOut_next (keeps_ite (fun _ => (Keeps.refl _)) (fun _ => (keeps_ite (fun _ => (State.accessError_keeps _ _ _ _ _ _ (Keeps.refl _))) (fun _ => (by
    refine keeps_dite (fun _ => ?_) (fun _ => ?_)
    · lift_lets -useContext -merge -underBinder
      intro x1
      try clear_value x1
      refine keeps_ite (fun _ => ?_) (fun _ => ?_)
      · exact hx0
      · exact (State.soTest_keeps _ _ _ _ (Keeps.refl _))
    · exact hx0
)))))

theorem execSoCurrentLimit_keeps (k : Fin 12) (s : State) : KeepsOut s (execSoCurrentLimit k s) := by
  unfold execSoCurrentLimit
  exact keepsOut_next (keeps_ite (fun _ => (State.openSo_keeps _ _ (keeps_advTo _ (Keeps.refl _)))) (fun _ => (Keeps.refl _)))


end Sys2Proof.Machine
end

