-- ==== Sys2Proof/Laws/KeepsStart.lean ====
section
/-!
SUPPORT. The operations of Machine/Start.lean keep what `Keeps` says (Laws/Keeps.lean).
-/
namespace Sys2Proof.Machine

theorem State.modStart_keeps {s00 : State} (s : State) (l : Lane) (f : StartSt → StartSt) (h0 : Keeps s00 s) :
    Keeps s00 (State.modStart s l f) := by
  refine keeps_trans h0 ?_
  unfold State.modStart
  exact (keeps_modRun _ _ (Keeps.refl _) fun _ hr => hr)

theorem State.setPhase_keeps {s00 : State} (s : State) (l : Lane) (p : LanePhase) (h0 : Keeps s00 s) :
    Keeps s00 (State.setPhase s l p) := by
  refine keeps_trans h0 ?_
  unfold State.setPhase
  exact (keeps_modRun _ _ (Keeps.refl _) fun _ hr => hr)

theorem State.openRecord_keeps {s00 : State} (s : State) (l : Lane) (h0 : Keeps s00 s) :
    Keeps s00 (State.openRecord s l) := by
  refine keeps_trans h0 ?_
  unfold State.openRecord
  lift_lets -useContext -merge -underBinder
  intro x0 x1
  try clear_value x1
  intro x2
  have hx2 : Keeps s x2 := (State.modLamp_keeps _ _ _ (Keeps.refl _))
  clear_value x2
  intro x3
  try clear_value x3
  intro x4 x5
  try clear_value x5
  intro x6
  try clear_value x6
  intro x7
  try clear_value x7
  intro x8
  have hx8 : Keeps s x8 := by
    unfold x8
    split
    · exact (keeps_wr _ _ _ _ _ (keeps_wr _ _ _ _ _ (keeps_wr _ _ _ _ _ hx2)))
    · exact hx2
  clear_value x8
  intro x9
  have hx9 : Keeps s x9 := (keeps_put _ _ _ _ _ hx8)
  clear_value x9
  exact (keeps_wr _ _ _ _ _ (keeps_modNv _ _ hx9 (NvKeeps.of_eq rfl rfl rfl)))

theorem State.copyCauses_keeps {s00 : State} (s : State) (l : Lane) (h0 : Keeps s00 s) :
    Keeps s00 (State.copyCauses s l) := by
  refine keeps_trans h0 ?_
  unfold State.copyCauses
  lift_lets -useContext -merge -underBinder
  intro x0 x1
  have hx1 : Keeps s x1 := (keeps_wr _ _ _ _ _ (keeps_wr _ _ _ _ _ (keeps_wr _ _ _ _ _ (Keeps.refl _))))
  clear_value x1
  exact (keeps_clr _ _ _ _ (keeps_clr _ _ _ _ (keeps_clr _ _ _ _ (keeps_clr _ _ _ _ hx1))))

theorem spendBanks_keeps (blob : Fin 2 → Bool) (n : LaneNv) : NvKeeps n (spendBanks blob n) := by
  unfold spendBanks
  dsimp only
  split
  · exact NvKeeps.of_eq rfl rfl rfl
  · exact NvKeeps.refl n

theorem State.readOtp_keeps {s00 : State} (s0 : State) (l : Lane) (h0 : Keeps s00 s0) :
    Keeps s00 (State.readOtp s0 l) := by
  refine keeps_trans h0 ?_
  unfold State.readOtp
  lift_lets -useContext -merge -underBinder
  intro x0 x1
  have hx1 : Keeps s0 x1 := (keeps_modNv _ _ (Keeps.refl _) (spendBanks_keeps _ _))
  clear_value x1
  intro x2
  try clear_value x2
  intro x3
  have hx3 : Keeps s0 x3 := (keeps_wr _ _ _ _ _ (keeps_wr _ _ _ _ _ (keeps_wr _ _ _ _ _ hx1)))
  clear_value x3
  intro x4
  have hx4 : Keeps s0 x4 := (keeps_wr _ _ _ _ _ (keeps_wr _ _ _ _ _ (keeps_put _ _ _ _ _ hx3)))
  clear_value x4
  intro x5
  have hx5 : Keeps s0 x5 := (keeps_set _ _ _ _ (keeps_put _ _ _ _ _ (keeps_put _ _ _ _ _ hx4)))
  clear_value x5
  intro x6
  have hx6 : Keeps s0 x6 := (keeps_wr _ _ _ _ _ (keeps_wr _ _ _ _ _ (keeps_wr _ _ _ _ _ hx5)))
  clear_value x6
  exact (keeps_each _ _ hx6 (fun y7 y8 => (keeps_each _ _ (Keeps.refl _) (fun y9 y10 => (by
    lift_lets -useContext -merge -underBinder
    intro x11 x12
    try clear_value x12
    exact (State.modGrp_keeps _ _ _ _ (keeps_wr _ _ _ _ _ (keeps_wr _ _ _ _ _ (keeps_wr _ _ _ _ _ (Keeps.refl _)))))
)))))

theorem State.st02_keeps {s00 : State} (s : State) (l : Lane) (inp : StartInputs) (h0 : Keeps s00 s) :
    Keeps1 s00 (State.st02 s l inp) := by
  refine keeps1_trans h0 ?_
  unfold State.st02
  lift_lets -useContext -merge -underBinder
  intro x0
  have hx0 : Keeps s x0 := (keeps_wr _ _ _ _ _ (State.readOtp_keeps _ _ (State.copyCauses_keeps _ _ (Keeps.refl _))))
  clear_value x0
  exact ⟨Keeps.snd (keeps_set _ _ _ _ (keeps_when _ _ hx0 (fun _ => (keeps_set _ _ _ _ (Keeps.refl _)))))⟩

theorem State.st03_keeps {s00 : State} (s : State) (l : Lane) (h0 : Keeps s00 s) :
    Keeps1 s00 (State.st03 s l) := by
  refine keeps1_trans h0 ?_
  unfold State.st03
  lift_lets -useContext -merge -underBinder
  intro x0
  try clear_value x0
  exact ⟨Keeps.snd (keeps_modRun _ _ (keeps_put _ _ _ _ _ (Keeps.refl _)) fun _ hr => hr)⟩

theorem State.st04_keeps {s00 : State} (s : State) (l : Lane) (inp : StartInputs) (h0 : Keeps s00 s) :
    Keeps1 s00 (State.st04 s l inp) := by
  refine keeps1_trans h0 ?_
  unfold State.st04
  lift_lets -useContext -merge -underBinder
  intro x0 x1 x2
  try clear_value x2
  intro x3
  have hx3 : Keeps s x3 := (keeps_put _ _ _ _ _ (keeps_put _ _ _ _ _ (keeps_set _ _ _ _ (Keeps.refl _))))
  clear_value x3
  intro x4
  have hx4 : Keeps s x4 := (keeps_wr _ _ _ _ _ (keeps_wr _ _ _ _ _ (keeps_wr _ _ _ _ _ hx3)))
  clear_value x4
  intro x5
  have hx5 : Keeps s x5 := (keeps_each _ _ hx4 (fun _ _ => (keeps_wr _ _ _ _ _ (Keeps.refl _))))
  clear_value x5
  exact ⟨Keeps.snd (keeps_put _ _ _ _ _ hx5)⟩

theorem State.loadImage_keeps {s00 : State} (s : State) (l : Lane) (b : BootImage) (h0 : Keeps s00 s) :
    Keeps s00 (State.loadImage s l b) := by
  refine keeps_trans h0 ?_
  unfold State.loadImage
  exact (State.modStart_keeps _ _ _ (keeps_each _ _ (Keeps.refl _) (fun _ _ => (State.setBytes_keeps _ _ _ _ (Keeps.refl _)))))

theorem State.st06_keeps {s00 : State} (s : State) (l : Lane) (inp : StartInputs) (h0 : Keeps s00 s) :
    Keeps1 s00 (State.st06 s l inp) := by
  refine keeps1_trans h0 ?_
  unfold State.st06
  lift_lets -useContext -merge -underBinder
  intro x0 x1
  try clear_value x1
  intro x2
  have hx2 : Keeps s x2 := (keeps_put _ _ _ _ _ (Keeps.refl _))
  clear_value x2
  intro x3
  try clear_value x3
  intro x4
  try clear_value x4
  intro x5
  have hx5 : Keeps s x5 := (keeps_wr _ _ _ _ _ (keeps_wr _ _ _ _ _ (State.loadImage_keeps _ _ _ hx2)))
  clear_value x5
  refine keeps1_ite (fun _ => ?_) (fun _ => ?_)
  · exact ⟨Keeps.snd hx2⟩
  · refine keeps1_ite (fun _ => ?_) (fun _ => ?_)
    · exact ⟨Keeps.snd hx2⟩
    · exact ⟨Keeps.snd (State.modStart_keeps _ _ _ hx5)⟩

theorem State.st07_keeps {s00 : State} (s : State) (l : Lane) (inp : StartInputs) (h0 : Keeps s00 s) :
    Keeps1 s00 (State.st07 s l inp) := by
  refine keeps1_trans h0 ?_
  unfold State.st07
  lift_lets -useContext -merge -underBinder
  intro x0 x1
  try clear_value x1
  intro x2
  have hx2 : Keeps s x2 := (keeps_put _ _ _ _ _ (Keeps.refl _))
  clear_value x2
  intro x3
  try clear_value x3
  intro x4
  try clear_value x4
  intro x5
  have hx5 : Keeps s x5 := (keeps_wr _ _ _ _ _ (keeps_wr _ _ _ _ _ (keeps_wr _ _ _ _ _ hx2)))
  clear_value x5
  refine keeps1_ite (fun _ => ?_) (fun _ => ?_)
  · exact ⟨Keeps.snd hx2⟩
  · refine keeps1_ite (fun _ => ?_) (fun _ => ?_)
    · exact ⟨Keeps.snd hx2⟩
    · exact ⟨Keeps.snd (State.modStart_keeps _ _ _ (keeps_wr _ _ _ _ _ (keeps_wr _ _ _ _ _ hx5)))⟩

theorem State.st08_keeps {s00 : State} (s : State) (l : Lane) (inp : StartInputs) (h0 : Keeps s00 s) :
    Keeps1 s00 (State.st08 s l inp) := by
  refine keeps1_trans h0 ?_
  unfold State.st08
  lift_lets -useContext -merge -underBinder
  intro x0 x1
  try clear_value x1
  intro x2
  have hx2 : Keeps s x2 := (keeps_put _ _ _ _ _ (Keeps.refl _))
  clear_value x2
  intro x3
  try clear_value x3
  intro x4
  try clear_value x4
  intro x5
  try clear_value x5
  intro x6
  have hx6 : Keeps s x6 := (State.writeImage_keeps _ _ _ _ (State.modStart_keeps _ _ _ hx2))
  clear_value x6
  intro x7
  have hx7 : Keeps s x7 := (keeps_put _ _ _ _ _ (keeps_wr _ _ _ _ _ (keeps_wr _ _ _ _ _ hx6)))
  clear_value x7
  intro x8
  have hx8 : Keeps s x8 := (keeps_wr _ _ _ _ _ (keeps_wr _ _ _ _ _ hx7))
  clear_value x8
  refine keeps1_ite (fun _ => ?_) (fun _ => ?_)
  · exact ⟨Keeps.snd hx2⟩
  · refine keeps1_ite (fun _ => ?_) (fun _ => ?_)
    · exact ⟨Keeps.snd hx2⟩
    · exact ⟨Keeps.snd (keeps_when _ _ hx8 (fun _ => (keeps_set _ _ _ _ (Keeps.refl _))))⟩

theorem State.st09_keeps {s00 : State} (s : State) (l : Lane) (inp : StartInputs) (h0 : Keeps s00 s) :
    Keeps1 s00 (State.st09 s l inp) := by
  refine keeps1_trans h0 ?_
  unfold State.st09
  split
  · exact ⟨Keeps.snd (Keeps.refl _)⟩
  · refine keeps1_ite (fun _ => ?_) (fun _ => ?_)
    · exact ⟨Keeps.snd (keeps_each _ _ (State.modStart_keeps _ _ _ (Keeps.refl _)) (fun _ _ => (keeps_wr _ _ _ _ _ (keeps_wr _ _ _ _ _ (Keeps.refl _)))))⟩
    · exact ⟨Keeps.snd (Keeps.refl _)⟩

theorem State.st10_keeps {s00 : State} (s : State) (l : Lane) (inp : StartInputs) (h0 : Keeps s00 s) :
    Keeps1 s00 (State.st10 s l inp) := by
  refine keeps1_trans h0 ?_
  unfold State.st10
  lift_lets -useContext -merge -underBinder
  intro x0 x1
  try clear_value x1
  intro x2
  have hx2 : Keeps s x2 := (keeps_wr _ _ _ _ _ (keeps_wr _ _ _ _ _ (keeps_set _ _ _ _ (keeps_set _ _ _ _ (Keeps.refl _)))))
  clear_value x2
  intro x3
  have hx3 : Keeps s x3 := (keeps_each _ _ (keeps_wr _ _ _ _ _ hx2) (fun _ _ => (State.loadFactory_keeps _ _ _ (Keeps.refl _))))
  clear_value x3
  intro x6
  split
  · exact ⟨Keeps.snd (State.asyLoad_keeps _ _ (keeps_set _ _ _ _ hx3))⟩
  · exact ⟨Keeps.snd (State.asyLoad_keeps _ _ (keeps_set _ _ _ _ hx3))⟩
  · lift_lets -useContext -merge -underBinder
    intro x7
    try clear_value x7
    intro x8
    try clear_value x8
    intro x9
    have hx9 : Keeps s x9 := (keeps_wrSat _ _ _ _ _ (keeps_wr _ _ _ _ _ (keeps_wr _ _ _ _ _ hx3)))
    clear_value x9
    refine keeps1_ite (fun _ => ?_) (fun _ => ?_)
    · exact ⟨Keeps.snd (State.asyLoad_keeps _ _ (keeps_each _ _ hx9 (fun _ _ => (State.loadRecord_keeps _ _ _ (Keeps.refl _)))))⟩
    · exact ⟨Keeps.snd hx3⟩

theorem State.st11_keeps {s00 : State} (s : State) (l : Lane) (inp : StartInputs) (h0 : Keeps s00 s) :
    Keeps1 s00 (State.st11 s l inp) := by
  refine keeps1_trans h0 ?_
  unfold State.st11
  lift_lets -useContext -merge -underBinder
  intro x0 x1
  try clear_value x1
  intro x2
  try clear_value x2
  intro x3
  have hx3 : Keeps s x3 := (keeps_set _ _ _ _ (keeps_wr _ _ _ _ _ (keeps_wr _ _ _ _ _ (Keeps.refl _))))
  clear_value x3
  exact ⟨Keeps.snd hx3⟩

theorem State.st16_keeps {s00 : State} (s : State) (l : Lane) (inp : StartInputs) (h0 : Keeps s00 s) :
    Keeps1 s00 (State.st16 s l inp) := by
  refine keeps1_trans h0 ?_
  unfold State.st16
  lift_lets -useContext -merge -underBinder
  intro x0 x1
  try clear_value x1
  intro x2
  try clear_value x2
  intro x3
  try clear_value x3
  exact ⟨Keeps.snd (Keeps.refl _)⟩

theorem State.st12_keeps {s00 : State} (s : State) (l : Lane) (h0 : Keeps s00 s) :
    Keeps1 s00 (State.st12 s l) := by
  refine keeps1_trans h0 ?_
  unfold State.st12
  lift_lets -useContext -merge -underBinder
  intro x0 x1
  have hx1 : Keeps s x1 := (State.trainEnd_keeps _ (State.trainBegin_keeps _ _ (Keeps.refl _)))
  clear_value x1
  refine keeps1_ite (fun _ => ?_) (fun _ => ?_)
  · exact ⟨Keeps.snd (Keeps.refl _)⟩
  · refine keeps1_ite (fun _ => ?_) (fun _ => ?_)
    · exact ⟨Keeps.snd (Keeps.refl _)⟩
    · refine keeps1_ite (fun _ => ?_) (fun _ => ?_)
      · exact ⟨Keeps.snd (Keeps.refl _)⟩
      · refine keeps1_ite (fun _ => ?_) (fun _ => ?_)
        · exact ⟨Keeps.snd (Keeps.refl _)⟩
        · refine keeps1_ite (fun _ => ?_) (fun _ => ?_)
          · exact ⟨Keeps.snd (Keeps.refl _)⟩
          · exact ⟨Keeps.snd hx1⟩

theorem State.st13_keeps {s00 : State} (s : State) (l : Lane) (inp : StartInputs) (h0 : Keeps s00 s) :
    Keeps1 s00 (State.st13 s l inp) := by
  refine keeps1_trans h0 ?_
  unfold State.st13
  lift_lets -useContext -merge -underBinder
  intro x0 x1
  try clear_value x1
  intro x2
  try clear_value x2
  intro x3
  try clear_value x3
  intro x4
  have hx4 : Keeps s x4 := (keeps_each _ _ (keeps_put _ _ _ _ _ (Keeps.refl _)) (fun y5 y6 => (by
    lift_lets -useContext -merge -underBinder
    intro x7
    try clear_value x7
    exact (keeps_wrSat _ _ _ _ _ (keeps_wrSat _ _ _ _ _ (keeps_wrSat _ _ _ _ _ (Keeps.refl _))))
)))
  clear_value x4
  refine keeps1_ite (fun _ => ?_) (fun _ => ?_)
  · exact ⟨Keeps.snd (keeps_set _ _ _ _ hx4)⟩
  · exact ⟨Keeps.snd (keeps_clr _ _ _ _ hx4)⟩

theorem State.writeHeld_keeps {s00 : State} (s : State) (l : Lane) (h0 : Keeps s00 s) :
    Keeps s00 (State.writeHeld s l) := by
  refine keeps_trans h0 ?_
  unfold State.writeHeld
  lift_lets -useContext -merge -underBinder
  intro x0 x1
  have hx1 : Keeps s x1 := (keeps_each _ _ (Keeps.refl _) (fun _ _ => (keeps_ite (fun _ => (Keeps.refl _)) (fun _ => (State.applyTriple_keeps _ _ _ _ (Keeps.refl _))))))
  clear_value x1
  exact (keeps_wr _ _ _ _ _ (keeps_wr _ _ _ _ _ (keeps_wr _ _ _ _ _ (keeps_wr _ _ _ _ _ hx1))))

theorem State.handshake_keeps {s00 : State} (s : State) (l : Lane) (h0 : Keeps s00 s) :
    Keeps s00 (State.handshake s l) := by
  refine keeps_trans h0 ?_
  unfold State.handshake
  lift_lets -useContext -merge -underBinder
  intro x0
  try clear_value x0
  intro x1
  have hx1 : Keeps s x1 := (keeps_put _ _ _ _ _ (keeps_set _ _ _ _ (Keeps.refl _)))
  clear_value x1
  intro x2
  have hx2 : Keeps s x2 := (keeps_modDepLane _ _ hx1)
  clear_value x2
  intro x3
  have hx3 : Keeps s x3 := (keeps_put _ _ _ _ _ (State.modSup_keeps _ _ _ hx2))
  clear_value x3
  intro x4
  try clear_value x4
  intro x5
  have hx5 : Keeps s x5 := (keeps_modDep _ hx3)
  clear_value x5
  exact (State.syncMaster_keeps _ (State.syncChs_keeps _ (State.syncSto_keeps _ (State.syncImposed_keeps _ hx5))))

theorem State.st14_keeps {s00 : State} (s : State) (l : Lane) (h0 : Keeps s00 s) :
    Keeps1 s00 (State.st14 s l) := by
  refine keeps1_trans h0 ?_
  unfold State.st14
  lift_lets -useContext -merge -underBinder
  intro x0
  have hx0 : Keeps s x0 := (State.writeHeld_keeps _ _ (Keeps.refl _))
  clear_value x0
  intro x1
  have hx1 : Keeps s x1 := (keeps_ite (fun _ => (Keeps.refl _)) (fun _ => hx0))
  clear_value x1
  intro x2
  try clear_value x2
  intro x3
  try clear_value x3
  intro x4
  try clear_value x4
  refine keeps1_ite (fun _ => ?_) (fun _ => ?_)
  · exact ⟨Keeps.snd (Keeps.refl _)⟩
  · refine keeps1_ite (fun _ => ?_) (fun _ => ?_)
    · exact ⟨Keeps.snd (State.handshake_keeps _ _ hx1)⟩
    · exact ⟨Keeps.snd hx1⟩

theorem State.st15_keeps {s00 : State} (s : State) (l : Lane) (h0 : Keeps s00 s) :
    Keeps1 s00 (State.st15 s l) := by
  refine keeps1_trans h0 ?_
  unfold State.st15
  refine keeps1_ite (fun _ => ?_) (fun _ => ?_)
  · exact ⟨Keeps.snd (Keeps.refl _)⟩
  · refine keeps1_ite (fun _ => ?_) (fun _ => ?_)
    · exact ⟨Keeps.snd (Keeps.refl _)⟩
    · refine keeps1_ite (fun _ => ?_) (fun _ => ?_)
      · exact ⟨Keeps.snd (Keeps.refl _)⟩
      · exact ⟨Keeps.snd (Keeps.refl _)⟩

theorem State.copyElapsed_keeps {s00 : State} (s : State) (l : Lane) (h0 : Keeps s00 s) :
    Keeps s00 (State.copyElapsed s l) := by
  refine keeps_trans h0 ?_
  unfold State.copyElapsed
  lift_lets -useContext -merge -underBinder
  intro x0 x1
  try clear_value x1
  intro x2
  try clear_value x2
  intro x3
  have hx3 : Keeps s x3 := (keeps_wr _ _ _ _ _ (keeps_wr _ _ _ _ _ (keeps_wr _ _ _ _ _ (keeps_wr _ _ _ _ _ (keeps_wr _ _ _ _ _ (keeps_wr _ _ _ _ _ (Keeps.refl _)))))))
  clear_value x3
  intro x4
  have hx4 : Keeps s x4 := (keeps_wr _ _ _ _ _ hx3)
  clear_value x4
  intro x5
  try clear_value x5
  intro x6
  try clear_value x6
  intro x7
  try clear_value x7
  exact (State.modClk_keeps _ _ _ hx4)

theorem State.noTime_keeps {s00 : State} (s : State) (l : Lane) (h0 : Keeps s00 s) :
    Keeps1 s00 (State.noTime s l) := by
  refine keeps1_trans h0 ?_
  unfold State.noTime
  exact ⟨Keeps.snd (keeps_set _ _ _ _ (Keeps.refl _))⟩

theorem State.st18_keeps {s00 : State} (s : State) (l : Lane) (h0 : Keeps s00 s) :
    Keeps1 s00 (State.st18 s l) := by
  refine keeps1_trans h0 ?_
  unfold State.st18
  lift_lets -useContext -merge -underBinder
  intro x0
  have hx0 : Keeps s x0 := (State.timeBest_keeps _ _ (keeps_ite (fun _ => (State.copyElapsed_keeps _ _ (Keeps.refl _))) (fun _ => (Keeps.refl _))))
  clear_value x0
  refine keeps1_ite (fun _ => ?_) (fun _ => ?_)
  · exact ⟨Keeps.snd hx0⟩
  · refine keeps1_ite (fun _ => ?_) (fun _ => ?_)
    · exact (State.noTime_keeps _ _ hx0)
    · exact ⟨Keeps.snd hx0⟩

theorem State.sealDeputy_keeps {s00 : State} (s : State) (l : Lane) (h0 : Keeps s00 s) :
    Keeps s00 (State.sealDeputy s l) := by
  refine keeps_trans h0 ?_
  unfold State.sealDeputy
  lift_lets -useContext -merge -underBinder
  intro x0
  try clear_value x0
  intro x1
  have hx1 : Keeps s x1 := (keeps_modDep _ (keeps_wr _ _ _ _ _ (keeps_set _ _ _ _ (Keeps.refl _))))
  clear_value x1
  refine keeps_ite (fun _ => ?_) (fun _ => ?_)
  · exact (keeps_each _ _ hx1 (fun _ _ => (keeps_when _ _ (Keeps.refl _) (fun _ => (keeps_set _ _ _ _ (Keeps.refl _))))))
  · exact (Keeps.refl _)

theorem State.takeUp_keeps {s00 : State} (s : State) (l : Lane) (m : Nat) (h0 : Keeps s00 s) :
    Keeps s00 (State.takeUp s l m) := by
  refine keeps_trans h0 ?_
  unfold State.takeUp
  exact (keeps_wr _ _ _ _ _ (State.applyImage_keeps _ _ _ (Keeps.refl _)))

theorem State.startDone_keeps {s00 : State} (s : State) (l : Lane) (h0 : Keeps s00 s) :
    Keeps s00 (State.startDone s l) := by
  refine keeps_trans h0 ?_
  unfold State.startDone
  lift_lets -useContext -merge -underBinder
  intro x0 x1
  try clear_value x1
  intro x2
  have hx2 : Keeps s x2 := (State.sealDeputy_keeps _ _ (keeps_set _ _ _ _ (keeps_set _ _ _ _ (Keeps.refl _))))
  clear_value x2
  intro x3
  have hx3 : Keeps s x3 := (keeps_when _ _ hx2 (fun _ => (keeps_modDep _ (keeps_wr _ _ _ _ _ (Keeps.refl _)))))
  clear_value x3
  intro x5
  have hx5 : Keeps s x5 := (keeps_wr _ _ _ _ _ (State.takeUp_keeps _ _ _ hx3))
  clear_value x5
  intro x6
  have hx6 : Keeps s x6 := (keeps_when _ _ hx5 (fun _ => (State.takeUp_keeps _ _ _ (Keeps.refl _))))
  clear_value x6
  intro x8
  have hx8 : Keeps s x8 := (State.modPap_keeps _ _ _ (keeps_when _ _ hx6 (fun _ => (keeps_set _ _ _ _ (Keeps.refl _)))))
  clear_value x8
  intro x10
  have hx10 : Keeps s x10 := (State.redriveAll_keeps _ _ hx8)
  clear_value x10
  intro x11
  have hx11 : Keeps s x11 := (keeps_when _ _ hx10 (fun _ => (keeps_when _ _ (keeps_modDepLane _ _ (keeps_set _ _ _ _ (Keeps.refl _))) (fun _ => (State.checkIslands_keeps _ (Keeps.refl _))))))
  clear_value x11
  exact (keeps_when _ _ (State.actSync_keeps _ _ (State.nrgMode_keeps _ _ (State.setRole_keeps _ _ _ hx11))) (fun _ => (State.syncMaster_keeps _ (State.grantLogic_keeps _ (State.syncImposed_keeps _ (State.syncChs_keeps _ (State.syncSto_keeps _ (Keeps.refl _))))))))

theorem State.st01_keeps {s00 : State} (s : State) (l : Lane) (h0 : Keeps s00 s) : Keeps s00 (s.st01 l) :=
  keeps_wr _ _ _ _ _ (State.resetRegs_keeps _ _ _ (keeps_modRun _ _ h0 fun _ _ => ⟨rfl, rfl, rfl⟩))

theorem State.stepBody_keeps {s00 : State} (s : State) (l : Lane) (inp : StartInputs) (n : Nat) (h0 : Keeps s00 s) :
    Keeps1 s00 (State.stepBody s l inp n) := by
  refine keeps1_trans h0 ?_
  unfold State.stepBody
  split
  · exact ⟨Keeps.snd (State.vrcStart_keeps _ _ (Keeps.refl _))⟩
  · exact ⟨Keeps.snd (State.st01_keeps _ _ (Keeps.refl _))⟩
  · exact (State.st02_keeps _ _ _ (Keeps.refl _))
  · exact (State.st03_keeps _ _ (Keeps.refl _))
  · exact (State.st04_keeps _ _ _ (Keeps.refl _))
  · exact (State.st06_keeps _ _ _ (Keeps.refl _))
  · exact (State.st07_keeps _ _ _ (Keeps.refl _))
  · exact (State.st08_keeps _ _ _ (Keeps.refl _))
  · exact (State.st09_keeps _ _ _ (Keeps.refl _))
  · exact (State.st10_keeps _ _ _ (Keeps.refl _))
  · exact (State.st11_keeps _ _ _ (Keeps.refl _))
  · exact (State.st12_keeps _ _ (Keeps.refl _))
  · exact (State.st13_keeps _ _ _ (Keeps.refl _))
  · exact (State.st14_keeps _ _ (Keeps.refl _))
  · exact (State.st15_keeps _ _ (Keeps.refl _))
  · exact (State.st16_keeps _ _ _ (Keeps.refl _))
  · exact (State.st18_keeps _ _ (Keeps.refl _))
  · exact ⟨Keeps.snd (Keeps.refl _)⟩

theorem State.stepRun_keeps {s00 : State} (s : State) (l : Lane) (inp : StartInputs) (n : Nat) (h0 : Keeps s00 s) :
    Keeps1 s00 (State.stepRun s l inp n) := by
  refine keeps1_trans h0 ?_
  unfold State.stepRun
  split
  · exact ⟨Keeps.snd (Keeps.refl _)⟩
  · exact ⟨Keeps.snd (Keeps.refl _)⟩
  · exact (State.stepBody_keeps _ _ _ _ (Keeps.refl _))

theorem State.stepAfter_keeps {s00 : State} (s : State) (l : Lane) (n : Nat) (h0 : Keeps s00 s) :
    Keeps s00 (State.stepAfter s l n) := by
  refine keeps_trans h0 ?_
  unfold State.stepAfter
  lift_lets -useContext -merge -underBinder
  intro x0
  split
  · exact (State.modClk_keeps _ _ _ (Keeps.refl _))
  · exact (keeps_each _ _ (Keeps.refl _) (fun _ _ => (keeps_when _ _ (Keeps.refl _) (fun _ => (State.timEnable_keeps _ _ _ (Keeps.refl _))))))
  · exact (State.asySync_keeps _ _ (Keeps.refl _))
  · lift_lets -useContext -merge -underBinder
    intro x4
    have hx4 : Keeps s x4 := (State.ceStart_keeps _ _ (State.posStart_keeps _ _ (Keeps.refl _)))
    clear_value x4
    intro x5
    have hx5 : Keeps s x5 := (keeps_each _ _ hx4 (fun _ _ => (keeps_when _ _ (Keeps.refl _) (fun _ => (State.startTb_keeps _ _ _ (Keeps.refl _))))))
    clear_value x5
    exact (State.tripsStart_keeps _ _ (keeps_each _ _ hx5 (fun _ _ => (keeps_when _ _ (Keeps.refl _) (fun _ => (State.enableCh_keeps _ _ _ _ (Keeps.refl _)))))))
  · exact (State.actSync_keeps _ _ (keeps_when _ _ (Keeps.refl _) (fun _ => (State.goPath_keeps _ _ _ _ (Keeps.refl _)))))
  · exact (State.startDone_keeps _ _ (Keeps.refl _))
  · exact (Keeps.refl _)

theorem State.stepEnter_keeps {s00 : State} (s : State) (l : Lane) (n : Nat) (h0 : Keeps s00 s) :
    Keeps s00 (State.stepEnter s l n) := by
  refine keeps_trans h0 ?_
  unfold State.stepEnter
  lift_lets -useContext -merge -underBinder
  intro x0
  have hx0 : Keeps s x0 := (keeps_wr _ _ _ _ _ (State.modStart_keeps _ _ _ (State.setPhase_keeps _ _ _ (Keeps.refl _))))
  clear_value x0
  refine keeps_ite (fun _ => ?_) (fun _ => ?_)
  · exact hx0
  · refine keeps_ite (fun _ => ?_) (fun _ => ?_)
    · exact (State.openRecord_keeps _ _ hx0)
    · exact (State.modLamp_keeps _ _ _ hx0)

theorem State.startFails_keeps {s00 : State} (s : State) (l : Lane) (h0 : Keeps s00 s) :
    Keeps s00 (State.startFails s l) := by
  refine keeps_trans h0 ?_
  unfold State.startFails
  exact (State.resetIsland_keeps _ _ _ (Keeps.refl _))

theorem State.stepEnd_keeps {s00 : State} (s : State) (l : Lane) (n code : Nat) (h0 : Keeps s00 s) :
    Keeps1 s00 (State.stepEnd s l n code) := by
  refine keeps1_trans h0 ?_
  unfold State.stepEnd
  lift_lets -useContext -merge -underBinder
  intro x0
  try clear_value x0
  intro x1
  have hx1 : Keeps s x1 := (keeps_ite (fun _ => (Keeps.refl _)) (fun _ => (keeps_ite (fun _ => (keeps_ite (fun _ => (State.lampOutcome_keeps _ _ _ _ (State.modLamp_keeps _ _ _ (State.openRecord_keeps _ _ (Keeps.refl _))))) (fun _ => (Keeps.refl _)))) (fun _ => (State.lampOutcome_keeps _ _ _ _ (Keeps.refl _))))))
  clear_value x1
  refine keeps1_ite (fun _ => ?_) (fun _ => ?_)
  · exact ⟨Keeps.snd (keeps_ite (fun _ => (State.setPhase_keeps _ _ _ hx1)) (fun _ => (State.startFails_keeps _ _ hx1)))⟩
  · exact ⟨Keeps.snd (State.stepAfter_keeps _ _ _ (State.setPhase_keeps _ _ _ hx1))⟩

theorem runSteps_keeps {s00 : State} (l : Lane) (inp : StartInputs) : ∀ (k n : Nat) (s : State) (_ : Keeps s00 s),
    Keeps s00 (runSteps l inp k n s)
  | 0, _, _, h => h
  | k + 1, n, s, h => by
    unfold runSteps
    have h1 := State.stepRun_keeps s l inp n h
    have h2 := State.stepEnd_keeps (s.stepRun l inp n).2 l n (s.stepRun l inp n).1 h1.h
    refine keeps_ite (fun _ => h1.h) fun _ => keeps_ite (fun _ => ?_) fun _ => h2.h
    exact runSteps_keeps l inp k (n + 1) _ (State.stepEnter_keeps _ _ _ h2.h)

theorem State.stepForced_keeps {s00 : State} (s : State) (l : Lane) (inp : StartInputs) (n code : Nat) (h0 : Keeps s00 s) :
    Keeps s00 (State.stepForced s l inp n code) := by
  refine keeps_trans h0 ?_
  unfold State.stepForced
  lift_lets -useContext -merge -underBinder
  intro x0
  have hx0 : Keeps1 s x0 := (State.stepEnd_keeps _ _ _ _ (Keeps.refl _))
  clear_value x0
  refine keeps_ite (fun _ => ?_) (fun _ => ?_)
  · exact (runSteps_keeps _ _ _ _ _ (State.stepEnter_keeps _ _ _ hx0.h))
  · exact hx0.h

theorem execLaneStart_keeps (l : Lane) (inp : StartInputs) (s : State) : KeepsOut s (execLaneStart l inp s) := by
  unfold execLaneStart
  exact keepsOut_next (by
    split
    · refine keeps_ite (fun _ => ?_) (fun _ => ?_)
      · exact (runSteps_keeps _ _ _ _ _ (State.stepEnter_keeps _ _ _ (keeps_set _ _ _ _ (Keeps.refl _))))
      · exact (Keeps.refl _)
    · refine keeps_ite (fun _ => ?_) (fun _ => ?_)
      · exact (runSteps_keeps _ _ _ _ _ (State.stepEnter_keeps _ _ _ (Keeps.refl _)))
      · exact (Keeps.refl _)
    · exact (runSteps_keeps _ _ _ _ _ (Keeps.refl _))
    · exact (Keeps.refl _)
)

theorem execStartStepTimeout_keeps (l : Lane) (inp : StartInputs) (s : State) : KeepsOut s (execStartStepTimeout l inp s) := by
  unfold execStartStepTimeout
  exact keepsOut_next (by
    split
    · refine keeps_ite (fun _ => ?_) (fun _ => ?_)
      · exact (Keeps.refl _)
      · exact (State.stepForced_keeps _ _ _ _ _ (keeps_advTo _ (Keeps.refl _)))
    · exact (Keeps.refl _)
)

theorem execPartnerWaitExpiry_keeps (l : Lane) (inp : StartInputs) (s : State) : KeepsOut s (execPartnerWaitExpiry l inp s) := by
  unfold execPartnerWaitExpiry
  exact keepsOut_next (by
    split
    · lift_lets -useContext -merge -underBinder
      intro x0
      try clear_value x0
      refine keeps_ite (fun _ => ?_) (fun _ => ?_)
      · exact (Keeps.refl _)
      · exact (State.stepForced_keeps _ _ _ _ _ (keeps_set _ _ _ _ (keeps_advTo _ (Keeps.refl _))))
    · exact (Keeps.refl _)
)

theorem execTimeWaitExpiry_keeps (l : Lane) (inp : StartInputs) (s : State) : KeepsOut s (execTimeWaitExpiry l inp s) := by
  unfold execTimeWaitExpiry
  exact keepsOut_next (by
    split
    · lift_lets -useContext -merge -underBinder
      intro x0
      have hx0 : Keeps1 s x0 := (State.noTime_keeps _ _ (keeps_advTo _ (Keeps.refl _)))
      clear_value x0
      exact (State.stepForced_keeps _ _ _ _ _ hx0.h)
    · exact (Keeps.refl _)
)

theorem execBootNext_keeps (l : Lane) (slot : Fin 4) (s : State) : KeepsOut s (execBootNext l slot s) := by
  unfold execBootNext
  exact keepsOut_next (keeps_ite (fun _ => (State.bootNext_keeps _ _ _ (Keeps.refl _))) (fun _ => (Keeps.refl _)))

theorem execKeyRevoke_keeps (l : Lane) (slot : Fin 4) (key : Nat) (s : State) : KeepsOut s (execKeyRevoke l slot key s) := by
  unfold execKeyRevoke
  exact keepsOut_next (keeps_ite (fun _ => Keeps.refl _) fun _ => keeps_ite (fun _ => keeps_set _ _ _ _
    (keeps_modNv _ _ (Keeps.refl _) ⟨Nat.le_refl _, fun _ h => bit_setBit _ _ _ h, fun _ h => h, id⟩)) fun _ => keeps_set _ _ _ _ (Keeps.refl _))

theorem State.modLoader_keeps {s00 : State} (s : State) (l : Lane) (f : LoaderSt → LoaderSt) (h0 : Keeps s00 s) :
    Keeps s00 (State.modLoader s l f) := by
  refine keeps_trans h0 ?_
  unfold State.modLoader
  exact (State.modStart_keeps _ _ _ (Keeps.refl _))

theorem execLoaderBlockStart_keeps (l : Lane) (block crc : Nat) (s : State) : KeepsOut s (execLoaderBlockStart l block crc s) := by
  unfold execLoaderBlockStart
  exact keepsOut_next (keeps_ite (fun _ => (State.modLoader_keeps _ _ _ (Keeps.refl _))) (fun _ => (Keeps.refl _)))

theorem State.loaderAnswer_keeps {s00 : State} (s : State) (l : Lane) (block status : Nat) (f : LoaderSt → LoaderSt) (h0 : Keeps s00 s) :
    Keeps s00 (State.loaderAnswer s l block status f) := by
  refine keeps_trans h0 ?_
  unfold State.loaderAnswer
  exact (State.modLoader_keeps _ _ _ (Keeps.refl _))

theorem State.loaderStore_keeps {s00 : State} (s : State) (l : Lane) (block : Nat) (bs : List Nat) (len : Nat) (m : LoaderMedia) (h0 : Keeps s00 s) :
    Keeps s00 (State.loaderStore s l block bs len m) := by
  refine keeps_trans h0 ?_
  unfold State.loaderStore
  lift_lets -useContext -merge -underBinder
  intro x0
  have hx0 : Keeps s x0 := (keeps_when _ _ (Keeps.refl _) (fun _ => (State.norErase_keeps _ _ _ _ (Keeps.refl _))))
  clear_value x0
  intro x2
  have hx2 : Keeps s x2 := (State.norProgram_keeps _ _ _ _ hx0)
  clear_value x2
  refine keeps_ite (fun _ => ?_) (fun _ => ?_)
  · exact (State.loaderAnswer_keeps _ _ _ _ _ hx0)
  · refine keeps_ite (fun _ => ?_) (fun _ => ?_)
    · exact (State.loaderAnswer_keeps _ _ _ _ _ hx2)
    · refine keeps_ite (fun _ => ?_) (fun _ => ?_)
      · exact (State.loaderAnswer_keeps _ _ _ _ _ (State.resetIsland_keeps _ _ _ hx2))
      · exact (State.loaderAnswer_keeps _ _ _ _ _ hx2)

theorem State.loaderJudge_keeps {s00 : State} (s : State) (l : Lane) (block crc : Nat) (m : LoaderMedia) (h0 : Keeps s00 s) :
    Keeps s00 (State.loaderJudge s l block crc m) := by
  refine keeps_trans h0 ?_
  unfold State.loaderJudge
  lift_lets -useContext -merge -underBinder
  intro x0
  try clear_value x0
  intro x1
  try clear_value x1
  intro x2
  try clear_value x2
  refine keeps_ite (fun _ => ?_) (fun _ => ?_)
  · exact (State.loaderAnswer_keeps _ _ _ _ _ (Keeps.refl _))
  · refine keeps_ite (fun _ => ?_) (fun _ => ?_)
    · exact (State.loaderAnswer_keeps _ _ _ _ _ (Keeps.refl _))
    · refine keeps_ite (fun _ => ?_) (fun _ => ?_)
      · exact (State.loaderAnswer_keeps _ _ _ _ _ (Keeps.refl _))
      · exact (State.loaderStore_keeps _ _ _ _ _ _ (Keeps.refl _))

theorem execLoaderData_keeps (l : Lane) (frame : Nat) (bytes : List Nat) (media : LoaderMedia) (s : State) : KeepsOut s (execLoaderData l frame bytes media s) := by
  unfold execLoaderData
  exact keepsOut_next (by
    split
    · lift_lets -useContext -merge -underBinder
      intro x0
      have hx0 : Keeps s x0 := (State.modLoader_keeps _ _ _ (Keeps.refl _))
      clear_value x0
      refine keeps_ite (fun _ => ?_) (fun _ => ?_)
      · refine keeps_ite (fun _ => ?_) (fun _ => ?_)
        · exact (State.loaderJudge_keeps _ _ _ _ _ hx0)
        · exact hx0
      · exact (Keeps.refl _)
    · exact (Keeps.refl _)
)


end Sys2Proof.Machine
end

