-- ==== Sys2Proof/Laws/KeepsSupplies.lean ====
section
/-!
SUPPORT. The operations of Machine/Supplies.lean keep what `Keeps` says (Laws/Keeps.lean).
-/
namespace Sys2Proof.Machine

theorem execIslandSupplyRise_keeps (l : Lane) (s : State) : KeepsOut s (execIslandSupplyRise l s) := by
  unfold execIslandSupplyRise
  lift_lets -useContext -merge -underBinder
  intro x0 x1
  have hx1 : Keeps s x1 := (State.modPap_keeps _ _ _ (State.setSupplies_keeps _ _ _ (State.setIsland_keeps _ _ _ (Keeps.refl _))))
  clear_value x1
  exact keepsOut_next (keeps_ite (fun _ => (Keeps.refl _)) (fun _ => (keeps_set _ _ _ _ (keeps_wr _ _ _ _ _ (keeps_wr _ _ _ _ _ (keeps_set _ _ _ _ hx1))))))

theorem execIslandSupplyFault_keeps (l : Lane) (sup : IslandSupply) (s : State) : KeepsOut s (execIslandSupplyFault l sup s) := by
  unfold execIslandSupplyFault
  exact keepsOut_next (State.islandFault_keeps _ _ _ (Keeps.refl _))

theorem execIslandSQualify_keeps (wake0 wake1 : Bool) (vbatA vbatB vso : Nat) (s : State) : KeepsOut s (execIslandSQualify wake0 wake1 vbatA vbatB vso s) := by
  unfold execIslandSQualify
  exact keepsOut_next (keeps_ite (fun _ => (Keeps.refl _)) (fun _ => (State.depQualify_keeps _ _ _ _ _ _ (Keeps.refl _))))

theorem execIslandSLost_keeps (s : State) : KeepsOut s (execIslandSLost s) := by
  unfold execIslandSLost
  exact keepsOut_next (keeps_ite (fun _ => (State.depGone_keeps _ _ (Keeps.refl _))) (fun _ => (Keeps.refl _)))

theorem State.keepersReset_keeps {s00 : State} (s : State) (h0 : Keeps s00 s) :
    Keeps s00 (State.keepersReset s) := by
  refine keeps_trans h0 ?_
  unfold State.keepersReset
  exact (keeps_each _ _ (Keeps.refl _) (fun _ _ => (keeps_each _ _ (State.modPap_keeps _ _ _ (Keeps.refl _)) (fun _ _ => (keeps_wr _ _ _ _ _ (Keeps.refl _))))))

theorem State.vkeepShow_keeps {s00 : State} (s : State) (on : Bool) (h0 : Keeps s00 s) :
    Keeps s00 (State.vkeepShow s on) := by
  refine keeps_trans h0 ?_
  unfold State.vkeepShow
  exact (keeps_each _ _ (Keeps.refl _) (fun y0 y1 => (keeps_when _ _ (Keeps.refl _) (fun y2 => (by
    lift_lets -useContext -merge -underBinder
    intro x3
    have hx3 : Keeps y2 x3 := (keeps_wrBit _ _ _ _ _ (Keeps.refl _))
    clear_value x3
    refine keeps_ite (fun _ => ?_) (fun _ => ?_)
    · exact hx3
    · exact (keeps_inc _ _ _ _ _ (keeps_wrBit _ _ _ _ _ hx3))
)))))

theorem execVkeepRise_keeps (s : State) : KeepsOut s (execVkeepRise s) := by
  unfold execVkeepRise
  lift_lets -useContext -merge -underBinder
  intro x0
  have hx0 : Keeps s x0 := (State.vkeepShow_keeps _ _ (State.keepersReset_keeps _ (Keeps.refl _)))
  clear_value x0
  intro x1
  try clear_value x1
  exact keepsOut_next (keeps_ite (fun _ => (Keeps.refl _)) (fun _ => (Keeps.of_frame hx0 rfl rfl rfl rfl rfl)))

theorem execVkeepLoss_keeps (s : State) : KeepsOut s (execVkeepLoss s) := by
  unfold execVkeepLoss
  lift_lets -useContext -merge -underBinder
  intro x0
  have hx0 : Keeps s x0 := (State.vkeepShow_keeps _ _ (State.keepersReset_keeps _ (Keeps.refl _)))
  clear_value x0
  intro x1
  try clear_value x1
  exact keepsOut_next (keeps_ite (fun _ => (Keeps.of_frame hx0 rfl rfl rfl rfl rfl)) (fun _ => (Keeps.refl _)))

theorem execNresetLow_keeps (l : Lane) (ns : Nat) (s : State) : KeepsOut s (execNresetLow l ns s) := by
  unfold execNresetLow
  lift_lets -useContext -merge -underBinder
  intro x0
  have hx0 : Keeps s x0 := (keeps_ite (fun _ => (Keeps.of_frame (Keeps.refl _) rfl rfl rfl rfl rfl)) (fun _ => (Keeps.refl _)))
  clear_value x0
  exact keepsOut_next (keeps_ite (fun _ => (State.resetIsland_keeps _ _ _ (keeps_set _ _ _ _ hx0))) (fun _ => hx0))

theorem execWakeInput_keeps (pin : Fin 2) (s : State) : KeepsOut s (execWakeInput pin s) := by
  unfold execWakeInput
  lift_lets -useContext -merge -underBinder
  intro x0
  try clear_value x0
  intro x1
  try clear_value x1
  exact keepsOut_next (keeps_ite (fun _ => (State.wake_keeps _ _ _ _ (keeps_set _ _ _ _ (Keeps.refl _)))) (fun _ => (Keeps.refl _)))

theorem execDeputyOscCorrection_keeps (freq : Nat) (s : State) : KeepsOut s (execDeputyOscCorrection freq s) := by
  unfold execDeputyOscCorrection
  lift_lets -useContext -merge -underBinder
  intro x0
  have hx0 : Keeps1 s x0 := (State.oscCount_keeps _ (Keeps.refl _))
  clear_value x0
  exact keepsOut_next (keeps_ite (fun _ => (keeps_wr _ _ _ _ _ (State.oscPiece_keeps _ _ hx0.h))) (fun _ => (Keeps.refl _)))

theorem execDeputyOscSourceChange_keeps (s : State) : KeepsOut s (execDeputyOscSourceChange s) := by
  unfold execDeputyOscSourceChange
  lift_lets -useContext -merge -underBinder
  intro x0
  have hx0 : Keeps1 s x0 := (State.oscCount_keeps _ (Keeps.refl _))
  clear_value x0
  intro x1
  have hx1 : Keeps s x1 := (keeps_wr _ _ _ _ _ (State.oscPiece_keeps _ _ hx0.h))
  clear_value x1
  intro x2
  have hx2 : Keeps s x2 := (keeps_modDep _ hx1)
  clear_value x2
  exact keepsOut_next (keeps_ite (fun _ => (keeps_clr _ _ _ _ (keeps_set _ _ _ _ (keeps_set _ _ _ _ (State.oscStart_keeps _ hx2).h)))) (fun _ => (Keeps.refl _)))

theorem execDeputyOscRemoval_keeps (s : State) : KeepsOut s (execDeputyOscRemoval s) := by
  unfold execDeputyOscRemoval
  exact keepsOut_next (keeps_ite (fun _ => (State.depGone_keeps _ _ (Keeps.refl _))) (fun _ => (Keeps.refl _)))


end Sys2Proof.Machine
end

