-- ==== Sys2Proof/Machine/Pins.lean ====
section
/-!
DEFINITION. The pins as they look from outside (R24, R30, R48, R51 to R53, R58): the column of R53 that a pin group
stands in, and the state that the table gives it there. Nothing here is stored: a pin follows the rest of the state.
-/
namespace Sys2Proof.Machine

/-- The pin groups of R53; `XSPI_x` and `EMMC_x` share a row of it and are told apart by the step that takes them into use. -/
inductive PinGroup
  | gl | gh | bootstrap | analog | resExc | sdc | canTx | canRx | pos | sent | trip | pwmx | ethernet | t1s | xspi | emmc
  | jtag | nreset | xtal | supplyDrives | hld | hlg | hen | safeOut | safeFb | auth | chsFail | stat | wake | btn | batterySwitch
deriving DecidableEq, Repr

/-- The columns of R53; `held`: the I/O ring of a lane whose core supply or I/O supply is below its threshold (R51); `run`: the
state in which the owning block drives or reads the group. -/
inductive PinColumn | unpowered | held | reset | storage | parked | run
deriving DecidableEq, Repr

/-- The entries of R53; `byBlock`: what the owning block's rules give. -/
inductive PinLook
  | passiveOff | drivenOff | highZ | pumpOff | drivenLow | recessive | inputIgnored | inputPullDown | inputPullUp | mdcLow
  | transmitterOff | memoriesIdle | jtagIdle | oscOff | oscRunning | heldOff | off | staticOff | readsOff | input
  | switchesOpen | low | drivenHigh | blink | ignored | sensed | keeperPulses | byBlock
  | clockOut (div : Nat) | sine (div amp : Nat)
deriving DecidableEq, Repr

/-- The islands that own pin groups. -/
inductive PinOwner | lane | deputy | keeper
deriving DecidableEq, Repr

/-- The island that owns a group (R53). -/
def PinGroup.owner : PinGroup → PinOwner
  | .hld | .hlg | .hen | .safeOut | .safeFb | .auth | .chsFail | .stat | .wake => .deputy
  | .btn | .batterySwitch => .keeper
  | _ => .lane

/-- The supply of a lane's group: the bank of its digital I/O, else the supply of its analog or drive circuits (which one is
DEDUCED, log entry 43). -/
def PinGroup.supply : PinGroup → IslandSupply
  | .canTx | .canRx | .pwmx | .sent | .trip => .vddio 0
  | .ethernet | .t1s => .vddio 1
  | .xspi => .vddio 2
  | .emmc => .vddio 3
  | .jtag | .pos | .nreset => .vddio 4
  | .analog | .resExc | .sdc => .vdda
  | .xtal => .vddm
  | _ => .vbat

/-- The table of R53, and the high impedance of R51 with the pulls that the table names for reset. -/
def PinGroup.look : PinGroup → PinColumn → PinLook
  | _, .run => .byBlock
  | .gl, .reset => .drivenOff
  | .gl, .held => .drivenOff
  | .gl, _ => .passiveOff
  | .gh, .reset => .drivenOff
  | .gh, .held => .drivenOff
  | .gh, _ => .passiveOff
  | .bootstrap, .reset => .pumpOff
  | .bootstrap, _ => .pumpOff
  | .analog, _ => .highZ
  | .resExc, _ => .highZ
  | .sdc, .reset => .drivenLow
  | .sdc, _ => .highZ
  | .canTx, .reset => .recessive
  | .canTx, .held => .recessive
  | .canTx, _ => .highZ
  | .canRx, .reset => .inputIgnored
  | .canRx, _ => .highZ
  | .pos, .reset => .inputIgnored
  | .pos, _ => .highZ
  | .sent, .reset => .inputIgnored
  | .sent, _ => .highZ
  | .trip, .reset => .inputPullDown
  | .trip, .held => .inputPullDown
  | .trip, _ => .highZ
  | .pwmx, .reset => .drivenLow
  | .pwmx, _ => .highZ
  | .ethernet, .reset => .mdcLow
  | .ethernet, _ => .highZ
  | .t1s, .reset => .transmitterOff
  | .t1s, _ => .highZ
  | .xspi, .reset => .memoriesIdle
  | .xspi, .held => .memoriesIdle
  | .xspi, _ => .highZ
  | .emmc, .reset => .memoriesIdle
  | .emmc, .held => .memoriesIdle
  | .emmc, _ => .highZ
  | .jtag, .reset => .jtagIdle
  | .jtag, .held => .jtagIdle
  | .jtag, _ => .highZ
  | .nreset, .reset => .inputPullUp
  | .nreset, .held => .inputPullUp
  | .nreset, _ => .highZ
  | .xtal, .reset => .oscRunning
  | .xtal, _ => .oscOff
  | .supplyDrives, .unpowered => .heldOff
  | .supplyDrives, .reset => .heldOff
  | .supplyDrives, .held => .heldOff
  | .supplyDrives, _ => .off
  | .hld, .reset => .staticOff
  | .hld, .parked => .staticOff
  | .hld, _ => .highZ
  | .hlg, .reset => .readsOff
  | .hlg, .parked => .readsOff
  | .hlg, _ => .highZ
  | .hen, .reset => .inputPullDown
  | .hen, .parked => .input
  | .hen, _ => .highZ
  | .safeOut, _ => .switchesOpen
  | .safeFb, .reset => .input
  | .safeFb, .parked => .input
  | .safeFb, _ => .highZ
  | .auth, _ => .low
  | .chsFail, .reset => .drivenHigh
  | .chsFail, .parked => .drivenHigh
  | .chsFail, _ => .highZ
  | .stat, .parked => .blink
  | .stat, _ => .off
  | .wake, .unpowered => .highZ
  | .wake, .held => .highZ
  | .wake, .reset => .inputIgnored
  | .wake, .storage => .ignored
  | .wake, .parked => .sensed
  | .btn, .unpowered => .ignored
  | .btn, _ => .sensed
  | .batterySwitch, .unpowered => .off
  | .batterySwitch, _ => .keeperPulses

/-- The start step whose run takes a lane's group out of the Reset column: `ST00` for the drives of the supplies, `ST02`
for the NOR (R63), `ST10` for the eMMC, `ST11` for the excitation, `ST13` for gates and trickle pumps, `ST17` for the
networks (R75), `ST08`, where the base image is applied, for the others (DEDUCED, log entry 40). -/
def PinGroup.configuredAt : PinGroup → Nat
  | .supplyDrives => 0
  | .xspi => 2
  | .emmc => 10
  | .resExc => 11
  | .gl | .gh | .bootstrap => 13
  | .canTx | .canRx | .ethernet | .t1s => 17
  | _ => 8

/-- The device stands in Parked, or stood there when the Deputy was last present: the loss of island S is invisible on the
balls of the lanes (R52). -/
def State.pinsParked (s : State) : Bool := if s.depOn then s.rd .ds R.DSP_MODE.MODE == modeParked else s.sup.parked

/-- The column of a lane's group. A lane without its core supply shows the Parked column in Parked and the I/O ring's high
impedance otherwise (R51). -/
def State.lanePins (s : State) (l : Lane) (g : PinGroup) : PinColumn :=
  if s.storage then .storage
  else if !s.supplyOn l g.supply then .unpowered
  else
    match (s.run l).phase with
    | .off => if s.pinsParked then .parked else .held
    | .held => .reset
    | .loader => if g = .canTx ∨ g = .canRx ∨ g = .xspi ∨ g = .supplyDrives then .run else .reset
    | .starting n => if g.configuredAt < n ∨ (g = .xspi ∧ 2 ≤ n) then .run else .reset
    | .running => .run
    | .stopped => .run
    | .portFault => .run

/-- The column of a group of the Deputy: Reset until its first handshake (R53, R84). -/
def State.deputyPins (s : State) : PinColumn :=
  if s.storage then .storage
  else if !s.depOn then .unpowered
  else if !s.dep.firstHandshake then .reset
  else if s.rd .ds R.DSP_MODE.MODE = modeParked then .parked
  else .run

/-- The column of a group of the keepers, which `VKEEP` alone supplies. -/
def State.keeperPins (s : State) : PinColumn :=
  if !s.sup.vkeep then .unpowered else if s.storage then .storage else .run

/-- What a pin group of lane `l`'s side shows. -/
def State.pinLook (s : State) (l : Lane) (g : PinGroup) : PinLook :=
  g.look (match g.owner with
    | .lane => s.lanePins l g
    | .deputy => s.deputyPins
    | .keeper => s.keeperPins)

/-- What `SDC_xn` shows (R142): with `CLK_EXT` an input for the modulator's clock, otherwise the modulator clock of
200 MHz / `DIV` of an enabled filter. A disabled filter drives the pin low (DEDUCED from R53, log entry 45). -/
def State.sdcLook (s : State) (l : Lane) (n : Fin 12) : PinLook :=
  let d := laneDie l
  match s.pinLook l .sdc with
  | .byBlock =>
    if s.on d R.SDF_Fn_CFG.CLK_EXT n then .input
    else if s.on d R.SDF_Fn_CFG.EN n then .clockOut (clampN 10 40 (s.rd d R.SDF_CLK.DIV))
    else .drivenLow
  | x => x

/-- What `RES_EXC_xn` shows (R152): a sine wave of 80 MHz / `DIV`, `AMP` / 255 of 0.8 V, about half of `VDDA`. A disabled
channel keeps the pin at high impedance (DEDUCED, log entry 46). -/
def State.resExcLook (s : State) (l : Lane) (n : Fin 2) : PinLook :=
  let d := laneDie l
  match s.pinLook l .resExc with
  | .byBlock =>
    if s.on d R.POS_RESn_CFG.EN n then .sine (s.resDiv l n) (s.rd d R.POS_RESn_CFG.AMP n) else .highZ
  | x => x

/-- The level of `AUTH_x` (R24): high while the lane is granted, low during a hold and without the Deputy. -/
def State.authPin (s : State) (l : Lane) : Bool := s.granted l

/-- The level of `CHS_FAIL_x` (R30, R53): what the Deputy drives; without the Deputy the integrator's pull-down holds it low. -/
def State.chsFailPin (s : State) (l : Lane) : Bool := s.depOn && s.on .ds (chsFld l)

/-- Whether switch `hi` (`SO_HS_k`, else `SO_LS_k`) conducts (R48): no switch does without island S. -/
def State.soPin (s : State) (k : Fin 12) (hi : Bool) : Bool :=
  s.depOn && if hi then s.on .ds R.DSP_SOk_STATUS.HS k else s.on .ds R.DSP_SOk_STATUS.LS k

/-- The level of `BSW_OPEN` (`op`) or `BSW_CLOSE` of a die (R53, R301): the keeper's pulses, while `VKEEP` is present. -/
def State.batterySwitchPin (s : State) (l : Lane) (op : Bool) : Bool :=
  s.sup.vkeep && if op then (s.pap l).keeper.swOpen else (s.pap l).keeper.swClose

/-- The level that the Deputy drives on a Hoist link (R52, R53): off without the Deputy. -/
def State.hldPin (s : State) (n : Fin 40) : Bool := s.depOn && s.hoist.links[n].levelAt s.steps

end Sys2Proof.Machine
end

