-- ==== Sys2Proof/Laws/Pins.lean ====
section
/-!
SUPPORT. What every state shows at the pins (R24, R25, R48, R53).
-/
namespace Sys2Proof.Machine

/-- The two `AUTH` pins are never high together (R24, R25). -/
theorem authPin_exclusive (s : State) : ¬(s.authPin .a = true ∧ s.authPin .b = true) := by
  simp only [State.authPin, State.granted, Bool.and_eq_true, beq_iff_eq]
  rintro ⟨⟨-, ha⟩, -, hb⟩
  rw [ha] at hb
  exact absurd hb (by decide)

/-- Without the Deputy no Deputy pin is driven: `AUTH` and `CHS_FAIL` low, every safe-output switch open, every Hoist link
at off (R24, R48, R52, R53). -/
theorem pins_without_deputy (s : State) (h : s.depOn = false) :
    (∀ l, s.authPin l = false ∧ s.chsFailPin l = false) ∧ (∀ k hi, s.soPin k hi = false) ∧ ∀ n, s.hldPin n = false := by
  refine ⟨fun l => ⟨?_, ?_⟩, fun k hi => ?_, fun n => ?_⟩ <;>
    simp [State.authPin, State.granted, State.chsFailPin, State.soPin, State.hldPin, h]

/-- Outside its running state every group of a lane's gates is held off, in whichever column it stands (R53, R54). -/
theorem gates_off_unless_run (s : State) (l : Lane) (h : s.lanePins l .gl ≠ .run) :
    s.pinLook l .gl = .passiveOff ∨ s.pinLook l .gl = .drivenOff := by
  have hl : s.pinLook l .gl = PinGroup.look .gl (s.lanePins l .gl) := rfl
  rw [hl]
  cases hc : s.lanePins l .gl
  · exact .inl rfl
  · exact .inr rfl
  · exact .inr rfl
  · exact .inl rfl
  · exact .inl rfl
  · exact absurd hc h

/-- A column other than `run` shows an entry of R53 and never the block's own drive. -/
theorem look_ne_byBlock (g : PinGroup) (c : PinColumn) (h : c ≠ .run) : g.look c ≠ .byBlock := by
  cases g <;> cases c <;> first | exact absurd rfl h | decide

end Sys2Proof.Machine
end

