-- ==== Sys2Proof/Laws/WithinOps.lean ====
section
/-!
SUPPORT. The operations of Machine/Ops.lean change nothing outside their masks (Laws/Within.lean).
-/
namespace Sys2Proof.Machine

theorem State.advSteps_within {msk : Nat} {s00 : State} (s : State) (x : Int) (hm : 8796093022208 &&& msk = 8796093022208)
    (h0 : Within msk s00 s) : Within msk s00 (s.advSteps x) := by
  unfold State.advSteps
  split
  · exact h0.of_frame rfl rfl rfl (.inr rfl) (.inr rfl) (.inr ⟨rfl, rfl⟩) (.inr rfl) (.inr rfl) (.inr rfl) (.inr rfl)
      (.inr rfl) (.inl (bsub rfl hm))
  · exact h0

theorem State.quot_within {msk : Nat} {s00 : State} (s : State) (num den : Int) (hm : 4398046511104 &&& msk = 4398046511104) (h0 : Within msk s00 s) :
    Within1 msk s00 (State.quot s num den) := by
  refine within1_trans h0 ?_
  unfold State.quot
  lift_lets -useContext -merge -underBinder
  intro x0
  have hx0 : Within1 msk s x0 := (within1_free _ (msub rfl hm) (Within.refl _))
  clear_value x0
  refine within1_ite (fun _ => ?_) (fun _ => ?_)
  · exact ⟨Within.snd (Within.refl _)⟩
  · exact ⟨Within.snd hx0.h⟩

theorem State.roundQ_within {msk : Nat} {s00 : State} (s : State) (num den : Int) (hm : 4398046511104 &&& msk = 4398046511104) (h0 : Within msk s00 s) :
    Within1 msk s00 (State.roundQ s num den) := by
  refine within1_trans h0 ?_
  unfold State.roundQ
  lift_lets -useContext -merge -underBinder
  intro x0
  have hx0 : Within1 msk s x0 := (within1_free _ (msub rfl hm) (Within.refl _))
  clear_value x0
  refine within1_ite (fun _ => ?_) (fun _ => ?_)
  · exact ⟨Within.snd hx0.h⟩
  · exact ⟨Within.snd (Within.refl _)⟩

theorem State.fit_within {msk : Nat} {s00 : State} (s : State) (w : Nat) (x : Int) (hm : 4398046511104 &&& msk = 4398046511104) (h0 : Within msk s00 s) :
    Within1 msk s00 (State.fit s w x) := by
  refine within1_trans h0 ?_
  unfold State.fit
  lift_lets -useContext -merge -underBinder
  intro x0
  have hx0 : Within1 msk s x0 := (within1_free _ (msub rfl hm) (Within.refl _))
  clear_value x0
  refine within1_ite (fun _ => ?_) (fun _ => ?_)
  · exact ⟨Within.snd (Within.refl _)⟩
  · exact ⟨Within.snd hx0.h⟩

theorem State.irqOf_within {msk : Nat} {s00 : State} (s : State) (l : Lane) (d : Die) (en : Fld) (i : Nat) (hm : 0 &&& msk = 0) (hg3 : en.inM msk = true) (h0 : Within msk s00 s) :
    Within msk s00 (State.irqOf s l d en i) := by
  refine within_trans h0 ?_
  unfold State.irqOf
  refine within_ite (fun _ => ?_) (fun _ => ?_)
  · exact (within_modRun _ _ (Within.refl _) fun _ => ⟨rfl, rfl⟩)
  · exact (Within.refl _)

theorem State.irq_within {msk : Nat} {s00 : State} (s : State) (l : Lane) (en : Fld) (i : Nat) (hm : 0 &&& msk = 0) (hg2 : en.inM msk = true) (h0 : Within msk s00 s) :
    Within msk s00 (State.irq s l en i) := by
  refine within_trans h0 ?_
  unfold State.irq
  exact (State.irqOf_within _ _ _ _ _ (msub rfl hm) hg2 (Within.refl _))

theorem State.accessError_within {msk : Nat} {s00 : State} (s : State) (l : Lane) (who : Initiator) (addr : Nat) (write : Bool) (r : Reason) (hm : 1 &&& msk = 1) (h0 : Within msk s00 s) :
    Within msk s00 (State.accessError s l who addr write r) := by
  refine within_trans h0 ?_
  unfold State.accessError
  lift_lets -useContext -merge -underBinder
  intro x0
  exact (within_inc _ _ _ _ _ (fsub rfl hm) (within_wr _ _ _ _ _ (fsub rfl hm) (within_put _ _ _ _ _ (fsub rfl hm) (within_wr _ _ _ _ _ (fsub rfl hm) (within_wr _ _ _ _ _ (fsub rfl hm) (Within.refl _))))))


end Sys2Proof.Machine
end

