-- ==== Sys2Proof/Laws/WithinEvents.lean ====
section
/-!
SUPPORT. The operations of Machine/Events.lean change nothing outside their masks (Laws/Within.lean).
-/
namespace Sys2Proof.Machine

theorem State.modAdc_within {msk : Nat} {s00 : State} (s : State) (l : Lane) (f : AdcSt → AdcSt) (hm : 0 &&& msk = 0) (h0 : Within msk s00 s) :
    Within msk s00 (State.modAdc s l f) := by
  refine within_trans h0 ?_
  unfold State.modAdc
  exact (within_modRun _ _ (Within.refl _) fun _ => ⟨rfl, rfl⟩)

theorem State.modGrp_within {msk : Nat} {s00 : State} (s : State) (l : Lane) (g : Fin 12) (f : AdcGroup → AdcGroup) (hm : 0 &&& msk = 0) (h0 : Within msk s00 s) :
    Within msk s00 (State.modGrp s l g f) := by
  refine within_trans h0 ?_
  unfold State.modGrp
  exact (State.modAdc_within _ _ _ (msub rfl hm) (Within.refl _))

theorem State.modCe_within {msk : Nat} {s00 : State} (s : State) (l : Lane) (f : CeSt → CeSt) (hm : 0 &&& msk = 0) (h0 : Within msk s00 s) :
    Within msk s00 (State.modCe s l f) := by
  refine within_trans h0 ?_
  unfold State.modCe
  exact (within_modRun _ _ (Within.refl _) fun _ => ⟨rfl, rfl⟩)

theorem State.modArith_within {msk : Nat} {s00 : State} (s : State) (l : Lane) (i : Fin 24) (f : ArithSt → ArithSt) (hm : 0 &&& msk = 0) (h0 : Within msk s00 s) :
    Within msk s00 (State.modArith s l i f) := by
  refine within_trans h0 ?_
  unfold State.modArith
  exact (State.modCe_within _ _ _ (msub rfl hm) (Within.refl _))

theorem State.modPwm_within {msk : Nat} {s00 : State} (s : State) (l : Lane) (f : PwmSt → PwmSt) (hm : 0 &&& msk = 0) (h0 : Within msk s00 s) :
    Within msk s00 (State.modPwm s l f) := by
  refine within_trans h0 ?_
  unfold State.modPwm
  exact (within_modRun _ _ (Within.refl _) fun _ => ⟨rfl, rfl⟩)

theorem State.modTb_within {msk : Nat} {s00 : State} (s : State) (l : Lane) (t : Fin 8) (f : PwmTb → PwmTb) (hm : 0 &&& msk = 0) (h0 : Within msk s00 s) :
    Within msk s00 (State.modTb s l t f) := by
  refine within_trans h0 ?_
  unfold State.modTb
  exact (State.modPwm_within _ _ _ (msub rfl hm) (Within.refl _))

theorem State.trcSend_within {msk : Nat} {s00 : State} (s : State) (l : Lane) (b : Fin 8) (hm : 0 &&& msk = 0) (h0 : Within msk s00 s) :
    Within msk s00 (State.trcSend s l b) := by
  refine within_trans h0 ?_
  unfold State.trcSend
  lift_lets -useContext -merge -underBinder
  intro x0
  try clear_value x0
  refine within_ite (fun _ => ?_) (fun _ => ?_)
  · exact (State.modCe_within _ _ _ (msub rfl hm) (Within.refl _))
  · exact (Within.refl _)

theorem State.event_within {msk : Nat} {s00 : State} (s : State) (l : Lane) (e : Event) (hm : 0 &&& msk = 0) (h0 : Within msk s00 s) :
    Within msk s00 (State.event s l e) := by
  refine within_trans h0 ?_
  unfold State.event
  lift_lets -useContext -merge -underBinder
  intro x0 x1
  have hx1 : Within msk s x1 := (within_each _ _ (Within.refl _) (fun _ _ => (within_when _ _ (Within.refl _) (fun _ => (State.modGrp_within _ _ _ _ (msub rfl hm) (Within.refl _))))))
  clear_value x1
  intro x5
  have hx5 : Within msk s x5 := (within_each _ _ hx1 (fun _ _ => (within_when _ _ (Within.refl _) (fun _ => (State.modArith_within _ _ _ _ (msub rfl hm) (Within.refl _))))))
  clear_value x5
  intro x9
  have hx9 : Within msk s x9 := (within_each _ _ hx5 (fun _ _ => (within_when _ _ (Within.refl _) (fun _ => (State.modTb_within _ _ _ _ (msub rfl hm) (Within.refl _))))))
  clear_value x9
  refine within_ite (fun _ => ?_) (fun _ => ?_)
  · exact (within_each _ _ hx9 (fun _ _ => (within_when _ _ (Within.refl _) (fun _ => (State.trcSend_within _ _ _ (msub rfl hm) (Within.refl _))))))
  · exact (Within.refl _)


end Sys2Proof.Machine
end

