-- ==== Sys2Proof/Laws/WithinTallyOps.lean ====
section
/-!
SUPPORT. The operations of Machine/TallyOps.lean change nothing outside their masks (Laws/Within.lean).
-/
namespace Sys2Proof.Machine

theorem State.modTal_within {msk : Nat} {s00 : State} (s : State) (l : Lane) (f : Tally → Tally) (hm : 0 &&& msk = 0) (h0 : Within msk s00 s) :
    Within msk s00 (State.modTal s l f) := by
  refine within_trans h0 ?_
  unfold State.modTal
  exact (within_modRun _ _ (Within.refl _) fun _ => ⟨rfl, rfl⟩)

theorem State.submit_within {msk : Nat} {s00 : State} (s : State) (l : Lane) (who : Initiator) (q size dl : Nat) (job : Job) (extra16 : Nat) (hm : 4 &&& msk = 4) (h0 : Within msk s00 s) :
    Within1 msk s00 (State.submit s l who q size dl job extra16) := by
  refine within1_trans h0 ?_
  unfold State.submit
  lift_lets -useContext -merge -underBinder
  intro x0
  split
  · exact ⟨Within.snd (within_inc _ _ _ _ _ (fsub rfl hm) (Within.refl _))⟩
  · exact ⟨Within.snd (within_inc _ _ _ _ _ (fsub rfl hm) (Within.refl _))⟩
  · lift_lets -useContext -merge -underBinder
    intro x1
    try clear_value x1
    intro x2
    try clear_value x2
    intro x3
    try clear_value x3
    intro x4
    try clear_value x4
    intro x5
    try clear_value x5
    intro x6
    try clear_value x6
    exact ⟨Within.snd (State.modTal_within _ _ _ (msub rfl hm) (Within.refl _))⟩

theorem State.post_within {msk : Nat} {s00 : State} (s : State) (l : Lane) (e : TalEntry) (code : OutcomeCode) (hm : 4 &&& msk = 4) (h0 : Within msk s00 s) :
    Within msk s00 (State.post s l e code) := by
  refine within_trans h0 ?_
  unfold State.post
  lift_lets -useContext -merge -underBinder
  intro x0 x1
  try clear_value x1
  intro x2
  try clear_value x2
  intro x3
  try clear_value x3
  intro x4
  try clear_value x4
  intro x5
  try clear_value x5
  intro x6
  try clear_value x6
  intro x7
  try clear_value x7
  intro x8
  try clear_value x8
  intro x9
  try clear_value x9
  intro x10
  try clear_value x10
  intro x11
  try clear_value x11
  intro x12
  have hx12 : Within msk s x12 := (State.modTal_within _ _ _ (msub rfl hm) (Within.refl _))
  clear_value x12
  intro x13
  have hx13 : Within msk s x13 := (within_when _ _ hx12 (fun _ => (within_wr _ _ _ _ _ (fsub rfl hm) (Within.refl _))))
  clear_value x13
  intro x15
  have hx15 : Within msk s x15 := (within_ite (fun _ => (within_inc _ _ _ _ _ (fsub rfl hm) hx13)) (fun _ => (within_inc _ _ _ _ _ (fsub rfl hm) hx13)))
  clear_value x15
  intro x16
  have hx16 : Within msk s x16 := (within_when _ _ hx15 (fun _ => (within_set _ _ _ _ (fsub rfl hm) (Within.refl _))))
  clear_value x16
  exact (within_when _ _ hx16 (fun _ => (State.irq_within _ _ _ _ (msub rfl hm) (fsub rfl hm) (Within.refl _))))

theorem State.setEnt_within {msk : Nat} {s00 : State} (s : State) (l : Lane) (id : Nat) (f : TalEntry → TalEntry) (hm : 0 &&& msk = 0) (h0 : Within msk s00 s) :
    Within msk s00 (State.setEnt s l id f) := by
  refine within_trans h0 ?_
  unfold State.setEnt
  exact (State.modTal_within _ _ _ (msub rfl hm) (Within.refl _))

theorem State.log_within {msk : Nat} {s00 : State} (s : State) (l : Lane) (rule detail : Nat) (hm : 4 &&& msk = 4) (h0 : Within msk s00 s) :
    Within msk s00 (State.log s l rule detail) := by
  refine within_trans h0 ?_
  unfold State.log
  refine within_ite (fun _ => ?_) (fun _ => ?_)
  · exact (State.submit_within _ _ _ _ _ _ _ _ (msub rfl hm) (Within.refl _)).h
  · exact (Within.refl _)

theorem State.logIf_within {msk : Nat} {s00 : State} (s : State) (l : Lane) (en : Fld) (rule detail : Nat) (i : Nat) (hm : 4 &&& msk = 4) (hg2 : en.inM msk = true) (h0 : Within msk s00 s) :
    Within msk s00 (State.logIf s l en rule detail i) := by
  refine within_trans h0 ?_
  unfold State.logIf
  exact (within_when _ _ (Within.refl _) (fun _ => (State.log_within _ _ _ _ (msub rfl hm) (Within.refl _))))

theorem State.talPop_within {msk : Nat} {s00 : State} (s : State) (l : Lane) (hm : 4 &&& msk = 4) (h0 : Within msk s00 s) :
    Within msk s00 (State.talPop s l) := by
  refine within_trans h0 ?_
  unfold State.talPop
  split
  · exact (within_modRun _ _ (Within.refl _) fun _ => ⟨rfl, rfl⟩)
  · exact (within_modRun _ _ (within_wr _ _ _ _ _ (fsub rfl hm) (State.modTal_within _ _ _ (msub rfl hm) (Within.refl _))) fun _ => ⟨rfl, rfl⟩)

theorem State.modTim_within {msk : Nat} {s00 : State} (s : State) (l : Lane) (n : Fin 8) (f : Timer → Timer) (hm : 0 &&& msk = 0) (h0 : Within msk s00 s) :
    Within msk s00 (State.modTim s l n f) := by
  refine within_trans h0 ?_
  unfold State.modTim
  exact (within_modRun _ _ (Within.refl _) fun _ => ⟨rfl, rfl⟩)

theorem State.timLoad_within {msk : Nat} {s00 : State} (s : State) (l : Lane) (n : Fin 8) (t : Nat) (hm : 0 &&& msk = 0) (h0 : Within msk s00 s) :
    Within msk s00 (State.timLoad s l n t) := by
  refine within_trans h0 ?_
  unfold State.timLoad
  exact (State.modTim_within _ _ _ _ (msub rfl hm) (Within.refl _))

theorem State.timEnable_within {msk : Nat} {s00 : State} (s : State) (l : Lane) (n : Fin 8) (hm : 8388608 &&& msk = 8388608) (h0 : Within msk s00 s) :
    Within msk s00 (State.timEnable s l n) := by
  refine within_trans h0 ?_
  unfold State.timEnable
  lift_lets -useContext -merge -underBinder
  intro x0
  refine within_ite (fun _ => ?_) (fun _ => ?_)
  · refine within_ite (fun _ => ?_) (fun _ => ?_)
    · exact (State.modTim_within _ _ _ _ (msub rfl hm) (Within.refl _))
    · exact (State.timLoad_within _ _ _ _ (msub rfl hm) (Within.refl _))
  · exact (State.modTim_within _ _ _ _ (msub rfl hm) (within_wr _ _ _ _ _ (fsub rfl hm) (Within.refl _)))

theorem State.timBoundary_within {msk : Nat} {s00 : State} (s : State) (l : Lane) (hm : 0 &&& msk = 0) (h0 : Within msk s00 s) :
    Within msk s00 (State.timBoundary s l) := by
  refine within_trans h0 ?_
  unfold State.timBoundary
  exact (within_each _ _ (Within.refl _) (fun _ _ => (within_when _ _ (Within.refl _) (fun _ => (State.timLoad_within _ _ _ _ (msub rfl hm) (Within.refl _))))))

theorem State.timExpire_within {msk : Nat} {s00 : State} (s : State) (l : Lane) (n : Fin 8) (hm : 8796101410816 &&& msk = 8796101410816) (h0 : Within msk s00 s) :
    Within msk s00 (State.timExpire s l n) := by
  refine within_trans h0 ?_
  unfold State.timExpire
  lift_lets -useContext -merge -underBinder
  intro x0
  split
  · exact (Within.refl _)
  · lift_lets -useContext -merge -underBinder
    intro x1
    have hx1 : Within msk s x1 := (within_advTo _ (msub rfl hm) (Within.refl _))
    clear_value x1
    intro x2
    have hx2 : Within msk s x2 := (within_set _ _ _ _ (fsub rfl hm) (within_when _ _ hx1 (fun _ => (within_set _ _ _ _ (fsub rfl hm) (Within.refl _)))))
    clear_value x2
    intro x4
    have hx4 : Within msk s x4 := (within_when _ _ (State.event_within _ _ _ (msub rfl hm) (State.irq_within _ _ _ _ (msub rfl hm) (fsub rfl hm) hx2)) (fun _ => (State.event_within _ _ _ (msub rfl hm) (Within.refl _))))
    clear_value x4
    refine within_ite (fun _ => ?_) (fun _ => ?_)
    · exact (State.timLoad_within _ _ _ _ (msub rfl hm) hx4)
    · exact (within_wr _ _ _ _ _ (fsub rfl hm) (State.modTim_within _ _ _ _ (msub rfl hm) hx4))


end Sys2Proof.Machine
end

