-- ==== Sys2Proof/Laws/WithinLinkOps.lean ====
section
/-!
SUPPORT. The operations of Machine/LinkOps.lean change nothing outside their masks (Laws/Within.lean).
-/
namespace Sys2Proof.Machine

theorem State.modLink_within {msk : Nat} {s00 : State} (s : State) (n : Fin 40) (f : HoistLink → HoistLink) (hm : 34359738368 &&& msk = 34359738368) (h0 : Within msk s00 s) :
    Within msk s00 (State.modLink s n f) := by
  refine within_trans h0 ?_
  unfold State.modLink
  lift_lets -useContext -merge -underBinder
  intro x0
  try clear_value x0
  exact (Within.of_frame (Within.refl _) rfl rfl rfl (.inl (bsub rfl hm)) (.inr rfl) (.inr ⟨rfl, rfl⟩) (.inr rfl) (.inr rfl) (.inr rfl) (.inr rfl) (.inr rfl) (.inr ⟨rfl, rfl⟩))

theorem State.setDown_within {msk : Nat} {s00 : State} (s : State) (n : Fin 40) (on : Bool) (hm : 34359738368 &&& msk = 34359738368) (h0 : Within msk s00 s) :
    Within msk s00 (State.setDown s n on) := by
  refine within_trans h0 ?_
  unfold State.setDown
  exact (State.modLink_within _ _ _ (msub rfl hm) (Within.refl _))

theorem State.hoistWant_within {msk : Nat} {s00 : State} (s : State) (n : Fin 40) (on : Bool) (t : Int) (hm : 34359738368 &&& msk = 34359738368) (h0 : Within msk s00 s) :
    Within msk s00 (State.hoistWant s n on t) := by
  refine within_trans h0 ?_
  unfold State.hoistWant
  lift_lets -useContext -merge -underBinder
  intro x0
  have hx0 : Within msk s x0 := (State.modLink_within _ _ _ (msub rfl hm) (Within.refl _))
  clear_value x0
  refine within_ite (fun _ => ?_) (fun _ => ?_)
  · refine within_ite (fun _ => ?_) (fun _ => ?_)
    · exact (Within.refl _)
    · refine within_ite (fun _ => ?_) (fun _ => ?_)
      · exact hx0
      · split
        · exact (State.setDown_within _ _ _ (msub rfl hm) hx0)
        · refine within_ite (fun _ => ?_) (fun _ => ?_)
          · exact (State.setDown_within _ _ _ (msub rfl hm) hx0)
          · exact hx0
  · exact (State.setDown_within _ _ _ (msub rfl hm) (State.modLink_within _ _ _ (msub rfl hm) (Within.refl _)))

theorem State.hoistCmd_within {msk : Nat} {s00 : State} (s : State) (n : Fin 40) (on : Bool) (t : Int) (hm : 34359738368 &&& msk = 34359738368) (h0 : Within msk s00 s) :
    Within msk s00 (State.hoistCmd s n on t) := by
  refine within_trans h0 ?_
  unfold State.hoistCmd
  lift_lets -useContext -merge -underBinder
  intro x0
  have hx0 : Within msk s x0 := (State.modLink_within _ _ _ (msub rfl hm) (Within.refl _))
  clear_value x0
  refine within_ite (fun _ => ?_) (fun _ => ?_)
  · exact (State.hoistWant_within _ _ _ _ (msub rfl hm) hx0)
  · exact hx0

theorem State.groupDrive_within {msk : Nat} {s00 : State} (s : State) (g : Nat) (asc : Bool) (hm : 34359738368 &&& msk = 34359738368) (h0 : Within msk s00 s) :
    Within msk s00 (State.groupDrive s g asc) := by
  refine within_trans h0 ?_
  unfold State.groupDrive
  lift_lets -useContext -merge -underBinder
  intro x0
  try clear_value x0
  intro x1
  have hx1 : Within msk s x1 := (within_each _ _ (Within.refl _) (fun _ _ => (State.hoistWant_within _ _ _ _ (msub rfl hm) (Within.refl _))))
  clear_value x1
  exact (within_each _ _ hx1 (fun _ _ => (State.hoistWant_within _ _ _ _ (msub rfl hm) (Within.refl _))))

theorem State.groupSafe_within {msk : Nat} {s00 : State} (s : State) (g : Nat) (hm : 34359738368 &&& msk = 34359738368) (h0 : Within msk s00 s) :
    Within msk s00 (State.groupSafe s g) := by
  refine within_trans h0 ?_
  unfold State.groupSafe
  exact (State.groupDrive_within _ _ _ (msub rfl hm) (Within.refl _))

theorem State.groupRest_within {msk : Nat} {s00 : State} (s : State) (g : Nat) (hm : 34359738368 &&& msk = 34359738368) (h0 : Within msk s00 s) :
    Within msk s00 (State.groupRest s g) := by
  refine within_trans h0 ?_
  unfold State.groupRest
  lift_lets -useContext -merge -underBinder
  intro x0
  try clear_value x0
  intro x1
  have hx1 : Within msk s x1 := (within_each _ _ (Within.refl _) (fun _ _ => (within_ite (fun _ => (State.modLink_within _ _ _ (msub rfl hm) (Within.refl _))) (fun _ => (Within.refl _)))))
  clear_value x1
  exact (State.groupSafe_within _ _ (msub rfl hm) hx1)

theorem State.groupApply_within {msk : Nat} {s00 : State} (s : State) (g : Nat) (hm : 34359738368 &&& msk = 34359738368) (h0 : Within msk s00 s) :
    Within msk s00 (State.groupApply s g) := by
  refine within_trans h0 ?_
  unfold State.groupApply
  refine within_ite (fun _ => ?_) (fun _ => ?_)
  · exact (State.groupSafe_within _ _ (msub rfl hm) (Within.refl _))
  · refine within_ite (fun _ => ?_) (fun _ => ?_)
    · exact (State.groupDrive_within _ _ _ (msub rfl hm) (Within.refl _))
    · refine within_ite (fun _ => ?_) (fun _ => ?_)
      · exact (State.groupDrive_within _ _ _ (msub rfl hm) (Within.refl _))
      · exact (within_each _ _ (Within.refl _) (fun _ _ => (within_ite (fun _ => (State.hoistWant_within _ _ _ _ (msub rfl hm) (Within.refl _))) (fun _ => (Within.refl _)))))


end Sys2Proof.Machine
end

