-- ==== Sys2Proof/Laws/WithinDeputyOps.lean ====
section
/-!
SUPPORT. The operations of Machine/DeputyOps.lean change nothing outside their masks (Laws/Within.lean).
-/
namespace Sys2Proof.Machine

theorem State.modPap_within {msk : Nat} {s00 : State} (s : State) (l : Lane) (f : PapSt → PapSt) (hm : 137438953472 &&& msk = 137438953472) (h0 : Within msk s00 s) :
    Within msk s00 (State.modPap s l f) := by
  refine within_trans h0 ?_
  unfold State.modPap
  split
  · exact (Within.of_frame (Within.refl _) rfl rfl rfl (.inr rfl) (.inr rfl) (.inl (bsub rfl hm)) (.inr rfl) (.inr rfl) (.inr rfl) (.inr rfl) (.inr rfl) (.inr ⟨rfl, rfl⟩))
  · exact (Within.of_frame (Within.refl _) rfl rfl rfl (.inr rfl) (.inr rfl) (.inl (bsub rfl hm)) (.inr rfl) (.inr rfl) (.inr rfl) (.inr rfl) (.inr rfl) (.inr ⟨rfl, rfl⟩))

theorem State.setRole_within {msk : Nat} {s00 : State} (s : State) (l : Lane) (r : Nat) (hm : 2101248 &&& msk = 2101248) (h0 : Within msk s00 s) :
    Within msk s00 (State.setRole s l r) := by
  refine within_trans h0 ?_
  unfold State.setRole
  lift_lets -useContext -merge -underBinder
  intro x0
  try clear_value x0
  intro x1
  have hx1 : Within msk s x1 := (within_put _ _ _ _ _ (fsub rfl hm) (within_wr _ _ _ _ _ (fsub rfl hm) (Within.refl _)))
  clear_value x1
  exact (within_when _ _ hx1 (fun _ => (within_put _ _ _ _ _ (by unfold reqFld; split <;> exact fsub rfl hm) (Within.refl _))))

theorem State.modSup_within {msk : Nat} {s00 : State} (s : State) (l : Lane) (f : SupSt → SupSt) (hm : 0 &&& msk = 0) (h0 : Within msk s00 s) :
    Within msk s00 (State.modSup s l f) := by
  refine within_trans h0 ?_
  unfold State.modSup
  exact (within_modRun _ _ (Within.refl _) fun _ => ⟨rfl, rfl⟩)

theorem State.syncMaster_within {msk : Nat} {s00 : State} (s : State) (hm : 2 &&& msk = 2) (h0 : Within msk s00 s) :
    Within msk s00 (State.syncMaster s) := by
  refine within_trans h0 ?_
  unfold State.syncMaster
  exact (within_each _ _ (Within.refl _) (fun y0 y1 => (by
    lift_lets -useContext -merge -underBinder
    intro x2
    try clear_value x2
    exact (within_when _ _ (within_put _ _ _ _ _ (fsub rfl hm) (Within.refl _)) (fun _ => (State.modSup_within _ _ _ (msub rfl hm) (Within.refl _))))
)))

theorem State.syncElig_within {msk : Nat} {s00 : State} (s : State) (hm : 2097152 &&& msk = 2097152) (h0 : Within msk s00 s) :
    Within msk s00 (State.syncElig s) := by
  refine within_trans h0 ?_
  unfold State.syncElig
  exact (within_each _ _ (Within.refl _) (fun _ _ => (within_put _ _ _ _ _ (fsub rfl hm) (within_put _ _ _ _ _ (by unfold eligFld; split <;> exact fsub rfl hm) (Within.refl _)))))

theorem State.pwmUngrant_within {msk : Nat} {s00 : State} (s : State) (l : Lane) (hm : 128 &&& msk = 128) (h0 : Within msk s00 s) :
    Within msk s00 (State.pwmUngrant s l) := by
  refine within_trans h0 ?_
  unfold State.pwmUngrant
  exact (within_each _ _ (within_clr _ _ _ _ (fsub rfl hm) (within_clr _ _ _ _ (fsub rfl hm) (within_clr _ _ _ _ (fsub rfl hm) (Within.refl _)))) (fun _ _ => (within_clr _ _ _ _ (fsub rfl hm) (Within.refl _))))

theorem State.muxDrives_within {msk : Nat} {s00 : State} (s : State) (hm : 68719476736 &&& msk = 68719476736) (h0 : Within msk s00 s) :
    Within msk s00 (State.muxDrives s) := by
  refine within_trans h0 ?_
  unfold State.muxDrives
  lift_lets -useContext -merge -underBinder
  intro x0
  try clear_value x0
  exact (Within.of_frame (Within.refl _) rfl rfl rfl (.inr rfl) (.inl (bsub rfl hm)) (.inr ⟨rfl, rfl⟩) (.inr rfl) (.inr rfl) (.inr rfl) (.inr rfl) (.inr rfl) (.inr ⟨rfl, rfl⟩))

theorem State.removeGrant_within {msk : Nat} {s00 : State} (s : State) (l : Lane) (hm : 343599485058 &&& msk = 343599485058) (h0 : Within msk s00 s) :
    Within msk s00 (State.removeGrant s l) := by
  refine within_trans h0 ?_
  unfold State.removeGrant
  lift_lets -useContext -merge -underBinder
  intro x0
  have hx0 : Within msk s x0 := (within_inc _ _ _ _ _ (fsub rfl hm) (within_wr _ _ _ _ _ (fsub rfl hm) (Within.refl _)))
  clear_value x0
  intro x1
  have hx1 : Within msk s x1 := (within_clr _ _ _ _ (fsub rfl hm) (within_wr _ _ _ _ _ (fsub rfl hm) hx0))
  clear_value x1
  intro x2
  have hx2 : Within msk s x2 := (within_modDep _ (msub rfl hm) hx1)
  clear_value x2
  intro x3
  have hx3 : Within msk s x3 := (within_modRun _ _ (State.muxDrives_within _ (msub rfl hm) (State.pwmUngrant_within _ _ (msub rfl hm) (within_clr _ _ _ _ (fsub rfl hm) (within_clr _ _ _ _ (fsub rfl hm) hx2)))) fun _ => ⟨rfl, rfl⟩)
  clear_value x3
  intro x4
  have hx4 : Within msk s x4 := (State.event_within _ _ _ (msub rfl hm) hx3)
  clear_value x4
  intro x5
  have hx5 : Within msk s x5 := (within_ite (fun _ => (State.setRole_within _ _ _ (msub rfl hm) hx4)) (fun _ => hx4))
  clear_value x5
  refine within_ite (fun _ => ?_) (fun _ => ?_)
  · exact (State.syncMaster_within _ (msub rfl hm) hx5)
  · exact (Within.refl _)

theorem State.giveGrant_within {msk : Nat} {s00 : State} (s : State) (l : Lane) (hm : 274880008322 &&& msk = 274880008322) (h0 : Within msk s00 s) :
    Within msk s00 (State.giveGrant s l) := by
  refine within_trans h0 ?_
  unfold State.giveGrant
  lift_lets -useContext -merge -underBinder
  intro x0
  try clear_value x0
  intro x1
  try clear_value x1
  intro x2
  try clear_value x2
  intro x3
  have hx3 : Within msk s x3 := (within_each _ _ (Within.refl _) (fun _ _ => (within_modRun _ _ (Within.refl _) fun _ => ⟨rfl, rfl⟩)))
  clear_value x3
  intro x6
  have hx6 : Within msk s x6 := (within_inc _ _ _ _ _ (fsub rfl hm) (within_wr _ _ _ _ _ (fsub rfl hm) hx3))
  clear_value x6
  intro x7
  have hx7 : Within msk s x7 := (within_ite (fun _ => (within_modDep _ (msub rfl hm) (within_wr _ _ _ _ _ (fsub rfl hm) (within_wrSat _ _ _ _ _ (fsub rfl hm) hx6)))) (fun _ => hx6))
  clear_value x7
  intro x8
  have hx8 : Within msk s x8 := (within_modDepLane _ _ (msub rfl hm) hx7)
  clear_value x8
  intro x9
  have hx9 : Within msk s x9 := (State.setRole_within _ _ _ (msub rfl hm) (within_set _ _ _ _ (fsub rfl hm) (within_set _ _ _ _ (fsub rfl hm) hx8)))
  clear_value x9
  intro x10
  have hx10 : Within msk s x10 := (within_modRun _ _ hx9 fun _ => ⟨rfl, rfl⟩)
  clear_value x10
  intro x11
  have hx11 : Within msk s x11 := (within_ite (fun _ => (within_modRun _ _ (State.setRole_within _ _ _ (msub rfl hm) hx10) fun _ => ⟨rfl, rfl⟩)) (fun _ => hx10))
  clear_value x11
  exact (State.syncMaster_within _ (msub rfl hm) (State.event_within _ _ _ (msub rfl hm) hx11))

theorem State.record_within {msk : Nat} {s00 : State} (s : State) (cls cause : Nat) (standby : Bool) (detail : Nat) (hm : 2097156 &&& msk = 2097156) (h0 : Within msk s00 s) :
    Within msk s00 (State.record s cls cause standby detail) := by
  refine within_trans h0 ?_
  unfold State.record
  lift_lets -useContext -merge -underBinder
  intro x0
  try clear_value x0
  intro x1
  have hx1 : Within msk s x1 := (within_when _ _ (Within.refl _) (fun _ => (within_set _ _ _ _ (fsub rfl hm) (Within.refl _))))
  clear_value x1
  intro x3
  have hx3 : Within msk s x3 := (within_wr _ _ _ _ _ (fsub rfl hm) (within_set _ _ _ _ (fsub rfl hm) (within_wr _ _ _ _ _ (fsub rfl hm) (within_wr _ _ _ _ _ (fsub rfl hm) (within_put _ _ _ _ _ (fsub rfl hm) (within_wr _ _ _ _ _ (fsub rfl hm) (within_wr _ _ _ _ _ (fsub rfl hm) hx1)))))))
  clear_value x3
  intro x4
  have hx4 : Within msk s x4 := (within_inc _ _ _ _ _ (fsub rfl hm) (within_wr _ _ _ _ _ (fsub rfl hm) hx3))
  clear_value x4
  intro x5
  have hx5 : Within msk s x5 := (within_ite (fun _ => (within_inc _ _ _ _ _ (fsub rfl hm) hx4)) (fun _ => (within_inc _ _ _ _ _ (fsub rfl hm) hx4)))
  clear_value x5
  exact (within_each _ _ hx5 (fun _ _ => (within_when _ _ (Within.refl _) (fun _ => (State.log_within _ _ _ _ (msub rfl hm) (Within.refl _))))))

theorem State.causeOf_within {msk : Nat} {s00 : State} (s : State) (l : Lane) (cause : Nat) (hm : 2097152 &&& msk = 2097152) (h0 : Within msk s00 s) :
    Within msk s00 (State.causeOf s l cause) := by
  refine within_trans h0 ?_
  unfold State.causeOf
  exact (within_wrBit _ _ _ _ _ (fsub rfl hm) (Within.refl _))

theorem State.syncChs_within {msk : Nat} {s00 : State} (s : State) (hm : 2097152 &&& msk = 2097152) (h0 : Within msk s00 s) :
    Within msk s00 (State.syncChs s) := by
  refine within_trans h0 ?_
  unfold State.syncChs
  exact (within_each _ _ (Within.refl _) (fun _ _ => (within_put _ _ _ _ _ (by unfold chsFld; split <;> exact fsub rfl hm) (Within.refl _))))

theorem State.syncLost_within {msk : Nat} {s00 : State} (s : State) (hm : 0 &&& msk = 0) (h0 : Within msk s00 s) :
    Within msk s00 (State.syncLost s) := by
  refine within_trans h0 ?_
  unfold State.syncLost
  exact (within_each _ _ (Within.refl _) (fun _ _ => (within_when _ _ (Within.refl _) (fun _ => (State.modSup_within _ _ _ (msub rfl hm) (Within.refl _))))))

theorem State.returnClass_within {msk : Nat} {s00 : State} (s : State) (c : FaultClass) (hm : 2101248 &&& msk = 2101248) (h0 : Within msk s00 s) :
    Within msk s00 (State.returnClass s c) := by
  refine within_trans h0 ?_
  unfold State.returnClass
  lift_lets -useContext -merge -underBinder
  intro x0
  have hx0 : Within msk s x0 := (within_wrBit _ _ _ _ _ (fsub rfl hm) (Within.refl _))
  clear_value x0
  intro x1
  have hx1 : Within msk s x1 := by
    unfold x1
    split
    · refine within_ite (fun _ => ?_) (fun _ => ?_)
      · exact (within_clr _ _ _ _ (fsub rfl hm) (within_clr _ _ _ _ (fsub rfl hm) hx0))
      · exact hx0
    · exact hx0
  clear_value x1
  intro x2
  have hx2 : Within msk s x2 := (within_ite (fun _ => (within_when _ _ (within_clr _ _ _ _ (fsub rfl hm) hx1) (fun _ => (within_clr _ _ _ _ (fsub rfl hm) (Within.refl _))))) (fun _ => hx1))
  clear_value x2
  exact (State.syncChs_within _ (msub rfl hm) (State.syncLost_within _ (msub rfl hm) hx2))

theorem State.laneReturn_within {msk : Nat} {s00 : State} (s : State) (l : Lane) (hm : 2101248 &&& msk = 2101248) (h0 : Within msk s00 s) :
    Within msk s00 (State.laneReturn s l) := by
  refine within_trans h0 ?_
  unfold State.laneReturn
  refine within_ite (fun _ => ?_) (fun _ => ?_)
  · exact (State.returnClass_within _ _ (msub rfl hm) (Within.refl _))
  · exact (Within.refl _)

theorem State.returns_within {msk : Nat} {s00 : State} (s : State) (hm : 2101248 &&& msk = 2101248) (h0 : Within msk s00 s) :
    Within msk s00 (State.returns s) := by
  refine within_trans h0 ?_
  unfold State.returns
  exact (within_each _ _ (Within.refl _) (fun _ _ => (State.laneReturn_within _ _ (msub rfl hm) (Within.refl _))))

theorem State.grantLogic_within {msk : Nat} {s00 : State} (s : State) (hm : 343599485062 &&& msk = 343599485062) (h0 : Within msk s00 s) :
    Within msk s00 (State.grantLogic s) := by
  refine within_trans h0 ?_
  unfold State.grantLogic
  lift_lets -useContext -merge -underBinder
  intro x0
  have hx0 : Within msk s x0 := (State.syncElig_within _ (msub rfl hm) (Within.refl _))
  clear_value x0
  refine within_ite (fun _ => ?_) (fun _ => ?_)
  · split
    · refine within_ite (fun _ => ?_) (fun _ => ?_)
      · exact hx0
      · exact (State.syncElig_within _ (msub rfl hm) (State.record_within _ _ _ _ _ (msub rfl hm) (State.causeOf_within _ _ _ (msub rfl hm) (State.removeGrant_within _ _ (msub rfl hm) hx0))))
    · lift_lets -useContext -merge -underBinder
      intro x1 x2
      try clear_value x2
      refine within_ite (fun _ => ?_) (fun _ => ?_)
      · refine within_ite (fun _ => ?_) (fun _ => ?_)
        · exact (State.syncElig_within _ (msub rfl hm) (State.returns_within _ (msub rfl hm) (State.giveGrant_within _ _ (msub rfl hm) hx0)))
        · refine within_ite (fun _ => ?_) (fun _ => ?_)
          · exact (State.syncElig_within _ (msub rfl hm) (State.returns_within _ (msub rfl hm) (State.giveGrant_within _ _ (msub rfl hm) hx0)))
          · exact hx0
      · exact hx0
  · exact hx0

theorem State.discharge_within {msk : Nat} {s00 : State} (s : State) (l : Lane) (on : Bool) (hm : 0 &&& msk = 0) (h0 : Within msk s00 s) :
    Within msk s00 (State.discharge s l on) := by
  refine within_trans h0 ?_
  unfold State.discharge
  lift_lets -useContext -merge -underBinder
  intro x0
  try clear_value x0
  refine within_ite (fun _ => ?_) (fun _ => ?_)
  · exact (within_modRun _ _ (Within.refl _) fun _ => ⟨rfl, rfl⟩)
  · exact (Within.refl _)

theorem State.seqEnd_within {msk : Nat} {s00 : State} (s : State) (l : Lane) (result : Nat) (hm : 1028 &&& msk = 1028) (h0 : Within msk s00 s) :
    Within msk s00 (State.seqEnd s l result) := by
  refine within_trans h0 ?_
  unfold State.seqEnd
  lift_lets -useContext -merge -underBinder
  intro x0
  split
  · exact (Within.refl _)
  · lift_lets -useContext -merge -underBinder
    intro x1
    have hx1 : Within msk s x1 := (within_clr _ _ _ _ (fsub rfl hm) (State.discharge_within _ _ _ (msub rfl hm) (within_modRun _ _ (Within.refl _) fun _ => ⟨rfl, rfl⟩)))
    clear_value x1
    exact (State.logIf_within _ _ _ _ _ _ (msub rfl hm) (fsub rfl hm) (State.irq_within _ _ _ _ (msub rfl hm) (fsub rfl hm) (within_wr _ _ _ _ _ (fsub rfl hm) hx1)))

theorem State.soSet_within {msk : Nat} {s00 : State} (s : State) (k : Fin 12) (hs ls : Bool) (hm : 274880004096 &&& msk = 274880004096) (h0 : Within msk s00 s) :
    Within msk s00 (State.soSet s k hs ls) := by
  refine within_trans h0 ?_
  unfold State.soSet
  lift_lets -useContext -merge -underBinder
  intro x0
  try clear_value x0
  intro x1
  have hx1 : Within msk s x1 := (within_ite (fun _ => (Within.refl _)) (fun _ => (within_modDep _ (msub rfl hm) (Within.refl _))))
  clear_value x1
  intro x2
  have hx2 : Within msk s x2 := (within_put _ _ _ _ _ (fsub rfl hm) (within_put _ _ _ _ _ (fsub rfl hm) hx1))
  clear_value x2
  intro x3
  have hx3 : Within msk s x3 := (within_put _ _ _ _ _ (fsub rfl hm) (within_put _ _ _ _ _ (fsub rfl hm) hx2))
  clear_value x3
  exact (within_wrBit _ _ _ _ _ (fsub rfl hm) (within_wrBit _ _ _ _ _ (fsub rfl hm) hx3))

theorem State.testEnd_within {msk : Nat} {s00 : State} (s : State) (out code : Nat) (hm : 274880004096 &&& msk = 274880004096) (h0 : Within msk s00 s) :
    Within msk s00 (State.testEnd s out code) := by
  refine within_trans h0 ?_
  unfold State.testEnd
  exact (within_modDep _ (msub rfl hm) (within_clr _ _ _ _ (fsub rfl hm) (within_wr _ _ _ _ _ (fsub rfl hm) (within_wr _ _ _ _ _ (fsub rfl hm) (Within.refl _)))))

theorem State.openSo_within {msk : Nat} {s00 : State} (s : State) (k : Fin 12) (hm : 274880004096 &&& msk = 274880004096) (h0 : Within msk s00 s) :
    Within msk s00 (State.openSo s k) := by
  refine within_trans h0 ?_
  unfold State.openSo
  lift_lets -useContext -merge -underBinder
  intro x0
  have hx0 : Within msk s x0 := (State.soSet_within _ _ _ _ (msub rfl hm) (Within.refl _))
  clear_value x0
  intro x1
  have hx1 : Within msk s x1 := (within_modDep _ (msub rfl hm) hx0)
  clear_value x1
  split
  · refine within_ite (fun _ => ?_) (fun _ => ?_)
    · exact (State.testEnd_within _ _ _ (msub rfl hm) hx1)
    · exact hx1
  · exact hx1

theorem State.openFuncs_within {msk : Nat} {s00 : State} (s : State) (fs : List Nat) (hm : 274880004096 &&& msk = 274880004096) (h0 : Within msk s00 s) :
    Within msk s00 (State.openFuncs s fs) := by
  refine within_trans h0 ?_
  unfold State.openFuncs
  exact (within_each _ _ (Within.refl _) (fun _ _ => (within_when _ _ (Within.refl _) (fun _ => (State.openSo_within _ _ (msub rfl hm) (Within.refl _))))))

theorem State.actSync_within {msk : Nat} {s00 : State} (s : State) (l : Lane) (hm : 4194304 &&& msk = 4194304) (h0 : Within msk s00 s) :
    Within msk s00 (State.actSync s l) := by
  refine within_trans h0 ?_
  unfold State.actSync
  lift_lets -useContext -merge -underBinder
  intro x0 x1
  try clear_value x1
  intro x2
  try clear_value x2
  intro x3
  try clear_value x3
  exact (within_put _ _ _ _ _ (fsub rfl hm) (within_put _ _ _ _ _ (fsub rfl hm) (Within.refl _)))

theorem State.lvpOff_within {msk : Nat} {s00 : State} (s : State) (l : Lane) (hm : 137443147776 &&& msk = 137443147776) (h0 : Within msk s00 s) :
    Within msk s00 (State.lvpOff s l) := by
  refine within_trans h0 ?_
  unfold State.lvpOff
  lift_lets -useContext -merge -underBinder
  intro x0
  exact (State.modPap_within _ _ _ (msub rfl hm) (within_clr _ _ _ _ (fsub rfl hm) (within_wr _ _ _ _ _ (fsub rfl hm) (within_wr _ _ _ _ _ (fsub rfl hm) (within_wr _ _ _ _ _ (fsub rfl hm) (Within.refl _))))))

theorem State.replug_within {msk : Nat} {s00 : State} (s : State) (l : Lane) (gone : Bool) (hm : 137443147776 &&& msk = 137443147776) (h0 : Within msk s00 s) :
    Within msk s00 (State.replug s l gone) := by
  refine within_trans h0 ?_
  unfold State.replug
  lift_lets -useContext -merge -underBinder
  intro x0 x1
  try clear_value x1
  intro x2
  have hx2 : Within msk s x2 := (State.modPap_within _ _ _ (msub rfl hm) (Within.refl _))
  clear_value x2
  refine within_ite (fun _ => ?_) (fun _ => ?_)
  · exact (within_when _ _ hx2 (fun _ => (within_inc _ _ _ _ _ (fsub rfl hm) (within_set _ _ _ _ (fsub rfl hm) (Within.refl _)))))
  · exact (Within.refl _)

theorem State.windingsOff_within {msk : Nat} {s00 : State} (s : State) (l : Lane) (hm : 137443147776 &&& msk = 137443147776) (h0 : Within msk s00 s) :
    Within msk s00 (State.windingsOff s l) := by
  refine within_trans h0 ?_
  unfold State.windingsOff
  lift_lets -useContext -merge -underBinder
  intro x0
  try clear_value x0
  intro x1
  have hx1 : Within msk s x1 := (State.modPap_within _ _ _ (msub rfl hm) (Within.refl _))
  clear_value x1
  refine within_ite (fun _ => ?_) (fun _ => ?_)
  · exact (State.actSync_within _ _ (msub rfl hm) (State.lvpOff_within _ _ (msub rfl hm) (within_clr _ _ _ _ (fsub rfl hm) (within_clr _ _ _ _ (fsub rfl hm) hx1))))
  · exact (Within.refl _)

theorem State.syncImposed_within {msk : Nat} {s00 : State} (s : State) (hm : 2 &&& msk = 2) (h0 : Within msk s00 s) :
    Within msk s00 (State.syncImposed s) := by
  refine within_trans h0 ?_
  unfold State.syncImposed
  exact (within_each _ _ (Within.refl _) (fun _ _ => (within_put _ _ _ _ _ (fsub rfl hm) (within_put _ _ _ _ _ (fsub rfl hm) (Within.refl _)))))

theorem State.startDegraded_within {msk : Nat} {s00 : State} (s : State) (c : FaultClass) (hm : 274880004098 &&& msk = 274880004098) (h0 : Within msk s00 s) :
    Within msk s00 (State.startDegraded s c) := by
  refine within_trans h0 ?_
  unfold State.startDegraded
  lift_lets -useContext -merge -underBinder
  intro x0
  try clear_value x0
  intro x1
  have hx1 : Within msk s x1 := (within_wr _ _ _ _ _ (fsub rfl hm) (within_wr _ _ _ _ _ (fsub rfl hm) (within_set _ _ _ _ (fsub rfl hm) (Within.refl _))))
  clear_value x1
  refine within_ite (fun _ => ?_) (fun _ => ?_)
  · exact (Within.refl _)
  · exact (State.syncImposed_within _ (msub rfl hm) (within_modDep _ (msub rfl hm) (within_set _ _ _ _ (fsub rfl hm) hx1)))

theorem State.stopControlled_within {msk : Nat} {s00 : State} (s : State) (hm : 274880005126 &&& msk = 274880005126) (h0 : Within msk s00 s) :
    Within msk s00 (State.stopControlled s) := by
  refine within_trans h0 ?_
  unfold State.stopControlled
  lift_lets -useContext -merge -underBinder
  intro x0
  have hx0 : Within msk s x0 := (within_set _ _ _ _ (fsub rfl hm) (within_wr _ _ _ _ _ (fsub rfl hm) (within_set _ _ _ _ (fsub rfl hm) (Within.refl _))))
  clear_value x0
  intro x1
  have hx1 : Within msk s x1 := (within_each _ _ (within_modDep _ (msub rfl hm) hx0) (fun _ _ => (within_modRun _ _ (Within.refl _) fun _ => ⟨rfl, rfl⟩)))
  clear_value x1
  refine within_ite (fun _ => ?_) (fun _ => ?_)
  · exact (State.syncImposed_within _ (msub rfl hm) (State.syncChs_within _ (msub rfl hm) (State.openFuncs_within _ _ (msub rfl hm) (within_each _ _ hx1 (fun _ _ => (State.seqEnd_within _ _ _ (msub rfl hm) (Within.refl _)))))))
  · exact (Within.refl _)

theorem State.clampCmd_within {msk : Nat} {s00 : State} (s : State) (l : Lane) (hm : 137441050624 &&& msk = 137441050624) (h0 : Within msk s00 s) :
    Within msk s00 (State.clampCmd s l) := by
  refine within_trans h0 ?_
  unfold State.clampCmd
  refine within_ite (fun _ => ?_) (fun _ => ?_)
  · exact (State.modPap_within _ _ _ (msub rfl hm) (within_set _ _ _ _ (by unfold clampFld; split <;> exact fsub rfl hm) (Within.refl _)))
  · exact (Within.refl _)

theorem State.stopImmediate_within {msk : Nat} {s00 : State} (s : State) (hm : 412318958598 &&& msk = 412318958598) (h0 : Within msk s00 s) :
    Within msk s00 (State.stopImmediate s) := by
  refine within_trans h0 ?_
  unfold State.stopImmediate
  lift_lets -useContext -merge -underBinder
  intro x0
  have hx0 : Within msk s x0 := (within_set _ _ _ _ (fsub rfl hm) (within_clr _ _ _ _ (fsub rfl hm) (within_wr _ _ _ _ _ (fsub rfl hm) (within_set _ _ _ _ (fsub rfl hm) (Within.refl _)))))
  clear_value x0
  intro x1
  have hx1 : Within msk s x1 := (within_modDep _ (msub rfl hm) hx0)
  clear_value x1
  intro x2
  have hx2 : Within msk s x2 := (State.openFuncs_within _ _ (msub rfl hm) (within_each _ _ hx1 (fun _ _ => (State.seqEnd_within _ _ _ (msub rfl hm) (Within.refl _)))))
  clear_value x2
  intro x5
  have hx5 : Within msk s x5 := (within_each _ _ hx2 (fun _ _ => (State.clampCmd_within _ _ (msub rfl hm) (Within.refl _))))
  clear_value x5
  refine within_ite (fun _ => ?_) (fun _ => ?_)
  · exact (Within.refl _)
  · exact (State.syncImposed_within _ (msub rfl hm) (State.syncChs_within _ (msub rfl hm) hx5))

theorem State.ovApply_within {msk : Nat} {s00 : State} (s : State) (hm : 34361836544 &&& msk = 34361836544) (h0 : Within msk s00 s) :
    Within msk s00 (State.ovApply s) := by
  refine within_trans h0 ?_
  unfold State.ovApply
  lift_lets -useContext -merge -underBinder
  intro x0
  try clear_value x0
  intro x1
  try clear_value x1
  intro x2
  have hx2 : Within msk s x2 := (within_put _ _ _ _ _ (fsub rfl hm) (within_put _ _ _ _ _ (fsub rfl hm) (Within.refl _)))
  clear_value x2
  intro x3
  try clear_value x3
  intro x4
  have hx4 : Within msk s x4 := (Within.of_frame hx2 rfl rfl rfl (.inl (bsub rfl hm)) (.inr rfl) (.inr ⟨rfl, rfl⟩) (.inr rfl) (.inr rfl) (.inr rfl) (.inr rfl) (.inr rfl) (.inr ⟨rfl, rfl⟩))
  clear_value x4
  intro x5
  have hx5 : Within msk s x5 := (within_each _ _ hx4 (fun _ _ => (within_ite (fun _ => (within_wr _ _ _ _ _ (fsub rfl hm) (within_put _ _ _ _ _ (fsub rfl hm) (Within.refl _)))) (fun _ => (Within.refl _)))))
  clear_value x5
  exact (within_each _ _ hx5 (fun _ _ => (State.groupApply_within _ _ (msub rfl hm) (Within.refl _))))

theorem State.ov2Line_within {msk : Nat} {s00 : State} (s : State) (l : Lane) (on : Bool) (hm : 34361836544 &&& msk = 34361836544) (h0 : Within msk s00 s) :
    Within msk s00 (State.ov2Line s l on) := by
  refine within_trans h0 ?_
  unfold State.ov2Line
  lift_lets -useContext -merge -underBinder
  intro x0
  have hx0 : Within msk s x0 := (within_ite (fun _ => (within_inc _ _ _ _ _ (fsub rfl hm) (Within.refl _))) (fun _ => (Within.refl _)))
  clear_value x0
  refine within_ite (fun _ => ?_) (fun _ => ?_)
  · exact (State.ovApply_within _ (msub rfl hm) (within_wrBit _ _ _ _ _ (fsub rfl hm) hx0))
  · exact (Within.refl _)

theorem State.ov3Line_within {msk : Nat} {s00 : State} (s : State) (l : Lane) (on : Bool) (hm : 309239743488 &&& msk = 309239743488) (h0 : Within msk s00 s) :
    Within msk s00 (State.ov3Line s l on) := by
  refine within_trans h0 ?_
  unfold State.ov3Line
  lift_lets -useContext -merge -underBinder
  intro x0
  try clear_value x0
  intro x1
  have hx1 : Within msk s x1 := (within_wrBit _ _ _ _ _ (fsub rfl hm) (Within.refl _))
  clear_value x1
  refine within_ite (fun _ => ?_) (fun _ => ?_)
  · refine within_ite (fun _ => ?_) (fun _ => ?_)
    · exact (State.ovApply_within _ (msub rfl hm) (within_modDep _ (msub rfl hm) (within_set _ _ _ _ (fsub rfl hm) (within_when _ _ hx1 (fun _ => (within_inc _ _ _ _ _ (fsub rfl hm) (Within.refl _)))))))
    · refine within_ite (fun _ => ?_) (fun _ => ?_)
      · exact (within_modDep _ (msub rfl hm) hx1)
      · exact hx1
  · exact (Within.refl _)

theorem State.outcome_within {msk : Nat} {s00 : State} (s : State) (starter : FaultClass) (hm : 412318958598 &&& msk = 412318958598) (h0 : Within msk s00 s) :
    Within msk s00 (State.outcome s starter) := by
  refine within_trans h0 ?_
  unfold State.outcome
  lift_lets -useContext -merge -underBinder
  intro x0
  have hx0 : Within msk s x0 := (within_clr _ _ _ _ (fsub rfl hm) (within_clr _ _ _ _ (fsub rfl hm) (Within.refl _)))
  clear_value x0
  refine within_ite (fun _ => ?_) (fun _ => ?_)
  · refine within_ite (fun _ => ?_) (fun _ => ?_)
    · exact (State.stopImmediate_within _ (msub rfl hm) (within_set _ _ _ _ (fsub rfl hm) (Within.refl _)))
    · exact (Within.refl _)
  · refine within_ite (fun _ => ?_) (fun _ => ?_)
    · refine within_ite (fun _ => ?_) (fun _ => ?_)
      · exact (State.stopImmediate_within _ (msub rfl hm) (within_set _ _ _ _ (fsub rfl hm) (within_clr _ _ _ _ (fsub rfl hm) hx0)))
      · exact (State.stopControlled_within _ (msub rfl hm) (within_set _ _ _ _ (fsub rfl hm) hx0))
    · refine within_ite (fun _ => ?_) (fun _ => ?_)
      · exact (State.startDegraded_within _ _ (msub rfl hm) (within_ite (fun _ => (Within.refl _)) (fun _ => (within_set _ _ _ _ (fsub rfl hm) (within_set _ _ _ _ (fsub rfl hm) (Within.refl _))))))
      · exact (Within.refl _)

theorem State.laneLost_within {msk : Nat} {s00 : State} (s : State) (l : Lane) (hm : 515402372226 &&& msk = 515402372226) (h0 : Within msk s00 s) :
    Within msk s00 (State.laneLost s l) := by
  refine within_trans h0 ?_
  unfold State.laneLost
  lift_lets -useContext -merge -underBinder
  intro x0
  have hx0 : Within msk s x0 := (within_clr _ _ _ _ (fsub rfl hm) (within_set _ _ _ _ (fsub rfl hm) (Within.refl _)))
  clear_value x0
  intro x1
  have hx1 : Within msk s x1 := (State.ov3Line_within _ _ _ (msub rfl hm) (State.ov2Line_within _ _ _ (msub rfl hm) (State.windingsOff_within _ _ (msub rfl hm) (State.removeGrant_within _ _ (msub rfl hm) hx0))))
  clear_value x1
  intro x2
  have hx2 : Within msk s x2 := (within_set _ _ _ _ (fsub rfl hm) hx1)
  clear_value x2
  refine within_ite (fun _ => ?_) (fun _ => ?_)
  · exact (State.setRole_within _ _ _ (msub rfl hm) hx2)
  · exact hx2

theorem State.laneForm_within {msk : Nat} {s00 : State} (s : State) (l : Lane) (hm : 2 &&& msk = 2) (h0 : Within msk s00 s) :
    Within msk s00 (State.laneForm s l) := by
  refine within_trans h0 ?_
  unfold State.laneForm
  exact (within_clr _ _ _ _ (fsub rfl hm) (within_set _ _ _ _ (fsub rfl hm) (State.modSup_within _ _ _ (msub rfl hm) (Within.refl _))))

theorem State.laneOutcome_within {msk : Nat} {s00 : State} (s : State) (l : Lane) (hm : 2 &&& msk = 2) (h0 : Within msk s00 s) :
    Within msk s00 (State.laneOutcome s l) := by
  refine within_trans h0 ?_
  unfold State.laneOutcome
  lift_lets -useContext -merge -underBinder
  intro x0
  try clear_value x0
  intro x1
  refine within_ite (fun _ => ?_) (fun _ => ?_)
  · exact (State.laneForm_within _ _ (msub rfl hm) (Within.refl _))
  · exact (Within.refl _)

theorem State.ownRecord_within {msk : Nat} {s00 : State} (s : State) (k : Lane) (c : FaultClass) (cause : Nat) (hm : 6 &&& msk = 6) (h0 : Within msk s00 s) :
    Within msk s00 (State.ownRecord s k c cause) := by
  refine within_trans h0 ?_
  unfold State.ownRecord
  refine within_ite (fun _ => ?_) (fun _ => ?_)
  · exact (State.laneOutcome_within _ _ (msub rfl hm) (State.log_within _ _ _ _ (msub rfl hm) (State.modSup_within _ _ _ (msub rfl hm) (Within.refl _))))
  · exact (Within.refl _)

theorem State.ownLaneLoss_within {msk : Nat} {s00 : State} (s : State) (l : Lane) (cause : Nat) (hm : 137445249030 &&& msk = 137445249030) (h0 : Within msk s00 s) :
    Within msk s00 (State.ownLaneLoss s l cause) := by
  refine within_trans h0 ?_
  unfold State.ownLaneLoss
  lift_lets -useContext -merge -underBinder
  intro x0
  have hx0 : Within msk s x0 := (State.ownRecord_within _ _ _ _ (msub rfl hm) (within_set _ _ _ _ (fsub rfl hm) (State.windingsOff_within _ _ (msub rfl hm) (Within.refl _))))
  clear_value x0
  refine within_ite (fun _ => ?_) (fun _ => ?_)
  · refine within_ite (fun _ => ?_) (fun _ => ?_)
    · exact (State.setRole_within _ _ _ (msub rfl hm) hx0)
    · exact hx0
  · exact (Within.refl _)

theorem State.ownRecords_within {msk : Nat} {s00 : State} (s : State) (cs : List (FaultClass × Nat)) (hm : 137445249030 &&& msk = 137445249030) (h0 : Within msk s00 s) :
    Within msk s00 (State.ownRecords s cs) := by
  refine within_trans h0 ?_
  unfold State.ownRecords
  exact (within_each _ _ (Within.refl _) (fun y0 y1 => (by
    split
    · refine within_ite (fun _ => ?_) (fun _ => ?_)
      · exact (State.ownLaneLoss_within _ _ _ (msub rfl hm) (Within.refl _))
      · exact (Within.refl _)
    · exact (Within.refl _)
)))

theorem State.undoDegraded_within {msk : Nat} {s00 : State} (s : State) (hm : 2097154 &&& msk = 2097154) (h0 : Within msk s00 s) :
    Within msk s00 (State.undoDegraded s) := by
  refine within_trans h0 ?_
  unfold State.undoDegraded
  lift_lets -useContext -merge -underBinder
  intro x0
  have hx0 : Within msk s x0 := (within_wr _ _ _ _ _ (fsub rfl hm) (within_wr _ _ _ _ _ (fsub rfl hm) (within_clr _ _ _ _ (fsub rfl hm) (Within.refl _))))
  clear_value x0
  exact (State.syncImposed_within _ (msub rfl hm) (within_clr _ _ _ _ (fsub rfl hm) hx0))

theorem State.pairDirect_within {msk : Nat} {s00 : State} (s : State) (n : Nat) (hm : 2097154 &&& msk = 2097154) (h0 : Within msk s00 s) :
    Within msk s00 (State.pairDirect s n) := by
  refine within_trans h0 ?_
  unfold State.pairDirect
  lift_lets -useContext -merge -underBinder
  intro x0
  have hx0 : Within msk s x0 := (within_ite (fun _ => (State.undoDegraded_within _ (msub rfl hm) (Within.refl _))) (fun _ => (Within.refl _)))
  clear_value x0
  exact (within_each _ _ hx0 (fun _ _ => (within_wr _ _ _ _ _ (fsub rfl hm) (Within.refl _))))

theorem State.declareAll_within {msk : Nat} {s00 : State} (s : State) (cs : List (FaultClass × Nat)) (hm : 515402372230 &&& msk = 515402372230) (h0 : Within msk s00 s) :
    Within msk s00 (State.declareAll s cs) := by
  refine within_trans h0 ?_
  unfold State.declareAll
  lift_lets -useContext -merge -underBinder
  intro x0
  try clear_value x0
  refine within_ite (fun _ => ?_) (fun _ => ?_)
  · split
    · exact (Within.refl _)
    · lift_lets -useContext -merge -underBinder
      intro x1
      try clear_value x1
      intro x2
      try clear_value x2
      intro x3
      have hx3 : Within msk s x3 := (within_each _ _ (Within.refl _) (fun _ _ => (within_wrBit _ _ _ _ _ (fsub rfl hm) (Within.refl _))))
      clear_value x3
      intro x6
      have hx6 : Within msk s x6 := (within_each _ _ hx3 (fun y7 y8 => (by
        split
        · exact (Within.refl _)
        · exact (State.causeOf_within _ _ _ (msub rfl hm) (within_ite (fun _ => (State.laneLost_within _ _ (msub rfl hm) (Within.refl _))) (fun _ => (Within.refl _))))
)))
      clear_value x6
      intro x9
      have hx9 : Within msk s x9 := (within_modDep _ (msub rfl hm) (State.outcome_within _ _ (msub rfl hm) hx6))
      clear_value x9
      intro x10
      have hx10 : Within msk s x10 := (within_modDep _ (msub rfl hm) hx9)
      clear_value x10
      intro x11
      have hx11 : Within msk s x11 := (within_ite (fun _ => (State.pairDirect_within _ _ (msub rfl hm) hx10)) (fun _ => hx10))
      clear_value x11
      intro x12
      have hx12 : Within msk s x12 := (within_each _ _ hx11 (fun _ _ => (State.record_within _ _ _ _ _ (msub rfl hm) (Within.refl _))))
      clear_value x12
      exact (State.syncMaster_within _ (msub rfl hm) (State.grantLogic_within _ (msub rfl hm) (State.syncChs_within _ (msub rfl hm) (State.syncLost_within _ (msub rfl hm) (State.returns_within _ (msub rfl hm) (State.ownRecords_within _ _ (msub rfl hm) hx12))))))
  · exact (State.syncMaster_within _ (msub rfl hm) (State.ownRecords_within _ _ (msub rfl hm) (Within.refl _)))

theorem State.declare_within {msk : Nat} {s00 : State} (s : State) (c : FaultClass) (cause : Nat) (hm : 515402372230 &&& msk = 515402372230) (h0 : Within msk s00 s) :
    Within msk s00 (State.declare s c cause) := by
  refine within_trans h0 ?_
  unfold State.declare
  exact (State.declareAll_within _ _ (msub rfl hm) (Within.refl _))

theorem State.windowMiss_within {msk : Nat} {s00 : State} (s : State) (l : Lane) (hm : 515402372230 &&& msk = 515402372230) (h0 : Within msk s00 s) :
    Within msk s00 (State.windowMiss s l) := by
  refine within_trans h0 ?_
  unfold State.windowMiss
  refine within_ite (fun _ => ?_) (fun _ => ?_)
  · exact (State.declare_within _ _ _ (msub rfl hm) (within_inc _ _ _ _ _ (fsub rfl hm) (Within.refl _)))
  · exact (Within.refl _)

theorem State.feEvent_within {msk : Nat} {s00 : State} (s : State) (l : Lane) (slot : Nat) (hm : 515402372230 &&& msk = 515402372230) (h0 : Within msk s00 s) :
    Within msk s00 (State.feEvent s l slot) := by
  refine within_trans h0 ?_
  unfold State.feEvent
  lift_lets -useContext -merge -underBinder
  intro x0
  try clear_value x0
  intro x1
  have hx1 : Within msk s x1 := (State.causeOf_within _ _ _ (msub rfl hm) (within_inc _ _ _ _ _ (fsub rfl hm) (within_put _ _ _ _ _ (fsub rfl hm) (within_wr _ _ _ _ _ (fsub rfl hm) (within_inc _ _ _ _ _ (fsub rfl hm) (Within.refl _))))))
  clear_value x1
  intro x2
  have hx2 : Within msk s x2 := (State.record_within _ _ _ _ _ (msub rfl hm) hx1)
  clear_value x2
  refine within_ite (fun _ => ?_) (fun _ => ?_)
  · refine within_ite (fun _ => ?_) (fun _ => ?_)
    · exact (State.windowMiss_within _ _ (msub rfl hm) hx2)
    · exact hx2
  · exact (Within.refl _)

theorem State.tallyMiss_within {msk : Nat} {s00 : State} (s : State) (l : Lane) (q : Nat) (hm : 515402372230 &&& msk = 515402372230) (h0 : Within msk s00 s) :
    Within msk s00 (State.tallyMiss s l q) := by
  refine within_trans h0 ?_
  unfold State.tallyMiss
  lift_lets -useContext -merge -underBinder
  intro x0
  try clear_value x0
  intro x1
  try clear_value x1
  intro x2
  have hx2 : Within msk s x2 := (State.causeOf_within _ _ _ (msub rfl hm) (within_inc _ _ _ _ _ (fsub rfl hm) (within_put _ _ _ _ _ (fsub rfl hm) (within_wr _ _ _ _ _ (fsub rfl hm) (within_inc _ _ _ _ _ (fsub rfl hm) (Within.refl _))))))
  clear_value x2
  intro x3
  have hx3 : Within msk s x3 := (State.record_within _ _ _ _ _ (msub rfl hm) (within_modDepLane _ _ (msub rfl hm) hx2))
  clear_value x3
  refine within_ite (fun _ => ?_) (fun _ => ?_)
  · refine within_ite (fun _ => ?_) (fun _ => ?_)
    · exact (State.windowMiss_within _ _ (msub rfl hm) hx3)
    · exact hx3
  · exact (Within.refl _)

theorem State.resetRegs_within {msk : Nat} {s00 : State} (s : State) (d : Die) (keep : Bool)
    (hm : 4294967295 &&& msk = 4294967295) (h0 : Within msk s00 s) : Within msk s00 (s.resetRegs d keep) :=
  within_filter _ hm h0

theorem State.resetPap_within {msk : Nat} {s00 : State} (s : State) (l : Lane) (hm : 141733920767 &&& msk = 141733920767) (h0 : Within msk s00 s) :
    Within msk s00 (State.resetPap s l) := by
  refine within_trans h0 ?_
  unfold State.resetPap
  lift_lets -useContext -merge -underBinder
  intro x0 x1
  have hx1 : Within msk s x1 := (State.modPap_within _ _ _ (msub rfl hm) (Within.refl _))
  clear_value x1
  exact (State.actSync_within _ _ (msub rfl hm) (State.resetRegs_within _ _ _ (msub rfl hm) hx1))

theorem State.resetLane_within {msk : Nat} {s00 : State} (s : State) (l : Lane) (phase : LanePhase) (hm : 395136991231 &&& msk = 395136991231) (h0 : Within msk s00 s) :
    Within msk s00 (State.resetLane s l phase) := by
  refine within_trans h0 ?_
  unfold State.resetLane
  lift_lets -useContext -merge -underBinder
  intro x0
  have hx0 : Within msk s x0 := (within_when _ _ (State.removeGrant_within _ _ (msub rfl hm) (Within.refl _)) (fun _ => (within_clr _ _ _ _ (fsub rfl hm) (within_clr _ _ _ _ (by unfold reqFld; split <;> exact fsub rfl hm) (Within.refl _)))))
  clear_value x0
  intro x2
  have hx2 : Within msk s x2 := (State.resetRegs_within _ _ _ (msub rfl hm) (within_modRunMem _ _ (msub rfl hm) hx0))
  clear_value x2
  intro x3
  have hx3 : Within msk s x3 := (State.ov3Line_within _ _ _ (msub rfl hm) (State.ov2Line_within _ _ _ (msub rfl hm) (within_modDepLane _ _ (msub rfl hm) hx2)))
  clear_value x3
  exact (State.syncMaster_within _ (msub rfl hm) (State.grantLogic_within _ (msub rfl hm) (State.syncChs_within _ (msub rfl hm) hx3)))

theorem State.resetIsland_within {msk : Nat} {s00 : State} (s : State) (l : Lane) (phase : LanePhase) (hm : 532575944703 &&& msk = 532575944703) (h0 : Within msk s00 s) :
    Within msk s00 (State.resetIsland s l phase) := by
  refine within_trans h0 ?_
  unfold State.resetIsland
  exact (State.resetLane_within _ _ _ (msub rfl hm) (State.resetPap_within _ _ (msub rfl hm) (Within.refl _)))


end Sys2Proof.Machine
end

