-- ==== Sys2Proof/Laws/WithinDriveOps.lean ====
section
/-!
SUPPORT. The operations of Machine/DriveOps.lean change nothing outside their masks (Laws/Within.lean).
-/
namespace Sys2Proof.Machine

theorem State.modHb_within {msk : Nat} {s00 : State} (s : State) (l : Lane) (n : Fin 16) (f : HalfBridge → HalfBridge) (hm : 137438953472 &&& msk = 137438953472) (h0 : Within msk s00 s) :
    Within msk s00 (State.modHb s l n f) := by
  refine within_trans h0 ?_
  unfold State.modHb
  exact (State.modPap_within _ _ _ (msub rfl hm) (Within.refl _))

theorem State.pdOff_within {msk : Nat} {s00 : State} (s : State) (l : Lane) (n : Fin 16) (hi : Bool) (hm : 137443147776 &&& msk = 137443147776) (h0 : Within msk s00 s) :
    Within msk s00 (State.pdOff s l n hi) := by
  refine within_trans h0 ?_
  unfold State.pdOff
  refine within_ite (fun _ => ?_) (fun _ => ?_)
  · exact (within_clr _ _ _ _ (fsub rfl hm) (State.modHb_within _ _ _ _ (msub rfl hm) (Within.refl _)))
  · exact (within_clr _ _ _ _ (fsub rfl hm) (State.modHb_within _ _ _ _ (msub rfl hm) (Within.refl _)))

theorem State.pdOn_within {msk : Nat} {s00 : State} (s : State) (l : Lane) (n : Fin 16) (hi : Bool) (hm : 137443147776 &&& msk = 137443147776) (h0 : Within msk s00 s) :
    Within msk s00 (State.pdOn s l n hi) := by
  refine within_trans h0 ?_
  unfold State.pdOn
  refine within_ite (fun _ => ?_) (fun _ => ?_)
  · exact (within_set _ _ _ _ (fsub rfl hm) (State.modHb_within _ _ _ _ (msub rfl hm) (Within.refl _)))
  · exact (within_set _ _ _ _ (fsub rfl hm) (State.modHb_within _ _ _ _ (msub rfl hm) (Within.refl _)))

theorem State.pdCmd_within {msk : Nat} {s00 : State} (s : State) (l : Lane) (n : Fin 16) (hi on : Bool) (t : Int) (hm : 137443147776 &&& msk = 137443147776) (h0 : Within msk s00 s) :
    Within msk s00 (State.pdCmd s l n hi on t) := by
  refine within_trans h0 ?_
  unfold State.pdCmd
  lift_lets -useContext -merge -underBinder
  intro x0
  try clear_value x0
  intro x1
  have hx1 : Within msk s x1 := (State.modHb_within _ _ _ _ (msub rfl hm) (Within.refl _))
  clear_value x1
  intro x2
  have hx2 : Within msk s x2 := (State.modHb_within _ _ _ _ (msub rfl hm) (Within.refl _))
  clear_value x2
  intro x3
  have hx3 : Within msk s x3 := (within_ite (fun _ => (State.pdOff_within _ _ _ _ (msub rfl hm) hx2)) (fun _ => hx2))
  clear_value x3
  refine within_ite (fun _ => ?_) (fun _ => ?_)
  · exact (Within.refl _)
  · refine within_ite (fun _ => ?_) (fun _ => ?_)
    · refine within_ite (fun _ => ?_) (fun _ => ?_)
      · refine within_ite (fun _ => ?_) (fun _ => ?_)
        · exact (Within.refl _)
        · refine within_ite (fun _ => ?_) (fun _ => ?_)
          · exact (State.pdOn_within _ _ _ _ (msub rfl hm) hx1)
          · exact hx1
      · exact (Within.refl _)
    · exact (State.pdOff_within _ _ _ _ (msub rfl hm) hx3)


end Sys2Proof.Machine
end

