-- ==== Sys2Proof/Laws/WithinPwmOps.lean ====
section
/-!
SUPPORT. The operations of Machine/PwmOps.lean change nothing outside their masks (Laws/Within.lean).
-/
namespace Sys2Proof.Machine

theorem State.modCh_within {msk : Nat} {s00 : State} (s : State) (l : Lane) (c : Fin 64) (f : PwmCh → PwmCh) (hm : 0 &&& msk = 0) (h0 : Within msk s00 s) :
    Within msk s00 (State.modCh s l c f) := by
  refine within_trans h0 ?_
  unfold State.modCh
  exact (State.modPwm_within _ _ _ (msub rfl hm) (Within.refl _))

theorem State.driveDst_within {msk : Nat} {s00 : State} (s : State) (l : Lane) (c : Fin 64) (code : Nat) (on : Bool) (t : Int) (hm : 171802886144 &&& msk = 171802886144) (h0 : Within msk s00 s) :
    Within msk s00 (State.driveDst s l c code on t) := by
  refine within_trans h0 ?_
  unfold State.driveDst
  lift_lets -useContext -merge -underBinder
  intro x0
  try clear_value x0
  refine within_ite (fun _ => ?_) (fun _ => ?_)
  · refine within_ite (fun _ => ?_) (fun _ => ?_)
    · split
      · exact (State.hoistCmd_within _ _ _ _ (msub rfl hm) (Within.refl _))
      · exact (Within.refl _)
    · exact (Within.refl _)
  · refine within_ite (fun _ => ?_) (fun _ => ?_)
    · exact (State.pdCmd_within _ _ _ _ _ _ (msub rfl hm) (Within.refl _))
    · refine within_ite (fun _ => ?_) (fun _ => ?_)
      · exact (State.pdCmd_within _ _ _ _ _ _ (msub rfl hm) (Within.refl _))
      · refine within_ite (fun _ => ?_) (fun _ => ?_)
        · exact (State.modPwm_within _ _ _ (msub rfl hm) (Within.refl _))
        · exact (Within.refl _)

theorem State.driveH_within {msk : Nat} {s00 : State} (s : State) (l : Lane) (c : Fin 64) (on : Bool) (t : Int) (hm : 171802886144 &&& msk = 171802886144) (h0 : Within msk s00 s) :
    Within msk s00 (State.driveH s l c on t) := by
  refine within_trans h0 ?_
  unfold State.driveH
  lift_lets -useContext -merge -underBinder
  intro x0
  try clear_value x0
  exact (State.driveDst_within _ _ _ _ _ _ (msub rfl hm) (State.modCh_within _ _ _ _ (msub rfl hm) (Within.refl _)))

theorem State.driveL_within {msk : Nat} {s00 : State} (s : State) (l : Lane) (c : Fin 64) (on : Bool) (t : Int) (hm : 171802886144 &&& msk = 171802886144) (h0 : Within msk s00 s) :
    Within msk s00 (State.driveL s l c on t) := by
  refine within_trans h0 ?_
  unfold State.driveL
  lift_lets -useContext -merge -underBinder
  intro x0
  try clear_value x0
  refine within_ite (fun _ => ?_) (fun _ => ?_)
  · exact (State.driveDst_within _ _ _ _ _ _ (msub rfl hm) (State.modCh_within _ _ _ _ (msub rfl hm) (Within.refl _)))
  · exact (State.modCh_within _ _ _ _ (msub rfl hm) (Within.refl _))

theorem State.freePartner_within {msk : Nat} {s00 : State} (s : State) (l : Lane) (c : Fin 64) (hm : 171802886144 &&& msk = 171802886144) (h0 : Within msk s00 s) :
    Within msk s00 (State.freePartner s l c) := by
  refine within_trans h0 ?_
  unfold State.freePartner
  split
  · exact (Within.refl _)
  · refine within_ite (fun _ => ?_) (fun _ => ?_)
    · exact (State.driveH_within _ _ _ _ _ (msub rfl hm) (State.modCh_within _ _ _ _ (msub rfl hm) (Within.refl _)))
    · exact (Within.refl _)

theorem State.chOff_within {msk : Nat} {s00 : State} (s : State) (l : Lane) (c : Fin 64) (hm : 171802886144 &&& msk = 171802886144) (h0 : Within msk s00 s) :
    Within msk s00 (State.chOff s l c) := by
  refine within_trans h0 ?_
  unfold State.chOff
  exact (State.freePartner_within _ _ _ (msub rfl hm) (State.driveL_within _ _ _ _ _ (msub rfl hm) (State.driveH_within _ _ _ _ _ (msub rfl hm) (Within.refl _))))

theorem State.redrive_within {msk : Nat} {s00 : State} (s : State) (l : Lane) (c : Fin 64) (hm : 171802886144 &&& msk = 171802886144) (h0 : Within msk s00 s) :
    Within msk s00 (State.redrive s l c) := by
  refine within_trans h0 ?_
  unfold State.redrive
  lift_lets -useContext -merge -underBinder
  intro x0 x1
  try clear_value x1
  intro x2
  try clear_value x2
  intro x3
  try clear_value x3
  intro x4
  try clear_value x4
  intro x5
  have hx5 : Within msk s x5 := (within_ite (fun _ => (State.driveDst_within _ _ _ _ _ _ (msub rfl hm) (Within.refl _))) (fun _ => (Within.refl _)))
  clear_value x5
  intro x6
  have hx6 : Within msk s x6 := (within_ite (fun _ => (State.driveDst_within _ _ _ _ _ _ (msub rfl hm) hx5)) (fun _ => hx5))
  clear_value x6
  intro x7
  have hx7 : Within msk s x7 := by
    unfold x7
    split
    · exact (State.driveDst_within _ _ _ _ _ _ (msub rfl hm) hx6)
    · exact hx6
  clear_value x7
  split
  · refine within_ite (fun _ => ?_) (fun _ => ?_)
    · exact (State.driveDst_within _ _ _ _ _ _ (msub rfl hm) hx7)
    · exact hx7
  · exact hx7

theorem State.redriveAll_within {msk : Nat} {s00 : State} (s : State) (l : Lane) (hm : 171802886144 &&& msk = 171802886144) (h0 : Within msk s00 s) :
    Within msk s00 (State.redriveAll s l) := by
  refine within_trans h0 ?_
  unfold State.redriveAll
  exact (within_each _ _ (Within.refl _) (fun _ _ => (within_when _ _ (Within.refl _) (fun _ => (State.redrive_within _ _ _ (msub rfl hm) (Within.refl _))))))

theorem State.openWindows_within {msk : Nat} {s00 : State} (s : State) (l : Lane) (c : Fin 64) (level : Bool) (x : Int) (hm : 0 &&& msk = 0) (h0 : Within msk s00 s) :
    Within msk s00 (State.openWindows s l c level x) := by
  refine within_trans h0 ?_
  unfold State.openWindows
  exact (within_each _ _ (Within.refl _) (fun y0 y1 => (by
    lift_lets -useContext -merge -underBinder
    intro x2 x3
    try clear_value x3
    intro x4
    try clear_value x4
    refine within_ite (fun _ => ?_) (fun _ => ?_)
    · exact (State.modPwm_within _ _ _ (msub rfl hm) (Within.refl _))
    · exact (Within.refl _)
)))

theorem State.follow_within {msk : Nat} {s00 : State} (s : State) (l : Lane) (c : Fin 64) (level : Bool) (hm : 171802886144 &&& msk = 171802886144) (h0 : Within msk s00 s) :
    Within msk s00 (State.follow s l c level) := by
  refine within_trans h0 ?_
  unfold State.follow
  lift_lets -useContext -merge -underBinder
  intro x0
  refine within_ite (fun _ => ?_) (fun _ => ?_)
  · refine within_ite (fun _ => ?_) (fun _ => ?_)
    · exact (State.driveH_within _ _ _ _ _ (msub rfl hm) (State.driveL_within _ _ _ _ _ (msub rfl hm) (Within.refl _)))
    · exact (State.driveL_within _ _ _ _ _ (msub rfl hm) (State.driveH_within _ _ _ _ _ (msub rfl hm) (Within.refl _)))
  · refine within_ite (fun _ => ?_) (fun _ => ?_)
    · split
      · exact (State.driveH_within _ _ _ _ _ (msub rfl hm) (Within.refl _))
      · refine within_ite (fun _ => ?_) (fun _ => ?_)
        · exact (State.modCh_within _ _ _ _ (msub rfl hm) (Within.refl _))
        · exact (State.driveH_within _ _ _ _ _ (msub rfl hm) (Within.refl _))
    · exact (State.chOff_within _ _ _ (msub rfl hm) (State.modCh_within _ _ _ _ (msub rfl hm) (Within.refl _)))

theorem State.setLevel_within {msk : Nat} {s00 : State} (s : State) (l : Lane) (c : Fin 64) (level : Bool) (x : Int) (hm : 128 &&& msk = 128) (h0 : Within msk s00 s) :
    Within msk s00 (State.setLevel s l c level x) := by
  refine within_trans h0 ?_
  unfold State.setLevel
  exact (State.modCh_within _ _ _ _ (msub rfl hm) (within_put _ _ _ _ _ (fsub rfl hm) (Within.refl _)))

theorem State.issue_within {msk : Nat} {s00 : State} (s : State) (l : Lane) (c : Fin 64) (level : Bool) (x : Int) (hm : 8967895908480 &&& msk = 8967895908480) (h0 : Within msk s00 s) :
    Within msk s00 (State.issue s l c level x) := by
  refine within_trans h0 ?_
  unfold State.issue
  lift_lets -useContext -merge -underBinder
  intro x0
  have hx0 : Within msk s x0 := (State.modCh_within _ _ _ _ (msub rfl hm) (State.setLevel_within _ _ _ _ _ (msub rfl hm) (State.advSteps_within _ _ (msub rfl hm) (Within.refl _))))
  clear_value x0
  exact (State.follow_within _ _ _ _ (msub rfl hm) (State.openWindows_within _ _ _ _ _ (msub rfl hm) hx0))

theorem State.syncCfgErr_within {msk : Nat} {s00 : State} (s : State) (l : Lane) (c : Fin 64) (hm : 171802886272 &&& msk = 171802886272) (h0 : Within msk s00 s) :
    Within msk s00 (State.syncCfgErr s l c) := by
  refine within_trans h0 ?_
  unfold State.syncCfgErr
  lift_lets -useContext -merge -underBinder
  intro x0 x1
  try clear_value x1
  intro x2
  try clear_value x2
  intro x3
  have hx3 : Within msk s x3 := (within_put _ _ _ _ _ (fsub rfl hm) (Within.refl _))
  clear_value x3
  intro x4
  try clear_value x4
  refine within_ite (fun _ => ?_) (fun _ => ?_)
  · refine within_ite (fun _ => ?_) (fun _ => ?_)
    · exact hx3
    · exact (State.chOff_within _ _ _ (msub rfl hm) hx3)
  · refine within_ite (fun _ => ?_) (fun _ => ?_)
    · exact (State.follow_within _ _ _ _ (msub rfl hm) hx3)
    · exact hx3

theorem State.syncCfgErrs_within {msk : Nat} {s00 : State} (s : State) (l : Lane) (hm : 171802886272 &&& msk = 171802886272) (h0 : Within msk s00 s) :
    Within msk s00 (State.syncCfgErrs s l) := by
  refine within_trans h0 ?_
  unfold State.syncCfgErrs
  exact (within_each _ _ (Within.refl _) (fun _ _ => (State.syncCfgErr_within _ _ _ (msub rfl hm) (Within.refl _))))

theorem State.filtered_within {msk : Nat} {s00 : State} (s : State) (l : Lane) (c : Fin 64) (hm : 128 &&& msk = 128) (h0 : Within msk s00 s) :
    Within msk s00 (State.filtered s l c) := by
  refine within_trans h0 ?_
  unfold State.filtered
  exact (within_inc _ _ _ _ _ (fsub rfl hm) (within_set _ _ _ _ (fsub rfl hm) (Within.refl _)))

theorem State.report_within {msk : Nat} {s00 : State} (s : State) (l : Lane) (c : Fin 64) (r : EdgeReport) (x : Int) (hm : 0 &&& msk = 0) (h0 : Within msk s00 s) :
    Within msk s00 (State.report s l c r x) := by
  refine within_trans h0 ?_
  unfold State.report
  exact (State.modCh_within _ _ _ _ (msub rfl hm) (Within.refl _))

theorem State.dropEng_within {msk : Nat} {s00 : State} (s : State) (l : Lane) (c : Fin 64) (hm : 0 &&& msk = 0) (h0 : Within msk s00 s) :
    Within msk s00 (State.dropEng s l c) := by
  refine within_trans h0 ?_
  unfold State.dropEng
  split
  · exact (State.report_within _ _ _ _ _ (msub rfl hm) (State.modCh_within _ _ _ _ (msub rfl hm) (Within.refl _)))
  · exact (Within.refl _)

theorem State.tripMark_within {msk : Nat} {s00 : State} (s : State) (l : Lane) (c : Fin 64) (hm : 128 &&& msk = 128) (h0 : Within msk s00 s) :
    Within msk s00 (State.tripMark s l c) := by
  refine within_trans h0 ?_
  unfold State.tripMark
  exact (State.dropEng_within _ _ _ (msub rfl hm) (State.modCh_within _ _ _ _ (msub rfl hm) (within_set _ _ _ _ (fsub rfl hm) (Within.refl _))))

theorem State.tripAct_within {msk : Nat} {s00 : State} (s : State) (l : Lane) (g : Nat) (c : Fin 64) (hm : 171802886272 &&& msk = 171802886272) (h0 : Within msk s00 s) :
    Within msk s00 (State.tripAct s l g c) := by
  refine within_trans h0 ?_
  unfold State.tripAct
  lift_lets -useContext -merge -underBinder
  intro x0
  refine within_ite (fun _ => ?_) (fun _ => ?_)
  · exact (State.chOff_within _ _ _ (msub rfl hm) (Within.refl _))
  · refine within_ite (fun _ => ?_) (fun _ => ?_)
    · exact (State.follow_within _ _ _ _ (msub rfl hm) (State.setLevel_within _ _ _ _ _ (msub rfl hm) (Within.refl _)))
    · refine within_ite (fun _ => ?_) (fun _ => ?_)
      · exact (State.follow_within _ _ _ _ (msub rfl hm) (Within.refl _))
      · exact (State.chOff_within _ _ _ (msub rfl hm) (Within.refl _))

theorem State.tripCh_within {msk : Nat} {s00 : State} (s : State) (l : Lane) (g : Nat) (c : Fin 64) (hm : 171802886272 &&& msk = 171802886272) (h0 : Within msk s00 s) :
    Within msk s00 (State.tripCh s l g c) := by
  refine within_trans h0 ?_
  unfold State.tripCh
  exact (State.tripAct_within _ _ _ _ (msub rfl hm) (State.tripMark_within _ _ _ (msub rfl hm) (Within.refl _)))

theorem State.raiseTg_within {msk : Nat} {s00 : State} (s : State) (l : Lane) (g : Nat) (force : Bool) (hold : Bool) (hm : 171802886276 &&& msk = 171802886276) (h0 : Within msk s00 s) :
    Within msk s00 (State.raiseTg s l g force hold) := by
  refine within_trans h0 ?_
  unfold State.raiseTg
  lift_lets -useContext -merge -underBinder
  intro x0 x1
  try clear_value x1
  intro x2
  have hx2 : Within msk s x2 := (within_wrBit _ _ _ _ _ (fsub rfl hm) (Within.refl _))
  clear_value x2
  intro x3
  have hx3 : Within msk s x3 := (within_ite (fun _ => (within_wrBit _ _ _ _ _ (fsub rfl hm) hx2)) (fun _ => hx2))
  clear_value x3
  intro x4
  have hx4 : Within msk s x4 := (within_ite (fun _ => (within_wrBit _ _ _ _ _ (fsub rfl hm) hx3)) (fun _ => hx3))
  clear_value x4
  intro x5
  try clear_value x5
  intro x6
  have hx6 : Within msk s x6 := (within_each _ _ (within_each _ _ hx4 (fun _ _ => (State.tripMark_within _ _ _ (msub rfl hm) (Within.refl _)))) (fun _ _ => (State.tripAct_within _ _ _ _ (msub rfl hm) (Within.refl _))))
  clear_value x6
  refine within_ite (fun _ => ?_) (fun _ => ?_)
  · exact (State.logIf_within _ _ _ _ _ _ (msub rfl hm) (fsub rfl hm) (within_when _ _ (State.event_within _ _ _ (msub rfl hm) hx6) (fun _ => (State.irq_within _ _ _ _ (msub rfl hm) (fsub rfl hm) (Within.refl _)))))
  · exact hx6

theorem State.reach_within {msk : Nat} {s00 : State} (s : State) (l : Lane) (src : Nat) (hm : 171802886276 &&& msk = 171802886276) (h0 : Within msk s00 s) :
    Within msk s00 (State.reach s l src) := by
  refine within_trans h0 ?_
  unfold State.reach
  lift_lets -useContext -merge -underBinder
  intro x0
  try clear_value x0
  refine within_ite (fun _ => ?_) (fun _ => ?_)
  · exact (Within.refl _)
  · exact (within_each _ _ (within_wrBit _ _ _ _ _ (by unfold hitFld; split <;> exact fsub rfl hm) (Within.refl _)) (fun _ _ => (within_when _ _ (Within.refl _) (fun _ => (State.raiseTg_within _ _ _ _ _ (msub rfl hm) (Within.refl _))))))

theorem State.settleTg_within {msk : Nat} {s00 : State} (s : State) (l : Lane) (g : Nat) (hm : 128 &&& msk = 128) (h0 : Within msk s00 s) :
    Within msk s00 (State.settleTg s l g) := by
  refine within_trans h0 ?_
  unfold State.settleTg
  lift_lets -useContext -merge -underBinder
  intro x0
  refine within_ite (fun _ => ?_) (fun _ => ?_)
  · exact (within_wrBit _ _ _ _ _ (fsub rfl hm) (Within.refl _))
  · exact (Within.refl _)

theorem State.tripSource_within {msk : Nat} {s00 : State} (s : State) (l : Lane) (src : Nat) (active : Bool) (hm : 171802886276 &&& msk = 171802886276) (h0 : Within msk s00 s) :
    Within msk s00 (State.tripSource s l src active) := by
  refine within_trans h0 ?_
  unfold State.tripSource
  lift_lets -useContext -merge -underBinder
  intro x0
  try clear_value x0
  intro x1
  have hx1 : Within msk s x1 := (within_wrBit _ _ _ _ _ (by unfold srcFld; split <;> exact fsub rfl hm) (Within.refl _))
  clear_value x1
  refine within_ite (fun _ => ?_) (fun _ => ?_)
  · refine within_ite (fun _ => ?_) (fun _ => ?_)
    · exact hx1
    · refine within_ite (fun _ => ?_) (fun _ => ?_)
      · refine within_ite (fun _ => ?_) (fun _ => ?_)
        · exact hx1
        · exact (State.reach_within _ _ _ (msub rfl hm) hx1)
      · refine within_ite (fun _ => ?_) (fun _ => ?_)
        · exact (within_each _ _ hx1 (fun _ _ => (State.settleTg_within _ _ _ (msub rfl hm) (Within.refl _))))
        · exact hx1
  · exact (Within.refl _)

theorem State.tripsStart_within {msk : Nat} {s00 : State} (s : State) (l : Lane) (hm : 171802886276 &&& msk = 171802886276) (h0 : Within msk s00 s) :
    Within msk s00 (State.tripsStart s l) := by
  refine within_trans h0 ?_
  unfold State.tripsStart
  lift_lets -useContext -merge -underBinder
  intro x0
  have hx0 : Within msk s x0 := (within_each _ _ (Within.refl _) (fun _ _ => (within_when _ _ (Within.refl _) (fun _ => (within_wrBit _ _ _ _ _ (by unfold srcFld; split <;> exact fsub rfl hm) (Within.refl _))))))
  clear_value x0
  intro x4
  have hx4 : Within msk s x4 := (within_each _ _ hx0 (fun _ _ => (within_when _ _ (Within.refl _) (fun _ => (within_wrBit _ _ _ _ _ (by unfold srcFld; split <;> exact fsub rfl hm) (Within.refl _))))))
  clear_value x4
  exact (within_each _ _ hx4 (fun _ _ => (within_when _ _ (Within.refl _) (fun _ => (State.reach_within _ _ _ (msub rfl hm) (Within.refl _))))))

theorem State.releaseCh_within {msk : Nat} {s00 : State} (s : State) (l : Lane) (c : Fin 64) (hm : 171802886272 &&& msk = 171802886272) (h0 : Within msk s00 s) :
    Within msk s00 (State.releaseCh s l c) := by
  refine within_trans h0 ?_
  unfold State.releaseCh
  lift_lets -useContext -merge -underBinder
  intro x0 x1
  have hx1 : Within msk s x1 := (within_clr _ _ _ _ (fsub rfl hm) (Within.refl _))
  clear_value x1
  refine within_ite (fun _ => ?_) (fun _ => ?_)
  · split
    · exact hx1
    · lift_lets -useContext -merge -underBinder
      intro x2
      try clear_value x2
      exact (State.follow_within _ _ _ _ (msub rfl hm) (State.setLevel_within _ _ _ _ _ (msub rfl hm) hx1))
  · exact (State.modCh_within _ _ _ _ (msub rfl hm) (State.chOff_within _ _ _ (msub rfl hm) hx1))

theorem State.retrip_within {msk : Nat} {s00 : State} (s : State) (l : Lane) (c : Fin 64) (hm : 171802886272 &&& msk = 171802886272) (h0 : Within msk s00 s) :
    Within msk s00 (State.retrip s l c) := by
  refine within_trans h0 ?_
  unfold State.retrip
  lift_lets -useContext -merge -underBinder
  intro x0 x1
  try clear_value x1
  refine within_ite (fun _ => ?_) (fun _ => ?_)
  · exact (Within.refl _)
  · refine within_ite (fun _ => ?_) (fun _ => ?_)
    · refine within_ite (fun _ => ?_) (fun _ => ?_)
      · exact (State.tripAct_within _ _ _ _ (msub rfl hm) (Within.refl _))
      · exact (State.tripCh_within _ _ _ _ (msub rfl hm) (Within.refl _))
    · refine within_ite (fun _ => ?_) (fun _ => ?_)
      · exact (State.releaseCh_within _ _ _ (msub rfl hm) (Within.refl _))
      · exact (Within.refl _)

theorem State.clearTg_within {msk : Nat} {s00 : State} (s : State) (l : Lane) (g : Nat) (hm : 171802886272 &&& msk = 171802886272) (h0 : Within msk s00 s) :
    Within msk s00 (State.clearTg s l g) := by
  refine within_trans h0 ?_
  unfold State.clearTg
  lift_lets -useContext -merge -underBinder
  intro x0 x1
  have hx1 : Within msk s x1 := (within_wrBit _ _ _ _ _ (fsub rfl hm) (within_wrBit _ _ _ _ _ (fsub rfl hm) (Within.refl _)))
  clear_value x1
  intro x2
  have hx2 : Within msk s x2 := (within_wrBit _ _ _ _ _ (fsub rfl hm) hx1)
  clear_value x2
  refine within_ite (fun _ => ?_) (fun _ => ?_)
  · exact hx1
  · exact (within_each _ _ hx2 (fun _ _ => (within_when _ _ (Within.refl _) (fun _ => (State.releaseCh_within _ _ _ (msub rfl hm) (Within.refl _))))))

theorem State.overlap_within {msk : Nat} {s00 : State} (s : State) (l : Lane) (c k : Fin 64) (hm : 171802886276 &&& msk = 171802886276) (h0 : Within msk s00 s) :
    Within msk s00 (State.overlap s l c k) := by
  refine within_trans h0 ?_
  unfold State.overlap
  lift_lets -useContext -merge -underBinder
  intro x0 x1
  have hx1 : Within msk s x1 := (within_each _ _ (Within.refl _) (fun y2 y3 => (by
    lift_lets -useContext -merge -underBinder
    intro x4
    have hx4 : Within msk y2 x4 := (State.modCh_within _ _ _ _ (msub rfl hm) (within_inc _ _ _ _ _ (fsub rfl hm) (within_set _ _ _ _ (fsub rfl hm) (Within.refl _))))
    clear_value x4
    refine within_ite (fun _ => ?_) (fun _ => ?_)
    · exact (State.report_within _ _ _ _ _ (msub rfl hm) (State.modCh_within _ _ _ _ (msub rfl hm) hx4))
    · exact (State.modCh_within _ _ _ _ (msub rfl hm) hx4)
)))
  clear_value x1
  intro x5
  have hx5 : Within msk s x5 := (State.irq_within _ _ _ _ (msub rfl hm) (fsub rfl hm) hx1)
  clear_value x5
  refine within_ite (fun _ => ?_) (fun _ => ?_)
  · exact (State.raiseTg_within _ _ _ _ _ (msub rfl hm) (State.raiseTg_within _ _ _ _ _ (msub rfl hm) hx5))
  · exact hx5

theorem State.nextPoint_within {msk : Nat} {s00 : State} (s : State) (l : Lane) (t : Fin 8) (x : Int) (hm : 0 &&& msk = 0) (h0 : Within msk s00 s) :
    Within msk s00 (State.nextPoint s l t x) := by
  refine within_trans h0 ?_
  unfold State.nextPoint
  lift_lets -useContext -merge -underBinder
  intro x0
  try clear_value x0
  exact (State.modTb_within _ _ _ _ (msub rfl hm) (Within.refl _))

theorem State.compares_within {msk : Nat} {s00 : State} (s : State) (l : Lane) (t : Fin 8) (c : Fin 64) (hm : 4398046511104 &&& msk = 4398046511104) (h0 : Within msk s00 s) :
    Within1 msk s00 (State.compares s l t c) := by
  refine within1_trans h0 ?_
  unfold State.compares
  lift_lets -useContext -merge -underBinder
  intro x0 x1
  try clear_value x1
  intro x2
  try clear_value x2
  intro x3
  try clear_value x3
  intro x4
  have hx4 : Within1 msk s x4 := (State.roundQ_within _ _ _ (msub rfl hm) (Within.refl _))
  clear_value x4
  intro x5
  try clear_value x5
  intro x6
  have hx6 : Within msk s x6 := hx4.h
  clear_value x6
  intro x7
  have hx7 : Within1 msk s x7 := (State.roundQ_within _ _ _ (msub rfl hm) (Within.refl _))
  clear_value x7
  intro x8
  try clear_value x8
  intro x9
  have hx9 : Within msk s x9 := hx7.h
  clear_value x9
  refine within1_ite (fun _ => ?_) (fun _ => ?_)
  · refine within1_ite (fun _ => ?_) (fun _ => ?_)
    · exact ⟨Within.snd hx6⟩
    · exact ⟨Within.snd hx9⟩
  · exact ⟨Within.snd (Within.refl _)⟩

theorem State.clamped_within {msk : Nat} {s00 : State} (s : State) (l : Lane) (c : Fin 64) (hm : 128 &&& msk = 128) (h0 : Within msk s00 s) :
    Within msk s00 (State.clamped s l c) := by
  refine within_trans h0 ?_
  unfold State.clamped
  exact (State.irq_within _ _ _ _ (msub rfl hm) (fsub rfl hm) (within_inc _ _ _ _ _ (fsub rfl hm) (within_set _ _ _ _ (fsub rfl hm) (Within.refl _))))

theorem State.checkCmps_within {msk : Nat} {s00 : State} (s : State) (l : Lane) (t : Fin 8) (c : Fin 64) (vs : List Nat) (hm : 128 &&& msk = 128) (h0 : Within msk s00 s) :
    Within msk s00 (State.checkCmps s l t c vs) := by
  refine within_trans h0 ?_
  unfold State.checkCmps
  exact (within_each _ _ (Within.refl _) (fun _ _ => (within_when _ _ (Within.refl _) (fun _ => (State.clamped_within _ _ _ (msub rfl hm) (Within.refl _))))))

theorem State.placeEvents_within {msk : Nat} {s00 : State} (s : State) (l : Lane) (t : Fin 8) (peak : Bool) (c : Fin 64) (hm : 0 &&& msk = 0) (h0 : Within msk s00 s) :
    Within0 msk s00 (State.placeEvents s l t peak c) := by
  refine within0_trans h0 ?_
  unfold State.placeEvents
  lift_lets -useContext -merge -underBinder
  intro x0 x1
  try clear_value x1
  intro x2
  try clear_value x2
  intro x3
  try clear_value x3
  intro x4
  try clear_value x4
  intro x5
  try clear_value x5
  intro x6
  try clear_value x6
  intro x7
  try clear_value x7
  intro x8
  try clear_value x8
  exact ⟨Within.fst (State.modCh_within _ _ _ _ (msub rfl hm) (Within.refl _))⟩

theorem State.placeCh_within {msk : Nat} {s00 : State} (s : State) (l : Lane) (t : Fin 8) (peak : Bool) (x : Int) (c : Fin 64) (hm : 4398046511232 &&& msk = 4398046511232) (h0 : Within msk s00 s) :
    Within msk s00 (State.placeCh s l t peak x c) := by
  refine within_trans h0 ?_
  unfold State.placeCh
  lift_lets -useContext -merge -underBinder
  intro x0 x1
  try clear_value x1
  intro x2
  have hx2 : Within msk s x2 := (State.modCh_within _ _ _ _ (msub rfl hm) (Within.refl _))
  clear_value x2
  intro x3
  have hx3 : Within1 msk s x3 := (State.compares_within _ _ _ _ (msub rfl hm) hx2)
  clear_value x3
  intro x4
  try clear_value x4
  intro x5
  try clear_value x5
  intro x6
  have hx6 : Within msk s x6 := (State.modCh_within _ _ _ _ (msub rfl hm) hx3.h)
  clear_value x6
  intro x7
  have hx7 : Within msk s x7 := (within_when _ _ hx6 (fun _ => (State.checkCmps_within _ _ _ _ _ (msub rfl hm) (Within.refl _))))
  clear_value x7
  intro x9
  have hx9 : Within0 msk s x9 := (State.placeEvents_within _ _ _ _ _ (msub rfl hm) hx7)
  clear_value x9
  refine within_ite (fun _ => ?_) (fun _ => ?_)
  · refine within_ite (fun _ => ?_) (fun _ => ?_)
    · exact hx2
    · refine within_ite (fun _ => ?_) (fun _ => ?_)
      · exact (State.filtered_within _ _ _ (msub rfl hm) hx9.h)
      · exact hx9.h
  · exact (Within.refl _)

theorem State.mirrorCh_within {msk : Nat} {s00 : State} (s : State) (l : Lane) (t : Fin 8) (x : Int) (c : Fin 64) (hm : 4398046511104 &&& msk = 4398046511104) (h0 : Within msk s00 s) :
    Within msk s00 (State.mirrorCh s l t x c) := by
  refine within_trans h0 ?_
  unfold State.mirrorCh
  lift_lets -useContext -merge -underBinder
  intro x0
  try clear_value x0
  intro x1
  try clear_value x1
  intro x2
  try clear_value x2
  intro x3
  try clear_value x3
  intro x4
  have hx4 : Within1 msk s x4 := (State.roundQ_within _ _ _ (msub rfl hm) (Within.refl _))
  clear_value x4
  intro x5
  try clear_value x5
  intro x6
  try clear_value x6
  refine within_ite (fun _ => ?_) (fun _ => ?_)
  · exact (State.modCh_within _ _ _ _ (msub rfl hm) (within_ite (fun _ => (Within.refl _)) (fun _ => hx4.h)))
  · exact (Within.refl _)

theorem State.muxReport_within {msk : Nat} {s00 : State} (s : State) (l : Lane) (t : Fin 8) (hm : 68719476736 &&& msk = 68719476736) (h0 : Within msk s00 s) :
    Within msk s00 (State.muxReport s l t) := by
  refine within_trans h0 ?_
  unfold State.muxReport
  lift_lets -useContext -merge -underBinder
  intro x0 x1
  try clear_value x1
  intro x2
  try clear_value x2
  intro x3
  try clear_value x3
  refine within_ite (fun _ => ?_) (fun _ => ?_)
  · exact (Within.of_frame (Within.refl _) rfl rfl rfl (.inr rfl) (.inl (bsub rfl hm)) (.inr ⟨rfl, rfl⟩) (.inr rfl) (.inr rfl) (.inr rfl) (.inr rfl) (.inr rfl) (.inr ⟨rfl, rfl⟩))
  · exact (Within.refl _)

theorem State.planEvents_within {msk : Nat} {s00 : State} (s : State) (l : Lane) (t : Fin 8) (x : Int) (keep : Bool) (hm : 0 &&& msk = 0) (h0 : Within msk s00 s) :
    Within msk s00 (State.planEvents s l t x keep) := by
  refine within_trans h0 ?_
  unfold State.planEvents
  lift_lets -useContext -merge -underBinder
  intro x0
  exact (within_each _ _ (Within.refl _) (fun y1 y2 => (within_ite (fun _ => (by
    lift_lets -useContext -merge -underBinder
    intro x3
    try clear_value x3
    exact (State.modPwm_within _ _ _ (msub rfl hm) (Within.refl _))
)) (fun _ => (Within.refl _)))))

theorem State.fireEv_within {msk : Nat} {s00 : State} (s : State) (l : Lane) (k : Fin 8) (hm : 8796093022208 &&& msk = 8796093022208) (h0 : Within msk s00 s) :
    Within msk s00 (State.fireEv s l k) := by
  refine within_trans h0 ?_
  unfold State.fireEv
  split
  · exact (State.event_within _ _ _ (msub rfl hm) (State.modPwm_within _ _ _ (msub rfl hm) (State.advSteps_within _ _ (msub rfl hm) (Within.refl _))))
  · exact (Within.refl _)

theorem State.fireDue_within {msk : Nat} {s00 : State} (s : State) (l : Lane) (t : Fin 8) (x : Int) (hm : 8796093022208 &&& msk = 8796093022208) (h0 : Within msk s00 s) :
    Within msk s00 (State.fireDue s l t x) := by
  refine within_trans h0 ?_
  unfold State.fireDue
  exact (within_each _ _ (Within.refl _) (fun _ _ => (within_ite (fun _ => (within_each _ _ (Within.refl _) (fun _ _ => (State.fireEv_within _ _ _ (msub rfl hm) (Within.refl _))))) (fun _ => (Within.refl _)))))

theorem State.transferSet_within {msk : Nat} {s00 : State} (s : State) (l : Lane) (t : Fin 8) (hm : 128 &&& msk = 128) (h0 : Within msk s00 s) :
    Within msk s00 (State.transferSet s l t) := by
  refine within_trans h0 ?_
  unfold State.transferSet
  lift_lets -useContext -merge -underBinder
  intro x0 x1
  try clear_value x1
  intro x2
  try clear_value x2
  intro x3
  try clear_value x3
  intro x4
  have hx4 : Within msk s x4 := (within_wr _ _ _ _ _ (fsub rfl hm) (State.modTb_within _ _ _ _ (msub rfl hm) (Within.refl _)))
  clear_value x4
  intro x5
  have hx5 : Within msk s x5 := (within_each _ _ hx4 (fun y6 y7 => (within_ite (fun _ => (by
    lift_lets -useContext -merge -underBinder
    intro x8
    try clear_value x8
    intro x9
    try clear_value x9
    exact (State.checkCmps_within _ _ _ _ _ (msub rfl hm) (State.modCh_within _ _ _ _ (msub rfl hm) (Within.refl _)))
)) (fun _ => (Within.refl _)))))
  clear_value x5
  exact (within_inc _ _ _ _ _ (fsub rfl hm) (within_clr _ _ _ _ (fsub rfl hm) (within_clr _ _ _ _ (fsub rfl hm) hx5)))

theorem State.startTb_within {msk : Nat} {s00 : State} (s : State) (l : Lane) (t : Fin 8) (hm : 128 &&& msk = 128) (h0 : Within msk s00 s) :
    Within msk s00 (State.startTb s l t) := by
  refine within_trans h0 ?_
  unfold State.startTb
  lift_lets -useContext -merge -underBinder
  intro x0 x1
  try clear_value x1
  intro x2
  have hx2 : Within msk s x2 := (State.modTb_within _ _ _ _ (msub rfl hm) (Within.refl _))
  clear_value x2
  intro x3
  have hx3 : Within msk s x3 := (State.modTb_within _ _ _ _ (msub rfl hm) (State.transferSet_within _ _ _ (msub rfl hm) hx2))
  clear_value x3
  exact (State.planEvents_within _ _ _ _ _ (msub rfl hm) (within_wr _ _ _ _ _ (fsub rfl hm) (within_set _ _ _ _ (fsub rfl hm) hx3)))

theorem State.stopTb_within {msk : Nat} {s00 : State} (s : State) (l : Lane) (t : Fin 8) (hm : 128 &&& msk = 128) (h0 : Within msk s00 s) :
    Within msk s00 (State.stopTb s l t) := by
  refine within_trans h0 ?_
  unfold State.stopTb
  exact (State.planEvents_within _ _ _ _ _ (msub rfl hm) (within_clr _ _ _ _ (fsub rfl hm) (State.modTb_within _ _ _ _ (msub rfl hm) (Within.refl _))))

theorem State.enableCh_within {msk : Nat} {s00 : State} (s : State) (l : Lane) (c : Fin 64) (en : Bool) (hm : 171802886272 &&& msk = 171802886272) (h0 : Within msk s00 s) :
    Within msk s00 (State.enableCh s l c en) := by
  refine within_trans h0 ?_
  unfold State.enableCh
  lift_lets -useContext -merge -underBinder
  intro x0 x1
  have hx1 : Within msk s x1 := (State.chOff_within _ _ _ (msub rfl hm) (State.dropEng_within _ _ _ (msub rfl hm) (Within.refl _)))
  clear_value x1
  intro x2
  have hx2 : Within msk s x2 := (within_clr _ _ _ _ (fsub rfl hm) (State.modCh_within _ _ _ _ (msub rfl hm) (within_put _ _ _ _ _ (fsub rfl hm) hx1)))
  clear_value x2
  intro x3
  have hx3 : Within msk s x3 := (within_clr _ _ _ _ (fsub rfl hm) hx2)
  clear_value x3
  intro x4
  have hx4 : Within msk s x4 := (within_when _ _ hx3 (fun _ => (State.tripCh_within _ _ _ _ (msub rfl hm) (Within.refl _))))
  clear_value x4
  intro x6
  have hx6 : Within msk s x6 := (within_when _ _ hx4 (fun _ => (within_set _ _ _ _ (fsub rfl hm) (Within.refl _))))
  clear_value x6
  exact (State.syncCfgErrs_within _ _ (msub rfl hm) hx6)

theorem State.replaceTb_within {msk : Nat} {s00 : State} (s : State) (l : Lane) (t : Fin 8) (hm : 0 &&& msk = 0) (h0 : Within msk s00 s) :
    Within msk s00 (State.replaceTb s l t) := by
  refine within_trans h0 ?_
  unfold State.replaceTb
  lift_lets -useContext -merge -underBinder
  intro x0
  try clear_value x0
  intro x1
  exact (within_each _ _ (Within.refl _) (fun _ _ => (within_ite (fun _ => (State.modCh_within _ _ _ _ (msub rfl hm) (State.placeEvents_within _ _ _ _ _ (msub rfl hm) (Within.refl _)).h)) (fun _ => (Within.refl _)))))

theorem State.loadTb_within {msk : Nat} {s00 : State} (s : State) (l : Lane) (t : Fin 8) (pos : Nat) (falling : Bool) (hm : 0 &&& msk = 0) (h0 : Within msk s00 s) :
    Within msk s00 (State.loadTb s l t pos falling) := by
  refine within_trans h0 ?_
  unfold State.loadTb
  lift_lets -useContext -merge -underBinder
  intro x0
  try clear_value x0
  intro x1
  have hx1 : Within msk s x1 := (State.modTb_within _ _ _ _ (msub rfl hm) (Within.refl _))
  clear_value x1
  exact (State.planEvents_within _ _ _ _ _ (msub rfl hm) (State.replaceTb_within _ _ _ (msub rfl hm) hx1))


end Sys2Proof.Machine
end

