-- ==== Sys2Proof/Laws/WithinCeOps.lean ====
section
/-!
SUPPORT. The operations of Machine/CeOps.lean change nothing outside their masks (Laws/Within.lean).
-/
namespace Sys2Proof.Machine

theorem State.modBand_within {msk : Nat} {s00 : State} (s : State) (l : Lane) (n : Fin 32) (f : BandSt → BandSt) (hm : 0 &&& msk = 0) (h0 : Within msk s00 s) :
    Within msk s00 (State.modBand s l n f) := by
  refine within_trans h0 ?_
  unfold State.modBand
  exact (State.modCe_within _ _ _ (msub rfl hm) (Within.refl _))

theorem State.toSettle_within {msk : Nat} {s00 : State} (s : State) (l : Lane) (n : Fin 32) (hm : 64 &&& msk = 64) (h0 : Within msk s00 s) :
    Within msk s00 (State.toSettle s l n) := by
  refine within_trans h0 ?_
  unfold State.toSettle
  exact (within_wr _ _ _ _ _ (fsub rfl hm) (State.modBand_within _ _ _ _ (msub rfl hm) (Within.refl _)))

theorem State.bandTake_within {msk : Nat} {s00 : State} (s : State) (l : Lane) (n : Fin 32) (level : Bool) (hm : 64 &&& msk = 64) (h0 : Within msk s00 s) :
    Within msk s00 (State.bandTake s l n level) := by
  refine within_trans h0 ?_
  unfold State.bandTake
  lift_lets -useContext -merge -underBinder
  intro x0
  try clear_value x0
  intro x1
  have hx1 : Within msk s x1 := (within_put _ _ _ _ _ (fsub rfl hm) (Within.refl _))
  clear_value x1
  refine within_ite (fun _ => ?_) (fun _ => ?_)
  · exact (Within.refl _)
  · refine within_ite (fun _ => ?_) (fun _ => ?_)
    · exact hx1
    · exact (State.toSettle_within _ _ _ (msub rfl hm) hx1)

theorem State.modTrc_within {msk : Nat} {s00 : State} (s : State) (l : Lane) (b : Fin 8) (f : TrcBuf → TrcBuf) (hm : 1048576 &&& msk = 1048576) (h0 : Within msk s00 s) :
    Within msk s00 (State.modTrc s l b f) := by
  refine within_trans h0 ?_
  unfold State.modTrc
  lift_lets -useContext -merge -underBinder
  intro x0 x1
  have hx1 : Within msk s x1 := (State.modCe_within _ _ _ (msub rfl hm) (Within.refl _))
  clear_value x1
  intro x2
  try clear_value x2
  intro x3
  try clear_value x3
  intro x4
  try clear_value x4
  intro x5
  try clear_value x5
  exact (within_wr _ _ _ _ _ (fsub rfl hm) (within_wr _ _ _ _ _ (fsub rfl hm) (within_wr _ _ _ _ _ (fsub rfl hm) hx1)))

theorem State.putWord_within {msk : Nat} {s00 : State} (s : State) (l : Lane) (key v : Nat) (hm : 12884901888 &&& msk = 12884901888) (h0 : Within msk s00 s) :
    Within msk s00 (State.putWord s l key v) := by
  refine within_trans h0 ?_
  unfold State.putWord
  exact (within_modRunMem _ _ (msub rfl hm) (Within.refl _))

theorem State.trcStore_within {msk : Nat} {s00 : State} (s : State) (l : Lane) (b : Fin 8) (v : Nat) (hm : 12885950464 &&& msk = 12885950464) (h0 : Within msk s00 s) :
    Within msk s00 (State.trcStore s l b v) := by
  refine within_trans h0 ?_
  unfold State.trcStore
  lift_lets -useContext -merge -underBinder
  intro x0
  try clear_value x0
  intro x1
  try clear_value x1
  intro x2
  have hx2 : Within msk s x2 := (within_ite (fun _ => (State.putWord_within _ _ _ _ (msub rfl hm) (State.putWord_within _ _ _ _ (msub rfl hm) (Within.refl _)))) (fun _ => (State.putWord_within _ _ _ _ (msub rfl hm) (Within.refl _))))
  clear_value x2
  intro x3
  try clear_value x3
  exact (State.modTrc_within _ _ _ _ (msub rfl hm) hx2)

theorem State.traceLevel_within {msk : Nat} {s00 : State} (s : State) (l : Lane) (code : Nat) (v : Int) (hm : 0 &&& msk = 0) (h0 : Within msk s00 s) :
    Within msk s00 (State.traceLevel s l code v) := by
  refine within_trans h0 ?_
  unfold State.traceLevel
  exact (within_each _ _ (Within.refl _) (fun y0 y1 => (by
    lift_lets -useContext -merge -underBinder
    intro x2 x3
    try clear_value x3
    exact (within_when _ _ (Within.refl _) (fun y4 => (by
      lift_lets -useContext -merge -underBinder
      intro x5
      try clear_value x5
      exact (within_when _ _ (State.modCe_within _ _ _ (msub rfl hm) (Within.refl _)) (fun _ => (State.trcSend_within _ _ _ (msub rfl hm) (Within.refl _))))
)))
)))

theorem State.traceUpdate_within {msk : Nat} {s00 : State} (s : State) (l : Lane) (probe v : Nat) (hm : 12885950464 &&& msk = 12885950464) (h0 : Within msk s00 s) :
    Within msk s00 (State.traceUpdate s l probe v) := by
  refine within_trans h0 ?_
  unfold State.traceUpdate
  exact (within_each _ _ (Within.refl _) (fun y0 y1 => (by
    lift_lets -useContext -merge -underBinder
    intro x2 x3
    try clear_value x3
    refine within_ite (fun _ => ?_) (fun _ => ?_)
    · refine within_ite (fun _ => ?_) (fun _ => ?_)
      · exact (State.trcStore_within _ _ _ _ (msub rfl hm) (State.modTrc_within _ _ _ _ (msub rfl hm) (Within.refl _)))
      · exact (State.modTrc_within _ _ _ _ (msub rfl hm) (Within.refl _))
    · exact (Within.refl _)
)))

theorem State.bandUpdate_within {msk : Nat} {s00 : State} (s : State) (l : Lane) (code : Nat) (hm : 0 &&& msk = 0) (h0 : Within msk s00 s) :
    Within msk s00 (State.bandUpdate s l code) := by
  refine within_trans h0 ?_
  unfold State.bandUpdate
  exact (within_each _ _ (Within.refl _) (fun _ _ => (within_when _ _ (Within.refl _) (fun _ => (State.modBand_within _ _ _ _ (msub rfl hm) (Within.refl _))))))

theorem State.ceSource_within {msk : Nat} {s00 : State} (s : State) (l : Lane) (code : Nat) (v : Int) (valid : Bool) (hm : 12885950464 &&& msk = 12885950464) (h0 : Within msk s00 s) :
    Within msk s00 (State.ceSource s l code v valid) := by
  refine within_trans h0 ?_
  unfold State.ceSource
  exact (State.bandUpdate_within _ _ _ (msub rfl hm) (State.traceLevel_within _ _ _ _ (msub rfl hm) (State.traceUpdate_within _ _ _ _ (msub rfl hm) (within_when _ _ (Within.refl _) (fun _ => (State.modCe_within _ _ _ (msub rfl hm) (Within.refl _)))))))


end Sys2Proof.Machine
end

