-- ==== Sys2Proof/Laws/WithinAdcOps.lean ====
section
/-!
SUPPORT. The operations of Machine/AdcOps.lean change nothing outside their masks (Laws/Within.lean).
-/
namespace Sys2Proof.Machine

theorem State.modSdf_within {msk : Nat} {s00 : State} (s : State) (l : Lane) (n : Fin 12) (f : SdfSt → SdfSt) (hm : 0 &&& msk = 0) (h0 : Within msk s00 s) :
    Within msk s00 (State.modSdf s l n f) := by
  refine within_trans h0 ?_
  unfold State.modSdf
  exact (within_modRun _ _ (Within.refl _) fun _ => ⟨rfl, rfl⟩)

theorem State.modCorr_within {msk : Nat} {s00 : State} (s : State) (l : Lane) (k : Nat) (f : Corr → Corr) (hm : 0 &&& msk = 0) (h0 : Within msk s00 s) :
    Within msk s00 (State.modCorr s l k f) := by
  refine within_trans h0 ?_
  unfold State.modCorr
  refine within_ite (fun _ => ?_) (fun _ => ?_)
  · exact (State.modAdc_within _ _ _ (msub rfl hm) (Within.refl _))
  · exact (State.modSdf_within _ _ _ _ (msub rfl hm) (Within.refl _))

theorem State.startMove_within {msk : Nat} {s00 : State} (s : State) (l : Lane) (k env newBound : Nat) (hm : 24 &&& msk = 24) (h0 : Within msk s00 s) :
    Within msk s00 (State.startMove s l k env newBound) := by
  refine within_trans h0 ?_
  unfold State.startMove
  lift_lets -useContext -merge -underBinder
  intro x0 x1 x2
  try clear_value x2
  intro x3
  try clear_value x3
  intro x4
  try clear_value x4
  exact (within_wrSat _ _ _ _ _ (by unfold x0 corrRegs; split <;> dsimp only <;> exact fsub rfl hm) (within_set _ _ _ _ (by unfold x0 corrRegs; split <;> dsimp only <;> exact fsub rfl hm) (within_wr _ _ _ _ _ (by unfold x0 corrRegs; split <;> dsimp only <;> exact fsub rfl hm) (State.modCorr_within _ _ _ _ (msub rfl hm) (Within.refl _)))))

theorem State.moveStep_within {msk : Nat} {s00 : State} (s : State) (l : Lane) (k : Nat) (hm : 4398046511128 &&& msk = 4398046511128) (h0 : Within msk s00 s) :
    Within msk s00 (State.moveStep s l k) := by
  refine within_trans h0 ?_
  unfold State.moveStep
  lift_lets -useContext -merge -underBinder
  intro x0 x1
  split
  · exact (Within.refl _)
  · lift_lets -useContext -merge -underBinder
    intro x2
    try clear_value x2
    intro x3
    have hx3 : Within1 msk s x3 := (State.quot_within _ _ _ (msub rfl hm) (Within.refl _))
    clear_value x3
    intro x4
    try clear_value x4
    intro x5
    have hx5 : Within msk s x5 := hx3.h
    clear_value x5
    intro x6
    have hx6 : Within1 msk s x6 := (State.quot_within _ _ _ (msub rfl hm) hx5)
    clear_value x6
    intro x7
    try clear_value x7
    intro x8
    have hx8 : Within msk s x8 := hx6.h
    clear_value x8
    intro x9
    have hx9 : Within msk s x9 := (within_wrS _ _ _ _ _ (by unfold x0 corrRegs; split <;> dsimp only <;> exact fsub rfl hm) (within_wrS _ _ _ _ _ (by unfold x0 corrRegs; split <;> dsimp only <;> exact fsub rfl hm) hx8))
    clear_value x9
    refine within_ite (fun _ => ?_) (fun _ => ?_)
    · exact (within_wrSat _ _ _ _ _ (by unfold x0 corrRegs; split <;> dsimp only <;> exact fsub rfl hm) (within_clr _ _ _ _ (by unfold x0 corrRegs; split <;> dsimp only <;> exact fsub rfl hm) (State.modCorr_within _ _ _ _ (msub rfl hm) hx9)))
    · exact (State.modCorr_within _ _ _ _ (msub rfl hm) hx9)

theorem State.corrWrite_within {msk : Nat} {s00 : State} (s : State) (l : Lane) (k gain offset : Nat) (hm : 24 &&& msk = 24) (h0 : Within msk s00 s) :
    Within msk s00 (State.corrWrite s l k gain offset) := by
  refine within_trans h0 ?_
  unfold State.corrWrite
  lift_lets -useContext -merge -underBinder
  intro x0 x1 x2
  have hx2 : Within msk s x2 := (within_wr _ _ _ _ _ (by unfold x0 corrRegs; split <;> dsimp only <;> exact fsub rfl hm) (within_wr _ _ _ _ _ (by unfold x0 corrRegs; split <;> dsimp only <;> exact fsub rfl hm) (Within.refl _)))
  clear_value x2
  exact (State.startMove_within _ _ _ _ _ (msub rfl hm) (State.modCorr_within _ _ _ _ (msub rfl hm) hx2))

theorem State.outsideBound_within {msk : Nat} {s00 : State} (s : State) (e0 : Nat) (r : Int × Int) (hm : 4398046511104 &&& msk = 4398046511104) (h0 : Within msk s00 s) :
    Within1 msk s00 (State.outsideBound s e0 r) := by
  refine within1_trans h0 ?_
  unfold State.outsideBound
  lift_lets -useContext -merge -underBinder
  intro x0
  have hx0 : Within1 msk s x0 := (State.quot_within _ _ _ (msub rfl hm) (Within.refl _))
  clear_value x0
  intro x1
  try clear_value x1
  intro x2
  have hx2 : Within msk s x2 := hx0.h
  clear_value x2
  exact ⟨Within.snd hx2⟩

theorem State.setBound_within {msk : Nat} {s00 : State} (s : State) (l : Lane) (k b : Nat) (hm : 24 &&& msk = 24) (h0 : Within msk s00 s) :
    Within msk s00 (State.setBound s l k b) := by
  refine within_trans h0 ?_
  unfold State.setBound
  lift_lets -useContext -merge -underBinder
  intro x0
  split
  · exact (within_wrSat _ _ _ _ _ (by unfold x0 corrRegs; split <;> dsimp only <;> exact fsub rfl hm) (Within.refl _))
  · exact (within_wrSat _ _ _ _ _ (by unfold x0 corrRegs; split <;> dsimp only <;> exact fsub rfl hm) (State.modCorr_within _ _ _ _ (msub rfl hm) (Within.refl _)))

theorem State.evalEnv_within {msk : Nat} {s00 : State} (s : State) (l : Lane) (k : Nat) (hm : 4398046511132 &&& msk = 4398046511132) (h0 : Within msk s00 s) :
    Within msk s00 (State.evalEnv s l k) := by
  refine within_trans h0 ?_
  unfold State.evalEnv
  lift_lets -useContext -merge -underBinder
  intro x0 x1
  split
  · exact (Within.refl _)
  · lift_lets -useContext -merge -underBinder
    intro x2
    try clear_value x2
    intro x3
    try clear_value x3
    intro x4
    try clear_value x4
    intro x5
    try clear_value x5
    intro x6
    try clear_value x6
    intro x7
    try clear_value x7
    intro x8
    try clear_value x8
    intro x9
    try clear_value x9
    intro x10
    have hx10 : Within1 msk s x10 := (State.outsideBound_within _ _ _ (msub rfl hm) (Within.refl _))
    clear_value x10
    intro x11
    try clear_value x11
    intro x12
    have hx12 : Within msk s x12 := hx10.h
    clear_value x12
    intro x13
    have hx13 : Within msk s x13 := (State.startMove_within _ _ _ _ _ (msub rfl hm) (Within.refl _))
    clear_value x13
    intro x14
    have hx14 : Within1 msk s x14 := (State.outsideBound_within _ _ _ (msub rfl hm) (Within.refl _))
    clear_value x14
    intro x15
    try clear_value x15
    intro x16
    have hx16 : Within msk s x16 := hx14.h
    clear_value x16
    intro x17
    have hx17 : Within1 msk s x17 := (State.outsideBound_within _ _ _ (msub rfl hm) (Within.refl _))
    clear_value x17
    intro x18
    try clear_value x18
    intro x19
    have hx19 : Within msk s x19 := hx17.h
    clear_value x19
    refine within_ite (fun _ => ?_) (fun _ => ?_)
    · refine within_ite (fun _ => ?_) (fun _ => ?_)
      · exact (State.setBound_within _ _ _ _ (msub rfl hm) (within_wr _ _ _ _ _ (by unfold x0 corrRegs; split <;> dsimp only <;> exact fsub rfl hm) hx12))
      · exact (Within.refl _)
    · refine within_ite (fun _ => ?_) (fun _ => ?_)
      · refine within_ite (fun _ => ?_) (fun _ => ?_)
        · exact (State.setBound_within _ _ _ _ (msub rfl hm) (within_wr _ _ _ _ _ (by unfold x0 corrRegs; split <;> dsimp only <;> exact fsub rfl hm) (Within.refl _)))
        · refine within_ite (fun _ => ?_) (fun _ => ?_)
          · exact (State.irq_within _ _ _ _ (msub rfl hm) (fsub rfl hm) (within_set _ _ _ _ (fsub rfl hm) (within_inc _ _ _ _ _ (fsub rfl hm) (State.log_within _ _ _ _ (msub rfl hm) hx13))))
          · exact (State.setBound_within _ _ _ _ (msub rfl hm) hx16)
      · refine within_ite (fun _ => ?_) (fun _ => ?_)
        · refine within_ite (fun _ => ?_) (fun _ => ?_)
          · exact (State.log_within _ _ _ _ (msub rfl hm) (State.startMove_within _ _ _ _ _ (msub rfl hm) hx19))
          · exact (Within.refl _)
        · exact (Within.refl _)

theorem State.adcBoundary_within {msk : Nat} {s00 : State} (s : State) (l : Lane) (hm : 4398046511132 &&& msk = 4398046511132) (h0 : Within msk s00 s) :
    Within msk s00 (State.adcBoundary s l) := by
  refine within_trans h0 ?_
  unfold State.adcBoundary
  lift_lets -useContext -merge -underBinder
  intro x0 x1
  have hx1 : Within msk s x1 := (within_each _ _ (Within.refl _) (fun _ _ => (State.moveStep_within _ _ _ (msub rfl hm) (Within.refl _))))
  clear_value x1
  intro x4
  try clear_value x4
  intro x5
  try clear_value x5
  intro x6
  try clear_value x6
  intro x7
  try clear_value x7
  intro x8
  have hx8 : Within1 msk s x8 := (State.quot_within _ _ _ (msub rfl hm) hx1)
  clear_value x8
  intro x9
  try clear_value x9
  intro x10
  have hx10 : Within msk s x10 := hx8.h
  clear_value x10
  intro x11
  have hx11 : Within msk s x11 := (within_wr _ _ _ _ _ (fsub rfl hm) (within_wrSat _ _ _ _ _ (fsub rfl hm) (within_wr _ _ _ _ _ (fsub rfl hm) hx10)))
  clear_value x11
  refine within_ite (fun _ => ?_) (fun _ => ?_)
  · exact (within_each _ _ hx11 (fun _ _ => (State.evalEnv_within _ _ _ (msub rfl hm) (Within.refl _))))
  · exact hx1

theorem State.loadRecord_within {msk : Nat} {s00 : State} (s : State) (l : Lane) (x : CalRecord) (hm : 24 &&& msk = 24) (h0 : Within msk s00 s) :
    Within msk s00 (State.loadRecord s l x) := by
  refine within_trans h0 ?_
  unfold State.loadRecord
  exact (State.startMove_within _ _ _ _ _ (msub rfl hm) (State.modCorr_within _ _ _ _ (msub rfl hm) (Within.refl _)))

theorem State.loadFactory_within {msk : Nat} {s00 : State} (s : State) (l : Lane) (k : Nat) (hm : 24 &&& msk = 24) (h0 : Within msk s00 s) :
    Within msk s00 (State.loadFactory s l k) := by
  refine within_trans h0 ?_
  unfold State.loadFactory
  lift_lets -useContext -merge -underBinder
  intro x0 x1 x2
  have hx2 : Within msk s x2 := (within_wr _ _ _ _ _ (by unfold x0 corrRegs; split <;> dsimp only <;> exact fsub rfl hm) (within_wr _ _ _ _ _ (by unfold x0 corrRegs; split <;> dsimp only <;> exact fsub rfl hm) (Within.refl _)))
  clear_value x2
  intro x3
  have hx3 : Within msk s x3 := (within_wr _ _ _ _ _ (by unfold x0 corrRegs; split <;> dsimp only <;> exact fsub rfl hm) (within_wr _ _ _ _ _ (by unfold x0 corrRegs; split <;> dsimp only <;> exact fsub rfl hm) hx2))
  clear_value x3
  exact (within_wr _ _ _ _ _ (by unfold x0 corrRegs; split <;> dsimp only <;> exact fsub rfl hm) (within_wr _ _ _ _ _ (by unfold x0 corrRegs; split <;> dsimp only <;> exact fsub rfl hm) (State.modCorr_within _ _ _ _ (msub rfl hm) hx3)))

theorem State.correct_within {msk : Nat} {s00 : State} (s : State) (l : Lane) (c : Nat) (y : Int) (hm : 4398046511104 &&& msk = 4398046511104) (h0 : Within msk s00 s) :
    Within1 msk s00 (State.correct s l c y) := by
  refine within1_trans h0 ?_
  unfold State.correct
  lift_lets -useContext -merge -underBinder
  intro x0 x1
  have hx1 : Within1 msk s x1 := (State.quot_within _ _ _ (msub rfl hm) (Within.refl _))
  clear_value x1
  intro x2
  try clear_value x2
  intro x3
  have hx3 : Within msk s x3 := hx1.h
  clear_value x3
  exact ⟨Within.snd hx3⟩

theorem State.modRes_within {msk : Nat} {s00 : State} (s : State) (l : Lane) (n : Fin 2) (f : ResSt → ResSt) (hm : 0 &&& msk = 0) (h0 : Within msk s00 s) :
    Within msk s00 (State.modRes s l n f) := by
  refine within_trans h0 ?_
  unfold State.modRes
  exact (within_modRun _ _ (Within.refl _) fun _ => ⟨rfl, rfl⟩)

theorem State.resSample_within {msk : Nat} {s00 : State} (s : State) (l : Lane) (g : Fin 12) (slice raw : Nat) (hm : 0 &&& msk = 0) (h0 : Within msk s00 s) :
    Within msk s00 (State.resSample s l g slice raw) := by
  refine within_trans h0 ?_
  unfold State.resSample
  lift_lets -useContext -merge -underBinder
  intro x0 x1
  try clear_value x1
  intro x2
  try clear_value x2
  intro x3
  try clear_value x3
  intro x4
  have hx4 : Within msk s x4 := (State.modGrp_within _ _ _ _ (msub rfl hm) (Within.refl _))
  clear_value x4
  exact (within_each _ _ hx4 (fun y5 y6 => (within_when _ _ (Within.refl _) (fun y7 => (by
    lift_lets -useContext -merge -underBinder
    intro x8
    try clear_value x8
    exact (State.modRes_within _ _ _ _ (msub rfl hm) (Within.refl _))
)))))

theorem State.pushQ11_within {msk : Nat} {s00 : State} (s : State) (l : Lane) (e stamp : Nat) (hm : 12 &&& msk = 12) (h0 : Within msk s00 s) :
    Within msk s00 (State.pushQ11 s l e stamp) := by
  refine within_trans h0 ?_
  unfold State.pushQ11
  lift_lets -useContext -merge -underBinder
  intro x0
  try clear_value x0
  refine within_ite (fun _ => ?_) (fun _ => ?_)
  · exact (within_inc _ _ _ _ _ (fsub rfl hm) (within_set _ _ _ _ (fsub rfl hm) (State.modAdc_within _ _ _ (msub rfl hm) (Within.refl _))))
  · exact (State.modAdc_within _ _ _ (msub rfl hm) (Within.refl _))

theorem State.pushQ12_within {msk : Nat} {s00 : State} (s : State) (l : Lane) (e stamp : Nat) (hm : 12 &&& msk = 12) (h0 : Within msk s00 s) :
    Within msk s00 (State.pushQ12 s l e stamp) := by
  refine within_trans h0 ?_
  unfold State.pushQ12
  lift_lets -useContext -merge -underBinder
  intro x0
  try clear_value x0
  refine within_ite (fun _ => ?_) (fun _ => ?_)
  · exact (within_inc _ _ _ _ _ (fsub rfl hm) (within_set _ _ _ _ (fsub rfl hm) (State.modAdc_within _ _ _ (msub rfl hm) (Within.refl _))))
  · exact (State.irq_within _ _ _ _ (msub rfl hm) (fsub rfl hm) (State.modAdc_within _ _ _ (msub rfl hm) (Within.refl _)))

theorem State.pdFault_within {msk : Nat} {s00 : State} (s : State) (l : Lane) (n : Fin 16) (hm : 171802886276 &&& msk = 171802886276) (h0 : Within msk s00 s) :
    Within msk s00 (State.pdFault s l n) := by
  refine within_trans h0 ?_
  unfold State.pdFault
  exact (State.tripSource_within _ _ _ _ (msub rfl hm) (State.irqOf_within _ _ _ _ _ (msub rfl hm) (fsub rfl hm) (within_wrBit _ _ _ _ _ (fsub rfl hm) (Within.refl _))))

theorem State.shortDetect_within {msk : Nat} {s00 : State} (s : State) (l : Lane) (n : Fin 16) (c : Nat) (z : Int) (stamp : Nat) (hm : 171802886276 &&& msk = 171802886276) (h0 : Within msk s00 s) :
    Within msk s00 (State.shortDetect s l n c z stamp) := by
  refine within_trans h0 ?_
  unfold State.shortDetect
  lift_lets -useContext -merge -underBinder
  intro x0 x1
  try clear_value x1
  intro x2
  try clear_value x2
  intro x3
  try clear_value x3
  intro x4
  have hx4 : Within msk s x4 := (State.modHb_within _ _ _ _ (msub rfl hm) (Within.refl _))
  clear_value x4
  refine within_ite (fun _ => ?_) (fun _ => ?_)
  · split
    · lift_lets -useContext -merge -underBinder
      intro x5
      try clear_value x5
      intro x6
      try clear_value x6
      intro x7
      try clear_value x7
      intro x8
      try clear_value x8
      intro x9
      have hx9 : Within msk s x9 := (State.pdOff_within _ _ _ _ (msub rfl hm) (State.pdOff_within _ _ _ _ (msub rfl hm) hx4))
      clear_value x9
      refine within_ite (fun _ => ?_) (fun _ => ?_)
      · exact (State.pdFault_within _ _ _ (msub rfl hm) (within_set _ _ _ _ (fsub rfl hm) (State.modHb_within _ _ _ _ (msub rfl hm) hx9)))
      · exact hx4
    · exact hx4
  · exact (Within.refl _)

theorem State.sdfTrip_within {msk : Nat} {s00 : State} (s : State) (l : Lane) (n : Fin 12) (hi lo : Bool) (hm : 171802886292 &&& msk = 171802886292) (h0 : Within msk s00 s) :
    Within msk s00 (State.sdfTrip s l n hi lo) := by
  refine within_trans h0 ?_
  unfold State.sdfTrip
  lift_lets -useContext -merge -underBinder
  intro x0 x1
  have hx1 : Within msk s x1 := (within_put _ _ _ _ _ (fsub rfl hm) (within_put _ _ _ _ _ (fsub rfl hm) (Within.refl _)))
  clear_value x1
  exact (State.tripSource_within _ _ _ _ (msub rfl hm) (State.tripSource_within _ _ _ _ (msub rfl hm) (within_wrBit _ _ _ _ _ (fsub rfl hm) hx1)))

theorem State.sdfFault_within {msk : Nat} {s00 : State} (s : State) (l : Lane) (n : Fin 12) (flag : Fld) (hm : 171802886292 &&& msk = 171802886292) (hg3 : flag.inM msk = true) (h0 : Within msk s00 s) :
    Within msk s00 (State.sdfFault s l n flag) := by
  refine within_trans h0 ?_
  unfold State.sdfFault
  lift_lets -useContext -merge -underBinder
  intro x0 x1
  have hx1 : Within msk s x1 := (within_wrBit _ _ _ _ _ (fsub rfl hm) (within_clr _ _ _ _ (fsub rfl hm) (within_set _ _ _ _ hg3 (Within.refl _))))
  clear_value x1
  exact (State.tripSource_within _ _ _ _ (msub rfl hm) (State.sdfTrip_within _ _ _ _ _ (msub rfl hm) hx1))

theorem State.sdfCleared_within {msk : Nat} {s00 : State} (s : State) (l : Lane) (n : Fin 12) (hm : 171802886292 &&& msk = 171802886292) (h0 : Within msk s00 s) :
    Within msk s00 (State.sdfCleared s l n) := by
  refine within_trans h0 ?_
  unfold State.sdfCleared
  lift_lets -useContext -merge -underBinder
  intro x0
  refine within_ite (fun _ => ?_) (fun _ => ?_)
  · exact (Within.refl _)
  · exact (State.tripSource_within _ _ _ _ (msub rfl hm) (within_wrBit _ _ _ _ _ (fsub rfl hm) (Within.refl _)))


end Sys2Proof.Machine
end

