-- ==== Sys2Proof/Laws/WithinMedia.lean ====
section
/-!
SUPPORT. The operations of Machine/Media.lean change nothing outside their masks (Laws/Within.lean).
-/
namespace Sys2Proof.Machine

theorem State.norProgram_within {msk : Nat} {s00 : State} (s : State) (l : Lane) (off : Nat) (bs : List Nat) (hm : 17179869184 &&& msk = 17179869184) (h0 : Within msk s00 s) :
    Within msk s00 (State.norProgram s l off bs) := by
  refine within_trans h0 ?_
  unfold State.norProgram
  exact (within_modNv _ _ (msub rfl hm) (Within.refl _))

theorem State.emmcProgram_within {msk : Nat} {s00 : State} (s : State) (l : Lane) (off : Nat) (bs : List Nat) (hm : 17179869184 &&& msk = 17179869184) (h0 : Within msk s00 s) :
    Within msk s00 (State.emmcProgram s l off bs) := by
  refine within_trans h0 ?_
  unfold State.emmcProgram
  exact (within_modNv _ _ (msub rfl hm) (Within.refl _))

theorem State.norErase_within {msk : Nat} {s00 : State} (s : State) (l : Lane) (from_ to_ : Nat) (hm : 17179869184 &&& msk = 17179869184) (h0 : Within msk s00 s) :
    Within msk s00 (State.norErase s l from_ to_) := by
  refine within_trans h0 ?_
  unfold State.norErase
  exact (within_modNv _ _ (msub rfl hm) (Within.refl _))

theorem State.keyWrap_within {msk : Nat} {s00 : State} (s : State) (l : Lane) (b : Fin 2) (hm : 17179869184 &&& msk = 17179869184) (h0 : Within msk s00 s) :
    Within msk s00 (State.keyWrap s l b) := by
  refine within_trans h0 ?_
  unfold State.keyWrap
  exact (State.emmcProgram_within _ _ _ _ (msub rfl hm) (Within.refl _))


end Sys2Proof.Machine
end

