-- ==== Sys2Proof/Laws/WithinNrgOps.lean ====
section
/-!
SUPPORT. The operations of Machine/NrgOps.lean change nothing outside their masks (Laws/Within.lean).
-/
namespace Sys2Proof.Machine

theorem State.modNrg_within {msk : Nat} {s00 : State} (s : State) (l : Lane) (f : NrgSt → NrgSt) (hm : 0 &&& msk = 0) (h0 : Within msk s00 s) :
    Within msk s00 (State.modNrg s l f) := by
  refine within_trans h0 ?_
  unfold State.modNrg
  exact (within_modRun _ _ (Within.refl _) fun _ => ⟨rfl, rfl⟩)

theorem State.setK3_within {msk : Nat} {s00 : State} (s : State) (l : Lane) (slot : Nat) (v : Nat) (hm : 64 &&& msk = 64) (h0 : Within msk s00 s) :
    Within msk s00 (State.setK3 s l slot v) := by
  refine within_trans h0 ?_
  unfold State.setK3
  exact (within_wr _ _ _ _ _ (fsub rfl hm) (Within.refl _))

theorem State.obcGo_within {msk : Nat} {s00 : State} (s : State) (l : Lane) (st : Nat) (hm : 1024 &&& msk = 1024) (h0 : Within msk s00 s) :
    Within msk s00 (State.obcGo s l st) := by
  refine within_trans h0 ?_
  unfold State.obcGo
  exact (State.modNrg_within _ _ _ (msub rfl hm) (within_wr _ _ _ _ _ (fsub rfl hm) (Within.refl _)))

theorem State.plimStep_within {msk : Nat} {s00 : State} (s : State) (l : Lane) (hm : 1024 &&& msk = 1024) (h0 : Within msk s00 s) :
    Within msk s00 (State.plimStep s l) := by
  refine within_trans h0 ?_
  unfold State.plimStep
  lift_lets -useContext -merge -underBinder
  intro x0 x1
  try clear_value x1
  intro x2
  try clear_value x2
  intro x3
  try clear_value x3
  intro x4
  try clear_value x4
  intro x5
  try clear_value x5
  intro x6
  try clear_value x6
  intro x7
  try clear_value x7
  intro x8
  have hx8 : Within msk s x8 := (State.modNrg_within _ _ _ (msub rfl hm) (Within.refl _))
  clear_value x8
  intro x9
  have hx9 : Within msk s x9 := (within_put _ _ _ _ _ (fsub rfl hm) (within_wrSat _ _ _ _ _ (fsub rfl hm) hx8))
  clear_value x9
  exact (within_put _ _ _ _ _ (fsub rfl hm) (within_put _ _ _ _ _ (fsub rfl hm) (within_put _ _ _ _ _ (fsub rfl hm) (within_wr _ _ _ _ _ (fsub rfl hm) hx9))))

theorem State.plimZero_within {msk : Nat} {s00 : State} (s : State) (l : Lane) (hm : 1024 &&& msk = 1024) (h0 : Within msk s00 s) :
    Within msk s00 (State.plimZero s l) := by
  refine within_trans h0 ?_
  unfold State.plimZero
  exact (State.plimStep_within _ _ (msub rfl hm) (State.modNrg_within _ _ _ (msub rfl hm) (Within.refl _)))


end Sys2Proof.Machine
end

