-- ==== Sys2Proof/Laws/WithinSoOps.lean ====
section
/-!
SUPPORT. The operations of Machine/SoOps.lean change nothing outside their masks (Laws/Within.lean).
-/
namespace Sys2Proof.Machine

theorem State.closeSo_within {msk : Nat} {s00 : State} (s : State) (k : Fin 12) (hm : 274880004096 &&& msk = 274880004096) (h0 : Within msk s00 s) :
    Within1 msk s00 (State.closeSo s k) := by
  refine within1_trans h0 ?_
  unfold State.closeSo
  lift_lets -useContext -merge -underBinder
  intro x0
  try clear_value x0
  intro x1
  have hx1 : Within msk s x1 := (State.soSet_within _ _ _ _ (msub rfl hm) (Within.refl _))
  clear_value x1
  refine within1_ite (fun _ => ?_) (fun _ => ?_)
  · exact ⟨Within.snd (Within.refl _)⟩
  · refine within1_ite (fun _ => ?_) (fun _ => ?_)
    · exact ⟨Within.snd (within_set _ _ _ _ (fsub rfl hm) (Within.refl _))⟩
    · refine within1_ite (fun _ => ?_) (fun _ => ?_)
      · exact ⟨Within.snd (within_modDep _ (msub rfl hm) (Within.refl _))⟩
      · exact ⟨Within.snd (within_modDep _ (msub rfl hm) hx1)⟩

theorem State.syncSto_within {msk : Nat} {s00 : State} (s : State) (hm : 274880004096 &&& msk = 274880004096) (h0 : Within msk s00 s) :
    Within msk s00 (State.syncSto s) := by
  refine within_trans h0 ?_
  unfold State.syncSto
  exact (within_each _ _ (Within.refl _) (fun _ _ => (within_ite (fun _ => (within_ite (fun _ => (within_ite (fun _ => (Within.refl _)) (fun _ => (State.closeSo_within _ _ (msub rfl hm) (Within.refl _)).h))) (fun _ => (Within.refl _)))) (fun _ => (Within.refl _)))))

theorem State.parkOutputs_within {msk : Nat} {s00 : State} (s : State) (parked : Bool) (hm : 274880004096 &&& msk = 274880004096) (h0 : Within msk s00 s) :
    Within msk s00 (State.parkOutputs s parked) := by
  refine within_trans h0 ?_
  unfold State.parkOutputs
  lift_lets -useContext -merge -underBinder
  intro x0
  have hx0 : Within msk s x0 := (State.openFuncs_within _ _ (msub rfl hm) (Within.refl _))
  clear_value x0
  refine within_ite (fun _ => ?_) (fun _ => ?_)
  · exact (within_modDep _ (msub rfl hm) (within_wr _ _ _ _ _ (fsub rfl hm) (within_each _ _ hx0 (fun _ _ => (within_wr _ _ _ _ _ (fsub rfl hm) (within_clr _ _ _ _ (fsub rfl hm) (Within.refl _)))))))
  · exact hx0

theorem State.ctrClose_within {msk : Nat} {s00 : State} (s : State) (l : Lane) (c : Nat) (hm : 274880005120 &&& msk = 274880005120) (h0 : Within msk s00 s) :
    Within1 msk s00 (State.ctrClose s l c) := by
  refine within1_trans h0 ?_
  unfold State.ctrClose
  lift_lets -useContext -merge -underBinder
  intro x0 x1
  try clear_value x1
  intro x2
  have hx2 : Within msk s x2 := (within_wr _ _ _ _ _ (fsub rfl hm) (within_wr _ _ _ _ _ (fsub rfl hm) (within_wr _ _ _ _ _ (fsub rfl hm) (within_wr _ _ _ _ _ (fsub rfl hm) (within_set _ _ _ _ (fsub rfl hm) (Within.refl _))))))
  clear_value x2
  intro x3
  have hx3 : Within1 msk s x3 := (State.closeSo_within _ _ (msub rfl hm) hx2)
  clear_value x3
  refine within1_ite (fun _ => ?_) (fun _ => ?_)
  · exact ⟨Within.snd (within_ite (fun _ => (within_inc _ _ _ _ _ (fsub rfl hm) hx3.h)) (fun _ => hx3.h))⟩
  · exact ⟨Within.snd (Within.refl _)⟩

theorem State.ctrOpen1_within {msk : Nat} {s00 : State} (s : State) (l : Lane) (c : Nat) (hm : 274880004096 &&& msk = 274880004096) (h0 : Within msk s00 s) :
    Within msk s00 (State.ctrOpen1 s l c) := by
  refine within_trans h0 ?_
  unfold State.ctrOpen1
  refine within_ite (fun _ => ?_) (fun _ => ?_)
  · exact (State.openSo_within _ _ (msub rfl hm) (within_clr _ _ _ _ (fsub rfl hm) (Within.refl _)))
  · exact (Within.refl _)

theorem State.ctrOpen_within {msk : Nat} {s00 : State} (s : State) (l : Lane) (c : Nat) (hm : 274880004096 &&& msk = 274880004096) (h0 : Within msk s00 s) :
    Within msk s00 (State.ctrOpen s l c) := by
  refine within_trans h0 ?_
  unfold State.ctrOpen
  lift_lets -useContext -merge -underBinder
  intro x0
  have hx0 : Within msk s x0 := (within_ite (fun _ => (within_each _ _ (Within.refl _) (fun _ _ => (within_ite (fun _ => (State.ctrOpen1_within _ _ _ (msub rfl hm) (Within.refl _))) (fun _ => (Within.refl _)))))) (fun _ => (Within.refl _)))
  clear_value x0
  exact (State.ctrOpen1_within _ _ _ (msub rfl hm) hx0)

theorem State.soCmd_within {msk : Nat} {s00 : State} (s : State) (l : Lane) (who : Initiator) (k : Fin 12) (v : Nat) (hm : 274880004097 &&& msk = 274880004097) (h0 : Within msk s00 s) :
    Within msk s00 (State.soCmd s l who k v) := by
  refine within_trans h0 ?_
  unfold State.soCmd
  lift_lets -useContext -merge -underBinder
  intro x0
  have hx0 : Within msk s x0 := (within_wr _ _ _ _ _ (fsub rfl hm) (within_wr _ _ _ _ _ (fsub rfl hm) (within_wr _ _ _ _ _ (fsub rfl hm) (within_wr _ _ _ _ _ (fsub rfl hm) (within_wr _ _ _ _ _ (fsub rfl hm) (Within.refl _))))))
  clear_value x0
  intro x1
  try clear_value x1
  refine within_ite (fun _ => ?_) (fun _ => ?_)
  · exact (State.accessError_within _ _ _ _ _ _ (msub rfl hm) (Within.refl _))
  · refine within_ite (fun _ => ?_) (fun _ => ?_)
    · refine within_ite (fun _ => ?_) (fun _ => ?_)
      · exact (State.closeSo_within _ _ (msub rfl hm) hx0).h
      · exact (State.openSo_within _ _ (msub rfl hm) hx0)
    · exact hx0

theorem execDspSoCmd_within {msk : Nat} (l : Lane) (k : Fin 12) (value : BitVec 22) (s : State) (hm : 274880004097 &&& msk = 274880004097) :
    WithinOut msk s (execDspSoCmd l k value s) := by
  unfold execDspSoCmd
  exact withinOut_next (within_ite (fun _ => (State.soCmd_within _ _ _ _ _ (msub rfl hm) (Within.refl _))) (fun _ => (Within.refl _)))


end Sys2Proof.Machine
end

