-- ==== Sys2Proof/Laws/WithinSupplyOps.lean ====
section
/-!
SUPPORT. The operations of Machine/SupplyOps.lean change nothing outside their masks (Laws/Within.lean).
-/
namespace Sys2Proof.Machine

theorem State.setIsland_within {msk : Nat} {s00 : State} (s : State) (l : Lane) (on : Bool) (hm : 1099511627776 &&& msk = 1099511627776) (h0 : Within msk s00 s) :
    Within msk s00 (State.setIsland s l on) := by
  refine within_trans h0 ?_
  unfold State.setIsland
  split
  · lift_lets -useContext -merge -underBinder
    intro x0
    try clear_value x0
    exact (Within.of_frame (Within.refl _) rfl rfl rfl (.inr rfl) (.inr rfl) (.inr ⟨rfl, rfl⟩) (.inr rfl) (.inr rfl) (.inl (bsub rfl hm)) (.inr rfl) (.inr rfl) (.inr ⟨rfl, rfl⟩))
  · lift_lets -useContext -merge -underBinder
    intro x1
    try clear_value x1
    exact (Within.of_frame (Within.refl _) rfl rfl rfl (.inr rfl) (.inr rfl) (.inr ⟨rfl, rfl⟩) (.inr rfl) (.inr rfl) (.inl (bsub rfl hm)) (.inr rfl) (.inr rfl) (.inr ⟨rfl, rfl⟩))

theorem State.setSupplies_within {msk : Nat} {s00 : State} (s : State) (l : Lane) (m : Nat) (hm : 1099511627776 &&& msk = 1099511627776) (h0 : Within msk s00 s) :
    Within msk s00 (State.setSupplies s l m) := by
  refine within_trans h0 ?_
  unfold State.setSupplies
  split
  · lift_lets -useContext -merge -underBinder
    intro x0
    try clear_value x0
    exact (Within.of_frame (Within.refl _) rfl rfl rfl (.inr rfl) (.inr rfl) (.inr ⟨rfl, rfl⟩) (.inr rfl) (.inr rfl) (.inl (bsub rfl hm)) (.inr rfl) (.inr rfl) (.inr ⟨rfl, rfl⟩))
  · lift_lets -useContext -merge -underBinder
    intro x1
    try clear_value x1
    exact (Within.of_frame (Within.refl _) rfl rfl rfl (.inr rfl) (.inr rfl) (.inr ⟨rfl, rfl⟩) (.inr rfl) (.inr rfl) (.inl (bsub rfl hm)) (.inr rfl) (.inr rfl) (.inr ⟨rfl, rfl⟩))

theorem State.papUnpower_within {msk : Nat} {s00 : State} (s : State) (l : Lane)
    (hm : 141733920767 &&& msk = 141733920767) (h0 : Within msk s00 s) : Within msk s00 (s.papUnpower l) :=
  within_filter (s := s.modPap l fun p => { PapSt.init with keeper := p.keeper }) _ (msub rfl hm)
    (State.modPap_within _ _ _ (msub rfl hm) h0)

theorem State.laneUnpower_within {msk : Nat} {s00 : State} (s : State) (l : Lane) (hm : 532575944703 &&& msk = 532575944703) (h0 : Within msk s00 s) :
    Within msk s00 (State.laneUnpower s l) := by
  refine within_trans h0 ?_
  unfold State.laneUnpower
  lift_lets -useContext -merge -underBinder
  intro x0
  have hx0 : Within msk s x0 := (State.resetIsland_within _ _ _ (msub rfl hm) (Within.refl _))
  clear_value x0
  exact (State.resetRegs_within _ _ _ (msub rfl hm) hx0)

theorem State.supplyFell_within {msk : Nat} {s00 : State} (s : State) (l : Lane) (sup : IslandSupply) (hm : 4194304 &&& msk = 4194304) (h0 : Within msk s00 s) :
    Within msk s00 (State.supplyFell s l sup) := by
  refine within_trans h0 ?_
  unfold State.supplyFell
  lift_lets -useContext -merge -underBinder
  intro x0
  split
  · exact (within_clr _ _ _ _ (fsub rfl hm) (within_wrBit _ _ _ _ _ (fsub rfl hm) (Within.refl _)))
  · exact (within_inc _ _ _ _ _ (fsub rfl hm) (within_clr _ _ _ _ (fsub rfl hm) (within_wrBit _ _ _ _ _ (fsub rfl hm) (within_wrBit _ _ _ _ _ (fsub rfl hm) (Within.refl _)))))

theorem State.islandFault_within {msk : Nat} {s00 : State} (s : State) (l : Lane) (sup : IslandSupply) (hm : 1632087572479 &&& msk = 1632087572479) (h0 : Within msk s00 s) :
    Within msk s00 (State.islandFault s l sup) := by
  refine within_trans h0 ?_
  unfold State.islandFault
  lift_lets -useContext -merge -underBinder
  intro x0
  try clear_value x0
  intro x1
  have hx1 : Within msk s x1 := (State.setSupplies_within _ _ _ (msub rfl hm) (Within.refl _))
  clear_value x1
  intro x2
  have hx2 : Within msk s x2 := (within_ite (fun _ => (State.laneUnpower_within _ _ (msub rfl hm) (State.setIsland_within _ _ _ (msub rfl hm) hx1))) (fun _ => hx1))
  clear_value x2
  intro x3
  have hx3 : Within msk s x3 := (within_ite (fun _ => (State.papUnpower_within _ _ (msub rfl hm) hx2)) (fun _ => (within_when _ _ hx2 (fun _ => (State.supplyFell_within _ _ _ (msub rfl hm) (Within.refl _))))))
  clear_value x3
  intro x5
  have hx5 : Within msk s x5 := (within_when _ _ hx3 (fun _ => (within_set _ _ _ _ (fsub rfl hm) (Within.refl _))))
  clear_value x5
  refine within_ite (fun _ => ?_) (fun _ => ?_)
  · refine within_ite (fun _ => ?_) (fun _ => ?_)
    · exact (State.declare_within _ _ _ (msub rfl hm) hx5)
    · exact hx5
  · exact (Within.refl _)

theorem State.checkIslands_within {msk : Nat} {s00 : State} (s : State) (hm : 515402372230 &&& msk = 515402372230) (h0 : Within msk s00 s) :
    Within msk s00 (State.checkIslands s) := by
  refine within_trans h0 ?_
  unfold State.checkIslands
  exact (within_each _ _ (Within.refl _) (fun _ _ => (within_when _ _ (Within.refl _) (fun _ => (State.declare_within _ _ _ (msub rfl hm) (Within.refl _))))))

theorem State.oscStart_within {msk : Nat} {s00 : State} (s : State) (hm : 4672924418048 &&& msk = 4672924418048) (h0 : Within msk s00 s) :
    Within1 msk s00 (State.oscStart s) := by
  refine within1_trans h0 ?_
  unfold State.oscStart
  lift_lets -useContext -merge -underBinder
  intro x0
  have hx0 : Within1 msk s x0 := (within1_free _ (msub rfl hm) (Within.refl _))
  clear_value x0
  exact ⟨Within.snd (within_modDep _ (msub rfl hm) hx0.h)⟩

theorem State.oscCount_within {msk : Nat} {s00 : State} (s : State) (hm : 4398046511104 &&& msk = 4398046511104) (h0 : Within msk s00 s) :
    Within1 msk s00 (State.oscCount s) := by
  refine within1_trans h0 ?_
  unfold State.oscCount
  lift_lets -useContext -merge -underBinder
  intro x0
  try clear_value x0
  intro x1
  try clear_value x1
  intro x2
  try clear_value x2
  intro x3
  try clear_value x3
  intro x4
  have hx4 : Within1 msk s x4 := (within1_free _ (msub rfl hm) (Within.refl _))
  clear_value x4
  refine within1_ite (fun _ => ?_) (fun _ => ?_)
  · exact ⟨Within.snd (Within.refl _)⟩
  · exact ⟨Within.snd hx4.h⟩

theorem State.oscPiece_within {msk : Nat} {s00 : State} (s : State) (count : Nat) (hm : 4672924418048 &&& msk = 4672924418048) (h0 : Within msk s00 s) :
    Within msk s00 (State.oscPiece s count) := by
  refine within_trans h0 ?_
  unfold State.oscPiece
  lift_lets -useContext -merge -underBinder
  intro x0
  try clear_value x0
  intro x1
  try clear_value x1
  intro x2
  have hx2 : Within1 msk s x2 := (State.quot_within _ _ _ (msub rfl hm) (Within.refl _))
  clear_value x2
  intro x3
  have hx3 : Within1 msk s x3 := (within1_ite (fun _ => ⟨Within.snd (Within.refl _)⟩) (fun _ => ⟨Within.snd hx2.h⟩))
  clear_value x3
  exact (within_modDep _ (msub rfl hm) hx3.h)

theorem State.parkCount_within {msk : Nat} {s00 : State} (s : State) (hm : 4672926515200 &&& msk = 4672926515200) (h0 : Within msk s00 s) :
    Within msk s00 (State.parkCount s) := by
  refine within_trans h0 ?_
  unfold State.parkCount
  lift_lets -useContext -merge -underBinder
  intro x0
  have hx0 : Within1 msk s x0 := (State.oscStart_within _ (msub rfl hm) (Within.refl _))
  clear_value x0
  intro x1
  have hx1 : Within msk s x1 := (within_clr _ _ _ _ (fsub rfl hm) (within_clr _ _ _ _ (fsub rfl hm) (within_clr _ _ _ _ (fsub rfl hm) (within_wr _ _ _ _ _ (fsub rfl hm) hx0.h))))
  clear_value x1
  exact (within_modDep _ (msub rfl hm) hx1)

theorem State.parkPublish_within {msk : Nat} {s00 : State} (s : State) (hm : 4672926515200 &&& msk = 4672926515200) (h0 : Within msk s00 s) :
    Within msk s00 (State.parkPublish s) := by
  refine within_trans h0 ?_
  unfold State.parkPublish
  lift_lets -useContext -merge -underBinder
  intro x0
  have hx0 : Within1 msk s x0 := (State.oscCount_within _ (msub rfl hm) (Within.refl _))
  clear_value x0
  intro x1
  have hx1 : Within msk s x1 := (within_wr _ _ _ _ _ (fsub rfl hm) (State.oscPiece_within _ _ (msub rfl hm) hx0.h))
  clear_value x1
  intro x2
  try clear_value x2
  intro x3
  try clear_value x3
  intro x4
  try clear_value x4
  intro x5
  have hx5 : Within msk s x5 := (within_wr _ _ _ _ _ (fsub rfl hm) (within_wr _ _ _ _ _ (fsub rfl hm) (within_wr _ _ _ _ _ (fsub rfl hm) hx1)))
  clear_value x5
  refine within_ite (fun _ => ?_) (fun _ => ?_)
  · exact (within_modDep _ (msub rfl hm) (within_set _ _ _ _ (fsub rfl hm) hx5))
  · exact (Within.refl _)

theorem State.wake_within {msk : Nat} {s00 : State} (s : State) (w0 w1 btn : Bool) (hm : 4672926515200 &&& msk = 4672926515200) (h0 : Within msk s00 s) :
    Within msk s00 (State.wake s w0 w1 btn) := by
  refine within_trans h0 ?_
  unfold State.wake
  lift_lets -useContext -merge -underBinder
  intro x0
  have hx0 : Within msk s x0 := (State.parkPublish_within _ (msub rfl hm) (Within.refl _))
  clear_value x0
  intro x1
  have hx1 : Within msk s x1 := (within_put _ _ _ _ _ (fsub rfl hm) (within_put _ _ _ _ _ (fsub rfl hm) (within_put _ _ _ _ _ (fsub rfl hm) hx0)))
  clear_value x1
  refine within_ite (fun _ => ?_) (fun _ => ?_)
  · exact (within_modDep _ (msub rfl hm) hx1)
  · exact (Within.refl _)

theorem State.depGone_within {msk : Nat} {s00 : State} (s : State) (phase : DepPhase) (hm : 1619202670591 &&& msk = 1619202670591) (h0 : Within msk s00 s) :
    Within msk s00 (State.depGone s phase) := by
  refine within_trans h0 ?_
  unfold State.depGone
  lift_lets -useContext -merge -underBinder
  intro x0
  have hx0 : Within msk s x0 := (within_modDep _ (msub rfl hm) (State.resetRegs_within _ _ _ (msub rfl hm) (Within.refl _)))
  clear_value x0
  intro x1
  try clear_value x1
  intro x2
  try clear_value x2
  intro x3
  try clear_value x3
  intro x4
  have hx4 : Within msk s x4 := (Within.of_frame hx0 rfl rfl rfl (.inl (bsub rfl hm)) (.inl (bsub rfl hm)) (.inr ⟨rfl, rfl⟩) (.inr rfl) (.inr rfl) (.inl (bsub rfl hm)) (.inr rfl) (.inr rfl) (.inr ⟨rfl, rfl⟩))
  clear_value x4
  intro x5
  have hx5 : Within msk s x5 := (within_each _ _ hx4 (fun _ _ => (State.modPap_within _ _ _ (msub rfl hm) (within_clr _ _ _ _ (fsub rfl hm) (State.pwmUngrant_within _ _ (msub rfl hm) (within_clr _ _ _ _ (fsub rfl hm) (Within.refl _)))))))
  clear_value x5
  exact (State.syncMaster_within _ (msub rfl hm) hx5)

theorem State.depQualify_within {msk : Nat} {s00 : State} (s : State) (wake0 wake1 : Bool) (vbatA vbatB vso : Nat) (hm : 6017249181695 &&& msk = 6017249181695) (h0 : Within msk s00 s) :
    Within msk s00 (State.depQualify s wake0 wake1 vbatA vbatB vso) := by
  refine within_trans h0 ?_
  unfold State.depQualify
  lift_lets -useContext -merge -underBinder
  intro x0
  have hx0 : Within msk s x0 := (State.depGone_within _ _ (msub rfl hm) (Within.refl _))
  clear_value x0
  intro x1
  try clear_value x1
  intro x2
  have hx2 : Within msk s x2 := (Within.of_frame hx0 rfl rfl rfl (.inl (bsub rfl hm)) (.inr rfl) (.inr ⟨rfl, rfl⟩) (.inr rfl) (.inr rfl) (.inr rfl) (.inr rfl) (.inr rfl) (.inr ⟨rfl, rfl⟩))
  clear_value x2
  intro x3
  have hx3 : Within msk s x3 := (within_modDep _ (msub rfl hm) (within_modDep _ (msub rfl hm) hx2))
  clear_value x3
  intro x4
  have hx4 : Within msk s x4 := (within_wr _ _ _ _ _ (fsub rfl hm) (within_put _ _ _ _ _ (fsub rfl hm) (within_put _ _ _ _ _ (fsub rfl hm) (within_put _ _ _ _ _ (fsub rfl hm) hx3))))
  clear_value x4
  intro x5
  have hx5 : Within msk s x5 := (within_set _ _ _ _ (fsub rfl hm) (within_set _ _ _ _ (fsub rfl hm) (within_wr _ _ _ _ _ (fsub rfl hm) hx4)))
  clear_value x5
  intro x6
  have hx6 : Within msk s x6 := (within_put _ _ _ _ _ (fsub rfl hm) (within_put _ _ _ _ _ (fsub rfl hm) hx5))
  clear_value x6
  intro x7
  have hx7 : Within msk s x7 := (within_each _ _ hx6 (fun _ _ => (within_when _ _ (Within.refl _) (fun _ => (within_set _ _ _ _ (by unfold reqFld; split <;> exact fsub rfl hm) (Within.refl _))))))
  clear_value x7
  refine within_ite (fun _ => ?_) (fun _ => ?_)
  · exact (State.wake_within _ _ _ _ (msub rfl hm) hx7)
  · exact hx7


end Sys2Proof.Machine
end

