-- ==== Sys2Proof/Laws/WithinDsOps.lean ====
section
/-!
SUPPORT. The operations of Machine/DsOps.lean change nothing outside their masks (Laws/Within.lean).
-/
namespace Sys2Proof.Machine

theorem State.modLnk_within {msk : Nat} {s00 : State} (s : State) (l : Lane) (f : LinkSt → LinkSt) (hm : 0 &&& msk = 0) (h0 : Within msk s00 s) :
    Within msk s00 (State.modLnk s l f) := by
  refine within_trans h0 ?_
  unfold State.modLnk
  exact (within_modRun _ _ (Within.refl _) fun _ => ⟨rfl, rfl⟩)

theorem State.claimTim7_within {msk : Nat} {s00 : State} (s : State) (l : Lane) (n : Nat) (hm : 8388610 &&& msk = 8388610) (h0 : Within msk s00 s) :
    Within msk s00 (State.claimTim7 s l n) := by
  refine within_trans h0 ?_
  unfold State.claimTim7
  lift_lets -useContext -merge -underBinder
  intro x0 x1
  have hx1 : Within msk s x1 := (within_wr _ _ _ _ _ (fsub rfl hm) (within_wr _ _ _ _ _ (fsub rfl hm) (within_clr _ _ _ _ (fsub rfl hm) (within_clr _ _ _ _ (fsub rfl hm) (within_set _ _ _ _ (fsub rfl hm) (Within.refl _))))))
  clear_value x1
  intro x2
  have hx2 : Within msk s x2 := (State.modTim_within _ _ _ _ (msub rfl hm) hx1)
  clear_value x2
  exact (within_set _ _ _ _ (fsub rfl hm) (State.modSup_within _ _ _ (msub rfl hm) hx2))

theorem State.portTimer_within {msk : Nat} {s00 : State} (s : State) (l : Lane) (hm : 8388610 &&& msk = 8388610) (h0 : Within msk s00 s) :
    Within msk s00 (State.portTimer s l) := by
  refine within_trans h0 ?_
  unfold State.portTimer
  lift_lets -useContext -merge -underBinder
  intro x0
  try clear_value x0
  intro x1
  try clear_value x1
  refine within_ite (fun _ => ?_) (fun _ => ?_)
  · exact (Within.refl _)
  · refine within_ite (fun _ => ?_) (fun _ => ?_)
    · exact (State.laneForm_within _ _ (msub rfl hm) (Within.refl _))
    · refine within_ite (fun _ => ?_) (fun _ => ?_)
      · refine within_ite (fun _ => ?_) (fun _ => ?_)
        · exact (State.laneForm_within _ _ (msub rfl hm) (Within.refl _))
        · exact (State.claimTim7_within _ _ _ (msub rfl hm) (Within.refl _))
      · exact (State.claimTim7_within _ _ _ (msub rfl hm) (Within.refl _))

theorem State.declareDs_within {msk : Nat} {s00 : State} (s : State) (l : Lane) (hm : 8388614 &&& msk = 8388614) (h0 : Within msk s00 s) :
    Within msk s00 (State.declareDs s l) := by
  refine within_trans h0 ?_
  unfold State.declareDs
  lift_lets -useContext -merge -underBinder
  intro x0
  have hx0 : Within msk s x0 := (State.modSup_within _ _ _ (msub rfl hm) (Within.refl _))
  clear_value x0
  intro x1
  have hx1 : Within msk s x1 := (State.laneOutcome_within _ _ (msub rfl hm) (State.portTimer_within _ _ (msub rfl hm) (State.log_within _ _ _ _ (msub rfl hm) hx0)))
  clear_value x1
  refine within_ite (fun _ => ?_) (fun _ => ?_)
  · exact (Within.refl _)
  · exact (State.syncMaster_within _ (msub rfl hm) (within_ite (fun _ => hx1) (fun _ => (State.ownRecord_within _ _ _ _ (msub rfl hm) hx1))))

theorem State.laneDeclare_within {msk : Nat} {s00 : State} (s : State) (l : Lane) (c : FaultClass) (hm : 515402372230 &&& msk = 515402372230) (h0 : Within msk s00 s) :
    Within msk s00 (State.laneDeclare s l c) := by
  refine within_trans h0 ?_
  unfold State.laneDeclare
  lift_lets -useContext -merge -underBinder
  intro x0
  have hx0 : Within msk s x0 := (within_set _ _ _ _ (fsub rfl hm) (Within.refl _))
  clear_value x0
  intro x1
  have hx1 : Within msk s x1 := (within_ite (fun _ => (State.ownRecord_within _ _ _ _ (msub rfl hm) hx0)) (fun _ => (State.log_within _ _ _ _ (msub rfl hm) (State.modSup_within _ _ _ (msub rfl hm) hx0))))
  clear_value x1
  refine within_ite (fun _ => ?_) (fun _ => ?_)
  · exact (State.declare_within _ _ _ (msub rfl hm) (State.modSup_within _ _ _ (msub rfl hm) hx0))
  · refine within_ite (fun _ => ?_) (fun _ => ?_)
    · exact (State.ownRecord_within _ _ _ _ (msub rfl hm) hx1)
    · exact hx1

theorem State.portFault_within {msk : Nat} {s00 : State} (s : State) (l : Lane) (hm : 481042632838 &&& msk = 481042632838) (h0 : Within msk s00 s) :
    Within msk s00 (State.portFault s l) := by
  refine within_trans h0 ?_
  unfold State.portFault
  lift_lets -useContext -merge -underBinder
  intro x0
  have hx0 : Within msk s x0 := (within_modRun _ _ (Within.refl _) fun _ => ⟨rfl, rfl⟩)
  clear_value x0
  intro x1
  have hx1 : Within msk s x1 := (within_when _ _ (within_clr _ _ _ _ (fsub rfl hm) hx0) (fun _ => (within_clr _ _ _ _ (by unfold reqFld; split <;> exact fsub rfl hm) (Within.refl _))))
  clear_value x1
  exact (State.grantLogic_within _ (msub rfl hm) (State.windingsOff_within _ _ (msub rfl hm) (State.removeGrant_within _ _ (msub rfl hm) hx1)))


end Sys2Proof.Machine
end

