-- ==== Sys2Proof/Laws/WithinNetOps.lean ====
section
/-!
SUPPORT. The operations of Machine/NetOps.lean change nothing outside their masks (Laws/Within.lean).
-/
namespace Sys2Proof.Machine

theorem State.wr64_within {msk : Nat} {s00 : State} (s : State) (l : Lane) (lo hi : Fld) (v : Nat) (hm : 0 &&& msk = 0) (hg2 : lo.inM msk = true) (hg3 : hi.inM msk = true) (h0 : Within msk s00 s) :
    Within msk s00 (State.wr64 s l lo hi v) := by
  refine within_trans h0 ?_
  unfold State.wr64
  exact (within_wr _ _ _ _ _ hg3 (within_wr _ _ _ _ _ hg2 (Within.refl _)))

theorem State.modCan_within {msk : Nat} {s00 : State} (s : State) (l : Lane) (n : Fin 4) (f : CanSt → CanSt) (hm : 0 &&& msk = 0) (h0 : Within msk s00 s) :
    Within msk s00 (State.modCan s l n f) := by
  refine within_trans h0 ?_
  unfold State.modCan
  exact (within_modRun _ _ (Within.refl _) fun _ => ⟨rfl, rfl⟩)

theorem State.handNode_within {msk : Nat} {s00 : State} (s : State) (l : Lane) (t : Nat) (bytes : List Nat) (hm : 0 &&& msk = 0) (h0 : Within msk s00 s) :
    Within msk s00 (State.handNode s l t bytes) := by
  refine within_trans h0 ?_
  unfold State.handNode
  exact (within_modRun _ _ (Within.refl _) fun _ => ⟨rfl, rfl⟩)

theorem State.postNet_within {msk : Nat} {s00 : State} (s : State) (l : Lane) (e : TalEntry) (code : OutcomeCode) (hm : 4100 &&& msk = 4100) (h0 : Within msk s00 s) :
    Within msk s00 (State.postNet s l e code) := by
  refine within_trans h0 ?_
  unfold State.postNet
  lift_lets -useContext -merge -underBinder
  intro x0
  have hx0 : Within msk s x0 := (State.post_within _ _ _ _ (msub rfl hm) (Within.refl _))
  clear_value x0
  split
  · refine within_ite (fun _ => ?_) (fun _ => ?_)
    · exact hx0
    · exact (within_inc _ _ _ _ _ (fsub rfl hm) hx0)
  · exact hx0

theorem State.endNew_within {msk : Nat} {s00 : State} (s : State) (l : Lane) (a : Admission) (code : Option OutcomeCode) (hm : 4100 &&& msk = 4100) (h0 : Within msk s00 s) :
    Within msk s00 (State.endNew s l a code) := by
  refine within_trans h0 ?_
  unfold State.endNew
  split
  · split
    · exact (State.postNet_within _ _ _ _ (msub rfl hm) (Within.refl _))
    · exact (Within.refl _)
  · exact (Within.refl _)

theorem State.canSubmit_within {msk : Nat} {s00 : State} (s : State) (l : Lane) (who : Initiator) (n : Fin 4) (t dl : Nat) (job : Job) (hm : 4100 &&& msk = 4100) (h0 : Within msk s00 s) :
    Within11 msk s00 (State.canSubmit s l who n t dl job) := by
  refine within11_trans h0 ?_
  unfold State.canSubmit
  lift_lets -useContext -merge -underBinder
  intro x0
  have hx0 : Within1 msk s x0 := (State.submit_within _ _ _ _ _ _ _ _ (msub rfl hm) (Within.refl _))
  clear_value x0
  refine within11_ite (fun _ => ?_) (fun _ => ?_)
  · exact ⟨Within.snd (Within.refl _)⟩
  · refine within11_ite (fun _ => ?_) (fun _ => ?_)
    · exact ⟨Within.snd (Within.refl _)⟩
    · exact ⟨Within.snd (State.endNew_within _ _ _ _ (msub rfl hm) hx0.h)⟩

theorem State.setRam_within {msk : Nat} {s00 : State} (s : State) (l : Lane) (n : Fin 4) (o : Nat) (ws : List Nat) (hm : 8589934592 &&& msk = 8589934592) (h0 : Within msk s00 s) :
    Within msk s00 (State.setRam s l n o ws) := by
  refine within_trans h0 ?_
  unfold State.setRam
  exact (within_each _ _ (Within.refl _) (fun _ _ => (within_setTable _ _ _ (msub rfl hm) (Within.refl _))))

theorem State.modEth_within {msk : Nat} {s00 : State} (s : State) (l : Lane) (m : Fin 3) (f : EthSt → EthSt) (hm : 0 &&& msk = 0) (h0 : Within msk s00 s) :
    Within msk s00 (State.modEth s l m f) := by
  refine within_trans h0 ?_
  unfold State.modEth
  exact (within_modRun _ _ (Within.refl _) fun _ => ⟨rfl, rfl⟩)

theorem State.ethSubmit_within {msk : Nat} {s00 : State} (s : State) (l : Lane) (who : Initiator) (m : Fin 3) (size dl : Nat) (job : Job) (hm : 4100 &&& msk = 4100) (h0 : Within msk s00 s) :
    Within11 msk s00 (State.ethSubmit s l who m size dl job) := by
  refine within11_trans h0 ?_
  unfold State.ethSubmit
  lift_lets -useContext -merge -underBinder
  intro x0
  have hx0 : Within1 msk s x0 := (State.submit_within _ _ _ _ _ _ _ _ (msub rfl hm) (Within.refl _))
  clear_value x0
  exact ⟨Within.snd (State.endNew_within _ _ _ _ (msub rfl hm) hx0.h)⟩

theorem State.chassisSend_within {msk : Nat} {s00 : State} (s : State) (l : Lane) (dl : Nat) (bytes : List Nat) (hm : 8589938692 &&& msk = 8589938692) (h0 : Within msk s00 s) :
    Within msk s00 (State.chassisSend s l dl bytes) := by
  refine within_trans h0 ?_
  unfold State.chassisSend
  lift_lets -useContext -merge -underBinder
  intro x0 x1
  try clear_value x1
  intro x2
  try clear_value x2
  refine within_dite (fun _ => ?_) (fun _ => ?_)
  · lift_lets -useContext -merge -underBinder
    intro x3
    try clear_value x3
    intro x4
    try clear_value x4
    intro x5
    try clear_value x5
    intro x6
    have hx6 : Within msk s x6 := (within_ite (fun _ => (Within.refl _)) (fun _ => (State.setRam_within _ _ _ _ _ (msub rfl hm) (Within.refl _))))
    clear_value x6
    intro x7
    have hx7 : Within11 msk s x7 := (State.canSubmit_within _ _ _ _ _ _ _ (msub rfl hm) hx6)
    clear_value x7
    exact (within_when _ _ hx7.h (fun _ => (within_inc _ _ _ _ _ (fsub rfl hm) (Within.refl _))))
  · refine within_dite (fun _ => ?_) (fun _ => ?_)
    · lift_lets -useContext -merge -underBinder
      intro x9
      try clear_value x9
      intro x10
      try clear_value x10
      intro x11
      try clear_value x11
      intro x12
      have hx12 : Within11 msk s x12 := (State.ethSubmit_within _ _ _ _ _ _ _ (msub rfl hm) (Within.refl _))
      clear_value x12
      exact (within_when _ _ hx12.h (fun _ => (within_inc _ _ _ _ _ (fsub rfl hm) (Within.refl _))))
    · exact (Within.refl _)


end Sys2Proof.Machine
end

