-- ==== Sys2Proof/Laws/WithinAsyOps.lean ====
section
/-!
SUPPORT. The operations of Machine/AsyOps.lean change nothing outside their masks (Laws/Within.lean).
-/
namespace Sys2Proof.Machine

theorem State.freeWords_within {msk : Nat} {s00 : State} (s : State) (n : Nat) (hm : 4398046511104 &&& msk = 4398046511104)
    (h0 : Within msk s00 s) : Within1 msk s00 (s.freeWords n) := by
  induction n generalizing s with
  | zero => exact ⟨h0⟩
  | succ n ih => exact ⟨(ih _ (within1_free 32 hm h0).h).h⟩

theorem State.modAsy_within {msk : Nat} {s00 : State} (s : State) (l : Lane) (f : AsySt → AsySt) (hm : 0 &&& msk = 0) (h0 : Within msk s00 s) :
    Within msk s00 (State.modAsy s l f) := by
  refine within_trans h0 ?_
  unfold State.modAsy
  exact (within_modRun _ _ (Within.refl _) fun _ => ⟨rfl, rfl⟩)

theorem State.asyFaultUpTo_within {msk : Nat} {s00 : State} (s : State) (l : Lane) (since : Nat) (hm : 524288 &&& msk = 524288) (h0 : Within msk s00 s) :
    Within msk s00 (State.asyFaultUpTo s l since) := by
  refine within_trans h0 ?_
  unfold State.asyFaultUpTo
  lift_lets -useContext -merge -underBinder
  intro x0
  try clear_value x0
  intro x1
  try clear_value x1
  exact (State.modAsy_within _ _ _ (msub rfl hm) (within_inc _ _ _ _ _ (fsub rfl hm) (Within.refl _)))

theorem State.asyFlag_within {msk : Nat} {s00 : State} (s : State) (l : Lane) (b : Nat) (hm : 0 &&& msk = 0) (h0 : Within msk s00 s) :
    Within msk s00 (State.asyFlag s l b) := by
  refine within_trans h0 ?_
  unfold State.asyFlag
  exact (State.modAsy_within _ _ _ (msub rfl hm) (Within.refl _))

theorem State.asySync_within {msk : Nat} {s00 : State} (s : State) (l : Lane) (hm : 524288 &&& msk = 524288) (h0 : Within msk s00 s) :
    Within msk s00 (State.asySync s l) := by
  refine within_trans h0 ?_
  unfold State.asySync
  lift_lets -useContext -merge -underBinder
  intro x0 x1
  have hx1 : Within msk s x1 := by
    unfold x1
    split
    · exact (State.modAsy_within _ _ _ (msub rfl hm) (State.asyFaultUpTo_within _ _ _ (msub rfl hm) (Within.refl _)))
    · exact (Within.refl _)
  clear_value x1
  intro x2
  have hx2 : Within msk s x2 := by
    unfold x2
    split
    · exact (State.asyFaultUpTo_within _ _ _ (msub rfl hm) (Within.refl _))
    · exact (Within.refl _)
  clear_value x2
  refine within_ite (fun _ => ?_) (fun _ => ?_)
  · refine within_ite (fun _ => ?_) (fun _ => ?_)
    · exact (within_set _ _ _ _ (fsub rfl hm) hx1)
    · exact (State.modAsy_within _ _ _ (msub rfl hm) (State.asyFlag_within _ _ _ (msub rfl hm) (within_set _ _ _ _ (fsub rfl hm) (within_clr _ _ _ _ (fsub rfl hm) hx2))))
  · exact (Within.refl _)

theorem State.asyTrigger_within {msk : Nat} {s00 : State} (s : State) (l : Lane) (b : Nat) (hm : 0 &&& msk = 0) (h0 : Within msk s00 s) :
    Within msk s00 (State.asyTrigger s l b) := by
  refine within_trans h0 ?_
  unfold State.asyTrigger
  refine within_ite (fun _ => ?_) (fun _ => ?_)
  · exact (State.modAsy_within _ _ _ (msub rfl hm) (Within.refl _))
  · exact (Within.refl _)

theorem State.asyAdd_within {msk : Nat} {s00 : State} (s : State) (l : Lane) (e : Int) (hm : 0 &&& msk = 0) (h0 : Within msk s00 s) :
    Within msk s00 (State.asyAdd s l e) := by
  refine within_trans h0 ?_
  unfold State.asyAdd
  lift_lets -useContext -merge -underBinder
  intro x0
  try clear_value x0
  intro x1
  try clear_value x1
  intro x2
  try clear_value x2
  intro x3
  try clear_value x3
  intro x4
  try clear_value x4
  intro x5
  try clear_value x5
  intro x6
  have hx6 : Within msk s x6 := (State.modAsy_within _ _ _ (msub rfl hm) (Within.refl _))
  clear_value x6
  intro x7
  have hx7 : Within msk s x7 := (within_ite (fun _ => (State.asyTrigger_within _ _ _ (msub rfl hm) hx6)) (fun _ => hx6))
  clear_value x7
  refine within_ite (fun _ => ?_) (fun _ => ?_)
  · exact (State.asyTrigger_within _ _ _ (msub rfl hm) hx7)
  · exact hx7

theorem State.asyCurrent_within {msk : Nat} {s00 : State} (s : State) (l : Lane) (i : Int) (t : Nat) (hm : 4398047035392 &&& msk = 4398047035392) (h0 : Within msk s00 s) :
    Within msk s00 (State.asyCurrent s l i t) := by
  refine within_trans h0 ?_
  unfold State.asyCurrent
  lift_lets -useContext -merge -underBinder
  intro x0 x1
  have hx1 : Within msk s x1 := (State.asySync_within _ _ (msub rfl hm) (Within.refl _))
  clear_value x1
  intro x2
  try clear_value x2
  intro x3
  try clear_value x3
  intro x4
  have hx4 : Within msk s x4 := by
    unfold x4
    split
    · lift_lets -useContext -merge -underBinder
      intro x8
      have hx8 : Within1 msk s x8 := (State.quot_within _ _ _ (msub rfl hm) hx1)
      clear_value x8
      intro x9
      try clear_value x9
      intro x10
      have hx10 : Within msk s x10 := hx8.h
      clear_value x10
      refine within_ite (fun _ => ?_) (fun _ => ?_)
      · exact (State.asyAdd_within _ _ _ (msub rfl hm) hx10)
      · exact hx1
    · exact hx1
  clear_value x4
  intro x11
  have hx11 : Within1 msk s x11 := (State.quot_within _ _ _ (msub rfl hm) hx4)
  clear_value x11
  intro x12
  try clear_value x12
  intro x13
  have hx13 : Within msk s x13 := hx11.h
  clear_value x13
  intro x14 x15
  have hx15 : Within msk s x15 := (within_ite (fun _ => (State.asyFlag_within _ _ _ (msub rfl hm) hx13)) (fun _ => hx13))
  clear_value x15
  refine within_ite (fun _ => ?_) (fun _ => ?_)
  · exact (State.modAsy_within _ _ _ (msub rfl hm) (within_wrS _ _ _ _ _ (fsub rfl hm) hx15))
  · exact (State.modAsy_within _ _ _ (msub rfl hm) hx1)

theorem State.asyResult_within {msk : Nat} {s00 : State} (s : State) (l : Lane) (n : Nat) (v : Int) (t : Nat) (hm : 4398047035392 &&& msk = 4398047035392) (h0 : Within msk s00 s) :
    Within msk s00 (State.asyResult s l n v t) := by
  refine within_trans h0 ?_
  unfold State.asyResult
  lift_lets -useContext -merge -underBinder
  intro x0 x1
  have hx1 : Within msk s x1 := (within_ite (fun _ => (State.modAsy_within _ _ _ (msub rfl hm) (Within.refl _))) (fun _ => (Within.refl _)))
  clear_value x1
  refine within_ite (fun _ => ?_) (fun _ => ?_)
  · refine within_ite (fun _ => ?_) (fun _ => ?_)
    · exact (State.asyCurrent_within _ _ _ _ (msub rfl hm) hx1)
    · exact hx1
  · exact (Within.refl _)

theorem State.slotWrite_within {msk : Nat} {s00 : State} (s : State) (l : Lane) (r : LedgerRec) (hm : 17179869184 &&& msk = 17179869184) (h0 : Within msk s00 s) :
    Within msk s00 (State.slotWrite s l r) := by
  refine within_trans h0 ?_
  unfold State.slotWrite
  exact (State.emmcProgram_within _ _ _ _ (msub rfl hm) (within_modNv _ _ (msub rfl hm) (Within.refl _)))

theorem State.ledgerWrite_within {msk : Nat} {s00 : State} (s : State) (l : Lane) (r : LedgerRec) (skip : Nat) (hm : 17180393472 &&& msk = 17180393472) (h0 : Within msk s00 s) :
    Within msk s00 (State.ledgerWrite s l r skip) := by
  refine within_trans h0 ?_
  unfold State.ledgerWrite
  lift_lets -useContext -merge -underBinder
  intro x0 x1
  try clear_value x1
  intro x2
  try clear_value x2
  intro x3
  try clear_value x3
  intro x4
  try clear_value x4
  intro x5
  try clear_value x5
  intro x6
  have hx6 : Within msk s x6 := (State.slotWrite_within _ _ _ (msub rfl hm) (Within.refl _))
  clear_value x6
  intro x7
  have hx7 : Within msk s x7 := (within_wr _ _ _ _ _ (fsub rfl hm) (within_wr _ _ _ _ _ (fsub rfl hm) hx6))
  clear_value x7
  exact (within_when _ _ hx7 (fun _ => (within_set _ _ _ _ (fsub rfl hm) (Within.refl _))))

theorem State.capture_within {msk : Nat} {s00 : State} (s : State) (l : Lane) (triggers more : Nat) (hm : 4398047035392 &&& msk = 4398047035392) (h0 : Within msk s00 s) :
    Within1 msk s00 (State.capture s l triggers more) := by
  refine within1_trans h0 ?_
  unfold State.capture
  lift_lets -useContext -merge -underBinder
  intro x0 x1
  try clear_value x1
  intro x2
  try clear_value x2
  intro x3
  try clear_value x3
  intro x4
  have hx4 : Within msk s x4 := by
    unfold x4
    split
    · exact (State.modAsy_within _ _ _ (msub rfl hm) (State.asyFaultUpTo_within _ _ _ (msub rfl hm) (Within.refl _)))
    · exact (Within.refl _)
  clear_value x4
  intro x5
  have hx5 : Within1 msk s x5 := (State.quot_within _ _ _ (msub rfl hm) hx4)
  clear_value x5
  intro x6
  try clear_value x6
  intro x7
  have hx7 : Within msk s x7 := hx5.h
  clear_value x7
  intro x8
  have hx8 : Within1 msk s x8 := (State.quot_within _ _ _ (msub rfl hm) hx7)
  clear_value x8
  intro x9
  try clear_value x9
  intro x10
  have hx10 : Within msk s x10 := hx8.h
  clear_value x10
  intro x11 x12
  try clear_value x12
  intro x13
  try clear_value x13
  exact ⟨Within.snd (State.modAsy_within _ _ _ (msub rfl hm) hx10)⟩

theorem State.commitSubmit_within {msk : Nat} {s00 : State} (s : State) (l : Lane) (r : LedgerRec) (hm : 524292 &&& msk = 524292) (h0 : Within msk s00 s) :
    Within1 msk s00 (State.commitSubmit s l r) := by
  refine within1_trans h0 ?_
  unfold State.commitSubmit
  lift_lets -useContext -merge -underBinder
  intro x0
  have hx0 : Within1 msk s x0 := (State.submit_within _ _ _ _ _ _ _ _ (msub rfl hm) (Within.refl _))
  clear_value x0
  refine within1_ite (fun _ => ?_) (fun _ => ?_)
  · exact ⟨Within.snd hx0.h⟩
  · exact ⟨Within.snd (within_inc _ _ _ _ _ (fsub rfl hm) hx0.h)⟩

theorem State.showHeld_within {msk : Nat} {s00 : State} (s : State) (l : Lane) (hm : 524288 &&& msk = 524288) (h0 : Within msk s00 s) :
    Within msk s00 (State.showHeld s l) := by
  refine within_trans h0 ?_
  unfold State.showHeld
  exact (within_wr _ _ _ _ _ (fsub rfl hm) (Within.refl _))

theorem State.hold_within {msk : Nat} {s00 : State} (s : State) (l : Lane) (r : LedgerRec) (hm : 524288 &&& msk = 524288) (h0 : Within msk s00 s) :
    Within msk s00 (State.hold s l r) := by
  refine within_trans h0 ?_
  unfold State.hold
  lift_lets -useContext -merge -underBinder
  intro x0
  try clear_value x0
  intro x1
  try clear_value x1
  refine within_ite (fun _ => ?_) (fun _ => ?_)
  · exact (State.showHeld_within _ _ (msub rfl hm) (State.modAsy_within _ _ _ (msub rfl hm) (Within.refl _)))
  · exact (State.modAsy_within _ _ _ (msub rfl hm) (within_set _ _ _ _ (fsub rfl hm) (Within.refl _)))

theorem State.commit_within {msk : Nat} {s00 : State} (s : State) (l : Lane) (r : LedgerRec) (hm : 524292 &&& msk = 524292) (h0 : Within msk s00 s) :
    Within msk s00 (State.commit s l r) := by
  refine within_trans h0 ?_
  unfold State.commit
  lift_lets -useContext -merge -underBinder
  intro x0
  have hx0 : Within1 msk s x0 := (State.commitSubmit_within _ _ _ (msub rfl hm) (Within.refl _))
  clear_value x0
  refine within_ite (fun _ => ?_) (fun _ => ?_)
  · exact hx0.h
  · exact (State.hold_within _ _ _ (msub rfl hm) hx0.h)

theorem State.resubmit_within {msk : Nat} {s00 : State} (s : State) (l : Lane) (hm : 524292 &&& msk = 524292) (h0 : Within msk s00 s) :
    Within msk s00 (State.resubmit s l) := by
  refine within_trans h0 ?_
  unfold State.resubmit
  split
  · exact (Within.refl _)
  · lift_lets -useContext -merge -underBinder
    intro x0
    have hx0 : Within1 msk s x0 := (State.commitSubmit_within _ _ _ (msub rfl hm) (Within.refl _))
    clear_value x0
    refine within_ite (fun _ => ?_) (fun _ => ?_)
    · exact (State.showHeld_within _ _ (msub rfl hm) (State.modAsy_within _ _ _ (msub rfl hm) hx0.h))
    · exact hx0.h

theorem State.debugOpened_within {msk : Nat} {s00 : State} (s : State) (l : Lane) (hm : 549755813887 &&& msk = 549755813887) (h0 : Within msk s00 s) :
    Within msk s00 (State.debugOpened s l) := by
  refine within_trans h0 ?_
  unfold State.debugOpened
  exact (State.resetIsland_within _ _ _ (msub rfl hm) (within_wr _ _ _ _ _ (fsub rfl hm) (within_modNv _ _ (msub rfl hm) (Within.refl _))))

theorem State.commitOutcome_within {msk : Nat} {s00 : State} (s : State) (l : Lane) (r : LedgerRec) (code : OutcomeCode) (hm : 549755813887 &&& msk = 549755813887) (h0 : Within msk s00 s) :
    Within msk s00 (State.commitOutcome s l r code) := by
  refine within_trans h0 ?_
  unfold State.commitOutcome
  lift_lets -useContext -merge -underBinder
  intro x0 x1
  try clear_value x1
  intro x2
  have hx2 : Within msk s x2 := (State.irq_within _ _ _ _ (msub rfl hm) (fsub rfl hm) (within_wr _ _ _ _ _ (fsub rfl hm) (Within.refl _)))
  clear_value x2
  split
  · lift_lets -useContext -merge -underBinder
    intro x3
    have hx3 : Within msk s x3 := (State.modAsy_within _ _ _ (msub rfl hm) (within_inc _ _ _ _ _ (fsub rfl hm) (State.ledgerWrite_within _ _ _ _ (msub rfl hm) hx2)))
    clear_value x3
    refine within_ite (fun _ => ?_) (fun _ => ?_)
    · exact (State.debugOpened_within _ _ (msub rfl hm) hx3)
    · exact (State.resubmit_within _ _ (msub rfl hm) hx3)
  · lift_lets -useContext -merge -underBinder
    intro x4
    try clear_value x4
    intro x5
    have hx5 : Within msk s x5 := (State.log_within _ _ _ _ (msub rfl hm) (within_set _ _ _ _ (fsub rfl hm) (State.modAsy_within _ _ _ (msub rfl hm) hx2)))
    clear_value x5
    intro x6
    have hx6 : Within msk s x6 := (within_ite (fun _ => (within_modRun _ _ (within_inc _ _ _ _ _ (fsub rfl hm) (within_wr _ _ _ _ _ (fsub rfl hm) hx5)) fun _ => ⟨rfl, rfl⟩)) (fun _ => hx5))
    clear_value x6
    refine within_ite (fun _ => ?_) (fun _ => ?_)
    · exact (State.resubmit_within _ _ (msub rfl hm) (State.commit_within _ _ _ (msub rfl hm) (State.modAsy_within _ _ _ (msub rfl hm) hx2)))
    · exact (State.resubmit_within _ _ (msub rfl hm) hx6)
  · exact (State.resubmit_within _ _ (msub rfl hm) hx2)

theorem State.asyExchange_within {msk : Nat} {s00 : State} (s : State) (l : Lane) (k : Nat) (hm : 524288 &&& msk = 524288) (h0 : Within msk s00 s) :
    Within msk s00 (State.asyExchange s l k) := by
  refine within_trans h0 ?_
  unfold State.asyExchange
  lift_lets -useContext -merge -underBinder
  intro x0
  try clear_value x0
  intro x1
  have hx1 : Within msk s x1 := (within_each _ _ (Within.refl _) (fun _ _ => (within_wr _ _ _ _ _ (fsub rfl hm) (Within.refl _))))
  clear_value x1
  refine within_ite (fun _ => ?_) (fun _ => ?_)
  · exact (State.modAsy_within _ _ _ (msub rfl hm) hx1)
  · exact (Within.refl _)

theorem State.asyBoundary_within {msk : Nat} {s00 : State} (s : State) (l : Lane) (k : Nat) (hm : 4398047297540 &&& msk = 4398047297540) (h0 : Within msk s00 s) :
    Within msk s00 (State.asyBoundary s l k) := by
  refine within_trans h0 ?_
  unfold State.asyBoundary
  lift_lets -useContext -merge -underBinder
  intro x0
  have hx0 : Within msk s x0 := (State.asyExchange_within _ _ _ (msub rfl hm) (Within.refl _))
  clear_value x0
  intro x1
  try clear_value x1
  intro x2
  have hx2 : Within msk s x2 := (within_ite (fun _ => (State.asyTrigger_within _ _ _ (msub rfl hm) hx0)) (fun _ => hx0))
  clear_value x2
  intro x3
  have hx3 : Within msk s x3 := (State.modAsy_within _ _ _ (msub rfl hm) hx2)
  clear_value x3
  intro x4
  try clear_value x4
  intro x5
  try clear_value x5
  intro x6
  try clear_value x6
  intro x7
  have hx7 : Within1 msk s x7 := (State.capture_within _ _ _ _ (msub rfl hm) hx3)
  clear_value x7
  intro x8
  try clear_value x8
  refine within_ite (fun _ => ?_) (fun _ => ?_)
  · refine within_ite (fun _ => ?_) (fun _ => ?_)
    · exact (State.commit_within _ _ _ (msub rfl hm) (within_when _ _ hx7.h (fun _ => (within_wr _ _ _ _ _ (fsub rfl hm) (Within.refl _)))))
    · refine within_ite (fun _ => ?_) (fun _ => ?_)
      · exact hx3
      · exact (State.modAsy_within _ _ _ (msub rfl hm) hx3)
  · exact (Within.refl _)

theorem State.asyLoad_within {msk : Nat} {s00 : State} (s : State) (l : Lane) (hm : 524288 &&& msk = 524288) (h0 : Within msk s00 s) :
    Within msk s00 (State.asyLoad s l) := by
  refine within_trans h0 ?_
  unfold State.asyLoad
  lift_lets -useContext -merge -underBinder
  intro x0 x1
  try clear_value x1
  intro x2
  try clear_value x2
  split
  · lift_lets -useContext -merge -underBinder
    intro x3
    have hx3 : Within msk s x3 := (State.modAsy_within _ _ _ (msub rfl hm) (Within.refl _))
    clear_value x3
    refine within_ite (fun _ => ?_) (fun _ => ?_)
    · exact (State.modAsy_within _ _ _ (msub rfl hm) hx3)
    · exact hx3
  · lift_lets -useContext -merge -underBinder
    intro x4
    try clear_value x4
    intro x5
    try clear_value x5
    intro x6
    have hx6 : Within msk s x6 := (within_wr _ _ _ _ _ (fsub rfl hm) (within_wr _ _ _ _ _ (fsub rfl hm) (Within.refl _)))
    clear_value x6
    exact (State.modAsy_within _ _ _ (msub rfl hm) hx6)


end Sys2Proof.Machine
end

