-- ==== Sys2Proof/Laws/WithinAdc.lean ====
section
/-!
SUPPORT. The operations of Machine/Adc.lean change nothing outside their masks (Laws/Within.lean).
-/
namespace Sys2Proof.Machine

theorem State.startPass_within {msk : Nat} {s00 : State} (s : State) (l : Lane) (g : Fin 12) (triggered : Bool) (hm : 0 &&& msk = 0) (h0 : Within msk s00 s) :
    Within msk s00 (State.startPass s l g triggered) := by
  refine within_trans h0 ?_
  unfold State.startPass
  exact (State.modGrp_within _ _ _ _ (msub rfl hm) (Within.refl _))

theorem State.takeTrigger_within {msk : Nat} {s00 : State} (s : State) (l : Lane) (g : Fin 12) (hm : 0 &&& msk = 0) (h0 : Within msk s00 s) :
    Within msk s00 (State.takeTrigger s l g) := by
  refine within_trans h0 ?_
  unfold State.takeTrigger
  exact (State.modGrp_within _ _ _ _ (msub rfl hm) (Within.refl _))

theorem State.triggerDue_within {msk : Nat} {s00 : State} (s : State) (l : Lane) (g : Fin 12) (hm : 8796093022208 &&& msk = 8796093022208) (h0 : Within msk s00 s) :
    Within msk s00 (State.triggerDue s l g) := by
  refine within_trans h0 ?_
  unfold State.triggerDue
  lift_lets -useContext -merge -underBinder
  intro x0
  try clear_value x0
  refine within_ite (fun _ => ?_) (fun _ => ?_)
  · exact (State.fireEv_within _ _ _ (msub rfl hm) (Within.refl _))
  · exact (Within.refl _)

theorem execAdcTrigger_within {msk : Nat} (l : Lane) (g : Fin 12) (s : State) (hm : 8796093022216 &&& msk = 8796093022216) :
    WithinOut msk s (execAdcTrigger l g s) := by
  unfold execAdcTrigger
  lift_lets -useContext -merge -underBinder
  intro x0 x1
  have hx1 : Within msk s x1 := (State.triggerDue_within _ _ _ (msub rfl hm) (Within.refl _))
  clear_value x1
  intro x2
  have hx2 : Within msk s x2 := (State.takeTrigger_within _ _ _ (msub rfl hm) hx1)
  clear_value x2
  exact withinOut_next (within_ite (fun _ => (within_ite (fun _ => (within_ite (fun _ => (within_inc _ _ _ _ _ (fsub rfl hm) (within_set _ _ _ _ (fsub rfl hm) hx2))) (fun _ => (within_inc _ _ _ _ _ (fsub rfl hm) (State.startPass_within _ _ _ _ (msub rfl hm) hx2))))) (fun _ => hx2))) (fun _ => hx1))

theorem State.countSample_within {msk : Nat} {s00 : State} (s : State) (l : Lane) (g : Fin 12) (raw : Nat) (normal : Bool) (hm : 8 &&& msk = 8) (h0 : Within msk s00 s) :
    Within msk s00 (State.countSample s l g raw normal) := by
  refine within_trans h0 ?_
  unfold State.countSample
  lift_lets -useContext -merge -underBinder
  intro x0 x1
  have hx1 : Within msk s x1 := (within_when _ _ (Within.refl _) (fun _ => (within_inc _ _ _ _ _ (fsub rfl hm) (within_set _ _ _ _ (fsub rfl hm) (Within.refl _)))))
  clear_value x1
  exact (within_when _ _ hx1 (fun _ => (State.modGrp_within _ _ _ _ (msub rfl hm) (within_inc _ _ _ _ _ (fsub rfl hm) (Within.refl _)))))

theorem State.calSample_within {msk : Nat} {s00 : State} (s : State) (l : Lane) (c : Nat) (y : Int) (normal : Bool) (hm : 0 &&& msk = 0) (h0 : Within msk s00 s) :
    Within msk s00 (State.calSample s l c y normal) := by
  refine within_trans h0 ?_
  unfold State.calSample
  lift_lets -useContext -merge -underBinder
  intro x0 x1
  try clear_value x1
  refine within_ite (fun _ => ?_) (fun _ => ?_)
  · exact (State.modAdc_within _ _ _ (msub rfl hm) (Within.refl _))
  · exact (Within.refl _)

theorem State.toDest_within {msk : Nat} {s00 : State} (s : State) (l : Lane) (g : Fin 12) (c z dest e stamp : Nat) (streaming : Bool) (hm : 12885950476 &&& msk = 12885950476) (h0 : Within msk s00 s) :
    Within msk s00 (State.toDest s l g c z dest e stamp streaming) := by
  refine within_trans h0 ?_
  unfold State.toDest
  lift_lets -useContext -merge -underBinder
  intro x0
  have hx0 : Within msk s x0 := (within_ite (fun _ => (State.event_within _ _ _ (msub rfl hm) (State.ceSource_within _ _ _ _ _ (msub rfl hm) (Within.refl _)))) (fun _ => (Within.refl _)))
  clear_value x0
  intro x1
  try clear_value x1
  refine within_ite (fun _ => ?_) (fun _ => ?_)
  · refine within_ite (fun _ => ?_) (fun _ => ?_)
    · refine within_ite (fun _ => ?_) (fun _ => ?_)
      · exact (State.pushQ11_within _ _ _ _ (msub rfl hm) (State.modGrp_within _ _ _ _ (msub rfl hm) hx0))
      · exact (State.modGrp_within _ _ _ _ (msub rfl hm) hx0)
    · exact (State.pushQ11_within _ _ _ _ (msub rfl hm) hx0)
  · exact hx0

theorem State.bandTap_within {msk : Nat} {s00 : State} (s : State) (l : Lane) (g : Fin 12) (c slice raw : Nat) (hm : 4398046511104 &&& msk = 4398046511104) (h0 : Within msk s00 s) :
    Within msk s00 (State.bandTap s l g c slice raw) := by
  refine within_trans h0 ?_
  unfold State.bandTap
  lift_lets -useContext -merge -underBinder
  intro x0 x1
  have hx1 : Within1 msk s x1 := (State.correct_within _ _ _ _ (msub rfl hm) (Within.refl _))
  clear_value x1
  intro x2
  try clear_value x2
  intro x3
  try clear_value x3
  exact (within_each _ _ hx1.h (fun _ _ => (within_when _ _ (Within.refl _) (fun _ => (State.modBand_within _ _ _ _ (msub rfl hm) (Within.refl _))))))

theorem State.result_within {msk : Nat} {s00 : State} (s : State) (l : Lane) (g : Fin 12) (slice : Nat) (raw before after : Nat) (c dest stamp : Nat) (streaming urgent restarted : Bool) (hm : 4582735347852 &&& msk = 4582735347852) (h0 : Within msk s00 s) :
    Within msk s00 (State.result s l g slice raw before after c dest stamp streaming urgent restarted) := by
  refine within_trans h0 ?_
  unfold State.result
  lift_lets -useContext -merge -underBinder
  intro x0
  try clear_value x0
  intro x1
  have hx1 : Within msk s x1 := (State.countSample_within _ _ _ _ _ (msub rfl hm) (Within.refl _))
  clear_value x1
  intro x2
  try clear_value x2
  intro x3
  have hx3 : Within1 msk s x3 := (State.correct_within _ _ _ _ (msub rfl hm) hx1)
  clear_value x3
  intro x4
  try clear_value x4
  intro x5
  have hx5 : Within msk s x5 := hx3.h
  clear_value x5
  intro x6
  try clear_value x6
  intro x7
  have hx7 : Within msk s x7 := (within_wr _ _ _ _ _ (fsub rfl hm) (State.calSample_within _ _ _ _ _ (msub rfl hm) hx5))
  clear_value x7
  intro x8
  have hx8 : Within msk s x8 := (within_ite (fun _ => (State.pushQ12_within _ _ _ _ (msub rfl hm) hx7)) (fun _ => (State.toDest_within _ _ _ _ _ _ _ _ _ (msub rfl hm) (within_when _ _ hx7 (fun _ => (State.bandTap_within _ _ _ _ _ _ (msub rfl hm) (Within.refl _)))))))
  clear_value x8
  exact (within_when _ _ hx8 (fun _ => (within_each _ _ (Within.refl _) (fun _ _ => (State.shortDetect_within _ _ _ _ _ _ (msub rfl hm) (Within.refl _))))))

theorem State.passResult_within {msk : Nat} {s00 : State} (s : State) (l : Lane) (g : Fin 12) (slice raw before after : Nat) (hm : 4582735347852 &&& msk = 4582735347852) (h0 : Within msk s00 s) :
    Within msk s00 (State.passResult s l g slice raw before after) := by
  refine within_trans h0 ?_
  unfold State.passResult
  lift_lets -useContext -merge -underBinder
  intro x0
  try clear_value x0
  exact (State.result_within _ _ _ _ _ _ _ _ _ _ _ _ _ (msub rfl hm) (State.modGrp_within _ _ _ _ (msub rfl hm) (Within.refl _)))

theorem State.normalResult_within {msk : Nat} {s00 : State} (s : State) (l : Lane) (g : Fin 12) (slice raw before after : Nat) (hm : 4582735347852 &&& msk = 4582735347852) (h0 : Within msk s00 s) :
    Within msk s00 (State.normalResult s l g slice raw before after) := by
  refine within_trans h0 ?_
  unfold State.normalResult
  lift_lets -useContext -merge -underBinder
  intro x0
  refine within_ite (fun _ => ?_) (fun _ => ?_)
  · exact (State.passResult_within _ _ _ _ _ _ _ (msub rfl hm) (Within.refl _))
  · refine within_ite (fun _ => ?_) (fun _ => ?_)
    · exact (State.resSample_within _ _ _ _ _ (msub rfl hm) (State.countSample_within _ _ _ _ _ (msub rfl hm) (Within.refl _)))
    · split
      · exact (State.result_within _ _ _ _ _ _ _ _ _ _ _ _ _ (msub rfl hm) (Within.refl _))
      · exact (State.passResult_within _ _ _ _ _ _ _ (msub rfl hm) (State.startPass_within _ _ _ _ (msub rfl hm) (Within.refl _)))
      · exact (Within.refl _)

theorem State.abortEntry_within {msk : Nat} {s00 : State} (s : State) (l : Lane) (g : Fin 12) (hm : 0 &&& msk = 0) (h0 : Within msk s00 s) :
    Within msk s00 (State.abortEntry s l g) := by
  refine within_trans h0 ?_
  unfold State.abortEntry
  lift_lets -useContext -merge -underBinder
  intro x0
  have hx0 : Within msk s x0 := (within_ite (fun _ => (State.startPass_within _ _ _ _ (msub rfl hm) (Within.refl _))) (fun _ => (Within.refl _)))
  clear_value x0
  intro x1
  try clear_value x1
  refine within_ite (fun _ => ?_) (fun _ => ?_)
  · exact (State.modGrp_within _ _ _ _ (msub rfl hm) hx0)
  · exact hx0

theorem State.urgentResult_within {msk : Nat} {s00 : State} (s : State) (l : Lane) (g : Fin 12) (slice raw : Nat) (aborts : Bool) (hm : 4582735347852 &&& msk = 4582735347852) (h0 : Within msk s00 s) :
    Within msk s00 (State.urgentResult s l g slice raw aborts) := by
  refine within_trans h0 ?_
  unfold State.urgentResult
  split
  · exact (Within.refl _)
  · lift_lets -useContext -merge -underBinder
    intro x0
    have hx0 : Within msk s x0 := (within_when _ _ (Within.refl _) (fun _ => (State.abortEntry_within _ _ _ (msub rfl hm) (Within.refl _))))
    clear_value x0
    intro x2
    have hx2 : Within msk s x2 := (within_wrBit _ _ _ _ _ (fsub rfl hm) (State.modGrp_within _ _ _ _ (msub rfl hm) hx0))
    clear_value x2
    exact (State.result_within _ _ _ _ _ _ _ _ _ _ _ _ _ (msub rfl hm) hx2)

theorem State.restartedResult_within {msk : Nat} {s00 : State} (s : State) (l : Lane) (g : Fin 12) (slice raw : Nat) (hm : 4582735347852 &&& msk = 4582735347852) (h0 : Within msk s00 s) :
    Within msk s00 (State.restartedResult s l g slice raw) := by
  refine within_trans h0 ?_
  unfold State.restartedResult
  split
  · exact (Within.refl _)
  · exact (State.result_within _ _ _ _ _ _ _ _ _ _ _ _ _ (msub rfl hm) (State.modGrp_within _ _ _ _ (msub rfl hm) (Within.refl _)))

theorem execAdcResult_within {msk : Nat} (l : Lane) (g : Fin 12) (slice : Fin 4) (raw before after : BitVec 14) (kind : ConvKind) (s : State) (hm : 4582735347852 &&& msk = 4582735347852) :
    WithinOut msk s (execAdcResult l g slice raw before after kind s) := by
  unfold execAdcResult
  exact withinOut_next (within_ite (fun _ => (by
    split
    · exact (State.normalResult_within _ _ _ _ _ _ _ (msub rfl hm) (Within.refl _))
    · exact (State.urgentResult_within _ _ _ _ _ _ (msub rfl hm) (Within.refl _))
    · exact (State.restartedResult_within _ _ _ _ _ (msub rfl hm) (Within.refl _))
)) (fun _ => (Within.refl _)))

theorem State.urgentRequest_within {msk : Nat} {s00 : State} (s : State) (l : Lane) (g c : Nat) (hm : 8 &&& msk = 8) (h0 : Within msk s00 s) :
    Within msk s00 (State.urgentRequest s l g c) := by
  refine within_trans h0 ?_
  unfold State.urgentRequest
  lift_lets -useContext -merge -underBinder
  intro x0 x1
  try clear_value x1
  intro x2
  have hx2 : Within msk s x2 := (within_wr _ _ _ _ _ (fsub rfl hm) (within_wr _ _ _ _ _ (fsub rfl hm) (Within.refl _)))
  clear_value x2
  refine within_dite (fun _ => ?_) (fun _ => ?_)
  · exact (within_inc _ _ _ _ _ (fsub rfl hm) (State.modGrp_within _ _ _ _ (msub rfl hm) (within_wrBit _ _ _ _ _ (fsub rfl hm) hx2)))
  · exact (within_inc _ _ _ _ _ (fsub rfl hm) hx2)

theorem execAdcUrgent_within {msk : Nat} (l : Lane) (g : Fin 16) (c : Fin 64) (s : State) (hm : 8 &&& msk = 8) :
    WithinOut msk s (execAdcUrgent l g c s) := by
  unfold execAdcUrgent
  exact withinOut_next (within_ite (fun _ => (State.urgentRequest_within _ _ _ _ (msub rfl hm) (Within.refl _))) (fun _ => (Within.refl _)))

theorem State.adcPop_within {msk : Nat} {s00 : State} (s : State) (l : Lane) (urgent : Bool) (hm : 8 &&& msk = 8) (h0 : Within msk s00 s) :
    Within msk s00 (State.adcPop s l urgent) := by
  refine within_trans h0 ?_
  unfold State.adcPop
  lift_lets -useContext -merge -underBinder
  intro x0 x1
  try clear_value x1
  split
  · exact (within_modRun _ _ (Within.refl _) fun _ => ⟨rfl, rfl⟩)
  · lift_lets -useContext -merge -underBinder
    intro x2
    have hx2 : Within msk s x2 := (within_modRun _ _ (Within.refl _) fun _ => ⟨rfl, rfl⟩)
    clear_value x2
    refine within_ite (fun _ => ?_) (fun _ => ?_)
    · exact (within_wr _ _ _ _ _ (fsub rfl hm) (State.modAdc_within _ _ _ (msub rfl hm) hx2))
    · exact (within_wr _ _ _ _ _ (fsub rfl hm) (State.modAdc_within _ _ _ (msub rfl hm) hx2))

theorem execAdcQueuePop_within {msk : Nat} (l : Lane) (urgent : Bool) (s : State) (hm : 8 &&& msk = 8) :
    WithinOut msk s (execAdcQueuePop l urgent s) := by
  unfold execAdcQueuePop
  exact withinOut_next (within_ite (fun _ => (State.adcPop_within _ _ _ (msub rfl hm) (Within.refl _))) (fun _ => (Within.refl _)))

theorem State.stepSlice_within {msk : Nat} {s00 : State} (s : State) (l : Lane) (g : Nat) (k : Nat) (e : Int × Int × Int) (hm : 8 &&& msk = 8) (h0 : Within msk s00 s) :
    Within msk s00 (State.stepSlice s l g k e) := by
  refine within_trans h0 ?_
  unfold State.stepSlice
  lift_lets -useContext -merge -underBinder
  intro x0
  exact (within_wrS _ _ _ _ _ (fsub rfl hm) (within_wrS _ _ _ _ _ (fsub rfl hm) (within_wrS _ _ _ _ _ (fsub rfl hm) (Within.refl _))))

theorem execAdcEstStep_within {msk : Nat} (l : Lane) (g : Fin 12) (est : List (Int × Int × Int)) (quiet : Bool) (s : State) (hm : 8 &&& msk = 8) :
    WithinOut msk s (execAdcEstStep l g est quiet s) := by
  unfold execAdcEstStep
  lift_lets -useContext -merge -underBinder
  intro x0 x1
  try clear_value x1
  intro x2
  try clear_value x2
  intro x3
  have hx3 : Within msk s x3 := (State.modGrp_within _ _ _ _ (msub rfl hm) (Within.refl _))
  clear_value x3
  intro x4
  have hx4 : Within msk s x4 := (within_put _ _ _ _ _ (fsub rfl hm) hx3)
  clear_value x4
  intro x5
  have hx5 : Within msk s x5 := (within_each _ _ hx4 (fun _ _ => (State.stepSlice_within _ _ _ _ _ (msub rfl hm) (Within.refl _))))
  clear_value x5
  exact withinOut_next (within_ite (fun _ => (within_ite (fun _ => hx4) (fun _ => (within_wr _ _ _ _ _ (fsub rfl hm) hx5)))) (fun _ => (Within.refl _)))

theorem execAdcCorrWrite_within {msk : Nat} (l : Lane) (c : Fin 64) (gain offset : BitVec 16) (s : State) (hm : 24 &&& msk = 24) :
    WithinOut msk s (execAdcCorrWrite l c gain offset s) := by
  unfold execAdcCorrWrite
  exact withinOut_next (within_ite (fun _ => (State.corrWrite_within _ _ _ _ _ (msub rfl hm) (Within.refl _))) (fun _ => (Within.refl _)))

theorem execSyscalMeasure_within {msk : Nat} (l : Lane) (s : State) (hm : 8 &&& msk = 8) :
    WithinOut msk s (execSyscalMeasure l s) := by
  unfold execSyscalMeasure
  lift_lets -useContext -merge -underBinder
  intro x0
  exact withinOut_next (within_ite (fun _ => (within_ite (fun _ => (State.modAdc_within _ _ _ (msub rfl hm) (within_set _ _ _ _ (fsub rfl hm) (Within.refl _)))) (fun _ => (within_wr _ _ _ _ _ (fsub rfl hm) (Within.refl _))))) (fun _ => (Within.refl _)))

theorem execSyscalCollectDone_within {msk : Nat} (l : Lane) (s : State) (hm : 4398046511112 &&& msk = 4398046511112) :
    WithinOut msk s (execSyscalCollectDone l s) := by
  unfold execSyscalCollectDone
  lift_lets -useContext -merge -underBinder
  intro x0 x1
  try clear_value x1
  intro x2
  have hx2 : Within1 msk s x2 := (State.quot_within _ _ _ (msub rfl hm) (Within.refl _))
  clear_value x2
  intro x3
  try clear_value x3
  intro x4
  have hx4 : Within msk s x4 := hx2.h
  clear_value x4
  intro x5
  try clear_value x5
  intro x6
  have hx6 : Within msk s x6 := (within_wr _ _ _ _ _ (fsub rfl hm) (within_clr _ _ _ _ (fsub rfl hm) hx4))
  clear_value x6
  exact withinOut_next (within_ite (fun _ => (within_ite (fun _ => (within_set _ _ _ _ (fsub rfl hm) (within_wr _ _ _ _ _ (fsub rfl hm) hx6))) (fun _ => (within_set _ _ _ _ (fsub rfl hm) (within_wr _ _ _ _ _ (fsub rfl hm) hx6))))) (fun _ => (Within.refl _)))

theorem execSyscalApply_within {msk : Nat} (l : Lane) (s : State) (hm : 4398046511128 &&& msk = 4398046511128) :
    WithinOut msk s (execSyscalApply l s) := by
  unfold execSyscalApply
  lift_lets -useContext -merge -underBinder
  intro x0 x1
  try clear_value x1
  intro x2
  try clear_value x2
  intro x3
  try clear_value x3
  intro x4
  try clear_value x4
  intro x5
  try clear_value x5
  intro x6
  have hx6 : Within1 msk s x6 := (State.roundQ_within _ _ _ (msub rfl hm) (Within.refl _))
  clear_value x6
  intro x7
  try clear_value x7
  intro x8
  have hx8 : Within msk s x8 := hx6.h
  clear_value x8
  intro x9
  have hx9 : Within1 msk s x9 := (State.roundQ_within _ _ _ (msub rfl hm) hx8)
  clear_value x9
  intro x10
  try clear_value x10
  intro x11
  have hx11 : Within msk s x11 := hx9.h
  clear_value x11
  exact withinOut_next (within_ite (fun _ => (within_ite (fun _ => (within_wr _ _ _ _ _ (fsub rfl hm) (Within.refl _))) (fun _ => (within_ite (fun _ => (within_wr _ _ _ _ _ (fsub rfl hm) (Within.refl _))) (fun _ => (within_ite (fun _ => (within_wr _ _ _ _ _ (fsub rfl hm) (Within.refl _))) (fun _ => (within_ite (fun _ => (within_wr _ _ _ _ _ (fsub rfl hm) (State.corrWrite_within _ _ _ _ _ (msub rfl hm) hx11))) (fun _ => (within_wr _ _ _ _ _ (fsub rfl hm) hx11)))))))))) (fun _ => (Within.refl _)))

theorem execSyscalAbort_within {msk : Nat} (l : Lane) (s : State) (hm : 8 &&& msk = 8) :
    WithinOut msk s (execSyscalAbort l s) := by
  unfold execSyscalAbort
  lift_lets -useContext -merge -underBinder
  intro x0
  exact withinOut_next (within_ite (fun _ => (within_wr _ _ _ _ _ (fsub rfl hm) (within_clr _ _ _ _ (fsub rfl hm) (Within.refl _)))) (fun _ => (Within.refl _)))

theorem State.sdfValue_within {msk : Nat} {s00 : State} (s : State) (l : Lane) (n : Fin 12) (rising falling : List Bool) (hm : 4398046511104 &&& msk = 4398046511104) (h0 : Within msk s00 s) :
    Within11 msk s00 (State.sdfValue s l n rising falling) := by
  refine within11_trans h0 ?_
  unfold State.sdfValue
  lift_lets -useContext -merge -underBinder
  intro x0 x1
  try clear_value x1
  intro x2
  try clear_value x2
  intro x3
  have hx3 : Within1 msk s x3 := (State.quot_within _ _ _ (msub rfl hm) (Within.refl _))
  clear_value x3
  intro x4
  try clear_value x4
  intro x5
  try clear_value x5
  intro x6
  have hx6 : Within1 msk s x6 := (State.quot_within _ _ _ (msub rfl hm) hx3.h)
  clear_value x6
  intro x7
  try clear_value x7
  intro x8
  have hx8 : Within msk s x8 := hx6.h
  clear_value x8
  intro x9
  have hx9 : Within1 msk s x9 := (State.fit_within _ _ _ (msub rfl hm) hx8)
  clear_value x9
  intro x10
  try clear_value x10
  intro x11
  have hx11 : Within msk s x11 := hx9.h
  clear_value x11
  exact ⟨Within.snd hx11⟩

theorem execSdfTripCompare_within {msk : Nat} (l : Lane) (n : Fin 12) (rising falling : List Bool) (s : State) (hm : 171802886292 &&& msk = 171802886292) :
    WithinOut msk s (execSdfTripCompare l n rising falling s) := by
  unfold execSdfTripCompare
  lift_lets -useContext -merge -underBinder
  intro x0 x1
  try clear_value x1
  intro x2
  try clear_value x2
  intro x3
  try clear_value x3
  intro x4
  have hx4 : Within msk s x4 := (within_wr _ _ _ _ _ (fsub rfl hm) (Within.refl _))
  clear_value x4
  exact withinOut_next (within_ite (fun _ => (within_ite (fun _ => hx4) (fun _ => (State.sdfTrip_within _ _ _ _ _ (msub rfl hm) hx4)))) (fun _ => (Within.refl _)))

theorem execSdfStuck_within {msk : Nat} (l : Lane) (n : Fin 12) (s : State) (hm : 171803410580 &&& msk = 171803410580) :
    WithinOut msk s (execSdfStuck l n s) := by
  unfold execSdfStuck
  exact withinOut_next (within_ite (fun _ => (State.asySync_within _ _ (msub rfl hm) (State.sdfFault_within _ _ _ _ (msub rfl hm) (fsub rfl hm) (Within.refl _)))) (fun _ => (Within.refl _)))

theorem execSdfClkFault_within {msk : Nat} (l : Lane) (n : Fin 12) (s : State) (hm : 171803410580 &&& msk = 171803410580) :
    WithinOut msk s (execSdfClkFault l n s) := by
  unfold execSdfClkFault
  exact withinOut_next (within_ite (fun _ => (State.asySync_within _ _ (msub rfl hm) (State.sdfFault_within _ _ _ _ (msub rfl hm) (fsub rfl hm) (Within.refl _)))) (fun _ => (Within.refl _)))

theorem execSdfRefilled_within {msk : Nat} (l : Lane) (n : Fin 12) (s : State) (hm : 171803410580 &&& msk = 171803410580) :
    WithinOut msk s (execSdfRefilled l n s) := by
  unfold execSdfRefilled
  lift_lets -useContext -merge -underBinder
  intro x0
  exact withinOut_next (within_ite (fun _ => (State.asySync_within _ _ (msub rfl hm) (State.sdfCleared_within _ _ _ (msub rfl hm) (within_set _ _ _ _ (fsub rfl hm) (Within.refl _))))) (fun _ => (Within.refl _)))


end Sys2Proof.Machine
end

