-- ==== Sys2Proof/Laws/WithinAssay.lean ====
section
/-!
SUPPORT. The operations of Machine/Assay.lean change nothing outside their masks (Laws/Within.lean).
-/
namespace Sys2Proof.Machine

theorem execSdfResult_within {msk : Nat} (l : Lane) (n : Fin 12) (rising falling : List Bool) (s : State) (hm : 4410932985872 &&& msk = 4410932985872) :
    WithinOut msk s (execSdfResult l n rising falling s) := by
  unfold execSdfResult
  lift_lets -useContext -merge -underBinder
  intro x0 x1
  have hx1 : Within11 msk s x1 := (State.sdfValue_within _ _ _ _ _ (msub rfl hm) (Within.refl _))
  clear_value x1
  intro x2
  try clear_value x2
  intro x3
  try clear_value x3
  intro x4
  have hx4 : Within msk s x4 := hx1.h
  clear_value x4
  intro x5
  have hx5 : Within msk s x5 := (within_set _ _ _ _ (fsub rfl hm) (within_wr _ _ _ _ _ (fsub rfl hm) (within_wrS _ _ _ _ _ (fsub rfl hm) hx4)))
  clear_value x5
  intro x6
  have hx6 : Within msk s x6 := (State.irq_within _ _ _ _ (msub rfl hm) (fsub rfl hm) (within_when _ _ hx5 (fun _ => (within_set _ _ _ _ (fsub rfl hm) (Within.refl _)))))
  clear_value x6
  intro x8
  have hx8 : Within msk s x8 := (within_when _ _ hx6 (fun _ => (State.ceSource_within _ _ _ _ _ (msub rfl hm) (Within.refl _))))
  clear_value x8
  intro x10
  have hx10 : Within msk s x10 := (State.event_within _ _ _ (msub rfl hm) hx8)
  clear_value x10
  exact withinOut_next (within_ite (fun _ => (within_when _ _ hx10 (fun _ => (State.asyResult_within _ _ _ _ _ (msub rfl hm) (Within.refl _))))) (fun _ => (Within.refl _)))

theorem execAsyReqCommit_within {msk : Nat} (l : Lane) (s : State) (hm : 0 &&& msk = 0) :
    WithinOut msk s (execAsyReqCommit l s) := by
  unfold execAsyReqCommit
  exact withinOut_next (within_ite (fun _ => (State.asyTrigger_within _ _ _ (msub rfl hm) (Within.refl _))) (fun _ => (Within.refl _)))

theorem State.adopt_within {msk : Nat} {s00 : State} (s : State) (l : Lane) (k imp exp : Nat) (hm : 524288 &&& msk = 524288) (h0 : Within msk s00 s) :
    Within msk s00 (State.adopt s l k imp exp) := by
  refine within_trans h0 ?_
  unfold State.adopt
  lift_lets -useContext -merge -underBinder
  intro x0 x1
  try clear_value x1
  intro x2
  try clear_value x2
  intro x3
  try clear_value x3
  intro x4
  try clear_value x4
  intro x5
  try clear_value x5
  intro x6
  have hx6 : Within msk s x6 := (State.asyFlag_within _ _ _ (msub rfl hm) (within_set _ _ _ _ (fsub rfl hm) (State.modAsy_within _ _ _ (msub rfl hm) (Within.refl _))))
  clear_value x6
  exact (within_when _ _ hx6 (fun _ => (State.asyFlag_within _ _ _ (msub rfl hm) (within_set _ _ _ _ (fsub rfl hm) (Within.refl _)))))

theorem State.deviation_within {msk : Nat} {s00 : State} (s : State) (own par : Nat) (hm : 4398046511104 &&& msk = 4398046511104) (h0 : Within msk s00 s) :
    Within1 msk s00 (State.deviation s own par) := by
  refine within1_trans h0 ?_
  unfold State.deviation
  lift_lets -useContext -merge -underBinder
  intro x0
  try clear_value x0
  refine within1_ite (fun _ => ?_) (fun _ => ?_)
  · exact (State.quot_within _ _ _ (msub rfl hm) (Within.refl _))
  · exact ⟨Within.snd (Within.refl _)⟩

theorem State.xClose_within {msk : Nat} {s00 : State} (s : State) (l : Lane) (di de pi pe : Nat) (hm : 4398047035396 &&& msk = 4398047035396) (h0 : Within msk s00 s) :
    Within msk s00 (State.xClose s l di de pi pe) := by
  refine within_trans h0 ?_
  unfold State.xClose
  lift_lets -useContext -merge -underBinder
  intro x0 x1
  have hx1 : Within1 msk s x1 := (State.deviation_within _ _ _ (msub rfl hm) (Within.refl _))
  clear_value x1
  intro x2
  try clear_value x2
  intro x3
  have hx3 : Within msk s x3 := hx1.h
  clear_value x3
  intro x4
  have hx4 : Within1 msk s x4 := (State.deviation_within _ _ _ (msub rfl hm) hx3)
  clear_value x4
  intro x5
  try clear_value x5
  intro x6
  have hx6 : Within msk s x6 := hx4.h
  clear_value x6
  intro x7
  have hx7 : Within msk s x7 := (within_wrS _ _ _ _ _ (fsub rfl hm) hx6)
  clear_value x7
  refine within_ite (fun _ => ?_) (fun _ => ?_)
  · exact (State.log_within _ _ _ _ (msub rfl hm) (State.irq_within _ _ _ _ (msub rfl hm) (fsub rfl hm) (within_inc _ _ _ _ _ (fsub rfl hm) (within_set _ _ _ _ (fsub rfl hm) hx7))))
  · exact hx7

theorem State.crossCheck_within {msk : Nat} {s00 : State} (s : State) (l : Lane) (k imp exp : Nat) (hm : 4398047035396 &&& msk = 4398047035396) (h0 : Within msk s00 s) :
    Within msk s00 (State.crossCheck s l k imp exp) := by
  refine within_trans h0 ?_
  unfold State.crossCheck
  lift_lets -useContext -merge -underBinder
  intro x0 x1
  try clear_value x1
  split
  · exact (Within.refl _)
  · lift_lets -useContext -merge -underBinder
    intro x2
    try clear_value x2
    split
    · exact (within_wr _ _ _ _ _ (fsub rfl hm) (State.modAsy_within _ _ _ (msub rfl hm) (Within.refl _)))
    · lift_lets -useContext -merge -underBinder
      intro x3
      try clear_value x3
      intro x4
      try clear_value x4
      refine within_ite (fun _ => ?_) (fun _ => ?_)
      · exact (within_wr _ _ _ _ _ (fsub rfl hm) (State.modAsy_within _ _ _ (msub rfl hm) (State.xClose_within _ _ _ _ _ _ (msub rfl hm) (Within.refl _))))
      · exact (within_wr _ _ _ _ _ (fsub rfl hm) (State.modAsy_within _ _ _ (msub rfl hm) (Within.refl _)))

theorem execAsyXinSubmit_within {msk : Nat} (l : Lane) (crc : BitVec 32) (s : State) (hm : 4398047035396 &&& msk = 4398047035396) :
    WithinOut msk s (execAsyXinSubmit l crc s) := by
  unfold execAsyXinSubmit
  lift_lets -useContext -merge -underBinder
  intro x0 x1
  have hx1 : Within msk s x1 := (within_wr _ _ _ _ _ (fsub rfl hm) (Within.refl _))
  clear_value x1
  intro x2 x3
  try clear_value x3
  intro x4
  try clear_value x4
  exact withinOut_next (within_ite (fun _ => (within_ite (fun _ => (within_inc _ _ _ _ _ (fsub rfl hm) hx1)) (fun _ => (within_ite (fun _ => hx1) (fun _ => (within_ite (fun _ => (State.crossCheck_within _ _ _ _ _ (msub rfl hm) hx1)) (fun _ => (State.adopt_within _ _ _ _ _ (msub rfl hm) hx1)))))))) (fun _ => (Within.refl _)))

theorem execHoldup_within {msk : Nat} (l : Lane) (written tagOk : Bool) (s : State) (hm : 4415226904576 &&& msk = 4415226904576) :
    WithinOut msk s (execHoldup l written tagOk s) := by
  unfold execHoldup
  lift_lets -useContext -merge -underBinder
  intro x0 x1
  try clear_value x1
  intro x2
  try clear_value x2
  intro x3
  have hx3 : Within1 msk s x3 := (State.capture_within _ _ _ _ (msub rfl hm) (Within.refl _))
  clear_value x3
  intro x4
  have hx4 : Within msk s x4 := (within_clr _ _ _ _ (fsub rfl hm) (State.showHeld_within _ _ (msub rfl hm) (State.modAsy_within _ _ _ (msub rfl hm) hx3.h)))
  clear_value x4
  intro x5
  have hx5 : Within1 msk s x5 := (State.freeWords_within _ _ (msub rfl hm) hx4)
  clear_value x5
  intro x6
  have hx6 : Within1 msk s x6 := (within1_ite (fun _ => ⟨Within.snd (within_modNv _ _ (msub rfl hm) hx4)⟩) (fun _ => ⟨Within.snd hx5.h⟩))
  clear_value x6
  intro x7
  have hx7 : Within msk s x7 := hx6.h
  clear_value x7
  intro x8
  try clear_value x8
  exact withinOut_next (within_ite (fun _ => (within_ite (fun _ => (within_set _ _ _ _ (fsub rfl hm) (State.ledgerWrite_within _ _ _ _ (msub rfl hm) hx7))) (fun _ => hx7))) (fun _ => (Within.refl _)))

theorem execCountersign_within {msk : Nat} (l : Lane) (s : State) (hm : 17180393472 &&& msk = 17180393472) :
    WithinOut msk s (execCountersign l s) := by
  unfold execCountersign
  exact withinOut_next (within_ite (fun _ => (by
    split
    · lift_lets -useContext -merge -underBinder
      intro x0
      have hx0 : Within msk s x0 := (State.slotWrite_within _ _ _ (msub rfl hm) (Within.refl _))
      clear_value x0
      exact (State.asySync_within _ _ (msub rfl hm) (State.modAsy_within _ _ _ (msub rfl hm) hx0))
    · exact (Within.refl _)
)) (fun _ => (Within.refl _)))


end Sys2Proof.Machine
end

