-- ==== Sys2Proof/Laws/WithinCe.lean ====
section
/-!
SUPPORT. The operations of Machine/Ce.lean change nothing outside their masks (Laws/Within.lean).
-/
namespace Sys2Proof.Machine

theorem State.bandSyncL_within {msk : Nat} {s00 : State} (s : State) (l : Lane) (n : Fin 32) (hm : 64 &&& msk = 64) (h0 : Within msk s00 s) :
    Within msk s00 (State.bandSyncL s l n) := by
  refine within_trans h0 ?_
  unfold State.bandSyncL
  exact (within_put _ _ _ _ _ (fsub rfl hm) (Within.refl _))

theorem State.bandFail_within {msk : Nat} {s00 : State} (s : State) (l : Lane) (n : Fin 32) (flag : Fld) (hm : 171802886340 &&& msk = 171802886340) (hg3 : flag.inM msk = true) (h0 : Within msk s00 s) :
    Within msk s00 (State.bandFail s l n flag) := by
  refine within_trans h0 ?_
  unfold State.bandFail
  lift_lets -useContext -merge -underBinder
  intro x0 x1
  have hx1 : Within msk s x1 := (within_set _ _ _ _ hg3 (Within.refl _))
  clear_value x1
  refine within_ite (fun _ => ?_) (fun _ => ?_)
  · exact hx1
  · exact (State.irq_within _ _ _ _ (msub rfl hm) (fsub rfl hm) (State.raiseTg_within _ _ _ _ _ (msub rfl hm) (State.modCh_within _ _ _ _ (msub rfl hm) (within_wr _ _ _ _ _ (fsub rfl hm) hx1))))

theorem State.bandStart_within {msk : Nat} {s00 : State} (s : State) (l : Lane) (n : Fin 32) (hm : 64 &&& msk = 64) (h0 : Within msk s00 s) :
    Within msk s00 (State.bandStart s l n) := by
  refine within_trans h0 ?_
  unfold State.bandStart
  lift_lets -useContext -merge -underBinder
  intro x0 x1
  try clear_value x1
  refine within_ite (fun _ => ?_) (fun _ => ?_)
  · exact (within_set _ _ _ _ (fsub rfl hm) (Within.refl _))
  · exact (State.toSettle_within _ _ _ (msub rfl hm) (State.modBand_within _ _ _ _ (msub rfl hm) (within_wr _ _ _ _ _ (fsub rfl hm) (State.bandSyncL_within _ _ _ (msub rfl hm) (within_clr _ _ _ _ (fsub rfl hm) (Within.refl _))))))

theorem State.bandRecover_within {msk : Nat} {s00 : State} (s : State) (l : Lane) (n : Fin 32) (hm : 64 &&& msk = 64) (h0 : Within msk s00 s) :
    Within msk s00 (State.bandRecover s l n) := by
  refine within_trans h0 ?_
  unfold State.bandRecover
  exact (State.toSettle_within _ _ _ (msub rfl hm) (State.bandSyncL_within _ _ _ (msub rfl hm) (within_clr _ _ _ _ (fsub rfl hm) (Within.refl _))))

theorem State.bandJudge_within {msk : Nat} {s00 : State} (s : State) (l : Lane) (n : Fin 32) (hm : 171802886340 &&& msk = 171802886340) (h0 : Within msk s00 s) :
    Within msk s00 (State.bandJudge s l n) := by
  refine within_trans h0 ?_
  unfold State.bandJudge
  lift_lets -useContext -merge -underBinder
  intro x0
  refine within_ite (fun _ => ?_) (fun _ => ?_)
  · refine within_ite (fun _ => ?_) (fun _ => ?_)
    · exact (State.bandStart_within _ _ _ (msub rfl hm) (Within.refl _))
    · refine within_ite (fun _ => ?_) (fun _ => ?_)
      · exact (State.bandFail_within _ _ _ _ (msub rfl hm) (fsub rfl hm) (Within.refl _))
      · refine within_ite (fun _ => ?_) (fun _ => ?_)
        · exact (State.bandRecover_within _ _ _ (msub rfl hm) (Within.refl _))
        · exact (Within.refl _)
  · exact (within_clr _ _ _ _ (fsub rfl hm) (Within.refl _))

theorem State.bandJudgeAll_within {msk : Nat} {s00 : State} (s : State) (l : Lane) (hm : 171802886340 &&& msk = 171802886340) (h0 : Within msk s00 s) :
    Within msk s00 (State.bandJudgeAll s l) := by
  refine within_trans h0 ?_
  unfold State.bandJudgeAll
  exact (within_when _ _ (Within.refl _) (fun _ => (within_each _ _ (Within.refl _) (fun _ _ => (State.bandJudge_within _ _ _ (msub rfl hm) (Within.refl _))))))

theorem execBandEnable_within {msk : Nat} (l : Lane) (n : Fin 32) (s : State) (hm : 64 &&& msk = 64) :
    WithinOut msk s (execBandEnable l n s) := by
  unfold execBandEnable
  lift_lets -useContext -merge -underBinder
  intro x0
  exact withinOut_next (within_ite (fun _ => (State.bandStart_within _ _ _ (msub rfl hm) (within_set _ _ _ _ (fsub rfl hm) (Within.refl _)))) (fun _ => (Within.refl _)))

theorem State.bandStop_within {msk : Nat} {s00 : State} (s : State) (l : Lane) (n : Fin 32) (hm : 64 &&& msk = 64) (h0 : Within msk s00 s) :
    Within msk s00 (State.bandStop s l n) := by
  refine within_trans h0 ?_
  unfold State.bandStop
  exact (State.modCh_within _ _ _ _ (msub rfl hm) (State.modBand_within _ _ _ _ (msub rfl hm) (within_wr _ _ _ _ _ (fsub rfl hm) (Within.refl _))))

theorem State.bandCommit_within {msk : Nat} {s00 : State} (s : State) (l : Lane) (n : Fin 32) (x : Int) (late : Bool) (hm : 64 &&& msk = 64) (h0 : Within msk s00 s) :
    Within msk s00 (State.bandCommit s l n x late) := by
  refine within_trans h0 ?_
  unfold State.bandCommit
  lift_lets -useContext -merge -underBinder
  intro x0 x1
  try clear_value x1
  intro x2
  try clear_value x2
  intro x3
  have hx3 : Within msk s x3 := (within_wr _ _ _ _ _ (fsub rfl hm) (State.modBand_within _ _ _ _ (msub rfl hm) (Within.refl _)))
  clear_value x3
  intro x4
  have hx4 : Within msk s x4 := (State.modCh_within _ _ _ _ (msub rfl hm) hx3)
  clear_value x4
  refine within_ite (fun _ => ?_) (fun _ => ?_)
  · exact (within_inc _ _ _ _ _ (fsub rfl hm) (within_set _ _ _ _ (fsub rfl hm) hx4))
  · exact hx4

theorem State.bandTrackRule_within {msk : Nat} {s00 : State} (s : State) (l : Lane) (n : Fin 32) (t skew e : Int) (hm : 4398046511168 &&& msk = 4398046511168) (h0 : Within msk s00 s) :
    Within msk s00 (State.bandTrackRule s l n t skew e) := by
  refine within_trans h0 ?_
  unfold State.bandTrackRule
  lift_lets -useContext -merge -underBinder
  intro x0
  try clear_value x0
  intro x1
  try clear_value x1
  intro x2
  have hx2 : Within1 msk s x2 := (State.quot_within _ _ _ (msub rfl hm) (Within.refl _))
  clear_value x2
  intro x3
  try clear_value x3
  intro x4
  try clear_value x4
  intro x5
  try clear_value x5
  intro x6
  try clear_value x6
  intro x7
  try clear_value x7
  intro x8
  try clear_value x8
  intro x9
  have hx9 : Within1 msk s x9 := (State.quot_within _ _ _ (msub rfl hm) (Within.refl _))
  clear_value x9
  refine within_ite (fun _ => ?_) (fun _ => ?_)
  · exact (State.bandCommit_within _ _ _ _ _ (msub rfl hm) hx2.h)
  · refine within_ite (fun _ => ?_) (fun _ => ?_)
    · refine within_ite (fun _ => ?_) (fun _ => ?_)
      · exact (State.bandCommit_within _ _ _ _ _ (msub rfl hm) hx9.h)
      · exact (Within.refl _)
    · exact (Within.refl _)

theorem State.bandProbes_within {msk : Nat} {s00 : State} (s : State) (l : Lane) (n : Fin 32) (hm : 12885950464 &&& msk = 12885950464) (h0 : Within msk s00 s) :
    Within msk s00 (State.bandProbes s l n) := by
  refine within_trans h0 ?_
  unfold State.bandProbes
  lift_lets -useContext -merge -underBinder
  intro x0
  try clear_value x0
  intro x1
  try clear_value x1
  exact (State.traceUpdate_within _ _ _ _ (msub rfl hm) (State.traceUpdate_within _ _ _ _ (msub rfl hm) (Within.refl _)))

theorem State.bandEval_within {msk : Nat} {s00 : State} (s : State) (l : Lane) (n : Fin 32) (x skew t : Int) (hm : 4582735347908 &&& msk = 4582735347908) (h0 : Within msk s00 s) :
    Within msk s00 (State.bandEval s l n x skew t) := by
  refine within_trans h0 ?_
  unfold State.bandEval
  lift_lets -useContext -merge -underBinder
  intro x0 x1
  try clear_value x1
  intro x2
  try clear_value x2
  intro x3
  try clear_value x3
  intro x4
  have hx4 : Within msk s x4 := (State.modBand_within _ _ _ _ (msub rfl hm) (Within.refl _))
  clear_value x4
  intro x5
  have hx5 : Within1 msk s x5 := (State.fit_within _ _ _ (msub rfl hm) hx4)
  clear_value x5
  intro x6
  try clear_value x6
  intro x7
  have hx7 : Within msk s x7 := hx5.h
  clear_value x7
  intro x8
  have hx8 : Within msk s x8 := (State.modBand_within _ _ _ _ (msub rfl hm) (State.ceSource_within _ _ _ _ _ (msub rfl hm) hx7))
  clear_value x8
  intro x9
  try clear_value x9
  intro x10
  have hx10 : Within1 msk s x10 := (State.quot_within _ _ _ (msub rfl hm) hx8)
  clear_value x10
  intro x11
  have hx11 : Within msk s x11 := (within_ite (fun _ => hx8) (fun _ => (within_ite (fun _ => (within_ite (fun _ => (State.bandCommit_within _ _ _ _ _ (msub rfl hm) hx10.h)) (fun _ => (within_ite (fun _ => (within_wr _ _ _ _ _ (fsub rfl hm) hx8)) (fun _ => hx8))))) (fun _ => (within_ite (fun _ => (State.bandTrackRule_within _ _ _ _ _ _ (msub rfl hm) hx8)) (fun _ => hx8))))))
  clear_value x11
  refine within_ite (fun _ => ?_) (fun _ => ?_)
  · exact (State.bandFail_within _ _ _ _ (msub rfl hm) (fsub rfl hm) (Within.refl _))
  · refine within_ite (fun _ => ?_) (fun _ => ?_)
    · exact (State.bandRecover_within _ _ _ (msub rfl hm) (Within.refl _))
    · exact (State.bandProbes_within _ _ _ (msub rfl hm) hx11)

theorem execBandEvaluate_within {msk : Nat} (l : Lane) (n : Fin 32) (age : Nat) (s : State) (hm : 4582735347908 &&& msk = 4582735347908) :
    WithinOut msk s (execBandEvaluate l n age s) := by
  unfold execBandEvaluate
  exact withinOut_next (within_ite (fun _ => (by
    split
    · exact (Within.refl _)
    · lift_lets -useContext -merge -underBinder
      intro x0
      have hx0 : Within msk s x0 := (State.modBand_within _ _ _ _ (msub rfl hm) (Within.refl _))
      clear_value x0
      refine within_ite (fun _ => ?_) (fun _ => ?_)
      · exact hx0
      · exact (State.bandEval_within _ _ _ _ _ _ (msub rfl hm) hx0)
)) (fun _ => (Within.refl _)))

theorem State.bandIssued_within {msk : Nat} {s00 : State} (s : State) (l : Lane) (n : Fin 32) (x : Int) (hm : 64 &&& msk = 64) (h0 : Within msk s00 s) :
    Within msk s00 (State.bandIssued s l n x) := by
  refine within_trans h0 ?_
  unfold State.bandIssued
  lift_lets -useContext -merge -underBinder
  intro x0 x1
  try clear_value x1
  intro x2
  try clear_value x2
  intro x3
  have hx3 : Within msk s x3 := (within_inc _ _ _ _ _ (fsub rfl hm) (within_put _ _ _ _ _ (fsub rfl hm) (Within.refl _)))
  clear_value x3
  intro x4
  have hx4 : Within msk s x4 := by
    unfold x4
    split
    · refine within_ite (fun _ => ?_) (fun _ => ?_)
      · exact (within_wr _ _ _ _ _ (fsub rfl hm) hx3)
      · exact hx3
    · exact hx3
  clear_value x4
  intro x5
  have hx5 : Within msk s x5 := (State.event_within _ _ _ (msub rfl hm) (State.modBand_within _ _ _ _ (msub rfl hm) hx4))
  clear_value x5
  refine within_ite (fun _ => ?_) (fun _ => ?_)
  · exact hx5
  · exact (State.toSettle_within _ _ _ (msub rfl hm) hx5)

theorem State.bandDropped_within {msk : Nat} {s00 : State} (s : State) (l : Lane) (n : Fin 32) (cnt : Fld) (hm : 64 &&& msk = 64) (hg3 : cnt.inM msk = true) (h0 : Within msk s00 s) :
    Within msk s00 (State.bandDropped s l n cnt) := by
  refine within_trans h0 ?_
  unfold State.bandDropped
  lift_lets -useContext -merge -underBinder
  intro x0 x1
  have hx1 : Within msk s x1 := (within_inc _ _ _ _ _ hg3 (within_set _ _ _ _ (fsub rfl hm) (Within.refl _)))
  clear_value x1
  refine within_ite (fun _ => ?_) (fun _ => ?_)
  · exact (State.modBand_within _ _ _ _ (msub rfl hm) (within_wr _ _ _ _ _ (fsub rfl hm) hx1))
  · exact hx1

theorem execBandEdgeReport_within {msk : Nat} (l : Lane) (n : Fin 32) (s : State) (hm : 64 &&& msk = 64) :
    WithinOut msk s (execBandEdgeReport l n s) := by
  unfold execBandEdgeReport
  lift_lets -useContext -merge -underBinder
  intro x0
  try clear_value x0
  exact withinOut_next (within_ite (fun _ => (by
    split
    · exact (Within.refl _)
    · lift_lets -useContext -merge -underBinder
      intro x1
      have hx1 : Within msk s x1 := (State.modCh_within _ _ _ _ (msub rfl hm) (Within.refl _))
      clear_value x1
      split
      · exact (State.bandIssued_within _ _ _ _ (msub rfl hm) hx1)
      · exact (State.bandDropped_within _ _ _ _ (msub rfl hm) (fsub rfl hm) hx1)
      · exact (State.bandDropped_within _ _ _ _ (msub rfl hm) (fsub rfl hm) hx1)
)) (fun _ => (Within.refl _)))

theorem execBandStall_within {msk : Nat} (l : Lane) (n : Fin 32) (s : State) (hm : 171802886340 &&& msk = 171802886340) :
    WithinOut msk s (execBandStall l n s) := by
  unfold execBandStall
  lift_lets -useContext -merge -underBinder
  intro x0
  exact withinOut_next (within_ite (fun _ => (State.bandFail_within _ _ _ _ (msub rfl hm) (fsub rfl hm) (Within.refl _))) (fun _ => (Within.refl _)))

theorem State.fllWindow_within {msk : Nat} {s00 : State} (s : State) (l : Lane) (n : Fin 32) (hm : 4398046511168 &&& msk = 4398046511168) (h0 : Within msk s00 s) :
    Within msk s00 (State.fllWindow s l n) := by
  refine within_trans h0 ?_
  unfold State.fllWindow
  lift_lets -useContext -merge -underBinder
  intro x0 x1
  try clear_value x1
  intro x2
  have hx2 : Within msk s x2 := (State.modBand_within _ _ _ _ (msub rfl hm) (Within.refl _))
  clear_value x2
  intro x3
  try clear_value x3
  intro x4
  try clear_value x4
  intro x5
  try clear_value x5
  intro x6
  try clear_value x6
  intro x7
  try clear_value x7
  intro x8
  have hx8 : Within1 msk s x8 := (State.roundQ_within _ _ _ (msub rfl hm) hx2)
  clear_value x8
  intro x9
  try clear_value x9
  intro x10
  have hx10 : Within msk s x10 := hx8.h
  clear_value x10
  intro x11
  try clear_value x11
  intro x12
  try clear_value x12
  intro x13
  try clear_value x13
  intro x14
  have hx14 : Within1 msk s x14 := (State.roundQ_within _ _ _ (msub rfl hm) hx10)
  clear_value x14
  intro x15
  try clear_value x15
  intro x16
  have hx16 : Within msk s x16 := hx14.h
  clear_value x16
  intro x17
  try clear_value x17
  intro x18
  try clear_value x18
  intro x19
  try clear_value x19
  refine within_ite (fun _ => ?_) (fun _ => ?_)
  · exact (within_wrSat _ _ _ _ _ (fsub rfl hm) (within_clr _ _ _ _ (fsub rfl hm) (within_put _ _ _ _ _ (fsub rfl hm) (State.modBand_within _ _ _ _ (msub rfl hm) hx16))))
  · exact (within_set _ _ _ _ (fsub rfl hm) hx2)

theorem State.ceBoundary_within {msk : Nat} {s00 : State} (s : State) (l : Lane) (hm : 4398046511168 &&& msk = 4398046511168) (h0 : Within msk s00 s) :
    Within msk s00 (State.ceBoundary s l) := by
  refine within_trans h0 ?_
  unfold State.ceBoundary
  lift_lets -useContext -merge -underBinder
  intro x0 x1
  have hx1 : Within msk s x1 := (within_each _ _ (Within.refl _) (fun y2 y3 => (within_ite (fun _ => (by
    lift_lets -useContext -merge -underBinder
    intro x4
    have hx4 : Within msk y2 x4 := (State.modBand_within _ _ _ _ (msub rfl hm) (Within.refl _))
    clear_value x4
    refine within_ite (fun _ => ?_) (fun _ => ?_)
    · exact (State.fllWindow_within _ _ _ (msub rfl hm) hx4)
    · exact hx4
)) (fun _ => (Within.refl _)))))
  clear_value x1
  intro x5
  have hx5 : Within1 msk s x5 := (State.quot_within _ _ _ (msub rfl hm) hx1)
  clear_value x5
  intro x6
  try clear_value x6
  intro x7
  have hx7 : Within msk s x7 := hx5.h
  clear_value x7
  exact (State.modCe_within _ _ _ (msub rfl hm) (within_wrSat _ _ _ _ _ (fsub rfl hm) hx7))

theorem State.arithTrigger_within {msk : Nat} {s00 : State} (s : State) (l : Lane) (i : Fin 24) (hm : 64 &&& msk = 64) (h0 : Within msk s00 s) :
    Within msk s00 (State.arithTrigger s l i) := by
  refine within_trans h0 ?_
  unfold State.arithTrigger
  lift_lets -useContext -merge -underBinder
  intro x0 x1
  try clear_value x1
  intro x2
  try clear_value x2
  intro x3
  have hx3 : Within msk s x3 := (State.modArith_within _ _ _ _ (msub rfl hm) (Within.refl _))
  clear_value x3
  refine within_ite (fun _ => ?_) (fun _ => ?_)
  · split
    · exact (State.modArith_within _ _ _ _ (msub rfl hm) hx3)
    · exact (State.modArith_within _ _ _ _ (msub rfl hm) hx3)
    · exact (State.irq_within _ _ _ _ (msub rfl hm) (fsub rfl hm) (within_inc _ _ _ _ _ (fsub rfl hm) (within_set _ _ _ _ (fsub rfl hm) hx3)))
  · exact (State.modArith_within _ _ _ _ (msub rfl hm) (Within.refl _))

theorem State.srcErr_within {msk : Nat} {s00 : State} (s : State) (l : Lane) (i : Nat) (hm : 64 &&& msk = 64) (h0 : Within msk s00 s) :
    Within msk s00 (State.srcErr s l i) := by
  refine within_trans h0 ?_
  unfold State.srcErr
  lift_lets -useContext -merge -underBinder
  intro x0
  exact (within_put _ _ _ _ _ (fsub rfl hm) (Within.refl _))

theorem execArithTrigger_within {msk : Nat} (l : Lane) (i : Fin 24) (s : State) (hm : 64 &&& msk = 64) :
    WithinOut msk s (execArithTrigger l i s) := by
  unfold execArithTrigger
  lift_lets -useContext -merge -underBinder
  intro x0 x1
  have hx1 : Within msk s x1 := (State.modArith_within _ _ _ _ (msub rfl hm) (Within.refl _))
  clear_value x1
  exact withinOut_next (within_ite (fun _ => (within_ite (fun _ => (within_set _ _ _ _ (fsub rfl hm) hx1)) (fun _ => (within_ite (fun _ => hx1) (fun _ => (State.arithTrigger_within _ _ _ (msub rfl hm) hx1)))))) (fun _ => (Within.refl _)))

theorem State.feSupervise_within {msk : Nat} {s00 : State} (s : State) (l : Lane) (i : Fin 24) (dv : Int) (st : Nat) (hm : 515402372294 &&& msk = 515402372294) (h0 : Within msk s00 s) :
    Within msk s00 (State.feSupervise s l i dv st) := by
  refine within_trans h0 ?_
  unfold State.feSupervise
  lift_lets -useContext -merge -underBinder
  intro x0 x1
  try clear_value x1
  refine within_ite (fun _ => ?_) (fun _ => ?_)
  · exact (within_clr _ _ _ _ (fsub rfl hm) (State.modArith_within _ _ _ _ (msub rfl hm) (Within.refl _)))
  · split
    · exact (within_set _ _ _ _ (fsub rfl hm) (State.modArith_within _ _ _ _ (msub rfl hm) (Within.refl _)))
    · lift_lets -useContext -merge -underBinder
      intro x2
      have hx2 : Within msk s x2 := (within_clr _ _ _ _ (fsub rfl hm) (State.modArith_within _ _ _ _ (msub rfl hm) (Within.refl _)))
      clear_value x2
      intro x3
      have hx3 : Within msk s x3 := (State.raiseTg_within _ _ _ _ _ (msub rfl hm) (State.irq_within _ _ _ _ (msub rfl hm) (fsub rfl hm) (within_wrBit _ _ _ _ _ (fsub rfl hm) hx2)))
      clear_value x3
      refine within_ite (fun _ => ?_) (fun _ => ?_)
      · exact (State.event_within _ _ _ (msub rfl hm) (State.log_within _ _ _ _ (msub rfl hm) (State.feEvent_within _ _ _ (msub rfl hm) hx3)))
      · exact (Within.refl _)

theorem State.arithRead_within {msk : Nat} {s00 : State} (s : State) (l : Lane) (i : Fin 24) (code : Nat) (hm : 64 &&& msk = 64) (h0 : Within msk s00 s) :
    Within msk s00 (State.arithRead s l i code) := by
  refine within_trans h0 ?_
  unfold State.arithRead
  lift_lets -useContext -merge -underBinder
  intro x0
  exact (within_when _ _ (within_when _ _ (Within.refl _) (fun _ => (within_set _ _ _ _ (fsub rfl hm) (Within.refl _)))) (fun _ => (within_set _ _ _ _ (fsub rfl hm) (Within.refl _))))

theorem State.arithExecute_within {msk : Nat} {s00 : State} (s : State) (l : Lane) (i : Fin 24) (st : Nat) (hm : 528288322766 &&& msk = 528288322766) (h0 : Within msk s00 s) :
    Within msk s00 (State.arithExecute s l i st) := by
  refine within_trans h0 ?_
  unfold State.arithExecute
  lift_lets -useContext -merge -underBinder
  intro x0 x1
  try clear_value x1
  intro x2
  try clear_value x2
  intro x3
  try clear_value x3
  intro x4
  try clear_value x4
  intro x5
  try clear_value x5
  intro x6
  try clear_value x6
  intro x7
  try clear_value x7
  intro x8
  have hx8 : Within msk s x8 := (State.arithRead_within _ _ _ _ (msub rfl hm) (State.arithRead_within _ _ _ _ (msub rfl hm) (State.arithRead_within _ _ _ _ (msub rfl hm) (Within.refl _))))
  clear_value x8
  intro x9
  try clear_value x9
  intro x10
  try clear_value x10
  intro x11
  try clear_value x11
  intro x12
  try clear_value x12
  intro x13
  try clear_value x13
  intro x14
  try clear_value x14
  intro x15
  have hx15 : Within msk s x15 := (State.modArith_within _ _ _ _ (msub rfl hm) hx8)
  clear_value x15
  intro x16
  have hx16 : Within msk s x16 := (within_wr _ _ _ _ _ (fsub rfl hm) (within_put _ _ _ _ _ (fsub rfl hm) (within_clr _ _ _ _ (fsub rfl hm) hx15)))
  clear_value x16
  intro x17
  have hx17 : Within msk s x17 := (within_ite (fun _ => hx16) (fun _ => (State.irq_within _ _ _ _ (msub rfl hm) (fsub rfl hm) (within_wrBit _ _ _ _ _ (fsub rfl hm) hx16))))
  clear_value x17
  intro x18
  try clear_value x18
  intro x19
  have hx19 : Within msk s x19 := (State.modCe_within _ _ _ (msub rfl hm) (within_wr _ _ _ _ _ (fsub rfl hm) (within_wr _ _ _ _ _ (fsub rfl hm) hx17)))
  clear_value x19
  intro x20
  have hx20 : Within msk s x20 := (State.traceUpdate_within _ _ _ _ (msub rfl hm) (State.ceSource_within _ _ _ _ _ (msub rfl hm) hx19))
  clear_value x20
  intro x21
  try clear_value x21
  intro x22
  have hx22 : Within msk s x22 := (within_ite (fun _ => (State.feSupervise_within _ _ _ _ _ (msub rfl hm) hx20)) (fun _ => hx20))
  clear_value x22
  intro x23
  have hx23 : Within msk s x23 := (within_when _ _ (State.event_within _ _ _ (msub rfl hm) hx22) (fun _ => (State.event_within _ _ _ (msub rfl hm) (Within.refl _))))
  clear_value x23
  refine within_ite (fun _ => ?_) (fun _ => ?_)
  · exact (State.urgentRequest_within _ _ _ _ (msub rfl hm) hx23)
  · exact hx23

theorem execArithExecute_within {msk : Nat} (l : Lane) (i : Fin 24) (s : State) (hm : 528288322766 &&& msk = 528288322766) :
    WithinOut msk s (execArithExecute l i s) := by
  unfold execArithExecute
  exact withinOut_next (within_ite (fun _ => (by
    split
    · exact (Within.refl _)
    · refine within_ite (fun _ => ?_) (fun _ => ?_)
      · exact (Within.refl _)
      · refine within_ite (fun _ => ?_) (fun _ => ?_)
        · exact (State.modArith_within _ _ _ _ (msub rfl hm) (Within.refl _))
        · exact (State.arithExecute_within _ _ _ _ (msub rfl hm) (Within.refl _))
)) (fun _ => (Within.refl _)))

theorem execCeIntPreset_within {msk : Nat} (l : Lane) (i : Fin 24) (lo : Option (BitVec 32)) (hi : BitVec 16) (s : State) (hm : 64 &&& msk = 64) :
    WithinOut msk s (execCeIntPreset l i lo hi s) := by
  unfold execCeIntPreset
  lift_lets -useContext -merge -underBinder
  intro x0 x1
  try clear_value x1
  exact withinOut_next (within_ite (fun _ => (within_set _ _ _ _ (fsub rfl hm) (State.modArith_within _ _ _ _ (msub rfl hm) (Within.refl _)))) (fun _ => (Within.refl _)))

theorem State.ceStart_within {msk : Nat} {s00 : State} (s0 : State) (l : Lane) (hm : 64 &&& msk = 64) (h0 : Within msk s00 s0) :
    Within msk s00 (State.ceStart s0 l) := by
  refine within_trans h0 ?_
  unfold State.ceStart
  lift_lets -useContext -merge -underBinder
  intro x0
  have hx0 : Within msk s0 x0 := (within_each _ _ (Within.refl _) (fun _ _ => (State.srcErr_within _ _ _ (msub rfl hm) (Within.refl _))))
  clear_value x0
  exact (within_each _ _ hx0 (fun _ _ => (within_when _ _ (Within.refl _) (fun _ => (State.bandStart_within _ _ _ (msub rfl hm) (Within.refl _))))))


end Sys2Proof.Machine
end

