-- ==== Sys2Proof/Laws/WithinPos.lean ====
section
/-!
SUPPORT. The operations of Machine/Pos.lean change nothing outside their masks (Laws/Within.lean).
-/
namespace Sys2Proof.Machine

theorem State.modPos_within {msk : Nat} {s00 : State} (s : State) (l : Lane) (f : PosSt → PosSt) (hm : 0 &&& msk = 0) (h0 : Within msk s00 s) :
    Within msk s00 (State.modPos s l f) := by
  refine within_trans h0 ?_
  unfold State.modPos
  exact (within_modRun _ _ (Within.refl _) fun _ => ⟨rfl, rfl⟩)

theorem State.modPt_within {msk : Nat} {s00 : State} (s : State) (l : Lane) (p : Fin 6) (f : PtSt → PtSt) (hm : 0 &&& msk = 0) (h0 : Within msk s00 s) :
    Within msk s00 (State.modPt s l p f) := by
  refine within_trans h0 ?_
  unfold State.modPt
  exact (State.modPos_within _ _ _ (msub rfl hm) (Within.refl _))

theorem State.resTrack_within {msk : Nat} {s00 : State} (s : State) (l : Lane) (n : Fin 2) (e : Int) (hm : 4398046511136 &&& msk = 4398046511136) (h0 : Within msk s00 s) :
    Within msk s00 (State.resTrack s l n e) := by
  refine within_trans h0 ?_
  unfold State.resTrack
  lift_lets -useContext -merge -underBinder
  intro x0 x1
  try clear_value x1
  intro x2
  have hx2 : Within1 msk s x2 := (State.quot_within _ _ _ (msub rfl hm) (Within.refl _))
  clear_value x2
  intro x3
  try clear_value x3
  intro x4
  have hx4 : Within msk s x4 := hx2.h
  clear_value x4
  intro x5
  try clear_value x5
  intro x6
  have hx6 : Within1 msk s x6 := (State.quot_within _ _ _ (msub rfl hm) hx4)
  clear_value x6
  intro x7
  try clear_value x7
  intro x8
  have hx8 : Within msk s x8 := hx6.h
  clear_value x8
  intro x9
  have hx9 : Within1 msk s x9 := (State.quot_within _ _ _ (msub rfl hm) hx8)
  clear_value x9
  intro x10
  try clear_value x10
  intro x11
  have hx11 : Within msk s x11 := hx9.h
  clear_value x11
  exact (within_wrS _ _ _ _ _ (fsub rfl hm) (within_wr _ _ _ _ _ (fsub rfl hm) (State.modRes_within _ _ _ _ (msub rfl hm) hx11)))

theorem State.resFault_within {msk : Nat} {s00 : State} (s : State) (l : Lane) (n : Fin 2) (cond : Bool) (cnt : Nat) (dec : Bool) (flag tally : Fld) (put : Nat → Bool → ResSt → ResSt) (hm : 0 &&& msk = 0) (hg6 : flag.inM msk = true) (hg7 : tally.inM msk = true) (h0 : Within msk s00 s) :
    Within msk s00 (State.resFault s l n cond cnt dec flag tally put) := by
  refine within_trans h0 ?_
  unfold State.resFault
  lift_lets -useContext -merge -underBinder
  intro x0 x1
  try clear_value x1
  intro x2
  try clear_value x2
  intro x3
  have hx3 : Within msk s x3 := (State.modRes_within _ _ _ _ (msub rfl hm) (Within.refl _))
  clear_value x3
  refine within_ite (fun _ => ?_) (fun _ => ?_)
  · exact (within_inc _ _ _ _ _ hg7 (within_set _ _ _ _ hg6 hx3))
  · exact hx3

theorem State.resCorrect_within {msk : Nat} {s00 : State} (s : State) (l : Lane) (n : Fin 2) (t : Int × Int × Int × Int) (hm : 32 &&& msk = 32) (h0 : Within msk s00 s) :
    Within msk s00 (State.resCorrect s l n t) := by
  refine within_trans h0 ?_
  unfold State.resCorrect
  lift_lets -useContext -merge -underBinder
  intro x0 x1
  try clear_value x1
  intro x2
  try clear_value x2
  intro x3
  try clear_value x3
  intro x4
  try clear_value x4
  intro x5 x6 x7
  try clear_value x7
  intro x8
  have hx8 : Within msk s x8 := (within_ite (fun _ => (Within.refl _)) (fun _ => (within_wrS _ _ _ _ _ (fsub rfl hm) (within_wrS _ _ _ _ _ (fsub rfl hm) (within_wrS _ _ _ _ _ (fsub rfl hm) (within_wrS _ _ _ _ _ (fsub rfl hm) (Within.refl _)))))))
  clear_value x8
  exact (within_put _ _ _ _ _ (fsub rfl hm) hx8)

theorem State.resValid_within {msk : Nat} {s00 : State} (s : State) (l : Lane) (n : Fin 2) (v : Bool) (hm : 32 &&& msk = 32) (h0 : Within msk s00 s) :
    Within msk s00 (State.resValid s l n v) := by
  refine within_trans h0 ?_
  unfold State.resValid
  lift_lets -useContext -merge -underBinder
  intro x0 x1
  try clear_value x1
  intro x2
  have hx2 : Within msk s x2 := (within_wrBit _ _ _ _ _ (fsub rfl hm) (within_put _ _ _ _ _ (fsub rfl hm) (Within.refl _)))
  clear_value x2
  exact (within_when _ _ hx2 (fun _ => (State.irq_within _ _ _ _ (msub rfl hm) (fsub rfl hm) (Within.refl _))))

theorem State.demod_within {msk : Nat} {s00 : State} (s : State) (l : Lane) (n : Fin 2) (hm : 4398046511104 &&& msk = 4398046511104) (h0 : Within msk s00 s) :
    Within msk s00 (State.demod s l n) := by
  refine within_trans h0 ?_
  unfold State.demod
  lift_lets -useContext -merge -underBinder
  intro x0
  try clear_value x0
  intro x1
  try clear_value x1
  intro x2
  try clear_value x2
  intro x3
  try clear_value x3
  intro x4
  have hx4 : Within1 msk s x4 := (State.quot_within _ _ _ (msub rfl hm) (Within.refl _))
  clear_value x4
  intro x5
  have hx5 : Within1 msk s x5 := (State.quot_within _ _ _ (msub rfl hm) hx4.h)
  clear_value x5
  intro x6
  have hx6 : Within1 msk s x6 := (State.quot_within _ _ _ (msub rfl hm) hx5.h)
  clear_value x6
  exact (State.modRes_within _ _ _ _ (msub rfl hm) hx6.h)

theorem State.resTurn_within {msk : Nat} {s00 : State} (s : State) (l : Lane) (n : Fin 2) (phi0 : Nat) (lock : Bool) (est : Int × Int × Int × Int) (hm : 32 &&& msk = 32) (h0 : Within msk s00 s) :
    Within msk s00 (State.resTurn s l n phi0 lock est) := by
  refine within_trans h0 ?_
  unfold State.resTurn
  lift_lets -useContext -merge -underBinder
  intro x0 x1
  try clear_value x1
  refine within_ite (fun _ => ?_) (fun _ => ?_)
  · refine within_ite (fun _ => ?_) (fun _ => ?_)
    · exact (State.resCorrect_within _ _ _ _ (msub rfl hm) (State.modRes_within _ _ _ _ (msub rfl hm) (Within.refl _)))
    · exact (State.modRes_within _ _ _ _ (msub rfl hm) (Within.refl _))
  · exact (State.modRes_within _ _ _ _ (msub rfl hm) (Within.refl _))

theorem State.resUpdate_within {msk : Nat} {s00 : State} (s0 : State) (l : Lane) (n : Fin 2) (est : Int × Int × Int × Int) (hm : 4410932461600 &&& msk = 4410932461600) (h0 : Within msk s00 s0) :
    Within msk s00 (State.resUpdate s0 l n est) := by
  refine within_trans h0 ?_
  unfold State.resUpdate
  lift_lets -useContext -merge -underBinder
  intro x0 x1
  have hx1 : Within msk s0 x1 := (State.demod_within _ _ _ (msub rfl hm) (Within.refl _))
  clear_value x1
  intro x2
  try clear_value x2
  intro x3
  try clear_value x3
  intro x4
  try clear_value x4
  intro x5
  try clear_value x5
  intro x6
  try clear_value x6
  intro x7
  try clear_value x7
  intro x8
  try clear_value x8
  intro x9
  have hx9 : Within1 msk s0 x9 := (State.quot_within _ _ _ (msub rfl hm) hx1)
  clear_value x9
  intro x10
  try clear_value x10
  intro x11
  have hx11 : Within msk s0 x11 := hx9.h
  clear_value x11
  intro x12
  have hx12 : Within msk s0 x12 := (State.resTrack_within _ _ _ _ (msub rfl hm) hx11)
  clear_value x12
  intro x13
  have hx13 : Within1 msk s0 x13 := (State.quot_within _ _ _ (msub rfl hm) hx12)
  clear_value x13
  intro x14
  try clear_value x14
  intro x15
  have hx15 : Within1 msk s0 x15 := (State.quot_within _ _ _ (msub rfl hm) hx13.h)
  clear_value x15
  intro x16
  have hx16 : Within msk s0 x16 := hx15.h
  clear_value x16
  intro x17
  have hx17 : Within msk s0 x17 := (within_wr _ _ _ _ _ (fsub rfl hm) (within_wrSat _ _ _ _ _ (fsub rfl hm) hx16))
  clear_value x17
  intro x18 x19
  try clear_value x19
  intro x20
  try clear_value x20
  intro x21
  try clear_value x21
  intro x22
  try clear_value x22
  intro x23
  try clear_value x23
  intro x24
  try clear_value x24
  intro x25
  have hx25 : Within msk s0 x25 := (State.resFault_within _ _ _ _ _ _ _ _ _ (msub rfl hm) (fsub rfl hm) (fsub rfl hm) hx17)
  clear_value x25
  intro x26
  have hx26 : Within msk s0 x26 := (State.resFault_within _ _ _ _ _ _ _ _ _ (msub rfl hm) (fsub rfl hm) (fsub rfl hm) hx25)
  clear_value x26
  intro x27
  have hx27 : Within msk s0 x27 := (State.resFault_within _ _ _ _ _ _ _ _ _ (msub rfl hm) (fsub rfl hm) (fsub rfl hm) hx26)
  clear_value x27
  intro x28
  try clear_value x28
  intro x29
  try clear_value x29
  intro x30
  have hx30 : Within msk s0 x30 := (within_put _ _ _ _ _ (fsub rfl hm) (State.modRes_within _ _ _ _ (msub rfl hm) hx27))
  clear_value x30
  intro x31
  try clear_value x31
  intro x32
  have hx32 : Within msk s0 x32 := (within_put _ _ _ _ _ (fsub rfl hm) hx30)
  clear_value x32
  intro x33
  try clear_value x33
  intro x34
  try clear_value x34
  intro x35
  have hx35 : Within msk s0 x35 := (within_ite (fun _ => (State.resValid_within _ _ _ _ (msub rfl hm) hx32)) (fun _ => (within_ite (fun _ => (State.resValid_within _ _ _ _ (msub rfl hm) hx32)) (fun _ => hx32))))
  clear_value x35
  intro x36
  try clear_value x36
  intro x37
  have hx37 : Within msk s0 x37 := (State.ceSource_within _ _ _ _ _ (msub rfl hm) (State.ceSource_within _ _ _ _ _ (msub rfl hm) hx35))
  clear_value x37
  exact (State.resTurn_within _ _ _ _ _ _ (msub rfl hm) hx37)

theorem execResolverUpdate_within {msk : Nat} (l : Lane) (n : Fin 2) (est : Int × Int × Int × Int) (s : State) (hm : 4410932461600 &&& msk = 4410932461600) :
    WithinOut msk s (execResolverUpdate l n est s) := by
  unfold execResolverUpdate
  exact withinOut_next (within_ite (fun _ => (State.resUpdate_within _ _ _ _ (msub rfl hm) (Within.refl _))) (fun _ => (Within.refl _)))

theorem execResolverCarStep_within {msk : Nat} (l : Lane) (n : Fin 2) (s : State) (hm : 8796093022240 &&& msk = 8796093022240) :
    WithinOut msk s (execResolverCarStep l n s) := by
  unfold execResolverCarStep
  lift_lets -useContext -merge -underBinder
  intro x0 x1
  try clear_value x1
  intro x2
  have hx2 : Within msk s x2 := (State.modRes_within _ _ _ _ (msub rfl hm) (within_advTo _ (msub rfl hm) (Within.refl _)))
  clear_value x2
  intro x3
  try clear_value x3
  exact withinOut_next (within_ite (fun _ => (within_ite (fun _ => hx2) (fun _ => (within_wr _ _ _ _ _ (fsub rfl hm) hx2)))) (fun _ => (Within.refl _)))

theorem State.resRestart_within {msk : Nat} {s00 : State} (s : State) (l : Lane) (n : Fin 2) (hm : 32 &&& msk = 32) (h0 : Within msk s00 s) :
    Within msk s00 (State.resRestart s l n) := by
  refine within_trans h0 ?_
  unfold State.resRestart
  exact (State.resValid_within _ _ _ _ (msub rfl hm) (State.modRes_within _ _ _ _ (msub rfl hm) (Within.refl _)))

theorem State.ptFlags_within {msk : Nat} {s00 : State} (s : State) (l : Lane) (p : Fin 6) (valid ok : Bool) (hm : 32 &&& msk = 32) (h0 : Within msk s00 s) :
    Within msk s00 (State.ptFlags s l p valid ok) := by
  refine within_trans h0 ?_
  unfold State.ptFlags
  lift_lets -useContext -merge -underBinder
  intro x0 x1
  try clear_value x1
  intro x2
  have hx2 : Within msk s x2 := (within_wrBit _ _ _ _ _ (fsub rfl hm) (within_put _ _ _ _ _ (fsub rfl hm) (within_put _ _ _ _ _ (fsub rfl hm) (Within.refl _))))
  clear_value x2
  exact (within_when _ _ hx2 (fun _ => (State.irq_within _ _ _ _ (msub rfl hm) (fsub rfl hm) (Within.refl _))))

theorem State.ptOk_within {msk : Nat} {s00 : State} (s : State) (l : Lane) (p : Fin 6) (ok : Bool) (hm : 32 &&& msk = 32) (h0 : Within msk s00 s) :
    Within msk s00 (State.ptOk s l p ok) := by
  refine within_trans h0 ?_
  unfold State.ptOk
  exact (State.ptFlags_within _ _ _ _ _ (msub rfl hm) (Within.refl _))

theorem State.ptError_within {msk : Nat} {s00 : State} (s : State) (l : Lane) (p : Fin 6) (hm : 32 &&& msk = 32) (h0 : Within msk s00 s) :
    Within msk s00 (State.ptError s l p) := by
  refine within_trans h0 ?_
  unfold State.ptError
  lift_lets -useContext -merge -underBinder
  intro x0 x1
  try clear_value x1
  intro x2
  have hx2 : Within msk s x2 := (within_wr _ _ _ _ _ (fsub rfl hm) (Within.refl _))
  clear_value x2
  refine within_ite (fun _ => ?_) (fun _ => ?_)
  · exact (State.ptFlags_within _ _ _ _ _ (msub rfl hm) (within_wr _ _ _ _ _ (fsub rfl hm) (within_set _ _ _ _ (fsub rfl hm) hx2)))
  · exact hx2

theorem State.ptLegal_within {msk : Nat} {s00 : State} (s : State) (l : Lane) (p : Fin 6) (hm : 32 &&& msk = 32) (h0 : Within msk s00 s) :
    Within msk s00 (State.ptLegal s l p) := by
  refine within_trans h0 ?_
  unfold State.ptLegal
  lift_lets -useContext -merge -underBinder
  intro x0 x1
  try clear_value x1
  intro x2
  have hx2 : Within msk s x2 := (within_wr _ _ _ _ _ (fsub rfl hm) (Within.refl _))
  clear_value x2
  refine within_ite (fun _ => ?_) (fun _ => ?_)
  · exact (State.ptFlags_within _ _ _ _ _ (msub rfl hm) (within_clr _ _ _ _ (fsub rfl hm) hx2))
  · exact hx2

theorem State.ptAngle_within {msk : Nat} {s00 : State} (s : State) (l : Lane) (p : Fin 6) (hm : 4398046511136 &&& msk = 4398046511136) (h0 : Within msk s00 s) :
    Within msk s00 (State.ptAngle s l p) := by
  refine within_trans h0 ?_
  unfold State.ptAngle
  lift_lets -useContext -merge -underBinder
  intro x0 x1
  have hx1 : Within1 msk s x1 := (State.roundQ_within _ _ _ (msub rfl hm) (Within.refl _))
  clear_value x1
  intro x2
  try clear_value x2
  intro x3
  have hx3 : Within msk s x3 := hx1.h
  clear_value x3
  intro x4
  try clear_value x4
  exact (within_wr _ _ _ _ _ (fsub rfl hm) (State.modPt_within _ _ _ _ (msub rfl hm) hx3))

theorem State.ptSpeed_within {msk : Nat} {s00 : State} (s : State) (l : Lane) (p : Fin 6) (n : Int) (period : Nat) (hm : 4398046511136 &&& msk = 4398046511136) (h0 : Within msk s00 s) :
    Within msk s00 (State.ptSpeed s l p n period) := by
  refine within_trans h0 ?_
  unfold State.ptSpeed
  lift_lets -useContext -merge -underBinder
  intro x0 x1
  have hx1 : Within1 msk s x1 := (State.quot_within _ _ _ (msub rfl hm) (Within.refl _))
  clear_value x1
  intro x2
  try clear_value x2
  intro x3
  have hx3 : Within msk s x3 := hx1.h
  clear_value x3
  exact (within_wrS _ _ _ _ _ (fsub rfl hm) hx3)

theorem State.twLost_within {msk : Nat} {s00 : State} (s : State) (l : Lane) (p : Fin 6) (sync : Nat) (hm : 32 &&& msk = 32) (h0 : Within msk s00 s) :
    Within msk s00 (State.twLost s l p sync) := by
  refine within_trans h0 ?_
  unfold State.twLost
  lift_lets -useContext -merge -underBinder
  intro x0
  exact (State.ptError_within _ _ _ (msub rfl hm) (State.ptOk_within _ _ _ _ (msub rfl hm) (within_inc _ _ _ _ _ (fsub rfl hm) (within_set _ _ _ _ (fsub rfl hm) (within_wr _ _ _ _ _ (fsub rfl hm) (Within.refl _))))))

theorem State.twEdge_within {msk : Nat} {s00 : State} (s : State) (l : Lane) (p : Fin 6) (found : Bool) (hm : 32 &&& msk = 32) (h0 : Within msk s00 s) :
    Within1 msk s00 (State.twEdge s l p found) := by
  refine within1_trans h0 ?_
  unfold State.twEdge
  lift_lets -useContext -merge -underBinder
  intro x0 x1
  try clear_value x1
  intro x2
  try clear_value x2
  intro x3
  try clear_value x3
  intro x4
  try clear_value x4
  intro x5
  try clear_value x5
  intro x6
  have hx6 : Within msk s x6 := (State.modPt_within _ _ _ _ (msub rfl hm) (Within.refl _))
  clear_value x6
  refine within1_ite (fun _ => ?_) (fun _ => ?_)
  · refine within1_ite (fun _ => ?_) (fun _ => ?_)
    · exact ⟨Within.snd (within_wr _ _ _ _ _ (fsub rfl hm) hx6)⟩
    · refine within1_ite (fun _ => ?_) (fun _ => ?_)
      · exact ⟨Within.snd (within_when _ _ (within_wr _ _ _ _ _ (fsub rfl hm) hx6) (fun _ => (State.ptOk_within _ _ _ _ (msub rfl hm) (Within.refl _))))⟩
      · refine within1_ite (fun _ => ?_) (fun _ => ?_)
        · exact ⟨Within.snd (State.twLost_within _ _ _ _ (msub rfl hm) hx6)⟩
        · exact ⟨Within.snd hx6⟩
  · refine within1_ite (fun _ => ?_) (fun _ => ?_)
    · refine within1_ite (fun _ => ?_) (fun _ => ?_)
      · exact ⟨Within.snd (State.twLost_within _ _ _ _ (msub rfl hm) (Within.refl _))⟩
      · exact ⟨Within.snd (within_wr _ _ _ _ _ (fsub rfl hm) (Within.refl _))⟩
    · exact ⟨Within.snd (Within.refl _)⟩

theorem State.ptPublish_within {msk : Nat} {s00 : State} (s : State) (l : Lane) (p : Fin 6) (hm : 12885950464 &&& msk = 12885950464) (h0 : Within msk s00 s) :
    Within msk s00 (State.ptPublish s l p) := by
  refine within_trans h0 ?_
  unfold State.ptPublish
  lift_lets -useContext -merge -underBinder
  intro x0 x1
  try clear_value x1
  exact (State.ceSource_within _ _ _ _ _ (msub rfl hm) (State.ceSource_within _ _ _ _ _ (msub rfl hm) (Within.refl _)))

theorem State.ptCount_within {msk : Nat} {s00 : State} (s : State) (l : Lane) (p : Fin 6) (mode dt stable : Nat) (up : Bool) (hm : 4398046511136 &&& msk = 4398046511136) (h0 : Within msk s00 s) :
    Within1 msk s00 (State.ptCount s l p mode dt stable up) := by
  refine within1_trans h0 ?_
  unfold State.ptCount
  lift_lets -useContext -merge -underBinder
  intro x0 x1
  try clear_value x1
  intro x2
  try clear_value x2
  intro x3
  try clear_value x3
  intro x4
  try clear_value x4
  intro x5
  try clear_value x5
  intro x6
  try clear_value x6
  intro x7
  try clear_value x7
  intro x8
  have hx8 : Within msk s x8 := (State.modPt_within _ _ _ _ (msub rfl hm) (Within.refl _))
  clear_value x8
  intro x9
  have hx9 : Within msk s x9 := (within_wr _ _ _ _ _ (fsub rfl hm) (within_clr _ _ _ _ (fsub rfl hm) (within_put _ _ _ _ _ (fsub rfl hm) hx8)))
  clear_value x9
  intro x10
  have hx10 : Within1 msk s x10 := (within1_ite (fun _ => (State.twEdge_within _ _ _ _ (msub rfl hm) hx9)) (fun _ => ⟨Within.snd hx9⟩))
  clear_value x10
  intro x11
  have hx11 : Within msk s x11 := hx10.h
  clear_value x11
  intro x12
  have hx12 : Within msk s x12 := (within_wr _ _ _ _ _ (fsub rfl hm) hx11)
  clear_value x12
  intro x13
  have hx13 : Within msk s x13 := (within_ite (fun _ => (within_wr _ _ _ _ _ (fsub rfl hm) hx12)) (fun _ => hx12))
  clear_value x13
  intro x14
  have hx14 : Within msk s x14 := by
    unfold x14
    split
    · exact (within_wrSat _ _ _ _ _ (fsub rfl hm) (State.ptSpeed_within _ _ _ _ _ (msub rfl hm) hx13))
    · refine within_ite (fun _ => ?_) (fun _ => ?_)
      · exact (within_wr _ _ _ _ _ (fsub rfl hm) hx13)
      · exact hx13
  clear_value x14
  exact ⟨Within.snd (State.ptAngle_within _ _ _ (msub rfl hm) hx14)⟩

theorem State.ptIllegal_within {msk : Nat} {s00 : State} (s : State) (l : Lane) (p : Fin 6) (hm : 32 &&& msk = 32) (h0 : Within msk s00 s) :
    Within msk s00 (State.ptIllegal s l p) := by
  refine within_trans h0 ?_
  unfold State.ptIllegal
  exact (State.ptError_within _ _ _ (msub rfl hm) (within_inc _ _ _ _ _ (fsub rfl hm) (within_set _ _ _ _ (fsub rfl hm) (Within.refl _))))

theorem execPtCountingEdge_within {msk : Nat} (l : Lane) (p : Fin 6) (dt stable : Nat) (levels : BitVec 2) (s : State) (hm : 4398046511136 &&& msk = 4398046511136) :
    WithinOut msk s (execPtCountingEdge l p dt stable levels s) := by
  unfold execPtCountingEdge
  lift_lets -useContext -merge -underBinder
  intro x0
  exact withinOut_next (within_ite (fun _ => (by
    split
    · exact (Within.refl _)
    · lift_lets -useContext -merge -underBinder
      intro x1
      try clear_value x1
      intro x2
      try clear_value x2
      intro x3
      try clear_value x3
      intro x4
      try clear_value x4
      intro x5
      try clear_value x5
      intro x6
      try clear_value x6
      intro x7
      have hx7 : Within msk s x7 := (within_put _ _ _ _ _ (fsub rfl hm) (within_put _ _ _ _ _ (fsub rfl hm) (State.modPt_within _ _ _ _ (msub rfl hm) (Within.refl _))))
      clear_value x7
      split
      · exact hx7
      · exact (State.ptIllegal_within _ _ _ (msub rfl hm) hx7)
      · lift_lets -useContext -merge -underBinder
        intro x8
        have hx8 : Within1 msk s x8 := (State.ptCount_within _ _ _ _ _ _ _ (msub rfl hm) hx7)
        clear_value x8
        refine within_ite (fun _ => ?_) (fun _ => ?_)
        · exact (State.ptIllegal_within _ _ _ (msub rfl hm) hx8.h)
        · refine within_ite (fun _ => ?_) (fun _ => ?_)
          · exact hx8.h
          · exact (State.ptLegal_within _ _ _ (msub rfl hm) hx8.h)
)) (fun _ => (Within.refl _)))

theorem execPtGlitch_within {msk : Nat} (l : Lane) (p : Fin 6) (line : Fin 3) (gap : Nat) (s : State) (hm : 32 &&& msk = 32) :
    WithinOut msk s (execPtGlitch l p line gap s) := by
  unfold execPtGlitch
  lift_lets -useContext -merge -underBinder
  intro x0 x1 x2
  have hx2 : Within msk s x2 := (within_set _ _ _ _ (fsub rfl hm) (within_inc _ _ _ _ _ (by unfold x1; split <;> exact fsub rfl hm) (Within.refl _)))
  clear_value x2
  exact withinOut_next (within_ite (fun _ => (within_ite (fun _ => (State.ptError_within _ _ _ (msub rfl hm) hx2)) (fun _ => hx2))) (fun _ => (Within.refl _)))

theorem State.ptReference_within {msk : Nat} {s00 : State} (s : State) (l : Lane) (p : Fin 6) (hm : 4398046511136 &&& msk = 4398046511136) (h0 : Within msk s00 s) :
    Within msk s00 (State.ptReference s l p) := by
  refine within_trans h0 ?_
  unfold State.ptReference
  lift_lets -useContext -merge -underBinder
  intro x0 x1
  try clear_value x1
  intro x2
  try clear_value x2
  intro x3
  try clear_value x3
  intro x4
  try clear_value x4
  intro x5
  have hx5 : Within msk s x5 := (within_wr _ _ _ _ _ (fsub rfl hm) (Within.refl _))
  clear_value x5
  intro x6
  try clear_value x6
  intro x7
  have hx7 : Within msk s x7 := (within_wr _ _ _ _ _ (fsub rfl hm) (State.modPt_within _ _ _ _ (msub rfl hm) hx5))
  clear_value x7
  intro x8
  have hx8 : Within msk s x8 := (within_ite (fun _ => (State.ptError_within _ _ _ (msub rfl hm) (within_inc _ _ _ _ _ (fsub rfl hm) (within_set _ _ _ _ (fsub rfl hm) hx7)))) (fun _ => hx7))
  clear_value x8
  exact (State.ptAngle_within _ _ _ (msub rfl hm) (within_when _ _ hx8 (fun _ => (State.ptOk_within _ _ _ _ (msub rfl hm) (Within.refl _)))))

theorem execPtReferenceEdge_within {msk : Nat} (l : Lane) (p : Fin 6) (stable : Nat) (level : Bool) (s : State) (hm : 4398046511136 &&& msk = 4398046511136) :
    WithinOut msk s (execPtReferenceEdge l p stable level s) := by
  unfold execPtReferenceEdge
  lift_lets -useContext -merge -underBinder
  intro x0 x1
  try clear_value x1
  intro x2
  try clear_value x2
  intro x3
  have hx3 : Within msk s x3 := (within_put _ _ _ _ _ (fsub rfl hm) (State.modPt_within _ _ _ _ (msub rfl hm) (Within.refl _)))
  clear_value x3
  exact withinOut_next (within_ite (fun _ => (within_ite (fun _ => (State.ptReference_within _ _ _ (msub rfl hm) hx3)) (fun _ => hx3))) (fun _ => (Within.refl _)))

theorem execPtExtrapolate_within {msk : Nat} (l : Lane) (p : Fin 6) (dt : Nat) (s : State) (hm : 4410932461600 &&& msk = 4410932461600) :
    WithinOut msk s (execPtExtrapolate l p dt s) := by
  unfold execPtExtrapolate
  lift_lets -useContext -merge -underBinder
  intro x0 x1
  try clear_value x1
  intro x2
  try clear_value x2
  intro x3
  try clear_value x3
  intro x4
  try clear_value x4
  intro x5
  try clear_value x5
  intro x6
  try clear_value x6
  intro x7
  have hx7 : Within msk s x7 := (within_ite (fun _ => (State.ptSpeed_within _ _ _ _ _ (msub rfl hm) (Within.refl _))) (fun _ => (Within.refl _)))
  clear_value x7
  intro x8
  try clear_value x8
  intro x9
  have hx9 : Within1 msk s x9 := (State.quot_within _ _ _ (msub rfl hm) hx7)
  clear_value x9
  intro x10
  try clear_value x10
  intro x11
  have hx11 : Within msk s x11 := hx9.h
  clear_value x11
  intro x12
  try clear_value x12
  exact withinOut_next (within_ite (fun _ => (State.ptPublish_within _ _ _ (msub rfl hm) (within_wr _ _ _ _ _ (fsub rfl hm) hx11))) (fun _ => (within_ite (fun _ => (State.ptPublish_within _ _ _ (msub rfl hm) (Within.refl _))) (fun _ => (Within.refl _)))))

theorem execPtZeroSpeed_within {msk : Nat} (l : Lane) (p : Fin 6) (s : State) (hm : 8796093022240 &&& msk = 8796093022240) :
    WithinOut msk s (execPtZeroSpeed l p s) := by
  unfold execPtZeroSpeed
  lift_lets -useContext -merge -underBinder
  intro x0
  exact withinOut_next (within_ite (fun _ => (by
    split
    · exact (Within.refl _)
    · lift_lets -useContext -merge -underBinder
      intro x1
      have hx1 : Within msk s x1 := (within_advTo _ (msub rfl hm) (Within.refl _))
      clear_value x1
      intro x2
      have hx2 : Within msk s x2 := (State.modPt_within _ _ _ _ (msub rfl hm) (within_set _ _ _ _ (fsub rfl hm) (within_wr _ _ _ _ _ (fsub rfl hm) hx1)))
      clear_value x2
      refine within_ite (fun _ => ?_) (fun _ => ?_)
      · exact (State.ptOk_within _ _ _ _ (msub rfl hm) (within_wr _ _ _ _ _ (fsub rfl hm) hx2))
      · exact hx2
)) (fun _ => (Within.refl _)))

theorem State.ptReconfigured_within {msk : Nat} {s00 : State} (s : State) (l : Lane) (p : Fin 6) (hm : 32 &&& msk = 32) (h0 : Within msk s00 s) :
    Within msk s00 (State.ptReconfigured s l p) := by
  refine within_trans h0 ?_
  unfold State.ptReconfigured
  exact (State.ptOk_within _ _ _ _ (msub rfl hm) (within_wr _ _ _ _ _ (fsub rfl hm) (Within.refl _)))

theorem State.ptEnable_within {msk : Nat} {s00 : State} (s : State) (l : Lane) (p : Fin 6) (hm : 4398046511136 &&& msk = 4398046511136) (h0 : Within msk s00 s) :
    Within msk s00 (State.ptEnable s l p) := by
  refine within_trans h0 ?_
  unfold State.ptEnable
  lift_lets -useContext -merge -underBinder
  intro x0 x1
  have hx1 : Within msk s x1 := (State.modPt_within _ _ _ _ (msub rfl hm) (Within.refl _))
  clear_value x1
  intro x2
  have hx2 : Within msk s x2 := (within_wr _ _ _ _ _ (fsub rfl hm) (within_wr _ _ _ _ _ (fsub rfl hm) (within_wr _ _ _ _ _ (fsub rfl hm) hx1)))
  clear_value x2
  exact (State.ptAngle_within _ _ _ (msub rfl hm) (State.ptFlags_within _ _ _ _ _ (msub rfl hm) hx2))

theorem State.ptSwitch_within {msk : Nat} {s00 : State} (s : State) (l : Lane) (p : Fin 6) (hm : 4398046511136 &&& msk = 4398046511136) (h0 : Within msk s00 s) :
    Within msk s00 (State.ptSwitch s l p) := by
  refine within_trans h0 ?_
  unfold State.ptSwitch
  refine within_ite (fun _ => ?_) (fun _ => ?_)
  · exact (State.ptEnable_within _ _ _ (msub rfl hm) (Within.refl _))
  · exact (State.ptFlags_within _ _ _ _ _ (msub rfl hm) (Within.refl _))

theorem State.posStart_within {msk : Nat} {s00 : State} (s : State) (l : Lane) (hm : 4398046511136 &&& msk = 4398046511136) (h0 : Within msk s00 s) :
    Within msk s00 (State.posStart s l) := by
  refine within_trans h0 ?_
  unfold State.posStart
  lift_lets -useContext -merge -underBinder
  intro x0 x1
  have hx1 : Within msk s x1 := (within_each _ _ (Within.refl _) (fun _ _ => (State.modRes_within _ _ _ _ (msub rfl hm) (within_wr _ _ _ _ _ (fsub rfl hm) (Within.refl _)))))
  clear_value x1
  exact (within_each _ _ hx1 (fun _ _ => (within_when _ _ (Within.refl _) (fun _ => (State.ptEnable_within _ _ _ (msub rfl hm) (Within.refl _))))))

theorem State.sentSlow_within {msk : Nat} {s00 : State} (s : State) (l : Lane) (n : Fin 4) (status : Nat) (hm : 32 &&& msk = 32) (h0 : Within msk s00 s) :
    Within msk s00 (State.sentSlow s l n status) := by
  refine within_trans h0 ?_
  unfold State.sentSlow
  lift_lets -useContext -merge -underBinder
  intro x0 x1
  try clear_value x1
  intro x2 x3
  try clear_value x3
  intro x4
  try clear_value x4
  intro x5
  try clear_value x5
  intro x6
  try clear_value x6
  intro x7
  try clear_value x7
  intro x8
  try clear_value x8
  intro x9
  try clear_value x9
  intro x10
  try clear_value x10
  refine within_ite (fun _ => ?_) (fun _ => ?_)
  · refine within_ite (fun _ => ?_) (fun _ => ?_)
    · exact (within_set _ _ _ _ (fsub rfl hm) (within_wr _ _ _ _ _ (fsub rfl hm) (within_wr _ _ _ _ _ (fsub rfl hm) (within_wr _ _ _ _ _ (fsub rfl hm) (State.modPos_within _ _ _ (msub rfl hm) (Within.refl _))))))
    · exact (within_inc _ _ _ _ _ (fsub rfl hm) (State.modPos_within _ _ _ (msub rfl hm) (Within.refl _)))
  · exact (State.modPos_within _ _ _ (msub rfl hm) (Within.refl _))

theorem State.sentDrop_within {msk : Nat} {s00 : State} (s : State) (l : Lane) (n : Fin 4) (hm : 0 &&& msk = 0) (h0 : Within msk s00 s) :
    Within msk s00 (State.sentDrop s l n) := by
  refine within_trans h0 ?_
  unfold State.sentDrop
  exact (State.modPos_within _ _ _ (msub rfl hm) (Within.refl _))

theorem State.sentReject_within {msk : Nat} {s00 : State} (s : State) (l : Lane) (n : Fin 4) (f : Fld) (hm : 0 &&& msk = 0) (hg3 : f.inM msk = true) (h0 : Within msk s00 s) :
    Within msk s00 (State.sentReject s l n f) := by
  refine within_trans h0 ?_
  unfold State.sentReject
  exact (within_inc _ _ _ _ _ hg3 (State.sentDrop_within _ _ _ (msub rfl hm) (Within.refl _)))

theorem State.ticks_within {msk : Nat} {s00 : State} (s : State) (sync v : Nat) (hm : 4398046511104 &&& msk = 4398046511104) (h0 : Within msk s00 s) :
    Within1 msk s00 (State.ticks s sync v) := by
  refine within1_trans h0 ?_
  unfold State.ticks
  lift_lets -useContext -merge -underBinder
  intro x0
  have hx0 : Within1 msk s x0 := (State.roundQ_within _ _ _ (msub rfl hm) (Within.refl _))
  clear_value x0
  intro x1
  try clear_value x1
  intro x2
  have hx2 : Within msk s x2 := hx0.h
  clear_value x2
  exact ⟨Within.snd hx2⟩

theorem State.tickList_within {msk : Nat} {s00 : State} (s : State) (sync : Nat) (vs : List Nat)
    (hm : 4398046511104 &&& msk = 4398046511104) (h0 : Within msk s00 s) : Within1 msk s00 (s.tickList sync vs) := by
  induction vs generalizing s with
  | nil => exact ⟨h0⟩
  | cons v r ih => exact ⟨(ih _ (State.ticks_within s sync v (msub rfl hm) h0).h).h⟩

theorem State.sentFrame_within {msk : Nat} {s00 : State} (s : State) (l : Lane) (n : Fin 4) (levels : List Nat) (hm : 4398046511136 &&& msk = 4398046511136) (h0 : Within msk s00 s) :
    Within msk s00 (State.sentFrame s l n levels) := by
  refine within_trans h0 ?_
  unfold State.sentFrame
  lift_lets -useContext -merge -underBinder
  intro x0 x1
  try clear_value x1
  intro x2
  try clear_value x2
  intro x3
  try clear_value x3
  intro x4
  try clear_value x4
  intro x5
  try clear_value x5
  intro x6
  try clear_value x6
  intro x7
  try clear_value x7
  intro x8
  try clear_value x8
  intro x9
  try clear_value x9
  intro x10
  try clear_value x10
  intro x11
  have hx11 : Within msk s x11 := (State.modPos_within _ _ _ (msub rfl hm) (Within.refl _))
  clear_value x11
  split
  · refine within_ite (fun _ => ?_) (fun _ => ?_)
    · exact (State.sentDrop_within _ _ _ (msub rfl hm) hx11)
    · exact (State.sentReject_within _ _ _ _ (msub rfl hm) (fsub rfl hm) hx11)
  · lift_lets -useContext -merge -underBinder
    intro x12
    try clear_value x12
    intro x13
    have hx13 : Within1 msk s x13 := (State.tickList_within _ _ _ (msub rfl hm) hx11)
    clear_value x13
    intro x14
    try clear_value x14
    intro x15
    have hx15 : Within msk s x15 := hx13.h
    clear_value x15
    intro x16
    try clear_value x16
    intro x17
    try clear_value x17
    intro x18
    try clear_value x18
    intro x19
    have hx19 : Within1 msk s x19 := (State.quot_within _ _ _ (msub rfl hm) hx15)
    clear_value x19
    intro x20
    try clear_value x20
    intro x21
    have hx21 : Within msk s x21 := hx19.h
    clear_value x21
    intro x22
    have hx22 : Within msk s x22 := (within_wr _ _ _ _ _ (fsub rfl hm) (within_wr _ _ _ _ _ (fsub rfl hm) (within_wr _ _ _ _ _ (fsub rfl hm) (within_wr _ _ _ _ _ (fsub rfl hm) hx21))))
    clear_value x22
    intro x23
    have hx23 : Within msk s x23 := (within_wrBit _ _ _ _ _ (fsub rfl hm) (within_set _ _ _ _ (fsub rfl hm) (within_set _ _ _ _ (fsub rfl hm) (within_wr _ _ _ _ _ (fsub rfl hm) hx22))))
    clear_value x23
    intro x24
    have hx24 : Within msk s x24 := (State.modPos_within _ _ _ (msub rfl hm) hx23)
    clear_value x24
    intro x25
    have hx25 : Within msk s x25 := (State.irq_within _ _ _ _ (msub rfl hm) (fsub rfl hm) hx24)
    clear_value x25
    refine within_ite (fun _ => ?_) (fun _ => ?_)
    · exact (State.sentReject_within _ _ _ _ (msub rfl hm) (fsub rfl hm) hx11)
    · refine within_ite (fun _ => ?_) (fun _ => ?_)
      · exact (State.sentReject_within _ _ _ _ (msub rfl hm) (fsub rfl hm) hx15)
      · refine within_ite (fun _ => ?_) (fun _ => ?_)
        · exact (State.sentReject_within _ _ _ _ (msub rfl hm) (fsub rfl hm) hx15)
        · refine within_ite (fun _ => ?_) (fun _ => ?_)
          · exact (State.sentSlow_within _ _ _ _ (msub rfl hm) hx25)
          · exact hx25

theorem execSentFrame_within {msk : Nat} (l : Lane) (n : Fin 4) (levels : List Nat) (s : State) (hm : 4398046511136 &&& msk = 4398046511136) :
    WithinOut msk s (execSentFrame l n levels s) := by
  unfold execSentFrame
  exact withinOut_next (within_ite (fun _ => (State.sentFrame_within _ _ _ _ (msub rfl hm) (Within.refl _))) (fun _ => (Within.refl _)))

theorem execSentStale_within {msk : Nat} (l : Lane) (n : Fin 4) (s : State) (hm : 8796093022240 &&& msk = 8796093022240) :
    WithinOut msk s (execSentStale l n s) := by
  unfold execSentStale
  lift_lets -useContext -merge -underBinder
  intro x0
  exact withinOut_next (within_ite (fun _ => (within_wrBit _ _ _ _ _ (fsub rfl hm) (within_clr _ _ _ _ (fsub rfl hm) (within_advTo _ (msub rfl hm) (Within.refl _))))) (fun _ => (Within.refl _)))

theorem State.sentRestart_within {msk : Nat} {s00 : State} (s : State) (l : Lane) (n : Fin 4) (hm : 0 &&& msk = 0) (h0 : Within msk s00 s) :
    Within msk s00 (State.sentRestart s l n) := by
  refine within_trans h0 ?_
  unfold State.sentRestart
  exact (State.modPos_within _ _ _ (msub rfl hm) (Within.refl _))


end Sys2Proof.Machine
end

