-- ==== Sys2Proof/Laws/WithinMotOps.lean ====
section
/-!
SUPPORT. The operations of Machine/MotOps.lean change nothing outside their masks (Laws/Within.lean).
-/
namespace Sys2Proof.Machine

theorem State.modMach_within {msk : Nat} {s00 : State} (s : State) (l : Lane) (m : Fin 2) (f : MotMach → MotMach) (hm : 0 &&& msk = 0) (h0 : Within msk s00 s) :
    Within msk s00 (State.modMach s l m f) := by
  refine within_trans h0 ?_
  unfold State.modMach
  exact (within_modRun _ _ (Within.refl _) fun _ => ⟨rfl, rfl⟩)

theorem State.motLog_within {msk : Nat} {s00 : State} (s : State) (l : Lane) (rule : Nat) (m : Fin 2) (hm : 516 &&& msk = 516) (h0 : Within msk s00 s) :
    Within msk s00 (State.motLog s l rule m) := by
  refine within_trans h0 ?_
  unfold State.motLog
  lift_lets -useContext -merge -underBinder
  intro x0
  have hx0 : Within1 msk s x0 := (State.submit_within _ _ _ _ _ _ _ _ (msub rfl hm) (Within.refl _))
  clear_value x0
  split
  · exact (within_inc _ _ _ _ _ (fsub rfl hm) hx0.h)
  · exact (within_inc _ _ _ _ _ (fsub rfl hm) hx0.h)

theorem State.motOverride_within {msk : Nat} {s00 : State} (s : State) (l : Lane) (m : Fin 2) (o : Option Bool) (hm : 64 &&& msk = 64) (h0 : Within msk s00 s) :
    Within msk s00 (State.motOverride s l m o) := by
  refine within_trans h0 ?_
  unfold State.motOverride
  exact (within_each _ _ (Within.refl _) (fun y0 y1 => (by
    lift_lets -useContext -merge -underBinder
    intro x2
    have hx2 : Within msk y0 x2 := (State.modBand_within _ _ _ _ (msub rfl hm) (Within.refl _))
    clear_value x2
    refine within_ite (fun _ => ?_) (fun _ => ?_)
    · exact hx2
    · exact (State.toSettle_within _ _ _ (msub rfl hm) hx2)
)))

theorem State.motSetH_within {msk : Nat} {s00 : State} (s : State) (l : Lane) (m : Fin 2) (hs : List Nat) (hm : 64 &&& msk = 64) (h0 : Within msk s00 s) :
    Within msk s00 (State.motSetH s l m hs) := by
  refine within_trans h0 ?_
  unfold State.motSetH
  exact (within_each _ _ (Within.refl _) (fun _ _ => (within_wr _ _ _ _ _ (fsub rfl hm) (Within.refl _))))

theorem State.motHold_within {msk : Nat} {s00 : State} (s : State) (l : Lane) (m : Fin 2) (r : Nat) (hm : 64 &&& msk = 64) (h0 : Within msk s00 s) :
    Within msk s00 (State.motHold s l m r) := by
  refine within_trans h0 ?_
  unfold State.motHold
  lift_lets -useContext -merge -underBinder
  intro x0
  have hx0 : Within msk s x0 := by
    unfold x0
    split
    · refine within_ite (fun _ => ?_) (fun _ => ?_)
      · exact (Within.refl _)
      · exact (State.modMach_within _ _ _ _ (msub rfl hm) (Within.refl _))
    · exact (Within.refl _)
  clear_value x0
  intro x1
  have hx1 : Within msk s x1 := by
    unfold x1
    split
    · exact (State.modMach_within _ _ _ _ (msub rfl hm) (State.motSetH_within _ _ _ _ (msub rfl hm) hx0))
    · exact hx0
  clear_value x1
  intro x2
  try clear_value x2
  refine within_ite (fun _ => ?_) (fun _ => ?_)
  · exact (within_each _ _ (State.motOverride_within _ _ _ _ (msub rfl hm) hx1) (fun _ _ => (State.modBand_within _ _ _ _ (msub rfl hm) (Within.refl _))))
  · refine within_ite (fun _ => ?_) (fun _ => ?_)
    · exact (State.motSetH_within _ _ _ _ (msub rfl hm) (State.motOverride_within _ _ _ _ (msub rfl hm) hx0))
    · exact (State.motSetH_within _ _ _ _ (msub rfl hm) (State.motOverride_within _ _ _ _ (msub rfl hm) hx0))

theorem State.motSync_within {msk : Nat} {s00 : State} (s : State) (l : Lane) (m : Fin 2) (hm : 512 &&& msk = 512) (h0 : Within msk s00 s) :
    Within msk s00 (State.motSync s l m) := by
  refine within_trans h0 ?_
  unfold State.motSync
  lift_lets -useContext -merge -underBinder
  intro x0 x1
  try clear_value x1
  exact (within_wrBit _ _ _ _ _ (fsub rfl hm) (within_wrBit _ _ _ _ _ (fsub rfl hm) (within_put _ _ _ _ _ (fsub rfl hm) (Within.refl _))))

theorem State.motRegion_within {msk : Nat} {s00 : State} (s : State) (l : Lane) (m : Fin 2) (r : Nat) (hm : 580 &&& msk = 580) (h0 : Within msk s00 s) :
    Within msk s00 (State.motRegion s l m r) := by
  refine within_trans h0 ?_
  unfold State.motRegion
  lift_lets -useContext -merge -underBinder
  intro x0 x1
  have hx1 : Within msk s x1 := (State.irq_within _ _ _ _ (msub rfl hm) (fsub rfl hm) (within_inc _ _ _ _ _ (fsub rfl hm) (within_wr _ _ _ _ _ (fsub rfl hm) (Within.refl _))))
  clear_value x1
  refine within_ite (fun _ => ?_) (fun _ => ?_)
  · exact (Within.refl _)
  · exact (State.motSync_within _ _ _ (msub rfl hm) (State.motHold_within _ _ _ _ (msub rfl hm) (within_when _ _ hx1 (fun _ => (State.motLog_within _ _ _ _ (msub rfl hm) (Within.refl _))))))

theorem State.motForce_within {msk : Nat} {s00 : State} (s : State) (l : Lane) (m : Fin 2) (hm : 171802886276 &&& msk = 171802886276) (h0 : Within msk s00 s) :
    Within msk s00 (State.motForce s l m) := by
  refine within_trans h0 ?_
  unfold State.motForce
  lift_lets -useContext -merge -underBinder
  intro x0
  try clear_value x0
  exact (State.raiseTg_within _ _ _ _ _ (msub rfl hm) (State.modMach_within _ _ _ _ (msub rfl hm) (Within.refl _)))

theorem State.motWithdraw_within {msk : Nat} {s00 : State} (s : State) (l : Lane) (m : Fin 2) (hm : 171802886272 &&& msk = 171802886272) (h0 : Within msk s00 s) :
    Within msk s00 (State.motWithdraw s l m) := by
  refine within_trans h0 ?_
  unfold State.motWithdraw
  split
  · exact (Within.refl _)
  · lift_lets -useContext -merge -underBinder
    intro x0
    have hx0 : Within msk s x0 := (State.modMach_within _ _ _ _ (msub rfl hm) (Within.refl _))
    clear_value x0
    refine within_ite (fun _ => ?_) (fun _ => ?_)
    · exact hx0
    · exact (State.clearTg_within _ _ _ (msub rfl hm) hx0)

theorem State.motLevel_within {msk : Nat} {s00 : State} (s : State) (l : Lane) (n : Fin 32) (level : Bool) (hm : 171802886336 &&& msk = 171802886336) (h0 : Within msk s00 s) :
    Within msk s00 (State.motLevel s l n level) := by
  refine within_trans h0 ?_
  unfold State.motLevel
  lift_lets -useContext -merge -underBinder
  intro x0
  try clear_value x0
  intro x1 x2
  have hx2 : Within msk s x2 := (within_put _ _ _ _ _ (fsub rfl hm) (State.modBand_within _ _ _ _ (msub rfl hm) (Within.refl _)))
  clear_value x2
  intro x3
  have hx3 : Within msk s x3 := (State.setLevel_within _ _ _ _ _ (msub rfl hm) (State.dropEng_within _ _ _ (msub rfl hm) hx2))
  clear_value x3
  refine within_ite (fun _ => ?_) (fun _ => ?_)
  · exact hx3
  · exact (State.follow_within _ _ _ _ (msub rfl hm) hx3)

theorem State.motApply_within {msk : Nat} {s00 : State} (s : State) (l : Lane) (m : Fin 2) (levels : List Bool) (hm : 171802886336 &&& msk = 171802886336) (h0 : Within msk s00 s) :
    Within msk s00 (State.motApply s l m levels) := by
  refine within_trans h0 ?_
  unfold State.motApply
  exact (State.motWithdraw_within _ _ _ (msub rfl hm) (within_each _ _ (Within.refl _) (fun _ _ => (State.motLevel_within _ _ _ _ (msub rfl hm) (Within.refl _)))))

theorem State.motUnforce_within {msk : Nat} {s00 : State} (s : State) (l : Lane) (m : Fin 2) (hm : 0 &&& msk = 0) (h0 : Within msk s00 s) :
    Within msk s00 (State.motUnforce s l m) := by
  refine within_trans h0 ?_
  unfold State.motUnforce
  exact (within_each _ _ (Within.refl _) (fun _ _ => (State.modBand_within _ _ _ _ (msub rfl hm) (Within.refl _))))

theorem State.motSignals_within {msk : Nat} {s00 : State} (s : State) (l : Lane) (m : Fin 2) (v : List Int) (hm : 12885950464 &&& msk = 12885950464) (h0 : Within msk s00 s) :
    Within msk s00 (State.motSignals s l m v) := by
  refine within_trans h0 ?_
  unfold State.motSignals
  exact (within_each _ _ (Within.refl _) (fun _ _ => (State.ceSource_within _ _ _ _ _ (msub rfl hm) (Within.refl _))))


end Sys2Proof.Machine
end

