-- ==== Sys2Proof/Laws/WithinMot.lean ====
section
/-!
SUPPORT. The operations of Machine/Mot.lean change nothing outside their masks (Laws/Within.lean).
-/
namespace Sys2Proof.Machine

theorem State.motGo_within {msk : Nat} {s00 : State} (s : State) (l : Lane) (m : Fin 2) (a : Nat) (hm : 184688837316 &&& msk = 184688837316) (h0 : Within msk s00 s) :
    Within msk s00 (State.motGo s l m a) := by
  refine within_trans h0 ?_
  unfold State.motGo
  lift_lets -useContext -merge -underBinder
  intro x0 x1
  try clear_value x1
  intro x2
  try clear_value x2
  intro x3
  have hx3 : Within msk s x3 := (State.modMach_within _ _ _ _ (msub rfl hm) (within_wr _ _ _ _ _ (fsub rfl hm) (Within.refl _)))
  clear_value x3
  intro x4
  have hx4 : Within msk s x4 := (within_ite (fun _ => (within_inc _ _ _ _ _ (fsub rfl hm) (within_set _ _ _ _ (fsub rfl hm) hx3))) (fun _ => hx3))
  clear_value x4
  intro x5
  have hx5 : Within msk s x5 := (within_ite (fun _ => (State.irq_within _ _ _ _ (msub rfl hm) (fsub rfl hm) hx4)) (fun _ => hx4))
  clear_value x5
  intro x6
  have hx6 : Within msk s x6 := (within_ite (fun _ => (State.motUnforce_within _ _ _ (msub rfl hm) hx5)) (fun _ => hx5))
  clear_value x6
  intro x7
  try clear_value x7
  intro x8
  have hx8 : Within msk s x8 := (State.modMach_within _ _ _ _ (msub rfl hm) hx6)
  clear_value x8
  intro x9
  try clear_value x9
  intro x10
  try clear_value x10
  intro x11
  have hx11 : Within msk s x11 := (within_ite (fun _ => (State.motHold_within _ _ _ _ (msub rfl hm) hx8)) (fun _ => (State.motRegion_within _ _ _ _ (msub rfl hm) hx8)))
  clear_value x11
  intro x12
  have hx12 : Within msk s x12 := (within_ite (fun _ => (State.motWithdraw_within _ _ _ (msub rfl hm) (within_wr _ _ _ _ _ (fsub rfl hm) (State.motHold_within _ _ _ _ (msub rfl hm) hx6)))) (fun _ => (within_ite (fun _ => (State.motWithdraw_within _ _ _ (msub rfl hm) (State.motSignals_within _ _ _ _ (msub rfl hm) (State.motOverride_within _ _ _ _ (msub rfl hm) hx6)))) (fun _ => (within_ite (fun _ => (State.motWithdraw_within _ _ _ (msub rfl hm) hx11)) (fun _ => (within_ite (fun _ => (within_ite (fun _ => hx6) (fun _ => (State.motForce_within _ _ _ (msub rfl hm) hx6)))) (fun _ => hx6))))))))
  clear_value x12
  refine within_ite (fun _ => ?_) (fun _ => ?_)
  · exact (Within.refl _)
  · exact (State.motSync_within _ _ _ (msub rfl hm) hx12)

theorem State.motLose_within {msk : Nat} {s00 : State} (s : State) (l : Lane) (m : Fin 2) (hm : 184688837316 &&& msk = 184688837316) (h0 : Within msk s00 s) :
    Within msk s00 (State.motLose s l m) := by
  refine within_trans h0 ?_
  unfold State.motLose
  exact (State.motGo_within _ _ _ _ (msub rfl hm) (Within.refl _))

theorem State.motPreset_within {msk : Nat} {s00 : State} (s : State) (l : Lane) (m : Fin 2) (theta : Nat) (omega : Int) (hm : 512 &&& msk = 512) (h0 : Within msk s00 s) :
    Within msk s00 (State.motPreset s l m theta omega) := by
  refine within_trans h0 ?_
  unfold State.motPreset
  lift_lets -useContext -merge -underBinder
  intro x0
  have hx0 : Within msk s x0 := (State.modMach_within _ _ _ _ (msub rfl hm) (Within.refl _))
  clear_value x0
  exact (within_wrS _ _ _ _ _ (fsub rfl hm) (within_wr _ _ _ _ _ (fsub rfl hm) hx0))

theorem State.angleStep_within {msk : Nat} {s00 : State} (s : State) (l : Lane) (m : Fin 2) (hm : 184688837316 &&& msk = 184688837316) (h0 : Within msk s00 s) :
    Within msk s00 (State.angleStep s l m) := by
  refine within_trans h0 ?_
  unfold State.angleStep
  lift_lets -useContext -merge -underBinder
  intro x0 x1
  try clear_value x1
  intro x2
  try clear_value x2
  intro x3
  have hx3 : Within msk s x3 := (within_put _ _ _ _ _ (fsub rfl hm) (Within.refl _))
  clear_value x3
  refine within_ite (fun _ => ?_) (fun _ => ?_)
  · exact (State.motGo_within _ _ _ _ (msub rfl hm) hx3)
  · refine within_ite (fun _ => ?_) (fun _ => ?_)
    · exact (State.motGo_within _ _ _ _ (msub rfl hm) hx3)
    · refine within_ite (fun _ => ?_) (fun _ => ?_)
      · refine within_ite (fun _ => ?_) (fun _ => ?_)
        · exact (State.motGo_within _ _ _ _ (msub rfl hm) hx3)
        · refine within_ite (fun _ => ?_) (fun _ => ?_)
          · exact (State.motGo_within _ _ _ _ (msub rfl hm) hx3)
          · exact (State.modMach_within _ _ _ _ (msub rfl hm) hx3)
      · refine within_ite (fun _ => ?_) (fun _ => ?_)
        · refine within_ite (fun _ => ?_) (fun _ => ?_)
          · exact (State.modMach_within _ _ _ _ (msub rfl hm) hx3)
          · refine within_ite (fun _ => ?_) (fun _ => ?_)
            · exact (State.motGo_within _ _ _ _ (msub rfl hm) hx3)
            · exact (State.motLose_within _ _ _ (msub rfl hm) hx3)
        · refine within_ite (fun _ => ?_) (fun _ => ?_)
          · refine within_ite (fun _ => ?_) (fun _ => ?_)
            · exact (State.modMach_within _ _ _ _ (msub rfl hm) hx3)
            · refine within_ite (fun _ => ?_) (fun _ => ?_)
              · exact (State.motGo_within _ _ _ _ (msub rfl hm) hx3)
              · exact (State.motLose_within _ _ _ (msub rfl hm) hx3)
          · refine within_ite (fun _ => ?_) (fun _ => ?_)
            · refine within_ite (fun _ => ?_) (fun _ => ?_)
              · exact (State.motGo_within _ _ _ _ (msub rfl hm) hx3)
              · refine within_ite (fun _ => ?_) (fun _ => ?_)
                · exact (State.motGo_within _ _ _ _ (msub rfl hm) hx3)
                · exact hx3
            · refine within_ite (fun _ => ?_) (fun _ => ?_)
              · refine within_ite (fun _ => ?_) (fun _ => ?_)
                · exact (State.motGo_within _ _ _ _ (msub rfl hm) hx3)
                · exact hx3
              · exact hx3

theorem State.xchkStep_within {msk : Nat} {s00 : State} (s : State) (l : Lane) (m : Fin 2) (hm : 512 &&& msk = 512) (h0 : Within msk s00 s) :
    Within msk s00 (State.xchkStep s l m) := by
  refine within_trans h0 ?_
  unfold State.xchkStep
  lift_lets -useContext -merge -underBinder
  intro x0 x1
  try clear_value x1
  intro x2
  try clear_value x2
  intro x3
  try clear_value x3
  intro x4
  try clear_value x4
  intro x5
  try clear_value x5
  intro x6
  try clear_value x6
  intro x7
  try clear_value x7
  intro x8
  have hx8 : Within msk s x8 := (State.modMach_within _ _ _ _ (msub rfl hm) (Within.refl _))
  clear_value x8
  refine within_ite (fun _ => ?_) (fun _ => ?_)
  · refine within_ite (fun _ => ?_) (fun _ => ?_)
    · exact (State.irq_within _ _ _ _ (msub rfl hm) (fsub rfl hm) (within_inc _ _ _ _ _ (fsub rfl hm) (within_set _ _ _ _ (fsub rfl hm) (State.modMach_within _ _ _ _ (msub rfl hm) hx8))))
    · refine within_ite (fun _ => ?_) (fun _ => ?_)
      · exact (within_clr _ _ _ _ (fsub rfl hm) hx8)
      · exact hx8
  · exact (State.modMach_within _ _ _ _ (msub rfl hm) (Within.refl _))

theorem State.motOutputs_within {msk : Nat} {s00 : State} (s : State) (l : Lane) (m : Fin 2) (hm : 12885950976 &&& msk = 12885950976) (h0 : Within msk s00 s) :
    Within msk s00 (State.motOutputs s l m) := by
  refine within_trans h0 ?_
  unfold State.motOutputs
  lift_lets -useContext -merge -underBinder
  intro x0 x1
  try clear_value x1
  intro x2
  try clear_value x2
  intro x3
  try clear_value x3
  intro x4
  try clear_value x4
  intro x5
  try clear_value x5
  intro x6
  have hx6 : Within msk s x6 := (within_ite (fun _ => (Within.refl _)) (fun _ => (within_wrS _ _ _ _ _ (fsub rfl hm) (within_wr _ _ _ _ _ (fsub rfl hm) (Within.refl _)))))
  clear_value x6
  intro x7
  have hx7 : Within msk s x7 := (State.ceSource_within _ _ _ _ _ (msub rfl hm) (State.ceSource_within _ _ _ _ _ (msub rfl hm) (State.ceSource_within _ _ _ _ _ (msub rfl hm) hx6)))
  clear_value x7
  intro x8
  try clear_value x8
  intro x9
  have hx9 : Within msk s x9 := (within_wrS _ _ _ _ _ (fsub rfl hm) (within_wrS _ _ _ _ _ (fsub rfl hm) (within_wrS _ _ _ _ _ (fsub rfl hm) hx7)))
  clear_value x9
  intro x10
  have hx10 : Within msk s x10 := (within_wrSat _ _ _ _ _ (fsub rfl hm) hx9)
  clear_value x10
  intro x11
  try clear_value x11
  refine within_ite (fun _ => ?_) (fun _ => ?_)
  · exact (State.motSignals_within _ _ _ _ (msub rfl hm) hx10)
  · refine within_ite (fun _ => ?_) (fun _ => ?_)
    · exact (State.motSignals_within _ _ _ _ (msub rfl hm) hx10)
    · refine within_ite (fun _ => ?_) (fun _ => ?_)
      · exact (State.motSignals_within _ _ _ _ (msub rfl hm) hx10)
      · exact hx10

theorem State.motTake_within {msk : Nat} {s00 : State} (s : State) (l : Lane) (m : Fin 2) (hm : 580 &&& msk = 580) (h0 : Within msk s00 s) :
    Within msk s00 (State.motTake s l m) := by
  refine within_trans h0 ?_
  unfold State.motTake
  lift_lets -useContext -merge -underBinder
  intro x0
  split
  · lift_lets -useContext -merge -underBinder
    intro x1
    have hx1 : Within msk s x1 := (State.modMach_within _ _ _ _ (msub rfl hm) (Within.refl _))
    clear_value x1
    intro x2
    have hx2 : Within msk s x2 := (within_wr _ _ _ _ _ (fsub rfl hm) (within_wrS _ _ _ _ _ (fsub rfl hm) (within_wrS _ _ _ _ _ (fsub rfl hm) hx1)))
    clear_value x2
    refine within_ite (fun _ => ?_) (fun _ => ?_)
    · exact (Within.refl _)
    · split
      · exact (State.motRegion_within _ _ _ _ (msub rfl hm) hx2)
      · exact hx2
  · exact (Within.refl _)

theorem State.motTsat_within {msk : Nat} {s00 : State} (s : State) (l : Lane) (m : Fin 2) (hm : 580 &&& msk = 580) (h0 : Within msk s00 s) :
    Within msk s00 (State.motTsat s l m) := by
  refine within_trans h0 ?_
  unfold State.motTsat
  lift_lets -useContext -merge -underBinder
  intro x0
  try clear_value x0
  intro x1
  have hx1 : Within msk s x1 := (State.modMach_within _ _ _ _ (msub rfl hm) (Within.refl _))
  clear_value x1
  refine within_ite (fun _ => ?_) (fun _ => ?_)
  · refine within_ite (fun _ => ?_) (fun _ => ?_)
    · exact (State.motRegion_within _ _ _ _ (msub rfl hm) (State.modMach_within _ _ _ _ (msub rfl hm) (within_set _ _ _ _ (fsub rfl hm) hx1)))
    · exact hx1
  · exact (Within.refl _)

theorem State.motAscHold_within {msk : Nat} {s00 : State} (s : State) (l : Lane) (m : Fin 2) (hm : 64 &&& msk = 64) (h0 : Within msk s00 s) :
    Within msk s00 (State.motAscHold s l m) := by
  refine within_trans h0 ?_
  unfold State.motAscHold
  lift_lets -useContext -merge -underBinder
  intro x0
  try clear_value x0
  intro x1
  have hx1 : Within msk s x1 := (State.modMach_within _ _ _ _ (msub rfl hm) (Within.refl _))
  clear_value x1
  refine within_ite (fun _ => ?_) (fun _ => ?_)
  · exact (Within.refl _)
  · refine within_ite (fun _ => ?_) (fun _ => ?_)
    · exact (State.motOverride_within _ _ _ _ (msub rfl hm) (State.modMach_within _ _ _ _ (msub rfl hm) (Within.refl _)))
    · refine within_ite (fun _ => ?_) (fun _ => ?_)
      · exact (State.motHold_within _ _ _ _ (msub rfl hm) hx1)
      · exact hx1

theorem State.obcAngle_within {msk : Nat} {s00 : State} (s : State) (l : Lane) (hm : 4398046511104 &&& msk = 4398046511104) (h0 : Within msk s00 s) :
    Within1 msk s00 (State.obcAngle s l) := by
  refine within1_trans h0 ?_
  unfold State.obcAngle
  refine within1_ite (fun _ => ?_) (fun _ => ?_)
  · exact ⟨Within.snd (Within.refl _)⟩
  · exact (within1_free _ (msub rfl hm) (Within.refl _))

theorem State.obcRefs_within {msk : Nat} {s00 : State} (s0 : State) (l : Lane) (hm : 4398046511168 &&& msk = 4398046511168) (h0 : Within msk s00 s0) :
    Within msk s00 (State.obcRefs s0 l) := by
  refine within_trans h0 ?_
  unfold State.obcRefs
  lift_lets -useContext -merge -underBinder
  intro x0 x1
  have hx1 : Within1 msk s0 x1 := (State.obcAngle_within _ _ (msub rfl hm) (Within.refl _))
  clear_value x1
  intro x2
  have hx2 : Within msk s0 x2 := (State.modNrg_within _ _ _ (msub rfl hm) hx1.h)
  clear_value x2
  intro x3
  try clear_value x3
  intro x4
  try clear_value x4
  refine within_ite (fun _ => ?_) (fun _ => ?_)
  · exact (within_each _ _ hx2 (fun y5 y6 => (by
      lift_lets -useContext -merge -underBinder
      intro x7
      try clear_value x7
      intro x8
      try clear_value x8
      exact (State.setK3_within _ _ _ _ (msub rfl hm) (Within.refl _))
)))
  · exact (Within.refl _)

theorem execMotObserverUpdate_within {msk : Nat} (l : Lane) (m : Fin 2) (o : ObsOut) (s : State) (hm : 13378828371652 &&& msk = 13378828371652) :
    WithinOut msk s (execMotObserverUpdate l m o s) := by
  unfold execMotObserverUpdate
  lift_lets -useContext -merge -underBinder
  intro x0
  try clear_value x0
  intro x1
  have hx1 : Within msk s x1 := (State.modMach_within _ _ _ _ (msub rfl hm) (within_advTo _ (msub rfl hm) (Within.refl _)))
  clear_value x1
  intro x2
  have hx2 : Within msk s x2 := (State.motAscHold_within _ _ _ (msub rfl hm) (State.angleStep_within _ _ _ (msub rfl hm) (State.motTsat_within _ _ _ (msub rfl hm) (State.motTake_within _ _ _ (msub rfl hm) hx1))))
  clear_value x2
  exact withinOut_next (within_ite (fun _ => (within_when _ _ (State.plimStep_within _ _ (msub rfl hm) (State.xchkStep_within _ _ _ (msub rfl hm) (State.motOutputs_within _ _ _ (msub rfl hm) hx2))) (fun _ => (State.obcRefs_within _ _ (msub rfl hm) (Within.refl _))))) (fun _ => (Within.refl _)))

theorem execMotTsatExpiry_within {msk : Nat} (l : Lane) (m : Fin 2) (s : State) (hm : 8796093022208 &&& msk = 8796093022208) :
    WithinOut msk s (execMotTsatExpiry l m s) := by
  unfold execMotTsatExpiry
  exact withinOut_next (within_ite (fun _ => (by
    split
    · exact (Within.refl _)
    · exact (State.modMach_within _ _ _ _ (msub rfl hm) (within_advTo _ (msub rfl hm) (Within.refl _)))
)) (fun _ => (Within.refl _)))

theorem execMotXchkTimeout_within {msk : Nat} (l : Lane) (m : Fin 2) (s : State) (hm : 8980781859524 &&& msk = 8980781859524) :
    WithinOut msk s (execMotXchkTimeout l m s) := by
  unfold execMotXchkTimeout
  lift_lets -useContext -merge -underBinder
  intro x0
  have hx0 : Within msk s x0 := (within_advTo _ (msub rfl hm) (Within.refl _))
  clear_value x0
  exact withinOut_next (within_ite (fun _ => (State.motLose_within _ _ _ (msub rfl hm) (within_set _ _ _ _ (fsub rfl hm) hx0))) (fun _ => (Within.refl _)))

theorem execMotRectifyTimeout_within {msk : Nat} (l : Lane) (m : Fin 2) (s : State) (hm : 8980781859524 &&& msk = 8980781859524) :
    WithinOut msk s (execMotRectifyTimeout l m s) := by
  unfold execMotRectifyTimeout
  exact withinOut_next (within_ite (fun _ => (State.motGo_within _ _ _ _ (msub rfl hm) (within_advTo _ (msub rfl hm) (Within.refl _)))) (fun _ => (Within.refl _)))

theorem execMotPrefTimeout_within {msk : Nat} (l : Lane) (m : Fin 2) (s : State) (hm : 8980781859524 &&& msk = 8980781859524) :
    WithinOut msk s (execMotPrefTimeout l m s) := by
  unfold execMotPrefTimeout
  lift_lets -useContext -merge -underBinder
  intro x0
  try clear_value x0
  intro x1
  have hx1 : Within msk s x1 := (within_advTo _ (msub rfl hm) (Within.refl _))
  clear_value x1
  exact withinOut_next (within_ite (fun _ => (State.motGo_within _ _ _ _ (msub rfl hm) hx1)) (fun _ => (within_ite (fun _ => (State.motGo_within _ _ _ _ (msub rfl hm) hx1)) (fun _ => (Within.refl _)))))

theorem execMotRecatch_within {msk : Nat} (l : Lane) (m : Fin 2) (s : State) (hm : 184688837316 &&& msk = 184688837316) :
    WithinOut msk s (execMotRecatch l m s) := by
  unfold execMotRecatch
  exact withinOut_next (within_ite (fun _ => (State.motGo_within _ _ _ _ (msub rfl hm) (Within.refl _))) (fun _ => (Within.refl _)))

theorem execCatchPulseStart_within {msk : Nat} (l : Lane) (m : Fin 2) (s0 : State) (hm : 8967895908544 &&& msk = 8967895908544) :
    WithinOut msk s0 (execCatchPulseStart l m s0) := by
  unfold execCatchPulseStart
  lift_lets -useContext -merge -underBinder
  intro x0
  have hx0 : Within msk s0 x0 := by
    unfold x0
    split
    · exact (within_advTo _ (msub rfl hm) (Within.refl _))
    · exact (Within.refl _)
  clear_value x0
  exact withinOut_next (within_ite (fun _ => (State.motApply_within _ _ _ _ (msub rfl hm) (State.modMach_within _ _ _ _ (msub rfl hm) hx0))) (fun _ => (Within.refl _)))

theorem State.judgeResolver_within {msk : Nat} {s00 : State} (s : State) (l : Lane) (m : Fin 2) (theta : Nat) (hm : 512 &&& msk = 512) (h0 : Within msk s00 s) :
    Within msk s00 (State.judgeResolver s l m theta) := by
  refine within_trans h0 ?_
  unfold State.judgeResolver
  lift_lets -useContext -merge -underBinder
  intro x0 x1
  try clear_value x1
  refine within_ite (fun _ => ?_) (fun _ => ?_)
  · exact (within_set _ _ _ _ (fsub rfl hm) (Within.refl _))
  · exact (Within.refl _)

theorem State.injectStart_within {msk : Nat} {s00 : State} (s : State) (l : Lane) (m : Fin 2) (hm : 184688837316 &&& msk = 184688837316) (h0 : Within msk s00 s) :
    Within msk s00 (State.injectStart s l m) := by
  refine within_trans h0 ?_
  unfold State.injectStart
  exact (State.motApply_within _ _ _ _ (msub rfl hm) (State.modMach_within _ _ _ _ (msub rfl hm) (State.motGo_within _ _ _ _ (msub rfl hm) (Within.refl _))))

theorem execCatchPulseEnd_within {msk : Nat} (l : Lane) (m : Fin 2) (s0 : State) (hm : 8980781859524 &&& msk = 8980781859524) :
    WithinOut msk s0 (execCatchPulseEnd l m s0) := by
  unfold execCatchPulseEnd
  lift_lets -useContext -merge -underBinder
  intro x0 x1
  try clear_value x1
  intro x2
  have hx2 : Within msk s0 x2 := (within_advTo _ (msub rfl hm) (Within.refl _))
  clear_value x2
  intro x3
  try clear_value x3
  intro x4
  try clear_value x4
  intro x5
  have hx5 : Within msk s0 x5 := (State.motForce_within _ _ _ (msub rfl hm) (State.modMach_within _ _ _ _ (msub rfl hm) hx2))
  clear_value x5
  intro x6
  have hx6 : Within msk s0 x6 := (State.modMach_within _ _ _ _ (msub rfl hm) hx5)
  clear_value x6
  intro x7
  try clear_value x7
  intro x8
  have hx8 : Within msk s0 x8 := (State.modMach_within _ _ _ _ (msub rfl hm) (within_inc _ _ _ _ _ (fsub rfl hm) hx5))
  clear_value x8
  exact withinOut_next (within_ite (fun _ => (within_ite (fun _ => (within_ite (fun _ => (State.injectStart_within _ _ _ (msub rfl hm) hx6)) (fun _ => hx6))) (fun _ => (by
    split
    · exact hx8
    · lift_lets -useContext -merge -underBinder
      intro x9
      try clear_value x9
      intro x10
      try clear_value x10
      intro x11
      try clear_value x11
      intro x12
      try clear_value x12
      intro x13
      try clear_value x13
      refine within_ite (fun _ => ?_) (fun _ => ?_)
      · exact (State.motGo_within _ _ _ _ (msub rfl hm) (State.motPreset_within _ _ _ _ _ (msub rfl hm) (State.judgeResolver_within _ _ _ _ (msub rfl hm) hx8)))
      · refine within_ite (fun _ => ?_) (fun _ => ?_)
        · exact (State.motGo_within _ _ _ _ (msub rfl hm) (State.motPreset_within _ _ _ _ _ (msub rfl hm) (State.judgeResolver_within _ _ _ _ (msub rfl hm) hx8)))
        · exact hx8
)))) (fun _ => (Within.refl _)))

theorem execMotInjectionStep_within {msk : Nat} (l : Lane) (m : Fin 2) (s0 : State) (hm : 8980781859524 &&& msk = 8980781859524) :
    WithinOut msk s0 (execMotInjectionStep l m s0) := by
  unfold execMotInjectionStep
  lift_lets -useContext -merge -underBinder
  intro x0 x1
  try clear_value x1
  intro x2
  try clear_value x2
  intro x3
  have hx3 : Within msk s0 x3 := (within_advTo _ (msub rfl hm) (Within.refl _))
  clear_value x3
  intro x4 x5
  try clear_value x5
  intro x6
  try clear_value x6
  intro x7
  try clear_value x7
  intro x8
  try clear_value x8
  intro x9
  try clear_value x9
  intro x10
  try clear_value x10
  intro x11
  try clear_value x11
  intro x12
  try clear_value x12
  intro x13
  try clear_value x13
  intro x14
  try clear_value x14
  intro x15
  try clear_value x15
  exact withinOut_next (within_ite (fun _ => (within_ite (fun _ => (within_ite (fun _ => (State.motApply_within _ _ _ _ (msub rfl hm) (State.modMach_within _ _ _ _ (msub rfl hm) (State.modMach_within _ _ _ _ (msub rfl hm) hx3)))) (fun _ => (within_ite (fun _ => (State.motForce_within _ _ _ (msub rfl hm) (State.modMach_within _ _ _ _ (msub rfl hm) hx3))) (fun _ => (within_ite (fun _ => (State.modMach_within _ _ _ _ (msub rfl hm) hx3)) (fun _ => (State.motApply_within _ _ _ _ (msub rfl hm) (State.modMach_within _ _ _ _ (msub rfl hm) hx3))))))))) (fun _ => (within_ite (fun _ => (within_ite (fun _ => (State.motGo_within _ _ _ _ (msub rfl hm) (within_set _ _ _ _ (fsub rfl hm) hx3))) (fun _ => (State.motApply_within _ _ _ _ (msub rfl hm) (State.modMach_within _ _ _ _ (msub rfl hm) (State.modMach_within _ _ _ _ (msub rfl hm) hx3)))))) (fun _ => (within_ite (fun _ => (by
    split
    · exact (State.motApply_within _ _ _ _ (msub rfl hm) (State.modMach_within _ _ _ _ (msub rfl hm) (State.modMach_within _ _ _ _ (msub rfl hm) hx3)))
    · exact (State.motForce_within _ _ _ (msub rfl hm) (State.modMach_within _ _ _ _ (msub rfl hm) hx3))
    · exact (State.motApply_within _ _ _ _ (msub rfl hm) (State.modMach_within _ _ _ _ (msub rfl hm) hx3))
    · exact (State.motApply_within _ _ _ _ (msub rfl hm) (State.modMach_within _ _ _ _ (msub rfl hm) (State.modMach_within _ _ _ _ (msub rfl hm) hx3)))
    · exact (State.motForce_within _ _ _ (msub rfl hm) (State.modMach_within _ _ _ _ (msub rfl hm) hx3))
    · exact (State.modMach_within _ _ _ _ (msub rfl hm) hx3)
)) (fun _ => (State.motGo_within _ _ _ _ (msub rfl hm) (State.motPreset_within _ _ _ _ _ (msub rfl hm) hx3))))))))) (fun _ => (Within.refl _)))

theorem execKeWindowEnd_within {msk : Nat} (l : Lane) (m : Fin 2) (s : State) (hm : 516 &&& msk = 516) :
    WithinOut msk s (execKeWindowEnd l m s) := by
  unfold execKeWindowEnd
  lift_lets -useContext -merge -underBinder
  intro x0 x1
  try clear_value x1
  intro x2
  try clear_value x2
  intro x3
  try clear_value x3
  intro x4
  have hx4 : Within msk s x4 := (within_wrSat _ _ _ _ _ (fsub rfl hm) (within_inc _ _ _ _ _ (fsub rfl hm) (State.modMach_within _ _ _ _ (msub rfl hm) (Within.refl _))))
  clear_value x4
  exact withinOut_next (within_ite (fun _ => (within_ite (fun _ => hx4) (fun _ => (State.motLog_within _ _ _ _ (msub rfl hm) (State.irq_within _ _ _ _ (msub rfl hm) (fsub rfl hm) (within_wr _ _ _ _ _ (fsub rfl hm) hx4)))))) (fun _ => (Within.refl _)))

theorem State.keCycle_within {msk : Nat} {s00 : State} (s : State) (l : Lane) (m : Fin 2) (hm : 0 &&& msk = 0) (h0 : Within msk s00 s) :
    Within msk s00 (State.keCycle s l m) := by
  refine within_trans h0 ?_
  unfold State.keCycle
  lift_lets -useContext -merge -underBinder
  intro x0 x1
  try clear_value x1
  intro x2
  try clear_value x2
  intro x3
  try clear_value x3
  intro x4
  try clear_value x4
  intro x5
  try clear_value x5
  refine within_ite (fun _ => ?_) (fun _ => ?_)
  · exact (State.modMach_within _ _ _ _ (msub rfl hm) (Within.refl _))
  · exact (State.modMach_within _ _ _ _ (msub rfl hm) (Within.refl _))

theorem State.motCycle_within {msk : Nat} {s00 : State} (s : State) (l : Lane) (m : Fin 2) (hm : 512 &&& msk = 512) (h0 : Within msk s00 s) :
    Within msk s00 (State.motCycle s l m) := by
  refine within_trans h0 ?_
  unfold State.motCycle
  lift_lets -useContext -merge -underBinder
  intro x0 x1
  have hx1 : Within msk s x1 := (State.keCycle_within _ _ _ (msub rfl hm) (Within.refl _))
  clear_value x1
  intro x2
  try clear_value x2
  intro x3
  try clear_value x3
  intro x4
  try clear_value x4
  intro x5
  try clear_value x5
  intro x6
  try clear_value x6
  intro x7
  try clear_value x7
  intro x8
  try clear_value x8
  intro x9
  try clear_value x9
  intro x10
  try clear_value x10
  intro x11
  try clear_value x11
  intro x12
  have hx12 : Within msk s x12 := (State.modMach_within _ _ _ _ (msub rfl hm) hx1)
  clear_value x12
  intro x13
  have hx13 : Within msk s x13 := (within_put _ _ _ _ _ (fsub rfl hm) (within_put _ _ _ _ _ (fsub rfl hm) (within_put _ _ _ _ _ (fsub rfl hm) hx12)))
  clear_value x13
  intro x14
  try clear_value x14
  intro x15
  have hx15 : Within msk s x15 := (within_wrSat _ _ _ _ _ (fsub rfl hm) (within_wrSat _ _ _ _ _ (fsub rfl hm) (within_wrSat _ _ _ _ _ (fsub rfl hm) hx13)))
  clear_value x15
  refine within_ite (fun _ => ?_) (fun _ => ?_)
  · exact (within_wrSat _ _ _ _ _ (fsub rfl hm) hx15)
  · exact (State.modMach_within _ _ _ _ (msub rfl hm) hx1)

theorem State.curveCycle_within {msk : Nat} {s00 : State} (s : State) (l : Lane) (k : Nat) (hm : 12885950976 &&& msk = 12885950976) (h0 : Within msk s00 s) :
    Within msk s00 (State.curveCycle s l k) := by
  refine within_trans h0 ?_
  unfold State.curveCycle
  lift_lets -useContext -merge -underBinder
  intro x0 x1
  try clear_value x1
  intro x2
  try clear_value x2
  intro x3
  try clear_value x3
  intro x4
  try clear_value x4
  intro x5
  try clear_value x5
  refine within_ite (fun _ => ?_) (fun _ => ?_)
  · exact (State.ceSource_within _ _ _ _ _ (msub rfl hm) (within_wrS _ _ _ _ _ (fsub rfl hm) (within_wrBit _ _ _ _ _ (fsub rfl hm) (within_put _ _ _ _ _ (fsub rfl hm) (within_put _ _ _ _ _ (fsub rfl hm) (Within.refl _))))))
  · exact (Within.refl _)

theorem State.motBoundary_within {msk : Nat} {s00 : State} (s : State) (l : Lane) (hm : 12885950976 &&& msk = 12885950976) (h0 : Within msk s00 s) :
    Within msk s00 (State.motBoundary s l) := by
  refine within_trans h0 ?_
  unfold State.motBoundary
  exact (within_each _ _ (within_each _ _ (Within.refl _) (fun _ _ => (State.motCycle_within _ _ _ (msub rfl hm) (Within.refl _)))) (fun _ _ => (State.curveCycle_within _ _ _ (msub rfl hm) (Within.refl _))))


end Sys2Proof.Machine
end

