-- ==== Sys2Proof/Laws/WithinNrg.lean ====
section
/-!
SUPPORT. The operations of Machine/Nrg.lean change nothing outside their masks (Laws/Within.lean).
-/
namespace Sys2Proof.Machine

theorem State.holdStage_within {msk : Nat} {s00 : State} (s : State) (l : Lane) (cs : List (Fin 64)) (held : Bool) (hm : 171802886144 &&& msk = 171802886144) (h0 : Within msk s00 s) :
    Within msk s00 (State.holdStage s l cs held) := by
  refine within_trans h0 ?_
  unfold State.holdStage
  exact (within_each _ _ (Within.refl _) (fun _ _ => (within_ite (fun _ => (Within.refl _)) (fun _ => (within_ite (fun _ => (State.modCh_within _ _ _ _ (msub rfl hm) (State.chOff_within _ _ _ (msub rfl hm) (Within.refl _)))) (fun _ => (State.modCh_within _ _ _ _ (msub rfl hm) (Within.refl _))))))))

theorem State.hvcSoftStart_within {msk : Nat} {s00 : State} (s : State) (l : Lane) (hm : 171802887232 &&& msk = 171802887232) (h0 : Within msk s00 s) :
    Within msk s00 (State.hvcSoftStart s l) := by
  refine within_trans h0 ?_
  unfold State.hvcSoftStart
  lift_lets -useContext -merge -underBinder
  intro x0
  try clear_value x0
  exact (State.setK3_within _ _ _ _ (msub rfl hm) (State.holdStage_within _ _ _ _ (msub rfl hm) (State.modNrg_within _ _ _ (msub rfl hm) (within_wr _ _ _ _ _ (fsub rfl hm) (Within.refl _)))))

theorem State.hvcStep_within {msk : Nat} {s00 : State} (s : State) (l : Lane) (hm : 171802887232 &&& msk = 171802887232) (h0 : Within msk s00 s) :
    Within msk s00 (State.hvcStep s l) := by
  refine within_trans h0 ?_
  unfold State.hvcStep
  lift_lets -useContext -merge -underBinder
  intro x0 x1
  try clear_value x1
  intro x2
  have hx2 : Within msk s x2 := (within_put _ _ _ _ _ (fsub rfl hm) (Within.refl _))
  clear_value x2
  intro x3
  try clear_value x3
  intro x4
  try clear_value x4
  intro x5
  have hx5 : Within msk s x5 := (within_ite (fun _ => (State.replug_within _ _ _ (msub rfl hm) hx2)) (fun _ => hx2))
  clear_value x5
  refine within_ite (fun _ => ?_) (fun _ => ?_)
  · refine within_ite (fun _ => ?_) (fun _ => ?_)
    · exact hx5
    · exact (State.holdStage_within _ _ _ _ (msub rfl hm) (within_clr _ _ _ _ (fsub rfl hm) (within_wr _ _ _ _ _ (fsub rfl hm) hx5)))
  · refine within_ite (fun _ => ?_) (fun _ => ?_)
    · refine within_ite (fun _ => ?_) (fun _ => ?_)
      · exact (State.hvcSoftStart_within _ _ (msub rfl hm) hx5)
      · exact (State.holdStage_within _ _ _ _ (msub rfl hm) hx5)
    · refine within_ite (fun _ => ?_) (fun _ => ?_)
      · refine within_ite (fun _ => ?_) (fun _ => ?_)
        · exact hx5
        · exact (State.hvcSoftStart_within _ _ (msub rfl hm) hx5)
      · refine within_ite (fun _ => ?_) (fun _ => ?_)
        · exact (State.holdStage_within _ _ _ _ (msub rfl hm) (within_clr _ _ _ _ (fsub rfl hm) (within_wr _ _ _ _ _ (fsub rfl hm) hx5)))
        · exact hx5

theorem State.hvcIset_within {msk : Nat} {s00 : State} (s : State) (l : Lane) (hm : 64 &&& msk = 64) (h0 : Within msk s00 s) :
    Within msk s00 (State.hvcIset s l) := by
  refine within_trans h0 ?_
  unfold State.hvcIset
  exact (State.setK3_within _ _ _ _ (msub rfl hm) (Within.refl _))

theorem State.hvcCycle_within {msk : Nat} {s00 : State} (s : State) (l : Lane) (hm : 171802887232 &&& msk = 171802887232) (h0 : Within msk s00 s) :
    Within msk s00 (State.hvcCycle s l) := by
  refine within_trans h0 ?_
  unfold State.hvcCycle
  lift_lets -useContext -merge -underBinder
  intro x0 x1
  have hx1 : Within msk s x1 := (State.hvcStep_within _ _ (msub rfl hm) (Within.refl _))
  clear_value x1
  intro x2
  try clear_value x2
  intro x3
  try clear_value x3
  intro x4
  try clear_value x4
  intro x5
  try clear_value x5
  intro x6
  try clear_value x6
  intro x7
  have hx7 : Within msk s x7 := (within_ite (fun _ => (State.hvcIset_within _ _ (msub rfl hm) (State.setK3_within _ _ _ _ (msub rfl hm) (State.modNrg_within _ _ _ (msub rfl hm) hx1)))) (fun _ => (State.hvcIset_within _ _ (msub rfl hm) hx1)))
  clear_value x7
  intro x8
  try clear_value x8
  intro x9
  try clear_value x9
  intro x10
  try clear_value x10
  refine within_ite (fun _ => ?_) (fun _ => ?_)
  · exact (within_put _ _ _ _ _ (fsub rfl hm) hx7)
  · exact hx1

theorem State.obcHold_within {msk : Nat} {s00 : State} (s : State) (l : Lane) (held : Bool) (hm : 171802886144 &&& msk = 171802886144) (h0 : Within msk s00 s) :
    Within msk s00 (State.obcHold s l held) := by
  refine within_trans h0 ?_
  unfold State.obcHold
  exact (State.holdStage_within _ _ _ _ (msub rfl hm) (State.holdStage_within _ _ _ _ (msub rfl hm) (Within.refl _)))

theorem State.seqGo_within {msk : Nat} {s00 : State} (s : State) (l : Lane) (p : SeqPhase) (step : Nat) (hm : 1024 &&& msk = 1024) (h0 : Within msk s00 s) :
    Within msk s00 (State.seqGo s l p step) := by
  refine within_trans h0 ?_
  unfold State.seqGo
  exact (within_wr _ _ _ _ _ (fsub rfl hm) (State.modNrg_within _ _ _ (msub rfl hm) (Within.refl _)))

theorem State.seqBegin_within {msk : Nat} {s00 : State} (s : State) (l : Lane) (cmd : Nat) (p : SeqPhase) (step : Nat) (hm : 1024 &&& msk = 1024) (h0 : Within msk s00 s) :
    Within msk s00 (State.seqBegin s l cmd p step) := by
  refine within_trans h0 ?_
  unfold State.seqBegin
  exact (State.seqGo_within _ _ _ _ (msub rfl hm) (within_set _ _ _ _ (fsub rfl hm) (State.modNrg_within _ _ _ (msub rfl hm) (Within.refl _))))

theorem State.seqClose_within {msk : Nat} {s00 : State} (s : State) (l : Lane) (c : Nat) (p : SeqPhase) (step : Nat) (hm : 274880005124 &&& msk = 274880005124) (h0 : Within msk s00 s) :
    Within msk s00 (State.seqClose s l c p step) := by
  refine within_trans h0 ?_
  unfold State.seqClose
  lift_lets -useContext -merge -underBinder
  intro x0
  have hx0 : Within msk s x0 := (State.seqGo_within _ _ _ _ (msub rfl hm) (Within.refl _))
  clear_value x0
  intro x1
  have hx1 : Within1 msk s x1 := (State.ctrClose_within _ _ _ (msub rfl hm) hx0)
  clear_value x1
  refine within_ite (fun _ => ?_) (fun _ => ?_)
  · exact hx1.h
  · exact (State.seqEnd_within _ _ _ (msub rfl hm) hx1.h)

theorem State.openAll_within {msk : Nat} {s00 : State} (s : State) (l : Lane) (hm : 274880004096 &&& msk = 274880004096) (h0 : Within msk s00 s) :
    Within msk s00 (State.openAll s l) := by
  refine within_trans h0 ?_
  unfold State.openAll
  exact (State.ctrOpen_within _ _ _ (msub rfl hm) (State.ctrOpen_within _ _ _ (msub rfl hm) (State.ctrOpen_within _ _ _ (msub rfl hm) (Within.refl _))))

theorem State.weldFound_within {msk : Nat} {s00 : State} (s : State) (l : Lane) (c : Nat) (hm : 2098180 &&& msk = 2098180) (h0 : Within msk s00 s) :
    Within msk s00 (State.weldFound s l c) := by
  refine within_trans h0 ?_
  unfold State.weldFound
  lift_lets -useContext -merge -underBinder
  intro x0
  have hx0 : Within msk s x0 := (within_wrBit _ _ _ _ _ (fsub rfl hm) (State.modNrg_within _ _ _ (msub rfl hm) (Within.refl _)))
  clear_value x0
  intro x1
  have hx1 : Within msk s x1 := (State.irq_within _ _ _ _ (msub rfl hm) (fsub rfl hm) (within_set _ _ _ _ (fsub rfl hm) hx0))
  clear_value x1
  exact (within_each _ _ hx1 (fun _ _ => (State.log_within _ _ _ _ (msub rfl hm) (Within.refl _))))

theorem State.weldEnd_within {msk : Nat} {s00 : State} (s : State) (l : Lane) (hm : 274877907972 &&& msk = 274877907972) (h0 : Within msk s00 s) :
    Within msk s00 (State.weldEnd s l) := by
  refine within_trans h0 ?_
  unfold State.weldEnd
  split
  · exact (Within.refl _)
  · refine within_ite (fun _ => ?_) (fun _ => ?_)
    · exact (State.seqEnd_within _ _ _ (msub rfl hm) (Within.refl _))
    · exact (State.seqEnd_within _ _ _ (msub rfl hm) (within_when _ _ (Within.refl _) (fun _ => (within_modDep _ (msub rfl hm) (Within.refl _)))))

theorem State.startMnCheck_within {msk : Nat} {s00 : State} (s : State) (l : Lane) (hm : 274880005124 &&& msk = 274880005124) (h0 : Within msk s00 s) :
    Within msk s00 (State.startMnCheck s l) := by
  refine within_trans h0 ?_
  unfold State.startMnCheck
  lift_lets -useContext -merge -underBinder
  intro x0
  try clear_value x0
  intro x1
  have hx1 : Within msk s x1 := (State.modNrg_within _ _ _ (msub rfl hm) (State.discharge_within _ _ _ (msub rfl hm) (Within.refl _)))
  clear_value x1
  exact (State.seqClose_within _ _ _ _ _ (msub rfl hm) hx1)

theorem State.afterMn_within {msk : Nat} {s00 : State} (s : State) (l : Lane) (hm : 274880005124 &&& msk = 274880005124) (h0 : Within msk s00 s) :
    Within msk s00 (State.afterMn s l) := by
  refine within_trans h0 ?_
  unfold State.afterMn
  refine within_ite (fun _ => ?_) (fun _ => ?_)
  · exact (State.startMnCheck_within _ _ (msub rfl hm) (Within.refl _))
  · exact (State.seqGo_within _ _ _ _ (msub rfl hm) (Within.refl _))

theorem State.startMn_within {msk : Nat} {s00 : State} (s : State) (l : Lane) (hm : 274880005124 &&& msk = 274880005124) (h0 : Within msk s00 s) :
    Within msk s00 (State.startMn s l) := by
  refine within_trans h0 ?_
  unfold State.startMn
  refine within_ite (fun _ => ?_) (fun _ => ?_)
  · exact (State.seqGo_within _ _ _ _ (msub rfl hm) (State.ctrOpen_within _ _ _ (msub rfl hm) (Within.refl _)))
  · exact (State.afterMn_within _ _ (msub rfl hm) (Within.refl _))

theorem State.startPosCheck_within {msk : Nat} {s00 : State} (s : State) (l : Lane) (hm : 1024 &&& msk = 1024) (h0 : Within msk s00 s) :
    Within msk s00 (State.startPosCheck s l) := by
  refine within_trans h0 ?_
  unfold State.startPosCheck
  lift_lets -useContext -merge -underBinder
  intro x0
  try clear_value x0
  exact (State.seqGo_within _ _ _ _ (msub rfl hm) (State.modNrg_within _ _ _ (msub rfl hm) (State.discharge_within _ _ _ (msub rfl hm) (Within.refl _))))

theorem State.startMp_within {msk : Nat} {s00 : State} (s : State) (l : Lane) (hm : 274880005120 &&& msk = 274880005120) (h0 : Within msk s00 s) :
    Within msk s00 (State.startMp s l) := by
  refine within_trans h0 ?_
  unfold State.startMp
  lift_lets -useContext -merge -underBinder
  intro x0
  have hx0 : Within msk s x0 := (State.ctrOpen_within _ _ _ (msub rfl hm) (Within.refl _))
  clear_value x0
  refine within_ite (fun _ => ?_) (fun _ => ?_)
  · exact (State.seqGo_within _ _ _ _ (msub rfl hm) (State.ctrOpen_within _ _ _ (msub rfl hm) hx0))
  · exact (State.startPosCheck_within _ _ (msub rfl hm) hx0)

theorem State.ctrWatch_within {msk : Nat} {s00 : State} (s : State) (l : Lane) (hm : 171802887236 &&& msk = 171802887236) (h0 : Within msk s00 s) :
    Within msk s00 (State.ctrWatch s l) := by
  refine within_trans h0 ?_
  unfold State.ctrWatch
  lift_lets -useContext -merge -underBinder
  intro x0
  have hx0 : Within msk s x0 := (within_ite (fun _ => (State.seqEnd_within _ _ _ (msub rfl hm) (Within.refl _))) (fun _ => (Within.refl _)))
  clear_value x0
  exact (State.hvcStep_within _ _ (msub rfl hm) hx0)

theorem State.obcStop_within {msk : Nat} {s00 : State} (s : State) (l : Lane) (hm : 446682891264 &&& msk = 446682891264) (h0 : Within msk s00 s) :
    Within msk s00 (State.obcStop s l) := by
  refine within_trans h0 ?_
  unfold State.obcStop
  lift_lets -useContext -merge -underBinder
  intro x0 x1
  have hx1 : Within msk s x1 := (State.obcHold_within _ _ _ (msub rfl hm) (within_clr _ _ _ _ (fsub rfl hm) (within_wr _ _ _ _ _ (fsub rfl hm) (Within.refl _))))
  clear_value x1
  refine within_ite (fun _ => ?_) (fun _ => ?_)
  · exact (State.ctrOpen_within _ _ _ (msub rfl hm) hx1)
  · exact hx1

theorem State.obcStep_within {msk : Nat} {s00 : State} (s : State) (l : Lane) (hm : 446682891264 &&& msk = 446682891264) (h0 : Within msk s00 s) :
    Within msk s00 (State.obcStep s l) := by
  refine within_trans h0 ?_
  unfold State.obcStep
  lift_lets -useContext -merge -underBinder
  intro x0 x1
  try clear_value x1
  intro x2
  have hx2 : Within msk s x2 := (within_put _ _ _ _ _ (fsub rfl hm) (Within.refl _))
  clear_value x2
  intro x3
  try clear_value x3
  intro x4
  try clear_value x4
  refine within_ite (fun _ => ?_) (fun _ => ?_)
  · refine within_ite (fun _ => ?_) (fun _ => ?_)
    · exact hx2
    · exact (State.obcStop_within _ _ (msub rfl hm) hx2)
  · refine within_ite (fun _ => ?_) (fun _ => ?_)
    · exact (State.obcGo_within _ _ _ (msub rfl hm) hx2)
    · exact hx2

theorem State.obcCycle_within {msk : Nat} {s00 : State} (s : State) (l : Lane) (hm : 446682891264 &&& msk = 446682891264) (h0 : Within msk s00 s) :
    Within msk s00 (State.obcCycle s l) := by
  refine within_trans h0 ?_
  unfold State.obcCycle
  lift_lets -useContext -merge -underBinder
  intro x0 x1
  have hx1 : Within msk s x1 := (State.obcStep_within _ _ (msub rfl hm) (Within.refl _))
  clear_value x1
  intro x2
  try clear_value x2
  intro x3
  refine within_ite (fun _ => ?_) (fun _ => ?_)
  · exact (State.modNrg_within _ _ _ (msub rfl hm) hx1)
  · exact hx1

theorem State.cmdRefuse_within {msk : Nat} {s00 : State} (s : State) (l : Lane) (r : Nat) (hm : 1024 &&& msk = 1024) (h0 : Within msk s00 s) :
    Within msk s00 (State.cmdRefuse s l r) := by
  refine within_trans h0 ?_
  unfold State.cmdRefuse
  exact (within_wr _ _ _ _ _ (fsub rfl hm) (Within.refl _))

theorem State.ctrCommand_within {msk : Nat} {s00 : State} (s : State) (l : Lane) (cmd : Nat) (aborts mode : Bool) (go : State → State) (hm : 1028 &&& msk = 1028) (h0 : Within msk s00 s)
    (hf5 : ∀ y0, Within msk y0 (go y0)) :
    Within msk s00 (State.ctrCommand s l cmd aborts mode go) := by
  refine within_trans h0 ?_
  unfold State.ctrCommand
  lift_lets -useContext -merge -underBinder
  intro x0 x1
  have hx1 : Within msk s x1 := (within_wr _ _ _ _ _ (fsub rfl hm) (Within.refl _))
  clear_value x1
  refine within_ite (fun _ => ?_) (fun _ => ?_)
  · refine within_ite (fun _ => ?_) (fun _ => ?_)
    · exact (State.cmdRefuse_within _ _ _ (msub rfl hm) hx1)
    · refine within_ite (fun _ => ?_) (fun _ => ?_)
      · exact (State.cmdRefuse_within _ _ _ (msub rfl hm) hx1)
      · refine within_ite (fun _ => ?_) (fun _ => ?_)
        · exact (State.cmdRefuse_within _ _ _ (msub rfl hm) hx1)
        · refine within_ite (fun _ => ?_) (fun _ => ?_)
          · exact (State.cmdRefuse_within _ _ _ (msub rfl hm) hx1)
          · exact (within_trans (State.seqEnd_within _ _ _ (msub rfl hm) hx1) (hf5 _))
  · exact (Within.refl _)

theorem execCloseMain_within {msk : Nat} (l : Lane) (s : State) (hm : 274880005124 &&& msk = 274880005124) :
    WithinOut msk s (execCloseMain l s) := by
  unfold execCloseMain
  exact withinOut_next (State.ctrCommand_within _ _ _ _ _ _ (msub rfl hm) (Within.refl _) (fun _ => (within_ite (fun _ => (State.cmdRefuse_within _ _ _ (msub rfl hm) (Within.refl _))) (fun _ => (State.seqClose_within _ _ _ _ _ (msub rfl hm) (State.seqBegin_within _ _ _ _ _ (msub rfl hm) (Within.refl _)))))))

theorem execPrechargeReached_within {msk : Nat} (l : Lane) (s : State) (hm : 274880005124 &&& msk = 274880005124) :
    WithinOut msk s (execPrechargeReached l s) := by
  unfold execPrechargeReached
  lift_lets -useContext -merge -underBinder
  intro x0
  exact withinOut_next (by
    split
    · exact (Within.refl _)
    · refine within_ite (fun _ => ?_) (fun _ => ?_)
      · refine within_ite (fun _ => ?_) (fun _ => ?_)
        · exact (State.seqEnd_within _ _ _ (msub rfl hm) (State.openAll_within _ _ (msub rfl hm) (Within.refl _)))
        · exact (State.seqClose_within _ _ _ _ _ (msub rfl hm) (Within.refl _))
      · exact (Within.refl _)
)

theorem execPrechargeTimeout_within {msk : Nat} (l : Lane) (s : State) (hm : 9070973027332 &&& msk = 9070973027332) :
    WithinOut msk s (execPrechargeTimeout l s) := by
  unfold execPrechargeTimeout
  exact withinOut_next (by
    split
    · exact (Within.refl _)
    · lift_lets -useContext -merge -underBinder
      intro x0
      try clear_value x0
      refine within_ite (fun _ => ?_) (fun _ => ?_)
      · exact (State.seqEnd_within _ _ _ (msub rfl hm) (State.openAll_within _ _ (msub rfl hm) (within_advTo _ (msub rfl hm) (Within.refl _))))
      · exact (Within.refl _)
)

theorem execPrechargeOverlapEnd_within {msk : Nat} (l : Lane) (s : State) (hm : 9070973027332 &&& msk = 9070973027332) :
    WithinOut msk s (execPrechargeOverlapEnd l s) := by
  unfold execPrechargeOverlapEnd
  exact withinOut_next (by
    split
    · exact (Within.refl _)
    · refine within_ite (fun _ => ?_) (fun _ => ?_)
      · exact (State.seqEnd_within _ _ _ (msub rfl hm) (State.ctrOpen_within _ _ _ (msub rfl hm) (within_advTo _ (msub rfl hm) (Within.refl _))))
      · exact (Within.refl _)
)

theorem State.seqPulled_within {msk : Nat} {s00 : State} (s : State) (l : Lane) (k : Fin 12) (hm : 274880005124 &&& msk = 274880005124) (h0 : Within msk s00 s) :
    Within msk s00 (State.seqPulled s l k) := by
  refine within_trans h0 ?_
  unfold State.seqPulled
  split
  · exact (Within.refl _)
  · lift_lets -useContext -merge -underBinder
    intro x0
    split
    · refine within_ite (fun _ => ?_) (fun _ => ?_)
      · exact (State.seqClose_within _ _ _ _ _ (msub rfl hm) (Within.refl _))
      · exact (Within.refl _)
    · refine within_ite (fun _ => ?_) (fun _ => ?_)
      · exact (State.seqGo_within _ _ _ _ (msub rfl hm) (Within.refl _))
      · exact (Within.refl _)
    · refine within_ite (fun _ => ?_) (fun _ => ?_)
      · exact (State.seqClose_within _ _ _ _ _ (msub rfl hm) (Within.refl _))
      · exact (Within.refl _)
    · refine within_ite (fun _ => ?_) (fun _ => ?_)
      · exact (State.seqEnd_within _ _ _ (msub rfl hm) (Within.refl _))
      · exact (Within.refl _)
    · refine within_ite (fun _ => ?_) (fun _ => ?_)
      · exact (State.seqEnd_within _ _ _ (msub rfl hm) (Within.refl _))
      · exact (Within.refl _)
    · exact (Within.refl _)

theorem execContactorPullEnd_within {msk : Nat} (k : Fin 12) (s : State) (hm : 9242775913540 &&& msk = 9242775913540) :
    WithinOut msk s (execContactorPullEnd k s) := by
  unfold execContactorPullEnd
  lift_lets -useContext -merge -underBinder
  intro x0
  have hx0 : Within msk s x0 := (within_advTo _ (msub rfl hm) (Within.refl _))
  clear_value x0
  intro x1
  have hx1 : Within msk s x1 := (within_modDep _ (msub rfl hm) hx0)
  clear_value x1
  exact withinOut_next (within_ite (fun _ => (within_each _ _ hx1 (fun _ _ => (State.obcStep_within _ _ (msub rfl hm) (State.hvcStep_within _ _ (msub rfl hm) (State.seqPulled_within _ _ _ (msub rfl hm) (Within.refl _))))))) (fun _ => (Within.refl _)))

theorem State.seqDropped_within {msk : Nat} {s00 : State} (s : State) (l : Lane) (c : Nat) (hm : 274880005124 &&& msk = 274880005124) (h0 : Within msk s00 s) :
    Within msk s00 (State.seqDropped s l c) := by
  refine within_trans h0 ?_
  unfold State.seqDropped
  split
  · exact (Within.refl _)
  · split
    · refine within_ite (fun _ => ?_) (fun _ => ?_)
      · exact (State.startPosCheck_within _ _ (msub rfl hm) (Within.refl _))
      · exact (Within.refl _)
    · refine within_ite (fun _ => ?_) (fun _ => ?_)
      · exact (State.afterMn_within _ _ (msub rfl hm) (Within.refl _))
      · exact (Within.refl _)
    · refine within_ite (fun _ => ?_) (fun _ => ?_)
      · exact (State.seqEnd_within _ _ _ (msub rfl hm) (Within.refl _))
      · exact (Within.refl _)
    · refine within_ite (fun _ => ?_) (fun _ => ?_)
      · exact (State.seqEnd_within _ _ _ (msub rfl hm) (Within.refl _))
      · exact (Within.refl _)
    · exact (Within.refl _)

theorem execContactorDropEnd_within {msk : Nat} (l : Lane) (c : Fin 6) (s : State) (hm : 9070973027332 &&& msk = 9070973027332) :
    WithinOut msk s (execContactorDropEnd l c s) := by
  unfold execContactorDropEnd
  lift_lets -useContext -merge -underBinder
  intro x0
  try clear_value x0
  intro x1
  have hx1 : Within msk s x1 := (within_advTo _ (msub rfl hm) (Within.refl _))
  clear_value x1
  exact withinOut_next (within_ite (fun _ => (State.seqDropped_within _ _ _ (msub rfl hm) (within_modDep _ (msub rfl hm) hx1))) (fun _ => (Within.refl _)))

theorem State.openMain_within {msk : Nat} {s00 : State} (s : State) (l : Lane) (hm : 1088 &&& msk = 1088) (h0 : Within msk s00 s) :
    Within msk s00 (State.openMain s l) := by
  refine within_trans h0 ?_
  unfold State.openMain
  lift_lets -useContext -merge -underBinder
  intro x0
  try clear_value x0
  intro x1
  have hx1 : Within msk s x1 := (State.modNrg_within _ _ _ (msub rfl hm) (State.seqBegin_within _ _ _ _ _ (msub rfl hm) (Within.refl _)))
  clear_value x1
  exact (State.plimZero_within _ _ (msub rfl hm) (within_ite (fun _ => (State.hvcIset_within _ _ (msub rfl hm) hx1)) (fun _ => hx1)))

theorem execOpenMain_within {msk : Nat} (l : Lane) (s : State) (hm : 1092 &&& msk = 1092) :
    WithinOut msk s (execOpenMain l s) := by
  unfold execOpenMain
  exact withinOut_next (State.ctrCommand_within _ _ _ _ _ _ (msub rfl hm) (Within.refl _) (fun _ => (State.openMain_within _ _ (msub rfl hm) (within_clr _ _ _ _ (fsub rfl hm) (Within.refl _)))))

theorem execOpenCurrentWaitEnd_within {msk : Nat} (l : Lane) (s : State) (hm : 9070973027328 &&& msk = 9070973027328) :
    WithinOut msk s (execOpenCurrentWaitEnd l s) := by
  unfold execOpenCurrentWaitEnd
  lift_lets -useContext -merge -underBinder
  intro x0
  exact withinOut_next (by
    split
    · exact (Within.refl _)
    · refine within_ite (fun _ => ?_) (fun _ => ?_)
      · refine within_ite (fun _ => ?_) (fun _ => ?_)
        · exact (State.startMp_within _ _ (msub rfl hm) (Within.refl _))
        · exact (State.startMp_within _ _ (msub rfl hm) (within_set _ _ _ _ (fsub rfl hm) (within_inc _ _ _ _ _ (fsub rfl hm) (within_advTo _ (msub rfl hm) (Within.refl _)))))
      · exact (Within.refl _)
)

theorem execWeldCheckEnd_within {msk : Nat} (l : Lane) (s : State) (hm : 13469019538436 &&& msk = 13469019538436) :
    WithinOut msk s (execWeldCheckEnd l s) := by
  unfold execWeldCheckEnd
  lift_lets -useContext -merge -underBinder
  intro x0 x1
  try clear_value x1
  exact withinOut_next (by
    split
    · exact (Within.refl _)
    · lift_lets -useContext -merge -underBinder
      intro x2
      try clear_value x2
      split
      · lift_lets -useContext -merge -underBinder
        intro x3
        have hx3 : Within1 msk s x3 := (within1_free _ (msub rfl hm) (within_advTo _ (msub rfl hm) (Within.refl _)))
        clear_value x3
        refine within_ite (fun _ => ?_) (fun _ => ?_)
        · exact (State.startMn_within _ _ (msub rfl hm) (Within.refl _))
        · exact (State.startMn_within _ _ (msub rfl hm) (State.weldFound_within _ _ _ (msub rfl hm) hx3.h))
      · refine within_ite (fun _ => ?_) (fun _ => ?_)
        · exact (State.startMnCheck_within _ _ (msub rfl hm) (Within.refl _))
        · exact (State.weldEnd_within _ _ (msub rfl hm) (within_set _ _ _ _ (fsub rfl hm) (within_advTo _ (msub rfl hm) (Within.refl _))))
      · lift_lets -useContext -merge -underBinder
        intro x4
        have hx4 : Within msk s x4 := (within_ite (fun _ => (State.weldFound_within _ _ _ (msub rfl hm) (Within.refl _))) (fun _ => (within_advTo _ (msub rfl hm) (Within.refl _))))
        clear_value x4
        exact (State.weldEnd_within _ _ (msub rfl hm) (State.ctrOpen_within _ _ _ (msub rfl hm) hx4))
      · exact (Within.refl _)
)

theorem execWeldTest_within {msk : Nat} (l : Lane) (s : State) (hm : 1028 &&& msk = 1028) :
    WithinOut msk s (execWeldTest l s) := by
  unfold execWeldTest
  exact withinOut_next (State.ctrCommand_within _ _ _ _ _ _ (msub rfl hm) (Within.refl _) (fun _ => (within_ite (fun _ => (State.cmdRefuse_within _ _ _ (msub rfl hm) (Within.refl _))) (fun _ => (State.startPosCheck_within _ _ (msub rfl hm) (State.seqBegin_within _ _ _ _ _ (msub rfl hm) (within_clr _ _ _ _ (fsub rfl hm) (Within.refl _))))))))

theorem execClearWeld_within {msk : Nat} (l : Lane) (s : State) (hm : 2098180 &&& msk = 2098180) :
    WithinOut msk s (execClearWeld l s) := by
  unfold execClearWeld
  exact withinOut_next (State.ctrCommand_within _ _ _ _ _ _ (msub rfl hm) (Within.refl _) (fun _ => (within_ite (fun _ => (State.cmdRefuse_within _ _ _ (msub rfl hm) (within_wr _ _ _ _ _ (fsub rfl hm) (Within.refl _)))) (fun _ => (State.cmdRefuse_within _ _ _ (msub rfl hm) (Within.refl _))))))

theorem execCloseDc_within {msk : Nat} (l : Lane) (s : State) (hm : 274880005124 &&& msk = 274880005124) :
    WithinOut msk s (execCloseDc l s) := by
  unfold execCloseDc
  exact withinOut_next (State.ctrCommand_within _ _ _ _ _ _ (msub rfl hm) (Within.refl _) (fun _ => (within_ite (fun _ => (State.seqClose_within _ _ _ _ _ (msub rfl hm) (State.seqBegin_within _ _ _ _ _ (msub rfl hm) (Within.refl _)))) (fun _ => (State.cmdRefuse_within _ _ _ (msub rfl hm) (Within.refl _))))))

theorem State.openDc_within {msk : Nat} {s00 : State} (s : State) (l : Lane) (hm : 274880005124 &&& msk = 274880005124) (h0 : Within msk s00 s) :
    Within msk s00 (State.openDc s l) := by
  refine within_trans h0 ?_
  unfold State.openDc
  lift_lets -useContext -merge -underBinder
  intro x0
  have hx0 : Within msk s x0 := (State.ctrOpen_within _ _ _ (msub rfl hm) (State.ctrOpen_within _ _ _ (msub rfl hm) (State.seqBegin_within _ _ _ _ _ (msub rfl hm) (Within.refl _))))
  clear_value x0
  refine within_ite (fun _ => ?_) (fun _ => ?_)
  · exact hx0
  · exact (State.seqEnd_within _ _ _ (msub rfl hm) hx0)

theorem execOpenDc_within {msk : Nat} (l : Lane) (s : State) (hm : 274880005124 &&& msk = 274880005124) :
    WithinOut msk s (execOpenDc l s) := by
  unfold execOpenDc
  exact withinOut_next (State.ctrCommand_within _ _ _ _ _ _ (msub rfl hm) (Within.refl _) (fun _ => (State.openDc_within _ _ (msub rfl hm) (Within.refl _))))

theorem execDcOvercurrent_within {msk : Nat} (l : Lane) (s : State) (hm : 9070973027332 &&& msk = 9070973027332) :
    WithinOut msk s (execDcOvercurrent l s) := by
  unfold execDcOvercurrent
  lift_lets -useContext -merge -underBinder
  intro x0
  have hx0 : Within msk s x0 := (within_advTo _ (msub rfl hm) (Within.refl _))
  clear_value x0
  exact withinOut_next (within_ite (fun _ => (State.openDc_within _ _ (msub rfl hm) (within_wr _ _ _ _ _ (fsub rfl hm) (State.seqEnd_within _ _ _ (msub rfl hm) hx0)))) (fun _ => (Within.refl _)))

theorem execCloseAc_within {msk : Nat} (l : Lane) (s : State) (hm : 274880005124 &&& msk = 274880005124) :
    WithinOut msk s (execCloseAc l s) := by
  unfold execCloseAc
  exact withinOut_next (State.ctrCommand_within _ _ _ _ _ _ (msub rfl hm) (Within.refl _) (fun _ => (within_ite (fun _ => (State.seqClose_within _ _ _ _ _ (msub rfl hm) (State.seqBegin_within _ _ _ _ _ (msub rfl hm) (Within.refl _)))) (fun _ => (State.cmdRefuse_within _ _ _ (msub rfl hm) (Within.refl _))))))

theorem State.openAc_within {msk : Nat} {s00 : State} (s : State) (l : Lane) (hm : 274880005124 &&& msk = 274880005124) (h0 : Within msk s00 s) :
    Within msk s00 (State.openAc s l) := by
  refine within_trans h0 ?_
  unfold State.openAc
  lift_lets -useContext -merge -underBinder
  intro x0
  have hx0 : Within msk s x0 := (State.ctrOpen_within _ _ _ (msub rfl hm) (State.seqBegin_within _ _ _ _ _ (msub rfl hm) (Within.refl _)))
  clear_value x0
  refine within_ite (fun _ => ?_) (fun _ => ?_)
  · exact hx0
  · exact (State.seqEnd_within _ _ _ (msub rfl hm) hx0)

theorem execOpenAc_within {msk : Nat} (l : Lane) (s : State) (hm : 274880005124 &&& msk = 274880005124) :
    WithinOut msk s (execOpenAc l s) := by
  unfold execOpenAc
  exact withinOut_next (State.ctrCommand_within _ _ _ _ _ _ (msub rfl hm) (Within.refl _) (fun _ => (State.openAc_within _ _ (msub rfl hm) (Within.refl _))))

theorem State.ovEvent_within {msk : Nat} {s00 : State} (s : State) (l : Lane) (evt cnt : Fld) (level : Nat) (hm : 1028 &&& msk = 1028) (hg2 : evt.inM msk = true) (hg3 : cnt.inM msk = true) (h0 : Within msk s00 s) :
    Within msk s00 (State.ovEvent s l evt cnt level) := by
  refine within_trans h0 ?_
  unfold State.ovEvent
  lift_lets -useContext -merge -underBinder
  intro x0
  exact (State.logIf_within _ _ _ _ _ _ (msub rfl hm) (fsub rfl hm) (State.irq_within _ _ _ _ (msub rfl hm) (fsub rfl hm) (within_inc _ _ _ _ _ hg3 (within_set _ _ _ _ hg2 (Within.refl _)))))

theorem execOv1Cross_within {msk : Nat} (l : Lane) (on : Bool) (s : State) (hm : 1028 &&& msk = 1028) :
    WithinOut msk s (execOv1Cross l on s) := by
  unfold execOv1Cross
  lift_lets -useContext -merge -underBinder
  intro x0 x1
  have hx1 : Within msk s x1 := (State.plimStep_within _ _ (msub rfl hm) (Within.refl _))
  clear_value x1
  intro x2
  have hx2 : Within msk s x2 := (within_put _ _ _ _ _ (fsub rfl hm) hx1)
  clear_value x2
  exact withinOut_next (within_ite (fun _ => (within_ite (fun _ => (State.plimStep_within _ _ (msub rfl hm) (State.ovEvent_within _ _ _ _ _ (msub rfl hm) (fsub rfl hm) (fsub rfl hm) hx2))) (fun _ => (State.plimStep_within _ _ (msub rfl hm) (State.modNrg_within _ _ _ (msub rfl hm) hx2))))) (fun _ => (Within.refl _)))

theorem execOv2Cross_within {msk : Nat} (l : Lane) (s : State) (hm : 34361836548 &&& msk = 34361836548) :
    WithinOut msk s (execOv2Cross l s) := by
  unfold execOv2Cross
  lift_lets -useContext -merge -underBinder
  intro x0 x1
  have hx1 : Within msk s x1 := (State.ovEvent_within _ _ _ _ _ (msub rfl hm) (fsub rfl hm) (fsub rfl hm) (within_set _ _ _ _ (fsub rfl hm) (Within.refl _)))
  clear_value x1
  exact withinOut_next (within_ite (fun _ => (State.ov2Line_within _ _ _ (msub rfl hm) (State.plimZero_within _ _ (msub rfl hm) (State.modNrg_within _ _ _ (msub rfl hm) hx1)))) (fun _ => (Within.refl _)))

theorem execOv2Release_within {msk : Nat} (l : Lane) (s : State) (hm : 34361836544 &&& msk = 34361836544) :
    WithinOut msk s (execOv2Release l s) := by
  unfold execOv2Release
  lift_lets -useContext -merge -underBinder
  intro x0
  exact withinOut_next (within_ite (fun _ => (State.ov2Line_within _ _ _ (msub rfl hm) (within_clr _ _ _ _ (fsub rfl hm) (Within.refl _)))) (fun _ => (Within.refl _)))

theorem execOv3Cross_within {msk : Nat} (l : Lane) (s : State) (hm : 309239743492 &&& msk = 309239743492) :
    WithinOut msk s (execOv3Cross l s) := by
  unfold execOv3Cross
  lift_lets -useContext -merge -underBinder
  intro x0
  exact withinOut_next (within_ite (fun _ => (State.ov3Line_within _ _ _ (msub rfl hm) (State.ovEvent_within _ _ _ _ _ (msub rfl hm) (fsub rfl hm) (fsub rfl hm) (within_set _ _ _ _ (fsub rfl hm) (Within.refl _))))) (fun _ => (Within.refl _)))

theorem execOv3LinesInactive_within {msk : Nat} (l : Lane) (s : State) (hm : 309239743488 &&& msk = 309239743488) :
    WithinOut msk s (execOv3LinesInactive l s) := by
  unfold execOv3LinesInactive
  lift_lets -useContext -merge -underBinder
  intro x0
  exact withinOut_next (within_ite (fun _ => (State.ov3Line_within _ _ _ (msub rfl hm) (within_clr _ _ _ _ (fsub rfl hm) (Within.refl _)))) (fun _ => (Within.refl _)))

theorem execOv3HoldExpiry_within {msk : Nat} (s : State) (hm : 9105332765696 &&& msk = 9105332765696) :
    WithinOut msk s (execOv3HoldExpiry s) := by
  unfold execOv3HoldExpiry
  exact withinOut_next (by
    split
    · exact (Within.refl _)
    · lift_lets -useContext -merge -underBinder
      intro x0
      have hx0 : Within msk s x0 := (within_advTo _ (msub rfl hm) (Within.refl _))
      clear_value x0
      refine within_ite (fun _ => ?_) (fun _ => ?_)
      · exact (State.ovApply_within _ (msub rfl hm) (within_clr _ _ _ _ (fsub rfl hm) (within_modDep _ (msub rfl hm) hx0)))
      · exact (Within.refl _)
)

theorem execOv3ContactorOpen_within {msk : Nat} (l : Lane) (s : State) (hm : 9242775913540 &&& msk = 9242775913540) :
    WithinOut msk s (execOv3ContactorOpen l s) := by
  unfold execOv3ContactorOpen
  lift_lets -useContext -merge -underBinder
  intro x0 x1
  have hx1 : Within msk s x1 := (within_advTo _ (msub rfl hm) (Within.refl _))
  clear_value x1
  exact withinOut_next (within_ite (fun _ => (State.obcStep_within _ _ (msub rfl hm) (State.ctrWatch_within _ _ (msub rfl hm) (within_inc _ _ _ _ _ (fsub rfl hm) (State.ctrOpen_within _ _ _ (msub rfl hm) hx1))))) (fun _ => (Within.refl _)))

theorem State.hvcSet_within {msk : Nat} {s00 : State} (s : State) (l : Lane) (vset iset : Nat) (hm : 1088 &&& msk = 1088) (h0 : Within msk s00 s) :
    Within msk s00 (State.hvcSet s l vset iset) := by
  refine within_trans h0 ?_
  unfold State.hvcSet
  lift_lets -useContext -merge -underBinder
  intro x0 x1
  have hx1 : Within msk s x1 := (within_wr _ _ _ _ _ (fsub rfl hm) (within_wr _ _ _ _ _ (fsub rfl hm) (Within.refl _)))
  clear_value x1
  intro x2
  have hx2 : Within msk s x2 := (State.hvcIset_within _ _ (msub rfl hm) hx1)
  clear_value x2
  refine within_ite (fun _ => ?_) (fun _ => ?_)
  · exact hx2
  · exact (State.setK3_within _ _ _ _ (msub rfl hm) hx2)

theorem execHvcSetWrite_within {msk : Nat} (l : Lane) (vset iset : BitVec 16) (s : State) (hm : 1088 &&& msk = 1088) :
    WithinOut msk s (execHvcSetWrite l vset iset s) := by
  unfold execHvcSetWrite
  exact withinOut_next (within_ite (fun _ => (State.hvcSet_within _ _ _ _ (msub rfl hm) (Within.refl _))) (fun _ => (Within.refl _)))

theorem execHvcSoftDone_within {msk : Nat} (l : Lane) (s : State) (hm : 1088 &&& msk = 1088) :
    WithinOut msk s (execHvcSoftDone l s) := by
  unfold execHvcSoftDone
  lift_lets -useContext -merge -underBinder
  intro x0 x1
  try clear_value x1
  exact withinOut_next (within_ite (fun _ => (State.setK3_within _ _ _ _ (msub rfl hm) (State.modNrg_within _ _ _ (msub rfl hm) (within_wr _ _ _ _ _ (fsub rfl hm) (Within.refl _))))) (fun _ => (Within.refl _)))

theorem State.gridSeen_within {msk : Nat} {s00 : State} (s : State) (l : Lane) (v f : BitVec 16) (hm : 1024 &&& msk = 1024) (h0 : Within msk s00 s) :
    Within msk s00 (State.gridSeen s l v f) := by
  refine within_trans h0 ?_
  unfold State.gridSeen
  exact (within_wr _ _ _ _ _ (fsub rfl hm) (within_wr _ _ _ _ _ (fsub rfl hm) (Within.refl _)))

theorem execObcSyncDone_within {msk : Nat} (l : Lane) (v f : BitVec 16) (s : State) (hm : 8967895909376 &&& msk = 8967895909376) :
    WithinOut msk s (execObcSyncDone l v f s) := by
  unfold execObcSyncDone
  lift_lets -useContext -merge -underBinder
  intro x0 x1
  have hx1 : Within msk s x1 := (within_set _ _ _ _ (fsub rfl hm) (State.gridSeen_within _ _ _ _ (msub rfl hm) (Within.refl _)))
  clear_value x1
  intro x2
  have hx2 : Within msk s x2 := (State.obcGo_within _ _ _ (msub rfl hm) (within_advTo _ (msub rfl hm) hx1))
  clear_value x2
  exact withinOut_next (within_ite (fun _ => (within_ite (fun _ => (State.holdStage_within _ _ _ _ (msub rfl hm) hx2)) (fun _ => hx1))) (fun _ => (Within.refl _)))

theorem execObcBusReached_within {msk : Nat} (l : Lane) (s : State) (hm : 446682891268 &&& msk = 446682891268) :
    WithinOut msk s (execObcBusReached l s) := by
  unfold execObcBusReached
  lift_lets -useContext -merge -underBinder
  intro x0 x1
  have hx1 : Within msk s x1 := (within_ite (fun _ => (State.seqClose_within _ _ _ _ _ (msub rfl hm) (State.seqBegin_within _ _ _ _ _ (msub rfl hm) (within_wr _ _ _ _ _ (fsub rfl hm) (Within.refl _))))) (fun _ => (Within.refl _)))
  clear_value x1
  exact withinOut_next (within_ite (fun _ => (State.modNrg_within _ _ _ (msub rfl hm) (State.obcHold_within _ _ _ (msub rfl hm) (State.obcGo_within _ _ _ (msub rfl hm) hx1)))) (fun _ => (Within.refl _)))

theorem execObcGridTrip_within {msk : Nat} (l : Lane) (v f : BitVec 16) (s : State) (hm : 9242775913472 &&& msk = 9242775913472) :
    WithinOut msk s (execObcGridTrip l v f s) := by
  unfold execObcGridTrip
  lift_lets -useContext -merge -underBinder
  intro x0 x1
  try clear_value x1
  intro x2
  try clear_value x2
  intro x3
  try clear_value x3
  intro x4
  have hx4 : Within msk s x4 := (within_advTo _ (msub rfl hm) (Within.refl _))
  clear_value x4
  intro x5
  have hx5 : Within msk s x5 := (State.irq_within _ _ _ _ (msub rfl hm) (fsub rfl hm) (within_set _ _ _ _ (fsub rfl hm) (within_set _ _ _ _ (fsub rfl hm) (State.obcGo_within _ _ _ (msub rfl hm) (State.gridSeen_within _ _ _ _ (msub rfl hm) hx4)))))
  clear_value x5
  intro x6
  have hx6 : Within msk s x6 := (State.holdStage_within _ _ _ _ (msub rfl hm) hx5)
  clear_value x6
  exact withinOut_next (within_ite (fun _ => (within_ite (fun _ => (State.ctrOpen_within _ _ _ (msub rfl hm) hx6)) (fun _ => hx6))) (fun _ => (Within.refl _)))

theorem execObcGridReturn_within {msk : Nat} (l : Lane) (v f : BitVec 16) (s : State) (hm : 8796093023232 &&& msk = 8796093023232) :
    WithinOut msk s (execObcGridReturn l v f s) := by
  unfold execObcGridReturn
  lift_lets -useContext -merge -underBinder
  intro x0
  exact withinOut_next (within_ite (fun _ => (State.obcGo_within _ _ _ (msub rfl hm) (State.gridSeen_within _ _ _ _ (msub rfl hm) (within_advTo _ (msub rfl hm) (Within.refl _))))) (fun _ => (Within.refl _)))

theorem State.packWatch_within {msk : Nat} {s00 : State} (s : State) (l : Lane) (hm : 0 &&& msk = 0) (h0 : Within msk s00 s) :
    Within msk s00 (State.packWatch s l) := by
  refine within_trans h0 ?_
  unfold State.packWatch
  lift_lets -useContext -merge -underBinder
  intro x0 x1
  try clear_value x1
  intro x2
  try clear_value x2
  exact (State.modNrg_within _ _ _ (msub rfl hm) (Within.refl _))

theorem State.nrgBoundary_within {msk : Nat} {s00 : State} (s : State) (l : Lane) (hm : 446682891328 &&& msk = 446682891328) (h0 : Within msk s00 s) :
    Within msk s00 (State.nrgBoundary s l) := by
  refine within_trans h0 ?_
  unfold State.nrgBoundary
  exact (State.obcCycle_within _ _ (msub rfl hm) (State.hvcCycle_within _ _ (msub rfl hm) (State.plimStep_within _ _ (msub rfl hm) (State.packWatch_within _ _ (msub rfl hm) (Within.refl _)))))

theorem State.nrgMode_within {msk : Nat} {s00 : State} (s : State) (l : Lane) (hm : 446682891332 &&& msk = 446682891332) (h0 : Within msk s00 s) :
    Within msk s00 (State.nrgMode s l) := by
  refine within_trans h0 ?_
  unfold State.nrgMode
  lift_lets -useContext -merge -underBinder
  intro x0
  have hx0 : Within msk s x0 := (State.obcStep_within _ _ (msub rfl hm) (State.hvcStep_within _ _ (msub rfl hm) (Within.refl _)))
  clear_value x0
  intro x1
  have hx1 : Within msk s x1 := (within_ite (fun _ => (State.ctrOpen_within _ _ _ (msub rfl hm) (State.ctrOpen_within _ _ _ (msub rfl hm) hx0))) (fun _ => hx0))
  clear_value x1
  exact (State.ctrWatch_within _ _ (msub rfl hm) hx1)


end Sys2Proof.Machine
end

