-- ==== Sys2Proof/Laws/WithinLvp.lean ====
section
/-!
SUPPORT. The operations of Machine/Lvp.lean change nothing outside their masks (Laws/Within.lean).
-/
namespace Sys2Proof.Machine

theorem State.modLvp_within {msk : Nat} {s00 : State} (s : State) (l : Lane) (f : LvpSt → LvpSt) (hm : 137438953472 &&& msk = 137438953472) (h0 : Within msk s00 s) :
    Within msk s00 (State.modLvp s l f) := by
  refine within_trans h0 ?_
  unfold State.modLvp
  exact (State.modPap_within _ _ _ (msub rfl hm) (Within.refl _))

theorem State.goPath_within {msk : Nat} {s00 : State} (s : State) (l : Lane) (path pair : Nat) (hm : 4194304 &&& msk = 4194304) (h0 : Within msk s00 s) :
    Within msk s00 (State.goPath s l path pair) := by
  refine within_trans h0 ?_
  unfold State.goPath
  exact (State.irqOf_within _ _ _ _ _ (msub rfl hm) (fsub rfl hm) (within_wr _ _ _ _ _ (fsub rfl hm) (within_wr _ _ _ _ _ (fsub rfl hm) (Within.refl _))))

theorem State.isolate_within {msk : Nat} {s00 : State} (s : State) (l : Lane) (flag : Fld) (hm : 137443147780 &&& msk = 137443147780) (hg2 : flag.inM msk = true) (h0 : Within msk s00 s) :
    Within msk s00 (State.isolate s l flag) := by
  refine within_trans h0 ?_
  unfold State.isolate
  lift_lets -useContext -merge -underBinder
  intro x0 x1
  have hx1 : Within msk s x1 := (within_inc _ _ _ _ _ (fsub rfl hm) (within_set _ _ _ _ hg2 (within_wr _ _ _ _ _ (fsub rfl hm) (State.goPath_within _ _ _ _ (msub rfl hm) (Within.refl _)))))
  clear_value x1
  intro x2
  have hx2 : Within msk s x2 := (State.irqOf_within _ _ _ _ _ (msub rfl hm) (fsub rfl hm) (State.modLvp_within _ _ _ (msub rfl hm) hx1))
  clear_value x2
  exact (within_when _ _ hx2 (fun _ => (State.log_within _ _ _ _ (msub rfl hm) (Within.refl _))))

theorem State.tBatTake_within {msk : Nat} {s00 : State} (s : State) (l : Lane) (hm : 137443147776 &&& msk = 137443147776) (h0 : Within msk s00 s) :
    Within msk s00 (State.tBatTake s l) := by
  refine within_trans h0 ?_
  unfold State.tBatTake
  lift_lets -useContext -merge -underBinder
  intro x0 x1
  try clear_value x1
  refine within_ite (fun _ => ?_) (fun _ => ?_)
  · exact (State.modLvp_within _ _ _ (msub rfl hm) (within_wrS _ _ _ _ _ (fsub rfl hm) (Within.refl _)))
  · exact (Within.refl _)

theorem State.goStage_within {msk : Nat} {s00 : State} (s : State) (l : Lane) (st : Nat) (hm : 137443147776 &&& msk = 137443147776) (h0 : Within msk s00 s) :
    Within msk s00 (State.goStage s l st) := by
  refine within_trans h0 ?_
  unfold State.goStage
  exact (State.modLvp_within _ _ _ (msub rfl hm) (within_wr _ _ _ _ _ (fsub rfl hm) (Within.refl _)))

theorem State.profStart_within {msk : Nat} {s00 : State} (s : State) (l : Lane) (hm : 137443147776 &&& msk = 137443147776) (h0 : Within msk s00 s) :
    Within msk s00 (State.profStart s l) := by
  refine within_trans h0 ?_
  unfold State.profStart
  exact (State.goStage_within _ _ _ (msub rfl hm) (Within.refl _))

theorem State.lasting_within {msk : Nat} {s00 : State} (s : State) (l : Lane) (c : Bool) (t : Nat) (hm : 137438953472 &&& msk = 137438953472) (h0 : Within msk s00 s) :
    Within1 msk s00 (State.lasting s l c t) := by
  refine within1_trans h0 ?_
  unfold State.lasting
  refine within1_ite (fun _ => ?_) (fun _ => ?_)
  · split
    · exact ⟨Within.snd (State.modLvp_within _ _ _ (msub rfl hm) (Within.refl _))⟩
    · exact ⟨Within.snd (Within.refl _)⟩
  · exact ⟨Within.snd (State.modLvp_within _ _ _ (msub rfl hm) (Within.refl _))⟩

theorem State.stageMove_within {msk : Nat} {s00 : State} (s : State) (l : Lane) (limiting : Bool) (hm : 137443147776 &&& msk = 137443147776) (h0 : Within msk s00 s) :
    Within msk s00 (State.stageMove s l limiting) := by
  refine within_trans h0 ?_
  unfold State.stageMove
  lift_lets -useContext -merge -underBinder
  intro x0 x1
  try clear_value x1
  intro x2
  try clear_value x2
  intro x3
  have hx3 : Within1 msk s x3 := (State.lasting_within _ _ _ _ (msub rfl hm) (Within.refl _))
  clear_value x3
  intro x4
  try clear_value x4
  intro x5
  have hx5 : Within1 msk s x5 := (State.lasting_within _ _ _ _ (msub rfl hm) (Within.refl _))
  clear_value x5
  intro x6
  have hx6 : Within1 msk s x6 := (State.lasting_within _ _ _ _ (msub rfl hm) (Within.refl _))
  clear_value x6
  refine within_ite (fun _ => ?_) (fun _ => ?_)
  · refine within_ite (fun _ => ?_) (fun _ => ?_)
    · exact (Within.refl _)
    · exact (State.goStage_within _ _ _ (msub rfl hm) (Within.refl _))
  · refine within_ite (fun _ => ?_) (fun _ => ?_)
    · exact (State.goStage_within _ _ _ (msub rfl hm) (Within.refl _))
    · refine within_ite (fun _ => ?_) (fun _ => ?_)
      · refine within_ite (fun _ => ?_) (fun _ => ?_)
        · exact (State.goStage_within _ _ _ (msub rfl hm) (Within.refl _))
        · exact (Within.refl _)
      · refine within_ite (fun _ => ?_) (fun _ => ?_)
        · refine within_ite (fun _ => ?_) (fun _ => ?_)
          · exact (State.goStage_within _ _ _ (msub rfl hm) hx3.h)
          · refine within_ite (fun _ => ?_) (fun _ => ?_)
            · exact (State.goStage_within _ _ _ (msub rfl hm) (within_set _ _ _ _ (fsub rfl hm) hx3.h))
            · exact hx3.h
        · refine within_ite (fun _ => ?_) (fun _ => ?_)
          · refine within_ite (fun _ => ?_) (fun _ => ?_)
            · exact (State.goStage_within _ _ _ (msub rfl hm) hx5.h)
            · exact hx5.h
          · refine within_ite (fun _ => ?_) (fun _ => ?_)
            · exact (State.goStage_within _ _ _ (msub rfl hm) hx6.h)
            · exact hx6.h

theorem State.setpoint_within {msk : Nat} {s00 : State} (s : State) (num base : Int) (hm : 4398046511104 &&& msk = 4398046511104) (h0 : Within msk s00 s) :
    Within11 msk s00 (State.setpoint s num base) := by
  refine within11_trans h0 ?_
  unfold State.setpoint
  lift_lets -useContext -merge -underBinder
  intro x0
  have hx0 : Within1 msk s x0 := (State.roundQ_within _ _ _ (msub rfl hm) (Within.refl _))
  clear_value x0
  refine within11_ite (fun _ => ?_) (fun _ => ?_)
  · exact ⟨Within.snd (Within.refl _)⟩
  · refine within11_ite (fun _ => ?_) (fun _ => ?_)
    · exact ⟨Within.snd hx0.h⟩
    · exact ⟨Within.snd hx0.h⟩

theorem State.profWrite_within {msk : Nat} {s00 : State} (s : State) (l : Lane) (hm : 4535489659968 &&& msk = 4535489659968) (h0 : Within msk s00 s) :
    Within msk s00 (State.profWrite s l) := by
  refine within_trans h0 ?_
  unfold State.profWrite
  lift_lets -useContext -merge -underBinder
  intro x0 x1
  have hx1 : Within11 msk s x1 := (State.setpoint_within _ _ _ (msub rfl hm) (Within.refl _))
  clear_value x1
  intro x2
  have hx2 : Within11 msk s x2 := (State.setpoint_within _ _ _ (msub rfl hm) hx1.h)
  clear_value x2
  intro x3
  have hx3 : Within msk s x3 := (State.modLvp_within _ _ _ (msub rfl hm) (within_when _ _ hx2.h (fun _ => (within_set _ _ _ _ (fsub rfl hm) (Within.refl _)))))
  clear_value x3
  refine within_ite (fun _ => ?_) (fun _ => ?_)
  · exact (State.hvcSet_within _ _ _ _ (msub rfl hm) hx3)
  · exact hx3

theorem State.supplyShow_within {msk : Nat} {s00 : State} (s : State) (l : Lane) (vbat : Nat) (hm : 2097152 &&& msk = 2097152) (h0 : Within msk s00 s) :
    Within msk s00 (State.supplyShow s l vbat) := by
  refine within_trans h0 ?_
  unfold State.supplyShow
  lift_lets -useContext -merge -underBinder
  intro x0 x1
  refine within_ite (fun _ => ?_) (fun _ => ?_)
  · exact (within_wrSat _ _ _ _ _ (by unfold x1; split <;> exact fsub rfl hm) (within_put _ _ _ _ _ (by unfold x0; split <;> exact fsub rfl hm) (Within.refl _)))
  · exact (Within.refl _)

theorem execLvpSample_within {msk : Nat} (l : Lane) (vbat vbus : Nat) (ip : Int) (s : State) (hm : 8933538267140 &&& msk = 8933538267140) :
    WithinOut msk s (execLvpSample l vbat vbus ip s) := by
  unfold execLvpSample
  lift_lets -useContext -merge -underBinder
  intro x0 x1
  have hx1 : Within msk s x1 := (within_advTo _ (msub rfl hm) (Within.refl _))
  clear_value x1
  intro x2
  have hx2 : Within msk s x2 := (State.supplyShow_within _ _ _ (msub rfl hm) (State.tBatTake_within _ _ (msub rfl hm) (within_wrS _ _ _ _ _ (fsub rfl hm) (within_wrSat _ _ _ _ _ (fsub rfl hm) (within_wrSat _ _ _ _ _ (fsub rfl hm) hx1)))))
  clear_value x2
  intro x3
  have hx3 : Within msk s x3 := (within_put _ _ _ _ _ (fsub rfl hm) hx2)
  clear_value x3
  intro x4
  have hx4 : Within msk s x4 := (State.modLvp_within _ _ _ (msub rfl hm) hx3)
  clear_value x4
  intro x5
  try clear_value x5
  intro x6
  try clear_value x6
  intro x7
  try clear_value x7
  exact withinOut_next (within_ite (fun _ => (within_ite (fun _ => (State.profStart_within _ _ (msub rfl hm) (State.goPath_within _ _ _ _ (msub rfl hm) hx4))) (fun _ => (within_ite (fun _ => (within_inc _ _ _ _ _ (fsub rfl hm) (State.isolate_within _ _ _ (msub rfl hm) (fsub rfl hm) hx4))) (fun _ => (within_ite (fun _ => (State.isolate_within _ _ _ (msub rfl hm) (fsub rfl hm) hx4)) (fun _ => hx4))))))) (fun _ => (Within.refl _)))

theorem execLvpHandover_within {msk : Nat} (l : Lane) (s : State) (hm : 171802887232 &&& msk = 171802887232) :
    WithinOut msk s (execLvpHandover l s) := by
  unfold execLvpHandover
  lift_lets -useContext -merge -underBinder
  intro x0 x1
  try clear_value x1
  intro x2
  have hx2 : Within msk s x2 := (within_set _ _ _ _ (fsub rfl hm) (State.goStage_within _ _ _ (msub rfl hm) (State.goPath_within _ _ _ _ (msub rfl hm) (Within.refl _))))
  clear_value x2
  intro x3
  have hx3 : Within msk s x3 := (State.modLvp_within _ _ _ (msub rfl hm) (within_inc _ _ _ _ _ (fsub rfl hm) hx2))
  clear_value x3
  exact withinOut_next (within_ite (fun _ => (within_each _ _ hx3 (fun _ _ => (within_ite (fun _ => (State.hvcStep_within _ _ (msub rfl hm) (Within.refl _))) (fun _ => (Within.refl _)))))) (fun _ => (Within.refl _)))

theorem execLvpHandoverEnd_within {msk : Nat} (l : Lane) (s : State) (hm : 8933536169984 &&& msk = 8933536169984) :
    WithinOut msk s (execLvpHandoverEnd l s) := by
  unfold execLvpHandoverEnd
  lift_lets -useContext -merge -underBinder
  intro x0
  try clear_value x0
  intro x1
  try clear_value x1
  intro x2
  have hx2 : Within msk s x2 := (State.goPath_within _ _ _ _ (msub rfl hm) (within_advTo _ (msub rfl hm) (Within.refl _)))
  clear_value x2
  exact withinOut_next (within_ite (fun _ => (State.modLvp_within _ _ _ (msub rfl hm) (within_set _ _ _ _ (fsub rfl hm) hx2))) (fun _ => (Within.refl _)))

theorem execLvpRequalEnd_within {msk : Nat} (l : Lane) (s : State) (hm : 8967895909440 &&& msk = 8967895909440) :
    WithinOut msk s (execLvpRequalEnd l s) := by
  unfold execLvpRequalEnd
  exact withinOut_next (by
    split
    · lift_lets -useContext -merge -underBinder
      intro x0
      have hx0 : Within msk s x0 := (State.modLvp_within _ _ _ (msub rfl hm) (within_clr _ _ _ _ (fsub rfl hm) (within_advTo _ (msub rfl hm) (Within.refl _))))
      clear_value x0
      refine within_ite (fun _ => ?_) (fun _ => ?_)
      · exact (within_each _ _ hx0 (fun _ _ => (within_ite (fun _ => (State.hvcStep_within _ _ (msub rfl hm) (Within.refl _))) (fun _ => (Within.refl _)))))
      · exact (Within.refl _)
    · exact (Within.refl _)
)

theorem execLvpCutoff_within {msk : Nat} (l : Lane) (s : State) (hm : 8933536169988 &&& msk = 8933536169988) :
    WithinOut msk s (execLvpCutoff l s) := by
  unfold execLvpCutoff
  exact withinOut_next (by
    split
    · lift_lets -useContext -merge -underBinder
      intro x0
      have hx0 : Within msk s x0 := (within_advTo _ (msub rfl hm) (Within.refl _))
      clear_value x0
      intro x1
      have hx1 : Within msk s x1 := (State.modLvp_within _ _ _ (msub rfl hm) (within_set _ _ _ _ (fsub rfl hm) hx0))
      clear_value x1
      refine within_ite (fun _ => ?_) (fun _ => ?_)
      · refine within_ite (fun _ => ?_) (fun _ => ?_)
        · refine within_ite (fun _ => ?_) (fun _ => ?_)
          · exact hx0
          · exact (within_when _ _ hx1 (fun _ => (State.log_within _ _ _ _ (msub rfl hm) (Within.refl _))))
        · exact (State.isolate_within _ _ _ (msub rfl hm) (fsub rfl hm) hx0)
      · exact (Within.refl _)
    · exact (Within.refl _)
)

theorem execLvpReconnect_within {msk : Nat} (l : Lane) (s : State) (hm : 4194304 &&& msk = 4194304) :
    WithinOut msk s (execLvpReconnect l s) := by
  unfold execLvpReconnect
  exact withinOut_next (within_ite (fun _ => (State.goPath_within _ _ _ _ (msub rfl hm) (Within.refl _))) (fun _ => (Within.refl _)))

theorem execLvpProfileStep_within {msk : Nat} (l : Lane) (limiting : Bool) (s : State) (hm : 13331582682176 &&& msk = 13331582682176) :
    WithinOut msk s (execLvpProfileStep l limiting s) := by
  unfold execLvpProfileStep
  lift_lets -useContext -merge -underBinder
  intro x0
  have hx0 : Within msk s x0 := (State.profWrite_within _ _ (msub rfl hm) (State.stageMove_within _ _ _ (msub rfl hm) (within_advTo _ (msub rfl hm) (Within.refl _))))
  clear_value x0
  exact withinOut_next (within_ite (fun _ => (State.modLvp_within _ _ _ (msub rfl hm) hx0)) (fun _ => (Within.refl _)))

theorem execActUndervoltage_within {msk : Nat} (l : Lane) (vact : Nat) (s : State) (hm : 4194304 &&& msk = 4194304) :
    WithinOut msk s (execActUndervoltage l vact s) := by
  unfold execActUndervoltage
  lift_lets -useContext -merge -underBinder
  intro x0 x1
  have hx1 : Within msk s x1 := (within_wrSat _ _ _ _ _ (fsub rfl hm) (Within.refl _))
  clear_value x1
  intro x2
  try clear_value x2
  exact withinOut_next (within_ite (fun _ => (within_when _ _ hx1 (fun _ => (within_set _ _ _ _ (fsub rfl hm) (Within.refl _))))) (fun _ => (Within.refl _)))

theorem execVbat9vCrossing_within {msk : Nat} (l : Lane) (up : Bool) (s : State) (hm : 137445244928 &&& msk = 137445244928) :
    WithinOut msk s (execVbat9vCrossing l up s) := by
  unfold execVbat9vCrossing
  lift_lets -useContext -merge -underBinder
  intro x0 x1 x2
  have hx2 : Within msk s x2 := (within_when _ _ (State.modPap_within _ _ _ (msub rfl hm) (Within.refl _)) (fun _ => (within_set _ _ _ _ (fsub rfl hm) (Within.refl _))))
  clear_value x2
  exact withinOut_next (within_ite (fun _ => (State.actSync_within _ _ (msub rfl hm) (within_when _ _ hx2 (fun _ => (within_put _ _ _ _ _ (by unfold x1; split <;> exact fsub rfl hm) (Within.refl _)))))) (fun _ => (Within.refl _)))


end Sys2Proof.Machine
end

