-- ==== Sys2Proof/Laws/WithinDeputy.lean ====
section
/-!
SUPPORT. The operations of Machine/Deputy.lean change nothing outside their masks (Laws/Within.lean).
-/
namespace Sys2Proof.Machine

theorem execAuthReqRaise_within {msk : Nat} (l : Lane) (s : State) (hm : 343599485062 &&& msk = 343599485062) :
    WithinOut msk s (execAuthReqRaise l s) := by
  unfold execAuthReqRaise
  exact withinOut_next (within_ite (fun _ => (State.grantLogic_within _ (msub rfl hm) (within_set _ _ _ _ (by unfold reqFld; split <;> exact fsub rfl hm) (Within.refl _)))) (fun _ => (Within.refl _)))

theorem execAuthReqDrop_within {msk : Nat} (l : Lane) (s : State) (hm : 343599485062 &&& msk = 343599485062) :
    WithinOut msk s (execAuthReqDrop l s) := by
  unfold execAuthReqDrop
  lift_lets -useContext -merge -underBinder
  intro x0
  have hx0 : Within msk s x0 := (within_clr _ _ _ _ (by unfold reqFld; split <;> exact fsub rfl hm) (within_clr _ _ _ _ (fsub rfl hm) (Within.refl _)))
  clear_value x0
  exact withinOut_next (within_ite (fun _ => (State.grantLogic_within _ (msub rfl hm) (State.removeGrant_within _ _ (msub rfl hm) hx0))) (fun _ => (Within.refl _)))

theorem State.switchSetpoints_within {msk : Nat} {s00 : State} (s : State) (l : Lane) (hm : 1088 &&& msk = 1088) (h0 : Within msk s00 s) :
    Within msk s00 (State.switchSetpoints s l) := by
  refine within_trans h0 ?_
  unfold State.switchSetpoints
  refine within_ite (fun _ => ?_) (fun _ => ?_)
  · exact (State.hvcSet_within _ _ _ _ (msub rfl hm) (Within.refl _))
  · exact (Within.refl _)

theorem execHoldGrant_within {msk : Nat} (s : State) (hm : 9070973031618 &&& msk = 9070973031618) :
    WithinOut msk s (execHoldGrant s) := by
  unfold execHoldGrant
  lift_lets -useContext -merge -underBinder
  intro x0
  have hx0 : Within msk s x0 := (State.syncElig_within _ (msub rfl hm) (within_advTo _ (msub rfl hm) (Within.refl _)))
  clear_value x0
  exact withinOut_next (within_ite (fun _ => (by
    split
    · exact (State.switchSetpoints_within _ _ (msub rfl hm) (State.syncElig_within _ (msub rfl hm) (State.returns_within _ (msub rfl hm) (State.giveGrant_within _ _ (msub rfl hm) hx0))))
    · exact hx0
)) (fun _ => (Within.refl _)))

theorem execHoldExpiry_within {msk : Nat} (s : State) (hm : 9174052245638 &&& msk = 9174052245638) :
    WithinOut msk s (execHoldExpiry s) := by
  unfold execHoldExpiry
  lift_lets -useContext -merge -underBinder
  intro x0
  have hx0 : Within msk s x0 := (within_advTo _ (msub rfl hm) (Within.refl _))
  clear_value x0
  intro x1
  have hx1 : Within msk s x1 := (within_inc _ _ _ _ _ (fsub rfl hm) (within_wr _ _ _ _ _ (fsub rfl hm) (within_set _ _ _ _ (fsub rfl hm) (within_wr _ _ _ _ _ (fsub rfl hm) hx0))))
  clear_value x1
  intro x2
  have hx2 : Within msk s x2 := (within_modDep _ (msub rfl hm) (within_wrSat _ _ _ _ _ (fsub rfl hm) hx1))
  clear_value x2
  intro x3
  try clear_value x3
  intro x4
  have hx4 : Within msk s x4 := (Within.of_frame hx2 rfl rfl rfl (.inr rfl) (.inl (bsub rfl hm)) (.inr ⟨rfl, rfl⟩) (.inr rfl) (.inr rfl) (.inr rfl) (.inr rfl) (.inr rfl) (.inr ⟨rfl, rfl⟩))
  clear_value x4
  exact withinOut_next (within_ite (fun _ => (State.grantLogic_within _ (msub rfl hm) (within_each _ _ hx4 (fun _ _ => (State.groupRest_within _ _ (msub rfl hm) (Within.refl _)))))) (fun _ => (Within.refl _)))

theorem State.replayDst_within {msk : Nat} {s00 : State} (s : State) (code : Nat) (on : Bool) (t : Int) (hm : 34359738368 &&& msk = 34359738368) (h0 : Within msk s00 s) :
    Within msk s00 (State.replayDst s code on t) := by
  refine within_trans h0 ?_
  unfold State.replayDst
  refine within_ite (fun _ => ?_) (fun _ => ?_)
  · split
    · exact (State.hoistCmd_within _ _ _ _ (msub rfl hm) (Within.refl _))
    · exact (Within.refl _)
  · exact (Within.refl _)

theorem execHoldReplayEdge_within {msk : Nat} (c : Fin 64) (s : State) (hm : 8899172237312 &&& msk = 8899172237312) :
    WithinOut msk s (execHoldReplayEdge c s) := by
  unfold execHoldReplayEdge
  exact withinOut_next (by
    split
    · exact (Within.refl _)
    · refine within_ite (fun _ => ?_) (fun _ => ?_)
      · exact (Within.refl _)
      · split
        · exact (Within.refl _)
        · lift_lets -useContext -merge -underBinder
          intro x0
          have hx0 : Within msk s x0 := (State.advSteps_within _ _ (msub rfl hm) (Within.refl _))
          clear_value x0
          intro x1
          try clear_value x1
          intro x2
          have hx2 : Within msk s x2 := (Within.of_frame hx0 rfl rfl rfl (.inr rfl) (.inl (bsub rfl hm)) (.inr ⟨rfl, rfl⟩) (.inr rfl) (.inr rfl) (.inr rfl) (.inr rfl) (.inr rfl) (.inr ⟨rfl, rfl⟩))
          clear_value x2
          intro x3
          have hx3 : Within msk s x3 := (State.replayDst_within _ _ _ _ (msub rfl hm) hx2)
          clear_value x3
          refine within_ite (fun _ => ?_) (fun _ => ?_)
          · exact (State.replayDst_within _ _ _ _ (msub rfl hm) (within_ite (fun _ => (State.replayDst_within _ _ _ _ (msub rfl hm) hx2)) (fun _ => hx2)))
          · refine within_ite (fun _ => ?_) (fun _ => ?_)
            · exact (State.replayDst_within _ _ _ _ (msub rfl hm) hx3)
            · exact hx3
)

theorem State.hbAccept_within {msk : Nat} {s00 : State} (s : State) (l : Lane) (seq : Nat) (interval : Option Nat) (hm : 274880004096 &&& msk = 274880004096) (h0 : Within msk s00 s) :
    Within msk s00 (State.hbAccept s l seq interval) := by
  refine within_trans h0 ?_
  unfold State.hbAccept
  lift_lets -useContext -merge -underBinder
  intro x0
  have hx0 : Within msk s x0 := (within_wr _ _ _ _ _ (fsub rfl hm) (Within.refl _))
  clear_value x0
  intro x1
  have hx1 : Within msk s x1 := by
    unfold x1
    split
    · exact (within_wrSat _ _ _ _ _ (fsub rfl hm) hx0)
    · exact hx0
  clear_value x1
  exact (within_modDepLane _ _ (msub rfl hm) hx1)

theorem State.hbMiss_within {msk : Nat} {s00 : State} (s : State) (l : Lane) (hm : 515402372230 &&& msk = 515402372230) (h0 : Within msk s00 s) :
    Within msk s00 (State.hbMiss s l) := by
  refine within_trans h0 ?_
  unfold State.hbMiss
  exact (State.declare_within _ _ _ (msub rfl hm) (within_inc _ _ _ _ _ (fsub rfl hm) (Within.refl _)))

theorem execHeartbeatWrite_within {msk : Nat} (l x : Lane) (seq : BitVec 8) (s : State) (hm : 515402372231 &&& msk = 515402372231) :
    WithinOut msk s (execHeartbeatWrite l x seq s) := by
  unfold execHeartbeatWrite
  lift_lets -useContext -merge -underBinder
  intro x0
  try clear_value x0
  intro x1
  try clear_value x1
  intro x2
  try clear_value x2
  exact withinOut_next (within_ite (fun _ => (Within.refl _)) (fun _ => (within_ite (fun _ => (State.accessError_within _ _ _ _ _ _ (msub rfl hm) (Within.refl _))) (fun _ => (within_ite (fun _ => (State.accessError_within _ _ _ _ _ _ (msub rfl hm) (Within.refl _))) (fun _ => (within_ite (fun _ => (Within.refl _)) (fun _ => (within_ite (fun _ => (within_ite (fun _ => (State.hbMiss_within _ _ (msub rfl hm) (Within.refl _))) (fun _ => (State.hbAccept_within _ _ _ _ (msub rfl hm) (Within.refl _))))) (fun _ => (within_ite (fun _ => (State.hbMiss_within _ _ (msub rfl hm) (Within.refl _))) (fun _ => (within_ite (fun _ => (State.windowMiss_within _ _ (msub rfl hm) (Within.refl _))) (fun _ => (State.hbAccept_within _ _ _ _ (msub rfl hm) (Within.refl _))))))))))))))))

theorem execHeartbeatMiss_within {msk : Nat} (l : Lane) (s : State) (hm : 9311495394438 &&& msk = 9311495394438) :
    WithinOut msk s (execHeartbeatMiss l s) := by
  unfold execHeartbeatMiss
  lift_lets -useContext -merge -underBinder
  intro x0
  try clear_value x0
  intro x1
  try clear_value x1
  exact withinOut_next (within_ite (fun _ => (State.hbMiss_within _ _ (msub rfl hm) (within_advTo _ (msub rfl hm) (Within.refl _)))) (fun _ => (Within.refl _)))

theorem execDeputyAliveTick_within {msk : Nat} (s : State) (hm : 8796095119360 &&& msk = 8796095119360) :
    WithinOut msk s (execDeputyAliveTick s) := by
  unfold execDeputyAliveTick
  lift_lets -useContext -merge -underBinder
  intro x0
  have hx0 : Within msk s x0 := (within_advTo _ (msub rfl hm) (Within.refl _))
  clear_value x0
  intro x1
  have hx1 : Within msk s x1 := (within_wr _ _ _ _ _ (fsub rfl hm) hx0)
  clear_value x1
  exact withinOut_next (within_ite (fun _ => (within_each _ _ hx1 (fun _ _ => (State.modSup_within _ _ _ (msub rfl hm) (Within.refl _))))) (fun _ => (Within.refl _)))

theorem execDeputyPortSilent_within {msk : Nat} (l : Lane) (s : State) (hm : 8796101410822 &&& msk = 8796101410822) :
    WithinOut msk s (execDeputyPortSilent l s) := by
  unfold execDeputyPortSilent
  lift_lets -useContext -merge -underBinder
  intro x0
  have hx0 : Within msk s x0 := (within_advTo _ (msub rfl hm) (Within.refl _))
  clear_value x0
  exact withinOut_next (within_ite (fun _ => (within_ite (fun _ => (State.declareDs_within _ _ (msub rfl hm) hx0)) (fun _ => (State.modSup_within _ _ _ (msub rfl hm) hx0)))) (fun _ => (Within.refl _)))

theorem execDsPartnerJudgement_within {msk : Nat} (l : Lane) (s : State) (hm : 9277144043654 &&& msk = 9277144043654) :
    WithinOut msk s (execDsPartnerJudgement l s) := by
  unfold execDsPartnerJudgement
  exact withinOut_next (by
    split
    · exact (Within.refl _)
    · lift_lets -useContext -merge -underBinder
      intro x0
      have hx0 : Within msk s x0 := (within_advTo _ (msub rfl hm) (Within.refl _))
      clear_value x0
      refine within_ite (fun _ => ?_) (fun _ => ?_)
      · refine within_ite (fun _ => ?_) (fun _ => ?_)
        · exact (State.portFault_within _ _ (msub rfl hm) hx0)
        · exact (State.declareDs_within _ _ (msub rfl hm) hx0)
      · exact (Within.refl _)
)

theorem execPortFaultReset_within {msk : Nat} (l : Lane) (s : State) (hm : 9328668966911 &&& msk = 9328668966911) :
    WithinOut msk s (execPortFaultReset l s) := by
  unfold execPortFaultReset
  lift_lets -useContext -merge -underBinder
  intro x0
  try clear_value x0
  exact withinOut_next (within_ite (fun _ => (State.resetIsland_within _ _ _ (msub rfl hm) (within_advTo _ (msub rfl hm) (Within.refl _)))) (fun _ => (Within.refl _)))

theorem execDspDeclare_within {msk : Nat} (l : Lane) (cls : Fin 8) (s : State) (hm : 515402372231 &&& msk = 515402372231) :
    WithinOut msk s (execDspDeclare l cls s) := by
  unfold execDspDeclare
  exact withinOut_next (within_ite (fun _ => (Within.refl _)) (fun _ => (within_ite (fun _ => (State.accessError_within _ _ _ _ _ _ (msub rfl hm) (Within.refl _))) (fun _ => (by
    split
    · refine within_ite (fun _ => ?_) (fun _ => ?_)
      · exact (State.laneDeclare_within _ _ _ (msub rfl hm) (Within.refl _))
      · exact (State.accessError_within _ _ _ _ _ _ (msub rfl hm) (Within.refl _))
    · exact (State.accessError_within _ _ _ _ _ _ (msub rfl hm) (Within.refl _))
)))))

theorem execDegradedExpiry_within {msk : Nat} (s : State) (hm : 9070973027334 &&& msk = 9070973027334) :
    WithinOut msk s (execDegradedExpiry s) := by
  unfold execDegradedExpiry
  lift_lets -useContext -merge -underBinder
  intro x0
  have hx0 : Within msk s x0 := (within_set _ _ _ _ (fsub rfl hm) (within_clr _ _ _ _ (fsub rfl hm) (within_advTo _ (msub rfl hm) (Within.refl _))))
  clear_value x0
  intro x1
  have hx1 : Within msk s x1 := (within_clr _ _ _ _ (fsub rfl hm) (within_wr _ _ _ _ _ (fsub rfl hm) hx0))
  clear_value x1
  intro x2
  have hx2 : Within msk s x2 := (within_ite (fun _ => (State.stopControlled_within _ (msub rfl hm) (within_set _ _ _ _ (fsub rfl hm) (within_clr _ _ _ _ (fsub rfl hm) (within_clr _ _ _ _ (fsub rfl hm) hx1))))) (fun _ => (State.syncImposed_within _ (msub rfl hm) hx1)))
  clear_value x2
  exact withinOut_next (within_ite (fun _ => (State.record_within _ _ _ _ _ (msub rfl hm) hx2)) (fun _ => (Within.refl _)))

theorem execLaneDegradedExpiry_within {msk : Nat} (l : Lane) (s : State) (hm : 8796101410818 &&& msk = 8796101410818) :
    WithinOut msk s (execLaneDegradedExpiry l s) := by
  unfold execLaneDegradedExpiry
  exact withinOut_next (within_ite (fun _ => (State.laneForm_within _ _ (msub rfl hm) (State.timExpire_within _ _ _ (msub rfl hm) (Within.refl _)))) (fun _ => (Within.refl _)))

theorem execDegRemainSample_within {msk : Nat} (l : Lane) (s : State) (hm : 8796095119360 &&& msk = 8796095119360) :
    WithinOut msk s (execDegRemainSample l s) := by
  unfold execDegRemainSample
  lift_lets -useContext -merge -underBinder
  intro x0
  have hx0 : Within msk s x0 := (within_advTo _ (msub rfl hm) (Within.refl _))
  clear_value x0
  intro x1
  have hx1 : Within msk s x1 := (within_wr _ _ _ _ _ (fsub rfl hm) hx0)
  clear_value x1
  exact withinOut_next (within_ite (fun _ => (State.modSup_within _ _ _ (msub rfl hm) hx1)) (fun _ => (Within.refl _)))

theorem State.rampOpen_within {msk : Nat} {s00 : State} (s : State) (hm : 274880004096 &&& msk = 274880004096) (h0 : Within msk s00 s) :
    Within msk s00 (State.rampOpen s) := by
  refine within_trans h0 ?_
  unfold State.rampOpen
  lift_lets -useContext -merge -underBinder
  intro x0
  have hx0 : Within msk s x0 := (within_modDep _ (msub rfl hm) (within_set _ _ _ _ (fsub rfl hm) (within_clr _ _ _ _ (fsub rfl hm) (Within.refl _))))
  clear_value x0
  exact (State.openFuncs_within _ _ (msub rfl hm) hx0)

theorem State.ssCmd_within {msk : Nat} {s00 : State} (s : State) (l : Lane) (f : State → State) (hm : 1 &&& msk = 1) (h0 : Within msk s00 s)
    (hf2 : ∀ y0, Within msk y0 (f y0)) :
    Within msk s00 (State.ssCmd s l f) := by
  refine within_trans h0 ?_
  unfold State.ssCmd
  refine within_ite (fun _ => ?_) (fun _ => ?_)
  · exact (Within.refl _)
  · refine within_ite (fun _ => ?_) (fun _ => ?_)
    · exact (State.accessError_within _ _ _ _ _ _ (msub rfl hm) (Within.refl _))
    · exact (within_trans (Within.refl _) (hf2 _))

theorem execRampDone_within {msk : Nat} (l : Lane) (s : State) (hm : 274880004097 &&& msk = 274880004097) :
    WithinOut msk s (execRampDone l s) := by
  unfold execRampDone
  exact withinOut_next (State.ssCmd_within _ _ _ (msub rfl hm) (Within.refl _) (fun _ => (within_ite (fun _ => (State.accessError_within _ _ _ _ _ _ (msub rfl hm) (Within.refl _))) (fun _ => (within_ite (fun _ => (State.rampOpen_within _ (msub rfl hm) (Within.refl _))) (fun _ => (Within.refl _)))))))

theorem execRampWindowExpiry_within {msk : Nat} (s : State) (hm : 9070973026308 &&& msk = 9070973026308) :
    WithinOut msk s (execRampWindowExpiry s) := by
  unfold execRampWindowExpiry
  lift_lets -useContext -merge -underBinder
  intro x0
  try clear_value x0
  intro x1
  have hx1 : Within msk s x1 := (within_set _ _ _ _ (fsub rfl hm) (within_advTo _ (msub rfl hm) (Within.refl _)))
  clear_value x1
  exact withinOut_next (within_ite (fun _ => (State.record_within _ _ _ _ _ (msub rfl hm) (State.rampOpen_within _ (msub rfl hm) hx1))) (fun _ => (Within.refl _)))

theorem execBrakeApplied_within {msk : Nat} (l : Lane) (s : State) (hm : 2097153 &&& msk = 2097153) :
    WithinOut msk s (execBrakeApplied l s) := by
  unfold execBrakeApplied
  exact withinOut_next (State.ssCmd_within _ _ _ (msub rfl hm) (Within.refl _) (fun _ => (within_ite (fun _ => (within_set _ _ _ _ (by unfold brakeFld; split <;> exact fsub rfl hm) (Within.refl _))) (fun _ => (Within.refl _)))))

theorem execBrakeWindowExpiry_within {msk : Nat} (s : State) (hm : 8933534072836 &&& msk = 8933534072836) :
    WithinOut msk s (execBrakeWindowExpiry s) := by
  unfold execBrakeWindowExpiry
  lift_lets -useContext -merge -underBinder
  intro x0
  have hx0 : Within msk s x0 := (within_advTo _ (msub rfl hm) (Within.refl _))
  clear_value x0
  intro x1
  try clear_value x1
  intro x2
  have hx2 : Within msk s x2 := (within_set _ _ _ _ (fsub rfl hm) (within_each _ _ hx0 (fun _ _ => (State.causeOf_within _ _ _ (msub rfl hm) (State.clampCmd_within _ _ (msub rfl hm) (Within.refl _))))))
  clear_value x2
  exact withinOut_next (within_ite (fun _ => (within_ite (fun _ => hx0) (fun _ => (within_each _ _ hx2 (fun _ _ => (State.record_within _ _ _ _ _ (msub rfl hm) (Within.refl _))))))) (fun _ => (Within.refl _)))


end Sys2Proof.Machine
end

