-- ==== Sys2Proof/Laws/WithinHoistOps.lean ====
section
/-!
SUPPORT. The operations of Machine/HoistOps.lean change nothing outside their masks (Laws/Within.lean).
-/
namespace Sys2Proof.Machine

theorem State.stageFault_within {msk : Nat} {s00 : State} (s : State) (n : Fin 40) (cause : Nat) (hm : 171802886532 &&& msk = 171802886532) (h0 : Within msk s00 s) :
    Within msk s00 (State.stageFault s n cause) := by
  refine within_trans h0 ?_
  unfold State.stageFault
  lift_lets -useContext -merge -underBinder
  intro x0
  try clear_value x0
  intro x1
  try clear_value x1
  intro x2
  try clear_value x2
  intro x3
  have hx3 : Within msk s x3 := (State.modLink_within _ _ _ (msub rfl hm) (Within.refl _))
  clear_value x3
  refine within_ite (fun _ => ?_) (fun _ => ?_)
  · exact (Within.refl _)
  · exact (within_each _ _ hx3 (fun y4 y5 => (by
      lift_lets -useContext -merge -underBinder
      intro x6 x7
      have hx7 : Within msk y4 x7 := (within_inc _ _ _ _ _ (fsub rfl hm) (within_wr _ _ _ _ _ (fsub rfl hm) (within_wr _ _ _ _ _ (fsub rfl hm) (within_wr _ _ _ _ _ (fsub rfl hm) (Within.refl _)))))
      clear_value x7
      intro x8
      have hx8 : Within msk y4 x8 := (State.irq_within _ _ _ _ (msub rfl hm) (fsub rfl hm) hx7)
      clear_value x8
      intro x9
      have hx9 : Within msk y4 x9 := (within_ite (fun _ => (State.logIf_within _ _ _ _ _ _ (msub rfl hm) (fsub rfl hm) hx8)) (fun _ => hx8))
      clear_value x9
      refine within_ite (fun _ => ?_) (fun _ => ?_)
      · exact (State.tripSource_within _ _ _ _ (msub rfl hm) hx9)
      · exact (Within.refl _)
)))

theorem State.hlgLost_within {msk : Nat} {s00 : State} (s : State) (n : Fin 40) (hm : 171802886532 &&& msk = 171802886532) (h0 : Within msk s00 s) :
    Within msk s00 (State.hlgLost s n) := by
  refine within_trans h0 ?_
  unfold State.hlgLost
  lift_lets -useContext -merge -underBinder
  intro x0
  have hx0 : Within msk s x0 := (State.modLink_within _ _ _ (msub rfl hm) (Within.refl _))
  clear_value x0
  intro x1
  have hx1 : Within msk s x1 := (within_each _ _ hx0 (fun _ _ => (State.irq_within _ _ _ _ (msub rfl hm) (fsub rfl hm) (Within.refl _))))
  clear_value x1
  refine within_ite (fun _ => ?_) (fun _ => ?_)
  · refine within_ite (fun _ => ?_) (fun _ => ?_)
    · exact (State.stageFault_within _ _ _ (msub rfl hm) hx1)
    · exact hx1
  · exact (Within.refl _)

theorem State.trainBegin_within {msk : Nat} {s00 : State} (s : State) (l : Lane) (hm : 34359738624 &&& msk = 34359738624) (h0 : Within msk s00 s) :
    Within msk s00 (State.trainBegin s l) := by
  refine within_trans h0 ?_
  unfold State.trainBegin
  lift_lets -useContext -merge -underBinder
  intro x0 x1
  try clear_value x1
  intro x2
  try clear_value x2
  intro x3
  try clear_value x3
  intro x4
  try clear_value x4
  intro x5
  have hx5 : Within msk s x5 := (Within.of_frame (Within.refl _) rfl rfl rfl (.inl (bsub rfl hm)) (.inr rfl) (.inr ⟨rfl, rfl⟩) (.inr rfl) (.inr rfl) (.inr rfl) (.inr rfl) (.inr rfl) (.inr ⟨rfl, rfl⟩))
  clear_value x5
  exact (within_wr _ _ _ _ _ (fsub rfl hm) (within_wr _ _ _ _ _ (fsub rfl hm) (within_wr _ _ _ _ _ (fsub rfl hm) (within_set _ _ _ _ (fsub rfl hm) hx5))))

theorem State.trainEnd_within {msk : Nat} {s00 : State} (s : State) (hm : 34359738624 &&& msk = 34359738624) (h0 : Within msk s00 s) :
    Within msk s00 (State.trainEnd s) := by
  refine within_trans h0 ?_
  unfold State.trainEnd
  split
  · exact (Within.refl _)
  · lift_lets -useContext -merge -underBinder
    intro x0
    try clear_value x0
    intro x1
    try clear_value x1
    intro x2
    have hx2 : Within msk s x2 := (Within.of_frame (Within.refl _) rfl rfl rfl (.inl (bsub rfl hm)) (.inr rfl) (.inr ⟨rfl, rfl⟩) (.inr rfl) (.inr rfl) (.inr rfl) (.inr rfl) (.inr rfl) (.inr ⟨rfl, rfl⟩))
    clear_value x2
    refine within_ite (fun _ => ?_) (fun _ => ?_)
    · exact (Within.refl _)
    · exact (State.irq_within _ _ _ _ (msub rfl hm) (fsub rfl hm) (within_clr _ _ _ _ (fsub rfl hm) hx2))

theorem State.trainFail_within {msk : Nat} {s00 : State} (s : State) (n : Fin 40) (result : Nat) (hm : 34359738624 &&& msk = 34359738624) (h0 : Within msk s00 s) :
    Within msk s00 (State.trainFail s n result) := by
  refine within_trans h0 ?_
  unfold State.trainFail
  lift_lets -useContext -merge -underBinder
  intro x0
  have hx0 : Within msk s x0 := (State.modLink_within _ _ _ (msub rfl hm) (Within.refl _))
  clear_value x0
  split
  · exact hx0
  · lift_lets -useContext -merge -underBinder
    intro x1 x2
    have hx2 : Within msk s x2 := (within_ite (fun _ => (within_wr _ _ _ _ _ (fsub rfl hm) (within_wr _ _ _ _ _ (fsub rfl hm) hx0))) (fun _ => hx0))
    clear_value x2
    exact (State.trainEnd_within _ (msub rfl hm) hx2)


end Sys2Proof.Machine
end

