-- ==== Sys2Proof/Laws/WithinHoist.lean ====
section
/-!
SUPPORT. The operations of Machine/Hoist.lean change nothing outside their masks (Laws/Within.lean).
-/
namespace Sys2Proof.Machine

theorem State.sendStep_within {msk : Nat} {s00 : State} (s : State) (n : Fin 40) (step : Nat) (nz : Noise) (hm : 8830452760576 &&& msk = 8830452760576) (h0 : Within msk s00 s) :
    Within msk s00 (State.sendStep s n step nz) := by
  refine within_trans h0 ?_
  unfold State.sendStep
  lift_lets -useContext -merge -underBinder
  intro x0
  try clear_value x0
  intro x1
  have hx1 : Within msk s x1 := (within_advTo _ (msub rfl hm) (Within.refl _))
  clear_value x1
  refine within_ite (fun _ => ?_) (fun _ => ?_)
  · exact (State.modLink_within _ _ _ (msub rfl hm) hx1)
  · exact (Within.refl _)

theorem execHoistSetSc_within {msk : Nat} (n : Fin 40) (nz : Noise) (s : State) (hm : 8830452760576 &&& msk = 8830452760576) :
    WithinOut msk s (execHoistSetSc n nz s) := by
  unfold execHoistSetSc
  exact withinOut_next (State.sendStep_within _ _ _ _ (msub rfl hm) (Within.refl _))

theorem execHoistSetGate_within {msk : Nat} (n : Fin 40) (nz : Noise) (s : State) (hm : 8830452760576 &&& msk = 8830452760576) :
    WithinOut msk s (execHoistSetGate n nz s) := by
  unfold execHoistSetGate
  exact withinOut_next (State.sendStep_within _ _ _ _ (msub rfl hm) (Within.refl _))

theorem execHoistSetLoss_within {msk : Nat} (n : Fin 40) (nz : Noise) (s : State) (hm : 8830452760576 &&& msk = 8830452760576) :
    WithinOut msk s (execHoistSetLoss n nz s) := by
  unfold execHoistSetLoss
  exact withinOut_next (State.sendStep_within _ _ _ _ (msub rfl hm) (Within.refl _))

theorem execHoistRead_within {msk : Nat} (n : Fin 40) (nz : Noise) (s : State) (hm : 8830452760576 &&& msk = 8830452760576) :
    WithinOut msk s (execHoistRead n nz s) := by
  unfold execHoistRead
  exact withinOut_next (State.sendStep_within _ _ _ _ (msub rfl hm) (Within.refl _))

theorem execHoistHlgTest_within {msk : Nat} (n : Fin 40) (nz : Noise) (seen : List (Fin 3 × Nat)) (s : State) (hm : 8830452760832 &&& msk = 8830452760832) :
    WithinOut msk s (execHoistHlgTest n nz seen s) := by
  unfold execHoistHlgTest
  lift_lets -useContext -merge -underBinder
  intro x0
  have hx0 : Within msk s x0 := (State.sendStep_within _ _ _ _ (msub rfl hm) (Within.refl _))
  clear_value x0
  intro x1
  have hx1 : Within msk s x1 := (within_advTo _ (msub rfl hm) hx0)
  clear_value x1
  exact withinOut_next (within_ite (fun _ => (within_ite (fun _ => (State.modLink_within _ _ _ (msub rfl hm) hx1)) (fun _ => (State.trainFail_within _ _ _ (msub rfl hm) hx1)))) (fun _ => (Within.refl _)))

theorem execHoistRun_within {msk : Nat} (n : Fin 40) (nz : Noise) (s : State) (hm : 8830452760576 &&& msk = 8830452760576) :
    WithinOut msk s (execHoistRun n nz s) := by
  unfold execHoistRun
  exact withinOut_next (State.sendStep_within _ _ _ _ (msub rfl hm) (Within.refl _))

theorem execHoistAnswerTimeout_within {msk : Nat} (n : Fin 40) (nz : Noise) (s : State) (hm : 8830452760832 &&& msk = 8830452760832) :
    WithinOut msk s (execHoistAnswerTimeout n nz s) := by
  unfold execHoistAnswerTimeout
  lift_lets -useContext -merge -underBinder
  intro x0
  try clear_value x0
  exact withinOut_next (by
    split
    · lift_lets -useContext -merge -underBinder
      intro x1
      have hx1 : Within msk s x1 := (within_advTo _ (msub rfl hm) (Within.refl _))
      clear_value x1
      intro x2
      have hx2 : Within msk s x2 := (State.modLink_within _ _ _ (msub rfl hm) hx1)
      clear_value x2
      refine within_ite (fun _ => ?_) (fun _ => ?_)
      · exact (Within.refl _)
      · refine within_ite (fun _ => ?_) (fun _ => ?_)
        · split
          · refine within_ite (fun _ => ?_) (fun _ => ?_)
            · exact hx2
            · exact (within_inc _ _ _ _ _ (fsub rfl hm) hx2)
          · exact hx2
        · exact (State.trainFail_within _ _ _ (msub rfl hm) (within_advTo _ (msub rfl hm) (Within.refl _)))
    · exact (Within.refl _)
)

theorem State.linkCount_within {msk : Nat} {s00 : State} (s : State) (n : Fin 40) (f : Fld) (hm : 0 &&& msk = 0) (hg2 : f.inM msk = true) (h0 : Within msk s00 s) :
    Within msk s00 (State.linkCount s n f) := by
  refine within_trans h0 ?_
  unfold State.linkCount
  exact (within_each _ _ (Within.refl _) (fun _ _ => (within_inc _ _ _ _ _ hg2 (Within.refl _))))

theorem State.uplinkBad_within {msk : Nat} {s00 : State} (s : State) (n : Fin 40) (hm : 256 &&& msk = 256) (h0 : Within msk s00 s) :
    Within msk s00 (State.uplinkBad s n) := by
  refine within_trans h0 ?_
  unfold State.uplinkBad
  exact (within_when _ _ (Within.refl _) (fun _ => (State.linkCount_within _ _ _ (msub rfl hm) (fsub rfl hm) (Within.refl _))))

theorem State.acked_within {msk : Nat} {s00 : State} (s : State) (n : Fin 40) (code : Nat) (hm : 34359738624 &&& msk = 34359738624) (h0 : Within msk s00 s) :
    Within msk s00 (State.acked s n code) := by
  refine within_trans h0 ?_
  unfold State.acked
  split
  · exact (Within.refl _)
  · lift_lets -useContext -merge -underBinder
    intro x0
    have hx0 : Within msk s x0 := (State.modLink_within _ _ _ (msub rfl hm) (Within.refl _))
    clear_value x0
    refine within_ite (fun _ => ?_) (fun _ => ?_)
    · refine within_ite (fun _ => ?_) (fun _ => ?_)
      · exact (State.trainEnd_within _ (msub rfl hm) (within_ite (fun _ => hx0) (fun _ => (State.groupApply_within _ _ (msub rfl hm) hx0))))
      · exact (State.modLink_within _ _ _ (msub rfl hm) (Within.refl _))
    · exact (Within.refl _)

theorem execHoistAck_within {msk : Nat} (n : Fin 40) (f : UplinkFrame) (s : State) (hm : 34359738624 &&& msk = 34359738624) :
    WithinOut msk s (execHoistAck n f s) := by
  unfold execHoistAck
  exact withinOut_next (by
    split
    · refine within_ite (fun _ => ?_) (fun _ => ?_)
      · exact (State.acked_within _ _ _ (msub rfl hm) (Within.refl _))
      · exact (Within.refl _)
    · exact (State.uplinkBad_within _ _ (msub rfl hm) (Within.refl _))
)

theorem execHoistEcho_within {msk : Nat} (n : Fin 40) (f : UplinkFrame) (statusOk : Bool) (s : State) (hm : 34359738624 &&& msk = 34359738624) :
    WithinOut msk s (execHoistEcho n f statusOk s) := by
  unfold execHoistEcho
  exact withinOut_next (by
    split
    · refine within_ite (fun _ => ?_) (fun _ => ?_)
      · refine within_ite (fun _ => ?_) (fun _ => ?_)
        · exact (State.modLink_within _ _ _ (msub rfl hm) (Within.refl _))
        · exact (State.trainFail_within _ _ _ (msub rfl hm) (Within.refl _))
      · exact (Within.refl _)
    · exact (State.uplinkBad_within _ _ (msub rfl hm) (Within.refl _))
)

theorem State.statusFaults_within {msk : Nat} {s00 : State} (s : State) (n : Fin 40) (flags : Nat) (hm : 171802886532 &&& msk = 171802886532) (h0 : Within msk s00 s) :
    Within msk s00 (State.statusFaults s n flags) := by
  refine within_trans h0 ?_
  unfold State.statusFaults
  lift_lets -useContext -merge -underBinder
  intro x0
  try clear_value x0
  intro x1
  have hx1 : Within msk s x1 := (within_when _ _ (Within.refl _) (fun _ => (State.stageFault_within _ _ _ (msub rfl hm) (Within.refl _))))
  clear_value x1
  intro x3
  have hx3 : Within msk s x3 := (within_when _ _ hx1 (fun _ => (State.stageFault_within _ _ _ (msub rfl hm) (Within.refl _))))
  clear_value x3
  intro x5
  have hx5 : Within msk s x5 := (within_when _ _ hx3 (fun _ => (State.stageFault_within _ _ _ (msub rfl hm) (Within.refl _))))
  clear_value x5
  exact (within_when _ _ hx5 (fun _ => (State.stageFault_within _ _ _ (msub rfl hm) (Within.refl _))))

theorem State.statusGate_within {msk : Nat} {s00 : State} (s : State) (n : Fin 40) (gate : Nat) (hm : 171802886532 &&& msk = 171802886532) (h0 : Within msk s00 s) :
    Within msk s00 (State.statusGate s n gate) := by
  refine within_trans h0 ?_
  unfold State.statusGate
  lift_lets -useContext -merge -underBinder
  intro x0
  try clear_value x0
  refine within_ite (fun _ => ?_) (fun _ => ?_)
  · refine within_ite (fun _ => ?_) (fun _ => ?_)
    · exact (State.modLink_within _ _ _ (msub rfl hm) (Within.refl _))
    · refine within_ite (fun _ => ?_) (fun _ => ?_)
      · exact (State.hlgLost_within _ _ (msub rfl hm) (Within.refl _))
      · exact (State.modLink_within _ _ _ (msub rfl hm) (Within.refl _))
  · exact (Within.refl _)

theorem State.statusFrame_within {msk : Nat} {s00 : State} (s : State) (n : Fin 40) (temp flags gs : Nat) (hm : 171802886532 &&& msk = 171802886532) (h0 : Within msk s00 s) :
    Within msk s00 (State.statusFrame s n temp flags gs) := by
  refine within_trans h0 ?_
  unfold State.statusFrame
  lift_lets -useContext -merge -underBinder
  intro x0
  try clear_value x0
  intro x1
  try clear_value x1
  intro x2
  have hx2 : Within msk s x2 := (within_when _ _ (Within.refl _) (fun _ => (State.linkCount_within _ _ _ (msub rfl hm) (fsub rfl hm) (Within.refl _))))
  clear_value x2
  intro x4
  have hx4 : Within msk s x4 := (State.modLink_within _ _ _ (msub rfl hm) hx2)
  clear_value x4
  exact (State.statusGate_within _ _ _ (msub rfl hm) (State.statusFaults_within _ _ _ (msub rfl hm) hx4))

theorem execHoistStatus_within {msk : Nat} (n : Fin 40) (f : UplinkFrame) (s : State) (hm : 171802886532 &&& msk = 171802886532) :
    WithinOut msk s (execHoistStatus n f s) := by
  unfold execHoistStatus
  exact withinOut_next (by
    split
    · refine within_ite (fun _ => ?_) (fun _ => ?_)
      · exact (State.statusFrame_within _ _ _ _ _ (msub rfl hm) (Within.refl _))
      · exact (Within.refl _)
    · exact (State.uplinkBad_within _ _ (msub rfl hm) (Within.refl _))
)

theorem execHoistFault_within {msk : Nat} (n : Fin 40) (f : UplinkFrame) (s : State) (hm : 171802886532 &&& msk = 171802886532) :
    WithinOut msk s (execHoistFault n f s) := by
  unfold execHoistFault
  exact withinOut_next (by
    split
    · refine within_ite (fun _ => ?_) (fun _ => ?_)
      · split
        · exact (State.stageFault_within _ _ _ (msub rfl hm) (Within.refl _))
        · exact (State.stageFault_within _ _ _ (msub rfl hm) (Within.refl _))
        · exact (State.stageFault_within _ _ _ (msub rfl hm) (Within.refl _))
        · exact (Within.refl _)
      · exact (Within.refl _)
    · exact (State.uplinkBad_within _ _ (msub rfl hm) (Within.refl _))
)

theorem execHoistStatLoss_within {msk : Nat} (n : Fin 40) (s : State) (hm : 8967895908740 &&& msk = 8967895908740) :
    WithinOut msk s (execHoistStatLoss n s) := by
  unfold execHoistStatLoss
  exact withinOut_next (within_ite (fun _ => (State.stageFault_within _ _ _ (msub rfl hm) (within_advTo _ (msub rfl hm) (Within.refl _)))) (fun _ => (Within.refl _)))

theorem execHoistTick_within {msk : Nat} (s : State) (hm : 34359738368 &&& msk = 34359738368) :
    WithinOut msk s (execHoistTick s) := by
  unfold execHoistTick
  exact withinOut_next (within_ite (fun _ => (within_each _ _ (Within.refl _) (fun y0 y1 => (by
    lift_lets -useContext -merge -underBinder
    intro x2
    try clear_value x2
    refine within_ite (fun _ => ?_) (fun _ => ?_)
    · exact (State.modLink_within _ _ _ (msub rfl hm) (Within.refl _))
    · exact (Within.refl _)
)))) (fun _ => (Within.refl _)))

theorem execHeadLinkLoss_within {msk : Nat} (n : Fin 40) (s : State) (hm : 8830452760576 &&& msk = 8830452760576) :
    WithinOut msk s (execHeadLinkLoss n s) := by
  unfold execHeadLinkLoss
  lift_lets -useContext -merge -underBinder
  intro x0
  try clear_value x0
  exact withinOut_next (by
    split
    · exact (State.modLink_within _ _ _ (msub rfl hm) (State.advSteps_within _ _ (msub rfl hm) (Within.refl _)))
    · exact (State.modLink_within _ _ _ (msub rfl hm) (Within.refl _))
    · exact (Within.refl _)
)

theorem execHeadShortCircuit_within {msk : Nat} (n : Fin 40) (mv ns : Nat) (s : State) (hm : 34359738368 &&& msk = 34359738368) :
    WithinOut msk s (execHeadShortCircuit n mv ns s) := by
  unfold execHeadShortCircuit
  lift_lets -useContext -merge -underBinder
  intro x0
  try clear_value x0
  exact withinOut_next (by
    split
    · refine within_ite (fun _ => ?_) (fun _ => ?_)
      · exact (State.modLink_within _ _ _ (msub rfl hm) (Within.refl _))
      · exact (Within.refl _)
    · exact (Within.refl _)
)

theorem execHeadGateSupplyLoss_within {msk : Nat} (n : Fin 40) (s : State) (hm : 34359738368 &&& msk = 34359738368) :
    WithinOut msk s (execHeadGateSupplyLoss n s) := by
  unfold execHeadGateSupplyLoss
  exact withinOut_next (State.modLink_within _ _ _ (msub rfl hm) (Within.refl _))

theorem State.thirty_within {msk : Nat} {s00 : State} (s : State) (ns : Nat) (hm : 4398046511104 &&& msk = 4398046511104) (h0 : Within msk s00 s) :
    Within1 msk s00 (State.thirty s ns) := by
  refine within1_trans h0 ?_
  unfold State.thirty
  refine within1_ite (fun _ => ?_) (fun _ => ?_)
  · exact ⟨Within.snd (Within.refl _)⟩
  · refine within1_ite (fun _ => ?_) (fun _ => ?_)
    · exact ⟨Within.snd (Within.refl _)⟩
    · exact ⟨Within.snd (Within.of_frame (Within.refl _) rfl rfl rfl (.inr rfl) (.inr rfl) (.inr ⟨rfl, rfl⟩) (.inr rfl) (.inr rfl) (.inr rfl) (.inr rfl) (.inl (bsub rfl hm)) (.inr ⟨rfl, rfl⟩))⟩

theorem State.newCode_within {msk : Nat} {s00 : State} (s : State) (n : Fin 40) (code : Nat) (hm : 34359738368 &&& msk = 34359738368) (h0 : Within msk s00 s) :
    Within msk s00 (State.newCode s n code) := by
  refine within_trans h0 ?_
  unfold State.newCode
  refine within_ite (fun _ => ?_) (fun _ => ?_)
  · exact (Within.refl _)
  · exact (State.modLink_within _ _ _ (msub rfl hm) (Within.refl _))

theorem execHlgCodeChange_within {msk : Nat} (n : Fin 40) (high : Bool) (held gap : Nat) (s : State) (hm : 4432406249472 &&& msk = 4432406249472) :
    WithinOut msk s (execHlgCodeChange n high held gap s) := by
  unfold execHlgCodeChange
  lift_lets -useContext -merge -underBinder
  intro x0
  have hx0 : Within1 msk s x0 := (State.thirty_within _ _ (msub rfl hm) (Within.refl _))
  clear_value x0
  intro x1
  have hx1 : Within1 msk s x1 := (State.thirty_within _ _ (msub rfl hm) hx0.h)
  clear_value x1
  exact withinOut_next (within_ite (fun _ => (within_ite (fun _ => (State.newCode_within _ _ _ (msub rfl hm) hx0.h)) (fun _ => (within_ite (fun _ => hx1.h) (fun _ => (State.newCode_within _ _ _ (msub rfl hm) hx1.h)))))) (fun _ => (Within.refl _)))

theorem execLegTurnOnRelease_within {msk : Nat} (n : Fin 40) (s : State) (hm : 8830452760576 &&& msk = 8830452760576) :
    WithinOut msk s (execLegTurnOnRelease n s) := by
  unfold execLegTurnOnRelease
  lift_lets -useContext -merge -underBinder
  intro x0
  try clear_value x0
  exact withinOut_next (by
    split
    · refine within_ite (fun _ => ?_) (fun _ => ?_)
      · exact (State.setDown_within _ _ _ (msub rfl hm) (State.advSteps_within _ _ (msub rfl hm) (Within.refl _)))
      · exact (Within.refl _)
    · lift_lets -useContext -merge -underBinder
      intro x1
      try clear_value x1
      intro x2
      try clear_value x2
      refine within_ite (fun _ => ?_) (fun _ => ?_)
      · exact (State.setDown_within _ _ _ (msub rfl hm) (State.advSteps_within _ _ (msub rfl hm) (Within.refl _)))
      · exact (Within.refl _)
)

theorem State.reportWithheld_within {msk : Nat} {s00 : State} (s : State) (l : Lane) (code : Nat) (hm : 128 &&& msk = 128) (h0 : Within msk s00 s) :
    Within msk s00 (State.reportWithheld s l code) := by
  refine within_trans h0 ?_
  unfold State.reportWithheld
  exact (within_each _ _ (Within.refl _) (fun y0 y1 => (within_ite (fun _ => (by
    lift_lets -useContext -merge -underBinder
    intro x2
    have hx2 : Within msk y0 x2 := (within_set _ _ _ _ (fsub rfl hm) (Within.refl _))
    clear_value x2
    refine within_ite (fun _ => ?_) (fun _ => ?_)
    · exact (State.report_within _ _ _ _ _ (msub rfl hm) hx2)
    · exact hx2
)) (fun _ => (Within.refl _)))))

theorem execLegTurnOnWithhold_within {msk : Nat} (n : Fin 40) (s : State) (hm : 8830452760960 &&& msk = 8830452760960) :
    WithinOut msk s (execLegTurnOnWithhold n s) := by
  unfold execLegTurnOnWithhold
  lift_lets -useContext -merge -underBinder
  intro x0
  try clear_value x0
  exact withinOut_next (by
    split
    · exact (Within.refl _)
    · lift_lets -useContext -merge -underBinder
      intro x1
      try clear_value x1
      intro x2
      have hx2 : Within msk s x2 := (State.linkCount_within _ _ _ (msub rfl hm) (fsub rfl hm) (State.modLink_within _ _ _ (msub rfl hm) (State.advSteps_within _ _ (msub rfl hm) (Within.refl _))))
      clear_value x2
      refine within_ite (fun _ => ?_) (fun _ => ?_)
      · split
        · exact (State.reportWithheld_within _ _ _ (msub rfl hm) hx2)
        · exact hx2
      · exact (Within.refl _)
)

theorem execHenLow_within {msk : Nat} (g : Fin 8) (ns : Nat) (s : State) (hm : 4432406249472 &&& msk = 4432406249472) :
    WithinOut msk s (execHenLow g ns s) := by
  unfold execHenLow
  lift_lets -useContext -merge -underBinder
  intro x0
  try clear_value x0
  intro x1
  have hx1 : Within msk s x1 := (within_ite (fun _ => (Within.of_frame (Within.refl _) rfl rfl rfl (.inr rfl) (.inr rfl) (.inr ⟨rfl, rfl⟩) (.inr rfl) (.inr rfl) (.inr rfl) (.inr rfl) (.inl (bsub rfl hm)) (.inr ⟨rfl, rfl⟩))) (fun _ => (Within.refl _)))
  clear_value x1
  intro x2
  try clear_value x2
  intro x3
  have hx3 : Within msk s x3 := (Within.of_frame hx1 rfl rfl rfl (.inl (bsub rfl hm)) (.inr rfl) (.inr ⟨rfl, rfl⟩) (.inr rfl) (.inr rfl) (.inr rfl) (.inr rfl) (.inr rfl) (.inr ⟨rfl, rfl⟩))
  clear_value x3
  intro x4
  try clear_value x4
  intro x5
  try clear_value x5
  exact withinOut_next (within_ite (fun _ => (within_ite (fun _ => (State.groupSafe_within _ _ (msub rfl hm) (Within.of_frame hx3 rfl rfl rfl (.inl (bsub rfl hm)) (.inr rfl) (.inr ⟨rfl, rfl⟩) (.inr rfl) (.inr rfl) (.inr rfl) (.inr rfl) (.inr rfl) (.inr ⟨rfl, rfl⟩)))) (fun _ => hx3))) (fun _ => (Within.of_frame (Within.refl _) rfl rfl rfl (.inl (bsub rfl hm)) (.inr rfl) (.inr ⟨rfl, rfl⟩) (.inr rfl) (.inr rfl) (.inr rfl) (.inr rfl) (.inr rfl) (.inr ⟨rfl, rfl⟩))))

theorem State.clearGroup_within {msk : Nat} {s00 : State} (s : State) (g : Fin 8) (persist : List (Fin 40)) (hm : 171802886532 &&& msk = 171802886532) (h0 : Within msk s00 s) :
    Within msk s00 (State.clearGroup s g persist) := by
  refine within_trans h0 ?_
  unfold State.clearGroup
  lift_lets -useContext -merge -underBinder
  intro x0
  try clear_value x0
  intro x1
  have hx1 : Within msk s x1 := (within_each _ _ (Within.refl _) (fun _ _ => (State.modLink_within _ _ _ (msub rfl hm) (Within.refl _))))
  clear_value x1
  intro x4
  have hx4 : Within msk s x4 := (within_each _ _ hx1 (fun _ _ => (within_ite (fun _ => (State.tripSource_within _ _ _ _ (msub rfl hm) (within_inc _ _ _ _ _ (fsub rfl hm) (Within.refl _)))) (fun _ => (Within.refl _)))))
  clear_value x4
  exact (within_each _ _ hx4 (fun _ _ => (within_ite (fun _ => (State.stageFault_within _ _ _ (msub rfl hm) (Within.refl _))) (fun _ => (Within.refl _)))))

theorem execHenRelease_within {msk : Nat} (g : Fin 8) (ns : Nat) (persist : List (Fin 40)) (s : State) (hm : 171802886532 &&& msk = 171802886532) :
    WithinOut msk s (execHenRelease g ns persist s) := by
  unfold execHenRelease
  lift_lets -useContext -merge -underBinder
  intro x0
  try clear_value x0
  intro x1
  have hx1 : Within msk s x1 := (Within.of_frame (Within.refl _) rfl rfl rfl (.inl (bsub rfl hm)) (.inr rfl) (.inr ⟨rfl, rfl⟩) (.inr rfl) (.inr rfl) (.inr rfl) (.inr rfl) (.inr rfl) (.inr ⟨rfl, rfl⟩))
  clear_value x1
  intro x2
  have hx2 : Within msk s x2 := (within_ite (fun _ => (State.clearGroup_within _ _ _ (msub rfl hm) hx1)) (fun _ => hx1))
  clear_value x2
  intro x3
  try clear_value x3
  exact withinOut_next (within_ite (fun _ => (within_ite (fun _ => (State.groupApply_within _ _ (msub rfl hm) hx2)) (fun _ => hx2))) (fun _ => (Within.of_frame (Within.refl _) rfl rfl rfl (.inl (bsub rfl hm)) (.inr rfl) (.inr ⟨rfl, rfl⟩) (.inr rfl) (.inr rfl) (.inr rfl) (.inr rfl) (.inr rfl) (.inr ⟨rfl, rfl⟩))))

theorem execHlkTrainStart_within {msk : Nat} (l : Lane) (s : State) (hm : 34359738624 &&& msk = 34359738624) :
    WithinOut msk s (execHlkTrainStart l s) := by
  unfold execHlkTrainStart
  exact withinOut_next (within_ite (fun _ => (within_ite (fun _ => (State.trainBegin_within _ _ (msub rfl hm) (Within.refl _))) (fun _ => (within_wr _ _ _ _ _ (fsub rfl hm) (Within.refl _))))) (fun _ => (Within.refl _)))

theorem execHlkTrainAbort_within {msk : Nat} (l : Lane) (s : State) (hm : 34359738624 &&& msk = 34359738624) :
    WithinOut msk s (execHlkTrainAbort l s) := by
  unfold execHlkTrainAbort
  lift_lets -useContext -merge -underBinder
  intro x0
  have hx0 : Within msk s x0 := (within_each _ _ (Within.refl _) (fun _ _ => (within_ite (fun _ => (State.modLink_within _ _ _ (msub rfl hm) (Within.refl _))) (fun _ => (Within.refl _)))))
  clear_value x0
  exact withinOut_next (within_ite (fun _ => (State.trainEnd_within _ (msub rfl hm) (within_wr _ _ _ _ _ (fsub rfl hm) hx0))) (fun _ => (Within.refl _)))


end Sys2Proof.Machine
end

