-- ==== Sys2Proof/Laws/WithinPd.lean ====
section
/-!
SUPPORT. The operations of Machine/Pd.lean change nothing outside their masks (Laws/Within.lean).
-/
namespace Sys2Proof.Machine

theorem execPdGateError_within {msk : Nat} (l : Lane) (n : Fin 16) (hi : Bool) (v : BitVec 8) (s : State) (hm : 8796097216512 &&& msk = 8796097216512) :
    WithinOut msk s (execPdGateError l n hi v s) := by
  unfold execPdGateError
  lift_lets -useContext -merge -underBinder
  intro x0 x1
  try clear_value x1
  intro x2
  have hx2 : Within msk s x2 := (within_wr _ _ _ _ _ (by unfold vgFld; split <;> exact fsub rfl hm) (within_advTo _ (msub rfl hm) (Within.refl _)))
  clear_value x2
  exact withinOut_next (within_ite (fun _ => (State.irqOf_within _ _ _ _ _ (msub rfl hm) (fsub rfl hm) (within_clr _ _ _ _ (by split <;> exact fsub rfl hm) (within_inc _ _ _ _ _ (fsub rfl hm) (within_set _ _ _ _ (fsub rfl hm) hx2))))) (fun _ => (Within.refl _)))

theorem execPdTurnOnWithhold_within {msk : Nat} (l : Lane) (n : Fin 16) (hi : Bool) (s : State) (hm : 8933536170112 &&& msk = 8933536170112) :
    WithinOut msk s (execPdTurnOnWithhold l n hi s) := by
  unfold execPdTurnOnWithhold
  lift_lets -useContext -merge -underBinder
  intro x0 x1
  try clear_value x1
  intro x2
  try clear_value x2
  exact withinOut_next (within_ite (fun _ => (within_ite (fun _ => (within_inc _ _ _ _ _ (fsub rfl hm) (State.modHb_within _ _ _ _ (msub rfl hm) (State.pdOff_within _ _ _ _ (msub rfl hm) (State.pdOff_within _ _ _ _ (msub rfl hm) (Within.refl _)))))) (fun _ => (within_ite (fun _ => (State.reportWithheld_within _ _ _ (msub rfl hm) (within_inc _ _ _ _ _ (fsub rfl hm) (State.modHb_within _ _ _ _ (msub rfl hm) (State.advSteps_within _ _ (msub rfl hm) (Within.refl _)))))) (fun _ => (Within.refl _)))))) (fun _ => (Within.refl _)))

theorem State.pdRelease_within {msk : Nat} {s00 : State} (s : State) (l : Lane) (n : Fin 16) (hi : Bool) (hm : 8933536169984 &&& msk = 8933536169984) (h0 : Within msk s00 s) :
    Within msk s00 (State.pdRelease s l n hi) := by
  refine within_trans h0 ?_
  unfold State.pdRelease
  lift_lets -useContext -merge -underBinder
  intro x0
  try clear_value x0
  intro x1
  have hx1 : Within msk s x1 := (State.modHb_within _ _ _ _ (msub rfl hm) (Within.refl _))
  clear_value x1
  intro x2
  have hx2 : Within msk s x2 := (within_ite (fun _ => (State.pdOn_within _ _ _ _ (msub rfl hm) hx1)) (fun _ => hx1))
  clear_value x2
  intro x3
  try clear_value x3
  refine within_ite (fun _ => ?_) (fun _ => ?_)
  · exact (State.modHb_within _ _ _ _ (msub rfl hm) (State.pdOff_within _ _ _ _ (msub rfl hm) (within_advTo _ (msub rfl hm) (State.pdOn_within _ _ _ _ (msub rfl hm) (Within.refl _)))))
  · refine within_ite (fun _ => ?_) (fun _ => ?_)
    · refine within_ite (fun _ => ?_) (fun _ => ?_)
      · exact (State.pdOn_within _ _ _ _ (msub rfl hm) hx2)
      · exact hx2
    · refine within_ite (fun _ => ?_) (fun _ => ?_)
      · refine within_ite (fun _ => ?_) (fun _ => ?_)
        · exact (Within.refl _)
        · exact (State.pdOn_within _ _ _ _ (msub rfl hm) (State.advSteps_within _ _ (msub rfl hm) (State.modHb_within _ _ _ _ (msub rfl hm) (Within.refl _))))
      · exact (Within.refl _)

theorem execPdTurnOnRelease_within {msk : Nat} (l : Lane) (n : Fin 16) (hi : Bool) (v : BitVec 8) (held : Nat) (s : State) (hm : 8933536169984 &&& msk = 8933536169984) :
    WithinOut msk s (execPdTurnOnRelease l n hi v held s) := by
  unfold execPdTurnOnRelease
  lift_lets -useContext -merge -underBinder
  intro x0 x1
  have hx1 : Within msk s x1 := (within_wr _ _ _ _ _ (by unfold vgFld; split <;> exact fsub rfl hm) (Within.refl _))
  clear_value x1
  exact withinOut_next (within_ite (fun _ => (within_ite (fun _ => (State.pdRelease_within _ _ _ _ (msub rfl hm) hx1)) (fun _ => hx1))) (fun _ => (Within.refl _)))

theorem execBstUndervoltage_within {msk : Nat} (l : Lane) (n : Fin 16) (bst : BitVec 8) (s : State) (hm : 171802886276 &&& msk = 171802886276) :
    WithinOut msk s (execBstUndervoltage l n bst s) := by
  unfold execBstUndervoltage
  lift_lets -useContext -merge -underBinder
  intro x0 x1
  have hx1 : Within msk s x1 := (within_set _ _ _ _ (fsub rfl hm) (within_wr _ _ _ _ _ (fsub rfl hm) (Within.refl _)))
  clear_value x1
  intro x2
  have hx2 : Within msk s x2 := (State.modHb_within _ _ _ _ (msub rfl hm) (State.pdOff_within _ _ _ _ (msub rfl hm) hx1))
  clear_value x2
  exact withinOut_next (within_ite (fun _ => (State.pdFault_within _ _ _ (msub rfl hm) (within_set _ _ _ _ (fsub rfl hm) hx2))) (fun _ => (Within.refl _)))

theorem execBootstrapLow_within {msk : Nat} (l : Lane) (n : Fin 16) (bst : BitVec 8) (s : State) (hm : 4194304 &&& msk = 4194304) :
    WithinOut msk s (execBootstrapLow l n bst s) := by
  unfold execBootstrapLow
  lift_lets -useContext -merge -underBinder
  intro x0 x1
  try clear_value x1
  intro x2
  have hx2 : Within msk s x2 := (within_put _ _ _ _ _ (fsub rfl hm) (within_wr _ _ _ _ _ (fsub rfl hm) (Within.refl _)))
  clear_value x2
  exact withinOut_next (within_ite (fun _ => (within_ite (fun _ => (State.irqOf_within _ _ _ _ _ (msub rfl hm) (fsub rfl hm) (within_set _ _ _ _ (fsub rfl hm) hx2))) (fun _ => hx2))) (fun _ => (Within.refl _)))

theorem State.pdCleared_within {msk : Nat} {s00 : State} (s : State) (l : Lane) (n : Fin 16) (hm : 171802886276 &&& msk = 171802886276) (h0 : Within msk s00 s) :
    Within msk s00 (State.pdCleared s l n) := by
  refine within_trans h0 ?_
  unfold State.pdCleared
  lift_lets -useContext -merge -underBinder
  intro x0
  refine within_ite (fun _ => ?_) (fun _ => ?_)
  · exact (Within.refl _)
  · exact (State.tripSource_within _ _ _ _ (msub rfl hm) (within_wrBit _ _ _ _ _ (fsub rfl hm) (Within.refl _)))

theorem State.pdClear_within {msk : Nat} {s00 : State} (s : State) (l : Lane) (n : Fin 16) (short uv : Bool) (hm : 171802886276 &&& msk = 171802886276) (h0 : Within msk s00 s) :
    Within msk s00 (State.pdClear s l n short uv) := by
  refine within_trans h0 ?_
  unfold State.pdClear
  lift_lets -useContext -merge -underBinder
  intro x0 x1
  try clear_value x1
  intro x2
  have hx2 : Within msk s x2 := (within_ite (fun _ => (within_ite (fun _ => (within_set _ _ _ _ (fsub rfl hm) (Within.refl _))) (fun _ => (State.modHb_within _ _ _ _ (msub rfl hm) (within_clr _ _ _ _ (fsub rfl hm) (Within.refl _)))))) (fun _ => (Within.refl _)))
  clear_value x2
  intro x3
  have hx3 : Within msk s x3 := (within_ite (fun _ => (within_ite (fun _ => (within_set _ _ _ _ (fsub rfl hm) hx2)) (fun _ => (within_clr _ _ _ _ (fsub rfl hm) hx2)))) (fun _ => hx2))
  clear_value x3
  exact (State.pdCleared_within _ _ _ (msub rfl hm) hx3)

theorem execPdFaultClear_within {msk : Nat} (l : Lane) (n : Fin 16) (short uv : Bool) (s : State) (hm : 171802886276 &&& msk = 171802886276) :
    WithinOut msk s (execPdFaultClear l n short uv s) := by
  unfold execPdFaultClear
  exact withinOut_next (within_ite (fun _ => (State.pdClear_within _ _ _ _ _ (msub rfl hm) (Within.refl _))) (fun _ => (Within.refl _)))


end Sys2Proof.Machine
end

