-- ==== Sys2Proof/Laws/WithinPwm.lean ====
section
/-!
SUPPORT. The operations of Machine/Pwm.lean change nothing outside their masks (Laws/Within.lean).
-/
namespace Sys2Proof.Machine

theorem State.refreshPulses_within {msk : Nat} {s00 : State} (s : State) (l : Lane) (t : Fin 8) (hm : 137443147776 &&& msk = 137443147776) (h0 : Within msk s00 s) :
    Within msk s00 (State.refreshPulses s l t) := by
  refine within_trans h0 ?_
  unfold State.refreshPulses
  exact (within_each _ _ (Within.refl _) (fun y0 y1 => (by
    lift_lets -useContext -merge -underBinder
    intro x2
    try clear_value x2
    intro x3
    try clear_value x3
    refine within_ite (fun _ => ?_) (fun _ => ?_)
    · exact (within_inc _ _ _ _ _ (fsub rfl hm) (State.modHb_within _ _ _ _ (msub rfl hm) (State.pdOff_within _ _ _ _ (msub rfl hm) (Within.refl _))))
    · exact (Within.refl _)
)))

theorem State.releasePoint_within {msk : Nat} {s00 : State} (s : State) (l : Lane) (t : Fin 8) (hm : 171802886272 &&& msk = 171802886272) (h0 : Within msk s00 s) :
    Within msk s00 (State.releasePoint s l t) := by
  refine within_trans h0 ?_
  unfold State.releasePoint
  lift_lets -useContext -merge -underBinder
  intro x0
  have hx0 : Within msk s x0 := (within_each _ _ (Within.refl _) (fun y1 y2 => (by
    lift_lets -useContext -merge -underBinder
    intro x3
    try clear_value x3
    exact (within_when _ _ (Within.refl _) (fun _ => (State.releaseCh_within _ _ _ (msub rfl hm) (Within.refl _))))
)))
  clear_value x0
  exact (within_each _ _ hx0 (fun _ _ => (State.settleTg_within _ _ _ (msub rfl hm) (Within.refl _))))

theorem State.transferPoint_within {msk : Nat} {s00 : State} (s : State) (l : Lane) (t : Fin 8) (x : Int) (hm : 13434661896320 &&& msk = 13434661896320) (h0 : Within msk s00 s) :
    Within msk s00 (State.transferPoint s l t x) := by
  refine within_trans h0 ?_
  unfold State.transferPoint
  lift_lets -useContext -merge -underBinder
  intro x0 x1
  try clear_value x1
  intro x2
  try clear_value x2
  intro x3
  try clear_value x3
  intro x4
  have hx4 : Within msk s x4 := (State.event_within _ _ _ (msub rfl hm) (State.modTb_within _ _ _ _ (msub rfl hm) (State.advSteps_within _ _ (msub rfl hm) (State.fireDue_within _ _ _ _ (msub rfl hm) (Within.refl _)))))
  clear_value x4
  intro x5
  have hx5 : Within msk s x5 := (within_when _ _ hx4 (fun _ => (within_clr _ _ _ _ (fsub rfl hm) (Within.refl _))))
  clear_value x5
  intro x7
  try clear_value x7
  intro x8
  try clear_value x8
  intro x9
  try clear_value x9
  intro x10
  have hx10 : Within msk s x10 := (within_when _ _ hx5 (fun _ => (within_each _ _ (Within.refl _) (fun _ _ => (State.mirrorCh_within _ _ _ _ _ (msub rfl hm) (Within.refl _))))))
  clear_value x10
  intro x14
  have hx14 : Within msk s x14 := (within_when _ _ hx10 (fun _ => (State.transferSet_within _ _ _ (msub rfl hm) (Within.refl _))))
  clear_value x14
  intro x16
  have hx16 : Within msk s x16 := (within_when _ _ hx14 (fun _ => (State.irq_within _ _ _ _ (msub rfl hm) (fsub rfl hm) (within_inc _ _ _ _ _ (fsub rfl hm) (within_set _ _ _ _ (fsub rfl hm) (Within.refl _))))))
  clear_value x16
  intro x18
  have hx18 : Within msk s x18 := (State.releasePoint_within _ _ _ (msub rfl hm) hx16)
  clear_value x18
  intro x19
  have hx19 : Within msk s x19 := (within_each _ _ (State.nextPoint_within _ _ _ _ (msub rfl hm) hx18) (fun _ _ => (State.placeCh_within _ _ _ _ _ _ (msub rfl hm) (Within.refl _))))
  clear_value x19
  intro x22
  have hx22 : Within msk s x22 := (State.irq_within _ _ _ _ (msub rfl hm) (fsub rfl hm) (State.planEvents_within _ _ _ _ _ (msub rfl hm) hx19))
  clear_value x22
  exact (State.refreshPulses_within _ _ _ (msub rfl hm) (State.muxReport_within _ _ _ (msub rfl hm) hx22))

theorem execPwmTransferPoint_within {msk : Nat} (l : Lane) (t : Fin 8) (s : State) (hm : 13434661896320 &&& msk = 13434661896320) :
    WithinOut msk s (execPwmTransferPoint l t s) := by
  unfold execPwmTransferPoint
  exact withinOut_next (by
    split
    · refine within_ite (fun _ => ?_) (fun _ => ?_)
      · exact (State.transferPoint_within _ _ _ _ (msub rfl hm) (Within.refl _))
      · exact (Within.refl _)
    · exact (Within.refl _)
)

theorem execPwmCommit_within {msk : Nat} (l : Lane) (t : Fin 8) (s : State) (hm : 128 &&& msk = 128) :
    WithinOut msk s (execPwmCommit l t s) := by
  unfold execPwmCommit
  exact withinOut_next (within_ite (fun _ => (within_set _ _ _ _ (fsub rfl hm) (Within.refl _))) (fun _ => (Within.refl _)))

theorem execPwmDiscard_within {msk : Nat} (l : Lane) (t : Fin 8) (s : State) (hm : 128 &&& msk = 128) :
    WithinOut msk s (execPwmDiscard l t s) := by
  unfold execPwmDiscard
  lift_lets -useContext -merge -underBinder
  intro x0 x1
  have hx1 : Within msk s x1 := (within_wr _ _ _ _ _ (fsub rfl hm) (within_wr _ _ _ _ _ (fsub rfl hm) (Within.refl _)))
  clear_value x1
  intro x2
  have hx2 : Within msk s x2 := (within_each _ _ hx1 (fun _ _ => (within_ite (fun _ => (within_wr _ _ _ _ _ (fsub rfl hm) (within_wr _ _ _ _ _ (fsub rfl hm) (Within.refl _)))) (fun _ => (Within.refl _)))))
  clear_value x2
  exact withinOut_next (within_ite (fun _ => (within_clr _ _ _ _ (fsub rfl hm) (within_clr _ _ _ _ (fsub rfl hm) hx2))) (fun _ => (Within.refl _)))

theorem State.syncPhase_within {msk : Nat} {s00 : State} (s : State) (l : Lane) (t : Fin 8) (hm : 4398046511104 &&& msk = 4398046511104) (h0 : Within msk s00 s) :
    Within1 msk s00 (State.syncPhase s l t) := by
  refine within1_trans h0 ?_
  unfold State.syncPhase
  lift_lets -useContext -merge -underBinder
  intro x0 x1
  try clear_value x1
  intro x2
  have hx2 : Within1 msk s x2 := (State.roundQ_within _ _ _ (msub rfl hm) (Within.refl _))
  clear_value x2
  intro x3
  try clear_value x3
  intro x4
  have hx4 : Within msk s x4 := hx2.h
  clear_value x4
  refine within1_ite (fun _ => ?_) (fun _ => ?_)
  · exact ⟨Within.snd hx4⟩
  · exact ⟨Within.snd (Within.refl _)⟩

theorem State.syncLoad_within {msk : Nat} {s00 : State} (s : State) (l : Lane) (t : Fin 8) (hm : 4398046511232 &&& msk = 4398046511232) (h0 : Within msk s00 s) :
    Within msk s00 (State.syncLoad s l t) := by
  refine within_trans h0 ?_
  unfold State.syncLoad
  lift_lets -useContext -merge -underBinder
  intro x0
  have hx0 : Within1 msk s x0 := (State.syncPhase_within _ _ _ (msub rfl hm) (Within.refl _))
  clear_value x0
  intro x1
  try clear_value x1
  intro x2
  have hx2 : Within msk s x2 := hx0.h
  clear_value x2
  intro x3
  try clear_value x3
  intro x4
  try clear_value x4
  intro x5
  try clear_value x5
  intro x6
  have hx6 : Within msk s x6 := (State.modTb_within _ _ _ _ (msub rfl hm) hx2)
  clear_value x6
  refine within_ite (fun _ => ?_) (fun _ => ?_)
  · refine within_ite (fun _ => ?_) (fun _ => ?_)
    · exact hx6
    · exact (State.replaceTb_within _ _ _ (msub rfl hm) hx6)
  · exact (within_when _ _ (State.loadTb_within _ _ _ _ _ (msub rfl hm) hx6) (fun _ => (within_set _ _ _ _ (fsub rfl hm) (Within.refl _))))

theorem execPwmSyncLoad_within {msk : Nat} (l : Lane) (t : Fin 8) (s : State) (hm : 4398046511232 &&& msk = 4398046511232) :
    WithinOut msk s (execPwmSyncLoad l t s) := by
  unfold execPwmSyncLoad
  exact withinOut_next (within_ite (fun _ => (State.syncLoad_within _ _ _ (msub rfl hm) (State.modTb_within _ _ _ _ (msub rfl hm) (Within.refl _)))) (fun _ => (Within.refl _)))

theorem State.compareEvent_within {msk : Nat} {s00 : State} (s : State) (l : Lane) (c : Fin 64) (lv : Bool) (x : Int) (hm : 8967895908484 &&& msk = 8967895908484) (h0 : Within msk s00 s) :
    Within msk s00 (State.compareEvent s l c lv x) := by
  refine within_trans h0 ?_
  unfold State.compareEvent
  lift_lets -useContext -merge -underBinder
  intro x0
  have hx0 : Within msk s x0 := (State.advSteps_within _ _ (msub rfl hm) (Within.refl _))
  clear_value x0
  intro x1
  try clear_value x1
  refine within_ite (fun _ => ?_) (fun _ => ?_)
  · exact hx0
  · split
    · exact (State.overlap_within _ _ _ _ (msub rfl hm) hx0)
    · lift_lets -useContext -merge -underBinder
      intro x2
      try clear_value x2
      split
      · refine within_ite (fun _ => ?_) (fun _ => ?_)
        · exact (State.issue_within _ _ _ _ _ (msub rfl hm) (State.filtered_within _ _ _ (msub rfl hm) hx0))
        · exact (State.issue_within _ _ _ _ _ (msub rfl hm) hx0)
      · exact (State.issue_within _ _ _ _ _ (msub rfl hm) hx0)

theorem execPwmCompareEvent_within {msk : Nat} (l : Lane) (c : Fin 64) (on : Bool) (s : State) (hm : 8967895908484 &&& msk = 8967895908484) :
    WithinOut msk s (execPwmCompareEvent l c on s) := by
  unfold execPwmCompareEvent
  lift_lets -useContext -merge -underBinder
  intro x0
  try clear_value x0
  exact withinOut_next (within_ite (fun _ => (by
    split
    · exact (State.compareEvent_within _ _ _ _ _ (msub rfl hm) (State.modCh_within _ _ _ _ (msub rfl hm) (Within.refl _)))
    · split
      · exact (State.compareEvent_within _ _ _ _ _ (msub rfl hm) (State.modCh_within _ _ _ _ (msub rfl hm) (Within.refl _)))
      · exact (Within.refl _)
)) (fun _ => (Within.refl _)))

theorem State.engineEdge_within {msk : Nat} {s00 : State} (s : State) (l : Lane) (c : Fin 64) (x : Int) (lv : Bool) (hm : 8967895908484 &&& msk = 8967895908484) (h0 : Within msk s00 s) :
    Within msk s00 (State.engineEdge s l c x lv) := by
  refine within_trans h0 ?_
  unfold State.engineEdge
  lift_lets -useContext -merge -underBinder
  intro x0 x1
  have hx1 : Within msk s x1 := (State.advSteps_within _ _ (msub rfl hm) (Within.refl _))
  clear_value x1
  refine within_ite (fun _ => ?_) (fun _ => ?_)
  · exact (State.report_within _ _ _ _ _ (msub rfl hm) hx1)
  · split
    · exact (State.overlap_within _ _ _ _ (msub rfl hm) hx1)
    · lift_lets -useContext -merge -underBinder
      intro x2
      try clear_value x2
      split
      · refine within_ite (fun _ => ?_) (fun _ => ?_)
        · refine within_ite (fun _ => ?_) (fun _ => ?_)
          · exact (State.report_within _ _ _ _ _ (msub rfl hm) (State.issue_within _ _ _ _ _ (msub rfl hm) (State.filtered_within _ _ _ (msub rfl hm) hx1)))
          · exact (State.report_within _ _ _ _ _ (msub rfl hm) (State.filtered_within _ _ _ (msub rfl hm) hx1))
        · exact (State.report_within _ _ _ _ _ (msub rfl hm) (State.issue_within _ _ _ _ _ (msub rfl hm) hx1))
      · exact (State.report_within _ _ _ _ _ (msub rfl hm) (State.issue_within _ _ _ _ _ (msub rfl hm) hx1))

theorem execPwmEngineEdge_within {msk : Nat} (l : Lane) (c : Fin 64) (s : State) (hm : 8967895908484 &&& msk = 8967895908484) :
    WithinOut msk s (execPwmEngineEdge l c s) := by
  unfold execPwmEngineEdge
  exact withinOut_next (within_ite (fun _ => (by
    split
    · exact (State.engineEdge_within _ _ _ _ _ (msub rfl hm) (State.modCh_within _ _ _ _ (msub rfl hm) (Within.refl _)))
    · exact (Within.refl _)
)) (fun _ => (Within.refl _)))

theorem execPwmChannelEnable_within {msk : Nat} (l : Lane) (c : Fin 64) (en : Bool) (s : State) (hm : 171802886272 &&& msk = 171802886272) :
    WithinOut msk s (execPwmChannelEnable l c en s) := by
  unfold execPwmChannelEnable
  exact withinOut_next (within_ite (fun _ => (State.enableCh_within _ _ _ _ (msub rfl hm) (Within.refl _))) (fun _ => (Within.refl _)))

theorem execTripSourceActive_within {msk : Nat} (l : Lane) (src : Fin 64) (s : State) (hm : 171802886276 &&& msk = 171802886276) :
    WithinOut msk s (execTripSourceActive l src s) := by
  unfold execTripSourceActive
  exact withinOut_next (State.tripSource_within _ _ _ _ (msub rfl hm) (Within.refl _))

theorem execTripSourceInactive_within {msk : Nat} (l : Lane) (src : Fin 64) (s : State) (hm : 171802886276 &&& msk = 171802886276) :
    WithinOut msk s (execTripSourceInactive l src s) := by
  unfold execTripSourceInactive
  exact withinOut_next (State.tripSource_within _ _ _ _ (msub rfl hm) (Within.refl _))

theorem execPwmTgForce_within {msk : Nat} (l : Lane) (groups : BitVec 16) (s : State) (hm : 171802886276 &&& msk = 171802886276) :
    WithinOut msk s (execPwmTgForce l groups s) := by
  unfold execPwmTgForce
  exact withinOut_next (within_ite (fun _ => (within_each _ _ (Within.refl _) (fun _ _ => (within_when _ _ (Within.refl _) (fun _ => (State.raiseTg_within _ _ _ _ _ (msub rfl hm) (Within.refl _))))))) (fun _ => (Within.refl _)))

theorem execPwmTgClear_within {msk : Nat} (l : Lane) (groups : BitVec 16) (s : State) (hm : 171802886272 &&& msk = 171802886272) :
    WithinOut msk s (execPwmTgClear l groups s) := by
  unfold execPwmTgClear
  exact withinOut_next (within_ite (fun _ => (within_each _ _ (Within.refl _) (fun _ _ => (within_ite (fun _ => (within_ite (fun _ => (within_set _ _ _ _ (fsub rfl hm) (Within.refl _))) (fun _ => (State.clearTg_within _ _ _ (msub rfl hm) (Within.refl _))))) (fun _ => (Within.refl _)))))) (fun _ => (Within.refl _)))

theorem execBlankWindowClose_within {msk : Nat} (l : Lane) (b : Fin 16) (s : State) (hm : 8967895908484 &&& msk = 8967895908484) :
    WithinOut msk s (execBlankWindowClose l b s) := by
  unfold execBlankWindowClose
  exact withinOut_next (by
    split
    · exact (Within.refl _)
    · lift_lets -useContext -merge -underBinder
      intro x0 x1
      have hx1 : Within msk s x1 := (State.modPwm_within _ _ _ (msub rfl hm) (State.advSteps_within _ _ (msub rfl hm) (Within.refl _)))
      clear_value x1
      exact (within_each _ _ hx1 (fun _ _ => (within_when _ _ (Within.refl _) (fun _ => (State.reach_within _ _ _ (msub rfl hm) (Within.refl _))))))
)

theorem State.takeCh_within {msk : Nat} {s00 : State} (s : State) (l : Lane) (c : Fin 64) (hm : 240522363008 &&& msk = 240522363008) (h0 : Within msk s00 s) :
    Within msk s00 (State.takeCh s l c) := by
  refine within_trans h0 ?_
  unfold State.takeCh
  lift_lets -useContext -merge -underBinder
  intro x0
  try clear_value x0
  intro x1
  try clear_value x1
  intro x2
  try clear_value x2
  intro x3
  have hx3 : Within msk s x3 := (State.modCh_within _ _ _ _ (msub rfl hm) (within_set _ _ _ _ (fsub rfl hm) (Within.refl _)))
  clear_value x3
  intro x4
  try clear_value x4
  intro x5
  have hx5 : Within msk s x5 := (Within.of_frame hx3 rfl rfl rfl (.inr rfl) (.inl (bsub rfl hm)) (.inr ⟨rfl, rfl⟩) (.inr rfl) (.inr rfl) (.inr rfl) (.inr rfl) (.inr rfl) (.inr ⟨rfl, rfl⟩))
  clear_value x5
  exact (State.redrive_within _ _ _ (msub rfl hm) hx5)

theorem State.switchEnd_within {msk : Nat} {s00 : State} (s : State) (l : Lane) (hm : 4100 &&& msk = 4100) (h0 : Within msk s00 s) :
    Within msk s00 (State.switchEnd s l) := by
  refine within_trans h0 ?_
  unfold State.switchEnd
  lift_lets -useContext -merge -underBinder
  intro x0
  split
  · exact (Within.refl _)
  · lift_lets -useContext -merge -underBinder
    intro x1
    have hx1 : Within msk s x1 := (within_inc _ _ _ _ _ (fsub rfl hm) (within_put _ _ _ _ _ (fsub rfl hm) (within_put _ _ _ _ _ (fsub rfl hm) (within_put _ _ _ _ _ (fsub rfl hm) (Within.refl _)))))
    clear_value x1
    intro x2
    have hx2 : Within msk s x2 := (within_set _ _ _ _ (fsub rfl hm) (within_wrSat _ _ _ _ _ (fsub rfl hm) hx1))
    clear_value x2
    intro x3
    have hx3 : Within msk s x3 := (State.log_within _ _ _ _ (msub rfl hm) (State.irq_within _ _ _ _ (msub rfl hm) (fsub rfl hm) hx2))
    clear_value x3
    exact (within_modRun _ _ hx3 fun _ => ⟨rfl, rfl⟩)

theorem State.takeDone_within {msk : Nat} {s00 : State} (s : State) (l : Lane) (hm : 4228 &&& msk = 4228) (h0 : Within msk s00 s) :
    Within msk s00 (State.takeDone s l) := by
  refine within_trans h0 ?_
  unfold State.takeDone
  lift_lets -useContext -merge -underBinder
  intro x0 x1 x2
  try clear_value x2
  intro x3
  have hx3 : Within msk s x3 := (within_each _ _ (Within.refl _) (fun _ _ => (within_when _ _ (Within.refl _) (fun _ => (within_wrBit _ _ _ _ _ (fsub rfl hm) (Within.refl _))))))
  clear_value x3
  intro x7
  have hx7 : Within msk s x7 := (within_ite (fun _ => (State.irq_within _ _ _ _ (msub rfl hm) (fsub rfl hm) (within_wrSat _ _ _ _ _ (fsub rfl hm) hx3))) (fun _ => hx3))
  clear_value x7
  refine within_ite (fun _ => ?_) (fun _ => ?_)
  · exact (State.switchEnd_within _ _ (msub rfl hm) hx7)
  · exact hx7

theorem State.alignTb_within {msk : Nat} {s00 : State} (s : State) (l : Lane) (t : Fin 8) (hm : 128 &&& msk = 128) (h0 : Within msk s00 s) :
    Within msk s00 (State.alignTb s l t) := by
  refine within_trans h0 ?_
  unfold State.alignTb
  lift_lets -useContext -merge -underBinder
  intro x0 x1
  have hx1 : Within msk s x1 := by
    unfold x1
    split
    · exact (Within.refl _)
    · lift_lets -useContext -merge -underBinder
      intro x13
      try clear_value x13
      intro x14
      try clear_value x14
      intro x15
      try clear_value x15
      intro x16
      try clear_value x16
      intro x17
      try clear_value x17
      intro x18
      try clear_value x18
      intro x19
      try clear_value x19
      intro x20
      try clear_value x20
      intro x21
      have hx21 : Within msk s x21 := (State.modTb_within _ _ _ _ (msub rfl hm) (Within.refl _))
      clear_value x21
      intro x22
      have hx22 : Within msk s x22 := (within_ite (fun _ => (within_ite (fun _ => hx21) (fun _ => (State.replaceTb_within _ _ _ (msub rfl hm) hx21)))) (fun _ => (State.loadTb_within _ _ _ _ _ (msub rfl hm) hx21)))
      clear_value x22
      exact (within_when _ _ hx22 (fun _ => (within_set _ _ _ _ (fsub rfl hm) (Within.refl _))))
  clear_value x1
  exact (within_wrBit _ _ _ _ _ (fsub rfl hm) hx1)

theorem State.alignCh_within {msk : Nat} {s00 : State} (s : State) (l : Lane) (t : Fin 8) (c : Fin 64) (hm : 240522363072 &&& msk = 240522363072) (h0 : Within msk s00 s) :
    Within msk s00 (State.alignCh s l t c) := by
  refine within_trans h0 ?_
  unfold State.alignCh
  lift_lets -useContext -merge -underBinder
  intro x0
  refine within_ite (fun _ => ?_) (fun _ => ?_)
  · split
    · exact (State.takeCh_within _ _ _ (msub rfl hm) (Within.refl _))
    · lift_lets -useContext -merge -underBinder
      intro x1
      have hx1 : Within msk s x1 := (State.setLevel_within _ _ _ _ _ (msub rfl hm) (Within.refl _))
      clear_value x1
      intro x2
      have hx2 : Within msk s x2 := by
        unfold x2
        split
        · exact (State.bandTake_within _ _ _ _ (msub rfl hm) hx1)
        · exact hx1
      clear_value x2
      refine within_ite (fun _ => ?_) (fun _ => ?_)
      · exact (State.takeCh_within _ _ _ (msub rfl hm) (within_ite (fun _ => hx2) (fun _ => (State.follow_within _ _ _ _ (msub rfl hm) hx2))))
      · exact (Within.refl _)
  · exact (Within.refl _)

theorem execPwmGrantAlign_within {msk : Nat} (l : Lane) (s : State) (hm : 240522367172 &&& msk = 240522367172) :
    WithinOut msk s (execPwmGrantAlign l s) := by
  unfold execPwmGrantAlign
  lift_lets -useContext -merge -underBinder
  intro x0
  have hx0 : Within msk s x0 := (within_each _ _ (Within.refl _) (fun _ _ => (within_ite (fun _ => (within_each _ _ (State.alignTb_within _ _ _ (msub rfl hm) (Within.refl _)) (fun _ _ => (State.alignCh_within _ _ _ _ (msub rfl hm) (Within.refl _))))) (fun _ => (Within.refl _)))))
  clear_value x0
  intro x5
  have hx5 : Within msk s x5 := (within_when _ _ hx0 (fun _ => (within_wrSat _ _ _ _ _ (fsub rfl hm) (Within.refl _))))
  clear_value x5
  exact withinOut_next (within_ite (fun _ => (State.takeDone_within _ _ (msub rfl hm) hx5)) (fun _ => (Within.refl _)))

theorem execPwmTakeover_within {msk : Nat} (l : Lane) (c : Fin 64) (s : State) (hm : 240522367108 &&& msk = 240522367108) :
    WithinOut msk s (execPwmTakeover l c s) := by
  unfold execPwmTakeover
  lift_lets -useContext -merge -underBinder
  intro x0
  try clear_value x0
  exact withinOut_next (within_ite (fun _ => (State.takeDone_within _ _ (msub rfl hm) (State.takeCh_within _ _ _ (msub rfl hm) (Within.refl _)))) (fun _ => (Within.refl _)))

theorem execPwmLateTakeover_within {msk : Nat} (l : Lane) (c : Fin 64) (s : State) (hm : 9036615389316 &&& msk = 9036615389316) :
    WithinOut msk s (execPwmLateTakeover l c s) := by
  unfold execPwmLateTakeover
  lift_lets -useContext -merge -underBinder
  intro x0
  have hx0 : Within msk s x0 := (within_advTo _ (msub rfl hm) (Within.refl _))
  clear_value x0
  exact withinOut_next (within_ite (fun _ => (State.takeDone_within _ _ (msub rfl hm) (State.takeCh_within _ _ _ (msub rfl hm) (within_set _ _ _ _ (fsub rfl hm) hx0)))) (fun _ => (Within.refl _)))


end Sys2Proof.Machine
end

