-- ==== Sys2Proof/Laws/WithinStartOps.lean ====
section
/-!
SUPPORT. The operations of Machine/StartOps.lean change nothing outside their masks (Laws/Within.lean).
-/
namespace Sys2Proof.Machine

theorem State.modLamp_within {msk : Nat} {s00 : State} (s : State) (l : Lane) (f : LampRecord → LampRecord) (hm : 17179869184 &&& msk = 17179869184) (h0 : Within msk s00 s) :
    Within msk s00 (State.modLamp s l f) := by
  refine within_trans h0 ?_
  unfold State.modLamp
  exact (within_modNv _ _ (msub rfl hm) (Within.refl _))

theorem State.lampOutcome_within {msk : Nat} {s00 : State} (s : State) (l : Lane) (n code : Nat) (hm : 17179869184 &&& msk = 17179869184) (h0 : Within msk s00 s) :
    Within msk s00 (State.lampOutcome s l n code) := by
  refine within_trans h0 ?_
  unfold State.lampOutcome
  exact (State.modLamp_within _ _ _ (msub rfl hm) (Within.refl _))

theorem State.bootNext_within {msk : Nat} {s00 : State} (s : State) (l : Lane) (slot : Nat) (hm : 17179869186 &&& msk = 17179869186) (h0 : Within msk s00 s) :
    Within msk s00 (State.bootNext s l slot) := by
  refine within_trans h0 ?_
  unfold State.bootNext
  split
  · exact (Within.refl _)
  · refine within_ite (fun _ => ?_) (fun _ => ?_)
    · exact (within_wr _ _ _ _ _ (fsub rfl hm) (State.modLamp_within _ _ _ (msub rfl hm) (Within.refl _)))
    · exact (Within.refl _)


end Sys2Proof.Machine
end

