-- ==== Sys2Proof/Laws/WithinTherm.lean ====
section
/-!
SUPPORT. The operations of Machine/Therm.lean change nothing outside their masks (Laws/Within.lean).
-/
namespace Sys2Proof.Machine

theorem State.modThm_within {msk : Nat} {s00 : State} (s : State) (l : Lane) (f : ThmSt → ThmSt) (hm : 0 &&& msk = 0) (h0 : Within msk s00 s) :
    Within msk s00 (State.modThm s l f) := by
  refine within_trans h0 ?_
  unfold State.modThm
  exact (within_modRun _ _ (Within.refl _) fun _ => ⟨rfl, rfl⟩)

theorem State.ntcSample_within {msk : Nat} {s00 : State} (s : State) (l : Lane) (n ratio : Nat) (hm : 16384 &&& msk = 16384) (h0 : Within msk s00 s) :
    Within msk s00 (State.ntcSample s l n ratio) := by
  refine within_trans h0 ?_
  unfold State.ntcSample
  lift_lets -useContext -merge -underBinder
  intro x0 x1
  try clear_value x1
  intro x2
  try clear_value x2
  intro x3
  have hx3 : Within msk s x3 := (within_put _ _ _ _ _ (fsub rfl hm) (within_put _ _ _ _ _ (fsub rfl hm) (within_put _ _ _ _ _ (fsub rfl hm) (Within.refl _))))
  clear_value x3
  refine within_ite (fun _ => ?_) (fun _ => ?_)
  · refine within_ite (fun _ => ?_) (fun _ => ?_)
    · exact (within_set _ _ _ _ (fsub rfl hm) hx3)
    · exact (within_wrS _ _ _ _ _ (fsub rfl hm) hx3)
  · exact (within_clr _ _ _ _ (fsub rfl hm) (Within.refl _))

theorem State.thmRead_within {msk : Nat} {s00 : State} (s : State) (l : Lane) (m : ThmSample) (hm : 6307840 &&& msk = 6307840) (h0 : Within msk s00 s) :
    Within0 msk s00 (State.thmRead s l m) := by
  refine within0_trans h0 ?_
  unfold State.thmRead
  lift_lets -useContext -merge -underBinder
  intro x0 x1
  try clear_value x1
  intro x2
  try clear_value x2
  intro x3
  have hx3 : Within msk s x3 := (within_each _ _ (Within.refl _) (fun y4 y5 => (by
    split
    · exact (within_set _ _ _ _ (fsub rfl hm) (within_wrS _ _ _ _ _ (fsub rfl hm) (Within.refl _)))
    · exact (within_clr _ _ _ _ (fsub rfl hm) (Within.refl _))
)))
  clear_value x3
  intro x6
  have hx6 : Within msk s x6 := (within_each _ _ hx3 (fun _ _ => (within_set _ _ _ _ (fsub rfl hm) (within_wrS _ _ _ _ _ (fsub rfl hm) (Within.refl _)))))
  clear_value x6
  intro x9
  have hx9 : Within msk s x9 := (within_ite (fun _ => (within_wrS _ _ _ _ _ (fsub rfl hm) (within_wrS _ _ _ _ _ (fsub rfl hm) hx6))) (fun _ => hx6))
  clear_value x9
  intro x10
  have hx10 : Within msk s x10 := (within_each _ _ hx9 (fun _ _ => (State.ntcSample_within _ _ _ _ (msub rfl hm) (Within.refl _))))
  clear_value x10
  intro x13
  try clear_value x13
  exact ⟨Within.fst hx10⟩

theorem State.thmSeed_within {msk : Nat} {s00 : State} (s : State) (l : Lane) (rs : List (Nat × Int)) (hm : 16384 &&& msk = 16384) (h0 : Within msk s00 s) :
    Within msk s00 (State.thmSeed s l rs) := by
  refine within_trans h0 ?_
  unfold State.thmSeed
  refine within_ite (fun _ => ?_) (fun _ => ?_)
  · exact (Within.refl _)
  · split
    · exact (Within.refl _)
    · exact (State.modThm_within _ _ _ (msub rfl hm) (within_set _ _ _ _ (fsub rfl hm) (Within.refl _)))

theorem State.thmModel_within {msk : Nat} {s00 : State} (s : State) (l : Lane) (rs : List (Nat × Int)) (ts : Nat) (m : Fin 4) (hm : 4398046527488 &&& msk = 4398046527488) (h0 : Within msk s00 s) :
    Within0 msk s00 (State.thmModel s l rs ts m) := by
  refine within0_trans h0 ?_
  unfold State.thmModel
  lift_lets -useContext -merge -underBinder
  intro x0
  split
  · lift_lets -useContext -merge -underBinder
    intro x1
    try clear_value x1
    intro x2
    try clear_value x2
    intro x3
    try clear_value x3
    intro x4
    try clear_value x4
    intro x5
    have hx5 : Within1 msk s x5 := (State.quot_within _ _ _ (msub rfl hm) (Within.refl _))
    clear_value x5
    intro x6
    try clear_value x6
    intro x7
    have hx7 : Within msk s x7 := hx5.h
    clear_value x7
    intro x8
    have hx8 : Within msk s x8 := (State.modThm_within _ _ _ (msub rfl hm) hx7)
    clear_value x8
    intro x9
    have hx9 : Within1 msk s x9 := (State.quot_within _ _ _ (msub rfl hm) hx8)
    clear_value x9
    intro x10
    try clear_value x10
    intro x11
    have hx11 : Within msk s x11 := hx9.h
    clear_value x11
    refine within0_ite (fun _ => ?_) (fun _ => ?_)
    · exact ⟨Within.fst (within_wrS _ _ _ _ _ (fsub rfl hm) hx11)⟩
    · exact ⟨Within.fst (Within.refl _)⟩
  · exact ⟨Within.fst (Within.refl _)⟩

theorem State.thmModels_within {msk : Nat} {s00 : State} (s : State) (l : Lane) (rs : List (Nat × Int)) (ts : Nat)
    (hm : 4398046527488 &&& msk = 4398046527488) (h0 : Within msk s00 s) : Within0 msk s00 (s.thmModels l rs ts) := by
  unfold State.thmModels
  suffices h : ∀ (ks : List (Fin 4)) (a : State × List (Nat × Int)), Within msk s00 a.1 →
      Within0 msk s00 (ks.foldl (fun (a : State × List (Nat × Int)) (k : Fin 4) =>
        let b := a.1.thmModel l rs ts k
        (b.1, a.2 ++ b.2)) a) from h _ _ h0
  intro ks
  induction ks with
  | nil => exact fun a h => ⟨h⟩
  | cons k r ih => exact fun a h => ih _ (State.thmModel_within a.1 l rs ts k (msub rfl hm) h).h

theorem State.classK_within {msk : Nat} {s00 : State} (s : State) (l : Lane) (c : Nat) (t : Int) (hm : 4398046511104 &&& msk = 4398046511104) (h0 : Within msk s00 s) :
    Within1 msk s00 (State.classK s l c t) := by
  refine within1_trans h0 ?_
  unfold State.classK
  lift_lets -useContext -merge -underBinder
  intro x0
  try clear_value x0
  intro x1
  try clear_value x1
  refine within1_ite (fun _ => ?_) (fun _ => ?_)
  · exact ⟨Within.snd (Within.refl _)⟩
  · refine within1_ite (fun _ => ?_) (fun _ => ?_)
    · exact ⟨Within.snd (Within.refl _)⟩
    · exact (State.quot_within _ _ _ (msub rfl hm) (Within.refl _))

theorem State.kThm_within {msk : Nat} {s00 : State} (s : State) (l : Lane) (rs : List (Nat × Int)) (cs : List Nat)
    (best : Int × Nat) (hm : 4398046511104 &&& msk = 4398046511104) (h0 : Within msk s00 s) :
    Within1 msk s00 (s.kThm l rs cs best) := by
  induction cs generalizing s best with
  | nil => exact ⟨h0⟩
  | cons c r ih =>
    unfold State.kThm
    split
    · split
      · exact ih _ _ h0
      · exact ih _ _ (State.classK_within s l c _ (msub rfl hm) h0).h
    · exact ih _ _ h0

theorem State.throttle_within {msk : Nat} {s00 : State} (s : State) (l : Lane) (rs : List (Nat × Int)) (hm : 4398046527492 &&& msk = 4398046527492) (h0 : Within msk s00 s) :
    Within msk s00 (State.throttle s l rs) := by
  refine within_trans h0 ?_
  unfold State.throttle
  lift_lets -useContext -merge -underBinder
  intro x0 x1
  have hx1 : Within1 msk s x1 := (State.kThm_within _ _ _ _ _ (msub rfl hm) (Within.refl _))
  clear_value x1
  intro x2
  try clear_value x2
  intro x3
  have hx3 : Within msk s x3 := (within_wr _ _ _ _ _ (fsub rfl hm) (within_wr _ _ _ _ _ (fsub rfl hm) hx1.h))
  clear_value x3
  intro x4
  try clear_value x4
  intro x5
  have hx5 : Within msk s x5 := (within_put _ _ _ _ _ (fsub rfl hm) hx3)
  clear_value x5
  exact (within_when _ _ hx5 (fun _ => (State.logIf_within _ _ _ _ _ _ (msub rfl hm) (fsub rfl hm) (State.irq_within _ _ _ _ (msub rfl hm) (fsub rfl hm) (within_inc _ _ _ _ _ (fsub rfl hm) (within_set _ _ _ _ (fsub rfl hm) (Within.refl _)))))))

theorem State.thmWarn_within {msk : Nat} {s00 : State} (s : State) (l : Lane) (rs : List (Nat × Int)) (hm : 16384 &&& msk = 16384) (h0 : Within msk s00 s) :
    Within msk s00 (State.thmWarn s l rs) := by
  refine within_trans h0 ?_
  unfold State.thmWarn
  lift_lets -useContext -merge -underBinder
  intro x0 x1
  try clear_value x1
  intro x2 x3
  have hx3 : Within msk s x3 := (within_put _ _ _ _ _ (fsub rfl hm) (within_put _ _ _ _ _ (fsub rfl hm) (Within.refl _)))
  clear_value x3
  intro x4
  have hx4 : Within msk s x4 := (within_when _ _ hx3 (fun _ => (State.irq_within _ _ _ _ (msub rfl hm) (fsub rfl hm) (within_set _ _ _ _ (fsub rfl hm) (Within.refl _)))))
  clear_value x4
  exact (within_when _ _ hx4 (fun _ => (State.irq_within _ _ _ _ (msub rfl hm) (fsub rfl hm) (within_set _ _ _ _ (fsub rfl hm) (Within.refl _)))))

theorem State.thmFast_within {msk : Nat} {s00 : State} (s : State) (l : Lane) (rs : List (Nat × Int)) (hm : 16384 &&& msk = 16384) (h0 : Within msk s00 s) :
    Within msk s00 (State.thmFast s l rs) := by
  refine within_trans h0 ?_
  unfold State.thmFast
  lift_lets -useContext -merge -underBinder
  intro x0 x1 x2
  try clear_value x2
  intro x3
  try clear_value x3
  intro x4
  try clear_value x4
  intro x5
  have hx5 : Within msk s x5 := (State.modThm_within _ _ _ (msub rfl hm) (Within.refl _))
  clear_value x5
  refine within_ite (fun _ => ?_) (fun _ => ?_)
  · refine within_ite (fun _ => ?_) (fun _ => ?_)
    · exact hx5
    · exact (within_inc _ _ _ _ _ (fsub rfl hm) (within_set _ _ _ _ (fsub rfl hm) hx5))
  · split
    · refine within_ite (fun _ => ?_) (fun _ => ?_)
      · exact (within_clr _ _ _ _ (fsub rfl hm) hx5)
      · exact hx5
    · exact hx5

theorem State.thmTrim_within {msk : Nat} {s00 : State} (s : State) (l : Lane) (m : ThmSample) (hm : 274882101248 &&& msk = 274882101248) (h0 : Within msk s00 s) :
    Within msk s00 (State.thmTrim s l m) := by
  refine within_trans h0 ?_
  unfold State.thmTrim
  lift_lets -useContext -merge -underBinder
  intro x0
  have hx0 : Within msk s x0 := (State.modThm_within _ _ _ (msub rfl hm) (Within.refl _))
  clear_value x0
  intro x1
  have hx1 : Within msk s x1 := (within_set _ _ _ _ (fsub rfl hm) hx0)
  clear_value x1
  exact (within_when _ _ hx1 (fun _ => (within_modDep _ (msub rfl hm) (Within.refl _))))

theorem State.refTrimStep_within {msk : Nat} {s00 : State} (s : State) (l : Lane) (hm : 0 &&& msk = 0) (h0 : Within msk s00 s) :
    Within msk s00 (State.refTrimStep s l) := by
  refine within_trans h0 ?_
  unfold State.refTrimStep
  exact (State.modThm_within _ _ _ (msub rfl hm) (Within.refl _))

theorem execThmSample_within {msk : Nat} (l : Lane) (m : ThmSample) (s : State) (hm : 13469023748100 &&& msk = 13469023748100) :
    WithinOut msk s (execThmSample l m s) := by
  unfold execThmSample
  lift_lets -useContext -merge -underBinder
  intro x0 x1
  try clear_value x1
  intro x2
  have hx2 : Within msk s x2 := by
    unfold x2
    split
    · exact (State.modThm_within _ _ _ (msub rfl hm) (Within.refl _))
    · exact (within_advTo _ (msub rfl hm) (Within.refl _))
  clear_value x2
  intro x3
  have hx3 : Within0 msk s x3 := (State.thmRead_within _ _ _ (msub rfl hm) hx2)
  clear_value x3
  intro x4
  have hx4 : Within msk s x4 := (State.thmSeed_within _ _ _ (msub rfl hm) hx3.h)
  clear_value x4
  intro x5
  have hx5 : Within0 msk s x5 := (State.thmModels_within _ _ _ _ (msub rfl hm) hx4)
  clear_value x5
  intro x6
  try clear_value x6
  intro x7
  have hx7 : Within msk s x7 := hx5.h
  clear_value x7
  intro x8
  have hx8 : Within msk s x8 := by
    unfold x8
    split
    · exact (within_wr _ _ _ _ _ (fsub rfl hm) (within_wrS _ _ _ _ _ (fsub rfl hm) hx7))
    · exact hx7
  clear_value x8
  intro x9
  have hx9 : Within msk s x9 := by
    unfold x9
    split
    · exact (within_wr _ _ _ _ _ (fsub rfl hm) (within_wrS _ _ _ _ _ (fsub rfl hm) hx8))
    · exact hx8
  clear_value x9
  intro x10
  have hx10 : Within msk s x10 := (State.thmFast_within _ _ _ (msub rfl hm) (State.throttle_within _ _ _ (msub rfl hm) (State.thmWarn_within _ _ _ (msub rfl hm) hx9)))
  clear_value x10
  intro x11
  have hx11 : Within msk s x11 := (State.modThm_within _ _ _ (msub rfl hm) hx10)
  clear_value x11
  exact withinOut_next (within_ite (fun _ => (Within.refl _)) (fun _ => (State.thmTrim_within _ _ _ (msub rfl hm) hx11)))

theorem State.recordShut_within {msk : Nat} {s00 : State} (s : State) (l : Lane) (sensor : Nat) (hm : 4194304 &&& msk = 4194304) (h0 : Within msk s00 s) :
    Within msk s00 (State.recordShut s l sensor) := by
  refine within_trans h0 ?_
  unfold State.recordShut
  refine within_ite (fun _ => ?_) (fun _ => ?_)
  · exact (within_wr _ _ _ _ _ (fsub rfl hm) (within_inc _ _ _ _ _ (fsub rfl hm) (Within.refl _)))
  · exact (Within.refl _)

theorem State.islandShut_within {msk : Nat} {s00 : State} (s : State) (l : Lane) (sensor : Nat) (hm : 1632087572479 &&& msk = 1632087572479) (h0 : Within msk s00 s) :
    Within msk s00 (State.islandShut s l sensor) := by
  refine within_trans h0 ?_
  unfold State.islandShut
  lift_lets -useContext -merge -underBinder
  intro x0
  have hx0 : Within msk s x0 := (State.modPap_within _ _ _ (msub rfl hm) (State.recordShut_within _ _ _ (msub rfl hm) (Within.refl _)))
  clear_value x0
  intro x1
  have hx1 : Within msk s x1 := (State.windingsOff_within _ _ (msub rfl hm) (within_clr _ _ _ _ (fsub rfl hm) (within_clr _ _ _ _ (fsub rfl hm) (within_wr _ _ _ _ _ (fsub rfl hm) (within_clr _ _ _ _ (fsub rfl hm) hx0)))))
  clear_value x1
  refine within_ite (fun _ => ?_) (fun _ => ?_)
  · exact (State.modPap_within _ _ _ (msub rfl hm) (Within.refl _))
  · refine within_ite (fun _ => ?_) (fun _ => ?_)
    · exact (Within.refl _)
    · exact (State.islandFault_within _ _ _ (msub rfl hm) hx1)

theorem execThermalShutdown_within {msk : Nat} (sensor : HotSensor) (s : State) (hm : 1632087572479 &&& msk = 1632087572479) :
    WithinOut msk s (execThermalShutdown sensor s) := by
  unfold execThermalShutdown
  exact withinOut_next (by
    split
    · exact (State.islandShut_within _ _ _ (msub rfl hm) (Within.refl _))
    · lift_lets -useContext -merge -underBinder
      intro x0
      have hx0 : Within msk s x0 := (within_each _ _ (Within.refl _) (fun _ _ => (State.recordShut_within _ _ _ (msub rfl hm) (Within.refl _))))
      clear_value x0
      refine within_ite (fun _ => ?_) (fun _ => ?_)
      · exact (within_modDep _ (msub rfl hm) (State.depGone_within _ _ (msub rfl hm) hx0))
      · exact (within_modDep _ (msub rfl hm) (Within.refl _))
)

theorem execThermalRelease_within {msk : Nat} (isl : Option Lane) (s : State) (hm : 10307925704704 &&& msk = 10307925704704) :
    WithinOut msk s (execThermalRelease isl s) := by
  unfold execThermalRelease
  exact withinOut_next (by
    split
    · lift_lets -useContext -merge -underBinder
      intro x0
      have hx0 : Within msk s x0 := (State.modPap_within _ _ _ (msub rfl hm) (within_advTo _ (msub rfl hm) (Within.refl _)))
      clear_value x0
      intro x1
      have hx1 : Within msk s x1 := (within_wrBit _ _ _ _ _ (fsub rfl hm) (within_set _ _ _ _ (fsub rfl hm) (State.setSupplies_within _ _ _ (msub rfl hm) (State.setIsland_within _ _ _ (msub rfl hm) hx0))))
      clear_value x1
      refine within_ite (fun _ => ?_) (fun _ => ?_)
      · exact (within_set _ _ _ _ (fsub rfl hm) hx1)
      · exact (Within.refl _)
    · split
      · exact (within_modDep _ (msub rfl hm) (within_advTo _ (msub rfl hm) (Within.refl _)))
      · exact (Within.refl _)
)


end Sys2Proof.Machine
end

