-- ==== Sys2Proof/Laws/WithinBrake.lean ====
section
/-!
SUPPORT. The operations of Machine/Brake.lean change nothing outside their masks (Laws/Within.lean).
-/
namespace Sys2Proof.Machine

theorem State.modClamp_within {msk : Nat} {s00 : State} (s : State) (l : Lane) (f : ClampSt → ClampSt) (hm : 137438953472 &&& msk = 137438953472) (h0 : Within msk s00 s) :
    Within msk s00 (State.modClamp s l f) := by
  refine within_trans h0 ?_
  unfold State.modClamp
  exact (State.modPap_within _ _ _ (msub rfl hm) (Within.refl _))

theorem State.windGates_within {msk : Nat} {s00 : State} (s : State) (l : Lane) (mask : Nat) (hm : 137443147776 &&& msk = 137443147776) (h0 : Within msk s00 s) :
    Within msk s00 (State.windGates s l mask) := by
  refine within_trans h0 ?_
  unfold State.windGates
  lift_lets -useContext -merge -underBinder
  intro x0 x1
  have hx1 : Within msk s x1 := (State.modPap_within _ _ _ (msub rfl hm) (Within.refl _))
  clear_value x1
  exact (within_each _ _ hx1 (fun _ _ => (within_put _ _ _ _ _ (fsub rfl hm) (within_clr _ _ _ _ (fsub rfl hm) (Within.refl _)))))

theorem State.showDuty_within {msk : Nat} {s00 : State} (s : State) (l : Lane) (hm : 4398050705408 &&& msk = 4398050705408) (h0 : Within msk s00 s) :
    Within msk s00 (State.showDuty s l) := by
  refine within_trans h0 ?_
  unfold State.showDuty
  lift_lets -useContext -merge -underBinder
  intro x0
  try clear_value x0
  intro x1
  have hx1 : Within1 msk s x1 := (State.quot_within _ _ _ (msub rfl hm) (Within.refl _))
  clear_value x1
  exact (within_wr _ _ _ _ _ (fsub rfl hm) hx1.h)

theorem State.windOff_within {msk : Nat} {s00 : State} (s : State) (l : Lane) (m : Nat) (hm : 137443147776 &&& msk = 137443147776) (h0 : Within msk s00 s) :
    Within msk s00 (State.windOff s l m) := by
  refine within_trans h0 ?_
  unfold State.windOff
  lift_lets -useContext -merge -underBinder
  intro x0 x1
  have hx1 : Within msk s x1 := (State.modPap_within _ _ _ (msub rfl hm) (Within.refl _))
  clear_value x1
  exact (within_each _ _ hx1 (fun _ _ => (within_ite (fun _ => (within_clr _ _ _ _ (fsub rfl hm) (within_clr _ _ _ _ (fsub rfl hm) (Within.refl _)))) (fun _ => (Within.refl _)))))

theorem State.brakeEnd_within {msk : Nat} {s00 : State} (s : State) (l : Lane) (hm : 137443147776 &&& msk = 137443147776) (h0 : Within msk s00 s) :
    Within msk s00 (State.brakeEnd s l) := by
  refine within_trans h0 ?_
  unfold State.brakeEnd
  refine within_ite (fun _ => ?_) (fun _ => ?_)
  · exact (State.modClamp_within _ _ _ (msub rfl hm) (within_clr _ _ _ _ (fsub rfl hm) (within_clr _ _ _ _ (fsub rfl hm) (State.windOff_within _ _ _ (msub rfl hm) (Within.refl _)))))
  · exact (Within.refl _)

theorem execClampCommand_within {msk : Nat} (l : Lane) (s : State) (hm : 13331582681088 &&& msk = 13331582681088) :
    WithinOut msk s (execClampCommand l s) := by
  unfold execClampCommand
  lift_lets -useContext -merge -underBinder
  intro x0 x1
  try clear_value x1
  intro x2
  have hx2 : Within msk s x2 := (within_inc _ _ _ _ _ (fsub rfl hm) (State.brakeEnd_within _ _ (msub rfl hm) (within_advTo _ (msub rfl hm) (Within.refl _))))
  clear_value x2
  intro x3
  try clear_value x3
  intro x4
  have hx4 : Within msk s x4 := by
    unfold x4
    split
    · lift_lets -useContext -merge -underBinder
      intro x6
      try clear_value x6
      exact (State.windGates_within _ _ _ (msub rfl hm) (within_wr _ _ _ _ _ (fsub rfl hm) (State.modClamp_within _ _ _ (msub rfl hm) hx2)))
    · exact (State.windGates_within _ _ _ (msub rfl hm) (within_wr _ _ _ _ _ (fsub rfl hm) (State.modClamp_within _ _ _ (msub rfl hm) hx2)))
  clear_value x4
  exact withinOut_next (within_ite (fun _ => (State.actSync_within _ _ (msub rfl hm) (State.showDuty_within _ _ (msub rfl hm) (within_set _ _ _ _ (fsub rfl hm) (within_set _ _ _ _ (fsub rfl hm) hx4))))) (fun _ => (Within.refl _)))

theorem State.clampWithdraw_within {msk : Nat} {s00 : State} (s : State) (l : Lane) (hm : 137445244928 &&& msk = 137445244928) (h0 : Within msk s00 s) :
    Within msk s00 (State.clampWithdraw s l) := by
  refine within_trans h0 ?_
  unfold State.clampWithdraw
  lift_lets -useContext -merge -underBinder
  intro x0 x1
  have hx1 : Within msk s x1 := (State.modClamp_within _ _ _ (msub rfl hm) (within_clr _ _ _ _ (by unfold clampFld; split <;> exact fsub rfl hm) (Within.refl _)))
  clear_value x1
  intro x2
  have hx2 : Within msk s x2 := (State.modClamp_within _ _ _ (msub rfl hm) (State.windGates_within _ _ _ (msub rfl hm) hx1))
  clear_value x2
  refine within_ite (fun _ => ?_) (fun _ => ?_)
  · exact (State.actSync_within _ _ (msub rfl hm) (within_clr _ _ _ _ (fsub rfl hm) (within_wr _ _ _ _ _ (fsub rfl hm) (within_wr _ _ _ _ _ (fsub rfl hm) (within_clr _ _ _ _ (fsub rfl hm) hx2)))))
  · exact hx1

theorem execClampApplyEnd_within {msk : Nat} (l : Lane) (s : State) (hm : 13331582681088 &&& msk = 13331582681088) :
    WithinOut msk s (execClampApplyEnd l s) := by
  unfold execClampApplyEnd
  exact withinOut_next (by
    split
    · lift_lets -useContext -merge -underBinder
      intro x0
      have hx0 : Within msk s x0 := (State.modClamp_within _ _ _ (msub rfl hm) (within_advTo _ (msub rfl hm) (Within.refl _)))
      clear_value x0
      exact (State.showDuty_within _ _ (msub rfl hm) (within_wr _ _ _ _ _ (fsub rfl hm) hx0))
    · exact (Within.refl _)
)

theorem execClampDefaultStep_within {msk : Nat} (l : Lane) (s : State) (hm : 13331582681088 &&& msk = 13331582681088) :
    WithinOut msk s (execClampDefaultStep l s) := by
  unfold execClampDefaultStep
  exact withinOut_next (within_ite (fun _ => (State.showDuty_within _ _ (msub rfl hm) (State.modClamp_within _ _ _ (msub rfl hm) (within_advTo _ (msub rfl hm) (Within.refl _))))) (fun _ => (Within.refl _)))

theorem State.takeClampFrame_within {msk : Nat} {s00 : State} (s : State) (l : Lane) (b : List Nat) (hm : 137445244928 &&& msk = 137445244928) (h0 : Within msk s00 s) :
    Within msk s00 (State.takeClampFrame s l b) := by
  refine within_trans h0 ?_
  unfold State.takeClampFrame
  lift_lets -useContext -merge -underBinder
  intro x0 x1 x2
  have hx2 : Within msk s x2 := (within_wr _ _ _ _ _ (fsub rfl hm) (within_wr _ _ _ _ _ (fsub rfl hm) (within_wr _ _ _ _ _ (fsub rfl hm) (within_wr _ _ _ _ _ (fsub rfl hm) (Within.refl _)))))
  clear_value x2
  intro x3
  have hx3 : Within msk s x3 := (within_wr _ _ _ _ _ (fsub rfl hm) (within_wr _ _ _ _ _ (fsub rfl hm) (within_wr _ _ _ _ _ (fsub rfl hm) hx2)))
  clear_value x3
  refine within_ite (fun _ => ?_) (fun _ => ?_)
  · exact (within_set _ _ _ _ (by unfold frameOkFld; split <;> exact fsub rfl hm) (within_inc _ _ _ _ _ (fsub rfl hm) (within_set _ _ _ _ (fsub rfl hm) (State.modClamp_within _ _ _ (msub rfl hm) hx3))))
  · exact (Within.refl _)

theorem execClampConfigFrame_within {msk : Nat} (l : Lane) (flips : List (BitVec 8)) (s : State) (hm : 412323151872 &&& msk = 412323151872) :
    WithinOut msk s (execClampConfigFrame l flips s) := by
  unfold execClampConfigFrame
  exact withinOut_next (within_ite (fun _ => (State.takeClampFrame_within _ _ _ (msub rfl hm) (within_modDep _ (msub rfl hm) (Within.refl _)))) (fun _ => (Within.refl _)))

theorem execClampDutyRecompute_within {msk : Nat} (l : Lane) (vact : Nat) (s : State) (hm : 4535489658880 &&& msk = 4535489658880) :
    WithinOut msk s (execClampDutyRecompute l vact s) := by
  unfold execClampDutyRecompute
  lift_lets -useContext -merge -underBinder
  intro x0
  have hx0 : Within msk s x0 := (within_wrSat _ _ _ _ _ (fsub rfl hm) (Within.refl _))
  clear_value x0
  exact withinOut_next (within_ite (fun _ => (by
    split
    · exact (State.showDuty_within _ _ (msub rfl hm) (State.modClamp_within _ _ _ (msub rfl hm) hx0))
    · exact hx0
)) (fun _ => (Within.refl _)))

theorem State.brakeGates_within {msk : Nat} {s00 : State} (s : State) (l : Lane) (m : Nat) (hm : 137443147776 &&& msk = 137443147776) (h0 : Within msk s00 s) :
    Within msk s00 (State.brakeGates s l m) := by
  refine within_trans h0 ?_
  unfold State.brakeGates
  lift_lets -useContext -merge -underBinder
  intro x0 x1
  have hx1 : Within msk s x1 := (State.modPap_within _ _ _ (msub rfl hm) (Within.refl _))
  clear_value x1
  exact (within_each _ _ hx1 (fun _ _ => (within_ite (fun _ => (within_put _ _ _ _ _ (fsub rfl hm) (within_clr _ _ _ _ (fsub rfl hm) (Within.refl _)))) (fun _ => (Within.refl _)))))

theorem execBrkApply_within {msk : Nat} (l : Lane) (s : State) (hm : 137443147777 &&& msk = 137443147777) :
    WithinOut msk s (execBrkApply l s) := by
  unfold execBrkApply
  lift_lets -useContext -merge -underBinder
  intro x0 x1
  try clear_value x1
  intro x2
  try clear_value x2
  intro x3
  have hx3 : Within msk s x3 := (within_inc _ _ _ _ _ (fsub rfl hm) (within_set _ _ _ _ (fsub rfl hm) (within_clr _ _ _ _ (fsub rfl hm) (within_set _ _ _ _ (fsub rfl hm) (Within.refl _)))))
  clear_value x3
  exact withinOut_next (within_ite (fun _ => (Within.refl _)) (fun _ => (within_ite (fun _ => (State.accessError_within _ _ _ _ _ _ (msub rfl hm) (Within.refl _))) (fun _ => (within_ite (fun _ => (Within.refl _)) (fun _ => (State.brakeGates_within _ _ _ (msub rfl hm) (State.modClamp_within _ _ _ (msub rfl hm) hx3))))))))

theorem execBrkRelease_within {msk : Nat} (l : Lane) (s : State) (hm : 171802886145 &&& msk = 171802886145) :
    WithinOut msk s (execBrkRelease l s) := by
  unfold execBrkRelease
  lift_lets -useContext -merge -underBinder
  intro x0
  exact withinOut_next (within_ite (fun _ => (Within.refl _)) (fun _ => (within_ite (fun _ => (State.accessError_within _ _ _ _ _ _ (msub rfl hm) (Within.refl _))) (fun _ => (within_ite (fun _ => (within_set _ _ _ _ (fsub rfl hm) (Within.refl _))) (fun _ => (State.redriveAll_within _ _ (msub rfl hm) (State.brakeEnd_within _ _ (msub rfl hm) (Within.refl _)))))))))

theorem execBrkLoopUpdate_within {msk : Nat} (l : Lane) (currents : List Nat) (s : State) (hm : 4535489658880 &&& msk = 4535489658880) :
    WithinOut msk s (execBrkLoopUpdate l currents s) := by
  unfold execBrkLoopUpdate
  lift_lets -useContext -merge -underBinder
  intro x0 x1
  try clear_value x1
  intro x2
  try clear_value x2
  intro x3
  try clear_value x3
  intro x4
  have hx4 : Within1 msk s x4 := (within1_free _ (msub rfl hm) (Within.refl _))
  clear_value x4
  intro x5
  try clear_value x5
  intro x6
  try clear_value x6
  intro x7
  have hx7 : Within msk s x7 := (State.modClamp_within _ _ _ (msub rfl hm) hx4.h)
  clear_value x7
  exact withinOut_next (within_ite (fun _ => (within_wrSat _ _ _ _ _ (fsub rfl hm) (within_when _ _ hx7 (fun _ => (within_set _ _ _ _ (fsub rfl hm) (Within.refl _)))))) (fun _ => (Within.refl _)))

theorem execBrkAtForce_within {msk : Nat} (l : Lane) (s : State) (hm : 8796097216512 &&& msk = 8796097216512) :
    WithinOut msk s (execBrkAtForce l s) := by
  unfold execBrkAtForce
  exact withinOut_next (by
    split
    · refine within_ite (fun _ => ?_) (fun _ => ?_)
      · exact (within_set _ _ _ _ (fsub rfl hm) (within_advTo _ (msub rfl hm) (Within.refl _)))
      · exact (Within.refl _)
    · exact (Within.refl _)
)


end Sys2Proof.Machine
end

