-- ==== Sys2Proof/Laws/WithinVrcOps.lean ====
section
/-!
SUPPORT. The operations of Machine/VrcOps.lean change nothing outside their masks (Laws/Within.lean).
-/
namespace Sys2Proof.Machine

theorem State.modVrc_within {msk : Nat} {s00 : State} (s : State) (l : Lane) (f : VrcSt → VrcSt) (hm : 137438953472 &&& msk = 137438953472) (h0 : Within msk s00 s) :
    Within msk s00 (State.modVrc s l f) := by
  refine within_trans h0 ?_
  unfold State.modVrc
  exact (State.modPap_within _ _ _ (msub rfl hm) (Within.refl _))

theorem State.setShed_within {msk : Nat} {s00 : State} (s : State) (l : Lane) (st : Nat) (hm : 137443147776 &&& msk = 137443147776) (h0 : Within msk s00 s) :
    Within msk s00 (State.setShed s l st) := by
  refine within_trans h0 ?_
  unfold State.setShed
  lift_lets -useContext -merge -underBinder
  intro x0 x1
  try clear_value x1
  exact (within_each _ _ (State.modVrc_within _ _ _ (msub rfl hm) (within_wr _ _ _ _ _ (fsub rfl hm) (Within.refl _))) (fun _ _ => (within_put _ _ _ _ _ (fsub rfl hm) (Within.refl _))))

theorem State.vrcRestore_within {msk : Nat} {s00 : State} (s : State) (l : Lane) (hm : 137443147776 &&& msk = 137443147776) (h0 : Within msk s00 s) :
    Within msk s00 (State.vrcRestore s l) := by
  refine within_trans h0 ?_
  unfold State.vrcRestore
  lift_lets -useContext -merge -underBinder
  intro x0
  try clear_value x0
  intro x1
  have hx1 : Within msk s x1 := (within_when _ _ (Within.refl _) (fun _ => (within_inc _ _ _ _ _ (fsub rfl hm) (Within.refl _))))
  clear_value x1
  refine within_ite (fun _ => ?_) (fun _ => ?_)
  · exact (State.setShed_within _ _ _ (msub rfl hm) hx1)
  · exact (Within.refl _)

theorem State.owe_within {msk : Nat} {s00 : State} (s : State) (l : Lane) (f : RailFrame) (hm : 137438953472 &&& msk = 137438953472) (h0 : Within msk s00 s) :
    Within msk s00 (State.owe s l f) := by
  refine within_trans h0 ?_
  unfold State.owe
  exact (State.modVrc_within _ _ _ (msub rfl hm) (Within.refl _))

theorem State.retarget_within {msk : Nat} {s00 : State} (s : State) (l : Lane) (target : Nat) (tag : Option Nat) (hm : 137443147776 &&& msk = 137443147776) (h0 : Within msk s00 s) :
    Within msk s00 (State.retarget s l target tag) := by
  refine within_trans h0 ?_
  unfold State.retarget
  lift_lets -useContext -merge -underBinder
  intro x0
  try clear_value x0
  intro x1
  try clear_value x1
  intro x2
  have hx2 : Within msk s x2 := (within_wr _ _ _ _ _ (fsub rfl hm) (State.modVrc_within _ _ _ (msub rfl hm) (Within.refl _)))
  clear_value x2
  refine within_ite (fun _ => ?_) (fun _ => ?_)
  · exact (State.vrcRestore_within _ _ (msub rfl hm) hx2)
  · exact hx2

theorem State.vrcStart_within {msk : Nat} {s00 : State} (s : State) (l : Lane) (hm : 137443147776 &&& msk = 137443147776) (h0 : Within msk s00 s) :
    Within msk s00 (State.vrcStart s l) := by
  refine within_trans h0 ?_
  unfold State.vrcStart
  lift_lets -useContext -merge -underBinder
  intro x0
  try clear_value x0
  intro x1
  have hx1 : Within msk s x1 := (State.modVrc_within _ _ _ (msub rfl hm) (Within.refl _))
  clear_value x1
  exact (State.setShed_within _ _ _ (msub rfl hm) (within_wr _ _ _ _ _ (fsub rfl hm) hx1))

theorem State.popOwed_within {msk : Nat} {s00 : State} (s : State) (l : Lane) (hm : 137438953472 &&& msk = 137438953472) (h0 : Within msk s00 s) :
    Within msk s00 (State.popOwed s l) := by
  refine within_trans h0 ?_
  unfold State.popOwed
  exact (State.modVrc_within _ _ _ (msub rfl hm) (Within.refl _))


end Sys2Proof.Machine
end

