-- ==== Sys2Proof/Laws/WithinPower.lean ====
section
/-!
SUPPORT. The operations of Machine/Power.lean change nothing outside their masks (Laws/Within.lean).
-/
namespace Sys2Proof.Machine

theorem State.modPwr_within {msk : Nat} {s00 : State} (s : State) (l : Lane) (f : PwrSt → PwrSt) (hm : 0 &&& msk = 0) (h0 : Within msk s00 s) :
    Within msk s00 (State.modPwr s l f) := by
  refine within_trans h0 ?_
  unfold State.modPwr
  exact (within_modRun _ _ (Within.refl _) fun _ => ⟨rfl, rfl⟩)

theorem State.vddResult_within {msk : Nat} {s00 : State} (s : State) (l : Lane) (code id : Nat) (hm : 1 &&& msk = 1) (h0 : Within msk s00 s) :
    Within msk s00 (State.vddResult s l code id) := by
  refine within_trans h0 ?_
  unfold State.vddResult
  lift_lets -useContext -merge -underBinder
  intro x0
  exact (within_wr _ _ _ _ _ (fsub rfl hm) (within_put _ _ _ _ _ (fsub rfl hm) (within_wr _ _ _ _ _ (fsub rfl hm) (Within.refl _))))

theorem execVddGo_within {msk : Nat} (l : Lane) (who : Initiator) (s : State) (hm : 5 &&& msk = 5) :
    WithinOut msk s (execVddGo l who s) := by
  unfold execVddGo
  lift_lets -useContext -merge -underBinder
  intro x0 x1
  try clear_value x1
  intro x2
  try clear_value x2
  intro x3
  have hx3 : Within1 msk s x3 := (State.submit_within _ _ _ _ _ _ _ _ (msub rfl hm) (Within.refl _))
  clear_value x3
  exact withinOut_next (within_ite (fun _ => (Within.refl _)) (fun _ => (within_ite (fun _ => (State.vddResult_within _ _ _ _ (msub rfl hm) (Within.refl _))) (fun _ => (within_ite (fun _ => (State.vddResult_within _ _ _ _ (msub rfl hm) (Within.refl _))) (fun _ => (within_ite (fun _ => (State.vddResult_within _ _ _ _ (msub rfl hm) (Within.refl _))) (fun _ => (State.vddResult_within _ _ _ _ (msub rfl hm) hx3.h)))))))))

theorem State.beginWake_within {msk : Nat} {s00 : State} (s : State) (l : Lane) (tim dep : Bool) (hm : 1 &&& msk = 1) (h0 : Within msk s00 s) :
    Within msk s00 (State.beginWake s l tim dep) := by
  refine within_trans h0 ?_
  unfold State.beginWake
  lift_lets -useContext -merge -underBinder
  intro x0 x1
  have hx1 : Within msk s x1 := (within_clr _ _ _ _ (fsub rfl hm) (within_clr _ _ _ _ (fsub rfl hm) (within_clr _ _ _ _ (fsub rfl hm) (within_clr _ _ _ _ (fsub rfl hm) (Within.refl _)))))
  clear_value x1
  intro x2
  have hx2 : Within msk s x2 := (within_wr _ _ _ _ _ (fsub rfl hm) (within_set _ _ _ _ (fsub rfl hm) (within_when _ _ (within_when _ _ hx1 (fun _ => (within_set _ _ _ _ (fsub rfl hm) (Within.refl _)))) (fun _ => (within_set _ _ _ _ (fsub rfl hm) (Within.refl _))))))
  clear_value x2
  exact (State.modPwr_within _ _ _ (msub rfl hm) hx2)

theorem State.railHeard_within {msk : Nat} {s00 : State} (s : State) (l : Lane) (hm : 137438953472 &&& msk = 137438953472) (h0 : Within msk s00 s) :
    Within msk s00 (State.railHeard s l) := by
  refine within_trans h0 ?_
  unfold State.railHeard
  exact (State.modVrc_within _ _ _ (msub rfl hm) (Within.refl _))

theorem State.takeSet_within {msk : Nat} {s00 : State} (s : State) (l : Lane) (id target : Nat) (hm : 137443147776 &&& msk = 137443147776) (h0 : Within msk s00 s) :
    Within msk s00 (State.takeSet s l id target) := by
  refine within_trans h0 ?_
  unfold State.takeSet
  lift_lets -useContext -merge -underBinder
  intro x0
  try clear_value x0
  intro x1
  have hx1 : Within msk s x1 := by
    unfold x1
    split
    · exact (State.owe_within _ _ _ (msub rfl hm) (Within.refl _))
    · exact (Within.refl _)
  clear_value x1
  refine within_ite (fun _ => ?_) (fun _ => ?_)
  · exact (Within.refl _)
  · exact (State.retarget_within _ _ _ _ (msub rfl hm) hx1)

theorem State.takeNap_within {msk : Nat} {s00 : State} (s : State) (l : Lane) (hm : 137443147776 &&& msk = 137443147776) (h0 : Within msk s00 s) :
    Within msk s00 (State.takeNap s l) := by
  refine within_trans h0 ?_
  unfold State.takeNap
  lift_lets -useContext -merge -underBinder
  intro x0
  have hx0 : Within msk s x0 := (State.retarget_within _ _ _ _ (msub rfl hm) (State.modVrc_within _ _ _ (msub rfl hm) (Within.refl _)))
  clear_value x0
  intro x1
  try clear_value x1
  refine within_ite (fun _ => ?_) (fun _ => ?_)
  · exact (Within.refl _)
  · refine within_ite (fun _ => ?_) (fun _ => ?_)
    · exact (State.setShed_within _ _ _ (msub rfl hm) hx0)
    · refine within_ite (fun _ => ?_) (fun _ => ?_)
      · exact (State.setShed_within _ _ _ (msub rfl hm) hx0)
      · exact hx0

theorem State.takeWake_within {msk : Nat} {s00 : State} (s : State) (l : Lane) (code : Nat) (hm : 137443147776 &&& msk = 137443147776) (h0 : Within msk s00 s) :
    Within msk s00 (State.takeWake s l code) := by
  refine within_trans h0 ?_
  unfold State.takeWake
  lift_lets -useContext -merge -underBinder
  intro x0
  have hx0 : Within msk s x0 := (within_clr _ _ _ _ (fsub rfl hm) (State.modVrc_within _ _ _ (msub rfl hm) (Within.refl _)))
  clear_value x0
  refine within_ite (fun _ => ?_) (fun _ => ?_)
  · exact (State.retarget_within _ _ _ _ (msub rfl hm) (State.vrcRestore_within _ _ (msub rfl hm) hx0))
  · exact (Within.refl _)

theorem State.ctrlTake_within {msk : Nat} {s00 : State} (s : State) (l : Lane) (w : Nat) (hm : 137443147776 &&& msk = 137443147776) (h0 : Within msk s00 s) :
    Within msk s00 (State.ctrlTake s l w) := by
  refine within_trans h0 ?_
  unfold State.ctrlTake
  lift_lets -useContext -merge -underBinder
  intro x0
  have hx0 : Within msk s x0 := (State.modVrc_within _ _ _ (msub rfl hm) (State.railHeard_within _ _ (msub rfl hm) (Within.refl _)))
  clear_value x0
  intro x1
  try clear_value x1
  refine within_ite (fun _ => ?_) (fun _ => ?_)
  · refine within_ite (fun _ => ?_) (fun _ => ?_)
    · exact (State.takeSet_within _ _ _ _ (msub rfl hm) hx0)
    · refine within_ite (fun _ => ?_) (fun _ => ?_)
      · exact (State.takeNap_within _ _ (msub rfl hm) hx0)
      · refine within_ite (fun _ => ?_) (fun _ => ?_)
        · exact (State.takeWake_within _ _ _ (msub rfl hm) hx0)
        · exact hx0
  · exact (State.modVrc_within _ _ _ (msub rfl hm) (Within.refl _))

theorem State.endSet_within {msk : Nat} {s00 : State} (s : State) (l : Lane) (id : Nat) (code : OutcomeCode) (hm : 4 &&& msk = 4) (h0 : Within msk s00 s) :
    Within msk s00 (State.endSet s l id code) := by
  refine within_trans h0 ?_
  unfold State.endSet
  lift_lets -useContext -merge -underBinder
  intro x0
  have hx0 : Within msk s x0 := (State.modPwr_within _ _ _ (msub rfl hm) (Within.refl _))
  clear_value x0
  split
  · exact (State.post_within _ _ _ _ (msub rfl hm) hx0)
  · exact hx0

theorem State.wakeEnd_within {msk : Nat} {s00 : State} (s : State) (l : Lane) (hm : 1 &&& msk = 1) (h0 : Within msk s00 s) :
    Within msk s00 (State.wakeEnd s l) := by
  refine within_trans h0 ?_
  unfold State.wakeEnd
  lift_lets -useContext -merge -underBinder
  intro x0 x1
  have hx1 : Within msk s x1 := (within_set _ _ _ _ (fsub rfl hm) (within_set _ _ _ _ (fsub rfl hm) (within_set _ _ _ _ (fsub rfl hm) (within_set _ _ _ _ (fsub rfl hm) (Within.refl _)))))
  clear_value x1
  intro x2
  have hx2 : Within msk s x2 := (within_wr _ _ _ _ _ (fsub rfl hm) (within_clr _ _ _ _ (fsub rfl hm) (within_wr _ _ _ _ _ (fsub rfl hm) (within_wrSat _ _ _ _ _ (fsub rfl hm) hx1))))
  clear_value x2
  intro x3
  have hx3 : Within msk s x3 := (within_modRun _ _ (State.modPwr_within _ _ _ (msub rfl hm) hx2) fun _ => ⟨rfl, rfl⟩)
  clear_value x3
  exact (State.irq_within _ _ _ _ (msub rfl hm) (fsub rfl hm) hx3)

theorem State.napEnd_within {msk : Nat} {s00 : State} (s : State) (l : Lane) (hm : 1 &&& msk = 1) (h0 : Within msk s00 s) :
    Within msk s00 (State.napEnd s l) := by
  refine within_trans h0 ?_
  unfold State.napEnd
  lift_lets -useContext -merge -underBinder
  intro x0 x1
  have hx1 : Within msk s x1 := (State.modPwr_within _ _ _ (msub rfl hm) (within_clr _ _ _ _ (fsub rfl hm) (Within.refl _)))
  clear_value x1
  split
  · exact (State.beginWake_within _ _ _ _ (msub rfl hm) hx1)
  · exact hx1

theorem State.laneHeard_within {msk : Nat} {s00 : State} (s : State) (l : Lane) (rxOk : Bool) (hm : 1 &&& msk = 1) (h0 : Within msk s00 s) :
    Within msk s00 (State.laneHeard s l rxOk) := by
  refine within_trans h0 ?_
  unfold State.laneHeard
  exact (State.modPwr_within _ _ _ (msub rfl hm) (within_set _ _ _ _ (fsub rfl hm) (Within.refl _)))

theorem State.laneTake_within {msk : Nat} {s00 : State} (s : State) (l : Lane) (w : Nat) (hm : 5 &&& msk = 5) (h0 : Within msk s00 s) :
    Within msk s00 (State.laneTake s l w) := by
  refine within_trans h0 ?_
  unfold State.laneTake
  lift_lets -useContext -merge -underBinder
  intro x0 x1
  try clear_value x1
  intro x2
  try clear_value x2
  intro x3
  have hx3 : Within msk s x3 := (State.modPwr_within _ _ _ (msub rfl hm) (State.laneHeard_within _ _ _ (msub rfl hm) (Within.refl _)))
  clear_value x3
  intro x4
  try clear_value x4
  intro x5
  have hx5 : Within msk s x5 := (within_wr _ _ _ _ _ (fsub rfl hm) hx3)
  clear_value x5
  intro x6
  have hx6 : Within msk s x6 := (within_wr _ _ _ _ _ (fsub rfl hm) hx3)
  clear_value x6
  refine within_ite (fun _ => ?_) (fun _ => ?_)
  · exact (Within.refl _)
  · refine within_ite (fun _ => ?_) (fun _ => ?_)
    · exact (State.modPwr_within _ _ _ (msub rfl hm) (within_inc _ _ _ _ _ (fsub rfl hm) (Within.refl _)))
    · refine within_ite (fun _ => ?_) (fun _ => ?_)
      · refine within_ite (fun _ => ?_) (fun _ => ?_)
        · exact (State.wakeEnd_within _ _ (msub rfl hm) hx5)
        · exact (State.endSet_within _ _ _ _ (msub rfl hm) hx5)
      · refine within_ite (fun _ => ?_) (fun _ => ?_)
        · exact (State.endSet_within _ _ _ _ (msub rfl hm) (within_inc _ _ _ _ _ (fsub rfl hm) (within_wr _ _ _ _ _ (fsub rfl hm) hx3)))
        · refine within_ite (fun _ => ?_) (fun _ => ?_)
          · refine within_ite (fun _ => ?_) (fun _ => ?_)
            · exact (State.napEnd_within _ _ (msub rfl hm) hx6)
            · exact hx6
          · refine within_ite (fun _ => ?_) (fun _ => ?_)
            · exact (within_wr _ _ _ _ _ (fsub rfl hm) (within_wr _ _ _ _ _ (fsub rfl hm) (within_wr _ _ _ _ _ (fsub rfl hm) hx3)))
            · exact hx3

theorem State.ctrlSend_within {msk : Nat} {s00 : State} (s : State) (l : Lane) (type tag payload : Nat) (flip : BitVec 32) (hm : 137438953477 &&& msk = 137438953477) (h0 : Within msk s00 s) :
    Within msk s00 (State.ctrlSend s l type tag payload flip) := by
  refine within_trans h0 ?_
  unfold State.ctrlSend
  lift_lets -useContext -merge -underBinder
  intro x0
  try clear_value x0
  intro x1
  have hx1 : Within msk s x1 := (State.modVrc_within _ _ _ (msub rfl hm) (within_when _ _ (Within.refl _) (fun _ => (State.railHeard_within _ _ (msub rfl hm) (Within.refl _)))))
  clear_value x1
  exact (State.laneTake_within _ _ _ (msub rfl hm) hx1)

theorem execRlkSet_within {msk : Nat} (l : Lane) (flip : BitVec 32) (s : State) (hm : 137443147777 &&& msk = 137443147777) :
    WithinOut msk s (execRlkSet l flip s) := by
  unfold execRlkSet
  exact withinOut_next (by
    split
    · exact (Within.refl _)
    · split
      · lift_lets -useContext -merge -underBinder
        intro x0
        have hx0 : Within msk s x0 := (within_wr _ _ _ _ _ (fsub rfl hm) (State.setEnt_within _ _ _ _ (msub rfl hm) (Within.refl _)))
        clear_value x0
        intro x1
        have hx1 : Within msk s x1 := (State.modPwr_within _ _ _ (msub rfl hm) hx0)
        clear_value x1
        refine within_ite (fun _ => ?_) (fun _ => ?_)
        · exact (Within.refl _)
        · exact (State.ctrlTake_within _ _ _ (msub rfl hm) hx1)
      · exact (Within.refl _)
)

theorem execRlkAck_within {msk : Nat} (l : Lane) (flip : BitVec 32) (s : State) (hm : 137438953477 &&& msk = 137438953477) :
    WithinOut msk s (execRlkAck l flip s) := by
  unfold execRlkAck
  exact withinOut_next (by
    split
    · exact (State.ctrlSend_within _ _ _ _ _ _ (msub rfl hm) (State.popOwed_within _ _ (msub rfl hm) (Within.refl _)))
    · exact (Within.refl _)
)

theorem execRlkSuperseded_within {msk : Nat} (l : Lane) (flip : BitVec 32) (s : State) (hm : 137438953477 &&& msk = 137438953477) :
    WithinOut msk s (execRlkSuperseded l flip s) := by
  unfold execRlkSuperseded
  exact withinOut_next (by
    split
    · exact (State.ctrlSend_within _ _ _ _ _ _ (msub rfl hm) (State.popOwed_within _ _ (msub rfl hm) (Within.refl _)))
    · exact (Within.refl _)
)

theorem execRlkStatus_within {msk : Nat} (l : Lane) (flip : BitVec 32) (s : State) (hm : 137438953477 &&& msk = 137438953477) :
    WithinOut msk s (execRlkStatus l flip s) := by
  unfold execRlkStatus
  exact withinOut_next (within_ite (fun _ => (State.ctrlSend_within _ _ _ _ _ _ (msub rfl hm) (State.modVrc_within _ _ _ (msub rfl hm) (Within.refl _)))) (fun _ => (Within.refl _)))

theorem execRlkLoss_within {msk : Nat} (l : Lane) (controller : Bool) (s : State) (hm : 8933536169989 &&& msk = 8933536169989) :
    WithinOut msk s (execRlkLoss l controller s) := by
  unfold execRlkLoss
  lift_lets -useContext -merge -underBinder
  intro x0 x1
  have hx1 : Within msk s x1 := (within_advTo _ (msub rfl hm) (Within.refl _))
  clear_value x1
  intro x2
  have hx2 : Within msk s x2 := (within_inc _ _ _ _ _ (fsub rfl hm) (within_set _ _ _ _ (fsub rfl hm) (within_clr _ _ _ _ (fsub rfl hm) hx1)))
  clear_value x2
  intro x3
  have hx3 : Within msk s x3 := (within_each _ _ hx2 (fun _ _ => (State.post_within _ _ _ _ (msub rfl hm) (Within.refl _))))
  clear_value x3
  exact withinOut_next (within_ite (fun _ => (within_ite (fun _ => (State.modVrc_within _ _ _ (msub rfl hm) (within_set _ _ _ _ (fsub rfl hm) (within_advTo _ (msub rfl hm) (Within.refl _))))) (fun _ => (Within.refl _)))) (fun _ => (within_ite (fun _ => (State.modPwr_within _ _ _ (msub rfl hm) hx3)) (fun _ => (Within.refl _)))))

theorem execPwrIdle_within {msk : Nat} (l : Lane) (s : State) (hm : 1 &&& msk = 1) :
    WithinOut msk s (execPwrIdle l s) := by
  unfold execPwrIdle
  exact withinOut_next (within_ite (fun _ => (within_wr _ _ _ _ _ (fsub rfl hm) (Within.refl _))) (fun _ => (Within.refl _)))

theorem execIdleInterrupt_within {msk : Nat} (l : Lane) (s : State) (hm : 1 &&& msk = 1) :
    WithinOut msk s (execIdleInterrupt l s) := by
  unfold execIdleInterrupt
  exact withinOut_next (within_ite (fun _ => (within_wr _ _ _ _ _ (fsub rfl hm) (Within.refl _))) (fun _ => (Within.refl _)))

theorem State.refuseEntry_within {msk : Nat} {s00 : State} (s : State) (l : Lane) (code : Nat) (aborted : Bool) (hm : 1 &&& msk = 1) (h0 : Within msk s00 s) :
    Within msk s00 (State.refuseEntry s l code aborted) := by
  refine within_trans h0 ?_
  unfold State.refuseEntry
  lift_lets -useContext -merge -underBinder
  intro x0
  exact (State.irq_within _ _ _ _ (msub rfl hm) (fsub rfl hm) (within_put _ _ _ _ _ (fsub rfl hm) (within_wr _ _ _ _ _ (fsub rfl hm) (within_inc _ _ _ _ _ (fsub rfl hm) (Within.refl _)))))

theorem execPwrNap_within {msk : Nat} (l : Lane) (nvmBusy : Bool) (abort : Fin 9) (s : State) (hm : 1 &&& msk = 1) :
    WithinOut msk s (execPwrNap l nvmBusy abort s) := by
  unfold execPwrNap
  lift_lets -useContext -merge -underBinder
  intro x0 x1
  try clear_value x1
  intro x2
  try clear_value x2
  exact withinOut_next (within_ite (fun _ => (within_ite (fun _ => (State.refuseEntry_within _ _ _ _ (msub rfl hm) (Within.refl _))) (fun _ => (within_ite (fun _ => (State.refuseEntry_within _ _ _ _ (msub rfl hm) (Within.refl _))) (fun _ => (State.modPwr_within _ _ _ (msub rfl hm) (within_wr _ _ _ _ _ (fsub rfl hm) (within_wr _ _ _ _ _ (fsub rfl hm) (within_set _ _ _ _ (fsub rfl hm) (Within.refl _)))))))))) (fun _ => (Within.refl _)))

theorem execRlkNap_within {msk : Nat} (l : Lane) (flip : BitVec 32) (s : State) (hm : 137443147776 &&& msk = 137443147776) :
    WithinOut msk s (execRlkNap l flip s) := by
  unfold execRlkNap
  exact withinOut_next (within_ite (fun _ => (State.ctrlTake_within _ _ _ (msub rfl hm) (Within.refl _))) (fun _ => (Within.refl _)))

theorem execRlkNapDone_within {msk : Nat} (l : Lane) (flip : BitVec 32) (s : State) (hm : 8933536169989 &&& msk = 8933536169989) :
    WithinOut msk s (execRlkNapDone l flip s) := by
  unfold execRlkNapDone
  exact withinOut_next (within_ite (fun _ => (State.ctrlSend_within _ _ _ _ _ _ (msub rfl hm) (within_set _ _ _ _ (fsub rfl hm) (within_advTo _ (msub rfl hm) (Within.refl _))))) (fun _ => (Within.refl _)))

theorem execNapWake_within {msk : Nat} (l : Lane) (tim : Option (Fin 8)) (s : State) (hm : 1 &&& msk = 1) :
    WithinOut msk s (execNapWake l tim s) := by
  unfold execNapWake
  lift_lets -useContext -merge -underBinder
  intro x0 x1
  try clear_value x1
  exact withinOut_next (within_ite (fun _ => (Within.refl _)) (fun _ => (by
    split
    · exact (State.beginWake_within _ _ _ _ (msub rfl hm) (Within.refl _))
    · exact (State.modPwr_within _ _ _ (msub rfl hm) (Within.refl _))
    · exact (Within.refl _)
)))

theorem execRlkWake_within {msk : Nat} (l : Lane) (flip : BitVec 32) (s : State) (hm : 137443147776 &&& msk = 137443147776) :
    WithinOut msk s (execRlkWake l flip s) := by
  unfold execRlkWake
  exact withinOut_next (within_ite (fun _ => (State.ctrlTake_within _ _ _ (msub rfl hm) (Within.refl _))) (fun _ => (Within.refl _)))


end Sys2Proof.Machine
end

