-- ==== Sys2Proof/Laws/WithinLaneLinkOps.lean ====
section
/-!
SUPPORT. The operations of Machine/LaneLinkOps.lean change nothing outside their masks (Laws/Within.lean).
-/
namespace Sys2Proof.Machine

theorem State.frame_within {msk : Nat} {s00 : State} (s : State) (l : Lane) (flips : List (BitVec 8)) (rank type frag : Nat) (payload : List Nat) (ready : Bool) (sent got : State → State) (hm : 4096 &&& msk = 4096) (h0 : Within msk s00 s)
    (hf8 : ∀ y0, Within msk y0 (sent y0))
    (hf9 : ∀ y0, Within msk y0 (got y0)) :
    Within msk s00 (State.frame s l flips rank type frag payload ready sent got) := by
  refine within_trans h0 ?_
  unfold State.frame
  lift_lets -useContext -merge -underBinder
  intro x0 x1
  try clear_value x1
  intro x2
  have hx2 : Within msk s x2 := (within_trans (State.modLnk_within _ _ _ (msub rfl hm) (Within.refl _)) (hf8 _))
  clear_value x2
  intro x3
  try clear_value x3
  refine within_ite (fun _ => ?_) (fun _ => ?_)
  · refine within_ite (fun _ => ?_) (fun _ => ?_)
    · exact (within_trans (State.modLnk_within _ _ _ (msub rfl hm) (within_inc _ _ _ _ _ (fsub rfl hm) hx2)) (hf9 _))
    · exact (within_inc _ _ _ _ _ (fsub rfl hm) hx2)
  · exact (Within.refl _)

theorem State.linkCheck_within {msk : Nat} {s00 : State} (s : State) (hm : 4096 &&& msk = 4096) (h0 : Within msk s00 s) :
    Within msk s00 (State.linkCheck s) := by
  refine within_trans h0 ?_
  unfold State.linkCheck
  lift_lets -useContext -merge -underBinder
  intro x0
  refine within_ite (fun _ => ?_) (fun _ => ?_)
  · exact (within_set _ _ _ _ (fsub rfl hm) (within_set _ _ _ _ (fsub rfl hm) (Within.refl _)))
  · exact (Within.refl _)

theorem State.stateGot_within {msk : Nat} {s00 : State} (s : State) (l : Lane) (hm : 2101248 &&& msk = 2101248) (h0 : Within msk s00 s) :
    Within msk s00 (State.stateGot s l) := by
  refine within_trans h0 ?_
  unfold State.stateGot
  lift_lets -useContext -merge -underBinder
  intro x0
  try clear_value x0
  intro x1
  have hx1 : Within msk s x1 := (State.modLnk_within _ _ _ (msub rfl hm) (Within.refl _))
  clear_value x1
  intro x2
  have hx2 : Within msk s x2 := (within_modRun _ _ hx1 fun _ => ⟨rfl, rfl⟩)
  clear_value x2
  intro x3
  have hx3 : Within msk s x3 := (State.linkCheck_within _ (msub rfl hm) (within_set _ _ _ _ (fsub rfl hm) hx2))
  clear_value x3
  refine within_ite (fun _ => ?_) (fun _ => ?_)
  · exact (State.modLnk_within _ _ _ (msub rfl hm) (State.setRole_within _ _ _ (msub rfl hm) hx3))
  · exact hx3

theorem State.applySlots_within {msk : Nat} {s00 : State} (s : State) (l : Lane) (own new : List (Nat × Nat)) (replace : Bool) (hm : 0 &&& msk = 0) (h0 : Within msk s00 s) :
    Within msk s00 (State.applySlots s l own new replace) := by
  refine within_trans h0 ?_
  unfold State.applySlots
  exact (within_each _ _ (Within.refl _) (fun y0 y1 => (by
    split
    · exact (Within.refl _)
    · lift_lets -useContext -merge -underBinder
      intro x2
      try clear_value x2
      intro x3
      try clear_value x3
      exact (State.modArith_within _ _ _ _ (msub rfl hm) (Within.refl _))
)))

theorem State.motFollow_within {msk : Nat} {s00 : State} (s : State) (l : Lane) (m : Fin 2) (hm : 171802886852 &&& msk = 171802886852) (h0 : Within msk s00 s) :
    Within msk s00 (State.motFollow s l m) := by
  refine within_trans h0 ?_
  unfold State.motFollow
  lift_lets -useContext -merge -underBinder
  intro x0
  try clear_value x0
  intro x1
  have hx1 : Within msk s x1 := (within_ite (fun _ => (State.motWithdraw_within _ _ _ (msub rfl hm) (State.motHold_within _ _ _ _ (msub rfl hm) (Within.refl _)))) (fun _ => (within_ite (fun _ => (State.motWithdraw_within _ _ _ (msub rfl hm) (State.motOverride_within _ _ _ _ (msub rfl hm) (Within.refl _)))) (fun _ => (within_ite (fun _ => (within_ite (fun _ => (Within.refl _)) (fun _ => (State.motForce_within _ _ _ (msub rfl hm) (Within.refl _))))) (fun _ => (Within.refl _)))))))
  clear_value x1
  exact (State.motSync_within _ _ _ (msub rfl hm) hx1)

theorem State.applyRest_within {msk : Nat} {s00 : State} (s : State) (l : Lane) (c : CopySet) (hm : 176097855172 &&& msk = 176097855172) (h0 : Within msk s00 s) :
    Within msk s00 (State.applyRest s l c) := by
  refine within_trans h0 ?_
  unfold State.applyRest
  lift_lets -useContext -merge -underBinder
  intro x0 x1
  intro x2 x3
  have hx3 : Within msk s x3 := (within_each _ _ (Within.refl _) (fun y4 y5 => (by
    lift_lets -useContext -merge -underBinder
    intro x6
    try clear_value x6
    intro x7
    have hx7 : Within msk y4 x7 := (within_wr _ _ _ _ _ (fsub rfl hm) (within_wr _ _ _ _ _ (fsub rfl hm) (within_wr _ _ _ _ _ (fsub rfl hm) (within_wr _ _ _ _ _ (fsub rfl hm) (Within.refl _)))))
    clear_value x7
    intro x8
    have hx8 : Within msk y4 x8 := (State.modMach_within _ _ _ _ (msub rfl hm) hx7)
    clear_value x8
    refine within_ite (fun _ => ?_) (fun _ => ?_)
    · exact hx8
    · exact (State.motFollow_within _ _ _ (msub rfl hm) hx8)
)))
  clear_value x3
  intro x9
  try clear_value x9
  intro x10
  have hx10 : Within msk s x10 := (within_modRun _ _ (within_wr _ _ _ _ _ (fsub rfl hm) (within_wr _ _ _ _ _ (fsub rfl hm) hx3)) fun _ => ⟨rfl, rfl⟩)
  clear_value x10
  intro x11
  try clear_value x11
  intro x12
  have hx12 : Within msk s x12 := (within_ite (fun _ => hx10) (fun _ => (State.modPap_within _ _ _ (msub rfl hm) (within_put _ _ _ _ _ (fsub rfl hm) (within_wr _ _ _ _ _ (fsub rfl hm) (within_wr _ _ _ _ _ (fsub rfl hm) hx10))))))
  clear_value x12
  exact (within_setBytes _ _ _ (msub rfl hm) hx12)

theorem State.applySet_within {msk : Nat} {s00 : State} (s : State) (l : Lane) (c : CopySet) (replace : Bool) (hm : 176097859268 &&& msk = 176097859268) (h0 : Within msk s00 s) :
    Within msk s00 (State.applySet s l c replace) := by
  refine within_trans h0 ?_
  unfold State.applySet
  exact (within_set _ _ _ _ (fsub rfl hm) (State.applyRest_within _ _ _ (msub rfl hm) (State.applySlots_within _ _ _ _ _ (msub rfl hm) (Within.refl _))))

theorem State.copyApply_within {msk : Nat} {s00 : State} (s : State) (l : Lane) (hm : 176097859268 &&& msk = 176097859268) (h0 : Within msk s00 s) :
    Within msk s00 (State.copyApply s l) := by
  refine within_trans h0 ?_
  unfold State.copyApply
  split
  · exact (Within.refl _)
  · refine within_ite (fun _ => ?_) (fun _ => ?_)
    · exact (State.modLnk_within _ _ _ (msub rfl hm) (State.applySet_within _ _ _ _ (msub rfl hm) (Within.refl _)))
    · exact (State.modLnk_within _ _ _ (msub rfl hm) (Within.refl _))

theorem State.copyCapture_within {msk : Nat} {s00 : State} (s : State) (l : Lane) (k : Nat) (hm : 4100 &&& msk = 4100) (h0 : Within msk s00 s) :
    Within msk s00 (State.copyCapture s l k) := by
  refine within_trans h0 ?_
  unfold State.copyCapture
  lift_lets -useContext -merge -underBinder
  intro x0 x1
  try clear_value x1
  intro x2
  try clear_value x2
  intro x3
  have hx3 : Within msk s x3 := (State.modLnk_within _ _ _ (msub rfl hm) (Within.refl _))
  clear_value x3
  intro x4
  have hx4 : Within msk s x4 := by
    unfold x4
    split
    · refine within_ite (fun _ => ?_) (fun _ => ?_)
      · exact (State.post_within _ _ _ _ (msub rfl hm) hx3)
      · exact hx3
    · exact hx3
  clear_value x4
  intro x5
  try clear_value x5
  intro x6
  try clear_value x6
  intro x7
  have hx7 : Within1 msk s x7 := (State.submit_within _ _ _ _ _ _ _ _ (msub rfl hm) hx4)
  clear_value x7
  refine within_ite (fun _ => ?_) (fun _ => ?_)
  · split
    · lift_lets -useContext -merge -underBinder
      intro x8
      have hx8 : Within msk s x8 := (State.modLnk_within _ _ _ (msub rfl hm) hx7.h)
      clear_value x8
      exact (within_wr _ _ _ _ _ (fsub rfl hm) (within_clr _ _ _ _ (fsub rfl hm) (within_clr _ _ _ _ (fsub rfl hm) hx8)))
    · exact hx7.h
  · exact hx3

theorem State.ownCapture_within {msk : Nat} {s00 : State} (s : State) (l : Lane) (k : Nat) (hm : 0 &&& msk = 0) (h0 : Within msk s00 s) :
    Within msk s00 (State.ownCapture s l k) := by
  refine within_trans h0 ?_
  unfold State.ownCapture
  lift_lets -useContext -merge -underBinder
  intro x0
  try clear_value x0
  exact (State.modLnk_within _ _ _ (msub rfl hm) (Within.refl _))

theorem State.copyResend_within {msk : Nat} {s00 : State} (s : State) (l : Lane) (hm : 4096 &&& msk = 4096) (h0 : Within msk s00 s) :
    Within msk s00 (State.copyResend s l) := by
  refine within_trans h0 ?_
  unfold State.copyResend
  lift_lets -useContext -merge -underBinder
  intro x0
  try clear_value x0
  split
  · refine within_ite (fun _ => ?_) (fun _ => ?_)
    · exact (Within.refl _)
    · exact (within_inc _ _ _ _ _ (fsub rfl hm) (State.modLnk_within _ _ _ (msub rfl hm) (Within.refl _)))
  · exact (Within.refl _)

theorem State.verdictRole_within {msk : Nat} {s00 : State} (s : State) (y : Lane) (ok : Bool) (hm : 2101248 &&& msk = 2101248) (h0 : Within msk s00 s) :
    Within msk s00 (State.verdictRole s y ok) := by
  refine within_trans h0 ?_
  unfold State.verdictRole
  lift_lets -useContext -merge -underBinder
  intro x0
  refine within_ite (fun _ => ?_) (fun _ => ?_)
  · exact (State.laneReturn_within _ _ (msub rfl hm) (State.setRole_within _ _ _ (msub rfl hm) (Within.refl _)))
  · refine within_ite (fun _ => ?_) (fun _ => ?_)
    · exact (State.setRole_within _ _ _ (msub rfl hm) (Within.refl _))
    · exact (Within.refl _)

theorem State.verdictShow_within {msk : Nat} {s00 : State} (s : State) (l : Lane) (ok : Bool) (hm : 4096 &&& msk = 4096) (h0 : Within msk s00 s) :
    Within msk s00 (State.verdictShow s l ok) := by
  refine within_trans h0 ?_
  unfold State.verdictShow
  lift_lets -useContext -merge -underBinder
  intro x0 x1
  have hx1 : Within msk s x1 := (within_put _ _ _ _ _ (fsub rfl hm) (Within.refl _))
  clear_value x1
  refine within_ite (fun _ => ?_) (fun _ => ?_)
  · exact (within_inc _ _ _ _ _ (fsub rfl hm) (within_inc _ _ _ _ _ (fsub rfl hm) (within_wr _ _ _ _ _ (fsub rfl hm) hx1)))
  · exact (within_set _ _ _ _ (fsub rfl hm) (within_inc _ _ _ _ _ (fsub rfl hm) (within_wr _ _ _ _ _ (fsub rfl hm) (within_inc _ _ _ _ _ (fsub rfl hm) hx1))))

theorem State.verdictRun_within {msk : Nat} {s00 : State} (s : State) (ok : Bool) (against : Option Lane) (hm : 515402372230 &&& msk = 515402372230) (h0 : Within msk s00 s) :
    Within msk s00 (State.verdictRun s ok against) := by
  refine within_trans h0 ?_
  unfold State.verdictRun
  split
  · refine within_ite (fun _ => ?_) (fun _ => ?_)
    · exact (within_modDep _ (msub rfl hm) (Within.refl _))
    · exact (Within.refl _)
  · lift_lets -useContext -merge -underBinder
    intro x0
    have hx0 : Within msk s x0 := (within_inc _ _ _ _ _ (fsub rfl hm) (Within.refl _))
    clear_value x0
    split
    · refine within_ite (fun _ => ?_) (fun _ => ?_)
      · exact (State.declare_within _ _ _ (msub rfl hm) (within_modDep _ (msub rfl hm) hx0))
      · exact (within_modDep _ (msub rfl hm) hx0)
    · exact (within_modDep _ (msub rfl hm) hx0)

theorem State.handOver_within {msk : Nat} {s00 : State} (s : State) (x : Lane) (hm : 343599485058 &&& msk = 343599485058) (h0 : Within msk s00 s) :
    Within msk s00 (State.handOver s x) := by
  refine within_trans h0 ?_
  unfold State.handOver
  lift_lets -useContext -merge -underBinder
  intro x0
  have hx0 : Within msk s x0 := (State.removeGrant_within _ _ (msub rfl hm) (within_clr _ _ _ _ (by unfold reqFld; split <;> exact fsub rfl hm) (within_clr _ _ _ _ (fsub rfl hm) (Within.refl _))))
  clear_value x0
  refine within_ite (fun _ => ?_) (fun _ => ?_)
  · exact (State.modLnk_within _ _ _ (msub rfl hm) hx0)
  · exact (Within.refl _)

theorem State.judge_within {msk : Nat} {s00 : State} (s : State) (x : Lane) (hm : 515402372230 &&& msk = 515402372230) (h0 : Within msk s00 s) :
    Within msk s00 (State.judge s x) := by
  refine within_trans h0 ?_
  unfold State.judge
  lift_lets -useContext -merge -underBinder
  intro x0
  try clear_value x0
  intro x1 x2
  try clear_value x2
  intro x3
  try clear_value x3
  intro x4
  have hx4 : Within msk s x4 := (within_each _ _ (within_each _ _ (Within.refl _) (fun _ _ => (within_modDepLane _ _ (msub rfl hm) (Within.refl _)))) (fun _ _ => (State.verdictShow_within _ _ _ (msub rfl hm) (within_wr _ _ _ _ _ (fsub rfl hm) (Within.refl _)))))
  clear_value x4
  intro x9
  have hx9 : Within msk s x9 := (State.verdictRole_within _ _ _ (msub rfl hm) (within_modDepLane _ _ (msub rfl hm) hx4))
  clear_value x9
  intro x10
  have hx10 : Within msk s x10 := (State.grantLogic_within _ (msub rfl hm) (State.verdictRun_within _ _ _ (msub rfl hm) hx9))
  clear_value x10
  refine within_ite (fun _ => ?_) (fun _ => ?_)
  · refine within_ite (fun _ => ?_) (fun _ => ?_)
    · refine within_ite (fun _ => ?_) (fun _ => ?_)
      · exact (State.handOver_within _ _ (msub rfl hm) hx10)
      · exact hx10
    · exact (State.grantLogic_within _ (msub rfl hm) (within_modDepLane _ _ (msub rfl hm) (within_each _ _ (Within.refl _) (fun _ _ => (within_modDepLane _ _ (msub rfl hm) (Within.refl _))))))
  · exact (Within.refl _)

theorem State.snapSubmit_within {msk : Nat} {s00 : State} (s : State) (l : Lane) (hm : 4 &&& msk = 4) (h0 : Within msk s00 s) :
    Within msk s00 (State.snapSubmit s l) := by
  refine within_trans h0 ?_
  unfold State.snapSubmit
  lift_lets -useContext -merge -underBinder
  intro x0
  try clear_value x0
  intro x1
  try clear_value x1
  refine within_ite (fun _ => ?_) (fun _ => ?_)
  · exact (State.modLnk_within _ _ _ (msub rfl hm) (State.submit_within _ _ _ _ _ _ _ _ (msub rfl hm) (Within.refl _)).h)
  · exact (Within.refl _)

theorem State.snapDone_within {msk : Nat} {s00 : State} (s : State) (l : Lane) (x : Snapshot) (ok : Bool) (hm : 17179873280 &&& msk = 17179873280) (h0 : Within msk s00 s) :
    Within msk s00 (State.snapDone s l x ok) := by
  refine within_trans h0 ?_
  unfold State.snapDone
  lift_lets -useContext -merge -underBinder
  intro x0 x1
  try clear_value x1
  intro x2
  try clear_value x2
  intro x3
  have hx3 : Within msk s x3 := (within_modNv _ _ (msub rfl hm) (Within.refl _))
  clear_value x3
  refine within_ite (fun _ => ?_) (fun _ => ?_)
  · exact (within_clr _ _ _ _ (fsub rfl hm) (within_wr _ _ _ _ _ (fsub rfl hm) hx3))
  · exact (within_set _ _ _ _ (fsub rfl hm) (Within.refl _))

theorem State.coldNext_within {msk : Nat} {s00 : State} (s : State) (l : Lane) (hm : 2101248 &&& msk = 2101248) (h0 : Within msk s00 s) :
    Within msk s00 (State.coldNext s l) := by
  refine within_trans h0 ?_
  unfold State.coldNext
  refine within_ite (fun _ => ?_) (fun _ => ?_)
  · exact (State.modLnk_within _ _ _ (msub rfl hm) (State.setRole_within _ _ _ (msub rfl hm) (Within.refl _)))
  · exact (State.setRole_within _ _ _ (msub rfl hm) (Within.refl _))


end Sys2Proof.Machine
end

