-- ==== Sys2Proof/Laws/WithinLock.lean ====
section
/-!
SUPPORT. The operations of Machine/Lock.lean change nothing outside their masks (Laws/Within.lean).
-/
namespace Sys2Proof.Machine

theorem execCheckerFault_within {msk : Nat} (l : Lane) (faults : List CheckFault) (s : State) (hm : 515402380422 &&& msk = 515402380422) :
    WithinOut msk s (execCheckerFault l faults s) := by
  unfold execCheckerFault
  lift_lets -useContext -merge -underBinder
  intro x0 x1
  try clear_value x1
  exact withinOut_next (by
    split
    · exact (Within.refl _)
    · lift_lets -useContext -merge -underBinder
      intro x2
      try clear_value x2
      intro x3
      have hx3 : Within msk s x3 := (within_put _ _ _ _ _ (fsub rfl hm) (within_wr _ _ _ _ _ (fsub rfl hm) (within_wr _ _ _ _ _ (fsub rfl hm) (within_put _ _ _ _ _ (fsub rfl hm) (within_put _ _ _ _ _ (fsub rfl hm) (Within.refl _))))))
      clear_value x3
      intro x4
      have hx4 : Within msk s x4 := (within_wr _ _ _ _ _ (fsub rfl hm) (within_set _ _ _ _ (fsub rfl hm) (within_set _ _ _ _ (fsub rfl hm) hx3)))
      clear_value x4
      intro x5
      have hx5 : Within msk s x5 := (within_modRun _ _ hx4 fun _ => ⟨rfl, rfl⟩)
      clear_value x5
      refine within_ite (fun _ => ?_) (fun _ => ?_)
      · exact (Within.refl _)
      · exact (State.declare_within _ _ _ (msub rfl hm) hx5)
)

theorem execLockstepSelfReset_within {msk : Nat} (l : Lane) (s : State) (hm : 9328668966911 &&& msk = 9328668966911) :
    WithinOut msk s (execLockstepSelfReset l s) := by
  unfold execLockstepSelfReset
  lift_lets -useContext -merge -underBinder
  intro x0
  exact withinOut_next (by
    split
    · exact (Within.refl _)
    · lift_lets -useContext -merge -underBinder
      intro x1
      have hx1 : Within msk s x1 := (within_wr _ _ _ _ _ (fsub rfl hm) (within_wr _ _ _ _ _ (fsub rfl hm) (within_advTo _ (msub rfl hm) (Within.refl _))))
      clear_value x1
      refine within_ite (fun _ => ?_) (fun _ => ?_)
      · exact (Within.refl _)
      · exact (within_set _ _ _ _ (fsub rfl hm) (State.resetIsland_within _ _ _ (msub rfl hm) hx1))
)

theorem execDebugSplit_within {msk : Nat} (l : Lane) (cp : Bool) (s : State) (hm : 515402380422 &&& msk = 515402380422) :
    WithinOut msk s (execDebugSplit l cp s) := by
  unfold execDebugSplit
  lift_lets -useContext -merge -underBinder
  intro x0 x1
  have hx1 : Within msk s x1 := (within_clr _ _ _ _ (by split <;> exact fsub rfl hm) (within_wrBit _ _ _ _ _ (fsub rfl hm) (Within.refl _)))
  clear_value x1
  intro x2
  have hx2 : Within msk s x2 := (within_modDepLane _ _ (msub rfl hm) (within_set _ _ _ _ (by split <;> exact fsub rfl hm) hx1))
  clear_value x2
  intro x3
  have hx3 : Within msk s x3 := (within_ite (fun _ => (State.setRole_within _ _ _ (msub rfl hm) hx2)) (fun _ => (within_when _ _ (within_clr _ _ _ _ (fsub rfl hm) hx2) (fun _ => (within_clr _ _ _ _ (by unfold reqFld; split <;> exact fsub rfl hm) (Within.refl _))))))
  clear_value x3
  intro x5
  try clear_value x5
  intro x6
  have hx6 : Within msk s x6 := (within_ite (fun _ => (within_clr _ _ _ _ (fsub rfl hm) hx3)) (fun _ => (within_ite (fun _ => hx3) (fun _ => (State.declare_within _ _ _ (msub rfl hm) hx3)))))
  clear_value x6
  exact withinOut_next (within_ite (fun _ => (Within.refl _)) (fun _ => (within_ite (fun _ => hx3) (fun _ => (State.grantLogic_within _ (msub rfl hm) (State.syncElig_within _ (msub rfl hm) hx6))))))


end Sys2Proof.Machine
end

