-- ==== Sys2Proof/Laws/WithinSec.lean ====
section
/-!
SUPPORT. The operations of Machine/Sec.lean change nothing outside their masks (Laws/Within.lean).
-/
namespace Sys2Proof.Machine

theorem State.modSec_within {msk : Nat} {s00 : State} (s : State) (l : Lane) (f : SecSt → SecSt) (hm : 0 &&& msk = 0) (h0 : Within msk s00 s) :
    Within msk s00 (State.modSec s l f) := by
  refine within_trans h0 ?_
  unfold State.modSec
  exact (within_modRun _ _ (Within.refl _) fun _ => ⟨rfl, rfl⟩)

theorem State.lcResult_within {msk : Nat} {s00 : State} (s : State) (l : Lane) (r : Nat) (hm : 262144 &&& msk = 262144) (h0 : Within msk s00 s) :
    Within msk s00 (State.lcResult s l r) := by
  refine within_trans h0 ?_
  unfold State.lcResult
  exact (within_clr _ _ _ _ (fsub rfl hm) (within_wr _ _ _ _ _ (fsub rfl hm) (Within.refl _)))

theorem State.lcAdvance_within {msk : Nat} {s00 : State} (s : State) (l : Lane) (next : Nat) (hm : 549755813887 &&& msk = 549755813887) (h0 : Within msk s00 s) :
    Within msk s00 (State.lcAdvance s l next) := by
  refine within_trans h0 ?_
  unfold State.lcAdvance
  exact (State.resetIsland_within _ _ _ (msub rfl hm) (State.lcResult_within _ _ _ (msub rfl hm) (within_modNv _ _ (msub rfl hm) (Within.refl _))))

theorem State.lcProduce_within {msk : Nat} {s00 : State} (s : State) (l : Lane) (e : LcEnd) (hm : 549755813887 &&& msk = 549755813887) (h0 : Within msk s00 s) :
    Within msk s00 (State.lcProduce s l e) := by
  refine within_trans h0 ?_
  unfold State.lcProduce
  refine within_ite (fun _ => ?_) (fun _ => ?_)
  · exact (State.lcResult_within _ _ _ (msub rfl hm) (Within.refl _))
  · split
    · exact (State.lcResult_within _ _ _ (msub rfl hm) (Within.refl _))
    · split
      · exact (State.lcResult_within _ _ _ (msub rfl hm) (within_wr _ _ _ _ _ (fsub rfl hm) (Within.refl _)))
      · exact (within_wr _ _ _ _ _ (fsub rfl hm) (within_set _ _ _ _ (fsub rfl hm) (within_modNv _ _ (msub rfl hm) (State.keyWrap_within _ _ _ (msub rfl hm) (Within.refl _)))))
      · exact (State.lcAdvance_within _ _ _ (msub rfl hm) (within_modNv _ _ (msub rfl hm) (State.keyWrap_within _ _ _ (msub rfl hm) (Within.refl _))))

theorem execSecLcReq_within {msk : Nat} (l : Lane) (who : Initiator) (target : BitVec 3) (key : BitVec 16) (e : LcEnd) (s : State) (hm : 549755813887 &&& msk = 549755813887) :
    WithinOut msk s (execSecLcReq l who target key e s) := by
  unfold execSecLcReq
  lift_lets -useContext -merge -underBinder
  intro x0
  try clear_value x0
  intro x1
  try clear_value x1
  intro x2
  try clear_value x2
  exact withinOut_next (within_ite (fun _ => (Within.refl _)) (fun _ => (within_ite (fun _ => (State.lcResult_within _ _ _ (msub rfl hm) (Within.refl _))) (fun _ => (within_ite (fun _ => (State.lcAdvance_within _ _ _ (msub rfl hm) (Within.refl _))) (fun _ => (within_ite (fun _ => (State.lcProduce_within _ _ _ (msub rfl hm) (Within.refl _))) (fun _ => (within_ite (fun _ => (State.lcAdvance_within _ _ _ (msub rfl hm) (Within.refl _))) (fun _ => (within_ite (fun _ => (State.lcAdvance_within _ _ _ (msub rfl hm) (within_modNv _ _ (msub rfl hm) (Within.refl _)))) (fun _ => (State.lcResult_within _ _ _ (msub rfl hm) (Within.refl _))))))))))))))

theorem execSecKeyProg_within {msk : Nat} (l : Lane) (who : Initiator) (slot : Fin 4) (s : State) (hm : 17179869184 &&& msk = 17179869184) :
    WithinOut msk s (execSecKeyProg l who slot s) := by
  unfold execSecKeyProg
  lift_lets -useContext -merge -underBinder
  intro x0
  try clear_value x0
  intro x1
  try clear_value x1
  exact withinOut_next (within_ite (fun _ => (within_modNv _ _ (msub rfl hm) (Within.refl _))) (fun _ => (Within.refl _)))

theorem execDbgChallenge_within {msk : Nat} (l : Lane) (who : Initiator) (s : State) (hm : 4398046773248 &&& msk = 4398046773248) :
    WithinOut msk s (execDbgChallenge l who s) := by
  unfold execDbgChallenge
  lift_lets -useContext -merge -underBinder
  intro x0 x1
  have hx1 : Within1 msk s x1 := (State.freeWords_within _ _ (msub rfl hm) (Within.refl _))
  clear_value x1
  intro x2
  try clear_value x2
  intro x3
  have hx3 : Within msk s x3 := (within_each _ _ hx1.h (fun _ _ => (within_wr _ _ _ _ _ (fsub rfl hm) (Within.refl _))))
  clear_value x3
  exact withinOut_next (within_ite (fun _ => (Within.refl _)) (fun _ => (within_ite (fun _ => (within_wr _ _ _ _ _ (fsub rfl hm) (Within.refl _))) (fun _ => (State.modSec_within _ _ _ (msub rfl hm) (within_set _ _ _ _ (fsub rfl hm) hx3))))))

theorem State.challengeGone_within {msk : Nat} {s00 : State} (s : State) (l : Lane) (hm : 262144 &&& msk = 262144) (h0 : Within msk s00 s) :
    Within msk s00 (State.challengeGone s l) := by
  refine within_trans h0 ?_
  unfold State.challengeGone
  exact (State.modSec_within _ _ _ (msub rfl hm) (within_clr _ _ _ _ (fsub rfl hm) (Within.refl _)))

theorem execChallengeLapse_within {msk : Nat} (l : Lane) (s : State) (hm : 8796093284352 &&& msk = 8796093284352) :
    WithinOut msk s (execChallengeLapse l s) := by
  unfold execChallengeLapse
  exact withinOut_next (by
    split
    · exact (State.challengeGone_within _ _ (msub rfl hm) (within_advTo _ (msub rfl hm) (Within.refl _)))
    · exact (Within.refl _)
)

theorem State.openFail_within {msk : Nat} {s00 : State} (s : State) (l : Lane) (r : Nat) (hm : 262144 &&& msk = 262144) (h0 : Within msk s00 s) :
    Within msk s00 (State.openFail s l r) := by
  refine within_trans h0 ?_
  unfold State.openFail
  exact (within_inc _ _ _ _ _ (fsub rfl hm) (within_wr _ _ _ _ _ (fsub rfl hm) (Within.refl _)))

theorem execDbgOpen_within {msk : Nat} (l : Lane) (who : Initiator) (obj : Signed) (s : State) (hm : 17180131328 &&& msk = 17180131328) :
    WithinOut msk s (execDbgOpen l who obj s) := by
  unfold execDbgOpen
  lift_lets -useContext -merge -underBinder
  intro x0 x1
  try clear_value x1
  intro x2
  have hx2 : Within msk s x2 := (State.challengeGone_within _ _ (msub rfl hm) (Within.refl _))
  clear_value x2
  intro x3
  have hx3 : Within msk s x3 := (within_ite (fun _ => hx2) (fun _ => (within_clr _ _ _ _ (fsub rfl hm) (within_modNv _ _ (msub rfl hm) hx2))))
  clear_value x3
  exact withinOut_next (within_ite (fun _ => (Within.refl _)) (fun _ => (within_ite (fun _ => (State.openFail_within _ _ _ (msub rfl hm) (Within.refl _))) (fun _ => (within_ite (fun _ => (State.openFail_within _ _ _ (msub rfl hm) (within_wr _ _ _ _ _ (fsub rfl hm) hx2))) (fun _ => (State.modAsy_within _ _ _ (msub rfl hm) (State.modSec_within _ _ _ (msub rfl hm) (within_wr _ _ _ _ _ (fsub rfl hm) hx3)))))))))

theorem execSecJobGo_within {msk : Nat} (l : Lane) (who : Initiator) (s : State) (hm : 262148 &&& msk = 262148) :
    WithinOut msk s (execSecJobGo l who s) := by
  unfold execSecJobGo
  lift_lets -useContext -merge -underBinder
  intro x0 x1
  try clear_value x1
  intro x2 x3
  try clear_value x3
  intro x4
  have hx4 : Within1 msk s x4 := (State.submit_within _ _ _ _ _ _ _ _ (msub rfl hm) (Within.refl _))
  clear_value x4
  exact withinOut_next (within_ite (fun _ => (Within.refl _)) (fun _ => (within_ite (fun _ => (within_wr _ _ _ _ _ (fsub rfl hm) (within_put _ _ _ _ _ (fsub rfl hm) (within_wr _ _ _ _ _ (fsub rfl hm) (Within.refl _))))) (fun _ => (within_wr _ _ _ _ _ (fsub rfl hm) (within_put _ _ _ _ _ (fsub rfl hm) (within_wr _ _ _ _ _ (fsub rfl hm) hx4.h)))))))

theorem State.cryptoDone_within {msk : Nat} {s00 : State} (s : State) (l : Lane) (desc : List Nat) (hm : 4295229440 &&& msk = 4295229440) (h0 : Within msk s00 s) :
    Within msk s00 (State.cryptoDone s l desc) := by
  refine within_trans h0 ?_
  unfold State.cryptoDone
  lift_lets -useContext -merge -underBinder
  intro x0
  try clear_value x0
  intro x1
  try clear_value x1
  intro x2
  have hx2 : Within msk s x2 := (within_inc _ _ _ _ _ (fsub rfl hm) (Within.refl _))
  clear_value x2
  refine within_ite (fun _ => ?_) (fun _ => ?_)
  · exact (within_setBytes _ _ _ (msub rfl hm) hx2)
  · refine within_ite (fun _ => ?_) (fun _ => ?_)
    · exact (within_setBytes _ _ _ (msub rfl hm) hx2)
    · exact hx2

theorem execEntropyHealthFail_within {msk : Nat} (l : Lane) (s : State) (hm : 262144 &&& msk = 262144) :
    WithinOut msk s (execEntropyHealthFail l s) := by
  unfold execEntropyHealthFail
  exact withinOut_next (within_ite (fun _ => (State.modSec_within _ _ _ (msub rfl hm) (within_set _ _ _ _ (fsub rfl hm) (Within.refl _)))) (fun _ => (Within.refl _)))


end Sys2Proof.Machine
end

