-- ==== Sys2Proof/Laws/WithinTrc.lean ====
section
/-!
SUPPORT. The operations of Machine/Trc.lean change nothing outside their masks (Laws/Within.lean).
-/
namespace Sys2Proof.Machine

theorem State.trcFire_within {msk : Nat} {s00 : State} (s : State) (l : Lane) (b : Fin 8) (hm : 1048576 &&& msk = 1048576) (h0 : Within msk s00 s) :
    Within msk s00 (State.trcFire s l b) := by
  refine within_trans h0 ?_
  unfold State.trcFire
  lift_lets -useContext -merge -underBinder
  intro x0 x1
  try clear_value x1
  intro x2
  try clear_value x2
  refine within_ite (fun _ => ?_) (fun _ => ?_)
  · exact (within_wr _ _ _ _ _ (fsub rfl hm) (within_wr _ _ _ _ _ (fsub rfl hm) (within_put _ _ _ _ _ (fsub rfl hm) (State.modTrc_within _ _ _ _ (msub rfl hm) (Within.refl _)))))
  · exact (Within.refl _)

theorem State.trcTrigger_within {msk : Nat} {s00 : State} (s : State) (l : Lane) (b : Fin 8) (hm : 1048576 &&& msk = 1048576) (h0 : Within msk s00 s) :
    Within msk s00 (State.trcTrigger s l b) := by
  refine within_trans h0 ?_
  unfold State.trcTrigger
  lift_lets -useContext -merge -underBinder
  intro x0
  have hx0 : Within msk s x0 := (State.trcFire_within _ _ _ (msub rfl hm) (Within.refl _))
  clear_value x0
  refine within_ite (fun _ => ?_) (fun _ => ?_)
  · exact (within_each _ _ hx0 (fun _ _ => (within_when _ _ (Within.refl _) (fun _ => (State.trcFire_within _ _ _ (msub rfl hm) (Within.refl _))))))
  · exact hx0

theorem execTrcArm_within {msk : Nat} (l : Lane) (b : Fin 8) (s : State) (hm : 1048576 &&& msk = 1048576) :
    WithinOut msk s (execTrcArm l b s) := by
  unfold execTrcArm
  lift_lets -useContext -merge -underBinder
  intro x0
  exact withinOut_next (within_ite (fun _ => (within_ite (fun _ => (within_set _ _ _ _ (fsub rfl hm) (Within.refl _))) (fun _ => (within_clr _ _ _ _ (fsub rfl hm) (within_clr _ _ _ _ (fsub rfl hm) (State.modTrc_within _ _ _ _ (msub rfl hm) (Within.refl _))))))) (fun _ => (Within.refl _)))

theorem State.trcSubmit_within {msk : Nat} {s00 : State} (s : State) (l : Lane) (b : Fin 8) (hm : 1048580 &&& msk = 1048580) (h0 : Within msk s00 s) :
    Within msk s00 (State.trcSubmit s l b) := by
  refine within_trans h0 ?_
  unfold State.trcSubmit
  lift_lets -useContext -merge -underBinder
  intro x0 x1
  try clear_value x1
  intro x2
  have hx2 : Within1 msk s x2 := (State.submit_within _ _ _ _ _ _ _ _ (msub rfl hm) (Within.refl _))
  clear_value x2
  intro x3
  try clear_value x3
  intro x4
  have hx4 : Within msk s x4 := hx2.h
  clear_value x4
  intro x5
  have hx5 : Within msk s x5 := (within_put _ _ _ _ _ (fsub rfl hm) (within_wr _ _ _ _ _ (fsub rfl hm) hx4))
  clear_value x5
  refine within_ite (fun _ => ?_) (fun _ => ?_)
  · exact (within_wr _ _ _ _ _ (fsub rfl hm) (within_wr _ _ _ _ _ (fsub rfl hm) (State.modTrc_within _ _ _ _ (msub rfl hm) (within_clr _ _ _ _ (fsub rfl hm) (within_wr _ _ _ _ _ (fsub rfl hm) hx5)))))
  · exact hx5

theorem execTrcDump_within {msk : Nat} (l : Lane) (b : Fin 8) (s : State) (hm : 1048580 &&& msk = 1048580) :
    WithinOut msk s (execTrcDump l b s) := by
  unfold execTrcDump
  lift_lets -useContext -merge -underBinder
  intro x0
  exact withinOut_next (within_ite (fun _ => (within_ite (fun _ => (State.trcSubmit_within _ _ _ (msub rfl hm) (Within.refl _))) (fun _ => (within_clr _ _ _ _ (fsub rfl hm) (within_wr _ _ _ _ _ (fsub rfl hm) (Within.refl _)))))) (fun _ => (Within.refl _)))

theorem State.trcOutcome_within {msk : Nat} {s00 : State} (s0 : State) (l : Lane) (b : Fin 8) (c : OutcomeCode) (hm : 17180917760 &&& msk = 17180917760) (h0 : Within msk s00 s0) :
    Within msk s00 (State.trcOutcome s0 l b c) := by
  refine within_trans h0 ?_
  unfold State.trcOutcome
  lift_lets -useContext -merge -underBinder
  intro x0 x1
  try clear_value x1
  intro x2
  have hx2 : Within msk s0 x2 := (within_when _ _ (Within.refl _) (fun _ => (State.emmcProgram_within _ _ _ _ (msub rfl hm) (Within.refl _))))
  clear_value x2
  exact (State.modTrc_within _ _ _ _ (msub rfl hm) (within_set _ _ _ _ (fsub rfl hm) (within_wr _ _ _ _ _ (fsub rfl hm) hx2)))

theorem execTrcAbort_within {msk : Nat} (l : Lane) (b : Fin 8) (s : State) (hm : 1048576 &&& msk = 1048576) :
    WithinOut msk s (execTrcAbort l b s) := by
  unfold execTrcAbort
  exact withinOut_next (within_ite (fun _ => (State.modTrc_within _ _ _ _ (msub rfl hm) (Within.refl _))) (fun _ => (Within.refl _)))

theorem execTrcTrigger_within {msk : Nat} (l : Lane) (b : Fin 8) (s : State) (hm : 1048576 &&& msk = 1048576) :
    WithinOut msk s (execTrcTrigger l b s) := by
  unfold execTrcTrigger
  exact withinOut_next (within_ite (fun _ => (State.trcTrigger_within _ _ _ (msub rfl hm) (Within.refl _))) (fun _ => (Within.refl _)))

theorem execTraceTriggerEvent_within {msk : Nat} (l : Lane) (b : Fin 8) (s : State) (hm : 1048576 &&& msk = 1048576) :
    WithinOut msk s (execTraceTriggerEvent l b s) := by
  unfold execTraceTriggerEvent
  exact withinOut_next (within_ite (fun _ => (State.trcTrigger_within _ _ _ (msub rfl hm) (State.modTrc_within _ _ _ _ (msub rfl hm) (Within.refl _)))) (fun _ => (Within.refl _)))

theorem execTracePostDone_within {msk : Nat} (l : Lane) (b : Fin 8) (s : State) (hm : 1048580 &&& msk = 1048580) :
    WithinOut msk s (execTracePostDone l b s) := by
  unfold execTracePostDone
  lift_lets -useContext -merge -underBinder
  intro x0 x1
  have hx1 : Within msk s x1 := (State.irq_within _ _ _ _ (msub rfl hm) (fsub rfl hm) (State.modTrc_within _ _ _ _ (msub rfl hm) (Within.refl _)))
  clear_value x1
  exact withinOut_next (within_ite (fun _ => (within_ite (fun _ => (State.trcSubmit_within _ _ _ (msub rfl hm) hx1)) (fun _ => hx1))) (fun _ => (Within.refl _)))


end Sys2Proof.Machine
end

