-- ==== Sys2Proof/Laws/WithinTally.lean ====
section
/-!
SUPPORT. The operations of Machine/Tally.lean change nothing outside their masks (Laws/Within.lean).
-/
namespace Sys2Proof.Machine

theorem State.dropAttempt_within {msk : Nat} {s00 : State} (s : State) (l : Lane) (e : TalEntry) (hm : 0 &&& msk = 0) (h0 : Within msk s00 s) :
    Within msk s00 (State.dropAttempt s l e) := by
  refine within_trans h0 ?_
  unfold State.dropAttempt
  refine within_dite (fun _ => ?_) (fun _ => ?_)
  · exact (State.modCan_within _ _ _ _ (msub rfl hm) (Within.refl _))
  · exact (Within.refl _)

theorem State.nvmWrite_within {msk : Nat} {s00 : State} (s : State) (l : Lane) (area off : Nat) (bs : List Nat) (hm : 17179869184 &&& msk = 17179869184) (h0 : Within msk s00 s) :
    Within msk s00 (State.nvmWrite s l area off bs) := by
  refine within_trans h0 ?_
  unfold State.nvmWrite
  lift_lets -useContext -merge -underBinder
  intro x0
  try clear_value x0
  split
  · exact (State.emmcProgram_within _ _ _ _ (msub rfl hm) (Within.refl _))
  · exact (State.emmcProgram_within _ _ _ _ (msub rfl hm) (Within.refl _))
  · exact (State.norProgram_within _ _ _ _ (msub rfl hm) (State.norProgram_within _ _ _ _ (msub rfl hm) (Within.refl _)))
  · exact (State.norProgram_within _ _ _ _ (msub rfl hm) (Within.refl _))
  · exact (State.norProgram_within _ _ _ _ (msub rfl hm) (Within.refl _))
  · exact (State.norProgram_within _ _ _ _ (msub rfl hm) (Within.refl _))
  · exact (State.norProgram_within _ _ _ _ (msub rfl hm) (Within.refl _))
  · exact (State.norProgram_within _ _ _ _ (msub rfl hm) (Within.refl _))
  · exact (Within.refl _)

theorem State.postJob_within {msk : Nat} {s00 : State} (s : State) (l : Lane) (e : TalEntry) (code : OutcomeCode) (hm : 549755813887 &&& msk = 549755813887) (h0 : Within msk s00 s) :
    Within msk s00 (State.postJob s l e code) := by
  refine within_trans h0 ?_
  unfold State.postJob
  lift_lets -useContext -merge -underBinder
  intro x0
  have hx0 : Within msk s x0 := (State.postNet_within _ _ _ _ (msub rfl hm) (Within.refl _))
  clear_value x0
  split
  · exact (within_when _ _ hx0 (fun _ => (State.modEth_within _ _ _ _ (msub rfl hm) (Within.refl _))))
  · refine within_ite (fun _ => ?_) (fun _ => ?_)
    · exact (State.nvmWrite_within _ _ _ _ _ (msub rfl hm) hx0)
    · exact (within_when _ _ hx0 (fun _ => (within_inc _ _ _ _ _ (fsub rfl hm) (Within.refl _))))
  · exact (within_when _ _ hx0 (fun _ => (within_modNv _ _ (msub rfl hm) (Within.refl _))))
  · exact (State.commitOutcome_within _ _ _ _ (msub rfl hm) hx0)
  · refine within_dite (fun _ => ?_) (fun _ => ?_)
    · exact (State.trcOutcome_within _ _ _ _ (msub rfl hm) hx0)
    · exact hx0
  · exact (State.snapDone_within _ _ _ _ (msub rfl hm) hx0)
  · refine within_ite (fun _ => ?_) (fun _ => ?_)
    · exact (State.cryptoDone_within _ _ _ (msub rfl hm) hx0)
    · exact hx0
  · exact (State.modLnk_within _ _ _ (msub rfl hm) hx0)
  · exact (State.modPwr_within _ _ _ (msub rfl hm) hx0)
  · exact (State.dropAttempt_within _ _ _ (msub rfl hm) hx0)
  · exact (State.dropAttempt_within _ _ _ (msub rfl hm) hx0)
  · exact hx0

theorem execTallyOutcome_within {msk : Nat} (l : Lane) (id : Fin 64) (code : OutcomeCode) (s : State) (hm : 549755813887 &&& msk = 549755813887) :
    WithinOut msk s (execTallyOutcome l id code s) := by
  unfold execTallyOutcome
  exact withinOut_next (by
    split
    · refine within_ite (fun _ => ?_) (fun _ => ?_)
      · exact (State.postJob_within _ _ _ _ (msub rfl hm) (Within.refl _))
      · exact (Within.refl _)
    · exact (Within.refl _)
)

theorem execTallyAbortLead_within {msk : Nat} (l : Lane) (id : Fin 64) (s : State) (hm : 9345848836095 &&& msk = 9345848836095) :
    WithinOut msk s (execTallyAbortLead l id s) := by
  unfold execTallyAbortLead
  exact withinOut_next (by
    split
    · lift_lets -useContext -merge -underBinder
      intro x0
      try clear_value x0
      intro x1
      have hx1 : Within msk s x1 := (within_advTo _ (msub rfl hm) (Within.refl _))
      clear_value x1
      refine within_ite (fun _ => ?_) (fun _ => ?_)
      · refine within_ite (fun _ => ?_) (fun _ => ?_)
        · exact (State.postJob_within _ _ _ _ (msub rfl hm) hx1)
        · exact (State.setEnt_within _ _ _ _ (msub rfl hm) hx1)
      · exact (Within.refl _)
    · exact (Within.refl _)
)

theorem execTallyMiss_within {msk : Nat} (l : Lane) (id : Fin 64) (s : State) (hm : 9311495394438 &&& msk = 9311495394438) :
    WithinOut msk s (execTallyMiss l id s) := by
  unfold execTallyMiss
  exact withinOut_next (by
    split
    · lift_lets -useContext -merge -underBinder
      intro x0 x1
      have hx1 : Within msk s x1 := (State.setEnt_within _ _ _ _ (msub rfl hm) (within_advTo _ (msub rfl hm) (Within.refl _)))
      clear_value x1
      intro x2
      have hx2 : Within msk s x2 := (within_inc _ _ _ _ _ (fsub rfl hm) (within_wr _ _ _ _ _ (fsub rfl hm) (within_wr _ _ _ _ _ (fsub rfl hm) (within_set _ _ _ _ (fsub rfl hm) hx1))))
      clear_value x2
      refine within_ite (fun _ => ?_) (fun _ => ?_)
      · exact (State.tallyMiss_within _ _ _ (msub rfl hm) (State.irq_within _ _ _ _ (msub rfl hm) (fsub rfl hm) hx2))
      · exact (Within.refl _)
    · exact (Within.refl _)
)

theorem execTalCancel_within {msk : Nat} (l : Lane) (id : Fin 64) (s : State) (hm : 549755813887 &&& msk = 549755813887) :
    WithinOut msk s (execTalCancel l id s) := by
  unfold execTalCancel
  exact withinOut_next (by
    split
    · refine within_ite (fun _ => ?_) (fun _ => ?_)
      · exact (Within.refl _)
      · refine within_ite (fun _ => ?_) (fun _ => ?_)
        · refine within_ite (fun _ => ?_) (fun _ => ?_)
          · exact (State.postJob_within _ _ _ _ (msub rfl hm) (Within.refl _))
          · exact (Within.refl _)
        · refine within_dite (fun _ => ?_) (fun _ => ?_)
          · lift_lets -useContext -merge -underBinder
            intro x0
            try clear_value x0
            refine within_ite (fun _ => ?_) (fun _ => ?_)
            · exact (within_inc _ _ _ _ _ (fsub rfl hm) (within_set _ _ _ _ (fsub rfl hm) (Within.refl _)))
            · exact (Within.refl _)
          · exact (Within.refl _)
    · exact (Within.refl _)
)

theorem execTalOutPop_within {msk : Nat} (l : Lane) (s : State) (hm : 4 &&& msk = 4) :
    WithinOut msk s (execTalOutPop l s) := by
  unfold execTalOutPop
  exact withinOut_next (within_ite (fun _ => (State.talPop_within _ _ (msub rfl hm) (Within.refl _))) (fun _ => (Within.refl _)))

theorem execTargetOffFail_within {msk : Nat} (l : Lane) (id : Fin 64) (s : State) (hm : 549755813887 &&& msk = 549755813887) :
    WithinOut msk s (execTargetOffFail l id s) := by
  unfold execTargetOffFail
  exact withinOut_next (by
    split
    · refine within_ite (fun _ => ?_) (fun _ => ?_)
      · exact (State.postJob_within _ _ _ _ (msub rfl hm) (Within.refl _))
      · exact (Within.refl _)
    · exact (Within.refl _)
)

theorem execTimExpiry_within {msk : Nat} (l : Lane) (n : Fin 8) (s : State) (hm : 8796101410818 &&& msk = 8796101410818) :
    WithinOut msk s (execTimExpiry l n s) := by
  unfold execTimExpiry
  exact withinOut_next (within_ite (fun _ => (within_when _ _ (State.timExpire_within _ _ _ (msub rfl hm) (Within.refl _)) (fun _ => (State.laneForm_within _ _ (msub rfl hm) (Within.refl _))))) (fun _ => (Within.refl _)))

theorem State.nvmResult_within {msk : Nat} {s00 : State} (s : State) (l : Lane) (id code : Nat) (hm : 131072 &&& msk = 131072) (h0 : Within msk s00 s) :
    Within msk s00 (State.nvmResult s l id code) := by
  refine within_trans h0 ?_
  unfold State.nvmResult
  lift_lets -useContext -merge -underBinder
  intro x0
  exact (within_wr _ _ _ _ _ (fsub rfl hm) (within_put _ _ _ _ _ (fsub rfl hm) (within_wr _ _ _ _ _ (fsub rfl hm) (Within.refl _))))

theorem execNvmReqGo_within {msk : Nat} (l : Lane) (who : Initiator) (s : State) (hm : 135172 &&& msk = 135172) :
    WithinOut msk s (execNvmReqGo l who s) := by
  unfold execNvmReqGo
  lift_lets -useContext -merge -underBinder
  intro x0 x1
  try clear_value x1
  intro x2
  try clear_value x2
  intro x3
  try clear_value x3
  intro x4
  try clear_value x4
  intro x5
  try clear_value x5
  intro x6
  have hx6 : Within1 msk s x6 := (State.submit_within _ _ _ _ _ _ _ _ (msub rfl hm) (Within.refl _))
  clear_value x6
  intro x7
  try clear_value x7
  exact withinOut_next (within_ite (fun _ => (Within.refl _)) (fun _ => (within_ite (fun _ => (State.nvmResult_within _ _ _ _ (msub rfl hm) (Within.refl _))) (fun _ => (within_ite (fun _ => (State.nvmResult_within _ _ _ _ (msub rfl hm) (Within.refl _))) (fun _ => (State.endNew_within _ _ _ _ (msub rfl hm) (State.nvmResult_within _ _ _ _ (msub rfl hm) hx6.h))))))))


end Sys2Proof.Machine
end

