-- ==== Sys2Proof/Laws/WithinHooks.lean ====
section
/-!
SUPPORT. The operations of Machine/Hooks.lean change nothing outside their masks (Laws/Within.lean).
-/
namespace Sys2Proof.Machine

theorem State.hookTim_within {msk : Nat} {s00 : State} (b s : State) (l : Lane) (a : Nat) (hm : 8388608 &&& msk = 8388608) (h0 : Within msk s00 b) (h1 : Within msk s00 s) :
    Within msk s00 (State.hookTim b s l a) := by
  unfold State.hookTim
  split
  · refine within_dite (fun _ => ?_) (fun _ => ?_)
    · refine within_ite (fun _ => ?_) (fun _ => ?_)
      · exact (State.timEnable_within _ _ _ (msub rfl hm) h1)
      · exact h1
    · exact h1
  · exact h1

theorem State.restoreReg_within {msk : Nat} {s00 : State} (s b : State) (d : Die) (a : Nat) (hm : 4294967295 &&& msk = 4294967295) (h0 : Within msk s00 s) (h1 : Within msk s00 b) :
    Within msk s00 (State.restoreReg s b d a) := by
  unfold State.restoreReg
  exact (within_each _ _ h0 (fun _ _ => (within_wrAny _ _ _ _ _ (msub rfl hm) (Within.refl _))))

theorem State.hookAdc_within {msk : Nat} {s00 : State} (b s : State) (l : Lane) (a : Nat) (hm : 176093659135 &&& msk = 176093659135) (h0 : Within msk s00 b) (h1 : Within msk s00 s) :
    Within msk s00 (State.hookAdc b s l a) := by
  unfold State.hookAdc
  lift_lets -useContext -merge -underBinder
  intro x0
  split
  · exact (within_when _ _ h1 (fun _ => (State.bandJudgeAll_within _ _ (msub rfl hm) (Within.refl _))))
  · exact (State.corrWrite_within _ _ _ _ _ (msub rfl hm) (State.restoreReg_within _ _ _ _ (msub rfl hm) h1 h0))
  · exact (State.corrWrite_within _ _ _ _ _ (msub rfl hm) (State.restoreReg_within _ _ _ _ (msub rfl hm) h1 h0))
  · exact (State.asySync_within _ _ (msub rfl hm) (State.sdfCleared_within _ _ _ (msub rfl hm) h1))

theorem State.hookPos_within {msk : Nat} {s00 : State} (b s : State) (l : Lane) (a : Nat) (hm : 4398046511136 &&& msk = 4398046511136) (h0 : Within msk s00 b) (h1 : Within msk s00 s) :
    Within msk s00 (State.hookPos b s l a) := by
  unfold State.hookPos
  lift_lets -useContext -merge -underBinder
  intro x0 x1
  split
  · refine within_dite (fun _ => ?_) (fun _ => ?_)
    · refine within_ite (fun _ => ?_) (fun _ => ?_)
      · exact (within_when _ _ (within_when _ _ h1 (fun _ => (State.ptReconfigured_within _ _ _ (msub rfl hm) (Within.refl _)))) (fun _ => (State.ptSwitch_within _ _ _ (msub rfl hm) (Within.refl _))))
      · exact h1
    · exact h1
  · exact (by
      refine within_dite (fun _ => ?_) (fun _ => ?_)
      · refine within_ite (fun _ => ?_) (fun _ => ?_)
        · exact (State.ptReconfigured_within _ _ _ (msub rfl hm) h1)
        · exact h1
      · exact h1
)
  · exact (by
      refine within_dite (fun _ => ?_) (fun _ => ?_)
      · refine within_ite (fun _ => ?_) (fun _ => ?_)
        · exact (State.ptReconfigured_within _ _ _ (msub rfl hm) h1)
        · exact h1
      · exact h1
)
  · exact (by
      refine within_dite (fun _ => ?_) (fun _ => ?_)
      · refine within_ite (fun _ => ?_) (fun _ => ?_)
        · exact (State.ptReconfigured_within _ _ _ (msub rfl hm) h1)
        · exact h1
      · exact h1
)
  · split
    · refine within_dite (fun _ => ?_) (fun _ => ?_)
      · refine within_ite (fun _ => ?_) (fun _ => ?_)
        · exact (State.resRestart_within _ _ _ (msub rfl hm) h1)
        · exact h1
      · exact h1
    · refine within_dite (fun _ => ?_) (fun _ => ?_)
      · refine within_ite (fun _ => ?_) (fun _ => ?_)
        · exact (State.sentRestart_within _ _ _ (msub rfl hm) h1)
        · exact h1
      · exact h1
    · exact h1

theorem State.hookSlot_within {msk : Nat} {s00 : State} (b s : State) (l : Lane) (a : Nat) (hm : 64 &&& msk = 64) (h0 : Within msk s00 b) (h1 : Within msk s00 s) :
    Within msk s00 (State.hookSlot b s l a) := by
  unfold State.hookSlot
  lift_lets -useContext -merge -underBinder
  intro x0 x1
  split
  · lift_lets -useContext -merge -underBinder
    intro x2
    try clear_value x2
    intro x3
    have hx3 : Within msk s00 x3 := (within_when _ _ h1 (fun _ => (State.modBand_within _ _ _ _ (msub rfl hm) (Within.refl _))))
    clear_value x3
    refine within_ite (fun _ => ?_) (fun _ => ?_)
    · refine within_ite (fun _ => ?_) (fun _ => ?_)
      · exact hx3
      · exact (State.bandStop_within _ _ _ (msub rfl hm) hx3)
    · refine within_ite (fun _ => ?_) (fun _ => ?_)
      · exact (within_ite (fun _ => h1) (fun _ => (State.toSettle_within _ _ _ (msub rfl hm) (State.modBand_within _ _ _ _ (msub rfl hm) h1))))
      · exact hx3
  · refine within_ite (fun _ => ?_) (fun _ => ?_)
    · exact (within_ite (fun _ => h1) (fun _ => (State.toSettle_within _ _ _ (msub rfl hm) (State.modBand_within _ _ _ _ (msub rfl hm) h1))))
    · exact h1
  · refine within_dite (fun _ => ?_) (fun _ => ?_)
    · exact (State.modArith_within _ _ _ _ (msub rfl hm) h1)
    · exact h1
  · refine within_dite (fun _ => ?_) (fun _ => ?_)
    · exact (within_set _ _ _ _ (fsub rfl hm) (State.modArith_within _ _ _ _ (msub rfl hm) h1))
    · exact h1
  · exact h1

theorem State.hookCe_within {msk : Nat} {s00 : State} (b s : State) (l : Lane) (a : Nat) (hm : 171802886340 &&& msk = 171802886340) (h0 : Within msk s00 b) (h1 : Within msk s00 s) :
    Within msk s00 (State.hookCe b s l a) := by
  unfold State.hookCe
  lift_lets -useContext -merge -underBinder
  intro x0
  have hx0 : Within msk s00 x0 := (State.hookSlot_within _ _ _ _ (msub rfl hm) h0 h1)
  clear_value x0
  split
  · exact (State.srcErr_within _ _ _ (msub rfl hm) hx0)
  · exact (State.srcErr_within _ _ _ (msub rfl hm) hx0)
  · exact (State.syncCfgErrs_within _ _ (msub rfl hm) (State.bandJudgeAll_within _ _ (msub rfl hm) hx0))

theorem State.hookTrc_within {msk : Nat} {s00 : State} (b s : State) (l : Lane) (a : Nat) (hm : 0 &&& msk = 0) (h0 : Within msk s00 b) (h1 : Within msk s00 s) :
    Within msk s00 (State.hookTrc b s l a) := by
  unfold State.hookTrc
  split
  · refine within_dite (fun _ => ?_) (fun _ => ?_)
    · refine within_ite (fun _ => ?_) (fun _ => ?_)
      · exact (State.modCe_within _ _ _ (msub rfl hm) h1)
      · exact h1
    · exact h1
  · exact h1

theorem State.dirty_within {msk : Nat} {s00 : State} (s : State) (l : Lane) (t : Nat) (hm : 128 &&& msk = 128) (h0 : Within msk s00 s) :
    Within msk s00 (State.dirty s l t) := by
  refine within_trans h0 ?_
  unfold State.dirty
  exact (within_set _ _ _ _ (fsub rfl hm) (Within.refl _))

theorem State.hookFixed_within {msk : Nat} {s00 : State} (b s : State) (l : Lane) (a : Nat) (hm : 4294967295 &&& msk = 4294967295) (h0 : Within msk s00 b) (h1 : Within msk s00 s) :
    Within msk s00 (State.hookFixed b s l a) := by
  unfold State.hookFixed
  lift_lets -useContext -merge -underBinder
  intro x0 x1
  split
  · exact (within_ite (fun _ => (within_set _ _ _ _ (fsub rfl hm) (State.restoreReg_within _ _ _ _ (msub rfl hm) h1 h0))) (fun _ => h1))
  · exact (within_ite (fun _ => (within_set _ _ _ _ (fsub rfl hm) (State.restoreReg_within _ _ _ _ (msub rfl hm) h1 h0))) (fun _ => h1))
  · exact h1

theorem State.hookPwm_within {msk : Nat} {s00 : State} (b s : State) (l : Lane) (a : Nat) (hm : 176093659135 &&& msk = 176093659135) (h0 : Within msk s00 b) (h1 : Within msk s00 s) :
    Within msk s00 (State.hookPwm b s l a) := by
  unfold State.hookPwm
  lift_lets -useContext -merge -underBinder
  intro x0 x1
  split
  · exact (within_ite (fun _ => (within_set _ _ _ _ (fsub rfl hm) (State.restoreReg_within _ _ _ _ (msub rfl hm) h1 h0))) (fun _ => (within_ite (fun _ => (State.enableCh_within _ _ _ _ (msub rfl hm) h1)) (fun _ => (State.syncCfgErrs_within _ _ (msub rfl hm) (within_when _ _ h1 (fun _ => (State.retrip_within _ _ _ (msub rfl hm) (Within.refl _)))))))))
  · exact (within_ite (fun _ => (within_set _ _ _ _ (fsub rfl hm) (State.restoreReg_within _ _ _ _ (msub rfl hm) h1 h0))) (fun _ => (within_ite (fun _ => (State.enableCh_within _ _ _ _ (msub rfl hm) h1)) (fun _ => (State.syncCfgErrs_within _ _ (msub rfl hm) (within_when _ _ h1 (fun _ => (State.retrip_within _ _ _ (msub rfl hm) (Within.refl _)))))))))
  · exact (State.dirty_within _ _ _ (msub rfl hm) h1)
  · exact (State.dirty_within _ _ _ (msub rfl hm) h1)
  · split
    · refine within_ite (fun _ => ?_) (fun _ => ?_)
      · refine within_ite (fun _ => ?_) (fun _ => ?_)
        · exact (State.startTb_within _ _ _ (msub rfl hm) h1)
        · exact (State.stopTb_within _ _ _ (msub rfl hm) h1)
      · exact h1
    · exact (State.dirty_within _ _ _ (msub rfl hm) h1)
    · exact (State.dirty_within _ _ _ (msub rfl hm) h1)
    · refine within_ite (fun _ => ?_) (fun _ => ?_)
      · exact (State.reach_within _ _ _ (msub rfl hm) h1)
      · exact h1
    · split
      · lift_lets -useContext -merge -underBinder
        intro x4
        have hx4 : Within msk s00 x4 := (within_ite (fun _ => (State.modPwm_within _ _ _ (msub rfl hm) h1)) (fun _ => h1))
        clear_value x4
        exact (State.planEvents_within _ _ _ _ _ (msub rfl hm) hx4)
      · refine within_ite (fun _ => ?_) (fun _ => ?_)
        · exact (within_each _ _ h1 (fun _ _ => (within_when _ _ (Within.refl _) (fun _ => (State.tripAct_within _ _ _ _ (msub rfl hm) (Within.refl _))))))
        · exact h1
      · refine within_ite (fun _ => ?_) (fun _ => ?_)
        · exact (State.syncCfgErrs_within _ _ (msub rfl hm) h1)
        · exact h1

theorem State.hookPap_within {msk : Nat} {s00 : State} (b s : State) (l : Lane) (a v : Nat) (hm : 171802886276 &&& msk = 171802886276) (h0 : Within msk s00 b) (h1 : Within msk s00 s) :
    Within msk s00 (State.hookPap b s l a v) := by
  unfold State.hookPap
  lift_lets -useContext -merge -underBinder
  intro x0
  split
  · lift_lets -useContext -merge -underBinder
    intro x1
    have hx1 : Within msk s00 x1 := (within_wr _ _ _ _ _ (fsub rfl hm) (within_wr _ _ _ _ _ (fsub rfl hm) h1))
    clear_value x1
    exact (State.pdClear_within _ _ _ _ _ (msub rfl hm) hx1)
  · exact (State.actSync_within _ _ (msub rfl hm) h1)
  · refine within_ite (fun _ => ?_) (fun _ => ?_)
    · exact (State.lvpOff_within _ _ (msub rfl hm) h1)
    · exact h1
  · split
    · refine within_ite (fun _ => ?_) (fun _ => ?_)
      · refine within_ite (fun _ => ?_) (fun _ => ?_)
        · exact (State.redriveAll_within _ _ (msub rfl hm) h1)
        · exact (State.modHb_within _ _ _ _ (msub rfl hm) (State.pdOff_within _ _ _ _ (msub rfl hm) (State.pdOff_within _ _ _ _ (msub rfl hm) h1)))
      · exact h1
    · exact h1

theorem State.afterWrite_within {msk : Nat} {s00 : State} (b s : State) (l : Lane) (d : Die) (a v : Nat) (hm : 4591320039423 &&& msk = 4591320039423) (h0 : Within msk s00 b) (h1 : Within msk s00 s) :
    Within msk s00 (State.afterWrite b s l d a v) := by
  unfold State.afterWrite
  refine within_ite (fun _ => ?_) (fun _ => ?_)
  · exact (State.hookPap_within _ _ _ _ _ (msub rfl hm) h0 h1)
  · refine within_ite (fun _ => ?_) (fun _ => ?_)
    · refine within_ite (fun _ => ?_) (fun _ => ?_)
      · exact (State.bootNext_within _ _ _ (msub rfl hm) h0)
      · refine within_ite (fun _ => ?_) (fun _ => ?_)
        · exact (State.hookTim_within _ _ _ _ (msub rfl hm) h0 h1)
        · refine within_ite (fun _ => ?_) (fun _ => ?_)
          · exact (State.hookFixed_within _ _ _ _ (msub rfl hm) h0 h1)
          · refine within_ite (fun _ => ?_) (fun _ => ?_)
            · exact (State.hookTrc_within _ _ _ _ (msub rfl hm) h0 h1)
            · refine within_ite (fun _ => ?_) (fun _ => ?_)
              · exact (State.hookAdc_within _ _ _ _ (msub rfl hm) h0 h1)
              · refine within_ite (fun _ => ?_) (fun _ => ?_)
                · exact (State.hookPos_within _ _ _ _ (msub rfl hm) h0 h1)
                · refine within_ite (fun _ => ?_) (fun _ => ?_)
                  · exact (State.hookCe_within _ _ _ _ (msub rfl hm) h0 h1)
                  · refine within_ite (fun _ => ?_) (fun _ => ?_)
                    · exact (State.hookPwm_within _ _ _ _ (msub rfl hm) h0 h1)
                    · refine within_ite (fun _ => ?_) (fun _ => ?_)
                      · exact h1
                      · exact (State.syncCfgErrs_within _ _ (msub rfl hm) h1)
    · exact h1


end Sys2Proof.Machine
end

