-- ==== Sys2Proof/Laws/WithinKeeper.lean ====
section
/-!
SUPPORT. The operations of Machine/Keeper.lean change nothing outside their masks (Laws/Within.lean).
-/
namespace Sys2Proof.Machine

theorem State.modKeep_within {msk : Nat} {s00 : State} (s : State) (l : Lane) (f : KeeperSt → KeeperSt) (hm : 137438953472 &&& msk = 137438953472) (h0 : Within msk s00 s) :
    Within msk s00 (State.modKeep s l f) := by
  refine within_trans h0 ?_
  unfold State.modKeep
  exact (State.modPap_within _ _ _ (msub rfl hm) (Within.refl _))

theorem State.keepTake_within {msk : Nat} {s00 : State} (s : State) (l : Lane) (a : KeepAction) (t : Nat) (hm : 7013681594367 &&& msk = 7013681594367) (h0 : Within msk s00 s) :
    Within msk s00 (State.keepTake s l a t) := by
  refine within_trans h0 ?_
  unfold State.keepTake
  lift_lets -useContext -merge -underBinder
  intro x0
  have hx0 : Within msk s x0 := by
    unfold x0
    split
    · exact (within_wrAny _ _ _ _ _ (msub rfl hm) (Within.refl _))
    · exact (Within.refl _)
  clear_value x0
  intro x1
  have hx1 : Within msk s x1 := (State.modKeep_within _ _ _ (msub rfl hm) hx0)
  clear_value x1
  split
  · exact hx1
  · exact (State.wake_within _ _ _ _ (msub rfl hm) hx1)
  · lift_lets -useContext -merge -underBinder
    intro x2
    have hx2 : Within msk s x2 := (State.modKeep_within _ _ _ (msub rfl hm) hx1)
    clear_value x2
    exact (Within.of_frame hx2 rfl rfl rfl (.inr rfl) (.inr rfl) (.inr ⟨rfl, rfl⟩) (.inr rfl) (.inr rfl) (.inr rfl) (.inl (bsub rfl hm)) (.inr rfl) (.inr ⟨rfl, rfl⟩))
  · exact (State.asyTrigger_within _ _ _ (msub rfl hm) (State.modKeep_within _ _ _ (msub rfl hm) hx1))

theorem State.keepDecide_within {msk : Nat} {s00 : State} (s : State) (l : Lane) (a : KeepAction) (hm : 7013681594367 &&& msk = 7013681594367) (h0 : Within msk s00 s) :
    Within msk s00 (State.keepDecide s l a) := by
  refine within_trans h0 ?_
  unfold State.keepDecide
  exact (State.modKeep_within _ _ _ (msub rfl hm) (State.keepTake_within _ _ _ _ (msub rfl hm) (Within.refl _)))

theorem State.keeperStore_within {msk : Nat} {s00 : State} (s : State) (l : Lane) (hm : 7013681594367 &&& msk = 7013681594367) (h0 : Within msk s00 s) :
    Within msk s00 (State.keeperStore s l) := by
  refine within_trans h0 ?_
  unfold State.keeperStore
  refine within_ite (fun _ => ?_) (fun _ => ?_)
  · exact (State.keepDecide_within _ _ _ (msub rfl hm) (Within.refl _))
  · exact (Within.refl _)

theorem execBtnPress_within {msk : Nat} (l : Lane) (s : State) (hm : 137443147776 &&& msk = 137443147776) :
    WithinOut msk s (execBtnPress l s) := by
  unfold execBtnPress
  lift_lets -useContext -merge -underBinder
  intro x0
  have hx0 : Within msk s x0 := (within_set _ _ _ _ (fsub rfl hm) (Within.refl _))
  clear_value x0
  exact withinOut_next (within_ite (fun _ => (within_ite (fun _ => hx0) (fun _ => (State.modKeep_within _ _ _ (msub rfl hm) hx0)))) (fun _ => (Within.refl _)))

theorem State.keepMark_within {msk : Nat} {s00 : State} (s : State) (l : Lane) (hm : 7013681594367 &&& msk = 7013681594367) (h0 : Within msk s00 s) :
    Within msk s00 (State.keepMark s l) := by
  refine within_trans h0 ?_
  unfold State.keepMark
  lift_lets -useContext -merge -underBinder
  intro x0
  have hx0 : Within msk s x0 := (State.modKeep_within _ _ _ (msub rfl hm) (Within.refl _))
  clear_value x0
  intro x1
  have hx1 : Within msk s x1 := (within_when _ _ hx0 (fun _ => (within_modDep _ (msub rfl hm) (Within.refl _))))
  clear_value x1
  refine within_ite (fun _ => ?_) (fun _ => ?_)
  · refine within_ite (fun _ => ?_) (fun _ => ?_)
    · exact (State.keepDecide_within _ _ _ (msub rfl hm) hx0)
    · exact hx0
  · refine within_ite (fun _ => ?_) (fun _ => ?_)
    · exact (State.keepDecide_within _ _ _ (msub rfl hm) hx1)
    · exact (within_set _ _ _ _ (fsub rfl hm) hx1)

theorem execBtnRelease_within {msk : Nat} (l : Lane) (ms_ : Nat) (s0 : State) (hm : 15809774616575 &&& msk = 15809774616575) :
    WithinOut msk s0 (execBtnRelease l ms_ s0) := by
  unfold execBtnRelease
  lift_lets -useContext -merge -underBinder
  intro x0 x1
  have hx1 : Within msk s0 x1 := by
    unfold x1
    split
    · exact (within_advTo _ (msub rfl hm) (Within.refl _))
    · exact (Within.refl _)
  clear_value x1
  intro x2
  have hx2 : Within msk s0 x2 := (within_wrSat _ _ _ _ _ (fsub rfl hm) (within_clr _ _ _ _ (fsub rfl hm) hx1))
  clear_value x2
  intro x3
  have hx3 : Within msk s0 x3 := (within_when _ _ hx2 (fun _ => (within_modDep _ (msub rfl hm) (Within.refl _))))
  clear_value x3
  intro x5
  try clear_value x5
  intro x6
  have hx6 : Within msk s0 x6 := (State.modKeep_within _ _ _ (msub rfl hm) hx3)
  clear_value x6
  exact withinOut_next (within_ite (fun _ => (within_ite (fun _ => hx6) (fun _ => (within_ite (fun _ => (State.keepMark_within _ _ (msub rfl hm) hx6)) (fun _ => (within_ite (fun _ => (within_ite (fun _ => (State.keepDecide_within _ _ _ (msub rfl hm) hx6)) (fun _ => hx6))) (fun _ => (within_ite (fun _ => hx6) (fun _ => (within_ite (fun _ => (State.keepDecide_within _ _ _ (msub rfl hm) hx6)) (fun _ => (within_set _ _ _ _ (fsub rfl hm) hx6)))))))))))) (fun _ => hx1))

theorem execBtnHeldMark_within {msk : Nat} (l : Lane) (s : State) (hm : 15809774616575 &&& msk = 15809774616575) :
    WithinOut msk s (execBtnHeldMark l s) := by
  unfold execBtnHeldMark
  exact withinOut_next (by
    split
    · refine within_ite (fun _ => ?_) (fun _ => ?_)
      · exact (State.keepMark_within _ _ (msub rfl hm) (within_advTo _ (msub rfl hm) (Within.refl _)))
      · exact (Within.refl _)
    · exact (Within.refl _)
)

theorem execBtnHeld8s_within {msk : Nat} (l : Lane) (s : State) (hm : 9070970929152 &&& msk = 9070970929152) :
    WithinOut msk s (execBtnHeld8s l s) := by
  unfold execBtnHeld8s
  exact withinOut_next (by
    split
    · refine within_ite (fun _ => ?_) (fun _ => ?_)
      · exact (within_modDep _ (msub rfl hm) (within_advTo _ (msub rfl hm) (Within.refl _)))
      · exact (Within.refl _)
    · exact (Within.refl _)
)

theorem execKeeperDecisionReceived_within {msk : Nat} (l : Lane) (s : State) (hm : 7013681594367 &&& msk = 7013681594367) :
    WithinOut msk s (execKeeperDecisionReceived l s) := by
  unfold execKeeperDecisionReceived
  exact withinOut_next (by
    split
    · refine within_ite (fun _ => ?_) (fun _ => ?_)
      · exact (State.keepTake_within _ _ _ _ (msub rfl hm) (Within.refl _))
      · exact (Within.refl _)
    · exact (Within.refl _)
)

theorem State.batteryOpen_within {msk : Nat} {s00 : State} (s : State) (hm : 1632087572479 &&& msk = 1632087572479) (h0 : Within msk s00 s) :
    Within msk s00 (State.batteryOpen s) := by
  refine within_trans h0 ?_
  unfold State.batteryOpen
  lift_lets -useContext -merge -underBinder
  intro x0
  have hx0 : Within msk s x0 := (within_ite (fun _ => (State.depGone_within _ _ (msub rfl hm) (Within.refl _))) (fun _ => (within_modDep _ (msub rfl hm) (Within.refl _))))
  clear_value x0
  exact (within_each _ _ hx0 (fun _ _ => (State.setSupplies_within _ _ _ (msub rfl hm) (State.papUnpower_within _ _ (msub rfl hm) (State.islandFault_within _ _ _ (msub rfl hm) (Within.refl _))))))

theorem execKeeperActionStep_within {msk : Nat} (l : Lane) (s : State) (hm : 12627203850239 &&& msk = 12627203850239) :
    WithinOut msk s (execKeeperActionStep l s) := by
  unfold execKeeperActionStep
  lift_lets -useContext -merge -underBinder
  intro x0
  try clear_value x0
  exact withinOut_next (within_ite (fun _ => (Within.refl _)) (fun _ => (by
    split
    · exact (Within.refl _)
    · lift_lets -useContext -merge -underBinder
      intro x1
      have hx1 : Within msk s x1 := (State.modKeep_within _ _ _ (msub rfl hm) (within_advTo _ (msub rfl hm) (Within.refl _)))
      clear_value x1
      split
      · exact (State.modKeep_within _ _ _ (msub rfl hm) hx1)
      · lift_lets -useContext -merge -underBinder
        intro x2
        have hx2 : Within msk s x2 := (State.batteryOpen_within _ (msub rfl hm) (State.modKeep_within _ _ _ (msub rfl hm) hx1))
        clear_value x2
        refine within_ite (fun _ => ?_) (fun _ => ?_)
        · exact (Within.of_frame hx2 rfl rfl rfl (.inr rfl) (.inr rfl) (.inr ⟨rfl, rfl⟩) (.inr rfl) (.inr rfl) (.inr rfl) (.inl (bsub rfl hm)) (.inr rfl) (.inr ⟨rfl, rfl⟩))
        · exact hx2
      · exact (State.modKeep_within _ _ _ (msub rfl hm) hx1)
      · exact (State.modKeep_within _ _ _ (msub rfl hm) hx1)
      · exact (State.modKeep_within _ _ _ (msub rfl hm) hx1)
)))

theorem execLampSlot_within {msk : Nat} (s : State) (hm : 274877906944 &&& msk = 274877906944) :
    WithinOut msk s (execLampSlot s) := by
  unfold execLampSlot
  lift_lets -useContext -merge -underBinder
  intro x0
  try clear_value x0
  exact withinOut_next (within_ite (fun _ => (within_modDep _ (msub rfl hm) (Within.refl _))) (fun _ => (Within.refl _)))


end Sys2Proof.Machine
end

