-- ==== Sys2Proof/Laws/WithinVrc.lean ====
section
/-!
SUPPORT. The operations of Machine/Vrc.lean change nothing outside their masks (Laws/Within.lean).
-/
namespace Sys2Proof.Machine

theorem execVrcSettled_within {msk : Nat} (l : Lane) (s : State) (hm : 8933531975680 &&& msk = 8933531975680) :
    WithinOut msk s (execVrcSettled l s) := by
  unfold execVrcSettled
  lift_lets -useContext -merge -underBinder
  intro x0
  try clear_value x0
  exact withinOut_next (by
    split
    · exact (Within.refl _)
    · lift_lets -useContext -merge -underBinder
      intro x1
      have hx1 : Within msk s x1 := (within_advTo _ (msub rfl hm) (Within.refl _))
      clear_value x1
      refine within_ite (fun _ => ?_) (fun _ => ?_)
      · exact (State.modVrc_within _ _ _ (msub rfl hm) (State.owe_within _ _ _ (msub rfl hm) hx1))
      · exact (Within.refl _)
)

theorem State.railSense_within {msk : Nat} {s00 : State} (s : State) (l : Lane) (m : RailSample) (hm : 4535489658880 &&& msk = 4535489658880) (h0 : Within msk s00 s) :
    Within msk s00 (State.railSense s l m) := by
  refine within_trans h0 ?_
  unfold State.railSense
  lift_lets -useContext -merge -underBinder
  intro x0 x1
  try clear_value x1
  intro x2
  have hx2 : Within1 msk s x2 := (State.quot_within _ _ _ (msub rfl hm) (Within.refl _))
  clear_value x2
  intro x3
  try clear_value x3
  intro x4
  have hx4 : Within msk s x4 := (State.modVrc_within _ _ _ (msub rfl hm) hx2.h)
  clear_value x4
  intro x5
  have hx5 : Within msk s x5 := (within_each _ _ (within_inc _ _ _ _ _ (fsub rfl hm) (within_wrSat _ _ _ _ _ (fsub rfl hm) (within_wrSat _ _ _ _ _ (fsub rfl hm) hx4))) (fun _ _ => (within_wrS _ _ _ _ _ (fsub rfl hm) (Within.refl _))))
  clear_value x5
  exact (State.modVrc_within _ _ _ (msub rfl hm) hx5)

theorem execVrcUpdate_within {msk : Nat} (l : Lane) (m : RailSample) (s : State) (hm : 13331582681088 &&& msk = 13331582681088) :
    WithinOut msk s (execVrcUpdate l m s) := by
  unfold execVrcUpdate
  lift_lets -useContext -merge -underBinder
  intro x0 x1
  have hx1 : Within msk s x1 := (State.modVrc_within _ _ _ (msub rfl hm) (within_advTo _ (msub rfl hm) (Within.refl _)))
  clear_value x1
  intro x2
  have hx2 : Within msk s x2 := (within_ite (fun _ => (State.setShed_within _ _ _ (msub rfl hm) hx1)) (fun _ => hx1))
  clear_value x2
  intro x3
  try clear_value x3
  intro x4
  try clear_value x4
  intro x5
  try clear_value x5
  intro x6
  try clear_value x6
  intro x7
  have hx7 : Within1 msk s x7 := (State.quot_within _ _ _ (msub rfl hm) hx2)
  clear_value x7
  intro x8
  try clear_value x8
  intro x9
  have hx9 : Within1 msk s x9 := (State.quot_within _ _ _ (msub rfl hm) hx7.h)
  clear_value x9
  intro x10
  try clear_value x10
  intro x11
  have hx11 : Within1 msk s x11 := (State.quot_within _ _ _ (msub rfl hm) hx9.h)
  clear_value x11
  intro x12
  try clear_value x12
  intro x13
  try clear_value x13
  intro x14
  have hx14 : Within msk s x14 := (State.modVrc_within _ _ _ (msub rfl hm) hx11.h)
  clear_value x14
  exact withinOut_next (within_ite (fun _ => (Within.refl _)) (fun _ => (State.railSense_within _ _ _ (msub rfl hm) (within_wr _ _ _ _ _ (fsub rfl hm) hx14))))

theorem execVrcShed_within {msk : Nat} (l : Lane) (s : State) (hm : 8933536169984 &&& msk = 8933536169984) :
    WithinOut msk s (execVrcShed l s) := by
  unfold execVrcShed
  exact withinOut_next (by
    split
    · exact (Within.refl _)
    · lift_lets -useContext -merge -underBinder
      intro x0
      have hx0 : Within msk s x0 := (within_advTo _ (msub rfl hm) (Within.refl _))
      clear_value x0
      refine within_ite (fun _ => ?_) (fun _ => ?_)
      · exact (State.setShed_within _ _ _ (msub rfl hm) hx0)
      · exact (Within.refl _)
)

theorem execVrcShedRampEnd_within {msk : Nat} (l : Lane) (s : State) (hm : 8933536169984 &&& msk = 8933536169984) :
    WithinOut msk s (execVrcShedRampEnd l s) := by
  unfold execVrcShedRampEnd
  lift_lets -useContext -merge -underBinder
  intro x0
  try clear_value x0
  intro x1
  have hx1 : Within msk s x1 := (within_advTo _ (msub rfl hm) (Within.refl _))
  clear_value x1
  intro x2
  have hx2 : Within msk s x2 := (within_inc _ _ _ _ _ (fsub rfl hm) (State.setShed_within _ _ _ (msub rfl hm) hx1))
  clear_value x2
  exact withinOut_next (within_ite (fun _ => (within_ite (fun _ => (State.setShed_within _ _ _ (msub rfl hm) hx2)) (fun _ => hx2))) (fun _ => (Within.refl _)))

theorem execVrcRestore_within {msk : Nat} (l : Lane) (s : State) (hm : 137443147776 &&& msk = 137443147776) :
    WithinOut msk s (execVrcRestore l s) := by
  unfold execVrcRestore
  exact withinOut_next (within_ite (fun _ => (State.vrcRestore_within _ _ (msub rfl hm) (Within.refl _))) (fun _ => (Within.refl _)))


end Sys2Proof.Machine
end

