-- ==== Sys2Proof/Laws/WithinAccess.lean ====
section
/-!
SUPPORT. The operations of Machine/Access.lean change nothing outside their masks (Laws/Within.lean).
-/
namespace Sys2Proof.Machine

theorem State.writeField_within {msk : Nat} {s00 : State} (s : State) (l : Lane) (d : Die) (x : Fld × Nat × Nat) (v : Nat) (hm : 4294967295 &&& msk = 4294967295) (h0 : Within msk s00 s) :
    Within msk s00 (State.writeField s l d x v) := by
  refine within_trans h0 ?_
  unfold State.writeField
  lift_lets -useContext -merge -underBinder
  intro x0
  try clear_value x0
  intro x1 x2
  try clear_value x2
  intro x3
  try clear_value x3
  intro x4
  try clear_value x4
  split
  · exact (within_wrAny _ _ _ _ _ (msub rfl hm) (Within.refl _))
  · exact (within_wrAny _ _ _ _ _ (msub rfl hm) (Within.refl _))
  · refine within_ite (fun _ => ?_) (fun _ => ?_)
    · exact (Within.refl _)
    · exact (within_wrAny _ _ _ _ _ (msub rfl hm) (Within.refl _))
  · exact (within_wrAny _ _ _ _ _ (msub rfl hm) (Within.refl _))
  · exact (Within.refl _)
  · exact (Within.refl _)
  · exact (Within.refl _)

theorem State.writeReg_within {msk : Nat} {s00 : State} (s : State) (l : Lane) (who : Initiator) (d : Die) (a v : Nat) (hm : 4866197946367 &&& msk = 4866197946367) (h0 : Within msk s00 s) :
    Within msk s00 (State.writeReg s l who d a v) := by
  refine within_trans h0 ?_
  unfold State.writeReg
  lift_lets -useContext -merge -underBinder
  intro x0
  try clear_value x0
  refine within_ite (fun _ => ?_) (fun _ => ?_)
  · exact (State.accessError_within _ _ _ _ _ _ (msub rfl hm) (Within.refl _))
  · refine within_ite (fun _ => ?_) (fun _ => ?_)
    · exact (State.accessError_within _ _ _ _ _ _ (msub rfl hm) (Within.refl _))
    · refine within_ite (fun _ => ?_) (fun _ => ?_)
      · exact (Within.refl _)
      · refine within_ite (fun _ => ?_) (fun _ => ?_)
        · exact (State.accessError_within _ _ _ _ _ _ (msub rfl hm) (Within.refl _))
        · split
          · exact (State.soCmd_within _ _ _ _ _ (msub rfl hm) (Within.refl _))
          · lift_lets -useContext -merge -underBinder
            intro x1
            have hx1 : Within msk s x1 := (within_each _ _ (Within.refl _) (fun _ _ => (State.writeField_within _ _ _ _ _ (msub rfl hm) (Within.refl _))))
            clear_value x1
            intro x4
            have hx4 : Within msk s x4 := (State.afterWrite_within _ _ _ _ _ _ (msub rfl hm) (Within.refl _) hx1)
            clear_value x4
            refine within_ite (fun _ => ?_) (fun _ => ?_)
            · exact (State.accessError_within _ _ _ _ _ _ (msub rfl hm) hx4)
            · exact hx4

theorem State.clearRc_within {msk : Nat} {s00 : State} (s : State) (d : Die) (a : Nat) (hm : 4294967295 &&& msk = 4294967295) (h0 : Within msk s00 s) :
    Within msk s00 (State.clearRc s d a) := by
  refine within_trans h0 ?_
  unfold State.clearRc
  exact (within_each _ _ (Within.refl _) (fun _ _ => (within_ite (fun _ => (within_wrAny _ _ _ _ _ (msub rfl hm) (Within.refl _))) (fun _ => (Within.refl _)))))

theorem State.readReg_within {msk : Nat} {s00 : State} (s : State) (l : Lane) (d : Die) (a : Nat) (hm : 4402341478399 &&& msk = 4402341478399) (h0 : Within msk s00 s) :
    Within1 msk s00 (State.readReg s l d a) := by
  refine within1_trans h0 ?_
  unfold State.readReg
  lift_lets -useContext -merge -underBinder
  intro x0
  try clear_value x0
  intro x1
  try clear_value x1
  refine within1_ite (fun _ => ?_) (fun _ => ?_)
  · refine within1_ite (fun _ => ?_) (fun _ => ?_)
    · exact (within1_free _ (msub rfl hm) (Within.refl _))
    · exact ⟨Within.snd (Within.refl _)⟩
  · refine within1_ite (fun _ => ?_) (fun _ => ?_)
    · exact ⟨Within.snd (within1_free _ (msub rfl hm) (Within.refl _)).h⟩
    · refine within1_ite (fun _ => ?_) (fun _ => ?_)
      · exact ⟨Within.snd (within_modRun _ _ (Within.refl _) fun _ => ⟨rfl, rfl⟩)⟩
      · refine within1_ite (fun _ => ?_) (fun _ => ?_)
        · exact ⟨Within.snd (within_modRun _ _ (Within.refl _) fun _ => ⟨rfl, rfl⟩)⟩
        · exact ⟨Within.snd (State.clearRc_within _ _ _ (msub rfl hm) (Within.refl _))⟩

theorem State.writeMem_within {msk : Nat} {s00 : State} (s : State) (l : Lane) (who : Initiator) (width a v : Nat) (hm : 4294967297 &&& msk = 4294967297) (h0 : Within msk s00 s) :
    Within msk s00 (State.writeMem s l who width a v) := by
  refine within_trans h0 ?_
  unfold State.writeMem
  lift_lets -useContext -merge -underBinder
  intro x0
  try clear_value x0
  refine within_ite (fun _ => ?_) (fun _ => ?_)
  · exact (State.accessError_within _ _ _ _ _ _ (msub rfl hm) (Within.refl _))
  · exact (within_setBytes _ _ _ (msub rfl hm) (Within.refl _))

theorem State.writeAccess_within {msk : Nat} {s00 : State} (s : State) (l : Lane) (who : Initiator) (width a v : Nat) (hm : 4879082848255 &&& msk = 4879082848255) (h0 : Within msk s00 s) :
    Within msk s00 (State.writeAccess s l who width a v) := by
  refine within_trans h0 ?_
  unfold State.writeAccess
  split
  · exact (State.accessError_within _ _ _ _ _ _ (msub rfl hm) (Within.refl _))
  · exact (State.accessError_within _ _ _ _ _ _ (msub rfl hm) (Within.refl _))
  · exact (State.accessError_within _ _ _ _ _ _ (msub rfl hm) (Within.refl _))
  · exact (State.accessError_within _ _ _ _ _ _ (msub rfl hm) (Within.refl _))
  · refine within_ite (fun _ => ?_) (fun _ => ?_)
    · exact (State.writeMem_within _ _ _ _ _ _ (msub rfl hm) (Within.refl _))
    · exact (State.accessError_within _ _ _ _ _ _ (msub rfl hm) (Within.refl _))
  · refine within_ite (fun _ => ?_) (fun _ => ?_)
    · exact (State.writeMem_within _ _ _ _ _ _ (msub rfl hm) (Within.refl _))
    · exact (State.accessError_within _ _ _ _ _ _ (msub rfl hm) (Within.refl _))
  · exact (State.writeMem_within _ _ _ _ _ _ (msub rfl hm) (Within.refl _))
  · refine within_ite (fun _ => ?_) (fun _ => ?_)
    · exact (State.accessError_within _ _ _ _ _ _ (msub rfl hm) (Within.refl _))
    · exact (within_setTable _ _ _ (msub rfl hm) (Within.refl _))
  · refine within_ite (fun _ => ?_) (fun _ => ?_)
    · exact (State.accessError_within _ _ _ _ _ _ (msub rfl hm) (Within.refl _))
    · refine within_ite (fun _ => ?_) (fun _ => ?_)
      · exact (State.accessError_within _ _ _ _ _ _ (msub rfl hm) (Within.refl _))
      · refine within_ite (fun _ => ?_) (fun _ => ?_)
        · exact (State.accessError_within _ _ _ _ _ _ (msub rfl hm) (Within.refl _))
        · exact (State.writeReg_within _ _ _ _ _ _ (msub rfl hm) (Within.refl _))

theorem State.ret_within {msk : Nat} {s00 : State} (s : State) (l : Lane) (v : Nat) (hm : 0 &&& msk = 0) (h0 : Within msk s00 s) :
    Within msk s00 (State.ret s l v) := by
  refine within_trans h0 ?_
  unfold State.ret
  exact (within_modRun _ _ (Within.refl _) fun _ => ⟨rfl, rfl⟩)

theorem State.readError_within {msk : Nat} {s00 : State} (s : State) (l : Lane) (who : Initiator) (a : Nat) (r : Reason) (hm : 1 &&& msk = 1) (h0 : Within msk s00 s) :
    Within msk s00 (State.readError s l who a r) := by
  refine within_trans h0 ?_
  unfold State.readError
  exact (State.ret_within _ _ _ (msub rfl hm) (State.accessError_within _ _ _ _ _ _ (msub rfl hm) (Within.refl _)))

theorem State.readMem_within {msk : Nat} {s00 : State} (s : State) (l : Lane) (who : Initiator) (width a : Nat) (hm : 1 &&& msk = 1) (h0 : Within msk s00 s) :
    Within msk s00 (State.readMem s l who width a) := by
  refine within_trans h0 ?_
  unfold State.readMem
  lift_lets -useContext -merge -underBinder
  intro x0
  try clear_value x0
  refine within_ite (fun _ => ?_) (fun _ => ?_)
  · exact (State.readError_within _ _ _ _ _ (msub rfl hm) (Within.refl _))
  · exact (State.ret_within _ _ _ (msub rfl hm) (Within.refl _))

theorem State.readConfig_within {msk : Nat} {s00 : State} (s : State) (l : Lane) (who : Initiator) (width a : Nat) (hm : 4398046511105 &&& msk = 4398046511105) (h0 : Within msk s00 s) :
    Within msk s00 (State.readConfig s l who width a) := by
  refine within_trans h0 ?_
  unfold State.readConfig
  lift_lets -useContext -merge -underBinder
  intro x0
  try clear_value x0
  refine within_ite (fun _ => ?_) (fun _ => ?_)
  · exact (State.readError_within _ _ _ _ _ (msub rfl hm) (Within.refl _))
  · split
    · exact (State.ret_within _ _ _ (msub rfl hm) (Within.refl _))
    · exact (State.ret_within _ _ _ (msub rfl hm) (within1_free _ (msub rfl hm) (Within.refl _)).h)

theorem State.readAccess_within {msk : Nat} {s00 : State} (s : State) (l : Lane) (who : Initiator) (width a : Nat) (hm : 4402341478399 &&& msk = 4402341478399) (h0 : Within msk s00 s) :
    Within msk s00 (State.readAccess s l who width a) := by
  refine within_trans h0 ?_
  unfold State.readAccess
  split
  · exact (State.readError_within _ _ _ _ _ (msub rfl hm) (Within.refl _))
  · exact (State.ret_within _ _ _ (msub rfl hm) (within1_free _ (msub rfl hm) (Within.refl _)).h)
  · exact (State.readConfig_within _ _ _ _ _ (msub rfl hm) (Within.refl _))
  · refine within_ite (fun _ => ?_) (fun _ => ?_)
    · exact (State.readError_within _ _ _ _ _ (msub rfl hm) (Within.refl _))
    · exact (State.ret_within _ _ _ (msub rfl hm) (Within.refl _))
  · refine within_ite (fun _ => ?_) (fun _ => ?_)
    · exact (State.readMem_within _ _ _ _ _ (msub rfl hm) (Within.refl _))
    · exact (State.readError_within _ _ _ _ _ (msub rfl hm) (Within.refl _))
  · refine within_ite (fun _ => ?_) (fun _ => ?_)
    · exact (State.readMem_within _ _ _ _ _ (msub rfl hm) (Within.refl _))
    · exact (State.readError_within _ _ _ _ _ (msub rfl hm) (Within.refl _))
  · exact (State.readMem_within _ _ _ _ _ (msub rfl hm) (Within.refl _))
  · refine within_ite (fun _ => ?_) (fun _ => ?_)
    · exact (State.readError_within _ _ _ _ _ (msub rfl hm) (Within.refl _))
    · exact (State.ret_within _ _ _ (msub rfl hm) (Within.refl _))
  · refine within_ite (fun _ => ?_) (fun _ => ?_)
    · exact (State.readError_within _ _ _ _ _ (msub rfl hm) (Within.refl _))
    · refine within_ite (fun _ => ?_) (fun _ => ?_)
      · exact (State.readError_within _ _ _ _ _ (msub rfl hm) (Within.refl _))
      · refine within_ite (fun _ => ?_) (fun _ => ?_)
        · exact (State.readError_within _ _ _ _ _ (msub rfl hm) (Within.refl _))
        · refine within_ite (fun _ => ?_) (fun _ => ?_)
          · exact (State.readError_within _ _ _ _ _ (msub rfl hm) (Within.refl _))
          · refine within_ite (fun _ => ?_) (fun _ => ?_)
            · exact (State.talPop_within _ _ (msub rfl hm) (Within.refl _))
            · refine within_ite (fun _ => ?_) (fun _ => ?_)
              · exact (State.adcPop_within _ _ _ (msub rfl hm) (Within.refl _))
              · exact (State.ret_within _ _ _ (msub rfl hm) (State.readReg_within _ _ _ _ (msub rfl hm) (Within.refl _)).h)

theorem execRegisterWrite_within {msk : Nat} (l : Lane) (who : Initiator) (width addr value : Nat) (s : State) (hm : 4879082848255 &&& msk = 4879082848255) :
    WithinOut msk s (execRegisterWrite l who width addr value s) := by
  unfold execRegisterWrite
  exact withinOut_next (within_ite (fun _ => (State.writeAccess_within _ _ _ _ _ _ (msub rfl hm) (Within.refl _))) (fun _ => (Within.refl _)))

theorem execReadLowWordLatch_within {msk : Nat} (l : Lane) (who : Initiator) (width addr : Nat) (s : State) (hm : 4402341478399 &&& msk = 4402341478399) :
    WithinOut msk s (execReadLowWordLatch l who width addr s) := by
  unfold execReadLowWordLatch
  exact withinOut_next (within_ite (fun _ => (State.readAccess_within _ _ _ _ _ (msub rfl hm) (Within.refl _))) (fun _ => (Within.refl _)))


end Sys2Proof.Machine
end

