-- ==== Sys2Proof/Laws/WithinLink.lean ====
section
/-!
SUPPORT. The operations of Machine/Link.lean change nothing outside their masks (Laws/Within.lean).
-/
namespace Sys2Proof.Machine

theorem execLinkFrameState_within {msk : Nat} (l : Lane) (flips : List (BitVec 8)) (s : State) (hm : 2101248 &&& msk = 2101248) :
    WithinOut msk s (execLinkFrameState l flips s) := by
  unfold execLinkFrameState
  exact withinOut_next (State.frame_within _ _ _ _ _ _ _ _ _ _ (msub rfl hm) (Within.refl _) (fun _ => (Within.refl _)) (fun _ => (State.stateGot_within _ _ (msub rfl hm) (Within.refl _))))

theorem execLinkFrameIdle_within {msk : Nat} (l : Lane) (flips : List (BitVec 8)) (s : State) (hm : 4096 &&& msk = 4096) :
    WithinOut msk s (execLinkFrameIdle l flips s) := by
  unfold execLinkFrameIdle
  exact withinOut_next (State.frame_within _ _ _ _ _ _ _ _ _ _ (msub rfl hm) (Within.refl _) (fun _ => (Within.refl _)) (fun _ => (Within.refl _)))

theorem execLinkFrameIn_within {msk : Nat} (l : Lane) (flips : List (BitVec 8)) (s : State) (hm : 4096 &&& msk = 4096) :
    WithinOut msk s (execLinkFrameIn l flips s) := by
  unfold execLinkFrameIn
  lift_lets -useContext -merge -underBinder
  intro x0
  exact withinOut_next (by
    split
    · exact (Within.refl _)
    · exact (State.frame_within _ _ _ _ _ _ _ _ _ _ (msub rfl hm) (Within.refl _) (fun _ => (State.modLnk_within _ _ _ (msub rfl hm) (Within.refl _))) (fun y2 => (within_ite (fun _ => (by
        lift_lets -useContext -merge -underBinder
        intro x3
        have hx3 : Within msk y2 x3 := (within_each _ _ (Within.refl _) (fun _ _ => (within_set _ _ _ _ (fsub rfl hm) (within_wr _ _ _ _ _ (fsub rfl hm) (within_wr _ _ _ _ _ (fsub rfl hm) (Within.refl _))))))
        clear_value x3
        exact (within_modRun _ _ hx3 fun _ => ⟨rfl, rfl⟩)
)) (fun _ => (Within.refl _)))))
)

theorem execLinkFrameCmp_within {msk : Nat} (l : Lane) (flips : List (BitVec 8)) (s : State) (hm : 4096 &&& msk = 4096) :
    WithinOut msk s (execLinkFrameCmp l flips s) := by
  unfold execLinkFrameCmp
  lift_lets -useContext -merge -underBinder
  intro x0
  exact withinOut_next (by
    split
    · exact (Within.refl _)
    · exact (State.frame_within _ _ _ _ _ _ _ _ _ _ (msub rfl hm) (Within.refl _) (fun _ => (State.modLnk_within _ _ _ (msub rfl hm) (Within.refl _))) (fun _ => (within_ite (fun _ => (within_modRun _ _ (within_each _ _ (Within.refl _) (fun _ _ => (within_wr _ _ _ _ _ (fsub rfl hm) (Within.refl _)))) fun _ => ⟨rfl, rfl⟩)) (fun _ => (Within.refl _)))))
)

theorem execLinkFrameCopy_within {msk : Nat} (l : Lane) (flips : List (BitVec 8)) (s : State) (hm : 4096 &&& msk = 4096) :
    WithinOut msk s (execLinkFrameCopy l flips s) := by
  unfold execLinkFrameCopy
  lift_lets -useContext -merge -underBinder
  intro x0
  try clear_value x0
  exact withinOut_next (by
    split
    · exact (Within.refl _)
    · exact (State.frame_within _ _ _ _ _ _ _ _ _ _ (msub rfl hm) (Within.refl _) (fun _ => (State.modLnk_within _ _ _ (msub rfl hm) (Within.refl _))) (fun _ => (within_ite (fun _ => (State.modLnk_within _ _ _ (msub rfl hm) (Within.refl _))) (fun _ => (Within.refl _)))))
)

theorem State.reportSig_within {msk : Nat} {s00 : State} (s : State) (l : Lane) (cycle sig : Nat) (match_ : Bool) (hm : 274880004096 &&& msk = 274880004096) (h0 : Within msk s00 s) :
    Within msk s00 (State.reportSig s l cycle sig match_) := by
  refine within_trans h0 ?_
  unfold State.reportSig
  refine within_ite (fun _ => ?_) (fun _ => ?_)
  · exact (within_modDepLane _ _ (msub rfl hm) (within_wr _ _ _ _ _ (fsub rfl hm) (within_put _ _ _ _ _ (fsub rfl hm) (within_wr _ _ _ _ _ (fsub rfl hm) (Within.refl _)))))
  · exact (Within.refl _)

theorem execLinkFrameCopyEnd_within {msk : Nat} (l : Lane) (flips : List (BitVec 8)) (wrong : BitVec 32) (s : State) (hm : 274880008192 &&& msk = 274880008192) :
    WithinOut msk s (execLinkFrameCopyEnd l flips wrong s) := by
  unfold execLinkFrameCopyEnd
  lift_lets -useContext -merge -underBinder
  intro x0
  try clear_value x0
  intro x1
  exact withinOut_next (by
    split
    · exact (Within.refl _)
    · lift_lets -useContext -merge -underBinder
      intro x2
      try clear_value x2
      intro x3
      try clear_value x3
      exact (State.frame_within _ _ _ _ _ _ _ _ _ _ (msub rfl hm) (Within.refl _) (fun _ => (State.reportSig_within _ _ _ _ _ (msub rfl hm) (within_wr _ _ _ _ _ (fsub rfl hm) (within_set _ _ _ _ (fsub rfl hm) (State.modLnk_within _ _ _ (msub rfl hm) (Within.refl _)))))) (fun y5 => (within_ite (fun _ => (by
        lift_lets -useContext -merge -underBinder
        intro x6
        try clear_value x6
        intro x7
        have hx7 : Within msk y5 x7 := (State.modLnk_within _ _ _ (msub rfl hm) (Within.refl _))
        clear_value x7
        split
        · lift_lets -useContext -merge -underBinder
          intro x8
          try clear_value x8
          intro x9
          try clear_value x9
          intro x10
          have hx10 : Within msk y5 x10 := (State.reportSig_within _ _ _ _ _ (msub rfl hm) (within_wr _ _ _ _ _ (fsub rfl hm) (within_wr _ _ _ _ _ (fsub rfl hm) hx7)))
          clear_value x10
          refine within_ite (fun _ => ?_) (fun _ => ?_)
          · exact (State.modLnk_within _ _ _ (msub rfl hm) hx10)
          · exact (State.modLnk_within _ _ _ (msub rfl hm) hx7)
        · exact (State.modLnk_within _ _ _ (msub rfl hm) hx7)
)) (fun _ => (Within.refl _)))))
)

theorem execLinkFrameAck_within {msk : Nat} (l : Lane) (flips : List (BitVec 8)) (s : State) (hm : 4100 &&& msk = 4100) :
    WithinOut msk s (execLinkFrameAck l flips s) := by
  unfold execLinkFrameAck
  exact withinOut_next (by
    split
    · exact (Within.refl _)
    · exact (State.frame_within _ _ _ _ _ _ _ _ _ _ (msub rfl hm) (Within.refl _) (fun _ => (State.modLnk_within _ _ _ (msub rfl hm) (Within.refl _))) (fun y1 => (by
        split
        · refine within_ite (fun _ => ?_) (fun _ => ?_)
          · exact (Within.refl _)
          · refine within_ite (fun _ => ?_) (fun _ => ?_)
            · exact (State.post_within _ _ _ _ (msub rfl hm) (State.modLnk_within _ _ _ (msub rfl hm) (within_set _ _ _ _ (fsub rfl hm) (Within.refl _))))
            · exact (State.copyResend_within _ _ (msub rfl hm) (Within.refl _))
        · exact (Within.refl _)
)))
)

theorem execCopyAckTimeout_within {msk : Nat} (l : Lane) (s : State) (hm : 8796093026304 &&& msk = 8796093026304) :
    WithinOut msk s (execCopyAckTimeout l s) := by
  unfold execCopyAckTimeout
  exact withinOut_next (within_ite (fun _ => (State.copyResend_within _ _ (msub rfl hm) (within_advTo _ (msub rfl hm) (Within.refl _)))) (fun _ => (Within.refl _)))

theorem execLaneLinkLost_within {msk : Nat} (l : Lane) (s : State) (hm : 8796093026308 &&& msk = 8796093026308) :
    WithinOut msk s (execLaneLinkLost l s) := by
  unfold execLaneLinkLost
  lift_lets -useContext -merge -underBinder
  intro x0 x1
  have hx1 : Within msk s x1 := (within_advTo _ (msub rfl hm) (Within.refl _))
  clear_value x1
  intro x2
  have hx2 : Within msk s x2 := (within_inc _ _ _ _ _ (fsub rfl hm) (within_set _ _ _ _ (fsub rfl hm) (within_clr _ _ _ _ (fsub rfl hm) hx1)))
  clear_value x2
  intro x3
  have hx3 : Within msk s x3 := (State.modLnk_within _ _ _ (msub rfl hm) hx2)
  clear_value x3
  exact withinOut_next (within_ite (fun _ => (State.log_within _ _ _ _ (msub rfl hm) (State.irq_within _ _ _ _ (msub rfl hm) (fsub rfl hm) hx3))) (fun _ => (Within.refl _)))

theorem execSnapshotPeriod_within {msk : Nat} (l : Lane) (s : State) (hm : 8796093022212 &&& msk = 8796093022212) :
    WithinOut msk s (execSnapshotPeriod l s) := by
  unfold execSnapshotPeriod
  lift_lets -useContext -merge -underBinder
  intro x0
  exact withinOut_next (within_ite (fun _ => (State.snapSubmit_within _ _ (msub rfl hm) (within_advTo _ (msub rfl hm) (Within.refl _)))) (fun _ => (Within.refl _)))

theorem execSnapNow_within {msk : Nat} (l : Lane) (s : State) (hm : 4 &&& msk = 4) :
    WithinOut msk s (execSnapNow l s) := by
  unfold execSnapNow
  exact withinOut_next (within_ite (fun _ => (State.snapSubmit_within _ _ (msub rfl hm) (Within.refl _))) (fun _ => (Within.refl _)))

theorem execSnapshotSearchEnd_within {msk : Nat} (l : Lane) (flips : List (BitVec 8)) (s : State) (hm : 176099956420 &&& msk = 176099956420) :
    WithinOut msk s (execSnapshotSearchEnd l flips s) := by
  unfold execSnapshotSearchEnd
  lift_lets -useContext -merge -underBinder
  intro x0 x1
  have hx1 : Within msk s x1 := by
    unfold x1
    split
    · exact (within_wr _ _ _ _ _ (fsub rfl hm) (Within.refl _))
    · exact (Within.refl _)
  clear_value x1
  intro x2
  try clear_value x2
  exact withinOut_next (within_ite (fun _ => (by
    split
    · exact (State.coldNext_within _ _ (msub rfl hm) (within_set _ _ _ _ (fsub rfl hm) hx1))
    · lift_lets -useContext -merge -underBinder
      intro x3
      have hx3 : Within msk s x3 := (within_wrSat _ _ _ _ _ (fsub rfl hm) (within_set _ _ _ _ (fsub rfl hm) (within_setBytes _ _ _ (msub rfl hm) hx1)))
      clear_value x3
      intro x4
      have hx4 : Within msk s x4 := by
        unfold x4
        split
        · refine within_ite (fun _ => ?_) (fun _ => ?_)
          · exact (within_set _ _ _ _ (fsub rfl hm) (State.applySet_within _ _ _ _ (msub rfl hm) hx3))
          · exact hx3
        · exact hx3
      clear_value x4
      exact (State.coldNext_within _ _ (msub rfl hm) hx4)
)) (fun _ => (Within.refl _)))

theorem execHandover_within {msk : Nat} (l : Lane) (s : State) (hm : 4096 &&& msk = 4096) :
    WithinOut msk s (execHandover l s) := by
  unfold execHandover
  lift_lets -useContext -merge -underBinder
  intro x0 x1
  try clear_value x1
  exact withinOut_next (within_ite (fun _ => (within_ite (fun _ => (State.modLnk_within _ _ _ (msub rfl hm) (within_set _ _ _ _ (fsub rfl hm) (within_wr _ _ _ _ _ (fsub rfl hm) (Within.refl _))))) (fun _ => (within_wr _ _ _ _ _ (fsub rfl hm) (Within.refl _))))) (fun _ => (Within.refl _)))


end Sys2Proof.Machine
end

