-- ==== Sys2Proof/Laws/WithinChassis.lean ====
section
/-!
SUPPORT. The operations of Machine/Chassis.lean change nothing outside their masks (Laws/Within.lean).
-/
namespace Sys2Proof.Machine

theorem State.modChs_within {msk : Nat} {s00 : State} (s : State) (l : Lane) (f : ChassisSt → ChassisSt) (hm : 0 &&& msk = 0) (h0 : Within msk s00 s) :
    Within msk s00 (State.modChs s l f) := by
  refine within_trans h0 ?_
  unfold State.modChs
  exact (within_modRun _ _ (Within.refl _) fun _ => ⟨rfl, rfl⟩)

theorem State.takeInput_within {msk : Nat} {s00 : State} (s : State) (l : Lane) (k : Fin 4) (hm : 4096 &&& msk = 4096) (h0 : Within msk s00 s) :
    Within msk s00 (State.takeInput s l k) := by
  refine within_trans h0 ?_
  unfold State.takeInput
  lift_lets -useContext -merge -underBinder
  intro x0 x1
  try clear_value x1
  refine within_ite (fun _ => ?_) (fun _ => ?_)
  · exact (within_clr _ _ _ _ (fsub rfl hm) (Within.refl _))
  · refine within_ite (fun _ => ?_) (fun _ => ?_)
    · exact (State.modChs_within _ _ _ (msub rfl hm) (within_set _ _ _ _ (fsub rfl hm) (within_wr _ _ _ _ _ (fsub rfl hm) (Within.refl _))))
    · exact (within_clr _ _ _ _ (fsub rfl hm) (within_wr _ _ _ _ _ (fsub rfl hm) (Within.refl _)))

theorem State.nodeCycle_within {msk : Nat} {s00 : State} (s : State) (l : Lane) (hm : 4096 &&& msk = 4096) (h0 : Within msk s00 s) :
    Within msk s00 (State.nodeCycle s l) := by
  refine within_trans h0 ?_
  unfold State.nodeCycle
  lift_lets -useContext -merge -underBinder
  intro x0 x1
  try clear_value x1
  intro x2
  have hx2 : Within msk s x2 := (within_wr _ _ _ _ _ (fsub rfl hm) (within_wr _ _ _ _ _ (fsub rfl hm) (Within.refl _)))
  clear_value x2
  intro x3
  try clear_value x3
  intro x4
  have hx4 : Within msk s x4 := (within_ite (fun _ => (within_ite (fun _ => (within_inc _ _ _ _ _ (fsub rfl hm) hx2)) (fun _ => (within_wr _ _ _ _ _ (fsub rfl hm) hx2)))) (fun _ => hx2))
  clear_value x4
  exact (State.modChs_within _ _ _ (msub rfl hm) hx4)

theorem execChassisBoundary_within {msk : Nat} (l : Lane) (s : State) (hm : 8796093026304 &&& msk = 8796093026304) :
    WithinOut msk s (execChassisBoundary l s) := by
  unfold execChassisBoundary
  lift_lets -useContext -merge -underBinder
  intro x0 x1
  try clear_value x1
  intro x2
  try clear_value x2
  intro x3
  try clear_value x3
  intro x4
  have hx4 : Within msk s x4 := (within_when _ _ (State.event_within _ _ _ (msub rfl hm) (within_advTo _ (msub rfl hm) (Within.refl _))) (fun _ => (State.nodeCycle_within _ _ (msub rfl hm) (Within.refl _))))
  clear_value x4
  intro x6
  have hx6 : Within msk s x6 := (within_each _ _ (within_wr _ _ _ _ _ (fsub rfl hm) (within_set _ _ _ _ (fsub rfl hm) hx4)) (fun _ _ => (State.takeInput_within _ _ _ (msub rfl hm) (Within.refl _))))
  clear_value x6
  intro x9
  have hx9 : Within msk s x9 := (within_each _ _ hx6 (fun _ _ => (within_clr _ _ _ _ (fsub rfl hm) (Within.refl _))))
  clear_value x9
  intro x12
  try clear_value x12
  intro x13
  have hx13 : Within msk s x13 := (within_ite (fun _ => (within_inc _ _ _ _ _ (fsub rfl hm) hx9)) (fun _ => (within_wr _ _ _ _ _ (fsub rfl hm) hx9)))
  clear_value x13
  intro x14
  try clear_value x14
  exact withinOut_next (within_ite (fun _ => (State.modLnk_within _ _ _ (msub rfl hm) (State.modChs_within _ _ _ (msub rfl hm) hx13))) (fun _ => (within_clr _ _ _ _ (fsub rfl hm) (Within.refl _))))

theorem execChassisSeal_within {msk : Nat} (l : Lane) (s : State) (hm : 4096 &&& msk = 4096) :
    WithinOut msk s (execChassisSeal l s) := by
  unfold execChassisSeal
  lift_lets -useContext -merge -underBinder
  intro x0 x1
  try clear_value x1
  intro x2
  try clear_value x2
  exact withinOut_next (within_ite (fun _ => (within_wr _ _ _ _ _ (fsub rfl hm) (State.modLnk_within _ _ _ (msub rfl hm) (State.modChs_within _ _ _ (msub rfl hm) (Within.refl _))))) (fun _ => (Within.refl _)))

theorem execChassisCmdDeadline_within {msk : Nat} (l : Lane) (s : State) (hm : 8796093026308 &&& msk = 8796093026308) :
    WithinOut msk s (execChassisCmdDeadline l s) := by
  unfold execChassisCmdDeadline
  lift_lets -useContext -merge -underBinder
  intro x0 x1
  try clear_value x1
  intro x2
  have hx2 : Within msk s x2 := (State.modChs_within _ _ _ (msub rfl hm) (within_advTo _ (msub rfl hm) (Within.refl _)))
  clear_value x2
  intro x3
  have hx3 : Within msk s x3 := (within_set _ _ _ _ (fsub rfl hm) (within_inc _ _ _ _ _ (fsub rfl hm) (within_inc _ _ _ _ _ (fsub rfl hm) hx2)))
  clear_value x3
  exact withinOut_next (within_ite (fun _ => (State.logIf_within _ _ _ _ _ _ (msub rfl hm) (fsub rfl hm) (State.irq_within _ _ _ _ (msub rfl hm) (fsub rfl hm) hx3))) (fun _ => (Within.refl _)))

theorem execChassisCompare_within {msk : Nat} (l : Lane) (s : State) (hm : 8804682960900 &&& msk = 8804682960900) :
    WithinOut msk s (execChassisCompare l s) := by
  unfold execChassisCompare
  lift_lets -useContext -merge -underBinder
  intro x0 x1
  try clear_value x1
  exact withinOut_next (by
    split
    · exact (Within.refl _)
    · lift_lets -useContext -merge -underBinder
      intro x2
      try clear_value x2
      intro x3
      have hx3 : Within msk s x3 := (within_ite (fun _ => (within_advTo _ (msub rfl hm) (Within.refl _))) (fun _ => (Within.refl _)))
      clear_value x3
      intro x4
      try clear_value x4
      intro x5
      try clear_value x5
      intro x6
      have hx6 : Within msk s x6 := (within_put _ _ _ _ _ (fsub rfl hm) (within_put _ _ _ _ _ (fsub rfl hm) hx3))
      clear_value x6
      intro x7
      have hx7 : Within msk s x7 := (within_ite (fun _ => (within_inc _ _ _ _ _ (fsub rfl hm) hx6)) (fun _ => (within_ite (fun _ => (State.logIf_within _ _ _ _ _ _ (msub rfl hm) (fsub rfl hm) (State.irq_within _ _ _ _ (msub rfl hm) (fsub rfl hm) (within_set _ _ _ _ (fsub rfl hm) (within_inc _ _ _ _ _ (fsub rfl hm) (within_inc _ _ _ _ _ (fsub rfl hm) hx6)))))) (fun _ => (within_wr _ _ _ _ _ (fsub rfl hm) hx6)))))
      clear_value x7
      intro x8
      try clear_value x8
      intro x9
      try clear_value x9
      intro x10
      try clear_value x10
      intro x11
      try clear_value x11
      intro x12
      have hx12 : Within msk s x12 := (State.modChs_within _ _ _ (msub rfl hm) (within_put _ _ _ _ _ (fsub rfl hm) hx7))
      clear_value x12
      intro x13
      try clear_value x13
      refine within_ite (fun _ => ?_) (fun _ => ?_)
      · exact (Within.refl _)
      · exact (State.chassisSend_within _ _ _ _ (msub rfl hm) hx12)
)

theorem execChassisNodeFrame_within {msk : Nat} (l : Lane) (s : State) (hm : 0 &&& msk = 0) :
    WithinOut msk s (execChassisNodeFrame l s) := by
  unfold execChassisNodeFrame
  lift_lets -useContext -merge -underBinder
  intro x0
  exact withinOut_next (by
    split
    · exact (Within.refl _)
    · lift_lets -useContext -merge -underBinder
      intro x1
      have hx1 : Within msk s x1 := (State.modChs_within _ _ _ (msub rfl hm) (Within.refl _))
      clear_value x1
      refine within_ite (fun _ => ?_) (fun _ => ?_)
      · exact (within_each _ _ hx1 (fun _ _ => (within_when _ _ (Within.refl _) (fun _ => (State.modChs_within _ _ _ (msub rfl hm) (Within.refl _))))))
      · exact hx1
)

theorem State.chsDeclare_within {msk : Nat} {s00 : State} (s : State) (l : Lane) (c : FaultClass) (hm : 515402372230 &&& msk = 515402372230) (h0 : Within msk s00 s) :
    Within msk s00 (State.chsDeclare s l c) := by
  refine within_trans h0 ?_
  unfold State.chsDeclare
  refine within_ite (fun _ => ?_) (fun _ => ?_)
  · exact (Within.refl _)
  · exact (State.laneDeclare_within _ _ _ (msub rfl hm) (Within.refl _))

theorem execNetworkLossCount_within {msk : Nat} (l : Lane) (s : State) (hm : 515402372230 &&& msk = 515402372230) :
    WithinOut msk s (execNetworkLossCount l s) := by
  unfold execNetworkLossCount
  lift_lets -useContext -merge -underBinder
  intro x0 x1
  try clear_value x1
  exact withinOut_next (within_ite (fun _ => (State.chsDeclare_within _ _ _ (msub rfl hm) (Within.refl _))) (fun _ => (Within.refl _)))

theorem execSensorLossCount_within {msk : Nat} (l : Lane) (s : State) (hm : 515402372230 &&& msk = 515402372230) :
    WithinOut msk s (execSensorLossCount l s) := by
  unfold execSensorLossCount
  lift_lets -useContext -merge -underBinder
  intro x0
  exact withinOut_next (within_ite (fun _ => (State.chsDeclare_within _ _ _ (msub rfl hm) (Within.refl _))) (fun _ => (Within.refl _)))

theorem execDisagreeCount_within {msk : Nat} (l : Lane) (s : State) (hm : 515402372230 &&& msk = 515402372230) :
    WithinOut msk s (execDisagreeCount l s) := by
  unfold execDisagreeCount
  lift_lets -useContext -merge -underBinder
  intro x0
  exact withinOut_next (within_ite (fun _ => (State.chsDeclare_within _ _ _ (msub rfl hm) (Within.refl _))) (fun _ => (Within.refl _)))


end Sys2Proof.Machine
end

