-- ==== Sys2Proof/Laws/WithinCvu.lean ====
section
/-!
SUPPORT. The operations of Machine/Cvu.lean change nothing outside their masks (Laws/Within.lean).
-/
namespace Sys2Proof.Machine

theorem State.modCvu_within {msk : Nat} {s00 : State} (s : State) (l : Lane) (n : Fin 4) (f : CvuSt → CvuSt) (hm : 0 &&& msk = 0) (h0 : Within msk s00 s) :
    Within msk s00 (State.modCvu s l n f) := by
  refine within_trans h0 ?_
  unfold State.modCvu
  exact (within_modRun _ _ (Within.refl _) fun _ => ⟨rfl, rfl⟩)

theorem State.cvuFeed_within {msk : Nat} {s00 : State} (s : State) (l : Lane) (who : Initiator) (n : Fin 4) (o : Nat) (bs : List Nat) (differ : Bool) (hm : 8193 &&& msk = 8193) (h0 : Within msk s00 s) :
    Within msk s00 (State.cvuFeed s l who n o bs differ) := by
  refine within_trans h0 ?_
  unfold State.cvuFeed
  lift_lets -useContext -merge -underBinder
  intro x0 x1
  have hx1 : Within msk s x1 := (State.modCvu_within _ _ _ _ (msub rfl hm) (Within.refl _))
  clear_value x1
  intro x2
  have hx2 : Within msk s x2 := (within_wr _ _ _ _ _ (fsub rfl hm) (within_inc _ _ _ _ _ (fsub rfl hm) hx1))
  clear_value x2
  refine within_ite (fun _ => ?_) (fun _ => ?_)
  · exact (Within.refl _)
  · refine within_ite (fun _ => ?_) (fun _ => ?_)
    · exact (within_set _ _ _ _ (fsub rfl hm) (Within.refl _))
    · refine within_ite (fun _ => ?_) (fun _ => ?_)
      · exact (State.accessError_within _ _ _ _ _ _ (msub rfl hm) (Within.refl _))
      · exact (within_when _ _ hx2 (fun _ => (State.irq_within _ _ _ _ (msub rfl hm) (fsub rfl hm) (within_set _ _ _ _ (fsub rfl hm) (Within.refl _)))))

theorem State.cvuClose_within {msk : Nat} {s00 : State} (s : State) (l : Lane) (n : Fin 4) (hm : 8192 &&& msk = 8192) (h0 : Within msk s00 s) :
    Within msk s00 (State.cvuClose s l n) := by
  refine within_trans h0 ?_
  unfold State.cvuClose
  lift_lets -useContext -merge -underBinder
  intro x0
  exact (within_wrBit _ _ _ _ _ (fsub rfl hm) (within_clr _ _ _ _ (fsub rfl hm) (Within.refl _)))

theorem execCvuStart_within {msk : Nat} (l : Lane) (who : Initiator) (n : Fin 4) (s : State) (hm : 8192 &&& msk = 8192) :
    WithinOut msk s (execCvuStart l who n s) := by
  unfold execCvuStart
  lift_lets -useContext -merge -underBinder
  intro x0 x1
  have hx1 : Within msk s x1 := (within_when _ _ (Within.refl _) (fun _ => (within_inc _ _ _ _ _ (fsub rfl hm) (Within.refl _))))
  clear_value x1
  intro x3
  have hx3 : Within msk s x3 := (within_wr _ _ _ _ _ (fsub rfl hm) (within_wr _ _ _ _ _ (fsub rfl hm) (within_wrBit _ _ _ _ _ (fsub rfl hm) (within_set _ _ _ _ (fsub rfl hm) hx1))))
  clear_value x3
  intro x4
  have hx4 : Within msk s x4 := (State.modCvu_within _ _ _ _ (msub rfl hm) hx3)
  clear_value x4
  exact withinOut_next (within_ite (fun _ => (within_wr _ _ _ _ _ (fsub rfl hm) hx4)) (fun _ => (Within.refl _)))

theorem execCvuData32_within {msk : Nat} (l : Lane) (who : Initiator) (n : Fin 4) (value : BitVec 32) (differ : Bool) (s : State) (hm : 8193 &&& msk = 8193) :
    WithinOut msk s (execCvuData32 l who n value differ s) := by
  unfold execCvuData32
  exact withinOut_next (State.cvuFeed_within _ _ _ _ _ _ _ (msub rfl hm) (Within.refl _))

theorem execCvuData16_within {msk : Nat} (l : Lane) (who : Initiator) (n : Fin 4) (value : BitVec 32) (differ : Bool) (s : State) (hm : 8193 &&& msk = 8193) :
    WithinOut msk s (execCvuData16 l who n value differ s) := by
  unfold execCvuData16
  exact withinOut_next (State.cvuFeed_within _ _ _ _ _ _ _ (msub rfl hm) (Within.refl _))

theorem execCvuData8_within {msk : Nat} (l : Lane) (who : Initiator) (n : Fin 4) (value : BitVec 32) (differ : Bool) (s : State) (hm : 8193 &&& msk = 8193) :
    WithinOut msk s (execCvuData8 l who n value differ s) := by
  unfold execCvuData8
  exact withinOut_next (State.cvuFeed_within _ _ _ _ _ _ _ (msub rfl hm) (Within.refl _))

theorem State.cvuMismatch_within {msk : Nat} {s00 : State} (s : State) (l : Lane) (n : Fin 4) (hm : 8192 &&& msk = 8192) (h0 : Within msk s00 s) :
    Within msk s00 (State.cvuMismatch s l n) := by
  refine within_trans h0 ?_
  unfold State.cvuMismatch
  lift_lets -useContext -merge -underBinder
  intro x0
  exact (State.irq_within _ _ _ _ (msub rfl hm) (fsub rfl hm) (within_inc _ _ _ _ _ (fsub rfl hm) (within_set _ _ _ _ (fsub rfl hm) (Within.refl _))))

theorem State.cvuAccept_within {msk : Nat} {s00 : State} (s : State) (l : Lane) (n : Fin 4) (v : Nat) (hm : 8192 &&& msk = 8192) (h0 : Within msk s00 s) :
    Within msk s00 (State.cvuAccept s l n v) := by
  refine within_trans h0 ?_
  unfold State.cvuAccept
  exact (State.modCvu_within _ _ _ _ (msub rfl hm) (within_wr _ _ _ _ _ (fsub rfl hm) (Within.refl _)))

theorem State.cvuAlive_within {msk : Nat} {s00 : State} (s : State) (l : Lane) (n : Fin 4) (f : Fld) (hm : 8192 &&& msk = 8192) (hg3 : f.inM msk = true) (h0 : Within msk s00 s) :
    Within msk s00 (State.cvuAlive s l n f) := by
  refine within_trans h0 ?_
  unfold State.cvuAlive
  lift_lets -useContext -merge -underBinder
  intro x0
  exact (State.irq_within _ _ _ _ (msub rfl hm) (fsub rfl hm) (within_inc _ _ _ _ _ (fsub rfl hm) (within_set _ _ _ _ hg3 (Within.refl _))))

theorem State.cvuCheck_within {msk : Nat} {s00 : State} (s : State) (l : Lane) (n : Fin 4) (hm : 8192 &&& msk = 8192) (h0 : Within msk s00 s) :
    Within msk s00 (State.cvuCheck s l n) := by
  refine within_trans h0 ?_
  unfold State.cvuCheck
  lift_lets -useContext -merge -underBinder
  intro x0 x1
  try clear_value x1
  intro x2
  try clear_value x2
  intro x3
  try clear_value x3
  intro x4
  try clear_value x4
  refine within_ite (fun _ => ?_) (fun _ => ?_)
  · refine within_ite (fun _ => ?_) (fun _ => ?_)
    · exact (State.cvuMismatch_within _ _ _ (msub rfl hm) (Within.refl _))
    · exact (Within.refl _)
  · refine within_ite (fun _ => ?_) (fun _ => ?_)
    · refine within_ite (fun _ => ?_) (fun _ => ?_)
      · exact (State.cvuMismatch_within _ _ _ (msub rfl hm) (Within.refl _))
      · exact (State.cvuAccept_within _ _ _ _ (msub rfl hm) (Within.refl _))
    · refine within_ite (fun _ => ?_) (fun _ => ?_)
      · exact (State.cvuAlive_within _ _ _ _ (msub rfl hm) (fsub rfl hm) (Within.refl _))
      · refine within_ite (fun _ => ?_) (fun _ => ?_)
        · exact (State.cvuAlive_within _ _ _ _ (msub rfl hm) (fsub rfl hm) (Within.refl _))
        · refine within_ite (fun _ => ?_) (fun _ => ?_)
          · exact (State.cvuMismatch_within _ _ _ (msub rfl hm) (Within.refl _))
          · exact (State.cvuAccept_within _ _ _ _ (msub rfl hm) (Within.refl _))

theorem execCvuEnd_within {msk : Nat} (l : Lane) (who : Initiator) (n : Fin 4) (s : State) (hm : 8193 &&& msk = 8193) :
    WithinOut msk s (execCvuEnd l who n s) := by
  unfold execCvuEnd
  lift_lets -useContext -merge -underBinder
  intro x0 x1
  have hx1 : Within msk s x1 := (within_inc _ _ _ _ _ (fsub rfl hm) (within_wr _ _ _ _ _ (fsub rfl hm) (Within.refl _)))
  clear_value x1
  exact withinOut_next (within_ite (fun _ => (Within.refl _)) (fun _ => (within_ite (fun _ => (within_set _ _ _ _ (fsub rfl hm) (Within.refl _))) (fun _ => (within_ite (fun _ => (State.accessError_within _ _ _ _ _ _ (msub rfl hm) (Within.refl _))) (fun _ => (State.cvuClose_within _ _ _ (msub rfl hm) (within_ite (fun _ => (State.cvuCheck_within _ _ _ (msub rfl hm) hx1)) (fun _ => hx1)))))))))

theorem execCvuAbort_within {msk : Nat} (l : Lane) (who : Initiator) (n : Fin 4) (s : State) (hm : 8192 &&& msk = 8192) :
    WithinOut msk s (execCvuAbort l who n s) := by
  unfold execCvuAbort
  exact withinOut_next (within_ite (fun _ => (State.cvuClose_within _ _ _ (msub rfl hm) (Within.refl _))) (fun _ => (Within.refl _)))

theorem execCvuResync_within {msk : Nat} (l : Lane) (who : Initiator) (n : Fin 4) (s : State) (hm : 0 &&& msk = 0) :
    WithinOut msk s (execCvuResync l who n s) := by
  unfold execCvuResync
  exact withinOut_next (within_ite (fun _ => (State.modCvu_within _ _ _ _ (msub rfl hm) (Within.refl _))) (fun _ => (Within.refl _)))


end Sys2Proof.Machine
end

