-- ==== Sys2Proof/Laws/WithinNet.lean ====
section
/-!
SUPPORT. The operations of Machine/Net.lean change nothing outside their masks (Laws/Within.lean).
-/
namespace Sys2Proof.Machine

theorem State.canCount_within {msk : Nat} {s00 : State} (s : State) (l : Lane) (n : Fin 4) (tec rec_ : Nat) (hm : 32768 &&& msk = 32768) (h0 : Within msk s00 s) :
    Within msk s00 (State.canCount s l n tec rec_) := by
  refine within_trans h0 ?_
  unfold State.canCount
  lift_lets -useContext -merge -underBinder
  intro x0 x1
  try clear_value x1
  intro x2
  try clear_value x2
  intro x3
  have hx3 : Within msk s x3 := (within_put _ _ _ _ _ (fsub rfl hm) (within_wrSat _ _ _ _ _ (fsub rfl hm) (within_wrSat _ _ _ _ _ (fsub rfl hm) (Within.refl _))))
  clear_value x3
  exact (within_when _ _ hx3 (fun _ => (State.irq_within _ _ _ _ (msub rfl hm) (fsub rfl hm) (Within.refl _))))

theorem execCanBusOff_within {msk : Nat} (l : Lane) (n : Fin 4) (s : State) (hm : 515402404998 &&& msk = 515402404998) :
    WithinOut msk s (execCanBusOff l n s) := by
  unfold execCanBusOff
  lift_lets -useContext -merge -underBinder
  intro x0 x1
  have hx1 : Within msk s x1 := (within_inc _ _ _ _ _ (fsub rfl hm) (within_set _ _ _ _ (fsub rfl hm) (within_set _ _ _ _ (fsub rfl hm) (Within.refl _))))
  clear_value x1
  intro x2
  have hx2 : Within msk s x2 := (State.irq_within _ _ _ _ (msub rfl hm) (fsub rfl hm) (State.modCan_within _ _ _ _ (msub rfl hm) hx1))
  clear_value x2
  intro x3
  have hx3 : Within msk s x3 := (State.logIf_within _ _ _ _ _ _ (msub rfl hm) (fsub rfl hm) hx2)
  clear_value x3
  exact withinOut_next (within_ite (fun _ => (within_ite (fun _ => (State.laneDeclare_within _ _ _ (msub rfl hm) hx3)) (fun _ => hx3))) (fun _ => (Within.refl _)))

theorem execCanRecover_within {msk : Nat} (l : Lane) (n : Fin 4) (s : State) (hm : 0 &&& msk = 0) :
    WithinOut msk s (execCanRecover l n s) := by
  unfold execCanRecover
  exact withinOut_next (within_ite (fun _ => (State.modCan_within _ _ _ _ (msub rfl hm) (Within.refl _))) (fun _ => (Within.refl _)))

theorem execCanRecoveryDone_within {msk : Nat} (l : Lane) (n : Fin 4) (s : State) (hm : 32768 &&& msk = 32768) :
    WithinOut msk s (execCanRecoveryDone l n s) := by
  unfold execCanRecoveryDone
  lift_lets -useContext -merge -underBinder
  intro x0
  exact withinOut_next (within_ite (fun _ => (State.canCount_within _ _ _ _ _ (msub rfl hm) (State.modCan_within _ _ _ _ (msub rfl hm) (within_clr _ _ _ _ (fsub rfl hm) (Within.refl _))))) (fun _ => (Within.refl _)))

theorem State.canOff_within {msk : Nat} {s00 : State} (s : State) (l : Lane) (n : Fin 4) (hm : 36868 &&& msk = 36868) (h0 : Within msk s00 s) :
    Within msk s00 (State.canOff s l n) := by
  refine within_trans h0 ?_
  unfold State.canOff
  lift_lets -useContext -merge -underBinder
  intro x0
  have hx0 : Within msk s x0 := (within_clr _ _ _ _ (fsub rfl hm) (State.modCan_within _ _ _ _ (msub rfl hm) (Within.refl _)))
  clear_value x0
  exact (within_each _ _ hx0 (fun _ _ => (State.postNet_within _ _ _ _ (msub rfl hm) (Within.refl _))))

theorem execCanEnable_within {msk : Nat} (l : Lane) (n : Fin 4) (s : State) (hm : 36868 &&& msk = 36868) :
    WithinOut msk s (execCanEnable l n s) := by
  unfold execCanEnable
  lift_lets -useContext -merge -underBinder
  intro x0
  exact withinOut_next (within_ite (fun _ => (within_ite (fun _ => (State.modCan_within _ _ _ _ (msub rfl hm) (within_clr _ _ _ _ (fsub rfl hm) (Within.refl _)))) (fun _ => (within_set _ _ _ _ (fsub rfl hm) (Within.refl _))))) (fun _ => (within_ite (fun _ => (State.canOff_within _ _ _ (msub rfl hm) (Within.refl _))) (fun _ => (Within.refl _)))))

theorem execCanIntegrated_within {msk : Nat} (l : Lane) (n : Fin 4) (s : State) (hm : 32768 &&& msk = 32768) :
    WithinOut msk s (execCanIntegrated l n s) := by
  unfold execCanIntegrated
  exact withinOut_next (within_ite (fun _ => (within_set _ _ _ _ (fsub rfl hm) (Within.refl _))) (fun _ => (Within.refl _)))

theorem execCanTxGo_within {msk : Nat} (l : Lane) (who : Initiator) (n : Fin 4) (s : State) (hm : 36868 &&& msk = 36868) :
    WithinOut msk s (execCanTxGo l who n s) := by
  unfold execCanTxGo
  lift_lets -useContext -merge -underBinder
  intro x0 x1
  try clear_value x1
  intro x2
  have hx2 : Within11 msk s x2 := (State.canSubmit_within _ _ _ _ _ _ _ (msub rfl hm) (Within.refl _))
  clear_value x2
  exact withinOut_next (within_ite (fun _ => (within_wr _ _ _ _ _ (fsub rfl hm) (within_put _ _ _ _ _ (fsub rfl hm) (within_wr _ _ _ _ _ (fsub rfl hm) hx2.h)))) (fun _ => (Within.refl _)))

theorem State.canBegin_within {msk : Nat} {s00 : State} (s : State) (l : Lane) (n : Fin 4) (e : TalEntry) (hm : 0 &&& msk = 0) (h0 : Within msk s00 s) :
    Within msk s00 (State.canBegin s l n e) := by
  refine within_trans h0 ?_
  unfold State.canBegin
  exact (State.modCan_within _ _ _ _ (msub rfl hm) (State.setEnt_within _ _ _ _ (msub rfl hm) (Within.refl _)))

theorem execCanAttemptStart_within {msk : Nat} (l : Lane) (n : Fin 4) (s : State) (hm : 0 &&& msk = 0) :
    WithinOut msk s (execCanAttemptStart l n s) := by
  unfold execCanAttemptStart
  exact withinOut_next (within_ite (fun _ => (by
    split
    · exact (State.canBegin_within _ _ _ _ (msub rfl hm) (Within.refl _))
    · exact (Within.refl _)
)) (fun _ => (Within.refl _)))

theorem execCanAttemptEnd_within {msk : Nat} (l : Lane) (n : Fin 4) (e : CanEnd) (s : State) (hm : 36868 &&& msk = 36868) :
    WithinOut msk s (execCanAttemptEnd l n e s) := by
  unfold execCanAttemptEnd
  lift_lets -useContext -merge -underBinder
  intro x0
  exact withinOut_next (by
    split
    · exact (Within.refl _)
    · lift_lets -useContext -merge -underBinder
      intro x1
      have hx1 : Within msk s x1 := (State.modCan_within _ _ _ _ (msub rfl hm) (Within.refl _))
      clear_value x1
      split
      · exact hx1
      · lift_lets -useContext -merge -underBinder
        intro x2
        try clear_value x2
        intro x3
        try clear_value x3
        intro x4
        split
        · exact (State.postNet_within _ _ _ _ (msub rfl hm) (State.canCount_within _ _ _ _ _ (msub rfl hm) (within_inc _ _ _ _ _ (fsub rfl hm) hx1)))
        · exact (within_ite (fun _ => (State.postNet_within _ _ _ _ (msub rfl hm) hx1)) (fun _ => hx1))
        · lift_lets -useContext -merge -underBinder
          intro x5
          have hx5 : Within msk s x5 := (within_put _ _ _ _ _ (fsub rfl hm) (within_wr _ _ _ _ _ (fsub rfl hm) hx1))
          clear_value x5
          intro x6
          try clear_value x6
          intro x7
          have hx7 : Within msk s x7 := (within_ite (fun _ => (within_inc _ _ _ _ _ (fsub rfl hm) hx5)) (fun _ => (within_inc _ _ _ _ _ (fsub rfl hm) hx5)))
          clear_value x7
          exact (within_ite (fun _ => (State.postNet_within _ _ _ _ (msub rfl hm) (within_ite (fun _ => hx7) (fun _ => (State.canCount_within _ _ _ _ _ (msub rfl hm) hx7))))) (fun _ => (within_ite (fun _ => hx7) (fun _ => (State.canCount_within _ _ _ _ _ (msub rfl hm) hx7)))))
)

theorem State.fifoStore_within {msk : Nat} {s00 : State} (s : State) (l : Lane) (n : Fin 4) (ws : List Nat) (hm : 8589967360 &&& msk = 8589967360) (h0 : Within msk s00 s) :
    Within msk s00 (State.fifoStore s l n ws) := by
  refine within_trans h0 ?_
  unfold State.fifoStore
  lift_lets -useContext -merge -underBinder
  intro x0 x1
  try clear_value x1
  intro x2
  try clear_value x2
  intro x3
  try clear_value x3
  intro x4
  try clear_value x4
  intro x5
  have hx5 : Within msk s x5 := (State.modCan_within _ _ _ _ (msub rfl hm) (State.setRam_within _ _ _ _ _ (msub rfl hm) (Within.refl _)))
  clear_value x5
  intro x6
  have hx6 : Within msk s x6 := (within_wr _ _ _ _ _ (fsub rfl hm) hx5)
  clear_value x6
  intro x7
  have hx7 : Within msk s x7 := (within_ite (fun _ => (within_wr _ _ _ _ _ (fsub rfl hm) hx6)) (fun _ => hx6))
  clear_value x7
  refine within_ite (fun _ => ?_) (fun _ => ?_)
  · exact (State.irq_within _ _ _ _ (msub rfl hm) (fsub rfl hm) (within_inc _ _ _ _ _ (fsub rfl hm) hx7))
  · exact (within_set _ _ _ _ (fsub rfl hm) (Within.refl _))

theorem State.hpStore_within {msk : Nat} {s00 : State} (s : State) (l : Lane) (n : Fin 4) (ws : List Nat) (hm : 8589967360 &&& msk = 8589967360) (h0 : Within msk s00 s) :
    Within msk s00 (State.hpStore s l n ws) := by
  refine within_trans h0 ?_
  unfold State.hpStore
  lift_lets -useContext -merge -underBinder
  intro x0 x1
  try clear_value x1
  intro x2
  try clear_value x2
  intro x3
  have hx3 : Within msk s x3 := (within_set _ _ _ _ (fsub rfl hm) (within_wr _ _ _ _ _ (fsub rfl hm) (State.setRam_within _ _ _ _ _ (msub rfl hm) (Within.refl _))))
  clear_value x3
  refine within_ite (fun _ => ?_) (fun _ => ?_)
  · exact (within_set _ _ _ _ (fsub rfl hm) (Within.refl _))
  · exact (State.irq_within _ _ _ _ (msub rfl hm) (fsub rfl hm) (within_inc _ _ _ _ _ (fsub rfl hm) hx3))

theorem execCanRxFrame_within {msk : Nat} (l : Lane) (n : Fin 4) (f : CanFrame) (ago : Nat) (s : State) (hm : 8589967360 &&& msk = 8589967360) :
    WithinOut msk s (execCanRxFrame l n f ago s) := by
  unfold execCanRxFrame
  lift_lets -useContext -merge -underBinder
  intro x0 x1
  have hx1 : Within msk s x1 := (within_ite (fun _ => (Within.refl _)) (fun _ => (State.canCount_within _ _ _ _ _ (msub rfl hm) (Within.refl _))))
  clear_value x1
  intro x2
  try clear_value x2
  intro x3
  exact withinOut_next (within_ite (fun _ => (Within.refl _)) (fun _ => (within_ite (fun _ => (within_set _ _ _ _ (fsub rfl hm) (Within.refl _))) (fun _ => (by
    split
    · refine within_ite (fun _ => ?_) (fun _ => ?_)
      · exact (State.fifoStore_within _ _ _ _ (msub rfl hm) hx1)
      · exact hx1
    · lift_lets -useContext -merge -underBinder
      intro x4
      try clear_value x4
      refine within_ite (fun _ => ?_) (fun _ => ?_)
      · exact hx1
      · refine within_ite (fun _ => ?_) (fun _ => ?_)
        · exact (State.hpStore_within _ _ _ _ (msub rfl hm) hx1)
        · exact (within_when _ _ (State.fifoStore_within _ _ _ _ (msub rfl hm) hx1) (fun _ => (State.handNode_within _ _ _ _ (msub rfl hm) (Within.refl _))))
)))))

theorem execCanRxPop_within {msk : Nat} (l : Lane) (n : Fin 4) (s : State) (hm : 32768 &&& msk = 32768) :
    WithinOut msk s (execCanRxPop l n s) := by
  unfold execCanRxPop
  lift_lets -useContext -merge -underBinder
  intro x0
  exact withinOut_next (by
    split
    · exact (Within.refl _)
    · lift_lets -useContext -merge -underBinder
      intro x1
      have hx1 : Within msk s x1 := (within_wr _ _ _ _ _ (fsub rfl hm) (State.modCan_within _ _ _ _ (msub rfl hm) (Within.refl _)))
      clear_value x1
      refine within_ite (fun _ => ?_) (fun _ => ?_)
      · split
        · exact hx1
        · exact (within_wr _ _ _ _ _ (fsub rfl hm) hx1)
      · exact (Within.refl _)
)

theorem execCanHpPop_within {msk : Nat} (l : Lane) (n : Fin 4) (s : State) (hm : 32768 &&& msk = 32768) :
    WithinOut msk s (execCanHpPop l n s) := by
  unfold execCanHpPop
  lift_lets -useContext -merge -underBinder
  intro x0
  exact withinOut_next (within_ite (fun _ => (within_wr _ _ _ _ _ (fsub rfl hm) (within_wr _ _ _ _ _ (fsub rfl hm) (Within.refl _)))) (fun _ => (Within.refl _)))

theorem State.matrixBoundary_within {msk : Nat} {s00 : State} (s : State) (l : Lane) (n : Fin 4) (k : Nat) (hm : 32768 &&& msk = 32768) (h0 : Within msk s00 s) :
    Within msk s00 (State.matrixBoundary s l n k) := by
  refine within_trans h0 ?_
  unfold State.matrixBoundary
  lift_lets -useContext -merge -underBinder
  intro x0 x1
  try clear_value x1
  intro x2
  have hx2 : Within msk s x2 := (within_ite (fun _ => (within_set _ _ _ _ (fsub rfl hm) (Within.refl _))) (fun _ => (Within.refl _)))
  clear_value x2
  refine within_ite (fun _ => ?_) (fun _ => ?_)
  · exact (within_wr _ _ _ _ _ (fsub rfl hm) (within_clr _ _ _ _ (fsub rfl hm) (Within.refl _)))
  · refine within_ite (fun _ => ?_) (fun _ => ?_)
    · exact (within_wr _ _ _ _ _ (fsub rfl hm) hx2)
    · exact hx2

theorem execCanCellStart_within {msk : Nat} (l : Lane) (n : Fin 4) (c : Fin 32) (s : State) (hm : 8796093054976 &&& msk = 8796093054976) :
    WithinOut msk s (execCanCellStart l n c s) := by
  unfold execCanCellStart
  lift_lets -useContext -merge -underBinder
  intro x0 x1
  try clear_value x1
  intro x2
  try clear_value x2
  intro x3
  try clear_value x3
  intro x4
  try clear_value x4
  intro x5
  have hx5 : Within msk s x5 := (within_wr _ _ _ _ _ (fsub rfl hm) (within_advTo _ (msub rfl hm) (Within.refl _)))
  clear_value x5
  intro x6
  try clear_value x6
  intro x7
  have hx7 : Within msk s x7 := (State.modCan_within _ _ _ _ (msub rfl hm) hx5)
  clear_value x7
  intro x8
  try clear_value x8
  exact withinOut_next (within_ite (fun _ => (within_ite (fun _ => (within_set _ _ _ _ (fsub rfl hm) (Within.refl _))) (fun _ => (within_ite (fun _ => hx5) (fun _ => (by
    split
    · exact (within_inc _ _ _ _ _ (fsub rfl hm) hx7)
    · refine within_ite (fun _ => ?_) (fun _ => ?_)
      · exact (State.canBegin_within _ _ _ _ (msub rfl hm) (within_inc _ _ _ _ _ (fsub rfl hm) hx7))
      · exact hx7
)))))) (fun _ => (Within.refl _)))

theorem execCanWindowClose_within {msk : Nat} (l : Lane) (n : Fin 4) (s : State) (hm : 8796093022208 &&& msk = 8796093022208) :
    WithinOut msk s (execCanWindowClose l n s) := by
  unfold execCanWindowClose
  exact withinOut_next (within_ite (fun _ => (State.modCan_within _ _ _ _ (msub rfl hm) (within_advTo _ (msub rfl hm) (Within.refl _)))) (fun _ => (Within.refl _)))

theorem execEthTxGo_within {msk : Nat} (l : Lane) (who : Initiator) (m : Fin 3) (s : State) (hm : 69636 &&& msk = 69636) :
    WithinOut msk s (execEthTxGo l who m s) := by
  unfold execEthTxGo
  lift_lets -useContext -merge -underBinder
  intro x0 x1
  try clear_value x1
  intro x2
  try clear_value x2
  intro x3
  try clear_value x3
  intro x4
  try clear_value x4
  intro x5
  have hx5 : Within11 msk s x5 := (within11_ite (fun _ => (State.ethSubmit_within _ _ _ _ _ _ _ (msub rfl hm) (Within.refl _))) (fun _ => ⟨Within.snd (Within.refl _)⟩))
  clear_value x5
  exact withinOut_next (within_ite (fun _ => (within_wr _ _ _ _ _ (fsub rfl hm) (within_put _ _ _ _ _ (fsub rfl hm) (within_wr _ _ _ _ _ (fsub rfl hm) hx5.h)))) (fun _ => (Within.refl _)))

theorem State.ethHand_within {msk : Nat} {s00 : State} (s : State) (l : Lane) (m : Fin 3) (f : EthFrame) (hm : 0 &&& msk = 0) (h0 : Within msk s00 s) :
    Within msk s00 (State.ethHand s l m f) := by
  refine within_trans h0 ?_
  unfold State.ethHand
  exact (within_each _ _ (Within.refl _) (fun _ _ => (within_when _ _ (Within.refl _) (fun _ => (State.handNode_within _ _ _ _ (msub rfl hm) (Within.refl _))))))

theorem execEthRxFrame_within {msk : Nat} (l : Lane) (m : Fin 3) (f : EthFrame) (ago : Nat) (s : State) (hm : 4295032832 &&& msk = 4295032832) :
    WithinOut msk s (execEthRxFrame l m f ago s) := by
  unfold execEthRxFrame
  lift_lets -useContext -merge -underBinder
  intro x0 x1
  have hx1 : Within msk s x1 := (within_when _ _ (Within.refl _) (fun _ => (within_inc _ _ _ _ _ (fsub rfl hm) (Within.refl _))))
  clear_value x1
  intro x3
  have hx3 : Within msk s x3 := (within_when _ _ hx1 (fun _ => (State.ethHand_within _ _ _ _ (msub rfl hm) (Within.refl _))))
  clear_value x3
  intro x5
  try clear_value x5
  intro x6
  try clear_value x6
  intro x7
  try clear_value x7
  intro x8
  try clear_value x8
  intro x9 x10
  have hx10 : Within msk s x10 := (within_ite (fun _ => (within_setBytes _ _ _ (msub rfl hm) hx3)) (fun _ => hx3))
  clear_value x10
  intro x11
  have hx11 : Within msk s x11 := (within_ite (fun _ => (within_setBytes _ _ _ (msub rfl hm) hx10)) (fun _ => hx10))
  clear_value x11
  exact withinOut_next (within_ite (fun _ => (Within.refl _)) (fun _ => (within_ite (fun _ => hx1) (fun _ => (within_ite (fun _ => hx1) (fun _ => (within_ite (fun _ => (within_inc _ _ _ _ _ (fsub rfl hm) hx3)) (fun _ => (State.irq_within _ _ _ _ (msub rfl hm) (fsub rfl hm) (within_inc _ _ _ _ _ (fsub rfl hm) (within_wr _ _ _ _ _ (fsub rfl hm) (within_wr _ _ _ _ _ (fsub rfl hm) hx11))))))))))))

theorem execEthRxRelease_within {msk : Nat} (l : Lane) (m : Fin 3) (count : Nat) (s : State) (hm : 65536 &&& msk = 65536) :
    WithinOut msk s (execEthRxRelease l m count s) := by
  unfold execEthRxRelease
  lift_lets -useContext -merge -underBinder
  intro x0
  exact withinOut_next (within_ite (fun _ => (within_wr _ _ _ _ _ (fsub rfl hm) (Within.refl _))) (fun _ => (Within.refl _)))

theorem execEthMdio_within {msk : Nat} (l : Lane) (m : Fin 3) (value : BitVec 32) (s : State) (hm : 65536 &&& msk = 65536) :
    WithinOut msk s (execEthMdio l m value s) := by
  unfold execEthMdio
  lift_lets -useContext -merge -underBinder
  intro x0 x1
  try clear_value x1
  exact withinOut_next (within_ite (fun _ => (State.modEth_within _ _ _ _ (msub rfl hm) (within_set _ _ _ _ (fsub rfl hm) (Within.refl _)))) (fun _ => (Within.refl _)))

theorem execEthMdioDone_within {msk : Nat} (l : Lane) (m : Fin 3) (data : BitVec 16) (s : State) (hm : 65536 &&& msk = 65536) :
    WithinOut msk s (execEthMdioDone l m data s) := by
  unfold execEthMdioDone
  lift_lets -useContext -merge -underBinder
  intro x0
  exact withinOut_next (by
    split
    · exact (Within.refl _)
    · lift_lets -useContext -merge -underBinder
      intro x1
      have hx1 : Within msk s x1 := (State.modEth_within _ _ _ _ (msub rfl hm) (within_clr _ _ _ _ (fsub rfl hm) (Within.refl _)))
      clear_value x1
      refine within_ite (fun _ => ?_) (fun _ => ?_)
      · exact hx1
      · exact (within_wr _ _ _ _ _ (fsub rfl hm) hx1)
)

theorem execEthLinkChange_within {msk : Nat} (l : Lane) (m : Fin 3) (up : Bool) (speed : Fin 4) (full : Bool) (anDone : Bool) (s : State) (hm : 69636 &&& msk = 69636) :
    WithinOut msk s (execEthLinkChange l m up speed full anDone s) := by
  unfold execEthLinkChange
  lift_lets -useContext -merge -underBinder
  intro x0 x1
  try clear_value x1
  intro x2
  try clear_value x2
  intro x3
  have hx3 : Within msk s x3 := (within_put _ _ _ _ _ (fsub rfl hm) (within_put _ _ _ _ _ (fsub rfl hm) (within_wr _ _ _ _ _ (fsub rfl hm) (within_put _ _ _ _ _ (fsub rfl hm) (Within.refl _)))))
  clear_value x3
  intro x4
  have hx4 : Within msk s x4 := (within_wrBit _ _ _ _ _ (fsub rfl hm) (within_wrBit _ _ _ _ _ (fsub rfl hm) hx3))
  clear_value x4
  intro x5
  have hx5 : Within msk s x5 := (State.logIf_within _ _ _ _ _ _ (msub rfl hm) (fsub rfl hm) (State.irq_within _ _ _ _ (msub rfl hm) (fsub rfl hm) hx4))
  clear_value x5
  exact withinOut_next (within_ite (fun _ => (within_ite (fun _ => hx5) (fun _ => (within_each _ _ hx5 (fun _ _ => (State.postNet_within _ _ _ _ (msub rfl hm) (Within.refl _))))))) (fun _ => (Within.refl _)))

theorem execT1sCollision_within {msk : Nat} (l : Lane) (s : State) (hm : 69636 &&& msk = 69636) :
    WithinOut msk s (execT1sCollision l s) := by
  unfold execT1sCollision
  lift_lets -useContext -merge -underBinder
  intro x0 x1
  have hx1 : Within msk s x1 := (within_set _ _ _ _ (fsub rfl hm) (Within.refl _))
  clear_value x1
  exact withinOut_next (within_ite (fun _ => (by
    split
    · exact hx1
    · lift_lets -useContext -merge -underBinder
      intro x2
      try clear_value x2
      refine within_ite (fun _ => ?_) (fun _ => ?_)
      · exact (State.postNet_within _ _ _ _ (msub rfl hm) (State.modEth_within _ _ _ _ (msub rfl hm) hx1))
      · exact (State.modEth_within _ _ _ _ (msub rfl hm) hx1)
)) (fun _ => (Within.refl _)))

theorem execPlcaBeaconChange_within {msk : Nat} (l : Lane) (seen : Bool) (s : State) (hm : 65536 &&& msk = 65536) :
    WithinOut msk s (execPlcaBeaconChange l seen s) := by
  unfold execPlcaBeaconChange
  lift_lets -useContext -merge -underBinder
  intro x0 x1
  have hx1 : Within msk s x1 := (State.modEth_within _ _ _ _ (msub rfl hm) (within_put _ _ _ _ _ (fsub rfl hm) (within_put _ _ _ _ _ (fsub rfl hm) (Within.refl _))))
  clear_value x1
  exact withinOut_next (within_ite (fun _ => (within_when _ _ hx1 (fun _ => (within_set _ _ _ _ (fsub rfl hm) (Within.refl _))))) (fun _ => (Within.refl _)))


end Sys2Proof.Machine
end

