-- ==== Sys2Proof/Laws/WithinTime.lean ====
section
/-!
SUPPORT. The operations of Machine/Time.lean change nothing outside their masks (Laws/Within.lean).
-/
namespace Sys2Proof.Machine

theorem State.modClk_within {msk : Nat} {s00 : State} (s : State) (l : Lane) (f : LaneClock → LaneClock) (hm : 0 &&& msk = 0) (h0 : Within msk s00 s) :
    Within msk s00 (State.modClk s l f) := by
  refine within_trans h0 ?_
  unfold State.modClk
  exact (within_modRun _ _ (Within.refl _) fun _ => ⟨rfl, rfl⟩)

theorem State.takeSource_within {msk : Nat} {s00 : State} (s : State) (l : Lane) (src epoch unc : Nat) (hm : 8388608 &&& msk = 8388608) (h0 : Within msk s00 s) :
    Within msk s00 (State.takeSource s l src epoch unc) := by
  refine within_trans h0 ?_
  unfold State.takeSource
  lift_lets -useContext -merge -underBinder
  intro x0
  exact (State.modClk_within _ _ _ (msub rfl hm) (within_wrSat _ _ _ _ _ (fsub rfl hm) (State.wr64_within _ _ _ _ _ (msub rfl hm) (fsub rfl hm) (fsub rfl hm) (within_wr _ _ _ _ _ (fsub rfl hm) (Within.refl _)))))

theorem State.timeBest_within {msk : Nat} {s00 : State} (s : State) (l : Lane) (hm : 8388610 &&& msk = 8388610) (h0 : Within msk s00 s) :
    Within msk s00 (State.timeBest s l) := by
  refine within_trans h0 ?_
  unfold State.timeBest
  lift_lets -useContext -merge -underBinder
  intro x0
  refine within_ite (fun _ => ?_) (fun _ => ?_)
  · exact (Within.refl _)
  · refine within_ite (fun _ => ?_) (fun _ => ?_)
    · exact (State.takeSource_within _ _ _ _ _ (msub rfl hm) (Within.refl _))
    · split
      · exact (State.takeSource_within _ _ _ _ _ (msub rfl hm) (Within.refl _))
      · refine within_ite (fun _ => ?_) (fun _ => ?_)
        · exact (State.modClk_within _ _ _ (msub rfl hm) (Within.refl _))
        · refine within_ite (fun _ => ?_) (fun _ => ?_)
          · exact (Within.refl _)
          · exact (within_set _ _ _ _ (fsub rfl hm) (State.takeSource_within _ _ _ _ _ (msub rfl hm) (Within.refl _)))

theorem execAsSync_within {msk : Nat} (l : Lane) (m : Fin 2) (origin corr ago : Nat) (logSync : BitVec 8) (unc : Fin 2) (s : State) (hm : 4398054965248 &&& msk = 4398054965248) :
    WithinOut msk s (execAsSync l m origin corr ago logSync unc s) := by
  unfold execAsSync
  lift_lets -useContext -merge -underBinder
  intro x0 x1
  have hx1 : Within msk s x1 := (State.modEth_within _ _ _ _ (msub rfl hm) (within_wr _ _ _ _ _ (fsub rfl hm) (within_set _ _ _ _ (fsub rfl hm) (Within.refl _))))
  clear_value x1
  intro x2
  have hx2 : Within msk s x2 := (within_set _ _ _ _ (fsub rfl hm) hx1)
  clear_value x2
  intro x3
  try clear_value x3
  intro x4
  have hx4 : Within1 msk s x4 := (State.quot_within _ _ _ (msub rfl hm) hx2)
  clear_value x4
  exact withinOut_next (within_ite (fun _ => (within_ite (fun _ => hx2) (fun _ => (State.modClk_within _ _ _ (msub rfl hm) (State.takeSource_within _ _ _ _ _ (msub rfl hm) hx4.h))))) (fun _ => (Within.refl _)))

theorem execAsPdelayReq_within {msk : Nat} (l : Lane) (m : Fin 2) (s : State) (hm : 8796093022208 &&& msk = 8796093022208) :
    WithinOut msk s (execAsPdelayReq l m s) := by
  unfold execAsPdelayReq
  lift_lets -useContext -merge -underBinder
  intro x0
  try clear_value x0
  intro x1
  have hx1 : Within msk s x1 := (within_ite (fun _ => (Within.refl _)) (fun _ => (within_advTo _ (msub rfl hm) (Within.refl _))))
  clear_value x1
  exact withinOut_next (within_ite (fun _ => (State.modEth_within _ _ _ _ (msub rfl hm) hx1)) (fun _ => (Within.refl _)))

theorem execAsSyncLapse_within {msk : Nat} (l : Lane) (m : Fin 2) (s : State) (hm : 8796101476354 &&& msk = 8796101476354) :
    WithinOut msk s (execAsSyncLapse l m s) := by
  unfold execAsSyncLapse
  lift_lets -useContext -merge -underBinder
  intro x0 x1
  try clear_value x1
  intro x2
  have hx2 : Within msk s x2 := (within_clr _ _ _ _ (fsub rfl hm) (within_advTo _ (msub rfl hm) (Within.refl _)))
  clear_value x2
  exact withinOut_next (within_ite (fun _ => (State.timeBest_within _ _ (msub rfl hm) (within_put _ _ _ _ _ (fsub rfl hm) hx2))) (fun _ => (Within.refl _)))

theorem execAsPdelayAnnounceRx_within {msk : Nat} (l : Lane) (m : Fin 2) (msg : AsMsg) (s : State) (hm : 65536 &&& msk = 65536) :
    WithinOut msk s (execAsPdelayAnnounceRx l m msg s) := by
  unfold execAsPdelayAnnounceRx
  lift_lets -useContext -merge -underBinder
  intro x0
  exact withinOut_next (within_ite (fun _ => (by
    split
    · exact (State.modEth_within _ _ _ _ (msub rfl hm) (Within.refl _))
    · exact (within_put _ _ _ _ _ (fsub rfl hm) (within_wr _ _ _ _ _ (fsub rfl hm) (Within.refl _)))
    · exact (within_put _ _ _ _ _ (fsub rfl hm) (Within.refl _))
)) (fun _ => (Within.refl _)))

theorem execTimeFrame_within {msk : Nat} (l : Lane) (flips : List (BitVec 8)) (transit : Nat) (s : State) (hm : 13194147926018 &&& msk = 13194147926018) :
    WithinOut msk s (execTimeFrame l flips transit s) := by
  unfold execTimeFrame
  lift_lets -useContext -merge -underBinder
  intro x0 x1
  try clear_value x1
  intro x2
  try clear_value x2
  exact withinOut_next (State.frame_within _ _ _ _ _ _ _ _ _ _ (msub rfl hm) (Within.refl _) (fun _ => (Within.refl _)) (fun y4 => (by
    lift_lets -useContext -merge -underBinder
    intro x5
    have hx5 : Within msk y4 x5 := (within_advTo _ (msub rfl hm) (Within.refl _))
    clear_value x5
    intro x6
    try clear_value x6
    intro x7
    have hx7 : Within msk y4 x7 := (State.modClk_within _ _ _ (msub rfl hm) hx5)
    clear_value x7
    split
    · exact hx7
    · lift_lets -useContext -merge -underBinder
      intro x8
      have hx8 : Within1 msk y4 x8 := (State.quot_within _ _ _ (msub rfl hm) hx7)
      clear_value x8
      intro x9
      try clear_value x9
      intro x10
      have hx10 : Within msk y4 x10 := (within_wrSat _ _ _ _ _ (fsub rfl hm) (within_wr _ _ _ _ _ (fsub rfl hm) (within_set _ _ _ _ (fsub rfl hm) (State.wr64_within _ _ _ _ _ (msub rfl hm) (fsub rfl hm) (fsub rfl hm) hx8.h))))
      clear_value x10
      exact (within_when _ _ hx10 (fun _ => (State.timeBest_within _ _ (msub rfl hm) (Within.refl _))))
)))

theorem State.offsetAge_within {msk : Nat} {s00 : State} (s : State) (l : Lane) (hm : 8388608 &&& msk = 8388608) (h0 : Within msk s00 s) :
    Within msk s00 (State.offsetAge s l) := by
  refine within_trans h0 ?_
  unfold State.offsetAge
  lift_lets -useContext -merge -underBinder
  intro x0 x1
  have hx1 : Within msk s x1 := (within_inc _ _ _ _ _ (fsub rfl hm) (Within.refl _))
  clear_value x1
  exact (within_put _ _ _ _ _ (fsub rfl hm) hx1)

theorem State.cycleWork_within {msk : Nat} {s00 : State} (s : State) (l : Lane) (k : Nat) (hm : 4926334867166 &&& msk = 4926334867166) (h0 : Within msk s00 s) :
    Within msk s00 (State.cycleWork s l k) := by
  refine within_trans h0 ?_
  unfold State.cycleWork
  lift_lets -useContext -merge -underBinder
  intro x0
  have hx0 : Within msk s x0 := (State.copyCapture_within _ _ _ (msub rfl hm) (State.ownCapture_within _ _ _ (msub rfl hm) (State.copyApply_within _ _ (msub rfl hm) (State.judge_within _ _ (msub rfl hm) (Within.refl _)))))
  clear_value x0
  intro x1
  have hx1 : Within msk s x1 := (State.nrgBoundary_within _ _ (msub rfl hm) (State.motBoundary_within _ _ (msub rfl hm) (State.ceBoundary_within _ _ (msub rfl hm) (State.adcBoundary_within _ _ (msub rfl hm) hx0))))
  clear_value x1
  exact (within_each _ _ hx1 (fun _ _ => (State.matrixBoundary_within _ _ _ _ (msub rfl hm) (Within.refl _))))

theorem execTractionCycleBoundary_within {msk : Nat} (l : Lane) (s : State) (hm : 13722437064414 &&& msk = 13722437064414) :
    WithinOut msk s (execTractionCycleBoundary l s) := by
  unfold execTractionCycleBoundary
  lift_lets -useContext -merge -underBinder
  intro x0
  try clear_value x0
  intro x1
  have hx1 : Within msk s x1 := (State.offsetAge_within _ _ (msub rfl hm) (State.modClk_within _ _ _ (msub rfl hm) (within_advTo _ (msub rfl hm) (Within.refl _))))
  clear_value x1
  intro x2
  have hx2 : Within msk s x2 := (State.event_within _ _ _ (msub rfl hm) (State.timBoundary_within _ _ (msub rfl hm) (within_when _ _ hx1 (fun _ => (State.cycleWork_within _ _ _ (msub rfl hm) (Within.refl _))))))
  clear_value x2
  intro x4
  have hx4 : Within msk s x4 := (State.refTrimStep_within _ _ (msub rfl hm) (State.asyBoundary_within _ _ _ (msub rfl hm) hx2))
  clear_value x4
  exact withinOut_next (within_ite (fun _ => (within_when _ _ hx4 (fun _ => (State.timeBest_within _ _ (msub rfl hm) (Within.refl _))))) (fun _ => (Within.refl _)))


end Sys2Proof.Machine
end

