-- ==== Sys2Proof/Laws/WithinModeOps.lean ====
section
/-!
SUPPORT. The operations of Machine/ModeOps.lean change nothing outside their masks (Laws/Within.lean).
-/
namespace Sys2Proof.Machine

theorem State.maskField_within {msk : Nat} {s00 : State} (s : State) (d : Die) (f : Fld) (mask value i j : Nat)
    (hm : 4294967295 &&& msk = 4294967295) (h0 : Within msk s00 s) : Within msk s00 (s.maskField d f mask value i j) :=
  within_wrAny _ _ _ _ _ hm h0

theorem State.applyTriple_within {msk : Nat} {s00 : State} (s : State) (l : Lane) (base : Bool) (t : Triple) (hm : 4294967295 &&& msk = 4294967295) (h0 : Within msk s00 s) :
    Within msk s00 (State.applyTriple s l base t) := by
  refine within_trans h0 ?_
  unfold State.applyTriple
  split
  · exact (Within.refl _)
  · refine within_ite (fun _ => ?_) (fun _ => ?_)
    · exact (within_each _ _ (Within.refl _) (fun _ _ => (State.maskField_within _ _ _ _ _ _ _ (msub rfl hm) (Within.refl _))))
    · exact (Within.refl _)

theorem State.applyWord_within {msk : Nat} {s00 : State} (s : State) (l : Lane) (base : Bool) (a v : Nat) (hm : 12884901887 &&& msk = 12884901887) (h0 : Within msk s00 s) :
    Within msk s00 (State.applyWord s l base a v) := by
  refine within_trans h0 ?_
  unfold State.applyWord
  split
  · exact (within_setTable _ _ _ (msub rfl hm) (Within.refl _))
  · exact (State.applyTriple_within _ _ _ _ (msub rfl hm) (Within.refl _))

theorem State.applyPatch_within {msk : Nat} {s00 : State} (s : State) (l : Lane) (base : Bool) (p : Patch) (hm : 12884901887 &&& msk = 12884901887) (h0 : Within msk s00 s) :
    Within msk s00 (State.applyPatch s l base p) := by
  refine within_trans h0 ?_
  unfold State.applyPatch
  exact (within_each _ _ (Within.refl _) (fun _ _ => (State.applyWord_within _ _ _ _ _ (msub rfl hm) (Within.refl _))))

theorem State.writeImage_within {msk : Nat} {s00 : State} (s : State) (l : Lane) (base : Bool) (im : Image) (hm : 12884901887 &&& msk = 12884901887) (h0 : Within msk s00 s) :
    Within msk s00 (State.writeImage s l base im) := by
  refine within_trans h0 ?_
  unfold State.writeImage
  exact (within_each _ _ (within_each _ _ (Within.refl _) (fun _ _ => (State.applyTriple_within _ _ _ _ (msub rfl hm) (Within.refl _)))) (fun _ _ => (State.applyPatch_within _ _ _ _ (msub rfl hm) (Within.refl _))))

theorem State.tripleHook_within {msk : Nat} {s00 : State} (b s : State) (l : Lane) (a : Nat) (hm : 4591320039423 &&& msk = 4591320039423) (h0 : Within msk s00 b) (h1 : Within msk s00 s) :
    Within msk s00 (State.tripleHook b s l a) := by
  unfold State.tripleHook
  split
  · refine within_ite (fun _ => ?_) (fun _ => ?_)
    · exact (State.afterWrite_within _ _ _ _ _ _ (msub rfl hm) h0 h1)
    · exact h1
  · exact h1

theorem State.applyImage_within {msk : Nat} {s00 : State} (s : State) (l : Lane) (im : Image)
    (hm : 4599909974015 &&& msk = 4599909974015) (h0 : Within msk s00 s) : Within msk s00 (s.applyImage l im) := by
  unfold State.applyImage
  have h1 := State.writeImage_within s l false im (msub rfl hm) h0
  generalize s.writeImage l false im = t at h1
  generalize ((im.triples.map fun t => t.addr).eraseDups) = as
  induction as generalizing t with
  | nil => exact h1
  | cons a r ih => exact ih _ (State.tripleHook_within s t l a (msub rfl hm) h0 h1)

theorem State.applyOverlay_within {msk : Nat} {s00 : State} (s : State) (l : Lane) (m : Nat) (hm : 4599909974015 &&& msk = 4599909974015) (h0 : Within msk s00 s) :
    Within msk s00 (State.applyOverlay s l m) := by
  refine within_trans h0 ?_
  unfold State.applyOverlay
  lift_lets -useContext -merge -underBinder
  intro x0 x1
  try clear_value x1
  exact (within_each _ _ (State.applyImage_within _ _ _ (msub rfl hm) (Within.refl _)) (fun _ _ => (within_when _ _ (Within.refl _) (fun _ => (within_set _ _ _ _ (fsub rfl hm) (within_set _ _ _ _ (fsub rfl hm) (Within.refl _)))))))

theorem State.modeEnd_within {msk : Nat} {s00 : State} (s : State) (l : Lane) (code : Nat) (hm : 2 &&& msk = 2) (h0 : Within msk s00 s) :
    Within msk s00 (State.modeEnd s l code) := by
  refine within_trans h0 ?_
  unfold State.modeEnd
  exact (within_wr _ _ _ _ _ (fsub rfl hm) (within_set _ _ _ _ (fsub rfl hm) (within_clr _ _ _ _ (fsub rfl hm) (Within.refl _))))

theorem State.modeIdle_within {msk : Nat} {s00 : State} (s : State) (hm : 549755813890 &&& msk = 549755813890) (h0 : Within msk s00 s) :
    Within msk s00 (State.modeIdle s) := by
  refine within_trans h0 ?_
  unfold State.modeIdle
  lift_lets -useContext -merge -underBinder
  intro x0
  try clear_value x0
  exact (within_each _ _ (Within.of_frame (Within.refl _) rfl rfl rfl (.inr rfl) (.inr rfl) (.inr ⟨rfl, rfl⟩) (.inr rfl) (.inl (bsub rfl hm)) (.inr rfl) (.inr rfl) (.inr rfl) (.inr ⟨rfl, rfl⟩)) (fun _ _ => (within_clr _ _ _ _ (fsub rfl hm) (Within.refl _))))

theorem State.modeEnter_within {msk : Nat} {s00 : State} (s : State) (l : Lane) (m hold : Nat) (hm : 446682891342 &&& msk = 446682891342) (h0 : Within msk s00 s) :
    Within msk s00 (State.modeEnter s l m hold) := by
  refine within_trans h0 ?_
  unfold State.modeEnter
  lift_lets -useContext -merge -underBinder
  intro x0 x1
  try clear_value x1
  intro x2
  have hx2 : Within msk s x2 := (within_wr _ _ _ _ _ (fsub rfl hm) (within_wr _ _ _ _ _ (fsub rfl hm) (within_wr _ _ _ _ _ (fsub rfl hm) (Within.refl _))))
  clear_value x2
  intro x3
  have hx3 : Within msk s x3 := (within_ite (fun _ => (within_wr _ _ _ _ _ (fsub rfl hm) (within_clr _ _ _ _ (fsub rfl hm) hx2))) (fun _ => hx2))
  clear_value x3
  intro x4
  have hx4 : Within msk s x4 := (within_put _ _ _ _ _ (fsub rfl hm) hx3)
  clear_value x4
  exact (State.asyTrigger_within _ _ _ (msub rfl hm) (State.modAsy_within _ _ _ (msub rfl hm) (State.nrgMode_within _ _ (msub rfl hm) hx4)))

theorem State.parkRecord_within {msk : Nat} {s00 : State} (s : State) (l : Lane) (hm : 4415226904576 &&& msk = 4415226904576) (h0 : Within msk s00 s) :
    Within msk s00 (State.parkRecord s l) := by
  refine within_trans h0 ?_
  unfold State.parkRecord
  lift_lets -useContext -merge -underBinder
  intro x0
  try clear_value x0
  intro x1
  have hx1 : Within1 msk s x1 := (State.capture_within _ _ _ _ (msub rfl hm) (Within.refl _))
  clear_value x1
  intro x2
  try clear_value x2
  refine within_ite (fun _ => ?_) (fun _ => ?_)
  · exact (within_inc _ _ _ _ _ (fsub rfl hm) (State.ledgerWrite_within _ _ _ _ (msub rfl hm) hx1.h))
  · exact (Within.refl _)

theorem State.parkClears_within {msk : Nat} {s00 : State} (s : State) (hm : 4294967295 &&& msk = 4294967295) (h0 : Within msk s00 s) :
    Within msk s00 (State.parkClears s) := by
  refine within_trans h0 ?_
  unfold State.parkClears
  lift_lets -useContext -merge -underBinder
  intro x0
  have hx0 : Within msk s x0 := (within_each _ _ (Within.refl _) (fun _ _ => (State.returnClass_within _ _ (msub rfl hm) (Within.refl _))))
  clear_value x0
  intro x3
  have hx3 : Within msk s x3 := (within_foldl _ _ hx0 (fun _ _ => (within_wrAny _ _ _ _ _ (msub rfl hm) (Within.refl _))))
  clear_value x3
  intro x6
  have hx6 : Within msk s x6 := (within_wr _ _ _ _ _ (fsub rfl hm) hx3)
  clear_value x6
  exact (State.syncImposed_within _ (msub rfl hm) hx6)

theorem State.grantEnd_within {msk : Nat} {s00 : State} (s : State) (hm : 343599485058 &&& msk = 343599485058) (h0 : Within msk s00 s) :
    Within msk s00 (State.grantEnd s) := by
  refine within_trans h0 ?_
  unfold State.grantEnd
  lift_lets -useContext -merge -underBinder
  intro x0
  have hx0 : Within msk s x0 := (within_each _ _ (Within.refl _) (fun _ _ => (State.removeGrant_within _ _ (msub rfl hm) (Within.refl _))))
  clear_value x0
  intro x3
  have hx3 : Within msk s x3 := (within_modDep _ (msub rfl hm) (within_wr _ _ _ _ _ (fsub rfl hm) (within_wr _ _ _ _ _ (fsub rfl hm) hx0)))
  clear_value x3
  intro x4
  try clear_value x4
  exact (Within.of_frame hx3 rfl rfl rfl (.inr rfl) (.inl (bsub rfl hm)) (.inr ⟨rfl, rfl⟩) (.inr rfl) (.inr rfl) (.inr rfl) (.inr rfl) (.inr rfl) (.inr ⟨rfl, rfl⟩))

theorem State.depStandDown_within {msk : Nat} {s00 : State} (s : State) (hm : 343599485062 &&& msk = 343599485062) (h0 : Within msk s00 s) :
    Within msk s00 (State.depStandDown s) := by
  refine within_trans h0 ?_
  unfold State.depStandDown
  exact (State.grantLogic_within _ (msub rfl hm) (within_modDep _ (msub rfl hm) (within_each _ _ (State.grantEnd_within _ (msub rfl hm) (Within.refl _)) (fun _ _ => (within_clr _ _ _ _ (fsub rfl hm) (Within.refl _))))))

theorem State.linksStatic_within {msk : Nat} {s00 : State} (s : State) (hm : 34359738368 &&& msk = 34359738368) (h0 : Within msk s00 s) :
    Within msk s00 (State.linksStatic s) := by
  refine within_trans h0 ?_
  unfold State.linksStatic
  lift_lets -useContext -merge -underBinder
  intro x0
  try clear_value x0
  exact (Within.of_frame (Within.refl _) rfl rfl rfl (.inl (bsub rfl hm)) (.inr rfl) (.inr ⟨rfl, rfl⟩) (.inr rfl) (.inr rfl) (.inr rfl) (.inr rfl) (.inr rfl) (.inr ⟨rfl, rfl⟩))

theorem State.parkTell_within {msk : Nat} {s00 : State} (s : State) (l : Lane) (freq : Nat) (hm : 2097152 &&& msk = 2097152) (h0 : Within msk s00 s) :
    Within msk s00 (State.parkTell s l freq) := by
  refine within_trans h0 ?_
  unfold State.parkTell
  lift_lets -useContext -merge -underBinder
  intro x0
  try clear_value x0
  intro x1
  have hx1 : Within msk s x1 := (within_wr _ _ _ _ _ (fsub rfl hm) (within_wr _ _ _ _ _ (fsub rfl hm) (within_wr _ _ _ _ _ (fsub rfl hm) (Within.refl _))))
  clear_value x1
  exact (within_wr _ _ _ _ _ (fsub rfl hm) hx1)

theorem State.enterParked_within {msk : Nat} {s00 : State} (s : State) (l : Lane) (freq : Nat) (hm : 4947802324991 &&& msk = 4947802324991) (h0 : Within msk s00 s) :
    Within msk s00 (State.enterParked s l freq) := by
  refine within_trans h0 ?_
  unfold State.enterParked
  lift_lets -useContext -merge -underBinder
  intro x0
  have hx0 : Within msk s x0 := (State.parkCount_within _ (msub rfl hm) (State.parkTell_within _ _ _ (msub rfl hm) (Within.refl _)))
  clear_value x0
  intro x1
  have hx1 : Within msk s x1 := (within_each _ _ hx0 (fun _ _ => (State.brakeEnd_within _ _ (msub rfl hm) (State.clampWithdraw_within _ _ (msub rfl hm) (State.parkRecord_within _ _ (msub rfl hm) (Within.refl _))))))
  clear_value x1
  intro x4
  have hx4 : Within msk s x4 := (State.depStandDown_within _ (msub rfl hm) (State.parkOutputs_within _ _ (msub rfl hm) (State.parkClears_within _ (msub rfl hm) hx1)))
  clear_value x4
  intro x5
  have hx5 : Within msk s x5 := (within_modDep _ (msub rfl hm) hx4)
  clear_value x5
  exact (within_each _ _ (State.linksStatic_within _ (msub rfl hm) hx5) (fun _ _ => (within_when _ _ (Within.refl _) (fun _ => (State.resetIsland_within _ _ _ (msub rfl hm) (Within.refl _))))))

theorem State.enterStorage_within {msk : Nat} {s00 : State} (s : State) (l : Lane) (hm : 7082401071103 &&& msk = 7082401071103) (h0 : Within msk s00 s) :
    Within msk s00 (State.enterStorage s l) := by
  refine within_trans h0 ?_
  unfold State.enterStorage
  lift_lets -useContext -merge -underBinder
  intro x0
  have hx0 : Within msk s x0 := (within_ite (fun _ => (State.depStandDown_within _ (msub rfl hm) (State.parkOutputs_within _ _ (msub rfl hm) (Within.refl _)))) (fun _ => (Within.refl _)))
  clear_value x0
  exact (State.keeperStore_within _ _ (msub rfl hm) hx0)

theorem State.skipCells_within {msk : Nat} {s00 : State} (s : State) (l : Lane) (im : Image) (t : Nat) (hm : 32768 &&& msk = 32768) (h0 : Within msk s00 s) :
    Within msk s00 (State.skipCells s l im t) := by
  refine within_trans h0 ?_
  unfold State.skipCells
  exact (within_each _ _ (Within.refl _) (fun y0 y1 => (by
    lift_lets -useContext -merge -underBinder
    intro x2
    try clear_value x2
    exact (within_when _ _ (Within.refl _) (fun _ => (within_set _ _ _ _ (fsub rfl hm) (Within.refl _))))
)))

theorem State.modeApply_within {msk : Nat} {s00 : State} (s : State) (l : Lane) (m : Nat) (hold : Lane → Nat) (freq : Nat) (hm : 16492674416639 &&& msk = 16492674416639) (h0 : Within msk s00 s) :
    Within msk s00 (State.modeApply s l m hold freq) := by
  refine within_trans h0 ?_
  unfold State.modeApply
  lift_lets -useContext -merge -underBinder
  intro x0
  try clear_value x0
  intro x1 x2
  have hx2 : Within msk s x2 := (within_each _ _ (Within.refl _) (fun _ _ => (State.skipCells_within _ _ _ _ (msub rfl hm) (Within.refl _))))
  clear_value x2
  intro x5
  have hx5 : Within msk s x5 := (within_advTo _ (msub rfl hm) (within_each _ _ hx2 (fun _ _ => (State.applyOverlay_within _ _ _ (msub rfl hm) (State.event_within _ _ _ (msub rfl hm) (Within.refl _))))))
  clear_value x5
  intro x8
  try clear_value x8
  intro x9
  have hx9 : Within msk s x9 := (Within.of_frame hx5 rfl rfl rfl (.inr rfl) (.inr rfl) (.inr ⟨rfl, rfl⟩) (.inr rfl) (.inl (bsub rfl hm)) (.inr rfl) (.inr rfl) (.inr rfl) (.inr ⟨rfl, rfl⟩))
  clear_value x9
  intro x10
  have hx10 : Within msk s x10 := (within_when _ _ hx9 (fun _ => (within_wr _ _ _ _ _ (fsub rfl hm) (Within.refl _))))
  clear_value x10
  intro x12
  have hx12 : Within msk s x12 := (within_each _ _ hx10 (fun _ _ => (State.modeEnter_within _ _ _ _ (msub rfl hm) (Within.refl _))))
  clear_value x12
  intro x15
  have hx15 : Within msk s x15 := (State.modeIdle_within _ (msub rfl hm) (State.modeEnd_within _ _ _ (msub rfl hm) hx12))
  clear_value x15
  intro x16
  have hx16 : Within msk s x16 := (within_ite (fun _ => (State.enterParked_within _ _ _ (msub rfl hm) hx15)) (fun _ => (within_ite (fun _ => (State.enterStorage_within _ _ (msub rfl hm) hx15)) (fun _ => hx15))))
  clear_value x16
  exact (within_when _ _ hx16 (fun _ => (State.syncChs_within _ (msub rfl hm) (State.syncSto_within _ (msub rfl hm) (Within.refl _)))))


end Sys2Proof.Machine
end

