-- ==== Sys2Proof/Laws/WithinMode.lean ====
section
/-!
SUPPORT. The operations of Machine/Mode.lean change nothing outside their masks (Laws/Within.lean).
-/
namespace Sys2Proof.Machine

theorem State.modeRefused_within {msk : Nat} {s00 : State} (s : State) (l : Lane) (m code : Nat) (aborted : Bool) (hm : 1 &&& msk = 1) (h0 : Within msk s00 s) :
    Within msk s00 (State.modeRefused s l m code aborted) := by
  refine within_trans h0 ?_
  unfold State.modeRefused
  refine within_ite (fun _ => ?_) (fun _ => ?_)
  · exact (State.refuseEntry_within _ _ _ _ (msub rfl hm) (Within.refl _))
  · exact (Within.refl _)

theorem execModeRequest_within {msk : Nat} (l : Lane) (target : Fin 8) (nvmBusy : Bool) (s : State) (hm : 4947802324995 &&& msk = 4947802324995) :
    WithinOut msk s (execModeRequest l target nvmBusy s) := by
  unfold execModeRequest
  lift_lets -useContext -merge -underBinder
  intro x0 x1
  try clear_value x1
  intro x2
  have hx2 : Within msk s x2 := (within_wr _ _ _ _ _ (fsub rfl hm) (Within.refl _))
  clear_value x2
  intro x3
  try clear_value x3
  intro x4
  try clear_value x4
  intro x5
  try clear_value x5
  intro x6
  have hx6 : Within1 msk s x6 := (within1_free _ (msub rfl hm) hx2)
  clear_value x6
  intro x7
  try clear_value x7
  intro x8
  have hx8 : Within msk s x8 := (within_clr _ _ _ _ (fsub rfl hm) (within_set _ _ _ _ (fsub rfl hm) hx2))
  clear_value x8
  intro x9
  try clear_value x9
  intro x10
  have hx10 : Within msk s x10 := (Within.of_frame hx8 rfl rfl rfl (.inr rfl) (.inr rfl) (.inr ⟨rfl, rfl⟩) (.inr rfl) (.inl (bsub rfl hm)) (.inr rfl) (.inr rfl) (.inr rfl) (.inr ⟨rfl, rfl⟩))
  clear_value x10
  exact withinOut_next (within_ite (fun _ => (Within.refl _)) (fun _ => (within_ite (fun _ => (within_put _ _ _ _ _ (fsub rfl hm) (State.modeRefused_within _ _ _ _ _ (msub rfl hm) (State.modeEnd_within _ _ _ (msub rfl hm) hx2)))) (fun _ => (within_ite (fun _ => (State.refuseEntry_within _ _ _ _ (msub rfl hm) (State.modeEnd_within _ _ _ (msub rfl hm) hx6.h))) (fun _ => (within_ite (fun _ => (State.modLnk_within _ _ _ (msub rfl hm) hx10)) (fun _ => hx10))))))))

theorem State.modeAnswer_within {msk : Nat} {s00 : State} (s : State) (l : Lane) (m : Nat) (nvmBusy : Bool) (hm : 3 &&& msk = 3) (h0 : Within msk s00 s) :
    Within msk s00 (State.modeAnswer s l m nvmBusy) := by
  refine within_trans h0 ?_
  unfold State.modeAnswer
  lift_lets -useContext -merge -underBinder
  intro x0
  try clear_value x0
  refine within_ite (fun _ => ?_) (fun _ => ?_)
  · refine within_ite (fun _ => ?_) (fun _ => ?_)
    · exact (State.modLnk_within _ _ _ (msub rfl hm) (State.refuseEntry_within _ _ _ _ (msub rfl hm) (Within.refl _)))
    · exact (State.modLnk_within _ _ _ (msub rfl hm) (within_set _ _ _ _ (fsub rfl hm) (Within.refl _)))
  · exact (Within.refl _)

theorem State.modeNoPartner_within {msk : Nat} {s00 : State} (s : State) (hm : 549755813891 &&& msk = 549755813891) (h0 : Within msk s00 s) :
    Within msk s00 (State.modeNoPartner s) := by
  refine within_trans h0 ?_
  unfold State.modeNoPartner
  lift_lets -useContext -merge -underBinder
  intro x0
  try clear_value x0
  exact (State.modeIdle_within _ (msub rfl hm) (State.modeRefused_within _ _ _ _ _ (msub rfl hm) (State.modeEnd_within _ _ _ (msub rfl hm) (Within.refl _))))

theorem execLinkFrameMode_within {msk : Nat} (l : Lane) (flips : List (BitVec 8)) (nvmBusy : Bool) (s : State) (hm : 549755817987 &&& msk = 549755817987) :
    WithinOut msk s (execLinkFrameMode l flips nvmBusy s) := by
  unfold execLinkFrameMode
  lift_lets -useContext -merge -underBinder
  intro x0
  try clear_value x0
  exact withinOut_next (by
    split
    · exact (Within.refl _)
    · exact (State.frame_within _ _ _ _ _ _ _ _ _ _ (msub rfl hm) (Within.refl _) (fun _ => (State.modLnk_within _ _ _ (msub rfl hm) (Within.refl _))) (fun y2 => (by
        split
        · exact (State.modeAnswer_within _ _ _ _ (msub rfl hm) (Within.refl _))
        · lift_lets -useContext -merge -underBinder
          intro x3
          try clear_value x3
          refine within_ite (fun _ => ?_) (fun _ => ?_)
          · exact (Within.of_frame (Within.refl _) rfl rfl rfl (.inr rfl) (.inr rfl) (.inr ⟨rfl, rfl⟩) (.inr rfl) (.inl (bsub rfl hm)) (.inr rfl) (.inr rfl) (.inr rfl) (.inr ⟨rfl, rfl⟩))
          · exact (Within.refl _)
        · refine within_ite (fun _ => ?_) (fun _ => ?_)
          · exact (State.modeNoPartner_within _ (msub rfl hm) (Within.refl _))
          · exact (Within.refl _)
)))
)

theorem execModePartnerTimeout_within {msk : Nat} (s : State) (hm : 9345848836099 &&& msk = 9345848836099) :
    WithinOut msk s (execModePartnerTimeout s) := by
  unfold execModePartnerTimeout
  exact withinOut_next (within_ite (fun _ => (State.modeNoPartner_within _ (msub rfl hm) (within_advTo _ (msub rfl hm) (Within.refl _)))) (fun _ => (Within.refl _)))

theorem State.parkOpen_within {msk : Nat} {s00 : State} (s : State) (l : Lane) (hm : 1092 &&& msk = 1092) (h0 : Within msk s00 s) :
    Within msk s00 (State.parkOpen s l) := by
  refine within_trans h0 ?_
  unfold State.parkOpen
  refine within_ite (fun _ => ?_) (fun _ => ?_)
  · exact (Within.refl _)
  · exact (State.openMain_within _ _ (msub rfl hm) (within_clr _ _ _ _ (fsub rfl hm) (within_wr _ _ _ _ _ (fsub rfl hm) (State.seqEnd_within _ _ _ (msub rfl hm) (Within.refl _)))))

theorem execModeChangeApply_within {msk : Nat} (holdA holdB freq : Nat) (s : State) (hm : 16492674416639 &&& msk = 16492674416639) :
    WithinOut msk s (execModeChangeApply holdA holdB freq s) := by
  unfold execModeChangeApply
  lift_lets -useContext -merge -underBinder
  intro x0
  try clear_value x0
  intro x1
  try clear_value x1
  intro x2
  have hx2 : Within msk s x2 := (within_advTo _ (msub rfl hm) (Within.refl _))
  clear_value x2
  exact withinOut_next (within_ite (fun _ => (Within.refl _)) (fun _ => (by
    split
    · exact (State.modeIdle_within _ (msub rfl hm) (within_when _ _ hx2 (fun _ => (State.modeRefused_within _ _ _ _ _ (msub rfl hm) (State.modeEnd_within _ _ _ (msub rfl hm) (Within.refl _))))))
    · split
      · lift_lets -useContext -merge -underBinder
        intro x4
        have hx4 : Within1 msk s x4 := (within1_free _ (msub rfl hm) hx2)
        clear_value x4
        exact (State.modeIdle_within _ (msub rfl hm) (State.refuseEntry_within _ _ _ _ (msub rfl hm) (State.modeEnd_within _ _ _ (msub rfl hm) hx4.h)))
      · refine within_ite (fun _ => ?_) (fun _ => ?_)
        · exact (State.parkOpen_within _ _ (msub rfl hm) hx2)
        · exact (State.modeApply_within _ _ _ _ _ (msub rfl hm) hx2)
)))


end Sys2Proof.Machine
end

