-- ==== Sys2Proof/Laws/WithinSafeOut.lean ====
section
/-!
SUPPORT. The operations of Machine/SafeOut.lean change nothing outside their masks (Laws/Within.lean).
-/
namespace Sys2Proof.Machine

theorem execSoFbMismatch_within {msk : Nat} (k : Fin 12) (fb ls : Bool) (s : State) (hm : 8796095120384 &&& msk = 8796095120384) :
    WithinOut msk s (execSoFbMismatch k fb ls s) := by
  unfold execSoFbMismatch
  lift_lets -useContext -merge -underBinder
  intro x0
  try clear_value x0
  intro x1
  try clear_value x1
  intro x2
  try clear_value x2
  intro x3
  have hx3 : Within msk s x3 := (within_put _ _ _ _ _ (fsub rfl hm) (within_put _ _ _ _ _ (fsub rfl hm) (within_advTo _ (msub rfl hm) (Within.refl _))))
  clear_value x3
  intro x4
  have hx4 : Within msk s x4 := (within_wrBit _ _ _ _ _ (fsub rfl hm) (within_wrBit _ _ _ _ _ (fsub rfl hm) hx3))
  clear_value x4
  intro x5
  have hx5 : Within msk s x5 := (within_inc _ _ _ _ _ (fsub rfl hm) (within_set _ _ _ _ (fsub rfl hm) hx4))
  clear_value x5
  exact withinOut_next (within_ite (fun _ => (by
    split
    · exact (within_each _ _ hx5 (fun _ _ => (within_when _ _ (Within.refl _) (fun _ => (within_set _ _ _ _ (fsub rfl hm) (Within.refl _))))))
    · exact hx5
)) (fun _ => (Within.refl _)))

theorem State.soTest_within {msk : Nat} {s00 : State} (s : State) (k : Fin 12) (r : SoRead) (periodic : Bool) (hm : 9070973026308 &&& msk = 9070973026308) (h0 : Within msk s00 s) :
    Within msk s00 (State.soTest s k r periodic) := by
  refine within_trans h0 ?_
  unfold State.soTest
  lift_lets -useContext -merge -underBinder
  intro x0
  try clear_value x0
  intro x1
  try clear_value x1
  intro x2
  have hx2 : Within msk s x2 := (within_modDep _ (msub rfl hm) (within_inc _ _ _ _ _ (fsub rfl hm) (within_set _ _ _ _ (fsub rfl hm) (Within.refl _))))
  clear_value x2
  intro x3
  have hx3 : Within msk s x3 := (within_advTo _ (msub rfl hm) hx2)
  clear_value x3
  intro x4
  have hx4 : Within msk s x4 := (within_ite (fun _ => (State.closeSo_within _ _ (msub rfl hm) hx3).h) (fun _ => hx3))
  clear_value x4
  intro x5
  try clear_value x5
  intro x6
  have hx6 : Within msk s x6 := (within_ite (fun _ => hx4) (fun _ => (State.record_within _ _ _ _ _ (msub rfl hm) (within_wrBit _ _ _ _ _ (fsub rfl hm) (within_wr _ _ _ _ _ (fsub rfl hm) (within_set _ _ _ _ (fsub rfl hm) hx4))))))
  clear_value x6
  intro x7
  have hx7 : Within msk s x7 := (State.testEnd_within _ _ _ (msub rfl hm) hx6)
  clear_value x7
  refine within_ite (fun _ => ?_) (fun _ => ?_)
  · exact (State.openSo_within _ _ (msub rfl hm) hx2)
  · refine within_ite (fun _ => ?_) (fun _ => ?_)
    · exact (State.closeSo_within _ _ (msub rfl hm) (within_modDep _ (msub rfl hm) hx7)).h
    · exact hx7

theorem State.soRound_within {msk : Nat} {s00 : State} (s : State) (reads : List SoRead) (hm : 9070973026308 &&& msk = 9070973026308) (h0 : Within msk s00 s) :
    Within msk s00 (State.soRound s reads) := by
  refine within_trans h0 ?_
  unfold State.soRound
  exact (within_each _ _ (Within.refl _) (fun _ _ => (within_ite (fun _ => (State.soTest_within _ _ _ _ (msub rfl hm) (Within.refl _))) (fun _ => (Within.refl _)))))

theorem execSoTestRound_within {msk : Nat} (reads : List SoRead) (s : State) (hm : 9070973026308 &&& msk = 9070973026308) :
    WithinOut msk s (execSoTestRound reads s) := by
  unfold execSoTestRound
  exact withinOut_next (within_ite (fun _ => (within_modDep _ (msub rfl hm) (State.soRound_within _ _ (msub rfl hm) (Within.refl _)))) (fun _ => (by
    split
    · exact (Within.refl _)
    · lift_lets -useContext -merge -underBinder
      intro x0
      have hx0 : Within msk s x0 := (State.soRound_within _ _ (msub rfl hm) (within_advTo _ (msub rfl hm) (Within.refl _)))
      clear_value x0
      intro x1
      try clear_value x1
      refine within_ite (fun _ => ?_) (fun _ => ?_)
      · exact (within_modDep _ (msub rfl hm) hx0)
      · exact (Within.refl _)
)))

theorem execSoTestGo_within {msk : Nat} (l : Lane) (out : Fin 16) (read : SoRead) (s : State) (hm : 9070973026309 &&& msk = 9070973026309) :
    WithinOut msk s (execSoTestGo l out read s) := by
  unfold execSoTestGo
  lift_lets -useContext -merge -underBinder
  intro x0
  have hx0 : Within msk s x0 := (within_wr _ _ _ _ _ (fsub rfl hm) (within_wr _ _ _ _ _ (fsub rfl hm) (Within.refl _)))
  clear_value x0
  exact withinOut_next (within_ite (fun _ => (Within.refl _)) (fun _ => (within_ite (fun _ => (State.accessError_within _ _ _ _ _ _ (msub rfl hm) (Within.refl _))) (fun _ => (by
    refine within_dite (fun _ => ?_) (fun _ => ?_)
    · lift_lets -useContext -merge -underBinder
      intro x1
      try clear_value x1
      refine within_ite (fun _ => ?_) (fun _ => ?_)
      · exact hx0
      · exact (State.soTest_within _ _ _ _ (msub rfl hm) (Within.refl _))
    · exact hx0
)))))

theorem execSoCurrentLimit_within {msk : Nat} (k : Fin 12) (s : State) (hm : 9070973026304 &&& msk = 9070973026304) :
    WithinOut msk s (execSoCurrentLimit k s) := by
  unfold execSoCurrentLimit
  exact withinOut_next (within_ite (fun _ => (State.openSo_within _ _ (msub rfl hm) (within_advTo _ (msub rfl hm) (Within.refl _)))) (fun _ => (Within.refl _)))


end Sys2Proof.Machine
end

