-- ==== Sys2Proof/Laws/WithinStart.lean ====
section
/-!
SUPPORT. The operations of Machine/Start.lean change nothing outside their masks (Laws/Within.lean).
-/
namespace Sys2Proof.Machine

theorem State.modStart_within {msk : Nat} {s00 : State} (s : State) (l : Lane) (f : StartSt → StartSt) (hm : 0 &&& msk = 0) (h0 : Within msk s00 s) :
    Within msk s00 (State.modStart s l f) := by
  refine within_trans h0 ?_
  unfold State.modStart
  exact (within_modRun _ _ (Within.refl _) fun _ => ⟨rfl, rfl⟩)

theorem State.setPhase_within {msk : Nat} {s00 : State} (s : State) (l : Lane) (p : LanePhase) (hm : 0 &&& msk = 0) (h0 : Within msk s00 s) :
    Within msk s00 (State.setPhase s l p) := by
  refine within_trans h0 ?_
  unfold State.setPhase
  exact (within_modRun _ _ (Within.refl _) fun _ => ⟨rfl, rfl⟩)

theorem State.openRecord_within {msk : Nat} {s00 : State} (s : State) (l : Lane) (hm : 17179869186 &&& msk = 17179869186) (h0 : Within msk s00 s) :
    Within msk s00 (State.openRecord s l) := by
  refine within_trans h0 ?_
  unfold State.openRecord
  lift_lets -useContext -merge -underBinder
  intro x0 x1
  try clear_value x1
  intro x2
  have hx2 : Within msk s x2 := (State.modLamp_within _ _ _ (msub rfl hm) (Within.refl _))
  clear_value x2
  intro x3
  try clear_value x3
  intro x4 x5
  try clear_value x5
  intro x6
  try clear_value x6
  intro x7
  try clear_value x7
  intro x8
  have hx8 : Within msk s x8 := by
    unfold x8
    split
    · exact (within_wr _ _ _ _ _ (fsub rfl hm) (within_wr _ _ _ _ _ (fsub rfl hm) (within_wr _ _ _ _ _ (fsub rfl hm) hx2)))
    · exact hx2
  clear_value x8
  intro x9
  have hx9 : Within msk s x9 := (within_put _ _ _ _ _ (fsub rfl hm) hx8)
  clear_value x9
  exact (within_wr _ _ _ _ _ (fsub rfl hm) (within_modNv _ _ (msub rfl hm) hx9))

theorem State.copyCauses_within {msk : Nat} {s00 : State} (s : State) (l : Lane) (hm : 4194305 &&& msk = 4194305) (h0 : Within msk s00 s) :
    Within msk s00 (State.copyCauses s l) := by
  refine within_trans h0 ?_
  unfold State.copyCauses
  lift_lets -useContext -merge -underBinder
  intro x0 x1
  have hx1 : Within msk s x1 := (within_wr _ _ _ _ _ (fsub rfl hm) (within_wr _ _ _ _ _ (fsub rfl hm) (within_wr _ _ _ _ _ (fsub rfl hm) (Within.refl _))))
  clear_value x1
  exact (within_clr _ _ _ _ (fsub rfl hm) (within_clr _ _ _ _ (fsub rfl hm) (within_clr _ _ _ _ (fsub rfl hm) (within_clr _ _ _ _ (fsub rfl hm) hx1))))

theorem State.readOtp_within {msk : Nat} {s00 : State} (s0 : State) (l : Lane) (hm : 17180131339 &&& msk = 17180131339) (h0 : Within msk s00 s0) :
    Within msk s00 (State.readOtp s0 l) := by
  refine within_trans h0 ?_
  unfold State.readOtp
  lift_lets -useContext -merge -underBinder
  intro x0 x1
  have hx1 : Within msk s0 x1 := (within_modNv _ _ (msub rfl hm) (Within.refl _))
  clear_value x1
  intro x2
  try clear_value x2
  intro x3
  have hx3 : Within msk s0 x3 := (within_wr _ _ _ _ _ (fsub rfl hm) (within_wr _ _ _ _ _ (fsub rfl hm) (within_wr _ _ _ _ _ (fsub rfl hm) hx1)))
  clear_value x3
  intro x4
  have hx4 : Within msk s0 x4 := (within_wr _ _ _ _ _ (fsub rfl hm) (within_wr _ _ _ _ _ (fsub rfl hm) (within_put _ _ _ _ _ (fsub rfl hm) hx3)))
  clear_value x4
  intro x5
  have hx5 : Within msk s0 x5 := (within_set _ _ _ _ (fsub rfl hm) (within_put _ _ _ _ _ (fsub rfl hm) (within_put _ _ _ _ _ (fsub rfl hm) hx4)))
  clear_value x5
  intro x6
  have hx6 : Within msk s0 x6 := (within_wr _ _ _ _ _ (fsub rfl hm) (within_wr _ _ _ _ _ (fsub rfl hm) (within_wr _ _ _ _ _ (fsub rfl hm) hx5)))
  clear_value x6
  exact (within_each _ _ hx6 (fun y7 y8 => (within_each _ _ (Within.refl _) (fun y9 y10 => (by
    lift_lets -useContext -merge -underBinder
    intro x11 x12
    try clear_value x12
    exact (State.modGrp_within _ _ _ _ (msub rfl hm) (within_wr _ _ _ _ _ (fsub rfl hm) (within_wr _ _ _ _ _ (fsub rfl hm) (within_wr _ _ _ _ _ (fsub rfl hm) (Within.refl _)))))
)))))

theorem State.st02_within {msk : Nat} {s00 : State} (s : State) (l : Lane) (inp : StartInputs) (hm : 17184456715 &&& msk = 17184456715) (h0 : Within msk s00 s) :
    Within1 msk s00 (State.st02 s l inp) := by
  refine within1_trans h0 ?_
  unfold State.st02
  lift_lets -useContext -merge -underBinder
  intro x0
  have hx0 : Within msk s x0 := (within_wr _ _ _ _ _ (fsub rfl hm) (State.readOtp_within _ _ (msub rfl hm) (State.copyCauses_within _ _ (msub rfl hm) (Within.refl _))))
  clear_value x0
  exact ⟨Within.snd (within_set _ _ _ _ (fsub rfl hm) (within_when _ _ hx0 (fun _ => (within_set _ _ _ _ (fsub rfl hm) (Within.refl _)))))⟩

theorem State.st03_within {msk : Nat} {s00 : State} (s : State) (l : Lane) (hm : 2 &&& msk = 2) (h0 : Within msk s00 s) :
    Within1 msk s00 (State.st03 s l) := by
  refine within1_trans h0 ?_
  unfold State.st03
  lift_lets -useContext -merge -underBinder
  intro x0
  try clear_value x0
  exact ⟨Within.snd (within_modRun _ _ (within_put _ _ _ _ _ (fsub rfl hm) (Within.refl _)) fun _ => ⟨rfl, rfl⟩)⟩

theorem State.st04_within {msk : Nat} {s00 : State} (s : State) (l : Lane) (inp : StartInputs) (hm : 8192 &&& msk = 8192) (h0 : Within msk s00 s) :
    Within1 msk s00 (State.st04 s l inp) := by
  refine within1_trans h0 ?_
  unfold State.st04
  lift_lets -useContext -merge -underBinder
  intro x0 x1 x2
  try clear_value x2
  intro x3
  have hx3 : Within msk s x3 := (within_put _ _ _ _ _ (fsub rfl hm) (within_put _ _ _ _ _ (fsub rfl hm) (within_set _ _ _ _ (fsub rfl hm) (Within.refl _))))
  clear_value x3
  intro x4
  have hx4 : Within msk s x4 := (within_wr _ _ _ _ _ (fsub rfl hm) (within_wr _ _ _ _ _ (fsub rfl hm) (within_wr _ _ _ _ _ (fsub rfl hm) hx3)))
  clear_value x4
  intro x5
  have hx5 : Within msk s x5 := (within_each _ _ hx4 (fun _ _ => (within_wr _ _ _ _ _ (fsub rfl hm) (Within.refl _))))
  clear_value x5
  exact ⟨Within.snd (within_put _ _ _ _ _ (fsub rfl hm) hx5)⟩

theorem State.loadImage_within {msk : Nat} {s00 : State} (s : State) (l : Lane) (b : BootImage) (hm : 4294967296 &&& msk = 4294967296) (h0 : Within msk s00 s) :
    Within msk s00 (State.loadImage s l b) := by
  refine within_trans h0 ?_
  unfold State.loadImage
  exact (State.modStart_within _ _ _ (msub rfl hm) (within_each _ _ (Within.refl _) (fun _ _ => (within_setBytes _ _ _ (msub rfl hm) (Within.refl _)))))

theorem State.st06_within {msk : Nat} {s00 : State} (s : State) (l : Lane) (inp : StartInputs) (hm : 4294967298 &&& msk = 4294967298) (h0 : Within msk s00 s) :
    Within1 msk s00 (State.st06 s l inp) := by
  refine within1_trans h0 ?_
  unfold State.st06
  lift_lets -useContext -merge -underBinder
  intro x0 x1
  try clear_value x1
  intro x2
  have hx2 : Within msk s x2 := (within_put _ _ _ _ _ (fsub rfl hm) (Within.refl _))
  clear_value x2
  intro x3
  try clear_value x3
  intro x4
  try clear_value x4
  intro x5
  have hx5 : Within msk s x5 := (within_wr _ _ _ _ _ (fsub rfl hm) (within_wr _ _ _ _ _ (fsub rfl hm) (State.loadImage_within _ _ _ (msub rfl hm) hx2)))
  clear_value x5
  refine within1_ite (fun _ => ?_) (fun _ => ?_)
  · exact ⟨Within.snd hx2⟩
  · refine within1_ite (fun _ => ?_) (fun _ => ?_)
    · exact ⟨Within.snd hx2⟩
    · exact ⟨Within.snd (State.modStart_within _ _ _ (msub rfl hm) hx5)⟩

theorem State.st07_within {msk : Nat} {s00 : State} (s : State) (l : Lane) (inp : StartInputs) (hm : 131074 &&& msk = 131074) (h0 : Within msk s00 s) :
    Within1 msk s00 (State.st07 s l inp) := by
  refine within1_trans h0 ?_
  unfold State.st07
  lift_lets -useContext -merge -underBinder
  intro x0 x1
  try clear_value x1
  intro x2
  have hx2 : Within msk s x2 := (within_put _ _ _ _ _ (fsub rfl hm) (Within.refl _))
  clear_value x2
  intro x3
  try clear_value x3
  intro x4
  try clear_value x4
  intro x5
  have hx5 : Within msk s x5 := (within_wr _ _ _ _ _ (fsub rfl hm) (within_wr _ _ _ _ _ (fsub rfl hm) (within_wr _ _ _ _ _ (fsub rfl hm) hx2)))
  clear_value x5
  refine within1_ite (fun _ => ?_) (fun _ => ?_)
  · exact ⟨Within.snd hx2⟩
  · refine within1_ite (fun _ => ?_) (fun _ => ?_)
    · exact ⟨Within.snd hx2⟩
    · exact ⟨Within.snd (State.modStart_within _ _ _ (msub rfl hm) (within_wr _ _ _ _ _ (fsub rfl hm) (within_wr _ _ _ _ _ (fsub rfl hm) hx5)))⟩

theorem State.st08_within {msk : Nat} {s00 : State} (s : State) (l : Lane) (inp : StartInputs) (hm : 12884901887 &&& msk = 12884901887) (h0 : Within msk s00 s) :
    Within1 msk s00 (State.st08 s l inp) := by
  refine within1_trans h0 ?_
  unfold State.st08
  lift_lets -useContext -merge -underBinder
  intro x0 x1
  try clear_value x1
  intro x2
  have hx2 : Within msk s x2 := (within_put _ _ _ _ _ (fsub rfl hm) (Within.refl _))
  clear_value x2
  intro x3
  try clear_value x3
  intro x4
  try clear_value x4
  intro x5
  try clear_value x5
  intro x6
  have hx6 : Within msk s x6 := (State.writeImage_within _ _ _ _ (msub rfl hm) (State.modStart_within _ _ _ (msub rfl hm) hx2))
  clear_value x6
  intro x7
  have hx7 : Within msk s x7 := (within_put _ _ _ _ _ (fsub rfl hm) (within_wr _ _ _ _ _ (fsub rfl hm) (within_wr _ _ _ _ _ (fsub rfl hm) hx6)))
  clear_value x7
  intro x8
  have hx8 : Within msk s x8 := (within_wr _ _ _ _ _ (fsub rfl hm) (within_wr _ _ _ _ _ (fsub rfl hm) hx7))
  clear_value x8
  refine within1_ite (fun _ => ?_) (fun _ => ?_)
  · exact ⟨Within.snd hx2⟩
  · refine within1_ite (fun _ => ?_) (fun _ => ?_)
    · exact ⟨Within.snd hx2⟩
    · exact ⟨Within.snd (within_when _ _ hx8 (fun _ => (within_set _ _ _ _ (fsub rfl hm) (Within.refl _))))⟩

theorem State.st09_within {msk : Nat} {s00 : State} (s : State) (l : Lane) (inp : StartInputs) (hm : 2 &&& msk = 2) (h0 : Within msk s00 s) :
    Within1 msk s00 (State.st09 s l inp) := by
  refine within1_trans h0 ?_
  unfold State.st09
  split
  · exact ⟨Within.snd (Within.refl _)⟩
  · refine within1_ite (fun _ => ?_) (fun _ => ?_)
    · exact ⟨Within.snd (within_each _ _ (State.modStart_within _ _ _ (msub rfl hm) (Within.refl _)) (fun _ _ => (within_wr _ _ _ _ _ (fsub rfl hm) (within_wr _ _ _ _ _ (fsub rfl hm) (Within.refl _)))))⟩
    · exact ⟨Within.snd (Within.refl _)⟩

theorem State.st10_within {msk : Nat} {s00 : State} (s : State) (l : Lane) (inp : StartInputs) (hm : 655386 &&& msk = 655386) (h0 : Within msk s00 s) :
    Within1 msk s00 (State.st10 s l inp) := by
  refine within1_trans h0 ?_
  unfold State.st10
  lift_lets -useContext -merge -underBinder
  intro x0 x1
  try clear_value x1
  intro x2
  have hx2 : Within msk s x2 := (within_wr _ _ _ _ _ (fsub rfl hm) (within_wr _ _ _ _ _ (fsub rfl hm) (within_set _ _ _ _ (fsub rfl hm) (within_set _ _ _ _ (fsub rfl hm) (Within.refl _)))))
  clear_value x2
  intro x3
  have hx3 : Within msk s x3 := (within_each _ _ (within_wr _ _ _ _ _ (fsub rfl hm) hx2) (fun _ _ => (State.loadFactory_within _ _ _ (msub rfl hm) (Within.refl _))))
  clear_value x3
  intro x6
  split
  · exact ⟨Within.snd (State.asyLoad_within _ _ (msub rfl hm) (within_set _ _ _ _ (fsub rfl hm) hx3))⟩
  · exact ⟨Within.snd (State.asyLoad_within _ _ (msub rfl hm) (within_set _ _ _ _ (fsub rfl hm) hx3))⟩
  · lift_lets -useContext -merge -underBinder
    intro x7
    try clear_value x7
    intro x8
    try clear_value x8
    intro x9
    have hx9 : Within msk s x9 := (within_wrSat _ _ _ _ _ (fsub rfl hm) (within_wr _ _ _ _ _ (fsub rfl hm) (within_wr _ _ _ _ _ (fsub rfl hm) hx3)))
    clear_value x9
    refine within1_ite (fun _ => ?_) (fun _ => ?_)
    · exact ⟨Within.snd (State.asyLoad_within _ _ (msub rfl hm) (within_each _ _ hx9 (fun _ _ => (State.loadRecord_within _ _ _ (msub rfl hm) (Within.refl _)))))⟩
    · exact ⟨Within.snd hx3⟩

theorem State.st11_within {msk : Nat} {s00 : State} (s : State) (l : Lane) (inp : StartInputs) (hm : 8 &&& msk = 8) (h0 : Within msk s00 s) :
    Within1 msk s00 (State.st11 s l inp) := by
  refine within1_trans h0 ?_
  unfold State.st11
  lift_lets -useContext -merge -underBinder
  intro x0 x1
  try clear_value x1
  intro x2
  try clear_value x2
  intro x3
  have hx3 : Within msk s x3 := (within_set _ _ _ _ (fsub rfl hm) (within_wr _ _ _ _ _ (fsub rfl hm) (within_wr _ _ _ _ _ (fsub rfl hm) (Within.refl _))))
  clear_value x3
  exact ⟨Within.snd hx3⟩

theorem State.st16_within {msk : Nat} {s00 : State} (s : State) (l : Lane) (inp : StartInputs) (hm : 0 &&& msk = 0) (h0 : Within msk s00 s) :
    Within1 msk s00 (State.st16 s l inp) := by
  refine within1_trans h0 ?_
  unfold State.st16
  lift_lets -useContext -merge -underBinder
  intro x0 x1
  try clear_value x1
  intro x2
  try clear_value x2
  intro x3
  try clear_value x3
  exact ⟨Within.snd (Within.refl _)⟩

theorem State.st12_within {msk : Nat} {s00 : State} (s : State) (l : Lane) (hm : 34359738624 &&& msk = 34359738624) (h0 : Within msk s00 s) :
    Within1 msk s00 (State.st12 s l) := by
  refine within1_trans h0 ?_
  unfold State.st12
  lift_lets -useContext -merge -underBinder
  intro x0 x1
  have hx1 : Within msk s x1 := (State.trainEnd_within _ (msub rfl hm) (State.trainBegin_within _ _ (msub rfl hm) (Within.refl _)))
  clear_value x1
  refine within1_ite (fun _ => ?_) (fun _ => ?_)
  · exact ⟨Within.snd (Within.refl _)⟩
  · refine within1_ite (fun _ => ?_) (fun _ => ?_)
    · exact ⟨Within.snd (Within.refl _)⟩
    · refine within1_ite (fun _ => ?_) (fun _ => ?_)
      · exact ⟨Within.snd (Within.refl _)⟩
      · refine within1_ite (fun _ => ?_) (fun _ => ?_)
        · exact ⟨Within.snd (Within.refl _)⟩
        · refine within1_ite (fun _ => ?_) (fun _ => ?_)
          · exact ⟨Within.snd (Within.refl _)⟩
          · exact ⟨Within.snd hx1⟩

theorem State.st13_within {msk : Nat} {s00 : State} (s : State) (l : Lane) (inp : StartInputs) (hm : 4194304 &&& msk = 4194304) (h0 : Within msk s00 s) :
    Within1 msk s00 (State.st13 s l inp) := by
  refine within1_trans h0 ?_
  unfold State.st13
  lift_lets -useContext -merge -underBinder
  intro x0 x1
  try clear_value x1
  intro x2
  try clear_value x2
  intro x3
  try clear_value x3
  intro x4
  have hx4 : Within msk s x4 := (within_each _ _ (within_put _ _ _ _ _ (fsub rfl hm) (Within.refl _)) (fun y5 y6 => (by
    lift_lets -useContext -merge -underBinder
    intro x7
    try clear_value x7
    exact (within_wrSat _ _ _ _ _ (fsub rfl hm) (within_wrSat _ _ _ _ _ (fsub rfl hm) (within_wrSat _ _ _ _ _ (fsub rfl hm) (Within.refl _))))
)))
  clear_value x4
  refine within1_ite (fun _ => ?_) (fun _ => ?_)
  · exact ⟨Within.snd (within_set _ _ _ _ (fsub rfl hm) hx4)⟩
  · exact ⟨Within.snd (within_clr _ _ _ _ (fsub rfl hm) hx4)⟩

theorem State.writeHeld_within {msk : Nat} {s00 : State} (s : State) (l : Lane) (hm : 4294967295 &&& msk = 4294967295) (h0 : Within msk s00 s) :
    Within msk s00 (State.writeHeld s l) := by
  refine within_trans h0 ?_
  unfold State.writeHeld
  lift_lets -useContext -merge -underBinder
  intro x0 x1
  have hx1 : Within msk s x1 := (within_each _ _ (Within.refl _) (fun _ _ => (within_ite (fun _ => (Within.refl _)) (fun _ => (State.applyTriple_within _ _ _ _ (msub rfl hm) (Within.refl _))))))
  clear_value x1
  exact (within_wr _ _ _ _ _ (fsub rfl hm) (within_wr _ _ _ _ _ (fsub rfl hm) (within_wr _ _ _ _ _ (fsub rfl hm) (within_wr _ _ _ _ _ (fsub rfl hm) hx1))))

theorem State.handshake_within {msk : Nat} {s00 : State} (s : State) (l : Lane) (hm : 274880004098 &&& msk = 274880004098) (h0 : Within msk s00 s) :
    Within msk s00 (State.handshake s l) := by
  refine within_trans h0 ?_
  unfold State.handshake
  lift_lets -useContext -merge -underBinder
  intro x0
  try clear_value x0
  intro x1
  have hx1 : Within msk s x1 := (within_put _ _ _ _ _ (fsub rfl hm) (within_set _ _ _ _ (by unfold handFld; split <;> exact fsub rfl hm) (Within.refl _)))
  clear_value x1
  intro x2
  have hx2 : Within msk s x2 := (within_modDepLane _ _ (msub rfl hm) hx1)
  clear_value x2
  intro x3
  have hx3 : Within msk s x3 := (within_put _ _ _ _ _ (fsub rfl hm) (State.modSup_within _ _ _ (msub rfl hm) hx2))
  clear_value x3
  intro x4
  try clear_value x4
  intro x5
  have hx5 : Within msk s x5 := (within_modDep _ (msub rfl hm) hx3)
  clear_value x5
  exact (State.syncMaster_within _ (msub rfl hm) (State.syncChs_within _ (msub rfl hm) (State.syncSto_within _ (msub rfl hm) (State.syncImposed_within _ (msub rfl hm) hx5))))

theorem State.st14_within {msk : Nat} {s00 : State} (s : State) (l : Lane) (hm : 279172874239 &&& msk = 279172874239) (h0 : Within msk s00 s) :
    Within1 msk s00 (State.st14 s l) := by
  refine within1_trans h0 ?_
  unfold State.st14
  lift_lets -useContext -merge -underBinder
  intro x0
  have hx0 : Within msk s x0 := (State.writeHeld_within _ _ (msub rfl hm) (Within.refl _))
  clear_value x0
  intro x1
  have hx1 : Within msk s x1 := (within_ite (fun _ => (Within.refl _)) (fun _ => hx0))
  clear_value x1
  intro x2
  try clear_value x2
  intro x3
  try clear_value x3
  intro x4
  try clear_value x4
  refine within1_ite (fun _ => ?_) (fun _ => ?_)
  · exact ⟨Within.snd (Within.refl _)⟩
  · refine within1_ite (fun _ => ?_) (fun _ => ?_)
    · exact ⟨Within.snd (State.handshake_within _ _ (msub rfl hm) hx1)⟩
    · exact ⟨Within.snd hx1⟩

theorem State.st15_within {msk : Nat} {s00 : State} (s : State) (l : Lane) (hm : 0 &&& msk = 0) (h0 : Within msk s00 s) :
    Within1 msk s00 (State.st15 s l) := by
  refine within1_trans h0 ?_
  unfold State.st15
  refine within1_ite (fun _ => ?_) (fun _ => ?_)
  · exact ⟨Within.snd (Within.refl _)⟩
  · refine within1_ite (fun _ => ?_) (fun _ => ?_)
    · exact ⟨Within.snd (Within.refl _)⟩
    · refine within1_ite (fun _ => ?_) (fun _ => ?_)
      · exact ⟨Within.snd (Within.refl _)⟩
      · exact ⟨Within.snd (Within.refl _)⟩

theorem State.copyElapsed_within {msk : Nat} {s00 : State} (s : State) (l : Lane) (hm : 8388608 &&& msk = 8388608) (h0 : Within msk s00 s) :
    Within msk s00 (State.copyElapsed s l) := by
  refine within_trans h0 ?_
  unfold State.copyElapsed
  lift_lets -useContext -merge -underBinder
  intro x0 x1
  try clear_value x1
  intro x2
  try clear_value x2
  intro x3
  have hx3 : Within msk s x3 := (within_wr _ _ _ _ _ (fsub rfl hm) (within_wr _ _ _ _ _ (fsub rfl hm) (within_wr _ _ _ _ _ (fsub rfl hm) (within_wr _ _ _ _ _ (fsub rfl hm) (within_wr _ _ _ _ _ (fsub rfl hm) (within_wr _ _ _ _ _ (fsub rfl hm) (Within.refl _)))))))
  clear_value x3
  intro x4
  have hx4 : Within msk s x4 := (within_wr _ _ _ _ _ (fsub rfl hm) hx3)
  clear_value x4
  intro x5
  try clear_value x5
  intro x6
  try clear_value x6
  intro x7
  try clear_value x7
  exact (State.modClk_within _ _ _ (msub rfl hm) hx4)

theorem State.noTime_within {msk : Nat} {s00 : State} (s : State) (l : Lane) (hm : 2 &&& msk = 2) (h0 : Within msk s00 s) :
    Within1 msk s00 (State.noTime s l) := by
  refine within1_trans h0 ?_
  unfold State.noTime
  exact ⟨Within.snd (within_set _ _ _ _ (fsub rfl hm) (Within.refl _))⟩

theorem State.st18_within {msk : Nat} {s00 : State} (s : State) (l : Lane) (hm : 8388610 &&& msk = 8388610) (h0 : Within msk s00 s) :
    Within1 msk s00 (State.st18 s l) := by
  refine within1_trans h0 ?_
  unfold State.st18
  lift_lets -useContext -merge -underBinder
  intro x0
  have hx0 : Within msk s x0 := (State.timeBest_within _ _ (msub rfl hm) (within_ite (fun _ => (State.copyElapsed_within _ _ (msub rfl hm) (Within.refl _))) (fun _ => (Within.refl _))))
  clear_value x0
  refine within1_ite (fun _ => ?_) (fun _ => ?_)
  · exact ⟨Within.snd hx0⟩
  · refine within1_ite (fun _ => ?_) (fun _ => ?_)
    · exact (State.noTime_within _ _ (msub rfl hm) hx0)
    · exact ⟨Within.snd hx0⟩

theorem State.sealDeputy_within {msk : Nat} {s00 : State} (s : State) (l : Lane) (hm : 274880004098 &&& msk = 274880004098) (h0 : Within msk s00 s) :
    Within msk s00 (State.sealDeputy s l) := by
  refine within_trans h0 ?_
  unfold State.sealDeputy
  lift_lets -useContext -merge -underBinder
  intro x0
  try clear_value x0
  intro x1
  have hx1 : Within msk s x1 := (within_modDep _ (msub rfl hm) (within_wr _ _ _ _ _ (fsub rfl hm) (within_set _ _ _ _ (fsub rfl hm) (Within.refl _))))
  clear_value x1
  refine within_ite (fun _ => ?_) (fun _ => ?_)
  · exact (within_each _ _ hx1 (fun _ _ => (within_when _ _ (Within.refl _) (fun _ => (within_set _ _ _ _ (fsub rfl hm) (Within.refl _))))))
  · exact (Within.refl _)

theorem State.takeUp_within {msk : Nat} {s00 : State} (s : State) (l : Lane) (m : Nat) (hm : 4599909974015 &&& msk = 4599909974015) (h0 : Within msk s00 s) :
    Within msk s00 (State.takeUp s l m) := by
  refine within_trans h0 ?_
  unfold State.takeUp
  exact (within_wr _ _ _ _ _ (fsub rfl hm) (State.applyImage_within _ _ _ (msub rfl hm) (Within.refl _)))

theorem State.startDone_within {msk : Nat} {s00 : State} (s : State) (l : Lane) (hm : 4943507357695 &&& msk = 4943507357695) (h0 : Within msk s00 s) :
    Within msk s00 (State.startDone s l) := by
  refine within_trans h0 ?_
  unfold State.startDone
  lift_lets -useContext -merge -underBinder
  intro x0 x1
  try clear_value x1
  intro x2
  have hx2 : Within msk s x2 := (State.sealDeputy_within _ _ (msub rfl hm) (within_set _ _ _ _ (fsub rfl hm) (within_set _ _ _ _ (fsub rfl hm) (Within.refl _))))
  clear_value x2
  intro x3
  have hx3 : Within msk s x3 := (within_when _ _ hx2 (fun _ => (within_modDep _ (msub rfl hm) (within_wr _ _ _ _ _ (fsub rfl hm) (Within.refl _)))))
  clear_value x3
  intro x5
  have hx5 : Within msk s x5 := (within_wr _ _ _ _ _ (fsub rfl hm) (State.takeUp_within _ _ _ (msub rfl hm) hx3))
  clear_value x5
  intro x6
  have hx6 : Within msk s x6 := (within_when _ _ hx5 (fun _ => (State.takeUp_within _ _ _ (msub rfl hm) (Within.refl _))))
  clear_value x6
  intro x8
  have hx8 : Within msk s x8 := (State.modPap_within _ _ _ (msub rfl hm) (within_when _ _ hx6 (fun _ => (within_set _ _ _ _ (fsub rfl hm) (Within.refl _)))))
  clear_value x8
  intro x10
  have hx10 : Within msk s x10 := (State.redriveAll_within _ _ (msub rfl hm) hx8)
  clear_value x10
  intro x11
  have hx11 : Within msk s x11 := (within_when _ _ hx10 (fun _ => (within_when _ _ (within_modDepLane _ _ (msub rfl hm) (within_set _ _ _ _ (fsub rfl hm) (Within.refl _))) (fun _ => (State.checkIslands_within _ (msub rfl hm) (Within.refl _))))))
  clear_value x11
  exact (within_when _ _ (State.actSync_within _ _ (msub rfl hm) (State.nrgMode_within _ _ (msub rfl hm) (State.setRole_within _ _ _ (msub rfl hm) hx11))) (fun _ => (State.syncMaster_within _ (msub rfl hm) (State.grantLogic_within _ (msub rfl hm) (State.syncImposed_within _ (msub rfl hm) (State.syncChs_within _ (msub rfl hm) (State.syncSto_within _ (msub rfl hm) (Within.refl _))))))))

theorem State.st01_within {msk : Nat} {s00 : State} (s : State) (l : Lane) (hm : 17179869183 &&& msk = 17179869183) (h0 : Within msk s00 s) :
    Within msk s00 (State.st01 s l) := by
  refine within_trans h0 ?_
  unfold State.st01
  exact (within_wr _ _ _ _ _ (fsub rfl hm) (State.resetRegs_within _ _ _ (msub rfl hm) (within_modRunMem _ _ (msub rfl hm) (Within.refl _))))

theorem State.stepBody_within {msk : Nat} {s00 : State} (s : State) (l : Lane) (inp : StartInputs) (n : Nat) (hm : 481036337151 &&& msk = 481036337151) (h0 : Within msk s00 s) :
    Within1 msk s00 (State.stepBody s l inp n) := by
  refine within1_trans h0 ?_
  unfold State.stepBody
  split
  · exact ⟨Within.snd (State.vrcStart_within _ _ (msub rfl hm) (Within.refl _))⟩
  · exact ⟨Within.snd (State.st01_within _ _ (msub rfl hm) (Within.refl _))⟩
  · exact (State.st02_within _ _ _ (msub rfl hm) (Within.refl _))
  · exact (State.st03_within _ _ (msub rfl hm) (Within.refl _))
  · exact (State.st04_within _ _ _ (msub rfl hm) (Within.refl _))
  · exact (State.st06_within _ _ _ (msub rfl hm) (Within.refl _))
  · exact (State.st07_within _ _ _ (msub rfl hm) (Within.refl _))
  · exact (State.st08_within _ _ _ (msub rfl hm) (Within.refl _))
  · exact (State.st09_within _ _ _ (msub rfl hm) (Within.refl _))
  · exact (State.st10_within _ _ _ (msub rfl hm) (Within.refl _))
  · exact (State.st11_within _ _ _ (msub rfl hm) (Within.refl _))
  · exact (State.st12_within _ _ (msub rfl hm) (Within.refl _))
  · exact (State.st13_within _ _ _ (msub rfl hm) (Within.refl _))
  · exact (State.st14_within _ _ (msub rfl hm) (Within.refl _))
  · exact (State.st15_within _ _ (msub rfl hm) (Within.refl _))
  · exact (State.st16_within _ _ _ (msub rfl hm) (Within.refl _))
  · exact (State.st18_within _ _ (msub rfl hm) (Within.refl _))
  · exact ⟨Within.snd (Within.refl _)⟩

theorem State.stepRun_within {msk : Nat} {s00 : State} (s : State) (l : Lane) (inp : StartInputs) (n : Nat) (hm : 481036337151 &&& msk = 481036337151) (h0 : Within msk s00 s) :
    Within1 msk s00 (State.stepRun s l inp n) := by
  refine within1_trans h0 ?_
  unfold State.stepRun
  split
  · exact ⟨Within.snd (Within.refl _)⟩
  · exact ⟨Within.snd (Within.refl _)⟩
  · exact (State.stepBody_within _ _ _ _ (msub rfl hm) (Within.refl _))

theorem State.stepAfter_within {msk : Nat} {s00 : State} (s : State) (l : Lane) (n : Nat) (hm : 4943507357695 &&& msk = 4943507357695) (h0 : Within msk s00 s) :
    Within msk s00 (State.stepAfter s l n) := by
  refine within_trans h0 ?_
  unfold State.stepAfter
  lift_lets -useContext -merge -underBinder
  intro x0
  split
  · exact (State.modClk_within _ _ _ (msub rfl hm) (Within.refl _))
  · exact (within_each _ _ (Within.refl _) (fun _ _ => (within_when _ _ (Within.refl _) (fun _ => (State.timEnable_within _ _ _ (msub rfl hm) (Within.refl _))))))
  · exact (State.asySync_within _ _ (msub rfl hm) (Within.refl _))
  · lift_lets -useContext -merge -underBinder
    intro x4
    have hx4 : Within msk s x4 := (State.ceStart_within _ _ (msub rfl hm) (State.posStart_within _ _ (msub rfl hm) (Within.refl _)))
    clear_value x4
    intro x5
    have hx5 : Within msk s x5 := (within_each _ _ hx4 (fun _ _ => (within_when _ _ (Within.refl _) (fun _ => (State.startTb_within _ _ _ (msub rfl hm) (Within.refl _))))))
    clear_value x5
    exact (State.tripsStart_within _ _ (msub rfl hm) (within_each _ _ hx5 (fun _ _ => (within_when _ _ (Within.refl _) (fun _ => (State.enableCh_within _ _ _ _ (msub rfl hm) (Within.refl _)))))))
  · exact (State.actSync_within _ _ (msub rfl hm) (within_when _ _ (Within.refl _) (fun _ => (State.goPath_within _ _ _ _ (msub rfl hm) (Within.refl _)))))
  · exact (State.startDone_within _ _ (msub rfl hm) (Within.refl _))
  · exact (Within.refl _)

theorem State.stepEnter_within {msk : Nat} {s00 : State} (s : State) (l : Lane) (n : Nat) (hm : 17179869186 &&& msk = 17179869186) (h0 : Within msk s00 s) :
    Within msk s00 (State.stepEnter s l n) := by
  refine within_trans h0 ?_
  unfold State.stepEnter
  lift_lets -useContext -merge -underBinder
  intro x0
  have hx0 : Within msk s x0 := (within_wr _ _ _ _ _ (fsub rfl hm) (State.modStart_within _ _ _ (msub rfl hm) (State.setPhase_within _ _ _ (msub rfl hm) (Within.refl _))))
  clear_value x0
  refine within_ite (fun _ => ?_) (fun _ => ?_)
  · exact hx0
  · refine within_ite (fun _ => ?_) (fun _ => ?_)
    · exact (State.openRecord_within _ _ (msub rfl hm) hx0)
    · exact (State.modLamp_within _ _ _ (msub rfl hm) hx0)

theorem State.startFails_within {msk : Nat} {s00 : State} (s : State) (l : Lane) (hm : 532575944703 &&& msk = 532575944703) (h0 : Within msk s00 s) :
    Within msk s00 (State.startFails s l) := by
  refine within_trans h0 ?_
  unfold State.startFails
  exact (State.resetIsland_within _ _ _ (msub rfl hm) (Within.refl _))

theorem State.stepEnd_within {msk : Nat} {s00 : State} (s : State) (l : Lane) (n code : Nat) (hm : 4947802324991 &&& msk = 4947802324991) (h0 : Within msk s00 s) :
    Within1 msk s00 (State.stepEnd s l n code) := by
  refine within1_trans h0 ?_
  unfold State.stepEnd
  lift_lets -useContext -merge -underBinder
  intro x0
  try clear_value x0
  intro x1
  have hx1 : Within msk s x1 := (within_ite (fun _ => (Within.refl _)) (fun _ => (within_ite (fun _ => (within_ite (fun _ => (State.lampOutcome_within _ _ _ _ (msub rfl hm) (State.modLamp_within _ _ _ (msub rfl hm) (State.openRecord_within _ _ (msub rfl hm) (Within.refl _))))) (fun _ => (Within.refl _)))) (fun _ => (State.lampOutcome_within _ _ _ _ (msub rfl hm) (Within.refl _))))))
  clear_value x1
  refine within1_ite (fun _ => ?_) (fun _ => ?_)
  · exact ⟨Within.snd (within_ite (fun _ => (State.setPhase_within _ _ _ (msub rfl hm) hx1)) (fun _ => (State.startFails_within _ _ (msub rfl hm) hx1)))⟩
  · exact ⟨Within.snd (State.stepAfter_within _ _ _ (msub rfl hm) (State.setPhase_within _ _ _ (msub rfl hm) hx1))⟩

theorem runSteps_within {msk : Nat} {s00 : State} (l : Lane) (inp : StartInputs) (k n : Nat) (s : State)
    (hm : 17592186044415 &&& msk = 17592186044415) (h0 : Within msk s00 s) : Within msk s00 (runSteps l inp k n s) := by
  induction k generalizing n s with
  | zero => exact h0
  | succ k ih =>
    unfold runSteps
    have h1 := State.stepRun_within s l inp n (msub rfl hm) h0
    have h2 := State.stepEnd_within (s.stepRun l inp n).2 l n (s.stepRun l inp n).1 (msub rfl hm) h1.h
    refine within_ite (fun _ => h1.h) fun _ => within_ite (fun _ => ?_) fun _ => h2.h
    exact ih _ _ (State.stepEnter_within _ _ _ (msub rfl hm) h2.h)

theorem State.stepForced_within {msk : Nat} {s00 : State} (s : State) (l : Lane) (inp : StartInputs) (n code : Nat) (hm : 17592186044415 &&& msk = 17592186044415) (h0 : Within msk s00 s) :
    Within msk s00 (State.stepForced s l inp n code) := by
  refine within_trans h0 ?_
  unfold State.stepForced
  lift_lets -useContext -merge -underBinder
  intro x0
  have hx0 : Within1 msk s x0 := (State.stepEnd_within _ _ _ _ (msub rfl hm) (Within.refl _))
  clear_value x0
  refine within_ite (fun _ => ?_) (fun _ => ?_)
  · exact (runSteps_within _ _ _ _ _ (msub rfl hm) (State.stepEnter_within _ _ _ (msub rfl hm) hx0.h))
  · exact hx0.h

theorem execLaneStart_within {msk : Nat} (l : Lane) (inp : StartInputs) (s : State) (hm : 17592186044415 &&& msk = 17592186044415) :
    WithinOut msk s (execLaneStart l inp s) := by
  unfold execLaneStart
  exact withinOut_next (by
    split
    · refine within_ite (fun _ => ?_) (fun _ => ?_)
      · exact (runSteps_within _ _ _ _ _ (msub rfl hm) (State.stepEnter_within _ _ _ (msub rfl hm) (within_set _ _ _ _ (fsub rfl hm) (Within.refl _))))
      · exact (Within.refl _)
    · refine within_ite (fun _ => ?_) (fun _ => ?_)
      · exact (runSteps_within _ _ _ _ _ (msub rfl hm) (State.stepEnter_within _ _ _ (msub rfl hm) (Within.refl _)))
      · exact (Within.refl _)
    · exact (runSteps_within _ _ _ _ _ (msub rfl hm) (Within.refl _))
    · exact (Within.refl _)
)

theorem execStartStepTimeout_within {msk : Nat} (l : Lane) (inp : StartInputs) (s : State) (hm : 17592186044415 &&& msk = 17592186044415) :
    WithinOut msk s (execStartStepTimeout l inp s) := by
  unfold execStartStepTimeout
  exact withinOut_next (by
    split
    · refine within_ite (fun _ => ?_) (fun _ => ?_)
      · exact (Within.refl _)
      · exact (State.stepForced_within _ _ _ _ _ (msub rfl hm) (within_advTo _ (msub rfl hm) (Within.refl _)))
    · exact (Within.refl _)
)

theorem execPartnerWaitExpiry_within {msk : Nat} (l : Lane) (inp : StartInputs) (s : State) (hm : 17592186044415 &&& msk = 17592186044415) :
    WithinOut msk s (execPartnerWaitExpiry l inp s) := by
  unfold execPartnerWaitExpiry
  exact withinOut_next (by
    split
    · lift_lets -useContext -merge -underBinder
      intro x0
      try clear_value x0
      refine within_ite (fun _ => ?_) (fun _ => ?_)
      · exact (Within.refl _)
      · exact (State.stepForced_within _ _ _ _ _ (msub rfl hm) (within_set _ _ _ _ (fsub rfl hm) (within_advTo _ (msub rfl hm) (Within.refl _))))
    · exact (Within.refl _)
)

theorem execTimeWaitExpiry_within {msk : Nat} (l : Lane) (inp : StartInputs) (s : State) (hm : 17592186044415 &&& msk = 17592186044415) :
    WithinOut msk s (execTimeWaitExpiry l inp s) := by
  unfold execTimeWaitExpiry
  exact withinOut_next (by
    split
    · lift_lets -useContext -merge -underBinder
      intro x0
      have hx0 : Within1 msk s x0 := (State.noTime_within _ _ (msub rfl hm) (within_advTo _ (msub rfl hm) (Within.refl _)))
      clear_value x0
      exact (State.stepForced_within _ _ _ _ _ (msub rfl hm) hx0.h)
    · exact (Within.refl _)
)

theorem execBootNext_within {msk : Nat} (l : Lane) (slot : Fin 4) (s : State) (hm : 17179869186 &&& msk = 17179869186) :
    WithinOut msk s (execBootNext l slot s) := by
  unfold execBootNext
  exact withinOut_next (within_ite (fun _ => (State.bootNext_within _ _ _ (msub rfl hm) (Within.refl _))) (fun _ => (Within.refl _)))

theorem execKeyRevoke_within {msk : Nat} (l : Lane) (slot : Fin 4) (key : Nat) (s : State) (hm : 17179869186 &&& msk = 17179869186) :
    WithinOut msk s (execKeyRevoke l slot key s) := by
  unfold execKeyRevoke
  lift_lets -useContext -merge -underBinder
  intro x0 x1
  try clear_value x1
  exact withinOut_next (within_ite (fun _ => (Within.refl _)) (fun _ => (within_ite (fun _ => (within_set _ _ _ _ (fsub rfl hm) (within_modNv _ _ (msub rfl hm) (Within.refl _)))) (fun _ => (within_set _ _ _ _ (fsub rfl hm) (Within.refl _))))))

theorem State.modLoader_within {msk : Nat} {s00 : State} (s : State) (l : Lane) (f : LoaderSt → LoaderSt) (hm : 0 &&& msk = 0) (h0 : Within msk s00 s) :
    Within msk s00 (State.modLoader s l f) := by
  refine within_trans h0 ?_
  unfold State.modLoader
  exact (State.modStart_within _ _ _ (msub rfl hm) (Within.refl _))

theorem execLoaderBlockStart_within {msk : Nat} (l : Lane) (block crc : Nat) (s : State) (hm : 0 &&& msk = 0) :
    WithinOut msk s (execLoaderBlockStart l block crc s) := by
  unfold execLoaderBlockStart
  exact withinOut_next (within_ite (fun _ => (State.modLoader_within _ _ _ (msub rfl hm) (Within.refl _))) (fun _ => (Within.refl _)))

theorem State.loaderAnswer_within {msk : Nat} {s00 : State} (s : State) (l : Lane) (block status : Nat) (f : LoaderSt → LoaderSt) (hm : 0 &&& msk = 0) (h0 : Within msk s00 s) :
    Within msk s00 (State.loaderAnswer s l block status f) := by
  refine within_trans h0 ?_
  unfold State.loaderAnswer
  exact (State.modLoader_within _ _ _ (msub rfl hm) (Within.refl _))

theorem State.loaderStore_within {msk : Nat} {s00 : State} (s : State) (l : Lane) (block : Nat) (bs : List Nat) (len : Nat) (m : LoaderMedia) (hm : 549755813887 &&& msk = 549755813887) (h0 : Within msk s00 s) :
    Within msk s00 (State.loaderStore s l block bs len m) := by
  refine within_trans h0 ?_
  unfold State.loaderStore
  lift_lets -useContext -merge -underBinder
  intro x0
  have hx0 : Within msk s x0 := (within_when _ _ (Within.refl _) (fun _ => (State.norErase_within _ _ _ _ (msub rfl hm) (Within.refl _))))
  clear_value x0
  intro x2
  have hx2 : Within msk s x2 := (State.norProgram_within _ _ _ _ (msub rfl hm) hx0)
  clear_value x2
  refine within_ite (fun _ => ?_) (fun _ => ?_)
  · exact (State.loaderAnswer_within _ _ _ _ _ (msub rfl hm) hx0)
  · refine within_ite (fun _ => ?_) (fun _ => ?_)
    · exact (State.loaderAnswer_within _ _ _ _ _ (msub rfl hm) hx2)
    · refine within_ite (fun _ => ?_) (fun _ => ?_)
      · exact (State.loaderAnswer_within _ _ _ _ _ (msub rfl hm) (State.resetIsland_within _ _ _ (msub rfl hm) hx2))
      · exact (State.loaderAnswer_within _ _ _ _ _ (msub rfl hm) hx2)

theorem State.loaderJudge_within {msk : Nat} {s00 : State} (s : State) (l : Lane) (block crc : Nat) (m : LoaderMedia) (hm : 549755813887 &&& msk = 549755813887) (h0 : Within msk s00 s) :
    Within msk s00 (State.loaderJudge s l block crc m) := by
  refine within_trans h0 ?_
  unfold State.loaderJudge
  lift_lets -useContext -merge -underBinder
  intro x0
  try clear_value x0
  intro x1
  try clear_value x1
  intro x2
  try clear_value x2
  refine within_ite (fun _ => ?_) (fun _ => ?_)
  · exact (State.loaderAnswer_within _ _ _ _ _ (msub rfl hm) (Within.refl _))
  · refine within_ite (fun _ => ?_) (fun _ => ?_)
    · exact (State.loaderAnswer_within _ _ _ _ _ (msub rfl hm) (Within.refl _))
    · refine within_ite (fun _ => ?_) (fun _ => ?_)
      · exact (State.loaderAnswer_within _ _ _ _ _ (msub rfl hm) (Within.refl _))
      · exact (State.loaderStore_within _ _ _ _ _ _ (msub rfl hm) (Within.refl _))

theorem execLoaderData_within {msk : Nat} (l : Lane) (frame : Nat) (bytes : List Nat) (media : LoaderMedia) (s : State) (hm : 549755813887 &&& msk = 549755813887) :
    WithinOut msk s (execLoaderData l frame bytes media s) := by
  unfold execLoaderData
  exact withinOut_next (by
    split
    · lift_lets -useContext -merge -underBinder
      intro x0
      have hx0 : Within msk s x0 := (State.modLoader_within _ _ _ (msub rfl hm) (Within.refl _))
      clear_value x0
      refine within_ite (fun _ => ?_) (fun _ => ?_)
      · refine within_ite (fun _ => ?_) (fun _ => ?_)
        · exact (State.loaderJudge_within _ _ _ _ _ (msub rfl hm) hx0)
        · exact hx0
      · exact (Within.refl _)
    · exact (Within.refl _)
)


end Sys2Proof.Machine
end

