-- ==== Sys2Proof/Laws/WithinSupplies.lean ====
section
/-!
SUPPORT. The operations of Machine/Supplies.lean change nothing outside their masks (Laws/Within.lean).
-/
namespace Sys2Proof.Machine

theorem execIslandSupplyRise_within {msk : Nat} (l : Lane) (s : State) (hm : 1236954775552 &&& msk = 1236954775552) :
    WithinOut msk s (execIslandSupplyRise l s) := by
  unfold execIslandSupplyRise
  lift_lets -useContext -merge -underBinder
  intro x0 x1
  have hx1 : Within msk s x1 := (State.modPap_within _ _ _ (msub rfl hm) (State.setSupplies_within _ _ _ (msub rfl hm) (State.setIsland_within _ _ _ (msub rfl hm) (Within.refl _))))
  clear_value x1
  exact withinOut_next (within_ite (fun _ => (Within.refl _)) (fun _ => (within_set _ _ _ _ (fsub rfl hm) (within_wr _ _ _ _ _ (fsub rfl hm) (within_wr _ _ _ _ _ (fsub rfl hm) (within_set _ _ _ _ (fsub rfl hm) hx1))))))

theorem execIslandSupplyFault_within {msk : Nat} (l : Lane) (sup : IslandSupply) (s : State) (hm : 1632087572479 &&& msk = 1632087572479) :
    WithinOut msk s (execIslandSupplyFault l sup s) := by
  unfold execIslandSupplyFault
  exact withinOut_next (State.islandFault_within _ _ _ (msub rfl hm) (Within.refl _))

theorem execIslandSQualify_within {msk : Nat} (wake0 wake1 : Bool) (vbatA vbatB vso : Nat) (s : State) (hm : 6017249181695 &&& msk = 6017249181695) :
    WithinOut msk s (execIslandSQualify wake0 wake1 vbatA vbatB vso s) := by
  unfold execIslandSQualify
  exact withinOut_next (within_ite (fun _ => (Within.refl _)) (fun _ => (State.depQualify_within _ _ _ _ _ _ (msub rfl hm) (Within.refl _))))

theorem execIslandSLost_within {msk : Nat} (s : State) (hm : 1619202670591 &&& msk = 1619202670591) :
    WithinOut msk s (execIslandSLost s) := by
  unfold execIslandSLost
  exact withinOut_next (within_ite (fun _ => (State.depGone_within _ _ (msub rfl hm) (Within.refl _))) (fun _ => (Within.refl _)))

theorem State.keepersReset_within {msk : Nat} {s00 : State} (s : State) (hm : 141733920767 &&& msk = 141733920767) (h0 : Within msk s00 s) :
    Within msk s00 (State.keepersReset s) := by
  refine within_trans h0 ?_
  unfold State.keepersReset
  exact (within_each _ _ (Within.refl _) (fun _ _ => (within_each _ _ (State.modPap_within _ _ _ (msub rfl hm) (Within.refl _)) (fun _ _ => (within_wrAny _ _ _ _ _ (msub rfl hm) (Within.refl _))))))

theorem State.vkeepShow_within {msk : Nat} {s00 : State} (s : State) (on : Bool) (hm : 4194304 &&& msk = 4194304) (h0 : Within msk s00 s) :
    Within msk s00 (State.vkeepShow s on) := by
  refine within_trans h0 ?_
  unfold State.vkeepShow
  exact (within_each _ _ (Within.refl _) (fun y0 y1 => (within_when _ _ (Within.refl _) (fun y2 => (by
    lift_lets -useContext -merge -underBinder
    intro x3
    have hx3 : Within msk y2 x3 := (within_wrBit _ _ _ _ _ (fsub rfl hm) (Within.refl _))
    clear_value x3
    refine within_ite (fun _ => ?_) (fun _ => ?_)
    · exact hx3
    · exact (within_inc _ _ _ _ _ (fsub rfl hm) (within_wrBit _ _ _ _ _ (fsub rfl hm) hx3))
)))))

theorem execVkeepRise_within {msk : Nat} (s : State) (hm : 3440268804095 &&& msk = 3440268804095) :
    WithinOut msk s (execVkeepRise s) := by
  unfold execVkeepRise
  lift_lets -useContext -merge -underBinder
  intro x0
  have hx0 : Within msk s x0 := (State.vkeepShow_within _ _ (msub rfl hm) (State.keepersReset_within _ (msub rfl hm) (Within.refl _)))
  clear_value x0
  intro x1
  try clear_value x1
  exact withinOut_next (within_ite (fun _ => (Within.refl _)) (fun _ => (Within.of_frame hx0 rfl rfl rfl (.inr rfl) (.inr rfl) (.inr ⟨rfl, rfl⟩) (.inr rfl) (.inr rfl) (.inl (bsub rfl hm)) (.inl (bsub rfl hm)) (.inr rfl) (.inr ⟨rfl, rfl⟩))))

theorem execVkeepLoss_within {msk : Nat} (s : State) (hm : 3440268804095 &&& msk = 3440268804095) :
    WithinOut msk s (execVkeepLoss s) := by
  unfold execVkeepLoss
  lift_lets -useContext -merge -underBinder
  intro x0
  have hx0 : Within msk s x0 := (State.vkeepShow_within _ _ (msub rfl hm) (State.keepersReset_within _ (msub rfl hm) (Within.refl _)))
  clear_value x0
  intro x1
  try clear_value x1
  exact withinOut_next (within_ite (fun _ => (Within.of_frame hx0 rfl rfl rfl (.inr rfl) (.inr rfl) (.inr ⟨rfl, rfl⟩) (.inr rfl) (.inr rfl) (.inl (bsub rfl hm)) (.inl (bsub rfl hm)) (.inr rfl) (.inr ⟨rfl, rfl⟩))) (fun _ => (Within.refl _)))

theorem execNresetLow_within {msk : Nat} (l : Lane) (ns : Nat) (s : State) (hm : 4930622455807 &&& msk = 4930622455807) :
    WithinOut msk s (execNresetLow l ns s) := by
  unfold execNresetLow
  lift_lets -useContext -merge -underBinder
  intro x0
  have hx0 : Within msk s x0 := (within_ite (fun _ => (Within.of_frame (Within.refl _) rfl rfl rfl (.inr rfl) (.inr rfl) (.inr ⟨rfl, rfl⟩) (.inr rfl) (.inr rfl) (.inr rfl) (.inr rfl) (.inl (bsub rfl hm)) (.inr ⟨rfl, rfl⟩))) (fun _ => (Within.refl _)))
  clear_value x0
  exact withinOut_next (within_ite (fun _ => (State.resetIsland_within _ _ _ (msub rfl hm) (within_set _ _ _ _ (fsub rfl hm) hx0))) (fun _ => hx0))

theorem execWakeInput_within {msk : Nat} (pin : Fin 2) (s : State) (hm : 4672926515200 &&& msk = 4672926515200) :
    WithinOut msk s (execWakeInput pin s) := by
  unfold execWakeInput
  lift_lets -useContext -merge -underBinder
  intro x0 x1
  exact withinOut_next (within_ite (fun _ => (State.wake_within _ _ _ _ (msub rfl hm) (within_set _ _ _ _ (by unfold x1; split <;> exact fsub rfl hm) (Within.refl _)))) (fun _ => (Within.refl _)))

theorem execDeputyOscCorrection_within {msk : Nat} (freq : Nat) (s : State) (hm : 4672926515200 &&& msk = 4672926515200) :
    WithinOut msk s (execDeputyOscCorrection freq s) := by
  unfold execDeputyOscCorrection
  lift_lets -useContext -merge -underBinder
  intro x0
  have hx0 : Within1 msk s x0 := (State.oscCount_within _ (msub rfl hm) (Within.refl _))
  clear_value x0
  exact withinOut_next (within_ite (fun _ => (within_wr _ _ _ _ _ (fsub rfl hm) (State.oscPiece_within _ _ (msub rfl hm) hx0.h))) (fun _ => (Within.refl _)))

theorem execDeputyOscSourceChange_within {msk : Nat} (s : State) (hm : 4672926515200 &&& msk = 4672926515200) :
    WithinOut msk s (execDeputyOscSourceChange s) := by
  unfold execDeputyOscSourceChange
  lift_lets -useContext -merge -underBinder
  intro x0
  have hx0 : Within1 msk s x0 := (State.oscCount_within _ (msub rfl hm) (Within.refl _))
  clear_value x0
  intro x1
  have hx1 : Within msk s x1 := (within_wr _ _ _ _ _ (fsub rfl hm) (State.oscPiece_within _ _ (msub rfl hm) hx0.h))
  clear_value x1
  intro x2
  have hx2 : Within msk s x2 := (within_modDep _ (msub rfl hm) hx1)
  clear_value x2
  exact withinOut_next (within_ite (fun _ => (within_clr _ _ _ _ (fsub rfl hm) (within_set _ _ _ _ (fsub rfl hm) (within_set _ _ _ _ (fsub rfl hm) (State.oscStart_within _ (msub rfl hm) hx2).h)))) (fun _ => (Within.refl _)))

theorem execDeputyOscRemoval_within {msk : Nat} (s : State) (hm : 1619202670591 &&& msk = 1619202670591) :
    WithinOut msk s (execDeputyOscRemoval s) := by
  unfold execDeputyOscRemoval
  exact withinOut_next (within_ite (fun _ => (State.depGone_within _ _ (msub rfl hm) (Within.refl _))) (fun _ => (Within.refl _)))


end Sys2Proof.Machine
end

