-- ==== Sys2Proof/WellFormed.lean ====
section
/-!
DEFINITION. Well-formed commands: operands that fit the words, bytes and nibbles which the bus, the links and the sensors
carry. A meaning is total on every command; a sender outside the model sends well-formed ones.
-/
namespace Sys2Proof

/-- A 32-bit word. -/
def word32 (n : Nat) : Bool := decide (n < 2 ^ 32)

/-- A 64-bit count. -/
def word64 (n : Nat) : Bool := decide (n < 2 ^ 64)

/-- Bytes. -/
def bytesOk (bs : List Nat) : Bool := bs.all fun b => decide (b < 256)

/-- An access width of a bus: 8, 16, 32 or 64 bits (R9, R42). -/
def widthOk (w : Nat) : Bool := [8, 16, 32, 64].contains w

/-- An outcome code of a failed start step (R78). -/
def failCodeOk (c : Nat) : Bool := [0x0F, 0x3C, 0x5A, 0x69].contains c

/-- The answer of a start step is one that R78 codes. -/
def stepInOk : StepIn → Bool
  | .pass => true
  | .fail c => failCodeOk c
  | .wait => true

/-- An image whose words are 32-bit words (R71). -/
def imageWords (im : Image) : Bool :=
  (im.triples.all fun t => word32 t.addr && word32 t.mask && word32 t.value)
    && im.patches.all fun p => word32 p.addr && p.words.all word32

/-- The hash of a key is 64 bytes, or that of the development key. -/
def signedOk (x : Signed) : Bool := bytesOk x.keyHash && (x.keyHash.isEmpty || decide (x.keyHash.length = 64)) && word32 x.exponent

/-- A boot image as bytes can spell it (R68). -/
def bootWords (b : BootImage) : Bool :=
  word32 b.magic && word32 b.format && word32 b.keySlot && word32 b.version && word32 b.length && word32 b.entry
    && decide (b.segments.length = 8) && (b.segments.all fun x => word32 x.1 && word32 x.2.1 && word32 x.2.2) && bytesOk b.payload

/-- A headframe as bytes can spell it (R65). -/
def headframeWords (h : Headframe) : Bool :=
  word32 h.magic && word32 h.format && word32 h.keySlot && ([h.lamp, h.slots, h.copy1, h.copy2].all fun x => word32 x.1 && word32 x.2)
    && word32 h.emmcBase && word32 h.emmcMhz && word32 h.xspiMhz && word32 h.xspiDummy

/-- A container as bytes can spell it (R70). -/
def containerWords (c : Container) : Bool :=
  word32 c.keySlot && word32 c.application && word32 c.arrangement && decide (c.partnerWait < 256) && decide (c.timeWait < 256)
    && word32 c.version && imageWords c.base && c.overlays.all imageWords && decide (c.overlays.length = 8)
    && decide (c.places.length = 9) && (c.places.all fun p => word32 p.1 && word32 p.2) && word32 c.total

/-- What the media of a start hold fits their fields (R65, R68, R70, R75); the NOR has 64 to 256 MiB (R63). -/
def inputsOk (i : StartInputs) : Bool :=
  i.steps.all stepInOk && bootWords i.boot && headframeWords i.hf && containerWords i.container && signedOk i.bootSig
    && signedOk i.hfSig && signedOk i.contSig && decide (26 ≤ i.norLog2) && decide (i.norLog2 ≤ 28) && decide (i.canary.length ≤ 100)

/-- A command whose operands fit. -/
def Instr.wellFormed : Instr → Bool
  | .registerWrite _ _ width addr value => widthOk width && word32 addr && word32 value
  | .readLowWordLatch _ _ width addr => widthOk width && word32 addr
  | .islandSupplyRise _ => true
  | .islandSupplyFault _ _ => true
  | .islandSQualify _ _ _ _ _ => true
  | .islandSLost => true
  | .vkeepRise => true
  | .vkeepLoss => true
  | .nresetLow _ _ => true
  | .laneStart _ inp => inputsOk inp
  | .startStepTimeout _ inp => inputsOk inp
  | .partnerWaitExpiry _ inp => inputsOk inp
  | .bootNext _ _ => true
  | .keyRevoke _ _ key => decide (key < 65536)
  | .loaderBlockStart _ block crc => decide (block < 65536) && word32 crc
  | .loaderData _ frame bytes media => decide (frame < 683) && bytesOk bytes && decide (bytes.length = 6) && signedOk media.sig
  | .wakeInput _ => true
  | .modeRequest _ _ _ => true
  | .modePartnerTimeout => true
  | .modeChangeApply _ _ freq => word32 freq
  | .nvmReqGo _ _ => true
  | .tallyOutcome _ _ _ => true
  | .tallyAbortLead _ _ => true
  | .tallyMiss _ _ => true
  | .talCancel _ _ => true
  | .talOutPop _ => true
  | .targetOffFail _ _ => true
  | .timExpiry _ _ => true
  | .tractionCycleBoundary _ => true
  | .timeFrame _ _ _ => true
  | .asSync _ _ origin corr ago _ _ => word64 origin && word64 corr && word32 ago
  | .asPdelayReq _ _ => true
  | .asSyncLapse _ _ => true
  | .deputyOscCorrection freq => word32 freq
  | .deputyOscSourceChange => true
  | .deputyOscRemoval => true
  | .adcTrigger _ _ => true
  | .adcResult _ _ _ _ _ _ _ => true
  | .adcUrgent _ _ _ => true
  | .adcQueuePop _ _ => true
  | .adcEstStep _ _ est _ => decide (est.length = 4)
  | .adcCorrWrite _ _ _ _ => true
  | .syscalMeasure _ => true
  | .syscalCollectDone _ => true
  | .syscalApply _ => true
  | .syscalAbort _ => true
  | .sdfResult _ _ _ _ => true
  | .sdfTripCompare _ _ _ _ => true
  | .sdfStuck _ _ => true
  | .sdfClkFault _ _ => true
  | .sdfRefilled _ _ => true
  | .resolverUpdate _ _ _ => true
  | .resolverCarStep _ _ => true
  | .ptCountingEdge _ _ _ _ _ => true
  | .ptGlitch _ _ _ gap => decide (gap < 256)
  | .ptReferenceEdge _ _ _ _ => true
  | .ptExtrapolate _ _ _ => true
  | .ptZeroSpeed _ _ => true
  | .sentFrame _ _ levels => levels.all fun x => decide (0 < x)
  | .sentStale _ _ => true
  | .bandEnable _ _ => true
  | .bandEvaluate _ _ _ => true
  | .bandEdgeReport _ _ => true
  | .bandStall _ _ => true
  | .arithTrigger _ _ => true
  | .arithExecute _ _ => true
  | .ceIntPreset _ _ _ _ => true
  | .trcArm _ _ => true
  | .trcDump _ _ => true
  | .trcAbort _ _ => true
  | .trcTrigger _ _ => true
  | .traceTriggerEvent _ _ => true
  | .tracePostDone _ _ => true
  | .pwmTransferPoint _ _ => true
  | .pwmCommit _ _ => true
  | .pwmDiscard _ _ => true
  | .pwmSyncLoad _ _ => true
  | .pwmCompareEvent _ _ _ => true
  | .pwmEngineEdge _ _ => true
  | .pwmChannelEnable _ _ _ => true
  | .tripSourceActive _ _ => true
  | .pwmTgForce _ _ => true
  | .pwmTgClear _ _ => true
  | .blankWindowClose _ _ => true
  | .pwmGrantAlign _ => true
  | .pwmTakeover _ _ => true
  | .pwmLateTakeover _ _ => true
  | .authReqRaise _ => true
  | .authReqDrop _ => true
  | .holdGrant => true
  | .holdExpiry => true
  | .checkerFault _ _ => true
  | .lockstepSelfReset _ => true
  | .debugSplit _ _ => true
  | .heartbeatWrite _ _ _ => true
  | .heartbeatMiss _ => true
  | .deputyAliveTick => true
  | .deputyPortSilent _ => true
  | .dsPartnerJudgement _ => true
  | .portFaultReset _ => true
  | .dspDeclare _ _ => true
  | .networkLossCount _ => true
  | .sensorLossCount _ => true
  | .disagreeCount _ => true
  | .canBusOff _ _ => true
  | .degradedExpiry => true
  | .laneDegradedExpiry _ => true
  | .degRemainSample _ => true
  | .rampDone _ => true
  | .rampWindowExpiry => true
  | .brakeApplied _ => true
  | .brakeWindowExpiry => true
  | .clampCommand _ => true
  | .clampApplyEnd _ => true
  | .clampDefaultStep _ => true
  | .clampConfigFrame _ _ => true
  | .clampDutyRecompute _ _ => true
  | .brkApply _ => true
  | .brkRelease _ => true
  | .brkAtForce _ => true
  | .brkLoopUpdate _ _ => true
  | .dspSoCmd _ _ _ => true
  | .soFbMismatch _ _ _ => true
  | .soTestRound _ => true
  | .soTestGo _ out read => decide (read.out.val = out.val) || decide (12 ≤ out.val)
  | .contactorPullEnd _ => true
  | .contactorDropEnd _ _ => true
  | .closeMain _ => true
  | .prechargeReached _ => true
  | .prechargeTimeout _ => true
  | .openMain _ => true
  | .openCurrentWaitEnd _ => true
  | .weldCheckEnd _ => true
  | .closeDc _ => true
  | .openDc _ => true
  | .closeAc _ => true
  | .openAc _ => true
  | .weldTest _ => true
  | .clearWeld _ => true
  | .dcOvercurrent _ => true
  | .ov1Cross _ _ => true
  | .ov2Cross _ => true
  | .ov2Release _ => true
  | .ov3Cross _ => true
  | .ov3HoldExpiry => true
  | .ov3ContactorOpen _ => true
  | .hvcSetWrite _ _ _ => true
  | .hvcSoftDone _ => true
  | .obcSyncDone _ _ _ => true
  | .obcBusReached _ => true
  | .obcGridTrip _ _ _ => true
  | .obcGridReturn _ _ _ => true
  | .motObserverUpdate _ _ _ => true
  | .motTsatExpiry _ _ => true
  | .motXchkTimeout _ _ => true
  | .motRectifyTimeout _ _ => true
  | .motPrefTimeout _ _ => true
  | .catchPulseStart _ _ => true
  | .catchPulseEnd _ _ => true
  | .motInjectionStep _ _ => true
  | .motRecatch _ _ => true
  | .keWindowEnd _ _ => true
  | .lvpSample _ _ _ _ => true
  | .lvpHandover _ => true
  | .lvpHandoverEnd _ => true
  | .lvpRequalEnd _ => true
  | .lvpCutoff _ => true
  | .lvpReconnect _ => true
  | .lvpProfileStep _ _ => true
  | .actUndervoltage _ _ => true
  | .btnPress _ => true
  | .btnRelease _ _ => true
  | .btnHeldMark _ => true
  | .keeperDecisionReceived _ => true
  | .keeperActionStep _ => true
  | .linkFrameMode _ _ _ => true
  | .linkFrameCmp _ _ => true
  | .linkFrameIn _ _ => true
  | .linkFrameAck _ _ => true
  | .linkFrameState _ _ => true
  | .linkFrameCopy _ _ => true
  | .linkFrameCopyEnd _ _ _ => true
  | .linkFrameIdle _ _ => true
  | .laneLinkLost _ => true
  | .copyAckTimeout _ => true
  | .snapshotPeriod _ => true
  | .snapNow _ => true
  | .snapshotSearchEnd _ _ => true
  | .handover _ => true
  | .chassisBoundary _ => true
  | .chassisSeal _ => true
  | .chassisCmdDeadline _ => true
  | .chassisCompare _ => true
  | .chassisNodeFrame _ => true
  | .hoistSetSc _ _ => true
  | .hoistSetGate _ _ => true
  | .hoistSetLoss _ _ => true
  | .hoistRead _ _ => true
  | .hoistHlgTest _ _ _ => true
  | .hoistRun _ _ => true
  | .hoistAnswerTimeout _ _ => true
  | .hoistAck _ _ => true
  | .hoistEcho _ _ _ => true
  | .hoistStatus _ _ => true
  | .hoistFault _ _ => true
  | .hoistStatLoss _ => true
  | .hoistTick => true
  | .headLinkLoss _ => true
  | .headShortCircuit _ _ _ => true
  | .hlgCodeChange _ _ _ _ => true
  | .legTurnOnRelease _ => true
  | .legTurnOnWithhold _ => true
  | .henLow _ _ => true
  | .henRelease _ _ _ => true
  | .hlkTrainStart _ => true
  | .hlkTrainAbort _ => true
  | .pdGateError _ _ _ _ => true
  | .pdTurnOnWithhold _ _ _ => true
  | .bstUndervoltage _ _ _ => true
  | .pdFaultClear _ _ _ _ => true
  | .vddGo _ _ => true
  | .rlkSet _ _ => true
  | .rlkNap _ _ => true
  | .rlkWake _ _ => true
  | .rlkStatus _ _ => true
  | .rlkAck _ _ => true
  | .rlkSuperseded _ _ => true
  | .rlkNapDone _ _ => true
  | .vrcSettled _ => true
  | .rlkLoss _ _ => true
  | .vrcUpdate _ m => decide (m.phases.length = 4) && decide (m.peaks.length ≤ 4)
  | .vrcShed _ => true
  | .vrcShedRampEnd _ => true
  | .vrcRestore _ => true
  | .pwrIdle _ => true
  | .idleInterrupt _ => true
  | .pwrNap _ _ _ => true
  | .napWake _ _ => true
  | .thmSample _ m => decide (m.die.length = 8) && decide (m.pap.length = 4) && decide (m.dep.length = 2)
  | .thermalShutdown _ => true
  | .thermalRelease _ => true
  | .canTxGo _ _ _ => true
  | .canAttemptStart _ _ => true
  | .canAttemptEnd _ _ _ => true
  | .canRxFrame _ _ _ _ => true
  | .canRxPop _ _ => true
  | .canHpPop _ _ => true
  | .canRecover _ _ => true
  | .canRecoveryDone _ _ => true
  | .canEnable _ _ => true
  | .canIntegrated _ _ => true
  | .canCellStart _ _ _ => true
  | .canWindowClose _ _ => true
  | .ethTxGo _ _ _ => true
  | .ethRxFrame _ _ _ _ => true
  | .ethRxRelease _ _ _ => true
  | .ethMdio _ _ _ => true
  | .ethLinkChange _ _ _ _ _ _ => true
  | .t1sCollision _ => true
  | .asyReqCommit _ => true
  | .asyXinSubmit _ _ => true
  | .holdup _ _ _ => true
  | .countersign _ => true
  | .secLcReq _ _ _ _ _ => true
  | .secKeyProg _ _ _ => true
  | .dbgChallenge _ _ => true
  | .challengeLapse _ => true
  | .dbgOpen _ _ _ => true
  | .secJobGo _ _ => true
  | .entropyHealthFail _ => true
  | .cvuStart _ _ _ => true
  | .cvuData32 _ _ _ _ _ => true
  | .cvuData16 _ _ _ _ _ => true
  | .cvuData8 _ _ _ _ _ => true
  | .cvuEnd _ _ _ => true
  | .cvuAbort _ _ _ => true
  | .cvuResync _ _ _ => true
  | .timeWaitExpiry _ inp => inputsOk inp
  | .prechargeOverlapEnd _ => true
  | .pdTurnOnRelease _ _ _ _ _ => true
  | .bootstrapLow _ _ _ => true
  | .tripSourceInactive _ _ => true
  | .ov3LinesInactive _ => true
  | .holdReplayEdge _ => true
  | .soCurrentLimit _ => true
  | .ethMdioDone _ _ _ => true
  | .plcaBeaconChange _ _ => true
  | .asPdelayAnnounceRx _ _ _ => true
  | .btnHeld8s _ => true
  | .lampSlot => true
  | .vbat9vCrossing _ _ => true
  | .headGateSupplyLoss _ => true

end Sys2Proof
end

