-- ==== Sys2Proof/Tests/Slice0.lean ====
section
/-!
SUPPORT. The model's own tests: for every statement that has hypotheses, states and operands that meet them (each clause at
the edge of its range where it has one); an ill-formed command for each check of well-formedness; worked examples and tables
of the spec.
-/
namespace Sys2Proof.Machine

/-! ## States for the witnesses -/

/-- Both lanes run from instant 0, the Deputy is present, both power-and-analog dies are powered, at 10 ms. -/
def up : State :=
  let run := { LaneRun.init with phase := .running, clk := { LaneClock.init with t0 := some 0 } }
  let pap := { PapSt.init with powered := true }
  { State.reset with
    now := 1000000, sup := { islA := true, islB := true, vkeep := true }
    laneA := { State.reset.laneA with run := run }, laneB := { State.reset.laneB with run := run }
    dep := { DepSt.init with phase := .on }, papA := pap, papB := pap }

/-- A register field of a state set for a witness. -/
def reg (d : Die) (f : Fld) (v : Nat) (s : State) (i : Nat := 0) (j : Nat := 0) : State := s.wr d f v i j

/-- A tally entry of 100 counts with the deadline 50 ms. -/
def ent (id q : Nat) (st : EntState) (job : Job := .plain) : TalEntry :=
  { id := id, queue := q, size := 1, who := 0, deadline := 5000000, cost16 := 1600, bound := 1000100, st := st,
    measured := false, since := 999000, missed := false, job := job }

/-- A lane's tally with the given entries. -/
def tally (l : Lane) (es : List TalEntry) (s : State) : State := s.modTal l fun t => { t with entries := es }

/-- A state in which a lane is mode master in Service with valid limits, six contactors on outputs 0 to 5, and the Deputy's
outputs carry them. -/
def nrgUp (l : Lane) : State :=
  let d := laneDie l
  let s0 := up |> reg .ds R.DSP_MODE.MODE modeService |> reg d R.CFG_MODE.MODE modeService |> reg d R.NRG_OV1.V 1000 |> reg d R.NRG_OV2.V 1200
    |> reg d R.NRG_OV3.V 1400 |> reg d R.NRG_SCALE.TRIP_FS 1000
  let s1 := s0.each (List.finRange 6) fun s c =>
    reg .ds R.DSP_SOk_CFG.FUNC soContactor (reg d R.NRG_CTRc_CFG.SO c (reg d R.NRG_CTRc_CFG.EN 1 s c) c) c
  reg .ds R.DSP_GRANT.STATE (grantCode l) s1

/-- A contactor on an output in the given state. -/
def ctrIn (k : Fin 12) (c : CtrState) (s : State) : State := s.modDep fun d => { d with ctr := upd d.ctr k fun _ => c }

/-- A contactor sequence of a lane since 9.99 ms. -/
def seqAt (l : Lane) (cmd : Nat) (p : SeqPhase) (s : State) : State :=
  s.modNrg l fun n => { n with seq := some { cmd := cmd, phase := p, since := 999000, v0 := 0, welded := false } }

/-- The overvoltage thresholds of a lane at 0.1 V units `v`, with a fast value of its link filter. -/
def ovUp (d : Die) (v x : Nat) : State :=
  up |> reg d R.NRG_OV1.V v |> reg d R.NRG_OV2.V v |> reg d R.NRG_OV3.V v |> reg d R.NRG_SCALE.TRIP_FS 1000
    |> reg d R.SDF_Fn_TRIP_DATA.DATA x

/-- A control-engine source of a lane at a value. -/
def src (l : Lane) (c : Nat) (v : Int) (s : State) : State :=
  s.modRun l fun r => { r with ce := { r.ce with src := [(c, v)] } }

/-- Lane B's monitor armed, its last heartbeat 10 us ago, its window from 5 us to `close` us. -/
def hbUp (close : Nat) : State :=
  reg .ds R.DSP_Lx_STATUS.ARMED 1 (reg .ds R.DSP_Lx_HB_CFG.OPEN 5 (reg .ds R.DSP_Lx_HB_CFG.CLOSE close
    (up.modDepLane .b fun x => { x with hb := { first := false, since := 999000 } }) (i := 1)) (i := 1)) (i := 1)

/-- A valid uplink frame of a type with a payload (R223, R232). -/
def upFrame (ty : Nat) (p : List Nat) : UplinkFrame :=
  let b := ty :: p.length :: p
  { bytes := (0x7E :: b ++ [crc8 b]).map (BitVec.ofNat 8) }

/-- A shared timebase of 100 steps as the multiplexer holds it. -/
def muxTb0 : MuxTb := { updown := false, period := 100, phase := 0, start := 1024000000 }

/-- A channel of it that the multiplexer drives. -/
def muxCh0 : MuxCh :=
  { tb := 0, compl := true, dstH := 1, dstL := 2, on := some 2560, off := some 5120, dtRise := 3, dtFall := 4, level := false,
    lastEdge := none, driving := true }

/-- A configuration container that passes `ST08`. -/
def cont : Container :=
  { keySlot := 0, application := 0, arrangement := 0, reducedOk := true, partnerWait := 50, timeWait := 0, version := 7,
    base := Image.empty, overlays := (List.range 8).map fun m => { Image.empty with mode := m } }

/-- What the outside answers to a start in which every step passes. -/
def inp : StartInputs :=
  { steps := [], boot := { length := 8, entry := 0x10000000, segments := [(0x10000000, 4, 0), (0x10080000, 4, 4)] ++ List.replicate 6 (0, 0, 0),
                           payload := [0, 0, 0, 0, 0, 0, 8, 16] },
    norLog2 := 26, life := 0, container := cont, canary := [], unexpected := false }

/-! ## Witnesses: every tuple of the list meets the hypotheses -/

/-- Every listed value meets `P`. -/
abbrev holds1 {α : Type} (P : α → Prop) (ws : List (α)) : Prop := ∀ w ∈ ws, P w

/-- Every listed tuple of 2 meets `P`. -/
abbrev holds2 {α β : Type} (P : α → β → Prop) (ws : List (α × β)) : Prop := ∀ w ∈ ws, P w.1 w.2

/-- Every listed tuple of 3 meets `P`. -/
abbrev holds3 {α β γ : Type} (P : α → β → γ → Prop) (ws : List (α × β × γ)) : Prop := ∀ w ∈ ws, P w.1 w.2.1 w.2.2

/-- Every listed tuple of 4 meets `P`. -/
abbrev holds4 {α β γ δ : Type} (P : α → β → γ → δ → Prop) (ws : List (α × β × γ × δ)) : Prop := ∀ w ∈ ws, P w.1 w.2.1 w.2.2.1 w.2.2.2

/-- Every listed tuple of 5 meets `P`. -/
abbrev holds5 {α β γ δ ε : Type} (P : α → β → γ → δ → ε → Prop) (ws : List (α × β × γ × δ × ε)) : Prop := ∀ w ∈ ws, P w.1 w.2.1 w.2.2.1 w.2.2.2.1 w.2.2.2.2

/-- Every listed tuple of 6 meets `P`. -/
abbrev holds6 {α β γ δ ε ζ : Type} (P : α → β → γ → δ → ε → ζ → Prop) (ws : List (α × β × γ × δ × ε × ζ)) : Prop := ∀ w ∈ ws, P w.1 w.2.1 w.2.2.1 w.2.2.2.1 w.2.2.2.2.1 w.2.2.2.2.2

/-- Every listed tuple of 7 meets `P`. -/
abbrev holds7 {α β γ δ ε ζ η : Type} (P : α → β → γ → δ → ε → ζ → η → Prop) (ws : List (α × β × γ × δ × ε × ζ × η)) : Prop := ∀ w ∈ ws, P w.1 w.2.1 w.2.2.1 w.2.2.2.1 w.2.2.2.2.1 w.2.2.2.2.2.1 w.2.2.2.2.2.2

/-- Every listed tuple of 8 meets `P`. -/
abbrev holds8 {α β γ δ ε ζ η θ : Type} (P : α → β → γ → δ → ε → ζ → η → θ → Prop) (ws : List (α × β × γ × δ × ε × ζ × η × θ)) : Prop := ∀ w ∈ ws, P w.1 w.2.1 w.2.2.1 w.2.2.2.1 w.2.2.2.2.1 w.2.2.2.2.2.1 w.2.2.2.2.2.2.1 w.2.2.2.2.2.2.2

/-- Every listed tuple of 9 meets `P`. -/
abbrev holds9 {α β γ δ ε ζ η θ ι : Type} (P : α → β → γ → δ → ε → ζ → η → θ → ι → Prop) (ws : List (α × β × γ × δ × ε × ζ × η × θ × ι)) : Prop := ∀ w ∈ ws, P w.1 w.2.1 w.2.2.1 w.2.2.2.1 w.2.2.2.2.1 w.2.2.2.2.2.1 w.2.2.2.2.2.2.1 w.2.2.2.2.2.2.2.1 w.2.2.2.2.2.2.2.2

theorem witness_StepRunsFrontCommand : State.reset.pending = [] := rfl

theorem witness_CanonicalKeptByEveryStep :
    ∃ t, step State.reset = .next t ∧ State.reset.canonical = true := ⟨_, rfl, by decide⟩

theorem witness_OneTimeProgrammableOnlyAdvances : ∃ t, step State.reset = .next t := ⟨_, rfl⟩

theorem witness_QueueIsFirstInFirstOut :
    ∃ t, step (up.withPending [.snapNow .a, .snapNow .b]) = .next t := ⟨_, rfl⟩

theorem witness_RegisterAccessWidthError :
  holds6 (fun (s : State) (l : Lane) (who : Initiator) (width a : Nat) (d : Die) =>
    s.canonical = true ∧ s.canAccess l who = true ∧ s.target l a = .reg d ∧ (width ≠ 32 ∨ a % 4 ≠ 0))
    [(up, .b, .ap, 16, 0x40170000, .lb), (up, .a, .cp, 32, 0x40150002, .ds), (reg .la R.SEC_LC.DEBUG 2 up, .a, .debug, 64, 0x40160000, .pa)] := by
  decide

/-- `SYS_VDD_REQ.CODE` (RW), `CVU_U3_DATA8.DATA` (WO), `TAL_Q15_WC_FIX.COUNTS` (RWS), `CFG_MODE_STATUS.DONE` (W1C),
`TAL_FREE.FREE` (RO), `TAL_MISS_CNT.COUNT` (RC), `SYS_VDD_GO.GO` (WT); before the seal, and after it for the RWS field. -/
theorem witness_RegisterWriteByAccessCode :
  (holds5 (fun (s : State) (a : Nat) (f : Fld) (i : Nat) (p : List (Fld × Nat × Nat) × List (Fld × Nat × Nat)) =>
    s.canonical = true ∧ s.canAccess .b .ap = true ∧ s.target .b a = .reg (laneDie .b) ∧ a % 4 = 0 ∧
    (a < 0x40030000 ∧ a ≠ R.CFG_BOOT_NEXT.SLOT.addr ∨ 0x40080000 ≤ a ∧ a < 0x40150000) ∧ talHole a = false ∧
    ethHole a = false ∧ fieldsAt .lane a = p.1 ++ (f, i, 0) :: p.2 ∧
    (∀ y ∈ p.1 ++ p.2, y.1.key (laneDie .b) y.2.1 y.2.2 ≠ f.key (laneDie .b) i 0))
    [(up, 0x4000002C, R.SYS_VDD_REQ.CODE, 0, ([], [])), (up, 0x400D81D0, R.CVU_Un_DATA8.DATA, 3, ([], [])),
     (up, 0x400205E0, R.TAL_Qq_WC_FIX.COUNTS, 15, ([], [])),
     (up, 0x4001002C, R.CFG_MODE_STATUS.DONE, 0,
       ([(R.CFG_MODE_STATUS.BUSY, 0, 0)], [(R.CFG_MODE_STATUS.RESULT, 0, 0), (R.CFG_MODE_STATUS.LAST_TARGET, 0, 0)])),
     (up, 0x40020008, R.TAL_FREE.FREE, 0, ([], [])), (up, 0x4002000C, R.TAL_MISS_CNT.COUNT, 0, ([], [])),
     (up, 0x40000038, R.SYS_VDD_GO.GO, 0, ([], [])),
     (reg .lb R.CFG_SEAL.SEALED 1 up, 0x400205E0, R.TAL_Qq_WC_FIX.COUNTS, 15, ([], []))]) ∧
  (holds3 (fun (s : State) (l : Lane) (a : Nat) => s.canonical = true ∧ s.canAccess l .ce = true ∧ inSram a = true)
    [(up, .a, 0x20000000), (up, .b, 0x205FFFFF)]) := ⟨by decide +kernel, by decide⟩

theorem witness_CountsReadLowWordFirst :
  holds4 (fun (s : State) (l : Lane) (a : Nat) (d : Die) =>
    s.canonical = true ∧ s.canAccess l .ap = true ∧ s.target l a = .reg d ∧ s.target l (a + 4) = .reg d ∧
    s.answers l d = true ∧ isLow64 a = true)
    [(up, .b, 0x40170000, .lb), (up, .b, 0x40130178, .lb), (up, .a, 0x40150014, .ds)] := by decide

theorem witness_TightlyCoupledMemoryIsItsPairsOwn :
  holds4 (fun (s : State) (l : Lane) (who : Initiator) (a : Nat) =>
    s.canonical = true ∧ s.firmware l = true ∧ 0x10000000 ≤ a ∧ a ≤ 0x100FFFFF ∧ who ≠ .debug)
    [(up, .a, .cp, 0x1007FFFF), (up, .b, .ap, 0x10080000), (up, .b, .ce, 0x100FFFFF), (up, .a, .ap, 0x10000000)] := by
  decide

theorem witness_DeadlineNamesFirstLaneTime :
    (up.submit .b .ap 3 1 5000000 .plain).1 = .admitted 0 ∧
    ((reg .lb R.TAL_Qq_LIMIT.QUOTA 2 (tally .b [ent 0 3 .waiting] up) (i := 3)).submit .b .ap 3 1 5000000 .plain).1 = .admitted 1 := ⟨by decide, by decide⟩

theorem witness_FramesSensing : up.canonical = true ∧ ∃ t, exec (.adcTrigger .b 11) up = .next t := ⟨by decide, _, rfl⟩

theorem witness_FramesEngineTraceMachines : up.canonical = true ∧ ∃ t, exec (.bandEnable .b 31) up = .next t := ⟨by decide, _, rfl⟩

theorem witness_FramesPwmAndTrips : up.canonical = true ∧ ∃ t, exec (.pwmCommit .b 7) up = .next t := ⟨by decide, _, rfl⟩

theorem witness_FramesHoistLink : up.canonical = true ∧ ∃ t, exec (.clampCommand .b) up = .next t := ⟨by decide, _, rfl⟩

theorem witness_FramesEnergy : up.canonical = true ∧ ∃ t, exec (.contactorPullEnd 11) up = .next t := ⟨by decide, _, rfl⟩

theorem witness_FramesLanesAndChassis : up.canonical = true ∧ ∃ t, exec (.nvmReqGo .b .ap) up = .next t := ⟨by decide, _, rfl⟩

theorem witness_FramesDeputyAndPower : up.canonical = true ∧ ∃ t, exec (.wakeInput 1) up = .next t := ⟨by decide, _, rfl⟩

theorem witness_FramesNetworksAndRecords : up.canonical = true ∧ ∃ t, exec (.bootNext .b 3) up = .next t := ⟨by decide, _, rfl⟩

theorem witness_ConvertersTriggerReportAndAnswerReads :
  (holds3 (fun (s : State) (l : Lane) (g : Fin 12) =>
    s.canonical = true ∧ s.past l 11 = true ∧ s.rd (laneDie l) R.ADC_Gg_CFG.MODE g = 3 ∧
    s.rd (laneDie l) R.ADC_Gg_CFG.DEST g ≠ 3 ∧ 0 < (s.grp l g).sent ∧ (s.grp l g).busy = false ∧
    (s.grp l g).aborted = [])
    [((up |> reg .lb R.ADC_Gg_CFG.MODE 3 (i := 11)).modGrp .b 11 fun x => { x with sent := 1 }, .b, 11)]) ∧
  (holds3 (fun (s : State) (l : Lane) (g : Fin 12) =>
    s.canonical = true ∧ s.past l 11 = true ∧ s.rd (laneDie l) R.ADC_Gg_CFG.MODE g = 3 ∧
    s.rd (laneDie l) R.ADC_Gg_CFG.DEST g ≠ 3 ∧ 0 < (s.grp l g).sent ∧ (s.grp l g).busy = true)
    [((up |> reg .la R.ADC_Gg_CFG.MODE 3).modGrp .a 0 fun x => { x with busy := true, sent := 1 }, .a, 0)]) ∧
  (holds4 (fun (s : State) (l : Lane) (_ : Fin 16) (_ : Fin 64) =>
    s.canonical = true ∧ s.past l 11 = true)
    [(up, .a, 11, 63),
     (up, .a, 12, 63),
     (up |> reg .la R.ADC_Gg_CFG.MODE 1, .a, 0, 5)]) ∧
  (holds8 (fun (s : State) (l : Lane) (g : Fin 12) (_ : Fin 4) (_ _ _ : BitVec 14) (c : Fin 64) =>
    s.canonical = true ∧ s.past l 11 = true ∧ s.rd (laneDie l) R.ADC_Gg_CFG.MODE g = 3 ∧ (s.grp l g).busy = true ∧
    (s.grp l g).triggered = true ∧ (s.grp l g).chans[(s.grp l g).pos]? = some c.val ∧ (s.grp l g).dest = 2 ∧
    (s.run l).adc.q11.length < 1024 ∧ s.on (laneDie l) R.ADC_SYSCAL_STATUS.BUSY = false ∧
    (∀ n : Fin 16, s.on (papDie l) R.PAP_HBn_CFG.SHORT_EN n = false))
    [((up |> reg .la R.ADC_Gg_CFG.MODE 3 (i := 2)).modGrp .a 2 fun x => { x with busy := true, triggered := true, dest := 2, chans := [5, 6], pos := 1, stamp := 77 }, .a, 2, 3, 16383, 0, 0, 6),
     ((up |> reg .la R.ADC_Gg_CFG.MODE 3 (i := 2) |> reg .la R.ADC_Gg_Sk_OG.OFFSET 5 (i := 2) (j := 3) |> reg .la R.ADC_CHc_APPLIED.GAIN 65000 (i := 6)).modGrp .a 2 fun x => { x with busy := true, triggered := true, dest := 2, chans := [5, 6], pos := 1, stamp := 77 }, .a, 2, 3, 1000, 0, 0, 6)]) ∧
  (holds2 (fun (s : State) (l : Lane) =>
    s.canonical = true ∧ s.alive l = true ∧ (s.run l).adc.q11 = [])
    [(up, .a)]) ∧
  (holds5 (fun (s : State) (l : Lane) (e stamp : Nat) (rest : List (Nat × Nat)) =>
    s.canonical = true ∧ s.alive l = true ∧ (s.run l).adc.q11 = (e, stamp) :: rest)
    [(up.modAdc .a fun a => { a with q11 := [(1, 2), (3, 4)] }, .a, 1, 2, [(3, 4)])]) ∧
  (holds2 (fun (s : State) (l : Lane) =>
    s.canonical = true ∧ s.alive l = true ∧ (s.run l).adc.q12 = [])
    [(up, .a)]) ∧
  (holds5 (fun (s : State) (l : Lane) (e stamp : Nat) (rest : List (Nat × Nat)) =>
    s.canonical = true ∧ s.alive l = true ∧ (s.run l).adc.q12 = (e, stamp) :: rest)
    [(up.modAdc .b fun a => { a with q12 := [(1, 2)] }, .b, 1, 2, [])]) :=
  ⟨by decide, by decide, by decide, by decide, by decide, by decide, by decide, by decide⟩

theorem witness_ConverterCorrectionsMove :
  (holds9 (fun (s : State) (l : Lane) (g : Fin 12) (k : Fin 4) (est : List (Int × Int × Int)) (_ : Bool) (o g' k' : Int) =>
    s.canonical = true ∧ s.past l 11 = true ∧ s.on (laneDie l) R.ADC_CTRL.EST_EN = true ∧ 0 < (s.grp l g).elig ∧
    (s.grp l g).elig % 2 ^ 16 = 0 ∧ (s.grp l g).stepAt ≠ (s.grp l g).elig ∧ est[k.val]? = some (o, g', k'))
    [((up |> reg .la R.ADC_CTRL.EST_EN 1).modGrp .a 3 fun x => { x with elig := 2 ^ 20 }, .a, 3, 1, [(1, 2, 3), (5, -6, 7)], false, 5, (-6), 7),
     ((up |> reg .la R.ADC_CTRL.EST_EN 1 |> reg .la R.ADC_Gg_CFG.EST_FREEZE 1 (i := 3)).modGrp .a 3 fun x => { x with elig := 2 ^ 20 }, .a, 3, 1, [(1, 2, 3), (5, -6, 7)], true, 5, (-6), 7),
     ((up |> reg .la R.ADC_CTRL.EST_EN 1).modGrp .a 3 fun x => { x with elig := 2 ^ 16 }, .a, 3, 1, [(1, 2, 3), (5, -6, 7)], false, 5, (-6), 7)]) ∧
  (holds5 (fun (s : State) (l : Lane) (_ : Fin 64) (_ _ : BitVec 16) =>
    s.canonical = true ∧ s.alive l = true)
    [(up |> reg .lb R.ADC_CHc_APPLIED.GAIN 65535 (i := 63), .b, 63, 0x8000, 0x7FFF)]) ∧
  (holds2 (fun (s : State) (l : Lane) =>
    s.canonical = true ∧ s.alive l = true)
    [(up, .a),
     (up |> reg .la R.CFG_MODE.MODE modeService |> reg .la R.ADC_SYSCAL_CTRL.LOG2N 9, .a)]) ∧
  (holds2 (fun (s : State) (l : Lane) =>
    s.canonical = true ∧ s.on (laneDie l) R.ADC_SYSCAL_STATUS.BUSY = true ∧
    (s.run l).adc.calTarget ≤ (s.run l).adc.calCount ∧ 0 < (s.run l).adc.calCount)
    [((up |> reg .la R.ADC_SYSCAL_STATUS.BUSY 1).modAdc .a fun a => { a with calSum := 256 * 2 ^ 22 * 10 ^ 7, calCount := 256, calTarget := 256 }, .a),
     ((up |> reg .la R.ADC_SYSCAL_STATUS.BUSY 1 |> reg .la R.ADC_SYSCAL_CTRL.POINT 1).modAdc .a fun a => { a with calSum := 255 * 2 ^ 21 * 10 ^ 7, calCount := 256, calTarget := 256 }, .a)]) ∧
  (holds8 (fun (s : State) (l : Lane) (mz mf tz tf : Nat) (gain ofs : Int) =>
    s.canonical = true ∧ s.alive l = true ∧ s.modeOf l = modeService ∧
    s.on (laneDie l) R.ADC_SYSCAL_STATUS.ZERO_VALID = true ∧ s.on (laneDie l) R.ADC_SYSCAL_STATUS.FULL_VALID = true ∧
    s.rd (laneDie l) R.ADC_SYSCAL_MEAS_ZERO.MEAS = mz ∧ s.rd (laneDie l) R.ADC_SYSCAL_MEAS_FULL.MEAS = mf ∧
    s.rd (laneDie l) R.ADC_SYSCAL_TARGET.ZERO = tz ∧ s.rd (laneDie l) R.ADC_SYSCAL_TARGET.FULL = tf ∧ mz < mf ∧
    ((mf : Int) - mz) * (2 * gain - 1) < 2 * ((16 * ((tf : Int) - tz) - ((mf : Int) - mz)) * 2 ^ 16) ∧
    2 * ((16 * ((tf : Int) - tz) - ((mf : Int) - mz)) * 2 ^ 16) < ((mf : Int) - mz) * (2 * gain + 1) ∧
    2 ^ 20 * (2 * ofs - 1) < 8 * (2 ^ 20 * (tz : Int) - (2 ^ 16 + gain) * mz) ∧
    8 * (2 ^ 20 * (tz : Int) - (2 ^ 16 + gain) * mz) < 2 ^ 20 * (2 * ofs + 1) ∧
    s.rd (laneDie l) R.ADC_SYSCAL_CTRL.CHANNEL < 64)
    [(up |> reg .la R.CFG_MODE.MODE modeService |> reg .la R.ADC_SYSCAL_STATUS.ZERO_VALID 1 |> reg .la R.ADC_SYSCAL_STATUS.FULL_VALID 1 |> reg .la R.ADC_SYSCAL_MEAS_ZERO.MEAS 1600 |> reg .la R.ADC_SYSCAL_MEAS_FULL.MEAS 161600 |> reg .la R.ADC_SYSCAL_TARGET.ZERO 90 |> reg .la R.ADC_SYSCAL_TARGET.FULL 10190 |> reg .la R.ADC_SYSCAL_CTRL.CHANNEL 5, .a, 1600, 161600, 90, 10190, 655, (-44)),
     (up |> reg .la R.CFG_MODE.MODE modeService |> reg .la R.ADC_SYSCAL_STATUS.ZERO_VALID 1 |> reg .la R.ADC_SYSCAL_STATUS.FULL_VALID 1 |> reg .la R.ADC_SYSCAL_MEAS_FULL.MEAS 16000 |> reg .la R.ADC_SYSCAL_TARGET.FULL 16000 |> reg .la R.ADC_SYSCAL_CTRL.CHANNEL 5, .a, 0, 16000, 0, 16000, 983040, 0)]) ∧
  (holds2 (fun (s : State) (l : Lane) =>
    s.canonical = true ∧ s.alive l = true ∧ s.modeOf l = modeService)
    [(up |> reg .la R.CFG_MODE.MODE modeService, .a),
     (up |> reg .la R.CFG_MODE.MODE modeService |> reg .la R.ADC_SYSCAL_STATUS.ZERO_VALID 1 |> reg .la R.ADC_SYSCAL_STATUS.FULL_VALID 1, .a)]) ∧
  (holds2 (fun (s : State) (l : Lane) =>
    s.canonical = true ∧ s.on (laneDie l) R.ADC_SYSCAL_STATUS.BUSY = true)
    [(up |> reg .lb R.ADC_SYSCAL_STATUS.BUSY 1, .b)]) :=
  ⟨by decide, by decide, by decide, by decide, by decide, by decide, by decide⟩

theorem witness_SigmaDeltaFiltersReportAndTrip :
  (holds5 (fun (s : State) (l : Lane) (n : Fin 12) (_ _ : List Bool) =>
    s.canonical = true ∧ s.past l 10 = true ∧ s.on (laneDie l) R.SDF_Fn_CFG.EN n = true ∧
    s.rd (laneDie l) R.SDF_Fn_APPLIED.GAIN n = 0 ∧ s.rd (laneDie l) R.SDF_Fn_APPLIED.OFFSET n = 0 ∧
    s.rd (laneDie l) R.SDF_Fn_OUT.IAVG n ≤ 1 ∧ s.on (laneDie l) R.SDF_Fn_OUT.DEST_CE n = false ∧
    s.on (laneDie l) R.SDF_Fn_OUT.DEST_ASY n = false)
    [(up |> reg .la R.SDF_Fn_CFG.EN 1 (i := 4) |> reg .la R.SDF_Fn_CFG.SHIFT 3 (i := 4), .a, 4, [true, true, false, true], []),
     (up |> reg .la R.SDF_Fn_CFG.EN 1 (i := 4) |> reg .la R.SDF_Fn_CFG.EDGE 1 (i := 4), .a, 4, [], [false, true, true, true, true])]) ∧
  (holds5 (fun (s : State) (l : Lane) (n : Fin 12) (_ _ : List Bool) =>
    s.canonical = true ∧ s.past l 11 = true ∧ s.on (laneDie l) R.SDF_Fn_TRIP.EN n = true ∧
    s.on (laneDie l) R.SDF_Fn_STATUS.STUCK n = false ∧ s.on (laneDie l) R.SDF_Fn_STATUS.CLK_FAULT n = false)
    [(up |> reg .la R.SDF_Fn_TRIP.EN 1 (i := 11) |> reg .la R.SDF_Fn_THR.HI 4 (i := 11), .a, 11, [true, true, true, true], []),
     (up |> reg .la R.SDF_Fn_TRIP.EN 1 (i := 11) |> reg .la R.SDF_Fn_THR.HI 100 (i := 11), .a, 11, [false, true, false, true], [])]) ∧
  (holds3 (fun (s : State) (l : Lane) (n : Fin 12) =>
    s.canonical = true ∧ s.past l 11 = true ∧ s.on (laneDie l) R.SDF_Fn_CFG.EN n = true)
    [(up |> reg .la R.SDF_Fn_CFG.EN 1 (i := 11) |> reg .la R.SDF_Fn_STATUS.VALID 1 (i := 11), .a, 11)]) ∧
  (holds3 (fun (s : State) (l : Lane) (n : Fin 12) =>
    s.canonical = true ∧ s.past l 11 = true ∧ s.on (laneDie l) R.SDF_Fn_CFG.EN n = true ∧
    s.on (laneDie l) R.SDF_Fn_CFG.CLK_EXT n = true)
    [(up |> reg .la R.SDF_Fn_CFG.EN 1 (i := 0) |> reg .la R.SDF_Fn_CFG.CLK_EXT 1, .a, 0)]) ∧
  (holds3 (fun (s : State) (l : Lane) (n : Fin 12) =>
    s.canonical = true ∧ s.past l 11 = true ∧ s.on (laneDie l) R.SDF_Fn_CFG.EN n = true ∧
    s.on (laneDie l) R.SDF_Fn_STATUS.STUCK n = false ∧ s.on (laneDie l) R.SDF_Fn_STATUS.CLK_FAULT n = false)
    [(up |> reg .la R.SDF_Fn_CFG.EN 1 (i := 11), .a, 11)]) :=
  ⟨by decide, by decide, by decide, by decide, by decide⟩

theorem witness_TraceBuffersArmTriggerAndDump :
  (holds3 (fun (s : State) (l : Lane) (_ : Fin 8) =>
    s.canonical = true ∧ s.past l 11 = true)
    [(up, .a, 7),
     (up |> reg .la R.TRC_Bb_CFG.PRE 50, .a, 0),
     (up.modTrc .a 2 fun y => { y with phase := trcDumping }, .a, 2)]) ∧
  (holds3 (fun (s : State) (l : Lane) (b : Fin 8) =>
    s.canonical = true ∧ s.past l 11 = true ∧ (s.trc l b).phase = trcDone)
    [(up.modTrc .a 2 fun y => { y with phase := trcDone }, .a, 2),
     (reg .la R.TAL_Qq_LIMIT.QUOTA 4 (up.modTrc .a 2 fun y => { y with phase := trcDone }) (i := 10), .a, 2)]) ∧
  (holds3 (fun (s : State) (l : Lane) (b : Fin 8) =>
    s.canonical = true ∧ s.past l 11 = true ∧ (s.trc l b).phase ≠ trcDone)
    [(up, .b, 0)]) ∧
  (holds3 (fun (s : State) (l : Lane) (b : Fin 8) =>
    s.canonical = true ∧ s.past l 11 = true ∧ (s.trc l b).phase ≠ trcDumping)
    [(up.modTrc .a 2 fun y => { y with phase := trcPost }, .a, 2)]) ∧
  (holds3 (fun (s : State) (l : Lane) (b : Fin 8) =>
    s.canonical = true ∧ s.past l 11 = true ∧ s.trcLinked l b = false ∧
    ((s.trc l b).phase = trcFill ∨ (s.trc l b).phase = trcReady))
    [(up.modTrc .a 2 fun y => { y with phase := trcFill, sent := true }, .a, 2),
     (reg .la R.TRC_Bb_CFG.LINK 1 (up.modTrc .a 0 fun y => { y with phase := trcReady, sent := true }) (i := 1), .a, 0)]) ∧
  (holds3 (fun (s : State) (l : Lane) (b : Fin 8) =>
    s.canonical = true ∧ (s.trc l b).phase = trcPost ∧ s.trcCap l b - s.trcPre l b ≤ (s.trc l b).post ∧
    s.rdBit (laneDie l) R.TRC_CTRL.AUTO_DUMP b = false)
    [(up.modTrc .a 2 fun y => { y with phase := trcPost, post := 8192 }, .a, 2)]) :=
  ⟨by decide, by decide, by decide, by decide, by decide, by decide⟩

theorem witness_BandAndArithmeticSlotsExecute :
  (holds3 (fun (s : State) (l : Lane) (n : Fin 32) =>
    s.canonical = true ∧ s.past l 11 = true ∧ s.rd (laneDie l) R.CE_Bn_STATUS.STATE n = bandOff)
    [(up, .a, 31),
     (up |> reg .la R.PWM_CHc_CFG.ENGINE 1 |> reg .la R.CE_Bn_CFG.SIG 1 |> reg .la R.CE_Bn_HMAX.H 50 |> reg .la R.CE_Bn_HINIT.H 90, .a, 0)]) ∧
  (holds7 (fun (s : State) (l : Lane) (n : Fin 32) (x skew : Int) (rest : List (Int × Int)) (_ : Nat) =>
    s.canonical = true ∧ s.past l 11 = true ∧ s.rd (laneDie l) R.CE_Bn_STATUS.STATE n = bandSettle ∧
    (s.band l n).due = (x, skew) :: rest ∧ (s.ch l (s.bandCh l n)).eng = none ∧ (s.band l n).forced = false ∧
    s.bandCfgErr l n = false ∧ s.bandSig l n = false ∧ s.bandBeyond l n (s.bandError l n x) = true)
    [((up |> reg .la R.PWM_CHc_CFG.ENGINE 1 |> reg .la R.ADC_Gg_CFG.MODE 1 |> reg .la R.CE_Bn_HMAX.H 50 |> reg .la R.CE_Bn_H.H 50 |> reg .la R.CE_Bn_STATUS.STATE bandSettle).modBand .a 0 fun b => { b with due := [(-50, 125000)] }, .a, 0, (-50), 125000, [], 640),
     ((up |> reg .la R.PWM_CHc_CFG.ENGINE 1 |> reg .la R.ADC_Gg_CFG.MODE 1 |> reg .la R.CE_Bn_HMAX.H 50 |> reg .la R.CE_Bn_H.H 50 |> reg .la R.CE_Bn_STATUS.STATE bandSettle).modBand .a 0 fun b => { b with due := [(-51, 0), (7, 1)] }, .a, 0, (-51), 0, [(7, 1)], 0)]) ∧
  (holds4 (fun (s : State) (l : Lane) (n : Fin 32) (x : Int) =>
    s.canonical = true ∧ s.rd (laneDie l) R.CE_Bn_STATUS.STATE n ≠ bandOff ∧
    s.rd (laneDie l) R.CE_Bn_STATUS.STATE n ≠ bandErr ∧ (s.ch l (s.bandCh l n)).report = some (.issued, x))
    [(reg .la R.CE_Bn_STATUS.STATE bandPending (up.modCh .a 0 fun k => { k with report := some (.issued, 5), level := true }), .a, 0, 5)]) ∧
  (holds4 (fun (s : State) (l : Lane) (n : Fin 32) (x : Int) =>
    s.canonical = true ∧ s.rd (laneDie l) R.CE_Bn_STATUS.STATE n = bandPending ∧
    (s.ch l (s.bandCh l n)).report = some (.dropped, x))
    [(reg .la R.CE_Bn_STATUS.STATE bandPending ((up.modCh .a 0 fun k => { k with report := some (.dropped, 5) }).modBand .a 0 fun b => { b with before := 2 }), .a, 0, 5)]) ∧
  (holds3 (fun (s : State) (l : Lane) (n : Fin 32) =>
    s.canonical = true ∧ s.past l 11 = true ∧ s.rd (laneDie l) R.CE_Bn_STATUS.STATE n ≠ bandOff ∧
    s.bandSig l n = false)
    [(up |> reg .la R.CE_Bn_STATUS.STATE bandTrack (i := 9), .a, 9)]) ∧
  (holds3 (fun (s : State) (l : Lane) (i : Fin 24) =>
    s.canonical = true ∧ s.past l 11 = true ∧ s.rd (laneDie l) R.CE_Ai_CFG.TRIG i < 99 ∧
    s.rd (laneDie l) R.CE_Ai_CFG.TRIG i ≠ 43 + i.val ∧ s.rd (laneDie l) R.CE_Ai_CFG.TRIG i ≠ 0 ∧
    s.rd (laneDie l) R.CE_Ai_CFG.OP i ≠ 0 ∧ 0 < (s.arith l i).sent)
    [((up |> reg .la R.CE_Ai_CFG.TRIG 98 (i := 23) |> reg .la R.CE_Ai_CFG.OP 1 (i := 23)).modArith .a 23 fun a => { a with sent := 1 }, .a, 23),
     (reg .la R.CE_Ai_CFG.TRIG 98 (reg .la R.CE_Ai_CFG.OP 1 (up.modArith .a 23 fun a => { a with sent := 2, ready := some 1, pend := some 2 }) (i := 23)) (i := 23), .a, 23)]) ∧
  (holds4 (fun (s : State) (l : Lane) (i : Fin 24) (st : Nat) =>
    s.canonical = true ∧ s.past l 11 = true ∧ (s.arith l i).ready = some st ∧
    (∀ j : Fin 24, j < i → (s.arith l j).ready = none) ∧
    (s.rd (laneDie l) R.CE_Ai_CFG.OP i = 4 ∨ s.rd (laneDie l) R.CE_Ai_CFG.OP i = 7) ∧
    s.rd (laneDie l) R.CE_Ai_IN.C i ≠ i.val + 1 ∧ s.on (laneDie l) R.CE_Ai_CFG.FE_EN i = false ∧
    s.on (laneDie l) R.CE_Ai_CFG.URG_EN i = false)
    [(reg .la R.CE_Ai_OUTLIM.MAX 100 (reg .la R.CE_Ai_CFG.OP 7 ((up.modArith .a 5 fun a => { a with ready := some 900000, pend := some 7 }).modCe .a fun c => { c with src := [(0x40, 3000), (0x41, 70)] }) (i := 5)) (i := 5) |> reg .la R.CE_Ai_IN.A 0x40 (i := 5) |> reg .la R.CE_Ai_IN.B 0x41 (i := 5), .a, 5, 900000),
     (reg .la R.CE_Ai_OUTLIM.MAX 100 (reg .la R.CE_Ai_CFG.OP 4 ((up.modArith .a 5 fun a => { a with ready := some 900000 }).modCe .a fun c => { c with src := [(0x40, 3000), (0x41, 70)] }) (i := 5)) (i := 5) |> reg .la R.CE_Ai_IN.A 0x40 (i := 5) |> reg .la R.CE_Ai_Kj.K 0x7FFFFFFF (i := 5) (j := 0) |> reg .la R.CE_Ai_Kj.K 9 (i := 5) (j := 3), .a, 5, 900000)]) ∧
  (holds5 (fun (s : State) (l : Lane) (_ : Fin 24) (_ : BitVec 32) (_ : BitVec 16) =>
    s.canonical = true ∧ s.alive l = true)
    [(up, .b, 23, 5, 0xFFFF)]) :=
  ⟨by decide, by decide, by decide, by decide, by decide, by decide, by decide, by decide⟩

theorem witness_TallyTimersAndNvmRequestsAct :
  (holds5 (fun (s : State) (l : Lane) (id : Fin 64) (e : TalEntry) (code : OutcomeCode) =>
    s.canonical = true ∧ s.alive l = true ∧ (s.tal l).find id = some e ∧ e.job = .plain ∧ ownEnd e = false ∧
    e.st ≠ .waiting ∧ queueAllows e.queue code = true ∧
    (code = .done ∧ e.started = true ∨ code = .failedNoack ∨ code = .failedMedia) ∧ (s.tal l).ring.length < 128 ∧
    e.queue < 16)
    [(tally .a [ent 7 5 .active] up, .a, 7, (ent 7 5 .active), .done),
     (tally .a [ent 7 5 .active, ent 8 5 .waiting] up, .a, 7, (ent 7 5 .active), .failedNoack)]) ∧
  (holds4 (fun (s : State) (l : Lane) (id : Fin 64) (e : TalEntry) =>
    s.canonical = true ∧ s.alive l = true ∧ (s.tal l).find id = some e ∧ e.job = .plain ∧
    (s.tal l).ring.length < 128 ∧ e.queue < 16)
    [(tally .a [ent 7 5 .waiting] up, .a, 7, (ent 7 5 .waiting)),
     (tally .a [ent 7 7 .active] up, .a, 7, (ent 7 7 .active))]) ∧
  (holds4 (fun (s : State) (l : Lane) (id : Fin 64) (e : TalEntry) =>
    s.canonical = true ∧ s.alive l = true ∧ (s.tal l).find id = some e ∧ e.missed = false)
    [(tally .a [ent 7 15 .waiting] up, .a, 7, (ent 7 15 .waiting))]) ∧
  (holds4 (fun (s : State) (l : Lane) (r : OutRec) (rest : List OutRec) =>
    s.canonical = true ∧ s.alive l = true ∧ (s.tal l).ring = r :: rest)
    [(up.modTal .a fun t => { t with ring := [⟨1, 2, 3, true, 4, 5⟩] }, .a, ⟨1, 2, 3, true, 4, 5⟩, [])]) ∧
  (holds2 (fun (s : State) (l : Lane) =>
    s.canonical = true ∧ s.alive l = true ∧ (s.tal l).ring = [])
    [(up, .a)]) ∧
  (holds4 (fun (s : State) (l : Lane) (n : Fin 8) (e : Nat) =>
    s.canonical = true ∧ s.alive l = true ∧ s.timEnd l n = some e ∧ (n ≠ 7 ∨ (s.run l).sup.tim7 = false))
    [(up.modTim .a 7 fun x => { x with start := some 990000, load := 400, unit := 100 }, .a, 7, 1030000),
     (reg .la R.TIM_Tn_CFG.PERIODIC 1 (up.modTim .a 0 fun x => { x with start := some 990000, load := 400, unit := 100 }) (i := 0), .a, 0, 1030000)]) ∧
  (holds3 (fun (s : State) (l : Lane) (who : Initiator) =>
    s.canonical = true ∧ s.canAccess l who = true)
    [(up, .a, .ap),
     (up |> reg .la R.NVM_REQ_AREA.AREA 3, .a, .ap),
     (up |> reg .la R.NVM_REQ_AREA.AREA 3 |> reg .la R.NVM_REQ_LEN.LEN 512 |> reg .la R.NVM_REQ_SRC.ADDR 0x20000000 |> reg .la R.NVM_STATUS.EMMC_READY 1 |> reg .la R.NVM_REQ_DEADLINE_LO.DL 5000000, .a, .cp)]) :=
  ⟨by decide, by decide, by decide, by decide, by decide, by decide, by decide⟩

theorem witness_TimeIsKeptAcrossLanesAndNetwork :
  (holds3 (fun (s : State) (l : Lane) (n : Nat) =>
    s.canonical = true ∧ (s.run l).phase = .starting n ∧ 3 < n ∧ n ≤ 11 ∧ (s.run l).clk.t0.isSome = true)
    [(up.modRun .a fun r => { r with phase := .starting 11 }, .a, 11),
     (reg .la R.TIM_PARTNER_STAT.VALID 1 (reg .la R.TIM_PARTNER_STAT.AGE 10 (up.modRun .a fun r => { r with phase := .starting 4 })), .a, 4)]) ∧
  (holds5 (fun (s : State) (l : Lane) (_ t1 t2 : Nat) =>
    s.canonical = true ∧ s.domains l = true ∧ s.domains l.other = true ∧ s.past l 17 = false ∧
    (s.run l.other).clk.heard = some (t2, t1))
    [((up.modRun .b fun r => { r with clk := { r.clk with heard := some (1000, 900) } }).modRun .a fun r => { r with phase := .starting 12 }, .a, 5, 900, 1000)]) ∧
  (holds8 (fun (s : State) (l : Lane) (m : Fin 2) (_ _ _ : Nat) (_ : BitVec 8) (_ : Fin 2) =>
    s.canonical = true ∧ s.asRuns l m = true ∧ s.on (laneDie l) R.ETHm_AS_STATUS.AS_CAPABLE m = true ∧
    s.on (laneDie l) R.ETHm_AS_STATUS.GM_PRESENT m = true ∧
    (m = 0 ∨ s.on (laneDie l) R.ETHm_AS_STATUS.SYNCED 0 = false))
    [(reg .la R.ETHm_AS_CFG.AS_EN 1 (reg .la R.ETHm_CFG.EN 1 (reg .la R.ETHm_LINK.UP 1 (reg .la R.ETHm_AS_STATUS.AS_CAPABLE 1 (reg .la R.ETHm_AS_STATUS.GM_PRESENT 1 up (i := 1)) (i := 1)) (i := 1)) (i := 1)) (i := 1), .a, 1, 1000000000, 5, 100000, 0xFD, 1)]) ∧
  (holds3 (fun (s : State) (l : Lane) (m : Fin 2) =>
    s.canonical = true ∧ s.past l 17 = true ∧ s.on (laneDie l) R.ETHm_AS_STATUS.SYNCED m = true)
    [(reg .la R.ETHm_AS_STATUS.SYNCED 1 (reg .la R.ETHm_AS_STATUS.LOG_SYNC 0xFD up), .a, 0)]) ∧
  (holds3 (fun (s : State) (l : Lane) (m : Fin 2) =>
    s.canonical = true ∧ s.asRuns l m = true)
    [(reg .la R.ETHm_AS_CFG.AS_EN 1 (reg .la R.ETHm_CFG.EN 1 (reg .la R.ETHm_LINK.UP 1 up)), .a, 0)]) ∧
  (holds6 (fun (s : State) (l : Lane) (m : Fin 2) (_ : BitVec 16) (_ : BitVec 32) (_ : Bool) =>
    s.canonical = true ∧ s.asRuns l m = true)
    [(reg .la R.ETHm_AS_CFG.AS_EN 1 (reg .la R.ETHm_CFG.EN 1 (reg .la R.ETHm_LINK.UP 1 up)), .a, 0, 7, 800, true)]) :=
  ⟨by decide, by decide, by decide, by decide, by decide, by decide⟩

theorem witness_ResolversAndSentReport :
  (holds4 (fun (s : State) (l : Lane) (n : Fin 2) (_ : Int × Int × Int × Int) =>
    s.canonical = true ∧ s.past l 11 = true ∧ s.on (laneDie l) R.POS_RESn_CFG.EN n = true)
    [(reg .la R.POS_RESn_CFG.EN 1 (up.modRes .a 1 fun x => { x with clip := true }) (i := 1), .a, 1, (1, 2, 3, 4)),
     (reg .la R.ADC_Gg_CFG.DEST 3 (reg .la R.ADC_Gg_CFG.MODE 2 (reg .la R.POS_RESn_CFG.GROUP 4 (reg .la R.POS_RESn_CFG.EN 1 up (i := 1)) (i := 1)) (i := 4)) (i := 4), .a, 1, (0, 0, 0, 0))]) ∧
  (holds3 (fun (s : State) (l : Lane) (n : Fin 2) =>
    s.canonical = true ∧ s.past l 11 = true ∧ s.on (laneDie l) R.POS_RESn_CFG.EN n = true)
    [(reg .la R.POS_RESn_CFG.EN 1 (up.modRes .a 0 fun x => { x with lastS := 5, lastC := 1, lastQ := 9 }), .a, 0),
     (reg .la R.POS_RESn_CFG.EN 1 (up.modRes .a 0 fun x => { x with lastS := 5, lastC := 1, lastQ := -9 }), .a, 0),
     (reg .la R.POS_RESn_CFG.CORR_FREEZE 1 (reg .la R.POS_RESn_CFG.EN 1 up (i := 1)) (i := 1), .a, 1)]) ∧
  (holds9 (fun (s : State) (l : Lane) (n : Fin 4) (T st crc pause q : Nat) (data : List Nat) =>
    s.canonical = true ∧ s.past l 11 = true ∧ s.on (laneDie l) R.POS_SENTs_CFG.EN n = true ∧
    ((s.run l).pos.sent[n]).sync = some q ∧ 64 * (56 * T) ≤ 65 * q ∧ 63 * q ≤ 64 * (56 * T) ∧
    8 * (56 * 40 * clampN 30 900 (s.rd (laneDie l) R.POS_SENTs_CFG.TICK n)) ≤ 10 * (56 * T) ∧
    10 * (56 * T) ≤ 12 * (56 * 40 * clampN 30 900 (s.rd (laneDie l) R.POS_SENTs_CFG.TICK n)) ∧
    data.length = clampN 1 6 (s.rd (laneDie l) R.POS_SENTs_CFG.NIBBLES n) ∧ (∀ v ∈ st :: crc :: data, v < 16) ∧
    12 ≤ pause ∧ pause ≤ 768)
    [(reg .la R.POS_SENTs_CFG.TICK 30 (reg .la R.POS_SENTs_CFG.NIBBLES 6 (reg .la R.POS_SENTs_CFG.EN 1 (up.modPos .a fun p => { p with sent := upd p.sent 3 fun c => { c with sync := some (56 * 1200) } }) (i := 3)) (i := 3)) (i := 3), .a, 3, 1200, 9, (sentCrc false [1, 2, 3, 4, 5, 15]), 12, (56 * 1200), [1, 2, 3, 4, 5, 15]),
     (reg .la R.POS_SENTs_CFG.PAUSE 1 (reg .la R.POS_SENTs_CFG.TICK 30 (reg .la R.POS_SENTs_CFG.NIBBLES 1 (reg .la R.POS_SENTs_CFG.EN 1 (up.modPos .a fun p => { p with sent := upd p.sent 3 fun c => { c with sync := some (56 * 1200) } }) (i := 3)) (i := 3)) (i := 3)) (i := 3), .a, 3, 1200, 9, ((sentCrc false [1] + 1) % 16), 768, (56 * 1200), [1])]) ∧
  (holds3 (fun (s : State) (l : Lane) (n : Fin 4) =>
    s.canonical = true ∧ s.on (laneDie l) R.POS_SENTs_STATUS.VALID n = true)
    [(reg .la R.POS_SENTs_STATUS.VALID 1 (reg .la R.POS_SENTs_LIMIT.STALE_TIME 60000 up (i := 2)) (i := 2), .a, 2)]) :=
  ⟨by decide, by decide, by decide, by decide⟩

theorem witness_PulseTrainsCountAndReference :
  (holds7 (fun (s : State) (l : Lane) (p : Fin 6) (mode _ stable : Nat) (_ : BitVec 2) =>
    s.canonical = true ∧ s.past l 11 = true ∧ s.ptMode l p = some mode ∧ s.ptAccepts l p stable = true)
    [(reg .la R.POS_PTp_CFG.EN 1 up (i := 5), .a, 5, 0, 4000, 4, 1),
     (reg .la R.POS_PTp_CFG.EN 1 up (i := 5), .a, 5, 0, 4000, 4, 3),
     (reg .la R.POS_PTp_FILT.DIR_SETUP 9 (reg .la R.POS_PTp_CFG.MODE 1 (reg .la R.POS_PTp_CFG.EN 1 (up.modPt .a 5 fun x => { x with bAge := some 2 }) (i := 5)) (i := 5)) (i := 5), .a, 5, 1, 7, 9, 1),
     (reg .la R.POS_PTp_CFG.MODE 2 (reg .la R.POS_PTp_CFG.EN 1 up (i := 5)) (i := 5), .a, 5, 2, 4000, 1, 1)]) ∧
  (holds5 (fun (s : State) (l : Lane) (p : Fin 6) (_ : Fin 3) (gap : Nat) =>
    s.canonical = true ∧ s.past l 11 = true ∧ (s.ptMode l p).isSome = true ∧ s.ptAccepts l p gap = false)
    [(reg .la R.POS_PTp_FILT.MIN_EDGE 200 (reg .la R.POS_PTp_CFG.GLITCH_ERR 1 (reg .la R.POS_PTp_CFG.EN 1 up)), .a, 0, 0, 199),
     (reg .la R.POS_PTp_CFG.EN 1 up, .a, 0, 2, 0)]) ∧
  (holds5 (fun (s : State) (l : Lane) (p : Fin 6) (stable : Nat) (_ : Bool) =>
    s.canonical = true ∧ s.past l 11 = true ∧ (s.ptMode l p).isSome = true ∧ s.ptAccepts l p stable = true)
    [(reg .la R.POS_PTp_CFG.Z_EN 1 (reg .la R.POS_PTp_CFG.Z_RESET 1 (reg .la R.POS_PTp_CFG.EN 1 up)), .a, 0, 1, true),
     (reg .la R.POS_PTp_CFG.Z_EN 1 (reg .la R.POS_PTp_CFG.MODE 1 (reg .la R.POS_PTp_CFG.EN 1 (up.modPt .a 0 fun x => { x with count := 7, ref := some 9 }))), .a, 0, 1, true),
     (reg .la R.POS_PTp_CFG.Z_EN 1 (reg .la R.POS_PTp_CFG.Z_QUAL 1 (reg .la R.POS_PTp_CFG.EN 1 up)), .a, 0, 1, true)]) ∧
  (holds4 (fun (s : State) (l : Lane) (p : Fin 6) (_ : Nat) =>
    s.canonical = true ∧ s.past l 11 = true ∧ (s.ptMode l p).isSome = true ∧
    s.on (laneDie l) R.POS_PTp_STATUS.ZERO_SPEED p = false ∧ s.rd (laneDie l) R.POS_PTp_SPEED.SPEED p ≠ 0)
    [(reg .la R.POS_PTp_SCALE.COUNTS 1024 (reg .la R.POS_PTp_SPEED.SPEED 5 (reg .la R.POS_PTp_CFG.EN 1 (up.modPt .a 0 fun x => { x with angle := 7, period := 4000 }))), .a, 0, 2000),
     (reg .la R.POS_PTp_SCALE.COUNTS 60 (reg .la R.POS_PTp_SPEED.SPEED 5 (reg .la R.POS_PTp_STATUS.SYNC twSync (reg .la R.POS_PTp_TW.MISSING 2 (reg .la R.POS_PTp_CFG.MODE 2 (reg .la R.POS_PTp_CFG.EN 1 (up.modPt .a 0 fun x => { x with angle := 7, period := 4000, idx := 57 })))))), .a, 0, 9000)]) ∧
  (holds4 (fun (s : State) (l : Lane) (p : Fin 6) (mode : Nat) =>
    s.canonical = true ∧ s.past l 11 = true ∧ s.ptMode l p = some mode)
    [(reg .la R.POS_PTp_STATUS.SYNC twSync (reg .la R.POS_PTp_CFG.MODE 2 (reg .la R.POS_PTp_CFG.EN 1 up (i := 5)) (i := 5)) (i := 5), .a, 5, 2)]) :=
  ⟨by decide, by decide, by decide, by decide, by decide⟩

theorem witness_PreDriversConfirmAndProtect :
  (holds5 (fun (s : State) (l : Lane) (n : Fin 16) (hi : Bool) (v : BitVec 8) =>
    s.canonical = true ∧ (s.pap l).powered = true ∧ (if hi then (s.hb l n).gateHi else (s.hb l n).gateLo) = true ∧
    v.toNat < 40 + 5 * s.rd (papDie l) R.PAP_HBn_CFG.VON n)
    [(up.modHb .b 15 fun h => { h with gateLo := true, edgeAt := some 999999 }, .b, 15, false, 39)]) ∧
  (holds4 (fun (s : State) (l : Lane) (n : Fin 16) (hi : Bool) =>
    s.canonical = true ∧ (s.pap l).powered = true ∧ (s.hb l n).refresh = 0 ∧ (s.hb l n).waits hi = true)
    [(up.modHb .a 0 fun h => { h with wantHi := true, hiAt := 1024000000 }, .a, 0, true)]) ∧
  (holds6 (fun (s : State) (l : Lane) (n : Fin 16) (hi : Bool) (v : BitVec 8) (held : Nat) =>
    s.canonical = true ∧ s.pdOpen l = true ∧ 2 * v.toNat ≤ 10 + 5 * s.rd (papDie l) R.PAP_HBn_CFG.VOFF n ∧
    s.rd (papDie l) R.PAP_HBn_CFG.T_CONF n ≤ held ∧
    s.steps ≤ (if hi then (s.hb l n).hiAt else (s.hb l n).loAt) + 1024 * (orOne (s.rd (papDie l) R.PAP_HBn_CFG.T_WAIT n) : Int) ∧
    (s.hb l n).refresh = 0 ∧ (s.hb l n).waits hi = true ∧
    (if hi then (s.hb l n).gateLo else (s.hb l n).gateHi) = false)
    [(up.modHb .a 0 fun h => { h with wantLo := true, loAt := 1024000000 }, .a, 0, false, 5, 0),
     (up.modHb .a 0 fun h => { h with wantHi := true, hiAt := 1024000512 }, .a, 0, true, 5, 0)]) ∧
  (holds4 (fun (s : State) (l : Lane) (n : Fin 16) (bst : BitVec 8) =>
    s.canonical = true ∧ (s.pap l).powered = true ∧ s.on (papDie l) R.PAP_HBn_CFG.EN n = true ∧ bst.toNat < 70)
    [(reg .pa R.PAP_HBn_CFG.EN 1 (up.modHb .a 7 fun h => { h with wantHi := true, gateHi := true }) (i := 7), .a, 7, 69)]) ∧
  (holds4 (fun (s : State) (l : Lane) (n : Fin 16) (_ : BitVec 8) =>
    s.canonical = true ∧ (s.pap l).powered = true ∧ s.on (papDie l) R.PAP_HBn_CFG.EN n = true)
    [(reg .pa R.PAP_HBn_CFG.EN 1 up (i := 7), .a, 7, 79),
     (reg .pa R.PAP_HBn_CFG.EN 1 up (i := 7), .a, 7, 80)]) ∧
  (holds5 (fun (s : State) (l : Lane) (n : Fin 16) (_ _ : Bool) =>
    s.canonical = true ∧ (s.pap l).powered = true ∧ s.alive l = true ∧
    s.on (papDie l) R.PAP_HBn_STATUS.SHORT n = true ∧ s.on (papDie l) R.PAP_HBn_STATUS.BST_UV n = true)
    [(reg .pa R.PAP_HBn_STATUS.BST_UV 1 (reg .pa R.PAP_HBn_STATUS.SHORT 1 up (i := 7)) (i := 7), .a, 7, true, true),
     (reg .pa R.PAP_HBn_STATUS.BST_LOW 1 (reg .pa R.PAP_HBn_STATUS.BST_UV 1 (reg .pa R.PAP_HBn_STATUS.SHORT 1 (up.modHb .a 7 fun h => { h with clears := [3, 2, 1] }) (i := 7)) (i := 7)) (i := 7), .a, 7, true, true)]) :=
  ⟨by decide, by decide, by decide, by decide, by decide, by decide⟩

theorem witness_TimebasesTransferAndTripsForce :
  (holds4 (fun (s : State) (l : Lane) (t : Fin 8) (x : Int) =>
    s.canonical = true ∧ (s.tb l t).next = some x ∧ s.on (laneDie l) R.PWM_TBt_STATUS.RUN t = true)
    [(reg .la R.PWM_TBt_STATUS.RUN 1 (up.modTb .a 3 fun p => { p with p := 100, top := 100, next := some 1024000100 }) (i := 3), .a, 3, 1024000100),
     (reg .la R.PWM_TBt_STATUS.COMMIT_PEND 1 (reg .la R.PWM_TBt_STATUS.RUN 1 (reg .la R.PWM_TBt_PERIOD.P 200 (up.modTb .a 3 fun p => { p with p := 100, top := 100, next := some 1024000100 }) (i := 3)) (i := 3)) (i := 3), .a, 3, 1024000100),
     (reg .la R.PWM_TBt_STATUS.DIRTY 1 (reg .la R.PWM_TBt_STATUS.RUN 1 (up.modTb .a 3 fun p => { p with p := 100, top := 100, next := some 1024000100 }) (i := 3)) (i := 3), .a, 3, 1024000100)]) ∧
  (holds3 (fun (s : State) (l : Lane) (_ : Fin 8) =>
    s.canonical = true ∧ s.alive l = true)
    [(reg .la R.PWM_CHc_CFG.TB 3 (reg .la R.PWM_TBt_STATUS.DIRTY 1 ((up.modTb .a 3 fun p => { p with p := 100, phase := 7 }).modCh .a 63 fun k => { k with on := 5, off := 50 }) (i := 3)) (i := 63), .a, 3)]) ∧
  (holds4 (fun (s : State) (l : Lane) (t : Fin 8) (ph : Nat) =>
    s.canonical = true ∧ s.on (laneDie l) R.PWM_TBt_STATUS.RUN t = true ∧ s.syncs l t = true ∧ 0 < (s.tb l t).sent ∧
    (s.on (laneDie l) R.PWM_TBt_CFG.PHASE_SLOT_EN t = false → ph = (s.tb l t).phase) ∧
    (s.on (laneDie l) R.PWM_TBt_CFG.PHASE_SLOT_EN t = true →       2 ^ 30 * (2 * (ph : Int) - 1) < 2 * (clampI 0 (2 ^ 30 - 1) (s.rdS (laneDie l) R.CE_Ai_OUT.Y         (s.rd (laneDie l) R.PWM_TBt_CFG.PHASE_SLOT t)) * ((s.tb l t).p : Int) * 512) ∧       2 * (clampI 0 (2 ^ 30 - 1) (s.rdS (laneDie l) R.CE_Ai_OUT.Y         (s.rd (laneDie l) R.PWM_TBt_CFG.PHASE_SLOT t)) * ((s.tb l t).p : Int) * 512) < 2 ^ 30 * (2 * (ph : Int) + 1)))
    [(reg .la R.PWM_TBt_CFG.SYNC 1 (reg .la R.PWM_TBt_STATUS.RUN 1 (up.modTb .a 3 fun p => { p with p := 100, top := 100, phase := 512 * 7, sent := 1 }) (i := 3)) (i := 3), .a, 3, 3584),
     (reg .la R.CE_Ai_OUT.Y 536870912 (reg .la R.PWM_TBt_CFG.PHASE_SLOT_EN 1 (reg .la R.PWM_TBt_CFG.SYNC 1 (reg .la R.PWM_TBt_STATUS.RUN 1 (up.modTb .a 3 fun p => { p with p := 100, top := 100, sent := 1, start := 1024000000 - 512 * 50 }) (i := 3)) (i := 3)) (i := 3)), .a, 3, 25600)]) ∧
  (holds4 (fun (s : State) (l : Lane) (c : Fin 64) (en : Bool) =>
    s.canonical = true ∧ s.alive l = true ∧ s.on (laneDie l) R.PWM_CHc_CFG.EN c = !en)
    [(up, .a, 63, true),
     (reg .la R.PWM_CHc_CFG.EN 1 (up.modCh .a 63 fun k => { k with hi := some 5, level := true }) (i := 63), .a, 63, false),
     (reg .la R.PWM_CHc_CFG.TG 5 (reg .la R.PWM_STATUS.TG_ACTIVE 0x20 up) (i := 63), .a, 63, true)]) ∧
  (holds3 (fun (s : State) (l : Lane) (_ : Fin 64) =>
    s.canonical = true ∧ s.past l 11 = true)
    [(reg .la R.PWM_CHc_CFG.TG 15 (reg .la R.PWM_CHc_CFG.EN 1 (reg .la R.PWM_TSRCs_CFG.MASK 0x8001 up (i := 63)) (i := 9)) (i := 9), .a, 63),
     (reg .la R.PWM_STATUS.TG_ACTIVE 0x10 (reg .la R.PWM_TSRC_ACTIVE_LO.SRC 0x80000000 (reg .la R.PWM_TSRCs_CFG.MASK 0x10 up (i := 31))), .a, 31)]) ∧
  (holds4 (fun (s : State) (l : Lane) (groups : BitVec 16) (g : Fin 16) =>
    s.canonical = true ∧ s.past l 11 = true ∧ bit groups.toNat g = true)
    [(reg .la R.PWM_CHc_CFG.TG 15 (reg .la R.PWM_CHc_CFG.EN 1 up (i := 9)) (i := 9), .a, 0x8000, 15),
     (up, .a, 0x8001, 0)]) ∧
  (holds4 (fun (s : State) (l : Lane) (groups : BitVec 16) (g : Fin 16) =>
    s.canonical = true ∧ s.past l 11 = true ∧ bit groups.toNat g = true ∧
    s.rdBit (laneDie l) R.PWM_TG_LATCHED.LATCHED g = true)
    [(reg .la R.PWM_CHc_CFG.TG 15 (reg .la R.PWM_CHc_STATUS.TRIPPED 1 (reg .la R.PWM_TG_LATCHED.LATCHED 0x8000 up) (i := 9)) (i := 9), .a, 0x8000, 15),
     (reg .la R.PWM_TSRC_ACTIVE_LO.SRC 1 (reg .la R.PWM_TSRCs_CFG.MASK 0x8000 (reg .la R.PWM_TG_LATCHED.LATCHED 0x8001 up)), .a, 0x8001, 15)]) ∧
  (holds4 (fun (s : State) (l : Lane) (b : Fin 16) (e : Int) =>
    s.canonical = true ∧ (s.run l).pwm.windows[b] = some e)
    [(reg .la R.PWM_TSRC_ACTIVE_LO.SRC 1 (reg .la R.PWM_TSRCs_CFG.BLANK_EN 1 (reg .la R.PWM_TSRCs_CFG.BT 15 (reg .la R.PWM_TSRCs_CFG.MASK 2 (up.modPwm .a fun p => { p with windows := upd p.windows 15 fun _ => some 1024000001 })))), .a, 15, 1024000001)]) :=
  ⟨by decide, by decide, by decide, by decide, by decide, by decide, by decide, by decide⟩

theorem witness_ChannelsIssueEdgesAndAreTakenOver :
  (holds5 (fun (s : State) (l : Lane) (c : Fin 64) (on : Bool) (x : Int) =>
    s.canonical = true ∧ s.on (laneDie l) R.PWM_CHc_CFG.EN c = true ∧ s.engineDriven l c = false ∧
    (s.ch l c).started = true ∧
    (match (s.ch l c).late.find? fun e => e.2 == on with       | some e => some e.1       | none => if on then (s.ch l c).onAt else (s.ch l c).offAt) = some x ∧
    s.on (laneDie l) R.PWM_CHc_STATUS.TRIPPED c = false ∧ (s.ch l c).level = !on ∧
    (s.on (laneDie l) R.PWM_CHc_CFG.COMPL c = true ∨ on = false ∨ s.partnerCh l c ≠ some c ∧ s.simultaneous l c x = none))
    [(reg .la R.PWM_CHc_CFG.COMPL 1 (reg .la R.PWM_CHc_CFG.EN 1 (up.modCh .a 63 fun k => { k with started := true, onAt := some 1024000000 }) (i := 63)) (i := 63), .a, 63, true, 1024000000),
     (reg .la R.PWM_CHc_CFG.EN 1 (up.modCh .a 63 fun k => { k with started := true, level := true, minp := 4, lastEdge := some 1023999000, late := [(1024000000, false)] }) (i := 63), .a, 63, false, 1024000000)]) ∧
  (holds5 (fun (s : State) (l : Lane) (c : Fin 64) (x : Int) (lv : Bool) =>
    s.canonical = true ∧ s.on (laneDie l) R.PWM_CHc_CFG.EN c = true ∧ s.engineDriven l c = true ∧
    (s.ch l c).started = true ∧ (s.ch l c).eng = some (x, lv) ∧
    (s.on (laneDie l) R.PWM_CHc_CFG.COMPL c = true ∨ lv = false ∨ s.partnerCh l c ≠ some c ∧ s.simultaneous l c x = none))
    [(reg .la R.CE_Bn_CFG.PWM_CH 63 (reg .la R.CE_Bn_STATUS.STATE bandTrack (reg .la R.PWM_CHc_CFG.ENGINE 1 (reg .la R.PWM_CHc_CFG.COMPL 1 (reg .la R.PWM_CHc_CFG.EN 1 (up.modCh .a 63 fun k => { k with started := true, eng := some (1024000000, true) }) (i := 63)) (i := 63)) (i := 63))), .a, 63, 1024000000, true),
     (reg .la R.CE_Bn_CFG.PWM_CH 63 (reg .la R.CE_Bn_STATUS.STATE bandTrack (reg .la R.PWM_CHc_STATUS.TRIPPED 1 (reg .la R.PWM_CHc_CFG.ENGINE 1 (reg .la R.PWM_CHc_CFG.COMPL 1 (reg .la R.PWM_CHc_CFG.EN 1 (up.modCh .a 63 fun k => { k with started := true, eng := some (1024000000, true) }) (i := 63)) (i := 63)) (i := 63)) (i := 63))), .a, 63, 1024000000, true),
     (reg .la R.CE_Bn_CFG.PWM_CH 63 (reg .la R.CE_Bn_STATUS.STATE bandTrack (reg .la R.PWM_CHc_FILT.STRETCH 1 (reg .la R.PWM_CHc_CFG.ENGINE 1 (reg .la R.PWM_CHc_CFG.EN 1 (up.modCh .a 63 fun k => { k with started := true, minp := 4, level := true, lastEdge := some 1023999999, eng := some (1024000000, false) }) (i := 63)) (i := 63)) (i := 63))), .a, 63, 1024000000, false),
     (reg .la R.CE_Bn_CFG.PWM_CH 63 (reg .la R.CE_Bn_STATUS.STATE bandTrack (reg .la R.PWM_CHc_CFG.ENGINE 1 (reg .la R.PWM_CHc_CFG.EN 1 (up.modCh .a 63 fun k => { k with started := true, minp := 4, level := true, lastEdge := some 1023999999, eng := some (1024000000, false) }) (i := 63)) (i := 63))), .a, 63, 1024000000, false)]) ∧
  (holds3 (fun (s : State) (l : Lane) (t : Fin 8) =>
    s.canonical = true ∧ s.granted l = true ∧ s.on (laneDie l) R.PWM_GRANT.GRANTED = true ∧ s.shared l t = true)
    [(up |> reg .ds R.DSP_GRANT.STATE (grantCode .a) |> reg .la R.PWM_GRANT.GRANTED 1 |> reg .la R.PWM_SHARED.TB 0x80, .a, 7),
     ((up |> reg .ds R.DSP_GRANT.STATE (grantCode .a) |> reg .la R.PWM_GRANT.GRANTED 1 |> reg .la R.PWM_SHARED.TB 0x80 |> fun (s : State) => { s with mux := { s.mux with tbs := upd s.mux.tbs 7 fun _ => some { muxTb0 with phase := 3, start := 1024000000 - 512 * 30 } } }).modTb .a 7 fun p => { p with p := 100, top := 100 }, .a, 7)]) ∧
  (holds3 (fun (s : State) (l : Lane) (c : Fin 64) =>
    s.canonical = true ∧ s.heldQuiet l c = true ∧ s.awaitsTake l c = true ∧
    (∀ m ∈ s.mux.chs[c], m.level = (s.ch l c).level))
    [(reg .la R.PWM_CHc_CFG.TB 7 (reg .la R.PWM_CHc_CFG.EN 1 ((up |> reg .ds R.DSP_GRANT.STATE (grantCode .a) |> reg .la R.PWM_SHARED.TB 0x80 |> reg .la R.PWM_GRANT.ALIGNED 0x80 |> fun (s : State) => { s with mux := { s.mux with chs := upd s.mux.chs 63 fun _ => some muxCh0 } })) (i := 63)) (i := 63), .a, 63)]) ∧
  (holds3 (fun (s : State) (l : Lane) (c : Fin 64) =>
    s.canonical = true ∧ (s.advTo ((s.run l).link.grantAt + 22 * us)).heldQuiet l c = true ∧ s.awaitsTake l c = true)
    [(reg .la R.PWM_CHc_CFG.TB 7 (reg .la R.PWM_CHc_CFG.EN 1 ((up |> reg .ds R.DSP_GRANT.STATE (grantCode .a) |> reg .la R.PWM_SHARED.TB 0x80 |> reg .la R.PWM_GRANT.ALIGNED 0x80 |> fun (s : State) => { s with mux := { s.mux with chs := upd s.mux.chs 63 fun _ => some { muxCh0 with level := true } } })) (i := 63)) (i := 63), .a, 63)]) :=
  ⟨by decide, by decide, by decide, by decide, by decide⟩

theorem witness_HoistTrainingStepsProceedAndEnd :
  (holds4 (fun (s : State) (n : Fin 40) (_ : Noise) (st : Fin 8) =>
    (s.link n).phase = .training st false)
    [(up.modLink 39 fun k => { k with phase := .training 2 false, cfg := { k.cfg with sc := 0x01020304 }, head := { k.head with phase := .run, on := true } }, 39, {}, 2),
     (up.modLink 39 fun k => { k with phase := .training 3 false, stepAt := 1000000, cfg := { k.cfg with gate := 0x000A0014 } }, 39, {}, 3),
     (up.modLink 39 fun k => { k with phase := .training 4 false, cfg := { k.cfg with lossAct := true } }, 39, {}, 4),
     (up.modLink 39 fun k => { k with phase := .training 7 false }, 39, {}, 7),
     (up.modLink 0 fun k => { k with phase := .training 5 false }, 0, { flips := [0, 1] }, 5),
     (up.modLink 0 fun k => { k with phase := .training 5 false }, 0, {}, 5)]) ∧
  (holds4 (fun (s : State) (n : Fin 40) (_ : Noise) (_ : List (Fin 3 × Nat)) =>
    s.canonical = true ∧ (s.link n).phase = .training 6 false)
    [(up.modLink 39 fun k => { k with phase := .training 6 false }, 39, {}, [(0, 50), (2, 800), (1, 800), (0, 800)]),
     ((fun s : State => { s with hoist := { s.hoist with lock := some .b } }) (up.modLink 39 fun k => { k with phase := .training 6 false }), 39, {}, [(2, 800), (1, 799), (0, 800)])]) ∧
  (holds4 (fun (s : State) (n : Fin 40) (_ : Noise) (st : Fin 8) =>
    s.canonical = true ∧ (s.link n).phase = .training st true ∧ st ≠ 0 ∧ st ≠ 6)
    [(up.modLink 39 fun k => { k with phase := .training 2 true, attempts := 99 }, 39, {}, 2),
     ((fun s : State => { s with hoist := { s.hoist with lock := some .b } }) (up.modLink 39 fun k => { k with phase := .training 3 true, attempts := 2 }), 39, {}, 3),
     ((fun s : State => { s with hoist := { s.hoist with lock := some .b } }) (up.modLink 39 fun k => { k with phase := .training 3 true, attempts := 3 }), 39, {}, 3),
     (up.modLink 39 fun k => { k with phase := .training 7 true, attempts := 1 }, 39, {}, 7)]) ∧
  (holds5 (fun (s : State) (n : Fin 40) (st : Fin 8) (f : UplinkFrame) (p : List Nat) =>
    s.monitors n = true ∧ uplinkBody f = some (0x31, p) ∧ (s.link n).phase = .training st true ∧
    ((st = 2 ∧ p.getD 0 0 = 1) ∨ (st = 3 ∧ p.getD 0 0 = 2) ∨ (st = 4 ∧ p.getD 0 0 = 3) ∨ (st = 7 ∧ p.getD 0 0 = 6)))
    [(up.modLink 39 fun k => { k with phase := .training 4 true, cfg := { k.cfg with en := true } }, 39, 4, (upFrame 0x31 [3]), [3]),
     (up.modLink 39 fun k => { k with phase := .training 7 true, cfg := { k.cfg with en := true } }, 39, 7, (upFrame 0x31 [6]), [6])]) ∧
  (holds5 (fun (s : State) (n : Fin 40) (f : UplinkFrame) (p : List Nat) (_ : Bool) =>
    s.canonical = true ∧ s.monitors n = true ∧ uplinkBody f = some (0x30, p) ∧ (s.link n).phase = .training 5 true)
    [(up.modLink 39 fun k => { k with phase := .training 5 true, cfg := { k.cfg with en := true, sc := 0x04030201, gate := 7 } }, 39, (upFrame 0x30 [1, 2, 3, 4, 7, 0, 0, 0]), [1, 2, 3, 4, 7, 0, 0, 0], true),
     ((fun s : State => { s with hoist := { s.hoist with lock := some .a } }) (up.modLink 39 fun k => { k with phase := .training 5 true, cfg := { k.cfg with en := true } }), 39, (upFrame 0x30 [1, 0, 0, 0, 0, 0, 0, 0]), [1, 0, 0, 0, 0, 0, 0, 0], true)]) ∧
  (holds5 (fun (s : State) (n : Fin 40) (f : UplinkFrame) (_ : Bool) (_ : Lane) =>
    s.canonical = true ∧ (s.monitors n = true → uplinkBody f = none))
    [(up.modLink 39 fun k => { k with cfg := { k.cfg with en := true } }, 39, { bytes := [0x7E, 0x31, 1, 3, 0] }, true, .b),
     (up, 39, (upFrame 0x31 [3]), true, .b)]) ∧
  (holds2 (fun (s : State) (l : Lane) =>
    s.canonical = true ∧ s.alive l = true)
    [(reg .lb R.HLK_LINKnn_CFG.EN 1 (reg .lb R.CFG_MODE.MODE modeService up) (i := 39), .b),
     (up, .b)]) ∧
  (holds2 (fun (s : State) (_ : Lane) =>
    s.canonical = true)
    [((fun s : State => { s with hoist := { s.hoist with lock := some .a } }) (up.modLink 39 fun k => { k with phase := .training 5 true }), .a),
     (up, .b)]) :=
  ⟨by decide +kernel, by decide +kernel, by decide +kernel, by decide +kernel, by decide +kernel, by decide +kernel, by decide +kernel, by decide +kernel⟩

theorem witness_StageFaultsLatchAndHeadsProtect :
  (holds5 (fun (s : State) (n : Fin 40) (l : Lane) (f : UplinkFrame) (p : List Nat) =>
    s.canonical = true ∧ s.alive l = true ∧ s.monitors n = true ∧ uplinkBody f = some (0x20, p) ∧
    (p.getD 0 0 = 1 ∨ p.getD 0 0 = 2 ∨ p.getD 0 0 = 3))
    [(up.modLink 39 fun k => { k with cfg := { k.cfg with en := true } }, 39, .b, (upFrame 0x20 [3, 200]), [3, 200]),
     (up.modLink 0 fun k => { k with cfg := { k.cfg with en := true } }, 0, .a, (upFrame 0x20 [1, 200]), [1, 200])]) ∧
  (holds3 (fun (s : State) (n : Fin 40) (l : Lane) =>
    s.canonical = true ∧ s.depOn = true ∧ s.alive l = true ∧ (s.link n).phase ≠ .static ∧ (s.link n).cfg.en = true)
    [(up.modLink 39 fun k => { k with phase := .run, lastStat := 1000000, cfg := { k.cfg with en := true } }, 39, .b)]) ∧
  (holds5 (fun (s : State) (n : Fin 40) (_ : Lane) (f : UplinkFrame) (p : List Nat) =>
    s.canonical = true ∧ s.monitors n = true ∧ uplinkBody f = some (0x10, p))
    [(up.modLink 39 fun k => { k with phase := .run, seq := some 15, cfg := { k.cfg with en := true } }, 39, .b, (upFrame 0x10 [200, 15, 3, 0]), [200, 15, 3, 0]),
     (up.modLink 39 fun k => { k with phase := .run, seq := some 14, cfg := { k.cfg with en := true } }, 39, .b, (upFrame 0x10 [0, 0xF0, 0xF3, 0]), [0, 0xF0, 0xF3, 0])]) ∧
  (holds5 (fun (s : State) (n : Fin 40) (l : Lane) (f : UplinkFrame) (p : List Nat) =>
    s.canonical = true ∧ s.alive l = true ∧ s.monitors n = true ∧ uplinkBody f = some (0x10, p) ∧
    (s.link n).phase = .run ∧ (p.getD 1 0) &&& 0x7B = 0x0B ∧ (s.link n).hlgOk = true ∧
    ((s.link n).codeThen (s.now - 224)).2 = true)
    [(up.modLink 39 fun k => { k with phase := .run, hlgOk := true, mism := 1, cfg := { k.cfg with en := true } }, 39, .b, (upFrame 0x10 [200, 0x8F, 2, 0]), [200, 0x8F, 2, 0]),
     (up.modLink 39 fun k => { k with phase := .run, hlgOk := true, codes := [(999000, 2)], cfg := { k.cfg with en := true } }, 39, .b, (upFrame 0x10 [200, 0x0F, 2, 0]), [200, 0x0F, 2, 0])]) ∧
  (holds2 (fun (s : State) (n : Fin 40) =>
    s.depOn = true ∧ ((s.link n).phase = .run ∨ (s.link n).phase = .training 7 true))
    [(up.modLink 39 fun k => { k with phase := .run, on := true, head := { k.head with phase := .training, armed := some 999900 } }, 39)]) ∧
  (holds5 (fun (s : State) (_ : Fin 40) (_ : Bool) (_ _ : Nat) =>
    s.depOn = true)
    [(up, 39, true, 35, 0),
     (up, 39, false, 24, 24)]) :=
  ⟨by decide +kernel, by decide +kernel, by decide +kernel, by decide +kernel, by decide +kernel, by decide +kernel⟩

theorem witness_LegsConfirmAndHenGroupsHold :
  (holds2 (fun (s : State) (n : Fin 40) =>
    (s.link n).waiting = true ∧
    (∀ g, s.legOf n = some g → (s.link g.partner).code = 0 ∧ (s.link g.partner).hlgOk = true ∧       max (s.link n).wantAt (s.confirmAt g) ≤ (s.link n).wantAt + 2048 * (g.tWait : Int)))
    [((fun s : State => { s with hoist := { s.hoist with legs := upd s.hoist.legs 19 fun _ => some (39, 38, 50, 100) } }) (up.modLink 39 (fun k => { k with phase := .run, want := true, wantAt := 1024000000 }) |>.modLink 38 fun k => { k with hlgOk := true, codeAt := 1000050 }), 39),
     (up.modLink 39 fun k => { k with phase := .run, want := true, wantAt := 1024000001 }, 39)]) ∧
  (holds4 (fun (s : State) (n : Fin 40) (_ : Lane) (g : LegView) =>
    s.canonical = true ∧ s.legOf n = some g ∧ (s.link n).waiting = true ∧
    s.confirmed g ((s.link n).wantAt + 2048 * (g.tWait : Int)) = false)
    [(reg .la R.PWM_CHc_DST.DST_H 40 (reg .la R.PWM_CHc_CFG.EN 1 (reg .ds R.DSP_GRANT.STATE (grantCode .a) ((fun s : State => { s with hoist := { s.hoist with legs := upd s.hoist.legs 19 fun _ => some (39, 38, 50, 100) } }) (up.modLink 39 fun k => { k with phase := .run, want := true, wantAt := 1024000000 }))) (i := 63)) (i := 63), 39, .a, { partner := 38, tConf := 50, tWait := 100 })]) ∧
  (holds5 (fun (s : State) (_ : Fin 8) (_ : Nat) (_ : List (Fin 40)) (_ : Lane) =>
    s.canonical = true)
    [((fun s : State => { s with hoist := { s.hoist with henActs := updAll s.hoist.henActs fun _ => true } }) up, 7, 9999, [], .a),
     (up.modLink 39 fun k => { k with phase := .run, causes := 1, head := { k.head with latched := true }, cfg := { k.cfg with en := true, group := 7 } }, 7, 10000, [], .b)]) :=
  ⟨by decide, by decide, by decide⟩

theorem witness_MotorAngleCatchingAndInjectionProceed :
  (holds4 (fun (s : State) (l : Lane) (_ : Fin 2) (_ : ObsOut) =>
    s.canonical = true ∧ s.past l 11 = true)
    [(reg .la R.MOT_Mm_STATUS.ANGLE_STATE angOff up (i := 1), .a, 1, { theta := 5, omega := 7, torque := 0, resid := 0, psiA := 0, psiB := 0, scOmega := 0 }),
     (reg .la R.MOT_Mm_CFG.EN 1 (reg .la R.MOT_Mm_SLOTS.BU 1 (reg .la R.MOT_Mm_SLOTS.BV 2 (reg .la R.MOT_Mm_SLOTS.BW 3 (reg .la R.MOT_Mm_CFG.PP 4 (reg .la R.MOT_Mm_PSI.PSI_NOM 5 (reg .la R.MOT_Mm_IND.LD 6 (reg .la R.MOT_Mm_IND.LQ 7 ((up.each (List.range 16) fun s j => reg .la R.MOT_Mm_MTPAj.IQ (j + 1) s 1 j) |> reg .la R.POS_RESn_STATUS.VALID 1 |> fun s => reg .la R.MOT_Mm_CFG.RES_EN 1 (reg .la R.MOT_Mm_STATUS.ANGLE_STATE angAsc s (i := 1)) (i := 1)) (i := 1)) (i := 1)) (i := 1)) (i := 1)) (i := 1)) (i := 1)) (i := 1)) (i := 1), .a, 1, { theta := 5, omega := 7, torque := 0, resid := 0, psiA := 0, psiB := 0, scOmega := 0 })]) ∧
  (holds3 (fun (s : State) (l : Lane) (m : Fin 2) =>
    s.canonical = true ∧ torqueOk (s.ang l m) = true ∧ s.on (laneDie l) R.MOT_Mm_STATUS.XCHK m = true)
    [(reg .lb R.MOT_Mm_STATUS.XCHK 1 (reg .lb R.MOT_Mm_STATUS.ANGLE_STATE angObserver up (i := 1)) (i := 1), .b, 1)]) ∧
  (holds3 (fun (s : State) (l : Lane) (m : Fin 2) =>
    s.canonical = true ∧ s.ang l m = angOff ∧ s.motAnyAbove l m (s.rd (laneDie l) R.MOT_Mm_CATCH.I_ZERO m) = true)
    [(reg .la R.MOT_Mm_BASE.I_BASE 100 (reg .la R.MOT_Mm_STATUS.ANGLE_STATE angOff (src .a 0x40 1000000000 up) (i := 1)) (i := 1), .a, 1)]) ∧
  (holds3 (fun (s : State) (l : Lane) (m : Fin 2) =>
    s.canonical = true ∧
    ((s.ang l m = angResolver ∧ s.on (laneDie l) R.MOT_Mm_CFG.PREF m = true ∧ s.confident l m = true) ∨ (s.ang l m = angObserver ∧ s.on (laneDie l) R.MOT_Mm_CFG.PREF m = false ∧ s.resUsable l m = true)))
    [(reg .la R.MOT_Mm_CFG.RES_EN 1 (reg .la R.POS_RESn_STATUS.VALID 1 (reg .la R.MOT_Mm_STATUS.ANGLE_STATE angObserver up (i := 1))) (i := 1), .a, 1),
     (reg .la R.MOT_Mm_CFG.PREF 1 (reg .la R.MOT_Mm_STATUS.ANGLE_STATE angResolver up (i := 1)) (i := 1), .a, 1)]) ∧
  (holds3 (fun (s : State) (l : Lane) (m : Fin 2) =>
    s.canonical = true ∧ s.alive l = true ∧ s.ang l m = angNone)
    [(reg .la R.MOT_Mm_STATUS.ANGLE_STATE angNone up (i := 1), .a, 1)]) ∧
  (holds3 (fun (s : State) (l : Lane) (m : Fin 2) =>
    torqueOk (s.ang l m) = true ∧ s.region l m = regCurrent ∧ s.tsatFrom l m ≠ [])
    [(reg .la R.MOT_Mm_STATUS.ANGLE_STATE angObserver (up.modBand .a 0 fun b => { b with e := 5, beyondAt := some 1000050 }) (i := 1), .a, 1)]) ∧
  (holds3 (fun (s : State) (l : Lane) (m : Fin 2) =>
    s.canonical = true ∧ s.ang l m = angCatch ∧ (s.mach l m).inPulse = false)
    [(reg .la R.MOT_Mm_STATUS.ANGLE_STATE angCatch (up.modMach .a 1 fun x => { x with own := some 3, pulseAt := some 999500 }) (i := 1), .a, 1)]) ∧
  (holds3 (fun (s : State) (l : Lane) (m : Fin 2) =>
    s.canonical = true ∧ s.ang l m = angCatch ∧ (s.mach l m).inPulse = true)
    [(reg .la R.MOT_Mm_STATUS.ANGLE_STATE angCatch (up.modMach .a 1 fun x => { x with inPulse := true }) (i := 1), .a, 1),
     (reg .la R.MOT_Mm_BASE.I_BASE 1 (reg .la R.MOT_Mm_CATCH.I_MIN 1 (reg .la R.MOT_Mm_CFG.INJ_EN 1 (reg .la R.MOT_Mm_STATUS.ANGLE_STATE angCatch (up.modMach .a 1 fun x => { x with inPulse := true, lowPulses := 2 }) (i := 1)) (i := 1)) (i := 1)) (i := 1), .a, 1)]) ∧
  (holds3 (fun (s : State) (l : Lane) (m : Fin 2) =>
    s.canonical = true ∧ s.ang l m = angInject)
    [(reg .la R.MOT_Mm_STATUS.ANGLE_STATE angInject (up.modMach .a 1 fun x => { x with injStep := 17 }) (i := 1), .a, 1),
     (reg .la R.MOT_Mm_INJ.SAL_MIN 5 (reg .la R.MOT_Mm_STATUS.ANGLE_STATE angInject (up.modMach .a 1 fun x => { x with injStep := 18 }) (i := 1)) (i := 1), .a, 1),
     (reg .la R.MOT_Mm_STATUS.ANGLE_STATE angInject (up.modMach .a 1 fun x => { x with injStep := 22 }) (i := 1), .a, 1),
     (reg .la R.MOT_Mm_STATUS.ANGLE_STATE angInject (up.modMach .a 1 fun x => { x with injStep := 25, injMags := [3, 4], injAxis := 7 }) (i := 1), .a, 1)]) ∧
  (holds3 (fun (s : State) (_ : Lane) (_ : Fin 2) =>
    s.canonical = true)
    [(up.modMach .a 1 fun x => { x with keCnt := 1024, keSum := 1024 * 2 ^ 30 * 3 / 4 - 1 }, .a, 1),
     (up, .a, 1)]) :=
  ⟨by decide, by decide, by decide, by decide, by decide, by decide, by decide, by decide, by decide, by decide⟩

theorem witness_ContactorSequencesClose :
  (holds2 (fun (s : State) (l : Lane) =>
    s.canonical = true ∧ s.writable l = true ∧ s.master = l ∧ (s.run l).nrg.seq = none ∧
    mainMode (s.modeOf l) = true ∧ s.nrgCfgErr l = false ∧ s.rd .ds R.DSP_WELD.WELDED = 0 ∧
    (s.ctrClose l ctrMN).1 = true)
    [(nrgUp .a, .a)]) ∧
  (holds2 (fun (s : State) (l : Lane) =>
    s.canonical = true ∧ s.writable l = true)
    [(reg .la R.CFG_MODE.MODE 1 (nrgUp .a), .a),
     (nrgUp .a, .b),
     (seqAt .a 1 .precharge (nrgUp .a), .a),
     (reg .la R.NRG_OV3.V 0 (nrgUp .a), .a)]) ∧
  (holds2 (fun (s : State) (l : Lane) =>
    s.canonical = true ∧ s.writable l = true ∧ s.master = l ∧ (s.run l).nrg.seq = none ∧
    mainMode (s.modeOf l) = true ∧ s.nrgCfgErr l = false ∧ s.depOn = true ∧
    (s.rdBit .ds R.DSP_WELD.WELDED ctrMP = true ∨ s.rdBit .ds R.DSP_WELD.WELDED ctrMN = true ∨ s.rdBit .ds R.DSP_WELD.WELDED ctrPRE = true))
    [(reg .ds R.DSP_WELD.WELDED 4 (nrgUp .a), .a)]) ∧
  (holds3 (fun (s : State) (l : Lane) (q : NrgSeq) =>
    s.canonical = true ∧ (s.run l).nrg.seq = some q ∧ q.phase = .precharge ∧
    clampN 80 99 (s.rd (laneDie l) R.NRG_PRE.PCT) * s.vPack l ≤ 100 * s.vLink l ∧ (s.ctrClose l ctrMP).1 = true)
    [(seqAt .a 1 .precharge (nrgUp .a), .a, { cmd := 1, phase := .precharge, since := 999000, v0 := 0, welded := false }),
     (seqAt .a 1 .precharge (reg .la R.NRG_PRE.T_MIN 1 (nrgUp .a)), .a, { cmd := 1, phase := .precharge, since := 999000, v0 := 0, welded := false })]) ∧
  (holds3 (fun (s : State) (l : Lane) (q : NrgSeq) =>
    s.canonical = true ∧ (s.run l).nrg.seq = some q ∧ (q.phase = .precharge ∨ q.phase = .overlap))
    [(seqAt .a 1 .precharge (nrgUp .a), .a, { cmd := 1, phase := .precharge, since := 999000, v0 := 0, welded := false }),
     (seqAt .a 1 .overlap (nrgUp .a), .a, { cmd := 1, phase := .overlap, since := 999000, v0 := 0, welded := false })]) ∧
  (holds2 (fun (s : State) (k : Fin 12) =>
    s.canonical = true ∧ s.depOn = true ∧ s.dep.ctr[k] = .pull ∧
    s.laneA.run.nrg.seq = none ∧ s.laneB.run.nrg.seq = none ∧
    s.rd .la R.NRG_OBC_STATUS.STATE = obcOff ∧ s.rd .lb R.NRG_OBC_STATUS.STATE = obcOff)
    [(ctrIn 11 .pull up, 11)]) ∧
  (holds4 (fun (s : State) (k : Fin 12) (l : Lane) (q : NrgSeq) =>
    s.canonical = true ∧ s.depOn = true ∧ s.dep.ctr[k] = .pull ∧ (s.run l).nrg.seq = some q ∧
    ((q.phase = .closeMp ∧ s.ctrOut l ctrMP = k) ∨ (q.phase = .dcP ∧ s.ctrOut l ctrDCP = k) ∨ (q.phase = .acClose ∧ s.ctrOut l ctrACR = k)))
    [(seqAt .a 1 .closeMp (nrgUp .a |> ctrIn 0 .pull), 0, .a, { cmd := 1, phase := .closeMp, since := 999000, v0 := 0, welded := false }),
     (seqAt .a 3 .dcP (nrgUp .a |> ctrIn 3 .pull), 3, .a, { cmd := 3, phase := .dcP, since := 999000, v0 := 0, welded := false })]) ∧
  (holds2 (fun (s : State) (l : Lane) =>
    s.canonical = true ∧ s.writable l = true ∧ s.master = l ∧ (s.run l).nrg.seq = none ∧ s.dcMode l = true ∧
    s.nrgCfgErr l = false ∧ (s.ctrClose l ctrDCN).1 = true)
    [(nrgUp .a |> ctrIn 0 .hold |> ctrIn 1 .hold, .a),
     (nrgUp .a, .a)]) ∧
  (holds2 (fun (s : State) (l : Lane) =>
    s.canonical = true ∧ s.writable l = true ∧ s.master = l ∧ (s.run l).nrg.seq = none ∧ s.acMode l = true ∧
    s.nrgCfgErr l = false ∧ (s.ctrClose l ctrACR).1 = true)
    [(reg .la R.NRG_OBC_STATUS.STATE obcPre (nrgUp .a), .a),
     (nrgUp .a, .a)]) :=
  ⟨by decide, by decide, by decide, by decide, by decide, by decide, by decide, by decide, by decide⟩

theorem witness_ContactorSequencesOpenAndTestWelds :
  (holds2 (fun (s : State) (l : Lane) =>
    s.canonical = true ∧ s.writable l = true ∧ s.master = l ∧ mainMode (s.modeOf l) = true ∧ s.nrgCfgErr l = false)
    [(seqAt .a 1 .precharge (nrgUp .a), .a)]) ∧
  (holds3 (fun (s : State) (l : Lane) (q : NrgSeq) =>
    s.canonical = true ∧ (s.run l).nrg.seq = some q ∧ q.phase = .curWait ∧ s.lowCurrent l = false)
    [(seqAt .a 2 .curWait (src .a 1 1000000000 (reg .la R.NRG_IBASE.I_BASE 100 (nrgUp .a))), .a, { cmd := 2, phase := .curWait, since := 999000, v0 := 0, welded := false })]) ∧
  (holds3 (fun (s : State) (l : Lane) (q : NrgSeq) =>
    s.canonical = true ∧ (s.run l).nrg.seq = some q ∧ q.phase = .curWait ∧ s.lowCurrent l = true ∧
    s.ctrClosed l ctrMP = true ∧ s.ctrOut l ctrMP ≠ s.ctrOut l ctrPRE ∧ s.depOn = true ∧
    s.on (laneDie l) R.NRG_CTRc_CFG.EN ctrMP = true)
    [(seqAt .a 2 .curWait (nrgUp .a |> ctrIn 0 .hold), .a, { cmd := 2, phase := .curWait, since := 999000, v0 := 0, welded := false })]) ∧
  (holds3 (fun (s : State) (l : Lane) (q : NrgSeq) =>
    s.canonical = true ∧ (s.run l).nrg.seq = some q ∧ q.phase = .curWait ∧ s.lowCurrent l = true ∧
    s.ctrClosed l ctrMP = false)
    [(seqAt .a 2 .curWait (nrgUp .a), .a, { cmd := 2, phase := .curWait, since := 999000, v0 := 0, welded := false })]) ∧
  (holds3 (fun (s : State) (l : Lane) (q : NrgSeq) =>
    s.canonical = true ∧ (s.run l).nrg.seq = some q ∧ q.phase = .posCheck ∧
    q.v0 - s.vLink l < s.rd (laneDie l) R.NRG_WELD.DV * 2 ^ 30)
    [(seqAt .a 2 .posCheck (reg .la R.NRG_WELD.DV 1 (nrgUp .a)), .a, { cmd := 2, phase := .posCheck, since := 999000, v0 := 0, welded := false })]) ∧
  (holds3 (fun (s : State) (l : Lane) (q : NrgSeq) =>
    s.canonical = true ∧ (s.run l).nrg.seq = some q ∧ q.phase = .posCheck ∧
    s.rd (laneDie l) R.NRG_WELD.DV * 2 ^ 30 ≤ q.v0 - s.vLink l ∧ s.ctrClosed l ctrMN = true ∧ s.depOn = true ∧
    s.on (laneDie l) R.NRG_CTRc_CFG.EN ctrMN = true)
    [(seqAt .a 2 .posCheck (nrgUp .a |> ctrIn 1 .hold), .a, { cmd := 2, phase := .posCheck, since := 999000, v0 := 0, welded := false })]) ∧
  (holds3 (fun (s : State) (l : Lane) (q : NrgSeq) =>
    s.canonical = true ∧ (s.run l).nrg.seq = some q ∧
    ((q.phase = .negWait ∧ s.rd (laneDie l) R.NRG_WELD.V_SAFE * 2 ^ 30 < s.vLink l) ∨ q.phase = .mnCheck))
    [(seqAt .a 2 .mnCheck (src .a 1 1000000000 (reg .la R.NRG_SCALE.V_BASE 100 (nrgUp .a))), .a, { cmd := 2, phase := .mnCheck, since := 999000, v0 := 0, welded := false }),
     (seqAt .a 7 .mnCheck (nrgUp .a), .a, { cmd := 7, phase := .mnCheck, since := 999000, v0 := 0, welded := false }),
     (seqAt .a 2 .negWait (src .a 1 1000000000 (reg .la R.NRG_SCALE.V_BASE 100 (nrgUp .a))), .a, { cmd := 2, phase := .negWait, since := 999000, v0 := 0, welded := false })]) ∧
  (holds2 (fun (s : State) (l : Lane) =>
    s.canonical = true ∧ s.writable l = true ∧ s.master = l ∧ (s.run l).nrg.seq = none ∧
    mainMode (s.modeOf l) = true ∧ s.nrgCfgErr l = false)
    [(nrgUp .a, .a),
     (nrgUp .a |> ctrIn 2 .pull, .a)]) ∧
  (holds2 (fun (s : State) (l : Lane) =>
    s.canonical = true ∧ s.writable l = true ∧ s.master = l ∧ (s.run l).nrg.seq = none ∧ s.nrgCfgErr l = false)
    [(reg .ds R.DSP_WELD.WELDED 5 ((nrgUp .a).modDep fun d => { d with weldTested := true }), .a),
     (reg .ds R.DSP_WELD.WELDED 5 (nrgUp .a), .a)]) ∧
  (holds2 (fun (s : State) (l : Lane) =>
    s.canonical = true ∧ s.writable l = true ∧ s.master = l ∧ s.dcMode l = true ∧ s.nrgCfgErr l = false ∧
    s.depOn = true ∧ s.on (laneDie l) R.NRG_CTRc_CFG.EN ctrDCP = true ∧ s.ctrClosed l ctrDCP = true)
    [(nrgUp .a |> ctrIn 3 .hold, .a)]) ∧
  (holds2 (fun (s : State) (l : Lane) =>
    s.canonical = true ∧ s.writable l = true ∧ s.master = l ∧ s.acMode l = true ∧ s.nrgCfgErr l = false ∧
    s.depOn = true ∧ s.on (laneDie l) R.NRG_CTRc_CFG.EN ctrACR = true ∧ s.ctrClosed l ctrACR = true)
    [(nrgUp .a |> ctrIn 5 .hold, .a)]) ∧
  (holds2 (fun (s : State) (l : Lane) =>
    s.canonical = true ∧ s.writable l = true ∧ s.master = l ∧ s.nrgCfgErr l = false)
    [(nrgUp .a, .a)]) ∧
  (holds2 (fun (s : State) (l : Lane) =>
    s.canonical = true ∧ s.alive l = true ∧ s.master = l ∧ s.depOn = true ∧
    s.on (laneDie l) R.NRG_CTRc_CFG.EN ctrDCP = true ∧ s.ctrClosed l ctrDCP = true ∧
    s.rd (laneDie l) R.NRG_DC.I_DC_MAX * 2 ^ 30 < absI (s.iPack l))
    [(src .a 1 1000000000 (reg .la R.NRG_IBASE.I_BASE 100 (nrgUp .a |> ctrIn 3 .hold)), .a)]) ∧
  (holds3 (fun (s : State) (l : Lane) (c : Fin 6) =>
    s.canonical = true ∧ s.alive l = true ∧ s.on (laneDie l) R.NRG_CTRc_CFG.EN c = true ∧ s.ctr l c = .drop)
    [(nrgUp .a |> ctrIn 5 .drop, .a, 5),
     (seqAt .a 6 .acOpen (nrgUp .a |> ctrIn 5 .drop), .a, 5),
     (seqAt .a 2 .openMp (nrgUp .a |> ctrIn 0 .drop), .a, 0)]) :=
  ⟨by decide, by decide, by decide, by decide, by decide, by decide, by decide, by decide, by decide, by decide, by decide, by decide, by decide, by decide⟩

theorem witness_OvervoltageLevelsActInOrder :
  (holds3 (fun (s : State) (l : Lane) (on : Bool) =>
    s.canonical = true ∧ s.past l 11 = true ∧ s.on (laneDie l) R.NRG_STATUS.OV1 = !on)
    [(ovUp .lb 0 32767, .b, true),
     (reg .lb R.NRG_STATUS.OV1 1 (ovUp .lb 1000 0), .b, false),
     (ovUp .lb 1000 0, .b, true)]) ∧
  (holds2 (fun (s : State) (l : Lane) =>
    s.canonical = true ∧ s.past l 11 = true ∧ s.on (laneDie l) R.NRG_STATUS.OV2 = false)
    [(ovUp .lb 0 32767, .b),
     (ovUp .lb 1000 0, .b)]) ∧
  (holds2 (fun (s : State) (l : Lane) =>
    s.canonical = true ∧ s.past l 11 = true ∧ s.on (laneDie l) R.NRG_STATUS.OV2 = true ∧ s.ovOut l 2 true = false)
    [(ovUp .lb 1000 0 |> reg .lb R.NRG_STATUS.OV2 1 |> reg .ds R.DSP_OV_STATUS.OV2 3 |> reg .ds R.DSP_OV_STATUS.CLAMP 1, .b),
     (ovUp .lb 1000 0 |> reg .lb R.NRG_STATUS.OV2 1 |> reg .ds R.DSP_OV_STATUS.OV2 2 |> reg .ds R.DSP_OV_STATUS.CLAMP 1, .b)]) ∧
  (holds2 (fun (s : State) (l : Lane) =>
    s.canonical = true ∧ s.past l 11 = true ∧ s.on (laneDie l) R.NRG_STATUS.OV3 = false)
    [(ovUp .lb 0 32767, .b)]) ∧
  (holds2 (fun (s : State) (l : Lane) =>
    s.canonical = true ∧ s.past l 11 = true ∧ s.on (laneDie l) R.NRG_STATUS.OV3 = true ∧ s.ovOut l 3 true = false)
    [(ovUp .lb 1000 0 |> reg .lb R.NRG_STATUS.OV3 1 |> reg .ds R.DSP_OV_STATUS.OV3 2 |> reg .ds R.DSP_OV_STATUS.ASC_HOLD 1, .b)]) ∧
  (holds2 (fun (s : State) (x : Nat) =>
    s.canonical = true ∧ s.depOn = true ∧ s.dep.asc3 = some x)
    [(reg .ds R.DSP_OV_STATUS.ASC_HOLD 1 (up.modDep fun d => { d with asc3 := some 1000000 }), 1000000)]) ∧
  (holds2 (fun (s : State) (l : Lane) =>
    s.canonical = true ∧ s.alive l = true ∧ s.master = l ∧ s.depOn = true ∧ s.on (laneDie l) R.NRG_STATUS.OV3 = true ∧
    s.on (laneDie l) R.NRG_CTRc_CFG.EN ctrMP = true ∧ s.ctrClosed l ctrMP = true ∧
    s.iPack l < s.rd (laneDie l) R.NRG_REGEN.ACC_MIN * 2 ^ 30)
    [(reg .la R.NRG_REGEN.ACC_MIN 1 (reg .la R.NRG_STATUS.OV3 1 (nrgUp .a |> ctrIn 0 .hold)), .a)]) :=
  ⟨by decide, by decide, by decide, by decide, by decide, by decide, by decide⟩

theorem witness_ConverterAndChargerChangeState :
  (holds4 (fun (s : State) (l : Lane) (_ _ : BitVec 16) =>
    s.canonical = true ∧ s.writable l = true)
    [(reg .la R.NRG_HVC_STATUS.STATE hvcSoft (seqAt .a 2 .curWait up), .a, 0xFFFF, 0x8001),
     (reg .la R.NRG_HVC_CFG.VSET_SLOT 23 up, .a, 0xFFFF, 0x8001)]) ∧
  (holds2 (fun (s : State) (l : Lane) =>
    s.canonical = true ∧ s.alive l = true ∧ s.rd (laneDie l) R.NRG_HVC_STATUS.STATE = hvcSoft)
    [(reg .la R.NRG_HVC_SET.VSET 65535 (reg .la R.NRG_HVC_STATUS.STATE hvcSoft up), .a)]) ∧
  (holds4 (fun (s : State) (l : Lane) (_ _ : BitVec 16) =>
    s.canonical = true ∧ s.alive l = true ∧ s.rd (laneDie l) R.NRG_OBC_STATUS.STATE = obcSync)
    [(reg .la R.NRG_OBC_STATUS.STATE obcSync up, .a, 1, 2),
     (reg .la R.NRG_OBC_STATUS.STATE obcSync (reg .la R.NRG_OBC_VWIN.HI 1 (reg .la R.NRG_OBC_FWIN.HI 2 up)), .a, 1, 2)]) ∧
  (holds2 (fun (s : State) (l : Lane) =>
    s.canonical = true ∧ s.alive l = true ∧ s.rd (laneDie l) R.NRG_OBC_STATUS.STATE = obcPre)
    [(reg .la R.NRG_OBC_STATUS.STATE obcPre (nrgUp .a), .a)]) ∧
  (holds4 (fun (s : State) (l : Lane) (v f : BitVec 16) =>
    s.canonical = true ∧ s.alive l = true ∧ s.rd (laneDie l) R.NRG_OBC_STATUS.STATE = obcRun ∧
    (s.gridV l v && s.gridF l f) = false)
    [(reg .la R.NRG_OBC_STATUS.STATE obcRun (nrgUp .a |> ctrIn 5 .hold), .a, 1, 0)]) ∧
  (holds4 (fun (s : State) (l : Lane) (v f : BitVec 16) =>
    s.canonical = true ∧ s.alive l = true ∧ s.rd (laneDie l) R.NRG_OBC_STATUS.STATE = obcTripped ∧
    s.gridV l v = true ∧ s.gridF l f = true)
    [(reg .la R.NRG_OBC_STATUS.STATE obcTripped up, .a, 0, 0)]) :=
  ⟨by decide, by decide, by decide, by decide, by decide, by decide⟩

theorem witness_PowerPathChargerAndActuatorBoostAct :
  (holds5 (fun (s : State) (l : Lane) (_ _ : Nat) (_ : Int) =>
    s.canonical = true ∧ s.lvpOn l = true)
    [(reg .pb R.LVP_STATUS.PATH pathBatt (reg .lb R.NRG_HVC_STATUS.STATE hvcRun up), .b, 24000, 24030, 0),
     (reg .pa R.LVP_STATUS.PATH pathConv (up.modLvp .a fun x => { x with overAt := some 0 }), .a, 24000, 24030, (-1)),
     (reg .pa R.LVP_STATUS.PATH pathHand (up.modLvp .a fun x => { x with fwdAt := some 0 }), .a, 240000, 24030, 10)]) ∧
  (holds2 (fun (s : State) (l : Lane) =>
    s.canonical = true ∧ s.lvpOn l = true ∧ s.path l = pathConv ∧ s.hvcUp l = false)
    [(reg .la R.NRG_HVC_STATUS.STATE hvcRun (reg .pb R.LVP_STATUS.PATH pathConv up), .b)]) ∧
  (holds2 (fun (s : State) (l : Lane) =>
    s.canonical = true ∧ s.lvpOn l = true ∧ s.path l = pathHand)
    [(reg .pb R.LVP_STATUS.PATH pathHand (up.modLvp .b fun x => { x with handAt := 900000, revAt := some 1050000 }), .b)]) ∧
  (holds3 (fun (s : State) (l : Lane) (x : Nat) =>
    s.canonical = true ∧ s.lvpOn l = true ∧ (s.pap l).lvp.requalAt = some x)
    [(reg .pb R.LVP_STATUS.REQUAL 1 (up.modLvp .b fun x => { x with requalAt := some 2000000 }), .b, 2000000)]) ∧
  (holds3 (fun (s : State) (l : Lane) (x : Nat) =>
    s.canonical = true ∧ s.lvpOn l = true ∧ s.path l = pathBatt ∧ (s.pap l).lvp.cutAt = some x)
    [(reg .pb R.LVP_STATUS.PATH pathBatt (up.modLvp .b fun x => { x with cutAt := some 5 }), .b, 5),
     (reg .lb R.CFG_MODE.MODE modeDrive (reg .pb R.LVP_STATUS.PATH pathBatt (up.modLvp .b fun x => { x with cutAt := some 5 })), .b, 5)]) ∧
  (holds2 (fun (s : State) (l : Lane) =>
    s.canonical = true ∧ s.writable l = true ∧ s.lvpOn l = true ∧ s.path l = pathIso)
    [((fun s : State => { s with now := 100000000 }) (reg .pb R.LVP_STATUS.PATH pathIso up), .b),
     (reg .pb R.LVP_STATUS.PATH pathIso up, .b)]) ∧
  (holds3 (fun (s : State) (l : Lane) (_ : Bool) =>
    s.canonical = true ∧ s.lvpOn l = true ∧ s.path l = pathConv)
    [(reg .pb R.LVP_STATUS.STAGE stCc (reg .pb R.LVP_STATUS.PATH pathConv up), .b, true),
     (reg .pb R.LVP_CTRL.CHG_EN 1 (reg .pb R.LVP_MEAS_V.VBAT 60000 (reg .pb R.LVP_STATUS.STAGE stCc (reg .pb R.LVP_STATUS.PATH pathConv up))), .b, false),
     (reg .pb R.LVP_CTRL.CHG_EN 1 (reg .pb R.LVP_MEAS_V.VBAT 60000 (reg .pb R.LVP_STATUS.PATH pathConv up)), .b, false)]) ∧
  (holds3 (fun (s : State) (l : Lane) (_ : Nat) =>
    s.canonical = true ∧ (s.pap l).powered = true)
    [(reg .pb R.LVP_ACT_CFG.ACT_EN 1 up, .b, 359),
     (reg .pb R.LVP_ACT_CFG.ACT_EN 1 up, .b, 360)]) ∧
  (holds3 (fun (s : State) (l : Lane) (_ : Bool) =>
    s.canonical = true ∧ (s.pap l).powered = true)
    [(up, .b, false),
     (up, .a, true)]) :=
  ⟨by decide, by decide, by decide, by decide, by decide, by decide, by decide, by decide, by decide⟩

theorem witness_LaneLinkFramesSnapshotsAndHandover :
  (holds3 (fun (s : State) (l : Lane) (_ : List (BitVec 8)) =>
    s.canonical = true ∧ s.domains l = true ∧ s.domains l.other = true)
    [(up.modLnk .a fun k => { k with expect := some 250 }, .a, []),
     (up.modLnk .a fun k => { k with expect := some 250 }, .a, [0, 0, 1]),
     (up.modLnk .b fun k => { k with cmpOut := some (0, []) }, .a, [])]) ∧
  (holds6 (fun (s : State) (l : Lane) (flips : List (BitVec 8)) (n : Nat) (vs : List Nat) (v : Nat) =>
    s.canonical = true ∧ s.domains l = true ∧ s.domains l.other = true ∧ flips.all (· == 0) = true ∧
    (s.run l.other).link.inOut = some (n, v :: vs) ∧ (s.run l.other).link.next? 3 = true)
    [((up.modLnk .b fun k => { k with inOut := some (0, [0x1000007, 2, 3, 4]) }).modRun .a fun r => { r with chs := { r.chs with open_ := true } }, .a, [0], 0, [2, 3, 4], 0x1000007),
     (up.modLnk .b fun k => { k with inOut := some (0, [0x1000007, 2, 3, 4]) }, .a, [], 0, [2, 3, 4], 0x1000007)]) ∧
  (holds6 (fun (s : State) (l : Lane) (flips : List (BitVec 8)) (n : Nat) (ws : List Nat) (w : Nat) =>
    s.canonical = true ∧ s.domains l = true ∧ s.domains l.other = true ∧ flips.all (· == 0) = true ∧
    (s.run l.other).link.cmpOut = some (n, w :: ws) ∧ (s.run l.other).link.next? 2 = true)
    [((up.modLnk .b fun k => { k with inOut := some (0, [7]), cmpOut := some (0, [5, 6, 7, 8, 9, 10, 11, 0xFFFFFFFF]) }).modRun .a fun r => { r with chs := { r.chs with open_ := true } }, .a, [], 0, [6, 7, 8, 9, 10, 11, 0xFFFFFFFF], 5),
     (up.modLnk .b fun k => { k with cmpOut := some (1, [5]) }, .a, [], 1, [], 5)]) ∧
  (holds4 (fun (s : State) (l : Lane) (flips : List (BitVec 8)) (c : CopySet) =>
    s.canonical = true ∧ s.domains l = true ∧ s.domains l.other = true ∧ flips.all (· == 0) = true ∧
    s.on (laneDie l.other) R.LNK_STATUS.LINK_UP = true ∧ (s.run l.other).link.copyOut = some c ∧
    (s.run l.other).link.copyFrag < c.frags ∧ (s.run l.other).link.next? 7 = true)
    [(reg .la R.LNK_STATUS.ROLE roleWarm (reg .lb R.LNK_STATUS.LINK_UP 1 (up.modLnk .b fun k => { k with copyOut := some { hw := HwCopy.init, window := [1, 2, 3, 4] } })), .a, [], { hw := HwCopy.init, window := [1, 2, 3, 4] })]) ∧
  (holds5 (fun (s : State) (l : Lane) (flips : List (BitVec 8)) (_ : BitVec 32) (c : CopySet) =>
    s.canonical = true ∧ s.domains l = true ∧ s.domains l.other = true ∧ flips.all (· == 0) = true ∧
    s.on (laneDie l.other) R.LNK_STATUS.LINK_UP = true ∧ (s.run l.other).link.copyOut = some c ∧
    (s.run l.other).link.copyEnd = false ∧ c.frags ≤ (s.run l.other).link.copyFrag ∧
    (s.run l.other).link.next? 6 = true)
    [(reg .la R.LNK_STATUS.ROLE roleWarm (reg .lb R.LNK_STATUS.LINK_UP 1 (up.modLnk .b fun k => { k with copyFrag := 3, copyOut := some { hw := HwCopy.init, window := [1, 2, 3, 4] } })), .a, [], 0, { hw := HwCopy.init, window := [1, 2, 3, 4] }),
     (reg .la R.LNK_STATUS.ROLE roleHot (reg .lb R.LNK_STATUS.LINK_UP 1 ((up.modLnk .b fun k => { k with copyFrag := 3, copyOut := some { hw := HwCopy.init, window := [1, 2, 3, 4] } }).modLnk .a fun k => { k with rx := some { frags := 3, bytes := [1, 2], broken := false } })), .a, [], 0, { hw := HwCopy.init, window := [1, 2, 3, 4] })]) ∧
  (holds6 (fun (s : State) (l : Lane) (flips : List (BitVec 8)) (c : CopySet) (e : TalEntry) (r : Nat) =>
    s.canonical = true ∧ s.domains l = true ∧ s.domains l.other = true ∧ flips.all (· == 0) = true ∧
    (s.run l).link.copyOut = some c ∧ s.copyEntry l = some e ∧ (s.run l.other).link.ackOut = some (c.hw.cycle, r) ∧
    (s.run l.other).link.next? 4 = true)
    [(tally .a [ent 0 13 .active (.copy 0)] ((up.modLnk .a fun k => { k with copyEnd := true, copyOut := some { hw := HwCopy.init, window := [] } }).modLnk .b fun k => { k with ackOut := some (0, 1) }), .a, [], { hw := HwCopy.init, window := [] }, (ent 0 13 .active (.copy 0)), 1),
     (tally .a [ent 0 13 .active (.copy 0)] ((up.modLnk .a fun k => { k with copyEnd := true, copyOut := some { hw := HwCopy.init, window := [] } }).modLnk .b fun k => { k with ackOut := some (0, 0) }), .a, [], { hw := HwCopy.init, window := [] }, (ent 0 13 .active (.copy 0)), 0)]) ∧
  (holds3 (fun (s : State) (l : Lane) (e : TalEntry) =>
    s.canonical = true ∧ (s.run l).link.copyOut.isSome = true ∧ (s.run l).link.copyEnd = true ∧
    (s.run l).link.resent = false ∧ s.copyEntry l = some e ∧ e.st ≠ .ending)
    [(tally .a [ent 0 13 .active (.copy 0)] (up.modLnk .a fun k => { k with copyEnd := true, endAt := 1000000, copyOut := some { hw := HwCopy.init, window := [] } }), .a, (ent 0 13 .active (.copy 0)))]) ∧
  (holds2 (fun (s : State) (l : Lane) =>
    s.canonical = true ∧ s.alive l = true ∧ s.on (laneDie l) R.LNK_STATUS.LINK_UP = true)
    [(reg .la R.LNK_STATUS.LINK_UP 1 up, .a)]) ∧
  (holds2 (fun (s : State) (l : Lane) =>
    s.canonical = true ∧ s.on (laneDie l) R.LNK_CTRL.SNAP_EN = true)
    [(reg .la R.LNK_CTRL.SNAP_EN 1 up, .a)]) ∧
  (holds3 (fun (s : State) (l : Lane) (_ : List (BitVec 8)) =>
    s.canonical = true ∧ s.alive l = true ∧ s.role l = roleCold)
    [(reg .la R.LNK_STATUS.ROLE roleCold up, .a, []),
     (reg .la R.TIM_PARTNER_STAT.VALID 1 (reg .la R.LNK_STATUS.ROLE roleCold ((up.modLnk .a fun k => { k with lastState := some 1000000 }).modNv .a fun n => { n with snaps := [{ seq := 1, slot := 5, role := roleHot, version := 0, cycle := 0, partnerLamp := 0, partnerTime := 900000, netTime := none, unc := 0, shared := none, own := [1, 2] }] })), .a, [])]) ∧
  (holds2 (fun (s : State) (l : Lane) =>
    s.canonical = true ∧ s.writable l = true)
    [(up, .a),
     (reg .la R.LNK_STATUS.ROLE roleActive (reg .la R.LNK_COPY_STATUS.VERIFIED 1 (up.modLnk .a fun k => { k with partnerRole := roleHot })), .a)]) :=
  ⟨by decide, by decide, by decide, by decide, by decide, by decide, by decide, by decide, by decide, by decide, by decide⟩

theorem witness_ChassisCyclesSealCompareAndDeclare :
  (holds2 (fun (s : State) (_ : Lane) =>
    s.canonical = true)
    [(reg .la R.LNK_CTRL.CHS_EN 1 (reg .la R.LNK_STATUS.ROLE roleHot up), .a),
     (reg .la R.LNK_CHS_STATUS.RUN 1 up, .a)]) ∧
  (holds2 (fun (s : State) (l : Lane) =>
    s.canonical = true ∧ (s.run l).chs.open_ = true ∧ (s.run l).chs.done = false ∧ (s.run l).chs.isSealed = none)
    [(reg .la R.LNK_CHS_CFG.WORDS 7 (up.modChs .a fun c => { c with open_ := true, at_ := 1000000 }), .a)]) ∧
  (holds3 (fun (s : State) (l : Lane) (own : List Nat) =>
    s.canonical = true ∧ (s.run l).chs.open_ = true ∧ (s.run l).chs.done = false ∧ (s.run l).chs.isSealed = some own)
    [(up.modChs .a fun c => { c with open_ := true, at_ := 1000000, isSealed := some [1] }, .a, [1]),
     (up.modChs .a fun c => { c with open_ := true, at_ := 1000000, isSealed := some [1], partnerIn := true, partnerCmp := some [1] }, .a, [1]),
     (up.modChs .a fun c => { c with open_ := true, at_ := 1000000, isSealed := some [1], partnerIn := true, partnerCmp := some [2] }, .a, [1])]) ∧
  (holds6 (fun (s : State) (l : Lane) (template : Nat) (bytes : List Nat) (rest : List (Nat × List Nat)) (_ : Fin 8) =>
    s.running l = true ∧ (s.run l).chs.handed = (template, bytes) :: rest)
    [(reg .la R.LNK_CHS_RXj_CFG.DATA_ID 0x1234 (reg .la R.LNK_CHS_RXj_CFG.TEMPLATE 15 (reg .la R.LNK_CHS_RXj_CFG.EN 1 (reg .la R.LNK_CHS_NET.CTRL 5 (up.modChs .a fun c => { c with handed := [(15, chassisBytes 0x1234 7 0 [9])] })) (i := 7)) (i := 7)) (i := 7), .a, 15, (chassisBytes 0x1234 7 0 [9]), [], 7),
     (up.modChs .a fun c => { c with handed := [(15, [1, 2]), (3, [])] }, .a, 15, [1, 2], [(3, [])], 7)]) ∧
  (holds3 (fun (s : State) (l : Lane) (c : FaultClass) =>
    s.canonical = true ∧ s.running l = true ∧ s.depOn = true ∧ (c = netOf l ∨ c = sensOf l) ∧
    bit (s.run l).sup.lost c.code = false)
    [(reg .la R.LNK_CHS_STATUS.NET_RUN 15 up, .a, .na),
     (reg .lb R.LNK_CHS_STATUS.SENS_RUN 15 (reg .lb R.LNK_CHS_STATUS.DIS_RUN 15 up), .b, .sb)]) :=
  ⟨by decide +kernel, by decide +kernel, by decide +kernel, by decide +kernel, by decide +kernel⟩

theorem witness_GrantsPassThroughTheirHold :
  (holds2 (fun (s : State) (l : Lane) =>
    s.canonical = true ∧ s.alive l = true ∧ s.on (laneDie l) R.LNK_STATUS.AUTH_REQ = true ∧ s.eligible l = true ∧
    s.rd .ds R.DSP_GRANT.STATE = grantNone ∧ (s.preferred = l ∨ s.eligible l.other = false))
    [(up |> reg .ds R.DSP_CTRL.PREF 1 |> reg .lb R.LNK_STATUS.AUTH_REQ 1 |> fun s => reg .ds R.DSP_Lx_STATUS.DONE 1 (reg .ds R.DSP_Lx_STATUS.ARMED 1 s (i := 1)) (i := 1), .b)]) ∧
  (holds2 (fun (s : State) (l : Lane) =>
    s.canonical = true ∧ s.alive l = true ∧ s.on (laneDie l) R.LNK_STATUS.AUTH_REQ = true ∧ s.holder = some l.other ∧
    s.eligible l.other = true)
    [(up |> reg .ds R.DSP_GRANT.STATE 1 |> reg .lb R.LNK_STATUS.AUTH_REQ 1 |> reg .ds R.DSP_Lx_STATUS.DONE 1 |> reg .ds R.DSP_Lx_STATUS.ARMED 1, .b)]) ∧
  (holds2 (fun (s : State) (l : Lane) =>
    s.canonical = true ∧ s.depOn = true ∧ s.on .ds (reqFld l) = true)
    [(reg .ds R.DSP_GRANT.STATE 2 (reg .ds R.DSP_GRANT.REQ_B 1 (reg .lb R.LNK_STATUS.ROLE roleActive up)), .b),
     (reg .ds R.DSP_GRANT.REQ_B 1 up, .b)]) ∧
  (holds2 (fun (s : State) (_ : Lane) =>
    s.canonical = true ∧ s.depOn = true ∧ s.rd .ds R.DSP_GRANT.STATE = grantHold)
    [(reg .ds R.DSP_GRANT.STATE 3 up, .b),
     (up |> reg .ds R.DSP_GRANT.STATE 3 |> reg .ds R.DSP_GRANT.REQ_B 1 |> (fun s => reg .ds R.DSP_Lx_STATUS.DONE 1 (reg .ds R.DSP_Lx_STATUS.ARMED 1 s (i := 1)) (i := 1)) |> fun s => s.modDep fun d => { d with holdFrom := some .a, holdAt := 999999 }, .b)]) ∧
  (holds1 (fun (s : State) =>
    s.canonical = true ∧ s.depOn = true ∧ s.rd .ds R.DSP_GRANT.STATE = grantHold)
    [{ (reg .ds R.DSP_GRANT.STATE 3 up) with mux := { up.mux with chs := upd up.mux.chs 63 fun _ => some muxCh0 } }]) ∧
  (holds5 (fun (s : State) (c : Fin 64) (m : MuxCh) (x : Int) (lv : Bool) =>
    s.depOn = true ∧ s.mux.chs[c] = some m ∧ m.driving = true ∧ s.replayEdge m = some (x, lv))
    [({ up with mux := { up.mux with tbs := (upd up.mux.tbs 0 fun _ => some muxTb0), chs := upd up.mux.chs 63 fun _ => some muxCh0 } }, 63, muxCh0, 1024002560, true)]) :=
  ⟨by decide, by decide, by decide, by decide, by decide, by decide⟩

theorem witness_HeartbeatsAndPortsAreWatched :
  (holds3 (fun (s : State) (l : Lane) (_ : BitVec 8) =>
    s.canonical = true ∧ s.writable l = true ∧ (s.run l).phase ≠ .portFault ∧ s.depOn = true ∧
    s.on .ds R.DSP_Lx_STATUS.ARMED l.idx = true)
    [((hbUp 1000).modDepLane .b fun x => { x with hb := { first := true, since := 0 } }, .b, 77),
     (hbUp 1000, .b, 1),
     (hbUp 1, .b, 1),
     (hbUp 1000, .b, 2)]) ∧
  (holds3 (fun (s : State) (l : Lane) (_ : BitVec 8) =>
    s.canonical = true ∧ s.writable l = true ∧ (s.run l).phase ≠ .portFault)
    [(hbUp 1000, .a, 1)]) ∧
  (holds2 (fun (s : State) (l : Lane) =>
    s.canonical = true ∧ s.depOn = true ∧ s.on .ds R.DSP_Lx_STATUS.ARMED l.idx = true)
    [(hbUp 1000, .b)]) ∧
  (holds1 (fun (s : State) =>
    s.canonical = true ∧ s.depOn = true)
    [reg .ds R.DSP_ALIVE.COUNT 255 up]) ∧
  (holds2 (fun (s : State) (l : Lane) =>
    s.canonical = true ∧ s.past l 14 = true ∧ (s.run l).phase ≠ .portFault ∧ s.dsLost l = false ∧
    (s.run l).sup.suspectAt = none ∧ ((s.run l).pwr.nap = .run ∨ (s.run l).pwr.nap = .entering))
    [(up.modSup .a fun x => { x with seenAt := 1000000 }, .a)]) ∧
  (holds3 (fun (s : State) (l : Lane) (x : Nat) =>
    s.canonical = true ∧ s.past l 14 = true ∧ (s.run l).phase ≠ .portFault ∧ (s.run l).sup.suspectAt = some x)
    [(up.modSup .a fun x => { x with suspectAt := some 1000000 }, .a, 1000000),
     (reg .la R.LNK_STATUS.LINK_UP 1 ((up.modSup .a fun x => { x with suspectAt := some 999500 }).modLnk .a fun k => { k with lastState := some 999501, partnerDeputySeen := true }), .a, 999500)]) ∧
  (holds2 (fun (s : State) (l : Lane) =>
    s.canonical = true ∧ (s.run l).phase = .portFault)
    [(up.modRun .a fun r => { r with phase := .portFault, sup := { r.sup with suspectAt := some 995000 } }, .a)]) ∧
  (holds4 (fun (s : State) (l : Lane) (cls : Fin 8) (c : FaultClass) =>
    s.canonical = true ∧ s.alive l = true ∧ s.depOn = true ∧ classOf cls = some c)
    [(up, .a, 3, .na),
     (up, .b, 6, .sb),
     (up, .b, 1, .lb)]) :=
  ⟨by decide, by decide, by decide, by decide, by decide, by decide, by decide, by decide⟩

theorem witness_SafeStopsAndDegradedTimersAct :
  (holds1 (fun (s : State) =>
    s.canonical = true ∧ s.depOn = true ∧ s.on .ds R.DSP_DEG_STATUS.RUNNING = true)
    [reg .ds R.DSP_DEG_STATUS.RUNNING 1 up,
     reg .ds R.DSP_SS_STATUS.FORM 2 (reg .ds R.DSP_DEG_STATUS.RUNNING 1 up)]) ∧
  (holds3 (fun (s : State) (l : Lane) (e : Nat) =>
    s.canonical = true ∧ s.alive l = true ∧ (s.run l).sup.tim7 = true ∧ s.timEnd l 7 = some e)
    [((up.modSup .a fun x => { x with tim7 := true }).modTim .a 7 fun k => { k with start := some 0, load := 1000, unit := 100000 }, .a, 100000000)]) ∧
  (holds2 (fun (s : State) (l : Lane) =>
    s.canonical = true ∧ s.depOn = true ∧ s.past l 14 = true ∧ (s.run l).phase ≠ .portFault)
    [(reg .ds R.DSP_DEG_STATUS.RUNNING 1 (up.modDep fun d => { d with degEnd := 1000001 }), .a)]) ∧
  (holds3 (fun (s : State) (l : Lane) (k : Fin 12) =>
    s.canonical = true ∧ s.writable l = true ∧ (s.run l).phase ≠ .portFault ∧ s.granted l = true ∧
    s.on .ds R.DSP_SS_STATUS.RAMP_RUN = true ∧
    (s.rd .ds R.DSP_SOk_CFG.FUNC k = soSto ∨ s.rd .ds R.DSP_SOk_CFG.FUNC k = soContactor))
    [(reg .ds R.DSP_SOk_STATUS.HS 1 (reg .ds R.DSP_SOk_CFG.FUNC soSto (reg .ds R.DSP_SS_STATUS.RAMP_RUN 1 (reg .ds R.DSP_GRANT.STATE 2 up)) (i := 11)) (i := 11), .b, 11)]) ∧
  (holds2 (fun (s : State) (l : Lane) =>
    s.canonical = true ∧ s.writable l = true ∧ (s.run l).phase ≠ .portFault ∧ s.depOn = true)
    [(reg .ds R.DSP_STATUS.SAFE_STOP 1 up, .b),
     (up, .b)]) ∧
  (holds2 (fun (s : State) (l : Lane) =>
    s.canonical = true ∧ s.depOn = true ∧ s.rd .ds R.DSP_SS_STATUS.FORM = 1 ∧
    s.on .ds R.DSP_SS_STATUS.OUTPUTS_OPEN = true ∧ s.on .ds R.DSP_SS_STATUS.BRAKE_WIN_EXP = false ∧
    s.isLost (lossOf l) = false ∧ s.on .ds (brakeFld l) = false ∧ (s.single = false ∨ l = .a) ∧
    (s.pap l).powered = true)
    [(reg .ds R.DSP_SS_STATUS.FORM 1 (reg .ds R.DSP_SS_STATUS.OUTPUTS_OPEN 1 up), .b)]) ∧
  (holds1 (fun (s : State) =>
    s.canonical = true ∧ s.depOn = true ∧ s.rd .ds R.DSP_SS_STATUS.FORM = 1 ∧
    s.on .ds R.DSP_SS_STATUS.OUTPUTS_OPEN = true ∧ s.on .ds R.DSP_SS_STATUS.BRAKE_WIN_EXP = false ∧
    (∀ l ∈ lanes, s.isLost (lossOf l) = true ∨ s.on .ds (brakeFld l) = true))
    [reg .ds R.DSP_SS_STATUS.BRAKE_A 1 (reg .ds R.DSP_SS_STATUS.BRAKE_B 1 (reg .ds R.DSP_SS_STATUS.FORM 1 (reg .ds R.DSP_SS_STATUS.OUTPUTS_OPEN 1 up)))]) :=
  ⟨by decide, by decide, by decide, by decide, by decide, by decide, by decide⟩

theorem witness_SafeOutputsAreCommandedTestedAndLimited :
  (holds4 (fun (s : State) (l : Lane) (k : Fin 12) (_ : BitVec 22) =>
    s.canonical = true ∧ s.writable l = true ∧ s.depOn = true ∧ s.rd .ds R.DSP_SOk_CFG.FUNC k = soContactor ∧
    s.soMay k = true ∧ s.on .ds R.DSP_SOk_STATUS.FAIL k = false ∧ s.dep.test = none)
    [(nrgUp .a, .a, 5, 0x3FFFFF),
     (nrgUp .a |> ctrIn 5 .hold, .a, 5, 0x3FFFFE),
     (nrgUp .a, .b, 5, 1)]) ∧
  (holds4 (fun (s : State) (l : Lane) (_ : Fin 12) (_ : BitVec 22) =>
    s.canonical = true ∧ s.writable l = true ∧ s.depOn = true ∧ s.master = l ∧ s.dep.test = none)
    [(reg .ds R.DSP_SOk_CFG.FUNC soGeneral (nrgUp .a) (i := 11), .a, 11, 1),
     (reg .ds R.DSP_SOk_STATUS.FAIL 1 (reg .ds R.DSP_SOk_CFG.FUNC soGeneral (nrgUp .a) (i := 11)) (i := 11), .a, 11, 1),
     (reg .ds R.DSP_SOk_CFG.FUNC soSto (nrgUp .a) (i := 11), .a, 11, 1)]) ∧
  (holds4 (fun (s : State) (k : Fin 12) (fb ls : Bool) =>
    s.canonical = true ∧ s.depOn = true ∧
    (fb ≠ s.on .ds R.DSP_SOk_STATUS.HS k ∨ (s.chopping k = false ∧ ls ≠ (s.on .ds R.DSP_SOk_STATUS.HS k && !s.on .ds R.DSP_SOk_STATUS.LS k))))
    [(up, 11, true, false),
     (nrgUp .a, 5, true, true)]) ∧
  (holds3 (fun (s : State) (_ : List SoRead) (x : Nat) =>
    s.canonical = true ∧ s.depOn = true ∧ (s.dep.startTest = true ∨ (s.dep.roundDue = some x ∧ s.depParked = false)))
    [(reg .ds R.DSP_MODE.MODE modeService <| reg .ds R.DSP_SOk_CFG.TEST_EN 1 (reg .ds R.DSP_SO_TEST.PERIOD 60 (up.modDep fun d => { d with roundDue := some 2000000 })) (i := 11), [], 2000000),
     (reg .ds R.DSP_SOk_CFG.TEST_EN 1 (up.modDep fun d => { d with startTest := true }) (i := 11), [{ out := 11, fb1 := false, ls1 := true, fb2 := true, cut := .none }], 0)]) ∧
  (holds5 (fun (s : State) (l : Lane) (k : Fin 12) (out : Fin 16) (_ : SoRead) =>
    s.canonical = true ∧ s.writable l = true ∧ s.depOn = true ∧ out.val = k.val)
    [(reg .ds R.DSP_MODE.MODE modeService up, .a, 11, 11, { out := 11, fb1 := true, ls1 := false, fb2 := true, cut := .open }),
     (reg .ds R.DSP_MODE.MODE modeService up, .a, 11, 11, { out := 11, fb1 := true, ls1 := false, fb2 := true, cut := .none }),
     (reg .ds R.DSP_MODE.MODE modeService up, .a, 11, 11, { out := 11, fb1 := true, ls1 := true, fb2 := true, cut := .none }),
     (up, .a, 11, 11, { out := 11, fb1 := true, ls1 := false, fb2 := true, cut := .none })]) ∧
  (holds2 (fun (s : State) (k : Fin 12) =>
    s.canonical = true ∧ s.depOn = true ∧ s.soOpen k = false)
    [(reg .ds R.DSP_SOk_STATUS.HS 1 up (i := 11), 11)]) :=
  ⟨by decide, by decide, by decide, by decide, by decide, by decide⟩

theorem witness_ClampAndBrakeApplicationsProceed :
  (holds2 (fun (s : State) (l : Lane) =>
    s.canonical = true ∧ (s.pap l).powered = true ∧ (s.pap l).clamp.line = true ∧ (s.pap l).clamp.phase = .off)
    [(up.modClamp .b fun c => { c with line := true }, .b),
     (reg .pb R.PAP_CLAMP_FRAME1.MASK 0x8001 (up.modClamp .b fun c => { c with line := true, frame := some (10, 20, 5, 50) }), .b)]) ∧
  (holds6 (fun (s : State) (l : Lane) (i r x hold : Nat) =>
    s.canonical = true ∧ (s.pap l).clamp.phase = .apply ∧ (s.pap l).clamp.frame = some (i, r, x, hold))
    [(up.modClamp .b fun c => { c with phase := .apply, at_ := 1000000, duty := (1, 2), frame := some (10, 20, 5, 50) }, .b, 10, 20, 5, 50)]) ∧
  (holds2 (fun (s : State) (l : Lane) =>
    s.canonical = true ∧ (s.pap l).clamp.phase = .default25)
    [(up.modClamp .b fun c => { c with phase := .default25 }, .b)]) ∧
  (holds3 (fun (s : State) (_ : Lane) (_ : List (BitVec 8)) =>
    s.canonical = true ∧ s.depOn = true ∧ s.on .ds R.DSP_SEAL.SEALED = true)
    [(reg .ds R.DSP_CLAMP_MASK.MASK_B 0x8001 (reg .ds R.DSP_SEAL.SEALED 1 up), .b, [0]),
     (reg .ds R.DSP_CLAMP_MASK.MASK_B 0x8001 (reg .ds R.DSP_SEAL.SEALED 1 up), .b, [0, 2])]) ∧
  (holds3 (fun (s : State) (l : Lane) (_ : Nat) =>
    s.canonical = true ∧ (s.pap l).powered = true ∧ s.clampRuns l = true)
    [(up.modClamp .b fun c => { c with phase := .apply, frame := some (10, 20, 5, 50) }, .b, 480),
     (up.modClamp .b fun c => { c with phase := .apply, frame := some (240, 20, 5, 50) }, .b, 480),
     (up.modClamp .b fun c => { c with phase := .hold, frame := some (240, 20, 5, 50) }, .b, 480)]) ∧
  (holds2 (fun (s : State) (l : Lane) =>
    s.canonical = true ∧ s.writable l = true ∧ (s.pap l).powered = true)
    [(reg .pb R.PAP_BRK_CFG.MASK 0x8001 up, .b),
     (up.modClamp .b fun c => { c with phase := .hold }, .b)]) ∧
  (holds2 (fun (s : State) (l : Lane) =>
    s.canonical = true ∧ s.writable l = true ∧ (s.pap l).powered = true ∧
    s.on (papDie l) R.PAP_BRK_STATUS.ACTIVE = true)
    [(reg .pb R.PAP_BRK_STATUS.ACTIVE 1 up, .b),
     (reg .lb R.CFG_MODE.SAFE_STOP 1 (reg .pb R.PAP_BRK_STATUS.ACTIVE 1 up), .b)]) ∧
  (holds3 (fun (s : State) (l : Lane) (cs : List Nat) =>
    s.canonical = true ∧ s.on (papDie l) R.PAP_BRK_STATUS.ACTIVE = true ∧ cs ≠ [])
    [(reg .pb R.PAP_BRK_STATUS.ACTIVE 1 (up.modClamp .b fun c => { c with brakeMa := 20000 }), .b, [20000, 19000]),
     (reg .pb R.PAP_BRK_STATUS.ACTIVE 1 (up.modClamp .b fun c => { c with brakeMa := 20000 }), .b, [20000, 17999])]) ∧
  (holds3 (fun (s : State) (l : Lane) (x : Nat) =>
    s.canonical = true ∧ s.on (papDie l) R.PAP_BRK_STATUS.ACTIVE = true ∧ (s.pap l).clamp.brakeOk = some x)
    [(reg .pb R.PAP_BRK_STATUS.ACTIVE 1 (up.modClamp .b fun c => { c with brakeOk := some 950000 }), .b, 950000)]) :=
  ⟨by decide, by decide, by decide, by decide, by decide, by decide, by decide, by decide, by decide⟩

theorem witness_LockstepAndCheckValueUnitsJudge :
  (holds4 (fun (s : State) (l : Lane) (fs : List CheckFault) (f : CheckFault) =>
    s.canonical = true ∧ s.alive l = true ∧ s.depOn = true ∧ worstFault (fs.filter fun f => s.compared l f) = some f ∧
    s.on (laneDie l) R.LCK_FAULT.VALID = false)
    [(up, .b, [{ cp := true, kind := 3, group := 15, stage := true }], { cp := true, kind := 3, group := 15, stage := true }),
     (up, .a, [{ cp := true, kind := 2, group := 0, stage := true }, { cp := false, kind := 1, group := 4, stage := false }, { cp := false, kind := 1, group := 3, stage := false }], { cp := false, kind := 1, group := 3, stage := false })]) ∧
  (holds3 (fun (s : State) (l : Lane) (fs : List CheckFault) =>
    s.on (laneDie l) R.LCK_FAULT.VALID = true ∨ (fs.filter fun f => s.compared l f) = [])
    [(reg .lb R.LCK_FAULT.VALID 1 up, .b, [{ cp := true, kind := 3, group := 15, stage := true }]),
     (up.wrBit .lb R.LCK_STATUS.DEBUG_SPLIT 1 true, .b, [{ cp := true, kind := 1, group := 15, stage := true }])]) ∧
  (holds3 (fun (s : State) (l : Lane) (x : Nat) =>
    s.canonical = true ∧ (s.run l).lckAt = some x ∧ (s.run l).phase = .stopped ∧
    (s.on (laneDie l) R.LCK_CFG.HALT && s.rd (laneDie l) R.SEC_LC.STATE == lcDevelop) = false)
    [(reg .lb R.LCK_FAULT.VALID 1 (reg .lb R.LCK_FAULT.KIND 3 (up.modRun .b fun r => { r with phase := .stopped, lckAt := some 995000 })), .b, 995000)]) ∧
  (holds3 (fun (s : State) (l : Lane) (x : Nat) =>
    (s.run l).lckAt = some x ∧ s.on (laneDie l) R.LCK_CFG.HALT = true ∧ s.rd (laneDie l) R.SEC_LC.STATE = lcDevelop)
    [(reg .lb R.LCK_CFG.HALT 1 (reg .lb R.SEC_LC.STATE 1 (up.modRun .b fun r => { r with phase := .stopped, lckAt := some 995000 })), .b, 995000)]) ∧
  (holds3 (fun (s : State) (l : Lane) (_ : Bool) =>
    s.canonical = true ∧ s.alive l = true ∧ (s.run l).phase ≠ .stopped ∧ s.debugOpen l = true ∧ s.depOn = true)
    [(reg .lb R.SEC_LC.DEBUG 2 (reg .lb R.LNK_STATUS.AUTH_REQ 1 (reg .ds R.DSP_Lx_STATUS.ARMED 1 (reg .ds R.DSP_MODE.MODE modeService up) (i := 1))), .b, true),
     (reg .lb R.SEC_LC.DEBUG 2 (reg .lb R.LNK_STATUS.ROLE roleHot (reg .ds R.DSP_MODE.MODE modeDrive up)), .b, false),
     (reg .la R.SEC_LC.DEBUG 2 (reg .ds R.DSP_MODE.MODE modeParked up), .a, false)]) ∧
  (holds4 (fun (s : State) (l : Lane) (who : Initiator) (_ : Fin 4) =>
    s.canonical = true ∧ s.canAccess l who = true)
    [(reg .lb R.CVU_Un_STATUS.BUSY 1 up (i := 3), .b, .ap, 3)]) ∧
  (holds6 (fun (s : State) (l : Lane) (who : Initiator) (n : Fin 4) (_ : BitVec 32) (_ : Bool) =>
    s.canonical = true ∧ s.canAccess l who = true ∧ s.on (laneDie l) R.CVU_Un_STATUS.BUSY n = true ∧
    s.rd (laneDie l) R.CVU_Un_STATUS.OWNER n = who.code)
    [(reg .lb R.CVU_Un_STATUS.BUSY 1 (reg .lb R.CVU_Un_STATUS.OWNER Initiator.cp.code (up.modCvu .b 3 fun c => { c with bytes := [1] }) (i := 3)) (i := 3), .b, .cp, 3, 0x80000001, false),
     (reg .lb R.CVU_Un_STATUS.BUSY 1 (reg .lb R.CVU_Un_STATUS.OWNER Initiator.cp.code (up.modCvu .b 3 fun c => { c with bytes := [1] }) (i := 3)) (i := 3), .b, .cp, 3, 0x80000001, true)]) ∧
  (holds6 (fun (s : State) (l : Lane) (who : Initiator) (_ : Fin 4) (_ : BitVec 32) (_ : Bool) =>
    s.canonical = true ∧ s.canAccess l who = true)
    [(up, .b, .ap, 3, 7, true),
     (reg .lb R.CVU_Un_STATUS.BUSY 1 (reg .lb R.CVU_Un_STATUS.OWNER Initiator.cp.code up (i := 3)) (i := 3), .b, .ap, 3, 7, true)]) ∧
  (holds4 (fun (s : State) (l : Lane) (who : Initiator) (n : Fin 4) =>
    s.canonical = true ∧ s.canAccess l who = true ∧ s.on (laneDie l) R.CVU_Un_STATUS.BUSY n = true ∧
    s.rd (laneDie l) R.CVU_Un_STATUS.OWNER n = who.code)
    [(reg .lb R.CVU_Un_CFG.MODE 1 (reg .lb R.CVU_Un_STATUS.BUSY 1 (reg .lb R.CVU_Un_STATUS.OWNER Initiator.cp.code (up.modCvu .b 3 fun c => { c with bytes := [1], fresh := false }) (i := 3)) (i := 3)) (i := 3), .b, .cp, 3),
     (up.modCvu .b 3 (fun c => { c with fresh := false }) |> fun s => reg .lb R.CVU_Un_CFG.ALIVE_EN 1 (reg .lb R.CVU_Un_CFG.MODE 1 (reg .lb R.CVU_Un_STATUS.BUSY 1 (reg .lb R.CVU_Un_STATUS.LAST_ALIVE 15 s (i := 3)) (i := 3)) (i := 3)) (i := 3) |> reg .lb R.CVU_Un_STATUS.OWNER Initiator.cp.code (i := 3) |> reg .lb R.CVU_Un_ALIVE.COUNTER 2 (i := 3) |> reg .lb R.CVU_Un_CFG.MAX_DELTA 2 (i := 3), .b, .cp, 3),
     (up.modCvu .b 3 (fun c => { c with fresh := false }) |> fun s => reg .lb R.CVU_Un_CFG.ALIVE_EN 1 (reg .lb R.CVU_Un_CFG.MODE 1 (reg .lb R.CVU_Un_STATUS.BUSY 1 (reg .lb R.CVU_Un_STATUS.LAST_ALIVE 15 s (i := 3)) (i := 3)) (i := 3)) (i := 3) |> reg .lb R.CVU_Un_STATUS.OWNER Initiator.cp.code (i := 3) |> reg .lb R.CVU_Un_ALIVE.COUNTER 15 (i := 3), .b, .cp, 3),
     (up |> fun s => reg .lb R.CVU_Un_CFG.ALIVE_EN 1 (reg .lb R.CVU_Un_CFG.MODE 1 (reg .lb R.CVU_Un_STATUS.BUSY 1 (reg .lb R.CVU_Un_STATUS.LAST_ALIVE 15 s (i := 3)) (i := 3)) (i := 3)) (i := 3) |> reg .lb R.CVU_Un_STATUS.OWNER Initiator.cp.code (i := 3) |> reg .lb R.CVU_Un_ALIVE.COUNTER 9 (i := 3) |> fun s => reg .lb R.CVU_Un_EXPECT.VALUE (s.cvuValue .b 3) s (i := 3), .b, .cp, 3)]) ∧
  (holds4 (fun (s : State) (l : Lane) (who : Initiator) (_ : Fin 4) =>
    s.canonical = true ∧ s.canAccess l who = true)
    [(reg .lb R.CVU_Un_STATUS.BUSY 1 (reg .lb R.CVU_Un_STATUS.OWNER Initiator.cp.code (up.modCvu .b 3 fun c => { c with bytes := [1], fresh := false }) (i := 3)) (i := 3), .b, .cp, 3)]) :=
  ⟨by decide, by decide, by decide, by decide, by decide, by decide, by decide, by decide, by decide, by decide⟩

theorem witness_SuppliesRiseFallAndReset :
  (holds2 (fun (s : State) (l : Lane) =>
    s.canonical = true ∧ s.island l = false ∧ s.storage = false ∧ (s.pap l).shutdown = false)
    [(State.reset, .b)]) ∧
  (holds3 (fun (s : State) (l : Lane) (_ : IslandSupply) =>
    s.canonical = true ∧ s.island l = true ∧ s.depOn = true)
    [(up, .b, .vddc),
     (up, .a, .vbat),
     ((up.modRun .b fun r => { r with phase := .off }).modDepLane .a fun x => { x with st19 := true }, .b, (.vddio 2))]) ∧
  (holds3 (fun (s : State) (l : Lane) (sup : IslandSupply) =>
    s.canonical = true ∧ s.island l = false ∧ s.supplyOn l sup = true)
    [((up.setIsland .b false).setSupplies .b 0x3FE, .b, .vddc),
     ((up.setIsland .b false).setSupplies .b 1, .b, .vbat)]) ∧
  (holds6 (fun (s : State) (_ _ : Bool) (_ _ _ : Nat) =>
    s.canonical = true ∧ s.depOn = false ∧ s.storage = false ∧ s.dep.coolAt = none ∧ s.dep.phase = .unpowered)
    [(State.reset, true, false, 9000, 0, 8999),
     (State.reset, true, false, 8999, 8999, 8999)]) ∧
  (holds1 (fun (s : State) =>
    s.canonical = true ∧ s.depOn = true ∧ ((s.run .a).phase ≠ .off ∨ (s.run .b).phase ≠ .off))
    [up,
     reg .lb R.LNK_STATUS.GRANTED 1 (up.modRun .a fun r => { r with phase := .off })]) ∧
  (holds3 (fun (s : State) (l : Lane) (ns : Nat) =>
    s.canonical = true ∧ s.island l = true ∧ (ns < 200 ∨ 1000 ≤ ns))
    [(up, .b, 1000),
     (up, .b, 199),
     (up.modRun .b fun r => { r with phase := .off }, .b, 1000)]) ∧
  (holds2 (fun (s : State) (pin : Fin 2) =>
    s.canonical = true ∧ s.depOn = true ∧
    s.on .ds (if pin = 0 then R.DSP_WAKE_CFG.WAKE0_EN else R.DSP_WAKE_CFG.WAKE1_EN) = true)
    [(reg .ds R.DSP_WAKE_CFG.WAKE1_EN 1 up, 1)]) ∧
  (holds2 (fun (s : State) (_ : Nat) =>
    s.canonical = true ∧ s.depOn = true ∧ s.dep.oscOn = true ∧ s.on .ds R.DSP_PK_INFO.SOURCE = false)
    [(up.modDep fun d => { d with oscOn := true }, 32768000)]) :=
  ⟨by decide, by decide, by decide, by decide, by decide, by decide, by decide, by decide⟩

theorem witness_RailLinkCommandsAndAnswers :
  (holds3 (fun (s : State) (l : Lane) (who : Initiator) =>
    s.canonical = true ∧ s.canAccess l who = true)
    [(reg .lb R.SYS_VDD_FLOOR.FLOOR_800 41 (reg .lb R.SYS_VDD_REQ.CODE 40 up), .b, .ap),
     (reg .lb R.SYS_VDD_REQ.CODE 141 up, .b, .ap),
     (reg .lb R.SYS_PWR_STATUS.BUSY 1 (reg .lb R.SYS_VDD_REQ.CODE 140 up), .b, .ap),
     (reg .lb R.SYS_VDD_DL_LO.DL 100000000 (reg .lb R.SYS_VDD_REQ.CODE 140 up), .b, .ap)]) ∧
  (holds5 (fun (s : State) (l : Lane) (e : TalEntry) (target : Nat) (_ : BitVec 32) =>
    s.canonical = true ∧ s.nextSet l = some e ∧ e.job = .vdd target ∧ s.alive l = true ∧ (s.vrc l).running = true ∧
    e.id < 128 ∧ target < 256)
    [(tally .b [ent 7 14 .waiting (.vdd 100)] (up.modVrc .b fun v => { v with running := true, code := 90, target := 90 }), .b, (ent 7 14 .waiting (.vdd 100)), 100, 0),
     (tally .b [ent 7 14 .waiting (.vdd 100)] (up.modVrc .b fun v => { v with running := true, code := 90, target := 90 }), .b, (ent 7 14 .waiting (.vdd 100)), 100, 1)]) ∧
  (holds6 (fun (s : State) (l : Lane) (tag code : Nat) (rest : List RailFrame) (_ : BitVec 32) =>
    s.canonical = true ∧ (s.vrc l).owed = .ack tag code :: rest ∧ s.alive l = true ∧ tag < 128 ∧ code < 256)
    [(up.modVrc .b fun v => { v with owed := [.ack 7 100] }, .b, 7, 100, [], 4),
     ((up.modVrc .b fun v => { v with owed := [.ack 7 100, .ack 8 1] }).modPwr .b fun p => { p with nap := .waking }, .b, 7, 100, [.ack 8 1], 0)]) ∧
  (holds6 (fun (s : State) (l : Lane) (tag code : Nat) (rest : List RailFrame) (_ : BitVec 32) =>
    s.canonical = true ∧ (s.vrc l).owed = .superseded tag code :: rest ∧ s.alive l = true ∧ tag < 128 ∧ code < 256)
    [(up.modVrc .b fun v => { v with owed := [.superseded 7 100] }, .b, 7, 100, [], 0),
     (up.modVrc .b fun v => { v with owed := [.superseded 7 100] }, .b, 7, 100, [], 4096)]) ∧
  (holds3 (fun (s : State) (l : Lane) (_ : BitVec 32) =>
    s.canonical = true ∧ s.alive l = true ∧ (s.vrc l).running = true ∧ (s.vrc l).owed = [])
    [(reg .pb R.VRC_CORE_STATUS.SHED 3 (reg .pb R.VRC_CORE_MEAS.VDDC 1280 ((up.modVrc .b fun v => { v with running := true, code := 90, target := 90 }).modPwr .b fun p => { p with sent := some 7, unsure := [6, 7] })), .b, 0),
     (up.modVrc .b fun v => { v with running := true, code := 90, target := 90 }, .b, 1)]) ∧
  (holds2 (fun (s : State) (_ : Lane) =>
    s.canonical = true)
    [(reg .lb R.SYS_RLK_STATUS.UP 1 (up.modVrc .b fun v => { v with running := true, seen := true }), .b)]) :=
  ⟨by decide, by decide, by decide, by decide, by decide, by decide⟩

theorem witness_PowerStatesAndCoreRailController :
  (holds2 (fun (s : State) (_ : Lane) =>
    s.canonical = true)
    [(up, .b),
     (reg .lb R.SYS_PWR_STATUS.STATE 1 up, .b)]) ∧
  (holds4 (fun (s : State) (l : Lane) (_ : Bool) (_ : Fin 9) =>
    s.canonical = true ∧ s.writable l = true ∧ s.on (laneDie l) R.SYS_PWR_STATUS.BUSY = false ∧
    (s.modeOf l = modeReady ∨ s.modeOf l = modeService ∨ s.modeOf l = modeStationary) ∧
    (s.rd (laneDie l) R.SYS_WAKE_CFG.TIM ≠ 0 ∨ s.on (laneDie l) R.SYS_WAKE_CFG.DEPUTY = true))
    [(reg .lb R.CFG_MODE.MODE modeReady (reg .lb R.SYS_WAKE_CFG.DEPUTY 1 (reg .lb R.SEC_LC.DEBUG 0 (reg .lb R.SEC_LC.STATE 3 up))), .b, true, 0),
     (reg .lb R.CFG_MODE.MODE modeReady (reg .lb R.SYS_WAKE_CFG.DEPUTY 1 (reg .lb R.SEC_LC.DEBUG 0 (reg .lb R.SEC_LC.STATE 3 up))), .b, false, 0),
     (reg .lb R.CFG_MODE.MODE modeReady (reg .lb R.SYS_WAKE_CFG.DEPUTY 1 (reg .lb R.SEC_LC.DEBUG 0 (reg .lb R.SEC_LC.STATE 3 up))), .b, false, 8)]) ∧
  (holds3 (fun (s : State) (l : Lane) (_ : BitVec 32) =>
    s.canonical = true ∧ (s.pwr l).nap = .entering ∧ (s.vrc l).running = true)
    [((up.modVrc .b fun v => { v with running := true, code := 90, target := 90 }).modPwr .b fun p => { p with nap := .entering }, .b, 1),
     (reg .pb R.VRC_CORE_STATUS.SHED shedP1 ((up.modVrc .b fun v => { v with running := true, nap := true, code := 90, target := 0, slewAt := 999999 }).modPwr .b fun p => { p with nap := .entering }), .b, 0)]) ∧
  (holds2 (fun (s : State) (l : Lane) =>
    s.canonical = true ∧ s.alive l = true ∧ s.on (laneDie l) R.SYS_WAKE_CFG.DEPUTY = true ∧ (s.pwr l).nap = .nap)
    [(reg .lb R.SYS_WAKE_CFG.DEPUTY 1 (up.modPwr .b fun p => { p with nap := .nap }), .b)]) ∧
  (holds3 (fun (s : State) (l : Lane) (n : Fin 8) =>
    s.canonical = true ∧ s.alive l = true ∧ s.rdBit (laneDie l) R.SYS_WAKE_CFG.TIM n = true ∧
    s.on (laneDie l) R.TIM_Tn_STATUS.EXPIRED n = true ∧ (s.pwr l).nap = .nap)
    [(reg .lb R.TIM_Tn_STATUS.EXPIRED 1 (reg .lb R.SYS_WAKE_CFG.TIM 128 (up.modPwr .b fun p => { p with nap := .nap })) (i := 7), .b, 7)]) ∧
  (holds2 (fun (s : State) (l : Lane) =>
    s.canonical = true ∧ s.alive l = true ∧ s.on (laneDie l) R.SYS_WAKE_CFG.DEPUTY = true ∧ (s.pwr l).nap = .entering)
    [(reg .lb R.SYS_WAKE_CFG.DEPUTY 1 (up.modPwr .b fun p => { p with nap := .entering }), .b)]) ∧
  (holds2 (fun (s : State) (l : Lane) =>
    s.canonical = true ∧ (s.pwr l).nap = .waking ∧ (s.vrc l).running = true ∧ (s.vrc l).nap = true ∧
    (s.pwr l).runCode < 256)
    [((up.modVrc .b fun v => { v with running := true, nap := true }).modPwr .b fun p => { p with nap := .waking, runCode := 95 }, .b)]) ∧
  (holds3 (fun (s : State) (l : Lane) (x : Nat) =>
    (s.vrc l).running = true ∧ (s.vrc l).okAt = some x ∧ ((s.vrc l).tag ≠ none ∨ (s.vrc l).wake = true))
    [(up.modVrc .b fun v => { v with running := true, tag := some 7, code := 90, target := 100, slewAt := 1000000, okAt := some 1000400 }, .b, 1000400),
     (up.modVrc .b fun v => { v with running := true, wake := true, code := 90, target := 90, okAt := some 999000 }, .b, 999000)]) ∧
  (holds3 (fun (s : State) (l : Lane) (m : RailSample) =>
    s.canonical = true ∧ s.canonical = true ∧ (s.vrc l).running = true ∧ m.vddc < 2 ^ 11)
    [(reg .pb R.VRC_LIMIT.OC 5 (reg .pb R.VRC_CORE_STATUS.SHED shed21 (up.modVrc .b fun v => { v with running := true, code := 90, target := 90, e1 := 5 })), .b, { vddc := 1319, phases := [1, -2, 3, 4], peaks := [51, 50, 52, -3] }),
     (reg .pb R.VRC_CORE_STATUS.SHED shedRestore (up.modVrc .b fun v => { v with running := true, shedAt := 999951, updAt := 999970, code := 90, target := 90, e1 := 5 }), .b, { vddc := 1319, phases := [], peaks := [] }),
     (reg .pb R.VRC_CORE_STATUS.SHED shedRestore (up.modVrc .b fun v => { v with running := true, shedAt := 999951, updAt := 999976, code := 90, target := 90, e1 := 5 }), .b, { vddc := 1319, phases := [], peaks := [] })]) ∧
  (holds3 (fun (s : State) (l : Lane) (x : Nat) =>
    s.canonical = true ∧ (s.vrc l).running = true ∧ (s.vrc l).lowAt = some x ∧
    s.on (papDie l) R.VRC_CORE_CFG.SHED_EN = true ∧ s.slewing l = false ∧ (s.vrc l).nap = false ∧
    (s.shed l = shedP4 ∧ (s.vrc l).iNow < 10 * (s.rd (papDie l) R.VRC_SHED_CFG.SHED2 : Nat) ∨ s.shed l = shedP2 ∧ (s.vrc l).iNow < 10 * (s.rd (papDie l) R.VRC_SHED_CFG.SHED1 : Nat)))
    [(reg .pb R.VRC_SHED_CFG.SHED2 10 (reg .pb R.VRC_CORE_CFG.SHED_EN 1 (up.modVrc .b fun v => { v with running := true, iNow := 99, lowAt := some 999990 })), .b, 999990),
     (reg .pb R.VRC_SHED_CFG.SHED1 10 (reg .pb R.VRC_CORE_STATUS.SHED shedP2 (reg .pb R.VRC_CORE_CFG.SHED_EN 1 (up.modVrc .b fun v => { v with running := true, iNow := -5, lowAt := some 999900 }))), .b, 999900)]) ∧
  (holds2 (fun (s : State) (l : Lane) =>
    s.canonical = true ∧ (s.vrc l).running = true)
    [(reg .pb R.VRC_CORE_STATUS.SHED shed21 (up.modVrc .b fun v => { v with running := true, iNow := 10000 }), .b),
     (reg .pb R.VRC_CORE_STATUS.SHED shed42 (up.modVrc .b fun v => { v with running := true, nap := true }), .b)]) :=
  ⟨by decide, by decide, by decide, by decide, by decide, by decide, by decide, by decide, by decide, by decide, by decide⟩

theorem witness_TemperaturesKeepersAndLampsAct :
  (holds4 (fun (s : State) (l : Lane) (m : ThmSample) (y : Int) =>
    s.canonical = true ∧ s.past l 3 = true ∧ ((s.pwr l).nap = .run ∨ (s.pwr l).nap = .entering) ∧ m.die.head? = some y)
    [(up.modThm .b fun x => { x with started := some 900000, lastAt := 950000 }, .b, { die := [-400, 250], pap := [250], dep := [25], ntc := [30000] }, (-400)),
     (up.modPwr .b fun p => { p with nap := .entering }, .b, { die := [250], pap := [], dep := [25], ntc := [] }, 250)]) ∧
  (holds3 (fun (s : State) (l : Lane) (_ : Fin 12) =>
    s.canonical = true ∧ (s.pap l).shutdown = false ∧ (s.pap l).powered = true ∧ s.island l = true)
    [(up, .b, 11)]) ∧
  (holds3 (fun (s : State) (l : Lane) (_ : Fin 12) =>
    (s.pap l).shutdown = true)
    [(up.modPap .b fun p => { p with shutdown := true, coolAt := 7 }, .b, 0)]) ∧
  (holds2 (fun (s : State) (_ : Fin 2) =>
    s.canonical = true)
    [(up, 1),
     (State.reset.modDep fun d => { d with coolAt := some 7 }, 0)]) ∧
  (holds2 (fun (s : State) (l : Lane) =>
    s.canonical = true ∧ (s.pap l).shutdown = true)
    [(up.modPap .b fun p => { p with shutdown := true, coolAt := 1000000 }, .b)]) ∧
  (holds2 (fun (s : State) (x : Nat) =>
    s.dep.coolAt = some x)
    [(up.modDep fun d => { d with coolAt := some 1000000 }, 1000000)]) ∧
  (holds2 (fun (s : State) (l : Lane) =>
    s.canonical = true ∧ s.sup.vkeep = true ∧ s.on (papDie l) R.LVP_KEEP_STATUS.BTN = false ∧
    (s.keeper l).decided = none ∧ (s.keeper l).action = .none)
    [((fun s : State => { s with now := 9000000 }) up, .b)]) ∧
  (holds4 (fun (s : State) (l : Lane) (x : Nat) (_ : Nat) =>
    s.canonical = true ∧ s.sup.vkeep = true ∧ s.on (papDie l) R.LVP_KEEP_STATUS.BTN = true ∧
    (s.keeper l).pressAt = some x ∧ (s.keeper l).decided = none)
    [(reg .pb R.LVP_KEEP_STATUS.BTN 1 (up.modKeep .b fun k => { k with pressAt := some 5 }), .b, 5, 8000),
     (reg .pb R.LVP_KEEP_STATUS.BTN 1 (up.modKeep .b fun k => { k with pressAt := some 5 }), .b, 5, 20000),
     (reg .pb R.LVP_KEEP_STATUS.BTN 1 (up.modKeep .b fun k => { k with pressAt := some 5 }), .b, 5, 7999),
     (reg .pb R.LVP_KEEP_CTRL.ARM 0 (reg .pb R.LVP_KEEP_STATUS.BTN 1 (up.modKeep .b fun k => { k with pressAt := some 5 })), .b, 5, 8000),
     (reg .pb R.LVP_KEEP_CTRL.ARM 0 (reg .pb R.LVP_KEEP_STATUS.BTN 1 (up.modKeep .b fun k => { k with pressAt := some 5 })), .b, 5, 20000),
     (reg .pb R.LVP_KEEP_STATUS.BTN 1 { (State.reset.modKeep .b fun k => { k with pressAt := some 5 }) with storage := true, sup := { islA := false, islB := false, vkeep := true } }, .b, 5, 1000)]) ∧
  (holds3 (fun (s : State) (l : Lane) (x : Nat) =>
    s.canonical = true ∧ s.sup.vkeep = true ∧ (s.keeper l).pressAt = some x ∧ (s.keeper l).decided = none ∧
    s.armed l = true)
    [(up.modKeep .b fun k => { k with pressAt := some 5 }, .b, 5),
     ({ (State.reset.modKeep .b fun k => { k with pressAt := some 5 }) with storage := true, sup := { islA := false, islB := false, vkeep := true } }, .b, 5)]) ∧
  (holds4 (fun (s : State) (l : Lane) (a : KeepAction) (x : Nat) =>
    s.canonical = true ∧ s.sup.vkeep = true ∧ (s.keeper l).decided = some (a, x) ∧ a ≠ .none)
    [(up.modKeep .b fun k => { k with decided := some (.storageEntry, 999999) }, .b, .storageEntry, 999999),
     (up.modKeep .a fun k => { k with decided := some (.reset, 999999) }, .a, .reset, 999999),
     (up.modKeep .b fun k => { k with decided := some (.wake, 999999) }, .b, .wake, 999999),
     ({ up with storage := true }.modKeep .b fun k => { k with decided := some (.storageExit, 999999) }, .b, .storageExit, 999999)]) ∧
  (holds3 (fun (s : State) (l : Lane) (d : Nat) =>
    s.canonical = true ∧ s.sup.vkeep = true ∧ keepDelay (s.keeper l).action (s.keeper l).step = some d)
    [(up.modKeep .b fun k => { k with action := .storageEntry, stepAt := 1000000 }, .b, 100),
     (up.modKeep .b fun k => { k with action := .storageExit, stepAt := 1000000, swClose := true }, .b, 50),
     (up.modKeep .b fun k => { k with action := .storageEntry, stepAt := 1000000, swOpen := true, step := 1 }, .b, 150),
     (up.modKeep .b fun k => { k with action := .reset, stepAt := 1000000, swOpen := true, step := 1 }, .b, 150),
     (up.modKeep .b fun k => { k with action := .reset, stepAt := 1000000, step := 2 }, .b, 2100),
     (up.modKeep .b fun k => { k with action := .reset, stepAt := 1000000, swClose := true, step := 3 }, .b, 2150)]) ∧
  (holds1 (fun (s : State) =>
    s.depOn = true)
    [up.modDep fun d => { d with lampSlot := 7, firstHandshake := true, btnMark := 1 }]) :=
  ⟨by decide, by decide, by decide, by decide, by decide, by decide, by decide, by decide, by decide, by decide, by decide, by decide⟩

theorem witness_CanControllersJoinSendAndRecover :
  (holds3 (fun (s : State) (l : Lane) (n : Fin 4) =>
    s.canonical = true ∧ s.past l 16 = true ∧ (s.canSt l n).onBus = false ∧ s.on (laneDie l) R.CANn_CTRL.EN n = true)
    [(reg .lb R.CANn_CTRL.EN 1 up (i := 3), .b, 3),
     (reg .lb R.CANn_NBT.BRP 10 (reg .lb R.CANn_NBT.SEG1 11 (reg .lb R.CANn_NBT.SEG2 4 (reg .lb R.CANn_CTRL.EN 1 up (i := 3)) (i := 3)) (i := 3)) (i := 3), .b, 3)]) ∧
  (holds3 (fun (s : State) (l : Lane) (n : Fin 4) =>
    s.canonical = true ∧ (s.canSt l n).onBus = true ∧ s.on (laneDie l) R.CANn_CTRL.EN n = false)
    [(reg .lb R.CANn_STATUS.SYNC 1 (tally .b [ent 7 3 .active (.can 5)] (up.modCan .b 3 fun c => { c with onBus := true, attempt := some (7, 5) })) (i := 3), .b, 3)]) ∧
  (holds3 (fun (s : State) (l : Lane) (n : Fin 4) =>
    s.canonical = true ∧ s.alive l = true ∧ (s.canSt l n).onBus = true)
    [(up.modCan .b 3 fun c => { c with onBus := true }, .b, 3)]) ∧
  (holds4 (fun (s : State) (l : Lane) (who : Initiator) (_ : Fin 4) =>
    s.canonical = true ∧ s.canAccess l who = true)
    [(reg .lb R.CANn_TX_DL_LO.DL 100000000 up (i := 3), .b, .ap, 3)]) ∧
  (holds4 (fun (s : State) (l : Lane) (n : Fin 4) (e : TalEntry) =>
    s.domains l = true ∧ s.canSends l n = true ∧ (s.canSt l n).attempt = none ∧ s.canNext l n = some e)
    [(reg .lb R.CANn_STATUS.SYNC 1 (tally .b [ent 7 3 .waiting (.can 5)] (up.modCan .b 3 fun c => { c with onBus := true })) (i := 3), .b, 3, (ent 7 3 .waiting (.can 5)))]) ∧
  (holds8 (fun (s : State) (l : Lane) (n : Fin 4) (id x : Nat) (e : TalEntry) (_ : Fin 7) (_ : Bool) =>
    s.canonical = true ∧ (s.canSt l n).attempt = some (id, x) ∧ (s.tal l).find id = some e)
    [(reg .lb R.CANn_ERR.TEC 9 (tally .b [ent 7 3 .active (.can 5)] (up.modCan .b 3 fun c => { c with onBus := true, attempt := some (7, 999999) })) (i := 3), .b, 3, 7, 999999, (ent 7 3 .active (.can 5)), 6, true),
     (reg .lb R.CANn_STATUS.PASSIVE 1 (reg .lb R.CANn_ERR.TEC 128 (tally .b [ent 7 3 .ending (.can 5)] (up.modCan .b 3 fun c => { c with onBus := true, attempt := some (7, 999999) })) (i := 3)) (i := 3), .b, 3, 7, 999999, (ent 7 3 .ending (.can 5)), 3, false)]) ∧
  (holds3 (fun (s : State) (l : Lane) (n : Fin 4) =>
    s.canonical = true ∧ s.alive l = true ∧ (s.canSt l n).onBus = true ∧
    s.on (laneDie l) R.CANn_STATUS.BUS_OFF n = false ∧ 255 < s.rd (laneDie l) R.CANn_ERR.TEC n)
    [(reg .lb R.LNK_CHS_NET.CTRL 3 (reg .lb R.CANn_ERR.TEC 256 (up.modCan .b 3 fun c => { c with onBus := true }) (i := 3)), .b, 3)]) ∧
  (holds3 (fun (s : State) (l : Lane) (n : Fin 4) =>
    s.canonical = true ∧ s.writable l = true ∧ s.on (laneDie l) R.CANn_STATUS.BUS_OFF n = true)
    [(reg .lb R.CANn_ERR.TEC 256 (reg .lb R.CANn_STATUS.BUS_OFF 1 (up.modCan .b 3 fun c => { c with recovering := true }) (i := 3)) (i := 3), .b, 3)]) :=
  ⟨by decide, by decide, by decide, by decide, by decide, by decide, by decide, by decide⟩

theorem witness_CanFramesAreFilteredStoredAndScheduled :
  (holds5 (fun (s : State) (l : Lane) (n : Fin 4) (_ : CanFrame) (_ : Nat) =>
    s.canonical = true ∧ s.domains l = true ∧ (s.canSt l n).onBus = true ∧
    s.on (laneDie l) R.CANn_STATUS.SYNC n = true ∧ s.on (laneDie l) R.CANn_STATUS.BUS_OFF n = false)
    [(reg .lb R.CANn_STATUS.SYNC 1 ((up.modCan .b 3 fun c => { c with onBus := true }).setTable .b (tableKey 0x400FDBF4) 0x3FFFFFFF) (i := 3), .b, 3, { format := 0, ide := false, ident := 0, brs := false, esi := false, remote := false, sdt := 0, vcid := 0, sec := false, acc := 0, len := 8, data := [1, 2, 3, 4, 5, 6, 7] }, 20),
     (reg .lb R.CANn_STATUS.SYNC 1 ((up.modCan .b 3 fun c => { c with onBus := true }).setTable .b (tableKey 0x400FDBF4) 0x3FFFFFFF) (i := 3), .b, 3, { format := 2, ide := false, ident := 0, brs := false, esi := false, remote := false, sdt := 0, vcid := 0, sec := false, acc := 0, len := 8, data := [1, 2, 3, 4, 5, 6, 7] }, 20),
     (reg .lb R.CANn_STATUS.SYNC 1 ((up.modCan .b 3 fun c => { c with onBus := true }).setTable .b (tableKey 0x400FDBF4) 0x5FFFFFFF) (i := 3), .b, 3, { format := 0, ide := false, ident := 0, brs := false, esi := false, remote := false, sdt := 0, vcid := 0, sec := false, acc := 0, len := 8, data := [1, 2, 3, 4, 5, 6, 7] }, 20),
     (reg .lb R.CANn_HP_STATUS.LEVEL 8 (reg .lb R.CANn_STATUS.SYNC 1 ((up.modCan .b 3 fun c => { c with onBus := true }).setTable .b (tableKey 0x400FDBF4) 0x5FFFFFFF) (i := 3)) (i := 3), .b, 3, { format := 0, ide := false, ident := 0, brs := false, esi := false, remote := false, sdt := 0, vcid := 0, sec := false, acc := 0, len := 8, data := [1, 2, 3, 4, 5, 6, 7] }, 20),
     (reg .lb R.CANn_STATUS.SYNC 1 ((up.modCan .b 3 fun c => { c with onBus := true }).setTable .b (tableKey 0x400FDBF4) 0x7FFFFFFF) (i := 3), .b, 3, { format := 0, ide := false, ident := 0, brs := false, esi := false, remote := false, sdt := 0, vcid := 0, sec := false, acc := 0, len := 8, data := [1, 2, 3, 4, 5, 6, 7] }, 20),
     (reg .lb R.LNK_CHS_NET.CTRL 3 (reg .lb R.CANn_STATUS.SYNC 1 ((up.modCan .b 3 fun c => { c with onBus := true }).setTable .b (tableKey 0x400FDBF4) 0x9FFFFFFF) (i := 3)), .b, 3, { format := 0, ide := false, ident := 0, brs := false, esi := false, remote := false, sdt := 0, vcid := 0, sec := false, acc := 0, len := 8, data := [1, 2, 3, 4, 5, 6, 7] }, 20),
     (reg .lb R.CANn_STATUS.SYNC 1 ((up.modCan .b 3 fun c => { c with onBus := true, fifo := [(0x4000, 28)], place := 0x6FF0 }).setTable .b (tableKey 0x400FDBF4) 0x3FFFFFFF) (i := 3), .b, 3, { format := 0, ide := false, ident := 0, brs := false, esi := false, remote := false, sdt := 0, vcid := 0, sec := false, acc := 0, len := 8, data := [1, 2, 3, 4, 5, 6, 7] }, 20),
     (reg .lb R.CANn_STATUS.SYNC 1 ((up.modCan .b 3 fun c => { c with onBus := true, fifo := [(0x4000, 0x2FE0)], place := 0x6FE0 }).setTable .b (tableKey 0x400FDBF4) 0x3FFFFFFF) (i := 3), .b, 3, { format := 0, ide := false, ident := 0, brs := false, esi := false, remote := false, sdt := 0, vcid := 0, sec := false, acc := 0, len := 8, data := [1, 2, 3, 4, 5, 6, 7] }, 20),
     (reg .lb R.CANn_STATUS.SYNC 1 ((up.modCan .b 3 fun c => { c with onBus := true }).setTable .b (tableKey 0x400FDBF4) 0x1FFFFFFF) (i := 3), .b, 3, { format := 0, ide := false, ident := 0, brs := false, esi := false, remote := false, sdt := 0, vcid := 0, sec := false, acc := 0, len := 8, data := [1, 2, 3, 4, 5, 6, 7] }, 20),
     (reg .lb R.CANn_CTRL.NOMATCH 1 (reg .lb R.CANn_STATUS.SYNC 1 ((up.modCan .b 3 fun c => { c with onBus := true }).setTable .b (tableKey 0x400FDBF4) 0x1FFFFFFF) (i := 3)) (i := 3), .b, 3, { format := 0, ide := false, ident := 0, brs := false, esi := false, remote := false, sdt := 0, vcid := 0, sec := false, acc := 0, len := 8, data := [1, 2, 3, 4, 5, 6, 7] }, 20)]) ∧
  (holds5 (fun (s : State) (l : Lane) (n : Fin 4) (x : Nat × Nat) (r : List (Nat × Nat)) =>
    s.canonical = true ∧ s.writable l = true ∧ (s.canSt l n).fifo = x :: r ∧ r.length < 1024)
    [(up.modCan .b 3 fun c => { c with fifo := [(0x4000, 28), (0x401C, 20)] }, .b, 3, (0x4000, 28), [(0x401C, 20)])]) ∧
  (holds3 (fun (s : State) (l : Lane) (n : Fin 4) =>
    s.canonical = true ∧ s.writable l = true ∧ 0 < s.rd (laneDie l) R.CANn_HP_STATUS.LEVEL n)
    [(reg .lb R.CANn_HP_STATUS.LEVEL 8 (reg .lb R.CANn_HP_STATUS.NEXT 7 up (i := 3)) (i := 3), .b, 3)]) ∧
  (holds4 (fun (s : State) (l : Lane) (n : Fin 4) (_ : Fin 32) =>
    s.canonical = true ∧ s.domains l = true ∧ s.on (laneDie l) R.CANn_SCHED_STATUS.RUNNING n = true)
    [(reg .lb R.CANn_SCHED_STATUS.RUNNING 1 (reg .lb R.CANn_SCHED.BC 10 (up.setTable .b (tableKey 0x400FD07C) 0x00100064) (i := 3)) (i := 3), .b, 3, 31),
     (reg .lb R.CANn_SCHED_STATUS.RUNNING 1 (reg .lb R.CANn_SCHED.BC 10 (up.setTable .b (tableKey 0x400FD07C) 0xFFF00064) (i := 3)) (i := 3), .b, 3, 31),
     ((fun s => (List.range 16).foldl (fun s b => s.setTable .b (tableKey (0x400FC87C + 128 * b)) 11) s) (reg .lb R.CANn_SCHED_STATUS.RUNNING 1 (reg .lb R.CANn_SCHED.BC 10 (up.setTable .b (tableKey 0x400FD07C) 0x00100064) (i := 3)) (i := 3)), .b, 3, 31),
     ((fun s => (List.range 16).foldl (fun s b => s.setTable .b (tableKey (0x400FC87C + 128 * b)) 11) s) (reg .lb R.CANn_SCHED_STATUS.RUNNING 1 (reg .lb R.CANn_SCHED.BC 10 (reg .lb R.CANn_STATUS.SYNC 1 (((tally .b [ent 7 3 .waiting (.can 5)] (up.modCan .b 3 fun c => { c with onBus := true })).setTable .b (tableKey 0x400FC454) 0x2000).setTable .b (tableKey 0x400FD07C) 0x00100064) (i := 3)) (i := 3)) (i := 3)), .b, 3, 31)]) :=
  ⟨by decide, by decide, by decide, by decide⟩

theorem witness_EthernetMacsSendReceiveAndManage :
  (holds4 (fun (s : State) (l : Lane) (who : Initiator) (_ : Fin 3) =>
    s.canonical = true ∧ s.canAccess l who = true)
    [(reg .lb R.ETHm_TX_LEN.LEN 13 (reg .lb R.ETHm_TX_ADDR.ADDR 0x20000000 up (i := 2)) (i := 2), .b, .ap, 2),
     (reg .lb R.ETHm_TX_LEN.LEN 1514 (reg .lb R.ETHm_TX_ADDR.ADDR 0x20000000 up (i := 2)) (i := 2), .b, .ap, 2)]) ∧
  (holds5 (fun (s : State) (l : Lane) (m : Fin 3) (_ : EthFrame) (_ : Nat) =>
    s.canonical = true ∧ s.past l 16 = true ∧ s.domains l = true ∧ s.on (laneDie l) R.ETHm_CFG.EN m = true ∧
    s.ethUp l m = true)
    [(reg .lb R.ETHm_RX_STATUS.FREE 2 (reg .lb R.ETHm_CFG.ACCEPT_UNTAGGED 1 (reg .lb R.ETHm_CFG.EN 1 up (i := 2)) (i := 2)) (i := 2), .b, 2, { bytes := [255, 255, 255, 255, 255, 255, 1, 2, 3, 4, 5, 6, 8, 0], tag := none, bad := false }, 5),
     (reg .lb R.ETHm_CFG.ACCEPT_UNTAGGED 1 (reg .lb R.ETHm_CFG.EN 1 up (i := 2)) (i := 2), .b, 2, { bytes := [255, 255, 255, 255, 255, 255, 1, 2, 3, 4, 5, 6, 8, 0], tag := none, bad := true }, 5),
     (reg .lb R.ETHm_RX_STATUS.FREE 2 (reg .lb R.ETHm_CFG.EN 1 up (i := 2)) (i := 2), .b, 2, { bytes := [255, 255, 255, 255, 255, 255, 1, 2, 3, 4, 5, 6, 8, 0], tag := none, bad := false }, 5)]) ∧
  (holds4 (fun (s : State) (l : Lane) (_ : Fin 3) (_ : Nat) =>
    s.canonical = true ∧ s.writable l = true)
    [(reg .lb R.ETHm_RX_RING.RING 256 up (i := 2), .b, 2, 257)]) ∧
  (holds4 (fun (s : State) (l : Lane) (m : Fin 3) (_ : BitVec 32) =>
    s.canonical = true ∧ s.writable l = true ∧ m.val < 2 ∧ s.on (laneDie l) R.ETHm_MDIO_STATUS.BUSY m = false)
    [(up, .b, 1, 0x800007FF)]) ∧
  (holds5 (fun (s : State) (l : Lane) (m : Fin 3) (_ : BitVec 16) (x : Bool × Nat × Nat × Nat) =>
    s.canonical = true ∧ (s.ethSt l m).mdio = some x)
    [(up.modEth .b 1 fun e => { e with mdio := some (false, 31, 31, 0) }, .b, 1, 0xFFFF, (false, 31, 31, 0))]) ∧
  (holds7 (fun (s : State) (l : Lane) (m : Fin 3) (_ : Bool) (_ : Fin 4) (_ _ : Bool) =>
    s.canonical = true ∧ s.past l 16 = true ∧ m.val < 2 ∧ s.on (laneDie l) R.ETHm_CFG.EN m = true)
    [(reg .lb R.ETHm_CFG.IF 1 (reg .lb R.ETHm_CFG.EN 1 up (i := 1)) (i := 1), .b, 1, true, 2, true, true),
     (tally .b [ent 7 5 .waiting (.eth 1 0x20000000 64)] (reg .lb R.ETHm_CFG.EN 1 up (i := 1)), .b, 1, false, 2, false, true)]) ∧
  (holds2 (fun (s : State) (l : Lane) =>
    s.canonical = true ∧ s.past l 16 = true ∧ s.on (laneDie l) R.ETHm_CFG.EN 2 = true)
    [(tally .b [ent 7 6 .active (.eth 2 0x20000000 64)] (reg .lb R.ETHm_CFG.EN 1 (up.modEth .b 2 fun e => { e with tries := 14 }) (i := 2)), .b),
     (tally .b [ent 7 6 .active (.eth 2 0x20000000 64)] (reg .lb R.ETHm_CFG.EN 1 (up.modEth .b 2 fun e => { e with tries := 15 }) (i := 2)), .b)]) ∧
  (holds3 (fun (s : State) (l : Lane) (_ : Bool) =>
    s.canonical = true ∧ s.past l 16 = true ∧ s.on (laneDie l) R.ETHm_CFG.EN 2 = true ∧
    s.rd (laneDie l) R.ETH_T1S_PLCA.NODE_ID ≤ 31)
    [(reg .lb R.ETH_T1S_STATUS.PLCA_ACTIVE 1 (reg .lb R.ETH_T1S_PLCA.NODE_ID 31 (reg .lb R.ETHm_CFG.EN 1 up (i := 2))), .b, false)]) :=
  ⟨by decide, by decide, by decide, by decide, by decide, by decide, by decide, by decide⟩

theorem witness_AssayHoldsUpAndSealsItsLedger :
  (holds2 (fun (s : State) (l : Lane) =>
    s.writable l = true ∧ s.asyOn l = true)
    [(reg .lb R.ASY_CTRL.EN 1 up, .b)]) ∧
  (holds3 (fun (s : State) (l : Lane) (_ : BitVec 32) =>
    s.canonical = true ∧ s.writable l = true ∧ s.asyOn l = true)
    [(reg .lb R.ASY_CTRL.EN 1 up, .b, 0),
     (reg .lb R.ASY_XINw.WORD 7 (reg .lb R.ASY_CTRL.EN 1 up) (i := 1), .b, (BitVec.ofNat 32 (crc32c ([0, 7, 0, 0, 0].flatMap fun x => leBytes x 4))))]) ∧
  (holds4 (fun (s : State) (l : Lane) (_ _ : Bool) =>
    s.canonical = true ∧ s.asyOn l = true ∧ s.committer l = true ∧ s.mayCommit l = true ∧ (s.asy l).stopped = false)
    [(reg .ds R.DSP_GRANT.STATE (grantCode .a) (reg .la R.SEC_LC.KEYS 1 (reg .la R.ASY_CTRL.EN 1 (up.modNv .a fun n => { n with lifecycle := 3 }))), .a, true, false)]) ∧
  (holds3 (fun (s : State) (l : Lane) (x : LedgerRec) =>
    s.running l = true ∧ s.asyOn l = true ∧ s.mayCommit l = true ∧
    newestRec ((s.nv l).ledger.filter fun r => r.isSealed && !r.signed && r.tagOk) = some x ∧
    ((s.nv l).ledger.filter fun r => r.slot == x.slot).length = 1)
    [(reg .la R.SEC_LC.KEYS 1 (reg .la R.ASY_CTRL.EN 1 (up.modNv .a fun n => { n with lifecycle := 3, ledger := [LedgerRec.mk 9 4 128 1 none 64 5 6 7 8 3 10 11 12 13 0 0 0 0 0 true true true [] [] [] [], LedgerRec.mk 10 65535 128 1 none 64 5 6 7 8 3 10 11 12 13 0 0 0 0 4 true false true [] [] [] []] })), .a, (LedgerRec.mk 10 65535 128 1 none 64 5 6 7 8 3 10 11 12 13 0 0 0 0 4 true false true [] [] [] []))]) :=
  ⟨by decide, by decide, by decide, by decide⟩

theorem witness_LifecycleKeysAndCryptoFollowTheirChecks :
  (holds6 (fun (s : State) (l : Lane) (who : Initiator) (_ : BitVec 3) (_ : BitVec 16) (_ : LcEnd) =>
    s.canonical = true ∧ s.secReach l who = true ∧ s.on (laneDie l) R.SEC_LC_STATUS.BUSY = false)
    [(up, .b, .ap, 3, 0x4C42, .done),
     (up, .b, .ap, 3, 0x4C43, .done),
     (reg .lb R.SEC_LC.DEBUG 2 (up.modNv .b fun n => { n with lifecycle := 0, keyProg := 8 }), .b, .debug, 1, 0x4C43, .done),
     (reg .lb R.CFG_MODE.MODE modeService (up.modNv .b fun n => { n with lifecycle := 2 }), .b, .ap, 3, 0x4C43, .done),
     (reg .lb R.CFG_MODE.MODE modeService (up.modNv .b fun n => { n with lifecycle := 3 }), .b, .ap, 5, 0x4C43, .done),
     (reg .lb R.CFG_MODE.MODE modeService (up.modNv .b fun n => { n with lifecycle := 1 }), .b, .ap, 2, 0x4C43, .done),
     (reg .lb R.CFG_MODE.MODE modeService (up.modNv .b fun n => { n with lifecycle := 1 }), .b, .ap, 2, 0x4C43, .media),
     (reg .lb R.CFG_MODE.MODE modeService (up.modNv .b fun n => { n with lifecycle := 1 }), .b, .ap, 2, 0x4C43, .supplyLost),
     (reg .lb R.CFG_MODE.MODE modeService ((up.modNv .b fun n => { n with lifecycle := 1 }).modSec .b fun x => { x with entropyBad := true }), .b, .ap, 2, 0x4C43, .done),
     (reg .lb R.CFG_MODE.MODE modeService (up.modNv .b fun n => { n with lifecycle := 1, banks := updAll n.banks fun _ => 2 }), .b, .ap, 2, 0x4C43, .done)]) ∧
  (holds4 (fun (s : State) (l : Lane) (who : Initiator) (slot : Fin 4) =>
    s.secReach l who = true ∧ (s.nv l).lifecycle ≤ 1 ∧ bit (s.nv l).keyProg slot.val = false ∧
    rangeInSram (s.rd (laneDie l) R.SEC_KEY_SRC.ADDR) 64 = true ∧ s.rd (laneDie l) R.SEC_KEY_SRC.ADDR % 4 = 0)
    [(reg .lb R.SEC_KEY_SRC.ADDR 0x20000000 (up.modNv .b fun n => { n with lifecycle := 1 }), .b, .ap, 3)]) ∧
  (holds3 (fun (s : State) (l : Lane) (who : Initiator) =>
    s.canonical = true ∧ s.secReach l who = true)
    [(up, .b, .ap),
     (up.modSec .b fun x => { x with entropyBad := true }, .b, .ap)]) ∧
  (holds3 (fun (s : State) (l : Lane) (x : Nat) =>
    s.canonical = true ∧ (s.run l).sec.chalAt = some x)
    [(reg .lb R.SEC_DBG_STATUS.LIVE 1 (up.modSec .b fun x => { x with chalAt := some 7 }), .b, 7)]) ∧
  (holds4 (fun (s : State) (l : Lane) (who : Initiator) (_ : Signed) =>
    s.canonical = true ∧ s.secReach l who = true ∧ (s.run l).sec.opening = false)
    [(reg .lb R.SEC_DBG_STATUS.LIVE 1 (reg .lb R.CFG_MODE.MODE modeService (up.modNv .b fun n => { n with lifecycle := 3, bankIn := 1, keyProg := 1, keyHash := [(0, [5])] }) |> reg .lb R.SEC_DBG_SRC.ADDR 0x20000000), .b, .ap, { keyHash := [5] }),
     (reg .lb R.SEC_DBG_STATUS.LIVE 1 (reg .lb R.CFG_MODE.MODE modeService (up.modNv .b fun n => { n with lifecycle := 2, bankIn := 1 })), .b, .ap, {}),
     (reg .lb R.CFG_MODE.MODE modeService (up.modNv .b fun n => { n with lifecycle := 2, bankIn := 1 }), .b, .ap, {})]) ∧
  (holds3 (fun (s : State) (l : Lane) (who : Initiator) =>
    s.canonical = true ∧ s.canAccess l who = true)
    [(reg .lb R.SEC_JOB_ADDR.ADDR 0x20000010 up, .b, .ap),
     (reg .lb R.SEC_JOB_DL_LO.DL 100000000 (reg .lb R.SEC_JOB_ADDR.ADDR 0x20000020 up), .b, .ap)]) ∧
  (holds2 (fun (s : State) (l : Lane) =>
    s.canonical = true ∧ s.past l 2 = true)
    [(reg .lb R.SEC_TRNG_STATUS.READY 1 up, .b)]) :=
  ⟨by decide, by decide, by decide, by decide, by decide, by decide, by decide⟩

theorem witness_LanesStartStepByStepAndLoad :
  (holds3 (fun (s : State) (l : Lane) (inp : StartInputs) =>
    s.canonical = true ∧ s.island l = true ∧
    ((s.run l).phase = .held ∨ ((s.run l).phase = .off ∧ s.depOn = true ∧ s.dep.startCmd = true)) ∧
    inp.steps.getD 0 .pass = .pass ∧ inp.steps.getD 1 .pass = .wait)
    [(up.modRun .a fun r => { r with phase := .held }, .a, { inp with steps := [.pass, .wait] }),
     ((up.modRun .b fun r => { r with phase := .off }).modDep fun d => { d with startCmd := true }, .b, { inp with steps := [.pass, .wait] })]) ∧
  (holds3 (fun (s : State) (l : Lane) (inp : StartInputs) =>
    s.canonical = true ∧ (s.run l).phase = .starting 3 ∧ inp.steps.getD 3 .pass = .pass ∧
    inp.steps.getD 4 .pass = .wait)
    [(up.modRun .b fun r => { r with phase := .starting 3, clk := LaneClock.init }, .b, { inp with steps := [.pass, .pass, .pass, .pass, .wait] })]) ∧
  (holds4 (fun (s : State) (l : Lane) (_ : StartInputs) (n : Nat) =>
    (s.run l).phase = .starting n ∧ stepMandatory n = true ∧ (stepExempt n = true ∨ s.failCount l n ≠ 3) ∧
    (n ≠ 15 ∨ (s.run l).link.stateSeen = true))
    [(up.modRun .b fun r => { r with phase := .starting 3 }, .b, inp, 3),
     (up.modRun .b fun r => { r with phase := .starting 12, start := { r.start with stepAt := 999000 } }, .b, inp, 12),
     ((up.modRun .b fun r => { r with phase := .starting 6 }).modNv .b fun n => { n with lamp := [{ seq := 1, slotB := false, copy2 := false, mirror := false, reduced := false, outcomes := List.replicate 6 0x33 ++ [0x0F], entered := 6, bootNext := [] }, { seq := 2, slotB := false, copy2 := false, mirror := false, reduced := false, outcomes := List.replicate 6 0x33 ++ [0x0F], entered := 6, bootNext := [] }] }, .b, inp, 6),
     (up.modRun .b fun r => { r with phase := .starting 15, start := { r.start with answerAt := some 999999 }, link := { r.link with stateSeen := true } }, .b, inp, 15)]) ∧
  (holds4 (fun (s : State) (l : Lane) (inp : StartInputs) (n : Nat) =>
    s.canonical = true ∧ (s.run l).phase = .starting n ∧ n < 19 ∧
    (stepMandatory n = false ∨ stepExempt n = false ∧ s.failCount l n = 3) ∧
    (n ≠ 15 ∨ (s.run l).link.stateSeen = true) ∧ inp.steps.getD (n + 1) .pass = .wait)
    [(up.modRun .b fun r => { r with phase := .starting 18 }, .b, { inp with steps := List.replicate 19 .pass ++ [.wait] }, 18)]) ∧
  (holds3 (fun (s : State) (l : Lane) (_ : StartInputs) =>
    (s.run l).phase = .starting 15 ∧ (s.run l).link.stateSeen = false)
    [(up.modRun .b fun r => { r with phase := .starting 15 }, .b, inp)]) ∧
  (holds3 (fun (s : State) (l : Lane) (inp : StartInputs) =>
    s.canonical = true ∧ (s.run l).phase = .starting 15 ∧ (s.run l).link.stateSeen = false ∧
    inp.steps.getD 16 .pass = .wait)
    [(up.modRun .b fun r => { r with phase := .starting 15 }, .b, { inp with steps := List.replicate 16 .pass ++ [.wait] })]) ∧
  (holds3 (fun (s : State) (l : Lane) (inp : StartInputs) =>
    s.canonical = true ∧ (s.run l).phase = .starting 18 ∧ inp.steps.getD 19 .pass = .wait)
    [(up.modRun .b fun r => { r with phase := .starting 18 }, .b, { inp with steps := List.replicate 19 .pass ++ [.wait] })]) ∧
  (holds4 (fun (s : State) (l : Lane) (_ : Fin 4) (r : LampRecord) =>
    s.canonical = true ∧ s.writable l = true ∧ s.lampNow l = some r ∧ r.seq = s.rd (laneDie l) R.CFG_LAMP_SEQ.SEQ ∧
    r.bootNext.length < 8)
    [(reg .lb R.CFG_LAMP_SEQ.SEQ 7 (up.modNv .b fun n => { n with lamp := [{ seq := 7, slotB := false, copy2 := false, mirror := false, reduced := false, outcomes := [], entered := 19, bootNext := [1, 2] }] }), .b, 2, { seq := 7, slotB := false, copy2 := false, mirror := false, reduced := false, outcomes := [], entered := 19, bootNext := [1, 2] })]) ∧
  (holds4 (fun (s : State) (l : Lane) (_ : Fin 4) (_ : Nat) =>
    s.canonical = true ∧ s.writable l = true)
    [(up.modNv .b fun n => { n with keyProg := 0xF, keyRevoked := 6 }, .b, 3, 0x5EA1),
     (up.modNv .b fun n => { n with keyProg := 0xF, keyRevoked := 7 }, .b, 3, 0x5EA1)]) ∧
  (holds4 (fun (s : State) (l : Lane) (_ _ : Nat) =>
    (s.run l).phase = .loader)
    [(up.modRun .b fun r => { r with phase := .loader }, .b, 65537, 7)]) ∧
  (holds7 (fun (s : State) (l : Lane) (frame block crc : Nat) (_ : List Nat) (_ : LoaderMedia) =>
    (s.run l).phase = .loader ∧ (s.run l).start.loader.opened = some (block, crc) ∧ frame < 683)
    [(up.modRun .b fun r => { r with phase := .loader, start := { r.start with loader := { r.start.loader with opened := some (0, 7), pieces := [(682, [1])] } } }, .b, 682, 0, 7, [1, 2, 3, 4], { imageOk := true, programmed := true }),
     (up.modRun .b fun r => { r with phase := .loader, start := { r.start with loader := { r.start.loader with opened := some (1, 7), pieces := ((List.range 682).map fun f => (f, [0, 0, 0, 0, 0, 0])), expected := 1, payload := 8192 } } }, .b, 682, 1, (7), [0, 0, 0, 0], { imageOk := true, programmed := true }),
     (up.modRun .b fun r => { r with phase := .loader, start := { r.start with loader := { r.start.loader with opened := some (2, 0x98F94189), pieces := ((List.range 682).map fun f => (f, [0, 0, 0, 0, 0, 0])), expected := 1, payload := 8192 } } }, .b, 682, 2, 0x98F94189, [0, 0, 0, 0], { imageOk := true, programmed := true }),
     (up.modRun .b fun r => { r with phase := .loader, start := { r.start with loader := { r.start.loader with opened := some (0, 0x98F94189), pieces := ((List.range 682).map fun f => (f, [0, 0, 0, 0, 0, 0])), expected := 0, payload := 0 } } }, .b, 682, 0, 0x98F94189, [0, 0, 0, 0], { imageOk := true, programmed := true }),
     (up.modRun .b fun r => { r with phase := .loader, start := { r.start with loader := { r.start.loader with opened := some (1, 0x98F94189), pieces := ((List.range 682).map fun f => (f, [0, 0, 0, 0, 0, 0])), expected := 1, payload := 8192 } } }, .b, 682, 1, 0x98F94189, [0, 0, 0, 0], { imageOk := true, programmed := false }),
     (up.modRun .b fun r => { r with phase := .loader, start := { r.start with loader := { r.start.loader with opened := some (1, 0x98F94189), pieces := ((List.range 682).map fun f => (f, [0, 0, 0, 0, 0, 0])), expected := 1, payload := 8192 } } }, .b, 682, 1, 0x98F94189, [0, 0, 0, 0], { imageOk := true, programmed := true }),
     (up.modRun .b fun r => { r with phase := .loader, start := { r.start with loader := { r.start.loader with opened := some (1, 0x98F94189), pieces := ((List.range 682).map fun f => (f, [0, 0, 0, 0, 0, 0])), expected := 1, payload := 4096 } } }, .b, 682, 1, 0x98F94189, [0, 0, 0, 0], { imageOk := true, programmed := true }),
     (up.modRun .b fun r => { r with phase := .loader, start := { r.start with loader := { r.start.loader with opened := some (1, 0x98F94189), pieces := ((List.range 682).map fun f => (f, [0, 0, 0, 0, 0, 0])), expected := 1, payload := 4096 } } }, .b, 682, 1, 0x98F94189, [0, 0, 0, 0], { imageOk := false, programmed := true })]) :=
  ⟨by decide +kernel, by decide +kernel, by decide +kernel, by decide +kernel, by decide +kernel, by decide +kernel, by decide +kernel, by decide +kernel, by decide +kernel, by decide +kernel, by decide +kernel⟩

theorem witness_ModeChangesAreAskedAnsweredAndApplied :
  (holds4 (fun (s : State) (l : Lane) (_ : Fin 8) (_ : Bool) =>
    s.canonical = true ∧ s.writable l = true ∧ s.running l = true)
    [(reg .ds R.DSP_GRANT.STATE (grantCode .a) (reg .la R.CFG_MODE.MODE modeReady up), .a, ⟨modeService, by decide⟩, true),
     (reg .ds R.DSP_GRANT.STATE (grantCode .a) (reg .la R.CFG_MODE.MODE modeReady up), .a, ⟨modeParked, by decide⟩, true),
     (reg .ds R.DSP_GRANT.STATE (grantCode .a) (reg .la R.CFG_MODE.MODE modeReady up), .b, ⟨modeService, by decide⟩, true)]) ∧
  (holds5 (fun (s : State) (l : Lane) (_ : List (BitVec 8)) (_ : Bool) (x : ModeMsg) =>
    s.canonical = true ∧ s.domains l = true ∧ s.domains l.other = true ∧ (s.run l.other).link.modeOut = some x)
    [({ (up.modLnk .a fun k => { k with modeOut := some .refuse }) with modeEng := { up.modeEng with step := .partner, master := .b } }, .b, [], true, .refuse),
     ({ (up.modLnk .a fun k => { k with modeOut := some .accept }) with modeEng := { up.modeEng with step := .partner, master := .b } }, .b, [0], true, .accept),
     ({ (up.modLnk .a fun k => { k with modeOut := some .accept }) with modeEng := { up.modeEng with step := .partner, master := .b } }, .b, [1], true, .accept)]) ∧
  (holds5 (fun (s : State) (l : Lane) (flips : List (BitVec 8)) (_ : Bool) (m : Nat) =>
    s.canonical = true ∧ s.domains l.other = true ∧ s.running l = true ∧ flips.all (· == 0) = true ∧
    (s.run l.other).link.modeOut = some (.request m))
    [(up.modLnk .a fun k => { k with modeOut := some (.request modeService) }, .b, [], true, modeService),
     (up.modLnk .a fun k => { k with modeOut := some (.request modeParked) }, .b, [], true, modeParked)]) ∧
  (holds1 (fun (s : State) =>
    s.canonical = true ∧ s.modeEng.step = .partner ∧ s.running s.modeEng.master = true)
    [{ up with modeEng := { up.modeEng with step := .partner, master := .b, since := 999999 } }]) ∧
  (holds6 (fun (s : State) (l : Lane) (_ _ _ c : Nat) =>
    s.canonical = true ∧ s.modeEng.step = .boundary ∧ s.modeEng.master = l ∧ s.alive l = true ∧
    (s.advTo (s.instantOfMaster l (ceilDiv (s.masterTime l) 10000 * 10000))).modeBarred = some c)
    [({ (reg .ds R.DSP_STATUS.SAFE_STOP 1 up) with modeEng := { up.modeEng with step := .boundary, master := .b, target := modeService, since := 999999 } }, .b, 0, 0, 0, 3)]) ∧
  (holds5 (fun (s : State) (l : Lane) (_ _ _ : Nat) =>
    s.canonical = true ∧ s.modeEng.step = .boundary ∧ s.modeEng.master = l ∧ s.modeEng.target < 8 ∧
    modeOffs s.modeEng.target = false ∧
    (s.advTo (s.instantOfMaster l (ceilDiv (s.masterTime l) 10000 * 10000))).modeBarred = none)
    [({ up with modeEng := { up.modeEng with step := .boundary, master := .b, target := modeService, since := 999999 } }, .b, 0, 0, 0)]) ∧
  (holds5 (fun (s : State) (l : Lane) (_ _ _ : Nat) =>
    s.canonical = true ∧ s.modeEng.step = .boundary ∧ s.modeEng.master = l ∧ modeOffs s.modeEng.target = true ∧
    (s.advTo (s.instantOfMaster l (ceilDiv (s.masterTime l) 10000 * 10000))).modeBarred = none)
    [({ up with modeEng := { up.modeEng with step := .boundary, master := .b, target := modeParked, since := 999999 } }, .b, 0, 0, 0),
     ({ up with modeEng := { up.modeEng with step := .boundary, master := .b, target := modeStorage, since := 999999 } }, .b, 0, 0, 0),
     (tally .b [ent 7 3 .waiting (.can 5)] { up with modeEng := { up.modeEng with step := .boundary, master := .b, target := modeParked, since := 999999 } }, .b, 0, 0, 0),
     ({ (ctrIn 0 .hold (nrgUp .b)) with modeEng := { up.modeEng with step := .boundary, master := .b, target := modeParked, since := 999999 } }, .b, 0, 0, 0)]) :=
  ⟨by decide, by decide, by decide, by decide, by decide, by decide, by decide⟩

/-! ## Well-formedness: an ill-formed term for each check -/

/-- A start with the given steps, all else as in `inp`. -/
def steps (xs : List StepIn) : StartInputs := { inp with steps := xs }

theorem test_well_formed_accepts :
    Instr.wellFormed (.laneStart .a inp) = true ∧ Instr.wellFormed (.registerWrite .a .ap 32 0x40000000 7) = true := by decide

theorem test_ill_formed_access :
    Instr.wellFormed (.registerWrite .a .ap 24 0x40000000 7) = false ∧
    Instr.wellFormed (.registerWrite .a .ap 32 0x100000000 7) = false ∧
    Instr.wellFormed (.registerWrite .a .ap 32 0x40000000 0x100000000) = false ∧
    Instr.wellFormed (.readLowWordLatch .a .ap 24 0x40170000) = false := by decide

theorem test_ill_formed_start :
    Instr.wellFormed (.laneStart .a (steps [.fail 0x11])) = false ∧
    Instr.wellFormed (.startStepTimeout .a { inp with boot := { inp.boot with keySlot := 2 ^ 32 } }) = false ∧
    Instr.wellFormed (.laneStart .a { inp with boot := { inp.boot with segments := [] } }) = false ∧
    Instr.wellFormed (.laneStart .a { inp with boot := { inp.boot with payload := [256] } }) = false ∧
    Instr.wellFormed (.laneStart .a { inp with bootSig := { keyHash := [1] } }) = false ∧
    Instr.wellFormed (.partnerWaitExpiry .a { inp with hf := { inp.hf with keySlot := 2 ^ 32 } }) = false ∧
    Instr.wellFormed (.laneStart .a { inp with hf := { inp.hf with emmcBase := 2 ^ 32 } }) = false ∧
    Instr.wellFormed (.laneStart .a { inp with norLog2 := 29 }) = false ∧
    Instr.wellFormed (.laneStart .a { inp with canary := List.replicate 101 true }) = false := by decide

theorem test_ill_formed_container :
    Instr.wellFormed (.timeWaitExpiry .a { inp with container := { cont with keySlot := 2 ^ 32 } }) = false ∧
    Instr.wellFormed (.laneStart .a { inp with container := { cont with version := 2 ^ 32 } }) = false ∧
    Instr.wellFormed (.laneStart .a { inp with container := { cont with overlays := [] } }) = false ∧
    Instr.wellFormed (.laneStart .a { inp with container := { cont with places := [] } }) = false ∧
    Instr.wellFormed (.laneStart .a { inp with container :=
      { cont with base := { triples := [⟨2 ^ 32, 0, 0⟩], patches := [] } } }) = false := by decide

theorem test_ill_formed_loader :
    Instr.wellFormed (.keyRevoke .a 0 65536) = false ∧ Instr.wellFormed (.loaderBlockStart .a 65536 0) = false ∧
    Instr.wellFormed (.loaderBlockStart .a 0 (2 ^ 32)) = false ∧
    Instr.wellFormed (.loaderData .a 683 [0, 0, 0, 0, 0, 0] ⟨{}, true, true⟩) = false ∧
    Instr.wellFormed (.loaderData .a 0 [0, 0, 0, 0, 0, 256] ⟨{}, true, true⟩) = false ∧
    Instr.wellFormed (.loaderData .a 0 [0] ⟨{}, true, true⟩) = false ∧
    Instr.wellFormed (.loaderData .a 0 [0, 0, 0, 0, 0, 0] ⟨{ keyHash := [1] }, true, true⟩) = false := by decide

theorem test_ill_formed_measurements :
    Instr.wellFormed (.modeChangeApply 0 0 (2 ^ 32)) = false ∧
    Instr.wellFormed (.asSync .a 0 0 (2 ^ 64) 0 0 0) = false ∧ Instr.wellFormed (.deputyOscCorrection (2 ^ 32)) = false ∧
    Instr.wellFormed (.adcEstStep .a 0 [] true) = false ∧ Instr.wellFormed (.ptGlitch .a 0 0 256) = false ∧
    Instr.wellFormed (.sentFrame .a 0 [0]) = false ∧
    Instr.wellFormed (.thmSample .a { die := [], pap := [], dep := [], ntc := [] }) = false ∧
    Instr.wellFormed (.vrcUpdate .a { vddc := 0, phases := [], peaks := [] }) = false := by decide

/-! ## Worked examples and tables of the spec -/

/-- A number read from the state that a command leads to. -/
def after (c : Instr) (s : State) (f : State → Nat) : Nat :=
  match exec c s with
  | .next t => f t
  | _ => 0

/-- R363, column "Check": each code over "123456789". -/
theorem test_check_strings : ([0, 1, 2, 3, 4].map fun k => (crcCode k).value [49, 50, 51, 52, 53, 54, 55, 56, 57]) =
    [0xE3069283, 0xCBF43926, 0x29B1, 0xDF, 0x4B] := by decide +kernel

/-- R363: code 0 is the CRC of the records and of the lane link. -/
theorem test_crc32c : crc32c [49, 50, 51, 52, 53, 54, 55, 56, 57] = 0xE3069283 := by decide +kernel

/-- R252: T[512] is 92,681 and the sine of 45 degrees reads 759,242,752. -/
theorem test_sine_45 : sineTable 512 = 92681 ∧ sinM 0x20000000 = 759242752 := by decide

/-- R252: the ends of the quarter and of the half turn. -/
theorem test_sine_ends : sineTable 0 = 0 ∧ sineTable 1024 = 131071 ∧ sineTable 3072 = -131071 := by decide

/-- R73, worked example "building a Drive overlay": 1,480 triples and 576 patch words cost 66.96 us. -/
theorem test_overlay_cost : imageCost
    { triples := List.replicate 1480 ⟨0, 0, 0⟩, patches := [⟨0, List.replicate 64 0⟩, ⟨0, List.replicate 512 0⟩] } = 6696 := by
  decide +kernel

/-- R72, the same example: mask 0xF00 and value 0x500 on 0x1234 give 0x1534. -/
theorem test_triple : ((reg .lb R.CVU_Un_EXPECT.VALUE 0x1234 up (i := 3)).maskField .lb R.CVU_Un_EXPECT.VALUE 0xF00 0x500 3 0).rd
    .lb R.CVU_Un_EXPECT.VALUE 3 = 0x1534 := by decide

/-- `n` frames of the burst wait on `Q02` of lane B. -/
def burst (n : Nat) : State :=
  reg .lb R.TAL_Qq_LIMIT.QUOTA 16 (reg .lb R.TAL_Qq_WC_FIX.COUNTS 35000
    (tally .b ((List.range n).map fun k => { ent k 2 .waiting with cost16 := 560000 }) up) (i := 2)) (i := 2)

/-- R105, worked example "a burst of J1939 frames on CAN2": frame 14 is admitted and frame 15 refused as late. -/
theorem test_j1939_burst :
    ((burst 13).submit .b .ap 2 0 1500000 .plain).1 = .admitted 13 ∧
    ((burst 14).submit .b .ap 2 0 1500000 .plain).1 = .late := ⟨by decide, by decide⟩

/-- Both points of the worked example measured. -/
def syscal : State :=
  [(R.CFG_MODE.MODE, modeService), (R.ADC_SYSCAL_STATUS.ZERO_VALID, 1), (R.ADC_SYSCAL_STATUS.FULL_VALID, 1),
   (R.ADC_SYSCAL_MEAS_ZERO.MEAS, 131124), (R.ADC_SYSCAL_MEAS_FULL.MEAS, 249288), (R.ADC_SYSCAL_TARGET.ZERO, 8192),
   (R.ADC_SYSCAL_TARGET.FULL, 15474)].foldl (fun s x => reg .lb x.1 x.2 s) up

/-- R141, worked example "a phase-current stream": GAIN = -916 and OFFSET = 445. -/
theorem test_syscal_apply :
    after (.syscalApply .b) syscal (fun t => t.rd .lb R.ADC_CHc_CORR.GAIN 0) = 2 ^ 16 - 916 ∧
    after (.syscalApply .b) syscal (fun t => t.rd .lb R.ADC_CHc_CORR.OFFSET 0) = 445 := ⟨by decide, by decide⟩

/-- R114: what two registers of the tally read at reset. -/
theorem test_reset_entries :
    State.reset.rd .la R.TAL_FREE.FREE = 64 ∧ State.reset.rd .lb R.TAL_STATUS.EMPTY = 1 := by decide

/-- R59: with no supply qualified the Deputy is absent and no lane runs. -/
theorem test_reset_is_unpowered : State.reset.depOn = false ∧ State.reset.alive .a = false := by decide


/-- R4, R115: a write of `LOAD` is held, and a write of `CFG` with `EN` starts the timer beside setting its fields. -/
theorem test_timer_by_writes :
    after (.registerWrite .a .ap 32 R.TIM_Tn_LOAD.COUNTS.addr 1000) up (fun t => t.rd .la R.TIM_Tn_LOAD.COUNTS 0) = 1000 ∧
    after (.registerWrite .a .ap 32 R.TIM_Tn_CFG.EN.addr 1) (reg .la R.TIM_Tn_LOAD.COUNTS 1000 up) (fun t =>
      t.rd .la R.TIM_Tn_CFG.EN 0) = 1 := by decide +kernel

/-- R202, R204: a write of a shadow marks its timebase; a write that changes an enabled channel's destination is discarded. -/
theorem test_pwm_by_writes :
    after (.registerWrite .a .ap 32 R.PWM_TBt_PERIOD.P.addr 5000) up (fun t =>
      t.rd .la R.PWM_TBt_PERIOD.P 0 + 10000 * t.rd .la R.PWM_TBt_STATUS.DIRTY 0) = 15000 ∧
    after (.registerWrite .a .ap 32 R.PWM_CHc_DST.DST_H.addr 5) (reg .la R.PWM_CHc_CFG.EN 1 up) (fun t =>
      t.rd .la R.PWM_CHc_DST.DST_H 0 + 10000 * t.rd .la R.PWM_CHc_STATUS.CFG_REJ 0) = 10000 := by decide +kernel

end Sys2Proof.Machine
end

section
/-!
PROOFS. Register accesses (chapter 00): the error response of R7, and the obligations on resets and accesses.
-/
namespace Sys2Proof.Machine

/-! ## Commands that answer a next state -/

/-- Where a command answers `t` and `P` holds of it, the command leads to `P`. -/
theorem leads_of_exec {c : Instr} {s t : State} {P : State → Prop} (h : exec c s = .next t) (hP : P t) : leads c s P :=
  ⟨t, h, hP⟩

/-- Where a command answers `t`, all that it leads to holds of `t`. -/
theorem of_leads {c : Instr} {s t : State} {P : State → Prop} (h : exec c s = .next t) (hl : leads c s P) : P t := by
  obtain ⟨u, hu, hP⟩ := hl
  cases h.symm.trans hu
  exact hP

/-- A write access of an initiator that can make one. -/
theorem exec_registerWrite {s : State} {l : Lane} {who : Initiator} (width a v : Nat) (h : s.canAccess l who = true) :
    exec (.registerWrite l who width a v) s = .next (s.writeAccess l who width a v) :=
  congrArg Host.Outcome.next (if_pos h)

/-- A read access of an initiator that can make one. -/
theorem exec_readLowWordLatch {s : State} {l : Lane} {who : Initiator} (width a : Nat) (h : s.canAccess l who = true) :
    exec (.readLowWordLatch l who width a) s = .next (s.readAccess l who width a) :=
  congrArg Host.Outcome.next (if_pos h)

/-! ## The error response of R7 and its capture -/

/-- Two fields of the register map at different addresses are different fields. -/
theorem Fld.apart_of_addr {f g : Fld} (hf : f.inMap = true) (hg : g.inMap = true) (h : g.addr ≠ f.addr) :
    f.apart g = true := by
  simp only [Fld.inMap, Bool.and_eq_true, decide_eq_true_eq] at hf hg
  simp only [Fld.apart, Bool.and_eq_true, bne_iff_ne, decide_eq_true_eq]
  unfold Fld.base
  omega

/-- An initiator's code fits the three bits of `SYS_ACCESS_INFO.INITIATOR`. -/
theorem initiatorCode_lt (who : Initiator) : who.code < 2 ^ R.SYS_ACCESS_INFO.INITIATOR.w := by
  cases who <;> decide

/-- A reason's code fits the four bits of `SYS_ACCESS_INFO.REASON`. -/
theorem reasonCode_lt (r : Reason) : r.code < 2 ^ R.SYS_ACCESS_INFO.REASON.w := by
  cases r <;> decide

/-- What the error response of R7 does, from `s` to `t`: the capture in `SYS_ACCESS_FAULT` and `SYS_ACCESS_INFO`; every other
register and every byte of memory stand. -/
structure ErrorCaptured (s : State) (l : Lane) (who : Initiator) (a : Nat) (write : Bool) (r : Reason) (t : State) : Prop where
  addr : t.rd (laneDie l) R.SYS_ACCESS_FAULT.ADDR = low 32 a
  initiator : t.rd (laneDie l) R.SYS_ACCESS_INFO.INITIATOR = who.code
  direction : t.rd (laneDie l) R.SYS_ACCESS_INFO.WRITE = b2n write
  reason : t.rd (laneDie l) R.SYS_ACCESS_INFO.REASON = r.code
  count : t.rd (laneDie l) R.SYS_ACCESS_INFO.COUNT =
    satAdd R.SYS_ACCESS_INFO.COUNT.w (s.rd (laneDie l) R.SYS_ACCESS_INFO.COUNT) 1
  registers : ∀ (e : Die) (f : Fld) (i j : Nat), f.inMap = true →
    f.addr ≠ R.SYS_ACCESS_FAULT.ADDR.addr → f.addr ≠ R.SYS_ACCESS_INFO.REASON.addr → t.rd e f i j = s.rd e f i j
  memory : ∀ k b, t.byte k b = s.byte k b

section
variable {s : State} (l : Lane) (who : Initiator) (a : Nat) (write : Bool) (r : Reason) (h : s.regsOk = true)
include h

/-- The five captured fields after the error response. -/
theorem State.rd_accessError_captured :
    (s.accessError l who a write r).rd (laneDie l) R.SYS_ACCESS_FAULT.ADDR = low R.SYS_ACCESS_FAULT.ADDR.w a ∧
    (s.accessError l who a write r).rd (laneDie l) R.SYS_ACCESS_INFO.INITIATOR = who.code ∧
    (s.accessError l who a write r).rd (laneDie l) R.SYS_ACCESS_INFO.WRITE = b2n write ∧
    (s.accessError l who a write r).rd (laneDie l) R.SYS_ACCESS_INFO.REASON = r.code ∧
    (s.accessError l who a write r).rd (laneDie l) R.SYS_ACCESS_INFO.COUNT =
      satAdd R.SYS_ACCESS_INFO.COUNT.w (s.rd (laneDie l) R.SYS_ACCESS_INFO.COUNT) 1 := by
  have hw : 0 < R.SYS_ACCESS_INFO.WRITE.w := by decide
  refine ⟨?_, ?_, ?_, ?_, ?_⟩ <;>
    simp (disch := first | with_unfolding_all decide | exact hw | (repeat apply State.wr_regsOk); exact h) only
      [State.accessError, State.inc_eq, State.put_eq, State.rd_wr_same, State.rd_wr_apart, low_b2n, low_satAdd,
       low_eq (initiatorCode_lt who), low_eq (reasonCode_lt r)]

/-- The error response leaves every field of another register as it was. -/
theorem State.rd_accessError_other (e : Die) {g : Fld} (i j : Nat) (hg : g.inMap = true)
    (hA : g.addr ≠ R.SYS_ACCESS_FAULT.ADDR.addr) (hI : g.addr ≠ R.SYS_ACCESS_INFO.REASON.addr) :
    (s.accessError l who a write r).rd e g i j = s.rd e g i j := by
  have h1 : R.SYS_ACCESS_FAULT.ADDR.apart g = true := Fld.apart_of_addr (by decide) hg hA
  have h2 : R.SYS_ACCESS_INFO.INITIATOR.apart g = true := Fld.apart_of_addr (by decide) hg hI
  have h3 : R.SYS_ACCESS_INFO.WRITE.apart g = true := Fld.apart_of_addr (by decide) hg hI
  have h4 : R.SYS_ACCESS_INFO.REASON.apart g = true := Fld.apart_of_addr (by decide) hg hI
  have h5 : R.SYS_ACCESS_INFO.COUNT.apart g = true := Fld.apart_of_addr (by decide) hg hI
  simp (disch := first | assumption | (repeat apply State.wr_regsOk); exact h) only
    [State.accessError, State.inc_eq, State.put_eq, State.rd_wr_apart]

/-- The error response captures its access and leaves the rest as it was. -/
theorem State.accessError_captured : ErrorCaptured s l who a write r (s.accessError l who a write r) := by
  obtain ⟨hA, hI, hW, hR, hC⟩ := State.rd_accessError_captured l who a write r h
  exact
    { addr := hA, initiator := hI, direction := hW, reason := hR, count := hC
      registers := fun e _ i j => State.rd_accessError_other l who a write r h e i j
      memory := fun k b => by simp [State.byte, State.accessError, State.inc_eq, State.put_eq] }

/-- The error response to a read captures it alike, and the read returns zero. -/
theorem State.readError_captured :
    ErrorCaptured s l who a false r (s.readError l who a r) ∧ ((s.readError l who a r).run l).readData = 0 := by
  obtain ⟨hA, hI, hW, hR, hC, hF, hM⟩ := State.accessError_captured l who a false r h
  have hrd : ∀ e f i j, (s.readError l who a r).rd e f i j = (s.accessError l who a false r).rd e f i j :=
    fun _ _ _ _ => State.rd_modRun ..
  have hbyte : ∀ k b, (s.readError l who a r).byte k b = (s.accessError l who a false r).byte k b :=
    fun k b => by cases l <;> cases k <;> rfl
  refine ⟨?_, by simp [State.readError, State.ret]⟩
  exact
    { addr := (hrd ..).trans hA, initiator := (hrd ..).trans hI, direction := (hrd ..).trans hW
      reason := (hrd ..).trans hR, count := (hrd ..).trans hC
      registers := fun e f i j hf h1 h2 => (hrd ..).trans (hF e f i j hf h1 h2)
      memory := fun k b => (hbyte k b).trans (hM k b) }

end

/-! ## Accesses of a register block that get the error response -/

section
variable {s : State} {l : Lane} {a : Nat} {d : Die} (who : Initiator) (ht : s.target l a = .reg d)
include ht

/-- A write that is no aligned word gets the error response (R9). -/
theorem State.writeAccess_width {width : Nat} (v : Nat) (hw : width ≠ 32 ∨ a % 4 ≠ 0) :
    s.writeAccess l who width a v = s.accessError l who a true .width := by
  simp only [State.writeAccess, ht, if_pos hw]

/-- A read that is no aligned word gets the error response (R9). -/
theorem State.readAccess_width {width : Nat} (hw : width ≠ 32 ∨ a % 4 ≠ 0) :
    s.readAccess l who width a = s.readError l who a .width := by
  simp only [State.readAccess, ht, if_pos hw]

/-- An aligned word write while the lane's clocks do not run gets the error response (R7, log entry 29). -/
theorem State.writeAccess_clockOff (v : Nat) (ha : a % 4 = 0) (hc : s.clocked l = false) :
    s.writeAccess l who 32 a v = s.accessError l who a true .clockOff := by
  simp [State.writeAccess, ht, ha, hc]

/-- An aligned word read while the lane's clocks do not run gets the error response (R7, log entry 29). -/
theorem State.readAccess_clockOff (ha : a % 4 = 0) (hc : s.clocked l = false) :
    s.readAccess l who 32 a = s.readError l who a .clockOff := by
  simp [State.readAccess, ht, ha, hc]

end

/-! ## A lane whose clocks do not run, and its debug port -/

/-- Lane A in `ST03`: its debug port is open and reaches it (R4, R446), its clock domains have not started (R75). -/
def clocksOff : State :=
  (State.reset.modRun .a fun r => { r with phase := .starting 3 }).wr .la R.SEC_LC.DEBUG 2

theorem clocksOff_canonical : clocksOff.canonical = true := by decide
theorem clocksOff_canAccess : clocksOff.canAccess .a .debug = true := by decide
theorem clocksOff_clocked : clocksOff.clocked .a = false := by decide
theorem clocksOff_count : clocksOff.rd .la R.SYS_ACCESS_INFO.COUNT = 0 := by decide

/-- The error response counts at lane A in `ST03`. -/
theorem clocksOff_counts {a : Nat} {write : Bool} {r : Reason} {t : State}
    (h : ErrorCaptured clocksOff .a .debug a write r t) : t.rd .la R.SYS_ACCESS_INFO.COUNT = 1 :=
  h.count.trans (by rw [show laneDie .a = .la from rfl, clocksOff_count]; decide)

/-! ## The obligations of scope -/

/-- Settles O7: the register file, both memories and the supplies are empty at reset. -/
theorem resetEntries : Obligations.ResetEntries := by
  unfold Obligations.ResetEntries
  exact ⟨State.rd_reset, fun l a => by cases l <;> rfl, fun l => by cases l <;> rfl, rfl⟩

/-- Settles O8: the width check comes before every other check of a register access. -/
theorem registerAccessWidthError : Obligations.RegisterAccessWidthError := by
  unfold Obligations.RegisterAccessWidthError
  intro s l who width a v d hs hacc ht hw captured
  have hcap : ∀ {write : Bool} {t : State}, ErrorCaptured s l who a write .width t → captured write t :=
    fun ⟨hA, hI, hW, hR, hC, hF, hM⟩ => ⟨hA, hI, hW, hR, hC, hF, hM⟩
  have hregs := canonical_regs hs
  constructor
  · refine leads_of_exec (exec_registerWrite width a v hacc) (hcap ?_)
    rw [State.writeAccess_width who ht v hw]
    exact State.accessError_captured l who a true .width hregs
  · refine leads_of_exec (exec_readLowWordLatch width a hacc) ?_
    rw [State.readAccess_width who ht hw]
    obtain ⟨hE, h0⟩ := State.readError_captured l who a .width hregs
    exact ⟨hcap hE, h0⟩

/-- Refutes O9: the statement does not ask that the lane's clocks run. The debug port reaches lane A in `ST03`, before they
start; its write of `SYS_VDD_REQ` gets the error response of R7, so that the write sets `SYS_ACCESS_INFO.COUNT` too. -/
theorem not_registerWriteByAccessCode : ¬ Obligations.RegisterWriteByAccessCode := by
  unfold Obligations.RegisterWriteByAccessCode
  rintro ⟨hword, -⟩
  have hfields : fieldsAt .lane R.SYS_VDD_REQ.CODE.addr = [] ++ (R.SYS_VDD_REQ.CODE, 0, 0) :: [] := by decide +kernel
  have htarget : clocksOff.target .a R.SYS_VDD_REQ.CODE.addr = .reg (laneDie .a) := by decide
  obtain ⟨hset, -⟩ := hword clocksOff .a .debug R.SYS_VDD_REQ.CODE.addr 0 R.SYS_VDD_REQ.CODE 0 0 [] [] clocksOff_canonical
    clocksOff_canAccess htarget (by decide) (by decide) (by decide) (by decide) hfields (by simp)
  obtain ⟨-, -, -, -, hother⟩ := of_leads (exec_registerWrite 32 _ 0 clocksOff_canAccess) (hset (.inl (by decide)))
  have hstays := hother .la R.SYS_ACCESS_INFO.COUNT 0 0 (by rw [hfields]; decide)
  rw [State.writeAccess_clockOff .debug htarget 0 (by decide) clocksOff_clocked, clocksOff_count,
    clocksOff_counts (State.accessError_captured _ _ _ _ _ (canonical_regs clocksOff_canonical))] at hstays
  exact absurd hstays (by decide)

/-- Refutes O10: the statement does not ask that the lane's clocks run. The debug port reaches lane A in `ST03`, before they
start; its read of `TIM_NOW_LO` gets the error response of R7, so that the read sets `SYS_ACCESS_INFO.COUNT`. -/
theorem not_countsReadLowWordFirst : ¬ Obligations.CountsReadLowWordFirst := by
  unfold Obligations.CountsReadLowWordFirst
  rintro ⟨hpair, -⟩
  have htarget : clocksOff.target .a R.TIM_NOW_LO.TIME.addr = .reg .la := by decide
  obtain ⟨-, hregs, -⟩ := of_leads (exec_readLowWordLatch 32 _ clocksOff_canAccess)
    (hpair clocksOff .a .debug R.TIM_NOW_LO.TIME.addr .la clocksOff_canonical clocksOff_canAccess htarget
      (by decide) (by decide) (by decide))
  rw [State.readAccess_clockOff .debug htarget (by decide) clocksOff_clocked] at hregs
  obtain ⟨hE, -⟩ := State.readError_captured .a .debug R.TIM_NOW_LO.TIME.addr .clockOff (canonical_regs clocksOff_canonical)
  have hstays : (clocksOff.readError .a .debug R.TIM_NOW_LO.TIME.addr .clockOff).rd .la R.SYS_ACCESS_INFO.COUNT =
      clocksOff.rd .la R.SYS_ACCESS_INFO.COUNT := by
    unfold State.rd
    rw [hregs]
  rw [clocksOff_counts hE, clocksOff_count] at hstays
  exact absurd hstays (by decide)

end Sys2Proof.Machine
end

section
/-!
PROOFS. The tightly coupled memories of a lane's core pairs (R42).
-/
namespace Sys2Proof.Machine

/-! ## Which pair owns an address -/

/-- The pair whose tightly coupled memory holds an address of 0x1000_0000 to 0x100F_FFFF (R42). -/
def tcmPair (a : Nat) : Initiator := if a < 0x10080000 then .ap else .cp

/-- A lane whose pairs run firmware executes the commands of its blocks. -/
theorem State.alive_of_firmware {s : State} {l : Lane} (h : s.firmware l = true) : s.alive l = true := by
  unfold State.firmware at h
  unfold State.alive
  cases hp : (s.run l).phase <;> simp_all
  omega

/-- While a lane's pairs run firmware, every initiator but the debug port can make an access. -/
theorem State.canAccess_of_firmware {s : State} {l : Lane} {who : Initiator} (h : s.firmware l = true)
    (hd : who ≠ .debug) : s.canAccess l who = true := by
  have ha := State.alive_of_firmware h
  cases who with
  | ap => exact h
  | cp => exact h
  | debug => exact absurd rfl hd
  | _ => exact ha

/-- Who is not the debug port reaches an address's memory as its pair alone (R42). -/
theorem tcmOwner_iff {who : Initiator} (a : Nat) (hd : who ≠ .debug) :
    tcmOwner (decide (a < 0x10080000)) who = true ↔ who = tcmPair a := by
  unfold tcmPair
  by_cases h : a < 0x10080000 <;> cases who <;> simp [tcmOwner, h] at hd ⊢

section
variable {s : State} {l : Lane} {who : Initiator} {width a : Nat} (hlo : 0x10000000 ≤ a) (hhi : a ≤ 0x100FFFFF)
include hlo hhi

/-- An address of the tightly coupled memories decodes to its pair's memory (R41). -/
theorem State.target_tcm : s.target l a = if a < 0x10080000 then .apTcm else .cpTcm := by
  unfold State.target
  by_cases h : a < 0x10080000
  · rw [if_neg (by omega), if_pos (by omega), if_pos h]
  · rw [if_neg (by omega), if_neg (by omega), if_pos (by omega), if_neg h]

/-- A write to a tightly coupled memory: its owner's memory write, the error response for anyone else (R42). -/
theorem State.writeAccess_tcm (v : Nat) : s.writeAccess l who width a v =
    if tcmOwner (decide (a < 0x10080000)) who then s.writeMem l who width a v else s.accessError l who a true .owner := by
  unfold State.writeAccess
  rw [State.target_tcm hlo hhi]
  by_cases h : a < 0x10080000 <;> simp only [h, if_true, if_false, decide_true, decide_false]

/-- A read of a tightly coupled memory: its owner's memory read, the error response for anyone else (R42). -/
theorem State.readAccess_tcm : s.readAccess l who width a =
    if tcmOwner (decide (a < 0x10080000)) who then s.readMem l who width a else s.readError l who a .owner := by
  unfold State.readAccess
  rw [State.target_tcm hlo hhi]
  by_cases h : a < 0x10080000 <;> simp only [h, if_true, if_false, decide_true, decide_false]

end

/-- A byte written to memory is one byte stored. -/
theorem State.writeMem_byte (s : State) (l : Lane) (who : Initiator) (a v : Nat) :
    s.writeMem l who 8 a v = s.setByte l a (BitVec.ofNat 8 (v % 256)) := by
  simp [State.writeMem, accessBytes, Nat.mod_one, leBytes, State.setBytes]

/-- Settles O11: a foreign access takes the `owner` branch of its decoded memory, the pair's own byte store is `setByte`. -/
theorem tightlyCoupledMemoryIsItsPairsOwn : Obligations.TightlyCoupledMemoryIsItsPairsOwn := by
  unfold Obligations.TightlyCoupledMemoryIsItsPairsOwn
  intro s l who width a v hs hfw hlo hhi hd own captured
  have hacc := State.canAccess_of_firmware hfw hd
  have hregs := canonical_regs hs
  have haddr : low 32 a = a := low_of_lt (by omega)
  have hcap : ∀ {write : Bool} {t : State}, ErrorCaptured s l who a write .owner t → captured write t :=
    fun ⟨hA, hI, hW, hR, hC, hF, hM⟩ => ⟨hA.trans haddr, hI, hW, hR, hC, hF, hM⟩
  refine ⟨fun hw => ⟨?_, ?_⟩, fun hw => ?_⟩
  · refine leads_of_exec (exec_registerWrite width a v hacc) (hcap ?_)
    rw [State.writeAccess_tcm hlo hhi, if_neg (mt (tcmOwner_iff a hd).mp hw)]
    exact State.accessError_captured l who a true .owner hregs
  · refine leads_of_exec (exec_readLowWordLatch width a hacc) ?_
    rw [State.readAccess_tcm hlo hhi, if_neg (mt (tcmOwner_iff a hd).mp hw)]
    obtain ⟨hE, h0⟩ := State.readError_captured l who a .owner hregs
    exact ⟨hcap hE, h0⟩
  · refine leads_of_exec (exec_registerWrite 8 a v hacc) ?_
    have hl := canonical_lane hs l
    rw [State.writeAccess_tcm hlo hhi, if_pos ((tcmOwner_iff a hd).mpr hw), State.writeMem_byte]
    refine ⟨?_, fun k c hkc => ?_, State.setByte_regs' ..⟩
    · rw [State.byte_setByte_same _ _ _ _ hl]
      simp
    · by_cases hk : k = l
      · subst hk
        exact State.byte_setByte_other _ _ _ _ _ hl (hkc.resolve_left (absurd rfl))
      · exact State.byte_setByte_lane _ _ _ _ _ _ hk

end Sys2Proof.Machine
end

section
/-!
PROOFS. What the lane link, the Deputy and the clocks show of an operation: which of their register fields it writes, all
others standing.
-/
namespace Sys2Proof.Machine

/-! ## Fields of the tracked blocks -/

/-- The register blocks whose fields are told apart here: lane link (0x400C), Ethernet (0x4010), Deputy (0x4015) and time
(0x4017). -/
def trackedBlocks : Nat := 2 ^ 12 + 2 ^ 16 + 2 ^ 21 + 2 ^ 23

/-- The mask of everything else (Laws/Within.lean). -/
def untracked : Nat := 17592186044415 - trackedBlocks

/-- A field of the tracked blocks on die `d` that is none of those listed. -/
def spared (ks : List (Die × Fld)) (d : Die) (g : Fld) : Bool :=
  g.inM trackedBlocks && decide (g.base < 2 ^ 37) &&
    ks.all fun x => (x.1 != d || x.2.base != g.base) && decide (x.2.base < 2 ^ 37)

/-- Of the fields of the tracked blocks none but the listed ones changed. -/
structure Alters (ks : List (Die × Fld)) (s t : State) : Prop where
  ok : s.regsOk = true → t.regsOk = true
  rd : s.regsOk = true → ∀ (d : Die) (g : Fld) (i j : Nat), spared ks d g = true → t.rd d g i j = s.rd d g i j

variable {ks : List (Die × Fld)} {s t u : State}

theorem Alters.refl (s : State) : Alters ks s s := ⟨id, fun _ _ _ _ _ _ => rfl⟩

theorem Alters.trans (h : Alters ks s t) (g : Alters ks t u) : Alters ks s u :=
  ⟨fun x => g.ok (h.ok x), fun x d f i j hf => (g.rd (h.ok x) d f i j hf).trans (h.rd x d f i j hf)⟩

/-- A longer list allows more. -/
theorem Alters.mono {ks' : List (Die × Fld)} (h : Alters ks s t) (hk : ks ⊆ ks') : Alters ks' s t :=
  ⟨h.ok, fun x d g i j hg => h.rd x d g i j (by
    simp only [spared, Bool.and_eq_true, List.all_eq_true] at hg ⊢
    exact ⟨hg.1, fun y hy => hg.2 y (hk hy)⟩)⟩

/-- The flag of a spared field stands. -/
theorem Alters.on (h : Alters ks s t) (hs : s.regsOk = true) (d : Die) (g : Fld) (i j : Nat) (hg : spared ks d g = true) :
    t.on d g i j = s.on d g i j := by
  unfold State.on
  rw [h.rd hs d g i j hg]

/-- A larger mask allows more. -/
theorem Within.mono {m m' : Nat} (h : Within m s t) (hm : m &&& m' = m) : Within m' s t :=
  have no : ∀ {b}, Nat.testBit m' b = false → Nat.testBit m b = false := fun {b} hb => by
    cases hmb : Nat.testBit m b
    · rfl
    · exact absurd ((bsub hmb hm).symm.trans hb) (by decide)
  { ok := h.ok, regs := fun x k hk => h.regs x k (no hk), mem := fun b => h.mem (no b), tables := fun b => h.tables (no b)
    nv := fun b => h.nv (no b), hoist := fun b => h.hoist (no b), mux := fun b => h.mux (no b), pap := fun b => h.pap (no b)
    dep := fun b => h.dep (no b), modeEng := fun b => h.modeEng (no b), sup := fun b => h.sup (no b)
    storage := fun b => h.storage (no b), freeIdx := fun b => h.freeIdx (no b), now := fun b => h.now (no b) }

/-- An operation that writes none of the tracked blocks alters none of their fields. -/
theorem Within.alters (h : Within untracked s t) : Alters ks s t :=
  ⟨h.ok, fun hs d g i j hg => h.rd hs d g i j (by
    simp only [spared, Bool.and_eq_true] at hg
    exact hg.1.1)⟩

/-- A field written is one of those listed. -/
theorem Alters.wr (h : Alters ks s t) (d : Die) (f : Fld) (v i j : Nat) (hf : (d, f) ∈ ks) : Alters ks s (t.wr d f v i j) :=
  h.trans
    { ok := State.wr_regsOk t d f v i j
      rd := fun ht e g i' j' hg => by
        simp only [spared, Bool.and_eq_true, List.all_eq_true, decide_eq_true_eq, Bool.or_eq_true, bne_iff_ne] at hg
        obtain ⟨⟨-, hg⟩, hall⟩ := hg
        obtain ⟨hd | hb, hf⟩ := hall _ hf
        · exact State.rd_wr_die _ _ _ _ _ _ _ _ _ _ ht hd hf hg
        · exact State.rd_wr_apart _ _ _ _ _ _ _ _ _ _ ht (by
            simp only [Fld.apart, Bool.and_eq_true, bne_iff_ne, decide_eq_true_eq]
            exact ⟨⟨hb, hf⟩, hg⟩) }

theorem Alters.ite {c : Prop} [Decidable c] (h : Alters ks s t) (g : Alters ks s u) : Alters ks s (if c then t else u) := by
  split
  · exact h
  · exact g

theorem Alters.when (h : Alters ks s t) (c : Bool) {f : State → State} (hf : ∀ x, Alters ks x (f x)) :
    Alters ks s (t.when c f) := h.trans (Alters.ite (hf t) (Alters.refl t))

theorem Alters.each {α : Type} (h : Alters ks s t) (l : List α) {f : State → α → State}
    (hf : ∀ x y, Alters ks x (f x y)) :
    Alters ks s (t.each l f) := by
  induction l generalizing t with
  | nil => exact h
  | cons x r ih => exact ih (h.trans (hf t x))

/-! ## The fields that the operations on the grant write -/

/-- The fields that a role of lane `l` writes. -/
def roleFlds (l : Lane) : List (Die × Fld) :=
  [(laneDie l, R.LNK_STATUS.ROLE), (laneDie l, R.LNK_STATUS.AUTH_REQ), (.ds, reqFld l)]

/-- The eligibility fields. -/
def eligFlds : List (Die × Fld) :=
  [(.ds, R.DSP_GRANT.ELIG_A), (.ds, R.DSP_GRANT.ELIG_B), (.ds, R.DSP_Lx_STATUS.ELIGIBLE)]

/-- The fields that the return of a lost class writes. -/
def returnFlds : List (Die × Fld) :=
  [(.ds, R.DSP_OUTCOME.LOST), (.ds, R.DSP_OUTCOME.SINGLE), (.ds, R.DSP_OUTCOME.DEGRADED), (.ds, R.DSP_Lx_STATUS.LOST),
   (.la, R.LNK_STATUS.PARTNER_LOST), (.lb, R.LNK_STATUS.PARTNER_LOST), (.ds, R.DSP_CHS.FAIL_A), (.ds, R.DSP_CHS.FAIL_B)]

/-- The fields that the fault record and the causes write. -/
def recordFlds : List (Die × Fld) :=
  [(.ds, R.DSP_FR_HEAD.WRAPPED), (.ds, R.DSP_FR_HEAD.NEXT), (.ds, R.DSP_FR_HEAD.COUNT), (.ds, R.DSP_FRr_INFO.CLASS),
   (.ds, R.DSP_FRr_INFO.CAUSE), (.ds, R.DSP_FRr_INFO.STANDBY), (.ds, R.DSP_FRr_INFO.DETAIL), (.ds, R.DSP_FRr_INFO.OUTCOME),
   (.ds, R.DSP_FRr_INFO.VALID), (.ds, R.DSP_FRr_TIME.TIME), (.ds, R.DSP_FAULT_CNT.EVENTS),
   (.ds, R.DSP_FAULT_CNT.DECLARATIONS), (.ds, R.DSP_Lx_FAULT.CAUSE)]

/-- The fields that the removal of the grant from lane `l` writes beside those of its role. -/
def removeFlds (l : Lane) : List (Die × Fld) :=
  [(.ds, R.DSP_GRANT.STATE), (.ds, R.DSP_GRANT_CNT.HOLDS), (.ds, R.DSP_HOLD.TB), (.ds, R.DSP_HOLD.EXPIRED),
   (laneDie l, R.LNK_STATUS.GRANTED), (laneDie l, R.LNK_CMD_RESULT.BUSY)]

/-- The fields that the grant given to lane `l` writes beside those of the roles. -/
def giveFlds (l : Lane) : List (Die × Fld) :=
  [(.ds, R.DSP_GRANT.STATE), (.ds, R.DSP_GRANT_CNT.GRANTS), (.ds, R.DSP_GRANT.HOLD_TIME), (.ds, R.DSP_HOLD.TB),
   (laneDie l, R.LNK_STATUS.GRANTED)]

theorem State.setRole_alters (s : State) (l : Lane) (r : Nat) : Alters (roleFlds l) s (s.setRole l r) :=
  Alters.when (((Alters.refl s).wr _ _ _ _ _ (by simp [roleFlds])).wr _ _ _ _ _ (by simp [roleFlds])) _
    fun x => (Alters.refl x).wr _ _ _ _ _ (by simp [roleFlds])

theorem State.syncElig_alters (s : State) : Alters eligFlds s s.syncElig :=
  Alters.each (Alters.refl s) _ fun x l =>
    ((Alters.refl x).wr _ _ _ _ _ (by cases l <;> simp [eligFlds, eligFld])).wr _ _ _ _ _ (by simp [eligFlds])

theorem State.syncChs_alters (s : State) : Alters returnFlds s s.syncChs :=
  Alters.each (Alters.refl s) _ fun x l => (Alters.refl x).wr _ _ _ _ _ (by cases l <;> simp [returnFlds, chsFld])

theorem State.causeOf_alters (s : State) (l : Lane) (c : Nat) : Alters recordFlds s (s.causeOf l c) :=
  (Alters.refl s).wr _ _ _ _ _ (by simp [recordFlds])

theorem State.log_alters (s : State) (l : Lane) (rule detail : Nat) : Alters ks s (s.log l rule detail) :=
  (State.log_within s l rule detail (by decide) (Within.refl s)).alters

theorem State.returnClass_alters (s : State) (c : FaultClass) : Alters returnFlds s (s.returnClass c) := by
  unfold State.returnClass
  lift_lets -useContext -merge -underBinder
  intro s1
  have h1 : Alters returnFlds s s1 := (Alters.refl s).wr _ _ _ _ _ (by simp [returnFlds])
  clear_value s1
  intro s2
  have h2 : Alters returnFlds s s2 := by
    unfold s2
    split
    · next l _ =>
      exact ((h1.wr _ _ _ _ _ (by simp [returnFlds])).wr _ _ _ _ _ (by cases l <;> simp [returnFlds, laneDie, Lane.other])).ite h1
    · exact h1
  clear_value s2
  intro s3
  have h3 : Alters returnFlds s s3 :=
    ((h2.wr _ _ _ _ _ (by simp [returnFlds])).when _ fun x => (Alters.refl x).wr _ _ _ _ _ (by simp [returnFlds])).ite h2
  clear_value s3
  exact (h3.trans (State.syncLost_within s3 (by decide) (Within.refl s3)).alters).trans (State.syncChs_alters _)

theorem State.returns_alters (s : State) : Alters returnFlds s s.returns :=
  Alters.each (Alters.refl s) _ fun x l => (State.returnClass_alters x (lossOf l)).ite (Alters.refl x)

theorem State.record_alters (s : State) (cls cause : Nat) (standby : Bool) (detail : Nat) :
    Alters recordFlds s (s.record cls cause standby detail) := by
  unfold State.record
  lift_lets -useContext -merge -underBinder
  intro r s1
  have h1 : Alters recordFlds s s1 := (Alters.refl s).when _ fun x => (Alters.refl x).wr _ _ _ _ _ (by simp [recordFlds])
  clear_value s1
  intro s2
  have h2 : Alters recordFlds s s2 := by
    refine Alters.wr (Alters.wr (Alters.wr (Alters.wr (Alters.wr (Alters.wr (Alters.wr h1
      _ _ _ _ _ ?_) _ _ _ _ _ ?_) _ _ _ _ _ ?_) _ _ _ _ _ ?_) _ _ _ _ _ ?_) _ _ _ _ _ ?_) _ _ _ _ _ ?_ <;> simp [recordFlds]
  clear_value s2
  intro s3
  have h3 : Alters recordFlds s s3 := (h2.wr _ _ _ _ _ (by simp [recordFlds])).wr _ _ _ _ _ (by simp [recordFlds])
  clear_value s3
  intro s4
  have h4 : Alters recordFlds s s4 :=
    (h3.wr _ _ _ _ _ (by simp [recordFlds])).ite (h3.wr _ _ _ _ _ (by simp [recordFlds]))
  clear_value s4
  exact h4.each _ fun x l => (Alters.refl x).when _ fun y => y.log_alters ..

/-! ## The grant removed and given -/

/-- The grant has been removed from lane `l` since `s`, and the hold has begun (R22, R25). -/
structure GrantRemoved (s : State) (l : Lane) (t : State) : Prop where
  ok : t.regsOk = true
  state : t.rd .ds R.DSP_GRANT.STATE = grantHold
  holds : rose s t .ds R.DSP_GRANT_CNT.HOLDS
  granted : t.rd (laneDie l) R.LNK_STATUS.GRANTED = 0
  holdFrom : t.dep.holdFrom = some l
  holdAt : t.dep.holdAt = s.now

/-- The fields that show a removal of the grant from lane `l`. -/
def removalShown (l : Lane) : List (Die × Fld) :=
  [(.ds, R.DSP_GRANT.STATE), (.ds, R.DSP_GRANT_CNT.HOLDS), (laneDie l, R.LNK_STATUS.GRANTED)]

/-- A removal stands through every operation that spares the fields which show it and the Deputy's own state. -/
theorem GrantRemoved.alters {l : Lane} (h : GrantRemoved s l t) (ha : Alters ks t u) (hd : u.dep = t.dep)
    (hk : ∀ x ∈ removalShown l, spared ks x.1 x.2 = true) : GrantRemoved s l u := by
  have go : ∀ x ∈ removalShown l, u.rd x.1 x.2 = t.rd x.1 x.2 := fun x hx => ha.rd h.ok _ _ _ _ (hk x hx)
  simp only [removalShown, List.forall_mem_cons, List.not_mem_nil, false_implies, implies_true, and_true] at go
  obtain ⟨g1, g2, g3⟩ := go
  exact ⟨ha.ok h.ok, g1.trans h.state, g2.trans h.holds, g3.trans h.granted, hd ▸ h.holdFrom, hd ▸ h.holdAt⟩

/-- What a removal of the grant from its holder does: the hold begins, the holder turns `WARM` unless it is lost or not
`ACTIVE`, and of the registers only the mode master's follow. -/
theorem State.removeGrant_stages {s t : State} {l : Lane} (hs : s.regsOk = true) (hg : s.granted l = true)
    (ht : s.removeGrant l = t) :
    ∃ u w, Alters (removeFlds l) s u ∧ u.depOn = s.depOn ∧ GrantRemoved s l u ∧
      (w = u ∨ w = u.setRole l roleWarm) ∧ Within 2 w t := by
  revert ht
  unfold State.removeGrant
  rw [if_pos hg]
  lift_lets -useContext -merge -underBinder
  intro s1 s2 s3 s4 s5 s6 ht
  have h1 : Alters (removeFlds l) s s1 :=
    ((Alters.refl s).wr _ _ _ _ _ (by simp [removeFlds])).wr _ _ _ _ _ (by simp [removeFlds])
  have hs1 := h1.ok hs
  have hstate : s1.rd .ds R.DSP_GRANT.STATE = grantHold := by
    unfold s1
    rw [State.inc_eq, State.rd_wr_apart _ _ _ _ _ _ _ _ _ _ (State.wr_regsOk _ _ _ _ _ _ hs) (by decide),
      State.rd_wr_same _ _ _ _ _ _ hs]
    decide
  have hholds : rose s s1 .ds R.DSP_GRANT_CNT.HOLDS := by
    unfold rose s1
    rw [State.inc_eq, State.rd_wr_same _ _ _ _ _ _ (State.wr_regsOk _ _ _ _ _ _ hs),
      State.rd_wr_apart _ _ _ _ _ _ _ _ _ _ hs (by decide), low_satAdd]
  have hon1 : s1.depOn = s.depOn := rfl
  clear_value s1
  have h3 : Alters [(.ds, R.DSP_HOLD.TB), (.ds, R.DSP_HOLD.EXPIRED)] s1 s3 :=
    (((Alters.refl s1).wr _ _ _ _ _ (by simp)).wr _ _ _ _ _ (by simp)).trans
      (within_modDep _ (by decide) (Within.refl s2)).alters
  have hs3 := h3.ok hs1
  have hon3 : s3.depOn = s.depOn := hon1
  have hfrom : s3.dep.holdFrom = some l := rfl
  have hat : s3.dep.holdAt = s.now := rfl
  clear_value s3
  obtain ⟨v, hv, hgnt, hdep, h5⟩ : ∃ v, Alters [(laneDie l, R.LNK_STATUS.GRANTED), (laneDie l, R.LNK_CMD_RESULT.BUSY)] s3 v ∧
      v.rd (laneDie l) R.LNK_STATUS.GRANTED = 0 ∧ v.dep = s3.dep ∧
      ∀ {m}, 68719476864 &&& m = 68719476864 → Within m v s5 := by
    refine ⟨_, ((Alters.refl s3).wr _ _ _ _ _ (by simp)).wr _ _ _ _ _ (by simp), ?_, ?_, fun hm =>
      State.event_within _ _ _ (msub rfl hm) (within_modRun _ _ (State.muxDrives_within _ (msub rfl hm)
        (State.pwmUngrant_within _ _ (msub rfl hm) (Within.refl _))) fun _ => ⟨rfl, rfl⟩)⟩
    · rw [State.rd_wr_apart _ _ _ _ _ _ _ _ _ _ (State.wr_regsOk _ _ _ _ _ _ hs3) (by decide),
        State.rd_wr_same _ _ _ _ _ _ hs3]
      decide
    · rw [State.wr_dep, State.wr_dep]
  clear_value s5
  have hv5 : Alters [] v s5 := (h5 (by decide)).alters
  have h15 : Alters [(.ds, R.DSP_HOLD.TB), (.ds, R.DSP_HOLD.EXPIRED), (laneDie l, R.LNK_STATUS.GRANTED),
      (laneDie l, R.LNK_CMD_RESULT.BUSY)] s1 s5 :=
    ((h3.mono (by simp)).trans (hv.mono (by simp))).trans (hv5.mono (by simp))
  have hdep5 : s5.dep = s3.dep := ((h5 (m := 68719476864) (by decide)).dep (by decide)).trans hdep
  refine ⟨s5, s6, h1.trans (h15.mono (by simp [removeFlds])),
    (congrArg (fun d => d.phase == .on) hdep5).trans hon3,
    { ok := h15.ok hs1
      state := (h15.rd hs1 _ _ _ _ (by cases l <;> decide)).trans hstate
      holds := (h15.rd hs1 _ _ _ _ (by cases l <;> decide)).trans hholds
      granted := (hv5.rd (hv.ok hs3) _ _ _ _ (by cases l <;> decide)).trans hgnt
      holdFrom := (congrArg DepSt.holdFrom hdep5).trans hfrom
      holdAt := (congrArg DepSt.holdAt hdep5).trans hat }, ?_, ?_⟩
  · unfold s6
    split
    · exact .inr rfl
    · exact .inl rfl
  · rw [← ht]
    exact State.syncMaster_within _ (by decide) (Within.refl _)

/-- What is set before the roles and the mode master follow a grant given to lane `l` (R25, R316). -/
structure GrantTaken (s : State) (l : Lane) (u : State) : Prop where
  alters : Alters (giveFlds l) s u
  state : u.rd .ds R.DSP_GRANT.STATE = grantCode l
  grants : rose s u .ds R.DSP_GRANT_CNT.GRANTS
  granted : u.rd (laneDie l) R.LNK_STATUS.GRANTED = 1
  depOn : u.depOn = s.depOn
  holdFrom : s.rd .ds R.DSP_GRANT.STATE = grantHold → u.dep.holdFrom = none

theorem grantCode_low (l : Lane) : low R.DSP_GRANT.STATE.w (grantCode l) = grantCode l := by cases l <;> decide

/-- What a grant given to lane `l` does: the grant is taken, the lane turns `ACTIVE`, a partner may turn `WARM`, and of the
registers only the mode master's follow. -/
theorem State.giveGrant_stages {s t : State} {l : Lane} (hs : s.regsOk = true) (ht : s.giveGrant l = t) :
    ∃ u v w, GrantTaken s l u ∧ Within 0 (u.setRole l roleActive) v ∧ (w = v ∨ w = v.setRole l.other roleWarm) ∧
      Within 2 w t := by
  revert ht
  unfold State.giveGrant
  lift_lets -useContext -merge -underBinder
  intro from_ wasHold planned s0 s1 s2 s3 s4 s5 s6 ht
  have h0 : ∀ {m}, Within m s s0 := within_each _ _ (Within.refl _) fun x y =>
    within_modRun _ _ (Within.refl _) fun _ => ⟨rfl, rfl⟩
  clear_value s0
  have hs0 := (h0 (m := 0)).ok hs
  have hcnt0 : s0.rd .ds R.DSP_GRANT_CNT.GRANTS = s.rd .ds R.DSP_GRANT_CNT.GRANTS :=
    (h0 (m := 0)).rd hs _ _ _ _ (by decide)
  have h1 : Alters (giveFlds l) s s1 :=
    (h0.alters.wr _ _ _ _ _ (by simp [giveFlds])).wr _ _ _ _ _ (by simp [giveFlds])
  have hs1 := h1.ok hs
  have hstate : s1.rd .ds R.DSP_GRANT.STATE = grantCode l := by
    unfold s1
    rw [State.inc_eq, State.rd_wr_apart _ _ _ _ _ _ _ _ _ _ (State.wr_regsOk _ _ _ _ _ _ hs0) (by decide),
      State.rd_wr_same _ _ _ _ _ _ hs0, grantCode_low]
  have hgrants : rose s s1 .ds R.DSP_GRANT_CNT.GRANTS := by
    unfold rose s1
    rw [State.inc_eq, State.rd_wr_same _ _ _ _ _ _ (State.wr_regsOk _ _ _ _ _ _ hs0),
      State.rd_wr_apart _ _ _ _ _ _ _ _ _ _ hs0 (by decide), low_satAdd, hcnt0]
  have hdep1 : s1.dep = s.dep := (h0 (m := 0)).dep (by decide)
  clear_value s1
  have h2 : Alters [(.ds, R.DSP_GRANT.HOLD_TIME), (.ds, R.DSP_HOLD.TB)] s1 s2 :=
    ((((Alters.refl s1).wr _ _ _ _ _ (by simp)).wr _ _ _ _ _ (by simp)).trans
      (within_modDep _ (by decide) (Within.refl _)).alters).ite (Alters.refl s1)
  have hphase : s2.dep.phase = s1.dep.phase := by
    unfold s2
    split <;> rfl
  have hfrom : s.rd .ds R.DSP_GRANT.STATE = grantHold → s2.dep.holdFrom = none := fun hh => by
    unfold s2
    rw [if_pos (by simp [wasHold, hh])]
    rfl
  clear_value s2
  have h3 : Alters [(.ds, R.DSP_GRANT.HOLD_TIME), (.ds, R.DSP_HOLD.TB)] s1 s3 :=
    h2.trans (within_modDepLane _ _ (by decide) (Within.refl s2)).alters
  have hs3 := h3.ok hs1
  have hphase3 : s3.dep.phase = s.dep.phase := hphase.trans (congrArg DepSt.phase hdep1)
  have hfrom3 : s.rd .ds R.DSP_GRANT.STATE = grantHold → s3.dep.holdFrom = none := hfrom
  clear_value s3
  obtain ⟨u, hu, hgnt, hdep, hs4⟩ : ∃ u, Alters [(laneDie l, R.LNK_STATUS.GRANTED)] s3 u ∧
      u.rd (laneDie l) R.LNK_STATUS.GRANTED = 1 ∧ u.dep = s3.dep ∧ s4 = u.setRole l roleActive := by
    refine ⟨_, ((Alters.refl s3).wr _ _ _ _ _ (by simp)).trans (within_set _ R.PWM_GRANT.GRANTED _ _ (by decide)
      (Within.refl _)).alters, ?_, ?_, rfl⟩
    · rw [State.set_eq, State.rd_wr_apart _ _ _ _ _ _ _ _ _ _ (State.wr_regsOk _ _ _ _ _ _ hs3) (by decide),
        State.rd_wr_same _ _ _ _ _ _ hs3]
      decide
    · rw [State.set_eq, State.wr_dep, State.wr_dep]
  clear_value s4
  have h1u : Alters [(.ds, R.DSP_GRANT.HOLD_TIME), (.ds, R.DSP_HOLD.TB), (laneDie l, R.LNK_STATUS.GRANTED)] s1 u :=
    (h3.mono (by simp)).trans (hu.mono (by simp))
  have h45 : Within 0 s4 s5 := within_modRun _ _ (Within.refl _) fun _ => ⟨rfl, rfl⟩
  clear_value s5
  have h6 : Within 2 s6 t := by
    rw [← ht]
    exact State.syncMaster_within _ (by decide) (State.event_within _ _ _ (by decide) (Within.refl _))
  refine ⟨u, s5, if s5.role l.other == roleStart then s5.setRole l.other roleWarm else s5,
    { alters := h1.trans (h1u.mono (by simp [giveFlds]))
      state := (h1u.rd hs1 _ _ _ _ (by cases l <;> decide)).trans hstate
      grants := (h1u.rd hs1 _ _ _ _ (by cases l <;> decide)).trans hgrants
      granted := hgnt
      depOn := by unfold State.depOn; rw [hdep, hphase3]
      holdFrom := fun hh => (congrArg DepSt.holdFrom hdep).trans (hfrom3 hh) }, hs4 ▸ h45, ?_, ?_⟩
  · split
    · exact .inr rfl
    · exact .inl rfl
  · refine Within.trans ?_ h6
    unfold s6
    split
    · exact within_modRun _ _ (Within.refl _) fun _ => ⟨rfl, rfl⟩
    · exact Within.refl _

/-! ## The grant logic -/

theorem Lane.other_other (l : Lane) : l.other.other = l := by cases l <;> rfl

theorem Lane.eq_other {x y : Lane} (h : x ≠ y) : x = y.other := by
  cases x <;> cases y <;> simp_all [Lane.other]

section
variable {s t : State} {ks : List (Die × Fld)}

/-- The grant states read the Deputy's presence and `DSP_GRANT.STATE` alone. -/
theorem Alters.granted (h : Alters ks s t) (hs : s.regsOk = true) (hd : t.dep = s.dep)
    (hk : spared ks .ds R.DSP_GRANT.STATE = true) (l : Lane) : t.granted l = s.granted l := by
  unfold State.granted State.depOn
  rw [h.rd hs _ _ _ _ hk, hd]

/-- The Deputy is present as long as its own state stands. -/
theorem State.depOn_of_dep (hd : t.dep = s.dep) : t.depOn = s.depOn := by
  unfold State.depOn
  rw [hd]

theorem Alters.holder (h : Alters ks s t) (hs : s.regsOk = true) (hd : t.dep = s.dep)
    (hk : spared ks .ds R.DSP_GRANT.STATE = true) : t.holder = s.holder := by
  unfold State.holder
  rw [h.granted hs hd hk, h.granted hs hd hk]

/-- The fields that eligibility and preference rest on (R20, R21). -/
def eligBasis : List Fld :=
  [R.DSP_Lx_STATUS.DONE, R.DSP_Lx_STATUS.ARMED, R.DSP_CTRL.ARRANGEMENT, R.DSP_CTRL.PREF]

theorem Alters.eligible (h : Alters ks s t) (hs : s.regsOk = true) (hd : t.dep = s.dep)
    (hk : ∀ f ∈ eligBasis, spared ks .ds f = true) (l : Lane) : t.eligible l = s.eligible l := by
  unfold State.eligible State.depOn State.single State.depLane
  rw [hd, h.on hs _ _ _ _ (hk R.DSP_Lx_STATUS.DONE (by simp [eligBasis])),
    h.on hs _ _ _ _ (hk R.DSP_Lx_STATUS.ARMED (by simp [eligBasis])),
    h.on hs _ _ _ _ (hk R.DSP_CTRL.ARRANGEMENT (by simp [eligBasis]))]

theorem Alters.preferred (h : Alters ks s t) (hs : s.regsOk = true)
    (hk : ∀ f ∈ eligBasis, spared ks .ds f = true) : t.preferred = s.preferred := by
  unfold State.preferred
  rw [h.on hs _ _ _ _ (hk R.DSP_CTRL.PREF (by simp [eligBasis]))]

end

/-- The eligibility fields follow, and neither the Deputy's own state nor the clock nor the multiplexer moves. -/
theorem State.syncElig_within_deputy (s : State) : Within 2097152 s s.syncElig :=
  State.syncElig_within s (by decide) (Within.refl s)

theorem State.syncElig_dep (s : State) : s.syncElig.dep = s.dep := s.syncElig_within_deputy.dep (by decide)

section
variable {s : State} (hs : s.regsOk = true)
include hs

theorem State.syncElig_holder : s.syncElig.holder = s.holder :=
  s.syncElig_alters.holder hs s.syncElig_dep (by decide)
theorem State.syncElig_eligible (l : Lane) : s.syncElig.eligible l = s.eligible l :=
  s.syncElig_alters.eligible hs s.syncElig_dep (by decide) l
theorem State.syncElig_preferred : s.syncElig.preferred = s.preferred :=
  s.syncElig_alters.preferred hs (by decide)
theorem State.syncElig_state : s.syncElig.rd .ds R.DSP_GRANT.STATE = s.rd .ds R.DSP_GRANT.STATE :=
  s.syncElig_alters.rd hs _ _ _ _ (by decide)
theorem State.syncElig_request (l : Lane) : s.syncElig.on .ds (reqFld l) = s.on .ds (reqFld l) :=
  s.syncElig_alters.on hs _ _ _ _ (by cases l <;> decide)

/-- An eligible holder keeps its grant. -/
theorem State.grantLogic_of_holder {y : Lane} (hh : s.holder = some y) (he : s.eligible y = true) :
    s.grantLogic = s.syncElig := by
  unfold State.grantLogic
  simp [State.syncElig_holder hs, State.syncElig_eligible hs, hh, he]

/-- A holder that is no longer eligible loses the grant, and the fault is recorded. -/
theorem State.grantLogic_of_lapsed (hd : s.depOn = true) {y : Lane} (hh : s.holder = some y) (he : s.eligible y = false) :
    s.grantLogic = (((s.syncElig.removeGrant y).causeOf y 1).record classNone 1 false 0).syncElig := by
  have hd' : s.syncElig.depOn = true := (State.depOn_of_dep s.syncElig_dep).trans hd
  unfold State.grantLogic
  simp [State.syncElig_holder hs, State.syncElig_eligible hs, hh, he, hd']

/-- Without a holder nothing is granted while the hold lasts or no eligible lane asks. -/
theorem State.grantLogic_idle (hh : s.holder = none)
    (hw : s.rd .ds R.DSP_GRANT.STATE = grantNone → ∀ y, (s.eligible y && s.on .ds (reqFld y)) = false) :
    s.grantLogic = s.syncElig := by
  unfold State.grantLogic
  simp only [State.syncElig_holder hs, State.syncElig_eligible hs, State.syncElig_state hs, State.syncElig_request hs, hh]
  split
  · split
    · next h => simp [hw (by simpa using h)]
    · rfl
  · rfl

/-- Without a holder and a hold an eligible lane that asks gets the grant, unless the preferred one asks as well. -/
theorem State.grantLogic_gives (hd : s.depOn = true) (hn : s.rd .ds R.DSP_GRANT.STATE = grantNone) {y : Lane}
    (hy : (s.eligible y && s.on .ds (reqFld y)) = true)
    (hp : s.preferred = y ∨ (s.eligible y.other && s.on .ds (reqFld y.other)) = false) :
    s.grantLogic = ((s.syncElig.giveGrant y).returns).syncElig := by
  have hd' : s.syncElig.depOn = true := (State.depOn_of_dep s.syncElig_dep).trans hd
  have hh : s.holder = none := by
    simp [State.holder, State.granted, hn, grantNone, grantCode]
  unfold State.grantLogic
  simp only [State.syncElig_holder hs, State.syncElig_eligible hs, State.syncElig_state hs, State.syncElig_request hs,
    State.syncElig_preferred hs, hh, hn, hd', if_true, beq_self_eq_true]
  by_cases hpy : s.preferred = y
  · rw [hpy, if_pos hy]
  · rw [Lane.eq_other hpy, Lane.other_other, hp.resolve_left hpy, if_pos hy]
    rfl

end

/-! ## A role taken -/

/-- The roles whose request line is up (R308). -/
def roleAsks (r : Nat) : Bool := r == roleStart || r == roleHot || r == roleActive

/-- A role taken while the Deputy is present: the role, the lane's request line, and the Deputy's view of it. -/
theorem State.setRole_eq {s : State} (l : Lane) (r : Nat) (hd : s.depOn = true) : s.setRole l r =
    ((s.wr (laneDie l) R.LNK_STATUS.ROLE r).wr (laneDie l) R.LNK_STATUS.AUTH_REQ (b2n (roleAsks r))).wr .ds (reqFld l)
      (b2n (roleAsks r)) := by
  have h1 : ∀ x : State, x.dep = s.dep → x.depOn = true := fun x hx => by unfold State.depOn; rw [hx]; exact hd
  exact if_pos (h1 _ rfl)

theorem State.setRole_reads {s : State} (l : Lane) (r : Nat) (hs : s.regsOk = true) (hd : s.depOn = true) :
    (s.setRole l r).role l = low R.LNK_STATUS.ROLE.w r ∧
      (s.setRole l r).rd (laneDie l) R.LNK_STATUS.AUTH_REQ = b2n (roleAsks r) ∧
      (s.setRole l r).rd .ds (reqFld l) = b2n (roleAsks r) := by
  have h1 : (s.wr (laneDie l) R.LNK_STATUS.ROLE r).regsOk = true := State.wr_regsOk _ _ _ _ _ _ hs
  have h2 := State.wr_regsOk (s.wr (laneDie l) R.LNK_STATUS.ROLE r) (laneDie l) R.LNK_STATUS.AUTH_REQ
    (b2n (roleAsks r)) 0 0 h1
  rw [State.setRole_eq l r hd]
  refine ⟨?_, ?_, ?_⟩
  · unfold State.role
    rw [State.rd_wr_apart _ _ _ _ _ _ _ _ _ _ h2 (by cases l <;> decide), State.rd_wr_apart _ _ _ _ _ _ _ _ _ _ h1 (by decide),
      State.rd_wr_same _ _ _ _ _ _ hs]
  · rw [State.rd_wr_apart _ _ _ _ _ _ _ _ _ _ h2 (by cases l <;> decide), State.rd_wr_same _ _ _ _ _ _ h1,
      low_b2n (by decide)]
  · rw [State.rd_wr_same _ _ _ _ _ _ h2, low_b2n (by cases l <;> decide)]

/-- Roles move neither the Deputy's own state nor the clock nor the multiplexer. -/
theorem State.setRole_dep (s : State) (l : Lane) (r : Nat) : (s.setRole l r).dep = s.dep :=
  (State.setRole_within s l r (msk := 2101248) (by decide) (Within.refl s)).dep (by decide)

/-! ## What the grant logic leaves behind -/

/-- Lane `l` holds the grant since the step from `s` to `t` (R25, R308). -/
structure GrantGiven (s : State) (l : Lane) (t : State) : Prop where
  ok : t.regsOk = true
  state : t.rd .ds R.DSP_GRANT.STATE = grantCode l
  role : t.role l = roleActive
  request : t.rd .ds (reqFld l) = 1
  granted : t.rd (laneDie l) R.LNK_STATUS.GRANTED = 1
  grants : rose s t .ds R.DSP_GRANT_CNT.GRANTS

/-- The fields that show a grant of lane `l`. -/
def grantShown (l : Lane) : List (Die × Fld) :=
  [(.ds, R.DSP_GRANT.STATE), (laneDie l, R.LNK_STATUS.ROLE), (.ds, reqFld l), (laneDie l, R.LNK_STATUS.GRANTED),
   (.ds, R.DSP_GRANT_CNT.GRANTS)]

/-- A grant stands through every operation that spares the fields which show it. -/
theorem GrantGiven.alters {s t u : State} {l : Lane} {ks : List (Die × Fld)} (h : GrantGiven s l t) (ha : Alters ks t u)
    (hk : ∀ x ∈ grantShown l, spared ks x.1 x.2 = true) : GrantGiven s l u := by
  have go : ∀ x ∈ grantShown l, u.rd x.1 x.2 = t.rd x.1 x.2 := fun x hx => ha.rd h.ok _ _ _ _ (hk x hx)
  simp only [grantShown, List.forall_mem_cons, List.not_mem_nil, false_implies, implies_true, and_true] at go
  obtain ⟨g1, g2, g3, g4, g5⟩ := go
  exact ⟨ha.ok h.ok, g1.trans h.state, g2.trans h.role, g3.trans h.request, g4.trans h.granted, g5.trans h.grants⟩

theorem State.giveGrant_given {s : State} (l : Lane) (hs : s.regsOk = true) (hd : s.depOn = true) :
    GrantGiven s l (s.giveGrant l) := by
  obtain ⟨u, v, w, hu, hv, hw, ht⟩ := State.giveGrant_stages (l := l) hs rfl
  have hsu := hu.alters.ok hs
  obtain ⟨hrole, -, hreq⟩ := State.setRole_reads l roleActive hsu (hu.depOn.trans hd)
  have h4 := u.setRole_alters l roleActive
  have g4 : GrantGiven s l (u.setRole l roleActive) :=
    { ok := h4.ok hsu
      state := (h4.rd hsu _ _ _ _ (by cases l <;> decide)).trans hu.state
      role := hrole.trans (by decide)
      request := hreq
      granted := (h4.rd hsu _ _ _ _ (by cases l <;> decide)).trans hu.granted
      grants := (h4.rd hsu _ _ _ _ (by cases l <;> decide)).trans hu.grants }
  have g5 : GrantGiven s l v := g4.alters (hv.mono (by decide)).alters (ks := []) (by cases l <;> decide)
  have g6 : GrantGiven s l w := by
    rcases hw with rfl | rfl
    · exact g5
    · exact g5.alters (v.setRole_alters l.other roleWarm) (by cases l <;> decide)
  exact g6.alters (ht.mono (by decide)).alters (ks := []) (by cases l <;> decide)

/-- A grant given writes its own fields and those of both lanes' roles. -/
theorem State.giveGrant_alters {s : State} (l : Lane) (hs : s.regsOk = true) :
    Alters (giveFlds l ++ roleFlds l ++ roleFlds l.other) s (s.giveGrant l) := by
  obtain ⟨u, v, w, hu, hv, hw, ht⟩ := State.giveGrant_stages (l := l) hs rfl
  have h4 : Alters (giveFlds l ++ roleFlds l ++ roleFlds l.other) s (u.setRole l roleActive) :=
    (hu.alters.mono (by simp)).trans ((u.setRole_alters l roleActive).mono (by simp))
  have h5 := h4.trans (hv.mono (by decide)).alters
  have h6 : Alters (giveFlds l ++ roleFlds l ++ roleFlds l.other) s w := by
    rcases hw with rfl | rfl
    · exact h5
    · exact h5.trans ((v.setRole_alters l.other roleWarm).mono (by simp))
  exact h6.trans (ht.mono (by decide)).alters

/-- A grant that ends a hold leaves no lane that the hold is from. -/
theorem State.giveGrant_holdFrom {s : State} (l : Lane) (hs : s.regsOk = true)
    (hh : s.rd .ds R.DSP_GRANT.STATE = grantHold) : (s.giveGrant l).dep.holdFrom = none := by
  obtain ⟨u, v, w, hu, hv, hw, ht⟩ := State.giveGrant_stages (l := l) hs rfl
  have hvdep : v.dep = u.dep := (hv.dep (by decide)).trans (u.setRole_dep ..)
  have hwdep : w.dep = v.dep := by
    rcases hw with rfl | rfl
    · rfl
    · exact v.setRole_dep ..
  rw [ht.dep (by decide), hwdep, hvdep]
  exact hu.holdFrom hh

/-- The request line of lane `l` is down, at the lane and at the Deputy, which is present. -/
structure LineDown (l : Lane) (s : State) : Prop where
  ok : s.regsOk = true
  present : s.depOn = true
  line : s.rd (laneDie l) R.LNK_STATUS.AUTH_REQ = 0
  request : s.rd .ds (reqFld l) = 0

/-- A request line that is down stays down through every operation that spares its two fields. -/
theorem LineDown.alters {l : Lane} {s t : State} {ks : List (Die × Fld)} (h : LineDown l s) (ha : Alters ks s t)
    (hd : t.depOn = s.depOn)
    (hk : spared ks (laneDie l) R.LNK_STATUS.AUTH_REQ = true ∧ spared ks .ds (reqFld l) = true) : LineDown l t :=
  ⟨ha.ok h.ok, hd.trans h.present, (ha.rd h.ok _ _ _ _ hk.1).trans h.line,
    (ha.rd h.ok _ _ _ _ hk.2).trans h.request⟩

/-- Turning `WARM` raises no request line. -/
theorem LineDown.setRole_warm {l : Lane} {s : State} (h : LineDown l s) (k : Lane) : LineDown l (s.setRole k roleWarm) := by
  have ha := s.setRole_alters k roleWarm
  have hd := State.depOn_of_dep (s.setRole_dep k roleWarm)
  by_cases hk : k = l
  · subst hk
    obtain ⟨-, hline, hreq⟩ := State.setRole_reads k roleWarm h.ok h.present
    exact ⟨ha.ok h.ok, hd.trans h.present, hline, hreq⟩
  · obtain rfl := Lane.eq_other hk
    exact h.alters ha hd (by cases l <;> decide)

/-- The removal of a grant raises no request line. -/
theorem LineDown.removeGrant {l k : Lane} {s : State} (h : LineDown l s) (hg : s.granted k = true) :
    LineDown l (s.removeGrant k) := by
  obtain ⟨u, w, hu, hd, -, hw, ht⟩ := State.removeGrant_stages h.ok hg rfl
  have h1 : LineDown l u := h.alters hu hd (by cases k <;> cases l <;> decide)
  have h2 : LineDown l w := by
    rcases hw with rfl | rfl
    · exact h1
    · exact h1.setRole_warm k
  exact h2.alters (ht.mono (by decide)).alters (State.depOn_of_dep (ht.dep (by decide))) (ks := []) (by cases l <;> decide)

/-- A grant given to the other lane raises no request line of this one. -/
theorem LineDown.giveGrant {l : Lane} {s : State} (h : LineDown l s) : LineDown l (s.giveGrant l.other) := by
  obtain ⟨u, v, w, hu, hv, hw, ht⟩ := State.giveGrant_stages (l := l.other) h.ok rfl
  have h1 : LineDown l u := h.alters hu.alters hu.depOn (by cases l <;> decide)
  have h2 : LineDown l (u.setRole l.other roleActive) :=
    h1.alters (u.setRole_alters ..) (State.depOn_of_dep (u.setRole_dep ..)) (by cases l <;> decide)
  have h3 : LineDown l v :=
    h2.alters (hv.mono (by decide)).alters (State.depOn_of_dep (hv.dep (by decide))) (ks := []) (by cases l <;> decide)
  have h4 : LineDown l w := by
    rcases hw with rfl | rfl
    · exact h3
    · exact h3.setRole_warm _
  exact h4.alters (ht.mono (by decide)).alters (State.depOn_of_dep (ht.dep (by decide))) (ks := []) (by cases l <;> decide)

theorem LineDown.syncElig {l : Lane} {s : State} (h : LineDown l s) : LineDown l s.syncElig :=
  h.alters s.syncElig_alters (State.depOn_of_dep s.syncElig_dep) (by cases l <;> decide)

theorem State.holder_granted {s : State} {y : Lane} (h : s.holder = some y) : s.granted y = true := by
  unfold State.holder at h
  split at h
  · next hg => cases h; exact hg
  · split at h
    · next hg => cases h; exact hg
    · cases h

/-- The grant logic raises no request line (R21, R25). -/
theorem LineDown.grantLogic {l : Lane} {s : State} (h : LineDown l s) : LineDown l s.grantLogic := by
  have hasks : s.on .ds (reqFld l) = false := by rw [State.on_def, h.request]; rfl
  cases hh : s.holder with
  | some y =>
    cases he : s.eligible y with
    | true =>
      rw [State.grantLogic_of_holder h.ok hh he]
      exact h.syncElig
    | false =>
      rw [State.grantLogic_of_lapsed h.ok h.present hh he]
      have hg : s.syncElig.granted y = true := State.holder_granted ((State.syncElig_holder h.ok).trans hh)
      have h1 := h.syncElig.removeGrant hg
      have h2 := h1.alters ((s.syncElig.removeGrant y).causeOf_alters y 1) rfl (by cases l <;> decide)
      have hrec := (State.record_within ((s.syncElig.removeGrant y).causeOf y 1) classNone 1 false 0 (msk := 2097156)
        (by decide) (Within.refl _)).dep (by decide)
      have h3 := h2.alters (State.record_alters _ classNone 1 false 0) (State.depOn_of_dep hrec) (by cases l <;> decide)
      exact h3.syncElig
  | none =>
    by_cases hw : s.rd .ds R.DSP_GRANT.STATE = grantNone ∧ (s.eligible l.other && s.on .ds (reqFld l.other)) = true
    · obtain ⟨hn, hy⟩ := hw
      rw [State.grantLogic_gives h.ok h.present hn hy (.inr (by rw [Lane.other_other, hasks, Bool.and_false]))]
      have h1 := h.syncElig.giveGrant
      have hret := (State.returns_within (s.syncElig.giveGrant l.other) (msk := 2101248) (by decide) (Within.refl _)).dep
        (by decide)
      have h2 := h1.alters (State.returns_alters _) (State.depOn_of_dep hret) (by cases l <;> decide)
      exact h2.syncElig
    · rw [State.grantLogic_idle h.ok hh fun hn y => ?_]
      · exact h.syncElig
      · by_cases hy : y = l
        · rw [hy, hasks, Bool.and_false]
        · rw [Lane.eq_other hy]
          exact Bool.eq_false_iff.mpr fun hx => hw ⟨hn, hx⟩

/-! ## The commands of the grant -/

theorem rose_of_eq {s s' t : State} {d : Die} {f : Fld} {i j : Nat} (h : rose s' t d f i j)
    (he : s'.rd d f i j = s.rd d f i j) : rose s t d f i j := by
  unfold rose at *
  rw [h, he]

theorem State.depOn_of_eligible {s : State} {l : Lane} (h : s.eligible l = true) : s.depOn = true := by
  unfold State.eligible at h
  simp only [Bool.and_eq_true] at h
  exact h.1.1.1.1.1

/-- The request of a lane entered at the Deputy. -/
theorem State.request_alters (s : State) (l : Lane) : Alters [(.ds, reqFld l)] s (s.set .ds (reqFld l)) :=
  (Alters.refl s).wr _ _ _ _ _ (by simp)

theorem exec_authReqRaise {s : State} {l : Lane} (hd : s.depOn = true) (ha : s.alive l = true)
    (hr : s.on (laneDie l) R.LNK_STATUS.AUTH_REQ = true) :
    exec (.authReqRaise l) s = .next (s.set .ds (reqFld l)).grantLogic :=
  congrArg Host.Outcome.next (if_pos (by rw [hd, ha, hr]; rfl))

/-- A raised request of an eligible lane gets a free grant (R21, R25). -/
theorem raise_gets_free_grant {s : State} {l : Lane} (hs : s.regsOk = true) (hal : s.alive l = true)
    (hr : s.on (laneDie l) R.LNK_STATUS.AUTH_REQ = true) (he : s.eligible l = true)
    (hn : s.rd .ds R.DSP_GRANT.STATE = grantNone) (hp : s.preferred = l ∨ s.eligible l.other = false) :
    leads (.authReqRaise l) s (GrantGiven s l) := by
  have hd := State.depOn_of_eligible he
  refine leads_of_exec (exec_authReqRaise hd hal hr) ?_
  have ha := s.request_alters l
  have hdep : (s.set .ds (reqFld l)).dep = s.dep := State.wr_dep ..
  have hon : (s.set .ds (reqFld l)).on .ds (reqFld l) = true :=
    (State.on_wr_same _ _ _ _ _ _ hs).trans (by cases l <;> decide)
  generalize s.set .ds (reqFld l) = r at ha hdep hon ⊢
  have hrs := ha.ok hs
  have helig : ∀ y, r.eligible y = s.eligible y := ha.eligible hs hdep (by cases l <;> decide)
  have hrd := (State.depOn_of_dep hdep).trans hd
  rw [State.grantLogic_gives hrs hrd ((ha.rd hs _ _ _ _ (by cases l <;> decide)).trans hn) (y := l)
    (by rw [helig, he, hon]; rfl) (hp.imp (ha.preferred hs (by cases l <;> decide)).trans fun h => by rw [helig, h]; rfl)]
  have hes := r.syncElig_alters.ok hrs
  have h1 := State.giveGrant_given l hes ((State.depOn_of_dep r.syncElig_dep).trans hrd)
  have h2 := h1.alters (State.returns_alters _) (by cases l <;> decide)
  obtain ⟨h3, h4, h5, h6, h7, h8⟩ := h2.alters (State.syncElig_alters _) (by cases l <;> decide)
  exact ⟨h3, h4, h5, h6, h7, rose_of_eq h8 ((r.syncElig_alters.rd hrs _ _ _ _ (by decide)).trans
    (ha.rd hs _ _ _ _ (by cases l <;> decide)))⟩

/-- A raised request leaves an eligible holder its grant (R21). -/
theorem raise_leaves_holder {s : State} {l : Lane} (hs : s.regsOk = true) (hal : s.alive l = true)
    (hr : s.on (laneDie l) R.LNK_STATUS.AUTH_REQ = true) (hh : s.holder = some l.other) (he : s.eligible l.other = true) :
    leads (.authReqRaise l) s fun t => t.rd .ds (reqFld l) = 1 ∧ t.rd .ds R.DSP_GRANT.STATE = grantCode l.other := by
  have hd := State.depOn_of_eligible he
  have hg := State.holder_granted hh
  refine leads_of_exec (exec_authReqRaise hd hal hr) ?_
  have ha := s.request_alters l
  have hdep : (s.set .ds (reqFld l)).dep = s.dep := State.wr_dep ..
  have hreq : (s.set .ds (reqFld l)).rd .ds (reqFld l) = 1 :=
    (State.rd_wr_same _ _ _ _ _ _ hs).trans (by cases l <;> decide)
  generalize s.set .ds (reqFld l) = r at ha hdep hreq ⊢
  have hrs := ha.ok hs
  rw [State.grantLogic_of_holder hrs ((ha.holder hs hdep (by cases l <;> decide)).trans hh)
    ((ha.eligible hs hdep (by cases l <;> decide) _).trans he)]
  refine ⟨(r.syncElig_alters.rd hrs _ _ _ _ (by cases l <;> decide)).trans hreq, ?_⟩
  rw [r.syncElig_alters.rd hrs _ _ _ _ (by decide), ha.rd hs _ _ _ _ (by cases l <;> decide)]
  unfold State.granted at hg
  simpa [hd] using hg

theorem State.removeGrant_removed {s : State} {l : Lane} (hs : s.regsOk = true) (hg : s.granted l = true) :
    GrantRemoved s l (s.removeGrant l) := by
  obtain ⟨u, w, -, -, hu, hw, ht⟩ := State.removeGrant_stages hs hg rfl
  have hw' : GrantRemoved s l w := by
    rcases hw with rfl | rfl
    · exact hu
    · exact hu.alters (u.setRole_alters l roleWarm) (u.setRole_dep ..) (by cases l <;> decide)
  exact hw'.alters (ht.mono (by decide)).alters (ht.dep (by decide)) (ks := []) (by cases l <;> decide)

theorem exec_authReqDrop {s : State} {l : Lane} (hd : s.depOn = true) (hr : s.on .ds (reqFld l) = true) :
    exec (.authReqDrop l) s =
      .next ((((s.clr (laneDie l) R.LNK_STATUS.AUTH_REQ).clr .ds (reqFld l)).removeGrant l).grantLogic) :=
  congrArg Host.Outcome.next (if_pos (by rw [hd, hr]; rfl))

/-- A dropped request is down afterwards, and a holder's begins a hold (R22, R25). -/
theorem drop_begins_hold {s : State} {l : Lane} (hs : s.regsOk = true) (hd : s.depOn = true)
    (hr : s.on .ds (reqFld l) = true) :
    leads (.authReqDrop l) s fun t => LineDown l t ∧ (s.granted l = true → GrantRemoved s l t) := by
  refine leads_of_exec (exec_authReqDrop hd hr) ?_
  have ha : Alters [(laneDie l, R.LNK_STATUS.AUTH_REQ), (.ds, reqFld l)] s
      ((s.clr (laneDie l) R.LNK_STATUS.AUTH_REQ).clr .ds (reqFld l)) :=
    ((Alters.refl s).wr _ _ _ _ _ (by simp)).wr _ _ _ _ _ (by simp)
  have hdep : ((s.clr (laneDie l) R.LNK_STATUS.AUTH_REQ).clr .ds (reqFld l)).dep = s.dep := by
    rw [State.clr_eq, State.clr_eq, State.wr_dep, State.wr_dep]
  have hnow : ((s.clr (laneDie l) R.LNK_STATUS.AUTH_REQ).clr .ds (reqFld l)).now = s.now := by
    rw [State.clr_eq, State.clr_eq, State.wr_now, State.wr_now]
  have hdown : LineDown l ((s.clr (laneDie l) R.LNK_STATUS.AUTH_REQ).clr .ds (reqFld l)) := by
    have h1 := State.wr_regsOk s (laneDie l) R.LNK_STATUS.AUTH_REQ 0 0 0 hs
    refine ⟨ha.ok hs, (State.depOn_of_dep hdep).trans hd, ?_, ?_⟩
    · rw [State.clr_eq, State.clr_eq, State.rd_wr_apart _ _ _ _ _ _ _ _ _ _ h1 (by cases l <;> decide),
        State.rd_wr_same _ _ _ _ _ _ hs]
      decide
    · rw [State.clr_eq, State.clr_eq, State.rd_wr_same _ _ _ _ _ _ h1]
      cases l <;> decide
  generalize (s.clr (laneDie l) R.LNK_STATUS.AUTH_REQ).clr .ds (reqFld l) = r at ha hdep hnow hdown ⊢
  have hgr : r.granted l = s.granted l := ha.granted hs hdep (by cases l <;> decide) l
  cases hg : s.granted l with
  | false =>
    have hsame : r.removeGrant l = r := if_neg (by rw [hgr, hg]; decide)
    rw [hsame]
    exact ⟨hdown.grantLogic, fun h => absurd h (by decide)⟩
  | true =>
    have hgone := State.removeGrant_removed hdown.ok (hgr.trans hg)
    have hrm := hdown.removeGrant (hgr.trans hg)
    refine ⟨hrm.grantLogic, fun _ => ?_⟩
    have hh : (r.removeGrant l).holder = none := by
      unfold State.holder State.granted
      simp [hgone.state, grantHold, grantCode]
    rw [State.grantLogic_idle hrm.ok hh fun hn => absurd (hgone.state.symm.trans hn) (by decide)]
    obtain ⟨h1, h2, h3, h4, h5, h6⟩ := hgone.alters (State.syncElig_alters _) (State.syncElig_dep _) (by cases l <;> decide)
    exact ⟨h1, h2, rose_of_eq h3 (ha.rd hs _ _ _ _ (by cases l <;> decide)), h4, h5, h6.trans hnow⟩

/-! ## The hold (R23, R25, R349) -/

/-- The mask of everything but the clock. -/
def notClock : Nat := 17592186044415 - 2 ^ 43

/-- The lane that a hold may grant rests on the lane it is from, on eligibility and on the requests. -/
theorem Alters.holdTaker {ks : List (Die × Fld)} {s t : State} (h : Alters ks s t) (hs : s.regsOk = true)
    (hd : t.dep = s.dep) (hk : ∀ f ∈ eligBasis, spared ks .ds f = true) (hr : ∀ y, spared ks .ds (reqFld y) = true) :
    t.holdTaker = s.holdTaker := by
  unfold State.holdTaker
  rw [hd]
  split
  · rfl
  · rw [h.eligible hs hd hk, h.on hs _ _ _ _ (hr _)]

/-- The state in which a hold is judged: the clock at 20 ns after the removal, the eligibility up to date. -/
def State.holdJudged (s : State) : State := (s.advTo (s.dep.holdAt + 2)).syncElig

theorem State.holdJudged_alters (s : State) : Alters eligFlds s s.holdJudged :=
  (within_advTo _ (by decide) (Within.refl s)).alters.trans (State.syncElig_alters _)

theorem State.holdJudged_dep (s : State) : s.holdJudged.dep = s.dep := State.syncElig_dep _

theorem State.holdJudged_now (s : State) : s.holdJudged.now = max s.now (s.dep.holdAt + 2) :=
  ((State.syncElig_within_deputy _).now (by decide)).1

theorem State.holdJudged_taker {s : State} (hs : s.regsOk = true) : s.holdJudged.holdTaker = s.holdTaker :=
  s.holdJudged_alters.holdTaker hs s.holdJudged_dep (by decide) fun y => by cases y <;> decide

section
variable {s : State} (hs : s.regsOk = true) (hd : s.depOn = true) (hh : s.rd .ds R.DSP_GRANT.STATE = grantHold)
include hs hd hh

theorem exec_holdGrant_none (hy : s.holdTaker = none) : exec .holdGrant s = .next s.holdJudged := by
  have hj : (s.advTo (s.dep.holdAt + 2)).syncElig.holdTaker = none := (State.holdJudged_taker hs).trans hy
  show execHoldGrant s = _
  unfold execHoldGrant
  simp [hd, hh, hj, State.holdJudged]

theorem exec_holdGrant_some {y : Lane} (hy : s.holdTaker = some y) :
    exec .holdGrant s = .next (((s.holdJudged.giveGrant y).returns.syncElig).switchSetpoints y) := by
  have hj : (s.advTo (s.dep.holdAt + 2)).syncElig.holdTaker = some y := (State.holdJudged_taker hs).trans hy
  show execHoldGrant s = _
  unfold execHoldGrant
  simp [hd, hh, hj, State.holdJudged]

/-- A hold that grants no lane goes on (R25). -/
theorem hold_goes_on (hy : s.holdTaker = none) : leads .holdGrant s fun t =>
    t.now = max s.now (s.dep.holdAt + 2) ∧ t.rd .ds R.DSP_GRANT.STATE = grantHold ∧ t.dep.holdFrom = s.dep.holdFrom :=
  leads_of_exec (exec_holdGrant_none hs hd hh hy)
    ⟨s.holdJudged_now, (s.holdJudged_alters.rd hs _ _ _ _ (by decide)).trans hh, congrArg DepSt.holdFrom s.holdJudged_dep⟩

/-- A hold grants the lane that may take it (R19, R25, R316). -/
theorem hold_grants {y : Lane} (hy : s.holdTaker = some y) : leads .holdGrant s fun t =>
    t.now = max s.now (s.dep.holdAt + 2) ∧ GrantGiven s.holdJudged y t ∧ t.dep.holdFrom = none := by
  refine leads_of_exec (exec_holdGrant_some hs hd hh hy) ?_
  have hj := s.holdJudged_alters.ok hs
  have hstate := (s.holdJudged_alters.rd hs _ _ _ _ (by decide)).trans hh
  have hafter : ∀ {m}, 2102336 &&& m = 2102336 → Within m (s.holdJudged.giveGrant y)
      (((s.holdJudged.giveGrant y).returns.syncElig).switchSetpoints y) := fun hm =>
    State.switchSetpoints_within _ _ (msub rfl hm) (State.syncElig_within _ (msub rfl hm)
      (State.returns_within _ (msub rfl hm) (Within.refl _)))
  refine ⟨?_, ?_, ?_⟩
  · rw [((State.giveGrant_within _ y (by decide) (Within.refl _)).trans (hafter (m := notClock) (by decide))).now (by decide) |>.1,
      s.holdJudged_now]
  · have h1 := State.giveGrant_given y hj ((State.depOn_of_dep s.holdJudged_dep).trans hd)
    have h2 := (h1.alters (State.returns_alters _) (by cases y <;> decide)).alters (State.syncElig_alters _)
      (by cases y <;> decide)
    exact h2.alters (State.switchSetpoints_within _ y (by decide) (Within.refl _)).alters (ks := []) (by cases y <;> decide)
  · rw [(hafter (m := 2102336) (by decide)).dep (by decide)]
    exact State.giveGrant_holdFrom y hj hstate

end

/-- The fields that the grant logic can write while no lane holds the grant and no hold runs. -/
def freeGrantFlds : List (Die × Fld) :=
  giveFlds .a ++ giveFlds .b ++ roleFlds .a ++ roleFlds .b ++ eligFlds ++ returnFlds

theorem State.grantLogic_alters_of_free {s : State} (hs : s.regsOk = true) (hd : s.depOn = true)
    (hn : s.rd .ds R.DSP_GRANT.STATE = grantNone) : Alters freeGrantFlds s s.grantLogic := by
  have hidle : Alters freeGrantFlds s s.syncElig := s.syncElig_alters.mono (by decide)
  have hgive : ∀ y, Alters freeGrantFlds s ((s.syncElig.giveGrant y).returns).syncElig := fun y =>
    ((hidle.trans ((State.giveGrant_alters y (hidle.ok hs)).mono (by cases y <;> decide))).trans
      ((State.returns_alters _).mono (by decide))).trans
        ((State.syncElig_alters _).mono (by decide))
  have hh : s.holder = none := by simp [State.holder, State.granted, hn, grantNone, grantCode]
  cases hp : s.eligible s.preferred && s.on .ds (reqFld s.preferred) with
  | true => exact State.grantLogic_gives hs hd hn hp (.inl rfl) ▸ hgive s.preferred
  | false =>
    cases ho : s.eligible s.preferred.other && s.on .ds (reqFld s.preferred.other) with
    | true => exact State.grantLogic_gives hs hd hn ho (.inr (by rw [Lane.other_other, hp])) ▸ hgive s.preferred.other
    | false =>
      refine State.grantLogic_idle hs hh (fun _ y => ?_) ▸ hidle
      by_cases hy : y = s.preferred
      · rw [hy, hp]
      · rw [Lane.eq_other hy, ho]

/-- The Deputy's registers and its own state as a hold expires (R23). -/
def State.holdCleared (s : State) : State :=
  let s1 := s.advTo (s.dep.holdAt + 50 * us)
  let s2 := (((s1.wr .ds R.DSP_GRANT.STATE grantNone).set .ds R.DSP_HOLD.EXPIRED).wr .ds R.DSP_HOLD.TB 0).inc .ds
    R.DSP_GRANT_CNT.EXPIRED
  (s2.wrSat .ds R.DSP_GRANT.HOLD_TIME ((s1.now - s.dep.holdAt) / 2)).modDep fun d => { d with holdFrom := none }

/-- The multiplexer drives none of the channels it holds (R23). -/
def State.muxRests (s : State) : State :=
  { s with mux := { s.mux with chs := (updAll s.mux.chs fun (c : Option MuxCh) =>
    c.map fun (m : MuxCh) => { m with driving := false }) } }

theorem exec_holdExpiry {s : State} (hd : s.depOn = true) (hh : s.rd .ds R.DSP_GRANT.STATE = grantHold) :
    exec .holdExpiry s =
      .next (s.holdCleared.muxRests.each (List.range 8) fun s g => s.groupRest g).grantLogic :=
  congrArg Host.Outcome.next (if_pos (by rw [hd, hh]; rfl))

theorem State.muxRests_within {m : Nat} (s : State) (hm : 68719476736 &&& m = 68719476736) : Within m s s.muxRests := by
  unfold State.muxRests
  generalize ({ s.mux with chs := _ } : MuxSt) = x
  exact Within.of_frame (Within.refl s) rfl rfl rfl (.inr rfl) (.inl (bsub rfl hm)) (.inr ⟨rfl, rfl⟩) (.inr rfl) (.inr rfl)
    (.inr rfl) (.inr rfl) (.inr rfl) (.inr ⟨rfl, rfl⟩)

/-- Changes of the elements of a list of places: each place in the list is changed once. -/
theorem foldl_upd_get {α : Type} {n : Nat} (f : α → α) : ∀ (is : List (Fin n)), is.Nodup → ∀ (v : Vector α n) (j : Fin n),
    (is.foldl (fun v i => upd v i f) v)[j] = if j ∈ is then f v[j] else v[j]
  | [], _, _, _ => rfl
  | i :: is, hn, v, j => by
    rw [List.nodup_cons] at hn
    rw [List.foldl_cons, foldl_upd_get f is hn.2, upd_get]
    by_cases hj : j = i
    · subst hj
      simp [hn.1]
    · simp [hj]

/-- An element of a table after a change of all. -/
theorem updAll_get {α : Type} {n : Nat} (v : Vector α n) (f : α → α) (j : Fin n) : (updAll v f)[j] = f v[j] := by
  rw [updAll, foldl_upd_get f _ (List.nodup_finRange n), if_pos (List.mem_finRange j)]

theorem State.muxRests_driving {s : State} {c : Fin 64} {m : MuxCh} (h : s.muxRests.mux.chs[c] = some m) :
    m.driving = false := by
  simp only [State.muxRests, updAll_get, Option.map_eq_some_iff] at h
  obtain ⟨x, -, rfl⟩ := h
  rfl

/-- The fields that the expiry of a hold writes. -/
def expiryFlds : List (Die × Fld) :=
  [(.ds, R.DSP_GRANT.STATE), (.ds, R.DSP_HOLD.EXPIRED), (.ds, R.DSP_HOLD.TB), (.ds, R.DSP_GRANT_CNT.EXPIRED),
   (.ds, R.DSP_GRANT.HOLD_TIME)]

/-- The expiry writes its own fields of the Deputy alone. -/
theorem State.holdCleared_alters (s : State) : Alters expiryFlds s s.holdCleared := by
  unfold State.holdCleared
  refine Alters.trans (Alters.wr (Alters.wr (Alters.wr (Alters.wr (Alters.wr
    (within_advTo _ (by decide) (Within.refl s)).alters _ _ _ _ _ ?_) _ _ _ _ _ ?_) _ _ _ _ _ ?_) _ _ _ _ _ ?_) _ _ _ _ _ ?_)
    (within_modDep _ (by decide) (Within.refl _)).alters <;> simp [expiryFlds]

theorem State.holdCleared_dep (s : State) : s.holdCleared.dep = { s.dep with holdFrom := none } := rfl

theorem State.holdCleared_now (s : State) : s.holdCleared.now = max s.now (s.dep.holdAt + 50 * us) := rfl

/-- What the expiry writes (R23). -/
theorem State.holdCleared_reads {s : State} (hs : s.regsOk = true) :
    s.holdCleared.rd .ds R.DSP_GRANT.STATE = grantNone ∧ s.holdCleared.rd .ds R.DSP_HOLD.EXPIRED = 1 ∧
      rose s s.holdCleared .ds R.DSP_GRANT_CNT.EXPIRED := by
  have h0 : (s.advTo (s.dep.holdAt + 50 * us)).regsOk = true := (State.regsOk_advTo ..).trans hs
  have hcnt0 : (s.advTo (s.dep.holdAt + 50 * us)).rd .ds R.DSP_GRANT_CNT.EXPIRED = s.rd .ds R.DSP_GRANT_CNT.EXPIRED :=
    State.rd_advTo ..
  unfold State.holdCleared rose
  dsimp only
  simp only [State.rd_modDep, State.wrSat]
  generalize s.advTo (s.dep.holdAt + 50 * us) = x at h0 hcnt0 ⊢
  have h1 : (x.wr .ds R.DSP_GRANT.STATE grantNone).regsOk = true := State.wr_regsOk _ _ _ _ _ _ h0
  have h2 : ((x.wr .ds R.DSP_GRANT.STATE grantNone).set .ds R.DSP_HOLD.EXPIRED).regsOk = true :=
    State.wr_regsOk _ _ _ _ _ _ h1
  have h3 := State.wr_regsOk _ .ds R.DSP_HOLD.TB 0 0 0 h2
  have hcnt := (State.rd_wr_apart _ .ds .ds R.DSP_HOLD.TB R.DSP_GRANT_CNT.EXPIRED 0 0 0 0 0 h2 (by decide)).trans
    ((State.rd_wr_apart _ _ _ _ _ _ _ _ _ _ h1 (by decide)).trans
      ((State.rd_wr_apart _ _ _ _ _ _ _ _ _ _ h0 (by decide)).trans hcnt0))
  have h4 : ((((x.wr .ds R.DSP_GRANT.STATE grantNone).set .ds R.DSP_HOLD.EXPIRED).wr .ds R.DSP_HOLD.TB 0).inc .ds
      R.DSP_GRANT_CNT.EXPIRED).regsOk = true := State.wr_regsOk _ _ _ _ _ _ h3
  refine ⟨?_, ?_, ?_⟩
  · calc _ = _ := State.rd_wr_apart _ _ _ _ _ _ _ _ _ _ h4 (by decide)
      _ = _ := State.rd_wr_apart _ _ _ _ _ _ _ _ _ _ h3 (by decide)
      _ = _ := State.rd_wr_apart _ _ _ _ _ _ _ _ _ _ h2 (by decide)
      _ = _ := State.rd_wr_apart _ _ _ _ _ _ _ _ _ _ h1 (by decide)
      _ = low _ grantNone := State.rd_wr_same _ _ _ _ _ _ h0
      _ = grantNone := by decide
  · calc _ = _ := State.rd_wr_apart _ _ _ _ _ _ _ _ _ _ h4 (by decide)
      _ = _ := State.rd_wr_apart _ _ _ _ _ _ _ _ _ _ h3 (by decide)
      _ = _ := State.rd_wr_apart _ _ _ _ _ _ _ _ _ _ h2 (by decide)
      _ = low _ 1 := State.rd_wr_same _ _ _ _ _ _ h1
      _ = 1 := by decide
  · rw [State.rd_wr_apart _ _ _ _ _ _ _ _ _ _ h4 (by decide), State.inc_eq, State.rd_wr_same _ _ _ _ _ _ h3, low_satAdd,
      hcnt]

/-- A hold expires (R23): the clock, the mark, the count; without a request no lane is granted and the replay has ended. -/
theorem hold_expires {s : State} (hs : s.regsOk = true) (hd : s.depOn = true)
    (hh : s.rd .ds R.DSP_GRANT.STATE = grantHold) : leads .holdExpiry s fun t =>
      t.now = max s.now (s.dep.holdAt + 50 * us) ∧
      t.rd .ds R.DSP_HOLD.EXPIRED = 1 ∧ rose s t .ds R.DSP_GRANT_CNT.EXPIRED ∧
      (s.on .ds R.DSP_GRANT.REQ_A = false ∧ s.on .ds R.DSP_GRANT.REQ_B = false →
        t.rd .ds R.DSP_GRANT.STATE = grantNone ∧ t.dep.holdFrom = none ∧
        ∀ c : Fin 64, ∀ m, t.mux.chs[c] = some m → m.driving = false) := by
  refine leads_of_exec (exec_holdExpiry hd hh) ?_
  obtain ⟨hstate, hexp, hcount⟩ := State.holdCleared_reads hs
  have hc := s.holdCleared_alters.ok hs
  have hrest : ∀ {m}, 34359738368 &&& m = 34359738368 →
      Within m s.holdCleared.muxRests (s.holdCleared.muxRests.each (List.range 8) fun s g => s.groupRest g) :=
    fun hm => within_each _ _ (Within.refl _) fun x g => State.groupRest_within _ _ (msub rfl hm) (Within.refl _)
  have hmux := (hrest (m := 34359738368) (by decide)).mux (by decide)
  have hall : Within 103079215104 s.holdCleared (s.holdCleared.muxRests.each (List.range 8) fun s g => s.groupRest g) :=
    (State.muxRests_within _ (by decide)).trans (hrest (by decide))
  generalize (s.holdCleared.muxRests.each (List.range 8) fun s g => s.groupRest g) = r at hmux hall ⊢
  have hrs := hall.ok hc
  have hr : Alters [] s.holdCleared r := (hall.mono (by decide)).alters
  have hrn : r.rd .ds R.DSP_GRANT.STATE = grantNone := (hr.rd hc _ _ _ _ (by decide)).trans hstate
  have hrdep : r.dep = { s.dep with holdFrom := none } := (hall.dep (by decide)).trans s.holdCleared_dep
  have hrd : r.depOn = true := by unfold State.depOn at *; rw [hrdep]; exact hd
  have ht := State.grantLogic_alters_of_free hrs hrd hrn
  refine ⟨?_, ?_, ?_, fun hreq => ?_⟩
  · rw [((State.grantLogic_within r (msk := notClock) (by decide) (Within.refl r)).now (by decide)).1, (hall.now (by decide)).1,
      s.holdCleared_now]
  · exact (ht.rd hrs _ _ _ _ (by decide)).trans ((hr.rd hc _ _ _ _ (by decide)).trans hexp)
  · exact (ht.rd hrs _ _ _ _ (by decide)).trans ((hr.rd hc _ _ _ _ (by decide)).trans hcount)
  · have hask : ∀ y, r.on .ds (reqFld y) = false := fun y => by
      rw [hr.on hc _ _ _ _ (by cases y <;> decide), s.holdCleared_alters.on hs _ _ _ _ (by cases y <;> decide)]
      cases y
      · exact hreq.1
      · exact hreq.2
    have hh : r.holder = none := by simp [State.holder, State.granted, hrn, grantNone, grantCode]
    rw [State.grantLogic_idle hrs hh fun _ y => by rw [hask, Bool.and_false]]
    refine ⟨(State.syncElig_state hrs).trans hrn, ?_, fun c m hm => ?_⟩
    · rw [State.syncElig_dep, hrdep]
    · rw [(State.syncElig_within_deputy r).mux (by decide), hmux] at hm
      exact State.muxRests_driving hm

/-! ## The replay (R349) -/

/-- The clock moved on to an instant in steps reads it, or what it read before where that is later. -/
theorem State.advSteps_steps (s : State) (x : Int) : (s.advSteps x).steps = max s.steps x := by
  unfold State.advSteps
  split
  · next h =>
    have h0 : 0 ≤ s.steps := by unfold State.steps; omega
    show (((x / 1024).toNat : Nat) : Int) * 1024 + ((x % 1024).toNat : Nat) = _
    omega
  · omega

/-- The destinations of a held channel commanded at an edge of level `level` (R207, R349). -/
def State.replayLevel (s : State) (m : MuxCh) (level : Bool) : State :=
  if level then
    (if m.compl then s.replayDst m.dstL false s.steps else s).replayDst m.dstH true
      (s.steps + (if m.compl then deadTime m.dtRise else 0))
  else
    let s3 := s.replayDst m.dstH false s.steps
    if m.compl then s3.replayDst m.dstL true (s3.steps + deadTime m.dtFall) else s3

/-- An edge reaches the Hoist links alone. -/
theorem State.replayLevel_within (s : State) (m : MuxCh) (level : Bool) : Within 34359738368 s (s.replayLevel m level) := by
  have hdst : ∀ {x y : State} (code : Nat) (on : Bool) (t : Int), Within 34359738368 x y →
      Within 34359738368 x (y.replayDst code on t) := fun code on t h => State.replayDst_within _ code on t (by decide) h
  unfold State.replayLevel
  refine within_ite (fun _ => hdst _ _ _ (within_ite (fun _ => hdst _ _ _ (Within.refl s)) fun _ => Within.refl s)) fun _ => ?_
  have h3 := hdst m.dstH false s.steps (Within.refl s)
  exact within_ite (fun _ => hdst _ _ _ h3) fun _ => h3

/-- The state at a replayed edge of channel `c`, before its destinations are commanded. -/
def State.edgeTaken (s : State) (c : Fin 64) (m : MuxCh) (x : Int) (level : Bool) : State :=
  { s.advSteps x with mux := { (s.advSteps x).mux with chs := (upd (s.advSteps x).mux.chs c fun _ =>
    some { m with level := level, lastEdge := some x }) } }

theorem exec_holdReplayEdge {s : State} {c : Fin 64} {m : MuxCh} {x : Int} {level : Bool} (hd : s.depOn = true)
    (hm : s.mux.chs[c] = some m) (hdr : m.driving = true) (hx : s.replayEdge m = some (x, level)) :
    exec (.holdReplayEdge c) s = .next ((s.edgeTaken c m x level).replayLevel m level) := by
  show execHoldReplayEdge c s = _
  unfold execHoldReplayEdge
  simp only [hm, hx]
  exact congrArg Host.Outcome.next (if_neg (by simp [hd, hdr]))

/-- The multiplexer issues the next held edge of a channel at its instant (R349). -/
theorem replay_issues_edge {s : State} {c : Fin 64} {m : MuxCh} {x : Int} {level : Bool} (hd : s.depOn = true)
    (hm : s.mux.chs[c] = some m) (hdr : m.driving = true) (hx : s.replayEdge m = some (x, level)) :
    leads (.holdReplayEdge c) s fun t =>
      t.mux.chs[c] = some { m with level := level, lastEdge := some x } ∧ t.steps = max s.steps x := by
  refine leads_of_exec (exec_holdReplayEdge hd hm hdr hx) ?_
  have hw := (s.edgeTaken c m x level).replayLevel_within m level
  obtain ⟨hnow, hfine⟩ := hw.now (by decide)
  constructor
  · rw [hw.mux (by decide)]
    exact (upd_get _ c c _).trans (if_pos rfl)
  · refine Eq.trans ?_ (s.advSteps_steps x)
    unfold State.steps
    rw [hnow, hfine]
    rfl

/-- Settles O36, one lemma per command of the grant and its hold. -/
theorem grantsPassThroughTheirHold : Obligations.GrantsPassThroughTheirHold := by
  unfold Obligations.GrantsPassThroughTheirHold
  refine ⟨?_, ?_, ?_, ?_, ?_, ?_⟩
  · intro s l hs ha hr he hn hp
    obtain ⟨t, ht, h⟩ := raise_gets_free_grant (canonical_regs hs) ha hr he hn hp
    exact ⟨t, ht, h.request, h.state, h.role, h.grants, h.granted⟩
  · intro s l hs ha hr hh he
    exact raise_leaves_holder (canonical_regs hs) ha hr hh he
  · intro s l hs hd hr
    obtain ⟨t, ht, hdown, hgone⟩ := drop_begins_hold (canonical_regs hs) hd hr
    refine ⟨t, ht, hdown.request, hdown.line, fun hg => ?_⟩
    have h := hgone hg
    exact ⟨h.state, h.holds, h.holdFrom, h.holdAt, h.granted⟩
  · intro s y hs hd hh
    cases hy : s.holdTaker with
    | none =>
      obtain ⟨t, ht, hnow, hstate, hfrom⟩ := hold_goes_on (canonical_regs hs) hd hh hy
      exact ⟨t, ht, hnow, nofun, fun _ => ⟨hstate, hfrom⟩⟩
    | some z =>
      obtain ⟨t, ht, hnow, hgiven, hfrom⟩ := hold_grants (canonical_regs hs) hd hh hy
      refine ⟨t, ht, hnow, fun hz => ?_, nofun⟩
      cases hz
      exact ⟨hgiven.state, hgiven.role, hfrom⟩
  · intro s hs hd hh
    exact hold_expires (canonical_regs hs) hd hh
  · intro s c m x level hd hm hdr hx
    exact replay_issues_edge hd hm hdr hx

end Sys2Proof.Machine
end

section
/-!
PROOFS. Heartbeats and declarations of the lanes (R28, R331 to R337).
-/
namespace Sys2Proof.Machine

/-- Lane A runs and has declared the Deputy lost (R28), while the Deputy is present and counts no class as lost. -/
def deputyGivenUp : State :=
  (State.reset.modDep fun d => { d with phase := .on }).modRun .a fun r =>
    { r with phase := .running, sup := { r.sup with lost := setBit 0 FaultClass.ds.code } }

/-- Refutes O37: its last clause does not ask that the lane still goes by the Deputy. Lane A has declared the Deputy lost; it
declares its network class in its own record (R37), and `DSP_OUTCOME.LOST` stays as it was. -/
theorem not_heartbeatsAndPortsAreWatched : ¬ Obligations.HeartbeatsAndPortsAreWatched := by
  unfold Obligations.HeartbeatsAndPortsAreWatched
  rintro ⟨-, -, -, -, -, -, -, hdeclare⟩
  obtain ⟨t, ht, hP⟩ := hdeclare deputyGivenUp .a 3 .na (by decide) (by decide) (by decide) (by decide)
  rw [if_pos (by decide)] at hP
  have hlost : t.isLost .na = false := by
    cases ht
    decide
  exact absurd (hP.1.symm.trans hlost) (by decide)

end Sys2Proof.Machine
end

section
/-!
PROOFS. Time across the lanes and the network (R15, R98 to R100, R306, R423).
-/
namespace Sys2Proof.Machine

/-! ## A 64-bit count in its two words -/

/-- A 64-bit count just stored reads back. -/
theorem State.rd64_wr64 {s : State} (l : Lane) (lo hi : Fld) {v : Nat} (hs : s.regsOk = true) (ha : hi.apart lo = true)
    (hlo : lo.w = 32) (hhi : hi.w = 32) (hv : v < 2 ^ 64) : (s.wr64 l lo hi v).rd64 l lo hi = v := by
  have h1 : (s.wr (laneDie l) lo (v % 2 ^ 32)).regsOk = true := State.wr_regsOk _ _ _ _ _ _ hs
  unfold State.rd64 State.wr64
  rw [State.rd_wr_same _ _ _ _ _ _ h1, State.rd_wr_apart _ _ _ _ _ _ _ _ _ _ h1 ha, State.rd_wr_same _ _ _ _ _ _ hs, hlo, hhi]
  unfold low
  omega

theorem ux_lt (w : Nat) (x : Int) : ux w x < 2 ^ w := by
  have h0 : (0 : Int) < 2 ^ w := by positivity
  refine (Int.toNat_lt (Int.emod_nonneg x h0.ne')).mpr ?_
  push_cast
  exact Int.emod_lt_of_pos x h0

/-- A 64-bit count stands where both its words are spared. -/
theorem Alters.rd64 {ks : List (Die × Fld)} {s t : State} (h : Alters ks s t) (hs : s.regsOk = true) (l : Lane) (lo hi : Fld)
    (hlo : spared ks (laneDie l) lo = true) (hhi : spared ks (laneDie l) hi = true) : t.rd64 l lo hi = s.rd64 l lo hi := by
  unfold State.rd64
  rw [h.rd hs _ _ _ _ hlo, h.rd hs _ _ _ _ hhi]

theorem Alters.wr64 {ks : List (Die × Fld)} {s t : State} (h : Alters ks s t) (l : Lane) (lo hi : Fld) (v : Nat)
    (hlo : (laneDie l, lo) ∈ ks) (hhi : (laneDie l, hi) ∈ ks) : Alters ks s (t.wr64 l lo hi v) :=
  (h.wr _ _ _ _ _ hlo).wr _ _ _ _ _ hhi

/-! ## A quotient whose rounding is open -/

/-- The quotient is the whole one or, where a remainder is left, its upper neighbour; only the counter of free values moves. -/
theorem State.quot_cases (s : State) (num den : Int) : ∃ q u, s.quot num den = (q, u) ∧
    (q = num / den ∨ num % den ≠ 0 ∧ q = num / den + 1) ∧ Within 4398046511104 s u ∧ ∀ k, u.run k = s.run k := by
  unfold State.quot
  split
  · exact ⟨_, _, rfl, .inl rfl, Within.refl s, fun _ => rfl⟩
  · next h =>
    have h1 : (s.free 1).1 = 0 ∨ (s.free 1).1 = 1 := by
      have : (s.free 1).1 < 2 ^ 1 := Nat.mod_lt _ (by decide)
      omega
    refine ⟨_, _, rfl, ?_, (within1_free 1 (by decide) (Within.refl s)).h, fun k => by cases k <;> rfl⟩
    rcases h1 with h1 | h1
    · exact .inl (by rw [h1]; simp)
    · exact .inr ⟨h, by rw [h1]; rfl⟩

/-! ## The source of network time (R99) -/

/-- The fields that a source of network time writes. -/
def sourceFlds (l : Lane) : List (Die × Fld) :=
  [(laneDie l, R.TIM_QUAL.SOURCE), (laneDie l, R.TIM_EPOCH_LO.EPOCH), (laneDie l, R.TIM_EPOCH_HI.EPOCH),
   (laneDie l, R.TIM_UNC.US)]

theorem State.takeSource_alters (s : State) (l : Lane) (src epoch unc : Nat) :
    Alters (sourceFlds l) s (s.takeSource l src epoch unc) := by
  unfold State.takeSource
  refine Alters.trans (Alters.wr (Alters.wr64 (Alters.wr (Alters.refl s) _ _ _ _ _ ?_) _ _ _ _ ?_ ?_) _ _ _ _ _ ?_)
    (State.modClk_within _ _ _ (by decide) (Within.refl _)).alters <;> simp [sourceFlds]

/-- A source taken is named, with its epoch. -/
theorem State.takeSource_reads {s : State} (l : Lane) (src epoch unc : Nat) (hs : s.regsOk = true) (he : epoch < 2 ^ 64) :
    (s.takeSource l src epoch unc).rd (laneDie l) R.TIM_QUAL.SOURCE = low R.TIM_QUAL.SOURCE.w src ∧
      (s.takeSource l src epoch unc).rd64 l R.TIM_EPOCH_LO.EPOCH R.TIM_EPOCH_HI.EPOCH = epoch := by
  have h1 : (s.wr (laneDie l) R.TIM_QUAL.SOURCE src).regsOk = true := State.wr_regsOk _ _ _ _ _ _ hs
  have h2 : Alters [(laneDie l, R.TIM_EPOCH_LO.EPOCH), (laneDie l, R.TIM_EPOCH_HI.EPOCH)]
      (s.wr (laneDie l) R.TIM_QUAL.SOURCE src)
      ((s.wr (laneDie l) R.TIM_QUAL.SOURCE src).wr64 l R.TIM_EPOCH_LO.EPOCH R.TIM_EPOCH_HI.EPOCH epoch) :=
    (Alters.refl _).wr64 _ _ _ _ (by simp) (by simp)
  have h3 : Alters [(laneDie l, R.TIM_UNC.US)]
      ((s.wr (laneDie l) R.TIM_QUAL.SOURCE src).wr64 l R.TIM_EPOCH_LO.EPOCH R.TIM_EPOCH_HI.EPOCH epoch)
      (s.takeSource l src epoch unc) := by
    unfold State.takeSource
    refine Alters.trans (Alters.wr (Alters.refl _) _ _ _ _ _ ?_)
      (State.modClk_within _ _ _ (by decide) (Within.refl _)).alters
    simp
  constructor
  · rw [h3.rd (h2.ok h1) _ _ _ _ (by cases l <;> decide), h2.rd h1 _ _ _ _ (by cases l <;> decide),
      State.rd_wr_same _ _ _ _ _ _ hs]
  · rw [h3.rd64 (h2.ok h1) _ _ _ (by cases l <;> decide) (by cases l <;> decide),
      State.rd64_wr64 _ _ _ h1 (by decide) rfl rfl he]

/-- The choice of the best source writes a source's fields and, outside the tracked blocks, `CFG_START_STATUS`. -/
theorem State.timeBest_alters (s : State) (l : Lane) : Alters (sourceFlds l) s (s.timeBest l) := by
  have hsrc := s.takeSource_alters l
  have hset : ∀ x, Alters (sourceFlds l) s x → Alters (sourceFlds l) s (x.set (laneDie l) R.CFG_START_STATUS.TIME_UNKNOWN) :=
    fun x h => h.trans (within_set _ _ _ _ (by decide) (Within.refl x)).alters
  unfold State.timeBest
  refine (Alters.refl s).ite ((hsrc ..).ite ?_)
  split
  · exact hsrc ..
  · exact (State.modClk_within _ _ _ (by decide) (Within.refl s)).alters.ite ((Alters.refl s).ite (hset _ (hsrc ..)))

theorem State.timeBest_now (s : State) (l : Lane) : (s.timeBest l).now = s.now :=
  ((State.timeBest_within s l (msk := 8388610) (by decide) (Within.refl s)).now (by decide)).1

/-! ## The traction-cycle boundary (R15, R100) -/

/-- The offset ages by one boundary, and is valid for ten (R100). -/
theorem State.offsetAge_reads {s : State} (l : Lane) (hs : s.regsOk = true) :
    rose s (s.offsetAge l) (laneDie l) R.TIM_PARTNER_STAT.AGE ∧
      (s.offsetAge l).rd (laneDie l) R.TIM_PARTNER_STAT.VALID = b2n (s.on (laneDie l) R.TIM_PARTNER_STAT.VALID &&
        decide ((s.offsetAge l).rd (laneDie l) R.TIM_PARTNER_STAT.AGE ≤ 10)) := by
  have h1 : (s.inc (laneDie l) R.TIM_PARTNER_STAT.AGE).regsOk = true := State.wr_regsOk _ _ _ _ _ _ hs
  have hage : (s.offsetAge l).rd (laneDie l) R.TIM_PARTNER_STAT.AGE =
      (s.inc (laneDie l) R.TIM_PARTNER_STAT.AGE).rd (laneDie l) R.TIM_PARTNER_STAT.AGE :=
    State.rd_wr_apart _ _ _ _ _ _ _ _ _ _ h1 (by decide)
  constructor
  · unfold rose
    rw [hage, State.inc_eq, State.rd_wr_same _ _ _ _ _ _ hs, low_satAdd]
  · rw [hage]
    exact (State.rd_wr_same _ _ _ _ _ _ h1).trans (low_b2n (by decide) _)

/-- What a boundary does beside the offset's age in a lane whose converters do not run yet: timers, events, the Assay, the
trim. -/
def State.earlyWork (s : State) (l : Lane) (k : Nat) : State :=
  (((s.timBoundary l).event l .traction).asyBoundary l k).refTrimStep l

theorem State.earlyWork_within {m : Nat} (s : State) (l : Lane) (k : Nat) (hm : 4398047297540 &&& m = 4398047297540) :
    Within m s (s.earlyWork l k) :=
  State.refTrimStep_within _ l (msub rfl hm) (State.asyBoundary_within _ l k (msub rfl hm)
    (State.event_within _ l .traction (msub rfl hm) (State.timBoundary_within s l (msub rfl hm) (Within.refl s))))

theorem exec_tractionCycleBoundary_early {s : State} {l : Lane} (ha : s.alive l = true) (ht : (s.run l).clk.t0.isSome = true)
    (hp : s.past l 11 = false) :
    let k := nextMultiple (s.masterTime l) 10000 (s.run l).clk.cycle
    let s1 := (s.advTo (s.instantOfMaster l (k * 10000))).modClk l fun c => { c with cycle := k }
    let s2 := (s1.offsetAge l).earlyWork l k
    exec (.tractionCycleBoundary l) s = .next (s2.when (s2.past l 17) fun s => s.timeBest l) := by
  intro k s1 s2
  have hp1 : (s1.offsetAge l).past l 11 = false := by
    rw [← hp]
    unfold State.past State.offsetAge
    simp only [State.put_eq, State.inc_eq, State.wr_run, s1, State.modClk, State.modRun_run, State.advTo_run]
  refine congrArg Host.Outcome.next ((if_pos (by rw [ha, ht]; rfl)).trans ?_)
  show State.when _ _ _ = _
  rw [hp1]
  rfl

/-- A boundary of a lane that starts moves the clock and ages the offset (R15, R100). -/
theorem early_boundary_ages_offset {s : State} {l : Lane} {n : Nat} (hs : s.regsOk = true)
    (hn : (s.run l).phase = .starting n) (h3 : 3 < n) (h11 : n ≤ 11) (ht : (s.run l).clk.t0.isSome = true) :
    leads (.tractionCycleBoundary l) s fun t =>
      let k := nextMultiple (s.masterTime l) 10000 (s.run l).clk.cycle
      t.now = max s.now (s.instantOfMaster l (k * 10000)) ∧
      rose s t (laneDie l) R.TIM_PARTNER_STAT.AGE ∧
      t.rd (laneDie l) R.TIM_PARTNER_STAT.VALID = b2n (s.on (laneDie l) R.TIM_PARTNER_STAT.VALID &&
        decide (t.rd (laneDie l) R.TIM_PARTNER_STAT.AGE ≤ 10)) := by
  have ha : s.alive l = true := by simp [State.alive, hn, h3]
  have hp : s.past l 11 = false := by simp [State.past, hn, h11]
  refine leads_of_exec (exec_tractionCycleBoundary_early ha ht hp) ?_
  dsimp only
  generalize nextMultiple (s.masterTime l) 10000 (s.run l).clk.cycle = k
  have h1 : Within 8796093022208 s ((s.advTo (s.instantOfMaster l (k * 10000))).modClk l fun c => { c with cycle := k }) :=
    State.modClk_within _ _ _ (by decide) (within_advTo _ (by decide) (Within.refl s))
  have hnow : ((s.advTo (s.instantOfMaster l (k * 10000))).modClk l fun c => { c with cycle := k }).now =
      max s.now (s.instantOfMaster l (k * 10000)) := State.modRun_now ..
  generalize ((s.advTo (s.instantOfMaster l (k * 10000))).modClk l fun c => { c with cycle := k }) = s1 at h1 hnow ⊢
  have hs1 := h1.ok hs
  have ha1 : Alters [] s s1 := (h1.mono (by decide)).alters
  obtain ⟨hage, hvalid⟩ := State.offsetAge_reads l hs1
  have h2 : Within 8388608 s1 (s1.offsetAge l) := State.offsetAge_within s1 l (by decide) (Within.refl s1)
  generalize s1.offsetAge l = s2 at hage hvalid h2 ⊢
  have hw := s2.earlyWork_within l k (m := 4398047297540) (by decide)
  generalize s2.earlyWork l k = s3 at hw ⊢
  have hrest : Alters (sourceFlds l) s2 (s3.when (s3.past l 17) fun s => s.timeBest l) :=
    (hw.mono (by decide)).alters.when _ fun x => x.timeBest_alters l
  have hvalid' := hrest.rd (h2.ok hs1) (laneDie l) R.TIM_PARTNER_STAT.VALID 0 0 (by cases l <;> decide)
  have hage' := hrest.rd (h2.ok hs1) (laneDie l) R.TIM_PARTNER_STAT.AGE 0 0 (by cases l <;> decide)
  refine ⟨?_, ?_, ?_⟩
  · rw [← hnow, ← (h2.now (by decide)).1, ← (hw.now (by decide)).1]
    unfold State.when
    split
    · exact State.timeBest_now ..
    · rfl
  · exact rose_of_eq (hage'.trans hage) (ha1.rd hs _ _ _ _ (by cases l <;> decide))
  · rw [hvalid', hage', hvalid, ha1.on hs _ _ _ _ (by cases l <;> decide)]

/-! ## The lane link's time exchange (R100, R306) -/

/-- A frame that arrives as it was sent is taken where both lanes' domains run and nothing ranks before it (R305, R306). -/
theorem State.frame_unchanged {s : State} {l : Lane} (rank type frag : Nat) (payload : List Nat) (got : State → State)
    (hl : s.domains l = true) (ho : s.domains l.other = true) (hn : (s.run l.other).link.next? rank = true) :
    ∃ u, s.frame l [] rank type frag payload true id got = got u ∧ Within 4096 s u ∧
      ∀ k, (u.run k).clk = (s.run k).clk ∧ (u.run k).phase = (s.run k).phase := by
  unfold State.frame
  rw [if_pos (by rw [hl, ho, hn]; rfl)]
  refine ⟨_, rfl, ?_, ?_⟩
  · exact State.modLnk_within _ _ _ (by decide) (within_inc _ _ _ _ _ (by decide)
      (State.modLnk_within _ _ _ (by decide) (Within.refl s)))
  · intro k
    simp only [State.modLnk, State.inc_eq, State.run_modRun, State.wr_run]
    cases l <;> cases k <;> exact ⟨rfl, rfl⟩

/-- What lane `l` does with a `TIME` frame that its partner sent at its time `sent` (R100). -/
def State.timeTaken (s : State) (l : Lane) (sent transit : Nat) : State :=
  let d := laneDie l
  let s := s.advTo (s.now + 9 + transit)
  let arrived := s.laneTime l
  let s1 := s.modClk l fun c => { c with heard := some (arrived, sent) }
  match (s.run l.other).clk.heard with
  | none => s1
  | some (t2, t1) =>
    let r := s1.quot (((t2 : Int) - t1) - ((arrived : Int) - sent)) 2
    let rtt := (((arrived : Int) - t1) - ((sent : Int) - t2)).toNat
    let s2 := (((r.2.wr64 l R.TIM_PARTNER_OFS_LO.OFS R.TIM_PARTNER_OFS_HI.OFS (ux 64 r.1)).set d
      R.TIM_PARTNER_STAT.VALID).wr d R.TIM_PARTNER_STAT.AGE 0).wrSat d R.TIM_PARTNER_STAT.RTT rtt
    s2.when (s2.past l 17) fun s => s.timeBest l

theorem exec_timeFrame (s : State) (l : Lane) (transit : Nat) :
    exec (.timeFrame l [] transit) s = .next (s.frame l [] 0 0x02 0 (leBytes (s.laneTime l.other) 8
      ++ leBytes (((s.run l.other).clk.heard).getD (0, 0)).1 8 ++ leBytes (((s.run l.other).clk.heard).getD (0, 0)).2 8) true id
      fun s' => s'.timeTaken l (s.laneTime l.other) transit) := rfl

/-- The partner's offset written: the offset, its flag, its age, the round trip. -/
def State.offsetSet (s : State) (l : Lane) (q : Int) (rtt : Nat) : State :=
  (((s.wr64 l R.TIM_PARTNER_OFS_LO.OFS R.TIM_PARTNER_OFS_HI.OFS (ux 64 q)).set (laneDie l)
      R.TIM_PARTNER_STAT.VALID).wr (laneDie l) R.TIM_PARTNER_STAT.AGE 0).wrSat (laneDie l) R.TIM_PARTNER_STAT.RTT rtt

theorem State.offsetSet_reads {s : State} (l : Lane) (q : Int) (rtt : Nat) (hs : s.regsOk = true) :
    (s.offsetSet l q rtt).rd64 l R.TIM_PARTNER_OFS_LO.OFS R.TIM_PARTNER_OFS_HI.OFS = ux 64 q ∧
      (s.offsetSet l q rtt).rd (laneDie l) R.TIM_PARTNER_STAT.VALID = 1 ∧
      (s.offsetSet l q rtt).rd (laneDie l) R.TIM_PARTNER_STAT.AGE = 0 ∧
      (s.offsetSet l q rtt).rd (laneDie l) R.TIM_PARTNER_STAT.RTT = min rtt (2 ^ R.TIM_PARTNER_STAT.RTT.w - 1) := by
  have h1 : (s.wr64 l R.TIM_PARTNER_OFS_LO.OFS R.TIM_PARTNER_OFS_HI.OFS (ux 64 q)).regsOk = true :=
    State.wr_regsOk _ _ _ _ _ _ (State.wr_regsOk _ _ _ _ _ _ hs)
  have hofs := State.rd64_wr64 (s := s) l R.TIM_PARTNER_OFS_LO.OFS R.TIM_PARTNER_OFS_HI.OFS hs (by decide) rfl rfl (ux_lt 64 q)
  unfold State.offsetSet
  generalize s.wr64 l R.TIM_PARTNER_OFS_LO.OFS R.TIM_PARTNER_OFS_HI.OFS (ux 64 q) = u at h1 hofs ⊢
  have h2 : (u.set (laneDie l) R.TIM_PARTNER_STAT.VALID).regsOk = true := State.wr_regsOk _ _ _ _ _ _ h1
  have h3 : ((u.set (laneDie l) R.TIM_PARTNER_STAT.VALID).wr (laneDie l) R.TIM_PARTNER_STAT.AGE 0).regsOk = true :=
    State.wr_regsOk _ _ _ _ _ _ h2
  refine ⟨?_, ?_, ?_, ?_⟩
  · have h : Alters [(laneDie l, R.TIM_PARTNER_STAT.VALID), (laneDie l, R.TIM_PARTNER_STAT.AGE),
        (laneDie l, R.TIM_PARTNER_STAT.RTT)] u _ :=
      (((Alters.refl u).wr (laneDie l) R.TIM_PARTNER_STAT.VALID 1 0 0 (by simp)).wr (laneDie l) R.TIM_PARTNER_STAT.AGE 0 0 0
        (by simp)).wr (laneDie l) R.TIM_PARTNER_STAT.RTT (min rtt (2 ^ R.TIM_PARTNER_STAT.RTT.w - 1)) 0 0 (by simp)
    exact (h.rd64 h1 l _ _ (by cases l <;> decide) (by cases l <;> decide)).trans hofs
  · exact (State.rd_wr_apart _ _ _ _ _ _ _ _ _ _ h3 (by decide)).trans
      ((State.rd_wr_apart _ _ _ _ _ _ _ _ _ _ h2 (by decide)).trans (State.rd_wr_same _ _ _ _ _ _ h1))
  · exact (State.rd_wr_apart _ _ _ _ _ _ _ _ _ _ h3 (by decide)).trans (State.rd_wr_same _ _ _ _ _ _ h2)
  · exact (State.rd_wr_same _ _ _ _ _ _ h3).trans (low_min ..)

theorem State.offsetSet_run (s : State) (l k : Lane) (q : Int) (rtt : Nat) : (s.offsetSet l q rtt).run k = s.run k := by
  simp only [State.offsetSet, State.wr64, State.wrSat, State.set_eq, State.wr_run]

theorem State.offsetSet_now (s : State) (l : Lane) (q : Int) (rtt : Nat) : (s.offsetSet l q rtt).now = s.now := by
  simp only [State.offsetSet, State.wr64, State.wrSat, State.set_eq, State.wr_now]

/-- How far a lane's start has come is told by its phase alone. -/
theorem State.past_of_phase {s t : State} {l : Lane} (h : (t.run l).phase = (s.run l).phase) (n : Nat := 17) :
    t.past l n = s.past l n := by
  unfold State.past
  rw [h]

/-- A `TIME` frame that brings both stamps of the lane's own last one gives the offset as half the difference of the two
stamp differences, to a rounding, and the round trip (R100). -/
theorem State.timeTaken_eq {s : State} {l : Lane} (sent transit : Nat) {t1 t2 : Nat}
    (hh : (s.run l.other).clk.heard = some (t2, t1)) (hp : s.past l 17 = false) :
    let arrived := (s.advTo (s.now + 9 + transit)).laneTime l
    let num := ((t2 : Int) - t1) - ((arrived : Int) - sent)
    let rtt := (((arrived : Int) - t1) - ((sent : Int) - t2)).toNat
    ∃ q u, s.timeTaken l sent transit = u.offsetSet l q rtt ∧ (q = num / 2 ∨ num % 2 ≠ 0 ∧ q = num / 2 + 1) ∧
      Within 13194139533312 s u ∧ u.now = s.now + 9 + transit := by
  intro arrived num rtt
  have hadv : Within 13194139533312 s
      ((s.advTo (s.now + 9 + transit)).modClk l fun c => { c with heard := some (arrived, sent) }) :=
    State.modClk_within _ _ _ (by decide) (within_advTo _ (by decide) (Within.refl s))
  have hnow : ((s.advTo (s.now + 9 + transit)).modClk l fun c => { c with heard := some (arrived, sent) }).now =
      s.now + 9 + transit := by
    rw [State.modClk, State.modRun_now, State.advTo_now]
    omega
  have hph : (((s.advTo (s.now + 9 + transit)).modClk l fun c => { c with heard := some (arrived, sent) }).run l).phase =
      (s.run l).phase := by
    rw [State.modClk, State.modRun_run, State.advTo_run]
  unfold State.timeTaken
  dsimp only
  rw [State.advTo_run, hh]
  dsimp only
  generalize ((s.advTo (s.now + 9 + transit)).modClk l fun c => { c with heard := some (arrived, sent) }) = x at hadv hnow hph
  obtain ⟨q, u, hq, hr, hw, hrun⟩ := x.quot_cases num 2
  have hpu : (u.offsetSet l q rtt).past l 17 = false := by
    rw [State.past_of_phase ((congrArg LaneRun.phase ((State.offsetSet_run ..).trans (hrun l))).trans hph), hp]
  refine ⟨q, u, ?_, hr, hadv.trans (hw.mono (by decide)), (hw.now (by decide)).1.trans hnow⟩
  show State.when ((x.quot num 2).2.offsetSet l (x.quot num 2).1 rtt)
    (((x.quot num 2).2.offsetSet l (x.quot num 2).1 rtt).past l 17) _ = _
  rw [hq, hpu]
  rfl

/-- A time frame to a lane that has not yet ended `ST17` (R100, R306). -/
theorem time_frame_gives_offset {s : State} {l : Lane} (transit : Nat) {t1 t2 : Nat} (hs : s.regsOk = true)
    (hl : s.domains l = true) (ho : s.domains l.other = true) (hp : s.past l 17 = false)
    (hh : (s.run l.other).clk.heard = some (t2, t1)) : leads (.timeFrame l [] transit) s fun t =>
      let sent := s.laneTime l.other
      let arrived := (s.advTo (s.now + 9 + transit)).laneTime l
      let num := ((t2 : Int) - t1) - ((arrived : Int) - sent)
      let rtt := (((arrived : Int) - t1) - ((sent : Int) - t2)).toNat
      let ofs := fun x : Int => t.rd64 l R.TIM_PARTNER_OFS_LO.OFS R.TIM_PARTNER_OFS_HI.OFS = ux 64 x
      (ofs (num / 2) ∨ num % 2 ≠ 0 ∧ ofs (num / 2 + 1)) ∧ t.rd (laneDie l) R.TIM_PARTNER_STAT.VALID = 1 ∧
      t.rd (laneDie l) R.TIM_PARTNER_STAT.AGE = 0 ∧
      t.now = s.now + 9 + transit ∧ t.rd (laneDie l) R.TIM_PARTNER_STAT.RTT = min rtt (2 ^ R.TIM_PARTNER_STAT.RTT.w - 1) := by
  obtain ⟨v, hv, hsv, hrun⟩ := State.frame_unchanged (s := s) (l := l) 0 0x02 0 (leBytes (s.laneTime l.other) 8
      ++ leBytes (((s.run l.other).clk.heard).getD (0, 0)).1 8 ++ leBytes (((s.run l.other).clk.heard).getD (0, 0)).2 8)
    (fun s' => s'.timeTaken l (s.laneTime l.other) transit) hl ho rfl
  have hvnow : v.now = s.now := (hsv.now (by decide)).1
  have htime : (v.advTo (v.now + 9 + transit)).laneTime l = (s.advTo (s.now + 9 + transit)).laneTime l := by
    unfold State.laneTime
    rw [State.advTo_run, State.advTo_run, (hrun l).1, State.advTo_now, State.advTo_now, hvnow]
  have hheard : (v.run l.other).clk.heard = some (t2, t1) := (congrArg LaneClock.heard (hrun l.other).1).trans hh
  obtain ⟨q, u, ht, hq, hw, hnow⟩ := State.timeTaken_eq (s.laneTime l.other) transit hheard
    ((State.past_of_phase (hrun l).2 17).trans hp)
  rw [htime] at ht hq
  rw [hvnow] at hnow
  obtain ⟨hofs, hvalid, hage, hrtt⟩ := State.offsetSet_reads (s := u) l q
    ((((s.advTo (s.now + 9 + transit)).laneTime l : Int) - t1) - ((s.laneTime l.other : Int) - t2)).toNat (hw.ok (hsv.ok hs))
  refine leads_of_exec ((exec_timeFrame s l transit).trans (congrArg Host.Outcome.next (hv.trans ht)))
    ⟨?_, hvalid, hage, (State.offsetSet_now ..).trans hnow, hrtt⟩
  rcases hq with rfl | ⟨hne, rfl⟩
  · exact .inl hofs
  · exact .inr ⟨hne, hofs⟩

/-! ## IEEE 802.1AS (R99, R423) -/

/-- A sync noted at its MAC: synchronised, the grandmaster's interval, the instant, and the lock of network time. -/
def State.syncNoted (s : State) (l : Lane) (m : Fin 2) (logSync : BitVec 8) : State :=
  (((s.set (laneDie l) R.ETHm_AS_STATUS.SYNCED m).wr (laneDie l) R.ETHm_AS_STATUS.LOG_SYNC logSync.toNat m).modEth l
    ⟨m, by omega⟩ fun x => { x with syncAt := s.now }).set (laneDie l) R.TIM_QUAL.NET_LOCK

theorem State.ethSt_modEth_same (s : State) (l : Lane) (n : Fin 3) (f : EthSt → EthSt) :
    (s.modEth l n f).ethSt l n = f (s.ethSt l n) := by
  unfold State.ethSt State.modEth
  rw [State.modRun_run]
  exact (upd_get _ n n f).trans (if_pos rfl)

theorem State.syncNoted_reads {s : State} (l : Lane) (m : Fin 2) (logSync : BitVec 8) (hs : s.regsOk = true) :
    (s.syncNoted l m logSync).regsOk = true ∧ (s.syncNoted l m logSync).rd (laneDie l) R.ETHm_AS_STATUS.SYNCED m = 1 ∧
      (s.syncNoted l m logSync).rd (laneDie l) R.TIM_QUAL.NET_LOCK = 1 := by
  have h1 : (s.set (laneDie l) R.ETHm_AS_STATUS.SYNCED m).regsOk = true := State.wr_regsOk _ _ _ _ _ _ hs
  have h2 : Alters [(laneDie l, R.ETHm_AS_STATUS.LOG_SYNC)] (s.set (laneDie l) R.ETHm_AS_STATUS.SYNCED m) _ :=
    ((Alters.refl _).wr (laneDie l) R.ETHm_AS_STATUS.LOG_SYNC logSync.toNat m 0 (by simp)).trans
      (State.modEth_within _ l ⟨m, by omega⟩ (fun x => { x with syncAt := s.now }) (by decide) (Within.refl _)).alters
  have hsync := (h2.rd h1 (laneDie l) R.ETHm_AS_STATUS.SYNCED m 0 (by cases l <;> decide)).trans
    (State.rd_wr_same _ _ _ _ _ _ hs)
  refine ⟨State.wr_regsOk _ _ _ _ _ _ (h2.ok h1), ?_, ?_⟩
  · exact ((State.rd_wr_apart _ _ _ _ _ _ _ _ _ _ (h2.ok h1) (by decide)).trans hsync).trans (by decide)
  · exact (State.rd_wr_same _ _ _ _ _ _ (h2.ok h1)).trans (by decide)

theorem exec_asSync {s : State} {l : Lane} {m : Fin 2} (origin corr ago : Nat) (logSync : BitVec 8) (unc : Fin 2)
    (hr : s.asRuns l m = true) (hc : s.on (laneDie l) R.ETHm_AS_STATUS.AS_CAPABLE m = true)
    (hg : s.on (laneDie l) R.ETHm_AS_STATUS.GM_PRESENT m = true)
    (h0 : m = 0 ∨ s.on (laneDie l) R.ETHm_AS_STATUS.SYNCED 0 = false) :
    let stamp := s.laneTime l - ago
    let r := (s.syncNoted l m logSync).quot ((origin + corr + s.rd (laneDie l) R.ETHm_AS_PDELAY.NS m : Nat) : Int) 10
    exec (.asSync l m origin corr ago logSync unc) s = .next
      ((r.2.takeSource l 3 (ux 64 (r.1 - stamp)) unc).modClk l fun c => { c with lastSync := stamp, syncUnc := unc }) := by
  have hgov : ¬(m = 1 ∧ s.on (laneDie l) R.ETHm_AS_STATUS.SYNCED 0 = true) := by
    rintro ⟨rfl, h1⟩
    rcases h0 with h0 | h0
    · exact absurd h0 (by decide)
    · rw [h0] at h1
      exact absurd h1 (by decide)
  exact congrArg Host.Outcome.next ((if_pos (by rw [hr, hc, hg]; rfl)).trans (if_neg hgov))

/-- A sync sets network time from origin, correction and neighbour delay (R99, R423). -/
theorem sync_sets_network_time {s : State} {l : Lane} {m : Fin 2} (origin corr ago : Nat) (logSync : BitVec 8) (unc : Fin 2)
    (hs : s.regsOk = true) (hr : s.asRuns l m = true) (hc : s.on (laneDie l) R.ETHm_AS_STATUS.AS_CAPABLE m = true)
    (hg : s.on (laneDie l) R.ETHm_AS_STATUS.GM_PRESENT m = true)
    (h0 : m = 0 ∨ s.on (laneDie l) R.ETHm_AS_STATUS.SYNCED 0 = false) :
    leads (.asSync l m origin corr ago logSync unc) s fun t =>
      let d := laneDie l
      let ns := origin + corr + s.rd d R.ETHm_AS_PDELAY.NS m
      let epoch := fun x : Int => t.rd64 l R.TIM_EPOCH_LO.EPOCH R.TIM_EPOCH_HI.EPOCH = ux 64 (x - (s.laneTime l - ago : Nat))
      t.rd d R.ETHm_AS_STATUS.SYNCED m = 1 ∧ t.rd d R.TIM_QUAL.NET_LOCK = 1 ∧ t.rd d R.TIM_QUAL.SOURCE = 3 ∧
      (epoch ((ns / 10 : Nat) : Int) ∨ ns % 10 ≠ 0 ∧ epoch ((ns / 10 : Nat) + 1 : Int)) := by
  refine leads_of_exec (exec_asSync origin corr ago logSync unc hr hc hg h0) ?_
  obtain ⟨hok, hsync, hlock⟩ := State.syncNoted_reads l m logSync hs
  obtain ⟨q, u, hq, hcases, hw, -⟩ :=
    (s.syncNoted l m logSync).quot_cases ((origin + corr + s.rd (laneDie l) R.ETHm_AS_PDELAY.NS m : Nat) : Int) 10
  have hu := hw.ok hok
  dsimp only
  rw [hq]
  dsimp only
  have hu0 : Alters [] (s.syncNoted l m logSync) u := (hw.mono (by decide)).alters
  have htake := u.takeSource_alters l 3 (ux 64 (q - (s.laneTime l - ago : Nat))) unc
  obtain ⟨hsrc, hep⟩ := State.takeSource_reads l 3 (ux 64 (q - (s.laneTime l - ago : Nat))) unc hu (ux_lt 64 _)
  have hend : Alters [] (u.takeSource l 3 (ux 64 (q - (s.laneTime l - ago : Nat))) unc) _ :=
    (State.modClk_within _ l (fun c => { c with lastSync := s.laneTime l - ago, syncUnc := unc }) (by decide)
      (Within.refl _)).alters
  refine ⟨?_, ?_, ?_, ?_⟩
  · rw [hend.rd (htake.ok hu) _ _ _ _ (by cases l <;> decide), htake.rd hu _ _ _ _ (by cases l <;> decide),
      hu0.rd hok _ _ _ _ (by cases l <;> decide), hsync]
  · rw [hend.rd (htake.ok hu) _ _ _ _ (by cases l <;> decide), htake.rd hu _ _ _ _ (by cases l <;> decide),
      hu0.rd hok _ _ _ _ (by cases l <;> decide), hlock]
  · rw [hend.rd (htake.ok hu) _ _ _ _ (by cases l <;> decide), hsrc]
    decide
  · rw [hend.rd64 (htake.ok hu) _ _ _ (by cases l <;> decide) (by cases l <;> decide), hep]
    generalize origin + corr + s.rd (laneDie l) R.ETHm_AS_PDELAY.NS m = ns at hcases ⊢
    rcases hcases with rfl | ⟨hne, rfl⟩
    · exact .inl rfl
    · exact .inr ⟨by omega, rfl⟩

theorem exec_asSyncLapse {s : State} {l : Lane} {m : Fin 2} (hp : s.past l 17 = true)
    (hs : s.on (laneDie l) R.ETHm_AS_STATUS.SYNCED m = true) :
    let s1 := (s.advTo ((s.ethSt l ⟨m, by omega⟩).syncAt + threeSyncs (s.rd (laneDie l) R.ETHm_AS_STATUS.LOG_SYNC m))).clr
      (laneDie l) R.ETHm_AS_STATUS.SYNCED m
    exec (.asSyncLapse l m) s = .next ((s1.put (laneDie l) R.TIM_QUAL.NET_LOCK (s1.netLock l)).timeBest l) :=
  congrArg Host.Outcome.next (if_pos (by rw [hp, hs]; rfl))

/-- Three sync intervals without a sync end the synchronisation (R99, R423). -/
theorem lapse_ends_synchronisation {s : State} {l : Lane} {m : Fin 2} (hok : s.regsOk = true) (hp : s.past l 17 = true)
    (hs : s.on (laneDie l) R.ETHm_AS_STATUS.SYNCED m = true) : leads (.asSyncLapse l m) s fun t =>
      t.rd (laneDie l) R.ETHm_AS_STATUS.SYNCED m = 0 ∧
      t.now = max s.now ((s.ethSt l ⟨m, by omega⟩).syncAt + threeSyncs (s.rd (laneDie l) R.ETHm_AS_STATUS.LOG_SYNC m)) := by
  refine leads_of_exec (exec_asSyncLapse hp hs) ?_
  generalize (s.ethSt l ⟨m, by omega⟩).syncAt + threeSyncs (s.rd (laneDie l) R.ETHm_AS_STATUS.LOG_SYNC m) = at3
  have hadv : (s.advTo at3).regsOk = true := hok
  have hclr : ((s.advTo at3).clr (laneDie l) R.ETHm_AS_STATUS.SYNCED m).regsOk = true := State.wr_regsOk _ _ _ _ _ _ hadv
  have hsync : ((s.advTo at3).clr (laneDie l) R.ETHm_AS_STATUS.SYNCED m).rd (laneDie l) R.ETHm_AS_STATUS.SYNCED m = 0 :=
    (State.rd_wr_same _ _ _ _ _ _ hadv).trans (by decide)
  have hnow : ((s.advTo at3).clr (laneDie l) R.ETHm_AS_STATUS.SYNCED m).now = max s.now at3 := State.wr_now ..
  generalize (s.advTo at3).clr (laneDie l) R.ETHm_AS_STATUS.SYNCED m = s1 at hclr hsync hnow ⊢
  constructor
  · rw [State.put_eq, (State.timeBest_alters _ l).rd (State.wr_regsOk _ _ _ _ _ _ hclr) _ _ _ _ (by cases l <;> decide)]
    exact (State.rd_wr_apart _ _ _ _ _ _ _ _ _ _ hclr (by decide)).trans hsync
  · exact (State.timeBest_now _ l).trans ((State.wr_now ..).trans hnow)

theorem exec_asPdelayReq {s : State} {l : Lane} {m : Fin 2} (hr : s.asRuns l m = true) :
    let k : Fin 3 := ⟨m, by omega⟩
    let s1 := if (s.ethSt l k).pdelaySeq = 0 then s else s.advTo ((s.ethSt l k).pdelayAt + s.pdelayGap l m)
    exec (.asPdelayReq l m) s =
      .next (s1.modEth l k fun x => { x with pdelaySeq := (x.pdelaySeq + 1) % 2 ^ 16, pdelayAt := s1.now }) :=
  congrArg Host.Outcome.next (if_pos hr)

/-- A delay request advances its sequence, one interval after the last (R423). -/
theorem delay_request_advances {s : State} {l : Lane} {m : Fin 2} (hr : s.asRuns l m = true) :
    leads (.asPdelayReq l m) s fun t =>
      (t.ethSt l ⟨m, by omega⟩).pdelaySeq = ((s.ethSt l ⟨m, by omega⟩).pdelaySeq + 1) % 2 ^ 16 ∧
      ((s.ethSt l ⟨m, by omega⟩).pdelaySeq ≠ 0 →
        t.now = max s.now ((s.ethSt l ⟨m, by omega⟩).pdelayAt + s.pdelayGap l m)) := by
  refine leads_of_exec (exec_asPdelayReq hr) ?_
  generalize (s.ethSt l ⟨m, by omega⟩).pdelayAt + s.pdelayGap l m = due
  constructor
  · rw [State.ethSt_modEth_same]
    split
    · rfl
    · rw [State.ethSt, State.advTo_run, State.ethSt]
  · intro h
    rw [if_neg h]
    exact (State.modRun_now ..).trans (State.advTo_now ..)

theorem exec_asPdelayAnnounceRx {s : State} {l : Lane} {m : Fin 2} (msg : AsMsg) (hr : s.asRuns l m = true) :
    exec (.asPdelayAnnounceRx l m msg) s = .next (match msg with
      | .pdelayReq seq => s.modEth l ⟨m, by omega⟩ fun x => { x with answered := some seq.toNat }
      | .pdelayResp delay =>
        (s.wr (laneDie l) R.ETHm_AS_PDELAY.NS delay.toNat m).put (laneDie l) R.ETHm_AS_STATUS.AS_CAPABLE
          (decide (delay.toNat ≤ s.rd (laneDie l) R.ETHm_AS_CFG.NEIGHBOR_THR m)) m
      | .announce present => s.put (laneDie l) R.ETHm_AS_STATUS.GM_PRESENT present m) :=
  congrArg Host.Outcome.next ((if_pos hr).trans (by cases msg <;> rfl))

/-- A delay request that arrives is answered by its own sequence number (R423). -/
theorem delay_request_answered {s : State} {l : Lane} {m : Fin 2} (seq : BitVec 16) (hr : s.asRuns l m = true) :
    leads (.asPdelayAnnounceRx l m (.pdelayReq seq)) s fun t => (t.ethSt l ⟨m, by omega⟩).answered = some seq.toNat :=
  leads_of_exec (exec_asPdelayAnnounceRx _ hr) (congrArg EthSt.answered (State.ethSt_modEth_same ..))

/-- A response sets the neighbour delay, and asCapable by its threshold (R423). -/
theorem delay_response_taken {s : State} {l : Lane} {m : Fin 2} (delay : BitVec 32) (hs : s.regsOk = true)
    (hr : s.asRuns l m = true) : leads (.asPdelayAnnounceRx l m (.pdelayResp delay)) s fun t =>
      t.rd (laneDie l) R.ETHm_AS_PDELAY.NS m = delay.toNat ∧ t.rd (laneDie l) R.ETHm_AS_STATUS.AS_CAPABLE m =
        b2n (decide (delay.toNat ≤ s.rd (laneDie l) R.ETHm_AS_CFG.NEIGHBOR_THR m)) := by
  have h1 : (s.wr (laneDie l) R.ETHm_AS_PDELAY.NS delay.toNat m).regsOk = true := State.wr_regsOk _ _ _ _ _ _ hs
  refine leads_of_exec (exec_asPdelayAnnounceRx _ hr) ⟨?_, ?_⟩
  · calc _ = (s.wr (laneDie l) R.ETHm_AS_PDELAY.NS delay.toNat m).rd (laneDie l) R.ETHm_AS_PDELAY.NS m :=
          State.rd_wr_apart _ _ _ _ _ _ _ _ _ _ h1 (by decide)
      _ = low R.ETHm_AS_PDELAY.NS.w delay.toNat := State.rd_wr_same _ _ _ _ _ _ hs
      _ = delay.toNat := low_eq delay.isLt
  · exact (State.rd_wr_same _ _ _ _ _ _ h1).trans (low_b2n (by decide) _)

/-- An announce sets the grandmaster (R423). -/
theorem announce_sets_grandmaster {s : State} {l : Lane} {m : Fin 2} (present : Bool) (hs : s.regsOk = true)
    (hr : s.asRuns l m = true) : leads (.asPdelayAnnounceRx l m (.announce present)) s fun t =>
      t.rd (laneDie l) R.ETHm_AS_STATUS.GM_PRESENT m = b2n present :=
  leads_of_exec (exec_asPdelayAnnounceRx _ hr) ((State.rd_wr_same _ _ _ _ _ _ hs).trans (low_b2n (by decide) _))

/-- Settles O19: each command's own lemma. A boundary and a time frame are followed word by word through the registers of the
lane's time; a sync, its lapse and the messages of a station through the words they name. -/
theorem timeIsKeptAcrossLanesAndNetwork : Obligations.TimeIsKeptAcrossLanesAndNetwork := by
  unfold Obligations.TimeIsKeptAcrossLanesAndNetwork
  refine ⟨?_, ?_, ?_, ?_, ?_, ?_⟩
  · intro s l n hs
    exact early_boundary_ages_offset (canonical_regs hs)
  · intro s l transit t1 t2 hs
    exact time_frame_gives_offset transit (canonical_regs hs)
  · intro s l m origin corr ago logSync unc hs
    exact sync_sets_network_time origin corr ago logSync unc (canonical_regs hs)
  · intro s l m hs
    exact lapse_ends_synchronisation (canonical_regs hs)
  · intro s l m _
    exact delay_request_advances
  · intro s l m seq delay present hs hr
    exact ⟨delay_request_answered seq hr, delay_response_taken delay (canonical_regs hs) hr,
      announce_sets_grandmaster present (canonical_regs hs) hr⟩

end Sys2Proof.Machine
end

section
/-!
PROOFS. Mode changes (R83 to R88).
-/
namespace Sys2Proof.Machine

/-- Lane A, whose engines have their clocks, has a mode request for Service to send; lane B runs, but stands in Nap (R383). -/
def askedInNap : State :=
  (State.reset.modRun .a fun r => { r with phase := .running, link := { r.link with modeOut := some (.request modeService) } }).modRun
    .b fun r => { r with phase := .running, pwr := { r.pwr with nap := .nap } }

/-- Refutes O52: the clause on the answer to a request asks that the lane runs, not that its engines have their clocks. Lane B
stands in Nap and takes no frame (R304, R383), so that no acceptance waits to be sent. -/
theorem not_modeChangesAreAskedAnsweredAndApplied : ¬ Obligations.ModeChangesAreAskedAnsweredAndApplied := by
  unfold Obligations.ModeChangesAreAskedAnsweredAndApplied
  rintro ⟨-, -, hanswer, -⟩
  obtain ⟨t, ht, hP⟩ := hanswer askedInNap .b [] false modeService (by decide) (by decide) (by decide) (by decide) (by decide)
  rw [if_neg (by decide)] at hP
  have hstays : (t.run .b).link.modeOut = none := by
    cases ht
    decide
  exact absurd (hP.1.symm.trans hstays) (by decide)

end Sys2Proof.Machine
end

section
/-!
PROOFS. What an operation spares: fields of the register file that read as before, and the phases of the lanes.
-/
namespace Sys2Proof.Machine

/-! ## Fields that read as before -/

/-- The listed fields read as before, on every die and at every index. -/
structure Spares (fs : List Fld) (s t : State) : Prop where
  ok : s.regsOk = true → t.regsOk = true
  rd : s.regsOk = true → ∀ (d : Die) (f : Fld) (i j : Nat), f ∈ fs → t.rd d f i j = s.rd d f i j

section
variable {fs : List Fld} {s t u : State}

theorem Spares.refl (s : State) : Spares fs s s := ⟨id, fun _ _ _ _ _ _ => rfl⟩

theorem Spares.trans (h : Spares fs s t) (g : Spares fs t u) : Spares fs s u :=
  ⟨fun x => g.ok (h.ok x), fun x d f i j hf => (g.rd (h.ok x) d f i j hf).trans (h.rd x d f i j hf)⟩

/-- An operation that writes none of the blocks of the listed fields spares them. -/
theorem Within.spares {m : Nat} (h : Within m s t) (hf : ∀ f ∈ fs, f.inM (4294967295 - m % 4294967296) = true) :
    Spares fs s t :=
  ⟨h.ok, fun hs d f i j hm => h.rd hs d f i j (hf f hm)⟩

/-- A write of a field apart from all the listed ones spares them. -/
theorem Spares.wr (h : Spares fs s t) (d : Die) (g : Fld) (v i j : Nat) (hg : ∀ f ∈ fs, g.apart f = true) :
    Spares fs s (t.wr d g v i j) :=
  h.trans ⟨State.wr_regsOk t d g v i j, fun ht _ f _ _ hf => State.rd_wr_apart _ _ _ _ _ _ _ _ _ _ ht (hg f hf)⟩

theorem Spares.ite {c : Prop} [Decidable c] (h : Spares fs s t) (g : Spares fs s u) : Spares fs s (if c then t else u) := by
  split
  · exact h
  · exact g

theorem Spares.when (h : Spares fs s t) (c : Bool) {f : State → State} (hf : ∀ x, Spares fs x (f x)) :
    Spares fs s (t.when c f) := h.trans (Spares.ite (hf t) (Spares.refl t))

theorem Spares.each {α : Type} (h : Spares fs s t) (l : List α) {f : State → α → State} (hf : ∀ x y, Spares fs x (f x y)) :
    Spares fs s (t.each l f) := by
  induction l generalizing t with
  | nil => exact h
  | cons x r ih => exact ih (h.trans (hf t x))

end

/-! ## Lanes that stay in their phase -/

/-- Both lanes are in the phase they were in. -/
structure PhasesStand (s t : State) : Prop where
  phase : ∀ k, (t.run k).phase = (s.run k).phase

section
variable {s t u : State}

theorem PhasesStand.refl (s : State) : PhasesStand s s := ⟨fun _ => rfl⟩

theorem PhasesStand.trans (h : PhasesStand s t) (g : PhasesStand t u) : PhasesStand s u :=
  ⟨fun k => (g.phase k).trans (h.phase k)⟩

/-- A change that touches no lane. -/
theorem PhasesStand.of_lanes (h : PhasesStand s t) (ha : u.laneA = t.laneA) (hb : u.laneB = t.laneB) : PhasesStand s u :=
  h.trans ⟨fun k => by
    cases k
    · exact congrArg (fun x => x.run.phase) ha
    · exact congrArg (fun x => x.run.phase) hb⟩

theorem PhasesStand.wr (h : PhasesStand s t) (d : Die) (f : Fld) (v i j : Nat) : PhasesStand s (t.wr d f v i j) :=
  h.of_lanes rfl rfl

theorem PhasesStand.modDep (h : PhasesStand s t) (f : DepSt → DepSt) : PhasesStand s (t.modDep f) := h.of_lanes rfl rfl

theorem PhasesStand.modRun (h : PhasesStand s t) (l : Lane) {f : LaneRun → LaneRun} (hf : ∀ r, (f r).phase = r.phase) :
    PhasesStand s (t.modRun l f) :=
  h.trans ⟨fun k => by
    rw [State.run_modRun]
    split
    · next hk => rw [hk, hf]
    · rfl⟩

theorem PhasesStand.ite {c : Prop} [Decidable c] (h : PhasesStand s t) (g : PhasesStand s u) :
    PhasesStand s (if c then t else u) := by
  split
  · exact h
  · exact g

theorem PhasesStand.when (h : PhasesStand s t) (c : Bool) {f : State → State} (hf : ∀ x, PhasesStand x (f x)) :
    PhasesStand s (t.when c f) := h.trans (PhasesStand.ite (hf t) (PhasesStand.refl t))

theorem PhasesStand.each {α : Type} (h : PhasesStand s t) (l : List α) {f : State → α → State}
    (hf : ∀ x y, PhasesStand x (f x y)) : PhasesStand s (t.each l f) := by
  induction l generalizing t with
  | nil => exact h
  | cons x r ih => exact ih (h.trans (hf t x))

/-! ### The Hoist links -/

theorem PhasesStand.hoistWant (h : PhasesStand s t) (n : Fin 40) (on : Bool) (x : Int) : PhasesStand s (t.hoistWant n on x) := by
  have hdown : ∀ {v : State} (b : Bool), PhasesStand s v → PhasesStand s (v.setDown n b) := fun _ hv => hv.of_lanes rfl rfl
  unfold State.hoistWant
  dsimp only
  have h1 : PhasesStand s (t.modLink n fun k => { k with want := true, wantAt := max x t.steps, withheld := false }) :=
    h.of_lanes rfl rfl
  refine PhasesStand.ite (PhasesStand.ite h (PhasesStand.ite h1 ?_)) (hdown false (h.of_lanes rfl rfl))
  split
  · exact hdown true h1
  · exact PhasesStand.ite (hdown true h1) h1

theorem PhasesStand.groupDrive (h : PhasesStand s t) (g : Nat) (asc : Bool) : PhasesStand s (t.groupDrive g asc) :=
  (h.each _ fun x _ => (PhasesStand.refl x).hoistWant ..).each _ fun x _ => (PhasesStand.refl x).hoistWant ..

theorem PhasesStand.groupApply (h : PhasesStand s t) (g : Nat) : PhasesStand s (t.groupApply g) :=
  PhasesStand.ite (h.groupDrive ..) (PhasesStand.ite (h.groupDrive ..) (PhasesStand.ite (h.groupDrive ..)
    (h.each _ fun x _ => PhasesStand.ite ((PhasesStand.refl x).hoistWant ..) (PhasesStand.refl x))))

theorem PhasesStand.ovApply (h : PhasesStand s t) : PhasesStand s t.ovApply := by
  unfold State.ovApply
  refine PhasesStand.each (PhasesStand.each ?_ _ fun x l => ?_) _ fun x _ => (PhasesStand.refl x).groupApply _
  · exact h.of_lanes rfl rfl
  · exact PhasesStand.ite (((PhasesStand.refl x).wr ..).wr ..) (PhasesStand.refl x)

theorem PhasesStand.ov2Line (h : PhasesStand s t) (l : Lane) (on : Bool) : PhasesStand s (t.ov2Line l on) :=
  PhasesStand.ite (PhasesStand.ovApply ((PhasesStand.ite (h.wr ..) h).wr ..)) h

theorem PhasesStand.ov3Line (h : PhasesStand s t) (l : Lane) (on : Bool) : PhasesStand s (t.ov3Line l on) := by
  have h1 := h.wr .ds R.DSP_OV_STATUS.OV3 (if on then setBit (t.rd .ds R.DSP_OV_STATUS.OV3 0) l.idx
    else clrBit (t.rd .ds R.DSP_OV_STATUS.OV3 0) l.idx) 0 0
  unfold State.ov3Line
  exact PhasesStand.ite (PhasesStand.ite (PhasesStand.ovApply (((h1.when _ fun x => (PhasesStand.refl x).wr ..).wr ..).modDep _))
    (PhasesStand.ite (h1.modDep _) h1)) h

/-! ### The grant -/

theorem PhasesStand.modAdc (h : PhasesStand s t) (l : Lane) (f : AdcSt → AdcSt) : PhasesStand s (t.modAdc l f) :=
  h.modRun l fun _ => rfl

theorem PhasesStand.modCe (h : PhasesStand s t) (l : Lane) (f : CeSt → CeSt) : PhasesStand s (t.modCe l f) :=
  h.modRun l fun _ => rfl

theorem PhasesStand.modPwm (h : PhasesStand s t) (l : Lane) (f : PwmSt → PwmSt) : PhasesStand s (t.modPwm l f) :=
  h.modRun l fun _ => rfl

theorem PhasesStand.modTal (h : PhasesStand s t) (l : Lane) (f : Tally → Tally) : PhasesStand s (t.modTal l f) :=
  h.modRun l fun _ => rfl

theorem PhasesStand.event (h : PhasesStand s t) (l : Lane) (e : Event) : PhasesStand s (t.event l e) := by
  have rf := PhasesStand.refl
  exact PhasesStand.ite ((((h.each _ fun x _ => (rf x).when _ fun y => (rf y).modAdc l _).each _
    fun x _ => (rf x).when _ fun y => (rf y).modCe l _).each _ fun x _ => (rf x).when _ fun y => (rf y).modPwm l _).each _
    fun x _ => (rf x).when _ fun y => PhasesStand.ite ((rf y).modCe l _) (rf y)) h

theorem PhasesStand.setRole (h : PhasesStand s t) (l : Lane) (r : Nat) : PhasesStand s (t.setRole l r) :=
  ((h.wr ..).wr ..).when _ fun x => (PhasesStand.refl x).wr ..

theorem PhasesStand.syncMaster (h : PhasesStand s t) : PhasesStand s t.syncMaster :=
  h.each _ fun x l => ((PhasesStand.refl x).wr ..).when _ fun y => (PhasesStand.refl y).modRun l fun _ => rfl

theorem PhasesStand.syncElig (h : PhasesStand s t) : PhasesStand s t.syncElig :=
  h.each _ fun x _ => ((PhasesStand.refl x).wr ..).wr ..

theorem PhasesStand.syncChs (h : PhasesStand s t) : PhasesStand s t.syncChs :=
  h.each _ fun x _ => (PhasesStand.refl x).wr ..

theorem PhasesStand.pwmUngrant (h : PhasesStand s t) (l : Lane) : PhasesStand s (t.pwmUngrant l) :=
  (((h.wr ..).wr ..).wr ..).each _ fun x _ => (PhasesStand.refl x).wr ..

theorem PhasesStand.muxDrives (h : PhasesStand s t) : PhasesStand s t.muxDrives :=
  h.of_lanes (u := t.muxDrives) (by unfold State.muxDrives; rfl) (by unfold State.muxDrives; rfl)

theorem PhasesStand.removeGrant (h : PhasesStand s t) (l : Lane) : PhasesStand s (t.removeGrant l) := by
  unfold State.removeGrant
  lift_lets -useContext -merge -underBinder
  intro s1 s2 s3 s4 s5 s6
  have h3 : PhasesStand s s3 := ((((h.wr ..).wr ..).wr ..).wr ..).modDep _
  have h4 : PhasesStand s s4 := (((h3.wr ..).wr ..).pwmUngrant l).muxDrives.modRun l fun _ => rfl
  have h5 : PhasesStand s s5 := h4.event ..
  exact PhasesStand.ite (PhasesStand.ite (h5.setRole ..) h5).syncMaster h

theorem PhasesStand.giveGrant (h : PhasesStand s t) (l : Lane) : PhasesStand s (t.giveGrant l) := by
  unfold State.giveGrant
  lift_lets -useContext -merge -underBinder
  intro from_ wasHold planned s0 s1 s2 s3 s4 s5 s6
  have h0 : PhasesStand s s0 := h.each _ fun x k => (PhasesStand.refl x).modRun k fun _ => rfl
  have h1 : PhasesStand s s1 := (h0.wr ..).wr ..
  have h2 : PhasesStand s s2 := PhasesStand.ite (((h1.wr ..).wr ..).modDep _) h1
  have h4 : PhasesStand s s4 := (((h2.modDep _).wr ..).wr ..).setRole l roleActive
  have h5 : PhasesStand s s5 := h4.modRun l fun _ => rfl
  have h6 : PhasesStand s s6 := PhasesStand.ite ((h5.setRole ..).modRun _ fun _ => rfl) h5
  exact (h6.event ..).syncMaster

theorem PhasesStand.log (h : PhasesStand s t) (l : Lane) (rule detail : Nat) : PhasesStand s (t.log l rule detail) := by
  unfold State.log
  refine PhasesStand.ite ?_ h
  unfold State.submit
  dsimp only
  split
  · exact h.wr (laneDie l) R.TAL_REFUSE_CNT.LATE _ 0 0
  · exact h.wr (laneDie l) R.TAL_REFUSE_CNT.FULL _ 0 0
  · dsimp only
    exact h.modTal l _

theorem PhasesStand.record (h : PhasesStand s t) (cls cause : Nat) (standby : Bool) (detail : Nat) :
    PhasesStand s (t.record cls cause standby detail) := by
  unfold State.record
  lift_lets -useContext -merge -underBinder
  intro r s1 s2 s3 s4
  have h1 : PhasesStand s s1 := h.when _ fun x => (PhasesStand.refl x).wr ..
  have h2 : PhasesStand s s2 := ((((((h1.wr ..).wr ..).wr ..).wr ..).wr ..).wr ..).wr ..
  have h3 : PhasesStand s s3 := (h2.wr ..).wr ..
  have h4 : PhasesStand s s4 := PhasesStand.ite (h3.wr ..) (h3.wr ..)
  exact h4.each _ fun x l => (PhasesStand.refl x).when _ fun y => (PhasesStand.refl y).log ..

theorem PhasesStand.returns (h : PhasesStand s t) : PhasesStand s t.returns := by
  refine h.each _ fun x l => PhasesStand.ite ?_ (PhasesStand.refl x)
  unfold State.returnClass
  lift_lets -useContext -merge -underBinder
  intro s1 s2 s3
  have h1 : PhasesStand x s1 := (PhasesStand.refl x).wr ..
  have h2 : PhasesStand x s2 := by
    unfold s2
    split
    · exact PhasesStand.ite ((h1.wr ..).wr ..) h1
    · exact h1
  have h3 : PhasesStand x s3 := PhasesStand.ite ((h2.wr ..).when _ fun y => (PhasesStand.refl y).wr ..) h2
  have h4 : PhasesStand x s3.syncLost :=
    h3.each _ fun y k => (PhasesStand.refl y).when _ fun z => (PhasesStand.refl z).modRun k fun _ => rfl
  exact h4.syncChs

theorem PhasesStand.grantLogic (h : PhasesStand s t) : PhasesStand s t.grantLogic := by
  have h0 := h.syncElig
  unfold State.grantLogic
  dsimp only
  refine PhasesStand.ite ?_ h0
  split
  · exact PhasesStand.ite h0 (((h0.removeGrant _).wr ..).record ..).syncElig
  · have hgive : ∀ y, PhasesStand s ((t.syncElig.giveGrant y).returns).syncElig := fun y => (h0.giveGrant y).returns.syncElig
    exact PhasesStand.ite (PhasesStand.ite (hgive _) (PhasesStand.ite (hgive _) h0)) h0

end

/-! ## A reset lane waits in the phase it was reset to -/

/-- The state of a lane reset in which the lane has been wiped and waits in `phase` (R11, R55). -/
def State.laneWiped (s : State) (l : Lane) (phase : LanePhase) : State :=
  let s1 := (s.removeGrant l).when s.depOn fun s => (s.clr .ds (reqFld l)).clr .ds R.DSP_Lx_STATUS.DONE l.idx
  s1.modRun l fun _ => { LaneRun.init with phase := phase }

theorem State.resetLane_phases (s : State) (l : Lane) (phase : LanePhase) :
    PhasesStand (s.laneWiped l phase) (s.resetLane l phase) := by
  have h : PhasesStand (s.laneWiped l phase) ((s.laneWiped l phase).resetRegs (laneDie l) true) :=
    (PhasesStand.refl _).of_lanes rfl rfl
  exact ((((h.modDep _).ov2Line ..).ov3Line ..).syncChs.grantLogic).syncMaster

theorem State.resetIsland_phase (s : State) (l : Lane) (phase : LanePhase) :
    ((s.resetIsland l phase).run l).phase = phase := by
  refine ((State.resetLane_phases _ l phase).phase l).trans ?_
  unfold State.laneWiped
  rw [State.modRun_run]

end Sys2Proof.Machine
end

section
/-!
PROOFS. The start of a lane step by step, and its loader (R67, R75 to R82, R90).
-/
namespace Sys2Proof.Machine

/-! ## A step begins (R75, R78) -/

/-- From `s` to `t` start step `n` of lane `l` has begun. -/
structure StepBegun (s : State) (l : Lane) (n : Nat) (t : State) : Prop where
  phase : (t.run l).phase = .starting n
  stepAt : (t.run l).start.stepAt = s.now
  clk : (t.run l).clk = (s.run l).clk
  now : t.now = s.now
  step : t.rd (laneDie l) R.CFG_START_STATUS.STEP = n
  others : ∀ (d : Die) (f : Fld) (i j : Nat), R.CFG_START_STATUS.STEP.apart f = true → t.rd d f i j = s.rd d f i j

/-- The lane's phase, the instant and the number of the step as it begins. -/
def State.stepMarked (s : State) (l : Lane) (n : Nat) : State :=
  ((s.setPhase l (.starting n)).modStart l fun x => { x with stepAt := s.now }).wr (laneDie l) R.CFG_START_STATUS.STEP n

theorem State.stepMarked_begun {s : State} (l : Lane) {n : Nat} (hs : s.regsOk = true) (hn : n < 20) :
    StepBegun s l n (s.stepMarked l n) := by
  have h1 : ((s.setPhase l (.starting n)).modStart l fun x => { x with stepAt := s.now }).regsOk = true := by
    simpa [State.modStart, State.setPhase] using hs
  have hlow : low R.CFG_START_STATUS.STEP.w n = n := low_of_lt (Nat.lt_of_lt_of_le hn (by decide))
  unfold State.stepMarked
  refine ⟨?_, ?_, ?_, ?_, (State.rd_wr_same _ _ _ _ _ _ h1).trans hlow, fun d f i j hf => ?_⟩
  · simp [State.modStart, State.setPhase]
  · simp [State.modStart]
  · simp [State.modStart, State.setPhase]
  · simp [State.modStart, State.setPhase]
  · rw [State.rd_wr_apart _ _ _ _ _ _ _ _ _ _ h1 hf]
    simp [State.modStart, State.setPhase]

/-- Every step but `ST02`, which opens the record, begins with no more than its entered marker. -/
theorem State.stepEnter_begun {s : State} (l : Lane) {n : Nat} (hs : s.regsOk = true) (hn : n < 20) (h2 : n ≠ 2) :
    StepBegun s l n (s.stepEnter l n) := by
  obtain ⟨hphase, hat, hclk, hnow, hstep, hothers⟩ := State.stepMarked_begun l hs hn
  show StepBegun s l n (if n < 2 then s.stepMarked l n else if n = 2 then (s.stepMarked l n).openRecord l
    else (s.stepMarked l n).modLamp l fun r => { r with entered := n })
  rw [if_neg h2]
  split
  · exact ⟨hphase, hat, hclk, hnow, hstep, hothers⟩
  · unfold State.modLamp
    exact ⟨by simpa using hphase, by simpa using hat, by simpa using hclk, by simpa using hnow, by simpa using hstep,
      fun d f i j hf => by simpa using hothers d f i j hf⟩

/-! ## A step ends (R78, R80) -/

/-- A failed mandatory step ends the start, but for one that failed three times before and that the lane can do without. -/
def State.stepFatal (s : State) (l : Lane) (n code : Nat) : Prop :=
  ocFails code = true ∧ stepMandatory n = true ∧ (stepExempt n = true ∨ s.failCount l n ≠ 3)

/-- A step's outcome in the lamp board. -/
def State.stepNoted (s : State) (l : Lane) (n code : Nat) : State :=
  if n = 0 then s
  else if n = 1 then
    (if ocFails code then ((s.openRecord l).modLamp l fun r => { r with entered := 1 }).lampOutcome l 1 code else s)
  else s.lampOutcome l n code

theorem State.stepEnd_of_fatal {s : State} {l : Lane} {n code : Nat} (h : s.stepFatal l n code) :
    s.stepEnd l n code = (false, if n = 6 ∧ 2 ≤ s.failCount l n then (s.stepNoted l n code).setPhase l .loader
      else (s.stepNoted l n code).startFails l) := by
  obtain ⟨hc, hm, he⟩ := h
  exact if_pos ⟨hc, hm, by rcases he with he | he <;> simp [he]⟩

theorem State.stepEnd_of_not_fatal {s : State} {l : Lane} {n code : Nat} (h : ¬ s.stepFatal l n code) :
    s.stepEnd l n code =
      (true, ((s.stepNoted l n code).setPhase l (if n = 19 then .running else .starting (n + 1))).stepAfter l n) := by
  refine if_neg fun ⟨hc, hm, he⟩ => h ⟨hc, hm, ?_⟩
  by_cases hx : stepExempt n = true
  · exact .inl hx
  · exact .inr (by simpa [hx] using he)

/-- A step ends without moving the clock. -/
theorem State.stepEnd_now (s : State) (l : Lane) (n code : Nat) : (s.stepEnd l n code).2.now = s.now :=
  ((State.stepEnd_within s l n code (msk := 4947802324991) (by decide) (Within.refl s)).h.now (by decide)).1

theorem State.stepEnd_regsOk {s : State} (l : Lane) (n code : Nat) (hs : s.regsOk = true) :
    (s.stepEnd l n code).2.regsOk = true :=
  (State.stepEnd_within s l n code (msk := 4947802324991) (by decide) (Within.refl s)).h.ok hs

/-- The lane whose start a step ends waits in reset, or in the loader after the third failure of `ST06`. -/
theorem State.stepEnd_phase_of_fatal {s : State} {l : Lane} {n code : Nat} (h : s.stepFatal l n code) :
    ((s.stepEnd l n code).2.run l).phase = if n = 6 ∧ 2 ≤ s.failCount l n then .loader else .held := by
  rw [State.stepEnd_of_fatal h]
  dsimp only
  split
  · rw [State.setPhase, State.modRun_run]
  · exact State.resetIsland_phase _ l .held

/-! ## The run through the steps -/

/-- A step that waits holds the run. -/
theorem runSteps_of_wait {l : Lane} {inp : StartInputs} {n : Nat} (k : Nat) (s : State)
    (h : inp.steps.getD n .pass = .wait) : runSteps l inp (k + 1) n s = s := by
  have hrun : s.stepRun l inp n = (ocNone, s) := by
    unfold State.stepRun
    rw [h]
  unfold runSteps
  rw [hrun]
  rfl

/-- A step that passes hands over to the next one, which waits. -/
theorem runSteps_of_pass {l : Lane} {inp : StartInputs} {n code : Nat} (k : Nat) {s u : State}
    (hpass : inp.steps.getD n .pass = .pass) (hwait : inp.steps.getD (n + 1) .pass = .wait) (hn : n < 19)
    (hbody : s.stepBody l inp n = (code, u)) (hc : ocPasses code = true) (hg : ¬ u.stepFatal l n code) :
    runSteps l inp (k + 2) n s = (u.stepEnd l n code).2.stepEnter l (n + 1) := by
  have hrun : s.stepRun l inp n = (code, u) := by
    unfold State.stepRun
    rw [hpass]
    exact hbody
  have hcode : code ≠ ocNone := fun h => by
    rw [h] at hc
    exact absurd hc (by decide)
  have hgo : (u.stepEnd l n code).1 = true := congrArg Prod.fst (State.stepEnd_of_not_fatal hg)
  unfold runSteps
  rw [hrun]
  simp only [if_neg hcode, hgo, hn, and_self, if_true]
  exact runSteps_of_wait k _ hwait

/-- A step that passes ends no start. -/
theorem State.not_stepFatal_of_pass {s : State} {l : Lane} {n code : Nat} (hc : ocFails code = false) :
    ¬ s.stepFatal l n code := fun h => absurd (h.1.symm.trans hc) (by decide)

/-- A step ended from outside hands over to the next one, which waits. -/
theorem State.stepForced_of_wait {s : State} {l : Lane} {inp : StartInputs} {n code : Nat}
    (hwait : inp.steps.getD (n + 1) .pass = .wait) (hn : n < 19) (hg : ¬ s.stepFatal l n code) :
    s.stepForced l inp n code = (s.stepEnd l n code).2.stepEnter l (n + 1) := by
  have hgo : (s.stepEnd l n code).1 = true := congrArg Prod.fst (State.stepEnd_of_not_fatal hg)
  unfold State.stepForced
  simp only [hgo, hn, and_self, if_true]
  exact runSteps_of_wait 19 _ hwait

/-- A step ended from outside that ends the start. -/
theorem State.stepForced_of_fatal {s : State} {l : Lane} (inp : StartInputs) {n code : Nat} (hg : s.stepFatal l n code) :
    s.stepForced l inp n code = (s.stepEnd l n code).2 := by
  have hstop : (s.stepEnd l n code).1 = false := congrArg Prod.fst (State.stepEnd_of_fatal hg)
  unfold State.stepForced
  simp only [hstop, false_and, if_false, Bool.false_eq_true]

end Sys2Proof.Machine
end

section
/-!
PROOFS. The commands of the start (R75 to R78, R80).
-/
namespace Sys2Proof.Machine

/-! ## A lane starts (R75, R468) -/

theorem State.vrcStart_spares (s : State) (l : Lane) : Spares [R.PAP_RESET_CAUSE.OFF] s (s.vrcStart l) := by
  have hvrc : ∀ {x : State} (f : VrcSt → VrcSt), Spares [R.PAP_RESET_CAUSE.OFF] x (x.modVrc l f) := fun {x} f =>
    (State.modVrc_within x l f (msk := 137438953472) (by decide) (Within.refl x)).spares (by decide)
  unfold State.vrcStart State.setShed
  exact Spares.each (((((hvrc _).wr _ _ _ _ _ (by decide)).wr _ _ _ _ _ (by decide))).trans (hvrc _)) _
    fun x _ => (Spares.refl x).wr _ _ _ _ _ (by decide)

/-- `ST00` ends and `ST01` waits: the lane is in `ST01`. -/
theorem runSteps_to_st01 {s : State} {l : Lane} {inp : StartInputs} (hs : s.regsOk = true)
    (h0 : inp.steps.getD 0 .pass = .pass) (h1 : inp.steps.getD 1 .pass = .wait) :
    ∃ u, StepBegun u l 1 (runSteps l inp 20 0 (s.stepEnter l 0)) ∧ u.now = s.now ∧
      u.rd (papDie l) R.PAP_RESET_CAUSE.OFF = s.rd (papDie l) R.PAP_RESET_CAUSE.OFF := by
  have hbegun := State.stepEnter_begun l hs (n := 0) (by decide) (by decide)
  have hok : (s.stepEnter l 0).regsOk = true :=
    (State.stepEnter_within s l 0 (msk := 17179869186) (by decide) (Within.refl s)).ok hs
  generalize s.stepEnter l 0 = x at hbegun hok ⊢
  have hvrc := x.vrcStart_spares l
  have hnow : (x.vrcStart l).now = x.now :=
    ((State.vrcStart_within x l (msk := 137443147776) (by decide) (Within.refl x)).now (by decide)).1
  have hg : ¬ (x.vrcStart l).stepFatal l 0 ocPass := State.not_stepFatal_of_pass (by decide)
  rw [runSteps_of_pass 18 h0 h1 (by decide) rfl (by decide) hg, State.stepEnd_of_not_fatal hg]
  refine ⟨(x.vrcStart l).setPhase l (.starting 1), State.stepEnter_begun l ?_ (by decide) (by decide), ?_, ?_⟩
  · simpa [State.setPhase] using hvrc.ok hok
  · rw [State.setPhase, State.modRun_now, hnow, hbegun.now]
  · rw [State.setPhase, State.rd_modRun, hvrc.rd hok _ _ _ _ (by decide), hbegun.others _ _ _ _ (by decide)]

theorem exec_laneStart_held {s : State} {l : Lane} (inp : StartInputs) (hp : (s.run l).phase = .held)
    (hi : s.island l = true) : exec (.laneStart l inp) s = .next (runSteps l inp 20 0 (s.stepEnter l 0)) := by
  show execLaneStart l inp s = _
  unfold execLaneStart
  rw [hp]
  exact congrArg Host.Outcome.next (if_pos hi)

theorem exec_laneStart_off {s : State} {l : Lane} (inp : StartInputs) (hp : (s.run l).phase = .off) (hd : s.depOn = true)
    (hc : s.dep.startCmd = true) (hi : s.island l = true) : exec (.laneStart l inp) s =
      .next (runSteps l inp 20 0 ((s.set (papDie l) R.PAP_RESET_CAUSE.OFF).stepEnter l 0)) := by
  show execLaneStart l inp s = _
  unfold execLaneStart
  rw [hp]
  exact congrArg Host.Outcome.next (if_pos (by rw [hd, hc, hi]; rfl))

/-- A lane that is held or is told to start enters `ST00` and goes on to `ST01` (R75, R468). -/
theorem lane_start_reaches_st01 {s : State} {l : Lane} {inp : StartInputs} (hs : s.regsOk = true) (hi : s.island l = true)
    (hp : (s.run l).phase = .held ∨ ((s.run l).phase = .off ∧ s.depOn = true ∧ s.dep.startCmd = true))
    (h0 : inp.steps.getD 0 .pass = .pass) (h1 : inp.steps.getD 1 .pass = .wait) :
    leads (.laneStart l inp) s fun t => (t.run l).phase = .starting 1 ∧ t.rd (laneDie l) R.CFG_START_STATUS.STEP = 1 ∧
      (t.run l).start.stepAt = s.now ∧ t.now = s.now ∧
      ((s.run l).phase = .off → t.rd (papDie l) R.PAP_RESET_CAUSE.OFF = 1) := by
  rcases hp with hp | ⟨hp, hd, hc⟩
  · refine leads_of_exec (exec_laneStart_held inp hp hi) ?_
    obtain ⟨u, hu, hnow, -⟩ := runSteps_to_st01 (s := s) (l := l) hs h0 h1
    exact ⟨hu.phase, hu.step, hu.stepAt.trans hnow, hu.now.trans hnow, fun h => absurd (hp.symm.trans h) (by decide)⟩
  · refine leads_of_exec (exec_laneStart_off inp hp hd hc hi) ?_
    obtain ⟨u, hu, hnow, hoff⟩ := runSteps_to_st01 (l := l) (State.wr_regsOk s (papDie l) R.PAP_RESET_CAUSE.OFF 1 0 0 hs) h0 h1
    refine ⟨hu.phase, hu.step, hu.stepAt.trans hnow, hu.now.trans hnow, fun _ => ?_⟩
    exact (hu.others _ _ _ _ (by decide)).trans (hoff.trans (State.rd_wr_same _ _ _ _ _ _ hs))

theorem exec_laneStart_starting {s : State} {l : Lane} (inp : StartInputs) {n : Nat} (hp : (s.run l).phase = .starting n) :
    exec (.laneStart l inp) s = .next (runSteps l inp 20 n s) := by
  show execLaneStart l inp s = _
  unfold execLaneStart
  rw [hp]

theorem passOr_passes (b : Bool) : ocPasses (passOr b) = true ∧ ocFails (passOr b) = false := by cases b <;> decide

/-- `ST03` starts lane time and hands over to `ST04` (R75, R98). -/
theorem st03_starts_lane_time {s : State} {l : Lane} {inp : StartInputs} (hs : s.regsOk = true)
    (hp : (s.run l).phase = .starting 3) (h3 : inp.steps.getD 3 .pass = .pass) (h4 : inp.steps.getD 4 .pass = .wait) :
    leads (.laneStart l inp) s fun t => (t.run l).phase = .starting 4 ∧ (t.run l).clk.t0 = some s.now ∧
      t.rd (laneDie l) R.CFG_START_STATUS.STEP = 4 ∧ t.now = s.now := by
  refine leads_of_exec (exec_laneStart_starting inp hp) ?_
  obtain ⟨hpass, hok⟩ := passOr_passes (match s.lampNow l with
    | some r => r.reduced
    | none => false)
  have hw := State.st03_within s l (msk := 2) (by decide) (Within.refl s)
  have hnow := (hw.h.now (by decide)).1
  have hg : ¬ (s.st03 l).2.stepFatal l 3 (s.st03 l).1 := State.not_stepFatal_of_pass hok
  rw [runSteps_of_pass 18 h3 h4 (by decide) (u := (s.st03 l).2) (code := (s.st03 l).1) rfl hpass hg]
  have hend := State.stepEnd_now (s.st03 l).2 l 3 (s.st03 l).1
  obtain ⟨hphase, -, hclk, hnow', hstep, -⟩ :=
    State.stepEnter_begun l (State.stepEnd_regsOk l 3 (s.st03 l).1 (hw.h.ok hs)) (n := 4) (by decide) (by decide)
  refine ⟨hphase, ?_, hstep, hnow'.trans (hend.trans hnow)⟩
  rw [hclk, State.stepEnd_of_not_fatal hg]
  simp [State.stepAfter, State.modClk, State.setPhase, State.stepNoted, State.lampOutcome, State.modLamp, hnow]

/-! ## A step that does not end within its bound (R75, R80, R168) -/

/-- The outcome of a step at its bound. -/
def State.lateCode (s : State) (l : Lane) (inp : StartInputs) (n : Nat) : Nat :=
  if n = 16 ∧ inp.steps.getD n .pass = .pass ∧ (s.st16 l inp).1 = ocNone then ocCheck else ocTimeout

theorem State.lateCode_fails (s : State) (l : Lane) (inp : StartInputs) (n : Nat) : ocFails (s.lateCode l inp n) = true := by
  unfold State.lateCode
  split <;> decide

theorem exec_startStepTimeout {s : State} {l : Lane} (inp : StartInputs) {n : Nat} (hp : (s.run l).phase = .starting n)
    (h15 : n ≠ 15 ∨ (s.run l).link.stateSeen = true) : exec (.startStepTimeout l inp) s =
      .next ((s.advTo (s.stepLimit l n)).stepForced l inp n (s.lateCode l inp n)) := by
  show execStartStepTimeout l inp s = _
  unfold execStartStepTimeout
  rw [hp]
  refine congrArg Host.Outcome.next (if_neg fun ⟨hn, hseen⟩ => ?_)
  rcases h15 with h15 | h15
  · exact h15 hn
  · exact absurd (h15.symm.trans hseen) (by decide)

theorem State.failCount_advTo (s : State) (x : Nat) (l : Lane) (n : Nat) : (s.advTo x).failCount l n = s.failCount l n := by
  simp only [State.failCount, State.advTo_nv]

/-- At its bound a mandatory step ends the start (R75, R80). -/
theorem timeout_ends_start {s : State} {l : Lane} (inp : StartInputs) {n : Nat} (hp : (s.run l).phase = .starting n)
    (hm : stepMandatory n = true) (he : stepExempt n = true ∨ s.failCount l n ≠ 3)
    (h15 : n ≠ 15 ∨ (s.run l).link.stateSeen = true) : leads (.startStepTimeout l inp) s fun t =>
      (t.run l).phase = (if n = 6 ∧ 2 ≤ s.failCount l n then .loader else .held) ∧ t.now = max s.now (s.stepLimit l n) := by
  refine leads_of_exec (exec_startStepTimeout inp hp h15) ?_
  have hg : (s.advTo (s.stepLimit l n)).stepFatal l n (s.lateCode l inp n) :=
    ⟨s.lateCode_fails l inp n, hm, by rwa [State.failCount_advTo]⟩
  rw [State.stepForced_of_fatal inp hg]
  refine ⟨?_, State.stepEnd_now ..⟩
  rw [State.stepEnd_phase_of_fatal hg, State.failCount_advTo]

/-- At its bound a step that may fail lets the start go on (R75, R80). -/
theorem timeout_goes_on {s : State} {l : Lane} {inp : StartInputs} {n : Nat} (hs : s.regsOk = true)
    (hp : (s.run l).phase = .starting n) (hn : n < 19)
    (hm : stepMandatory n = false ∨ stepExempt n = false ∧ s.failCount l n = 3)
    (h15 : n ≠ 15 ∨ (s.run l).link.stateSeen = true) (hw : inp.steps.getD (n + 1) .pass = .wait) :
    leads (.startStepTimeout l inp) s fun t => (t.run l).phase = .starting (n + 1) ∧
      t.rd (laneDie l) R.CFG_START_STATUS.STEP = n + 1 ∧ t.now = max s.now (s.stepLimit l n) := by
  refine leads_of_exec (exec_startStepTimeout inp hp h15) ?_
  have h1 : n + 1 ≠ 2 := fun h => by
    obtain rfl : n = 1 := by omega
    exact absurd hm (by simp [stepMandatory, stepExempt])
  have hg : ¬ (s.advTo (s.stepLimit l n)).stepFatal l n (s.lateCode l inp n) := fun ⟨_, hm', he⟩ => by
    rw [State.failCount_advTo] at he
    rcases hm with hm | ⟨hx, h3⟩
    · exact absurd (hm'.symm.trans hm) (by decide)
    · exact he.elim (fun he => absurd (he.symm.trans hx) (by decide)) fun he => he h3
  rw [State.stepForced_of_wait hw hn hg]
  have hok := State.stepEnd_regsOk l n (s.lateCode l inp n) ((State.regsOk_advTo s (s.stepLimit l n)).trans hs)
  have h := State.stepEnter_begun l hok (n := n + 1) (by omega) h1
  exact ⟨h.phase, h.step, h.now.trans (State.stepEnd_now ..)⟩

/-- An `ST15` without the partner's answer waits on (R77). -/
theorem timeout_st15_waits {s : State} {l : Lane} (inp : StartInputs) (hp : (s.run l).phase = .starting 15)
    (h : (s.run l).link.stateSeen = false) : leads (.startStepTimeout l inp) s fun t => t = s := by
  refine leads_of_exec (t := s) ?_ rfl
  show execStartStepTimeout l inp s = _
  unfold execStartStepTimeout
  rw [hp]
  exact congrArg Host.Outcome.next (if_pos ⟨rfl, h⟩)

/-! ## The waits of `ST15` and `ST18` (R75, R77) -/

/-- `ST15` or `ST18` skipped: the start goes on with the next step, and no other field is written. -/
theorem State.stepForced_skipped {s : State} {l : Lane} {inp : StartInputs} {n : Nat} (hs : s.regsOk = true)
    (hn : n = 15 ∨ n = 18) (hw : inp.steps.getD (n + 1) .pass = .wait) :
    ∃ u, StepBegun u l (n + 1) (s.stepForced l inp n ocSkipped) ∧ u.now = s.now ∧
      ∀ d f i j, u.rd d f i j = s.rd d f i j := by
  have hg : ¬ s.stepFatal l n ocSkipped := State.not_stepFatal_of_pass (by decide)
  rw [State.stepForced_of_wait hw (by omega) hg]
  refine ⟨_, State.stepEnter_begun l (State.stepEnd_regsOk l n ocSkipped hs) (by omega) (by omega),
    State.stepEnd_now .., fun d f i j => ?_⟩
  rw [State.stepEnd_of_not_fatal hg]
  rcases hn with rfl | rfl <;>
    simp [State.stepAfter, State.setPhase, State.stepNoted, State.lampOutcome, State.modLamp]

/-- The partner has stayed silent: the wait of `ST15` ends at its own instant (R75, R77). -/
theorem partner_wait_expires {s : State} {l : Lane} {inp : StartInputs} (hs : s.regsOk = true)
    (hp : (s.run l).phase = .starting 15) (h : (s.run l).link.stateSeen = false) (hw : inp.steps.getD 16 .pass = .wait) :
    leads (.partnerWaitExpiry l inp) s fun t => (t.run l).phase = .starting 16 ∧
      t.rd (laneDie l) R.CFG_START_STATUS.PARTNER_ABSENT = 1 ∧ t.rd (laneDie l) R.CFG_START_STATUS.STEP = 16 ∧
      t.now = max s.now ((s.run l).start.stepAt + (match (s.run l).start.container with
        | some c => c.partnerWait
        | none => 1) * 10 * ms) := by
  have hexec : exec (.partnerWaitExpiry l inp) s = .next (((s.advTo ((s.run l).start.stepAt +
      (match (s.run l).start.container with
        | some c => c.partnerWait
        | none => 1) * 10 * ms)).set (laneDie l) R.CFG_START_STATUS.PARTNER_ABSENT).stepForced l inp 15 ocSkipped) := by
    show execPartnerWaitExpiry l inp s = _
    unfold execPartnerWaitExpiry
    rw [hp]
    exact congrArg Host.Outcome.next (if_neg (by rw [h]; decide))
  refine leads_of_exec hexec ?_
  have hadv := State.regsOk_advTo s ((s.run l).start.stepAt + (match (s.run l).start.container with
        | some c => c.partnerWait
        | none => 1) * 10 * ms)
  obtain ⟨u, hu, hnow, hrd⟩ := State.stepForced_skipped (l := l) (n := 15)
    (State.wr_regsOk _ (laneDie l) R.CFG_START_STATUS.PARTNER_ABSENT 1 0 0 (hadv.trans hs)) (.inl rfl) hw
  exact ⟨hu.phase, (hu.others _ _ _ _ (by decide)).trans ((hrd _ _ _ _).trans
    (State.rd_wr_same _ _ _ _ _ _ (hadv.trans hs))), hu.step, hu.now.trans hnow⟩

/-- No time has come: the wait of `ST18` ends at its own instant (R75). -/
theorem time_wait_expires {s : State} {l : Lane} {inp : StartInputs} (hs : s.regsOk = true)
    (hp : (s.run l).phase = .starting 18) (hw : inp.steps.getD 19 .pass = .wait) :
    leads (.timeWaitExpiry l inp) s fun t => (t.run l).phase = .starting 19 ∧
      t.rd (laneDie l) R.CFG_START_STATUS.TIME_UNKNOWN = 1 ∧
      t.now = max s.now ((s.run l).start.stepAt + s.timeWait l * 10 * ms) := by
  have hexec : exec (.timeWaitExpiry l inp) s = .next (((s.advTo ((s.run l).start.stepAt + s.timeWait l * 10 * ms)).set
      (laneDie l) R.CFG_START_STATUS.TIME_UNKNOWN).stepForced l inp 18 ocSkipped) := by
    show execTimeWaitExpiry l inp s = _
    unfold execTimeWaitExpiry
    rw [hp]
    rfl
  refine leads_of_exec hexec ?_
  have hadv := (State.regsOk_advTo s ((s.run l).start.stepAt + s.timeWait l * 10 * ms)).trans hs
  obtain ⟨u, hu, hnow, hrd⟩ := State.stepForced_skipped (l := l) (n := 18)
    (State.wr_regsOk _ (laneDie l) R.CFG_START_STATUS.TIME_UNKNOWN 1 0 0 hadv) (.inr rfl) hw
  exact ⟨hu.phase, (hu.others _ _ _ _ (by decide)).trans ((hrd _ _ _ _).trans
    (State.rd_wr_same _ _ _ _ _ _ hadv)), hu.now.trans hnow⟩

end Sys2Proof.Machine
end

section
/-!
PROOFS. The requests of firmware during and after a start (R67, R90), the loader (R82), and what the commands of the start
come to together.
-/
namespace Sys2Proof.Machine

/-! ## Requests of firmware (R67, R90) -/

theorem State.lampNow_modLamp {s : State} {l : Lane} {r : LampRecord} (f : LampRecord → LampRecord)
    (h : s.lampNow l = some r) : (s.modLamp l f).lampNow l = some (f r) := by
  unfold State.lampNow at h ⊢
  unfold State.modLamp
  rw [State.modNv_nv, h]
  exact List.getLast?_concat

theorem bootNext_slot_low : ∀ slot : Fin 4,
    low R.CFG_BOOT_NEXT.SLOT.w (if slot.val = 3 then 0 else slot.val) = if slot = 3 then 0 else slot.val := by decide

/-- A boot-next request goes into this start's record (R90). -/
theorem boot_next_recorded {s : State} {l : Lane} {slot : Fin 4} {r : LampRecord} (hs : s.regsOk = true)
    (hw : s.writable l = true) (hr : s.lampNow l = some r) (hseq : r.seq = s.rd (laneDie l) R.CFG_LAMP_SEQ.SEQ)
    (hlen : r.bootNext.length < 8) :
    leads (.bootNext l slot) s fun t => (t.lampNow l).map LampRecord.bootNext = some (r.bootNext ++ [bootNextByte slot]) ∧
      t.rd (laneDie l) R.CFG_BOOT_NEXT.SLOT = (if slot = 3 then 0 else slot.val) ∧ t.now = s.now := by
  let noted := s.modLamp l fun r => { r with bootNext := r.bootNext ++ [bootNextByte slot] }
  let v := if slot.val = 3 then 0 else slot.val
  have hexec : exec (.bootNext l slot) s = .next (noted.wr (laneDie l) R.CFG_BOOT_NEXT.SLOT v) := by
    show execBootNext l slot s = _
    unfold execBootNext State.bootNext
    rw [hw, hr]
    exact congrArg Host.Outcome.next (if_pos (And.intro hseq hlen))
  have hok : noted.regsOk = true := (State.regsOk_modNv ..).trans hs
  have hv : low R.CFG_BOOT_NEXT.SLOT.w v = if slot = 3 then 0 else slot.val := bootNext_slot_low slot
  refine leads_of_exec hexec ⟨?_, (State.rd_wr_same _ _ _ _ _ _ hok).trans hv, State.modNv_now ..⟩
  show (noted.lampNow l).map _ = _
  rw [State.lampNow_modLamp _ hr]
  rfl

/-- A key may be revoked: by its key word, not that of the running image, and while another stays usable (R67). -/
def State.mayRevoke (s : State) (l : Lane) (slot : Fin 4) (key : Nat) : Prop :=
  key = 0x5EA1 ∧ (s.run l).start.imageKeySlot ≠ slot.val ∧
    ((List.range 4).any fun k => k != slot.val && bit (s.nv l).keyProg k && !bit (s.nv l).keyRevoked k) = true

theorem exec_keyRevoke_done {s : State} {l : Lane} {slot : Fin 4} {key : Nat} (hw : s.writable l = true)
    (h : s.mayRevoke l slot key) : exec (.keyRevoke l slot key) s =
      .next ((s.modNv l fun n => { n with keyRevoked := setBit n.keyRevoked slot.val }).set (laneDie l)
        R.CFG_KEY_STATUS.REVOKE_DONE) := by
  show execKeyRevoke l slot key s = _
  unfold execKeyRevoke
  rw [hw]
  exact congrArg Host.Outcome.next (if_pos h)

theorem exec_keyRevoke_refused {s : State} {l : Lane} {slot : Fin 4} {key : Nat} (hw : s.writable l = true)
    (h : ¬ s.mayRevoke l slot key) :
    exec (.keyRevoke l slot key) s = .next (s.set (laneDie l) R.CFG_KEY_STATUS.REVOKE_ERR) := by
  show execKeyRevoke l slot key s = _
  unfold execKeyRevoke
  rw [hw]
  exact congrArg Host.Outcome.next (if_neg h)

/-- A key that may be revoked is, and any other request is an error (R67). -/
theorem key_revoked_or_refused {s : State} {l : Lane} {slot : Fin 4} {key : Nat} (hs : s.regsOk = true)
    (hw : s.writable l = true) : leads (.keyRevoke l slot key) s fun t =>
      (s.mayRevoke l slot key →
        bit (t.nv l).keyRevoked slot.val = true ∧ t.rd (laneDie l) R.CFG_KEY_STATUS.REVOKE_DONE = 1) ∧
      (¬ s.mayRevoke l slot key → t.nv l = s.nv l ∧ t.rd (laneDie l) R.CFG_KEY_STATUS.REVOKE_ERR = 1) := by
  by_cases h : s.mayRevoke l slot key
  · refine leads_of_exec (exec_keyRevoke_done hw h) ⟨fun _ => ⟨?_, ?_⟩, fun hn => absurd h hn⟩
    · rw [State.set_eq, State.wr_nv, State.modNv_nv]
      simp [bit_set_eq]
    · exact State.rd_wr_same _ _ _ _ _ _ ((State.regsOk_modNv ..).trans hs)
  · exact leads_of_exec (exec_keyRevoke_refused hw h) ⟨fun hn => absurd hn h,
      fun _ => ⟨State.wr_nv .., State.rd_wr_same _ _ _ _ _ _ hs⟩⟩

/-! ## The loader (R82) -/

/-- A lane's loader. -/
def State.loader (s : State) (l : Lane) : LoaderSt := (s.run l).start.loader

theorem State.modLoader_loader (s : State) (l : Lane) (f : LoaderSt → LoaderSt) :
    (s.modLoader l f).loader l = f (s.loader l) := by
  unfold State.loader State.modLoader State.modStart
  rw [State.modRun_run]

theorem State.modLoader_phase (s : State) (l : Lane) (f : LoaderSt → LoaderSt) :
    ((s.modLoader l f).run l).phase = (s.run l).phase := by
  unfold State.modLoader State.modStart
  rw [State.modRun_run]

/-- The ROM has answered a block with a status. -/
structure Answered (l : Lane) (block status : Nat) (t : State) : Prop where
  named : (t.loader l).answered = block
  closed : (t.loader l).opened = none
  status : (t.loader l).lastStatus = status

theorem State.loaderAnswer_loader (s : State) (l : Lane) (block status : Nat) (f : LoaderSt → LoaderSt) :
    (s.loaderAnswer l block status f).loader l =
      f { s.loader l with opened := none, pieces := [], lastStatus := status, answered := block } :=
  State.modLoader_loader ..

theorem State.loaderAnswer_answered (s : State) (l : Lane) (block status : Nat) :
    Answered l block status (s.loaderAnswer l block status id) := by
  constructor <;> rw [State.loaderAnswer_loader] <;> rfl

/-- The checks of a boot header read the registers and the key hashes alone. -/
theorem State.loaderHeadOk_modLoader (s : State) (l : Lane) (f : LoaderSt → LoaderSt) (h : BootImage) (m : LoaderMedia) :
    (s.modLoader l f).loaderHeadOk l h m = s.loaderHeadOk l h m := by
  have hregs : (s.modLoader l f).regs = s.regs := State.modRun_regs ..
  have hnv : (s.modLoader l f).nv l = s.nv l := State.modRun_nv ..
  unfold State.loaderHeadOk State.signedCheck State.keyOk State.keyHash State.rdBit State.rd
  rw [hregs, hnv]

/-- What the ROM answers for a block that stands (R82). -/
structure Stored (l : Lane) (block len : Nat) (m : LoaderMedia) (t : State) : Prop where
  named : (t.loader l).answered = block
  closed : (t.loader l).opened = none
  verdict : if m.programmed = false then (t.loader l).lastStatus = 4
    else if block < ceilDiv len 4096 then
      (t.loader l).lastStatus = 0 ∧ (t.loader l).expected = block + 1 ∧ (t.loader l).payload = len
    else if m.imageOk then (t.loader l).lastStatus = 5 ∧ (t.run l).phase = LanePhase.held
    else (t.loader l).lastStatus = 6 ∧ (t.loader l).expected = 0

theorem State.loaderStore_stored (s : State) (l : Lane) (block : Nat) (bs : List Nat) (len : Nat) (m : LoaderMedia) :
    Stored l block len m (s.loaderStore l block bs len m) := by
  unfold State.loaderStore
  dsimp only
  by_cases hp : m.programmed = false
  · rw [if_pos (by rw [hp]; rfl)]
    have h := State.loaderAnswer_answered (s.when (block == 0) fun s => s.norErase l (slotBase false) (slotBase true)) l block 4
    exact ⟨h.named, h.closed, by rw [if_pos hp]; exact h.status⟩
  rw [if_neg (by simpa using hp)]
  by_cases hb : block < ceilDiv len 4096
  · rw [if_pos hb]
    constructor <;> simp [State.loaderAnswer_loader, hp, hb]
  rw [if_neg hb]
  by_cases hi : m.imageOk = true
  · rw [if_pos hi]
    constructor <;> simp [State.loaderAnswer_loader, hp, hb, hi]
    exact (State.modLoader_phase ..).trans (State.resetIsland_phase ..)
  · rw [if_neg hi]
    constructor <;> simp [State.loaderAnswer_loader, hp, hb, hi]

/-- What the ROM answers for a block that has all its frames (R82). -/
structure Judged (s : State) (l : Lane) (block crc : Nat) (bs : List Nat) (m : LoaderMedia) (t : State) : Prop where
  named : (t.loader l).answered = block
  closed : (t.loader l).opened = none
  check : crc32c bs ≠ crc → (t.loader l).lastStatus = 1
  order : crc32c bs = crc → block ≠ (s.loader l).expected → (t.loader l).lastStatus = 2
  head : crc32c bs = crc → block = (s.loader l).expected → (block = 0 ∧ s.loaderHeadOk l (parseBoot bs []) m = false) →
    (t.loader l).lastStatus = 3
  stored : crc32c bs = crc → block = (s.loader l).expected → ¬ (block = 0 ∧ s.loaderHeadOk l (parseBoot bs []) m = false) →
    Stored l block (if block = 0 then (parseBoot bs []).length else (s.loader l).payload) m t

theorem State.loaderJudge_judged (s : State) (l : Lane) (block crc : Nat) (m : LoaderMedia) :
    Judged s l block crc (blockBytes (s.loader l).pieces) m (s.loaderJudge l block crc m) := by
  let bs := blockBytes (s.loader l).pieces
  show Judged s l block crc bs m (if crc32c bs ≠ crc then s.loaderAnswer l block 1 id
    else if block ≠ (s.loader l).expected then s.loaderAnswer l block 2 id
    else if block = 0 ∧ !s.loaderHeadOk l (parseBoot bs []) m then s.loaderAnswer l block 3 id
    else s.loaderStore l block bs (if block = 0 then (parseBoot bs []).length else (s.loader l).payload) m)
  have ha := s.loaderAnswer_answered l block
  by_cases hc : crc32c bs = crc
  · rw [if_neg (not_not_intro hc)]
    by_cases hb : block = (s.loader l).expected
    · rw [if_neg (not_not_intro hb)]
      by_cases hh : block = 0 ∧ s.loaderHeadOk l (parseBoot bs []) m = false
      · rw [if_pos (by simpa using hh)]
        exact ⟨(ha 3).named, (ha 3).closed, fun h => absurd hc h, fun _ h => absurd hb h, fun _ _ _ => (ha 3).status,
          fun _ _ h => absurd hh h⟩
      · rw [if_neg (by simpa using hh)]
        have h := s.loaderStore_stored l block bs (if block = 0 then (parseBoot bs []).length else (s.loader l).payload) m
        exact ⟨h.named, h.closed, fun h => absurd hc h, fun _ h => absurd hb h, fun _ _ h => absurd h hh, fun _ _ _ => h⟩
    · rw [if_pos hb]
      exact ⟨(ha 2).named, (ha 2).closed, fun h => absurd hc h, fun _ _ => (ha 2).status, fun _ h => absurd h hb,
        fun _ h => absurd h hb⟩
  · rw [if_pos hc]
    exact ⟨(ha 1).named, (ha 1).closed, fun _ => (ha 1).status, fun h => absurd h hc, fun h => absurd h hc,
      fun h => absurd h hc⟩

/-- A block opens, and one still open is discarded (R82). -/
theorem loader_block_opens {s : State} {l : Lane} (block crc : Nat) (hp : (s.run l).phase = .loader) :
    leads (.loaderBlockStart l block crc) s fun t => (t.loader l).opened = some (block % 65536, low 32 crc) ∧
      (t.loader l).pieces = [] ∧ (t.loader l).expected = (s.loader l).expected := by
  have hexec : exec (.loaderBlockStart l block crc) s =
      .next (s.modLoader l fun x => { x with opened := some (block % 65536, low 32 crc), pieces := [] }) := by
    show execLoaderBlockStart l block crc s = _
    unfold execLoaderBlockStart
    rw [hp]
    rfl
  refine leads_of_exec hexec ?_
  rw [State.modLoader_loader]
  exact ⟨rfl, rfl, rfl⟩

/-- The loader with one more piece of its block. -/
def State.withPiece (s : State) (l : Lane) (frame : Nat) (bytes : List Nat) : State :=
  s.modLoader l fun x => { x with pieces := putPiece frame bytes x.pieces }

theorem exec_loaderData {s : State} {l : Lane} {frame block crc : Nat} (bytes : List Nat) (media : LoaderMedia)
    (hp : (s.run l).phase = .loader) (ho : (s.loader l).opened = some (block, crc)) (hf : frame < 683) :
    exec (.loaderData l frame bytes media) s =
      .next (if (putPiece frame bytes (s.loader l).pieces).length = 683 then
        (s.withPiece l frame bytes).loaderJudge l block crc media else s.withPiece l frame bytes) := by
  have hpieces : ((s.withPiece l frame bytes).loader l).pieces = putPiece frame bytes (s.loader l).pieces :=
    congrArg LoaderSt.pieces (State.modLoader_loader ..)
  rw [← hpieces]
  show execLoaderData l frame bytes media s = _
  unfold execLoaderData
  rw [hp, show (s.run l).start.loader.opened = _ from ho]
  exact congrArg Host.Outcome.next (if_pos hf)

/-- The pieces of a block are kept until all have come, and the block is then judged (R82). -/
theorem loader_takes_piece {s : State} {l : Lane} {frame block crc : Nat} (bytes : List Nat) (media : LoaderMedia)
    (hp : (s.run l).phase = .loader) (ho : (s.loader l).opened = some (block, crc)) (hf : frame < 683) :
    leads (.loaderData l frame bytes media) s fun t =>
      ((putPiece frame bytes (s.loader l).pieces).length ≠ 683 →
        (t.loader l).pieces = putPiece frame bytes (s.loader l).pieces ∧ (t.loader l).opened = some (block, crc)) ∧
      ((putPiece frame bytes (s.loader l).pieces).length = 683 →
        Judged s l block crc (blockBytes (putPiece frame bytes (s.loader l).pieces)) media t) := by
  refine leads_of_exec (exec_loaderData bytes media hp ho hf) ?_
  have hload : (s.withPiece l frame bytes).loader l =
    { s.loader l with pieces := putPiece frame bytes (s.loader l).pieces } := State.modLoader_loader ..
  by_cases hn : (putPiece frame bytes (s.loader l).pieces).length = 683
  · rw [if_pos hn]
    obtain ⟨hblock, hclosed, hcrc, horder, hhead, hstored⟩ := (s.withPiece l frame bytes).loaderJudge_judged l block crc media
    have hok := fun h => s.loaderHeadOk_modLoader l (fun x => { x with pieces := putPiece frame bytes x.pieces }) h media
    change ∀ h, (s.withPiece l frame bytes).loaderHeadOk l h media = _ at hok
    rw [hload] at hcrc horder hhead hstored
    simp only [hok] at hhead hstored
    exact ⟨fun h => absurd hn h, fun _ => ⟨hblock, hclosed, hcrc, horder, hhead, hstored⟩⟩
  · rw [if_neg hn, hload]
    exact ⟨fun _ => ⟨rfl, ho⟩, fun h => absurd h hn⟩

/-! ## The commands of the start together -/

/-- Settles O51: one lemma per command of the start, of its waits, of the two requests and of the loader. -/
theorem lanesStartStepByStepAndLoad : Obligations.LanesStartStepByStepAndLoad := by
  unfold Obligations.LanesStartStepByStepAndLoad
  refine ⟨fun s l inp hs hi hp h0 h1 => lane_start_reaches_st01 (canonical_regs hs) hi hp h0 h1,
    fun s l inp hs hp h3 h4 => st03_starts_lane_time (canonical_regs hs) hp h3 h4,
    fun s l inp n hp hm he h15 => timeout_ends_start inp hp hm he h15,
    fun s l inp n hs hp hn hm h15 hw => timeout_goes_on (canonical_regs hs) hp hn hm h15 hw,
    fun s l inp hp h => timeout_st15_waits inp hp h,
    fun s l inp hs hp h hw => partner_wait_expires (canonical_regs hs) hp h hw,
    fun s l inp hs hp hw => time_wait_expires (canonical_regs hs) hp hw,
    fun s l slot r hs hw hr hseq hlen => boot_next_recorded (canonical_regs hs) hw hr hseq hlen,
    fun s l slot key hs hw => key_revoked_or_refused (canonical_regs hs) hw,
    fun s l block crc hp => loader_block_opens block crc hp, fun s l frame block crc bytes media hp ho hf => ?_⟩
  obtain ⟨u, hexec, hkeeps, hjudged⟩ := loader_takes_piece bytes media hp ho hf
  refine leads_of_exec hexec ⟨hkeeps, fun hn => ?_⟩
  obtain ⟨hblock, hclosed, hcrc, horder, hhead, hstored⟩ := hjudged hn
  refine ⟨hblock, hclosed, hcrc, horder, fun hc hb => ?_⟩
  dsimp only
  split
  · next hh => exact hhead hc hb hh
  · next hh => exact (hstored hc hb hh).verdict

end Sys2Proof.Machine
end

section
/-!
PROOFS. What a missed deadline writes in the tally stands, whatever the report of the miss at the Deputy leads to (R110, R336):
of the tally's registers that cascade writes the counters of refusals alone.
-/
namespace Sys2Proof.Machine

/-- The fields of the tally in which a missed deadline is recorded (R110). -/
def missFlds : List Fld :=
  [R.TAL_STATUS.MISS, R.TAL_STATUS.LAST_MISS_ID, R.TAL_STATUS.LAST_MISS_Q, R.TAL_MISS_CNT.COUNT]

section
variable {fs : List Fld} {s t u : State}

/-- A change that touches no register. -/
theorem Spares.of_regs (h : Spares fs s t) (hr : u.regs = t.regs) : Spares fs s u :=
  h.trans ⟨fun ht => by unfold State.regsOk at ht ⊢; rwa [hr], fun _ _ _ _ _ _ => by unfold State.rd; rw [hr]⟩

theorem Spares.modRun (h : Spares fs s t) (l : Lane) (f : LaneRun → LaneRun) : Spares fs s (t.modRun l f) :=
  h.of_regs (State.modRun_regs ..)

theorem Spares.modDep (h : Spares fs s t) (f : DepSt → DepSt) : Spares fs s (t.modDep f) := h.of_regs rfl

theorem Spares.irq (h : Spares fs s t) (l : Lane) (en : Fld) (i : Nat) : Spares fs s (t.irq l en i) :=
  h.of_regs (State.irqOf_regs ..)

/-- An operation that writes none of the blocks of the listed fields. -/
theorem Spares.within {m : Nat} (h : Spares fs s t) (w : Within m t u)
    (hf : ∀ f ∈ fs, f.inM (4294967295 - m % 4294967296) = true) : Spares fs s u := h.trans (w.spares hf)

end

/-! ## Entries of the event log and of the flight recorder -/

theorem State.log_spares (s : State) (l : Lane) (rule detail : Nat) : Spares missFlds s (s.log l rule detail) := by
  unfold State.log
  refine Spares.ite ?_ (Spares.refl s)
  unfold State.submit
  dsimp only
  split
  · exact (Spares.refl s).wr _ R.TAL_REFUSE_CNT.LATE _ _ _ (by decide)
  · exact (Spares.refl s).wr _ R.TAL_REFUSE_CNT.FULL _ _ _ (by decide)
  · dsimp only
    exact (Spares.refl s).modRun l _

theorem State.record_spares (s : State) (cls cause : Nat) (standby : Bool) (detail : Nat) :
    Spares missFlds s (s.record cls cause standby detail) := by
  unfold State.record
  lift_lets -useContext -merge -underBinder
  intro r s1 s2 s3 s4
  have h1 : Spares missFlds s s1 := (Spares.refl s).when _ fun x => (Spares.refl x).wr _ _ _ _ _ (by decide)
  have h2 : Spares missFlds s s2 := ((((((h1.wr _ _ _ _ _ (by decide)).wr _ _ _ _ _ (by decide)).wr _ _ _ _ _
    (by decide)).wr _ _ _ _ _ (by decide)).wr _ _ _ _ _ (by decide)).wr _ _ _ _ _ (by decide)).wr _ _ _ _ _ (by decide)
  have h3 : Spares missFlds s s3 := (h2.wr _ _ _ _ _ (by decide)).wr _ _ _ _ _ (by decide)
  have h4 : Spares missFlds s s4 := Spares.ite (h3.wr _ _ _ _ _ (by decide)) (h3.wr _ _ _ _ _ (by decide))
  exact h4.each _ fun x l => (Spares.refl x).when _ fun y => y.log_spares ..

/-! ## The ends of closing sequences and the safe stops -/

theorem State.seqEnd_spares (s : State) (l : Lane) (result : Nat) : Spares missFlds s (s.seqEnd l result) := by
  unfold State.seqEnd State.logIf
  dsimp only
  split
  · exact Spares.refl s
  · have h1 := ((Spares.refl (fs := missFlds) s).modRun l fun r => { r with nrg := { r.nrg with seq := none } }).within
      (State.discharge_within _ l false (msk := 0) (by decide) (Within.refl _)) (by decide)
    have h2 := (h1.wr (laneDie l) R.NRG_CTR_RESULT.BUSY 0 0 0 (by decide)).wr (laneDie l) R.NRG_CTR_RESULT.RESULT result 0 0
      (by decide)
    exact (h2.irq l R.NRG_CTRL.CTR_IRQ_EN 0).when _ fun x => x.log_spares ..

theorem State.stopControlled_spares (s : State) : Spares missFlds s s.stopControlled := by
  unfold State.stopControlled
  refine Spares.ite ?_ (Spares.refl s)
  have h1 := (((Spares.refl (fs := missFlds) s).wr .ds R.DSP_STATUS.SAFE_STOP 1 0 0 (by decide)).wr .ds R.DSP_SS_STATUS.FORM 1 0 0
    (by decide)).wr .ds R.DSP_SS_STATUS.RAMP_RUN 1 0 0 (by decide)
  have h2 := (h1.modDep fun d => { d with ssAt := s.now }).each lanes
    fun x l => (Spares.refl x).modRun l fun r => { r with sup := { r.sup with rampAt := some s.now } }
  have h3 := (h2.each lanes fun x l => x.seqEnd_spares l resSafeStop).within
    (State.openFuncs_within _ [soGeneral] (msk := 274880004096) (by decide) (Within.refl _)) (by decide)
  exact (h3.within (State.syncChs_within _ (msk := 2097152) (by decide) (Within.refl _)) (by decide)).within
    (State.syncImposed_within _ (msk := 2) (by decide) (Within.refl _)) (by decide)

theorem State.stopImmediate_spares (s : State) : Spares missFlds s s.stopImmediate := by
  unfold State.stopImmediate
  refine Spares.ite (Spares.refl s) ?_
  lift_lets -useContext -merge -underBinder
  intro s1 s2 s3 s4
  have h2 : Spares missFlds s s2 := ((((Spares.refl (fs := missFlds) s).wr _ _ _ _ _ (by decide)).wr _ _ _ _ _
    (by decide)).wr _ _ _ _ _ (by decide)).wr _ _ _ _ _ (by decide) |>.modDep _
  have h3 : Spares missFlds s s3 := (h2.each lanes fun x l => x.seqEnd_spares l resSafeStop).within
    (State.openFuncs_within _ _ (msk := 274880004096) (by decide) (Within.refl _)) (by decide)
  have h4 : Spares missFlds s s4 := h3.each _ fun x l => (Spares.refl x).within
    (State.clampCmd_within _ l (msk := 137441050624) (by decide) (Within.refl _)) (by decide)
  exact (h4.within (State.syncChs_within _ (msk := 2097152) (by decide) (Within.refl _)) (by decide)).within
    (State.syncImposed_within _ (msk := 2) (by decide) (Within.refl _)) (by decide)

/-! ## A declaration at the Deputy and the lanes' own records (R335, R336) -/

theorem State.outcome_spares (s : State) (c : FaultClass) : Spares missFlds s (s.outcome c) := by
  have rf := fun x : State => Spares.refl (fs := missFlds) x
  unfold State.outcome
  refine Spares.ite ?_ (Spares.ite ?_ (Spares.ite ?_ (rf s)))
  · exact Spares.ite (((rf s).wr _ _ _ _ _ (by decide)).trans (State.stopImmediate_spares _)) (rf s)
  · dsimp only
    have h1 := ((rf s).wr .ds R.DSP_OUTCOME.SINGLE 0 0 0 (by decide)).wr .ds R.DSP_OUTCOME.DEGRADED 0 0 0 (by decide)
    exact Spares.ite (((h1.wr _ _ _ _ _ (by decide)).wr _ _ _ _ _ (by decide)).trans (State.stopImmediate_spares _))
      ((h1.wr _ _ _ _ _ (by decide)).trans (State.stopControlled_spares _))
  · exact (Spares.ite (rf s) (((rf s).wr _ _ _ _ _ (by decide)).wr _ _ _ _ _ (by decide))).within
      (State.startDegraded_within _ c (msk := 274880004098) (by decide) (Within.refl _)) (by decide)

theorem State.ownRecord_spares (s : State) (k : Lane) (c : FaultClass) (cause : Nat) :
    Spares missFlds s (s.ownRecord k c cause) := by
  unfold State.ownRecord
  exact Spares.ite ((((Spares.refl s).modRun k _).trans (State.log_spares ..)).within
    (State.laneOutcome_within _ k (msk := 2) (by decide) (Within.refl _)) (by decide)) (Spares.refl s)

theorem State.ownLaneLoss_spares (s : State) (l : Lane) (cause : Nat) : Spares missFlds s (s.ownLaneLoss l cause) := by
  unfold State.ownLaneLoss
  dsimp only
  have h1 := (((Spares.refl (fs := missFlds) s).within
    (State.windingsOff_within _ l (msk := 137443147776) (by decide) (Within.refl _)) (by decide)).wr (laneDie l.other)
    R.LNK_STATUS.PARTNER_LOST 1 0 0 (by decide)).trans (State.ownRecord_spares _ l.other (lossOf l) cause)
  exact Spares.ite (Spares.ite (h1.within
    (State.setRole_within _ l.other roleHot (msk := 2101248) (by decide) (Within.refl _)) (by decide)) h1) (Spares.refl s)

theorem State.ownRecords_spares (s : State) (cs : List (FaultClass × Nat)) : Spares missFlds s (s.ownRecords cs) :=
  (Spares.refl s).each cs fun x c => by
    split
    · exact Spares.ite (x.ownLaneLoss_spares ..) (Spares.refl x)
    · exact Spares.refl x

theorem State.grantLogic_spares (s : State) : Spares missFlds s s.grantLogic := by
  have elig : ∀ {x : State}, Spares missFlds s x → Spares missFlds s x.syncElig := fun h =>
    h.within (State.syncElig_within _ (msk := 2097152) (by decide) (Within.refl _)) (by decide)
  have h0 := elig (Spares.refl s)
  unfold State.grantLogic
  dsimp only
  refine Spares.ite ?_ h0
  split
  · exact Spares.ite h0 (elig (((h0.within (State.removeGrant_within _ _ (msk := 343599485058) (by decide) (Within.refl _))
      (by decide)).within (State.causeOf_within _ _ 1 (msk := 2097152) (by decide) (Within.refl _)) (by decide)).trans
      (State.record_spares ..)))
  · have hgive : ∀ y, Spares missFlds s ((s.syncElig.giveGrant y).returns).syncElig := fun y =>
      elig ((h0.within (State.giveGrant_within _ y (msk := 274880008322) (by decide) (Within.refl _)) (by decide)).within
        (State.returns_within _ (msk := 2101248) (by decide) (Within.refl _)) (by decide))
    exact Spares.ite (Spares.ite (hgive _) (Spares.ite (hgive _) h0)) h0

theorem State.declareAll_spares (s : State) (cs : List (FaultClass × Nat)) : Spares missFlds s (s.declareAll cs) := by
  have rf := fun x : State => Spares.refl (fs := missFlds) x
  have master : ∀ {x : State}, Spares missFlds s x → Spares missFlds s x.syncMaster := fun h =>
    h.within (State.syncMaster_within _ (msk := 2) (by decide) (Within.refl _)) (by decide)
  unfold State.declareAll
  refine Spares.ite ?_ (master (s.ownRecords_spares cs))
  lift_lets -useContext -merge -underBinder
  intro fresh
  clear_value fresh
  split
  · exact rf s
  · next _ c0 rest =>
    lift_lets -useContext -merge -underBinder
    intro same ran s1 s2 s3 s3' s4 s5
    have h1 : Spares missFlds s s1 := (rf s).each _ fun x c => (rf x).wr _ _ _ _ _ (by decide)
    have h2 : Spares missFlds s s2 := h1.each _ fun x c => by
      split
      · exact rf x
      · exact (Spares.ite ((rf x).within (State.laneLost_within _ _ (msk := 515402372226) (by decide) (Within.refl _))
          (by decide)) (rf x)).within (State.causeOf_within _ _ c.2 (msk := 2097152) (by decide) (Within.refl _)) (by decide)
    have h3 : Spares missFlds s s3 := (h2.trans (State.outcome_spares _ c0.1)).modDep _
    have h4 : Spares missFlds s s4 := Spares.ite ((h3.modDep _).within
      (State.pairDirect_within _ s.dep.declRecs (msk := 2097154) (by decide) (Within.refl _)) (by decide)) (h3.modDep _)
    have h5 : Spares missFlds s s5 := h4.each _ fun x c => x.record_spares ..
    have h6 := (((h5.trans (State.ownRecords_spares _ (c0 :: rest))).within
      (State.returns_within _ (msk := 2101248) (by decide) (Within.refl _)) (by decide)).within
      (State.syncLost_within _ (msk := 0) (by decide) (Within.refl _)) (by decide)).within
      (State.syncChs_within _ (msk := 2097152) (by decide) (Within.refl _)) (by decide)
    exact master (h6.trans (State.grantLogic_spares _))

theorem State.windowMiss_spares (s : State) (l : Lane) : Spares missFlds s (s.windowMiss l) :=
  Spares.ite (((Spares.refl s).wr _ _ _ _ _ (by decide)).trans (State.declareAll_spares ..)) (Spares.refl s)

/-- The report of a missed deadline at the Deputy leaves the lane's own record of it alone. -/
theorem State.tallyMiss_spares (s : State) (l : Lane) (q : Nat) : Spares missFlds s (s.tallyMiss l q) := by
  unfold State.tallyMiss
  refine Spares.ite ?_ (Spares.refl s)
  lift_lets -useContext -merge -underBinder
  intro stby recent s1 s2
  have h1 : Spares missFlds s s1 := ((((Spares.refl (fs := missFlds) s).wr _ _ _ _ _ (by decide)).wr _ _ _ _ _
    (by decide)).wr _ _ _ _ _ (by decide)).wr _ _ _ _ _ (by decide) |>.within
    (State.causeOf_within _ l 6 (msk := 2097152) (by decide) (Within.refl _)) (by decide)
  have hdep : Spares missFlds s (s1.modDepLane l fun x => { x with missAt := s.now :: recent }) := h1.modDep _
  have h2 : Spares missFlds s s2 := hdep.trans (State.record_spares ..)
  exact Spares.ite (h2.trans (State.windowMiss_spares ..)) h2

end Sys2Proof.Machine
end

section
/-!
PROOFS. The tally's own operations: what posting an outcome does to the ring, to the entry and to the counters (R103, R109), and
what a command does that ends an entry by it (R106, R107, R111, R112).
-/
namespace Sys2Proof.Machine

/-! ## A lane's tally through the state's operations -/

theorem State.tal_modTal (s : State) (l : Lane) (f : Tally → Tally) : (s.modTal l f).tal l = f (s.tal l) := by
  unfold State.tal State.modTal
  rw [State.modRun_run]

theorem State.tal_wr (s : State) (d : Die) (f : Fld) (v i j : Nat) (l : Lane) : (s.wr d f v i j).tal l = s.tal l :=
  congrArg LaneRun.tal (State.wr_run ..)

theorem State.tal_advTo (s : State) (x : Nat) (l : Lane) : (s.advTo x).tal l = s.tal l :=
  congrArg LaneRun.tal (State.advTo_run ..)

theorem State.tal_irq (s : State) (l m : Lane) (en : Fld) (i : Nat) : (s.irq l en i).tal m = s.tal m := by
  unfold State.irq State.irqOf State.tal
  split
  · rw [State.run_modRun]
    split
    · next h => rw [h]
    · rfl
  · rfl

theorem Tally.find_id {t : Tally} {id : Nat} {e : TalEntry} (h : t.find id = some e) : e.id = id := by
  simpa using List.find?_some h

theorem Tally.find_eq_none {t : Tally} {id : Nat} (h : id ∉ t.entries.map TalEntry.id) : t.find id = none := by
  refine List.find?_eq_none.2 fun e he hid => h ?_
  rw [← beq_iff_eq.1 hid]
  exact List.mem_map_of_mem he

/-- A change of an entry's state that keeps its identifier. -/
theorem State.find_setEnt {s : State} {l : Lane} {id : Nat} {e : TalEntry} {f : TalEntry → TalEntry}
    (hf : ∀ x, (f x).id = x.id) (h : (s.tal l).find id = some e) : ((s.setEnt l id f).tal l).find id = some (f e) := by
  have hp : ((fun x : TalEntry => x.id == id) ∘ fun x => if x.id == id then f x else x) = fun x => x.id == id := by
    funext x
    simp only [Function.comp_apply]
    split
    · rw [hf]
    · rfl
  unfold State.setEnt
  rw [State.tal_modTal]
  unfold Tally.find at h ⊢
  rw [List.find?_map, hp, h]
  exact congrArg some (if_pos (List.find?_some h))

/-! ## An outcome is posted (R103, R106, R109) -/

/-- The record of an outcome (R103). -/
def State.outRec (s : State) (l : Lane) (e : TalEntry) (code : OutcomeCode) : OutRec :=
  ⟨e.id, e.queue, code.code, decide (e.deadline < s.laneTime l), e.who, low 32 (s.laneTime l)⟩

/-- From `s` to `t` an outcome of entry `e` has been posted, to a ring that was not full. -/
structure Posted (s : State) (l : Lane) (e : TalEntry) (code : OutcomeCode) (t : State) : Prop where
  ring : (t.tal l).ring = (s.tal l).ring ++ [s.outRec l e code]
  freed : (t.tal l).find e.id = none
  done : code = .done → rose s t (laneDie l) R.TAL_Qq_STAT.DONE e.queue
  failed : code ≠ .done → rose s t (laneDie l) R.TAL_Qq_STAT.FAIL_DROP e.queue

/-- The queue's next entry is taken up under its own identifier. -/
theorem takeUpNext_ids (now : Nat) (e : TalEntry) (es : List TalEntry) :
    (takeUpNext now e es).map TalEntry.id = es.map TalEntry.id := by
  induction es with
  | nil => rfl
  | cons x r ih =>
    unfold takeUpNext
    split
    · rfl
    · exact congrArg (x.id :: ·) ih

theorem rose_inc {s : State} (d : Die) (f : Fld) (i j : Nat) (hs : s.regsOk = true) : rose s (s.inc d f i j) d f i j :=
  (State.rd_wr_same _ _ _ _ _ _ hs).trans (low_satAdd ..)

/-- A tally with one more outcome, whose entry it has freed. -/
structure TookOutcome (t : Tally) (r : OutRec) (v : Tally) : Prop where
  ring : v.ring = t.ring ++ [r]
  freed : r.id ∉ v.entries.map TalEntry.id

/-- The tally after an outcome is posted: the registers and the interrupt that follow leave it alone. -/
theorem State.post_tal {s : State} {l : Lane} {e : TalEntry} (code : OutcomeCode) (hr : (s.tal l).ring.length < 128) :
    TookOutcome (s.tal l) (s.outRec l e code) ((s.post l e code).tal l) := by
  have htal : ∀ {x : State} (c : Bool) (f : State → State), (f x).tal l = x.tal l → (x.when c f).tal l = x.tal l :=
    fun c f h => by
      unfold State.when
      split
      · exact h
      · rfl
  have hfree : e.id ∉ ((s.tal l).entries.filter fun x => x.id != e.id).map TalEntry.id := fun h => by
    obtain ⟨x, hx, hid⟩ := List.mem_map.1 h
    have := (List.mem_filter.1 hx).2
    simp [hid] at this
  unfold State.post
  lift_lets -useContext -merge -underBinder
  intro d now q t snap oldest since service late rec1 overflow rest s1 s2 s3 s4
  have hover : overflow = false := decide_eq_false (Nat.not_le.2 hr)
  have h2 : s2.tal l = s1.tal l := htal _ _ (State.tal_wr ..)
  have h3 : s3.tal l = s1.tal l := by
    unfold s3
    split <;> exact (State.tal_wr ..).trans h2
  have h4 : s4.tal l = s1.tal l := (htal _ _ (State.tal_wr ..)).trans h3
  have h5 : (s4.when (decide (orOne (s4.rd d R.TAL_CTRL.OUT_IRQ_LEVEL) ≤ (s4.tal l).ring.length)) fun s =>
      s.irq l R.TAL_CTRL.OUT_IRQ_EN).tal l = s1.tal l := (htal _ _ (State.tal_irq ..)).trans h4
  rw [h5, State.tal_modTal, hover]
  refine ⟨rfl, ?_⟩
  dsimp only
  split
  · rwa [takeUpNext_ids]
  · exact hfree

/-- The counters of outcomes as one is posted. -/
theorem State.post_counts {s : State} (l : Lane) (e : TalEntry) (code : OutcomeCode) (hs : s.regsOk = true) :
    rose s (s.post l e code) (laneDie l) (if code = .done then R.TAL_Qq_STAT.DONE else R.TAL_Qq_STAT.FAIL_DROP) e.queue := by
  unfold State.post
  lift_lets -useContext -merge -underBinder
  intro d now q t snap oldest since service late rec1 overflow rest s1 s2 s3 s4
  let fs := [R.TAL_Qq_STAT.DONE, R.TAL_Qq_STAT.FAIL_DROP]
  let g := if code = .done then R.TAL_Qq_STAT.DONE else R.TAL_Qq_STAT.FAIL_DROP
  have hg : g ∈ fs := by
    unfold g
    split <;> decide
  have h2 : Spares fs s s2 := ((Spares.refl s).modRun l _).when _ fun x => (Spares.refl x).wr _ _ _ _ _ (by decide)
  have h3 : s3 = s2.inc d g q := by
    unfold s3 g
    split <;> rfl
  have h5 : Spares fs s3 (s4.when (decide (orOne (s4.rd d R.TAL_CTRL.OUT_IRQ_LEVEL) ≤ (s4.tal l).ring.length)) fun s =>
      s.irq l R.TAL_CTRL.OUT_IRQ_EN) :=
    ((Spares.refl s3).when _ fun x => (Spares.refl x).wr _ _ _ _ _ (by decide)).when _ fun x => (Spares.refl x).irq l _ 0
  have hok : s2.regsOk = true := h2.ok hs
  have hrose : rose s2 s3 d g q := h3 ▸ rose_inc d g q 0 hok
  have hok3 : s3.regsOk = true := h3 ▸ State.wr_regsOk _ _ _ _ _ _ hok
  exact (h5.rd hok3 _ _ _ _ hg).trans (rose_of_eq hrose (h2.rd hs _ _ _ _ hg))

theorem State.post_posted {s : State} {l : Lane} {e : TalEntry} (code : OutcomeCode) (hs : s.regsOk = true)
    (hr : (s.tal l).ring.length < 128) : Posted s l e code (s.post l e code) := by
  obtain ⟨hring, hfree⟩ := State.post_tal (e := e) code hr
  have hcount := State.post_counts l e code hs
  refine ⟨hring, Tally.find_eq_none hfree, fun h => ?_, fun h => ?_⟩
  · rwa [if_pos h] at hcount
  · rwa [if_neg h] at hcount

/-- The outcome of an entry that no block waits for means no more than its record. -/
theorem State.postJob_of_plain (s : State) (l : Lane) {e : TalEntry} (code : OutcomeCode) (h : e.job = .plain) :
    s.postJob l e code = s.post l e code := by
  unfold State.postJob State.postNet
  rw [h]

/-! ## The commands that end an entry -/

theorem exec_tallyOutcome {s : State} {l : Lane} {id : Fin 64} {e : TalEntry} {code : OutcomeCode} (hl : s.alive l = true)
    (hf : (s.tal l).find id = some e) (ho : ownEnd e = false) (hw : e.st ≠ .waiting)
    (hq : queueAllows e.queue code = true)
    (hc : code = .done ∧ e.started = true ∨ code = .failedNoack ∨ code = .failedMedia) :
    exec (.tallyOutcome l id code) s = .next (s.postJob l e code) := by
  show execTallyOutcome l id code s = _
  unfold execTallyOutcome
  rw [hf]
  exact congrArg Host.Outcome.next (if_pos (by simpa [hl, ho, hw, hq, or_assoc] using hc))

/-- A completed operation frees its entry, enters its record and counts it (R103, R109). -/
theorem tally_outcome_posts {s : State} {l : Lane} {id : Fin 64} {e : TalEntry} {code : OutcomeCode} (hs : s.regsOk = true)
    (hl : s.alive l = true) (hf : (s.tal l).find id = some e) (hj : e.job = .plain) (ho : ownEnd e = false)
    (hw : e.st ≠ .waiting) (hq : queueAllows e.queue code = true)
    (hc : code = .done ∧ e.started = true ∨ code = .failedNoack ∨ code = .failedMedia) (hr : (s.tal l).ring.length < 128) :
    leads (.tallyOutcome l id code) s fun t => Posted s l e code t := by
  refine leads_of_exec (exec_tallyOutcome hl hf ho hw hq hc) ?_
  rw [State.postJob_of_plain s l code hj]
  exact State.post_posted code hs hr

/-- A cancel ends a waiting entry (R111). -/
theorem cancel_posts {s : State} {l : Lane} {id : Fin 64} {e : TalEntry} (hs : s.regsOk = true) (hl : s.alive l = true)
    (hf : (s.tal l).find id = some e) (hj : e.job = .plain) (hr : (s.tal l).ring.length < 128) (hw : e.st = .waiting)
    (hq : queueAllows e.queue .cancelled = true) : leads (.talCancel l id) s fun t => Posted s l e .cancelled t := by
  have hexec : exec (.talCancel l id) s = .next (s.postJob l e .cancelled) := by
    show execTalCancel l id s = _
    unfold execTalCancel
    rw [hf]
    simp only [hl, hw, hq, Bool.not_true, Bool.false_eq_true, if_false, if_true]
  refine leads_of_exec hexec ?_
  rw [State.postJob_of_plain s l _ hj]
  exact State.post_posted _ hs hr

/-- A target that goes off fails its entry (R112). -/
theorem target_off_posts {s : State} {l : Lane} {id : Fin 64} {e : TalEntry} (hs : s.regsOk = true) (hl : s.alive l = true)
    (hf : (s.tal l).find id = some e) (hj : e.job = .plain) (hr : (s.tal l).ring.length < 128) (hw : e.st ≠ .ending) :
    leads (.targetOffFail l id) s fun t => Posted s l e .failedOff t := by
  have hexec : exec (.targetOffFail l id) s = .next (s.postJob l e .failedOff) := by
    show execTargetOffFail l id s = _
    unfold execTargetOffFail
    rw [hf]
    exact congrArg Host.Outcome.next (if_pos (by simp [hl, hw]))
  refine leads_of_exec hexec ?_
  rw [State.postJob_of_plain s l _ hj]
  exact State.post_posted _ hs hr

/-- The instant at which the abort lead of an entry begins (R107). -/
def State.leadAt (s : State) (l : Lane) (e : TalEntry) : Nat :=
  s.instantOf l (e.deadline - s.rd (laneDie l) R.TAL_Qq_LIMIT.ABORT_LEAD e.queue * us)

theorem exec_tallyAbortLead {s : State} {l : Lane} {id : Fin 64} {e : TalEntry} (hl : s.alive l = true)
    (hf : (s.tal l).find id = some e) (hw : e.st ≠ .ending) : exec (.tallyAbortLead l id) s =
      .next (if e.queue ≤ 6 && !s.inAttempt l e then (s.advTo (s.leadAt l e)).postJob l e .failedNoack
        else (s.advTo (s.leadAt l e)).setEnt l id fun x => { x with st := .ending }) := by
  show execTallyAbortLead l id s = _
  unfold execTallyAbortLead
  rw [hf]
  exact congrArg Host.Outcome.next (if_pos (by simp [hl, hw]))

/-- The posting after the clock has moved on is a posting from the state before it, but for lateness and time. -/
theorem Posted.of_advTo {s t : State} {l : Lane} {e : TalEntry} {code : OutcomeCode} {x : Nat}
    (h : Posted (s.advTo x) l e code t) : (t.tal l).ring = (s.tal l).ring ++ [(s.advTo x).outRec l e code] ∧
      (t.tal l).find e.id = none ∧ (code ≠ .done → rose s t (laneDie l) R.TAL_Qq_STAT.FAIL_DROP e.queue) :=
  ⟨(State.tal_advTo s x l) ▸ h.ring, h.freed, fun hc => rose_of_eq (h.failed hc) (State.rd_advTo ..)⟩

/-- At its abort lead an entry without an attempt on a network queue fails (R107). -/
theorem abort_lead_posts {s : State} {l : Lane} {id : Fin 64} {e : TalEntry} (hs : s.regsOk = true) (hl : s.alive l = true)
    (hf : (s.tal l).find id = some e) (hj : e.job = .plain) (hr : (s.tal l).ring.length < 128) (hw : e.st ≠ .ending)
    (hq : e.queue ≤ 6) (ha : s.inAttempt l e = false) :
    leads (.tallyAbortLead l id) s fun t => Posted (s.advTo (s.leadAt l e)) l e .failedNoack t := by
  refine leads_of_exec (exec_tallyAbortLead hl hf hw) ?_
  rw [if_pos (by simp [hq, ha]), State.postJob_of_plain _ l _ hj]
  exact State.post_posted _ ((State.regsOk_advTo ..).trans hs) (by rwa [State.tal_advTo])

/-- At its abort lead any other entry lets its attempt end (R107). -/
theorem abort_lead_lets_end {s : State} {l : Lane} {id : Fin 64} {e : TalEntry} (hl : s.alive l = true)
    (hf : (s.tal l).find id = some e) (hw : e.st ≠ .ending) (hq : 6 < e.queue ∨ s.inAttempt l e = true) :
    leads (.tallyAbortLead l id) s fun t =>
      (t.tal l).find id = some { e with st := .ending } ∧ (t.tal l).ring = (s.tal l).ring := by
  refine leads_of_exec (exec_tallyAbortLead hl hf hw) ?_
  rw [if_neg (by rcases hq with hq | hq <;> simp [hq])]
  refine ⟨State.find_setEnt (fun _ => rfl) (by rwa [State.tal_advTo]), ?_⟩
  unfold State.setEnt
  rw [State.tal_modTal, State.tal_advTo]

end Sys2Proof.Machine
end

section
/-!
PROOFS. A missed deadline (R110), the reading of the outcome ring (R114), the timers (R115), the requests to non-volatile memory
(R89, R105), and what these commands come to together.
-/
namespace Sys2Proof.Machine

/-! ## A missed deadline (R110) -/

theorem State.irq_now (s : State) (l : Lane) (en : Fld) (i : Nat) : (s.irq l en i).now = s.now := by
  unfold State.irq State.irqOf
  split
  · exact State.modRun_now ..
  · rfl

/-- The tally of a lane records that the deadline of an entry has passed. -/
def State.missNoted (s : State) (l : Lane) (id : Fin 64) (q : Nat) : State :=
  (((s.set (laneDie l) R.TAL_STATUS.MISS).wr (laneDie l) R.TAL_STATUS.LAST_MISS_ID id).wr (laneDie l)
    R.TAL_STATUS.LAST_MISS_Q q).inc (laneDie l) R.TAL_MISS_CNT.COUNT

/-- The record of a missed deadline stands in the state `t`, which started as `s`. -/
structure MissNoted (s : State) (l : Lane) (id : Fin 64) (q : Nat) (t : State) : Prop where
  miss : t.rd (laneDie l) R.TAL_STATUS.MISS = 1
  lastId : t.rd (laneDie l) R.TAL_STATUS.LAST_MISS_ID = id
  lastQ : t.rd (laneDie l) R.TAL_STATUS.LAST_MISS_Q = low R.TAL_STATUS.LAST_MISS_Q.w q
  count : rose s t (laneDie l) R.TAL_MISS_CNT.COUNT

/-- A field written keeps its value through the writes of other fields. -/
theorem Spares.rd_of_wr {s t : State} {d : Die} {f : Fld} {v i j : Nat} (hs : s.regsOk = true)
    (h : Spares [f] (s.wr d f v i j) t) : t.rd d f i j = low f.w v :=
  (h.rd (State.wr_regsOk _ _ _ _ _ _ hs) _ _ _ _ (List.mem_singleton.2 rfl)).trans (State.rd_wr_same _ _ _ _ _ _ hs)

theorem State.missNoted_noted {s : State} (l : Lane) (id : Fin 64) (q : Nat) (hs : s.regsOk = true) :
    MissNoted s l id q (s.missNoted l id q) := by
  unfold State.missNoted
  have h1 := State.wr_regsOk s (laneDie l) R.TAL_STATUS.MISS 1 0 0 hs
  have h2 := State.wr_regsOk _ (laneDie l) R.TAL_STATUS.LAST_MISS_ID id 0 0 h1
  refine ⟨Spares.rd_of_wr hs ((((Spares.refl _).wr _ _ _ _ _ (by decide)).wr _ _ _ _ _ (by decide)).wr _ _ _ _ _ (by decide)),
    (Spares.rd_of_wr h1 (((Spares.refl _).wr _ _ _ _ _ (by decide)).wr _ _ _ _ _ (by decide))).trans (low_of_lt id.isLt),
    Spares.rd_of_wr h2 ((Spares.refl _).wr _ _ _ _ _ (by decide)), ?_⟩
  have hcount : Spares [R.TAL_MISS_CNT.COUNT] s (((s.set (laneDie l) R.TAL_STATUS.MISS).wr (laneDie l)
      R.TAL_STATUS.LAST_MISS_ID id).wr (laneDie l) R.TAL_STATUS.LAST_MISS_Q q) :=
    (((Spares.refl _).wr _ _ _ _ _ (by decide)).wr _ _ _ _ _ (by decide)).wr _ _ _ _ _ (by decide)
  exact rose_of_eq (rose_inc _ _ _ _ (hcount.ok hs)) (hcount.rd hs _ _ _ _ (by decide))

/-- What changes no field of the record of a missed deadline leaves the record. -/
theorem MissNoted.of_spares {s t u : State} {l : Lane} {id : Fin 64} {q : Nat} (h : MissNoted s l id q t)
    (ht : t.regsOk = true) (hu : Spares missFlds t u) : MissNoted s l id q u :=
  ⟨(hu.rd ht _ _ _ _ (by decide)).trans h.miss, (hu.rd ht _ _ _ _ (by decide)).trans h.lastId,
    (hu.rd ht _ _ _ _ (by decide)).trans h.lastQ, (hu.rd ht _ _ _ _ (by decide)).trans h.count⟩

/-- An entry whose deadline passes is marked once, recorded, counted and reported (R110). -/
theorem miss_recorded {s : State} {l : Lane} {id : Fin 64} {e : TalEntry} (hs : s.regsOk = true) (hl : s.alive l = true)
    (hf : (s.tal l).find id = some e) (hm : e.missed = false) : leads (.tallyMiss l id) s fun t =>
      MissNoted s l id e.queue t ∧ s.instantOf l (e.deadline + 1) ≤ t.now := by
  let s1 := (s.advTo (s.instantOf l (e.deadline + 1))).setEnt l id fun x => { x with missed := true }
  have hexec : exec (.tallyMiss l id) s =
      .next (((s1.missNoted l id e.queue).irq l R.TAL_CTRL.MISS_IRQ_EN).tallyMiss l e.queue) := by
    show execTallyMiss l id s = _
    unfold execTallyMiss
    rw [hf]
    exact congrArg Host.Outcome.next (if_pos (by rw [hl, hm]; rfl))
  have hok : s1.regsOk = true := (State.regsOk_modRun ..).trans ((State.regsOk_advTo ..).trans hs)
  have hnow : s1.now = max s.now (s.instantOf l (e.deadline + 1)) := State.modRun_now ..
  have hrd : s1.rd (laneDie l) R.TAL_MISS_CNT.COUNT = s.rd (laneDie l) R.TAL_MISS_CNT.COUNT :=
    (State.rd_modRun ..).trans (State.rd_advTo ..)
  have hnoted := State.missNoted_noted l id e.queue hok
  have hok2 : (s1.missNoted l id e.queue).regsOk = true := State.wr_regsOk _ _ _ _ _ _ (State.wr_regsOk _ _ _ _ _ _
    (State.wr_regsOk _ _ _ _ _ _ (State.wr_regsOk _ _ _ _ _ _ hok)))
  refine leads_of_exec hexec ⟨?_, ?_⟩
  · obtain ⟨hmiss, hid, hq, hcount⟩ := hnoted.of_spares hok2
      (((Spares.refl _).irq l R.TAL_CTRL.MISS_IRQ_EN 0).trans (State.tallyMiss_spares _ l e.queue))
    exact ⟨hmiss, hid, hq, rose_of_eq hcount hrd⟩
  · have hlast := (State.tallyMiss_within ((s1.missNoted l id e.queue).irq l R.TAL_CTRL.MISS_IRQ_EN) l e.queue
      (msk := 515402372230) (by decide) (Within.refl _)).now (by decide)
    rw [hlast.1, State.irq_now]
    exact (Nat.le_max_right ..).trans hnow.ge

/-! ## The outcome ring is read oldest first (R114) -/

theorem exec_talOutPop {s : State} {l : Lane} (hl : s.alive l = true) : exec (.talOutPop l) s = .next (s.talPop l) :=
  congrArg Host.Outcome.next (if_pos hl)

theorem pop_reads_oldest {s : State} {l : Lane} {r : OutRec} {rest : List OutRec} (hs : s.regsOk = true)
    (hl : s.alive l = true) (hr : (s.tal l).ring = r :: rest) : leads (.talOutPop l) s fun t =>
      (t.tal l).ring = rest ∧ t.rd (laneDie l) R.TAL_OUT_W1.TIME = low 32 r.time ∧ (t.run l).readData = r.word := by
  refine leads_of_exec (exec_talOutPop hl) ?_
  unfold State.talPop
  rw [hr]
  refine ⟨?_, (State.rd_modRun ..).trans (State.rd_wr_same _ _ _ _ _ _ ((State.regsOk_modRun ..).trans hs)), ?_⟩
  · dsimp only
    rw [State.tal, State.modRun_run, State.wr_run, State.modTal, State.modRun_run]
  · dsimp only
    rw [State.modRun_run]

theorem pop_of_empty {s : State} {l : Lane} (hl : s.alive l = true) (hr : (s.tal l).ring = []) :
    leads (.talOutPop l) s fun t => (t.run l).readData = 0 ∧ t.regs = s.regs := by
  refine leads_of_exec (exec_talOutPop hl) ?_
  unfold State.talPop
  rw [hr]
  exact ⟨congrArg LaneRun.readData (State.modRun_run ..), State.modRun_regs ..⟩

/-! ## A timer expires (R115) -/

/-- The fields of a timer that its expiry sets or asks for. -/
def timFlds : List Fld := [R.TIM_Tn_STATUS.EXPIRED, R.TIM_Tn_STATUS.OVERRUN, R.TIM_Tn_CFG.PERIODIC]

/-- A running timer has come to its end: its flags, its interrupt, its events. -/
def State.timFlagged (s : State) (l : Lane) (n : Fin 8) : State :=
  let d := laneDie l
  let s2 := (s.when (s.on d R.TIM_Tn_STATUS.EXPIRED n) fun s => s.set d R.TIM_Tn_STATUS.OVERRUN n).set d
    R.TIM_Tn_STATUS.EXPIRED n
  ((s2.irq l R.TIM_Tn_CFG.IRQ_EN n).event l (.timer n)).when (s2.on d R.TIM_Tn_CFG.TRIG_EN n) fun s =>
    s.event l (.timerTrig n)

/-- What a timer's flags read as it comes to its end, from the state `s`. -/
structure TimFlagged (s : State) (l : Lane) (n : Fin 8) (t : State) : Prop where
  ok : t.regsOk = true
  expired : t.rd (laneDie l) R.TIM_Tn_STATUS.EXPIRED n = 1
  overrun : s.on (laneDie l) R.TIM_Tn_STATUS.EXPIRED n = true → t.rd (laneDie l) R.TIM_Tn_STATUS.OVERRUN n = 1
  periodic : t.on (laneDie l) R.TIM_Tn_CFG.PERIODIC n = s.on (laneDie l) R.TIM_Tn_CFG.PERIODIC n
  now : t.now = s.now

/-- A timer's events touch no register. -/
theorem State.timEvents_within (s : State) (l : Lane) (n : Fin 8) (c : Bool) :
    Within 0 s ((s.event l (.timer n)).when c fun s => s.event l (.timerTrig n)) :=
  within_when _ _ (State.event_within s l _ (by decide) (Within.refl s))
    fun x => State.event_within x l _ (by decide) (Within.refl x)

theorem State.timFlagged_flagged {s : State} (l : Lane) (n : Fin 8) (hs : s.regsOk = true) :
    TimFlagged s l n (s.timFlagged l n) := by
  unfold State.timFlagged
  lift_lets -useContext -merge -underBinder
  intro d s2
  let s1 := s.when (s.on d R.TIM_Tn_STATUS.EXPIRED n) fun s => s.set d R.TIM_Tn_STATUS.OVERRUN n
  have h1 : Spares [R.TIM_Tn_CFG.PERIODIC] s s1 := (Spares.refl s).when _ fun x => (Spares.refl x).wr _ _ _ _ _ (by decide)
  have h2 : Spares [R.TIM_Tn_CFG.PERIODIC] s s2 := h1.wr _ _ _ _ _ (by decide)
  have hok2 : s2.regsOk = true := h2.ok hs
  have hsent := (s2.irq l R.TIM_Tn_CFG.IRQ_EN n).timEvents_within l n (s2.on d R.TIM_Tn_CFG.TRIG_EN n)
  have h3 := ((Spares.refl (fs := timFlds) s2).irq l R.TIM_Tn_CFG.IRQ_EN n).within hsent (by decide)
  refine ⟨h3.ok hok2, ?_, fun hon => ?_, ?_, ?_⟩
  · exact (h3.rd hok2 _ _ _ _ (by decide)).trans (State.rd_wr_same _ _ _ _ _ _ (h1.ok hs))
  · have hs2 : s2 = (s.set d R.TIM_Tn_STATUS.OVERRUN n).set d R.TIM_Tn_STATUS.EXPIRED n := by
      unfold s2 State.when
      rw [if_pos hon]
    refine (h3.rd hok2 _ _ _ _ (by decide)).trans ?_
    rw [hs2]
    exact Spares.rd_of_wr hs ((Spares.refl _).wr _ _ _ _ _ (by decide))
  · have hper := h3.rd hok2 (laneDie l) R.TIM_Tn_CFG.PERIODIC n 0 (by decide)
    exact congrArg (· != 0) (hper.trans (h2.rd hs _ _ _ _ (by decide)))
  · have hs2 : s2.now = s.now := by
      unfold s2 State.when
      split <;> rfl
    exact (hsent.now (by decide)).1.trans ((State.irq_now ..).trans hs2)

theorem State.timExpire_eq {s : State} {l : Lane} {n : Fin 8} {e : Nat} (h : s.timEnd l n = some e) :
    s.timExpire l n =
      if ((s.advTo (s.instantOf l e)).timFlagged l n).on (laneDie l) R.TIM_Tn_CFG.PERIODIC n then
        ((s.advTo (s.instantOf l e)).timFlagged l n).timLoad l n e
      else (((s.advTo (s.instantOf l e)).timFlagged l n).modTim l n fun t => { t with start := none }).wr (laneDie l)
        R.TIM_Tn_COUNT.COUNTS 0 n := by
  unfold State.timExpire
  rw [h]
  rfl

theorem State.modTim_start (s : State) (l : Lane) (n : Fin 8) (f : Timer → Timer) :
    ((s.modTim l n f).run l).tims[n] = f (s.run l).tims[n] := by
  unfold State.modTim
  rw [State.modRun_run]
  exact (upd_get ..).trans (if_pos rfl)

/-- A running timer expires at its end: it reloads there where it is periodic and stops at count zero where it is not. -/
theorem timer_expires {s : State} {l : Lane} {n : Fin 8} {e : Nat} (hs : s.regsOk = true) (hl : s.alive l = true)
    (he : s.timEnd l n = some e) (hp : n ≠ 7 ∨ (s.run l).sup.tim7 = false) : leads (.timExpiry l n) s fun t =>
      t.rd (laneDie l) R.TIM_Tn_STATUS.EXPIRED n = 1 ∧ t.now = max s.now (s.instantOf l e) ∧
      (s.on (laneDie l) R.TIM_Tn_STATUS.EXPIRED n = true → t.rd (laneDie l) R.TIM_Tn_STATUS.OVERRUN n = 1) ∧
      (s.on (laneDie l) R.TIM_Tn_CFG.PERIODIC n = true → (t.run l).tims[n].start = some e) ∧
      (s.on (laneDie l) R.TIM_Tn_CFG.PERIODIC n = false →
        (t.run l).tims[n].start = none ∧ t.rd (laneDie l) R.TIM_Tn_COUNT.COUNTS n = 0) := by
  have hexec : exec (.timExpiry l n) s = .next (s.timExpire l n) := by
    have hport : (decide (n = 7) && (s.run l).sup.tim7) = false := by
      rcases hp with hp | hp <;> simp [hp]
    show execTimExpiry l n s = _
    unfold execTimExpiry State.when
    rw [hl, he, hport]
    rfl
  refine leads_of_exec hexec ?_
  have hadv : (s.advTo (s.instantOf l e)).regsOk = true := (State.regsOk_advTo ..).trans hs
  obtain ⟨hok, hexpired, hoverrun, hperiodic, hnow⟩ := State.timFlagged_flagged l n hadv
  rw [State.timExpire_eq he, hperiodic, State.on_advTo]
  rw [State.on_advTo] at hoverrun
  by_cases hc : s.on (laneDie l) R.TIM_Tn_CFG.PERIODIC n = true
  · rw [if_pos hc]
    refine ⟨(State.rd_modRun ..).trans hexpired, (State.modRun_now ..).trans hnow,
      fun h => (State.rd_modRun ..).trans (hoverrun h), fun _ => ?_, fun h => absurd (hc.symm.trans h) (by decide)⟩
    exact congrArg Timer.start (State.modTim_start ..)
  · rw [if_neg hc]
    have hok' := (State.regsOk_modRun ((s.advTo (s.instantOf l e)).timFlagged l n) l fun r =>
      { r with tims := upd r.tims n fun t => { t with start := none } }).trans hok
    refine ⟨(State.rd_wr_apart _ _ _ _ _ _ _ _ _ _ hok' (by decide)).trans ((State.rd_modRun ..).trans hexpired),
      (State.modRun_now ..).trans hnow,
      fun h => (State.rd_wr_apart _ _ _ _ _ _ _ _ _ _ hok' (by decide)).trans ((State.rd_modRun ..).trans (hoverrun h)),
      fun h => absurd h hc, fun _ => ⟨?_, State.rd_wr_same _ _ _ _ _ _ hok'⟩⟩
    rw [State.wr_run]
    exact congrArg Timer.start (State.modTim_start ..)

/-! ## Requests to non-volatile memory (R89, R105) -/

/-- What `NVM_REQ_RESULT` says of a request. -/
structure NvmAnswered (l : Lane) (code : Nat) (t : State) : Prop where
  result : t.rd (laneDie l) R.NVM_REQ_RESULT.CODE = code
  admitted : t.rd (laneDie l) R.NVM_REQ_RESULT.ADMITTED = b2n (code == 0)

theorem State.nvmResult_answered {s : State} (l : Lane) (id : Nat) {code : Nat} (hc : code < 8) (hs : s.regsOk = true) :
    NvmAnswered l code (s.nvmResult l id code) := by
  have h1 := State.wr_regsOk s (laneDie l) R.NVM_REQ_RESULT.ID id 0 0 hs
  have h2 := State.wr_regsOk _ (laneDie l) R.NVM_REQ_RESULT.ADMITTED (b2n (code == 0)) 0 0 h1
  exact ⟨(State.rd_wr_same _ _ _ _ _ _ h2).trans (low_of_lt hc),
    (Spares.rd_of_wr h1 ((Spares.refl _).wr _ _ _ _ _ (by decide))).trans (low_b2n (by decide) _)⟩

theorem Admission.code_lt (a : Admission) : a.code < 8 := by
  unfold Admission.code
  split <;> decide

theorem Admission.eq_admitted {a : Admission} (h : a.code = 0) : a = .admitted a.id := by
  cases a with
  | admitted i => rfl
  | late => exact absurd h (by decide)
  | full => exact absurd h (by decide)

section
variable {s : State} {l : Lane} {who : Initiator} {q size dl : Nat} {job : Job} {extra : Nat}

/-- A submission answers with the decision of R105. -/
theorem State.submit_admission : (s.submit l who q size dl job extra).1 = s.admission l q size dl job extra := by
  unfold State.submit
  dsimp only
  split <;> next h => exact h.symm

/-- An admitted entry stands in the tally under its identifier. -/
theorem State.submit_entered {id : Nat} (h : s.admission l q size dl job extra = .admitted id) :
    ((s.submit l who q size dl job extra).2.tal l).find id ≠ none := by
  unfold State.submit
  rw [h]
  dsimp only
  rw [State.tal_modTal]
  intro hnone
  have := List.find?_eq_none.1 hnone _ (List.mem_append_right _ (List.mem_singleton.2 rfl))
  simp at this

end

/-- The admission that a request to non-volatile memory gets once its area and its range hold (R105). -/
def State.nvmAdmission (s : State) (l : Lane) : Admission :=
  let d := laneDie l
  s.admission l 7 (s.rd d R.NVM_REQ_LEN.LEN / 512) (dl40 (s.rd d R.NVM_REQ_DEADLINE_LO.DL) (s.rd d R.NVM_REQ_DEADLINE_HI.DL))
    (.nvm (s.rd d R.NVM_REQ_AREA.AREA) (s.rd d R.NVM_REQ_OFFSET.OFFSET) (s.rd d R.NVM_REQ_LEN.LEN) (s.rd d R.NVM_REQ_SRC.ADDR))

/-- The state after the submission of a request to non-volatile memory. -/
def State.nvmSubmitted (s : State) (l : Lane) (who : Initiator) : State :=
  let d := laneDie l
  (s.submit l who 7 (s.rd d R.NVM_REQ_LEN.LEN / 512)
    (dl40 (s.rd d R.NVM_REQ_DEADLINE_LO.DL) (s.rd d R.NVM_REQ_DEADLINE_HI.DL))
    (.nvm (s.rd d R.NVM_REQ_AREA.AREA) (s.rd d R.NVM_REQ_OFFSET.OFFSET) (s.rd d R.NVM_REQ_LEN.LEN) (s.rd d R.NVM_REQ_SRC.ADDR))).2

/-- The device of the area that a request names is ready (R112). -/
def State.nvmReady (s : State) (l : Lane) : Bool :=
  if s.rd (laneDie l) R.NVM_REQ_AREA.AREA < 8 then s.on (laneDie l) R.NVM_STATUS.EMMC_READY
  else s.on (laneDie l) R.NVM_STATUS.XSPI_READY

/-- The request names a range of its area that it may reach (R89). -/
def State.nvmInRange (s : State) (l : Lane) : Bool :=
  let d := laneDie l
  s.nvmRange l (s.rd d R.NVM_REQ_AREA.AREA) (s.rd d R.NVM_REQ_OFFSET.OFFSET) (s.rd d R.NVM_REQ_LEN.LEN)
    (s.rd d R.NVM_REQ_SRC.ADDR)

theorem exec_nvmReqGo {s : State} {l : Lane} {who : Initiator} (ha : s.canAccess l who = true) :
    exec (.nvmReqGo l who) s = .next (if s.areaProtected l (s.rd (laneDie l) R.NVM_REQ_AREA.AREA) then s.nvmResult l 0 3
      else if !s.nvmInRange l then s.nvmResult l 0 4
      else ((s.nvmSubmitted l who).nvmResult l (s.nvmAdmission l).id (s.nvmAdmission l).code).endNew l (s.nvmAdmission l)
        (if s.nvmReady l then none else some .failedOff)) := by
  unfold State.nvmAdmission
  rw [← State.submit_admission (who := who)]
  show execNvmReqGo l who s = _
  unfold execNvmReqGo
  exact congrArg Host.Outcome.next (if_neg (by rw [ha]; decide))

/-- A request to non-volatile memory is checked and, where it passes, gets the decision of R105 on `Q07`. -/
theorem nvm_request_answered {s : State} {l : Lane} {who : Initiator} (hs : s.regsOk = true) (ha : s.canAccess l who = true) :
    leads (.nvmReqGo l who) s fun t =>
      let code := if s.areaProtected l (s.rd (laneDie l) R.NVM_REQ_AREA.AREA) then 3
        else if !s.nvmInRange l then 4 else (s.nvmAdmission l).code
      NvmAnswered l code t ∧ (code = 0 → s.nvmReady l = true → (t.tal l).find (s.nvmAdmission l).id ≠ none) := by
  refine leads_of_exec (exec_nvmReqGo ha) ?_
  dsimp only
  split
  · exact ⟨State.nvmResult_answered l 0 (by decide) hs, fun h => absurd h (by decide)⟩
  split
  · exact ⟨State.nvmResult_answered l 0 (by decide) hs, fun h => absurd h (by decide)⟩
  let x := s.nvmSubmitted l who
  have hok : x.regsOk = true := (State.submit_within s l who _ _ _ _ _ (msk := 4) (by decide) (Within.refl s)).h.ok hs
  let r := x.nvmResult l (s.nvmAdmission l).id (s.nvmAdmission l).code
  have hr : NvmAnswered l (s.nvmAdmission l).code r := State.nvmResult_answered l _ (Admission.code_lt _) hok
  have hokr : r.regsOk = true := State.wr_regsOk _ _ _ _ _ _ (State.wr_regsOk _ _ _ _ _ _ (State.wr_regsOk _ _ _ _ _ _ hok))
  have hend : Spares [R.NVM_REQ_RESULT.CODE, R.NVM_REQ_RESULT.ADMITTED] r
      (r.endNew l (s.nvmAdmission l) (if s.nvmReady l then none else some .failedOff)) :=
    (State.endNew_within r l _ _ (msk := 4100) (by decide) (Within.refl r)).spares (by decide)
  refine ⟨⟨(hend.rd hokr _ _ _ _ (by decide)).trans hr.result, (hend.rd hokr _ _ _ _ (by decide)).trans hr.admitted⟩,
    fun hc hready => ?_⟩
  have hadm := Admission.eq_admitted hc
  have hentered : (x.tal l).find (s.nvmAdmission l).id ≠ none := State.submit_entered hadm
  have htal : r.tal l = x.tal l := by
    unfold r State.nvmResult
    rw [State.tal_wr, State.put_eq, State.tal_wr, State.tal_wr]
  rw [if_pos hready, hadm]
  exact (htal ▸ hentered : (r.tal l).find (s.nvmAdmission l).id ≠ none)

/-! ## The tally, the timers and the requests together -/

/-- Settles O18: one lemma per command of the tally, of the timers and of the requests to non-volatile memory. -/
theorem tallyTimersAndNvmRequestsAct : Obligations.TallyTimersAndNvmRequestsAct := by
  unfold Obligations.TallyTimersAndNvmRequestsAct
  refine ⟨fun s l id e code hs hl hf hj ho hw hq hc hr _ => ?_, fun s l id e hs hl hf hj hr _ => ?_,
    fun s l id e hs hl hf hm => ?_, fun s l r rest hs hl hr => pop_reads_oldest (canonical_regs hs) hl hr,
    fun s l _ hl hr => pop_of_empty hl hr, fun s l n e hs hl he hp => timer_expires (canonical_regs hs) hl he hp,
    fun s l who hs ha => ?_⟩
  · obtain ⟨t, hexec, hring, hfreed, hdone, hfailed⟩ :=
      tally_outcome_posts (canonical_regs hs) hl hf hj ho hw hq hc hr
    exact leads_of_exec hexec ⟨hring, Tally.find_id hf ▸ hfreed, hdone, hfailed⟩
  · have hpost : ∀ {u t : State} {code : OutcomeCode}, (t.tal l).ring = (s.tal l).ring ++ [u.outRec l e code] →
        (t.tal l).ring.length = (s.tal l).ring.length + 1 ∧
          ((t.tal l).ring.getLast?.map fun r => (r.id, r.queue, r.code, r.who)) = some (e.id, e.queue, code.code, e.who) := by
      intro u t code h
      rw [h]
      exact ⟨List.length_append, by rw [List.getLast?_concat]; rfl⟩
    refine ⟨fun ⟨hw, hq⟩ => ?_, fun hw => ?_, fun ⟨hw, hq, ha⟩ => ?_, fun ⟨hw, hq⟩ => abort_lead_lets_end hl hf hw hq⟩
    · obtain ⟨t, hexec, hring, hfreed, -, hfailed⟩ := cancel_posts (canonical_regs hs) hl hf hj hr hw hq
      exact leads_of_exec hexec ⟨(hpost hring).1, (hpost hring).2, Tally.find_id hf ▸ hfreed, hfailed (by decide)⟩
    · obtain ⟨t, hexec, hring, hfreed, -, hfailed⟩ := target_off_posts (canonical_regs hs) hl hf hj hr hw
      exact leads_of_exec hexec ⟨(hpost hring).1, (hpost hring).2, Tally.find_id hf ▸ hfreed, hfailed (by decide)⟩
    · obtain ⟨t, hexec, hposted⟩ := abort_lead_posts (canonical_regs hs) hl hf hj hr hw hq ha
      obtain ⟨hring, hfreed, hfailed⟩ := hposted.of_advTo
      exact leads_of_exec hexec ⟨(hpost hring).1, (hpost hring).2, Tally.find_id hf ▸ hfreed, hfailed (by decide)⟩
  · obtain ⟨t, hexec, ⟨hmiss, hid, hq, hcount⟩, hnow⟩ := miss_recorded (canonical_regs hs) hl hf hm
    exact leads_of_exec hexec ⟨hmiss, hid, hq, hcount, hnow⟩
  · obtain ⟨t, hexec, ⟨hcode, hadmitted⟩, hentered⟩ := nvm_request_answered (canonical_regs hs) ha
    exact leads_of_exec hexec ⟨hcode, hadmitted, fun hc ⟨hready, harea⟩ => hentered hc ((if_pos harea).trans hready)⟩

end Sys2Proof.Machine
end

section
/-!
PROOFS. The deadline that 40 bits name, and the entry that carries it (R104).
-/
namespace Sys2Proof.Machine

/-! ## The first lane time with given low 40 bits -/

theorem le_deadlineOf (now dl : Nat) : now ≤ deadlineOf now dl :=
  Nat.le_add_right ..

theorem deadlineOf_le (now dl : Nat) : deadlineOf now dl ≤ now + (2 ^ 40 - 1) :=
  Nat.add_le_add_left (Nat.le_sub_one_of_lt (Nat.mod_lt _ (by decide))) now

theorem deadlineOf_mod (now dl : Nat) : deadlineOf now dl % 2 ^ 40 = dl % 2 ^ 40 := by
  unfold deadlineOf
  omega

/-- Two lane times with the same low 40 bits lie a multiple of 2^40 apart, which is further than a deadline lies ahead. -/
theorem deadlineOf_le_of_mod {now dl y : Nat} (hnow : now ≤ y) (hy : y % 2 ^ 40 = dl % 2 ^ 40) : deadlineOf now dl ≤ y := by
  by_contra hlt
  have hmod : y ≡ deadlineOf now dl [MOD 2 ^ 40] := hy.trans (deadlineOf_mod now dl).symm
  have hfar : y + 2 ^ 40 ≤ deadlineOf now dl := hmod.add_le_of_lt (not_le.1 hlt)
  have hnear := deadlineOf_le now dl
  omega

/-! ## The entry of an admitted submission -/

/-- No entry holds the identifier that a submission gets. -/
theorem freeId_fresh {es : List TalEntry} {id : Nat} (h : freeId es = some id) : ∀ e ∈ es, e.id ≠ id := by
  unfold freeId at h
  simpa using List.find?_some h

section
variable {s : State} {l : Lane} {who : Initiator} {q size dl : Nat} {job : Job} {extra id : Nat}

/-- An admission gives a free identifier. -/
theorem State.admission_freeId (h : s.admission l q size dl job extra = .admitted id) :
    freeId (s.tal l).entries = some id := by
  unfold State.admission at h
  dsimp only at h
  split at h
  · cases h
  next hfree =>
    obtain ⟨-, hfull⟩ | ⟨-, h⟩ := ite_eq_iff.1 h
    · cases hfull
    obtain ⟨-, hlate⟩ | ⟨-, hid⟩ := ite_eq_iff.1 h
    · cases hlate
    · cases hid
      exact hfree

/-- An admitted submission appends one entry, which has the identifier of the admission and the deadline that the 40 bits name. -/
theorem State.submit_appends (h : s.admission l q size dl job extra = .admitted id) :
    ∃ e : TalEntry, e.id = id ∧ e.deadline = deadlineOf (s.laneTime l) dl ∧
      ((s.submit l who q size dl job extra).2.tal l).entries = (s.tal l).entries ++ [e] := by
  unfold State.submit
  rw [h]
  exact ⟨_, rfl, rfl, congrArg Tally.entries (State.tal_modTal ..)⟩

theorem State.submit_deadline (h : s.admission l q size dl job extra = .admitted id) :
    (((s.submit l who q size dl job extra).2.tal l).find id).map TalEntry.deadline = some (deadlineOf (s.laneTime l) dl) := by
  obtain ⟨e, hid, hdeadline, hentries⟩ := State.submit_appends (who := who) h
  have hnew : ∀ x ∈ (s.tal l).entries, ¬(x.id == id) = true := fun x hx =>
    mt beq_iff_eq.1 (freeId_fresh (State.admission_freeId h) x hx)
  unfold Tally.find
  rw [hentries, List.find?_append, List.find?_eq_none.2 hnew, Option.none_or,
    List.find?_singleton, if_pos (beq_iff_eq.2 hid), Option.map_some, hdeadline]

end

/-- Settles O12: a later deadline would lie a whole 2^40 past the lane time it skips, and an admitted entry is found under its
identifier because no earlier entry holds it. -/
theorem deadlineNamesFirstLaneTime : Obligations.DeadlineNamesFirstLaneTime := by
  unfold Obligations.DeadlineNamesFirstLaneTime
  exact ⟨fun now dl => ⟨le_deadlineOf now dl, deadlineOf_mod now dl, deadlineOf_le now dl, fun _ => deadlineOf_le_of_mod⟩,
    fun _ _ _ _ _ _ _ _ h => State.submit_deadline (State.submit_admission.symm.trans h)⟩

end Sys2Proof.Machine
end

section
/-!
PROOFS. Reading a field that an operation has written: what stands behind it spares the field, and a signed field gives back what
it was limited to.
-/
namespace Sys2Proof.Machine

/-! ## A field written and then spared -/

section
variable {fs : List Fld} {s t : State} {d : Die} {f : Fld} {i j : Nat}

/-- A shorter list is spared as well. -/
theorem Spares.mono {fs' : List Fld} (h : Spares fs s t) (hf : fs' ⊆ fs) : Spares fs' s t :=
  ⟨h.ok, fun hs d g i j hg => h.rd hs d g i j (hf hg)⟩

/-- A field written and then spared holds the low bits of the value. -/
theorem Spares.rd_wr {v : Nat} (h : Spares fs (s.wr d f v i j) t) (hs : s.regsOk = true) (hf : f ∈ fs) :
    t.rd d f i j = low f.w v :=
  (h.rd (State.wr_regsOk _ _ _ _ _ _ hs) _ _ _ _ hf).trans (State.rd_wr_same _ _ _ _ _ _ hs)

/-- A flag written and then spared. -/
theorem Spares.rd_put {b : Bool} (h : Spares fs (s.put d f b i j) t) (hs : s.regsOk = true) (hf : f ∈ fs) (hw : 0 < f.w) :
    t.rd d f i j = b2n b := (h.rd_wr hs hf).trans (low_b2n hw b)

/-- A counting field advanced and then spared. -/
theorem Spares.rose_inc (h : Spares fs (s.inc d f i j) t) (hs : s.regsOk = true) (hf : f ∈ fs) : rose s t d f i j :=
  (h.rd_wr hs hf).trans (low_satAdd ..)

/-- A bit written and then spared. -/
theorem Spares.rdBit_wrBit {b : Nat} {v : Bool} (h : Spares fs (s.wrBit d f b v i) t) (hs : s.regsOk = true) (hf : f ∈ fs)
    (hb : b < f.w) : t.rdBit d f b i = v := by
  rw [State.rdBit_def, h.rd (State.wr_regsOk _ _ _ _ _ _ hs) _ _ _ _ hf, ← State.rdBit_def]
  exact State.rdBit_wrBit_same _ _ _ _ _ _ hs hb

theorem Spares.on (h : Spares fs s t) (hs : s.regsOk = true) (hf : f ∈ fs) : t.on d f i j = s.on d f i j := by
  rw [State.on_def, State.on_def, h.rd hs _ _ _ _ hf]

theorem Spares.rdS (h : Spares fs s t) (hs : s.regsOk = true) (hf : f ∈ fs) : t.rdS d f i j = s.rdS d f i j := by
  unfold State.rdS
  rw [h.rd hs _ _ _ _ hf]

theorem Spares.event (h : Spares fs s t) (l : Lane) (e : Event) (hf : ∀ f ∈ fs, f.lo < 32) : Spares fs s (t.event l e) :=
  h.within (State.event_within _ l e (msk := 0) (by decide) (Within.refl _)) fun f hm => by
    have h32 : ∀ b < 32, Nat.testBit 4294967295 b = true := by decide
    simp [Fld.inM, hf f hm, h32 _ (Nat.mod_lt _ (by decide))]

end

/-! ## Signed fields -/

theorem clampI_of_mem {lo hi x : Int} (h1 : lo ≤ x) (h2 : x ≤ hi) : clampI lo hi x = x := by
  unfold clampI
  rw [if_neg (by omega), if_neg (by omega)]

theorem clampI_mem {lo hi : Int} (x : Int) (h : lo ≤ hi) : lo ≤ clampI lo hi x ∧ clampI lo hi x ≤ hi := by
  unfold clampI
  split
  · omega
  · split <;> omega

/-- A value limited to a signed field lies within its range. -/
theorem satS_mem (w : Nat) (x : Int) : -(2 ^ (w - 1)) ≤ satS w x ∧ satS w x ≤ 2 ^ (w - 1) - 1 :=
  clampI_mem x (by have : (0 : Int) < 2 ^ (w - 1) := by positivity
                   omega)

theorem satS_satS (w : Nat) (x : Int) : satS w (satS w x) = satS w x := clampI_of_mem (satS_mem w x).1 (satS_mem w x).2

/-- A value that fits a signed field reads back from its encoding. -/
theorem sx_ux {w : Nat} {x : Int} (hw : 0 < w) (h : satS w x = x) : sx w (ux w x) = x := by
  obtain ⟨h1, h2⟩ := satS_mem w x
  rw [h] at h1 h2
  obtain ⟨k, rfl⟩ := Nat.exists_eq_add_of_lt hw
  simp only [Nat.zero_add, Nat.add_sub_cancel] at h1 h2 ⊢
  have hp : (2 : Int) ^ (k + 1) = 2 * 2 ^ k := by ring
  have hn : ((2 ^ k : Nat) : Int) = 2 ^ k := by norm_cast
  unfold sx ux
  rw [Nat.add_sub_cancel, hp]
  generalize (2 : Int) ^ k = m at *
  have hm := Int.emod_nonneg x (b := 2 * m) (by omega)
  by_cases hx : 0 ≤ x
  · rw [Int.emod_eq_of_lt hx (by omega), if_pos (by omega)]
    omega
  · have : x % (2 * m) = x + 2 * m := by
      rw [← Int.add_emod_right, Int.emod_eq_of_lt (by omega) (by omega)]
    rw [this, if_neg (by omega)]
    omega

section
variable {fs : List Fld} {s t : State} {d : Die} {f : Fld} {i j : Nat} {x : Int}

/-- A signed field that takes a fitting value's encoding, and is then spared, reads as the value. -/
theorem Spares.rdS_wr_ux (h : Spares fs (s.wr d f (ux f.w x) i j) t) (hs : s.regsOk = true) (hf : f ∈ fs) (hw : 0 < f.w)
    (hx : satS f.w x = x) : t.rdS d f i j = x := by
  unfold State.rdS
  rw [h.rd_wr hs hf, low_of_lt (ux_lt ..), sx_ux hw hx]

/-- A signed field written and then spared reads as the value limited to its range. -/
theorem Spares.rdS_wrS (h : Spares fs (s.wrS d f x i j) t) (hs : s.regsOk = true) (hf : f ∈ fs) (hw : 0 < f.w) :
    t.rdS d f i j = satS f.w x := Spares.rdS_wr_ux h hs hf hw (satS_satS ..)

end

end Sys2Proof.Machine
end

section
/-!
PROOFS. The sigma-delta filters (R143 to R145).
-/
namespace Sys2Proof.Machine

/-! ## The main result with unit correction (R143) -/

/-- A whole quotient is given as it is. -/
theorem State.quot_of_emod_eq_zero (s : State) {num den : Int} (h : num % den = 0) : s.quot num den = (num / den, s) := if_pos h

/-- The shifted main result of a filter without an average. -/
def State.sdfShifted (s : State) (l : Lane) (n : Fin 12) (rising falling : List Bool) : Int :=
  sincSum (clampN 1 5 (s.rd (laneDie l) R.SDF_Fn_CFG.ORDER n)) (clampN 4 1024 (s.rd (laneDie l) R.SDF_Fn_CFG.OSR n)) 1
    (if s.on (laneDie l) R.SDF_Fn_CFG.EDGE n then falling else rising) / 2 ^ s.rd (laneDie l) R.SDF_Fn_CFG.SHIFT n

section
variable {s : State} {l : Lane} {n : Fin 12} {rising falling : List Bool}

/-- Unit correction leaves the shifted and saturated sum as it is, and no rounding is open. -/
theorem State.sdfValue_of_unit (hg : s.rd (laneDie l) R.SDF_Fn_APPLIED.GAIN n = 0)
    (ho : s.rd (laneDie l) R.SDF_Fn_APPLIED.OFFSET n = 0) (ha : s.rd (laneDie l) R.SDF_Fn_OUT.IAVG n ≤ 1) :
    s.sdfValue l n rising falling = (satS 32 (s.sdfShifted l n rising falling),
      satS 32 (s.sdfShifted l n rising falling) != s.sdfShifted l n rising falling, s) := by
  have havg : clampN 1 256 (s.rd (laneDie l) R.SDF_Fn_OUT.IAVG n) = 1 := by
    unfold clampN
    split
    · rfl
    · rw [if_neg (by omega)]
      omega
  have hgain : s.rdS (laneDie l) R.SDF_Fn_APPLIED.GAIN n = 0 := by unfold State.rdS; rw [hg]; rfl
  have hoffset : s.rdS (laneDie l) R.SDF_Fn_APPLIED.OFFSET n = 0 := by unfold State.rdS; rw [ho]; rfl
  have hunit : ∀ y : Int, s.quot (y * (2 ^ 16 + 0) + 0 * 2 ^ 30) (2 ^ 16) = (y, s) := fun y => by
    rw [State.quot_of_emod_eq_zero _ (by omega)]
    exact congrArg (·, s) (by omega)
  have hfit : ∀ y : Int, s.fit 32 (satS 32 y) = (satS 32 y, s) := fun y => if_pos (satS_satS ..)
  have havg' : ∀ y : Int, s.quot y (1 : Nat) = (y, s) := fun y =>
    (State.quot_of_emod_eq_zero _ (Int.emod_one y)).trans (congrArg (·, s) (Int.ediv_one y))
  unfold State.sdfValue
  dsimp only
  rw [havg, hgain, hoffset, havg']
  dsimp only
  rw [hunit]
  dsimp only
  rw [hfit]
  rfl

/-- A main result stored: the value with its stamp, `NEW`, and `SAT` where the shifted sum `y` saturated. -/
def State.sdfStored (s : State) (l : Lane) (n : Fin 12) (y : Int) : State :=
  (((s.wrS (laneDie l) R.SDF_Fn_DATA.DATA (satS 32 y) n).wr (laneDie l) R.SDF_Fn_STAMP.STAMP (s.laneTime l) n).set (laneDie l)
    R.SDF_Fn_STATUS.NEW n).when (satS 32 y != y) fun s => s.set (laneDie l) R.SDF_Fn_STATUS.SAT n

/-- A filter in use with unit correction and no average, whose results go to no other block. -/
structure UnitFilter (s : State) (l : Lane) (n : Fin 12) : Prop where
  past : s.past l 10 = true
  enabled : s.on (laneDie l) R.SDF_Fn_CFG.EN n = true
  gain : s.rd (laneDie l) R.SDF_Fn_APPLIED.GAIN n = 0
  offset : s.rd (laneDie l) R.SDF_Fn_APPLIED.OFFSET n = 0
  average : s.rd (laneDie l) R.SDF_Fn_OUT.IAVG n ≤ 1
  noEngine : s.on (laneDie l) R.SDF_Fn_OUT.DEST_CE n = false
  noAssay : s.on (laneDie l) R.SDF_Fn_OUT.DEST_ASY n = false

/-- A result whose destinations are off is stored and no more than an event. -/
theorem exec_sdfResult_unit (hs : s.regsOk = true) (h : UnitFilter s l n) :
    exec (.sdfResult l n rising falling) s =
      .next (((s.sdfStored l n (s.sdfShifted l n rising falling)).irq l R.SDF_Fn_OUT.IRQ_EN n).event l (.sdf n.val)) := by
  obtain ⟨hp, hen, hg, ho, ha, hce, hasy⟩ := h
  show execSdfResult l n rising falling s = _
  unfold execSdfResult
  dsimp only
  rw [if_pos (by rw [hp, hen]; rfl), State.sdfValue_of_unit hg ho ha]
  let dests := [R.SDF_Fn_OUT.DEST_CE, R.SDF_Fn_OUT.DEST_ASY]
  have h3 : Spares dests s ((s.sdfStored l n (s.sdfShifted l n rising falling)).irq l R.SDF_Fn_OUT.IRQ_EN n) :=
    (((((Spares.refl s).wr _ _ _ _ _ (by decide)).wr _ _ _ _ _ (by decide)).wr _ _ _ _ _ (by decide)).when _
      fun x => (Spares.refl x).wr _ _ _ _ _ (by decide)).irq ..
  have h5 := h3.event l (.sdf n.val) (by decide)
  have hce3 := (h3.on hs (d := laneDie l) (i := n) (j := 0) (f := R.SDF_Fn_OUT.DEST_CE) (by decide)).trans hce
  have hasy5 := (h5.on hs (d := laneDie l) (i := n) (j := 0) (f := R.SDF_Fn_OUT.DEST_ASY) (by decide)).trans hasy
  unfold State.sdfStored at hce3 hasy5 ⊢
  dsimp only
  rw [hce3, State.when_false, hasy5, State.when_false]

/-- A main result with unit correction shows with its stamp (R143). -/
theorem sdf_result_shows (hs : s.regsOk = true) (h : UnitFilter s l n) :
    leads (.sdfResult l n rising falling) s fun t =>
      t.rdS (laneDie l) R.SDF_Fn_DATA.DATA n = satS 32 (s.sdfShifted l n rising falling) ∧
      t.rd (laneDie l) R.SDF_Fn_STAMP.STAMP n = low 32 (s.laneTime l) ∧ t.rd (laneDie l) R.SDF_Fn_STATUS.NEW n = 1 ∧
      (satS 32 (s.sdfShifted l n rising falling) ≠ s.sdfShifted l n rising falling →
        t.rd (laneDie l) R.SDF_Fn_STATUS.SAT n = 1) := by
  refine leads_of_exec (exec_sdfResult_unit hs h) ?_
  generalize s.sdfShifted l n rising falling = y
  unfold State.sdfStored
  let x1 := s.wrS (laneDie l) R.SDF_Fn_DATA.DATA (satS 32 y) n
  let x2 := x1.wr (laneDie l) R.SDF_Fn_STAMP.STAMP (s.laneTime l) n
  let x3 := x2.set (laneDie l) R.SDF_Fn_STATUS.NEW n
  have h1 : x1.regsOk = true := State.wr_regsOk _ _ _ _ _ _ hs
  have h2 : x2.regsOk = true := State.wr_regsOk _ _ _ _ _ _ h1
  have h3 : x3.regsOk = true := State.wr_regsOk _ _ _ _ _ _ h2
  have htail : ∀ {fs : List Fld} (x : State), (∀ f ∈ fs, f.lo < 32) →
      Spares fs x ((x.irq l R.SDF_Fn_OUT.IRQ_EN n).event l (.sdf n.val)) :=
    fun x hf => ((Spares.refl x).irq ..).event _ _ hf
  have hend : ∀ {fs : List Fld}, (∀ f ∈ fs, R.SDF_Fn_STATUS.SAT.apart f = true) → (∀ f ∈ fs, f.lo < 32) →
      Spares fs x3 (((x3.when (satS 32 y != y) fun s => s.set (laneDie l) R.SDF_Fn_STATUS.SAT n).irq l
        R.SDF_Fn_OUT.IRQ_EN n).event l (.sdf n.val)) :=
    fun ha hf => ((Spares.refl x3).when _ fun x => (Spares.refl x).wr _ _ _ _ _ ha).trans (htail _ hf)
  refine ⟨?_, ?_, ?_, fun hy => ?_⟩
  · have h := (((Spares.refl (fs := [R.SDF_Fn_DATA.DATA]) x1).wr (laneDie l) R.SDF_Fn_STAMP.STAMP (s.laneTime l) n 0
      (by decide)).wr (laneDie l) R.SDF_Fn_STATUS.NEW 1 n 0 (by decide)).trans (hend (by decide) (by decide))
    exact (h.rdS_wrS hs (by decide) (by decide)).trans (satS_satS ..)
  · have h := ((Spares.refl (fs := [R.SDF_Fn_STAMP.STAMP]) x2).wr (laneDie l) R.SDF_Fn_STATUS.NEW 1 n 0 (by decide)).trans
      (hend (by decide) (by decide))
    exact h.rd_wr h1 (by decide)
  · exact (hend (fs := [R.SDF_Fn_STATUS.NEW]) (by decide) (by decide)).rd_wr h2 (by decide)
  · rw [bne_iff_ne.2 hy, State.when_true]
    exact (htail (fs := [R.SDF_Fn_STATUS.SAT]) _ (by decide)).rd_wr h3 (by decide)

end

/-! ## The comparators and the modulator faults (R144, R145) -/

/-- The fields of the filters that trips and the Assay read and never write. -/
def filterFlds : List Fld :=
  [R.SDF_Fn_TRIP_DATA.DATA, R.SDF_Fn_STATUS.HI, R.SDF_Fn_STATUS.LO, R.SDF_Fn_STATUS.STUCK, R.SDF_Fn_STATUS.CLK_FAULT,
   R.SDF_Fn_STATUS.VALID, R.SDF_STATUS.TRIP, R.SDF_STATUS.FAULT]

/-- The fields of a filter that its comparators do not show. -/
def comparedFlds : List Fld :=
  [R.SDF_Fn_TRIP_DATA.DATA, R.SDF_Fn_STATUS.STUCK, R.SDF_Fn_STATUS.CLK_FAULT, R.SDF_Fn_STATUS.VALID, R.SDF_STATUS.FAULT]

section
variable {fs : List Fld} {s t : State}

theorem Spares.tripSource (h : Spares fs s t) (l : Lane) (src : Nat) (active : Bool) (hf : fs ⊆ filterFlds) :
    Spares fs s (t.tripSource l src active) :=
  h.within (State.tripSource_within _ l src active (msk := 171802886276) (by decide) (Within.refl _)) fun f hm =>
    (by decide : ∀ f ∈ filterFlds, f.inM (4294967295 - 171802886276 % 4294967296) = true) f (hf hm)

theorem Spares.asySync (h : Spares fs s t) (l : Lane) (hf : fs ⊆ filterFlds) : Spares fs s (t.asySync l) :=
  h.within (State.asySync_within _ l (msk := 524288) (by decide) (Within.refl _)) fun f hm =>
    (by decide : ∀ f ∈ filterFlds, f.inM (4294967295 - 524288 % 4294967296) = true) f (hf hm)

end

section
variable {s : State} {l : Lane} {n : Fin 12}

theorem State.sdfTrip_spares (s : State) (l : Lane) (n : Fin 12) (hi lo : Bool) :
    Spares comparedFlds s (s.sdfTrip l n hi lo) :=
  ((((Spares.refl s).wr _ _ _ _ _ (by decide)).wr _ _ _ _ _ (by decide)).wr _ _ _ _ _ (by decide)).tripSource _ _ _ (by decide)
    |>.tripSource _ _ _ (by decide)

/-- The comparators show what they decided (R144). -/
theorem State.sdfTrip_reads (l : Lane) (n : Fin 12) (hi lo : Bool) (hs : s.regsOk = true) :
    (s.sdfTrip l n hi lo).rd (laneDie l) R.SDF_Fn_STATUS.HI n = b2n hi ∧
      (s.sdfTrip l n hi lo).rd (laneDie l) R.SDF_Fn_STATUS.LO n = b2n lo ∧
      (s.sdfTrip l n hi lo).rdBit (laneDie l) R.SDF_STATUS.TRIP n = (hi || lo) := by
  unfold State.sdfTrip
  let x1 := s.put (laneDie l) R.SDF_Fn_STATUS.HI hi n
  let x2 := x1.put (laneDie l) R.SDF_Fn_STATUS.LO lo n
  let x3 := x2.wrBit (laneDie l) R.SDF_STATUS.TRIP n (hi || lo)
  have h1 : x1.regsOk = true := State.wr_regsOk _ _ _ _ _ _ hs
  have h2 : x2.regsOk = true := State.wr_regsOk _ _ _ _ _ _ h1
  have htail : ∀ {fs : List Fld}, fs ⊆ filterFlds →
      Spares fs x3 ((x3.tripSource l (4 + n.val) hi).tripSource l (16 + n.val) lo) :=
    fun hf => ((Spares.refl x3).tripSource _ _ _ hf).tripSource _ _ _ hf
  have hlo : Spares [R.SDF_Fn_STATUS.HI, R.SDF_Fn_STATUS.LO] x2 x3 := (Spares.refl x2).wr _ _ _ _ _ (by decide)
  have hhi : Spares [R.SDF_Fn_STATUS.HI] x1 x2 := (Spares.refl x1).wr _ _ _ _ _ (by decide)
  refine ⟨?_, ?_, ?_⟩
  · exact (hhi.trans ((hlo.trans (htail (by decide))).mono (by decide))).rd_put hs (by decide) (by decide)
  · exact (hlo.trans (htail (by decide))).rd_put h1 (by decide) (by decide)
  · exact (htail (fs := [R.SDF_STATUS.TRIP]) (by decide)).rdBit_wrBit h2 (by decide) n.isLt

/-- The fast value of a filter over the newest bits (R144). -/
def State.sdfFast (s : State) (l : Lane) (n : Fin 12) (rising falling : List Bool) : Int :=
  satS 16 (sincSum (clampN 1 3 (s.rd (laneDie l) R.SDF_Fn_TRIP.ORDER n)) (clampN 4 64 (s.rd (laneDie l) R.SDF_Fn_TRIP.OSR n)) 1
    (if s.on (laneDie l) R.SDF_Fn_CFG.EDGE n then falling else rising) / 2 ^ s.rd (laneDie l) R.SDF_Fn_TRIP.TSHIFT n)

theorem exec_sdfTripCompare {rising falling : List Bool} (hp : s.past l 11 = true)
    (hen : s.on (laneDie l) R.SDF_Fn_TRIP.EN n = true) (hstuck : s.on (laneDie l) R.SDF_Fn_STATUS.STUCK n = false)
    (hclk : s.on (laneDie l) R.SDF_Fn_STATUS.CLK_FAULT n = false) :
    let v := s.sdfFast l n rising falling
    exec (.sdfTripCompare l n rising falling) s =
      .next ((s.wr (laneDie l) R.SDF_Fn_TRIP_DATA.DATA (ux 16 v) n).sdfTrip l n
        (decide (s.rdS (laneDie l) R.SDF_Fn_THR.HI n ≤ v)) (decide (v ≤ s.rdS (laneDie l) R.SDF_Fn_THR.LO n))) := by
  intro v
  refine congrArg Host.Outcome.next ((if_pos (by rw [hp, hen]; rfl)).trans (if_neg ?_))
  rw [hstuck, hclk]
  decide

/-- A fast value is compared with both thresholds (R144). -/
theorem sdf_fast_value_compared {rising falling : List Bool} (hs : s.regsOk = true) (hp : s.past l 11 = true)
    (hen : s.on (laneDie l) R.SDF_Fn_TRIP.EN n = true) (hstuck : s.on (laneDie l) R.SDF_Fn_STATUS.STUCK n = false)
    (hclk : s.on (laneDie l) R.SDF_Fn_STATUS.CLK_FAULT n = false) :
    leads (.sdfTripCompare l n rising falling) s fun t =>
      let v := s.sdfFast l n rising falling
      let hi := decide (s.rdS (laneDie l) R.SDF_Fn_THR.HI n ≤ v)
      let lo := decide (v ≤ s.rdS (laneDie l) R.SDF_Fn_THR.LO n)
      t.rdS (laneDie l) R.SDF_Fn_TRIP_DATA.DATA n = v ∧ t.rd (laneDie l) R.SDF_Fn_STATUS.HI n = b2n hi ∧
      t.rd (laneDie l) R.SDF_Fn_STATUS.LO n = b2n lo ∧ t.rdBit (laneDie l) R.SDF_STATUS.TRIP n = (hi || lo) := by
  refine leads_of_exec (exec_sdfTripCompare hp hen hstuck hclk)
    ⟨?_, State.sdfTrip_reads l n _ _ (State.wr_regsOk _ _ _ _ _ _ hs)⟩
  exact (State.sdfTrip_spares _ l n _ _).rdS_wr_ux hs (by decide) (by decide) (satS_satS ..)

/-- Filter `n` is marked faulty by `flag`, its comparators inactive (R145). -/
structure FilterFaulty (l : Lane) (n : Fin 12) (flag : Fld) (t : State) : Prop where
  flag : t.rd (laneDie l) flag n = 1
  invalid : t.rd (laneDie l) R.SDF_Fn_STATUS.VALID n = 0
  fault : t.rdBit (laneDie l) R.SDF_STATUS.FAULT n = true
  hi : t.rd (laneDie l) R.SDF_Fn_STATUS.HI n = 0
  lo : t.rd (laneDie l) R.SDF_Fn_STATUS.LO n = 0

/-- A modulator fault marks its filter, and the Assay leaves the marks alone (R145). -/
theorem State.sdfFault_marks (l : Lane) (n : Fin 12) {flag : Fld} (hs : s.regsOk = true)
    (hflag : flag ∈ [R.SDF_Fn_STATUS.STUCK, R.SDF_Fn_STATUS.CLK_FAULT]) :
    FilterFaulty l n flag ((s.sdfFault l n flag).asySync l) := by
  unfold State.sdfFault
  let x1 := s.set (laneDie l) flag n
  let x2 := x1.clr (laneDie l) R.SDF_Fn_STATUS.VALID n
  let x3 := x2.wrBit (laneDie l) R.SDF_STATUS.FAULT n true
  have h1 : x1.regsOk = true := State.wr_regsOk _ _ _ _ _ _ hs
  have h2 : x2.regsOk = true := State.wr_regsOk _ _ _ _ _ _ h1
  have h3 : x3.regsOk = true := State.wr_regsOk _ _ _ _ _ _ h2
  have hlast : ∀ {fs : List Fld} (x : State), fs ⊆ filterFlds → Spares fs x ((x.tripSource l (28 + n.val) true).asySync l) :=
    fun x hf => ((Spares.refl x).tripSource _ _ _ hf).asySync _ hf
  have htail := (State.sdfTrip_spares x3 l n false false).trans (hlast _ (by decide))
  have hfault : Spares [R.SDF_Fn_STATUS.STUCK, R.SDF_Fn_STATUS.CLK_FAULT, R.SDF_Fn_STATUS.VALID] x2 x3 :=
    (Spares.refl x2).wr _ _ _ _ _ (by decide)
  have hvalid : Spares [R.SDF_Fn_STATUS.STUCK, R.SDF_Fn_STATUS.CLK_FAULT] x1 x2 := (Spares.refl x1).wr _ _ _ _ _ (by decide)
  have hread := State.sdfTrip_reads l n false false h3
  have hshown : Spares [R.SDF_Fn_STATUS.HI, R.SDF_Fn_STATUS.LO] _ _ := hlast (x3.sdfTrip l n false false) (by decide)
  have hok : (x3.sdfTrip l n false false).regsOk = true := (State.sdfTrip_spares x3 l n false false).ok h3
  have hx := hfault.trans (htail.mono (by decide))
  exact
    { flag := ((hvalid.trans (hx.mono (by decide))).rd_wr hs hflag).trans (by
        simp only [List.mem_cons, List.not_mem_nil, or_false] at hflag
        rcases hflag with rfl | rfl <;> rfl)
      invalid := hx.rd_wr h1 (by decide)
      fault := htail.rdBit_wrBit h2 (by decide) n.isLt
      hi := (hshown.rd hok _ _ _ _ (by decide)).trans hread.1
      lo := (hshown.rd hok _ _ _ _ (by decide)).trans hread.2.1 }

theorem exec_sdfStuck (hp : s.past l 11 = true) (hen : s.on (laneDie l) R.SDF_Fn_CFG.EN n = true) :
    exec (.sdfStuck l n) s = .next ((s.sdfFault l n R.SDF_Fn_STATUS.STUCK).asySync l) :=
  congrArg Host.Outcome.next (if_pos (by rw [hp, hen]; rfl))

theorem exec_sdfClkFault (hp : s.past l 11 = true) (hen : s.on (laneDie l) R.SDF_Fn_CFG.EN n = true)
    (hext : s.on (laneDie l) R.SDF_Fn_CFG.CLK_EXT n = true) :
    exec (.sdfClkFault l n) s = .next ((s.sdfFault l n R.SDF_Fn_STATUS.CLK_FAULT).asySync l) :=
  congrArg Host.Outcome.next (if_pos (by rw [hp, hen, hext]; rfl))

theorem exec_sdfRefilled (hp : s.past l 11 = true) (hen : s.on (laneDie l) R.SDF_Fn_CFG.EN n = true)
    (hstuck : s.on (laneDie l) R.SDF_Fn_STATUS.STUCK n = false)
    (hclk : s.on (laneDie l) R.SDF_Fn_STATUS.CLK_FAULT n = false) :
    exec (.sdfRefilled l n) s =
      .next (((s.set (laneDie l) R.SDF_Fn_STATUS.VALID n).sdfCleared l n).asySync l) :=
  congrArg Host.Outcome.next (if_pos (by rw [hp, hen, hstuck, hclk]; rfl))

/-- A refilled filter without a fault is valid again (R145). -/
theorem sdf_refilled_valid (hs : s.regsOk = true) (hp : s.past l 11 = true)
    (hen : s.on (laneDie l) R.SDF_Fn_CFG.EN n = true) (hstuck : s.on (laneDie l) R.SDF_Fn_STATUS.STUCK n = false)
    (hclk : s.on (laneDie l) R.SDF_Fn_STATUS.CLK_FAULT n = false) :
    leads (.sdfRefilled l n) s fun t =>
      t.rd (laneDie l) R.SDF_Fn_STATUS.VALID n = 1 ∧ t.rdBit (laneDie l) R.SDF_STATUS.FAULT n = false := by
  refine leads_of_exec (exec_sdfRefilled hp hen hstuck hclk) ?_
  let x1 := s.set (laneDie l) R.SDF_Fn_STATUS.VALID n
  let x2 := x1.wrBit (laneDie l) R.SDF_STATUS.FAULT n false
  have h1 : x1.regsOk = true := State.wr_regsOk _ _ _ _ _ _ hs
  have hvalid : Spares [R.SDF_Fn_STATUS.STUCK, R.SDF_Fn_STATUS.CLK_FAULT] s x1 := (Spares.refl s).wr _ _ _ _ _ (by decide)
  have hclear : x1.sdfCleared l n = x2.tripSource l (28 + n.val) false := if_neg (by
    rw [hvalid.on hs (by decide), hvalid.on hs (by decide), hstuck, hclk]
    decide)
  have hfault : Spares [R.SDF_Fn_STATUS.VALID] x1 x2 := (Spares.refl x1).wr _ _ _ _ _ (by decide)
  have htail : Spares [R.SDF_Fn_STATUS.VALID, R.SDF_STATUS.FAULT] x2 ((x2.tripSource l (28 + n.val) false).asySync l) :=
    ((Spares.refl x2).tripSource _ _ _ (by decide)).asySync _ (by decide)
  show ((x1.sdfCleared l n).asySync l).rd _ _ _ = 1 ∧ ((x1.sdfCleared l n).asySync l).rdBit _ _ _ = false
  rw [hclear]
  exact ⟨(hfault.trans (htail.mono (by decide))).rd_wr hs (by decide), htail.rdBit_wrBit h1 (by decide) n.isLt⟩

end

/-- Settles O15, command by command: the writes of a command are read back through what comes after them, which spares the
filters' fields. -/
theorem sigmaDeltaFiltersReportAndTrip : Obligations.SigmaDeltaFiltersReportAndTrip := by
  unfold Obligations.SigmaDeltaFiltersReportAndTrip
  refine ⟨fun s l n rising falling hs hp hen hg ho ha hce hasy =>
      sdf_result_shows (canonical_regs hs) ⟨hp, hen, hg, ho, ha, hce, hasy⟩,
    fun s l n rising falling hs => sdf_fast_value_compared (canonical_regs hs), fun s l n hs hp hen => ?_,
    fun s l n hs hp hen hext => ?_, fun s l n hs => sdf_refilled_valid (canonical_regs hs)⟩
  · obtain ⟨h1, h2, h3, h4, h5⟩ := State.sdfFault_marks l n (flag := R.SDF_Fn_STATUS.STUCK) (canonical_regs hs) (by simp)
    exact leads_of_exec (exec_sdfStuck hp hen) ⟨h1, h2, h3, h4, h5⟩
  · obtain ⟨h1, h2, h3, h4, h5⟩ := State.sdfFault_marks l n (flag := R.SDF_Fn_STATUS.CLK_FAULT) (canonical_regs hs) (by simp)
    exact leads_of_exec (exec_sdfClkFault hp hen hext) ⟨h1, h2, h3, h4, h5⟩

end Sys2Proof.Machine
end

section
/-!
PROOFS. The corrections of the converters: slice estimates (R132, R133), written channel corrections (R135, R136) and the system
calibration (R140, R141, R148).
-/
namespace Sys2Proof.Machine

/-! ## Lists of independent updates -/

/-- Of updates made for a list without duplicates, an element of the table sees its own alone. -/
theorem foldl_upd_each_get {α : Type} {n : Nat} (f : Fin n → α → α) (k : Fin n) :
    ∀ {xs : List (Fin n)} (v : Vector α n), xs.Nodup →
      (xs.foldl (fun v i => upd v i (f i)) v)[k] = if k ∈ xs then f k v[k] else v[k]
  | [], v, _ => by simp
  | i :: r, v, h => by
    obtain ⟨hi, hr⟩ := List.nodup_cons.1 h
    rw [List.foldl_cons, foldl_upd_each_get f k _ hr, upd_get]
    by_cases hk : k = i
    · subst hk
      simp [hi]
    · simp [hk]

section
variable {α : Type} {f : State → α → State} {R : State → State → Prop}

/-- Updates that all stay within a preorder stay within it together. -/
theorem State.each_related (hrefl : ∀ s, R s s) (htrans : ∀ {s t u}, R s t → R t u → R s u) {xs : List α}
    (hf : ∀ s, ∀ x ∈ xs, R s (f s x)) (s : State) : R s (s.each xs f) := by
  induction xs generalizing s with
  | nil => exact hrefl s
  | cons x r ih =>
    exact htrans (hf s x (List.mem_cons_self ..)) (ih (fun t y hy => hf t y (List.mem_cons_of_mem _ hy)) _)

/-- Where the updates for all other elements stay within a preorder, the update for `k` is the only one outside it. -/
theorem State.each_of_mem {k : α} (hrefl : ∀ s, R s s) (htrans : ∀ {s t u}, R s t → R t u → R s u)
    (hf : ∀ s x, x ≠ k → R s (f s x)) {xs : List α} (hn : xs.Nodup) (hk : k ∈ xs) (s : State) :
    ∃ u, R s u ∧ R (f u k) (s.each xs f) := by
  induction xs generalizing s with
  | nil => exact absurd hk List.not_mem_nil
  | cons x r ih =>
    obtain ⟨hx, hr⟩ := List.nodup_cons.1 hn
    rcases List.mem_cons.1 hk with rfl | hk
    · exact ⟨s, hrefl s, State.each_related hrefl htrans (fun t y hy => hf t y fun e => hx (e ▸ hy)) _⟩
    · obtain ⟨u, hu, hlast⟩ := ih hr hk (f s x)
      exact ⟨u, htrans (hf s x fun e => hx (e ▸ hk)) hu, hlast⟩

end

/-! ## What a lane's converters hold through the state's operations -/

theorem State.grp_wr (s : State) (d : Die) (f : Fld) (v i j : Nat) (l : Lane) (g : Fin 12) :
    (s.wr d f v i j).grp l g = s.grp l g := congrArg (fun r : LaneRun => r.adc.groups[g]) (State.wr_run ..)

theorem State.grp_modGrp (s : State) (l : Lane) (g : Fin 12) (f : AdcGroup → AdcGroup) :
    (s.modGrp l g f).grp l g = f (s.grp l g) := by
  unfold State.grp State.modGrp State.modAdc
  rw [State.modRun_run]
  exact (upd_get ..).trans (if_pos rfl)

/-! ## The slice estimators (R132, R133) -/

/-- A field at another second index is as it was. -/
theorem State.rd_wr_second (s : State) (d e : Die) (f g : Fld) (v i j i' j' : Nat) (h : s.regsOk = true)
    (hj : j % 4096 ≠ j' % 4096) : (s.wr d f v i j).rd e g i' j' = s.rd e g i' j' := by
  refine s.rd_wr_other d e f g v i j i' j' h fun hk => hj ?_
  unfold Fld.key at hk
  omega

/-- From `s` to `t` neither the coefficients of slice `k` of group `g` nor what a lane runs changed. -/
structure SliceStands (l : Lane) (g : Nat) (k : Fin 4) (s t : State) : Prop where
  ok : s.regsOk = true → t.regsOk = true
  run : t.run l = s.run l
  rd : s.regsOk = true → ∀ f ∈ [R.ADC_Gg_Sk_OG.OFFSET, R.ADC_Gg_Sk_OG.GAIN],
    t.rd (laneDie l) f g k = s.rd (laneDie l) f g k

section
variable {s t u : State} {l : Lane} {g : Nat} {k : Fin 4}

theorem SliceStands.refl (s : State) : SliceStands l g k s s := ⟨id, rfl, fun _ _ _ => rfl⟩

theorem SliceStands.trans (h : SliceStands l g k s t) (h' : SliceStands l g k t u) : SliceStands l g k s u :=
  ⟨fun x => h'.ok (h.ok x), h'.run.trans h.run, fun x f hf => (h'.rd (h.ok x) f hf).trans (h.rd x f hf)⟩

theorem SliceStands.rdS (h : SliceStands l g k s t) (hs : s.regsOk = true) {f : Fld}
    (hf : f ∈ [R.ADC_Gg_Sk_OG.OFFSET, R.ADC_Gg_Sk_OG.GAIN]) :
    t.rdS (laneDie l) f g k = s.rdS (laneDie l) f g k := by
  unfold State.rdS
  rw [h.rd hs f hf]

/-- A write for another slice. -/
theorem SliceStands.wr_other (h : SliceStands l g k s t) {x : Fin 4} (hx : x ≠ k) (f : Fld) (v : Nat) :
    SliceStands l g k s (t.wr (laneDie l) f v g x) :=
  h.trans ⟨State.wr_regsOk _ _ _ _ _ _, State.wr_run .., fun ht _ _ => State.rd_wr_second _ _ _ _ _ _ _ _ _ _ ht (by
    have := Fin.val_ne_of_ne hx
    omega)⟩

theorem State.stepSlice_stands (s : State) (e : Int × Int × Int) {x : Fin 4} (hx : x ≠ k) :
    SliceStands l g k s (s.stepSlice l g x e) :=
  (((SliceStands.refl s).wr_other hx _ _).wr_other hx _ _).wr_other hx _ _

/-- A slice's own coefficients move one step towards its estimate. -/
theorem State.stepSlice_moves (e : Int × Int × Int) (hs : s.regsOk = true) :
    (s.stepSlice l g k e).rdS (laneDie l) R.ADC_Gg_Sk_OG.OFFSET g k =
        satS R.ADC_Gg_Sk_OG.OFFSET.w (stepTo (s.rdS (laneDie l) R.ADC_Gg_Sk_OG.OFFSET g k) e.1) ∧
      (s.stepSlice l g k e).rdS (laneDie l) R.ADC_Gg_Sk_OG.GAIN g k =
        satS R.ADC_Gg_Sk_OG.GAIN.w (stepTo (s.rdS (laneDie l) R.ADC_Gg_Sk_OG.GAIN g k) e.2.1) := by
  let x1 := s.wrS (laneDie l) R.ADC_Gg_Sk_OG.OFFSET (stepTo (s.rdS (laneDie l) R.ADC_Gg_Sk_OG.OFFSET g k) e.1) g k
  have h1 : x1.regsOk = true := State.wr_regsOk _ _ _ _ _ _ hs
  have hskew : ∀ (x : State), Spares [R.ADC_Gg_Sk_OG.OFFSET, R.ADC_Gg_Sk_OG.GAIN] x
      (x.wrS (laneDie l) R.ADC_Gg_Sk_SKEW.SKEW (stepTo (s.rdS (laneDie l) R.ADC_Gg_Sk_SKEW.SKEW g k) e.2.2) g k) :=
    fun x => (Spares.refl x).wr _ _ _ _ _ (by decide)
  unfold State.stepSlice
  exact ⟨(((Spares.refl (fs := [R.ADC_Gg_Sk_OG.OFFSET]) x1).wr _ _ _ _ _ (by decide)).trans
    ((hskew _).mono (by decide))).rdS_wrS hs (by decide) (by decide), (hskew _).rdS_wrS h1 (by decide) (by decide)⟩

theorem State.stepSlice_regsOk (e : Int × Int × Int) (hs : s.regsOk = true) : (s.stepSlice l g k e).regsOk = true :=
  State.wr_regsOk _ _ _ _ _ _ (State.wr_regsOk _ _ _ _ _ _ (State.wr_regsOk _ _ _ _ _ _ hs))

end

section
variable {s : State} {l : Lane} {g : Fin 12}

/-- The applied coefficients of all slices of a group moved one step towards their estimates (R133). -/
def State.stepSlices (s : State) (l : Lane) (g : Fin 12) : State :=
  s.each (List.finRange 4) fun s k => s.stepSlice l g k (s.grp l g).est[k]

theorem State.stepSlices_spares (s : State) : Spares [R.ADC_Gg_STATUS.LOW_SIGNAL] s (s.stepSlices l g) :=
  (Spares.refl s).each _ fun x _ =>
    (((Spares.refl x).wr _ _ _ _ _ (by decide)).wr _ _ _ _ _ (by decide)).wr _ _ _ _ _ (by decide)

/-- Of the steps of all slices each slice sees its own. -/
theorem State.stepSlices_move (k : Fin 4) (hs : s.regsOk = true) :
    (s.stepSlices l g).grp l g = s.grp l g ∧
      (s.stepSlices l g).rdS (laneDie l) R.ADC_Gg_Sk_OG.OFFSET g k = satS R.ADC_Gg_Sk_OG.OFFSET.w
        (stepTo (s.rdS (laneDie l) R.ADC_Gg_Sk_OG.OFFSET g k) (s.grp l g).est[k].1) ∧
      (s.stepSlices l g).rdS (laneDie l) R.ADC_Gg_Sk_OG.GAIN g k = satS R.ADC_Gg_Sk_OG.GAIN.w
        (stepTo (s.rdS (laneDie l) R.ADC_Gg_Sk_OG.GAIN g k) (s.grp l g).est[k].2.1) := by
  obtain ⟨u, hu, ht⟩ := State.each_of_mem (R := SliceStands l g k) (k := k) SliceStands.refl SliceStands.trans
    (fun x i hi => x.stepSlice_stands (x.grp l g).est[i] hi) (List.nodup_finRange 4) (List.mem_finRange k) s
  have hgrp : u.grp l g = s.grp l g := congrArg (fun r : LaneRun => r.adc.groups[g]) hu.run
  have hok := State.stepSlice_regsOk (l := l) (g := g) (k := k) (u.grp l g).est[k] (hu.ok hs)
  obtain ⟨ho, hg⟩ := State.stepSlice_moves (l := l) (g := g) (k := k) (u.grp l g).est[k] (hu.ok hs)
  have hrun : (u.stepSlice l g k (u.grp l g).est[k]).run l = u.run l := by
    unfold State.stepSlice State.wrS
    rw [State.wr_run, State.wr_run, State.wr_run]
  unfold State.stepSlices
  rw [ht.rdS hok (by decide), ht.rdS hok (by decide), ho, hg, hu.rdS hs (by decide), hu.rdS hs (by decide), hgrp]
  exact ⟨congrArg (fun r : LaneRun => r.adc.groups[g]) (ht.run.trans (hrun.trans hu.run)), rfl, rfl⟩

/-- The estimates of a group taken over, with the mark of a low signal (R132). -/
def State.takeEstimates (s : State) (l : Lane) (g : Fin 12) (est : List (Int × Int × Int)) (quiet : Bool) : State :=
  (s.modGrp l g fun x =>
    { x with
      stepAt := (s.grp l g).elig
      est := (List.finRange 4).foldl (fun v k => upd v k fun old =>
        newEst (s.rd (laneDie l) R.ADC_Gg_CFG.MODE g == 1 && !s.forResolver l g) quiet (k.val == 0) old
          (est.getD k.val (0, 0, 0))) x.est }).put (laneDie l) R.ADC_Gg_STATUS.LOW_SIGNAL quiet g

variable {est : List (Int × Int × Int)} {quiet : Bool}

theorem State.takeEstimates_est {k : Fin 4} {o g' k' : Int} (he : est[k.val]? = some (o, g', k')) :
    ((s.takeEstimates l g est quiet).grp l g).est[k].1 = o ∧
      ((s.takeEstimates l g est quiet).grp l g).est[k].2.1 = if quiet then (s.grp l g).est[k].2.1 else g' := by
  unfold State.takeEstimates
  rw [State.put_eq, State.grp_wr, State.grp_modGrp]
  dsimp only
  rw [foldl_upd_each_get _ _ _ (List.nodup_finRange 4), if_pos (List.mem_finRange k), List.getD_eq_getElem?_getD, he]
  exact ⟨rfl, rfl⟩

/-- A step of the estimator that is due. -/
theorem exec_adcEstStep (hp : s.past l 11 = true) (hen : s.on (laneDie l) R.ADC_CTRL.EST_EN = true)
    (h0 : 0 < (s.grp l g).elig) (h16 : (s.grp l g).elig % 2 ^ 16 = 0) (hat : (s.grp l g).stepAt ≠ (s.grp l g).elig) :
    let u := s.takeEstimates l g est quiet
    let held := s.on (laneDie l) R.ADC_Gg_CFG.EST_FREEZE g || decide ((s.grp l g).elig < 2 ^ 20)
    exec (.adcEstStep l g est quiet) s = .next (if held then u else
      (u.stepSlices l g).wr (laneDie l) R.ADC_Gg_STATUS.EST_STATE (if (u.stepSlices l g).settled l g then 2 else 1) g) :=
  congrArg Host.Outcome.next (if_pos (by rw [h16]; simp [hp, hen, h0, hat]))

/-- At a step of the estimator the estimates are taken over, and from 2^20 samples on each coefficient not frozen moves one
step (R132, R133). -/
theorem est_step_moves {k : Fin 4} {o g' k' : Int} (hs : s.regsOk = true) (hp : s.past l 11 = true)
    (hen : s.on (laneDie l) R.ADC_CTRL.EST_EN = true) (h0 : 0 < (s.grp l g).elig) (h16 : (s.grp l g).elig % 2 ^ 16 = 0)
    (hat : (s.grp l g).stepAt ≠ (s.grp l g).elig) (he : est[k.val]? = some (o, g', k')) :
    leads (.adcEstStep l g est quiet) s fun t =>
      let d := laneDie l
      let held := s.on d R.ADC_Gg_CFG.EST_FREEZE g || decide ((s.grp l g).elig < 2 ^ 20)
      let goal := if quiet then (s.grp l g).est[k].2.1 else g'
      (t.grp l g).est[k].1 = o ∧ (t.grp l g).est[k].2.1 = goal ∧
      t.rd d R.ADC_Gg_STATUS.LOW_SIGNAL g = b2n quiet ∧
      (held = true → t.rd d R.ADC_Gg_Sk_OG.OFFSET g k = s.rd d R.ADC_Gg_Sk_OG.OFFSET g k ∧
        t.rd d R.ADC_Gg_Sk_OG.GAIN g k = s.rd d R.ADC_Gg_Sk_OG.GAIN g k) ∧
      (held = false →
        t.rdS d R.ADC_Gg_Sk_OG.OFFSET g k =
          satS R.ADC_Gg_Sk_OG.OFFSET.w (stepTo (s.rdS d R.ADC_Gg_Sk_OG.OFFSET g k) o) ∧
        t.rdS d R.ADC_Gg_Sk_OG.GAIN g k =
          satS R.ADC_Gg_Sk_OG.GAIN.w (stepTo (s.rdS d R.ADC_Gg_Sk_OG.GAIN g k) goal)) := by
  have hexec := exec_adcEstStep (est := est) (quiet := quiet) hp hen h0 h16 hat
  obtain ⟨hest, hgoal⟩ := State.takeEstimates_est (s := s) (l := l) (g := g) (quiet := quiet) he
  have hcoef : Spares [R.ADC_Gg_Sk_OG.OFFSET, R.ADC_Gg_Sk_OG.GAIN] s (s.takeEstimates l g est quiet) :=
    ((Spares.refl s).modRun l _).wr _ _ _ _ _ (by decide)
  have hlow : (s.takeEstimates l g est quiet).rd (laneDie l) R.ADC_Gg_STATUS.LOW_SIGNAL g = b2n quiet :=
    (Spares.refl (fs := [R.ADC_Gg_STATUS.LOW_SIGNAL]) _).rd_put ((State.regsOk_modRun ..).trans hs) (by decide) (by decide)
  generalize s.takeEstimates l g est quiet = u at *
  cases hheld : s.on (laneDie l) R.ADC_Gg_CFG.EST_FREEZE g || decide ((s.grp l g).elig < 2 ^ 20) with
  | true =>
    rw [hheld] at hexec
    exact leads_of_exec (t := u) hexec ⟨hest, hgoal, hlow,
      fun _ => ⟨hcoef.rd hs _ _ _ _ (by decide), hcoef.rd hs _ _ _ _ (by decide)⟩,
      fun h => absurd (hheld.symm.trans h) (by decide)⟩
  | false =>
    simp only [hheld, Bool.false_eq_true, if_false] at hexec
    have hok := hcoef.ok hs
    have hstep := u.stepSlices_spares (l := l) (g := g)
    obtain ⟨hgrp, ho, hg⟩ := State.stepSlices_move (l := l) (g := g) k hok
    rw [hest, hcoef.rdS hs (by decide)] at ho
    rw [hgoal, hcoef.rdS hs (by decide)] at hg
    generalize u.stepSlices l g = x at *
    have hok' := hstep.ok hok
    have hend : Spares [R.ADC_Gg_Sk_OG.OFFSET, R.ADC_Gg_Sk_OG.GAIN, R.ADC_Gg_STATUS.LOW_SIGNAL] x
        (x.wr (laneDie l) R.ADC_Gg_STATUS.EST_STATE (if x.settled l g then 2 else 1) g) :=
      (Spares.refl x).wr _ _ _ _ _ (by decide)
    have hgrp' := (State.grp_wr x (laneDie l) R.ADC_Gg_STATUS.EST_STATE (if x.settled l g then 2 else 1) g 0 l g).trans hgrp
    refine leads_of_exec hexec ⟨(congrArg (·.est[k].1) hgrp').trans hest, (congrArg (·.est[k].2.1) hgrp').trans hgoal, ?_,
      fun h => absurd (hheld.symm.trans h) (by decide), fun _ => ⟨?_, ?_⟩⟩
    · exact (hend.rd hok' _ _ _ _ (by decide)).trans ((hstep.rd hok _ _ _ _ (by decide)).trans hlow)
    · exact (hend.rdS hok' (by decide)).trans ho
    · exact (hend.rdS hok' (by decide)).trans hg

end

end Sys2Proof.Machine
end

section
/-!
PROOFS. A channel's written correction (R135, R136) and the system calibration (R140, R141, R148).
-/
namespace Sys2Proof.Machine

section
variable {s : State} {l : Lane}

/-! ## A written correction (R135, R136) -/

theorem corrRegs_channel {k : Nat} (hk : k < 64) : corrRegs k =
    { gain := R.ADC_CHc_CORR.GAIN, offset := R.ADC_CHc_CORR.OFFSET, aGain := R.ADC_CHc_APPLIED.GAIN,
      aOffset := R.ADC_CHc_APPLIED.OFFSET, state := R.ADC_CHc_ENV.STATE, moving := R.ADC_CHc_ENV.MOVING,
      bound := R.ADC_CHc_ENV.BOUND, i := k } := if_pos hk

theorem State.modCorr_channel (s : State) (l : Lane) {k : Nat} (hk : k < 64) (f : Corr → Corr) :
    s.modCorr l k f = s.modAdc l fun a => { a with chans := upd a.chans (chIdx k) f } := if_pos hk

theorem State.corr_wr (s : State) (d : Die) (f : Fld) (v i j : Nat) (l : Lane) (k : Nat) :
    (s.wr d f v i j).corr l k = s.corr l k := by
  unfold State.corr
  rw [State.wr_run]

theorem State.corr_modCorr (s : State) (l : Lane) {k : Nat} (hk : k < 64) (f : Corr → Corr) :
    (s.modCorr l k f).corr l k = f (s.corr l k) := by
  unfold State.corr
  rw [State.modCorr_channel s l hk, if_pos hk, if_pos hk, State.modAdc, State.modRun_run]
  exact (upd_get ..).trans (if_pos rfl)

theorem Spares.modCorr {fs : List Fld} {t : State} (h : Spares fs s t) {k : Nat} (hk : k < 64) (f : Corr → Corr) :
    Spares fs s (t.modCorr l k f) := by
  rw [State.modCorr_channel t l hk]
  exact h.modRun l _

/-- A channel's move to a written correction has begun (R135). -/
structure MoveBegun (s : State) (l : Lane) (k : Nat) (t : State) : Prop where
  written : Spares [R.ADC_CHc_CORR.GAIN, R.ADC_CHc_CORR.OFFSET] s t
  state : t.rd (laneDie l) R.ADC_CHc_ENV.STATE k = envNone
  moving : t.rd (laneDie l) R.ADC_CHc_ENV.MOVING k = 1
  record : (t.corr l k).record = (s.corr l k).record
  move : (t.corr l k).move.map (fun m => ((m.fromG, m.fromO), (m.toG, m.toO), m.k)) =
    some ((s.rdS (laneDie l) R.ADC_CHc_APPLIED.GAIN k, s.rdS (laneDie l) R.ADC_CHc_APPLIED.OFFSET k),
      (s.rdS (laneDie l) R.ADC_CHc_CORR.GAIN k, s.rdS (laneDie l) R.ADC_CHc_CORR.OFFSET k), 0)

theorem State.startMove_begun {k : Nat} (hk : k < 64) (bound : Nat) (hs : s.regsOk = true) :
    MoveBegun s l k (s.startMove l k envNone bound) := by
  unfold State.startMove State.targetOf
  rw [corrRegs_channel hk]
  dsimp only
  rw [if_pos rfl]
  generalize hmv : (⟨_, _, _, _, _, _, _⟩ : CoefMove) = mv
  let x1 := s.modCorr l k fun c => { c with move := some mv }
  let x2 := x1.wr (laneDie l) R.ADC_CHc_ENV.STATE envNone k
  let x3 := x2.set (laneDie l) R.ADC_CHc_ENV.MOVING k
  have hcorr : Spares [R.ADC_CHc_CORR.GAIN, R.ADC_CHc_CORR.OFFSET] s x1 := (Spares.refl s).modCorr hk _
  have h1 : x1.regsOk = true := hcorr.ok hs
  have h2 : x2.regsOk = true := State.wr_regsOk _ _ _ _ _ _ h1
  have hbound : ∀ b, Spares [R.ADC_CHc_ENV.STATE, R.ADC_CHc_ENV.MOVING] x3 (x3.wrSat (laneDie l) R.ADC_CHc_ENV.BOUND b k) :=
    fun b => (Spares.refl x3).wr _ _ _ _ _ (by decide)
  have hmoving : Spares [R.ADC_CHc_ENV.STATE] x2 x3 := (Spares.refl x2).wr _ _ _ _ _ (by decide)
  have hnow : ∀ b, (x3.wrSat (laneDie l) R.ADC_CHc_ENV.BOUND b k).corr l k = { s.corr l k with move := some mv } := fun b =>
    (State.corr_wr ..).trans ((State.corr_wr ..).trans ((State.corr_wr ..).trans (State.corr_modCorr s l hk _)))
  exact
    { written := ((hcorr.wr _ _ _ _ _ (by decide)).wr _ _ _ _ _ (by decide)).wr _ _ _ _ _ (by decide)
      state := (hmoving.trans ((hbound _).mono (by decide))).rd_wr h1 (by decide)
      moving := (hbound _).rd_wr h2 (by decide)
      record := (congrArg Corr.record (hnow (max (s.rd (laneDie l) R.ADC_CHc_ENV.BOUND k) bound)) :)
      move := by
        rw [congrArg Corr.move (hnow _), ← hmv]
        rfl }

/-- The correction of channel `k` has been written: the channel is detached from its record and its move begins. -/
structure CorrWritten (s : State) (l : Lane) (k g o : Nat) (t : State) : Prop where
  ok : t.regsOk = true
  gain : t.rd (laneDie l) R.ADC_CHc_CORR.GAIN k = low 16 g
  offset : t.rd (laneDie l) R.ADC_CHc_CORR.OFFSET k = low 16 o
  state : t.rd (laneDie l) R.ADC_CHc_ENV.STATE k = envNone
  moving : t.rd (laneDie l) R.ADC_CHc_ENV.MOVING k = 1
  record : (t.corr l k).record = none
  move : (t.corr l k).move.map (fun m => ((m.fromG, m.fromO), (m.toG, m.toO), m.k)) =
    some ((s.rdS (laneDie l) R.ADC_CHc_APPLIED.GAIN k, s.rdS (laneDie l) R.ADC_CHc_APPLIED.OFFSET k),
      (sx 16 (low 16 g), sx 16 (low 16 o)), 0)

theorem State.corrWrite_written {k : Nat} (hk : k < 64) (g o : Nat) (hs : s.regsOk = true) :
    CorrWritten s l k g o (s.corrWrite l k g o) := by
  unfold State.corrWrite
  rw [corrRegs_channel hk]
  dsimp only
  let x1 := s.wr (laneDie l) R.ADC_CHc_CORR.GAIN g k
  let x2 := x1.wr (laneDie l) R.ADC_CHc_CORR.OFFSET o k
  let x3 := x2.modCorr l k fun c => { c with record := none }
  have h1 : x1.regsOk = true := State.wr_regsOk _ _ _ _ _ _ hs
  have happlied : Spares [R.ADC_CHc_APPLIED.GAIN, R.ADC_CHc_APPLIED.OFFSET] s x3 :=
    (((Spares.refl s).wr _ _ _ _ _ (by decide)).wr _ _ _ _ _ (by decide)).modCorr hk _
  have hoffset : Spares [R.ADC_CHc_CORR.OFFSET] x2 x3 := (Spares.refl x2).modCorr hk _
  have hgain : Spares [R.ADC_CHc_CORR.GAIN] x1 x3 := ((Spares.refl x1).wr _ _ _ _ _ (by decide)).modCorr hk _
  have ho := hoffset.rd_wr h1 (by decide)
  have hg := hgain.rd_wr hs (by decide)
  have hcorr : x3.corr l k = { x2.corr l k with record := none } := State.corr_modCorr x2 l hk _
  have h3 := happlied.ok hs
  obtain ⟨hw, hstate, hmoving, hrecord, hmove⟩ := State.startMove_begun (l := l) hk (factory l 2 k) h3
  exact
    { ok := hw.ok h3
      gain := (hw.rd h3 _ _ _ _ (by decide)).trans hg
      offset := (hw.rd h3 _ _ _ _ (by decide)).trans ho
      state := hstate
      moving := hmoving
      record := hrecord.trans (congrArg Corr.record hcorr)
      move := by
        rw [hmove, happlied.rdS hs (by decide), happlied.rdS hs (by decide)]
        unfold State.rdS
        rw [hg, ho]
        rfl }

/-- A written correction begins its move (R135, R136). -/
theorem corr_write_moves (hs : s.regsOk = true) (hl : s.alive l = true) (c : Fin 64) (gain offset : BitVec 16) :
    leads (.adcCorrWrite l c gain offset) s fun t => CorrWritten s l c gain.toNat offset.toNat t :=
  leads_of_exec (congrArg Host.Outcome.next (if_pos hl)) (State.corrWrite_written c.isLt _ _ hs)

/-! ## The system calibration (R140, R141, R148) -/

/-- A calibration starts in Service alone (R140). -/
theorem syscal_starts_in_service (hs : s.regsOk = true) (hl : s.alive l = true) :
    leads (.syscalMeasure l) s fun t =>
      (s.modeOf l ≠ modeService → t = s.wr (laneDie l) R.ADC_SYSCAL_STATUS.RESULT 1) ∧
      (s.modeOf l = modeService → t.rd (laneDie l) R.ADC_SYSCAL_STATUS.BUSY = 1 ∧ (t.run l).adc.calSum = 0 ∧
        (t.run l).adc.calCount = 0 ∧
        (t.run l).adc.calTarget = 2 ^ (min 16 (max 8 (s.rd (laneDie l) R.ADC_SYSCAL_CTRL.LOG2N)))) := by
  have hclamp : ∀ x, clampN 8 16 x = min 16 (max 8 x) := fun x => by
    unfold clampN
    split
    · omega
    · split <;> omega
  by_cases hm : s.modeOf l = modeService
  · refine leads_of_exec (congrArg Host.Outcome.next ((if_pos hl).trans (if_pos hm)))
      ⟨fun h => absurd hm h, fun _ => ⟨?_, ?_⟩⟩
    · exact (State.rd_modRun ..).trans (State.rd_wr_same _ _ _ _ _ _ hs)
    · rw [State.modAdc, State.modRun_run, hclamp]
      exact ⟨rfl, rfl, rfl⟩
  · exact leads_of_exec (congrArg Host.Outcome.next ((if_pos hl).trans (if_neg hm))) ⟨fun _ => rfl, fun h => absurd h hm⟩

/-- The register and the flag of a calibration point (R140). -/
def syscalPoint (full : Bool) : Fld × Fld :=
  if full then (R.ADC_SYSCAL_MEAS_FULL.MEAS, R.ADC_SYSCAL_STATUS.FULL_VALID)
  else (R.ADC_SYSCAL_MEAS_ZERO.MEAS, R.ADC_SYSCAL_STATUS.ZERO_VALID)

/-- The measurement `v` of a calibration point stored: the collection ends with result 0 (R140). -/
def State.pointStored (s : State) (l : Lane) (full : Bool) (v : Nat) : State :=
  (((s.clr (laneDie l) R.ADC_SYSCAL_STATUS.BUSY).wr (laneDie l) R.ADC_SYSCAL_STATUS.RESULT 0).wr (laneDie l)
    (syscalPoint full).1 v).set (laneDie l) (syscalPoint full).2

theorem State.pointStored_reads (full : Bool) {v : Nat} (hs : s.regsOk = true) (hv : v < 2 ^ 18) :
    (s.pointStored l full v).rd (laneDie l) R.ADC_SYSCAL_STATUS.BUSY = 0 ∧
      (s.pointStored l full v).rd (laneDie l) R.ADC_SYSCAL_STATUS.RESULT = 0 ∧
      (s.pointStored l full v).rd (laneDie l) (syscalPoint full).1 = v ∧
      (s.pointStored l full v).rd (laneDie l) (syscalPoint full).2 = 1 := by
  unfold State.pointStored
  let x1 := s.clr (laneDie l) R.ADC_SYSCAL_STATUS.BUSY
  let x2 := x1.wr (laneDie l) R.ADC_SYSCAL_STATUS.RESULT 0
  let x3 := x2.wr (laneDie l) (syscalPoint full).1 v
  have h1 : x1.regsOk = true := State.wr_regsOk _ _ _ _ _ _ hs
  have h2 : x2.regsOk = true := State.wr_regsOk _ _ _ _ _ _ h1
  have h3 : x3.regsOk = true := State.wr_regsOk _ _ _ _ _ _ h2
  have hvalid : Spares [R.ADC_SYSCAL_STATUS.BUSY, R.ADC_SYSCAL_STATUS.RESULT, (syscalPoint full).1] x3
      (x3.set (laneDie l) (syscalPoint full).2) := (Spares.refl x3).wr _ _ _ _ _ (by cases full <;> decide)
  have hmeas : Spares [R.ADC_SYSCAL_STATUS.BUSY, R.ADC_SYSCAL_STATUS.RESULT] x2 x3 :=
    (Spares.refl x2).wr _ _ _ _ _ (by cases full <;> decide)
  have hresult : Spares [R.ADC_SYSCAL_STATUS.BUSY] x1 x2 := (Spares.refl x1).wr _ _ _ _ _ (by decide)
  have hend := hmeas.trans (hvalid.mono (by simp))
  refine ⟨(hresult.trans (hend.mono (by simp))).rd_wr hs (by simp), hend.rd_wr h1 (by simp), ?_, ?_⟩
  · refine (hvalid.rd_wr h2 (by simp)).trans (low_of_lt ?_)
    cases full <;> exact hv
  · refine (State.rd_wr_same _ _ _ _ _ _ h3).trans ?_
    cases full <;> rfl

theorem exec_syscalCollectDone (hb : s.on (laneDie l) R.ADC_SYSCAL_STATUS.BUSY = true)
    (hn : (s.run l).adc.calTarget ≤ (s.run l).adc.calCount) (h0 : 0 < (s.run l).adc.calCount) :
    let a := (s.run l).adc
    let pr := s.quot (16 * a.calSum) ((a.calCount : Int) * (2 ^ 22 * 10 ^ 7))
    exec (.syscalCollectDone l) s =
      .next (pr.2.pointStored l (s.on (laneDie l) R.ADC_SYSCAL_CTRL.POINT) (clampI 0 (2 ^ 18 - 1) pr.1).toNat) := by
  intro a pr
  refine congrArg Host.Outcome.next ((if_pos (by simpa [hb] using hn)).trans ?_)
  have hpr : s.quot (16 * a.calSum) (((max 1 a.calCount : Nat) : Int) * (2 ^ 22 * 10 ^ 7)) = pr := by
    rw [Nat.max_eq_right h0]
  dsimp only
  rw [hpr]
  cases s.on (laneDie l) R.ADC_SYSCAL_CTRL.POINT <;> rfl

/-- The average of a calibration's samples goes to its point, a fraction rounded either way (R140). -/
theorem syscal_average_stored (hs : s.regsOk = true) (hb : s.on (laneDie l) R.ADC_SYSCAL_STATUS.BUSY = true)
    (hn : (s.run l).adc.calTarget ≤ (s.run l).adc.calCount) (h0 : 0 < (s.run l).adc.calCount) :
    leads (.syscalCollectDone l) s fun t =>
      let d := laneDie l
      let num := 16 * (s.run l).adc.calSum
      let den := ((s.run l).adc.calCount : Int) * (2 ^ 22 * 10 ^ 7)
      let p := syscalPoint (s.on d R.ADC_SYSCAL_CTRL.POINT)
      t.rd d R.ADC_SYSCAL_STATUS.BUSY = 0 ∧ t.rd d R.ADC_SYSCAL_STATUS.RESULT = 0 ∧
      (t.rd d p.1 = (clampI 0 (2 ^ 18 - 1) (num / den)).toNat ∨
        num % den ≠ 0 ∧ t.rd d p.1 = (clampI 0 (2 ^ 18 - 1) (num / den + 1)).toNat) ∧ t.rd d p.2 = 1 := by
  refine leads_of_exec (exec_syscalCollectDone hb hn h0) ?_
  dsimp only
  obtain ⟨q, u, hq, hround, hw, -⟩ := s.quot_cases (16 * (s.run l).adc.calSum)
    (((s.run l).adc.calCount : Int) * (2 ^ 22 * 10 ^ 7))
  have hu := hw.ok hs
  rw [hq]
  dsimp only
  generalize hv : (clampI 0 (2 ^ 18 - 1) q).toNat = v
  have hlt : v < 2 ^ 18 := by
    have := clampI_mem q (lo := 0) (hi := 2 ^ 18 - 1) (by decide)
    omega
  obtain ⟨hbusy, hres, hmeas, hvalid⟩ :=
    State.pointStored_reads (l := l) (s.on (laneDie l) R.ADC_SYSCAL_CTRL.POINT) hu hlt
  refine ⟨hbusy, hres, ?_, hvalid⟩
  rw [hmeas, ← hv]
  rcases hround with rfl | ⟨hne, rfl⟩
  · exact .inl rfl
  · exact .inr ⟨hne, rfl⟩

/-- A quotient that lies less than half from an integer rounds to it. -/
theorem State.roundQ_of_near (s : State) {num den q : Int} (h1 : den * (2 * q - 1) < 2 * num)
    (h2 : 2 * num < den * (2 * q + 1)) : s.roundQ num den = (q, s) := by
  have hden : 0 < den := by nlinarith
  have hnum := Int.mul_ediv_add_emod num den
  unfold State.roundQ
  rw [if_neg]
  · have hq : (2 * num + den) / (2 * den) = q :=
      Int.ediv_eq_iff_of_pos (by omega) |>.2 ⟨by nlinarith, by nlinarith⟩
    rw [hq]
  · intro htie
    have hodd : 2 * num = den * (2 * (num / den) + 1) := by linarith
    rw [hodd] at h1 h2
    have := lt_of_mul_lt_mul_left h1 hden.le
    have := lt_of_mul_lt_mul_left h2 hden.le
    omega

/-- Both points of a calibration have been measured, in Service. -/
structure BothPoints (s : State) (l : Lane) : Prop where
  alive : s.alive l = true
  service : s.modeOf l = modeService
  zero : s.on (laneDie l) R.ADC_SYSCAL_STATUS.ZERO_VALID = true
  full : s.on (laneDie l) R.ADC_SYSCAL_STATUS.FULL_VALID = true

theorem exec_syscalApply_missing (hl : s.alive l = true) (hm : s.modeOf l = modeService)
    (h : s.on (laneDie l) R.ADC_SYSCAL_STATUS.ZERO_VALID = false ∨ s.on (laneDie l) R.ADC_SYSCAL_STATUS.FULL_VALID = false) :
    exec (.syscalApply l) s = .next (s.wr (laneDie l) R.ADC_SYSCAL_STATUS.RESULT 4) :=
  congrArg Host.Outcome.next ((if_pos hl).trans ((if_neg (not_not.2 hm)).trans (if_pos (by
    rcases h with h | h <;> simp [h]))))

theorem exec_syscalApply_coincide (h : BothPoints s l)
    (he : s.rd (laneDie l) R.ADC_SYSCAL_MEAS_ZERO.MEAS = s.rd (laneDie l) R.ADC_SYSCAL_MEAS_FULL.MEAS) :
    exec (.syscalApply l) s = .next (s.wr (laneDie l) R.ADC_SYSCAL_STATUS.RESULT 2) :=
  congrArg Host.Outcome.next ((if_pos h.alive).trans ((if_neg (not_not.2 h.service)).trans
    ((if_neg (by simp [h.zero, h.full])).trans (if_pos (by rw [he])))))

/-- The two points, measured at `mz` and `mf` for the targets `tz` and `tf`, rise; the gain and the offset nearest to the exact
ones are `gain` and `ofs`, without a tie (R141). -/
structure PointsGive (s : State) (l : Lane) (mz mf tz tf : Nat) (gain ofs : Int) : Prop where
  zero : s.rd (laneDie l) R.ADC_SYSCAL_MEAS_ZERO.MEAS = mz
  full : s.rd (laneDie l) R.ADC_SYSCAL_MEAS_FULL.MEAS = mf
  toZero : s.rd (laneDie l) R.ADC_SYSCAL_TARGET.ZERO = tz
  toFull : s.rd (laneDie l) R.ADC_SYSCAL_TARGET.FULL = tf
  rises : mz < mf
  gain_above : ((mf : Int) - mz) * (2 * gain - 1) < 2 * ((16 * ((tf : Int) - tz) - ((mf : Int) - mz)) * 2 ^ 16)
  gain_below : 2 * ((16 * ((tf : Int) - tz) - ((mf : Int) - mz)) * 2 ^ 16) < ((mf : Int) - mz) * (2 * gain + 1)
  offset_above : 2 ^ 20 * (2 * ofs - 1) < 8 * (2 ^ 20 * (tz : Int) - (2 ^ 16 + gain) * mz)
  offset_below : 8 * (2 ^ 20 * (tz : Int) - (2 ^ 16 + gain) * mz) < 2 ^ 20 * (2 * ofs + 1)

/-- Two points that rise give the gain and the offset nearest to the exact ones (R141). -/
theorem exec_syscalApply_rising {mz mf tz tf : Nat} {gain ofs : Int} (h : BothPoints s l)
    (hp : PointsGive s l mz mf tz tf gain ofs) :
    exec (.syscalApply l) s = .next (if satS 16 gain = gain ∧ satS 16 ofs = ofs then
        (s.corrWrite l (s.rd (laneDie l) R.ADC_SYSCAL_CTRL.CHANNEL) (ux 16 gain) (ux 16 ofs)).wr (laneDie l)
          R.ADC_SYSCAL_STATUS.RESULT 0
      else s.wr (laneDie l) R.ADC_SYSCAL_STATUS.RESULT 2) := by
  obtain ⟨hmz, hmf, htz, htf, hrises, hg1, hg2, ho1, ho2⟩ := hp
  have hne : ¬ (mf : Int) = mz := by omega
  have hlt : ¬ (mf : Int) < mz := by omega
  have hgain : s.roundQ (1 * (16 * ((tf : Int) - tz) - (mf - mz)) * 2 ^ 16) (1 * ((mf : Int) - mz)) = (gain, s) := by
    rw [one_mul, one_mul]
    exact State.roundQ_of_near s hg1 hg2
  have hofs : s.roundQ (4 * (16 * 2 ^ 16 * (tz : Int) - (2 ^ 16 + gain) * mz)) (16 * 2 ^ 16) = (ofs, s) :=
    State.roundQ_of_near s (by linarith) (by linarith)
  refine congrArg Host.Outcome.next ((if_pos h.alive).trans ((if_neg (not_not.2 h.service)).trans
    ((if_neg (by simp [h.zero, h.full])).trans ?_)))
  dsimp only
  rw [hmz, hmf, htz, htf, if_neg hne, if_neg hlt, hgain]
  dsimp only
  rw [hofs]

/-- What a calibration applies is written as its channel's correction, or refused where a field does not hold it (R141). -/
theorem syscal_applies {mz mf tz tf : Nat} {gain ofs : Int} (hs : s.regsOk = true) (h : BothPoints s l)
    (hp : PointsGive s l mz mf tz tf gain ofs)
    (hc : s.rd (laneDie l) R.ADC_SYSCAL_CTRL.CHANNEL < 64) :
    leads (.syscalApply l) s fun t =>
      let d := laneDie l
      let c := s.rd d R.ADC_SYSCAL_CTRL.CHANNEL
      if satS 16 gain = gain ∧ satS 16 ofs = ofs then
        t.rd d R.ADC_SYSCAL_STATUS.RESULT = 0 ∧ t.rdS d R.ADC_CHc_CORR.GAIN c = gain ∧
        t.rdS d R.ADC_CHc_CORR.OFFSET c = ofs ∧ t.rd d R.ADC_CHc_ENV.MOVING c = 1
      else t = s.wr d R.ADC_SYSCAL_STATUS.RESULT 2 := by
  have hexec := exec_syscalApply_rising h hp
  by_cases hfit : satS 16 gain = gain ∧ satS 16 ofs = ofs
  · rw [if_pos hfit] at hexec
    refine leads_of_exec hexec ?_
    dsimp only
    rw [if_pos hfit]
    have hw := State.corrWrite_written (l := l) hc (ux 16 gain) (ux 16 ofs) hs
    generalize s.corrWrite l (s.rd (laneDie l) R.ADC_SYSCAL_CTRL.CHANNEL) (ux 16 gain) (ux 16 ofs) = u at hw ⊢
    have hend : Spares [R.ADC_CHc_CORR.GAIN, R.ADC_CHc_CORR.OFFSET, R.ADC_CHc_ENV.MOVING] u
        (u.wr (laneDie l) R.ADC_SYSCAL_STATUS.RESULT 0) := (Spares.refl u).wr _ _ _ _ _ (by decide)
    refine ⟨State.rd_wr_same _ _ _ _ _ _ hw.ok, ?_, ?_, (hend.rd hw.ok _ _ _ _ (by decide)).trans hw.moving⟩
    · rw [hend.rdS hw.ok (by decide), State.rdS, hw.gain, low_of_lt (ux_lt ..)]
      exact sx_ux (by decide) hfit.1
    · rw [hend.rdS hw.ok (by decide), State.rdS, hw.offset, low_of_lt (ux_lt ..)]
      exact sx_ux (by decide) hfit.2
  · rw [if_neg hfit] at hexec
    refine leads_of_exec hexec ?_
    dsimp only
    rw [if_neg hfit]

/-- A calibration without both points is refused, and so is one whose points coincide (R141). -/
theorem syscal_apply_refused (hl : s.alive l = true) (hm : s.modeOf l = modeService) :
    leads (.syscalApply l) s fun t =>
      let d := laneDie l
      (s.on d R.ADC_SYSCAL_STATUS.ZERO_VALID = false ∨ s.on d R.ADC_SYSCAL_STATUS.FULL_VALID = false →
        t = s.wr d R.ADC_SYSCAL_STATUS.RESULT 4) ∧
      (s.on d R.ADC_SYSCAL_STATUS.ZERO_VALID = true ∧ s.on d R.ADC_SYSCAL_STATUS.FULL_VALID = true ∧
          s.rd d R.ADC_SYSCAL_MEAS_ZERO.MEAS = s.rd d R.ADC_SYSCAL_MEAS_FULL.MEAS →
        t = s.wr d R.ADC_SYSCAL_STATUS.RESULT 2) := by
  by_cases h : s.on (laneDie l) R.ADC_SYSCAL_STATUS.ZERO_VALID = true ∧ s.on (laneDie l) R.ADC_SYSCAL_STATUS.FULL_VALID = true
  · obtain ⟨hz, hf⟩ := h
    by_cases he : s.rd (laneDie l) R.ADC_SYSCAL_MEAS_ZERO.MEAS = s.rd (laneDie l) R.ADC_SYSCAL_MEAS_FULL.MEAS
    · exact leads_of_exec (exec_syscalApply_coincide ⟨hl, hm, hz, hf⟩ he) ⟨by simp [hz, hf], fun _ => rfl⟩
    · obtain ⟨t, ht⟩ : ∃ t, exec (.syscalApply l) s = .next t := ⟨_, rfl⟩
      exact leads_of_exec ht ⟨by simp [hz, hf], fun h => absurd h.2.2 he⟩
  · have hmiss := (not_and_or.1 h).imp Bool.eq_false_iff.2 Bool.eq_false_iff.2
    exact leads_of_exec (exec_syscalApply_missing hl hm hmiss) ⟨fun _ => rfl, fun hb => absurd ⟨hb.1, hb.2.1⟩ h⟩

/-- An abort ends a collection with result 3 (R148). -/
theorem syscal_aborts (hs : s.regsOk = true) (hb : s.on (laneDie l) R.ADC_SYSCAL_STATUS.BUSY = true) :
    leads (.syscalAbort l) s fun t =>
      t.rd (laneDie l) R.ADC_SYSCAL_STATUS.BUSY = 0 ∧ t.rd (laneDie l) R.ADC_SYSCAL_STATUS.RESULT = 3 := by
  have h1 : (s.clr (laneDie l) R.ADC_SYSCAL_STATUS.BUSY).regsOk = true := State.wr_regsOk _ _ _ _ _ _ hs
  refine leads_of_exec (congrArg Host.Outcome.next (if_pos hb)) ⟨?_, State.rd_wr_same _ _ _ _ _ _ h1⟩
  exact ((Spares.refl (fs := [R.ADC_SYSCAL_STATUS.BUSY]) _).wr _ _ _ _ _ (by decide)).rd_wr hs (by decide)

end

/-- Settles O14, command by command. Rounding is open only where the average of a calibration is no whole number; gain and
offset are the integers that the hypotheses single out. -/
theorem converterCorrectionsMove : Obligations.ConverterCorrectionsMove := by
  unfold Obligations.ConverterCorrectionsMove
  refine ⟨fun s l g k est quiet o g' k' hs => est_step_moves (canonical_regs hs), fun s l c gain offset hs hl => ?_,
    fun s l hs => syscal_starts_in_service (canonical_regs hs), fun s l hs hb hn h0 => ?_,
    fun s l mz mf tz tf gain ofs hs hl hm hz hf h1 h2 h3 h4 h5 h6 h7 h8 h9 =>
      syscal_applies (canonical_regs hs) ⟨hl, hm, hz, hf⟩ ⟨h1, h2, h3, h4, h5, h6, h7, h8, h9⟩,
    fun s l _ => syscal_apply_refused, fun s l hs => syscal_aborts (canonical_regs hs)⟩
  · obtain ⟨t, ht, hok, hgain, hoffset, hstate, hmoving, hrecord, hmove⟩ :=
      corr_write_moves (canonical_regs hs) hl c gain offset
    rw [low_of_lt gain.isLt] at hgain hmove
    rw [low_of_lt offset.isLt] at hoffset hmove
    exact ⟨t, ht, hgain, hoffset, hstate, hmoving, hrecord, hmove⟩
  · obtain ⟨t, ht, hbusy, hresult, hmeas, hvalid⟩ := syscal_average_stored (canonical_regs hs) hb hn h0
    refine ⟨t, ht, hbusy, hresult, fun hp => ?_, fun hp => ?_⟩
    · rw [hp] at hmeas hvalid
      exact ⟨hmeas, hvalid⟩
    · rw [hp] at hmeas hvalid
      exact ⟨hmeas, hvalid⟩

end Sys2Proof.Machine
end

section
/-!
PROOFS. The converters' triggers and urgent requests (R118 to R121, R125, R127) and the reads of their queues (R126).
-/
namespace Sys2Proof.Machine

section
variable {s : State} {l : Lane}

/-! ## What a change of a group leaves as it was -/

theorem State.rd_modGrp (s : State) (l : Lane) (g : Fin 12) (h : AdcGroup → AdcGroup) (d : Die) (f : Fld) (i j : Nat) :
    (s.modGrp l g h).rd d f i j = s.rd d f i j := State.rd_modRun ..

theorem Spares.modGrp {fs : List Fld} {t : State} (h : Spares fs s t) (l : Lane) (g : Fin 12) (f : AdcGroup → AdcGroup) :
    Spares fs s (t.modGrp l g f) := h.of_regs (State.modRun_regs ..)

theorem Spares.modAdc {fs : List Fld} {t : State} (h : Spares fs s t) (l : Lane) (f : AdcSt → AdcSt) :
    Spares fs s (t.modAdc l f) := h.of_regs (State.modRun_regs ..)

theorem State.listOf_modGrp (s : State) (l : Lane) (g : Fin 12) (h : AdcGroup → AdcGroup) (k : Nat) :
    (s.modGrp l g h).listOf l k = s.listOf l k := by
  simp only [State.listOf, State.listLen, State.listEntry, State.rd_modGrp]

theorem State.laneTime_modGrp (s : State) (l : Lane) (g : Fin 12) (h : AdcGroup → AdcGroup) :
    (s.modGrp l g h).laneTime l = s.laneTime l := by
  simp only [State.laneTime, State.modGrp, State.modAdc, State.modRun_run, State.modRun_now]

/-! ## Triggers (R118 to R121) -/

section
variable {g : Fin 12}

/-- A trigger on its way reaches a triggered group that serves no resolver. -/
structure TriggerReaches (s : State) (l : Lane) (g : Fin 12) : Prop where
  past : s.past l 11 = true
  mode : s.rd (laneDie l) R.ADC_Gg_CFG.MODE g = 3
  dest : s.rd (laneDie l) R.ADC_Gg_CFG.DEST g ≠ 3
  sent : 0 < (s.grp l g).sent

/-- What a trigger finds that reaches its group. -/
theorem exec_adcTrigger (h : TriggerReaches s l g) : exec (.adcTrigger l g) s =
    .next (let u := s.takeTrigger l g
      if (u.grp l g).busy || !(u.grp l g).aborted.isEmpty then
        (u.set (laneDie l) R.ADC_Gg_STATUS.TRIG_OVR g).inc (laneDie l) R.ADC_Gg_TRIG_CNT.OVERRUNS g
      else (u.startPass l g true).inc (laneDie l) R.ADC_Gg_TRIG_CNT.TRIGGERS g) := by
  obtain ⟨hp, hm, hd, hsent⟩ := h
  have hdue : s.triggerDue l g = s := if_neg fun hx => by omega
  have hrd : ∀ f, (s.takeTrigger l g).rd (laneDie l) f g = s.rd (laneDie l) f g := fun f => State.rd_modRun ..
  show execAdcTrigger l g s = _
  unfold execAdcTrigger
  dsimp only
  rw [hdue, if_pos (by simp [hp, hsent]), if_pos]
  simp [State.forResolver, hrd, hm, hd]

/-- A triggered group that is not busy starts its pass with what it finds then (R119, R121). -/
theorem trigger_starts_pass (hs : s.regsOk = true) (h : TriggerReaches s l g) (hb : (s.grp l g).busy = false)
    (ha : (s.grp l g).aborted = []) :
    leads (.adcTrigger l g) s fun t =>
      t.grp l g = { s.grp l g with sent := (s.grp l g).sent - 1, busy := true, pos := 0, chans := s.listOf l g,
                                   dest := s.rd (laneDie l) R.ADC_Gg_CFG.DEST g, triggered := true,
                                   stamp := low 32 (s.laneTime l) } ∧
      rose s t (laneDie l) R.ADC_Gg_TRIG_CNT.TRIGGERS g := by
  have hgrp : (s.takeTrigger l g).grp l g = { s.grp l g with sent := (s.grp l g).sent - 1 } := State.grp_modGrp ..
  have hexec := exec_adcTrigger h
  simp only [hgrp, hb, ha, List.isEmpty_nil, Bool.not_true, Bool.or_false, Bool.false_eq_true, if_false] at hexec
  refine leads_of_exec hexec ⟨?_, ?_⟩
  · rw [State.inc_eq, State.grp_wr, State.startPass, State.grp_modGrp, hgrp, State.takeTrigger, State.listOf_modGrp,
      State.rd_modGrp, State.laneTime_modGrp]
  · have hregs : ((s.takeTrigger l g).startPass l g true).rd (laneDie l) R.ADC_Gg_TRIG_CNT.TRIGGERS g =
        s.rd (laneDie l) R.ADC_Gg_TRIG_CNT.TRIGGERS g := (State.rd_modRun ..).trans (State.rd_modRun ..)
    exact rose_of_eq (rose_inc _ _ _ _ ((State.regsOk_modRun ..).trans ((State.regsOk_modRun ..).trans hs))) hregs

/-- A busy group counts an overrun and goes on as it was (R121). -/
theorem trigger_overruns (hs : s.regsOk = true) (h : TriggerReaches s l g) (hb : (s.grp l g).busy = true) :
    leads (.adcTrigger l g) s fun t =>
      t.grp l g = { s.grp l g with sent := (s.grp l g).sent - 1 } ∧ t.rd (laneDie l) R.ADC_Gg_STATUS.TRIG_OVR g = 1 ∧
      rose s t (laneDie l) R.ADC_Gg_TRIG_CNT.OVERRUNS g := by
  have hgrp : (s.takeTrigger l g).grp l g = { s.grp l g with sent := (s.grp l g).sent - 1 } := State.grp_modGrp ..
  have hexec := exec_adcTrigger h
  simp only [hgrp, hb, Bool.true_or, if_true] at hexec
  have hok : (s.takeTrigger l g).regsOk = true := (State.regsOk_modRun ..).trans hs
  have hovr : Spares [R.ADC_Gg_TRIG_CNT.OVERRUNS] s ((s.takeTrigger l g).set (laneDie l) R.ADC_Gg_STATUS.TRIG_OVR g) :=
    ((Spares.refl s).modRun l _).wr _ _ _ _ _ (by decide)
  refine leads_of_exec hexec ⟨?_, ?_, ?_⟩
  · rw [State.inc_eq, State.grp_wr, State.set_eq, State.grp_wr, hgrp]
  · exact ((Spares.refl (fs := [R.ADC_Gg_STATUS.TRIG_OVR]) _).wr _ _ _ _ _ (by decide)).rd_wr hok (by decide)
  · exact rose_of_eq (rose_inc _ _ _ _ (hovr.ok hs)) (hovr.rd hs _ _ _ _ (by decide))

end

/-! ## Urgent requests (R127) -/

/-- An urgent request after its code `r` has been shown. -/
def State.urgentShown (s : State) (l : Lane) (g r : Nat) : State :=
  (s.wr (laneDie l) R.ADC_URGENT_STATUS.RESULT r).wr (laneDie l) R.ADC_URGENT_STATUS.LAST_GROUP g

/-- What an urgent request shows: its code and its group (R127). -/
structure UrgentShown (l : Lane) (g r : Nat) (t : State) : Prop where
  result : t.rd (laneDie l) R.ADC_URGENT_STATUS.RESULT = r
  group : t.rd (laneDie l) R.ADC_URGENT_STATUS.LAST_GROUP = g

theorem State.urgentShown_reads {g r : Nat} (hs : s.regsOk = true) (hg : g < 16) (hr : r < 8) {t : State}
    (h : Spares [R.ADC_URGENT_STATUS.RESULT, R.ADC_URGENT_STATUS.LAST_GROUP] (s.urgentShown l g r) t) :
    UrgentShown l g r t := by
  have h1 : (s.wr (laneDie l) R.ADC_URGENT_STATUS.RESULT r).regsOk = true := State.wr_regsOk _ _ _ _ _ _ hs
  have hlast : Spares [R.ADC_URGENT_STATUS.RESULT] (s.wr (laneDie l) R.ADC_URGENT_STATUS.RESULT r) (s.urgentShown l g r) :=
    (Spares.refl _).wr _ _ _ _ _ (by decide)
  exact ⟨((hlast.trans (h.mono (by decide))).rd_wr hs (by decide)).trans (low_of_lt hr),
    (h.rd_wr h1 (by decide)).trans (low_of_lt hg)⟩

theorem State.urgentCode_lt (s : State) (l : Lane) (g : Nat) : s.urgentCode l g < 8 := by
  unfold State.urgentCode
  dsimp only
  split_ifs <;> decide

theorem State.lt_of_urgentCode_eq_zero {g : Nat} (h : s.urgentCode l g = 0) : g < 12 := by
  by_contra hg
  exact absurd ((if_pos (by omega) : s.urgentCode l g = 4).symm.trans h) (by decide)

/-- A refused request is counted, and the converters go on as they were. -/
theorem exec_adcUrgent_refused {g : Fin 16} {c : Fin 64} (hp : s.past l 11 = true) (hr : s.urgentCode l g ≠ 0) :
    exec (.adcUrgent l g c) s =
      .next ((s.urgentShown l g (s.urgentCode l g)).inc (laneDie l) R.ADC_URGENT_CNT.REFUSED) :=
  congrArg Host.Outcome.next ((if_pos hp).trans (dif_neg fun h => hr h.1))

/-- An accepted request waits in its group with its channel and its stamp. -/
theorem exec_adcUrgent_accepted {g : Fin 16} {c : Fin 64} (hp : s.past l 11 = true) (hr : s.urgentCode l g = 0)
    (hg : g.val < 12) :
    exec (.adcUrgent l g c) s =
      .next ((((s.urgentShown l g (s.urgentCode l g)).wrBit (laneDie l) R.ADC_URGENT_STATUS.PENDING g true).modGrp l ⟨g, hg⟩
        fun x => { x with urgent := some (c.val, low 32 (s.laneTime l)) }).inc (laneDie l) R.ADC_URGENT_CNT.ACCEPTED) :=
  congrArg Host.Outcome.next ((if_pos hp).trans (dif_pos ⟨hr, hg⟩))

/-- An urgent request gets its code; an accepted one waits in its group (R127). -/
theorem urgent_request_answered (hs : s.regsOk = true) (hp : s.past l 11 = true) (g : Fin 16) (c : Fin 64) :
    leads (.adcUrgent l g c) s fun t =>
      UrgentShown l g (s.urgentCode l g) t ∧
      (s.urgentCode l g ≠ 0 → rose s t (laneDie l) R.ADC_URGENT_CNT.REFUSED ∧ (t.run l).adc = (s.run l).adc) ∧
      ∀ h : g.val < 12, s.urgentCode l g = 0 → rose s t (laneDie l) R.ADC_URGENT_CNT.ACCEPTED ∧
        t.rdBit (laneDie l) R.ADC_URGENT_STATUS.PENDING g = true ∧
        (t.grp l ⟨g, h⟩).urgent = some (c.val, low 32 (s.laneTime l)) := by
  have hread : ∀ {t}, Spares _ _ t → UrgentShown l g (s.urgentCode l g) t :=
    State.urgentShown_reads hs g.isLt (s.urgentCode_lt l g)
  have hcount : Spares [R.ADC_URGENT_CNT.REFUSED, R.ADC_URGENT_CNT.ACCEPTED] s (s.urgentShown l g (s.urgentCode l g)) :=
    ((Spares.refl s).wr _ _ _ _ _ (by decide)).wr _ _ _ _ _ (by decide)
  have hadc : ((s.urgentShown l g (s.urgentCode l g)).run l).adc = (s.run l).adc := by
    rw [State.urgentShown, State.wr_run, State.wr_run]
  by_cases hr : s.urgentCode l g = 0
  · have hg := State.lt_of_urgentCode_eq_zero hr
    have hexec := exec_adcUrgent_accepted (c := c) hp hr hg
    generalize s.urgentShown l g (s.urgentCode l g) = u at *
    let v := (u.wrBit (laneDie l) R.ADC_URGENT_STATUS.PENDING g true).modGrp l ⟨g, hg⟩ fun x =>
      { x with urgent := some (c.val, low 32 (s.laneTime l)) }
    have hpend : Spares [R.ADC_URGENT_STATUS.PENDING] (u.wrBit (laneDie l) R.ADC_URGENT_STATUS.PENDING g true)
        (v.inc (laneDie l) R.ADC_URGENT_CNT.ACCEPTED) := ((Spares.refl _).modGrp ..).wr _ _ _ _ _ (by decide)
    have hmarked : Spares [R.ADC_URGENT_CNT.ACCEPTED] s (u.wrBit (laneDie l) R.ADC_URGENT_STATUS.PENDING g true) :=
      (hcount.mono (by decide)).wr _ _ _ _ _ (by decide)
    have hv : Spares [R.ADC_URGENT_CNT.ACCEPTED] s v := hmarked.modGrp ..
    refine leads_of_exec hexec ⟨hread ?_, fun h => absurd hr h, fun _ _ => ⟨?_, ?_, ?_⟩⟩
    · exact (((Spares.refl u).wr _ _ _ _ _ (by decide)).modGrp ..).wr _ _ _ _ _ (by decide)
    · exact rose_of_eq (rose_inc _ _ _ _ (hv.ok hs)) (hv.rd hs _ _ _ _ (by decide))
    · exact hpend.rdBit_wrBit (hcount.ok hs) (by decide) hg
    · rw [State.inc_eq, State.grp_wr, State.grp_modGrp]
  · refine leads_of_exec (exec_adcUrgent_refused hp hr) ⟨hread ((Spares.refl _).wr _ _ _ _ _ (by decide)),
      fun _ => ⟨?_, ?_⟩, fun _ h => absurd h hr⟩
    · exact rose_of_eq (rose_inc _ _ _ _ (hcount.ok hs)) (hcount.rd hs _ _ _ _ (by decide))
    · rw [State.inc_eq, State.wr_run, hadc]

/-! ## Reads of the result queues (R126) -/

/-- The result queue of the normal or of the urgent results. -/
def AdcSt.queue (a : AdcSt) (urgent : Bool) : List (Nat × Nat) := if urgent then a.q12 else a.q11

/-- The register that shows the stamp of the entry last read from a queue. -/
def stampFld (urgent : Bool) : Fld := if urgent then R.ADC_Q12_STAMP.STAMP else R.ADC_Q11_STAMP.STAMP

/-- A read of an empty queue leaves the stamp register as it was. -/
theorem empty_queue_read {urgent : Bool} (hl : s.alive l = true) (hq : (s.run l).adc.queue urgent = []) :
    leads (.adcQueuePop l urgent) s fun t => (t.run l).readData = 0xFFFFFFFF ∧ t.regs = s.regs := by
  have hexec : exec (.adcQueuePop l urgent) s = .next (s.modRun l fun r => { r with readData := 0xFFFFFFFF }) := by
    unfold AdcSt.queue at hq
    refine congrArg Host.Outcome.next ((if_pos hl).trans ?_)
    unfold State.adcPop
    dsimp only
    rw [hq]
  exact leads_of_exec hexec ⟨by rw [State.modRun_run], State.modRun_regs ..⟩

/-- A read removes the oldest entry and latches its stamp. -/
theorem oldest_entry_read {urgent : Bool} {e stamp : Nat} {rest : List (Nat × Nat)} (hs : s.regsOk = true)
    (hl : s.alive l = true) (hq : (s.run l).adc.queue urgent = (e, stamp) :: rest) :
    leads (.adcQueuePop l urgent) s fun t => (t.run l).readData = low 32 e ∧ (t.run l).adc.queue urgent = rest ∧
      t.rd (laneDie l) (stampFld urgent) = low 32 stamp := by
  let u := (s.modRun l fun r => { r with readData := low 32 e }).modAdc l fun a =>
    if urgent then { a with q12 := rest } else { a with q11 := rest }
  have hexec : exec (.adcQueuePop l urgent) s = .next (u.wr (laneDie l) (stampFld urgent) stamp) := by
    unfold AdcSt.queue at hq
    refine congrArg Host.Outcome.next ((if_pos hl).trans ?_)
    unfold State.adcPop
    dsimp only
    rw [hq]
    cases urgent <;> rfl
  have hok : u.regsOk = true := (State.regsOk_modRun ..).trans ((State.regsOk_modRun ..).trans hs)
  have hrun : u.run l = { s.run l with
      readData := low 32 e
      adc := if urgent then { (s.run l).adc with q12 := rest } else { (s.run l).adc with q11 := rest } } := by
    unfold u State.modAdc
    rw [State.modRun_run, State.modRun_run]
  refine leads_of_exec hexec ⟨?_, ?_, ?_⟩
  · rw [State.wr_run, hrun]
  · rw [State.wr_run, hrun]
    cases urgent <;> rfl
  · refine (State.rd_wr_same _ _ _ _ _ _ hok).trans ?_
    cases urgent <;> rfl

end

end Sys2Proof.Machine
end

section
/-!
PROOFS. A conversion of a triggered pass bound for `Q11` (R122 to R125, R130), and the converters' commands together.
-/
namespace Sys2Proof.Machine

/-- The fields that a conversion reads: coefficients, envelope, calibration and short detectors. -/
def conversionFlds : List Fld :=
  [R.ADC_Gg_Sk_OG.OFFSET, R.ADC_Gg_Sk_OG.GAIN, R.ADC_CHc_APPLIED.GAIN, R.ADC_CHc_APPLIED.OFFSET, R.ADC_CHc_ENV.STATE,
   R.ADC_SYSCAL_STATUS.BUSY, R.PAP_HBn_CFG.SHORT_EN]

/-- From `s` to `t` neither what a conversion reads nor `Q11` changed. -/
structure ConversionStands (l : Lane) (s t : State) : Prop where
  flds : Spares conversionFlds s t
  q11 : (t.run l).adc.q11 = (s.run l).adc.q11
  seq11 : (t.run l).adc.seq11 = (s.run l).adc.seq11

section
variable {s t u : State} {l : Lane} {g : Fin 12}

theorem ConversionStands.refl (s : State) : ConversionStands l s s := ⟨Spares.refl s, rfl, rfl⟩

theorem ConversionStands.trans (h : ConversionStands l s t) (k : ConversionStands l t u) : ConversionStands l s u :=
  ⟨h.flds.trans k.flds, k.q11.trans h.q11, k.seq11.trans h.seq11⟩

theorem ConversionStands.wr (h : ConversionStands l s t) (d : Die) (f : Fld) (v i j : Nat)
    (hf : ∀ x ∈ conversionFlds, f.apart x = true) : ConversionStands l s (t.wr d f v i j) :=
  ⟨h.flds.wr d f v i j hf, by rw [State.wr_run, h.q11], by rw [State.wr_run, h.seq11]⟩

theorem ConversionStands.modGrp (h : ConversionStands l s t) (f : AdcGroup → AdcGroup) :
    ConversionStands l s (t.modGrp l g f) := by
  refine ⟨h.flds.modGrp .., ?_, ?_⟩ <;> unfold State.modGrp State.modAdc <;> rw [State.modRun_run]
  · exact h.q11
  · exact h.seq11

theorem ConversionStands.when (h : ConversionStands l s t) (c : Bool) {f : State → State}
    (hf : ∀ x, ConversionStands l x (f x)) : ConversionStands l s (t.when c f) := by
  unfold State.when
  split
  · exact h.trans (hf t)
  · exact h

theorem State.countSample_stands (s : State) (l : Lane) (g : Fin 12) (raw : Nat) (normal : Bool) :
    ConversionStands l s (s.countSample l g raw normal) :=
  ((ConversionStands.refl s).when _ fun x => ((ConversionStands.refl x).wr _ _ _ _ _ (by decide)).wr _ _ _ _ _
    (by decide)).when _ fun x => ((ConversionStands.refl x).wr _ _ _ _ _ (by decide)).modGrp _

/-- The sum of R130 before its division by 2^38 · 10^7: slice correction without skew, then channel correction. -/
def State.convNum (s : State) (l : Lane) (g slice raw c : Nat) : Int :=
  (16 * (raw : Int) - s.rdS (laneDie l) R.ADC_Gg_Sk_OG.OFFSET g slice) *
      (2 ^ 18 + s.rdS (laneDie l) R.ADC_Gg_Sk_OG.GAIN g slice) * 10 ^ 7 *
      (2 ^ 16 + s.rdS (laneDie l) R.ADC_CHc_APPLIED.GAIN c) +
    s.rdS (laneDie l) R.ADC_CHc_APPLIED.OFFSET c * 2 ^ 36 * 10 ^ 7

/-- The corrected result is the limited quotient, a fraction rounded either way. -/
theorem State.correct_cases (s : State) (l : Lane) (g slice raw c : Nat) (before after : Int) :
    let num := s.convNum l g slice raw c
    ∃ q u, s.correct l c (s.sliceNum l g slice raw before after false) = ((clampI 0 16383 q).toNat, u) ∧
      (q = num / (2 ^ 38 * 10 ^ 7) ∨ num % (2 ^ 38 * 10 ^ 7) ≠ 0 ∧ q = num / (2 ^ 38 * 10 ^ 7) + 1) ∧
      ConversionStands l s u := by
  intro num
  obtain ⟨q, u, hq, hround, hw, hrun⟩ := s.quot_cases num (2 ^ 38 * 10 ^ 7)
  refine ⟨q, u, ?_, hround, hw.spares (by decide), by rw [hrun], by rw [hrun]⟩
  have hy : s.sliceNum l g slice raw before after false = (16 * (raw : Int) - s.rdS (laneDie l) R.ADC_Gg_Sk_OG.OFFSET g slice) *
      (2 ^ 18 + s.rdS (laneDie l) R.ADC_Gg_Sk_OG.GAIN g slice) * 10 ^ 7 := Int.sub_zero _
  unfold State.correct
  dsimp only
  rw [hy]
  exact congrArg (fun p : Int × State => ((clampI 0 16383 p.1).toNat, p.2)) hq

theorem ConversionStands.convNum (h : ConversionStands l s t) (hs : s.regsOk = true) (g slice raw c : Nat) :
    t.convNum l g slice raw c = s.convNum l g slice raw c := by
  have h1 : ∀ f ∈ conversionFlds, ∀ i j, t.rdS (laneDie l) f i j = s.rdS (laneDie l) f i j :=
    fun f hf i j => h.flds.rdS hs hf
  unfold State.convNum
  rw [h1 _ (by decide), h1 _ (by decide), h1 _ (by decide), h1 _ (by decide)]

theorem ConversionStands.entry (h : ConversionStands l s t) (hs : s.regsOk = true) (g c z : Nat) (urgent restarted : Bool) :
    t.entry l g c z urgent restarted = s.entry l g c z urgent restarted := by
  unfold State.entry
  rw [h.flds.rd hs _ _ _ _ (by decide)]

/-- An entry fits the 32 bits of `ADC_CHc_LAST`. -/
theorem State.entry_lt (s : State) (l : Lane) (g : Fin 12) (c : Fin 64) {z : Nat} (hz : z < 2 ^ 14) (urgent restarted : Bool) :
    s.entry l g c z urgent restarted < 2 ^ 32 := by
  have hb : ∀ b, b2n b ≤ 1 := by decide
  unfold State.entry
  have h1 := hb urgent
  have h2 := hb restarted
  have h3 := hb (s.rd (laneDie l) R.ADC_CHc_ENV.STATE c == envOutside || s.rd (laneDie l) R.ADC_CHc_ENV.STATE c == envFallback)
  dsimp only
  omega

/-- A detector that is off takes no result (R242). -/
theorem State.shortDetect_of_off {n : Fin 16} (c : Nat) (z : Int) (stamp : Nat)
    (h : s.on (papDie l) R.PAP_HBn_CFG.SHORT_EN n = false) : s.shortDetect l n c z stamp = s :=
  if_neg (by simp [h])

/-- Updates that each leave the state alone leave it alone together. -/
theorem State.each_eq_self {α : Type} {xs : List α} {f : State → α → State} (h : ∀ x, f s x = s) : s.each xs f = s := by
  induction xs with
  | nil => rfl
  | cons x r ih => rw [State.each_cons, h, ih]

/-- The result `z` of channel `c` has replaced the channel's last entry and joined `Q11` with the queue's sequence number and
the stamp (R122 to R124). -/
structure JoinedQ11 (s : State) (l : Lane) (g : Fin 12) (c : Fin 64) (stamp z : Nat) (t : State) : Prop where
  last : t.rd (laneDie l) R.ADC_CHc_LAST.ENTRY c = s.entry l g c z false false
  q11 : (t.run l).adc.q11 =
    (s.run l).adc.q11 ++ [(s.entry l g c z false false + (s.run l).adc.seq11 * 2 ^ 27, stamp)]
  seq11 : (t.run l).adc.seq11 = ((s.run l).adc.seq11 + 1) % 32

theorem ConversionStands.joinedQ11 {c : Fin 64} {stamp z : Nat} (h : ConversionStands l s t) (hs : s.regsOk = true)
    (hj : JoinedQ11 t l g c stamp z u) : JoinedQ11 s l g c stamp z u := by
  obtain ⟨hlast, hq, hseq⟩ := hj
  rw [h.entry hs] at hlast hq
  rw [h.q11, h.seq11] at hq
  rw [h.seq11] at hseq
  exact ⟨hlast, hq, hseq⟩

/-- An entry offered to a `Q11` that has room joins it. -/
theorem State.last_pushQ11_joined {c : Fin 64} {z : Nat} (stamp : Nat) (hs : s.regsOk = true) (hz : z < 2 ^ 14)
    (hroom : (s.run l).adc.q11.length < 1024) :
    let e := s.entry l g c z false false
    let x := s.wr (laneDie l) R.ADC_CHc_LAST.ENTRY e c
    Spares conversionFlds s (x.pushQ11 l e stamp) ∧ JoinedQ11 s l g c stamp z (x.pushQ11 l e stamp) := by
  intro e x
  have hx : x.run l = s.run l := State.wr_run ..
  have hpush : x.pushQ11 l e stamp = x.modAdc l fun a =>
      { a with q11 := a.q11 ++ [(e + a.seq11 * 2 ^ 27, stamp)], seq11 := (a.seq11 + 1) % 32 } := by
    unfold State.pushQ11
    rw [hx]
    exact if_neg (Nat.not_le.2 hroom)
  have hlast : x.rd (laneDie l) R.ADC_CHc_LAST.ENTRY c = e :=
    (State.rd_wr_same _ _ _ _ _ _ hs).trans (low_of_lt (s.entry_lt l g c hz false false))
  rw [hpush]
  have hspare : Spares conversionFlds s x := (Spares.refl s).wr _ _ _ _ _ (by decide)
  refine ⟨hspare.modAdc .., (State.rd_modRun ..).trans hlast, ?_, ?_⟩ <;>
    rw [State.modAdc, State.modRun_run, hx]

theorem State.toDest_eq_pushQ11 (s : State) (l : Lane) (g : Fin 12) (c z e stamp : Nat) :
    s.toDest l g c z 2 e stamp false = s.pushQ11 l e stamp := rfl

/-- What the converters come to at a conversion whose destination is `Q11` alone (R122 to R130). -/
theorem State.result_joins_q11 (slice raw before after : Nat) (c : Fin 64) (stamp : Nat) (hs : s.regsOk = true)
    (hroom : (s.run l).adc.q11.length < 1024) (hb : s.on (laneDie l) R.ADC_SYSCAL_STATUS.BUSY = false)
    (hshort : ∀ n : Fin 16, s.on (papDie l) R.PAP_HBn_CFG.SHORT_EN n = false) :
    let num := s.convNum l g slice raw c
    let t := s.result l g slice raw before after c 2 stamp false false false
    ∃ q : Int, (q = num / (2 ^ 38 * 10 ^ 7) ∨ num % (2 ^ 38 * 10 ^ 7) ≠ 0 ∧ q = num / (2 ^ 38 * 10 ^ 7) + 1) ∧
      JoinedQ11 s l g c stamp (clampI 0 16383 q).toNat t := by
  intro num t
  have h1 := s.countSample_stands l g raw true
  obtain ⟨q, u, hq, hround, hu⟩ := (s.countSample l g raw true).correct_cases l g slice raw c before after
  have h2 := h1.trans hu
  rw [h1.convNum hs] at hround
  refine ⟨q, hround, ?_⟩
  generalize hz : (clampI 0 16383 q).toNat = z at *
  have hz14 : z < 2 ^ 14 := by
    have := clampI_mem q (lo := 0) (hi := 16383) (by decide)
    omega
  obtain ⟨hstands, hjoined⟩ := State.last_pushQ11_joined (l := l) (g := g) (c := c) stamp (h2.flds.ok hs) hz14
    (by rwa [h2.q11])
  have ht : t = (u.wr (laneDie l) R.ADC_CHc_LAST.ENTRY (u.entry l g c z false false) c).pushQ11 l
      (u.entry l g c z false false) stamp := by
    have hbusy := (h2.flds.on hs (f := R.ADC_SYSCAL_STATUS.BUSY) (by decide)).trans hb
    have hcal : ∀ y, u.calSample l c y true = u := fun y => if_neg (by simp [hbusy])
    generalize hx : (u.wr (laneDie l) R.ADC_CHc_LAST.ENTRY (u.entry l g c z false false) c).pushQ11 l
      (u.entry l g c z false false) stamp = x at hstands ⊢
    have hoff : ∀ n : Fin 16, x.shortDetect l n c z stamp = x := fun n =>
      State.shortDetect_of_off c z stamp (((h2.flds.trans hstands).on hs (by decide)).trans (hshort n))
    unfold t State.result
    simp only [Bool.not_false, Bool.and_self, Bool.false_and, Bool.false_eq_true, if_false, State.when_true, State.when_false,
      hq, hcal, State.toDest_eq_pushQ11, hx]
    exact State.each_eq_self hoff
  rw [ht]
  exact h2.joinedQ11 hs hjoined

/-- A group after one entry of its pass (R118). -/
def AdcGroup.advanced (x : AdcGroup) : AdcGroup := { x with pos := x.pos + 1, busy := decide (x.pos + 1 < x.chans.length) }

/-- The next entry of a group's triggered pass is channel `c`, bound for `Q11` alone. -/
structure TriggeredEntry (s : State) (l : Lane) (g : Fin 12) (c : Fin 64) : Prop where
  past : s.past l 11 = true
  busy : (s.grp l g).busy = true
  triggered : (s.grp l g).triggered = true
  chan : (s.grp l g).chans[(s.grp l g).pos]? = some c.val
  dest : (s.grp l g).dest = 2

/-- The conversion of such an entry is its result (R118, R125). -/
theorem exec_adcResult_triggered {slice : Fin 4} {raw before after : BitVec 14} {c : Fin 64} (h : TriggeredEntry s l g c) :
    exec (.adcResult l g slice raw before after .normal) s = .next ((s.modGrp l g AdcGroup.advanced).result l g slice
      raw.toNat before.toNat after.toNat c 2 (s.grp l g).stamp false false false) := by
  refine congrArg Host.Outcome.next ((if_pos h.past).trans ((if_pos h.busy).trans ?_))
  unfold State.passResult
  dsimp only
  rw [h.triggered, h.dest, List.getD_eq_getElem?_getD, h.chan]
  rfl

/-- A conversion of a triggered pass bound for `Q11` alone joins it with the pass's stamp (R122 to R125, R130). -/
theorem triggered_result_joins_q11 {slice : Fin 4} {raw before after : BitVec 14} {c : Fin 64} (hs : s.regsOk = true)
    (h : TriggeredEntry s l g c) (hroom : (s.run l).adc.q11.length < 1024)
    (hcal : s.on (laneDie l) R.ADC_SYSCAL_STATUS.BUSY = false)
    (hshort : ∀ n : Fin 16, s.on (papDie l) R.PAP_HBn_CFG.SHORT_EN n = false) :
    leads (.adcResult l g slice raw before after .normal) s fun t =>
      ∃ q : Int, (q = s.convNum l g slice raw.toNat c / (2 ^ 38 * 10 ^ 7) ∨
        s.convNum l g slice raw.toNat c % (2 ^ 38 * 10 ^ 7) ≠ 0 ∧
          q = s.convNum l g slice raw.toNat c / (2 ^ 38 * 10 ^ 7) + 1) ∧
        JoinedQ11 s l g c (s.grp l g).stamp (clampI 0 16383 q).toNat t := by
  refine leads_of_exec (exec_adcResult_triggered h) ?_
  have h1 : ConversionStands l s (s.modGrp l g AdcGroup.advanced) := (ConversionStands.refl s).modGrp _
  generalize s.modGrp l g AdcGroup.advanced = u at h1 ⊢
  obtain ⟨q, hq, hjoined⟩ := u.result_joins_q11 (l := l) (g := g) slice raw.toNat before.toNat after.toNat c
    (s.grp l g).stamp (h1.flds.ok hs) (by rwa [h1.q11]) ((h1.flds.on hs (by decide)).trans hcal)
    fun n => (h1.flds.on hs (by decide)).trans (hshort n)
  rw [h1.convNum hs] at hq
  exact ⟨q, hq, h1.joinedQ11 hs hjoined⟩

end

/-- Settles O13, command by command. Rounding is open only in the corrected result. -/
theorem convertersTriggerReportAndAnswerReads : Obligations.ConvertersTriggerReportAndAnswerReads := by
  unfold Obligations.ConvertersTriggerReportAndAnswerReads
  refine ⟨fun s l g hs hp hm hd hsent => trigger_starts_pass (canonical_regs hs) ⟨hp, hm, hd, hsent⟩,
    fun s l g hs hp hm hd hsent => trigger_overruns (canonical_regs hs) ⟨hp, hm, hd, hsent⟩, fun s l g c hs hp => ?_,
    fun s l g slice raw before after c hs hp _ hb ht hc hd hroom hcal hshort => ?_,
    fun s l _ hl hq => empty_queue_read (urgent := false) hl hq,
    fun s l e stamp rest hs hl hq => oldest_entry_read (urgent := false) (canonical_regs hs) hl hq,
    fun s l _ hl hq => empty_queue_read (urgent := true) hl hq,
    fun s l e stamp rest hs hl hq => oldest_entry_read (urgent := true) (canonical_regs hs) hl hq⟩
  · obtain ⟨t, ht, hshown, hrefused, haccepted⟩ := urgent_request_answered (canonical_regs hs) hp g c
    exact ⟨t, ht, hshown.result, hshown.group, hrefused, haccepted⟩
  · obtain ⟨t, hexec, q, hq, hjoined⟩ := triggered_result_joins_q11 (slice := slice) (raw := raw) (before := before)
      (after := after) (canonical_regs hs) ⟨hp, hb, ht, hc, hd⟩ hroom hcal hshort
    obtain ⟨hlast, hq11, hseq⟩ := hjoined
    refine ⟨t, hexec, ?_, hseq⟩
    rcases hq with rfl | ⟨hne, rfl⟩
    · exact .inl ⟨hlast, hq11⟩
    · exact .inr ⟨hne, hlast, hq11⟩

end Sys2Proof.Machine
end

section
/-!
PROOFS. The position block through the state's operations: lists of fields that an operation may write, quotients whose rounding
is left open, and what of a lane's position block an operation leaves as it was.
-/
namespace Sys2Proof.Machine

/-! ## Fields that an operation may write -/

/-- Every field of `gs` is apart from every field of `fs`. -/
def apartAll (gs fs : List Fld) : Bool := gs.all fun g => fs.all fun f => g.apart f

theorem apartAll_mem {gs fs : List Fld} (h : apartAll gs fs = true) {g : Fld} (hg : g ∈ gs) : ∀ f ∈ fs, g.apart f = true :=
  List.all_eq_true.1 (List.all_eq_true.1 h g hg)

theorem apartAll_mono {gs gs' fs : List Fld} (h : apartAll gs fs = true) (hg : gs' ⊆ gs) : apartAll gs' fs = true :=
  List.all_eq_true.2 fun g hm => List.all_eq_true.1 h g (hg hm)

section
variable {fs gs : List Fld} {s t : State}

/-- A write of one of the fields `gs`, all apart from the spared ones. -/
theorem Spares.wrIn (h : Spares fs s t) (ha : apartAll gs fs = true) (d : Die) {g : Fld} (v i j : Nat) (hg : g ∈ gs) :
    Spares fs s (t.wr d g v i j) := h.wr d g v i j (apartAll_mem ha hg)

end

/-! ## Quotients whose rounding is open -/

theorem State.quot_regs (s : State) (num den : Int) : (s.quot num den).2.regs = s.regs := by
  unfold State.quot
  split <;> rfl

theorem State.roundQ_regs (s : State) (num den : Int) : (s.roundQ num den).2.regs = s.regs := by
  unfold State.roundQ
  split <;> rfl

theorem State.quot_run (s : State) (num den : Int) (l : Lane) : (s.quot num den).2.run l = s.run l := by
  unfold State.quot
  split
  · rfl
  · cases l <;> rfl

theorem State.roundQ_run (s : State) (num den : Int) (l : Lane) : (s.roundQ num den).2.run l = s.run l := by
  unfold State.roundQ
  split
  · cases l <;> rfl
  · rfl

theorem Spares.quot {fs : List Fld} {s t : State} (h : Spares fs s t) (num den : Int) : Spares fs s (t.quot num den).2 :=
  h.of_regs (State.quot_regs ..)

theorem Spares.roundQ {fs : List Fld} {s t : State} (h : Spares fs s t) (num den : Int) : Spares fs s (t.roundQ num den).2 :=
  h.of_regs (State.roundQ_regs ..)

/-- What holds of the model's quotient holds of the exact one up to its rounding. -/
theorem State.nearly_quot (s : State) (num den : Int) {P : Int → Prop} (h : P (s.quot num den).1) : nearly num den P := by
  obtain ⟨q, u, hq, hround, -, -⟩ := s.quot_cases num den
  rw [hq] at h
  rcases hround with rfl | ⟨hne, rfl⟩
  · exact .inl h
  · exact .inr ⟨hne, h⟩

/-! ## A lane's position block -/

theorem State.irq_pos (s : State) (l k : Lane) (en : Fld) (i : Nat) : ((s.irq l en i).run k).pos = (s.run k).pos := by
  unfold State.irq State.irqOf
  split
  · rw [State.run_modRun]
    split
    · next h => rw [h]
    · rfl
  · rfl

theorem State.pt_irq (s : State) (l : Lane) (p : Fin 6) (en : Fld) (i : Nat) : (s.irq l en i).pt l p = s.pt l p :=
  congrArg (fun x : PosSt => x.pt[p]) (State.irq_pos ..)

theorem State.pt_wr (s : State) (d : Die) (f : Fld) (v i j : Nat) (l : Lane) (p : Fin 6) :
    (s.wr d f v i j).pt l p = s.pt l p := congrArg (fun r : LaneRun => r.pos.pt[p]) (State.wr_run ..)

theorem State.pt_modPt (s : State) (l : Lane) (p : Fin 6) (f : PtSt → PtSt) : (s.modPt l p f).pt l p = f (s.pt l p) := by
  unfold State.pt State.modPt State.modPos
  rw [State.modRun_run]
  exact (upd_get ..).trans (if_pos rfl)

theorem State.pt_when (s : State) (l : Lane) (p : Fin 6) (c : Bool) {f : State → State}
    (hf : ∀ x : State, (f x).pt l p = x.pt l p) : (s.when c f).pt l p = s.pt l p := by
  unfold State.when
  split
  · exact hf s
  · rfl

theorem State.res_wr (s : State) (d : Die) (f : Fld) (v i j : Nat) (l : Lane) (n : Fin 2) :
    (s.wr d f v i j).res l n = s.res l n := congrArg (fun r : LaneRun => r.pos.res[n]) (State.wr_run ..)

theorem State.res_modRes (s : State) (l : Lane) (n : Fin 2) (f : ResSt → ResSt) :
    (s.modRes l n f).res l n = f (s.res l n) := by
  unfold State.res State.modRes
  rw [State.modRun_run]
  exact (upd_get ..).trans (if_pos rfl)

theorem State.res_quot (s : State) (num den : Int) (l : Lane) (n : Fin 2) : (s.quot num den).2.res l n = s.res l n :=
  congrArg (fun r : LaneRun => r.pos.res[n]) (State.quot_run ..)

section
variable {fs : List Fld} {s t : State}

theorem Spares.modRes (h : Spares fs s t) (l : Lane) (n : Fin 2) (f : ResSt → ResSt) : Spares fs s (t.modRes l n f) :=
  h.modRun ..

theorem Spares.modPos (h : Spares fs s t) (l : Lane) (f : PosSt → PosSt) : Spares fs s (t.modPos l f) := h.modRun ..

theorem Spares.modPt (h : Spares fs s t) (l : Lane) (p : Fin 6) (f : PtSt → PtSt) : Spares fs s (t.modPt l p f) :=
  h.modPos ..

/-- An interrupt asserted on a condition. -/
theorem Spares.whenIrq (h : Spares fs s t) (c : Bool) (l : Lane) (en : Fld) (i : Nat) :
    Spares fs s (t.when c fun x => x.irq l en i) := h.when c fun x => (Spares.refl x).irq ..

/-- A value offered to the engine as a source spares the position block's fields. -/
theorem Spares.ceSource (h : Spares fs s t) (l : Lane) (code : Nat) (v : Int) (valid : Bool)
    (hf : ∀ f ∈ fs, f.inM (4294967295 - 12885950464 % 4294967296) = true) : Spares fs s (t.ceSource l code v valid) :=
  h.within (State.ceSource_within _ l code v valid (by decide) (Within.refl _)) hf

end

end Sys2Proof.Machine
end

section
/-!
PROOFS. Resolvers (R152 to R156): an output of a channel in its stages, and the step of `CAR`.
-/
namespace Sys2Proof.Machine

section
variable {fs : List Fld} {s t : State} {l : Lane} {n : Fin 2}

/-! ## What the operations on a resolver channel write -/

theorem Spares.resTrack (h : Spares fs s t) (e : Int)
    (hf : apartAll [R.POS_RESn_ANGLE.ANGLE, R.POS_RESn_SPEED.SPEED] fs = true) : Spares fs s (t.resTrack l n e) :=
  ((((((h.quot ..).quot ..).quot ..).modRes ..).wrIn hf _ _ _ _ (by simp)).wrIn hf _ _ _ _ (by simp))

theorem State.res_resTrack (s : State) (e : Int) :
    ∃ w, (s.resTrack l n e).res l n = { s.res l n with w := w } := by
  unfold State.resTrack State.wrS
  dsimp only
  simp only [State.res_wr, State.res_modRes, State.res_quot]
  exact ⟨_, rfl⟩

theorem Spares.resFault (h : Spares fs s t) (cond dec : Bool) (cnt : Nat) {flag tally : Fld}
    (put : Nat → Bool → ResSt → ResSt) (hf : apartAll [flag, tally] fs = true) :
    Spares fs s (t.resFault l n cond cnt dec flag tally put) :=
  .ite (((h.modRes ..).wrIn hf _ _ _ _ (by simp)).wrIn hf _ _ _ _ (by simp)) (h.modRes ..)

/-- A judged condition changes its channel by `put` alone. -/
theorem State.res_resFault (s : State) (cond dec : Bool) (cnt : Nat) (flag tally : Fld) (put : Nat → Bool → ResSt → ResSt) :
    ∃ c b, (s.resFault l n cond cnt dec flag tally put).res l n = put c b (s.res l n) := by
  unfold State.resFault
  dsimp only
  rw [apply_ite (fun x : State => x.res l n), State.inc_eq, State.set_eq, State.res_wr, State.res_wr, State.res_modRes, ite_self]
  exact ⟨_, _, rfl⟩

/-- A condition that has held for the configured count of outputs is declared (R156). -/
theorem State.resFault_declares (s : State) {cnt : Nat} (flag tally : Fld) (put : Nat → Bool → ResSt → ResSt)
    (hc : orOne (s.rd (laneDie l) R.POS_RESn_LIMIT.COUNT n) ≤ cnt + 1) :
    s.resFault l n true cnt false flag tally put =
      ((s.modRes l n (put (cnt + 1) true)).set (laneDie l) flag n).inc (laneDie l) tally n := by
  unfold State.resFault
  simp [hc]

theorem Spares.resValid (h : Spares fs s t) (v : Bool)
    (hf : apartAll [R.POS_RESn_STATUS.VALID, R.POS_STATUS.RES_VALID] fs = true) : Spares fs s (t.resValid l n v) :=
  ((h.wrIn hf _ _ _ _ (by simp)).wrIn hf _ _ _ _ (by simp)).whenIrq ..

/-- `VALID` of a channel shows in its own status and in `POS_STATUS`. -/
theorem State.resValid_reads (s : State) (v : Bool) (hs : s.regsOk = true) :
    (s.resValid l n v).rd (laneDie l) R.POS_RESn_STATUS.VALID n = b2n v ∧
      (s.resValid l n v).rdBit (laneDie l) R.POS_STATUS.RES_VALID n = v := by
  have h1 := State.wr_regsOk s (laneDie l) R.POS_RESn_STATUS.VALID (b2n v) n 0 hs
  have hvalid : Spares [R.POS_RESn_STATUS.VALID] (s.put (laneDie l) R.POS_RESn_STATUS.VALID v n) (s.resValid l n v) :=
    ((Spares.refl _).wr _ _ _ _ _ (by decide)).whenIrq ..
  have hshown : Spares [R.POS_STATUS.RES_VALID] ((s.put (laneDie l) R.POS_RESn_STATUS.VALID v n).wrBit (laneDie l)
      R.POS_STATUS.RES_VALID n v) (s.resValid l n v) := (Spares.refl _).whenIrq ..
  exact ⟨hvalid.rd_put hs (by decide) (by decide), hshown.rdBit_wrBit h1 (by decide) n.isLt⟩

/-- The fields that the corrections of a turn write (R155). -/
def correctionFlds : List Fld :=
  [R.POS_RESn_CORR_OFS.OFS_SIN, R.POS_RESn_CORR_OFS.OFS_COS, R.POS_RESn_CORR_GP.RATIO, R.POS_RESn_CORR_GP.PHASE,
   R.POS_RESn_STATUS.SETTLED]

theorem Spares.resCorrect (h : Spares fs s t) (est : Int × Int × Int × Int) (hf : apartAll correctionFlds fs = true) :
    Spares fs s (t.resCorrect l n est) :=
  (Spares.ite h ((((h.wrIn hf _ _ _ _ (by simp [correctionFlds])).wrIn hf _ _ _ _ (by simp [correctionFlds])).wrIn hf _ _ _ _
    (by simp [correctionFlds])).wrIn hf _ _ _ _ (by simp [correctionFlds]))).wrIn hf _ _ _ _ (by simp [correctionFlds])

theorem Spares.resTurn (h : Spares fs s t) (phi0 : Nat) (lock : Bool) (est : Int × Int × Int × Int)
    (hf : apartAll correctionFlds fs = true) : Spares fs s (t.resTurn l n phi0 lock est) :=
  .ite (.ite ((h.modRes ..).resCorrect est hf) (h.modRes ..)) (h.modRes ..)

/-! ## The demodulation (R154) -/

theorem Spares.demod (h : Spares fs s t) : Spares fs s (t.demod l n) := (((h.quot ..).quot ..).quot ..).modRes ..

theorem State.res_demod (s : State) : ∃ si co q,
    (s.demod l n).res l n = { s.res l n with lastS := si, lastC := co, lastQ := q } := by
  unfold State.demod
  dsimp only
  rw [State.res_modRes, State.res_quot, State.res_quot, State.res_quot]
  exact ⟨_, _, _, rfl⟩

/-- The quadrature residual is the sum over both windows a quarter period ahead, normalised to the amplitude (log entry 46). -/
theorem State.demod_nearly (s : State) {P : Int → Prop} (h : P ((s.demod l n).res l n).lastQ) :
    nearly ((s.resSum l n (s.res l n).sin).2 + (s.resSum l n (s.res l n).cos).2) ((s.resDiv l n : Int) * 2 ^ 31) P := by
  unfold State.demod at h
  dsimp only at h
  rw [State.res_modRes] at h
  exact State.nearly_quot _ _ _ h

/-! ## The stages of an output -/

/-- Angle and speed tracked, amplitude and quadrature residual shown (R154). -/
def State.resMeasured (s : State) (l : Lane) (n : Fin 2) (e : Int) (a : Nat) (q : Int) : State :=
  let amp := (s.resTrack l n e).quot a (2 ^ 36)
  let quad := amp.2.quot q (2 ^ 20)
  (quad.2.wrSat (laneDie l) R.POS_RESn_AMP.AMP amp.1.toNat n).wr (laneDie l) R.POS_RESn_AMP.QUAD (ux 16 (satS 16 quad.1)) n

/-- The three fault conditions judged (R156). -/
def State.resJudged (s : State) (l : Lane) (n : Fin 2) (los dos lot : Bool) : State :=
  let r := s.res l n
  ((s.resFault l n los r.los r.losD R.POS_RESn_STATUS.LOS R.POS_RESn_FLT.LOS_CNT fun c b x =>
    { x with los := c, losD := b }).resFault l n dos r.dos r.dosD R.POS_RESn_STATUS.DOS R.POS_RESn_FLT.DOS_CNT fun c b x =>
    { x with dos := c, dosD := b, clip := false }).resFault l n lot r.lot r.lotD R.POS_RESn_STATUS.LOT
    R.POS_RESn_FLT.LOT_CNT fun c b x => { x with lot := c, lotD := b }

/-- The lock, the configuration error and `VALID` shown (R153, R156). -/
def State.resReported (s : State) (l : Lane) (n : Fin 2) (good : Nat) (lock : Bool) : State :=
  let s8 := (s.modRes l n fun x => { x with good := good }).put (laneDie l) R.POS_RESn_STATUS.LOCK lock n
  let err := s8.resCfgErr l n
  let s9 := s8.put (laneDie l) R.POS_RESn_STATUS.CFG_ERR err n
  let q := s9.res l n
  if q.losD || q.dosD || q.lotD || err then s9.resValid l n false
  else if 160 ≤ good then s9.resValid l n true
  else s9

/-- Angle and speed given to the engine, and the corrections of a full turn (R150, R155). -/
def State.resOutput (s : State) (l : Lane) (n : Fin 2) (phi : Nat) (lock : Bool) (est : Int × Int × Int × Int) : State :=
  let ok := s.on (laneDie l) R.POS_RESn_STATUS.VALID n
  ((s.ceSource l (0x90 + n.val) (s.rdS (laneDie l) R.POS_RESn_ANGLE.ANGLE n) ok).ceSource l (0x92 + n.val)
    (s.rdS (laneDie l) R.POS_RESn_SPEED.SPEED n) ok).resTurn l n phi lock est

/-- An output of a channel runs through its stages; a clipped sample makes the degradation condition hold. -/
theorem State.resUpdate_stages (s : State) (l : Lane) (n : Fin 2) (est : Int × Int × Int × Int) :
    ∃ num den e a los high lot good lock phi, s.resUpdate l n est =
      (((((s.demod l n).quot num den).2.resMeasured l n e a ((s.demod l n).res l n).lastQ).resJudged l n los
        (high || ((s.demod l n).res l n).clip) lot).resReported l n good lock).resOutput l n phi lock est :=
  ⟨_, _, _, _, _, _, _, _, _, _, rfl⟩

theorem Spares.resMeasured (h : Spares fs s t) (e : Int) (a : Nat) (q : Int)
    (hf : apartAll [R.POS_RESn_ANGLE.ANGLE, R.POS_RESn_SPEED.SPEED, R.POS_RESn_AMP.AMP, R.POS_RESn_AMP.QUAD] fs = true) :
    Spares fs s (t.resMeasured l n e a q) :=
  ((((h.resTrack e (apartAll_mono hf (by simp))).quot ..).quot ..).wrIn hf _ _ _ _ (by simp)).wrIn hf _ _ _ _ (by simp)

theorem State.res_resMeasured (s : State) (e : Int) (a : Nat) (q : Int) :
    ∃ w, (s.resMeasured l n e a q).res l n = { s.res l n with w := w } := by
  obtain ⟨w, hw⟩ := s.res_resTrack (l := l) (n := n) e
  refine ⟨w, ?_⟩
  unfold State.resMeasured State.wrSat
  dsimp only
  rw [State.res_wr, State.res_wr, State.res_quot, State.res_quot, hw]

/-- The quadrature residual shows limited to 16 bits. -/
theorem State.resMeasured_quad (s : State) (e : Int) (a : Nat) (q : Int) (hs : s.regsOk = true) :
    nearly q (2 ^ 20) fun z =>
      (s.resMeasured l n e a q).rd (laneDie l) R.POS_RESn_AMP.QUAD n = ux 16 (satS 16 z) := by
  have hok := (((Spares.refl (fs := []) s).resTrack (l := l) (n := n) e rfl).quot a (2 ^ 36)).ok hs
  unfold State.resMeasured
  dsimp only
  generalize (s.resTrack l n e).quot a (2 ^ 36) = amp at hok ⊢
  refine State.nearly_quot amp.2 _ _ ((State.rd_wr_same _ _ _ _ _ _ ?_).trans (low_of_lt (ux_lt ..)))
  exact State.wr_regsOk _ _ _ _ _ _ (((Spares.refl (fs := []) amp.2).quot _ _).ok hok)

/-- The fields that the judgement of the fault conditions writes. -/
def judgedFlds : List Fld :=
  [R.POS_RESn_STATUS.LOS, R.POS_RESn_FLT.LOS_CNT, R.POS_RESn_STATUS.DOS, R.POS_RESn_FLT.DOS_CNT, R.POS_RESn_STATUS.LOT,
   R.POS_RESn_FLT.LOT_CNT]

theorem Spares.resJudged (h : Spares fs s t) (los dos lot : Bool) (hf : apartAll judgedFlds fs = true) :
    Spares fs s (t.resJudged l n los dos lot) := by
  unfold State.resJudged
  exact ((h.resFault _ _ _ _ (apartAll_mono hf (by simp [judgedFlds]))).resFault _ _ _ _
    (apartAll_mono hf (by simp [judgedFlds]))).resFault _ _ _ _ (apartAll_mono hf (by simp [judgedFlds]))

/-- A degraded signal is declared at the configured count of outputs. -/
theorem State.resJudged_dos (s : State) (los lot : Bool) (hs : s.regsOk = true) (hd : (s.res l n).dosD = false)
    (hc : orOne (s.rd (laneDie l) R.POS_RESn_LIMIT.COUNT n) ≤ (s.res l n).dos + 1) :
    (s.resJudged l n los true lot).rd (laneDie l) R.POS_RESn_STATUS.DOS n = 1 ∧
      rose s (s.resJudged l n los true lot) (laneDie l) R.POS_RESn_FLT.DOS_CNT n ∧
      ((s.resJudged l n los true lot).res l n).dosD = true := by
  unfold State.resJudged
  dsimp only
  have h1 : Spares [R.POS_RESn_LIMIT.COUNT, R.POS_RESn_FLT.DOS_CNT] s (s.resFault l n los (s.res l n).los (s.res l n).losD
      R.POS_RESn_STATUS.LOS R.POS_RESn_FLT.LOS_CNT fun c b x => { x with los := c, losD := b }) :=
    (Spares.refl s).resFault _ _ _ _ (by decide)
  generalize s.resFault l n los (s.res l n).los (s.res l n).losD R.POS_RESn_STATUS.LOS R.POS_RESn_FLT.LOS_CNT _ = u at h1 ⊢
  rw [hd, State.resFault_declares u _ _ _ (by rwa [h1.rd hs _ _ _ _ (by decide)])]
  have hu := h1.ok hs
  generalize hv : u.modRes l n _ = v
  have hv' : Spares [R.POS_RESn_FLT.DOS_CNT] u v := hv ▸ (Spares.refl u).modRes ..
  have hvres : (v.res l n).dosD = true := by rw [← hv, State.res_modRes]
  have hvok := hv'.ok hu
  have hset : Spares [R.POS_RESn_FLT.DOS_CNT] s (v.set (laneDie l) R.POS_RESn_STATUS.DOS n) :=
    ((h1.mono (by simp)).trans hv').wr _ _ _ _ _ (by decide)
  have hlot : ∀ {fs : List Fld} (x : State), apartAll [R.POS_RESn_STATUS.LOT, R.POS_RESn_FLT.LOT_CNT] fs = true → Spares fs x
      (x.resFault l n lot (s.res l n).lot (s.res l n).lotD R.POS_RESn_STATUS.LOT R.POS_RESn_FLT.LOT_CNT fun c b x =>
        { x with lot := c, lotD := b }) := fun x hf => (Spares.refl x).resFault _ _ _ _ hf
  refine ⟨?_, ?_, ?_⟩
  · exact (((Spares.refl (fs := [R.POS_RESn_STATUS.DOS]) _).wr _ _ _ _ _ (by decide)).trans (hlot _ (by decide))).rd_wr hvok
      (by decide)
  · exact rose_of_eq ((hlot (fs := [R.POS_RESn_FLT.DOS_CNT]) _ (by decide)).rose_inc (hset.ok hs) (by decide))
      (hset.rd hs _ _ _ _ (by decide))
  · obtain ⟨c, b, hx⟩ := State.res_resFault (l := l) (n := n) ((v.set (laneDie l) R.POS_RESn_STATUS.DOS n).inc (laneDie l)
      R.POS_RESn_FLT.DOS_CNT n) lot (s.res l n).lotD (s.res l n).lot R.POS_RESn_STATUS.LOT R.POS_RESn_FLT.LOT_CNT
      fun c b x => { x with lot := c, lotD := b }
    rw [hx, State.inc_eq, State.set_eq, State.res_wr, State.res_wr]
    exact hvres

/-- The fields that decide the configuration error of a channel (R153). -/
def resCfgFlds : List Fld := [R.POS_RESn_CFG.GROUP, R.ADC_Gg_CFG.DEST, R.ADC_Gg_CFG.MODE]

theorem Spares.resCfgErr (h : Spares resCfgFlds s t) (hs : s.regsOk = true) : t.resCfgErr l n = s.resCfgErr l n := by
  have hrd : ∀ f ∈ resCfgFlds, ∀ i, t.rd (laneDie l) f i = s.rd (laneDie l) f i := fun f hf i => h.rd hs _ _ _ _ hf
  have hgroup := hrd R.POS_RESn_CFG.GROUP (by simp [resCfgFlds])
  have hdest := hrd R.ADC_Gg_CFG.DEST (by simp [resCfgFlds])
  have hmode := hrd R.ADC_Gg_CFG.MODE (by simp [resCfgFlds])
  simp only [State.resCfgErr, hgroup, hdest, hmode]

theorem Spares.resReported (h : Spares fs s t) (good : Nat) (lock : Bool)
    (hf : apartAll [R.POS_RESn_STATUS.LOCK, R.POS_RESn_STATUS.CFG_ERR, R.POS_RESn_STATUS.VALID, R.POS_STATUS.RES_VALID] fs = true) :
    Spares fs s (t.resReported l n good lock) := by
  have h9 : ∀ b, Spares fs s (((t.modRes l n fun x => { x with good := good }).put (laneDie l) R.POS_RESn_STATUS.LOCK lock n).put
      (laneDie l) R.POS_RESn_STATUS.CFG_ERR b n) := fun b =>
    ((h.modRes ..).wrIn hf _ _ _ _ (by simp)).wrIn hf _ _ _ _ (by simp)
  have hv := apartAll_mono hf (gs' := [R.POS_RESn_STATUS.VALID, R.POS_STATUS.RES_VALID]) (by simp)
  exact .ite ((h9 _).resValid _ hv) (.ite ((h9 _).resValid _ hv) (h9 _))

/-- The configuration error shows, and with it or a declared degradation the channel is not valid. -/
theorem State.resReported_reads (s : State) (good : Nat) (lock : Bool) (hs : s.regsOk = true) :
    (s.resReported l n good lock).rd (laneDie l) R.POS_RESn_STATUS.CFG_ERR n = b2n (s.resCfgErr l n) ∧
      (s.resCfgErr l n = true ∨ (s.res l n).dosD = true →
        (s.resReported l n good lock).rd (laneDie l) R.POS_RESn_STATUS.VALID n = 0 ∧
        (s.resReported l n good lock).rdBit (laneDie l) R.POS_STATUS.RES_VALID n = false) := by
  unfold State.resReported
  dsimp only
  generalize h8 : (s.modRes l n fun x => { x with good := good }).put (laneDie l) R.POS_RESn_STATUS.LOCK lock n = x8
  have hx8 : Spares resCfgFlds s x8 := h8 ▸ ((Spares.refl s).modRes ..).wr _ _ _ _ _ (by decide)
  have hdos8 : (x8.res l n).dosD = (s.res l n).dosD := by rw [← h8, State.put_eq, State.res_wr, State.res_modRes]
  rw [hx8.resCfgErr hs]
  generalize h9 : x8.put (laneDie l) R.POS_RESn_STATUS.CFG_ERR (s.resCfgErr l n) n = x9
  have hok9 : x9.regsOk = true := h9 ▸ State.wr_regsOk _ _ _ _ _ _ (hx8.ok hs)
  have hdos9 : (x9.res l n).dosD = (s.res l n).dosD := by rw [← h9, State.put_eq, State.res_wr, hdos8]
  refine ⟨?_, fun hbad => ?_⟩
  · have hend : ∀ v, Spares [R.POS_RESn_STATUS.CFG_ERR] x9 (x9.resValid l n v) := fun v =>
      (Spares.refl x9).resValid v (by decide)
    have hput : x9.rd (laneDie l) R.POS_RESn_STATUS.CFG_ERR n = b2n (s.resCfgErr l n) := by
      rw [← h9]
      exact (Spares.refl (fs := [R.POS_RESn_STATUS.CFG_ERR]) _).rd_put (hx8.ok hs) (by decide) (by decide)
    exact ((Spares.ite (hend _) (.ite (hend _) (Spares.refl x9))).rd hok9 _ _ _ _ (by decide)).trans hput
  · rw [if_pos (by rcases hbad with h | h <;> simp [h, hdos9])]
    exact State.resValid_reads x9 false hok9

theorem Spares.resOutput (h : Spares fs s t) (phi : Nat) (lock : Bool) (est : Int × Int × Int × Int)
    (hf : apartAll correctionFlds fs = true) (hb : ∀ f ∈ fs, f.inM (4294967295 - 12885950464 % 4294967296) = true) :
    Spares fs s (t.resOutput l n phi lock est) := ((h.ceSource _ _ _ _ hb).ceSource _ _ _ _ hb).resTurn _ _ _ hf

/-! ## The commands of a resolver channel -/

theorem exec_resolverUpdate {est : Int × Int × Int × Int} (hp : s.past l 11 = true)
    (hen : s.on (laneDie l) R.POS_RESn_CFG.EN n = true) :
    exec (.resolverUpdate l n est) s = .next (s.resUpdate l n est) :=
  congrArg Host.Outcome.next (if_pos (by rw [hp, hen]; rfl))

/-- What an output of a channel shows. -/
structure ResolverShown (s : State) (l : Lane) (n : Fin 2) (t : State) : Prop where
  quad : nearly ((s.resSum l n (s.res l n).sin).2 + (s.resSum l n (s.res l n).cos).2) ((s.resDiv l n : Int) * 2 ^ 31) fun q =>
    nearly q (2 ^ 20) fun z => t.rd (laneDie l) R.POS_RESn_AMP.QUAD n = ux 16 (satS 16 z)
  cfgErr : t.rd (laneDie l) R.POS_RESn_STATUS.CFG_ERR n = b2n (s.resCfgErr l n)
  invalid : s.resCfgErr l n = true →
    t.rd (laneDie l) R.POS_RESn_STATUS.VALID n = 0 ∧ t.rdBit (laneDie l) R.POS_STATUS.RES_VALID n = false
  dos : (s.res l n).clip = true → (s.res l n).dosD = false →
    orOne (s.rd (laneDie l) R.POS_RESn_LIMIT.COUNT n) ≤ (s.res l n).dos + 1 →
    t.rd (laneDie l) R.POS_RESn_STATUS.DOS n = 1 ∧ rose s t (laneDie l) R.POS_RESn_FLT.DOS_CNT n ∧
      t.rd (laneDie l) R.POS_RESn_STATUS.VALID n = 0

theorem nearly_mono {num den : Int} {P Q : Int → Prop} (h : nearly num den P) (hPQ : ∀ q, P q → Q q) : nearly num den Q :=
  h.imp (hPQ _) (And.imp_right (hPQ _))

/-- The fields that the stages of an output pass on to one another. -/
def resBasisFlds : List Fld := R.POS_RESn_LIMIT.COUNT :: R.POS_RESn_FLT.DOS_CNT :: resCfgFlds

/-- Demodulation and measurement leave the limits, the configuration and the count of degraded outputs. -/
theorem State.resMeasured_demod (s : State) (num den : Int) (e : Int) (a : Nat) (q : Int) :
    let m := ((s.demod l n).quot num den).2.resMeasured l n e a q
    Spares resBasisFlds s m ∧ (m.res l n).dosD = (s.res l n).dosD ∧ (m.res l n).dos = (s.res l n).dos := by
  intro m
  refine ⟨((Spares.refl s).demod.quot ..).resMeasured _ _ _ (by decide), ?_⟩
  obtain ⟨w, hw⟩ := ((s.demod l n).quot num den).2.res_resMeasured (l := l) (n := n) e a q
  obtain ⟨si, co, q', hq⟩ := s.res_demod (l := l) (n := n)
  rw [hw, State.res_quot, hq]
  exact ⟨rfl, rfl⟩

/-- The report of an output reaches the registers, and what was measured and judged stands. -/
theorem State.resOutput_reported (s : State) (good : Nat) (lock : Bool) (phi : Nat) (est : Int × Int × Int × Int)
    (hs : s.regsOk = true) :
    let t := (s.resReported l n good lock).resOutput l n phi lock est
    Spares [R.POS_RESn_AMP.QUAD, R.POS_RESn_STATUS.DOS, R.POS_RESn_FLT.DOS_CNT] s t ∧
      t.rd (laneDie l) R.POS_RESn_STATUS.CFG_ERR n = b2n (s.resCfgErr l n) ∧
      (s.resCfgErr l n = true ∨ (s.res l n).dosD = true → t.rd (laneDie l) R.POS_RESn_STATUS.VALID n = 0 ∧
        t.rdBit (laneDie l) R.POS_STATUS.RES_VALID n = false) := by
  intro t
  obtain ⟨herr, hbad⟩ := State.resReported_reads (l := l) (n := n) s good lock hs
  have hreport : Spares [R.POS_RESn_AMP.QUAD, R.POS_RESn_STATUS.DOS, R.POS_RESn_FLT.DOS_CNT] s (s.resReported l n good lock) :=
    (Spares.refl s).resReported _ _ (by decide)
  have hout : Spares [R.POS_RESn_AMP.QUAD, R.POS_RESn_STATUS.DOS, R.POS_RESn_FLT.DOS_CNT, R.POS_RESn_STATUS.CFG_ERR,
      R.POS_RESn_STATUS.VALID, R.POS_STATUS.RES_VALID] (s.resReported l n good lock) t :=
    (Spares.refl _).resOutput _ _ _ (by decide) (by decide)
  have hok := hreport.ok hs
  refine ⟨hreport.trans (hout.mono (by simp)), (hout.rd hok _ _ _ _ (by decide)).trans herr, fun h => ?_⟩
  rw [State.rdBit_def, hout.rd hok _ _ _ _ (by decide), hout.rd hok _ _ _ _ (by decide), ← State.rdBit_def]
  exact hbad h

theorem State.resUpdate_shown (s : State) (l : Lane) (n : Fin 2) (est : Int × Int × Int × Int) (hs : s.regsOk = true) :
    ResolverShown s l n (s.resUpdate l n est) := by
  obtain ⟨num, den, e, a, los, high, lot, good, lock, phi, heq⟩ := s.resUpdate_stages l n est
  have hclip : ((s.demod l n).res l n).clip = (s.res l n).clip := by
    obtain ⟨si, co, q, hq⟩ := s.res_demod (l := l) (n := n)
    rw [hq]
  rw [heq, hclip]
  obtain ⟨hsm, hdecl, hcount⟩ := s.resMeasured_demod (l := l) (n := n) num den e a ((s.demod l n).res l n).lastQ
  have hquad := State.resMeasured_quad (l := l) (n := n) ((s.demod l n).quot num den).2 e a ((s.demod l n).res l n).lastQ
    (((Spares.refl (fs := []) s).demod (l := l) (n := n)).quot num den |>.ok hs)
  generalize ((s.demod l n).quot num den).2.resMeasured l n e a ((s.demod l n).res l n).lastQ = m at *
  have hmok := hsm.ok hs
  have hmj : ∀ b, Spares (R.POS_RESn_AMP.QUAD :: resCfgFlds) m (m.resJudged l n los b lot) := fun b =>
    (Spares.refl m).resJudged _ _ _ (by decide)
  have hjok := (hmj (high || (s.res l n).clip)).ok hmok
  have hcfg : (m.resJudged l n los (high || (s.res l n).clip) lot).resCfgErr l n = s.resCfgErr l n :=
    (((hmj _).mono (by simp)).resCfgErr hmok).trans ((hsm.mono (by simp [resBasisFlds])).resCfgErr hs)
  obtain ⟨hjt, herr, hbad⟩ := State.resOutput_reported (l := l) (n := n) (m.resJudged l n los (high || (s.res l n).clip) lot) good
    lock phi est hjok
  rw [hcfg] at herr hbad
  exact
    { quad := State.demod_nearly s (nearly_mono hquad fun z hz => by
        rw [hjt.rd hjok _ _ _ _ (by decide), (hmj _).rd hmok _ _ _ _ (by decide), hz])
      cfgErr := herr
      invalid := fun h => hbad (.inl h)
      dos := fun hc hd hn => by
        rw [hc, Bool.or_true] at hjok hjt hbad ⊢
        obtain ⟨hdos, hrose, hnow⟩ := State.resJudged_dos (l := l) (n := n) m los lot hmok (hdecl.trans hd)
          (by rwa [hsm.rd hs _ _ _ _ (by decide), hcount])
        exact ⟨(hjt.rd hjok _ _ _ _ (by decide)).trans hdos,
          rose_of_eq ((hjt.rd hjok _ _ _ _ (by decide)).trans hrose) (hsm.rd hs _ _ _ _ (by decide)), (hbad (.inr hnow)).1⟩ }

theorem exec_resolverCarStep (hp : s.past l 11 = true) (hen : s.on (laneDie l) R.POS_RESn_CFG.EN n = true) :
    let due := (s.res l n).carAt + 1280 * s.resDiv l n
    let u := (s.advTo due).modRes l n fun x => { x with carAt := due }
    exec (.resolverCarStep l n) s = .next (if s.on (laneDie l) R.POS_RESn_CFG.CORR_FREEZE n then u else
      u.wr (laneDie l) R.POS_RESn_CAR.CAR (ux 16 ((s.rd (laneDie l) R.POS_RESn_CAR.CAR n : Int) +
        carStep ((s.res l n).lastS + (s.res l n).lastC) (s.res l n).lastQ)) n) := by
  intro due u
  have hreg : u.regs = s.regs := State.modRun_regs ..
  have hres : u.res l n = { s.res l n with carAt := due } := (State.res_modRes ..).trans
    (congrArg (fun r : LaneRun => { r.pos.res[n] with carAt := due }) (State.advTo_run ..))
  refine congrArg Host.Outcome.next ((if_pos (by rw [hp, hen]; rfl)).trans ?_)
  have hon : u.on (laneDie l) R.POS_RESn_CFG.CORR_FREEZE n = s.on (laneDie l) R.POS_RESn_CFG.CORR_FREEZE n := by
    unfold State.on State.rd
    rw [hreg]
  have hcar : u.rd (laneDie l) R.POS_RESn_CAR.CAR n = s.rd (laneDie l) R.POS_RESn_CAR.CAR n := by
    unfold State.rd
    rw [hreg]
  show (if u.on (laneDie l) R.POS_RESn_CFG.CORR_FREEZE n then u else u.wr (laneDie l) R.POS_RESn_CAR.CAR
    (ux 16 ((u.rd (laneDie l) R.POS_RESn_CAR.CAR n : Int) + carStep ((u.res l n).lastS + (u.res l n).lastC)
      (u.res l n).lastQ)) n) = _
  rw [hon, hcar, hres]

/-- `CAR` moves by at most one code 1,024 carrier periods after its last step, unless frozen (R155). -/
theorem car_step_due (hs : s.regsOk = true) (hp : s.past l 11 = true) (hen : s.on (laneDie l) R.POS_RESn_CFG.EN n = true) :
    leads (.resolverCarStep l n) s fun t =>
      let x := s.res l n
      t.now = max s.now (x.carAt + 1280 * s.resDiv l n) ∧ (t.res l n).carAt = x.carAt + 1280 * s.resDiv l n ∧
      t.rd (laneDie l) R.POS_RESn_CAR.CAR n = (if s.on (laneDie l) R.POS_RESn_CFG.CORR_FREEZE n
        then s.rd (laneDie l) R.POS_RESn_CAR.CAR n
        else low R.POS_RESn_CAR.CAR.w (ux 16 ((s.rd (laneDie l) R.POS_RESn_CAR.CAR n : Int) +
          carStep (x.lastS + x.lastC) x.lastQ))) := by
  have hexec := exec_resolverCarStep hp hen
  dsimp only at hexec ⊢
  generalize hdue : (s.res l n).carAt + 1280 * s.resDiv l n = due at *
  generalize hu : (s.advTo due).modRes l n _ = u at *
  have hnow : u.now = max s.now due := hu ▸ State.modRun_now ..
  have hcar : (u.res l n).carAt = due := by rw [← hu, State.res_modRes]
  have hreg : u.regs = s.regs := hu ▸ State.modRun_regs ..
  refine leads_of_exec hexec ?_
  split
  · exact ⟨hnow, hcar, by unfold State.rd; rw [hreg]⟩
  · refine ⟨hnow, by rw [State.res_wr, hcar], State.rd_wr_same _ _ _ _ _ _ ?_⟩
    unfold State.regsOk at hs ⊢
    rwa [hreg]

end

end Sys2Proof.Machine
end

section
/-!
PROOFS. SENT frames (R165 to R167), from the levels of the line to the registers, and the commands of resolvers and SENT together.
-/
namespace Sys2Proof.Machine

/-! ## The line's levels (R166) -/

/-- The levels of a line whose falling edges follow each other by the intervals `vs`, in ticks of length `T`: 5 ticks low each. -/
def sentLevels (T : Nat) (vs : List Nat) : List Nat := vs.flatMap fun v => [5 * T, (v - 5) * T]

theorem fallIntervals_sentLevels (T : Nat) : ∀ {vs : List Nat}, (∀ v ∈ vs, 5 ≤ v) →
    fallIntervals (sentLevels T vs) = vs.map (· * T)
  | [], _ => rfl
  | v :: r, h => by
    obtain ⟨hv, hr⟩ := List.forall_mem_cons.1 h
    show (5 * T + (v - 5) * T) :: fallIntervals (sentLevels T r) = v * T :: r.map (· * T)
    rw [fallIntervals_sentLevels T hr, ← Nat.add_mul, Nat.add_sub_cancel' hv]

theorem foldl_edgeFilterStep {q : Nat} : ∀ {vs : List Nat}, (∀ v ∈ vs, q ≤ v) → ∀ a r,
    vs.foldl (edgeFilterStep q) (a :: r, false) = (vs.reverse ++ a :: r, false)
  | [], _, _, _ => rfl
  | v :: vs, h, a, r => by
    obtain ⟨hv, hr⟩ := List.forall_mem_cons.1 h
    have hstep : edgeFilterStep q (a :: r, false) v = (v :: a :: r, false) := if_neg (Nat.not_lt.2 hv)
    rw [List.foldl_cons, hstep, foldl_edgeFilterStep hr, List.reverse_cons, List.append_assoc]
    rfl

/-- The edge filter lets levels through that are long enough. -/
theorem edgeFilter_of_le {q : Nat} {vs : List Nat} (h : ∀ v ∈ vs, q ≤ v) :
    (vs.foldl (edgeFilterStep q) ([], false)).1.reverse = vs := by
  cases vs with
  | nil => rfl
  | cons v r =>
    have hstep : edgeFilterStep q ([], false) v = ([v], false) := rfl
    rw [List.foldl_cons, hstep, foldl_edgeFilterStep (List.forall_mem_cons.1 h).2, List.reverse_append, List.reverse_reverse]
    rfl

/-! ## Intervals in ticks (R166) -/

/-- A whole number of ticks is found exactly. -/
theorem State.ticks_whole (s : State) {T : Nat} (hT : 0 < T) (v : Nat) : s.ticks (56 * T) (v * T) = (v, s) := by
  have hnum : ((v * T : Nat) : Int) * 56 = v * (56 * T : Nat) := by
    push_cast
    ring
  unfold State.ticks
  rw [Nat.max_eq_right (by omega : 1 ≤ 56 * T), hnum]
  generalize hd : ((56 * T : Nat) : Int) = den
  have hden : 0 < den := by omega
  have hround : s.roundQ (v * den) den = ((v : Int), s) := by
    unfold State.roundQ
    rw [Int.mul_emod_left, if_neg (by omega), Int.add_comm, ← Int.mul_assoc, Int.mul_comm 2 (v : Int), Int.mul_assoc,
      Int.add_mul_ediv_right _ _ (by omega), Int.ediv_eq_zero_of_lt (by omega) (by omega), Int.zero_add]
  rw [hround]
  rfl

theorem State.tickList_whole (s : State) {T : Nat} (hT : 0 < T) (vs : List Nat) :
    s.tickList (56 * T) (vs.map (· * T)) = (vs, s) := by
  induction vs with
  | nil => rfl
  | cons v r ih =>
    show (let x := s.ticks (56 * T) (v * T); let y := x.2.tickList (56 * T) (r.map (· * T)); (x.1 :: y.1, y.2)) = _
    rw [State.ticks_whole s hT]
    dsimp only
    rw [ih]

/-! ## A frame with data -/

/-- The intervals of a frame in ticks: sync, status, data, CRC and, where the channel expects one, the pause. -/
def sentIntervals (st crc pause : Nat) (data : List Nat) (paused : Bool) : List Nat :=
  (56 :: (st :: data ++ [crc]).map fun v => v + 12) ++ if paused then [pause] else []

/-- A frame on the line of an enabled channel: whole ticks, a sync pulse in tolerance that agrees with the last one, and nibbles
and pause within their limits. -/
structure FrameOnLine (s : State) (l : Lane) (n : Fin 4) (T st crc pause q : Nat) (data : List Nat) : Prop where
  last : ((s.run l).pos.sent[n]).sync = some q
  agreesAbove : 64 * (56 * T) ≤ 65 * q
  agreesBelow : 63 * q ≤ 64 * (56 * T)
  tickAbove : 8 * (56 * 40 * clampN 30 900 (s.rd (laneDie l) R.POS_SENTs_CFG.TICK n)) ≤ 10 * (56 * T)
  tickBelow : 10 * (56 * T) ≤ 12 * (56 * 40 * clampN 30 900 (s.rd (laneDie l) R.POS_SENTs_CFG.TICK n))
  length : data.length = clampN 1 6 (s.rd (laneDie l) R.POS_SENTs_CFG.NIBBLES n)
  nibbles : ∀ v ∈ st :: crc :: data, v < 16
  pauseAbove : 12 ≤ pause
  pauseBelow : pause ≤ 768

section
variable {fs : List Fld} {s t : State} {l : Lane} {n : Fin 4} {T st crc pause q : Nat} {data : List Nat}

theorem clampN_mem {lo hi : Nat} (x : Nat) (h : lo ≤ hi) : lo ≤ clampN lo hi x ∧ clampN lo hi x ≤ hi := by
  unfold clampN
  split
  · omega
  · split <;> omega

theorem FrameOnLine.tick_pos (h : FrameOnLine s l n T st crc pause q data) : 0 < T := by
  have := (clampN_mem (lo := 30) (hi := 900) (s.rd (laneDie l) R.POS_SENTs_CFG.TICK n) (by decide)).1
  have := h.tickAbove
  omega

theorem FrameOnLine.twelve_le (h : FrameOnLine s l n T st crc pause q data) (paused : Bool) :
    ∀ v ∈ sentIntervals st crc pause data paused, 12 ≤ v := by
  intro v hv
  have := h.pauseAbove
  cases paused <;> simp [sentIntervals] at hv <;> omega

/-- The filtered line shows the intervals of the frame. -/
theorem FrameOnLine.intervals (h : FrameOnLine s l n T st crc pause q data) (paused : Bool) :
    fallIntervals ((sentLevels T (sentIntervals st crc pause data paused)).foldl
      (edgeFilterStep (40 * clampN 30 900 (s.rd (laneDie l) R.POS_SENTs_CFG.TICK n) / 4)) ([], false)).1.reverse =
      (sentIntervals st crc pause data paused).map (· * T) := by
  have hlong : ∀ x ∈ sentLevels T (sentIntervals st crc pause data paused),
      40 * clampN 30 900 (s.rd (laneDie l) R.POS_SENTs_CFG.TICK n) / 4 ≤ x := by
    intro x hx
    obtain ⟨v, hv, hx⟩ := List.mem_flatMap.1 hx
    have h12 := h.twelve_le paused v hv
    have hT := h.tickAbove
    have h7 : 7 * T ≤ (v - 5) * T := Nat.mul_le_mul_right T (by omega)
    simp only [List.mem_cons, List.not_mem_nil, or_false] at hx
    rcases hx with rfl | rfl <;> omega
  rw [edgeFilter_of_le hlong, fallIntervals_sentLevels T fun v hv => by have := h.twelve_le paused v hv; omega]

/-- A sync interval noted for the comparison with the next one. -/
def State.sentSynced (s : State) (l : Lane) (n : Fin 4) (sync : Nat) : State :=
  s.modPos l fun p => { p with sent := upd p.sent n fun c => { c with sync := some sync } }

/-- An accepted frame stored: data, status, sequence, stamp and tick, with `VALID` and `NEW_FAST` (R165, R167). -/
def State.sentStored (s : State) (l : Lane) (n : Fin 4) (st tick age : Nat) (data : List Nat) : State :=
  let d := laneDie l
  (((((((s.wr d R.POS_SENTs_FAST.DATA (data.foldl (fun a x => 16 * a + x) 0) n).wr d R.POS_SENTs_FAST.STATUS st n).wr d
    R.POS_SENTs_FAST.SEQ (s.rd d R.POS_SENTs_FAST.SEQ n + 1) n).wr d R.POS_SENTs_FAST_STAMP.STAMP
    (low 32 (s.laneTime l - age)) n).wr d R.POS_SENTs_TICK.TICK tick n).set d R.POS_SENTs_STATUS.VALID n).set d
    R.POS_SENTs_STATUS.NEW_FAST n).wrBit d R.POS_STATUS.SENT_VALID n true

/-- What follows on an accepted frame: its instant, the interrupt, and its nibble of the slow message. -/
def State.sentFollowed (s : State) (l : Lane) (n : Fin 4) (st now : Nat) : State :=
  let s6 := (s.modPos l fun p => { p with sent := upd p.sent n fun c => { c with lastAt := now, got := true } }).irq l
    R.POS_SENTs_CFG.IRQ_EN n
  if s6.on (laneDie l) R.POS_SENTs_CFG.SLOW_EN n then s6.sentSlow l n st else s6

/-- The nibbles of the frame are found, their CRC last, and within the limits of a nibble. -/
theorem FrameOnLine.nibbles_limited (h : FrameOnLine s l n T st crc pause q data) :
    (((st :: data ++ [crc]).map fun v => v + 12).all fun t => decide (12 ≤ t) && decide (t ≤ 27)) = true := by
  have hnib : ∀ v ∈ st :: data ++ [crc], v < 16 := fun v hv => h.nibbles v (by simpa [or_comm, or_left_comm] using hv)
  rw [List.all_map, List.all_eq_true]
  intro v hv
  have := hnib v hv
  simp
  omega

theorem FrameOnLine.pause_limited (h : FrameOnLine s l n T st crc pause q data) (paused : Bool) :
    let p := ((sentIntervals st crc pause data paused).map (· * T)).getD (data.length + 2 + 1) 0
    (!paused || (decide (12 * (56 * T) ≤ 56 * p) && decide (56 * p ≤ 768 * (56 * T)))) = true := by
  have h12 := Nat.mul_le_mul_right T h.pauseAbove
  have h768 := Nat.mul_le_mul_right T h.pauseBelow
  cases paused
  · rfl
  · have hp : ((sentIntervals st crc pause data true).map (· * T)).getD (data.length + 2 + 1) 0 = pause * T := by
      simp [sentIntervals, List.getD_eq_getElem?_getD]
    dsimp only
    rw [hp, Bool.not_true, Bool.false_or, Bool.and_eq_true, decide_eq_true_eq, decide_eq_true_eq]
    omega

theorem sentIntervals_nibbles (T st crc pause : Nat) (data : List Nat) (paused : Bool) :
    (((sentIntervals st crc pause data paused).map (· * T)).drop 1).take (data.length + 2) =
      ((st :: data ++ [crc]).map fun v => v + 12).map (· * T) := by
  rw [sentIntervals, List.cons_append, List.map_cons, List.map_append, List.drop_one, List.tail_cons]
  exact List.take_left' (by simp)

theorem sentIntervals_length (T st crc pause : Nat) (data : List Nat) (paused : Bool) :
    ((sentIntervals st crc pause data paused).map (· * T)).length = 1 + (data.length + 2) + b2n paused := by
  cases paused <;> simp [sentIntervals, b2n] <;> omega

/-- A frame whose CRC stands is stored, any other one rejected (R165, R166). -/
theorem State.sentFrame_judged (h : FrameOnLine s l n T st crc pause q data) :
    ∃ age, s.sentFrame l n (sentLevels T (sentIntervals st crc pause data (s.on (laneDie l) R.POS_SENTs_CFG.PAUSE n))) =
      if crc = sentCrc (s.on (laneDie l) R.POS_SENTs_CFG.CRC_LEGACY n) data then
        ((s.sentSynced l n (56 * T)).sentStored l n st T age data).sentFollowed l n st s.now
      else (s.sentSynced l n (56 * T)).sentReject l n R.POS_SENTs_ERR.CRC := by
  refine ⟨(((sentIntervals st crc pause data (s.on (laneDie l) R.POS_SENTs_CFG.PAUSE n)).map (· * T)).drop 1).sum / 4, ?_⟩
  generalize hp : s.on (laneDie l) R.POS_SENTs_CFG.PAUSE n = paused
  have hiv := h.intervals paused
  have hticks := State.tickList_whole (s.sentSynced l n (56 * T)) h.tick_pos ((st :: data ++ [crc]).map fun v => v + 12)
  have htick : ((s.sentSynced l n (56 * T)).quot ((56 * T : Nat) : Int) 56) = ((T : Int), s.sentSynced l n (56 * T)) := by
    rw [State.quot_of_emod_eq_zero _ (by omega)]
    exact congrArg (·, _) (by omega)
  have hsync : ((sentIntervals st crc pause data paused).map (· * T)).headD 0 = 56 * T := rfl
  have htol : (decide (8 * (56 * (40 * clampN 30 900 (s.rd (laneDie l) R.POS_SENTs_CFG.TICK n))) ≤ 10 * (56 * T)) &&
      decide (10 * (56 * T) ≤ 12 * (56 * (40 * clampN 30 900 (s.rd (laneDie l) R.POS_SENTs_CFG.TICK n))))) = true := by
    rw [← Nat.mul_assoc 56 40, decide_eq_true h.tickAbove, decide_eq_true h.tickBelow]
    rfl
  have hagree : (decide (64 * (56 * T) ≤ 65 * q) && decide (63 * q ≤ 64 * (56 * T))) = true := by
    rw [decide_eq_true h.agreesAbove, decide_eq_true h.agreesBelow]
    rfl
  have hback : (((st :: data ++ [crc]).map fun v => v + 12).map fun v => v - 12) = st :: data ++ [crc] := by
    simp [Function.comp_def]
  have hcrc : (st :: data ++ [crc]).getD (data.length + 2 - 1) 0 = crc := by
    simp [List.getD_eq_getElem?_getD]
  have hdata : ((st :: data ++ [crc]).drop 1).take (data.length + 2 - 2) = data := List.take_left' (by simp)
  unfold State.sentFrame
  dsimp only
  rw [hiv, h.last, hp, ← h.length]
  dsimp only
  rw [hsync, htol, hagree, sentIntervals_nibbles, sentIntervals_length, h.pause_limited paused]
  simp only [if_true]
  unfold State.sentSynced at *
  rw [hticks]
  dsimp only
  rw [h.nibbles_limited, hback, hcrc, hdata, htick]
  simp only [bne_self_eq_false, Bool.not_true, Bool.or_self, Bool.false_eq_true, if_false, ne_eq, ite_not]
  rfl

/-! ## What a frame leaves in the registers -/

/-- The fields of a channel's fast data. -/
def fastFlds : List Fld :=
  [R.POS_SENTs_FAST.DATA, R.POS_SENTs_FAST.STATUS, R.POS_SENTs_FAST.SEQ, R.POS_SENTs_TICK.TICK, R.POS_SENTs_STATUS.VALID,
   R.POS_SENTs_STATUS.NEW_FAST]

/-- The slow message writes fields of its own. -/
theorem Spares.sentSlow (h : Spares fs s t) (status : Nat) (hf : apartAll [R.POS_SENTs_SLOW.DATA, R.POS_SENTs_SLOW.ID,
    R.POS_SENTs_SLOW.FMT, R.POS_SENTs_STATUS.NEW_SLOW, R.POS_SENTs_ERR.SLOW_CRC] fs = true) :
    Spares fs s (t.sentSlow l n status) :=
  .ite (.ite (((((h.modPos ..).wrIn hf _ _ _ _ (by simp)).wrIn hf _ _ _ _ (by simp)).wrIn hf _ _ _ _ (by simp)).wrIn hf _ _ _ _
    (by simp)) ((h.modPos ..).wrIn hf _ _ _ _ (by simp))) (h.modPos ..)

theorem State.sentFollowed_spares (s : State) (st now : Nat) : Spares fastFlds s (s.sentFollowed l n st now) :=
  have h := ((Spares.refl s).modPos l fun p => { p with sent := upd p.sent n fun c => { c with lastAt := now, got := true } }).irq
    l R.POS_SENTs_CFG.IRQ_EN n
  .ite (h.sentSlow st (by decide)) h

/-- The registers show a frame that was taken. -/
structure FrameShown (s : State) (l : Lane) (n : Fin 4) (T st : Nat) (data : List Nat) (t : State) : Prop where
  data : t.rd (laneDie l) R.POS_SENTs_FAST.DATA n = low R.POS_SENTs_FAST.DATA.w (data.foldl (fun a x => 16 * a + x) 0)
  status : t.rd (laneDie l) R.POS_SENTs_FAST.STATUS n = low R.POS_SENTs_FAST.STATUS.w st
  seq : t.rd (laneDie l) R.POS_SENTs_FAST.SEQ n =
    low R.POS_SENTs_FAST.SEQ.w (s.rd (laneDie l) R.POS_SENTs_FAST.SEQ n + 1)
  tick : t.rd (laneDie l) R.POS_SENTs_TICK.TICK n = low R.POS_SENTs_TICK.TICK.w T
  valid : t.rd (laneDie l) R.POS_SENTs_STATUS.VALID n = 1
  new : t.rd (laneDie l) R.POS_SENTs_STATUS.NEW_FAST n = 1

theorem State.sentStored_shown (age : Nat) (hs : s.regsOk = true) (ht : Spares fastFlds (s.sentStored l n st T age data) t) :
    FrameShown s l n T st data t := by
  unfold State.sentStored at ht
  dsimp only at ht
  let x1 := s.wr (laneDie l) R.POS_SENTs_FAST.DATA (data.foldl (fun a x => 16 * a + x) 0) n
  let x2 := x1.wr (laneDie l) R.POS_SENTs_FAST.STATUS st n
  let x3 := x2.wr (laneDie l) R.POS_SENTs_FAST.SEQ (s.rd (laneDie l) R.POS_SENTs_FAST.SEQ n + 1) n
  let x4 := x3.wr (laneDie l) R.POS_SENTs_FAST_STAMP.STAMP (low 32 (s.laneTime l - age)) n
  let x5 := x4.wr (laneDie l) R.POS_SENTs_TICK.TICK T n
  let x6 := x5.set (laneDie l) R.POS_SENTs_STATUS.VALID n
  let x7 := x6.set (laneDie l) R.POS_SENTs_STATUS.NEW_FAST n
  have h1 : x1.regsOk = true := State.wr_regsOk _ _ _ _ _ _ hs
  have h2 : x2.regsOk = true := State.wr_regsOk _ _ _ _ _ _ h1
  have h4 : x4.regsOk = true := State.wr_regsOk _ _ _ _ _ _ (State.wr_regsOk _ _ _ _ _ _ h2)
  have h5 : x5.regsOk = true := State.wr_regsOk _ _ _ _ _ _ h4
  have h6 : x6.regsOk = true := State.wr_regsOk _ _ _ _ _ _ h5
  have s7 : Spares fastFlds x7 t := ((Spares.refl x7).wr _ _ _ _ _ (by decide)).trans ht
  have s6 : Spares (fastFlds.take 5) x6 t := ((Spares.refl x6).wr _ _ _ _ _ (by decide)).trans (s7.mono (by decide))
  have s5 : Spares (fastFlds.take 4) x5 t := ((Spares.refl x5).wr _ _ _ _ _ (by decide)).trans (s6.mono (by decide))
  have s3 : Spares (fastFlds.take 3) x3 t :=
    (((Spares.refl x3).wr _ _ _ _ _ (by decide)).wr _ _ _ _ _ (by decide)).trans (s5.mono (by decide))
  have s2 : Spares (fastFlds.take 2) x2 t := ((Spares.refl x2).wr _ _ _ _ _ (by decide)).trans (s3.mono (by decide))
  have s1 : Spares (fastFlds.take 1) x1 t := ((Spares.refl x1).wr _ _ _ _ _ (by decide)).trans (s2.mono (by decide))
  exact
    { data := s1.rd_wr hs (by decide)
      status := s2.rd_wr h1 (by decide)
      seq := s3.rd_wr h2 (by decide)
      tick := s5.rd_wr h4 (by decide)
      valid := s6.rd_wr h5 (by decide)
      new := s7.rd_wr h6 (by decide) }

theorem exec_sentFrame (levels : List Nat) (hp : s.past l 11 = true) (hen : s.on (laneDie l) R.POS_SENTs_CFG.EN n = true) :
    exec (.sentFrame l n levels) s = .next (s.sentFrame l n levels) :=
  congrArg Host.Outcome.next (if_pos (by rw [hp, hen]; rfl))

/-- A frame on the line is taken where its CRC stands; otherwise it is counted and changes no data (R165 to R167). -/
theorem frame_taken_or_counted (hs : s.regsOk = true) (hp : s.past l 11 = true)
    (hen : s.on (laneDie l) R.POS_SENTs_CFG.EN n = true) (h : FrameOnLine s l n T st crc pause q data) :
    leads (.sentFrame l n
        (sentLevels T (sentIntervals st crc pause data (s.on (laneDie l) R.POS_SENTs_CFG.PAUSE n)))) s fun t =>
      if crc = sentCrc (s.on (laneDie l) R.POS_SENTs_CFG.CRC_LEGACY n) data then FrameShown s l n T st data t
      else rose s t (laneDie l) R.POS_SENTs_ERR.CRC n ∧
        t.rd (laneDie l) R.POS_SENTs_FAST.DATA n = s.rd (laneDie l) R.POS_SENTs_FAST.DATA n ∧
        t.rd (laneDie l) R.POS_SENTs_FAST.SEQ n = s.rd (laneDie l) R.POS_SENTs_FAST.SEQ n := by
  obtain ⟨age, hframe⟩ := State.sentFrame_judged h
  refine leads_of_exec ((exec_sentFrame _ hp hen).trans (congrArg Host.Outcome.next hframe)) ?_
  have hsynced : ∀ fs, Spares fs s (s.sentSynced l n (56 * T)) := fun fs => (Spares.refl s).modPos ..
  have hok := (hsynced []).ok hs
  split
  · have hseq := (hsynced [R.POS_SENTs_FAST.SEQ]).rd hs (laneDie l) _ n 0 (List.mem_singleton.2 rfl)
    obtain ⟨h1, h2, h3, h4, h5, h6⟩ := State.sentStored_shown (l := l) (n := n) (T := T) (st := st) (data := data) age hok
      (State.sentFollowed_spares _ st s.now)
    exact ⟨h1, h2, hseq ▸ h3, h4, h5, h6⟩
  · have hdropped : ∀ fs, Spares fs s ((s.sentSynced l n (56 * T)).sentDrop l n) := fun fs => (hsynced fs).modPos ..
    have hrest : Spares [R.POS_SENTs_FAST.DATA, R.POS_SENTs_FAST.SEQ] s
        ((s.sentSynced l n (56 * T)).sentReject l n R.POS_SENTs_ERR.CRC) := (hdropped _).wr _ _ _ _ _ (by decide)
    exact ⟨rose_of_eq (rose_inc _ _ _ _ ((hdropped []).ok hs))
        ((hdropped [R.POS_SENTs_ERR.CRC]).rd hs _ _ _ _ (List.mem_singleton.2 rfl)),
      hrest.rd hs _ _ _ _ (by decide), hrest.rd hs _ _ _ _ (by decide)⟩

theorem exec_sentStale (hv : s.on (laneDie l) R.POS_SENTs_STATUS.VALID n = true) :
    exec (.sentStale l n) s = .next (((s.advTo (((s.run l).pos.sent[n]).lastAt +
      orOne (s.rd (laneDie l) R.POS_SENTs_LIMIT.STALE_TIME n) * us)).clr (laneDie l) R.POS_SENTs_STATUS.VALID n).wrBit
      (laneDie l) R.POS_STATUS.SENT_VALID n false) := congrArg Host.Outcome.next (if_pos hv)

/-- A channel without a frame for its stale time is not valid any more (R167). -/
theorem stale_channel_invalid (hs : s.regsOk = true) (hv : s.on (laneDie l) R.POS_SENTs_STATUS.VALID n = true) :
    leads (.sentStale l n) s fun t =>
      t.rd (laneDie l) R.POS_SENTs_STATUS.VALID n = 0 ∧ t.rdBit (laneDie l) R.POS_STATUS.SENT_VALID n = false ∧
      t.now = max s.now (((s.run l).pos.sent[n]).lastAt + orOne (s.rd (laneDie l) R.POS_SENTs_LIMIT.STALE_TIME n) * us) := by
  refine leads_of_exec (exec_sentStale hv) ?_
  generalize ((s.run l).pos.sent[n]).lastAt + _ = due
  have hok : (s.advTo due).regsOk = true := (State.regsOk_advTo ..).trans hs
  exact ⟨((Spares.refl (fs := [R.POS_SENTs_STATUS.VALID]) _).wr _ _ _ _ _ (by decide)).rd_wr hok (by decide),
    State.rdBit_wrBit_same _ _ _ _ _ _ (State.wr_regsOk _ _ _ _ _ _ hok) n.isLt, rfl⟩

end

/-- Settles O20: a resolver's output in its stages, the step of `CAR`, and a frame followed from the line's levels to the
registers. Rounding is left open only in the quadrature residual. -/
theorem resolversAndSentReport : Obligations.ResolversAndSentReport := by
  unfold Obligations.ResolversAndSentReport
  refine ⟨fun s l n est hs hp hen => ?_, fun s l n hs => car_step_due (canonical_regs hs),
    fun s l n T st crc pause q data hs hp hen hlast hab hbe hta htb hlen hnib hpa hpb => ?_,
    fun s l n hs => stale_channel_invalid (canonical_regs hs)⟩
  · obtain ⟨hquad, herr, hbad, hdos⟩ := s.resUpdate_shown l n est (canonical_regs hs)
    exact leads_of_exec (exec_resolverUpdate hp hen) ⟨hquad, herr, hbad, fun ⟨hc, hd, hn⟩ => hdos hc hd hn⟩
  · have h : FrameOnLine s l n T st crc pause q data := ⟨hlast, hab, hbe, hta, htb, hlen, hnib, hpa, hpb⟩
    obtain ⟨t, hexec, ht⟩ := frame_taken_or_counted (canonical_regs hs) hp hen h
    refine ⟨t, hexec, ?_⟩
    dsimp only
    split at ht
    · next hcrc =>
      obtain ⟨h1, h2, h3, h4, h5, h6⟩ := ht
      rw [if_pos hcrc]
      exact ⟨h1, h2.trans (low_of_lt (hnib st (by simp))), h3, h4, h5, h6⟩
    · next hcrc =>
      rw [if_neg hcrc]
      exact ht

end Sys2Proof.Machine
end

section
/-!
PROOFS. Pulse trains (R157 to R164): what the operations on a channel write and what they leave of it, then one command after the
other.
-/
namespace Sys2Proof.Machine

section
variable {fs : List Fld} {s t : State} {l : Lane} {p : Fin 6}

/-! ## What the operations on a channel write -/

/-- The fields that show a channel's validity. -/
def ptFlagFlds : List Fld := [R.POS_PTp_STATUS.VALID, R.POS_PTp_STATUS.ANGLE_OK, R.POS_STATUS.PT_VALID]

theorem Spares.ptFlags (h : Spares fs s t) (valid ok : Bool) (hf : apartAll ptFlagFlds fs = true) :
    Spares fs s (t.ptFlags l p valid ok) :=
  (((h.wrIn hf _ _ _ _ (by simp [ptFlagFlds])).wrIn hf _ _ _ _ (by simp [ptFlagFlds])).wrIn hf _ _ _ _
    (by simp [ptFlagFlds])).whenIrq ..

theorem State.pt_ptFlags (s : State) (valid ok : Bool) : (s.ptFlags l p valid ok).pt l p = s.pt l p := by
  unfold State.ptFlags State.wrBit State.put
  dsimp only
  rw [State.pt_when _ _ _ _ fun x => x.pt_irq .., State.pt_wr, State.pt_wr, State.pt_wr]

theorem State.pt_ptOk (s : State) (ok : Bool) : (s.ptOk l p ok).pt l p = s.pt l p := s.pt_ptFlags ..

theorem State.ptOk_now (s : State) (ok : Bool) : (s.ptOk l p ok).now = s.now :=
  ((State.ptOk_within s l p ok (msk := 32) (by decide) (Within.refl _)).now (by decide)).1

/-- `ANGLE_OK` shows as it was set. -/
theorem State.ptOk_reads (s : State) (ok : Bool) (hs : s.regsOk = true) :
    (s.ptOk l p ok).rd (laneDie l) R.POS_PTp_STATUS.ANGLE_OK p = b2n ok := by
  have hend : Spares [R.POS_PTp_STATUS.ANGLE_OK] ((s.put (laneDie l) R.POS_PTp_STATUS.VALID
      (s.on (laneDie l) R.POS_PTp_STATUS.VALID p) p).put (laneDie l) R.POS_PTp_STATUS.ANGLE_OK ok p) (s.ptOk l p ok) :=
    ((Spares.refl _).wr _ _ _ _ _ (by decide)).whenIrq ..
  exact hend.rd_put (State.wr_regsOk _ _ _ _ _ _ hs) (by decide) (by decide)

/-- The fields that an error event writes beside the error level (R164). -/
def ptFaultFlds : List Fld := R.POS_PTp_STATUS.ERR_FAULT :: R.POS_PTp_STATUS.SYNC :: ptFlagFlds

theorem Spares.ptError (h : Spares fs s t) (hf : apartAll (R.POS_PTp_STATUS.ERR_LEVEL :: ptFaultFlds) fs = true) :
    Spares fs s (t.ptError l p) :=
  have h1 := h.wrIn hf (laneDie l) (g := R.POS_PTp_STATUS.ERR_LEVEL)
    (min 255 (t.rd (laneDie l) R.POS_PTp_STATUS.ERR_LEVEL p + 8)) p 0 (by simp)
  .ite (((h1.wrIn hf _ _ _ _ (by simp [ptFaultFlds])).wrIn hf _ _ _ _ (by simp [ptFaultFlds])).ptFlags _ _
    (apartAll_mono hf (by decide))) h1

/-- An error event adds 8 to the error level (R164). -/
theorem State.ptError_level (s : State) (hs : s.regsOk = true) : (s.ptError l p).rd (laneDie l) R.POS_PTp_STATUS.ERR_LEVEL p =
    min 255 (s.rd (laneDie l) R.POS_PTp_STATUS.ERR_LEVEL p + 8) := by
  have hend : Spares [R.POS_PTp_STATUS.ERR_LEVEL] (s.wr (laneDie l) R.POS_PTp_STATUS.ERR_LEVEL
      (min 255 (s.rd (laneDie l) R.POS_PTp_STATUS.ERR_LEVEL p + 8)) p) (s.ptError l p) :=
    .ite ((((Spares.refl _).wr _ _ _ _ _ (by decide)).wr _ _ _ _ _ (by decide)).ptFlags _ _ (by decide)) (Spares.refl _)
  exact (hend.rd_wr hs (by decide)).trans (low_of_lt (Nat.lt_of_le_of_lt (Nat.min_le_left ..) (by decide)))

theorem State.pt_ptError (s : State) : (s.ptError l p).pt l p = s.pt l p := by
  unfold State.ptError
  dsimp only
  rw [apply_ite (fun x : State => x.pt l p), State.pt_ptFlags, State.pt_wr, State.set_eq, State.pt_wr, State.pt_wr, ite_self]

theorem Spares.ptLegal (h : Spares fs s t)
    (hf : apartAll (R.POS_PTp_STATUS.ERR_LEVEL :: R.POS_PTp_STATUS.ERR_FAULT :: ptFlagFlds) fs = true) :
    Spares fs s (t.ptLegal l p) :=
  have h1 := h.wrIn hf (laneDie l) (g := R.POS_PTp_STATUS.ERR_LEVEL)
    (t.rd (laneDie l) R.POS_PTp_STATUS.ERR_LEVEL p - 1) p 0 (by simp)
  .ite ((h1.wrIn hf _ _ _ _ (by simp)).ptFlags _ _ (apartAll_mono hf (by simp))) h1

/-- A legal edge takes 1 from the error level (R164). -/
theorem State.ptLegal_level (s : State) (hs : s.regsOk = true) : (s.ptLegal l p).rd (laneDie l) R.POS_PTp_STATUS.ERR_LEVEL p =
    low 8 (s.rd (laneDie l) R.POS_PTp_STATUS.ERR_LEVEL p - 1) := by
  have hend : Spares [R.POS_PTp_STATUS.ERR_LEVEL] (s.wr (laneDie l) R.POS_PTp_STATUS.ERR_LEVEL
      (s.rd (laneDie l) R.POS_PTp_STATUS.ERR_LEVEL p - 1) p) (s.ptLegal l p) :=
    .ite (((Spares.refl _).wr _ _ _ _ _ (by decide)).ptFlags _ _ (by decide)) (Spares.refl _)
  exact hend.rd_wr hs (by decide)

theorem State.pt_ptLegal (s : State) : (s.ptLegal l p).pt l p = s.pt l p := by
  unfold State.ptLegal
  dsimp only
  rw [apply_ite (fun x : State => x.pt l p), State.pt_ptFlags, State.clr_eq, State.pt_wr, State.pt_wr, ite_self]

theorem Spares.ptIllegal (h : Spares fs s t) (hf : apartAll (R.POS_PTp_STATUS.ILLEGAL :: R.POS_PTp_ERR.ILLEGAL ::
    R.POS_PTp_STATUS.ERR_LEVEL :: ptFaultFlds) fs = true) : Spares fs s (t.ptIllegal l p) :=
  ((h.wrIn hf _ _ _ _ (by simp)).wrIn hf _ _ _ _ (by simp)).ptError (apartAll_mono hf (by simp))

/-- An illegal transition is marked, counted and adds 8 to the error level (R159, R164). -/
structure IllegalNoted (s : State) (l : Lane) (p : Fin 6) (t : State) : Prop where
  flag : t.rd (laneDie l) R.POS_PTp_STATUS.ILLEGAL p = 1
  count : rose s t (laneDie l) R.POS_PTp_ERR.ILLEGAL p
  level : t.rd (laneDie l) R.POS_PTp_STATUS.ERR_LEVEL p = min 255 (s.rd (laneDie l) R.POS_PTp_STATUS.ERR_LEVEL p + 8)

theorem State.ptIllegal_noted (s : State) (hs : s.regsOk = true) : IllegalNoted s l p (s.ptIllegal l p) := by
  let x1 := s.set (laneDie l) R.POS_PTp_STATUS.ILLEGAL p
  let x2 := x1.inc (laneDie l) R.POS_PTp_ERR.ILLEGAL p
  have h1 : x1.regsOk = true := State.wr_regsOk _ _ _ _ _ _ hs
  have h2 : x2.regsOk = true := State.wr_regsOk _ _ _ _ _ _ h1
  have hend : Spares [R.POS_PTp_STATUS.ILLEGAL, R.POS_PTp_ERR.ILLEGAL] x2 (s.ptIllegal l p) :=
    (Spares.refl x2).ptError (by decide)
  have hflag : Spares [R.POS_PTp_STATUS.ILLEGAL] x1 (s.ptIllegal l p) :=
    ((Spares.refl x1).wr _ _ _ _ _ (by decide)).trans (hend.mono (by simp))
  have hbefore : Spares [R.POS_PTp_ERR.ILLEGAL, R.POS_PTp_STATUS.ERR_LEVEL] s x1 := (Spares.refl s).wr _ _ _ _ _ (by decide)
  have hlevel : Spares [R.POS_PTp_STATUS.ERR_LEVEL] s x2 := (hbefore.mono (by simp)).wr _ _ _ _ _ (by decide)
  exact
    { flag := hflag.rd_wr hs (by decide)
      count := rose_of_eq (hend.rose_inc h1 (by decide)) (hbefore.rd hs _ _ _ _ (by decide))
      level := (x2.ptError_level h2).trans (by rw [hlevel.rd hs _ _ _ _ (by decide)]) }

theorem State.pt_ptIllegal (s : State) : (s.ptIllegal l p).pt l p = s.pt l p := by
  unfold State.ptIllegal
  rw [State.pt_ptError, State.inc_eq, State.set_eq, State.pt_wr, State.pt_wr]

theorem Spares.ptAngle (h : Spares fs s t) (hf : apartAll [R.POS_PTp_ANGLE.ANGLE] fs = true) : Spares fs s (t.ptAngle l p) :=
  ((h.roundQ ..).modPt ..).wrIn hf _ _ _ _ (by simp)

theorem State.pt_roundQ (s : State) (num den : Int) : (s.roundQ num den).2.pt l p = s.pt l p :=
  congrArg (fun r : LaneRun => r.pos.pt[p]) (State.roundQ_run ..)

theorem State.pt_quot (s : State) (num den : Int) : (s.quot num den).2.pt l p = s.pt l p :=
  congrArg (fun r : LaneRun => r.pos.pt[p]) (State.quot_run ..)

/-- The angle of a counting edge leaves the count and the reference. -/
theorem State.pt_ptAngle (s : State) :
    ((s.ptAngle l p).pt l p).count = (s.pt l p).count ∧ ((s.ptAngle l p).pt l p).ref = (s.pt l p).ref := by
  unfold State.ptAngle
  dsimp only
  rw [State.pt_wr, State.pt_modPt, State.pt_roundQ]
  exact ⟨rfl, rfl⟩

theorem Spares.ptSpeed (h : Spares fs s t) (k : Int) (period : Nat) (hf : apartAll [R.POS_PTp_SPEED.SPEED] fs = true) :
    Spares fs s (t.ptSpeed l p k period) := (h.quot ..).wrIn hf _ _ _ _ (by simp)

theorem State.pt_ptSpeed (s : State) (k : Int) (period : Nat) : (s.ptSpeed l p k period).pt l p = s.pt l p := by
  unfold State.ptSpeed State.wrS
  dsimp only
  rw [State.pt_wr, State.pt_quot]

/-! ## A count (R157, R161, R162) -/

/-- The fields that the synchronisation of a tooth wheel writes (R162 to R164). -/
def toothFlds : List Fld :=
  R.POS_PTp_STATUS.SYNC_ERR :: R.POS_PTp_ERR.SYNC_ERR :: R.POS_PTp_STATUS.ERR_LEVEL :: ptFaultFlds

theorem Spares.twLost (h : Spares fs s t) (sync : Nat) (hf : apartAll toothFlds fs = true) : Spares fs s (t.twLost l p sync) :=
  ((((h.wrIn hf _ _ _ _ (by simp [toothFlds, ptFaultFlds])).wrIn hf _ _ _ _ (by simp [toothFlds])).wrIn hf _ _ _ _
    (by simp [toothFlds])).ptFlags _ _ (apartAll_mono hf (by decide))).ptError
    (apartAll_mono hf (by simp [toothFlds]))

theorem Spares.twEdge (h : Spares fs s t) (found : Bool) (hf : apartAll toothFlds fs = true) :
    Spares fs s (t.twEdge l p found).2 := by
  have hsync : R.POS_PTp_STATUS.SYNC ∈ toothFlds := by simp [toothFlds, ptFaultFlds]
  have hflags : apartAll ptFlagFlds fs = true := apartAll_mono hf (by decide)
  unfold State.twEdge
  dsimp only
  split
  · split
    · exact (h.modPt ..).wrIn hf _ _ _ _ hsync
    · split
      · exact ((h.modPt ..).wrIn hf _ _ _ _ hsync).when _ fun x => (Spares.refl x).ptFlags _ _ hflags
      · split
        · exact (h.modPt ..).twLost _ hf
        · exact h.modPt ..
  · split
    · split
      · exact h.twLost _ hf
      · exact h.wrIn hf _ _ _ _ hsync
    · exact h

/-- A count taken by `f`, with its direction and stamp. -/
def State.ptStepped (s : State) (l : Lane) (p : Fin 6) (stable : Nat) (up : Bool) (f : PtSt → PtSt) : State :=
  (((s.modPt l p f).put (laneDie l) R.POS_PTp_STATUS.DIR up p).clr (laneDie l) R.POS_PTp_STATUS.ZERO_SPEED p).wr (laneDie l)
    R.POS_PTp_STAMP.STAMP (low 32 ((s.modPt l p f).laneTime l - stable / 4)) p

/-- What a count shows: the count, a tooth wheel's index, the speed and period where a period has ended, and the angle. -/
def State.ptReported (s : State) (l : Lane) (p : Fin 6) (mode : Nat) (step : Int) (per : Option Nat) (same : Bool) : State :=
  let d := laneDie l
  let s4 := s.wr d R.POS_PTp_COUNT.COUNT (ux 32 (s.pt l p).count) p
  let s5 := if mode = 2 then s4.wr d R.POS_PTp_INDEX.VALUE (s4.pt l p).idx p else s4
  let s6 := match per with
    | some t => (s5.ptSpeed l p (if mode = 0 then 4 * step else step) t).wrSat d R.POS_PTp_PERIOD.PERIOD t p
    | none => if mode = 0 && !same then s5.wr d R.POS_PTp_SPEED.SPEED 0 p else s5
  s6.ptAngle l p

/-- A counting edge in its stages: the count, a tooth wheel's synchronisation, the report. -/
theorem State.ptCount_stages (s : State) (l : Lane) (p : Fin 6) (mode dt stable : Nat) (up : Bool) :
    ∃ f found step per same, (∀ x, (f x).count = x.count + (if up then 1 else -1)) ∧
      s.ptCount l p mode dt stable up =
        (let u := s.ptStepped l p stable up f
         let r := if mode = 2 then u.twEdge l p found else (false, u)
         (r.1, r.2.ptReported l p mode step per same)) :=
  ⟨_, _, _, _, _, fun _ => rfl, rfl⟩

/-- The fields that the report of a count writes beside the count. -/
def reportFlds : List Fld := [R.POS_PTp_INDEX.VALUE, R.POS_PTp_SPEED.SPEED, R.POS_PTp_PERIOD.PERIOD, R.POS_PTp_ANGLE.ANGLE]

/-- The report of a count after the count itself. -/
theorem State.ptReported_of_count (s : State) (mode : Nat) (step : Int) (per : Option Nat) (same : Bool)
    (hf : apartAll reportFlds fs = true) :
    Spares fs (s.wr (laneDie l) R.POS_PTp_COUNT.COUNT (ux 32 (s.pt l p).count) p) (s.ptReported l p mode step per same) ∧
      ((s.ptReported l p mode step per same).pt l p).count = (s.pt l p).count := by
  unfold State.ptReported
  dsimp only
  rw [(State.pt_ptAngle _).1]
  have hpt : (s.wr (laneDie l) R.POS_PTp_COUNT.COUNT (ux 32 (s.pt l p).count) p).pt l p = s.pt l p := State.pt_wr ..
  generalize s.wr (laneDie l) R.POS_PTp_COUNT.COUNT (ux 32 (s.pt l p).count) p = u at hpt ⊢
  have h5 : Spares fs u (if mode = 2 then u.wr (laneDie l) R.POS_PTp_INDEX.VALUE (u.pt l p).idx p else u) :=
    .ite ((Spares.refl u).wrIn hf _ _ _ _ (by simp [reportFlds])) (Spares.refl u)
  have hpt5 : (if mode = 2 then u.wr (laneDie l) R.POS_PTp_INDEX.VALUE (u.pt l p).idx p else u).pt l p = s.pt l p := by
    rw [apply_ite (fun x : State => x.pt l p), State.pt_wr, ite_self, hpt]
  generalize (if mode = 2 then u.wr (laneDie l) R.POS_PTp_INDEX.VALUE (u.pt l p).idx p else u) = v at h5 hpt5 ⊢
  have hangle : apartAll [R.POS_PTp_ANGLE.ANGLE] fs = true := apartAll_mono hf (by simp [reportFlds])
  cases per with
  | some period =>
    have hspeed : apartAll [R.POS_PTp_SPEED.SPEED] fs = true := apartAll_mono hf (by simp [reportFlds])
    refine ⟨((h5.ptSpeed _ _ hspeed).wrIn hf _ _ _ _ (by simp [reportFlds])).ptAngle hangle, ?_⟩
    dsimp only
    rw [State.wrSat, State.pt_wr, State.pt_ptSpeed, hpt5]
  | none =>
    refine ⟨(Spares.ite (h5.wrIn hf _ _ _ _ (by simp [reportFlds])) h5).ptAngle hangle, ?_⟩
    dsimp only
    rw [apply_ite (fun x : State => x.pt l p), State.pt_wr, ite_self, hpt5]

theorem State.laneTime_modPt (s : State) (l : Lane) (p : Fin 6) (f : PtSt → PtSt) : (s.modPt l p f).laneTime l =
    s.laneTime l := by
  simp only [State.laneTime, State.modPt, State.modPos, State.modRun_run, State.modRun_now]

theorem Spares.ptStepped (h : Spares fs s t) (stable : Nat) (up : Bool) (f : PtSt → PtSt)
    (hf : apartAll [R.POS_PTp_STATUS.DIR, R.POS_PTp_STATUS.ZERO_SPEED, R.POS_PTp_STAMP.STAMP] fs = true) :
    Spares fs s (t.ptStepped l p stable up f) :=
  (((h.modPt ..).wrIn hf _ _ _ _ (by simp)).wrIn hf _ _ _ _ (by simp)).wrIn hf _ _ _ _ (by simp)

/-- What a counting edge shows in every mode. -/
structure EdgeShown (s : State) (l : Lane) (p : Fin 6) (stable : Nat) (up : Bool) (t : State) : Prop where
  dir : t.rd (laneDie l) R.POS_PTp_STATUS.DIR p = b2n up
  moving : t.rd (laneDie l) R.POS_PTp_STATUS.ZERO_SPEED p = 0
  stamp : t.rd (laneDie l) R.POS_PTp_STAMP.STAMP p = low 32 (s.laneTime l - stable / 4)

/-- The fields of `EdgeShown`. -/
def edgeFlds : List Fld := [R.POS_PTp_STATUS.DIR, R.POS_PTp_STATUS.ZERO_SPEED, R.POS_PTp_STAMP.STAMP]

theorem State.ptStepped_shown (s : State) (stable : Nat) (up : Bool) (f : PtSt → PtSt) (hs : s.regsOk = true)
    (ht : Spares edgeFlds (s.ptStepped l p stable up f) t) : EdgeShown s l p stable up t := by
  unfold State.ptStepped at ht
  let x1 := s.modPt l p f
  let x2 := x1.put (laneDie l) R.POS_PTp_STATUS.DIR up p
  let x3 := x2.clr (laneDie l) R.POS_PTp_STATUS.ZERO_SPEED p
  have h1 : x1.regsOk = true := (State.regsOk_modRun ..).trans hs
  have h2 : x2.regsOk = true := State.wr_regsOk _ _ _ _ _ _ h1
  have h3 : x3.regsOk = true := State.wr_regsOk _ _ _ _ _ _ h2
  have hdir : Spares [R.POS_PTp_STATUS.DIR] x2 t :=
    (((Spares.refl x2).wr _ _ _ _ _ (by decide)).wr _ _ _ _ _ (by decide)).trans (ht.mono (by decide))
  have hzero : Spares [R.POS_PTp_STATUS.ZERO_SPEED] x3 t := ((Spares.refl x3).wr _ _ _ _ _ (by decide)).trans (ht.mono (by decide))
  exact
    { dir := hdir.rd_put h1 (by decide) (by decide)
      moving := hzero.rd_wr h2 (by decide)
      stamp := (ht.rd_wr h3 (by decide)).trans (by rw [State.laneTime_modPt]; exact low_low ..) }

theorem State.pt_ptStepped (s : State) (stable : Nat) (up : Bool) (f : PtSt → PtSt) :
    (s.ptStepped l p stable up f).pt l p = f (s.pt l p) := by
  unfold State.ptStepped
  rw [State.pt_wr, State.clr_eq, State.pt_wr, State.put_eq, State.pt_wr, State.pt_modPt]

/-- A counting edge shows its direction and stamp, and no illegal transition. -/
theorem State.ptCount_shown (s : State) (mode dt stable : Nat) (up : Bool) (hs : s.regsOk = true) :
    EdgeShown s l p stable up (s.ptCount l p mode dt stable up).2 ∧
      Spares [R.POS_PTp_STATUS.LEVEL_A, R.POS_PTp_STATUS.LEVEL_B, R.POS_PTp_STATUS.ILLEGAL, R.POS_PTp_ERR.ILLEGAL] s
        (s.ptCount l p mode dt stable up).2 := by
  obtain ⟨f, found, step, per, same, -, heq⟩ := s.ptCount_stages l p mode dt stable up
  rw [heq]
  dsimp only
  have htooth : ∀ {fs}, apartAll toothFlds fs = true → Spares fs (s.ptStepped l p stable up f)
      (if mode = 2 then (s.ptStepped l p stable up f).twEdge l p found else (false, s.ptStepped l p stable up f)).2 := by
    intro fs hf
    split
    · exact (Spares.refl _).twEdge _ hf
    · exact Spares.refl _
  generalize (if mode = 2 then (s.ptStepped l p stable up f).twEdge l p found else (false, s.ptStepped l p stable up f)).2 = u
    at htooth ⊢
  have hreport : ∀ {fs}, apartAll (R.POS_PTp_COUNT.COUNT :: reportFlds) fs = true →
      Spares fs u (u.ptReported l p mode step per same) := fun hf =>
    ((Spares.refl u).wrIn hf _ _ _ _ (by simp)).trans (u.ptReported_of_count mode step per same (apartAll_mono hf (by simp))).1
  exact ⟨State.ptStepped_shown s stable up f hs ((htooth (by decide)).trans (hreport (by decide))),
    (((Spares.refl s).ptStepped stable up f (by decide)).trans (htooth (by decide))).trans (hreport (by decide))⟩

/-- Outside the tooth-wheel mode a counting edge moves the count by one and is no error. -/
structure CountMoved (s : State) (l : Lane) (p : Fin 6) (up : Bool) (t : State) : Prop where
  count : (t.pt l p).count = (s.pt l p).count + (if up then 1 else -1)
  shown : t.rd (laneDie l) R.POS_PTp_COUNT.COUNT p = ux 32 ((s.pt l p).count + (if up then 1 else -1))
  level : t.rd (laneDie l) R.POS_PTp_STATUS.ERR_LEVEL p = s.rd (laneDie l) R.POS_PTp_STATUS.ERR_LEVEL p

theorem State.ptCount_moved (s : State) {mode : Nat} (dt stable : Nat) (up : Bool) (hs : s.regsOk = true) (hm : mode ≠ 2) :
    (s.ptCount l p mode dt stable up).1 = false ∧ CountMoved s l p up (s.ptCount l p mode dt stable up).2 := by
  obtain ⟨f, found, step, per, same, hcount, heq⟩ := s.ptCount_stages l p mode dt stable up
  rw [heq]
  dsimp only
  rw [if_neg hm]
  refine ⟨rfl, ?_⟩
  have hstep : Spares [R.POS_PTp_STATUS.ERR_LEVEL] s (s.ptStepped l p stable up f) := (Spares.refl s).ptStepped _ _ _ (by decide)
  have hpt : ((s.ptStepped l p stable up f).pt l p).count = (s.pt l p).count + (if up then 1 else -1) := by
    rw [State.pt_ptStepped, hcount]
  dsimp only
  generalize s.ptStepped l p stable up f = u at *
  obtain ⟨hreport, hkept⟩ := u.ptReported_of_count (l := l) (p := p) (fs := [R.POS_PTp_COUNT.COUNT, R.POS_PTp_STATUS.ERR_LEVEL])
    mode step per same (by decide)
  have hu := hstep.ok hs
  have hlevel : Spares [R.POS_PTp_STATUS.ERR_LEVEL] u (u.ptReported l p mode step per same) :=
    ((Spares.refl u).wr _ _ _ _ _ (by decide)).trans (hreport.mono (by simp))
  exact
    { count := hkept.trans hpt
      shown := (hreport.rd_wr hu (by decide)).trans (by rw [hpt]; exact low_of_lt (ux_lt ..))
      level := (hlevel.rd hu _ _ _ _ (by decide)).trans (hstep.rd hs _ _ _ _ (by decide)) }

end

end Sys2Proof.Machine
end

section
/-!
PROOFS. The commands of the pulse trains (R157 to R164), one after the other, and together.
-/
namespace Sys2Proof.Machine

section
variable {s : State} {l : Lane} {p : Fin 6}

/-! ## Counting edges (R157 to R159, R161 to R164) -/

/-- The accepted levels after a change of A and B. -/
def State.ptNewLevels (s : State) (l : Lane) (p : Fin 6) (levels : BitVec 2) : Nat := (s.pt l p).lv / 4 % 2 * 4 + levels.toNat

/-- The time since B's last change at new levels `lv`, this change included. -/
def State.ptBAge (s : State) (l : Lane) (p : Fin 6) (dt lv : Nat) : Option Nat :=
  if s.ptLevel l p (s.pt l p).lv 1 != s.ptLevel l p lv 1 then some 0 else (s.pt l p).bAge.map (· + dt)

/-- What the change to the levels `lv` is in the table of the mode. -/
def State.ptEdgeAt (s : State) (l : Lane) (p : Fin 6) (mode dt lv : Nat) : PtEdge :=
  ptEdge mode (s.on (laneDie l) R.POS_PTp_CFG.TW_EDGE p) (s.ptLevel l p (s.pt l p).lv 0) (s.ptLevel l p (s.pt l p).lv 1)
    (s.ptLevel l p lv 0) (s.ptLevel l p lv 1) (s.ptBAge l p dt lv) (s.rd (laneDie l) R.POS_PTp_FILT.DIR_SETUP p)

/-- The new levels stored and shown. -/
def State.ptLevelled (s : State) (l : Lane) (p : Fin 6) (dt lv : Nat) : State :=
  ((s.modPt l p fun x => { x with lv := lv, since := x.since + dt, bAge := s.ptBAge l p dt lv }).put (laneDie l)
    R.POS_PTp_STATUS.LEVEL_A (bit lv 0) p).put (laneDie l) R.POS_PTp_STATUS.LEVEL_B (bit lv 1) p

/-- What an edge leads to once the levels are shown. -/
def State.ptEdgeDone (s : State) (l : Lane) (p : Fin 6) (mode dt stable : Nat) : PtEdge → State
  | .none => s
  | .refused => s.ptIllegal l p
  | .counts up illegal =>
    let r := s.ptCount l p mode dt stable up
    if illegal then r.2.ptIllegal l p else if r.1 then r.2 else r.2.ptLegal l p

theorem exec_ptCountingEdge {mode stable : Nat} (dt : Nat) (levels : BitVec 2) (hp : s.past l 11 = true)
    (hm : s.ptMode l p = some mode) (ha : s.ptAccepts l p stable = true) :
    let lv := s.ptNewLevels l p levels
    exec (.ptCountingEdge l p dt stable levels) s = .next ((s.ptLevelled l p dt lv).ptEdgeDone l p mode
      ((s.pt l p).since + dt) stable (s.ptEdgeAt l p mode dt lv)) := by
  refine congrArg Host.Outcome.next ((if_pos (by rw [hp, ha]; rfl)).trans ?_)
  rw [hm]
  rfl

/-- The fields on which a counting edge works beside the levels of A and B. -/
theorem State.ptLevelled_spares (s : State) (dt lv : Nat) {fs : List Fld}
    (hf : apartAll [R.POS_PTp_STATUS.LEVEL_A, R.POS_PTp_STATUS.LEVEL_B] fs = true) : Spares fs s (s.ptLevelled l p dt lv) :=
  (((Spares.refl s).modPt ..).wrIn hf _ _ _ _ (by simp)).wrIn hf _ _ _ _ (by simp)

theorem State.ptLevelled_count (s : State) (dt lv : Nat) : ((s.ptLevelled l p dt lv).pt l p).count = (s.pt l p).count := by
  unfold State.ptLevelled
  rw [State.put_eq, State.pt_wr, State.put_eq, State.pt_wr, State.pt_modPt]

theorem State.ptLevelled_laneTime (s : State) (dt lv : Nat) : (s.ptLevelled l p dt lv).laneTime l = s.laneTime l := by
  unfold State.ptLevelled State.put
  simp only [State.laneTime, State.wr_run, State.wr_now, State.modPt, State.modPos, State.modRun_run, State.modRun_now]

/-- The levels of A and B show. -/
structure LevelsShown (l : Lane) (p : Fin 6) (lv : Nat) (t : State) : Prop where
  levelA : t.rd (laneDie l) R.POS_PTp_STATUS.LEVEL_A p = b2n (bit lv 0)
  levelB : t.rd (laneDie l) R.POS_PTp_STATUS.LEVEL_B p = b2n (bit lv 1)

theorem State.ptLevelled_shown (s : State) {t : State} (dt lv : Nat) (hs : s.regsOk = true)
    (ht : Spares [R.POS_PTp_STATUS.LEVEL_A, R.POS_PTp_STATUS.LEVEL_B] (s.ptLevelled l p dt lv) t) : LevelsShown l p lv t := by
  unfold State.ptLevelled at ht
  let x1 := s.modPt l p fun x => { x with lv := lv, since := x.since + dt, bAge := s.ptBAge l p dt lv }
  let x2 := x1.put (laneDie l) R.POS_PTp_STATUS.LEVEL_A (bit lv 0) p
  have h1 : x1.regsOk = true := (State.regsOk_modRun ..).trans hs
  have hA : Spares [R.POS_PTp_STATUS.LEVEL_A] x2 t := ((Spares.refl x2).wr _ _ _ _ _ (by decide)).trans (ht.mono (by simp))
  exact ⟨hA.rd_put h1 (by decide) (by decide), ht.rd_put (State.wr_regsOk _ _ _ _ _ _ h1) (by decide) (by decide)⟩

/-- What a counting edge in direction `up` shows. -/
structure CountingEdgeShown (s : State) (l : Lane) (p : Fin 6) (mode stable : Nat) (up illegal : Bool) (t : State) : Prop where
  edge : EdgeShown s l p stable up t
  moved : mode ≠ 2 → (t.pt l p).count = (s.pt l p).count + (if up then 1 else -1) ∧
    t.rd (laneDie l) R.POS_PTp_COUNT.COUNT p = ux 32 ((s.pt l p).count + (if up then 1 else -1)) ∧
    t.rd (laneDie l) R.POS_PTp_STATUS.ERR_LEVEL p = if illegal
      then min 255 (s.rd (laneDie l) R.POS_PTp_STATUS.ERR_LEVEL p + 8)
      else low 8 (s.rd (laneDie l) R.POS_PTp_STATUS.ERR_LEVEL p - 1)
  illegal : illegal = true → t.rd (laneDie l) R.POS_PTp_STATUS.ILLEGAL p = 1 ∧ rose s t (laneDie l) R.POS_PTp_ERR.ILLEGAL p

theorem EdgeShown.spares {t u : State} {stable : Nat} {up : Bool} (h : EdgeShown s l p stable up t) (ht : t.regsOk = true)
    (hu : Spares edgeFlds t u) : EdgeShown s l p stable up u :=
  ⟨(hu.rd ht _ _ _ _ (by decide)).trans h.dir, (hu.rd ht _ _ _ _ (by decide)).trans h.moving,
    (hu.rd ht _ _ _ _ (by decide)).trans h.stamp⟩

/-- What the end of a counting edge leaves as it was: an illegal one adds to the error level, a legal one takes from it. -/
theorem State.ptEdgeDone_counts (s : State) (mode dt stable : Nat) (up illegal : Bool) (hs : s.regsOk = true) :
    let t := s.ptEdgeDone l p mode dt stable (.counts up illegal)
    CountingEdgeShown s l p mode stable up illegal t ∧
      Spares [R.POS_PTp_STATUS.LEVEL_A, R.POS_PTp_STATUS.LEVEL_B] s t := by
  dsimp only
  generalize ht : s.ptEdgeDone l p mode dt stable (.counts up illegal) = t
  obtain ⟨hedge, hkept⟩ := s.ptCount_shown (l := l) (p := p) mode dt stable up hs
  have hmoved : mode ≠ 2 → _ := s.ptCount_moved (l := l) (p := p) dt stable up hs
  unfold State.ptEdgeDone at ht
  dsimp only at ht
  generalize s.ptCount l p mode dt stable up = r at *
  have hr := hkept.ok hs
  have hbefore : r.2.rd (laneDie l) R.POS_PTp_ERR.ILLEGAL p = s.rd (laneDie l) R.POS_PTp_ERR.ILLEGAL p :=
    hkept.rd hs _ _ _ _ (by decide)
  cases illegal with
  | true =>
    simp only [if_true] at ht
    have hend : Spares (R.POS_PTp_COUNT.COUNT :: R.POS_PTp_STATUS.LEVEL_A :: R.POS_PTp_STATUS.LEVEL_B :: edgeFlds) r.2 t :=
      ht ▸ (Spares.refl r.2).ptIllegal (by decide)
    obtain ⟨hflag, hrose, hlevel⟩ : IllegalNoted r.2 l p t := ht ▸ r.2.ptIllegal_noted hr
    refine ⟨⟨hedge.spares hr (hend.mono (by decide)), fun hm => ?_, fun _ => ⟨hflag, rose_of_eq hrose hbefore⟩⟩,
      (hkept.mono (by simp)).trans (hend.mono (by simp))⟩
    obtain ⟨-, hcount, hshown, herr⟩ := hmoved hm
    exact ⟨by rw [← ht, State.pt_ptIllegal, hcount], (hend.rd hr _ _ _ _ (by simp)).trans hshown, by rw [hlevel, herr]; rfl⟩
  | false =>
    simp only [Bool.false_eq_true, if_false] at ht
    have hlegal : ∀ {fs}, apartAll (R.POS_PTp_STATUS.ERR_LEVEL :: R.POS_PTp_STATUS.ERR_FAULT :: ptFlagFlds) fs = true →
        Spares fs r.2 t := fun hf => ht ▸ .ite (Spares.refl r.2) ((Spares.refl r.2).ptLegal hf)
    refine ⟨⟨hedge.spares hr (hlegal (by decide)), fun hm => ?_, fun h => absurd h (by decide)⟩,
      (hkept.mono (by simp)).trans (hlegal (by decide))⟩
    obtain ⟨hfirst, hcount, hshown, herr⟩ := hmoved hm
    rw [hfirst] at ht
    simp only [Bool.false_eq_true, if_false] at ht ⊢
    exact ⟨by rw [← ht, State.pt_ptLegal, hcount],
      ((hlegal (fs := [R.POS_PTp_COUNT.COUNT]) (by decide)).rd hr _ _ _ _ (by simp)).trans hshown,
      by rw [← ht, State.ptLegal_level _ hr, herr]⟩

/-- New levels show, and the edge that they are counts, is refused or does neither (R157 to R159). -/
theorem counting_edge_shown {mode stable : Nat} (dt : Nat) (levels : BitVec 2) (hs : s.regsOk = true) (hp : s.past l 11 = true)
    (hm : s.ptMode l p = some mode) (ha : s.ptAccepts l p stable = true) :
    leads (.ptCountingEdge l p dt stable levels) s fun t =>
      let lv := s.ptNewLevels l p levels
      let e := s.ptEdgeAt l p mode dt lv
      LevelsShown l p lv t ∧
      (e = .none → (t.pt l p).count = (s.pt l p).count ∧
        t.rd (laneDie l) R.POS_PTp_COUNT.COUNT p = s.rd (laneDie l) R.POS_PTp_COUNT.COUNT p) ∧
      (e = .refused → (t.pt l p).count = (s.pt l p).count ∧ IllegalNoted s l p t) ∧
      (∀ up illegal, e = .counts up illegal → CountingEdgeShown s l p mode stable up illegal t) := by
  refine leads_of_exec (exec_ptCountingEdge dt levels hp hm ha) ?_
  dsimp only
  generalize s.ptNewLevels l p levels = lv
  have hkept : Spares [R.POS_PTp_COUNT.COUNT, R.POS_PTp_STATUS.ERR_LEVEL, R.POS_PTp_ERR.ILLEGAL] s (s.ptLevelled l p dt lv) :=
    s.ptLevelled_spares dt lv (by decide)
  have hcount := s.ptLevelled_count (l := l) (p := p) dt lv
  have htime := s.ptLevelled_laneTime (l := l) (p := p) dt lv
  have hlevels : ∀ {t}, Spares [R.POS_PTp_STATUS.LEVEL_A, R.POS_PTp_STATUS.LEVEL_B] (s.ptLevelled l p dt lv) t →
      LevelsShown l p lv t := State.ptLevelled_shown s dt lv hs
  generalize s.ptLevelled l p dt lv = u at *
  have hok := hkept.ok hs
  have hlevel : u.rd (laneDie l) R.POS_PTp_STATUS.ERR_LEVEL p = s.rd (laneDie l) R.POS_PTp_STATUS.ERR_LEVEL p :=
    hkept.rd hs _ _ _ _ (by decide)
  have hillegal : u.rd (laneDie l) R.POS_PTp_ERR.ILLEGAL p = s.rd (laneDie l) R.POS_PTp_ERR.ILLEGAL p :=
    hkept.rd hs _ _ _ _ (by decide)
  cases s.ptEdgeAt l p mode dt lv with
  | none =>
    exact ⟨hlevels (Spares.refl u), fun _ => ⟨hcount, hkept.rd hs _ _ _ _ (by decide)⟩, nofun, nofun⟩
  | refused =>
    refine ⟨hlevels ((Spares.refl u).ptIllegal (by decide)), nofun, fun _ => ⟨?_, ?_⟩, nofun⟩
    · exact (congrArg PtSt.count u.pt_ptIllegal).trans hcount
    · obtain ⟨hflag, hrose, hend⟩ := u.ptIllegal_noted (l := l) (p := p) hok
      exact ⟨hflag, rose_of_eq hrose hillegal, hend.trans (by rw [hlevel])⟩
  | counts up illegal =>
    obtain ⟨⟨⟨hdir, hmoving, hstamp⟩, hmoved, hmark⟩, hend⟩ := u.ptEdgeDone_counts (l := l) (p := p) mode
      ((s.pt l p).since + dt) stable up illegal hok
    rw [htime] at hstamp
    rw [hcount, hlevel] at hmoved
    refine ⟨hlevels hend, nofun, nofun, fun up' illegal' he => ?_⟩
    cases he
    exact ⟨⟨hdir, hmoving, hstamp⟩, hmoved, fun h => ⟨(hmark h).1, rose_of_eq (hmark h).2 hillegal⟩⟩

/-! ## Glitches (R158, R164) -/

/-- The counter of glitches on a line. -/
def glitchFld (line : Fin 3) : Fld :=
  match line.val with
  | 0 => R.POS_PTp_GLITCH.A | 1 => R.POS_PTp_GLITCH.B | _ => R.POS_PTp_GLITCH.Z

theorem exec_ptGlitch {line : Fin 3} {gap : Nat} (hp : s.past l 11 = true) (hm : (s.ptMode l p).isSome = true)
    (ha : s.ptAccepts l p gap = false) :
    let u := (s.inc (laneDie l) (glitchFld line) p).set (laneDie l) R.POS_PTp_STATUS.GLITCH p
    exec (.ptGlitch l p line gap) s =
      .next (if u.on (laneDie l) R.POS_PTp_CFG.GLITCH_ERR p then u.ptError l p else u) :=
  congrArg Host.Outcome.next (if_pos (by rw [hp, hm, ha]; rfl))

/-- Edges closer than the minimum are a glitch, counted on its line (R158). -/
theorem glitch_counted {line : Fin 3} {gap : Nat} (hs : s.regsOk = true) (hp : s.past l 11 = true)
    (hm : (s.ptMode l p).isSome = true) (ha : s.ptAccepts l p gap = false) :
    leads (.ptGlitch l p line gap) s fun t =>
      t.rd (laneDie l) R.POS_PTp_STATUS.GLITCH p = 1 ∧ rose s t (laneDie l) (glitchFld line) p ∧
      t.rd (laneDie l) R.POS_PTp_STATUS.ERR_LEVEL p = (if s.on (laneDie l) R.POS_PTp_CFG.GLITCH_ERR p then
        min 255 (s.rd (laneDie l) R.POS_PTp_STATUS.ERR_LEVEL p + 8) else s.rd (laneDie l) R.POS_PTp_STATUS.ERR_LEVEL p) := by
  refine leads_of_exec (exec_ptGlitch hp hm ha) ?_
  have hline : ∀ line : Fin 3, apartAll [glitchFld line] [R.POS_PTp_CFG.GLITCH_ERR, R.POS_PTp_STATUS.ERR_LEVEL] = true ∧
      apartAll (R.POS_PTp_STATUS.GLITCH :: R.POS_PTp_STATUS.ERR_LEVEL :: ptFaultFlds) [glitchFld line] = true := by decide
  let x1 := s.inc (laneDie l) (glitchFld line) p
  let x2 := x1.set (laneDie l) R.POS_PTp_STATUS.GLITCH p
  have h1 : x1.regsOk = true := State.wr_regsOk _ _ _ _ _ _ hs
  have h2 : x2.regsOk = true := State.wr_regsOk _ _ _ _ _ _ h1
  have hkept : Spares [R.POS_PTp_CFG.GLITCH_ERR, R.POS_PTp_STATUS.ERR_LEVEL] s x2 :=
    ((Spares.refl s).wrIn (hline line).1 _ _ _ _ (by simp)).wr _ _ _ _ _ (by decide)
  have hend : ∀ {fs}, apartAll (R.POS_PTp_STATUS.ERR_LEVEL :: ptFaultFlds) fs = true →
      Spares fs x2 (if x2.on (laneDie l) R.POS_PTp_CFG.GLITCH_ERR p then x2.ptError l p else x2) := fun hf =>
    .ite ((Spares.refl x2).ptError hf) (Spares.refl x2)
  have hcount : Spares [glitchFld line] x1 (if x2.on (laneDie l) R.POS_PTp_CFG.GLITCH_ERR p then x2.ptError l p else x2) :=
    ((Spares.refl x1).wrIn (hline line).2 _ _ _ _ (by simp)).trans (hend (apartAll_mono (hline line).2 (by simp)))
  refine ⟨(hend (fs := [R.POS_PTp_STATUS.GLITCH]) (by decide)).rd_wr h1 (by decide), hcount.rose_inc hs (by simp), ?_⟩
  show (if x2.on (laneDie l) R.POS_PTp_CFG.GLITCH_ERR p then x2.ptError l p else x2).rd _ _ _ = _
  rw [hkept.on hs (by decide), ← hkept.rd hs (laneDie l) R.POS_PTp_STATUS.ERR_LEVEL p 0 (by decide)]
  split
  · exact x2.ptError_level h2
  · rfl

/-! ## References (R157, R158, R160) -/

/-- A new level of Z stored and shown. -/
def State.ptZLevelled (s : State) (l : Lane) (p : Fin 6) (level : Bool) : State :=
  (s.modPt l p fun x => { x with lv := (s.pt l p).lv % 4 + 4 * b2n level }).put (laneDie l) R.POS_PTp_STATUS.LEVEL_Z level p

/-- The edge to the new level of Z is a reference. -/
def State.ptZIsReference (s : State) (l : Lane) (p : Fin 6) (level : Bool) : Bool :=
  !s.ptLevel l p (s.pt l p).lv 2 && s.ptLevel l p ((s.pt l p).lv % 4 + 4 * b2n level) 2 && s.ptIsReference l p

/-- The levels of A and B stand at a change of Z. -/
theorem bit_zLevel (lv k : Nat) (level : Bool) (hk : k < 2) : bit (lv % 4 + 4 * b2n level) k = bit lv k := by
  have h : (lv % 4 + 4 * b2n level) % 2 ^ 2 = lv % 2 ^ 2 := by omega
  rw [← bit_low hk, low, h, ← low, bit_low hk]

theorem State.ptZLevelled_pt (s : State) (level : Bool) :
    (s.ptZLevelled l p level).pt l p = { s.pt l p with lv := (s.pt l p).lv % 4 + 4 * b2n level } := by
  unfold State.ptZLevelled
  rw [State.put_eq, State.pt_wr, State.pt_modPt]

/-- The fields that decide whether an edge is a reference and what it does. -/
def referenceFlds : List Fld :=
  [R.POS_PTp_CFG.EN, R.POS_PTp_CFG.MODE, R.POS_PTp_CFG.INV_A, R.POS_PTp_CFG.INV_B, R.POS_PTp_CFG.Z_EN, R.POS_PTp_CFG.Z_QUAL,
   R.POS_PTp_CFG.Z_RESET, R.POS_PTp_SCALE.COUNTS, R.POS_PTp_STATUS.ERR_FAULT, R.POS_PTp_ERR.INDEX_ERR]

theorem State.ptZLevelled_spares (s : State) (level : Bool) : Spares referenceFlds s (s.ptZLevelled l p level) :=
  ((Spares.refl s).modPt ..).wr _ _ _ _ _ (by decide)

theorem State.ptZLevelled_isReference (s : State) (level : Bool) (hs : s.regsOk = true) :
    (s.ptZLevelled l p level).ptIsReference l p = s.ptIsReference l p := by
  have h := s.ptZLevelled_spares (l := l) (p := p) level
  have hrd : ∀ f ∈ referenceFlds, (s.ptZLevelled l p level).rd (laneDie l) f p = s.rd (laneDie l) f p := fun f hf =>
    h.rd hs _ _ _ _ hf
  have hon : ∀ f ∈ referenceFlds, (s.ptZLevelled l p level).on (laneDie l) f p = s.on (laneDie l) f p := fun f hf => h.on hs hf
  have hmode : (s.ptZLevelled l p level).ptMode l p = s.ptMode l p := by
    unfold State.ptMode
    rw [hrd _ (by decide), hon _ (by decide)]
  have hlevel : ∀ k < 2, (s.ptZLevelled l p level).ptLevel l p ((s.pt l p).lv % 4 + 4 * b2n level) k =
      s.ptLevel l p (s.pt l p).lv k := by
    intro k hk
    unfold State.ptLevel
    dsimp only
    rw [bit_zLevel _ _ _ hk]
    interval_cases k
    · exact congrArg (bit _ 0 != ·) (hon R.POS_PTp_CFG.INV_A (by decide))
    · exact congrArg (bit _ 1 != ·) (hon R.POS_PTp_CFG.INV_B (by decide))
  unfold State.ptIsReference
  dsimp only
  rw [hmode, hrd _ (by decide), hon _ (by decide), State.ptZLevelled_pt, hlevel 0 (by decide), hlevel 1 (by decide)]

theorem exec_ptReferenceEdge {stable : Nat} (level : Bool) (hs : s.regsOk = true) (hp : s.past l 11 = true)
    (hm : (s.ptMode l p).isSome = true) (ha : s.ptAccepts l p stable = true) :
    let u := s.ptZLevelled l p level
    exec (.ptReferenceEdge l p stable level) s =
      .next (if s.ptZIsReference l p level then u.ptReference l p else u) := by
  refine congrArg Host.Outcome.next ((if_pos (by rw [hp, hm, ha]; rfl)).trans ?_)
  show (if !s.ptLevel l p (s.pt l p).lv 2 && s.ptLevel l p ((s.pt l p).lv % 4 + 4 * b2n level) 2 &&
    (s.ptZLevelled l p level).ptIsReference l p then _ else _) = _
  rw [State.ptZLevelled_isReference s level hs]
  rfl

/-- The count at a reference: latched, or zeroed with `Z_RESET`. -/
def State.ptRefCount (s : State) (l : Lane) (p : Fin 6) : Int :=
  if s.on (laneDie l) R.POS_PTp_CFG.Z_RESET p then 0 else (s.pt l p).count

/-- A reference disagrees with the counts per turn (R160). -/
def State.ptRefWrong (s : State) (l : Lane) (p : Fin 6) : Bool :=
  let turn := (s.pt l p).count - (s.pt l p).ref.getD 0
  (s.pt l p).ref.isSome && turn != (s.ptCounts l p : Int) && turn != -(s.ptCounts l p : Int)

/-- A reference latched: the index, and the count that it leaves. -/
def State.ptLatched (s : State) (l : Lane) (p : Fin 6) : State :=
  ((s.wr (laneDie l) R.POS_PTp_INDEX.VALUE (ux 32 (s.pt l p).count) p).modPt l p fun x =>
    { x with count := s.ptRefCount l p, ref := some (s.ptRefCount l p) }).wr (laneDie l) R.POS_PTp_COUNT.COUNT
    (ux 32 (s.ptRefCount l p)) p

/-- A reference that disagrees is an index error. -/
def State.ptRefChecked (s : State) (l : Lane) (p : Fin 6) (wrong : Bool) : State :=
  if wrong then
    ((s.set (laneDie l) R.POS_PTp_STATUS.INDEX_ERR p).inc (laneDie l) R.POS_PTp_ERR.INDEX_ERR p).ptError l p
  else s

/-- The angle holds from a reference on, unless an error fault stands. -/
def State.ptRefEnd (s : State) (l : Lane) (p : Fin 6) : State :=
  (s.when (!s.on (laneDie l) R.POS_PTp_STATUS.ERR_FAULT p) fun s => s.ptOk l p true).ptAngle l p

theorem State.ptReference_stages (s : State) (l : Lane) (p : Fin 6) :
    s.ptReference l p = ((s.ptLatched l p).ptRefChecked l p (s.ptRefWrong l p)).ptRefEnd l p := rfl

section
variable {fs : List Fld} {t : State}

theorem Spares.ptLatched (h : Spares fs s t) (hf : apartAll [R.POS_PTp_INDEX.VALUE, R.POS_PTp_COUNT.COUNT] fs = true) :
    Spares fs s (t.ptLatched l p) := ((h.wrIn hf _ _ _ _ (by simp)).modPt ..).wrIn hf _ _ _ _ (by simp)

theorem State.ptLatched_pt (s : State) : (s.ptLatched l p).pt l p =
    { s.pt l p with count := s.ptRefCount l p, ref := some (s.ptRefCount l p) } := by
  unfold State.ptLatched
  rw [State.pt_wr, State.pt_modPt, State.pt_wr]

theorem Spares.ptRefChecked (h : Spares fs s t) (wrong : Bool) (hf : apartAll (R.POS_PTp_STATUS.INDEX_ERR ::
    R.POS_PTp_ERR.INDEX_ERR :: R.POS_PTp_STATUS.ERR_LEVEL :: ptFaultFlds) fs = true) :
    Spares fs s (t.ptRefChecked l p wrong) :=
  .ite (((h.wrIn hf _ _ _ _ (by simp)).wrIn hf _ _ _ _ (by simp)).ptError (apartAll_mono hf (by simp))) h

theorem State.ptRefChecked_pt (s : State) (wrong : Bool) : (s.ptRefChecked l p wrong).pt l p = s.pt l p := by
  unfold State.ptRefChecked
  rw [apply_ite (fun x : State => x.pt l p), State.pt_ptError, State.inc_eq, State.pt_wr, State.set_eq, State.pt_wr, ite_self]

theorem Spares.ptRefEnd (h : Spares fs s t) (hf : apartAll (R.POS_PTp_ANGLE.ANGLE :: ptFlagFlds) fs = true) :
    Spares fs s (t.ptRefEnd l p) :=
  (h.when _ fun x => (Spares.refl x).ptFlags _ _ (apartAll_mono hf (by simp))).ptAngle (apartAll_mono hf (by simp))

theorem State.ptRefEnd_pt (s : State) :
    ((s.ptRefEnd l p).pt l p).count = (s.pt l p).count ∧ ((s.ptRefEnd l p).pt l p).ref = (s.pt l p).ref := by
  unfold State.ptRefEnd
  rw [(State.pt_ptAngle _).1, (State.pt_ptAngle _).2, State.pt_when _ _ _ _ fun x => x.pt_ptOk true]
  exact ⟨rfl, rfl⟩

/-- The latch shows the count as the index, and the count that it leaves. -/
theorem State.ptLatched_shown (s : State) (hs : s.regsOk = true) :
    (s.ptLatched l p).rd (laneDie l) R.POS_PTp_INDEX.VALUE p = ux 32 (s.pt l p).count ∧
      (s.ptLatched l p).rd (laneDie l) R.POS_PTp_COUNT.COUNT p = ux 32 (s.ptRefCount l p) := by
  let x1 := s.wr (laneDie l) R.POS_PTp_INDEX.VALUE (ux 32 (s.pt l p).count) p
  let x2 := x1.modPt l p fun x => { x with count := s.ptRefCount l p, ref := some (s.ptRefCount l p) }
  have h2 : x2.regsOk = true := (State.regsOk_modRun ..).trans (State.wr_regsOk _ _ _ _ _ _ hs)
  have hindex : Spares [R.POS_PTp_INDEX.VALUE] x1 (s.ptLatched l p) :=
    ((Spares.refl x1).modPt ..).wr _ _ _ _ _ (by decide)
  exact ⟨(hindex.rd_wr hs (by decide)).trans (low_of_lt (ux_lt ..)),
    (State.rd_wr_same _ _ _ _ _ _ h2).trans (low_of_lt (ux_lt ..))⟩

/-- A reference was taken (R160). -/
structure ReferenceTaken (s : State) (l : Lane) (p : Fin 6) (t : State) : Prop where
  index : t.rd (laneDie l) R.POS_PTp_INDEX.VALUE p = ux 32 (s.pt l p).count
  shown : t.rd (laneDie l) R.POS_PTp_COUNT.COUNT p = ux 32 (s.ptRefCount l p)
  count : (t.pt l p).count = s.ptRefCount l p
  ref : (t.pt l p).ref = some (s.ptRefCount l p)
  wrong : s.ptRefWrong l p = true →
    t.rd (laneDie l) R.POS_PTp_STATUS.INDEX_ERR p = 1 ∧ rose s t (laneDie l) R.POS_PTp_ERR.INDEX_ERR p
  right : s.ptRefWrong l p = false → s.on (laneDie l) R.POS_PTp_STATUS.ERR_FAULT p = false →
    t.rd (laneDie l) R.POS_PTp_STATUS.ANGLE_OK p = 1

/-- A wrong reference is marked and counted. -/
theorem State.ptRefChecked_wrong (s : State) (hs : s.regsOk = true)
    (ht : Spares [R.POS_PTp_STATUS.INDEX_ERR, R.POS_PTp_ERR.INDEX_ERR] (s.ptRefChecked l p true) t) :
    t.rd (laneDie l) R.POS_PTp_STATUS.INDEX_ERR p = 1 ∧ rose s t (laneDie l) R.POS_PTp_ERR.INDEX_ERR p := by
  let y1 := s.set (laneDie l) R.POS_PTp_STATUS.INDEX_ERR p
  let y2 := y1.inc (laneDie l) R.POS_PTp_ERR.INDEX_ERR p
  have h1 : y1.regsOk = true := State.wr_regsOk _ _ _ _ _ _ hs
  have hcount : Spares [R.POS_PTp_STATUS.INDEX_ERR, R.POS_PTp_ERR.INDEX_ERR] y2 t :=
    ((Spares.refl y2).ptError (by decide)).trans ht
  have hflag : Spares [R.POS_PTp_STATUS.INDEX_ERR] y1 t :=
    ((Spares.refl y1).wr _ _ _ _ _ (by decide)).trans (hcount.mono (by simp))
  have hbefore : Spares [R.POS_PTp_ERR.INDEX_ERR] s y1 := (Spares.refl s).wr _ _ _ _ _ (by decide)
  exact ⟨hflag.rd_wr hs (by decide), rose_of_eq (hcount.rose_inc h1 (by decide)) (hbefore.rd hs _ _ _ _ (by decide))⟩

/-- The angle holds from a reference on where no error fault stands. -/
theorem State.ptRefEnd_ok (s : State) (hs : s.regsOk = true) (hf : s.on (laneDie l) R.POS_PTp_STATUS.ERR_FAULT p = false) :
    (s.ptRefEnd l p).rd (laneDie l) R.POS_PTp_STATUS.ANGLE_OK p = 1 := by
  have hok : (s.ptOk l p true).regsOk = true := ((Spares.refl (fs := []) s).ptFlags _ _ (by decide)).ok hs
  have hangle : Spares [R.POS_PTp_STATUS.ANGLE_OK] (s.ptOk l p true) ((s.ptOk l p true).ptAngle l p) :=
    (Spares.refl _).ptAngle (by decide)
  unfold State.ptRefEnd
  rw [hf, Bool.not_false, State.when_true, hangle.rd hok _ _ _ _ (by decide)]
  exact s.ptOk_reads true hs

theorem State.ptReference_taken (s : State) (hs : s.regsOk = true) :
    ReferenceTaken s l p (s.ptReference l p) ∧ Spares [R.POS_PTp_STATUS.LEVEL_Z] s (s.ptReference l p) := by
  rw [State.ptReference_stages]
  have hbefore : Spares [R.POS_PTp_ERR.INDEX_ERR, R.POS_PTp_STATUS.ERR_FAULT, R.POS_PTp_STATUS.LEVEL_Z] s (s.ptLatched l p) :=
    (Spares.refl s).ptLatched (by decide)
  have hpt := s.ptLatched_pt (l := l) (p := p)
  obtain ⟨hindex, hcount⟩ := s.ptLatched_shown (l := l) (p := p) hs
  have hxok := hbefore.ok hs
  generalize s.ptLatched l p = x at *
  have hend : ∀ {fs} (y : State), apartAll (R.POS_PTp_ANGLE.ANGLE :: ptFlagFlds) fs = true → Spares fs y (y.ptRefEnd l p) :=
    fun y hf => (Spares.refl y).ptRefEnd hf
  have hkept : Spares [R.POS_PTp_INDEX.VALUE, R.POS_PTp_COUNT.COUNT, R.POS_PTp_STATUS.LEVEL_Z] x
      ((x.ptRefChecked l p (s.ptRefWrong l p)).ptRefEnd l p) :=
    ((Spares.refl x).ptRefChecked _ (by decide)).trans (hend _ (by decide))
  refine ⟨?_, (hbefore.mono (by simp)).trans (hkept.mono (by simp))⟩
  exact
    { index := (hkept.rd hxok _ _ _ _ (by decide)).trans hindex
      shown := (hkept.rd hxok _ _ _ _ (by decide)).trans hcount
      count := by rw [(State.ptRefEnd_pt _).1, State.ptRefChecked_pt, hpt]
      ref := by rw [(State.ptRefEnd_pt _).2, State.ptRefChecked_pt, hpt]
      wrong := fun hw => by
        rw [hw]
        obtain ⟨hflag, hrose⟩ := State.ptRefChecked_wrong x hxok (hend (x.ptRefChecked l p true) (by decide))
        exact ⟨hflag, rose_of_eq hrose (hbefore.rd hs _ _ _ _ (by decide))⟩
      right := fun hw hfault => by
        rw [hw]
        exact x.ptRefEnd_ok hxok ((hbefore.on hs (by decide)).trans hfault) }

/-- A new level of Z shows, and leaves the channel as it was unless it is a reference. -/
theorem State.ptZLevelled_shown (s : State) {t : State} (level : Bool) (hs : s.regsOk = true)
    (ht : Spares [R.POS_PTp_STATUS.LEVEL_Z] (s.ptZLevelled l p level) t) :
    t.rd (laneDie l) R.POS_PTp_STATUS.LEVEL_Z p = b2n level :=
  ht.rd_put ((State.regsOk_modRun ..).trans hs) (by decide) (by decide)

/-- Before and after the new level a reference does the same. -/
theorem ReferenceTaken.of_level {level : Bool} (h : ReferenceTaken (s.ptZLevelled l p level) l p t) (hs : s.regsOk = true) :
    ReferenceTaken s l p t := by
  have hkept := s.ptZLevelled_spares (l := l) (p := p) level
  have hpt := s.ptZLevelled_pt (l := l) (p := p) level
  have hcounts : (s.ptZLevelled l p level).ptCounts l p = s.ptCounts l p := by
    unfold State.ptCounts
    rw [hkept.rd hs _ _ _ _ (by decide)]
  have hcount : (s.ptZLevelled l p level).ptRefCount l p = s.ptRefCount l p := by
    unfold State.ptRefCount
    rw [hkept.on hs (by decide), hpt]
  have hwrong : (s.ptZLevelled l p level).ptRefWrong l p = s.ptRefWrong l p := by
    unfold State.ptRefWrong
    rw [hcounts, hpt]
  obtain ⟨h1, h2, h3, h4, h5, h6⟩ := h
  rw [hcount] at h2 h3 h4
  rw [hpt] at h1
  rw [hwrong] at h5 h6
  exact ⟨h1, h2, h3, h4, fun hw => ⟨(h5 hw).1, rose_of_eq (h5 hw).2 (hkept.rd hs _ _ _ _ (by decide))⟩,
    fun hw hf => h6 hw ((hkept.on hs (by decide)).trans hf)⟩

end

/-- A new level of Z shows; an edge that is a reference is taken, any other one changes no count (R157, R160). -/
theorem reference_edge_taken {stable : Nat} (level : Bool) (hs : s.regsOk = true) (hp : s.past l 11 = true)
    (hm : (s.ptMode l p).isSome = true) (ha : s.ptAccepts l p stable = true) :
    leads (.ptReferenceEdge l p stable level) s fun t =>
      t.rd (laneDie l) R.POS_PTp_STATUS.LEVEL_Z p = b2n level ∧
      (s.ptZIsReference l p level = false → (t.pt l p).count = (s.pt l p).count ∧ (t.pt l p).ref = (s.pt l p).ref) ∧
      (s.ptZIsReference l p level = true → ReferenceTaken s l p t) := by
  refine leads_of_exec (exec_ptReferenceEdge level hs hp hm ha) ?_
  have hok : (s.ptZLevelled l p level).regsOk = true := (s.ptZLevelled_spares level).ok hs
  cases hr : s.ptZIsReference l p level with
  | true =>
    obtain ⟨htaken, hlevel⟩ := (s.ptZLevelled l p level).ptReference_taken (l := l) (p := p) hok
    exact ⟨s.ptZLevelled_shown level hs hlevel, fun h => absurd h (by decide), fun _ => htaken.of_level hs⟩
  | false =>
    refine ⟨s.ptZLevelled_shown level hs (Spares.refl _), fun _ => ?_, fun h => absurd h (by decide)⟩
    simp only [Bool.false_eq_true, if_false]
    rw [State.ptZLevelled_pt]
    exact ⟨rfl, rfl⟩

/-! ## Extrapolation (R161) -/

/-- The pitches within which the angle may move on (R161): one, or those of the gap that a synchronised wheel comes to. -/
def State.ptPitches (s : State) (l : Lane) (p : Fin 6) : Nat :=
  if s.rd (laneDie l) R.POS_PTp_STATUS.SYNC p = twSync ∧ (s.pt l p).idx + 1 = s.ptE l p
  then s.rd (laneDie l) R.POS_PTp_TW.MISSING p + 1 else 1

/-- The direction of a channel as a sign. -/
def State.ptSign (s : State) (l : Lane) (p : Fin 6) : Int := if s.on (laneDie l) R.POS_PTp_STATUS.DIR p then 1 else -1

/-- The speed falls with the time past the last period. -/
def State.ptSlowed (s : State) (l : Lane) (p : Fin 6) (dt : Nat) : State :=
  if decide ((s.pt l p).period < dt) then s.ptSpeed l p (s.ptSign l p * (s.pt l p).span) dt else s

theorem State.ptSlowed_counts (s : State) (dt : Nat) (hs : s.regsOk = true) :
    (s.ptSlowed l p dt).regsOk = true ∧ (s.ptSlowed l p dt).ptCounts l p = s.ptCounts l p := by
  have h : Spares [R.POS_PTp_SCALE.COUNTS] s (s.ptSlowed l p dt) :=
    .ite ((Spares.refl s).ptSpeed _ _ (by decide)) (Spares.refl s)
  refine ⟨h.ok hs, ?_⟩
  unfold State.ptCounts
  rw [h.rd hs _ _ _ _ (by decide)]

theorem exec_ptExtrapolate (dt : Nat) (hp : s.past l 11 = true) (hm : (s.ptMode l p).isSome = true)
    (hz : s.on (laneDie l) R.POS_PTp_STATUS.ZERO_SPEED p = false) (hv : s.rd (laneDie l) R.POS_PTp_SPEED.SPEED p ≠ 0) :
    let x := s.pt l p
    let u := s.ptSlowed l p dt
    let n : Int := u.ptCounts l p
    let move := u.quot ((x.span : Int) * 2 ^ 32 * dt) (n * (orOne (max x.period dt) : Nat))
    exec (.ptExtrapolate l p dt) s = .next ((move.2.wr (laneDie l) R.POS_PTp_ANGLE.ANGLE (ux 32 ((x.angle : Int) +
      s.ptSign l p * max 0 (min move.1 ((s.ptPitches l p : Int) * 2 ^ 32 / n - 1)))) p).ptPublish l p) := by
  have hpitches : s.ptPitches l p = if s.rd (laneDie l) R.POS_PTp_STATUS.SYNC p == twSync && (s.pt l p).idx + 1 == s.ptE l p
      then s.rd (laneDie l) R.POS_PTp_TW.MISSING p + 1 else 1 := by simp [State.ptPitches]
  rw [hpitches]
  exact congrArg Host.Outcome.next (if_pos (by rw [hp, hm, hz, bne_iff_ne.2 hv]; rfl))

theorem Spares.ptPublish {fs : List Fld} {t : State} (h : Spares fs s t)
    (hf : ∀ f ∈ fs, f.inM (4294967295 - 12885950464 % 4294967296) = true) : Spares fs s (t.ptPublish l p) :=
  (h.ceSource _ _ _ _ hf).ceSource _ _ _ _ hf

/-- The angle moves on by the elapsed share of the last counts, within the limit (R161, log entry 46). -/
theorem angle_extrapolated (dt : Nat) (hs : s.regsOk = true) (hp : s.past l 11 = true) (hm : (s.ptMode l p).isSome = true)
    (hz : s.on (laneDie l) R.POS_PTp_STATUS.ZERO_SPEED p = false) (hv : s.rd (laneDie l) R.POS_PTp_SPEED.SPEED p ≠ 0) :
    leads (.ptExtrapolate l p dt) s fun t =>
      let x := s.pt l p
      let lim := (s.ptPitches l p : Int) * 2 ^ 32 / (s.ptCounts l p : Int) - 1
      nearly ((x.span : Int) * 2 ^ 32 * dt) ((s.ptCounts l p : Int) * (orOne (max x.period dt) : Nat)) fun m : Int =>
        t.rd (laneDie l) R.POS_PTp_ANGLE.ANGLE p = ux 32 (x.angle + s.ptSign l p * max 0 (min m lim)) := by
  have hexec := exec_ptExtrapolate dt hp hm hz hv
  obtain ⟨hok, hcounts⟩ := s.ptSlowed_counts (l := l) (p := p) dt hs
  dsimp only at hexec
  rw [hcounts] at hexec
  refine leads_of_exec hexec (State.nearly_quot (s.ptSlowed l p dt) _ _ ?_)
  exact (((Spares.refl (fs := [R.POS_PTp_ANGLE.ANGLE]) _).ptPublish (by decide)).rd_wr
    (((Spares.refl (fs := []) (s.ptSlowed l p dt)).quot _ _).ok hok) (by decide)).trans (low_of_lt (ux_lt ..))

/-! ## Zero speed (R161, R163) -/

/-- A channel at zero speed, `ZERO_TIME` after its last counting edge. -/
def State.ptStopped (s : State) (l : Lane) (p : Fin 6) : State :=
  (((s.advTo ((s.pt l p).lastAt + orOne (s.rd (laneDie l) R.POS_PTp_SPD.ZERO_TIME p) * us)).wr (laneDie l)
    R.POS_PTp_SPEED.SPEED 0 p).set (laneDie l) R.POS_PTp_STATUS.ZERO_SPEED p).modPt l p fun x =>
    { x with fresh := true, hist := [], run := 0 }

theorem exec_ptZeroSpeed {mode : Nat} (hp : s.past l 11 = true) (hm : s.ptMode l p = some mode) :
    exec (.ptZeroSpeed l p) s = .next (if mode = 2 then
      ((s.ptStopped l p).wr (laneDie l) R.POS_PTp_STATUS.SYNC twUnsync p).ptOk l p false else s.ptStopped l p) := by
  refine congrArg Host.Outcome.next ((if_pos hp).trans ?_)
  rw [hm]
  rfl

/-- A channel without a counting edge for its zero time has no speed and no periods; a tooth wheel is unsynchronised
(R161, R163). -/
theorem zero_speed_shown {mode : Nat} (hs : s.regsOk = true) (hp : s.past l 11 = true) (hm : s.ptMode l p = some mode) :
    leads (.ptZeroSpeed l p) s fun t =>
      t.rd (laneDie l) R.POS_PTp_SPEED.SPEED p = 0 ∧ t.rd (laneDie l) R.POS_PTp_STATUS.ZERO_SPEED p = 1 ∧
      (t.pt l p).hist = [] ∧
      t.now = max s.now ((s.pt l p).lastAt + orOne (s.rd (laneDie l) R.POS_PTp_SPD.ZERO_TIME p) * us) ∧
      (mode = 2 → t.rd (laneDie l) R.POS_PTp_STATUS.SYNC p = twUnsync ∧ t.rd (laneDie l) R.POS_PTp_STATUS.ANGLE_OK p = 0) := by
  refine leads_of_exec (exec_ptZeroSpeed hp hm) ?_
  let x0 := s.advTo ((s.pt l p).lastAt + orOne (s.rd (laneDie l) R.POS_PTp_SPD.ZERO_TIME p) * us)
  let x1 := x0.wr (laneDie l) R.POS_PTp_SPEED.SPEED 0 p
  let x2 := x1.set (laneDie l) R.POS_PTp_STATUS.ZERO_SPEED p
  have h0 : x0.regsOk = true := (State.regsOk_advTo ..).trans hs
  have h1 : x1.regsOk = true := State.wr_regsOk _ _ _ _ _ _ h0
  have hshown : Spares [R.POS_PTp_STATUS.ZERO_SPEED] x2 (s.ptStopped l p) := (Spares.refl x2).modPt ..
  have hspeed : (s.ptStopped l p).rd (laneDie l) R.POS_PTp_SPEED.SPEED p = 0 :=
    (((Spares.refl (fs := [R.POS_PTp_SPEED.SPEED]) x1).wr _ _ _ _ _ (by decide)).modPt ..).rd_wr h0 (by decide)
  have hzero : (s.ptStopped l p).rd (laneDie l) R.POS_PTp_STATUS.ZERO_SPEED p = 1 := hshown.rd_wr h1 (by decide)
  have hpt : ((s.ptStopped l p).pt l p).hist = [] := by
    unfold State.ptStopped
    rw [State.pt_modPt]
  have hnow : (s.ptStopped l p).now = max s.now ((s.pt l p).lastAt +
      orOne (s.rd (laneDie l) R.POS_PTp_SPD.ZERO_TIME p) * us) := State.modRun_now ..
  have hok : (s.ptStopped l p).regsOk = true := hshown.ok (State.wr_regsOk _ _ _ _ _ _ h1)
  generalize s.ptStopped l p = u at *
  split
  · have hkept : Spares [R.POS_PTp_SPEED.SPEED, R.POS_PTp_STATUS.ZERO_SPEED] u
        ((u.wr (laneDie l) R.POS_PTp_STATUS.SYNC twUnsync p).ptOk l p false) :=
      ((Spares.refl u).wr _ _ _ _ _ (by decide)).ptFlags _ _ (by decide)
    have hsync : Spares [R.POS_PTp_STATUS.SYNC] (u.wr (laneDie l) R.POS_PTp_STATUS.SYNC twUnsync p)
        ((u.wr (laneDie l) R.POS_PTp_STATUS.SYNC twUnsync p).ptOk l p false) := (Spares.refl _).ptFlags _ _ (by decide)
    exact ⟨(hkept.rd hok _ _ _ _ (by decide)).trans hspeed, (hkept.rd hok _ _ _ _ (by decide)).trans hzero,
      by rw [State.pt_ptOk, State.pt_wr, hpt], (State.ptOk_now ..).trans hnow,
      fun _ => ⟨hsync.rd_wr hok (by decide), State.ptOk_reads _ false (State.wr_regsOk _ _ _ _ _ _ hok)⟩⟩
  · next hmode => exact ⟨hspeed, hzero, hpt, hnow, fun h => absurd h hmode⟩

end

/-- Settles O21: each command in the stages of its meaning, and what each stage writes read through the stages behind it. Rounding
is left open only in the extrapolated angle. -/
theorem pulseTrainsCountAndReference : Obligations.PulseTrainsCountAndReference := by
  unfold Obligations.PulseTrainsCountAndReference
  refine ⟨fun s l p mode dt stable levels hs hp hm ha => ?_, fun s l p line gap hs hp hm ha => ?_,
    fun s l p stable level hs hp hm ha => ?_, fun s l p dt hs hp hm hz hv => angle_extrapolated dt (canonical_regs hs) hp hm hz hv,
    fun s l p mode hs => zero_speed_shown (canonical_regs hs)⟩
  · obtain ⟨t, hexec, hlevels, hnone, hrefused, hcounts⟩ := counting_edge_shown dt levels (canonical_regs hs) hp hm ha
    refine ⟨t, hexec, hlevels.levelA, hlevels.levelB, hnone, fun he => ?_, fun up illegal he => ?_⟩
    · obtain ⟨hcount, hflag, hrose, hlevel⟩ := hrefused he
      exact ⟨hcount, hflag, hrose, hlevel⟩
    · obtain ⟨⟨hdir, hmoving, hstamp⟩, hmoved, hillegal⟩ := hcounts up illegal he
      exact ⟨hdir, hmoving, hstamp, hmoved, hillegal⟩
  · obtain ⟨t, hexec, hflag, hrose, hlevel⟩ := glitch_counted (line := line) (canonical_regs hs) hp hm ha
    refine ⟨t, hexec, hflag, ?_, ?_, ?_, hlevel⟩ <;> (rintro rfl; exact hrose)
  · obtain ⟨t, hexec, hlevel, hother, htaken⟩ := reference_edge_taken level (canonical_regs hs) hp hm ha
    refine ⟨t, hexec, hlevel, hother, fun hr => ?_⟩
    obtain ⟨hindex, hshown, hcount, href, hwrong, hright⟩ := htaken hr
    refine ⟨hindex, hshown, hcount, href, fun ⟨hne, hup, hdown⟩ => hwrong ?_, fun ⟨hnone, hfault⟩ => hright ?_ hfault⟩
    · simp [State.ptRefWrong, Option.isSome_iff_ne_none, hne, hup, hdown]
    · simp [State.ptRefWrong, hnone]

end Sys2Proof.Machine
end

section
/-!
PROOFS. The trace buffers (R191 to R194).
-/
namespace Sys2Proof.Machine

/-! ## What a buffer holds through the state's operations -/

theorem State.trc_wr (s : State) (d : Die) (f : Fld) (v i j : Nat) (l : Lane) (b : Fin 8) :
    (s.wr d f v i j).trc l b = s.trc l b := congrArg (fun r : LaneRun => r.ce.trc[b]) (State.wr_run ..)

theorem State.irq_ce (s : State) (l m : Lane) (en : Fld) (i : Nat) : ((s.irq l en i).run m).ce = (s.run m).ce := by
  unfold State.irq State.irqOf
  split
  · rw [State.run_modRun]
    split
    · next h => rw [h]
    · rfl
  · rfl

theorem State.trc_irq (s : State) (l m : Lane) (en : Fld) (i : Nat) (b : Fin 8) : (s.irq l en i).trc m b = s.trc m b :=
  congrArg (fun c : CeSt => c.trc[b]) (State.irq_ce ..)

section
variable (s : State) (l : Lane) (b : Fin 8) (f : TrcBuf → TrcBuf)

/-- What a lane runs after a change of one of its buffers. -/
theorem State.run_modTrc :
    (s.modTrc l b f).run l = { s.run l with ce := { (s.run l).ce with trc := upd (s.run l).ce.trc b f } } := by
  unfold State.modTrc State.modCe
  dsimp only
  rw [State.wr_run, State.wr_run, State.wr_run, State.modRun_run]

theorem State.trc_modTrc_same : (s.modTrc l b f).trc l b = f (s.trc l b) := by
  unfold State.trc
  rw [State.run_modTrc]
  exact (upd_get ..).trans (if_pos rfl)

theorem State.trc_modTrc_other {c : Fin 8} (h : c ≠ b) : (s.modTrc l b f).trc l c = s.trc l c := by
  unfold State.trc
  rw [State.run_modTrc]
  exact (upd_get ..).trans (if_neg h)

theorem State.laneTime_modTrc : (s.modTrc l b f).laneTime l = s.laneTime l := by
  unfold State.laneTime
  rw [State.run_modTrc]
  simp only [State.modTrc, State.modCe, State.wr_now, State.modRun_now]

theorem State.tal_modTrc : (s.modTrc l b f).tal l = s.tal l := by
  unfold State.tal
  rw [State.run_modTrc]

end

/-- The fields that show a buffer's state, oldest record and count (R193, R196). -/
def bufferFlds : List Fld := [R.TRC_STATUS.STATE, R.TRC_Bb_INFO.FIRST, R.TRC_Bb_INFO.ENTRIES]

section
variable {fs : List Fld} {s t u : State} {l : Lane} {b : Fin 8}

theorem Spares.modTrc (h : Spares fs s t) (f : TrcBuf → TrcBuf) (hf : apartAll bufferFlds fs = true) :
    Spares fs s (t.modTrc l b f) :=
  (((h.modRun l _).wrIn hf _ _ _ _ (by simp [bufferFlds])).wrIn hf _ _ _ _ (by simp [bufferFlds])).wrIn hf _ _ _ _
    (by simp [bufferFlds])

/-- The count of the records kept shows. -/
theorem State.modTrc_entries (f : TrcBuf → TrcBuf) (hs : s.regsOk = true) :
    (s.modTrc l b f).rd (laneDie l) R.TRC_Bb_INFO.ENTRIES b = low R.TRC_Bb_INFO.ENTRIES.w (f (s.trc l b)).kept := by
  have hkept : ((s.modCe l fun c => { c with trc := upd c.trc b f }).trc l b).kept = (f (s.trc l b)).kept := by
    unfold State.trc State.modCe
    rw [State.modRun_run]
    exact congrArg TrcBuf.kept ((upd_get ..).trans (if_pos rfl))
  have hpre : (s.modCe l fun c => { c with trc := upd c.trc b f }).regsOk = true := (State.regsOk_modRun ..).trans hs
  unfold State.modTrc
  dsimp only
  rw [State.rd_wr_same _ _ _ _ _ _ (State.wr_regsOk _ _ _ _ _ _ (State.wr_regsOk _ _ _ _ _ _ hpre)), hkept]

/-! ## Arming (R193) -/

theorem dumping_refuses_arming (hs : s.regsOk = true) (hp : s.past l 11 = true) (hd : (s.trc l b).phase = trcDumping) :
    leads (.trcArm l b) s fun t =>
      t.rd (laneDie l) R.TRC_Bb_INFO.ARM_REFUSED b = 1 ∧ t.trc l b = s.trc l b := by
  have hexec : exec (.trcArm l b) s = .next (s.set (laneDie l) R.TRC_Bb_INFO.ARM_REFUSED b) :=
    congrArg Host.Outcome.next ((if_pos hp).trans (if_pos hd))
  exact leads_of_exec hexec ⟨State.rd_wr_same _ _ _ _ _ _ hs, State.trc_wr ..⟩

/-- A buffer emptied and ready to record. -/
def State.trcEmptied (s : State) (l : Lane) (b : Fin 8) : State :=
  s.modTrc l b fun x => { x with phase := if s.trcPre l b = 0 then trcReady else trcFill, next := 0, kept := 0, post := 0,
                                 div := 0, sent := false }

theorem arming_empties (hs : s.regsOk = true) (hp : s.past l 11 = true) (hd : (s.trc l b).phase ≠ trcDumping) :
    leads (.trcArm l b) s fun t =>
      (t.trc l b).phase = (if s.trcPre l b = 0 then trcReady else trcFill) ∧ (t.trc l b).kept = 0 ∧
      t.rd (laneDie l) R.TRC_Bb_INFO.PRE_SHORT b = 0 ∧ t.rd (laneDie l) R.TRC_Bb_INFO.ARM_REFUSED b = 0 ∧
      t.rd (laneDie l) R.TRC_Bb_INFO.ENTRIES b = 0 := by
  let x1 := s.trcEmptied l b
  let x2 := x1.clr (laneDie l) R.TRC_Bb_INFO.PRE_SHORT b
  have hexec : exec (.trcArm l b) s = .next (x2.clr (laneDie l) R.TRC_Bb_INFO.ARM_REFUSED b) :=
    congrArg Host.Outcome.next ((if_pos hp).trans (if_neg hd))
  have h1 : x1.regsOk = true := ((Spares.refl (fs := []) s).modTrc _ (by decide)).ok hs
  have h2 : x2.regsOk = true := State.wr_regsOk _ _ _ _ _ _ h1
  have htrc : (x2.clr (laneDie l) R.TRC_Bb_INFO.ARM_REFUSED b).trc l b = x1.trc l b :=
    (State.trc_wr ..).trans (State.trc_wr ..)
  have hbuf := htrc.trans (State.trc_modTrc_same s l b _)
  refine leads_of_exec hexec
    ⟨congrArg TrcBuf.phase hbuf, congrArg TrcBuf.kept hbuf, ?_, State.rd_wr_same _ _ _ _ _ _ h2, ?_⟩
  · exact ((Spares.refl (fs := [R.TRC_Bb_INFO.PRE_SHORT]) x2).wr _ _ _ _ _ (by decide)).rd_wr h1 (by decide)
  · have hspared : Spares [R.TRC_Bb_INFO.ENTRIES] x1 (x2.clr (laneDie l) R.TRC_Bb_INFO.ARM_REFUSED b) :=
      ((Spares.refl x1).wr _ _ _ _ _ (by decide)).wr _ _ _ _ _ (by decide)
    exact (hspared.rd h1 _ _ _ _ (by decide)).trans (State.modTrc_entries _ hs)

/-! ## Dumping (R194) -/

/-- The result of a dump's submission shown. -/
def State.dumpAnswered (s : State) (l : Lane) (b : Fin 8) (a : Admission) : State :=
  (s.wr (laneDie l) R.TRC_Bb_DUMP.CODE a.code b).put (laneDie l) R.TRC_Bb_DUMP.ADMITTED (a.code == 0) b

/-- An admitted dump begun: its identifier shows, the buffer dumps, the position and the number of the next dump move on. -/
def State.dumpBegun (s : State) (l : Lane) (b : Fin 8) (id pos : Nat) (head : List Nat) : State :=
  let d := laneDie l
  ((((s.wr d R.TRC_Bb_DUMP.ID id b).clr d R.TRC_Bb_DUMP.OUTCOME_VALID b).modTrc l b fun y =>
    { y with phase := trcDumping, pos := pos, head := head }).wr d R.TRC_DUMP_POS.POS (s.rd d R.TRC_DUMP_POS.POS + 1)).wr d
    R.TRC_DUMP_POS.SEQ (s.rd d R.TRC_DUMP_POS.SEQ + 1)

/-- The deadline of a dump submitted now. -/
def State.dumpDeadline (s : State) (l : Lane) (b : Fin 8) : Nat :=
  s.laneTime l + orOne (s.rd (laneDie l) R.TRC_Bb_DL.MS b) * ms

/-- The decision on a dump submitted now. -/
def State.dumpAdmission (s : State) (l : Lane) (b : Fin 8) : Admission := s.admission l 10 33 (s.dumpDeadline l b) (.dump b)

/-- A dump submitted, before its result shows. -/
def State.dumpSubmitted (s : State) (l : Lane) (b : Fin 8) : State :=
  (s.submit l .trc 10 33 (s.dumpDeadline l b) (.dump b)).2

theorem State.trcSubmit_stages (s : State) (l : Lane) (b : Fin 8) :
    s.trcSubmit l b =
      let a := s.dumpAdmission l b
      let u := (s.dumpSubmitted l b).dumpAnswered l b a
      if a.code = 0 then u.dumpBegun l b a.id (s.rd (laneDie l) R.TRC_DUMP_POS.POS) (s.trcHeader l b) else u := by
  have ha : (s.submit l .trc 10 33 (s.dumpDeadline l b) (.dump b)).1 = s.dumpAdmission l b := State.submit_admission
  rw [← ha]
  rfl

theorem State.dumpSubmitted_regsOk (hs : s.regsOk = true) : (s.dumpSubmitted l b).regsOk = true :=
  (State.submit_within s l .trc 10 33 _ _ 0 (msk := 4) (by decide) (Within.refl _)).h.ok hs

theorem Admission.code_le (a : Admission) : a.code ≤ 2 := by
  unfold Admission.code
  split <;> decide

theorem State.dumpAnswered_spares (s : State) (a : Admission) : Spares [] s (s.dumpAnswered l b a) :=
  ((Spares.refl s).wr _ _ _ _ _ (by decide)).wr _ _ _ _ _ (by decide)

/-- The code and the admission that a dump shows stand while it begins. -/
theorem State.dumpAnswered_reads (a : Admission) (hs : s.regsOk = true)
    (ht : Spares [R.TRC_Bb_DUMP.CODE, R.TRC_Bb_DUMP.ADMITTED] (s.dumpAnswered l b a) t) :
    t.rd (laneDie l) R.TRC_Bb_DUMP.CODE b = a.code ∧ t.rd (laneDie l) R.TRC_Bb_DUMP.ADMITTED b = b2n (a.code == 0) := by
  have hcode : low R.TRC_Bb_DUMP.CODE.w a.code = a.code := low_of_lt (Nat.lt_of_le_of_lt a.code_le (by decide))
  refine ⟨?_, ht.rd_put (State.wr_regsOk _ _ _ _ _ _ hs) (by decide) (by decide)⟩
  exact (Spares.rd_wr (fs := [R.TRC_Bb_DUMP.CODE]) (((Spares.refl _).wr _ _ _ _ _ (by decide)).trans (ht.mono (by simp)))
    hs (by decide)).trans hcode

theorem Spares.dumpBegun (h : Spares fs s t) (id pos : Nat) (head : List Nat)
    (hf : apartAll ([R.TRC_Bb_DUMP.ID, R.TRC_Bb_DUMP.OUTCOME_VALID, R.TRC_DUMP_POS.POS, R.TRC_DUMP_POS.SEQ] ++ bufferFlds) fs
      = true) : Spares fs s (t.dumpBegun l b id pos head) :=
  have hbuffer := apartAll_mono hf (List.subset_append_right ..)
  ((((h.wrIn hf _ _ _ _ (by simp)).wrIn hf _ _ _ _ (by simp)).modTrc _ hbuffer).wrIn hf _ _ _ _ (by simp)).wrIn hf _ _ _ _
    (by simp)

/-- What a dump that begins shows. -/
structure DumpBegun (s : State) (l : Lane) (b : Fin 8) (id : Nat) (t : State) : Prop where
  id : t.rd (laneDie l) R.TRC_Bb_DUMP.ID b = low 6 id
  phase : (t.trc l b).phase = trcDumping
  noOutcome : t.rd (laneDie l) R.TRC_Bb_DUMP.OUTCOME_VALID b = 0
  tally : t.tal l = s.tal l

theorem State.dumpBegun_begun (id pos : Nat) (head : List Nat) (hs : s.regsOk = true) :
    DumpBegun s l b id (s.dumpBegun l b id pos head) := by
  let x1 := s.wr (laneDie l) R.TRC_Bb_DUMP.ID id b
  let x2 := x1.clr (laneDie l) R.TRC_Bb_DUMP.OUTCOME_VALID b
  have h1 : x1.regsOk = true := State.wr_regsOk _ _ _ _ _ _ hs
  have hend : Spares [R.TRC_Bb_DUMP.ID, R.TRC_Bb_DUMP.OUTCOME_VALID] x2 (s.dumpBegun l b id pos head) :=
    (((Spares.refl x2).modTrc _ (by decide)).wr _ _ _ _ _ (by decide)).wr _ _ _ _ _ (by decide)
  unfold State.dumpBegun at hend ⊢
  dsimp only at hend ⊢
  refine ⟨?_, ?_, hend.rd_wr h1 (by decide), ?_⟩
  · exact (((Spares.refl (fs := [R.TRC_Bb_DUMP.ID]) x1).wr _ _ _ _ _ (by decide)).trans (hend.mono (by simp))).rd_wr hs
      (by decide)
  · rw [State.trc_wr, State.trc_wr, State.trc_modTrc_same]
  · rw [State.tal_wr, State.tal_wr, State.tal_modTrc, State.clr_eq, State.tal_wr, State.tal_wr]

theorem done_buffer_submits_dump (hs : s.regsOk = true) (hp : s.past l 11 = true) (hd : (s.trc l b).phase = trcDone) :
    leads (.trcDump l b) s fun t =>
      let a := s.dumpAdmission l b
      t.rd (laneDie l) R.TRC_Bb_DUMP.CODE b = a.code ∧ t.rd (laneDie l) R.TRC_Bb_DUMP.ADMITTED b = b2n (a.code == 0) ∧
      (a.code = 0 → DumpBegun ((s.dumpSubmitted l b).dumpAnswered l b a) l b a.id t) := by
  have hexec : exec (.trcDump l b) s = .next (s.trcSubmit l b) :=
    congrArg Host.Outcome.next ((if_pos hp).trans (if_pos hd))
  refine leads_of_exec hexec ?_
  rw [State.trcSubmit_stages]
  dsimp only
  have hsub := State.dumpSubmitted_regsOk (l := l) (b := b) hs
  generalize s.dumpAdmission l b = a
  split
  · have hbegun := (Spares.refl (fs := [R.TRC_Bb_DUMP.CODE, R.TRC_Bb_DUMP.ADMITTED])
      ((s.dumpSubmitted l b).dumpAnswered l b a)).dumpBegun (l := l) (b := b) a.id
      (s.rd (laneDie l) R.TRC_DUMP_POS.POS) (s.trcHeader l b) (by decide)
    obtain ⟨hcode, hadmitted⟩ := State.dumpAnswered_reads a hsub hbegun
    exact ⟨hcode, hadmitted, fun _ => State.dumpBegun_begun _ _ _ ((State.dumpAnswered_spares _ a).ok hsub)⟩
  · next hne =>
    obtain ⟨hcode, hadmitted⟩ := State.dumpAnswered_reads a hsub (Spares.refl _)
    exact ⟨hcode, hadmitted, fun h0 => absurd h0 hne⟩

/-- An admitted dump is one entry more in the tally. -/
theorem State.dumpSubmitted_entry {a : Admission} (ha : s.dumpAdmission l b = a) (h0 : a.code = 0) :
    (((s.dumpSubmitted l b).dumpAnswered l b a).tal l).entries.length = (s.tal l).entries.length + 1 := by
  have hanswered : ((s.dumpSubmitted l b).dumpAnswered l b a).tal l = (s.dumpSubmitted l b).tal l :=
    (State.tal_wr ..).trans (State.tal_wr ..)
  obtain ⟨e, -, -, hentries⟩ := State.submit_appends (who := .trc) (ha.trans (Admission.eq_admitted h0))
  rw [hanswered, State.dumpSubmitted, hentries, List.length_append, List.length_singleton]

theorem dump_refused_outside_done (hs : s.regsOk = true) (hp : s.past l 11 = true) (hd : (s.trc l b).phase ≠ trcDone) :
    leads (.trcDump l b) s fun t =>
      t.rd (laneDie l) R.TRC_Bb_DUMP.CODE b = 3 ∧ t.rd (laneDie l) R.TRC_Bb_DUMP.ADMITTED b = 0 := by
  let x1 := s.wr (laneDie l) R.TRC_Bb_DUMP.CODE 3 b
  have hexec : exec (.trcDump l b) s = .next (x1.clr (laneDie l) R.TRC_Bb_DUMP.ADMITTED b) :=
    congrArg Host.Outcome.next ((if_pos hp).trans (if_neg hd))
  exact leads_of_exec hexec
    ⟨((Spares.refl (fs := [R.TRC_Bb_DUMP.CODE]) x1).wr _ _ _ _ _ (by decide)).rd_wr hs (by decide),
      State.rd_wr_same _ _ _ _ _ _ (State.wr_regsOk _ _ _ _ _ _ hs)⟩

/-! ## Aborting (R193) -/

theorem abort_idles (hp : s.past l 11 = true) (hd : (s.trc l b).phase ≠ trcDumping) :
    leads (.trcAbort l b) s fun t => (t.trc l b).phase = trcIdle := by
  have hexec : exec (.trcAbort l b) s = .next (s.modTrc l b fun y => { y with phase := trcIdle }) :=
    congrArg Host.Outcome.next (if_pos (by rw [hp, bne_iff_ne.2 hd]; rfl))
  exact leads_of_exec hexec (congrArg TrcBuf.phase (State.trc_modTrc_same ..))

/-! ## Triggers (R192, R193) -/

/-- What a trigger that a buffer takes shows. -/
structure TriggerTaken (s : State) (l : Lane) (b : Fin 8) (t : State) : Prop where
  phase : (t.trc l b).phase = trcPost
  post : (t.trc l b).post = 0
  short : t.rd (laneDie l) R.TRC_Bb_INFO.PRE_SHORT b = b2n ((s.trc l b).phase = trcFill)
  stamp : t.rd (laneDie l) R.TRC_Bb_STAMP_LO.TIME b = low 32 (s.laneTime l)

/-- The fields that a trigger stamps, as far as a buffer's trigger is read back. -/
def stampFlds : List Fld := [R.TRC_Bb_INFO.PRE_SHORT, R.TRC_Bb_STAMP_LO.TIME]

/-- From `s` to `t` neither a buffer nor what its trigger stamped changed. -/
structure BufferStands (l : Lane) (b : Fin 8) (s t : State) : Prop where
  ok : s.regsOk = true → t.regsOk = true
  trc : t.trc l b = s.trc l b
  rd : s.regsOk = true → ∀ f ∈ stampFlds, t.rd (laneDie l) f b = s.rd (laneDie l) f b

theorem BufferStands.refl (s : State) : BufferStands l b s s := ⟨id, rfl, fun _ _ _ => rfl⟩

theorem BufferStands.trans (h : BufferStands l b s t) (g : BufferStands l b t u) : BufferStands l b s u :=
  ⟨fun x => g.ok (h.ok x), g.trc.trans h.trc, fun x f hf => (g.rd (h.ok x) f hf).trans (h.rd x f hf)⟩

theorem BufferStands.of_spares (h : BufferStands l b s t) (g : Spares stampFlds t u) (htrc : u.trc l b = t.trc l b) :
    BufferStands l b s u := h.trans ⟨g.ok, htrc, fun ht f hf => g.rd ht _ f _ _ hf⟩

/-- A write for another buffer. -/
theorem BufferStands.wr_other (h : BufferStands l b s t) {k : Fin 8} (hk : k ≠ b) (f : Fld) (v : Nat) :
    BufferStands l b s (t.wr (laneDie l) f v k) :=
  h.trans ⟨State.wr_regsOk _ _ _ _ _ _, State.trc_wr .., fun ht _ _ => State.rd_wr_inst _ _ _ _ _ _ _ _ _ _ ht (by
    have := Fin.val_ne_of_ne hk
    omega)⟩

/-- A trigger of one buffer leaves the others as they were. -/
theorem State.trcFire_stands (s : State) {k : Fin 8} (hk : k ≠ b) : BufferStands l b s (s.trcFire l k) := by
  unfold State.trcFire
  dsimp only
  split
  · have hpost : BufferStands l b s (s.modTrc l k fun y => { y with phase := trcPost, post := 0 }) :=
      (BufferStands.refl s).of_spares ((Spares.refl s).modTrc _ (by decide)) (State.trc_modTrc_other _ _ _ _ hk.symm)
    exact ((hpost.wr_other hk ..).wr_other hk ..).wr_other hk ..
  · exact BufferStands.refl s

theorem TriggerTaken.stands (h : TriggerTaken s l b t) (ht : t.regsOk = true) (hu : BufferStands l b t u) :
    TriggerTaken s l b u :=
  ⟨hu.trc ▸ h.phase, hu.trc ▸ h.post, (hu.rd ht _ (by decide)).trans h.short, (hu.rd ht _ (by decide)).trans h.stamp⟩

/-- The buffer waits for its trigger. -/
def State.trcWaits (s : State) (l : Lane) (b : Fin 8) : Prop := (s.trc l b).phase = trcFill ∨ (s.trc l b).phase = trcReady

theorem State.trcFire_taken (hs : s.regsOk = true) (hw : s.trcWaits l b) :
    (s.trcFire l b).regsOk = true ∧ TriggerTaken s l b (s.trcFire l b) := by
  let x1 := s.modTrc l b fun y => { y with phase := trcPost, post := 0 }
  let x2 := x1.put (laneDie l) R.TRC_Bb_INFO.PRE_SHORT ((s.trc l b).phase = trcFill) b
  let x3 := x2.wr (laneDie l) R.TRC_Bb_STAMP_LO.TIME (low 32 (s.laneTime l)) b
  let x4 := x3.wr (laneDie l) R.TRC_Bb_STAMP_HI.TIME (s.laneTime l / 2 ^ 32) b
  have heq : s.trcFire l b = x4 := if_pos hw
  have h1 : x1.regsOk = true := ((Spares.refl (fs := []) s).modTrc _ (by decide)).ok hs
  have h2 : x2.regsOk = true := State.wr_regsOk _ _ _ _ _ _ h1
  have htrc : x4.trc l b = { s.trc l b with phase := trcPost, post := 0 } :=
    ((State.trc_wr ..).trans ((State.trc_wr ..).trans (State.trc_wr ..))).trans (State.trc_modTrc_same ..)
  have hshort : Spares [R.TRC_Bb_INFO.PRE_SHORT] x2 x4 :=
    ((Spares.refl x2).wr _ _ _ _ _ (by decide)).wr _ _ _ _ _ (by decide)
  have hstamp : Spares [R.TRC_Bb_STAMP_LO.TIME] x3 x4 := (Spares.refl x3).wr _ _ _ _ _ (by decide)
  rw [heq]
  exact ⟨hshort.ok h2, congrArg TrcBuf.phase htrc, congrArg TrcBuf.post htrc, hshort.rd_put h1 (by decide) (by decide),
    (hstamp.rd_wr h2 (by decide)).trans (low_low ..)⟩

/-- The buffers that buffer 0 triggers with it do not touch it. -/
theorem State.trcTrigger_taken (hs : s.regsOk = true) (hw : s.trcWaits l b) : TriggerTaken s l b (s.trcTrigger l b) := by
  obtain ⟨hok, htaken⟩ := State.trcFire_taken hs hw
  unfold State.trcTrigger
  dsimp only
  split
  · next h =>
    obtain rfl : b = 0 := Fin.ext h.1
    have hlinked : ∀ k ∈ (List.finRange 8).drop 1, k ≠ 0 := by decide
    refine htaken.stands hok (State.each_related BufferStands.refl BufferStands.trans (fun x k hk => ?_) _)
    unfold State.when
    split
    · exact State.trcFire_stands x (hlinked k hk)
    · exact BufferStands.refl x
  · exact htaken

theorem software_trigger_taken (hs : s.regsOk = true) (hp : s.past l 11 = true) (hl : s.trcLinked l b = false)
    (hw : s.trcWaits l b) : leads (.trcTrigger l b) s fun t => TriggerTaken s l b t := by
  have hexec : exec (.trcTrigger l b) s = .next (s.trcTrigger l b) :=
    congrArg Host.Outcome.next (if_pos (by rw [hp, hl]; rfl))
  exact leads_of_exec hexec (State.trcTrigger_taken hs hw)

/-- The trigger on its way reaches the buffer. -/
theorem sent_trigger_taken (hs : s.regsOk = true) (hp : s.past l 11 = true) (hsent : (s.trc l b).sent = true)
    (hw : s.trcWaits l b) : leads (.traceTriggerEvent l b) s fun t => TriggerTaken s l b t := by
  let u := s.modTrc l b fun x => { x with sent := false }
  have hexec : exec (.traceTriggerEvent l b) s = .next (u.trcTrigger l b) :=
    congrArg Host.Outcome.next (if_pos (by rw [hp, hsent]; rfl))
  have hphase : (u.trc l b).phase = (s.trc l b).phase := by rw [State.trc_modTrc_same]
  have hu : u.trcWaits l b := by unfold State.trcWaits; rwa [hphase]
  obtain ⟨h1, h2, h3, h4⟩ := State.trcTrigger_taken (((Spares.refl (fs := []) s).modTrc _ (by decide)).ok hs) hu
  exact leads_of_exec hexec ⟨h1, h2, by rw [h3, hphase], by rw [h4, State.laneTime_modTrc]⟩

/-! ## The end of a recording (R193) -/

theorem last_record_ends (hs : s.regsOk = true) (hd : (s.trc l b).phase = trcPost)
    (hr : s.trcCap l b - s.trcPre l b ≤ (s.trc l b).post) (ha : s.rdBit (laneDie l) R.TRC_CTRL.AUTO_DUMP b = false) :
    leads (.tracePostDone l b) s fun t => (t.trc l b).phase = trcDone ∧ (t.trc l b).kept = (s.trc l b).kept := by
  let u := (s.modTrc l b fun y => { y with phase := trcDone }).irq l R.TRC_CTRL.IRQ_EN
  have hspared : Spares [R.TRC_CTRL.AUTO_DUMP] s u := ((Spares.refl s).modTrc _ (by decide)).irq ..
  have hauto : u.rdBit (laneDie l) R.TRC_CTRL.AUTO_DUMP b = false := by
    rw [State.rdBit_def, hspared.rd hs _ _ _ _ (by decide), ← State.rdBit_def, ha]
  have hexec : exec (.tracePostDone l b) s = .next u :=
    congrArg Host.Outcome.next ((if_pos ⟨hd, hr⟩).trans (if_neg (by rw [hauto]; decide)))
  have htrc : u.trc l b = { s.trc l b with phase := trcDone } := (State.trc_irq ..).trans (State.trc_modTrc_same ..)
  exact leads_of_exec hexec ⟨by rw [htrc], by rw [htrc]⟩

end

/-- Settles O16: each command in the stages of its meaning; the trigger of buffer 0 reaches the linked buffers after it and
leaves what it stamped on its own. -/
theorem traceBuffersArmTriggerAndDump : Obligations.TraceBuffersArmTriggerAndDump := by
  unfold Obligations.TraceBuffersArmTriggerAndDump
  refine ⟨fun s l b hs hp => ?_, fun s l b hs hp hd => ?_,
    fun s l b hs hp hd => dump_refused_outside_done (canonical_regs hs) hp hd, fun s l b _ hp hd => abort_idles hp hd,
    fun s l b hs hp hl hw => ?_,
    fun s l b hs hd hr ha => last_record_ends (canonical_regs hs) hd hr ha⟩
  · by_cases hd : (s.trc l b).phase = trcDumping
    · simpa only [if_pos hd] using dumping_refuses_arming (canonical_regs hs) hp hd
    · simpa only [if_neg hd] using arming_empties (canonical_regs hs) hp hd
  · obtain ⟨t, hexec, hcode, hadmitted, hbegun⟩ := done_buffer_submits_dump (canonical_regs hs) hp hd
    refine ⟨t, hexec, hcode, hadmitted, fun h0 => ?_⟩
    obtain ⟨hid, hphase, hnone, htally⟩ := hbegun h0
    exact ⟨hid, hphase, hnone, by rw [htally]; exact State.dumpSubmitted_entry rfl h0⟩
  · have hfired : ∀ {c : Instr}, leads c s (TriggerTaken s l b) → leads c s fun t =>
        (t.trc l b).phase = trcPost ∧ (t.trc l b).post = 0 ∧
        t.rd (laneDie l) R.TRC_Bb_INFO.PRE_SHORT b = b2n ((s.trc l b).phase = trcFill) ∧
        t.rd (laneDie l) R.TRC_Bb_STAMP_LO.TIME b = low 32 (s.laneTime l) :=
      fun ⟨t, hexec, ⟨h1, h2, h3, h4⟩⟩ => ⟨t, hexec, h1, h2, h3, h4⟩
    exact ⟨hfired (software_trigger_taken (canonical_regs hs) hp hl hw),
      fun hsent => hfired (sent_trigger_taken (canonical_regs hs) hp hsent hw)⟩

end Sys2Proof.Machine
end

section
/-!
PROOFS. The slots of the control engine (R173 to R190).
-/
namespace Sys2Proof.Machine

/-- The pipeline takes a ready slot that no slot of a lower number precedes (R176). -/
theorem exec_arithExecute {s : State} {l : Lane} {i : Fin 24} {st : Nat} (hp : s.past l 11 = true)
    (hready : (s.arith l i).ready = some st) (hfirst : ∀ j : Fin 24, j < i → (s.arith l j).ready = none)
    (hop : s.rd (laneDie l) R.CE_Ai_CFG.OP i ≠ 0) : exec (.arithExecute l i) s = .next (s.arithExecute l i st) := by
  have hnone : ((List.finRange 24).any fun j => decide (j < i) && (s.arith l j).ready.isSome) = false := by
    simpa using hfirst
  show execArithExecute l i s = _
  unfold execArithExecute
  rw [if_pos hp, hready]
  dsimp only
  rw [hnone, if_neg Bool.false_ne_true, if_neg hop]

/-- Slot 0 of lane A subtracts one zero source from another, and the engine lists its own source, code 1, twice. The canonical
form of a state does not speak of the list of source values. -/
def sourceListedTwice : State :=
  (State.reset.modRun .a fun r =>
    { r with
      phase := .running
      ce := { r.ce with src := [(1, 7), (1, 9)], ariths := upd r.ce.ariths 0 fun a => { a with ready := some 0 } } }).wr .la
    R.CE_Ai_CFG.OP 7

/-- The result of slot 0 drops the first of the two entries of its source, and the second is what the source then reads. -/
theorem sourceListedTwice_reads : (sourceListedTwice.arithExecute .a 0 0).srcVal .a 1 = 9 := by decide +kernel

/-- Refutes O17: its clause on an execution reads the result back from the engine's list of source values, and does not ask
that this list be in canonical form. Slot 0 gives 0 by R186, and its source reads 9. -/
theorem not_bandAndArithmeticSlotsExecute : ¬ Obligations.BandAndArithmeticSlotsExecute := by
  unfold Obligations.BandAndArithmeticSlotsExecute
  rintro ⟨-, -, -, -, -, -, hexecute, -⟩
  obtain ⟨-, -, -, -, hsource⟩ := of_leads
    (exec_arithExecute (s := sourceListedTwice) (l := .a) (i := 0) (st := 0) (by decide) (by decide) (by decide) (by decide))
    (hexecute sourceListedTwice .a 0 0 (by decide) (by decide) (by decide) (by decide) (.inr (by decide)) (by decide)
      (by decide) (by decide))
  rw [show ((0 : Fin 24).val + 1) = 1 from rfl, sourceListedTwice_reads] at hsource
  exact absurd hsource (by decide)

end Sys2Proof.Machine
end

section
/-!
PROOFS. The PWM of a lane (R198 to R220): a channel that is disabled (R202), and a channel that is taken over (R219).
-/
namespace Sys2Proof.Machine

/-! ## A channel enabled or disabled (R202) -/

/-- An alive lane's channel that stands the other way is enabled or disabled. -/
theorem exec_pwmChannelEnable {s : State} {l : Lane} {c : Fin 64} {en : Bool} (hl : s.alive l = true)
    (he : s.on (laneDie l) R.PWM_CHc_CFG.EN c = !en) : exec (.pwmChannelEnable l c en) s = .next (s.enableCh l c en) := by
  have hdiffers : (s.on (laneDie l) R.PWM_CHc_CFG.EN c != en) = true := by simp [he]
  exact congrArg Host.Outcome.next (if_pos (Bool.and_eq_true_iff.2 ⟨hl, hdiffers⟩))

/-- Lane A runs. Its leg 0 names Hoist link 0 as both its links, so that the enabled single channel 0, which drives that link
from a shared timebase, is its own partner (R201, R209); its turn-on waits. -/
def ownPartner : State :=
  (((((State.reset.modRun .a fun r => { r with phase := .running }).set .la R.HLK_LEGm_CFG.EN).wr .la R.PWM_SHARED.TB 1).wr .la
    R.PWM_CHc_DST.DST_H 1).set .la R.PWM_CHc_CFG.EN).modCh .a 0 fun k => { k with waits := true }

/-- Channel 0 goes off when it is disabled, and as its own partner that is off now it frees its own turn-on that waits
(`freePartner`): `DST_H` ends commanded on, with a dead time of 0 at instant 0. -/
theorem ownPartner_disabled_hi : ((ownPartner.enableCh .a 0 false).ch .a 0).hi = some 0 := by decide +kernel

/-- Refutes O23: its clause on a disabled channel does not ask that the channel has another partner than itself. Channel 0 of
lane A drives a leg whose two links are one; disabled while its turn-on waits, it leaves `DST_H` commanded on. -/
theorem not_timebasesTransferAndTripsForce : ¬ Obligations.TimebasesTransferAndTripsForce := by
  unfold Obligations.TimebasesTransferAndTripsForce
  rintro ⟨-, -, -, henable, -⟩
  have halive : ownPartner.alive .a = true := by decide
  have hen : ownPartner.on (laneDie .a) R.PWM_CHc_CFG.EN (0 : Fin 64) = !false := by decide
  obtain ⟨-, -, -, -, -, hoff⟩ :=
    of_leads (exec_pwmChannelEnable halive hen) (henable ownPartner .a 0 false (by decide) halive hen)
  obtain ⟨hhi, -⟩ := hoff rfl
  exact absurd (ownPartner_disabled_hi.symm.trans hhi) (by decide)

/-! ## A channel taken over (R219) -/

/-- A channel that awaits its take-over, with a quiet held output that agrees in level, is taken over. -/
theorem exec_pwmTakeover {s : State} {l : Lane} {c : Fin 64} (hq : s.heldQuiet l c = true) (ha : s.awaitsTake l c = true)
    (hsame : ∀ m ∈ s.mux.chs[c], m.level = (s.ch l c).level) :
    exec (.pwmTakeover l c) s = .next ((s.takeCh l c).takeDone l) := by
  show execPwmTakeover l c s = _
  unfold execPwmTakeover
  cases hm : s.mux.chs[c] with
  | none => simp [hq, ha]
  | some m => simp [hq, ha, hsame m hm]

/-- Lane A runs and holds the grant. Its channel 0, on the aligned shared timebase 0, is at level 1, has issued no edge and awaits
its take-over; the multiplexer holds no channel. -/
def unheldHigh : State :=
  ((((((State.reset.modDep fun d => { d with phase := .on }).modRun .a fun r => { r with phase := .running }).wr .ds
    R.DSP_GRANT.STATE (grantCode .a)).wr .la R.PWM_SHARED.TB 1).wr .la R.PWM_GRANT.ALIGNED 1).set .la
    R.PWM_CHc_CFG.EN).modCh .a 0 fun k => { k with level := true }

/-- An output that the multiplexer does not hold is off, so that the take-over of a channel at level 1 is an edge (`takeCh`): it
comes at instant 0. -/
theorem unheldHigh_taken_lastEdge : (((unheldHigh.takeCh .a 0).takeDone .a).ch .a 0).lastEdge = some 0 := by decide +kernel

/-- Refutes O24: its clause on a take-over asks for an agreeing level only of a channel that the multiplexer holds. It does not
hold channel 0 of lane A, which is at level 1: the take-over changes the instant of its last edge. -/
theorem not_channelsIssueEdgesAndAreTakenOver : ¬ Obligations.ChannelsIssueEdgesAndAreTakenOver := by
  unfold Obligations.ChannelsIssueEdgesAndAreTakenOver
  rintro ⟨-, -, -, htake, -⟩
  have hquiet : unheldHigh.heldQuiet .a 0 = true := by decide
  have hawaits : unheldHigh.awaitsTake .a 0 = true := by decide
  have hsame : ∀ m ∈ unheldHigh.mux.chs[(0 : Fin 64)], m.level = (unheldHigh.ch .a 0).level := by decide
  obtain ⟨-, -, -, hedge⟩ := of_leads (exec_pwmTakeover hquiet hawaits hsame)
    (htake unheldHigh .a 0 (by decide) hquiet hawaits hsame)
  exact absurd (unheldHigh_taken_lastEdge.symm.trans hedge) (by decide)

end Sys2Proof.Machine
end

section
/-!
PROOFS. What the gate drives leave as they were: a trip and a command for a Hoist link or a pre-driver (R200, R207 to R214, R236 to
R238, R241) write no register of a fault or of a training, touch no lane's phase or clock, and of a link change its drive alone.
-/
namespace Sys2Proof.Machine

/-- A link without its drive: without the levels commanded and driven, their instants and the head. -/
def HoistLink.undriven (k : HoistLink) : HoistLink :=
  { k with lane := false, want := false, wantAt := 0, on := false, withheld := false, edgeAt := 0, head := Head.init }

/-- The fields that show the faults and counts of the Hoist links and of the pre-drivers. -/
def faultFlds : List Fld :=
  [R.HLK_LAST_FAULT.LINK, R.HLK_LAST_FAULT.CAUSE, R.HLK_LAST_FAULT_TIME.TIME, R.HLK_FAULT_CNT.LATCHED,
   R.HLK_LINKnn_CNT.LOST, R.PAP_PD_STATUS.FAULT, R.PAP_HBn_STATUS.SHORT, R.PAP_HBn_STATUS.BST_UV, R.PAP_HBn_STATUS.BST_LOW,
   R.PAP_HBn_STATUS.CLR_REFUSED, R.PAP_HBn_MEAS.BST]

/-- From `s` to `t` gates may have been driven: the fields `fs`, the lanes' phases and clocks, the links without their drives, the
training lock and the time are as they were. -/
structure DrivesOnly (fs : List Fld) (s t : State) : Prop where
  regs : Spares fs s t
  phase : ∀ k, (t.run k).phase = (s.run k).phase
  clk : ∀ k, (t.run k).clk = (s.run k).clk
  link : ∀ n, (t.link n).undriven = (s.link n).undriven
  lock : t.hoist.lock = s.hoist.lock
  now : t.now = s.now

theorem State.link_modLink (s : State) (n m : Fin 40) (f : HoistLink → HoistLink) :
    (s.modLink n f).link m = if m = n then f (s.link n) else s.link m := upd_get ..

theorem State.link_modLink_same (s : State) (n : Fin 40) (f : HoistLink → HoistLink) : (s.modLink n f).link n = f (s.link n) :=
  (upd_get ..).trans (if_pos rfl)

/-- What the links show stands where the Hoist side does. -/
theorem State.link_of_hoist {s t : State} (h : t.hoist = s.hoist) (n : Fin 40) : t.link n = s.link n :=
  congrArg (fun x : HoistSt => x.links[n]) h

section
variable {fs : List Fld} {s t u : State}

theorem DrivesOnly.refl (s : State) : DrivesOnly fs s s := ⟨.refl s, fun _ => rfl, fun _ => rfl, fun _ => rfl, rfl, rfl⟩

theorem DrivesOnly.trans (h : DrivesOnly fs s t) (g : DrivesOnly fs t u) : DrivesOnly fs s u where
  regs := h.regs.trans g.regs
  phase k := (g.phase k).trans (h.phase k)
  clk k := (g.clk k).trans (h.clk k)
  link n := (g.link n).trans (h.link n)
  lock := g.lock.trans h.lock
  now := g.now.trans h.now

theorem DrivesOnly.mono {fs' : List Fld} (h : DrivesOnly fs s t) (hf : fs' ⊆ fs) : DrivesOnly fs' s t :=
  { h with regs := h.regs.mono hf }

theorem DrivesOnly.alive (h : DrivesOnly fs s t) (l : Lane) : t.alive l = s.alive l := by
  unfold State.alive
  rw [h.phase l]

theorem DrivesOnly.laneTime (h : DrivesOnly fs s t) (l : Lane) : t.laneTime l = s.laneTime l := by
  unfold State.laneTime
  rw [h.clk l, h.now]

/-! ## The updates of the state -/

theorem DrivesOnly.wr (h : DrivesOnly fs s t) (d : Die) (g : Fld) (v i j : Nat) (hg : ∀ f ∈ fs, g.apart f = true) :
    DrivesOnly fs s (t.wr d g v i j) :=
  h.trans
    { regs := (Spares.refl t).wr d g v i j hg
      phase := fun k => by rw [State.wr_run]
      clk := fun k => by rw [State.wr_run]
      link := fun _ => rfl, lock := rfl, now := rfl }

/-- A change of what a lane runs, its phase and its clock apart. -/
theorem DrivesOnly.modRun (h : DrivesOnly fs s t) (l : Lane) {f : LaneRun → LaneRun}
    (hf : ∀ r, (f r).phase = r.phase ∧ (f r).clk = r.clk) : DrivesOnly fs s (t.modRun l f) := by
  have hrun : ∀ k, ((t.modRun l f).run k).phase = (t.run k).phase ∧ ((t.modRun l f).run k).clk = (t.run k).clk := fun k => by
    rw [State.run_modRun]
    split
    · next hk => rw [hk]; exact hf _
    · exact ⟨rfl, rfl⟩
  exact h.trans
    { regs := (Spares.refl t).modRun l f
      phase := fun k => (hrun k).1, clk := fun k => (hrun k).2
      link := fun n => congrArg HoistLink.undriven (State.link_of_hoist (State.modRun_hoist ..) n)
      lock := congrArg HoistSt.lock (State.modRun_hoist ..), now := State.modRun_now .. }

theorem DrivesOnly.modPwm (h : DrivesOnly fs s t) (l : Lane) (f : PwmSt → PwmSt) : DrivesOnly fs s (t.modPwm l f) :=
  h.modRun l fun _ => ⟨rfl, rfl⟩

theorem DrivesOnly.modCh (h : DrivesOnly fs s t) (l : Lane) (c : Fin 64) (f : PwmCh → PwmCh) : DrivesOnly fs s (t.modCh l c f) :=
  h.modPwm ..

theorem DrivesOnly.modCe (h : DrivesOnly fs s t) (l : Lane) (f : CeSt → CeSt) : DrivesOnly fs s (t.modCe l f) :=
  h.modRun l fun _ => ⟨rfl, rfl⟩

theorem DrivesOnly.modAdc (h : DrivesOnly fs s t) (l : Lane) (f : AdcSt → AdcSt) : DrivesOnly fs s (t.modAdc l f) :=
  h.modRun l fun _ => ⟨rfl, rfl⟩

theorem DrivesOnly.modTal (h : DrivesOnly fs s t) (l : Lane) (f : Tally → Tally) : DrivesOnly fs s (t.modTal l f) :=
  h.modRun l fun _ => ⟨rfl, rfl⟩

theorem DrivesOnly.modHb (h : DrivesOnly fs s t) (l : Lane) (n : Fin 16) (f : HalfBridge → HalfBridge) :
    DrivesOnly fs s (t.modHb l n f) := by
  cases l <;> exact h.trans ⟨(Spares.refl t).of_regs rfl, fun k => by cases k <;> rfl, fun k => by cases k <;> rfl,
    fun _ => rfl, rfl, rfl⟩

/-- A change of a link's drive. -/
theorem DrivesOnly.modLink (h : DrivesOnly fs s t) (n : Fin 40) {f : HoistLink → HoistLink}
    (hf : ∀ k, (f k).undriven = k.undriven) : DrivesOnly fs s (t.modLink n f) :=
  h.trans
    { regs := (Spares.refl t).of_regs rfl
      phase := fun k => by cases k <;> rfl
      clk := fun k => by cases k <;> rfl
      link := fun m => by
        rw [State.link_modLink]
        split
        · next hm => rw [hm, hf]
        · rfl
      lock := rfl, now := rfl }

theorem DrivesOnly.ite {c : Prop} [Decidable c] (h : DrivesOnly fs s t) (g : DrivesOnly fs s u) :
    DrivesOnly fs s (if c then t else u) := by
  split
  · exact h
  · exact g

theorem DrivesOnly.when (h : DrivesOnly fs s t) (c : Bool) {f : State → State} (hf : ∀ x, DrivesOnly fs x (f x)) :
    DrivesOnly fs s (t.when c f) := h.trans (.ite (hf t) (.refl t))

theorem DrivesOnly.each {α : Type} (h : DrivesOnly fs s t) (l : List α) {f : State → α → State}
    (hf : ∀ x y, DrivesOnly fs x (f x y)) : DrivesOnly fs s (t.each l f) :=
  h.trans (State.each_related DrivesOnly.refl DrivesOnly.trans (fun x y _ => hf x y) t)

theorem DrivesOnly.irqOf (h : DrivesOnly fs s t) (l : Lane) (d : Die) (en : Fld) (i : Nat) : DrivesOnly fs s (t.irqOf l d en i) :=
  .ite (h.modRun l fun _ => ⟨rfl, rfl⟩) h

theorem DrivesOnly.irq (h : DrivesOnly fs s t) (l : Lane) (en : Fld) (i : Nat) : DrivesOnly fs s (t.irq l en i) := h.irqOf ..

theorem DrivesOnly.event (h : DrivesOnly fs s t) (l : Lane) (e : Event) : DrivesOnly fs s (t.event l e) := by
  have rf := DrivesOnly.refl (fs := fs)
  exact .ite ((((h.each _ fun x _ => (rf x).when _ fun y => (rf y).modAdc l _).each _
    fun x _ => (rf x).when _ fun y => (rf y).modCe l _).each _ fun x _ => (rf x).when _ fun y => (rf y).modPwm l _).each _
    fun x _ => (rf x).when _ fun y => .ite ((rf y).modCe l _) (rf y)) h

theorem DrivesOnly.logIf (h : DrivesOnly faultFlds s t) (l : Lane) (en : Fld) (rule detail i : Nat) :
    DrivesOnly faultFlds s (t.logIf l en rule detail i) := by
  refine h.when _ fun x => .ite ?_ (.refl x)
  unfold State.submit
  dsimp only
  split
  · exact (DrivesOnly.refl x).wr (laneDie l) R.TAL_REFUSE_CNT.LATE _ 0 0 (by decide)
  · exact (DrivesOnly.refl x).wr (laneDie l) R.TAL_REFUSE_CNT.FULL _ 0 0 (by decide)
  · dsimp only
    exact (DrivesOnly.refl x).modTal l _

/-! ## Hoist links -/

theorem HoistLink.follow_undriven (k : HoistLink) : k.follow.undriven = k.undriven := by
  unfold HoistLink.follow
  split <;> rfl

theorem DrivesOnly.setDown (h : DrivesOnly fs s t) (n : Fin 40) (on : Bool) : DrivesOnly fs s (t.setDown n on) :=
  h.modLink n fun _ => (HoistLink.follow_undriven _).trans rfl

theorem DrivesOnly.hoistWant (h : DrivesOnly fs s t) (n : Fin 40) (on : Bool) (x : Int) :
    DrivesOnly fs s (t.hoistWant n on x) := by
  have hon : DrivesOnly fs s (t.modLink n fun k => { k with want := true, wantAt := max x t.steps, withheld := false }) :=
    h.modLink n fun _ => rfl
  refine .ite (.ite h (.ite hon ?_)) (DrivesOnly.setDown (by exact h.modLink n fun _ => rfl) n false)
  split
  · exact hon.setDown n true
  · exact .ite (hon.setDown n true) hon

theorem DrivesOnly.hoistCmd (h : DrivesOnly fs s t) (n : Fin 40) (on : Bool) (x : Int) : DrivesOnly fs s (t.hoistCmd n on x) := by
  have hlane : DrivesOnly fs s (t.modLink n fun k => { k with lane := on }) := h.modLink n fun _ => rfl
  exact .ite (hlane.hoistWant n on x) hlane

theorem DrivesOnly.groupDrive (h : DrivesOnly fs s t) (g : Nat) (asc : Bool) : DrivesOnly fs s (t.groupDrive g asc) :=
  (h.each _ fun x _ => (DrivesOnly.refl x).hoistWant ..).each _ fun x _ => (DrivesOnly.refl x).hoistWant ..

theorem DrivesOnly.groupApply (h : DrivesOnly fs s t) (g : Nat) : DrivesOnly fs s (t.groupApply g) :=
  .ite (h.groupDrive ..) (.ite (h.groupDrive ..) (.ite (h.groupDrive ..)
    (h.each _ fun x _ => .ite ((DrivesOnly.refl x).hoistWant ..) (.refl x))))

/-! ## Pre-drivers -/

theorem DrivesOnly.pdOff (h : DrivesOnly faultFlds s t) (l : Lane) (n : Fin 16) (hi : Bool) :
    DrivesOnly faultFlds s (t.pdOff l n hi) :=
  .ite ((h.modHb l n _).wr _ R.PAP_HBn_STATUS.GH_ON _ _ _ (by decide))
    ((h.modHb l n _).wr _ R.PAP_HBn_STATUS.GL_ON _ _ _ (by decide))

theorem DrivesOnly.pdOn (h : DrivesOnly faultFlds s t) (l : Lane) (n : Fin 16) (hi : Bool) :
    DrivesOnly faultFlds s (t.pdOn l n hi) :=
  .ite ((h.modHb l n _).wr _ R.PAP_HBn_STATUS.GH_ON _ _ _ (by decide))
    ((h.modHb l n _).wr _ R.PAP_HBn_STATUS.GL_ON _ _ _ (by decide))

theorem DrivesOnly.pdCmd (h : DrivesOnly faultFlds s t) (l : Lane) (n : Fin 16) (hi on : Bool) (x : Int) :
    DrivesOnly faultFlds s (t.pdCmd l n hi on x) := by
  refine .ite h (.ite (.ite (.ite h (.ite ((h.modHb ..).pdOn ..) (h.modHb ..))) h) ?_)
  exact (DrivesOnly.ite ((h.modHb ..).pdOff ..) (h.modHb ..)).pdOff ..

/-! ## Channels of the PWM and trips -/

theorem DrivesOnly.driveDst (h : DrivesOnly faultFlds s t) (l : Lane) (c : Fin 64) (code : Nat) (on : Bool) (x : Int) :
    DrivesOnly faultFlds s (t.driveDst l c code on x) := by
  refine .ite (.ite ?_ h) (.ite (h.pdCmd ..) (.ite (h.pdCmd ..) (.ite (h.modPwm ..) h)))
  split
  · exact h.hoistCmd ..
  · exact h

theorem DrivesOnly.driveH (h : DrivesOnly faultFlds s t) (l : Lane) (c : Fin 64) (on : Bool) (x : Int) :
    DrivesOnly faultFlds s (t.driveH l c on x) := (h.modCh ..).driveDst ..

theorem DrivesOnly.driveL (h : DrivesOnly faultFlds s t) (l : Lane) (c : Fin 64) (on : Bool) (x : Int) :
    DrivesOnly faultFlds s (t.driveL l c on x) := .ite ((h.modCh ..).driveDst ..) (h.modCh ..)

theorem DrivesOnly.chOff (h : DrivesOnly faultFlds s t) (l : Lane) (c : Fin 64) : DrivesOnly faultFlds s (t.chOff l c) := by
  have hoff := (h.driveH l c false t.steps).driveL l c false t.steps
  unfold State.chOff State.freePartner
  split
  · exact hoff
  · exact .ite ((hoff.modCh ..).driveH ..) hoff

theorem DrivesOnly.follow (h : DrivesOnly faultFlds s t) (l : Lane) (c : Fin 64) (level : Bool) :
    DrivesOnly faultFlds s (t.follow l c level) := by
  refine .ite (.ite ((h.driveL ..).driveH ..) ((h.driveH ..).driveL ..)) (.ite ?_ ((h.modCh ..).chOff ..))
  split
  · exact h.driveH ..
  · exact .ite (h.modCh ..) (h.driveH ..)

theorem DrivesOnly.setLevel (h : DrivesOnly faultFlds s t) (l : Lane) (c : Fin 64) (level : Bool) (x : Int) :
    DrivesOnly faultFlds s (t.setLevel l c level x) := (h.wr _ R.PWM_CHc_STATUS.LEVEL _ _ _ (by decide)).modCh ..

theorem DrivesOnly.tripMark (h : DrivesOnly faultFlds s t) (l : Lane) (c : Fin 64) : DrivesOnly faultFlds s (t.tripMark l c) := by
  have hmark :
      DrivesOnly faultFlds s ((t.set (laneDie l) R.PWM_CHc_STATUS.TRIPPED c).modCh l c fun k => { k with waits := false }) :=
    (h.wr _ R.PWM_CHc_STATUS.TRIPPED _ _ _ (by decide)).modCh ..
  unfold State.tripMark State.dropEng
  split
  · exact (hmark.modCh ..).modCh ..
  · exact hmark

theorem DrivesOnly.tripAct (h : DrivesOnly faultFlds s t) (l : Lane) (g : Nat) (c : Fin 64) :
    DrivesOnly faultFlds s (t.tripAct l g c) :=
  .ite (h.chOff ..) (.ite ((h.setLevel ..).follow ..) (.ite (h.follow ..) (h.chOff ..)))

theorem DrivesOnly.raiseTg (h : DrivesOnly faultFlds s t) (l : Lane) (g : Nat) (force hold : Bool) :
    DrivesOnly faultFlds s (t.raiseTg l g force hold) := by
  unfold State.raiseTg
  lift_lets -useContext -merge -underBinder
  intro d newly s1 s2 s3 cs s4
  have h1 : DrivesOnly faultFlds s s1 := h.wr _ R.PWM_STATUS.TG_ACTIVE _ _ _ (by decide)
  have h2 : DrivesOnly faultFlds s s2 := .ite (h1.wr _ R.PWM_TG_LATCHED.LATCHED _ _ _ (by decide)) h1
  have h3 : DrivesOnly faultFlds s s3 := .ite (h2.wr _ R.PWM_TG_LATCHED.FORCED _ _ _ (by decide)) h2
  have h4 : DrivesOnly faultFlds s s4 := (h3.each _ fun x c => (DrivesOnly.refl x).tripMark l c).each _ fun x c =>
    (DrivesOnly.refl x).tripAct l g c
  exact .ite (((h4.event ..).when _ fun x => (DrivesOnly.refl x).irq ..).logIf ..) h4

theorem DrivesOnly.reach (h : DrivesOnly faultFlds s t) (l : Lane) (src : Nat) : DrivesOnly faultFlds s (t.reach l src) := by
  refine .ite h (DrivesOnly.each (h.wr _ _ _ _ _ ?_) _ fun x g =>
    (DrivesOnly.refl x).when _ fun y => (DrivesOnly.refl y).raiseTg ..)
  unfold hitFld
  split <;> decide

theorem DrivesOnly.tripSource (h : DrivesOnly faultFlds s t) (l : Lane) (src : Nat) (active : Bool) :
    DrivesOnly faultFlds s (t.tripSource l src active) := by
  have hraw : DrivesOnly faultFlds s (t.wrBit (laneDie l) (srcFld src) (src % 32) active) := h.wr _ _ _ _ _ (by
    unfold srcFld
    split <;> decide)
  have hsettle : ∀ x g, DrivesOnly faultFlds x (State.settleTg x l g) := fun x g =>
    .ite ((DrivesOnly.refl x).wr _ R.PWM_STATUS.TG_ACTIVE _ _ _ (by decide)) (.refl x)
  exact .ite (.ite hraw (.ite (.ite hraw (hraw.reach ..)) (.ite (hraw.each _ hsettle) hraw))) h

end

end Sys2Proof.Machine
end

section
/-!
PROOFS. The pre-drivers (R241 to R244): the gate monitor, the confirmation of a turn-on, the bootstraps and the clear of a latch.
-/
namespace Sys2Proof.Machine

section
variable {s t : State} {l : Lane} {n : Fin 16}

/-! ## What a half-bridge holds through the state's operations -/

theorem State.hb_of_pap (ha : t.papA = s.papA) (hb : t.papB = s.papB) (l : Lane) (n : Fin 16) : t.hb l n = s.hb l n := by
  cases l
  · exact congrArg (fun p : PapSt => p.hbs[n]) ha
  · exact congrArg (fun p : PapSt => p.hbs[n]) hb

theorem State.hb_irqOf (s : State) (k l : Lane) (d : Die) (en : Fld) (i : Nat) (n : Fin 16) :
    (s.irqOf k d en i).hb l n = s.hb l n := by
  unfold State.irqOf
  split
  · exact State.hb_of_pap (State.modRun_papA ..) (State.modRun_papB ..) l n
  · rfl

theorem State.hb_modHb (s : State) (l : Lane) (n : Fin 16) (f : HalfBridge → HalfBridge) :
    (s.modHb l n f).hb l n = f (s.hb l n) := by
  cases l <;> exact (upd_get ..).trans (if_pos rfl)

theorem State.modHb_regs (s : State) (l : Lane) (n : Fin 16) (f : HalfBridge → HalfBridge) : (s.modHb l n f).regs = s.regs := by
  cases l <;> rfl

theorem State.modHb_regsOk (s : State) (l : Lane) (n : Fin 16) (f : HalfBridge → HalfBridge) :
    (s.modHb l n f).regsOk = s.regsOk := congrArg (swf 0 0) (State.modHb_regs ..)

/-- The instant stands where the clock does. -/
theorem State.steps_of_clock (hnow : t.now = s.now) (hfine : t.fine = s.fine) : t.steps = s.steps := by
  unfold State.steps
  rw [hnow, hfine]

theorem State.steps_modHb (s : State) (l : Lane) (n : Fin 16) (f : HalfBridge → HalfBridge) :
    (s.modHb l n f).steps = s.steps := by
  cases l <;> rfl

theorem State.advSteps_regs (s : State) (x : Int) : (s.advSteps x).regs = s.regs := by
  unfold State.advSteps
  split <;> rfl

theorem State.advSteps_hb (s : State) (x : Int) (l : Lane) (n : Fin 16) : (s.advSteps x).hb l n = s.hb l n := by
  unfold State.advSteps
  split <;> cases l <;> rfl

theorem State.irqOf_now (s : State) (l : Lane) (d : Die) (en : Fld) (i : Nat) : (s.irqOf l d en i).now = s.now := by
  unfold State.irqOf
  split
  · exact State.modRun_now ..
  · rfl

theorem Spares.irqOf {fs : List Fld} (h : Spares fs s t) (l : Lane) (d : Die) (en : Fld) (i : Nat) :
    Spares fs s (t.irqOf l d en i) := h.of_regs (State.irqOf_regs ..)

theorem Spares.modHb {fs : List Fld} (h : Spares fs s t) (l : Lane) (n : Fin 16) (f : HalfBridge → HalfBridge) :
    Spares fs s (t.modHb l n f) := h.of_regs (State.modHb_regs ..)

/-- A byte fits the eight bits of a measured voltage. -/
theorem low_byte (v : BitVec 8) : low 8 v.toNat = v.toNat := low_of_lt v.isLt

/-! ## The gate monitor (R241) -/

/-- The field that shows a gate on. -/
def onFld (hi : Bool) : Fld := if hi then R.PAP_HBn_STATUS.GH_ON else R.PAP_HBn_STATUS.GL_ON

/-- The monitor's record of a gate error. -/
def State.gateErrorNoted (s : State) (l : Lane) (n : Fin 16) (hi : Bool) (v : BitVec 8) : State :=
  ((((s.wr (papDie l) (vgFld hi) v.toNat n).set (papDie l) R.PAP_HBn_STATUS.GATE_ERR n).inc (papDie l) R.PAP_HBn_CNT.GATE_ERR
    n).clr (papDie l) (onFld hi) n).irqOf l (papDie l) R.PAP_PD_CTRL.WARN_IRQ_EN

/-- The instant at which `T_WAIT` of a gate's last edge ends. -/
def State.gateWaitEnd (s : State) (l : Lane) (n : Fin 16) : Nat :=
  (s.hb l n).edgeAt.getD s.now + orOne (s.rd (papDie l) R.PAP_HBn_CFG.T_WAIT n)

/-- The gate's measured voltage, its error and its state show, and the error counts. -/
theorem State.gateErrorNoted_reads {hi : Bool} {v : BitVec 8} (hs : s.regsOk = true) :
    (s.gateErrorNoted l n hi v).rd (papDie l) (vgFld hi) n = v.toNat ∧
    (s.gateErrorNoted l n hi v).rd (papDie l) R.PAP_HBn_STATUS.GATE_ERR n = 1 ∧
    rose s (s.gateErrorNoted l n hi v) (papDie l) R.PAP_HBn_CNT.GATE_ERR n ∧
    (s.gateErrorNoted l n hi v).rd (papDie l) (onFld hi) n = 0 := by
  have h1 := State.wr_regsOk s (papDie l) (vgFld hi) v.toNat n 0 hs
  have h2 := State.wr_regsOk _ (papDie l) R.PAP_HBn_STATUS.GATE_ERR 1 n 0 h1
  have hcount : Spares [R.PAP_HBn_CNT.GATE_ERR] s _ := ((Spares.refl s).wr (papDie l) (vgFld hi)
    v.toNat n 0 (by cases hi <;> decide)).wr (papDie l) R.PAP_HBn_STATUS.GATE_ERR 1 n 0 (by decide)
  have hvolt : Spares [vgFld hi] (s.wr (papDie l) (vgFld hi) v.toNat n) (s.gateErrorNoted l n hi v) :=
    (((Spares.refl _).wr _ _ _ _ _ (by cases hi <;> decide)).wr _ _ _ _ _ (by cases hi <;> decide)).wr _ _ _ _ _
      (by cases hi <;> decide) |>.irqOf ..
  have hwidth : (vgFld hi).w = 8 := by cases hi <;> rfl
  have hone : low (onFld hi).w 0 = 0 := Nat.zero_mod _
  refine ⟨?_, ?_, ?_, ?_⟩
  · rw [hvolt.rd_wr hs (by simp), hwidth, low_byte]
  · exact Spares.rd_wr (fs := [R.PAP_HBn_STATUS.GATE_ERR]) (((Spares.refl _).wr _ _ _ _ _ (by decide)).wr _ _ _ _ _
      (by cases hi <;> decide) |>.irqOf ..) h1 (by simp)
  · exact rose_of_eq (Spares.rose_inc (fs := [R.PAP_HBn_CNT.GATE_ERR]) ((Spares.refl _).wr _ _ _ _ _ (by cases hi <;> decide)
      |>.irqOf ..) h2 (by simp)) (hcount.rd hs _ _ _ _ (by simp))
  · exact (Spares.rd_wr (fs := [onFld hi]) ((Spares.refl _).irqOf ..) (State.wr_regsOk _ _ _ _ _ _ h2) (by simp)).trans hone

/-- A gate that has not passed `VON` is measured, marked and counted, and shows off; it stays commanded (R241). -/
theorem gate_error_noted {hi : Bool} {v : BitVec 8} (hs : s.regsOk = true) (hp : (s.pap l).powered = true)
    (hg : (if hi then (s.hb l n).gateHi else (s.hb l n).gateLo) = true)
    (hv : v.toNat < 40 + 5 * s.rd (papDie l) R.PAP_HBn_CFG.VON n) :
    leads (.pdGateError l n hi v) s fun t =>
      t.now = max s.now (s.gateWaitEnd l n) ∧
      t.rd (papDie l) (vgFld hi) n = v.toNat ∧ t.rd (papDie l) R.PAP_HBn_STATUS.GATE_ERR n = 1 ∧
      rose s t (papDie l) R.PAP_HBn_CNT.GATE_ERR n ∧ t.hb l n = s.hb l n ∧ t.rd (papDie l) (onFld hi) n = 0 := by
  have hexec : exec (.pdGateError l n hi v) s = .next ((s.advTo (s.gateWaitEnd l n)).gateErrorNoted l n hi v) :=
    congrArg Host.Outcome.next (if_pos (by simp [hp, hg, State.pdVon, hv]))
  obtain ⟨hvolt, herr, hrose, hoff⟩ := State.gateErrorNoted_reads (l := l) (n := n) (hi := hi) (v := v)
    ((State.regsOk_advTo s (s.gateWaitEnd l n)).trans hs)
  refine leads_of_exec hexec ⟨State.irqOf_now .., hvolt, herr, rose_of_eq hrose (State.rd_advTo ..), ?_, hoff⟩
  exact (State.hb_irqOf ..).trans (by cases l <;> rfl)

/-! ## Turn-ons withheld and released (R241, R243, R207) -/

/-- The instant of a turn-on that waits. -/
def HalfBridge.turnOnAt (h : HalfBridge) (hi : Bool) : Int := if hi then h.hiAt else h.loAt

/-- The instant at which a turn-on that waits is withheld. -/
def State.turnOnLimit (s : State) (l : Lane) (n : Fin 16) (hi : Bool) : Int :=
  (s.hb l n).turnOnAt hi + 1024 * (orOne (s.rd (papDie l) R.PAP_HBn_CFG.T_WAIT n) : Int)

/-- A half-bridge with a turn-on withheld. -/
def HalfBridge.withheld (h : HalfBridge) (hi : Bool) : HalfBridge :=
  if hi then { h with withHi := true } else { h with withLo := true }

/-- A turn-on that waits beyond `T_WAIT` is withheld and counted; the gates stand (R241). -/
theorem turn_on_withheld {hi : Bool} (hs : s.regsOk = true) (hp : (s.pap l).powered = true) (hr : (s.hb l n).refresh = 0)
    (hw : (s.hb l n).waits hi = true) :
    leads (.pdTurnOnWithhold l n hi) s fun t =>
      t.hb l n = (s.hb l n).withheld hi ∧ rose s t (papDie l) R.PAP_HBn_CNT.WITHHELD n ∧
      t.steps = max s.steps (s.turnOnLimit l n hi) := by
  let x := (s.advSteps (s.turnOnLimit l n hi)).modHb l n fun h => h.withheld hi
  let y := x.inc (papDie l) R.PAP_HBn_CNT.WITHHELD n
  have hexec : exec (.pdTurnOnWithhold l n hi) s = .next (y.reportWithheld l (pdCode n hi)) :=
    congrArg Host.Outcome.next ((if_pos hp).trans ((if_neg (by simp [hr])).trans (if_pos hw)))
  have hregs : x.regs = s.regs := (State.modHb_regs ..).trans (State.advSteps_regs ..)
  have hx : x.regsOk = true := (congrArg (swf 0 0) hregs).trans hs
  have hreport : Within 128 y (y.reportWithheld l (pdCode n hi)) := State.reportWithheld_within y l _ (by decide) (.refl _)
  obtain ⟨hpa, hpb⟩ := hreport.pap (by decide)
  obtain ⟨hnow, hfine⟩ := hreport.now (by decide)
  refine leads_of_exec hexec ⟨?_, ?_, ?_⟩
  · have hy : y.hb l n = x.hb l n := by cases l <;> rfl
    rw [State.hb_of_pap hpa hpb, hy, State.hb_modHb, State.advSteps_hb]
  · refine rose_of_eq (Spares.rose_inc (fs := [R.PAP_HBn_CNT.WITHHELD]) (hreport.spares (by decide)) hx (by simp)) ?_
    unfold State.rd
    rw [hregs]
  · have hy : y.steps = x.steps := rfl
    rw [State.steps_of_clock hnow hfine, hy, State.steps_modHb, State.advSteps_steps]

/-- A turn-on that waits is released once the other gate is confirmed off and its own dead time has passed (R241, R207). -/
theorem turn_on_released {hi : Bool} {v : BitVec 8} {held : Nat} (hs : s.regsOk = true) (ho : s.pdOpen l = true)
    (hv : 2 * v.toNat ≤ 10 + 5 * s.rd (papDie l) R.PAP_HBn_CFG.VOFF n) (hh : s.rd (papDie l) R.PAP_HBn_CFG.T_CONF n ≤ held)
    (ht : s.steps ≤ s.turnOnLimit l n hi) (hr : (s.hb l n).refresh = 0) (hw : (s.hb l n).waits hi = true)
    (hg : (if hi then (s.hb l n).gateLo else (s.hb l n).gateHi) = false) :
    leads (.pdTurnOnRelease l n hi v held) s fun t =>
      t.steps = max s.steps ((s.hb l n).turnOnAt hi) ∧
      (if hi then (t.hb l n).gateHi else (t.hb l n).gateLo) = true ∧ t.rd (papDie l) (onFld hi) n = 1 := by
  let y := s.wr (papDie l) (vgFld !hi) v.toNat n
  let x := (y.modHb l n fun h => if hi then { h with offLo := true } else { h with offHi := true }).advSteps
    ((s.hb l n).turnOnAt hi)
  have hy : y.hb l n = s.hb l n := by cases l <;> rfl
  have hwait : y.rd (papDie l) R.PAP_HBn_CFG.T_WAIT n = s.rd (papDie l) R.PAP_HBn_CFG.T_WAIT n :=
    State.rd_wr_apart _ _ _ _ _ _ _ _ _ _ hs (by cases hi <;> decide)
  have hlim : ¬ s.turnOnLimit l n hi < y.steps := not_lt.2 ht
  have hrelease : y.pdRelease l n hi = x.pdOn l n hi := by
    unfold State.pdRelease
    dsimp only
    rw [hy, hwait, if_neg (by simp [hr]), if_neg (by simp [hr]), if_pos ⟨hr, hw⟩, hg, Bool.false_or]
    exact if_neg fun hx => hlim (of_decide_eq_true hx)
  have hexec : exec (.pdTurnOnRelease l n hi v held) s = .next (x.pdOn l n hi) := by
    refine congrArg Host.Outcome.next ((if_pos ho).trans ((if_pos ?_).trans hrelease))
    simp [State.pdBelow, hv, hh]
  have hx : x.regsOk = true := (congrArg (swf 0 0) ((State.advSteps_regs ..).trans (State.modHb_regs ..))).trans
    (State.wr_regsOk s (papDie l) (vgFld !hi) v.toNat n 0 hs)
  have hsteps : x.steps = max s.steps ((s.hb l n).turnOnAt hi) := (State.advSteps_steps ..).trans (by
    rw [State.steps_modHb]
    rfl)
  have hb : ∀ (z : State) f g, ((z.modHb l n f).set (papDie l) g n).hb l n = f (z.hb l n) := fun z f _ =>
    Eq.trans (by cases l <;> rfl) (State.hb_modHb z l n f)
  have hset : ∀ f g, ((x.modHb l n f).set (papDie l) g n).rd (papDie l) g n = low g.w 1 := fun f g =>
    State.rd_wr_same _ _ _ _ _ _ ((State.modHb_regsOk ..).trans hx)
  refine leads_of_exec hexec ?_
  cases hi
  · exact ⟨(State.steps_modHb ..).trans hsteps, congrArg HalfBridge.gateLo (hb ..), hset ..⟩
  · exact ⟨(State.steps_modHb ..).trans hsteps, congrArg HalfBridge.gateHi (hb ..), hset ..⟩

/-! ## The bootstraps (R243) -/

/-- A half-bridge fault leaves the latch and the measured voltage of a bootstrap as they were. -/
theorem State.pdFault_spares (s : State) (l : Lane) (n : Fin 16) :
    Spares [R.PAP_HBn_STATUS.BST_UV, R.PAP_HBn_MEAS.BST] s (s.pdFault l n) :=
  (((Spares.refl s).wr (papDie l) R.PAP_PD_STATUS.FAULT _ 0 0 (by decide)).irqOf ..).trans
    (((DrivesOnly.refl _).tripSource l (48 + n.val) true).regs.mono (by decide))

/-- A half-bridge fault shows in `PAP_PD_STATUS.FAULT`. -/
theorem State.pdFault_shows (s : State) (l : Lane) (n : Fin 16) (hs : s.regsOk = true) :
    (s.pdFault l n).rdBit (papDie l) R.PAP_PD_STATUS.FAULT n = true :=
  Spares.rdBit_wrBit (fs := [R.PAP_PD_STATUS.FAULT]) (((Spares.refl _).irqOf ..).trans
    (((DrivesOnly.refl _).tripSource l (48 + n.val) true).regs.mono (by decide))) hs (by simp) n.isLt

/-- A trip source that names no group drives no gate. -/
theorem State.tripSource_unmasked (s : State) (l : Lane) (src : Nat) (hs : s.regsOk = true)
    (hm : s.rd (laneDie l) R.PWM_TSRCs_CFG.MASK src = 0) :
    Spares [R.PAP_HBn_STATUS.GH_ON] s (s.tripSource l src true) := by
  have hraw : Spares [R.PAP_HBn_STATUS.GH_ON, R.PWM_TSRCs_CFG.MASK] s (s.wrBit (laneDie l) (srcFld src) (src % 32) true) :=
    (Spares.refl s).wr _ _ _ _ _ (by unfold srcFld; split <;> decide)
  have hreach : (s.wrBit (laneDie l) (srcFld src) (src % 32) true).reach l src =
      s.wrBit (laneDie l) (srcFld src) (src % 32) true :=
    if_pos ((hraw.rd hs _ _ _ _ (by simp)).trans hm)
  have hgate := hraw.mono (fs' := [R.PAP_HBn_STATUS.GH_ON]) (by simp)
  unfold State.tripSource
  dsimp only
  rw [hreach, ite_self]
  exact .ite (.ite hgate (.ite hgate (.ite (hgate.each _ fun x g => .ite ((Spares.refl x).wr _ R.PWM_STATUS.TG_ACTIVE _ _ _
    (by decide)) (.refl x)) hgate))) (.refl s)

/-- A half-bridge whose bootstrap has failed: GH is off and `BST_UV` is latched (R243). -/
def State.bootstrapFailed (s : State) (l : Lane) (n : Fin 16) (bst : BitVec 8) : State :=
  (((((s.wr (papDie l) R.PAP_HBn_MEAS.BST bst.toNat n).set (papDie l) R.PAP_HBn_STATUS.BST_LOW n).pdOff l n true).modHb l n
    fun h => { h with refresh := 0, withHi := h.wantHi }).set (papDie l) R.PAP_HBn_STATUS.BST_UV n)

/-- A bootstrap below 7.0 V turns GH off, where no trip group can turn it on again, and latches (R243). -/
theorem undervoltage_latched {bst : BitVec 8} (hs : s.regsOk = true) (hp : (s.pap l).powered = true)
    (hen : s.on (papDie l) R.PAP_HBn_CFG.EN n = true) (hb : bst.toNat < 70) :
    leads (.bstUndervoltage l n bst) s fun t =>
      t.rd (papDie l) R.PAP_HBn_STATUS.BST_UV n = 1 ∧ t.rd (papDie l) R.PAP_HBn_MEAS.BST n = bst.toNat ∧
      (s.rd (laneDie l) R.PWM_TSRCs_CFG.MASK (48 + n) = 0 → t.rd (papDie l) R.PAP_HBn_STATUS.GH_ON n = 0) ∧
      t.rdBit (papDie l) R.PAP_PD_STATUS.FAULT n = true := by
  have hexec : exec (.bstUndervoltage l n bst) s = .next ((s.bootstrapFailed l n bst).pdFault l n) :=
    congrArg Host.Outcome.next (if_pos (by simp [hp, hen, hb]))
  have h1 : ((s.wr (papDie l) R.PAP_HBn_MEAS.BST bst.toNat n).set (papDie l) R.PAP_HBn_STATUS.BST_LOW n).regsOk = true :=
    State.wr_regsOk _ _ _ _ _ _ (State.wr_regsOk _ _ _ _ _ _ hs)
  have hoff := ((DrivesOnly.refl ((s.wr (papDie l) R.PAP_HBn_MEAS.BST bst.toNat n).set (papDie l) R.PAP_HBn_STATUS.BST_LOW
    n)).pdOff l n true).modHb l n fun h => { h with refresh := 0, withHi := h.wantHi }
  have h2 := hoff.regs.ok h1
  have hfailed : (s.bootstrapFailed l n bst).regsOk = true := State.wr_regsOk _ _ _ _ _ _ h2
  refine leads_of_exec hexec ⟨?_, ?_, fun hm => ?_, State.pdFault_shows _ l n hfailed⟩
  · exact (State.pdFault_spares _ l n).rd_wr h2 (by simp)
  · have hmeas : Spares [R.PAP_HBn_MEAS.BST] (s.wr (papDie l) R.PAP_HBn_MEAS.BST bst.toNat n) (s.bootstrapFailed l n bst) :=
      (((Spares.refl _).wr _ R.PAP_HBn_STATUS.BST_LOW _ _ _ (by decide)).trans (hoff.regs.mono (by decide))).wr
        _ _ _ _ _ (by decide)
    exact ((hmeas.trans ((State.pdFault_spares _ l n).mono (by simp))).rd_wr hs (by simp)).trans (low_byte bst)
  · have hmask : Spares [R.PWM_TSRCs_CFG.MASK] s
        (((s.bootstrapFailed l n bst).wrBit (papDie l) R.PAP_PD_STATUS.FAULT n true).irqOf
          l (papDie l) R.PAP_PD_CTRL.FAULT_IRQ_EN) :=
      ((((((Spares.refl s).wr _ R.PAP_HBn_MEAS.BST _ _ _ (by decide)).wr _ R.PAP_HBn_STATUS.BST_LOW _ _ _ (by decide)).modHb ..).wr
        _ R.PAP_HBn_STATUS.GH_ON _ _ _ (by decide)).modHb ..).wr _ R.PAP_HBn_STATUS.BST_UV _ _ _ (by decide) |>.wr _
        R.PAP_PD_STATUS.FAULT _ _ _ (by decide) |>.irqOf ..
    have htail := (((Spares.refl _).modHb l n _).wr (papDie l) R.PAP_HBn_STATUS.BST_UV 1 n 0 (by decide) |>.wr (papDie l)
      R.PAP_PD_STATUS.FAULT _ 0 0 (by decide) |>.irqOf ..).trans
      (State.tripSource_unmasked _ l (48 + n.val) (hmask.ok hs) ((hmask.rd hs _ _ _ _ (by simp)).trans hm))
    exact htail.rd_wr ((State.modHb_regsOk ..).trans h1) (by simp)

/-- The measured voltage of a bootstrap and its low mark. -/
def State.bootstrapSeen (s : State) (l : Lane) (n : Fin 16) (bst : BitVec 8) : State :=
  (s.wr (papDie l) R.PAP_HBn_MEAS.BST bst.toNat n).put (papDie l) R.PAP_HBn_STATUS.BST_LOW (decide (bst.toNat < 80)) n

/-- `BST_LOW` follows the 8.0 V level, and a low bootstrap warns in hold mode (R243). -/
theorem low_bootstrap_shown {bst : BitVec 8} (hs : s.regsOk = true) (hp : (s.pap l).powered = true)
    (hen : s.on (papDie l) R.PAP_HBn_CFG.EN n = true) :
    leads (.bootstrapLow l n bst) s fun t =>
      t.rd (papDie l) R.PAP_HBn_MEAS.BST n = bst.toNat ∧
      t.rd (papDie l) R.PAP_HBn_STATUS.BST_LOW n = b2n (decide (bst.toNat < 80)) ∧
      (bst.toNat < 80 ∧ s.on (papDie l) R.PAP_HBn_CFG.MODE n = false → t.rd (papDie l) R.PAP_HBn_STATUS.BST_WARN n = 1) ∧
      t.hb l n = s.hb l n := by
  let x := s.bootstrapSeen l n bst
  let warns := decide (bst.toNat < 80) && !x.on (papDie l) R.PAP_HBn_CFG.MODE n
  let u := (x.set (papDie l) R.PAP_HBn_STATUS.BST_WARN n).irqOf l (papDie l) R.PAP_PD_CTRL.WARN_IRQ_EN
  have hexec : exec (.bootstrapLow l n bst) s = .next (if warns then u else x) :=
    congrArg Host.Outcome.next (if_pos (by simp [hp, hen]))
  have hmode : x.on (papDie l) R.PAP_HBn_CFG.MODE n = s.on (papDie l) R.PAP_HBn_CFG.MODE n :=
    Spares.on (fs := [R.PAP_HBn_CFG.MODE]) (((Spares.refl s).wr _ _ _ _ _ (by decide)).wr _ _ _ _ _ (by decide)) hs (by simp)
  have h1 := State.wr_regsOk s (papDie l) R.PAP_HBn_MEAS.BST bst.toNat n 0 hs
  have htail : Spares [R.PAP_HBn_MEAS.BST, R.PAP_HBn_STATUS.BST_LOW] x (if warns then u else x) :=
    .ite (((Spares.refl x).wr _ _ _ _ _ (by decide)).irqOf ..) (.refl x)
  refine leads_of_exec hexec ⟨?_, ?_, fun ⟨hlow, hm⟩ => ?_, ?_⟩
  · exact (Spares.rd_wr (fs := [R.PAP_HBn_MEAS.BST]) (((Spares.refl _).wr _ _ _ _ _ (by decide)).trans (htail.mono (by simp)))
      hs (by simp)).trans (low_byte bst)
  · exact (htail.mono (fs' := [R.PAP_HBn_STATUS.BST_LOW]) (by simp)).rd_put h1 (by simp) (by decide)
  · rw [if_pos (by simp [warns, hmode, hm, hlow])]
    exact Spares.rd_wr (fs := [R.PAP_HBn_STATUS.BST_WARN]) ((Spares.refl _).irqOf ..) (State.wr_regsOk _ _ _ _ _ _ h1) (by simp)
  · rw [apply_ite (fun y : State => y.hb l n), State.hb_irqOf]
    cases l <;> exact ite_self _

/-! ## The clear of a latch (R244) -/

/-- The clears of `SHORT` within the last second. -/
def State.recentClears (s : State) (l : Lane) (n : Fin 16) : List Nat := (s.hb l n).clears.filter fun t => s.now < t + sec

/-- `SHORT` of a half-bridge written with 1, or left: the fourth clear within 1 s is refused. -/
def State.shortClear (s : State) (l : Lane) (n : Fin 16) (short : Bool) : State :=
  if short && s.on (papDie l) R.PAP_HBn_STATUS.SHORT n then
    if 3 ≤ (s.recentClears l n).length then s.set (papDie l) R.PAP_HBn_STATUS.CLR_REFUSED n
    else (s.clr (papDie l) R.PAP_HBn_STATUS.SHORT n).modHb l n fun h => { h with clears := s.now :: s.recentClears l n }
  else s

/-- `BST_UV` of a half-bridge written with 1, or left: a clear is refused while the bootstrap is low. -/
def State.uvClear (s : State) (l : Lane) (n : Fin 16) (uv : Bool) : State :=
  if uv && s.on (papDie l) R.PAP_HBn_STATUS.BST_UV n then
    if s.on (papDie l) R.PAP_HBn_STATUS.BST_LOW n then s.set (papDie l) R.PAP_HBn_STATUS.CLR_REFUSED n
    else s.clr (papDie l) R.PAP_HBn_STATUS.BST_UV n
  else s

/-- The fields that a clear shows. -/
def clearFlds : List Fld := [R.PAP_HBn_STATUS.SHORT, R.PAP_HBn_STATUS.BST_UV, R.PAP_HBn_STATUS.CLR_REFUSED]

theorem State.pdCleared_spares (s : State) (l : Lane) (n : Fin 16) : Spares clearFlds s (s.pdCleared l n) :=
  .ite (.refl s) (((Spares.refl s).wr _ R.PAP_PD_STATUS.FAULT _ _ _ (by decide)).trans
    (((DrivesOnly.refl _).tripSource l (48 + n.val) false).regs.mono (by decide)))

/-- What a write to `SHORT` does to a latched short circuit (R244). -/
theorem State.shortClear_reads {short : Bool} (hs : s.regsOk = true) (hl : s.on (papDie l) R.PAP_HBn_STATUS.SHORT n = true) :
    (s.shortClear l n short).rd (papDie l) R.PAP_HBn_STATUS.SHORT n =
      (if short && decide ((s.recentClears l n).length < 3) then 0 else s.rd (papDie l) R.PAP_HBn_STATUS.SHORT n) ∧
    (short = true → 3 ≤ (s.recentClears l n).length →
      (s.shortClear l n short).rd (papDie l) R.PAP_HBn_STATUS.CLR_REFUSED n = 1) ∧
    Spares [R.PAP_HBn_STATUS.BST_UV, R.PAP_HBn_STATUS.BST_LOW] s (s.shortClear l n short) := by
  unfold State.shortClear
  rw [hl, Bool.and_true]
  cases short
  · exact ⟨rfl, fun h => absurd h (by simp), .refl s⟩
  rw [if_pos rfl, Bool.true_and]
  by_cases h3 : 3 ≤ (s.recentClears l n).length
  · rw [if_pos h3, if_neg (by simpa using h3)]
    exact ⟨State.rd_wr_apart _ _ _ _ _ _ _ _ _ _ hs (by decide), fun _ _ => State.rd_wr_same _ _ _ _ _ _ hs,
      (Spares.refl s).wr _ _ _ _ _ (by decide)⟩
  · rw [if_neg h3, if_pos (by simpa using h3)]
    exact ⟨Spares.rd_wr (fs := [R.PAP_HBn_STATUS.SHORT]) ((Spares.refl _).modHb ..) hs (by simp), fun _ h => absurd h h3,
      ((Spares.refl s).wr _ _ _ _ _ (by decide)).modHb ..⟩

/-- What a write to `BST_UV` does to a latched undervoltage (R244). -/
theorem State.uvClear_reads {uv : Bool} (hs : s.regsOk = true) (hl : s.on (papDie l) R.PAP_HBn_STATUS.BST_UV n = true) :
    (s.uvClear l n uv).rd (papDie l) R.PAP_HBn_STATUS.BST_UV n =
      (if uv && !s.on (papDie l) R.PAP_HBn_STATUS.BST_LOW n then 0 else s.rd (papDie l) R.PAP_HBn_STATUS.BST_UV n) ∧
    ((uv = true ∧ s.on (papDie l) R.PAP_HBn_STATUS.BST_LOW n = true) ∨ s.rd (papDie l) R.PAP_HBn_STATUS.CLR_REFUSED n = 1 →
      (s.uvClear l n uv).rd (papDie l) R.PAP_HBn_STATUS.CLR_REFUSED n = 1) ∧
    Spares [R.PAP_HBn_STATUS.SHORT] s (s.uvClear l n uv) := by
  unfold State.uvClear
  rw [hl, Bool.and_true]
  cases uv
  · exact ⟨rfl, fun h => h.elim (fun h => absurd h.1 (by simp)) id, .refl s⟩
  rw [if_pos rfl, Bool.true_and]
  cases hlow : s.on (papDie l) R.PAP_HBn_STATUS.BST_LOW n
  · rw [if_neg Bool.false_ne_true]
    exact ⟨State.rd_wr_same _ _ _ _ _ _ hs,
      fun h => (State.rd_wr_apart _ _ _ _ _ _ _ _ _ _ hs (by decide)).trans (h.elim (fun h => absurd h.2 (by simp)) id),
      (Spares.refl s).wr _ _ _ _ _ (by decide)⟩
  · rw [if_pos rfl]
    exact ⟨State.rd_wr_apart _ _ _ _ _ _ _ _ _ _ hs (by decide), fun _ => State.rd_wr_same _ _ _ _ _ _ hs,
      (Spares.refl s).wr _ _ _ _ _ (by decide)⟩

/-- A clear takes `SHORT` unless three were taken within 1 s, and `BST_UV` unless the bootstrap is low; a refusal shows (R244). -/
theorem latches_cleared {short uv : Bool} (hs : s.regsOk = true) (hp : (s.pap l).powered = true) (hal : s.alive l = true)
    (hshort : s.on (papDie l) R.PAP_HBn_STATUS.SHORT n = true) (huv : s.on (papDie l) R.PAP_HBn_STATUS.BST_UV n = true) :
    leads (.pdFaultClear l n short uv) s fun t =>
      t.rd (papDie l) R.PAP_HBn_STATUS.SHORT n =
        (if short && decide ((s.recentClears l n).length < 3) then 0 else s.rd (papDie l) R.PAP_HBn_STATUS.SHORT n) ∧
      t.rd (papDie l) R.PAP_HBn_STATUS.BST_UV n =
        (if uv && !s.on (papDie l) R.PAP_HBn_STATUS.BST_LOW n then 0 else s.rd (papDie l) R.PAP_HBn_STATUS.BST_UV n) ∧
      (short && decide (3 ≤ (s.recentClears l n).length) || uv && s.on (papDie l) R.PAP_HBn_STATUS.BST_LOW n →
        t.rd (papDie l) R.PAP_HBn_STATUS.CLR_REFUSED n = 1) := by
  have hexec : exec (.pdFaultClear l n short uv) s = .next (((s.shortClear l n short).uvClear l n uv).pdCleared l n) :=
    congrArg Host.Outcome.next (if_pos (by simp [hp, hal]))
  obtain ⟨h1short, h1refused, h1⟩ := State.shortClear_reads (short := short) hs hshort
  have hx : (s.shortClear l n short).regsOk = true := h1.ok hs
  obtain ⟨h2uv, h2refused, h2⟩ := State.uvClear_reads (uv := uv) hx ((h1.on hs (by simp)).trans huv)
  rw [h1.on hs (by simp), h1.rd hs _ _ _ _ (by simp)] at h2uv
  rw [h1.on hs (by simp)] at h2refused
  have h3 := State.pdCleared_spares ((s.shortClear l n short).uvClear l n uv) l n
  have hy := h2.ok hx
  refine leads_of_exec hexec ⟨?_, ?_, fun h => ?_⟩
  · rw [h3.rd hy _ _ _ _ (by simp [clearFlds]), h2.rd hx _ _ _ _ (by simp), h1short]
  · rw [h3.rd hy _ _ _ _ (by simp [clearFlds]), h2uv]
  · rw [h3.rd hy _ _ _ _ (by simp [clearFlds])]
    simp only [Bool.or_eq_true, Bool.and_eq_true, decide_eq_true_eq] at h
    exact h2refused (h.symm.imp_right fun ⟨h, h3⟩ => h1refused h h3)

end

/-! ## The obligation -/

/-- Settles O22: each command of the monitor, of a waiting turn-on, of a bootstrap and of a clear acts as its rule gives. What a
latched undervoltage shows stands through the trip that it raises, as a trip drives gates and no more. -/
theorem preDriversConfirmAndProtect : Obligations.PreDriversConfirmAndProtect := by
  unfold Obligations.PreDriversConfirmAndProtect
  refine ⟨?_, ?_, ?_, ?_, ?_, ?_⟩
  · intro s l n hi v hs hp hg hv
    exact gate_error_noted (canonical_regs hs) hp hg hv
  · intro s l n hi hs hp hr hw
    obtain ⟨t, hexec, hhb, hrose, hsteps⟩ := turn_on_withheld (canonical_regs hs) hp hr hw
    refine leads_of_exec hexec ⟨?_, ?_, ?_, hrose, hsteps⟩ <;> rw [hhb] <;> cases hi <;> rfl
  · intro s l n hi v held hs ho hv hh ht hr hw hg
    exact turn_on_released (canonical_regs hs) ho hv hh ht hr hw hg
  · intro s l n bst hs hp hen hb
    exact undervoltage_latched (canonical_regs hs) hp hen hb
  · intro s l n bst hs hp hen
    exact low_bootstrap_shown (canonical_regs hs) hp hen
  · intro s l n short uv hs hp hal hshort huv
    exact latches_cleared (canonical_regs hs) hp hal hshort huv

end Sys2Proof.Machine
end

section
/-!
PROOFS. Stage faults of the Hoist links (R234): what a latched cause shows to both lanes, and what a `STATUS` and the comparison of
its gate state leave as they were (R231 to R233).
-/
namespace Sys2Proof.Machine

section
variable {s t u : State} {n : Fin 40} {l : Lane} {cause : Nat}

/-! ## What a stage fault shows to a lane -/

/-- The fields in which a lane sees the last stage fault. -/
def lastFaultFlds : List Fld :=
  [R.HLK_LAST_FAULT.LINK, R.HLK_LAST_FAULT.CAUSE, R.HLK_LAST_FAULT_TIME.TIME, R.HLK_FAULT_CNT.LATCHED]

/-- From `s` to `t` a stage fault of link `n` has been shown to lane `l` and counted. -/
structure FaultShown (s : State) (l : Lane) (n : Fin 40) (cause : Nat) (t : State) : Prop where
  link : t.rd (laneDie l) R.HLK_LAST_FAULT.LINK = n
  cause : t.rd (laneDie l) R.HLK_LAST_FAULT.CAUSE = cause
  time : t.rd (laneDie l) R.HLK_LAST_FAULT_TIME.TIME = low 32 (s.laneTime l)
  counted : rose s t (laneDie l) R.HLK_FAULT_CNT.LATCHED

/-- What has been shown stands while the fields stand. -/
theorem FaultShown.of_stands (h : FaultShown s l n cause t)
    (hrd : ∀ f ∈ lastFaultFlds, u.rd (laneDie l) f = t.rd (laneDie l) f) : FaultShown s l n cause u where
  link := (hrd _ (by simp [lastFaultFlds])).trans h.link
  cause := (hrd _ (by simp [lastFaultFlds])).trans h.cause
  time := (hrd _ (by simp [lastFaultFlds])).trans h.time
  counted := (hrd _ (by simp [lastFaultFlds])).trans h.counted

/-- The same from an earlier state with the same count and the same lane time. -/
theorem FaultShown.of_start (h : FaultShown u l n cause t)
    (hcnt : u.rd (laneDie l) R.HLK_FAULT_CNT.LATCHED = s.rd (laneDie l) R.HLK_FAULT_CNT.LATCHED)
    (htime : u.laneTime l = s.laneTime l) : FaultShown s l n cause t :=
  ⟨h.link, h.cause, h.time.trans (by rw [htime]), rose_of_eq h.counted hcnt⟩

/-- The registers of a lane that show a stage fault, written. -/
def State.faultNoted (s : State) (l : Lane) (n : Fin 40) (cause : Nat) : State :=
  (((s.wr (laneDie l) R.HLK_LAST_FAULT.LINK n).wr (laneDie l) R.HLK_LAST_FAULT.CAUSE cause).wr (laneDie l)
    R.HLK_LAST_FAULT_TIME.TIME (low 32 (s.laneTime l))).inc (laneDie l) R.HLK_FAULT_CNT.LATCHED

/-- A lane's part in a stage fault: its registers, its interrupt, its log and the trip source of the group. -/
def State.faultTaken (s : State) (n : Fin 40) (cause g : Nat) (newGroup : Bool) (l : Lane) : State :=
  if s.alive l then
    let s3 := (s.faultNoted l n cause).irq l R.HLK_CTRL.FAULT_IRQ_EN
    (if newGroup then s3.logIf l R.HLK_GRPg_CFG.LOG_EN 234 n g else s3).tripSource l (40 + g) true
  else s

theorem State.faultNoted_drives (s : State) (l : Lane) (n : Fin 40) (cause g : Nat) (newGroup : Bool) :
    DrivesOnly faultFlds (s.faultNoted l n cause)
      ((if newGroup then ((s.faultNoted l n cause).irq l R.HLK_CTRL.FAULT_IRQ_EN).logIf l R.HLK_GRPg_CFG.LOG_EN 234 n g
        else (s.faultNoted l n cause).irq l R.HLK_CTRL.FAULT_IRQ_EN).tripSource l (40 + g) true) := by
  have hirq := (DrivesOnly.refl (fs := faultFlds) (s.faultNoted l n cause)).irq l R.HLK_CTRL.FAULT_IRQ_EN 0
  exact (DrivesOnly.ite (hirq.logIf ..) hirq).tripSource ..

theorem State.faultNoted_shows (hs : s.regsOk = true) (hc : cause < 8) : FaultShown s l n cause (s.faultNoted l n cause) := by
  have h1 := State.wr_regsOk s (laneDie l) R.HLK_LAST_FAULT.LINK n 0 0 hs
  have h2 := State.wr_regsOk _ (laneDie l) R.HLK_LAST_FAULT.CAUSE cause 0 0 h1
  have h3 := State.wr_regsOk _ (laneDie l) R.HLK_LAST_FAULT_TIME.TIME (low 32 (s.laneTime l)) 0 0 h2
  have hcount : Spares [R.HLK_FAULT_CNT.LATCHED] s _ := (((Spares.refl s).wr (laneDie l) R.HLK_LAST_FAULT.LINK n 0 0
    (by decide)).wr (laneDie l) R.HLK_LAST_FAULT.CAUSE cause 0 0 (by decide)).wr (laneDie l) R.HLK_LAST_FAULT_TIME.TIME
    (low 32 (s.laneTime l)) 0 0 (by decide)
  refine ⟨?_, ?_, ?_, rose_of_eq (rose_inc _ _ _ _ h3) (hcount.rd hs _ _ _ _ (by simp))⟩
  · refine (Spares.rd_wr (fs := [R.HLK_LAST_FAULT.LINK]) ((((Spares.refl _).wr _ _ _ _ _ (by decide)).wr _ _ _ _ _
      (by decide)).wr _ _ _ _ _ (by decide)) hs (by simp)).trans (low_of_lt ?_)
    exact Nat.lt_trans n.isLt (by decide)
  · exact (Spares.rd_wr (fs := [R.HLK_LAST_FAULT.CAUSE]) (((Spares.refl _).wr _ _ _ _ _ (by decide)).wr _ _ _ _ _
      (by decide)) h1 (by simp)).trans (low_of_lt hc)
  · exact (Spares.rd_wr (fs := [R.HLK_LAST_FAULT_TIME.TIME]) ((Spares.refl _).wr _ _ _ _ _ (by decide)) h2 (by simp)).trans
      (low_low ..)

theorem State.faultTaken_shows (g : Nat) (newGroup : Bool) (hs : s.regsOk = true) (hl : s.alive l = true) (hc : cause < 8) :
    FaultShown s l n cause (s.faultTaken n cause g newGroup l) := by
  have hnoted := State.faultNoted_shows (l := l) (n := n) hs hc
  have hdrive := s.faultNoted_drives l n cause g newGroup
  unfold State.faultTaken
  rw [if_pos hl]
  refine hnoted.of_stands fun f hf => hdrive.regs.rd ?_ _ _ _ _ ((by decide : lastFaultFlds ⊆ faultFlds) hf)
  exact State.wr_regsOk _ _ _ _ _ _ (State.wr_regsOk _ _ _ _ _ _ (State.wr_regsOk _ _ _ _ _ _ (State.wr_regsOk _ _ _ _ _ _ hs)))

/-- A lane's part in a stage fault writes the registers of the last fault; gates apart it changes nothing else that is tracked. -/
theorem State.faultTaken_drives (s : State) (n : Fin 40) (cause g : Nat) (newGroup : Bool) (l : Lane) :
    DrivesOnly [R.HLK_LINKnn_CNT.LOST] s (s.faultTaken n cause g newGroup l) := by
  have hnoted : DrivesOnly [R.HLK_LINKnn_CNT.LOST] s (s.faultNoted l n cause) :=
    ((((DrivesOnly.refl s).wr _ R.HLK_LAST_FAULT.LINK _ _ _ (by decide)).wr _ R.HLK_LAST_FAULT.CAUSE _ _ _ (by decide)).wr _
      R.HLK_LAST_FAULT_TIME.TIME _ _ _ (by decide)).wr _ R.HLK_FAULT_CNT.LATCHED _ _ _ (by decide)
  exact .ite (hnoted.trans ((s.faultNoted_drives l n cause g newGroup).mono (by decide))) (.refl s)

/-- A lane's part in a stage fault is shown to that lane alone. -/
theorem State.faultTaken_other (n : Fin 40) (cause g : Nat) (newGroup : Bool) (hs : s.regsOk = true) {m : Lane} (hm : m ≠ l) :
    ∀ f ∈ lastFaultFlds, (s.faultTaken n cause g newGroup m).rd (laneDie l) f = s.rd (laneDie l) f := by
  intro f hf
  have hdie : laneDie m ≠ laneDie l := fun h => hm (by cases m <;> cases l <;> first | rfl | exact absurd h (by decide))
  have hbase : ∀ f ∈ lastFaultFlds, f.base < 2 ^ 37 := by decide
  have hwr : ∀ (x : State) (g : Fld) (v : Nat), x.regsOk = true → g ∈ lastFaultFlds →
      (x.wr (laneDie m) g v).rd (laneDie l) f = x.rd (laneDie l) f := fun x g v hx hg =>
    State.rd_wr_die _ _ _ _ _ _ _ _ _ _ hx hdie (hbase g hg) (hbase f hf)
  have h1 := State.wr_regsOk s (laneDie m) R.HLK_LAST_FAULT.LINK n 0 0 hs
  have h2 := State.wr_regsOk _ (laneDie m) R.HLK_LAST_FAULT.CAUSE cause 0 0 h1
  have h3 := State.wr_regsOk _ (laneDie m) R.HLK_LAST_FAULT_TIME.TIME (low 32 (s.laneTime m)) 0 0 h2
  have hnoted : (s.faultNoted m n cause).rd (laneDie l) f = s.rd (laneDie l) f := by
    unfold State.faultNoted
    rw [State.inc_eq, hwr _ _ _ h3 (by simp [lastFaultFlds]), hwr _ _ _ h2 (by simp [lastFaultFlds]),
      hwr _ _ _ h1 (by simp [lastFaultFlds]), hwr _ _ _ hs (by simp [lastFaultFlds])]
  unfold State.faultTaken
  split
  · exact ((s.faultNoted_drives m n cause g newGroup).regs.rd (State.wr_regsOk _ _ _ _ _ _ h3) _ _ _ _
      ((by decide : lastFaultFlds ⊆ faultFlds) hf)).trans hnoted
  · rfl

/-! ## A stage fault (R234) -/

/-- A cause latched for a link. -/
def State.causeLatched (s : State) (n : Fin 40) (cause : Nat) : State :=
  s.modLink n fun k => { k with causes := setBit k.causes (cause - 1) }

/-- A cause of a link that is not monitored, or that is latched, does nothing. -/
theorem State.stageFault_latched (h : (s.link n).cfg.en = false ∨ bit (s.link n).causes (cause - 1) = true) :
    s.stageFault n cause = s := if_pos (by
  rw [Bool.or_eq_true, Bool.not_eq_true']
  exact h)

/-- A new cause is latched, and each lane takes its part. -/
theorem State.stageFault_new (hen : (s.link n).cfg.en = true) (hb : bit (s.link n).causes (cause - 1) = false) :
    s.stageFault n cause = (s.causeLatched n cause).each lanes fun x l =>
      x.faultTaken n cause (s.link n).cfg.group (!s.groupLatched (s.link n).cfg.group) l :=
  if_neg (by simp [hen, hb])

/-- A newly latched cause shows to every lane that executes (R234). -/
theorem State.stageFault_shows (hs : s.regsOk = true) (hl : s.alive l = true) (hc : cause < 8) (hen : (s.link n).cfg.en = true)
    (hb : bit (s.link n).causes (cause - 1) = false) : FaultShown s l n cause (s.stageFault n cause) := by
  rw [State.stageFault_new hen hb]
  generalize (!s.groupLatched (s.link n).cfg.group) = isNew
  generalize (s.link n).cfg.group = g
  let x := s.causeLatched n cause
  have hx : x.regsOk = true := hs
  have hxl : x.alive l = true := by cases l <;> exact hl
  have hshown : FaultShown x l n cause (x.each lanes fun x l => x.faultTaken n cause g isNew l) := by
    have ha := x.faultTaken_drives n cause g isNew .a
    cases l
    · exact (x.faultTaken_shows g isNew hx hxl hc).of_stands (State.faultTaken_other n cause g isNew (ha.regs.ok hx) (by decide))
    · refine FaultShown.of_start (State.faultTaken_shows g isNew (ha.regs.ok hx) ((ha.alive .b).trans hxl) hc) ?_ (ha.laneTime .b)
      exact State.faultTaken_other n cause g isNew hx (by decide) _ (by simp [lastFaultFlds])
  exact hshown.of_start rfl (by cases l <;> rfl)

/-- A stage fault changes of the links, their drives apart, the latched causes of one. -/
theorem State.stageFault_drives (s : State) (n : Fin 40) (cause : Nat) :
    DrivesOnly [R.HLK_LINKnn_CNT.LOST] s (s.stageFault n cause) ∨
      DrivesOnly [R.HLK_LINKnn_CNT.LOST] (s.causeLatched n cause) (s.stageFault n cause) := by
  by_cases h : (s.link n).cfg.en = false ∨ bit (s.link n).causes (cause - 1) = true
  · rw [State.stageFault_latched h]
    exact .inl (.refl s)
  · rw [not_or, Bool.not_eq_false, Bool.not_eq_true] at h
    rw [State.stageFault_new h.1 h.2]
    exact .inr ((DrivesOnly.refl _).each _ fun x l => x.faultTaken_drives ..)

theorem DrivesOnly.causes {fs : List Fld} (h : DrivesOnly fs s t) (n : Fin 40) : (t.link n).causes = (s.link n).causes :=
  (congrArg HoistLink.causes (h.link n) :)

theorem DrivesOnly.hlgOk {fs : List Fld} (h : DrivesOnly fs s t) (n : Fin 40) : (t.link n).hlgOk = (s.link n).hlgOk :=
  (congrArg HoistLink.hlgOk (h.link n) :)

/-- The latched causes of a link after a new one. -/
theorem State.stageFault_causes (hen : (s.link n).cfg.en = true) (hb : bit (s.link n).causes (cause - 1) = false) :
    ((s.stageFault n cause).link n).causes = setBit (s.link n).causes (cause - 1) := by
  rw [State.stageFault_new hen hb]
  have hd : DrivesOnly [R.HLK_LINKnn_CNT.LOST] (s.causeLatched n cause) ((s.causeLatched n cause).each lanes fun x l =>
      x.faultTaken n cause (s.link n).cfg.group (!s.groupLatched (s.link n).cfg.group) l) :=
    (DrivesOnly.refl _).each _ fun x l => x.faultTaken_drives ..
  exact (hd.causes n).trans (congrArg HoistLink.causes (State.link_modLink_same ..))

/-- After a stage fault of a monitored link its cause is latched. -/
theorem State.stageFault_latches (s : State) (hen : (s.link n).cfg.en = true) :
    bit ((s.stageFault n cause).link n).causes (cause - 1) = true := by
  cases hb : bit (s.link n).causes (cause - 1)
  · rw [State.stageFault_causes hen hb, bit_set_eq]
    simp
  · rw [State.stageFault_latched (.inr hb), hb]

/-- A stage fault leaves `HLG_OK` of every link as it was. -/
theorem State.stageFault_hlgOk (s : State) (n m : Fin 40) (cause : Nat) :
    ((s.stageFault n cause).link m).hlgOk = (s.link m).hlgOk := by
  rcases s.stageFault_drives n cause with h | h
  · exact h.hlgOk m
  · rw [h.hlgOk m, State.causeLatched, State.link_modLink]
    split
    · next hm => rw [hm]
    · rfl

/-! ## What a `STATUS` reports stands through the faults that it latches (R231 to R234) -/

/-- A link without its drive and without what a `STATUS` may change beside its own report: the latched causes, the differences
counted and `HLG_OK`. -/
def HoistLink.reported (k : HoistLink) : HoistLink := { k.undriven with causes := 0, mism := 0, hlgOk := false }

/-- From `s` to `t` stage faults may have been latched: what the links report, the count of lost frames and the time stand, and no
latched cause is cleared. -/
structure FaultsOnly (s t : State) : Prop where
  regs : Spares [R.HLK_LINKnn_CNT.LOST] s t
  link : ∀ m, (t.link m).reported = (s.link m).reported
  causes : ∀ m b, bit (s.link m).causes b = true → bit (t.link m).causes b = true
  now : t.now = s.now

theorem FaultsOnly.refl (s : State) : FaultsOnly s s := ⟨.refl s, fun _ => rfl, fun _ _ h => h, rfl⟩

theorem FaultsOnly.trans (h : FaultsOnly s t) (g : FaultsOnly t u) : FaultsOnly s u :=
  ⟨h.regs.trans g.regs, fun m => (g.link m).trans (h.link m), fun m b x => g.causes m b (h.causes m b x), g.now.trans h.now⟩

theorem DrivesOnly.faultsOnly (h : DrivesOnly [R.HLK_LINKnn_CNT.LOST] s t) : FaultsOnly s t where
  regs := h.regs
  link m := congrArg (fun k : HoistLink => { k with causes := 0, mism := 0, hlgOk := false }) (h.link m)
  causes m b hb := (congrArg (fun k : HoistLink => bit k.causes b) (h.link m)).trans hb
  now := h.now

/-- A change of a link that clears no cause and leaves its report. -/
theorem FaultsOnly.modLink (s : State) (n : Fin 40) {f : HoistLink → HoistLink} (hf : ∀ k, (f k).reported = k.reported)
    (hc : ∀ k b, bit k.causes b = true → bit (f k).causes b = true) : FaultsOnly s (s.modLink n f) where
  regs := (Spares.refl s).of_regs rfl
  link m := by
    rw [State.link_modLink]
    split
    · next hm => rw [hm, hf]
    · rfl
  causes m b hb := by
    rw [State.link_modLink]
    split
    · next hm => exact hc _ _ (hm ▸ hb)
    · exact hb
  now := rfl

theorem FaultsOnly.when (h : FaultsOnly s t) (c : Bool) {f : State → State} (hf : ∀ x, FaultsOnly x (f x)) :
    FaultsOnly s (t.when c f) := by
  cases c
  · exact h
  · exact h.trans (hf t)

theorem State.stageFault_faultsOnly (s : State) (n : Fin 40) (cause : Nat) : FaultsOnly s (s.stageFault n cause) := by
  rcases s.stageFault_drives n cause with h | h
  · exact h.faultsOnly
  · refine FaultsOnly.trans (t := s.causeLatched n cause) (.modLink s n (fun _ => rfl) fun k b hb => ?_) h.faultsOnly
    rw [bit_set_eq, hb, Bool.true_or]

/-- The interrupts of a lost `HLG_OK`, raised. -/
def State.hlgCleared (s : State) (n : Fin 40) : State :=
  (s.modLink n fun k => { k with hlgOk := false, mism := 0 }).each lanes fun s l => s.irq l R.HLK_CTRL.HLG_IRQ_EN

theorem State.hlgCleared_drives (s : State) (n : Fin 40) :
    DrivesOnly faultFlds (s.modLink n fun k => { k with hlgOk := false, mism := 0 }) (s.hlgCleared n) :=
  (DrivesOnly.refl _).each _ fun x _ => (DrivesOnly.refl x).irq ..

theorem State.hlgCleared_faultsOnly (s : State) (n : Fin 40) : FaultsOnly s (s.hlgCleared n) :=
  FaultsOnly.trans (t := s.modLink n fun k => { k with hlgOk := false, mism := 0 })
    (.modLink s n (fun _ => rfl) fun _ _ h => h) ((s.hlgCleared_drives n).mono (by decide)).faultsOnly

theorem State.hlgLost_faultsOnly (s : State) (n : Fin 40) : FaultsOnly s (s.hlgLost n) := by
  unfold State.hlgLost
  split
  · show FaultsOnly s (if ((s.hlgCleared n).link n).phase = .run then (s.hlgCleared n).stageFault n causeHlg else s.hlgCleared n)
    split
    · exact (s.hlgCleared_faultsOnly n).trans (State.stageFault_faultsOnly ..)
    · exact s.hlgCleared_faultsOnly n
  · exact .refl s

theorem State.statusGate_faultsOnly (s : State) (n : Fin 40) (gate : Nat) : FaultsOnly s (s.statusGate n gate) := by
  unfold State.statusGate
  dsimp only
  split
  · split
    · exact .modLink s n (fun _ => rfl) fun _ _ h => h
    · split
      · exact s.hlgLost_faultsOnly n
      · exact .modLink s n (fun _ => rfl) fun _ _ h => h
  · exact .refl s

/-- A stage fault that a flag asks for leaves the reports of the links. -/
theorem FaultsOnly.whenFault (h : FaultsOnly s t) (c : Bool) (n : Fin 40) (cause : Nat) :
    FaultsOnly s (t.when c fun x => x.stageFault n cause) := h.when c fun x => x.stageFault_faultsOnly n cause

theorem State.statusFaults_faultsOnly (s : State) (n : Fin 40) (flags : Nat) : FaultsOnly s (s.statusFaults n flags) :=
  ((((FaultsOnly.refl s).whenFault ..).whenFault ..).whenFault ..).whenFault ..

/-- A link monitored before the faults are latched is monitored after them. -/
theorem FaultsOnly.monitored (h : FaultsOnly s t) (hen : (s.link n).cfg.en = true) : (t.link n).cfg.en = true :=
  (congrArg (fun k : HoistLink => k.cfg.en) (h.link n)).trans hen

/-- The faults that the flags of a `STATUS` show are latched (R234). -/
theorem State.statusFaults_latches (s : State) (flags : Nat) (hen : (s.link n).cfg.en = true) :
    (bit flags 5 = true → bit ((s.statusFaults n flags).link n).causes 0 = true) ∧
    (bit flags 6 = true → bit ((s.statusFaults n flags).link n).causes 1 = true) ∧
    ((s.link n).phase = .run →
      ((bit flags 0 && bit flags 1) = false → bit ((s.statusFaults n flags).link n).causes 4 = true) ∧
      (bit flags 4 = true ∨ bit flags 3 = false → bit ((s.statusFaults n flags).link n).causes 5 = true)) := by
  have hlatch : ∀ (x : State) (c : Bool) (cause : Nat), FaultsOnly s x → c = true →
      bit ((x.when c fun y => y.stageFault n cause).link n).causes (cause - 1) = true := by
    rintro x c cause hx rfl
    exact x.stageFault_latches (hx.monitored hen)
  have h1 := (FaultsOnly.refl s).whenFault (bit flags 5) n causeSc
  have h2 := h1.whenFault (bit flags 6) n causeGate
  have h3 := h2.whenFault ((s.link n).inRun && !(bit flags 0 && bit flags 1)) n causeSupply
  have hlast : ∀ x : State, FaultsOnly x
      (x.when ((s.link n).inRun && (bit flags 4 || !bit flags 3)) fun y => y.stageFault n causeLoss) :=
    fun x => (FaultsOnly.refl x).whenFault ..
  have hsup : ∀ x : State, FaultsOnly x (x.when ((s.link n).inRun && !(bit flags 0 && bit flags 1)) fun y =>
    y.stageFault n causeSupply) := fun x => (FaultsOnly.refl x).whenFault ..
  have hgate : ∀ x : State, FaultsOnly x (x.when (bit flags 6) fun y => y.stageFault n causeGate) :=
    fun x => (FaultsOnly.refl x).whenFault ..
  refine ⟨fun h => ?_, fun h => ?_, fun hrun => ⟨fun h => ?_, fun h => ?_⟩⟩
  · exact ((hgate _).trans ((hsup _).trans (hlast _))).causes _ _ (hlatch s _ causeSc (.refl s) h)
  · exact ((hsup _).trans (hlast _)).causes _ _ (hlatch _ _ causeGate h1 h)
  · exact (hlast _).causes _ _ (hlatch _ _ causeSupply h2 (by simp [HoistLink.inRun, hrun, h]))
  · refine hlatch _ _ causeLoss h3 ?_
    rcases h with h | h <;> simp [HoistLink.inRun, hrun, h]

end

end Sys2Proof.Machine
end

section
/-!
PROOFS. Frames from the drive heads at the Deputy (R223, R231 to R234, R246): faults, the loss of `STATUS`, and `STATUS` itself.
-/
namespace Sys2Proof.Machine

section
variable {s t u : State} {n : Fin 40} {l : Lane} {cause : Nat} {f : UplinkFrame} {p : List Nat}

/-! ## A monitored uplink (R223, R246) -/

/-- A frame on a monitored uplink counts for what it spells. -/
theorem State.uplink_of_monitors (hm : s.monitors n = true) : s.uplink n f = uplinkBody f := if_pos hm

/-- A monitored link is enabled. -/
theorem State.en_of_monitors (hm : s.monitors n = true) : (s.link n).cfg.en = true := (Bool.and_eq_true_iff.1 hm).2

theorem State.rd_modLink (s : State) (n : Fin 40) (g : HoistLink → HoistLink) (d : Die) (h : Fld) (i j : Nat) :
    (s.modLink n g).rd d h i j = s.rd d h i j := rfl

/-- A count of a link rises on both lanes. -/
theorem State.linkCount_rose (s : State) (n : Fin 40) {g : Fld} (l : Lane) (hs : s.regsOk = true) (hg : g.base < 2 ^ 37) :
    rose s (s.linkCount n g) (laneDie l) g n := by
  have ha : (s.inc .la g n).regsOk = true := State.wr_regsOk _ _ _ _ _ _ hs
  cases l
  · exact (State.rd_wr_die _ _ _ _ _ _ _ _ _ _ ha (by decide) hg hg).trans (rose_inc _ _ _ _ hs)
  · exact rose_of_eq (rose_inc _ _ _ _ ha) (State.rd_wr_die _ _ _ _ _ _ _ _ _ _ hs (by decide) hg hg)

/-! ## Faults and the loss of `STATUS` (R232, R234) -/

/-- A fault frame latches a short circuit or a gate fault. -/
theorem exec_hoistFault (hm : s.monitors n = true) (hu : uplinkBody f = some (0x20, p))
    (hp : p.getD 0 0 = 1 ∨ p.getD 0 0 = 2 ∨ p.getD 0 0 = 3) :
    exec (.hoistFault n f) s = .next (s.stageFault n (if p.getD 0 0 = 1 then causeSc else causeGate)) := by
  show execHoistFault n f s = _
  unfold execHoistFault
  rw [State.uplink_of_monitors hm, hu]
  rcases hp with h | h | h <;> simp only [h] <;> rfl

/-- The fault that a frame reports is latched and shown (R232, R234). -/
theorem fault_frame_latched (hs : s.regsOk = true) (hl : s.alive l = true) (hm : s.monitors n = true)
    (hu : uplinkBody f = some (0x20, p)) (hp : p.getD 0 0 = 1 ∨ p.getD 0 0 = 2 ∨ p.getD 0 0 = 3) :
    leads (.hoistFault n f) s fun t =>
      bit (t.link n).causes ((if p.getD 0 0 = 1 then 1 else 2) - 1) = true ∧
      (bit (s.link n).causes ((if p.getD 0 0 = 1 then 1 else 2) - 1) = false →
        FaultShown s l n (if p.getD 0 0 = 1 then 1 else 2) t) := by
  refine leads_of_exec (exec_hoistFault hm hu hp) ⟨s.stageFault_latches (State.en_of_monitors hm), fun hb => ?_⟩
  exact State.stageFault_shows hs hl (by split <;> decide) (State.en_of_monitors hm) hb

/-- A link without a valid `STATUS` for 10 us has lost it (R234). -/
theorem status_loss_latched (hs : s.regsOk = true) (hd : s.depOn = true) (hl : s.alive l = true)
    (hph : (s.link n).phase ≠ .static)     (hen : (s.link n).cfg.en = true) :
    leads (.hoistStatLoss n) s fun t =>
      t.now = max s.now ((s.link n).lastStat + 10 * us) ∧ bit (t.link n).causes 2 = true ∧
      (bit (s.link n).causes 2 = false → FaultShown (s.advTo ((s.link n).lastStat + 10 * us)) l n causeStatLoss t) := by
  let x := s.advTo ((s.link n).lastStat + 10 * us)
  have hexec : exec (.hoistStatLoss n) s = .next (x.stageFault n causeStatLoss) :=
    congrArg Host.Outcome.next (if_pos (by simp [hd, hph]))
  have hx : x.regsOk = true := hs
  refine leads_of_exec hexec ⟨(x.stageFault_faultsOnly n _).now, x.stageFault_latches hen, fun hb => ?_⟩
  exact State.stageFault_shows hx (by cases l <;> exact hl) (by decide) hen hb

/-! ## `STATUS` (R231 to R234) -/

/-- The sequence number of a `STATUS` leaves a gap after the one before. -/
def State.statusGap (s : State) (n : Fin 40) (seq : Nat) : Bool :=
  match (s.link n).seq with
  | some q => (q + 1) % 16 != seq
  | none => false

/-- A link with what a `STATUS` at instant `now` reports. -/
def HoistLink.withStatus (k : HoistLink) (now temp flags seq : Nat) : HoistLink :=
  { k with seq := some seq, lastStat := now, tj := (temp : Int) - 55, vccOk := bit flags 0,
           veeOk := bit flags 1, stTrained := bit flags 2, ot := bit flags 7 }

/-- A `STATUS` taken, before its flags and its gate state are looked at: a gap in the sequence numbers counts. -/
def State.statusTaken (s : State) (n : Fin 40) (temp flags gs : Nat) : State :=
  (s.when (s.statusGap n (gs / 16 % 16)) fun s => s.linkCount n R.HLK_LINKnn_CNT.LOST).modLink n fun k =>
    k.withStatus s.now temp flags (gs / 16 % 16)

theorem exec_hoistStatus (hm : s.monitors n = true) (hu : uplinkBody f = some (0x10, p)) : exec (.hoistStatus n f) s =
    .next (((s.statusTaken n (p.getD 0 0) (p.getD 1 0) (p.getD 2 0)).statusFaults n (p.getD 1 0)).statusGate n
      (p.getD 2 0 % 4)) := by
  show execHoistStatus n f s = _
  unfold execHoistStatus
  rw [State.uplink_of_monitors hm, hu]
  rfl

theorem State.statusTaken_link (s : State) (n : Fin 40) (temp flags gs : Nat) :
    (s.statusTaken n temp flags gs).link n = (s.link n).withStatus s.now temp flags (gs / 16 % 16) := by
  unfold State.statusTaken
  rw [State.link_modLink_same]
  cases s.statusGap n (gs / 16 % 16) <;> rfl

theorem State.statusTaken_now (s : State) (n : Fin 40) (temp flags gs : Nat) : (s.statusTaken n temp flags gs).now = s.now := by
  unfold State.statusTaken
  cases s.statusGap n (gs / 16 % 16) <;> rfl

theorem State.statusTaken_alive (s : State) (n : Fin 40) (temp flags gs : Nat) (l : Lane) :
    (s.statusTaken n temp flags gs).alive l = s.alive l := by
  unfold State.statusTaken
  cases s.statusGap n (gs / 16 % 16) <;> cases l <;> rfl

theorem State.statusTaken_spares (s : State) (n : Fin 40) (temp flags gs : Nat) :
    Spares [R.HLK_FAULT_CNT.LATCHED] s (s.statusTaken n temp flags gs) :=
  ((Spares.refl s).when _ fun x => ((Spares.refl x).wr .la R.HLK_LINKnn_CNT.LOST _ _ _ (by decide)).wr .lb _ _ _ _
    (by decide)).of_regs rfl

/-- A gap in the sequence numbers counts as lost frames. -/
theorem State.statusTaken_lost {temp flags gs q : Nat} (hs : s.regsOk = true) (hq : (s.link n).seq = some q)
    (hgap : (q + 1) % 16 ≠ gs / 16 % 16) (l : Lane) :
    rose s (s.statusTaken n temp flags gs) (laneDie l) R.HLK_LINKnn_CNT.LOST n := by
  have hg : s.statusGap n (gs / 16 % 16) = true := by
    unfold State.statusGap
    rw [hq]
    exact bne_iff_ne.2 hgap
  unfold State.statusTaken rose
  rw [hg, State.rd_modLink, State.when_true]
  exact s.linkCount_rose n l hs (by decide)

/-- What the report of a `STATUS` leaves, in a state in which the faults that it shows have been latched. -/
structure StatusShown (n : Fin 40) (now temp flags seq : Nat) (t : State) : Prop where
  seq : (t.link n).seq = some seq
  tj : (t.link n).tj = (temp : Int) - 55
  lastStat : (t.link n).lastStat = now
  vccOk : (t.link n).vccOk = bit flags 0
  veeOk : (t.link n).veeOk = bit flags 1
  trained : (t.link n).stTrained = bit flags 2
  ot : (t.link n).ot = bit flags 7

theorem StatusShown.of_reported {k : HoistLink} {now temp flags seq : Nat}
    (h : (t.link n).reported = (k.withStatus now temp flags seq).reported) : StatusShown n now temp flags seq t :=
  ⟨(congrArg HoistLink.seq h :), (congrArg HoistLink.tj h :), (congrArg HoistLink.lastStat h :), (congrArg HoistLink.vccOk h :),
    (congrArg HoistLink.veeOk h :), (congrArg HoistLink.stTrained h :), (congrArg HoistLink.ot h :)⟩

/-- A `STATUS` shows what it reports, counts a gap and latches the faults that its flags show (R232 to R234). -/
theorem status_taken (hs : s.regsOk = true) (hm : s.monitors n = true) (hu : uplinkBody f = some (0x10, p)) :
    leads (.hoistStatus n f) s fun t =>
      StatusShown n s.now (p.getD 0 0) (p.getD 1 0) (p.getD 2 0 / 16 % 16) t ∧
      (∀ q0, (s.link n).seq = some q0 → (q0 + 1) % 16 ≠ p.getD 2 0 / 16 % 16 →
        ∀ l, rose s t (laneDie l) R.HLK_LINKnn_CNT.LOST n) ∧
      (bit (p.getD 1 0) 5 = true → bit (t.link n).causes 0 = true) ∧
      (bit (p.getD 1 0) 6 = true → bit (t.link n).causes 1 = true) ∧
      ((s.link n).phase = .run →
        ((bit (p.getD 1 0) 0 && bit (p.getD 1 0) 1) = false → bit (t.link n).causes 4 = true) ∧
        (bit (p.getD 1 0) 4 = true ∨ bit (p.getD 1 0) 3 = false → bit (t.link n).causes 5 = true)) := by
  refine leads_of_exec (exec_hoistStatus hm hu) ?_
  generalize p.getD 0 0 = temp
  generalize p.getD 1 0 = flags
  generalize p.getD 2 0 = gs
  let x := s.statusTaken n temp flags gs
  have hlink : x.link n = (s.link n).withStatus s.now temp flags (gs / 16 % 16) := s.statusTaken_link ..
  have hen : (x.link n).cfg.en = true := hlink ▸ State.en_of_monitors hm
  have hfaults := x.statusFaults_faultsOnly n flags
  have hgate := (x.statusFaults n flags).statusGate_faultsOnly n (gs % 4)
  have hall := hfaults.trans hgate
  obtain ⟨h5, h6, hrun⟩ := x.statusFaults_latches flags hen
  have hx : x.regsOk = true := by
    show (s.statusTaken n temp flags gs).regsOk = true
    exact (s.statusTaken_spares n temp flags gs).ok hs
  refine ⟨.of_reported ((hall.link n).trans (congrArg HoistLink.reported hlink)), fun q0 hq hgap l => ?_,
    fun h => hgate.causes _ _ (h5 h), fun h => hgate.causes _ _ (h6 h), fun hr => ?_⟩
  · exact (hall.regs.rd hx _ _ _ _ (by simp)).trans (State.statusTaken_lost hs hq hgap l)
  · obtain ⟨hsup, hloss⟩ := hrun (hlink ▸ hr)
    exact ⟨fun h => hgate.causes _ _ (hsup h), fun h => hgate.causes _ _ (hloss h)⟩

/-! ## The comparison of the gate state (R231) -/

/-- Flags without a fault latch nothing. -/
theorem State.statusFaults_none {flags : Nat} (h : flags &&& 0x7B = 0x0B) : s.statusFaults n flags = s := by
  have hbit : ∀ b, bit 0x7B b = true → bit flags b = bit 0x0B b := fun b hb => by
    rw [← h, bit_eq, bit_eq, Nat.testBit_and, ← bit_eq 0x7B, hb, Bool.and_true]
  have h0 : bit flags 0 = true := hbit 0 rfl
  have h1 : bit flags 1 = true := hbit 1 rfl
  have h3 : bit flags 3 = true := hbit 3 rfl
  have h4 : bit flags 4 = false := hbit 4 rfl
  have h5 : bit flags 5 = false := hbit 5 rfl
  have h6 : bit flags 6 = false := hbit 6 rfl
  simp [State.statusFaults, h0, h1, h3, h4, h5, h6]

/-- A lost `HLG_OK` of a link in run state is a stage fault (R231, R234). -/
theorem State.hlgLost_latches (hs : s.regsOk = true) (hok : (s.link n).hlgOk = true) (hrun : (s.link n).phase = .run)
    (hen : (s.link n).cfg.en = true) :
    ((s.hlgLost n).link n).hlgOk = false ∧ bit ((s.hlgLost n).link n).causes 3 = true ∧
    ∀ l, s.alive l = true → bit (s.link n).causes 3 = false → FaultShown s l n causeHlg (s.hlgLost n) := by
  let x := s.modLink n fun k => { k with hlgOk := false, mism := 0 }
  have hx : x.regsOk = true := hs
  have hxlink : x.link n = { s.link n with hlgOk := false, mism := 0 } := State.link_modLink_same ..
  have hd : DrivesOnly faultFlds x (s.hlgCleared n) := s.hlgCleared_drives n
  have hreport := (s.hlgCleared_faultsOnly n).link n
  have hphase : ((s.hlgCleared n).link n).phase = .run := (congrArg HoistLink.phase hreport :).trans hrun
  have hen' : ((s.hlgCleared n).link n).cfg.en = true := (s.hlgCleared_faultsOnly n).monitored hen
  have heq : s.hlgLost n = (s.hlgCleared n).stageFault n causeHlg := (if_pos hok).trans (if_pos hphase)
  have hcauses : ((s.hlgCleared n).link n).causes = (s.link n).causes := (hd.causes n).trans (by rw [hxlink])
  rw [heq]
  refine ⟨?_, State.stageFault_latches _ hen', fun l hl hb => ?_⟩
  · rw [State.stageFault_hlgOk, hd.hlgOk, hxlink]
  · have hxl : x.alive l = true := by cases l <;> exact hl
    refine (State.stageFault_shows (hd.regs.ok hx) ((hd.alive l).trans hxl) (by decide) hen' (hcauses ▸ hb)).of_start
      (hd.regs.rd hx _ _ _ _ (by decide)) ((hd.laneTime l).trans ?_)
    cases l <;> rfl

/-- A steady gate code that differs from the reported one twice clears `HLG_OK` (R231). -/
theorem gate_state_compared (hs : s.regsOk = true) (hl : s.alive l = true) (hm : s.monitors n = true)
    (hu : uplinkBody f = some (0x10, p)) (hrun : (s.link n).phase = .run) (hflags : p.getD 1 0 &&& 0x7B = 0x0B)
    (hok : (s.link n).hlgOk = true) (hsteady : ((s.link n).codeThen (s.now - 224)).2 = true) :
    leads (.hoistStatus n f) s fun t =>
      if ((s.link n).codeThen (s.now - 224)).1 = p.getD 2 0 % 4 then
        (t.link n).mism = 0 ∧ (t.link n).hlgOk = true ∧ (t.link n).causes = (s.link n).causes
      else if (s.link n).mism = 0 then
        (t.link n).mism = 1 ∧ (t.link n).hlgOk = true ∧ (t.link n).causes = (s.link n).causes
      else (t.link n).hlgOk = false ∧ bit (t.link n).causes 3 = true ∧
        (bit (s.link n).causes 3 = false → t.rd (laneDie l) R.HLK_LAST_FAULT.LINK = n ∧
          t.rd (laneDie l) R.HLK_LAST_FAULT.CAUSE = 4 ∧ rose s t (laneDie l) R.HLK_FAULT_CNT.LATCHED) := by
  refine leads_of_exec (exec_hoistStatus hm hu) ?_
  rw [State.statusFaults_none hflags]
  generalize p.getD 0 0 = temp
  generalize p.getD 1 0 = flags
  generalize p.getD 2 0 = gs
  let x := s.statusTaken n temp flags gs
  have hlink : x.link n = (s.link n).withStatus s.now temp flags (gs / 16 % 16) := s.statusTaken_link ..
  have hcode : (x.link n).codeThen (x.now - 224) = (s.link n).codeThen (s.now - 224) := by
    rw [hlink, show x.now = s.now from s.statusTaken_now ..]
    rfl
  have hregs := s.statusTaken_spares n temp flags gs
  unfold State.statusGate
  dsimp only
  rw [hcode, if_pos hsteady]
  by_cases hsame : ((s.link n).codeThen (s.now - 224)).1 = gs % 4
  · rw [if_pos hsame, if_pos hsame, State.link_modLink_same, hlink]
    exact ⟨rfl, hok, rfl⟩
  rw [if_neg hsame, if_neg hsame]
  by_cases hm0 : (s.link n).mism = 0
  · rw [if_pos hm0, if_neg (by rw [hlink]; show ¬ 1 ≤ (s.link n).mism; omega), State.link_modLink_same, hlink]
    exact ⟨rfl, hok, rfl⟩
  · rw [if_neg hm0, if_pos (by rw [hlink]; show 1 ≤ (s.link n).mism; omega)]
    obtain ⟨hlost, hlatch, hshown⟩ := State.hlgLost_latches (s := x) (hregs.ok hs) (by rw [hlink]; exact hok)
      (by rw [hlink]; exact hrun) (by rw [hlink]; exact State.en_of_monitors hm)
    refine ⟨hlost, hlatch, fun hb => ?_⟩
    have h := hshown l ((s.statusTaken_alive ..).trans hl) (by rw [hlink]; exact hb)
    exact ⟨h.link, h.cause, rose_of_eq h.counted (hregs.rd hs _ _ _ _ (by simp))⟩

end

end Sys2Proof.Machine
end

section
/-!
PROOFS. The drive heads (R224, R225, R231, R235): link loss, short circuit, gate supply, the tick and the gate code; and the
obligation on stage faults and heads.
-/
namespace Sys2Proof.Machine

section
variable {s t u : State} {n : Fin 40}

/-! ## A head protects itself (R224, R235) -/

theorem State.link_advSteps (s : State) (x : Int) (n : Fin 40) : (s.advSteps x).link n = s.link n := by
  unfold State.advSteps
  split <;> rfl

theorem State.steps_modLink (s : State) (n : Fin 40) (f : HoistLink → HoistLink) : (s.modLink n f).steps = s.steps := rfl

/-- A running head that hears nothing takes its trained loss action after 1.8 us (R224). -/
theorem running_head_loses_link (hr : (s.link n).head.phase = .run) :
    leads (.headLinkLoss n) s fun t =>
      (t.link n).head = (s.link n).head.linkLost ∧
      t.steps = max s.steps (max (s.link n).edgeAt (s.link n).tickAt + 184320) := by
  have hexec : exec (.headLinkLoss n) s = .next ((s.advSteps (max (s.link n).edgeAt (s.link n).tickAt + 184320)).modLink n
      fun k => { k with head := k.head.linkLost }) := by
    show execHeadLinkLoss n s = _
    unfold execHeadLinkLoss
    dsimp only
    rw [hr]
  refine leads_of_exec hexec ⟨?_, ?_⟩
  · rw [State.link_modLink_same, State.link_advSteps]
  · rw [State.steps_modLink, State.advSteps_steps]

/-- A head in training that hears nothing takes its loss action where it has one, and else is untrained (R224). -/
theorem training_head_loses_link (hr : (s.link n).head.phase = .training) :
    leads (.headLinkLoss n) s fun t =>
      (t.link n).head.phase = (if (s.link n).head.loss.isSome then .loss else .untrained) ∧ (t.link n).head.armed = none := by
  have hexec : exec (.headLinkLoss n) s = .next (s.modLink n fun k =>
      { k with head := if k.head.loss.isSome then k.head.linkLost
                       else { k.head with phase := .untrained, armed := none, on := false } }) := by
    show execHeadLinkLoss n s = _
    unfold execHeadLinkLoss
    dsimp only
    rw [hr]
  refine leads_of_exec hexec ?_
  rw [State.link_modLink_same]
  cases (s.link n).head.loss.isSome <;> exact ⟨rfl, rfl⟩

/-- A short circuit turns a running head with its gate on off and latches, above its trained voltage for its trained time (R235). -/
theorem head_latches_short_circuit (mv ns : Nat) :
    leads (.headShortCircuit n mv ns) s fun t =>
      ∀ w, (s.link n).head.sc = some w → (s.link n).head.phase = .run → (s.link n).head.on = true →
        if bits w 15 0 < mv ∧ 10 * bits w 23 16 ≤ ns then
          (t.link n).head.latched = true ∧ (t.link n).head.on = false ∧ (t.link n).head.phase = .run
        else t = s := by
  refine leads_of_exec rfl fun w hw hr hon => ?_
  dsimp only
  rw [hw]
  dsimp only
  by_cases h : bits w 15 0 < mv ∧ 10 * bits w 23 16 ≤ ns
  · rw [if_pos h, if_pos ⟨hr, hon, h⟩, State.link_modLink_same]
    exact ⟨rfl, rfl, hr⟩
  · rw [if_neg h, if_neg fun hx => h hx.2.2]

/-- A head without gate supply is untrained (R224). -/
theorem head_loses_gate_supply : leads (.headGateSupplyLoss n) s fun t => (t.link n).head = Head.init :=
  leads_of_exec rfl (congrArg HoistLink.head (State.link_modLink_same ..) :)

/-! ## The tick (R224, R225) -/

/-- Link `n` and the instant are as they were. -/
def LinkStands (n : Fin 40) (s t : State) : Prop := t.link n = s.link n ∧ t.steps = s.steps

theorem LinkStands.trans (h : LinkStands n s t) (g : LinkStands n t u) : LinkStands n s u :=
  ⟨g.1.trans h.1, g.2.trans h.2⟩

/-- The tick on one link, where the Deputy ticks it. -/
def State.tickLink (s : State) (m : Fin 40) : State :=
  if (s.link m).phase == .run || (s.link m).phase == .training 7 true then s.modLink m fun k => k.tick s.steps else s

theorem State.tickLink_stands (s : State) {m : Fin 40} (hm : m ≠ n) : LinkStands n s (s.tickLink m) := by
  unfold State.tickLink
  split
  · exact ⟨(State.link_modLink ..).trans (if_neg hm.symm), rfl⟩
  · exact ⟨rfl, rfl⟩

/-- The tick reaches each link that it reaches once, at the instant of the command. -/
theorem tick_reaches_link (hd : s.depOn = true) (hph : (s.link n).phase = .run ∨ (s.link n).phase = .training 7 true) :
    leads .hoistTick s fun t => t.link n = (s.link n).tick s.steps := by
  have hexec : exec .hoistTick s = .next (s.each allLinks State.tickLink) := congrArg Host.Outcome.next (if_pos hd)
  obtain ⟨u, hu, hlast⟩ := State.each_of_mem (f := State.tickLink) (k := n) (R := LinkStands n) (fun _ => ⟨rfl, rfl⟩)
    LinkStands.trans (fun x m hm => x.tickLink_stands hm) (List.nodup_finRange 40) (List.mem_finRange n) s
  obtain ⟨hulink, husteps⟩ := hu
  refine leads_of_exec hexec ((hlast.1 : _ = _).trans ?_)
  unfold State.tickLink
  rw [if_pos (by rw [hulink]; rcases hph with h | h <;> simp [h]), State.link_modLink_same, hulink, husteps]

/-- A tick comes no earlier than 40 ns after a gate edge. -/
theorem HoistLink.tick_tickAt (k : HoistLink) (x : Int) : (k.tick x).tickAt = max x (k.edgeAt + 4096) := by
  have hfollow : ∀ h : HoistLink, h.follow.tickAt = h.tickAt := fun h => by
    unfold HoistLink.follow
    split <;> rfl
  unfold HoistLink.tick
  dsimp only
  split
  · split
    · exact hfollow _
    · rfl
  · rfl

/-- An armed head enters `RUN` at a tick within 2 us, at the level of its downlink unless it is latched (R224). -/
theorem HoistLink.tick_runs {k : HoistLink} {x : Int} {a : Nat} (ha : k.head.armed = some a) (ht : k.head.phase = .training)
    (hx : max x (k.edgeAt + 4096) ≤ (((a + 2 * us) * 1024 : Nat) : Int)) :
    (k.tick x).head = { k.head with phase := .run, armed := none, on := k.on && !k.head.latched } := by
  unfold HoistLink.tick
  rw [ha]
  dsimp only
  rw [if_pos ⟨ht, by push_cast at hx ⊢; exact hx⟩]
  rfl

/-! ## The gate code (R231) -/

/-- The filter's answer: below 25 ns no, from 35 ns on yes; it moves on no more than the count of free values. -/
theorem State.thirty_cases (s : State) (ns : Nat) : ∃ b i, s.thirty ns = (b, { s with freeIdx := i }) ∧
    (ns < 25 → b = false) ∧ (35 ≤ ns → b = true) := by
  unfold State.thirty
  split
  · exact ⟨_, s.freeIdx, rfl, fun _ => rfl, fun h => by omega⟩
  · split
    · exact ⟨_, s.freeIdx, rfl, fun h => by omega, fun _ => rfl⟩
    · exact ⟨_, _, rfl, fun h => by omega, fun h => by omega⟩

theorem State.newCode_code (s : State) (n : Fin 40) (code : Nat) : ((s.newCode n code).link n).code = code ∧
    (((s.newCode n code).link n).code ≠ (s.link n).code → ((s.newCode n code).link n).codeAt = s.now) := by
  unfold State.newCode
  split
  · next h => exact ⟨h, fun hx => absurd rfl hx⟩
  · rw [State.link_modLink_same]
    exact ⟨rfl, fun _ => rfl⟩

/-- The code of a pair that is steady at a level. -/
def steadyCode (high : Bool) : Nat := if high then 2 else 0

/-- The gate code is `ON` or `OFF` once the pair has been steady for 30 ns and `BETWEEN` at two near edges, to the accuracy of the
filter (R231). -/
theorem gate_code_decoded (high : Bool) (held gap : Nat) (hd : s.depOn = true) :
    leads (.hlgCodeChange n high held gap) s fun t =>
      (35 ≤ held → (t.link n).code = steadyCode high) ∧ (held < 25 ∧ gap < 25 → (t.link n).code = 1) ∧
      (held < 25 ∧ 35 ≤ gap → (t.link n).code = (s.link n).code) ∧
      (25 ≤ held → (t.link n).code = steadyCode high ∨ (t.link n).code = 1 ∨ (t.link n).code = (s.link n).code) ∧
      ((t.link n).code ≠ (s.link n).code → (t.link n).codeAt = s.now) := by
  refine leads_of_exec (congrArg Host.Outcome.next (if_pos hd)) ?_
  obtain ⟨a, i, ha, halow, hahigh⟩ := s.thirty_cases held
  dsimp only
  rw [ha]
  cases a
  · obtain ⟨b, j, hb, hblow, hbhigh⟩ := State.thirty_cases { s with freeIdx := i } gap
    rw [if_neg Bool.false_ne_true, hb]
    cases b
    · rw [if_neg Bool.false_ne_true]
      obtain ⟨hcode, hat⟩ := State.newCode_code { s with freeIdx := j } n 1
      exact ⟨fun h => absurd (hahigh h) (by simp), fun _ => hcode, fun h => absurd (hbhigh h.2) (by simp),
        fun _ => .inr (.inl hcode), hat⟩
    · rw [if_pos rfl]
      exact ⟨fun h => absurd (hahigh h) (by simp), fun h => absurd (hblow h.2) (by simp), fun _ => rfl,
        fun _ => .inr (.inr rfl), fun h => absurd rfl h⟩
  · rw [if_pos rfl]
    obtain ⟨hcode, hat⟩ := State.newCode_code { s with freeIdx := i } n (steadyCode high)
    exact ⟨fun _ => hcode, fun h => absurd (halow h.1) (by simp), fun h => absurd (halow h.1) (by simp),
      fun _ => .inl hcode, hat⟩

end

/-! ## The obligation -/

/-- Settles O26: a stage fault is shown to each lane, as the trip that it raises drives gates and no more; a `STATUS` and the heads
act as their rules give. -/
theorem stageFaultsLatchAndHeadsProtect : Obligations.StageFaultsLatchAndHeadsProtect := by
  unfold Obligations.StageFaultsLatchAndHeadsProtect
  refine ⟨?_, ?_, ?_, ?_, ?_, ?_, ?_⟩
  · intro s n l f p hs hl hm hu hp
    obtain ⟨t, hexec, hlatch, hshown⟩ := fault_frame_latched (canonical_regs hs) hl hm hu hp
    refine leads_of_exec hexec ⟨hlatch, fun hb => ?_⟩
    obtain ⟨hlink, hcause, htime, hcount⟩ := hshown hb
    exact ⟨hlink, hcause, htime, hcount⟩
  · intro s n l hs hd hl hph hen
    obtain ⟨t, hexec, hnow, hlatch, hshown⟩ := status_loss_latched (canonical_regs hs) hd hl hph hen
    refine leads_of_exec hexec ⟨hnow, hlatch, fun hb => ?_⟩
    obtain ⟨hlink, hcause, -, hcount⟩ := hshown hb
    exact ⟨hlink, hcause, rose_of_eq hcount (State.rd_advTo ..)⟩
  · intro s n l f p hs hm hu
    obtain ⟨t, hexec, hshown, hlost, h5, h6, hrun⟩ := status_taken (canonical_regs hs) hm hu
    obtain ⟨hseq, htj, hlast, hvcc, hvee, htrained, hot⟩ := hshown
    exact leads_of_exec hexec ⟨hseq, htj, hlast, hvcc, hvee, htrained, hot, fun q0 hq hgap => hlost q0 hq hgap l, h5, h6, hrun⟩
  · intro s n l f p hs hl hm hu hrun hflags hok hsteady
    exact gate_state_compared (canonical_regs hs) hl hm hu hrun hflags hok hsteady
  · intro s n mv ns
    refine ⟨fun hr => ?_, training_head_loses_link, head_latches_short_circuit mv ns, head_loses_gate_supply⟩
    obtain ⟨t, hexec, hhead, hsteps⟩ := running_head_loses_link hr
    exact leads_of_exec hexec ⟨congrArg Head.phase hhead, hsteps, congrArg Head.on hhead⟩
  · intro s n hd hph
    obtain ⟨t, hexec, hlink⟩ := tick_reaches_link hd hph
    refine leads_of_exec hexec ?_
    rw [hlink]
    refine ⟨HoistLink.tick_tickAt .., fun x ha ht hx => ?_⟩
    rw [HoistLink.tick_runs ha ht hx]
    exact ⟨rfl, rfl, rfl⟩
  · intro s n high held gap hd
    exact gate_code_decoded high held gap hd

end Sys2Proof.Machine
end

section
/-!
PROOFS. The training of the Hoist links (R223, R227 to R232, R239, R240, R246): what the frames of its steps do,
and how the training of a link ends.
-/
namespace Sys2Proof.Machine

section
variable {s t u : State} {n : Fin 40} {l : Lane} {nz : Noise} {f : UplinkFrame} {p : List Nat}

/-! ## A training frame (R223, R227, R228) -/

/-- A frame whose start, length and CRC are as sent is read as sent (R223). -/
theorem frameBody_sent {len : Nat → Option Nat} {code : Nat} {payload : List Nat} (h : len code = some payload.length) :
    frameBody len (0x7E :: code :: payload.length :: payload ++ [crc8 (code :: payload.length :: payload)]) false =
      some (code, payload) := by
  simp [frameBody, h]

theorem leBytes_length (v : Nat) : ∀ n, (leBytes v n).length = n
  | 0 => rfl
  | n + 1 => congrArg (· + 1) (leBytes_length (v / 256) n)

/-- The payload of a training frame has the length of its code. -/
theorem HoistLink.command_length (k : HoistLink) (step : Nat) : downLen (k.command step).1 = some (k.command step).2.length := by
  unfold HoistLink.command
  split <;> simp [downLen, leBytes_length]

/-- The bytes of a number spell its low bits. -/
theorem bytesNat_leBytes (v : Nat) : ∀ n, bytesNat (leBytes v n) = low (8 * n) v
  | 0 => by simp [bytesNat, leBytes, low, Nat.mod_one]
  | n + 1 => by
    have h : bytesNat (leBytes v (n + 1)) = v % 256 + 256 * bytesNat (leBytes (v / 256) n) := rfl
    rw [h, bytesNat_leBytes (v / 256) n]
    unfold low
    rw [show 8 * (n + 1) = 8 + 8 * n by ring, pow_add, Nat.mod_mul]
    rfl

/-- A frame that arrives as sent is read as its step's command. -/
theorem HoistLink.sent_read (k : HoistLink) (step : Nat) (ha : arriveBytes nz (k.sent step) = k.sent step)
    (hv : nz.violation = false) : frameBody downLen (arriveBytes nz (k.sent step)) nz.violation = some (k.command step) := by
  rw [ha, hv]
  exact frameBody_sent (k.command_length step)

/-- A head that hears a training frame is in training with its gate off. -/
theorem Head.hear_trains {h : Head} (code : Nat) (p : List Nat) (now : Nat) (hr : h.phase ≠ .run) :
    (h.hear code p now).phase = .training ∧ (h.hear code p now).on = false := by
  unfold Head.hear
  rw [if_neg hr]
  dsimp only
  split <;> exact ⟨rfl, rfl⟩

/-- What is delivered to a head changes its link in the head alone. -/
theorem HoistLink.deliver_eq (k : HoistLink) (step : Nat) (nz : Noise) (now : Nat) :
    ∃ h, k.deliver step nz now = { k with head := h } := by
  unfold HoistLink.deliver
  split
  · exact ⟨_, rfl⟩
  · exact ⟨k.head, rfl⟩

/-- A frame that arrives as sent is heard by its head. -/
theorem HoistLink.deliver_valid (k : HoistLink) (step : Nat) (now : Nat) (ha : arriveBytes nz (k.sent step) = k.sent step)
    (hv : nz.violation = false) :
    (k.deliver step nz now).head = k.head.hear (k.command step).1 (k.command step).2 now := by
  unfold HoistLink.deliver
  rw [k.sent_read step ha hv]

/-- A frame that does not arrive valid changes nothing. -/
theorem HoistLink.deliver_invalid (k : HoistLink) (step : Nat) (now : Nat)
    (h : frameBody downLen (arriveBytes nz (k.sent step)) nz.violation = none) : k.deliver step nz now = k := by
  unfold HoistLink.deliver
  rw [h]

/-! ## A training step's frame (R229, R240) -/

/-- A link whose step's frame is sent at instant `now`, before it is delivered: idle bits go before the first one, at which a
running head is lost. -/
def HoistLink.stepBegun (k : HoistLink) (step now : Nat) : HoistLink :=
  { (if step = 2 ∧ k.head.phase = .run then { k with head := k.head.linkLost } else k) with
    phase := .training step true, attempts := 1, stepAt := now }

theorem HoistLink.stepBegun_cfg (k : HoistLink) (step now : Nat) : (k.stepBegun step now).cfg = k.cfg := by
  show (if step = 2 ∧ k.head.phase = .run then { k with head := k.head.linkLost } else k).cfg = k.cfg
  split <;> rfl

theorem HoistLink.command_of_cfg {k j : HoistLink} (h : j.cfg = k.cfg) (step : Nat) : j.command step = k.command step := by
  unfold HoistLink.command
  rw [h]

theorem HoistLink.sent_of_cfg {k j : HoistLink} (h : j.cfg = k.cfg) (step : Nat) : j.sent step = k.sent step := by
  unfold HoistLink.sent
  rw [HoistLink.command_of_cfg h]

/-- The head of a link whose first frame is sent does not run any more. -/
theorem HoistLink.stepBegun_head (k : HoistLink) (step now : Nat) (h : step = 2 ∨ k.head.phase ≠ .run) :
    (k.stepBegun step now).head.phase ≠ .run := by
  show (if step = 2 ∧ k.head.phase = .run then { k with head := k.head.linkLost } else k).head.phase ≠ .run
  split
  · exact HeadPhase.noConfusion
  · next hx => exact fun hr => hx ⟨h.resolve_right fun hn => hn hr, hr⟩

/-- The instant at which a step's frame ends. -/
def HoistLink.stepEnd (k : HoistLink) (step : Nat) : Nat := k.stepAt + (if step = 2 then 4 * us else 160) + k.sendTime step

theorem State.sendStep_eq {step : Nat} (h : (s.link n).phase = .training step false) :
    s.sendStep n step nz = (s.advTo ((s.link n).stepEnd step)).modLink n fun k =>
      (k.stepBegun step (max s.now ((s.link n).stepEnd step))).deliver step nz (max s.now ((s.link n).stepEnd step)) :=
  if_pos h

/-- From `s` to `t` the frame of step `step` of link `n` has been sent. -/
structure StepSent (s : State) (n : Fin 40) (nz : Noise) (step : Nat) (t : State) : Prop where
  phase : (t.link n).phase = .training step true
  attempts : (t.link n).attempts = 1
  now : t.now = max s.now ((s.link n).stepEnd step)
  heard : arriveBytes nz ((s.link n).sent step) = (s.link n).sent step → nz.violation = false →
    step = 2 ∨ (s.link n).head.phase ≠ .run → ∃ h : Head, h.phase ≠ .run ∧
      (t.link n).head = h.hear ((s.link n).command step).1 ((s.link n).command step).2 t.now
  unheard : frameBody downLen (arriveBytes nz ((s.link n).sent step)) nz.violation = none →
    step ≠ 2 ∨ (s.link n).head.phase ≠ .run → (t.link n).head = (s.link n).head
  regs : t.regs = s.regs
  lock : t.hoist.lock = s.hoist.lock

theorem State.sendStep_sent {step : Nat} (h : (s.link n).phase = .training step false) :
    StepSent s n nz step (s.sendStep n step nz) := by
  rw [State.sendStep_eq h]
  let now := max s.now ((s.link n).stepEnd step)
  let k := (s.link n).stepBegun step now
  have hcfg : k.cfg = (s.link n).cfg := HoistLink.stepBegun_cfg ..
  have hlink : ((s.advTo ((s.link n).stepEnd step)).modLink n fun k =>
      (k.stepBegun step now).deliver step nz now).link n = k.deliver step nz now := State.link_modLink_same ..
  obtain ⟨hd, hdel⟩ := k.deliver_eq step nz now
  refine ⟨?_, ?_, rfl, fun ha hv hr => ⟨k.head, HoistLink.stepBegun_head _ _ _ hr, ?_⟩, fun hnone hr => ?_, rfl, rfl⟩
  · rw [hlink, hdel]
    rfl
  · rw [hlink, hdel]
    rfl
  · rw [hlink, k.deliver_valid step now (by rw [HoistLink.sent_of_cfg hcfg, ha]) hv, HoistLink.command_of_cfg hcfg]
    rfl
  · rw [hlink, k.deliver_invalid step now (by rw [HoistLink.sent_of_cfg hcfg, hnone])]
    show (if step = 2 ∧ (s.link n).head.phase = .run then { s.link n with head := (s.link n).head.linkLost }
      else s.link n).head = _
    rw [if_neg fun hx => hr.elim (fun h => h hx.1) fun h => h hx.2]

/-- A head that hears its step's frame is in training with its gate off and has taken what the frame carries. -/
theorem StepSent.trains {step : Nat} {P : Head → Prop} (h : StepSent s n nz step t)
    (hP : ∀ h : Head, h.phase ≠ .run → P (h.hear ((s.link n).command step).1 ((s.link n).command step).2 t.now))
    (harr : arriveBytes nz ((s.link n).sent step) = (s.link n).sent step ∧ nz.violation = false)
    (hr : step = 2 ∨ (s.link n).head.phase ≠ .run) :
    (t.link n).head.phase = .training ∧ (t.link n).head.on = false ∧ P (t.link n).head := by
  obtain ⟨head, hhead, heq⟩ := h.heard harr.1 harr.2 hr
  obtain ⟨hph, hon⟩ := Head.hear_trains ((s.link n).command step).1 ((s.link n).command step).2 t.now hhead
  rw [heq]
  exact ⟨hph, hon, hP head hhead⟩

/-! ## The end of a link's training (R240) -/

/-- The fields that show a training's result. -/
def resultFlds : List Fld := [R.HLK_TRAIN_STATUS.RESULT, R.HLK_TRAIN_STATUS.LINK]

theorem State.trainEnd_spares (s : State) : Spares resultFlds s s.trainEnd := by
  unfold State.trainEnd
  split
  · exact .refl s
  · refine .ite (.refl s) (Spares.irq (Spares.wr ?_ _ R.HLK_TRAIN_STATUS.BUSY _ _ _ (by decide)) _ _ _)
    exact (Spares.refl s).of_regs rfl

theorem State.hoist_irq (s : State) (l : Lane) (en : Fld) (i : Nat) : (s.irq l en i).hoist = s.hoist := by
  unfold State.irq State.irqOf
  split
  · exact State.modRun_hoist ..
  · rfl

/-- The end of the training leaves the links and the time as they are. -/
theorem State.trainEnd_stands (s : State) : s.trainEnd.hoist.links = s.hoist.links ∧ s.trainEnd.now = s.now := by
  unfold State.trainEnd
  split
  · exact ⟨rfl, rfl⟩
  · dsimp only
    split
    · exact ⟨rfl, rfl⟩
    · exact ⟨(congrArg HoistSt.links (State.hoist_irq ..)).trans rfl, (State.irq_now ..).trans rfl⟩

theorem State.trainEnd_link (s : State) (n : Fin 40) : s.trainEnd.link n = s.link n :=
  congrArg (fun v : Vector HoistLink 40 => v[n]) s.trainEnd_stands.1

/-- With no link in a step of its training, the training is over: the lock is free. -/
theorem State.trainEnd_unlocks (h : ∀ m, (s.link m).inTraining = false) : s.trainEnd.hoist.lock = none := by
  unfold State.trainEnd
  split
  · next hl => exact hl
  · rw [if_neg (by simp [h])]
    exact congrArg HoistSt.lock (State.hoist_irq ..)

/-- With no link in a step of its training, the lane that trains is not busy any more. -/
theorem State.trainEnd_idles (hs : s.regsOk = true) (hl : s.hoist.lock = some l) (h : ∀ m, (s.link m).inTraining = false) :
    s.trainEnd.rd (laneDie l) R.HLK_TRAIN_STATUS.BUSY = 0 := by
  unfold State.trainEnd
  rw [hl]
  dsimp only
  rw [if_neg (by simp [h]), State.rd_irq]
  exact State.rd_wr_same _ _ _ _ _ _ hs

/-- A link whose training has failed. -/
def State.linkFailed (s : State) (n : Fin 40) : State := s.modLink n fun k => { k with phase := .static, hlgOk := false }

/-- The result of a lane's training shows, where none shows yet. -/
def State.resultShown (s : State) (l : Lane) (n : Fin 40) (result : Nat) : State :=
  if s.rd (laneDie l) R.HLK_TRAIN_STATUS.RESULT = 0 then
    (s.wr (laneDie l) R.HLK_TRAIN_STATUS.RESULT result).wr (laneDie l) R.HLK_TRAIN_STATUS.LINK n
  else s

theorem State.trainFail_unlocked (result : Nat) (hl : s.hoist.lock = none) : s.trainFail n result = s.linkFailed n := by
  show (match s.hoist.lock with | none => _ | some l => _) = _
  rw [hl]
  rfl

theorem State.trainFail_locked (result : Nat) (hl : s.hoist.lock = some l) :
    s.trainFail n result = ((s.linkFailed n).resultShown l n result).trainEnd := by
  show (match s.hoist.lock with | none => _ | some l => _) = _
  rw [hl]
  rfl

/-- From `s` to `t` the training of link `n` has failed with a result. -/
structure TrainFailed (s : State) (n : Fin 40) (result : Nat) (t : State) : Prop where
  phase : (t.link n).phase = .static
  hlgOk : (t.link n).hlgOk = false
  now : t.now = s.now
  shown : ∀ l, s.hoist.lock = some l → s.rd (laneDie l) R.HLK_TRAIN_STATUS.RESULT = 0 →
    t.rd (laneDie l) R.HLK_TRAIN_STATUS.RESULT = result ∧ t.rd (laneDie l) R.HLK_TRAIN_STATUS.LINK = n

theorem State.resultShown_stands (s : State) (l : Lane) (n : Fin 40) (result : Nat) :
    (s.resultShown l n result).hoist = s.hoist ∧ (s.resultShown l n result).now = s.now := by
  unfold State.resultShown
  split <;> exact ⟨rfl, rfl⟩

/-- The first result of a training shows with its link (R240). -/
theorem State.resultShown_reads {result : Nat} (hs : s.regsOk = true) (hr : result < 8)
    (h0 : s.rd (laneDie l) R.HLK_TRAIN_STATUS.RESULT = 0) :
    (s.resultShown l n result).rd (laneDie l) R.HLK_TRAIN_STATUS.RESULT = result ∧
    (s.resultShown l n result).rd (laneDie l) R.HLK_TRAIN_STATUS.LINK = n := by
  unfold State.resultShown
  rw [if_pos h0]
  have h1 := State.wr_regsOk s (laneDie l) R.HLK_TRAIN_STATUS.RESULT result 0 0 hs
  refine ⟨(State.rd_wr_apart _ _ _ _ _ _ _ _ _ _ h1 (by decide)).trans ((State.rd_wr_same _ _ _ _ _ _ hs).trans (low_of_lt hr)),
    (State.rd_wr_same _ _ _ _ _ _ h1).trans (low_of_lt ?_)⟩
  exact Nat.lt_trans n.isLt (by decide)

theorem State.trainFail_fails (s : State) (n : Fin 40) {result : Nat} (hs : s.regsOk = true) (hr : result < 8) :
    TrainFailed s n result (s.trainFail n result) := by
  have hfailed : (s.linkFailed n).link n = { s.link n with phase := .static, hlgOk := false } := State.link_modLink_same ..
  cases hl : s.hoist.lock with
  | none =>
    rw [State.trainFail_unlocked result hl]
    exact ⟨by rw [hfailed], by rw [hfailed], rfl, fun l hx => absurd (hl.symm.trans hx) (by simp)⟩
  | some l =>
    rw [State.trainFail_locked result hl]
    obtain ⟨hhoist, hnow⟩ := (s.linkFailed n).resultShown_stands l n result
    have hlink := (State.trainEnd_link ((s.linkFailed n).resultShown l n result) n).trans
      ((State.link_of_hoist hhoist n).trans hfailed)
    refine ⟨by rw [hlink], by rw [hlink], (State.trainEnd_stands _).2.trans hnow, fun k hk h0 => ?_⟩
    obtain rfl : l = k := Option.some.inj (hl.symm.trans hk)
    have hok : ((s.linkFailed n).resultShown l n result).regsOk = true := by
      unfold State.resultShown
      split
      · exact State.wr_regsOk _ _ _ _ _ _ (State.wr_regsOk _ _ _ _ _ _ hs)
      · exact hs
    obtain ⟨hres, hlk⟩ := State.resultShown_reads (s := s.linkFailed n) (n := n) hs hr h0
    have hend := State.trainEnd_spares ((s.linkFailed n).resultShown l n result)
    exact ⟨(hend.rd hok _ _ _ _ (by simp [resultFlds])).trans hres, (hend.rd hok _ _ _ _ (by simp [resultFlds])).trans hlk⟩

end

end Sys2Proof.Machine
end

section
/-!
PROOFS. The steps of the Hoist training (R227 to R232, R239, R240): what each command does, its start and its end.
-/
namespace Sys2Proof.Machine

section
variable {s t u : State} {n : Fin 40} {l : Lane} {nz : Noise} {f : UplinkFrame} {p : List Nat}

/-! ## The frames of steps 2 to 7 (R228, R231) -/

/-- A frame of four bytes carries a setting of 32 bits. -/
theorem Head.hear_sc {h : Head} (v now : Nat) (hr : h.phase ≠ .run) : (h.hear 1 (leBytes v 4) now).sc = some (low 32 v) := by
  unfold Head.hear
  rw [if_neg hr, bytesNat_leBytes]
  rfl

theorem Head.hear_gate {h : Head} (v now : Nat) (hr : h.phase ≠ .run) : (h.hear 2 (leBytes v 4) now).gate = some (low 32 v) := by
  unfold Head.hear
  rw [if_neg hr, bytesNat_leBytes]
  rfl

theorem Head.hear_loss {h : Head} (act lw : Bool) (now : Nat) (hr : h.phase ≠ .run) :
    (h.hear 3 [b2n act + 2 * b2n lw] now).loss = some (act, lw) := by
  unfold Head.hear
  rw [if_neg hr]
  cases act <;> cases lw <;> rfl

theorem Head.hear_read {h : Head} (now : Nat) (hr : h.phase ≠ .run) : (h.hear 4 [] now).armed = none := by
  unfold Head.hear
  rw [if_neg hr]
  rfl

theorem Head.hear_run {h : Head} (now : Nat) (hr : h.phase ≠ .run) : (h.hear 6 [] now).armed = some now := by
  unfold Head.hear
  rw [if_neg hr]
  rfl

/-- The HLG pattern ends step 6; without it the link's training fails with result 4 (R231, R240). -/
theorem hlg_test_judged (seen : List (Fin 3 × Nat)) (hs : s.regsOk = true) (hph : (s.link n).phase = .training 6 false) :
    leads (.hoistHlgTest n nz seen) s fun t =>
      (patternSeen seen = true → (t.link n).hlgOk = true ∧ (t.link n).phase = .training 7 false) ∧
      (patternSeen seen = false → ∃ u, TrainFailed u n 4 t ∧ u.regs = s.regs ∧ u.hoist.lock = s.hoist.lock) := by
  have hsent : StepSent s n nz 6 (s.sendStep n 6 nz) := State.sendStep_sent hph
  let s1 := s.sendStep n 6 nz
  let s2 := s1.advTo (s1.now + min (5 * us) ((seen.map fun x => x.2).sum / 10))
  have hexec : exec (.hoistHlgTest n nz seen) s = .next (if patternSeen seen then
      s2.modLink n fun k => { k with hlgOk := true, mism := 0, phase := .training 7 false, stepAt := s2.now }
      else s2.trainFail n 4) := congrArg Host.Outcome.next (if_pos hph)
  refine leads_of_exec hexec ⟨fun hseen => ?_, fun hseen => ?_⟩
  · rw [if_pos hseen, State.link_modLink_same]
    exact ⟨rfl, rfl⟩
  · rw [hseen]
    have hregs : Spares [] s s2 := (Spares.refl s).of_regs hsent.regs
    exact ⟨s2, s2.trainFail_fails n (hregs.ok hs) (by decide), hsent.regs, hsent.lock⟩

/-! ## Answers and their loss (R229, R232, R240) -/

/-- The attempts of each step. -/
theorem maxAttempts_eq (st : Fin 8) : maxAttempts st = if st = 2 then 100 else if st = 7 then 1 else 3 := by
  revert st
  decide

/-- A link with one more attempt, whose frame ends at instant `now`. -/
def HoistLink.triedAgain (k : HoistLink) (now : Nat) : HoistLink := { k with attempts := k.attempts + 1, stepAt := now }

/-- A step's frame is sent once more. -/
def State.resent (s : State) (n : Fin 40) (nz : Noise) (step stop : Nat) : State :=
  (s.advTo stop).modLink n fun k => (k.triedAgain (max s.now stop)).deliver step nz (max s.now stop)

theorem State.resent_link (s : State) (n : Fin 40) (nz : Noise) (step stop : Nat) :
    ((s.resent n nz step stop).link n).phase = (s.link n).phase ∧
    ((s.resent n nz step stop).link n).attempts = (s.link n).attempts + 1 := by
  obtain ⟨h, hdel⟩ := ((s.link n).triedAgain (max s.now stop)).deliver_eq step nz (max s.now stop)
  have hlink : (s.resent n nz step stop).link n = { (s.link n).triedAgain (max s.now stop) with head := h } :=
    (State.link_modLink_same ..).trans hdel
  rw [hlink]
  exact ⟨rfl, rfl⟩

/-- A resent frame counts from the second step on. -/
def State.resentCounted (s : State) (step : Nat) : State :=
  match s.hoist.lock with
  | some l => if step = 2 then s else s.inc (laneDie l) R.HLK_TRAIN_STATUS.RESENDS
  | none => s

theorem State.resentCounted_stands (s : State) (step : Nat) :
    (s.resentCounted step).hoist = s.hoist ∧ (s.resentCounted step).now = s.now := by
  unfold State.resentCounted
  split
  · split <;> exact ⟨rfl, rfl⟩
  · exact ⟨rfl, rfl⟩

theorem State.resentCounted_rose {step : Nat} (hs : s.regsOk = true) (hl : s.hoist.lock = some l) (hstep : step ≠ 2) :
    rose s (s.resentCounted step) (laneDie l) R.HLK_TRAIN_STATUS.RESENDS := by
  unfold State.resentCounted
  rw [hl]
  dsimp only
  rw [if_neg hstep]
  exact rose_inc _ _ _ _ hs

theorem exec_hoistAnswerTimeout {step : Nat} (hph : (s.link n).phase = .training step true) (h : step ≠ 0 ∧ step ≠ 6) :
    exec (.hoistAnswerTimeout n nz) s = .next (if (s.link n).attempts < maxAttempts step then
      (s.resent n nz step ((s.link n).stepAt +
        (if step = 2 then 100 * us else 8 * us + (s.link n).sendTime step))).resentCounted step
      else (s.advTo ((s.link n).stepAt + 8 * us)).trainFail n 2) := by
  show execHoistAnswerTimeout n nz s = _
  unfold execHoistAnswerTimeout
  dsimp only
  rw [hph]
  exact congrArg Host.Outcome.next (if_neg (not_or.2 h))

/-- A lost answer is resent up to the step's limit, and then ends the link's training with result 2 (R229, R240). -/
theorem lost_answer_resent {step : Nat} (hs : s.regsOk = true) (hph : (s.link n).phase = .training step true)
    (hst : step ≠ 0 ∧ step ≠ 6) :
    leads (.hoistAnswerTimeout n nz) s fun t =>
      if (s.link n).attempts < maxAttempts step then
        (t.link n).phase = .training step true ∧ (t.link n).attempts = (s.link n).attempts + 1 ∧
        t.now = max s.now ((s.link n).stepAt + (if step = 2 then 100 * us else 8 * us + (s.link n).sendTime step)) ∧
        (∀ l, s.hoist.lock = some l → step ≠ 2 → rose s t (laneDie l) R.HLK_TRAIN_STATUS.RESENDS)
      else TrainFailed (s.advTo ((s.link n).stepAt + 8 * us)) n 2 t := by
  refine leads_of_exec (exec_hoistAnswerTimeout hph hst) ?_
  split
  · let stop := (s.link n).stepAt + (if step = 2 then 100 * us else 8 * us + (s.link n).sendTime step)
    obtain ⟨hphase, hatt⟩ := s.resent_link n nz step stop
    obtain ⟨hhoist, hnow⟩ := (s.resent n nz step stop).resentCounted_stands step
    have hlink := State.link_of_hoist hhoist n
    exact ⟨by rw [hlink, hphase, hph], by rw [hlink, hatt], hnow, fun l hl h2 =>
      State.resentCounted_rose (s := s.resent n nz step stop) hs hl h2⟩
  · exact State.trainFail_fails _ n hs (by decide)

/-- An `ACK` of a step's code ends the step (R240). -/
theorem exec_hoistAck (hm : s.monitors n = true) (hu : uplinkBody f = some (0x31, p)) :
    exec (.hoistAck n f) s = .next (s.acked n (p.getD 0 0)) := by
  show execHoistAck n f s = _
  unfold execHoistAck
  rw [State.uplink_of_monitors hm, hu]
  rfl

/-- The link after the `ACK` of a step before `RUN`. -/
theorem State.acked_step {code step : Nat} (hc : ackStep code = some step) (hph : (s.link n).phase = .training step true)
    (h7 : step ≠ 7) : ((s.acked n code).link n).phase = .training (step + 1) false ∧
      ((s.acked n code).link n).on = (s.link n).on := by
  unfold State.acked
  rw [hc]
  dsimp only
  rw [if_pos hph, if_neg h7, State.link_modLink_same]
  exact ⟨rfl, rfl⟩

/-- A link that has been put in run state. -/
def State.linkRuns (s : State) (n : Fin 40) : State :=
  s.modLink n fun k =>
    { k with phase := .run, trained := true, attempts := 0, lastStat := s.now, want := false, withheld := false }

/-- A link in run state with its level off, or at what holds its group. -/
def State.linkRunsGoverned (s : State) (n : Fin 40) : State :=
  if (s.linkRuns n).linkFree n then s.linkRuns n else (s.linkRuns n).groupApply ((s.linkRuns n).link n).cfg.group

theorem State.linkFree_linkRuns (s : State) (n : Fin 40) : (s.linkRuns n).linkFree n = s.linkFree n := by
  unfold State.linkFree State.linkRuns
  rw [State.link_modLink_same]
  rfl

theorem State.linkRunsGoverned_drives (s : State) (n : Fin 40) : DrivesOnly [] (s.linkRuns n) (s.linkRunsGoverned n) :=
  .ite (.refl _) (.groupApply (.refl _) _)

theorem State.acked_run (hph : (s.link n).phase = .training 7 true) : s.acked n 6 = (s.linkRunsGoverned n).trainEnd :=
  if_pos hph

/-- What drives gates alone ends no training. -/
theorem DrivesOnly.inTraining {fs : List Fld} (h : DrivesOnly fs s t) (m : Fin 40) :
    (t.link m).inTraining = (s.link m).inTraining := by
  have hin := congrArg HoistLink.inTraining (h.link m)
  exact hin

/-- The `ACK` of `RUN` puts the link in run state; with no other link in its training, the training is over (R240). -/
theorem State.acked_run_runs (hph : (s.link n).phase = .training 7 true) :
    ((s.acked n 6).link n).phase = .run ∧ ((s.acked n 6).link n).trained = true ∧
    (s.linkFree n = true → ((s.acked n 6).link n).on = (s.link n).on) ∧
    ((∀ m : Fin 40, m ≠ n → (s.link m).inTraining = false) → (s.acked n 6).hoist.lock = none) := by
  have hd := s.linkRunsGoverned_drives n
  have hruns : ∀ m, (s.linkRuns n).link m = _ := fun m => State.link_modLink s n m _
  rw [State.acked_run hph, State.trainEnd_link]
  refine ⟨(congrArg HoistLink.phase (hd.link n)).trans ?_, (congrArg HoistLink.trained (hd.link n)).trans ?_,
    fun hf => ?_, fun h => ?_⟩
  · rw [hruns]
    simp [HoistLink.undriven]
  · rw [hruns]
    simp [HoistLink.undriven]
  · unfold State.linkRunsGoverned
    rw [State.linkFree_linkRuns, if_pos hf, hruns, if_pos rfl]
  · refine State.trainEnd_unlocks fun m => ?_
    rw [hd.inTraining, hruns]
    split
    · rfl
    · next hmn => exact h m hmn

/-- A passing echo ends step 5, a differing one the link's training with result 3 (R232, R240). -/
theorem echo_judged (ok : Bool) (hs : s.regsOk = true) (hm : s.monitors n = true) (hu : uplinkBody f = some (0x30, p))
    (hph : (s.link n).phase = .training 5 true) :
    leads (.hoistEcho n f ok) s fun t =>
      if bytesNat (p.take 4) = (s.link n).cfg.sc ∧ bytesNat (p.drop 4) = (s.link n).cfg.gate ∧ ok = true then
        (t.link n).phase = .training 6 false
      else TrainFailed s n 3 t := by
  have hexec : exec (.hoistEcho n f ok) s = .next
      (if bytesNat (p.take 4) = (s.link n).cfg.sc ∧ bytesNat (p.drop 4) = (s.link n).cfg.gate ∧ ok = true then
        s.modLink n fun k => { k with phase := .training 6 false, attempts := 0, stepAt := s.now }
      else s.trainFail n 3) := by
    show execHoistEcho n f ok s = _
    unfold execHoistEcho
    rw [State.uplink_of_monitors hm, hu]
    exact congrArg Host.Outcome.next (if_pos ⟨rfl, hph⟩)
  refine leads_of_exec hexec ?_
  split
  · rw [State.link_modLink_same]
  · exact s.trainFail_fails n hs (by decide)

/-- A frame that is not valid only counts (R223, R246). -/
theorem State.uplinkBad_counted (l : Lane) (hs : s.regsOk = true) (hm : s.monitors n = true) :
    (s.monitors n = true → rose s (s.uplinkBad n) (laneDie l) R.HLK_LINKnn_CNT.CRC_ERR n) ∧
    (s.monitors n = false → s.uplinkBad n = s) ∧ (s.uplinkBad n).hoist = s.hoist := by
  have hbad : s.uplinkBad n = s.linkCount n R.HLK_LINKnn_CNT.CRC_ERR := if_pos hm
  rw [hbad]
  exact ⟨fun _ => State.linkCount_rose s n l hs (by decide), fun h => absurd (hm.symm.trans h) (by decide), rfl⟩

/-- No answer is read from a frame that is not valid. -/
theorem exec_bad_frame (ok : Bool) (hm : s.monitors n = true) (hu : uplinkBody f = none) :
    exec (.hoistAck n f) s = .next (s.uplinkBad n) ∧ exec (.hoistEcho n f ok) s = .next (s.uplinkBad n) ∧
    exec (.hoistStatus n f) s = .next (s.uplinkBad n) ∧ exec (.hoistFault n f) s = .next (s.uplinkBad n) := by
  have h : s.uplink n f = none := (State.uplink_of_monitors hm).trans hu
  refine ⟨?_, ?_, ?_, ?_⟩
  · show execHoistAck n f s = _
    unfold execHoistAck
    rw [h]
  · show execHoistEcho n f ok s = _
    unfold execHoistEcho
    rw [h]
  · show execHoistStatus n f s = _
    unfold execHoistStatus
    rw [h]
  · show execHoistFault n f s = _
    unfold execHoistFault
    rw [h]

end

end Sys2Proof.Machine
end

section
/-!
PROOFS. The start and the end of the Hoist training (R239, R240), and the obligation on its steps.
-/
namespace Sys2Proof.Machine

section
variable {s t : State} {n : Fin 40} {l : Lane} {nz : Noise}

/-! ## The start (R239, R240) -/

/-- A link at the start of a training, with its lane's settings. -/
def State.linkBegun (s : State) (l : Lane) (n : Fin 40) (k : HoistLink) : HoistLink :=
  HoistLink.follow { k with
    cfg := s.linkCfgOf l n, phase := if (s.linkCfgOf l n).en then .training 2 false else .static, trained := false, want := false,
    on := false, edgeAt := if k.on then max s.steps (k.edgeAt + 2048) else k.edgeAt, hlgOk := k.hlgOk && (s.linkCfgOf l n).en,
    withheld := false, attempts := 0, mism := 0, lastStat := s.now, stepAt := s.now }

theorem HoistLink.follow_eq (k : HoistLink) : ∃ h, k.follow = { k with head := h } := by
  unfold HoistLink.follow
  split
  · exact ⟨_, rfl⟩
  · exact ⟨k.head, rfl⟩

theorem State.linkBegun_eq (s : State) (l : Lane) (n : Fin 40) (k : HoistLink) :
    (s.linkBegun l n k).on = false ∧ (s.linkBegun l n k).cfg = s.linkCfgOf l n ∧
    (s.linkBegun l n k).phase = if s.on (laneDie l) R.HLK_LINKnn_CFG.EN n then .training 2 false else .static := by
  unfold State.linkBegun
  obtain ⟨h, heq⟩ := HoistLink.follow_eq _
  rw [heq]
  exact ⟨rfl, rfl, rfl⟩

/-- Every link begins with its lane's settings. -/
theorem State.trainBegin_link (s : State) (l : Lane) (n : Fin 40) : (s.trainBegin l).link n = s.linkBegun l n (s.link n) :=
  (foldl_upd_each_get (s.linkBegun l) n s.hoist.links (List.nodup_finRange 40)).trans (if_pos (List.mem_finRange n))

/-- A lane shows that it trains. -/
def State.trainShown (s : State) (l : Lane) : State :=
  (((s.wr (laneDie l) R.HLK_TRAIN_STATUS.BUSY 1).wr (laneDie l) R.HLK_TRAIN_STATUS.RESULT 0).wr (laneDie l)
    R.HLK_TRAIN_STATUS.LINK 0).wr (laneDie l) R.HLK_TRAIN_STATUS.RESENDS 0

/-- The lane that trains shows no result and no resent frame, and is busy. -/
theorem State.trainShown_status (l : Lane) (hs : s.regsOk = true) :
    (s.trainShown l).rd (laneDie l) R.HLK_TRAIN_STATUS.BUSY = 1 ∧
    (s.trainShown l).rd (laneDie l) R.HLK_TRAIN_STATUS.RESULT = 0 ∧
    (s.trainShown l).rd (laneDie l) R.HLK_TRAIN_STATUS.RESENDS = 0 := by
  unfold State.trainShown
  have hbusy := State.wr_regsOk s (laneDie l) R.HLK_TRAIN_STATUS.BUSY 1 0 0 hs
  have hresult := State.wr_regsOk _ (laneDie l) R.HLK_TRAIN_STATUS.RESULT 0 0 0 hbusy
  have hlink := State.wr_regsOk _ (laneDie l) R.HLK_TRAIN_STATUS.LINK 0 0 0 hresult
  refine ⟨?_, ?_, State.rd_wr_same _ _ _ _ _ _ hlink⟩
  · exact (State.rd_wr_apart _ _ _ _ _ _ _ _ _ _ hlink (by decide)).trans
      ((State.rd_wr_apart _ _ _ _ _ _ _ _ _ _ hresult (by decide)).trans
        ((State.rd_wr_apart _ _ _ _ _ _ _ _ _ _ hbusy (by decide)).trans (State.rd_wr_same _ _ _ _ _ _ hs)))
  · exact (State.rd_wr_apart _ _ _ _ _ _ _ _ _ _ hlink (by decide)).trans
      ((State.rd_wr_apart _ _ _ _ _ _ _ _ _ _ hresult (by decide)).trans (State.rd_wr_same _ _ _ _ _ _ hbusy))

/-- A training begins with the Deputy's tables and the lane's fields. -/
theorem State.trainBegin_shown (s : State) (l : Lane) : ∃ h : HoistSt,
    s.trainBegin l = ({ s with hoist := h } : State).trainShown l ∧ h.lock = some l ∧ h.recordValid = false :=
  ⟨_, rfl, rfl, rfl⟩

/-- A lane starts the training in Service, while no lane is granted or holds the grant and the other does not train. -/
theorem exec_hlkTrainStart (hl : s.alive l = true) :
    exec (.hlkTrainStart l) s = .next (if s.depOn = true ∧ s.modeOf l = modeService ∧ s.holder = none ∧
      s.rd .ds R.DSP_GRANT.STATE ≠ grantHold ∧ s.hoist.lock ≠ some l.other then s.trainBegin l
    else s.wr (laneDie l) R.HLK_TRAIN_STATUS.RESULT 1) := by
  show execHlkTrainStart l s = _
  unfold execHlkTrainStart
  rw [if_pos hl]
  refine congrArg Host.Outcome.next (if_congr ?_ rfl rfl)
  simp only [Bool.and_eq_true, beq_iff_eq, Option.isNone_iff_eq_none, bne_iff_ne]
  exact ⟨fun ⟨⟨⟨⟨hdep, hmode⟩, hholder⟩, hlock⟩, hgrant⟩ => ⟨hdep, hmode, hholder, hgrant, hlock⟩,
    fun ⟨hdep, hmode, hholder, hgrant, hlock⟩ => ⟨⟨⟨⟨hdep, hmode⟩, hholder⟩, hlock⟩, hgrant⟩⟩

/-! ## The abort (R240) -/

/-- An unfinished link stays in training. -/
def HoistLink.stopped (k : HoistLink) : HoistLink := if k.inTraining then { k with phase := .training 0 false } else k

theorem HoistLink.stopped_inTraining (k : HoistLink) : k.stopped.inTraining = false := by
  unfold HoistLink.stopped
  split
  · rfl
  · next h => exact Bool.eq_false_iff.2 h

/-- Link `n`, unfinished, stays in training. -/
def State.linkStopped (s : State) (n : Fin 40) : State :=
  if (s.link n).inTraining then s.modLink n fun k => { k with phase := .training 0 false } else s

theorem State.linkStopped_same (s : State) (n : Fin 40) : (s.linkStopped n).link n = (s.link n).stopped := by
  unfold State.linkStopped HoistLink.stopped
  split
  · exact State.link_modLink_same ..
  · rfl

theorem State.linkStopped_other (s : State) {m : Fin 40} (h : m ≠ n) : (s.linkStopped m).link n = s.link n := by
  unfold State.linkStopped
  split
  · exact (State.link_modLink ..).trans (if_neg h.symm)
  · rfl

/-- Every unfinished link stays in training. -/
def State.linksStopped (s : State) : State := s.each allLinks State.linkStopped

theorem State.linksStopped_link (s : State) (n : Fin 40) : s.linksStopped.link n = (s.link n).stopped := by
  obtain ⟨u, hu, hlast⟩ := State.each_of_mem (f := State.linkStopped) (k := n)
    (R := fun s t : State => t.link n = s.link n) (fun _ => rfl) (fun h g => g.trans h)
    (fun s _ h => s.linkStopped_other h) (List.nodup_finRange 40) (List.mem_finRange n) s
  exact hlast.trans ((State.linkStopped_same u n).trans (congrArg HoistLink.stopped hu))

/-- The registers and the training lock stand. -/
def LockStands (s t : State) : Prop := t.regs = s.regs ∧ t.hoist.lock = s.hoist.lock

theorem State.linkStopped_stands (s : State) (n : Fin 40) : LockStands s (s.linkStopped n) := by
  unfold State.linkStopped
  split <;> exact ⟨rfl, rfl⟩

theorem State.linksStopped_stands (s : State) : LockStands s s.linksStopped :=
  State.each_related (R := LockStands) (fun _ => ⟨rfl, rfl⟩) (fun h g => ⟨g.1.trans h.1, g.2.trans h.2⟩)
    (fun s n _ => s.linkStopped_stands n) s

/-- An abort ends the training of the lane that holds the lock with result 6. -/
theorem train_aborted (hs : s.regsOk = true) (hl : s.hoist.lock = some l) :
    leads (.hlkTrainAbort l) s fun t =>
      t.rd (laneDie l) R.HLK_TRAIN_STATUS.RESULT = 6 ∧ t.rd (laneDie l) R.HLK_TRAIN_STATUS.BUSY = 0 ∧ t.hoist.lock = none ∧
      (∀ n : Fin 40, (s.link n).inTraining = true → (t.link n).phase = .training 0 false) := by
  have hexec : exec (.hlkTrainAbort l) s = .next (s.linksStopped.wr (laneDie l) R.HLK_TRAIN_STATUS.RESULT 6).trainEnd :=
    congrArg Host.Outcome.next (if_pos hl)
  refine leads_of_exec hexec ?_
  obtain ⟨hregs, hlock⟩ := s.linksStopped_stands
  have hstopped := s.linksStopped_link
  generalize s.linksStopped = v at hregs hlock hstopped
  have hok : v.regsOk = true := ((Spares.refl (fs := []) s).of_regs hregs).ok hs
  let u := v.wr (laneDie l) R.HLK_TRAIN_STATUS.RESULT 6
  have hidle : ∀ m, (u.link m).inTraining = false := fun m =>
    (congrArg HoistLink.inTraining (hstopped m)).trans (HoistLink.stopped_inTraining _)
  refine ⟨u.trainEnd_spares.rd_wr hok (by simp [resultFlds]), State.trainEnd_idles (State.wr_regsOk _ _ _ _ _ _ hok)
    (hlock.trans hl) hidle, State.trainEnd_unlocks hidle, fun n h => ?_⟩
  have hlink : u.trainEnd.link n = (s.link n).stopped := (u.trainEnd_link n).trans (hstopped n)
  rw [hlink]
  unfold HoistLink.stopped
  rw [if_pos h]

/-! ## The obligation -/

/-- A command that sends the frame of a step leads to its having been sent; the head that hears it has taken what it carries. -/
theorem step_sends {c : Instr} {step : Nat} {P : State → Head → Prop} (hc : exec c s = .next (s.sendStep n step nz))
    (hph : (s.link n).phase = .training step false)
    (hP : ∀ (t : State) (h : Head), h.phase ≠ .run →
      P t (h.hear ((s.link n).command step).1 ((s.link n).command step).2 t.now)) :
    leads c s fun t =>
      (t.link n).phase = .training step true ∧ (t.link n).attempts = 1 ∧ t.now = max s.now ((s.link n).stepEnd step) ∧
      (arriveBytes nz ((s.link n).sent step) = (s.link n).sent step ∧ nz.violation = false →
        step = 2 ∨ (s.link n).head.phase ≠ .run →
        (t.link n).head.phase = .training ∧ (t.link n).head.on = false ∧ P t (t.link n).head) ∧
      (frameBody downLen (arriveBytes nz ((s.link n).sent step)) nz.violation = none →
        step ≠ 2 ∨ (s.link n).head.phase ≠ .run → (t.link n).head = (s.link n).head) := by
  have h := State.sendStep_sent (nz := nz) hph
  exact leads_of_exec hc ⟨h.phase, h.attempts, h.now, h.trains (hP _), h.unheard⟩

end

/-- Settles O25: the frame of a step, its answer or its loss, and the start and the abort of a training, each from the lemma on
its command. -/
theorem hoistTrainingStepsProceedAndEnd : Obligations.HoistTrainingStepsProceedAndEnd := by
  unfold Obligations.HoistTrainingStepsProceedAndEnd
  refine ⟨?_, ?_, ?_, ?_, ?_, ?_, ?_, ?_⟩
  · intro s n nz st hph arrives sends
    refine ⟨?_, ?_, ?_, ?_, ?_⟩ <;> rintro rfl
    · exact step_sends (step := 2) (P := fun _ h => h.sc = some (low 32 (s.link n).cfg.sc)) rfl hph
        fun t _ hr => Head.hear_sc _ t.now hr
    · exact step_sends (step := 3) (P := fun _ h => h.gate = some (low 32 (s.link n).cfg.gate)) rfl hph
        fun t _ hr => Head.hear_gate _ t.now hr
    · exact step_sends (step := 4) (P := fun _ h => h.loss = some ((s.link n).cfg.lossAct, (s.link n).cfg.low)) rfl hph
        fun t _ hr => Head.hear_loss _ _ t.now hr
    · exact step_sends (step := 5) (P := fun _ h => h.armed = none) rfl hph fun t _ hr => Head.hear_read t.now hr
    · exact step_sends (step := 7) (P := fun t h => h.armed = some t.now) rfl hph fun t _ hr => Head.hear_run t.now hr
  · intro s n nz seen hs hph
    obtain ⟨t, hexec, hseen, hmissing⟩ := hlg_test_judged (nz := nz) seen (canonical_regs hs) hph
    refine leads_of_exec hexec ⟨hseen, fun h => ?_⟩
    obtain ⟨u, hfail, hregs, hlock⟩ := hmissing h
    refine ⟨hfail.phase, hfail.hlgOk, fun l hl h0 => hfail.shown l (hlock.trans hl) ?_⟩
    have hspares : Spares [R.HLK_TRAIN_STATUS.RESULT] s u := (Spares.refl s).of_regs hregs
    exact (hspares.rd (canonical_regs hs) _ _ _ _ (by simp)).trans h0
  · intro s n nz st hs hph hst
    have h2 : (st : Nat) = 2 ↔ st = 2 := (Fin.ext_iff (b := (2 : Fin 8))).symm
    obtain ⟨t, hexec, h⟩ := lost_answer_resent (nz := nz) (canonical_regs hs) hph
      ⟨fun h => hst.1 (Fin.ext h), fun h => hst.2 (Fin.ext h)⟩
    refine leads_of_exec hexec ?_
    rw [maxAttempts_eq] at h
    simp only [h2] at h
    by_cases hx : (s.link n).attempts < if st = 2 then 100 else if st = 7 then 1 else 3
    · rw [if_pos hx] at h ⊢
      obtain ⟨hphase, hatt, hnow, hrose⟩ := h
      exact ⟨hphase, hatt, hnow, fun l hl hne => hrose l hl fun h => hne (h2.1 h)⟩
    · rw [if_neg hx] at h ⊢
      exact ⟨h.now, h.phase, h.shown⟩
  · intro s n st f p hm hu hph hcode
    refine leads_of_exec (exec_hoistAck hm hu) ?_
    rcases hcode with ⟨rfl, hp⟩ | ⟨rfl, hp⟩ | ⟨rfl, hp⟩ | ⟨rfl, hp⟩ <;> rw [hp]
    · exact ⟨fun h => absurd h (by decide), fun _ => State.acked_step rfl hph (by decide)⟩
    · exact ⟨fun h => absurd h (by decide), fun _ => State.acked_step rfl hph (by decide)⟩
    · exact ⟨fun h => absurd h (by decide), fun _ => State.acked_step rfl hph (by decide)⟩
    · exact ⟨fun _ => State.acked_run_runs hph, fun h => absurd rfl h⟩
  · intro s n f p ok hs hm hu hph
    obtain ⟨t, hexec, h⟩ := echo_judged ok (canonical_regs hs) hm hu hph
    refine leads_of_exec hexec ?_
    split
    · next hx => rwa [if_pos hx] at h
    · next hx =>
      rw [if_neg hx] at h
      exact ⟨h.phase, h.shown⟩
  · intro s n f ok l hs hm hu counted
    obtain ⟨hack, hecho, hstatus, hfault⟩ := exec_bad_frame ok hm hu
    have hcount := State.uplinkBad_counted l (canonical_regs hs) hm
    exact ⟨leads_of_exec hack hcount, leads_of_exec hecho hcount, leads_of_exec hstatus hcount, leads_of_exec hfault hcount⟩
  · intro s l hs hl
    refine leads_of_exec (exec_hlkTrainStart hl) ?_
    split
    · obtain ⟨h, hbegin, -, -⟩ := s.trainBegin_shown l
      obtain ⟨hbusy, hresult, hresends⟩ := State.trainShown_status (s := { s with hoist := h }) l (canonical_regs hs)
      rw [← hbegin] at hbusy hresult hresends
      refine ⟨rfl, rfl, hbusy, hresult, hresends, fun n => ?_⟩
      rw [State.trainBegin_link]
      exact s.linkBegun_eq l n _
    · exact ⟨State.rd_wr_same _ _ _ _ _ _ (canonical_regs hs), rfl⟩
  · intro s l hs
    by_cases hl : s.hoist.lock = some l
    · obtain ⟨t, hexec, h⟩ := train_aborted (canonical_regs hs) hl
      exact leads_of_exec hexec ⟨fun hn => absurd hl hn, fun _ => h⟩
    · exact leads_of_exec (congrArg Host.Outcome.next (if_neg hl)) ⟨fun _ => rfl, fun h => absurd h hl⟩

end Sys2Proof.Machine
end

section
/-!
PROOFS. What the motor block's operations leave as they were (R253, R257, R262 to R264): the gate drives touch no machine's state,
and the holds, the regions and the transitions of the angle write none of the fields that decide the next transition.
-/
namespace Sys2Proof.Machine

/-- An operation outside whose mask the clock lies takes no time. -/
theorem Within.now_eq {m : Nat} {s t : State} (h : Within m s t) (hm : Nat.testBit m 43 = false) : t.now = s.now := (h.now hm).1

/-! ## The gate drives leave the machines' state -/

/-- Both lanes' machines are as they were. -/
structure MachStands (s t : State) : Prop where
  mot : ∀ k, (t.run k).mot = (s.run k).mot

section
variable {s t u : State} {l : Lane}

theorem MachStands.refl (s : State) : MachStands s s := ⟨fun _ => rfl⟩

theorem MachStands.trans (h : MachStands s t) (g : MachStands t u) : MachStands s u := ⟨fun k => (g.mot k).trans (h.mot k)⟩

/-- A machine's state stands where both lanes' machines do. -/
theorem MachStands.mach (h : MachStands s t) (l : Lane) (m : Fin 2) : t.mach l m = s.mach l m :=
  congrArg (fun x : Vector MotMach 2 => x[m]) (h.mot l)

theorem MachStands.wr (h : MachStands s t) (d : Die) (g : Fld) (v i j : Nat) : MachStands s (t.wr d g v i j) :=
  h.trans ⟨fun k => by rw [State.wr_run]⟩

/-- A change of what a lane runs, its machines apart. -/
theorem MachStands.modRun (h : MachStands s t) (l : Lane) {f : LaneRun → LaneRun} (hf : ∀ r, (f r).mot = r.mot) :
    MachStands s (t.modRun l f) :=
  h.trans ⟨fun k => by
    rw [State.run_modRun]
    split
    · next hk => rw [hk, hf]
    · rfl⟩

theorem MachStands.modPwm (h : MachStands s t) (l : Lane) (f : PwmSt → PwmSt) : MachStands s (t.modPwm l f) :=
  h.modRun l fun _ => rfl

theorem MachStands.modCh (h : MachStands s t) (l : Lane) (c : Fin 64) (f : PwmCh → PwmCh) : MachStands s (t.modCh l c f) :=
  h.modPwm ..

theorem MachStands.modCe (h : MachStands s t) (l : Lane) (f : CeSt → CeSt) : MachStands s (t.modCe l f) :=
  h.modRun l fun _ => rfl

theorem MachStands.modAdc (h : MachStands s t) (l : Lane) (f : AdcSt → AdcSt) : MachStands s (t.modAdc l f) :=
  h.modRun l fun _ => rfl

theorem MachStands.modTal (h : MachStands s t) (l : Lane) (f : Tally → Tally) : MachStands s (t.modTal l f) :=
  h.modRun l fun _ => rfl

theorem MachStands.modHb (h : MachStands s t) (l : Lane) (n : Fin 16) (f : HalfBridge → HalfBridge) :
    MachStands s (t.modHb l n f) := by
  cases l <;> exact h.trans ⟨fun k => by cases k <;> rfl⟩

theorem MachStands.modLink (h : MachStands s t) (n : Fin 40) (f : HoistLink → HoistLink) : MachStands s (t.modLink n f) :=
  h.trans ⟨fun k => by cases k <;> rfl⟩

theorem MachStands.ite {c : Prop} [Decidable c] (h : MachStands s t) (g : MachStands s u) :
    MachStands s (if c then t else u) := by
  split
  · exact h
  · exact g

theorem MachStands.when (h : MachStands s t) (c : Bool) {f : State → State} (hf : ∀ x, MachStands x (f x)) :
    MachStands s (t.when c f) := h.trans (.ite (hf t) (.refl t))

theorem MachStands.each {α : Type} (h : MachStands s t) (l : List α) {f : State → α → State}
    (hf : ∀ x y, MachStands x (f x y)) : MachStands s (t.each l f) :=
  h.trans (State.each_related MachStands.refl MachStands.trans (fun x y _ => hf x y) t)

theorem MachStands.irq (h : MachStands s t) (l : Lane) (en : Fld) (i : Nat) : MachStands s (t.irq l en i) :=
  .ite (h.modRun l fun _ => rfl) h

theorem MachStands.event (h : MachStands s t) (l : Lane) (e : Event) : MachStands s (t.event l e) :=
  have rf := MachStands.refl
  .ite ((((h.each _ fun x _ => (rf x).when _ fun y => (rf y).modAdc l _).each _
    fun x _ => (rf x).when _ fun y => (rf y).modCe l _).each _ fun x _ => (rf x).when _ fun y => (rf y).modPwm l _).each _
    fun x _ => (rf x).when _ fun y => .ite ((rf y).modCe l _) (rf y)) h

theorem MachStands.submit (h : MachStands s t) (l : Lane) (who : Initiator) (q size dl : Nat) (job : Job) (extra16 : Nat) :
    MachStands s (t.submit l who q size dl job extra16).2 := by
  unfold State.submit
  dsimp only
  split
  · exact h.wr ..
  · exact h.wr ..
  · dsimp only
    exact h.modTal ..

theorem MachStands.logIf (h : MachStands s t) (l : Lane) (en : Fld) (rule detail i : Nat) :
    MachStands s (t.logIf l en rule detail i) :=
  h.when _ fun x => .ite ((MachStands.refl x).submit ..) (.refl x)

/-! ### Hoist links -/

theorem MachStands.hoistWant (h : MachStands s t) (n : Fin 40) (on : Bool) (x : Int) : MachStands s (t.hoistWant n on x) := by
  refine .ite (.ite h (.ite (h.modLink ..) ?_)) ((h.modLink ..).modLink ..)
  split
  · exact (h.modLink ..).modLink ..
  · exact .ite ((h.modLink ..).modLink ..) (h.modLink ..)

theorem MachStands.hoistCmd (h : MachStands s t) (n : Fin 40) (on : Bool) (x : Int) : MachStands s (t.hoistCmd n on x) :=
  .ite ((h.modLink ..).hoistWant ..) (h.modLink ..)

/-! ### Pre-drivers -/

theorem MachStands.pdOff (h : MachStands s t) (l : Lane) (n : Fin 16) (hi : Bool) : MachStands s (t.pdOff l n hi) :=
  .ite ((h.modHb ..).wr ..) ((h.modHb ..).wr ..)

theorem MachStands.pdOn (h : MachStands s t) (l : Lane) (n : Fin 16) (hi : Bool) : MachStands s (t.pdOn l n hi) :=
  .ite ((h.modHb ..).wr ..) ((h.modHb ..).wr ..)

theorem MachStands.pdCmd (h : MachStands s t) (l : Lane) (n : Fin 16) (hi on : Bool) (x : Int) :
    MachStands s (t.pdCmd l n hi on x) :=
  .ite h (.ite (.ite (.ite h (.ite ((h.modHb ..).pdOn ..) (h.modHb ..))) h)
    ((MachStands.ite ((h.modHb ..).pdOff ..) (h.modHb ..)).pdOff ..))

/-! ### Channels of the PWM and trips -/

theorem MachStands.driveDst (h : MachStands s t) (l : Lane) (c : Fin 64) (code : Nat) (on : Bool) (x : Int) :
    MachStands s (t.driveDst l c code on x) := by
  refine .ite (.ite ?_ h) (.ite (h.pdCmd ..) (.ite (h.pdCmd ..) (.ite (h.modPwm ..) h)))
  split
  · exact h.hoistCmd ..
  · exact h

theorem MachStands.driveH (h : MachStands s t) (l : Lane) (c : Fin 64) (on : Bool) (x : Int) :
    MachStands s (t.driveH l c on x) := (h.modCh ..).driveDst ..

theorem MachStands.driveL (h : MachStands s t) (l : Lane) (c : Fin 64) (on : Bool) (x : Int) :
    MachStands s (t.driveL l c on x) := .ite ((h.modCh ..).driveDst ..) (h.modCh ..)

theorem MachStands.chOff (h : MachStands s t) (l : Lane) (c : Fin 64) : MachStands s (t.chOff l c) := by
  have hoff := (h.driveH l c false t.steps).driveL l c false t.steps
  unfold State.chOff State.freePartner
  split
  · exact hoff
  · exact .ite ((hoff.modCh ..).driveH ..) hoff

theorem MachStands.follow (h : MachStands s t) (l : Lane) (c : Fin 64) (level : Bool) : MachStands s (t.follow l c level) := by
  refine .ite (.ite ((h.driveL ..).driveH ..) ((h.driveH ..).driveL ..)) (.ite ?_ ((h.modCh ..).chOff ..))
  split
  · exact h.driveH ..
  · exact .ite (h.modCh ..) (h.driveH ..)

theorem MachStands.setLevel (h : MachStands s t) (l : Lane) (c : Fin 64) (level : Bool) (x : Int) :
    MachStands s (t.setLevel l c level x) := (h.wr ..).modCh ..

theorem MachStands.dropEng (h : MachStands s t) (l : Lane) (c : Fin 64) : MachStands s (t.dropEng l c) := by
  unfold State.dropEng
  split
  · exact (h.modCh ..).modCh ..
  · exact h

theorem MachStands.tripAct (h : MachStands s t) (l : Lane) (g : Nat) (c : Fin 64) : MachStands s (t.tripAct l g c) :=
  .ite (h.chOff ..) (.ite ((h.setLevel ..).follow ..) (.ite (h.follow ..) (h.chOff ..)))

theorem MachStands.raiseTg (h : MachStands s t) (l : Lane) (g : Nat) (force hold : Bool) :
    MachStands s (t.raiseTg l g force hold) := by
  unfold State.raiseTg
  lift_lets -useContext -merge -underBinder
  intro d newly s1 s2 s3 cs s4
  have h1 : MachStands s s1 := h.wr ..
  have h2 : MachStands s s2 := .ite (h1.wr ..) h1
  have h3 : MachStands s s3 := .ite (h2.wr ..) h2
  have h4 : MachStands s s4 := (h3.each _ fun x c => ((MachStands.refl x).wr .. |>.modCh ..).dropEng ..).each _ fun x c =>
    (MachStands.refl x).tripAct l g c
  exact .ite (((h4.event ..).when _ fun x => (MachStands.refl x).irq ..).logIf ..) h4

theorem MachStands.releaseCh (h : MachStands s t) (l : Lane) (c : Fin 64) : MachStands s (t.releaseCh l c) := by
  have h1 : MachStands s (t.clr (laneDie l) R.PWM_CHc_STATUS.TRIPPED c) := h.wr ..
  refine .ite ?_ ((h1.chOff ..).modCh ..)
  split
  · exact h1
  · exact (h1.setLevel ..).follow ..

theorem MachStands.clearTg (h : MachStands s t) (l : Lane) (g : Nat) : MachStands s (t.clearTg l g) :=
  .ite ((h.wr ..).wr ..) ((((h.wr ..).wr ..).wr ..).each _ fun x c =>
    (MachStands.refl x).when _ fun y => (MachStands.refl y).releaseCh l c)

theorem MachStands.motLevel (h : MachStands s t) (l : Lane) (n : Fin 32) (level : Bool) : MachStands s (t.motLevel l n level) := by
  unfold State.motLevel
  lift_lets -useContext -merge -underBinder
  intro c d s1 s2
  have h2 : MachStands s s2 := (((h.modCe ..).wr ..).dropEng ..).setLevel ..
  exact .ite h2 (h2.follow ..)

theorem MachStands.motLog (h : MachStands s t) (l : Lane) (rule : Nat) (m : Fin 2) : MachStands s (t.motLog l rule m) := by
  have hsub := h.submit l .hw 9 1 (t.laneTime l + (2 ^ 40 - 1)) (.event (rule * 4096 + m.val)) 0
  unfold State.motLog
  dsimp only
  split <;> exact hsub.wr ..

end

end Sys2Proof.Machine
end

section
/-!
PROOFS. What the motor block's operations write (R253, R257, R261 to R264): a hold or a change of region writes none of the
fields that decide the next transition of the angle, and a transition writes the angle state and the record of a loss alone of them.
-/
namespace Sys2Proof.Machine

/-! ## The machine through its own operations -/

section
variable (s : State) (l : Lane) (m : Fin 2)

theorem State.mach_modMach (f : MotMach → MotMach) : (s.modMach l m f).mach l m = f (s.mach l m) := by
  unfold State.mach State.modMach
  rw [State.modRun_run]
  exact (upd_get ..).trans (if_pos rfl)

/-- The trip group forced is the machine's own hold (R262). -/
theorem State.mach_motForce :
    (s.motForce l m).mach l m = { s.mach l m with own := some (s.rd (laneDie l) R.MOT_Mm_CFG.TG m) } :=
  (((MachStands.refl _).raiseTg ..).mach l m).trans (s.mach_modMach l m _)

/-- After the withdrawal the machine has no hold of its own (R262). -/
theorem State.mach_motWithdraw : (s.motWithdraw l m).mach l m = { s.mach l m with own := none } := by
  unfold State.motWithdraw
  split
  · next h => rw [← h]
  · have hmod := s.mach_modMach l m fun x => { x with own := none }
    dsimp only
    split
    · exact hmod
    · exact (((MachStands.refl _).clearTg ..).mach l m).trans hmod

/-- A vector applied withdraws the own hold and leaves the machine else as it was (R263, R264). -/
theorem State.mach_motApply (levels : List Bool) : (s.motApply l m levels).mach l m = { s.mach l m with own := none } := by
  have hlevels := ((MachStands.refl s).each ((s.motSlots l m).zip levels) (f := fun s x => s.motLevel l x.1 x.2)
    fun x y => (MachStands.refl x).motLevel ..).mach l m
  rw [← hlevels]
  exact State.mach_motWithdraw ..

theorem State.motForce_now : (s.motForce l m).now = s.now :=
  (State.motForce_within s l m (msk := 171802886276) (by decide) (Within.refl s)).now_eq (by decide)

theorem State.motApply_now (levels : List Bool) : (s.motApply l m levels).now = s.now :=
  (State.motApply_within s l m levels (msk := 171802886336) (by decide) (Within.refl s)).now_eq (by decide)

end

/-! ## The fields that decide and show the angle -/

/-- What a transition of the angle leaves: the marks of the cross-check, of the injection and of the configuration, the count of
catches, the angle and the speed, and what the resolver's angle is computed of. -/
def goFlds : List Fld :=
  [R.MOT_Mm_STATUS.XCHK_EVT, R.MOT_Mm_STATUS.INJ_FAIL, R.MOT_Mm_STATUS.CFG_ERR, R.MOT_Mm_CNT.CATCH, R.MOT_Mm_ANGLE.ANGLE,
   R.MOT_Mm_SPEED.SPEED, R.MOT_Mm_CFG.RES_CH, R.MOT_Mm_CFG.RES_RATIO, R.MOT_Mm_RES_OFS.OFS, R.POS_RESn_ANGLE.ANGLE]

/-- What the operations on the gates leave: the angle state and the record of a loss as well. -/
def angleFlds : List Fld :=
  [R.MOT_Mm_STATUS.ANGLE_STATE, R.MOT_Mm_STATUS.LOSS, R.MOT_Mm_CNT.LOSS] ++ goFlds

/-- What a hold of the slots and a change of region leave: the configuration of the machine, its slots and its trip group,
what makes a resolver usable, and what the back-EMF check shows, as well. -/
def motorFlds : List Fld :=
  [R.MOT_Mm_CFG.EN, R.MOT_Mm_CFG.PP, R.MOT_Mm_CFG.TG, R.MOT_Mm_SLOTS.BU, R.MOT_Mm_SLOTS.BV, R.MOT_Mm_SLOTS.BW,
   R.MOT_Mm_PSI.PSI_NOM, R.MOT_Mm_IND.LD, R.MOT_Mm_IND.LQ, R.MOT_Mm_MTPAj.IQ, R.CE_Bn_CFG.PWM_CH, R.PWM_TGg_CFG.ACTION,
   R.PWM_CHc_CFG.TG, R.MOT_Mm_CFG.RES_EN, R.POS_RESn_STATUS.VALID, R.MOT_Mm_STATUS.RES_DISTRUST,
   R.MOT_Mm_STATUS.KE_STATE, R.MOT_Mm_KE_MEAS.WINDOWS] ++ angleFlds

theorem goFlds_subset : goFlds ⊆ angleFlds := List.subset_append_right ..

theorem angleFlds_subset : angleFlds ⊆ motorFlds := List.subset_append_right ..

section
variable {fs gs : List Fld} {s t : State}

/-- A write of a field apart from a list of which the spared fields are some. -/
theorem Spares.wrOut (h : Spares fs s t) (hf : fs ⊆ gs) (d : Die) {g : Fld} (v i j : Nat) (hg : apartAll [g] gs = true) :
    Spares fs s (t.wr d g v i j) := h.wr d g v i j fun f hm => apartAll_mem hg (List.mem_singleton_self g) f (hf hm)

/-- A count that stood before it rose has risen from what it was. -/
theorem Spares.rose_of_rose {d : Die} {f : Fld} {i j : Nat} {u : State} (h : Spares fs s u) (hs : s.regsOk = true) (hf : f ∈ fs)
    (hr : rose u t d f i j) : rose s t d f i j := hr.trans (by rw [h.rd hs d f i j hf])

theorem Spares.modMach (h : Spares fs s t) (l : Lane) (m : Fin 2) (f : MotMach → MotMach) : Spares fs s (t.modMach l m f) :=
  h.modRun ..

theorem Spares.modBand (h : Spares fs s t) (l : Lane) (n : Fin 32) (f : BandSt → BandSt) : Spares fs s (t.modBand l n f) :=
  h.of_regs (State.modRun_regs ..)

theorem Spares.motUnforce (h : Spares fs s t) (l : Lane) (m : Fin 2) : Spares fs s (t.motUnforce l m) :=
  h.each _ fun x _ => (Spares.refl x).modBand ..

end

/-! ## Holds and regions -/

section
variable {fs : List Fld} {s t : State} {l : Lane} {m : Fin 2} (hf : fs ⊆ motorFlds)
include hf

theorem Spares.motOverride (h : Spares fs s t) (o : Option Bool) : Spares fs s (t.motOverride l m o) :=
  h.each _ fun x _ => .ite ((Spares.refl x).modBand ..)
    ((((Spares.refl x).modBand ..).modBand ..).wrOut hf _ _ _ _ (by decide))

theorem Spares.motSetH (h : Spares fs s t) (hs : List Nat) : Spares fs s (t.motSetH l m hs) :=
  h.each _ fun x _ => (Spares.refl x).wrOut hf _ _ _ _ (by decide)

theorem Spares.motHold (h : Spares fs s t) (r : Nat) : Spares fs s (t.motHold l m r) := by
  unfold State.motHold
  lift_lets -useContext -merge -underBinder
  intro s1 s2 hw
  have h1 : Spares fs s s1 := by
    unfold s1
    split
    · exact .ite h (h.modMach ..)
    · exact h
  have h2 : Spares fs s s2 := by
    unfold s2
    split
    · exact (h1.motSetH hf _).modMach ..
    · exact h1
  exact .ite ((h2.motOverride hf _).each _ fun x _ => (Spares.refl x).modBand ..)
    (.ite ((h1.motOverride hf _).motSetH hf _) ((h1.motOverride hf _).motSetH hf _))

theorem Spares.motSync (h : Spares fs s t) : Spares fs s (t.motSync l m) :=
  ((h.wrOut hf _ _ _ _ (by decide)).wrOut hf _ _ _ _ (by decide)).wrOut hf _ _ _ _ (by decide)

theorem Spares.motLog (h : Spares fs s t) (rule : Nat) : Spares fs s (t.motLog l rule m) := by
  have hall : motorFlds.all (fun f => f.inM (4294967295 - 4 % 4294967296)) = true := by decide
  have hsub := h.within (State.submit_within t l .hw 9 1 (t.laneTime l + (2 ^ 40 - 1)) (.event (rule * 4096 + m.val)) 0
    (msk := 4) (by decide) (Within.refl _)).h fun f hm => List.all_eq_true.1 hall f (hf hm)
  unfold State.motLog
  dsimp only
  split <;> exact hsub.wrOut hf _ _ _ _ (by decide)

theorem Spares.motRegion (h : Spares fs s t) (r : Nat) : Spares fs s (t.motRegion l m r) := by
  have hcount : Spares fs s (((t.wr (laneDie l) R.MOT_Mm_STATUS.REGION r m).inc (laneDie l) R.MOT_Mm_CNT.REGION m).irq l
      R.MOT_CTRL.REGION_IRQ_EN) := ((h.wrOut hf _ _ _ _ (by decide)).wrOut hf _ _ _ _ (by decide)).irq ..
  exact .ite h (((hcount.when _ fun x => (Spares.refl x).motLog hf _).motHold hf _).motSync hf)

end

/-! ## The gates and the angle -/

section
variable {fs : List Fld} {s t : State} {l : Lane} {m : Fin 2} (hf : fs ⊆ angleFlds)
include hf

/-- An operation on the gates and on the engine's sources spares the fields of the angle. -/
theorem Spares.withinGates {u : State} (h : Spares fs s t) (w : Within 184688836804 t u) : Spares fs s u :=
  h.within w fun f hm => by
    have hall : angleFlds.all (fun f => f.inM (4294967295 - 184688836804 % 4294967296)) = true := by decide
    exact List.all_eq_true.1 hall f (hf hm)

theorem Spares.motForce (h : Spares fs s t) : Spares fs s (t.motForce l m) :=
  h.withinGates hf (State.motForce_within _ _ _ (by decide) (Within.refl _))

theorem Spares.motWithdraw (h : Spares fs s t) : Spares fs s (t.motWithdraw l m) :=
  h.withinGates hf (State.motWithdraw_within _ _ _ (by decide) (Within.refl _))

theorem Spares.motApply (h : Spares fs s t) (levels : List Bool) : Spares fs s (t.motApply l m levels) :=
  h.withinGates hf (State.motApply_within _ _ _ _ (by decide) (Within.refl _))

theorem Spares.motSignals (h : Spares fs s t) (v : List Int) : Spares fs s (t.motSignals l m v) :=
  h.withinGates hf (State.motSignals_within _ _ _ _ (by decide) (Within.refl _))

end

/-! ## A transition of the angle (R261, R262) -/

section
variable {s t : State} {l : Lane} {m : Fin 2} {a : Nat}

/-- An angle state taken, with what the machine held for the last one dropped. -/
def State.angleSet (s : State) (l : Lane) (m : Fin 2) (a : Nat) : State :=
  (s.wr (laneDie l) R.MOT_Mm_STATUS.ANGLE_STATE a m).modMach l m fun x =>
    { x with due := none, phis := [], lowPulses := 0, inPulse := false, injStep := 0, injMags := [], sixCnt := 0,
             hotAt := none, prefAt := none, pulseAt := none }

/-- The angle state taken and a loss recorded, before the gates are brought to the state. -/
def State.angleTaken (s : State) (l : Lane) (m : Fin 2) (a : Nat) : State :=
  if torqueOk (s.ang l m) && !torqueOk a then
    ((s.angleSet l m a).set (laneDie l) R.MOT_Mm_STATUS.LOSS m).inc (laneDie l) R.MOT_Mm_CNT.LOSS m
  else s.angleSet l m a

/-- What follows the taking of an angle state concerns the gates. -/
theorem State.motGo_of_ne (h : s.ang l m ≠ a) : Spares angleFlds (s.angleTaken l m a) (s.motGo l m a) := by
  have hf : angleFlds ⊆ angleFlds := List.Subset.refl _
  have hm := angleFlds_subset
  unfold State.motGo
  lift_lets -useContext -merge -underBinder
  intro d old lost s1 s2 s3 s4 v t fl r t2 s5
  have h2 : Spares angleFlds (s.angleTaken l m a) s2 := .refl _
  have h3 : Spares angleFlds (s.angleTaken l m a) s3 := .ite (h2.irq ..) h2
  have h4 : Spares angleFlds (s.angleTaken l m a) s4 := .ite (h3.motUnforce ..) h3
  have ht : Spares angleFlds (s.angleTaken l m a) t := h4.modMach ..
  have ht2 : Spares angleFlds (s.angleTaken l m a) t2 := .ite (ht.motHold hm _) (ht.motRegion hm _)
  have h5 : Spares angleFlds (s.angleTaken l m a) s5 :=
    .ite (((h4.motHold hm _).wrOut hm _ _ _ _ (by decide)).motWithdraw hf)
      (.ite (((h4.motOverride hm _).motSignals hf _).motWithdraw hf)
        (.ite (ht2.motWithdraw hf) (.ite (.ite h4 (h4.motForce hf)) h4)))
  rw [if_neg h]
  exact h5.motSync hm

theorem State.motGo_self (h : s.ang l m = a) : s.motGo l m a = s := if_pos h

theorem State.angleTaken_goFlds (s : State) (l : Lane) (m : Fin 2) (a : Nat) : Spares goFlds s (s.angleTaken l m a) := by
  have hf : goFlds ⊆ goFlds := List.Subset.refl _
  have h1 : Spares goFlds s (s.wr (laneDie l) R.MOT_Mm_STATUS.ANGLE_STATE a m) := (Spares.refl s).wrOut hf _ _ _ _ (by decide)
  exact .ite (((h1.modMach ..).wrOut hf _ _ _ _ (by decide)).wrOut hf _ _ _ _ (by decide)) (h1.modMach ..)

/-- A transition of the angle leaves the marks, the counts and what the angle is computed of. -/
theorem State.motGo_goFlds (s : State) (l : Lane) (m : Fin 2) (a : Nat) : Spares goFlds s (s.motGo l m a) := by
  by_cases ha : s.ang l m = a
  · rw [State.motGo_self ha]
    exact .refl s
  · exact (s.angleTaken_goFlds l m a).trans ((State.motGo_of_ne ha).mono goFlds_subset)

theorem Spares.motGo {fs : List Fld} (h : Spares fs s t) (hf : fs ⊆ goFlds) (l : Lane) (m : Fin 2) (a : Nat) :
    Spares fs s (t.motGo l m a) := h.trans ((t.motGo_goFlds l m a).mono hf)

theorem State.motGo_now (s : State) (l : Lane) (m : Fin 2) (a : Nat) : (s.motGo l m a).now = s.now :=
  (State.motGo_within (msk := 184688837316) s l m a (by decide) (Within.refl s)).now_eq (by decide)

/-- A transition leads to the angle state asked for. -/
theorem State.ang_motGo (hs : s.regsOk = true) (ha : a < 8) : (s.motGo l m a).ang l m = a := by
  by_cases h : s.ang l m = a
  · rwa [State.motGo_self h]
  · have hwr : Spares [R.MOT_Mm_STATUS.ANGLE_STATE] (s.wr (laneDie l) R.MOT_Mm_STATUS.ANGLE_STATE a m) (s.angleTaken l m a) :=
      .ite ((((Spares.refl _).modMach ..).wr _ _ _ _ _ (by decide)).wr _ _ _ _ _ (by decide)) ((Spares.refl _).modMach ..)
    have hgo := hwr.trans ((State.motGo_of_ne h).mono (by simp [angleFlds]))
    exact (hgo.rd_wr hs (List.mem_singleton_self _)).trans (low_eq ha)

/-- A transition out of the angle states that accept torque, to none of them, sets and counts `LOSS` (R261). -/
theorem State.motGo_lost (hs : s.regsOk = true) (hold : torqueOk (s.ang l m) = true) (ha : torqueOk a = false) :
    (s.motGo l m a).rd (laneDie l) R.MOT_Mm_STATUS.LOSS m = 1 ∧ rose s (s.motGo l m a) (laneDie l) R.MOT_Mm_CNT.LOSS m := by
  have hne : s.ang l m ≠ a := fun h => by rw [h, ha] at hold; exact Bool.noConfusion hold
  let s1 := s.angleSet l m a
  have h1 : Spares [R.MOT_Mm_CNT.LOSS] s s1 := ((Spares.refl s).wr _ _ _ _ _ (by decide)).modMach ..
  have htaken : s.angleTaken l m a = (s1.set (laneDie l) R.MOT_Mm_STATUS.LOSS m).inc (laneDie l) R.MOT_Mm_CNT.LOSS m :=
    if_pos (by rw [hold, ha]; rfl)
  have hgo := State.motGo_of_ne hne
  rw [htaken] at hgo
  have hs1 : s1.regsOk = true := h1.ok hs
  have hset : Spares [R.MOT_Mm_CNT.LOSS] s (s1.set (laneDie l) R.MOT_Mm_STATUS.LOSS m) := h1.wr _ _ _ _ _ (by decide)
  constructor
  · have hinc : Spares [R.MOT_Mm_STATUS.LOSS] (s1.set (laneDie l) R.MOT_Mm_STATUS.LOSS m) (s.motGo l m a) :=
      ((Spares.refl _).wr _ _ _ _ _ (by decide)).trans (hgo.mono (by simp [angleFlds]))
    exact hinc.rd_wr hs1 (List.mem_singleton_self _)
  · exact hset.rose_of_rose hs (List.mem_singleton_self _) (hgo.rose_inc (hset.ok hs) (by simp [angleFlds]))

/-- A transition to an angle state that accepts torque leaves `LOSS` (R261). -/
theorem State.motGo_loss_stands (hs : s.regsOk = true) (ha : torqueOk a = true) :
    (s.motGo l m a).rd (laneDie l) R.MOT_Mm_STATUS.LOSS m = s.rd (laneDie l) R.MOT_Mm_STATUS.LOSS m := by
  by_cases h : s.ang l m = a
  · rw [State.motGo_self h]
  · have htaken : s.angleTaken l m a = _ := if_neg (by simp [ha])
    have hgo := State.motGo_of_ne h
    rw [htaken] at hgo
    have hall : Spares [R.MOT_Mm_STATUS.LOSS] s (s.motGo l m a) :=
      (((Spares.refl s).wr _ _ _ _ _ (by decide)).modMach ..).trans (hgo.mono (by simp [angleFlds]))
    exact hall.rd hs _ _ _ _ (List.mem_singleton_self _)

end

end Sys2Proof.Machine
end

section
/-!
PROOFS. The time-outs of the angle and of the region (R256, R261, R265), and catching (R263).
-/
namespace Sys2Proof.Machine

section
variable {s t : State} {l : Lane} {m : Fin 2}

/-! ## The time-outs of the angle (R261, R265) -/

/-- The angle state to which a lost angle leads (R261). -/
def State.lostTo (s : State) (l : Lane) (m : Fin 2) : Nat :=
  if s.faster l m (s.omegaE l m) (s.rd (laneDie l) R.MOT_Mm_SPD.XOVER m) 1 then angAsc else angOff

theorem State.lostTo_mem (s : State) (l : Lane) (m : Fin 2) : s.lostTo l m = angAsc ∨ s.lostTo l m = angOff := by
  unfold State.lostTo
  split
  · exact .inl rfl
  · exact .inr rfl

/-- Where a lost angle leads rests on the speed, its base and the threshold. -/
theorem Spares.lostTo {fs : List Fld} (h : Spares fs s t) (hs : s.regsOk = true)
    (hf : [R.MOT_Mm_SPEED.SPEED, R.MOT_Mm_SPD.FE_BASE, R.MOT_Mm_SPD.XOVER] ⊆ fs) : t.lostTo l m = s.lostTo l m := by
  unfold State.lostTo State.faster State.omegaE State.feBase
  rw [h.rdS hs (hf (by simp)), h.rd hs _ R.MOT_Mm_SPD.FE_BASE _ _ (hf (by simp)),
    h.rd hs _ R.MOT_Mm_SPD.XOVER _ _ (hf (by simp))]

theorem exec_motXchkTimeout (ht : torqueOk (s.ang l m) = true) (hx : s.on (laneDie l) R.MOT_Mm_STATUS.XCHK m = true) :
    exec (.motXchkTimeout l m) s = .next (((s.advTo
      ((s.mach l m).xchkAt + orOne (s.rd (laneDie l) R.MOT_Mm_XCHK.TIME m) * ms)).set (laneDie l)
        R.MOT_Mm_STATUS.XCHK_EVT m).motLose l m) :=
  congrArg Host.Outcome.next (if_pos (by rw [ht, hx]; rfl))

/-- An angle lost over a cross-check is marked, recorded and counted. -/
theorem State.xchk_lost (hs : s.regsOk = true) (ht : torqueOk (s.ang l m) = true) {v t : State}
    (hv : v = s.set (laneDie l) R.MOT_Mm_STATUS.XCHK_EVT m) (h : t = v.motLose l m) :
    t.rd (laneDie l) R.MOT_Mm_STATUS.XCHK_EVT m = 1 ∧ t.rd (laneDie l) R.MOT_Mm_STATUS.LOSS m = 1 ∧
    rose s t (laneDie l) R.MOT_Mm_CNT.LOSS m ∧ t.now = s.now ∧ t.ang l m = s.lostTo l m := by
  have hspares : Spares [R.MOT_Mm_STATUS.ANGLE_STATE, R.MOT_Mm_CNT.LOSS, R.MOT_Mm_SPEED.SPEED, R.MOT_Mm_SPD.FE_BASE,
      R.MOT_Mm_SPD.XOVER] s v := hv ▸ (Spares.refl s).wr _ _ _ _ _ (by decide)
  have hvs : v.regsOk = true := hspares.ok hs
  have hang : v.ang l m = s.ang l m := hspares.rd hs _ _ _ _ (by simp)
  have hto : v.lostTo l m = s.lostTo l m := hspares.lostTo hs (by simp)
  have hlost : torqueOk (v.lostTo l m) = false ∧ v.lostTo l m < 8 := by
    rcases v.lostTo_mem l m with h | h <;> rw [h] <;> decide
  obtain ⟨hloss, hrose⟩ := State.motGo_lost (a := v.lostTo l m) hvs (by rwa [hang]) hlost.1
  have hevt : Spares goFlds (s.set (laneDie l) R.MOT_Mm_STATUS.XCHK_EVT m) (v.motLose l m) := hv ▸ v.motGo_goFlds ..
  have hnow : (v.motGo l m (v.lostTo l m)).now = v.now := State.motGo_now ..
  subst h
  exact ⟨hevt.rd_wr hs (by decide), hloss, hspares.rose_of_rose hs (by simp) hrose, hnow.trans (by rw [hv]; rfl),
    (State.ang_motGo hvs hlost.2).trans hto⟩

/-- A transition after a wait leads to the angle state asked for, at the end of the wait. -/
theorem State.motGo_advTo (hs : s.regsOk = true) {a : Nat} (ha : a < 8) (x : Nat) :
    ((s.advTo x).motGo l m a).ang l m = a ∧ ((s.advTo x).motGo l m a).now = max s.now x :=
  ⟨State.ang_motGo hs ha, State.motGo_now ..⟩

theorem exec_motRectifyTimeout (ha : s.ang l m = angOff)
    (hi : s.motAnyAbove l m (s.rd (laneDie l) R.MOT_Mm_CATCH.I_ZERO m) = true) :
    exec (.motRectifyTimeout l m) s =
      .next ((s.advTo ((s.mach l m).hotAt.getD s.now + 2 * ms)).motGo l m angAsc) :=
  congrArg Host.Outcome.next (if_pos (by rw [ha, hi]; rfl))

/-- The preferred source takes over: the observer from the resolver, and the resolver from the observer. -/
theorem exec_motPrefTimeout
    (h : (s.ang l m = angResolver ∧ s.on (laneDie l) R.MOT_Mm_CFG.PREF m = true ∧ s.confident l m = true) ∨
      (s.ang l m = angObserver ∧ s.on (laneDie l) R.MOT_Mm_CFG.PREF m = false ∧ s.resUsable l m = true)) :
    exec (.motPrefTimeout l m) s = .next ((s.advTo ((s.mach l m).prefAt.getD s.now + ms)).motGo l m
      (if s.ang l m = angResolver then angObserver else angResolver)) := by
  rcases h with ⟨ha, hp, hc⟩ | ⟨ha, hp, hu⟩
  · rw [if_pos ha]
    exact congrArg Host.Outcome.next (if_pos (by rw [ha, hp, hc]; rfl))
  · rw [if_neg (by rw [ha]; decide)]
    exact congrArg Host.Outcome.next ((if_neg (by simp [ha, angObserver, angResolver])).trans (if_pos (by rw [ha, hp, hu]; rfl)))

theorem exec_motRecatch (hl : s.alive l = true) (ha : s.ang l m = angNone) :
    exec (.motRecatch l m) s = .next (s.motGo l m angOff) := congrArg Host.Outcome.next (if_pos (by rw [hl, ha]; rfl))

/-! ## The saturation timer (R256) -/

/-- The timer asks for `VECTOR`, `TSAT` after the first phase went beyond h. -/
theorem tsat_expires (ht : torqueOk (s.ang l m) = true) (hr : s.region l m = regCurrent) (hne : s.tsatFrom l m ≠ []) :
    leads (.motTsatExpiry l m) s fun t => (t.mach l m).tsat = true ∧ t.regs = s.regs ∧
      ∃ x ∈ s.tsatFrom l m, (∀ y ∈ s.tsatFrom l m, x ≤ y) ∧
        t.now = max s.now (x + orOne (s.rd (laneDie l) R.MOT_Mm_REGION.TSAT m) * us) := by
  obtain ⟨x, xs, hxs⟩ := List.exists_cons_of_ne_nil hne
  obtain ⟨hmem, hle⟩ := List.min?_eq_some_iff.1 (List.min?_cons' (x := x) (xs := xs))
  have hexec : exec (.motTsatExpiry l m) s = .next ((s.advTo
      (xs.foldl min x + orOne (s.rd (laneDie l) R.MOT_Mm_REGION.TSAT m) * us)).modMach l m fun x => { x with tsat := true }) := by
    show execMotTsatExpiry l m s = _
    unfold execMotTsatExpiry
    rw [if_pos (by rw [ht, hr]; rfl), hxs]
  refine leads_of_exec hexec ⟨by rw [State.mach_modMach], State.modRun_regs .., xs.foldl min x, by rwa [hxs], ?_, ?_⟩
  · rwa [hxs]
  · exact State.modRun_now ..

/-! ## Catching (R263) -/

/-- The wait for a pulse: `T_PP` after the last one, if there was one. -/
def State.pulseAwaited (s : State) (l : Lane) (m : Fin 2) : State :=
  (s.mach l m).pulseAt.elim s fun x => s.advTo (x + orOne (s.rd (laneDie l) R.MOT_Mm_CATCH.T_PP m) * 10 * us)

theorem State.pulseAwaited_regs (s : State) (l : Lane) (m : Fin 2) : (s.pulseAwaited l m).regs = s.regs := by
  unfold State.pulseAwaited
  cases (s.mach l m).pulseAt <;> rfl

/-- A machine with a pulse begun at an instant. -/
def MotMach.pulsed (x : MotMach) (now : Nat) : MotMach := { x with inPulse := true, stepAt := now, pulseAt := some now }

theorem exec_catchPulseStart (ha : s.ang l m = angCatch) (hp : (s.mach l m).inPulse = false) :
    exec (.catchPulseStart l m) s = .next (((s.pulseAwaited l m).modMach l m fun x =>
      x.pulsed (s.pulseAwaited l m).now).motApply l m [false, false, false]) := by
  refine congrArg Host.Outcome.next ((if_pos (by rw [ha, hp]; rfl)).trans ?_)
  unfold State.pulseAwaited
  cases (s.mach l m).pulseAt <;> rfl

/-- A pulse begins with the own hold withdrawn. -/
theorem catch_pulse_starts (hs : s.regsOk = true) (ha : s.ang l m = angCatch) (hp : (s.mach l m).inPulse = false) :
    leads (.catchPulseStart l m) s fun t =>
      t.ang l m = angCatch ∧ (t.mach l m).inPulse = true ∧ (t.mach l m).stepAt = t.now ∧ (t.mach l m).own = none ∧
      t.now = (s.pulseAwaited l m).now := by
  refine leads_of_exec (exec_catchPulseStart ha hp) ?_
  let u := (s.pulseAwaited l m).modMach l m fun x => x.pulsed (s.pulseAwaited l m).now
  have hspares : Spares angleFlds s (u.motApply l m [false, false, false]) :=
    (((Spares.refl s).of_regs (s.pulseAwaited_regs l m)).modMach ..).motApply (List.Subset.refl _) _
  have hnow : (u.motApply l m [false, false, false]).now = (s.pulseAwaited l m).now :=
    (u.motApply_now l m _).trans (State.modRun_now ..)
  rw [State.mach_motApply, State.mach_modMach, hnow]
  exact ⟨(hspares.rd hs _ _ _ _ (by decide)).trans ha, rfl, rfl, rfl, rfl⟩

/-- A pulse that has ended, with the trip group forced again. -/
def State.pulseForced (s : State) (l : Lane) (m : Fin 2) : State :=
  (s.modMach l m fun x => { x with inPulse := false }).motForce l m

theorem State.pulseForced_now (s : State) (l : Lane) (m : Fin 2) : (s.pulseForced l m).now = s.now :=
  (State.motForce_now ..).trans (State.modRun_now ..)

theorem State.pulseForced_spares (s : State) (l : Lane) (m : Fin 2) : Spares angleFlds s (s.pulseForced l m) :=
  ((Spares.refl s).modMach ..).motForce (List.Subset.refl _)

theorem State.mach_pulseForced (s : State) (l : Lane) (m : Fin 2) :
    (s.pulseForced l m).mach l m =
      { s.mach l m with inPulse := false, own := some (s.rd (laneDie l) R.MOT_Mm_CFG.TG m) } := by
  unfold State.pulseForced
  rw [State.mach_motForce, State.mach_modMach]
  exact congrArg (fun g => ({ s.mach l m with inPulse := false, own := some g } : MotMach)) (State.rd_modRun ..)

/-- The end of a pulse, `T_PULSE` after its start. -/
def State.pulseOver (s : State) (l : Lane) (m : Fin 2) : State :=
  s.advTo ((s.mach l m).stepAt + 10 * clampN 5 200 (s.rd (laneDie l) R.MOT_Mm_CATCH.T_PULSE m))

theorem State.motWeaker_advTo (s : State) (l : Lane) (m : Fin 2) (x k : Nat) :
    (s.advTo x).motWeaker l m k = s.motWeaker l m k := rfl

/-- The current at the end of a pulse is the one at its judgement. -/
theorem State.motWeaker_pulseOver (s : State) (l : Lane) (m : Fin 2) :
    (s.pulseOver l m).motWeaker l m ((s.pulseOver l m).rd (laneDie l) R.MOT_Mm_CATCH.I_MIN m) =
      s.motWeaker l m (s.rd (laneDie l) R.MOT_Mm_CATCH.I_MIN m) := by
  unfold State.pulseOver
  rw [State.rd_advTo, State.motWeaker_advTo]

theorem State.injectStart_catches (s : State) (l : Lane) (m : Fin 2) : Spares [R.MOT_Mm_CNT.CATCH] s (s.injectStart l m) :=
  (((Spares.refl s).motGo (by simp [goFlds]) l m _).modMach ..).motApply (by simp [angleFlds, goFlds]) _

theorem State.injectStart_now (s : State) (l : Lane) (m : Fin 2) : (s.injectStart l m).now = s.now :=
  ((State.motApply_now ..).trans (State.modRun_now ..)).trans (State.motGo_now ..)

theorem State.ang_injectStart (hs : s.regsOk = true) : (s.injectStart l m).ang l m = angInject := by
  have hgo := State.motGo_goFlds s l m angInject
  have happly : Spares [R.MOT_Mm_STATUS.ANGLE_STATE] (s.motGo l m angInject) (s.injectStart l m) :=
    ((Spares.refl _).modMach ..).motApply (by simp [angleFlds]) _
  exact (happly.rd (hgo.ok hs) _ _ _ _ (List.mem_singleton_self _)).trans (State.ang_motGo hs (by decide))

/-- After a weak pulse the count of catches stands, and the injection starts where its condition holds. -/
theorem State.weak_pulse_ends (hs : s.regsOk = true) (ha : s.ang l m = angCatch) (f : MotMach → MotMach) (c : Prop) [Decidable c]
    {u : State} (hu : u = if c then ((s.pulseForced l m).modMach l m f).injectStart l m else (s.pulseForced l m).modMach l m f) :
    u.now = s.now ∧ u.rd (laneDie l) R.MOT_Mm_CNT.CATCH m = s.rd (laneDie l) R.MOT_Mm_CNT.CATCH m ∧
    u.ang l m = if c then angInject else angCatch := by
  have h1 : Spares angleFlds s ((s.pulseForced l m).modMach l m f) := (s.pulseForced_spares l m).modMach ..
  have hnow : ((s.pulseForced l m).modMach l m f).now = s.now := (State.modRun_now ..).trans (s.pulseForced_now l m)
  subst hu
  split
  · exact ⟨(State.injectStart_now ..).trans hnow,
      ((h1.mono (by simp [angleFlds, goFlds])).trans (State.injectStart_catches ..)).rd hs _ _ _ _ (by simp),
      State.ang_injectStart (h1.ok hs)⟩
  · exact ⟨hnow, h1.rd hs _ _ _ _ (by decide), (h1.rd hs _ _ _ _ (by decide)).trans ha⟩

/-- The count of catches stands, and no time goes by. -/
structure CatchesStand (s t : State) : Prop where
  count : Spares [R.MOT_Mm_CNT.CATCH] s t
  now : t.now = s.now

theorem CatchesStand.ite {u : State} {c : Prop} [Decidable c] (h : CatchesStand s t) (g : CatchesStand s u) :
    CatchesStand s (if c then t else u) := by
  split
  · exact h
  · exact g

theorem CatchesStand.modMach (h : CatchesStand s t) (f : MotMach → MotMach) : CatchesStand s (t.modMach l m f) :=
  ⟨h.count.modMach .., (State.modRun_now ..).trans h.now⟩

/-- An angle caught is judged, taken and acted on. -/
theorem CatchesStand.presetGo (h : CatchesStand s t) (theta : Nat) (w : Int) (a : Nat) :
    CatchesStand s (((t.judgeResolver l m theta).motPreset l m theta w).motGo l m a) where
  count := by
    have hjudge : Spares [R.MOT_Mm_CNT.CATCH] s (t.judgeResolver l m theta) := .ite (h.count.wr _ _ _ _ _ (by decide)) h.count
    exact (((hjudge.modMach ..).wr _ _ _ _ _ (by decide)).wr _ _ _ _ _ (by decide)).motGo (by simp [goFlds]) ..
  now := by
    have hjudge := State.judgeResolver_within t l m theta (msk := 512) (by decide) (Within.refl t)
    have hpreset := State.motPreset_within _ l m theta w (msk := 512) (by decide) hjudge
    exact ((State.motGo_now ..).trans (hpreset.now_eq (by decide))).trans h.now

/-- What a pulse leaves at its end: whether its current was weak, and what the pulses before it were, decide. -/
structure PulseEnds (s : State) (l : Lane) (m : Fin 2) (t : State) : Prop where
  now : t.now = (s.pulseOver l m).now
  strong : s.motWeaker l m (s.rd (laneDie l) R.MOT_Mm_CATCH.I_MIN m) = false → rose s t (laneDie l) R.MOT_Mm_CNT.CATCH m
  first : s.motWeaker l m (s.rd (laneDie l) R.MOT_Mm_CATCH.I_MIN m) = false → (s.mach l m).phis = [] →
    t.ang l m = angCatch ∧ (t.mach l m).own = some (s.rd (laneDie l) R.MOT_Mm_CFG.TG m) ∧ (t.mach l m).inPulse = false
  weak : s.motWeaker l m (s.rd (laneDie l) R.MOT_Mm_CATCH.I_MIN m) = true →
    t.rd (laneDie l) R.MOT_Mm_CNT.CATCH m = s.rd (laneDie l) R.MOT_Mm_CNT.CATCH m ∧
    t.ang l m = if 2 ≤ (s.mach l m).lowPulses ∧ s.on (laneDie l) R.MOT_Mm_CFG.INJ_EN m then angInject else angCatch

/-- A pulse counted as a catch, whatever followed at its instant. -/
theorem State.strong_pulse_counted (hs : s.regsOk = true)
    (h : CatchesStand ((s.pulseForced l m).inc (laneDie l) R.MOT_Mm_CNT.CATCH m) t) :
    t.now = s.now ∧ rose s t (laneDie l) R.MOT_Mm_CNT.CATCH m := by
  have hforced := s.pulseForced_spares l m
  have hrose := h.count.rose_inc (hforced.ok hs) (List.mem_singleton_self _)
  exact ⟨h.now.trans (s.pulseForced_now l m), hforced.rose_of_rose hs (by decide) hrose⟩

/-- A first strong pulse leaves the machine in `CATCH` with its trip group forced. -/
theorem State.first_pulse_ends (hs : s.regsOk = true) (ha : s.ang l m = angCatch) {f : MotMach → MotMach}
    (ht : t = ((s.pulseForced l m).inc (laneDie l) R.MOT_Mm_CNT.CATCH m).modMach l m f)
    (hf : ∀ x, (f x).own = x.own ∧ (f x).inPulse = x.inPulse) :
    t.ang l m = angCatch ∧ (t.mach l m).own = some (s.rd (laneDie l) R.MOT_Mm_CFG.TG m) ∧ (t.mach l m).inPulse = false := by
  have hang : Spares [R.MOT_Mm_STATUS.ANGLE_STATE] s t := by
    rw [ht]
    exact (((s.pulseForced_spares l m).mono (by simp [angleFlds])).wr _ _ _ _ _ (by decide)).modMach ..
  have hmach : t.mach l m = f ((s.pulseForced l m).mach l m) := by
    rw [ht, State.mach_modMach]
    exact congrArg f (((MachStands.refl _).wr ..).mach l m)
  obtain ⟨hown, hpulse⟩ := hf ((s.pulseForced l m).mach l m)
  rw [hmach, hown, hpulse, State.mach_pulseForced]
  exact ⟨(hang.rd hs _ _ _ _ (List.mem_singleton_self _)).trans ha, rfl, rfl⟩

theorem catch_pulse_ends (hs : s.regsOk = true) (ha : s.ang l m = angCatch) (hp : (s.mach l m).inPulse = true) :
    leads (.catchPulseEnd l m) s (PulseEnds s l m) := by
  refine leads_of_exec rfl ?_
  rw [if_pos (by rw [ha, hp]; rfl)]
  lift_lets -useContext -merge -underBinder
  intro v weak i s1 s2 phi s3
  have hjudged : weak = s.motWeaker l m (s.rd (laneDie l) R.MOT_Mm_CATCH.I_MIN m) := s.motWeaker_pulseOver l m
  split
  · next hw =>
    have hw := hjudged.symm.trans hw
    obtain ⟨hnow, hcount, hang⟩ := State.weak_pulse_ends (s := v) hs ha _
      (3 ≤ (s.mach l m).lowPulses + 1 ∧ v.on (laneDie l) R.MOT_Mm_CFG.INJ_EN m = true) rfl
    have hthird : 3 ≤ (s.mach l m).lowPulses + 1 ↔ 2 ≤ (s.mach l m).lowPulses := Nat.succ_le_succ_iff
    exact { now := hnow, strong := fun h => absurd (hw.symm.trans h) (by decide),
            first := fun h => absurd (hw.symm.trans h) (by decide),
            weak := fun _ => ⟨hcount, hang.trans (if_congr (and_congr_left' hthird) rfl rfl)⟩ }
  · next hw =>
    have hw := hjudged.symm.trans (Bool.eq_false_iff.2 hw)
    have hs3 : CatchesStand ((v.pulseForced l m).inc (laneDie l) R.MOT_Mm_CNT.CATCH m) s3 :=
      CatchesStand.modMach ⟨.refl _, rfl⟩ _
    suffices h : ∀ t, CatchesStand ((v.pulseForced l m).inc (laneDie l) R.MOT_Mm_CNT.CATCH m) t →
        ((s.mach l m).phis = [] → t = s3) → PulseEnds s l m t by
      split
      · exact h _ hs3 fun _ => rfl
      · next p1 r hcons =>
        exact h _ (.ite (hs3.presetGo ..) (.ite (hs3.presetGo ..) hs3)) fun hnil =>
          (List.cons_ne_nil _ _ (hcons.symm.trans hnil)).elim
    intro t ht hfirst
    obtain ⟨hnow, hrose⟩ := State.strong_pulse_counted (s := v) hs ht
    exact { now := hnow, strong := fun _ => hrose,
            first := fun _ hnil => State.first_pulse_ends (s := v) hs ha (hfirst hnil) fun _ => ⟨rfl, rfl⟩,
            weak := fun h => absurd (hw.symm.trans h) (by decide) }

end

end Sys2Proof.Machine
end

section
/-!
PROOFS. The injection (R264).
-/
namespace Sys2Proof.Machine

section
variable {s t u : State} {l : Lane} {m : Fin 2} {n : Nat}

/-! ## A part of the injection (R264) -/

/-- From `s`, at the end of part `n`, to `t` the next part has begun and the angle state stands. -/
structure PartEnds (l : Lane) (m : Fin 2) (n : Nat) (s t : State) : Prop where
  regs : Spares [R.MOT_Mm_STATUS.ANGLE_STATE] s t
  part : (t.mach l m).injStep = n + 1
  since : (t.mach l m).stepAt = s.now
  now : t.now = s.now

theorem PartEnds.ite {c : Prop} [Decidable c] (h : PartEnds l m n s t) (g : PartEnds l m n s u) :
    PartEnds l m n s (if c then t else u) := by
  split
  · exact h
  · exact g

/-- The next part begins. -/
theorem PartEnds.next {f : MotMach → MotMach} (hf : ∀ x, (f x).injStep = n + 1 ∧ (f x).stepAt = s.now) :
    PartEnds l m n s (s.modMach l m f) where
  regs := (Spares.refl s).modMach ..
  part := by rw [State.mach_modMach]; exact (hf _).1
  since := by rw [State.mach_modMach]; exact (hf _).2
  now := State.modRun_now ..

/-- A change of what was measured. -/
theorem PartEnds.modMach (h : PartEnds l m n s t) {f : MotMach → MotMach}
    (hf : ∀ x, (f x).injStep = x.injStep ∧ (f x).stepAt = x.stepAt) : PartEnds l m n s (t.modMach l m f) where
  regs := h.regs.modMach ..
  part := by rw [State.mach_modMach, (hf _).1]; exact h.part
  since := by rw [State.mach_modMach, (hf _).2]; exact h.since
  now := (State.modRun_now ..).trans h.now

theorem PartEnds.motApply (h : PartEnds l m n s t) (levels : List Bool) : PartEnds l m n s (t.motApply l m levels) where
  regs := h.regs.motApply (by simp [angleFlds]) levels
  part := by rw [State.mach_motApply]; exact h.part
  since := by rw [State.mach_motApply]; exact h.since
  now := (t.motApply_now l m levels).trans h.now

theorem PartEnds.motForce (h : PartEnds l m n s t) : PartEnds l m n s (t.motForce l m) where
  regs := h.regs.motForce (by simp [angleFlds])
  part := by rw [State.mach_motForce]; exact h.part
  since := by rw [State.mach_motForce]; exact h.since
  now := (t.motForce_now l m).trans h.now

/-- Step 2 finds no saliency (R264). -/
def State.flat (s : State) (l : Lane) (m : Fin 2) : Prop :=
  (saliency (s.mach l m).injMags.reverse).1 * (saliency (s.mach l m).injMags.reverse).1 +
    3 * (saliency (s.mach l m).injMags.reverse).2 * (saliency (s.mach l m).injMags.reverse).2 <
  36 * ((s.rd (laneDie l) R.MOT_Mm_INJ.SAL_MIN m : Int) * 2 ^ 16) * ((s.rd (laneDie l) R.MOT_Mm_INJ.SAL_MIN m : Int) * 2 ^ 16)

/-- The end of the present part of the injection. -/
def State.partOver (s : State) (l : Lane) (m : Fin 2) : State :=
  s.advTo ((s.mach l m).stepAt + injDur (s.mach l m).injStep (clampN 5 100 (s.rd (laneDie l) R.MOT_Mm_INJ.T_INJ m)))

/-- What the end of a part of the injection leaves. -/
structure InjectionGoes (s : State) (l : Lane) (m : Fin 2) (t : State) : Prop where
  now : t.now = (s.partOver l m).now
  fails : (s.mach l m).injStep = 18 ∧ s.flat l m → t.rd (laneDie l) R.MOT_Mm_STATUS.INJ_FAIL m = 1 ∧ t.ang l m = angNone
  goesOn : (s.mach l m).injStep < 25 ∧ ¬((s.mach l m).injStep = 18 ∧ s.flat l m) →
    t.ang l m = angInject ∧ (t.mach l m).injStep = (s.mach l m).injStep + 1 ∧ (t.mach l m).stepAt = t.now
  ends : 25 ≤ (s.mach l m).injStep → t.ang l m = angObserver ∧ t.omegaE l m = 0 ∧
    (t.thetaE l m = (s.mach l m).injAxis % 2 ^ 32 ∨ t.thetaE l m = ux 32 (((s.mach l m).injAxis : Int) + 2 ^ 31))

/-- A part after which the next one begins. -/
theorem PartEnds.goes (h : PartEnds l m (s.mach l m).injStep (s.partOver l m) t) (hs : s.regsOk = true)
    (ha : s.ang l m = angInject) (hn : (s.mach l m).injStep < 25) (hf : ¬((s.mach l m).injStep = 18 ∧ s.flat l m)) :
    InjectionGoes s l m t where
  now := h.now
  fails := fun hx => absurd hx hf
  goesOn := fun _ => ⟨(h.regs.rd hs _ _ _ _ (List.mem_singleton_self _)).trans ha, h.part, h.since.trans h.now.symm⟩
  ends := fun hx => absurd hn (Nat.not_lt.2 hx)

/-- Without saliency the injection ends in `NONE` with `INJ_FAIL`. -/
theorem InjectionGoes.of_flat (hs : s.regsOk = true) (h18 : (s.mach l m).injStep = 18) (hf : s.flat l m) :
    InjectionGoes s l m (((s.partOver l m).set (laneDie l) R.MOT_Mm_STATUS.INJ_FAIL m).motGo l m angNone) where
  now := State.motGo_now ..
  fails := fun _ => ⟨(State.motGo_goFlds ..).rd_wr (s := s.partOver l m) hs (by decide),
    State.ang_motGo (State.wr_regsOk (s.partOver l m) _ _ _ _ _ hs) (by decide)⟩
  goesOn := fun hx => absurd ⟨h18, hf⟩ hx.2
  ends := fun hx => absurd (h18 ▸ hx) (by decide)

/-- The observer takes over at speed zero from an angle. -/
theorem State.preset_observes (hs : s.regsOk = true) (theta : Nat)
    (ht : t = (s.motPreset l m theta 0).motGo l m angObserver) :
    t.now = s.now ∧ t.ang l m = angObserver ∧ t.omegaE l m = 0 ∧ t.thetaE l m = theta % 2 ^ 32 := by
  let u := s.modMach l m fun x =>
    { x with presetAt := some s.now, resid := [], obs := { x.obs with theta := BitVec.ofNat 32 theta, omega := 0 } }
  let v := u.wr (laneDie l) R.MOT_Mm_ANGLE.ANGLE theta m
  have hu : u.regsOk = true := ((Spares.refl (fs := []) s).modMach ..).ok hs
  have hv : v.regsOk = true := State.wr_regsOk _ _ _ _ _ _ hu
  have hgo : Spares goFlds (v.wrS (laneDie l) R.MOT_Mm_SPEED.SPEED 0 m) t := ht ▸ State.motGo_goFlds ..
  have hangle : Spares [R.MOT_Mm_ANGLE.ANGLE] v t :=
    ((Spares.refl v).wr _ _ _ _ _ (by decide)).trans (hgo.mono (by simp [goFlds]))
  refine ⟨?_, ?_, hgo.rdS_wrS hv (by decide) (by decide), hangle.rd_wr hu (List.mem_singleton_self _)⟩
  · rw [ht, State.motGo_now]
    exact State.modRun_now ..
  · rw [ht]
    exact State.ang_motGo (State.wr_regsOk _ _ _ _ _ _ hv) (by decide)

/-- The last part presets the observer with the axis found or its opposite. -/
theorem InjectionGoes.of_last (hs : s.regsOk = true) (hn : 25 ≤ (s.mach l m).injStep) (north : Bool)
    (ht : t = ((s.partOver l m).motPreset l m
      (if north then (s.mach l m).injAxis else ux 32 (((s.mach l m).injAxis : Int) + 2 ^ 31)) 0).motGo l m angObserver) :
    InjectionGoes s l m t := by
  obtain ⟨hnow, hang, hspeed, htheta⟩ := State.preset_observes (s := s.partOver l m) hs _ ht
  refine ⟨hnow, fun hx => absurd (hx.1 ▸ hn) (by decide), fun hx => absurd hx.1 (Nat.not_lt.2 hn),
    fun _ => ⟨hang, hspeed, ?_⟩⟩
  rw [htheta]
  split
  · exact .inl rfl
  · exact .inr (Nat.mod_eq_of_lt (ux_lt 32 _))

/-- The injection goes on part by part (R264). -/
theorem injection_goes (hs : s.regsOk = true) (ha : s.ang l m = angInject) :
    leads (.motInjectionStep l m) s (InjectionGoes s l m) := by
  refine leads_of_exec rfl ?_
  rw [if_pos (by rw [ha]; rfl)]
  lift_lets -useContext -merge -underBinder
  intro v go j i z sal arg axis near second first north theta
  have hgo : PartEnds l m (s.mach l m).injStep (s.partOver l m) (go v) := PartEnds.next fun _ => ⟨rfl, rfl⟩
  have hmags : ∀ k : MotMach → MotMach, (∀ x, (k x).injStep = x.injStep ∧ (k x).stepAt = x.stepAt) → ∀ levels,
      PartEnds l m (s.mach l m).injStep (s.partOver l m) (((go v).modMach l m k).motApply l m levels) :=
    fun _ hk levels => (hgo.modMach hk).motApply levels
  clear_value go
  by_cases h1 : (s.mach l m).injStep < 18
  · rw [if_pos h1]
    refine PartEnds.goes ?_ hs ha (by omega) (by omega)
    exact .ite (hmags _ (by exact fun _ => ⟨rfl, rfl⟩) _) (.ite hgo.motForce (.ite hgo (hgo.motApply _)))
  rw [if_neg h1]
  by_cases h2 : (s.mach l m).injStep = 18
  · rw [if_pos h2]
    have hflat : (z.1 * z.1 + 3 * z.2 * z.2 < 36 * sal * sal) = s.flat l m := rfl
    split
    · next h => exact .of_flat hs h2 (hflat ▸ h)
    · next h => exact (hmags _ (by exact fun _ => ⟨rfl, rfl⟩) _).goes hs ha (by omega) fun hf => h (hflat ▸ hf.2)
  rw [if_neg h2]
  by_cases h3 : (s.mach l m).injStep < 25
  · rw [if_pos h3]
    refine PartEnds.goes ?_ hs ha h3 fun h => h2 h.1
    split
    · exact hmags _ (by exact fun _ => ⟨rfl, rfl⟩) _
    · exact hgo.motForce
    · exact hgo.motApply _
    · exact hmags _ (by exact fun _ => ⟨rfl, rfl⟩) _
    · exact hgo.motForce
    · exact hgo
  · rw [if_neg h3]
    exact .of_last hs (Nat.not_lt.1 h3) north rfl

end

end Sys2Proof.Machine
end

section
/-!
PROOFS. The back-EMF check (R266).
-/
namespace Sys2Proof.Machine

section
variable {s t : State} {l : Lane} {m : Fin 2}

/-! ## The back-EMF check (R266) -/

theorem keState_le (sum : Int) : keState sum ≤ 3 := by
  unfold keState
  dsimp only
  split_ifs <;> decide

/-- What a full window leaves. -/
structure WindowEnds (s : State) (l : Lane) (m : Fin 2) (t : State) : Prop where
  windows : rose s t (laneDie l) R.MOT_Mm_KE_MEAS.WINDOWS m
  state : t.rd (laneDie l) R.MOT_Mm_STATUS.KE_STATE m =
    max (s.rd (laneDie l) R.MOT_Mm_STATUS.KE_STATE m) (keState (s.mach l m).keSum)
  emptied : (t.mach l m).keCnt = 0
  now : t.now = s.now

/-- A window emptied and counted, its ratio shown. -/
def State.windowCounted (s : State) (l : Lane) (m : Fin 2) : State :=
  ((s.modMach l m fun x => { x with keSum := 0, keCnt := 0 }).inc (laneDie l) R.MOT_Mm_KE_MEAS.WINDOWS m).wrSat (laneDie l)
    R.MOT_Mm_KE_MEAS.RATIO (rnd 40 (s.mach l m).keSum (2 ^ 25)).toNat m

theorem State.windowCounted_state (s : State) (l : Lane) (m : Fin 2) :
    Spares [R.MOT_Mm_STATUS.KE_STATE] s (s.windowCounted l m) :=
  (((Spares.refl s).modMach ..).wr _ _ _ _ _ (by decide)).wr _ _ _ _ _ (by decide)

/-- What follows the count of a window leaves the count, the machine and the time. -/
theorem WindowEnds.of_counted (hs : s.regsOk = true) (hw : Spares [R.MOT_Mm_KE_MEAS.WINDOWS] (s.windowCounted l m) t)
    (hm : MachStands (s.windowCounted l m) t) (hnow : t.now = (s.windowCounted l m).now)
    (hstate : t.rd (laneDie l) R.MOT_Mm_STATUS.KE_STATE m =
      max (s.rd (laneDie l) R.MOT_Mm_STATUS.KE_STATE m) (keState (s.mach l m).keSum)) : WindowEnds s l m t where
  windows := by
    let v := s.modMach l m fun x => { x with keSum := 0, keCnt := 0 }
    have hv : Spares [R.MOT_Mm_KE_MEAS.WINDOWS] s v := (Spares.refl s).modMach ..
    have hratio : Spares [R.MOT_Mm_KE_MEAS.WINDOWS] (v.inc (laneDie l) R.MOT_Mm_KE_MEAS.WINDOWS m) (s.windowCounted l m) :=
      (Spares.refl _).wr _ _ _ _ _ (by decide)
    exact hv.rose_of_rose hs (List.mem_singleton_self _) ((hratio.trans hw).rose_inc (hv.ok hs) (List.mem_singleton_self _))
  state := hstate
  emptied := by
    have hwr := (((MachStands.refl (s.modMach l m fun x => { x with keSum := 0, keCnt := 0 })).wr (laneDie l)
      R.MOT_Mm_KE_MEAS.WINDOWS _ m 0).wr (laneDie l) R.MOT_Mm_KE_MEAS.RATIO _ m 0).trans hm
    rw [hwr.mach, State.mach_modMach]
  now := hnow.trans (State.modRun_now ..)

/-- A full window counts, and the state never falls. -/
theorem full_window_ends (hs : s.regsOk = true) (hn : 1024 ≤ (s.mach l m).keCnt) :
    leads (.keWindowEnd l m) s (WindowEnds s l m) := by
  refine leads_of_exec rfl ?_
  rw [if_pos hn]
  lift_lets -useContext -merge -underBinder
  intro old k s1
  have hshown := s.windowCounted_state l m
  have hs1 : s1.regsOk = true := hshown.ok hs
  split
  · next hk =>
    exact .of_counted hs (.refl _) (.refl _) rfl ((hshown.rd hs _ _ _ _ (List.mem_singleton_self _)).trans hk.symm)
  · next hk =>
    have hle := keState_le (s.mach l m).keSum
    have hk3 : k < 2 ^ 2 := by omega
    let u := (s1.wr (laneDie l) R.MOT_Mm_STATUS.KE_STATE k m).irq l R.MOT_CTRL.KE_IRQ_EN
    have hwindows : Spares [R.MOT_Mm_KE_MEAS.WINDOWS] s1 (u.motLog l 266 m) :=
      (((Spares.refl s1).wr _ _ _ _ _ (by decide)).irq ..).motLog (by simp [motorFlds]) _
    have hstate : Spares [R.MOT_Mm_STATUS.KE_STATE] (s1.wr (laneDie l) R.MOT_Mm_STATUS.KE_STATE k m) (u.motLog l 266 m) :=
      ((Spares.refl _).irq ..).motLog (by simp [motorFlds]) _
    have hirq : u.now = s1.now := (State.irq_now ..).trans (State.wr_now ..)
    have hnow : (u.motLog l 266 m).now = u.now :=
      (State.motLog_within u l 266 m (msk := 516) (by decide) (Within.refl u)).now_eq (by decide)
    exact .of_counted hs hwindows ((((MachStands.refl _).wr ..).irq ..).motLog ..) (hnow.trans hirq)
      ((hstate.rd_wr hs1 (List.mem_singleton_self _)).trans (low_eq hk3))

end

end Sys2Proof.Machine
end

section
/-!
PROOFS. The observer update (R250, R260 to R262), and the obligation on the angle, catching and the injection.
-/
namespace Sys2Proof.Machine

section
variable {fs : List Fld} {s t : State} {l : Lane} {m : Fin 2}

/-! ## What an update reads stands through the operations before it -/

/-- The configuration error rests on the configuration. -/
theorem Spares.motCfgErr (h : Spares motorFlds s t) (hs : s.regsOk = true) (l : Lane) (m : Fin 2) :
    t.motCfgErr l m = s.motCfgErr l m := by
  have hrd := h.rd hs
  unfold State.motCfgErr State.motChs State.motSlots State.mtpaOk State.bandCh State.tgOf
  simp (disch := decide) only [hrd]

/-- What makes a resolver usable (R260). -/
def usableFlds : List Fld :=
  [R.MOT_Mm_CFG.RES_EN, R.MOT_Mm_CFG.RES_CH, R.POS_RESn_STATUS.VALID, R.MOT_Mm_STATUS.RES_DISTRUST]

theorem Spares.resUsable (h : Spares usableFlds s t) (hs : s.regsOk = true) (l : Lane) (m : Fin 2) :
    t.resUsable l m = s.resUsable l m := by
  have hrd := h.rd hs
  unfold State.resUsable State.on
  simp (disch := decide) only [hrd]

/-- What a resolver's electrical angle is computed of (R260). -/
def thetaFlds : List Fld :=
  [R.MOT_Mm_CFG.RES_CH, R.MOT_Mm_CFG.RES_RATIO, R.MOT_Mm_RES_OFS.OFS, R.POS_RESn_ANGLE.ANGLE]

theorem Spares.resTheta (h : Spares thetaFlds s t) (hs : s.regsOk = true) (l : Lane) (m : Fin 2) :
    t.resTheta l m = s.resTheta l m := by
  have hrd := h.rd hs
  unfold State.resTheta
  simp (disch := decide) only [hrd]

section
variable (hf : fs ⊆ motorFlds)
include hf

theorem Spares.motTake (h : Spares fs s t) : Spares fs s (t.motTake l m) := by
  unfold State.motTake
  split
  · lift_lets -useContext -merge -underBinder
    intro d s1 s2
    have h2 : Spares fs s s2 := (((h.modMach ..).wrOut hf _ _ _ _ (by decide)).wrOut hf _ _ _ _ (by decide)).wrOut hf _ _ _ _
      (by decide)
    refine .ite h ?_
    split
    · exact h2.motRegion hf _
    · exact h2
  · exact h

theorem Spares.motTsat (h : Spares fs s t) : Spares fs s (t.motTsat l m) :=
  .ite (.ite (Spares.motRegion hf (((h.modMach ..).wrOut hf _ _ _ _ (by decide)).modMach ..) _) (h.modMach ..)) h

theorem Spares.motAscHold (h : Spares fs s t) : Spares fs s (t.motAscHold l m) :=
  .ite h (.ite (Spares.motOverride hf (h.modMach ..) _) (.ite (Spares.motHold hf (h.modMach ..) _) (h.modMach ..)))

end

/-! ## The transition that an update decides (R261) -/

/-- The machine is enabled and its configuration has no error. -/
def State.motRuns (s : State) (l : Lane) (m : Fin 2) : Bool := s.on (laneDie l) R.MOT_Mm_CFG.EN m && !s.motCfgErr l m

/-- The configuration error shown. -/
def State.errShown (s : State) (l : Lane) (m : Fin 2) : State := s.put (laneDie l) R.MOT_Mm_STATUS.CFG_ERR (s.motCfgErr l m) m

/-- What the mark of a configuration error leaves of what an update reads. -/
theorem State.errShown_spares (s : State) (l : Lane) (m : Fin 2) :
    Spares ([R.MOT_Mm_STATUS.ANGLE_STATE, R.MOT_Mm_CFG.EN] ++ usableFlds ++ thetaFlds) s (s.errShown l m) :=
  (Spares.refl s).wr _ _ _ _ _ (by decide)

/-- Whatever transition an update decides, it begins with the mark of a configuration error. -/
theorem State.angleStep_goFlds (s : State) (l : Lane) (m : Fin 2) : Spares goFlds (s.errShown l m) (s.angleStep l m) := by
  have hrefl : Spares goFlds (s.errShown l m) (s.errShown l m) := .refl _
  have hgo : ∀ a, Spares goFlds (s.errShown l m) ((s.errShown l m).motGo l m a) := fun a => State.motGo_goFlds ..
  have hmach : ∀ f, Spares goFlds (s.errShown l m) ((s.errShown l m).modMach l m f) := fun f => hrefl.modMach ..
  exact .ite (hgo _) (.ite (hgo _) (.ite (.ite (hgo _) (.ite (hgo _) (hmach _))) (.ite (.ite (hmach _) (.ite (hgo _) (hgo _)))
    (.ite (.ite (hmach _) (.ite (hgo _) (hgo _))) (.ite (.ite (hgo _) (.ite (hgo _) hrefl)) (.ite (.ite (hgo _) hrefl) hrefl))))))

/-- What the angle state is after an update's transition, in the cases that R261 and R262 fix. -/
structure AngleStepped (s : State) (l : Lane) (m : Fin 2) (t : State) : Prop where
  stopped : s.motRuns l m = false → t.ang l m = angDisabled
  enabled : s.motRuns l m = true → s.ang l m = angDisabled → t.ang l m = angOff
  resolver : s.motRuns l m = true → s.resUsable l m = true →
    s.ang l m = angOff ∨ s.ang l m = angResolver ∨ s.ang l m = angAsc ∨ s.ang l m = angNone → t.ang l m = angResolver

theorem State.angleStep_stepped (hs : s.regsOk = true) (l : Lane) (m : Fin 2) : AngleStepped s l m (s.angleStep l m) := by
  have hshown := s.errShown_spares l m
  have hes : (s.errShown l m).regsOk = true := hshown.ok hs
  have hruns : (!(s.errShown l m).on (laneDie l) R.MOT_Mm_CFG.EN m || s.motCfgErr l m) = !s.motRuns l m := by
    rw [hshown.on hs (by simp)]
    unfold State.motRuns
    cases s.on (laneDie l) R.MOT_Mm_CFG.EN m <;> simp
  have husable : (s.errShown l m).resUsable l m = s.resUsable l m :=
    Spares.resUsable (hshown.mono (by simp [usableFlds])) hs l m
  have hang : (s.errShown l m).ang l m = s.ang l m := hshown.rd hs _ _ _ _ (by simp)
  have hgo : ∀ a, a < 8 → ((s.errShown l m).motGo l m a).ang l m = a := fun a ha => State.ang_motGo hes ha
  have hstep : s.angleStep l m = if (!s.motRuns l m) = true then (s.errShown l m).motGo l m angDisabled else _ :=
    if_congr (by rw [← hruns]; rfl) rfl rfl
  refine ⟨fun hoff => ?_, fun hon ha => ?_, fun hon hu ha => ?_⟩
  · rw [hstep, if_pos (by rw [hoff]; rfl)]
    exact hgo _ (by decide)
  · rw [hstep, if_neg (by rw [hon]; decide), if_pos ha]
    exact hgo _ (by decide)
  · rw [hstep, if_neg (by rw [hon]; decide)]
    have hu : (s.put (laneDie l) R.MOT_Mm_STATUS.CFG_ERR (s.motCfgErr l m) m).resUsable l m = true := husable.trans hu
    rcases ha with ha | ha | ha | ha
    · rw [if_neg (by rw [ha]; decide), if_pos ha, if_pos hu]
      exact hgo _ (by decide)
    · rw [if_neg (by rw [ha]; decide), if_neg (by rw [ha]; decide), if_pos ha, if_pos hu]
      exact (State.rd_modRun ..).trans (hang.trans ha)
    · rw [if_neg (by rw [ha]; decide), if_neg (by rw [ha]; decide), if_neg (by rw [ha]; decide), if_neg (by rw [ha]; decide),
        if_pos ha, if_pos hu]
      exact hgo _ (by decide)
    · rw [if_neg (by rw [ha]; decide), if_neg (by rw [ha]; decide), if_neg (by rw [ha]; decide), if_neg (by rw [ha]; decide),
        if_neg (by rw [ha]; decide), if_pos ha, if_pos hu]
      exact hgo _ (by decide)

/-! ## The outputs of an update (R248) and what follows them -/

/-- The angle and the speed shown, unless the machine is being caught. -/
def State.angleShown (s : State) (l : Lane) (m : Fin 2) : State :=
  if s.ang l m = angCatch ∨ s.ang l m = angInject then s
  else (s.wr (laneDie l) R.MOT_Mm_ANGLE.ANGLE
      (if s.ang l m = angResolver then s.resTheta l m else (s.mach l m).obs.theta.toNat) m).wrS (laneDie l) R.MOT_Mm_SPEED.SPEED
    (if s.ang l m = angResolver then s.resOmega l m else if s.ang l m = angAsc then (s.mach l m).obs.scOmega
      else (s.mach l m).obs.omega) m

theorem State.angleShown_stands (s : State) (l : Lane) (m : Fin 2) :
    Spares [R.MOT_Mm_STATUS.ANGLE_STATE, R.MOT_Mm_STATUS.CFG_ERR] s (s.angleShown l m) :=
  .ite (.refl s) (((Spares.refl s).wr _ _ _ _ _ (by decide)).wr _ _ _ _ _ (by decide))

theorem State.motOutputs_shown (s : State) (l : Lane) (m : Fin 2) : Spares angleFlds (s.angleShown l m) (s.motOutputs l m) := by
  have hf : angleFlds ⊆ angleFlds := List.Subset.refl _
  unfold State.motOutputs
  lift_lets -useContext -merge -underBinder
  intro d a x caught theta w s1 s2 dq s3 s4 v
  have hsource : ∀ {t : State}, Spares angleFlds (s.angleShown l m) t → ∀ code y,
      Spares angleFlds (s.angleShown l m) (t.ceSource l code y) := fun h code y =>
    h.withinGates hf (State.ceSource_within _ l code y true (by decide) (Within.refl _))
  have h1 : Spares angleFlds (s.angleShown l m) s1 := .refl _
  have h2 : Spares angleFlds (s.angleShown l m) s2 := hsource (hsource (hsource h1 _ _) _ _) _ _
  have h3 : Spares angleFlds (s.angleShown l m) s3 := ((h2.wrOut hf _ _ _ _ (by decide)).wrOut hf _ _ _ _ (by decide)).wrOut hf
    _ _ _ _ (by decide)
  have h4 : Spares angleFlds (s.angleShown l m) s4 := h3.wrOut hf _ _ _ _ (by decide)
  exact .ite (h4.motSignals hf _) (.ite (h4.motSignals hf _) (.ite (h4.motSignals hf _) h4))

theorem State.xchkStep_angleFlds (s : State) (l : Lane) (m : Fin 2) : Spares angleFlds s (s.xchkStep l m) := by
  have hf : angleFlds ⊆ angleFlds := List.Subset.refl _
  have h1 : ∀ f, Spares angleFlds s (s.modMach l m f) := fun f => (Spares.refl s).modMach ..
  refine .ite (.ite ?_ (.ite ((h1 _).wrOut hf _ _ _ _ (by decide)) (h1 _))) (h1 _)
  exact ((((h1 _).modMach ..).wrOut hf _ _ _ _ (by decide)).wrOut hf _ _ _ _ (by decide)).irq ..

/-- The cross-check and the energy path's steps at an update. -/
def State.updateChecked (s : State) (l : Lane) (m : Fin 2) : State :=
  ((s.xchkStep l m).plimStep l).when (m == 0) fun s => s.obcRefs l

theorem State.updateChecked_angleFlds (s : State) (l : Lane) (m : Fin 2) : Spares angleFlds s (s.updateChecked l m) := by
  have hall : angleFlds.all (fun f => f.inM (4294967295 - 4398046512192 % 4294967296)) = true := by decide
  have hplim := State.plimStep_within (s.xchkStep l m) l (msk := 4398046512192) (by decide) (Within.refl _)
  have hobc := within_when (m := 4398046512192) (m == 0) (fun s => s.obcRefs l) hplim fun t =>
    State.obcRefs_within t l (by decide) (Within.refl t)
  exact (s.xchkStep_angleFlds l m).within hobc fun f hm => List.all_eq_true.1 hall f hm

/-- An update from its transition on. -/
def State.updateEnded (s : State) (l : Lane) (m : Fin 2) : State :=
  (((s.angleStep l m).motAscHold l m).motOutputs l m).updateChecked l m

/-- What follows the transition of an update shows the angle and leaves the angle state. -/
theorem State.updateEnded_shown (s : State) (l : Lane) (m : Fin 2) :
    Spares angleFlds (((s.angleStep l m).motAscHold l m).angleShown l m) (s.updateEnded l m) :=
  (State.motOutputs_shown ..).trans (State.updateChecked_angleFlds ..)

theorem State.updateEnded_stands (s : State) (l : Lane) (m : Fin 2) :
    Spares [R.MOT_Mm_STATUS.ANGLE_STATE, R.MOT_Mm_STATUS.CFG_ERR] (s.angleStep l m) (s.updateEnded l m) := by
  have hasc : Spares [R.MOT_Mm_STATUS.ANGLE_STATE, R.MOT_Mm_STATUS.CFG_ERR] (s.angleStep l m)
      ((s.angleStep l m).motAscHold l m) := (Spares.refl _).motAscHold (by simp [motorFlds, angleFlds, goFlds])
  exact (hasc.trans (State.angleShown_stands ..)).trans ((s.updateEnded_shown l m).mono (by simp [angleFlds, goFlds]))

/-- A machine that takes the resolver's angle shows it. -/
theorem State.updateEnded_theta (hs : s.regsOk = true) (ha : (s.updateEnded l m).ang l m = angResolver) :
    (s.updateEnded l m).thetaE l m = s.resTheta l m := by
  let u := (s.angleStep l m).motAscHold l m
  have herr : Spares thetaFlds s (s.errShown l m) := (s.errShown_spares l m).mono (List.subset_append_right ..)
  have hstep : Spares thetaFlds s (s.angleStep l m) :=
    herr.trans ((s.angleStep_goFlds l m).mono (by simp [thetaFlds, goFlds]))
  have hu : Spares thetaFlds s u := hstep.motAscHold (by simp [thetaFlds, motorFlds, angleFlds, goFlds])
  have hasc : Spares [R.MOT_Mm_STATUS.ANGLE_STATE] (s.angleStep l m) u :=
    (Spares.refl _).motAscHold (by simp [motorFlds, angleFlds])
  have hstepOk : (s.angleStep l m).regsOk = true := hstep.ok hs
  have hang : u.ang l m = angResolver := (hasc.rd hstepOk _ _ _ _ (List.mem_singleton_self _)).trans
    (((s.updateEnded_stands l m).rd hstepOk _ _ _ _ (by simp)).symm.trans ha)
  have hshown := s.updateEnded_shown l m
  unfold State.angleShown at hshown
  rw [if_neg (by rw [hang]; decide), if_pos hang] at hshown
  have hangle : Spares [R.MOT_Mm_ANGLE.ANGLE] (u.wr (laneDie l) R.MOT_Mm_ANGLE.ANGLE (u.resTheta l m) m) (s.updateEnded l m) :=
    ((Spares.refl _).wr _ _ _ _ _ (by decide)).trans (hshown.mono (by simp [angleFlds, goFlds]))
  refine (hangle.rd_wr (hu.ok hs) (List.mem_singleton_self _)).trans ?_
  rw [hu.resTheta hs]
  exact Nat.mod_mod _ _

/-- An update up to its transition: the observer's outputs taken, the supervisory cycle's results put in force. -/
def State.updateBegun (s : State) (l : Lane) (m : Fin 2) (o : ObsOut) : State :=
  let x := max (((s.mach l m).upAt / 625 + 1) * 625) (ceilDiv (s.laneTime l) 625 * 625)
  ((((s.advTo (s.instantOf l x)).modMach l m fun y =>
    { y with upAt := x, obs := o, resid := (o.resid :: y.resid).take 16 }).motTake l m).motTsat l m)

theorem State.updateBegun_motorFlds (s : State) (l : Lane) (m : Fin 2) (o : ObsOut) :
    Spares motorFlds s (s.updateBegun l m o) := by
  have hf : motorFlds ⊆ motorFlds := List.Subset.refl _
  exact Spares.motTsat hf (Spares.motTake hf (Spares.modMach ((Spares.refl s).of_regs (State.advTo_regs ..)) ..))

theorem exec_motObserverUpdate (o : ObsOut) (hp : s.past l 11 = true) :
    exec (.motObserverUpdate l m o) s = .next ((s.updateBegun l m o).updateEnded l m) := congrArg Host.Outcome.next (if_pos hp)

/-- After the wait for its instant an update takes no time. -/
theorem State.update_now (s : State) (l : Lane) (m : Fin 2) (o : ObsOut) :
    ((s.updateBegun l m o).updateEnded l m).now = max s.now (s.instantOf l
      (max (((s.mach l m).upAt / 625 + 1) * 625) (ceilDiv (s.laneTime l) 625 * 625))) := by
  unfold State.updateBegun
  lift_lets -useContext -merge -underBinder
  intro x
  let v := (s.advTo (s.instantOf l x)).modMach l m fun y =>
    { y with upAt := x, obs := o, resid := (o.resid :: y.resid).take 16 }
  have hbegun := State.motTsat_within _ l m (by decide)
    (State.motTake_within v l m (msk := 4582735349444) (by decide) (Within.refl v))
  have hshown := State.motOutputs_within _ l m (by decide)
    (State.motAscHold_within _ l m (by decide) (State.angleStep_within _ l m (by decide) hbegun))
  have hchecked := within_when (m == 0) (fun s => s.obcRefs l)
    (State.plimStep_within _ l (by decide) (State.xchkStep_within _ l m (by decide) hshown)) fun t =>
      State.obcRefs_within t l (by decide) (Within.refl t)
  exact (hchecked.now_eq (by decide)).trans (State.modRun_now ..)

/-- What an observer update leaves. -/
theorem observer_update_ends (o : ObsOut) (hs : s.regsOk = true) (hp : s.past l 11 = true) :
    leads (.motObserverUpdate l m o) s fun t =>
      t.now = max s.now (s.instantOf l (max (((s.mach l m).upAt / 625 + 1) * 625) (ceilDiv (s.laneTime l) 625 * 625))) ∧
      t.rd (laneDie l) R.MOT_Mm_STATUS.CFG_ERR m = b2n (s.motCfgErr l m) ∧
      AngleStepped s l m t ∧ (t.ang l m = angResolver → t.thetaE l m = s.resTheta l m) := by
  refine leads_of_exec (exec_motObserverUpdate o hp) ?_
  have hbegun := s.updateBegun_motorFlds l m o
  have hnow := s.update_now l m o
  generalize s.updateBegun l m o = v at hbegun hnow
  have hv : v.regsOk = true := hbegun.ok hs
  have hstep := v.angleStep_goFlds l m
  have hstepOk : (v.angleStep l m).regsOk = true := hstep.ok (State.wr_regsOk _ _ _ _ _ _ hv)
  have hstands := v.updateEnded_stands l m
  have hang : (v.updateEnded l m).ang l m = (v.angleStep l m).ang l m := hstands.rd hstepOk _ _ _ _ (by simp)
  have herr : v.motCfgErr l m = s.motCfgErr l m := hbegun.motCfgErr hs l m
  have hruns : v.motRuns l m = s.motRuns l m := by
    unfold State.motRuns
    rw [herr, hbegun.on hs (by simp [motorFlds])]
  have husable : v.resUsable l m = s.resUsable l m :=
    Spares.resUsable (hbegun.mono (by simp [usableFlds, motorFlds, angleFlds, goFlds])) hs l m
  have htheta : v.resTheta l m = s.resTheta l m :=
    Spares.resTheta (hbegun.mono (by simp [thetaFlds, motorFlds, angleFlds, goFlds])) hs l m
  have hfrom : v.ang l m = s.ang l m := hbegun.rd hs _ _ _ _ (by decide)
  obtain ⟨hstopped, henabled, hresolver⟩ := State.angleStep_stepped hv l m
  rw [hruns] at hstopped henabled hresolver
  rw [hfrom] at henabled hresolver
  rw [husable] at hresolver
  refine ⟨hnow, ?_, ⟨fun h => hang.trans (hstopped h), fun h ha => hang.trans (henabled h ha),
    fun h hu ha => hang.trans (hresolver h hu ha)⟩, fun ha => (State.updateEnded_theta hv ha).trans htheta⟩
  rw [hstands.rd hstepOk _ _ _ _ (by simp), ← herr]
  exact hstep.rd_put hv (by decide) (by decide)

end

/-- Settles O28: an observer update from its transition and what follows it, the time-outs from the transition that each makes, and
a pulse, a part of the injection and a window of the back-EMF check each from the lemma on its end. -/
theorem motorAngleCatchingAndInjectionProceed : Obligations.MotorAngleCatchingAndInjectionProceed := by
  unfold Obligations.MotorAngleCatchingAndInjectionProceed
  refine ⟨?_, ?_, ?_, ?_, ?_, ?_, ?_, ?_, ?_, ?_⟩
  · intro s l m o hs hp
    obtain ⟨t, hexec, hnow, herr, hstep, htheta⟩ := observer_update_ends (m := m) o (canonical_regs hs) hp
    refine leads_of_exec hexec
      ⟨hnow, herr, hstep.stopped, fun ⟨hon, ha⟩ => hstep.enabled hon ha, fun ⟨hon, hu, ha⟩ => ?_⟩
    have hang := hstep.resolver hon hu ha
    exact ⟨hang, htheta hang⟩
  · intro s l m hs ht hx
    obtain ⟨hevt, hloss, hrose, hnow, hang⟩ := State.xchk_lost
      (s := s.advTo ((s.mach l m).xchkAt + orOne (s.rd (laneDie l) R.MOT_Mm_XCHK.TIME m) * ms)) (canonical_regs hs) ht rfl rfl
    exact leads_of_exec (exec_motXchkTimeout ht hx) ⟨hevt, hloss, hrose, hnow, hang⟩
  · intro s l m hs ha hi
    exact leads_of_exec (exec_motRectifyTimeout ha hi) (State.motGo_advTo (canonical_regs hs) (by decide) _)
  · intro s l m hs h
    have hto : (if s.ang l m = angResolver then angObserver else angResolver) < 8 ∧
        torqueOk (if s.ang l m = angResolver then angObserver else angResolver) = true := by
      split <;> decide
    obtain ⟨hang, hnow⟩ := State.motGo_advTo (l := l) (m := m) (canonical_regs hs) hto.1 ((s.mach l m).prefAt.getD s.now + ms)
    exact leads_of_exec (exec_motPrefTimeout h) ⟨hang, State.motGo_loss_stands (canonical_regs hs) hto.2, hnow⟩
  · intro s l m hs hl ha
    exact leads_of_exec (exec_motRecatch hl ha) ⟨State.ang_motGo (canonical_regs hs) (by decide), State.motGo_now ..⟩
  · intro s l m ht hr hne
    exact tsat_expires ht hr hne
  · intro s l m hs ha hp
    obtain ⟨t, hexec, hang, hpulse, hsince, hown, hnow⟩ := catch_pulse_starts (canonical_regs hs) ha hp
    refine leads_of_exec hexec ⟨hang, hpulse, hsince, hown, hnow.trans ?_⟩
    unfold State.pulseAwaited
    cases (s.mach l m).pulseAt <;> rfl
  · intro s l m hs ha hp
    obtain ⟨t, hexec, h⟩ := catch_pulse_ends (canonical_regs hs) ha hp
    exact leads_of_exec hexec ⟨h.now, fun hw => ⟨h.strong hw, h.first hw⟩, h.weak⟩
  · intro s l m hs ha
    obtain ⟨t, hexec, h⟩ := injection_goes (canonical_regs hs) ha
    exact leads_of_exec hexec ⟨h.now, h.fails, h.goesOn, h.ends⟩
  · intro s l m hs
    by_cases hn : 1024 ≤ (s.mach l m).keCnt
    · obtain ⟨t, hexec, h⟩ := full_window_ends (canonical_regs hs) hn
      exact leads_of_exec hexec ⟨fun hlt => absurd hn (Nat.not_le.2 hlt), fun _ => ⟨h.windows, h.state, h.emptied, h.now⟩⟩
    · exact leads_of_exec (congrArg Host.Outcome.next (if_neg hn)) ⟨fun _ => rfl, fun h => absurd h hn⟩

end Sys2Proof.Machine
end

section
/-!
PROOFS. Parts of what the lanes run that the gate drives, the safe outputs and the event log leave as they were (R200, R207 to R209,
R241, R278, R345).
-/
namespace Sys2Proof.Machine

/-- A part of what a lane runs to which neither its PWM, nor its interrupt lines, nor its tally belong. -/
structure Aside {α : Type} (π : LaneRun → α) : Prop where
  pwm : ∀ (r : LaneRun) (x : PwmSt), π { r with pwm := x } = π r
  irqs : ∀ (r : LaneRun) (x : List Nat), π { r with irqs := x } = π r
  tal : ∀ (r : LaneRun) (x : Tally), π { r with tal := x } = π r

/-- The `NRG` block of a lane. -/
theorem aside_nrg : Aside LaneRun.nrg := ⟨fun _ _ => rfl, fun _ _ => rfl, fun _ _ => rfl⟩

/-- A part of what the lanes run is as it was on both of them. -/
structure Views {α : Type} (π : LaneRun → α) (s t : State) : Prop where
  eq : ∀ k, π (t.run k) = π (s.run k)

section
variable {α : Type} {π : LaneRun → α} {s t u : State} {l : Lane}

theorem Views.refl (s : State) : Views π s s := ⟨fun _ => rfl⟩

theorem Views.trans (h : Views π s t) (g : Views π t u) : Views π s u := ⟨fun k => (g.eq k).trans (h.eq k)⟩

theorem Views.symm (h : Views π s t) : Views π t s := ⟨fun k => (h.eq k).symm⟩

/-- A change that touches no lane. -/
theorem Views.of_lanes (h : Views π s t) (ha : u.laneA = t.laneA) (hb : u.laneB = t.laneB) : Views π s u :=
  h.trans ⟨fun k => by
    cases k
    · exact congrArg (fun x => π x.run) ha
    · exact congrArg (fun x => π x.run) hb⟩

theorem Views.wr (h : Views π s t) (d : Die) (g : Fld) (v i j : Nat) : Views π s (t.wr d g v i j) := h.of_lanes rfl rfl

theorem Views.modDep (h : Views π s t) (f : DepSt → DepSt) : Views π s (t.modDep f) := h.of_lanes rfl rfl

theorem Views.advTo (h : Views π s t) (x : Nat) : Views π s (t.advTo x) := h.of_lanes rfl rfl

theorem Views.modLink (h : Views π s t) (n : Fin 40) (f : HoistLink → HoistLink) : Views π s (t.modLink n f) := h.of_lanes rfl rfl

theorem Views.modPap (h : Views π s t) (l : Lane) (f : PapSt → PapSt) : Views π s (t.modPap l f) := by
  cases l <;> exact h.of_lanes rfl rfl

/-- A change of what a lane runs, the part viewed apart. -/
theorem Views.modRun (h : Views π s t) (l : Lane) {f : LaneRun → LaneRun} (hf : ∀ r, π (f r) = π r) : Views π s (t.modRun l f) :=
  h.trans ⟨fun k => by
    rw [State.run_modRun]
    split
    · next hk => rw [hk, hf]
    · rfl⟩

theorem Views.ite {c : Prop} [Decidable c] (h : Views π s t) (g : Views π s u) : Views π s (if c then t else u) := by
  split
  · exact h
  · exact g

theorem Views.when (h : Views π s t) (c : Bool) {f : State → State} (hf : ∀ x, Views π x (f x)) : Views π s (t.when c f) :=
  h.trans (.ite (hf t) (.refl t))

theorem Views.each {β : Type} (h : Views π s t) (xs : List β) {f : State → β → State} (hf : ∀ x y, Views π x (f x y)) :
    Views π s (t.each xs f) := h.trans (State.each_related Views.refl Views.trans (fun x y _ => hf x y) t)

/-! ## Hoist links and groups -/

theorem Views.setDown (h : Views π s t) (n : Fin 40) (on : Bool) : Views π s (t.setDown n on) := h.modLink ..

theorem Views.hoistWant (h : Views π s t) (n : Fin 40) (on : Bool) (x : Int) : Views π s (t.hoistWant n on x) := by
  refine .ite (.ite h (.ite (h.modLink ..) ?_)) ((h.modLink ..).setDown ..)
  split
  · exact (h.modLink ..).setDown ..
  · exact .ite ((h.modLink ..).setDown ..) (h.modLink ..)

theorem Views.hoistCmd (h : Views π s t) (n : Fin 40) (on : Bool) (x : Int) : Views π s (t.hoistCmd n on x) :=
  .ite ((h.modLink ..).hoistWant ..) (h.modLink ..)

theorem Views.groupDrive (h : Views π s t) (g : Nat) (asc : Bool) : Views π s (t.groupDrive g asc) :=
  (h.each _ fun x _ => (Views.refl x).hoistWant ..).each _ fun x _ => (Views.refl x).hoistWant ..

theorem Views.groupApply (h : Views π s t) (g : Nat) : Views π s (t.groupApply g) :=
  .ite (h.groupDrive ..) (.ite (h.groupDrive ..) (.ite (h.groupDrive ..)
    (h.each _ fun x _ => .ite ((Views.refl x).hoistWant ..) (.refl x))))

/-! ## Pre-drivers -/

theorem Views.pdOff (h : Views π s t) (l : Lane) (n : Fin 16) (hi : Bool) : Views π s (t.pdOff l n hi) :=
  .ite ((h.modPap ..).wr ..) ((h.modPap ..).wr ..)

theorem Views.pdOn (h : Views π s t) (l : Lane) (n : Fin 16) (hi : Bool) : Views π s (t.pdOn l n hi) :=
  .ite ((h.modPap ..).wr ..) ((h.modPap ..).wr ..)

theorem Views.pdCmd (h : Views π s t) (l : Lane) (n : Fin 16) (hi on : Bool) (x : Int) : Views π s (t.pdCmd l n hi on x) :=
  .ite h (.ite (.ite (.ite h (.ite ((h.modPap ..).pdOn ..) (h.modPap ..))) h)
    ((Views.ite ((h.modPap ..).pdOff ..) (h.modPap ..)).pdOff ..))

/-! ## Channels, interrupt lines and events -/

section
variable (hπ : Aside π)
include hπ

theorem Views.modPwm (h : Views π s t) (l : Lane) (f : PwmSt → PwmSt) : Views π s (t.modPwm l f) :=
  h.modRun l fun r => hπ.pwm r (f r.pwm)

theorem Views.modCh (h : Views π s t) (l : Lane) (c : Fin 64) (f : PwmCh → PwmCh) : Views π s (t.modCh l c f) := h.modPwm hπ ..

theorem Views.driveDst (h : Views π s t) (l : Lane) (c : Fin 64) (code : Nat) (on : Bool) (x : Int) :
    Views π s (t.driveDst l c code on x) := by
  refine .ite (.ite ?_ h) (.ite (h.pdCmd ..) (.ite (h.pdCmd ..) (.ite (h.modPwm hπ ..) h)))
  split
  · exact h.hoistCmd ..
  · exact h

theorem Views.driveH (h : Views π s t) (l : Lane) (c : Fin 64) (on : Bool) (x : Int) : Views π s (t.driveH l c on x) :=
  (h.modCh hπ ..).driveDst hπ ..

theorem Views.driveL (h : Views π s t) (l : Lane) (c : Fin 64) (on : Bool) (x : Int) : Views π s (t.driveL l c on x) :=
  .ite ((h.modCh hπ ..).driveDst hπ ..) (h.modCh hπ ..)

theorem Views.chOff (h : Views π s t) (l : Lane) (c : Fin 64) : Views π s (t.chOff l c) := by
  have hoff := (h.driveH hπ l c false t.steps).driveL hπ l c false t.steps
  unfold State.chOff State.freePartner
  split
  · exact hoff
  · exact .ite ((hoff.modCh hπ ..).driveH hπ ..) hoff

theorem Views.holdStage (h : Views π s t) (l : Lane) (cs : List (Fin 64)) (held : Bool) : Views π s (t.holdStage l cs held) :=
  h.each _ fun x c => .ite (.refl x) (.ite (((Views.refl x).chOff hπ l c).modCh hπ ..) ((Views.refl x).modCh hπ ..))

theorem Views.irq (h : Views π s t) (l : Lane) (en : Fld) (i : Nat) : Views π s (t.irq l en i) :=
  .ite (h.modRun l fun r => hπ.irqs r _) h

theorem Views.log (h : Views π s t) (l : Lane) (rule detail : Nat) : Views π s (t.log l rule detail) := by
  refine .ite ?_ h
  unfold State.submit
  dsimp only
  split
  · exact h.wr (laneDie l) R.TAL_REFUSE_CNT.LATE _ 0 0
  · exact h.wr (laneDie l) R.TAL_REFUSE_CNT.FULL _ 0 0
  · exact h.modRun l fun r => hπ.tal r _

theorem Views.logIf (h : Views π s t) (l : Lane) (en : Fld) (rule detail i : Nat) : Views π s (t.logIf l en rule detail i) :=
  h.when _ fun x => (Views.refl x).log hπ ..

theorem Views.discharge (h : Views π s t) (l : Lane) (on : Bool) : Views π s (t.discharge l on) :=
  .ite (h.modRun l fun r => hπ.pwm r _) h

end

/-! ## Safe outputs and contactors -/

/-- What a request to close a safe output can leave: nothing changed, its refusal marked, or a change of the Deputy's own state with
or without the output's switches on. -/
theorem State.closeSo_state (s : State) (k : Fin 12) (P : State → Prop) (hstays : P s) (hrefused : P (s.set .ds R.DSP_SOk_STATUS.REFUSED k))
    (hwaits : ∀ f, P (s.modDep f)) (hcloses : ∀ f, P ((s.soSet k true true).modDep f)) : P (s.closeSo k).2 := by
  unfold State.closeSo
  split
  · exact hstays
  · split
    · exact hrefused
    · split
      · dsimp only
        exact hwaits _
      · dsimp only
        exact hcloses _

/-- The request of a close with the contactor's pull-in and economiser settings (R278), before the output answers it. -/
def State.closeAsked (s : State) (l : Lane) (c : Nat) : State :=
  let d := laneDie l
  let k := s.ctrOut l c
  ((((s.set .ds R.DSP_SOk_CMD.CLOSE k).wr .ds R.DSP_SOk_CMD.ECO_EN (s.rd d R.NRG_CTRc_ECO.ECO_EN c) k).wr .ds R.DSP_SOk_CMD.DUTY
    (clampN 10 100 (s.rd d R.NRG_CTRc_ECO.DUTY c)) k).wr .ds R.DSP_SOk_CMD.FREQ (clampN 1 25 (s.rd d R.NRG_CTRc_ECO.FREQ c)) k).wr
    .ds R.DSP_SOk_CMD.T_PULL (s.rd d R.NRG_CTRc_CFG.T_PULL c) k

/-- What the output answers to the request. -/
def State.closeAnswer (s : State) (l : Lane) (c : Nat) : Bool × State := (s.closeAsked l c).closeSo (s.ctrOut l c)

/-- The Deputy is present and the contactor is enabled. -/
def State.ctrServed (s : State) (l : Lane) (c : Nat) : Bool := s.depOn && s.on (laneDie l) R.NRG_CTRc_CFG.EN c

theorem State.ctrClose_eq (s : State) (l : Lane) (c : Nat) :
    s.ctrClose l c = if s.ctrServed l c then ((s.closeAnswer l c).1, if (s.closeAnswer l c).1 then
      (s.closeAnswer l c).2.inc (laneDie l) R.NRG_CTRc_CNT.CLOSES c else (s.closeAnswer l c).2) else (false, s) := rfl

theorem Views.soSet (h : Views π s t) (k : Fin 12) (hs ls : Bool) : Views π s (t.soSet k hs ls) :=
  ((((((Views.ite h (h.modDep _)).wr ..).wr ..).wr ..).wr ..).wr ..).wr ..

/-- What a safe output that opens can leave: its switches off with a change of the Deputy's own state, and a test of it ended. -/
theorem State.openSo_state (s : State) (k : Fin 12) (P : State → Prop) (hopens : ∀ f, P ((s.soSet k false false).modDep f))
    (hends : ∀ f, P (((s.soSet k false false).modDep f).testEnd k 4)) : P (s.openSo k) := by
  unfold State.openSo
  dsimp only
  split
  · split
    · exact hends _
    · exact hopens _
  · exact hopens _

theorem Views.openSo (h : Views π s t) (k : Fin 12) : Views π s (t.openSo k) :=
  State.openSo_state t k (Views π s) (fun _ => (h.soSet ..).modDep _) fun _ => ((((h.soSet ..).modDep _).wr ..).wr ..).wr .. |>.modDep _

theorem Views.ctrOpen1 (h : Views π s t) (l : Lane) (c : Nat) : Views π s (t.ctrOpen1 l c) := .ite ((h.wr ..).openSo ..) h

theorem Views.ctrOpen (h : Views π s t) (l : Lane) (c : Nat) : Views π s (t.ctrOpen l c) :=
  (Views.ite (h.each _ fun x y => .ite ((Views.refl x).ctrOpen1 l y) (.refl x)) h).ctrOpen1 ..

theorem Views.closeSo (h : Views π s t) (k : Fin 12) : Views π s (t.closeSo k).2 :=
  State.closeSo_state t k (Views π s) h (h.wr ..) (fun _ => h.modDep _) fun _ => (h.soSet ..).modDep _

theorem Views.closeAsked (h : Views π s t) (l : Lane) (c : Nat) : Views π s (t.closeAsked l c) :=
  ((((h.wr ..).wr ..).wr ..).wr ..).wr ..

theorem Views.ctrClose (h : Views π s t) (l : Lane) (c : Nat) : Views π s (t.ctrClose l c).2 := by
  have hclose : Views π s (t.closeAnswer l c).2 := (h.closeAsked l c).closeSo _
  rw [State.ctrClose_eq]
  split
  · exact .ite (hclose.wr ..) hclose
  · exact h

end

end Sys2Proof.Machine
end

section
/-!
PROOFS. Contactors at the Deputy's safe outputs (R277 to R279, R345): what a close and an open request write, the contactor states they
leave, and what the answer to a close rests on.
-/
namespace Sys2Proof.Machine

section
variable {fs : List Fld} {s t u : State} {l : Lane} {c : Nat}

theorem Spares.advTo (h : Spares fs s t) (x : Nat) : Spares fs s (t.advTo x) := h.of_regs (State.advTo_regs ..)

/-! ## What the requests write -/

/-- The fields that a request to open or to close a safe output writes. -/
def soFlds : List Fld :=
  [R.DSP_SOk_STATUS.HS, R.DSP_SOk_STATUS.LS, R.DSP_SOk_STATUS.FB, R.DSP_SOk_STATUS.LS_SENSE, R.DSP_SOk_STATUS.REFUSED,
   R.DSP_SO_FB.LEVEL, R.DSP_SO_LS.LEVEL, R.DSP_SO_TEST_STATUS.LAST_OUT, R.DSP_SO_TEST_STATUS.LAST_RESULT,
   R.DSP_SO_TEST_STATUS.BUSY, R.DSP_SOk_CMD.CLOSE, R.DSP_SOk_CMD.ECO_EN, R.DSP_SOk_CMD.DUTY, R.DSP_SOk_CMD.FREQ,
   R.DSP_SOk_CMD.T_PULL]

section
variable (ha : apartAll soFlds fs = true)
include ha

theorem Spares.soSet (h : Spares fs s t) (k : Fin 12) (hs ls : Bool) : Spares fs s (t.soSet k hs ls) := by
  have h0 : ∀ (x : State) (v : Bool), Spares fs x (if v then x else x.modDep fun d => { d with soAt := upd d.soAt k fun _ => x.now }) :=
    fun x _ => .ite (.refl x) ((Spares.refl x).modDep _)
  have h1 := h.trans (h0 t (t.on .ds R.DSP_SOk_STATUS.HS k == hs && t.on .ds R.DSP_SOk_STATUS.LS k == ls))
  exact (((((h1.wrIn ha .ds (g := R.DSP_SOk_STATUS.HS) _ _ _ (by decide)).wrIn ha .ds (g := R.DSP_SOk_STATUS.LS) _ _ _
    (by decide)).wrIn ha .ds (g := R.DSP_SOk_STATUS.FB) _ _ _ (by decide)).wrIn ha .ds (g := R.DSP_SOk_STATUS.LS_SENSE) _ _ _
    (by decide)).wrIn ha .ds (g := R.DSP_SO_FB.LEVEL) _ _ _ (by decide)).wrIn ha .ds (g := R.DSP_SO_LS.LEVEL) _ _ _ (by decide)

theorem Spares.testEnd (h : Spares fs s t) (out code : Nat) : Spares fs s (t.testEnd out code) :=
  (((h.wrIn ha _ _ _ _ (by decide)).wrIn ha _ _ _ _ (by decide)).wrIn ha _ _ _ _ (by decide)).modDep _

theorem Spares.openSo (h : Spares fs s t) (k : Fin 12) : Spares fs s (t.openSo k) :=
  State.openSo_state t k (Spares fs s) (fun _ => (h.soSet ha ..).modDep _) fun _ => ((h.soSet ha ..).modDep _).testEnd ha ..

theorem Spares.ctrOpen1 (h : Spares fs s t) (l : Lane) (c : Nat) : Spares fs s (t.ctrOpen1 l c) :=
  .ite ((h.wrIn ha _ _ _ _ (by decide)).openSo ha _) h

theorem Spares.ctrOpen (h : Spares fs s t) (l : Lane) (c : Nat) : Spares fs s (t.ctrOpen l c) :=
  (Spares.ite (h.each _ fun x y => .ite ((Spares.refl x).ctrOpen1 ha l y) (.refl x)) h).ctrOpen1 ha ..

theorem Spares.openAll (h : Spares fs s t) (l : Lane) : Spares fs s (t.openAll l) :=
  ((h.ctrOpen ha ..).ctrOpen ha ..).ctrOpen ha ..

theorem Spares.closeAsked (h : Spares fs s t) (l : Lane) (c : Nat) : Spares fs s (t.closeAsked l c) :=
  ((((h.wrIn ha _ _ _ _ (by decide)).wrIn ha _ _ _ _ (by decide)).wrIn ha _ _ _ _ (by decide)).wrIn ha _ _ _ _ (by decide)).wrIn ha
    _ _ _ _ (by decide)

theorem Spares.closeAnswer (h : Spares fs s t) (l : Lane) (c : Nat) : Spares fs s (t.closeAnswer l c).2 :=
  have hasked := h.closeAsked ha l c
  State.closeSo_state _ _ (Spares fs s) hasked (hasked.wrIn ha _ _ _ _ (by decide)) (fun _ => hasked.modDep _) fun _ =>
    (hasked.soSet ha ..).modDep _

theorem Spares.ctrClose (h : Spares fs s t) (l : Lane) (c : Nat) (hc : ∀ f ∈ fs, R.NRG_CTRc_CNT.CLOSES.apart f = true) :
    Spares fs s (t.ctrClose l c).2 := by
  have hanswer := h.closeAnswer ha l c
  rw [State.ctrClose_eq]
  split
  · exact .ite (hanswer.wr _ _ _ _ _ hc) hanswer
  · exact h

end

/-- A close that is accepted counts (R278). -/
theorem State.ctrClose_rose (hs : s.regsOk = true) (hr : (s.ctrClose l c).1 = true) :
    rose s (s.ctrClose l c).2 (laneDie l) R.NRG_CTRc_CNT.CLOSES c := by
  rw [State.ctrClose_eq] at hr ⊢
  split at hr
  · next hserved =>
    have hr : (s.closeAnswer l c).1 = true := hr
    have hanswer : Spares [R.NRG_CTRc_CNT.CLOSES] s (s.closeAnswer l c).2 := (Spares.refl s).closeAnswer (by decide) l c
    rw [if_pos hserved]
    dsimp only
    rw [if_pos hr]
    exact hanswer.rose_of_rose hs (List.mem_singleton_self _) (rose_inc _ _ _ _ (hanswer.ok hs))
  · exact absurd hr Bool.false_ne_true

/-! ## The states of the contactors (R278) -/

/-- What an open request makes of a contactor. -/
def CtrState.opened (x : CtrState) : CtrState := if x = .pull ∨ x = .hold then .drop else x

theorem CtrState.opened_opened (x : CtrState) : x.opened.opened = x.opened := by cases x <;> rfl

theorem State.ctrClosed_iff : s.ctrClosed l c = true ↔ s.ctr l c = .pull ∨ s.ctr l c = .hold := by
  unfold State.ctrClosed
  rw [Bool.or_eq_true, beq_iff_eq, beq_iff_eq]

/-- A closed contactor drops. -/
theorem State.opened_of_closed (h : s.ctrClosed l c = true) : (s.ctr l c).opened = .drop := if_pos (State.ctrClosed_iff.1 h)

/-- The state of a contactor is that of its output. -/
theorem State.ctr_of_out {k : Fin 12} : s.ctrOut l c = k → s.ctr l c = s.dep.ctr[k] := by
  rintro rfl
  rfl

/-- From `s` to `t` contactors may have been opened, and nothing else has befallen them; the Deputy is present or absent as before. -/
structure OnlyOpens (s t : State) : Prop where
  ctr : ∀ j : Fin 12, t.dep.ctr[j] = s.dep.ctr[j] ∨ t.dep.ctr[j] = (s.dep.ctr[j]).opened
  phase : t.dep.phase = s.dep.phase
  regs : Spares [R.NRG_CTRc_CFG.SO, R.NRG_CTRc_CFG.EN] s t

theorem OnlyOpens.of_dep (hd : t.dep = s.dep) (hr : Spares [R.NRG_CTRc_CFG.SO, R.NRG_CTRc_CFG.EN] s t) : OnlyOpens s t :=
  ⟨fun _ => .inl (by rw [hd]), by rw [hd], hr⟩

theorem OnlyOpens.refl (s : State) : OnlyOpens s s := .of_dep rfl (.refl s)

theorem OnlyOpens.trans (h : OnlyOpens s t) (g : OnlyOpens t u) : OnlyOpens s u where
  ctr j := by
    rcases g.ctr j with hg | hg <;> rcases h.ctr j with hh | hh <;> rw [hg, hh]
    · exact .inl rfl
    · exact .inr rfl
    · exact .inr rfl
    · exact .inr (CtrState.opened_opened _)
  phase := g.phase.trans h.phase
  regs := h.regs.trans g.regs

theorem OnlyOpens.ite {p : Prop} [Decidable p] (h : OnlyOpens s t) (g : OnlyOpens s u) : OnlyOpens s (if p then t else u) := by
  split
  · exact h
  · exact g

theorem OnlyOpens.each {α : Type} (h : OnlyOpens s t) (xs : List α) {f : State → α → State} (hf : ∀ x y, OnlyOpens x (f x y)) :
    OnlyOpens s (t.each xs f) := h.trans (State.each_related OnlyOpens.refl OnlyOpens.trans (fun x y _ => hf x y) t)

theorem State.soSet_ctr (s : State) (k : Fin 12) (hs ls : Bool) :
    (s.soSet k hs ls).dep.ctr = s.dep.ctr ∧ (s.soSet k hs ls).dep.phase = s.dep.phase := by
  have h : ∀ v : Bool, (if v then s else s.modDep fun d => { d with soAt := upd d.soAt k fun _ => s.now }).dep.ctr = s.dep.ctr ∧
      (if v then s else s.modDep fun d => { d with soAt := upd d.soAt k fun _ => s.now }).dep.phase = s.dep.phase := fun v => by
    cases v <;> exact ⟨rfl, rfl⟩
  exact h _

/-- The contactor on an output opened drops if it was closed, and the others stand. -/
theorem State.openSo_ctr (s : State) (k j : Fin 12) :
    (s.openSo k).dep.ctr[j] = (if j = k then (s.dep.ctr[k]).opened else s.dep.ctr[j]) ∧ (s.openSo k).dep.phase = s.dep.phase := by
  obtain ⟨hctr, hphase⟩ := s.soSet_ctr k false false
  have hupd := upd_get (s.soSet k false false).dep.ctr k j fun c => if c = .pull ∨ c = .hold then .drop else c
  rw [hctr] at hupd
  unfold State.openSo
  dsimp only
  split
  · split
    · exact ⟨by rw [← hctr] at hupd ⊢; exact hupd, hphase⟩
    · exact ⟨by rw [← hctr] at hupd ⊢; exact hupd, hphase⟩
  · exact ⟨by rw [← hctr] at hupd ⊢; exact hupd, hphase⟩

theorem State.openSo_onlyOpens (s : State) (k : Fin 12) : OnlyOpens s (s.openSo k) where
  ctr j := by
    rw [(s.openSo_ctr k j).1]
    split
    · next hj => rw [hj]; exact .inr rfl
    · exact .inl rfl
  phase := (s.openSo_ctr k k).2
  regs := (Spares.refl s).openSo (by decide) k

theorem State.ctrOpen1_onlyOpens (s : State) (l : Lane) (c : Nat) : OnlyOpens s (s.ctrOpen1 l c) :=
  have hasked : OnlyOpens s (s.clr .ds R.DSP_SOk_CMD.CLOSE (s.ctrOut l c)) := .of_dep rfl ((Spares.refl s).wr _ _ _ _ _ (by decide))
  .ite (hasked.trans (State.openSo_onlyOpens ..)) (.refl s)

/-- What an open request for MP or MN opens first (R279). -/
def State.dcOpenedFirst (s : State) (l : Lane) (c : Nat) : State :=
  if c = ctrMP ∨ c = ctrMN then s.each [ctrDCP, ctrDCN] fun s x => if s.ctrClosed l x then s.ctrOpen1 l x else s else s

theorem State.dcOpenedFirst_onlyOpens (s : State) (l : Lane) (c : Nat) : OnlyOpens s (s.dcOpenedFirst l c) :=
  .ite ((OnlyOpens.refl s).each _ fun x _ => .ite (x.ctrOpen1_onlyOpens ..) (.refl x)) (.refl s)

theorem State.ctrOpen_onlyOpens (s : State) (l : Lane) (c : Nat) : OnlyOpens s (s.ctrOpen l c) :=
  (s.dcOpenedFirst_onlyOpens l c).trans (State.ctrOpen1_onlyOpens ..)

section
variable (h : OnlyOpens s t) (hs : s.regsOk = true)
include h

theorem OnlyOpens.depOn : t.depOn = s.depOn := by
  unfold State.depOn
  rw [h.phase]

include hs

theorem OnlyOpens.ctrOut (l : Lane) (c : Nat) : t.ctrOut l c = s.ctrOut l c :=
  congrArg soIdx (h.regs.rd hs _ _ _ _ (by decide))

theorem OnlyOpens.ctrServed (l : Lane) (c : Nat) : t.ctrServed l c = s.ctrServed l c := by
  unfold State.ctrServed
  rw [h.depOn, h.regs.on hs (by decide)]

theorem OnlyOpens.ctr_eq (l : Lane) (c : Nat) : t.ctr l c = s.ctr l c ∨ t.ctr l c = (s.ctr l c).opened := by
  rw [State.ctr_of_out (h.ctrOut hs l c)]
  exact h.ctr _

/-- A contactor that is dropping or open stays so. -/
theorem OnlyOpens.ctr_stands (hc : (s.ctr l c).opened = s.ctr l c) : t.ctr l c = s.ctr l c :=
  (h.ctr_eq hs l c).elim id fun g => g.trans hc

theorem OnlyOpens.ctr_drop (hc : s.ctr l c = .drop) : t.ctr l c = .drop := (h.ctr_stands hs (by rw [hc]; rfl)).trans hc

theorem OnlyOpens.not_closed (hc : s.ctrClosed l c = false) : t.ctrClosed l c = false := by
  have hstands : (s.ctr l c).opened = s.ctr l c := if_neg fun g => by rw [State.ctrClosed_iff.2 g] at hc; exact absurd hc (by decide)
  unfold State.ctrClosed at hc ⊢
  rwa [h.ctr_stands hs hstands]

end

/-- An open request that the Deputy takes opens its contactor. -/
theorem State.ctrOpen_ctr (hs : s.regsOk = true) (hserved : s.ctrServed l c = true) : (s.ctrOpen l c).ctr l c = (s.ctr l c).opened := by
  have hfirst := s.dcOpenedFirst_onlyOpens l c
  let v := s.dcOpenedFirst l c
  have hv : v.regsOk = true := hfirst.regs.ok hs
  have hopen : s.ctrOpen l c = (v.clr .ds R.DSP_SOk_CMD.CLOSE (v.ctrOut l c)).openSo (v.ctrOut l c) :=
    if_pos ((hfirst.ctrServed hs l c).trans hserved)
  have hout : (s.ctrOpen l c).ctrOut l c = v.ctrOut l c := (v.ctrOpen1_onlyOpens l c).ctrOut hv l c
  have hctr : (s.ctrOpen l c).ctr l c = (v.ctr l c).opened := by
    rw [State.ctr_of_out hout, hopen, (State.openSo_ctr ..).1, if_pos rfl]
    rfl
  rw [hctr]
  rcases hfirst.ctr_eq hs l c with h | h
  · exact congrArg CtrState.opened h
  · exact (congrArg CtrState.opened h).trans (CtrState.opened_opened _)

/-- An open request that the Deputy takes drops a closed contactor. -/
theorem State.ctrOpen_drops (hs : s.regsOk = true) (hserved : s.ctrServed l c = true) (hc : s.ctrClosed l c = true) :
    (s.ctrOpen l c).ctr l c = .drop := (State.ctrOpen_ctr hs hserved).trans (State.opened_of_closed hc)

end

end Sys2Proof.Machine
end

section
/-!
PROOFS. What the Deputy's answer to a close rests on (R85, R278, R345): its own state, the weld record, the Safe stop, the output and
the lanes' view of the mode master.
-/
namespace Sys2Proof.Machine

section
variable {fs : List Fld} {s t u : State} {l : Lane} {c : Nat}

/-- What the mode master rests on (R85), the Deputy's own state and the lanes' phases and records apart. -/
def masterFlds : List Fld := [R.DSP_GRANT.STATE, R.DSP_CTRL.ARRANGEMENT, R.DSP_CTRL.PREF, R.DSP_OUTCOME.LOST]

/-- What the answer to a close rests on, but for the request itself. -/
def groundFlds : List Fld :=
  [R.DSP_SOk_CFG.FUNC, R.DSP_STATUS.SAFE_STOP, R.DSP_MODE.MODE, R.DSP_WELD.WELDED, R.DSP_SOk_STATUS.FAIL, R.DSP_SOk_STATUS.HS,
   R.DSP_SOk_STATUS.LS, R.NRG_CTRc_CFG.SO, R.NRG_CTRc_CFG.EN] ++ masterFlds

/-- What the answer to a close rests on is as it was. -/
structure GroundStands (s t : State) : Prop where
  regs : Spares groundFlds s t
  dep : t.dep = s.dep
  phase : Views LaneRun.phase s t
  sup : Views LaneRun.sup s t

theorem GroundStands.refl (s : State) : GroundStands s s := ⟨.refl s, rfl, .refl s, .refl s⟩

theorem GroundStands.wr (h : GroundStands s t) (d : Die) (g : Fld) (v i j : Nat) (hg : ∀ f ∈ groundFlds, g.apart f = true) :
    GroundStands s (t.wr d g v i j) := ⟨h.regs.wr d g v i j hg, h.dep, h.phase.wr .., h.sup.wr ..⟩

theorem GroundStands.modNrg (h : GroundStands s t) (l : Lane) (f : NrgSt → NrgSt) : GroundStands s (t.modNrg l f) :=
  ⟨h.regs.modRun .., (State.modRun_dep ..).trans h.dep, h.phase.modRun l fun _ => rfl, h.sup.modRun l fun _ => rfl⟩

section
variable (h : GroundStands s t) (hs : s.regsOk = true)
include h

theorem GroundStands.running (l : Lane) : t.running l = s.running l := by
  unfold State.running
  rw [h.phase.eq l]

theorem GroundStands.depRules : t.depRules = s.depRules := by
  unfold State.depRules State.alive State.dsLost State.depOn
  rw [h.dep, h.phase.eq .a, h.phase.eq .b, h.sup.eq .a, h.sup.eq .b]

include hs

theorem GroundStands.on (d : Die) (f : Fld) (i j : Nat) (hf : f ∈ groundFlds) : t.on d f i j = s.on d f i j := h.regs.on hs hf

theorem GroundStands.holder : t.holder = s.holder := by
  have hgrant := h.regs.rd hs .ds R.DSP_GRANT.STATE 0 0 (by decide)
  unfold State.holder State.granted State.depOn
  rw [h.dep, hgrant]

theorem GroundStands.master : t.master = s.master := by
  have hlost := h.regs.rd hs .ds R.DSP_OUTCOME.LOST 0 0 (by decide)
  have hpref : t.preferred = s.preferred := by
    unfold State.preferred
    rw [h.on hs _ _ _ _ (by decide)]
  have hsingle : t.single = s.single := h.on hs _ _ _ _ (by decide)
  unfold State.master State.isLost State.rdBit State.depLane
  rw [h.depRules, h.holder hs, hpref, hsingle, hlost, h.dep, h.running .a, h.running .b, h.sup.eq .a, h.sup.eq .b]

theorem GroundStands.ctrOut (l : Lane) (c : Nat) : t.ctrOut l c = s.ctrOut l c :=
  congrArg soIdx (h.regs.rd hs _ _ _ _ (by decide))

theorem GroundStands.ctrServed (l : Lane) (c : Nat) : t.ctrServed l c = s.ctrServed l c := by
  unfold State.ctrServed State.depOn
  rw [h.dep, h.on hs _ _ _ _ (by decide)]

theorem GroundStands.weldRefuses (k : Fin 12) : t.weldRefuses k = s.weldRefuses k := by
  have hweld := h.regs.rd hs .ds R.DSP_WELD.WELDED 0 0 (by decide)
  have hon : t.ctrOn k = s.ctrOn k := by
    unfold State.ctrOn
    rw [h.master hs]
    simp only [h.ctrOut hs, h.on hs _ R.NRG_CTRc_CFG.EN _ _ (by decide)]
  unfold State.weldRefuses State.rdBit
  rw [hon, hweld]

theorem GroundStands.soMay (k : Fin 12) (hclose : t.on .ds R.DSP_SOk_CMD.CLOSE k = s.on .ds R.DSP_SOk_CMD.CLOSE k) :
    t.soMay k = s.soMay k := by
  have hfunc := h.regs.rd hs .ds R.DSP_SOk_CFG.FUNC k 0 (by decide)
  have hmode := h.regs.rd hs .ds R.DSP_MODE.MODE 0 0 (by decide)
  unfold State.soMay State.depParked
  rw [hfunc, hmode, h.on hs .ds R.DSP_STATUS.SAFE_STOP _ _ (by decide), h.weldRefuses hs, hclose]

end

/-- Whether a safe output accepts a close: under the conditions of its function, and without `FAIL` unless it is closed (R345, R348). -/
theorem State.closeSo_accepts (s : State) (k : Fin 12) : (s.closeSo k).1 = (s.depOn && s.soMay k &&
    !(s.on .ds R.DSP_SOk_STATUS.FAIL k && !(s.on .ds R.DSP_SOk_STATUS.HS k && s.on .ds R.DSP_SOk_STATUS.LS k))) := by
  unfold State.closeSo
  split
  · next h =>
    have : (s.depOn && s.soMay k) = false := by rw [← Bool.not_eq_true', Bool.not_and]; exact h
    rw [this]
    rfl
  · next h =>
    have : (s.depOn && s.soMay k) = true := by
      rw [Bool.or_eq_true, not_or, Bool.not_eq_true', Bool.not_eq_true', Bool.not_eq_false, Bool.not_eq_false] at h
      rw [h.1, h.2]
      rfl
    rw [this]
    split
    · next hfail => rw [hfail]; rfl
    · next hfail =>
      rw [Bool.not_eq_true] at hfail
      rw [hfail]
      split <;> rfl

/-- The request of a close leaves what its answer rests on. -/
theorem State.closeAsked_ground (s : State) (l : Lane) (c : Nat) : GroundStands s (s.closeAsked l c) :=
  (((((GroundStands.refl s).wr _ _ _ _ _ (by decide)).wr _ _ _ _ _ (by decide)).wr _ _ _ _ _ (by decide)).wr _ _ _ _ _
    (by decide)).wr _ _ _ _ _ (by decide)

theorem State.on_set_close (hs : s.regsOk = true) (k : Fin 12) :
    (s.set .ds R.DSP_SOk_CMD.CLOSE k).on .ds R.DSP_SOk_CMD.CLOSE k = true := State.on_wr_same _ _ _ _ _ _ hs

/-- The request sets `CLOSE` of its output. -/
theorem State.closeAsked_close (hs : s.regsOk = true) : (s.closeAsked l c).on .ds R.DSP_SOk_CMD.CLOSE (s.ctrOut l c) = true := by
  have hrest : Spares [R.DSP_SOk_CMD.CLOSE] (s.set .ds R.DSP_SOk_CMD.CLOSE (s.ctrOut l c)) (s.closeAsked l c) :=
    ((((Spares.refl _).wr _ _ _ _ _ (by decide)).wr _ _ _ _ _ (by decide)).wr _ _ _ _ _ (by decide)).wr _ _ _ _ _ (by decide)
  rw [State.on_def, hrest.rd_wr hs (List.mem_singleton_self _)]
  rfl

/-- A close request is accepted where its output accepts it once `CLOSE` is set. -/
theorem State.ctrClose_accepts (hs : s.regsOk = true) : (s.ctrClose l c).1 = (s.ctrServed l c &&
    (s.set .ds R.DSP_SOk_CMD.CLOSE (s.ctrOut l c)).soMay (s.ctrOut l c) && !(s.on .ds R.DSP_SOk_STATUS.FAIL (s.ctrOut l c) &&
      !(s.on .ds R.DSP_SOk_STATUS.HS (s.ctrOut l c) && s.on .ds R.DSP_SOk_STATUS.LS (s.ctrOut l c)))) := by
  have hground := s.closeAsked_ground l c
  have hset : GroundStands (s.set .ds R.DSP_SOk_CMD.CLOSE (s.ctrOut l c)) (s.closeAsked l c) :=
    ((((GroundStands.refl _).wr _ _ _ _ _ (by decide)).wr _ _ _ _ _ (by decide)).wr _ _ _ _ _ (by decide)).wr _ _ _ _ _ (by decide)
  have hmay := hset.soMay (State.wr_regsOk _ _ _ _ _ _ hs) (s.ctrOut l c)
    ((State.closeAsked_close hs).trans (State.on_set_close hs _).symm)
  have hon := fun f (hf : f ∈ groundFlds) => hground.on hs .ds f (s.ctrOut l c) 0 hf
  have hanswer : (s.closeAnswer l c).1 = (s.depOn && (s.set .ds R.DSP_SOk_CMD.CLOSE (s.ctrOut l c)).soMay (s.ctrOut l c) &&
      !(s.on .ds R.DSP_SOk_STATUS.FAIL (s.ctrOut l c) &&
        !(s.on .ds R.DSP_SOk_STATUS.HS (s.ctrOut l c) && s.on .ds R.DSP_SOk_STATUS.LS (s.ctrOut l c)))) := by
    unfold State.closeAnswer
    rw [State.closeSo_accepts, hmay, hon _ (by decide), hon _ (by decide), hon _ (by decide)]
    rfl
  rw [State.ctrClose_eq]
  split
  · next hserved =>
    have hdep : s.depOn = true := (Bool.and_eq_true _ _ ▸ hserved).1
    rw [hserved]
    dsimp only
    rw [hanswer, hdep]
  · next hserved =>
    rw [Bool.not_eq_true] at hserved
    rw [hserved]
    rfl

/-- A close request is answered alike where what its answer rests on stands. -/
theorem GroundStands.ctrClose (h : GroundStands s t) (hs : s.regsOk = true) (l : Lane) (c : Nat) :
    (t.ctrClose l c).1 = (s.ctrClose l c).1 := by
  have ht : t.regsOk = true := h.regs.ok hs
  let k := s.ctrOut l c
  have hs' : (s.set .ds R.DSP_SOk_CMD.CLOSE k).regsOk = true := State.wr_regsOk _ _ _ _ _ _ hs
  have hset : GroundStands (s.set .ds R.DSP_SOk_CMD.CLOSE k) (t.set .ds R.DSP_SOk_CMD.CLOSE k) := by
    have hsreads := (GroundStands.refl s).wr .ds R.DSP_SOk_CMD.CLOSE 1 k 0 (by decide)
    have htreads := h.wr .ds R.DSP_SOk_CMD.CLOSE 1 k 0 (by decide)
    exact ⟨⟨fun _ => htreads.regs.ok hs, fun _ d f i j hf => (htreads.regs.rd hs d f i j hf).trans (hsreads.regs.rd hs d f i j hf).symm⟩,
      h.dep,
      ((Views.refl s).wr ..).symm.trans (h.phase.wr ..), ((Views.refl s).wr ..).symm.trans (h.sup.wr ..)⟩
  have hmay := hset.soMay hs' k ((State.on_set_close ht k).trans (State.on_set_close hs k).symm)
  rw [State.ctrClose_accepts ht, State.ctrClose_accepts hs, h.ctrServed hs, h.ctrOut hs, hmay, h.on hs _ _ _ _ (by decide),
    h.on hs _ _ _ _ (by decide), h.on hs _ _ _ _ (by decide)]

end

end Sys2Proof.Machine
end

section
/-!
PROOFS. The operations of a contactor sequence (R277, R279, R280, R284): its end, its parts, a contactor closed for it, and a command
taken or refused.
-/
namespace Sys2Proof.Machine

/-! ## The fields of one die -/

/-- The listed fields read on one die as before. -/
structure OnDie (d : Die) (fs : List Fld) (s t : State) : Prop where
  ok : s.regsOk = true → t.regsOk = true
  rd : s.regsOk = true → ∀ (f : Fld) (i j : Nat), f ∈ fs → t.rd d f i j = s.rd d f i j

section
variable {d : Die} {fs : List Fld} {s t u : State} {l x : Lane}

theorem Spares.onDie (h : Spares fs s t) (d : Die) : OnDie d fs s t := ⟨h.ok, fun hs f i j => h.rd hs d f i j⟩

theorem OnDie.refl (s : State) : OnDie d fs s s := (Spares.refl s).onDie d

theorem OnDie.trans (h : OnDie d fs s t) (g : OnDie d fs t u) : OnDie d fs s u :=
  ⟨fun hs => g.ok (h.ok hs), fun hs f i j hf => (g.rd (h.ok hs) f i j hf).trans (h.rd hs f i j hf)⟩

theorem OnDie.spares (h : OnDie d fs s t) (g : Spares fs t u) : OnDie d fs s u := h.trans (g.onDie d)

/-- A write on another die. -/
theorem OnDie.wr (h : OnDie d fs s t) {e : Die} (he : e ≠ d) (g : Fld) (v i j : Nat)
    (hb : (g :: fs).all (fun f => decide (f.base < 2 ^ 37)) = true) : OnDie d fs s (t.wr e g v i j) := by
  have hbase := fun f (hm : f ∈ g :: fs) => of_decide_eq_true (List.all_eq_true.1 hb f hm)
  exact h.trans ⟨State.wr_regsOk _ _ _ _ _ _, fun ht f _ _ hm => State.rd_wr_die _ _ _ _ _ _ _ _ _ _ ht he
    (hbase g (List.mem_cons_self ..)) (hbase f (List.mem_cons_of_mem _ hm))⟩

theorem laneDie_ne (h : x ≠ l) : laneDie x ≠ laneDie l := by
  revert h
  cases x <;> cases l <;> decide

end

/-! ## What a lane's sequence shows -/

/-- The sequence that a lane runs. -/
def LaneRun.seq (r : LaneRun) : Option NrgSeq := r.nrg.seq

theorem aside_seq : Aside LaneRun.seq := ⟨fun _ _ => rfl, fun _ _ => rfl, fun _ _ => rfl⟩

/-- The fields that show the course and the result of a sequence. -/
def seqFlds : List Fld := [R.NRG_CTR_RESULT.RESULT, R.NRG_CTR_RESULT.BUSY, R.NRG_CTR_RESULT.STEP]

/-- The listed fields of a lane's die and the sequence that the lane runs are as they were. -/
structure LaneStands (fs : List Fld) (l : Lane) (s t : State) : Prop where
  regs : OnDie (laneDie l) fs s t
  seq : (t.run l).nrg.seq = (s.run l).nrg.seq

section
variable {fs : List Fld} {s t u : State} {l : Lane}

theorem LaneStands.refl (s : State) : LaneStands fs l s s := ⟨.refl s, rfl⟩

theorem LaneStands.of (h : Spares fs s t) (hv : Views LaneRun.seq s t) : LaneStands fs l s t := ⟨h.onDie _, hv.eq l⟩

theorem LaneStands.trans (h : LaneStands fs l s t) (g : LaneStands fs l t u) : LaneStands fs l s u :=
  ⟨h.regs.trans g.regs, g.seq.trans h.seq⟩

theorem LaneStands.mono {fs' : List Fld} (h : LaneStands fs l s t) (hf : fs' ⊆ fs) : LaneStands fs' l s t :=
  ⟨⟨h.regs.ok, fun hs f i j hm => h.regs.rd hs f i j (hf hm)⟩, h.seq⟩

end

section
variable {fs : List Fld} {s t u : State} {l : Lane} {c : Nat} {q : NrgSeq}

theorem State.modNrg_run (s : State) (l : Lane) (f : NrgSt → NrgSt) : ((s.modNrg l f).run l).nrg = f (s.run l).nrg := by
  unfold State.modNrg
  rw [State.modRun_run]

theorem State.modNrg_regsOk {f : NrgSt → NrgSt} (hs : s.regsOk = true) : (s.modNrg l f).regsOk = true :=
  (State.regsOk_modRun ..).trans hs

theorem Spares.modNrg (h : Spares fs s t) (l : Lane) (f : NrgSt → NrgSt) : Spares fs s (t.modNrg l f) := h.modRun ..

/-- The `NRG` block changed leaves the control engine as it was. -/
theorem Views.modNrg (h : Views LaneRun.ce s t) (l : Lane) (f : NrgSt → NrgSt) : Views LaneRun.ce s (t.modNrg l f) :=
  h.modRun l fun _ => rfl

/-! ## The measured voltages (R269, R283) -/

/-- The slots and the scale of the measured voltages. -/
def voltageFlds : List Fld := [R.NRG_VSRC.LINK_SLOT, R.NRG_DC.INLET_SLOT, R.NRG_SCALE.V_BASE]

section
variable (h : Spares voltageFlds s t) (hs : s.regsOk = true) (hv : Views LaneRun.ce s t)
include h hs hv

theorem Spares.vLink (l : Lane) : t.vLink l = s.vLink l := by
  unfold State.vLink State.slotOut State.srcVal
  rw [h.rd hs _ _ _ _ (by decide), h.rd hs _ _ _ _ (by decide), hv.eq l]

theorem Spares.vInlet (l : Lane) : t.vInlet l = s.vInlet l := by
  unfold State.vInlet State.slotOut State.srcVal
  rw [h.rd hs _ _ _ _ (by decide), h.rd hs _ _ _ _ (by decide), hv.eq l]

end

/-! ## Events -/

/-- The fields that a full or late tally counts an event's refusal in. -/
def logFlds : List Fld := [R.TAL_REFUSE_CNT.LATE, R.TAL_REFUSE_CNT.FULL]

theorem Spares.log (h : Spares fs s t) (ha : apartAll logFlds fs = true) (l : Lane) (rule detail : Nat) :
    Spares fs s (t.log l rule detail) := by
  refine .ite ?_ h
  unfold State.submit
  dsimp only
  split
  · exact h.wrIn ha (laneDie l) (g := R.TAL_REFUSE_CNT.LATE) _ 0 0 (by decide)
  · exact h.wrIn ha (laneDie l) (g := R.TAL_REFUSE_CNT.FULL) _ 0 0 (by decide)
  · dsimp only
    exact h.modRun ..

theorem Spares.logIf (h : Spares fs s t) (ha : apartAll logFlds fs = true) (l : Lane) (en : Fld) (rule detail i : Nat) :
    Spares fs s (t.logIf l en rule detail i) := h.when _ fun x => (Spares.refl x).log ha ..

theorem Spares.discharge (h : Spares fs s t) (l : Lane) (on : Bool) : Spares fs s (t.discharge l on) := .ite (h.modRun ..) h

/-! ## A sequence ends (R279) -/

/-- The fields that the end of a sequence writes. -/
def endFlds : List Fld := [R.NRG_CTR_RESULT.BUSY, R.NRG_CTR_RESULT.RESULT] ++ logFlds

theorem apartAll_right {gs gs' fs : List Fld} (h : apartAll (gs ++ gs') fs = true) : apartAll gs' fs = true :=
  apartAll_mono h (List.subset_append_right ..)

theorem apartAll_left {gs gs' fs : List Fld} (h : apartAll (gs ++ gs') fs = true) : apartAll gs fs = true :=
  apartAll_mono h (List.subset_append_left ..)

theorem State.seqEnd_idle (r : Nat) (h : (s.run l).nrg.seq = none) : s.seqEnd l r = s := by
  unfold State.seqEnd
  rw [h]

/-- The sequence taken away, its discharge stopped and its result shown. -/
def State.seqStopped (s : State) (l : Lane) (r : Nat) : State :=
  (((s.modNrg l fun n => { n with seq := none }).discharge l false).clr (laneDie l) R.NRG_CTR_RESULT.BUSY).wr (laneDie l)
    R.NRG_CTR_RESULT.RESULT r

theorem State.seqEnd_running (r : Nat) (h : (s.run l).nrg.seq = some q) :
    s.seqEnd l r = ((s.seqStopped l r).irq l R.NRG_CTRL.CTR_IRQ_EN).logIf l R.NRG_CTRL.LOG_EN 279 r := by
  unfold State.seqEnd
  rw [h]
  rfl

theorem Spares.seqEnd (h : Spares fs s t) (ha : apartAll endFlds fs = true) (l : Lane) (r : Nat) : Spares fs s (t.seqEnd l r) := by
  cases hq : (t.run l).nrg.seq with
  | none => rwa [State.seqEnd_idle r hq]
  | some q =>
    rw [State.seqEnd_running r hq]
    exact (((((h.modNrg ..).discharge ..).wrIn ha _ _ _ _ (by decide)).wrIn ha _ _ _ _ (by decide)).irq ..).logIf (apartAll_right ha) ..

theorem State.seqEnd_dep (s : State) (l : Lane) (r : Nat) : (s.seqEnd l r).dep = s.dep :=
  (State.seqEnd_within s l r (msk := 1028) (by decide) (Within.refl s)).dep (by decide)

theorem State.seqEnd_now (s : State) (l : Lane) (r : Nat) : (s.seqEnd l r).now = s.now :=
  (State.seqEnd_within s l r (msk := 1028) (by decide) (Within.refl s)).now_eq (by decide)

/-- No sequence runs after the end of one. -/
theorem State.seqEnd_seq (s : State) (l : Lane) (r : Nat) : ((s.seqEnd l r).run l).nrg.seq = none := by
  cases hq : (s.run l).nrg.seq with
  | none => rwa [State.seqEnd_idle r hq]
  | some q =>
    have hstopped : Views LaneRun.nrg (s.modNrg l fun n => { n with seq := none }) (s.seqEnd l r) := by
      rw [State.seqEnd_running r hq]
      exact (((((Views.refl _).discharge aside_nrg ..).wr ..).wr ..).irq aside_nrg ..).logIf aside_nrg ..
    rw [hstopped.eq l, State.modNrg_run]

/-- The sequence of a lane has ended with a result. -/
structure SeqEnded (l : Lane) (r : Nat) (t : State) : Prop where
  result : t.rd (laneDie l) R.NRG_CTR_RESULT.RESULT = r
  busy : t.rd (laneDie l) R.NRG_CTR_RESULT.BUSY = 0
  seq : (t.run l).nrg.seq = none

theorem SeqEnded.stands {r : Nat} (h : SeqEnded l r t) (ht : t.regsOk = true) (g : LaneStands seqFlds l t u) : SeqEnded l r u :=
  ⟨(g.regs.rd ht _ _ _ (by decide)).trans h.result, (g.regs.rd ht _ _ _ (by decide)).trans h.busy, g.seq.trans h.seq⟩

theorem State.seqEnd_ended {r : Nat} (hs : s.regsOk = true) (hq : (s.run l).nrg.seq = some q) (hr : r < 16) :
    SeqEnded l r (s.seqEnd l r) := by
  let v := (s.modNrg l fun n => { n with seq := none }).discharge l false
  have hv : v.regsOk = true := (((Spares.refl (fs := []) s).modNrg ..).discharge ..).ok hs
  have hend : ∀ {gs : List Fld}, apartAll logFlds gs = true → Spares gs (s.seqStopped l r) (s.seqEnd l r) := fun ha => by
    rw [State.seqEnd_running r hq]
    exact ((Spares.refl _).irq ..).logIf ha ..
  have hbusy : Spares [R.NRG_CTR_RESULT.BUSY] (v.clr (laneDie l) R.NRG_CTR_RESULT.BUSY) (s.seqEnd l r) :=
    ((Spares.refl _).wr _ _ _ _ _ (by decide)).trans (hend (by decide))
  have hresult : Spares [R.NRG_CTR_RESULT.RESULT] (s.seqStopped l r) (s.seqEnd l r) := hend (by decide)
  exact ⟨(hresult.rd_wr (State.wr_regsOk _ _ _ _ _ _ hv) (List.mem_singleton_self _)).trans (low_eq hr),
    hbusy.rd_wr hv (List.mem_singleton_self _), s.seqEnd_seq l r⟩

/-! ## A sequence takes a part -/

/-- The sequence that a lane runs and the step that it shows. -/
structure SeqAt (l : Lane) (n : Nat) (q : NrgSeq) (t : State) : Prop where
  step : t.rd (laneDie l) R.NRG_CTR_RESULT.STEP = n
  seq : (t.run l).nrg.seq = some q

theorem SeqAt.stands {n : Nat} (h : SeqAt l n q t) (ht : t.regsOk = true) (g : LaneStands seqFlds l t u) : SeqAt l n q u :=
  ⟨(g.regs.rd ht _ _ _ (by decide)).trans h.step, g.seq.trans h.seq⟩

theorem Spares.seqGo (h : Spares fs s t) (hg : ∀ f ∈ fs, R.NRG_CTR_RESULT.STEP.apart f = true) (l : Lane) (p : SeqPhase) (n : Nat) :
    Spares fs s (t.seqGo l p n) := (h.modNrg ..).wr _ _ _ _ _ hg

theorem Views.seqGo (h : Views LaneRun.ce s t) (l : Lane) (p : SeqPhase) (n : Nat) : Views LaneRun.ce s (t.seqGo l p n) :=
  (h.modNrg ..).wr ..

theorem State.seqGo_dep (s : State) (l : Lane) (p : SeqPhase) (n : Nat) : (s.seqGo l p n).dep = s.dep := State.modRun_dep ..

theorem State.seqGo_now (s : State) (l : Lane) (p : SeqPhase) (n : Nat) : (s.seqGo l p n).now = s.now := State.modRun_now ..

theorem State.seqGo_at {n : Nat} (p : SeqPhase) (hs : s.regsOk = true) (hq : (s.run l).nrg.seq = some q) (hn : n < 8) :
    SeqAt l n { q with phase := p, since := s.now } (s.seqGo l p n) := by
  let f : NrgSt → NrgSt := fun x => { x with seq := x.seq.map fun q => { q with phase := p, since := s.now } }
  have hok : (s.modNrg l f).regsOk = true := State.modNrg_regsOk hs
  refine ⟨(State.rd_wr_same _ _ _ _ _ _ hok).trans (low_eq hn), ?_⟩
  have hrun : ((s.seqGo l p n).run l).nrg = f (s.run l).nrg := (congrArg LaneRun.nrg (State.wr_run ..)).trans (State.modNrg_run ..)
  rw [hrun]
  exact congrArg (Option.map _) hq

theorem State.seqGo_ground (s : State) (l : Lane) (p : SeqPhase) (n : Nat) : GroundStands s (s.seqGo l p n) :=
  ((GroundStands.refl s).modNrg ..).wr _ _ _ _ _ (by decide)

/-- A sequence of a command, as it begins. -/
def NrgSeq.begun (cmd : Nat) (p : SeqPhase) (now : Nat) : NrgSeq := { cmd := cmd, phase := p, since := now, v0 := 0, welded := false }

theorem Spares.seqBegin (h : Spares fs s t) (ha : apartAll [R.NRG_CTR_RESULT.BUSY, R.NRG_CTR_RESULT.STEP] fs = true) (l : Lane)
    (cmd : Nat) (p : SeqPhase) (n : Nat) : Spares fs s (t.seqBegin l cmd p n) :=
  ((h.modNrg ..).wrIn ha _ _ _ _ (by decide)).seqGo (apartAll_mem ha (by decide)) ..

theorem Views.seqBegin (h : Views LaneRun.ce s t) (l : Lane) (cmd : Nat) (p : SeqPhase) (n : Nat) :
    Views LaneRun.ce s (t.seqBegin l cmd p n) := ((h.modNrg ..).wr ..).seqGo ..

theorem State.seqBegin_ground (s : State) (l : Lane) (cmd : Nat) (p : SeqPhase) (n : Nat) : GroundStands s (s.seqBegin l cmd p n) :=
  ((((GroundStands.refl s).modNrg ..).wr _ _ _ _ _ (by decide)).modNrg ..).wr _ _ _ _ _ (by decide)

theorem State.seqBegin_now (s : State) (l : Lane) (cmd : Nat) (p : SeqPhase) (n : Nat) : (s.seqBegin l cmd p n).now = s.now :=
  (State.seqGo_now ..).trans (State.modRun_now ..)

theorem State.seqBegin_at {n : Nat} (cmd : Nat) (p : SeqPhase) (hs : s.regsOk = true) (hn : n < 8) :
    SeqAt l n (.begun cmd p s.now) (s.seqBegin l cmd p n) := by
  let v := s.modNrg l fun x => { x with seq := some (.begun cmd p s.now) }
  have hok : v.regsOk = true := State.modNrg_regsOk hs
  have hseq : ((v.set (laneDie l) R.NRG_CTR_RESULT.BUSY).run l).nrg.seq = some (.begun cmd p s.now) :=
    congrArg NrgSt.seq ((congrArg LaneRun.nrg (State.wr_run ..)).trans (State.modNrg_run ..))
  have hnow : v.now = s.now := State.modRun_now ..
  have hgo := State.seqGo_at p (State.wr_regsOk _ _ _ _ _ _ hok) hseq hn
  rw [State.wr_now, hnow] at hgo
  exact hgo

theorem State.seqBegin_busy (cmd : Nat) (p : SeqPhase) (n : Nat) (hs : s.regsOk = true) :
    (s.seqBegin l cmd p n).rd (laneDie l) R.NRG_CTR_RESULT.BUSY = 1 := by
  let v := s.modNrg l fun x => { x with seq := some (.begun cmd p s.now) }
  have hok : v.regsOk = true := State.modNrg_regsOk hs
  have hgo : Spares [R.NRG_CTR_RESULT.BUSY] (v.set (laneDie l) R.NRG_CTR_RESULT.BUSY) (s.seqBegin l cmd p n) :=
    (Spares.refl _).seqGo (by decide) ..
  exact hgo.rd_wr hok (List.mem_singleton_self _)

/-! ## A sequence closes a contactor -/

/-- The fields that a sequence writes as it closes a contactor or ends with the refusal. -/
def seqCloseFlds : List Fld := [R.NRG_CTR_RESULT.STEP, R.NRG_CTRc_CNT.CLOSES] ++ (soFlds ++ endFlds)

theorem Spares.seqClose (h : Spares fs s t) (ha : apartAll seqCloseFlds fs = true) (l : Lane) (c : Nat) (p : SeqPhase) (n : Nat) :
    Spares fs s (t.seqClose l c p n) :=
  have hso := apartAll_left (apartAll_right ha)
  have hclose := (h.seqGo (apartAll_mem ha (by decide)) l p n).ctrClose hso l c (apartAll_mem ha (by decide))
  .ite hclose (hclose.seqEnd (apartAll_right (apartAll_right ha)) ..)

theorem State.seqClose_accepted (p : SeqPhase) (n : Nat) (hs : s.regsOk = true) (hr : (s.ctrClose l c).1 = true) :
    s.seqClose l c p n = ((s.seqGo l p n).ctrClose l c).2 :=
  if_pos (((s.seqGo_ground l p n).ctrClose hs l c).trans hr)

/-- An accepted close leaves its sequence at its new part and counts. -/
theorem State.seqClose_at {n : Nat} (p : SeqPhase) (hs : s.regsOk = true) (hq : (s.run l).nrg.seq = some q) (hn : n < 8)
    (hr : (s.ctrClose l c).1 = true) : SeqAt l n { q with phase := p, since := s.now } (s.seqClose l c p n) ∧
      rose s (s.seqClose l c p n) (laneDie l) R.NRG_CTRc_CNT.CLOSES c := by
  have hgo : Spares [R.NRG_CTRc_CNT.CLOSES, R.NRG_CTR_RESULT.BUSY] s (s.seqGo l p n) := (Spares.refl s).seqGo (by decide) ..
  have hok := hgo.ok hs
  rw [State.seqClose_accepted p n hs hr]
  exact ⟨(State.seqGo_at p hs hq hn).stands hok (.of ((Spares.refl _).ctrClose (by decide) _ _ (by decide)) ((Views.refl _).ctrClose ..)),
    hgo.rose_of_rose hs (by decide) (State.ctrClose_rose hok (((s.seqGo_ground l p n).ctrClose hs l c).trans hr))⟩

/-- A sequence that begins with an accepted close. -/
theorem State.seqBegin_seqClose {n : Nat} (cmd : Nat) (p : SeqPhase) (hs : s.regsOk = true) (hn : n < 8) (hr : (s.ctrClose l c).1 = true) :
    SeqAt l n (.begun cmd p s.now) ((s.seqBegin l cmd p n).seqClose l c p n) ∧
      ((s.seqBegin l cmd p n).seqClose l c p n).rd (laneDie l) R.NRG_CTR_RESULT.BUSY = 1 ∧
      rose s ((s.seqBegin l cmd p n).seqClose l c p n) (laneDie l) R.NRG_CTRc_CNT.CLOSES c := by
  have hbegun : Spares [R.NRG_CTRc_CNT.CLOSES] s (s.seqBegin l cmd p n) := (Spares.refl s).seqBegin (by decide) ..
  have hok := hbegun.ok hs
  have hclose : ((s.seqBegin l cmd p n).ctrClose l c).1 = true := ((s.seqBegin_ground l cmd p n).ctrClose hs l c).trans hr
  obtain ⟨hat, hrose⟩ := State.seqClose_at p hok (State.seqBegin_at cmd p hs hn).seq hn hclose
  rw [State.seqBegin_now] at hat
  have hgo : Spares [R.NRG_CTR_RESULT.BUSY] (s.seqBegin l cmd p n) ((s.seqBegin l cmd p n).seqClose l c p n) := by
    rw [State.seqClose_accepted p n hok hclose]
    exact ((Spares.refl _).seqGo (by decide) ..).ctrClose (by decide) _ _ (by decide)
  exact ⟨hat, (hgo.rd hok _ _ _ _ (List.mem_singleton_self _)).trans (State.seqBegin_busy cmd p n hs),
    hbegun.rose_of_rose hs (List.mem_singleton_self _) hrose⟩

/-! ## Commands (R277, R279, R284) -/

/-- The result of a contactor command that is turned away (R277, R279, R284). -/
def State.commandRefusal (s : State) (l : Lane) (aborts mode : Bool) : Nat :=
  if s.master ≠ l then resNotMaster
  else if ((s.run l).nrg.seq.isSome && !aborts) = true then resBusy
  else if mode = false then resMode
  else resCfg

/-- A command is turned away. -/
def State.commandRefused (s : State) (l : Lane) (aborts mode : Bool) : Prop :=
  s.master ≠ l ∨ ((s.run l).nrg.seq.isSome && !aborts) = true ∨ mode = false ∨ s.nrgCfgErr l = true

theorem State.ctrCommand_refused {cmd : Nat} {aborts mode : Bool} {go : State → State} (hw : s.writable l = true)
    (h : s.commandRefused l aborts mode) : s.ctrCommand l cmd aborts mode go =
      (s.wr (laneDie l) R.NRG_CTR_RESULT.LAST_CMD cmd).cmdRefuse l (s.commandRefusal l aborts mode) := by
  unfold State.ctrCommand State.commandRefusal
  rw [if_pos hw]
  dsimp only
  split
  · rfl
  · next hmaster =>
    split
    · rfl
    · next hbusy =>
      cases mode with
      | false => rfl
      | true =>
        have hcfg : s.nrgCfgErr l = true := by simpa [State.commandRefused, hmaster, hbusy] using h
        rw [if_neg (by decide), if_pos hcfg, if_neg (by decide)]

theorem State.ctrCommand_taken {cmd : Nat} {aborts mode : Bool} {go : State → State} (hw : s.writable l = true) (hm : s.master = l)
    (hbusy : aborts = true ∨ (s.run l).nrg.seq = none) (hmode : mode = true) (hcfg : s.nrgCfgErr l = false) :
    s.ctrCommand l cmd aborts mode go = go ((s.wr (laneDie l) R.NRG_CTR_RESULT.LAST_CMD cmd).seqEnd l resAborted) := by
  have hfree : ((s.run l).nrg.seq.isSome && !aborts) = false := by
    rcases hbusy with h | h <;> simp [h]
  unfold State.ctrCommand
  rw [if_pos hw]
  dsimp only
  rw [if_neg (not_not_intro hm), hfree, if_neg Bool.false_ne_true, hmode, if_neg (by decide), hcfg, if_neg Bool.false_ne_true]

/-- A command of an idle lane that is taken finds the lane with the command shown. -/
theorem State.ctrCommand_idle {cmd : Nat} {aborts mode : Bool} {go : State → State} (hw : s.writable l = true) (hm : s.master = l)
    (hidle : (s.run l).nrg.seq = none) (hmode : mode = true) (hcfg : s.nrgCfgErr l = false) :
    s.ctrCommand l cmd aborts mode go = go (s.wr (laneDie l) R.NRG_CTR_RESULT.LAST_CMD cmd) := by
  rw [State.ctrCommand_taken hw hm (.inr hidle) hmode hcfg, State.seqEnd_idle _ (by rw [State.wr_run]; exact hidle)]

theorem State.cmdRefuse_result {r : Nat} (hs : s.regsOk = true) (hr : r < 16) :
    (s.cmdRefuse l r).rd (laneDie l) R.NRG_CTR_RESULT.RESULT = r := (State.rd_wr_same _ _ _ _ _ _ hs).trans (low_eq hr)

/-- A refused command shows its result and leaves the Deputy's own state. -/
theorem command_refused {instr : Instr} {cmd : Nat} {aborts mode : Bool} {go : State → State} (hs : s.regsOk = true)
    (hw : s.writable l = true) (hexec : exec instr s = .next (s.ctrCommand l cmd aborts mode go)) (h : s.commandRefused l aborts mode) :
    leads instr s fun t => t.dep = s.dep ∧ t.rd (laneDie l) R.NRG_CTR_RESULT.RESULT = s.commandRefusal l aborts mode := by
  have hcode : s.commandRefusal l aborts mode < 16 := by
    unfold State.commandRefusal
    split_ifs <;> decide
  rw [State.ctrCommand_refused hw h] at hexec
  exact leads_of_exec hexec ⟨rfl, State.cmdRefuse_result (State.wr_regsOk _ _ _ _ _ _ hs) hcode⟩

end

end Sys2Proof.Machine
end

section
/-!
PROOFS. The converter's and the charger's steps on their conditions (R284, R286, R288): what they write and what they leave to the
sequences and to the other lane.
-/
namespace Sys2Proof.Machine

section
variable {fs : List Fld} {s t u : State} {l : Lane}

/-- A change of the `NRG` block that its sequence does not belong to. -/
theorem Views.modNrg_seq (h : Views LaneRun.seq s t) (l : Lane) {f : NrgSt → NrgSt} (hf : ∀ n, (f n).seq = n.seq) :
    Views LaneRun.seq s (t.modNrg l f) := h.modRun l fun r => hf r.nrg

/-! ## Stages (R284) -/

/-- None of the fields belongs to the pre-drivers' block. -/
def outsidePap (fs : List Fld) : Bool := fs.all fun f => f.inM (4294967295 - 4194304)

theorem Spares.holdStage (h : Spares fs s t) (hp : outsidePap fs = true) (l : Lane) (cs : List (Fin 64)) (held : Bool) :
    Spares fs s (t.holdStage l cs held) :=
  h.within (State.holdStage_within t l cs held (msk := 171802886144) (by decide) (Within.refl t)) fun f hm =>
    List.all_eq_true.1 hp f hm

theorem Spares.obcHold (h : Spares fs s t) (hp : outsidePap fs = true) (l : Lane) (held : Bool) : Spares fs s (t.obcHold l held) :=
  (h.holdStage hp ..).holdStage hp ..

theorem Spares.modPap (h : Spares fs s t) (l : Lane) (f : PapSt → PapSt) : Spares fs s (t.modPap l f) := by
  cases l <;> exact h.of_regs rfl

/-! ## The converter (R286, R295) -/

/-- The fields that a step of the converter writes, those of the pre-drivers apart. -/
def hvcFlds : List Fld :=
  [R.NRG_HVC_STATUS.STATE, R.NRG_HVC_STATUS.SR_ON, R.NRG_HVC_STATUS.CFG_ERR, R.CE_Ai_Kj.K, R.LVP_STATUS.REPLUG_IGN,
   R.LVP_CNT.REPLUG_IGN]

section
variable (ha : apartAll hvcFlds fs = true)
include ha

theorem Spares.replug (h : Spares fs s t) (l : Lane) (gone : Bool) : Spares fs s (t.replug l gone) :=
  .ite ((h.modPap ..).when _ fun x => ((Spares.refl x).wrIn ha _ _ _ _ (by decide)).wrIn ha _ _ _ _ (by decide)) h

variable (hp : outsidePap fs = true)
include hp

theorem Spares.hvcSoftStart (h : Spares fs s t) (l : Lane) : Spares fs s (t.hvcSoftStart l) :=
  (((h.wrIn ha _ _ _ _ (by decide)).modNrg ..).holdStage hp ..).wrIn ha _ _ _ _ (by decide)

theorem Spares.hvcStep (h : Spares fs s t) (l : Lane) : Spares fs s (t.hvcStep l) := by
  unfold State.hvcStep
  lift_lets -useContext -merge -underBinder
  intro d st s1 may bad s2
  have h1 : Spares fs s s1 := h.wrIn ha _ _ _ _ (by decide)
  have h2 : Spares fs s s2 := .ite (h1.replug ha ..) h1
  have hoff : ∀ n, Spares fs s (((s2.wr d R.NRG_HVC_STATUS.STATE n).clr d R.NRG_HVC_STATUS.SR_ON).holdStage l (s2.hvcChs l) true) :=
    fun n => ((h2.wrIn ha _ _ _ _ (by decide)).wrIn ha _ _ _ _ (by decide)).holdStage hp ..
  exact .ite (.ite h2 ((((h2.wrIn ha _ _ _ _ (by decide)).wrIn ha _ _ _ _ (by decide))).holdStage hp ..)) (.ite
    (.ite (h2.hvcSoftStart ha hp l) (h2.holdStage hp ..)) (.ite (.ite h2 (h2.hvcSoftStart ha hp l))
    (.ite ((((h2.wrIn ha _ _ _ _ (by decide)).wrIn ha _ _ _ _ (by decide))).holdStage hp ..) h2)))

end

theorem Views.hvcSoftStart (h : Views LaneRun.seq s t) (l : Lane) : Views LaneRun.seq s (t.hvcSoftStart l) := by
  have hv : Views LaneRun.seq s ((t.wr (laneDie l) R.NRG_HVC_STATUS.STATE hvcSoft).modNrg l fun x => { x with vNow := t.hvcVout l }) :=
    (h.wr ..).modNrg_seq l fun _ => rfl
  exact (hv.holdStage aside_seq ..).wr ..

theorem Views.hvcStep (h : Views LaneRun.seq s t) (l : Lane) : Views LaneRun.seq s (t.hvcStep l) := by
  unfold State.hvcStep
  lift_lets -useContext -merge -underBinder
  intro d st s1 may bad s2
  have h1 : Views LaneRun.seq s s1 := h.wr ..
  have h2 : Views LaneRun.seq s s2 :=
    .ite (.ite ((h1.modPap ..).when _ fun x => ((Views.refl x).wr ..).wr ..) h1) h1
  have hsoft := h2.hvcSoftStart l
  exact .ite (.ite h2 (((h2.wr ..).wr ..).holdStage aside_seq ..)) (.ite (.ite hsoft (h2.holdStage aside_seq ..))
    (.ite (.ite h2 hsoft) (.ite (((h2.wr ..).wr ..).holdStage aside_seq ..) h2)))

theorem State.hvcStep_dep (s : State) (l : Lane) : (s.hvcStep l).dep = s.dep :=
  (State.hvcStep_within s l (msk := 171802887232) (by decide) (Within.refl s)).dep (by decide)

theorem State.hvcStep_now (s : State) (l : Lane) : (s.hvcStep l).now = s.now :=
  (State.hvcStep_within s l (msk := 171802887232) (by decide) (Within.refl s)).now_eq (by decide)

/-! ## The charger (R288) -/

/-- The fields of the charger's state. -/
def obcFlds : List Fld := [R.NRG_OBC_STATUS.STATE, R.NRG_OBC_STATUS.PLL_LOCK, R.NRG_OBC_STATUS.CFG_ERR]

/-- The charger switched off. -/
def State.obcHeldOff (s : State) (l : Lane) : State :=
  ((s.wr (laneDie l) R.NRG_OBC_STATUS.STATE obcOff).clr (laneDie l) R.NRG_OBC_STATUS.PLL_LOCK).obcHold l true

/-- What a step of the charger can do: nothing but mark its configuration error, switch the charger off with ACR opened or open
already, or from `OFF` take its first state. -/
theorem State.obcStep_state (s : State) (l : Lane) (P : State → Prop) :
    let v := s.put (laneDie l) R.NRG_OBC_STATUS.CFG_ERR (s.obcErr l)
    P v → (s.rd (laneDie l) R.NRG_OBC_STATUS.STATE ≠ obcOff → P (v.obcHeldOff l) ∧ P ((v.obcHeldOff l).ctrOpen l ctrACR)) →
      (∀ n, P (v.obcGo l n)) → P (s.obcStep l) := by
  intro v hstays hoff hgo
  unfold State.obcStep
  lift_lets -useContext -merge -underBinder
  intro d st v' f may
  split
  · split
    · exact hstays
    · next hst =>
      unfold State.obcStop
      dsimp only
      split
      · exact (hoff hst).2
      · exact (hoff hst).1
  · split
    · exact hgo _
    · exact hstays

theorem Spares.obcHeldOff (h : Spares fs s t) (ho : apartAll obcFlds fs = true) (hp : outsidePap fs = true) (l : Lane) :
    Spares fs s (t.obcHeldOff l) := ((h.wrIn ho _ _ _ _ (by decide)).wrIn ho _ _ _ _ (by decide)).obcHold hp l true

theorem Spares.obcStep (h : Spares fs s t) (ha : apartAll (obcFlds ++ soFlds) fs = true) (hp : outsidePap fs = true) (l : Lane) :
    Spares fs s (t.obcStep l) := by
  have ho := apartAll_left ha
  have hv := h.wrIn ho (laneDie l) (g := R.NRG_OBC_STATUS.CFG_ERR) (b2n (t.obcErr l)) 0 0 (by decide)
  have hoff := hv.obcHeldOff ho hp l
  exact State.obcStep_state t l (Spares fs s) hv (fun _ => ⟨hoff, hoff.ctrOpen (apartAll_right ha) ..⟩) fun n =>
    (hv.wrIn ho (laneDie l) (g := R.NRG_OBC_STATUS.STATE) n 0 0 (by decide)).modNrg ..

theorem Views.obcHeldOff (h : Views LaneRun.seq s t) (l : Lane) : Views LaneRun.seq s (t.obcHeldOff l) :=
  (((h.wr ..).wr ..).holdStage aside_seq ..).holdStage aside_seq ..

theorem Views.obcStep (h : Views LaneRun.seq s t) (l : Lane) : Views LaneRun.seq s (t.obcStep l) := by
  have hv := h.wr (laneDie l) R.NRG_OBC_STATUS.CFG_ERR (b2n (t.obcErr l)) 0 0
  have hoff := hv.obcHeldOff l
  exact State.obcStep_state t l (Views LaneRun.seq s) hv (fun _ => ⟨hoff, hoff.ctrOpen ..⟩) fun n =>
    (hv.wr (laneDie l) R.NRG_OBC_STATUS.STATE n 0 0).modNrg_seq l fun _ => rfl

/-- A charger that is off opens no contactor. -/
theorem State.obcStep_dep (h : s.rd (laneDie l) R.NRG_OBC_STATUS.STATE = obcOff) : (s.obcStep l).dep = s.dep :=
  State.obcStep_state s l (fun t => t.dep = s.dep) rfl (fun hne => absurd h hne) fun _ => State.modRun_dep ..

theorem State.obcStep_now (s : State) (l : Lane) : (s.obcStep l).now = s.now :=
  (State.obcStep_within s l (msk := 446682891264) (by decide) (Within.refl s)).now_eq (by decide)

end

end Sys2Proof.Machine
end

section
/-!
PROOFS. The closing sequences of the contactors (R277 to R280, R283).
-/
namespace Sys2Proof.Machine

section
variable {s t u : State} {l x : Lane} {k : Fin 12} {q : NrgSeq}

/-! ## `CLOSE_MAIN` (R280) -/

/-- The main contactors that the weld record refuses to close. -/
def State.mainWelded (s : State) : Bool := [ctrMP, ctrMN, ctrPRE].any fun c => s.depOn && s.rdBit .ds R.DSP_WELD.WELDED c

theorem exec_closeMain (hs : s.regsOk = true) (hw : s.writable l = true) (hm : s.master = l) (hidle : (s.run l).nrg.seq = none)
    (hmode : mainMode (s.modeOf l) = true) (hcfg : s.nrgCfgErr l = false) : exec (.closeMain l) s = .next
      (if s.mainWelded then (s.wr (laneDie l) R.NRG_CTR_RESULT.LAST_CMD 1).cmdRefuse l resWeld
      else ((s.wr (laneDie l) R.NRG_CTR_RESULT.LAST_CMD 1).seqBegin l 1 .closeMn 2).seqClose l ctrMN .closeMn 2) := by
  have hwelded : (s.wr (laneDie l) R.NRG_CTR_RESULT.LAST_CMD 1).mainWelded = s.mainWelded := by
    have hbit := (Spares.refl (fs := [R.DSP_WELD.WELDED]) s).wr (laneDie l) R.NRG_CTR_RESULT.LAST_CMD 1 0 0 (by decide)
    unfold State.mainWelded State.rdBit
    rw [hbit.rd hs _ _ _ _ (List.mem_singleton_self _)]
    rfl
  rw [← hwelded]
  exact congrArg Host.Outcome.next (State.ctrCommand_idle hw hm hidle hmode hcfg)

theorem State.mainWelded_of_clear (h : s.rd .ds R.DSP_WELD.WELDED = 0) : s.mainWelded = false := by
  unfold State.mainWelded State.rdBit
  rw [h]
  cases s.depOn <;> rfl

theorem State.mainWelded_of_bit (hd : s.depOn = true) (h : s.rdBit .ds R.DSP_WELD.WELDED ctrMP = true ∨
    s.rdBit .ds R.DSP_WELD.WELDED ctrMN = true ∨ s.rdBit .ds R.DSP_WELD.WELDED ctrPRE = true) : s.mainWelded = true := by
  unfold State.mainWelded
  rw [hd]
  rcases h with h | h | h <;> simp [h]

/-- A command shown leaves what the answer to a close rests on. -/
theorem State.lastCmd_ground (s : State) (l : Lane) (cmd : Nat) :
    GroundStands s (s.wr (laneDie l) R.NRG_CTR_RESULT.LAST_CMD cmd) := (GroundStands.refl s).wr _ _ _ _ _ (by decide)

/-- A command that begins a sequence with an accepted close. -/
theorem State.command_closes {c cmd n : Nat} (p : SeqPhase) (hs : s.regsOk = true) (hcmd : cmd < 16) (hn : n < 8)
    (hr : (s.ctrClose l c).1 = true) :
    let t := ((s.wr (laneDie l) R.NRG_CTR_RESULT.LAST_CMD cmd).seqBegin l cmd p n).seqClose l c p n
    SeqAt l n (.begun cmd p s.now) t ∧ t.rd (laneDie l) R.NRG_CTR_RESULT.BUSY = 1 ∧
      t.rd (laneDie l) R.NRG_CTR_RESULT.LAST_CMD = cmd ∧ rose s t (laneDie l) R.NRG_CTRc_CNT.CLOSES c := by
  intro t
  have hshown : Spares [R.NRG_CTRc_CNT.CLOSES] s (s.wr (laneDie l) R.NRG_CTR_RESULT.LAST_CMD cmd) :=
    (Spares.refl s).wr _ _ _ _ _ (by decide)
  have hcmdStands : Spares [R.NRG_CTR_RESULT.LAST_CMD] (s.wr (laneDie l) R.NRG_CTR_RESULT.LAST_CMD cmd) t :=
    ((Spares.refl _).seqBegin (by decide) ..).seqClose (by decide) ..
  obtain ⟨hat, hbusy, hrose⟩ :=
    State.seqBegin_seqClose cmd p (hshown.ok hs) hn (((s.lastCmd_ground l cmd).ctrClose hs l c).trans hr)
  exact ⟨hat, hbusy, (hcmdStands.rd_wr hs (List.mem_singleton_self _)).trans (low_eq hcmd),
    hshown.rose_of_rose hs (List.mem_singleton_self _) hrose⟩

/-! ## The precharge (R280) -/

theorem exec_prechargeReached (hq : (s.run l).nrg.seq = some q) (hp : q.phase = .precharge)
    (hv : clampN 80 99 (s.rd (laneDie l) R.NRG_PRE.PCT) * s.vPack l ≤ 100 * s.vLink l) : exec (.prechargeReached l) s = .next
      (if s.now < q.since + s.rd (laneDie l) R.NRG_PRE.T_MIN * ms then (s.openAll l).seqEnd l resPreFast
      else s.seqClose l ctrMP .closeMp 4) := by
  refine congrArg Host.Outcome.next ?_
  rw [hq]
  exact if_pos ⟨hp, hv⟩

theorem exec_prechargeTimeout (hq : (s.run l).nrg.seq = some q) (hp : q.phase = .precharge) : exec (.prechargeTimeout l) s = .next
      (((s.advTo (q.since + orOne (s.rd (laneDie l) R.NRG_PRE.T_MAX) * 10 * ms)).openAll l).seqEnd l resPreSlow) := by
  refine congrArg Host.Outcome.next ?_
  rw [hq]
  exact if_pos hp

theorem exec_prechargeOverlapEnd (hq : (s.run l).nrg.seq = some q) (hp : q.phase = .overlap) : exec (.prechargeOverlapEnd l) s = .next
      (((s.advTo (q.since + s.rd (laneDie l) R.NRG_PRE.T_OVL * ms)).ctrOpen l ctrPRE).seqEnd l resDone) := by
  refine congrArg Host.Outcome.next ?_
  rw [hq]
  exact if_pos hp

theorem Views.openAll {α : Type} {π : LaneRun → α} (h : Views π s t) (l : Lane) : Views π s (t.openAll l) :=
  ((h.ctrOpen ..).ctrOpen ..).ctrOpen ..

theorem State.ctrOpen_now (s : State) (l : Lane) (c : Nat) : (s.ctrOpen l c).now = s.now :=
  (State.ctrOpen_within s l c (msk := 274880004096) (by decide) (Within.refl s)).now_eq (by decide)

theorem State.openAll_now (s : State) (l : Lane) : (s.openAll l).now = s.now :=
  (State.openAll_within s l (msk := 274880004096) (by decide) (Within.refl s)).now_eq (by decide)

/-- A sequence ends with a result after something that left it running. -/
theorem Views.seqEnd_ended {r : Nat} (h : Views LaneRun.nrg s t) (hq : (s.run l).nrg.seq = some q) (ht : t.regsOk = true) (hr : r < 16) :
    SeqEnded l r (t.seqEnd l r) := State.seqEnd_ended ht ((congrArg NrgSt.seq (h.eq l)).trans hq) hr

/-! ## A coil has pulled in (R278) -/

/-- What the end of a pull starts at one lane. -/
def State.pulledAt (s : State) (k : Fin 12) (l : Lane) : State := ((s.seqPulled l k).hvcStep l).obcStep l

/-- The end of a pull before the lanes see it. -/
def State.pullEnded (s : State) (k : Fin 12) : State :=
  (s.advTo (s.dep.ctrAt[k] + s.rd .ds R.DSP_SOk_CMD.T_PULL k * ms)).modDep fun d => { d with ctr := upd d.ctr k fun _ => .hold }

theorem exec_contactorPullEnd (hd : s.depOn = true) (hk : s.dep.ctr[k] = .pull) :
    exec (.contactorPullEnd k) s = .next ((s.pullEnded k).each lanes fun s l => s.pulledAt k l) :=
  congrArg Host.Outcome.next (if_pos (by rw [hd, hk]; rfl))

theorem State.pulledAt_now (s : State) (k : Fin 12) (l : Lane) : (s.pulledAt k l).now = s.now :=
  (State.obcStep_now ..).trans ((State.hvcStep_now ..).trans
    ((State.seqPulled_within s l k (msk := 274880005124) (by decide) (Within.refl s)).now_eq (by decide)))

theorem State.seqPulled_idle (h : (s.run l).nrg.seq = none) : s.seqPulled l k = s := by
  unfold State.seqPulled
  rw [h]

/-- With no sequence and the charger off, the end of a pull changes nothing more at the Deputy. -/
theorem State.pulledAt_dep (hs : s.regsOk = true) (hq : (s.run l).nrg.seq = none)
    (ho : s.rd (laneDie l) R.NRG_OBC_STATUS.STATE = obcOff) : (s.pulledAt k l).dep = s.dep := by
  have hhvc : Spares [R.NRG_OBC_STATUS.STATE] s (s.hvcStep l) := (Spares.refl s).hvcStep (by decide) (by decide) l
  unfold State.pulledAt
  rw [State.seqPulled_idle hq, State.obcStep_dep ((hhvc.rd hs _ _ _ _ (List.mem_singleton_self _)).trans ho), State.hvcStep_dep]

/-- What a lane's own steps leave to the other lane: besides the result of its sequence, its charger's state and its contactors'
outputs. -/
def otherFlds : List Fld := seqFlds ++ [R.NRG_OBC_STATUS.STATE, R.NRG_CTRc_CFG.SO]

theorem State.run_modRun_ne (h : l ≠ x) (f : LaneRun → LaneRun) : (s.modRun x f).run l = s.run l := by
  rw [State.run_modRun, if_neg h]

theorem State.seqGo_other (h : x ≠ l) (p : SeqPhase) (n : Nat) : LaneStands otherFlds l s (s.seqGo x p n) where
  regs := ((OnDie.refl s).spares ((Spares.refl s).modNrg x _)).wr (laneDie_ne h) _ _ _ _ (by decide)
  seq := congrArg LaneRun.seq ((State.wr_run ..).trans (State.run_modRun_ne h.symm _))

theorem State.seqEnd_other (h : x ≠ l) (r : Nat) : LaneStands otherFlds l s (s.seqEnd x r) := by
  cases hq : (s.run x).nrg.seq with
  | none =>
    rw [State.seqEnd_idle r hq]
    exact .refl s
  | some q =>
    let v := s.modNrg x fun n => { n with seq := none }
    have hv : LaneStands otherFlds l s v :=
      ⟨((Spares.refl s).modNrg x _).onDie _, congrArg LaneRun.seq (State.run_modRun_ne h.symm _)⟩
    have hdischarged : LaneStands otherFlds l v (v.discharge x false) :=
      .of ((Spares.refl v).discharge ..) ((Views.refl v).discharge aside_seq ..)
    have hstopped : LaneStands otherFlds l v (s.seqStopped x r) :=
      ⟨(hdischarged.regs.wr (laneDie_ne h) _ _ _ _ (by decide)).wr (laneDie_ne h) _ _ _ _ (by decide),
        ((((Views.refl v).discharge aside_seq x false).wr ..).wr ..).eq l⟩
    rw [State.seqEnd_running r hq]
    exact (hv.trans hstopped).trans
      (.of (((Spares.refl _).irq ..).logIf (by decide) ..) (((Views.refl _).irq aside_seq ..).logIf aside_seq ..))

theorem State.seqClose_other (h : x ≠ l) (c : Nat) (p : SeqPhase) (n : Nat) : LaneStands otherFlds l s (s.seqClose x c p n) := by
  have hclose : LaneStands otherFlds l s ((s.seqGo x p n).ctrClose x c).2 :=
    (State.seqGo_other h p n).trans (.of ((Spares.refl _).ctrClose (by decide) x c (by decide)) ((Views.refl _).ctrClose x c))
  exact iteInduction (fun _ => hclose) fun _ => hclose.trans (State.seqEnd_other h _)

/-- What the end of a pull can do to a sequence: nothing, or the close of the next contactor, the next part, or its end. -/
theorem State.seqPulled_state (s : State) (l : Lane) (k : Fin 12) (P : State → Prop) (hstays : P s)
    (hcloses : ∀ c p n, P (s.seqClose l c p n)) (hgoes : ∀ p n, P (s.seqGo l p n)) (hends : ∀ r, P (s.seqEnd l r)) :
    P (s.seqPulled l k) := by
  unfold State.seqPulled
  split
  · exact hstays
  · dsimp only
    split
    · exact iteInduction (fun _ => hcloses ..) fun _ => hstays
    · exact iteInduction (fun _ => hgoes ..) fun _ => hstays
    · exact iteInduction (fun _ => hcloses ..) fun _ => hstays
    · exact iteInduction (fun _ => hends _) fun _ => hstays
    · exact iteInduction (fun _ => hends _) fun _ => hstays
    · exact hstays

theorem State.seqPulled_other (h : x ≠ l) : LaneStands otherFlds l s (s.seqPulled x k) :=
  State.seqPulled_state s x k (LaneStands otherFlds l s) (.refl s) (State.seqClose_other h) (State.seqGo_other h) (State.seqEnd_other h)

theorem State.obcStep_other (h : x ≠ l) : LaneStands otherFlds l s (s.obcStep x) where
  regs := by
    have hv := (OnDie.refl (fs := otherFlds) s).wr (laneDie_ne h) R.NRG_OBC_STATUS.CFG_ERR (b2n (s.obcErr x)) 0 0 (by decide)
    have hstate := fun n => hv.wr (laneDie_ne h) R.NRG_OBC_STATUS.STATE n 0 0 (by decide)
    have hoff := ((hstate obcOff).wr (laneDie_ne h) R.NRG_OBC_STATUS.PLL_LOCK 0 0 0 (by decide)).spares
      ((Spares.refl _).obcHold (by decide) x true)
    exact State.obcStep_state s x (OnDie (laneDie l) otherFlds s) hv
      (fun _ => ⟨hoff, hoff.spares ((Spares.refl _).ctrOpen (by decide) x ctrACR)⟩) fun n => (hstate n).spares ((Spares.refl _).modNrg ..)
  seq := ((Views.refl s).obcStep x).eq l

theorem State.pulledAt_other (h : x ≠ l) : LaneStands otherFlds l s (s.pulledAt k x) :=
  ((State.seqPulled_other h).trans (.of ((Spares.refl _).hvcStep (by decide) (by decide) x) ((Views.refl _).hvcStep x))).trans
    (State.obcStep_other h)

/-- The stages' steps leave the result of the lane's own sequence. -/
theorem State.pulledAt_stages (s : State) (k : Fin 12) (l : Lane) : LaneStands seqFlds l (s.seqPulled l k) (s.pulledAt k l) :=
  .of (((Spares.refl _).hvcStep (by decide) (by decide) l).obcStep (by decide) (by decide) l) (((Views.refl _).hvcStep l).obcStep l)

/-- A pull's end passes the other lane and reaches this one, whose sequence goes on at the same instant. -/
theorem pull_reaches (l : Lane) (hd : s.depOn = true) (hk : s.dep.ctr[k] = .pull) : leads (.contactorPullEnd k) s fun t =>
    t.now = (s.pullEnded k).now ∧ ∃ u, LaneStands otherFlds l s u ∧ u.now = t.now ∧ LaneStands seqFlds l (u.seqPulled l k) t := by
  have hnow : ∀ v : State, (v.each lanes fun s l => s.pulledAt k l).now = v.now := State.each_related (R := fun s t => t.now = s.now)
    (fun _ => rfl) (fun h g => g.trans h) fun v x _ => v.pulledAt_now k x
  obtain ⟨u, ⟨hu, hunow⟩, ⟨hlast, -⟩⟩ := State.each_of_mem (R := fun s t => LaneStands otherFlds l s t ∧ t.now = s.now) (k := l)
    (f := fun s l => s.pulledAt k l) (xs := lanes) (fun s => ⟨.refl s, rfl⟩) (fun h g => ⟨h.1.trans g.1, g.2.trans h.2⟩)
    (fun v x hx => ⟨State.pulledAt_other hx, v.pulledAt_now k x⟩) (by decide) (by cases l <;> decide) (s.pullEnded k)
  have hended : LaneStands otherFlds l s (s.pullEnded k) :=
    .of (((Spares.refl s).advTo _).modDep _) (((Views.refl s).advTo _).modDep _)
  exact leads_of_exec (exec_contactorPullEnd hd hk) ⟨hnow _, u, hended.trans hu, hunow.trans (hnow _).symm,
    (u.pulledAt_stages k l).trans (hlast.mono (List.subset_append_left ..))⟩

/-- With no sequence and both chargers off, the end of a pull holds the contactor. -/
theorem pull_holds (hs : s.regsOk = true) (hd : s.depOn = true) (hk : s.dep.ctr[k] = .pull) (hq : ∀ l, (s.run l).nrg.seq = none)
    (ho : ∀ l, s.rd (laneDie l) R.NRG_OBC_STATUS.STATE = obcOff) : leads (.contactorPullEnd k) s fun t =>
      t.dep.ctr[k] = .hold ∧ t.now = (s.pullEnded k).now := by
  let v := s.pullEnded k
  have hv : ∀ x, LaneStands otherFlds x s v := fun x =>
    .of (((Spares.refl s).advTo _).modDep _) (((Views.refl s).advTo _).modDep _)
  have hb := (hv .b).trans (State.pulledAt_other (k := k) (x := .a) (by decide))
  have hdepA : (v.pulledAt k .a).dep = v.dep := State.pulledAt_dep ((hv .a).regs.ok hs) ((hv .a).seq.trans (hq .a))
    (((hv .a).regs.rd hs _ _ _ (by decide)).trans (ho .a))
  have hdepB : ((v.pulledAt k .a).pulledAt k .b).dep = (v.pulledAt k .a).dep := State.pulledAt_dep (hb.regs.ok hs) (hb.seq.trans (hq .b))
    ((hb.regs.rd hs _ _ _ (by decide)).trans (ho .b))
  refine leads_of_exec (exec_contactorPullEnd hd hk) ⟨?_, (State.pulledAt_now ..).trans (State.pulledAt_now ..)⟩
  have hdep : (v.each lanes fun s l => s.pulledAt k l).dep = v.dep := hdepB.trans hdepA
  rw [hdep]
  exact (upd_get ..).trans (if_pos rfl)

/-- Which contactor a sequence waits for while its coil pulls in, and what follows. -/
theorem State.seqPulled_goesOn (hq : (s.run l).nrg.seq = some q) (h : (q.phase = .closeMp ∧ s.ctrOut l ctrMP = k) ∨
    (q.phase = .dcP ∧ s.ctrOut l ctrDCP = k) ∨ (q.phase = .acClose ∧ s.ctrOut l ctrACR = k)) :
    s.seqPulled l k = if q.phase = .closeMp then s.seqGo l .overlap 5 else s.seqEnd l resDone := by
  unfold State.seqPulled
  rw [hq]
  rcases h with ⟨hp, rfl⟩ | ⟨hp, rfl⟩ | ⟨hp, rfl⟩ <;> simp [hp]

/-! ## `CLOSE_DC` and `CLOSE_AC` (R283) -/

theorem exec_closeDc (hs : s.regsOk = true) (hw : s.writable l = true) (hm : s.master = l) (hidle : (s.run l).nrg.seq = none)
    (hmode : s.dcMode l = true) (hcfg : s.nrgCfgErr l = false) : exec (.closeDc l) s = .next
      (if s.mainHold l = true ∧ absI (s.vInlet l - s.vLink l) ≤ s.rd (laneDie l) R.NRG_DC.DV_MATCH * 2 ^ 30 then
        ((s.wr (laneDie l) R.NRG_CTR_RESULT.LAST_CMD 3).seqBegin l 3 .dcN 1).seqClose l ctrDCN .dcN 1
      else (s.wr (laneDie l) R.NRG_CTR_RESULT.LAST_CMD 3).cmdRefuse l resMismatch) := by
  let v := s.wr (laneDie l) R.NRG_CTR_RESULT.LAST_CMD 3
  have hv : Spares (R.NRG_DC.DV_MATCH :: R.NRG_CTRc_CFG.SO :: voltageFlds) s v := (Spares.refl s).wr _ _ _ _ _ (by decide)
  have hvolts : Spares voltageFlds s v := hv.mono (by decide)
  have hce : Views LaneRun.ce s v := (Views.refl s).wr ..
  have hhold : v.mainHold l = s.mainHold l := by
    have hout := fun c => congrArg soIdx (hv.rd hs (laneDie l) R.NRG_CTRc_CFG.SO c 0 (by decide))
    unfold State.mainHold
    rw [State.ctr_of_out (hout ctrMP), State.ctr_of_out (hout ctrMN)]
    rfl
  refine congrArg Host.Outcome.next ((State.ctrCommand_idle hw hm hidle hmode hcfg).trans ?_)
  rw [hhold, hvolts.vInlet hs hce, hvolts.vLink hs hce, hv.rd hs _ R.NRG_DC.DV_MATCH _ _ (by decide)]
  simp only [Bool.and_eq_true, decide_eq_true_eq]

theorem exec_closeAc (hs : s.regsOk = true) (hw : s.writable l = true) (hm : s.master = l) (hidle : (s.run l).nrg.seq = none)
    (hmode : s.acMode l = true) (hcfg : s.nrgCfgErr l = false) : exec (.closeAc l) s = .next
      (if s.rd (laneDie l) R.NRG_OBC_STATUS.STATE = obcPre then
        ((s.wr (laneDie l) R.NRG_CTR_RESULT.LAST_CMD 5).seqBegin l 5 .acClose 1).seqClose l ctrACR .acClose 1
      else (s.wr (laneDie l) R.NRG_CTR_RESULT.LAST_CMD 5).cmdRefuse l resMode) := by
  have hv : Spares [R.NRG_OBC_STATUS.STATE] s (s.wr (laneDie l) R.NRG_CTR_RESULT.LAST_CMD 5) := (Spares.refl s).wr _ _ _ _ _ (by decide)
  refine congrArg Host.Outcome.next ((State.ctrCommand_idle hw hm hidle hmode hcfg).trans ?_)
  rw [hv.rd hs _ _ _ _ (List.mem_singleton_self _)]

end

/-- Settles O29: a command that is taken or refused from the lemmas on commands, a part of a sequence from those on closing and
ending it, and the end of a pull from what it leaves to the lane whose sequence waits. -/
theorem contactorSequencesClose : Obligations.ContactorSequencesClose := by
  unfold Obligations.ContactorSequencesClose
  refine ⟨?_, ?_, ?_, ?_, ?_, ?_, ?_, ?_, ?_⟩
  · intro s l hs hw hm hidle hmode hcfg hweld hclose
    have hexec := exec_closeMain (canonical_regs hs) hw hm hidle hmode hcfg
    rw [State.mainWelded_of_clear hweld] at hexec
    obtain ⟨hat, hbusy, hcmd, hrose⟩ := State.command_closes (cmd := 1) (n := 2) .closeMn (canonical_regs hs) (by decide) (by decide) hclose
    exact leads_of_exec hexec ⟨hbusy, hat.step, hcmd, hrose, hat.seq⟩
  · intro s l hs hw
    have hrefused := fun {instr cmd aborts mode go} => command_refused (l := l) (instr := instr) (cmd := cmd) (aborts := aborts)
      (mode := mode) (go := go) (canonical_regs hs) hw
    exact ⟨hrefused rfl, hrefused rfl, hrefused rfl, hrefused rfl, hrefused rfl, hrefused rfl, hrefused rfl, hrefused rfl⟩
  · intro s l hs hw hm hidle hmode hcfg hd hweld
    have hexec := exec_closeMain (canonical_regs hs) hw hm hidle hmode hcfg
    rw [State.mainWelded_of_bit hd hweld] at hexec
    exact leads_of_exec hexec ⟨State.cmdRefuse_result (State.wr_regsOk _ _ _ _ _ _ (canonical_regs hs)) (by decide), rfl⟩
  · intro s l q hs hq hp hv hclose
    refine leads_of_exec (exec_prechargeReached hq hp hv) ?_
    split
    · have hopened : Spares [] s (s.openAll l) := (Spares.refl s).openAll (by decide) l
      obtain ⟨hresult, hbusy, hseq⟩ := ((Views.refl s).openAll l).seqEnd_ended (r := resPreFast) hq
        (hopened.ok (canonical_regs hs)) (by decide)
      exact ⟨hresult, hbusy, hseq⟩
    · obtain ⟨hat, hrose⟩ := State.seqClose_at (n := 4) .closeMp (canonical_regs hs) hq (by decide) hclose
      exact ⟨hat.step, hrose, hat.seq⟩
  · intro s l q hs hq _
    refine ⟨fun hp => ?_, fun hp => ?_⟩
    · have hopened := fun x => ((Spares.refl (fs := []) s).advTo x).openAll (by decide) l
      obtain ⟨hresult, hbusy, hseq⟩ := (((Views.refl s).advTo _).openAll l).seqEnd_ended (r := resPreSlow) hq
        ((hopened _).ok (canonical_regs hs)) (by decide)
      exact leads_of_exec (exec_prechargeTimeout hq hp) ⟨hresult, hbusy, hseq, (State.seqEnd_now ..).trans (State.openAll_now ..)⟩
    · have hopened := fun x => ((Spares.refl (fs := []) s).advTo x).ctrOpen (by decide) l ctrPRE
      obtain ⟨hresult, hbusy, hseq⟩ := (((Views.refl s).advTo _).ctrOpen l ctrPRE).seqEnd_ended (r := resDone) hq
        ((hopened _).ok (canonical_regs hs)) (by decide)
      exact leads_of_exec (exec_prechargeOverlapEnd hq hp) ⟨hresult, hbusy, hseq, (State.seqEnd_now ..).trans (State.ctrOpen_now ..)⟩
  · intro s k hs hd hk hq ho
    exact pull_holds (canonical_regs hs) hd hk (fun l => by cases l; exacts [hq.1, hq.2]) fun l => by cases l; exacts [ho.1, ho.2]
  · intro s k l q hs hd hk hq hwaits
    obtain ⟨t, hexec, hnow, u, hu, hunow, hlast⟩ := pull_reaches l hd hk
    have hus := hu.regs.ok (canonical_regs hs)
    have huq := hu.seq.trans hq
    have hout : ∀ c, u.ctrOut l c = s.ctrOut l c := fun c => congrArg soIdx (hu.regs.rd (canonical_regs hs) _ _ _ (by decide))
    simp only [← hout] at hwaits
    rw [State.seqPulled_goesOn huq hwaits] at hlast
    refine leads_of_exec hexec ⟨hnow, ?_⟩
    split
    · next hp =>
      rw [if_pos hp] at hlast
      have hgo : Spares [] u (u.seqGo l .overlap 5) := (Spares.refl u).seqGo (by decide) ..
      obtain ⟨hstep, hseq⟩ := (State.seqGo_at .overlap hus huq (by decide)).stands (hgo.ok hus) hlast
      exact ⟨hstep, hunow ▸ hseq⟩
    · next hp =>
      rw [if_neg hp] at hlast
      have hend : Spares [] u (u.seqEnd l resDone) := (Spares.refl u).seqEnd (by decide) ..
      obtain ⟨hresult, hbusy, hseq⟩ := (State.seqEnd_ended (r := resDone) hus huq (by decide)).stands (hend.ok hus) hlast
      exact ⟨hresult, hbusy, hseq⟩
  · intro s l hs hw hm hidle hmode hcfg hclose
    refine leads_of_exec (exec_closeDc (canonical_regs hs) hw hm hidle hmode hcfg) ?_
    split
    · obtain ⟨hat, hbusy, -⟩ := State.command_closes (cmd := 3) (n := 1) .dcN (canonical_regs hs) (by decide) (by decide) hclose
      exact ⟨hbusy, hat.step, hat.seq⟩
    · exact ⟨State.cmdRefuse_result (State.wr_regsOk _ _ _ _ _ _ (canonical_regs hs)) (by decide), rfl⟩
  · intro s l hs hw hm hidle hmode hcfg hclose
    refine leads_of_exec (exec_closeAc (canonical_regs hs) hw hm hidle hmode hcfg) ?_
    split
    · obtain ⟨hat, hbusy, -⟩ := State.command_closes (cmd := 5) (n := 1) .acClose (canonical_regs hs) (by decide) (by decide) hclose
      exact ⟨hbusy, hat.seq⟩
    · exact ⟨State.cmdRefuse_result (State.wr_regsOk _ _ _ _ _ _ (canonical_regs hs)) (by decide), rfl⟩

end Sys2Proof.Machine
end

section
/-!
PROOFS. P_lim and the overvoltage levels (R269, R272 to R274): what moves P_lim, what the lines do at the Deputy, and the safe outputs
that stay open.
-/
namespace Sys2Proof.Machine

section
variable {fs : List Fld} {s t u : State} {l : Lane}

/-! ## P_lim (R272) -/

/-- The fields that a step of P_lim writes. -/
def plimFlds : List Fld :=
  [R.NRG_REGEN_LIM.P, R.NRG_REGEN_LIM.RAMPING, R.NRG_CHOP_STAT.HEALTHY, R.NRG_CHOP_STAT.FAIL, R.NRG_STATUS.CFG_ERR,
   R.NRG_STATUS.OV_SLOW]

theorem Spares.plimStep (h : Spares fs s t) (ha : apartAll plimFlds fs = true) (l : Lane) : Spares fs s (t.plimStep l) :=
  ((((((h.modNrg ..).wrIn ha _ _ _ _ (by decide)).wrIn ha _ _ _ _ (by decide)).wrIn ha _ _ _ _ (by decide)).wrIn ha _ _ _ _
    (by decide)).wrIn ha _ _ _ _ (by decide)).wrIn ha _ _ _ _ (by decide)

theorem Spares.plimZero (h : Spares fs s t) (ha : apartAll plimFlds fs = true) (l : Lane) : Spares fs s (t.plimZero l) :=
  (h.modNrg ..).plimStep ha l

theorem Views.plimStep (h : Views LaneRun.seq s t) (l : Lane) : Views LaneRun.seq s (t.plimStep l) := by
  unfold State.plimStep
  lift_lets -useContext -merge -underBinder
  intro d n goal move p target legs mask s1 s2
  have h1 : Views LaneRun.seq s s1 := h.modNrg_seq l fun _ => rfl
  exact (((((h1.wr ..).wr ..).wr ..).wr ..).wr ..).wr ..

theorem Views.plimZero (h : Views LaneRun.seq s t) (l : Lane) : Views LaneRun.seq s (t.plimZero l) := by
  have h1 : Views LaneRun.seq s (t.modNrg l fun x => { x with plim := 0, target := 0, plimAt := t.now }) :=
    h.modNrg_seq l fun _ => rfl
  exact h1.plimStep l

/-- A step of P_lim takes the target anew and leaves the hold at zero. -/
theorem State.plimStep_nrg (s : State) (l : Lane) : ((s.plimStep l).run l).nrg.target = s.plimTarget l ∧
    ((s.plimStep l).run l).nrg.zeroHold = (s.run l).nrg.zeroHold := by
  unfold State.plimStep
  lift_lets -useContext -merge -underBinder
  intro d n goal move p target legs mask s1 s2
  have hrest : Views LaneRun.nrg s1
      ((((s2.wr d R.NRG_CHOP_STAT.HEALTHY mask).put d R.NRG_CHOP_STAT.FAIL (mask == 0)).put d R.NRG_STATUS.CFG_ERR
        (s2.nrgCfgErr l)).put d R.NRG_STATUS.OV_SLOW (s2.ovSlow l)) :=
    ((((((Views.refl s1).wr ..).wr ..).wr ..).wr ..).wr ..).wr ..
  rw [hrest.eq l, State.modNrg_run]
  exact ⟨rfl, rfl⟩

/-- With OV1 on, the target is zero. -/
theorem State.plimTarget_ov1 (h : s.rd (laneDie l) R.NRG_STATUS.OV1 = 1) : s.plimTarget l = 0 := by
  have hon : s.on (laneDie l) R.NRG_STATUS.OV1 = true := by rw [State.on_def, h]; rfl
  unfold State.plimTarget
  dsimp only
  rw [hon]
  rfl

/-- P_lim set to zero shows zero. -/
theorem State.plimZero_shown (hs : s.regsOk = true) (l : Lane) : (s.plimZero l).rd (laneDie l) R.NRG_REGEN_LIM.P = 0 := by
  let v := s.modNrg l fun x => { x with plim := 0, target := 0, plimAt := s.now }
  have hv : v.regsOk = true := State.modNrg_regsOk hs
  have hnrg : (v.run l).nrg = { (s.run l).nrg with plim := 0, target := 0, plimAt := s.now } := State.modNrg_run ..
  have hnow : v.now - s.now = 0 := Nat.sub_eq_zero_of_le (le_of_eq (State.modRun_now ..))
  change (v.plimStep l).rd (laneDie l) R.NRG_REGEN_LIM.P = 0
  unfold State.plimStep
  lift_lets -useContext -merge -underBinder
  intro d n goal move p target legs mask s1 s2
  have hp : p = 0 := by
    simp only [p, goal, move, n, hnrg, hnow]
    simp
  have hok : s1.regsOk = true := State.modNrg_regsOk hv
  have hrest : Spares [R.NRG_REGEN_LIM.P] (s1.wrSat d R.NRG_REGEN_LIM.P (p / 2 ^ 20).toNat)
      ((((s2.wr d R.NRG_CHOP_STAT.HEALTHY mask).put d R.NRG_CHOP_STAT.FAIL (mask == 0)).put d R.NRG_STATUS.CFG_ERR
        (s2.nrgCfgErr l)).put d R.NRG_STATUS.OV_SLOW (s2.ovSlow l)) :=
    (((((Spares.refl _).wr _ _ _ _ _ (by decide)).wr _ _ _ _ _ (by decide)).wr _ _ _ _ _ (by decide)).wr _ _ _ _ _ (by decide)).wr
      _ _ _ _ _ (by decide)
  refine (hrest.rd_wr hok (List.mem_singleton_self _)).trans ?_
  rw [hp]
  rfl

theorem State.plimZero_zeroHold (s : State) (l : Lane) : ((s.plimZero l).run l).nrg.zeroHold = (s.run l).nrg.zeroHold := by
  have hhold := ((s.modNrg l fun x => { x with plim := 0, target := 0, plimAt := s.now }).plimStep_nrg l).2
  rwa [State.modNrg_run] at hhold

/-! ## Events (R289) -/

theorem Spares.ovEvent {evt cnt : Fld} {level : Nat} (h : Spares fs s t) (ha : apartAll (evt :: cnt :: logFlds) fs = true) (l : Lane) :
    Spares fs s (t.ovEvent l evt cnt level) :=
  (((h.wrIn ha _ _ _ _ (List.mem_cons_self ..)).wrIn ha _ _ _ _ (List.mem_cons_of_mem _ (List.mem_cons_self ..))).irq ..).logIf
    (apartAll_right (gs := [evt, cnt]) ha) ..

/-- The event of a level latches and counts. -/
theorem State.ovEvent_shown {evt cnt : Fld} (level : Nat) (hs : s.regsOk = true) (hw : evt.w = 1)
    (hevt : apartAll (cnt :: logFlds) [evt] = true) (hcnt : apartAll (evt :: logFlds) [cnt] = true) :
    (s.ovEvent l evt cnt level).rd (laneDie l) evt = 1 ∧ rose s (s.ovEvent l evt cnt level) (laneDie l) cnt := by
  let v := s.set (laneDie l) evt
  have hv : Spares [cnt] s v := (Spares.refl s).wrIn hcnt _ _ _ _ (List.mem_cons_self ..)
  have hlatched : Spares [evt] v (s.ovEvent l evt cnt level) :=
    (((Spares.refl v).wrIn hevt _ _ _ _ (List.mem_cons_self ..)).irq ..).logIf (apartAll_right (gs := [cnt]) hevt) ..
  have hcounted : Spares [cnt] (v.inc (laneDie l) cnt) (s.ovEvent l evt cnt level) :=
    ((Spares.refl _).irq ..).logIf (apartAll_right (gs := [evt]) hcnt) ..
  refine ⟨(hlatched.rd_wr hs (List.mem_singleton_self _)).trans (by rw [hw]; rfl), ?_⟩
  exact hv.rose_of_rose hs (List.mem_singleton_self _) (hcounted.rose_inc (hv.ok hs) (List.mem_singleton_self _))

/-! ## The lines at the Deputy (R273, R274) -/

/-- The fields that the overvoltage lines act on besides their own bits. -/
def ovFlds : List Fld := [R.DSP_OV_STATUS.CLAMP, R.DSP_OV_STATUS.CHOP_OVR, R.NRG_STATUS.CLAMP, R.NRG_CHOP_STAT.FIRED]

theorem Spares.groupApply (h : Spares fs s t) (g : Nat) : Spares fs s (t.groupApply g) :=
  h.trans ((DrivesOnly.refl t).groupApply g).regs

theorem Spares.ovApply (h : Spares fs s t) (ha : apartAll ovFlds fs = true) : Spares fs s t.ovApply := by
  unfold State.ovApply
  refine Spares.each (Spares.each ?_ _ fun x l => ?_) _ fun x g => (Spares.refl x).groupApply g
  · exact ((h.wrIn ha _ _ _ _ (by decide)).wrIn ha _ _ _ _ (by decide)).of_regs rfl
  · exact .ite (((Spares.refl x).wrIn ha _ _ _ _ (by decide)).wrIn ha _ _ _ _ (by decide)) (.refl x)

theorem Views.ovApply {α : Type} {π : LaneRun → α} (h : Views π s t) : Views π s t.ovApply := by
  unfold State.ovApply
  refine Views.each (Views.each ?_ _ fun x l => ?_) _ fun x g => (Views.refl x).groupApply g
  · exact h.of_lanes rfl rfl
  · exact .ite (((Views.refl x).wr ..).wr ..) (.refl x)

/-- The Deputy clamps while a line of OV2 is active. -/
theorem State.ovApply_clamp (hs : s.regsOk = true) :
    s.ovApply.rd .ds R.DSP_OV_STATUS.CLAMP = b2n (s.rd .ds R.DSP_OV_STATUS.OV2 != 0) := by
  have hrest : Spares [R.DSP_OV_STATUS.CLAMP] (s.put .ds R.DSP_OV_STATUS.CLAMP (s.rd .ds R.DSP_OV_STATUS.OV2 != 0)) s.ovApply := by
    unfold State.ovApply
    refine Spares.each (Spares.each ?_ _ fun x l => ?_) _ fun x g => (Spares.refl x).groupApply g
    · exact ((Spares.refl _).wr _ _ _ _ _ (by decide)).of_regs rfl
    · exact .ite (((Spares.refl x).wr _ _ _ _ _ (by decide)).wr _ _ _ _ _ (by decide)) (.refl x)
  exact hrest.rd_put hs (List.mem_singleton_self _) (by decide)

theorem State.ovApply_dep (s : State) : s.ovApply.dep = s.dep :=
  (State.ovApply_within s (msk := 34361836544) (by decide) (Within.refl s)).dep (by decide)

theorem State.ovApply_now (s : State) : s.ovApply.now = s.now :=
  (State.ovApply_within s (msk := 34361836544) (by decide) (Within.refl s)).now_eq (by decide)

/-- Of two lines one is active when the field is not 0. -/
theorem lines_any {x : Nat} (hx : x < 4) (l : Lane) : (x != 0) = (bit x l.idx.val || bit x l.other.idx.val) := by
  revert x
  cases l <;> decide

theorem bit_clrBit_other (x : Nat) (l : Lane) : bit (clrBit x l.idx.val) l.other.idx.val = bit x l.other.idx.val := by
  cases l
  · change bit (clrBit x 0) 1 = bit x 1
    simp only [bit, clrBit, beq_iff_eq, pow_zero, pow_one]
    split
    · congr 1
      omega
    · rfl
  · change bit (clrBit x 1) 0 = bit x 0
    simp only [bit, clrBit, beq_iff_eq, pow_zero, pow_one]
    split
    · congr 1
      omega
    · rfl

/-- A line of one lane written leaves the other lane's. -/
theorem bit_other_line (x : Nat) (l : Lane) (on : Bool) :
    bit (if on then setBit x l.idx.val else clrBit x l.idx.val) l.other.idx.val = bit x l.other.idx.val := by
  cases on with
  | true =>
    rw [if_pos rfl, bit_set_eq]
    cases l <;> exact Bool.or_false _
  | false => exact bit_clrBit_other x l

/-- After a line is written, one is active when it is or the other lane's is. -/
theorem State.lines_wrBit {f : Fld} (hs : s.regsOk = true) (hw : f.w = 2) (l : Lane) (on : Bool) :
    ((s.wrBit .ds f l.idx.val on).rd .ds f != 0) = (on || s.rdBit .ds f l.other.idx.val) := by
  have hl : ∀ x : Lane, x.idx.val < f.w := fun x => x.idx.isLt.trans_eq hw.symm
  have hrd : (s.wrBit .ds f l.idx.val on).rd .ds f < 4 := by
    unfold State.wrBit
    rw [State.rd_wr_same _ _ _ _ _ _ hs, hw]
    exact Nat.mod_lt _ (by decide)
  have hother : (s.wrBit .ds f l.idx.val on).rdBit .ds f l.other.idx.val = s.rdBit .ds f l.other.idx.val := by
    unfold State.rdBit State.wrBit
    rw [State.rd_wr_same _ _ _ _ _ _ hs, bit_low (hl _), bit_other_line]
  rw [lines_any hrd l, ← State.rdBit_def, ← State.rdBit_def, hother, State.rdBit_wrBit_same _ _ _ _ _ _ hs (hl l)]

theorem Spares.ov2Line (h : Spares fs s t) (ha : apartAll ([R.DSP_OV_CNT.OV2, R.DSP_OV_STATUS.OV2] ++ ovFlds) fs = true) (l : Lane)
    (on : Bool) : Spares fs s (t.ov2Line l on) :=
  .ite (((Spares.ite (h.wrIn ha _ _ _ _ (by decide)) h).wrIn ha _ _ _ _ (by decide)).ovApply (apartAll_right ha)) h

theorem Views.ov2Line {α : Type} {π : LaneRun → α} (h : Views π s t) (l : Lane) (on : Bool) : Views π s (t.ov2Line l on) :=
  .ite ((Views.ite (h.wr ..) h).wr ..).ovApply h

/-- A line of OV2 that changes shows its level and, while one is active, the clamp. -/
theorem State.ov2Line_shown (hs : s.regsOk = true) (hd : s.depOn = true) (l : Lane) (on : Bool) :
    (s.ov2Line l on).rdBit .ds R.DSP_OV_STATUS.OV2 l.idx.val = on ∧
      (s.ov2Line l on).rd .ds R.DSP_OV_STATUS.CLAMP = b2n (on || s.rdBit .ds R.DSP_OV_STATUS.OV2 l.other.idx.val) := by
  let v := if on && !s.rdBit .ds R.DSP_OV_STATUS.OV2 l.idx.val then s.inc .ds R.DSP_OV_CNT.OV2 else s
  have hv : Spares [R.DSP_OV_STATUS.OV2] s v := .ite ((Spares.refl s).wr _ _ _ _ _ (by decide)) (.refl s)
  have hother : v.rdBit .ds R.DSP_OV_STATUS.OV2 l.other.idx.val = s.rdBit .ds R.DSP_OV_STATUS.OV2 l.other.idx.val := by
    unfold State.rdBit
    rw [hv.rd hs _ _ _ _ (List.mem_singleton_self _)]
  have hline : s.ov2Line l on = (v.wrBit .ds R.DSP_OV_STATUS.OV2 l.idx.val on).ovApply := if_pos hd
  have happly : Spares [R.DSP_OV_STATUS.OV2] (v.wrBit .ds R.DSP_OV_STATUS.OV2 l.idx.val on) (s.ov2Line l on) := by
    rw [hline]
    exact (Spares.refl _).ovApply (by decide)
  refine ⟨happly.rdBit_wrBit (hv.ok hs) (List.mem_singleton_self _) l.idx.isLt, ?_⟩
  have hok : (v.wrBit .ds R.DSP_OV_STATUS.OV2 l.idx.val on).regsOk = true := State.wr_regsOk _ _ _ _ _ _ (hv.ok hs)
  rw [hline, State.ovApply_clamp hok, State.lines_wrBit (hv.ok hs) rfl, hother]

/-- The fields that a line of OV3 writes. -/
def ov3LineFlds : List Fld := [R.DSP_OV_STATUS.OV3, R.DSP_OV_CNT.OV3, R.DSP_OV_STATUS.ASC_HOLD] ++ ovFlds

theorem Spares.ov3Line (h : Spares fs s t) (ha : apartAll ov3LineFlds fs = true) (l : Lane) (on : Bool) :
    Spares fs s (t.ov3Line l on) := by
  have hline := h.wrIn ha .ds (g := R.DSP_OV_STATUS.OV3)
    (if on then setBit (t.rd .ds R.DSP_OV_STATUS.OV3) l.idx.val else clrBit (t.rd .ds R.DSP_OV_STATUS.OV3) l.idx.val) 0 0 (by decide)
  exact .ite (.ite ((((hline.when _ fun x => (Spares.refl x).wrIn ha _ _ _ _ (by decide)).wrIn ha _ _ _ _ (by decide)).modDep _).ovApply
    (apartAll_right ha)) (.ite (hline.modDep _) hline)) h

/-- A line of OV3 that comes on holds the short circuit and stops its timer. -/
theorem State.ov3Line_on (hs : s.regsOk = true) (hd : s.depOn = true) (l : Lane) :
    (s.ov3Line l true).rd .ds R.DSP_OV_STATUS.ASC_HOLD = 1 ∧ (s.ov3Line l true).dep.asc3 = none := by
  let v := (s.wrBit .ds R.DSP_OV_STATUS.OV3 l.idx.val true).when (!s.rdBit .ds R.DSP_OV_STATUS.OV3 l.idx.val) fun s =>
    s.inc .ds R.DSP_OV_CNT.OV3
  have hv : v.regsOk = true :=
    (((Spares.refl (fs := []) s).wr _ _ _ _ _ (by decide)).when _ fun x => (Spares.refl x).wr _ _ _ _ _ (by decide)).ok hs
  have hline : s.ov3Line l true =
      ((v.set .ds R.DSP_OV_STATUS.ASC_HOLD).modDep fun d => { d with asc3 := none }).ovApply := if_pos hd
  have happly : Spares [R.DSP_OV_STATUS.ASC_HOLD] (v.set .ds R.DSP_OV_STATUS.ASC_HOLD) (s.ov3Line l true) := by
    rw [hline]
    exact ((Spares.refl _).modDep _).ovApply (by decide)
  refine ⟨happly.rd_wr hv (List.mem_singleton_self _), ?_⟩
  rw [hline, State.ovApply_dep]
  rfl

theorem State.ov3Line_false (s : State) (l : Lane) : s.ov3Line l false =
    let v := s.wrBit .ds R.DSP_OV_STATUS.OV3 l.idx.val false
    if s.depOn then
      if s.rdBit .ds R.DSP_OV_STATUS.OV3 l.idx.val && v.rd .ds R.DSP_OV_STATUS.OV3 == 0 then
        v.modDep fun d => { d with asc3 := some s.now }
      else v
    else s := by
  unfold State.ov3Line
  dsimp only
  rw [if_neg Bool.false_ne_true]

/-- A line of OV3 that goes off leaves the short circuit held; with the last one the timer starts. -/
theorem State.ov3Line_off (hs : s.regsOk = true) (l : Lane) :
    (s.ov3Line l false).rd .ds R.DSP_OV_STATUS.ASC_HOLD = s.rd .ds R.DSP_OV_STATUS.ASC_HOLD ∧
      (s.depOn = true → s.rdBit .ds R.DSP_OV_STATUS.OV3 l.idx.val = true → (s.ov3Line l false).dep.asc3 =
        if s.rdBit .ds R.DSP_OV_STATUS.OV3 l.other.idx.val then s.dep.asc3 else some s.now) := by
  let v := s.wrBit .ds R.DSP_OV_STATUS.OV3 l.idx.val false
  have hline : Spares [R.DSP_OV_STATUS.ASC_HOLD] s v := (Spares.refl s).wr _ _ _ _ _ (by decide)
  have hoff : Spares [R.DSP_OV_STATUS.ASC_HOLD] s (s.ov3Line l false) := by
    rw [State.ov3Line_false]
    exact .ite (.ite (hline.modDep _) hline) (.refl s)
  refine ⟨hoff.rd hs _ _ _ _ (List.mem_singleton_self _), fun hd hwas => ?_⟩
  have hlast : (v.rd .ds R.DSP_OV_STATUS.OV3 == 0) = !s.rdBit .ds R.DSP_OV_STATUS.OV3 l.other.idx.val := by
    rw [← Bool.not_not (_ == 0)]
    exact congrArg _ (State.lines_wrBit hs rfl l false)
  rw [State.ov3Line_false]
  dsimp only
  rw [if_pos hd, hwas, hlast]
  cases s.rdBit .ds R.DSP_OV_STATUS.OV3 l.other.idx.val <;> rfl

end

end Sys2Proof.Machine
end

section
/-!
PROOFS. The three overvoltage levels (R269, R272 to R274).
-/
namespace Sys2Proof.Machine

section
variable {s t u : State} {l : Lane} {k : Fin 12}

/-! ## Safe outputs that stay open (R345) -/

/-- Both switches of a safe output are open. -/
def State.soOff (s : State) (k : Fin 12) : Prop := s.rd .ds R.DSP_SOk_STATUS.HS k = 0 ∧ s.rd .ds R.DSP_SOk_STATUS.LS k = 0

/-- An output that is open stays so. -/
structure StaysOff (k : Fin 12) (s t : State) : Prop where
  ok : s.regsOk = true → t.regsOk = true
  off : s.regsOk = true → s.soOff k → t.soOff k

theorem Spares.staysOff (h : Spares [R.DSP_SOk_STATUS.HS, R.DSP_SOk_STATUS.LS] s t) : StaysOff k s t :=
  ⟨h.ok, fun hs ⟨hhs, hls⟩ => ⟨(h.rd hs _ _ _ _ (by decide)).trans hhs, (h.rd hs _ _ _ _ (by decide)).trans hls⟩⟩

theorem StaysOff.refl (s : State) : StaysOff k s s := ⟨id, fun _ h => h⟩

theorem StaysOff.trans (h : StaysOff k s t) (g : StaysOff k t u) : StaysOff k s u :=
  ⟨fun hs => g.ok (h.ok hs), fun hs hoff => g.off (h.ok hs) (h.off hs hoff)⟩

theorem StaysOff.ite {p : Prop} [Decidable p] (h : StaysOff k s t) (g : StaysOff k s u) : StaysOff k s (if p then t else u) := by
  split
  · exact h
  · exact g

theorem StaysOff.each {α : Type} (h : StaysOff k s t) (xs : List α) {f : State → α → State} (hf : ∀ x y, StaysOff k x (f x y)) :
    StaysOff k s (t.each xs f) := h.trans (State.each_related StaysOff.refl StaysOff.trans (fun x y _ => hf x y) t)

/-- A switch of one output opened closes no switch. -/
theorem State.rd_clr_so {f : Fld} (hs : s.regsOk = true) (j : Fin 12) (h : s.rd .ds f k = 0) : (s.clr .ds f j).rd .ds f k = 0 := by
  by_cases hj : j = k
  · rw [hj]
    exact (State.rd_wr_same _ _ _ _ _ _ hs).trans (Nat.zero_mod _)
  · refine (State.rd_wr_inst _ _ _ _ _ _ _ _ _ _ hs ?_).trans h
    omega

theorem StaysOff.clr (h : StaysOff k s t) (f : Fld) (hf : f = R.DSP_SOk_STATUS.HS ∨ f = R.DSP_SOk_STATUS.LS) (j : Fin 12) :
    StaysOff k s (t.clr .ds f j) := by
  refine h.trans ⟨State.wr_regsOk _ _ _ _ _ _, fun ht ⟨hhs, hls⟩ => ?_⟩
  rcases hf with rfl | rfl
  · exact ⟨State.rd_clr_so ht j hhs, (State.rd_wr_apart _ _ _ _ _ _ _ _ _ _ ht (by decide)).trans hls⟩
  · exact ⟨(State.rd_wr_apart _ _ _ _ _ _ _ _ _ _ ht (by decide)).trans hhs, State.rd_clr_so ht j hls⟩

/-- What follows the switches when an output opens. -/
theorem State.openSo_switches (s : State) (j : Fin 12) : ∃ v, Spares [R.DSP_SOk_STATUS.HS, R.DSP_SOk_STATUS.LS] s v ∧
    Spares [R.DSP_SOk_STATUS.HS, R.DSP_SOk_STATUS.LS] ((v.clr .ds R.DSP_SOk_STATUS.HS j).clr .ds R.DSP_SOk_STATUS.LS j)
      (s.openSo j) := by
  let v := if s.on .ds R.DSP_SOk_STATUS.HS j == false && s.on .ds R.DSP_SOk_STATUS.LS j == false then s
    else s.modDep fun d => { d with soAt := upd d.soAt j fun _ => s.now }
  have hset : Spares [R.DSP_SOk_STATUS.HS, R.DSP_SOk_STATUS.LS] ((v.clr .ds R.DSP_SOk_STATUS.HS j).clr .ds R.DSP_SOk_STATUS.LS j)
      (s.soSet j false false) :=
    ((((Spares.refl _).wr _ _ _ _ _ (by decide)).wr _ _ _ _ _ (by decide)).wr _ _ _ _ _ (by decide)).wr _ _ _ _ _ (by decide)
  exact ⟨v, .ite (.refl s) ((Spares.refl s).modDep _), State.openSo_state s j (Spares _ _) (fun _ => hset.modDep _) fun _ =>
    ((((hset.modDep _).wr _ _ _ _ _ (by decide)).wr _ _ _ _ _ (by decide)).wr _ _ _ _ _ (by decide)).modDep _⟩

theorem StaysOff.openSo (h : StaysOff k s t) (j : Fin 12) : StaysOff k s (t.openSo j) := by
  obtain ⟨v, hv, hopen⟩ := t.openSo_switches j
  exact (((h.trans hv.staysOff).clr _ (.inl rfl) j).clr _ (.inr rfl) j).trans hopen.staysOff

theorem StaysOff.ctrOpen1 (h : StaysOff k s t) (l : Lane) (c : Nat) : StaysOff k s (t.ctrOpen1 l c) :=
  .ite ((h.trans ((Spares.refl t).wr _ _ _ _ _ (by decide)).staysOff).openSo _) h

theorem StaysOff.ctrOpen (h : StaysOff k s t) (l : Lane) (c : Nat) : StaysOff k s (t.ctrOpen l c) :=
  (StaysOff.ite (h.each _ fun x y => .ite ((StaysOff.refl x).ctrOpen1 l y) (.refl x)) h).ctrOpen1 l c

/-- Opened, an output has both switches open. -/
theorem State.openSo_off (hs : s.regsOk = true) (k : Fin 12) : (s.openSo k).soOff k := by
  obtain ⟨v, hv, hopen⟩ := s.openSo_switches k
  have hhs : (v.clr .ds R.DSP_SOk_STATUS.HS k).regsOk = true := State.wr_regsOk _ _ _ _ _ _ (hv.ok hs)
  refine (hopen.staysOff.off (State.wr_regsOk _ _ _ _ _ _ hhs) ⟨?_, State.rd_wr_same _ _ _ _ _ _ hhs⟩)
  exact (State.rd_wr_apart _ _ _ _ _ _ _ _ _ _ hhs (by decide)).trans (State.rd_wr_same _ _ _ _ _ _ (hv.ok hs))

/-- An open request that the Deputy takes opens both switches of its output. -/
theorem State.ctrOpen_off {c : Nat} (hs : s.regsOk = true) (hserved : s.ctrServed l c = true) : (s.ctrOpen l c).soOff (s.ctrOut l c) := by
  have hfirst := s.dcOpenedFirst_onlyOpens l c
  let v := s.dcOpenedFirst l c
  have hv : v.regsOk = true := hfirst.regs.ok hs
  have hopen : s.ctrOpen l c = (v.clr .ds R.DSP_SOk_CMD.CLOSE (v.ctrOut l c)).openSo (v.ctrOut l c) :=
    if_pos ((hfirst.ctrServed hs l c).trans hserved)
  rw [hopen, ← hfirst.ctrOut hs l c]
  exact State.openSo_off (State.wr_regsOk _ _ _ _ _ _ hv) _

/-! ## What the lane does when a contactor opens outside a sequence -/

theorem Spares.ctrWatch {fs : List Fld} (h : Spares fs s t) (he : apartAll endFlds fs = true) (hv : apartAll hvcFlds fs = true)
    (hp : outsidePap fs = true) (l : Lane) : Spares fs s (t.ctrWatch l) := (Spares.ite (h.seqEnd he ..) h).hvcStep hv hp l

theorem State.ctrWatch_now (s : State) (l : Lane) : (s.ctrWatch l).now = s.now := by
  have hend : (if s.seqBroken l then s.seqEnd l resDeputy else s).now = s.now := by
    split
    · exact s.seqEnd_now l _
    · rfl
  exact (State.hvcStep_now ..).trans hend

theorem StaysOff.obcStep (h : StaysOff k s t) (l : Lane) : StaysOff k s (t.obcStep l) := by
  have hv : Spares [R.DSP_SOk_STATUS.HS, R.DSP_SOk_STATUS.LS] t (t.put (laneDie l) R.NRG_OBC_STATUS.CFG_ERR (t.obcErr l)) :=
    (Spares.refl t).wr _ _ _ _ _ (by decide)
  have hoff := h.trans (hv.obcHeldOff (by decide) (by decide) l).staysOff
  exact State.obcStep_state t l (StaysOff k s) (h.trans hv.staysOff) (fun _ => ⟨hoff, hoff.ctrOpen l ctrACR⟩) fun n =>
    h.trans ((hv.wr _ _ _ _ _ (by decide)).modNrg ..).staysOff

/-! ## The commands of the levels -/

/-- The crossing of OV1 in effect (R272). -/
def State.ov1Crossed (s : State) (l : Lane) (on : Bool) : State :=
  let v := (s.plimStep l).put (laneDie l) R.NRG_STATUS.OV1 on
  if on then (v.ovEvent l R.NRG_STATUS.OV1_EVT R.NRG_OV_CNT.OV1 1).plimStep l
  else (v.modNrg l fun n => { n with zeroHold := false }).plimStep l

theorem exec_ov1Cross {on : Bool} (hp : s.past l 11 = true) (hwas : s.on (laneDie l) R.NRG_STATUS.OV1 = !on) :
    exec (.ov1Cross l on) s = .next (if s.ovOut l 1 (!on) = on then s.ov1Crossed l on else s) := by
  refine congrArg Host.Outcome.next ?_
  rw [hp, hwas]
  cases on <;> cases s.ovOut l 1 _ <;> rfl

/-- A crossing of OV1 shows itself; on, it counts and takes the target to zero, and off, it ends the hold of an OV2 event. -/
theorem State.ov1Crossed_shown (hs : s.regsOk = true) (l : Lane) (on : Bool) :
    (s.ov1Crossed l on).rd (laneDie l) R.NRG_STATUS.OV1 = b2n on ∧
      (on = true → (s.ov1Crossed l on).rd (laneDie l) R.NRG_STATUS.OV1_EVT = 1 ∧
        rose s (s.ov1Crossed l on) (laneDie l) R.NRG_OV_CNT.OV1 ∧ ((s.ov1Crossed l on).run l).nrg.target = 0) ∧
      (on = false → ((s.ov1Crossed l on).run l).nrg.zeroHold = false) := by
  have hstep : Spares [R.NRG_OV_CNT.OV1] s (s.plimStep l) := (Spares.refl s).plimStep (by decide) l
  have hstepOk := hstep.ok hs
  let v := (s.plimStep l).put (laneDie l) R.NRG_STATUS.OV1 on
  have hv : Spares [R.NRG_OV_CNT.OV1] s v := hstep.wr _ _ _ _ _ (by decide)
  cases on with
  | true =>
    let w := v.ovEvent l R.NRG_STATUS.OV1_EVT R.NRG_OV_CNT.OV1 1
    obtain ⟨hevt, hrose⟩ := State.ovEvent_shown (l := l) (evt := R.NRG_STATUS.OV1_EVT) (cnt := R.NRG_OV_CNT.OV1) 1 (hv.ok hs) rfl
      (by decide) (by decide)
    have hevent : Spares [R.NRG_STATUS.OV1] v w := (Spares.refl v).ovEvent (by decide) l
    have hw : w.regsOk = true := hevent.ok (hv.ok hs)
    have hshown : w.rd (laneDie l) R.NRG_STATUS.OV1 = 1 := hevent.rd_put hstepOk (List.mem_singleton_self _) (by decide)
    have hlast : Spares [R.NRG_STATUS.OV1, R.NRG_STATUS.OV1_EVT, R.NRG_OV_CNT.OV1] w (s.ov1Crossed l true) :=
      (Spares.refl w).plimStep (by decide) l
    refine ⟨(hlast.rd hw _ _ _ _ (by decide)).trans hshown, fun _ => ⟨(hlast.rd hw _ _ _ _ (by decide)).trans hevt, ?_, ?_⟩,
      fun h => absurd h (by decide)⟩
    · exact (hlast.rd hw _ _ _ _ (by decide)).trans (hv.rose_of_rose hs (List.mem_singleton_self _) hrose)
    · exact (w.plimStep_nrg l).1.trans (State.plimTarget_ov1 hshown)
  | false =>
    have hlast : Spares [R.NRG_STATUS.OV1] v (s.ov1Crossed l false) := ((Spares.refl v).modNrg ..).plimStep (by decide) l
    refine ⟨hlast.rd_put hstepOk (List.mem_singleton_self _) (by decide), fun h => absurd h (by decide), fun _ => ?_⟩
    have hhold := ((v.modNrg l fun n => { n with zeroHold := false }).plimStep_nrg l).2
    rwa [State.modNrg_run] at hhold

/-- OV2 in effect (R272, R273). -/
def State.ov2Crossed (s : State) (l : Lane) : State :=
  ((((s.set (laneDie l) R.NRG_STATUS.OV2).ovEvent l R.NRG_STATUS.OV2_EVT R.NRG_OV_CNT.OV2 2).modNrg l fun n =>
    { n with zeroHold := true }).plimZero l).ov2Line l true

theorem exec_ov2Cross (hp : s.past l 11 = true) (hwas : s.on (laneDie l) R.NRG_STATUS.OV2 = false) :
    exec (.ov2Cross l) s = .next (if s.ovOut l 2 false then s.ov2Crossed l else s) := by
  refine congrArg Host.Outcome.next ?_
  rw [hp, hwas]
  rfl

theorem exec_ov2Release (hp : s.past l 11 = true) (hwas : s.on (laneDie l) R.NRG_STATUS.OV2 = true) (hout : s.ovOut l 2 true = false) :
    exec (.ov2Release l) s = .next ((s.clr (laneDie l) R.NRG_STATUS.OV2).ov2Line l false) := by
  refine congrArg Host.Outcome.next ?_
  rw [hp, hwas, hout]
  rfl

/-- An event of OV2 shows itself and counts, sets the limit to zero and, with the Deputy present, clamps. -/
theorem State.ov2Crossed_shown (hs : s.regsOk = true) (l : Lane) : (s.ov2Crossed l).rd (laneDie l) R.NRG_STATUS.OV2 = 1 ∧
    (s.ov2Crossed l).rd (laneDie l) R.NRG_STATUS.OV2_EVT = 1 ∧ rose s (s.ov2Crossed l) (laneDie l) R.NRG_OV_CNT.OV2 ∧
    (s.ov2Crossed l).rd (laneDie l) R.NRG_REGEN_LIM.P = 0 ∧ ((s.ov2Crossed l).run l).nrg.zeroHold = true ∧
    (s.depOn = true → (s.ov2Crossed l).rdBit .ds R.DSP_OV_STATUS.OV2 l.idx.val = true ∧
      (s.ov2Crossed l).rd .ds R.DSP_OV_STATUS.CLAMP = 1) := by
  let v := s.set (laneDie l) R.NRG_STATUS.OV2
  let w := v.ovEvent l R.NRG_STATUS.OV2_EVT R.NRG_OV_CNT.OV2 2
  let y := w.modNrg l fun n => { n with zeroHold := true }
  let z := y.plimZero l
  have hv : Spares [R.NRG_OV_CNT.OV2] s v := (Spares.refl s).wr _ _ _ _ _ (by decide)
  obtain ⟨hevt, hrose⟩ := State.ovEvent_shown (l := l) (evt := R.NRG_STATUS.OV2_EVT) (cnt := R.NRG_OV_CNT.OV2) 2 (hv.ok hs) rfl
    (by decide) (by decide)
  have hshown : Spares [R.NRG_STATUS.OV2] v w := (Spares.refl v).ovEvent (by decide) l
  have hw : w.regsOk = true := hshown.ok (hv.ok hs)
  have hy : y.regsOk = true := State.modNrg_regsOk hw
  have hz : z.regsOk = true := ((Spares.refl (fs := []) y).plimZero (by decide) l).ok hy
  have hlast : Spares [R.NRG_STATUS.OV2, R.NRG_STATUS.OV2_EVT, R.NRG_OV_CNT.OV2] w (s.ov2Crossed l) :=
    (((Spares.refl w).modNrg ..).plimZero (by decide) l).ov2Line (by decide) l true
  have hlimit : Spares [R.NRG_REGEN_LIM.P] z (s.ov2Crossed l) := (Spares.refl z).ov2Line (by decide) l true
  have hhold : ((s.ov2Crossed l).run l).nrg.zeroHold = true := by
    have hline : Views LaneRun.nrg z (s.ov2Crossed l) := (Views.refl z).ov2Line l true
    rw [hline.eq l, y.plimZero_zeroHold, State.modNrg_run]
  have hevent : Within 1028 v w := State.ovEvent_within v l _ _ 2 (by decide) (by decide) (by decide) (Within.refl v)
  have hzero : Within 1024 y z := State.plimZero_within y l (by decide) (Within.refl y)
  have hdep : z.depOn = s.depOn :=
    State.depOn_of_dep ((hzero.dep (by decide)).trans ((State.modRun_dep ..).trans (hevent.dep (by decide))))
  refine ⟨(hlast.rd hw _ _ _ _ (by decide)).trans (hshown.rd_wr hs (List.mem_singleton_self _)),
    (hlast.rd hw _ _ _ _ (by decide)).trans hevt,
    (hlast.rd hw _ _ _ _ (by decide)).trans (hv.rose_of_rose hs (List.mem_singleton_self _) hrose),
    (hlimit.rd hz _ _ _ _ (List.mem_singleton_self _)).trans (State.plimZero_shown hy l), hhold, fun hd => ?_⟩
  exact State.ov2Line_shown hz (hdep.trans hd) l true

/-- OV3 in effect (R274). -/
def State.ov3Crossed (s : State) (l : Lane) : State :=
  ((s.set (laneDie l) R.NRG_STATUS.OV3).ovEvent l R.NRG_STATUS.OV3_EVT R.NRG_OV_CNT.OV3 3).ov3Line l true

theorem exec_ov3Cross (hp : s.past l 11 = true) (hwas : s.on (laneDie l) R.NRG_STATUS.OV3 = false) :
    exec (.ov3Cross l) s = .next (if s.ovOut l 3 false then s.ov3Crossed l else s) := by
  refine congrArg Host.Outcome.next ?_
  rw [hp, hwas]
  rfl

theorem exec_ov3LinesInactive (hp : s.past l 11 = true) (hwas : s.on (laneDie l) R.NRG_STATUS.OV3 = true)
    (hout : s.ovOut l 3 true = false) :
    exec (.ov3LinesInactive l) s = .next ((s.clr (laneDie l) R.NRG_STATUS.OV3).ov3Line l false) := by
  refine congrArg Host.Outcome.next ?_
  rw [hp, hwas, hout]
  rfl

/-- An event of OV3 shows itself and counts and, with the Deputy present, holds the short circuit. -/
theorem State.ov3Crossed_shown (hs : s.regsOk = true) (l : Lane) : (s.ov3Crossed l).rd (laneDie l) R.NRG_STATUS.OV3 = 1 ∧
    (s.ov3Crossed l).rd (laneDie l) R.NRG_STATUS.OV3_EVT = 1 ∧ rose s (s.ov3Crossed l) (laneDie l) R.NRG_OV_CNT.OV3 ∧
    (s.depOn = true → (s.ov3Crossed l).rd .ds R.DSP_OV_STATUS.ASC_HOLD = 1 ∧ (s.ov3Crossed l).dep.asc3 = none) := by
  let v := s.set (laneDie l) R.NRG_STATUS.OV3
  let w := v.ovEvent l R.NRG_STATUS.OV3_EVT R.NRG_OV_CNT.OV3 3
  have hv : Spares [R.NRG_OV_CNT.OV3] s v := (Spares.refl s).wr _ _ _ _ _ (by decide)
  obtain ⟨hevt, hrose⟩ := State.ovEvent_shown (l := l) (evt := R.NRG_STATUS.OV3_EVT) (cnt := R.NRG_OV_CNT.OV3) 3 (hv.ok hs) rfl
    (by decide) (by decide)
  have hshown : Spares [R.NRG_STATUS.OV3] v w := (Spares.refl v).ovEvent (by decide) l
  have hw : w.regsOk = true := hshown.ok (hv.ok hs)
  have hline : Spares [R.NRG_STATUS.OV3, R.NRG_STATUS.OV3_EVT, R.NRG_OV_CNT.OV3] w (s.ov3Crossed l) :=
    (Spares.refl w).ov3Line (by decide) l true
  have hevent : Within 1028 v w := State.ovEvent_within v l _ _ 3 (by decide) (by decide) (by decide) (Within.refl v)
  have hdep : w.depOn = s.depOn := State.depOn_of_dep (hevent.dep (by decide))
  exact ⟨(hline.rd hw _ _ _ _ (by decide)).trans (hshown.rd_wr hs (List.mem_singleton_self _)),
    (hline.rd hw _ _ _ _ (by decide)).trans hevt,
    (hline.rd hw _ _ _ _ (by decide)).trans (hv.rose_of_rose hs (List.mem_singleton_self _) hrose),
    fun hd => State.ov3Line_on hw (hdep.trans hd) l⟩

/-- The end of the short circuit's hold (R274). -/
def State.ov3Released (s : State) (x : Nat) : State :=
  (((s.advTo (x + orOne (bits (s.rd .ds R.DSP_OV3.VALUE) 23 16) * ms)).modDep fun d => { d with asc3 := none }).clr .ds
    R.DSP_OV_STATUS.ASC_HOLD).ovApply

theorem exec_ov3HoldExpiry {x : Nat} (hd : s.depOn = true) (hx : s.dep.asc3 = some x) :
    exec .ov3HoldExpiry s = .next (s.ov3Released x) := by
  refine congrArg Host.Outcome.next ?_
  rw [hx]
  exact if_pos hd

/-- OV2 released takes its line back and, with no other line, the clamp. -/
theorem ov2_release (hs : s.regsOk = true) (hp : s.past l 11 = true) (hwas : s.on (laneDie l) R.NRG_STATUS.OV2 = true)
    (hout : s.ovOut l 2 true = false) : leads (.ov2Release l) s fun t => t.rd (laneDie l) R.NRG_STATUS.OV2 = 0 ∧
      (s.depOn = true → t.rdBit .ds R.DSP_OV_STATUS.OV2 l.idx.val = false ∧
        t.rd .ds R.DSP_OV_STATUS.CLAMP = b2n (s.rdBit .ds R.DSP_OV_STATUS.OV2 l.other.idx.val)) := by
  let v := s.clr (laneDie l) R.NRG_STATUS.OV2
  have hv : Spares [R.DSP_OV_STATUS.OV2] s v := (Spares.refl s).wr _ _ _ _ _ (by decide)
  have hline : Spares [R.NRG_STATUS.OV2] v (v.ov2Line l false) := (Spares.refl v).ov2Line (by decide) l false
  have hother : v.rdBit .ds R.DSP_OV_STATUS.OV2 l.other.idx.val = s.rdBit .ds R.DSP_OV_STATUS.OV2 l.other.idx.val :=
    congrArg (bit · _) (hv.rd hs _ _ _ _ (List.mem_singleton_self _))
  refine leads_of_exec (exec_ov2Release hp hwas hout) ⟨hline.rd_wr hs (List.mem_singleton_self _), fun hd => ?_⟩
  rw [← hother]
  exact State.ov2Line_shown (hv.ok hs) hd l false

/-- OV3 released leaves the short circuit held; the last line starts the Deputy's timer. -/
theorem ov3_linesInactive (hs : s.regsOk = true) (hp : s.past l 11 = true) (hwas : s.on (laneDie l) R.NRG_STATUS.OV3 = true)
    (hout : s.ovOut l 3 true = false) : leads (.ov3LinesInactive l) s fun t => t.rd (laneDie l) R.NRG_STATUS.OV3 = 0 ∧
      t.rd .ds R.DSP_OV_STATUS.ASC_HOLD = s.rd .ds R.DSP_OV_STATUS.ASC_HOLD ∧
      (s.depOn = true ∧ s.rdBit .ds R.DSP_OV_STATUS.OV3 l.idx.val = true →
        t.dep.asc3 = if s.rdBit .ds R.DSP_OV_STATUS.OV3 l.other.idx.val then s.dep.asc3 else some s.now) := by
  let v := s.clr (laneDie l) R.NRG_STATUS.OV3
  have hv : Spares [R.DSP_OV_STATUS.OV3, R.DSP_OV_STATUS.ASC_HOLD] s v := (Spares.refl s).wr _ _ _ _ _ (by decide)
  have hline : Spares [R.NRG_STATUS.OV3] v (v.ov3Line l false) := (Spares.refl v).ov3Line (by decide) l false
  have hbit : ∀ b, v.rdBit .ds R.DSP_OV_STATUS.OV3 b = s.rdBit .ds R.DSP_OV_STATUS.OV3 b := fun b =>
    congrArg (bit · b) (hv.rd hs _ _ _ _ (by decide))
  obtain ⟨hhold, htimer⟩ := State.ov3Line_off (hv.ok hs) l
  rw [hbit, hbit] at htimer
  exact leads_of_exec (exec_ov3LinesInactive hp hwas hout) ⟨hline.rd_wr hs (List.mem_singleton_self _),
    hhold.trans (hv.rd hs _ _ _ _ (by decide)), fun ⟨hd, hwas⟩ => htimer hd hwas⟩

/-- The hold ends with its timer stopped. -/
theorem State.ov3Released_shown (hs : s.regsOk = true) (x : Nat) : (s.ov3Released x).rd .ds R.DSP_OV_STATUS.ASC_HOLD = 0 ∧
    (s.ov3Released x).dep.asc3 = none ∧
    (s.ov3Released x).now = max s.now (x + orOne (bits (s.rd .ds R.DSP_OV3.VALUE) 23 16) * ms) := by
  let v := (s.advTo (x + orOne (bits (s.rd .ds R.DSP_OV3.VALUE) 23 16) * ms)).modDep fun d => { d with asc3 := none }
  have hv : v.regsOk = true := (((Spares.refl (fs := []) s).advTo _).modDep _).ok hs
  let w := v.clr .ds R.DSP_OV_STATUS.ASC_HOLD
  have happly : Spares [R.DSP_OV_STATUS.ASC_HOLD] w (s.ov3Released x) := (Spares.refl w).ovApply (by decide)
  have hdep : (s.ov3Released x).dep = w.dep := w.ovApply_dep
  have hnow : (s.ov3Released x).now = w.now := w.ovApply_now
  exact ⟨happly.rd_wr hv (List.mem_singleton_self _), congrArg DepSt.asc3 hdep, hnow.trans (State.advTo_now ..)⟩

/-- MP opened at once, counted and seen by the stages (R274). -/
def State.ov3Opened (s : State) (l : Lane) : State :=
  (((s.ctrOpen l ctrMP).inc (laneDie l) R.NRG_OV_CNT.OV3_OPEN).ctrWatch l).obcStep l

theorem exec_ov3ContactorOpen (ha : s.alive l = true) (hm : s.master = l) (hon : s.on (laneDie l) R.NRG_STATUS.OV3 = true)
    (hc : s.ctrClosed l ctrMP = true) (hi : s.iPack l < s.rd (laneDie l) R.NRG_REGEN.ACC_MIN * 2 ^ 30) :
    exec (.ov3ContactorOpen l) s = .next ((s.advTo ((s.run l).nrg.accLow.getD s.now + ms)).ov3Opened l) := by
  refine congrArg Host.Outcome.next (if_pos ?_)
  rw [ha, hon, hc, decide_eq_true hi, beq_iff_eq.2 hm]
  rfl

theorem State.ov3Opened_now (s : State) (l : Lane) : (s.ov3Opened l).now = s.now :=
  (State.obcStep_now ..).trans ((State.ctrWatch_now ..).trans ((State.wr_now ..).trans (State.ctrOpen_now ..)))

/-- The opening counts, and the switches of MP's output are open whatever opens after it. -/
theorem State.ov3Opened_shown (hs : s.regsOk = true) (hserved : s.ctrServed l ctrMP = true) :
    rose s (s.ov3Opened l) (laneDie l) R.NRG_OV_CNT.OV3_OPEN ∧ (s.ov3Opened l).soOff (s.ctrOut l ctrMP) := by
  let w := (s.ctrOpen l ctrMP).inc (laneDie l) R.NRG_OV_CNT.OV3_OPEN
  have hopened : Spares [R.NRG_OV_CNT.OV3_OPEN] s (s.ctrOpen l ctrMP) := (Spares.refl s).ctrOpen (by decide) l ctrMP
  have hopenedOk := hopened.ok hs
  have hcounted : Spares [R.NRG_OV_CNT.OV3_OPEN] w (s.ov3Opened l) :=
    ((Spares.refl w).ctrWatch (by decide) (by decide) (by decide) l).obcStep (by decide) (by decide) l
  have hwatch : Spares [R.DSP_SOk_STATUS.HS, R.DSP_SOk_STATUS.LS] (s.ctrOpen l ctrMP) (w.ctrWatch l) :=
    ((Spares.refl _).wr _ _ _ _ _ (by decide)).ctrWatch (by decide) (by decide) (by decide) l
  exact ⟨hopened.rose_of_rose hs (List.mem_singleton_self _) (hcounted.rose_inc hopenedOk (List.mem_singleton_self _)),
    (hwatch.staysOff.obcStep l).off hopenedOk (State.ctrOpen_off hs hserved)⟩

end

/-- Settles O31: each level from what its event shows and what its line does at the Deputy, and the contactor that OV3 opens from
the switches that stay open. -/
theorem overvoltageLevelsActInOrder : Obligations.OvervoltageLevelsActInOrder := by
  unfold Obligations.OvervoltageLevelsActInOrder
  refine ⟨?_, ?_, ?_, ?_, ?_, ?_, ?_⟩
  · intro s l on hs hp hwas
    refine leads_of_exec (exec_ov1Cross hp hwas) ⟨fun h => if_neg ?_, fun h => ?_⟩
    · rw [h]
      cases on <;> decide
    · rw [if_pos h]
      exact State.ov1Crossed_shown (canonical_regs hs) l on
  · intro s l hs hp hwas
    refine leads_of_exec (exec_ov2Cross hp hwas) ⟨fun h => if_neg ?_, fun h => ?_⟩
    · rw [h]
      exact Bool.false_ne_true
    · rw [if_pos h]
      exact State.ov2Crossed_shown (canonical_regs hs) l
  · intro s l hs hp hwas hout
    exact ov2_release (canonical_regs hs) hp hwas hout
  · intro s l hs hp hwas
    refine leads_of_exec (exec_ov3Cross hp hwas) ⟨fun h => if_neg ?_, fun h => ?_⟩
    · rw [h]
      exact Bool.false_ne_true
    · rw [if_pos h]
      exact State.ov3Crossed_shown (canonical_regs hs) l
  · intro s l hs hp hwas hout
    exact ov3_linesInactive (canonical_regs hs) hp hwas hout
  · intro s x hs hd hx
    exact leads_of_exec (exec_ov3HoldExpiry hd hx) (State.ov3Released_shown (canonical_regs hs) x)
  · intro s l hs ha hm hd hon hen hc hi
    have hserved : s.ctrServed l ctrMP = true := by
      unfold State.ctrServed
      rw [hd, hen]
      rfl
    obtain ⟨hrose, hhs, hls⟩ := State.ov3Opened_shown (s := s.advTo ((s.run l).nrg.accLow.getD s.now + ms)) (canonical_regs hs) hserved
    exact leads_of_exec (exec_ov3ContactorOpen ha hm hon hc hi) ⟨hrose, hhs, hls, State.ov3Opened_now ..⟩

end Sys2Proof.Machine
end

section
/-!
PROOFS. The parts of an opening sequence and of a weld test (R281, R282): what each writes, the sequence that it leaves and its instant.
-/
namespace Sys2Proof.Machine

section
variable {fs : List Fld} {s t u : State} {l : Lane} {c : Nat} {q : NrgSeq}

/-! ## What the parts write -/

theorem Spares.startPosCheck (h : Spares fs s t) (ha : apartAll seqCloseFlds fs = true) (l : Lane) :
    Spares fs s (t.startPosCheck l) := ((h.discharge ..).modNrg ..).seqGo (apartAll_mem ha (by decide)) ..

theorem Spares.startMnCheck (h : Spares fs s t) (ha : apartAll seqCloseFlds fs = true) (l : Lane) :
    Spares fs s (t.startMnCheck l) := ((h.discharge ..).modNrg ..).seqClose ha ..

theorem Spares.afterMn (h : Spares fs s t) (ha : apartAll seqCloseFlds fs = true) (l : Lane) : Spares fs s (t.afterMn l) :=
  .ite (h.startMnCheck ha l) (h.seqGo (apartAll_mem ha (by decide)) ..)

theorem Spares.startMn (h : Spares fs s t) (ha : apartAll seqCloseFlds fs = true) (l : Lane) : Spares fs s (t.startMn l) :=
  .ite ((h.ctrOpen (apartAll_left (apartAll_right ha)) ..).seqGo (apartAll_mem ha (by decide)) ..) (h.afterMn ha l)

theorem Spares.startMp (h : Spares fs s t) (ha : apartAll seqCloseFlds fs = true) (l : Lane) : Spares fs s (t.startMp l) :=
  have hpre := h.ctrOpen (apartAll_left (apartAll_right ha)) l ctrPRE
  .ite ((hpre.ctrOpen (apartAll_left (apartAll_right ha)) ..).seqGo (apartAll_mem ha (by decide)) ..) (hpre.startPosCheck ha l)

theorem State.startMp_now (s : State) (l : Lane) : (s.startMp l).now = s.now :=
  (State.startMp_within s l (msk := 274880005120) (by decide) (Within.refl s)).now_eq (by decide)

theorem State.startMn_now (s : State) (l : Lane) : (s.startMn l).now = s.now :=
  (State.startMn_within s l (msk := 274880005124) (by decide) (Within.refl s)).now_eq (by decide)

theorem State.weldEnd_now (s : State) (l : Lane) : (s.weldEnd l).now = s.now :=
  (State.weldEnd_within s l (msk := 274877907972) (by decide) (Within.refl s)).now_eq (by decide)

theorem State.weldFound_now (s : State) (l : Lane) (c : Nat) : (s.weldFound l c).now = s.now :=
  (State.weldFound_within s l c (msk := 2098180) (by decide) (Within.refl s)).now_eq (by decide)

/-! ## Contactors that the parts of a sequence leave -/

theorem State.ctr_of_dep (hd : t.dep = s.dep) (h : Spares [R.NRG_CTRc_CFG.SO] s t) (hs : s.regsOk = true) (l : Lane) (c : Nat) :
    t.ctr l c = s.ctr l c := by
  have hout : t.ctrOut l c = s.ctrOut l c := congrArg soIdx (h.rd hs _ _ _ _ (List.mem_singleton_self _))
  rw [State.ctr_of_out hout, hd]
  rfl

theorem State.ctrClosed_of_dep (hd : t.dep = s.dep) (h : Spares [R.NRG_CTRc_CFG.SO] s t) (hs : s.regsOk = true) (l : Lane) (c : Nat) :
    t.ctrClosed l c = s.ctrClosed l c := by
  unfold State.ctrClosed
  rw [State.ctr_of_dep hd h hs]

theorem State.seqGo_ctr (hs : s.regsOk = true) (p : SeqPhase) (n : Nat) (c : Nat) : (s.seqGo l p n).ctr l c = s.ctr l c :=
  State.ctr_of_dep (s.seqGo_dep l p n) ((Spares.refl s).seqGo (by decide) l p n) hs l c

/-- A closed contactor drops when it is opened after others have been. -/
theorem OnlyOpens.ctrOpen_drops (h : OnlyOpens s t) (hs : s.regsOk = true) (hserved : s.ctrServed l c = true)
    (hc : s.ctrClosed l c = true) : (t.ctrOpen l c).ctr l c = .drop := by
  rw [State.ctrOpen_ctr (h.regs.ok hs) ((h.ctrServed hs l c).trans hserved)]
  rcases h.ctr_eq hs l c with hctr | hctr <;> rw [hctr]
  · exact State.opened_of_closed hc
  · exact (CtrState.opened_opened _).trans (State.opened_of_closed hc)

/-- The precharge contactor opened leaves MP on another output. -/
theorem State.ctrOpen_pre_mp (hs : s.regsOk = true) (hne : s.ctrOut l ctrMP ≠ s.ctrOut l ctrPRE) :
    (s.ctrOpen l ctrPRE).ctr l ctrMP = s.ctr l ctrMP := by
  have hopens := s.ctrOpen_onlyOpens l ctrPRE
  rw [State.ctr_of_out (hopens.ctrOut hs l ctrMP)]
  change (s.ctrOpen1 l ctrPRE).dep.ctr[s.ctrOut l ctrMP] = _
  unfold State.ctrOpen1
  split
  · rw [(State.openSo_ctr ..).1, if_neg hne]
    rfl
  · rfl

/-! ## The current waited for (R281 steps 1 and 2) -/

theorem exec_openCurrentWaitEnd (hq : (s.run l).nrg.seq = some q) (hp : q.phase = .curWait) : exec (.openCurrentWaitEnd l) s = .next
      (if s.lowCurrent l then s.startMp l
      else (((s.advTo (q.since + s.rd (laneDie l) R.NRG_OPEN.T_WAIT * ms)).inc (laneDie l) R.NRG_CTRc_CNT.HOT_OPENS ctrMP).set
        (laneDie l) R.NRG_STATUS.HOT_OPEN).startMp l) := by
  refine congrArg Host.Outcome.next ?_
  rw [hq]
  exact if_pos hp

/-- A hot opening shows itself and counts. -/
theorem State.hotOpen_shown (hs : s.regsOk = true) :
    let t := ((s.inc (laneDie l) R.NRG_CTRc_CNT.HOT_OPENS ctrMP).set (laneDie l) R.NRG_STATUS.HOT_OPEN).startMp l
    t.rd (laneDie l) R.NRG_STATUS.HOT_OPEN = 1 ∧ rose s t (laneDie l) R.NRG_CTRc_CNT.HOT_OPENS ctrMP := by
  intro t
  let v := s.inc (laneDie l) R.NRG_CTRc_CNT.HOT_OPENS ctrMP
  have hv : v.regsOk = true := State.wr_regsOk _ _ _ _ _ _ hs
  have hshown : Spares [R.NRG_STATUS.HOT_OPEN] (v.set (laneDie l) R.NRG_STATUS.HOT_OPEN) t := (Spares.refl _).startMp (by decide) l
  have hcounted : Spares [R.NRG_CTRc_CNT.HOT_OPENS] v t := ((Spares.refl v).wr _ _ _ _ _ (by decide)).startMp (by decide) l
  exact ⟨hshown.rd_wr hv (List.mem_singleton_self _), hcounted.rose_inc hs (List.mem_singleton_self _)⟩

/-- MP opens when it is closed on an output of its own. -/
theorem State.startMp_opens (hs : s.regsOk = true) (hq : (s.run l).nrg.seq = some q) (hserved : s.ctrServed l ctrMP = true)
    (hc : s.ctrClosed l ctrMP = true) (hne : s.ctrOut l ctrMP ≠ s.ctrOut l ctrPRE) :
    SeqAt l 2 { q with phase := .openMp, since := s.now } (s.startMp l) ∧ (s.startMp l).ctr l ctrMP = .drop := by
  let v := s.ctrOpen l ctrPRE
  let w := v.ctrOpen l ctrMP
  have hv : v.ctrClosed l ctrMP = true := by
    unfold State.ctrClosed at hc ⊢
    rwa [State.ctrOpen_pre_mp hs hne]
  have hw : w.regsOk = true := (((Spares.refl (fs := []) s).ctrOpen (by decide) l ctrPRE).ctrOpen (by decide) l ctrMP).ok hs
  have hseq : (w.run l).nrg.seq = some q := ((((Views.refl s).ctrOpen l ctrPRE).ctrOpen l ctrMP : Views LaneRun.seq s w).eq l).trans hq
  have hgo : s.startMp l = w.seqGo l .openMp 2 := if_pos hv
  have hat := State.seqGo_at (n := 2) .openMp hw hseq (by decide)
  have hnow : w.now = s.now := (v.ctrOpen_now l ctrMP).trans (s.ctrOpen_now l ctrPRE)
  rw [hnow] at hat
  rw [hgo]
  exact ⟨hat, (State.seqGo_ctr hw ..).trans ((s.ctrOpen_onlyOpens l ctrPRE).ctrOpen_drops hs hserved hc)⟩

/-! ## The positive check (R281 step 3) -/

/-- The positive check begins with the link as measured. -/
theorem State.startPosCheck_at (hs : s.regsOk = true) (hq : (s.run l).nrg.seq = some q) :
    SeqAt l 3 { q with phase := .posCheck, since := s.now, v0 := s.vLink l } (s.startPosCheck l) := by
  let w := s.discharge l true
  let v := w.modNrg l fun n => { n with seq := n.seq.map fun q => { q with v0 := s.vLink l } }
  have hw : Views LaneRun.nrg s w := (Views.refl s).discharge aside_nrg l true
  have hv : v.regsOk = true := (((Spares.refl (fs := []) s).discharge l true).modNrg l _).ok hs
  have hseq : (v.run l).nrg.seq = some { q with v0 := s.vLink l } := by
    rw [State.modNrg_run, hw.eq l]
    exact congrArg (Option.map _) hq
  have hnow : v.now = s.now := (State.modRun_now ..).trans
    ((State.discharge_within s l true (msk := 0) (by decide) (Within.refl s)).now_eq (by decide))
  have hat := State.seqGo_at (n := 3) .posCheck hv hseq (by decide)
  rw [hnow] at hat
  exact hat

theorem State.startPosCheck_dep (s : State) (l : Lane) : (s.startPosCheck l).dep = s.dep :=
  (State.startPosCheck_within s l (msk := 1024) (by decide) (Within.refl s)).dep (by decide)

theorem State.startPosCheck_now (s : State) (l : Lane) : (s.startPosCheck l).now = s.now :=
  (State.startPosCheck_within s l (msk := 1024) (by decide) (Within.refl s)).now_eq (by decide)

/-- With MP open, the opening goes on with the positive check. -/
theorem State.startMp_checks (hs : s.regsOk = true) (hq : (s.run l).nrg.seq = some q) (hc : s.ctrClosed l ctrMP = false) :
    SeqAt l 3 { q with phase := .posCheck, since := s.now, v0 := s.vLink l } (s.startMp l) := by
  let v := s.ctrOpen l ctrPRE
  have hopens := s.ctrOpen_onlyOpens l ctrPRE
  have hv : v.ctrClosed l ctrMP = false := hopens.not_closed hs hc
  have hseq : (v.run l).nrg.seq = some q := (((Views.refl s).ctrOpen l ctrPRE : Views LaneRun.seq s v).eq l).trans hq
  have hlink : v.vLink l = s.vLink l :=
    Spares.vLink ((Spares.refl s).ctrOpen (by decide) l ctrPRE) hs ((Views.refl s).ctrOpen l ctrPRE) l
  have hgo : s.startMp l = v.startPosCheck l := if_neg (by rw [hv]; exact Bool.false_ne_true)
  have hat := State.startPosCheck_at (hopens.regs.ok hs) hseq
  have hnow : v.now = s.now := s.ctrOpen_now l ctrPRE
  rw [hlink, hnow] at hat
  rw [hgo]
  exact hat

/-! ## Welds (R281, R282) -/

/-- The fields that a weld found writes. -/
def weldFlds : List Fld := [R.DSP_WELD.WELDED, R.NRG_STATUS.WELD] ++ logFlds

theorem Spares.weldFound (h : Spares fs s t) (ha : apartAll weldFlds fs = true) (l : Lane) (c : Nat) : Spares fs s (t.weldFound l c) :=
  ((((h.modNrg ..).wrIn ha _ _ _ _ (by decide)).wrIn ha _ _ _ _ (by decide)).irq ..).each _ fun x y =>
    (Spares.refl x).log (apartAll_right ha) ..

/-- A weld found stands in the Deputy's record, in `WELD` and in the sequence. -/
theorem State.weldFound_shown (hs : s.regsOk = true) (hc : c < 6) : (s.weldFound l c).rdBit .ds R.DSP_WELD.WELDED c = true ∧
    (s.weldFound l c).rd (laneDie l) R.NRG_STATUS.WELD = 1 ∧
    ((s.weldFound l c).run l).nrg.seq = (s.run l).nrg.seq.map fun q => { q with welded := true } := by
  let v := s.modNrg l fun n => { n with seq := n.seq.map fun q => { q with welded := true } }
  let w := v.wrBit .ds R.DSP_WELD.WELDED c true
  have hv : v.regsOk = true := State.modNrg_regsOk hs
  have hrecord : Spares [R.DSP_WELD.WELDED] w (s.weldFound l c) :=
    (((Spares.refl w).wr _ _ _ _ _ (by decide)).irq ..).each _ fun x _ => (Spares.refl x).log (by decide) ..
  have hflag : Spares [R.NRG_STATUS.WELD] (w.set (laneDie l) R.NRG_STATUS.WELD) (s.weldFound l c) :=
    ((Spares.refl _).irq ..).each _ fun x _ => (Spares.refl x).log (by decide) ..
  have hseq : Views LaneRun.nrg v (s.weldFound l c) :=
    ((((Views.refl v).wr ..).wr ..).irq aside_nrg ..).each _ fun x _ => (Views.refl x).log aside_nrg ..
  refine ⟨hrecord.rdBit_wrBit hv (List.mem_singleton_self _) hc,
    hflag.rd_wr (State.wr_regsOk _ _ _ _ _ _ hv) (List.mem_singleton_self _), ?_⟩
  rw [hseq.eq l, State.modNrg_run]

/-- The end of an opening or of a weld test: with a weld `WELD_FOUND`, and otherwise `DONE`, which counts for a test. -/
theorem State.weldEnd_shown (hs : s.regsOk = true) (hq : (s.run l).nrg.seq = some q) :
    SeqEnded l (if q.welded then resWeldFound else resDone) (s.weldEnd l) ∧
      (q.cmd = 7 → q.welded = false → (s.weldEnd l).dep.weldTested = true) := by
  unfold State.weldEnd
  rw [hq]
  dsimp only
  cases hweld : q.welded with
  | true => exact ⟨State.seqEnd_ended hs hq (by decide), fun _ h => absurd h (by decide)⟩
  | false =>
    let v := s.when (q.cmd == 7) fun s => s.modDep fun d => { d with weldTested := true }
    have hv : v.regsOk = true := ((Spares.refl (fs := []) s).when _ fun x => (Spares.refl x).modDep _).ok hs
    have hseq : (v.run l).nrg.seq = some q :=
      (((Views.refl s).when _ fun x => (Views.refl x).modDep _ : Views LaneRun.seq s v).eq l).trans hq
    refine ⟨State.seqEnd_ended hv hseq (by decide), fun hcmd _ => ?_⟩
    have htested : v.dep.weldTested = true := by
      simp only [v, hcmd]
      rfl
    rw [if_neg Bool.false_ne_true, State.seqEnd_dep]
    exact htested

theorem Spares.weldEnd (h : Spares fs s t) (ha : apartAll endFlds fs = true) (l : Lane) : Spares fs s (t.weldEnd l) := by
  unfold State.weldEnd
  split
  · exact h
  · exact .ite (h.seqEnd ha ..) ((h.when _ fun x => (Spares.refl x).modDep _).seqEnd ha ..)

/-! ## The negative check (R281 steps 4 to 6) -/

/-- MN opens after a link that fell. -/
theorem State.startMn_opens (hs : s.regsOk = true) (hq : (s.run l).nrg.seq = some q) (hserved : s.ctrServed l ctrMN = true)
    (hc : s.ctrClosed l ctrMN = true) :
    SeqAt l 4 { q with phase := .openMn, since := s.now } (s.startMn l) ∧ (s.startMn l).ctr l ctrMN = .drop := by
  let w := s.ctrOpen l ctrMN
  have hw : w.regsOk = true := ((Spares.refl (fs := []) s).ctrOpen (by decide) l ctrMN).ok hs
  have hseq : (w.run l).nrg.seq = some q := (((Views.refl s).ctrOpen l ctrMN : Views LaneRun.seq s w).eq l).trans hq
  have hgo : s.startMn l = w.seqGo l .openMn 4 := if_pos hc
  have hat := State.seqGo_at (n := 4) .openMn hw hseq (by decide)
  have hnow : w.now = s.now := s.ctrOpen_now l ctrMN
  rw [hnow] at hat
  rw [hgo]
  exact ⟨hat, (State.seqGo_ctr hw ..).trans (State.ctrOpen_drops hs hserved hc)⟩

end

end Sys2Proof.Machine
end

section
/-!
PROOFS. The opening sequences, the weld tests and the weld record (R279, R281 to R283).
-/
namespace Sys2Proof.Machine

section
variable {fs : List Fld} {s t u : State} {l : Lane} {c cmd : Nat} {q : NrgSeq}

/-! ## A command that aborts what runs (R279) -/

/-- A command taken: it is shown, and a running sequence has ended `ABORTED`. -/
def State.taken (s : State) (l : Lane) (cmd : Nat) : State := (s.wr (laneDie l) R.NRG_CTR_RESULT.LAST_CMD cmd).seqEnd l resAborted

/-- The fields that a command taken writes. -/
def takenFlds : List Fld := R.NRG_CTR_RESULT.LAST_CMD :: endFlds

theorem Spares.taken (h : Spares fs s t) (ha : apartAll takenFlds fs = true) (l : Lane) (cmd : Nat) : Spares fs s (t.taken l cmd) :=
  (h.wrIn ha _ _ _ _ (List.mem_cons_self ..)).seqEnd (apartAll_right (gs := [R.NRG_CTR_RESULT.LAST_CMD]) ha) ..

theorem State.taken_dep (s : State) (l : Lane) (cmd : Nat) : (s.taken l cmd).dep = s.dep := State.seqEnd_dep ..

theorem State.taken_now (s : State) (l : Lane) (cmd : Nat) : (s.taken l cmd).now = s.now := State.seqEnd_now ..

theorem State.taken_onlyOpens (s : State) (l : Lane) (cmd : Nat) : OnlyOpens s (s.taken l cmd) :=
  .of_dep (s.taken_dep l cmd) ((Spares.refl s).taken (by decide) l cmd)

/-- The command shown stands where its field does. -/
theorem State.taken_shown (hs : s.regsOk = true) (hcmd : cmd < 16) (h : Spares [R.NRG_CTR_RESULT.LAST_CMD] (s.taken l cmd) t) :
    t.rd (laneDie l) R.NRG_CTR_RESULT.LAST_CMD = cmd :=
  ((((Spares.refl _).seqEnd (by decide) l resAborted).trans h).rd_wr hs (List.mem_singleton_self _)).trans (low_eq hcmd)

theorem State.taken_ctrClosed (s : State) (hs : s.regsOk = true) (l : Lane) (cmd c : Nat) :
    (s.taken l cmd).ctrClosed l c = s.ctrClosed l c :=
  State.ctrClosed_of_dep (s.taken_dep l cmd) ((Spares.refl s).taken (by decide) l cmd) hs l c

theorem State.ctrServed_of (hd : s.depOn = true) (hen : s.on (laneDie l) R.NRG_CTRc_CFG.EN c = true) : s.ctrServed l c = true := by
  unfold State.ctrServed
  rw [hd, hen]
  rfl

/-! ## `OPEN_MAIN` (R281) -/

theorem exec_openMain (hw : s.writable l = true) (hm : s.master = l) (hmode : mainMode (s.modeOf l) = true) (hcfg : s.nrgCfgErr l = false) :
    exec (.openMain l) s = .next (((s.taken l 2).clr (laneDie l) R.NRG_STATUS.NEG_UNTESTED).openMain l) :=
  congrArg Host.Outcome.next (State.ctrCommand_taken hw hm (.inl rfl) hmode hcfg)

/-- `OPEN_MAIN` begins with the limit at zero. -/
theorem State.openMain_begins (hs : s.regsOk = true) : SeqAt l 1 (.begun 2 .curWait s.now) (s.openMain l) ∧
    (s.openMain l).rd (laneDie l) R.NRG_CTR_RESULT.BUSY = 1 ∧ (s.openMain l).rd (laneDie l) R.NRG_REGEN_LIM.P = 0 := by
  let v := s.seqBegin l 2 .curWait 1
  let w := v.modNrg l fun n => { n with pNow := 0, qNow := 0 }
  let x := if s.rd (laneDie l) R.NRG_HVC_STATUS.STATE = hvcSoft ∨ s.rd (laneDie l) R.NRG_HVC_STATUS.STATE = hvcRun then w.hvcIset l
    else w
  have hv : v.regsOk = true := ((Spares.refl (fs := []) s).seqBegin (by decide) l 2 .curWait 1).ok hs
  have hx : Spares seqFlds v x :=
    .ite (((Spares.refl v).modNrg ..).wr _ _ _ _ _ (by decide)) ((Spares.refl v).modNrg ..)
  have hxSeq : Views LaneRun.seq v x := by
    have hw : Views LaneRun.seq v w := (Views.refl v).modNrg_seq l fun _ => rfl
    exact .ite (hw.wr ..) hw
  have hlast : Spares seqFlds v (s.openMain l) := hx.plimZero (by decide) l
  exact ⟨(State.seqBegin_at 2 .curWait hs (by decide)).stands hv (.of hlast (hxSeq.plimZero l)),
    (hlast.rd hv _ _ _ _ (by decide)).trans (State.seqBegin_busy 2 .curWait 1 hs), State.plimZero_shown (hx.ok hv) l⟩

/-! ## `WELD_CHECK_END` (R281) -/

/-- A positive weld lies in MP or PRE, as a free value decides. -/
def State.posWelded (s : State) (l : Lane) (x : Nat) : State :=
  ((s.advTo x).free 1).2.weldFound l (if ((s.advTo x).free 1).1 = 0 then ctrMP else ctrPRE)

/-- The negative check's end: a rise is a weld of MN, and the discharge is over. -/
def State.negChecked (s : State) (l : Lane) (rise : Bool) (x : Nat) : State :=
  if rise then s.weldFound l ctrMN else s.advTo x

theorem exec_weldCheckEnd_pos (hq : (s.run l).nrg.seq = some q) (hp : q.phase = .posCheck) : exec (.weldCheckEnd l) s = .next
      (if s.rd (laneDie l) R.NRG_WELD.DV * 2 ^ 30 ≤ q.v0 - s.vLink l then s.startMn l
      else (s.posWelded l (q.since + orOne (s.rd (laneDie l) R.NRG_WELD.T_CHK) * 10 * ms)).startMn l) := by
  refine congrArg Host.Outcome.next ?_
  rw [hq]
  dsimp only
  rw [hp]
  rfl

theorem exec_weldCheckEnd_wait (hq : (s.run l).nrg.seq = some q) (hp : q.phase = .negWait)
    (hv : s.rd (laneDie l) R.NRG_WELD.V_SAFE * 2 ^ 30 < s.vLink l) : exec (.weldCheckEnd l) s = .next
      (((s.advTo (q.since + orOne (s.rd (laneDie l) R.NRG_WELD.T_CHK) * 10 * ms)).set (laneDie l)
        R.NRG_STATUS.NEG_UNTESTED).weldEnd l) := by
  refine congrArg Host.Outcome.next ?_
  rw [hq]
  dsimp only
  rw [hp]
  exact if_neg (not_le.2 hv)

theorem exec_weldCheckEnd_mn (hq : (s.run l).nrg.seq = some q) (hp : q.phase = .mnCheck) : exec (.weldCheckEnd l) s = .next
      (((s.negChecked l (decide ((s.rd (laneDie l) R.NRG_WELD.DV * 2 ^ 30 : Int) < s.vLink l - q.v0))
        (q.since + orOne (s.rd (laneDie l) R.NRG_WELD.T_CHK) * 10 * ms)).ctrOpen l ctrPRE).weldEnd l) := by
  refine congrArg Host.Outcome.next ?_
  rw [hq]
  dsimp only
  rw [hp]
  unfold State.negChecked
  simp only [decide_eq_true_eq]

/-- A link that did not fall records a weld of MP or PRE. -/
theorem State.posWelded_shown (hs : s.regsOk = true) (l : Lane) (x : Nat) :
    let t := (s.posWelded l x).startMn l
    t.rd (laneDie l) R.NRG_STATUS.WELD = 1 ∧
      (t.rdBit .ds R.DSP_WELD.WELDED ctrMP = true ∨ t.rdBit .ds R.DSP_WELD.WELDED ctrPRE = true) ∧ t.now = max s.now x := by
  intro t
  let v := ((s.advTo x).free 1).2
  let k := if ((s.advTo x).free 1).1 = 0 then ctrMP else ctrPRE
  have hk : k = ctrMP ∨ k = ctrPRE := ite_eq_or_eq ..
  have hlt : k < 6 := by rcases hk with h | h <;> rw [h] <;> decide
  have hv : Spares [R.DSP_WELD.WELDED] s v := ((Spares.refl s).advTo x).of_regs rfl
  have hw : (v.weldFound l k).regsOk = true := ((Spares.refl (fs := []) v).weldFound (by decide) l k).ok (hv.ok hs)
  obtain ⟨hbit, hweld, -⟩ := State.weldFound_shown (l := l) (hv.ok hs) hlt
  have hlast : Spares [R.DSP_WELD.WELDED, R.NRG_STATUS.WELD] (v.weldFound l k) t := (Spares.refl _).startMn (by decide) l
  have hrecord : t.rdBit .ds R.DSP_WELD.WELDED k = true := (congrArg (bit · k) (hlast.rd hw _ _ _ _ (by decide))).trans hbit
  refine ⟨(hlast.rd hw _ _ _ _ (by decide)).trans hweld, hk.imp (fun h : k = ctrMP => h ▸ hrecord) fun h : k = ctrPRE => h ▸ hrecord, ?_⟩
  exact (State.startMn_now ..).trans ((State.weldFound_now ..).trans (State.advTo_now ..))

/-- The negative check ends the sequence, with a weld of MN after a rise. -/
theorem State.negChecked_ends (hs : s.regsOk = true) (hq : (s.run l).nrg.seq = some q) (rise : Bool) (x : Nat) :
    let t := ((s.negChecked l rise x).ctrOpen l ctrPRE).weldEnd l
    SeqEnded l (if q.welded || rise then resWeldFound else resDone) t ∧
      (rise = true → t.rdBit .ds R.DSP_WELD.WELDED ctrMN = true ∧ t.rd (laneDie l) R.NRG_STATUS.WELD = 1 ∧ t.now = s.now) ∧
      (rise = false → t.now = max s.now x ∧ (q.cmd = 7 → q.welded = false → t.dep.weldTested = true)) := by
  intro t
  let v := s.negChecked l rise x
  have hnow : t.now = v.now := (State.weldEnd_now ..).trans (State.ctrOpen_now ..)
  have hopen : Spares [] v (v.ctrOpen l ctrPRE) := (Spares.refl v).ctrOpen (by decide) l ctrPRE
  have hseq : ((v.ctrOpen l ctrPRE).run l).nrg.seq = (v.run l).nrg.seq :=
    ((Views.refl v).ctrOpen l ctrPRE : Views LaneRun.seq v _).eq l
  cases rise with
  | true =>
    obtain ⟨hbit, hweld, hmarked⟩ := State.weldFound_shown (l := l) hs (c := ctrMN) (by decide)
    have hv : v.regsOk = true := ((Spares.refl (fs := []) s).weldFound (by decide) l ctrMN).ok hs
    rw [hq] at hmarked
    have hlast : Spares [R.DSP_WELD.WELDED, R.NRG_STATUS.WELD] v t :=
      ((Spares.refl v).ctrOpen (by decide) l ctrPRE).weldEnd (by decide) l
    have hended := (State.weldEnd_shown (hopen.ok hv) (hseq.trans hmarked)).1
    rw [if_pos rfl] at hended
    rw [Bool.or_true, if_pos rfl]
    exact ⟨hended, fun _ => ⟨(congrArg (bit · ctrMN) (hlast.rd hv _ _ _ _ (by decide))).trans hbit,
      (hlast.rd hv _ _ _ _ (by decide)).trans hweld, hnow.trans (State.weldFound_now ..)⟩, fun h => absurd h (by decide)⟩
  | false =>
    have hv : v.regsOk = true := hs
    have hrun : (v.run l).nrg.seq = some q := (((Views.refl s).advTo x : Views LaneRun.seq s v).eq l).trans hq
    obtain ⟨hended, htested⟩ := State.weldEnd_shown (hopen.ok hv) (hseq.trans hrun)
    rw [Bool.or_false]
    exact ⟨hended, fun h => absurd h (by decide), fun _ => ⟨hnow.trans (State.advTo_now ..), htested⟩⟩

/-- A link above `V_SAFE` leaves MN untested. -/
theorem State.negUntested_ends (hs : s.regsOk = true) (hq : (s.run l).nrg.seq = some q) (x : Nat) :
    let t := ((s.advTo x).set (laneDie l) R.NRG_STATUS.NEG_UNTESTED).weldEnd l
    SeqEnded l (if q.welded then resWeldFound else resDone) t ∧ t.rd (laneDie l) R.NRG_STATUS.NEG_UNTESTED = 1 ∧
      t.now = max s.now x ∧ (q.cmd = 7 → q.welded = false → t.dep.weldTested = true) := by
  intro t
  let v := (s.advTo x).set (laneDie l) R.NRG_STATUS.NEG_UNTESTED
  have hv : v.regsOk = true := State.wr_regsOk _ _ _ _ _ _ hs
  have hseq : (v.run l).nrg.seq = some q := ((((Views.refl s).advTo x).wr .. : Views LaneRun.seq s v).eq l).trans hq
  have hlast : Spares [R.NRG_STATUS.NEG_UNTESTED] v t := (Spares.refl v).weldEnd (by decide) l
  obtain ⟨hended, htested⟩ := State.weldEnd_shown hv hseq
  exact ⟨hended, hlast.rd_wr hs (List.mem_singleton_self _), (State.weldEnd_now ..).trans (State.advTo_now ..), htested⟩

/-! ## `WELD_TEST` and `CLEAR_WELD` (R281, R282) -/

/-- A main contactor is closed. -/
def State.mainClosed (s : State) (l : Lane) : Bool := s.ctrClosed l ctrMP || s.ctrClosed l ctrMN || s.ctrClosed l ctrPRE

/-- A test of open contactors, once its command is shown. -/
def State.weldTestBegun (s : State) (l : Lane) : State :=
  (((s.wr (laneDie l) R.NRG_CTR_RESULT.LAST_CMD 7).clr (laneDie l) R.NRG_STATUS.NEG_UNTESTED).seqBegin l 7 .posCheck 3).startPosCheck l

theorem exec_weldTest (hs : s.regsOk = true) (hw : s.writable l = true) (hm : s.master = l) (hidle : (s.run l).nrg.seq = none)
    (hmode : mainMode (s.modeOf l) = true) (hcfg : s.nrgCfgErr l = false) : exec (.weldTest l) s = .next
      (if s.mainClosed l then (s.wr (laneDie l) R.NRG_CTR_RESULT.LAST_CMD 7).cmdRefuse l resMode else s.weldTestBegun l) := by
  have hclosed : (s.wr (laneDie l) R.NRG_CTR_RESULT.LAST_CMD 7).mainClosed l = s.mainClosed l := by
    have hstands := State.ctrClosed_of_dep (s := s) (t := s.wr (laneDie l) R.NRG_CTR_RESULT.LAST_CMD 7) rfl
      ((Spares.refl s).wr _ _ _ _ _ (by decide)) hs l
    unfold State.mainClosed
    rw [hstands, hstands, hstands]
  rw [← hclosed]
  exact congrArg Host.Outcome.next (State.ctrCommand_idle hw hm hidle hmode hcfg)

/-- A test of open contactors begins with the positive check. -/
theorem State.weldTest_begins (hs : s.regsOk = true) :
    SeqAt l 3 { cmd := 7, phase := .posCheck, since := s.now, v0 := s.vLink l, welded := false } (s.weldTestBegun l) ∧
      (s.weldTestBegun l).rd (laneDie l) R.NRG_CTR_RESULT.BUSY = 1 := by
  let v := (s.wr (laneDie l) R.NRG_CTR_RESULT.LAST_CMD 7).clr (laneDie l) R.NRG_STATUS.NEG_UNTESTED
  let w := v.seqBegin l 7 .posCheck 3
  have hv : v.regsOk = true := State.wr_regsOk _ _ _ _ _ _ (State.wr_regsOk _ _ _ _ _ _ hs)
  have hvolts : Spares voltageFlds s w := ((((Spares.refl s).wr _ _ _ _ _ (by decide)).wr _ _ _ _ _ (by decide)).seqBegin (by decide) ..)
  have hce : Views LaneRun.ce s w := (((Views.refl s).wr ..).wr ..).seqBegin ..
  have hw : w.regsOk = true := hvolts.ok hs
  have hat := State.startPosCheck_at hw (State.seqBegin_at 7 .posCheck hv (by decide)).seq
  have hnow : w.now = s.now := State.seqBegin_now ..
  rw [hvolts.vLink hs hce l, hnow] at hat
  have hbusy : Spares [R.NRG_CTR_RESULT.BUSY] w (s.weldTestBegun l) := ((Spares.refl w).discharge ..).modNrg .. |>.seqGo (by decide) ..
  exact ⟨hat, (hbusy.rd hw _ _ _ _ (List.mem_singleton_self _)).trans (State.seqBegin_busy 7 .posCheck 3 hv)⟩

/-- The record cleared. -/
theorem State.weldCleared_shown (hs : s.regsOk = true) (l : Lane) :
    let t := ((s.wr (laneDie l) R.NRG_CTR_RESULT.LAST_CMD 8).wr .ds R.DSP_WELD.WELDED 0).cmdRefuse l resDone
    t.rd .ds R.DSP_WELD.WELDED = 0 ∧ t.rd (laneDie l) R.NRG_CTR_RESULT.RESULT = resDone := by
  intro t
  have hv : (s.wr (laneDie l) R.NRG_CTR_RESULT.LAST_CMD 8).regsOk = true := State.wr_regsOk _ _ _ _ _ _ hs
  have hcleared : Spares [R.DSP_WELD.WELDED] ((s.wr (laneDie l) R.NRG_CTR_RESULT.LAST_CMD 8).wr .ds R.DSP_WELD.WELDED 0) t :=
    (Spares.refl _).wr _ _ _ _ _ (by decide)
  exact ⟨hcleared.rd_wr hv (List.mem_singleton_self _), State.cmdRefuse_result (State.wr_regsOk _ _ _ _ _ _ hv) (by decide)⟩

/-- The record as it was. -/
theorem State.weldKept_shown (hs : s.regsOk = true) (l : Lane) :
    let t := (s.wr (laneDie l) R.NRG_CTR_RESULT.LAST_CMD 8).cmdRefuse l resWeld
    t.rd .ds R.DSP_WELD.WELDED = s.rd .ds R.DSP_WELD.WELDED ∧ t.rd (laneDie l) R.NRG_CTR_RESULT.RESULT = resWeld := by
  intro t
  have hkept : Spares [R.DSP_WELD.WELDED] s t := ((Spares.refl s).wr _ _ _ _ _ (by decide)).wr _ _ _ _ _ (by decide)
  exact ⟨hkept.rd hs _ _ _ _ (List.mem_singleton_self _), State.cmdRefuse_result (State.wr_regsOk _ _ _ _ _ _ hs) (by decide)⟩

theorem exec_clearWeld (hs : s.regsOk = true) (hw : s.writable l = true) (hm : s.master = l) (hidle : (s.run l).nrg.seq = none)
    (hcfg : s.nrgCfgErr l = false) : exec (.clearWeld l) s = .next
      (if s.modeOf l = modeService ∧ s.depOn = true ∧ s.dep.weldTested = true then
        ((s.wr (laneDie l) R.NRG_CTR_RESULT.LAST_CMD 8).wr .ds R.DSP_WELD.WELDED 0).cmdRefuse l resDone
      else (s.wr (laneDie l) R.NRG_CTR_RESULT.LAST_CMD 8).cmdRefuse l resWeld) := by
  have hmode : (s.wr (laneDie l) R.NRG_CTR_RESULT.LAST_CMD 8).modeOf l = s.modeOf l :=
    ((Spares.refl (fs := [R.CFG_MODE.MODE]) s).wr _ _ _ _ _ (by decide)).rd hs _ _ _ _ (List.mem_singleton_self _)
  refine congrArg Host.Outcome.next ((State.ctrCommand_idle hw hm hidle rfl hcfg).trans ?_)
  rw [hmode]
  simp only [Bool.and_eq_true, beq_iff_eq, and_assoc]
  rfl

/-! ## `OPEN_DC` and `OPEN_AC` (R279, R283) -/

theorem State.seqBegin_onlyOpens (s : State) (l : Lane) (cmd : Nat) (p : SeqPhase) (n : Nat) : OnlyOpens s (s.seqBegin l cmd p n) :=
  .of_dep ((s.seqBegin_ground l cmd p n).dep) ((Spares.refl s).seqBegin (by decide) ..)

/-- The fields that the opening of the DC-charge contactors or of the AC relay writes. -/
def openFlds : List Fld := [R.NRG_CTR_RESULT.BUSY, R.NRG_CTR_RESULT.STEP] ++ (soFlds ++ endFlds)

theorem Spares.openDc (h : Spares fs s t) (ha : apartAll openFlds fs = true) (l : Lane) : Spares fs s (t.openDc l) :=
  have hso := apartAll_left (apartAll_right ha)
  have hopened := ((h.seqBegin (apartAll_left ha) l 4 .dcOpen 1).ctrOpen hso l ctrDCP).ctrOpen hso l ctrDCN
  .ite hopened (hopened.seqEnd (apartAll_right (apartAll_right ha)) ..)

theorem Spares.openAc (h : Spares fs s t) (ha : apartAll openFlds fs = true) (l : Lane) : Spares fs s (t.openAc l) :=
  have hopened := (h.seqBegin (apartAll_left ha) l 6 .acOpen 1).ctrOpen (apartAll_left (apartAll_right ha)) l ctrACR
  .ite hopened (hopened.seqEnd (apartAll_right (apartAll_right ha)) ..)

/-- What shows a sequence that has begun stands as contactors are opened. -/
theorem State.seqBegin_stands (hs : s.regsOk = true) (cmd : Nat) (p : SeqPhase) (h : Spares seqFlds (s.seqBegin l cmd p 1) t)
    (hv : Views LaneRun.seq (s.seqBegin l cmd p 1) t) :
    SeqAt l 1 (.begun cmd p s.now) t ∧ t.rd (laneDie l) R.NRG_CTR_RESULT.BUSY = 1 := by
  have hok : (s.seqBegin l cmd p 1).regsOk = true := ((Spares.refl (fs := []) s).seqBegin (by decide) ..).ok hs
  exact ⟨(State.seqBegin_at cmd p hs (by decide)).stands hok (.of h hv),
    (h.rd hok _ _ _ _ (by decide)).trans (State.seqBegin_busy cmd p 1 hs)⟩

/-- The DC-charge contactors opened. -/
def State.dcOpened (s : State) (l : Lane) : State := ((s.seqBegin l 4 .dcOpen 1).ctrOpen l ctrDCP).ctrOpen l ctrDCN

/-- The AC relay opened. -/
def State.acOpened (s : State) (l : Lane) : State := (s.seqBegin l 6 .acOpen 1).ctrOpen l ctrACR

theorem State.dcOpened_onlyOpens (s : State) (l : Lane) : OnlyOpens s (s.dcOpened l) :=
  ((s.seqBegin_onlyOpens ..).trans (State.ctrOpen_onlyOpens ..)).trans (State.ctrOpen_onlyOpens ..)

theorem State.acOpened_onlyOpens (s : State) (l : Lane) : OnlyOpens s (s.acOpened l) :=
  (s.seqBegin_onlyOpens ..).trans (State.ctrOpen_onlyOpens ..)

theorem State.dcOpened_stands (hs : s.regsOk = true) :
    SeqAt l 1 (.begun 4 .dcOpen s.now) (s.dcOpened l) ∧ (s.dcOpened l).rd (laneDie l) R.NRG_CTR_RESULT.BUSY = 1 :=
  State.seqBegin_stands hs 4 .dcOpen (((Spares.refl _).ctrOpen (by decide) ..).ctrOpen (by decide) ..)
    (((Views.refl _).ctrOpen ..).ctrOpen ..)

theorem State.acOpened_stands (hs : s.regsOk = true) :
    SeqAt l 1 (.begun 6 .acOpen s.now) (s.acOpened l) ∧ (s.acOpened l).rd (laneDie l) R.NRG_CTR_RESULT.BUSY = 1 :=
  State.seqBegin_stands hs 6 .acOpen ((Spares.refl _).ctrOpen (by decide) ..) ((Views.refl _).ctrOpen ..)

/-- A closed DCP drops, and the sequence waits for it. -/
theorem State.openDc_drops (hs : s.regsOk = true) (hserved : s.ctrServed l ctrDCP = true) (hc : s.ctrClosed l ctrDCP = true) :
    SeqAt l 1 (.begun 4 .dcOpen s.now) (s.openDc l) ∧ (s.openDc l).rd (laneDie l) R.NRG_CTR_RESULT.BUSY = 1 ∧
      (s.openDc l).ctr l ctrDCP = .drop := by
  have hbegun := s.seqBegin_onlyOpens l 4 .dcOpen 1
  have hfirst := hbegun.trans (State.ctrOpen_onlyOpens _ l ctrDCP)
  have hdrop : (s.dcOpened l).ctr l ctrDCP = .drop :=
    (State.ctrOpen_onlyOpens _ l ctrDCN).ctr_drop (hfirst.regs.ok hs) (hbegun.ctrOpen_drops hs hserved hc)
  have hopen : s.openDc l = s.dcOpened l := if_pos (.inl hdrop)
  obtain ⟨hat, hbusy⟩ := State.dcOpened_stands (l := l) hs
  rw [hopen]
  exact ⟨hat, hbusy, hdrop⟩

/-- A closed ACR drops, and the sequence waits for it. -/
theorem State.openAc_drops (hs : s.regsOk = true) (hserved : s.ctrServed l ctrACR = true) (hc : s.ctrClosed l ctrACR = true) :
    (s.openAc l).rd (laneDie l) R.NRG_CTR_RESULT.BUSY = 1 ∧ (s.openAc l).ctr l ctrACR = .drop := by
  have hdrop : (s.acOpened l).ctr l ctrACR = .drop := (s.seqBegin_onlyOpens l 6 .acOpen 1).ctrOpen_drops hs hserved hc
  have hopen : s.openAc l = s.acOpened l := if_pos hdrop
  rw [hopen]
  exact ⟨(State.acOpened_stands hs).2, hdrop⟩

/-- With both DC-charge contactors open there is nothing to wait for. -/
theorem State.openDc_done (hs : s.regsOk = true) (hp : s.ctr l ctrDCP = .isOpen) (hn : s.ctr l ctrDCN = .isOpen) :
    SeqEnded l resDone (s.openDc l) := by
  have hopens := s.dcOpened_onlyOpens l
  have hctr : ∀ c, s.ctr l c = .isOpen → (s.dcOpened l).ctr l c = .isOpen := fun c h =>
    (hopens.ctr_stands hs (by rw [h]; rfl)).trans h
  have hdone : s.openDc l = (s.dcOpened l).seqEnd l resDone := if_neg (by
    change ¬((s.dcOpened l).ctr l ctrDCP = .drop ∨ (s.dcOpened l).ctr l ctrDCN = .drop)
    rw [hctr _ hp, hctr _ hn]
    decide)
  rw [hdone]
  exact State.seqEnd_ended (hopens.regs.ok hs) (State.dcOpened_stands hs).1.seq (by decide)

/-- With ACR open there is nothing to wait for. -/
theorem State.openAc_done (hs : s.regsOk = true) (hc : s.ctr l ctrACR = .isOpen) : SeqEnded l resDone (s.openAc l) := by
  have hopens := s.acOpened_onlyOpens l
  have hctr : (s.acOpened l).ctr l ctrACR = .isOpen := (hopens.ctr_stands hs (by rw [hc]; rfl)).trans hc
  have hdone : s.openAc l = (s.acOpened l).seqEnd l resDone := if_neg (by
    change ¬(s.acOpened l).ctr l ctrACR = .drop
    rw [hctr]
    decide)
  rw [hdone]
  exact State.seqEnd_ended (hopens.regs.ok hs) (State.acOpened_stands hs).1.seq (by decide)

theorem exec_openDc (hw : s.writable l = true) (hm : s.master = l) (hmode : s.dcMode l = true) (hcfg : s.nrgCfgErr l = false) :
    exec (.openDc l) s = .next ((s.taken l 4).openDc l) :=
  congrArg Host.Outcome.next (State.ctrCommand_taken hw hm (.inl rfl) hmode hcfg)

theorem exec_openAc (hw : s.writable l = true) (hm : s.master = l) (hmode : s.acMode l = true) (hcfg : s.nrgCfgErr l = false) :
    exec (.openAc l) s = .next ((s.taken l 6).openAc l) :=
  congrArg Host.Outcome.next (State.ctrCommand_taken hw hm (.inl rfl) hmode hcfg)

/-! ## `DC_OVERCURRENT` (R283) -/

/-- An opening of the DC-charge contactors that nothing commanded: the running sequence ends before the command is shown. -/
def State.dcForced (s : State) (l : Lane) : State := (s.seqEnd l resAborted).wr (laneDie l) R.NRG_CTR_RESULT.LAST_CMD 4

theorem exec_dcOvercurrent (ha : s.alive l = true) (hm : s.master = l) (hc : s.ctrClosed l ctrDCP = true)
    (hi : s.rd (laneDie l) R.NRG_DC.I_DC_MAX * 2 ^ 30 < absI (s.iPack l)) : exec (.dcOvercurrent l) s = .next
      (((s.advTo ((s.run l).nrg.dcHigh.getD s.now + 100 * ms)).dcForced l).openDc l) := by
  refine congrArg Host.Outcome.next (if_pos ?_)
  rw [ha, hc, decide_eq_true hi, beq_iff_eq.2 hm]
  rfl

theorem State.dcForced_onlyOpens (s : State) (l : Lane) : OnlyOpens s (s.dcForced l) :=
  .of_dep (s.seqEnd_dep l resAborted) (((Spares.refl s).seqEnd (by decide) l resAborted).wr _ _ _ _ _ (by decide))

theorem State.openDc_now (s : State) (l : Lane) : (s.openDc l).now = s.now :=
  (State.openDc_within s l (msk := 274880005124) (by decide) (Within.refl s)).now_eq (by decide)

/-- An overcurrent drops a closed DCP. -/
theorem State.dcForced_opens (hs : s.regsOk = true) (hserved : s.ctrServed l ctrDCP = true) (hc : s.ctrClosed l ctrDCP = true) :
    let t := (s.dcForced l).openDc l
    t.rd (laneDie l) R.NRG_CTR_RESULT.BUSY = 1 ∧ t.rd (laneDie l) R.NRG_CTR_RESULT.LAST_CMD = 4 ∧ t.ctr l ctrDCP = .drop ∧
      t.now = s.now := by
  intro t
  have hopens := s.dcForced_onlyOpens l
  have hdep : (s.dcForced l).dep = s.dep := s.seqEnd_dep l resAborted
  have hclosed : (s.dcForced l).ctrClosed l ctrDCP = true :=
    (State.ctrClosed_of_dep hdep (hopens.regs.mono (by decide)) hs l ctrDCP).trans hc
  obtain ⟨-, hbusy, hdrop⟩ := State.openDc_drops (hopens.regs.ok hs) ((hopens.ctrServed hs ..).trans hserved) hclosed
  have hended : (s.seqEnd l resAborted).regsOk = true := ((Spares.refl (fs := []) s).seqEnd (by decide) l resAborted).ok hs
  have hshown : Spares [R.NRG_CTR_RESULT.LAST_CMD] (s.dcForced l) t := (Spares.refl _).openDc (by decide) l
  exact ⟨hbusy, hshown.rd_wr hended (List.mem_singleton_self _), hdrop, (State.openDc_now ..).trans (State.seqEnd_now ..)⟩

/-! ## A contact has opened (R278, R281) -/

/-- The contact counts as open before the sequence sees it. -/
def State.dropEnded (s : State) (l : Lane) (c : Nat) : State :=
  (s.advTo (s.dep.ctrAt[s.ctrOut l c] + s.rd (laneDie l) R.NRG_CTRc_CFG.T_DROP c * ms)).modDep fun d =>
    { d with ctr := upd d.ctr (s.ctrOut l c) fun _ => .isOpen }

theorem exec_contactorDropEnd {c : Fin 6} (ha : s.alive l = true) (hen : s.on (laneDie l) R.NRG_CTRc_CFG.EN c = true)
    (hc : s.ctr l c = .drop) : exec (.contactorDropEnd l c) s = .next ((s.dropEnded l c).seqDropped l c) := by
  have hdrops : (s.dep.ctr[s.ctrOut l c] == CtrState.drop) = true := beq_iff_eq.2 hc
  refine congrArg Host.Outcome.next (if_pos ?_)
  rw [ha, hen, hdrops]
  rfl

theorem State.dropEnded_ctr (s : State) (l : Lane) (c : Nat) : (s.dropEnded l c).ctr l c = .isOpen := by
  have hout : (s.dropEnded l c).ctrOut l c = s.ctrOut l c := rfl
  rw [State.ctr_of_out hout]
  exact (upd_get ..).trans (if_pos rfl)

theorem State.dropEnded_stands (s : State) (l : Lane) (c : Nat) : Spares fs s (s.dropEnded l c) :=
  ((Spares.refl s).advTo _).modDep _

theorem State.dropEnded_seq (s : State) (l : Lane) (c : Nat) : ((s.dropEnded l c).run l).nrg.seq = (s.run l).nrg.seq :=
  (((Views.refl s).advTo _).modDep _ : Views LaneRun.seq s (s.dropEnded l c)).eq l

theorem State.seqDropped_now (s : State) (l : Lane) (c : Nat) : (s.seqDropped l c).now = s.now :=
  (State.seqDropped_within s l c (msk := 274880005124) (by decide) (Within.refl s)).now_eq (by decide)

theorem State.seqDropped_idle (h : (s.run l).nrg.seq = none) : s.seqDropped l c = s := by
  unfold State.seqDropped
  rw [h]

theorem State.seqDropped_mp (hq : (s.run l).nrg.seq = some q) (hp : q.phase = .openMp) : s.seqDropped l ctrMP = s.startPosCheck l := by
  unfold State.seqDropped
  rw [hq]
  dsimp only
  rw [hp]
  rfl

theorem State.seqDropped_acr (hq : (s.run l).nrg.seq = some q) (hp : q.phase = .acOpen) :
    s.seqDropped l ctrACR = s.seqEnd l resDone := by
  unfold State.seqDropped
  rw [hq]
  dsimp only
  rw [hp]
  rfl

/-- Once MP has opened, the positive check begins. -/
theorem State.dropEnded_checks (hs : s.regsOk = true) (hq : (s.run l).nrg.seq = some q) (hp : q.phase = .openMp) :
    let t := (s.dropEnded l ctrMP).seqDropped l ctrMP
    t.ctr l ctrMP = .isOpen ∧ SeqAt l 3 { q with phase := .posCheck, since := t.now, v0 := s.vLink l } t := by
  intro t
  let v := s.dropEnded l ctrMP
  have hvolts : Spares voltageFlds s v := s.dropEnded_stands l ctrMP
  have hv : v.regsOk = true := hvolts.ok hs
  have hseq : (v.run l).nrg.seq = some q := (s.dropEnded_seq l ctrMP).trans hq
  have hgo : t = v.startPosCheck l := State.seqDropped_mp hseq hp
  have hat := State.startPosCheck_at hv hseq
  have hce : Views LaneRun.ce s v := ((Views.refl s).advTo _).modDep _
  rw [hvolts.vLink hs hce l, ← State.startPosCheck_now, ← hgo] at hat
  have hctr : t.ctr l ctrMP = v.ctr l ctrMP := by
    rw [hgo]
    exact State.ctr_of_dep (v.startPosCheck_dep l) ((Spares.refl v).startPosCheck (by decide) l) hv l ctrMP
  exact ⟨hctr.trans (s.dropEnded_ctr l ctrMP), hat⟩

/-- Once ACR has opened, its sequence is done. -/
theorem State.dropEnded_ends (hs : s.regsOk = true) (hq : (s.run l).nrg.seq = some q) (hp : q.phase = .acOpen) :
    let t := (s.dropEnded l ctrACR).seqDropped l ctrACR
    t.ctr l ctrACR = .isOpen ∧ SeqEnded l resDone t := by
  intro t
  let v := s.dropEnded l ctrACR
  have hv : v.regsOk = true := (s.dropEnded_stands (fs := []) l ctrACR).ok hs
  have hseq : (v.run l).nrg.seq = some q := (s.dropEnded_seq l ctrACR).trans hq
  have hgo : t = v.seqEnd l resDone := State.seqDropped_acr hseq hp
  rw [hgo]
  exact ⟨(State.ctr_of_dep (v.seqEnd_dep l resDone) ((Spares.refl v).seqEnd (by decide) l resDone) hv l ctrACR).trans
    (s.dropEnded_ctr l ctrACR), State.seqEnd_ended hv hseq (by decide)⟩

end

/-- Settles O30: each part of an opening or of a weld test from the sequence that it leaves, and what a contactor does from the
openings before and after it, which close none. -/
theorem contactorSequencesOpenAndTestWelds : Obligations.ContactorSequencesOpenAndTestWelds := by
  unfold Obligations.ContactorSequencesOpenAndTestWelds
  refine ⟨?_, ?_, ?_, ?_, ?_, ?_, ?_, ?_, ?_, ?_, ?_, ?_, ?_, ?_⟩
  · intro s l hs hw hm hmode hcfg
    have hv : Spares [] s ((s.taken l 2).clr (laneDie l) R.NRG_STATUS.NEG_UNTESTED) :=
      ((Spares.refl s).taken (by decide) l 2).wr _ _ _ _ _ (by decide)
    obtain ⟨hat, hbusy, hlimit⟩ := State.openMain_begins (l := l) (hv.ok (canonical_regs hs))
    have hnow : ((s.taken l 2).clr (laneDie l) R.NRG_STATUS.NEG_UNTESTED).now = s.now := s.taken_now l 2
    rw [hnow] at hat
    exact leads_of_exec (exec_openMain hw hm hmode hcfg) ⟨hbusy, hat.step, hlimit, hat.seq⟩
  · intro s l q hs hq hp hlow
    have hexec := exec_openCurrentWaitEnd hq hp
    rw [if_neg (by rw [hlow]; exact Bool.false_ne_true)] at hexec
    obtain ⟨hshown, hrose⟩ := State.hotOpen_shown (s := s.advTo (q.since + s.rd (laneDie l) R.NRG_OPEN.T_WAIT * ms)) (l := l)
      (canonical_regs hs)
    exact leads_of_exec hexec ⟨hshown, hrose, State.startMp_now ..⟩
  · intro s l q hs hq hp hlow hc hne hd hen
    have hexec := exec_openCurrentWaitEnd hq hp
    rw [if_pos hlow] at hexec
    obtain ⟨hat, hdrop⟩ := State.startMp_opens (canonical_regs hs) hq (State.ctrServed_of hd hen) hc hne
    exact leads_of_exec hexec ⟨hat.step, hdrop, s.startMp_now l, hat.seq⟩
  · intro s l q hs hq hp hlow hc
    have hexec := exec_openCurrentWaitEnd hq hp
    rw [if_pos hlow] at hexec
    have hat := State.startMp_checks (canonical_regs hs) hq hc
    exact leads_of_exec hexec ⟨hat.step, s.startMp_now l, hat.seq⟩
  · intro s l q hs hq hp hfall
    have hexec := exec_weldCheckEnd_pos hq hp
    rw [if_neg (not_le.2 hfall)] at hexec
    exact leads_of_exec hexec (State.posWelded_shown (canonical_regs hs) l _)
  · intro s l q hs hq hp hfall hc hd hen
    have hexec := exec_weldCheckEnd_pos hq hp
    rw [if_pos hfall] at hexec
    have hstands : Spares [R.NRG_STATUS.WELD, R.DSP_WELD.WELDED] s (s.startMn l) := (Spares.refl s).startMn (by decide) l
    obtain ⟨hat, hdrop⟩ := State.startMn_opens (canonical_regs hs) hq (State.ctrServed_of hd hen) hc
    exact leads_of_exec hexec ⟨hstands.rd (canonical_regs hs) _ _ _ _ (by decide), hstands.rd (canonical_regs hs) _ _ _ _ (by decide),
      hdrop, s.startMn_now l, hat.step, hat.seq⟩
  · intro s l q hs hq hp
    rcases hp with ⟨hp, hv⟩ | hp
    · obtain ⟨hended, huntested, hnow, htested⟩ := State.negUntested_ends (canonical_regs hs) hq
        (q.since + orOne (s.rd (laneDie l) R.NRG_WELD.T_CHK) * 10 * ms)
      have hphase : decide (q.phase = .mnCheck) = false := by rw [hp]; rfl
      refine leads_of_exec (exec_weldCheckEnd_wait hq hp hv) ?_
      rw [hphase, Bool.false_and]
      dsimp only
      rw [Bool.or_false]
      exact ⟨hended.result, hended.busy, hended.seq, fun _ => huntested, fun h => absurd h (by decide),
        fun _ => ⟨hnow, fun ⟨hcmd, hweld⟩ => htested hcmd hweld⟩⟩
    · obtain ⟨hended, hrise, hflat⟩ := State.negChecked_ends (canonical_regs hs) hq
        (decide ((s.rd (laneDie l) R.NRG_WELD.DV * 2 ^ 30 : Int) < s.vLink l - q.v0))
        (q.since + orOne (s.rd (laneDie l) R.NRG_WELD.T_CHK) * 10 * ms)
      refine leads_of_exec (exec_weldCheckEnd_mn hq hp) ?_
      rw [decide_eq_true hp, Bool.true_and, hp]
      exact ⟨hended.result, hended.busy, hended.seq, fun h => absurd h (by decide), hrise,
        fun h => ⟨(hflat h).1, fun ⟨hcmd, hweld⟩ => (hflat h).2 hcmd hweld⟩⟩
  · intro s l hs hw hm hidle hmode hcfg
    refine leads_of_exec (exec_weldTest (canonical_regs hs) hw hm hidle hmode hcfg) ?_
    change if s.mainClosed l = true then _ else _
    split
    · exact ⟨State.cmdRefuse_result (State.wr_regsOk _ _ _ _ _ _ (canonical_regs hs)) (by decide), rfl⟩
    · obtain ⟨hat, hbusy⟩ := State.weldTest_begins (l := l) (canonical_regs hs)
      exact ⟨hbusy, hat.step, hat.seq⟩
  · intro s l hs hw hm hidle hcfg
    refine leads_of_exec (exec_clearWeld (canonical_regs hs) hw hm hidle hcfg) ?_
    split
    · exact State.weldCleared_shown (canonical_regs hs) l
    · exact State.weldKept_shown (canonical_regs hs) l
  · intro s l hs hw hm hmode hcfg hd hen hc
    have hopens := s.taken_onlyOpens l 4
    have htaken := hopens.regs.ok (canonical_regs hs)
    obtain ⟨hat, hbusy, hdrop⟩ := State.openDc_drops htaken
      ((hopens.ctrServed (canonical_regs hs) ..).trans (State.ctrServed_of hd hen)) ((s.taken_ctrClosed (canonical_regs hs) ..).trans hc)
    rw [State.taken_now] at hat
    exact leads_of_exec (exec_openDc hw hm hmode hcfg) ⟨hbusy,
      State.taken_shown (canonical_regs hs) (by decide) ((Spares.refl _).openDc (by decide) l), hdrop, hat.seq⟩
  · intro s l hs hw hm hmode hcfg hd hen hc
    have hopens := s.taken_onlyOpens l 6
    obtain ⟨hbusy, hdrop⟩ := State.openAc_drops (hopens.regs.ok (canonical_regs hs))
      ((hopens.ctrServed (canonical_regs hs) ..).trans (State.ctrServed_of hd hen)) ((s.taken_ctrClosed (canonical_regs hs) ..).trans hc)
    exact leads_of_exec (exec_openAc hw hm hmode hcfg) ⟨hbusy,
      State.taken_shown (canonical_regs hs) (by decide) ((Spares.refl _).openAc (by decide) l), hdrop⟩
  · intro s l hs hw hm hcfg
    have hctr := fun cmd => State.ctr_of_dep (s.taken_dep l cmd) ((Spares.refl s).taken (by decide) l cmd) (canonical_regs hs) l
    refine ⟨fun ⟨hmode, hdcp, hdcn⟩ => ?_, fun ⟨hmode, hacr⟩ => ?_⟩
    · obtain ⟨hresult, hbusy, hseq⟩ := State.openDc_done ((s.taken_onlyOpens l 4).regs.ok (canonical_regs hs)) ((hctr 4 _).trans hdcp)
        ((hctr 4 _).trans hdcn)
      exact leads_of_exec (exec_openDc hw hm hmode hcfg) ⟨hresult, hbusy,
        State.taken_shown (canonical_regs hs) (by decide) ((Spares.refl _).openDc (by decide) l), hseq⟩
    · obtain ⟨hresult, hbusy, hseq⟩ := State.openAc_done ((s.taken_onlyOpens l 6).regs.ok (canonical_regs hs)) ((hctr 6 _).trans hacr)
      exact leads_of_exec (exec_openAc hw hm hmode hcfg) ⟨hresult, hbusy,
        State.taken_shown (canonical_regs hs) (by decide) ((Spares.refl _).openAc (by decide) l), hseq⟩
  · intro s l hs ha hm hd hen hc hi
    obtain ⟨hbusy, hcmd, hdrop, hnow⟩ := State.dcForced_opens (s := s.advTo ((s.run l).nrg.dcHigh.getD s.now + 100 * ms))
      (canonical_regs hs) (State.ctrServed_of (l := l) (c := ctrDCP) hd hen) hc
    exact leads_of_exec (exec_dcOvercurrent ha hm hc hi) ⟨hbusy, hcmd, hdrop, hnow⟩
  · intro s l c hs ha hen hc
    refine leads_of_exec (exec_contactorDropEnd ha hen hc)
      ⟨(s.dropEnded l c).seqDropped_now l c, fun hq => ?_, fun q hq => ⟨fun ⟨hp, hmp⟩ => ?_, fun ⟨hp, hacr⟩ => ?_⟩⟩
    · rw [State.seqDropped_idle ((State.dropEnded_seq ..).trans hq)]
      exact s.dropEnded_ctr l c
    · rw [hmp]
      obtain ⟨hctr, hat⟩ := State.dropEnded_checks (canonical_regs hs) hq hp
      exact ⟨hctr, hat.step, hat.seq⟩
    · rw [hacr]
      obtain ⟨hctr, hended⟩ := State.dropEnded_ends (canonical_regs hs) hq hp
      exact ⟨hctr, hended.result, hended.busy, hended.seq⟩

end Sys2Proof.Machine
end

section
/-!
PROOFS. The converter's setpoints (R286): a state in which the register file holds more of a slot's number than its field.
-/
namespace Sys2Proof.Machine

/-- Lane A runs, and the register file names slot 4096 for the converter's voltage setpoint: more than the field's 5 bits hold, which
the canonical form does not exclude. -/
def slotBeyondField : State :=
  { State.reset.modRun .a fun r => { r with phase := .running } with
    regs := [(R.NRG_HVC_CFG.VSET_SLOT.key .la 0 0, 4096)] }

/-- Refutes O32: with slot 4096 for the voltage and slot 0 for the current, `HVC_SET_WRITE` would have to leave both setpoints in one
entry of the coefficient table, as the two slots share its key. -/
theorem not_converterAndChargerChangeState : ¬ Obligations.ConverterAndChargerChangeState := by
  unfold Obligations.ConverterAndChargerChangeState
  rintro ⟨hset, -⟩
  obtain ⟨t, -, -, -, hvoltage, -, hcurrent⟩ := hset slotBeyondField .a 1 0 (by decide) (by decide)
  have hvslot : slotBeyondField.rd (laneDie .a) R.NRG_HVC_CFG.VSET_SLOT = 4096 := by decide
  have hislot : slotBeyondField.rd (laneDie .a) R.NRG_HVC_CFG.ISET_SLOT = 0 := by decide
  rw [hvslot] at hvoltage hcurrent
  rw [hislot] at hcurrent
  have hone := hvoltage (by decide)
  have hzero := hcurrent (.inr (by decide))
  have hsame : t.rd (laneDie .a) R.CE_Ai_Kj.K 4096 3 = t.rd (laneDie .a) R.CE_Ai_Kj.K 0 3 := rfl
  rw [hsame, hzero] at hone
  exact absurd hone (by decide)

end Sys2Proof.Machine
end
